-- ==== Sys2Proof/Word.lean ====
section
/-!
DEFINITION. Word.lean: the word types of the model and their plainest arithmetic.
Bit vectors stand for what the manual shifts, masks or wraps (bytes, register contents, CRCs);
names, counts, identifiers and addresses are `Nat`, bounded where a rule bounds them.
-/
namespace Sys2Proof

/-- A byte. -/
abbrev Byte := BitVec 8
/-- A 32-bit word. -/
abbrev Word32 := BitVec 32
/-- A 64-bit word: a scalar register of the kernel ISA (R433). -/
abbrev Word64 := BitVec 64
/-- A 512-bit vector register of the kernel ISA (R433). -/
abbrev Vec512 := BitVec 512

/-- A finite table from keys to values, the first entry of a key counting. -/
abbrev Assoc (K V : Type) := List (K × V)

/-- The value a byte string spells, least significant byte first (R19). -/
def leNat : List Byte → Nat
  | [] => 0
  | b :: bs => b.toNat + 256 * leNat bs

/-- The `n` low bytes of `v`, least significant first (R19). -/
def leBytes : Nat → Nat → List Byte
  | 0, _ => []
  | n + 1, v => BitVec.ofNat 8 v :: leBytes n (v / 256)

/-- The field of `w` bits of `v` that begins at bit `lo`. -/
def bits (v lo w : Nat) : Nat := (v / 2 ^ lo) % 2 ^ w

end Sys2Proof
end

