-- ==== Sys2Proof/Config.lean ====
section
/-!
DEFINITION. Config.lean: what is fixed for one part (its fuses, its keys), and the free values: constants
without a body, for what the manual leaves open or what the model treats as uninterpreted cryptography.
-/
namespace Sys2Proof

/-- The four ordering codes of R4. -/
inductive OrderingCode where
  | vsk1024
  | vsk1024S
  | vsk0768
  | vsk0512
deriving DecidableEq, Repr

/-- The checked units of R333: the first nine are checked by residues, the last three by duplication and comparison. -/
inductive CheckedUnit where
  | significandMultiply | exponentAdd | alignmentShift | significandAdd | roundingIncrement
  /-- Integer and address arithmetic: an addition, a subtraction, a multiplication. -/
  | integerAdd | integerSub | integerMul
  | exactAccumulator
  | bitwise | compare | select
deriving DecidableEq, Repr

/-- An SRAM word in error, by the structure of R325 that it lies in. -/
inductive SramWord where
  | pantry (line : Nat)
  | pantryMeta (line : Nat)
  | directory (line way : Nat)
  | region (reg : Nat)
  /-- The context, walk and translation cache entries of a context, on a die. -/
  | cache (die ctx : Nat)
  | tray (core block : Nat)
  | store (core : Nat)
  | replay (port : Nat)
  /-- An entry of a queue or buffer: the request or answer of an EID and a tag, or an access by its numbers as a source and a tag. -/
  | queue (src tag : Nat)
  | slot (slot : Nat)
deriving DecidableEq, Repr

/-- A hardware error: bits of an SRAM word flipped (0 to 63 the word's, 64 to 71 its check bits), or one bit of the result of a checked unit,
with the operands it worked on. -/
inductive Upset where
  | sram (word : SramWord) (flips : List Nat)
  /-- In an engine that runs a thread, at an instruction of a MAJOR (R335). -/
  | lane (core thread major : Nat) (unit : CheckedUnit) (a b : Int) (bit : Nat)
  /-- In an accumulator of a thread. -/
  | accumulator (core thread acc bit : Nat)
  /-- In the atomic unit of a pantry slice, at the ATOMIC of an EID and a tag. -/
  | slice (src tag : Nat) (unit : CheckedUnit) (a b : Int) (bit : Nat)
  /-- In the address and length arithmetic of a recipe front end, at a recipe. -/
  | frontEnd (recipe : Nat) (unit : CheckedUnit) (a b : Int) (bit : Nat)
  /-- In the residue checkers of an engine: its hourly run of test 4 fails (R346). -/
  | engineTest (core : Nat)
  /-- In a channel's loop-back while its stack leaves Deep (R537). -/
  | loopBack (channel : Nat)
  /-- In a retention register of a stack's PHY island: its check fails at the next package warm reset (R585). -/
  | retention (stack : Nat)
  /-- In the larder record, in both boot-store banks: it fails its check at the next cold start (R596). -/
  | larderRecord
  /-- In the boot store: the next block programmed reads back otherwise than it was written (R608). -/
  | flash
  /-- In a copy of the settings record: a byte of it reads otherwise at the next start (R672, R673). -/
  | settings (copyB : Bool) (place value : Nat)
deriving DecidableEq, Repr

namespace Config

/-- DESIGN CHOICE (log 1): the part modelled is a VSK-1024. -/
def orderingCode : OrderingCode := .vsk1024

/-- Fabric ports present (R4). -/
def fabricPorts : Nat := match orderingCode with | .vsk0512 => 24 | _ => 32
/-- Twin ports present (R4). -/
def twinPorts : Nat := match orderingCode with | .vsk1024S => 0 | .vsk0512 => 2 | _ => 4
/-- Cores enabled in each cluster at manufacture (R4). -/
def enabledPerCluster : Nat := match orderingCode with | .vsk0768 => 14 | .vsk0512 => 12 | _ => 16
/-- Cores of a cluster that are not fused off: the enabled and the two spares (R4, R6). -/
def presentPerCluster : Nat := enabledPerCluster + 2
/-- GiB of each DRAM stack (R4). -/
def stackGiB : Nat := match orderingCode with | .vsk0768 => 96 | .vsk0512 => 64 | _ => 128
/-- Rows of each bank (R269). -/
def rowsPerBank : Nat := match orderingCode with | .vsk0768 => 98304 | .vsk0512 => 65536 | _ => 131072
/-- The U8 of 0x1000.01 ORDERING_CODE (R681). -/
def orderingCodeU8 : Nat := match orderingCode with | .vsk1024 => 1 | .vsk1024S => 2 | .vsk0768 => 3 | .vsk0512 => 4

/-- The hardware errors that a tick of the clock meets: a free value (R325, R333; log 82). -/
opaque upsets : Nat → List Upset
/-- A fresh value nothing constrains: the `n`-th of a run (log 3).  Used, at the counter the state holds, for
random draws (challenges, incarnations, nonces) and for every value the manual does not state. -/
opaque freeNat : Nat → Nat
/-- The slice of a line in its die's pantry and directory: the hash of R43 and R241 is not visible to software. -/
opaque sliceHash : Nat → Nat
/-- The bank and set of the region filter a region indexes (R245): not visible to software. -/
opaque regionHash : Nat → Nat
/-- The set of a directory slice a line indexes (R241): not visible to software. -/
opaque setHash : Nat → Nat
/-- The seed of PRBS31 on a port's lane at the FRAME_COUNT wrap (R104): not stated. -/
opaque prbsSeed : Nat → Nat → Nat
/-- Ciphertext of a line under a memory key: AES-256-XTS of R561, left uninterpreted: key, line, data. -/
opaque lineEncrypt : Nat → Nat → List Byte → List Byte
/-- Its inverse. -/
opaque lineDecrypt : Nat → Nat → List Byte → List Byte
/-- The SHA-256 digest of a byte string (R390), left uninterpreted. -/
opaque sha256 : List Byte → List Byte
/-- The SHA-384 digest of a byte string (R458, R552), left uninterpreted. -/
opaque sha384 : List Byte → Nat
/-- Whether an ECDSA P-384 signature over a digest verifies under a public key (R458, R556, R571, R603). -/
opaque ecdsaVerifies : Nat → Nat → Nat → Bool
/-- The ECDSA P-384 signature of the part over a digest, under the key named (R555). -/
opaque ecdsaSign : Nat → Nat → Nat
/-- Whether a value is a valid P-384 point (R683). -/
opaque p384Valid : Nat → Bool
/-- HKDF of R556, R564, R571: a key from a secret and a label. -/
opaque hkdf : Nat → Nat → Nat
/-- AES-256-GCM (R565): ciphertext and tag of a payload under a key, an initialisation vector and associated data. -/
opaque gcmSeal : Nat → Nat → List Byte → List Byte → List Byte
/-- AES-256-GCM: the plaintext, or nothing where the tag fails. -/
opaque gcmOpen : Nat → Nat → List Byte → List Byte → Option (List Byte)
/-- The Alias and DeviceID keys, certificate chain and firmware measurements of the part (R552-R555), as numbers. -/
opaque deviceKey : Nat → Nat
/-- The tag generation a packet was encrypted under, as trying every generation finds it: key, initialisation vector at generation 0,
associated data, payload (R568).  A free value: nothing constrains it. -/
opaque sealedGen : Nat → Nat → List Byte → List Byte → Nat
/-- The public key of a P-384 pair (R552). -/
opaque p384Public : Nat → Nat
/-- SHA-384 of the DeviceID certificate (R570, R575). -/
def deviceDigest : Nat := deviceKey 7 % 2 ^ 384
/-- Fused values of the part: serial, MAC address, fuse image, public-key hash (R681, R603, R682). -/
opaque fuse : Nat → Nat
/-- Whether a peer's certificate chain ends at the Kardel root and its measurements show debug level 0 (R560), by its node EID:
left uninterpreted. -/
opaque peerChainGood : Nat → Bool

end Config
end Sys2Proof
end

