-- ==== Sys2Proof/Machine/Types.lean ====
section
/-!
DEFINITION. Machine/Types.lean: the data that commands carry and the state holds: status codes, packets,
flits, KODP clients and messages, and what leaves the package.
-/
namespace Sys2Proof

/-- The status codes of R23, in the order of their numbers. -/
inductive Status where
  | ok
  | retry
  | poisoned
  | xlateFault
  | rightsFault
  | versionConflict
  | fenced
  | timeout
  | noSpace
  | admissionWait
  | aborted
  | unsupported
  | refusedState
  | integrity
  | keyMissing
deriving DecidableEq, Repr

/-- A Skeleth packet: the fields of the head slot (R153) and the bytes of the slots after it. -/
structure Packet where
  vc     : Nat
  op     : Nat
  dest   : Nat
  src    : Nat
  tag    : Nat
  poison : Bool
  resend : Bool
  enc    : Bool
  rsv    : Nat
  status : Nat
  harg   : Nat
  crc    : Nat
  body   : List Byte
deriving DecidableEq, Repr

/-- The kinds of a flit (R120); 3 is reserved. -/
inductive FlitKind where
  | data
  | control
  | idle
  | reserved
deriving DecidableEq, Repr

/-- A flit (R120): the header fields, 15 slots of 16 bytes, and the CRC as received; `rsv` are its reserved header bits, [27] in bit 0 and
[63:47] above it, and `bad` the logical lanes whose slice of it is marked bad (R105). -/
structure Flit where
  seq      : Nat
  ack      : Nat
  ackValid : Bool
  kind     : FlitKind
  headMap  : Nat
  cont     : Nat
  slots    : List (List Byte)
  crc      : Nat
  rsv      : Nat := 0
  bad      : List Nat := []
deriving DecidableEq, Repr

/-- What a lane's receiver has found since its last lane control block: symbols corrected and codewords not correctable (R99), bits that
differ from PRBS31 on a lane that carries no flit data (R104), and the receive power in 0.01 dBm (R141). -/
structure LaneFec where
  corrected : Nat
  uncorr    : Nat
  prbsBad   : Nat
  power     : Int
deriving DecidableEq, Repr

/-- A lane control block of 320 bytes as it comes (R102), with what the lane's receiver has found since the last one. -/
structure LaneFrame where
  block : List Byte
  fec   : LaneFec
deriving DecidableEq, Repr

/-- The fields of a lane control block (R102). -/
structure Lcb where
  physLane    : Nat
  port        : Nat
  logicalLane : Nat
  linkState   : Nat
  frameCount  : Nat
  txRetired   : Nat
  retireReq   : Nat
  retrainReq  : Bool
  laneRestore : Bool
  txWidth     : Nat
  capGrand    : Bool
  capCompact  : Bool
  capHalf     : Bool
  profile     : Nat
  rxCorrected : Nat
  rxUncorr    : Nat
  stamp       : Nat
  echo        : Nat
  echoHold    : Nat
deriving DecidableEq, Repr

/-- The three transports of KODP (R686 gives their numbers 1, 2, 3). -/
inductive Transport where
  | udp
  | vc7
  | ksl
deriving DecidableEq, Repr

/-- A client of R660: one source address and port, one EID (`addr`), or the board controller; `session` is the
SPDM session the message came in, when it came as a SECURED message. -/
structure Client where
  transport : Transport
  addr      : Nat
  port      : Nat
  session   : Option Nat
deriving DecidableEq, Repr

/-- A KODP request as Baker starts it: who sent it, its REQ_ID (R651) and, on VC7, the TAG of its packets (R657). -/
structure Req where
  client : Client
  id     : Nat
  tag    : Nat
deriving DecidableEq, Repr

/-- A KODP message: the header fields of R651 and the body. -/
structure KMsg where
  version  : Nat
  type     : Nat
  reqId    : Nat
  index    : Nat
  sub      : Nat
  status   : Nat
  bodyLen  : Nat
  reserved : Nat
  body     : List Byte
deriving DecidableEq, Repr

/-- A notification record (R676). -/
structure NotifyRec where
  seq      : Nat
  time     : Nat
  code     : Nat
  unlocked : Bool
  payload  : List Byte
deriving DecidableEq, Repr

/-- What leaves the package, newest first in the state's log `out`. -/
inductive Out where
  /-- A flit on a port's transmit lanes. -/
  | flit (port : Nat) (f : Flit)
  /-- A packet handed to the transmit queue of a DP or TW port. -/
  | packet (port : Nat) (p : Packet)
  /-- A KODP message to a client, in ascending fragments (R654). -/
  | kodp (c : Client) (m : KMsg)
  /-- A KSL status byte (R81). -/
  | kslStatus (st : Status)
  /-- A KSL read frame's LEN and message (R81). -/
  | kslFrame (bytes : List Byte)
  /-- An Ethernet frame's payload on the management lane (R656). -/
  | ethernet (kind : Nat) (bytes : List Byte)
  /-- A tile access, DRAM command or other action inside the package, by number, for a reader of the log. -/
  | dram (stack channel : Nat) (cmd : Nat)
  /-- A lamp frame on a lamp output (R480, R482). -/
  | lamp (lamp frame : Nat)
  /-- The reply of an SPDM exchange (R554). -/
  | spdm (c : Client) (code : Nat) (fields : List Nat)
deriving DecidableEq, Repr

end Sys2Proof
end

