-- ==== Sys2Proof/Machine/Dict.lean ====
section
/-!
DEFINITION. Machine/Dict.lean: the object dictionary's names: every counter an object of the manual names, every
writable value object with its index, type, roles, range and reset value, and every writable table.
-/
namespace Sys2Proof

/-- The counters.  A counter is kept per unit: a port index, a die, a channel, a slot and class, as its object says. -/
inductive Ctr where
  -- 0x1100 (R62, R65, R81), unit 0
  | stepAckMissing | stepAckUnsolicited | stepAckStuck | kslNotifyDrops | warmresetShort
  -- 0x1120, per rail; 0x1130, per laser input
  | railDroops | laserSwitchovers
  -- 0x1212 LINK_COUNTERS, per port index (R141)
  | crcErrors | naksSent | naksReceived | naksIgnored | replays | replayedFlits | duplicates | staleAcks
  | windowStallNs | compactLostFlits | creditSyncSlots
  | retrains | laneRetirements | trainFailures | protocolErrors | badLcbs | reservedRecords | downDiscards
  -- events ignored and counted (R115), per port
  | portEventsIgnored
  -- 0x1300.09 and 0x1320 TRANSACTION_COUNTERS, per port index (R186)
  | unroutable | misdirected | malformed | unattachedSource | eidRange | e2eFailures | e2eNaksSent | e2eNaksReceived
  | resendsReceived | resendsDroppedInFlight | ledgerReplays | resendMismatches | tagReuse | unpairedData
  | pairingTimeouts | poolResends | poolTimeouts | discardedResponses | announcesIgnored
  -- 0x1400.05, unit 0; 0x1411, per slot
  | partnerEventsIgnored | unqueuedFaults | slotUnattached
  -- 0x1430, per context
  | faultsRecorded | fqOverflow
  -- 0x1440 TRANSLATION_COUNTERS, per die (R232)
  | xlLookups | xlHits | xlCtxMisses | xlWalkHits | xlWalks | xlWalkReads | xlRuns | xlEvictions | xlSettles
  | xlMismatches | xlInvalidations
  -- 0x1511 COHERENCE_COUNTERS, per die (R267)
  | snoopsInv | snoopsDown | crossed | lateSnoopResponses | sharedSnoopData | badSnoopStates | recallTimeouts
  | linesPoisonedByRecall | capacityRecalls | aliasRecalls | regionRecalls | staleEvictions | wrongStateWritebacks
  | holderRerequests | parks | losses | agedEntries | stashesSent | stashDropped | stashDeclined | publishCommits
  | versionConflicts
  -- 0x1610 CHANNEL_STATUS, per channel 32 × stack + channel (R316)
  | chReads | chWrites | chPostponed | chPanicNs | chPanicCapped | chTimeouts | chRetrains
  -- 0x1620 SLEDS, per sled
  | sledReads | sledWrites | sledRefills | sledPoisoned | sledFenced | sledFailedFills
  -- 0x1621 DEEP_CACHE_STATUS, per cluster
  | deepHits | deepMisses | deepEvictions | deepWritebacks | deepParks | deepRetries
  -- 0x1710 DRAM_ERROR_COUNTERS, per channel; per symbol at channel × 36 + symbol (R350)
  | corrected | uncorrectable | twinRepairs | frameRefills | linesPoisoned | tenantMismatch | scrubCorrections
  | symbolCorrected
  -- 0x1711, per structure × 2 + die; 0x1712 RESIDUE_COUNTERS, per unit; LOG_OVERWRITES
  | sramCorrected | sramUncorrectable | residueMismatches | residueReruns | residueIntegrity | logOverwrites
  -- 0x1730 TENANT_ERRORS, per tenant (poison by cause at tenant × 9 + row)
  | tenantPoison | tenantPoisoned | tenantIntegrity | tenantMismatchByTenant
  -- 0x1810 RECIPE_COUNTERS, per die × 16 + code (R395)
  | rcAccepted | rcRefused | rcOk | rcPoisoned | rcFailed | rcAborted | rcTimeout | rcTiles | rcReruns
  | rcAdmissionWaits
  -- 0x1811 TILE_QUEUES, per cluster
  | tqRun | stealCoreTaken | stealCoreGiven | stealDieTaken | stealDieGiven | stealBridgeTaken | stealBridgeGiven
  -- 0x1910 NUMERIC_COUNTERS, per die (R425)
  | exactReadouts | nonfinite | saturations | nanToInteger | carrySaturated | mxFf | fastRecipes
  | stochasticRoundings | tinyProducts
  -- 0x1A30 KERNEL_COUNTERS, per die; exceptions at die × 16 + CAUSE (R460)
  | ktTiles | ktReruns | ktThreads | ktInstrs | ktTextLoads | ktWatchdogs | ktCoreTimeouts | ktExceptions
  -- 0x1B22 TWIN_COUNTERS, unit 0 (R499)
  | twLines | twStates | twRsLines | twAcks | twTakeovers | twFences | twHandbacks | twHandbacksAbandoned
  | twFullResyncs | twDeltaResyncs | twStandbyLosses | twRepairsAsked | twRepairsServed | twRepairsFailed
  | twBadLampFrames | twLowLampFrames | twEventsIgnored
  -- 0x1C21 TRAFFIC_COUNTERS, per slot × 8 + class (R519)
  | tfGreen | tfYellow | tfHeld | tfLeftHold | tfRetrySlots | tfRetryShare | tfRetryLimit | tfPolicedReleases
  | tfSentGreen | tfSentYellow | tfOverrides
  -- 0x1D12 POWER_COUNTERS, per die; 0x1D10 per unit × 4 + state (R546)
  | pwGrants | pwPartial | pwQueued | pwQueueNs | pwRenewals | pwBallast | pwAnnounced | pwNapWaits | pwThrottleNs
  | puEntries | puAborts | puWakes | puStateNs
  -- 0x1E13 SECURITY_COUNTERS, per die (R576)
  | tagFailures | missingEnc | keyMissing | sessionsOpened | sessionsRefused | tokensAccepted | tokensRefused
  -- 0x1F12 UNIT_EPOCHS, per unit key (R599)
  | unitResets | staleEpoch
  -- 0x0032 KODP_COUNTERS, per transport number (R682)
  | kReceived | kReplies | kMalformed | kReasmTimeouts | kRetries | kRights | kDuplicates | kSecureFailures
  | kDiscardedFrames | kAddressConflicts | kPeerMismatches | kNotifySent | kNotifyDropped
  -- 0x2100.07; 0x2110 per die; 0x2130 per row × 65536 + unit; 0x2133 per fabric port (R646)
  | notifyDrops | timeSteps | timeFaults | holdoverNs | timeoutExpiries | observeSlots | observeWaitNs
deriving DecidableEq, Repr

/-- Whether a counter is a U32, which saturates; the others are U64 and count modulo 2⁶⁴ (R625). -/
def Ctr.isU32 : Ctr → Bool
  | .stepAckMissing | .stepAckUnsolicited | .stepAckStuck | .kslNotifyDrops | .warmresetShort | .railDroops
  | .laserSwitchovers | .retrains | .laneRetirements | .trainFailures | .protocolErrors | .badLcbs | .reservedRecords
  | .downDiscards | .chPanicCapped | .chTimeouts | .chRetrains | .unitResets | .timeSteps | .timeFaults
  | .symbolCorrected => true
  | _ => false

/-- The value objects a client may write (RW and RWS), by name. -/
inductive Obj where
  | clientLease | mgmtIpv6 | mgmtIpv6Prefix | mgmtIpv6Router | mgmtIpv4 | mgmtIpv4Prefix | mgmtIpv4Router
  | gpioDir | gpioOut
  | linkEscalationWindow
  | nodeEid | serviceEid | pairingTimeout | poolResendInterval | timeRoot
  | contextTableBase | attachPolicy | genSettle | managerFqBase
  | exclusiveGrant | ageThreshold
  | deepCacheUnits | dirtyAge | panicOn | panicOff
  | scrubPeriod | scrubEnable | ceNotifyThreshold | rowRepairThreshold
  | stealCore | stealDie | stealBridge | admissionLimit | sugarMinTiles | recipeEnable
  | fastPolicy | e4m3Overflow
  | signerPolicy
  | twinEnable | homePreference | resyncMode | resyncRate | quiesceWait
  | weightCoherent | weightNearmem | weightManage | rtPortPir | rtPortPbs | holdSlots | holdLimit | egressBacklog
  | policingEnable | weightRealtime
  | idleTimer | clusterDeepest | stackDeepest | rtHold | ballastHold | defaultHorizon | freqCap | sustainedLimit
  | serviceMode | sledSpareWarn
  | ownerLock
  | observeCap
deriving DecidableEq, Repr

/-- What the dictionary says of a value object: its index and subindex, its size in bytes, the roles that may use it
as the bits of MY_ROLES (R682), whether it is written only in service state (RWS, R650), whether it is stored
(R672), its range and its reset value. -/
structure ObjInfo where
  index  : Nat
  sub    : Nat
  size   : Nat
  roles  : Nat
  rws    : Bool
  stored : Bool
  lo     : Nat
  hi     : Nat
  reset  : Nat
deriving DecidableEq, Repr

/-- The roles of MY_ROLES as bits (R682): Operator 1, Pool-manager 2, Tenant 4, Debug 8, Peer 16. -/
def roleOp : Nat := 1
/-- Pool-manager. -/
def rolePm : Nat := 2
/-- Tenant. -/
def roleTenant : Nat := 4
/-- Debug. -/
def roleDebug : Nat := 8
/-- Peer. -/
def rolePeer : Nat := 16

/-- The descriptor of each value object, from the object tables of the chapters. -/
def Obj.info : Obj → ObjInfo
  | .clientLease => ⟨0x0000, 0x05, 4, 1, false, false, 10, 3600, 60⟩
  | .mgmtIpv6 => ⟨0x0005, 0x02, 16, 1, false, true, 0, 2 ^ 128 - 1, 0⟩
  | .mgmtIpv6Prefix => ⟨0x0005, 0x03, 1, 1, false, true, 1, 128, 64⟩
  | .mgmtIpv6Router => ⟨0x0005, 0x04, 16, 1, false, true, 0, 2 ^ 128 - 1, 0⟩
  | .mgmtIpv4 => ⟨0x0005, 0x05, 4, 1, false, true, 0, 2 ^ 32 - 1, 0⟩
  | .mgmtIpv4Prefix => ⟨0x0005, 0x06, 1, 1, false, true, 8, 30, 16⟩
  | .mgmtIpv4Router => ⟨0x0005, 0x07, 4, 1, false, true, 0, 2 ^ 32 - 1, 0⟩
  | .gpioDir => ⟨0x1100, 0x04, 1, 1, false, false, 0, 15, 0⟩
  | .gpioOut => ⟨0x1100, 0x05, 1, 1, false, false, 0, 15, 0⟩
  | .linkEscalationWindow => ⟨0x1200, 0x01, 4, 1, false, false, 1000, 600000, 10000⟩
  | .nodeEid => ⟨0x1300, 0x01, 4, 1, false, true, 1, 0x3FEFF, 0⟩
  | .serviceEid => ⟨0x1300, 0x02, 4, 1, false, true, 1, 0x3FEFF, 0⟩
  | .pairingTimeout => ⟨0x1300, 0x03, 4, 1, false, false, 10, 1000, 300⟩
  | .poolResendInterval => ⟨0x1300, 0x04, 4, 1, false, false, 20, 1000, 100⟩
  | .timeRoot => ⟨0x1300, 0x05, 1, 1, false, false, 0, 1, 0⟩
  | .contextTableBase => ⟨0x1400, 0x01, 8, 2, false, false, 0, 2 ^ 52 - 1, 0⟩
  | .attachPolicy => ⟨0x1400, 0x02, 1, 1, false, false, 0, 1, 1⟩
  | .genSettle => ⟨0x1400, 0x03, 4, 2, false, false, 0, 1000, 20⟩
  | .managerFqBase => ⟨0x1400, 0x06, 8, 2, false, false, 0, 2 ^ 52 - 1, 0⟩
  | .exclusiveGrant => ⟨0x1500, 0x01, 1, 2, false, false, 0, 1, 1⟩
  | .ageThreshold => ⟨0x1500, 0x02, 1, 1, false, false, 4, 64, 16⟩
  | .deepCacheUnits => ⟨0x1600, 0x01, 1, 1, true, true, 0, 255, 0⟩
  | .dirtyAge => ⟨0x1600, 0x03, 4, 2, false, false, 0, 10000, 100⟩
  | .panicOn => ⟨0x1600, 0x04, 1, 1, false, false, 2, 32, 8⟩
  | .panicOff => ⟨0x1600, 0x05, 1, 1, false, false, 0, 31, 2⟩
  | .scrubPeriod => ⟨0x1700, 0x01, 2, 1, false, false, 1, 168, 24⟩
  | .scrubEnable => ⟨0x1700, 0x02, 1, 1, false, false, 0, 1, 1⟩
  | .ceNotifyThreshold => ⟨0x1700, 0x03, 4, 1, false, false, 1, 1000000, 1000⟩
  | .rowRepairThreshold => ⟨0x1700, 0x04, 1, 1, false, false, 1, 16, 2⟩
  | .stealCore => ⟨0x1800, 0x01, 1, 1, false, false, 1, 2, 2⟩
  | .stealDie => ⟨0x1800, 0x02, 2, 1, false, false, 1, 1024, 4⟩
  | .stealBridge => ⟨0x1800, 0x03, 2, 1, false, false, 1, 1024, 16⟩
  | .admissionLimit => ⟨0x1800, 0x04, 4, 1, false, false, 1, 60000, 1000⟩
  | .sugarMinTiles => ⟨0x1800, 0x05, 4, 1, false, false, 1, 16777216, 64⟩
  | .recipeEnable => ⟨0x1800, 0x06, 2, 1, false, false, 0, 0x3FFE, 0x3FFE⟩
  | .fastPolicy => ⟨0x1900, 0x01, 1, 1, false, false, 0, 2, 0⟩
  | .e4m3Overflow => ⟨0x1900, 0x02, 1, 1, false, false, 0, 1, 0⟩
  | .signerPolicy => ⟨0x1A00, 0x01, 1, 1, false, false, 0, 2, 0⟩
  | .twinEnable => ⟨0x1B00, 0x01, 1, 1, false, true, 0, 1, 0⟩
  | .homePreference => ⟨0x1B00, 0x02, 1, 3, false, false, 0, 1, 0⟩
  | .resyncMode => ⟨0x1B00, 0x03, 1, 3, false, false, 0, 1, 0⟩
  | .resyncRate => ⟨0x1B00, 0x04, 2, 3, false, false, 20, 600, 180⟩
  | .quiesceWait => ⟨0x1B00, 0x05, 4, 2, false, false, 1, 1000, 50⟩
  | .weightCoherent => ⟨0x1C00, 0x02, 1, 1, false, false, 1, 255, 6⟩
  | .weightNearmem => ⟨0x1C00, 0x03, 1, 1, false, false, 1, 255, 3⟩
  | .weightManage => ⟨0x1C00, 0x04, 1, 1, false, false, 1, 255, 1⟩
  | .rtPortPir => ⟨0x1C00, 0x05, 4, 1, false, false, 32, 2 ^ 32 - 1, 7500⟩
  | .rtPortPbs => ⟨0x1C00, 0x06, 4, 1, false, false, 32, 2 ^ 32 - 1, 15000⟩
  | .holdSlots => ⟨0x1C00, 0x07, 2, 1, false, false, 32, 512, 256⟩
  | .holdLimit => ⟨0x1C00, 0x08, 4, 1, false, false, 5, 1000, 50⟩
  | .egressBacklog => ⟨0x1C00, 0x09, 2, 1, false, false, 64, 4096, 1024⟩
  | .policingEnable => ⟨0x1C00, 0x10, 1, 1, false, false, 0, 1, 1⟩
  | .weightRealtime => ⟨0x1C00, 0x11, 1, 1, false, false, 1, 255, 4⟩
  | .idleTimer => ⟨0x1D00, 0x01, 4, 1, false, false, 100, 1000000, 5000⟩
  | .clusterDeepest => ⟨0x1D00, 0x02, 1, 1, false, false, 0, 3, 3⟩
  | .stackDeepest => ⟨0x1D00, 0x03, 1, 1, false, false, 0, 3, 2⟩
  | .rtHold => ⟨0x1D00, 0x04, 4, 1, false, false, 0, 1000000, 10000⟩
  | .ballastHold => ⟨0x1D00, 0x05, 4, 1, false, false, 0, 1000, 50⟩
  | .defaultHorizon => ⟨0x1D00, 0x06, 4, 1, false, false, 10, 1000000, 100⟩
  | .freqCap => ⟨0x1D00, 0x0B, 2, 1, false, false, 800, 2000, 1800⟩
  | .sustainedLimit => ⟨0x1D00, 0x0C, 2, 1, false, false, 400, 1300, 1300⟩
  | .serviceMode => ⟨0x1F00, 0x04, 1, 1, false, false, 0, 1, 0⟩
  | .sledSpareWarn => ⟨0x1F00, 0x05, 1, 1, false, false, 1, 50, 5⟩
  | .ownerLock => ⟨0x2000, 0x06, 1, 2, false, false, 0, 1, 0⟩
  | .observeCap => ⟨0x2100, 0x05, 1, 1, false, false, 1, 3, 3⟩

/-- Every value object a client may write. -/
def allObjs : List Obj :=
  [.clientLease, .mgmtIpv6, .mgmtIpv6Prefix, .mgmtIpv6Router, .mgmtIpv4, .mgmtIpv4Prefix, .mgmtIpv4Router, .gpioDir, .gpioOut,
   .linkEscalationWindow, .nodeEid, .serviceEid, .pairingTimeout, .poolResendInterval, .timeRoot, .contextTableBase, .attachPolicy,
   .genSettle, .managerFqBase, .exclusiveGrant, .ageThreshold, .deepCacheUnits, .dirtyAge, .panicOn, .panicOff, .scrubPeriod, .scrubEnable,
   .ceNotifyThreshold, .rowRepairThreshold]
  ++ [.stealCore, .stealDie, .stealBridge, .admissionLimit, .sugarMinTiles, .recipeEnable, .fastPolicy, .e4m3Overflow, .signerPolicy,
   .twinEnable, .homePreference, .resyncMode, .resyncRate, .quiesceWait, .weightCoherent, .weightNearmem, .weightManage, .rtPortPir,
   .rtPortPbs, .holdSlots, .holdLimit, .egressBacklog, .policingEnable, .weightRealtime, .idleTimer, .clusterDeepest, .stackDeepest,
   .rtHold, .ballastHold, .defaultHorizon, .freqCap, .sustainedLimit, .serviceMode, .sledSpareWarn, .ownerLock, .observeCap]

/-- The tables a client may change. -/
inductive TableId where
  | operatorKeys
  | poolManagerKeys
  | portConfig
  | eidRoutes
  | partnerGrants
  | trafficProfiles
  | trafficAssign
  | partitions
deriving DecidableEq, Repr

/-- Index, number of key fields, roles, stored or not, and the row limit of a writable table. -/
structure TableInfo where
  index  : Nat
  keys   : Nat
  roles  : Nat
  stored : Bool
  limit  : Nat
deriving DecidableEq, Repr

/-- The descriptors of the writable tables (R142, R187, R232, R519, R599, R682). -/
def TableId.info : TableId → TableInfo
  | .operatorKeys => ⟨0x0020, 1, 1, true, 8⟩
  | .poolManagerKeys => ⟨0x0021, 1, 1, true, 8⟩
  | .portConfig => ⟨0x1210, 1, 3, false, 40⟩
  | .eidRoutes => ⟨0x1310, 2, 3, false, 2 ^ 32⟩
  | .partnerGrants => ⟨0x1410, 1, 2, false, 16384⟩
  | .trafficProfiles => ⟨0x1C10, 1, 2, false, 64⟩
  | .trafficAssign => ⟨0x1C11, 1, 2, false, 16384⟩
  | .partitions => ⟨0x1F13, 1, 1, false, 8⟩

/-- A row of a writable table: its fields in the order of its object, a variable list of identifiers last. -/
structure Row where
  fields : List Nat
deriving DecidableEq, Repr

end Sys2Proof
end

