-- ==== Sys2Proof/Machine/StatePackage.lean ====
section
/-!
DEFINITION. Machine/StatePackage.lean: the state of the package's pins, rails, sensors and laser inputs (R54 to R91).
-/
namespace Sys2Proof.Machine

/-- The phases of the turnover pins (R74); `strap` is also the time while PORESET_N is low. -/
inductive Phase where
  | strap
  | boot
  | run
  | debug
deriving DecidableEq, Repr

/-- Why the package stands stopped until PORESET_N (R57, R67, R90). -/
inductive StopCause where
  | brownOut
  | refclkLoss
  | thermTrip
deriving DecidableEq, Repr

/-- The six rails of R55, in the numbering of R686. -/
inductive Rail where
  | vddCore
  | vddSram
  | vddq
  | vpp
  | vddOpt
  | vddAux
deriving DecidableEq, Repr

/-- The kinds of thermal sensor (0x1110): the location numbers 0 to 3. -/
inductive SensorKind where
  | cluster
  | fabric
  | stack
  | optical
deriving DecidableEq, Repr

/-- One thermal sensor (R89): its last reading in m°C, its level, the 100 µs samples it has been at or above its Critical
threshold, and those it has been 5 °C below its Warning and its Critical threshold. -/
structure Sensor where
  milliC : Int
  level  : Nat
  above  : Nat
  belowWarn : Nat
  belowCrit : Nat
deriving DecidableEq, Repr

/-- A load step announced on TP4 or waiting for it (R61, R62): the grant it is for, as its kind's number and its key, 9 standing
for the fall of the ballast, and the die whose admission unit announces it. -/
structure LoadStep where
  kind      : Nat
  key       : Nat
  die       : Nat
  milliAmps : Nat
  rising    : Bool
  started   : Bool
deriving DecidableEq, Repr

/-- What a turnover pin is in the package's phase (R68, R75). -/
inductive PinFn where
  /-- The Varisk gives the pin no function and does not drive it. -/
  | hiZ
  /-- A strap, at its bit of STRAP_VALUES (R71). -/
  | strap (bit : Nat)
  /-- TP5 in the boot phase. -/
  | ignored
  | kslCk | kslDq
  | bootOk | alertN
  | thermtripN
  | stepReq | stepAck
  | holdupOk
  | faultN
  /-- A bit of the status code (R78). -/
  | status (bit : Nat)
  /-- The test access port of the debug phase (R75). -/
  | tck | tms | tdi | tdo | trstN
  /-- A general-purpose pin. -/
  | gp (n : Nat)
deriving DecidableEq, Repr

/-- What the Varisk drives on a pin: nothing, a level, or bits of another rule: the answer of a KSL frame (R80), the data a test
port shifts out (R75). -/
inductive PinDrive where
  | floats
  | low
  | high
  | ksl
  | tap
deriving DecidableEq, Repr

/-- The package's pins, straps, rails, sensors and lasers. -/
structure PackageState where
  /-- PORESET_N is low. -/
  poresetLow  : Bool
  /-- WARMRESET_N is low and its 10 µs are being counted (R65). -/
  warmQual    : Bool
  phase       : Phase
  stopped     : Option StopCause
  /-- REFCLK is running. -/
  refclk      : Bool
  /-- TP3 (THERMTRIP_N) is asserted. -/
  thermTrip   : Bool
  /-- TP7 (FAULT_N) is asserted while it is driven (R77). -/
  fault       : Bool
  /-- STRAP_VALUES of R71. -/
  straps      : Nat
  /-- STRAP_FAULT has been notified since the straps were latched (R72). -/
  strapNoted  : Bool
  /-- Levels on GP0 to GP3 as inputs (R91; log 5). -/
  gpIn        : Nat
  /-- TP2 and the status code on TP8 to TP11 as they stood when a management reheat began: they hold those values (R74). -/
  heldPins    : Option (Bool × Nat)
  /-- TP4 (POWER_STEP_REQ). -/
  tp4         : Bool
  /-- TP5 (POWER_STEP_ACK) as last seen. -/
  tp5         : Bool
  /-- TP5 stayed high after TP4 fell: no new handshake (R62). -/
  ackStuck    : Bool
  step        : Option LoadStep
  /-- The steps held while TP4 is high, oldest first (R62). -/
  stepHeld    : List LoadStep
  /-- HOLDUP_STATE, the last TP6 sample and how many equal samples have come (R79). -/
  holdup      : Bool
  holdupLast  : Bool
  holdupRun   : Nat
  /-- TP1 is released: the Varisk did not drive the answer of the last frame (R81). -/
  kslReleased : Bool
  /-- Bring-up is held for an early debug token (R73). -/
  debugHold   : Bool
  /-- Voltage in mV and current in mA of each rail. -/
  railMv      : Assoc Rail Nat
  railMa    : Assoc Rail Nat
  sensors     : Assoc (SensorKind × Nat) Sensor
  /-- Power of each laser input (engine, input) in 0.01 dBm (R85, R86). -/
  lasers      : Assoc (Nat × Nat) Int
  /-- The input each engine feeds from, and the engines dark for want of light. -/
  feeding     : Assoc Nat Nat
  darkEngines : List Nat
deriving DecidableEq, Repr

/-- Power-on: PORESET_N low, nothing latched.  The straps (no value given) start at 0, every sensor and laser input at
the reading the model names (log 5). -/
def PackageState.reset : PackageState :=
  { poresetLow := true, warmQual := false, phase := .strap, stopped := none, refclk := true, thermTrip := false
    fault := false, straps := 0, strapNoted := false, gpIn := 0, heldPins := none, tp4 := false, tp5 := false, ackStuck := false, step := none, stepHeld := []
    holdup := false, holdupLast := false, holdupRun := 0, kslReleased := true, debugHold := false
    railMv := [], railMa := [], sensors := [], lasers := [], feeding := [], darkEngines := [] }

end Sys2Proof.Machine
end

