-- ==== Sys2Proof/Machine/StatePower.lean ====
section
/-!
DEFINITION. Machine/StatePower.lean: budget, grants, power states, calendar, jobs (R521 to R547).
A unit is 0 to 15 a cluster, 16 to 23 a stack (0x1D10).
-/
namespace Sys2Proof.Machine

/-- The kinds of sugar request (R524). -/
inductive SugarKind where
  | compute
  | streaming
  | wake
  | boost
  | renewal
deriving DecidableEq, Repr

/-- A sugar request or grant (R524 to R527, 0x1D11).  Power in mW, current in mA, times in ns.  `key` is the recipe's id, or
the cluster. -/
structure Sugar where
  kind      : SugarKind
  key       : Nat
  die       : Nat
  requested : Nat
  granted   : Nat
  duration  : Nat
  unitMw    : Nat
  coreMa    : Nat
  /-- Core current reached in the ramp (R527). -/
  reached   : Nat
  rt        : Bool
  askedAt   : Nat
  start     : Nat
  stop      : Nat
deriving DecidableEq, Repr

/-- The power states of a unit (R530). -/
inductive PowerSt where
  | run
  | nap
  | doze
  | deep
deriving DecidableEq, Repr

/-- What a unit is in the course of (R535 to R537). -/
inductive UnitMove where
  | none
  | entering (target : PowerSt)
  /-- A wake that arrived after the last abort point: it runs when the entry is complete (R534). -/
  | enteringWake (target : PowerSt)
  | waking
  /-- A Nap wake held for the current allowance of R529. -/
  | napHeld
deriving DecidableEq, Repr

/-- A cluster's or stack's power state. -/
structure PowerUnit where
  st      : PowerSt
  move    : UnitMove
  freq    : Nat
  cap     : Nat
  /-- The calendar event that woke it, to be performed (R534). -/
  event   : Bool
  /-- End of the quiet hint that names it; 0 for none (R533). -/
  quiet   : Nat
  /-- Global time at which it last served an RT request (R532), and of its last change of state. -/
  rtAt    : Nat
  changedAt : Nat
  /-- A stack in Nap or Doze: its refresh entry in the calendar, 0 for none (R282, R533). -/
  refreshAt : Nat
deriving DecidableEq, Repr

/-- A unit in Run at 1.8 GHz. -/
def PowerUnit.reset : PowerUnit :=
  { st := .run, move := .none, freq := 1800, cap := 1800, event := false, quiet := 0, rtAt := 0, changedAt := 0, refreshAt := 0 }

/-- A job-step timer (R533). -/
structure StepTimer where
  job    : Nat
  first  : Nat
  period : Nat
  lead   : Nat
  units  : List Nat
deriving DecidableEq, Repr

/-- A job open or closed (R544). -/
structure EnergyJob where
  job      : Nat
  tenant   : Nat
  openAt   : Nat
  openMj   : Nat
  closeAt  : Nat
  closeMj  : Nat
deriving DecidableEq, Repr

/-- The governor, the admission units, the units' power states and energy. -/
structure PowerState where
  /-- Peak reserve (R521) and ENERGY_TOTAL (R543) in nJ, so that 10 µs steps of a power in mW add exactly. -/
  reserveNj : Nat
  energyNj  : Nat
  /-- Last 10 µs powers, newest first, for the 1 ms average, in mW. -/
  samples   : List Nat
  throttle  : Nat
  /-- Base committed power in mW (R523). -/
  baseMw    : Nat
  grants    : List Sugar
  queue     : List Sugar
  /-- The die whose queued request was granted last against one of the other die (R35, R525). -/
  dieTurn   : Nat
  /-- Ballast held: since when, and how many mA, oldest first; and ballast ramping down, in mA (R528). -/
  ballast   : List (Nat × Nat)
  ballastDown : Nat
  /-- The fall of the ballast ramping down was announced on TP4. -/
  ballastTp4 : Bool
  /-- Consecutive 100 µs ticks below the leave threshold of state 1 (R540). -/
  calmTicks : Nat
  capTicks  : Nat
  /-- Ticks between two steps of the caps upward: 10 after state 1, 100 after states 2 and 3 (R540). -/
  capRaise  : Nat
  /-- Unannounced current drawn in this µs, in mA (R529). -/
  napUsed   : Nat
  /-- The unannounced changes of core current of the last 10 µs: when, and how many mA (R527). -/
  quietSteps : List (Nat × Nat)
  units     : Assoc Nat PowerUnit
  /-- Requests held at a sleeping unit's crossing (R36). -/
  heldAt    : Assoc Nat Nat
  timers    : List StepTimer
  jobs      : List EnergyJob
  /-- ENERGY_TOTAL at recent 100 ms boundaries, newest first (R545), and throttle states of the present and last ms. -/
  energyAt  : List (Nat × Nat)
  throttleMs : Nat
  throttleMsNo : Nat
  throttleLast : Nat
deriving DecidableEq, Repr

/-- Peak reserve full (100,000 mJ), energy 0, throttle 0, every unit in Run (R530, R546). -/
def PowerState.reset : PowerState :=
  { reserveNj := 100000000000, energyNj := 0, samples := [], throttle := 0, baseMw := 0, grants := [], queue := [], dieTurn := 1, ballast := [], ballastDown := 0, ballastTp4 := false, calmTicks := 0, capTicks := 0, capRaise := 10, napUsed := 0, quietSteps := [], units := []
    heldAt := [], timers := [], jobs := [], energyAt := [], throttleMs := 0, throttleMsNo := 0, throttleLast := 0 }

end Sys2Proof.Machine
end

