-- ==== Sys2Proof/Syntax.lean ====
section
/-!
DEFINITION. Syntax.lean: the commands of the block, one constructor per row of the opcode table, in its order, with the
operands the command's rule gives it.  A packet row carries the port the packet came in on and the packet; a KODP command
row carries who asked (`Req`) and the arguments of its object; an instruction of the kernel ISA carries the core, the
thread and its fields (R437).
-/
namespace Sys2Proof

/-- The commands. -/
inductive Instr where
  /-- PORESET_ASSERT (R64): PORESET_N driven low resets the whole package, including the time island, and enters the strap phase. -/
  | poresetAssert
  /-- STRAP_SAMPLE (R71): About 2 ms after PORESET_N release the straps are sampled three times and latched by majority, and the boot phase begins. -/
  | strapSample (s1 s2 s3 : Nat)
  /-- WARMRESET_ASSERT (R65): A WARMRESET_N low level passes the glitch filter and starts the 10 µs qualification, unless it is ignored. -/
  | warmresetAssert
  /-- WARMRESET_SHORT (R65): WARMRESET_N is released before 10 µs; the pulse is counted and starts nothing. -/
  | warmresetShort
  /-- WARMRESET_START (R583): After 10 µs of qualified low, the package warm reset runs its entry steps on the reheat path. -/
  | warmresetStart
  /-- BROWN_OUT (R57): A rail crosses its brown-out trip; the time island stops the package and darkens every transmitter. -/
  | brownOut (rail : Machine.Rail)
  /-- REFCLK_LOSS (R67): No REFCLK edge is seen for 2 µs, and the package stops as under R57. -/
  | refclkLoss
  /-- THERMAL_SAMPLE (R89): Every 100 µs the sensors are read, and thermal levels are entered or left with their actions. -/
  | thermalSample (readings : List (Machine.SensorKind × Nat × Int))
  /-- THERMTRIP (R90): The time-island comparator sees a trip temperature, asserts THERMTRIP_N and stops the package. -/
  | thermtrip (kind : Machine.SensorKind) (idx : Nat)
  /-- POWER_STEP_ACK (R61): TP5 changes level and is taken as acknowledgement, release or an unsolicited edge of the load-step handshake. -/
  | powerStepAck (level : Bool)
  /-- POWER_STEP_START (R61): 2.0 µs after TP4 rose, with TP5 high, the announced current step starts at no more than 40 A/µs. -/
  | powerStepStart
  /-- STEP_ACK_MISSING (R62): TP5 is still low 10 µs after TP4 rose; the step is applied in parts of at most 60 A and counted. -/
  | stepAckMissing
  /-- STEP_ACK_STUCK (R62): TP5 stays high more than 2 µs after TP4 fell; it is counted and new handshakes wait. -/
  | stepAckStuck
  /-- HOLDUP_SAMPLE (R79): TP6 is sampled every 100 µs, and a value held for three samples is accepted. -/
  | holdupSample (level : Bool)
  /-- KSL_WRITE_FRAME (R81): A KSL write frame addressed to the package is received and answered with a status byte. -/
  | kslWriteFrame (addr len : Nat) (msg : List Byte) (crc : Nat)
  /-- KSL_READ_FRAME (R81): A KSL read frame returns the next queued message, or LEN 0. -/
  | kslReadFrame (addr : Nat)
  /-- KSL_FRAME_TIMEOUT (R81): KSL_CK is stuck for more than 100 µs inside a frame; the frame is discarded and TP1 released. -/
  | kslFrameTimeout
  /-- DEBUG_HOLD_TIMEOUT (R73): With DEBUG_REQ set, 30 s pass without a debug token, and bring-up continues. -/
  | debugHoldTimeout
  /-- BAKER_BOOT_COMPLETE (R74): Baker finishes its boot; TP2 is driven high and the run phase begins. -/
  | bakerBootComplete
  /-- LASER_INPUT_LOW (R85): The feeding laser input stays below 17.0 dBm for 10 µs, and the engine switches to its spare input. -/
  | laserInputLow (engine : Nat)
  /-- LASER_INPUTS_DARK (R86): Both laser inputs of an engine are below 17.0 dBm; its transmitters go dark and its ports go down. -/
  | laserInputsDark (engine : Nat)
  /-- LASER_INPUT_RESTORED (R86): An input has been at 18.0 dBm or above for 1 ms, and the engine returns without a reset. -/
  | laserInputRestored (engine input : Nat)
  /-- LASER_LOW (R86): A laser input falls below 20.0 dBm while above 17.0 dBm; a rate-limited warning is raised. -/
  | laserLow (engine input : Nat)
  /-- LOCKSTEP_DISAGREEMENT (R45): A Baker pair disagrees with itself in lockstep, and that die takes a management reheat. -/
  | lockstepDisagreement (die : Nat)
  /-- LANE_LOS (R110): A lane has loss of signal for 1 µs or loses codeword lock, and it is requested for retirement. -/
  | laneLos (port lane : Nat)
  /-- LANE_SIGNAL_RESTORED (R94): Average power stays above −12 dBm for 100 µs and loss of signal is released. -/
  | laneSignalRestored (port lane : Nat)
  /-- PORT_DARK (R95): Fewer than 4 receive lanes have been lit for 1 µs, and the port is port-dark. -/
  | portDark (port : Nat)
  /-- DETECT_LIT (R115): A port in Detect has been lit for 100 µs and begins training. -/
  | detectLit (port : Nat)
  /-- LCB_RECEIVED (R103): A lane control block arrives; it is ignored and counted when its CRC fails, and its fields are taken otherwise. -/
  | lcbReceived (port lane : Nat) (lcb : LaneFrame)
  /-- TRAIN_COMPLETE (R117): Flit start completes after exchange, and the port enters Active with fresh link-layer state. -/
  | trainComplete (port : Nat)
  /-- TRAIN_TIMEOUT (R115): Training does not complete in 50 ms, or fails its checks, and the port goes Down. -/
  | trainTimeout (port : Nat)
  /-- RETRAIN_COMPLETE (R118): A retrain completes within 200 µs; link-layer state is kept, replay begins and credits are reported in full. -/
  | retrainComplete (port : Nat)
  /-- RETRAIN_TIMEOUT (R115): A retrain does not complete in 200 µs, and the port goes Down and discards its link state. -/
  | retrainTimeout (port : Nat)
  /-- DOWN_HOLD_EXPIRY (R116): The Down hold of 1 ms, or 1 s after 16 failed trainings, expires, and the port returns to Detect. -/
  | downHoldExpiry (port : Nat)
  /-- FLIT_RECEIVED (R127): A flit arrives and is checked, acknowledged, accepted, discarded or NAKed, and its control records are processed. -/
  | flitReceived (port : Nat) (flit : Flit)
  /-- FLIT_SEND (R125): In each flit slot the transmitter sends a replayed, Data, Control or Idle flit. -/
  | flitSend (port : Nat)
  /-- NAK_TIMER (R127): The NAK timer expires while a NAK is pending, and the NAK is sent again. -/
  | nakTimer (port : Nat)
  /-- REPLAY_TIMEOUT (R130): base has not advanced for the round-trip time plus 5 µs, and the sender replays from base. -/
  | replayTimeout (port : Nat)
  /-- OLDEST_FLIT_TIMEOUT (R139): The oldest unacknowledged flit was first sent 50 µs ago, and a retrain is triggered. -/
  | oldestFlitTimeout (port : Nat)
  /-- CREDIT_REPORT_TIMER (R136): The periodic 10 µs report sends CREDIT_LO and CREDIT_HI for all VCs. -/
  | creditReportTimer (port : Nat)
  /-- CHARGED_REPORT_TIMER (R138): On Compact, CHARGED_LO and CHARGED_HI are sent at least every 10 µs. -/
  | chargedReportTimer (port : Nat)
  /-- TIME_SYNC_SEND (R185): TIME_SYNC is sent at least every 50 µs on DP ports, and on fabric ports when root. -/
  | timeSyncSend (port : Nat)
  /-- PORT_ENABLE (R115): PORT_COMMAND Enable moves a Disabled port to Detect. -/
  | portEnable (r : Req) (port : Nat)
  /-- PORT_DISABLE (R115): PORT_COMMAND Disable darkens the port and discards its link state. -/
  | portDisable (r : Req) (port : Nat)
  /-- PORT_RETRAIN (R115): PORT_COMMAND Retrain triggers a retrain of an Active port, or is refused. -/
  | portRetrain (r : Req) (port : Nat)
  /-- PORT_LANE_RESTORE (R141): PORT_COMMAND Lane restore sets LANE_RESTORE and retrains from step 2. -/
  | portLaneRestore (r : Req) (port : Nat)
  /-- ATTACH (R189): An ATTACH is answered with ATTACH_ACK, assigning a slot and granting capabilities or giving a failure code. -/
  | attach (port : Nat) (p : Packet)
  /-- HEARTBEAT (R196): A HEARTBEAT renews the slot's lease and is answered with HEARTBEAT_ACK. -/
  | heartbeat (port : Nat) (p : Packet)
  /-- DETACH (R198): A DETACH puts the slot into Detaching and starts draining, recall and the abort of its recipes. -/
  | detach (port : Nat) (p : Packet)
  /-- DETACH_COMPLETE (R198): The detach steps end; CMP OK is sent, ledger entries are cleared and the slot enters Quarantine. -/
  | detachComplete (slot : Nat)
  /-- LEASE_EXPIRY (R200): A slot's lease runs out and the slot enters Lost, starting the partner-loss walk. -/
  | leaseExpiry (slot : Nat)
  /-- PARTNER_LOSS_WALK_DONE (R260): Both loss walks and the completion records commit; PARTNER_LOST is raised and the slot enters Quarantine. -/
  | partnerLossWalkDone (slot : Nat)
  /-- QUARANTINE_EXPIRY (R201): A slot has been in Quarantine 16 ms and becomes Free. -/
  | quarantineExpiry (slot : Nat)
  /-- E2E_NAK (R172): An E2E_NAK is received and the named pool-issued request is resent, or the NAK is ignored. -/
  | e2eNak (port : Nat) (p : Packet)
  /-- ANNOUNCE (R148): An ANNOUNCE for the Varisk's service EID with a higher epoch fences it; a lower or equal one is counted. -/
  | announce (port : Nat) (p : Packet)
  /-- RD_SHARED (R250): A shared read request is checked, translated and ordered, and granted Shared or Exclusive-clean. -/
  | rdShared (port : Nat) (p : Packet)
  /-- RD_UNIQUE (R250): A unique read request is checked, translated and ordered, and granted Modified after recalls. -/
  | rdUnique (port : Nat) (p : Packet)
  /-- RD_ONCE (R250): An uncached read request returns data and records no holder. -/
  | rdOnce (port : Nat) (p : Packet)
  /-- WR_LINE (R47): A full-line write request is paired with its data, ordered and committed, then answered CMP. -/
  | wrLine (port : Nat) (p : Packet)
  /-- WR_PART (R161): A partial write request is paired and merged into its line by read-modify-write. -/
  | wrPart (port : Nat) (p : Packet)
  /-- WRITEBACK (R252): A holder's writeback is indexed, then applied or taken as a recall answer. -/
  | writeback (port : Nat) (p : Packet)
  /-- EVICT_CLEAN (R252): A holder's clean eviction is indexed and removes its holder record. -/
  | evictClean (port : Nat) (p : Packet)
  /-- UPGRADE (R250): An UPGRADE asks for write permission and is answered CMP with a granted state. -/
  | upgrade (port : Nat) (p : Packet)
  /-- ATOMIC (R162): An 8-byte atomic on a line is paired with its operand, performed as one write access and answered ATOMIC_DATA. -/
  | atomic (port : Nat) (p : Packet)
  /-- WR_DATA (R160): The data half of a write arrives and is paired with its request by source and tag. -/
  | wrData (port : Nat) (p : Packet)
  /-- WB_DATA (R160): The data half of a writeback arrives and is paired. -/
  | wbData (port : Nat) (p : Packet)
  /-- SNP_DATA (R239): Snoop data arrives and is written to the line when the answering slot held write permission. -/
  | snpData (port : Nat) (p : Packet)
  /-- ATOMIC_OPND (R160): The operand half of an ATOMIC arrives and is paired. -/
  | atomicOpnd (port : Nat) (p : Packet)
  /-- SNP_RSP (R253): A snoop response removes or keeps its slot in the recall and may end the recall. -/
  | snpRsp (port : Nat) (p : Packet)
  /-- CROSSED (R253): A CROSSED answer marks the slot's eviction as awaited in the recall. -/
  | crossed (port : Nat) (p : Packet)
  /-- STASH_RSP (R255): A STASH_RSP accepts the stash, or declines it and is counted. -/
  | stashRsp (port : Nat) (p : Packet)
  /-- RT_READ (R283): A real-time read is served through the RT_VC6 class and answered RT_DATA. -/
  | rtRead (port : Nat) (p : Packet)
  /-- RECIPE_CANCEL (R359): A cancel of an accepted recipe stops dispatch and ends the recipe ABORTED. -/
  | recipeCancel (port : Nat) (p : Packet)
  /-- REQUEST_ORDERED (R250): A request reaches its line at the home directory and is handled under the line-state table. -/
  | requestOrdered (src tag : Nat)
  /-- RECALL_DEADLINE (R253): A recall is 500 µs old; unanswered slots are removed and a Modified line is poisoned. -/
  | recallDeadline (line : Nat)
  /-- PARKED_PRESENT (R256): 4 fc after a line leaves Recalling, its parked requests are presented again in stamp order. -/
  | parkedPresent (line : Nat)
  /-- PAIRING_TIMEOUT (R160): A half remains unpaired for PAIRING_TIMEOUT; a request is answered TIMEOUT and a data half is discarded. -/
  | pairingTimeout (src tag : Nat)
  /-- REQUEST_WITHDRAW (R178): A request not ordered 3 ms after acceptance is withdrawn and answered TIMEOUT. -/
  | requestWithdraw (src tag : Nat)
  /-- UNROUTABLE_TIMEOUT (R150): A packet waits 1 ms without a pin and is discarded and counted. -/
  | unroutableTimeout (dest : Nat)
  /-- POOL_REQUEST_TIMEOUT (R180): A pool-issued request has no final response 2 ms after its first send and ends TIMEOUT. -/
  | poolRequestTimeout (dest tag : Nat)
  /-- POOL_RESEND (R180): On Compact, a pool-issued request without response after POOL_RESEND_INTERVAL is resent. -/
  | poolResend (dest tag : Nat)
  /-- GEN_SETTLE_RECHECK (R218): The descriptor is re-read every 1 µs until its generation matches, or XLATE_FAULT is given after GEN_SETTLE. -/
  | genSettleRecheck (src tag : Nat) (expired : Bool)
  /-- CTX_INVALIDATE (R219): Sets a context's registered generation, drops its cached translations and replies once affected requests drain. -/
  | ctxInvalidate (r : Req) (ctx gen : Nat)
  /-- RECALL_RANGE (R221): Visits every line of a range and recalls held lines with SNP_INV. -/
  | recallRange (r : Req) (pa length : Nat)
  /-- PARTNER_EVICT (R200): Puts a slot into Lost as if its lease had expired. -/
  | partnerEvict (r : Req) (slot : Nat)
  /-- FQ_OVERFLOW_CLEAR (R228): Clears a context's FQ_OVERFLOW_STICKY flag. -/
  | fqOverflowClear (r : Req) (ctx : Nat)
  /-- DIRECTORY_LOOKUP (R267): Returns the home die and directory and region entries of a pool physical address. -/
  | directoryLookup (r : Req) (pa : Nat)
  /-- DRAM_COMMAND_SLOT (R279): At each command slot a pseudo-channel issues a refresh or picks and activates a request. -/
  | dramCommandSlot (channel pseudo : Nat)
  /-- DRAM_DATA_RETURN (R322): A line's data or write acknowledgement returns from the stack; the line is checked, corrected and decrypted. -/
  | dramDataReturn (channel id : Nat) (errors : List (Nat × Nat))
  /-- REFRESH_INTERVAL (R280): A bank's refresh interval falls due, every 3.906 µs or halved under warning. -/
  | refreshInterval (channel pseudo bank : Nat)
  /-- DRAM_COMMAND_TIMEOUT (R289): A command has no data or acknowledgement 10 µs after issue, and the channel retrains. -/
  | dramCommandTimeout (channel id : Nat)
  /-- CHANNEL_RETRAIN_DONE (R289): A channel retrain ends; held requests are reissued, or the channel is failed. -/
  | channelRetrainDone (channel : Nat) (ok : Bool)
  /-- PANIC_CAP (R285): Panic held 100 µs without a break is dropped for 10 µs and counted. -/
  | panicCap (channel : Nat) (mirror : Bool)
  /-- PANIC_RESUME (R285): After the 10 µs break, panic resumes if the port's level still needs it. -/
  | panicResume (channel : Nat) (mirror : Bool)
  /-- DRIFT_TRACK (R288): Every 10 ms each channel re-centres its read timing during a refresh slot. -/
  | driftTrack (channel : Nat)
  /-- CHANNEL_RETRAIN (R316): Runs full training of a channel within 1 s and returns a failed channel that passes. -/
  | channelRetrain (r : Req) (channel : Nat)
  /-- DT_INFO_DATA (R305): A sled's information reply updates its capacity, owner and health. -/
  | dtInfoData (port : Nat) (p : Packet)
  /-- DT_READ_DATA (R303): A pair of granule units arrives and is checked and written into the frame. -/
  | dtReadData (port : Nat) (p : Packet)
  /-- DT_CMP (R307): A sled completion ends a fill, writeback, claim or trim with its status. -/
  | dtCmp (port : Nat) (p : Packet)
  /-- DEEP_MISSING_UNITS (R307): Units are still missing 100 µs after DT_CMP; the granule is read again, or the units are poisoned. -/
  | deepMissingUnits (cluster set way : Nat)
  /-- DIRTY_AGE_EXPIRY (R300): A dirty frame reaches DIRTY_AGE and its writeback starts. -/
  | dirtyAgeExpiry (cluster set way : Nat)
  /-- DEEP_WAIT_RESUME (R298): A frame of a set becomes clean and unpinned, and a request parked in the deep wait queue proceeds. -/
  | deepWaitResume (cluster : Nat)
  /-- SLED_WAIT_TIMEOUT (R312): Misses to a sled whose DP port is Down have waited 2 ms and are answered TIMEOUT. -/
  | sledWaitTimeout (sled : Nat)
  /-- DEEP_PIN (R301): Fills the named granules and pins their frames. -/
  | deepPin (r : Req) (pa length : Nat)
  /-- DEEP_UNPIN (R301): Clears PIN on the named granules at once. -/
  | deepUnpin (r : Req) (pa length : Nat)
  /-- DEEP_PREFETCH (R301): Fills the named granules without pinning them. -/
  | deepPrefetch (r : Req) (pa length : Nat)
  /-- DEEP_FLUSH (R301): Writes back every dirty frame, or those of one sled, and replies when none remain dirty. -/
  | deepFlush (r : Req) (sled : Nat)
  /-- DEEP_TRIM (R301): Recalls the granules, drops their frames without writeback and sends DT_TRIM. -/
  | deepTrim (r : Req) (pa length : Nat)
  /-- SLED_CLAIM_FORCE (R309): Claims a foreign sled with its OWNER_EPOCH + 1. -/
  | sledClaimForce (r : Req) (sled : Nat)
  /-- SCRUB_LINE (R329): Patrol scrub visits one line, writing back, correcting, repairing or poisoning it as needed. -/
  | scrubLine (pa : Nat)
  /-- ROW_REPAIR (R595): A row is copied into a spare row and the bank's remap entry is switched. -/
  | rowRepair (channel pseudo bank row : Nat)
  /-- BANK_REPAIR_DONE (R595): The copy pointer reaches the end of a failing bank and the spare bank takes over. -/
  | bankRepairDone (channel pseudo bank : Nat)
  /-- DECODER_SELFTEST_HOURLY (R346): Once an hour each channel feeds its decoder the test patterns, and a failure fails the channel. -/
  | decoderSelftestHourly (channel : Nat) (ok : Bool)
  /-- ERROR_LOG_CLEAR (R350): Empties ERROR_LOG and keeps the counters. -/
  | errorLogClear (r : Req)
  /-- DEEP_SET_RELEASE (R342): Rewrites a quarantined tag line with every tag invalid and ends the quarantine. -/
  | deepSetRelease (r : Req) (cluster set : Nat)
  /-- POISON_INJECT (R350): Sets POISON on a line as a commit ordered at its home directory. -/
  | poisonInject (r : Req) (pa : Nat)
  /-- FILL (R374): A FILL recipe is accepted and writes a repeating byte pattern over a span. -/
  | fill (port : Nat) (p : Packet)
  /-- COPY (R374): A COPY recipe is accepted and copies bytes from SRC to DST. -/
  | copy (port : Nat) (p : Packet)
  /-- COMPARE (R375): A COMPARE recipe is accepted and finds the lowest differing byte of two spans. -/
  | compare (port : Nat) (p : Packet)
  /-- REDUCE (R376): A REDUCE recipe is accepted and reduces strided inputs element by element. -/
  | reduce (port : Nat) (p : Packet)
  /-- GATHER_REDUCE (R377): A GATHER-REDUCE recipe is accepted and reduces the indexed table rows of each bag. -/
  | gatherReduce (port : Nat) (p : Packet)
  /-- SCATTER_ADD (R378): A SCATTER-ADD recipe is accepted and adds source rows into indexed target rows in tile order. -/
  | scatterAdd (port : Nat) (p : Packet)
  /-- ALLREDUCE_STAGE (R380): An ALLREDUCE-STAGE arrives at its stage area, and the last arrival starts the reduction. -/
  | allreduceStage (port : Nat) (p : Packet)
  /-- OPTIM_STEP (R383): An OPTIM-STEP recipe is accepted and updates weights and moments elementwise. -/
  | optimStep (port : Nat) (p : Packet)
  /-- KV_SELECT (R385): A KV-SELECT recipe is accepted and scores, selects and optionally streams KV blocks. -/
  | kvSelect (port : Nat) (p : Packet)
  /-- DELTA_PACK (R389): A DELTA-PACK recipe is accepted and packs or applies chunk deltas. -/
  | deltaPack (port : Nat) (p : Packet)
  /-- DIGEST (R390): A DIGEST recipe is accepted and computes a CRC-64 or SHA-256 digest of a span. -/
  | digest (port : Nat) (p : Packet)
  /-- PUBLISH (R264): A PUBLISH recipe commits a new version record by compare and one full-line write. -/
  | publish (port : Nat) (p : Packet)
  /-- KERNEL (R428): A KERNEL recipe is accepted and launches TILES tiles of a loaded kernel. -/
  | kernel (port : Nat) (p : Packet)
  /-- SUGAR_QUEUE_SERVE (R525): Room changes at an admission unit and queued requests are served in priority order. -/
  | sugarQueueServe
  /-- GRANT_RENEWAL (R369): At 10 % of a grant's remaining duration the front end asks for renewal. -/
  | grantRenewal (recipe : Nat)
  /-- GRANT_END (R526): A grant reaches its duration and ends. -/
  | grantEnd (kind : Machine.SugarKind) (key : Nat)
  /-- GRANT_RAMP_DONE (R527): A grant's core current has ramped to its full value and the tiles in flight reach their limit. -/
  | grantRampDone (kind : Machine.SugarKind) (key : Nat)
  /-- BALLAST_HOLD_EXPIRY (R528): Ballast held for BALLAST_HOLD starts to ramp down at 40 A/µs. -/
  | ballastHoldExpiry
  /-- ADMISSION_LIMIT_TIMEOUT (R370): A recipe holds no grant ADMISSION_LIMIT after acceptance or a renewal, and it ends TIMEOUT. -/
  | admissionLimitTimeout (recipe : Nat)
  /-- TILE_DISPATCH (R363): The front end queues the next tile at its home cluster when the dispatch window and queue room allow. -/
  | tileDispatch (recipe : Nat)
  /-- CORE_STEAL (R367): An idle core takes a tile from its queue or steals one, or waits 1 µs and tries again. -/
  | coreSteal (core : Nat)
  /-- TILE_CHECK (R362): A core starts a tile by translating and checking every operand span. -/
  | tileCheck (core : Nat)
  /-- TILE_COMMIT (R362): A tile's compute ends, and it writes its lines operand by operand. -/
  | tileCommit (core : Nat) (residue : Bool)
  /-- RECIPE_END (R364): A recipe ends; its completion record is written and RECIPE_DONE is sent with its status. -/
  | recipeEnd (recipe : Nat)
  /-- ALLREDUCE_DEADLINE (R381): DEADLINE passes in Collecting; arrived contributors receive TIMEOUT and the header is cleared. -/
  | allreduceDeadline (recipe : Nat)
  /-- RECIPE_ABORT (R359): The Operator ends a recipe by slot and tag as a cancel does. -/
  | recipeAbort (r : Req) (slot tag : Nat)
  /-- KERNEL_TILE_START (R430): A kernel tile checks ENTRY, loads the text if needed and starts its threads. -/
  | kernelTileStart (core : Nat)
  /-- POOL_ACCESS_RETURN (R449): A kernel pool access returns its data or commit, or an INTEGRITY answer. -/
  | poolAccessReturn (core thread n : Nat) (failed : Bool)
  /-- INSTRUCTION_WATCHDOG (R455): A thread retires nothing for 65,536 cc and is killed with WATCHDOG. -/
  | instructionWatchdog (core thread : Nat)
  /-- CORE_TILE_TIMEOUT (R455): A tile is not ended 2 ms after its first instruction; it takes CORE_TIMEOUT and its core is reset. -/
  | coreTileTimeout (core : Nat)
  /-- ACCESS_TIMEOUT (R453): A kernel pool access has no answer for 2 ms. -/
  | accessTimeout (core thread n : Nat)
  /-- NOP (R439): Does nothing. -/
  | nop (core thread : Nat)
  /-- TEXIT (R439): Ends the thread; the tile ends when every thread has exited. -/
  | texit (core thread : Nat)
  /-- TRAP (R439): Ends the tile with exception TRAP and a code. -/
  | trap (core thread : Nat) (rs1 : Nat)
  /-- FENCE (R439): Waits until every earlier pool access of the thread has completed. -/
  | fence (core thread : Nat)
  /-- BAR (R448): Waits at the tile barrier for every thread that has not exited. -/
  | bar (core thread : Nat)
  /-- BARF (R439): A FENCE followed by a BAR. -/
  | barf (core thread : Nat)
  /-- TRES (R432): Adds a register to the recipe's RESULT2 sum. -/
  | tres (core thread : Nat) (rs1 : Nat)
  /-- TIME (R439): Reads global time into a register. -/
  | time (core thread : Nat) (rd : Nat)
  /-- XPOIS (R439): Reads the poison flag of a scalar register. -/
  | xpois (core thread : Nat) (rd rs1 : Nat)
  /-- VPOIS (R439): Reads the poison flag of a vector register. -/
  | vpois (core thread : Nat) (rd rs1 : Nat)
  /-- APOIS (R439): Reads the poison flag of an accumulator. -/
  | apois (core thread : Nat) (rd rs1 : Nat)
  /-- PSET (R439): Writes a predicate from a scalar register. -/
  | pset (core thread : Nat) (rd rs1 : Nat)
  /-- PGET (R439): Reads a predicate into a scalar register. -/
  | pget (core thread : Nat) (rd rs1 : Nat)
  /-- ALU_ADD (R440): Adds two scalar registers modulo 2⁶⁴. -/
  | aluAdd (core thread : Nat) (rd rs1 rs2 : Nat)
  /-- ALU_SUB (R440): Subtracts two scalar registers modulo 2⁶⁴. -/
  | aluSub (core thread : Nat) (rd rs1 rs2 : Nat)
  /-- ALU_MUL (R440): Multiplies two scalar registers, giving the low 64 bits. -/
  | aluMul (core thread : Nat) (rd rs1 rs2 : Nat)
  /-- ALU_MULH (R440): Gives the signed high 64 bits of a product. -/
  | aluMulh (core thread : Nat) (rd rs1 rs2 : Nat)
  /-- ALU_MULHU (R440): Gives the unsigned high 64 bits of a product. -/
  | aluMulhu (core thread : Nat) (rd rs1 rs2 : Nat)
  /-- ALU_DIV (R440): Divides signed, without trapping. -/
  | aluDiv (core thread : Nat) (rd rs1 rs2 : Nat)
  /-- ALU_DIVU (R440): Divides unsigned, without trapping. -/
  | aluDivu (core thread : Nat) (rd rs1 rs2 : Nat)
  /-- ALU_REM (R440): Gives the signed remainder. -/
  | aluRem (core thread : Nat) (rd rs1 rs2 : Nat)
  /-- ALU_REMU (R440): Gives the unsigned remainder. -/
  | aluRemu (core thread : Nat) (rd rs1 rs2 : Nat)
  /-- ALU_AND (R440): Bitwise AND of two scalar registers. -/
  | aluAnd (core thread : Nat) (rd rs1 rs2 : Nat)
  /-- ALU_OR (R440): Bitwise OR of two scalar registers. -/
  | aluOr (core thread : Nat) (rd rs1 rs2 : Nat)
  /-- ALU_XOR (R440): Bitwise XOR of two scalar registers. -/
  | aluXor (core thread : Nat) (rd rs1 rs2 : Nat)
  /-- ALU_SLL (R440): Shifts left logical. -/
  | aluSll (core thread : Nat) (rd rs1 rs2 : Nat)
  /-- ALU_SRL (R440): Shifts right logical. -/
  | aluSrl (core thread : Nat) (rd rs1 rs2 : Nat)
  /-- ALU_SRA (R440): Shifts right arithmetic. -/
  | aluSra (core thread : Nat) (rd rs1 rs2 : Nat)
  /-- ALU_SLT (R440): Sets 1 when less than, signed. -/
  | aluSlt (core thread : Nat) (rd rs1 rs2 : Nat)
  /-- ALU_SLTU (R440): Sets 1 when less than, unsigned. -/
  | aluSltu (core thread : Nat) (rd rs1 rs2 : Nat)
  /-- ALU_MIN (R440): Gives the signed minimum. -/
  | aluMin (core thread : Nat) (rd rs1 rs2 : Nat)
  /-- ALU_MAX (R440): Gives the signed maximum. -/
  | aluMax (core thread : Nat) (rd rs1 rs2 : Nat)
  /-- ALU_MINU (R440): Gives the unsigned minimum. -/
  | aluMinu (core thread : Nat) (rd rs1 rs2 : Nat)
  /-- ALU_MAXU (R440): Gives the unsigned maximum. -/
  | aluMaxu (core thread : Nat) (rd rs1 rs2 : Nat)
  /-- ADDI (R438): Adds a 14-bit immediate. -/
  | addi (core thread : Nat) (rd rs1 : Nat) (imm : Int)
  /-- ANDI (R438): ANDs a sign-extended immediate. -/
  | andi (core thread : Nat) (rd rs1 : Nat) (imm : Int)
  /-- ORI (R438): ORs a sign-extended immediate. -/
  | ori (core thread : Nat) (rd rs1 : Nat) (imm : Int)
  /-- XORI (R438): XORs a sign-extended immediate. -/
  | xori (core thread : Nat) (rd rs1 : Nat) (imm : Int)
  /-- SHI_SLL (R438): Shifts left logical by an immediate amount. -/
  | shiSll (core thread : Nat) (rd rs1 sh : Nat)
  /-- SHI_SRL (R438): Shifts right logical by an immediate amount. -/
  | shiSrl (core thread : Nat) (rd rs1 sh : Nat)
  /-- SHI_SRA (R438): Shifts right arithmetic by an immediate amount. -/
  | shiSra (core thread : Nat) (rd rs1 sh : Nat)
  /-- SLTI (R438): Sets 1 when a register is less than an immediate, signed. -/
  | slti (core thread : Nat) (rd rs1 : Nat) (imm : Int)
  /-- LUI (R438): Loads an immediate shifted left by 14 bits. -/
  | lui (core thread : Nat) (rd : Nat) (imm : Int)
  /-- BEQ (R438): Branches when two registers are equal. -/
  | beq (core thread : Nat) (rs1 rs2 : Nat) (off : Int)
  /-- BNE (R438): Branches when two registers differ. -/
  | bne (core thread : Nat) (rs1 rs2 : Nat) (off : Int)
  /-- BLT (R438): Branches when less than, signed. -/
  | blt (core thread : Nat) (rs1 rs2 : Nat) (off : Int)
  /-- BGE (R438): Branches when greater or equal, signed. -/
  | bge (core thread : Nat) (rs1 rs2 : Nat) (off : Int)
  /-- BLTU (R438): Branches when less than, unsigned. -/
  | bltu (core thread : Nat) (rs1 rs2 : Nat) (off : Int)
  /-- BGEU (R438): Branches when greater or equal, unsigned. -/
  | bgeu (core thread : Nat) (rs1 rs2 : Nat) (off : Int)
  /-- JAL (R438): Jumps relative and links. -/
  | jal (core thread : Nat) (rd : Nat) (imm : Int)
  /-- JALR (R438): Jumps to a register plus an immediate and links. -/
  | jalr (core thread : Nat) (rd rs1 : Nat) (imm : Int)
  /-- PBR (R438): Branches on a predicate condition. -/
  | pbr (core thread : Nat) (pr cond : Nat) (off : Int)
  /-- TLD (R448): Loads tray bytes into a scalar register, zero-extended. -/
  | tld (core thread : Nat) (rt rb size : Nat) (imm : Int)
  /-- TLDS (R448): Loads tray bytes into a scalar register, sign-extended. -/
  | tlds (core thread : Nat) (rt rb size : Nat) (imm : Int)
  /-- TST (R448): Stores a scalar register into the tray. -/
  | tst (core thread : Nat) (rt rb size : Nat) (imm : Int)
  /-- VTLD (R448): Loads 64 tray bytes into a vector register. -/
  | vtld (core thread : Nat) (vt rb : Nat) (imm : Int)
  /-- VTST (R448): Stores a vector register into the tray under a predicate. -/
  | vtst (core thread : Nat) (vt rb pred : Nat) (imm : Int)
  /-- TAMO (R448): Performs an 8-byte atomic on a tray word. -/
  | tamo (core thread : Nat) (rd rs1 rs2 subop : Nat)
  /-- PLD (R449): Loads pool bytes into a scalar register, zero-extended. -/
  | pld (core thread : Nat) (rt rb size : Nat) (imm : Int)
  /-- PLDS (R449): Loads pool bytes into a scalar register, sign-extended. -/
  | plds (core thread : Nat) (rt rb size : Nat) (imm : Int)
  /-- PST (R449): Stores a scalar register into the pool as a narrow write. -/
  | pst (core thread : Nat) (rt rb size : Nat) (imm : Int)
  /-- VPLD (R449): Loads 64 pool bytes into a vector register. -/
  | vpld (core thread : Nat) (vt rb : Nat) (imm : Int)
  /-- VPST (R449): Stores a vector register to 64 pool bytes under a predicate. -/
  | vpst (core thread : Nat) (vt rb pred : Nat) (imm : Int)
  /-- PAMO (R449): Performs an 8-byte atomic on a pool word at its home directory. -/
  | pamo (core thread : Nat) (rd rs1 rs2 subop : Nat)
  /-- LSWAP (R450): Swaps a whole pool line with a vector register pair. -/
  | lswap (core thread : Nat) (vn vc rb : Nat)
  /-- LCAS (R450): Compares a pool line and writes it when equal, setting a predicate. -/
  | lcas (core thread : Nat) (vn vc rb pd : Nat)
  /-- VPLD2 (R449): Loads a 128-byte pool line into two vector registers. -/
  | vpld2 (core thread : Nat) (vt rb : Nat) (imm : Int)
  /-- VPST2 (R449): Stores two vector registers as a full-line pool write. -/
  | vpst2 (core thread : Nat) (vt rb : Nat) (imm : Int)
  /-- VARITH_ADD (R441): Adds vector elements. -/
  | varithAdd (core thread : Nat) (vd vs1 vs2 pred fmt : Nat)
  /-- VARITH_SUB (R441): Subtracts vector elements. -/
  | varithSub (core thread : Nat) (vd vs1 vs2 pred fmt : Nat)
  /-- VARITH_MUL (R441): Multiplies vector elements. -/
  | varithMul (core thread : Nat) (vd vs1 vs2 pred fmt : Nat)
  /-- VARITH_MIN (R441): Takes the elementwise minimum. -/
  | varithMin (core thread : Nat) (vd vs1 vs2 pred fmt : Nat)
  /-- VARITH_MAX (R441): Takes the elementwise maximum. -/
  | varithMax (core thread : Nat) (vd vs1 vs2 pred fmt : Nat)
  /-- VARITH_ABS (R441): Takes the elementwise absolute value. -/
  | varithAbs (core thread : Nat) (vd vs1 pred fmt : Nat)
  /-- VARITH_NEG (R441): Negates each element. -/
  | varithNeg (core thread : Nat) (vd vs1 pred fmt : Nat)
  /-- VARITH_AND (R441): ANDs integer elements. -/
  | varithAnd (core thread : Nat) (vd vs1 vs2 pred fmt : Nat)
  /-- VARITH_OR (R441): ORs integer elements. -/
  | varithOr (core thread : Nat) (vd vs1 vs2 pred fmt : Nat)
  /-- VARITH_XOR (R441): XORs integer elements. -/
  | varithXor (core thread : Nat) (vd vs1 vs2 pred fmt : Nat)
  /-- VARITH_SHL (R441): Shifts integer elements left. -/
  | varithShl (core thread : Nat) (vd vs1 vs2 pred fmt : Nat)
  /-- VARITH_SHR (R441): Shifts integer elements right, logical. -/
  | varithShr (core thread : Nat) (vd vs1 vs2 pred fmt : Nat)
  /-- VARITH_SAR (R441): Shifts integer elements right, arithmetic. -/
  | varithSar (core thread : Nat) (vd vs1 vs2 pred fmt : Nat)
  /-- VARITH_DIV (R441): Divides floating-point elements. -/
  | varithDiv (core thread : Nat) (vd vs1 vs2 pred fmt : Nat)
  /-- VARITH_SQRT (R441): Takes the square root of floating-point elements. -/
  | varithSqrt (core thread : Nat) (vd vs1 pred fmt : Nat)
  /-- FMA (R438): Fused multiply-add into the destination vector. -/
  | fma (core thread : Nat) (vd vs1 vs2 pred fmt : Nat)
  /-- FMS (R438): Fused multiply, subtracting the destination vector. -/
  | fms (core thread : Nat) (vd vs1 vs2 pred fmt : Nat)
  /-- FNMA (R438): Subtracts a fused product from the destination vector. -/
  | fnma (core thread : Nat) (vd vs1 vs2 pred fmt : Nat)
  /-- VCMP_EQ (R442): Compares elements for equality into a predicate. -/
  | vcmpEq (core thread : Nat) (pd vs1 vs2 pred fmt : Nat)
  /-- VCMP_NE (R442): Compares elements for inequality into a predicate. -/
  | vcmpNe (core thread : Nat) (pd vs1 vs2 pred fmt : Nat)
  /-- VCMP_LT (R442): Compares elements for less than into a predicate. -/
  | vcmpLt (core thread : Nat) (pd vs1 vs2 pred fmt : Nat)
  /-- VCMP_LE (R442): Compares elements for less or equal into a predicate. -/
  | vcmpLe (core thread : Nat) (pd vs1 vs2 pred fmt : Nat)
  /-- VCMP_GT (R442): Compares elements for greater than into a predicate. -/
  | vcmpGt (core thread : Nat) (pd vs1 vs2 pred fmt : Nat)
  /-- VCMP_GE (R442): Compares elements for greater or equal into a predicate. -/
  | vcmpGe (core thread : Nat) (pd vs1 vs2 pred fmt : Nat)
  /-- VCMP_UNORD (R442): Sets predicate bits where an element is unordered. -/
  | vcmpUnord (core thread : Nat) (pd vs1 vs2 pred fmt : Nat)
  /-- VCMP_LTU (R442): Compares integer elements, unsigned less than. -/
  | vcmpLtu (core thread : Nat) (pd vs1 vs2 pred fmt : Nat)
  /-- VCMP_GEU (R442): Compares integer elements, unsigned greater or equal. -/
  | vcmpGeu (core thread : Nat) (pd vs1 vs2 pred fmt : Nat)
  /-- VCVT (R443): Converts part of a vector between register formats. -/
  | vcvt (core thread : Nat) (vd vs1 part pred fmt fmtTo : Nat)
  /-- VMOV (R438): Copies a vector register. -/
  | vmov (core thread : Nat) (vd vs1 pred fmt : Nat)
  /-- VPERM (R438): Permutes the bytes of a vector register. -/
  | vperm (core thread : Nat) (vd vs1 vs2 pred fmt : Nat)
  /-- VSEL (R438): Selects elements from two vectors by predicate. -/
  | vsel (core thread : Nat) (vd vs1 vs2 pred fmt : Nat)
  /-- VBCAST (R438): Broadcasts a scalar into every element. -/
  | vbcast (core thread : Nat) (vd xs pred fmt : Nat)
  /-- VEXT (R438): Extracts one element into a scalar register. -/
  | vext (core thread : Nat) (xd vs index fmt : Nat)
  /-- VINS (R438): Inserts a scalar into one element. -/
  | vins (core thread : Nat) (vd xs index fmt : Nat)
  /-- VRED_ADD (R444): Reduces governed integer elements by addition. -/
  | vredAdd (core thread : Nat) (xd vs pred fmt : Nat)
  /-- VRED_MIN (R444): Reduces governed integer elements by signed minimum. -/
  | vredMin (core thread : Nat) (xd vs pred fmt : Nat)
  /-- VRED_MAX (R444): Reduces governed integer elements by signed maximum. -/
  | vredMax (core thread : Nat) (xd vs pred fmt : Nat)
  /-- VRED_MINU (R444): Reduces governed integer elements by unsigned minimum. -/
  | vredMinu (core thread : Nat) (xd vs pred fmt : Nat)
  /-- VRED_MAXU (R444): Reduces governed integer elements by unsigned maximum. -/
  | vredMaxu (core thread : Nat) (xd vs pred fmt : Nat)
  /-- VRED_AND (R444): Reduces governed integer elements by AND. -/
  | vredAnd (core thread : Nat) (xd vs pred fmt : Nat)
  /-- VRED_OR (R444): Reduces governed integer elements by OR. -/
  | vredOr (core thread : Nat) (xd vs pred fmt : Nat)
  /-- VRED_XOR (R444): Reduces governed integer elements by XOR. -/
  | vredXor (core thread : Nat) (xd vs pred fmt : Nat)
  /-- AADD (R445): Adds governed elements exactly into an accumulator. -/
  | aadd (core thread : Nat) (ad vs1 xs pred fmt : Nat)
  /-- ADOT (R445): Adds the exact products of governed element pairs into an accumulator. -/
  | adot (core thread : Nat) (ad vs1 vs2 xs pred fmt : Nat)
  /-- ACLR (R445): Empties an accumulator. -/
  | aclr (core thread : Nat) (ad : Nat)
  /-- AMOV (R445): Copies an accumulator. -/
  | amov (core thread : Nat) (ad as_ : Nat)
  /-- AMERGE (R445): Merges one accumulator into another. -/
  | amerge (core thread : Nat) (ad as_ : Nat)
  /-- AOUT (R445): Rounds an accumulator out into one vector element. -/
  | aout (core thread : Nat) (ad vr index fmt : Nat)
  /-- ASAVE (R445): Writes an accumulator's spill image to the tray. -/
  | asave (core thread : Nat) (ad xr : Nat)
  /-- ALOAD (R445): Loads an accumulator from a tray image and checks its residue. -/
  | aload (core thread : Nat) (ad xr : Nat)
  /-- KERNEL_LOAD (R458): Reads, checks and verifies a signed kernel image and writes it into the kernel store. -/
  | kernelLoad (r : Req) (ctx addr len : Nat)
  /-- KERNEL_UNLOAD (R459): Frees a kernel-store entry. -/
  | kernelUnload (r : Req) (handle : Nat)
  /-- TW_HELLO (R468): A HELLO from the peer is compared, and enrolment or fencing is agreed. -/
  | twHello (port : Nat) (p : Packet)
  /-- TW_KEEPALIVE (R467): A keepalive from the peer refreshes the link and reports its epoch and state. -/
  | twKeepalive (port : Nat) (p : Packet)
  /-- TW_RELEASE (R482): A release message from the owner is held as a release code. -/
  | twRelease (port : Nat) (p : Packet)
  /-- MR_ACK (R470): A mirror acknowledgement completes the held commits of each stream up to its MSEQ. -/
  | mrAck (port : Nat) (p : Packet)
  /-- MR_LINE (R473): A standby applies a mirrored line in MSEQ order. -/
  | mrLine (port : Nat) (p : Packet)
  /-- MR_STATE (R473): A standby applies mirrored state records in MSEQ order. -/
  | mrState (port : Nat) (p : Packet)
  /-- RS_LINES (R491): A standby applies resync sweep lines in MSEQ order. -/
  | rsLines (port : Nat) (p : Packet)
  /-- RP_REQ (R477): A peer asks for a line's copy and is answered once its stream has been applied that far. -/
  | rpReq (port : Nat) (p : Packet)
  /-- RP_DATA (R323): The peer's copy of a line ends a twin repair, or the line is poisoned. -/
  | rpData (port : Nat) (p : Packet)
  /-- HB_REQ (R495): The standby asks for a handback, granted at the next quiesce barrier. -/
  | hbReq (port : Nat) (p : Packet)
  /-- LAMP_FRAME (R481): A lamp frame is received as hold or release, or counted as dark. -/
  | lampFrame (lamp : Nat) (frame : Nat)
  /-- LAMP_FAULT (R481): One lamp input has been dark 1 ms while the other is lit or keepalives continue. -/
  | lampFault (lamp : Nat)
  /-- KEEPALIVE_SEND (R467): Every 100 µs keepalives, and HELLO in some states, are sent on each Active TW port. -/
  | keepaliveSend
  /-- STANDBY_KEEPALIVE_LOSS (R464): A standby or syncing Varisk has had no keepalive for 1 ms and becomes Adrift or Enrolling. -/
  | standbyKeepaliveLoss
  /-- OWNER_KEEPALIVE_LOSS (R479): An owner's keepalive loss or an unacknowledged record reaches 1.5 ms, and it enters Alone. -/
  | ownerKeepaliveLoss
  /-- TAKEOVER_START (R486): Both lamps dark 1 ms, no owner keepalive and a release code or FORCE; the standby takes ownership. -/
  | takeoverStart
  /-- TAKEOVER_CLAIM_DEADLINE (R486): 5 ms after T0, unclaimed sleds are marked unreachable. -/
  | takeoverClaimDeadline
  /-- ANNOUNCE_TIMER (R483): An owner sends ANNOUNCE on every Active fabric port every 100 µs, then every 1 s. -/
  | announceTimer
  /-- ENROL_RETRY (R464): A refused enrolment is retried every 1 s. -/
  | enrolRetry
  /-- HB_REQ_TIMER (R495): A Standby that prefers ownership sends HB_REQ every 1 s. -/
  | hbReqTimer
  /-- QUIESCE_BARRIER (R496): No recipe is open after TWIN_QUIESCE, and a granted handback starts. -/
  | quiesceBarrier
  /-- QUIESCE_WAIT_EXPIRY (R495): No barrier comes within QUIESCE_WAIT; VC5 credits are restored and the handback waits. -/
  | quiesceWaitExpiry
  /-- HANDBACK_DRAIN_TIMEOUT (R464): Accepted requests are not committed 0.4 ms after the barrier, and the handback is abandoned. -/
  | handbackDrainTimeout
  /-- RELEASE_LAMP_END (R496): 100 µs of release frames end and the releasing owner's lamps go dark. -/
  | releaseLampEnd
  /-- RELEASING_TIMEOUT (R464): 10 ms after release without the new epoch, the releasing owner becomes Adrift. -/
  | releasingTimeout
  /-- FORCE_ARM_EXPIRY (R484): An armed FORCE lapses after 10 s. -/
  | forceArmExpiry
  /-- RESYNC_SEND (R490): An owner in Feeding sends the next state dump or sweep packet as link capacity allows. -/
  | resyncSend (stream : Nat)
  /-- TWIN_ENABLE_WRITE (R464): Writing TWIN_ENABLE moves the Varisk between Solo and its twin states. -/
  | twinEnableWrite (r : Req) (value : Nat)
  /-- TWIN_FORCE (R484): Arms a forced takeover with the next epoch. -/
  | twinForce (r : Req) (epoch : Nat)
  /-- TWIN_FORCE_CANCEL (R499): Disarms an armed FORCE. -/
  | twinForceCancel (r : Req)
  /-- TWIN_HANDOVER (R495): Sets HANDOVER_ASK on an Active owner. -/
  | twinHandover (r : Req)
  /-- TWIN_QUIESCE (R495): Withholds new recipes until a quiesce barrier. -/
  | twinQuiesce (r : Req)
  /-- REFILL_TICK (R503): Every 1 µs buckets are refilled and held requests are coloured again. -/
  | refillTick
  /-- HOLD_LIMIT_EXPIRY (R510): A held request reaches HOLD_LIMIT and is answered RETRY with those behind it. -/
  | holdLimitExpiry (sub port vc : Nat)
  /-- QUEUE_SAMPLE (R516): Every 10 µs each leaf, class queue and hold FIFO is sampled into histograms. -/
  | queueSample
  /-- HISTOGRAM_CLEAR (R517): Zeroes the histograms of one subscriber, or all, at the next sample. -/
  | histogramClear (r : Req) (slot : Nat)
  /-- POWER_SAMPLE (R521): Every 10 µs rails are sampled, the peak reserve is updated and energy is integrated. -/
  | powerSample (rails : List (Machine.Rail × Nat × Nat))
  /-- GOVERNOR_TICK (R523): Every 100 µs the governor sets admission shares and the throttle state. -/
  | governorTick
  /-- FREQ_STEP (R540): A cluster frequency moves one 0.1 GHz step each 1 µs toward its cap. -/
  | freqStep (cluster : Nat)
  /-- NAP_ALLOWANCE (R529): A Nap wake held for current allowance is released at the next 1 µs of global time. -/
  | napAllowance
  /-- IDLE_TIMER_EXPIRY (R534): A unit idle for IDLE_TIMER chooses and enters a power state. -/
  | idleTimerExpiry (unit : Nat)
  /-- CALENDAR_WAKE (R534): A calendar entry wakes a unit to do its event and choose again. -/
  | calendarWake (unit : Nat)
  /-- POWER_ENTRY_DONE (R535): A cluster or stack finishes entering Nap, Doze or Deep. -/
  | powerEntryDone (unit : Nat)
  /-- WAKE_REQUEST (R36): A request reaches a crossing into a sleeping island, which is held and woken. -/
  | wakeRequest (unit : Nat)
  /-- WAKE_COMPLETE (R537): A unit finishes its wake and held requests are delivered. -/
  | wakeComplete (unit : Nat)
  /-- JOB_OPEN (R544): Opens a job and records energy and time. -/
  | jobOpen (r : Req) (job tenant : Nat)
  /-- JOB_CLOSE (R544): Closes a job and computes its energy. -/
  | jobClose (r : Req) (job : Nat)
  /-- QUIET_HINT (R533): Sets or clears the quiet horizon of named units. -/
  | quietHint (r : Req) (clusters stackList stop : Nat)
  /-- JOB_STEP_TIMER (R533): Sets or clears a periodic job-step wake for named units. -/
  | jobStepTimer (r : Req) (job first period lead clusters stackList : Nat)
  /-- GET_VERSION (R554): SPDM version request, answered with version 1.3. -/
  | getVersion (r : Req)
  /-- GET_CAPABILITIES (R554): SPDM capabilities request. -/
  | getCapabilities (r : Req) (flags : Nat)
  /-- NEGOTIATE_ALGORITHMS (R554): SPDM algorithm negotiation. -/
  | negotiateAlgorithms (r : Req) (offered : Nat)
  /-- GET_DIGESTS (R553): SPDM request for certificate chain digests. -/
  | getDigests (r : Req)
  /-- GET_CERTIFICATE (R553): SPDM request for the slot 0 certificate chain. -/
  | getCertificate (r : Req) (slot offset length : Nat)
  /-- CHALLENGE (R554): SPDM challenge, answered with a signed response. -/
  | challenge (r : Req) (slot nonce : Nat)
  /-- GET_MEASUREMENTS (R555): Returns the measurement blocks signed with the Alias key. -/
  | getMeasurements (r : Req) (index nonce : Nat)
  /-- KEY_EXCHANGE (R556): Starts an SPDM session. -/
  | keyExchange (r : Req) (exchange nonce : Nat)
  /-- FINISH (R556): Completes a session and assigns its role. -/
  | finish (r : Req) (session sig : Nat) (signer : Option Nat)
  /-- SPDM_HEARTBEAT (R557): Keeps an SPDM session alive. -/
  | spdmHeartbeat (r : Req) (session : Nat)
  /-- KEY_UPDATE (R557): Updates a session's keys. -/
  | keyUpdate (r : Req) (session : Nat)
  /-- END_SESSION (R557): Ends an SPDM session. -/
  | endSession (r : Req) (session : Nat)
  /-- SPDM_HEARTBEAT_TIMEOUT (R557): A session misses three heartbeat periods and ends. -/
  | spdmHeartbeatTimeout (session : Nat)
  /-- TENANT_CREATE (R549): Creates a tenant record with its authentication key. -/
  | tenantCreate (r : Req) (tenant key : Nat)
  /-- TENANT_RETIRE (R550): Ends a tenant's sessions, destroys its keys and frees its record. -/
  | tenantRetire (r : Req) (tenant : Nat)
  /-- TENANT_SEAL (R551): Sets the tenant's SEALED flag. -/
  | tenantSeal (r : Req)
  /-- MEM_KEY_SET (R558): Installs a tenant memory key. -/
  | memKeySet (r : Req) (peerTenant keyId key : Nat)
  /-- MEM_KEY_DESTROY (R558): Flushes a key's pantry lines and zeroises the key. -/
  | memKeyDestroy (r : Req) (peerTenant keyId : Nat)
  /-- JOB_KEY_SET (R568): Installs a job key generation with its switch time. -/
  | jobKeySet (r : Req) (peerTenant job gen key switchAt : Nat)
  /-- JOB_BIND (R564): Binds EIDs to a job of the tenant. -/
  | jobBind (r : Req) (peerTenant job : Nat) (eids : List Nat)
  /-- JOB_KEY_DESTROY (R564): Ends a binding, or destroys a job and all its bindings. -/
  | jobKeyDestroy (r : Req) (peerTenant job eid : Nat)
  /-- KERNEL_SIGN_KEY_SET (R558): Installs a tenant kernel-signing public key. -/
  | kernelSignKeySet (r : Req) (peerTenant keyId key : Nat)
  /-- JOB_KEY_SWITCH (R568): At switch time T, new exchanges use the new job key generation. -/
  | jobKeySwitch (job : Nat)
  /-- JOB_KEY_RETIRE_OLD (R568): 16 ms after a switch or epoch change, the former key is destroyed. -/
  | jobKeyRetireOld (job : Nat)
  /-- DEBUG_CHALLENGE (R571): Returns a fresh challenge and voids the previous one. -/
  | debugChallenge (r : Req)
  /-- DEBUG_TOKEN (R571): Checks a debug token and sets the debug level, erasing keys at level 2. -/
  | debugToken (r : Req) (token : List Byte)
  /-- DEBUG_WITHDRAW (R572): Ends the debug token in force. -/
  | debugWithdraw (r : Req)
  /-- DEBUG_KEY_SET (R570): Registers the operator debug key. -/
  | debugKeySet (r : Req) (key : Nat)
  /-- DEBUG_TOKEN_EXPIRY (R572): A debug token reaches NOT_AFTER, or 10 minutes before time lock, and ends. -/
  | debugTokenExpiry
  /-- BRINGUP_STEP_DONE (R579): A bring-up step completes and the next step begins, up to Ready. -/
  | bringupStepDone (failed : List Nat)
  /-- BRINGUP_STEP_TIMEOUT (R581): A bring-up step exceeds its maximum and bring-up stops with status 0xF. -/
  | bringupStepTimeout
  /-- REHEAT_STEP_DONE (R584): A step of the reheat path completes and the next begins. -/
  | reheatStepDone (failed : List Nat)
  /-- RESET_CORE (R586): Resets one core, draining it. -/
  | resetCore (r : Req) (core : Nat)
  /-- RESET_CLUSTER (R586): Resets one cluster, absorbing its outstanding work. -/
  | resetCluster (r : Req) (cluster : Nat)
  /-- RESET_PARTITION (R586): Resets a partition's clusters and channels. -/
  | resetPartition (r : Req) (part : Nat)
  /-- RESET_PACKAGE (R583): Starts a package warm reset after aborting outstanding work. -/
  | resetPackage (r : Req)
  /-- PARTIAL_RESET_DONE (R586): A core, cluster or partition reset completes and epochs advance. -/
  | partialResetDone (kind unit : Nat)
  /-- CORE_RESET_ESCALATE (R587): A core reset not complete in 100 µs escalates to its cluster. -/
  | coreResetEscalate (core : Nat)
  /-- CLUSTER_RESET_TIMEOUT (R587): A cluster reset not complete in 1 ms retires its cores. -/
  | clusterResetTimeout (cluster : Nat)
  /-- RETIRE_UNIT (R593): Retires a unit and brings in a spare. -/
  | retireUnit (r : Req) (kind unit : Nat)
  /-- SPARE_BRINGIN_DONE (R594): A spare core passes BIST, its epoch advances and it joins the enabled cores. -/
  | spareBringinDone (core : Nat) (ok : Bool)
  /-- SERVICE_MODE_WRITE (R597): Enters or leaves the FL-1 service state. -/
  | serviceModeWrite (r : Req) (value : Nat)
  /-- SERVICE_OUT (R598): Takes a unit out of service. -/
  | serviceOut (r : Req) (kind unit : Nat)
  /-- SERVICE_RECAL (R598): Recalibrates or tests a unit out of service. -/
  | serviceRecal (r : Req) (kind unit : Nat)
  /-- SERVICE_REPLACE (R598): Brings in a spare for a core out of service. -/
  | serviceReplace (r : Req) (kind unit : Nat)
  /-- SERVICE_IN (R598): Returns a unit to service. -/
  | serviceIn (r : Req) (kind unit : Nat)
  /-- FW_BEGIN (R607): Checks an image header, starts staging and erases the staging bank. -/
  | fwBegin (r : Req) (header : List Byte)
  /-- FW_ERASE_DONE (R607): The background erase of staging blocks completes. -/
  | fwEraseDone (blocks : Nat)
  /-- FW_BLOCK (R608): Programs one 512-byte image block and reads it back. -/
  | fwBlock (r : Req) (block crc : Nat) (data : List Byte)
  /-- FW_VERIFY (R609): Starts the check of the staged image. -/
  | fwVerify (r : Req)
  /-- FW_VERIFY_DONE (R609): The staged image check completes as Verified or Failed. -/
  | fwVerifyDone
  /-- FW_ACTIVATE (R612): Sets the staging bank to Trial and reboots management from it. -/
  | fwActivate (r : Req)
  /-- FW_SELFCHECK_DONE (R612): The new runtime's self-check passes, or the activation rolls back. -/
  | fwSelfcheckDone (ok : Bool)
  /-- FW_PAUSE_END (R612): Engine firmware is loaded, dispatch resumes and the commit begins. -/
  | fwPauseEnd
  /-- FW_COPY_DONE (R611): The commit copy completes and both banks become Good. -/
  | fwCopyDone
  /-- FW_ABORT (R609): Empties the staging bank. -/
  | fwAbort (r : Req)
  /-- FW_RAISE_SVN (R604): Raises MIN_SVN to the running image's SVN. -/
  | fwRaiseSvn (r : Req)
  /-- BAKER_WATCHDOG (R643): Baker's runtime has not served its watchdog for 2 s, and a management reheat starts. -/
  | bakerWatchdog (die : Nat)
  /-- MGMT_REHEAT_DONE (R643): A Baker pair finishes its reheat and queued notifications are delivered. -/
  | mgmtReheatDone (die : Nat)
  /-- HANDSHAKE_TIMEOUT (R644): An offer at a crossing waits 20 µs and its receiver is reset. -/
  | handshakeTimeout (kind unit : Nat)
  /-- DIE1_TIME_SYNC (R618): Every 1 µs Die 1 takes time from Die 0 over the bridge. -/
  | die1TimeSync
  /-- HOLDOVER_ENTRY (R620): No valid TIME_SYNC for 10 ms, and the time island enters Holdover. -/
  | holdoverEntry
  /-- TIME_ROOT_WRITE (R621): Writing TIME_ROOT moves Die 0's time island to Root or Holdover. -/
  | timeRootWrite (r : Req) (value : Nat)
  /-- TIME_SET (R621): Sets the root's global time counter. -/
  | timeSet (r : Req) (time frac : Nat)
  /-- COUNTER_SNAPSHOT (R626): Schedules a copy of every counter at time T. -/
  | counterSnapshot (r : Req) (t : Nat)
  /-- SNAPSHOT_AT_T (R626): At time T every counter of both dies is copied. -/
  | snapshotAtT
  /-- CRUMB_READ (R630): Returns a crumb ring, or sends it to a sink. -/
  | crumbRead (r : Req) (kind unit : Nat) (sink : Option Nat)
  /-- CRUMB_RELEASE (R630): Unfreezes a crumb ring. -/
  | crumbRelease (r : Req) (kind unit : Nat)
  /-- CRUMB_RING_UNFREEZE (R630): A frozen ring unfreezes itself 10 s after freezing. -/
  | crumbRingUnfreeze (kind unit : Nat)
  /-- TENSOR_REGISTER (R633): Binds or removes a tensor name over a span. -/
  | tensorRegister (r : Req) (name : List Byte) (ctx addr length format : Nat)
  /-- DUMP_ARM (R634): Arms a tensor dump on a step mark. -/
  | dumpArm (r : Req) (name : List Byte) (sink mark step bufPa bufLen : Nat)
  /-- DUMP_CANCEL (R637): Cancels an armed or running dump. -/
  | dumpCancel (r : Req) (dump : Nat)
  /-- DUMP_CUT (R635): At T_s the cut is taken, holders are downgraded and copy-on-write starts. -/
  | dumpCut (dump : Nat)
  /-- DUMP_STREAM_SEND (R636): The next dump packet is sent when the observation cap allows. -/
  | dumpStreamSend (dump : Nat)
  /-- DEBUG_STOP (R638): Schedules a freeze of the package at time T. -/
  | debugStop (r : Req) (t : Nat)
  /-- DEBUG_FREEZE (R638): At time T every fabric, cluster and DRAM PHY island freezes. -/
  | debugFreeze
  /-- DEBUG_RESUME (R641): Schedules the resume at T_r. -/
  | debugResume (r : Req) (t : Nat)
  /-- DEBUG_THAW (R641): At T_r the islands resume, leases restart and channel states are delivered. -/
  | debugThaw
  /-- KODP_FRAGMENT (R654): A KODP fragment on UDP, VC7 or KSL is reassembled into a message, which is queued. -/
  | kodpFragment (client : Client) (bytes : List Byte)
  /-- REASSEMBLY_TIMEOUT (R654): A reassembly incomplete after 100 ms is discarded. -/
  | reassemblyTimeout (client : Client) (reqId : Nat)
  /-- OBJECT_WRITE (R667): A WRITE message sets an object without behaviour of its own. -/
  | objectWrite (r : Req) (obj : Obj) (value : Nat)
  /-- TABLE_PUT (R675): Inserts or replaces table rows atomically. -/
  | tablePut (r : Req) (table : TableId) (rows : List Row)
  /-- TABLE_DELETE (R675): Removes table rows atomically. -/
  | tableDelete (r : Req) (table : TableId) (keys : List (List Nat))
  /-- SUBSCRIBE (R677): Adds the notification codes the message's roles may receive. -/
  | subscribe (r : Req) (codes : List Nat)
  /-- UNSUBSCRIBE (R652): Removes notification codes from a subscription. -/
  | unsubscribe (r : Req) (codes : List Nat)
  /-- PING (R652): Keeps a client lease alive and returns its remaining time. -/
  | ping (r : Req)
  /-- SECURED (R660): A secured message is decrypted and its inner KODP message executed in the session. -/
  | secured (client : Client) (session : Nat) (cipher : List Byte)
  /-- KODP_OPERATION_TIMEOUT (R669): An operation has no reply after 500 ms, or 3 ms on VC7, and is answered TIMEOUT while it runs on. -/
  | kodpOperationTimeout (r : Req)
  /-- COMMAND_DONE (R669): A command answered TIMEOUT ends and its outcome is sent to the invoking client. -/
  | commandDone (r : Req) (status : Status)
  /-- CLIENT_LEASE_EXPIRY (R677): A client outside a session sends nothing for CLIENT_LEASE and its subscription ends. -/
  | clientLeaseExpiry (client : Client)
  /-- REPLY_CACHE_EXPIRY (R670): A cached reply older than 10 s is dropped. -/
  | replyCacheExpiry (r : Req)
  /-- MGMT_FRAME (R656): An Ethernet frame on the management lane is answered as ARP, NDP, ICMP or KODP over UDP, or discarded. -/
  | mgmtFrame (frame : List Byte)
  /-- PORESET_RELEASE (R71): PORESET_N rises through the input-high level and the time island starts counting toward the strap sample. -/
  | poresetRelease
  /-- MALFORMED_PACKET (R158): A packet with a reserved opcode, or an opcode not valid on its port type, arrives and is answered UNSUPPORTED or discarded and counted. -/
  | malformedPacket (port : Nat) (p : Packet)
  /-- RECIPE_RESERVED_CODE (R355): A RECIPE whose CODE is reserved arrives and is answered RECIPE_DONE UNSUPPORTED with no record. -/
  | recipeReservedCode (port : Nat) (p : Packet)
  /-- MGMT_LINK_CHANGE (R97): The management-lane 10GBASE-R link goes up or down and MGMT_LINK changes. -/
  | mgmtLinkChange (up : Bool)
  /-- MGMT_REHEAT_WINDOW_EXPIRY (R643): 60 s pass with no further management reheat and status code 0xE is withdrawn. -/
  | mgmtReheatWindowExpiry
  /-- BALLAST_RAMP_DOWN_DONE (R528): Ballast finishes ramping down, stops counting as committed power, and TP4 is driven low if the fall was announced. -/
  | ballastRampDownDone
  /-- MR_ACK_REPORT_TIMER (R470): A standby sends MR_ACK with its highest contiguous MSEQ per stream at least every 10 µs. -/
  | mrAckReportTimer
  /-- LAMP_INPUT_DARK (R481): No good hold frame has arrived on a lamp input for 10 µs and the input becomes dark. -/
  | lampInputDark (lamp : Nat)
  /-- RELEASE_CODE_EXPIRY (R484): A held release code is 10 ms old and no longer counts toward takeover. -/
  | releaseCodeExpiry
deriving DecidableEq, Repr

end Sys2Proof
end

