-- ==== Sys2Proof/Decode.lean ====
section
/-!
DEFINITION. Decode.lean: the command a word of the table spells.  No row of the table gives bits, so no word spells one.
-/
namespace Sys2Proof

/-- The command spelled by `nbits` bits `w` of the table: none, since the table gives no row an encoding. -/
def decodeTableWord (_nbits _w : Nat) : Option Instr := none

end Sys2Proof
end

