-- ==== Sys2Proof/Machine/Assoc.lean ====
section
/-!
DEFINITION. Machine/Assoc.lean: finite tables as association lists: look up, set, remove.
-/
namespace Sys2Proof

/-- The value of key `k`, if the table has one. -/
def aget {K V : Type} [DecidableEq K] : Assoc K V → K → Option V
  | [], _ => none
  | (k', v) :: t, k => if k' = k then some v else aget t k

/-- The value of key `k`, or `d` where the table has none. -/
def agetD {K V : Type} [DecidableEq K] (t : Assoc K V) (k : K) (d : V) : V := (aget t k).getD d

/-- The table with `k` set to `v`, in the place `k` had, or at the end. -/
def aset {K V : Type} [DecidableEq K] : Assoc K V → K → V → Assoc K V
  | [], k, v => [(k, v)]
  | (k', v') :: t, k, v => if k' = k then (k, v) :: t else (k', v') :: aset t k v

/-- The table without `k`. -/
def adel {K V : Type} [DecidableEq K] (t : Assoc K V) (k : K) : Assoc K V := t.filter (fun e => e.1 ≠ k)

/-- The table with the value of `k` (or `d`) changed by `f`. -/
def amod {K V : Type} [DecidableEq K] (t : Assoc K V) (k : K) (d : V) (f : V → V) : Assoc K V :=
  aset t k (f (agetD t k d))

/-- Whether the table has key `k`. -/
def ahas {K V : Type} [DecidableEq K] (t : Assoc K V) (k : K) : Bool := (aget t k).isSome

end Sys2Proof
end

