-- ==== Sys2Proof/Machine/StateCore.lean ====
section
/-!
DEFINITION. Machine/StateCore.lean: the cores, their trays, the threads of the kernel ISA, exact accumulators and the
kernel store (R407, R427 to R461).
-/
namespace Sys2Proof.Machine

/-- An exact accumulator (R407): A in −2⁵⁷⁵ ≤ A < 2⁵⁷⁵, CARRY, and the six flags. -/
structure Acc where
  a       : Int
  carry   : Int
  nan     : Bool
  pinf    : Bool
  ninf    : Bool
  poison  : Bool
  any     : Bool
  notNeg0 : Bool
deriving DecidableEq, Repr

/-- The empty accumulator: all zeros (R407). -/
def Acc.empty : Acc :=
  { a := 0, carry := 0, nan := false, pinf := false, ninf := false, poison := false, any := false, notNeg0 := false }

/-- What an outstanding pool access of a thread is. -/
inductive AccKind where
  /-- A load of `size` bytes into x[RT], sign-extended or not. -/
  | load (rt size : Nat) (signed : Bool)
  /-- A load of one or two vectors from v[VT]. -/
  | vload (vt n : Nat)
  /-- A store of bytes under a byte mask, the whole poisoned or not. -/
  | store (data : List Byte) (mask : Nat) (poison full : Bool)
  /-- PAMO: sub-operation, operands A and B, destination (R162). -/
  | amo (subop a b rd : Nat)
  /-- LSWAP and LCAS (R450): new line, comparand, destination vector, predicate. -/
  | line (cas : Bool) (new old : List Byte) (vc pd : Nat)
deriving DecidableEq, Repr

/-- An outstanding pool access: its number in the thread, context address, what it translated to at issue, MAJOR and PC of
its instruction, and its kind. -/
structure Access where
  n     : Nat
  addr  : Nat
  pa    : Nat
  tenant : Nat
  keyId : Nat
  tier  : Nat
  major : Nat
  pc    : Nat
  kind  : AccKind
deriving DecidableEq, Repr

/-- An exception met by a thread (R453, R454). -/
structure Exc where
  cause  : Nat
  thread : Nat
  pc     : Nat
  major  : Nat
  detail : Nat
deriving DecidableEq, Repr

/-- A hardware thread (R429, R433): registers absent from a table hold their launch value, zero and not poisoned. -/
structure Thread where
  x        : Assoc Nat (Word64 × Bool)
  v        : Assoc Nat (Vec512 × Bool)
  acc      : Assoc Nat Acc
  p        : Assoc Nat Word64
  pc       : Nat
  exited   : Bool
  /-- Waiting at BAR or BARF (R448). -/
  atBar    : Bool
  accesses : List Access
  nextAcc  : Nat
  /-- ACCESS_TIMEOUT or INTEGRITY detected and not yet taken, with the register it would have written (R454). -/
  late     : List (Exc × Nat)
deriving DecidableEq, Repr

/-- A 64 KiB page of a context as a tile has translated it (R219, R231): PA, TENANT, KEY_ID and TIER. -/
structure Page where
  pa     : Nat
  tenant : Nat
  keyId  : Nat
  tier   : Nat
deriving DecidableEq, Repr

/-- How a kernel tile stands: it runs; or it has ended, or is to run again, and waits for the stores its threads have retired
(R449, R454, R455). -/
inductive TileEnd where
  | running
  | ended
  | rerun
deriving DecidableEq, Repr

/-- The tile a core runs: a recipe tile (no threads) or a kernel tile. -/
structure CoreTile where
  recipe  : Nat
  tile    : Nat
  stolen  : Bool
  /-- Its check step passed (R362); for a kernel tile, its first instruction may issue (R431). -/
  checked : Bool
  kernel  : Bool
  handle  : Nat
  textLen : Nat
  tray    : Nat
  threads : Assoc Nat Thread
  ending    : TileEnd
  /-- The pages the tile has translated, by context address / 65,536. -/
  pages   : Assoc Nat Page
  /-- The lines PUBLISH has visited in its sweep (R264). -/
  visited : List Nat
deriving DecidableEq, Repr

/-- A core: what it runs, its tray (bytes that differ from zero), its poisoned tray blocks, each with the bytes written clean since it
was marked (R325, R448), the tenant whose data
the tray holds (R41), and the kernel text resident in its engines (R430). -/
structure Core where
  run        : Option CoreTile
  tray       : List Host.Cell
  trayPoison : Assoc Nat Nat
  trayTenant : Nat
  resident   : Option Nat
  /-- The thread slot of each engine that issued last (R31). -/
  turns      : Assoc Nat Nat
deriving DecidableEq, Repr

/-- A core that has done nothing: idle, its tray zeros. -/
def Core.reset : Core := { run := none, tray := [], trayPoison := [], trayTenant := 0, resident := none, turns := [] }

/-- An entry of the kernel store (R457, R459, R460). -/
structure Kernel where
  ctx      : Nat
  addr     : Nat
  textLen  : Nat
  tray     : Nat
  signer   : Nat
  tenant   : Nat
  keyId    : Nat
  imageId  : Nat
  entries  : List Nat
  text     : List Nat
  sha      : Nat
  loadedAt : Nat
deriving DecidableEq, Repr

/-- Cores and kernel store. -/
structure CoreState where
  cores : Assoc Nat Core
  store : Assoc Nat Kernel
deriving DecidableEq, Repr

/-- Every core idle; a package-level reset empties the store (R459). -/
def CoreState.reset : CoreState := { cores := [], store := [] }

end Sys2Proof.Machine
end

