-- ==== Sys2Proof/Machine/Operands.lean ====
section
/-!
DEFINITION. Machine/Operands.lean: number formats, exact values, rounding, and the elements of vectors and lines
(R397 to R403, R412 to R418, R422, R423, R435, R447).
-/
namespace Sys2Proof.Machine

/-- The element formats of R399 and R435. -/
inductive Fmt where
  | int64
  | int32
  | int16
  | int8
  | int4
  | binary32
  | binary16
  | bfloat16
  | e4m3
  | e5m2
  | e2m3
  | e3m2
  | e2m1
deriving DecidableEq, Repr

/-- The register format codes of R435; 0xD to 0xF are reserved. -/
def Fmt.ofReg : Nat → Option Fmt
  | 0 => some .int64 | 1 => some .int32 | 2 => some .int16 | 3 => some .int8 | 4 => some .int4 | 5 => some .binary32
  | 6 => some .binary16 | 7 => some .bfloat16 | 8 => some .e4m3 | 9 => some .e5m2 | 10 => some .e2m3
  | 11 => some .e3m2 | 12 => some .e2m1 | _ => none

/-- Bits of an element (R435). -/
def Fmt.bits : Fmt → Nat
  | .int64 => 64 | .int32 => 32 | .int16 => 16 | .int8 => 8 | .int4 => 4 | .binary32 => 32 | .binary16 => 16
  | .bfloat16 => 16 | .e4m3 => 8 | .e5m2 => 8 | .e2m3 => 6 | .e3m2 => 6 | .e2m1 => 4

/-- Elements of a 512-bit register (R435): the 6-bit formats hold 64 and ignore the top bits. -/
def Fmt.count (f : Fmt) : Nat := match f with | .e2m3 | .e3m2 => 64 | _ => 512 / f.bits

/-- Whether a format is an integer format. -/
def Fmt.isInt : Fmt → Bool
  | .int64 | .int32 | .int16 | .int8 | .int4 => true
  | _ => false

/-- Mantissa bits (R399). -/
def Fmt.man : Fmt → Nat
  | .binary32 => 23 | .binary16 => 10 | .bfloat16 => 7 | .e4m3 => 3 | .e5m2 => 2 | .e2m3 => 3 | .e3m2 => 2 | .e2m1 => 1
  | _ => 0

/-- Exponent bits (R399). -/
def Fmt.expBits (f : Fmt) : Nat := if f.isInt then 0 else f.bits - 1 - f.man

/-- Exponent bias (R399). -/
def Fmt.bias : Fmt → Int
  | .binary32 => 127 | .binary16 => 15 | .bfloat16 => 127 | .e4m3 => 7 | .e5m2 => 15 | .e2m3 => 1 | .e3m2 => 3 | .e2m1 => 1
  | _ => 0

/-- Whether the format keeps its all-ones exponent for infinities and NaNs (R399). -/
def Fmt.ieee : Fmt → Bool
  | .binary32 | .binary16 | .bfloat16 | .e5m2 => true
  | _ => false

/-- Max finite value as m × 2^e (R399). -/
def Fmt.maxFin : Fmt → Nat × Int
  | .binary32 => (2 ^ 24 - 1, 104) | .binary16 => (2 ^ 11 - 1, 5) | .bfloat16 => (2 ^ 8 - 1, 120) | .e4m3 => (7, 6)
  | .e5m2 => (7, 13) | .e2m3 => (15, -1) | .e3m2 => (7, 2) | .e2m1 => (3, 1) | _ => (0, 0)

/-- The NaN the Varisk writes (R399). -/
def Fmt.nanBits : Fmt → Nat
  | .binary32 => 0x7FC00000 | .binary16 => 0x7E00 | .bfloat16 => 0x7FC0 | .e4m3 => 0x7F | .e5m2 => 0x7E | _ => 0

/-- An exact value: NaN, an infinity, or ±m × 2^e; zero keeps its sign. -/
inductive Val where
  | nan
  | inf (neg : Bool)
  | fin (neg : Bool) (m : Nat) (e : Int)
deriving DecidableEq, Repr

/-- Exact positive zero. -/
def Val.zero : Val := .fin false 0 0

/-- An integer as an exact value. -/
def Val.ofInt (n : Int) : Val := .fin (decide (n < 0)) n.natAbs 0

/-- The two's complement integer of `w` bits. -/
def signed (w v : Nat) : Int := if v % 2 ^ w < 2 ^ (w - 1) then (v % 2 ^ w : Nat) else (v % 2 ^ w : Nat) - (2 ^ w : Nat)

/-- The `w` low bits of an integer. -/
def wrap (w : Nat) (n : Int) : Nat := (n % (2 ^ w : Nat)).toNat

/-- The value an element's bits encode (R399, R400). -/
def decode (f : Fmt) (v : Nat) : Val :=
  if f.isInt then Val.ofInt (signed f.bits v) else
    let s := decide (bits v (f.bits - 1) 1 = 1)
    let ex := bits v f.man f.expBits
    let m := bits v 0 f.man
    if f.ieee && ex == 2 ^ f.expBits - 1 then (if m = 0 then .inf s else .nan)
    else if f == .e4m3 && ex == 15 && m == 7 then .nan
    else if ex = 0 then .fin s m (1 - f.bias - f.man)
    else .fin s (2 ^ f.man + m) (ex - f.bias - f.man)

/-- m × 2^e as an integer times 2^q, rounded to nearest with ties to even (R412, R414). -/
def roundEven (m : Nat) (e q : Int) : Nat :=
  if e ≥ q then m * 2 ^ (e - q).toNat else
    let k := (q - e).toNat
    let n := m / 2 ^ k
    let r := m % 2 ^ k
    if 2 * r > 2 ^ k || (2 * r == 2 ^ k && n % 2 == 1) then n + 1 else n

/-- Whether a × 2^ea exceeds b × 2^eb. -/
def dyGt (a : Nat) (ea : Int) (b : Nat) (eb : Int) : Bool :=
  let e := min ea eb
  decide (a * 2 ^ (ea - e).toNat > b * 2 ^ (eb - e).toNat)

/-- Minimum normal exponent (R412). -/
def Fmt.emin (f : Fmt) : Int := 1 - f.bias

/-- Weight exponent of the last kept bit of m × 2^e (R412). -/
def Fmt.q (f : Fmt) (m : Nat) (e : Int) : Int := max ((Nat.log2 m : Int) + e) f.emin - f.man

/-- The bits of ±n × 2^q, n < 2^(man + 1) or equal to it. -/
def encodeFin (f : Fmt) (s : Bool) (n : Nat) (q : Int) : Nat :=
  let sb := if s then 2 ^ (f.bits - 1) else 0
  let (n, q) := if n = 2 ^ (f.man + 1) then (2 ^ f.man, q + 1) else (n, q)
  if n < 2 ^ f.man then sb + n else sb + (q + f.man + f.bias).toNat * 2 ^ f.man + (n - 2 ^ f.man)

/-- What a written element counts as (R413). -/
structure Written where
  bits      : Nat
  nonfinite : Bool
  saturated : Bool
  nanToInt  : Bool
deriving DecidableEq, Repr

/-- A plain written element. -/
def Written.of (b : Nat) : Written := { bits := b, nonfinite := false, saturated := false, nanToInt := false }

/-- Overflow or infinity of sign `s` in a floating-point format (R413); `sat` saturates whatever E4M3_OVERFLOW holds. -/
def writeInf (f : Fmt) (e4m3Nan : Bool) (s : Bool) : Written :=
  if f.ieee then { Written.of ((if s then 2 ^ (f.bits - 1) else 0) + (2 ^ f.expBits - 1) * 2 ^ f.man) with nonfinite := true }
  else if f == .e4m3 && e4m3Nan then { Written.of f.nanBits with nonfinite := true }
  else { Written.of ((if s then 2 ^ (f.bits - 1) else 0) + (if f == .e4m3 then 0x7E else 2 ^ (f.bits - 1) - 1)) with saturated := true }

/-- The extreme integer of a sign (R413, R414). -/
def writeExtreme (f : Fmt) (s : Bool) : Written :=
  { Written.of (if s then 2 ^ (f.bits - 1) else 2 ^ (f.bits - 1) - 1) with saturated := true }

/-- A value written in a format, rounded once to nearest even (R412 to R414, R416). -/
def writeVal (f : Fmt) (e4m3Nan : Bool) (v : Val) : Written :=
  if f.isInt then
    match v with
    | .nan => { Written.of 0 with nanToInt := true }
    | .inf s => writeExtreme f s
    | .fin s m e =>
      let n := roundEven m e 0
      if s then (if n > 2 ^ (f.bits - 1) then writeExtreme f true else Written.of (wrap f.bits (-(n : Int))))
      else (if n ≥ 2 ^ (f.bits - 1) then writeExtreme f false else Written.of n)
  else
    match v with
    | .nan => { Written.of f.nanBits with nonfinite := true }
    | .inf s => writeInf f e4m3Nan s
    | .fin s m e =>
      if m = 0 then Written.of (if s then 2 ^ (f.bits - 1) else 0) else
        let q := f.q m e
        let n := roundEven m e q
        if dyGt n q f.maxFin.1 f.maxFin.2 then writeInf f e4m3Nan s else Written.of (encodeFin f s n q)

/-- The sign of a value; NaN has none. -/
def Val.neg : Val → Bool
  | .nan => false
  | .inf s => s
  | .fin s _ _ => s

/-- The value with its sign changed; NaN signs are not carried (R403). -/
def Val.negate : Val → Val
  | .nan => .nan
  | .inf s => .inf (!s)
  | .fin s m e => .fin (!s) m e

/-- The magnitude. -/
def Val.abs : Val → Val
  | .nan => .nan
  | .inf _ => .inf false
  | .fin _ m e => .fin false m e

/-- The exact product (R405). -/
def Val.mul : Val → Val → Val
  | .nan, _ => .nan
  | _, .nan => .nan
  | .inf s, .inf t => .inf (s != t)
  | .inf s, .fin t m _ => if m = 0 then .nan else .inf (s != t)
  | .fin t m _, .inf s => if m = 0 then .nan else .inf (s != t)
  | .fin s m e, .fin t n d => .fin (s != t) (m * n) (e + d)

/-- A finite value as an integer times 2^e. -/
def dyInt (s : Bool) (m : Nat) (d e : Int) : Int := (if s then -1 else 1) * ((m * 2 ^ (d - e).toNat : Nat) : Int)

/-- The exact sum; opposite zeros give +0, as round-to-nearest does (R441). -/
def Val.add : Val → Val → Val
  | .nan, _ => .nan
  | _, .nan => .nan
  | .inf s, .inf t => if s = t then .inf s else .nan
  | .inf s, .fin _ _ _ => .inf s
  | .fin _ _ _, .inf s => .inf s
  | .fin s m e, .fin t n d =>
    if m = 0 ∧ n = 0 then .fin (s && t) 0 0 else
      let g := min e d
      let r := dyInt s m e g + dyInt t n d g
      .fin (decide (r < 0)) r.natAbs g

/-- The quotient, with a last bit that keeps whether it was exact, so that rounding to any format of 24 bits or fewer is
correct (R441). -/
def Val.div : Val → Val → Val
  | .nan, _ => .nan
  | _, .nan => .nan
  | .inf _, .inf _ => .nan
  | .inf s, .fin t _ _ => .inf (s != t)
  | .fin s _ _, .inf t => .fin (s != t) 0 0
  | .fin s m e, .fin t n d =>
    if n = 0 then (if m = 0 then .nan else .inf (s != t)) else
      let k := 64 + Nat.log2 n
      let a := m * 2 ^ k
      .fin (s != t) (2 * (a / n) + (if a % n = 0 then 0 else 1)) (e - d - k - 1)

/-- Integer square root, bit by bit. -/
def isqrt (n : Nat) : Nat → Nat → Nat
  | 0, r => r
  | b + 1, r => isqrt n b (if (r + 2 ^ b) * (r + 2 ^ b) ≤ n then r + 2 ^ b else r)

/-- The square root, with a last bit that keeps whether it was exact (R441). -/
def Val.sqrt : Val → Val
  | .nan => .nan
  | .inf s => if s then .nan else .inf false
  | .fin s m e =>
    if m = 0 then .fin s 0 0 else if s then .nan else
      let odd := (e % 2).toNat
      let n := m * 2 ^ (odd + 128)
      let r := isqrt n (Nat.log2 n / 2 + 1) 0
      .fin false (2 * r + (if r * r = n then 0 else 1)) ((e - odd) / 2 - 64 - 1)

/-- Order of values for selection: −0 below +0 (R417).  NaN does not occur. -/
def Val.le : Val → Val → Bool
  | .inf s, .inf t => s || !t
  | .inf s, .fin _ _ _ => s
  | .fin _ _ _, .inf t => !t
  | .fin s m e, .fin t n d =>
    if m = 0 ∧ n = 0 then s || !t else
      let g := min e d
      decide (dyInt s m e g ≤ dyInt t n d g)
  | _, _ => false

/-- The least (or greatest) of two values, NaN where either is NaN (R417). -/
def Val.sel (least : Bool) : Val → Val → Val
  | .nan, _ => .nan
  | _, .nan => .nan
  | a, b => if least then (if a.le b then a else b) else (if a.le b then b else a)

/-- Numeric comparison for VCMP: none where either is NaN; −0 equals +0 (R442). -/
def Val.cmp : Val → Val → Option Ordering
  | .nan, _ => none
  | _, .nan => none
  | .inf s, .inf t => some (if s = t then .eq else if s then .lt else .gt)
  | .inf s, .fin _ _ _ => some (if s then .lt else .gt)
  | .fin _ _ _, .inf t => some (if t then .gt else .lt)
  | .fin s m e, .fin t n d => let g := min e d; some (compare (dyInt s m e g) (dyInt t n d g))

/-- A value times 2^k. -/
def Val.scale (k : Int) : Val → Val
  | .fin s m e => .fin s m (e + k)
  | v => v

/-! ### Storage formats -/

/-- A format code of R397: a plain element format, or an MX format with its element type. -/
inductive Store where
  | plain (f : Fmt)
  | mx (f : Fmt)
deriving DecidableEq, Repr

/-- The format codes (R397); every other code is reserved. -/
def Store.ofCode : Nat → Option Store
  | 1 => some (.plain .binary32) | 2 => some (.plain .binary16) | 3 => some (.plain .bfloat16) | 4 => some (.plain .e4m3)
  | 5 => some (.plain .e5m2) | 6 => some (.plain .int8) | 7 => some (.plain .int4)
  | 0x10 => some (.mx .e4m3) | 0x11 => some (.mx .e5m2) | 0x12 => some (.mx .e2m3) | 0x13 => some (.mx .e3m2)
  | 0x14 => some (.mx .e2m1) | 0x15 => some (.mx .int8) | _ => none

/-- Bytes of an MX block's elements (R398). -/
def mxBlockBytes (f : Fmt) : Nat := 4 * f.bits
/-- Bytes of a whole MX unit (R397). -/
def mxUnitBytes (f : Fmt) : Nat := 128 + 128 * mxBlockBytes f
/-- Unit alignment (R397). -/
def Store.align : Store → Nat
  | .plain f => if f.bits ≤ 8 then 1 else f.bits / 8
  | .mx _ => 128
/-- Block size in elements (R397). -/
def Store.block : Store → Nat
  | .plain f => if f = .int4 then 2 else 1
  | .mx _ => 32
/-- Bytes that `n` elements occupy from their base (R397, R398). -/
def Store.bytes (t : Store) (n : Nat) : Nat :=
  match t with
  | .plain f => (n * f.bits + 7) / 8
  | .mx f =>
    let u := n / 4096
    let r := (n % 4096 + 31) / 32
    u * mxUnitBytes f + (if r = 0 then 0 else 128 + r * mxBlockBytes f)

/-- The bytes of element `e` (R397, R398): offset of the first byte, number of bytes, and bit of the element in them. -/
def Store.place (t : Store) (e : Nat) : Nat × Nat × Nat :=
  match t with
  | .plain f => if f.bits < 8 then (e / 2, 1, 4 * (e % 2)) else (e * (f.bits / 8), f.bits / 8, 0)
  | .mx f =>
    let base := e / 4096 * mxUnitBytes f + 128 + (e % 4096) / 32 * mxBlockBytes f
    let b := e % 32 * f.bits
    (base + b / 8, (b % 8 + f.bits + 7) / 8, b % 8)

/-- The byte offset of the scale of element `e`'s block (R398). -/
def scaleAt (f : Fmt) (e : Nat) : Nat := e / 4096 * mxUnitBytes f + (e % 4096) / 32

/-- The value of an MX element under its scale (R400, R401). -/
def mxValue (f : Fmt) (scale v : Nat) : Val :=
  if scale = 255 then .nan
  else if f = .int8 then ((decode .int8 v).scale (-6)).scale (scale - 127)
  else (decode f v).scale (scale - 127)

/-- The element at `e` of an operand, read through a byte reader from its base (R398 to R401). -/
def Store.read (t : Store) (rd : Nat → Nat) (e : Nat) : Val :=
  let (o, n, b) := t.place e
  let w := (List.range n).foldr (fun i acc => rd (o + i) + 256 * acc) 0
  match t with
  | .plain f => decode f (bits w b f.bits)
  | .mx f => mxValue f (rd (scaleAt f e)) (bits w b f.bits)

/-- The raw element bits at `e` (R418). -/
def Store.raw (t : Store) (rd : Nat → Nat) (e : Nat) : Nat :=
  let (o, n, b) := t.place e
  let w := (List.range n).foldr (fun i acc => rd (o + i) + 256 * acc) 0
  match t with
  | .plain f | .mx f => bits w b f.bits

/-- The largest exponent of an MX element type (R415). -/
def emaxE : Fmt → Int
  | .e4m3 => 8 | .e5m2 => 15 | .e2m3 => 2 | .e3m2 => 4 | .e2m1 => 2 | _ => 0

/-- Whether a value is written as a special of an MX block: NaN, or an infinity outside E5M2 (R415). -/
def mxSpecial (f : Fmt) : Val → Bool
  | .nan => true
  | .inf _ => f ≠ .e5m2
  | .fin _ _ _ => false

/-- floor(log2) of the larger of a running maximum and a value's magnitude; none while every value was 0 (R415). -/
def amaxLog (acc : Option Int) : Val → Option Int
  | .fin _ m e => if m = 0 then acc else
      let l := (Nat.log2 m : Int) + e
      match acc with | none => some l | some a => some (max a l)
  | _ => acc

/-- An MX output block (R415): its scale byte, and each element as written. -/
def writeMx (f : Fmt) (vs : List Val) : Nat × List Written :=
  if vs.any (mxSpecial f) then (255, vs.map (fun _ => { Written.of 0 with nonfinite := true })) else
    let x : Int := match vs.foldl amaxLog none with
      | none => -127
      | some l => max (-127) (min 127 (l - emaxE f))
    (wrap 8 (x + 127), vs.map (fun v =>
      match v with
      | .inf s => writeInf f false s
      | v =>
        if f = .int8 then writeVal .int8 false ((v.scale (-x)).scale 6) else
          let w := writeVal f false (v.scale (-x))
          if f.ieee && w.nonfinite then
            { Written.of ((if v.neg then 2 ^ (f.bits - 1) else 0) + ((2 ^ f.expBits - 1) * 2 ^ f.man - 1)) with saturated := true }
          else w))

/-! ### Stochastic rounding -/

/-- One round of R422. -/
def philoxRound (c : Nat × Nat × Nat × Nat) (k0 k1 : Nat) : Nat × Nat × Nat × Nat :=
  let p0 := 0xD2511F53 * c.1
  let p1 := 0xCD9E8D57 * c.2.2.1
  ((Nat.xor (Nat.xor (p1 / 2 ^ 32) c.2.1) k0) % 2 ^ 32, p1 % 2 ^ 32, (Nat.xor (Nat.xor (p0 / 2 ^ 32) c.2.2.2) k1) % 2 ^ 32, p0 % 2 ^ 32)

/-- The rounds of R422. -/
def philox : Nat → (Nat × Nat × Nat × Nat) → Nat → Nat → Nat
  | 0, c, _, _ => c.1
  | n + 1, c, k0, k1 => philox n (philoxRound c k0 k1) ((k0 + 0x9E3779B9) % 2 ^ 32) ((k1 + 0xBB67AE85) % 2 ^ 32)

/-- The draw of an output element (R422). -/
def draw (seed step a : Nat) : Nat :=
  philox 10 (bits a 0 32, bits a 32 32, bits step 0 32, bits step 32 32) (bits seed 0 32) (bits seed 32 32)

/-- A value rounded stochastically to a format with the draw `d` (R423), and whether a draw decided it. -/
def writeStochastic (f : Fmt) (e4m3Nan : Bool) (v : Val) (d : Nat) : Written × Bool :=
  match v with
  | .fin s m e =>
    if m = 0 then (writeVal f e4m3Nan v, false)
    else if dyGt m e f.maxFin.1 f.maxFin.2 then (writeInf f e4m3Nan s, true)
    else
      -- |x| = (n + r / 2^k) × 2^q with q the weight of the last kept bit of |t|
      let q := f.q m e
      if e ≥ q then (writeVal f e4m3Nan v, false) else
        let k := (q - e).toNat
        let n := m / 2 ^ k
        let r := m % 2 ^ k
        if r = 0 then (writeVal f e4m3Nan v, false) else
          let up := decide (d < 2 ^ 32 * r / 2 ^ k)
          (Written.of (encodeFin f s (if up then n + 1 else n) q), true)
  | _ => (writeVal f e4m3Nan v, false)

/-! ### Elements of a vector register -/

/-- Element `e` of a register (R435). -/
def elem (f : Fmt) (v : Vec512) (e : Nat) : Nat := bits v.toNat (f.bits * e) f.bits

/-- A register from its elements, element 0 lowest; the bits above are those of `old`. -/
def ofElems (f : Fmt) (es : List Nat) (old : Vec512) : Vec512 :=
  let low := es.foldr (fun x acc => x % 2 ^ f.bits + 2 ^ f.bits * acc) 0
  let n := f.bits * f.count
  BitVec.ofNat 512 (low % 2 ^ n + (old.toNat / 2 ^ n) * 2 ^ n)

/-- Whether predicate `p` governs element `e` of a format (R447). -/
def governs (f : Fmt) (p : Word64) (e : Nat) : Bool :=
  if f.bits ≥ 8 then p.getLsbD (e * (f.bits / 8)) else if f.bits = 6 then p.getLsbD e else p.getLsbD (e / 2)

/-- The bits of a predicate that govern element `e` (R442, R447). -/
def predMask (f : Fmt) (e : Nat) : Nat :=
  if f.bits ≥ 8 then (2 ^ (f.bits / 8) - 1) * 2 ^ (e * (f.bits / 8)) else if f.bits = 6 then 2 ^ e else 2 ^ (e / 2)

/-- Apply `g` to the governed elements; the others keep `old` (R446). -/
def vmap (f : Fmt) (p : Word64) (old : Vec512) (g : Nat → Nat) : Vec512 :=
  ofElems f ((List.range f.count).map (fun e => if governs f p e then g e else elem f old e)) old

/-- Whether every element of a format is governed. -/
def governsAll (f : Fmt) (p : Word64) : Bool := (List.range f.count).all (governs f p)

end Sys2Proof.Machine
end

