-- ==== Sys2Proof/Machine/Flags.lean ====
section
/-!
DEFINITION. Machine/Flags.lean: the exact accumulator and its flags (R405 to R411), what special results count as
(R413, R425), and the results of the scalar and vector operations (R440 to R444).
-/
namespace Sys2Proof.Machine

/-! ### The accumulator -/

/-- Bring a sum into the range of A, carrying into C; C outside 32 bits sets NAN (R408). -/
def Acc.settle (acc : Acc) (s : Int) : Acc × Bool :=
  let (a, c) := if s ≥ 2 ^ 575 then (s - 2 ^ 576, acc.carry + 1)
    else if s < -(2 ^ 575) then (s + 2 ^ 576, acc.carry - 1) else (s, acc.carry)
  let bad := decide (c < -(2 ^ 31)) || decide (c > 2 ^ 31 - 1)
  ({ acc with a := a, carry := c, nan := acc.nan || bad }, bad)

/-- An exact addend ±m × 2^e as the integer t of R408, e + 288 being 0 or more for every addend of R405; a finer one (a
binary32 product) is rounded to nearest even under R406.  Also whether it was rounded. -/
def addendInt (s : Bool) (m : Nat) (e : Int) : Int × Bool :=
  let n := roundEven m e (-288)
  ((if s then -(n : Int) else n), decide (e < -288 ∧ m % 2 ^ (-288 - e).toNat ≠ 0))

/-- Add an addend (R408): the accumulator, whether CARRY saturated, and whether the product was rounded (R406). -/
def Acc.add (acc : Acc) (v : Val) : Acc × Bool × Bool :=
  let acc := { acc with any := true }
  match v with
  | .nan => ({ acc with notNeg0 := true, nan := true }, false, false)
  | .inf s => (if s then { acc with notNeg0 := true, ninf := true } else { acc with notNeg0 := true, pinf := true }, false, false)
  | .fin s m e =>
    let (t, r) := addendInt s m e
    let acc := { acc with notNeg0 := acc.notNeg0 || !(s && t == 0) }
    let (acc, b) := acc.settle (acc.a + t)
    (acc, b, r)

/-- Add a poisoned addend (R408). -/
def Acc.addPoison (acc : Acc) : Acc := { acc with any := true, poison := true }

/-- Merge one accumulator into another (R409). -/
def Acc.merge (x y : Acc) : Acc × Bool :=
  let z := { x with carry := x.carry + y.carry, nan := x.nan || y.nan, pinf := x.pinf || y.pinf, ninf := x.ninf || y.ninf
                    poison := x.poison || y.poison, any := x.any || y.any, notNeg0 := x.notNeg0 || y.notNeg0 }
  z.settle (x.a + y.a)

/-- The value an accumulator that is not poisoned reads out as (R411).  |V| ≥ 2²⁸⁷ stands for overflow. -/
def Acc.value (acc : Acc) : Val :=
  if acc.nan || (acc.pinf && acc.ninf) then .nan
  else if acc.pinf then .inf false
  else if acc.ninf then .inf true
  else if acc.carry > 0 then .fin false 1 287
  else if acc.carry < 0 then .fin true 1 287
  else if acc.a = 0 then .fin (acc.any && !acc.notNeg0) 0 0
  else .fin (decide (acc.a < 0)) acc.a.natAbs (-288)

/-- ACC as a 576-bit image, and the residue modulo 7 of it (R408, R410). -/
def Acc.image (acc : Acc) : Nat := wrap 576 acc.a

/-- The 80-byte spill image (R410). -/
def Acc.spill (acc : Acc) : List Byte :=
  let fl := (if acc.nan then 1 else 0) + (if acc.pinf then 2 else 0) + (if acc.ninf then 4 else 0) + (if acc.poison then 8 else 0)
    + (if acc.any then 16 else 0) + (if acc.notNeg0 then 32 else 0)
  leBytes 80 (acc.image + wrap 32 acc.carry * 2 ^ 576 + fl * 2 ^ 608 + (acc.image % 7) * 2 ^ 616)

/-- The accumulator a spill image holds, and whether its RESIDUE matches its ACC (R410). -/
def Acc.fill (b : List Byte) : Acc × Bool :=
  let w := leNat b
  let fl := bits w 608 6
  let im := bits w 0 576
  ({ a := signed 576 im, carry := signed 32 (bits w 576 32), nan := decide (bits fl 0 1 = 1), pinf := decide (bits fl 1 1 = 1)
     ninf := decide (bits fl 2 1 = 1), poison := decide (bits fl 3 1 = 1), any := decide (bits fl 4 1 = 1)
     notNeg0 := decide (bits fl 5 1 = 1) }, decide (bits w 616 3 = im % 7))

/-! ### What results count as -/

/-- The counts of R425 that a piece of work adds. -/
structure NumEv where
  readouts  : Nat
  nonfinite : Nat
  sat       : Nat
  nanInt    : Nat
  carry     : Nat
  mxFf      : Nat
  stoch     : Nat
  tiny      : Nat
deriving DecidableEq, Repr

/-- Nothing counted. -/
def NumEv.zero : NumEv :=
  { readouts := 0, nonfinite := 0, sat := 0, nanInt := 0, carry := 0, mxFf := 0, stoch := 0, tiny := 0 }

/-- Sum of counts. -/
def NumEv.add (a b : NumEv) : NumEv :=
  { readouts := a.readouts + b.readouts, nonfinite := a.nonfinite + b.nonfinite, sat := a.sat + b.sat
    nanInt := a.nanInt + b.nanInt, carry := a.carry + b.carry, mxFf := a.mxFf + b.mxFf, stoch := a.stoch + b.stoch
    tiny := a.tiny + b.tiny }

/-- What one written element counts as (R413). -/
def Written.ev (w : Written) : NumEv :=
  { NumEv.zero with nonfinite := if w.nonfinite then 1 else 0, sat := if w.saturated then 1 else 0
                    nanInt := if w.nanToInt then 1 else 0 }

/-! ### Scalar operations (R440) -/

/-- The operations of the ALU, by FUNC. -/
inductive AluOp where
  | add | sub | mul | mulh | mulhu | div | divu | rem | remu | and | or | xor | sll | srl | sra | slt | sltu | min | max | minu | maxu
deriving DecidableEq, Repr

/-- x[RS1] op x[RS2] (R440); division never traps. -/
def alu (op : AluOp) (a b : Word64) : Word64 :=
  let bool (c : Bool) : Word64 := if c then 1 else 0
  match op with
  | .add => a + b
  | .sub => a - b
  | .mul => a * b
  | .mulh => BitVec.ofInt 64 (a.toInt * b.toInt / 2 ^ 64)
  | .mulhu => BitVec.ofNat 64 (a.toNat * b.toNat / 2 ^ 64)
  | .div => if b = 0 then BitVec.allOnes 64 else BitVec.ofInt 64 (a.toInt.tdiv b.toInt)
  | .divu => if b = 0 then BitVec.allOnes 64 else BitVec.ofNat 64 (a.toNat / b.toNat)
  | .rem => if b = 0 then a else BitVec.ofInt 64 (a.toInt.tmod b.toInt)
  | .remu => if b = 0 then a else BitVec.ofNat 64 (a.toNat % b.toNat)
  | .and => a &&& b
  | .or => a ||| b
  | .xor => a ^^^ b
  | .sll => a <<< (b.toNat % 64)
  | .srl => a >>> (b.toNat % 64)
  | .sra => a.sshiftRight (b.toNat % 64)
  | .slt => bool (a.slt b)
  | .sltu => bool (a.ult b)
  | .min => if a.slt b then a else b
  | .max => if a.slt b then b else a
  | .minu => if a.ult b then a else b
  | .maxu => if a.ult b then b else a

/-! ### Vector operations (R438, R441 to R444) -/

/-- The two-operand element operations of VARITH. -/
inductive VOp where
  | add | sub | mul | min | max | abs | neg | and | or | xor | shl | shr | sar | div | sqrt
deriving DecidableEq, Repr

/-- An element result: integers wrap, floating point is rounded once to nearest even (R441). -/
def vop (op : VOp) (f : Fmt) (e4m3Nan : Bool) (a b : Nat) : Written :=
  if f.isInt then
    let x := signed f.bits a
    let y := signed f.bits b
    let sh := b % f.bits
    Written.of (match op with
      | .add => wrap f.bits (x + y)
      | .sub => wrap f.bits (x - y)
      | .mul => wrap f.bits (x * y)
      | .min => wrap f.bits (min x y)
      | .max => wrap f.bits (max x y)
      | .abs => wrap f.bits x.natAbs
      | .neg => wrap f.bits (-x)
      | .and => Nat.land a b
      | .or => Nat.lor a b
      | .xor => Nat.xor a b
      | .shl => a * 2 ^ sh % 2 ^ f.bits
      | .shr => a / 2 ^ sh
      | .sar => wrap f.bits (x / 2 ^ sh)
      | .div => a
      | .sqrt => a)
  else
    let x := decode f a
    let y := decode f b
    writeVal f e4m3Nan (match op with
      | .add => x.add y
      | .sub => x.add y.negate
      | .mul => x.mul y
      | .min => Val.sel true x y
      | .max => Val.sel false x y
      | .abs => x.abs
      | .neg => x.negate
      | .div => x.div y
      | .sqrt => x.sqrt
      | _ => x)

/-- The three fused operations (R438): 0 FMA, 1 FMS, 2 FNMA, with one rounding (R441). -/
def vfma (k : Nat) (f : Fmt) (e4m3Nan : Bool) (a b d : Nat) : Written :=
  if f.isInt then
    let p := signed f.bits a * signed f.bits b
    let z := signed f.bits d
    Written.of (wrap f.bits (if k = 0 then p + z else if k = 1 then p - z else z - p))
  else
    let p := (decode f a).mul (decode f b)
    let z := decode f d
    writeVal f e4m3Nan (if k = 0 then p.add z else if k = 1 then p.add z.negate else z.add p.negate)

/-- The comparisons of VCMP, by FUNC (R442). -/
inductive CmpOp where
  | eq | ne | lt | le | gt | ge | unord | ltu | geu
deriving DecidableEq, Repr

/-- The result of a comparison of two elements (R442). -/
def vcmp (op : CmpOp) (f : Fmt) (a b : Nat) : Bool :=
  match op with
  | .ltu => decide (a < b)
  | .geu => decide (a ≥ b)
  | _ =>
    match (decode f a).cmp (decode f b) with
    | none => op == .ne || op == .unord
    | some o =>
      match op with
      | .eq => o == .eq
      | .ne => o != .eq
      | .lt => o == .lt
      | .le => o != .gt
      | .gt => o == .gt
      | .ge => o != .lt
      | _ => false

/-- The reductions of VRED, by FUNC (R444). -/
inductive RedOp where
  | add | min | max | minu | maxu | and | or | xor
deriving DecidableEq, Repr

/-- The identity of a reduction in a format (R444), as a 64-bit value. -/
def RedOp.identity (op : RedOp) (f : Fmt) : Int :=
  match op with
  | .add | .or | .xor => 0
  | .and => -1
  | .min => 2 ^ (f.bits - 1) - 1
  | .max => -(2 ^ (f.bits - 1))
  | .minu => 2 ^ f.bits - 1
  | .maxu => 0

/-- One step of a reduction: signed operations take the sign-extended element, unsigned ones the plain value (R444). -/
def RedOp.step (op : RedOp) (f : Fmt) (acc : Int) (e : Nat) : Int :=
  match op with
  | .add => acc + signed f.bits e
  | .min => Min.min acc (signed f.bits e)
  | .max => Max.max acc (signed f.bits e)
  | .minu => Min.min acc e
  | .maxu => Max.max acc e
  | .and => Int.ofNat (Nat.land (wrap 64 acc) (wrap 64 (signed f.bits e)))
  | .or => Int.ofNat (Nat.lor (wrap 64 acc) (wrap 64 (signed f.bits e)))
  | .xor => Int.ofNat (Nat.xor (wrap 64 acc) (wrap 64 (signed f.bits e)))

/-- The reduction of the governed elements (R444). -/
def vred (op : RedOp) (f : Fmt) (p : Word64) (v : Vec512) : Word64 :=
  BitVec.ofInt 64 ((List.range f.count).foldl
    (fun acc e => if governs f p e then op.step f acc (elem f v e) else acc) (op.identity f))

end Sys2Proof.Machine
end

