-- ==== Sys2Proof/Machine/StateBoot.lean ====
section
/-!
DEFINITION. Machine/StateBoot.lean: bring-up, partial resets, unit epochs, the larder and service mode (R577 to R600).
Core index is 18 × cluster + physical core (R592).
-/
namespace Sys2Proof.Machine

/-- The path bring-up is on (R579, R584). -/
inductive BootPath where
  | cold
  | reheat
deriving DecidableEq, Repr

/-- The kinds of unit of UNIT_EPOCHS (R599). -/
inductive UnitKind where
  | core
  | cluster
  | channel
deriving DecidableEq, Repr

/-- The state column of UNIT_EPOCHS (R599). -/
inductive UnitSt where
  | enabled
  | spare
  | retired
  | out
  | resetting
deriving DecidableEq, Repr

/-- A unit with an epoch: core, cluster or channel. -/
structure UnitRec where
  st     : UnitSt
  epoch  : Nat
  resets : List Nat
  /-- Passed SERVICE_RECAL since it was taken out (R598). -/
  recal  : Bool
  /-- The state a reset in progress returns it to (R588). -/
  was    : UnitSt
  retiredRole : Bool
  /-- Times of residue mismatches within 24 h (R335), by tile. -/
  mismatches : List (Nat × Nat)
deriving DecidableEq, Repr

/-- A partial reset in progress (R586): kind 1 core, 2 cluster, 3 partition, the unit, when it began, and the command that
asked for it. -/
structure Partial1 where
  kind  : Nat
  unit  : Nat
  since : Nat
  req   : Option Req
deriving DecidableEq, Repr

/-- A spare being brought in (R594). -/
structure BringIn where
  core : Nat
  for_ : Nat
  req  : Option Req
  /-- Woken from Deep: its 6 A step has had its place in the allowance of a µs (R529, R594). -/
  woken : Bool
  /-- When the retirement was (R594). -/
  since : Nat
deriving DecidableEq, Repr

/-- Bring-up, reset and spares. -/
structure BootState where
  step       : Nat
  path       : BootPath
  lastReset  : Nat
  lastTime   : Nat
  startedAt  : Nat
  /-- Step 3 of the bring-up before completed (R585). -/
  memDone    : Bool
  /-- A retention register of a DRAM PHY island has lost its contents (R585). -/
  retentionBad : Bool
  fault      : Bool
  /-- BRINGUP_LOG: step, sub-step, start, end, result. -/
  log        : List (Nat × Nat × Nat × Nat × Nat)
  units      : Assoc (UnitKind × Nat) UnitRec
  partials   : List Partial1
  bringIns   : List BringIn
  /-- The larder: rows used by bank, banks used by stack, directory ways used by set key, lanes and lasers are in their
  own state. -/
  rowsUsed   : Assoc Nat Nat
  banksUsed  : Assoc Nat Nat
  waysUsed   : List Nat
  /-- Exhaustions already notified: kind and unit (R593). -/
  exhausted  : List (Nat × Nat)
  /-- Bank repairs in progress: bank, and the command (R595). -/
  bankRepairs : List (Nat × Option Req)
  larderLost : Bool
  /-- Clusters, ports and stacks out of service (R598). -/
  portsOut   : List Nat
  stacksOut  : List Nat
deriving DecidableEq, Repr

/-- Step 0 of the cold path (R599); units at their roles of manufacture. -/
def BootState.reset : BootState :=
  { step := 0, path := .cold, lastReset := 1, lastTime := 0, startedAt := 0, memDone := false, retentionBad := false, fault := false, log := []
    units := [], partials := [], bringIns := [], rowsUsed := [], banksUsed := [], waysUsed := [], exhausted := []
    bankRepairs := [], larderLost := false, portsOut := [], stacksOut := [] }

end Sys2Proof.Machine
end

