-- ==== Sys2Proof/Machine/StateDir.lean ====
section
/-!
DEFINITION. Machine/StateDir.lean: the directories, region filters, recalls and parked requests (R234 to R268).
A line is named by PA / 128, a region by PA / 4096.
-/
namespace Sys2Proof.Machine

/-- The states a directory entry records (R241); Recalling is the entry's own bit (R234). -/
inductive LineSt where
  | shared
  | exclusive
  | modified
deriving DecidableEq, Repr

/-- A directory entry (R241, R242): precise pointers in order of grant, or the group vector of a coarse entry. -/
structure DirEntry where
  st        : LineSt
  recalling : Bool
  coarse    : Bool
  ptrs      : List Nat
  groups    : List Nat
  aged      : Bool
  kind      : Nat
  /-- Lost to an SRAM error: who holds the line, and how, is not known (R325). -/
  lost      : Bool
deriving DecidableEq, Repr

/-- A region-filter entry (R245). -/
structure Region where
  lines : Nat
  ctx   : Nat
  addr  : Nat
deriving DecidableEq, Repr

/-- What a recall is run for. -/
inductive RecallCause where
  /-- A request outstanding at the Varisk, by source and tag. -/
  | request (src tag : Nat)
  /-- A recipe, kernel or own access, by its number as a source and its tag (R256). -/
  | access (src tag : Nat)
  /-- Room in the directory or region filter, an alias change, RECALL_RANGE, detach or a publish sweep: nothing completes. -/
  | none
deriving DecidableEq, Repr

/-- A recall in progress (R253). -/
structure Recall where
  /-- SNP_DOWN rather than SNP_INV. -/
  down    : Bool
  awaited : List Nat
  crossed : List Nat
  /-- Slots whose SNP_RSP said that SNP_DATA follows: slot and that SNP_RSP (R160). -/
  dataDue : List (Nat × Packet)
  /-- Holders of a coarse entry that stay: the requester of an UPGRADE. -/
  keep    : List Nat
  cause   : RecallCause
deriving DecidableEq, Repr

/-- An accepted eviction, indexed from its acceptance (R252). -/
structure Eviction where
  slot      : Nat
  line      : Nat
  src       : Nat
  tag       : Nat
  writeback : Bool
  applied   : Bool
deriving DecidableEq, Repr

/-- A recipe, kernel or own access that is parked at its line (R250, R256). `src` is 2^18 and up: no EID. -/
structure LineAccess where
  line   : Nat
  src    : Nat
  tag    : Nat
  /-- The global time its tile issued it, in 1/256 ns, and its priority value: a slot, 8,192 for internal sources (R256). -/
  stamp  : Nat
  prio   : Nat
  write  : Bool
  losses : Nat
  /-- The recall it caused has ended: the line is its own until it completes (R253). -/
  claim  : Bool
deriving DecidableEq, Repr

/-- The directories of both dies. -/
structure DirState where
  entries : Assoc Nat DirEntry
  regions : Assoc Nat Region
  recalls : Assoc Nat Recall
  evicts  : List Eviction
  /-- Requests in the aged lane of their line, by line, source and tag (R257). -/
  aged    : List (Nat × Nat × Nat)
  /-- Requests the crossbar holds for a slice whose park buffer is full, in order: line, source and tag (R256). -/
  heldAt  : List (Nat × Nat × Nat)
  /-- Recipe, kernel and own accesses parked at their lines (R256). -/
  accesses : List LineAccess
deriving DecidableEq, Repr

/-- No line held (every entry Invalid, R234), no region, no recall. -/
def DirState.reset : DirState :=
  { entries := [], regions := [], recalls := [], evicts := [], aged := [], heldAt := [], accesses := [] }

end Sys2Proof.Machine
end

