-- ==== Sys2Proof/Machine/StateFirmware.lean ====
section
/-!
DEFINITION. Machine/StateFirmware.lean: the boot store and firmware update (R601 to R617).
-/
namespace Sys2Proof.Machine

/-- STATE of a bank's control record (R605). -/
inductive BankSt where
  | empty
  | writing
  | verified
  | trial
  | good
  | copying
  | failed
deriving DecidableEq, Repr

/-- A bank of the boot store: control record and image blocks (512 bytes each, R601, R605); `erased` is how many blocks
from 1 the background erase has done (R607). -/
structure Bank where
  st      : BankSt
  svn     : Nat
  version : Nat
  blocksWritten : Nat
  blocks  : Assoc Nat (List Byte)
  written : List Nat
  erased  : Nat
  imageBlocks : Nat
deriving DecidableEq, Repr

/-- FW_STATE (R611). -/
inductive FwSt where
  | idle
  | staging
  | verified
  | failed
  | trial
  | committing
deriving DecidableEq, Repr

/-- The steps of an activation (R612). -/
inductive Activation where
  | none
  | reheat
  | selfCheck
  | pause
deriving DecidableEq, Repr

/-- Firmware. -/
structure FirmwareState where
  st        : FwSt
  bankA     : Bank
  bankB     : Bank
  /-- The booted bank: false A, true B. -/
  bootedB   : Bool
  minSvn    : Nat
  act       : Activation
  /-- FW_VERIFY runs, or has a result not yet taken: pass, or the failed component. -/
  verifying : Bool
  verdict   : Option (Option Nat)
  lastAct   : Nat
  recovery  : Bool
  /-- The engine stores' component 2 digest, to know whether it differs (R612 step 3). -/
  engineDigest : Nat
  /-- The next block programmed will not read back (R608). -/
  flashBad : Bool
deriving DecidableEq, Repr

/-- An empty bank. -/
def Bank.empty : Bank :=
  { st := .empty, svn := 0, version := 0, blocksWritten := 0, blocks := [], written := [], erased := 0, imageBlocks := 0 }

/-- From manufacture bank A holds a Good image, whose content is the part's (log 6); bank B is empty; FW_STATE Idle. -/
def FirmwareState.reset : FirmwareState :=
  { st := .idle, bankA := { Bank.empty with st := .good }, bankB := Bank.empty, bootedB := false, minSvn := 0, act := .none
    verifying := false, verdict := none, lastAct := 0, recovery := false, engineDigest := 0, flashBad := false }

end Sys2Proof.Machine
end

