-- ==== Sys2Proof/Machine/StateKodp.lean ====
section
/-!
DEFINITION. Machine/StateKodp.lean: the state of KODP (R648 to R686): reassemblies, the message queue, running
operations, reply caches, subscriptions, the notification log and the stored settings.
-/
namespace Sys2Proof.Machine

/-- A reassembly in progress (R654): the fragments held by index, and the index of the last one once it has come. -/
structure Reasm where
  client : Client
  reqId  : Nat
  frags  : Assoc Nat (List Byte)
  last   : Option Nat
deriving DecidableEq, Repr

/-- An operation that Baker has started and not answered, or that runs on after TIMEOUT (R668, R669). -/
structure Running where
  req      : Req
  index    : Nat
  sub      : Nat
  firstArg : Option Nat
  timedOut : Bool
  /-- CRC-32C of the request (R670). -/
  crc      : Nat
  /-- The argument as the standby is sent it, where the change is copied there (R476, R560, R671). -/
  peerArg  : Option (List Byte)
deriving DecidableEq, Repr

/-- A cached reply with the CRC-32C of its request (R670). -/
structure CacheEntry where
  reqId : Nat
  crc   : Nat
  reply : KMsg
deriving DecidableEq, Repr

/-- A client's subscription and its queue of records (R677, R678); `all` is code 0xFFFF. -/
structure Sub where
  client  : Client
  codes   : List Nat
  all     : Bool
  roles   : Nat
  queue   : List NotifyRec
  /-- Records dropped since the last NOTIFY, the SEQ of the newest of them, and when (R676). -/
  lost    : Nat
  lostSeq : Nat
  lostAt  : Nat
deriving DecidableEq, Repr

/-- One copy of the settings record (R673): its SEQUENCE, whether it passes its check, its values and its tables. -/
structure Settings where
  sequence : Nat
  good     : Bool
  values   : Assoc Obj Nat
  tables   : Assoc TableId (List Row)
deriving DecidableEq, Repr

/-- KODP and the dictionary's own state. -/
structure KodpState where
  reasm     : List Reasm
  queue     : List (Req × KMsg)
  running   : List Running
  cache     : Assoc Client (List CacheEntry)
  subs      : List Sub
  /-- NOTIFY_LOG, oldest first, at most 4,096 records, with the client of a COMMAND_DONE (R678, R682). -/
  log       : List (NotifyRec × Option Client)
  /-- The SEQ of the next notification (R676). -/
  nextSeq   : Nat
  /-- When each kind of notification was last raised for a unit, for the rate limits of the chapters (R679). -/
  rateAt    : Assoc (Nat × Nat) Nat
  /-- Notifications suppressed since then, by code and unit (R645). -/
  rateSup   : Assoc (Nat × Nat) Nat
  /-- KSL read queue (R81, R658); an entry is a reply or a notification. -/
  kslTx     : List (Bool × KMsg)
  /-- Fragments of the message at the head of the read queue already read. -/
  kslRead   : Nat
  /-- Values of the RW and RWS objects that differ from reset; absent means the reset value. -/
  objs      : Assoc Obj Nat
  tables    : Assoc TableId (List Row)
  /-- TABLE_GEN of each table, by index (R674). -/
  tableGen  : Assoc Nat Nat
  /-- The keys of the rows of each read-only table at its last TABLE_READ, by which a change of rows is known (log 64). -/
  tableSeen : Assoc Nat (List (List Byte))
  /-- The settings record in banks A and B (R672, R673). -/
  settingsA : Settings
  settingsB : Settings
  /-- Addresses of the management lane that failed duplicate-address detection (R656). -/
  conflicts : List Nat
  /-- Replies of mirrored writes and commands that wait for the standby's answer (R671): the REQ_ID used toward the
  standby, who asked, the request's CRC-32C, and the reply. -/
  peerWait  : List (Nat × Req × Nat × KMsg)
  peerNext  : Nat
  /-- NOTIFY messages sent to each client (R651), and what is known of each client outside a session: its last message
  (R677). -/
  notifySent : Assoc Client Nat
  heardAt   : Assoc Client Nat
  /-- Of each EID and TAG on VC7: the E2E_CRC of fragment 0 of the last message, which is the request's FINGERPRINT, and its
  REQ_ID (R175, R657; log 65). -/
  vc7Tags   : Assoc (Nat × Nat) (Nat × Nat)
deriving DecidableEq, Repr

/-- Empty; SEQ counts from 1 (R676); stored objects at their values from manufacture (R672). -/
def KodpState.reset : KodpState :=
  { reasm := [], queue := [], running := [], cache := [], subs := [], log := [], nextSeq := 1, rateAt := [], rateSup := [], kslTx := []
    kslRead := 0, objs := [], tables := [], tableGen := [], tableSeen := []
    settingsA := { sequence := 0, good := true, values := [], tables := [] }
    settingsB := { sequence := 0, good := true, values := [], tables := [] }, conflicts := [], peerWait := []
    peerNext := 0, notifySent := [], heardAt := [], vc7Tags := [] }

end Sys2Proof.Machine
end

