-- ==== Sys2Proof/Machine/StateLink.lean ====
section
/-!
DEFINITION. Machine/StateLink.lean: the state of the optical ports and the Skeleth link layer (R92 to R142).
Port index 0-31 is FP0-FP31, 32-35 DP0-DP3, 36-39 TW0-TW3 (R141).
-/
namespace Sys2Proof.Machine

/-- The states of a port (R115), in the numbering of 0x1211. -/
inductive PortSt where
  | disabled
  | detect
  | train
  | active
  | retrain
  | down
deriving DecidableEq, Repr

/-- One physical receive lane of a port: loss of signal, codeword lock, symbols corrected and codewords lost, errors against PRBS31 while
it carries no flit data, receive power in 0.01 dBm, and the last good lane control block (R94, R103, R104, R110, R139). -/
structure Lane where
  los       : Bool
  locked    : Bool
  corrected : Nat
  uncorr    : Nat
  power     : Int
  lcb       : Option Lcb
  /-- RX_UNCORR the peer showed for this lane when the last training ended (R139). -/
  base      : Nat
  prbsBad   : Nat
  /-- The count of 0.8 ns at which `lcb` came (R102). -/
  lcbAt     : Nat
  /-- Consecutive good blocks since training or the retrain began, and those of them that show the same maps and PROFILE (R117). -/
  run       : Nat
  same      : Nat
deriving DecidableEq, Repr

/-- A lane that nothing has happened to: no light (reset of R87), no lock. -/
def Lane.reset : Lane :=
  { los := true, locked := false, corrected := 0, uncorr := 0, power := -9999, lcb := none, base := 0, prbsBad := 0, lcbAt := 0
    run := 0, same := 0 }

/-- A packet part-way through its slots (R123): its virtual channel, the slots still to come, and those held. -/
structure Partial where
  vc   : Nat
  left : Nat
  held : List (List Byte)
deriving DecidableEq, Repr

/-- The link state of one port. -/
structure Port where
  st           : PortSt
  /-- Consecutive failed trainings (R116). -/
  failed       : Nat
  /-- Retired maps of the transmit and receive directions (R108). -/
  txRetired    : Nat
  rxRetired    : Nat
  /-- Lanes asked of the peer in RETIRE_REQ (R110). -/
  retireReq    : Nat
  /-- Lanes the transmitter will retire at the next training (R110, R111). -/
  retireNext   : Nat
  /-- LANE_RESTORE set here (R141) and RETRAIN_REQ shown (R115). -/
  laneRestore  : Bool
  retrainReq   : Bool
  /-- The last good lane control block on any lane: what the peer shows (R102, R103). -/
  shown        : Option Lcb
  /-- Consecutive good flits in the flit-start step (R117). -/
  startFlits   : Nat
  /-- Round trips measured by lane control blocks, in 0.8 ns, newest first: the last 64 (R117, R184). -/
  trips        : List Nat
  /-- When the transmitters were lit: FRAME_COUNT counts lane frames from then (R102; log 149). -/
  litAt        : Nat
  /-- The hold of Down has elapsed with no laser input for the engine (R115). -/
  holdOver     : Bool
  /-- Stall time not yet in WINDOW_STALL_NS, in 0.01 ns (R131). -/
  stall        : Nat
  /-- The port narrowed from width 8 and is not restored (R113). -/
  narrowed     : Bool
  /-- Beginnings of retrains, ns, for LINK_ESCALATION_WINDOW (R139). -/
  retrainTimes : List Nat
  /-- Round-trip time, ns (R117). -/
  rtt          : Nat
  lanes        : Assoc Nat Lane
  changedAt    : Nat
  -- receive direction
  /-- The next sequence number expected (R127). -/
  e            : Nat
  /-- A flit has been accepted since the last training (R128). -/
  accepted     : Bool
  nakPending   : Bool
  nakReason    : Nat
  /-- Compact: take `e` from the next Data flit (R137). -/
  resync       : Bool
  rxPart       : Option Partial
  /-- Slots released and slots accepted, per VC (R134). -/
  released     : Assoc Nat Nat
  rxAccepted   : Assoc Nat Nat
  -- transmit direction
  base         : Nat
  next         : Nat
  /-- The unacknowledged flits, oldest first (R131). -/
  replay       : List (Nat × Flit)
  /-- The next sequence number a replay will send (R129). -/
  replaying    : Option Nat
  replaysFrom  : Assoc Nat Nat
  charged      : Assoc Nat Nat
  limit        : Assoc Nat Nat
  txPart       : Option Partial
  /-- Control records waiting for a Control flit, oldest first. -/
  control      : List (List Byte)
  /-- The width each direction was last trained to: 8, 4, or 0 before the first training (R141; log 151). -/
  txWidth      : Nat
  rxWidth      : Nat
deriving DecidableEq, Repr

/-- A port at PORESET_N: Disabled, dark, maps cleared (R112, R115). -/
def Port.reset : Port :=
  { st := .disabled, failed := 0, txRetired := 0, rxRetired := 0, retireReq := 0, retireNext := 0, laneRestore := false
    retrainReq := false, shown := none, startFlits := 0, trips := [], litAt := 0, holdOver := false, stall := 0, narrowed := false, retrainTimes := [], rtt := 0, lanes := [], changedAt := 0, e := 0
    accepted := false, nakPending := false, nakReason := 0, resync := false, rxPart := none, released := []
    rxAccepted := [], base := 0, next := 0, replay := [], replaying := none, replaysFrom := [], charged := []
    limit := [], txPart := none, control := [], txWidth := 0, rxWidth := 0 }

/-- The ports by index, and the state of the management lane (0x0005.08 MGMT_LINK, R97). -/
structure LinkState where
  ports    : Assoc Nat Port
  mgmtLink : Bool
deriving DecidableEq, Repr

/-- Every port at its reset state; the management link down. -/
def LinkState.reset : LinkState := { ports := [], mgmtLink := false }

end Sys2Proof.Machine
end

