-- ==== Sys2Proof/Machine/StateMemory.lean ====
section
/-!
DEFINITION. Machine/StateMemory.lean: pool memory, the DRAM channels, the deep tier and the error records
(R269 to R351, R685).  Pool memory is one list of (pool physical address, byte) pairs in canonical form; a channel is
named by 32 × stack + channel; a line by PA / 128.
-/
namespace Sys2Proof.Machine

/-- A line's metadata word (R318), the KEY_ID its pantry entry records (R43), and whether the pantry holds it.  `key` is the
memory key its ciphertext is under (none: the tenant-0 key), and `cipher` says that the stored bytes are ciphertext that
came from outside (a sled or the mirror) and not plaintext. -/
structure LineMeta where
  poison  : Bool
  tenant  : Nat
  version : Nat
  keyId   : Nat
  inPantry : Bool
  dirty   : Bool
  key     : Option Nat
  cipher  : Bool
  /-- Its way in its pantry set, while the pantry holds it (R43). -/
  way     : Nat
  /-- Its TENANT has been lost with its metadata word: the segment of the next request gives it (R325). -/
  untagged : Bool
deriving DecidableEq, Repr

/-- A line after cold bring-up (R318): not poisoned, tenant 0, version 0, not in the pantry. -/
def LineMeta.reset : LineMeta :=
  { poison := false, tenant := 0, version := 0, keyId := 0, inPantry := false, dirty := false, key := none
    cipher := false, way := 0, untagged := false }

/-- Pool memory: the bytes that differ from the reset contents (zero, R318), by address, strictly rising, and the
metadata of lines. -/
structure MemState where
  cells : List Host.Cell
  lines : Assoc Nat LineMeta
  /-- How often all the lines of a channel have been marked poisoned (R685): what a line without a record holds. -/
  marked : Assoc Nat Nat
  /-- The pseudo-LRU bits of the pantry's sets, by die, slice and set (R43): bit n is that of node n of the tree. -/
  plru  : Assoc (Nat × Nat × Nat) Nat
deriving DecidableEq, Repr

/-- After cold bring-up every line reads as zero (R318). -/
def MemState.reset : MemState := { cells := [], lines := [], marked := [], plru := [] }

/-- The three classes of channel traffic (R275). -/
inductive DramClass where
  | normal
  | rtVc6
  | rtMirror
deriving DecidableEq, Repr

/-- For whom a channel request runs. -/
inductive DramCause where
  /-- A request outstanding at the Varisk. -/
  | request (src tag : Nat)
  /-- An access that is no request, as `AccBy` numbers it, under the unit epoch it was issued in (R589). -/
  | access (src tag epoch : Nat)
  /-- A dirty line that leaves the pantry. -/
  | evict
  | scrub
  /-- A line of a fill, written into its frame (R295). -/
  | frame
  | mirror
  /-- A line that the writeback of a granule reads (R300). -/
  | writeback (granule : Nat)
  /-- A line of frame tags (R292). -/
  | tagLine
  /-- A line that a tile writes to a channel of its own cluster (R49). -/
  | tile
  /-- A line that the twin peer asks for, with the tag and the port of its answer (R477). -/
  | peerRepair (tag port : Nat)
deriving DecidableEq, Repr

/-- A channel request (R275): its line, direction, class and cause; whether it has come over the crossing into the class's input buffer
(R34), moved on to its bank queue, and been issued. -/
structure DramReq where
  id     : Nat
  line   : Nat
  write  : Bool
  cls    : DramClass
  cause  : DramCause
  entered : Bool
  inBank : Bool
  issued : Bool
deriving DecidableEq, Repr

/-- Panic of one real-time port on one channel (R284, R285): raised, or capped for its 10 µs. -/
inductive Panic where
  | off
  | on
  | capped
deriving DecidableEq, Repr

/-- A channel's state (0x1610). -/
inductive ChSt where
  | serving
  | retraining
  | failed
deriving DecidableEq, Repr

/-- One channel controller (R275 to R290, R685). -/
structure Channel where
  st         : ChSt
  reqs       : List DramReq
  /-- Class served last into each pseudo-channel's bank queues, for the turns of R278. -/
  lastClass  : Nat
  /-- Last bank group and last bank in each group, per pseudo-channel (R279). -/
  lastGroup  : Assoc Nat Nat
  lastBank   : Assoc (Nat × Nat) Nat
  /-- Direction (1 write) and length of the run of column commands, per pseudo-channel (R279). -/
  runDir     : Assoc Nat Bool
  runLen     : Assoc Nat Nat
  /-- Refresh intervals postponed, or pulled in where negative, by pseudo-channel × 16 + bank (R281, R282). -/
  refreshDue : Assoc Nat Int
  panicVc6   : Panic
  panicMir   : Panic
  /-- The real-time port served last while both hold panic (R284); true is RT_MIRROR.  When each panic was raised (0x1610). -/
  panicTurn  : Bool
  panicSince : Assoc Nat Nat
  retrainAt  : List Nat
  trained    : Bool
  /-- A full training asked for by CHANNEL_RETRAIN or SERVICE_RECAL runs (R316). -/
  fullTrain  : Option Req
  poisonList : List Nat
  overflow   : Bool
  /-- The retention flag of R685. -/
  retained   : Bool
  /-- Drift tracks done (R288). -/
  drift      : Nat
deriving DecidableEq, Repr

/-- A channel at PORESET_N: untrained, idle; it serves once bring-up has trained it. -/
def Channel.reset : Channel :=
  { st := .serving, reqs := [], lastClass := 0, lastGroup := [], lastBank := [], runDir := [], runLen := []
    refreshDue := [], panicVc6 := .off, panicMir := .off, panicTurn := false, panicSince := [], retrainAt := [], trained := false, fullTrain := none
    poisonList := [], overflow := false, retained := false, drift := 0 }

/-- DRAM: channels, stack refresh state and the spares brought in. -/
structure DramState where
  channels  : Assoc Nat Channel
  /-- Refresh interval of each stack: 0 normal, 1 halved, 2 self-refresh (0x1611). -/
  refresh   : Assoc Nat Nat
  /-- Training source: 0 full, 1 stored, and time of the last training. -/
  source    : Assoc Nat (Nat × Nat)
  nextId    : Nat
  /-- Lines read for accesses that are not requests and still need them: line, source and tag (R49). -/
  returned  : List (Nat × Nat × Nat)
deriving DecidableEq, Repr

/-- No request queued; refresh normal. -/
def DramState.reset : DramState := { channels := [], refresh := [], source := [], nextId := 0, returned := [] }

/-- A flash sled as last reported (R305, R309, R316). -/
structure Sled where
  present   : Bool
  reachable : Bool
  foreign   : Bool
  claimed   : Bool
  /-- Writes stopped by FENCED (R310). -/
  fenced    : Bool
  capacity  : Nat
  ownerEid  : Nat
  ownerEpoch : Nat
  health    : Nat
  spare     : Nat
  /-- The sled's EID on its DP port, from the packets it sends (R151). -/
  eid       : Nat
deriving DecidableEq, Repr

/-- A sled nothing is known of. -/
def Sled.reset : Sled :=
  { present := false, reachable := false, foreign := false, claimed := false, fenced := false, capacity := 0, ownerEid := 0
    ownerEpoch := 0, health := 0, spare := 0
    eid := 0 }

/-- A fill in progress (R295, R307): where it goes, the units that arrived, metadata units, and DT_CMP. -/
structure Fill where
  cluster : Nat
  set     : Nat
  way     : Nat
  granule : Nat
  first   : Nat
  tag     : Nat
  arrived : List Nat
  metas   : Assoc Nat (Bool × List Byte)
  done    : Bool
  reread  : Bool
deriving DecidableEq, Repr

/-- A writeback in flight (R300). -/
structure Writeback where
  cluster : Nat
  set     : Nat
  way     : Nat
  granule : Nat
  tag     : Nat
  /-- The frame's lines that are still to be read (R300 step 3). -/
  reads   : List Nat
deriving DecidableEq, Repr

/-- A bulk command that runs (R301): which (1 pin, 3 prefetch, 4 flush, 5 trim, 6 a trim whose DT_TRIM are out), the granules still to
do, the first granule and the number of its range, its sled, and whether some granule could not be pinned. -/
structure Bulk where
  req      : Req
  which    : Nat
  granules : List Nat
  first    : Nat
  count    : Nat
  sled     : Nat
  noSpace  : Bool
  /-- A partition reset lost a granule of it (R588). -/
  aborted  : Bool
deriving DecidableEq, Repr

/-- The deep tier; tags and frame data are pool lines (R291, R292). -/
structure DeepState where
  /-- DEEP_CACHE_UNITS in force since the last package-level reset (R274). -/
  units     : Nat
  sleds     : Assoc Nat Sled
  /-- The hand of each set (R298), by cluster and set. -/
  hands     : Assoc (Nat × Nat) Nat
  /-- The way whose granule's held lines are being recalled before it is returned (R298), by cluster and set. -/
  chosen    : Assoc (Nat × Nat) Nat
  fills     : List Fill
  writebacks : List Writeback
  /-- The deep wait queue of each cluster: requests by source and tag, with their granule (R295). -/
  waiting   : List (Nat × Nat × Nat × Nat)
  /-- When each frame was first dirtied (R299), by cluster, set and way. -/
  dirtyAt   : Assoc (Nat × Nat × Nat) Nat
  /-- Frames whose writeback is queued (R298, R299), and those whose last one failed and that wait for DIRTY_AGE (R308). -/
  queue     : List (Nat × Nat × Nat)
  failed    : List (Nat × Nat × Nat)
  /-- The accesses that are no requests and wait for a granule, by granule, source and tag, and the code that ended the wait of each, which
  it meets when it looks again (R307, R312). -/
  seekers   : List (Nat × Nat × Nat × Option Status)
  bulk      : Option Bulk
  quarantined : List (Nat × Nat)
deriving DecidableEq, Repr

/-- No units, no sled known. -/
def DeepState.reset : DeepState :=
  { units := 0, sleds := [], hands := [], chosen := [], fills := [], writebacks := [], waiting := [], dirtyAt := [], queue := [], failed := [], seekers := [], bulk := none
    quarantined := [] }

/-- A record of ERROR_LOG (R350). -/
structure ErrorRec where
  seq     : Nat
  time    : Nat
  kind    : Nat
  action  : Nat
  channel : Nat
  pa      : Nat
  symbol  : Nat
  tenant  : Nat
  unit    : Nat
deriving DecidableEq, Repr

/-- A twin repair in progress (R323): the line and the tag of its RP_REQ, and the request that waits for it. -/
structure Repair where
  line  : Nat
  tag   : Nat
  cause : DramCause
deriving DecidableEq, Repr

/-- Error records, scrub and self-test. -/
structure IntegState where
  log        : List ErrorRec
  logSeq     : Nat
  /-- Scrub: the lines done in this pass and its start, per channel (R328, R350). -/
  scrubDone  : Assoc Nat Nat
  passStart  : Assoc Nat Nat
  /-- Passes in which scrub corrected lines of a row, by channel, pseudo-channel × 16 + bank, and row; and the last pass
  counted (R331). -/
  rowPasses  : Assoc (Nat × Nat × Nat) (Nat × Nat)
  passNo     : Assoc Nat Nat
  /-- Rows in which a symbol column was corrected, with times, by channel, pseudo-channel and symbol (R331). -/
  symbolRows : Assoc (Nat × Nat × Nat) (List (Nat × Nat))
  /-- Corrected lines of a channel in the present hour (R349): hour number and count. -/
  ceHour     : Assoc Nat (Nat × Nat)
  /-- Rows handed to the larder: channel, pseudo-channel × 16 + bank, row (R331). -/
  badRows    : List (Nat × Nat × Nat)
  repairs    : List Repair
  /-- SELF_TEST_RESULTS by test and unit: result and time (R344). -/
  selfTest   : Assoc (Nat × Nat) (Nat × Nat)
  /-- When a way of a directory set last showed a corrected error (R240), by the set's key and the way. -/
  wayErrors  : Assoc (Nat × Nat) Nat
  /-- When the tests of R343 last ran to their end. -/
  testedAt   : Option Nat
  /-- The hour of an engine's last failed run of test 4 (R346). -/
  engineHour : Assoc Nat Nat
deriving DecidableEq, Repr

/-- An empty log; nothing scrubbed. -/
def IntegState.reset : IntegState :=
  { log := [], logSeq := 0, scrubDone := [], passStart := [], rowPasses := [], passNo := [], symbolRows := [], ceHour := []
    badRows := [], repairs := [], selfTest := [], wayErrors := [], testedAt := none, engineHour := [] }

end Sys2Proof.Machine
end

