-- ==== Sys2Proof/Machine/StateObserve.lean ====
section
/-!
DEFINITION. Machine/StateObserve.lean: time islands, crumbs, snapshots, dumps, debug stop and management reheat
(R618 to R647).  Times of an island are counted in 1/256 ns.
-/
namespace Sys2Proof.Machine

/-- The states of a time island, in the numbering of 0x2100.02 (R619, R646). -/
inductive TimeSt where
  | free
  | locking
  | locked
  | holdover
  | root
deriving DecidableEq, Repr

/-- A die's time island (R618, R619): counter in 1/256 ns, rate correction in parts per 10⁹, the offset still to slew and the ticks left of
its 50 µs, good samples in a row, and when Holdover began. -/
structure TimeIsland where
  counter    : Nat
  st         : TimeSt
  everLocked : Bool
  rateAdj    : Int
  slew       : Int
  slewTicks  : Nat
  offset     : Int
  n          : Nat
  holdSince  : Nat
deriving DecidableEq, Repr

/-- Free at reset, ever_locked 0 (R619); the counter starts at 0 (no value given, log 7). -/
def TimeIsland.reset : TimeIsland :=
  { counter := 0, st := .free, everLocked := false, rateAdj := 0, slew := 0, slewTicks := 0, offset := 0, n := 0, holdSince := 0 }

/-- A crumb (R628). -/
structure Crumb where
  time     : Nat
  fraction : Nat
  resumed  : Bool
  unlocked : Bool
  event    : Nat
  epoch    : Nat
  seq      : Nat
  arg      : Nat
deriving DecidableEq, Repr

/-- A crumb ring (R627, R630): newest first, at most 256; crumbs written; frozen since, and crumbs missed. -/
structure Ring where
  crumbs : List Crumb
  seq    : Nat
  frozen : Option Nat
  missed : Nat
  /-- The unit's next event carries RESUMED (R623). -/
  resumed : Bool
deriving DecidableEq, Repr

/-- An empty ring. -/
def Ring.reset : Ring := { crumbs := [], seq := 0, frozen := none, missed := 0, resumed := false }

/-- A registered tensor (R633): extents are (PA, lines). -/
structure Tensor where
  name    : List Byte
  ctx     : Nat
  addr    : Nat
  length  : Nat
  format  : Nat
  extents : List (Nat × Nat)
deriving DecidableEq, Repr

/-- The states of a dump (0x2132). -/
inductive DumpSt where
  | armed
  | triggered
  | streaming
  | ended
deriving DecidableEq, Repr

/-- A tensor dump (R634 to R637). -/
structure Dump where
  number  : Nat
  tensor  : Tensor
  sink    : Nat
  markPa  : Nat
  step    : Nat
  bufPa   : Nat
  bufLen  : Nat
  st      : DumpSt
  cutAt   : Nat
  /-- Lines streamed, and copies made: the line's number in the tensor, in the order of copying (R635). -/
  sent    : Nat
  copies  : List Nat
  /-- Lines whose data a partner still returns for the cut (R635): no copy is made of them until then. -/
  settling : List Nat
  seq     : Nat
  poisoned : Bool
  status  : Option Status
deriving DecidableEq, Repr

/-- STOP_STATE (R646). -/
inductive StopSt where
  | running
  | stopSet
  | stopped
  | resumeSet
deriving DecidableEq, Repr

/-- Observation, time, and management reheat. -/
structure ObserveState where
  time0    : TimeIsland
  time1    : TimeIsland
  rings    : Assoc (Nat × Nat) Ring
  /-- The snapshots asked for: the time and the command that waits; and the last copy of the counters (R626). -/
  snapAt   : List (Nat × Req)
  snapshot : Assoc (Ctr × Nat) Nat
  tensors  : List Tensor
  dumps    : List Dump
  nextDump : Nat
  /-- The next sequence number of stream 0xFFFF (R631). -/
  exportSeq : Nat
  stop     : StopSt
  stopAt   : Nat
  /-- STOP_CAPTURE: freeze stamp of each island, and the entries of each crossing with their contents (R639). -/
  capture  : List (Nat × Nat)
  crossings : List (Nat × Nat)
  /-- Dies whose Baker pair is in a management reheat; times of reheats; status 0xE shown (R643). -/
  reheat   : List Nat
  reheatAt : List Nat
  shownE   : Bool
  /-- Notifications waiting in the fabric-island buffer (R643). -/
  waiting  : List NotifyRec
  /-- Last expiry by row and unit, and when it was last notified (R645). -/
  expiredAt : Assoc (Nat × Nat × Nat) Nat
deriving DecidableEq, Repr

/-- Time islands Free, rings cleared, no dump, running (R627, R646). -/
def ObserveState.reset : ObserveState :=
  { time0 := TimeIsland.reset, time1 := TimeIsland.reset, rings := [], snapAt := [], snapshot := [], tensors := []
    dumps := [], nextDump := 0, exportSeq := 0, stop := .running, stopAt := 0, capture := [], crossings := [], reheat := [], reheatAt := [], shownE := false
    waiting := [], expiredAt := [] }

end Sys2Proof.Machine
end

