-- ==== Sys2Proof/Machine/StatePartner.lean ====
section
/-!
DEFINITION. Machine/StatePartner.lean: partner slots, registered generations and translation caches (R188 to R233).
-/
namespace Sys2Proof.Machine

/-- The states of a partner slot (R204); a slot with no record is Free. -/
inductive SlotSt where
  | active
  | detaching
  | lost
  | quarantine
deriving DecidableEq, Repr

/-- Why a slot was lost: CAUSE of R260 (1 lease expiry, 2 PARTNER_EVICT, 3 ATTACH under R202), and the counts of its walk. -/
structure LossCounts where
  cause     : Nat
  poisoned  : Nat
  exclusive : Nat
  shared    : Nat
  coarse    : Nat
  recipes   : Nat
deriving DecidableEq, Repr

/-- A partner slot that is not Free (R188 to R204). -/
structure Slot where
  st          : SlotSt
  eid         : Nat
  kind        : Nat
  /-- Granted capabilities, in the bit layout of R188: 0 CACHING, 1 STASH_TARGET, 2 RT, 3 RECIPE, 4 MANAGER. -/
  caps        : Nat
  nonce       : Nat
  attachedAt  : Nat
  renewedAt   : Nat
  grants      : List Nat
  /-- The tags of the DETACH requests to answer when the detach ends (R198, R199). -/
  detachTags  : List Nat
  loss        : LossCounts
deriving DecidableEq, Repr

/-- A segment descriptor (R209). -/
structure Segment where
  valid  : Bool
  paged  : Bool
  rights : Nat
  tenant : Nat
  keyId  : Nat
  tier   : Nat
  base   : Nat
  limit  : Nat
  /-- Its line was read poisoned (R339). -/
  poisoned : Bool
deriving DecidableEq, Repr

/-- A context descriptor as read from pool memory (R207, R209). -/
structure CtxDesc where
  valid  : Bool
  ctxId  : Nat
  gen    : Nat
  root   : Nat
  fqBase : Nat
  fqLog  : Nat
  owner  : Nat
  segs   : List Segment
deriving DecidableEq, Repr

/-- A translation-cache entry: one leaf with its run (R215), tagged with context and generation. -/
structure XlateEntry where
  die   : Nat
  ctx   : Nat
  gen   : Nat
  va    : Nat
  size  : Nat
  pa    : Nat
  write : Bool
deriving DecidableEq, Repr

/-- A walk-cache entry: the pointer read at a level for a prefix of the PVA. -/
structure WalkEntry where
  die    : Nat
  ctx    : Nat
  level  : Nat
  prefx  : Nat
  node   : Nat
deriving DecidableEq, Repr

/-- A CTX_INVALIDATE that waits for the requests translated with a dropped entry (R219). -/
structure InvWait where
  req   : Req
  ctx   : Nat
  waits : List (Nat × Nat)
  /-- Tiles pre-translated before: recipe and tile. -/
  tiles : List (Nat × Nat)
deriving DecidableEq, Repr

/-- A RECALL_RANGE that is not done (R221): the lines it has still to visit or is recalling, and those visited. -/
structure RangeWait where
  req     : Req
  lines   : List Nat
  visited : List Nat
deriving DecidableEq, Repr

/-- A write of the Varisk's own to pool memory that waits for its place at its line: a fault record or a PRODUCER (R226, R250). -/
structure OwnWrite where
  pa    : Nat
  bytes : List Byte
deriving DecidableEq, Repr

/-- A change of a slot or of a generation that takes effect once the standby has acknowledged it (R203, R223, R469). -/
inductive HeldAct where
  /-- A slot is attached: the ATTACH is answered and PARTNER_ATTACHED raised. -/
  | attached (slot : Nat) (p : Packet)
  /-- A slot becomes Lost, for a CAUSE of R260. -/
  | lose (slot cause : Nat)
  /-- A slot becomes Detaching, for the DETACH of a tag. -/
  | detach (slot tag : Nat)
  /-- A slot enters Quarantine, at the end of a detach or of a loss walk. -/
  | leave (slot : Nat)
  /-- A slot becomes Free. -/
  | free (slot : Nat)
  /-- CTX_INVALIDATE: the registered generation of a context. -/
  | generation (req : Req) (ctx gen : Nat)
deriving DecidableEq, Repr

/-- Such a change, and how far each stream has to be acknowledged for it (R469). -/
structure HeldChange where
  act   : HeldAct
  need0 : Nat
  need1 : Nat
deriving DecidableEq, Repr

/-- Partners, contexts and translation. -/
structure PartnerState where
  slots     : Assoc Nat Slot
  /-- Registered generation of each context; absent is 0 (R218). -/
  gens      : Assoc Nat Nat
  /-- Context caches by die and context, and the other two caches. -/
  ctxCache  : Assoc (Nat × Nat) CtxDesc
  xlate     : List XlateEntry
  walks     : List WalkEntry
  /-- Contexts whose FQ_OVERFLOW_STICKY is set (R228). -/
  fqSticky  : List Nat
  invWaits  : List InvWait
  rangeWaits : List RangeWait
  /-- Own writes in the order they are ordered (R226). -/
  ownWrites : List OwnWrite
  /-- Since when a tile, kernel thread or KERNEL_LOAD waits for a context: the generation to settle (R218), or a node to be resident (R295). -/
  settles   : Assoc (Nat × Nat) Nat
  heldChanges : List HeldChange
deriving DecidableEq, Repr

/-- Every slot Free, generations 0, caches empty (R204, R218, R223). -/
def PartnerState.reset : PartnerState :=
  { slots := [], gens := [], ctxCache := [], xlate := [], walks := [], fqSticky := [], invWaits := []
    rangeWaits := [], ownWrites := [], settles := [], heldChanges := [] }

end Sys2Proof.Machine
end

