-- ==== Sys2Proof/Machine/StateRecipe.lean ====
section
/-!
DEFINITION. Machine/StateRecipe.lean: recipes, their tiles and the tile queues (R352 to R396).
A core is numbered 18 × cluster + its number in the cluster; a cluster 0 to 15.
-/
namespace Sys2Proof.Machine

/-- A recipe descriptor (R352). -/
structure Desc where
  code      : Nat
  flags     : Nat
  op        : Nat
  fmtIn     : Nat
  fmtOut    : Nat
  startTile : Nat
  doneAddr  : Nat
  w2 : Nat
  w3 : Nat
  w4 : Nat
  w5 : Nat
  w6 : Nat
  w7 : Nat
deriving DecidableEq, Repr

/-- The state of a recipe that has not ended, numbered as in 0x1812 (R395). -/
inductive RecPhase where
  | admission
  | running
  | collecting
  | reducing
  | streaming
deriving DecidableEq, Repr

/-- A recipe accepted and not ended.  `id` is its place in the order of acceptance (R371). -/
structure Recipe where
  id        : Nat
  src       : Nat
  tag       : Nat
  slot      : Nat
  ctx       : Nat
  port      : Nat
  /-- The RECIPE packet as it came. -/
  pkt       : Packet
  /-- Die of the front end that accepted it. -/
  die       : Nat
  d         : Desc
  phase     : RecPhase
  /-- Global time of acceptance, and when it last asked for sugar (R370). -/
  acceptedAt : Nat
  askedAt   : Nat
  total     : Nat
  /-- Tiles of the scan phase of OPTIM-STEP with CHECK (R384), of the score phase of KV-SELECT. -/
  phaseOne  : Nat
  /-- The next tile to dispatch (R363). -/
  next      : Nat
  /-- Tiles that count as committed: run in this recipe, or skipped under R360. -/
  done      : List Nat
  skip      : List Nat
  /-- Tiles that passed their check step (R363). -/
  checked   : List Nat
  failed    : Assoc Nat Status
  /-- Tiles lost once to a watchdog, a core reset or a residue mismatch (R364), with the core that may not run them again
  (R335), or 288. -/
  lost      : Assoc Nat Nat
  withLoss  : Bool
  cancelled : Bool
  poison    : Bool
  poisoned  : Nat
  result    : Nat
  result2   : Nat
  marks     : Nat
  /-- RESULT and RESULT2 of a kernel exception (R454). -/
  exc       : Option (Nat × Nat)
  /-- The recipe of the last arrival of an ALLREDUCE-STAGE, whose tiles run the reduction (R380). -/
  leader    : Bool
  /-- The line read at acceptance: PARAMS of OPTIM-STEP (R382) or the store header of KV-SELECT (R385). -/
  params    : List Byte
  /-- Digest parts by tile (R390), and elements a scan found non-finite (R384). -/
  parts     : Assoc Nat (List Byte)
  scanBad   : Nat
  streamSeq : Nat
  /-- E4M3_OVERFLOW and the FAST decision at acceptance (R421, R425). -/
  e4m3Nan   : Bool
  fast      : Bool
deriving DecidableEq, Repr

/-- A tile queued or running: its recipe's id, its number, and whether it was stolen (R368). -/
structure TileRef where
  recipe : Nat
  tile   : Nat
  stolen : Bool
deriving DecidableEq, Repr

/-- The front ends and the tile queues. -/
structure RecipeState where
  recipes  : List Recipe
  nextId   : Nat
  /-- Tile queue of each cluster (1,024 tiles), and local queue of each core (2 tiles) (R366). -/
  queues   : Assoc Nat (List TileRef)
  locals   : Assoc Nat (List TileRef)
  /-- Rotation pointers of the recipe turns of each cluster queue (R366). -/
  turns    : Assoc Nat Nat
  /-- The core of each cluster that was given a tile last (R35). -/
  coreTurns : Assoc Nat Nat
  /-- The last winner of each stealing rotation (R35, R367): by kind (0 core, 1 die, 2 bridge) and core. -/
  stolen   : Assoc (Nat × Nat) Nat
deriving DecidableEq, Repr

/-- No recipe, queues empty. -/
def RecipeState.reset : RecipeState :=
  { recipes := [], nextId := 0, queues := [], locals := [], turns := [], coreTurns := [], stolen := [] }

end Sys2Proof.Machine
end

