-- ==== Sys2Proof/Machine/StateSecurity.lean ====
section
/-!
DEFINITION. Machine/StateSecurity.lean: tenants, keys, sessions, jobs and debug tokens (R548 to R576).
Keys are numbers; what cryptography computes of them is left uninterpreted in Config.
-/
namespace Sys2Proof.Machine

/-- A tenant record (R550): authentication key, SEALED, memory keys by KEY_ID, signing keys by SIGN_KEY_ID. -/
structure Tenant where
  authKey  : Nat
  sealed   : Bool
  memKeys  : Assoc Nat Nat
  signKeys : Assoc Nat Nat
deriving DecidableEq, Repr

/-- A job (R564, R568): its tenant, its live key generations, the generation in use, the switch time of the newer, and the EIDs bound. -/
structure LinkJob where
  tenant   : Nat
  gens     : Assoc Nat Nat
  /-- Generation in use. -/
  current  : Nat
  switchAt : Nat
  /-- The generation that a switch left behind: live for 16 ms more. -/
  older    : Option Nat
  /-- The keys that an epoch change replaced: kept for 16 ms. -/
  former   : List Nat
  eids     : List Nat
deriving DecidableEq, Repr

/-- An SPDM session (R556, R557). -/
structure Session where
  client   : Client
  established : Bool
  /-- Roles of MY_ROLES it gives its messages (R661), and the key that signed FINISH. -/
  roles    : Nat
  authKey  : Option Nat
  /-- The tenant whose key signed FINISH, a twin peer, or neither. -/
  tenant   : Option Nat
  peer     : Bool
  key      : Nat
  missed   : Nat
  sent     : Nat
  received : Nat
  updates  : Nat
deriving DecidableEq, Repr

/-- The debug token in force (R572). -/
structure Token where
  level    : Nat
  notAfter : Nat
  /-- Accepted before global time was locked: ends 10 minutes after (R571). -/
  preLock  : Bool
deriving DecidableEq, Repr

/-- Security state. -/
structure SecurityState where
  tenants  : Assoc Nat Tenant
  /-- The tenant-0 memory key (R563). -/
  key0     : Option Nat
  jobs     : Assoc Nat LinkJob
  /-- Tag generations by EID, ISSUER, TAG (R566); absent is 0.  They belong to the key generation in use; those of the
  older generation are kept until it is destroyed. -/
  tagGen   : Assoc (Nat × Nat × Nat) Nat
  tagGenOld : Assoc (Nat × Nat × Nat) Nat
  /-- The exchanges that began before a switch and go on under the older generation (R568). -/
  oldEx    : List (Nat × Nat × Nat)
  sessions : Assoc Nat Session
  nextSession : Nat
  /-- SPDM connections: how far each client has come: 1 version, 2 capabilities, 3 algorithms (R554). -/
  spdm     : Assoc Client Nat
  challenge : Option Nat
  token    : Option Token
  debugKey : Option Nat
  /-- A level-2 token has stopped the data path: only PORESET_N restarts it (R573). -/
  erased   : Bool
  /-- The Alias private key, derived at each boot (R552); 0 before the first. -/
  aliasKey : Nat
deriving DecidableEq, Repr

/-- No tenant, no key, no session, debug level 0 (R559, R572). -/
def SecurityState.reset : SecurityState :=
  { tenants := [], key0 := none, jobs := [], tagGen := [], tagGenOld := [], oldEx := [], sessions := [], nextSession := 1, spdm := []
    challenge := none, token := none, debugKey := none, erased := false, aliasKey := 0 }

end Sys2Proof.Machine
end

