-- ==== Sys2Proof/Machine/StateTraffic.lean ====
section
/-!
DEFINITION. Machine/StateTraffic.lean: buckets, egress leaves, holds, histograms (R501 to R519).
A class is 0 CONTROL, 1 REALTIME, 2 COHERENT, 3 NEARMEM, 4 MANAGE (R501).  A subscriber is a partner slot; the pool leaf
of a port is subscriber 8192 (R504).
-/
namespace Sys2Proof.Machine

/-- A dual bucket's levels (R503). -/
structure Bucket where
  c : Nat
  p : Nat
deriving DecidableEq, Repr

/-- A packet waiting in a leaf: when it entered, and the packet (R504). -/
structure Queued where
  at_ : Nat
  pkt : Packet
deriving DecidableEq, Repr

/-- The key of an egress leaf: port, subscriber, class (R504). -/
structure LeafKey where
  port : Nat
  sub  : Nat
  cls  : Nat
deriving DecidableEq, Repr

/-- A held request: when it was held, its link slots and its charge (R509). -/
structure Held where
  at_    : Nat
  charge : Nat
  slots  : Nat
  die    : Nat
  pkt    : Packet
deriving DecidableEq, Repr

/-- The histograms of one pair (R517): depth bins, delay bins, EMPTY_SAMPLES. -/
structure Histo where
  depth : Assoc Nat Nat
  delay : Assoc Nat Nat
  empty : Nat
deriving DecidableEq, Repr

/-- Traffic scheduling and policing. -/
structure TrafficState where
  /-- Ingress buckets by die, slot and class; egress buckets by slot and class.  A bucket that is absent is full. -/
  ingress : Assoc (Nat × Nat × Nat) Bucket
  egress  : Assoc (Nat × Nat) Bucket
  /-- The REALTIME bucket of each fabric port (R506); absent is full. -/
  rtPort  : Assoc Nat Nat
  leaves  : Assoc LeafKey (List Queued)
  /-- Last leaf served, by port and class; last class of the weighted round and deficits, by port (R505, R506). -/
  lastLeaf : Assoc (Nat × Nat) Nat
  turn    : Assoc Nat Nat
  deficit : Assoc (Nat × Nat) Nat
  /-- Hold FIFOs by subscriber, port and VC (R509). -/
  holds   : Assoc (Nat × Nat × Nat) (List Held)
  /-- Histograms by slot (or 0xFFFF) , port (or 0xFF) and class (R519). -/
  histos  : Assoc (Nat × Nat × Nat) Histo
  /-- Clears that wait for the next sample boundary: slots, 0xFFFF for all (R517). -/
  clears  : List Nat
  /-- Values in force since the last refill tick (R514). -/
  inForce : Assoc Obj Nat
  profiles : List Row
  assign  : List Row
  /-- DEBUG_STREAM bucket level of each fabric port (R632); absent is full. -/
  observe : Assoc Nat Nat
deriving DecidableEq, Repr

/-- Every bucket full, every queue empty, profile 0 only (R503, R504). -/
def TrafficState.reset : TrafficState :=
  { ingress := [], egress := [], rtPort := [], leaves := [], lastLeaf := [], turn := [], deficit := [], holds := []
    histos := [], clears := [], inForce := [], profiles := [], assign := [], observe := [] }

end Sys2Proof.Machine
end

