-- ==== Sys2Proof/Machine/StateTwin.lean ====
section
/-!
DEFINITION. Machine/StateTwin.lean: the twin pair: state, epochs, lamps, the mirror streams, resync and handback
(R462 to R500).
-/
namespace Sys2Proof.Machine

/-- The twin states (R463), in the numbering of 0x1B20.01 (R499). -/
inductive TwinSt where
  | solo
  | enrolling
  | syncing
  | standby
  | adrift
  | promoting
  | alone
  | feeding
  | active
  | releasing
  | fenced
deriving DecidableEq, Repr

/-- A lamp output (R463). -/
inductive LampOut where
  | dark
  | hold
  | release
deriving DecidableEq, Repr

/-- A lamp input (R481, R499): 0 dark, 1 lit, 2 a release code held; and why it is dark, as LAMP_FAULT names it: 1 no light,
2 bad frames, 3 a lower epoch. -/
structure LampIn where
  state : Nat
  why   : Nat
deriving DecidableEq, Repr

/-- The peer as its last TW_HELLO or TW_KEEPALIVE showed it (R466, R467). -/
structure Peer where
  node    : Nat
  service : Nat
  code    : Nat
  state   : Nat
  units   : Nat
  pref    : Bool
  fresh   : Bool
  incarnation : Nat
  epoch   : Nat
  handoverAsk : Bool
deriving DecidableEq, Repr

/-- A mirror packet sent and not acknowledged: stream, MSEQ, the line it carries (none for state), when it was sent, the TW port
it went through and the packet. -/
structure Sent where
  stream : Nat
  mseq   : Nat
  line   : Option Nat
  sentAt : Nat
  port   : Nat
  pkt    : Packet
  /-- What the line held before: a commit that is fenced before its acknowledgement has written nothing (R27, R469, R488). -/
  undo   : Option (List Byte × LineMeta)
deriving DecidableEq, Repr

/-- The sweep of one stream (R490): the next line it may read, and the granules it is limited to (none: every line). -/
structure Sweep where
  next : Nat
  only : Option (List Nat)
deriving DecidableEq, Repr

/-- A resync in progress (R490, R492): delta or full, the records of the state dump still to send (stream, type, slots, bytes),
the sweep of each stream, the MSEQ of each stream's SYNC_END once sent, the lines sent and when it began. -/
structure Resync where
  delta   : Bool
  dump    : List (Nat × Nat × Nat × List Byte)
  sweep0  : Sweep
  sweep1  : Sweep
  end0    : Option Nat
  end1    : Option Nat
  doneLines : Nat
  startedAt : Nat
deriving DecidableEq, Repr

/-- The twin state. -/
structure TwinState where
  st          : TwinSt
  enable      : Bool
  peer        : Option Peer
  peerEid     : Nat
  epoch       : Nat
  /-- The prepared epoch of the boot store (R483). -/
  prepared    : Nat
  incarnation : Nat
  /-- Epoch of the armed FORCE (R484). -/
  force       : Option Nat
  handoverAsk : Bool
  /-- HB_REQ received and granted for the next barrier (R495). -/
  handback    : Bool
  /-- TWIN_QUIESCE was given and no barrier has come: VC5 credits are withheld (R495). -/
  quiescing   : Bool
  /-- Requests of VC1, VC4, VC5 and VC6 paused by a handback since its barrier (R496). -/
  paused      : Bool
  /-- The release instant tr of R496 has passed. -/
  released    : Bool
  /-- No keepalive for 1 ms, and for 1.5 ms (R464). -/
  kaLost1ms   : Bool
  kaLost15    : Bool
  kaAt        : Nat
  lampOut     : LampOut
  lamp0       : LampIn
  lamp1       : LampIn
  /-- A release code held: when received (R484). -/
  releaseCode : Option Nat
  /-- Next MSEQ to send, per stream; records sent and unacknowledged. -/
  mseq0       : Nat
  mseq1       : Nat
  acked0      : Nat
  acked1      : Nat
  unacked     : List Sent
  /-- Highest contiguous MSEQ applied per stream, and packets held beyond a gap (R470). -/
  applied0    : Nat
  applied1    : Nat
  held        : List (Nat × Nat × Packet)
  syncEnd0    : Bool
  syncEnd1    : Bool
  resync      : Option Resync
  /-- The divergence map (R479) and the written map (R490), as lists of 64 KiB granules. -/
  diverging   : Bool
  divergence  : List Nat
  written     : List Nat
  /-- Repairs asked by the peer and waiting for their MSEQ (R477): stream, MSEQ, line, tag, port. -/
  repairWaits : List (Nat × Nat × Nat × Nat × Nat)
  /-- TWIN_ENROL_REFUSED with reason 5 was raised (R468). -/
  refused5    : Bool
  /-- Reason of the refusal that waits for its retry, 0 when none does (R464, R468). -/
  refused     : Nat
  /-- ANNOUNCE at 100 µs for 10 ms after gaining ownership (R483). -/
  announceAt  : Nat
  degraded    : Bool
  /-- BASIS of the takeover that runs: 1 release code, 2 FORCE; 0 when none waits for its claims (R486). -/
  basis       : Nat
deriving DecidableEq, Repr

/-- From manufacture: Solo, TWIN_ENABLE 0, epoch 0, lamps dark (R463, R499). -/
def TwinState.reset : TwinState :=
  { st := .solo, enable := false, peer := none, peerEid := 0, epoch := 0, prepared := 0, incarnation := 0, force := none
    handoverAsk := false, handback := false, quiescing := false, paused := false, released := false, kaLost1ms := false
    kaLost15 := false, kaAt := 0, lampOut := .dark, lamp0 := { state := 0, why := 1 }
    lamp1 := { state := 0, why := 1 }, releaseCode := none, mseq0 := 0, mseq1 := 0, acked0 := 0, acked1 := 0
    unacked := [], applied0 := 0, applied1 := 0, held := [], syncEnd0 := false, syncEnd1 := false, resync := none
    diverging := false, divergence := [], written := [], repairWaits := [], refused5 := false, refused := 0, announceAt := 0
    degraded := false, basis := 0 }

end Sys2Proof.Machine
end

