-- ==== Sys2Proof/Machine/StateTxn.lean ====
section
/-!
DEFINITION. Machine/StateTxn.lean: the state of Skeleth transactions (R143 to R187): outstanding requests, unpaired
halves, the completion ledger, pool-issued requests, pins and received time.
-/
namespace Sys2Proof.Machine

/-- Where an accepted request stands on its way to its final response. -/
inductive ReqPhase where
  /-- Waiting for its data half (R160). -/
  | awaitData
  /-- Held by policing (R509). -/
  | held
  /-- Waiting for the descriptor's generation (R218). -/
  | settle
  /-- Translated; waiting to be ordered at its home directory (R167). -/
  | ready
  /-- Waiting for a deep-tier fill (R295) or in the deep wait queue (R298). -/
  | deep
  /-- Parked at its line (R256). -/
  | parked
  /-- Its recall is in progress (R253). -/
  | recalling
  /-- Ordered; its line is being read from DRAM (R53). -/
  | dram
  /-- Ordered and written; its mirror is not acknowledged (R47, R478). -/
  | mirror
deriving DecidableEq, Repr

/-- A request the Varisk has accepted and not finally answered. -/
structure Request where
  src    : Nat
  tag    : Nat
  op     : Nat
  vc     : Nat
  port   : Nat
  slot   : Nat
  ctx    : Nat
  /-- The request packet, and the data half once it is paired. -/
  pkt    : Packet
  data   : Option Packet
  phase  : ReqPhase
  /-- The pool physical address of the translation, its tenant and memory KEY_ID. -/
  pa     : Nat
  tenant : Nat
  keyId  : Nat
  /-- TIER of its segment (R299). -/
  tier   : Nat
  /-- Its place has been taken in directory order (R178). -/
  ordered : Bool
  /-- Times it lost its line, for R257, and the age stamp of its parking (R256). -/
  losses : Nat
  stamp  : Nat
  /-- Its line was downgraded for it: a read granting a shared copy completes as Shared (R250). -/
  down   : Bool
  /-- The final response, held until the standby has acknowledged each stream this far (R469, R478). -/
  answer : Option Packet
  need0  : Nat
  need1  : Nat
  /-- What is recalled to make room for its entry (R249): a line's entry, or (true) a region's. -/
  making : Option (Bool × Nat)
deriving DecidableEq, Repr

/-- A completion ledger entry that is VALID (R176). -/
structure LedgerEntry where
  fingerprint : Nat
  op          : Nat
  status      : Nat
  harg        : Nat
  result      : Nat
deriving DecidableEq, Repr

/-- The units that issue pool requests (R180). -/
inductive Issuer where
  | snoop
  | stash
  | deep
  | mirror
  | repair
deriving DecidableEq, Repr

/-- A pool-issued request with no final response (R180, R181): `port` is its DP or TW port, 255 for one that goes through the pin of its
destination. -/
structure PoolReq where
  dest   : Nat
  tag    : Nat
  port   : Nat
  issuer : Issuer
  pkt    : Packet
  /-- The line, granule or stream it serves. -/
  key    : Nat
deriving DecidableEq, Repr

/-- A pool-issued request that waits for a tag: all 4,096 toward its destination are outstanding (R164). -/
structure PoolWait where
  issuer : Issuer
  key    : Nat
  port   : Option Nat
  pkt    : Packet
deriving DecidableEq, Repr

/-- A request answered before its data half came: the half is released when it comes, and until PAIRING_TIMEOUT after `at_` (R160);
`policed` when policing answered (R510). -/
structure Released where
  src     : Nat
  tag     : Nat
  policed : Bool
  at_     : Nat
deriving DecidableEq, Repr

/-- The last TIME_SYNC of a port (R183): VALID, HOPS, the time it carried in 1/256 ns, when it came, and since when it has shown
a HOPS below the time parent's (R185). -/
structure TimeRx where
  valid : Bool
  hops  : Nat
  time  : Nat
  at_   : Nat
  lower : Option Nat
deriving DecidableEq, Repr

/-- The transaction layer. -/
structure TxnState where
  reqs       : List Request
  /-- Data halves with no request yet, and the port each came in on (R160). -/
  halves     : List (Nat × Packet)
  released   : List Released
  ledger     : Assoc (Nat × Nat) LedgerEntry
  pool       : List PoolReq
  poolWait   : List PoolWait
  /-- The next tag of the Varisk toward each destination (R164). -/
  nextTag    : Assoc Nat Nat
  /-- The pin of each destination (R149). -/
  pins       : Assoc Nat Nat
  timeParent : Option Nat
  timeRx     : Assoc Nat TimeRx
deriving DecidableEq, Repr

/-- Nothing outstanding, no pin, no ledger entry valid (R176), no time parent (R186). -/
def TxnState.reset : TxnState :=
  { reqs := [], halves := [], released := [], ledger := [], pool := [], poolWait := [], nextTag := [], pins := [], timeParent := none, timeRx := [] }

end Sys2Proof.Machine
end

