-- ==== Sys2Proof/Machine/State.lean ====
section
/-!
DEFINITION. Machine/State.lean: the state of the block, its faults and refusals, and its reset state.
Every part is plain data; INVENTORY.md names the rule of each field.
-/
namespace Sys2Proof.Machine

/-- The state of the Varisk. -/
structure State where
  /-- Pins, rails, sensors, laser inputs. -/
  pkg     : PackageState
  /-- Optical ports and the link layer. -/
  link    : LinkState
  /-- Transactions. -/
  txn     : TxnState
  /-- Partner slots, contexts, translation caches. -/
  part    : PartnerState
  /-- Directories, region filters, recalls. -/
  dir     : DirState
  /-- Pool memory and its metadata. -/
  mem     : MemState
  /-- DRAM channels. -/
  dram    : DramState
  /-- Deep tier. -/
  deep    : DeepState
  /-- Error records, scrub, self-test. -/
  integ   : IntegState
  /-- Recipes and tile queues. -/
  recp    : RecipeState
  /-- Cores, threads, kernel store. -/
  core    : CoreState
  /-- Twin pair. -/
  twin    : TwinState
  /-- Scheduling and policing. -/
  traffic : TrafficState
  /-- Governor, grants, power states. -/
  power   : PowerState
  /-- Tenants, keys, sessions. -/
  sec     : SecurityState
  /-- Bring-up, resets, larder. -/
  boot    : BootState
  /-- Boot store and firmware update. -/
  fw      : FirmwareState
  /-- Time, crumbs, dumps, debug stop. -/
  obs     : ObserveState
  /-- KODP and the object dictionary. -/
  kodp    : KodpState
  /-- Every counter an object names, by counter and unit; absent is 0 (R625). -/
  ctrs    : Assoc (Ctr × Nat) Nat
  /-- The model's own: the index of the next free value (log 3). -/
  free    : Nat
  /-- The model's own: what has left the package, newest first (log 4). -/
  out     : List Out
  /-- The model's own: the commands that wait, first in, first out. -/
  pending : List Instr
deriving DecidableEq, Repr

/-- No command faults: every outcome the spec gives is an effect on the state. -/
inductive Fault where
  /-- Raised by no command; kept so that the outcome type is inhabited.  Safe. -/
  | none
deriving DecidableEq, Repr

/-- Why a command is turned away without an effect. -/
inductive Refusal where
  /-- A row whose meaning has not been written: raised by Dispatch only.  Safe. -/
  | notModelled (mnemonic : String)
deriving DecidableEq, Repr

/-- The block at power-on, PORESET_N low (R64): every part at its reset values; nothing pending. -/
def State.reset : State :=
  { pkg := PackageState.reset, link := LinkState.reset, txn := TxnState.reset, part := PartnerState.reset
    dir := DirState.reset, mem := MemState.reset, dram := DramState.reset, deep := DeepState.reset
    integ := IntegState.reset, recp := RecipeState.reset, core := CoreState.reset, twin := TwinState.reset
    traffic := TrafficState.reset, power := PowerState.reset, sec := SecurityState.reset, boot := BootState.reset
    fw := FirmwareState.reset, obs := ObserveState.reset, kodp := KodpState.reset, ctrs := [], free := 0, out := []
    pending := [] }

end Sys2Proof.Machine
end

