-- ==== Sys2Proof/Machine/Ops.lean ====
section
/-!
DEFINITION. Machine/Ops.lean: the named operations every family uses: one modifier per part of the state, counters, free
values, time, the sizes of the package, CRCs, and pool memory.
-/
namespace Sys2Proof.Machine

/-! ### Parts of the state -/

/-- Change the package part. -/
def State.onPkg (f : PackageState → PackageState) (s : State) : State := { s with pkg := f s.pkg }
/-- Change the link part. -/
def State.onLink (f : LinkState → LinkState) (s : State) : State := { s with link := f s.link }
/-- Change the transaction part. -/
def State.onTxn (f : TxnState → TxnState) (s : State) : State := { s with txn := f s.txn }
/-- Change the partner part. -/
def State.onPart (f : PartnerState → PartnerState) (s : State) : State := { s with part := f s.part }
/-- Change the directories. -/
def State.onDir (f : DirState → DirState) (s : State) : State := { s with dir := f s.dir }
/-- Change pool memory. -/
def State.onMem (f : MemState → MemState) (s : State) : State := { s with mem := f s.mem }
/-- Change the DRAM channels. -/
def State.onDram (f : DramState → DramState) (s : State) : State := { s with dram := f s.dram }
/-- Change the deep tier. -/
def State.onDeep (f : DeepState → DeepState) (s : State) : State := { s with deep := f s.deep }
/-- Change the error records. -/
def State.onInteg (f : IntegState → IntegState) (s : State) : State := { s with integ := f s.integ }
/-- Change the recipes. -/
def State.onRecp (f : RecipeState → RecipeState) (s : State) : State := { s with recp := f s.recp }
/-- Change the cores. -/
def State.onCore (f : CoreState → CoreState) (s : State) : State := { s with core := f s.core }
/-- Change the twin part. -/
def State.onTwin (f : TwinState → TwinState) (s : State) : State := { s with twin := f s.twin }
/-- Change the traffic part. -/
def State.onTraffic (f : TrafficState → TrafficState) (s : State) : State := { s with traffic := f s.traffic }
/-- Change the power part. -/
def State.onPower (f : PowerState → PowerState) (s : State) : State := { s with power := f s.power }
/-- Change the security part. -/
def State.onSec (f : SecurityState → SecurityState) (s : State) : State := { s with sec := f s.sec }
/-- Change the bring-up part. -/
def State.onBoot (f : BootState → BootState) (s : State) : State := { s with boot := f s.boot }
/-- Change the firmware part. -/
def State.onFw (f : FirmwareState → FirmwareState) (s : State) : State := { s with fw := f s.fw }
/-- Change the observation part. -/
def State.onObs (f : ObserveState → ObserveState) (s : State) : State := { s with obs := f s.obs }
/-- Change the KODP part. -/
def State.onKodp (f : KodpState → KodpState) (s : State) : State := { s with kodp := f s.kodp }
/-- Change the counters. -/
def State.onCtrs (f : Assoc (Ctr × Nat) Nat → Assoc (Ctr × Nat) Nat) (s : State) : State := { s with ctrs := f s.ctrs }

/-! ### Counters, free values, the outside -/

/-- Whether a debug stop holds the fabric, cluster and DRAM PHY islands frozen (R638, R641): no event of theirs has an effect. -/
def State.frozen (s : State) : Bool := s.obs.stop == .stopped || s.obs.stop == .resumeSet

/-- A counter's value; a counter nothing has raised reads 0. -/
def State.ctr (s : State) (c : Ctr) (u : Nat) : Nat := agetD s.ctrs (c, u) 0

/-- A counter's value after `n` more: a U64 wraps, a U32 saturates (R625). -/
def ctrAdd (c : Ctr) (v n : Nat) : Nat := if c.isU32 then min (v + n) (2 ^ 32 - 1) else (v + n) % 2 ^ 64

/-- Raise a counter by `n` (R625). -/
def bumpBy (c : Ctr) (u n : Nat) (s : State) : State :=
  s.onCtrs (fun t => aset t (c, u) (ctrAdd c (agetD t (c, u) 0) n))

/-- Raise a counter by 1. -/
def bump (c : Ctr) (u : Nat) (s : State) : State := bumpBy c u 1 s

/-- Use up one free value. -/
def useFree (s : State) : State := { s with free := s.free + 1 }

/-- Use up `n` free values. -/
def useFrees (n : Nat) (s : State) : State := { s with free := s.free + n }

/-- Append to the log of what left the package. -/
def emit (o : Out) (s : State) : State := { s with out := o :: s.out }

/-- Apply a function when a condition holds. -/
def onlyIf (c : Bool) (f : State → State) (s : State) : State := if c then f s else s

/-- Apply a function for each element of a list, first to last. -/
def forAll {α : Type} (l : List α) (f : α → State → State) (s : State) : State := l.foldl (fun s a => f a s) s

/-! ### Time (R618, R624) -/

/-- Global time of Die 0 in ns. -/
def State.now (s : State) : Nat := s.obs.time0.counter / 256

/-- Global time of a die in 1/256 ns (R618). -/
def State.timeOf (s : State) (die : Nat) : Nat := if die = 0 then s.obs.time0.counter else s.obs.time1.counter

/-- Whether a time island keeps locked time: Locked, or the root itself (R621, R624; log 8). -/
def TimeIsland.isLocked (t : TimeIsland) : Bool := t.st == .locked || t.st == .root

/-! ### What the package has (R4, R28 to R31, R141, R592) -/

/-- Ports that are present: FP0 on, DP0-DP3, TW0 on (R4, R141). -/
def portPresent (port : Nat) : Bool :=
  decide (port < Config.fabricPorts) || decide (32 ≤ port ∧ port < 36) || decide (36 ≤ port ∧ port < 36 + Config.twinPorts)

/-- Whether a port index is a fabric port's. -/
def isFabric (port : Nat) : Bool := decide (port < 32)
/-- Whether a port index is a deep-tier port's. -/
def isDeepPort (port : Nat) : Bool := decide (32 ≤ port ∧ port < 36)
/-- Whether a port index is a twin port's. -/
def isTwinPort (port : Nat) : Bool := decide (36 ≤ port ∧ port < 40)

/-- The optical engine of a port (R29). -/
def engineOf (port : Nat) : Nat := port / 4

/-- The die of an engine: SOE0-SOE3 and SOE9 on Die 0, SOE4-SOE8 on Die 1 (R29). -/
def dieOfEngine (e : Nat) : Nat := if e < 4 ∨ e = 9 then 0 else 1

/-- The die a port's adapter is on. -/
def dieOfPort (port : Nat) : Nat := dieOfEngine (engineOf port)

/-- The die of a core or cluster. -/
def dieOfCluster (k : Nat) : Nat := k / 8
/-- The cluster of a core (R592). -/
def clusterOf (core : Nat) : Nat := core / 18

/-- Whether a core exists: it is not fused off (R6, R592). -/
def corePresent (core : Nat) : Bool := decide (core < 288 ∧ core % 18 < Config.presentPerCluster)

/-! ### CRCs -/

/-- One bit of a reflected CRC. -/
def crcStepR (poly c : Nat) : Nat := if c % 2 = 1 then Nat.xor (c / 2) poly else c / 2
/-- `n` bits of a reflected CRC. -/
def crcBitsR (poly : Nat) : Nat → Nat → Nat
  | 0, c => c
  | n + 1, c => crcBitsR poly n (crcStepR poly c)
/-- A reflected CRC over bytes from a state. -/
def crcR (poly : Nat) : List Byte → Nat → Nat
  | [], c => c
  | b :: bs, c => crcR poly bs (crcBitsR poly 8 (Nat.xor c b.toNat))
/-- CRC-32C as RFC 3720 gives it (R152). -/
def crc32c (l : List Byte) : Nat := Nat.xor (crcR 0x82F63B78 l 0xFFFFFFFF) 0xFFFFFFFF

/-- One bit of a CRC that takes the most significant bit first, of width `w`. -/
def crcStepF (w poly c : Nat) : Nat :=
  if c ≥ 2 ^ (w - 1) then Nat.xor (c * 2 % 2 ^ w) poly else c * 2
/-- `n` bits of it. -/
def crcBitsF (w poly : Nat) : Nat → Nat → Nat
  | 0, c => c
  | n + 1, c => crcBitsF w poly n (crcStepF w poly c)
/-- The CRC over bytes from a state. -/
def crcF (w poly : Nat) : List Byte → Nat → Nat
  | [], c => c
  | b :: bs, c => crcF w poly bs (crcBitsF w poly 8 (Nat.xor c (b.toNat * 2 ^ (w - 8))))
/-- CRC-16 of KSL (R80). -/
def crc16 (l : List Byte) : Nat := crcF 16 0x1021 l 0xFFFF
/-- CRC-8 of a lamp frame (R480). -/
def crc8 (l : List Byte) : Nat := crcF 8 0x07 l 0

/-! ### Pool memory: one byte at a time, in canonical form (R318) -/

/-- The byte at a pool physical address; a byte nothing has written is zero (R318). -/
def cellGet : List Host.Cell → Nat → Byte
  | [], _ => 0
  | (a, b) :: t, x => if a = x then b else if x < a then 0 else cellGet t x

/-- The cells with address `x` holding `b`, addresses rising and no zero listed. -/
def cellSet : List Host.Cell → Nat → Byte → List Host.Cell
  | [], x, b => if b = 0 then [] else [(x, b)]
  | (a, c) :: t, x, b =>
    if x = a then (if b = 0 then t else (a, b) :: t)
    else if x < a then (if b = 0 then (a, c) :: t else (x, b) :: (a, c) :: t)
    else (a, c) :: cellSet t x b

/-- Write bytes from an address up. -/
def cellsPut : List Host.Cell → Nat → List Byte → List Host.Cell
  | m, _, [] => m
  | m, x, b :: bs => cellsPut (cellSet m x b) (x + 1) bs

/-- Read `n` bytes from an address up. -/
def cellsRead (m : List Host.Cell) (x n : Nat) : List Byte := (List.range n).map (fun i => cellGet m (x + i))

/-- Addresses strictly above `lo`, rising, no zero byte. -/
def cellsFrom : Option Nat → List Host.Cell → Bool
  | _, [] => true
  | lo, (a, b) :: t => (match lo with | none => true | some l => decide (l < a)) && decide (b ≠ 0) && cellsFrom (some a) t

/-- The canonical form of pool memory and of every tray. -/
def Memory.wf (m : List Host.Cell) : Bool := cellsFrom none m

/-- The byte of pool memory at an address. -/
def State.readByte (s : State) (pa : Nat) : Byte := cellGet s.mem.cells pa

/-- `n` bytes of pool memory. -/
def State.readBytes (s : State) (pa n : Nat) : List Byte := cellsRead s.mem.cells pa n

/-- The 128 bytes of a line (its number is PA / 128). -/
def State.readLine (s : State) (line : Nat) : List Byte := s.readBytes (line * 128) 128

/-- The home cluster of a pool physical address (R38). -/
def homeCluster (pa : Nat) : Nat := Nat.xor (bits pa 16 4) (bits pa 20 4)
/-- The home die (R38). -/
def homeDie (pa : Nat) : Nat := homeCluster pa / 8
/-- The cluster-local address (R38). -/
def localAddr (pa : Nat) : Nat := (pa / 2 ^ 20) * 2 ^ 16 + pa % 2 ^ 16
/-- The pool physical address of a cluster-local address: the inverse of R38. -/
def paOfLocal (cluster cla : Nat) : Nat :=
  let hi := cla / 2 ^ 16
  hi * 2 ^ 20 + Nat.xor cluster (hi % 16) * 2 ^ 16 + cla % 2 ^ 16
/-- The channel of a pool physical address (R270): 32 × stack + channel. -/
def channelOfPa (pa : Nat) : Nat := 16 * homeCluster pa + bits (localAddr pa) 7 4

/-- The metadata of a line that nothing has written: that of R318, or what the markings of its channel have left of it (R685). -/
def MemState.unwritten (m : MemState) (line : Nat) : LineMeta :=
  match aget m.marked (channelOfPa (line * 128)) with
  | some n => { LineMeta.reset with poison := true, version := n % 65536 }
  | none => LineMeta.reset

/-- A line's metadata. -/
def State.lineMeta (s : State) (line : Nat) : LineMeta := agetD s.mem.lines line (s.mem.unwritten line)

/-- Put bytes into pool memory. -/
def putBytes (pa : Nat) (bs : List Byte) (s : State) : State :=
  s.onMem (fun m => { m with cells := cellsPut m.cells pa bs })

/-- Change a line's metadata. -/
def setMeta (line : Nat) (f : LineMeta → LineMeta) (s : State) : State :=
  s.onMem (fun m => { m with lines := aset m.lines line (f (agetD m.lines line (m.unwritten line))) })

/-- Exactly `n` bytes: cut, or filled with zeros. -/
def padTo (n : Nat) (l : List Byte) : List Byte := l.take n ++ List.replicate (n - l.length) 0

end Sys2Proof.Machine
end

