-- ==== Sys2Proof/Machine/Codes.lean ====
section
/-!
DEFINITION. Machine/Codes.lean: the codes of lanes, lines and SRAM words, and residues: Galois fields, the inner FEC of a lane, PAM4, the
lane frame and its slices, PRBS31, striping, lane control blocks (R98 to R105, R109), the line code (R320, R321), SEC-DED (R325) and residues
modulo 7 (R332, R334).
-/
namespace Sys2Proof
open Machine

/-! ### Galois fields GF(2^m) -/

/-- A field GF(2^m): m and the primitive polynomial without its leading term. -/
structure Galois where
  m    : Nat
  poly : Nat
deriving DecidableEq, Repr

/-- An element times α. -/
def Galois.shift (f : Galois) (a : Nat) : Nat :=
  if a * 2 ≥ 2 ^ f.m then Nat.xor (a * 2 % 2 ^ f.m) f.poly else a * 2

/-- The product of two elements, from `n` bits of the second. -/
def Galois.mulBits (f : Galois) : Nat → Nat → Nat → Nat
  | 0, _, _ => 0
  | n + 1, a, b => Nat.xor (if b % 2 = 1 then a else 0) (f.mulBits n (f.shift a) (b / 2))

/-- The product of two elements. -/
def Galois.mul (f : Galois) (a b : Nat) : Nat := f.mulBits f.m a b

/-- α^i. -/
def Galois.alpha (f : Galois) : Nat → Nat
  | 0 => 1
  | i + 1 => f.shift (f.alpha i)

/-- The value of a polynomial, lowest coefficient first. -/
def Galois.eval (f : Galois) (x : Nat) : List Nat → Nat
  | [] => 0
  | c :: cs => Nat.xor c (f.mul x (f.eval x cs))

/-- The product of (x − αⁱ) for i from 0 to n − 1, lowest coefficient first. -/
def Galois.generator (f : Galois) : Nat → List Nat
  | 0 => [1]
  | n + 1 =>
    let g := f.generator n
    List.zipWith Nat.xor (0 :: g) (g.map (f.mul (f.alpha n)) ++ [0])

/-- One step of the division by a generator: the remainder takes in the next coefficient, from the highest down. -/
def Galois.divStep (f : Galois) (g : List Nat) (rem : List Nat) (c : Nat) : List Nat :=
  let top := Nat.xor c (rem.getLastD 0)
  List.zipWith Nat.xor (0 :: rem.dropLast) (g.dropLast.map (f.mul top))

/-- The check symbols of some data: the remainder of data × xⁿ by the generator of n roots; data lowest coefficient first. -/
def Galois.checks (f : Galois) (n : Nat) (data : List Nat) : List Nat :=
  data.reverse.foldl (f.divStep (f.generator n)) (List.replicate n 0)

/-- The syndromes of a word: its values at α⁰ to αⁿ⁻¹; a codeword has none but zeros. -/
def Galois.syndromes (f : Galois) (n : Nat) (word : List Nat) : List Nat := (List.range n).map (fun i => f.eval (f.alpha i) word)

/-- Whether a word is a codeword. -/
def Galois.isCodeword (f : Galois) (n : Nat) (word : List Nat) : Bool := (f.syndromes n word).all (· == 0)

/-- The number of symbols in which two words differ. -/
def distance (a b : List Nat) : Nat := ((List.zipWith (fun x y => if x = y then 0 else 1) a b)).sum

/-! ### The inner FEC of a lane (R98 to R100) -/

/-- GF(2¹⁰) with x¹⁰ + x³ + 1 (R99). -/
def laneField : Galois := { m := 10, poly := 9 }

/-- A codeword of RS(136,128): 8 check symbols, then 128 data symbols, lowest coefficient first (R99; log 149). -/
def fecEncode (data : List Nat) : List Nat := laneField.checks 8 data ++ data

/-- What the decoder corrects a received word to: the codeword within 4 symbols of it (R99).  A word with none is uncorrectable. -/
def FecCorrects (received sent : List Nat) : Prop :=
  received.length = 136 ∧ sent.length = 136 ∧ laneField.isCodeword 8 sent = true ∧ distance received sent ≤ 4

/-- Some bits as symbols of `w` bits, the first bit the lowest. -/
def symbolsOf (w : Nat) : Nat → Nat → List Nat
  | 0, _ => []
  | n + 1, v => v % 2 ^ w :: symbolsOf w n (v / 2 ^ w)

/-- The elements at even places, and those at odd places. -/
def unzip2 : List Nat → List Nat × List Nat
  | [] => ([], [])
  | [a] => ([a], [])
  | a :: b :: t => let r := unzip2 t; (a :: r.1, b :: r.2)

/-- Two words symbol by symbol: A0, B0, A1, B1, … -/
def interleave : List Nat → List Nat → List Nat
  | a :: as, b :: bs => a :: b :: interleave as bs
  | _, _ => []

/-- Bits of a symbol, most significant first. -/
def msbFirst (w v : Nat) : List Bool := (List.range w).map (fun i => bits v (w - 1 - i) 1 == 1)

/-- A codeword as it is sent: the data symbols in order of their position, then the check symbols (log 149). -/
def wireOrder (cw : List Nat) : List Nat := cw.drop 8 ++ (cw.take 8).reverse

/-- The 2,720 line bits of a pair with 2,560 data bits: data symbol j goes to codeword j mod 2 at position j / 2 (R99, R100). -/
def pairBits (data : Nat) : List Bool :=
  let (a, b) := unzip2 (symbolsOf 10 256 data)
  (interleave (wireOrder (fecEncode a)) (wireOrder (fecEncode b))).flatMap (msbFirst 10)

/-- The PAM4 level of two bits, the earlier the more significant: 00, 01, 11, 10 are levels 0 to 3 (R98). -/
def pam4 (hi lo : Bool) : Nat :=
  match hi, lo with
  | false, false => 0 | false, true => 1 | true, true => 2 | true, false => 3

/-- The PAM4 levels of line bits. -/
def pam4Levels : List Bool → List Nat
  | a :: b :: t => pam4 a b :: pam4Levels t
  | _ => []

/-! ### Lane frames, slices and striping (R101, R104, R105, R109) -/

/-- The data bits of a pair that carries ten slices of 32 bytes: slice k at bits [256k+255:256k], byte i of it at [8i+7:8i] (R101, R109). -/
def pairOfSlices (slices : List (List Byte)) : Nat := leNat ((slices.map (padTo 32)).flatten)

/-- The levels of a lane frame of 17 pairs: pair 0 the lane control block, pairs 1 to 16 the data bits given (R101, R102). -/
def laneFrame (block : List Byte) (pairs : List Nat) : List Nat :=
  (leNat (block.take 320) :: pairs.take 16).flatMap (fun d => pam4Levels (pairBits d))

/-- The slices that have a bit in a codeword of a pair: symbols of both codewords alternate over the pair's data bits, so all ten (R99, R100,
R105). -/
def slicesOfCodeword (which : Nat) : List Nat :=
  (List.range 10).filter (fun k => (List.range 256).any (fun j => decide (j % 2 = which % 2 ∧ 10 * j < 256 * (k + 1) ∧ 256 * k < 10 * j + 10)))

/-- The bytes of a flit that logical lane `l` carries at a width, in order: bytes b with b mod width = l (R109). -/
def laneShare (width l : Nat) (flit : List Byte) : List Byte :=
  (List.range (flit.length / width)).map (fun i => flit.getD (i * width + l) 0)

/-- The slices that a flit fills on a logical lane: one at width 8, two at width 4 (R109). -/
def flitSlices (width l : Nat) (flit : List Byte) : List (List Byte) :=
  let share := laneShare width l flit
  if width = 8 then [share] else [share.take 32, share.drop 32]

/-- One step of PRBS31 (x³¹ + x²⁸ + 1; log 149). -/
def prbsStep (v : Nat) : Nat := v * 2 % 2 ^ 31 + (bits v 30 1 + bits v 27 1) % 2

/-- `n` bits of PRBS31 from a state, as a number with the first bit lowest, and the state after. -/
def prbsBits : Nat → Nat → Nat × Nat
  | 0, v => (0, v)
  | n + 1, v =>
    let v' := prbsStep v
    let (r, w) := prbsBits n v'
    (v' % 2 + 2 * r, w)

/-- The state of the generator after `n` frames of 40,960 data bits (R101, R104). -/
def prbsAfter : Nat → Nat → Nat
  | 0, v => v
  | n + 1, v => prbsAfter n (prbsBits 40960 v).2

/-- The 16 data pairs of a lane that carries no flit data, in the frame of a number, from the seed of the FRAME_COUNT wrap (R104). -/
def prbsPairs (seed frame : Nat) : List Nat := symbolsOf 2560 16 (prbsBits 40960 (prbsAfter frame seed)).1

/-- Bits of a received frame's data pairs that differ from the pattern: what the receiver of a spare or idle lane counts (R104). -/
def prbsErrors (seed frame : Nat) (pairs : List Nat) : Nat :=
  (List.zipWith (fun a b => ((List.range 2560).filter (fun i => bits (Nat.xor a b) i 1 == 1)).length) (prbsPairs seed frame) pairs).sum

/-! ### Lane control blocks (R102, R117) -/

/-- What two blocks must show alike in the exchange: the maps and PROFILE (R117). -/
def Lcb.agreed (c : Lcb) : Nat × Nat × Bool × Nat := (c.txRetired, c.retireReq, c.laneRestore, c.profile)

/-- Bytes 0 to 315 of a lane control block (R102). -/
def Lcb.front (c : Lcb) : List Byte :=
  let flag (b : Bool) : Nat := if b then 1 else 0
  padTo 316 (leBytes 48 (0xA5C30F965A3CF069 + c.physLane * 2 ^ 64 + c.port * 2 ^ 72 + c.logicalLane * 2 ^ 80 + c.linkState * 2 ^ 88
    + c.frameCount * 2 ^ 96 + c.txRetired * 2 ^ 128 + c.retireReq * 2 ^ 144 + flag c.retrainReq * 2 ^ 160 + flag c.laneRestore * 2 ^ 161
    + c.txWidth * 2 ^ 168 + flag c.capGrand * 2 ^ 176 + flag c.capCompact * 2 ^ 177 + flag c.capHalf * 2 ^ 178 + c.profile * 2 ^ 192
    + c.rxCorrected * 2 ^ 224 + c.rxUncorr * 2 ^ 256 + c.stamp * 2 ^ 288 + c.echo * 2 ^ 320 + c.echoHold * 2 ^ 352))

/-- A lane control block of 320 bytes, with its LCB_CRC (R102). -/
def Lcb.bytes (c : Lcb) : List Byte := c.front ++ leBytes 4 (crc32c c.front)

/-- The fields of a received block; none where LCB_CRC fails or ALIGN is not there (R102, R103; log 149).  Reserved bits are ignored (R20). -/
def Lcb.ofBytes (b : List Byte) : Option Lcb :=
  let v := leNat (b.take 48)
  if b.length ≠ 320 ∨ leNat (b.drop 316) ≠ crc32c (b.take 316) ∨ bits v 0 64 ≠ 0xA5C30F965A3CF069 then none
  else some {
    physLane := bits v 64 8, port := bits v 72 2, logicalLane := bits v 80 8, linkState := bits v 88 8, frameCount := bits v 96 32
    txRetired := bits v 128 9, retireReq := bits v 144 9, retrainReq := bits v 160 1 == 1, laneRestore := bits v 161 1 == 1
    txWidth := bits v 168 8, capGrand := bits v 176 1 == 1, capCompact := bits v 177 1 == 1, capHalf := bits v 178 1 == 1
    profile := bits v 192 8, rxCorrected := bits v 224 32, rxUncorr := bits v 256 32, stamp := bits v 288 32, echo := bits v 320 32
    echoHold := bits v 352 32 }

/-! ### The line code (R320, R321) -/

/-- GF(2³²) with x³² + x²² + x² + x + 1 (R320). -/
def lineField : Galois := { m := 32, poly := 0x400007 }

/-- The 36 symbols of a line: c₀ to c₂ the check symbols, c₃ to c₃₄ the data, c₃₅ the metadata word (R320). -/
def lineCodeword (data : List Byte) (word : Nat) : List Nat :=
  let body := symbolsOf 32 32 (leNat (data.take 128)) ++ [word % 2 ^ 32]
  lineField.checks 3 body ++ body

/-- What the decoder of the line code finds (R321, R322). -/
inductive LineOutcome where
  | clean
  | corrected (symbol flips : Nat)
  | uncorrectable
deriving DecidableEq, Repr

/-- The word with some symbols flipped. -/
def flipped (errors : List (Nat × Nat)) : List Nat :=
  (List.range 36).map (fun i => (errors.filter (fun e => e.1 == i)).foldl (fun a e => Nat.xor a (e.2 % 2 ^ 32)) 0)

/-- The decoder (R321): the code is linear, so the syndromes are those of the error alone.  One symbol i in error by v gives
v, v αⁱ, v α²ⁱ. -/
def lineDecode (errors : List (Nat × Nat)) : LineOutcome :=
  match lineField.syndromes 3 (flipped errors) with
  | [s0, s1, s2] =>
    if s0 = 0 ∧ s1 = 0 ∧ s2 = 0 then .clean
    else match (List.range 36).find? (fun i => s0 != 0 && lineField.mul s0 (lineField.alpha i) == s1 && lineField.mul s1 (lineField.alpha i) == s2) with
      | some i => .corrected i s0
      | none => .uncorrectable
  | _ => .uncorrectable

/-! ### SEC-DED (R325) -/

/-- The bytes with a number of bits set. -/
def bytesOfWeight (w : Nat) : List Nat := (List.range 256).filter (fun c => ((List.range 8).map (fun i => bits c i 1)).sum == w)

/-- The column of a Hsiao (72,64) code for a data bit: the 56 columns of weight 3, then 8 of weight 5, in rising order; the manual does
not state them (log 150). -/
def hsiaoColumn (bit : Nat) : Nat := (bytesOfWeight 3 ++ bytesOfWeight 5).getD bit 0

/-- The 8 check bits of a 64-bit word. -/
def secdedChecks (word : Nat) : Nat :=
  (List.range 64).foldl (fun a i => if bits word i 1 = 1 then Nat.xor a (hsiaoColumn i) else a) 0

/-- What SEC-DED finds in a word and its check bits. -/
inductive SecDed where
  | clean
  /-- The bit in error: 0 to 63 of the word, 64 to 71 of the check bits. -/
  | corrected (bit : Nat)
  | uncorrectable
deriving DecidableEq, Repr

/-- The checker (R325): a single-bit error is located, a double-bit error detected. -/
def secdedCheck (word checks : Nat) : SecDed :=
  let syn := Nat.xor (secdedChecks word) checks
  if syn = 0 then .clean
  else match (List.range 72).find? (fun i => (if i < 64 then hsiaoColumn i else 2 ^ (i - 64)) == syn) with
    | some i => .corrected i
    | none => .uncorrectable

/-! ### Residues modulo 7 (R332, R334) -/

/-- The residue of an integer. -/
def residue (v : Int) : Nat := (v % 7).toNat

/-- The residue a unit predicts for a sum, a difference, a product, and a shift left by k (R332). -/
def resAdd (a b : Nat) : Nat := (a + b) % 7
/-- Of a difference. -/
def resSub (a b : Nat) : Nat := (a + 7 - b % 7) % 7
/-- Of a product. -/
def resMul (a b : Nat) : Nat := a * b % 7
/-- Of a left shift by k. -/
def resShl (a k : Nat) : Nat := a * 2 ^ (k % 3) % 7

/-- An arithmetic unit of R333 reports a mismatch when the residue of what it produced is not the one predicted (R332). -/
def mismatch (produced : Int) (predicted : Nat) : Bool := residue produced != predicted

/-- What a checked unit computes from its operands (R333); a shift is by the second. -/
def CheckedUnit.result (u : CheckedUnit) (a b : Int) : Int :=
  match u with
  | .significandMultiply | .integerMul => a * b
  | .exponentAdd | .significandAdd | .integerAdd | .exactAccumulator => a + b
  | .integerSub => a - b
  | .alignmentShift => a * 2 ^ b.toNat
  | .roundingIncrement => a + 1
  | .bitwise => (Nat.xor a.toNat b.toNat : Nat)
  | .compare => if a < b then 1 else 0
  | .select => a

/-- The residue that the unit predicts from those of its operands (R332); none for a unit that is duplicated instead (R333). -/
def CheckedUnit.predicted (u : CheckedUnit) (a b : Int) : Option Nat :=
  match u with
  | .significandMultiply | .integerMul => some (resMul (residue a) (residue b))
  | .exponentAdd | .significandAdd | .integerAdd | .exactAccumulator => some (resAdd (residue a) (residue b))
  | .integerSub => some (resSub (residue a) (residue b))
  | .alignmentShift => some (resShl (residue a) b.toNat)
  | .roundingIncrement => some (resAdd (residue a) 1)
  | .bitwise | .compare | .select => none

/-- Whether a unit that produces a value for its operands reports a mismatch: by its residue, or against its duplicate (R332, R333). -/
def CheckedUnit.catches (u : CheckedUnit) (a b produced : Int) : Bool :=
  match u.predicted a b with
  | some r => mismatch produced r
  | none => produced != u.result a b

/-- The sum of an accumulator's three-bit groups modulo 7 (R334). -/
def groupSum : Nat → Nat → Nat
  | 0, _ => 0
  | n + 1, v => (v % 8 + groupSum n (v / 8)) % 7

end Sys2Proof
end

