-- ==== Sys2Proof/Machine/OpsPacket.lean ====
section
/-!
DEFINITION. Machine/OpsPacket.lean: packets: their bytes and E2E_CRC, egress pins and leaves, link encryption, the
completion ledger and the mirror records of a twin (R143 to R157, R176, R177, R470 to R472, R504, R564 to R566).
-/
namespace Sys2Proof
open Machine

/-! ### Bytes of a packet (R152, R153) -/

/-- Slots of a packet, the head slot included. -/
def Packet.slots (p : Packet) : Nat := 1 + p.body.length / 16

/-- Head-slot bytes 0 to 11 with RESEND as given (R153). -/
def Packet.head (p : Packet) (resend : Bool) : List Byte :=
  leBytes 12 (p.vc + (p.slots - 1) * 2 ^ 3 + p.op * 2 ^ 8 + p.dest * 2 ^ 16 + p.src * 2 ^ 34 + p.tag * 2 ^ 52
    + (if p.poison then 2 ^ 64 else 0) + (if resend then 2 ^ 65 else 0) + (if p.enc then 2 ^ 66 else 0) + p.rsv * 2 ^ 67
    + p.status * 2 ^ 72 + p.harg * 2 ^ 80)

/-- The E2E_CRC of a packet's bytes, RESEND taken as 0 (R152). -/
def Packet.e2e (p : Packet) : Nat := crc32c (p.head false ++ p.body)

/-- All the bytes of a packet, slot by slot. -/
def Packet.bytes (p : Packet) : List Byte := p.head p.resend ++ leBytes 4 p.crc ++ p.body

/-- The packet with its E2E_CRC filled in. -/
def Packet.close (p : Packet) : Packet := { p with crc := p.e2e }

/-- A packet the Varisk makes. -/
def mkPacket (vc op dest src tag status harg : Nat) (poison : Bool) (body : List Byte) : Packet :=
  Packet.close { vc := vc, op := op, dest := dest, src := src, tag := tag, poison := poison, resend := false, enc := false
                 rsv := 0, status := status, harg := harg, crc := 0, body := body }

/-- Whether the E2E_CRC of a received packet checks good. -/
def Packet.crcGood (p : Packet) : Bool := p.crc == p.e2e

/-- The number of a status code (R23). -/
def Status.code : Status → Nat
  | .ok => 0 | .retry => 1 | .poisoned => 2 | .xlateFault => 3 | .rightsFault => 4 | .versionConflict => 5 | .fenced => 6
  | .timeout => 7 | .noSpace => 8 | .admissionWait => 9 | .aborted => 10 | .unsupported => 11 | .refusedState => 12
  | .integrity => 13 | .keyMissing => 14

/-- The status with a number (R23); R25 takes an unknown one as ABORTED. -/
def Status.ofCode : Nat → Status
  | 0 => .ok | 1 => .retry | 2 => .poisoned | 3 => .xlateFault | 4 => .rightsFault | 5 => .versionConflict | 6 => .fenced
  | 7 => .timeout | 8 => .noSpace | 9 => .admissionWait | 11 => .unsupported | 12 => .refusedState
  | 13 => .integrity | 14 => .keyMissing | _ => .aborted

end Sys2Proof

namespace Sys2Proof.Machine

/-! ### Objects the packet layer reads -/

/-- The value of a writable object: as written, or its reset value. -/
def State.obj (s : State) (o : Obj) : Nat := agetD s.kodp.objs o o.info.reset

/-- Set a writable object. -/
def setObj (o : Obj) (v : Nat) (s : State) : State := s.onKodp (fun k => { k with objs := aset k.objs o v })

/-- The rows of a writable table. -/
def State.table (s : State) (t : TableId) : List Row := agetD s.kodp.tables t []

/-- A port's state. -/
def State.port (s : State) (p : Nat) : Port := agetD s.link.ports p Port.reset

/-- Change a port's state. -/
def setPort (p : Nat) (f : Port → Port) (s : State) : State :=
  s.onLink (fun l => { l with ports := aset l.ports p (f (agetD l.ports p Port.reset)) })

/-- Whether a port runs the Compact profile: PORT_CONFIG's profile is 1 (R141, R170). -/
def State.compact (s : State) (p : Nat) : Bool :=
  match (s.table .portConfig).find? (fun r => r.fields.getD 0 0 == p) with
  | some r => r.fields.getD 2 0 == 1
  | none => false

/-- The partner slot an EID holds; one in Quarantine counts as none (R201). -/
def State.slotOfEid (s : State) (eid : Nat) : Option Nat :=
  (s.part.slots.find? (fun e => e.2.eid == eid && e.2.st != .quarantine)).map Prod.fst

/-! ### Egress (R149, R150, R504) -/

/-- The service class of a virtual channel (R501). -/
def classOfVc (vc : Nat) : Nat := if vc = 0 ∨ vc = 2 then 0 else if vc = 6 then 1 else if vc = 5 then 3 else if vc = 7 then 4 else 2

/-- Whether a fabric port's routes include a destination; an empty EID_ROUTES reaches every EID (R149). -/
def State.routes (s : State) (port dest : Nat) : Bool :=
  let t := s.table .eidRoutes
  t.isEmpty || t.any (fun r => r.fields.getD 0 99 == port && decide (r.fields.getD 1 0 ≤ dest) && decide (dest ≤ r.fields.getD 2 0))

/-- The port R149 picks for a destination, if any fabric port in Active reaches it. -/
def State.pickPin (s : State) (dest : Nat) : Option Nat :=
  let cand := (List.range 32).filter (fun p => portPresent p && (s.port p).st == .active && s.routes p dest)
  if cand.isEmpty then none else cand[dest % cand.length]?

/-- The number that stands for no port: packets there wait for a pin (R150). -/
def noPin : Nat := 255
/-- The subscriber number of a port's pool leaf (R504). -/
def poolLeaf : Nat := 8192

/-- Put a packet at the end of the leaf of a port, subscriber and class. -/
def enqueueAt (port sub : Nat) (p : Packet) (s : State) : State :=
  let k : LeafKey := { port := port, sub := sub, cls := classOfVc p.vc }
  s.onTraffic (fun t => { t with leaves := amod t.leaves k [] (fun q => q ++ [{ at_ := s.now, pkt := p }]) })

/-- Send a packet on a fabric port: through the pin of its destination, picked on first use; with no port that reaches it,
it waits without one (R149, R150). -/
def sendPacket (p : Packet) (s : State) : State :=
  let sub := (s.slotOfEid p.dest).getD poolLeaf
  match aget s.txn.pins p.dest with
  | some port => enqueueAt port sub p s
  | none =>
    match s.pickPin p.dest with
    | some port => enqueueAt port sub p (s.onTxn (fun t => { t with pins := aset t.pins p.dest port }))
    | none => enqueueAt noPin sub p s

/-- A tag not outstanding at the Varisk toward a destination, if there is one (R164). -/
def State.tagFree (s : State) (dest : Nat) : Option Nat :=
  let used := (s.txn.pool.filter (fun q => q.dest == dest)).map PoolReq.tag
  let from_ := agetD s.txn.nextTag dest 0
  ((List.range (min 4096 (used.length + 1))).map (fun i => (from_ + i) % 4096)).find? (fun t => !used.contains t)

/-- The Varisk's next tag toward a destination (R164). -/
def State.freeTag (s : State) (dest : Nat) : Nat := (s.tagFree dest).getD (agetD s.txn.nextTag dest 0)

/-- A tag toward a destination is taken: the next one follows it. -/
def tookTag (dest tag : Nat) (s : State) : State := s.onTxn (fun t => { t with nextTag := aset t.nextTag dest ((tag + 1) % 4096) })

/-- Send a packet on a DP or TW port (R151, R502). -/
def sendOnPort (port : Nat) (p : Packet) (s : State) : State := enqueueAt port poolLeaf p s

/-- Move the packets that wait without a pin to the pins that can now be picked (R150). -/
def repin (s : State) : State :=
  forAll s.traffic.leaves (fun e s =>
    if e.1.port = noPin then
      forAll e.2 (fun q s => sendPacket q.pkt s) (s.onTraffic (fun t => { t with leaves := adel t.leaves e.1 }))
    else s) s

/-! ### Link encryption (R564 to R566) -/

/-- The job an EID is bound to. -/
def State.jobOf (s : State) (eid : Nat) : Option (Nat × LinkJob) := s.sec.jobs.find? (fun e => e.2.eids.contains eid)

/-- The key in use of the job an EID is bound to. -/
def State.linkKey (s : State) (eid : Nat) : Option Nat :=
  match s.jobOf eid with
  | some (_, j) => aget j.gens j.current
  | none => none

/-- The key of the generation that a switch left behind, for the 16 ms it lives on (R568). -/
def State.olderKey (s : State) (eid : Nat) : Option Nat :=
  match s.jobOf eid with
  | some (_, j) => j.older.bind (aget j.gens)
  | none => none

/-- The tag generation of an exchange under the key generation in use (R566). -/
def State.tagGenOf (s : State) (eid issuer tag : Nat) : Nat := agetD s.sec.tagGen (eid, issuer, tag) 0
/-- The tag generation of an exchange under the older key generation (R566, R568). -/
def State.tagGenOlder (s : State) (eid issuer tag : Nat) : Nat := agetD s.sec.tagGenOld (eid, issuer, tag) 0

/-- Whether an exchange began before the switch and goes on under the older key generation (R568). -/
def State.oldExchange (s : State) (eid issuer tag : Nat) : Bool := s.sec.oldEx.contains (eid, issuer, tag)

/-- The key and the tag generation of an exchange (R566, R568). -/
def State.exchangeKey (s : State) (eid issuer tag : Nat) : Option (Nat × Nat) :=
  if s.oldExchange eid issuer tag then (s.olderKey eid).map (fun k => (k, s.tagGenOlder eid issuer tag))
  else (s.linkKey eid).map (fun k => (k, s.tagGenOf eid issuer tag))

/-- The one before a tag generation. -/
def genBefore (g : Nat) : Nat := (g + 2 ^ 32 - 1) % 2 ^ 32

/-- An exchange ends: its tag generation becomes the one after `g` (R566). -/
def endExchange (eid issuer tag g : Nat) (s : State) : State :=
  let after := (g + 1) % 2 ^ 32
  s.onSec (fun c =>
    if c.oldEx.contains (eid, issuer, tag) then
      { c with tagGenOld := aset c.tagGenOld (eid, issuer, tag) after, oldEx := c.oldEx.filter (fun x => x != (eid, issuer, tag)) }
    else { c with tagGen := aset c.tagGen (eid, issuer, tag) after })

/-- Advance the tag generation of an exchange at its final response (R566). -/
def advanceGen (eid issuer tag : Nat) (s : State) : State :=
  endExchange eid issuer tag (if s.oldExchange eid issuer tag then s.tagGenOlder eid issuer tag else s.tagGenOf eid issuer tag) s

/-- The initialisation vector of R565. -/
def gcmIv (index op dir issuer tag gen eid : Nat) : Nat :=
  index + op * 2 ^ 16 + dir * 2 ^ 24 + issuer * 2 ^ 25 + tag * 2 ^ 26 + gen * 2 ^ 38 + eid * 2 ^ 70

/-- A packet to a holder of a job key, encrypted under the generation given: one slot more, the tag (R155, R565). -/
def sealWith (key gen issuer : Nat) (p : Packet) : Packet :=
  let p := { p with enc := true }
  let n := p.body.length + 16
  -- the associated data is the head slot as sent, whose LEN counts the tag slot
  let q := { p with body := padTo n p.body }
  let iv := gcmIv (if p.op = 0x53 then p.harg else 0) p.op 1 issuer p.tag gen p.dest
  Packet.close { p with body := padTo n (Config.gcmSeal key iv (q.head false) p.body) }

/-- The packet under its destination's job key (unchanged where the destination holds none). -/
def State.sealTo (s : State) (issuer : Nat) (p : Packet) : Packet :=
  match s.exchangeKey p.dest issuer p.tag with
  | some (k, g) => sealWith k g issuer p
  | none => p

/-! ### Twin: who owns, and the mirror records (R463, R469 to R472) -/

/-- The states R463 counts as standby: their service EID is fenced. -/
def State.standby (s : State) : Bool :=
  match s.twin.st with
  | .enrolling | .syncing | .standby | .adrift | .promoting | .fenced => true
  | .releasing => s.twin.released
  | _ => false

/-- The owner states of R463. -/
def State.owner (s : State) : Bool :=
  match s.twin.st with
  | .alone | .feeding | .active => true
  | .releasing => !s.twin.released
  | _ => false

/-- Whether commits are mirrored: Feeding, Active, and Releasing until the release (R463). -/
def State.mirrors (s : State) : Bool :=
  match s.twin.st with
  | .feeding | .active => true
  | .releasing => !s.twin.released
  | _ => false

/-- The Active TW ports. -/
def State.twPorts (s : State) : List Nat := [36, 37, 38, 39].filter (fun p => portPresent p && (s.port p).st == .active)

/-- The Active TW port that `n` selects, or `noPin` where none is Active. -/
def State.twPortAt (s : State) (n : Nat) : Nat := (s.twPorts[n % s.twPorts.length]?).getD noPin

/-- Send a twin packet to the peer on the Active TW port that `n` selects; with none Active it is not sent. -/
def sendTw (n : Nat) (p : Packet) (s : State) : State :=
  if s.twPorts.isEmpty then s else sendOnPort (s.twPortAt n) p s

/-- Send a mirror packet of a stream under the stream's next MSEQ and remember that it is unacknowledged (R470), with what its line held
before. -/
def mirrorSend (stream : Nat) (line : Option (Nat × List Byte × LineMeta)) (mk : Nat → Packet) (s : State) : State :=
  let n := if stream = 0 then s.twin.mseq0 else s.twin.mseq1
  let m := (n + 1) % 2 ^ 32
  let x : Sent := { stream := stream, mseq := m, line := line.map Prod.fst, sentAt := s.now, port := s.twPortAt m, pkt := mk m, undo := line.map Prod.snd }
  let s := s.onTwin (fun t => { t with
    mseq0 := (if stream = 0 then m else t.mseq0), mseq1 := (if stream = 0 then t.mseq1 else m),
    unacked := t.unacked ++ [x] })
  sendTw m (mk m) s

/-- MR_STATE with one record: its TYPE, its length in slots, and the bytes from byte 2 (R472). -/
def mrState (s : State) (stream type slots : Nat) (body : List Byte) (mseq : Nat) : Packet :=
  mkPacket 1 0xA5 s.twin.peerEid (s.obj .nodeEid) (mseq % 4096) 0 0 false
    (leBytes 16 (mseq + stream * 2 ^ 32 + 1 * 2 ^ 40)
      ++ padTo (16 * slots) (BitVec.ofNat 8 type :: BitVec.ofNat 8 slots :: body))

/-- Mirror a state record where this Varisk mirrors (R469). -/
def mirrorState (stream type slots : Nat) (body : List Byte) (s : State) : State :=
  if s.mirrors then bump .twStates 0 (mirrorSend stream none (mrState s stream type slots body) s) else s

/-- Whether the standby has acknowledged everything sent so far: nothing mirrored is held (R470, R478). -/
def State.mirrorIdle (s : State) : Bool := s.twin.unacked.isEmpty

/-- Mirror a partner slot's state: 0 Free, 1 Active, 2 Detaching, 3 Lost, 4 Quarantine (R203, R469, R472). -/
def slotCode : SlotSt → Nat
  | .active => 1 | .detaching => 2 | .lost => 3 | .quarantine => 4

/-- The SLOT record of a slot in a state, none for Free (R472); the time of an Active slot is that of its ATTACH. -/
def mirrorSlot (slot : Nat) (st : Option SlotSt) (s : State) : State :=
  match aget s.part.slots slot, st with
  | some r, some st => mirrorState 0 3 2 (leBytes 2 slot ++ leBytes 4 r.eid ++ leBytes 1 (slotCode st) ++ leBytes 1 r.kind ++ leBytes 2 r.caps
      ++ leBytes 4 0 ++ leBytes 8 r.nonce ++ leBytes 8 (if st = .active then r.attachedAt else s.now)) s
  | _, _ => mirrorState 0 3 2 (leBytes 2 slot) s

/-! ### The completion ledger (R176, R177) -/

/-- D: the fused DRAM capacity (R272). -/
def dramTop : Nat := Config.stackGiB * 8 * 2 ^ 30
/-- LEDGER_BASE (R272). -/
def ledgerBase : Nat := dramTop - 2 ^ 29
/-- Set the bits of the written map and, while it is kept, of the divergence map (R479, R490). -/
def mapGranule (l : Nat) (s : State) : State :=
  let g := l / 512
  s.onTwin (fun t => { t with
    written := if t.written.contains g then t.written else g :: t.written
    divergence := if t.diverging && !t.divergence.contains g then g :: t.divergence else t.divergence })

/-- The line of the completion ledger that holds an entry: 16 bytes for each slot and tag, in their order (R176, R272). -/
def ledgerLine (slot tag : Nat) : Nat := (ledgerBase + 16 * (slot * 4096 + tag)) / 128

/-- Whether requests of an opcode are ledgered (R177): not the reads, HEARTBEAT or E2E_NAK. -/
def ledgered (op : Nat) : Bool := !(op == 0x10 || op == 0x11 || op == 0x12 || op == 0x60 || op == 0x03 || op == 0x07)

/-- Write the ledger entry of a slot and tag, mirrored with the write it records (R177, R469). -/
def ledgerWrite (slot tag stream : Nat) (e : LedgerEntry) (s : State) : State :=
  mirrorState stream 8 2 (leBytes 2 slot ++ leBytes 2 tag ++ leBytes 10 0
      ++ leBytes 16 (e.fingerprint + e.op * 2 ^ 32 + e.status * 2 ^ 40 + 2 ^ 48 + e.result * 2 ^ 64))
    (mapGranule (ledgerLine slot tag) (s.onTxn (fun t => { t with ledger := aset t.ledger (slot, tag) e })))

/-- Clear every ledger entry of a slot (R177). -/
def ledgerClear (slot : Nat) (s : State) : State :=
  forAll ((s.txn.ledger.filter (fun e => e.1.1 == slot)).map Prod.fst) (fun k s => mapGranule (ledgerLine k.1 k.2) s) <| s.onTxn (fun t => { t with ledger := t.ledger.filter (fun e => e.1.1 ≠ slot) })

/-- Answer a packet from an EID, not encrypted: CMP on VC0 with a status (R156). -/
def sendCmp (dest tag : Nat) (st : Status) (harg : Nat) (s : State) : State :=
  sendPacket (mkPacket 0 0x06 dest (s.obj .serviceEid) tag st.code harg false []) s

/-- The ledger entry's effect of a final answer to a request packet, where its source holds a slot and the answer is not
RETRY (R177). -/
def ledgerFinal (p : Packet) (st : Status) (harg result : Nat) (s : State) : State :=
  match s.slotOfEid p.src with
  | some slot =>
    if ledgered p.op && st != .retry then
      ledgerWrite slot p.tag 0 { fingerprint := p.crc, op := p.op, status := st.code, harg := harg, result := result } s
    else s
  | none => s

end Sys2Proof.Machine
end

