-- ==== Sys2Proof/Machine/OpsKodp.lean ====
section
/-!
DEFINITION. Machine/OpsKodp.lean: KODP messages, roles, notifications, crumbs and recovery timeouts, and the one way a KODP
operation is checked, run and answered (R627 to R630, R643 to R645, R649 to R671, R676 to R679).
-/
namespace Sys2Proof.Machine

/-! ### Messages (R651, R654 to R658) -/

/-- The bytes of a KODP message (R651). -/
def kmsgBytes (m : KMsg) : List Byte :=
  leBytes 1 m.version ++ leBytes 1 m.type ++ leBytes 2 m.reqId ++ leBytes 2 m.index ++ leBytes 1 m.sub ++ leBytes 1 m.status
    ++ leBytes 2 m.bodyLen ++ leBytes 6 m.reserved ++ m.body

/-- The CRC-32C the reply cache keeps of a request: header bytes 4 to 7 and the body (R670). -/
def kmsgCrc (m : KMsg) : Nat := crc32c (((kmsgBytes m).drop 4).take 4 ++ m.body)

/-- A message with a header made for it. -/
def mkMsg (type reqId index sub : Nat) (st : Status) (body : List Byte) : KMsg :=
  { version := 1, type := type, reqId := reqId, index := index, sub := sub, status := st.code, bodyLen := body.length
    reserved := 0, body := body }

/-- The transport's number (R686). -/
def transportNum : Transport → Nat
  | .udp => 1 | .vc7 => 2 | .ksl => 3

/-- The VC7 packets of a message: fragments of 496 bytes in ascending order, the last padded to a slot (R657). -/
def kodpPackets (dest src tag : Nat) : Nat → Nat → List Byte → List Packet
  | 0, _, _ => []
  | fuel + 1, k, bs =>
    let f := bs.take 496
    let rest := bs.drop 496
    let body := padTo ((f.length + 15) / 16 * 16) f
    mkPacket 7 0x70 dest src tag 0 (k + (if rest.isEmpty then 2 ^ 15 else 0)) false body
      :: (if rest.isEmpty then [] else kodpPackets dest src tag fuel (k + 1) rest)

/-- Put a message into the KSL read queue: at 64 the oldest notification is dropped, never a reply (R81). -/
def kslPush (isReply : Bool) (m : KMsg) (s : State) : State :=
  let q := s.kodp.kslTx ++ [(isReply, m)]
  if q.length ≤ 64 then s.onKodp (fun k => { k with kslTx := q })
  else
    let reading : Nat := if s.kodp.kslRead = 0 then 0 else 1
    match ((q.drop reading).findIdx? (fun e => !e.1)).map (· + reading) with
    | some i => bump .kslNotifyDrops 0 (bump .kNotifyDropped 3 (s.onKodp (fun k => { k with kslTx := q.eraseIdx i })))
    | none => s.onKodp (fun k => { k with kslTx := q })

/-- A message to a client in a session, as the SECURED message that carries it: the session's ID, the length and the ciphertext with
its tag (R652, R660; log 66).  Every message to the outside takes the next number of its direction. -/
def secureMsg (c : Client) (m : KMsg) (s : State) : State × KMsg :=
  match c.session.bind (fun k => (aget s.sec.sessions k).map (fun n => (k, n))) with
  | none => (s, m)
  | some (k, n) =>
    let sealed_ := Config.gcmSeal n.key (2 * n.sent + 1) (leBytes 4 k) (kmsgBytes m)
    let body := leBytes 4 k ++ leBytes 2 sealed_.length ++ sealed_
    (s.onSec (fun x => { x with sessions := aset x.sessions k { n with sent := n.sent + 1 } }),
      { version := 1, type := if m.type ≥ 0x80 then 0x8B else 0x0B, reqId := m.reqId, index := 0, sub := 0, status := 0, bodyLen := body.length
        reserved := 0, body := body })

/-- Send a message to a client (R656 to R658, R660).  On VC7 a reply has its request's TAG, any other message the Varisk's next tag toward
the client's EID (R657). -/
def sendMsg (c : Client) (tag : Nat) (isReply : Bool) (m : KMsg) (s : State) : State :=
  let (s, w) := secureMsg c m s
  let own := c.transport == .vc7 && !isReply
  let tag := if own then s.freeTag c.addr else tag
  let s := onlyIf own (tookTag c.addr tag) s
  match c.transport with
  | .udp => emit (.kodp c m) s
  | .ksl => emit (.kodp c m) (kslPush isReply w s)
  | .vc7 =>
    emit (.kodp c m) (forAll (kodpPackets c.addr (s.obj .nodeEid) tag 17 0 (kmsgBytes w))
      (fun p s => if c.addr = s.twin.peerEid then sendTw 0 p s else sendPacket p s) s)

/-! ### Roles (R660 to R663) -/

/-- Whether the boot ROM or boot code answers: the recovery subset, with the Operator role and without sessions (R615). -/
def State.bootServes (s : State) : Bool := s.pkg.phase == .boot || s.pkg.debugHold || s.fw.recovery

/-- The roles a client's message holds, as the bits of MY_ROLES (R615, R661, R662, R682). -/
def State.rolesOf (s : State) (c : Client) : Nat :=
  let base := match c.session with
    | some k =>
      match aget s.sec.sessions k with
      | some n => if n.established && n.client == { c with session := none } then n.roles else 0
      | none => 0
    | none => if c.transport = .ksl ∨ s.bootServes = true then roleOp else 0
  if s.sec.token.isSome && bits base 0 1 == 1 then base ||| roleDebug else base

/-- The tenant of a message in a Tenant session. -/
def State.tenantOf (s : State) (c : Client) : Option Nat :=
  match c.session with
  | some k => (aget s.sec.sessions k).bind Session.tenant
  | none => none

/-- Whether a message is in the Peer session (R663). -/
def State.isPeer (s : State) (c : Client) : Bool := s.rolesOf c &&& rolePeer == rolePeer

/-! ### Notifications (R676 to R679) -/

/-- The roles a notification code goes to (R679): Operator alone, or Operator and Pool-manager; Debug as Operator. -/
def codeRoles (code : Nat) : Nat :=
  if code = 1 then 31 else if code = 2 then 0
  else if [0x1103, 0x1104, 0x1203, 0x1704, 0x1705, 0x1706, 0x1E03, 0x2102].contains code then roleOp ||| roleDebug
  else roleOp ||| rolePm ||| roleDebug

/-- Whether a message holding some roles may receive a code: every role it holds may (R677); Tenant none; Any only NOTIFY_LOST. -/
def mayReceive (roles code : Nat) : Bool :=
  if roles = 0 then code == 1
  else decide (roles &&& roleTenant = 0) && (code == 1 || (codeRoles code != 31 && (roles &&& codeRoles code) == roles))

/-- The bytes of a notification record (R676). -/
def recBytes (r : NotifyRec) : List Byte :=
  leBytes 8 r.seq ++ leBytes 8 r.time ++ leBytes 2 r.code ++ [if r.unlocked then 1 else 0] ++ leBytes 1 r.payload.length ++ r.payload

/-- Send a NOTIFY message of some records (R651, R678). -/
def sendNotify (c : Client) (recs : List NotifyRec) (s : State) : State :=
  let n := agetD s.kodp.notifySent c 0 + 1
  sendMsg c 0 false (mkMsg 0x09 (n % 65536) 0 0 .ok (recs.flatMap recBytes))
    (bumpBy .kNotifySent (transportNum c.transport) recs.length (s.onKodp (fun k => { k with notifySent := aset k.notifySent c n })))

/-- Put a record into a subscription's queue of 256; the oldest is dropped when it is full (R678). -/
def subPush (now : Nat) (r : NotifyRec) (b : Sub) : Sub :=
  if b.queue.length < 256 then { b with queue := b.queue ++ [r] }
  else { b with queue := b.queue.drop 1 ++ [r], lost := b.lost + 1, lostSeq := (b.queue.head?.map NotifyRec.seq).getD b.lostSeq, lostAt := now }

/-- Whether a subscription takes a code: subscribed, and every role of the subscription may receive it (R677). -/
def Sub.takes (b : Sub) (code : Nat) : Bool := if b.all then mayReceive b.roles code else b.codes.contains code

/-- Enter a record in NOTIFY_LOG (4,096 records) and in the queues of the clients subscribed to its code; a COMMAND_DONE
goes to the client that invoked, subscribed or not (R669, R678). -/
def deliver (r : NotifyRec) (only : Option Client) (s : State) : State :=
  let s := s.onKodp (fun k => { k with log := (k.log ++ [(r, only)]).drop (k.log.length + 1 - 4096) })
  match only with
  | some c => sendNotify c [r] s
  | none => s.onKodp (fun k => { k with subs := k.subs.map (fun b => if b.takes r.code then subPush s.now r b else b) })

/-- Send what the queues hold, up to 16 records a message, a NOTIFY_LOST record first after a drop (R676, R678). -/
def drainSubs (s : State) : State :=
  let clear := s.onKodp (fun k => { k with subs := k.subs.map (fun b => { b with queue := [], lost := 0 }) })
  forAll s.kodp.subs (fun b s =>
    let lostRec : List NotifyRec := if b.lost = 0 then [] else
      [{ seq := b.lostSeq, time := b.lostAt, code := 1, unlocked := false, payload := leBytes 4 b.lost }]
    let recs := lostRec ++ b.queue
    forAll (List.range ((recs.length + 15) / 16)) (fun i s => sendNotify b.client ((recs.drop (16 * i)).take 16) s)
      (bumpBy .kNotifyDropped (transportNum b.client.transport) b.lost s)) clear

/-- Raise a notification (R676): it takes the next SEQ; during a management reheat of Die 0 it waits in the fabric-island
buffer of 1,024 entries (R643). -/
def notifyTo (only : Option Client) (code : Nat) (payload : List Byte) (s : State) : State :=
  let r : NotifyRec := { seq := s.kodp.nextSeq, time := s.now, code := code, unlocked := !s.obs.time0.isLocked, payload := payload.take 64 }
  let s := s.onKodp (fun k => { k with nextSeq := k.nextSeq + 1 })
  if s.obs.reheat.contains 0 then
    if s.obs.waiting.length < 1024 then s.onObs (fun o => { o with waiting := o.waiting ++ [r] })
    else bump .notifyDrops 0 s
  else drainSubs (deliver r only s)

/-- Raise a notification to its subscribers. -/
def notify (code : Nat) (payload : List Byte) (s : State) : State := notifyTo none code payload s

/-- Raise a notification at most once per `period` ns for a unit; those above the rate are counted as suppressed. -/
def notifyLimited (code unit period : Nat) (payload : Nat → List Byte) (s : State) : State :=
  let sup := agetD s.kodp.rateSup (code, unit) 0
  let due := match aget s.kodp.rateAt (code, unit) with
    | some t => decide (t + period ≤ s.now)
    | none => true
  if due then
    notify code (payload sup) (s.onKodp (fun k => { k with rateAt := aset k.rateAt (code, unit) s.now
                                                           rateSup := aset k.rateSup (code, unit) 0 }))
  else s.onKodp (fun k => { k with rateSup := aset k.rateSup (code, unit) (sup + 1) })

/-! ### Crumbs and recovery timeouts (R623, R627 to R630, R645) -/

/-- The unit record of a core, cluster or channel; a spare core is one of the two after the enabled ones (R592). -/
def unitDefault (k : UnitKind) (u : Nat) : UnitRec :=
  { st := if k = .core ∧ u % 18 ≥ Config.enabledPerCluster then .spare else .enabled
    epoch := 0, resets := [], recal := false, was := .enabled, retiredRole := false, mismatches := [] }

/-- A unit's record. -/
def State.unit (s : State) (k : UnitKind) (u : Nat) : UnitRec := (aget s.boot.units (k, u)).getD (unitDefault k u)

/-- Change a unit's record. -/
def setUnit (k : UnitKind) (u : Nat) (f : UnitRec → UnitRec) (s : State) : State :=
  s.onBoot (fun b => { b with units := aset b.units (k, u) (f ((aget b.units (k, u)).getD (unitDefault k u))) })

/-- The unit epoch a crumb of a kind carries: 0 for kinds without one (R628). -/
def State.crumbEpoch (s : State) (kind u : Nat) : Nat :=
  if kind = 1 then (s.unit .core u).epoch else if kind = 2 then (s.unit .cluster u).epoch
  else if kind = 3 then (s.unit .channel u).epoch else 0

/-- The die whose time a unit of a crumb kind is stamped with (R623, R627). -/
def dieOfUnit (kind u : Nat) : Nat :=
  if kind = 1 then dieOfCluster (clusterOf u) else if kind = 2 then dieOfCluster u else if kind = 3 then u / 128
  else if kind = 4 then dieOfPort u else if kind = 5 then u / 32 else if kind = 9 then 0 else u % 2

/-- Write a crumb in a unit's ring of 256; a frozen ring counts it as missed (R628, R630). -/
def crumb (kind u event arg : Nat) (s : State) : State :=
  s.onObs (fun o =>
    { o with rings := amod o.rings (kind, u) Ring.reset (fun r =>
        if r.frozen.isSome then { r with missed := r.missed + 1 } else
          let t := s.timeOf (dieOfUnit kind u)
          let isl := if dieOfUnit kind u = 0 then o.time0 else o.time1
          { r with crumbs := ({ time := t / 256, fraction := t % 256, resumed := r.resumed, unlocked := !isl.isLocked
                                event := event, epoch := s.crumbEpoch kind u, seq := r.seq % 65536, arg := arg } :: r.crumbs).take 256
                   seq := r.seq + 1, resumed := false }) })

/-- Freeze a unit's ring, and its cluster's where the unit is a core (R630). -/
def freezeRings (kind u : Nat) (s : State) : State :=
  let freeze (r : Ring) : Ring := if r.frozen.isSome then r else { r with frozen := some s.now }
  let one (k v : Nat) (s : State) : State := s.onObs (fun o => { o with rings := amod o.rings (k, v) Ring.reset freeze })
  one kind u (onlyIf (kind == 1) (one 2 (clusterOf u)) s)

/-- A timeout of a row of R644 expires in a unit: its crumb, the frozen rings, the count, and the rate-limited notification
(R645). -/
def timeoutFired (row kind u arg : Nat) (s : State) : State :=
  let s := freezeRings kind u (crumb kind u 6 (row + arg * 2 ^ 64) s)
  let s := bump .timeoutExpiries (row * 2 ^ 20 + kind * 2 ^ 16 + u) s
  let s := s.onObs (fun o => { o with expiredAt := aset o.expiredAt (row, kind, u) s.now })
  notifyLimited 0x2102 (row * 2 ^ 20 + kind * 2 ^ 16 + u) 10000000
    (fun sup => leBytes 1 row ++ leBytes 1 kind ++ leBytes 2 u ++ leBytes 4 sup) s

/-- A kind of the larder is exhausted in a unit (R593): the first time raises LARDER_EXHAUSTED.  Kinds: 1 core, 2 lane, 3 laser
input, 4 DRAM row, 5 bank, 6 directory way, 7 sled. -/
def exhaust (kind unit : Nat) (s : State) : State :=
  if s.boot.exhausted.contains (kind, unit) then s
  else notify 0x1F06 (leBytes 1 kind ++ leBytes 4 unit) (s.onBoot (fun b => { b with exhausted := b.exhausted ++ [(kind, unit)] }))

/-! ### Debug streams and dump ends (R631, R637) -/

/-- A DEBUG_STREAM packet (R631): stream, kind, sequence number, status, offset, poison mask and the lines carried.  It waits for the
cap of R632 at its leaf. -/
def sendDebug (sink stream kind seq status offset mask : Nat) (lines : List (List Byte)) (s : State) : State :=
  let slot1 := stream % 65536 + kind * 2 ^ 16 + lines.length * 2 ^ 24 + mask * 2 ^ 26 + status * 2 ^ 32 + offset * 2 ^ 64
  sendPacket (mkPacket 7 0x71 sink (s.obj .nodeEid) 0 0 (seq % 65536) (mask != 0) (leBytes 16 slot1 ++ (lines.map (padTo 128)).flatten)) s

/-- A dump ends with a status (R637): a KIND 2 packet, unless the sink has gone, and DUMP_DONE. -/
def endDump (d : Dump) (st : Status) (gone : Bool) (s : State) : State :=
  let s := s.onObs (fun o => { o with dumps := o.dumps.map (fun x => if x.number = d.number then { x with st := .ended, status := some st } else x) })
  let s := onlyIf (!gone) (sendDebug d.sink d.number 2 d.seq st.code d.sent 0 []) s
  notify 0x2104 (leBytes 2 d.number ++ leBytes 1 st.code ++ leBytes 8 d.sent) s

/-- Every dump not ended that meets a condition ends ABORTED (R637). -/
def abortDumps (c : Dump → Bool) (gone : Bool) (s : State) : State :=
  forAll (s.obs.dumps.filter (fun d => d.st != .ended && c d)) (fun d s => endDump d .aborted gone s) s

/-! ### Operations (R664, R666 to R671) -/

/-- What the dictionary says of the object an operation names: index, subindex, message TYPE of the request (R652), roles as
bits, and whether any message may use it. -/
structure OpObj where
  index : Nat
  sub   : Nat
  type  : Nat
  roles : Nat
  any   : Bool
deriving DecidableEq, Repr

/-- A CMD object: invoked with INVOKE. -/
def cmdObj (index sub roles : Nat) : OpObj := { index := index, sub := sub, type := 3, roles := roles, any := false }

/-- Whether the operation is one that the standby holds a copy of: a write or a state-changing command of the ranges R476 names;
neither a read nor DIRECTORY_LOOKUP (R476, R684). -/
def OpObj.mirrored (o : OpObj) : Bool :=
  [0x14, 0x15, 0x18, 0x19, 0x1A, 0x1C].contains (o.index / 256) && o.type != 1 && o.type != 4 && o.index != 0x1520

/-- What an object's own rules say of an operation, each condition with the code the spec gives it (R664). -/
structure Verdict where
  /-- UNSUPPORTED: a value outside its range, an absent unit, a reserved encoding. -/
  bad    : Bool
  /-- FENCED: a standby refusal of the object's own rule. -/
  fenced : Bool
  /-- REFUSED_STATE. -/
  state  : Bool
  /-- Any further refusal, by the order of R26. -/
  other  : Option Status
  /-- The body of a refusal by `bad` or `other`, where the object gives one (R652). -/
  body   : List Byte := []
deriving DecidableEq, Repr

/-- No objection. -/
def Verdict.ok : Verdict := { bad := false, fenced := false, state := false, other := none }

/-- Whether management answers at all: the package is powered, released and not stopped, and Baker has booted. -/
def State.bakerUp (s : State) : Bool := !s.pkg.poresetLow && s.pkg.stopped.isNone && s.pkg.phase != .strap

/-- Ready (R579 step 6), or the step after which KODP answers everything. -/
def State.ready (s : State) : Bool := s.boot.step == 6 && s.pkg.phase != .boot

/-- The objects that answer before Ready and in recovery (R615, R684). -/
def OpObj.recovery (o : OpObj) : Bool :=
  (o.index == 0x2020 && decide (1 ≤ o.sub ∧ o.sub ≤ 5)) || (o.index == 0x1E20 && (o.sub == 3 || o.sub == 4))
    || (o.type == 1 && [(0x2000, 1), (0x2000, 7), (0x1100, 1), (0x1100, 2), (0x1E00, 2)].contains (o.index, o.sub)) || (o.type == 4 && o.index == 0x2010)

/-- Take a request out of Baker's queue. -/
def unqueue (r : Req) (s : State) : State :=
  s.onKodp (fun k => { k with queue := k.queue.filter (fun e => !(e.1.client == r.client && e.1.id == r.id)) })

/-- Send a reply: it enters the reply cache of 64 replies with its request's CRC-32C and, on VC7, is the request's final
response, which the ledger records (R657, R669, R670). -/
def sendReply (r : Req) (crc : Nat) (m : KMsg) (s : State) : State :=
  let s := match r.client.transport, s.slotOfEid r.client.addr, aget s.kodp.vc7Tags (r.client.addr, r.tag) with
    | .vc7, some slot, some (fp, _) =>
      onlyIf (m.status != Status.retry.code) (ledgerWrite slot r.tag 0 { fingerprint := fp, op := 0x70, status := m.status, harg := 2 ^ 15, result := 0 }) s
    | _, _, _ => s
  let s := unqueue r (s.onKodp (fun k => { k with cache := amod k.cache r.client [] (fun (l : List CacheEntry) => (l ++ [{ reqId := r.id, crc := crc, reply := m : CacheEntry }]).drop (l.length + 1 - 64)) }))
  sendMsg r.client r.tag true m (bump .kReplies (transportNum r.client.transport) s)

/-- Refuse an operation before it starts. -/
def refuse (o : OpObj) (r : Req) (crc : Nat) (st : Status) (body : List Byte) (s : State) : State :=
  sendReply r crc (mkMsg (o.type + 0x80) r.id o.index o.sub st body) s

/-- Whether a reply of a mirrored range waits for the standby's answer (R671). -/
def State.mirrorsOps (s : State) : Bool := s.twin.st == .active || s.twin.st == .feeding

/-- Whether an operation is the copy that the owner sends to this standby (R476, R671). -/
def State.copyHere (s : State) (r : Req) : Bool := s.standby && s.isPeer r.client

/-- The client the twin peer is on VC7 (R671). -/
def State.peerClient (s : State) : Client := { transport := .vc7, addr := s.twin.peerEid, port := 0, session := none }

/-- Send a mirrored write or command to the standby over KODP in the Peer session, under the next REQ_ID used toward it (R476, R671). -/
def mirrorOp (o : OpObj) (arg : List Byte) (s : State) : State :=
  sendMsg s.peerClient 0 false (mkMsg o.type s.kodp.peerNext o.index o.sub .ok arg)
    (s.onKodp (fun k => { k with peerNext := (k.peerNext + 1) % 65536 }))

/-- Answer a running operation that has ended.  One already answered TIMEOUT sends COMMAND_DONE with its outcome instead
(R669); a change that an owner with a standby copies is sent there, and the reply waits for the standby's answer (R560, R671). -/
def reply (o : OpObj) (r : Req) (st : Status) (body : List Byte) (s : State) : State :=
  let mine (x : Running) : Bool := x.req == r && x.index == o.index && x.sub == o.sub
  match s.kodp.running.find? mine with
  | none => s
  | some x =>
    let s := s.onKodp (fun k => { k with running := k.running.filter (fun x => !mine x) })
    let m := mkMsg (o.type + 0x80) r.id o.index o.sub st body
    let n := s.kodp.peerNext
    let copied := st == .ok && s.mirrorsOps && x.peerArg.isSome
    let s := onlyIf copied (mirrorOp o (x.peerArg.getD [])) s
    if x.timedOut then
      notifyTo (some r.client) 2 (leBytes 2 r.id ++ leBytes 2 o.index ++ leBytes 1 o.sub ++ leBytes 1 st.code ++ body.take 58) s
    else if copied then s.onKodp (fun k => { k with peerWait := k.peerWait ++ [(n, r, x.crc, m)] })
    else sendReply r x.crc m s

/-- A message of a client has come: it is counted and keeps the client's lease (R677, R682); one that waited in the queue was counted
when it came. -/
def heard (r : Req) (s : State) : State :=
  if s.kodp.queue.any (fun e => e.1 == r) then s
  else bump .kReceived (transportNum r.client.transport) (s.onKodp (fun k => { k with heardAt := aset k.heardAt r.client s.now }))

/-- Run a KODP operation (R664 to R671).  `arg` is its argument's bytes, of which the first `firstLen` are its first argument
field.  In order: a request that finds no management gets nothing; in a management reheat RETRY; a duplicate its cached
reply, ABORTED where its bytes differ, nothing while the first runs; then the checks in the order R664 gives; an INVOKE
beyond the 16 that may run waits in the queue.  `run` has the effect and replies. -/
def operate (o : OpObj) (r : Req) (arg : List Byte) (firstLen : Nat) (v : Verdict) (run : State → State) (s : State) : State :=
  let first := if firstLen = 0 then none else some (leNat (arg.take firstLen))
  let tr := transportNum r.client.transport
  let roles := s.rolesOf r.client
  let peerOk := s.isPeer r.client && (o.mirrored || o.index == 0x1E30)
  let req := mkMsg o.type r.id o.index o.sub .ok arg
  let crc := kmsgCrc req
  let status (st : Status) : KMsg := mkMsg (o.type + 0x80) r.id o.index o.sub st []
  if !s.bakerUp then s
  else
  let s := heard r s
  if s.obs.reheat.contains 0 then bump .kRetries tr (sendMsg r.client r.tag true (status .retry) (unqueue r s))
  else
    match (agetD s.kodp.cache r.client []).find? (fun e => e.reqId == r.id) with
    | some e => bump .kDuplicates tr (sendMsg r.client r.tag true (if e.crc = crc then e.reply else status .aborted) (unqueue r s))
    | none =>
      if s.kodp.running.any (fun x => x.req.client == r.client && x.req.id == r.id) then bump .kDuplicates tr (unqueue r s)
      else if !s.ready && !o.recovery then refuse o r crc .unsupported [] s
      else if v.bad then refuse o r crc .unsupported v.body s
      else if !(o.any || (o.roles &&& roles) != 0 || peerOk) then bump .kRights tr (refuse o r crc .rightsFault [] s)
      else if v.fenced || (o.mirrored && s.standby && !s.isPeer r.client) then refuse o r crc .fenced [] s
      else if v.state || (o.type == 3 && first.isSome && s.kodp.running.any (fun x => x.index == o.index && x.sub == o.sub && x.firstArg == first)) then
        refuse o r crc .refusedState [] s
      else
        match v.other with
        | some st => onlyIf (st == .retry) (bump .kRetries tr) (refuse o r crc st v.body s)
        | none =>
          if o.type == 3 && decide (s.kodp.running.length ≥ 16) then
            if s.kodp.queue.any (fun e => e.1 == r) then s
            else if s.kodp.queue.length ≥ 256 then bump .kRetries tr (refuse o r crc .retry [] s)
            else s.onKodp (fun k => { k with queue := k.queue ++ [(r, req)] })
          else
            let s := unqueue r (s.onKodp (fun k => { k with running := k.running ++ [{ req := r, index := o.index, sub := o.sub, firstArg := first, timedOut := false, crc := crc, peerArg := if o.mirrored then some arg else none }] }))
            run s

/-- A running operation whose change is copied to the standby with an argument of its own (R560). -/
def copyToPeer (o : OpObj) (r : Req) (arg : List Byte) (s : State) : State :=
  s.onKodp (fun k => { k with running := k.running.map (fun x => if x.req = r ∧ x.index = o.index ∧ x.sub = o.sub then { x with peerArg := some arg } else x) })

/-- The replies that waited for the standby's answer are sent: the owner has left Active and Feeding (R671). -/
def releasePeerWaits (s : State) : State :=
  forAll s.kodp.peerWait (fun w s => sendReply w.2.1 w.2.2.1 w.2.2.2 s) (s.onKodp (fun k => { k with peerWait := [] }))

/-- Run an operation whose effect is done before its reply, and which then answers OK with no fields. -/
def operateOk (o : OpObj) (r : Req) (arg : List Byte) (firstLen : Nat) (v : Verdict) (eff : State → State) (s : State) : State :=
  operate o r arg firstLen v (fun s => reply o r .ok [] (eff s)) s

/-- The sizes in bytes of the fields of a writable table's rows (R649); the contexts of a grant fill OCTETS(128). -/
def tableWidths : TableId → List Nat
  | .operatorKeys | .poolManagerKeys => [1, 96, 16]
  | .portConfig => [1, 1, 1, 1]
  | .eidRoutes => [1, 4, 4]
  | .partnerGrants => [4, 1, 1] ++ List.replicate 64 2
  | .trafficProfiles => [1] ++ List.replicate 24 4
  | .trafficAssign => [4, 1, 2]
  | .partitions => [1, 2, 32]

/-- A row's bytes, as TABLE_READ and TABLE_PUT carry it (R649, R674). -/
def rowBytes (t : TableId) (r : Row) : List Byte := ((tableWidths t).zipIdx.map (fun w => leBytes w.1 (r.fields.getD w.2 0))).flatten

/-- An entry of the settings record (R673). -/
def settingsEntry (index sub : Nat) (v : List Byte) : List Byte := leBytes 2 index ++ leBytes 1 sub ++ [0] ++ leBytes 2 v.length ++ v

/-- The entries of a copy of the settings record: in ascending order of index and subindex (R673). -/
def Settings.entries (c : Settings) : List Byte :=
  let objs (p : Nat → Bool) := allObjs.flatMap (fun o => match aget c.values o with
    | some v => if o.info.stored && p o.info.index then settingsEntry o.info.index o.info.sub (leBytes o.info.size v) else []
    | none => [])
  let tabs := [TableId.operatorKeys, TableId.poolManagerKeys].flatMap (fun t => match aget c.tables t with
    | some rows => settingsEntry t.info.index 0 (rows.flatMap (rowBytes t))
    | none => [])
  objs (fun i => i < 0x0020) ++ tabs ++ objs (fun i => i > 0x0021)

/-- A copy of the settings record as the boot store holds it, from byte 0x380_1000 of a bank on (R673): MAGIC, FORMAT, SEQUENCE, LENGTH, CRC
and the entries. -/
def Settings.bytes (c : Settings) : List Byte :=
  let e := c.entries
  leBytes 4 0x53544B56 ++ leBytes 2 1 ++ leBytes 2 0 ++ leBytes 8 c.sequence ++ leBytes 4 e.length ++ leBytes 4 (crc32c e) ++ leBytes 8 0 ++ e

/-- Whether the bytes of a settings record pass its check (R673). -/
def settingsCheck (b : List Byte) : Bool :=
  let f (i n : Nat) := leNat ((b.drop i).take n)
  let e := (b.drop 32).take (f 16 4)
  f 0 4 == 0x53544B56 && f 4 2 == 1 && f 6 2 == 0 && f 24 8 == 0 && decide (f 16 4 ≤ 61408) && e.length == f 16 4 && f 20 4 == crc32c e

/-- A copy of which one byte reads otherwise (log 82). -/
def Settings.spoilt (place value : Nat) (c : Settings) : Settings :=
  let b := c.bytes.set place (BitVec.ofNat 8 value)
  { c with good := c.good && settingsCheck b, sequence := leNat ((b.drop 8).take 8) }

/-- The object of a value that is written. -/
def writeObj (o : Obj) : OpObj := { index := o.info.index, sub := o.info.sub, type := 2, roles := o.info.roles, any := false }

/-- Rewrite both copies of the settings record with every stored value and table as it stands (R672, R673). -/
def saveSettings (s : State) : State :=
  let n := max s.kodp.settingsA.sequence s.kodp.settingsB.sequence + 1
  let c : Settings := { sequence := n, good := true, values := s.kodp.objs.filter (fun e => e.1.info.stored), tables := s.kodp.tables.filter (fun e => e.1.info.stored) }
  s.onKodp (fun k => { k with settingsA := c, settingsB := c })

/-- The object of a table whose rows are put. -/
def putObj (t : TableId) : OpObj := { index := t.info.index, sub := 0, type := 5, roles := t.info.roles, any := false }

/-- A table's TABLE_GEN rises by one for each event that made rows appear or disappear (R674). -/
def tableRaised (index n : Nat) (s : State) : State :=
  s.onKodp (fun k => { k with tableGen := amod k.tableGen index 0 (fun g => (g + n) % 2 ^ 32) })

/-- A table's TABLE_GEN rises when rows appear or disappear (R674). -/
def tableChanged (index : Nat) (s : State) : State := tableRaised index 1 s

end Sys2Proof.Machine
end

