-- ==== Sys2Proof/Machine/OpsPower.lean ====
section
/-!
DEFINITION. Machine/OpsPower.lean: the shared operations of power: load steps, sugar, and the power states of units
(R61, R521 to R537).
-/
namespace Sys2Proof.Machine

/-! ### Load steps on TP4 (R61, R62) -/

/-- The oldest held step is announced on TP4, where no step is in progress, TP5 is not stuck high and WARMRESET_N is not asserted
(R61, R62). -/
def nextStep (s : State) : State :=
  if s.pkg.tp4 || s.pkg.ackStuck || s.pkg.step.isSome || s.pkg.warmQual then s
  else match s.pkg.stepHeld with
    | [] => s
    | x :: rest => bump .pwAnnounced x.die (s.onPkg (fun p => { p with tp4 := true, step := some x, stepHeld := rest }))

/-- A change of the core current of `ma` mA is to be announced; a second step is held until TP4 is free (R61, R62), a wake's (kind 2) ahead of
the others (R539). -/
def announceStep (kind key die ma : Nat) (rising : Bool) (s : State) : State :=
  let x : LoadStep := { kind := kind, key := key, die := die, milliAmps := ma, rising := rising, started := false }
  nextStep (s.onPkg (fun p => { p with
    stepHeld := if kind = 2 then p.stepHeld.filter (fun y => y.kind == 2) ++ x :: p.stepHeld.filter (fun y => y.kind != 2) else p.stepHeld ++ [x] }))

/-- The unannounced changes of the last 10 µs, in mA (R527). -/
def State.quietMa (s : State) : Nat := ((s.power.quietSteps.filter (fun x => decide (s.now < x.1 + 10000))).map Prod.snd).sum

/-- The core current changes by `ma` mA with no handshake (R527, R529): it shares the allowance of its µs and of its 10 µs. -/
def drawQuiet (ma : Nat) (s : State) : State :=
  s.onPower (fun p => { p with napUsed := p.napUsed + ma, quietSteps := p.quietSteps.filter (fun x => decide (s.now < x.1 + 10000)) ++ [(s.now, ma)] })

/-- A change of `ma` mA that must be announced, since it would take the unannounced ones of 10 µs above 60 A, or need not (R527). -/
def State.mustAnnounce (s : State) (ma : Nat) : Bool := ma != 0 && decide (s.quietMa + ma > 60000)

/-- The announced step is over: TP4 falls, and a step that waited is announced (R61, R62). -/
def stepOver (s : State) : State := nextStep (s.onPkg (fun p => { p with tp4 := false, step := none }))

/-- The step of a grant is complete, or its grant is gone: TP4 falls where it is the one announced, and one still held is dropped
(R61). -/
def endStep (kind key : Nat) (s : State) : State :=
  let s := s.onPkg (fun p => { p with stepHeld := p.stepHeld.filter (fun x => !(x.kind == kind && x.key == key)) })
  match s.pkg.step with
  | some x => if x.kind = kind ∧ x.key = key then stepOver s else s
  | none => s

/-- The number of a kind of sugar request (0x1D11; log 70). -/
def SugarKind.num : SugarKind → Nat
  | .compute => 0 | .streaming => 1 | .wake => 2 | .boost => 3 | .renewal => 4

/-- The highest thermal level of any sensor (R89, R91). -/
def State.thermalLevel (s : State) : Nat := (s.pkg.sensors.map (fun e => e.2.level)).foldl max 0

/-! ### Budget (R521, R523, R525) -/

/-- SUSTAINED_LIMIT in mW. -/
def State.sustainedMw (s : State) : Nat := s.obj .sustainedLimit * 1000

/-- The 1 ms average power in mW (R521). -/
def State.avgMw (s : State) : Nat := s.power.samples.sum / (max 1 s.power.samples.length)

/-- The ballast held, in mA (R528). -/
def State.heldMa (s : State) : Nat := (s.power.ballast.map Prod.snd).sum

/-- Ballast less `n` mA, the oldest first (R528; log 165). -/
def takeBallast : Nat → List (Nat × Nat) → List (Nat × Nat)
  | _, [] => []
  | n, (t, m) :: rest => if m ≤ n then takeBallast (n - m) rest else (t, m - n) :: rest

/-- Ballast in mW at 0.78 V: it counts as committed until it has ramped down (R528). -/
def State.ballastMw (s : State) : Nat := (s.heldMa + s.power.ballastDown) * 78 / 100

/-- The committed power C (R523), leaving out the grant of a recipe that is being renewed (log 20). -/
def State.committedMw (s : State) (except : Option Nat) : Nat :=
  s.power.baseMw + s.ballastMw
    + ((s.power.grants.filter (fun g => !(some g.key == except && (g.kind == .compute || g.kind == .streaming || g.kind == .renewal)))).map Sugar.granted).sum

/-- The limit L of R525; the comparators of R89 act before the governor's tick does (R523). -/
def State.limitMw (s : State) : Nat :=
  let l := if s.power.reserveNj > 0 then 1500000 else s.sustainedMw
  if s.power.throttle = 2 ∨ s.thermalLevel = 1 then min l (s.sustainedMw - 200000) else l

/-- Core share of a kind, in percent (R524): Compute 80, Streaming 30, Wake and Boost 100; a renewal keeps its own. -/
def coreShare : SugarKind → Nat
  | .compute | .renewal => 80 | .streaming => 30 | .wake | .boost => 100

/-- Put a grant in force: what its predecessor draws goes on, the ballast held is taken over next, and a remainder ramps, announced where it
takes the changes of 10 µs above 60 A; what a smaller renewal lets go becomes ballast (R526 to R528). -/
def grantSugar (g : Sugar) (granted : Nat) (s : State) : State :=
  let ma := granted * coreShare g.kind / 78
  let ma := if g.requested = 0 then ma else if g.kind = .renewal then g.coreMa * granted / g.requested else ma
  let same (h : Sugar) : Bool := h.key == g.key && (h.kind == g.kind || (g.kind == .renewal && (h.kind == .compute || h.kind == .streaming)))
  let prev := (s.power.grants.filter same).map Sugar.reached |>.sum
  let s := forAll (s.power.grants.filter same) (fun h s => endStep h.kind.num h.key s) s
  let flows := min prev ma
  let cover := min s.heldMa (ma - flows)
  let rest := ma - flows - cover
  let g' := { g with granted := granted, coreMa := ma, reached := flows + cover, start := s.now, stop := s.now + g.duration }
  let s := s.onPower (fun p => { p with
    grants := p.grants.filter (fun h => !same h) ++ [g']
    ballast := takeBallast cover p.ballast ++ (if prev = flows then [] else [(s.now, prev - flows)])
    queue := p.queue.filter (fun h => !(h.kind == g.kind && h.key == g.key)) })
  let s := bump .pwGrants g.die s
  let s := onlyIf (decide (granted < g.requested)) (bump .pwPartial g.die) s
  let s := onlyIf (g.kind == .renewal) (bump .pwRenewals g.die) s
  let s := onlyIf (cover != 0) (bump .pwBallast g.die) s
  if s.mustAnnounce rest then announceStep g.kind.num g.key g.die rest true s else onlyIf (rest != 0) (drawQuiet rest) s

/-- Put a request in the queue. -/
def queueSugar (g : Sugar) (s : State) : State :=
  if s.power.queue.any (fun h => h.kind == g.kind && h.key == g.key) then s
  else bump .pwQueued g.die (s.onPower (fun p => { p with queue := p.queue ++ [g] }))

/-- What an admission unit can grant a request now, if anything (R525). -/
def State.admittable (s : State) (g : Sugar) : Option Nat :=
  if (s.power.throttle = 3 ∨ s.thermalLevel ≥ 2) ∧ g.kind ≠ .wake then none
  else if g.kind = .boost ∧ (s.power.throttle ≠ 0 ∨ s.thermalLevel ≠ 0) then none else
    let c := s.committedMw (if g.kind = .renewal then some g.key else none)
    let sus := s.sustainedMw
    let l := s.limitMw
    let l := if g.kind ≠ .wake ∧ l > sus ∧ (c + g.requested - sus) * g.duration > s.power.reserveNj * 1000 then sus else l
    let room := l - c
    if room ≥ g.requested then some g.requested
    else if g.unitMw ≠ 0 ∧ room ≥ g.unitMw then some (room / g.unitMw * g.unitMw)
    else none

/-- Handle a request (R525): grant it, or queue it. -/
def admitGrant (g : Sugar) (s : State) : State :=
  match s.admittable g with
  | some n => grantSugar g n s
  | none => queueSugar g s

/-- A request made now. -/
def mkSugar (s : State) (kind : SugarKind) (key die requested duration unitMw : Nat) (rt : Bool) : Sugar :=
  { kind := kind, key := key, die := die, requested := requested, granted := 0, duration := duration, unitMw := unitMw
    coreMa := 0, reached := 0, rt := rt, askedAt := s.now, start := 0, stop := 0 }

/-- The order in which the queue is served (R525). -/
def Sugar.rank (g : Sugar) : Nat := if g.kind = .wake then 0 else if g.kind = .renewal then 1 else if g.rt then 2 else 3

/-- Whether a request is served before another: by rank, then by request time, then the die that was not served last (R35, R525). -/
def servedBefore (last : Nat) (h g : Sugar) : Bool :=
  decide (h.rank < g.rank) || (h.rank == g.rank && (decide (h.askedAt < g.askedAt) || (h.askedAt == g.askedAt && (h.die == g.die || h.die != last))))

/-- Insert a request after those that are served before it. -/
def rankInsert (last : Nat) (g : Sugar) : List Sugar → List Sugar
  | [] => [g]
  | h :: t => if servedBefore last h g then h :: rankInsert last g t else g :: h :: t

/-- The queue in the order it is served. -/
def serveOrder (last : Nat) (q : List Sugar) : List Sugar := q.foldl (fun acc g => rankInsert last g acc) []

/-- A queued request of one die is granted: where one of the other die asked with it, that die is first next (R35). -/
def turnDie (g : Sugar) (s : State) : State :=
  onlyIf (s.power.queue.any (fun h => h.die != g.die && h.rank == g.rank && h.askedAt == g.askedAt)) (fun s => s.onPower (fun p => { p with dieTurn := g.die })) s

/-- Try each queued request in turn (R525). -/
def serveQueue (s : State) : State :=
  forAll (serveOrder s.power.dieTurn s.power.queue) (fun g s =>
    match s.admittable g with
    | some n => grantSugar g n (bumpBy .pwQueueNs g.die (s.now - g.askedAt) (turnDie g s))
    | none => s) s

/-- A grant ends: its core current becomes ballast, except a wake's, whose cluster has stopped (R526, R528; log 21). -/
def endGrant (kind : SugarKind) (key : Nat) (s : State) : State :=
  match s.power.grants.find? (fun g => g.kind == kind && g.key == key) with
  | none => s
  | some g => endStep kind.num key (s.onPower (fun p => { p with grants := p.grants.filter (fun h => !(h.kind == kind && h.key == key))
                                                                 ballast := if kind = .wake ∨ g.reached = 0 then p.ballast else p.ballast ++ [(s.now, g.reached)] }))

/-- End every grant of a recipe and drop its requests (R526). -/
def endRecipeGrants (id : Nat) (s : State) : State :=
  let s := endGrant .renewal id (endGrant .streaming id (endGrant .compute id s))
  s.onPower (fun p => { p with queue := p.queue.filter (fun h => !(h.key == id && (h.kind == .compute || h.kind == .streaming || h.kind == .renewal))) })

/-- The grant of a recipe, if it holds one. -/
def State.recipeGrant (s : State) (id : Nat) : Option Sugar :=
  s.power.grants.find? (fun g => g.key == id && (g.kind == .compute || g.kind == .streaming || g.kind == .renewal))

/-- How many tiles in flight a grant allows: while it ramps, as many as the current reached carries, and at least 1 (R369, R527). -/
def Sugar.tiles (g : Sugar) : Nat :=
  if g.reached < g.coreMa then max 1 (g.reached / max 1 (g.unitMw * g.coreMa / max 1 g.granted)) else g.granted / max 1 g.unitMw

/-- Whether a grant's whole core current has been reached, which wakes and boosts wait for (R527). -/
def Sugar.full (g : Sugar) : Bool := decide (g.reached ≥ g.coreMa)

/-- Whether a recipe waits for a grant or a renewal (R370). -/
def State.recipeWaits (s : State) (id : Nat) : Bool :=
  s.power.queue.any (fun g => g.key == id && (g.kind == .compute || g.kind == .streaming || g.kind == .renewal))

/-! ### Units (R530 to R537) -/

/-- A unit's power record: 0 to 15 a cluster, 16 to 23 a stack. -/
def State.punit (s : State) (u : Nat) : PowerUnit := agetD s.power.units u PowerUnit.reset

/-- Change a unit's power record. -/
def setPunit (u : Nat) (f : PowerUnit → PowerUnit) (s : State) : State :=
  s.onPower (fun p => { p with units := aset p.units u (f (agetD p.units u PowerUnit.reset)) })

/-- The power-good qualifier of a unit's island (R37, R535, R536, R538): withdrawn in Doze and Deep, whose outputs nothing takes. -/
def State.powerGood (s : State) (u : Nat) : Bool := (s.punit u).st == .run || (s.punit u).st == .nap

/-- The number of a power state. -/
def PowerSt.num : PowerSt → Nat
  | .run => 0 | .nap => 1 | .doze => 2 | .deep => 3

/-- Move a unit to a state, counting the time it spent in the one it leaves (0x1D10). -/
def enterState (u : Nat) (st : PowerSt) (mv : UnitMove) (s : State) : State :=
  let p := s.punit u
  let s := if st = p.st then s else bumpBy .puStateNs (u * 4 + p.st.num) (s.now - p.changedAt) s
  setPunit u (fun q => { q with st := st, move := mv, changedAt := if st = q.st then q.changedAt else s.now }) s

/-- Entry, wake and break-even times in ns (R530). -/
def unitTimes (u : Nat) (st : PowerSt) : Nat × Nat × Nat :=
  match decide (u < 16), st with
  | _, .run => (0, 0, 0)
  | true, .nap => (11, 40, 100)
  | true, .doze => (2100, 6000, 20000)
  | true, .deep => (4000, 90000, 600000)
  | false, .nap => (6100, 40, 200)
  | false, .doze => (7100, 6000, 15000)
  | false, .deep => (3300, 90000, 400000)

/-- A core's record. -/
def State.coreRec (s : State) (c : Nat) : Core := agetD s.core.cores c Core.reset

/-- Change a core's record. -/
def setCore (c : Nat) (f : Core → Core) (s : State) : State :=
  s.onCore (fun k => { k with cores := aset k.cores c (f (agetD k.cores c Core.reset)) })

/-- Whether an access writes: a store, a PAMO or a line atomic. -/
def AccKind.writes : AccKind → Bool
  | .load _ _ _ | .vload _ _ => false
  | _ => true

/-- Whether an access reads its line first: all but the store of a whole line (R326). -/
def AccKind.fetches : AccKind → Bool
  | .store _ _ _ full => !full
  | _ => true

/-- A tile whose threads stop (R449, R454): its loads are dropped; the stores it has retired still commit, and until they have it stays
on its core as `how` says. -/
def CoreTile.halt (how : TileEnd) (t : CoreTile) : CoreTile :=
  { t with ending := how, threads := t.threads.map (fun e => (e.1, { e.2 with accesses := e.2.accesses.filter (fun a => a.kind.writes) })) }

/-- Whether a tile has no pool access outstanding. -/
def CoreTile.quiet (t : CoreTile) : Bool := t.threads.all (fun e => e.2.accesses.isEmpty)

/-- A tile that is dropped: gone at once, or once its retired stores have committed. -/
def CoreTile.dropped (t : CoreTile) : Option CoreTile :=
  let t := t.halt .ended
  if t.quiet then none else some t

/-- The cores of a cluster. -/
def coresOf (k : Nat) : List Nat := (List.range 18).map (fun i => k * 18 + i)

/-- A channel's record: 32 × stack + channel. -/
def State.channel (s : State) (c : Nat) : Channel := agetD s.dram.channels c Channel.reset

/-- Change a channel's record. -/
def setChannel (c : Nat) (f : Channel → Channel) (s : State) : State :=
  s.onDram (fun d => { d with channels := aset d.channels c (f (agetD d.channels c Channel.reset)) })

/-- Whether a unit is idle (R531). -/
def State.unitIdle (s : State) (u : Nat) : Bool :=
  if u < 16 then (agetD s.recp.queues u []).isEmpty && (coresOf u).all (fun c => (agetD s.recp.locals c []).isEmpty && (s.coreRec c).run.isNone)
  else (List.range 32).all (fun i => let c := s.channel ((u - 16) * 32 + i); c.reqs.isEmpty && c.st != .retraining)

/-- The deepest state a unit may enter: the first limit of R532 that applies. -/
def State.deepest (s : State) (u : Nat) : Nat :=
  if u < 16 then
    (if (s.unit .cluster u).st != .enabled then 0 else s.obj .clusterDeepest)
  else if (s.punit u).rtAt ≠ 0 ∧ s.now < (s.punit u).rtAt + s.obj .rtHold * 1000 then 1
  else if agetD s.dram.refresh (u - 16) 0 = 1 then 1
  else s.obj .stackDeepest

/-- The next wake instant of a job-step timer (R533). -/
def StepTimer.nextWake (t : StepTimer) (now : Nat) : Nat :=
  let step := if now + t.lead * 1000 ≤ t.first then t.first
    else t.first + ((now + t.lead * 1000 - t.first) / (max 1 (t.period * 1000)) + 1) * (t.period * 1000)
  step - t.lead * 1000

/-- Lines of a channel. -/
def linesPerChannel : Nat := Config.stackGiB * 2 ^ 30 / 32 / 128

/-- The instant at which the scrub lag of a stack would reach 1/32 of SCRUB_PERIOD (R330, R533): that of its channel furthest behind. -/
def State.scrubDue (s : State) (stack : Nat) : Nat :=
  let period := s.obj .scrubPeriod * 3600000000000
  let due (c : Nat) : Nat := agetD s.integ.passStart c 0 + period * agetD s.integ.scrubDone c 0 / linesPerChannel + period / 32
  ((List.range 32).map (fun i => due (32 * stack + i))).foldl min (due (32 * stack))

/-- The next TW_KEEPALIVE expected (R467, R533). -/
def State.keepaliveDue (s : State) : Nat := s.now + 100000 - (s.now - s.twin.kaAt) % 100000

/-- The time to the next known event for entry into a state, in ns from when entry would complete (R533). -/
def State.tNext (s : State) (u : Nat) (st : PowerSt) : Nat :=
  let (entry, _, _) := unitTimes u st
  let p := s.punit u
  let hint := if p.quiet > s.now then [p.quiet - s.now] else []
  let steps := (s.power.timers.filter (fun t => t.units.contains u)).map (fun t => t.nextWake s.now - s.now)
  let horizon := match hint ++ steps with
    | [] => s.obj .defaultHorizon * 1000
    | l => l.foldl min (l.headD 0)
  let entries := if u < 16 then [] else
    (if st = .deep then [] else [entry + (if agetD s.dram.refresh (u - 16) 0 = 1 then 15600 else 31250)])
      ++ (if s.obj .scrubEnable = 0 then [] else [s.scrubDue (u - 16) - s.now])
      ++ (if s.twin.st = .standby ∨ s.twin.st = .syncing then [s.keepaliveDue - s.now] else [])
  entries.foldl min horizon - entry

/-- A unit chooses its state (R534). -/
def chooseState (u : Nat) (s : State) : State :=
  let fits (st : PowerSt) : Bool :=
    let (e, w, b) := unitTimes u st
    decide (st.num ≤ s.deepest u) && decide (e + w + b ≤ s.tNext u st)
  let go (st : PowerSt) : State :=
    onlyIf (decide (u < 16)) (crumb 2 u 3 st.num) (bump .puEntries (u * 4 + st.num) (setPunit u (fun p => { p with move := .entering st }) s))
  if fits .deep then go .deep else if fits .doze then go .doze else if fits .nap then go .nap else s

/-- Begin a sleeping unit's wake: a cluster in Nap within the allowance of R529, a cluster in Doze or Deep by its wake sugar
(R524, R537), a stack at once. -/
def beginWake (u : Nat) (s : State) : State :=
  let p := s.punit u
  if u < 16 then
    match p.st with
    | .nap =>
      if s.power.napUsed + 6000 > 40000 then bump .pwNapWaits (dieOfCluster u) (setPunit u (fun q => { q with move := .napHeld }) s)
      else setPunit u (fun q => { q with move := .waking }) (drawQuiet 6000 s)
    | _ => admitGrant (mkSugar s .wake u (dieOfCluster u) 70200 0 0 false) (setPunit u (fun q => { q with move := .waking }) s)
  else setPunit u (fun q => { q with move := .waking }) s

/-- A request needs a unit (R36, R539): a sleeping one is woken and holds it; one that is entering aborts at the next abort
point or, past the last, completes its entry first (which of the two the manual's timing decides, a free value here). -/
def wakeUnit (u : Nat) (s : State) : State :=
  let p := s.punit u
  let held := s.onPower (fun w => { w with heldAt := amod w.heldAt u 0 (· + 1) })
  match p.move with
  | .entering t =>
    if Config.freeNat s.free % 2 = 0 then
      onlyIf (decide (u < 16)) (crumb 2 u 4 0) (bump .puAborts (u * 4 + t.num) (useFree (setPunit u (fun q => { q with move := .none }) s)))
    else useFree (setPunit u (fun q => { q with move := .enteringWake t }) held)
  | .enteringWake _ => held
  | .waking => held
  | .napHeld => held
  | .none => if p.st = .run then s else beginWake u held

/-- The number of a core as the source of its accesses. -/
def coreSrc (c : Nat) : Nat := 2 ^ 18 + 4 * c

/-- What a core had asked for under the epoch it leaves waits no more (R589): the accesses in the directory's queues are refused and counted
in STALE_EPOCH, as the reads under way are when they come (log 167). -/
def refuseOld (c : Nat) (s : State) : State :=
  let mine (src : Nat) : Bool := src == coreSrc c
  let n := (s.dir.accesses.filter (fun a => mine a.src)).length
  let s := onlyIf (decide (0 < n)) (bumpBy .staleEpoch c n) s
  let s := s.onDir (fun d => { d with
    accesses := d.accesses.filter (fun a => !mine a.src), heldAt := d.heldAt.filter (fun h => !mine h.2.1), aged := d.aged.filter (fun a => !mine a.2.1) })
  (s.onDram (fun d => { d with returned := d.returned.filter (fun x => !mine x.2.1) })).onDeep (fun d => { d with
    seekers := d.seekers.filter (fun x => !mine x.2.1) })

/-- Advance a unit's epoch (R589), with its crumb. -/
def advanceEpoch (k : UnitKind) (u : Nat) (s : State) : State :=
  let s := setUnit k u (fun r => { r with epoch := (r.epoch + 1) % 65536 }) s
  let s := onlyIf (k == .core) (refuseOld u) s
  crumb (match k with | .core => 1 | .cluster => 2 | .channel => 3) u 0x0C (s.unit k u).epoch s

/-- A core whose epoch advances: its tray is zeroed and left with no tenant, its kernel text gone (R590, R591). -/
def clearCore (c : Nat) (s : State) : State :=
  setCore c (fun k => { k with tray := [], trayPoison := [], trayTenant := 0, resident := none }) s

/-- Whether the controllers of a stack have pulled in 8 intervals on every bank, which Nap and Doze ask for (R282, R536 step 2); a channel out
of service has nothing to refresh. -/
def State.pulledIn (s : State) (stack : Nat) : Bool :=
  (List.range 32).all (fun i =>
    let c := s.channel (32 * stack + i)
    c.st != .serving || (List.range 32).all (fun b => decide (agetD c.refreshDue b 0 ≤ -8)))

/-- A unit's entry is complete (R535, R536): in Deep a cluster loses its trays and stores and its cores' epochs advance. -/
def entryDone (u : Nat) (t : PowerSt) (mv : UnitMove) (s : State) : State :=
  let s := enterState u t mv s
  if u < 16 then
    let s := endGrant .wake u (endGrant .boost u s)
    if t = .deep then forAll (coresOf u) (fun c s => if corePresent c then advanceEpoch .core c (clearCore c s) else s) s else s
  else
    -- the next refresh instant is entered in the calendar; in Deep the stack refreshes itself, and its entry is withdrawn (R282)
    let next := if t = .deep then 0 else s.now + (if agetD s.dram.refresh (u - 16) 0 = 1 then 15600 else 31250)
    let s := setPunit u (fun p => { p with refreshAt := next }) s
    if t = .deep then
      let clear (c : Channel) : Channel := { c with refreshDue := [] }
      s.onDram (fun d => { d with refresh := aset d.refresh (u - 16) 2, channels := d.channels.map (fun e => if e.1 / 32 = u - 16 then (e.1, clear e.2) else e) })
    else s

end Sys2Proof.Machine
end

