-- ==== Sys2Proof/Machine/OpsMemory.lean ====
section
/-!
DEFINITION. Machine/OpsMemory.lean: where lines lie, the deep tier's frame tags, reading a line through a segment, and the
commit of a line with all that goes with it: metadata, pantry, poison, mirror, maps and dumps (R38 to R48, R269 to R274,
R291 to R293, R318 to R324, R327, R336 to R341, R469 to R471, R479, R490, R561, R562, R635, R685).
-/
namespace Sys2Proof.Machine

/-! ### Windows and places (R38, R270 to R273) -/

/-- TAG_BASE (R272). -/
def State.tagBase (s : State) : Nat := ledgerBase - s.deep.units * 2 ^ 21
/-- POOL_TOP (R272). -/
def State.poolTop (s : State) : Nat := s.tagBase - s.deep.units * 2 ^ 34
/-- Whether an address lies in the deep window (R272). -/
def isDeepPa (pa : Nat) : Bool := decide (2 ^ 48 ≤ pa) && decide (pa < 2 ^ 49)
/-- The sled of a deep-window address. -/
def sledOf (pa : Nat) : Nat := (pa - 2 ^ 48) / 2 ^ 46
/-- A sled's record. -/
def State.sled (s : State) (n : Nat) : Sled := agetD s.deep.sleds n Sled.reset
/-- Change a sled's record. -/
def setSled (n : Nat) (f : Sled → Sled) (s : State) : State :=
  s.onDeep (fun d => { d with sleds := aset d.sleds n (f (agetD d.sleds n Sled.reset)) })

/-- Whether a translated address lies in present capacity, reached through a segment of a tier (R273). -/
def State.paPresent (s : State) (pa tier : Nat) : Bool :=
  if pa < s.poolTop then true
  else isDeepPa pa && s.deep.units != 0 && tier != 0 && (s.sled (sledOf pa)).present
    && decide (pa % 2 ^ 46 / 65536 < (s.sled (sledOf pa)).capacity)

/-- The place of a DRAM line (R270): channel (32 × stack + channel), pseudo-channel, bank, row, column. -/
structure Place where
  channel : Nat
  pseudo  : Nat
  bank    : Nat
  row     : Nat
  column  : Nat
deriving DecidableEq, Repr

/-- R270. -/
def placeOf (pa : Nat) : Place :=
  let cla := localAddr pa
  { channel := channelOfPa pa, pseudo := bits cla 11 1
    bank := 4 * Nat.xor (bits cla 12 2) (bits cla 20 2) + Nat.xor (bits cla 14 2) (bits cla 22 2)
    row := bits cla 19 17, column := bits cla 16 3 }

/-- The line at a place: R270 the other way round. -/
def lineAtPlace (p : Place) : Nat :=
  let cluster := 2 * (p.channel / 32) + p.channel % 32 / 16
  let group := Nat.xor (p.bank / 4) (bits p.row 1 2)
  let bank := Nat.xor (p.bank % 4) (bits p.row 3 2)
  paOfLocal cluster (p.channel % 16 * 2 ^ 7 + p.pseudo * 2 ^ 11 + group * 2 ^ 12 + bank * 2 ^ 14 + p.column * 2 ^ 16 + p.row * 2 ^ 19) / 128

/-! ### Frames and tags (R291, R292) -/

/-- The deep granule number G = PA[47:16]. -/
def granuleOf (pa : Nat) : Nat := pa / 65536 % 2 ^ 32
/-- The set of a granule in its cluster (R291). -/
def State.frameSet (s : State) (g : Nat) : Nat := g / 16 * 0x9E3779B1 % 2 ^ 32 % (1024 * s.deep.units)
/-- The pool physical address of a set's tag line. -/
def State.tagLinePa (s : State) (cluster set : Nat) : Nat := paOfLocal cluster (s.tagBase / 16 + 128 * set)
/-- The pool physical address of a frame's data. -/
def State.framePa (s : State) (cluster set way : Nat) : Nat := paOfLocal cluster (s.poolTop / 16 + 65536 * (16 * set + way))
/-- The value of a memory key: that of the tenant-0 key for none. -/
def State.keyValue (s : State) (k : Option Nat) : Nat := k.getD (s.sec.key0.getD 0)

/-- A line's metadata word (R318). -/
def LineMeta.word (m : LineMeta) : Nat := (if m.poison then 1 else 0) + m.tenant * 2 + m.version * 2 ^ 16

/-- Bytes of a stored line as the tenant-0 key shows them; `tweak` is the line of its XTS tweak (R473, R561, R562). -/
def State.plainBytes (s : State) (l tweak off n : Nat) : List Byte :=
  let m := s.lineMeta l
  if m.cipher then ((Config.lineDecrypt (s.keyValue none) tweak (s.readLine l)).drop off).take n
  else if m.key = none then s.readBytes (l * 128 + off) n
  else ((Config.lineDecrypt (s.keyValue none) tweak (Config.lineEncrypt (s.keyValue m.key) tweak (s.readLine l))).drop off).take n

/-- A frame tag. -/
def State.tag (s : State) (cluster set way : Nat) : Nat :=
  let l := s.tagLinePa cluster set / 128
  leNat (s.plainBytes l l (8 * way) 8)

/-- The bits of a frame tag (R292). -/
def tagValid : Nat := 0
/-- DIRTY. -/
def tagDirty : Nat := 1
/-- REDIRTY. -/
def tagRedirty : Nat := 2
/-- REF. -/
def tagRef : Nat := 3
/-- PIN. -/
def tagPin : Nat := 4
/-- FILLING. -/
def tagFilling : Nat := 5
/-- WRITING. -/
def tagWriting : Nat := 6
/-- COLD. -/
def tagCold : Nat := 7
/-- GRANULE of a tag. -/
def tagGranule (t : Nat) : Nat := bits t 8 32
/-- Whether a tag has a bit set. -/
def tagHas (t b : Nat) : Bool := bits t b 1 == 1
/-- A tag with a bit set or cleared. -/
def tagPut (t b : Nat) (v : Bool) : Nat := t - bits t b 1 * 2 ^ b + (if v then 2 ^ b else 0)

/-- The way of the VALID frame that holds a deep-window address. -/
def State.frameWay (s : State) (pa : Nat) : Option Nat :=
  let k := homeCluster pa
  let set := s.frameSet (granuleOf pa)
  (List.range 16).find? (fun w => let t := s.tag k set w; tagHas t tagValid && tagGranule t == granuleOf pa)

/-- The frame a DRAM line lies in: cluster, set, way. -/
def State.frameOf (s : State) (l : Nat) : Option (Nat × Nat × Nat) :=
  let pa := l * 128
  if s.poolTop ≤ pa ∧ pa < s.tagBase then
    let f := (localAddr pa - s.poolTop / 16) / 65536
    some (homeCluster pa, f / 16, f % 16)
  else none

/-- The deep-window line that a line of a VALID frame holds. -/
def State.deepLine (s : State) (l : Nat) : Option Nat :=
  (s.frameOf l).bind (fun f =>
    let t := s.tag f.1 f.2.1 f.2.2
    if tagHas t tagValid then some ((2 ^ 48 + tagGranule t * 65536) / 128 + l % 512) else none)

/-- The DRAM line that stores a line: itself in the direct window, its frame's in the deep window. -/
def State.storeOf (s : State) (line : Nat) : Option Nat :=
  let pa := line * 128
  if isDeepPa pa then
    (s.frameWay pa).map (fun w => (s.framePa (homeCluster pa) (s.frameSet (granuleOf pa)) w + pa % 65536) / 128)
  else some line

/-- Bytes of one line as the Varisk reads its own structures and those the pool manager writes for it (R206, R213, R226): zeros where
the line is not resident. -/
def State.ownBytes (s : State) (pa n : Nat) : List Byte :=
  match s.storeOf (pa / 128) with
  | some l => s.plainBytes l (pa / 128) (pa % 128) n
  | none => List.replicate n 0

/-- The metadata of a line where it is stored. -/
def State.metaOf (s : State) (line : Nat) : LineMeta :=
  match s.storeOf line with
  | some l => s.lineMeta l
  | none => LineMeta.reset

/-- Whether the channel that stores a line has failed (R290). -/
def State.lineFailed (s : State) (line : Nat) : Bool :=
  match s.storeOf line with
  | some l => (s.channel (placeOf (l * 128)).channel).st == .failed
  | none => false

/-! ### Keys of memory (R561 to R563) -/

/-- The memory key of (tenant, KEY_ID): none is the tenant-0 key. -/
def State.memKey (s : State) (tenant keyId : Nat) : Option Nat :=
  if tenant = 0 then none else (aget s.sec.tenants tenant).bind (fun t => aget t.memKeys keyId)

/-- Whether the key of (TENANT, KEY_ID) has been delivered (R224 step 10). -/
def State.keyDelivered (s : State) (tenant keyId : Nat) : Bool := tenant == 0 || (s.memKey tenant keyId).isSome

/-- A line's data as a segment's key shows it: the plaintext under the key it was written with, and unrelated bytes under
any other (R562). -/
def State.dataOf (s : State) (line tenant keyId : Nat) : List Byte :=
  match s.storeOf line with
  | none => List.replicate 128 0
  | some l =>
    let m := s.lineMeta l
    let k := s.memKey tenant keyId
    if m.cipher then Config.lineDecrypt (s.keyValue k) line (s.readLine l)
    else if m.key = k then s.readLine l
    else Config.lineDecrypt (s.keyValue k) line (Config.lineEncrypt (s.keyValue m.key) line (s.readLine l))

/-- The line whose address is the XTS tweak of a line's ciphertext: a line of a frame holds its deep-window line (R293, R561). -/
def State.tweakOf (s : State) (line : Nat) : Nat :=
  let pa := line * 128
  if s.poolTop ≤ pa ∧ pa < s.tagBase then
    let f := (localAddr pa - s.poolTop / 16) / 65536
    (2 ^ 48 + tagGranule (s.tag (homeCluster pa) (f / 16) (f % 16)) * 65536) / 128 + line % 512
  else line

/-- A line's ciphertext, as DRAM holds it (R42). -/
def State.cipherOf (s : State) (line : Nat) : List Byte :=
  match s.storeOf line with
  | none => List.replicate 128 0
  | some l => let m := s.lineMeta l; if m.cipher then s.readLine l else Config.lineEncrypt (s.keyValue m.key) (s.tweakOf line) (s.readLine l)

/-- Whether a read of a line through a segment's tenant is delivered poisoned: the line is poisoned (R336), another tenant's
(R324), or of a failed channel (R290).  Lines read for the Varisk's own structures are exempt from the tenant. -/
def State.readsPoisoned (s : State) (line tenant : Nat) (own : Bool) : Bool :=
  let m := s.metaOf line
  m.poison || s.lineFailed line || (!own && m.tenant != tenant)

/-- A line as it is delivered: poisoned or not, and its bytes, zeros where it is poisoned (R337). -/
def State.view (s : State) (line tenant keyId : Nat) : Bool × List Byte :=
  if s.readsPoisoned line tenant false then (true, List.replicate 128 0) else (false, s.dataOf line tenant keyId)

/-! ### Error records and poison events (R336, R348, R349) -/

/-- Enter a record in ERROR_LOG, a ring of 4,096 (R348). -/
def logError (kind action channel pa symbol tenant unit : Nat) (s : State) : State :=
  let s := onlyIf (decide (s.integ.log.length ≥ 4096)) (bump .logOverwrites 0) s
  s.onInteg (fun g => { g with
    log := (g.log ++ [({ seq := g.logSeq, time := s.now, kind := kind, action := action, channel := channel, pa := pa, symbol := symbol, tenant := tenant, unit := unit } : ErrorRec)]).drop (g.log.length + 1 - 4096)
    logSeq := g.logSeq + 1 })

/-- The channel that stores a line. -/
def State.channelOfLine (s : State) (line : Nat) : Nat := (placeOf ((s.storeOf line).getD line * 128)).channel

/-- A line has been marked poisoned for a cause (row 0 to 8 of R336): counters, log and notification (R347 to R349). -/
def poisonEvent (line cause : Nat) (s : State) : State :=
  let ch := s.channelOfLine line
  let tenant := (s.metaOf line).tenant
  let s := bump .linesPoisoned ch (bump .tenantPoison (tenant * 9 + cause) s)
  notifyLimited 0x1701 ch 10000000 (fun _ => leBytes 8 (line * 128) ++ leBytes 1 (cause + 1)) (logError 6 4 ch (line * 128) 0 tenant 0 s)

/-- Count a read through another tenant's segment (R324); a line whose TENANT was lost takes the segment's (R325). -/
def countMismatch (line tenant : Nat) (s : State) : State :=
  let m := s.metaOf line
  if m.untagged then
    match s.storeOf line with
    | some l => setMeta l (fun x => { x with tenant := tenant, untagged := false }) s
    | none => s
  else if m.tenant != tenant then
    let ch := s.channelOfLine line
    logError 7 4 ch (line * 128) 0 m.tenant 0 (bump .tenantMismatch ch (bump .tenantMismatchByTenant tenant s))
  else s

/-! ### The pantry (R40, R43, R48) -/

/-- The level of a real-time port on a channel: its requests in the channel not yet issued (R283). -/
def Channel.level (c : Channel) (cls : DramClass) : Nat := (c.reqs.filter (fun r => r.cls == cls && r.entered && !r.issued)).length

/-- The entries of the input buffer of a class (R275). -/
def DramClass.room : DramClass → Nat
  | .normal => 64 | .rtVc6 => 32 | .rtMirror => 32

/-- Requests come over the crossing into their input buffers, in order, as far as there is room; the others wait at the crossing (R34,
R275). -/
def Channel.enter (c : Channel) : Channel :=
  { c with reqs := c.reqs.map (fun r =>
      let before := (c.reqs.filter (fun x => x.cls == r.cls && !x.inBank && decide (x.id < r.id))).length
      if !r.entered && decide (before < r.cls.room) then { r with entered := true } else r) }

/-- Raise or end the panic of a channel's ports by their levels (R284); the time in panic is counted (0x1610). -/
def panicUpdate (ch : Nat) (s : State) : State :=
  let c := s.channel ch
  let next (p : Panic) (lvl : Nat) : Panic := match p with
    | .off => if lvl ≥ s.obj .panicOn then .on else .off
    | .on => if lvl ≤ s.obj .panicOff then .off else .on
    | .capped => .capped
  let v := next c.panicVc6 (c.level .rtVc6)
  let m := next c.panicMir (c.level .rtMirror)
  let since (k : Nat) (old new : Panic) (t : Assoc Nat Nat) : Assoc Nat Nat := if old != .on && new == .on then aset t k s.now else t
  let ended (k : Nat) (old new : Panic) : Nat := if old == .on && new != .on then s.now - agetD c.panicSince k s.now else 0
  bumpBy .chPanicNs (ch * 2) (ended 0 c.panicVc6 v) (bumpBy .chPanicNs (ch * 2 + 1) (ended 1 c.panicMir m)
    (setChannel ch (fun c => { c with panicVc6 := v, panicMir := m, panicSince := since 1 c.panicMir m (since 0 c.panicVc6 v c.panicSince) }) s))

/-- Whether a channel's stack takes requests into its input buffers: it is in Run, and not on its way out of it (R536 step 1). -/
def State.stackOpen (s : State) (ch : Nat) : Bool := let p := s.punit (16 + ch / 32); p.st == .run && p.move == .none

/-- Put a request to a channel: it waits at the crossing until its input buffer has room (R34, R275); a stack that is not in Run, or
leaves it, is woken (R36). -/
def dramPush (line : Nat) (write : Bool) (cls : DramClass) (cause : DramCause) (s : State) : State :=
  let ch := (placeOf (line * 128)).channel
  let id := s.dram.nextId
  let s := s.onDram (fun d => { d with nextId := id + 1 })
  let s := setChannel ch (fun c => { c with reqs := c.reqs ++ [{ id := id, line := line, write := write, cls := cls, cause := cause
                                                                 entered := false, inBank := false, issued := false }] }) s
  let s := if s.stackOpen ch then s else wakeUnit (16 + ch / 32) s
  panicUpdate ch (if s.stackOpen ch then setChannel ch Channel.enter s else s)

/-- The die, slice and set of a line in the pantry (R43). -/
def pantrySet (l : Nat) : Nat × Nat × Nat := (homeDie (l * 128), Config.sliceHash l % 32, Config.setHash l % 2048)

/-- The pseudo-LRU bits after a use of a way: in a binary tree over 16 leaves, of which the 12 ways are the first, each node on the way's
path points to its other half (R43 names the tree and not its shape: DESIGN CHOICE, log 155). -/
def plruUse (tree way : Nat) : Nat :=
  (List.range 4).foldl (fun t d =>
    let node := (way + 16) / 2 ^ (4 - d)
    let right := (way + 16) / 2 ^ (3 - d) % 2
    t - bits t node 1 * 2 ^ node + (1 - right) * 2 ^ node) tree

/-- The way the bits point to: from the root down, never into the half that has no way. -/
def plruVictim (tree : Nat) : Nat :=
  (List.range 4).foldl (fun node _ =>
    let child := 2 * node + bits tree node 1
    if node = 3 then 6 else child) 1 - 16

/-- A use of a line in its set. -/
def pantryUse (l : Nat) (s : State) : State :=
  let way := (s.lineMeta l).way
  s.onMem (fun m => { m with plru := aset m.plru (pantrySet l) (plruUse (agetD m.plru (pantrySet l) 0) way) })

/-- The lines of a pantry set, but for one line. -/
def State.pantryWays (s : State) (l : Nat) : List (Nat × LineMeta) :=
  s.mem.lines.filter (fun e => e.2.inPantry && e.1 != l && pantrySet e.1 == pantrySet l)

/-- A way for one line in its pantry set of 12 (R43): its own where it is held, else the lowest that is free, else that of the line the
tree pseudo-LRU picks, which is evicted, to DRAM when it is dirty. -/
def pantryRoom (l : Nat) (s : State) : State :=
  if (s.lineMeta l).inPantry then pantryUse l s
  else
    let set := s.pantryWays l
    match (List.range 12).find? (fun w => !set.any (fun e => e.2.way == w)) with
    | some w => pantryUse l (setMeta l (fun m => { m with way := w }) s)
    | none =>
      let w := plruVictim (agetD s.mem.plru (pantrySet l) 0)
      let s := pantryUse l (setMeta l (fun m => { m with way := w }) s)
      forAll (set.filter (fun e => e.2.way == w)) (fun e s =>
        onlyIf e.2.dirty (dramPush e.1 true (if s.standby then .rtMirror else .normal) .evict)
          (setMeta e.1 (fun x => { x with inPantry := false, dirty := false }) s)) s

/-- Fill a line into the pantry, clean, under the KEY_ID of the segment (R43). -/
def pantryFill (l keyId : Nat) (s : State) : State :=
  setMeta l (fun m => { m with inPantry := true, dirty := if m.inPantry then m.dirty else false, keyId := keyId }) (pantryRoom l s)

/-! ### Deep-window commits (R299, R300) -/

/-- Write a frame tag: a commit of the tag line as the Varisk's own structure, left to `commitRaw` below. -/
def tagBytes (s : State) (cluster set way v : Nat) : List Byte :=
  let b := s.ownBytes (s.tagLinePa cluster set) 128
  b.take (8 * way) ++ leBytes 8 v ++ b.drop (8 * way + 8)

/-- Send a line to the standby (R469, R471): the line's ciphertext, zeros when it is poisoned; `old` is what it held before. -/
def mirrorLine (l : Nat) (old : List Byte × LineMeta) (s : State) : State :=
  if s.mirrors then
    let m := s.lineMeta l
    let die := homeDie (l * 128)
    let data := if m.poison then List.replicate 128 0 else s.cipherOf l
    bump .twLines 0 (mirrorSend die (some (l, old)) (fun n =>
      mkPacket 4 0xA4 s.twin.peerEid (s.obj .nodeEid) (n % 4096) 0 0 m.poison
        (leBytes 16 (l + m.word * 2 ^ 48 + n * 2 ^ 80 + die * 2 ^ 112) ++ padTo 128 data)) s)
  else s

/-- The old value of a line that a dump still has to stream is copied into its buffer before the first write at or after the
cut (R635); a full buffer ends the dump NO_SPACE (R637). -/
def dumpCopy (line : Nat) (s : State) : State :=
  forAll s.obs.dumps (fun d s =>
    let offset := d.tensor.extents.foldl (fun (acc : Nat × Option Nat) e =>
      (acc.1 + e.2, if acc.2.isSome then acc.2 else if e.1 / 128 ≤ line ∧ line < e.1 / 128 + e.2 then some (acc.1 + (line - e.1 / 128)) else none)) (0, none)
    match offset.2 with
    | none => s
    | some i =>
      if d.st == .streaming && !d.copies.contains i && decide (d.sent ≤ i) && !d.settling.contains line then
        let total := (d.tensor.extents.map Prod.snd).sum
        let mapLines := ((total + 7) / 8 + 127) / 128
        if mapLines + d.copies.length ≥ d.bufLen / 128 then
          endDump d .noSpace false s
        else
          let at_ := d.bufPa + (mapLines + d.copies.length) * 128
          let old := s.readByte (d.bufPa + i / 8)
          let s := putBytes at_ (s.readLine ((s.storeOf line).getD line)) (putBytes (d.bufPa + i / 8) [old ||| BitVec.ofNat 8 (2 ^ (i % 8))] s)
          let m := s.metaOf line
          let s := setMeta (at_ / 128) (fun x => { x with poison := m.poison, tenant := m.tenant, key := m.key, cipher := m.cipher }) s
          s.onObs (fun o => { o with dumps := o.dumps.map (fun x => if x.number = d.number then { x with copies := x.copies ++ [i] } else x) })
      else s) s

/-- A commit that leaves a step mark at its value or more triggers the dump; the cut is 1 µs later (R635). -/
def dumpTrigger (line : Nat) (s : State) : State :=
  s.onObs (fun o => { o with dumps := o.dumps.map (fun d =>
    if d.st == .armed && d.markPa / 128 == line && decide (leNat (s.readBytes ((s.storeOf line).getD line * 128 + d.markPa % 128) 8) ≥ d.step) then
      { d with st := .triggered, cutAt := s.now + 1000 } else d) })

/-- The commit of a stored line: bytes and metadata, in the pantry and dirty, the version advanced, the maps, the mirror
(R47, R318, R319, R469). -/
def commitRaw (l : Nat) (bytes : List Byte) (m : LineMeta) (s : State) : State :=
  let old := s.lineMeta l
  let held := s.readLine l
  let s := pantryRoom l s
  let s := setMeta l (fun x => { m with version := (old.version + 1) % 65536, inPantry := true, dirty := true, way := x.way }) (putBytes (l * 128) (padTo 128 bytes) s)
  mirrorLine l (held, old) (mapGranule l s)

/-- Write a frame tag (R292); one on a failed channel stays as it is (R290). -/
def setTag (cluster set way v : Nat) (s : State) : State :=
  if s.lineFailed (s.tagLinePa cluster set / 128) then s else
  commitRaw (s.tagLinePa cluster set / 128) (tagBytes s cluster set way v) { LineMeta.reset with poison := (s.lineMeta (s.tagLinePa cluster set / 128)).poison } s

/-- Queue the writeback of a frame (R298, R299). -/
def queueWriteback (cluster set way : Nat) (s : State) : State :=
  if s.deep.queue.contains (cluster, set, way) then s else s.onDeep (fun d => { d with queue := d.queue ++ [(cluster, set, way)] })

/-- What a commit of a deep-window line does to its frame's tag: DIRTY; REDIRTY while a writeback runs (R292, R300); the writeback of a
COLD frame is queued at once (R299). -/
def dirtyFrame (line : Nat) (s : State) : State :=
  let pa := line * 128
  if isDeepPa pa then
    match s.frameWay pa with
    | none => s
    | some w =>
      let k := homeCluster pa
      let set := s.frameSet (granuleOf pa)
      let t := s.tag k set w
      let s := if tagHas t tagDirty then s else onlyIf (tagHas t tagCold) (queueWriteback k set w) (s.onDeep (fun d => { d with dirtyAt := aset d.dirtyAt (k, set, w) s.now }))
      setTag k set w (if tagHas t tagWriting then tagPut (tagPut t tagDirty true) tagRedirty true else tagPut t tagDirty true) s
  else s

/-- Enter a line of a failed channel in its poison list of 4,096, or set the overflow flag (R685). -/
def poisonListed (ch line : Nat) (s : State) : State :=
  setChannel ch (fun c => if c.poisonList.contains line then c else
    if c.poisonList.length < 4096 then { c with poisonList := c.poisonList ++ [line], retained := true } else { c with overflow := true, retained := true }) s

/-- Commit a line (R47): on a failed channel nothing is written, and a poisoning is listed (R290, R685). -/
def commitLine (line : Nat) (bytes : List Byte) (m : LineMeta) (s : State) : State :=
  match s.storeOf line with
  | none => s
  | some l =>
    if s.lineFailed line then onlyIf m.poison (poisonListed (s.channelOfLine line) line) s
    else dumpTrigger line (commitRaw l bytes m (dirtyFrame line (dumpCopy line s)))

/-- The metadata of a line written through a segment (R319). -/
def State.writeMeta (s : State) (tenant keyId : Nat) (poison : Bool) : LineMeta :=
  { LineMeta.reset with poison := poison, tenant := tenant, keyId := keyId, key := s.memKey tenant keyId }

/-- Write a whole line through a segment; a poisoned write poisons the line for a cause (R163, R336, R340). -/
def writeLine (line : Nat) (bytes : List Byte) (poison : Bool) (cause tenant keyId : Nat) (s : State) : State :=
  let s := commitLine line bytes (s.writeMeta tenant keyId poison) s
  onlyIf poison (poisonEvent line cause) s

/-- The frame that a line belongs to turns DIRTY. -/
def dirtyHeld (line : Nat) (s : State) : State := forAll (s.deepLine line).toList dirtyFrame s

/-- A line's metadata with its poison bit set. -/
def LineMeta.poisoned (m : LineMeta) : LineMeta := { m with poison := true }

/-- Mark a line poisoned: a commit with its data and TENANT unchanged (R319, R336); a line of a frame makes its frame DIRTY, since it is
written back poisoned (R312). -/
def poisonLine (line cause : Nat) (s : State) : State :=
  match s.storeOf line with
  | none => s
  | some l =>
    dirtyHeld line (poisonEvent line cause (commitLine line (s.readLine l) (s.lineMeta l).poisoned s))

/-- Bytes merged into a line from an offset up where the mask of the new bytes is set. -/
def mergeBytes (old new : List Byte) (mask : Nat → Bool) : List Byte :=
  (List.range 128).map (fun i => if mask i then new.getD i 0 else old.getD i 0)

/-- Whether a merge onto a line through a tenant's segment gives a poisoned line (R327). -/
def State.mergePoisons (s : State) (line tenant : Nat) : Bool := s.readsPoisoned line tenant false

/-- Merge a narrow write into a line (R48, R326, R327): a line poisoned or of another tenant stays, or becomes, poisoned and
takes the writer's TENANT. -/
def mergeLine (line : Nat) (new : List Byte) (mask : Nat → Bool) (poison : Bool) (cause tenant keyId : Nat) (s : State) : State :=
  let bad := s.mergePoisons line tenant
  let data := mergeBytes (s.dataOf line tenant keyId) new mask
  let s' := commitLine line data (s.writeMeta tenant keyId (poison || bad)) s
  if bad then poisonEvent line 6 s' else onlyIf poison (poisonEvent line cause) s'

/-- Write the Varisk's own structure: tenant 0, KEY_ID 0 (R226, R319), in whole lines and parts of lines. -/
def writeOwn (pa : Nat) (bs : List Byte) (s : State) : State :=
  let first := pa / 128
  let n := (pa % 128 + bs.length + 127) / 128
  forAll (List.range n) (fun i s =>
    let l := first + i
    let lo := if i = 0 then pa % 128 else 0
    let part := if i = 0 then bs.take (128 - lo) else (bs.drop (i * 128 - pa % 128)).take 128
    let new := List.replicate lo (0 : Byte) ++ part
    commitLine l (mergeBytes (s.ownBytes (l * 128) 128) (padTo 128 new) (fun j => decide (lo ≤ j) && decide (j < lo + part.length)))
      { LineMeta.reset with poison := (s.metaOf l).poison && (decide (0 < lo) || decide (part.length < 128)) } s) s

end Sys2Proof.Machine
end

