-- ==== Sys2Proof/Machine/OpsXlate.lean ====
section
/-!
DEFINITION. Machine/OpsXlate.lean: contexts, segments, page tables, the translation caches and the checks of R224
(R205 to R225, R339, R569).
-/
namespace Sys2Proof.Machine

/-! ### Descriptors (R206 to R211) -/

/-- A segment descriptor of 32 bytes (R209). -/
def segOfBytes (b : List Byte) (poisoned : Bool) : Segment :=
  let n := leNat b
  { valid := bits n 0 1 == 1, paged := bits n 1 1 == 1, rights := bits n 8 8, tenant := bits n 16 10, keyId := bits n 32 8
    tier := bits n 40 2, base := bits n 64 52, limit := bits n 128 36, poisoned := poisoned }

/-- The pool physical address of a context's descriptor (R206). -/
def State.descPa (s : State) (ctx : Nat) : Nat := s.obj .contextTableBase + ctx * 1024

/-- Whether the line of an address is poisoned for the Varisk's own read (R324 exempts it from the tenant). -/
def State.ownPoisoned (s : State) (pa : Nat) : Bool := s.readsPoisoned (pa / 128) 0 true

/-- The one segment of context 0 (R211); its TIER, which R211 does not give, is 0 (log 22). -/
def managerSegment : Segment :=
  { valid := true, paged := false, rights := 7, tenant := 0, keyId := 0, tier := 0, base := 0, limit := 2 ^ 36 - 1, poisoned := false }

/-- Context 0 (R211). -/
def State.managerDesc (s : State) : CtxDesc :=
  { valid := true, ctxId := 0, gen := 0, root := 0, fqBase := s.obj .managerFqBase, fqLog := 12, owner := 0, segs := [managerSegment] }

/-- A context's descriptor as it reads now (R206, R207, R209): that of R211 for context 0, and an invalid one while CONTEXT_TABLE_BASE is 0 or
where its header line is poisoned (R339). -/
def State.readDesc (s : State) (ctx : Nat) : CtxDesc :=
  let pa := s.descPa ctx
  if ctx = 0 then s.managerDesc
  else if s.obj .contextTableBase = 0 ∨ s.ownPoisoned pa = true then { s.managerDesc with valid := false }
  else
    let h := leNat (s.ownBytes pa 64)
    { valid := bits h 0 1 == 1, ctxId := bits h 16 16, gen := bits h 32 32, root := bits h 64 52, fqBase := bits h 128 52
      fqLog := bits h 180 4, owner := bits h 192 10
      segs := (List.range 16).map (fun i => segOfBytes (s.ownBytes (pa + 64 + 32 * i) 32) (s.ownPoisoned (pa + 64 + 32 * i))) }

/-- R208: FQ_DEPTH_LOG2 is a 4-bit field, so its largest value is 15. -/
def CtxDesc.bad (d : CtxDesc) (ctx : Nat) : Bool :=
  !d.valid || d.ctxId != ctx || d.fqBase == 0 || d.fqBase % 4096 != 0 || decide (d.fqLog < 4) || decide (d.fqLog > 16)

/-! ### Walks (R212 to R216, R222) -/

/-- Index shift, page size and node size of a level (R212). -/
def levelShift (level : Nat) : Nat := match level with | 0 => 39 | 1 => 30 | 2 => 21 | _ => 16
/-- Entries of a node of a level. -/
def levelEntries (level : Nat) : Nat := if level < 3 then 512 else 32
/-- Alignment of a node of a level. -/
def nodeAlign (level : Nat) : Nat := if level < 3 then 4096 else 256

/-- How a walk ends. -/
inductive Walk where
  /-- A leaf: the base of its run in the address space and in memory, its size, whether it may be written, and whether it declares a run
  of more than one page. -/
  | leaf (va size pa : Nat) (write run : Bool)
  /-- It stops: reason of R224 and LEVEL. -/
  | stop (reason level : Nat)
  /-- A node's line is not resident: its granule (R295). -/
  | wait (granule : Nat)
deriving DecidableEq, Repr

/-- Whether the line of an address can be read now: in the deep window it is in its frame (R295). -/
def State.resident (s : State) (pa : Nat) : Bool :=
  !isDeepPa pa || (match s.frameWay pa with
    | some w => !tagHas (s.tag (homeCluster pa) (s.frameSet (granuleOf pa)) w) tagFilling
        || s.deep.fills.any (fun f => f.granule == granuleOf pa && f.arrived.contains (pa % 65536 / 128))
    | none => false)

/-- Whether the set of a deep-window address is quarantined, or is to be: its tag line is poisoned (R342). -/
def State.setLost (s : State) (pa : Nat) : Bool :=
  let set := s.frameSet (granuleOf pa)
  isDeepPa pa && (s.deep.quarantined.contains (homeCluster pa, set) || s.ownPoisoned (s.tagLinePa (homeCluster pa) set))

/-- The walk from a node of a level for a PVA, with the pointers it read: level and node of each (R212 to R216). -/
def State.walkFrom (s : State) (pva : Nat) : Nat → Nat → Nat → Walk × List (Nat × Nat)
  | 0, _, level => (.stop 6 level, [])
  | fuel + 1, node, level =>
    if !s.paPresent node 1 then (.stop 7 level, []) else
    let idx := pva / 2 ^ levelShift level % levelEntries level
    let pa := node + 8 * idx
    if s.setLost pa then (.stop 8 level, []) else
    if !s.resident pa then (.wait (granuleOf pa), []) else
    if s.ownPoisoned pa then (.stop 8 level, []) else
    let e := leNat (s.ownBytes pa 8)
    let target := bits e 12 44 * 256
    let run := bits e 4 4
    if bits e 0 1 = 0 then (.stop 1 level, [])
    else if bits e 1 1 = 1 then
      let page := 2 ^ levelShift level
      let size := page * 2 ^ run
      let i := pva / page % 2 ^ run
      if level = 0 ∨ run > 9 ∨ target % page ≠ 0 ∨ target < i * page ∨ (target - i * page) % size ≠ 0 then (.stop 6 level, [])
      else (.leaf (pva / size * size) size (target - i * page) (bits e 2 1 == 1) (run != 0), [])
    else if level ≥ 3 ∨ run > 9 ∨ target % nodeAlign (level + 1) ≠ 0 then (.stop 6 level, [])
    else
      let (w, ps) := s.walkFrom pva fuel target (level + 1)
      (w, (level, target) :: ps)

/-! ### Results and the order of checks (R224, R225) -/

/-- A translation that failed: the code, the reason, whether it is recorded, LEVEL, PVA and the generation read. -/
structure XFault where
  status   : Status
  reason   : Nat
  recorded : Bool
  level    : Nat
  pva      : Nat
  gen      : Nat
deriving DecidableEq, Repr

/-- The outcome of the checks of R224. -/
inductive XRes where
  | ok (pa tenant keyId tier : Nat)
  | fault (f : XFault)
  /-- The generations differ: the descriptor is read again (R218).  Or a node of the walk is not resident: the granule it waits for
  (R295). -/
  | settle (f : XFault) (granule : Option Nat)
deriving DecidableEq, Repr

/-- The rights reason of a right's bit (R225). -/
def rightReason (b : Nat) : Nat := if b = 6 then 0x17 else 0x10 + b

/-- Steps 8 to 10 of R224: rights, page WRITE, key. -/
def State.checkRights (s : State) (g : Segment) (need : List Nat) (write pageWrite : Bool) (pa level pva gen : Nat) : XRes :=
  match need.find? (fun b => bits g.rights b 1 == 0) with
  | some b => .fault { status := .rightsFault, reason := rightReason b, recorded := true, level := level, pva := pva, gen := gen }
  | none =>
    if write && !pageWrite then .fault { status := .rightsFault, reason := 0x16, recorded := true, level := level, pva := pva, gen := gen }
    else if !s.keyDelivered g.tenant g.keyId then .fault { status := .keyMissing, reason := 0, recorded := false, level := level, pva := pva, gen := gen }
    else .ok pa g.tenant g.keyId g.tier

/-- Drop one entry of a cache that is full; which one the manual does not say (a free value). -/
def evictOne {α : Type} (free cap : Nat) (l : List α) : List α := if l.length < cap then l else l.eraseIdx (Config.freeNat free % l.length)

/-- Read a descriptor through the context cache of a die (R217, R218): what is kept is a valid descriptor of the registered
generation. -/
def fetchDesc (die ctx : Nat) (s : State) : State × CtxDesc :=
  if ctx = 0 then (s, s.managerDesc) else
  match aget s.part.ctxCache (die, ctx) with
  | some d => (s, d)
  | none =>
    let d := s.readDesc ctx
    let s := bump .xlCtxMisses die s
    if d.bad ctx || d.gen != agetD s.part.gens ctx 0 then (s, d)
    else (s.onPart (fun p => { p with ctxCache := evictOne s.free 4096 p.ctxCache ++ [((die, ctx), d)] }), d)

/-- The pointers a walk has read fill the walk cache (R217). -/
def keepWalk (die ctx pva : Nat) (ps : List (Nat × Nat)) (s : State) : State :=
  forAll ps (fun p s => s.onPart (fun c => { c with
    walks := evictOne s.free 2048 c.walks ++ [{ die := die, ctx := ctx, level := p.1, prefx := pva / 2 ^ levelShift p.1, node := p.2 }] })) s

/-- The run a PVA translates by, from the translation cache or by a walk that fills the caches (R215, R217).  A walk that waits for a
node is counted once it goes on. -/
def fetchLeaf (die ctx gen root pva : Nat) (s : State) : State × Walk :=
  match s.part.xlate.find? (fun e => e.die == die && e.ctx == ctx && decide (e.va ≤ pva) && decide (pva < e.va + e.size)) with
  | some e => (bump .xlHits die (bump .xlLookups die s), .leaf e.va e.size e.pa e.write false)
  | none =>
    if root % 4096 ≠ 0 then (bump .xlLookups die s, .stop 6 0) else
    let cached := fun level => s.part.walks.find? (fun e => e.die == die && e.ctx == ctx && e.level == level && e.prefx == pva / 2 ^ levelShift level)
    let start := match cached 2, cached 1, cached 0 with
      | some e, _, _ => (e.node, 3) | none, some e, _ => (e.node, 2) | none, none, some e => (e.node, 1) | _, _, _ => (root, 0)
    let (w, ps) := s.walkFrom pva 4 start.1 start.2
    let s := keepWalk die ctx pva ps (bumpBy .xlWalkReads die ps.length s)
    let counted (s : State) : State := bump .xlLookups die (bump .xlWalks die (onlyIf (start.2 != 0) (bump .xlWalkHits die) s))
    match w with
    | .wait _ => (s, w)
    | .leaf va size pa wr run =>
      let s := bump .xlWalkReads die (counted s)
      let s := onlyIf (decide (s.part.xlate.length ≥ 16384)) (bump .xlEvictions die) s
      let s := onlyIf run (bump .xlRuns die) s
      (s.onPart (fun c => { c with xlate := evictOne s.free 16384 c.xlate ++ [{ die := die, ctx := ctx, gen := gen, va := va, size := size, pa := pa, write := wr }] }), w)
    | .stop reason _ => (onlyIf (reason != 7) (bump .xlWalkReads die) (counted s), w)

/-- The checks of R224 from step 2, for one address, on a die. -/
def translate (die ctx addr : Nat) (need : List Nat) (write : Bool) (s : State) : State × XRes :=
  let (s, d) := fetchDesc die ctx s
  let f (st : Status) (reason : Nat) (rec : Bool) (level pva : Nat) : XFault := { status := st, reason := reason, recorded := rec, level := level, pva := pva, gen := d.gen }
  if ctx ≠ 0 ∧ d.bad ctx = true then (s, .fault (f .xlateFault 0 false 7 0)) else
  if ctx ≠ 0 ∧ d.gen ≠ agetD s.part.gens ctx 0 then (bump .xlMismatches die s, .settle (f .xlateFault 5 true 7 0) none) else
  let sel := bits addr 60 4
  let off := addr % 2 ^ 60
  match d.segs[sel]? with
  | none => (s, .fault (f .xlateFault 3 true 7 0))
  | some g =>
    if g.poisoned then (s, .fault (f .xlateFault 8 true 7 0)) else
    if !g.valid || g.tier == 3 || g.limit == 0 || g.base % 65536 != 0 || (g.paged && decide (g.base ≥ 2 ^ 48)) then (s, .fault (f .xlateFault 3 true 7 0)) else
    let pva := if g.paged then g.base + off else 0
    if off ≥ g.limit * 65536 ∨ (g.paged = true ∧ pva ≥ 2 ^ 48) then (s, .fault (f .xlateFault 2 true 7 (pva % 2 ^ 48))) else
    if g.paged then
      match fetchLeaf die ctx d.gen d.root pva s with
      | (s, .stop reason level) => (s, .fault (f .xlateFault reason true level pva))
      | (s, .wait g) => (s, .settle (f .timeout 0 false 7 pva) (some g))
      | (s, .leaf va _ pa wr _) =>
        let pa := pa + (pva - va)
        if !s.paPresent pa g.tier then (s, .fault (f .xlateFault 7 true 7 pva)) else (s, s.checkRights g need write wr pa 7 pva d.gen)
    else
      let pa := g.base + off
      if !s.paPresent pa g.tier then (s, .fault (f .xlateFault 7 true 7 0)) else (s, s.checkRights g need write true pa 7 0 d.gen)

/-- The segment through which a context address now translates, without caches or counters: PA, TENANT and KEY_ID (R319). -/
def State.segmentNow (s : State) (ctx addr : Nat) : Option (Nat × Nat × Nat) :=
  match (translate 0 ctx addr [] false s).2 with
  | .ok pa tenant keyId _ => some (pa, tenant, keyId)
  | _ => none

end Sys2Proof.Machine
end

