-- ==== Sys2Proof/Machine/OpsDir.lean ====
section
/-!
DEFINITION. Machine/OpsDir.lean: the home directories: entries, regions and aliases, room, recalls and their answers, lost
holders, evictions (R234 to R262), and the pool-issued requests that carry snoops (R164, R180).
-/
namespace Sys2Proof.Machine

/-! ### Pool-issued requests (R164, R180) -/

/-- Send a pool-issued request: it stays outstanding until it is answered or ends (R180).  On a fabric port it goes through
the pin of its destination, on a DP or TW port through that port. -/
def sendPool (issuer : Issuer) (key : Nat) (port : Option Nat) (tag : Nat) (p : Packet) (s : State) : State :=
  let s := match port with
    | some n => sendOnPort n p s
    | none => sendPacket p s
  tookTag p.dest tag (s.onTxn (fun t => { t with
    pool := t.pool ++ [{ dest := p.dest, tag := tag, port := port.getD noPin, issuer := issuer, pkt := p, key := key }] }))

/-- Issue a request of the Varisk under its next tag toward its destination; it waits while all of them are outstanding (R164). -/
def issuePool (issuer : Issuer) (key : Nat) (port : Option Nat) (p : Packet) (s : State) : State :=
  match s.tagFree p.dest with
  | some tag => sendPool issuer key port tag { p with tag := tag }.close s
  | none => s.onTxn (fun t => { t with poolWait := t.poolWait ++ [{ issuer := issuer, key := key, port := port, pkt := p }] })

/-- The port a pool-issued request goes through: its DP or TW port, or the pin of its destination (R149). -/
def State.portOf (s : State) (q : PoolReq) : Nat := if q.port = noPin then agetD s.txn.pins q.dest noPin else q.port

/-- Whether a packet of a pool-issued request waits in a leaf. -/
def State.poolQueued (s : State) (q : PoolReq) : Bool :=
  s.traffic.leaves.any (fun e => e.2.any (fun x => x.pkt.dest == q.dest && x.pkt.tag == q.tag && x.pkt.op == q.pkt.op))

/-- The pool-issued request an answer belongs to. -/
def State.poolReq (s : State) (src tag : Nat) : Option PoolReq := s.txn.pool.find? (fun q => q.dest == src && q.tag == tag)

/-- End a pool-issued request; one that waits for a tag toward the same destination is issued (R164). -/
def endPool (q : PoolReq) (s : State) : State :=
  let s := s.onTxn (fun t => { t with pool := t.pool.filter (fun x => !(x.dest == q.dest && x.tag == q.tag)) })
  match s.txn.poolWait.find? (fun w => w.pkt.dest == q.dest) with
  | some w => issuePool w.issuer w.key w.port w.pkt (s.onTxn (fun t => { t with poolWait := t.poolWait.erase w }))
  | none => s

/-- End the pool-issued requests of a kind, those that wait for a tag among them. -/
def dropPool (gone : Issuer → Nat → Nat → Bool) (s : State) : State :=
  s.onTxn (fun t => { t with pool := t.pool.filter (fun q => !gone q.issuer q.dest q.key)
                             poolWait := t.poolWait.filter (fun w => !gone w.issuer w.pkt.dest w.key) })

/-! ### Entries, regions, aliases (R241 to R248) -/

/-- The region of a line: its 4 KiB of pool address space. -/
def regionOf (line : Nat) : Nat := line / 32

/-- A line's entry. -/
def State.entry (s : State) (line : Nat) : Option DirEntry := aget s.dir.entries line

/-- The code of a state in an entry (R241). -/
def LineSt.code : LineSt → Nat
  | .shared => 1 | .exclusive => 2 | .modified => 3

/-- The SHARERS field (R241, R242). -/
def DirEntry.sharers (e : DirEntry) : Nat :=
  if e.coarse then (e.groups.map (fun g => 2 ^ g)).sum
  else (e.ptrs.take 4).foldr (fun p acc => acc * 2 ^ 13 + p) 0

/-- An entry in the layout of R241, TAG and REPL 0. -/
def DirEntry.bits (e : DirEntry) : Nat :=
  e.st.code + (if e.recalling then 4 else 0) + (if e.coarse then 8 else 0) + (if e.coarse then 0 else e.ptrs.length) * 16
    + (if e.aged then 128 else 0) + e.sharers * 256 + e.kind * 2 ^ 72

/-- A region entry in the layout of R245, TAG and REPL 0. -/
def Region.bits (r : Region) : Nat := 1 + r.lines * 2 + r.ctx * 2 ^ 8 + r.addr * 2 ^ 24

/-- Mirror a line's entry (R469, R472): the entry, or zeros for Invalid. -/
def mirrorEntry (line : Nat) (s : State) : State :=
  mirrorState (homeDie (line * 128)) 1 2 (leBytes 14 line ++ leBytes 16 (((s.entry line).map DirEntry.bits).getD 0)) s

/-- Mirror a region's entry (R469, R472). -/
def mirrorRegion (reg : Nat) (s : State) : State :=
  mirrorState (homeDie (reg * 4096)) 2 2 (leBytes 14 reg ++ leBytes 16 (((aget s.dir.regions reg).map Region.bits).getD 0)) s

/-- Directory entries of a region that are not Invalid. -/
def State.regionLines (s : State) (reg : Nat) : List Nat := (s.dir.entries.filter (fun e => regionOf e.1 == reg)).map Prod.fst

/-- A line has been used: its entry and its region's are the most recently used of their sets, which stand in the order of their last use
(R240, R245). -/
def touchEntry (line : Nat) (s : State) : State :=
  let last (l : Assoc Nat DirEntry) : Assoc Nat DirEntry := l.filter (fun e => e.1 != line) ++ l.filter (fun e => e.1 == line)
  let lastReg (l : Assoc Nat Region) : Assoc Nat Region := l.filter (fun e => e.1 != regionOf line) ++ l.filter (fun e => e.1 == regionOf line)
  s.onDir (fun d => { d with entries := last d.entries, regions := lastReg d.regions })

/-- Set a line's entry, the most recently used of its set; its region's LINES follows (R240, R245). -/
def putEntry (line : Nat) (e : DirEntry) (s : State) : State :=
  let fresh := (s.entry line).isNone
  let s := touchEntry line (s.onDir (fun d => { d with entries := adel d.entries line ++ [(line, e)] }))
  let reg := regionOf line
  let s := mirrorEntry line s
  if fresh then
    mirrorRegion reg (s.onDir (fun d => { d with regions := d.regions.map (fun x => if x.1 = reg then (x.1, { x.2 with lines := (s.regionLines reg).length }) else x) }))
  else s

/-- Free a line's entry; a region whose LINES falls to 0 is freed (R246). -/
def dropEntry (line : Nat) (s : State) : State :=
  if (s.entry line).isNone then s else
  let s := mirrorEntry line (s.onDir (fun d => { d with entries := adel d.entries line }))
  let reg := regionOf line
  let n := (s.regionLines reg).length
  mirrorRegion reg (s.onDir (fun d => { d with regions := if n = 0 then adel d.regions reg else d.regions.map (fun x => if x.1 = reg then (x.1, { x.2 with lines := n }) else x) }))

/-- A line's alias: context and address (R247). -/
def State.alias (s : State) (line : Nat) : Option (Nat × Nat) :=
  (aget s.dir.regions (regionOf line)).map (fun r => (r.ctx, r.addr * 4096 + line % 32 * 128))

/-- The group of a slot in a coarse entry (R242). -/
def groupOf (slot : Nat) : Nat := slot / 128

/-- Whether a slot is recorded as a holder. -/
def DirEntry.has (e : DirEntry) (slot : Nat) : Bool := if e.coarse then e.groups.contains (groupOf slot) else e.ptrs.contains slot

/-- An entry without a precise holder. -/
def DirEntry.without (e : DirEntry) (slot : Nat) : DirEntry := { e with ptrs := e.ptrs.filter (· ≠ slot) }

/-- Whether nobody is left in an entry. -/
def DirEntry.empty (e : DirEntry) : Bool := !e.coarse && e.ptrs.isEmpty

/-- Set an entry, or free it when it has no holder. -/
def putOrDrop (line : Nat) (e : DirEntry) (s : State) : State := if e.empty then dropEntry line s else putEntry line e s

/-- Add a sharer: the fifth makes the entry coarse (R242). -/
def DirEntry.share (e : DirEntry) (slot : Nat) : DirEntry :=
  if e.coarse then { e with groups := if e.groups.contains (groupOf slot) then e.groups else e.groups ++ [groupOf slot] }
  else if e.ptrs.contains slot then e
  else if e.ptrs.length < 4 then { e with ptrs := e.ptrs ++ [slot] }
  else { e with coarse := true, ptrs := [], groups := ((e.ptrs ++ [slot]).map groupOf).eraseDups }

/-- A new entry of one holder. -/
def mkEntry (st : LineSt) (slot : Nat) : DirEntry :=
  { st := st, recalling := false, coarse := false, ptrs := [slot], groups := [], aged := false, kind := 0, lost := false }

/-- Whether a slot record is in a state in which it can answer a snoop: Active or Detaching (R243, R253). -/
def Slot.answers (r : Slot) : Bool := r.st == .active || r.st == .detaching

/-- Whether a slot holds a capability (R188). -/
def State.slotCap (s : State) (slot b : Nat) : Bool :=
  match aget s.part.slots slot with
  | some r => bits r.caps b 1 == 1
  | none => false

/-- The slots a snoop to an entry goes to: the pointers, or for a coarse entry every slot of its groups that R243 names. -/
def State.holders (s : State) (line : Nat) (e : DirEntry) : List Nat :=
  if e.coarse then
    let ctx := ((s.alias line).map Prod.fst).getD 0
    (s.part.slots.filter (fun x => e.groups.contains (groupOf x.1) && x.2.answers && bits x.2.caps 0 1 == 1 && x.2.grants.contains ctx)).map Prod.fst
  else e.ptrs

/-! ### Room (R240, R245, R249) -/

/-- What a new entry meets. -/
inductive Room where
  | ok
  /-- The least recently used way of the set is recalled. -/
  | recallLine (victim : Nat)
  /-- The least recently used region of the set is recalled. -/
  | recallRegion (victim : Nat)
  /-- Every way is Recalling or AGED. -/
  | wait
deriving DecidableEq, Repr

/-- Room for an entry of a line: 16 ways of its set, 8 ways of its region's, one of 32 banks × 2,048 sets.  The hashes are hidden (R43). -/
def State.room (s : State) (line : Nat) : Room :=
  let die := homeDie (line * 128)
  let reg := regionOf line
  let regs := if ahas s.dir.regions reg || decide (s.dir.regions.length < 8) then []
    else s.dir.regions.filter (fun x => homeDie (x.1 * 4096) == die && Config.regionHash x.1 % 65536 == Config.regionHash reg % 65536)
  if regs.length ≥ 8 then
    match regs.head? with
    | some v => .recallRegion v.1
    | none => .ok
  else if ahas s.dir.entries line || decide (s.dir.entries.length < 16) then .ok
  else
    let set := s.dir.entries.filter (fun x => homeDie (x.1 * 128) == die && Config.sliceHash x.1 % 32 == Config.sliceHash line % 32 && Config.setHash x.1 % 16384 == Config.setHash line % 16384)
    if set.length < 16 then .ok
    else match set.find? (fun x => !x.2.recalling && !x.2.aged) with
      | some v => .recallLine v.1
      | none => .wait

/-- Record a grant: the region takes the alias when it has no line (R248), then the entry. -/
def grantEntry (line ctx addr : Nat) (e : DirEntry) (s : State) : State :=
  let reg := regionOf line
  let s := if ahas s.dir.regions reg then s
    else s.onDir (fun d => { d with regions := d.regions ++ [(reg, { lines := 0, ctx := ctx, addr := addr / 4096 })] })
  putEntry line { e with aged := e.aged || s.dir.aged.any (fun a => a.1 == line) } s

/-! ### Losing a holder (R253, R259) -/

/-- Count one loss in a slot's record. -/
def countLoss (slot : Nat) (f : LossCounts → LossCounts) (s : State) : State :=
  s.onPart (fun p => match aget p.slots slot with
    | some r => { p with slots := aset p.slots slot { r with loss := f r.loss } }
    | none => p)

/-- apply_loss (R259). -/
def applyLoss (line slot : Nat) (s : State) : State :=
  match s.entry line with
  | none => s
  | some e =>
    -- a slot that is lost before it has answered for a lost entry fails to answer (R325)
    if e.lost then poisonLine line 3 s
    else if e.coarse then (if e.has slot then countLoss slot (fun c => { c with coarse := c.coarse + 1 }) s else s)
    else if !e.ptrs.contains slot then s
    else match e.st with
      | .modified =>
        let s := poisonLine line 2 (countLoss slot (fun c => { c with poisoned := c.poisoned + 1 }) s)
        if e.recalling then putEntry line (e.without slot) s else dropEntry line s
      | .exclusive =>
        let s := countLoss slot (fun c => { c with exclusive := c.exclusive + 1 }) s
        if e.recalling then putEntry line (e.without slot) s else dropEntry line s
      | .shared =>
        let s := countLoss slot (fun c => { c with shared := c.shared + 1 }) s
        if e.recalling then putEntry line (e.without slot) s else putOrDrop line (e.without slot) s

/-! ### Snoop data, evictions (R239, R252) -/

/-- Write a holder's line: through the segment of the line's alias as it stands now; where the alias no longer translates,
poisoned, keeping TENANT (R239, R319). -/
def writeSnoop (line : Nat) (bytes : List Byte) (poison : Bool) (s : State) : State :=
  match (s.alias line).bind (fun a => s.segmentNow a.1 a.2) with
  | some (_, tenant, keyId) => writeLine line bytes poison 4 tenant keyId s
  | none => poisonEvent line 4 (commitLine line bytes { s.metaOf line with poison := true } s)

/-- Whether what a slot sends of a line is the line's data: it is recorded as the owner, or the entry has been lost (R239, R325). -/
def DirEntry.owned (e : DirEntry) (slot : Nat) : Bool := e.lost || (!e.coarse && e.ptrs.contains slot && e.st != .shared)

/-- Take an indexed eviction as its slot's answer (R252, R253); a WRITEBACK goes through the segment of its translation. -/
def takeEviction (v : Eviction) (s : State) : State :=
  let s := s.onDir (fun d => { d with evicts := d.evicts.map (fun x => if x = v then { x with applied := true } else x) })
  match s.entry v.line with
  | none => s
  | some e =>
    let s := match v.writeback && e.owned v.slot, s.txn.reqs.find? (fun q => q.src == v.src && q.tag == v.tag) with
      | true, some q => match q.data with
        | some d => writeLine v.line d.body d.poison 4 q.tenant q.keyId s
        | none => s
      | _, _ => s
    if e.coarse then s else putEntry v.line (e.without v.slot) s

/-- The eviction of a line by a slot that can be taken now: an EVICT_CLEAN, or a WRITEBACK with its data. -/
def State.takeable (s : State) (slot line : Nat) : Option Eviction :=
  s.dir.evicts.find? (fun v => v.slot == slot && v.line == line && !v.applied &&
    (!v.writeback || s.txn.reqs.any (fun q => q.src == v.src && q.tag == v.tag && q.data.isSome)))

/-- Whether a slot has an eviction of the line indexed. -/
def State.evicting (s : State) (slot line : Nat) : Bool := s.dir.evicts.any (fun v => v.slot == slot && v.line == line && !v.applied)

/-! ### Recalls (R253) -/

/-- A dump no longer waits for a line that is back (R635). -/
def dumpSettled (line : Nat) (s : State) : State :=
  s.onObs (fun o => { o with dumps := o.dumps.map (fun d => { d with settling := d.settling.filter (· != line) }) })

/-- End a line's recall: what is left of the entry decides its state (R250). -/
def closeRecall (line : Nat) (s : State) : State :=
  let s := dumpSettled line s
  match aget s.dir.recalls line, s.entry line with
  | some r, some e =>
    let s := s.onDir (fun d => { d with recalls := adel d.recalls line })
    let e := { e with recalling := false, kind := 0, st := if r.down then .shared else e.st }
    let e := if e.coarse && !r.down then { e with coarse := false, groups := [], ptrs := r.keep, lost := false } else e
    putOrDrop line e s
  | some _, none => s.onDir (fun d => { d with recalls := adel d.recalls line })
  | none, _ => s

/-- Send a snoop to a slot with the line's alias (R247, R253). -/
def sendSnoop (down : Bool) (line slot : Nat) (s : State) : State :=
  match aget s.part.slots slot, s.alias line with
  | some r, some (ctx, addr) =>
    let p := mkPacket 2 (if down then 0x21 else 0x20) r.eid (s.obj .serviceEid) 0 0 ctx false (leBytes 16 addr)
    bump (if down then .snoopsDown else .snoopsInv) (homeDie (line * 128)) (issuePool .snoop line none p s)
  | _, _ => s

/-- recall(L, targets, kind) of R253: the targets that are lost, or whose eviction can be taken, are settled at once; the
others are snooped and awaited.  A recall that awaits nobody ends at once. -/
def startRecall (line : Nat) (down : Bool) (targets : List Nat) (kind : Nat) (keep : List Nat) (cause : RecallCause) (s : State) : State :=
  match s.entry line with
  | none => s
  | some e =>
    let s := putEntry line { e with recalling := true, kind := kind } s
    let s := s.onDir (fun d => { d with recalls := aset d.recalls line { down := down, awaited := [], crossed := [], dataDue := [], keep := keep, cause := cause } })
    let s := forAll targets (fun t s =>
      let live := match aget s.part.slots t with | some r => r.answers | none => false
      if !live then applyLoss line t s
      else match s.takeable t line with
        | some v => takeEviction v s
        | none =>
          let crossed := s.evicting t line
          let await (r : Recall) : Recall := { r with awaited := r.awaited ++ [t], crossed := if crossed then r.crossed ++ [t] else r.crossed }
          let s := s.onDir (fun d => { d with recalls := d.recalls.map (fun x => if x.1 = line then (x.1, await x.2) else x) })
          if crossed then s else sendSnoop down line t s) s
    match aget s.dir.recalls line with
    | some r => if r.awaited.isEmpty then closeRecall line s else s
    | none => s

/-- A slot is settled in a line's recall: it leaves the awaited, and the recall ends with the last. -/
def settleSlot (line slot : Nat) (s : State) : State :=
  let s := s.onDir (fun d => match aget d.recalls line with
    | some r => { d with recalls := aset d.recalls line { r with awaited := r.awaited.filter (· ≠ slot), crossed := r.crossed.filter (· ≠ slot), dataDue := r.dataDue.filter (fun x => x.1 ≠ slot) } }
    | none => d)
  match aget s.dir.recalls line with
  | some r => if r.awaited.isEmpty then closeRecall line s else s
  | none => s

/-- A slot has answered with a state: kept as Shared after SNP_DOWN and state 1, else removed (R239, R253). -/
def answerState (line slot st : Nat) (s : State) : State :=
  match aget s.dir.recalls line, s.entry line with
  | some r, some e =>
    let s := if (r.down && st == 1) || e.coarse then s else putEntry line (e.without slot) s
    settleSlot line slot s
  | _, _ => s

/-- Whether a line is Recalling. -/
def State.recalling (s : State) (line : Nat) : Bool := ((s.entry line).map DirEntry.recalling).getD false

/-- Recall every line of a region with SNP_INV (R248, R249). -/
def recallRegion (reg kind : Nat) (s : State) : State :=
  forAll (s.regionLines reg) (fun l s =>
    match s.entry l with
    | some e => if e.recalling then s else startRecall l false (s.holders l e) kind [] .none s
    | none => s) (bump .regionRecalls (homeDie (reg * 4096)) s)

/-- Take back whatever a write of the Varisk's own meets: every holder is sent SNP_INV (R226). -/
def recallAll (line kind : Nat) (s : State) : State :=
  match s.entry line with
  | some e => if e.recalling then s else startRecall line false (s.holders line e) kind [] .none s
  | none => s

end Sys2Proof.Machine
end

