-- ==== Sys2Proof/Machine/OpsDeep.lean ====
section
/-!
DEFINITION. Machine/OpsDeep.lean: the deep tier: the sled protocol, frames, misses, fills and writebacks (R291 to R312).
-/
namespace Sys2Proof.Machine

/-! ### The sled protocol (R304 to R310) -/

/-- The DP port of a sled. -/
def dpPort (sled : Nat) : Nat := 32 + sled

/-- Whether a sled can be reached: its DP port is Active (R312). -/
def State.reachable (s : State) (sled : Nat) : Bool := (s.port (dpPort sled)).st == .active

/-- The epoch a Varisk claims and writes with: in twin mode its twin epoch, else the epoch the sled reports (R309). -/
def State.sledEpoch (s : State) (sled : Nat) : Nat := if s.twin.st = .solo then (s.sled sled).ownerEpoch else s.twin.epoch

/-- Slot 1 of DT_CLAIM, DT_READ, DT_WRITE and DT_TRIM (R305). -/
def dtSlot (granule epoch count : Nat) : List Byte := leBytes 16 (granule % 2 ^ 30 + epoch * 2 ^ 32 + count * 2 ^ 64)

/-- Send a request to a sled; `key` names the granule or sled it serves. -/
def sendDt (sled vc op harg key : Nat) (body : List Byte) (s : State) : State :=
  let dest := (s.sled sled).eid
  let tag := s.freeTag dest
  sendPool .deep key (some (dpPort sled)) tag (mkPacket vc op dest (s.obj .nodeEid) tag 0 harg false body) s

/-- Ask a sled for its information (R304). -/
def sendInfo (sled : Nat) (s : State) : State := sendDt sled 0 0x80 0 sled [] s
/-- Claim a sled with an epoch (R309). -/
def sendClaim (sled epoch : Nat) (s : State) : State := sendDt sled 0 0x82 0 sled (dtSlot 0 epoch 0) s

/-- Whether the Varisk may write to a sled: it owns the pool, has claimed the sled, and was not answered FENCED (R309, R310). -/
def State.maySled (s : State) (sled : Nat) : Bool :=
  !s.standby && (s.sled sled).claimed && !(s.sled sled).fenced && s.reachable sled

/-! ### Frames (R291, R292, R298) -/

/-- The pool physical address of a granule of the deep window. -/
def granulePa (g : Nat) : Nat := 2 ^ 48 + g * 65536
/-- The lines of a granule. -/
def granuleLines (g : Nat) : List Nat := (List.range 512).map (fun i => granulePa g / 128 + i)
/-- The cluster of a granule. -/
def granuleCluster (g : Nat) : Nat := homeCluster (granulePa g)
/-- The sled of a granule. -/
def granuleSled (g : Nat) : Nat := sledOf (granulePa g)
/-- The sled-local number of a granule: PA[45:16] (R305). -/
def granuleLocal (g : Nat) : Nat := g % 2 ^ 30

/-- The object of a bulk command (R301, R316). -/
def Bulk.obj (b : Bulk) : OpObj := cmdObj 0x1630 (if b.which = 6 then 5 else b.which) (if b.which = 4 then roleOp + rolePm else rolePm)

/-- Everything the deep tier has in progress ends, for a Varisk that may not use the sleds any more (R309, R488). -/
def stopDeep (s : State) : State :=
  let s := match s.deep.bulk with
    | some b => reply b.obj b.req .fenced [] s
    | none => s
  (dropPool (fun i _ _ => i == .deep) s).onDeep (fun d =>
    { d with fills := [], writebacks := [], waiting := [], bulk := none, queue := [], failed := [], chosen := [], seekers := [] })

/-- Whether a set is quarantined (R342). -/
def State.quarantined (s : State) (cluster set : Nat) : Bool := s.deep.quarantined.contains (cluster, set)

/-- Quarantine a set whose tag line is poisoned (R342). -/
def quarantine (cluster set : Nat) (s : State) : State :=
  if s.quarantined cluster set then s else
  notify 0x1708 (leBytes 1 cluster ++ leBytes 4 set) (s.onDeep (fun d => { d with quarantined := d.quarantined ++ [(cluster, set)] }))

/-- Clean a granule's pantry lines: dirty ones are written into the frame, and all are dropped when `drop` (R298, R300). -/
def cleanGranule (g : Nat) (drop : Bool) (s : State) : State :=
  match s.frameWay (granulePa g) with
  | none => s
  | some w =>
    let base := s.framePa (granuleCluster g) (s.frameSet g) w / 128
    forAll (s.mem.lines.filter (fun e => decide (base ≤ e.1) && decide (e.1 < base + 512) && e.2.inPantry)) (fun e s =>
      onlyIf e.2.dirty (dramPush e.1 true .normal .evict) (setMeta e.1 (fun m => { m with dirty := false, inPantry := !drop }) s)) s

/-- Whether a set's tag line can be read from the pantry; on a failed channel it reads poisoned (R290, R292). -/
def State.tagReady (s : State) (cluster set : Nat) : Bool :=
  let l := s.tagLinePa cluster set / 128
  (s.lineMeta l).inPantry || s.lineFailed l

/-- Read a set's tag line from DRAM into the pantry, unless that is under way (R292, R294). -/
def fetchTag (cluster set : Nat) (s : State) : State :=
  let l := s.tagLinePa cluster set / 128
  if (s.channel (channelOfPa (l * 128))).reqs.any (fun r => r.line == l && r.cause == .tagLine) || s.integ.repairs.any (fun r => r.line == l) then s
  else dramPush l false .normal .tagLine s

/-- The metadata word of a line with its ciphertext's CRC-32C: one entry of a metadata unit (R302). -/
def State.unitMeta (s : State) (l : Nat) (data : List Byte) : Nat := crc32c data + (s.lineMeta l).word * 2 ^ 32

/-- The 544 units of a frame's granule record: ciphertext and metadata, with the poison of each unit; the lines of a failed channel read
poisoned (R290, R302, R303). -/
def State.granuleUnits (s : State) (g w : Nat) : List (Bool × List Byte) :=
  let base := s.framePa (granuleCluster g) (s.frameSet g) w / 128
  let data := (List.range 512).map (fun i => (((s.lineMeta (base + i)).poison || s.lineFailed (base + i), s.cipherOf (granulePa g / 128 + i)) : Bool × List Byte))
  let metas := (List.range 32).map (fun j =>
    (false, (List.range 16).flatMap (fun i => leBytes 8 (s.unitMeta (base + 16 * j + i) ((data[16 * j + i]?).map Prod.snd |>.getD [])))))
  data ++ metas

/-- Send the granule record of a writeback whose frame has been read (R300 step 3): DT_WRITE and its 272 data packets. -/
def sendWriteback (w : Writeback) (s : State) : State :=
  let sled := granuleSled w.granule
  let dest := (s.sled sled).eid
  let tag := s.freeTag dest
  let s := s.onDeep (fun d => { d with writebacks := d.writebacks.map (fun x => if x.granule = w.granule then { x with tag := tag, reads := [] } else x) })
  let s := sendPool .deep w.granule (some (dpPort sled)) tag
    (mkPacket 1 0x84 dest (s.obj .nodeEid) tag 0 0 false (dtSlot (granuleLocal w.granule) (s.sledEpoch sled) 0)) s
  let units := s.granuleUnits w.granule w.way
  forAll (List.range 272) (fun i s =>
    let a := (units[2 * i]?).getD (false, [])
    let b := (units[2 * i + 1]?).getD (false, [])
    sendOnPort (dpPort sled) (mkPacket 4 0x89 dest (s.obj .nodeEid) tag 0 (2 * i) (a.1 || b.1) (padTo 128 a.2 ++ padTo 128 b.2)) s) s

/-- Lines of a writeback have been read, or need not be: once all have, its units are sent. -/
def readForWriteback (g : Nat) (skips : Nat → Bool) (s : State) : State :=
  match s.deep.writebacks.find? (fun w => w.granule == g && !w.reads.isEmpty) with
  | none => s
  | some w =>
    let w := { w with reads := w.reads.filter (fun l => !skips l) }
    let s := s.onDeep (fun d => { d with writebacks := d.writebacks.map (fun x => if x.granule = g then w else x) })
    if w.reads.isEmpty then sendWriteback w s else s

/-- Start the writeback of a frame (R300): WRITING set, REDIRTY cleared, the pantry's dirty lines written into the frame, the frame's lines
read, which those of a failed channel are not.  At most 64 run for a sled, none for a sled the Varisk may not write, and none for a frame
whose last writeback failed less than DIRTY_AGE ago (R308). -/
def startWriteback (cluster set way : Nat) (s : State) : State :=
  if !s.tagReady cluster set then fetchTag cluster set s else
  let t := s.tag cluster set way
  let g := tagGranule t
  let sled := granuleSled g
  let running := (s.deep.writebacks.filter (fun x => granuleSled x.granule == sled)).length
  if !tagHas t tagValid || !tagHas t tagDirty || tagHas t tagWriting || tagHas t tagFilling || !s.maySled sled || decide (running ≥ 64)
      || s.quarantined cluster set || s.deep.failed.contains (cluster, set, way) then s else
  let s := cleanGranule g false (setTag cluster set way (tagPut (tagPut t tagRedirty false) tagWriting true) s)
  let base := s.framePa cluster set way / 128
  let reads := ((List.range 512).map (fun i => base + i)).filter (fun l => !s.lineFailed l)
  let w : Writeback := { cluster := cluster, set := set, way := way, granule := g, tag := 4096, reads := reads }
  let s := bump .deepWritebacks cluster (bumpBy .sledWrites sled 1 (s.onDeep (fun d => { d with writebacks := d.writebacks ++ [w] })))
  if reads.isEmpty then sendWriteback w s else forAll reads (fun l s => dramPush l false .normal (.writeback g) s) s

/-- Start the queued writebacks that can run now; a frame that is dirty no longer leaves the queue (R298, R299). -/
def runQueue (s : State) : State :=
  forAll s.deep.queue (fun f s =>
    let s := startWriteback f.1 f.2.1 f.2.2 s
    let t := s.tag f.1 f.2.1 f.2.2
    if tagHas t tagWriting || !tagHas t tagDirty || !tagHas t tagValid then s.onDeep (fun d => { d with queue := d.queue.filter (fun x => x != f) }) else s) s

/-- Recall every partner-held line of a granule with the rules of RECALL_RANGE (R221, R298); true when none is held. -/
def recallGranule (g : Nat) (s : State) : State × Bool :=
  let held := s.dir.entries.filter (fun e => decide (granulePa g / 128 ≤ e.1) && decide (e.1 < granulePa g / 128 + 512))
  let s := forAll held (fun e s => recallAll e.1 5 s) s
  (s, !s.dir.entries.any (fun e => decide (granulePa g / 128 ≤ e.1) && decide (e.1 < granulePa g / 128 + 512)))

/-- Whether the hand may take a way, by its tag: neither pinned, filling, writing, referenced nor dirty (R298). -/
def mayTake (t : Nat) : Bool := !(tagHas t tagPin || tagHas t tagFilling || tagHas t tagWriting || tagHas t tagRef || tagHas t tagDirty)

/-- Take a way whose granule no partner holds a line of; else its lines are recalled, and it stays the set's choice meanwhile (R298). -/
def takeWay (cluster set w : Nat) (s : State) : State × Option Nat :=
  let g := tagGranule (s.tag cluster set w)
  let (s, free) := recallGranule g s
  if free then (bump .deepEvictions cluster (cleanGranule g true (s.onDeep (fun d => { d with chosen := adel d.chosen (cluster, set) }))), some w)
  else (s.onDeep (fun d => { d with chosen := aset d.chosen (cluster, set) w }), none)

/-- Up to `n` steps of the hand of a set (R298). -/
def handSteps (cluster set : Nat) : Nat → State → State × Option Nat
  | 0, s => (s, none)
  | n + 1, s =>
    let w := agetD s.deep.hands (cluster, set) 0
    let s := s.onDeep (fun d => { d with hands := aset d.hands (cluster, set) ((w + 1) % 16) })
    let t := s.tag cluster set w
    if mayTake t then takeWay cluster set w s
    else handSteps cluster set n
      (if tagHas t tagPin || tagHas t tagFilling || tagHas t tagWriting then s
       else if tagHas t tagRef then setTag cluster set w (tagPut t tagRef false) s
       else startWriteback cluster set w (queueWriteback cluster set w s))

/-- choose(set) of R298: a way for a new granule; none where the request waits.  The way chosen before a recall is looked at again after
it. -/
def chooseFrame (cluster set : Nat) (s : State) : State × Option Nat :=
  match (List.range 16).find? (fun w => !tagHas (s.tag cluster set w) tagValid), aget s.deep.chosen (cluster, set) with
  | some w, _ => (s, some w)
  | none, some w => if mayTake (s.tag cluster set w) then takeWay cluster set w s
    else handSteps cluster set 32 (s.onDeep (fun d => { d with chosen := adel d.chosen (cluster, set) }))
  | none, none => handSteps cluster set 32 s

/-! ### Misses (R295 to R299) -/

/-- Start a fill of a granule into a frame (R295). -/
def startFill (g set way first tier : Nat) (pin : Bool) (s : State) : State :=
  let cluster := granuleCluster g
  let sled := granuleSled g
  let t := 1 + 2 ^ tagFilling + (if tier = 2 then 2 ^ tagCold else 0) + (if pin then 2 ^ tagPin else 0) + g * 2 ^ 8
  let s := setTag cluster set way t s
  let dest := (s.sled sled).eid
  let tag := s.freeTag dest
  let s := sendDt sled 1 0x83 (first / 2 * 2) g (dtSlot (granuleLocal g) (s.sledEpoch sled) 0) s
  s.onDeep (fun d => { d with fills := d.fills ++ [{ cluster := cluster, set := set, way := way, granule := g, first := first / 2 * 2, tag := tag, arrived := [], metas := [], done := false, reread := false }] })

/-- Give a tile that writes a whole granule a frame without DT_READ, DIRTY at once (R297); false while there is none. -/
def grantFrame (g tier : Nat) (s : State) : State × Bool :=
  let cluster := granuleCluster g
  let set := s.frameSet g
  if s.quarantined cluster set || s.ownPoisoned (s.tagLinePa cluster set) then (s, true)
  else if !s.tagReady cluster set then (fetchTag cluster set s, false)
  else if (s.frameWay (granulePa g)).isSome then (s, true)
  else match chooseFrame cluster set s with
    | (s, some w) =>
      let s := setTag cluster set w (1 + 2 ^ tagDirty + (if tier = 2 then 2 ^ tagCold else 2 ^ tagRef) + g * 2 ^ 8)
        (s.onDeep (fun d => { d with dirtyAt := aset d.dirtyAt (cluster, set, w) s.now }))
      (onlyIf (tier == 2) (queueWriteback cluster set w) s, true)
    | (s, none) => (s, false)

/-- The fill of a granule, if one runs. -/
def State.fillOf (s : State) (g : Nat) : Option Fill := s.deep.fills.find? (fun f => f.granule == g)

/-- What a deep-window access meets. -/
inductive DeepRes where
  | ready
  | wait
  /-- The deep wait queue is full: RETRY (R295). -/
  | full
  /-- A quarantined set: POISONED (R342). -/
  | poisoned
deriving DecidableEq, Repr

/-- A tiered access sets REF of its granule's frame and clears COLD (R299). -/
def touchFrame (g way tier : Nat) (s : State) : State :=
  let cluster := granuleCluster g
  let set := s.frameSet g
  let t := s.tag cluster set way
  let t' := if tier = 1 then tagPut (tagPut t tagRef true) tagCold false else t
  if t' = t then s else setTag cluster set way t' s

/-- Bring a granule in: a fill is joined or started; where no frame, sled or fill is free the access waits (R295, R298, R312), as it does
until the set's tag line has been read.  A Varisk that does not own the pool asks a sled for no granule (R309). -/
def missGranule (g first tier : Nat) (pin : Bool) (s : State) : State :=
  let cluster := granuleCluster g
  let set := s.frameSet g
  if !s.tagReady cluster set then fetchTag cluster set s else
  let s := bump .deepMisses cluster s
  if (s.fillOf g).isSome || s.standby || !s.reachable (granuleSled g) || decide ((s.deep.fills.filter (fun f => f.cluster == cluster)).length ≥ 64) then s
  else match chooseFrame cluster set s with
    | (s, some w) => startFill g set w first tier pin s
    | (s, none) => s

/-- A deep-window access to a line, its set's tag line first (R292, R295, R296, R298, R342).  A read of a granule in FILLING waits for its line's unit, a
write for the whole fill. -/
def deepAccess (line : Nat) (write : Bool) (tier waiting : Nat) (s : State) : State × DeepRes :=
  let pa := line * 128
  let g := granuleOf pa
  let cluster := homeCluster pa
  let set := s.frameSet g
  if s.quarantined cluster set || s.ownPoisoned (s.tagLinePa cluster set) then (quarantine cluster set s, .poisoned)
  else if !s.tagReady cluster set then
    if waiting ≥ 1024 then (bump .deepRetries cluster s, .full) else (bump .deepParks cluster (fetchTag cluster set s), .wait)
  else match s.frameWay pa with
    | some w =>
      if tagHas (s.tag cluster set w) tagFilling then
        let s := touchFrame g w tier s
        match s.fillOf g with
        | some f => if !write && f.arrived.contains (pa % 65536 / 128) then (s, .ready) else if waiting ≥ 1024 then (bump .deepRetries cluster s, .full) else (s, .wait)
        | none => (s, .wait)
      else (bump .deepHits cluster (touchFrame g w tier s), .ready)
    | none =>
      if waiting ≥ 1024 then (bump .deepRetries cluster s, .full)
      else (bump .deepParks cluster (missGranule g (pa % 65536 / 128) tier false s), .wait)

end Sys2Proof.Machine
end

