-- ==== Sys2Proof/Machine/OpsOwn.lean ====
section
/-!
DEFINITION. Machine/OpsOwn.lean: the accesses to pool memory that are not a partner's requests: those of recipe tiles, of kernel threads
and of the Varisk itself.  Their place at the directory (R250, R256, R257), translation that brings in the nodes it needs, the end of
GEN_SETTLE for them (R218), and the fault queues (R226 to R229).
-/
namespace Sys2Proof.Machine

/-! ### What an access asks of a line (R235, R237, R250) -/

/-- What an access asks of a line's holders. -/
inductive LineAcc where
  | rdShared
  | rdUnique
  | uncached
  | write
  | upgrade
deriving DecidableEq, Repr

/-- The access of an opcode. -/
def accOf (op : Nat) : LineAcc :=
  if op = 0x10 then .rdShared else if op = 0x11 then .rdUnique else if op = 0x12 ∨ op = 0x60 then .uncached
  else if op = 0x17 then .upgrade else .write

/-- The recall an access needs first: SNP_DOWN or SNP_INV, and its targets (R250). -/
def State.recallNeed (s : State) (line : Nat) (acc : LineAcc) (r : Option Nat) : Option (Bool × List Nat) :=
  match s.entry line with
  | none => none
  | some e =>
    let others := (s.holders line e).filter (fun h => some h != r)
    let mine := match r with | some x => e.has x | none => false
    match e.st, acc with
    | .shared, .rdUnique => if others.isEmpty && !e.coarse then none else some (false, others)
    | .shared, .write => some (false, s.holders line e)
    | .shared, .upgrade => if mine && (!others.isEmpty || e.coarse) then some (false, others) else none
    | .shared, _ => none
    | .exclusive, .rdShared => if mine then none else some (true, e.ptrs)
    | .exclusive, .rdUnique => if mine then none else some (false, e.ptrs)
    | .exclusive, .write => some (false, e.ptrs)
    | .exclusive, _ => none
    | .modified, .rdShared => if mine then none else some (true, e.ptrs)
    | .modified, .uncached => if mine then none else some (true, e.ptrs)
    | .modified, .rdUnique => if mine then none else some (false, e.ptrs)
    | .modified, .write => some (false, e.ptrs)
    | .modified, .upgrade => none

/-! ### Accesses that are not requests (R250, R256, R257) -/

/-- Who such an access is of: the number that stands for its source, its tag, and its priority value: a slot, or 8,192 for an internal
source. -/
structure AccBy where
  src  : Nat
  tag  : Nat
  prio : Nat
deriving DecidableEq, Repr

/-- The accesses of the recipe tile on a core. -/
def AccBy.tile (core slot : Nat) : AccBy := { src := 2 ^ 18 + 4 * core, tag := 0, prio := slot }
/-- The write of a PUBLISH to its record (R264 step 5): compare and write are one access. -/
def AccBy.publish (core slot : Nat) : AccBy := { src := 2 ^ 18 + 4 * core, tag := 2 ^ 40, prio := slot }
/-- Access `n` of a kernel thread. -/
def AccBy.kernel (core thread n slot : Nat) : AccBy := { src := 2 ^ 18 + 4 * core, tag := 1 + thread + 64 * n, prio := slot }
/-- The completion record, or the stage area, of a recipe. -/
def AccBy.recipe (id slot : Nat) : AccBy := { src := 2 ^ 18 + 4 * id + 1, tag := 0, prio := slot }
/-- The arrival of an ALLREDUCE-STAGE that is not accepted yet. -/
def AccBy.arrival (src tag slot : Nat) : AccBy := { src := 2 ^ 18 + 4 * src + 2, tag := tag, prio := slot }
/-- A write of the Varisk's own: a fault record or a PRODUCER. -/
def AccBy.own : AccBy := { src := 2 ^ 18 + 3, tag := 0, prio := 8192 }
/-- The parameter line and the record that a RECIPE reads before it is accepted (R355). -/
def AccBy.params (src tag slot : Nat) : AccBy := { src := 2 ^ 18 + 4 * src + 2, tag := tag, prio := slot }
/-- The lines of a kernel image (R458). -/
def AccBy.load : AccBy := { src := 2 ^ 18 + 3, tag := 1, prio := 8192 }
/-- The lines a resync's sweep of a die reads (R490). -/
def AccBy.sweep (die : Nat) : AccBy := { src := 2 ^ 18 + 3, tag := 2 + die, prio := 8192 }
/-- The lines that a tensor dump streams (R636). -/
def AccBy.dump (n : Nat) : AccBy := { src := 2 ^ 18 + 3, tag := 4 + n, prio := 8192 }

/-- Whether what a source and tag stand for still waits: a request always does, an access while its tile, thread, recipe or operation
is there. -/
def State.accessLive (s : State) (src tag : Nat) : Bool :=
  let x := (src - 2 ^ 18) / 4
  if src < 2 ^ 18 then true
  else match src % 4 with
    | 0 => (match (aget s.core.cores x).bind Core.run with
      | none => false
      | some t => tag == 0 || decide (2 ^ 40 ≤ tag)
          || ((aget t.threads ((tag - 1) % 64)).map (fun y => y.accesses.any (fun a => a.n == (tag - 1) / 64))).getD false)
    | 1 => s.recp.recipes.any (fun r => r.id == x)
    | 2 => s.txn.reqs.any (fun q => q.src == x && q.tag == tag)
    | _ => if tag = 0 then !s.part.ownWrites.isEmpty else if tag = 1 then s.kodp.queue.any (fun e => e.2.index == 0x1A20)
      else if tag < 4 then s.twin.resync.isSome else s.obs.dumps.any (fun d => d.number + 4 == tag && d.st == .streaming)

/-- Whether a line that such an access has recalled stays its own until it completes (R253): it does for an access of one line, but not for
those of tiles and recipes, which make all their lines ready before they use one (log 154). -/
def accessClaims (src tag : Nat) : Bool := (src % 4 == 0 && tag != 0) || (src % 4 == 3 && tag == 0)

/-- The aged lane of a line (R257). -/
def State.agedAt (s : State) (line : Nat) : List (Nat × Nat × Nat) := s.dir.aged.filter (fun a => a.1 == line && s.accessLive a.2.1 a.2.2)

/-- The accesses parked at a line. -/
def State.accessesAt (s : State) (line : Nat) : List LineAccess := s.dir.accesses.filter (fun a => a.line == line && s.accessLive a.src a.tag)

/-- Whether a line is kept from a request or access: it is AGED for others (R257), or another's until that completes (R253). -/
def State.keptFrom (s : State) (line src tag : Nat) : Bool :=
  let aged := s.agedAt line
  (!aged.isEmpty && !aged.contains (line, src, tag)) || (s.accessesAt line).any (fun a => a.claim && !(a.src == src && a.tag == tag))

/-- Whether the last commit of a line waits for the standby: what has not taken effect is not read or written over (R469). -/
def State.unmirrored (s : State) (line : Nat) : Bool :=
  match s.storeOf line with
  | some l => s.twin.unacked.any (fun u => u.line == some l)
  | none => false

/-- The slice of a line: its home die and the hidden hash (R43). -/
def sliceOf (line : Nat) : Nat := homeDie (line * 128) * 32 + Config.sliceHash line % 32

/-- Whether the crossbar holds what is not parked: the slice's park buffer of 512 is full, or another is held for the slice before it
(R256). -/
def State.crossbarHolds (s : State) (line src tag : Nat) : Bool :=
  let slice := sliceOf line
  let held := s.dir.heldAt.filter (fun h => sliceOf h.1 == slice && s.accessLive h.2.1 h.2.2)
  let parked := (s.txn.reqs.filter (fun x => x.phase == .parked && sliceOf (x.pa / 128) == slice)).length
    + (s.dir.accesses.filter (fun a => sliceOf a.line == slice && s.accessLive a.src a.tag)).length
  decide (parked ≥ 512) || (match held.head? with | some h => h != (line, src, tag) | none => false)

/-- The crossbar holds a request or access (R256). -/
def holdAtCrossbar (line src tag : Nat) (s : State) : State :=
  s.onDir (fun d => { d with heldAt := if d.heldAt.contains (line, src, tag) then d.heldAt else d.heldAt ++ [(line, src, tag)] })

/-- The crossbar holds it no longer. -/
def leaveCrossbar (line src tag : Nat) (s : State) : State :=
  s.onDir (fun d => { d with heldAt := d.heldAt.filter (fun h => h != (line, src, tag)) })

/-- AGED clears when the aged lane is empty (R257). -/
def settleAged (line : Nat) (s : State) : State :=
  if !(s.agedAt line).isEmpty then s
  else match s.entry line with
    | some e => if e.aged then putEntry line { e with aged := false } s else s
    | none => s

/-- What waits at a line has lost it often enough: it enters the aged lane (R257). -/
def enterAged (line src tag losses : Nat) (s : State) : State :=
  if losses ≥ s.obj .ageThreshold && !s.dir.aged.contains (line, src, tag) then
    match s.entry line with
    | some e => bump .agedEntries (homeDie (line * 128)) (putEntry line { e with aged := true } (s.onDir (fun d => { d with aged := d.aged ++ [(line, src, tag)] })))
    | none => s
  else s

/-- Keep an access at its line: its stamp is that of its first try (R256). -/
def keepAccess (b : AccBy) (line : Nat) (write : Bool) (s : State) : State :=
  if s.dir.accesses.any (fun a => a.line == line && a.src == b.src && a.tag == b.tag) then s
  else s.onDir (fun d => { d with accesses := d.accesses ++ [{ line := line, src := b.src, tag := b.tag, stamp := s.timeOf (homeDie (line * 128)) % 2 ^ 48,
                                                                prio := b.prio, write := write, losses := 0, claim := false }] })

/-- Park an access (R256). -/
def parkAccess (b : AccBy) (line : Nat) (write : Bool) (s : State) : State :=
  if s.dir.accesses.any (fun a => a.line == line && a.src == b.src && a.tag == b.tag) then s
  else bump .parks (homeDie (line * 128)) (keepAccess b line write s)

/-- An access is done at its line. -/
def endLineAccess (b : AccBy) (line : Nat) (s : State) : State :=
  if s.dir.accesses.isEmpty && s.dir.heldAt.isEmpty then s else
  settleAged line (leaveCrossbar line b.src b.tag (s.onDir (fun d => { d with
    accesses := d.accesses.filter (fun a => !(a.line == line && a.src == b.src && a.tag == b.tag))
    aged := d.aged.filter (fun a => a != (line, b.src, b.tag)) })))

/-- How the accesses a tile or a recipe needs of one line stand. -/
inductive LineReady where
  | ready
  /-- A fill or a recall has to end first. -/
  | wait
  | fail (st : Status)
deriving DecidableEq, Repr

/-- The epoch that an access carries: that of the core which issues it, 0 where none does (R589). -/
def State.accessEpoch (s : State) (src : Nat) : Nat := if 2 ^ 18 ≤ src ∧ src % 4 = 0 then (s.unit .core ((src - 2 ^ 18) / 4)).epoch else 0

/-- Bring in the data an access needs where the pantry misses it (R49, R53, R275): it waits for the line's read, which does not fill the
pantry (R43).  A miss on a channel out of service meets RETRY, on one in a partition reset ABORTED (R586, R598). -/
def fetchLine (b : AccBy) (line : Nat) (s : State) : State × LineReady :=
  match s.storeOf line with
  | none => (s, .ready)
  | some l =>
    let ch := channelOfPa (l * 128)
    if (s.lineMeta l).inPantry then (pantryUse l s, .ready)
    else if s.lineFailed line || s.dram.returned.contains (l, b.src, b.tag) then (s, .ready)
    else if (s.unit .channel ch).st = .out then (s, .fail .retry)
    else if (s.unit .channel ch).st = .resetting then (s, .fail .aborted)
    else
      let cause := DramCause.access b.src b.tag (s.accessEpoch b.src)
      if (s.channel ch).reqs.any (fun r => r.line == l && r.cause == cause) || s.integ.repairs.any (fun r => r.line == l && r.cause == cause) then (s, .wait)
      else (dramPush l false .normal cause s, .wait)

/-- What an access reads has come from DRAM; what nobody waits for any more is forgotten. -/
def noteReturned (l src tag : Nat) (s : State) : State :=
  s.onDram (fun d => { d with returned := d.returned.filter (fun x => s.accessLive x.2.1 x.2.2) ++ [(l, src, tag)] })

/-- The lines an access had read are used. -/
def useReturned (src tag : Nat) (s : State) : State :=
  if s.dram.returned.isEmpty then s else s.onDram (fun d => { d with returned := d.returned.filter (fun x => !(x.2.1 == src && x.2.2 == tag)) })

/-- The directory's part of an access to a line (R250, R256): parked while the line is Recalling or kept from it, ready when no holder is
in the way of an uncached read or of a write, and its data is at hand where `fetch` says that it is read; a recall it needs is started. -/
def orderAccess (b : AccBy) (line : Nat) (write fetch : Bool) (s : State) : State × LineReady :=
  let go (s : State) : State × LineReady :=
    match (if fetch then fetchLine b line s else (s, .ready)) with
    | (s, .ready) => (endLineAccess b line s, .ready)
    | r => r
  let mine := s.dir.accesses.find? (fun a => a.line == line && a.src == b.src && a.tag == b.tag)
  if s.unmirrored line then (s, .wait)
  else if mine.isNone && s.crossbarHolds line b.src b.tag then (holdAtCrossbar line b.src b.tag s, .wait)
  else
    let s := leaveCrossbar line b.src b.tag s
    if s.recalling line || s.keptFrom line b.src b.tag then (parkAccess b line write s, .wait)
    else match s.recallNeed line (if write then .write else .uncached) none with
      | some (down, targets) =>
        let s := startRecall line down targets (if down then 1 else 2) [] (.access b.src b.tag) (keepAccess b line write s)
        if s.recalling line then (s, .wait) else go s
      | none => go s

/-- An access waits for a granule no longer. -/
def unseek (b : AccBy) (g : Nat) (s : State) : State :=
  if s.deep.seekers.isEmpty then s else s.onDeep (fun d => { d with seekers := d.seekers.filter (fun x => !(x.1 == g && x.2.1 == b.src && x.2.2.1 == b.tag)) })

/-- An access waits for a granule; those that are no more are forgotten. -/
def seek (b : AccBy) (g : Nat) (s : State) : State :=
  let s := unseek b g s
  s.onDeep (fun d => { d with seekers := d.seekers.filter (fun x => s.accessLive x.2.1 x.2.2.1) ++ [(g, b.src, b.tag, none)] })

/-- The code that has ended the wait of an access for a granule (R307, R312). -/
def State.sought (s : State) (b : AccBy) (g : Nat) : Option Status :=
  (s.deep.seekers.find? (fun x => x.1 == g && x.2.1 == b.src && x.2.2.1 == b.tag)).bind (fun x => x.2.2.2)

/-- Make a line of the deep window ready for such an access: its granule resident, then free at the directory (R295). -/
def residentFirst (b : AccBy) (line tier : Nat) (write fetch : Bool) (s : State) : State × LineReady :=
  let g := granuleOf (line * 128)
  match deepAccess line write tier (s.deep.waiting.filter (fun w => w.1 == homeCluster (line * 128))).length s with
  | (s, .ready) => orderAccess b line write fetch (unseek b g s)
  | (s, .wait) => (seek b g s, .wait)
  | (s, .full) => (unseek b g s, .fail .retry)
  | (s, .poisoned) => (unseek b g s, .fail .poisoned)

/-- Make a line ready for such an access (R250, R295): resident, free at the directory, and read where its data is needed.  The end of a
fill, or 2 ms of a port that is Down, end its wait for the granule (R307, R312). -/
def readyLine (b : AccBy) (line tier : Nat) (write fetch : Bool) (s : State) : State × LineReady :=
  if isDeepPa (line * 128) then
    let g := granuleOf (line * 128)
    match s.sought b g with
    | some st => (unseek b g s, .fail st)
    | none => residentFirst b line tier write fetch s
  else orderAccess b line write fetch s

/-- A parked access is presented at its line (R256): it starts the recall it needs; where the line has been taken it has lost. -/
def presentAccess (a : LineAccess) (s : State) : State :=
  let die := homeDie (a.line * 128)
  if s.recalling a.line || s.keptFrom a.line a.src a.tag then
    bump .losses die (enterAged a.line a.src a.tag (a.losses + 1)
      (s.onDir (fun d => { d with accesses := d.accesses.map (fun x => if x = a then { a with losses := a.losses + 1 } else x) })))
  else match s.recallNeed a.line (if a.write then .write else .uncached) none with
    | some (down, targets) => startRecall a.line down targets (if down then 1 else 2) [] (.access a.src a.tag) s
    | none => s

/-! ### The Varisk's own writes (R226, R250) -/

/-- The own writes whose lines are free, in order: each recalls its line's holders first (R226).  One to capacity that is absent, or to a
quarantined set, is lost. -/
def flushOwn : Nat → State → State
  | 0, s => s
  | n + 1, s =>
    match s.part.ownWrites with
    | [] => s
    | w :: rest =>
      let skip (s : State) : State := s.onPart (fun p => { p with ownWrites := rest })
      if !s.paPresent w.pa 1 then flushOwn n (skip s)
      else match readyLine AccBy.own (w.pa / 128) 1 true (decide (w.bytes.length < 128)) s with
        | (s, .ready) => flushOwn n (writeOwn w.pa w.bytes (dropEntry (w.pa / 128) (skip (useReturned AccBy.own.src AccBy.own.tag s))))
        | (s, .wait) => s
        | (s, .fail .retry) => s
        | (s, .fail _) => flushOwn n (skip s)

/-- Order what own writes can be ordered now. -/
def runOwn (s : State) : State := if s.part.ownWrites.isEmpty then s else flushOwn (s.part.ownWrites.length + 1) s

/-! ### Translation for a request or tile (R218, R295) -/

/-- `translate`, with the granule of a node that is not resident brought in (R295): the translation waits for it meanwhile. -/
def xlate (die ctx addr : Nat) (need : List Nat) (write : Bool) (s : State) : State × XRes :=
  match translate die ctx addr need write s with
  | (s, .settle f (some g)) => (if (s.fillOf g).isSome then s else missGranule g 0 1 false s, .settle f (some g))
  | r => r

/-- The number of a core's recipe tile among those that wait for a context. -/
def settleTile (core : Nat) : Nat := 128 * core + 127
/-- The number of a core's kernel thread. -/
def settleThread (core thread : Nat) : Nat := 128 * core + thread
/-- The number of KERNEL_LOAD. -/
def settleLoad : Nat := 2 ^ 20

/-- A tile, thread or KERNEL_LOAD meets a context that settles, or a node that is not resident: it waits from the first time on, and after
GEN_SETTLE, or 2 ms for a node, meets the fault (R218, R312). -/
def settleFor (who ctx : Nat) (f : XFault) (granule : Option Nat) (s : State) : State × Option XFault :=
  let since := agetD s.part.settles (who, ctx) s.now
  let limit := match granule with | none => s.obj .genSettle * 1000 | some _ => 2000000
  if s.now - since ≥ limit ∧ (ahas s.part.settles (who, ctx) = true ∨ limit = 0) then (s.onPart (fun p => { p with settles := adel p.settles (who, ctx) }), some f)
  else (s.onPart (fun p => { p with settles := aset p.settles (who, ctx) since }), none)

/-- What waits no longer. -/
def settled (who ctx : Nat) (s : State) : State :=
  if ahas s.part.settles (who, ctx) then s.onPart (fun p => { p with settles := adel p.settles (who, ctx) }) else s

/-! ### Fault queues (R226 to R229) -/

/-- Who met a fault: SLOT, SOURCE, OPCODE, SRC_EID and TAG of R227. -/
structure FaultBy where
  slot   : Nat
  source : Nat
  opcode : Nat
  eid    : Nat
  tag    : Nat
deriving DecidableEq, Repr

/-- The fault record of R227. -/
def faultRecord (s : State) (by_ : FaultBy) (ctx addr : Nat) (x : XFault) (seq : Nat) : List Byte :=
  leBytes 64 (addr + ctx * 2 ^ 64 + x.status.code * 2 ^ 80 + x.reason * 2 ^ 88 + by_.slot * 2 ^ 96 + by_.source * 2 ^ 112
    + by_.opcode * 2 ^ 120 + by_.eid * 2 ^ 128 + by_.tag * 2 ^ 148 + bits addr 60 4 * 2 ^ 160 + x.level * 2 ^ 164 + x.pva * 2 ^ 192
    + x.gen * 2 ^ 256 + agetD s.part.gens ctx 0 * 2 ^ 288 + s.now * 2 ^ 320 + seq * 2 ^ 384)

/-- The queue of a context: base and depth. -/
def State.faultQueue (s : State) (ctx : Nat) : Nat × Nat :=
  if ctx = 0 then (s.obj .managerFqBase, 12)
  else match aget s.part.ctxCache (0, ctx), aget s.part.ctxCache (1, ctx) with
    | some d, _ => (d.fqBase, d.fqLog)
    | none, some d => (d.fqBase, d.fqLog)
    | none, none => let d := s.readDesc ctx; (d.fqBase, d.fqLog)

/-- The PRODUCER of a queue, with its writes that wait for their line (R226). -/
def State.producer (s : State) (base : Nat) : Nat :=
  match s.part.ownWrites.reverse.find? (fun w => w.pa == base) with
  | some w => leNat w.bytes
  | none => leNat (s.ownBytes base 4)

/-- Record a fault (R226, R228, R229): the code to answer is the fault's, or RETRY where the queue is full.  A queue that does not lie in
present capacity takes no record, as one with no base (log 153). -/
def recordFault (by_ : FaultBy) (ctx addr : Nat) (x : XFault) (s : State) : State × Status :=
  if !x.recorded then (onlyIf (x.status == .xlateFault && decide (by_.source ≤ 2)) (bump .unqueuedFaults by_.slot) s, x.status) else
  let base := (s.faultQueue ctx).1
  let log := (s.faultQueue ctx).2
  if base = 0 ∨ s.paPresent base 1 = false then (bump .unqueuedFaults by_.slot s, x.status) else
  let prod := s.producer base
  let used := (prod + 2 ^ 32 - leNat (s.ownBytes (base + 128) 4)) % 2 ^ 32
  if s.ownPoisoned (base + 128) || decide (used ≥ 2 ^ log) then
    let first := !s.part.fqSticky.contains ctx
    let s := bump .fqOverflow ctx (s.onPart (fun p => { p with fqSticky := if first then p.fqSticky ++ [ctx] else p.fqSticky }))
    (onlyIf first (fun s => notify 0x1405 (leBytes 2 ctx ++ leBytes 8 (s.ctr .fqOverflow ctx)) s) s, .retry)
  else
    let s := bump .faultsRecorded ctx s
    let rec_ : OwnWrite := { pa := base + 256 + prod % 2 ^ log * 64, bytes := faultRecord s by_ ctx addr x (s.ctr .faultsRecorded ctx) }
    let s := runOwn (s.onPart (fun p => { p with ownWrites := p.ownWrites ++ [rec_, { pa := base, bytes := leBytes 4 ((prod + 1) % 2 ^ 32) }] }))
    (onlyIf (used == 0) (notifyLimited 0x1404 ctx 100000 (fun _ => leBytes 2 ctx ++ leBytes 4 ((prod + 1) % 2 ^ 32))) s, x.status)

end Sys2Proof.Machine
end

