-- ==== Sys2Proof/Machine/OpsTxn.lean ====
section
/-!
DEFINITION. Machine/OpsTxn.lean: fabric packets on arrival, answers and the ledger, policing, acceptance, pairing, order at the
home directory and the line-state table (R143 to R182, R224, R225, R234 to R257, R501 to R515, R564 to R569).
-/
namespace Sys2Proof
open Machine

/-! ### Fields of a packet (R153, R154) -/

/-- ADDR of the address slot. -/
def Packet.addr (p : Packet) : Nat := leNat (p.body.take 8)
/-- SIZE of the address slot, 0 meaning 128. -/
def Packet.size (p : Packet) : Nat := let n := leNat ((p.body.drop 8).take 1); if n = 0 then 128 else n
/-- SUBOP of the address slot. -/
def Packet.subop (p : Packet) : Nat := leNat ((p.body.drop 9).take 1)
/-- STASH_SLOT of the address slot. -/
def Packet.stashSlot (p : Packet) : Nat := bits (leNat ((p.body.drop 10).take 2)) 0 13
/-- STASH_STATE of the address slot. -/
def Packet.stashState (p : Packet) : Nat := bits (leNat ((p.body.drop 10).take 2)) 13 2
/-- Slots of a packet without the tag slot of ENC (R155). -/
def Packet.plainSlots (p : Packet) : Nat := p.slots - (if p.enc then 1 else 0)

/-- VC and allowed slots of each fabric opcode a partner sends (R156).  An opcode that R156 has only the Varisk send is taken as a
reserved one when it comes from a partner: the rule does not say (DESIGN CHOICE, log 152). -/
def opShape (op : Nat) : Option (Nat × Nat × Nat) :=
  match op with
  | 0x01 => some (0, 3, 3) | 0x03 => some (0, 1, 1) | 0x05 => some (0, 1, 1) | 0x07 => some (0, 1, 1) | 0x08 => some (0, 2, 2)
  | 0x10 => some (1, 2, 2) | 0x11 => some (1, 2, 2) | 0x12 => some (1, 2, 2) | 0x13 => some (1, 2, 2) | 0x14 => some (1, 2, 2)
  | 0x15 => some (1, 2, 2) | 0x16 => some (1, 2, 2) | 0x17 => some (1, 2, 2) | 0x18 => some (1, 2, 2)
  | 0x22 => some (2, 1, 1) | 0x23 => some (2, 1, 1) | 0x25 => some (2, 1, 1)
  | 0x40 => some (4, 2, 9) | 0x41 => some (4, 9, 9) | 0x42 => some (4, 9, 9) | 0x43 => some (4, 2, 2)
  | 0x50 => some (5, 5, 5) | 0x54 => some (5, 1, 1) | 0x60 => some (6, 2, 2) | 0x70 => some (7, 2, 32)
  | _ => none

/-- Whether a packet of an opcode is a request that expects a response (R156). -/
def expectsResponse (op : Nat) : Bool :=
  [0x01, 0x03, 0x05, 0x10, 0x11, 0x12, 0x13, 0x14, 0x15, 0x16, 0x17, 0x18, 0x50, 0x54, 0x60, 0x70].contains op

/-- Whether an opcode has an address slot (R154). -/
def hasAddr (op : Nat) : Bool := [0x10, 0x11, 0x12, 0x13, 0x14, 0x15, 0x16, 0x17, 0x18, 0x60].contains op

/-- Whether an opcode is a data half (R160). -/
def isHalf (op : Nat) : Bool := [0x40, 0x41, 0x42, 0x43].contains op

/-- Whether a request is sent with a data half (R160). -/
def needsHalf (op : Nat) : Bool := [0x13, 0x14, 0x15, 0x18].contains op

/-- Whether the address slot of a packet is malformed (R154, R158, R161, R162). -/
def Packet.addrBad (p : Packet) : Bool :=
  if !hasAddr p.op then false else
    (p.op == 0x14 && decide (p.addr % 128 + p.size > 128))
      || (p.op == 0x18 && (p.addr % 8 != 0 || p.subop == 0 || decide (p.subop > 10)))
      || (p.op != 0x14 && p.op != 0x18 && p.addr % 128 != 0)
      || p.stashState == 3 || (p.op != 0x13 && p.op != 0x14 && p.stashState != 0)

/-- Whether a fabric packet is malformed (R155, R158). -/
def Packet.malformed (p : Packet) : Bool :=
  match opShape p.op with
  | none => true
  | some (vc, lo, hi) =>
    p.vc != vc || decide (p.plainSlots < lo) || decide (p.plainSlots > hi) || decide (p.slots > 32)
      || (p.enc && (vc == 0 || vc == 1 || vc == 2 || vc == 7)) || p.addrBad

/-- VC and allowed slots of the opcodes of DP ports (R304) and of TW ports (R465, R657; CMP answers what was malformed, R158). -/
def linkShape (port op : Nat) : Option (Nat × List Nat) :=
  if isDeepPort port then
    match op with
    | 0x80 => some (0, [1]) | 0x81 => some (0, [2]) | 0x82 => some (0, [2]) | 0x83 => some (1, [2]) | 0x84 => some (1, [2])
    | 0x85 => some (1, [2]) | 0x86 => some (0, [1]) | 0x88 => some (3, [17]) | 0x89 => some (4, [17])
    | _ => none
  else if isTwinPort port then
    match op with
    | 0x06 => some (0, [1]) | 0x70 => some (7, (List.range 31).map (· + 2))
    | 0xA0 => some (0, [3]) | 0xA1 => some (0, [2]) | 0xA2 => some (0, [2]) | 0xA3 => some (0, [2]) | 0xA4 => some (4, [10])
    | 0xA5 => some (1, (List.range 30).map (· + 3)) | 0xA6 => some (3, [11, 19, 27]) | 0xA7 => some (1, [2]) | 0xA8 => some (3, [10])
    | 0xA9 => some (0, [1])
    | _ => none
  else none

/-- Whether a packet on a DP or TW port is malformed (R155, R157, R158, R304, R465). -/
def Packet.linkMalformed (p : Packet) (port : Nat) : Bool :=
  match linkShape port p.op with
  | none => true
  | some (vc, slots) => p.vc != vc || !slots.contains p.plainSlots || (p.enc && (isTwinPort port || vc == 0 || vc == 1))

/-- Whether a packet on a TW port is a request that expects a response of its own: RP_REQ and KODP (R465). -/
def linkExpects (op : Nat) : Bool := op == 0xA7 || op == 0x70

/-- The slots a request is charged (R508). -/
def Packet.charge (p : Packet) : Nat :=
  match p.op with
  | 0x14 => 2 + (p.addr % 16 + p.size + 15) / 16
  | 0x18 => 6 | 0x16 => 2 | 0x17 => 2 | 0x50 => 5 | 0x54 => 1
  | _ => 11

end Sys2Proof

namespace Sys2Proof.Machine

/-! ### Answers (R156, R164, R176, R177, R182, R566) -/

/-- Slot 1 of RECIPE_DONE at its reset values (R357). -/
def doneReset : List Byte := leBytes 16 0xFFFFFF

/-- The packet that answers a request with a bare status: RECIPE_DONE for RECIPE (R355), ATTACH_ACK for ATTACH (R189), CMP
otherwise (R158, R225). -/
def statusPacket (p : Packet) (st : Status) (harg : Nat) : Packet :=
  if p.op = 0x50 then mkPacket 5 0x52 p.src p.dest p.tag st.code 0 false doneReset
  else if p.op = 0x01 then mkPacket 0 0x02 p.src p.dest p.tag st.code 0 false (padTo 16 (p.body.take 8))
  else mkPacket 0 0x06 p.src p.dest p.tag st.code harg false []

/-- A final response to an EID bound to a job advances the exchange's tag generation (R566). -/
def finalGen (eid tag : Nat) (s : State) : State := onlyIf (s.jobOf eid).isSome (advanceGen eid 0 tag) s

/-- Answer a request that is not, or not yet, accepted: the answer is final, ledgered where its opcode is, unless RETRY. -/
def answerNow (p : Packet) (st : Status) (s : State) : State :=
  finalGen p.src p.tag (sendPacket (statusPacket p st 0) (ledgerFinal p st 0 0 s))

/-- Whether a tenant is sealed (R551). -/
def State.isSealed (s : State) (tenant : Nat) : Bool := ((aget s.sec.tenants tenant).map Tenant.sealed).getD false

/-- Answer a resend that does not match its ledger entry: ABORTED, and the entry stays (R175; R177 names the use of the tag with
RESEND = 0 as what overwrites it; DEDUCED, log 152). -/
def answerMismatch (p : Packet) (s : State) : State := finalGen p.src p.tag (sendPacket (statusPacket p .aborted 0) s)

/-- Whether a recorded response has never been sent under a key that is still there: an epoch change or the end of an older generation has
set the tag generation to 0 (R566, R568; log 166). -/
def State.firstSending (s : State) (eid tag : Nat) : Bool := s.tagGenOf eid 0 tag == 0 && (s.olderKey eid).isNone

/-- The key and the tag generation that a recorded response was first sent with (R566): of the older key generation where its tag has not
been used under the one in use (R568). -/
def State.sentUnder (s : State) (eid tag : Nat) : Option (Nat × Nat) :=
  match s.tagGenOf eid 0 tag, s.olderKey eid with
  | 0, some o => some (o, genBefore (s.tagGenOlder eid 0 tag))
  | g, _ => (s.linkKey eid).map (fun k => (k, if s.firstSending eid tag then g else genBefore g))

/-- A packet that belongs to a data answer sent again, as it was first sent: encrypted under the generation before the one its final
response advanced to, where the segment the request names is a sealed tenant's (R566, R569). -/
def State.sealAgain (s : State) (req p : Packet) : Packet :=
  let sealed := match s.segmentNow req.harg req.addr with
    | some (_, tenant, _) => s.isSealed tenant
    | none => true
  match s.sentUnder p.dest p.tag with
  | some (k, g) => if sealed then sealWith k g 0 p else p
  | none => p

/-- The recorded response sent again (R175, R176): under the generation it was first sent with, which it does not advance but where it has
not been sent under this key (R566; log 166). -/
def replayResponse (p : Packet) (e : LedgerEntry) (s : State) : State :=
  let st := Status.ofCode e.status
  let pk := if p.op = 0x18 ∧ (e.status = 0 ∨ e.status = 2) then
      s.sealAgain p (mkPacket 3 0x31 p.src p.dest p.tag e.status 0 (e.status == 2) (leBytes 16 e.result))
    else if p.op = 0x01 then
      match s.slotOfEid p.src with
      | some slot => let r := aget s.part.slots slot
        mkPacket 0 0x02 p.src p.dest p.tag e.status e.harg false (if st = .ok then
          leBytes 16 (leNat (p.body.take 8) + ((r.map Slot.caps).getD 0) * 2 ^ 64 + 1000 * 2 ^ 80 + 8000 * 2 ^ 96) else padTo 16 (p.body.take 8))
      | none => statusPacket p st e.harg
    else statusPacket p st e.harg
  onlyIf (s.firstSending p.src p.tag) (finalGen p.src p.tag) (sendPacket pk s)

/-- The request outstanding under a source and tag. -/
def State.request (s : State) (src tag : Nat) : Option Request := s.txn.reqs.find? (fun q => q.src == src && q.tag == tag)

/-- Change an outstanding request. -/
def setRequest (src tag : Nat) (f : Request → Request) (s : State) : State :=
  s.onTxn (fun t => { t with reqs := t.reqs.map (fun q => if q.src = src ∧ q.tag = tag then f q else q) })

/-- Take a request out, with its eviction's index entry (R252). -/
def dropRequest (src tag : Nat) (s : State) : State :=
  let s := s.onTxn (fun t => { t with reqs := t.reqs.filter (fun q => !(q.src == src && q.tag == tag)) })
  s.onDir (fun d => { d with evicts := d.evicts.filter (fun v => !(v.src == src && v.tag == tag))
                             heldAt := d.heldAt.filter (fun h => h.2 != (src, tag))
                             aged := d.aged.filter (fun a => !(a.2.1 == src && a.2.2 == tag)) })

/-- Send the final response of an accepted request: discarded for a slot in Lost or freed since (R182, R200). -/
def sendFinal (q : Request) (pk : Packet) (s : State) : State :=
  let gone : Bool := match aget s.part.slots q.slot with
    | some r => r.eid != q.src || r.st == .lost || r.st == .quarantine
    | none => true
  finalGen q.src q.tag (if gone then bump .discardedResponses q.port s else sendPacket pk s)

/-- The line of a request. -/
def Request.line (q : Request) : Nat := q.pa / 128

/-- The line a hinted write committed is stashed, or the hint dropped (R255, R569). -/
def stashHint (q : Request) (s : State) : State :=
  let die := homeDie q.pa
  let drop := bump .stashDropped die
  let line := q.line
  let offer := q.pkt.stashState
  if offer = 0 then s else
  let sealed := match aget s.sec.tenants q.tenant with | some t => t.sealed | none => false
  let (bad, data) := s.view line q.tenant q.keyId
  match aget s.part.slots q.pkt.stashSlot with
  | none => drop s
  | some r =>
    let aliasBad := match aget s.dir.regions (regionOf line) with
      | some g => decide (g.lines > 0) && (g.ctx != q.ctx || g.addr != q.pkt.addr / 4096)
      | none => false
    let conflict := match s.entry line with
      | some e => e.recalling || offer == 2 || e.st != .shared
      | none => false
    if bad || sealed || r.st != .active || bits r.caps 0 2 != 3 || !r.grants.contains q.ctx || aliasBad || conflict || s.room line != .ok then drop s
    else
      let addr := q.pkt.addr / 128 * 128
      let p := mkPacket 2 0x24 r.eid (s.obj .serviceEid) 0 0 q.ctx false
        (leBytes 16 (addr + q.pkt.stashSlot * 2 ^ 80 + offer * 2 ^ 93) ++ data)
      let e := match s.entry line with
        | some e => e.share q.pkt.stashSlot
        | none => mkEntry (if offer = 2 then .exclusive else .shared) q.pkt.stashSlot
      bump .stashesSent die (issuePool .stash line none p (grantEntry line q.ctx addr e s))

/-- The final response leaves: the request is done, and a hint of a write answered OK acts (R164, R255). -/
def releaseAnswer (q : Request) (pk : Packet) (s : State) : State :=
  let s := dropRequest q.src q.tag (sendFinal q pk s)
  if (q.op == 0x13 || q.op == 0x14) && q.pkt.stashState != 0 then
    (if pk.status = 0 then stashHint q s else bump .stashDropped (homeDie q.pa) s)
  else s

/-- Finish an accepted request: its ledger entry, mirrored in the stream of its line, and its response, which on an owner with
a standby waits until all that was sent to the standby is acknowledged when `hold` (R177, R469, R474, R478). -/
def finish (q : Request) (st : Status) (harg result : Nat) (pk : Packet) (hold : Bool) (s : State) : State :=
  let s := if ledgered q.op && st != .retry then
      ledgerWrite q.slot q.tag (homeDie q.pa) { fingerprint := q.pkt.crc, op := q.op, status := st.code, harg := harg, result := result } s
    else s
  let s := onlyIf (st == .poisoned) (bump .tenantPoisoned q.tenant) s
  let s := onlyIf (st == .integrity) (bump .tenantIntegrity q.tenant) s
  if hold && s.mirrors && (s.twin.mseq0 != s.twin.acked0 || s.twin.mseq1 != s.twin.acked1) then
    setRequest q.src q.tag (fun x => { x with phase := .mirror, ordered := true, answer := some pk, need0 := s.twin.mseq0, need1 := s.twin.mseq1 }) s
  else releaseAnswer q pk s

/-- End an accepted request with a bare status. -/
def finishStatus (q : Request) (st : Status) (harg : Nat) (hold : Bool) (s : State) : State :=
  finish q st harg harg (statusPacket q.pkt st harg) hold s

/-- Whether an EID holds a job key of a tenant (R569). -/
def State.holdsKey (s : State) (eid tenant : Nat) : Bool :=
  match s.jobOf eid with
  | some (_, j) => j.tenant == tenant
  | none => false

/-- A packet with a tenant's data, encrypted when the tenant is sealed (R569). -/
def State.sealFor (s : State) (tenant : Nat) (p : Packet) : Packet := if s.isSealed tenant then s.sealTo 0 p else p

/-- Answer a read: RD_DATA, or RT_DATA (R46, R156, R163, R337). -/
def finishRead (q : Request) (poison : Bool) (data : List Byte) (granted : Nat) (s : State) : State :=
  let rt := q.op == 0x60
  let st : Status := if poison then .poisoned else .ok
  let pk := mkPacket (if rt then 6 else 3) (if rt then 0x61 else 0x30) q.src q.pkt.dest q.tag st.code (if rt then 0 else granted) poison data
  finish q st granted 0 (s.sealFor q.tenant pk) (granted != 0) s

/-- Answer an ATOMIC with the old value (R162). -/
def finishAtomic (q : Request) (st : Status) (old : Nat) (hold : Bool) (s : State) : State :=
  finish q st 0 old (s.sealFor q.tenant (mkPacket 3 0x31 q.src q.pkt.dest q.tag st.code 0 (st == .poisoned) (leBytes 16 old))) hold s

/-! ### Arrival at a port (R143 to R151, R171 to R173) -/

/-- Whether fabric, deep-tier and twin packets are taken: the part is powered and not stopped, and the port is Active. -/
def State.portUp (s : State) (port : Nat) : Bool :=
  !s.pkg.poresetLow && s.pkg.stopped.isNone && s.pkg.phase != .debug && !s.frozen && (s.port port).st == .active

/-- Answer a malformed request: CMP, but for a RECIPE (R158). -/
def answerMalformed (p : Packet) (s : State) : State :=
  if p.op = 0x01 then
    finalGen p.src p.tag (sendPacket (mkPacket 0 0x06 p.src p.dest p.tag Status.unsupported.code 0 false []) (ledgerFinal p .unsupported 0 0 s))
  else answerNow p .unsupported s

/-- A packet on a fabric port (R143 to R146, R158, R171 to R173): discarded, answered, or taken by `go`.  The EIDs are looked at before
the E2E_CRC: a packet that fails both counts once, as MISDIRECTED or EID_RANGE, and draws no E2E_NAK; a SRC_EID of 0 counts as
MISDIRECTED on Compact too.  The spec orders neither (DESIGN CHOICE, log 152).  A data half that fails its CRC is handed on as it is,
and writes poison (R173). -/
def arriveFabric (port : Nat) (p : Packet) (go : Packet → State → State) (s : State) : State :=
  if !s.portUp port || !isFabric port then s
  else
    let node := s.obj .nodeEid
    let service := s.obj .serviceEid
    let announce := p.dest == 0x3FFFF && p.op == 0x08
    if node = 0 ∨ service = 0 ∨ p.src = 0 ∨ p.src ≥ 0x3FF00 then bump .misdirected port s
    else if s.compact port && (decide (p.src ≥ 0x1000) || p.dest == 0 || (decide (p.dest ≥ 0x1000) && p.dest != 0x3FFFF)) then bump .eidRange port s
    else if !(p.dest == node || p.dest == service || announce) then bump .misdirected port s
    else
      let fenced := p.dest == service && p.dest != node && s.standby
      if !p.crcGood then
        let s := bump .e2eFailures port s
        if s.compact port then
          if (s.slotOfEid p.src).isSome then bump .e2eNaksSent port (sendPacket (mkPacket 0 0x07 p.src p.dest p.tag 0 0 false []) s) else s
        else if isHalf p.op then (if fenced then s else go p s)
        else if expectsResponse p.op then answerNow p (if fenced then .fenced else .integrity) s
        else s
      else if p.malformed then
        let s := bump .malformed port s
        if expectsResponse p.op then answerMalformed p s else s
      else if fenced then (if expectsResponse p.op then answerNow p .fenced s else s)
      else go p s

/-- A packet on a DP or TW port: it is for the node EID, passes its E2E_CRC and is well formed, or it is discarded and counted; a
request that expects a response is answered CMP (R151, R157, R158, R173). -/
def arriveLink (port : Nat) (p : Packet) (go : Packet → State → State) (s : State) : State :=
  let answer (st : Status) (s : State) : State :=
    if isTwinPort port && linkExpects p.op then sendOnPort port (mkPacket 0 0x06 p.src p.dest p.tag st.code 0 false []) s else s
  if !s.portUp port then s
  else if p.dest ≠ s.obj .nodeEid then bump .misdirected port s
  else if !p.crcGood then answer .integrity (bump .e2eFailures port s)
  else if p.linkMalformed port then answer .unsupported (bump .malformed port s)
  else go p s

/-- Whether a source and tag is outstanding at the Varisk but for a RECIPE: a request, a held one, or KODP that waits or runs. -/
def State.outstandingHere (s : State) (src tag : Nat) : Bool :=
  s.txn.reqs.any (fun q => q.src == src && q.tag == tag && q.op != 0x50)
    || s.traffic.holds.any (fun h => h.2.any (fun x => x.pkt.src == src && x.pkt.tag == tag && x.pkt.op != 0x50))
    || s.part.slots.any (fun e => e.2.eid == src && e.2.detachTags.contains tag)
    || s.part.heldChanges.any (fun h => match h.act with
      | .attached _ p => p.src == src && p.tag == tag
      | .detach slot t => t == tag && ((aget s.part.slots slot).map (fun r => r.eid == src)).getD false
      | _ => false)
    || s.kodp.running.any (fun x => x.req.client.transport == .vc7 && x.req.client.addr == src && x.req.tag == tag && !x.timedOut)
    || s.kodp.queue.any (fun e => e.1.client.transport == .vc7 && e.1.client.addr == src && e.1.tag == tag)

/-- Whether a source and tag is outstanding at the Varisk (R164, R165). -/
def State.outstanding (s : State) (src tag : Nat) : Bool :=
  s.outstandingHere src tag || (s.request src tag).isSome || s.recp.recipes.any (fun r => r.src == src && r.tag == tag)
    || s.traffic.holds.any (fun h => h.2.any (fun x => x.pkt.src == src && x.pkt.tag == tag))

/-- The read opcodes of R175. -/
def isRead (op : Nat) : Bool := op == 0x10 || op == 0x11 || op == 0x12 || op == 0x60

/-- A request of a source and tag was answered before its data half came: the half is released when it comes (R160, R510). -/
def releaseHalf (p : Packet) (policed : Bool) (s : State) : State :=
  if !needsHalf p.op then s
  else if s.txn.halves.any (fun h => h.2.src == p.src && h.2.tag == p.tag && h.2.op != 0x42) then
    onlyIf policed (bump .tfPolicedReleases (((s.slotOfEid p.src).getD 0) * 8 + 2))
      (s.onTxn (fun t => { t with halves := t.halves.filter (fun h => !(h.2.src == p.src && h.2.tag == p.tag && h.2.op != 0x42)) }))
  else s.onTxn (fun t => { t with released := t.released ++ [{ src := p.src, tag := p.tag, policed := policed, at_ := s.now }] })

/-- Answer a request before acceptance; its data half is released. -/
def answerEarly (p : Packet) (st : Status) (s : State) : State := releaseHalf p false (answerNow p st s)

/-- The checks of a request before policing (R159, R165, R175, R198, R200): `busy` says whether its tag is outstanding, `replay` answers
from a ledger entry, and `go` has the slot and whether the request will be answered ABORTED, since it meets a detach, unless it draws a
code that R26 ranks ahead. -/
def intake (port : Nat) (p : Packet) (busy : State → Bool) (replay : LedgerEntry → State → State) (go : Nat → Bool → State → State) (s : State) : State :=
  let s := onlyIf p.resend (bump .resendsReceived port) s
  match s.slotOfEid p.src with
  | none => bump .unattachedSource port (answerEarly p .rightsFault s)
  | some slot =>
    match aget s.part.slots slot with
    | none => bump .unattachedSource port (answerEarly p .rightsFault s)
    | some r =>
      if r.st = .lost then bump .unattachedSource port (bump .slotUnattached slot (answerEarly p .rightsFault s))
      else if busy s then bump (if p.resend then .resendsDroppedInFlight else .tagReuse) port s
      else
        let fresh (s : State) : State := go slot (r.st == .detaching && !p.resend) s
        if p.resend && !isRead p.op && ledgered p.op then
          match aget s.txn.ledger (slot, p.tag) with
          | some e =>
            if e.fingerprint = p.crc ∧ e.op = p.op then bump .ledgerReplays port (releaseHalf p false (replay e s))
            else bump .resendMismatches port (releaseHalf p false (answerMismatch p s))
          | none => fresh s
        else fresh s

/-- The capability an opcode needs (R191). -/
def opCap (op : Nat) : Option Nat :=
  if op = 0x10 ∨ op = 0x11 ∨ op = 0x17 ∨ op = 0x15 ∨ op = 0x16 then some 0 else if op = 0x60 then some 2 else if op = 0x50 then some 3 else none

/-- Whether a slot lacks the capability an opcode needs (R191). -/
def State.lacksCap (s : State) (slot op : Nat) : Bool :=
  match opCap op with
  | some b => !s.slotCap slot b
  | none => false

/-! ### Policing (R501 to R514) -/

/-- A value of the traffic objects in force since the last refill tick (R514). -/
def State.live (s : State) (o : Obj) : Nat := agetD s.traffic.inForce o o.info.reset

/-- The unlimited rate (R503). -/
def unlimited : Nat := 0xFFFFFFFF

/-- CIR, PIR, CBS, PBS of a subscriber, class and direction; none is unlimited (R503, R504). -/
def State.bucketRates (s : State) (slot cls : Nat) (ingress : Bool) : Option (Nat × Nat × Nat × Nat) :=
  if cls = 0 ∨ cls = 4 then none else
  match aget s.part.slots slot with
  | none => none
  | some r =>
    let prof := match s.traffic.assign.find? (fun a => a.fields.getD 0 0 == r.eid) with
      | some a => a.fields.getD 1 0
      | none => 0
    match s.traffic.profiles.find? (fun x => prof != 0 && x.fields.getD 0 0 == prof) with
    | none => none
    | some x =>
      let b := 1 + (cls - 1) * 8 + (if ingress then 0 else 4)
      let pir := x.fields.getD (b + 1) 0
      if pir = unlimited then none else some (x.fields.getD b 0, pir, x.fields.getD (b + 2) 0, x.fields.getD (b + 3) 0)

/-- An ingress bucket; a bucket that has not been touched is full (R503). -/
def State.ingressBucket (s : State) (die slot cls : Nat) : Bucket :=
  match aget s.traffic.ingress (die, slot, cls), s.bucketRates slot cls true with
  | some b, _ => b
  | none, some (_, _, cbs, pbs) => { c := cbs, p := pbs }
  | none, none => { c := 0, p := 0 }

/-- Whether an opcode is policed (R501, R508). -/
def isPoliced (op : Nat) : Bool := (decide (0x10 ≤ op) && decide (op ≤ 0x18)) || op == 0x50 || op == 0x54 || op == 0x60

/-- Slots of a list of packets in a leaf. -/
def queuedSlots (l : List Queued) : Nat := (l.map (fun q => q.pkt.slots)).sum

/-- Whether a subscriber's leaves of a class hold more than EGRESS_BACKLOG slots on some port (R507). -/
def State.backlogged (s : State) (slot cls : Nat) : Bool :=
  s.traffic.leaves.any (fun e => e.1.sub == slot && e.1.cls == cls && decide (queuedSlots e.2 > s.live .egressBacklog))

/-- The allotment of a VC (R133). -/
def vcAllot (vc : Nat) : Nat := match vc with | 0 => 256 | 1 => 2048 | 2 => 1024 | 3 => 1024 | 4 => 4096 | 5 => 1024 | 6 => 1024 | _ => 256

/-- Colour a request by its subscriber's bucket (R509): green and yellow are debited, red is not. -/
def colour (die slot cls n : Nat) (s : State) : State × Bool :=
  match s.bucketRates slot cls true with
  | none => (bump .tfGreen (slot * 8 + cls) s, true)
  | some _ =>
    let b := s.ingressBucket die slot cls
    if b.c ≥ n then (bump .tfGreen (slot * 8 + cls) (s.onTraffic (fun t => { t with ingress := aset t.ingress (die, slot, cls) { c := b.c - n, p := b.p - n } })), true)
    else if b.p ≥ n then (bump .tfYellow (slot * 8 + cls) (s.onTraffic (fun t => { t with ingress := aset t.ingress (die, slot, cls) { b with p := b.p - n } })), true)
    else (s, false)

/-- Link slots held in some holds. -/
def heldSlots (l : List Held) : Nat := (l.map Held.slots).sum

/-- Whether a request that comes on earlier credits is not accepted now: in the pause of a handback, and a RECIPE before its barrier (R495,
R496).  It is held until that is over, and the release answers it FENCED (log 163). -/
def State.notNow (s : State) (p : Packet) : Bool := s.twin.paused || (s.twin.quiescing && p.op == 0x50)

/-- Police a request (R509, R510): passed to `go`, held, or answered RETRY by `retry`. -/
def police (port slot : Nat) (p : Packet) (go : State → State) (retry : State → State) (s : State) : State :=
  let cls := classOfVc p.vc
  let key := (slot, port, p.vc)
  let fifo := agetD s.traffic.holds key []
  let die := dieOfPort port
  let keep (s : State) : State :=
    let h : Held := { at_ := s.now, charge := p.charge, slots := p.slots, die := die, pkt := p }
    bump .tfHeld (slot * 8 + cls) (s.onTraffic (fun t => { t with holds := amod t.holds key [] (fun q => q ++ [h]) }))
  if s.notNow p then keep s else
  let (s, pass) := if !fifo.isEmpty || s.backlogged slot cls then (s, false) else colour die slot cls p.charge s
  if pass then go s
  else if heldSlots fifo ≥ s.live .holdSlots then bump .tfRetrySlots (slot * 8 + cls) (retry s)
  else if ((s.traffic.holds.filter (fun h => h.1.2.1 == port && h.1.2.2 == p.vc)).map (fun h => heldSlots h.2)).sum ≥ vcAllot p.vc / 2 then
    bump .tfRetryShare (slot * 8 + cls) (retry s)
  else keep s

/-! ### Acceptance (R178, R193, R194, R218, R224, R225, R252, R569) -/

/-- Rights bits and page WRITE of an opcode (R225). -/
def opRights (op : Nat) : List Nat × Bool :=
  match op with
  | 0x11 => ([0, 1], true) | 0x17 => ([0, 1], true) | 0x13 => ([1], true) | 0x14 => ([1], true) | 0x15 => ([1], true)
  | 0x18 => ([2], true) | 0x60 => ([0, 5], false) | _ => ([0], false)

/-- Step 1 of R224: the context is granted to the slot; context 0 needs MANAGER (R193, R211). -/
def State.ctxGranted (s : State) (slot ctx : Nat) : Bool :=
  if ctx = 0 then s.slotCap slot 4 else ((aget s.part.slots slot).map (fun r => r.grants.contains ctx)).getD false

/-- The checks of R224 for an addressed request. -/
def checkAddressed (port slot : Nat) (p : Packet) (s : State) : State × XRes :=
  let (need, write) := opRights p.op
  if !s.ctxGranted slot p.harg then (s, .fault { status := .xlateFault, reason := 0, recorded := false, level := 7, pva := 0, gen := 0 })
  else
    let (s, r) := xlate (dieOfPort port) p.harg p.addr need write s
    match r with
    | .ok _ tenant _ _ =>
      -- a reader of a sealed tenant's line holds its job key (R569)
      if (isRead p.op || p.op == 0x18) && s.isSealed tenant && !s.holdsKey p.src tenant then
        (bump .keyMissing (dieOfPort port) s, .fault { status := .keyMissing, reason := 0, recorded := false, level := 7, pva := 0, gen := 0 })
      else (s, r)
    | _ => (s, r)

/-- Who a partner request is, for a fault record (R227). -/
def faultOf (slot : Nat) (p : Packet) : FaultBy := { slot := slot, source := 0, opcode := p.op, eid := p.src, tag := p.tag }

/-- Answer a failed check (R225, R226). -/
def answerFault (slot : Nat) (p : Packet) (f : XFault) (s : State) : State :=
  let (s, st) := recordFault (faultOf slot p) p.harg p.addr f s
  answerEarly p st s

/-- A request as accepted: its age stamp is the global time of acceptance in 1/256 ns (R256, R511). -/
def newRequest (s : State) (port slot : Nat) (p : Packet) (phase : ReqPhase) (pa tenant keyId tier : Nat) : Request :=
  { src := p.src, tag := p.tag, op := p.op, vc := p.vc, port := port, slot := slot, ctx := p.harg, pkt := p, data := none
    phase := phase, pa := pa, tenant := tenant, keyId := keyId, tier := tier, ordered := false, losses := 0
    stamp := s.timeOf (dieOfPort port) % 2 ^ 48, down := false, answer := none, need0 := 0, need1 := 0, making := none }

/-- Whether a data half has the slots its request calls for (R161). -/
def halfFits (q : Packet) (d : Packet) : Bool :=
  let n := d.plainSlots - 1
  match q.op with
  | 0x13 => d.op == 0x40 && n == 8
  | 0x14 => d.op == 0x40 && n == (q.addr % 16 + q.size + 15) / 16
  | 0x15 => d.op == 0x41
  | 0x18 => d.op == 0x43
  | _ => false

/-- The keys and tag generations a partner's packet may have been encrypted under, in the order they are tried (R566, R568): the
exchange's own, for a resend the one before it; the older key generation for an exchange begun before the switch and for a resend; and for
a resend a key that an epoch change replaced, at any generation. -/
def State.openKeys (s : State) (p : Packet) (aad : List Byte) : List (Nat × Nat) :=
  let window (k g : Nat) : List (Nat × Nat) := (k, g) :: (if p.resend then [(k, genBefore g)] else [])
  let old := s.oldExchange p.src 0 p.tag
  let mine := match s.linkKey p.src with
    | some k => if old then [] else window k (s.tagGenOf p.src 0 p.tag)
    | none => []
  let before := match s.olderKey p.src with
    | some k => if old || p.resend then window k (s.tagGenOlder p.src 0 p.tag) else []
    | none => []
  let former := if p.resend then (match s.jobOf p.src with | some (_, j) => j.former | none => []) else []
  mine ++ before ++ former.map (fun k => (k, Config.sealedGen k (gcmIv 0 p.op 0 0 p.tag 0 p.src) (p.head false ++ aad) p.body % 2 ^ 32))

/-- Open an encrypted packet of a partner (R565, R566): under the first key and tag generation of its window that verify.
`aad` follows the head. -/
def State.openFrom (s : State) (p : Packet) (aad : List Byte) : Option (List Byte) :=
  (s.openKeys p aad).findSome? (fun x => Config.gcmOpen x.1 (gcmIv 0 p.op 0 0 p.tag x.2 p.src) (p.head false ++ aad) p.body)

/-- The data of a half in clear, or nothing where its tag fails or it should have been ENC (R567, R569). -/
def State.openHalf (s : State) (q : Packet) (tenant : Nat) (d : Packet) : Option (List Byte) :=
  if d.enc then s.openFrom d (q.head false ++ (if hasAddr q.op then q.body.take 16 else []))
  else if s.isSealed tenant then none
  else some d.body

/-! ### The line-state table (R235, R237, R250 to R257) -/

/-- The value an atomic sub-operation leaves (R162). -/
def atomicNew (subop old a b : Nat) : Nat :=
  let sg (x : Nat) : Int := if x < 2 ^ 63 then x else (x : Int) - 2 ^ 64
  match subop with
  | 1 => (old + a) % 2 ^ 64
  | 2 => a
  | 3 => if old = a then b else old
  | 4 => old &&& a
  | 5 => old ||| a
  | 6 => Nat.xor old a
  | 7 => if sg a < sg old then a else old
  | 8 => if sg a > sg old then a else old
  | 9 => min old a
  | 10 => max old a
  | _ => old

/-- Serve a request that is ordered at its line, the line free of every conflict and its data at hand (R250). -/
def serve (q : Request) (s : State) : State :=
  let line := q.line
  let die := homeDie q.pa
  let s := setRequest q.src q.tag (fun x => { x with ordered := true }) s
  let q := { q with ordered := true }
  match q.op with
  | 0x10 =>
    let (bad, data) := s.view line q.tenant q.keyId
    let s := countMismatch line q.tenant s
    if bad then finishRead q true data 0 s
    else match s.entry line with
      | none =>
        let excl := s.obj .exclusiveGrant == 1 && !q.down
        finishRead q false data (if excl then 2 else 1) (grantEntry line q.ctx q.pkt.addr (mkEntry (if excl then .exclusive else .shared) q.slot) s)
      | some e => finishRead q false data 1 (grantEntry line q.ctx q.pkt.addr ({ e with st := .shared }.share q.slot) s)
  | 0x11 =>
    let (bad, data) := s.view line q.tenant q.keyId
    let s := countMismatch line q.tenant s
    if bad then finishRead q true data 0 s
    else finishRead q false data 2 (grantEntry line q.ctx q.pkt.addr (mkEntry .modified q.slot) (dropEntry line s))
  | 0x13 =>
    match q.data with
    | none => s
    | some d =>
      if s.lineFailed line then finishStatus q .integrity 0 true (onlyIf d.poison (poisonListed (s.channelOfLine line) line) s)
      else finishStatus q (if d.poison then .poisoned else .ok) 0 true (writeLine line d.body d.poison 4 q.tenant q.keyId s)
  | 0x14 =>
    match q.data with
    | none => s
    | some d =>
      if s.lineFailed line then finishStatus q .integrity 0 true (onlyIf d.poison (poisonListed (s.channelOfLine line) line) s)
      else
        let lo := q.pkt.addr % 128
        let new := padTo 128 (List.replicate (lo / 16 * 16) (0 : Byte) ++ d.body)
        let bad := s.mergePoisons line q.tenant
        let s := countMismatch line q.tenant s
        finishStatus q (if d.poison || bad then .poisoned else .ok) 0 true
          (mergeLine line new (fun i => decide (lo ≤ i) && decide (i < lo + q.pkt.size)) d.poison 4 q.tenant q.keyId s)
  | 0x15 =>
    match q.data with
    | none => s
    | some d =>
      if s.lineFailed line then finishStatus q .integrity 0 true (onlyIf d.poison (poisonListed (s.channelOfLine line) line) s)
      else finishStatus q (if d.poison then .poisoned else .ok) 0 true (dropEntry line (writeLine line d.body d.poison 4 q.tenant q.keyId s))
  | 0x17 =>
    match s.entry line with
    | none => finishStatus q .ok 0 false s
    | some e =>
      if e.has q.slot && (e.st != .shared || e.ptrs == [q.slot]) then
        finishStatus q .ok 2 true (putEntry line { mkEntry .modified q.slot with aged := e.aged } s)
      else finishStatus q .ok 0 false s
  | 0x18 =>
    match q.data with
    | none => s
    | some d =>
      let bad := s.mergePoisons line q.tenant
      let s := countMismatch line q.tenant s
      if d.poison || bad then finishAtomic q .poisoned 0 false s
      else
        let off := q.pkt.addr % 128
        let data := s.dataOf line q.tenant q.keyId
        let old := leNat ((data.drop off).take 8)
        let a := leNat (d.body.take 8)
        let b := leNat ((d.body.drop 8).take 8)
        if q.pkt.subop = 3 ∧ old ≠ a then finishAtomic q .ok old false s
        else
          let new := padTo 128 (List.replicate off (0 : Byte) ++ leBytes 8 (atomicNew q.pkt.subop old a b))
          finishAtomic q .ok old true (mergeLine line new (fun i => decide (off ≤ i) && decide (i < off + 8)) false 4 q.tenant q.keyId s)
  | 0x12 | 0x60 =>
    let (bad, data) := s.view line q.tenant q.keyId
    finishRead q bad data 0 (countMismatch line q.tenant s)
  | _ => finishStatus q .ok 0 false (bump .staleEvictions die s)

/-- Whether serving a request reads the line first, so that a pantry miss goes to DRAM (R48, R53, R326). -/
def readsLine (op : Nat) : Bool := isRead op || op == 0x14 || op == 0x18

/-- Serve a request now, or read its line from DRAM first (R53, R275, R283); a miss on a channel out of service is answered RETRY, on
one in a partition reset ABORTED (R586, R598). -/
def serveOrRead (q : Request) (s : State) : State :=
  match s.storeOf q.line with
  | none => s
  | some l =>
    let miss := readsLine q.op && !(s.lineMeta l).inPantry && !s.lineFailed q.line
    let st := (s.unit .channel (placeOf (l * 128)).channel).st
    if miss && st == .out then finishStatus q .retry 0 false s
    else if miss && st == .resetting then finishStatus q .aborted 0 false s
    else if miss then
      let rt := q.op == 0x60
      let s := onlyIf rt (setPunit (16 + (placeOf (l * 128)).channel / 32) (fun p => { p with rtAt := s.now })) s
      dramPush l false (if rt then .rtVc6 else .normal) (.request q.src q.tag)
        (setRequest q.src q.tag (fun x => { x with phase := .dram, ordered := true }) s)
    else if s.lineFailed q.line && (q.op == 0x14 || q.op == 0x18) then
      -- poison it brings is listed (R685)
      finishStatus q .integrity 0 false (onlyIf (q.op == 0x14 && (q.data.map (fun d => d.poison)).getD false) (poisonListed (s.channelOfLine q.line) q.line) s)
    else serve q (onlyIf (s.lineMeta l).inPantry (fun s => pantryUse l (setMeta l (fun m => { m with keyId := q.keyId }) s)) s)

/-- Park a request at its line (R256, R257): a full park buffer of its slice leaves it held at the crossbar. -/
def park (q : Request) (lost : Bool) (s : State) : State :=
  let die := homeDie q.pa
  let losses := q.losses + (if lost then 1 else 0)
  let s := setRequest q.src q.tag (fun x => { x with phase := .parked, losses := losses }) s
  let s := onlyIf lost (bump .losses die) (onlyIf (q.phase != .parked) (bump .parks die) s)
  enterAged q.line q.src q.tag losses s

/-- Whether every earlier request of the source, VC and port has its place in the order (R167 to R169). -/
def State.mayOrder (s : State) (q : Request) : Bool :=
  let before := s.txn.reqs.takeWhile (fun x => !(x.src == q.src && x.tag == q.tag))
  before.all (fun x => !(x.src == q.src && x.vc == q.vc && x.port == q.port) || x.ordered)

/-- Whether a request's line is being read from DRAM for another request (R278), or its last commit waits for the standby (R469). -/
def State.lineBusy (s : State) (q : Request) : Bool :=
  s.unmirrored q.line || s.txn.reqs.any (fun x => x.phase == .dram && x.line == q.line && !(x.src == q.src && x.tag == q.tag))

/-- Order an eviction at its line, which takes it out of the index; one that was applied is answered OK, poisoned or not (R250 to R252). -/
def orderEviction (q : Request) (s : State) : State :=
  let line := q.line
  let die := homeDie q.pa
  let applied := s.dir.evicts.any (fun v => v.src == q.src && v.tag == q.tag && v.applied)
  let s := s.onDir (fun d => { d with evicts := d.evicts.filter (fun v => !(v.src == q.src && v.tag == q.tag)) })
  if applied then finishStatus q .ok 0 true s
  else match s.entry line with
    | none => finishStatus q .ok 0 false (bump .staleEvictions die s)
    | some e =>
      if e.coarse then
        if q.op = 0x16 ∨ e.has q.slot = false then finishStatus q .ok 0 false (onlyIf (!e.has q.slot) (bump .staleEvictions die) s)
        else bump .wrongStateWritebacks die (finishStatus q .rightsFault 0 false s)
      else if !e.ptrs.contains q.slot then finishStatus q .ok 0 false (bump .staleEvictions die s)
      else if q.op = 0x15 then
        if e.st = .modified ∨ e.recalling then
          (if e.recalling && e.st != .modified then bump .wrongStateWritebacks die (finishStatus q .rightsFault 0 false s) else serve q s)
        else bump .wrongStateWritebacks die (finishStatus q .rightsFault 0 false s)
      else finishStatus q .ok 0 true (if e.recalling then putEntry line (e.without q.slot) s else putOrDrop line (e.without q.slot) s)

/-- A failing region alias, for a request that would grant a cached copy (R248). -/
def State.aliasBad (s : State) (q : Request) : Bool :=
  match aget s.dir.regions (regionOf q.line) with
  | some g => decide (g.lines > 0) && (g.ctx != q.ctx || g.addr != q.pkt.addr / 4096)
  | none => false

/-- Whether a request would grant a cached copy, where its line's data is clear: a read that does, or the UPGRADE of a holder (R235, R248). -/
def State.wouldGrant (s : State) (q : Request) : Bool :=
  ((q.op == 0x10 || q.op == 0x11) && !s.readsPoisoned q.line q.tenant false)
    || (q.op == 0x17 && ((s.entry q.line).map (fun e => e.has q.slot)).getD false)

/-- Whether the room a request has asked for is still being made (R249). -/
def State.makingRoom (s : State) (q : Request) : Bool :=
  match q.making with
  | some (false, l) => s.recalling l
  | some (true, g) => (s.regionLines g).any (fun l => s.recalling l)
  | none => false

/-- A request that needs an entry, where there is room, or room being made by one recall of its own (R249). -/
def serveInRoom (q : Request) (s : State) : State :=
  let die := homeDie q.pa
  let wait (s : State) : State := park { q with phase := .parked } false s
  let make (m : Option (Bool × Nat)) (s : State) : State := setRequest q.src q.tag (fun x => { x with making := m }) s
  let goOn (s : State) : State := bump .capacityRecalls die (if s.room q.line = .ok then serveOrRead q s else wait s)
  match s.room q.line with
  | .ok => serveOrRead q s
  | .recallLine v =>
    if s.makingRoom q then wait s
    else goOn (match s.entry v with
      | some e => startRecall v false (s.holders v e) 3 [] .none (make (some (false, v)) s)
      | none => s)
  | .recallRegion g => if s.makingRoom q then wait s else goOn (recallRegion g 4 (make (some (true, g)) s))
  | .wait => bump .capacityRecalls die (wait s)

/-- Present a request at its line, where it may be ordered now (R249, R250, R256); one presented from the park that finds the line taken
has lost. -/
def present (q : Request) (fromPark : Bool) (s : State) : State :=
  let line := q.line
  let die := homeDie q.pa
  if s.recalling line || s.keptFrom line q.src q.tag then park q (fromPark && (s.recalling line || (s.accessesAt line).any (fun a => a.claim))) s
  else
    -- a holder's read removes its record first
    let s := match s.entry line with
      | some e => if !e.coarse && e.has q.slot && (accOf q.op == .rdShared || accOf q.op == .rdUnique || accOf q.op == .uncached) then
          bump .holderRerequests die (putOrDrop line (e.without q.slot) s) else s
      | none => s
    let s := touchEntry line s
    let grants := s.wouldGrant q
    let go (s : State) : State :=
      match s.recallNeed line (accOf q.op) (some q.slot) with
      | some (down, targets) =>
        let kind := if down then 1 else 2
        let keep := if accOf q.op = .upgrade then [q.slot] else []
        let s := setRequest q.src q.tag (fun x => { x with phase := .recalling, ordered := true, down := down && q.op == 0x10 }) s
        let s := startRecall line down targets kind keep (.request q.src q.tag) s
        if s.recalling line then s
        else match s.request q.src q.tag with
          | some q => serveOrRead q s
          | none => s
      | none => if grants && q.op != 0x17 then serveInRoom q s else serveOrRead q s
    if grants && s.aliasBad q then
      if (s.regionLines (regionOf line)).any (fun l => s.recalling l) then park { q with phase := .parked } false s
      else
        let s := bump .aliasRecalls die (recallRegion (regionOf line) 4 s)
        if s.aliasBad q then park { q with phase := .parked } false s else go s
    else go s

/-- Try to order a request: in its source's order, its granule resident, its line free (R167, R250, R256, R295). -/
def orderRequest (q : Request) (fromPark : Bool) (s : State) : State :=
  if q.ordered || !(q.phase == .ready || q.phase == .parked || q.phase == .deep) || !s.mayOrder q || s.lineBusy q then s
  else if q.phase != .parked && s.crossbarHolds q.line q.src q.tag then holdAtCrossbar q.line q.src q.tag s
  else
  let s := leaveCrossbar q.line q.src q.tag s
  if isDeepPa q.pa then
    let waiting := (s.deep.waiting.filter (fun w => w.1 == homeCluster q.pa && !(w.2.2.1 == q.src && w.2.2.2 == q.tag))).length
    let leave (s : State) : State := s.onDeep (fun d => { d with waiting := d.waiting.filter (fun w => !(w.2.2.1 == q.src && w.2.2.2 == q.tag)) })
    match deepAccess q.line (!isRead q.op && q.op != 0x16 && q.op != 0x17) q.tier waiting s with
    | (s, .ready) => settleAged q.line (if q.op = 0x15 ∨ q.op = 0x16 then orderEviction q (leave s) else present q fromPark (leave s))
    | (s, .wait) => leave s |>.onDeep (fun d => { d with waiting := d.waiting ++ [(homeCluster q.pa, granuleOf q.pa, q.src, q.tag)] }) |> setRequest q.src q.tag (fun x => { x with phase := .deep })
    | (s, .full) => finishStatus q .retry 0 false (leave s)
    | (s, .poisoned) => if isRead q.op then finishRead q true (List.replicate 128 0) 0 (leave s) else if q.op = 0x18 then finishAtomic q .poisoned 0 false (leave s) else finishStatus q .poisoned 0 false (leave s)
  else settleAged q.line (if q.op = 0x15 ∨ q.op = 0x16 then orderEviction q s else present q fromPark s)

/-- A recall has ended: the access that caused it completes (R253); one that is not a request has the line to itself until it does. -/
def completeCause (line : Nat) (c : RecallCause) (s : State) : State :=
  match c with
  | .request src tag =>
    match s.request src tag with
    | some q => if q.phase = .recalling then settleAged q.line (serveOrRead q s) else s
    | none => s
  | .access src tag =>
    onlyIf (accessClaims src tag) (fun s => s.onDir (fun d => { d with
      accesses := d.accesses.map (fun a => if a.line = line ∧ a.src = src ∧ a.tag = tag then { a with claim := true } else a) })) s
  | .none => s

/-- Run something that may end a line's recall; when it does, the access that caused it completes, and own writes that waited go on. -/
def withRecall (line : Nat) (f : State → State) (s : State) : State :=
  let before := aget s.dir.recalls line
  let s := f s
  match before, aget s.dir.recalls line with
  | some r, none => runOwn (completeCause line r.cause s)
  | _, _ => s

/-! ### Acceptance, and data halves (R160, R178, R252) -/

/-- Take the eviction of a request as its slot's answer where a recall awaits it (R251, R252). -/
def answerByEviction (q : Request) (s : State) : State :=
  match aget s.dir.recalls q.line, s.takeable q.slot q.line with
  | some r, some v => if r.awaited.contains q.slot then withRecall q.line (fun s => settleSlot q.line q.slot (takeEviction v s)) s else s
  | _, _ => s

/-- Pair a request with its data half (R160, R161, R567); one that failed its E2E_CRC counts as poisoned, whatever it holds (R173). -/
def pairHalf (q : Request) (d : Packet) (s : State) : State :=
  if !d.crcGood then
    let q' := { q with data := some { d with body := List.replicate 128 0, enc := false, poison := true }, phase := .ready }
    answerByEviction q' (setRequest q.src q.tag (fun x => if x.phase = .settle then { x with data := q'.data } else q') s)
  else if !halfFits q.pkt d then bump .malformed q.port (dropRequest q.src q.tag (answerNow q.pkt .unsupported s))
  else match s.openHalf q.pkt q.tenant d with
    | none => bump (if d.enc then .tagFailures else .missingEnc) (dieOfPort q.port) (finishStatus q .integrity 0 false s)
    | some body =>
      let q' := { q with data := some { d with body := body, enc := false }, phase := .ready }
      answerByEviction q' (setRequest q.src q.tag (fun x => if x.phase = .settle then { x with data := q'.data } else q') s)

/-- A request in the list whose translation has succeeded is accepted: it has its data half or waits for it; an eviction is
indexed (R160, R252). -/
def acceptListed (q : Request) (s : State) : State :=
  let s := if q.op = 0x15 ∨ q.op = 0x16 then
      s.onDir (fun d => { d with evicts := d.evicts ++ [{ slot := q.slot, line := q.line, src := q.src, tag := q.tag, writeback := q.op == 0x15, applied := false }] })
    else s
  if needsHalf q.op then
    match s.txn.halves.find? (fun h => h.2.src == q.src && h.2.tag == q.tag && h.2.op != 0x42) with
    | some d => pairHalf { q with phase := .awaitData } d.2 (s.onTxn (fun t => { t with halves := t.halves.erase d }))
    | none => s
  else answerByEviction q s

/-- A request whose translation has succeeded is queued for its home directory. -/
def acceptRequest (q : Request) (s : State) : State :=
  acceptListed q (s.onTxn (fun t => { t with reqs := t.reqs ++ [{ q with phase := if needsHalf q.op then .awaitData else .ready }] }))

/-- A request that has passed policing runs the checks of R224; it is accepted, answered with its fault, or waits for its
generation (R218). -/
def admitRequest (port slot : Nat) (p : Packet) (s : State) : State :=
  match checkAddressed port slot p s with
  | (s, .ok pa tenant keyId tier) => acceptRequest (newRequest s port slot p .ready pa tenant keyId tier) s
  | (s, .fault f) => answerFault slot p f s
  | (s, .settle _ _) =>
    bump .xlSettles (dieOfPort port) (s.onTxn (fun t => { t with reqs := t.reqs ++ [newRequest s port slot p .settle 0 0 0 0] }))

/-- A new request of a slot in Detaching: ABORTED, unless a check of R224 fails, whose code ranks ahead (R26, R198). -/
def abortRequest (port slot : Nat) (p : Packet) (s : State) : State :=
  match checkAddressed port slot p s with
  | (s, .fault f) => answerFault slot p f s
  | (s, _) => answerEarly p .aborted s

/-- RETRY of policing: the checks of R224 come first (R510). -/
def policedRetry (port slot : Nat) (p : Packet) (s : State) : State :=
  let (s, r) := checkAddressed port slot p s
  match r with
  | .fault f => let (s, st) := recordFault (faultOf slot p) p.harg p.addr f s
    releaseHalf p true (answerNow p st s)
  | _ => releaseHalf p true (answerNow p .retry s)

/-- An addressed request from a partner, from its arrival on. -/
def arriveRequest (port : Nat) (p : Packet) (s : State) : State :=
  arriveFabric port p (fun p s =>
    intake port p (fun s => s.outstanding p.src p.tag) (replayResponse p) (fun slot gone s =>
      if s.lacksCap slot p.op then answerEarly p .unsupported s
      else if gone then abortRequest port slot p s
      else police port slot p (admitRequest port slot p) (policedRetry port slot p) s) s) s

/-- Whether the half of a request answered early is still looked for (R160). -/
def State.awaitsHalf (s : State) (x : Released) (src tag : Nat) : Bool :=
  x.src == src && x.tag == tag && decide (s.now < x.at_ + s.obj .pairingTimeout * 1000)

/-- A data half arrives (R160): paired with the request that lacks it, discarded as the resend of a request that has it (R175), released,
or kept until its request comes. -/
def arriveHalf (port : Nat) (p : Packet) (s : State) : State :=
  arriveFabric port p (fun p s =>
    let keep (s : State) : State := s.onTxn (fun t => { t with halves := t.halves ++ [(port, p)] })
    match s.request p.src p.tag with
    | some q =>
      if needsHalf q.op && q.data.isNone then
        (if q.phase = .settle then setRequest q.src q.tag (fun x => { x with data := some p }) s else pairHalf q p s)
      else if p.resend then s else keep s
    | none =>
      match s.txn.released.find? (fun x => s.awaitsHalf x p.src p.tag) with
      | some x => onlyIf x.policed (bump .tfPolicedReleases (((s.slotOfEid p.src).getD 0) * 8 + 2))
          (s.onTxn (fun t => { t with released := t.released.erase x }))
      | none => keep s) s

end Sys2Proof.Machine
end

