-- ==== Sys2Proof/Machine/OpsPartner.lean ====
section
/-!
DEFINITION. Machine/OpsPartner.lean: the life of a partner slot: attach, loss, detach; the end of its recipes; and the commands
that wait for requests or recalls (R188 to R204, R219, R221, R258 to R261, R359).
-/
namespace Sys2Proof.Machine

/-! ### Ending recipes early (R359, R364) -/

/-- Drop every tile of a recipe that is queued or has not begun its commit. -/
def dropTiles (id : Nat) (keep : Nat → Bool) (s : State) : State :=
  let stays (t : TileRef) : Bool := t.recipe != id || keep t.tile
  let s := s.onRecp (fun r => { r with queues := r.queues.map (fun e => (e.1, e.2.filter stays)), locals := r.locals.map (fun e => (e.1, e.2.filter stays)) })
  s.onCore (fun c => { c with cores := c.cores.map (fun e => match e.2.run with
    | some t => if t.recipe == id && !keep t.tile then (e.1, { e.2 with run := t.dropped }) else e
    | none => e) })

/-- Change a recipe's record. -/
def setRecipe (id : Nat) (f : Recipe → Recipe) (s : State) : State :=
  s.onRecp (fun r => { r with recipes := r.recipes.map (fun x => if x.id = id then f x else x) })

/-- Cancel a recipe: no further tile is dispatched, tiles not in their commit are dropped, and it ends ABORTED (R359).  An
ALLREDUCE-STAGE in Reducing completes (R381). -/
def cancelRecipe (id : Nat) (s : State) : State :=
  if s.recp.recipes.any (fun r => r.id == id && r.phase == .reducing) then s
  else dropTiles id (fun _ => false) (setRecipe id (fun r => { r with cancelled := true }) s)

/-- Cancel every recipe of a slot (R198, R200). -/
def cancelSlotRecipes (slot : Nat) (s : State) : State :=
  forAll (s.recp.recipes.filter (fun r => r.slot == slot)) (fun r s => cancelRecipe r.id s) s

/-! ### Slots (R189 to R204) -/

/-- Change a slot's record. -/
def setSlot (slot : Nat) (f : Slot → Slot) (s : State) : State :=
  s.onPart (fun p => match aget p.slots slot with
    | some r => { p with slots := aset p.slots slot (f r) }
    | none => p)

/-- An event the slot's state does not list (R204). -/
def ignoreEvent (s : State) : State := bump .partnerEventsIgnored 0 s

/-- Whether a packet is a response (R156): of KODP the packets of a reply, whose TYPE is 0x80 or more; a notification is one packet (R651,
R657). -/
def isResponse (p : Packet) : Bool :=
  [0x02, 0x04, 0x06, 0x30, 0x31, 0x51, 0x52, 0x53, 0x61, 0x71].contains p.op
    || (p.op == 0x70 && (p.harg % 256 != 0 || decide (leNat ((p.body.drop 1).take 1) ≥ 0x80)))

/-- The responses queued for an EID. -/
def State.queuedFor (s : State) (eid : Nat) : Nat :=
  ((s.traffic.leaves.map (fun e => (e.2.filter (fun q => q.pkt.dest == eid && isResponse q.pkt)).length))).sum

/-- Discard the responses still queued for an EID (R182). -/
def discardResponses (eid : Nat) (s : State) : State :=
  forAll s.traffic.leaves (fun e s => bumpBy .discardedResponses e.1.port ((e.2.filter (fun q => q.pkt.dest == eid && isResponse q.pkt)).length) s)
    (s.onTraffic (fun t => { t with leaves := t.leaves.map (fun e => (e.1, e.2.filter (fun q => !(q.pkt.dest == eid && isResponse q.pkt)))) }))

/-- What the requests held for a slot meet when it leaves Active (R515): they are answered, by `answer`, as if they had arrived now;
those that `stays` keeps stay held. -/
def settleHolds (slot : Nat) (stays : Held → Bool) (answer : Nat → Packet → State → State) (s : State) : State :=
  let mine := s.traffic.holds.filter (fun h => h.1.1 == slot)
  let s := s.onTraffic (fun t => { t with holds := (t.holds.map (fun h => if h.1.1 = slot then (h.1, h.2.filter stays) else h)).filter (fun h => !h.2.isEmpty) })
  forAll mine (fun h s => forAll (h.2.filter (fun x => !stays x)) (fun x s => answer h.1.2.1 x.pkt s) s) s

/-- A request of an EID whose slot is Lost (R200). -/
def refuseLost (slot port : Nat) (p : Packet) (s : State) : State :=
  answerEarly p .rightsFault (bump .unattachedSource port (bump .slotUnattached slot s))

/-- A slot's buckets are freed (R503, R515). -/
def freeBuckets (slot : Nat) (s : State) : State :=
  s.onTraffic (fun t => { t with ingress := t.ingress.filter (fun e => e.1.2.1 != slot), egress := t.egress.filter (fun e => e.1.1 != slot) })

/-- A slot is freed: its ledger entries are cleared and it enters Quarantine (R177, R198, R200). -/
def freeSlot (slot : Nat) (s : State) : State :=
  match aget s.part.slots slot with
  | none => s
  | some r => setSlot slot (fun r => { r with st := .quarantine, renewedAt := s.now, detachTags := [] }) (ledgerClear slot (discardResponses r.eid (freeBuckets slot s)))

/-- A slot becomes Lost (R200, R202): what awaits its answer has the loss applied at once (R253), its snoops end, its recipes
end ABORTED. -/
def loseSlot (slot cause : Nat) (s : State) : State :=
  match aget s.part.slots slot with
  | none => s
  | some r =>
    let mine := (s.recp.recipes.filter (fun x => x.slot == slot)).length
    let s := abortDumps (fun d => d.sink == r.eid) true s
    let s := setSlot slot (fun r => { r with st := .lost, detachTags := [], loss := { cause := cause, poisoned := 0, exclusive := 0, shared := 0, coarse := 0, recipes := mine } }) s
    let s := settleHolds slot (fun _ => false) (refuseLost slot) (freeBuckets slot (cancelSlotRecipes slot s))
    let s := forAll (s.dir.recalls.filter (fun e => e.2.awaited.contains slot)) (fun e s =>
      withRecall e.1 (fun s => settleSlot e.1 slot (applyLoss e.1 slot s)) s) s
    dropPool (fun i dest _ => dest == r.eid && i == .snoop) s

/-- The lines a slot holds by precise pointer. -/
def State.linesOf (s : State) (slot : Nat) : List Nat :=
  (s.dir.entries.filter (fun e => !e.2.coarse && e.2.ptrs.contains slot)).map Prod.fst

/-- Recall every line a detaching slot holds by precise pointer, from that slot only (R261). -/
def recallSlot (slot : Nat) (s : State) : State :=
  forAll (s.linesOf slot) (fun l s => if s.recalling l then s else startRecall l false [slot] 6 [] .none s) s

/-- A DETACH of an Active slot (R198): Detaching; its lines are recalled and its recipes end. -/
def startDetach (slot tag : Nat) (s : State) : State :=
  let eid := ((aget s.part.slots slot).map Slot.eid).getD 0
  let s := abortDumps (fun d => d.sink == eid) true s
  cancelSlotRecipes slot (recallSlot slot (setSlot slot (fun r => { r with st := .detaching, detachTags := [tag] }) s))

/-! ### Commands that wait (R219, R221) -/

/-- The object of CTX_INVALIDATE (R232). -/
def ctxInvalidateObj : OpObj := cmdObj 0x1420 1 rolePm
/-- The object of RECALL_RANGE (R232). -/
def recallRangeObj : OpObj := cmdObj 0x1420 2 rolePm

/-- The tensor names of a context are voided: TENSOR_VOIDED, and their dumps end (R633, R637). -/
def voidTensors (ctx : Nat) (s : State) : State :=
  let gone := s.obs.tensors.filter (fun t => t.ctx == ctx)
  let s := s.onObs (fun o => { o with tensors := o.tensors.filter (fun t => t.ctx != ctx) })
  forAll gone (fun t s => notify 0x2103 (padTo 32 t.name) (abortDumps (fun d => d.tensor.name == t.name) false s)) s

/-! ### Requests in stamp order (R256) -/

/-- Whether stamp a is older than stamp b (R256). -/
def olderStamp (a b : Nat) : Bool :=
  let d := (b + 2 ^ 48 - a) % 2 ^ 48
  decide (1 ≤ d ∧ d < 2 ^ 47)

/-- What is parked at a line: a request, or another access. -/
inductive Parked where
  | request (q : Request)
  | access (a : LineAccess)
deriving DecidableEq, Repr

/-- The age stamp of what is parked, its priority value, its VC (8 for what has none), and its place in the aged lane (R256, R257). -/
def Parked.stamp : Parked → Nat
  | .request q => q.stamp
  | .access a => a.stamp
/-- Its priority value. -/
def Parked.prio : Parked → Nat
  | .request q => q.slot
  | .access a => a.prio
/-- Its VC. -/
def Parked.vc : Parked → Nat
  | .request q => q.vc
  | .access _ => 8
/-- Its source and tag. -/
def Parked.who : Parked → Nat × Nat
  | .request q => (q.src, q.tag)
  | .access a => (a.src, a.tag)

/-- The order of those that reach one line: older stamp, then lower priority value, then lower VC (R256). -/
def beforeAt (a b : Parked) : Bool :=
  if a.stamp = b.stamp then (if a.prio = b.prio then decide (a.vc ≤ b.vc) else decide (a.prio < b.prio)) else olderStamp a.stamp b.stamp

/-- Insert in that order. -/
def stampInsert (q : Parked) : List Parked → List Parked
  | [] => [q]
  | x :: t => if beforeAt q x then q :: x :: t else x :: stampInsert q t

/-- What is parked at a line in the order it is presented: the aged lane first, each in stamp order (R256, R257). -/
def State.parkedAt (s : State) (line : Nat) : List Parked :=
  let l := (s.txn.reqs.filter (fun q => q.phase == .parked && q.line == line)).map Parked.request ++ (s.accessesAt line).map Parked.access
  let aged (q : Parked) : Bool := s.dir.aged.contains (line, q.who)
  ((l.filter aged).foldr stampInsert []) ++ ((l.filter (fun q => !aged q)).foldr stampInsert [])

/-! ### Snoop answers (R239, R253, R565 to R567) -/

/-- The plaintext of an SNP_DATA, paired with its SNP_RSP: under the generation of the exchange or the next; the generation
after the one that verified is kept (R565, R566). -/
def openSnoop (rsp p : Packet) (s : State) : State × Option (List Byte) :=
  match s.exchangeKey p.src 1 p.tag with
  | none => (s, none)
  | some (k, g) =>
    let try_ (g : Nat) := Config.gcmOpen k (gcmIv 0 p.op 0 1 p.tag g p.src) (p.head false ++ rsp.head false) p.body
    match try_ g with
    | some b => (endExchange p.src 1 p.tag g s, some b)
    | none => match try_ ((g + 1) % 2 ^ 32) with
      | some b => (endExchange p.src 1 p.tag ((g + 1) % 2 ^ 32) s, some b)
      | none => (s, none)

/-- Whether the segment a line's alias now names belongs to a sealed tenant (R569). -/
def State.aliasSealed (s : State) (line : Nat) : Bool :=
  match (s.alias line).bind (fun a => s.segmentNow a.1 a.2) with
  | some (_, tenant, _) => s.isSealed tenant
  | none => false

/-- Snoop data and the answer it belongs to (R239, R253): written where the slot is recorded Exclusive-clean or Modified, poisoned where it
fails its E2E_CRC (R173); a tag that fails leaves the slot unanswered (R567). -/
def takeSnoopData (line slot : Nat) (rsp p : Packet) (s : State) : State :=
  let die := homeDie (line * 128)
  let (s, body) := if !p.crcGood then (s, some (List.replicate 128 0)) else if p.enc then openSnoop rsp p s else (s, if s.aliasSealed line then none else some p.body)
  match body, s.entry line with
  | none, _ =>
    bump (if p.enc then .tagFailures else .missingEnc) die
      (s.onDir (fun d => { d with recalls := d.recalls.map (fun e => if e.1 = line then (e.1, { e.2 with dataDue := e.2.dataDue.filter (fun x => x.1 ≠ slot) }) else e) }))
  | some b, some e =>
    let s := if e.owned slot then writeSnoop line b (p.poison || !p.crcGood) s else bump .sharedSnoopData die s
    let s := match s.poolReq p.src p.tag with | some q => endPool q s | none => s
    let s := onlyIf ((!p.enc || !p.crcGood) && (s.jobOf p.src).isSome) (advanceGen p.src 1 p.tag) s
    answerState line slot (if bits rsp.harg 0 2 = 0 then 0 else 1) s
  | some _, none => s

/-- A snoop answer's state, as the directory takes it, and whether it was a bad one (R239). -/
def snoopState (down : Bool) (st : Nat) : Nat × Bool :=
  if st ≥ 2 then (if down then 1 else 0, true) else if st = 1 && !down then (0, true) else (st, false)

end Sys2Proof.Machine
end

