-- ==== Sys2Proof/Machine/OpsDram.lean ====
section
/-!
DEFINITION. Machine/OpsDram.lean: the channel controllers: bank queues, the pick, refresh, what a line read from DRAM meets,
repair, retrain and failure (R275 to R290, R322, R323, R329, R331, R685).
-/
namespace Sys2Proof.Machine

/-! ### Queues and the pick (R276 to R281, R284) -/

/-- The place of a channel request. -/
def DramReq.place (r : DramReq) : Place := placeOf (r.line * 128)

/-- The number of a class. -/
def DramClass.num : DramClass → Nat
  | .normal => 0 | .rtVc6 => 1 | .rtMirror => 2

/-- Requests of a bank queue, oldest first. -/
def Channel.bankQueue (c : Channel) (pseudo bank : Nat) : List DramReq :=
  c.reqs.filter (fun r => r.inBank && r.place.pseudo == pseudo && r.place.bank == bank)

/-- The oldest request of a class's input buffer that may move to its bank queue: the queue has room (8 entries, those not yet issued),
and no earlier request to its line waits in a buffer (R278). -/
def Channel.movable (c : Channel) (cls : Nat) : Option DramReq :=
  c.reqs.find? (fun r => r.entered && !r.inBank && r.cls.num == cls
    && decide (((c.bankQueue r.place.pseudo r.place.bank).filter (fun x => !x.issued)).length < 8)
    && !c.reqs.any (fun x => !x.inBank && x.line == r.line && decide (x.id < r.id)))

/-- Move one request into its bank queue, the classes taking turns, so that another can come over the crossing (R34, R278); none when none
can move. -/
def Channel.moveOne (c : Channel) : Option Channel :=
  ([1, 2, 3].findSome? (fun i =>
    let cls := (c.lastClass + i) % 3
    (c.movable cls).map (fun r => (cls, r)))).map (fun x : Nat × DramReq =>
      Channel.enter { c with lastClass := x.1, reqs := c.reqs.map (fun y : DramReq => if y.id = x.2.id then { y with inBank := true } else y) })

/-- Move requests until none can move. -/
def Channel.moveAll : Nat → Channel → Channel
  | 0, c => c
  | n + 1, c => match c.moveOne with
    | some c => c.moveAll n
    | none => c

/-- Whether a bank has a command in flight. -/
def Channel.bankBusy (c : Channel) (pseudo bank : Nat) : Bool := (c.bankQueue pseudo bank).any DramReq.issued

/-- The oldest request of a bank; or, for a class in panic, the oldest of that class with no earlier request to its line (R279). -/
def Channel.eligible (c : Channel) (pseudo bank : Nat) (cls : Option DramClass) : Option DramReq :=
  let q := c.bankQueue pseudo bank
  match cls with
  | none => q.head?
  | some k => q.find? (fun r => r.cls == k && !q.any (fun x => x.line == r.line && decide (x.id < r.id)))

/-- The banks in the order of the rotation of R279: from the group after the last, and within a group from the bank after its
last. -/
def Channel.rotation (c : Channel) (pseudo : Nat) : List Nat :=
  (List.range 4).flatMap (fun i =>
    let g := (agetD c.lastGroup pseudo 0 + 1 + i) % 4
    (List.range 4).map (fun j => 4 * g + (agetD c.lastBank (pseudo, g) 0 + 1 + j) % 4))

/-- The class served in panic, if one is held: with both, the one not served last (R284). -/
def Channel.panicClass (c : Channel) : Option DramClass :=
  match c.panicVc6 == .on, c.panicMir == .on with
  | true, true => some (if c.panicTurn then .rtVc6 else .rtMirror)
  | true, false => some .rtVc6
  | false, true => some .rtMirror
  | false, false => none

/-- The request a command slot picks (R279): first bank of the rotation that can activate, the port in panic first; a bank
whose request keeps the run's direction is preferred while the run has fewer than 16 commands. -/
def Channel.pick (c : Channel) (pseudo : Nat) : Option DramReq :=
  let cand (cls : Option DramClass) : List DramReq :=
    (c.rotation pseudo).filterMap (fun b => if c.bankBusy pseudo b then none else c.eligible pseudo b cls)
  let pan := match c.panicClass with
    | some k =>
      let first := cand (some k)
      if first.isEmpty && c.panicVc6 == .on && c.panicMir == .on then cand (some (if k == .rtVc6 then .rtMirror else .rtVc6)) else first
    | none => []
  let l := if pan.isEmpty then cand none else pan
  match l.head? with
  | none => none
  | some r =>
    let dir := agetD c.runDir pseudo false
    let len := agetD c.runLen pseudo 0
    if r.write != dir && decide (0 < len) && decide (len < 16) then
      (match l.find? (fun x => x.write == dir) with | some x => some x | none => some r)
    else some r

/-- A command on the pins, in the log: bank and kind (0 refresh, 1 read, 2 write). -/
def dramOut (ch pseudo bank kind : Nat) (s : State) : State := emit (.dram (ch / 32) (ch % 32) ((pseudo * 16 + bank) * 4 + kind)) s

/-- Refresh one bank (R279 to R281). -/
def refreshBank (ch pseudo bank : Nat) (s : State) : State :=
  dramOut ch pseudo bank 0 (setChannel ch (fun c => { c with refreshDue := amod c.refreshDue (pseudo * 16 + bank) 0 (· - 1) }) s)

/-- Issue a picked request (R279). -/
def issueDram (ch : Nat) (r : DramReq) (s : State) : State :=
  let p := r.place
  let s := setChannel ch (fun c =>
    let run := if agetD c.runDir p.pseudo false = r.write then agetD c.runLen p.pseudo 0 + 1 else 1
    { c with
      reqs := c.reqs.map (fun x => if x.id = r.id then { x with issued := true } else x)
      lastGroup := aset c.lastGroup p.pseudo (p.bank / 4)
      lastBank := aset c.lastBank (p.pseudo, p.bank / 4) (p.bank % 4)
      runDir := aset c.runDir p.pseudo r.write
      runLen := aset c.runLen p.pseudo run
      panicTurn := if r.cls == .rtMirror then true else if r.cls == .rtVc6 then false else c.panicTurn }) s
  panicUpdate ch (dramOut ch p.pseudo p.bank (if r.write then 2 else 1) s)

/-- Whether a channel takes commands: trained, serving, its stack in Run. -/
def State.channelRuns (s : State) (ch : Nat) : Bool :=
  (s.channel ch).st == .serving && (s.unit .channel ch).st == .enabled && (s.punit (16 + ch / 32)).st == .run && (agetD s.dram.refresh (ch / 32) 0) != 2

/-! ### Failure and retraining (R289, R290, R685) -/

/-- Fail a channel (R290): one CHANNEL_FAILED; what it held is answered when its requests are served. -/
def failChannel (ch : Nat) (s : State) : State :=
  if (s.channel ch).st = .failed then s else
  notify 0x1601 (leBytes 1 (ch / 32) ++ leBytes 1 (ch % 32)) (setChannel ch (fun c => { c with st := .failed, reqs := [] }) s)

/-- The requests that wait for a line of a channel. -/
def State.waitingOn (s : State) (ch : Nat) : List (Nat × Nat) :=
  (s.txn.reqs.filter (fun q => q.phase == .dram && s.channelOfLine q.line == ch)).map (fun q => (q.src, q.tag))

/-- Answer a repair that the peer asked for (R477): the line's ciphertext and META, or INTEGRITY and zeros for one that is not good. -/
def answerRepair (l tag port : Nat) (bad : Bool) (s : State) : State :=
  let m := s.lineMeta l
  let p := mkPacket 3 0xA8 s.twin.peerEid (s.obj .nodeEid) tag (if bad then Status.integrity.code else 0) 0 (!bad && m.poison)
    (leBytes 16 (l + m.word * 2 ^ 48) ++ (if bad || m.poison then List.replicate 128 0 else padTo 128 (s.cipherOf l)))
  bump .twRepairsServed 0 (sendOnPort port p (s.onTwin (fun t => { t with
    repairWaits := t.repairWaits.filter (fun w => !(w.2.2.1 == l && w.2.2.2.1 == tag && w.2.2.2.2 == port)) })))

/-- A failed channel answers what waited on it: reads POISONED, merges INTEGRITY (R290); writebacks go on without its lines; the peer's repairs
end INTEGRITY (R477). -/
def answerFailed (ch : Nat) (s : State) : State :=
  let s := forAll (s.twin.repairWaits.filter (fun w => channelOfPa (w.2.2.1 * 128) == ch)) (fun w s => answerRepair w.2.2.1 w.2.2.2.1 w.2.2.2.2 true s) s
  forAll (s.waitingOn ch) (fun x s => match s.request x.1 x.2 with
    | some q => settleAged q.line (serveOrRead q s)
    | none => s)
    (forAll s.deep.writebacks (fun w s => readForWriteback w.granule (fun l => channelOfPa (l * 128) == ch) s) s)

/-- Mark every line in a channel's poison list, or all its lines after an overflow, as a commit of each (R685).  The lines that have no
record take the marking together; they are not mirrored one by one (log 157). -/
def unlistPoison (ch : Nat) (s : State) : State :=
  let c := s.channel ch
  let lines := if c.overflow then (s.mem.lines.filter (fun e => channelOfPa (e.1 * 128) == ch)).map Prod.fst else c.poisonList
  let s := onlyIf c.overflow (fun s => s.onMem (fun m => { m with marked := aset m.marked ch (agetD m.marked ch 0 + 1) })) s
  let s := setChannel ch (fun c => { c with poisonList := [], overflow := false, retained := false }) s
  forAll lines (fun l s => match s.storeOf l with
    | some d => commitRaw d (s.readLine d) { s.lineMeta d with poison := true } s
    | none => s) s

/-- Start a retrain after a command timeout (R289): the fourth within 60 s fails the channel (R290). -/
def retrainChannel (ch : Nat) (s : State) : State :=
  let c := s.channel ch
  let recent := s.now :: c.retrainAt.filter (fun t => decide (s.now < t + 60000000000))
  let s := bump .chRetrains ch (setChannel ch (fun c => { c with retrainAt := recent }) s)
  let s := crumb 3 ch 9 0 s
  if recent.length ≥ 4 then answerFailed ch (failChannel ch s) else setChannel ch (fun c => { c with st := .retraining }) s

/-- A channel serves again: what it had issued is issued again, and its listed lines are marked (R289, R685). -/
def channelServes (ch : Nat) (s : State) : State :=
  let failed := (s.channel ch).st == .failed
  let s := setChannel ch (fun c => { c with st := .serving, trained := true, reqs := c.reqs.map (fun r => { r with issued := false }) }) s
  panicUpdate ch (onlyIf failed (unlistPoison ch) s)

/-! ### What a line read meets (R322, R323, R329, R331, R348, R349) -/

/-- The row of a line as the larder names it: channel, pseudo-channel × 16 + bank, row. -/
def rowOf (l : Nat) : Nat × Nat × Nat := let p := placeOf (l * 128); (p.channel, p.pseudo * 16 + p.bank, p.row)

/-- Hand a row to the larder (R331). -/
def badRow (l : Nat) (s : State) : State :=
  if s.integ.badRows.contains (rowOf l) then s else s.onInteg (fun g => { g with badRows := g.badRows ++ [rowOf l] })

/-- Count a corrected line against its channel, symbol and column (R322, R331, R348, R349). -/
def countCorrected (l sym : Nat) (s : State) : State :=
  let p := placeOf (l * 128)
  let ch := p.channel
  let s := bump .symbolCorrected (ch * 36 + sym) (bump .corrected ch s)
  let last := aget s.kodp.rateAt (0x20001, ch)
  let s := match last with
    | some t => if s.now < t + 1000000000 then s else
        logError 1 1 ch (l * 128) sym (s.lineMeta l).tenant 0 (s.onKodp (fun k => { k with rateAt := aset k.rateAt (0x20001, ch) s.now }))
    | none => logError 1 1 ch (l * 128) sym (s.lineMeta l).tenant 0 (s.onKodp (fun k => { k with rateAt := aset k.rateAt (0x20001, ch) s.now }))
  let hour := s.now / 3600000000000
  let (h, n) := agetD s.integ.ceHour ch (hour, 0)
  let n := if h = hour then n + 1 else 1
  let s := s.onInteg (fun g => { g with ceHour := aset g.ceHour ch (hour, n) })
  let s := onlyIf (n == s.obj .ceNotifyThreshold + 1) (notifyLimited 0x1706 ch 10000000 (fun _ => leBytes 1 (ch / 32) ++ leBytes 1 (ch % 32) ++ leBytes 4 n)) s
  let key := (ch, p.pseudo, sym)
  let rows := (agetD s.integ.symbolRows key []).filter (fun x => decide (s.now < x.2 + 86400000000000))
  let row := p.bank * 2 ^ 17 + p.row
  let fresh := !rows.any (fun x => x.1 == row)
  let rows := if fresh then rows ++ [(row, s.now)] else rows
  let s := s.onInteg (fun g => { g with symbolRows := aset g.symbolRows key rows })
  onlyIf (fresh && rows.length == 16) (notifyLimited 0x1705 ch 10000000 (fun _ => leBytes 1 (ch / 32) ++ leBytes 1 (ch % 32) ++ leBytes 1 p.pseudo ++ leBytes 1 sym)) s

/-- A set's tag line has come into the pantry: the requests that wait at the set are tried again, and its frames of DIRTY_AGE are written
back (R295, R299). -/
def tagArrived (l : Nat) (s : State) : State :=
  let cluster := homeCluster (l * 128)
  let set := (localAddr (l * 128) - s.tagBase / 16) / 128
  let s := forAll (s.deep.dirtyAt.filter (fun e => e.1.1 == cluster && e.1.2.1 == set && decide (e.2 + s.obj .dirtyAge * 1000000 ≤ s.now)))
    (fun e s => startWriteback cluster set e.1.2.2 s) s
  forAll (s.deep.waiting.filter (fun w => w.1 == cluster && s.frameSet w.2.1 == set)) (fun w s =>
    match s.request w.2.2.1 w.2.2.2 with
    | some q => orderRequest q false s
    | none => s) s

/-- Go on with what a line was read for, now that it can be used (R53, R292, R300, R322). -/
def resumeCause (l : Nat) (cause : DramCause) (s : State) : State :=
  match cause with
  | .request src tag =>
    match s.request src tag with
    | some q => if q.phase = .dram then settleAged q.line (serve q (pantryFill l q.keyId s)) else s
    | none => s
  -- an answer under another epoch than the core's is refused and counted (R589)
  | .access src tag epoch => if epoch = s.accessEpoch src then noteReturned l src tag s else bump .staleEpoch ((src - 2 ^ 18) / 4) s
  | .tagLine => tagArrived l (pantryFill l 0 s)
  | .writeback g => readForWriteback g (fun x => x == l) s
  | .peerRepair tag port => answerRepair l tag port false s
  | _ => s

/-- Whether a twin repair can be asked: a twin with an Active TW port and the peer's copy (R323). -/
def State.canRepair (s : State) : Bool :=
  (s.twin.st == .active || s.twin.st == .standby || s.twin.st == .releasing) && !s.twPorts.isEmpty

/-- Ask the peer for a line (R323, R477); a repair of the line that runs is joined (R341). -/
def askRepair (l : Nat) (cause : DramCause) (s : State) : State :=
  let s' := s.onInteg (fun g => { g with repairs := g.repairs ++ [{ line := l, tag := 0, cause := cause }] })
  if s.integ.repairs.any (fun r => r.line == l && decide (r.tag < 4096)) then s'
  else
    let stream := homeDie (l * 128)
    let n := if s.owner then (if stream = 0 then s.twin.mseq0 else s.twin.mseq1) else (if stream = 0 then s.twin.applied0 else s.twin.applied1)
    bump .twRepairsAsked 0 (issuePool .repair l (some (s.twPortAt l)) (mkPacket 1 0xA7 s.twin.peerEid (s.obj .nodeEid) 0 0 0 false
      (leBytes 16 (l + n * 2 ^ 45 + stream * 2 ^ 77))) s')

/-- An uncorrectable line (R322): twin repair, a clean frame filled again from its sled, or poison. -/
def uncorrectableLine (l : Nat) (cause : DramCause) (s : State) : State :=
  let ch := (placeOf (l * 128)).channel
  let s := badRow l (crumb 3 ch 7 (l * 128) (bump .uncorrectable ch s))
  match cause with
  -- both copies are lost: the peer is told, and the line is poisoned here too (R323, R477)
  | .peerRepair tag port => answerRepair l tag port true (poisonLine l 0 (logError 2 4 ch (l * 128) 0 (s.lineMeta l).tenant 0 s))
  | _ =>
  if s.canRepair then askRepair l cause (logError 2 2 ch (l * 128) 0 (s.lineMeta l).tenant 0 s)
  else
    let frame := (s.frameOf l).bind (fun f => let t := s.tag f.1 f.2.1 f.2.2; if tagHas t tagValid && !tagHas t tagDirty then some (f, t) else none)
    match frame with
    | some (f, t) =>
      let s := logError 2 3 ch (l * 128) 0 (s.lineMeta l).tenant 0 (bump .frameRefills ch s)
      let s := s.onInteg (fun g => { g with repairs := g.repairs ++ [{ line := l, tag := 4096, cause := cause }] })
      if tagHas t tagFilling then s
      else bump .sledRefills (granuleSled (tagGranule t))
        (startFill (tagGranule t) f.2.1 f.2.2 (l % 512) (if tagHas t tagCold then 2 else 1) (tagHas t tagPin) s)
    | none => resumeCause l cause (poisonLine l 0 (logError 2 4 ch (l * 128) 0 (s.lineMeta l).tenant 0 s))

/-- End the repairs of a line: with the peer's copy good it is used, else the line is poisoned (R323). -/
def endRepair (l : Nat) (good : Bool) (s : State) : State :=
  let ch := (placeOf (l * 128)).channel
  let waiting := s.integ.repairs.filter (fun r => r.line == l && r.tag < 4096)
  let s := s.onInteg (fun g => { g with repairs := g.repairs.filter (fun r => !(r.line == l && r.tag < 4096)) })
  let s := if good then bump .twinRepairs ch s else bump .twRepairsFailed 0 (poisonLine l 0 s)
  forAll waiting (fun r s => resumeCause l r.cause s) s

/-- Scrub corrected a line: its row counts one pass; at ROW_REPAIR_THRESHOLD passes the row is handed to the larder (R331). -/
def scrubRow (l : Nat) (s : State) : State :=
  let row := rowOf l
  let pass := agetD s.integ.passNo row.1 0 + 1
  let (n, last) := agetD s.integ.rowPasses row (0, 0)
  let n := if last = pass then n else n + 1
  let s := s.onInteg (fun g => { g with rowPasses := aset g.rowPasses row (n, pass) })
  onlyIf (decide (n ≥ s.obj .rowRepairThreshold)) (badRow l) s

/-- What is left of the errors of a line after its decoder's correction is in the line that is used (R321): it stays in what the model holds
of the line, unless the pantry has it. -/
def applyResidual (l : Nat) (errors : List (Nat × Nat)) (s : State) : State :=
  let r := flipped errors
  if r.all (fun x => x == 0) || (s.lineMeta l).inPantry then s
  else
    let w := Nat.xor (s.lineMeta l).word (r.getD 35 0)
    setMeta l (fun m => { m with poison := bits w 0 1 == 1, tenant := bits w 1 15, version := bits w 16 16, cipher := true })
      (putBytes (l * 128) (List.zipWith (fun a b => a ^^^ b) (padTo 128 (s.cipherOf l)) (((r.drop 3).take 32).flatMap (leBytes 4))) s)

/-- A line read for patrol scrub is checked (R329): what is corrected or lost goes to DRAM, from the pantry where it holds the line. -/
def scrubRead (l : Nat) (errors : List (Nat × Nat)) (s : State) : State :=
  let toDram (s : State) : State := dramPush l true .normal .scrub s
  match lineDecode errors with
  | .clean => applyResidual l errors s
  | .corrected sym v =>
    scrubRow l (countCorrected l sym (bump .scrubCorrections (channelOfPa (l * 128)) (toDram (applyResidual l (errors ++ [(sym, v)]) s))))
  | .uncorrectable => if (s.lineMeta l).inPantry then toDram s else uncorrectableLine l .scrub s

/-- A line read from DRAM is checked (R320 to R322): `errors` are the symbols that the stack brought wrong, with the bits flipped in each. -/
def lineRead (l : Nat) (errors : List (Nat × Nat)) (cause : DramCause) (s : State) : State :=
  if cause = .scrub then scrubRead l errors s else
  match lineDecode errors with
  | .clean => resumeCause l cause (applyResidual l errors s)
  | .corrected sym v =>
    let s := resumeCause l cause (countCorrected l sym (applyResidual l (errors ++ [(sym, v)]) s))
    setMeta l (fun m => if m.inPantry then { m with dirty := true } else m) s
  | .uncorrectable => uncorrectableLine l cause s

end Sys2Proof.Machine
end

