-- ==== Sys2Proof/Machine/OpsRecipe.lean ====
section
/-!
DEFINITION. Machine/OpsRecipe.lean: recipe descriptors, their checks, acceptance, the tile count and the end of a recipe
(R352 to R365, R369 to R373, R379 to R381).
-/
namespace Sys2Proof.Machine

/-! ### The descriptor (R352 to R354) -/

/-- A descriptor from its 64 bytes (R352). -/
def descOf (b : List Byte) : Desc :=
  let w (n : Nat) : Nat := leNat ((b.drop (8 * n)).take 8)
  { code := bits (w 0) 0 8, flags := bits (w 0) 8 8, op := bits (w 0) 16 8, fmtIn := bits (w 0) 24 8, fmtOut := bits (w 0) 32 8
    startTile := bits (w 0) 40 24, doneAddr := w 1, w2 := w 2, w3 := w 3, w4 := w 4, w5 := w 5, w6 := w 6, w7 := w 7 }

/-- The 64 bytes of a descriptor. -/
def Desc.bytes (d : Desc) : List Byte :=
  leBytes 8 (d.code + d.flags * 2 ^ 8 + d.op * 2 ^ 16 + d.fmtIn * 2 ^ 24 + d.fmtOut * 2 ^ 32 + d.startTile * 2 ^ 40) ++ leBytes 8 d.doneAddr
    ++ leBytes 8 d.w2 ++ leBytes 8 d.w3 ++ leBytes 8 d.w4 ++ leBytes 8 d.w5 ++ leBytes 8 d.w6 ++ leBytes 8 d.w7

/-- A flag of R353, by its bit in FLAGS: 0 ORDER, 1 ALLOC, 2 STREAM, 3 RT_STREAM, 4 FAST, 5 ACCUMULATE, 6 RESUME, 7 CHECK. -/
def Desc.flag (d : Desc) (b : Nat) : Bool := bits d.flags b 1 == 1

/-- The element store of FMT_IN; a descriptor that passed step 1 has one where it is read. -/
def Desc.inp (d : Desc) : Store := (Store.ofCode d.fmtIn).getD (.plain .int8)
/-- The element store of FMT_OUT. -/
def Desc.out (d : Desc) : Store := (Store.ofCode d.fmtOut).getD (.plain .int8)

/-- INPUTS of REDUCE. -/
def Desc.inputs (d : Desc) : Nat := bits d.w6 0 16
/-- BAGS of GATHER-REDUCE; COUNT of SCATTER-ADD is `w5`'s. -/
def Desc.bags (d : Desc) : Nat := bits d.w6 0 32
/-- ROW_ELEMS of GATHER-REDUCE and SCATTER-ADD. -/
def Desc.rowElems (d : Desc) : Nat := if d.code = 5 then bits d.w6 32 32 else bits d.w5 32 32
/-- TABLE_ROWS. -/
def Desc.tableRows (d : Desc) : Nat := if d.code = 5 then bits d.w7 0 32 else bits d.w6 0 32
/-- COUNT of SCATTER-ADD. -/
def Desc.count (d : Desc) : Nat := bits d.w5 0 32
/-- N, RANK and WAIT_MS of ALLREDUCE-STAGE. -/
def Desc.n (d : Desc) : Nat := bits d.w7 0 16
/-- RANK. -/
def Desc.rank (d : Desc) : Nat := bits d.w7 16 16
/-- WAIT_MS. -/
def Desc.waitMs (d : Desc) : Nat := bits d.w7 32 32
/-- K of KV-SELECT. -/
def Desc.k (d : Desc) : Nat := bits d.w6 0 16
/-- SINK. -/
def Desc.sink (d : Desc) : Nat := bits d.w6 16 16
/-- RECENT. -/
def Desc.recent (d : Desc) : Nat := bits d.w6 32 16
/-- TILES of KERNEL. -/
def Desc.tiles (d : Desc) : Nat := bits d.w5 0 32

/-- The fields of PARAMS of OPTIM-STEP (R382): a field of `n` bytes at byte `i`. -/
def parm (p : List Byte) (i n : Nat) : Nat := leNat ((p.drop i).take n)

/-- HEADS of a KV store header (R313). -/
def kvHeads (h : List Byte) : Nat := parm h 0 2
/-- HEAD_DIM. -/
def kvDim (h : List Byte) : Nat := parm h 2 2
/-- KV_FORMAT. -/
def kvFormat (h : List Byte) : Nat := parm h 4 1
/-- TOKENS. -/
def kvTokens (h : List Byte) : Nat := parm h 8 4
/-- BLOCK_BASE. -/
def kvBlockBase (h : List Byte) : Nat := parm h 16 8
/-- SUMMARY_BASE. -/
def kvSummaryBase (h : List Byte) : Nat := parm h 24 8
/-- UNIT_STRIDE. -/
def kvUnitStride (h : List Byte) : Nat := parm h 32 4
/-- SUMMARY_STRIDE. -/
def kvSummaryStride (h : List Byte) : Nat := parm h 36 4
/-- NB of R385. -/
def kvBlocks (h : List Byte) : Nat := (kvTokens h + 63) / 64
/-- Bytes of a unit: 128 × HEAD_DIM × element size (R388). -/
def kvUnitBytes (h : List Byte) : Nat := 128 * kvDim h * (if kvFormat h ≤ 3 then 2 else 1)
/-- S of R385. -/
def kvOutStride (d : Desc) : Nat := (8 * d.k + 127) / 128 * 128

/-- Whether a store header meets R313. -/
def kvHeaderOk (h : List Byte) : Bool :=
  decide (1 ≤ kvHeads h) && decide (kvHeads h ≤ 256) && decide (32 ≤ kvDim h) && decide (kvDim h ≤ 512) && kvDim h % 32 == 0
  && [2, 3, 4, 5].contains (kvFormat h) && decide (kvTokens h ≤ 4194304) && kvBlockBase h % 128 == 0 && kvSummaryBase h % 128 == 0
  && kvUnitStride h % 128 == 0 && decide (kvUnitStride h ≥ kvUnitBytes h) && kvSummaryStride h % 128 == 0
  && decide (kvSummaryStride h ≥ 4 * kvDim h)

/-- Whether PARAMS meets R382. -/
def paramsOk (p : List Byte) : Bool := [1, 3].contains (parm p 56 1) && (p.drop 57).all (fun b => b == 0)

/-- Whether a code reads a line of parameters at acceptance: PARAMS of OPTIM-STEP, STORE of KV-SELECT. -/
def Desc.paramAddr (d : Desc) : Option Nat := if d.code = 8 then some d.w7 else if d.code = 9 then some d.w2 else none

/-- The flags a code may carry (R353). -/
def Desc.flagsOk (d : Desc) : Bool :=
  (d.code != 12 || !d.flag 1) && (!d.flag 2 || d.code == 9) && (!d.flag 3 || (d.code == 9 && d.flag 2))
  && (!d.flag 4 || (d.fmtOut == 1 && ((d.code == 4 && (d.op == 0 || d.op == 6)) || ((d.code == 5 || d.code == 7) && d.op == 0))))
  && (!d.flag 5 || d.code == 4 || d.code == 5) && (!d.flag 6 || (d.code != 7 && d.code != 12)) && (!d.flag 7 || d.code == 8)

/-- The sub-operations of a code. -/
def Desc.opOk (d : Desc) : Bool :=
  match d.code with
  | 4 => decide (d.op ≤ 6) | 5 => decide (d.op ≤ 2) | 7 => decide (d.op ≤ 5) | 8 => d.op == 1 || d.op == 2
  | 10 => decide (d.op ≤ 3) | 11 => decide (d.op ≤ 1) | _ => d.op == 0

/-- The format pairings of R404. -/
def Desc.fmtOk (d : Desc) : Bool :=
  let any (c : Nat) : Bool := (Store.ofCode c).isSome
  let fl (c : Nat) : Bool := [2, 3, 4, 5].contains c
  match d.code with
  | 4 | 5 | 7 =>
    if d.op = 6 then (fl d.fmtIn || decide (d.fmtIn ≥ 0x10)) && any d.fmtIn && any d.fmtOut
    else if d.op ≥ 3 then (d.fmtIn == 6 || d.fmtIn == 7) && d.fmtOut == d.fmtIn
    else any d.fmtIn && any d.fmtOut
  | 6 => any d.fmtIn && any d.fmtOut
  | 8 => (d.fmtIn == 1 || fl d.fmtIn) && (d.fmtOut == 0 || d.fmtOut == 1 || fl d.fmtOut)
  | 9 => fl d.fmtIn && d.fmtOut == 0
  | _ => d.fmtIn == 0 && d.fmtOut == 0

/-- The reserved words and bits of the body (R354). -/
def Desc.reservedOk (d : Desc) : Bool :=
  match d.code with
  | 1 | 2 | 3 => d.w5 == 0 && d.w6 == 0 && d.w7 == 0
  | 4 => bits d.w6 16 48 == 0 && d.w7 == 0
  | 5 => bits d.w7 32 32 == 0
  | 6 => bits d.w6 32 32 == 0 && d.w7 == 0
  | 9 => bits d.w6 48 16 == 0 && d.w7 == 0
  | 10 => d.w6 == 0 && d.w7 == 0
  | 11 => d.w4 == 0 && d.w5 == 0 && d.w6 == 0 && d.w7 == 0
  | 12 => d.w6 == 0 && d.w7 == 0
  | 13 => bits d.w5 32 32 == 0
  | _ => true

/-- Whether two spans meet. -/
def spansMeet (a la b lb : Nat) : Bool := decide (0 < la) && decide (0 < lb) && decide (a < b + lb) && decide (b < a + la)

/-- A recipe's own limits (R354, R374 to R392), with the parameter line where it has one. -/
def Desc.limitsOk (d : Desc) (p : List Byte) : Bool :=
  let length (n : Nat) : Bool := decide (1 ≤ n) && decide (n ≤ 2 ^ 40)
  match d.code with
  | 1 | 2 | 3 => length d.w3
  | 4 => decide (1 ≤ d.w3) && d.w3 % d.out.block == 0 && d.w3 % d.inp.block == 0 && d.w2 % d.out.align == 0 && d.w4 % d.inp.align == 0
    && decide (1 ≤ d.inputs) && decide (d.inputs ≤ 1024) && d.w5 % d.inp.align == 0 && (d.op != 6 || d.inputs % 2 == 0)
  | 5 => d.rowElems % d.inp.block == 0 && d.rowElems % d.out.block == 0 && d.w2 % d.out.align == 0 && d.w3 % d.inp.align == 0
  | 6 => d.rowElems % d.inp.block == 0 && d.rowElems % d.out.block == 0 && d.w2 % d.out.align == 0 && d.w3 % d.inp.align == 0
  | 7 => d.w2 % 128 == 0 && d.w3 % d.inp.block == 0 && d.w3 % d.out.block == 0 && d.w4 % d.inp.align == 0 && d.w5 % d.out.align == 0
    && decide (1 ≤ d.n) && decide (d.n ≤ 512) && decide (1 ≤ d.waitMs) && decide (d.waitMs ≤ 600000) && d.startTile == 0
  | 8 => d.w7 % 128 == 0 && paramsOk p && d.w2 % 4 == 0 && d.w3 % d.inp.align == 0
    && d.w4 % (if parm p 56 1 = 1 then 4 else 2) == 0 && d.w5 % (if parm p 56 1 = 1 then 4 else 2) == 0
    && (if d.fmtOut = 0 then d.w6 == 0 else d.w6 % d.out.align == 0)
  | 9 => d.w2 % 128 == 0 && kvHeaderOk p && d.w3 % d.inp.align == 0 && d.w5 % 4 == 0
    && decide (1 ≤ d.k) && decide (d.k ≤ 4096) && decide (d.sink + d.recent ≤ d.k)
  | 10 => length d.w3 && d.w2 % 65536 == 0 && d.w3 % 128 == 0
  | 11 => length d.w3 && (d.op == 0 || d.w2 % 65536 == 0)
  | 12 => d.startTile == 0 && d.w2 % 128 == 0 && decide (0 < d.w5) && d.w4 % 128 == 0 && d.w5 % 128 == 0 && !spansMeet d.w2 128 d.w4 d.w5
  | 13 => decide (1 ≤ d.tiles) && decide (d.tiles ≤ 2 ^ 24)
  | _ => false

/-- Pieces of a span at the 64 KiB boundaries of its context address (R361). -/
def pieces (lead len : Nat) : Nat := if len = 0 then 0 else (lead + len - 1) / 65536 - lead / 65536 + 1

/-- The bytes of a piece, as offsets from the lead operand's base: first and one past the last. -/
def pieceOf (lead len i : Nat) : Nat × Nat :=
  let lo := (lead / 65536 + i) * 65536
  (lo - lead, min len (lo + 65536 - lead))

/-- The lead operand of a recipe's first phase: address and bytes (R354, R361, R384, R385). -/
def Desc.lead (d : Desc) (p : List Byte) : Nat × Nat :=
  match d.code with
  | 4 => (d.w2, d.out.bytes d.w3)
  | 5 => (d.w2, d.out.bytes (d.bags * d.rowElems))
  | 6 => (d.w3, d.inp.bytes (d.count * d.rowElems))
  | 7 => (d.w5, d.out.bytes d.w3)
  | 8 => if d.flag 7 then (d.w3, d.inp.bytes (parm p 32 8)) else (d.w2, 4 * parm p 32 8)
  | 9 => (kvSummaryBase p, kvBlocks p * kvHeads p * kvSummaryStride p)
  | 12 => (d.w2, 1)
  | 13 => (d.w4, 65536 * d.tiles)
  | _ => (d.w2, d.w3)

/-- Tiles of the first phase where a recipe has several: scan tiles, score tiles (R384, R385). -/
def Desc.phaseOne (d : Desc) (p : List Byte) : Nat :=
  if (d.code == 8 && d.flag 7) || d.code == 9 then pieces (d.lead p).1 (d.lead p).2 else 0

/-- The number of tiles of a recipe (R361, R384, R385, R392). -/
def Desc.total (d : Desc) (p : List Byte) : Nat :=
  if d.code = 8 ∧ d.flag 7 = true then d.phaseOne p + pieces d.w2 (4 * parm p 32 8)
  else if d.code = 9 then d.phaseOne p + kvHeads p + (if d.flag 2 then kvHeads p * min d.k (kvBlocks p) else 0)
  else if d.code = 13 then d.tiles
  else pieces (d.lead p).1 (d.lead p).2

/-! ### Operands (R355 step 2, R362) -/

/-- An operand span: context address, bytes, written, read. -/
structure Span where
  addr : Nat
  len  : Nat
  w    : Bool
  r    : Bool
deriving DecidableEq, Repr

/-- A span that is read. -/
def rdSpan (addr len : Nat) : Span := { addr := addr, len := len, w := false, r := true }
/-- A span that is written. -/
def wrSpan (addr len : Nat) : Span := { addr := addr, len := len, w := true, r := false }
/-- A span that is read and written in place. -/
def rwSpan (addr len : Nat) : Span := { addr := addr, len := len, w := true, r := true }

/-- The spans of a whole recipe that do not depend on data, in descriptor order (R355 step 2). -/
def Desc.spans (d : Desc) (p : List Byte) : List Span :=
  let e := parm p 32 8
  let mom := if parm p 56 1 = 1 then 4 else 2
  match d.code with
  | 1 => [wrSpan d.w2 d.w3]
  | 2 => [wrSpan d.w2 d.w3, rdSpan d.w4 d.w3]
  | 3 => [rdSpan d.w2 d.w3, rdSpan d.w4 d.w3]
  | 4 => { wrSpan d.w2 (d.out.bytes d.w3) with r := d.flag 5 } ::
      (List.range d.inputs).map (fun i => rdSpan (d.w4 + i * d.w5) (d.inp.bytes d.w3))
  | 5 => [{ wrSpan d.w2 (d.out.bytes (d.bags * d.rowElems)) with r := d.flag 5 }, rdSpan d.w5 (4 * (d.bags + 1))]
  | 6 => [rdSpan d.w3 (d.inp.bytes (d.count * d.rowElems)), rdSpan d.w4 (4 * d.count)]
  | 7 => [wrSpan d.w2 (128 + 32 * d.n), rdSpan d.w4 (d.inp.bytes d.w3), wrSpan d.w5 (d.out.bytes d.w3)]
  | 8 => [rwSpan d.w2 (4 * e), rdSpan d.w3 (d.inp.bytes e), rwSpan d.w4 (mom * e)] ++ (if d.op = 1 then [rwSpan d.w5 (mom * e)] else [])
      ++ (if d.fmtOut = 0 then [] else [wrSpan d.w6 (d.out.bytes e)]) ++ [rdSpan d.w7 128]
  | 9 => [rdSpan d.w2 128, rdSpan d.w3 (d.inp.bytes (kvHeads p * kvDim p)), wrSpan d.w4 (kvHeads p * kvOutStride d),
      wrSpan d.w5 (4 * kvBlocks p * kvHeads p), rdSpan (kvSummaryBase p) (kvBlocks p * kvHeads p * kvSummaryStride p)]
  | 10 => if d.op ≤ 1 then [rdSpan d.w2 d.w3, rdSpan d.w4 d.w3] else [wrSpan d.w2 d.w3, rdSpan d.w4 d.w3]
  | 11 => [rdSpan d.w2 d.w3]
  | 12 => [rwSpan d.w2 128, rdSpan d.w4 d.w5]
  | _ => []

/-- Step 2 of R355: no written span meets a read span of another operand, and nothing meets the completion record. -/
def spansOk (l : List Span) (done : Nat) : Bool :=
  let n := l.length
  l.all (fun x => !spansMeet x.addr x.len done 128)
    && (List.range n).all (fun i => (List.range n).all (fun j =>
      match l[i]?, l[j]? with
      | some x, some y => i == j || !(x.w && y.r && spansMeet x.addr x.len y.addr y.len)
      | _, _ => true))

/-- Whether the header line of a chunk record of DELTA-PACK lies in a span (R389): the packed lines behind it depend on data, and are not
checked at acceptance. -/
def Desc.headerMeets (d : Desc) (addr len : Nat) : Bool :=
  let k := if addr < d.w5 + 128 then 0 else (addr - d.w5 - 128) / 65664 + 1
  decide (k < (d.w3 + 65535) / 65536) && decide (d.w5 + k * 65664 < addr + len)

/-- Step 2 of R355 for the header lines of DELTA: a pack writes them, an apply reads them. -/
def Desc.headersOk (d : Desc) : Bool :=
  d.code != 10 || !(d.headerMeets d.doneAddr 128 || d.headerMeets d.w2 d.w3 || (decide (d.op ≤ 1) && d.headerMeets d.w4 d.w3))

/-! ### Progress (R363, R364) -/

/-- Whether a tile counts as committed: run here, skipped under R360, or below START_TILE (R363, R390). -/
def Recipe.committed (r : Recipe) (t : Nat) : Bool :=
  r.done.contains t || (r.d.code != 11 && (decide (t < r.d.startTile) || r.skip.contains t))

/-- F: the lowest tile that has not committed (R363). -/
def Recipe.f (r : Recipe) : Nat := ((List.range r.total).find? (fun t => !r.committed t)).getD r.total

/-- Where tile `t`'s phase begins: every tile below it has committed before `t` is dispatched (R384, R385). -/
def Recipe.barrier (r : Recipe) (t : Nat) : Nat :=
  if r.d.code = 8 then (if t < r.phaseOne then 0 else r.phaseOne)
  else if r.d.code = 9 then
    (if t < r.phaseOne then 0 else if t < r.phaseOne + kvHeads r.params then r.phaseOne else r.phaseOne + kvHeads r.params)
  else 0

/-- A CHECK scan that found non-finite elements, all of it run (R384). -/
def Recipe.scanFailed (r : Recipe) : Bool := r.d.code == 8 && decide (0 < r.scanBad) && decide (r.f ≥ r.phaseOne)

/-- A recipe's record. -/
def State.recipe (s : State) (id : Nat) : Option Recipe := s.recp.recipes.find? (fun r => r.id == id)

/-- The tiles of a recipe that are queued or running: tile and core. -/
def State.inFlight (s : State) (id : Nat) : Nat :=
  let n (l : List TileRef) : Nat := (l.filter (fun t => t.recipe == id)).length
  (s.recp.queues.map (fun e => n e.2)).sum + (s.recp.locals.map (fun e => n e.2)).sum
    + (s.core.cores.filter (fun e => match e.2.run with | some t => t.recipe == id | none => false)).length

/-- The status a recipe ends with (R364): the lowest failed tile, the cancel, a loss, poison, OK. -/
def Recipe.status (r : Recipe) : Status :=
  match (List.range (r.total + 1)).find? (fun t => ahas r.failed t) with
  | some t => (aget r.failed t).getD .aborted
  | none => if r.cancelled then .aborted else if r.withLoss then .integrity else if r.poison || decide (0 < r.poisoned) then .poisoned else .ok

/-- FIRST_FAILED_TILE: the lowest tile not committed, all ones when every tile committed (R357). -/
def Recipe.firstFailed (r : Recipe) : Nat := if r.f ≥ r.total then 0xFFFFFF else r.f

/-- TILE_MAP: bit j says that tile FIRST_FAILED_TILE + 1 + j committed (R358). -/
def Recipe.tileMap (r : Recipe) : Nat :=
  if r.f ≥ r.total then 0 else
    (List.range 512).foldl (fun m j => if decide (r.f + 1 + j < r.total) && r.committed (r.f + 1 + j) then m + 2 ^ j else m) 0

/-- The CRC-64 register after some bytes (R121). -/
def crc64Reg (bs : List Byte) (c : Nat) : Nat := crcF 64 0x42F0E1EBA9EA3693 bs c

/-- The digest of the run, from the parts of its tiles in order (R390): the CRC-64 of the whole span, of which each part is the
register of one piece from zero and each piece's length moves what came before it; or SHA-256 of the chunk digests. -/
def Recipe.digest (r : Recipe) : List Byte :=
  if r.d.code ≠ 11 then List.replicate 32 0
  else if r.d.op = 0 then
    let c := (List.range r.total).foldl (fun c t =>
      let pc := pieceOf r.d.w2 r.d.w3 t
      Nat.xor (crc64Reg (List.replicate (pc.2 - pc.1) 0) c) (leNat (agetD r.parts t []))) (2 ^ 64 - 1)
    leBytes 32 (Nat.xor c (2 ^ 64 - 1))
  else padTo 32 (Config.sha256 ((List.range r.total).foldl (fun b t => b ++ padTo 32 (agetD r.parts t [])) []))

/-- RESULT of a recipe: for DIGEST the first eight bytes of the digest, when every tile ran. -/
def Recipe.resultNow (r : Recipe) : Nat :=
  match r.exc with
  | some e => e.1
  | none => if r.d.code = 11 then leNat (r.digest.take 8) else if r.scanFailed then 0 else r.result

/-- RESULT2. -/
def Recipe.result2Now (r : Recipe) : Nat :=
  match r.exc with
  | some e => e.2
  | none => if r.scanFailed then r.scanBad else r.result2

/-- MARKS, with SKIPPED after a failed scan (R357, R384). -/
def Recipe.marksNow (r : Recipe) : Nat := if r.scanFailed then r.marks ||| 4 else r.marks

/-- Slot 1 of RECIPE_DONE (R357). -/
def Recipe.doneSlot (r : Recipe) : List Byte :=
  leBytes 16 (r.firstFailed + r.marksNow * 2 ^ 24 + min r.poisoned (2 ^ 32 - 1) * 2 ^ 32 + r.resultNow * 2 ^ 64)

/-- The completion record (R358). -/
def Recipe.record (r : Recipe) (st : Status) : List Byte :=
  leBytes 16 (r.d.code + st.code * 2 ^ 8 + r.marksNow * 2 ^ 16 + r.firstFailed * 2 ^ 32 + min r.poisoned (2 ^ 32 - 1) * 2 ^ 64 + r.total % 2 ^ 32 * 2 ^ 96)
    ++ leBytes 8 r.resultNow ++ leBytes 8 r.result2Now ++ r.digest ++ leBytes 64 r.tileMap

/-- Slot 1 of RECIPE_DONE rebuilt from a completion record (R177, R358). -/
def doneOfRecord (b : List Byte) : List Byte :=
  let w := leNat (b.take 16)
  leBytes 16 (bits w 32 24 + bits w 16 3 * 2 ^ 24 + bits w 64 32 * 2 ^ 32 + leNat ((b.drop 16).take 8) * 2 ^ 64)

/-! ### Accesses of the Varisk through a context -/

/-- Write a whole line of the Varisk's own through a context address: false where it does not translate, or its channel has
failed (R358); `none` while the line is not ready. -/
def writeThrough (by_ : AccBy) (ctx addr : Nat) (bytes : List Byte) (s : State) : State × Option Bool :=
  match s.segmentNow ctx addr with
  | none => (s, some false)
  | some (pa, tenant, keyId) =>
    let line := pa / 128
    match readyLine by_ line 0 true false s with
    | (s, .wait) => (s, none)
    | (s, .fail _) => (s, some false)
    | (s, .ready) => if s.lineFailed line then (s, some false) else (writeLine line bytes false 4 tenant keyId (dropEntry line s), some true)

/-! ### The end of a recipe (R357, R358, R364, R373) -/

/-- A packet of a recipe, encrypted when its context's owner is sealed (R569). -/
def recipePacket (ctx : Nat) (p : Packet) (s : State) : Packet := s.sealFor (s.readDesc ctx).owner p

/-- RECIPE_DONE leaves through the request's end: ledgered, and on an owner with a standby held until the standby has
acknowledged what was sent (R177, R373, R469). -/
def sendDone (r : Recipe) (pkt : Packet) (st : Status) (slot1 : List Byte) (s : State) : State :=
  let q := newRequest s r.port r.slot pkt .mirror 0 (s.readDesc r.ctx).owner 0 0
  let s := s.onTxn (fun t => { t with reqs := t.reqs ++ [{ q with ordered := true }] })
  finish q st 0 0 (recipePacket r.ctx (mkPacket 5 0x52 pkt.src pkt.dest pkt.tag st.code 0 false slot1) s) true s

/-- The counter of a recipe's end (R395). -/
def endCtr : Status → Ctr
  | .ok => .rcOk | .poisoned => .rcPoisoned | .aborted => .rcAborted | .timeout => .rcTimeout | _ => .rcFailed

/-- Take a recipe out: its tiles, its grants, its mirror record (R394, R472). -/
def dropRecipe (r : Recipe) (s : State) : State :=
  let s := endRecipeGrants r.id (dropTiles r.id (fun _ => false) s)
  let s := s.onRecp (fun x => { x with recipes := x.recipes.filter (fun y => y.id ≠ r.id) })
  mirrorState 0 7 1 (leBytes 2 r.slot ++ leBytes 2 r.tag) s

/-- A recipe whose completion record has been written, or cannot be, is over: RECIPE_DONE leaves (R357, R358). -/
def closeRecipe (r : Recipe) (st : Status) (written : Bool) (s : State) : State :=
  let st := if written then st else .integrity
  sendDone r r.pkt st r.doneSlot (bump (endCtr st) (r.die * 16 + r.d.code) (dropRecipe r s))

/-- End a recipe with a status: its completion record, then RECIPE_DONE (R358, R364, R373); unchanged while the record's line
is not ready. -/
def endRecipe (r : Recipe) (st : Status) (s : State) : State :=
  match writeThrough (AccBy.recipe r.id r.slot) r.ctx r.d.doneAddr (r.record st) s with
  | (s, none) => s
  | (s, some written) => closeRecipe r st written s

/-! ### Stage areas (R379 to R381) -/

/-- The recipes that have arrived at a stage: those of its context and STAGE in Collecting or Reducing. -/
def State.arrived (s : State) (ctx stage : Nat) : List Recipe :=
  s.recp.recipes.filter (fun r => r.d.code == 7 && r.ctx == ctx && r.d.w2 == stage && (r.phase == .collecting || r.phase == .reducing))

/-- The line of a stage header as it stands, through the context. -/
def State.stageLine (s : State) (ctx stage : Nat) : List Byte :=
  match s.segmentNow ctx stage with
  | some (pa, tenant, keyId) => (s.view (pa / 128) tenant keyId).2
  | none => List.replicate 128 0

/-- A header with ROUND as given, ARRIVED 0, STATE 0 and the map cleared (R380, R381). -/
def clearedHeader (h : List Byte) (round : Nat) : List Byte :=
  leBytes 8 round ++ (h.drop 8).take 2 ++ leBytes 3 0 ++ (h.drop 13).take 51 ++ leBytes 64 0

/-- Make several lines ready for writes, through a context; true when all are, or cannot be written at all. -/
def readyAll (by_ : AccBy) (ctx : Nat) : List Nat → State → State × Bool
  | [], s => (s, true)
  | a :: rest, s =>
    let (s, ok) := match s.segmentNow ctx a with
      | some (pa, _, _) => match readyLine by_ (pa / 128) 0 true true s with
        | (s, .wait) => (s, false)
        | (s, _) => (s, true)
      | none => (s, true)
    let (s, more) := readyAll by_ ctx rest s
    (s, ok && more)

/-- How a recipe that has arrived at a stage ends (R364, R380, R381): with the outcome of the recipe whose tiles ran the reduction, or with one
of its own, or ABORTED. -/
def Recipe.stageEnd (r : Recipe) (by_ : Option Recipe) (round : Nat) : Recipe × Status :=
  match by_ with
  | some m =>
    let released := m.failed.isEmpty
    let r := { r with total := m.total, done := m.done, failed := m.failed, withLoss := m.withLoss, poison := m.poison, poisoned := m.poisoned
                      marks := m.marks, result := if released then round else 0, result2 := if released then r.d.w3 else 0, phase := .running }
    (r, r.status)
  | none => (r, if r.failed.isEmpty then .aborted else r.status)

/-- End every recipe that has arrived at a stage (R380, R381): their records, the header with the ROUND that follows and nothing
arrived, then RECIPE_DONE to each.  `by_` is the recipe whose tiles ran the reduction, whose outcome is everyone's; without it
a recipe that has no outcome of its own ends ABORTED. -/
def endStage (ctx stage : Nat) (by_ : Option Recipe) (s : State) : State :=
  let l := s.arrived ctx stage
  let who := AccBy.recipe ((l.head?.map (fun r => r.id)).getD 0) ((l.head?.map (fun r => r.slot)).getD 0)
  let (s, ready) := readyAll who ctx (stage :: l.map (fun r => r.d.doneAddr)) s
  if !ready then s
  else
    let h := s.stageLine ctx stage
    let round := parm h 0 8
    let released : Bool := match by_ with | some m => m.failed.isEmpty | none => false
    let ends := l.map (fun r => r.stageEnd by_ round)
    let (s, written) := ends.foldl (fun (acc : State × List Bool) e =>
      let (s, w) := writeThrough (AccBy.recipe e.1.id e.1.slot) ctx e.1.d.doneAddr (e.1.record e.2) acc.1
      (s, acc.2 ++ [w.getD false])) (s, [])
    let s := (writeThrough who ctx stage (clearedHeader h ((round + (if released then 1 else 0)) % 2 ^ 64)) s).1
    forAll (ends.zip written) (fun e s => closeRecipe e.1.1 e.1.2 e.2 s) s

/-- Withdraw a rank from a stage in Collecting (R381): its bit is cleared, ARRIVED falls by 1, and its recipe ends ABORTED. -/
def withdrawRank (r : Recipe) (s : State) : State :=
  let who := AccBy.recipe r.id r.slot
  let (s, ready) := readyAll who r.ctx [r.d.w2, r.d.doneAddr] s
  if !ready then s
  else
    let h := leNat (s.stageLine r.ctx r.d.w2)
    let bit := 2 ^ (512 + r.d.rank)
    let h := if bits h (512 + r.d.rank) 1 = 1 then h - bit - 2 ^ 80 else h
    endRecipe r .aborted (writeThrough who r.ctx r.d.w2 (leBytes 128 h) s).1

/-! ### Acceptance (R355, R356, R369, R428) -/

/-- The kernel whose entry a context address names, and the instruction index of the entry (R458). -/
def State.kernelEntry (s : State) (ctx entry : Nat) : Option (Nat × Nat) :=
  match s.core.store.find? (fun e => e.2.ctx == ctx && e.2.entries.any (fun j => j != 0xFFFFFFFF && e.2.addr + 256 + 4 * j == entry)) with
  | some e => some (e.1, (entry - e.2.addr - 256) / 4)
  | none => none

/-- The further cases of step 1 for KERNEL (R427, R428, R569). -/
def State.kernelOk (s : State) (ctx : Nat) (d : Desc) : Bool :=
  d.code != 13 || (ctx != 0 && decide (1 ≤ bits d.w6 0 7) && decide (bits d.w6 0 7 ≤ 64) && bits d.w6 7 1 == 0 && bits d.w6 9 55 == 0
    && !(d.flag 2 || d.flag 3 || d.flag 4 || d.flag 5 || d.flag 7)
    && (match s.kernelEntry ctx d.w2 with
        | some (h, _) =>
          let owner := (s.readDesc ctx).owner
          match aget s.core.store h with
          | some k => !s.isSealed owner || k.signer == 0 || k.tenant == owner
          | none => false
        | none => false))

/-- How the checks of R355 end. -/
inductive Admit where
  | pass (params : List Byte) (skip : List Nat)
  | refuse (st : Status)
  | fault (f : XFault) (addr : Nat)
  /-- It waits for its generation, or for a node of a walk: the fault it ends with, and where. -/
  | settle (f : XFault) (addr : Nat)
  /-- It waits for a line it reads. -/
  | wait
deriving DecidableEq, Repr

/-- A fault of R224 with no record. -/
def bareFault (st : Status) (reason : Nat) (recorded : Bool) : XFault :=
  { status := st, reason := reason, recorded := recorded, level := 7, pva := 0, gen := 0 }

/-- Read a line that a RECIPE needs before it is accepted, ordered at its home directory like any read (R39, R250, R295). -/
def readForRecipe (who : AccBy) (pa tier : Nat) (go : State → State × Admit) (s : State) : State × Admit :=
  match readyLine who (pa / 128) tier false true s with
  | (s, .ready) => go s
  | (s, .wait) => (s, .wait)
  | (s, .fail st) => (s, .refuse st)

/-- Read the parameter line of a descriptor at acceptance, where it has one. -/
def readParams (who : AccBy) (die ctx : Nat) (d : Desc) (s : State) : State × Admit :=
  match d.paramAddr with
  | none => (s, .pass [] [])
  | some a =>
    match xlate die ctx (a / 128 * 128) [0, 3] false s with
    | (s, .ok pa tenant keyId tier) => readForRecipe who pa tier (fun s => (s, .pass (s.view (pa / 128) tenant keyId).2 [])) s
    | (s, .fault f) => (s, .fault f a)
    | (s, .settle f _) => (s, .settle f a)

/-- The RESUME conditions of R360, with the tiles the record says are committed; a poisoned record breaks them. -/
def Desc.resume (d : Desc) (record : Bool × List Byte) : Option (List Nat) :=
  if d.flag 6 = false then some []
  else
    let b := record.2
    let ff := parm b 4 3
    if record.1 || parm b 0 1 != d.code || parm b 1 1 == 0 || ff != d.startTile then none
    else some ((List.range 512).filterMap (fun j => if bits (parm b 64 64) j 1 = 1 then some (ff + 1 + j) else none))

/-- The checks of R355 after those of R159 and R191. -/
def recipeChecks (die slot ctx : Nat) (who : AccBy) (d : Desc) (s : State) : State × Admit :=
  let early := decide (1 ≤ d.code) && decide (d.code ≤ 13) && d.flagsOk && d.opOk && d.fmtOk && d.reservedOk && d.doneAddr % 128 == 0
    && bits (s.obj .recipeEnable) d.code 1 == 1 && !(d.flag 4 && s.obj .fastPolicy == 2) && s.kernelOk ctx d
  if !early then (s, .refuse .unsupported)
  else
    let granted := s.ctxGranted slot ctx
    if !granted && d.paramAddr.isSome then (s, .fault (bareFault .xlateFault 0 false) d.doneAddr)
    else match readParams who die ctx d s with
      | (s, .pass params _) =>
        let total := d.total params
        if !d.limitsOk params || decide (total > 2 ^ 24) || decide (d.startTile ≥ total) || !spansOk (d.spans params) d.doneAddr || !d.headersOk then (s, .refuse .unsupported)
        else if !granted then (s, .fault (bareFault .xlateFault 0 false) d.doneAddr)
        else match xlate die ctx d.doneAddr [1, 3] true s with
          | (s, .fault f) => (s, .fault f d.doneAddr)
          | (s, .settle f _) => (s, .settle f d.doneAddr)
          | (s, .ok pa tenant keyId tier) =>
            let (s, rt) := if d.flag 3 then
                (if !s.slotCap slot 2 then (s, some (XRes.fault { bareFault .rightsFault 0x15 true with gen := agetD s.part.gens ctx 0 }))
                 else let (s, x) := xlate die ctx (kvBlockBase params) [0, 3, 5] false s; (s, some x))
              else (s, none)
            match rt with
            | some (.fault f) => (s, .fault f (kvBlockBase params))
            | some (.settle f _) => (s, .settle f (kvBlockBase params))
            | _ =>
              if (s.recp.recipes.filter (fun r => r.slot == slot)).length ≥ 64 || (s.recp.recipes.filter (fun r => r.die == die)).length ≥ 2048 then (s, .refuse .retry)
              else if d.flag 6 = false then (s, .pass params [])
              else readForRecipe who pa tier (fun s => match d.resume (s.view (pa / 128) tenant keyId) with
                | some skip => (s, .pass params skip)
                | none => (s, .refuse .unsupported)) s
      | (s, a) => (s, a)

/-- Answer a RECIPE that is not accepted (R355); it is counted by its code, where it has one of R354 and that can be read. -/
def refuseRecipe (die : Nat) (p : Packet) (st : Status) (slot1 : List Byte) (s : State) : State :=
  let d := descOf p.body
  finalGen p.src p.tag (sendPacket (recipePacket p.harg (mkPacket 5 0x52 p.src p.dest p.tag st.code 0 false slot1) s)
    (ledgerFinal p st 0 0 (onlyIf (!p.enc && decide (1 ≤ d.code) && decide (d.code ≤ 13)) (bump .rcRefused (die * 16 + d.code)) s)))

/-- Who a recipe is, for a fault record (R227). -/
def faultOfRecipe (slot eid tag code : Nat) : FaultBy := { slot := slot, source := 1, opcode := code, eid := eid, tag := tag }

/-- The class of a recipe code: 0 none, 1 streaming, 2 compute (R354). -/
def Desc.cls (d : Desc) : Nat :=
  if d.code = 12 then 0 else if d.code = 1 ∨ d.code = 2 ∨ d.code = 3 ∨ d.code = 10 ∨ (d.code = 11 ∧ d.op = 0) then 1 else 2

/-- Ask for the sugar a recipe needs before its first tile (R369); smaller recipes run without a request. -/
def askSugar (r : Recipe) (s : State) : State :=
  if r.d.cls = 0 ∨ r.total < s.obj .sugarMinTiles then s
  else
    let n := min r.total 512
    let stream := r.d.cls == 1
    let p := if stream then 500 else 1800
    admitGrant (mkSugar s (if stream then .streaming else .compute) r.id r.die (p * n) (r.total * (if stream then 4000 else 10000) / n) p (r.d.flag 3)) s

/-- A recipe's record at acceptance. -/
def newRecipe (s : State) (port slot : Nat) (p : Packet) (params : List Byte) (skip : List Nat) : Recipe :=
  let d := descOf p.body
  let fast := d.flag 4 && s.obj .fastPolicy == 0
  { id := s.recp.nextId, src := p.src, tag := p.tag, slot := slot, ctx := p.harg, port := port, pkt := p, die := dieOfPort port, d := d, phase := .running
    acceptedAt := s.now, askedAt := s.now, total := d.total params, phaseOne := d.phaseOne params
    next := if d.code = 11 then 0 else d.startTile, done := [], skip := skip, checked := [], failed := [], lost := [], withLoss := false
    cancelled := false, poison := false, poisoned := 0
    result := (match d.code with | 1 | 2 => d.w3 | 3 => 2 ^ 64 - 1 | 4 => d.w3 | 5 => d.bags | 6 => d.count | _ => 0)
    result2 := 0, marks := if fast then 1 else 0, exc := none, leader := false, params := params, parts := [], scanBad := 0, streamSeq := 0
    e4m3Nan := s.obj .e4m3Overflow == 1, fast := fast }

/-- Put an accepted recipe in its front end and acknowledge it (R356, R394): RECIPE_ACK is what the ledger records until
RECIPE_DONE (R177). -/
def acceptRecipe (r : Recipe) (s : State) : State :=
  let s := bump .rcAccepted (r.die * 16 + r.d.code) (onlyIf r.fast (bump .fastRecipes r.die)
    (s.onRecp (fun x => { x with recipes := x.recipes ++ [r], nextId := x.nextId + 1 })))
  let s := mirrorState 0 5 5 (leBytes 2 r.slot ++ leBytes 2 r.tag ++ leBytes 2 r.ctx ++ leBytes 1 r.die ++ leBytes 7 0 ++ r.d.bytes) s
  let s := if r.phase = .running then askSugar r s else s
  let waits := s.recipeWaits r.id
  let s := onlyIf waits (fun s => bump .rcAdmissionWaits (r.die * 16 + r.d.code) (setRecipe r.id (fun x => { x with phase := .admission }) s)) s
  let st : Status := if waits then .admissionWait else .ok
  let s := ledgerWrite r.slot r.tag 0 { fingerprint := r.pkt.crc, op := 0x50, status := st.code, harg := 0, result := 0 } s
  sendPacket (recipePacket r.ctx (mkPacket 5 0x51 r.src r.pkt.dest r.tag st.code 0 false []) s) s

/-- The line of entry `r` of a stage area: context address of the entry. -/
def stageEntry (stage rank : Nat) : Nat := stage + 128 + 32 * rank

/-- What an arrival at a stage meets (R380). -/
inductive Arrival where
  | waits
  | refuse (st : Status) (slot1 : List Byte)
  | join (first last : Bool)
deriving DecidableEq, Repr

/-- The row of R380 an arrival takes, from the header. -/
def arrivalOf (h : List Byte) (ctx : Nat) (d : Desc) (fast : Bool) : Arrival :=
  let round := parm h 0 8
  let first := parm h 10 2 == 0
  if parm h 12 1 = 1 ∧ d.w6 = (round + 1) % 2 ^ 64 then .waits
  else if d.w6 ≠ round then .refuse .versionConflict (leBytes 16 (0xFFFFFF + round * 2 ^ 64))
  else if !first && (parm h 8 2 != d.n || parm h 13 1 != d.op || parm h 14 1 != d.fmtIn || parm h 15 1 != d.fmtOut || parm h 16 8 != d.w3
      || parm h 24 8 != d.w5 || parm h 40 2 != ctx || bits (parm h 42 1) 0 1 != (if fast then 1 else 0)) then .refuse .unsupported doneReset
  else if d.rank ≥ d.n then .refuse .unsupported doneReset
  else if !first && bits (leNat h) (512 + d.rank) 1 == 1 then .refuse .refusedState doneReset
  else .join first (parm h 10 2 + 1 == (if first then d.n else parm h 8 2))

/-- The header after a rank has joined (R379, R380). -/
def joinedHeader (h : List Byte) (ctx : Nat) (d : Desc) (fast first last : Bool) (now : Nat) : List Byte :=
  let round := parm h 0 8
  let map := (if first then 0 else bits (leNat h) 512 512) + 2 ^ d.rank
  let deadline := if first then now + d.waitMs * 1000000 else parm h 32 8
  leBytes 8 round ++ leBytes 2 d.n ++ leBytes 2 ((if first then 0 else parm h 10 2) + 1) ++ leBytes 1 (if last then 1 else 0) ++ leBytes 1 d.op
    ++ leBytes 1 d.fmtIn ++ leBytes 1 d.fmtOut ++ leBytes 8 d.w3 ++ leBytes 8 d.w5 ++ leBytes 8 deadline ++ leBytes 2 ctx
    ++ leBytes 1 (if fast then 1 else 0) ++ leBytes 21 0 ++ leBytes 64 map

/-- An ALLREDUCE-STAGE takes its access to the header (R380): true when it has been answered or has joined, false while it waits
for a line or for the release. -/
def arriveStage (port slot : Nat) (p : Packet) (s : State) : State × Bool :=
  let d := descOf p.body
  let die := dieOfPort port
  let ctx := p.harg
  let fault (f : XFault) (a : Nat) (s : State) : State × Bool :=
    let (s, st) := recordFault (faultOfRecipe slot p.src p.tag d.code) ctx a f s
    (refuseRecipe die p st doneReset s, true)
  match xlate die ctx d.w2 [0, 1, 3] true s with
  | (s, .settle _ _) => (s, false)
  | (s, .fault f) => fault f d.w2 s
  | (s, .ok _ _ _ _) =>
    match xlate die ctx (stageEntry d.w2 d.rank) [0, 1, 3] true s with
    | (s, .settle _ _) => (s, false)
    | (s, .fault f) => fault f (stageEntry d.w2 d.rank) s
    | (s, .ok epa etenant ekey _) =>
      let who := AccBy.arrival p.src p.tag slot
      let (s, ready) := readyAll who ctx [d.w2, stageEntry d.w2 d.rank] s
      if !ready || (s.arrived ctx d.w2).any (fun r => r.phase == .collecting && (r.cancelled || !r.failed.isEmpty)) then (s, false)
      else
        let h := s.stageLine ctx d.w2
        let fast := d.flag 4 && s.obj .fastPolicy == 0
        match arrivalOf h ctx d fast with
        | .waits => (s, false)
        | .refuse st slot1 => (refuseRecipe die p st slot1 s, true)
        | .join first last =>
          let entry := leBytes 32 (d.w4 + d.doneAddr * 2 ^ 64 + slot * 2 ^ 128 + p.tag * 2 ^ 144)
          let off := epa % 128
          let s := mergeLine (epa / 128) (List.replicate off 0 ++ entry ++ List.replicate (96 - off) 0)
            (fun i => decide (off ≤ i) && decide (i < off + 32)) false 4 etenant ekey s
          let s := (writeThrough who ctx d.w2 (joinedHeader h ctx d fast first last s.now) s).1
          let r := { newRecipe s port slot p [] [] with phase := .collecting }
          let s := acceptRecipe r s
          if last then
            let s := s.onRecp (fun x => { x with recipes := x.recipes.map (fun y =>
              if y.d.code == 7 && y.ctx == ctx && y.d.w2 == d.w2 && y.phase == .collecting then { y with phase := .reducing, leader := y.id == r.id } else y) })
            (askSugar r s, true)
          else (s, true)

/-- A RECIPE that has passed policing, with its descriptor in clear: checked and accepted, refused, or waiting (R218, R355).  True
when it no longer waits. -/
def admitRecipe (port slot : Nat) (p : Packet) (s : State) : State × Bool :=
  let die := dieOfPort port
  let d := descOf p.body
  match recipeChecks die slot p.harg (AccBy.params p.src p.tag slot) d s with
  | (s, .refuse st) => (refuseRecipe die p st doneReset s, true)
  | (s, .fault f a) =>
    let (s, st) := recordFault (faultOfRecipe slot p.src p.tag d.code) p.harg a f s
    (refuseRecipe die p st doneReset s, true)
  | (s, .settle _ _) => (s, false)
  | (s, .wait) => (s, false)
  | (s, .pass params skip) =>
    if d.code = 7 then arriveStage port slot p s
    else (acceptRecipe (newRecipe s port slot p params skip) s, true)

/-- Keep a RECIPE that waits in the list of requests: for its generation, or for its stage. -/
def keepRecipe (port slot : Nat) (p : Packet) (s : State) : State :=
  if (s.request p.src p.tag).isSome then s
  else s.onTxn (fun t => { t with reqs := t.reqs ++ [{ newRequest s port slot p .settle 0 0 0 0 with ordered := true }] })

/-- Try a waiting RECIPE again. -/
def retryRecipe (q : Request) (s : State) : State :=
  let others := s.txn.reqs
  let s := s.onTxn (fun t => { t with reqs := t.reqs.filter (fun x => !(x.src == q.src && x.tag == q.tag)) })
  match admitRecipe q.port q.slot q.pkt s with
  | (s, true) => s
  | (s, false) => s.onTxn (fun t => { t with reqs := others })

/-- Try again the arrivals that wait at a stage (R380): after a release. -/
def retryStage (s : State) : State :=
  forAll (s.txn.reqs.filter (fun q => q.op == 0x50 && q.phase == .settle && (descOf q.pkt.body).code == 7)) (fun q s => retryRecipe q s) s

/-- Try again every RECIPE that waits before it is accepted: a line it needs may have come. -/
def retryRecipes (s : State) : State :=
  forAll (s.txn.reqs.filter (fun q => q.op == 0x50 && q.phase == .settle)) (fun q s => retryRecipe q s) s

/-- A RECIPE that policing lets pass: admitted, or kept while it waits. -/
def takeRecipe (port slot : Nat) (p : Packet) (s : State) : State :=
  match admitRecipe port slot p s with
  | (s, true) => s
  | (s, false) => keepRecipe port slot p s

/-- RETRY of policing to a RECIPE: its checks come first (R510). -/
def recipeRetry (port slot : Nat) (p : Packet) (s : State) : State :=
  match recipeChecks (dieOfPort port) slot p.harg (AccBy.params p.src p.tag slot) (descOf p.body) s with
  | (s, .refuse st) => refuseRecipe (dieOfPort port) p st doneReset s
  | (s, .fault f a) =>
    let (s, st) := recordFault (faultOfRecipe slot p.src p.tag (descOf p.body).code) p.harg a f s
    refuseRecipe (dieOfPort port) p st doneReset s
  | (s, _) => refuseRecipe (dieOfPort port) p .retry doneReset s

/-- The end of a recipe that a cancel asks for: a rank in Collecting is withdrawn; others are cancelled (R359, R381). -/
def cancelNow (r : Recipe) (s : State) : State :=
  if r.phase = .collecting then withdrawRank r (cancelRecipe r.id s) else cancelRecipe r.id s

/-- A new RECIPE of a slot in Detaching: ABORTED, unless a check fails whose code ranks ahead (R26, R198). -/
def abortNewRecipe (port slot : Nat) (p : Packet) (s : State) : State :=
  match recipeChecks (dieOfPort port) slot p.harg (AccBy.params p.src p.tag slot) (descOf p.body) s with
  | (s, .refuse st) => refuseRecipe (dieOfPort port) p st doneReset s
  | (s, .fault f a) =>
    let (s, st) := recordFault (faultOfRecipe slot p.src p.tag (descOf p.body).code) p.harg a f s
    refuseRecipe (dieOfPort port) p st doneReset s
  | (s, _) => refuseRecipe (dieOfPort port) p .aborted doneReset s

/-- A request held for a slot that enters Detaching (R515). -/
def abortHeld (slot port : Nat) (p : Packet) (s : State) : State :=
  if p.op = 0x50 then abortNewRecipe port slot p s else if p.op = 0x54 then answerEarly p .aborted s else abortRequest port slot p s

/-- The answer of a RECIPE_CANCEL, ledgered under its TAG, which is its recipe's too (R177, R359). -/
def answerCancel (p : Packet) (st : Status) (s : State) : State := answerNow p st s

/-- A RECIPE_CANCEL that policing lets pass (R359, R381). -/
def takeCancel (p : Packet) (s : State) : State :=
  match s.recp.recipes.find? (fun r => r.src == p.src && r.tag == p.tag) with
  | some r => if r.phase = .reducing then answerCancel p .refusedState s else answerCancel p .ok (cancelNow r s)
  | none => answerCancel p .refusedState s

/-- A RECIPE from its arrival on, for one code (R355, R359, R567, R569): `mine` says whether a descriptor is of the row. -/
def arriveRecipe (port : Nat) (p : Packet) (mine : Desc → Bool) (s : State) : State :=
  if !p.enc && !mine (descOf p.body) then s
  else arriveFabric port p (fun p s =>
    intake port p (fun s => s.outstanding p.src p.tag) (fun e s =>
        -- the record is the answer's source where it is this descriptor's (R358)
        let st := Status.ofCode e.status
        let d := descOf ((if p.enc then s.openFrom p [] else some p.body).getD p.body)
        let rec_ := match s.segmentNow p.harg d.doneAddr with
          | some (pa, tenant, keyId) => (s.view (pa / 128) tenant keyId).2
          | none => List.replicate 128 0
        let slot1 := if parm rec_ 0 1 = d.code ∧ parm rec_ 1 1 = e.status then doneOfRecord rec_ else doneReset
        sendPacket (recipePacket p.harg (mkPacket 5 0x52 p.src p.dest p.tag st.code 0 false slot1) s) s)
      (fun slot gone s =>
        if s.lacksCap slot 0x50 then refuseRecipe (dieOfPort port) p .unsupported doneReset s
        else
        let plain : Option (List Byte) := if p.enc then s.openFrom p [] else if s.isSealed (s.readDesc p.harg).owner then none else some p.body
        match plain with
        | none => bump (if p.enc then .tagFailures else .missingEnc) (dieOfPort port) (refuseRecipe (dieOfPort port) p .integrity doneReset s)
        | some b =>
          let p := { p with body := b, enc := false }
          if !mine (descOf b) then s
          else if gone then abortNewRecipe port slot p s
          else police port slot p (takeRecipe port slot p)
            (recipeRetry port slot p) s) s) s

/-! ### What waits (R219, R221, R239, R496) -/

/-- Whether a line lies in a granule that is being filled (R296). -/
def State.filling (s : State) (line : Nat) : Bool := isDeepPa (line * 128) && (s.fillOf (granuleOf (line * 128))).isSome

/-- Visit the lines of a RECALL_RANGE that are free to be visited: a held one is recalled (R221); those of a granule in FILLING wait for the
fill (R296). -/
def visitRange (w : RangeWait) (s : State) : State × RangeWait :=
  w.lines.foldl (fun (acc : State × RangeWait) l =>
    let (s, w) := acc
    if s.recalling l || s.filling l then (s, { w with lines := w.lines ++ [l] })
    else if w.visited.contains l then (s, w)
    else
      let s := recallAll l 5 s
      (s, { w with visited := w.visited ++ [l], lines := if s.recalling l then w.lines ++ [l] else w.lines })) (s, { w with lines := [] })

/-- The release of a handback (R496): once every accepted request is committed and acknowledged, release frames and TW_RELEASE. -/
def tryRelease (s : State) : State :=
  if s.twin.st != .releasing || s.twin.released || !s.txn.reqs.isEmpty || !s.twin.unacked.isEmpty || !s.part.ownWrites.isEmpty
      || !s.part.heldChanges.isEmpty then s
  else
    let s := s.onTwin (fun t => { t with released := true, lampOut := .release })
    let s := forAll s.traffic.holds (fun h s => forAll h.2 (fun x s => answerEarly x.pkt .fenced s) s) (s.onTraffic (fun t => { t with holds := [] }))
    let p := mkPacket 0 0xA2 s.twin.peerEid (s.obj .nodeEid) 0 0 0 false (leBytes 16 ((s.twin.epoch + 1) % 2 ^ 32 + 1 * 2 ^ 32))
    forAll s.twPorts (fun port s => sendOnPort port p s) s

/-- What waits goes on where it can: a handback that is drained is released (R496), own writes, queued writebacks and RECIPEs that are not
accepted yet are tried, and the commands whose waiting is over are answered: CTX_INVALIDATE once no request translated before it is
unordered and no tile pre-translated before it runs (R219), RECALL_RANGE once every line has been visited and its recall has ended (R221). -/
def settleWaits (s : State) : State :=
  let s := retryRecipes (runQueue (runOwn (tryRelease s)))
  let s := forAll s.part.invWaits (fun w s =>
    let busy := w.waits.any (fun x => match s.request x.1 x.2 with | some q => !q.ordered | none => false)
      || w.tiles.any (fun t => s.core.cores.any (fun c => match c.2.run with | some r => r.recipe == t.1 && r.tile == t.2 | none => false))
    if busy then s
    else reply ctxInvalidateObj w.req .ok [] (s.onPart (fun p => { p with invWaits := p.invWaits.filter (fun x => x.req != w.req) }))) s
  forAll s.part.rangeWaits (fun w s =>
    let (s, w') := visitRange w s
    if w'.lines.isEmpty then reply recallRangeObj w.req .ok [] (s.onPart (fun p => { p with rangeWaits := p.rangeWaits.filter (fun x => x.req != w.req) }))
    else s.onPart (fun p => { p with rangeWaits := p.rangeWaits.map (fun x => if x.req = w.req then w' else x) })) s

/-- Handle a snoop answer from a slot: late ones are counted and discarded; the others by `go`, which has the line and its
recall (R239). -/
def snoopAnswer (port : Nat) (p : Packet) (go : Nat → Nat → Recall → PoolReq → State → State) (s : State) : State :=
  match s.slotOfEid p.src, s.poolReq p.src p.tag with
  | some slot, some q =>
    if q.issuer != .snoop then bump .lateSnoopResponses (dieOfPort port) s
    else match aget s.dir.recalls q.key with
      | some r => if r.awaited.contains slot then settleWaits (go slot q.key r q s) else bump .lateSnoopResponses (homeDie (q.key * 128)) (endPool q s)
      | none => bump .lateSnoopResponses (homeDie (q.key * 128)) (endPool q s)
  | _, _ => bump .lateSnoopResponses (dieOfPort port) s

end Sys2Proof.Machine
end

