-- ==== Sys2Proof/Machine/OpsTile.lean ====
section
/-!
DEFINITION. Machine/OpsTile.lean: the work of a tile: its operand spans, what it computes, and its commit (R231, R361 to R364,
R374 to R390, R405 to R424).
-/
namespace Sys2Proof.Machine

/-- A reader of lines of a context: poisoned or not, and 128 bytes. -/
abbrev LineReader := Nat → Bool × List Byte

/-- The byte at a context address. -/
def byteAt (V : LineReader) (a : Nat) : Byte := (V (a / 128)).2.getD (a % 128) 0
/-- Some bytes from a context address up. -/
def bytesAt (V : LineReader) (a n : Nat) : List Byte := (List.range n).map (fun i => byteAt V (a + i))
/-- Whether one of the lines of a span is poisoned. -/
def poisonAt (V : LineReader) (a n : Nat) : Bool :=
  decide (0 < n) && (List.range ((a + n - 1) / 128 + 1 - a / 128)).any (fun i => (V (a / 128 + i)).1)

/-- Quotient rounded up. -/
def cdiv (a b : Nat) : Nat := (a + b - 1) / b

/-- Elements whose first byte lies below an offset of the operand; an MX block counts as one element (R361, R402). -/
def Store.below (t : Store) (off : Nat) : Nat :=
  match t with
  | .plain f => if f.bits < 8 then off * 2 else cdiv off (f.bits / 8)
  | .mx f =>
    let r := off % mxUnitBytes f
    off / mxUnitBytes f * 4096 + (if r ≤ 128 then 0 else min 4096 (cdiv (r - 128) (mxBlockBytes f) * 32))

/-- The bytes that elements `e0` to `e1` - 1 occupy, scale bytes included, as spans in ascending order (R398, R402). -/
def Store.spans (t : Store) (base e0 e1 : Nat) : List (Nat × Nat) :=
  if e1 ≤ e0 then [] else
  match t with
  | .plain f =>
    let lo := e0 * f.bits / 8
    [(base + lo, (e1 * f.bits + 7) / 8 - lo)]
  | .mx f =>
    let u0 := e0 / 4096
    let u1 := (e1 - 1) / 4096
    ((List.range (u1 + 1 - u0)).map (fun i =>
      let u := u0 + i
      let k0 := if u = u0 then e0 % 4096 / 32 else 0
      let k1 := if u = u1 then (e1 - 1) % 4096 / 32 + 1 else 128
      let b := base + u * mxUnitBytes f
      [(b + k0, k1 - k0), (b + 128 + k0 * mxBlockBytes f, (k1 - k0) * mxBlockBytes f)])).flatten

/-- An element of an operand, or nothing where a line it lies in is poisoned (R339, R398). -/
def readElem (V : LineReader) (t : Store) (base e : Nat) : Option Val :=
  let (o, n, _) := t.place e
  let bad := poisonAt V (base + o) n || (match t with | .mx f => poisonAt V (base + scaleAt f e) 1 | .plain _ => false)
  if bad then none else some (t.read (fun i => (byteAt V (base + i)).toNat) e)

/-- The raw bits of an element (R418). -/
def rawElem (V : LineReader) (t : Store) (base e : Nat) : Option Nat :=
  let (o, n, _) := t.place e
  if poisonAt V (base + o) n then none else some (t.raw (fun i => (byteAt V (base + i)).toNat) e)

/-! ### What a tile reads and writes -/

/-- The elements, rows, summaries or chunks of a tile, first and one past the last (R361). -/
def Recipe.items (r : Recipe) (t : Nat) : Nat × Nat :=
  let d := r.d
  let lead := d.lead r.params
  let pc := pieceOf lead.1 lead.2 t
  match d.code with
  | 4 => (d.out.below pc.1, min d.w3 (d.out.below pc.2))
  | 5 => (cdiv (d.out.below pc.1) d.rowElems, min d.bags (cdiv (d.out.below pc.2) d.rowElems))
  | 6 => (cdiv (d.inp.below pc.1) d.rowElems, min d.count (cdiv (d.inp.below pc.2) d.rowElems))
  | 7 => (d.out.below pc.1, min d.w3 (d.out.below pc.2))
  | 8 =>
    if d.flag 7 && decide (t < r.phaseOne) then (d.inp.below pc.1, min (parm r.params 32 8) (d.inp.below pc.2))
    else
      let pc := pieceOf d.w2 (4 * parm r.params 32 8) (t - r.phaseOne)
      (cdiv pc.1 4, min (parm r.params 32 8) (cdiv pc.2 4))
  | 9 => (cdiv pc.1 (kvSummaryStride r.params), cdiv pc.2 (kvSummaryStride r.params))
  | _ => pc

/-- The format of M and V (R382). -/
def Recipe.moment (r : Recipe) : Store := if parm r.params 56 1 = 1 then .plain .binary32 else .plain .bfloat16

/-- n of R387. -/
def Recipe.picks (r : Recipe) : Nat := min r.d.k (kvBlocks r.params)

/-- The bytes of spans as operand spans. -/
def spansOf (l : List (Nat × Nat)) (w r : Bool) : List Span := l.map (fun x => { addr := x.1, len := x.2, w := w, r := r })

/-- The operand spans of a tile that do not depend on data, in descriptor order (R231, R362).  `srcs` are the sources of an
ALLREDUCE-STAGE by rank. -/
def Recipe.tileSpans (r : Recipe) (srcs : List Nat) (t : Nat) : List Span :=
  let d := r.d
  let (a, b) := r.items t
  match d.code with
  | 1 => [wrSpan (d.w2 + a) (b - a)]
  | 2 => [wrSpan (d.w2 + a) (b - a), rdSpan (d.w4 + a) (b - a)]
  | 3 => [rdSpan (d.w2 + a) (b - a), rdSpan (d.w4 + a) (b - a)]
  | 4 => spansOf (d.out.spans d.w2 a b) true (d.flag 5) ++ ((List.range d.inputs).map (fun i => spansOf (d.inp.spans (d.w4 + i * d.w5) a b) false true)).flatten
  | 5 => spansOf (d.out.spans d.w2 (a * d.rowElems) (b * d.rowElems)) true (d.flag 5) ++ [rdSpan (d.w5 + 4 * a) (4 * (b - a + 1))]
  | 6 => spansOf (d.inp.spans d.w3 (a * d.rowElems) (b * d.rowElems)) false true ++ [rdSpan (d.w4 + 4 * a) (4 * (b - a))]
  | 7 => (srcs.map (fun x => spansOf (d.inp.spans x a b) false true)).flatten ++ spansOf (d.out.spans d.w5 a b) true false
  | 8 =>
    if d.flag 7 && decide (t < r.phaseOne) then spansOf (d.inp.spans d.w3 a b) false true
    else [rwSpan (d.w2 + 4 * a) (4 * (b - a))] ++ spansOf (d.inp.spans d.w3 a b) false true ++ spansOf (r.moment.spans d.w4 a b) true true
      ++ (if d.op = 1 then spansOf (r.moment.spans d.w5 a b) true true else [])
      ++ (if d.fmtOut = 0 then [] else spansOf (d.out.spans d.w6 a b) true false)
  | 9 =>
    let heads := kvHeads r.params
    if t < r.phaseOne then
      (List.range (b - a)).map (fun i => rdSpan (kvSummaryBase r.params + (a + i) * kvSummaryStride r.params) (4 * kvDim r.params))
        ++ spansOf (d.inp.spans d.w3 0 (heads * kvDim r.params)) false true ++ [wrSpan (d.w5 + 4 * a) (4 * (b - a))]
    else if t < r.phaseOne + heads then
      let h := t - r.phaseOne
      spansOf (d.inp.spans d.w3 (h * kvDim r.params) ((h + 1) * kvDim r.params)) false true ++ [wrSpan (d.w4 + h * kvOutStride d) (8 * d.k)]
        ++ (List.range (kvBlocks r.params)).map (fun x => rdSpan (d.w5 + 4 * (x * heads + h)) 4)
    else
      let k := t - r.phaseOne - heads
      [rdSpan (d.w4 + k / r.picks * kvOutStride d + 8 * (k % r.picks)) 8]
  | 10 =>
    let delta := d.w5 + a / 65536 * 65664
    if d.op ≤ 1 then [rdSpan (d.w2 + a) (b - a), rdSpan (d.w4 + a) (b - a)]
    else [wrSpan (d.w2 + a) (b - a), rdSpan (d.w4 + a) (b - a), rdSpan delta 128]
  | 11 => [rdSpan (d.w2 + a) (b - a)]
  | 12 => [rwSpan d.w2 128, rdSpan d.w4 d.w5]
  | _ => []

/-- The indices of bag `j` that R377 uses: nothing where a line of INDICES or OFFSETS it needs is poisoned; the skipped ones
counted. -/
def bagOf (V : LineReader) (d : Desc) (j : Nat) : Option (List Nat × Nat) :=
  let o (i : Nat) : Nat := leNat (bytesAt V (d.w5 + 4 * i) 4)
  if poisonAt V (d.w5 + 4 * j) 8 then none
  else
    let n := o (j + 1) - o j
    if n = 0 then some ([], 1)
    else if poisonAt V (d.w4 + 4 * o j) (4 * n) then none
    else
      let all := (List.range n).map (fun i => leNat (bytesAt V (d.w4 + 4 * (o j + i)) 4))
      let ok := all.filter (fun x => decide (x < d.tableRows))
      some (ok, all.length - ok.length)

/-- The lines of a chunk that a pack takes as changed (R389). -/
def changedLines (V : LineReader) (d : Desc) (a b : Nat) : List Nat :=
  (List.range ((b - a) / 128)).filter (fun j =>
    let n := d.w2 + a + 128 * j
    let o := d.w4 + a + 128 * j
    poisonAt V n 128 || poisonAt V o 128 || bytesAt V n 128 != bytesAt V o 128)

/-- A chunk record's header, as an apply reads it: the set bits, or nothing where it is poisoned or disagrees (R389). -/
def recordLines (V : LineReader) (delta : Nat) : Option (List Nat) :=
  let h := bytesAt V delta 128
  let set := (List.range 512).filter (fun j => bits (parm h 0 64) j 1 == 1)
  if poisonAt V delta 128 || decide (parm h 64 2 > 512) || parm h 64 2 != set.length then none else some set

/-- The spans of a tile that depend on what it has read (R362), given the static ones are readable. -/
def Recipe.dataSpans (r : Recipe) (V : LineReader) (t : Nat) : List Span :=
  let d := r.d
  let (a, b) := r.items t
  match d.code with
  | 5 =>
    let bags := (List.range (b - a)).map (fun i => a + i)
    let o (i : Nat) : Nat := leNat (bytesAt V (d.w5 + 4 * i) 4)
    let idx := bags.filterMap (fun j => if poisonAt V (d.w5 + 4 * j) 8 ∨ o (j + 1) ≤ o j then none else some (rdSpan (d.w4 + 4 * o j) (4 * (o (j + 1) - o j))))
    let rows := (bags.map (fun j => match bagOf V d j with
      | some (l, _) => (l.map (fun x => spansOf (d.inp.spans d.w3 (x * d.rowElems) ((x + 1) * d.rowElems)) false true)).flatten
      | none => [])).flatten
    rows ++ idx
  | 6 => ((List.range (b - a)).map (fun i =>
      let at_ := d.w4 + 4 * (a + i)
      let x := leNat (bytesAt V at_ 4)
      if poisonAt V at_ 4 ∨ x ≥ d.tableRows then [] else spansOf (d.out.spans d.w2 (x * d.rowElems) ((x + 1) * d.rowElems)) true true)).flatten
  | 9 =>
    if t < r.phaseOne + kvHeads r.params then []
    else
      let k := t - r.phaseOne - kvHeads r.params
      let b := leNat (bytesAt V (d.w4 + k / r.picks * kvOutStride d + 8 * (k % r.picks)) 4)
      [rdSpan (kvBlockBase r.params + (b * kvHeads r.params + k / r.picks) * kvUnitStride r.params) (kvUnitBytes r.params)]
  | 10 =>
    let delta := d.w5 + a / 65536 * 65664
    if d.op ≤ 1 then [wrSpan delta (128 + 128 * (changedLines V d a b).length)]
    else match recordLines V delta with
      | some l => if l.isEmpty then [] else [rdSpan (delta + 128) (128 * l.length)]
      | none => []
  | _ => []

/-! ### Translating spans (R231, R569) -/

/-- Rights and page WRITE of a tile operand (R225). -/
def Span.rights (code : Nat) (x : Span) : List Nat × Bool :=
  if code = 12 then (if x.w then ([6], false) else ([0], false))
  else ((if x.r then [0] else []) ++ (if x.w then [1] else []) ++ [3], x.w)

/-- The pages of a span, each with the lowest address of the span in it. -/
def Span.pages (x : Span) : List Nat :=
  if x.len = 0 then [] else (List.range ((x.addr + x.len - 1) / 65536 + 1 - x.addr / 65536)).map (fun i => max x.addr ((x.addr / 65536 + i) * 65536))

/-- How the check of a tile's spans ends. -/
inductive SpanCheck where
  | ok
  | settle (f : XFault) (addr : Nat) (granule : Option Nat)
  | fault (f : XFault) (addr : Nat)
deriving DecidableEq, Repr

/-- What the check has found so far: the pages; of each kind of failure the one of the first operand, by its place in descriptor order; and
a page that waits. -/
structure Checked where
  pages  : Assoc Nat Page
  xlate  : Option (Nat × XFault × Nat)
  rights : Option (Nat × XFault × Nat)
  key    : Option (Nat × XFault × Nat)
  settle : Option (XFault × Nat × Option Nat)
  /-- Tenants reached, and whether the operand is only read (R569). -/
  tenants : List (Nat × Bool × Nat)
deriving DecidableEq, Repr

/-- The earlier of a failure and one at a place. -/
def earlier (at_ : Nat) (f : XFault) (addr : Nat) (o : Option (Nat × XFault × Nat)) : Option (Nat × XFault × Nat) :=
  match o with
  | some x => if at_ < x.1 then some (at_, f, addr) else some x
  | none => some (at_, f, addr)

/-- Translate and check spans, one page at a time, in order (R231); `place` gives a span's place in descriptor order. -/
def checkSpans (die ctx code : Nat) (place : Nat → Nat) (l : List Span) (c : Checked) (s : State) : State × Checked :=
  (l.zipIdx).foldl (fun (acc : State × Checked) x =>
    x.1.pages.foldl (fun (acc : State × Checked) a =>
      let (s, c) := acc
      let (need, write) := x.1.rights code
      match xlate die ctx a need write s with
      | (s, .ok pa tenant keyId tier) =>
        (s, { c with pages := aset c.pages (a / 65536) { pa := pa / 65536 * 65536, tenant := tenant, keyId := keyId, tier := tier }
                     tenants := c.tenants ++ [(tenant, !x.1.w, a)] })
      | (s, .settle f g) => (s, { c with settle := if c.settle.isSome then c.settle else some (f, a, g) })
      | (s, .fault f) =>
        (s, if f.status = .xlateFault then { c with xlate := earlier (place x.2) f a c.xlate }
            else if f.status = .rightsFault then { c with rights := earlier (place x.2) f a c.rights }
            else { c with key := earlier (place x.2) f a c.key })) acc) (s, c)

/-- The verdict of a check, in the order of R26: translation, rights, R569, keys. -/
def Checked.verdict (c : Checked) (gen : Nat) (s : State) : SpanCheck :=
  let lastly : SpanCheck := match c.key with
    | some (_, f, a) => .fault f a
    | none => .ok
  match c.xlate, c.settle, c.rights with
  | some (_, f, a), _, _ => .fault f a
  | none, some (f, a, g), _ => .settle f a g
  | none, none, some (_, f, a) => .fault f a
  | none, none, none =>
    match c.tenants.find? (fun x => s.isSealed x.1) with
    | none => lastly
    | some (tn, _, _) => match c.tenants.find? (fun x => !(x.1 == tn || (x.1 == 0 && x.2.1))) with
      | some (_, _, a) => .fault { bareFault .rightsFault 0x13 true with gen := gen } a
      | none => lastly

/-- No page translated yet. -/
def Checked.start (pages : Assoc Nat Page) : Checked := { pages := pages, xlate := none, rights := none, key := none, settle := none, tenants := [] }

/-- How many of a tile's static spans stand before the operands that depend on data, in descriptor order (R231). -/
def Recipe.staticFirst (r : Recipe) (t : Nat) : Nat :=
  let (a, b) := r.items t
  if r.d.code = 5 then (r.d.out.spans r.d.w2 (a * r.d.rowElems) (b * r.d.rowElems)).length else if r.d.code = 6 then 0 else 2 ^ 20

/-- The place of a static span of a tile in descriptor order; those of spans that depend on data start at 2^20. -/
def Recipe.placeOf (r : Recipe) (t i : Nat) : Nat := if i < r.staticFirst t then i else 2 ^ 40 + i

/-- Whether a recipe has operand spans that depend on data (R362). -/
def Desc.dataDriven (d : Desc) : Bool := d.code == 5 || d.code == 6 || d.code == 9 || d.code == 10

/-- A tile's reader: its lines through the pages it has translated; a page it has not translated reads as poisoned. -/
def State.reader (s : State) (pages : Assoc Nat Page) : LineReader := fun l =>
  match aget pages (l / 512) with
  | some p => s.view ((p.pa + l % 512 * 128) / 128) p.tenant p.keyId
  | none => (true, List.replicate 128 0)

/-- A context line that a tile uses: whether it is written, and whether its data is read first: a line that is read, or that a write covers
only in part (R326). -/
structure LineUse where
  line  : Nat
  write : Bool
  fetch : Bool
deriving DecidableEq, Repr

/-- The context lines of spans. -/
def spanLines (l : List Span) : List LineUse :=
  (l.map (fun x => if x.len = 0 then [] else (List.range ((x.addr + x.len - 1) / 128 + 1 - x.addr / 128)).map (fun i =>
    let n := x.addr / 128 + i
    { line := n, write := x.w, fetch := x.r || decide (n * 128 < x.addr) || decide (x.addr + x.len < n * 128 + 128) }))).flatten

/-- Frames for the granules a tile writes whole and does not read (R297); false while one has none. -/
def grantWhole (pages : Assoc Nat Page) (l : List Span) (s : State) : State × Bool :=
  pages.foldl (fun (acc : State × Bool) e =>
    let lo := e.1 * 65536
    if isDeepPa e.2.pa && l.any (fun x => x.w && !x.r && decide (x.addr ≤ lo) && decide (lo + 65536 ≤ x.addr + x.len))
        && !l.any (fun x => x.r && spansMeet x.addr x.len lo 65536)
    then let (s, ok) := grantFrame (granuleOf e.2.pa) e.2.tier acc.1
         (s, acc.2 && ok)
    else acc) (s, true)

/-- Make the lines of spans ready for a tile's accesses (R250, R295): nothing while one waits, or the code the tile ends with. -/
def readySpans (by_ : AccBy) (pages : Assoc Nat Page) (alloc : Bool) (l : List LineUse) (s : State) : State × LineReady :=
  l.foldl (fun (acc : State × LineReady) x =>
    match acc with
    | (s, .fail st) => (s, .fail st)
    | (s, res) =>
      match aget pages (x.line / 512) with
      | none => (s, res)
      | some p =>
        let line := (p.pa + x.line % 512 * 128) / 128
        match readyLine by_ line p.tier x.write x.fetch s with
        | (s, .ready) =>
          let s := match s.storeOf line with
            | some m => onlyIf (alloc && !x.write && !(s.lineMeta m).inPantry && !s.lineFailed line) (pantryFill m p.keyId) s
            | none => s
          (s, res)
        | (s, y) => (s, y)) (s, .ready)

/-! ### Computing (R374 to R390, R405 to R424) -/

/-- A byte a tile writes: context address, value, poison. -/
abbrev OutByte := Nat × Byte × Bool

/-- What a tile's compute step gives. -/
structure TileOut where
  /-- The bytes of each operand it writes, in descriptor order and ascending addresses. -/
  outs    : List OutByte
  result  : Nat
  result2 : Nat
  /-- COMPARE: the lowest offset that differs. -/
  first   : Option Nat
  /-- Poison consumed by a recipe that reports it without an output (R364, R378, R387). -/
  poison  : Bool
  ev      : NumEv
  part    : List Byte
  scanBad : Nat
deriving DecidableEq, Repr

/-- Nothing written. -/
def TileOut.none : TileOut :=
  { outs := [], result := 0, result2 := 0, first := .none, poison := false, ev := NumEv.zero, part := [], scanBad := 0 }

/-- Bytes as written, all poisoned or none. -/
def outBytes (a : Nat) (b : List Byte) (poison : Bool) : List OutByte := (List.range b.length).map (fun i => (a + i, b.getD i 0, poison))

/-- The sum of exact addends (R405, R408, R411): nothing where one is poisoned. -/
def exactSum (vs : List (Option Val)) : Option Val × NumEv :=
  let r := vs.foldl (fun (acc : Acc × NumEv) v => match v with
    | none => (acc.1.addPoison, acc.2)
    | some v => let (a, carry, tiny) := acc.1.add v
      (a, { acc.2 with carry := acc.2.carry + (if carry then 1 else 0), tiny := acc.2.tiny + (if tiny then 1 else 0) })) (Acc.empty, NumEv.zero)
  (if r.1.poison then none else some r.1.value, { r.2 with readouts := 1 })

/-- A value rounded to binary32. -/
def rnd32 (v : Val) : Val := decode .binary32 (writeVal .binary32 false v).bits

/-- The sum of binary32 addends in an order and a grouping that nothing constrains (R419): two of the terms at a time, which
two being free values. -/
def fastSum (seed : Nat) : Nat → List Val → Val
  | 0, l => l.headD Val.zero
  | n + 1, l =>
    if l.length ≤ 1 then l.headD Val.zero
    else
      let i := Config.freeNat (seed + 2 * n) % l.length
      let x := l.getD i Val.zero
      let l := l.take i ++ l.drop (i + 1)
      let j := Config.freeNat (seed + 2 * n + 1) % l.length
      fastSum seed n (rnd32 (x.add (l.getD j Val.zero)) :: (l.take j ++ l.drop (j + 1)))

/-- The result of one element's operands under an OP of R376: an exact value, or nothing where an operand is poisoned. -/
def reduceVals (op : Nat) (fast : Bool) (seed : Nat) (vs : List (Option Val)) (extra : List (Option Val)) : Option Val × NumEv :=
  let terms := if op = 6 then (List.range (vs.length / 2)).map (fun j =>
      match vs.getD (2 * j) none, vs.getD (2 * j + 1) none with
      | some x, some y => some (x.mul y)
      | _, _ => none) else vs
  let terms := terms ++ extra
  if op = 1 ∨ op = 2 then
    (if terms.any Option.isNone then none else
      match terms.filterMap id with
      | [] => some Val.zero
      | v :: rest => some (rest.foldl (Val.sel (op == 1)) v), NumEv.zero)
  else if fast then
    (if terms.any Option.isNone then none else
      let l := (terms.filterMap id).map rnd32
      some (fastSum seed l.length l), NumEv.zero)
  else exactSum terms

/-- The raw result under AND, OR and XOR (R418). -/
def reduceRaw (op : Nat) (vs : List (Option Nat)) : Option Nat :=
  if vs.any Option.isNone then none
  else match vs.filterMap id with
    | [] => some 0
    | v :: rest => some (rest.foldl (fun x y => if op = 3 then x &&& y else if op = 4 then x ||| y else Nat.xor x y) v)

/-- Elements from `e0` up, packed as an operand stores them: bits and poison of each (R397, R398, R400). -/
def packPlain (f : Fmt) (base e0 : Nat) (es : List (Nat × Bool)) : List OutByte :=
  if f.bits < 8 then
    ((List.range (es.length / 2)).map (fun i =>
      let x := es.getD (2 * i) (0, false)
      let y := es.getD (2 * i + 1) (0, false)
      (base + (e0 + 2 * i) / 2, BitVec.ofNat 8 (x.1 + 16 * y.1), x.2 || y.2)))
  else ((List.range es.length).map (fun i =>
      let x := es.getD i (0, false)
      outBytes (base + (e0 + i) * (f.bits / 8)) (leBytes (f.bits / 8) x.1) x.2)).flatten

/-- Write exact values as elements of an operand (R411 to R416): the bytes, and what they count as.  A poisoned element poisons
its bytes, and in an MX operand its block's. -/
def writeElems (t : Store) (e4 : Bool) (base e0 : Nat) (vs : List (Option Val)) : List OutByte × NumEv × Nat :=
  match t with
  | .plain f =>
    let ws : List (Written × Bool) := vs.map (fun v => match v with
      | some v => (writeVal f e4 v, false)
      | none => (Written.of 0, true))
    (packPlain f base e0 (ws.map (fun w => (w.1.bits, w.2))), (ws.foldl (fun ev w => ev.add w.1.ev) NumEv.zero), (ws.filter (fun w => w.1.nonfinite)).length)
  | .mx f =>
    let blocks : List (List OutByte × NumEv × Nat) := (List.range (cdiv vs.length 32)).map (fun b =>
      let l := padTo0 32 ((vs.drop (32 * b)).take 32)
      let bad := l.any Option.isNone
      let (scale, ws) := writeMx f (l.map (fun v => v.getD Val.zero))
      let (scale, ws) := if bad then (0, ws.map (fun _ => Written.of 0)) else (scale, ws)
      let e := e0 + 32 * b
      let bytes := leBytes (mxBlockBytes f) ((List.range 32).foldl (fun acc i => acc + ((ws.getD i (Written.of 0)).bits) * 2 ^ (f.bits * i)) 0)
      let at_ := base + (t.place e).1
      (outBytes (base + scaleAt f e) [BitVec.ofNat 8 scale] bad ++ outBytes at_ bytes bad,
        (ws.foldl (fun ev w => ev.add w.ev) { NumEv.zero with mxFf := if !bad && scale == 255 then 1 else 0 }), (ws.filter (fun w => w.nonfinite)).length))
    ((blocks.map (fun b => b.1)).flatten, blocks.foldl (fun ev b => ev.add b.2.1) NumEv.zero, (blocks.map (fun b => b.2.2)).sum)
where
  /-- A block of 32 values, filled with zeros. -/
  padTo0 (n : Nat) (l : List (Option Val)) : List (Option Val) := l ++ List.replicate (n - l.length) (some Val.zero)

/-- The elements `e0` to `e1` - 1 of DST from their operands (R376, R404, R417, R418). -/
def reduceTile (V : LineReader) (d : Desc) (dst : Nat) (srcs : List Nat) (fast e4 : Bool) (seed a b : Nat) : TileOut :=
  let es := (List.range (b - a)).map (fun i => a + i)
  if d.op ≥ 3 ∧ d.op ≤ 5 then
    let f : Fmt := if d.fmtIn = 7 then .int4 else .int8
    let vs := es.map (fun e => reduceRaw d.op (srcs.map (fun x => rawElem V (.plain f) x e) ++ (if d.flag 5 then [rawElem V (.plain f) dst e] else [])))
    { TileOut.none with outs := packPlain f dst a (vs.map (fun v => (v.getD 0, v.isNone))) }
  else
    let rs := es.map (fun e => reduceVals d.op fast (seed + 4096 * e) (srcs.map (fun x => readElem V d.inp x e)) (if d.flag 5 then [readElem V d.out dst e] else []))
    let (outs, ev, nf) := writeElems d.out e4 dst a (rs.map Prod.fst)
    { TileOut.none with outs := outs, result2 := nf, ev := (rs.foldl (fun x r => x.add r.2) ev) }

/-- The rows of a GATHER-REDUCE tile (R377). -/
def gatherTile (V : LineReader) (d : Desc) (fast e4 : Bool) (seed a b : Nat) : TileOut :=
  let re := d.rowElems
  let rows := (List.range (b - a)).map (fun i => (a + i, bagOf V d (a + i)))
  let rs := rows.map (fun x => (List.range re).map (fun k =>
    let extra := if d.flag 5 then [readElem V d.out d.w2 (x.1 * re + k)] else []
    match x.2 with
    | none => (none, NumEv.zero)
    | some (idx, _) =>
      let badRow := idx.any (fun y => (List.range re).any (fun m => (readElem V d.inp d.w3 (y * re + m)).isNone))
      if badRow then (none, NumEv.zero)
      else if idx.isEmpty ∧ d.flag 5 = false then (some Val.zero, NumEv.zero)
      else reduceVals d.op fast (seed + 4096 * (x.1 * re + k)) (idx.map (fun y => readElem V d.inp d.w3 (y * re + k))) extra))
  let (outs, ev, _) := writeElems d.out e4 d.w2 (a * re) ((rs.flatten).map Prod.fst)
  { TileOut.none with outs := outs, result2 := (rows.map (fun x => match x.2 with | some (_, n) => n | none => 0)).sum
                      ev := (rs.flatten).foldl (fun x r => x.add r.2) ev }

/-- The target rows of a SCATTER-ADD tile (R378): each row's value and every contribution of the tile, in one accumulation. -/
def scatterTile (V : LineReader) (d : Desc) (e4 : Bool) (a b : Nat) : TileOut :=
  let re := d.rowElems
  let es := (List.range (b - a)).map (fun i =>
    let at_ := d.w4 + 4 * (a + i)
    (a + i, if poisonAt V at_ 4 then none else some (leNat (bytesAt V at_ 4))))
  let bad := (es.filter (fun x => x.2.isNone)).length
  let excess := (es.filter (fun x => match x.2 with | some y => decide (y ≥ d.tableRows) | none => false)).length
  let targets := (es.filterMap (fun x => x.2)).filter (fun y => decide (y < d.tableRows))
  let distinct := (targets.foldl (fun l y => if l.contains y then l else l ++ [y]) []).mergeSort (fun x y => decide (x ≤ y))
  let per := distinct.map (fun y =>
    let mine := es.filter (fun x => x.2 == some y)
    let rowBad (base row : Nat) (t : Store) : Bool := (List.range re).any (fun m => (readElem V t base (row * re + m)).isNone)
    let bad := mine.any (fun x => rowBad d.w3 x.1 d.inp) || rowBad d.w2 y d.out
    let rs := (List.range re).map (fun k =>
      if bad then (none, NumEv.zero)
      else exactSum (readElem V d.out d.w2 (y * re + k) :: mine.map (fun x => readElem V d.inp d.w3 (x.1 * re + k))))
    let (outs, ev, _) := writeElems d.out e4 d.w2 (y * re) (rs.map Prod.fst)
    (outs, rs.foldl (fun x r => x.add r.2) ev))
  { TileOut.none with outs := (per.map Prod.fst).flatten, result2 := bad + excess, poison := decide (0 < bad), ev := per.foldl (fun x r => x.add r.2) NumEv.zero }

/-- A field of PARAMS as a binary32 value. -/
def parmVal (p : List Byte) (i : Nat) : Val := decode .binary32 (parm p i 4)

/-- The update of one parameter (R383): w, m, v from G and the old values, each operation rounded to binary32. -/
def optimStep (op : Nat) (p : List Byte) (g w m v : Val) : Val × Val × Val :=
  let mul (a b : Val) : Val := rnd32 (a.mul b)
  let fma (a b c : Val) : Val := rnd32 ((a.mul b).add c)
  let sub (a b : Val) : Val := rnd32 (a.add b.negate)
  let one := Val.ofInt 1
  let (lr, b1, b2, eps, wd, gs, bc1, bc2) := (parmVal p 0, parmVal p 4, parmVal p 8, parmVal p 12, parmVal p 16, parmVal p 20, parmVal p 24, parmVal p 28)
  let g := mul g gs
  if op = 1 then
    let m := fma b1 m (mul (sub one b1) g)
    let v := fma b2 v (mul (mul (sub one b2) g) g)
    let mh := rnd32 (m.div bc1)
    let vh := rnd32 (v.div bc2)
    let d := rnd32 (mh.div (rnd32 ((rnd32 vh.sqrt).add eps)))
    (sub w (mul lr (fma wd w d)), m, v)
  else
    let m := fma b1 m g
    (sub w (mul lr (fma wd w m)), m, v)

/-- Store binary32 values in a format: exactly in binary32, stochastically in a narrower one (R383, R422, R423). -/
def storeStochastic (t : Store) (e4 : Bool) (p : List Byte) (base e0 : Nat) (vs : List (Option Val)) : List OutByte × NumEv :=
  match t with
  | .plain .binary32 => let (o, ev, _) := writeElems t e4 base e0 vs; (o, ev)
  | .plain f =>
    let ws := (List.range vs.length).map (fun i => match vs.getD i none with
      | none => ((0, true), NumEv.zero)
      | some v =>
        let (w, used) := writeStochastic f e4 v (draw (parm p 48 8) (parm p 40 8) (base + (e0 + i) * (f.bits / 8)))
        ((w.bits, false), { w.ev with stoch := if used then 1 else 0 }))
    (packPlain f base e0 (ws.map Prod.fst), ws.foldl (fun ev w => ev.add w.2) NumEv.zero)
  | .mx _ => ([], NumEv.zero)

/-- The update of the elements of an OPTIM-STEP tile (R383). -/
def optimTile (V : LineReader) (d : Desc) (moment : Store) (p : List Byte) (e4 : Bool) (a b : Nat) : TileOut :=
  let w32 : Store := .plain .binary32
  let rs := (List.range (b - a)).map (fun i =>
    let e := a + i
    match readElem V w32 d.w2 e, readElem V d.inp d.w3 e, readElem V moment d.w4 e, (if d.op = 1 then readElem V moment d.w5 e else some Val.zero) with
    | some w, some g, some m, some v => some (optimStep d.op p (rnd32 g) w m v)
    | _, _, _, _ => none)
  let (wo, wev, _) := writeElems w32 e4 d.w2 a (rs.map (fun r => r.map (fun x => x.1)))
  let (mo, mev) := storeStochastic moment e4 p d.w4 a (rs.map (fun r => r.map (fun x => x.2.1)))
  let (vo, vev) := if d.op = 1 then storeStochastic moment e4 p d.w5 a (rs.map (fun r => r.map (fun x => x.2.2))) else ([], NumEv.zero)
  let (co, cev) := if d.fmtOut = 0 then ([], NumEv.zero) else storeStochastic d.out e4 p d.w6 a (rs.map (fun r => r.map (fun x => x.1)))
  { TileOut.none with outs := wo ++ mo ++ vo ++ co, result := b - a, ev := ((wev.add mev).add vev).add cev }

/-- The scan of an OPTIM-STEP with CHECK (R384): elements of G or of g that are not finite. -/
def scanTile (V : LineReader) (d : Desc) (p : List Byte) (a b : Nat) : TileOut :=
  let fin (v : Val) : Bool := match v with | .fin _ _ _ => true | _ => false
  let vs := (List.range (b - a)).map (fun i => readElem V d.inp d.w3 (a + i))
  { TileOut.none with scanBad := (vs.filter (fun v => match v with
      | some v => !(fin v && fin (rnd32 ((rnd32 v).mul (parmVal p 20))))
      | none => false)).length }

/-- The scores of a KV-SELECT tile (R386, R387). -/
def scoreTile (V : LineReader) (d : Desc) (h : List Byte) (a b : Nat) : TileOut :=
  let dim := kvDim h
  let heads := kvHeads h
  let bf : Store := .plain .bfloat16
  let rs := (List.range (b - a)).map (fun i =>
    let x := a + i
    let base := kvSummaryBase h + x * kvSummaryStride h
    let summaryBad := poisonAt V base (4 * dim)
    let queryBad := (List.range dim).any (fun k => (readElem V d.inp d.w3 (x % heads * dim + k)).isNone)
    let score := if summaryBad || queryBad then (some Val.nan, NumEv.zero) else exactSum ((List.range dim).map (fun k =>
      match readElem V d.inp d.w3 (x % heads * dim + k), readElem V bf base k, readElem V bf base (dim + k) with
      | some q, some mx, some mn => some (Val.sel false (q.mul mx) (q.mul mn))
      | _, _, _ => none))
    (score, summaryBad))
  let (outs, ev, _) := writeElems (.plain .binary32) false d.w5 a (rs.map (fun r => r.1.1))
  { TileOut.none with outs := outs, poison := rs.any (fun r => r.2), ev := rs.foldl (fun x r => x.add r.1.2) ev }

/-- Whether block `x` with a score ranks before block `y` (R387). -/
def ranksBefore (x y : Nat × Val) : Bool :=
  match x.2, y.2 with
  | .nan, .nan => decide (x.1 < y.1)
  | .nan, _ => false
  | _, .nan => true
  | u, v => match Val.cmp u v with
    | some .gt => true
    | some .eq => decide (x.1 < y.1)
    | _ => false

/-- The blocks a head selects, ascending (R387). -/
def selectBlocks (d : Desc) (nb : Nat) (score : Nat → Val) : List Nat :=
  let forced := (List.range nb).filter (fun b => decide (b < min d.sink nb) || decide (nb - d.recent ≤ b))
  let others := ((List.range nb).filter (fun b => !forced.contains b)).map (fun b => (b, score b))
  let best := ((others.mergeSort ranksBefore).take (d.k - forced.length)).map Prod.fst
  (forced ++ best).mergeSort (fun x y => decide (x ≤ y))

/-- The OUT entries of a head (R385, R387). -/
def selectTile (V : LineReader) (d : Desc) (h : List Byte) (head : Nat) : TileOut :=
  let nb := kvBlocks h
  let bitsOf (b : Nat) : Nat := leNat (bytesAt V (d.w5 + 4 * (b * kvHeads h + head)) 4)
  let queryBad := (List.range (kvDim h)).any (fun k => (readElem V d.inp d.w3 (head * kvDim h + k)).isNone)
  let scoresBad := (List.range nb).any (fun b => poisonAt V (d.w5 + 4 * (b * kvHeads h + head)) 4)
  let sel := selectBlocks d nb (fun b => decode .binary32 (bitsOf b))
  let out := (sel.map (fun b => leBytes 4 b ++ leBytes 4 (bitsOf b))).flatten ++ (List.replicate (d.k - sel.length) (leBytes 8 0xFFFFFFFF)).flatten
  { TileOut.none with outs := outBytes (d.w4 + head * kvOutStride d) out (queryBad || scoresBad), result := sel.length }

/-- A chunk packed (R389). -/
def packTile (V : LineReader) (d : Desc) (a b : Nat) : TileOut :=
  let delta := d.w5 + a / 65536 * 65664
  let changed := changedLines V d a b
  let header := leBytes 64 (changed.foldl (fun m j => m + 2 ^ j) 0) ++ leBytes 2 changed.length ++ leBytes 62 0
  let line (j : Nat) : List Byte × Bool :=
    let n := d.w2 + a + 128 * j
    let o := d.w4 + a + 128 * j
    if d.op = 0 then (bytesAt V n 128, poisonAt V n 128)
    else ((List.range 128).map (fun i => byteAt V (n + i) ^^^ byteAt V (o + i)), poisonAt V n 128 || poisonAt V o 128)
  { TileOut.none with
    outs := outBytes delta header false ++ ((List.range changed.length).map (fun k =>
      let (bs, p) := line (changed.getD k 0)
      outBytes (delta + 128 + 128 * k) bs p)).flatten
    result := changed.length, result2 := 128 + 128 * changed.length }

/-- A chunk applied (R389). -/
def applyTile (V : LineReader) (d : Desc) (a b : Nat) : TileOut :=
  let delta := d.w5 + a / 65536 * 65664
  let n := (b - a) / 128
  match recordLines V delta with
  | none => { TileOut.none with outs := outBytes (d.w2 + a) (List.replicate (128 * n) 0) true, result2 := 128 }
  | some set =>
    let line (j : Nat) : List Byte × Bool :=
      let o := d.w4 + a + 128 * j
      match set.findIdx? (· == j) with
      | none => (bytesAt V o 128, poisonAt V o 128)
      | some k =>
        let q := delta + 128 + 128 * k
        if d.op = 2 then (bytesAt V q 128, poisonAt V q 128)
        else ((List.range 128).map (fun i => byteAt V (q + i) ^^^ byteAt V (o + i)), poisonAt V q 128 || poisonAt V o 128)
    { TileOut.none with
      outs := ((List.range n).map (fun j => let (bs, p) := line j; outBytes (d.w2 + a + 128 * j) bs p)).flatten
      result := (set.filter (fun j => decide (j < n))).length, result2 := 128 + 128 * set.length }

/-- What a tile computes (R374 to R390). -/
def Recipe.compute (r : Recipe) (V : LineReader) (srcs : List Nat) (seed t : Nat) : TileOut :=
  let d := r.d
  let (a, b) := r.items t
  match d.code with
  | 1 => { TileOut.none with outs := (List.range (b - a)).map (fun i => (d.w2 + a + i, BitVec.ofNat 8 (d.w4 / 2 ^ (8 * ((d.w2 + a + i) % 8))), false)) }
  | 2 => { TileOut.none with outs := (List.range (b - a)).map (fun i => (d.w2 + a + i, byteAt V (d.w4 + a + i), poisonAt V (d.w4 + a + i) 1)) }
  | 3 =>
    let bad (j : Nat) : Bool := poisonAt V (d.w2 + j) 1 || poisonAt V (d.w4 + j) 1
    { TileOut.none with first := ((List.range (b - a)).map (fun i => a + i)).find? (fun j => bad j || byteAt V (d.w2 + j) != byteAt V (d.w4 + j))
                        poison := (List.range (b - a)).any (fun i => bad (a + i)) }
  | 4 => reduceTile V d d.w2 ((List.range d.inputs).map (fun i => d.w4 + i * d.w5)) r.fast r.e4m3Nan seed a b
  | 5 => gatherTile V d r.fast r.e4m3Nan seed a b
  | 6 => scatterTile V d r.e4m3Nan a b
  | 7 => reduceTile V d d.w5 srcs r.fast r.e4m3Nan seed a b
  | 8 => if d.flag 7 && decide (t < r.phaseOne) then scanTile V d r.params a b else optimTile V d r.moment r.params r.e4m3Nan a b
  | 9 =>
    if t < r.phaseOne then scoreTile V d r.params a b
    else if t < r.phaseOne + kvHeads r.params then selectTile V d r.params (t - r.phaseOne)
    else TileOut.none
  | 10 => if d.op ≤ 1 then packTile V d a b else applyTile V d a b
  | 11 =>
    let bs := bytesAt V (d.w2 + a) (b - a)
    { TileOut.none with poison := poisonAt V (d.w2 + a) (b - a), part := if d.op = 0 then leBytes 8 (crc64Reg bs 0) else Config.sha256 bs }
  | _ => TileOut.none

/-! ### The commit (R362, R364) -/

/-- The lines of written bytes, in the order they come: line, bytes by offset, poison. -/
def outLines : List OutByte → List (Nat × List (Nat × Byte) × Bool)
  | [] => []
  | (a, b, p) :: rest =>
    let l := outLines rest
    match l with
    | (n, bs, q) :: tail => if n = a / 128 then (n, (a % 128, b) :: bs, p || q) :: tail else (a / 128, [(a % 128, b)], p) :: l
    | [] => [(a / 128, [(a % 128, b)], p)]

/-- A line that a tile has written, homed on its own cluster, goes on to its channel, and is clean in the pantry (R49, R275; log 156). -/
def tileWrite (core line : Nat) (s : State) : State :=
  match s.storeOf line with
  | some l =>
    if homeCluster (l * 128) = clusterOf core ∧ (s.lineMeta l).dirty = true then
      dramPush l true .normal .tile (setMeta l (fun m => { m with dirty := false }) s)
    else s
  | none => s

/-- Commit one line of a tile (R48, R340, R362): a whole line, or bytes merged; counted when it is left poisoned, and lost on a
failed channel. -/
def commitOut (core : Nat) (pages : Assoc Nat Page) (x : Nat × List (Nat × Byte) × Bool) (s : State) : State × Nat × Bool :=
  match aget pages (x.1 / 512) with
  | none => (s, 0, true)
  | some p =>
    let line := (p.pa + x.1 % 512 * 128) / 128
    if s.lineFailed line then (onlyIf x.2.2 (poisonListed (s.channelOfLine line) line) s, 0, true)
    else
      let data := (List.range 128).map (fun i => ((x.2.1.find? (fun b => b.1 == i)).map Prod.snd).getD 0)
      let full := (List.range 128).all (fun i => x.2.1.any (fun b => b.1 == i))
      let s := if full then writeLine line data x.2.2 7 p.tenant p.keyId s
        else mergeLine line data (fun i => x.2.1.any (fun b => b.1 == i)) x.2.2 7 p.tenant p.keyId s
      let s := tileWrite core line s
      (s, if (s.metaOf line).poison then 1 else 0, false)

/-- Commit the lines of a tile in order. -/
def commitOuts (core : Nat) (pages : Assoc Nat Page) (l : List (Nat × List (Nat × Byte) × Bool)) (s : State) : State × Nat × Bool :=
  l.foldl (fun (acc : State × Nat × Bool) x =>
    let (s, n, lost) := commitOut core pages x acc.1
    (s, acc.2.1 + n, acc.2.2 || lost)) (s, 0, false)

/-- Count what a piece of work adds to the numeric counters of a die (R425). -/
def countEv (die : Nat) (e : NumEv) (s : State) : State :=
  let add (c : Ctr) (n : Nat) (s : State) : State := if n = 0 then s else bumpBy c die n s
  add .exactReadouts e.readouts (add .nonfinite e.nonfinite (add .saturations e.sat (add .nanToInteger e.nanInt (add .carrySaturated e.carry
    (add .mxFf e.mxFf (add .stochasticRoundings e.stoch (add .tinyProducts e.tiny s)))))))

/-- A tile ends with a code (R364): nothing of it is committed, no further tile is dispatched, and every tile above it is
dropped. -/
def failTile (id tile : Nat) (st : Status) (s : State) : State :=
  dropTiles id (fun t => decide (t < tile)) (setRecipe id (fun r => { r with failed := if ahas r.failed tile then r.failed else aset r.failed tile st }) s)

/-- A tile lost to a watchdog, a core reset or a residue mismatch (R335, R364): run once more from its start, unless it was lost
before; the second loss ends it with a code.  One that was stolen stays so (R368). -/
def loseTile (t : CoreTile) (cluster avoid : Nat) (st : Status) (s : State) : State :=
  let id := t.recipe
  let tile := t.tile
  match s.recipe id with
  | none => s
  | some r =>
    if ahas r.lost tile || (r.d.code == 13 && bits r.d.w6 8 1 == 1) then failTile id tile st s
    else
      let s := setRecipe id (fun x => { x with lost := aset x.lost tile avoid }) s
      bump .rcReruns (r.die * 16 + r.d.code) (s.onRecp (fun x => { x with queues := amod x.queues cluster [] (fun q => { recipe := id, tile := tile, stolen := t.stolen } :: q) }))

/-- A tile has committed (R363, R364, R394, R469). -/
def doneTile (id tile : Nat) (s : State) : State :=
  match s.recipe id with
  | none => s
  | some r =>
    bump .rcTiles (r.die * 16 + r.d.code) (mirrorState 0 6 1 (leBytes 2 r.slot ++ leBytes 2 r.tag ++ leBytes 2 0 ++ leBytes 4 tile)
      (setRecipe id (fun x => { x with done := if x.done.contains tile then x.done else x.done ++ [tile] }) s))

end Sys2Proof.Machine
end

