-- ==== Sys2Proof/Machine/OpsLarder.lean ====
section
/-!
DEFINITION. Machine/OpsLarder.lean: spares and retirement (R592 to R595): exhaustion, and a core that leaves service.
-/
namespace Sys2Proof.Machine

/-- The lowest-numbered spare core of a cluster that is not being brought in (R594). -/
def State.spareCore (s : State) (k : Nat) : Option Nat :=
  (coresOf k).find? (fun c => corePresent c && (s.unit .core c).st == .spare && !s.boot.bringIns.any (fun b => b.core == c))

/-- A core's power state: a spare is kept in Deep until it is brought in, a retired core is powered off, every other core has that of its
cluster (R32, R594). -/
def State.corePower (s : State) (c : Nat) : PowerSt :=
  match (s.unit .core c).st with
  | .spare => if s.boot.bringIns.any (fun b => b.core == c && b.woken) then .run else .deep
  | .retired => .deep
  | _ => (s.punit (clusterOf c)).st

/-- The spares that are being brought in wake from Deep, each a 6 A core step within the 40 A of a µs (R529, R594). -/
def wakeSpares (s : State) : State :=
  forAll s.boot.bringIns (fun b s =>
    if b.woken || decide (s.power.napUsed + 6000 > 40000) then s
    else (drawQuiet 6000 s).onBoot (fun x => { x with bringIns := x.bringIns.map (fun y =>
      if y.core = b.core then { y with woken := true } else y) })) s

/-- A core for which no spare is left (R593, R594): the retirement alone is written to the larder record, and a command that asked for a
spare is answered NO_SPACE. -/
def noSpareFor (for_ : Nat) (req : Option Req) (s : State) : State :=
  let s := onlyIf (s.unit .core for_).retiredRole (fun s => notify 0x1F04 (leBytes 1 1 ++ leBytes 4 for_) (crumb 1 for_ 0x0E (1 + for_ * 2 ^ 32) s)) s
  let s := exhaust 1 (clusterOf for_) s
  match req with
  | some r => reply (cmdObj 0x1F30 3 roleOp) r .noSpace [] (reply (cmdObj 0x1F20 5 roleOp) r .noSpace [] s)
  | none => s

/-- Begin bringing in the next spare for a retired core (R594); none left exhausts the cluster (R593).  Of two cores of a cluster retired at
one instant with one spare left, the lower-numbered has it. -/
def bringSpare (for_ : Nat) (req : Option Req) (s : State) : State :=
  let k := clusterOf for_
  match s.spareCore k with
  | some c =>
    let s := wakeSpares (s.onBoot (fun b => { b with bringIns := b.bringIns ++ [{ core := c, for_ := for_, req := req, woken := false, since := s.now }] }))
    if (s.spareCore k).isNone then exhaust 1 k s else s
  | none =>
    match s.boot.bringIns.find? (fun b => clusterOf b.for_ == k && b.since == s.now && decide (for_ < b.for_)) with
    | some b =>
      noSpareFor b.for_ b.req (s.onBoot (fun x => { x with bringIns := x.bringIns.map (fun y => if y.core = b.core then { y with for_ := for_, req := req } else y) }))
    | none => noSpareFor for_ req s

/-- What a core was running, and its local queue, go back to its cluster's queue: the running tile as lost (R364, R455). -/
def vacateCore (c avoid : Nat) (st : Status) (s : State) : State :=
  let k := clusterOf c
  let back := agetD s.recp.locals c []
  let s := s.onRecp (fun r => { r with locals := adel r.locals c, queues := if back.isEmpty then r.queues else amod r.queues k [] (fun q => back ++ q) })
  match (s.coreRec c).run with
  | some t =>
    let s := setCore c (fun x => { x with run := none }) s
    if t.ending = .ended then s else loseTile t k avoid st s
  | none => s

/-- Retire a core (R594): it leaves service at once under a new epoch, its tile is lost, and a spare is brought in. -/
def retireCore (c : Nat) (st : Status) (req : Option Req) (s : State) : State :=
  let s := setUnit .core c (fun u => { u with st := .retired, retiredRole := true }) s
  let s := vacateCore c c st s
  bringSpare c req (clearCore c (advanceEpoch .core c s))

/-- A residue mismatch in a tile of a core (R335, R348, R629): its crumb and record; two different tiles within 24 h retire the core. -/
def noteMismatch (c thread tile : Nat) (s : State) : State :=
  let s := crumb 1 c 8 (thread + tile * 2 ^ 32) s
  let day := 86400000000000
  let old := ((s.unit .core c).mismatches.filter (fun m => decide (s.now < m.2 + day)))
  let again := old.any (fun m => m.1 != tile)
  let s := bump .residueMismatches c (setUnit .core c (fun u => { u with mismatches := (tile, s.now) :: old }) s)
  let s := logError 5 (if again then 6 else 1) 0 0 0 0 c s
  if again then retireCore c .integrity none s else s

end Sys2Proof.Machine
end

