-- ==== Sys2Proof/Machine/OpsSlots.lean ====
section
/-!
DEFINITION. Machine/OpsSlots.lean: the changes of slots and generations that take effect once the standby has acknowledged them: attach,
loss, detach, Quarantine, and CTX_INVALIDATE (R189, R198 to R204, R219, R223, R469).
-/
namespace Sys2Proof.Machine

/-- NONCE of an ATTACH (R188). -/
def attachNonce (p : Packet) : Nat := leNat (p.body.take 8)
/-- KIND of an ATTACH. -/
def attachKind (p : Packet) : Nat := leNat ((p.body.drop 10).take 1)
/-- ATTACH_ACK OK for a slot (R188, R189). -/
def attachAck (p : Packet) (slot caps : Nat) : Packet :=
  mkPacket 0 0x02 p.src p.dest p.tag 0 slot false (leBytes 16 (attachNonce p + caps * 2 ^ 64 + 1000 * 2 ^ 80 + 8000 * 2 ^ 96))

/-- Acknowledge an attach, ledgered in the slot (R192). -/
def sendAttachAck (p : Packet) (slot caps : Nat) (s : State) : State :=
  finalGen p.src p.tag (sendPacket (attachAck p slot caps)
    (ledgerWrite slot p.tag 0 { fingerprint := p.crc, op := p.op, status := 0, harg := slot, result := slot } s))

/-- A slot's DETACH begins (R198, R515): Detaching, its lines recalled, its recipes ended, and what is held for it answered; a further
one waits for the first (R199). -/
def beginDetach (slot tag : Nat) (s : State) : State :=
  match aget s.part.slots slot with
  | some r =>
    if r.st = .active then settleHolds slot (fun x => x.pkt.resend) (abortHeld slot) (startDetach slot tag s)
    else if r.st = .detaching then setSlot slot (fun r => { r with detachTags := r.detachTags ++ [tag] }) s
    else s
  | none => s

/-- A slot enters Quarantine (R198 step 5, R200, R260): DETACH is answered and PARTNER_DETACHED raised, or PARTNER_LOST. -/
def leaveSlot (slot : Nat) (s : State) : State :=
  match aget s.part.slots slot with
  | none => s
  | some r =>
    if r.st = .detaching then
      notify 0x1402 (leBytes 2 slot ++ leBytes 4 r.eid) (forAll r.detachTags (fun tag s => finalGen r.eid tag (sendCmp r.eid tag .ok 0 s)) (freeSlot slot s))
    else if r.st = .lost then
      let coarse := (s.dir.entries.filter (fun e => e.2.coarse && e.2.has slot)).length
      let c := r.loss
      freeSlot slot (notify 0x1403 (leBytes 2 slot ++ leBytes 4 r.eid ++ leBytes 1 c.cause ++ leBytes 8 c.poisoned ++ leBytes 8 c.exclusive
        ++ leBytes 8 c.shared ++ leBytes 8 coarse ++ leBytes 4 c.recipes ++ leBytes 8 s.now) s)
    else s

/-- The effect of CTX_INVALIDATE (R219): the registered generation, and every cached entry of the context dropped on both dies; the
command then waits for the requests and tiles translated before. -/
def setGeneration (r : Req) (ctx gen : Nat) (s : State) : State :=
  let waits := (s.txn.reqs.filter (fun q => q.ctx == ctx && !q.ordered && q.phase != .settle && hasAddr q.op)).map (fun q => (q.src, q.tag))
  let tiles := s.core.cores.filterMap (fun c => match c.2.run with
    | some t => if t.checked && s.recp.recipes.any (fun x => x.id == t.recipe && x.ctx == ctx) then some (t.recipe, t.tile) else none
    | none => none)
  let s := s.onPart (fun p => { p with
    gens := aset p.gens ctx gen
    ctxCache := p.ctxCache.filter (fun e => e.1.2 ≠ ctx)
    xlate := p.xlate.filter (fun e => e.ctx ≠ ctx)
    walks := p.walks.filter (fun e => e.ctx ≠ ctx)
    invWaits := p.invWaits ++ [{ req := r, ctx := ctx, waits := waits, tiles := tiles }] })
  voidTensors ctx (bump .xlInvalidations 0 (bump .xlInvalidations 1 s))

/-- A change takes effect. -/
def runChange (a : HeldAct) (s : State) : State :=
  match a with
  | .attached slot p =>
    let caps := ((aget s.part.slots slot).map (fun r => r.caps)).getD 0
    notify 0x1401 (leBytes 2 slot ++ leBytes 4 p.src ++ leBytes 1 (attachKind p)) (sendAttachAck p slot caps s)
  | .lose slot cause => (match aget s.part.slots slot with
    | some r => if r.st = .active ∨ r.st = .detaching then loseSlot slot cause s else s
    | none => s)
  | .detach slot tag => beginDetach slot tag s
  | .leave slot => leaveSlot slot s
  | .free slot => s.onPart (fun p => { p with slots := adel p.slots slot })
  | .generation r ctx gen => setGeneration r ctx gen s

/-- A change that `record` mirrors takes effect: at once, or on an owner with a standby once it is acknowledged (R203, R469). -/
def holdChange (record : State → State) (a : HeldAct) (s : State) : State :=
  if s.mirrors then
    let s := record s
    s.onPart (fun p => { p with heldChanges := p.heldChanges ++ [{ act := a, need0 := s.twin.mseq0, need1 := s.twin.mseq1 }] })
  else runChange a s

/-- Whether a change of a slot waits for the standby. -/
def State.changing (s : State) (slot : Nat) : Bool :=
  s.part.heldChanges.any (fun h => match h.act with
    | .lose n _ | .leave n | .free n => n == slot
    | _ => false)

/-- A held change that the higher epoch ends (R488): what it would have answered is answered FENCED. -/
def fenceChange (a : HeldAct) (s : State) : State :=
  match a with
  | .attached _ p => answerNow p .fenced s
  | .detach slot tag => (match aget s.part.slots slot with
    | some r => sendCmp r.eid tag .fenced 0 s
    | none => s)
  | .generation r _ _ => reply ctxInvalidateObj r .fenced [] s
  | _ => s

end Sys2Proof.Machine
end

