-- ==== Sys2Proof/Machine/OpsTwin.lean ====
section
/-!
DEFINITION. Machine/OpsTwin.lean: the operations of the twin pair: messages, fencing, applying the mirror, resync, handback and
takeover (R462 to R500).
-/
namespace Sys2Proof.Machine

/-! ### Messages (R465 to R467, R480, R482) -/

/-- The number of a twin state (R499). -/
def TwinSt.code : TwinSt → Nat
  | .solo => 0 | .enrolling => 1 | .syncing => 2 | .standby => 3 | .adrift => 4 | .promoting => 5 | .alone => 6 | .feeding => 7
  | .active => 8 | .releasing => 9 | .fenced => 10

/-- An event the table of R464 does not list for the state. -/
def twinIgnore (s : State) : State := bump .twEventsIgnored 0 s

/-- Whether no line has been committed since cold bring-up (R466). -/
def State.fresh (s : State) : Bool := s.twin.written.isEmpty

/-- The EID a HELLO is sent to: the peer's node EID, a free value while none is known (R151). -/
def State.helloDest (s : State) : Nat := if s.twin.peerEid = 0 then Config.freeNat s.free % 2 ^ 18 else s.twin.peerEid

/-- Send TW_HELLO on every Active TW port (R466, R467), with a STATUS: REFUSED_STATE in the answer to a HELLO that is refused (R12, R468). -/
def sendHelloAs (st : Status) (s : State) : State :=
  let t := s.twin
  let slot1 := s.obj .nodeEid + s.obj .serviceEid * 2 ^ 32 + Config.orderingCodeU8 * 2 ^ 64 + t.st.code * 2 ^ 72
    + s.obj .deepCacheUnits * 2 ^ 80 + s.obj .homePreference * 2 ^ 88 + (if s.fresh then 2 ^ 89 else 0)
  let slot2 := t.incarnation + t.epoch * 2 ^ 64
  let p := mkPacket 0 0xA0 s.helloDest (s.obj .nodeEid) 0 st.code 0 false (leBytes 16 slot1 ++ leBytes 16 slot2)
  forAll s.twPorts (fun port s => sendOnPort port p s) (if t.peerEid = 0 then useFree s else s)

/-- Send TW_HELLO on every Active TW port (R466, R467). -/
def sendHello (s : State) : State := sendHelloAs .ok s

/-- Send TW_KEEPALIVE on every Active TW port (R467). -/
def sendKeepalive (s : State) : State :=
  let t := s.twin
  let p := mkPacket 0 0xA1 s.helloDest (s.obj .nodeEid) 0 0 0 false
    (leBytes 16 (t.epoch + t.st.code * 2 ^ 32 + s.obj .nodeEid * 2 ^ 40 + (if t.handoverAsk then 2 ^ 58 else 0)))
  forAll s.twPorts (fun port s => sendOnPort port p s) s

/-- Send ANNOUNCE on every Active fabric port (R148, R483). -/
def sendAnnounce (s : State) : State :=
  let p := mkPacket 0 0x08 0x3FFFF (s.obj .nodeEid) 0 0 0 false
    (leBytes 4 (s.obj .serviceEid) ++ leBytes 4 (s.obj .nodeEid) ++ leBytes 4 s.twin.epoch ++ leBytes 4 0)
  forAll ((List.range 32).filter (fun q => portPresent q && (s.port q).st == .active)) (fun port s => enqueueAt port poolLeaf p s) s

/-- The peer a HELLO shows. -/
def helloPeer (p : Packet) : Peer :=
  let a := leNat (p.body.take 16)
  let b := leNat ((p.body.drop 16).take 16)
  { node := bits a 0 18, service := bits a 32 18, code := bits a 64 8, state := bits a 72 8, units := bits a 80 8, pref := bits a 88 1 == 1
    fresh := bits a 89 1 == 1, incarnation := bits b 0 64, epoch := bits b 64 32, handoverAsk := false }

/-- Whether a state number is an owner's (R485). -/
def ownerCode (n : Nat) : Bool := n == 6 || n == 7 || n == 8 || n == 9

/-! ### Fencing (R310, R488) -/

/-- A line has what it held before a commit that never took effect (R27, R469, R488). -/
def undoSent (u : Sent) (s : State) : State :=
  match u.line, u.undo with
  | some l, some (bytes, m) => setMeta l (fun _ => m) (putBytes (l * 128) bytes s)
  | _, _ => s

/-- The higher epoch fences (R488): Fenced, lamps dark, what the standby has not acknowledged undone, everything accepted and not committed answered FENCED, nothing further
to any sled. -/
def fenceTo (e : Nat) (s : State) : State :=
  let s := forAll s.twin.unacked.reverse undoSent s
  let s := s.onTwin (fun t => { t with st := .fenced, epoch := e, lampOut := .dark, unacked := [], resync := none, diverging := false, divergence := []
                                       handback := false, quiescing := false, paused := false, released := false, force := none, handoverAsk := false
                                       releaseCode := none, repairWaits := [], basis := 0 })
  let s := forAll s.txn.reqs (fun q s => dropRequest q.src q.tag (sendFinal q (statusPacket q.pkt .fenced 0) s)) s
  let s := forAll s.traffic.holds (fun h s => forAll h.2 (fun x s => answerEarly x.pkt .fenced s) s) s
  let s := forAll s.part.slots (fun e s => forAll e.2.detachTags (fun tag s => sendCmp e.2.eid tag .fenced 0 s) s) s
  let s := forAll s.part.heldChanges (fun h s => fenceChange h.act s) s
  let s := s.onPart (fun p => { p with heldChanges := [], ownWrites := [], slots := p.slots.map (fun e => (e.1, { e.2 with detachTags := [] })) })
  let s := s.onTraffic (fun t => { t with holds := [], leaves := t.leaves.filter (fun l => !isDeepPort l.1.port) })
  let s := forAll s.recp.recipes (fun r s => sendPacket (recipePacket r.ctx (mkPacket 5 0x52 r.src r.pkt.dest r.tag Status.fenced.code 0 false doneReset) s)
    (dropRecipe r s)) s
  let s := stopDeep (dropPool (fun i _ _ => i == .mirror) (s.onTxn (fun t => { t with halves := [] })))
  notify 0x1B04 (leBytes 4 e) (bump .twFences 0 (releasePeerWaits (abortDumps (fun _ => true) false s)))

/-- Releasing ends in Adrift, with the copy as of the release (R464, R496). -/
def leaveReleasing (e : Nat) (s : State) : State :=
  stopDeep (s.onTwin (fun t => { t with st := .adrift, epoch := e, lampOut := .dark, paused := false, released := false, handback := false
                                        handoverAsk := false, unacked := [], diverging := false, divergence := [] }))

/-- A Releasing Varisk sees the epoch it released to (R464, R496): Adrift with its copy, and HELLO. -/
def handedOver (e : Nat) (s : State) : State := sendHello (notify 0x1B0C (leBytes 4 e) (bump .twHandbacks 0 (leaveReleasing e s)))

/-- A higher epoch is seen (R464). -/
def higherEpoch (e : Nat) (s : State) : State :=
  match s.twin.st with
  | .alone | .feeding | .active | .promoting => fenceTo e s
  | .releasing => if e = s.twin.epoch + 1 then handedOver e s else fenceTo e s
  | .syncing => s.onTwin (fun t => { t with st := .enrolling, held := [], syncEnd0 := false, syncEnd1 := false })
  | _ => twinIgnore s

/-! ### Becoming an owner or a standby (R463, R468, R483, R490) -/

/-- The granules of a list on a die, ascending. -/
def granulesOn (die : Nat) (l : List Nat) : List Nat := (l.filter (fun g => homeDie (g * 65536) == die)).mergeSort (fun x y => decide (x ≤ y))

/-- The state dump of a resync (R490): directory and region entries, slots, generations, recipes with their committed tiles. -/
def State.dumpRecords (s : State) : List (Nat × Nat × Nat × List Byte) :=
  s.dir.entries.map (fun e => (homeDie (e.1 * 128), 1, 2, leBytes 14 e.1 ++ leBytes 16 e.2.bits))
    ++ s.dir.regions.map (fun g => (homeDie (g.1 * 4096), 2, 2, leBytes 14 g.1 ++ leBytes 16 g.2.bits))
    ++ s.part.slots.map (fun e => (0, 3, 2, leBytes 2 e.1 ++ leBytes 4 e.2.eid ++ leBytes 1 (slotCode e.2.st) ++ leBytes 1 e.2.kind ++ leBytes 2 e.2.caps
        ++ leBytes 4 0 ++ leBytes 8 e.2.nonce ++ leBytes 8 e.2.attachedAt))
    ++ (s.part.gens.filter (fun g => g.2 != 0)).map (fun g => (0, 4, 1, leBytes 2 g.1 ++ leBytes 4 g.2))
    ++ (s.recp.recipes.map (fun r => (0, 5, 5, leBytes 2 r.slot ++ leBytes 2 r.tag ++ leBytes 2 r.ctx ++ leBytes 1 r.die ++ leBytes 7 0 ++ r.d.bytes)
        :: r.done.map (fun t => (0, 6, 1, leBytes 2 r.slot ++ leBytes 2 r.tag ++ leBytes 2 0 ++ leBytes 4 t)))).flatten

/-- Copy every key to the standby inside the Peer session (R558, R560). -/
def copyKeys (s : State) : State :=
  let send (sub : Nat) (arg : List Byte) (s : State) : State := mirrorOp (cmdObj 0x1E30 sub 0) arg s
  let s := match s.sec.key0 with | some k => send 1 (leBytes 2 0 ++ leBytes 1 0 ++ leBytes 64 k) s | none => s
  let s := forAll s.sec.tenants (fun e s =>
    let s := forAll e.2.memKeys (fun k s => send 1 (leBytes 2 e.1 ++ leBytes 1 k.1 ++ leBytes 64 k.2) s) s
    forAll e.2.signKeys (fun k s => send 6 (leBytes 2 e.1 ++ leBytes 1 k.1 ++ leBytes 96 k.2) s) s) s
  forAll s.sec.jobs (fun j s =>
    let s := forAll j.2.gens (fun g s => send 3 (leBytes 2 j.2.tenant ++ leBytes 2 j.1 ++ leBytes 1 g.1 ++ leBytes 32 g.2 ++ leBytes 8 j.2.switchAt) s) s
    if j.2.eids.isEmpty then s else send 4 (leBytes 2 j.2.tenant ++ leBytes 2 j.1 ++ (j.2.eids.map (leBytes 4)).flatten) s) s

/-- Send every mirrored RW object and table to the standby as Peer writes (R671).  A table with no row has nothing to put. -/
def copyObjects (s : State) : State :=
  let s := forAll (allObjs.filter (fun o => (writeObj o).mirrored)) (fun o s => mirrorOp (writeObj o) (leBytes o.info.size (s.obj o)) s) s
  forAll (s.kodp.tables.filter (fun e => (putObj e.1).mirrored && !e.2.isEmpty)) (fun e s =>
    mirrorOp (putObj e.1) (leBytes 2 e.2.length ++ (e.2.map (rowBytes e.1)).flatten) s) s

/-- Start building the standby (R464, R490, R493): a delta resync of the divergence map where R493 allows, else a full one, which
skips what was never written when the peer is fresh. -/
def startFeeding (peer : Peer) (s : State) : State :=
  let delta := s.twin.st == .alone && peer.state == 4 && peer.incarnation == s.twin.incarnation && peer.epoch == s.twin.epoch && s.twin.diverging
  let only (die : Nat) : Option (List Nat) :=
    if delta then some (granulesOn die s.twin.divergence) else if peer.fresh then some (granulesOn die s.twin.written) else none
  let s := bump (if delta then .twDeltaResyncs else .twFullResyncs) 0 s
  let r : Resync := { delta := delta, dump := s.dumpRecords, sweep0 := { next := 0, only := only 0 }, sweep1 := { next := 0, only := only 1 },
                      end0 := none, end1 := none, doneLines := 0, startedAt := s.now }
  copyObjects (copyKeys (s.onTwin (fun t => { t with st := .feeding, mseq0 := 0, mseq1 := 0, acked0 := 0, acked1 := 0, unacked := [],
                                                     kaAt := s.now, kaLost1ms := false, kaLost15 := false, diverging := delta,
                                                     divergence := (if delta then t.divergence else []), resync := some r })))

/-- Become the standby that a peer builds (R464, R498): the copy is replaced, unless the resync is to be delta. -/
def startSyncing (peer : Peer) (s : State) : State :=
  let keep := s.twin.st == .adrift && peer.incarnation == s.twin.incarnation && peer.epoch == s.twin.epoch
  let s := s.onTwin (fun t => { t with st := .syncing, epoch := peer.epoch, incarnation := peer.incarnation, held := [], applied0 := 0, applied1 := 0,
                                       syncEnd0 := false, syncEnd1 := false, kaAt := s.now, kaLost1ms := false, kaLost15 := false,
                                       releaseCode := none, force := none, lampOut := .dark, degraded := false })
  -- the state dump replaces the directories, slots, generations and recipes
  let s := s.onDir (fun _ => DirState.reset)
  let s := s.onPart (fun p => { PartnerState.reset with invWaits := p.invWaits, rangeWaits := p.rangeWaits, fqSticky := p.fqSticky })
  let s := s.onRecp (fun r => { RecipeState.reset with nextId := r.nextId })
  let s := s.onTxn (fun t => { t with reqs := [], halves := [], ledger := if keep then t.ledger else [] })
  stopDeep s

/-- A new epoch is agreed or taken: it is stored as prepared before it is used (R483). -/
def useEpoch (e : Nat) (s : State) : State := s.onTwin (fun t => { t with epoch := e, prepared := max t.prepared e })

/-- Become owner without a standby (R464, R479, R483): hold frames, ANNOUNCE, and for a Varisk that gains ownership the sleds
are claimed. -/
def becomeOwner (s : State) : State :=
  let s := s.onTwin (fun t => { t with st := .alone, lampOut := .hold, announceAt := s.now, handback := false, quiescing := false, paused := false, released := false,
                                       prepared := max t.prepared (t.epoch + 1) })
  let s := forAll [0, 1, 2, 3] (fun n s => setSled n (fun x => { x with claimed := false, fenced := false }) s) s
  let s := forAll [0, 1, 2, 3] (fun n s => if (s.sled n).present then sendClaim n s.twin.epoch s else s) s
  sendAnnounce s

/-! ### The owner's side of the mirror (R469 to R479) -/

/-- Whether an MSEQ is at or before another in the stream's order (32 bits). -/
def mseqLe (a b : Nat) : Bool := decide ((b + 2 ^ 32 - a) % 2 ^ 32 < 2 ^ 31)

/-- Release the answers that the standby's acknowledgements allow (R469, R478). -/
def releaseHeld (s : State) : State :=
  forAll (s.txn.reqs.filter (fun q => q.phase == .mirror && mseqLe q.need0 s.twin.acked0 && mseqLe q.need1 s.twin.acked1)) (fun q s =>
    match q.answer with
    | some pk => releaseAnswer q pk s
    | none => s) s

/-- The changes of slots and generations that the standby has acknowledged take effect (R203, R223, R469). -/
def releaseChanges (s : State) : State :=
  let ok (h : HeldChange) : Bool := mseqLe h.need0 s.twin.acked0 && mseqLe h.need1 s.twin.acked1
  let l := s.part.heldChanges.filter ok
  if l.isEmpty then s
  else forAll l (fun h s => runChange h.act s) (s.onPart (fun p => { p with heldChanges := p.heldChanges.filter (fun h => !ok h) }))

/-- What the standby's acknowledgements allow goes on: answers, changes, and own writes to the lines they free (R226, R469). -/
def releaseAll (s : State) : State := runOwn (releaseChanges (releaseHeld s))

/-- Both SYNC_END are acknowledged: Active (R464, R493). -/
def endResync (s : State) : State :=
  match s.twin.st, s.twin.resync with
  | .feeding, some r =>
    match r.end0, r.end1 with
    | some a, some b =>
      if mseqLe a s.twin.acked0 && mseqLe b s.twin.acked1 then
        notify 0x1B0B (leBytes 1 (if r.delta then 2 else 1) ++ leBytes 8 r.doneLines ++ leBytes 4 ((s.now - r.startedAt) / 1000000))
          (s.onTwin (fun t => { t with st := .active, resync := none, diverging := false, divergence := [] }))
      else s
    | _, _ => s
  | _, _ => s

/-- The standby has gone (R464, R479): Alone; what was held completes; its granules diverge. -/
def loseStandby (cause : Nat) (s : State) : State :=
  let wasActive := s.twin.st == .active
  let gone := (s.twin.unacked.filterMap (fun u => u.line.map (fun l => l / 512))).eraseDups
  let keep := s.twin.st == .feeding && (match s.twin.resync with | some r => r.delta | none => false)
  let s := s.onTwin (fun t => { t with st := .alone, resync := none, unacked := [], acked0 := t.mseq0, acked1 := t.mseq1, diverging := wasActive || keep
                                       divergence := (gone ++ (if keep then t.divergence else [])).eraseDups, handoverAsk := false, handback := false, quiescing := false })
  let s := releasePeerWaits (releaseAll s)
  sendHello (notify 0x1B05 (leBytes 1 cause) (bump .twStandbyLosses 0 s))

/-! ### Applying the mirror (R470 to R473, R491) -/

/-- A directory entry from the layout of R241, or nothing for Invalid. -/
def entryOfBits (n : Nat) : Option DirEntry :=
  let st : Option LineSt := match bits n 0 2 with | 1 => some .shared | 2 => some .exclusive | 3 => some .modified | _ => none
  st.map (fun st =>
    let sh := bits n 8 64
    { st := st, recalling := bits n 2 1 == 1, coarse := bits n 3 1 == 1
      ptrs := if bits n 3 1 = 1 then [] else (List.range (bits n 4 3)).map (fun i => bits sh (13 * i) 13)
      groups := if bits n 3 1 = 1 then (List.range 64).filter (fun g => bits sh g 1 == 1) else [], aged := bits n 7 1 == 1, kind := bits n 72 4, lost := false })

/-- Set or empty one ledger entry from its 16 bytes (R176). -/
def ledgerSet (slot tag w : Nat) (s : State) : State :=
  let e : LedgerEntry := { fingerprint := bits w 0 32, op := bits w 32 8, status := bits w 40 8, harg := bits w 64 16, result := bits w 64 64 }
  s.onTxn (fun t => { t with ledger := if bits w 48 1 = 1 then aset t.ledger (slot, tag) e else adel t.ledger (slot, tag) })

/-- Write ledger entries from a line of the ledger's area (R176, R490). -/
def applyLedgerLine (l : Nat) (data : List Byte) (s : State) : State :=
  forAll (List.range 8) (fun i s =>
    let k := (l * 128 - ledgerBase) / 16 + i
    let w := leNat ((data.drop (16 * i)).take 16)
    ledgerSet (k / 4096) (k % 4096) w s) s

/-- Apply a mirrored or swept line (R473): ciphertext and META verbatim; on a failed channel the copy is poisoned and
STANDBY_DEGRADED raised. -/
def applyLine (l word : Nat) (data : List Byte) (s : State) : State :=
  let ch := (placeOf (l * 128)).channel
  if l * 128 ≥ ledgerBase then applyLedgerLine l data s
  else if (s.channel ch).st = .failed then
    notify 0x1B08 (leBytes 1 (ch / 32) ++ leBytes 1 (ch % 32)) (setMeta l (fun m => { m with poison := true }) (s.onTwin (fun t => { t with degraded := true })))
  else
    let s := putBytes (l * 128) (padTo 128 data) (pantryRoom l s)
    mapGranule l (setMeta l (fun m => { m with poison := bits word 0 1 == 1, tenant := bits word 1 15, version := bits word 16 16, keyId := 0
                                               inPantry := true, dirty := true, key := none, cipher := bits word 0 1 == 0 }) s)

/-- Apply one state record (R472, R473). -/
def applyRecord (type : Nat) (b : List Byte) (s : State) : State :=
  let f (i n : Nat) : Nat := leNat ((b.drop i).take n)
  match type with
  | 1 =>
    let line := bits (f 0 8) 16 45
    match entryOfBits (f 16 16) with
    | some e => s.onDir (fun d => { d with entries := aset d.entries line e })
    | none => s.onDir (fun d => { d with entries := adel d.entries line })
  | 2 =>
    let reg := bits (f 0 8) 16 40
    let w := f 16 16
    if bits w 0 1 = 1 then s.onDir (fun d => { d with regions := aset d.regions reg { lines := bits w 1 7, ctx := bits w 8 16, addr := bits w 24 52 } })
    else s.onDir (fun d => { d with regions := adel d.regions reg })
  | 3 =>
    let slot := f 2 2
    let st : Option SlotSt := match f 8 1 with | 1 => some .active | 2 => some .detaching | 3 => some .lost | 4 => some .quarantine | _ => none
    match st with
    | none => ledgerClear slot (s.onPart (fun p => { p with slots := adel p.slots slot }))
    | some st =>
      let eid := f 4 4
      let row := (s.table .partnerGrants).find? (fun r => r.fields.getD 0 0 == eid)
      let grants := (row.map (fun r => (r.fields.drop 3).take (r.fields.getD 2 0))).getD []
      let r : Slot := { st := st, eid := eid, kind := f 9 1, caps := f 10 2, nonce := f 16 8, attachedAt := f 24 8, renewedAt := s.now, grants := grants
                        detachTags := [], loss := { cause := 0, poisoned := 0, exclusive := 0, shared := 0, coarse := 0, recipes := 0 } }
      s.onPart (fun p => { p with slots := aset p.slots slot r })
  | 4 => s.onPart (fun p => { p with gens := aset p.gens (f 2 2) (f 4 4) })
  | 5 =>
    let slot := f 2 2
    let src := ((aget s.part.slots slot).map Slot.eid).getD 0
    let d := descOf ((b.drop 16).take 64)
    let fp := ((aget s.txn.ledger (slot, f 4 2)).map (fun e => e.fingerprint)).getD 0
    let p := { mkPacket 5 0x50 (s.obj .serviceEid) src (f 4 2) 0 (f 6 2) false d.bytes with crc := fp }
    let params : List Byte := match d.paramAddr with
      | some a => (match s.segmentNow (f 6 2) a with
        | some (pa, tenant, keyId) => (s.view (pa / 128) tenant keyId).2
        | none => List.replicate 128 0)
      | none => []
    let r := { newRecipe s (8 * f 8 1) slot p params [] with die := f 8 1, phase := if d.code = 7 then .collecting else .running }
    s.onRecp (fun x => { x with recipes := x.recipes.filter (fun y => !(y.slot == slot && y.tag == f 4 2)) ++ [r], nextId := x.nextId + 1 })
  | 6 => s.onRecp (fun x => { x with recipes := x.recipes.map (fun r => if r.slot == f 2 2 && r.tag == f 4 2 && !r.done.contains (f 8 4) then { r with done := r.done ++ [f 8 4] } else r) })
  | 7 => s.onRecp (fun x => { x with recipes := x.recipes.filter (fun r => !(r.slot == f 2 2 && r.tag == f 4 2)) })
  | 8 =>
    mapGranule (ledgerLine (f 2 2) (f 4 2)) (ledgerSet (f 2 2) (f 4 2) (f 16 16) s)
  | _ => bump .reservedRecords 36 s

/-- Apply the records of an MR_STATE packet in turn; SYNC_END ends its stream's sweep (R472). -/
def applyRecords (stream : Nat) : Nat → List Byte → State → State
  | 0, _, s => s
  | n + 1, b, s =>
    let type := leNat (b.take 1)
    let len := max 1 (leNat ((b.drop 1).take 1))
    let s := if type = 9 then s.onTwin (fun t => { t with syncEnd0 := t.syncEnd0 || stream == 0, syncEnd1 := t.syncEnd1 || stream != 0 }) else applyRecord type (b.take (16 * len)) s
    applyRecords stream n (b.drop (16 * len)) s

/-- Stream and MSEQ of a mirror packet (R471, R472, R491). -/
def mirrorKey (p : Packet) : Nat × Nat :=
  let a := leNat (p.body.take 16)
  if p.op = 0xA4 then (bits a 112 1, bits a 80 32)
  else if p.op = 0xA5 then (bits a 32 1, bits a 0 32)
  else (bits a 45 1, bits (leNat ((p.body.drop 16).take 16)) 96 32)

/-- Apply one mirror packet (R471 to R473, R491). -/
def applyPacket (p : Packet) (s : State) : State :=
  let a := leNat (p.body.take 16)
  let (stream, mseq) := mirrorKey p
  let s := s.onTwin (fun t => { t with applied0 := if stream = 0 then mseq else t.applied0, applied1 := if stream = 0 then t.applied1 else mseq })
  if p.op = 0xA4 then applyLine (bits a 0 45) (bits a 48 32) (p.body.drop 16) s
  else if p.op = 0xA5 then applyRecords stream (bits a 40 8) (p.body.drop 16) s
  else
    let metas := leNat ((p.body.drop 16).take 16)
    forAll (List.range (bits a 46 2)) (fun i s => applyLine (bits a 0 45 + i) (bits metas (32 * i) 32) ((p.body.drop (32 + 128 * i)).take 128) s) s

/-- Apply what is held of a stream, as far as its MSEQ run on without a gap (R470). -/
def applyHeld (stream : Nat) : Nat → State → State
  | 0, s => s
  | n + 1, s =>
    let next := ((if stream = 0 then s.twin.applied0 else s.twin.applied1) + 1) % 2 ^ 32
    match s.twin.held.find? (fun h => h.1 == stream && h.2.1 == next) with
    | some h => applyHeld stream n (applyPacket h.2.2 (s.onTwin (fun t => { t with held := t.held.erase h })))
    | none => s

/-- Send MR_ACK with the highest contiguous MSEQ applied of each stream (R470). -/
def sendMrAck (s : State) : State :=
  sendTw 0 (mkPacket 0 0xA3 s.twin.peerEid (s.obj .nodeEid) 0 0 0 false (leBytes 16 (s.twin.applied0 + s.twin.applied1 * 2 ^ 32))) s

/-- Serve a repair whose stream has been applied far enough (R477): from the pantry, or by a read of DRAM. -/
def serveRepair (w : Nat × Nat × Nat × Nat × Nat) (s : State) : State :=
  let (_, _, l, tag, port) := w
  let ch := channelOfPa (l * 128)
  if (s.channel ch).st = .failed then answerRepair l tag port true s
  else if (s.lineMeta l).inPantry then answerRepair l tag port false s
  else if (s.channel ch).reqs.any (fun r => r.line == l && r.cause == .peerRepair tag port) then s
  else dramPush l false .normal (.peerRepair tag port) s

/-- Serve the repair requests that wait for an MSEQ now applied. -/
def serveRepairs (s : State) : State :=
  forAll (s.twin.repairWaits.filter (fun w => s.owner || mseqLe w.2.1 (if w.1 = 0 then s.twin.applied0 else s.twin.applied1))) serveRepair s

/-- Both SYNC_END are applied: Standby, with the next epoch stored (R464, R483). -/
def endSyncing (s : State) : State :=
  if s.twin.st == .syncing && s.twin.syncEnd0 && s.twin.syncEnd1 then
    s.onTwin (fun t => { t with st := .standby, prepared := max t.prepared (t.epoch + 1) })
  else s

/-- A mirror packet arrives at a standby (R470, R473): applied in MSEQ order, held beyond a gap, acknowledged. -/
def takeMirror (p : Packet) (s : State) : State :=
  if !(s.twin.st == .syncing || s.twin.st == .standby) then twinIgnore s
  else
    let (stream, mseq) := mirrorKey p
    let base := if stream = 0 then s.twin.applied0 else s.twin.applied1
    if mseqLe mseq base then sendMrAck s
    else
      let s := s.onTwin (fun t => { t with held := if t.held.any (fun h => h.1 == stream && h.2.1 == mseq) then t.held else t.held ++ [(stream, mseq, p)] })
      let s := applyHeld stream (s.twin.held.length + 1) s
      sendMrAck (serveRepairs (endSyncing s))

/-! ### Resync packets (R490 to R492) -/

/-- The next line a sweep reads on a die, at or after its position. -/
def sweepNext (die : Nat) (w : Sweep) : Option Nat :=
  match w.only with
  | some gs =>
    match gs.find? (fun g => decide (g * 512 + 512 > w.next)) with
    | some g => some (max w.next (g * 512))
    | none => none
  | none =>
    let g := w.next / 512
    match (List.range 32).find? (fun i => homeDie ((g + i) * 65536) == die) with
    | some i => let l := max w.next ((g + i) * 512); if l * 128 < dramTop then some l else none
    | none => none

/-- META of a line as a sweep sends it: of a failed channel, poisoned (R290). -/
def State.sweepMeta (s : State) (l : Nat) : LineMeta :=
  let m := s.lineMeta l
  if s.lineFailed l && decide (l * 128 < ledgerBase) then { m with poison := true } else m

/-- The bytes of a line as a sweep sends it: its ciphertext, zeros when poisoned; a line of the ledger from its entries. -/
def State.sweepLine (s : State) (l : Nat) : List Byte :=
  if l * 128 ≥ ledgerBase then
    let k := (l * 128 - ledgerBase) / 16
    ((List.range 8).map (fun i => match aget s.txn.ledger ((k + i) / 4096, (k + i) % 4096) with
      | some e => leBytes 16 (e.fingerprint + e.op * 2 ^ 32 + e.status * 2 ^ 40 + 2 ^ 48 + e.result * 2 ^ 64)
      | none => leBytes 16 0)).flatten
  else if (s.sweepMeta l).poison then List.replicate 128 0
  else padTo 128 (s.cipherOf l)

/-- Read the lines a sweep sends next, as scrub reads them: no snoop, no directory change (R328, R490); the ledger is read as it is held. -/
def readSweep (die l n : Nat) (s : State) : State × Bool :=
  let who := AccBy.sweep die
  let (s, ok) := (((List.range n).map (l + ·)).filter (fun x => decide (x * 128 < ledgerBase))).foldl (fun (acc : State × Bool) x =>
    match fetchLine who x acc.1 with
    | (s, .ready) => (s, acc.2)
    | (s, _) => (s, false)) (s, true)
  (if ok then useReturned who.src who.tag s else s, ok)

/-- RS_LINES of up to three lines from `l` on (R491). -/
def sendSweep (die l n : Nat) (s : State) : State :=
  let metas := (List.range n).foldl (fun acc i =>
    acc + (s.sweepMeta (l + i)).word * 2 ^ (32 * i)) 0
  let data := ((List.range n).map (fun i => s.sweepLine (l + i))).flatten
  bump .twRsLines 0 (mirrorSend die none (fun q => mkPacket 3 0xA6 s.twin.peerEid (s.obj .nodeEid) (q % 4096) 0 0 false
    (leBytes 16 (l + die * 2 ^ 45 + n * 2 ^ 46) ++ leBytes 16 (metas + q * 2 ^ 96) ++ data)) s)

end Sys2Proof.Machine
end

