-- ==== Sys2Proof/Machine/OpsFill.lean ====
section
/-!
DEFINITION. Machine/OpsFill.lean: what a sled's answers do: fills, writebacks, fencing, and the bulk commands (R295 to R312).
-/
namespace Sys2Proof.Machine

/-! ### Waiting accesses (R295, R312) -/

/-- Try the requests that wait for a granule again. -/
def wakeGranule (g : Nat) (s : State) : State :=
  forAll (s.deep.waiting.filter (fun w => w.2.1 == g)) (fun w s =>
    match s.request w.2.2.1 w.2.2.2 with
    | some q => orderRequest q false s
    | none => s) (runOwn s)

/-- The answer of a bulk command. -/
def endBulk (b : Bulk) (st : Status) (s : State) : State :=
  reply b.obj b.req (if b.aborted && st == .ok then .aborted else st) [] (s.onDeep (fun d => { d with bulk := none }))

/-- What waits for a granule is answered with a code (R307, R312): the requests, the accesses of tiles and the like, and a DEEP_PIN or
DEEP_PREFETCH that still needs it (log 158). -/
def failWaiting (g : Nat) (st : Status) (s : State) : State :=
  let mine := s.deep.waiting.filter (fun w => w.2.1 == g)
  let s := s.onDeep (fun d => { d with waiting := d.waiting.filter (fun w => w.2.1 != g)
                                       seekers := d.seekers.map (fun x => if x.1 = g then (x.1, x.2.1, x.2.2.1, some st) else x) })
  let s := match s.deep.bulk with
    | some b => if (b.which = 1 ∨ b.which = 3) ∧ b.granules.contains g = true then endBulk b st s else s
    | none => s
  forAll mine (fun w s =>
    match s.request w.2.2.1 w.2.2.2 with
    | some q => settleAged q.line (finishStatus q st 0 false s)
    | none => s) s

/-- Every frame whose tag is VALID: cluster, set, way, tag. -/
def State.frames (s : State) : List (Nat × Nat × Nat × Nat) :=
  let lines := (s.mem.lines.map Prod.fst).filter (fun l => decide (s.tagBase ≤ l * 128) && decide (l * 128 < ledgerBase))
  lines.flatMap (fun l =>
    let k := homeCluster (l * 128)
    let set := (localAddr (l * 128) - s.tagBase / 16) / 128
    ((List.range 16).map (fun w => (k, set, w, s.tag k set w))).filter (fun e => tagHas e.2.2.2 tagValid))

/-! ### Fills (R295, R303, R307, R322) -/

/-- The KEY_ID of a request that waits for a line of a granule. -/
def State.wantedKey (s : State) (g i : Nat) : Option Nat :=
  (s.deep.waiting.filterMap (fun w => if w.2.1 = g then s.request w.2.2.1 w.2.2.2 else none)).findSome? (fun q =>
    if q.pa % 65536 / 128 = i then some q.keyId else none)

/-- Place a line of a fill in its frame (R295, R303): its ciphertext and META verbatim, poisoned when its CRC-32C differs, its packet or its
metadata unit was poisoned, or its metadata says so; into the pantry as well where a request waits for it.  On a failed channel nothing is
written, and a poisoning is listed (R290, R685). -/
def placeLine (f : Fill) (i : Nat) (poison : Bool) (data : List Byte) (s : State) : State :=
  let l := s.framePa f.cluster f.set f.way / 128 + i
  let (mpoison, mbytes) := agetD f.metas (i / 16) (true, [])
  let word := leNat ((mbytes.drop (8 * (i % 16))).take 8)
  let bad := poison || mpoison || bits word 0 32 != crc32c data
  let w := bits word 32 32
  let poisoned := bad || bits w 0 1 == 1
  let place (s : State) : State :=
    let old := (s.readLine l, s.lineMeta l)
    let want := s.wantedKey f.granule i
    let s := dramPush l true .normal .frame (if want.isSome then pantryRoom l s else s)
    let s := setMeta l (fun m => { LineMeta.reset with poison := poisoned, tenant := if mpoison then 0 else bits w 1 15
                                                       version := if mpoison then 0 else bits w 16 16, cipher := true
                                                       inPantry := m.inPantry || want.isSome, way := m.way, keyId := want.getD m.keyId })
      (putBytes (l * 128) (padTo 128 data) s)
    mirrorLine l old (mapGranule l s)
  let s := if s.lineFailed l then onlyIf poisoned (poisonListed (s.channelOfLine l) l) s else place s
  if bad then bump .sledPoisoned (granuleSled f.granule) (poisonEvent l 5 (logError 8 4 (s.channelOfLine l) (l * 128) 0 0 0 s)) else s

/-- Change a fill's record. -/
def setFill (g : Nat) (f : Fill → Fill) (s : State) : State :=
  s.onDeep (fun d => { d with fills := d.fills.map (fun x => if x.granule = g then f x else x) })

/-- Go on with the repairs that a refill of their frame serves (R322): `go` says what each request meets. -/
def endRefill (f : Fill) (go : Nat → DramCause → State → State) (s : State) : State :=
  let base := s.framePa f.cluster f.set f.way / 128
  let mine (r : Repair) : Bool := r.tag == 4096 && decide (base ≤ r.line) && decide (r.line < base + 512)
  let l := s.integ.repairs.filter mine
  forAll l (fun r s => go r.line r.cause s) (s.onInteg (fun g => { g with repairs := g.repairs.filter (fun r => !mine r) }))

/-- How many frames of a set are pinned (R301). -/
def State.pins (s : State) (cluster set : Nat) : Nat := ((List.range 16).filter (fun w => let t := s.tag cluster set w; tagHas t tagValid && tagHas t tagPin)).length

/-- The way of a granule that is wholly resident. -/
def State.residentWay (s : State) (g : Nat) : Option Nat :=
  (s.frameWay (granulePa g)).bind (fun w => if tagHas (s.tag (granuleCluster g) (s.frameSet g) w) tagFilling then none else some w)

/-- One granule of a running DEEP_PIN, DEEP_PREFETCH or DEEP_TRIM (R301): done, or still to do. -/
def bulkGranule (b : Bulk) (g : Nat) (s : State) : State × Bulk :=
  let k := granuleCluster g
  let set := s.frameSet g
  let done (b : Bulk) : Bulk := { b with granules := b.granules.erase g }
  -- a granule of a quarantined set has no frame to be pinned, filled or dropped (R342; log 158)
  if s.ownPoisoned (s.tagLinePa k set) || s.quarantined k set then (s, done b)
  else if !s.tagReady k set then (fetchTag k set s, b)
  else if b.which = 5 then
    let (s, free) := recallGranule g s
    if !free then (s, b)
    else match s.frameWay (granulePa g) with
      | none => (s, done b)
      | some w =>
        let t := s.tag k set w
        if tagHas t tagFilling || tagHas t tagWriting then (s, b)
        else (setTag k set w 0 (cleanGranule g true s), done b)
  else match s.residentWay g with
    | some w =>
      let t := s.tag k set w
      if b.which ≠ 1 ∨ tagHas t tagPin then (s, done b)
      else if s.pins k set ≥ 12 then (s, { done b with noSpace := true })
      else (setTag k set w (tagPut t tagPin true) s, done b)
    | none => if (s.frameWay (granulePa g)).isSome then (s, b) else (missGranule g 0 1 (b.which == 1 && decide (s.pins k set < 12)) s, b)

/-- Take a running bulk command further; reply when it is done (R301). -/
def bulkStep (s : State) : State :=
  match s.deep.bulk with
  | none => s
  | some b =>
    if b.which = 4 then
      let dirty (s : State) := s.frames.filter (fun e => tagHas e.2.2.2 tagDirty && (b.sled == 0xFF || granuleSled (tagGranule e.2.2.2) == b.sled))
      let s := forAll (dirty s) (fun e s => startWriteback e.1 e.2.1 e.2.2.1 s) s
      if (dirty s).isEmpty then endBulk b .ok s else s
    else if b.which = 6 then s
    else
      let (s, b) := b.granules.foldl (fun (acc : State × Bulk) g => bulkGranule acc.2 g acc.1) (s, b)
      let s := s.onDeep (fun d => { d with bulk := some b })
      if !b.granules.isEmpty then s
      else if b.which ≠ 5 then endBulk b (if b.noSpace then .noSpace else .ok) s
      else
        let sleds := [0, 1, 2, 3].filter (fun n => decide (b.first < (n + 1) * 2 ^ 30) && decide (n * 2 ^ 30 < b.first + b.count))
        let s := forAll sleds (fun n s =>
          let lo := max b.first (n * 2 ^ 30)
          let hi := min (b.first + b.count) ((n + 1) * 2 ^ 30)
          if s.maySled n then sendDt n 1 0x85 0 lo (dtSlot (granuleLocal lo) (s.sledEpoch n) (hi - lo)) s else s) s
        if s.txn.pool.any (fun q => q.issuer == .deep && q.pkt.op == 0x85) then s.onDeep (fun d => { d with bulk := some { b with which := 6 } })
        else endBulk b .ok s

/-- Complete a fill once every unit and the DT_CMP have arrived (R295): FILLING cleared, REF set unless COLD. -/
def completeFill (g : Nat) (s : State) : State :=
  match s.fillOf g with
  | none => s
  | some f =>
    if !f.done || decide (f.arrived.length < 512) || decide (f.metas.length < 32) then s
    else
      let t := s.tag f.cluster f.set f.way
      let s := setTag f.cluster f.set f.way (tagPut (tagPut t tagFilling false) tagRef (!tagHas t tagCold)) s
      let s := s.onDeep (fun d => { d with fills := d.fills.filter (fun x => x.granule != g) })
      let s := endRefill f (fun l cause s => resumeCause l cause s) (bump .sledReads (granuleSled g) s)
      bulkStep (wakeGranule g s)

/-- A fill fails (R307): the tag is cleared, what the fill placed is dropped, waiting requests are answered with the code. -/
def failFill (f : Fill) (st : Status) (s : State) : State :=
  let s := setTag f.cluster f.set f.way 0 (cleanGranule f.granule true s)
  let s := s.onDeep (fun d => { d with fills := d.fills.filter (fun x => x.granule != f.granule) })
  let s := endRefill f (fun _ cause s => match cause with
    | .request src tag => (match s.request src tag with | some q => settleAged q.line (finishStatus q st 0 false s) | none => s)
    | .access src tag _ => s.onDeep (fun d => { d with seekers := d.seekers ++ [(f.granule, src, tag, some st)] })
    | _ => s) s
  failWaiting f.granule st (bump .sledFailedFills (granuleSled f.granule) s)

/-! ### Claims, writebacks and fencing (R300, R308 to R310, R486) -/

/-- A sled answers FENCED (R310): writes to it stop; a twin owner acts as stale (R488, log 29). -/
def sledFencedBy (sled : Nat) (s : State) : State :=
  let s := notify 0x1603 (leBytes 1 sled) (bump .sledFenced sled (setSled sled (fun x => { x with fenced := true, claimed := false }) s))
  if s.twin.st = .solo then s else higherEpoch s.twin.epoch s

/-- A writeback ends (R300, R308): OK clears WRITING, and DIRTY unless REDIRTY, when a COLD frame is queued again at once (R299); else the
frame stays DIRTY, its age starts again, and it is not tried before DIRTY_AGE. -/
def endWriteback (w : Writeback) (ok : Bool) (s : State) : State :=
  let t := tagPut (s.tag w.cluster w.set w.way) tagWriting false
  let clean := ok && !tagHas t tagRedirty
  let key := (w.cluster, w.set, w.way)
  let s := setTag w.cluster w.set w.way (if clean then tagPut t tagDirty false else t) s
  let s := s.onDeep (fun d => { d with
    writebacks := d.writebacks.filter (fun x => x != w),
    failed := if ok || d.failed.contains key then d.failed else d.failed ++ [key],
    dirtyAt := if clean then adel d.dirtyAt key else aset d.dirtyAt key s.now })
  onlyIf (ok && !clean && tagHas t tagCold) (queueWriteback w.cluster w.set w.way) s

/-- The claims of a takeover are over (R486): TWIN_TAKEOVER. -/
def takeoverDone (s : State) : State :=
  notify 0x1B03 (leBytes 4 s.twin.epoch ++ leBytes 1 s.twin.basis) (s.onTwin (fun t => { t with basis := 0 }))

/-- Claim a sled that has told of itself, where the Varisk may (R309). -/
def claimAfterInfo (sled : Nat) (s : State) : State :=
  let x := s.sled sled
  if x.claimed then s
  else if s.twin.st ≠ .solo then (if s.owner then sendClaim sled s.twin.epoch s else s)
  else if x.ownerEid = 0 ∨ x.ownerEid = s.obj .nodeEid then sendClaim sled x.ownerEpoch (setSled sled (fun x => { x with foreign := false }) s)
  else if x.foreign then s
  else notify 0x1604 (leBytes 1 sled) (setSled sled (fun x => { x with foreign := true }) s)

/-- A DT_CMP for a pool request (R300, R307, R309, R310). -/
def sledAnswer (sled : Nat) (q : PoolReq) (st : Status) (s : State) : State :=
  let s := endPool q s
  match q.pkt.op with
  | 0x82 =>
    if st = .ok then
      let epoch := leNat ((q.pkt.body.drop 4).take 4)
      let s := setSled sled (fun x => { x with claimed := true, fenced := false, foreign := false, ownerEid := s.obj .nodeEid, ownerEpoch := epoch }) s
      if s.twin.basis ≠ 0 ∧ [0, 1, 2, 3].all (fun n => !(s.sled n).present || (s.sled n).claimed) then takeoverDone s else s
    else if st = .fenced then sledFencedBy sled s
    else s
  | 0x83 =>
    match s.fillOf q.key with
    | none => s
    | some f => if st = .ok then completeFill f.granule (setFill f.granule (fun f => { f with done := true }) s) else failFill f st s
  | 0x84 =>
    match s.deep.writebacks.find? (fun w => w.granule == q.key) with
    | none => s
    | some w =>
      let s := endWriteback w (st == .ok) s
      if st = .fenced then sledFencedBy sled s else bulkStep s
  | 0x85 =>
    let s := if st = .fenced then sledFencedBy sled s else s
    match s.deep.bulk with
    | some b => if b.which = 6 && (st != .ok || !s.txn.pool.any (fun x => x.issuer == .deep && x.pkt.op == 0x85)) then endBulk b st s else s
    | none => s
  | _ => s

end Sys2Proof.Machine
end

