-- ==== Sys2Proof/Machine/OpsTime.lean ====
section
/-!
DEFINITION. Machine/OpsTime.lean: the time islands: their tick, the time parent and the steering by TIME_SYNC (R183 to R185, R618 to
R621).  Times are counted in 1/256 ns.
-/
namespace Sys2Proof.Machine

/-- The time island of a die. -/
def State.island (s : State) (die : Nat) : TimeIsland := if die = 0 then s.obs.time0 else s.obs.time1

/-- Change the time island of a die. -/
def setIsland (die : Nat) (f : TimeIsland → TimeIsland) (s : State) : State :=
  s.onObs (fun o => { o with time0 := if die = 0 then f o.time0 else o.time0, time1 := if die = 0 then o.time1 else f o.time1 })

/-- A value held within a bound on either side. -/
def clampInt (v b : Int) : Int := max (-b) (min b v)

/-- An integer as a two's complement number of 64 bits. -/
def i64 (v : Int) : Nat := (v % 2 ^ 64).toNat

/-- The nanoseconds a tick of the model stands for: 1,250 counts of 0.8 ns (log 33). -/
def tickNs : Nat := 1000

/-- A tick of an island: the count, its rate correction, and its share of what is left to slew in the 50 µs, the total within ±200 ppm
(R618, R619). -/
def TimeIsland.tick (t : TimeIsland) : TimeIsland :=
  let span : Int := tickNs * 256
  let most : Int := span * 200 / 1000000
  let rate : Int := if t.st = .root then 0 else Int.tdiv (span * t.rateAdj) 1000000000
  let share := Int.tdiv t.slew (max 1 t.slewTicks)
  let part := clampInt (clampInt (rate + share) most - rate) t.slew.natAbs
  { t with counter := (t.counter + (span + rate + part)).toNat, slew := t.slew - part, slewTicks := t.slewTicks - 1 }

/-- Whether the time islands run: VDD_AUX and REFCLK are there and PORESET_N is high (R64, R67). -/
def State.timeRuns (s : State) : Bool := !s.pkg.poresetLow && s.pkg.refclk

/-- What an empty queue's step does: both time islands count on by one tick (log 33). -/
def tick (s : State) : State :=
  if s.timeRuns then
    let held (die : Nat) (s : State) : State := onlyIf ((s.island die).st == .holdover) (bumpBy .holdoverNs die tickNs) s
    held 1 (held 0 (setIsland 1 TimeIsland.tick (setIsland 0 TimeIsland.tick s)))
  else s

/-- TIME_FAULT (R619). -/
def timeFault (die : Nat) (off : Int) (s : State) : State :=
  bump .timeFaults die (notify 0x2101 (leBytes 8 (i64 off)) s)

/-- An island's counter steps to a value: the step is marked (R619, R629). -/
def stepTo (die g : Nat) (s : State) : State :=
  let off : Int := (g : Int) - (s.timeOf die : Int)
  let s := setIsland die (fun t => { t with counter := g, offset := off, slew := 0 }) s
  bump .timeSteps die (crumb 10 die 0x000D (i64 off) s)

/-- The steps of R619 on a reading of the time that an island should show. -/
def steer (die g : Nat) (s : State) : State :=
  let t := s.island die
  let off : Int := (g : Int) - (t.counter : Int)
  let us : Int := 256000
  if us ≤ off ∨ (off ≤ -us ∧ t.everLocked = false) then
    let s := stepTo die g s
    if t.st = .locked then timeFault die off s
    else setIsland die (fun t => { t with st := .locking, n := 0 }) s
  else
    let s := onlyIf (decide (off ≤ -us)) (timeFault die off) s
    setIsland die (fun t =>
      let n := if off.natAbs < 2560 then t.n + 1 else 0
      let lock := t.st != .locked && decide (n ≥ 16)
      { t with rateAdj := clampInt (t.rateAdj + Int.tdiv off (256 * 64)) 200000, slew := off, slewTicks := 50, offset := off, n := n,
               st := if lock then .locked else if t.st = .holdover then .locking else t.st,
               everLocked := t.everLocked || lock }) s

/-- The mean of some round trips in ns, from counts of 0.8 ns; `old` where none has been measured. -/
def meanTrip (l : List Nat) (old : Nat) : Nat := if l.isEmpty then old else l.sum * 4 / (5 * l.length)

/-- The one-way delay of a port in 1/256 ns: half the mean of its last 64 round trips (R184). -/
def Port.oneWay (q : Port) : Nat := if q.trips.isEmpty then q.rtt * 128 else q.trips.sum * 512 / (5 * q.trips.length)

/-- The Active fabric ports that show VALID; none for the time root, which ignores TIME_SYNC (R185). -/
def State.timeSources (s : State) : List (Nat × TimeRx) :=
  if s.obj .timeRoot = 1 then [] else s.txn.timeRx.filter (fun e => isFabric e.1 && e.2.valid && (s.port e.1).st == .active)

/-- The source with the lowest HOPS, the lower port index on a tie (R185). -/
def bestSource (l : List (Nat × TimeRx)) : Option Nat :=
  (l.foldl (fun (a : Option (Nat × TimeRx)) e => match a with
    | none => some e
    | some b => if e.2.hops < b.2.hops ∨ (e.2.hops = b.2.hops ∧ e.1 < b.1) then some e else some b) none).map Prod.fst

/-- Choose the time parent (R185): it changes when it leaves Active, stops showing VALID, or another port has shown a lower HOPS for
10 ms. -/
def chooseParent (s : State) : State :=
  let src := s.timeSources
  let kept := match s.txn.timeParent with
    | some p => src.any (fun e => e.1 == p) && !src.any (fun e => match e.2.lower with | some t => decide (t + 10000000 ≤ s.now) | none => false)
    | none => false
  if kept then s else s.onTxn (fun t => { t with timeParent := bestSource src, timeRx := t.timeRx.map (fun e => (e.1, { e.2 with lower := none })) })

/-- A TIME_SYNC record arrives on a port (R183 to R185): fabric ports only, and not at the root. -/
def takeTimeSync (port : Nat) (b : List Byte) (s : State) : State :=
  if !isFabric port || s.obj .timeRoot == 1 then s
  else
    let v := leNat b
    let hops := bits v 16 8
    let time := bits v 64 64 * 256 + bits v 56 8
    let below := match s.txn.timeParent.bind (fun p => aget s.txn.timeRx p) with
      | some r => decide (hops < r.hops)
      | none => false
    let lower := if below then some (((aget s.txn.timeRx port).bind TimeRx.lower).getD s.now) else none
    let rx : TimeRx := { valid := bits v 8 1 == 1, hops := hops, time := time, at_ := s.now, lower := lower }
    let s := chooseParent (s.onTxn (fun t => { t with timeRx := aset t.timeRx port rx }))
    if s.txn.timeParent = some port ∧ rx.valid = true then steer 0 (time + (s.port port).oneWay) s else s

end Sys2Proof.Machine
end

