-- ==== Sys2Proof/Machine/OpsLink.lean ====
section
/-!
DEFINITION. Machine/OpsLink.lean: the states of a port, retraining and lane maps (R95, R108 to R119, R139, R140, R181).
-/
namespace Sys2Proof.Machine

/-! ### Lanes and widths (R95, R108, R113) -/

/-- Physical lanes that are set in a map. -/
def lanesIn (map : Nat) : List Nat := (List.range 9).filter (fun l => bits map l 1 == 1)

/-- Physical lanes not retired, in ascending order. -/
def lanesLeft (map : Nat) : List Nat := (List.range 9).filter (fun l => bits map l 1 == 0)

/-- The width of a direction by its retired map; 0 where it cannot carry flits (R108). -/
def widthOf (map : Nat) : Nat :=
  let n := (lanesLeft map).length
  if n ≥ 8 then 8 else if n ≥ 4 then 4 else 0

/-- The lanes that carry flit data (R108). -/
def activeLanes (map : Nat) : List Nat := (lanesLeft map).take (widthOf map)

/-- A receive lane of a port. -/
def Port.lane (q : Port) (l : Nat) : Lane := agetD q.lanes l Lane.reset

/-- Change a receive lane. -/
def setLane (port l : Nat) (f : Lane → Lane) (s : State) : State := setPort port (fun q => { q with lanes := amod q.lanes l Lane.reset f }) s

/-- A row of PORT_CONFIG; a port without one has enable 1, profile 0, half width allowed 1 (R141). -/
def State.portRow (s : State) (port : Nat) : List Nat :=
  match (s.table .portConfig).find? (fun r => r.fields.getD 0 0 == port) with
  | some r => r.fields
  | none => [port, 1, 0, 1]

/-- Whether a port is enabled in PORT_CONFIG. -/
def State.portEnabled (s : State) (port : Nat) : Bool :=
  portPresent port && !s.boot.portsOut.contains port && (s.portRow port).getD 1 1 == 1

/-! ### Leaving Active (R115, R140, R181, R515) -/

/-- A port's link-layer state discarded: sequence numbers, replay buffer, credits, partial packets, and lanes asked for that no training
has retired (R118, R140; log 151). -/
def Port.fresh (q : Port) : Port :=
  { q with retireReq := 0, retireNext := 0, startFlits := 0, holdOver := false,
           e := 0, accepted := false, nakPending := false, nakReason := 0, resync := false, rxPart := none, released := [], rxAccepted := [],
           base := 0, next := 0, replay := [], replaying := none, replaysFrom := [], charged := [], limit := [], txPart := none, control := [] }

/-- Training begins anew on a port: what its steps have counted is cleared (R117). -/
def Port.untrained (q : Port) : Port :=
  { q with startFlits := 0, lanes := q.lanes.map (fun e => (e.1, { e.2 with run := 0, same := 0 })) }

/-- Move a port to a state, with the time of the change; entering Detect lights its transmitters (R115). -/
def portTo (port : Nat) (st : PortSt) (f : Port → Port) (s : State) : State :=
  setPort port (fun q => { f q with st := st, changedAt := s.now, retrainReq := false, litAt := if st = .detect then s.now else (f q).litAt }) s

/-- A port in Detect begins training: lanes that still have no signal are asked for in RETIRE_REQ (R110, R117). -/
def beginTrain (port : Nat) (s : State) : State :=
  portTo port .train (fun q => { q.untrained with
    retireReq := ((List.range 9).map (fun l => if (q.lane l).los then 2 ^ l else 0)).sum }) s

/-- Requests held on a port are lost with its state (R140, R515). -/
def loseHolds (port : Nat) (s : State) : State :=
  s.onTraffic (fun t => { t with holds := t.holds.filter (fun h => h.1.2.1 != port) })

/-- The pins to a port are lost: the leaves move with their packets, in order, to the pins then picked (R149, R513); an ANNOUNCE is never
pinned, and is lost with its port (R150). -/
def moveLeaves (port : Nat) (s : State) : State :=
  let mine := s.traffic.leaves.filter (fun e => e.1.port == port)
  let s := s.onTxn (fun t => { t with pins := t.pins.filter (fun e => e.2 != port) })
  let s := s.onTraffic (fun t => { t with leaves := t.leaves.filter (fun e => e.1.port != port) })
  forAll mine (fun e s => forAll (e.2.filter (fun q => q.pkt.op != 0x08)) (fun q s =>
    let (s, port2) := match aget s.txn.pins q.pkt.dest with
      | some p => (s, p)
      | none => match s.pickPin q.pkt.dest with
        | some p => (s.onTxn (fun t => { t with pins := aset t.pins q.pkt.dest p }), p)
        | none => (s, noPin)
    let k : LeafKey := { e.1 with port := port2 }
    s.onTraffic (fun t => { t with leaves := amod t.leaves k [] (fun l => l ++ [q]) })) s) s

/-- Send again, with RESEND, what the Varisk itself had sent through a port and has no answer to (R181): through the new pins, or
the other TW ports.  `mine` are the pool-issued requests that went through the port; one that still waits in a leaf goes with it. -/
def resendFrom (port : Nat) (mine : List PoolReq) (s : State) : State :=
  if isTwinPort port then
    let s := forAll (s.twin.unacked.filter (fun x => x.port == port)) (fun x s => sendTw x.mseq { x.pkt with resend := true } s) s
    s.onTwin (fun t => { t with unacked := t.unacked.map (fun x => if x.port = port then { x with port := s.twPortAt x.mseq } else x) })
  else if isFabric port then forAll mine (fun q s => if s.poolQueued q then s else sendPacket { q.pkt with resend := true } s) s
  else s

/-- What follows when a port has left Active for Down or Disabled, or is Disabled from Retrain: pins, holds, resends, the time
parent. -/
def leftActive (port : Nat) (s : State) : State :=
  let s := s.onTxn (fun t => { t with timeRx := adel t.timeRx port })
  let mine := s.txn.pool.filter (fun q => s.portOf q == port)
  let s := onlyIf (isFabric port) (fun s => moveLeaves port (loseHolds port s)) s
  chooseParent (resendFrom port mine s)

/-- Whether a port holds link-layer state: Active or Retrain. -/
def Port.linked (q : Port) : Bool := q.st == .active || q.st == .retrain

/-- A port becomes Disabled: transmitters dark, link-layer state discarded (R115). -/
def disablePort (port : Nat) (s : State) : State :=
  let was := (s.port port).linked
  onlyIf was (leftActive port) (portTo port .disabled Port.fresh s)

/-- A port enters Down for a cause of 0x1201 (R115, R140): the flits discarded are counted. -/
def portDown (port cause : Nat) (s : State) : State :=
  let q := s.port port
  let n := q.replay.length
  let s := portTo port .down Port.fresh s
  let s := bumpBy .downDiscards port n s
  let s := onlyIf q.linked (leftActive port) s
  let s := notify 0x1201 (leBytes 1 port ++ leBytes 1 cause ++ leBytes 4 n) s
  let s := onlyIf (isTwinPort port) (notify 0x1B0A (leBytes 1 port)) s
  if isDeepPort port && (s.sled (port - 32)).reachable then
    notify 0x1602 (leBytes 1 (port - 32)) (setSled (port - 32) (fun x => { x with reachable := false }) s)
  else s

/-- A training fails (R115, R116). -/
def trainFails (port cause : Nat) (s : State) : State :=
  portDown port cause (bump .trainFailures port (setPort port (fun q => { q with failed := q.failed + 1 }) s))

/-- Disable every port at once (R87, R115). -/
def disableAll (s : State) : State :=
  forAll ((List.range 40).filter (fun p => portPresent p && (s.port p).st != .disabled)) disablePort s

/-! ### Retraining (R110, R115, R139) -/

/-- Retrains that began within LINK_ESCALATION_WINDOW, in ms. -/
def State.recentRetrains (s : State) (port : Nat) : List Nat :=
  (s.port port).retrainTimes.filter (fun t => decide (s.now < t + s.obj .linkEscalationWindow * 1000000))

/-- Uncorrectable codewords the peer has counted on a transmit lane since the last training (R102, R139). -/
def Port.uncorrOf (q : Port) (l : Nat) : Nat :=
  match (q.lane l).lcb with
  | some c => (c.rxUncorr + 2 ^ 32 - (q.lane l).base % 2 ^ 32) % 2 ^ 32
  | none => 0

/-- The active lane with the most uncorrectable codewords, the lowest on a tie, among those not already to be retired (R139). -/
def Port.worst (q : Port) : Option Nat :=
  ((activeLanes q.txRetired).filter (fun l => bits q.retireNext l 1 == 0)).foldl (fun (a : Option Nat) l => match a with
    | none => some l
    | some b => if q.uncorrOf l > q.uncorrOf b then some l else some b) none

/-- An event that R115 does not list for the state: ignored and counted. -/
def portIgnored (port : Nat) (s : State) : State := bump .portEventsIgnored port s

/-- A retrain trigger (R115, R139): an Active port stops flits and retrains; the third within the window retires a lane where a spare
or an idle one is left, lanes already to be retired counted as gone, so that no width changes (log 151).  In Retrain it is ignored. -/
def retrainTrigger (port cause : Nat) (s : State) : State :=
  let q := s.port port
  if q.st = .retrain then s
  else if q.st != .active then portIgnored port s
  else
    let times := s.recentRetrains port ++ [s.now]
    let s := setPort port (fun q => { q.untrained with st := .retrain, changedAt := s.now, retrainReq := true, retrainTimes := times }) s
    let s := chooseParent (bump .retrains port (crumb 4 port 0x0009 cause s))
    let gone := q.txRetired ||| q.retireNext
    if times.length < 3 then s
    else if (lanesLeft gone).length > widthOf gone then
      match q.worst with
      | some l => setPort port (fun q => { q with retireNext := q.retireNext ||| 2 ^ l }) s
      | none => s
    else notify 0x1203 (leBytes 1 port ++ leBytes 1 1) s

/-- The retired maps an exchange settles (R110 to R112): cleared where either end restores, then the lanes each receiver asks for. -/
def Port.newMaps (q : Port) : Nat × Nat :=
  let restore := q.laneRestore || ((q.shown.map Lcb.laneRestore).getD false)
  let tx := (if restore then 0 else q.txRetired) ||| q.retireNext
  let shown := (q.shown.map Lcb.txRetired).getD 0
  let rx := (if restore then 0 else q.rxRetired) ||| (if restore then 0 else shown) ||| q.retireReq
  (tx % 512, rx % 512)

/-- Whether an exchange may reach Active: at least 4 lanes each way, and half width only where both ends allow it (R113, R117, R141). -/
def State.widthsOk (s : State) (port tx rx : Nat) : Bool :=
  let half := (s.portRow port).getD 3 1 == 1 && (((s.port port).shown.map Lcb.capHalf).getD true)
  widthOf tx != 0 && widthOf rx != 0 && (half || (widthOf tx == 8 && widthOf rx == 8))

/-- Whether the PROFILE the peer shows differs from a fabric port's own (R119). -/
def State.profileClash (s : State) (port : Nat) : Bool :=
  isFabric port && (match (s.port port).shown with
    | some c => c.profile != (if s.compact port then 1 else 0)
    | none => false)

/-- Take the maps of an exchange into force: widths, the lanes newly retired, and the notification of a fall to half width (R111, R113).
After a training, not a retrain, the peer's codeword counts begin anew (R139). -/
def adoptMaps (port tx rx : Nat) (training : Bool) (s : State) : State :=
  let q := s.port port
  let wasTx := q.txWidth
  let wasRx := q.rxWidth
  let grown (old new : Nat) : Nat := ((lanesIn new).filter (fun l => bits old l 1 == 0)).length
  let s := bumpBy .laneRetirements port (grown q.txRetired tx + grown q.rxRetired rx) s
  let s := setPort port (fun q => { q with
    txRetired := tx, rxRetired := rx, txWidth := widthOf tx, rxWidth := widthOf rx, retireReq := 0, retireNext := 0, laneRestore := false,
    narrowed := (q.narrowed || (wasTx == 8 && widthOf tx == 4) || (wasRx == 8 && widthOf rx == 4)) && !(widthOf tx == 8 && widthOf rx == 8),
    lanes := if training then q.lanes.map (fun e => (e.1, { e.2 with base := (e.2.lcb.map Lcb.rxUncorr).getD 0 })) else q.lanes }) s
  -- the larder's lane of a direction is used up when no spare and no idle lane is left (R593); a direction is 2 × port, + 1 to transmit
  let full (map : Nat) : Bool := (lanesLeft map).length == widthOf map
  let s := onlyIf (full rx) (exhaust 2 (2 * port)) (onlyIf (full tx) (exhaust 2 (2 * port + 1)) s)
  let s := onlyIf (wasRx == 8 && widthOf rx == 4) (notify 0x1202 (leBytes 1 port ++ leBytes 1 0 ++ leBytes 1 4)) s
  onlyIf (wasTx == 8 && widthOf tx == 4) (notify 0x1202 (leBytes 1 port ++ leBytes 1 1 ++ leBytes 1 4)) s

/-! ### Credits (R133 to R136, R495, R496, R509) -/

/-- Slots of the packet being received on a channel: they are in the buffer until it is whole. -/
def Port.partSlots (q : Port) (vc : Nat) : Nat :=
  match q.rxPart with
  | some x => if x.vc = vc then x.left + x.held.length else 0
  | none => 0

/-- Whether the credits of a channel are withheld: VC5 for a quiesce and in an activation's pause, the request channels for a handback
(R495, R496, R612). -/
def State.withheld (s : State) (port vc : Nat) : Bool :=
  isFabric port && (((s.twin.quiescing || s.fw.act == .pause) && vc == 5) || (s.twin.paused && (vc == 1 || vc == 4 || vc == 5 || vc == 6)))

/-- The slots released on a port and channel (R135): accepted, less what is in the buffer and what is held by policing. -/
def State.releasedNow (s : State) (port vc : Nat) : Nat :=
  let q := s.port port
  let held := ((s.traffic.holds.filter (fun h => h.1.2.1 == port && h.1.2.2 == vc)).map (fun h => heldSlots h.2)).sum
  if s.withheld port vc then agetD q.released vc 0
  else (agetD q.rxAccepted vc 0 + 2 * 65536 - (held + q.partSlots vc) % 65536) % 65536

/-- RETURNED of a channel (R134). -/
def State.returned (s : State) (port vc : Nat) : Nat := (vcAllot vc + s.releasedNow port vc) % 65536

/-- The CREDIT_LO and CREDIT_HI records, or the CHARGED pair: the totals of four channels from `vc` up (R126). -/
def totalsRecord (type : Nat) (f : Nat → Nat) (vc : Nat) : List Byte :=
  leBytes 8 type ++ ((List.range 4).map (fun i => leBytes 2 (f (vc + i)))).flatten

/-- Queue a full credit report, and note what has been reported (R136). -/
def reportCredits (port : Nat) (s : State) : State :=
  let tot := (List.range 8).map (fun vc => (vc, s.releasedNow port vc))
  let lo := totalsRecord 0x01 (s.returned port) 0
  let hi := totalsRecord 0x02 (s.returned port) 4
  setPort port (fun q => { q with released := tot, control := q.control ++ [lo, hi] }) s

/-- Whether a RETURNED total differs from what was last reported (R136). -/
def State.creditsMoved (s : State) (port : Nat) : Bool :=
  (List.range 8).any (fun vc => s.releasedNow port vc != agetD (s.port port).released vc 0)

/-! ### Reaching Active (R117, R118) -/

/-- What follows when a port reaches Active: credits reported, waiting packets pinned, a sled asked for its information. -/
def reachedActive (port : Nat) (s : State) : State :=
  let s := reportCredits port s
  if isDeepPort port then sendInfo (port - 32) s else if isFabric port then repin s else s

/-- The lanes a port will receive on. -/
def Port.used (q : Port) : List Nat := activeLanes q.newMaps.2

/-- Step 3 of training is over: three consecutive good blocks on every lane that will be used (R117). -/
def Port.codewordLocked (q : Port) : Bool := !q.used.isEmpty && q.used.all (fun l => decide ((q.lane l).run ≥ 3))

/-- The exchange is complete: three consecutive good blocks on every lane that will be used, all showing the same maps and PROFILE (R117). -/
def Port.exchanged (q : Port) : Bool :=
  !q.used.isEmpty && q.used.all (fun l => decide ((q.lane l).same ≥ 3) && (q.lane l).lcb.map Lcb.agreed == q.shown.map Lcb.agreed)

/-- Flit start is complete: 32 consecutive good flits (R117). -/
def Port.flitStarted (q : Port) : Bool := q.exchanged && decide (q.startFlits ≥ 32)

/-- The round-trip time that training measures: the mean over 8 blocks (R117). -/
def Port.trainedRtt (q : Port) : Nat := meanTrip (q.trips.take 8) q.rtt

/-- Training is complete (R117, R118). -/
def trainDone (port : Nat) (s : State) : State :=
  let (tx, rx) := (s.port port).newMaps
  let rtt := (s.port port).trainedRtt
  if s.profileClash port then trainFails port 1 s
  else if !s.widthsOk port tx rx then trainFails port 5 s
  else reachedActive port (portTo port .active (fun q => { q.fresh with failed := 0, rtt := rtt }) (adoptMaps port tx rx true s))

/-- A retrain is complete (R118, R137): link-layer state kept; replay from the oldest unacknowledged flit, a full credit report. -/
def retrainDone (port : Nat) (s : State) : State :=
  let (tx, rx) := (s.port port).newMaps
  if !s.widthsOk port tx rx then portDown port 5 s
  else reachedActive port (portTo port .active (fun q => { q with
    rtt := q.trainedRtt, replaying := if q.replay.isEmpty then none else some q.base, resync := s.compact port }) (adoptMaps port tx rx false s))

/-- The laser of an engine feeds it (R86). -/
def State.engineLit (s : State) (port : Nat) : Bool := !s.pkg.darkEngines.contains (engineOf port)

/-- A port that is enabled begins Detect when bring-up reaches status 0x3, or on Enable (R115); one whose engine is dark goes Down until
a laser input returns (R86, R115).  While the data path is stopped no port is lit: only a reset restarts it (R77, R573, R581). -/
def detectPort (port : Nat) (s : State) : State :=
  if (s.port port).st ≠ .disabled ∨ s.pkg.fault = true then s
  else if s.engineLit port then portTo port .detect id s else portDown port 4 s

/-! ### Lane control blocks (R102, R104, R111) -/

/-- The 0.8 ns count of a port's time island, as STAMP carries it (R102). -/
def State.stampNow (s : State) (port : Nat) : Nat := s.timeOf (dieOfPort port) * 10 / 2048 % 2 ^ 32

/-- Whether a transmit lane is lit: the port's transmitters are, and the lane is not retired, or is being restored (R96, R112, R115;
log 149). -/
def State.laneLit (s : State) (port l : Nat) : Bool :=
  let q := s.port port
  (q.st == .detect || q.st == .train || q.st == .active || q.st == .retrain)
    && (bits q.txRetired l 1 == 0 || q.laneRestore || ((q.shown.map Lcb.laneRestore).getD false))

/-- The logical lane that a physical lane carries under a map, 0xFF where it carries no flit data (R102, R108). -/
def logicalOf (map l : Nat) : Nat := ((activeLanes map).findIdx? (· == l)).getD 0xFF

/-- The lane control block a lit lane transmits now (R102, R111): from the exchange step to Active it shows the new map and width. -/
def State.laneBlock (s : State) (port l : Nat) : Lcb :=
  let q := s.port port
  let x := q.lane l
  let training := q.st == .train || q.st == .retrain
  let new := training && q.codewordLocked
  let map := if new then q.newMaps.1 else q.txRetired
  { physLane := l, port := port % 4, logicalLane := if q.st = .active || new then logicalOf map l else 0xFF
    linkState := match q.st with | .train => 2 | .active => 3 | .retrain => 4 | _ => 1
    frameCount := (s.now - q.litAt) * 10 / 2048 % 2 ^ 32
    txRetired := map, retireReq := q.retireReq, retrainReq := q.retrainReq, laneRestore := q.laneRestore
    txWidth := if q.st = .active || new then widthOf map else 0
    capGrand := true, capCompact := true, capHalf := true, profile := if s.compact port then 1 else 0
    rxCorrected := x.corrected % 2 ^ 32, rxUncorr := x.uncorr % 2 ^ 32
    stamp := s.stampNow port, echo := (x.lcb.map Lcb.stamp).getD 0
    echoHold := if x.lcb.isSome then (s.stampNow port + 2 ^ 32 - x.lcbAt) % 2 ^ 32 else 0 }

/-- The levels of the lane frame a lit lane sends now, with the flits of the frame where it carries them: the block, then slices of
the flits, or PRBS31 (R98 to R104, R109). -/
def State.laneLevels (s : State) (port l : Nat) (flits : List (List Byte)) : List Nat :=
  let q := s.port port
  let c := s.laneBlock port l
  let slices := flits.flatMap (flitSlices q.txWidth c.logicalLane)
  let pairs := if q.st = .active ∧ c.logicalLane ≠ 0xFF
    then (List.range 16).map (fun i => pairOfSlices ((slices.drop (10 * i)).take 10))
    else prbsPairs (Config.prbsSeed port l) c.frameCount
  laneFrame c.bytes pairs

end Sys2Proof.Machine
end

