-- ==== Sys2Proof/Machine/OpsSecurity.lean ====
section
/-!
DEFINITION. Machine/OpsSecurity.lean: stopping the data path, sessions, keys and debug tokens (R77, R482, R554 to R573).
-/
namespace Sys2Proof.Machine

/-! ### Stopping the data path (R77, R482, R573) -/

/-- A lamp frame (R480): kind 1 hold, 2 release. -/
def lampFrame (kind epoch : Nat) : Nat :=
  let low := 0xB4 + kind * 2 ^ 8 + epoch % 2 ^ 32 * 2 ^ 16
  low + crc8 (leBytes 7 low) * 2 ^ 56

/-- An owner that is stopped or reset sends one release frame on each lamp; the lamps go dark (R482). -/
def releaseFrames (s : State) : State :=
  let f := lampFrame 2 (s.twin.epoch + 1)
  let s := onlyIf s.owner (fun s => emit (.lamp 1 f) (emit (.lamp 0 f) s)) s
  s.onTwin (fun t => { t with lampOut := .dark })

/-- Every accepted request and every recipe not ended is ended ABORTED, having written nothing (R573, R583 step 0). -/
def abortAll (s : State) : State :=
  let s := forAll s.recp.recipes (fun r s =>
    let q := newRequest s r.port r.slot r.pkt .mirror 0 0 0 0
    let s := bump .rcAborted (r.die * 16 + r.d.code) (dropRecipe r s)
    finish q .aborted 0 0 (recipePacket r.ctx (mkPacket 5 0x52 r.pkt.src r.pkt.dest r.pkt.tag Status.aborted.code 0 false r.doneSlot) s) false s) s
  forAll s.txn.reqs (fun q s => finishStatus q .aborted 0 false s) s

/-- The data path stops serving: release frames, every port dark, FAULT_N (R77). -/
def stopDataPath (s : State) : State :=
  disableAll ((releaseFrames s).onPkg (fun p => { p with fault := true }))

/-! ### Sessions (R556, R557, R677) -/

/-- End the sessions that meet a condition, with their subscriptions; the keys they delivered stay (R557, R677). -/
def endSessions (c : Session → Bool) (s : State) : State :=
  let gone := (s.sec.sessions.filter (fun e => c e.2)).map Prod.fst
  let s := s.onSec (fun x => { x with sessions := x.sessions.filter (fun e => !c e.2) })
  s.onKodp (fun k => { k with subs := k.subs.filter (fun b => match b.client.session with | some n => !gone.contains n | none => true) })

/-- End every session of a tenant. -/
def endTenant (tenant : Nat) (s : State) : State := endSessions (fun n => n.tenant == some tenant) s

/-- Measurement block 6 has changed: every tenant session ends (R555, R557). -/
def block6Changed (s : State) : State := endSessions (fun n => n.tenant.isSome) s

/-- The debug level (R572). -/
def State.debugLevel (s : State) : Nat := (s.sec.token.map Token.level).getD 0

/-! ### Keys (R550, R558 to R560, R564, R568) -/

/-- Drop every pantry line that a condition picks by its metadata: dirty ones are written to DRAM first (R558). -/
def flushPantry (c : LineMeta → Bool) (s : State) : State :=
  forAll (s.mem.lines.filter (fun e => e.2.inPantry && c e.2)) (fun e s =>
    let s := onlyIf e.2.dirty (dramPush e.1 true .normal .evict) s
    setMeta e.1 (fun m => { m with inPantry := false, dirty := false }) s) s

/-- Destroy a tenant's memory key (R558): its pantry lines are written or dropped, then it is zeroised. -/
def destroyMemKey (tenant keyId : Nat) (s : State) : State :=
  let s := flushPantry (fun m => m.tenant == tenant && m.keyId == keyId) s
  s.onSec (fun c => { c with tenants := c.tenants.map (fun e => if e.1 = tenant then (e.1, { e.2 with memKeys := adel e.2.memKeys keyId }) else e) })

/-- Change a tenant's record. -/
def setTenant (tenant : Nat) (f : Tenant → Tenant) (s : State) : State :=
  s.onSec (fun c => { c with tenants := c.tenants.map (fun e => if e.1 = tenant then (e.1, f e.2) else e) })

/-- Change a job. -/
def setJob (job : Nat) (f : LinkJob → LinkJob) (s : State) : State :=
  s.onSec (fun c => { c with jobs := c.jobs.map (fun e => if e.1 = job then (e.1, f e.2) else e) })

/-- Take out a job with its bindings and its tag generations. -/
def dropJob (job : Nat) (s : State) : State :=
  let eids := ((aget s.sec.jobs job).map LinkJob.eids).getD []
  s.onSec (fun c => { c with
    jobs := adel c.jobs job,
    tagGen := c.tagGen.filter (fun e => !eids.contains e.1.1), tagGenOld := c.tagGenOld.filter (fun e => !eids.contains e.1.1)
    oldEx := c.oldEx.filter (fun e => !eids.contains e.1) })

/-- The key store is zeroised (R559, R573): every key, the tenant-0 key included; tenant records stay, with no key. -/
def zeroiseKeys (s : State) : State :=
  s.onSec (fun c => { c with
    tenants := c.tenants.map (fun e => (e.1, { e.2 with memKeys := [], signKeys := [] })), key0 := none, jobs := [], tagGen := [], tagGenOld := [], oldEx := [] })

/-- Retire a tenant (R550): sessions, keys, jobs, record. -/
def retireTenant (tenant : Nat) (s : State) : State :=
  let s := endTenant tenant s
  let s := flushPantry (fun m => m.tenant == tenant) s
  let s := forAll (s.sec.jobs.filter (fun j => j.2.tenant == tenant)) (fun j s => dropJob j.1 s) s
  s.onSec (fun c => { c with tenants := adel c.tenants tenant })

/-- The tenant a key command names: its session's, or the one a Peer command leads with (R558, R576). -/
def State.keyTenant (s : State) (r : Req) (peerTenant : Nat) : Nat :=
  match s.tenantOf r.client with
  | some t => t
  | none => peerTenant

/-! ### Debug tokens (R570 to R573) -/

/-- The hold of DEBUG_REQ ends: bring-up goes on with step 2 (R73). -/
def endDebugHold (s : State) : State :=
  if s.pkg.debugHold then (s.onPkg (fun p => { p with debugHold := false })).onBoot (fun b => { b with step := 2 }) else s

/-- A level-2 token takes effect (R573); the data path stays stopped until PORESET_N. -/
def eraseForDebug (s : State) : State :=
  let s := (abortAll (releaseFrames s)).onSec (fun c => { c with erased := true })
  let s := disableAll (s.onPkg (fun p => { p with fault := true }))
  let s := s.onMem (fun m => { m with lines := m.lines.map (fun e => (e.1, { e.2 with inPantry := false, dirty := false })) })
  let s := forAll (List.range 288) (fun c s => if ahas s.core.cores c then clearCore c s else s) s
  let s := endSessions (fun _ => true) (zeroiseKeys s)
  notify 0x1E01 (leBytes 1 1) s

/-- The debug phase of the pins (R74): TP8 to TP12 carry the test port. -/
def debugPhase (on : Bool) (s : State) : State :=
  s.onPkg (fun p => { p with phase := if on then (if p.phase = .run then .debug else p.phase) else (if p.phase = .debug then .run else p.phase) })

/-- A token comes into force (R571 to R573); level 2 brings the debug phase (R572; log 34). -/
def takeToken (t : Token) (s : State) : State :=
  let s := onlyIf (t.level == 2) eraseForDebug s
  onlyIf (t.level == 2) (debugPhase true) (block6Changed (s.onSec (fun c => { c with token := some t })))

/-- The token in force ends (R572, R642): block 6 changes; a debug stop in force ends 10 µs later. -/
def endToken (s : State) : State :=
  if s.sec.token.isNone then s
  else
    let s := debugPhase false (block6Changed (s.onSec (fun c => { c with token := none })))
    if s.obs.stop = .stopped ∨ s.obs.stop = .resumeSet then s.onObs (fun o => { o with stop := .resumeSet, stopAt := s.now + 10000 })
    else if s.obs.stop = .stopSet then s.onObs (fun o => { o with stop := .running })
    else s

/-- How a debug token is judged (R570, R571), with the challenge voided where it is compared. -/
inductive TokenRes where
  | good (t : Token)
  | bad (st : Status)
deriving DecidableEq, Repr

/-- Judge a token of 352 bytes. -/
def State.judgeToken (s : State) (b : List Byte) : TokenRes :=
  let at_ (i n : Nat) : Nat := leNat ((b.drop i).take n)
  let level := at_ 4 1
  let signer := at_ 5 1
  let zero (l : List Byte) : Bool := l.all (· == 0)
  if b.length ≠ 352 then .bad .unsupported
  else if at_ 0 4 ≠ 0x4B544456 ∨ at_ 6 2 ≠ 0 ∨ zero ((b.drop 72).take 184) = false ∨ ¬ (level = 1 ∨ level = 2) ∨ signer > 1 then .bad .unsupported
  else if signer = 1 ∧ level ≠ 1 then .bad .integrity
  else
    let notAfter := at_ 64 8
    let locked := s.obs.time0.isLocked
    let key := if signer = 0 then some (Config.deviceKey 0) else s.sec.debugKey
    let inTime := !locked || (decide (s.now < notAfter) && decide (notAfter ≤ s.now + 86400000000000))
    let signed := match key with
      | some k => Config.ecdsaVerifies k (Config.sha384 (b.take 256)) (at_ 256 96)
      | none => false
    if at_ 8 48 = Config.deviceDigest ∧ s.sec.challenge = some (at_ 56 8) ∧ inTime = true ∧ signed = true then
      .good { level := level, notAfter := if locked then notAfter else s.now + 600000000000, preLock := !locked }
    else .bad .integrity

end Sys2Proof.Machine
end

