-- ==== Sys2Proof/Machine/OpsPins.lean ====
section
/-!
DEFINITION. Machine/OpsPins.lean: what the board sees: the status code and the turnover pins in each phase (R68, R74 to R78, R87, R91,
R593).
-/
namespace Sys2Proof.Machine

/-! ### Spares and the status code (R78, R593) -/

/-- A cluster with no spare core, while it is brought up. -/
def State.noSpareCore (s : State) (k : Nat) : Bool := (s.spareCore k).isNone

/-- A port direction with neither a spare nor an idle lane: 2 × port, + 1 to transmit. -/
def State.noSpareLane (s : State) (d : Nat) : Bool :=
  let q := s.port (d / 2)
  let map := if d % 2 = 1 then q.txRetired else q.rxRetired
  (lanesLeft map).length == widthOf map

/-- The input an engine feeds from; input 0 from reset (log 5). -/
def State.feedingOf (s : State) (e : Nat) : Nat := agetD s.pkg.feeding e 0

/-- An engine that feeds from its last input (R593): it has switched once, or an input of it is below its limit. -/
def State.lastInput (s : State) (e : Nat) : Bool := s.feedingOf e != 0 || s.pkg.darkEngines.contains e

/-- A sled whose SPARE_PCT is below SLED_SPARE_WARN. -/
def State.sledLow (s : State) (n : Nat) : Bool := (s.sled n).present && decide ((s.sled n).spare < s.obj .sledSpareWarn)

/-- Engines that are present: some port of theirs is. -/
def enginePresent (e : Nat) : Bool := (List.range 4).any (fun i => portPresent (4 * e + i))

/-- Whether some kind of spare in the larder is exhausted somewhere (R593). -/
def State.larderShort (s : State) : Bool :=
  (List.range 16).any s.noSpareCore || (List.range 80).any (fun d => portPresent (d / 2) && s.noSpareLane d)
    || (List.range 10).any (fun e => enginePresent e && s.lastInput e) || s.boot.rowsUsed.any (fun e => decide (e.2 ≥ 64))
    || s.boot.banksUsed.any (fun e => decide (e.2 ≥ 8)) || !s.boot.waysUsed.isEmpty || (List.range 4).any s.sledLow

/-- Whether any unit is out of service. -/
def State.anyOut (s : State) : Bool :=
  s.boot.units.any (fun e => e.2.st == .out || (e.2.st == .resetting && e.2.was == .out)) || !s.boot.portsOut.isEmpty || !s.boot.stacksOut.isEmpty

/-- Whether a unit or a link stands degraded: a kind of spare is exhausted (R593), a port that fell to half width is not restored (R113),
a channel has failed (R290). -/
def State.degraded (s : State) : Bool :=
  s.larderShort || (List.range 40).any (fun p => portPresent p && (s.port p).narrowed) || s.dram.channels.any (fun e => e.2.st == .failed)

/-- The code of a twin state once Ready (R463). -/
def twinCode : TwinSt → Nat
  | .solo | .enrolling => 5
  | .syncing | .feeding => 8
  | .standby | .adrift | .promoting | .releasing => 7
  | .alone | .active => 6
  | .fenced => 0xC

/-- The status code on TP8 to TP11 (R78): the first condition that holds, then the twin state's code or bring-up's. -/
def State.statusCode (s : State) : Nat :=
  if s.pkg.fault || s.pkg.stopped.isSome then 0xF
  else if s.twin.st = .fenced then 0xC
  else if s.fw.act = .pause then 9
  else if s.twin.st = .syncing ∨ s.twin.st = .feeding ∨ s.twin.resync.isSome then 8
  else if s.power.throttle ≠ 0 ∨ s.thermalLevel ≥ 2 then 0xA
  else if s.obj .serviceMode = 1 ∧ s.anyOut then 0xB
  else if s.degraded then 0xD
  else if s.obs.shownE then 0xE
  else if s.ready then twinCode s.twin.st
  else if s.boot.step = 3 then 2 else if s.boot.step = 4 then 3 else if s.boot.step = 5 then 4 else 1

/-! ### The turnover pins (R68, R74 to R77, R87) -/

/-- The function of a pin in the strap, boot, run and debug phases (R68); a stopped package keeps TP3, and TP7 where it was driven
(R74, R87; log 148). -/
def State.pinFn (s : State) (pin : Nat) : PinFn :=
  if pin = 3 then .thermtripN
  else if s.pkg.stopped.isSome then (if pin = 7 && s.pkg.fault then .faultN else .hiZ)
  else if s.pkg.poresetLow || s.pkg.phase == .strap then (if 8 ≤ pin ∧ pin < 16 then .strap (pin - 8) else .hiZ)
  else
    let debug := s.pkg.phase == .debug
    let boot := s.pkg.phase == .boot
    match pin with
    | 0 => .kslCk
    | 1 => .kslDq
    | 2 => if boot then .bootOk else .alertN
    | 4 => if boot then .hiZ else .stepReq
    | 5 => if boot then .ignored else .stepAck
    | 6 => .holdupOk
    | 7 => if boot then .hiZ else .faultN
    | 8 => if boot then .hiZ else if debug then .tck else .status 0
    | 9 => if boot then .hiZ else if debug then .tms else .status 1
    | 10 => if boot then .hiZ else if debug then .tdi else .status 2
    | 11 => if boot then .hiZ else if debug then .tdo else .status 3
    | 12 => if boot then .hiZ else if debug then .trstN else .gp 0
    | 13 => if boot then .hiZ else .gp 1
    | 14 => if boot then .hiZ else .gp 2
    | 15 => if boot then .hiZ else .gp 3
    | _ => .hiZ

/-- TP2 is high: ALERT_N is released while the KSL read queue is empty (R76); a management reheat holds the level it found (R74). -/
def State.alertHigh (s : State) : Bool :=
  match s.pkg.heldPins with
  | some h => h.1
  | none => s.kodp.kslTx.isEmpty

/-- The status code the pins show; a management reheat holds the code it found (R74). -/
def State.shownCode (s : State) : Nat :=
  match s.pkg.heldPins with
  | some h => h.2
  | none => s.statusCode

/-- A level driven. -/
def drive (high : Bool) : PinDrive := if high then .high else .low

/-- What the Varisk drives on a pin (R68, R74 to R78, R91). -/
def State.pinDrive (s : State) (pin : Nat) : PinDrive :=
  match s.pinFn pin with
  | .thermtripN => if s.pkg.thermTrip then .low else .floats
  | .kslDq => if s.pkg.kslReleased then .floats else .ksl
  | .bootOk => .low
  | .alertN => drive s.alertHigh
  | .stepReq => drive s.pkg.tp4
  | .faultN => drive (!s.pkg.fault)
  | .status b => drive (bits s.shownCode b 1 == 1)
  | .tdo => .tap
  | .gp n => if bits (s.obj .gpioDir) n 1 = 1 then drive (bits (s.obj .gpioOut) n 1 == 1) else .floats
  | .hiZ | .strap _ | .ignored | .kslCk | .stepAck | .holdupOk | .tck | .tms | .tdi | .trstN => .floats

/-- The level the board reads on a pin the Varisk does not drive: the pull of R68; TP8 to TP15 carry the board's strap resistors, or what
the board drives. -/
def State.pulled (s : State) (pin : Nat) : Bool :=
  if pin = 0 ∨ pin = 1 ∨ pin = 3 then true
  else if pin = 5 then s.pkg.tp5
  else if pin = 6 then s.pkg.holdupLast
  else if 12 ≤ pin then bits s.pkg.gpIn (pin - 12) 1 == 1
  else if 8 ≤ pin then bits s.pkg.straps (pin - 8) 1 == 1
  else false

/-- The level on a pin; on TP1 and TP11 the bits of a KSL answer and of the test port decide, which R80 and R75 leave to their frames. -/
def State.pinLevel (s : State) (pin : Nat) : Option Bool :=
  match s.pinDrive pin with
  | .low => some false
  | .high => some true
  | .floats => some (s.pulled pin)
  | .ksl | .tap => none

/-- GPIO_IN: the level on GP0 to GP3, which are TP12 to TP15 (R91). -/
def State.gpioIn (s : State) : Nat :=
  ((List.range 4).map (fun n => if s.pinLevel (12 + n) = some true then 2 ^ n else 0)).sum

/-- TP2 and TP8 to TP11 hold their values from now on (R74). -/
def holdPins (s : State) : State := s.onPkg (fun p => { p with heldPins := some (s.alertHigh, s.statusCode) })

end Sys2Proof.Machine
end

