-- ==== Sys2Proof/Machine/OpsFirmware.lean ====
section
/-!
DEFINITION. Machine/OpsFirmware.lean: the boot store, the choice of the bank to boot, management reheats, commit and rollback (R601 to
R613, R643).
-/
namespace Sys2Proof.Machine

/-! ### Images (R602 to R604) -/

/-- A bank of the boot store: false A, true B. -/
def State.bank (s : State) (b : Bool) : Bank := if b then s.fw.bankB else s.fw.bankA

/-- Change a bank. -/
def setBank (b : Bool) (f : Bank → Bank) (s : State) : State :=
  s.onFw (fun w => if b then { w with bankB := f w.bankB } else { w with bankA := f w.bankA })

/-- Set a bank's STATE. -/
def bankTo (b : Bool) (st : BankSt) (s : State) : State := setBank b (fun k => { k with st := st }) s

/-- The staging bank (R601). -/
def State.staging (s : State) : Bool := !s.fw.bootedB

/-- A component's entry in a header: FIRST_BLOCK, LENGTH and digest (R602). -/
def component (h : List Byte) (c : Nat) : Nat × Nat × Nat :=
  let b := h.drop (24 + 56 * c)
  (leNat (b.take 4), leNat ((b.drop 4).take 4), leNat ((b.drop 8).take 48))

/-- The checks of R603 on a header but its signature and the component digests. -/
def headerOk (h : List Byte) : Bool :=
  let f (i n : Nat) : Nat := leNat ((h.drop i).take n)
  let blocks := f 16 4
  let comps := (List.range 3).map (component h)
  let span (c : Nat × Nat × Nat) : Nat × Nat := (c.1, c.1 + max 1 ((c.2.1 + 511) / 512))
  h.length == 512 && f 0 4 == 0x31574B56 && f 4 2 == 0x0100 && f 6 2 == 0 && decide (f 8 4 ≤ 64) && decide (2 ≤ blocks ∧ blocks ≤ 114688)
    && bits (f 20 1) Config.orderingCodeU8 1 == 1 && bits (f 20 1) 0 1 == 0 && bits (f 20 1) 5 3 == 0 && f 21 3 == 0
    && ((h.drop 192).take 224).all (· == 0)
    && comps.all (fun c => decide (1 ≤ c.1) && decide ((span c).2 ≤ blocks))
    && decide ((comps.getD 2 (0, 0, 0)).2.1 ≤ 2 ^ 20)
    && [(0, 1), (0, 2), (1, 2)].all (fun p =>
      let a := span (comps.getD p.1 (0, 0, 0))
      let b := span (comps.getD p.2 (0, 0, 0))
      decide (a.2 ≤ b.1) || decide (b.2 ≤ a.1))

/-- Whether a header's SIGNATURE verifies under the Kardel firmware-signing key (R603). -/
def headerSigned (h : List Byte) : Bool := Config.ecdsaVerifies (Config.deviceKey 4) (Config.sha384 (h.take 416)) (leNat ((h.drop 416).take 96))

/-- SVN, VERSION and IMAGE_BLOCKS of a header. -/
def headerSvn (h : List Byte) : Nat := leNat ((h.drop 8).take 4)
/-- VERSION. -/
def headerVersion (h : List Byte) : Nat := leNat ((h.drop 12).take 4)
/-- IMAGE_BLOCKS. -/
def headerBlocks (h : List Byte) : Nat := leNat ((h.drop 16).take 4)

/-- A block of a bank; one not written since its erase reads as erased flash, all ones (log 35). -/
def Bank.block (k : Bank) (n : Nat) : List Byte := agetD k.blocks n (List.replicate 512 0xFF)

/-- A bank's header. -/
def Bank.header (k : Bank) : List Byte := k.block 0

/-- Whether a bank holds the image of manufacture, whose bytes are the part's (log 6). -/
def Bank.factory (k : Bank) : Bool := k.blocks.isEmpty

/-- A component's bytes. -/
def Bank.bytes (k : Bank) (c : Nat) : List Byte :=
  let x := component k.header c
  ((List.range ((x.2.1 + 511) / 512)).flatMap (fun i => k.block (x.1 + i))).take x.2.1

/-- The first component whose digest differs (R609). -/
def Bank.badComponent (k : Bank) : Option Nat := (List.range 3).find? (fun c => Config.sha384 (k.bytes c) != (component k.header c).2.2)

/-- Whether a bank's image is valid (R603). -/
def Bank.valid (k : Bank) : Bool := k.factory || (headerOk k.header && headerSigned k.header && k.badComponent.isNone)

/-! ### Measurements and the Alias key (R552, R555) -/

/-- Measurement block 6: debug level, SIGNER_POLICY, FAST_POLICY (R555). -/
def State.block6 (s : State) : Nat := s.debugLevel + s.obj .signerPolicy * 256 + s.obj .fastPolicy * 65536

/-- The digest of a component of a bank's image: that of the image of manufacture is the part's (log 6). -/
def Bank.digest (k : Bank) (c : Nat) : Nat := if k.factory then Config.deviceKey (12 + c) else (component k.header c).2.2
/-- The digest of component 2 of a bank. -/
def Bank.engine (k : Bank) : Nat := k.digest 2

/-- A measurement block as a boot of the bank in use takes it: 1 the ROM, 2 to 4 the components of the image, 5 the identity record, 6 the
firmware configuration (R552, R555; log 32). -/
def State.bootBlock (s : State) (i : Nat) : Nat :=
  if i = 6 then s.block6 else if 2 ≤ i ∧ i ≤ 4 then (s.bank s.fw.bootedB).digest (i - 2) else Config.deviceKey (10 + i)

/-- The bytes "VSK-CDI0". -/
def vskCdi0 : List Byte := [0x56, 0x53, 0x4B, 0x2D, 0x43, 0x44, 0x49, 0x30]
/-- The bytes "VSK-CDI1". -/
def vskCdi1 : List Byte := [0x56, 0x53, 0x4B, 0x2D, 0x43, 0x44, 0x49, 0x31]
/-- The bytes "VSK-ALIAS". -/
def vskAlias : List Byte := [0x56, 0x53, 0x4B, 0x2D, 0x41, 0x4C, 0x49, 0x41, 0x53]

/-- The Alias key of a boot (R552): DICE layers 0 and 1 over measurements 2 to 6. -/
def State.aliasAtBoot (s : State) : Nat :=
  let cdi0 := Config.hkdf (Config.deviceKey 8) (leNat vskCdi0)
  let cdi1 := Config.hkdf cdi0 (leNat (vskCdi1 ++ (List.range 5).flatMap (fun i => leBytes 48 (s.bootBlock (i + 2)))))
  Config.hkdf cdi1 (leNat vskAlias)

/-- Management boots: the Alias key follows what was measured (R552). -/
def bootAlias (s : State) : State := s.onSec (fun c => { c with aliasKey := s.aliasAtBoot })

/-! ### The bank to boot (R606) -/

/-- The first bank of an order that may be booted; those found invalid become Failed. -/
def bootFrom : List Bool → State → State × Option Bool
  | [], s => (s, none)
  | b :: rest, s =>
    let k := s.bank b
    if k.st = .empty ∨ k.st = .writing ∨ k.st = .copying ∨ k.st = .failed then bootFrom rest s
    else if k.valid && decide (k.svn ≥ s.fw.minSvn) then (s, some b)
    else bootFrom rest (bankTo b .failed s)

/-- The boot ROM's choice at a start that is no activation (R606, R611, R615): a trial cut short fails; no bank to boot is recovery; a
copy that a reset cut short begins again. -/
def bootRom (s : State) : State :=
  let cut := s.fw.bankA.st == .trial || s.fw.bankB.st == .trial
  let fail (b : Bool) (s : State) : State := if (s.bank b).st = .trial then bankTo b .failed s else s
  let s := fail true (fail false s)
  let s := onlyIf cut (fun s => s.onFw (fun w => { w with lastAct := 5 })) s
  let first := bits s.pkg.straps 0 1 == 1
  let s := s.onFw (fun w => { w with st := .idle, act := .none, verifying := false, verdict := none })
  match bootFrom [first, !first] s with
  | (s, some b) =>
    let again := (s.bank (!b)).st == .copying && (s.bank b).st == .good
    bootAlias (s.onFw (fun w => { w with bootedB := b, recovery := false, st := if again then .committing else .idle }))
  | (s, none) => s.onFw (fun w => { w with recovery := true })

/-! ### Management reheats (R643, R659) -/

/-- Reheats of a die's pair that began within 60 s, this instant included. -/
def State.recentReheats (s : State) : Nat := (s.obs.reheatAt.filter (fun t => decide (s.now < t + 60000000000))).length

/-- A management reheat of a die begins (R643): of Die 0, commands in progress and sessions are lost. -/
def startReheat (die : Nat) (s : State) : State :=
  if s.obs.reheat.contains die then s
  else
    let s := s.onObs (fun o => { o with reheatAt := (o.reheatAt.filter (fun t => decide (s.now < t + 60000000000))) ++ [s.now] })
    let n := s.recentReheats
    let s := onlyIf (decide (n ≥ 2)) (notify 0x2105 (leBytes 1 die ++ leBytes 1 n)) s
    let s := onlyIf (die == 0) holdPins s
    let s := s.onObs (fun o => { o with reheat := o.reheat ++ [die] })
    if die = 0 then
      endSessions (fun _ => true) ((s.onKodp (fun k => { k with running := [], queue := [], reasm := [], peerWait := [] })).onSec (fun c => { c with spdm := [] }))
    else s

/-! ### Activation (R611 to R613) -/

/-- FW_ROLLED_BACK (R613): the new bank fails, and a second reheat boots the old one.  `why` is LAST_ACTIVATION. -/
def rollBack (new : Bool) (why : Nat) (s : State) : State :=
  let v := (s.bank new).version
  let s := bankTo new .failed s
  let s := s.onFw (fun w => { w with st := .idle, act := .none, bootedB := !new, lastAct := why })
  notify 0x2003 (leBytes 4 v ++ leBytes 1 why) (startReheat 0 s)

/-- The commit of an activation (R611, R612 step 4): the new bank Good, the old one Copying. -/
def commitFw (s : State) : State :=
  let new := s.fw.bootedB
  let s := bankTo (!new) .copying (bankTo new .good s)
  notify 0x2001 (leBytes 4 (s.bank new).version) (s.onFw (fun w => { w with st := .committing, act := .none, lastAct := 1 }))

/-- Why R610 refuses an update command outside recovery. -/
def State.updateBarred (s : State) : Bool :=
  !s.fw.recovery && (s.twin.st == .syncing || s.twin.st == .feeding || s.twin.st == .promoting || s.twin.st == .releasing || s.deep.bulk.isSome
    || !s.boot.bankRepairs.isEmpty || !s.pkg.holdup || s.obj .ownerLock == 1 || !s.ready || s.obj .serviceMode == 1)

end Sys2Proof.Machine
end

