-- ==== Sys2Proof/Machine/OpsReset.lean ====
section
/-!
DEFINITION. Machine/OpsReset.lean: stops, package resets, bring-up steps, partial resets and repairs (R57 to R91, R577 to R600).
-/
namespace Sys2Proof.Machine

/-! ### Stored settings and what a package-level reset leaves (R577, R583, R625, R672, R673) -/

/-- The settings record that counts: the good copy with the higher sequence number (R672); none where both fail their check. -/
def State.bestSettings (s : State) : Option Settings :=
  let a := s.kodp.settingsA
  let b := s.kodp.settingsB
  if a.good && (!b.good || decide (a.sequence ≥ b.sequence)) then some a else if b.good then some b else none

/-- KODP after a package-level reset: stored objects from the settings record, every other at its reset value (R672, R673). -/
def State.kodpAfter (s : State) : KodpState :=
  let x := s.bestSettings
  { KodpState.reset with
    settingsA := s.kodp.settingsA, settingsB := s.kodp.settingsB
    objs := (x.map Settings.values).getD [], tables := (x.map Settings.tables).getD [] }

/-- The units of UNIT_EPOCHS: cores, clusters, channels. -/
def unitKeys : List (UnitKind × Nat) :=
  (List.range 288).map (fun u => (.core, u)) ++ (List.range 16).map (fun u => (.cluster, u)) ++ (List.range 256).map (fun u => (.channel, u))

/-- The units after a package-level reset: every epoch advanced, since it resets every unit (R578, R589); retired cores stay retired
(R594), the others have the role of manufacture until step 5 chooses (R592). -/
def State.unitsAfter (s : State) : Assoc (UnitKind × Nat) UnitRec :=
  (unitKeys.filter (fun k => k.1 != .core || corePresent k.2)).map (fun k =>
    let u := s.unit k.1 k.2
    (k, { u with
      epoch := (u.epoch + 1) % 65536, recal := false
      st := if u.retiredRole then .retired else if u.st = .spare ∨ u.st = .enabled then u.st else (unitDefault k.1 k.2).st }))

/-- What a stop of the package takes with it: everything in progress. -/
def dropWork (s : State) : State :=
  { s with
    txn := TxnState.reset, dir := DirState.reset, recp := RecipeState.reset, core := CoreState.reset, traffic := TrafficState.reset
    deep := { DeepState.reset with units := s.deep.units } }

/-- A brown-out, REFCLK loss or thermal trip stops the package until PORESET_N (R57, R67, R87, R90): every transmitter dark,
FAULT_N where the run phase was current, keys zeroised, pool contents lost.  With VDD_AUX gone no release code is sent (R482). -/
def stopPackage (cause : StopCause) (aux : Bool) (s : State) : State :=
  if s.pkg.poresetLow || s.pkg.stopped.isSome then s
  else
    let running := s.pkg.phase == .run || s.pkg.phase == .debug
    let s := disableAll (onlyIf (!aux) releaseFrames s)
    let s := dropWork (zeroiseKeys s)
    let s := s.onTwin (fun t => { t with lampOut := .dark })
    let s := s.onLink (fun l => { l with mgmtLink := false })
    (s.onMem (fun _ => MemState.reset)).onPkg (fun p =>
      { p with stopped := some cause, fault := p.fault || running, tp4 := false, step := none, stepHeld := [], kslReleased := true, warmQual := false })

/-- PORESET_N low (R64, R74, R577): the whole package is reset, the time island included.  The boot store, the larder record, the
settings and twin records and what the board drives remain; a larder record that fails its check in both banks counts as empty (R596). -/
def coldReset (s : State) : State :=
  let s := releaseFrames s
  let lost := s.boot.larderLost
  let kept (k : KodpState) : KodpState := { k with log := [], nextSeq := 1 }
  { State.reset with
    pkg := { PackageState.reset with gpIn := s.pkg.gpIn, tp5 := s.pkg.tp5, railMv := s.pkg.railMv, railMa := s.pkg.railMa, lasers := s.pkg.lasers
                                     refclk := s.pkg.refclk, straps := s.pkg.straps }
    kodp := kept s.kodpAfter
    twin := { TwinState.reset with epoch := s.twin.epoch, prepared := s.twin.prepared }
    fw := { s.fw with st := .idle, act := .none, verifying := false, verdict := none }
    boot := { BootState.reset with
              units := s.unitsAfter.map (fun e => (e.1, { e.2 with
                resets := [], mismatches := [], retiredRole := e.2.retiredRole && !lost, st := if lost then (unitDefault e.1.1 e.1.2).st else e.2.st }))
              rowsUsed := if lost then [] else s.boot.rowsUsed, banksUsed := if lost then [] else s.boot.banksUsed
              waysUsed := if lost then [] else s.boot.waysUsed, larderLost := lost }
    free := s.free, out := s.out, pending := s.pending }

/-! ### The entry steps of a package warm reset (R583) -/

/-- Step 3: each die walks its directory; every line held Modified is marked poisoned, and the entries are freed. -/
def walkDirectory (s : State) : State :=
  let s := forAll (s.dir.entries.filter (fun e => e.2.st == .modified)) (fun e s => poisonLine e.1 2 s) s
  { s with dir := DirState.reset }

/-- Step 4: every dirty pantry line is in DRAM; tags in FILLING are cleared, those in WRITING become DIRTY. -/
def settleFrames (s : State) : State :=
  let s := forAll s.frames (fun e s =>
    let t := e.2.2.2
    if tagHas t tagFilling then setTag e.1 e.2.1 e.2.2.1 0 s
    else if tagHas t tagWriting then setTag e.1 e.2.1 e.2.2.1 (tagPut (tagPut t tagWriting false) tagDirty true) s
    else s) s
  s.onMem (fun m => { m with plru := [], lines := m.lines.map (fun e => (e.1, { e.2 with inPantry := false, dirty := false })) })

/-- What the reset of every island but the time island and the retention registers leaves (R583 step 6): DRAM contents, keys, training,
repairs, energy, straps, retired lane maps, crumbs, the notification log (R112, R543, R559, R577, R625, R630, R642, R678). -/
def islandsReset (s : State) : State :=
  let k := s.kodpAfter
  let pref := bits s.pkg.straps 1 1
  { s with
    pkg := { s.pkg with warmQual := false, phase := .boot, fault := s.sec.erased, tp4 := false, ackStuck := false, step := none, stepHeld := [], heldPins := none, holdup := false
                        holdupRun := 0, kslReleased := true, debugHold := false }
    link := { ports := s.link.ports.map (fun e => (e.1, { Port.reset with
                txRetired := e.2.txRetired, rxRetired := e.2.rxRetired, changedAt := e.2.changedAt
                lanes := e.2.lanes.map (fun l => (l.1, { Lane.reset with los := l.2.los, power := l.2.power })) }))
              mgmtLink := false }
    txn := TxnState.reset, part := PartnerState.reset, dir := DirState.reset
    dram := { s.dram with returned := [], channels := s.dram.channels.map (fun e => (e.1, { Channel.reset with trained := e.2.trained, retained := e.2.retained }))
                          refresh := (List.range 8).map (fun n => (n, 2)) }
    deep := { DeepState.reset with units := s.deep.units }
    integ := { IntegState.reset with selfTest := s.integ.selfTest, testedAt := s.integ.testedAt }
    recp := RecipeState.reset, core := CoreState.reset
    twin := { TwinState.reset with epoch := s.twin.epoch, prepared := s.twin.prepared, lamp0 := s.twin.lamp0, lamp1 := s.twin.lamp1 }
    traffic := TrafficState.reset
    power := { PowerState.reset with energyNj := s.power.energyNj }
    sec := { s.sec with sessions := [], spdm := [], challenge := none, token := none, oldEx := [] }
    fw := { s.fw with act := .none, verifying := false, verdict := none }
    obs := { ObserveState.reset with time0 := if s.obs.time0.st = .root then { s.obs.time0 with st := .holdover, rateAdj := 0, holdSince := s.now } else s.obs.time0, time1 := s.obs.time1, rings := s.obs.rings, dumps := s.obs.dumps, nextDump := s.obs.nextDump
                                     capture := s.obs.capture, crossings := s.obs.crossings }
    kodp := { k with log := s.kodp.log, nextSeq := s.kodp.nextSeq, objs := if pref = 1 then aset k.objs .homePreference 1 else k.objs }
    boot := { BootState.reset with
              units := s.unitsAfter, path := if s.boot.memDone && !s.boot.retentionBad then .reheat else .cold, memDone := s.boot.memDone && !s.boot.retentionBad, startedAt := s.now, step := 1
              rowsUsed := s.boot.rowsUsed, banksUsed := s.boot.banksUsed, waysUsed := s.boot.waysUsed, larderLost := s.boot.larderLost }
    ctrs := [] }

/-- A package warm reset (R65, R583, R585): the entry steps from step 1, then the boot ROM starts the reheat path, or the cold path
from step 2 where step 3 had not completed.  `why` is LAST_RESET. -/
def warmReset (why : Nat) (s : State) : State :=
  let s := abortDumps (fun _ => true) true (disableAll (releaseFrames s))
  let s := s.onTxn (fun t => { t with reqs := [], halves := [], released := [], pool := [], poolWait := [] })
  let s := islandsReset (settleFrames (walkDirectory s))
  bootRom (s.onBoot (fun b => { b with lastReset := if b.memDone then why else 4 }))

/-! ### The steps of bring-up (R579 to R585, R599) -/

/-- Add a row to BRINGUP_LOG: a step begins where the row before it ends (R579). -/
def logStep (step sub result : Nat) (s : State) : State :=
  s.onBoot (fun b =>
    let start := match b.log.getLast? with | some x => x.2.2.2.1 | none => b.startedAt
    { b with log := b.log ++ [(step, sub, start, s.now, result)] })

/-- Bring-up stops (R581): status 0xF, FAULT_N, transmitters dark; only a reset restarts it.  What kind and unit BRINGUP_FAILED names
the manual does not say: free values. -/
def stopBringup (s : State) : State :=
  let s := logStep s.boot.step 0 2 s
  let s := disableAll ((s.onPkg (fun p => { p with fault := true })).onBoot (fun b => { b with step := 15, fault := true }))
  useFree (useFree (notify 0x1F02 (leBytes 1 (Config.freeNat s.free) ++ leBytes 4 (Config.freeNat (s.free + 1))) s))

/-- A failed test or training of bring-up (R343, R344, R348): `n` is test × 65,536 + unit; 1 to 7 are the tests of R343, 8 the training of a
channel, 9 logic BIST of a core, 10 a second CRC mismatch of a core's engine store (R582); 2 ^ 24 more where the array or stack's spares
have repaired it (log 122).  It is recorded, logged and notified. -/
def noteFailure (n : Nat) (s : State) : State :=
  let test := n / 65536 % 256
  let unit := n % 65536
  let result := if n ≥ 2 ^ 24 then 1 else if test = 1 ∨ test = 2 ∨ test = 4 ∨ test = 9 ∨ test = 10 then 2 else 3
  let s := s.onInteg (fun g => { g with selfTest := aset g.selfTest (test, unit) (result, s.now) })
  let s := logError 9 (if result = 1 then 1 else 6) (if test = 3 ∨ test = 7 ∨ test = 8 then unit else 0) 0 0 0 unit s
  notify 0x1707 (leBytes 1 test ++ leBytes 2 unit ++ leBytes 1 result) s

/-- Whether a failed test stops bring-up (R343, R581): a pantry or directory slice, replay buffer, Baker store, slice atomic unit or
front end (units from 1,024 on), or the poison path. -/
def stopsBringup (n : Nat) : Bool :=
  let test := n / 65536
  ((test == 1 || test == 2 || test == 4) && decide (n % 65536 ≥ 1024)) || test == 6

/-- What a failed test that bring-up goes on from does to its unit (R343, R581, R582): a core is retired, a channel failed. -/
def applyFailure (n : Nat) (s : State) : State :=
  let test := n / 65536
  let unit := n % 65536
  if (test = 1 ∨ test = 2 ∨ test = 4 ∨ test = 9 ∨ test = 10) ∧ unit < 288 ∧ corePresent unit then
    if (s.unit .core unit).retiredRole then s
    else notify 0x1F04 (leBytes 1 1 ++ leBytes 4 unit) (crumb 1 unit 0x0E (1 + unit * 2 ^ 32) (setUnit .core unit (fun u => { u with st := .retired, retiredRole := true }) s))
  else if (test = 3 ∨ test = 7 ∨ test = 8) ∧ unit < 256 then failChannel unit s
  else s

/-- Ports whose CRC checker failed test 5 are left Disabled (R343). -/
def State.portTested (s : State) (port : Nat) : Bool := ((aget s.integ.selfTest (5, port)).map Prod.fst).getD 0 != 3

/-- The units that each test of R343 runs on: cores, the slices from 1,024 and the front ends from 1,088 on, channels, and ports with KSL
as 40 (log 122). -/
def testUnits : List (Nat × Nat) :=
  let cores := (List.range 288).filter corePresent
  let slices := (List.range 64).map (1024 + ·)
  let channels := List.range 256
  [(1, cores ++ slices), (2, cores ++ slices), (3, channels), (4, cores ++ slices ++ [1088, 1089]),
   (5, (List.range 40).filter portPresent ++ [40]), (6, slices), (7, channels)].flatMap (fun x => x.2.map (fun u => (x.1, u)))

/-- A stack's refresh as its temperature asks (R89). -/
def State.warmRefresh (s : State) : Nat := if s.pkg.sensors.any (fun e => decide (e.2.level ≥ 1)) then 1 else 0

/-- Training, full (0) or reloaded (1), of every channel that has not failed (R286, R287).  A channel without stored values, or that fails
with them, is trained in full from step 1, and the others go on without it. -/
def trainAll (source : Nat) (failed : List Nat) (s : State) : State :=
  let s := forAll (List.range 256) (fun c s =>
    if (s.channel c).st = .failed then s
    else if source = 1 ∧ ((s.channel c).trained = false ∨ failed.contains c = true) then setChannel c (fun x => { x with trained := false, st := .retraining }) s
    else setChannel c (fun x => { x with trained := true, st := .serving }) s) s
  let r := s.warmRefresh
  s.onDram (fun d => { d with refresh := (List.range 8).map (fun n => (n, r)), source := (List.range 8).map (fun n => (n, source, s.now)) })

/-- Step 3 of the cold path (R579): the failures are applied, memory is initialised under tenant 0, the tenant-0 key drawn (R563), and
DEEP_CACHE_UNITS takes effect (R274). -/
def coldMemories (s : State) : State :=
  let s := trainAll 0 [] s
  let s := useFree ((s.onMem (fun _ => MemState.reset)).onSec (fun c => { c with key0 := some (Config.freeNat s.free) }))
  ((s.onDeep (fun d => { d with units := s.obj .deepCacheUnits })).onInteg (fun g => { g with testedAt := some s.now })).onBoot (fun b =>
    { b with memDone := true })

/-- Step 3 of the reheat path (R584, R685): training reloaded, self-refresh left, ledger and directory empty; the lines of a channel whose
retention flag is set are marked poisoned; DEEP_CACHE_UNITS takes effect (R274). -/
def reheatMemories (failed : List Nat) (s : State) : State :=
  let s := trainAll 1 failed s
  let s := forAll (s.dram.channels.filter (fun e => e.2.retained)) (fun e s => unlistPoison e.1 (setChannel e.1 (fun c => { c with overflow := true }) s)) s
  s.onDeep (fun d => { d with units := s.obj .deepCacheUnits })

/-- Bring-up reaches status 0x3: every enabled port begins Detect (R115, R579). -/
def lightPorts (s : State) : State :=
  forAll ((List.range 40).filter (fun p => s.portEnabled p && s.portTested p)) detectPort s

/-- The roles of each cluster's cores (R592): of those not retired, the lowest-numbered are enabled, the next two spare, others held as
retired. -/
def chooseRoles (s : State) : State :=
  forAll (List.range 16) (fun k s =>
    let good := (coresOf k).filter (fun c => corePresent c && !(s.unit .core c).retiredRole)
    let s := forAll good.zipIdx (fun x s => setUnit .core x.1 (fun u => { u with
      st := if x.2 < Config.enabledPerCluster then .enabled else if x.2 < Config.enabledPerCluster + 2 then .spare else .retired }) s) s
    if good.length ≤ Config.enabledPerCluster then exhaust 1 k s else s) s

/-- Ready (R579 step 6): the engine stores hold component 2 of the booted bank (R582), twin operation begins by TWIN_ENABLE (R464),
and BRINGUP_DONE is raised; what kind and unit it names the manual does not say: free values. -/
def becomeReady (s : State) : State :=
  let s := s.onFw (fun w => { w with engineDigest := (s.bank w.bootedB).engine })
  let s := s.onBoot (fun b => { b with step := 6, lastTime := (s.now - b.startedAt) / 1000000 })
  let on := s.obj .twinEnable == 1 && Config.twinPorts != 0
  let s := s.onTwin (fun t => { t with enable := on, st := if on then .enrolling else .solo })
  useFree (useFree (notify 0x1F01 (leBytes 1 (Config.freeNat s.free) ++ leBytes 4 (Config.freeNat (s.free + 1))) s))

/-! ### Partial resets (R577, R578, R586 to R588) -/

/-- Whether a unit is resetting, alone or within its cluster. -/
def State.coreResetting (s : State) (c : Nat) : Bool := (s.unit .core c).st == .resetting || (s.unit .cluster (clusterOf c)).st == .resetting

/-- The cluster mask and channel mask of a partition (0x1F13). -/
def State.partition (s : State) (p : Nat) : Option (Nat × Nat) :=
  ((s.table .partitions).find? (fun r => r.fields.getD 0 256 == p)).map (fun r => (r.fields.getD 1 0, r.fields.getD 2 0))

/-- A unit begins its reset: it resets until done, its epoch advances, the reset is counted and left in its crumbs.  `kind` is the kind
of reset in the order of R577: 1 cold, 2 package warm, 3 partition, 4 cluster, 5 core. -/
def beginUnit (k : UnitKind) (u kind : Nat) (s : State) : State :=
  let c := match k with | .core => 1 | .cluster => 2 | .channel => 3
  let s := crumb c u 1 kind s
  let key := (match k with | .core => 0 | .cluster => 65536 | .channel => 131072) + u
  let s := bump .unitResets key s
  let s := setUnit k u (fun r => { r with was := if r.st = .resetting then r.was else r.st, st := .resetting, resets := s.now :: r.resets.filter (fun t => decide (s.now < t + 86400000000000)) }) s
  advanceEpoch k u s

/-- A unit's reset ends: it returns to the state it had. -/
def endUnit (k : UnitKind) (u : Nat) (s : State) : State :=
  let c := match k with | .core => 1 | .cluster => 2 | .channel => 3
  crumb c u 2 0 (setUnit k u (fun r => { r with st := if r.st = .resetting then r.was else r.st }) s)

/-- A spare being brought in is reset: the bring-in restarts with another spare of the cluster, where there is one (R588). -/
def restartBringIn (c : Nat) (s : State) : State :=
  match s.boot.bringIns.find? (fun b => b.core == c) with
  | none => s
  | some b =>
    match s.spareCore (clusterOf c) with
    | some n => s.onBoot (fun x => { x with bringIns := x.bringIns.map (fun y => if y.core = c then { y with core := n, woken := false } else y) }) |> wakeSpares
    | none => if (s.unit .core c).st = .spare ∨ (s.unit .core c).was = .spare then s
              else bringSpare b.for_ b.req (s.onBoot (fun x => { x with bringIns := x.bringIns.filter (fun y => y.core != c) }))

/-- A core reset begins (R586): it drains; its queued tiles go back to the head of the cluster queue, its running tile is lost (R364). -/
def beginCoreReset (c : Nat) (req : Option Req) (s : State) : State :=
  let s := vacateCore c 288 .timeout s
  let s := clearCore c (beginUnit .core c 5 s)
  let s := restartBringIn c s
  s.onBoot (fun b => { b with partials := b.partials ++ [{ kind := 1, unit := c, since := s.now, req := req }] })

/-- End a recipe that a reset takes tiles of: it dispatches nothing further and ends ABORTED (R393). -/
def abortRecipe (id : Nat) (s : State) : State := dropTiles id (fun _ => false) (setRecipe id (fun r => { r with cancelled := true }) s)

/-- What a cluster reset absorbs (R586): recipes with a tile queued or running in it end ABORTED, every core is reset with it, and the
core resets that ran in it are abandoned, answered ABORTED (R578). -/
def absorbCluster (k kind : Nat) (s : State) : State :=
  let cores := (coresOf k).filter corePresent
  let ids := (agetD s.recp.queues k []).map TileRef.recipe ++ cores.flatMap (fun c =>
    (agetD s.recp.locals c []).map TileRef.recipe ++ (match (s.coreRec c).run with | some t => [t.recipe] | none => []))
  let s := forAll ids.eraseDups abortRecipe s
  let s := s.onRecp (fun r => { r with queues := adel r.queues k, locals := r.locals.filter (fun e => !cores.contains e.1) })
  let (mine, rest) := s.boot.partials.partition (fun p => p.kind == 1 && clusterOf p.unit == k)
  let s := s.onBoot (fun b => { b with partials := rest })
  let s := forAll mine (fun p s => match p.req with | some r => reply (cmdObj 0x1F20 1 roleOp) r .aborted [] s | none => s) s
  let s := forAll cores (fun c s =>
    let s := setCore c (fun x => { x with run := none }) s
    restartBringIn c (clearCore c (advanceEpoch .core c (bump .unitResets c (endUnit .core c s))))) s
  beginUnit .cluster k kind s

/-- A cluster reset begins. -/
def beginClusterReset (k : Nat) (req : Option Req) (s : State) : State :=
  let s := absorbCluster k 4 s
  s.onBoot (fun b => { b with partials := b.partials.filter (fun p => !(p.kind == 2 && p.unit == k)) ++ [{ kind := 2, unit := k, since := s.now, req := req }] })

/-- Whether a frame's data lies on one of some channels. -/
def State.frameOn (s : State) (f : Fill) (mask : Nat) : Bool :=
  (List.range 512).any (fun i => bits mask (placeOf (s.framePa f.cluster f.set f.way + i * 128)).channel 1 == 1)

/-- Whether a channel request is a pantry miss that somebody waits for an answer to (R586). -/
def DramCause.answered : DramCause → Bool
  | .request _ _ | .access _ _ _ => true
  | _ => false

/-- A partition reset begins (R586, R588): its clusters absorb; pantry misses at its channels are answered ABORTED, writebacks and the Varisk's
own reads stay; deep fills into its frames fail ABORTED, and a bulk command loses their granules. -/
def beginPartition (p clusters channels : Nat) (req : Option Req) (s : State) : State :=
  let s := forAll ((List.range 16).filter (fun k => bits clusters k 1 == 1)) (fun k s =>
    let s := match s.boot.partials.find? (fun x => x.kind == 2 && x.unit == k) with
      | some x => (match x.req with | some r => reply (cmdObj 0x1F20 2 roleOp) r .aborted [] s | none => s)
      | none => s
    (absorbCluster k 3 s).onBoot (fun b => { b with partials := b.partials.filter (fun x => !(x.kind == 2 && x.unit == k)) })) s
  let s := forAll ((List.range 256).filter (fun c => bits channels c 1 == 1)) (fun c s =>
    let waiting := s.waitingOn c
    let s := beginUnit .channel c 3 s
    let s := setChannel c (fun x => { x with reqs := (x.reqs.filter (fun r => r.write || !r.cause.answered)).map (fun r => { r with issued := false, inBank := false })
                                             st := if x.st = .failed then .failed else .retraining }) s
    forAll waiting (fun x s => match s.request x.1 x.2 with | some q => settleAged q.line (finishStatus q .aborted 0 false s) | none => s) s) s
  let lost := s.deep.fills.filter (fun f => s.frameOn f channels)
  let s := forAll lost (fun f s => failFill f .aborted s) s
  let s := s.onDeep (fun d => { d with bulk := d.bulk.map (fun b =>
    let hit := b.granules.filter (fun g => lost.any (fun f => f.granule == g))
    if hit.isEmpty then b else { b with granules := b.granules.filter (fun g => !hit.contains g), aborted := true }) })
  s.onBoot (fun b => { b with partials := b.partials ++ [{ kind := 3, unit := p, since := s.now, req := req }] })

/-- A partition reset ends: its clusters dispatch again, and its channels serve. -/
def endPartition (clusters channels : Nat) (s : State) : State :=
  let s := forAll ((List.range 16).filter (fun k => bits clusters k 1 == 1)) (endUnit .cluster) s
  forAll ((List.range 256).filter (fun c => bits channels c 1 == 1)) (fun c s =>
    let s := endUnit .channel c s
    if (s.channel c).st = .retraining then channelServes c s else s) s

/-! ### Rows and banks (R331, R593, R595) -/

/-- A bank's key: channel × 32 + pseudo-channel × 16 + bank. -/
def bankKey (channel pseudo bank : Nat) : Nat := channel * 32 + pseudo * 16 + bank

/-- A bank needs a spare bank (R593, R595): the copy begins, unless the stack has none left. -/
def startBankRepair (key : Nat) (req : Option Req) (s : State) : State :=
  let stack := key / 1024
  let n := agetD s.boot.banksUsed stack 0
  if s.boot.bankRepairs.any (fun x => x.1 == key) ∨ n ≥ 8 then s
  else
    let s := s.onBoot (fun b => { b with banksUsed := aset b.banksUsed stack (n + 1), bankRepairs := b.bankRepairs ++ [(key, req)] })
    if n + 1 ≥ 8 then exhaust 5 stack s else s

/-- The lines of a copy are read and checked (R322, R595): one that cannot be corrected is carried poisoned.  Which they are is a free value
(log 82). -/
def copyChecked (lines : List Nat) (s : State) : State :=
  let bad := Config.freeNat s.free
  forAll lines.zipIdx (fun x s => if bits bad x.2 1 = 1 then
      let ch := channelOfPa (x.1 * 128)
      poisonLine x.1 0 (logError 2 4 ch (x.1 * 128) 0 (s.lineMeta x.1).tenant 0 (crumb 3 ch 7 (x.1 * 128) (bump .uncorrectable ch s)))
    else s) (useFree s)

/-- The lines of a row. -/
def rowLines (key row : Nat) : List Nat :=
  (List.range 8).map (fun i => lineAtPlace { channel := key / 32, pseudo := key / 16 % 2, bank := key % 16, row := row, column := i })

/-- The lines of a bank that memory has a record of (log 82). -/
def State.bankLines (s : State) (key : Nat) : List Nat :=
  (s.mem.lines.map Prod.fst).filter (fun l => let p := placeOf (l * 128); bankKey p.channel p.pseudo p.bank == key)

/-- A row is copied into a spare row and the bank's remap entry switched (R595); a bank with no row left needs a spare bank. -/
def repairRow (key row : Nat) (s : State) : State :=
  let s := s.onInteg (fun g => { g with badRows := g.badRows.filter (fun x => !(x.1 * 32 + x.2.1 == key && x.2.2 == row)) })
  let n := agetD s.boot.rowsUsed key 0
  if n ≥ 64 then startBankRepair key none s
  else
    let s := copyChecked (rowLines key row) s
    let s := crumb 3 (key / 32) 0x0E (4 + key * 2 ^ 32) (s.onBoot (fun b => { b with rowsUsed := aset b.rowsUsed key (n + 1) }))
    if n + 1 ≥ 64 then exhaust 4 key s else s

end Sys2Proof.Machine
end

