-- ==== Sys2Proof/Machine/Package.lean ====
section
/-!
DEFINITION. Machine/Package.lean: the commands of the package: resets and straps, rails, temperatures, load steps, hold-up, laser inputs
(R54 to R91).
-/
namespace Sys2Proof.Machine

/-! ### Resets and straps (R63 to R65, R71 to R74) -/

/-- PORESET_ASSERT (R62, R64, R74, R577). -/
def execPoresetAssert (s : State) : Host.Outcome State Fault Refusal := .next (coldReset s)

/-- PORESET_RELEASE (R71): PORESET_N rises with REFCLK running, and the time to the strap sample counts. -/
def execPoresetRelease (s : State) : Host.Outcome State Fault Refusal :=
  .next (if s.pkg.poresetLow then
      (s.onPkg (fun p => { p with poresetLow := false, refclk := true })).onBoot (fun b => { b with startedAt := s.now })
    else s)

/-- The majority of three samples of 8 pins (R71). -/
def majority (a b c : Nat) : Nat := (a &&& b) ||| (a &&& c) ||| (b &&& c)

/-- STRAP_SAMPLE (R71, R74): `s1`, `s2`, `s3` are TP8 to TP15 at the three instants, TP8 in bit 0.  The majority is latched; bit 7 is
STRAP_FAULT.  The boot phase begins with the boot ROM's choice of a bank (R606). -/
def execStrapSample (s1 s2 s3 : Nat) (s : State) : Host.Outcome State Fault Refusal :=
  .next (if s.pkg.phase ≠ .strap ∨ s.pkg.poresetLow ∨ s.pkg.stopped.isSome then s
    else
      let a := s1 % 256
      let b := s2 % 256
      let c := s3 % 256
      let m := majority a b c
      let fault := decide (m ≥ 128) || a != b || b != c
      let v := m % 128 + (if fault then 128 else 0)
      let s := logStep 0 0 0 (s.onPkg (fun p => { p with straps := v, phase := .boot, strapNoted := false, gpIn := m / 16 % 16 }))
      let s := if bits v 1 1 = 1 then setObj .homePreference 1 s else s
      bootRom (s.onBoot (fun b => { b with step := 1 })))

/-- Whether an assertion of WARMRESET_N counts (R65). -/
def State.takesWarm (s : State) : Bool := !s.pkg.poresetLow && s.pkg.phase != .strap && !s.pkg.thermTrip && s.pkg.stopped.isNone

/-- WARMRESET_ASSERT (R62, R65): TP4 is released with the step it announced, and the 10 µs are counted. -/
def execWarmresetAssert (s : State) : Host.Outcome State Fault Refusal :=
  .next (if s.takesWarm then s.onPkg (fun p => { p with warmQual := true, tp4 := false, step := none }) else s)

/-- WARMRESET_SHORT (R65): released before 10 µs; it starts nothing, and a held step may be announced again. -/
def execWarmresetShort (s : State) : Host.Outcome State Fault Refusal :=
  .next (if s.pkg.warmQual then nextStep (bump .warmresetShort 0 (s.onPkg (fun p => { p with warmQual := false }))) else s)

/-- WARMRESET_START (R65, R583, R588): 10 µs of qualified low. -/
def execWarmresetStart (s : State) : Host.Outcome State Fault Refusal :=
  .next (if s.pkg.warmQual && s.takesWarm then warmReset 2 s else s)

/-- BAKER_BOOT_COMPLETE (R72 to R74, R579): TP2 goes high and the run phase begins; with DEBUG_REQ and no token in force bring-up holds
with status 0x1.  In recovery the boot ROM stays in the boot phase (R615). -/
def execBakerBootComplete (s : State) : Host.Outcome State Fault Refusal :=
  .next (if s.pkg.phase ≠ .boot ∨ s.fw.recovery ∨ s.pkg.stopped.isSome then s
    else
      let s := logStep 1 0 0 s
      let hold := bits s.pkg.straps 6 1 == 1 && s.sec.token.isNone
      let phase : Phase := if s.debugLevel = 2 then .debug else .run
      let s := s.onPkg (fun p => { p with phase := phase, debugHold := hold })
      let s := s.onBoot (fun b => { b with step := if hold then 1 else 2 })
      let s := onlyIf (!s.pkg.strapNoted && decide (s.pkg.straps ≥ 128)) (fun s =>
        notify 0x1101 (leBytes 1 s.pkg.straps) (s.onPkg (fun p => { p with strapNoted := true }))) s
      let s := onlyIf s.bestSettings.isNone (notify 0x0003 []) s
      onlyIf s.boot.larderLost (fun s => useFree (useFree (notify 0x1F07 (leBytes 1 (Config.freeNat s.free) ++ leBytes 4 (Config.freeNat (s.free + 1)))
        (s.onBoot (fun b => { b with larderLost := false }))))) s)

/-- DEBUG_HOLD_TIMEOUT (R73): 30 s without a token. -/
def execDebugHoldTimeout (s : State) : Host.Outcome State Fault Refusal := .next (endDebugHold s)

/-- MGMT_LINK_CHANGE (R87, R97): the management lane is lit once Baker has booted. -/
def execMgmtLinkChange (up : Bool) (s : State) : Host.Outcome State Fault Refusal :=
  let lit := s.bakerUp && s.pkg.phase != .boot
  .next (s.onLink (fun l => { l with mgmtLink := up && lit }))

/-! ### Stops (R57, R67, R89, R90) -/

/-- BROWN_OUT (R57, R63, R482): a rail has crossed its trip; with VDD_AUX gone the package is unpowered, and no release code is sent. -/
def execBrownOut (rail : Rail) (s : State) : Host.Outcome State Fault Refusal := .next (stopPackage .brownOut (rail == .vddAux) s)

/-- REFCLK_LOSS (R67). -/
def execRefclkLoss (s : State) : Host.Outcome State Fault Refusal :=
  .next (if s.pkg.poresetLow then s else stopPackage .refclkLoss false (s.onPkg (fun p => { p with refclk := false })))

/-- Warning and Critical thresholds of a kind of sensor, in m°C (R89). -/
def SensorKind.warn : SensorKind → Int
  | .cluster | .fabric => 95000
  | .stack => 85000
  | .optical => 75000
/-- Critical. -/
def SensorKind.crit : SensorKind → Int
  | .cluster | .fabric => 105000
  | .stack => 95000
  | .optical => 80000
/-- Trip. -/
def SensorKind.trip : SensorKind → Int
  | .cluster | .fabric => 115000
  | .stack => 105000
  | .optical => 90000

/-- A sensor's number: clusters, fabric islands, stacks, optical engines, in the order R89's text lists them (log 5). -/
def sensorNumber (k : SensorKind) (i : Nat) : Nat := match k with | .cluster => i | .fabric => 16 + i | .stack => 18 + i | .optical => 26 + i

/-- How many sensors of a kind there are: 36 by the places R89's text lists, where it counts 42 (DESIGN CHOICE, log 5). -/
def SensorKind.count : SensorKind → Nat
  | .cluster => 16
  | .fabric => 2
  | .stack => 8
  | .optical => 10

/-- A sensor after one reading: its level rises at a threshold, to Critical after 100 samples; the counts toward leaving go on (R89). -/
def Sensor.take (k : SensorKind) (t : Int) (x : Sensor) : Sensor :=
  let above := if t ≥ k.crit then x.above + 1 else 0
  { milliC := t, above := above
    belowWarn := if t ≤ k.warn - 5000 then x.belowWarn + 1 else 0
    belowCrit := if t ≤ k.crit - 5000 then x.belowCrit + 1 else 0
    level := if above ≥ 100 then 2 else if t ≥ k.warn then max x.level 1 else x.level }

/-- The sensor's state when nothing has been read: normal, and long cool (log 5). -/
def Sensor.cool : Sensor := { milliC := 25000, level := 0, above := 0, belowWarn := 100, belowCrit := 100 }

/-- THERMAL_SAMPLE (R89): the sensors are read; a level is left when every sensor has been 5 °C below its threshold for 100 samples.  The
notification, the refresh rate of the stacks and what Power takes from the level follow. -/
def execThermalSample (readings : List (SensorKind × Nat × Int)) (s : State) : Host.Outcome State Fault Refusal :=
  .next (if s.pkg.poresetLow ∨ s.pkg.stopped.isSome then s
    else
      let old := s.pkg.sensors
      let taken := (readings.filter (fun r => decide (r.2.1 < r.1.count))).foldl (fun (m : Assoc (SensorKind × Nat) Sensor) r =>
        aset m (r.1, r.2.1) (((aget m (r.1, r.2.1)).getD Sensor.cool).take r.1 r.2.2)) old
      let leave2 := taken.all (fun e => decide (e.2.belowCrit ≥ 100))
      let leave1 := taken.all (fun e => decide (e.2.belowWarn ≥ 100))
      let new := taken.map (fun e =>
        let l := if leave2 ∧ e.2.level = 2 then 1 else e.2.level
        (e.1, { e.2 with level := if leave1 ∧ l = 1 then 0 else l }))
      let s := s.onPkg (fun p => { p with sensors := new })
      let s := forAll (new.filter (fun e => e.2.level != ((aget old e.1).map Sensor.level).getD 0)) (fun e s =>
        notify 0x1102 (leBytes 1 (sensorNumber e.1.1 e.1.2) ++ leBytes 1 e.2.level ++ leBytes 4 (wrap 32 e.2.milliC)) s) s
      let r := s.warmRefresh
      s.onDram (fun d => { d with refresh := (List.range 8).map (fun n => (n, if agetD d.refresh n 0 = 2 then 2 else r)) }))

/-- THERMTRIP (R89, R90): a sensor at its trip temperature, in every phase; TP3 stays asserted until PORESET_N, and so does the stop. -/
def execThermtrip (kind : SensorKind) (idx : Nat) (s : State) : Host.Outcome State Fault Refusal :=
  .next (if idx ≥ kind.count then s
    else
      let s := s.onPkg (fun p => { p with thermTrip := true })
      if s.pkg.poresetLow then s.onPkg (fun p => { p with stopped := some .thermTrip }) else stopPackage .thermTrip false s)

/-! ### Load steps and hold-up (R61, R62, R79) -/

/-- POWER_STEP_ACK (R61, R62): an edge of TP5. -/
def execPowerStepAck (level : Bool) (s : State) : Host.Outcome State Fault Refusal :=
  if s.pkg.phase ≠ .run ∧ s.pkg.phase ≠ .debug then .next (s.onPkg (fun p => { p with tp5 := level }))
  else if level then
    .next (onlyIf (!s.pkg.tp4) (bump .stepAckUnsolicited 0) (s.onPkg (fun p => { p with tp5 := true })))
  else
    let s := s.onPkg (fun p => { p with tp5 := false, ackStuck := false })
    .next (nextStep s)

/-- POWER_STEP_START (R61): 2.0 µs after TP4 rose, with TP5 high. -/
def execPowerStepStart (s : State) : Host.Outcome State Fault Refusal :=
  .next (if s.pkg.tp4 && s.pkg.tp5 then s.onPkg (fun p => { p with step := p.step.map (fun x => { x with started := true }) }) else s)

/-- STEP_ACK_MISSING (R62): 10 µs without TP5: the step goes in parts, and TP4 falls. -/
def execStepAckMissing (s : State) : Host.Outcome State Fault Refusal :=
  .next (if s.pkg.tp4 && !s.pkg.tp5 && !((s.pkg.step.map LoadStep.started).getD false) then stepOver (bump .stepAckMissing 0 s) else s)

/-- STEP_ACK_STUCK (R62): TP5 high more than 2 µs after TP4 fell: no new handshake until it is low. -/
def execStepAckStuck (s : State) : Host.Outcome State Fault Refusal :=
  .next (if !s.pkg.tp4 && s.pkg.tp5 then bump .stepAckStuck 0 (s.onPkg (fun p => { p with ackStuck := true })) else s)

/-- HOLDUP_SAMPLE (R79): a value held for three samples is accepted.  TP6 is an input from the boot phase on (R68). -/
def execHoldupSample (level : Bool) (s : State) : Host.Outcome State Fault Refusal :=
  .next (if s.pkg.poresetLow ∨ s.pkg.phase = .strap ∨ s.pkg.stopped.isSome then s
    else s.onPkg (fun p =>
      let run := if level = p.holdupLast then p.holdupRun + 1 else 1
      { p with holdupLast := level, holdupRun := min run 3, holdup := if run ≥ 3 then level else p.holdup }))

/-! ### Laser inputs (R85, R86) -/

/-- A power in 0.01 dBm below a limit: what exactly it is the command does not say (a free value). -/
def lowPower (below : Nat) (n : Nat) : Int := (below : Int) - 1 - ((Config.freeNat n % below : Nat) : Int)

/-- LASER_INPUT_LOW (R85, R593): the engine switches to its spare input, its last.  The switch-over is counted in the row of the input
switched to: the manual does not say which (DESIGN CHOICE, log 5). -/
def execLaserInputLow (engine : Nat) (s : State) : Host.Outcome State Fault Refusal :=
  .next (if engine ≥ 10 ∨ s.pkg.darkEngines.contains engine ∨ s.pkg.poresetLow ∨ s.pkg.stopped.isSome then s
    else
      let f := s.feedingOf engine
      let next := 1 - f
      let s := useFree (s.onPkg (fun p => { p with lasers := aset p.lasers (engine, f) (lowPower 1700 s.free), feeding := aset p.feeding engine next }))
      exhaust 3 engine (notify 0x1103 (leBytes 1 engine ++ leBytes 1 next) (bump .laserSwitchovers (engine * 2 + next) s)))

/-- LASER_INPUTS_DARK (R86, R115): every transmitter of the engine goes dark, and its ports go down. -/
def execLaserInputsDark (engine : Nat) (s : State) : Host.Outcome State Fault Refusal :=
  .next (if engine ≥ 10 ∨ s.pkg.darkEngines.contains engine ∨ s.pkg.poresetLow ∨ s.pkg.stopped.isSome then s
    else
      let s := useFree (useFree (s.onPkg (fun p => { p with
        darkEngines := p.darkEngines ++ [engine]
        lasers := aset (aset p.lasers (engine, 0) (lowPower 1700 s.free)) (engine, 1) (lowPower 1700 (s.free + 1)) })))
      forAll ((List.range 40).filter (fun p => portPresent p && engineOf p == engine)) (fun p s =>
        let st := (s.port p).st
        if st = .train then trainFails p 4 s else if st = .active ∨ st = .retrain ∨ st = .detect then portDown p 4 s else s) s)

/-- LASER_INPUT_RESTORED (R86): an input has been at 18.0 dBm or above for 1 ms. -/
def execLaserInputRestored (engine input : Nat) (s : State) : Host.Outcome State Fault Refusal :=
  .next (if engine ≥ 10 ∨ input ≥ 2 ∨ s.pkg.poresetLow ∨ s.pkg.stopped.isSome then s
    else
      let dark := s.pkg.darkEngines.contains engine
      let s := useFree (s.onPkg (fun p => { p with
        darkEngines := p.darkEngines.filter (· ≠ engine)
        feeding := if dark then aset p.feeding engine input else p.feeding
        lasers := aset p.lasers (engine, input) (1800 + ((Config.freeNat s.free % 500 : Nat) : Int)) }))
      -- ports in Down whose hold has elapsed return to Detect (R115)
      forAll ((List.range 40).filter (fun p => portPresent p && engineOf p == engine && (s.port p).st == .down && (s.port p).holdOver))
        (fun p s => portTo p .detect (fun q => { q with holdOver := false }) s) s)

/-- LASER_LOW (R86): below 20.0 dBm, above 17.0 dBm: one warning per input per minute. -/
def execLaserLow (engine input : Nat) (s : State) : Host.Outcome State Fault Refusal :=
  .next (if engine ≥ 10 ∨ input ≥ 2 ∨ s.pkg.poresetLow ∨ s.pkg.stopped.isSome then s
    else
      let power := 1701 + Config.freeNat s.free % 299
      let s := useFree (s.onPkg (fun p => { p with lasers := aset p.lasers (engine, input) (power : Int) }))
      notifyLimited 0x1104 (engine * 2 + input) 60000000000 (fun _ => leBytes 1 engine ++ leBytes 1 input ++ leBytes 2 power) s)

end Sys2Proof.Machine
end

