-- ==== Sys2Proof/Machine/Boot.lean ====
section
/-!
DEFINITION. Machine/Boot.lean: the commands of bring-up, partial resets, the larder, service mode, and handshake timeouts (R577 to R600,
R644).
-/
namespace Sys2Proof.Machine

/-! ### Bring-up (R579 to R585) -/

/-- Whether a step of bring-up from 2 to 5 runs. -/
def State.stepRuns (s : State) : Bool := decide (2 ≤ s.boot.step) && decide (s.boot.step ≤ 5) && s.pkg.stopped.isNone && s.pkg.phase != .boot && s.pkg.phase != .strap && !s.pkg.poresetLow

/-- The rows of BRINGUP_LOG for the sub-steps 3a to 3e; where one ends and the next begins the command does not say (free values). -/
def logSubSteps (result : Nat) (s : State) : State :=
  let start := match s.boot.log.getLast? with | some x => x.2.2.2.1 | none => s.boot.startedAt
  let cut (i : Nat) : Nat := if i = 0 then start else if i = 5 then s.now else start + Config.freeNat (s.free + i) % (s.now - start + 1)
  let rows := (List.range 5).map (fun i => (3, i + 1, cut i, cut (i + 1), result))
  useFrees 5 (s.onBoot (fun b => { b with log := b.log ++ rows }))

/-- BRINGUP_STEP_DONE (R579, R581, R592): a step of the cold path ends; `failed` lists the tests and trainings that failed in it, as
`noteFailure` reads them. -/
def execBringupStepDone (failed : List Nat) (s : State) : Host.Outcome State Fault Refusal :=
  .next (if !s.stepRuns || s.boot.path != .cold then s
    else
      let s := forAll failed noteFailure s
      if s.boot.step = 3 && failed.any stopsBringup then stopBringup s
      else
        let s := forAll failed applyFailure s
        let result := if failed.isEmpty then 0 else 1
        let step := s.boot.step
        let s := if step = 3 then logStep 3 0 result (logSubSteps result (coldMemories s)) else logStep step 0 result s
        if step = 2 then s.onBoot (fun b => { b with step := 3 })
        else if step = 3 then lightPorts (s.onBoot (fun b => { b with step := 4 }))
        else if step = 4 then s.onBoot (fun b => { b with step := 5 })
        else becomeReady (chooseRoles s))

/-- REHEAT_STEP_DONE (R287, R582, R584, R585): `failed` lists the channels whose reloaded training has failed in step 3, and in step 5 the
cores whose engine store has failed its CRC twice, which are retired. -/
def execReheatStepDone (failed : List Nat) (s : State) : Host.Outcome State Fault Refusal :=
  .next (if !s.stepRuns || s.boot.path != .reheat then s
    else
      let step := s.boot.step
      let mismatched (c : Nat) (s : State) : State :=
        if corePresent c && !(s.unit .core c).retiredRole then retireCore c .timeout none (noteFailure (10 * 65536 + c) s) else s
      let s := logStep step 0 (if step = 5 ∧ failed ≠ [] then 1 else 0) (if step = 3 then reheatMemories failed s else if step = 5 then forAll failed mismatched s else s)
      if step = 2 then s.onBoot (fun b => { b with step := 3 })
      else if step = 3 then lightPorts (s.onBoot (fun b => { b with step := 4 }))
      else if step = 4 then s.onBoot (fun b => { b with step := 5 })
      else becomeReady s)

/-- BRINGUP_STEP_TIMEOUT (R581): a step exceeds its max; the time of a DEBUG_REQ hold is not counted. -/
def execBringupStepTimeout (s : State) : Host.Outcome State Fault Refusal :=
  let booting := s.boot.step == 1 && s.pkg.phase == .boot && !s.fw.recovery && s.pkg.stopped.isNone
  .next (if s.stepRuns || booting then stopBringup s else s)

/-! ### Reset commands (R577, R578, R586 to R588) -/

/-- RESET_CORE (R586, R599). -/
def execResetCore (r : Req) (core : Nat) (s : State) : Host.Outcome State Fault Refusal :=
  .next (operate (cmdObj 0x1F20 1 roleOp) r (leBytes 2 core) 2 { Verdict.ok with bad := !corePresent core, state := s.coreResetting core }
    (beginCoreReset core (some r)) s)

/-- Whether a cluster is in a partition that resets, or resets itself. -/
def State.clusterResetting (s : State) (k : Nat) : Bool := (s.unit .cluster k).st == .resetting

/-- RESET_CLUSTER (R586, R599). -/
def execResetCluster (r : Req) (cluster : Nat) (s : State) : Host.Outcome State Fault Refusal :=
  .next (operate (cmdObj 0x1F20 2 roleOp) r (leBytes 1 cluster) 1 { Verdict.ok with bad := decide (cluster ≥ 16), state := s.clusterResetting cluster }
    (beginClusterReset cluster (some r)) s)

/-- RESET_PARTITION (R586, R599): a partition that is not defined is absent. -/
def execResetPartition (r : Req) (part : Nat) (s : State) : Host.Outcome State Fault Refusal :=
  let running := s.boot.partials.any (fun p => p.kind == 3 && p.unit == part)
  .next (operate (cmdObj 0x1F20 3 roleOp) r (leBytes 1 part) 1 { Verdict.ok with bad := (s.partition part).isNone, state := running }
    (fun s => match s.partition part with
      | some (clusters, channels) => beginPartition part clusters channels (some r) s
      | none => s) s)

/-- RESET_PACKAGE (R583, R599): OK is sent before step 0, which ends every request and recipe ABORTED. -/
def execResetPackage (r : Req) (s : State) : Host.Outcome State Fault Refusal :=
  let o := cmdObj 0x1F20 4 roleOp
  .next (operate o r [] 0 Verdict.ok (fun s => warmReset 3 (abortAll (reply o r .ok [] s))) s)

/-- Raise PARTIAL_RESET for a reset that has ended. -/
def notePartial (kind unit : Nat) (s : State) : State := notify 0x1F03 (leBytes 1 kind ++ leBytes 4 unit) s

/-- PARTIAL_RESET_DONE (R586, R587): kind 1 a core, 2 a cluster, 3 a partition.  A core reset three times within 24 h is retired. -/
def execPartialResetDone (kind unit : Nat) (s : State) : Host.Outcome State Fault Refusal :=
  match s.boot.partials.find? (fun p => p.kind == kind && p.unit == unit) with
  | none => .next s
  | some p =>
    let s := s.onBoot (fun b => { b with partials := b.partials.filter (fun x => !(x.kind == kind && x.unit == unit)) })
    let s := if kind = 1 then
        let s := endUnit .core unit s
        if (s.unit .core unit).resets.length ≥ 3 ∧ (s.unit .core unit).st ≠ .retired then retireCore unit .timeout none s else s
      else if kind = 2 then endUnit .cluster unit s
      else match s.partition unit with
        | some (clusters, channels) => endPartition clusters channels s
        | none => s
    let s := notePartial kind unit s
    match p.req with
    | none => .next s
    | some r => .next (reply (cmdObj 0x1F30 4 roleOp) r .ok [] (reply (cmdObj 0x1F20 kind roleOp) r .ok [] s))

/-- CORE_RESET_ESCALATE (R587): 100 µs without an end: the core's cluster is reset. -/
def execCoreResetEscalate (core : Nat) (s : State) : Host.Outcome State Fault Refusal :=
  if s.frozen then .next s else
  .next (if s.boot.partials.any (fun p => p.kind == 1 && p.unit == core) then
      if s.clusterResetting (clusterOf core) then s else beginClusterReset (clusterOf core) none s
    else s)

/-- CLUSTER_RESET_TIMEOUT (R587): 1 ms without an end: the cluster's cores are retired.  What the command that asked for it is answered
the manual does not say: TIMEOUT (log 37). -/
def execClusterResetTimeout (cluster : Nat) (s : State) : Host.Outcome State Fault Refusal :=
  if s.frozen then .next s else
  match s.boot.partials.find? (fun p => p.kind == 2 && p.unit == cluster) with
  | none => .next s
  | some p =>
    let s := s.onBoot (fun b => { b with
      partials := b.partials.filter (fun x => !(x.kind == 2 && x.unit == cluster))
      bringIns := b.bringIns.filter (fun x => clusterOf x.core != cluster) })
    let s := endUnit .cluster cluster s
    let s := forAll ((coresOf cluster).filter corePresent) (fun c s =>
      crumb 1 c 0x0E (1 + c * 2 ^ 32) (setUnit .core c (fun u => { u with st := .retired, retiredRole := true }) s)) s
    let s := exhaust 1 cluster (notify 0x1F04 (leBytes 1 2 ++ leBytes 4 cluster) s)
    .next (match p.req with
      | some r => reply (cmdObj 0x1F30 4 roleOp) r .timeout [] (reply (cmdObj 0x1F20 2 roleOp) r .timeout [] s)
      | none => s)

/-! ### The larder (R592 to R595) -/

/-- RETIRE_UNIT (R593, R599): kind 1 a core; 4 a DRAM row, named bank key × 131,072 + row; 5 a bank by its key; 6 a way, by the key of
its set (log 38). -/
def execRetireUnit (r : Req) (kind unit : Nat) (s : State) : Host.Outcome State Fault Refusal :=
  let o := cmdObj 0x1F20 5 roleOp
  let key := if kind = 4 then unit / 131072 else unit
  let bad := if kind = 1 then !corePresent unit else if kind = 4 ∨ kind = 5 then decide (key ≥ 8192) || (kind == 4 && decide (unit % 131072 ≥ Config.rowsPerBank)) else kind != 6 || decide (unit ≥ 2 ^ 20)
  let rowLeft := decide (agetD s.boot.rowsUsed key 0 < 64)
  let bankLeft := decide (agetD s.boot.banksUsed (key / 1024) 0 < 8)
  let state := (kind == 1 && ((s.unit .core unit).st == .retired || s.coreResetting unit)) || (kind == 5 && s.boot.bankRepairs.any (fun x => x.1 == key))
  let noSpace := (kind == 4 && !rowLeft && !bankLeft) || (kind == 5 && !bankLeft) || (kind == 6 && s.boot.waysUsed.contains unit)
  .next (operate o r (leBytes 1 kind ++ leBytes 8 unit) 1 { Verdict.ok with bad := bad, state := state, other := if noSpace then some .noSpace else none }
    (fun s =>
      if kind = 1 then retireCore unit .timeout (some r) s
      else if kind = 4 then reply o r .ok [] (repairRow key (unit % 131072) s)
      else if kind = 5 then startBankRepair key (some r) s
      else reply o r .ok [] (exhaust 6 unit (s.onBoot (fun b => { b with waysUsed := b.waysUsed ++ [unit] })))) s)

/-- SPARE_BRINGIN_DONE (R594): the spare has run logic BIST: it joins the enabled cores under a new epoch, or is retired and the next
spare is tried. -/
def execSpareBringinDone (core : Nat) (ok : Bool) (s : State) : Host.Outcome State Fault Refusal :=
  match s.boot.bringIns.find? (fun b => b.core == core && b.woken) with
  | none => .next s
  | some b =>
    let s := s.onBoot (fun x => { x with bringIns := x.bringIns.filter (fun y => y.core != core) })
    if ok then
      let s := clearCore core (advanceEpoch .core core s)
      let s := setUnit .core core (fun u => { u with st := .enabled }) s
      let s := onlyIf (s.unit .core b.for_).retiredRole (fun s => notify 0x1F04 (leBytes 1 1 ++ leBytes 4 b.for_) (crumb 1 b.for_ 0x0E (1 + b.for_ * 2 ^ 32) s)) s
      let s := notify 0x1F05 (leBytes 1 1 ++ leBytes 4 core) (crumb 1 core 0x0E (1 + core * 2 ^ 32) s)
      .next (match b.req with
        | some r => reply (cmdObj 0x1F30 3 roleOp) r .ok [] (reply (cmdObj 0x1F20 5 roleOp) r .ok [] s)
        | none => s)
    else
      let s := setUnit .core core (fun u => { u with st := .retired, retiredRole := true }) s
      let s := notify 0x1F04 (leBytes 1 1 ++ leBytes 4 core) (crumb 1 core 0x0E (1 + core * 2 ^ 32) s)
      .next (bringSpare b.for_ b.req s)

/-- ROW_REPAIR (R331, R595): a row handed to the larder is repaired. -/
def execRowRepair (channel pseudo bank row : Nat) (s : State) : Host.Outcome State Fault Refusal :=
  if s.frozen then .next s else
  .next (if s.integ.badRows.contains (channel, pseudo * 16 + bank, row) then repairRow (bankKey channel pseudo bank) row s else s)

/-- BANK_REPAIR_DONE (R595): the spare bank takes over, with rows of its own; each row's copy has been checked as a row repair is. -/
def execBankRepairDone (channel pseudo bank : Nat) (s : State) : Host.Outcome State Fault Refusal :=
  if s.frozen then .next s else
  let key := bankKey channel pseudo bank
  match s.boot.bankRepairs.find? (fun x => x.1 == key) with
  | none => .next s
  | some x =>
    let s := s.onBoot (fun b => { b with bankRepairs := b.bankRepairs.filter (fun y => y.1 != key), rowsUsed := adel b.rowsUsed key })
    let s := s.onInteg (fun g => { g with badRows := g.badRows.filter (fun y => y.1 * 32 + y.2.1 != key) })
    let s := crumb 3 channel 0x0E (5 + key * 2 ^ 32) (copyChecked (s.bankLines key) s)
    .next (match x.2 with | some r => reply (cmdObj 0x1F20 5 roleOp) r .ok [] s | none => s)

/-! ### Service mode (R597, R598) -/

/-- The channels of a stack. -/
def stackChannels (n : Nat) : List Nat := (List.range 32).map (fun i => 32 * n + i)

/-- Whether a unit of R598 is out of service: kind 1 core, 2 cluster, 3 channel, 4 stack, 5 port. -/
def State.unitOut (s : State) (kind unit : Nat) : Bool :=
  if kind = 1 then (s.unit .core unit).st == .out || ((s.unit .core unit).st == .resetting && (s.unit .core unit).was == .out)
  else if kind = 2 then (s.unit .cluster unit).st == .out
  else if kind = 3 then (s.unit .channel unit).st == .out
  else if kind = 4 then s.boot.stacksOut.contains unit
  else s.boot.portsOut.contains unit

/-- Whether a unit of R598 is resetting. -/
def State.unitResetting (s : State) (kind unit : Nat) : Bool :=
  if kind = 1 then s.coreResetting unit else if kind = 2 then s.clusterResetting unit
  else if kind = 3 then (s.unit .channel unit).st == .resetting
  else if kind = 4 then (stackChannels unit).any (fun c => (s.unit .channel c).st == .resetting) else false

/-- Whether a kind and unit of R598 names nothing the package has. -/
def unitAbsent (kind unit : Nat) : Bool :=
  if kind = 1 then !corePresent unit else if kind = 2 then decide (unit ≥ 16) else if kind = 3 then decide (unit ≥ 256)
  else if kind = 4 then decide (unit ≥ 8) else if kind = 5 then !portPresent unit else true

/-- SERVICE_MODE_WRITE (R597): 0x1F00.04. -/
def execServiceModeWrite (r : Req) (value : Nat) (s : State) : Host.Outcome State Fault Refusal :=
  .next (operateOk (writeObj .serviceMode) r (leBytes 1 value) 1 { Verdict.ok with bad := decide (value > 1), state := value == 0 && s.anyOut }
    (setObj .serviceMode value) s)

/-- A command of 0x1F30: its object and what refuses it (R598, R600). -/
def serviceObj (sub : Nat) : OpObj := cmdObj 0x1F30 sub roleOp

/-- The argument bytes of a service command. -/
def serviceArg (kind unit : Nat) : List Byte := leBytes 1 kind ++ leBytes 2 unit

/-- Take a unit out of service (R598). -/
def takeOut (kind unit : Nat) (s : State) : State :=
  let channelOut (c : Nat) (s : State) : State := setUnit .channel c (fun u => { u with st := .out, recal := false }) s
  if kind = 1 then setUnit .core unit (fun u => { u with was := .out, recal := false }) (beginCoreReset unit none s)
  else if kind = 2 then
    let s := forAll ((coresOf unit).filter (fun c => corePresent c && !s.coreResetting c)) (fun c s => beginCoreReset c none s) s
    -- tiles homed on it are queued at the lowest-numbered cluster of its die that is in service
    let moved := agetD s.recp.queues unit []
    let s := setUnit .cluster unit (fun u => { u with st := .out, recal := false }) s
    match ((List.range 8).map (fun i => unit / 8 * 8 + i)).find? (fun k => (s.unit .cluster k).st == .enabled) with
    | some k => s.onRecp (fun r => { r with queues := if moved.isEmpty then r.queues else amod (adel r.queues unit) k [] (fun q => q ++ moved) })
    | none => s
  else if kind = 3 then channelOut unit s
  else if kind = 4 then forAll (stackChannels unit) channelOut (s.onBoot (fun b => { b with stacksOut := b.stacksOut ++ [unit] }))
  else disablePort unit (s.onBoot (fun b => { b with portsOut := b.portsOut ++ [unit] }))

/-- SERVICE_OUT (R598). -/
def execServiceOut (r : Req) (kind unit : Nat) (s : State) : Host.Outcome State Fault Refusal :=
  .next (operateOk (serviceObj 1) r (serviceArg kind unit) 1
    { Verdict.ok with bad := unitAbsent kind unit, state := s.obj .serviceMode != 1 || s.unitOut kind unit || s.unitResetting kind unit }
    (takeOut kind unit) s)

/-- SERVICE_RECAL (R598): logic BIST or training of a unit out of service.  Whether it passes is a free value; a failure is answered
INTEGRITY (log 39).  A port is asked to retrain with LANE_RESTORE. -/
def execServiceRecal (r : Req) (kind unit : Nat) (s : State) : Host.Outcome State Fault Refusal :=
  let o := serviceObj 2
  .next (operate o r (serviceArg kind unit) 1
    { Verdict.ok with bad := unitAbsent kind unit, state := s.obj .serviceMode != 1 || !s.unitOut kind unit || s.unitResetting kind unit }
    (fun s =>
      let good := kind == 5 || Config.freeNat s.free % 2 == 1
      let channelDone (c : Nat) (s : State) : State :=
        setUnit .channel c (fun u => { u with recal := good }) (if good then setChannel c (fun x => { x with trained := true }) s else failChannel c s)
      let s := if kind = 1 then setUnit .core unit (fun u => { u with recal := good }) s
        else if kind = 2 then forAll (coresOf unit) (fun c s => setUnit .core c (fun u => { u with recal := good }) s) (setUnit .cluster unit (fun u => { u with recal := good }) s)
        else if kind = 3 then channelDone unit s
        else if kind = 4 then forAll (stackChannels unit) channelDone s
        else setPort unit (fun p => { p with laneRestore := true }) s
      reply o r (if good then .ok else .integrity) [] (useFree s)) s)

/-- SERVICE_REPLACE (R594, R598): a spare for a core that stays out; other kinds are UNSUPPORTED. -/
def execServiceReplace (r : Req) (kind unit : Nat) (s : State) : Host.Outcome State Fault Refusal :=
  .next (operate (serviceObj 3) r (serviceArg kind unit) 1
    { Verdict.ok with bad := unitAbsent kind unit || kind != 1, state := s.obj .serviceMode != 1 || !s.unitOut kind unit || s.unitResetting kind unit }
    (bringSpare unit (some r)) s)

/-- How many cores of a cluster are enabled. -/
def State.enabledIn (s : State) (k : Nat) : Nat := ((coresOf k).filter (fun c => corePresent c && (s.unit .core c).st == .enabled)).length

/-- A channel returns to service under a new epoch; a failed one serves again (R589, R598, R685). -/
def channelBack (c : Nat) (s : State) : State :=
  let s := advanceEpoch .channel c (setUnit .channel c (fun u => { u with st := .enabled, recal := false }) s)
  if (s.channel c).st = .failed then channelServes c s else s

/-- SERVICE_IN (R589, R594, R598): a core returns under a new epoch, a retired or failed unit only after passing SERVICE_RECAL.  A core
of a cluster that has its enabled count returns as a spare (log 40). -/
def execServiceIn (r : Req) (kind unit : Nat) (s : State) : Host.Outcome State Fault Refusal :=
  let o := serviceObj 4
  let chBad (c : Nat) : Bool := (s.channel c).st == .failed && !(s.unit .channel c).recal
  let unready := if kind = 1 then (s.unit .core unit).retiredRole && !(s.unit .core unit).recal
    else if kind = 3 then chBad unit else if kind = 4 then (stackChannels unit).any chBad else false
  .next (operate o r (serviceArg kind unit) 1
    { Verdict.ok with bad := unitAbsent kind unit, state := s.obj .serviceMode != 1 || !s.unitOut kind unit || s.unitResetting kind unit || unready }
    (fun s =>
      if kind = 1 then
        let st : UnitSt := if s.enabledIn (clusterOf unit) < Config.enabledPerCluster then .enabled else .spare
        reply o r .ok [] (clearCore unit (advanceEpoch .core unit (setUnit .core unit (fun u => { u with st := st, retiredRole := false, recal := false }) s)))
      else if kind = 2 then beginClusterReset unit (some r) (setUnit .cluster unit (fun u => { u with st := .enabled, recal := false }) s)
      else if kind = 3 then reply o r .ok [] (channelBack unit s)
      else if kind = 4 then reply o r .ok [] (forAll (stackChannels unit) channelBack (s.onBoot (fun b => { b with stacksOut := b.stacksOut.filter (· ≠ unit) })))
      else
        let s := s.onBoot (fun b => { b with portsOut := b.portsOut.filter (· ≠ unit) })
        reply o r .ok [] (if s.engineLit unit then detectPort unit s else s)) s)

/-! ### Handshake timeouts (R37, R644 row 2) -/

/-- HANDSHAKE_TIMEOUT (R644 row 2): the receiver that did not answer is reset: kind 2 a cluster, 3 the DRAM PHY island of a stack, 8 the
Baker pair of a die, 7 the fabric island of a die (log 23). -/
def execHandshakeTimeout (kind unit : Nat) (s : State) : Host.Outcome State Fault Refusal :=
  if s.frozen then .next s else
  .next (if !s.bakerUp then s
    else if kind = 2 ∧ unit < 16 then
      let s := timeoutFired 2 2 unit 0 s
      if s.clusterResetting unit then s else beginClusterReset unit none s
    else if kind = 3 ∧ unit < 8 then
      let s := timeoutFired 2 3 (32 * unit) 0 s
      forAll (stackChannels unit) (fun c s => if (s.channel c).st = .serving then retrainChannel c s else s) s
    else if kind = 8 ∧ unit < 2 then startReheat unit (timeoutFired 2 8 unit 0 s)
    else if kind = 7 ∧ unit < 2 then stopDataPath (timeoutFired 2 7 unit 0 s)
    else s)

end Sys2Proof.Machine
end

