-- ==== Sys2Proof/Machine/Partners.lean ====
section
/-!
DEFINITION. Machine/Partners.lean: the commands of partners and contexts: attach, leases, detach, loss, and the pool manager's
context commands (R188 to R233).
-/
namespace Sys2Proof.Machine

/-- A packet row acts on packets of its opcode; another packet changes nothing. -/
def onOp (ok : Bool) (f : State → State) (s : State) : Host.Outcome State Fault Refusal := .next (if ok then f s else s)

/-- The row of PARTNER_GRANTS of an EID: EID, manager allowed, count, contexts (R232). -/
def State.grantRow (s : State) (eid : Nat) : Option Row := (s.table .partnerGrants).find? (fun r => r.fields.getD 0 0 == eid)

/-- The contexts a row of PARTNER_GRANTS lists. -/
def Row.contexts (r : Row) : List Nat := (r.fields.drop 3).take (r.fields.getD 2 0)

/-- CAP of an ATTACH. -/
def attachCap (p : Packet) : Nat := bits (leNat ((p.body.drop 8).take 2)) 0 5
/-- VERSION of an ATTACH. -/
def attachVersion (p : Packet) : Nat := leNat ((p.body.drop 16).take 2)

/-- The failure code of an ATTACH, in the order of R26 (R22, R189): the conditions up to the rights, which R202 also reads. -/
def State.attachRefusal (s : State) (p : Packet) : Option Status :=
  let row := s.grantRow p.src
  if attachVersion p ≠ 0x0100 ∨ attachKind p > 3 then some .unsupported
  else if !s.ready || s.boot.fault || s.standby then some .refusedState
  else if s.obj .attachPolicy = 1 ∧ row.isNone = true then some .rightsFault
  else if bits (attachCap p) 4 1 = 1 ∧ ((row.map (fun r => r.fields.getD 1 0)).getD 0) = 0 then some .rightsFault
  else none

/-- Assign the lowest-numbered Free slot (R190, R204). -/
def attachNew (p : Packet) (s : State) : State :=
  match (List.range 8192).find? (fun n => !ahas s.part.slots n) with
  | none => answerNow p .noSpace s
  | some slot =>
    let r : Slot := { st := .active, eid := p.src, kind := attachKind p, caps := attachCap p, nonce := attachNonce p
                      attachedAt := s.now, renewedAt := s.now, grants := ((s.grantRow p.src).map Row.contexts).getD []
                      detachTags := [], loss := { cause := 0, poisoned := 0, exclusive := 0, shared := 0, coarse := 0, recipes := 0 } }
    holdChange (mirrorSlot slot (some .active)) (.attached slot p) (s.onPart (fun x => { x with slots := aset x.slots slot r }))

/-- A slot is to become Lost (R200, R202). -/
def loseChange (slot cause : Nat) (s : State) : State :=
  if s.changing slot then s else holdChange (mirrorSlot slot (some .lost)) (.lose slot cause) s

/-- A slot is to enter Quarantine. -/
def leaveChange (slot : Nat) (s : State) : State :=
  if s.changing slot then s else holdChange (mirrorSlot slot (some .quarantine)) (.leave slot) s

/-- ATTACH (R188 to R192, R202, R204). -/
def execAttach (port : Nat) (p : Packet) (s : State) : Host.Outcome State Fault Refusal :=
  onOp (p.op == 0x01) (arriveFabric port p (fun p s =>
    let s := onlyIf p.resend (bump .resendsReceived port) s
    let refusal := s.attachRefusal p
    match s.slotOfEid p.src with
    | none => match refusal with
      | some st => answerNow p st s
      | none => attachNew p s
    | some slot =>
      match aget s.part.slots slot with
      | none => s
      | some r =>
        if s.outstanding p.src p.tag then bump (if p.resend then .resendsDroppedInFlight else .tagReuse) port s
        else match (if p.resend then aget s.txn.ledger (slot, p.tag) else none) with
          | some e =>
            if e.fingerprint = p.crc ∧ e.op = p.op then bump .ledgerReplays port (replayResponse p e s)
            else bump .resendMismatches port (answerMismatch p s)
          | none =>
            if r.st = .active ∧ p.resend = true then
              sendAttachAck p slot r.caps (s.onPart (fun x => { x with slots := aset x.slots slot { r with renewedAt := s.now } }))
            else match refusal with
              | some st => answerNow p st s
              | none => answerNow p .retry (if r.st = .active then loseChange slot 3 s else s))) s

/-- HEARTBEAT (R195, R196, R204). -/
def execHeartbeat (port : Nat) (p : Packet) (s : State) : Host.Outcome State Fault Refusal :=
  onOp (p.op == 0x03) (arriveFabric port p (fun p s =>
    let s := onlyIf p.resend (bump .resendsReceived port) s
    match s.slotOfEid p.src with
    | none => bump .unattachedSource port (answerNow p .rightsFault s)
    | some slot =>
      match aget s.part.slots slot with
      | none => s
      | some r =>
        let ack (us : Nat) (s : State) : State := finalGen p.src p.tag (sendPacket (mkPacket 0 0x04 p.src p.dest p.tag 0 us false []) s)
        if r.st = .lost then bump .unattachedSource port (bump .slotUnattached slot (answerNow p .rightsFault s))
        else if s.outstanding p.src p.tag then bump (if p.resend then .resendsDroppedInFlight else .tagReuse) port s
        else if p.harg % 8192 ≠ slot then answerNow p .rightsFault s
        else if r.st = .active then ack 8000 (s.onPart (fun x => { x with slots := aset x.slots slot { r with renewedAt := s.now } }))
        else ack 0 s)) s

/-- DETACH (R198, R199, R204). -/
def execDetach (port : Nat) (p : Packet) (s : State) : Host.Outcome State Fault Refusal :=
  onOp (p.op == 0x05) (arriveFabric port p (fun p s =>
    let s := onlyIf p.resend (bump .resendsReceived port) s
    match s.slotOfEid p.src with
    | none => if p.resend then answerNow p .ok s else bump .unattachedSource port (answerNow p .rightsFault s)
    | some slot =>
      match aget s.part.slots slot with
      | none => s
      | some r =>
        if r.st = .lost then bump .unattachedSource port (bump .slotUnattached slot (answerNow p .rightsFault s))
        else if s.outstanding p.src p.tag then bump (if p.resend then .resendsDroppedInFlight else .tagReuse) port s
        else match (if p.resend then aget s.txn.ledger (slot, p.tag) else none) with
          | some e =>
            if e.fingerprint = p.crc ∧ e.op = p.op then bump .ledgerReplays port (replayResponse p e s)
            else bump .resendMismatches port (answerMismatch p s)
          | none =>
            if p.harg % 8192 ≠ slot then answerNow p .rightsFault s
            else holdChange (mirrorSlot slot (some .detaching)) (.detach slot p.tag) s)) s

/-- DETACH_COMPLETE (R198, R261): once every earlier request is answered, no line is held by precise pointer and no recipe of
the slot is left; lines granted since the DETACH are recalled first.  A standby's slots change by SLOT records alone (R203, R473). -/
def execDetachComplete (slot : Nat) (s : State) : Host.Outcome State Fault Refusal :=
  if s.frozen || s.standby then .next s else
  match aget s.part.slots slot with
  | some r =>
    if r.st = .detaching then
      let s := recallSlot slot s
      let busy := s.txn.reqs.any (fun q => q.slot == slot && q.src == r.eid) || s.traffic.holds.any (fun h => h.1.1 == slot && !h.2.isEmpty)
        || s.recp.recipes.any (fun x => x.slot == slot) || !(s.linesOf slot).isEmpty || s.queuedFor r.eid != 0
      .next (if busy then s else leaveChange slot s)
    else .next (ignoreEvent s)
  | none => .next (ignoreEvent s)

/-- LEASE_EXPIRY (R195, R200, R204, R644): a lease runs in Active only; the timeout is recorded at the EID's port (log 23). -/
def execLeaseExpiry (slot : Nat) (s : State) : Host.Outcome State Fault Refusal :=
  if s.frozen || s.standby then .next s else
  match aget s.part.slots slot with
  | some r =>
    let port := agetD s.txn.pins r.eid 0
    .next (if r.st = .active then settleWaits (timeoutFired 12 4 (if port < 40 then port else 0) slot (loseChange slot 1 s)) else ignoreEvent s)
  | none => .next (ignoreEvent s)

/-- PARTNER_LOSS_WALK_DONE (R200, R258 to R260): both walks and the completion records of the slot's recipes are done. -/
def execPartnerLossWalkDone (slot : Nat) (s : State) : Host.Outcome State Fault Refusal :=
  if s.frozen || s.standby then .next s else
  match aget s.part.slots slot with
  | some r =>
    if r.st = .lost then
      if s.recp.recipes.any (fun x => x.slot == slot) then .next s
      else
        .next (settleWaits (leaveChange slot (forAll (s.linesOf slot) (fun l s => applyLoss l slot s) s)))
    else .next (ignoreEvent s)
  | none => .next (ignoreEvent s)

/-- QUARANTINE_EXPIRY (R201, R204): the slot becomes Free. -/
def execQuarantineExpiry (slot : Nat) (s : State) : Host.Outcome State Fault Refusal :=
  if s.frozen || s.standby then .next s else
  match aget s.part.slots slot with
  | some r => .next (if r.st = .quarantine then (if s.changing slot then s else holdChange (mirrorSlot slot none) (.free slot) s) else ignoreEvent s)
  | none => .next (ignoreEvent s)

/-- E2E_NAK (R172, R180): the pool-issued request it names is resent on Compact; any other is ignored and counted. -/
def execE2eNak (port : Nat) (p : Packet) (s : State) : Host.Outcome State Fault Refusal :=
  onOp (p.op == 0x07) (arriveFabric port p (fun p s =>
    match s.poolReq p.src p.tag with
    | some q =>
      if s.compact port && isFabric (s.portOf q) then bump .e2eNaksReceived port (bump .poolResends (s.portOf q) (sendPacket { q.pkt with resend := true } s))
      else bump .e2eNaksReceived port s
    | none => bump .e2eNaksReceived port s)) s

/-- CTX_INVALIDATE (R219, R223, R233). -/
def execCtxInvalidate (r : Req) (ctx gen : Nat) (s : State) : Host.Outcome State Fault Refusal :=
  .next (operate ctxInvalidateObj r (leBytes 2 ctx ++ leBytes 4 gen) 2 { Verdict.ok with bad := ctx == 0 || decide (ctx ≥ 2 ^ 16) || decide (gen ≥ 2 ^ 32) }
    (fun s => settleWaits (holdChange (mirrorState 0 4 1 (leBytes 2 ctx ++ leBytes 4 gen)) (.generation r ctx gen) s)) s)

/-- RECALL_RANGE (R221, R296): every line of the range is visited once, those of a granule in FILLING after the fill.  The copy that a standby
gets visits none: a standby sends no snoop (R473; log 162). -/
def execRecallRange (r : Req) (pa length : Nat) (s : State) : Host.Outcome State Fault Refusal :=
  .next (operate recallRangeObj r (leBytes 8 pa ++ leBytes 8 length) 8 { Verdict.ok with bad := pa % 128 != 0 || length % 128 != 0 }
    (fun s =>
      let within (l : Nat) : Bool := decide (pa ≤ l * 128) && decide (l * 128 < pa + length)
      let held := if s.copyHere r then [] else ((s.dir.entries.map Prod.fst) ++ s.deep.fills.flatMap (fun f => granuleLines f.granule)).eraseDups.filter within
      settleWaits (s.onPart (fun p => { p with rangeWaits := p.rangeWaits ++ [{ req := r, lines := held, visited := [] }] }))) s)

/-- PARTNER_EVICT (R200, R232): Active or Detaching to Lost; any other state is refused.  The copy that a standby gets changes nothing
there: the SLOT record does (R469, R473; log 162). -/
def execPartnerEvict (r : Req) (slot : Nat) (s : State) : Host.Outcome State Fault Refusal :=
  let live := match aget s.part.slots slot with | some x => x.st == .active || x.st == .detaching | none => false
  .next (operateOk (cmdObj 0x1420 3 (roleOp + rolePm)) r (leBytes 2 slot) 2 { Verdict.ok with state := !live && !s.copyHere r }
    (fun s => if s.copyHere r then s else settleWaits (loseChange slot 2 s)) s)

/-- FQ_OVERFLOW_CLEAR (R228). -/
def execFqOverflowClear (r : Req) (ctx : Nat) (s : State) : Host.Outcome State Fault Refusal :=
  .next (operateOk (cmdObj 0x1420 4 rolePm) r (leBytes 2 ctx) 2 Verdict.ok
    (fun s => s.onPart (fun p => { p with fqSticky := p.fqSticky.filter (· ≠ ctx) })) s)

end Sys2Proof.Machine
end

