-- ==== Sys2Proof/Machine/Coherence.lean ====
section
/-!
DEFINITION. Machine/Coherence.lean: the commands of partners' requests, their data halves, snoop answers, and their order at
the home directories (R143 to R187, R234 to R268).
-/
namespace Sys2Proof.Machine

/-- RD_SHARED (R224, R235, R250). -/
def execRdShared (port : Nat) (p : Packet) (s : State) : Host.Outcome State Fault Refusal := onOp (p.op == 0x10) (arriveRequest port p) s
/-- RD_UNIQUE (R224, R235, R250). -/
def execRdUnique (port : Nat) (p : Packet) (s : State) : Host.Outcome State Fault Refusal := onOp (p.op == 0x11) (arriveRequest port p) s
/-- RD_ONCE (R224, R250). -/
def execRdOnce (port : Nat) (p : Packet) (s : State) : Host.Outcome State Fault Refusal := onOp (p.op == 0x12) (arriveRequest port p) s
/-- WR_LINE (R47, R160, R224). -/
def execWrLine (port : Nat) (p : Packet) (s : State) : Host.Outcome State Fault Refusal := onOp (p.op == 0x13) (arriveRequest port p) s
/-- WR_PART (R48, R160, R161, R224). -/
def execWrPart (port : Nat) (p : Packet) (s : State) : Host.Outcome State Fault Refusal := onOp (p.op == 0x14) (arriveRequest port p) s
/-- WRITEBACK (R160, R224, R252). -/
def execWriteback (port : Nat) (p : Packet) (s : State) : Host.Outcome State Fault Refusal :=
  onOp (p.op == 0x15) (fun s => settleWaits (arriveRequest port p s)) s
/-- EVICT_CLEAN (R224, R252). -/
def execEvictClean (port : Nat) (p : Packet) (s : State) : Host.Outcome State Fault Refusal :=
  onOp (p.op == 0x16) (fun s => settleWaits (arriveRequest port p s)) s
/-- UPGRADE (R224, R250). -/
def execUpgrade (port : Nat) (p : Packet) (s : State) : Host.Outcome State Fault Refusal := onOp (p.op == 0x17) (arriveRequest port p) s
/-- ATOMIC (R160, R162, R224). -/
def execAtomic (port : Nat) (p : Packet) (s : State) : Host.Outcome State Fault Refusal := onOp (p.op == 0x18) (arriveRequest port p) s
/-- RT_READ (R191, R224, R283). -/
def execRtRead (port : Nat) (p : Packet) (s : State) : Host.Outcome State Fault Refusal := onOp (p.op == 0x60) (arriveRequest port p) s

/-- WR_DATA (R160, R163). -/
def execWrData (port : Nat) (p : Packet) (s : State) : Host.Outcome State Fault Refusal := onOp (p.op == 0x40) (arriveHalf port p) s
/-- WB_DATA (R160, R252). -/
def execWbData (port : Nat) (p : Packet) (s : State) : Host.Outcome State Fault Refusal :=
  onOp (p.op == 0x41) (fun s => settleWaits (arriveHalf port p s)) s
/-- ATOMIC_OPND (R160, R162). -/
def execAtomicOpnd (port : Nat) (p : Packet) (s : State) : Host.Outcome State Fault Refusal := onOp (p.op == 0x43) (arriveHalf port p) s

/-- SNP_DATA (R160, R239): taken with the SNP_RSP that announced it, or kept until that comes. -/
def execSnpData (port : Nat) (p : Packet) (s : State) : Host.Outcome State Fault Refusal :=
  onOp (p.op == 0x42) (arriveFabric port p (fun p s =>
    let due := match s.slotOfEid p.src, s.poolReq p.src p.tag with
      | some slot, some q => ((aget s.dir.recalls q.key).bind (fun r => r.dataDue.find? (fun x => x.1 == slot))).map (fun x => (q.key, x))
      | _, _ => none
    match due with
    | some (line, slot, rsp) => settleWaits (withRecall line (takeSnoopData line slot rsp p) s)
    | none => s.onTxn (fun t => { t with halves := t.halves ++ [(port, p)] }))) s

/-- SNP_RSP (R239, R253). -/
def execSnpRsp (port : Nat) (p : Packet) (s : State) : Host.Outcome State Fault Refusal :=
  onOp (p.op == 0x22) (arriveFabric port p (fun p s => snoopAnswer port p (fun slot line r q s =>
    let (st, bad) := snoopState r.down (bits p.harg 0 2)
    let s := onlyIf bad (bump .badSnoopStates (homeDie (line * 128))) s
    if bits p.harg 2 1 = 1 then
      match s.txn.halves.find? (fun h => h.2.op == 0x42 && h.2.src == p.src && h.2.tag == p.tag) with
      | some h => withRecall line (takeSnoopData line slot p h.2) (s.onTxn (fun t => { t with halves := t.halves.erase h }))
      | none => s.onDir (fun d => { d with recalls := d.recalls.map (fun e => if e.1 = line then (e.1, { e.2 with dataDue := e.2.dataDue ++ [(slot, p)] }) else e) })
    else
      let s := onlyIf (s.jobOf p.src).isSome (advanceGen p.src 1 p.tag) s
      withRecall line (answerState line slot st) (endPool q s)) s)) s

/-- CROSSED (R252, R253): the slot's eviction is awaited; one that can be taken is taken. -/
def execCrossed (port : Nat) (p : Packet) (s : State) : Host.Outcome State Fault Refusal :=
  onOp (p.op == 0x23) (arriveFabric port p (fun p s => snoopAnswer port p (fun slot line _ q s =>
    let s := bump .crossed (homeDie (line * 128)) (endPool q s)
    let s := onlyIf (s.jobOf p.src).isSome (advanceGen p.src 1 p.tag) s
    match s.takeable slot line with
    | some v => withRecall line (fun s => settleSlot line slot (takeEviction v s)) s
    | none => s.onDir (fun d => { d with recalls := d.recalls.map (fun e => if e.1 = line then (e.1, { e.2 with crossed := e.2.crossed ++ [slot] }) else e) })) s)) s

/-- STASH_RSP (R255): HARG[0] = 0 declines the stash. -/
def execStashRsp (port : Nat) (p : Packet) (s : State) : Host.Outcome State Fault Refusal :=
  onOp (p.op == 0x25) (arriveFabric port p (fun p s =>
    match s.poolReq p.src p.tag with
    | some q =>
      if q.issuer = .stash then
        let s := onlyIf (s.jobOf p.src).isSome (advanceGen p.src 1 p.tag) (endPool q s)
        onlyIf (bits p.harg 0 1 == 0) (bump .stashDeclined (homeDie (q.key * 128))) s
      else s
    | none => s)) s

/-- REQUEST_ORDERED (R167, R178, R250). -/
def execRequestOrdered (src tag : Nat) (s : State) : Host.Outcome State Fault Refusal :=
  if s.frozen then .next s else
  match s.request src tag with
  | some q => .next (if q.phase = .parked then s else if q.op = 0x50 then retryRecipe q s else settleWaits (orderRequest q false s))
  | none => .next s

/-- RECALL_DEADLINE (R253, R268): the slots that have not answered are removed; a Modified line whose holder is one of them is
poisoned, and so is a line whose entry was lost (R325); their snoops end (R180). -/
def execRecallDeadline (line : Nat) (s : State) : Host.Outcome State Fault Refusal :=
  if s.frozen then .next s else
  match aget s.dir.recalls line, s.entry line with
  | some r, some e =>
    let die := homeDie (line * 128)
    let hit := e.lost || (e.st == .modified && !e.coarse && r.awaited.any (fun a => e.ptrs.contains a))
    let s := onlyIf hit (fun s => bump .linesPoisonedByRecall die (poisonLine line (if e.lost then 3 else 2) s)) s
    let s := timeoutFired 6 5 (sliceOf line) (line * 128) (bump .recallTimeouts die s)
    let s := forAll r.awaited (fun a s => notifyLimited 0x1501 a 10000000 (fun _ => leBytes 8 (line * 128) ++ leBytes 2 a ++ leBytes 1 (if hit then 1 else 2)) s) s
    let eids := r.awaited.filterMap (fun a => (aget s.part.slots a).map Slot.eid)
    let s := dropPool (fun i dest key => i == .snoop && key == line && eids.contains dest) s
    .next (settleWaits (withRecall line (fun s => forAll r.awaited (fun a s =>
      settleSlot line a (match s.entry line with
        | some e => if e.coarse then s else putEntry line (e.without a) s
        | none => s)) s) s))
  | _, _ => .next s

/-- PARKED_PRESENT (R256, R257): what is parked at a free line is presented in order. -/
def execParkedPresent (line : Nat) (s : State) : Host.Outcome State Fault Refusal :=
  if s.frozen then .next s else
  if s.recalling line then .next s
  else .next (settleWaits (forAll (s.parkedAt line) (fun x s =>
    match x with
    | .request q => (match s.request q.src q.tag with
      | some q => if q.phase = .parked then orderRequest q true s else s
      | none => s)
    | .access a => if s.dir.accesses.contains a then presentAccess a s else s) s))

/-- PAIRING_TIMEOUT (R160): an unpaired request is answered TIMEOUT; an unpaired data half is discarded. -/
def execPairingTimeout (src tag : Nat) (s : State) : Host.Outcome State Fault Refusal :=
  if s.frozen then .next s else
  match s.request src tag with
  | some q =>
    if needsHalf q.op && q.data.isNone && !q.ordered then .next (settleWaits (timeoutFired 5 4 q.port tag (bump .pairingTimeouts q.port (finishStatus q .timeout 0 false s))))
    else .next s
  | none =>
    match s.txn.halves.find? (fun h => h.2.src == src && h.2.tag == tag) with
    | some h =>
      .next (timeoutFired 5 4 h.1 tag (bump .unpairedData h.1 (s.onTxn (fun t => { t with halves := t.halves.erase h }))))
    | none => .next (s.onTxn (fun t => { t with released := t.released.filter (fun x => !(x.src == src && x.tag == tag)) }))

/-- REQUEST_WITHDRAW (R178): a request not ordered is answered TIMEOUT and ordered nowhere. -/
def execRequestWithdraw (src tag : Nat) (s : State) : Host.Outcome State Fault Refusal :=
  if s.frozen then .next s else
  match s.request src tag with
  | some q =>
    if q.ordered then .next s
    else
      let s := s.onDeep (fun d => { d with waiting := d.waiting.filter (fun w => !(w.2.2.1 == src && w.2.2.2 == tag)) })
      let s := onlyIf (needsHalf q.op && q.data.isNone) (releaseHalf q.pkt false) s
      .next (settleWaits (settleAged q.line (timeoutFired 9 4 q.port tag (finishStatus q .timeout 0 false s))))
  | none => .next s

/-- UNROUTABLE_TIMEOUT (R150): the oldest packet that waits without a pin for the destination is discarded. -/
def execUnroutableTimeout (dest : Nat) (s : State) : Host.Outcome State Fault Refusal :=
  if s.frozen then .next s else
  let waiting := s.traffic.leaves.flatMap (fun e => if e.1.port = noPin then e.2.filter (fun q => q.pkt.dest == dest) else [])
  match waiting with
  | [] => .next s
  | q :: qs =>
    let oldest := qs.foldl (fun a b => if b.at_ < a.at_ then b else a) q
    .next (bump .unroutable 0 (s.onTraffic (fun t => { t with leaves := t.leaves.map (fun e => if e.1.port = noPin then (e.1, e.2.erase oldest) else e) })))

/-- POOL_RESEND (R180): on Compact a pool-issued request is sent again with RESEND. -/
def execPoolResend (dest tag : Nat) (s : State) : Host.Outcome State Fault Refusal :=
  if s.frozen then .next s else
  match s.poolReq dest tag with
  | some q =>
    if isFabric (s.portOf q) && s.compact (s.portOf q) then .next (bump .poolResends (s.portOf q) (sendPacket { q.pkt with resend := true } s)) else .next s
  | none => .next s

/-- DIRECTORY_LOOKUP (R267, R268). -/
def execDirectoryLookup (r : Req) (pa : Nat) (s : State) : Host.Outcome State Fault Refusal :=
  let o := cmdObj 0x1520 1 (roleOp + roleDebug)
  .next (operate o r (leBytes 8 pa) 8 { Verdict.ok with bad := pa % 128 != 0 || !s.paPresent pa 1 }
    (fun s => reply o r .ok (leBytes 1 (homeDie pa) ++ leBytes 16 (((s.entry (pa / 128)).map DirEntry.bits).getD 0)
      ++ leBytes 16 (((aget s.dir.regions (regionOf (pa / 128))).map Region.bits).getD 0)) s) s)

/-- MALFORMED_PACKET (R157, R158): an opcode that is reserved or not valid on its port, or a shape its opcode does not have. -/
def execMalformedPacket (port : Nat) (p : Packet) (s : State) : Host.Outcome State Fault Refusal :=
  if isFabric port then onOp ((opShape p.op).isNone || p.malformed) (arriveFabric port p (fun _ s => s)) s
  else onOp (p.linkMalformed port) (arriveLink port p (fun _ s => s)) s

/-- TIME_SYNC_SEND (R183 to R185): on DP ports always, on fabric ports as the time root. -/
def execTimeSyncSend (port : Nat) (s : State) : Host.Outcome State Fault Refusal :=
  if s.frozen then .next s else
  let root := s.obj .timeRoot == 1
  let parent := s.txn.timeParent.bind (fun p => aget s.txn.timeRx p)
  let (valid, hops) := if root then (true, 0) else match parent with
    | some r => (true, r.hops + 1)
    | none => (false, 255)
  if (s.port port).st = .active ∧ (isDeepPort port = true ∨ (isFabric port = true ∧ root = true)) then
    let t := s.timeOf (dieOfPort port)
    .next (setPort port (fun q => { q with control := q.control ++ [leBytes 16 (0x10 + (if valid then 256 else 0) + hops % 256 * 2 ^ 16 + t % 256 * 2 ^ 56 + t / 256 * 2 ^ 64)] }) s)
  else .next s

end Sys2Proof.Machine
end

