-- ==== Sys2Proof/Machine/Deep.lean ====
section
/-!
DEFINITION. Machine/Deep.lean: the commands of the deep tier (R295 to R312, R316, R317), and the timeout of a pool-issued request (R180).
-/
namespace Sys2Proof.Machine

/-- A packet from a sled: on a deep-tier port, for the node EID (R151). -/
def arriveDeep (op port : Nat) (p : Packet) (go : Nat → Packet → State → State) (s : State) : State :=
  if p.op ≠ op ∨ !isDeepPort port then s else arriveLink port p (fun p s => go (port - 32) p s) s

/-- The request to a sled that an answer belongs to. -/
def State.sledReq (s : State) (port tag : Nat) (reads : Bool) : Option PoolReq :=
  s.txn.pool.find? (fun q => q.issuer == .deep && q.port == port && q.tag == tag && (q.pkt.op == 0x80) == reads)

/-- DT_INFO_DATA (R305, R309): the sled's capacity, owner, spare and health; the sled is claimed where R309 says. -/
def execDtInfoData (port : Nat) (p : Packet) (s : State) : Host.Outcome State Fault Refusal :=
  .next (arriveDeep 0x81 port p (fun sled p s =>
    match s.sledReq port p.tag true with
    | none => s
    | some q =>
      let a := leNat (p.body.take 16)
      let s := setSled sled (fun x => { x with present := true, reachable := true, capacity := bits a 0 32, ownerEid := bits a 32 18, ownerEpoch := bits a 64 32
                                               spare := bits a 96 8, health := bits a 104 8, eid := p.src }) (endPool q s)
      claimAfterInfo sled (onlyIf (decide (bits a 96 8 < s.obj .sledSpareWarn)) (exhaust 7 sled) s)) s)

/-- DT_READ_DATA (R295, R303): two units of a fill are checked and written into the frame; waiting reads of their lines are served. -/
def execDtReadData (port : Nat) (p : Packet) (s : State) : Host.Outcome State Fault Refusal :=
  .next (arriveDeep 0x88 port p (fun _ p s =>
    match s.deep.fills.find? (fun f => dpPort (granuleSled f.granule) == port && f.tag == p.tag) with
    | none => s
    | some f =>
      let u := p.harg / 2 * 2
      let a := p.body.take 128
      let b := (p.body.drop 128).take 128
      if u ≥ 544 then s
      else if u ≥ 512 then
        completeFill f.granule (setFill f.granule (fun f => { f with metas := aset (aset f.metas (u - 512) (p.poison, a)) (u - 511) (p.poison, b) }) s)
      else if (aget f.metas (u / 16)).isNone ∨ f.arrived.contains u then s
      else
        let s := placeLine f (u + 1) p.poison b (placeLine f u p.poison a s)
        let s := setFill f.granule (fun f => { f with arrived := f.arrived ++ [u, u + 1] }) s
        settleWaits (completeFill f.granule (wakeGranule f.granule s))) s)

/-- DT_CMP (R300, R307 to R310, R486). -/
def execDtCmp (port : Nat) (p : Packet) (s : State) : Host.Outcome State Fault Refusal :=
  .next (arriveDeep 0x86 port p (fun sled p s =>
    match s.sledReq port p.tag false with
    | none => s
    | some q => settleWaits (sledAnswer sled q (Status.ofCode p.status) s)) s)

/-- DEEP_MISSING_UNITS (R307): 100 µs after DT_CMP with units missing the granule is read once more; then they are poisoned. -/
def execDeepMissingUnits (cluster set way : Nat) (s : State) : Host.Outcome State Fault Refusal :=
  if s.frozen then .next s else
  .next (match s.deep.fills.find? (fun f => f.cluster == cluster && f.set == set && f.way == way) with
  | none => s
  | some f =>
    if !f.done || (f.arrived.length == 512 && f.metas.length == 32) then s
    else if !f.reread then
      let sled := granuleSled f.granule
      let tag := s.freeTag (s.sled sled).eid
      setFill f.granule (fun f => { f with reread := true, done := false, tag := tag })
        (sendDt sled 1 0x83 f.first f.granule (dtSlot (granuleLocal f.granule) (s.sledEpoch sled) 0) s)
    else
      let missing := (List.range 512).filter (fun i => !f.arrived.contains i)
      let s := forAll missing (fun i s => placeLine f i true (List.replicate 128 0) s) s
      let s := setFill f.granule (fun f => { f with arrived := f.arrived ++ missing, metas := (List.range 32).map (fun j => (j, agetD f.metas j (true, []))) }) s
      settleWaits (completeFill f.granule s))

/-- DIRTY_AGE_EXPIRY (R299, R300, R308): a dirty frame of its age is written back, one whose last writeback failed as well. -/
def execDirtyAgeExpiry (cluster set way : Nat) (s : State) : Host.Outcome State Fault Refusal :=
  if s.frozen then .next s else
  .next (if tagHas (s.tag cluster set way) tagDirty then
      runQueue (queueWriteback cluster set way (s.onDeep (fun d => { d with failed := d.failed.filter (fun x => x != (cluster, set, way)) })))
    else s)

/-- DEEP_WAIT_RESUME (R295, R298): the requests of a cluster's deep wait queue are tried again, and the bulk command goes on. -/
def execDeepWaitResume (cluster : Nat) (s : State) : Host.Outcome State Fault Refusal :=
  if s.frozen then .next s else
  .next (settleWaits (bulkStep (forAll (s.deep.waiting.filter (fun w => w.1 == cluster)) (fun w s =>
    match s.request w.2.2.1 w.2.2.2 with
    | some q => orderRequest q false s
    | none => s) s)))

/-- SLED_WAIT_TIMEOUT (R312): misses have waited 2 ms for a port that is Down; one SLED_UNREACHABLE. -/
def execSledWaitTimeout (sled : Nat) (s : State) : Host.Outcome State Fault Refusal :=
  if s.frozen then .next s else
  .next (if sled > 3 ∨ s.reachable sled then s
    else
      let bulk := match s.deep.bulk with | some b => b.granules | none => []
      let gs := ((s.deep.waiting.map (fun w => w.2.1) ++ s.deep.seekers.map Prod.fst ++ bulk).filter (fun g =>
        granuleSled g == sled && (s.frameWay (granulePa g)).isNone)).eraseDups
      let s := forAll gs (fun g s => failWaiting g .timeout s) s
      settleWaits (if (s.sled sled).reachable then notify 0x1602 (leBytes 1 sled) (setSled sled (fun x => { x with reachable := false }) s) else s))

/-- What R317 refuses of a bulk command over a range. -/
def bulkVerdict (s : State) (pa length : Nat) : Verdict :=
  let last := pa + length - 1
  { Verdict.ok with
    bad := pa % 65536 != 0 || length % 65536 != 0 || length == 0 || !isDeepPa pa || !isDeepPa last || s.deep.units == 0
      || (List.range (sledOf last + 1)).any (fun n => decide (sledOf pa ≤ n) && !(s.sled n).present)
    fenced := s.standby }

/-- Start a bulk command over a range (R301): one runs at a time. -/
def startBulk (which : Nat) (r : Req) (pa length : Nat) (s : State) : State :=
  let g := granuleOf pa
  let n := length / 65536
  operate (cmdObj 0x1630 which rolePm) r (leBytes 8 pa ++ leBytes 8 length) 8 { bulkVerdict s pa length with state := s.deep.bulk.isSome }
    (fun s => settleWaits (bulkStep (s.onDeep (fun d =>
      { d with bulk := some { req := r, which := which, granules := (List.range n).map (fun i => g + i), first := g, count := n, sled := 0, noSpace := false, aborted := false } })))) s

/-- DEEP_PIN (R301). -/
def execDeepPin (r : Req) (pa length : Nat) (s : State) : Host.Outcome State Fault Refusal := .next (startBulk 1 r pa length s)
/-- DEEP_PREFETCH (R301). -/
def execDeepPrefetch (r : Req) (pa length : Nat) (s : State) : Host.Outcome State Fault Refusal := .next (startBulk 3 r pa length s)
/-- DEEP_TRIM (R301). -/
def execDeepTrim (r : Req) (pa length : Nat) (s : State) : Host.Outcome State Fault Refusal := .next (startBulk 5 r pa length s)

/-- DEEP_UNPIN (R301): PIN is cleared at once, beside any other bulk command. -/
def execDeepUnpin (r : Req) (pa length : Nat) (s : State) : Host.Outcome State Fault Refusal :=
  .next (operateOk (cmdObj 0x1630 2 rolePm) r (leBytes 8 pa ++ leBytes 8 length) 8 (bulkVerdict s pa length)
    (fun s => forAll ((List.range (length / 65536)).map (fun i => granuleOf pa + i)) (fun g s =>
      match s.frameWay (granulePa g) with
      | some w =>
        let t := s.tag (granuleCluster g) (s.frameSet g) w
        if tagHas t tagPin then setTag (granuleCluster g) (s.frameSet g) w (tagPut t tagPin false) s else s
      | none => s) s) s)

/-- DEEP_FLUSH (R301): every dirty frame, or those of one sled, is written back. -/
def execDeepFlush (r : Req) (sled : Nat) (s : State) : Host.Outcome State Fault Refusal :=
  .next (operate (cmdObj 0x1630 4 (roleOp + rolePm)) r (leBytes 1 sled) 1
    { bad := (sled != 0xFF && (decide (sled > 3) || !(s.sled sled).present)) || s.deep.units == 0, fenced := s.standby, state := s.deep.bulk.isSome, other := none }
    (fun s => settleWaits (bulkStep (s.onDeep (fun d =>
      { d with bulk := some { req := r, which := 4, granules := [], first := 0, count := 0, sled := sled, noSpace := false, aborted := false } })))) s)

/-- SLED_CLAIM_FORCE (R309): a solo Varisk claims with OWNER_EPOCH + 1. -/
def execSledClaimForce (r : Req) (sled : Nat) (s : State) : Host.Outcome State Fault Refusal :=
  .next (operateOk (cmdObj 0x1630 6 roleOp) r (leBytes 1 sled) 1
    { Verdict.ok with bad := decide (sled > 3) || !(s.sled sled).present || s.twin.st != .solo }
    (fun s => sendClaim sled ((s.sled sled).ownerEpoch + 1) (setSled sled (fun x => { x with fenced := false }) s)) s)

/-- POOL_REQUEST_TIMEOUT (R180, R307, R308, R323, R644): the request ends TIMEOUT toward the unit that issued it. -/
def execPoolRequestTimeout (dest tag : Nat) (s : State) : Host.Outcome State Fault Refusal :=
  if s.frozen then .next s else
  .next (match s.poolReq dest tag with
  | none => s
  | some q =>
    let s := timeoutFired 8 4 (s.portOf q) tag (bump .poolTimeouts (s.portOf q) s)
    match q.issuer with
    | .deep => settleWaits (sledAnswer (q.port - 32) q .timeout s)
    | .repair => settleWaits (endRepair q.key false (endPool q s))
    | _ => endPool q s)

end Sys2Proof.Machine
end

