-- ==== Sys2Proof/Machine/Dram.lean ====
section
/-!
DEFINITION. Machine/Dram.lean: the commands of the DRAM channels, patrol scrub and the error records (R275 to R290, R328 to R331,
R342 to R351).
-/
namespace Sys2Proof.Machine

/-- A stack on its way to Nap or Doze pulls in the refreshes of its banks, 8 intervals each (R282, R536 step 2). -/
def pullIn (ch pseudo : Nat) (s : State) : State :=
  let asleep : Bool := match (s.punit (16 + ch / 32)).move with
    | .entering t => t == .nap || t == .doze
    | .enteringWake t => t == .nap || t == .doze
    | _ => false
  if !asleep then s
  else match (List.range 16).find? (fun b => decide (agetD (s.channel ch).refreshDue (pseudo * 16 + b) 0 > -8) && !(s.channel ch).bankBusy pseudo b) with
    | some b => refreshBank ch pseudo b s
    | none => s

/-- DRAM_COMMAND_SLOT (R278, R279, R281, R282): requests move into their bank queues; a refresh at its limit, the picked request, or a
refresh that is due is issued. -/
def execDramCommandSlot (channel pseudo : Nat) (s : State) : Host.Outcome State Fault Refusal :=
  if s.frozen then .next s else
  if !s.channelRuns channel then .next s else
  if !s.stackOpen channel then .next (pullIn channel pseudo s) else
  let s := panicUpdate channel (setChannel channel (fun c => c.enter.moveAll c.reqs.length) s)
  let c := s.channel channel
  let due (n : Int) (b : Nat) : Bool := decide (agetD c.refreshDue (pseudo * 16 + b) 0 ≥ n) && !c.bankBusy pseudo b
  match (List.range 16).find? (due 8) with
  | some b => .next (refreshBank channel pseudo b s)
  | none =>
    match c.pick pseudo with
    | some r => .next (issueDram channel r s)
    | none => match (List.range 16).find? (due 1) with
      | some b => .next (refreshBank channel pseudo b s)
      | none => .next s

/-- DRAM_DATA_RETURN (R37, R289, R320 to R322): the data of a read, checked with the symbols in error, or the acknowledgement of a write;
outputs of an island that is off are ignored. -/
def execDramDataReturn (channel id : Nat) (errors : List (Nat × Nat)) (s : State) : Host.Outcome State Fault Refusal :=
  if s.frozen || !s.powerGood (16 + channel / 32) then .next s else
  match (s.channel channel).reqs.find? (fun r => r.id == id && r.issued) with
  | none => .next s
  | some r =>
    let s := setChannel channel (fun c => { c with reqs := c.reqs.filter (fun x => x.id ≠ id) }) s
    if r.write then .next (bump .chWrites channel s)
    else .next (settleWaits (bulkStep (lineRead r.line errors r.cause (bump .chReads channel s))))

/-- REFRESH_INTERVAL (R280 to R282, R640): one more interval of the bank is due; in Deep the stack refreshes itself, and in a debug stop the
PHY's retention domain issues the refresh at once. -/
def execRefreshInterval (channel pseudo bank : Nat) (s : State) : Host.Outcome State Fault Refusal :=
  if (s.punit (16 + channel / 32)).st = .deep ∨ s.frozen = true then .next s
  else
    let n := agetD (s.channel channel).refreshDue (pseudo * 16 + bank) 0 + 1
    .next (onlyIf (n == 8) (bump .chPostponed channel) (setChannel channel (fun c => { c with refreshDue := aset c.refreshDue (pseudo * 16 + bank) (min n 8) }) s))

/-- DRAM_COMMAND_TIMEOUT (R289, R290): the channel retrains; what it holds is held. -/
def execDramCommandTimeout (channel id : Nat) (s : State) : Host.Outcome State Fault Refusal :=
  if s.frozen then .next s else
  match (s.channel channel).reqs.find? (fun r => r.id == id && r.issued) with
  | none => .next s
  | some r =>
    if (s.channel channel).st = .serving then
      .next (retrainChannel channel (timeoutFired 1 3 channel (r.line * 128) (bump .chTimeouts channel s)))
    else .next s

/-- The object of CHANNEL_RETRAIN (R316). -/
def channelRetrainObj : OpObj := cmdObj 0x1630 7 roleOp

/-- CHANNEL_RETRAIN_DONE (R289, R290, R316, R685): the channel serves again, or is failed; a command's full training is answered
(the code for one that fails is not given; log 24). -/
def execChannelRetrainDone (channel : Nat) (ok : Bool) (s : State) : Host.Outcome State Fault Refusal :=
  if s.frozen then .next s else
  let c := s.channel channel
  if c.st = .serving ∧ c.fullTrain.isNone = true then .next s else
  let s := setChannel channel (fun c => { c with fullTrain := none }) s
  let s := if ok then (if c.st = .failed ∧ c.fullTrain.isNone = true then s else channelServes channel s)
    else answerFailed channel (failChannel channel s)
  match c.fullTrain with
  | some r => .next (reply channelRetrainObj r (if ok then .ok else .integrity) [] s)
  | none => .next s

/-- PANIC_CAP (R285): panic held for 100 µs is dropped for 10 µs. -/
def execPanicCap (channel : Nat) (mirror : Bool) (s : State) : Host.Outcome State Fault Refusal :=
  if s.frozen then .next s else
  let c := s.channel channel
  let p := if mirror then c.panicMir else c.panicVc6
  if p = .on then
    let k := if mirror then 1 else 0
    .next (bump .chPanicCapped channel (bumpBy .chPanicNs (channel * 2 + k) (s.now - agetD c.panicSince k s.now)
      (setChannel channel (fun c => if mirror then { c with panicMir := .capped } else { c with panicVc6 := .capped }) s)))
  else .next s

/-- PANIC_RESUME (R285): panic resumes if the port's level still requires it. -/
def execPanicResume (channel : Nat) (mirror : Bool) (s : State) : Host.Outcome State Fault Refusal :=
  if s.frozen then .next s else
  let c := s.channel channel
  let p := if mirror then c.panicMir else c.panicVc6
  if p = .capped then
    let lvl := c.level (if mirror then .rtMirror else .rtVc6)
    let new : Panic := if lvl > s.obj .panicOff then .on else .off
    let k := if mirror then 1 else 0
    .next (setChannel channel (fun c => { (if mirror then { c with panicMir := new } else { c with panicVc6 := new }) with panicSince := aset c.panicSince k s.now }) s)
  else .next s

/-- DRIFT_TRACK (R288): the channel re-centres its read timing. -/
def execDriftTrack (channel : Nat) (s : State) : Host.Outcome State Fault Refusal :=
  if s.frozen then .next s else
  .next (onlyIf (s.channelRuns channel) (setChannel channel (fun c => { c with drift := c.drift + 1 })) s)

/-- CHANNEL_RETRAIN (R286, R316): full training of a channel; its requests are held until CHANNEL_RETRAIN_DONE. -/
def execChannelRetrain (r : Req) (channel : Nat) (s : State) : Host.Outcome State Fault Refusal :=
  .next (operate channelRetrainObj r (leBytes 1 (channel / 32) ++ leBytes 1 (channel % 32)) 1 { Verdict.ok with bad := decide (channel ≥ 256) }
    (fun s => crumb 3 channel 9 0 (setChannel channel (fun c => { c with fullTrain := some r, st := if c.st = .failed then .failed else .retraining }) s)) s)

/-! ### Patrol scrub (R328 to R331) -/

/-- One more line of a channel's pass is done; the last starts the next pass (R328). -/
def scrubStep (ch : Nat) (s : State) : State :=
  let n := agetD s.integ.scrubDone ch 0 + 1
  if n ≥ linesPerChannel then
    s.onInteg (fun g => { g with scrubDone := aset g.scrubDone ch 0, passStart := aset g.passStart ch s.now, passNo := amod g.passNo ch 0 (· + 1) })
  else s.onInteg (fun g => { g with scrubDone := aset g.scrubDone ch n })

/-- SCRUB_LINE (R275, R328 to R330): a line of DRAM is due: a dirty pantry copy is written to DRAM, any other line is read and checked. -/
def execScrubLine (pa : Nat) (s : State) : Host.Outcome State Fault Refusal :=
  if s.frozen then .next s else
  let l := pa / 128
  let ch := channelOfPa pa
  if s.obj .scrubEnable = 0 ∨ pa ≥ dramTop ∨ s.channelRuns ch = false then .next s else
  let s := scrubStep ch s
  let m := s.lineMeta l
  .next (if m.inPantry && m.dirty then dramPush l true .normal .scrub (setMeta l (fun m => { m with dirty := false }) s)
    else dramPush l false .normal .scrub s)

/-- DECODER_SELFTEST_HOURLY (R346): a failure fails the channel; it is logged and notified as a self-test failure (R344). -/
def execDecoderSelftestHourly (channel : Nat) (ok : Bool) (s : State) : Host.Outcome State Fault Refusal :=
  if s.frozen then .next s else
  if ok then .next s
  else
    let s := s.onInteg (fun g => { g with selfTest := aset g.selfTest (3, channel) (3, s.now) })
    let s := notifyLimited 0x1707 (3 * 65536 + channel) 10000000 (fun _ => leBytes 1 3 ++ leBytes 2 channel ++ leBytes 1 3) (logError 9 6 channel 0 0 0 channel s)
    .next (answerFailed channel (failChannel channel s))

/-- ERROR_LOG_CLEAR (R350): empties the log; counters stay. -/
def execErrorLogClear (r : Req) (s : State) : Host.Outcome State Fault Refusal :=
  .next (operateOk (cmdObj 0x1740 1 roleOp) r [] 0 Verdict.ok (fun s => s.onInteg (fun g => { g with log := [] })) s)

/-- DEEP_SET_RELEASE (R342, R351): the tag line is rewritten with every tag invalid. -/
def execDeepSetRelease (r : Req) (cluster set : Nat) (s : State) : Host.Outcome State Fault Refusal :=
  .next (operateOk (cmdObj 0x1740 2 roleOp) r (leBytes 1 cluster ++ leBytes 4 set) 1 { Verdict.ok with state := !s.quarantined cluster set }
    (fun s =>
      let l := s.tagLinePa cluster set / 128
      commitRaw l (List.replicate 128 0) LineMeta.reset (s.onDeep (fun d => { d with quarantined := d.quarantined.filter (· != (cluster, set)) }))) s)

/-- POISON_INJECT (R319, R350, R351): POISON is set on the line as a commit; a line of a granule that is not resident is asked
for, and the command answered RETRY (log 25). -/
def execPoisonInject (r : Req) (pa : Nat) (s : State) : Host.Outcome State Fault Refusal :=
  let o := cmdObj 0x1740 3 roleDebug
  .next (operate o r (leBytes 8 pa) 8 { Verdict.ok with bad := pa % 128 != 0 || !s.paPresent pa 1, fenced := s.standby }
    (fun s => match s.storeOf (pa / 128) with
      | some _ => reply o r .ok [] (poisonLine (pa / 128) 8 s)
      | none => reply o r .retry [] (missGranule (granuleOf pa) (pa % 65536 / 128) 1 false s)) s)

end Sys2Proof.Machine
end

