-- ==== Sys2Proof/Machine/Firmware.lean ====
section
/-!
DEFINITION. Machine/Firmware.lean: the commands of the firmware chapter and the ends of a management reheat (R601 to R617, R643).
-/
namespace Sys2Proof.Machine

/-- The object of a firmware command. -/
def fwObj (sub : Nat) : OpObj := cmdObj 0x2020 sub roleOp

/-- FW_BEGIN (R607, R610, R611): the header is checked and written as block 0; the staging bank is being erased. -/
def execFwBegin (r : Req) (header : List Byte) (s : State) : Host.Outcome State Fault Refusal :=
  let idle := s.fw.st == .idle || s.fw.st == .verified || s.fw.st == .failed
  .next (operateOk (fwObj 1) r header 0
    { bad := !headerOk header || decide (headerSvn header < s.fw.minSvn), fenced := false, state := !idle || s.updateBarred,
      other := if headerSigned header then none else some .integrity }
    (fun s =>
      let k : Bank := { Bank.empty with st := .writing, svn := headerSvn header, version := headerVersion header, blocks := [(0, header)], imageBlocks := headerBlocks header }
      (setBank s.staging (fun _ => k) s).onFw (fun w => { w with st := .staging, verifying := false, verdict := none })) s)

/-- FW_ERASE_DONE (R607): the background erase has done that many blocks from 1. -/
def execFwEraseDone (blocks : Nat) (s : State) : Host.Outcome State Fault Refusal :=
  .next (if s.fw.st = .staging then setBank s.staging (fun k => { k with erased := max k.erased (min blocks (k.imageBlocks - 1)) }) s else s)

/-- FW_BLOCK (R608): programmed once per erase, and read back; one that does not read back may be written again, and what it then holds is a
free value. -/
def execFwBlock (r : Req) (block crc : Nat) (data : List Byte) (s : State) : Host.Outcome State Fault Refusal :=
  let k := s.bank s.staging
  .next (operate (fwObj 2) r (leBytes 4 block ++ leBytes 4 crc ++ data) 4
    { bad := block == 0 || decide (block ≥ k.imageBlocks && s.fw.st == .staging) || data.length != 512, fenced := false,
      state := s.fw.st != .staging || k.written.contains block,
      other := if block > k.erased then some .retry else if crc32c data ≠ crc then some .integrity else none }
    (fun s =>
      if s.fw.flashBad then
        let held := leBytes 512 (Config.freeNat s.free)
        reply (fwObj 2) r .integrity [] (useFree ((setBank s.staging (fun k => { k with blocks := aset k.blocks block held }) s).onFw (fun w => { w with flashBad := false })))
      else
        reply (fwObj 2) r .ok []
          (setBank s.staging (fun k => { k with blocks := aset k.blocks block data, written := block :: k.written, blocksWritten := k.blocksWritten + 1 }) s)) s)

/-- FW_VERIFY (R609): starts the check and answers RETRY until it is complete; then its outcome, once. -/
def execFwVerify (r : Req) (s : State) : Host.Outcome State Fault Refusal :=
  let o := fwObj 3
  .next (operate o r [] 0 { Verdict.ok with state := s.fw.verdict.isNone && s.fw.st != .staging }
    (fun s => match s.fw.verdict with
      | some v =>
        let s := s.onFw (fun w => { w with verdict := none })
        match v with
        | none => reply o r .ok [] s
        | some c => reply o r .integrity (leBytes 1 c) s
      | none => reply o r .retry [] (s.onFw (fun w => { w with verifying := true }))) s)

/-- FW_VERIFY_DONE (R609, R611): the staged image is Verified, or Failed with the first component whose digest differs. -/
def execFwVerifyDone (s : State) : Host.Outcome State Fault Refusal :=
  .next (if s.fw.verifying ∧ s.fw.st = .staging then
      let b := s.staging
      match (s.bank b).badComponent with
      | none => (bankTo b .verified s).onFw (fun w => { w with st := .verified, verifying := false, verdict := some none })
      | some c => (bankTo b .failed s).onFw (fun w => { w with st := .failed, verifying := false, verdict := some (some c) })
    else s)

/-- FW_ACTIVATE (R612, R615): the staging bank is on Trial and management reboots from it; in recovery the ROM boots it and bring-up
goes on from step 2. -/
def execFwActivate (r : Req) (s : State) : Host.Outcome State Fault Refusal :=
  let o := fwObj 4
  .next (operate o r [] 0 { Verdict.ok with state := s.fw.st != .verified || s.updateBarred }
    (fun s =>
      let new := s.staging
      let s := reply o r .ok [] ((bankTo new .trial s).onFw (fun w => { w with st := .trial, act := .reheat }))
      if s.fw.recovery then
        match bootFrom [new, !new] s with
        | (s, some b) => ((bootAlias (s.onFw (fun w => { w with bootedB := b, recovery := false, act := .selfCheck }))).onBoot (fun x => { x with step := 2 })).onPkg (fun p => { p with phase := .run })
        | (s, none) => s
      else startReheat 0 s) s)

/-- FW_SELFCHECK_DONE (R612, R613): the new runtime goes on to the pause, or to the commit where the engine part is the same; a failure
rolls back. -/
def execFwSelfcheckDone (ok : Bool) (s : State) : Host.Outcome State Fault Refusal :=
  .next (if s.fw.act ≠ .selfCheck then s
    else if !ok then rollBack s.fw.bootedB 3 s
    else if (s.bank s.fw.bootedB).engine ≠ s.fw.engineDigest then s.onFw (fun w => { w with act := .pause })
    else commitFw s)

/-- FW_PAUSE_END (R612): the stores hold the new component 2; dispatch and credits resume, and the commit begins. -/
def execFwPauseEnd (s : State) : Host.Outcome State Fault Refusal :=
  .next (if s.fw.act = .pause then commitFw (s.onFw (fun w => { w with engineDigest := (s.bank w.bootedB).engine })) else s)

/-- FW_COPY_DONE (R611): both banks Good. -/
def execFwCopyDone (s : State) : Host.Outcome State Fault Refusal :=
  .next (if s.fw.st = .committing then
      let k := s.bank s.fw.bootedB
      notify 0x2002 (leBytes 4 k.version) ((setBank s.staging (fun _ => { k with st := .good }) s).onFw (fun w => { w with st := .idle }))
    else s)

/-- FW_ABORT (R609, R611). -/
def execFwAbort (r : Req) (s : State) : Host.Outcome State Fault Refusal :=
  .next (operateOk (fwObj 5) r [] 0 { Verdict.ok with state := !(s.fw.st == .staging || s.fw.st == .verified || s.fw.st == .failed) }
    (fun s => (setBank s.staging (fun _ => Bank.empty) s).onFw (fun w => { w with st := .idle, verifying := false, verdict := none })) s)

/-- FW_RAISE_SVN (R604): fuses are blown up to the SVN of the running image. -/
def execFwRaiseSvn (r : Req) (s : State) : Host.Outcome State Fault Refusal :=
  let o := fwObj 6
  .next (operate o r [] 0 { Verdict.ok with state := s.fw.st != .idle || s.updateBarred }
    (fun s =>
      let n := max s.fw.minSvn (s.bank s.fw.bootedB).svn
      reply o r .ok (leBytes 4 n) (s.onFw (fun w => { w with minSvn := n }))) s)

/-- BAKER_WATCHDOG (R613, R643, R644 row 14): a management reheat; during an activation it rolls back. -/
def execBakerWatchdog (die : Nat) (s : State) : Host.Outcome State Fault Refusal :=
  .next (if die > 1 ∨ !s.bakerUp ∨ s.pkg.phase = .boot then s
    else
      let s := timeoutFired 14 8 die 0 s
      if die = 0 ∧ s.fw.st = .trial then
        rollBack (if s.fw.act = .reheat then s.staging else s.fw.bootedB) 4 (s.onObs (fun o => { o with reheat := o.reheat.filter (· ≠ 0) }))
      else startReheat die s)

/-- LOCKSTEP_DISAGREEMENT (R45, R643): the die's pair takes a management reheat. -/
def execLockstepDisagreement (die : Nat) (s : State) : Host.Outcome State Fault Refusal :=
  .next (if die > 1 ∨ !s.bakerUp ∨ s.pkg.phase = .boot then s
    else if die = 0 ∧ s.fw.st = .trial then rollBack (if s.fw.act = .reheat then s.staging else s.fw.bootedB) 4 (s.onObs (fun o => { o with reheat := o.reheat.filter (· ≠ 0) }))
    else startReheat die s)

/-- MGMT_REHEAT_DONE (R612, R643): notifications that waited are delivered; a reheat of an activation has booted the staging bank, or
rolls back. -/
def execMgmtReheatDone (die : Nat) (s : State) : Host.Outcome State Fault Refusal :=
  .next (if !s.obs.reheat.contains die then s
    else
      let n := s.recentReheats
      let s := s.onObs (fun o => { o with reheat := o.reheat.filter (· ≠ die), shownE := o.shownE || decide (n ≥ 3) })
      if die ≠ 0 then s
      else
        let s := bootAlias (s.onPkg (fun p => { p with heldPins := none }))
        let waiting := s.obs.waiting
        let s := drainSubs (forAll waiting (fun r s => deliver r none s) (s.onObs (fun o => { o with waiting := [] })))
        if s.fw.act ≠ .reheat then s
        else
          let new := s.staging
          if (s.bank new).valid && decide ((s.bank new).svn ≥ s.fw.minSvn) then bootAlias (s.onFw (fun w => { w with bootedB := new, act := .selfCheck }))
          else rollBack new 2 s)

/-- MGMT_REHEAT_WINDOW_EXPIRY (R643): 60 s without a further reheat. -/
def execMgmtReheatWindowExpiry (s : State) : Host.Outcome State Fault Refusal :=
  .next (if s.recentReheats = 0 then s.onObs (fun o => { o with shownE := false }) else s)

end Sys2Proof.Machine
end

