-- ==== Sys2Proof/Machine/Recipes.lean ====
section
/-!
DEFINITION. Machine/Recipes.lean: the recipe commands: acceptance by code, cancel, and the work distribution of tiles
(R352 to R396).
-/
namespace Sys2Proof.Machine

/-- A row of a recipe code: a RECIPE packet whose descriptor has that code. -/
def recipeRow (code port : Nat) (p : Packet) (s : State) : Host.Outcome State Fault Refusal :=
  .next (if p.op = 0x50 then arriveRecipe port p (fun d => d.code == code) s else s)

/-- FILL (R374). -/
def execFill (port : Nat) (p : Packet) (s : State) : Host.Outcome State Fault Refusal := recipeRow 1 port p s
/-- COPY (R374). -/
def execCopy (port : Nat) (p : Packet) (s : State) : Host.Outcome State Fault Refusal := recipeRow 2 port p s
/-- COMPARE (R375). -/
def execCompare (port : Nat) (p : Packet) (s : State) : Host.Outcome State Fault Refusal := recipeRow 3 port p s
/-- REDUCE (R376). -/
def execReduce (port : Nat) (p : Packet) (s : State) : Host.Outcome State Fault Refusal := recipeRow 4 port p s
/-- GATHER-REDUCE (R377). -/
def execGatherReduce (port : Nat) (p : Packet) (s : State) : Host.Outcome State Fault Refusal := recipeRow 5 port p s
/-- SCATTER-ADD (R378). -/
def execScatterAdd (port : Nat) (p : Packet) (s : State) : Host.Outcome State Fault Refusal := recipeRow 6 port p s
/-- ALLREDUCE-STAGE (R380). -/
def execAllreduceStage (port : Nat) (p : Packet) (s : State) : Host.Outcome State Fault Refusal := recipeRow 7 port p s
/-- OPTIM-STEP (R383). -/
def execOptimStep (port : Nat) (p : Packet) (s : State) : Host.Outcome State Fault Refusal := recipeRow 8 port p s
/-- KV-SELECT (R385). -/
def execKvSelect (port : Nat) (p : Packet) (s : State) : Host.Outcome State Fault Refusal := recipeRow 9 port p s
/-- DELTA-PACK (R389). -/
def execDeltaPack (port : Nat) (p : Packet) (s : State) : Host.Outcome State Fault Refusal := recipeRow 10 port p s
/-- DIGEST (R390). -/
def execDigest (port : Nat) (p : Packet) (s : State) : Host.Outcome State Fault Refusal := recipeRow 11 port p s
/-- PUBLISH (R264, R391). -/
def execPublish (port : Nat) (p : Packet) (s : State) : Host.Outcome State Fault Refusal := recipeRow 12 port p s
/-- KERNEL (R392, R428). -/
def execKernel (port : Nat) (p : Packet) (s : State) : Host.Outcome State Fault Refusal := recipeRow 13 port p s

/-- RECIPE_RESERVED_CODE (R22, R354, R355): codes 0x00 and 0x0E to 0xFF. -/
def execRecipeReservedCode (port : Nat) (p : Packet) (s : State) : Host.Outcome State Fault Refusal :=
  .next (if p.op = 0x50 then arriveRecipe port p (fun d => d.code == 0 || decide (d.code > 13)) s else s)

/-- RECIPE_CANCEL (R175, R177, R359, R381): its TAG names the recipe, so that with RESEND = 0 the recipe is no reuse of the tag; a resend
meets the rows of R175 as any other request (log 152). -/
def execRecipeCancel (port : Nat) (p : Packet) (s : State) : Host.Outcome State Fault Refusal :=
  .next (if p.op = 0x54 then arriveFabric port p (fun p s =>
    intake port p (fun s => if p.resend then s.outstanding p.src p.tag else s.outstandingHere p.src p.tag) (replayResponse p)
      (fun slot gone s => if gone then answerCancel p .aborted s else police port slot p (takeCancel p) (answerCancel p .retry) s) s) s
   else s)

/-- RECIPE_ABORT (R359, R395, R396).  The copy that a standby gets changes nothing there: RECIPE_END does (R469, R473; log 162). -/
def execRecipeAbort (r : Req) (slot tag : Nat) (s : State) : Host.Outcome State Fault Refusal :=
  let target := s.recp.recipes.find? (fun x => x.slot == slot && x.tag == tag)
  let bad : Bool := match target with | some x => x.phase == .reducing | none => true
  .next (operateOk (cmdObj 0x1820 1 roleOp) r (leBytes 2 slot ++ leBytes 2 tag) 2 { Verdict.ok with state := bad && !s.copyHere r }
    (fun s => if s.copyHere r then s else match target with | some x => cancelNow x s | none => s) s)

/-! ### Work distribution (R363, R366 to R370) -/

/-- The context address whose home cluster a tile is queued at (R361, R392). -/
def Recipe.tileLead (r : Recipe) (V : LineReader) (t : Nat) : Nat :=
  let d := r.d
  if d.code = 9 ∧ t ≥ r.phaseOne then
    let heads := kvHeads r.params
    if t < r.phaseOne + heads then d.w4 + (t - r.phaseOne) * kvOutStride d
    else
      let k := t - r.phaseOne - heads
      let b := leNat (bytesAt V (d.w4 + k / r.picks * kvOutStride d + 8 * (k % r.picks)) 4)
      kvBlockBase r.params + (b * heads + k / r.picks) * kvUnitStride r.params
  else if d.code = 8 ∧ t ≥ r.phaseOne then d.w2 + (pieceOf d.w2 (4 * parm r.params 32 8) (t - r.phaseOne)).1
  else if d.code = 13 then d.w4 + 65536 * t
  else (d.lead r.params).1 + (pieceOf (d.lead r.params).1 (d.lead r.params).2 t).1

/-- A reader of a context's lines as they translate now. -/
def State.contextReader (s : State) (ctx : Nat) : LineReader := fun l =>
  match s.segmentNow ctx (l * 128) with
  | some (pa, tenant, keyId) => s.view (pa / 128) tenant keyId
  | none => (true, List.replicate 128 0)

/-- The cluster a tile is queued at: the home of its lead byte, or cluster 0 of the front end's die (R361). -/
def State.tileCluster (s : State) (r : Recipe) (t : Nat) : Nat :=
  let k := match s.segmentNow r.ctx (r.tileLead (s.contextReader r.ctx) t) with
    | some (pa, _, _) => homeCluster pa
    | none => r.die * 8
  -- tiles homed on a cluster out of service go to the lowest-numbered one in service of its die (R598)
  if (s.unit .cluster k).st = .out then
    (((List.range 8).map (fun i => k / 8 * 8 + i)).find? (fun x => (s.unit .cluster x).st != .out)).getD k
  else k

/-- Whether a core can take tiles: present, enabled, its cluster in service, in Run and not on its way out of it (R36, R535), no debug
stop. -/
def State.coreAble (s : State) (c : Nat) : Bool :=
  corePresent c && (s.unit .core c).st == .enabled && (s.unit .cluster (clusterOf c)).st == .enabled
    && (s.punit (clusterOf c)).st == .run && (s.punit (clusterOf c)).move == .none && !s.frozen

/-- Take the next tile of a cluster's queue, the recipes in turn (R35, R366); a core does not take a tile that it may not run
again (R335). -/
def takeQueued (k c : Nat) (s : State) : State × Option TileRef :=
  let q := (agetD s.recp.queues k []).filter (fun t => match s.recipe t.recipe with | some r => aget r.lost t.tile != some c | none => true)
  let last := agetD s.recp.turns k 0
  let next : Option TileRef := match q.filter (fun t => decide (t.recipe > last)) with
    | [] => (q.map (fun t => t.recipe)).min?.bind (fun m => q.find? (fun t => t.recipe == m))
    | l => (l.map (fun t => t.recipe)).min?.bind (fun m => l.find? (fun t => t.recipe == m))
  match next with
  | none => (s, none)
  | some t => (s.onRecp (fun r => { r with queues := aset r.queues k ((agetD r.queues k []).erase t), turns := aset r.turns k t.recipe }), some t)

/-- The cores of a cluster in the order of their turn: from the one after the last that was given a tile (R35). -/
def State.coreOrder (s : State) (k : Nat) : List Nat :=
  let last := agetD s.recp.coreTurns k (18 * k + 17)
  (coresOf k).filter (fun c => decide (last < c)) ++ (coresOf k).filter (fun c => decide (c ≤ last))

/-- Fill the local queues of a cluster's cores, two tiles each, from its queue, the cores taking turns (R35, R366). -/
def fillLocals (k : Nat) (s : State) : State :=
  forAll (s.coreOrder k ++ s.coreOrder k) (fun c s =>
    if s.coreAble c && decide ((agetD s.recp.locals c []).length < 2) then
      match takeQueued k c s with
      | (s, some t) => s.onRecp (fun r => { r with locals := amod r.locals c [] (fun l => l ++ [t]), coreTurns := aset r.coreTurns k c })
      | (s, none) => s
    else s) s

/-- TILE_DISPATCH (R361, R363, R366, R369, R370, R372): the next tile of a recipe, when its window, its grant, its order and the
queue allow.  A standby holds its owner's recipes and runs none (R469, R473). -/
def execTileDispatch (recipe : Nat) (s : State) : Host.Outcome State Fault Refusal :=
  if s.frozen || s.standby then .next s else
  match s.recipe recipe with
  | none => .next s
  | some r =>
    let t := ((List.range (r.total - r.next)).map (fun i => r.next + i)).find? (fun t => !r.committed t)
    match t with
    | none => .next s
    | some t =>
      let runs := r.phase == .running || r.phase == .streaming || (r.phase == .reducing && r.leader) || (r.phase == .admission && (s.recipeGrant r.id).isSome)
      let limit := match s.recipeGrant r.id with
        | some g => decide (s.inFlight r.id < g.tiles)
        | none => true
      let turn := !r.d.flag 0 || !s.recp.recipes.any (fun x => x.slot == r.slot && decide (x.id < r.id))
      let k := s.tileCluster r t
      let go := runs && !s.recipeWaits r.id && !r.cancelled && r.failed.isEmpty && !r.scanFailed && decide (t < r.f + 512)
        && decide (r.f ≥ r.barrier t) && limit && turn && decide ((agetD s.recp.queues k []).length < 1024) && !s.frozen
        && s.fw.act != .pause && (s.unit .cluster k).st != .resetting
      if !go then .next s
      else
        let s := setRecipe r.id (fun x => { x with next := t + 1, phase := if x.phase = .admission then .running else x.phase }) s
        let s := s.onRecp (fun x => { x with queues := amod x.queues k [] (fun q => q ++ [{ recipe := r.id, tile := t, stolen := false }]) })
        .next (fillLocals k (wakeUnit k s))

/-- Give a core a tile to run. -/
def startTile (c : Nat) (t : TileRef) (s : State) : State :=
  let kernel : Bool := match s.recipe t.recipe with | some r => r.d.code == 13 | none => false
  let run : CoreTile := { recipe := t.recipe, tile := t.tile, stolen := t.stolen, checked := false, kernel := kernel, handle := 0,
                          textLen := 0, tray := 0, threads := [], ending := .running, pages := [], visited := [] }
  setCore c (fun x => { x with run := some run }) (s.onDram (fun d => { d with returned := d.returned.filter (fun x => x.2.1 != 2 ^ 18 + 4 * c) }) |>.onPart (fun p => { p with settles := p.settles.filter (fun e => e.1.1 / 128 != c) }))

/-- Of some candidates with a depth, the deepest; ties go to the one after the last winner (R35, R367). -/
def deepest (last : Nat) (l : List (Nat × Nat)) : Option (Nat × Nat) :=
  match (l.map Prod.snd).max? with
  | none => none
  | some m =>
    let ties := l.filter (fun x => x.2 == m)
    match ties.find? (fun x => decide (x.1 > last)) with
    | some x => some x
    | none => ties.head?

/-- CORE_STEAL (R367, R368): an idle core takes the head of its local queue, or of its cluster's, or steals a tail. -/
def execCoreSteal (core : Nat) (s : State) : Host.Outcome State Fault Refusal :=
  if s.frozen then .next s else
  if !s.coreAble core || (s.coreRec core).run.isSome || s.fw.act == .pause then .next s
  else
    let k := clusterOf core
    let die := dieOfCluster k
    match agetD s.recp.locals core [] with
    | t :: rest => .next (fillLocals k (startTile core t (s.onRecp (fun r => { r with locals := aset r.locals core rest }))))
    | [] =>
      match takeQueued k core s with
      | (s, some t) => .next (fillLocals k (startTile core t s))
      | (s, none) =>
        let free (t : TileRef) : Bool := !t.stolen && (match s.recipe t.recipe with | some r => aget r.lost t.tile != some core | none => true)
        let sib := ((coresOf k).filter (fun c => c != core)).map (fun c => (c, ((agetD s.recp.locals c []).filter free).length))
        let near := (((List.range 8).map (fun i => die * 8 + i)).filter (fun u => u != k)).map (fun u => (u, ((agetD s.recp.queues u []).filter free).length))
        let far := ((List.range 8).map (fun i => (1 - die) * 8 + i)).map (fun u => (u, ((agetD s.recp.queues u []).filter free).length))
        let pick (kind : Nat) (l : List (Nat × Nat)) (least : Nat) : Option Nat :=
          match deepest (agetD s.recp.stolen (kind, core) 0) l with
          | some (u, n) => if n ≥ max 1 least then some u else none
          | none => none
        let tail (l : List TileRef) : Option TileRef := (l.filter free).getLast?
        let won (kind u : Nat) (s : State) : State := s.onRecp (fun r => { r with stolen := aset r.stolen (kind, core) u })
        match pick 0 sib (s.obj .stealCore) with
        | some v =>
          match tail (agetD s.recp.locals v []) with
          | some t => .next (bump .stealCoreTaken k (bump .stealCoreGiven k (startTile core { t with stolen := true }
              (won 0 v (s.onRecp (fun r => { r with locals := aset r.locals v ((agetD r.locals v []).erase t) }))))))
          | none => .next s
        | none =>
          match pick 1 near (s.obj .stealDie) with
          | some u =>
            match tail (agetD s.recp.queues u []) with
            | some t => .next (bump .stealDieTaken k (bump .stealDieGiven u (startTile core { t with stolen := true }
                (won 1 u (s.onRecp (fun r => { r with queues := aset r.queues u ((agetD r.queues u []).erase t) }))))))
            | none => .next s
          | none =>
            match pick 2 far (s.obj .stealBridge) with
            | some w =>
              match tail (agetD s.recp.queues w []) with
              | some t => .next (bump .stealBridgeTaken k (bump .stealBridgeGiven w (startTile core { t with stolen := true }
                  (won 2 w (s.onRecp (fun r => { r with queues := aset r.queues w ((agetD r.queues w []).erase t) }))))))
              | none => .next s
            | none => .next s

/-! ### Running a recipe tile (R362 to R364) -/

/-- The sources of an ALLREDUCE-STAGE by rank (R380). -/
def State.stageSources (s : State) (r : Recipe) : List Nat :=
  if r.d.code ≠ 7 then []
  else ((s.arrived r.ctx r.d.w2).mergeSort (fun x y => decide (x.d.rank ≤ y.d.rank))).map (fun x => x.d.w4)

/-- Clear a core's tray before it runs for another tenant (R41). -/
def clearForTenant (c tenant : Nat) (s : State) : State :=
  if (s.coreRec c).trayTenant = tenant then s
  else setCore c (fun x => { x with tray := [], trayPoison := [], trayTenant := tenant }) s

/-- A tile's check fails (R231, R362, R364): the fault is recorded, and the tile ends with its code, or RETRY where the queue is
full. -/
def failCheck (c : Nat) (r : Recipe) (tile : Nat) (f : XFault) (addr : Nat) (s : State) : State :=
  let (s, st) := recordFault (faultOfRecipe r.slot r.src r.tag r.d.code) r.ctx addr f s
  setCore c (fun x => { x with run := none }) (failTile r.id tile st (settled (settleTile c) r.ctx s))

/-- A tile meets a verdict: it fails, goes on, or waits for its context until GEN_SETTLE is over (R218, R231). -/
def onVerdict (core : Nat) (r : Recipe) (tile : Nat) (v : SpanCheck) (go : State → State) (s : State) : State :=
  match v with
  | .fault f a => failCheck core r tile f a s
  | .ok => go (settled (settleTile core) r.ctx s)
  | .settle f a g => match settleFor (settleTile core) r.ctx f g s with
    | (s, none) => s
    | (s, some f) => failCheck core r tile f a s

/-- TILE_CHECK (R231, R362): the operand spans are translated and checked, with those that depend on data once that can be read; all
failures are looked at before one ends the tile. -/
def execTileCheck (core : Nat) (s : State) : Host.Outcome State Fault Refusal :=
  if s.frozen then .next s else
  match (s.coreRec core).run with
  | none => .next s
  | some t =>
    match s.recipe t.recipe with
    | none => .next (setCore core (fun x => { x with run := none }) s)
    | some r =>
      if t.kernel || t.checked || !s.coreAble core then .next s
      else
        let die := dieOfCluster (clusterOf core)
        let gen := agetD s.part.gens r.ctx 0
        let s := clearForTenant core (s.readDesc r.ctx).owner s
        let static := r.tileSpans (s.stageSources r) t.tile
        let (s, c) := checkSpans die r.ctx r.d.code (r.placeOf t.tile) static (Checked.start []) s
        let pass (c : Checked) (s : State) : State :=
          onVerdict core r t.tile (c.verdict gen s) (fun s => setCore core (fun x => { x with run := some { t with checked := true, pages := c.pages } })
            (setRecipe r.id (fun x => { x with checked := if x.checked.contains t.tile then x.checked else x.checked ++ [t.tile] }) s)) s
        if !r.d.dataDriven || c.settle.isSome then .next (pass c s)
        else
          match readySpans (AccBy.tile core r.slot) c.pages false ((spanLines static).filter (fun x => !x.write)) s with
          | (s, .wait) => .next s
          | (s, .fail st) => .next (setCore core (fun x => { x with run := none }) (failTile r.id t.tile st s))
          | (s, .ready) =>
            let data := r.dataSpans (s.reader c.pages) t.tile
            let (s, c) := checkSpans die r.ctx r.d.code (fun i => 2 ^ 20 + i) data c s
            if r.d.code ≠ 5 ∨ c.settle.isSome = true then .next (pass c s)
            else
              -- the rows of the bags are known once their indices can be read
              match readySpans (AccBy.tile core r.slot) c.pages false (spanLines data) s with
              | (s, .wait) => .next s
              | (s, .fail st) => .next (setCore core (fun x => { x with run := none }) (failTile r.id t.tile st s))
              | (s, .ready) =>
                let (s, c) := checkSpans die r.ctx r.d.code (fun i => 2 ^ 20 + i) (r.dataSpans (s.reader c.pages) t.tile) c s
                .next (pass c s)

/-- The sweep of PUBLISH (R264 steps 3 and 4): each line is visited once, and a holder that may write it is downgraded; the lines visited,
and whether every downgrade has ended. -/
def publishSweep (pages : Assoc Nat Page) (l visited : List Nat) (kind : Nat) (s : State) : State × List Nat × Bool :=
  l.foldl (fun (acc : State × List Nat × Bool) x =>
    match aget pages (x / 512) with
    | none => acc
    | some p =>
      let (s, visited, done) := acc
      let line := (p.pa + x % 512 * 128) / 128
      if visited.contains line then (s, visited, done && !s.recalling line)
      else if s.recalling line then (s, visited, false)
      else match s.entry line with
        | some e =>
          if e.st == .shared then (s, visited ++ [line], done)
          else
            let s := startRecall line true (s.holders line e) kind [] .none s
            (s, visited ++ [line], done && !s.recalling line)
        | none => (s, visited ++ [line], done)) (s, visited, true)

/-- PUBLISH's tile (R264, R265, R339, R391): sweep, compare, and one full-line write.  The tile stays where it is while holders are
downgraded; from a compare that passes on, the record's line is its own until the write. -/
def publishTile (core : Nat) (r : Recipe) (t : CoreTile) (s : State) : State :=
  let d := r.d
  let die := r.die
  let rec_ := d.w2 / 128
  let finish (st : Status) (result : Nat) (s : State) : State :=
    let s := setRecipe r.id (fun x => { x with result := result }) s
    let s := setCore core (fun x => { x with run := none }) s
    if st = .ok then bump .tqRun (clusterOf core) (doneTile r.id t.tile s) else failTile r.id t.tile st s
  let span := (List.range (d.w5 / 128)).map (fun i => d.w4 / 128 + i)
  let who := AccBy.publish core r.slot
  let passed := s.dir.accesses.any (fun a => a.src == who.src && a.tag == who.tag)
  let (s, visited, swept) := if passed then (s, t.visited, true) else publishSweep t.pages span t.visited 7 s
  let s := setCore core (fun x => { x with run := x.run.map (fun y => { y with visited := visited }) }) s
  if !swept then s
  else match (if passed then (s, LineReady.ready) else readySpans (AccBy.tile core r.slot) t.pages false [{ line := rec_, write := false, fetch := true }] s) with
    | (s, .wait) => s
    | (s, .fail st) => finish st 0 s
    | (s, .ready) =>
      let (s, _, down) := if passed then (s, [], true) else publishSweep t.pages [rec_] [] 1 s
      let V := s.reader t.pages
      let old := bytesAt V d.w2 128
      let version := parm old 0 8
      if !down then s
      else if poisonAt V d.w2 128 then finish .poisoned 0 s
      else if spansMeet d.w4 d.w5 (parm old 8 8) (parm old 16 8) then finish .refusedState 0 s
      else if version = d.w3 ∧ d.w3 = 2 ^ 64 - 1 then finish .noSpace 0 s
      else if version ≠ d.w3 then bump .versionConflicts die (finish .versionConflict version s)
      else
        match readySpans who t.pages false [{ line := rec_, write := true, fetch := false }] s with
        | (s, .wait) => s
        | (s, .fail st) => finish st 0 s
        | (s, .ready) =>
          let out := leBytes 8 (d.w3 + 1) ++ leBytes 8 d.w4 ++ leBytes 8 d.w5 ++ leBytes 8 (parm old 8 8) ++ leBytes 8 (parm old 16 8)
            ++ leBytes 8 s.now ++ leBytes 80 (r.slot + r.src * 2 ^ 16)
          let (s, n, lost) := commitOuts core t.pages (outLines (outBytes d.w2 out false)) s
          let s := setRecipe r.id (fun x => { x with poisoned := x.poisoned + n, withLoss := x.withLoss || lost }) s
          finish .ok (d.w3 + 1) (onlyIf (!lost) (bump .publishCommits die) s)

/-- The packets of one streamed unit (R388); a sealed exchange stops after INDEX 0xFFFF (R566). -/
def streamUnit (r : Recipe) (V : LineReader) (block head base : Nat) (s : State) : State :=
  let len := kvUnitBytes r.params
  forAll (List.range (cdiv len 384)) (fun i s =>
    let off := i * 384
    let n := min 3 ((len - off) / 128)
    let ls := (List.range n).map (fun j => (bytesAt V (base + off + 128 * j) 128, poisonAt V (base + off + 128 * j) 128))
    let mask := (List.range n).foldl (fun m j => if (ls.getD j ([], false)).2 then m + 2 ^ j else m) 0
    let seq := ((s.recipe r.id).map (fun x => x.streamSeq)).getD 0
    let p := mkPacket (if r.d.flag 3 then 6 else 5) 0x53 r.src r.pkt.dest r.tag 0 seq (decide (0 < mask))
      (leBytes 16 (block + head * 2 ^ 32 + n * 2 ^ 40 + mask * 2 ^ 42 + off * 2 ^ 64) ++ (ls.map Prod.fst).flatten)
    let pk := recipePacket r.ctx p s
    if pk.enc && decide (((s.recipe r.id).map (fun x => x.result2)).getD 0 ≥ 65536) then s
    else setRecipe r.id (fun x => { x with streamSeq := (x.streamSeq + 1) % 65536, result2 := x.result2 + 1, marks := x.marks ||| 2, phase := .streaming })
      (sendPacket pk s)) s

/-- The commit of a checked recipe tile (R362, R363, R364): every line it reads and writes is made ready, it computes, and its
lines are written in order; the tile stays where it is while a line waits or a lower tile has to pass first. -/
def commitTile (core : Nat) (r : Recipe) (t : CoreTile) (s : State) : State :=
  let d := r.d
  let die := dieOfCluster (clusterOf core)
  let lower := (List.range t.tile).all (fun x => r.committed x || r.checked.contains x)
  let inOrder := !(d.code == 6 || (d.code == 9 && decide (t.tile ≥ r.phaseOne + kvHeads r.params))) || r.f == t.tile
  if !(lower && inOrder) then s
  else if d.code = 12 then publishTile core r t s
  else
    let quit (st : Status) (s : State) : State := setCore core (fun x => { x with run := none }) (failTile r.id t.tile st s)
    let srcs := s.stageSources r
    let static := r.tileSpans srcs t.tile
    let (s, granted) := grantWhole t.pages static s
    match (if granted then readySpans (AccBy.tile core r.slot) t.pages (d.flag 1) (spanLines static) s else (s, .wait)) with
    | (s, .wait) => s
    | (s, .fail st) => quit st s
    | (s, .ready) =>
      let data := r.dataSpans (s.reader t.pages) t.tile
      let missing := data.any (fun x => x.pages.any (fun a => !ahas t.pages (a / 65536)))
      let (s, c) := if missing then checkSpans die r.ctx d.code id data (Checked.start t.pages) s else (s, Checked.start t.pages)
      onVerdict core r t.tile (c.verdict (agetD s.part.gens r.ctx 0) s) (fun s =>
        match readySpans (AccBy.tile core r.slot) c.pages (d.flag 1) (spanLines data) s with
        | (s, .wait) => s
        | (s, .fail st) => quit st s
        | (s, .ready) =>
          let V := s.reader c.pages
          let out := r.compute V srcs s.free t.tile
          let s := onlyIf r.fast useFree s
          let (s, n, lost) := commitOuts core c.pages (outLines out.outs) s
          let s := countEv die out.ev s
          let s := if d.code = 9 ∧ t.tile ≥ r.phaseOne + kvHeads r.params then
              let k := t.tile - r.phaseOne - kvHeads r.params
              let b := leNat (bytesAt V (d.w4 + k / r.picks * kvOutStride d + 8 * (k % r.picks)) 4)
              streamUnit r V b (k / r.picks) (kvBlockBase r.params + (b * kvHeads r.params + k / r.picks) * kvUnitStride r.params) s
            else s
          let s := setRecipe r.id (fun x => { x with
            poisoned := x.poisoned + n, withLoss := x.withLoss || lost, poison := x.poison || out.poison, scanBad := x.scanBad + out.scanBad
            result := (match d.code with
              | 3 => min x.result (out.first.getD (2 ^ 64 - 1))
              | 8 | 9 | 10 => x.result + out.result
              | _ => x.result)
            result2 := x.result2 + out.result2
            parts := if d.code = 11 then aset x.parts t.tile out.part else x.parts }) s
          bump .tqRun (clusterOf core) (doneTile r.id t.tile (setCore core (fun x => { x with run := none }) s))) s

/-- A residue mismatch in a recipe tile (R335): the tile ends without committing and is run once more on another core, or with INTEGRITY. -/
def mismatchTile (core thread : Nat) (r : Recipe) (t : CoreTile) (s : State) : State :=
  let again := !ahas r.lost t.tile
  let s := setCore core (fun x => { x with run := none }) s
  let s := bump (if again then .residueReruns else .residueIntegrity) core (loseTile t (clusterOf core) core .integrity s)
  fillLocals (clusterOf core) (noteMismatch core thread t.tile s)

/-- TILE_COMMIT (R335, R362): the compute step ends; with `residue` it met a residue mismatch. -/
def execTileCommit (core : Nat) (residue : Bool) (s : State) : Host.Outcome State Fault Refusal :=
  if s.frozen then .next s else
  match (s.coreRec core).run with
  | none => .next s
  | some t =>
    match s.recipe t.recipe with
    | none => .next (setCore core (fun x => { x with run := none }) s)
    | some r =>
      if t.kernel || !t.checked || !s.coreAble core then .next s
      else if residue then .next (mismatchTile core 0 r t s)
      else .next (settleWaits (fillLocals (clusterOf core) (commitTile core r t s)))

/-! ### The end (R358, R364, R370, R380, R381) -/

/-- RECIPE_END (R358, R364, R373): a recipe all of whose tiles have committed, or that has failed or been cancelled and has no
tile running, ends; for a stage, all that arrived end together. -/
def execRecipeEnd (recipe : Nat) (s : State) : Host.Outcome State Fault Refusal :=
  if s.frozen || s.standby then .next s else
  match s.recipe recipe with
  | none => .next s
  | some r =>
    let excess := r.cancelled || !r.failed.isEmpty || decide (r.f ≥ r.total) || r.scanFailed
    if r.phase = .collecting then
      if r.cancelled then
        let active : Bool := match aget s.part.slots r.slot with | some x => x.st == .active && x.eid == r.src | none => false
        .next (settleWaits (retryStage (if active then withdrawRank r s else endStage r.ctx r.d.w2 none s)))
      else if !r.failed.isEmpty then .next (settleWaits (retryStage (endStage r.ctx r.d.w2 none s)))
      else .next s
    else if !excess || decide (0 < s.inFlight r.id) then .next s
    else if r.phase = .reducing then
      .next (if r.leader then settleWaits (retryStage (endStage r.ctx r.d.w2 (some r) s)) else s)
    else .next (settleWaits (endRecipe r r.status s))

/-- ADMISSION_LIMIT_TIMEOUT (R370): a recipe that waits for sugar ends TIMEOUT. -/
def execAdmissionLimitTimeout (recipe : Nat) (s : State) : Host.Outcome State Fault Refusal :=
  if s.frozen || s.standby then .next s else
  match s.recipe recipe with
  | some r =>
    if s.recipeWaits recipe && decide (s.now ≥ r.askedAt + s.obj .admissionLimit * 1000000) then
      -- the tiles already dispatched finish: the first that was not ends it
      .next (endRecipeGrants recipe (failTile recipe (((List.range (r.total - r.next)).map (r.next + ·)).find? (fun t => !r.committed t) |>.getD r.total) .timeout s))
    else .next s
  | none => .next s

/-- ALLREDUCE_DEADLINE (R381): a round still Collecting at its DEADLINE ends TIMEOUT for every contributor. -/
def execAllreduceDeadline (recipe : Nat) (s : State) : Host.Outcome State Fault Refusal :=
  if s.frozen || s.standby then .next s else
  match s.recipe recipe with
  | some r =>
    if r.phase = .collecting ∧ s.now ≥ parm (s.stageLine r.ctx r.d.w2) 32 8 then
      let s := forAll (s.arrived r.ctx r.d.w2) (fun x s => setRecipe x.id (fun y => { y with failed := if y.cancelled then y.failed else [(0, .timeout)] }) s) s
      .next (retryStage (endStage r.ctx r.d.w2 none s))
    else .next s
  | none => .next s

/-- GEN_SETTLE_RECHECK (R218): the descriptor is read again for a request that waits for its generation; `expired` once
GEN_SETTLE has passed. -/
def execGenSettleRecheck (src tag : Nat) (expired : Bool) (s : State) : Host.Outcome State Fault Refusal :=
  if s.frozen then .next s else
  match s.request src tag with
  | none => .next s
  | some q =>
    if q.phase ≠ .settle then .next s
    else if q.op = 0x50 then
      let others := s.txn.reqs
      let bare := s.onTxn (fun t => { t with reqs := t.reqs.filter (fun x => !(x.src == src && x.tag == tag)) })
      match recipeChecks (dieOfPort q.port) q.slot q.ctx (AccBy.params src tag q.slot) (descOf q.pkt.body) bare with
      | (s', .settle f a) =>
        if expired then
          let (s', st) := recordFault (faultOfRecipe q.slot q.src q.tag (descOf q.pkt.body).code) q.ctx a f s'
          .next (refuseRecipe (dieOfPort q.port) q.pkt st doneReset s')
        else .next (s'.onTxn (fun t => { t with reqs := others }))
      | _ => .next (retryRecipe q s)
    else
      let (s, x) := checkAddressed q.port q.slot q.pkt s
      match x with
      | .ok pa tenant keyId tier =>
        -- a half that came while the request waited is paired as one that came before it
        let s := s.onTxn (fun t => { t with halves := t.halves ++ q.data.toList.map (fun d => (q.port, d)) })
        let q := { q with phase := if needsHalf q.op then .awaitData else .ready, data := none, pa := pa, tenant := tenant, keyId := keyId, tier := tier }
        .next (acceptListed q (setRequest src tag (fun _ => q) s))
      | .fault f => .next (answerFault q.slot q.pkt f (dropRequest src tag s))
      | .settle f _ => .next (if expired then answerFault q.slot q.pkt f (dropRequest src tag s) else s)

end Sys2Proof.Machine
end

