-- ==== Sys2Proof/Machine/OpsCore.lean ====
section
/-!
DEFINITION. Machine/OpsCore.lean: kernel threads: registers, exceptions, how an instruction issues and retires, the end of a tile, the
tray and the pool accesses (R429 to R455).  An instruction comes as a command that names its core and its thread; one whose thread is
not there, has exited, waits at a barrier or for a register still being loaded changes nothing.
-/
namespace Sys2Proof.Machine

/-! ### Registers (R433, R434) -/

/-- A scalar register and its POISON flag: x0 reads 0. -/
def Thread.xr (t : Thread) (i : Nat) : Word64 × Bool := if i = 0 then (0, false) else agetD t.x i (0, false)
/-- A vector register and its POISON flag. -/
def Thread.vr (t : Thread) (i : Nat) : Vec512 × Bool := agetD t.v i (0, false)
/-- An accumulator. -/
def Thread.ar (t : Thread) (i : Nat) : Acc := agetD t.acc i Acc.empty
/-- A predicate: p0 reads all ones. -/
def Thread.pr (t : Thread) (i : Nat) : Word64 := if i = 0 then BitVec.allOnes 64 else agetD t.p i 0

/-- Write a scalar register; a write of x0 is discarded, and a poisoned register holds zero data (R337, R434). -/
def Thread.setX (i : Nat) (v : Word64) (poison : Bool) (t : Thread) : Thread :=
  if i = 0 then t else { t with x := aset t.x i (if poison then 0 else v, poison) }
/-- Write a vector register. -/
def Thread.setV (i : Nat) (v : Vec512) (poison : Bool) (t : Thread) : Thread := { t with v := aset t.v i (if poison then 0 else v, poison) }
/-- Write an accumulator. -/
def Thread.setA (i : Nat) (a : Acc) (t : Thread) : Thread := { t with acc := aset t.acc i a }
/-- Write a predicate; a write of p0 is discarded. -/
def Thread.setP (i : Nat) (v : Word64) (t : Thread) : Thread := if i = 0 then t else { t with p := aset t.p i v }

/-- One number for each register of a thread: scalars from 0, vectors from 64, predicates from 96, accumulators from 104. -/
def vReg (i : Nat) : Nat := 64 + i
/-- A predicate's number. -/
def pReg (i : Nat) : Nat := 96 + i
/-- An accumulator's number. -/
def aReg (i : Nat) : Nat := 104 + i
/-- The number that no register has. -/
def noReg : Nat := 128

/-- The registers that an outstanding access will write. -/
def AccKind.dests : AccKind → List Nat
  | .load rt _ _ => [rt]
  | .vload vt n => (List.range n).map (fun i => vReg (vt + i))
  | .store _ _ _ _ => []
  | .amo _ _ _ rd => [rd]
  | .line cas _ _ vc pd => [vReg vc, vReg (vc + 1)] ++ (if cas then [pReg pd] else [])

/-! ### Exceptions (R453 to R455) -/

/-- The tile status of a CAUSE (R453). -/
def excStatus (cause : Nat) : Status :=
  match cause with
  | 1 => .xlateFault
  | 2 => .rightsFault
  | 3 => .keyMissing
  | 4 | 5 | 6 => .unsupported
  | 7 => .poisoned
  | 8 | 9 => .integrity
  | 10 => .aborted
  | 11 => .retry
  | _ => .timeout

/-- An exception of a thread at its present instruction. -/
def excHere (x : Thread) (th major cause detail : Nat) : Exc := { cause := cause, thread := th, pc := x.pc, major := major, detail := detail }

/-- The MAJOR of the instruction a thread of a tile is at, from the text in its core's engines (R430, R454). -/
def State.majorAt (s : State) (t : CoreTile) (pc : Nat) : Nat :=
  match aget s.core.store t.handle with
  | some k => bits (k.text.getD pc 0) 26 6
  | none => 0

/-- RESULT and RESULT2 of a KERNEL that an exception ends (R454). -/
def excResult (tile : Nat) (e : Exc) : Nat × Nat := (e.cause + e.thread * 2 ^ 8 + e.pc * 2 ^ 16 + tile * 2 ^ 32 + e.major * 2 ^ 56, e.detail)

/-- Keep what the lowest failed tile reports (R364, R454). -/
def keepLowest (old : Option (Nat × Nat)) (new : Nat × Nat) : Option (Nat × Nat) :=
  match old with
  | some o => if bits o.1 32 24 ≤ bits new.1 32 24 then some o else some new
  | none => some new

/-- A tile that has ended leaves its core once its accesses are over; one to be run again is queued again (R364, R449). -/
def drainTile (core : Nat) (s : State) : State :=
  match (s.coreRec core).run with
  | none => s
  | some t =>
    if t.ending = .running || !t.quiet then s
    else
      let s := setCore core (fun c => { c with run := none }) s
      let s := if t.ending = .rerun then
          bump .ktReruns (dieOfCluster (clusterOf core)) (loseTile t (clusterOf core) 288 .timeout s)
        else s
      fillLocals (clusterOf core) s

/-- A thread takes an exception (R454): the tile stops and ends with its status; the stores it has retired stand. -/
def takeExc (core : Nat) (e : Exc) (s : State) : State :=
  match (s.coreRec core).run with
  | none => s
  | some t =>
    if t.ending != .running then s else
    let s := bump .ktExceptions (dieOfCluster (clusterOf core) * 16 + e.cause) s
    let s := setRecipe t.recipe (fun r => { r with exc := keepLowest r.exc (excResult t.tile e) }) s
    let s := failTile t.recipe t.tile (excStatus e.cause) s
    drainTile core s

/-- A tile is lost to a watchdog or a residue mismatch (R455): it is run once more unless NO_RERUN is set or it was lost before, and
then ends with the exception. -/
def loseKernel (core : Nat) (e : Exc) (s : State) : State :=
  match (s.coreRec core).run with
  | none => s
  | some t =>
    match s.recipe t.recipe with
    | none => s
    | some r =>
      if ahas r.lost t.tile || bits r.d.w6 8 1 == 1 then takeExc core e s
      else drainTile core (setCore core (fun c => { c with run := some (t.halt .rerun) }) s)

/-- A residue mismatch of a kernel thread (R335, R455). -/
def residueKernel (core thread major : Nat) (t : CoreTile) (x : Thread) (s : State) : State :=
  let again : Bool := match s.recipe t.recipe with | some r => !(ahas r.lost t.tile || bits r.d.w6 8 1 == 1) | none => false
  noteMismatch core thread t.tile (bump (if again then .residueReruns else .residueIntegrity) core (loseKernel core (excHere x thread major 8 0) s))

/-! ### Issue and retirement (R431, R449, R456) -/

/-- Change a thread of the tile a core runs. -/
def setThread (core th : Nat) (f : Thread → Thread) (s : State) : State :=
  setCore core (fun c => { c with run := c.run.map (fun t => { t with threads := t.threads.map (fun e => if e.1 = th then (e.1, f e.2) else e) }) }) s

/-- A thread issues: the rotation of its engine, thread mod 8, passes on to the slot after it (R31, R429, R456; log 159). -/
def takeTurn (core th : Nat) (s : State) : State := setCore core (fun c => { c with turns := aset c.turns (th % 8) (th / 8) }) s

/-- A tile's first instruction issues: its check step has passed (R431). -/
def firstIssue (core : Nat) (t : CoreTile) (s : State) : State :=
  if t.checked then s
  else setRecipe t.recipe (fun r => { r with checked := if r.checked.contains t.tile then r.checked else r.checked ++ [t.tile] })
    (setCore core (fun c => { c with run := c.run.map (fun t => { t with checked := true }) }) s)

/-- The thread that an instruction is for, where it may issue now: the tile runs on a core that can work, and the thread is neither
done nor at a barrier. -/
def State.liveThread (s : State) (core th : Nat) : Option (CoreTile × Thread) :=
  if s.frozen || !s.coreAble core then none
  else match (s.coreRec core).run with
    | none => none
    | some t =>
      if !t.kernel || t.ending != .running || (s.recipe t.recipe).isNone then none
      else match aget t.threads th with
        | none => none
        | some x => if x.exited || x.atBar then none else some (t, x)

/-- Issue an instruction that uses some registers.  A late exception of an access is taken at the first use of its register, and at
FENCE, BARF and TEXIT (`all`) (R454).  The instruction waits for a register being loaded, and with `drain` for every access. -/
def issue (core th : Nat) (uses : List Nat) (all drain : Bool) (go : CoreTile → Thread → State → State) (s : State) : State :=
  match s.liveThread core th with
  | none => s
  | some (t, x) =>
    match x.late.find? (fun e => all || uses.contains e.2) with
    | some e => takeExc core e.1 s
    | none =>
      if (drain && !x.accesses.isEmpty) || x.accesses.any (fun a => a.kind.dests.any (fun d => d != 0 && uses.contains d)) then s
      else go t x (firstIssue core t (takeTurn core th s))

/-- An instruction retires and the thread goes on at `next`; outside the text that is PC_RANGE (R453). -/
def retireTo (core th major : Nat) (t : CoreTile) (x : Thread) (next : Int) (f : Thread → Thread) (s : State) : State :=
  let s := bump .ktInstrs (dieOfCluster (clusterOf core)) s
  if next < 0 ∨ next ≥ t.textLen / 4 then takeExc core (excHere x th major 6 0) (setThread core th f s)
  else setThread core th (fun x => { f x with pc := next.toNat }) s

/-- An instruction retires and the thread goes on at the next one. -/
def retire (core th major : Nat) (t : CoreTile) (x : Thread) (f : Thread → Thread) (s : State) : State :=
  retireTo core th major t x (x.pc + 1) f s

/-- A tile whose threads have all exited and whose accesses are over ends (R431, R432): a late exception is taken now; else the tile
ran to its end. -/
def endTile (core : Nat) (s : State) : State :=
  match (s.coreRec core).run with
  | none => s
  | some t =>
    if !t.kernel || t.ending != .running || t.threads.isEmpty || !t.threads.all (fun e => e.2.exited) || !t.quiet then s
    else match (t.threads.flatMap (fun e => e.2.late)).head? with
      | some e => takeExc core e.1 s
      | none =>
        let s := setCore core (fun c => { c with run := none }) s
        let s := setRecipe t.recipe (fun r => { r with result := r.result + 1 }) s
        let s := bump .ktTiles (dieOfCluster (clusterOf core)) (bump .tqRun (clusterOf core) (doneTile t.recipe t.tile s))
        settleWaits (fillLocals (clusterOf core) s)

/-- The barrier opens when every thread that has not exited is at it (R448). -/
def openBarrier (core : Nat) (s : State) : State :=
  setCore core (fun c => { c with run := c.run.map (fun t =>
    if t.threads.all (fun e => e.2.exited || e.2.atBar) then { t with threads := t.threads.map (fun e => (e.1, { e.2 with atBar := false })) } else t) }) s

/-- Run an instruction on a thread unless it consumes poison (R452), which is the exception POISON_CONSUMED. -/
def unpoisoned (core th major : Nat) (x : Thread) (bad : Bool) (go : State → State) (s : State) : State :=
  if bad then takeExc core (excHere x th major 7 0) s else go s

/-- An instruction that computes one scalar from the thread, and whose result carries poison where its sources do. -/
def scalarOp (core th major rd : Nat) (uses : List Nat) (f : State → Thread → Word64 × Bool) (s : State) : State :=
  issue core th (rd :: uses) false false (fun t x s =>
    let r := f s x
    retire core th major t x (Thread.setX rd r.1 r.2) s) s

/-- A branch: the operands are consumed (R452), and the thread goes on at PC + OFF14 where it is taken. -/
def branch (core th major rs1 rs2 : Nat) (off : Int) (c : Word64 → Word64 → Bool) (s : State) : State :=
  issue core th [rs1, rs2] false false (fun t x s =>
    let a := x.xr rs1
    let b := x.xr rs2
    unpoisoned core th major x (a.2 || b.2) (fun s =>
      retireTo core th major t x (if c a.1 b.1 then x.pc + off else x.pc + 1) id s) s) s

/-! ### The tray (R325, R448) -/

/-- The tray blocks that some bytes lie in. -/
def blocksOf (addr n : Nat) : List Nat := (List.range ((addr + n - 1) / 128 + 1 - addr / 128)).map (fun i => addr / 128 + i)

/-- Whether an access to some tray bytes meets a poisoned block. -/
def Core.trayBad (c : Core) (addr n : Nat) : Bool := (blocksOf addr n).any (fun b => ahas c.trayPoison b)

/-- Write tray bytes: those of the mask.  Poisoned data poisons every block it writes; a block written in full with clean data since it
was marked is clean again. -/
def Core.trayPut (c : Core) (addr : Nat) (bs : List Byte) (mask : Nat → Bool) (poison : Bool) : Core :=
  let idx := (List.range bs.length).filter mask
  let tray := idx.foldl (fun m i => cellSet m (addr + i) (if poison then 0 else bs.getD i 0)) c.tray
  let hit := (idx.map (fun i => (addr + i) / 128)).eraseDups
  let marks := hit.foldl (fun (m : Assoc Nat Nat) b =>
    if poison then aset m b 0
    else match aget m b with
      | none => m
      | some w =>
        let w := (idx.filter (fun i => (addr + i) / 128 == b)).foldl (fun w i => w ||| 2 ^ ((addr + i) % 128)) w
        if w = 2 ^ 128 - 1 then adel m b else aset m b w) c.trayPoison
  { c with tray := tray, trayPoison := marks }

/-- The address of an access: a base register and a signed offset, modulo 2⁶⁴. -/
def effAddr (base : Word64) (off : Int) : Nat := (((base.toNat : Int) + off) % 2 ^ 64).toNat

/-- A tray access of `n` bytes at a multiple of `al`: a poisoned base, a misaligned address and one outside the window each take their
exception (R448, R452, R453). -/
def trayAccess (core th major : Nat) (t : CoreTile) (x : Thread) (base : Word64 × Bool) (off : Int) (n al : Nat) (go : Nat → State → State)
    (s : State) : State :=
  unpoisoned core th major x base.2 (fun s =>
    let a := effAddr base.1 off
    if a % al ≠ 0 then takeExc core (excHere x th major 4 a) s
    else if a + n > t.tray then takeExc core (excHere x th major 5 a) s
    else go a s) s

/-! ### Pool accesses (R449, R450, R569) -/

/-- Whether the segment of an access is shut to the tile because a tenant is sealed (R569). -/
def State.sealBars (s : State) (owner tenant : Nat) (write : Bool) : Bool :=
  (s.isSealed owner || s.isSealed tenant) && tenant != owner && !(tenant == 0 && !write)

/-- Issue a pool access (R449): consumed poison, alignment, the window of 16 accesses, and the checks of R224, in this order; a fault is
taken at the instruction, recorded as a kernel thread's (R453).  A context whose generation is settling makes the instruction wait. -/
def poolAccess (core th major : Nat) (t : CoreTile) (x : Thread) (bad : Bool) (a al : Nat) (need : List Nat) (write : Bool) (kind : AccKind)
    (f : Thread → Thread) (s : State) : State :=
  unpoisoned core th major x bad (fun s =>
    if a % al ≠ 0 then takeExc core (excHere x th major 4 a) s
    else if x.accesses.length ≥ 16 then s
    else match s.recipe t.recipe with
      | none => s
      | some r =>
        let fault (e : XFault) (s : State) : State :=
          let (s, st) := recordFault { slot := r.slot, source := 2, opcode := major, eid := r.src, tag := r.tag } r.ctx a e s
          let cause := if st = .retry then 11 else if st = .xlateFault then 1 else if st = .keyMissing then 3 else if st = .timeout then 13 else 2
          takeExc core (excHere x th major cause (if cause = 11 then 0 else a)) s
        let who := settleThread core th
        match xlate (dieOfCluster (clusterOf core)) r.ctx a need write s with
        | (s, .settle e g) => (match settleFor who r.ctx e g s with
          | (s, none) => s
          | (s, some e) => fault e s)
        | (s, .fault e) => fault e (settled who r.ctx s)
        | (s, .ok pa tenant keyId tier) =>
          let s := settled who r.ctx s
          if s.sealBars (s.readDesc r.ctx).owner tenant write then fault { bareFault .rightsFault 0x13 true with gen := agetD s.part.gens r.ctx 0 } s
          else
            let acc : Access := { n := x.nextAcc, addr := a, pa := pa, tenant := tenant, keyId := keyId, tier := tier, major := major, pc := x.pc, kind := kind }
            retire core th major t x (fun y => { f y with accesses := y.accesses ++ [acc], nextAcc := y.nextAcc + 1 }) s) s

/-- An access of a thread is over: it leaves the window, and the tile may end. -/
def endAccess (core th n : Nat) (f : Thread → Thread) (s : State) : State :=
  let s := setThread core th (fun x => { f x with accesses := x.accesses.filter (fun a => a.n != n) }) s
  endTile core (drainTile core s)

/-- An access has failed: the exception is kept until the thread meets it (R454); a thread that is over takes none. -/
def lateExc (th : Nat) (a : Access) (cause : Nat) (x : Thread) : Thread :=
  { x with late := x.late ++ [({ cause := cause, thread := th, pc := a.pc, major := a.major, detail := a.addr }, a.kind.dests.headD noReg)] }

/-- Count a line that a kernel left poisoned (R364). -/
def countPoisoned (recipe line : Nat) (s : State) : State :=
  if (s.metaOf line).poison then setRecipe recipe (fun r => { r with poisoned := r.poisoned + 1 }) s else s

/-- The vector whose lowest bytes are some bytes. -/
def vecOfBytes (b : List Byte) : Vec512 := BitVec.ofNat 512 (leNat b)
/-- The 64 bytes of a vector. -/
def vecBytes (v : Vec512) : List Byte := leBytes 64 v.toNat

/-- The data or commit of an access (R449 to R451), its line ready: what it reads and writes. -/
def performAccess (core th recipe : Nat) (a : Access) (s : State) : State :=
  let line := a.pa / 128
  let lo := a.pa % 128
  let (bad, data) := s.view line a.tenant a.keyId
  let s' := countMismatch line a.tenant s
  match a.kind with
  | .load rt size sgn =>
    let v := leNat ((data.drop lo).take size)
    let w : Word64 := if sgn then BitVec.ofInt 64 (signed (8 * size) v) else BitVec.ofNat 64 v
    endAccess core th a.n (Thread.setX rt w bad) s'
  | .vload vt n =>
    endAccess core th a.n (fun x => (List.range n).foldl (fun x i => Thread.setV (vt + i) (vecOfBytes ((data.drop (lo + 64 * i)).take 64)) bad x) x) s'
  | .store bytes mask poison full =>
    if s.lineFailed line then endAccess core th a.n (lateExc th a 9) (onlyIf (poison && mask != 0) (poisonListed (s.channelOfLine line) line) s)
    else if mask = 0 then endAccess core th a.n id s
    else
      let s := if full then writeLine line bytes poison 7 a.tenant a.keyId s
        else mergeLine line (padTo 128 (List.replicate lo (0 : Byte) ++ bytes)) (fun i => decide (lo ≤ i) && decide (bits mask (i - lo) 1 = 1)) poison 7 a.tenant a.keyId s'
      endAccess core th a.n id (countPoisoned recipe line (tileWrite core line s))
  | .amo subop p q rd =>
    if s.lineFailed line then endAccess core th a.n (lateExc th a 9) s
    else if s.mergePoisons line a.tenant then endAccess core th a.n (Thread.setX rd 0 true) s'
    else
      let old := leNat (((s.dataOf line a.tenant a.keyId).drop lo).take 8)
      let s := if subop = 3 ∧ old ≠ p then s
        else mergeLine line (padTo 128 (List.replicate lo (0 : Byte) ++ leBytes 8 (atomicNew subop old p q))) (fun i => decide (lo ≤ i) && decide (i < lo + 8)) false 7 a.tenant a.keyId s
      endAccess core th a.n (Thread.setX rd (BitVec.ofNat 64 old) false) (tileWrite core line s)
  | .line cas new old vc pd =>
    if s.lineFailed line then endAccess core th a.n (lateExc th a 9) s
    else if bad then endAccess core th a.n id (takeExc core { cause := 7, thread := th, pc := a.pc, major := a.major, detail := 0 } s')
    else
      let wrote := !cas || data == padTo 128 old
      let s := onlyIf wrote (fun s => tileWrite core line (writeLine line new false 7 a.tenant a.keyId s)) s
      let back (x : Thread) : Thread := Thread.setV (vc + 1) (vecOfBytes (data.drop 64)) false (Thread.setV vc (vecOfBytes (data.take 64)) false x)
      endAccess core th a.n (fun x => if cas then Thread.setP pd (if wrote then BitVec.allOnes 64 else 0) (back x) else back x) s

end Sys2Proof.Machine
end

