-- ==== Sys2Proof/Machine/KernelMemory.lean ====
section
/-!
DEFINITION. Machine/KernelMemory.lean: the kernel instructions of the tray and of pool memory, and the return of a pool access
(R438, R448 to R451).
-/
namespace Sys2Proof.Machine

/-! ### The tray (R448) -/

/-- The bytes a tray load sees, least significant first: zeros where a block is poisoned (R337). -/
def Core.trayWord (c : Core) (a n : Nat) : Nat × Bool :=
  if c.trayBad a n then (0, true) else (leNat (cellsRead c.tray a n), false)

/-- A scalar tray load: `sgn` sign-extends. -/
def trayLoad (core th major rt rb size : Nat) (imm : Int) (sgn : Bool) (s : State) : State :=
  let n := 2 ^ size
  issue core th [rt, rb] false false (fun t x s =>
    trayAccess core th major t x (x.xr rb) imm n n (fun a s =>
      let (v, bad) := (s.coreRec core).trayWord a n
      let w : Word64 := if sgn then BitVec.ofInt 64 (signed (8 * n) v) else BitVec.ofNat 64 v
      retire core th major t x (Thread.setX rt w bad) s) s) s

/-- TLD (R448). -/
def execTld (core thread rt rb size : Nat) (imm : Int) (s : State) : Host.Outcome State Fault Refusal := .next (trayLoad core thread 0x14 rt rb size imm false s)
/-- TLDS (R448). -/
def execTlds (core thread rt rb size : Nat) (imm : Int) (s : State) : Host.Outcome State Fault Refusal := .next (trayLoad core thread 0x15 rt rb size imm true s)

/-- TST (R448, R451). -/
def execTst (core thread rt rb size : Nat) (imm : Int) (s : State) : Host.Outcome State Fault Refusal :=
  let n := 2 ^ size
  .next (issue core thread [rt, rb] false false (fun t x s =>
    trayAccess core thread 0x16 t x (x.xr rb) imm n n (fun a s =>
      retire core thread 0x16 t x id (setCore core (fun c => c.trayPut a (leBytes n (x.xr rt).1.toNat) (fun _ => true) (x.xr rt).2) s)) s) s)

/-- VTLD (R448). -/
def execVtld (core thread vt rb : Nat) (imm : Int) (s : State) : Host.Outcome State Fault Refusal :=
  .next (issue core thread [vReg vt, rb] false false (fun t x s =>
    trayAccess core thread 0x17 t x (x.xr rb) (64 * imm) 64 64 (fun a s =>
      let (v, bad) := (s.coreRec core).trayWord a 64
      retire core thread 0x17 t x (Thread.setV vt (BitVec.ofNat 512 v) bad) s) s) s)

/-- VTST (R446 to R448): the governed bytes only. -/
def execVtst (core thread vt rb pred : Nat) (imm : Int) (s : State) : Host.Outcome State Fault Refusal :=
  .next (issue core thread [vReg vt, rb, pReg pred] false false (fun t x s =>
    trayAccess core thread 0x18 t x (x.xr rb) (64 * imm) 64 64 (fun a s =>
      retire core thread 0x18 t x id (setCore core (fun c => c.trayPut a (vecBytes (x.vr vt).1) (fun i => (x.pr pred).getLsbD i) (x.vr vt).2) s)) s) s)

/-- TAMO (R448): the old value of the word goes to x[RD]; a poisoned block is left as it is and reads as poison. -/
def execTamo (core thread rd rs1 rs2 subop : Nat) (s : State) : Host.Outcome State Fault Refusal :=
  .next (issue core thread [rd, rs1, rs2] false false (fun t x s =>
    unpoisoned core thread 0x19 x ((x.xr rs2).2 || (subop == 3 && (x.xr rd).2)) (fun s =>
      trayAccess core thread 0x19 t x (x.xr rs1) 0 8 8 (fun a s =>
        let (old, bad) := (s.coreRec core).trayWord a 8
        if bad then retire core thread 0x19 t x (Thread.setX rd 0 true) s
        else
          let new := leBytes 8 (atomicNew subop old (x.xr rs2).1.toNat (x.xr rd).1.toNat)
          retire core thread 0x19 t x (Thread.setX rd (BitVec.ofNat 64 old) false) (setCore core (fun c => c.trayPut a new (fun _ => true) false) s)) s) s) s)

/-! ### Pool memory (R449, R450) -/

/-- A scalar pool load: READ. -/
def poolLoad (core th major rt rb size : Nat) (imm : Int) (sgn : Bool) (s : State) : State :=
  let n := 2 ^ size
  issue core th [rt, rb] false false (fun t x s =>
    poolAccess core th major t x (x.xr rb).2 (effAddr (x.xr rb).1 imm) n [0] false (.load rt n sgn) id s) s

/-- PLD (R449). -/
def execPld (core thread rt rb size : Nat) (imm : Int) (s : State) : Host.Outcome State Fault Refusal := .next (poolLoad core thread 0x1A rt rb size imm false s)
/-- PLDS (R449). -/
def execPlds (core thread rt rb size : Nat) (imm : Int) (s : State) : Host.Outcome State Fault Refusal := .next (poolLoad core thread 0x1B rt rb size imm true s)

/-- PST (R449): WRITE and page WRITE; a narrow write. -/
def execPst (core thread rt rb size : Nat) (imm : Int) (s : State) : Host.Outcome State Fault Refusal :=
  let n := 2 ^ size
  .next (issue core thread [rt, rb] false false (fun t x s =>
    poolAccess core thread 0x1C t x (x.xr rb).2 (effAddr (x.xr rb).1 imm) n [1] true
      (.store (leBytes n (x.xr rt).1.toNat) (2 ^ n - 1) (x.xr rt).2 false) id s) s)

/-- VPLD (R449). -/
def execVpld (core thread vt rb : Nat) (imm : Int) (s : State) : Host.Outcome State Fault Refusal :=
  .next (issue core thread [vReg vt, rb] false false (fun t x s =>
    poolAccess core thread 0x1D t x (x.xr rb).2 (effAddr (x.xr rb).1 (64 * imm)) 64 [0] false (.vload vt 1) id s) s)

/-- VPST (R446, R447, R449): the governed bytes, a narrow write. -/
def execVpst (core thread vt rb pred : Nat) (imm : Int) (s : State) : Host.Outcome State Fault Refusal :=
  .next (issue core thread [vReg vt, rb, pReg pred] false false (fun t x s =>
    poolAccess core thread 0x1E t x (x.xr rb).2 (effAddr (x.xr rb).1 (64 * imm)) 64 [1] true
      (.store (vecBytes (x.vr vt).1) (x.pr pred).toNat (x.vr vt).2 false) id s) s)

/-- PAMO (R449): ATOMIC and page WRITE; operand B, for CAS, is x[RD]. -/
def execPamo (core thread rd rs1 rs2 subop : Nat) (s : State) : Host.Outcome State Fault Refusal :=
  .next (issue core thread [rd, rs1, rs2] false false (fun t x s =>
    poolAccess core thread 0x1F t x ((x.xr rs1).2 || (x.xr rs2).2 || (subop == 3 && (x.xr rd).2)) (effAddr (x.xr rs1).1 0) 8 [2] true
      (.amo subop (x.xr rs2).1.toNat (x.xr rd).1.toNat rd) id s) s)

/-- A line atomic on the line at x[RB] (R450, R452). -/
def lineAtomic (core th vn vc rb pd : Nat) (cas : Bool) (s : State) : State :=
  issue core th ([vReg vn, vReg (vn + 1), vReg vc, vReg (vc + 1), rb] ++ (if cas then [pReg pd] else [])) false false (fun t x s =>
    let two (i : Nat) : List Byte := vecBytes (x.vr i).1 ++ vecBytes (x.vr (i + 1)).1
    let bad := (x.xr rb).2 || (x.vr vn).2 || (x.vr (vn + 1)).2 || (x.vr vc).2 || (x.vr (vc + 1)).2
    poolAccess core th 0x20 t x bad (effAddr (x.xr rb).1 0) 128 [2] true (.line cas (two vn) (two vc) vc pd) id s) s

/-- LSWAP (R450). -/
def execLswap (core thread vn vc rb : Nat) (s : State) : Host.Outcome State Fault Refusal := .next (lineAtomic core thread vn vc rb 0 false s)
/-- LCAS (R450). -/
def execLcas (core thread vn vc rb pd : Nat) (s : State) : Host.Outcome State Fault Refusal := .next (lineAtomic core thread vn vc rb pd true s)

/-- VPLD2 (R449). -/
def execVpld2 (core thread vt rb : Nat) (imm : Int) (s : State) : Host.Outcome State Fault Refusal :=
  .next (issue core thread [vReg vt, vReg (vt + 1), rb] false false (fun t x s =>
    poolAccess core thread 0x21 t x (x.xr rb).2 (effAddr (x.xr rb).1 (128 * imm)) 128 [0] false (.vload vt 2) id s) s)

/-- VPST2 (R449): a full-line write. -/
def execVpst2 (core thread vt rb : Nat) (imm : Int) (s : State) : Host.Outcome State Fault Refusal :=
  .next (issue core thread [vReg vt, vReg (vt + 1), rb] false false (fun t x s =>
    let bad := (x.vr vt).2 || (x.vr (vt + 1)).2
    poolAccess core thread 0x22 t x (x.xr rb).2 (effAddr (x.xr rb).1 (128 * imm)) 128 [1] true
      (.store (vecBytes (x.vr vt).1 ++ vecBytes (x.vr (vt + 1)).1) (2 ^ 128 - 1) bad true) id s) s)

/-! ### The return of a pool access (R371, R449, R454) -/

/-- A thread's access by its number, unless an earlier one of the thread to the same line is still on its way. -/
def accessDue (x : Thread) (n : Nat) : Option Access :=
  match x.accesses.find? (fun a => a.n == n) with
  | none => none
  | some a => if x.accesses.any (fun b => decide (b.n < n) && b.pa / 128 == a.pa / 128) then none else some a

/-- A load of a kernel with ALLOC that has missed the pantry allocates its line there (R43, R353). -/
def allocate (recipe : Nat) (a : Access) (s : State) : State :=
  match s.recipe recipe, s.storeOf (a.pa / 128) with
  | some r, some m =>
    onlyIf (r.d.flag 1 && !a.kind.writes && !(s.lineMeta m).inPantry && !s.lineFailed (a.pa / 128)) (pantryFill m a.keyId) s
  | _, _ => s

/-- POOL_ACCESS_RETURN (R371, R449 to R451): the access is ordered at its line as an uncached read or a write, and its data returns or
commits, once the line is free of recalls and resident.  `failed` is an INTEGRITY answer, which only a store or an atomic has. -/
def execPoolAccessReturn (core thread n : Nat) (failed : Bool) (s : State) : Host.Outcome State Fault Refusal :=
  if s.frozen then .next s else
  .next (match (s.coreRec core).run with
    | none => s
    | some t =>
      match (aget t.threads thread).bind (fun x => accessDue x n) with
      | none => s
      | some a =>
        if failed && a.kind.writes then endAccess core thread n (lateExc thread a 9) s
        else
        let who := AccBy.kernel core thread n (((s.recipe t.recipe).map (fun r => r.slot)).getD 8192)
        match readyLine who (a.pa / 128) a.tier a.kind.writes a.kind.fetches s with
          | (s, .ready) => performAccess core thread t.recipe a (allocate t.recipe a (useReturned who.src who.tag s))
          | (s, .wait) => s
          | (s, .fail .poisoned) =>
            -- a quarantined set: a load is delivered poisoned, a store is lost (R342)
            let lost (s : State) : State := setRecipe t.recipe (fun r => { r with poison := true }) s
            match a.kind with
            | .load rt _ _ => endAccess core thread n (Thread.setX rt 0 true) s
            | .vload vt k => endAccess core thread n (fun x => (List.range k).foldl (fun x i => Thread.setV (vt + i) 0 true x) x) s
            | .store _ _ _ _ => endAccess core thread n id (lost s)
            | .amo _ _ _ rd => endAccess core thread n (Thread.setX rd 0 true) (lost s)
            | .line _ _ _ _ _ => endAccess core thread n id (takeExc core { cause := 7, thread := thread, pc := a.pc, major := a.major, detail := 0 } s)
          | (s, .fail _) => s)

/-- ACCESS_TIMEOUT (R453, R454): an access without an answer for 2 ms; what was on its way has no further effect. -/
def execAccessTimeout (core thread n : Nat) (s : State) : Host.Outcome State Fault Refusal :=
  if s.frozen then .next s else
  .next (match (s.coreRec core).run with
    | none => s
    | some t =>
      match (aget t.threads thread).bind (fun x => x.accesses.find? (fun a => a.n == n)) with
      | none => s
      | some a => endAccess core thread n (lateExc thread a 13) s)

end Sys2Proof.Machine
end

