-- ==== Sys2Proof/Machine/KernelScalar.lean ====
section
/-!
DEFINITION. Machine/KernelScalar.lean: the kernel instructions of thread and tile control, the scalar operations, branches and jumps
(R437 to R440, R448, R453).
-/
namespace Sys2Proof.Machine

/-! ### Thread and tile control (R439, R448) -/

/-- NOP (R439). -/
def execNop (core thread : Nat) (s : State) : Host.Outcome State Fault Refusal :=
  .next (issue core thread [] false false (fun t x s => retire core thread 0 t x id s) s)

/-- TEXIT (R431, R439, R448): the thread ends and no longer counts toward a barrier; its accesses complete. -/
def execTexit (core thread : Nat) (s : State) : Host.Outcome State Fault Refusal :=
  .next (issue core thread [] true false (fun _ _ s =>
    endTile core (openBarrier core (setThread core thread (fun x => { x with exited := true }) (bump .ktInstrs (dieOfCluster (clusterOf core)) s)))) s)

/-- TRAP (R439, R453): the tile ends with exception TRAP and code x[RS1][31:0]. -/
def execTrap (core thread rs1 : Nat) (s : State) : Host.Outcome State Fault Refusal :=
  .next (issue core thread [rs1] false false (fun _ x s => takeExc core (excHere x thread 0 10 ((x.xr rs1).1.toNat % 2 ^ 32)) s) s)

/-- FENCE (R439): it issues once every earlier pool access of the thread has completed. -/
def execFence (core thread : Nat) (s : State) : Host.Outcome State Fault Refusal :=
  .next (issue core thread [] true true (fun t x s => retire core thread 0 t x id s) s)

/-- A thread at the barrier (R448). -/
def reachBarrier (core thread : Nat) (t : CoreTile) (x : Thread) (s : State) : State :=
  openBarrier core (retire core thread 0 t x (fun x => { x with atBar := true }) s)

/-- BAR (R448). -/
def execBar (core thread : Nat) (s : State) : Host.Outcome State Fault Refusal :=
  .next (issue core thread [] false false (reachBarrier core thread) s)

/-- BARF (R439): FENCE, then BAR. -/
def execBarf (core thread : Nat) (s : State) : Host.Outcome State Fault Refusal :=
  .next (issue core thread [] true true (reachBarrier core thread) s)

/-- TRES (R432, R439): adds x[RS1] to the recipe's RESULT2, modulo 2⁶⁴. -/
def execTres (core thread rs1 : Nat) (s : State) : Host.Outcome State Fault Refusal :=
  .next (issue core thread [rs1] false false (fun t x s =>
    unpoisoned core thread 0 x (x.xr rs1).2 (fun s =>
      retire core thread 0 t x id (setRecipe t.recipe (fun r => { r with result2 := (r.result2 + (x.xr rs1).1.toNat) % 2 ^ 64 }) s)) s) s)

/-- TIME (R439, R618): global time of the core's die in ns. -/
def execTime (core thread rd : Nat) (s : State) : Host.Outcome State Fault Refusal :=
  .next (scalarOp core thread 0 rd [] (fun s _ => (BitVec.ofNat 64 (s.timeOf (dieOfCluster (clusterOf core)) / 256), false)) s)

/-- A flag as a register value. -/
def flagWord (b : Bool) : Word64 := if b then 1 else 0

/-- XPOIS (R439): its own result is never poisoned. -/
def execXpois (core thread rd rs1 : Nat) (s : State) : Host.Outcome State Fault Refusal :=
  .next (scalarOp core thread 0 rd [rs1] (fun _ x => (flagWord (x.xr rs1).2, false)) s)
/-- VPOIS (R439). -/
def execVpois (core thread rd rs1 : Nat) (s : State) : Host.Outcome State Fault Refusal :=
  .next (scalarOp core thread 0 rd [vReg rs1] (fun _ x => (flagWord (x.vr rs1).2, false)) s)
/-- APOIS (R439). -/
def execApois (core thread rd rs1 : Nat) (s : State) : Host.Outcome State Fault Refusal :=
  .next (scalarOp core thread 0 rd [aReg rs1] (fun _ x => (flagWord (x.ar rs1).poison, false)) s)

/-- PSET (R439, R452). -/
def execPset (core thread rd rs1 : Nat) (s : State) : Host.Outcome State Fault Refusal :=
  .next (issue core thread [rs1, pReg rd] false false (fun t x s =>
    unpoisoned core thread 0 x (x.xr rs1).2 (retire core thread 0 t x (Thread.setP rd (x.xr rs1).1)) s) s)
/-- PGET (R439). -/
def execPget (core thread rd rs1 : Nat) (s : State) : Host.Outcome State Fault Refusal :=
  .next (scalarOp core thread 0 rd [pReg rs1] (fun _ x => (x.pr rs1, false)) s)

/-! ### The ALU (R440) -/

/-- An ALU instruction: poisoned where a source is (R451). -/
def aluOp (core thread rd rs1 rs2 : Nat) (op : AluOp) (s : State) : State :=
  scalarOp core thread 1 rd [rs1, rs2] (fun _ x => (alu op (x.xr rs1).1 (x.xr rs2).1, (x.xr rs1).2 || (x.xr rs2).2)) s

/-- ALU ADD (R440). -/
def execAluAdd (core thread rd rs1 rs2 : Nat) (s : State) : Host.Outcome State Fault Refusal := .next (aluOp core thread rd rs1 rs2 .add s)
/-- ALU SUB (R440). -/
def execAluSub (core thread rd rs1 rs2 : Nat) (s : State) : Host.Outcome State Fault Refusal := .next (aluOp core thread rd rs1 rs2 .sub s)
/-- ALU MUL (R440). -/
def execAluMul (core thread rd rs1 rs2 : Nat) (s : State) : Host.Outcome State Fault Refusal := .next (aluOp core thread rd rs1 rs2 .mul s)
/-- ALU MULH (R440). -/
def execAluMulh (core thread rd rs1 rs2 : Nat) (s : State) : Host.Outcome State Fault Refusal := .next (aluOp core thread rd rs1 rs2 .mulh s)
/-- ALU MULHU (R440). -/
def execAluMulhu (core thread rd rs1 rs2 : Nat) (s : State) : Host.Outcome State Fault Refusal := .next (aluOp core thread rd rs1 rs2 .mulhu s)
/-- ALU DIV (R440). -/
def execAluDiv (core thread rd rs1 rs2 : Nat) (s : State) : Host.Outcome State Fault Refusal := .next (aluOp core thread rd rs1 rs2 .div s)
/-- ALU DIVU (R440). -/
def execAluDivu (core thread rd rs1 rs2 : Nat) (s : State) : Host.Outcome State Fault Refusal := .next (aluOp core thread rd rs1 rs2 .divu s)
/-- ALU REM (R440). -/
def execAluRem (core thread rd rs1 rs2 : Nat) (s : State) : Host.Outcome State Fault Refusal := .next (aluOp core thread rd rs1 rs2 .rem s)
/-- ALU REMU (R440). -/
def execAluRemu (core thread rd rs1 rs2 : Nat) (s : State) : Host.Outcome State Fault Refusal := .next (aluOp core thread rd rs1 rs2 .remu s)
/-- ALU AND (R440). -/
def execAluAnd (core thread rd rs1 rs2 : Nat) (s : State) : Host.Outcome State Fault Refusal := .next (aluOp core thread rd rs1 rs2 .and s)
/-- ALU OR (R440). -/
def execAluOr (core thread rd rs1 rs2 : Nat) (s : State) : Host.Outcome State Fault Refusal := .next (aluOp core thread rd rs1 rs2 .or s)
/-- ALU XOR (R440). -/
def execAluXor (core thread rd rs1 rs2 : Nat) (s : State) : Host.Outcome State Fault Refusal := .next (aluOp core thread rd rs1 rs2 .xor s)
/-- ALU SLL (R440). -/
def execAluSll (core thread rd rs1 rs2 : Nat) (s : State) : Host.Outcome State Fault Refusal := .next (aluOp core thread rd rs1 rs2 .sll s)
/-- ALU SRL (R440). -/
def execAluSrl (core thread rd rs1 rs2 : Nat) (s : State) : Host.Outcome State Fault Refusal := .next (aluOp core thread rd rs1 rs2 .srl s)
/-- ALU SRA (R440). -/
def execAluSra (core thread rd rs1 rs2 : Nat) (s : State) : Host.Outcome State Fault Refusal := .next (aluOp core thread rd rs1 rs2 .sra s)
/-- ALU SLT (R440). -/
def execAluSlt (core thread rd rs1 rs2 : Nat) (s : State) : Host.Outcome State Fault Refusal := .next (aluOp core thread rd rs1 rs2 .slt s)
/-- ALU SLTU (R440). -/
def execAluSltu (core thread rd rs1 rs2 : Nat) (s : State) : Host.Outcome State Fault Refusal := .next (aluOp core thread rd rs1 rs2 .sltu s)
/-- ALU MIN (R440). -/
def execAluMin (core thread rd rs1 rs2 : Nat) (s : State) : Host.Outcome State Fault Refusal := .next (aluOp core thread rd rs1 rs2 .min s)
/-- ALU MAX (R440). -/
def execAluMax (core thread rd rs1 rs2 : Nat) (s : State) : Host.Outcome State Fault Refusal := .next (aluOp core thread rd rs1 rs2 .max s)
/-- ALU MINU (R440). -/
def execAluMinu (core thread rd rs1 rs2 : Nat) (s : State) : Host.Outcome State Fault Refusal := .next (aluOp core thread rd rs1 rs2 .minu s)
/-- ALU MAXU (R440). -/
def execAluMaxu (core thread rd rs1 rs2 : Nat) (s : State) : Host.Outcome State Fault Refusal := .next (aluOp core thread rd rs1 rs2 .maxu s)

/-! ### Immediates (R438) -/

/-- A scalar operation on one register and an immediate. -/
def immOp (core thread major rd rs1 : Nat) (imm : Int) (op : AluOp) (s : State) : State :=
  scalarOp core thread major rd [rs1] (fun _ x => (alu op (x.xr rs1).1 (BitVec.ofInt 64 imm), (x.xr rs1).2)) s

/-- ADDI (R438). -/
def execAddi (core thread rd rs1 : Nat) (imm : Int) (s : State) : Host.Outcome State Fault Refusal := .next (immOp core thread 2 rd rs1 imm .add s)
/-- ANDI (R438). -/
def execAndi (core thread rd rs1 : Nat) (imm : Int) (s : State) : Host.Outcome State Fault Refusal := .next (immOp core thread 3 rd rs1 imm .and s)
/-- ORI (R438). -/
def execOri (core thread rd rs1 : Nat) (imm : Int) (s : State) : Host.Outcome State Fault Refusal := .next (immOp core thread 4 rd rs1 imm .or s)
/-- XORI (R438). -/
def execXori (core thread rd rs1 : Nat) (imm : Int) (s : State) : Host.Outcome State Fault Refusal := .next (immOp core thread 5 rd rs1 imm .xor s)
/-- SLTI (R438). -/
def execSlti (core thread rd rs1 : Nat) (imm : Int) (s : State) : Host.Outcome State Fault Refusal := .next (immOp core thread 7 rd rs1 imm .slt s)
/-- SHI SLL (R438). -/
def execShiSll (core thread rd rs1 sh : Nat) (s : State) : Host.Outcome State Fault Refusal := .next (immOp core thread 6 rd rs1 (sh : Int) .sll s)
/-- SHI SRL (R438). -/
def execShiSrl (core thread rd rs1 sh : Nat) (s : State) : Host.Outcome State Fault Refusal := .next (immOp core thread 6 rd rs1 (sh : Int) .srl s)
/-- SHI SRA (R438). -/
def execShiSra (core thread rd rs1 sh : Nat) (s : State) : Host.Outcome State Fault Refusal := .next (immOp core thread 6 rd rs1 (sh : Int) .sra s)

/-- LUI (R438): IMM20 × 2¹⁴, sign-extended. -/
def execLui (core thread rd : Nat) (imm : Int) (s : State) : Host.Outcome State Fault Refusal :=
  .next (scalarOp core thread 8 rd [] (fun _ _ => (BitVec.ofInt 64 (imm * 2 ^ 14), false)) s)

/-! ### Branches and jumps (R438, R452) -/

/-- BEQ (R438). -/
def execBeq (core thread rs1 rs2 : Nat) (off : Int) (s : State) : Host.Outcome State Fault Refusal := .next (branch core thread 0x0A rs1 rs2 off (fun a b => a == b) s)
/-- BNE (R438). -/
def execBne (core thread rs1 rs2 : Nat) (off : Int) (s : State) : Host.Outcome State Fault Refusal := .next (branch core thread 0x0B rs1 rs2 off (fun a b => a != b) s)
/-- BLT (R438). -/
def execBlt (core thread rs1 rs2 : Nat) (off : Int) (s : State) : Host.Outcome State Fault Refusal := .next (branch core thread 0x0C rs1 rs2 off BitVec.slt s)
/-- BGE (R438). -/
def execBge (core thread rs1 rs2 : Nat) (off : Int) (s : State) : Host.Outcome State Fault Refusal := .next (branch core thread 0x0D rs1 rs2 off (fun a b => !a.slt b) s)
/-- BLTU (R438). -/
def execBltu (core thread rs1 rs2 : Nat) (off : Int) (s : State) : Host.Outcome State Fault Refusal := .next (branch core thread 0x0E rs1 rs2 off BitVec.ult s)
/-- BGEU (R438). -/
def execBgeu (core thread rs1 rs2 : Nat) (off : Int) (s : State) : Host.Outcome State Fault Refusal := .next (branch core thread 0x0F rs1 rs2 off (fun a b => !a.ult b) s)

/-- JAL (R438). -/
def execJal (core thread rd : Nat) (imm : Int) (s : State) : Host.Outcome State Fault Refusal :=
  .next (issue core thread [rd] false false (fun t x s =>
    retireTo core thread 0x10 t x (x.pc + imm) (Thread.setX rd (BitVec.ofNat 64 (x.pc + 1)) false) s) s)

/-- JALR (R438, R452): the target is read before the link is written. -/
def execJalr (core thread rd rs1 : Nat) (imm : Int) (s : State) : Host.Outcome State Fault Refusal :=
  .next (issue core thread [rd, rs1] false false (fun t x s =>
    unpoisoned core thread 0x11 x (x.xr rs1).2
      (retireTo core thread 0x11 t x (effAddr (x.xr rs1).1 imm) (Thread.setX rd (BitVec.ofNat 64 (x.pc + 1)) false)) s) s)

/-- Whether a predicate meets COND (R438): 0 any bit set, 1 no bit set, 2 all bits set; 3 is reserved. -/
def meetsCond (p : Word64) (cond : Nat) : Bool :=
  match cond with
  | 0 => p != 0
  | 1 => p == 0
  | 2 => p == BitVec.allOnes 64
  | _ => false

/-- PBR (R438). -/
def execPbr (core thread pr cond : Nat) (off : Int) (s : State) : Host.Outcome State Fault Refusal :=
  .next (issue core thread [pReg pr] false false (fun t x s =>
    retireTo core thread 0x12 t x (if meetsCond (x.pr pr) cond then x.pc + off else x.pc + 1) id s) s)

end Sys2Proof.Machine
end

