-- ==== Sys2Proof/Machine/KernelVector.lean ====
section
/-!
DEFINITION. Machine/KernelVector.lean: the vector and accumulator instructions (R435, R436, R441 to R447, R451).  A reserved format
or index never reaches a thread, since a text is decoded at load (R458); such a command changes nothing.
-/
namespace Sys2Proof.Machine

/-! ### Formats (R435, R436, R441 to R445) -/

/-- The formats that R436 does not restrict. -/
def Fmt.plainVec (f : Fmt) : Bool := !(f == .e2m3 || f == .e3m2 || f == .e2m1)
/-- DIV and SQRT. -/
def Fmt.divides (f : Fmt) : Bool := f == .binary32 || f == .binary16 || f == .bfloat16
/-- VCMP. -/
def Fmt.compares (f : Fmt) : Bool := f.plainVec && f != .int4
/-- VRED. -/
def Fmt.reduces (f : Fmt) : Bool := f == .int64 || f == .int32 || f == .int16 || f == .int8
/-- AADD and ADOT with block scales. -/
def Fmt.scales (f : Fmt) : Bool := f == .int8 || f == .e4m3 || f == .e5m2 || f == .e2m3 || f == .e3m2 || f == .e2m1

/-- Whether E4M3 overflow writes NaN, at the moment of execution (R441). -/
def State.e4m3Nan (s : State) : Bool := s.obj .e4m3Overflow == 1

/-! ### Elementwise operations (R441, R443, R446, R451) -/

/-- Apply an operation to the governed elements of a register, with what the written elements count as (R413, R425). -/
def vapply (f : Fmt) (p : Word64) (old : Vec512) (g : Nat → Written) : Vec512 × NumEv :=
  (vmap f p old (fun e => (g e).bits),
   (List.range f.count).foldl (fun ev e => if governs f p e then ev.add (g e).ev else ev) NumEv.zero)

/-- An instruction that computes one vector: `g` gives the governed elements in format `f`; the others keep the destination's.  The
result is poisoned where a source is, and where it keeps elements of a poisoned destination or reads it (`reads`). -/
def vecOp (core th major vd : Nat) (xs vs : List Nat) (pred : Nat) (f : Fmt) (reads : Bool) (g : State → Thread → Nat → Written) (s : State) : State :=
  issue core th (vReg vd :: pReg pred :: xs ++ vs.map vReg) false false (fun t x s =>
    let p := x.pr pred
    let old := x.vr vd
    let bad := xs.any (fun i => (x.xr i).2) || vs.any (fun i => (x.vr i).2) || ((reads || !governsAll f p) && old.2)
    let (r, ev) := vapply f p old.1 (g s x)
    retire core th major t x (Thread.setV vd r bad) (if bad then s else countEv (dieOfCluster (clusterOf core)) ev s)) s

/-- Run something in the register format of a code, where the code is one that `ok` allows. -/
def withFmt (code : Nat) (ok : Fmt → Bool) (go : Fmt → State → State) (s : State) : State :=
  match Fmt.ofReg code with
  | some f => if ok f then go f s else s
  | none => s

/-- VARITH of two operands. -/
def varith2 (core th vd vs1 vs2 pred fmt : Nat) (ok : Fmt → Bool) (op : VOp) (s : State) : State :=
  withFmt fmt ok (fun f s => vecOp core th 0x24 vd [] [vs1, vs2] pred f false
    (fun s x e => vop op f s.e4m3Nan (elem f (x.vr vs1).1 e) (elem f (x.vr vs2).1 e)) s) s
/-- VARITH of one operand. -/
def varith1 (core th vd vs1 pred fmt : Nat) (ok : Fmt → Bool) (op : VOp) (s : State) : State :=
  withFmt fmt ok (fun f s => vecOp core th 0x24 vd [] [vs1] pred f false
    (fun s x e => vop op f s.e4m3Nan (elem f (x.vr vs1).1 e) 0) s) s

/-- VARITH ADD (R441). -/
def execVarithAdd (core thread vd vs1 vs2 pred fmt : Nat) (s : State) : Host.Outcome State Fault Refusal := .next (varith2 core thread vd vs1 vs2 pred fmt Fmt.plainVec .add s)
/-- VARITH SUB (R441). -/
def execVarithSub (core thread vd vs1 vs2 pred fmt : Nat) (s : State) : Host.Outcome State Fault Refusal := .next (varith2 core thread vd vs1 vs2 pred fmt Fmt.plainVec .sub s)
/-- VARITH MUL (R441). -/
def execVarithMul (core thread vd vs1 vs2 pred fmt : Nat) (s : State) : Host.Outcome State Fault Refusal := .next (varith2 core thread vd vs1 vs2 pred fmt Fmt.plainVec .mul s)
/-- VARITH MIN (R441). -/
def execVarithMin (core thread vd vs1 vs2 pred fmt : Nat) (s : State) : Host.Outcome State Fault Refusal := .next (varith2 core thread vd vs1 vs2 pred fmt Fmt.plainVec .min s)
/-- VARITH MAX (R441). -/
def execVarithMax (core thread vd vs1 vs2 pred fmt : Nat) (s : State) : Host.Outcome State Fault Refusal := .next (varith2 core thread vd vs1 vs2 pred fmt Fmt.plainVec .max s)
/-- VARITH ABS (R441). -/
def execVarithAbs (core thread vd vs1 pred fmt : Nat) (s : State) : Host.Outcome State Fault Refusal := .next (varith1 core thread vd vs1 pred fmt Fmt.plainVec .abs s)
/-- VARITH NEG (R441). -/
def execVarithNeg (core thread vd vs1 pred fmt : Nat) (s : State) : Host.Outcome State Fault Refusal := .next (varith1 core thread vd vs1 pred fmt Fmt.plainVec .neg s)
/-- VARITH AND (R441). -/
def execVarithAnd (core thread vd vs1 vs2 pred fmt : Nat) (s : State) : Host.Outcome State Fault Refusal := .next (varith2 core thread vd vs1 vs2 pred fmt Fmt.isInt .and s)
/-- VARITH OR (R441). -/
def execVarithOr (core thread vd vs1 vs2 pred fmt : Nat) (s : State) : Host.Outcome State Fault Refusal := .next (varith2 core thread vd vs1 vs2 pred fmt Fmt.isInt .or s)
/-- VARITH XOR (R441). -/
def execVarithXor (core thread vd vs1 vs2 pred fmt : Nat) (s : State) : Host.Outcome State Fault Refusal := .next (varith2 core thread vd vs1 vs2 pred fmt Fmt.isInt .xor s)
/-- VARITH SHL (R441). -/
def execVarithShl (core thread vd vs1 vs2 pred fmt : Nat) (s : State) : Host.Outcome State Fault Refusal := .next (varith2 core thread vd vs1 vs2 pred fmt Fmt.isInt .shl s)
/-- VARITH SHR (R441). -/
def execVarithShr (core thread vd vs1 vs2 pred fmt : Nat) (s : State) : Host.Outcome State Fault Refusal := .next (varith2 core thread vd vs1 vs2 pred fmt Fmt.isInt .shr s)
/-- VARITH SAR (R441). -/
def execVarithSar (core thread vd vs1 vs2 pred fmt : Nat) (s : State) : Host.Outcome State Fault Refusal := .next (varith2 core thread vd vs1 vs2 pred fmt Fmt.isInt .sar s)
/-- VARITH DIV (R441). -/
def execVarithDiv (core thread vd vs1 vs2 pred fmt : Nat) (s : State) : Host.Outcome State Fault Refusal := .next (varith2 core thread vd vs1 vs2 pred fmt Fmt.divides .div s)
/-- VARITH SQRT (R441). -/
def execVarithSqrt (core thread vd vs1 pred fmt : Nat) (s : State) : Host.Outcome State Fault Refusal := .next (varith1 core thread vd vs1 pred fmt Fmt.divides .sqrt s)

/-- A fused operation: v[VD] is an operand (R438, R441). -/
def fusedOp (core th k vd vs1 vs2 pred fmt : Nat) (s : State) : State :=
  withFmt fmt Fmt.plainVec (fun f s => vecOp core th 0x25 vd [] [vs1, vs2] pred f true
    (fun s x e => vfma k f s.e4m3Nan (elem f (x.vr vs1).1 e) (elem f (x.vr vs2).1 e) (elem f (x.vr vd).1 e)) s) s

/-- FMA (R438). -/
def execFma (core thread vd vs1 vs2 pred fmt : Nat) (s : State) : Host.Outcome State Fault Refusal := .next (fusedOp core thread 0 vd vs1 vs2 pred fmt s)
/-- FMS (R438). -/
def execFms (core thread vd vs1 vs2 pred fmt : Nat) (s : State) : Host.Outcome State Fault Refusal := .next (fusedOp core thread 1 vd vs1 vs2 pred fmt s)
/-- FNMA (R438). -/
def execFnma (core thread vd vs1 vs2 pred fmt : Nat) (s : State) : Host.Outcome State Fault Refusal := .next (fusedOp core thread 2 vd vs1 vs2 pred fmt s)

/-! ### Compare (R442, R452) -/

/-- What VCMP writes: the bits of the governed elements whose compare holds (R442). -/
def vcmpMask (op : CmpOp) (f : Fmt) (p : Word64) (a b : Vec512) : Word64 :=
  BitVec.ofNat 64 ((List.range f.count).foldl (fun m e => if governs f p e && vcmp op f (elem f a e) (elem f b e) then m ||| predMask f e else m) 0)

/-- VCMP: the bits of the governed elements are set to their results, every other bit to 0. -/
def compareOp (core th pd vs1 vs2 pred fmt : Nat) (ok : Fmt → Bool) (op : CmpOp) (s : State) : State :=
  withFmt fmt (fun f => f.compares && ok f) (fun f s =>
    issue core th [vReg vs1, vReg vs2, pReg pred, pReg pd] false false (fun t x s =>
      unpoisoned core th 0x26 x ((x.vr vs1).2 || (x.vr vs2).2) (fun s =>
        retire core th 0x26 t x (Thread.setP pd (vcmpMask op f (x.pr pred) (x.vr vs1).1 (x.vr vs2).1)) s) s) s) s

/-- VCMP EQ (R442). -/
def execVcmpEq (core thread pd vs1 vs2 pred fmt : Nat) (s : State) : Host.Outcome State Fault Refusal := .next (compareOp core thread pd vs1 vs2 pred fmt (fun _ => true) .eq s)
/-- VCMP NE (R442). -/
def execVcmpNe (core thread pd vs1 vs2 pred fmt : Nat) (s : State) : Host.Outcome State Fault Refusal := .next (compareOp core thread pd vs1 vs2 pred fmt (fun _ => true) .ne s)
/-- VCMP LT (R442). -/
def execVcmpLt (core thread pd vs1 vs2 pred fmt : Nat) (s : State) : Host.Outcome State Fault Refusal := .next (compareOp core thread pd vs1 vs2 pred fmt (fun _ => true) .lt s)
/-- VCMP LE (R442). -/
def execVcmpLe (core thread pd vs1 vs2 pred fmt : Nat) (s : State) : Host.Outcome State Fault Refusal := .next (compareOp core thread pd vs1 vs2 pred fmt (fun _ => true) .le s)
/-- VCMP GT (R442). -/
def execVcmpGt (core thread pd vs1 vs2 pred fmt : Nat) (s : State) : Host.Outcome State Fault Refusal := .next (compareOp core thread pd vs1 vs2 pred fmt (fun _ => true) .gt s)
/-- VCMP GE (R442). -/
def execVcmpGe (core thread pd vs1 vs2 pred fmt : Nat) (s : State) : Host.Outcome State Fault Refusal := .next (compareOp core thread pd vs1 vs2 pred fmt (fun _ => true) .ge s)
/-- VCMP UNORD (R442). -/
def execVcmpUnord (core thread pd vs1 vs2 pred fmt : Nat) (s : State) : Host.Outcome State Fault Refusal := .next (compareOp core thread pd vs1 vs2 pred fmt (fun f => !f.isInt) .unord s)
/-- VCMP LTU (R442). -/
def execVcmpLtu (core thread pd vs1 vs2 pred fmt : Nat) (s : State) : Host.Outcome State Fault Refusal := .next (compareOp core thread pd vs1 vs2 pred fmt Fmt.isInt .ltu s)
/-- VCMP GEU (R442). -/
def execVcmpGeu (core thread pd vs1 vs2 pred fmt : Nat) (s : State) : Host.Outcome State Fault Refusal := .next (compareOp core thread pd vs1 vs2 pred fmt Fmt.isInt .geu s)

/-! ### Conversion, moves, elements (R438, R443) -/

/-- The source element of a destination element of VCVT, for part `k` (R443); none where the destination element is unchanged. -/
def cvtSource (src dst : Fmt) (k e : Nat) : Option Nat :=
  if dst.count > src.count then (if k * src.count ≤ e ∧ e < (k + 1) * src.count then some (e - k * src.count) else none)
  else some (k * dst.count + e)

/-- The parts of a conversion: the ratio of the element counts (R443). -/
def cvtParts (src dst : Fmt) : Nat := if dst.count > src.count then dst.count / src.count else src.count / dst.count

/-- VCVT (R443): the predicate governs elements of the destination. -/
def execVcvt (core thread vd vs1 part pred fmt fmtTo : Nat) (s : State) : Host.Outcome State Fault Refusal :=
  .next (withFmt fmt (fun _ => true) (fun src s => withFmt fmtTo Fmt.plainVec (fun dst s =>
    if part ≥ cvtParts src dst then s
    else vecOp core thread 0x27 vd [] [vs1] pred dst (decide (dst.count > src.count)) (fun s x e =>
      match cvtSource src dst part e with
      | some j => writeVal dst s.e4m3Nan (decode src (elem src (x.vr vs1).1 j))
      | none => Written.of (elem dst (x.vr vd).1 e)) s) s) s)

/-- VMOV (R438). -/
def execVmov (core thread vd vs1 pred fmt : Nat) (s : State) : Host.Outcome State Fault Refusal :=
  .next (withFmt fmt Fmt.plainVec (fun f s => vecOp core thread 0x28 vd [] [vs1] pred f false (fun _ x e => Written.of (elem f (x.vr vs1).1 e)) s) s)

/-- The bytes of one vector that another names, each modulo 64 (R438). -/
def permBytes (v idx : Vec512) : Vec512 :=
  let b := vecBytes v
  vecOfBytes ((vecBytes idx).map (fun i => b.getD (i.toNat % 64) 0))

/-- VPERM (R438). -/
def execVperm (core thread vd vs1 vs2 pred fmt : Nat) (s : State) : Host.Outcome State Fault Refusal :=
  .next (withFmt fmt Fmt.plainVec (fun f s => vecOp core thread 0x28 vd [] [vs1, vs2] pred f false
    (fun _ x e => Written.of (elem f (permBytes (x.vr vs1).1 (x.vr vs2).1) e)) s) s)

/-- VSEL (R438): every element is written, from v[VS1] where p[PRED] governs and from v[VS2] elsewhere. -/
def execVsel (core thread vd vs1 vs2 pred fmt : Nat) (s : State) : Host.Outcome State Fault Refusal :=
  .next (withFmt fmt Fmt.plainVec (fun f s =>
    issue core thread [vReg vd, vReg vs1, vReg vs2, pReg pred] false false (fun t x s =>
      let r := vmap f (x.pr pred) (x.vr vs2).1 (fun e => elem f (x.vr vs1).1 e)
      retire core thread 0x28 t x (Thread.setV vd r ((x.vr vs1).2 || (x.vr vs2).2)) s) s) s)

/-- VBCAST (R438). -/
def execVbcast (core thread vd xs pred fmt : Nat) (s : State) : Host.Outcome State Fault Refusal :=
  .next (withFmt fmt Fmt.plainVec (fun f s => vecOp core thread 0x29 vd [xs] [] pred f false
    (fun _ x _ => Written.of ((x.xr xs).1.toNat % 2 ^ f.bits)) s) s)

/-- VEXT (R438): integers sign-extended, other formats zero-extended. -/
def execVext (core thread xd vs index fmt : Nat) (s : State) : Host.Outcome State Fault Refusal :=
  .next (withFmt fmt (fun f => f.plainVec && decide (index < f.count)) (fun f s =>
    scalarOp core thread 0x2A xd [vReg vs] (fun _ x =>
      let v := elem f (x.vr vs).1 index
      (if f.isInt then BitVec.ofInt 64 (signed f.bits v) else BitVec.ofNat 64 v, (x.vr vs).2)) s) s)

/-- One element of a vector replaced. -/
def putElem (f : Fmt) (v : Vec512) (index n : Nat) : Vec512 :=
  ofElems f ((List.range f.count).map (fun e => if e = index then n else elem f v e)) v

/-- VINS (R438): the other elements are unchanged, so the old destination is a source. -/
def execVins (core thread vd xs index fmt : Nat) (s : State) : Host.Outcome State Fault Refusal :=
  .next (withFmt fmt (fun f => f.plainVec && decide (index < f.count)) (fun f s =>
    issue core thread [vReg vd, xs] false false (fun t x s =>
      retire core thread 0x2B t x (Thread.setV vd (putElem f (x.vr vd).1 index ((x.xr xs).1.toNat % 2 ^ f.bits)) ((x.vr vd).2 || (x.xr xs).2)) s) s) s)

/-- A reduction of the governed elements (R444). -/
def reduceOp (core th xd vs pred fmt : Nat) (op : RedOp) (s : State) : State :=
  withFmt fmt Fmt.reduces (fun f s => scalarOp core th 0x2C xd [vReg vs, pReg pred] (fun _ x => (vred op f (x.pr pred) (x.vr vs).1, (x.vr vs).2)) s) s

/-- VRED ADD (R444). -/
def execVredAdd (core thread xd vs pred fmt : Nat) (s : State) : Host.Outcome State Fault Refusal := .next (reduceOp core thread xd vs pred fmt .add s)
/-- VRED MIN (R444). -/
def execVredMin (core thread xd vs pred fmt : Nat) (s : State) : Host.Outcome State Fault Refusal := .next (reduceOp core thread xd vs pred fmt .min s)
/-- VRED MAX (R444). -/
def execVredMax (core thread xd vs pred fmt : Nat) (s : State) : Host.Outcome State Fault Refusal := .next (reduceOp core thread xd vs pred fmt .max s)
/-- VRED MINU (R444). -/
def execVredMinu (core thread xd vs pred fmt : Nat) (s : State) : Host.Outcome State Fault Refusal := .next (reduceOp core thread xd vs pred fmt .minu s)
/-- VRED MAXU (R444). -/
def execVredMaxu (core thread xd vs pred fmt : Nat) (s : State) : Host.Outcome State Fault Refusal := .next (reduceOp core thread xd vs pred fmt .maxu s)
/-- VRED AND (R444). -/
def execVredAnd (core thread xd vs pred fmt : Nat) (s : State) : Host.Outcome State Fault Refusal := .next (reduceOp core thread xd vs pred fmt .and s)
/-- VRED OR (R444). -/
def execVredOr (core thread xd vs pred fmt : Nat) (s : State) : Host.Outcome State Fault Refusal := .next (reduceOp core thread xd vs pred fmt .or s)
/-- VRED XOR (R444). -/
def execVredXor (core thread xd vs pred fmt : Nat) (s : State) : Host.Outcome State Fault Refusal := .next (reduceOp core thread xd vs pred fmt .xor s)

/-! ### Accumulators (R405 to R411, R445) -/

/-- The value of element `e` of a vector: its element value, or under the scale of its block in x[XS], whose bytes for this vector begin
at byte `at_` (R445). -/
def scaledElem (f : Fmt) (xs : Nat) (scales : Word64) (at_ : Nat) (v : Vec512) (e : Nat) : Val :=
  if xs = 0 then decode f (elem f v e) else mxValue f (bits scales.toNat (8 * (at_ + e / 32)) 8) (elem f v e)

/-- Add the governed elements' addends to an accumulator; a poisoned source sets its POISON flag instead (R408, R451). -/
def accumulate (f : Fmt) (p : Word64) (bad : Bool) (g : Nat → Val) (a : Acc) : Acc × NumEv :=
  (List.range f.count).foldl (fun (acc : Acc × NumEv) e =>
    if !governs f p e then acc
    else if bad then (acc.1.addPoison, acc.2)
    else
      let (a, carry, tiny) := acc.1.add (g e)
      (a, { acc.2 with carry := acc.2.carry + (if carry then 1 else 0), tiny := acc.2.tiny + (if tiny then 1 else 0) })) (a, NumEv.zero)

/-- AADD and ADOT. -/
def accOp (core th major ad : Nat) (vs : List Nat) (xs pred fmt : Nat) (g : Fmt → Thread → Nat → Val) (s : State) : State :=
  withFmt fmt (fun f => xs == 0 || f.scales) (fun f s =>
    issue core th ([aReg ad, xs, pReg pred] ++ vs.map vReg) false false (fun t x s =>
      unpoisoned core th major x (x.xr xs).2 (fun s =>
        let (a, ev) := accumulate f (x.pr pred) (vs.any (fun i => (x.vr i).2)) (g f x) (x.ar ad)
        retire core th major t x (Thread.setA ad a) (countEv (dieOfCluster (clusterOf core)) ev s)) s) s) s

/-- AADD (R445). -/
def execAadd (core thread ad vs1 xs pred fmt : Nat) (s : State) : Host.Outcome State Fault Refusal :=
  .next (accOp core thread 0x30 ad [vs1] xs pred fmt (fun f x e => scaledElem f xs (x.xr xs).1 0 (x.vr vs1).1 e) s)
/-- ADOT (R445). -/
def execAdot (core thread ad vs1 vs2 xs pred fmt : Nat) (s : State) : Host.Outcome State Fault Refusal :=
  .next (accOp core thread 0x31 ad [vs1, vs2] xs pred fmt (fun f x e =>
    (scaledElem f xs (x.xr xs).1 0 (x.vr vs1).1 e).mul (scaledElem f xs (x.xr xs).1 4 (x.vr vs2).1 e)) s)

/-- ACLR (R445). -/
def execAclr (core thread ad : Nat) (s : State) : Host.Outcome State Fault Refusal :=
  .next (issue core thread [aReg ad] false false (fun t x s => retire core thread 0x32 t x (Thread.setA ad Acc.empty) s) s)
/-- AMOV (R445). -/
def execAmov (core thread ad as_ : Nat) (s : State) : Host.Outcome State Fault Refusal :=
  .next (issue core thread [aReg ad, aReg as_] false false (fun t x s => retire core thread 0x32 t x (Thread.setA ad (x.ar as_)) s) s)
/-- AMERGE (R409, R445). -/
def execAmerge (core thread ad as_ : Nat) (s : State) : Host.Outcome State Fault Refusal :=
  .next (issue core thread [aReg ad, aReg as_] false false (fun t x s =>
    let (a, carry) := (x.ar ad).merge (x.ar as_)
    retire core thread 0x32 t x (Thread.setA ad a) (countEv (dieOfCluster (clusterOf core)) { NumEv.zero with carry := if carry then 1 else 0 } s)) s)

/-- AOUT (R411 to R414, R445). -/
def execAout (core thread ad vr index fmt : Nat) (s : State) : Host.Outcome State Fault Refusal :=
  .next (withFmt fmt (fun f => f.plainVec && decide (index < f.count)) (fun f s =>
    issue core thread [aReg ad, vReg vr] false false (fun t x s =>
      let w := writeVal f s.e4m3Nan (x.ar ad).value
      let bad := (x.ar ad).poison || (x.vr vr).2
      let ev := if (x.ar ad).poison then { NumEv.zero with readouts := 1 } else { w.ev with readouts := 1 }
      retire core thread 0x32 t x (Thread.setV vr (putElem f (x.vr vr).1 index w.bits) bad) (countEv (dieOfCluster (clusterOf core)) ev s)) s) s)

/-- ASAVE (R410, R445): the spill image of a[AD] at tray address x[VR]. -/
def execAsave (core thread ad xr : Nat) (s : State) : Host.Outcome State Fault Refusal :=
  .next (issue core thread [aReg ad, xr] false false (fun t x s =>
    trayAccess core thread 0x32 t x (x.xr xr) 0 80 16 (fun a s =>
      retire core thread 0x32 t x id (setCore core (fun c => c.trayPut a (x.ar ad).spill (fun _ => true) false) s)) s) s)

/-- ALOAD (R335, R410, R445): an image whose RESIDUE does not match is a residue mismatch; one in a poisoned block is loaded as a
poisoned accumulator. -/
def execAload (core thread ad xr : Nat) (s : State) : Host.Outcome State Fault Refusal :=
  .next (issue core thread [aReg ad, xr] false false (fun t x s =>
    trayAccess core thread 0x32 t x (x.xr xr) 0 80 16 (fun a s =>
      let c := s.coreRec core
      if c.trayBad a 80 then retire core thread 0x32 t x (Thread.setA ad { Acc.empty with poison := true }) s
      else
        let (v, good) := Acc.fill (cellsRead c.tray a 80)
        if good then retire core thread 0x32 t x (Thread.setA ad v) s
        else residueKernel core thread 0x32 t x s) s) s)

end Sys2Proof.Machine
end

