-- ==== Sys2Proof/Machine/KernelText.lean ====
section
/-!
DEFINITION. Machine/KernelText.lean: which words of a kernel text are instructions (R437 to R445, R450), and the parts of a kernel image
(R457).
-/
namespace Sys2Proof.Machine

/-- Whether a format code is one that `ok` allows. -/
def fmtOk (code : Nat) (ok : Fmt → Bool) : Bool :=
  match Fmt.ofReg code with
  | some f => ok f
  | none => false

/-- The formats VARITH takes for each FUNC (R441). -/
def varithFmt (func : Nat) : Fmt → Bool :=
  if func = 13 ∨ func = 14 then Fmt.divides else if 7 ≤ func ∧ func ≤ 12 then Fmt.isInt else Fmt.plainVec

/-- SYS (R439). -/
def legalSys (w : Nat) : Bool :=
  let func := bits w 0 5
  bits w 5 3 == 0 && decide (func ≤ 12)
    && (match func with
        | 9 => bits w 19 1 == 0
        | 10 => bits w 17 3 == 0
        | 11 => bits w 23 3 == 0
        | 12 => bits w 17 3 == 0
        | _ => true)

/-- The V formats: VARITH, VFMA, VCMP, VCVT, VMOVE (R436, R441 to R443). -/
def legalV (major w : Nat) : Bool :=
  let func := bits w 0 4
  let fmt := bits w 4 4
  let vs2 := bits w 11 5
  match major with
  | 0x24 => decide (func ≤ 14) && fmtOk fmt (varithFmt func) && (!(func == 5 || func == 6 || func == 14) || vs2 == 0)
  | 0x25 => decide (func ≤ 2) && fmtOk fmt Fmt.plainVec
  | 0x26 => decide (func ≤ 8) && bits w 24 2 == 0 && fmtOk fmt (fun f => f.compares && (if func = 6 then !f.isInt else if func ≥ 7 then f.isInt else true))
  | 0x27 => fmtOk fmt (fun src => fmtOk func (fun dst => dst.plainVec && decide (vs2 < cvtParts src dst)))
  | _ => decide (func ≤ 2) && fmtOk fmt Fmt.plainVec

/-- Whether a word is an instruction: no MAJOR, FUNC, COND, format, field or index that is reserved. -/
def legalWord (w : Nat) : Bool :=
  let major := bits w 26 6
  let func := bits w 0 4
  let fmt := bits w 4 4
  let index := bits w 8 7
  match major with
  | 0x00 => legalSys w
  | 0x01 => bits w 5 3 == 0 && decide (bits w 0 5 ≤ 20)
  | 0x02 | 0x03 | 0x04 | 0x05 | 0x07 | 0x08 | 0x0A | 0x0B | 0x0C | 0x0D | 0x0E | 0x0F | 0x10 | 0x11 => true
  | 0x06 => decide (bits w 12 2 ≤ 2) && bits w 6 6 == 0
  | 0x12 => decide (bits w 21 2 ≤ 2) && bits w 14 7 == 0
  | 0x14 | 0x15 | 0x16 | 0x1A | 0x1B | 0x1C | 0x18 | 0x1E => true
  | 0x17 | 0x1D => bits w 12 3 == 0
  | 0x19 | 0x1F => bits w 5 3 == 0 && decide (1 ≤ bits w 0 5 ∧ bits w 0 5 ≤ 10)
  | 0x20 => decide (bits w 8 2 ≤ 1) && bits w 0 5 == 0 && bits w 21 1 == 0 && bits w 16 1 == 0 && (bits w 8 2 == 1 || bits w 5 3 == 0)
  | 0x21 | 0x22 => bits w 21 1 == 0 && bits w 12 3 == 0
  | 0x24 | 0x25 | 0x26 | 0x27 | 0x28 => legalV major w
  | 0x29 => func == 0 && fmtOk fmt Fmt.plainVec
  | 0x2A | 0x2B => func == 0 && fmtOk fmt (fun f => f.plainVec && decide (index < f.count))
  | 0x2C => decide (func ≤ 7) && bits w 8 4 == 0 && fmtOk fmt Fmt.reduces
  | 0x30 => bits w 13 5 == 0 && fmtOk func (fun f => bits w 7 6 == 0 || f.scales)
  | 0x31 => fmtOk func (fun f => bits w 7 6 == 0 || f.scales)
  | 0x32 => decide (func ≤ 5) && (func != 3 || fmtOk fmt (fun f => f.plainVec && decide (index < f.count)))
  | _ => false

/-- The words of a text. -/
def textWords (b : List Byte) : List Nat := (List.range (b.length / 4)).map (fun i => leNat ((b.drop (4 * i)).take 4))

/-- The ENTRIES of an image header (R457). -/
def imageEntries (h : List Byte) : List Nat := (List.range 16).map (fun j => parm h (32 + 4 * j) 4)

/-- Step 2 of R458: the image, given with its length. -/
def imageOk (b : List Byte) (len : Nat) : Bool :=
  let h := b.take 256
  let n := leNat h
  let text := bits n 96 32
  let tray := bits n 128 32
  let used := (imageEntries h).filter (fun e => e != 0xFFFFFFFF)
  decide (256 ≤ len) && len == 352 + text && bits n 0 32 == 0x31494B56 && bits n 32 16 == 0x0100 && decide (bits n 48 8 ≤ 1)
    && bits n 74 22 == 0 && bits n 160 32 == 0 && bits n 768 1280 == 0 && text % 4 == 0 && decide (4 ≤ text ∧ text ≤ 16384)
    && tray % 128 == 0 && decide (tray ≤ 458752) && (bits n 48 8 == 1 || (bits n 56 8 == 0 && bits n 64 10 == 0))
    && !used.isEmpty && used.all (fun e => decide (e < text / 4))

end Sys2Proof.Machine
end

