-- ==== Sys2Proof/Machine/Kernels.lean ====
section
/-!
DEFINITION. Machine/Kernels.lean: the start of a kernel tile, its timers, and the kernel store (R427 to R432, R455, R457 to R461).
-/
namespace Sys2Proof.Machine

/-! ### Tiles (R429, R430, R455) -/

/-- The launch state of a thread (R429). -/
def launchThread (r : Recipe) (tile th pc : Nat) : Thread :=
  let w (n : Nat) : Word64 × Bool := (BitVec.ofNat 64 n, false)
  { x := [(1, w r.d.w3), (2, w tile), (3, w th), (4, w (bits r.d.w6 0 7)), (5, w r.total), (6, w (r.d.w4 + 65536 * tile)), (7, w r.d.w7)]
    v := [], acc := [], p := [], pc := pc, exited := false, atBar := false, accesses := [], nextAcc := 0, late := [] }

/-- A tile's check of ENTRY has failed (R430): it ends with the code before any thread runs, and RESULT shows no exception. -/
def failEntry (core : Nat) (r : Recipe) (tile : Nat) (f : XFault) (s : State) : State :=
  let s := setRecipe r.id (fun x => { x with exc := keepLowest x.exc (tile * 2 ^ 32, 0) }) s
  failCheck core r tile f r.d.w2 s

/-- Start the threads of a tile, the text loaded where another is resident (R429, R430). -/
def startThreads (core : Nat) (r : Recipe) (t : CoreTile) (handle pc : Nat) (k : Kernel) (s : State) : State :=
  let die := dieOfCluster (clusterOf core)
  let n := bits r.d.w6 0 7
  let s := onlyIf ((s.coreRec core).resident != some handle) (bump .ktTextLoads die) s
  let s := bumpBy .ktThreads die n s
  setCore core (fun c => { c with resident := some handle, run := some { t with
    handle := handle, textLen := k.textLen, tray := k.tray, threads := (List.range n).map (fun i => (i, launchThread r t.tile i pc)) } }) s

/-- KERNEL_TILE_START (R41, R429, R430): ENTRY is checked as an instruction fetch, the tray cleared of another tenant's data. -/
def execKernelTileStart (core : Nat) (s : State) : Host.Outcome State Fault Refusal :=
  if s.frozen then .next s else
  .next (match (s.coreRec core).run with
    | none => s
    | some t =>
      match s.recipe t.recipe with
      | none => setCore core (fun x => { x with run := none }) s
      | some r =>
        if !t.kernel || t.ending != .running || !t.threads.isEmpty || !s.coreAble core then s
        else
          match xlate (dieOfCluster (clusterOf core)) r.ctx r.d.w2 [4] false s with
          | (s, .settle f g) => (match settleFor (settleTile core) r.ctx f g s with
            | (s, none) => s
            | (s, some f) => failEntry core r t.tile f s)
          | (s, .fault f) => failEntry core r t.tile f s
          | (s, .ok _ _ _ _) =>
            let s := settled (settleTile core) r.ctx s
            match s.kernelEntry r.ctx r.d.w2 with
            | none => failEntry core r t.tile (bareFault .unsupported 0 false) s
            | some (h, pc) =>
              match aget s.core.store h with
              | none => s
              | some k => startThreads core r t h pc k (clearForTenant core (s.readDesc r.ctx).owner s))

/-- INSTRUCTION_WATCHDOG (R364, R455, R644): 65,536 cc without a retirement, waits not counted; a thread at a barrier waits. -/
def execInstructionWatchdog (core thread : Nat) (s : State) : Host.Outcome State Fault Refusal :=
  if s.frozen then .next s else
  .next (match (s.coreRec core).run with
    | none => s
    | some t =>
      let die := dieOfCluster (clusterOf core)
      if t.kernel then
        match s.liveThread core thread with
        | none => s
        | some (t, x) => loseKernel core (excHere x thread (s.majorAt t x.pc) 12 0) (bump .ktWatchdogs die (timeoutFired 3 1 core 0 s))
      else
        -- an engine that runs a recipe tile: the tile is lost
        loseTile t (clusterOf core) 288 .timeout (setCore core (fun x => { x with run := none }) (timeoutFired 3 1 core 0 s)))

/-- The exception CORE_TIMEOUT of a tile: which of its threads it names the manual does not say (a free value; log 161). -/
def State.timeoutExc (s : State) (t : CoreTile) : Exc :=
  match t.threads[Config.freeNat s.free % max 1 t.threads.length]? with
  | some e => excHere e.2 e.1 (s.majorAt t e.2.pc) 14 0
  | none => { cause := 14, thread := 0, pc := 0, major := 0, detail := 0 }

/-- CORE_TILE_TIMEOUT (R364, R455, R644): the tile takes CORE_TIMEOUT and its core is reset. -/
def execCoreTileTimeout (core : Nat) (s : State) : Host.Outcome State Fault Refusal :=
  if s.frozen then .next s else
  .next (match (s.coreRec core).run with
    | none => s
    | some t =>
      if s.coreResetting core then s
      else
        let s := timeoutFired 7 1 core 0 s
        let s := if t.kernel && t.ending == .running then
            let s := bump .ktCoreTimeouts (dieOfCluster (clusterOf core)) s
            match s.recipe t.recipe with
            | some r =>
              if ahas r.lost t.tile || bits r.d.w6 8 1 == 1 then takeExc core (s.timeoutExc t) (useFree s) else s
            | none => s
          else s
        beginCoreReset core none s)

/-! ### The kernel store (R457 to R461) -/

/-- Whether a KERNEL that uses an entry has not ended. -/
def State.kernelBusy (s : State) (h : Nat) : Bool :=
  s.recp.recipes.any (fun r => r.d.code == 13 && (match s.kernelEntry r.ctx r.d.w2 with | some (k, _) => k == h | none => false))

/-- The object of KERNEL_LOAD (R460). -/
def kernelLoadObj : OpObj := cmdObj 0x1A20 1 rolePm

/-- An operation that cannot run yet goes back to Baker's queue. -/
def requeue (o : OpObj) (r : Req) (arg : List Byte) (s : State) : State :=
  s.onKodp (fun k => { k with running := k.running.filter (fun x => !(x.req == r && x.index == o.index && x.sub == o.sub))
                              queue := k.queue ++ [(r, mkMsg o.type r.id o.index o.sub .ok arg)] })

/-- The text of an image is gone from the engines that hold it. -/
def dropResident (h : Nat) (s : State) : State :=
  s.onCore (fun c => { c with cores := c.cores.map (fun e => (e.1, if e.2.resident = some h then { e.2 with resident := none } else e.2)) })

/-- The handle a load takes (R459): that of the entry it replaces, else the lowest free one of 256. -/
def State.loadHandle (s : State) (ctx addr : Nat) : Option Nat :=
  match s.core.store.find? (fun e => e.2.ctx == ctx && e.2.addr == addr) with
  | some e => some e.1
  | none => (List.range 256).find? (fun h => !ahas s.core.store h)

/-- Steps 2 to 7 of R458 on the bytes of an image; the status, and the bytes of the reply. -/
def loadImage (ctx addr len : Nat) (b : List Byte) (s : State) : State × Status × List Byte :=
  let h := b.take 256
  let n := leNat h
  let textLen := bits n 96 32
  let signer := bits n 48 8
  let keyId := bits n 56 8
  let tenant := bits n 64 10
  let policy := s.obj .signerPolicy
  if !imageOk b len then (s, .unsupported, [])
  else if (signer = 0 ∧ policy = 1) ∨ (signer = 1 ∧ (policy = 2 ∨ tenant ≠ (s.readDesc ctx).owner)) then (s, .rightsFault, [])
  else
    match (if signer = 0 then some (Config.deviceKey 6) else (aget s.sec.tenants tenant).bind (fun t => aget t.signKeys keyId)) with
    | none => (s, .keyMissing, [])
    | some key =>
      let signed := b.take (256 + textLen)
      if !Config.ecdsaVerifies key (Config.sha384 signed) (leNat ((b.drop (256 + textLen)).take 96)) then (s, .integrity, [])
      else
        let text := textWords ((b.drop 256).take textLen)
        match text.findIdx? (fun w => !legalWord w) with
        | some i => (s, .unsupported, leBytes 2 i)
        | none =>
          match s.loadHandle ctx addr with
          | none => (s, .noSpace, [])
          | some hd =>
            if s.kernelBusy hd then (s, .refusedState, [])
            else
              let k : Kernel := { ctx := ctx, addr := addr, textLen := textLen, tray := bits n 128 32, signer := signer, tenant := tenant, keyId := keyId
                                  imageId := bits n 192 64, entries := imageEntries h, text := text, sha := Config.sha384 signed, loadedAt := s.now }
              (dropResident hd (s.onCore (fun c => { c with store := aset c.store hd k })), .ok, leBytes 2 hd)

/-- KERNEL_LOAD (R458, R459, R461): the lines of the image are made ready and read; while one is not, the operation waits in Baker's
queue. -/
def execKernelLoad (r : Req) (ctx addr len : Nat) (s : State) : Host.Outcome State Fault Refusal :=
  let o := kernelLoadObj
  let arg := leBytes 2 ctx ++ leBytes 8 addr ++ leBytes 4 len
  .next (operate o r arg 2
    { bad := ctx == 0 || decide (ctx ≥ 65536) || (s.readDesc ctx).bad ctx || addr % 128 != 0 || decide (len ≥ 2 ^ 32), fenced := false, state := false, other := none }
    (fun s =>
      let x := rdSpan addr len
      let (s, pages, st) := x.pages.foldl (fun (acc : State × Assoc Nat Page × Option (Option Status)) a =>
        match acc with
        | (s, pages, some st) => (s, pages, some st)
        | (s, pages, none) =>
          match xlate 0 ctx a [4] false s with
          | (s, .ok pa tenant keyId tier) => (s, aset pages (a / 65536) { pa := pa / 65536 * 65536, tenant := tenant, keyId := keyId, tier := tier }, none)
          | (s, .settle f g) => (match settleFor settleLoad ctx f g s with
            | (s, none) => (s, pages, some none)
            | (s, some f) => (s, pages, some (some f.status)))
          | (s, .fault f) => (s, pages, some (some f.status))) (s, [], none)
      match st with
      | some none => requeue o r arg s
      | some (some st) => reply o r st [] (settled settleLoad ctx s)
      | none =>
        let s := settled settleLoad ctx s
        let lines := if len > 352 + 16384 then [] else (spanLines [x])
        match readySpans AccBy.load pages false lines s with
        | (s, .wait) => requeue o r arg s
        | (s, .fail st) => reply o r st [] s
        | (s, .ready) =>
          let V := s.reader pages
          let n := min len (352 + 16384)
          if poisonAt V addr n then reply o r .poisoned [] s
          else
            let (s, st, body) := loadImage ctx addr len (bytesAt V addr n) s
            reply o r st body s) s)

/-- KERNEL_UNLOAD (R459, R461). -/
def execKernelUnload (r : Req) (handle : Nat) (s : State) : Host.Outcome State Fault Refusal :=
  .next (operateOk (cmdObj 0x1A20 2 rolePm) r (leBytes 2 handle) 2
    { bad := decide (handle ≥ 256), fenced := false, state := !ahas s.core.store handle || s.kernelBusy handle, other := none }
    (fun s => dropResident handle (s.onCore (fun c => { c with store := adel c.store handle }))) s)

end Sys2Proof.Machine
end

