-- ==== Sys2Proof/Machine/LinkPort.lean ====
section
/-!
DEFINITION. Machine/LinkPort.lean: the commands of lanes, training, retraining and the port state machine (R94, R95, R103, R110,
R115 to R118, R139 to R141).  They are events of the optical engines, which a debug stop does not freeze (R640).
-/
namespace Sys2Proof.Machine

/-- Receive lanes free of loss of signal (R95). -/
def Port.litLanes (q : Port) : Nat := ((List.range 9).filter (fun l => !(q.lane l).los)).length

/-- Whether a port is lit (R95). -/
def Port.lit (q : Port) : Bool := decide (q.litLanes ≥ 4)

/-- Whether a port and lane exist. -/
def laneThere (port lane : Nat) : Bool := portPresent port && decide (lane < 9)

/-- LANE_LOS (R110, R139): loss of signal or of codeword lock, in training a lane that does not lock: it is asked for in RETIRE_REQ while
the port trains or runs; an active lane lost while flits run is a retrain trigger. -/
def execLaneLos (port lane : Nat) (s : State) : Host.Outcome State Fault Refusal :=
  if !laneThere port lane then .next s else
  let q := s.port port
  let active := (activeLanes q.rxRetired).contains lane
  let asks := q.st == .train || q.st == .active || q.st == .retrain
  let s := setPort port (fun q => { q with retireReq := if asks then q.retireReq ||| 2 ^ lane else q.retireReq })
    (setLane port lane (fun l => { l with los := true, locked := false, run := 0, same := 0 }) s)
  .next (onlyIf (q.st == .active && active) (retrainTrigger port 4) s)

/-- LANE_SIGNAL_RESTORED (R94): loss of signal is released. -/
def execLaneSignalRestored (port lane : Nat) (s : State) : Host.Outcome State Fault Refusal :=
  .next (if laneThere port lane then setLane port lane (fun l => { l with los := false }) s else s)

/-- PORT_DARK (R95, R115): a linked port goes Down; a training fails; elsewhere the event is not listed. -/
def execPortDark (port : Nat) (s : State) : Host.Outcome State Fault Refusal :=
  .next (if !portPresent port || (s.port port).lit then s
    else match (s.port port).st with
      | .train => trainFails port 3 s
      | .active | .retrain => portDown port 3 s
      | .disabled | .detect | .down => portIgnored port s)

/-- DETECT_LIT (R115, R117): a port in Detect begins training. -/
def execDetectLit (port : Nat) (s : State) : Host.Outcome State Fault Refusal :=
  .next (if !portPresent port || !(s.port port).lit then s
    else if (s.port port).st = .detect then beginTrain port s else portIgnored port s)

/-- A lane after its receiver's report (R104, R141). -/
def Lane.report (x : Lane) (f : LaneFec) : Lane :=
  { x with corrected := x.corrected + f.corrected, uncorr := x.uncorr + f.uncorr, prbsBad := x.prbsBad + f.prbsBad, power := f.power }

/-- A lane that takes a good block at a count of 0.8 ns (R103, R117): three in a row lock it; while training, those that the peer sends in
Train or Retrain with the same maps and PROFILE are counted for the exchange. -/
def Lane.take (x : Lane) (c : Lcb) (at_ : Nat) : Lane :=
  let training := c.linkState == 2 || c.linkState == 4
  let alike := x.lcb.map Lcb.agreed == some c.agreed
  { x with lcb := some c, lcbAt := at_, run := x.run + 1, locked := x.locked || decide (x.run + 1 ≥ 3)
           same := if !training then x.same else if alike then x.same + 1 else 1 }

/-- LCB_RECEIVED (R102, R103, R110, R115, R117): a block of 320 bytes and what the lane's receiver found since the last.  A bad block is
counted; a good one replaces the lane's field values and gives a round trip, its RETIRE_REQ is taken up by the transmitter, its
RETRAIN_REQ is a retrain trigger. -/
def execLcbReceived (port lane : Nat) (lcb : LaneFrame) (s : State) : Host.Outcome State Fault Refusal :=
  if !laneThere port lane then .next s
  else
    let s := setLane port lane (fun x => x.report lcb.fec) s
    match Lcb.ofBytes lcb.block with
    | none => .next (bump .badLcbs port (setLane port lane (fun x => { x with run := 0, same := 0 }) s))
    | some c =>
      let at_ := s.stampNow port
      let trip := (at_ + 2 * 2 ^ 32 - c.echo - c.echoHold) % 2 ^ 32
      let s := setLane port lane (fun x => x.take c at_) s
      let s := setPort port (fun q => { q with
        shown := some c, retireNext := q.retireNext ||| c.retireReq
        trips := if c.echo = 0 then q.trips else (trip :: q.trips).take 64 }) s
      .next (onlyIf c.retrainReq (retrainTrigger port 5) s)

/-- TRAIN_COMPLETE (R115, R117, R118): with the exchange agreed and 32 good flits in a row, Active with a fresh link-layer state, unless
the exchange fails its checks; before that the event is not the end of flit start. -/
def execTrainComplete (port : Nat) (s : State) : Host.Outcome State Fault Refusal :=
  .next (if !portPresent port then s
    else if (s.port port).st = .train ∧ (s.port port).flitStarted = true then trainDone port s else portIgnored port s)

/-- TRAIN_TIMEOUT (R115): 50 ms have elapsed, or a check has failed. -/
def execTrainTimeout (port : Nat) (s : State) : Host.Outcome State Fault Refusal :=
  .next (if !portPresent port then s else if (s.port port).st = .train then trainFails port 1 s else portIgnored port s)

/-- RETRAIN_COMPLETE (R115, R118): Active with the link-layer state kept. -/
def execRetrainComplete (port : Nat) (s : State) : Host.Outcome State Fault Refusal :=
  .next (if !portPresent port then s
    else if (s.port port).st = .retrain ∧ (s.port port).flitStarted = true then retrainDone port s else portIgnored port s)

/-- RETRAIN_TIMEOUT (R115, R139): 200 µs have elapsed. -/
def execRetrainTimeout (port : Nat) (s : State) : Host.Outcome State Fault Refusal :=
  .next (if !portPresent port then s else if (s.port port).st = .retrain then portDown port 2 s else portIgnored port s)

/-- DOWN_HOLD_EXPIRY (R115, R116): back to Detect where a laser input feeds the engine. -/
def execDownHoldExpiry (port : Nat) (s : State) : Host.Outcome State Fault Refusal :=
  .next (if !portPresent port then s
    else if (s.port port).st ≠ .down then portIgnored port s
    else if s.engineLit port then portTo port .detect id s else setPort port (fun q => { q with holdOver := true }) s)

/-! ### PORT_COMMAND (R115, R141) -/

/-- PORT_COMMAND, with its action; an absent port is UNSUPPORTED. -/
def portCommand (r : Req) (port action : Nat) (refused : Bool) (eff : State → State) (s : State) : State :=
  operateOk (cmdObj 0x1220 1 roleOp) r (leBytes 1 port ++ leBytes 1 action) 1
    { Verdict.ok with bad := !portPresent port, state := refused } eff s

/-- PORT_ENABLE (R115, R171): Disabled becomes Detect; refused for a port out of service, and for a Compact port while an EID of the
Varisk lies outside the Compact range; elsewhere no effect. -/
def execPortEnable (r : Req) (port : Nat) (s : State) : Host.Outcome State Fault Refusal :=
  let q := s.port port
  let wide := decide (s.obj .nodeEid ≥ 0x1000) || decide (s.obj .serviceEid ≥ 0x1000)
  .next (portCommand r port 1 ((q.st == .disabled && s.boot.portsOut.contains port) || (s.compact port && wide))
    (fun s => if q.st = .disabled then detectPort port s else if q.st = .down then s else portIgnored port s) s)

/-- PORT_DISABLE (R115). -/
def execPortDisable (r : Req) (port : Nat) (s : State) : Host.Outcome State Fault Refusal :=
  let q := s.port port
  .next (portCommand r port 2 false (fun s => if q.st = .disabled then portIgnored port s else disablePort port s) s)

/-- PORT_RETRAIN (R115, R139): refused in Disabled, Train and Down. -/
def execPortRetrain (r : Req) (port : Nat) (s : State) : Host.Outcome State Fault Refusal :=
  let q := s.port port
  .next (portCommand r port 3 (q.st == .disabled || q.st == .train || q.st == .down)
    (fun s => if q.st = .active then retrainTrigger port 6 s else if q.st = .detect then portIgnored port s else s) s)

/-- PORT_LANE_RESTORE (R112, R141): LANE_RESTORE and a retrain; refused outside Active. -/
def execPortLaneRestore (r : Req) (port : Nat) (s : State) : Host.Outcome State Fault Refusal :=
  .next (portCommand r port 4 ((s.port port).st != .active)
    (fun s => retrainTrigger port 6 (setPort port (fun q => { q with laneRestore := true }) s)) s)

end Sys2Proof.Machine
end

