-- ==== Sys2Proof/Machine/Observe.lean ====
section
/-!
DEFINITION. Machine/Observe.lean: the commands of observation and global time: time islands, snapshots, crumbs, tensor dumps and
the debug stop (R618 to R642, R646, R647).
-/
namespace Sys2Proof.Machine

/-! ### Time (R618 to R621) -/

/-- DIE1_TIME_SYNC (R618): Die 1's island is steered to the time of Die 0, the bridge delay taken out. -/
def execDie1TimeSync (s : State) : Host.Outcome State Fault Refusal :=
  .next (if s.timeRuns then steer 1 s.obs.time0.counter s else s)

/-- HOLDOVER_ENTRY (R620): Die 0's island enters Holdover when no port shows VALID with a TIME_SYNC of the last 10 ms; the root has
no parent to lose. -/
def execHoldoverEntry (s : State) : Host.Outcome State Fault Refusal :=
  let t := s.obs.time0
  let fresh := s.timeSources.any (fun e => decide (s.now < e.2.at_ + 10000000))
  .next (if t.st = .root ∨ t.st = .holdover ∨ fresh then s
    else setIsland 0 (fun t => { t with st := .holdover, holdSince := s.now, slew := 0 }) (s.onTxn (fun t => { t with timeParent := none, timeRx := [] })))

/-- What a write of TIME_ROOT does to Die 0's island (R621): no counter value changes. -/
def rootWrite (value : Nat) (s : State) : State :=
  let s' := setObj .timeRoot value s
  if value = 1 then
    setIsland 0 (fun t => { t with st := .root, rateAdj := 0, slew := 0, everLocked := true }) (s'.onTxn (fun t => { t with timeParent := none }))
  else if s.obs.time0.st = .root then setIsland 0 (fun t => { t with st := .holdover, rateAdj := 0, n := 0, holdSince := s.now }) s'
  else s'

/-- TIME_ROOT_WRITE (R621). -/
def execTimeRootWrite (r : Req) (value : Nat) (s : State) : Host.Outcome State Fault Refusal :=
  .next (operateOk (writeObj .timeRoot) r (leBytes 1 value) 1 { Verdict.ok with bad := decide (value > 1) } (rootWrite value) s)

/-- TIME_SET (R621): the root's counter, with every partner slot Free. -/
def execTimeSet (r : Req) (time frac : Nat) (s : State) : Host.Outcome State Fault Refusal :=
  .next (operateOk (cmdObj 0x2120 1 roleOp) r (leBytes 8 time ++ leBytes 1 frac) 8
    { Verdict.ok with bad := decide (time ≥ 2 ^ 64) || decide (frac ≥ 256), state := s.obj .timeRoot != 1 || !s.part.slots.isEmpty }
    (stepTo 0 (time * 256 + frac)) s)

/-! ### Snapshots (R626) -/

/-- COUNTER_SNAPSHOT (R626): answered when the copy is complete. -/
def execCounterSnapshot (r : Req) (t : Nat) (s : State) : Host.Outcome State Fault Refusal :=
  .next (operate (cmdObj 0x2120 2 (roleOp + roleDebug)) r (leBytes 8 t) 8 { Verdict.ok with bad := decide (t < s.now + 10000) || decide (t ≥ 2 ^ 64) }
    (fun s => s.onObs (fun o => { o with snapAt := o.snapAt ++ [(t, r)] })) s)

/-- The snapshot whose time comes first. -/
def earliestSnap (l : List (Nat × Req)) : Option (Nat × Req) :=
  l.foldl (fun a e => match a with
    | none => some e
    | some b => if e.1 < b.1 then some e else some b) none

/-- SNAPSHOT_AT_T (R626): every counter is copied; none is disturbed. -/
def execSnapshotAtT (s : State) : Host.Outcome State Fault Refusal :=
  .next (match earliestSnap s.obs.snapAt with
    | none => s
    | some e => reply (cmdObj 0x2120 2 (roleOp + roleDebug)) e.2 .ok [] (s.onObs (fun o => { o with snapAt := o.snapAt.erase e, snapshot := s.ctrs })))

/-! ### Crumbs (R627 to R630) -/

/-- Whether a unit keeps a crumb trail (R627): one that is fused off or absent keeps none. -/
def crumbUnit (kind u : Nat) : Bool :=
  match kind with
  | 1 => corePresent u
  | 2 => decide (u < 16)
  | 3 => decide (u < 256)
  | 4 => portPresent u
  | 5 => decide (u < 64)
  | 6 | 7 | 8 | 10 => decide (u < 2)
  | 9 => u == 0
  | _ => false

/-- The 32 bytes of a crumb (R628). -/
def crumbBytes (c : Crumb) : List Byte :=
  leBytes 8 c.time ++ leBytes 1 c.fraction ++ leBytes 1 ((if c.resumed then 1 else 0) + (if c.unlocked then 2 else 0)) ++ leBytes 2 c.event
    ++ leBytes 2 c.epoch ++ leBytes 2 c.seq ++ leBytes 16 c.arg

/-- A unit's ring as CRUMB_READ returns it: 256 records, oldest first; records not yet written are zeros (R630). -/
def State.ringBytes (s : State) (kind u : Nat) : List Byte :=
  padTo 8192 (((agetD s.obs.rings (kind, u) Ring.reset).crumbs.reverse).flatMap crumbBytes)

/-- Send an export to a sink as DEBUG_STREAM packets of up to three lines, on stream 0xFFFF (R631). -/
def sendExport (sink kind : Nat) (bytes : List Byte) (s : State) : State :=
  let lines := (bytes.length + 127) / 128
  forAll (List.range ((lines + 2) / 3)) (fun i s =>
    let n := min 3 (lines - 3 * i)
    let at_ (j : Nat) : List Byte := (bytes.drop ((3 * i + j) * 128)).take 128
    sendDebug sink 0xFFFF kind s.obs.exportSeq 0 (3 * i * 128) 0 ((List.range n).map at_)
      (s.onObs (fun o => { o with exportSeq := (o.exportSeq + 1) % 65536 }))) s

/-- Whether an EID holds an Active slot of a debug sink (R188, R634). -/
def State.isSink (s : State) (eid : Nat) : Bool := s.part.slots.any (fun e => e.2.eid == eid && e.2.st == .active && e.2.kind == 3)

/-- CRUMB_READ (R630, R647): the ring in the reply, or sent to a sink as KIND 3. -/
def execCrumbRead (r : Req) (kind unit : Nat) (sink : Option Nat) (s : State) : Host.Outcome State Fault Refusal :=
  let o := cmdObj 0x2120 3 (roleOp + roleDebug)
  let badSink := match sink with
    | none => false
    | some e => !s.isSink e
  .next (operate o r (leBytes 1 kind ++ leBytes 2 unit ++ (match sink with | none => [] | some e => leBytes 4 e)) 1
    { Verdict.ok with bad := !crumbUnit kind unit || badSink }
    (fun s => match sink with
      | none => reply o r .ok (s.ringBytes kind unit) s
      | some e => reply o r .ok [] (sendExport e 3 (s.ringBytes kind unit) s)) s)

/-- A ring unfrozen (R630). -/
def Ring.release (g : Ring) : Ring := { g with frozen := none }

/-- CRUMB_RELEASE (R630): a ring, or every ring where the kind is 0. -/
def execCrumbRelease (r : Req) (kind unit : Nat) (s : State) : Host.Outcome State Fault Refusal :=
  .next (operateOk (cmdObj 0x2120 4 (roleOp + roleDebug)) r (leBytes 1 kind ++ leBytes 2 unit) 1
    { Verdict.ok with bad := kind != 0 && !crumbUnit kind unit }
    (fun s => s.onObs (fun o => { o with rings := o.rings.map (fun e => if kind = 0 ∨ e.1 = (kind, unit) then (e.1, Ring.release e.2) else e) })) s)

/-- CRUMB_RING_UNFREEZE (R630): 10 s after it froze. -/
def execCrumbRingUnfreeze (kind unit : Nat) (s : State) : Host.Outcome State Fault Refusal :=
  .next (s.onObs (fun o => { o with rings := o.rings.map (fun e => if e.1 = (kind, unit) then (e.1, Ring.release e.2) else e) }))

/-! ### Tensors and dumps (R633 to R637) -/

/-- The pages of a check as extents of lines, in the order of the span: neighbours that lie together are one extent. -/
def extentsOf (pages : Assoc Nat Page) (x : Span) : List (Nat × Nat) :=
  (x.pages.foldl (fun (acc : List (Nat × Nat)) a =>
    let top := min (x.addr + x.len) (a / 65536 * 65536 + 65536)
    let n := (top - a) / 128
    match aget pages (a / 65536) with
    | none => acc
    | some p =>
      let pa := p.pa + a % 65536
      match acc with
      | (b, m) :: rest => if b + m * 128 = pa then (b, m + n) :: rest else (pa, n) :: acc
      | [] => [(pa, n)]) []).reverse

/-- What the check of a tensor's span finds: the refusal, if any, and the extents (R633). -/
def tensorCheck (ctx addr length : Nat) (s : State) : State × Option Status × List (Nat × Nat) :=
  let x := rdSpan addr length
  let (s, c) := checkSpans 0 ctx 12 id [x] (Checked.start []) s
  let l := extentsOf c.pages x
  let st : Option Status := match c.xlate with
    | some (_, f, _) => some f.status
    | none =>
      if c.settle.isSome then some .retry
      else match c.rights, c.key with
        | some (_, f, _), _ => some f.status
        | none, some (_, f, _) => some f.status
        | none, none =>
          if l.any (fun e => isDeepPa e.1) || decide (l.length > 4096) then some .unsupported
          else if c.tenants.any (fun t => s.isSealed t.1) then some .rightsFault
          else none
  (s, st, l)

/-- The length of a registered span (R633). -/
def tensorLengthOk (addr length : Nat) : Bool := addr % 128 == 0 && length % 128 == 0 && decide (length ≤ 2 ^ 40) && decide (addr + length ≤ 2 ^ 64)

/-- TENSOR_REGISTER (R633, R647): length 0 removes the name, and its dumps end. -/
def execTensorRegister (r : Req) (name : List Byte) (ctx addr length format : Nat) (s : State) : Host.Outcome State Fault Refusal :=
  let key := padTo 32 name
  let found := s.obs.tensors.any (fun t => t.name == key)
  let chk := tensorCheck ctx addr length s
  let st := if length = 0 then none else chk.2.1
  let bad := decide (name.length > 32) || (key.headD 0 == 0) || decide (ctx ≥ 65536) || !tensorLengthOk addr length || decide (format ≥ 256) || st == some .unsupported
  let other : Option Status :=
    if length = 0 then none
    else match st with
      | some x => some x
      | none => if s.obs.tensors.length ≥ 64 then some .noSpace else none
  .next (operateOk (cmdObj 0x2120 5 (rolePm + roleDebug)) r (key ++ leBytes 2 ctx ++ leBytes 8 addr ++ leBytes 8 length ++ leBytes 1 format) 32
    { bad := bad, fenced := s.standby, state := found != decide (length = 0), other := other }
    (fun s =>
      if length = 0 then
        abortDumps (fun d => d.tensor.name == key) false (s.onObs (fun o => { o with tensors := o.tensors.filter (fun t => t.name != key) }))
      else
        let (s, _, l) := tensorCheck ctx addr length s
        s.onObs (fun o => { o with tensors := o.tensors ++ [{ name := key, ctx := ctx, addr := addr, length := length, format := format, extents := l }] })) s)

/-- The lines of a tensor. -/
def Tensor.lines (t : Tensor) : Nat := (t.extents.map Prod.snd).sum

/-- The lines of a dump buffer's map: one bit for each tensor line, rounded up to whole lines (R634). -/
def mapLines (n : Nat) : Nat := ((n + 7) / 8 + 127) / 128

/-- Where the step mark lies, if it translates in the tensor's context (R224, R647). -/
def markPlace (t : Tensor) (mark : Nat) (s : State) : Option (Nat × Nat × Nat) := if mark % 8 = 0 ∧ mark < 2 ^ 64 then s.segmentNow t.ctx mark else none

/-- A dump number that no dump of the table has, from the next on (R634: 0 to 65,534). -/
def freeDump (used : List Nat) : Nat → Nat → Nat
  | 0, n => n % 65535
  | k + 1, n => if used.contains (n % 65535) then freeDump used k (n + 1) else n % 65535

/-- A free dump number. -/
def State.dumpNumber (s : State) : Nat := freeDump (s.obs.dumps.map Dump.number) s.obs.dumps.length s.obs.nextDump

/-- A dump is armed (R634): its map starts as zeros. -/
def armDump (o : OpObj) (r : Req) (t : Tensor) (sink markPa step bufPa bufLen : Nat) (s : State) : State :=
  let n := s.dumpNumber
  let d : Dump := { number := n, tensor := t, sink := sink, markPa := markPa, step := step, bufPa := bufPa, bufLen := bufLen, st := .armed, cutAt := 0
                    sent := 0, copies := [], settling := [], seq := 0, poisoned := false, status := none }
  let s := forAll (List.range (mapLines t.lines)) (fun i s => writeOwn (bufPa + i * 128) (List.replicate 128 0) s) s
  reply o r .ok (leBytes 2 n) (s.onObs (fun o => { o with dumps := o.dumps ++ [d], nextDump := (n + 1) % 65535 }))

/-- DUMP_ARM (R634, R647).  A step mark in a deep-window granule that is not resident is brought in, and the arm answered RETRY. -/
def execDumpArm (r : Req) (name : List Byte) (sink mark step bufPa bufLen : Nat) (s : State) : Host.Outcome State Fault Refusal :=
  let key := padTo 32 name
  let o := cmdObj 0x2120 6 (rolePm + roleDebug)
  let arg := key ++ leBytes 4 sink ++ leBytes 8 mark ++ leBytes 8 step ++ leBytes 8 bufPa ++ leBytes 8 bufLen
  let running := (s.obs.dumps.filter (fun d => d.st != .ended)).length
  match s.obs.tensors.find? (fun t => t.name == key) with
  | none => .next (operate o r arg 32 { bad := true, fenced := s.standby, state := false, other := none } id s)
  | some t =>
    match markPlace t mark s with
    | none => .next (operate o r arg 32 { bad := true, fenced := s.standby, state := false, other := none } id s)
    | some (pa, tenant, keyId) =>
      let value := leNat (((s.dataOf (pa / 128) tenant keyId).drop (pa % 128)).take 8)
      let here := (s.storeOf (pa / 128)).isSome
      let bad := decide (name.length > 32) || !s.isSink sink || bufPa % 128 != 0 || bufLen % 128 != 0 || decide (bufPa + bufLen > dramTop)
        || decide (bufLen < mapLines t.lines * 128) || decide (step ≥ 2 ^ 64)
      let sealedNow := s.isSealed tenant || (match s.segmentNow t.ctx t.addr with | some x => s.isSealed x.2.1 | none => false)
      .next (operate o r arg 32
        { bad := bad, fenced := s.standby, state := here && decide (value ≥ step)
          other := if sealedNow then some .rightsFault else if here && decide (running ≥ 4) then some .noSpace else none }
        (fun s => if here then armDump o r t sink pa step bufPa bufLen s
          else reply o r .retry [] (missGranule (granuleOf pa) (pa % 65536 / 128) 1 false s)) s)

/-- DUMP_CANCEL (R637, R646). -/
def execDumpCancel (r : Req) (dump : Nat) (s : State) : Host.Outcome State Fault Refusal :=
  .next (operateOk (cmdObj 0x2120 7 (rolePm + roleDebug)) r (leBytes 2 dump) 2
    { Verdict.ok with bad := decide (dump ≥ 65535), state := !s.obs.dumps.any (fun d => d.number == dump && d.st != .ended) }
    (abortDumps (fun d => d.number == dump) false) s)

/-- Change a dump's record. -/
def setDump (n : Nat) (f : Dump → Dump) (s : State) : State := s.onObs (fun o => { o with dumps := o.dumps.map (fun d => if d.number = n then f d else d) })

/-- Whether a line belongs to a tensor. -/
def Tensor.hasLine (t : Tensor) (line : Nat) : Bool := t.extents.any (fun e => decide (e.1 / 128 ≤ line ∧ line < e.1 / 128 + e.2))

/-- DUMP_CUT (R635): the tensor's lines held Exclusive-clean or Modified are downgraded, and copy-on-write begins; a line whose data is
still on its way settles first. -/
def execDumpCut (dump : Nat) (s : State) : Host.Outcome State Fault Refusal :=
  if s.frozen then .next s else
  .next (match s.obs.dumps.find? (fun d => d.number == dump && d.st == .triggered) with
    | none => s
    | some d =>
      let held := s.dir.entries.filter (fun e => d.tensor.hasLine e.1 && (e.2.st == .exclusive || e.2.st == .modified))
      let s := setDump dump (fun d => { d with st := .streaming, settling := held.map Prod.fst }) s
      forAll held (fun e s => if s.recalling e.1 then s else startRecall e.1 true e.2.ptrs 1 [] .none s) s)

/-- The line of a tensor by its number. -/
def lineAt : List (Nat × Nat) → Nat → Nat
  | [], _ => 0
  | (pa, n) :: t, i => if i < n then pa / 128 + i else lineAt t (i - n)

/-- Where the copy of a tensor line is in a list of copies. -/
def copyIndex (l : List Nat) (i : Nat) : Option Nat := (l.zipIdx.find? (fun e => e.1 == i)).map Prod.snd

/-- A tensor line as a dump sends it (R636): from its copy, else from the line as it stands; poisoned where its segment is no longer
there. -/
def dumpLine (d : Dump) (i : Nat) (s : State) : Bool × List Byte :=
  let line := lineAt d.tensor.extents i
  match s.segmentNow d.tensor.ctx (d.tensor.addr + 128 * i) with
  | none => (true, List.replicate 128 0)
  | some (_, tenant, keyId) =>
    match copyIndex d.copies i with
    | some j => s.view (d.bufPa / 128 + mapLines d.tensor.lines + j) tenant keyId
    | none => s.view line tenant keyId

/-- The next lines of a dump that can be sent, at most `n` from line `i` on (R636): a copy from the buffer, else the line by an uncached read
ordered at its home directory.  One whose granule cannot be had is sent poisoned. -/
def dumpTake (d : Dump) : Nat → Nat → State → State × List (Bool × List Byte)
  | 0, _, s => (s, [])
  | n + 1, i, s =>
    let more (x : Bool × List Byte) (s : State) : State × List (Bool × List Byte) :=
      match dumpTake d n (i + 1) s with
      | (s, l) => (s, x :: l)
    if d.copies.contains i then more (dumpLine d i s) s
    else match readyLine (AccBy.dump d.number) (lineAt d.tensor.extents i) 1 false true s with
      | (s, .ready) => more (dumpLine d i s) s
      | (s, .wait) => (s, [])
      | (s, .fail .retry) => (s, [])
      | (s, .fail .aborted) => (s, [])
      | (s, .fail _) => more (true, List.replicate 128 0) s

/-- The lines that a dump's next packet can carry: up to three (R631). -/
def dumpNext (d : Dump) (s : State) : State × List (Bool × List Byte) := dumpTake d (min 3 (d.tensor.lines - d.sent)) d.sent s

/-- A packet of a dump with its lines, and the dump's end after the last (R636, R637). -/
def dumpPacket (d : Dump) (l : List (Bool × List Byte)) (s : State) : State :=
  let mask := ((l.zipIdx).map (fun e => if e.1.1 then 2 ^ e.2 else 0)).sum
  let s := sendDebug d.sink d.number 1 d.seq 0 (d.sent * 128) mask (l.map Prod.snd) s
  let d' : Dump := { d with sent := d.sent + l.length, seq := d.seq + 1, poisoned := d.poisoned || mask != 0 }
  let s := setDump d.number (fun _ => d') s
  onlyIf (decide (d'.sent ≥ d.tensor.lines)) (endDump d' (if d'.poisoned then .poisoned else .ok) false) s

/-- The next packet of a dump, if a line of it can be had now; a dump that has ended meanwhile sends none. -/
def dumpSend (d : Dump) (s : State) : State :=
  match dumpNext d s with
  | (s, []) => s
  | (s, l) =>
    let s := useReturned (AccBy.dump d.number).src (AccBy.dump d.number).tag s
    match s.obs.dumps.find? (fun x => x.number == d.number && x.st == .streaming) with
    | none => s
    | some d => dumpPacket d l s

/-- DUMP_STREAM_SEND (R632, R636): up to three lines in ascending order; the packet waits at its leaf for the cap. -/
def execDumpStreamSend (dump : Nat) (s : State) : Host.Outcome State Fault Refusal :=
  if s.frozen then .next s else
  .next (match s.obs.dumps.find? (fun d => d.number == dump && d.st == .streaming) with
    | none => s
    | some d => dumpSend d s)

/-! ### The debug stop (R638 to R642) -/

/-- DEBUG_STOP (R638, R642, R647). -/
def execDebugStop (r : Req) (t : Nat) (s : State) : Host.Outcome State Fault Refusal :=
  .next (operateOk (cmdObj 0x2120 8 roleDebug) r (leBytes 8 t) 8
    { Verdict.ok with bad := decide (t < s.now + 10000) || decide (t ≥ 2 ^ 64), state := s.obs.stop != .running }
    (fun s => s.onObs (fun o => { o with stop := .stopSet, stopAt := t, capture := [], crossings := [] })) s)

/-- Two cycles of an island in 1/256 ns: fabric 0 and 1, clusters 2 to 17, DRAM PHYs 18 to 25 (R34, R638). -/
def State.twoCycles (s : State) (island : Nat) : Nat :=
  if island < 2 then 2 * 256 * 1000 / 2400
  else if island < 18 then 2 * 256 * 1000 / (s.punit (island - 2)).freq
  else 2 * 256 * 1000 / 1125

/-- Crumbs of a debug stop or resume: in the ring of every cluster and of each die's recipe front end. -/
def stopCrumbs (event arg : Nat) (s : State) : State :=
  forAll (List.range 2) (fun d s => crumb 6 d event arg s) (forAll (List.range 16) (fun k s => crumb 2 k event arg s) s)

/-- The channels of a stack. -/
def stackOf (n : Nat) : List Nat := (List.range 32).map (fun i => 32 * n + i)

/-- DEBUG_FREEZE (R638, R639): every fabric, cluster and DRAM PHY island freezes within two of its cycles after T; by how much in that
bound is not given, so the stamps are free values in it.  The crossings are numbered: out of and into clusters 0 to 15, into and out of the
stacks' PHYs from 32 on, and the bridge's two; what is in them is a free value but for the channel requests held before a PHY (log 168). -/
def execDebugFreeze (s : State) : Host.Outcome State Fault Refusal :=
  .next (if s.obs.stop ≠ .stopSet then s
    else
      let s := stopCrumbs 0x000A s.obs.stopAt s
      let stamps := (List.range 26).map (fun i => (i, s.obs.stopAt * 256 + Config.freeNat (s.free + i) % (s.twoCycles i + 1)))
      let waits (n : Nat) : Nat := ((stackOf n).map (fun c => ((s.channel c).reqs.filter (fun r => !r.entered)).length)).sum
      let depth (i : Nat) : Nat := if 32 ≤ i ∧ i < 40 then min 255 (waits (i - 32)) else Config.freeNat (s.free + 26 + i) % 256
      let crossings := (List.range 50).map (fun i => (depth i, Config.freeNat (s.free + 76 + i)))
      useFrees 126 (s.onObs (fun o => { o with stop := .stopped, capture := stamps, crossings := crossings })))

/-- DEBUG_RESUME (R641, R642, R647). -/
def execDebugResume (r : Req) (t : Nat) (s : State) : Host.Outcome State Fault Refusal :=
  .next (operateOk (cmdObj 0x2120 9 roleDebug) r (leBytes 8 t) 8
    { Verdict.ok with bad := decide (t < s.now + 10000) || decide (t ≥ 2 ^ 64), state := !s.frozen }
    (fun s => s.onObs (fun o => { o with stop := .resumeSet, stopAt := t })) s)

/-- DEBUG_THAW (R641): the islands run on, every Active lease starts at a full 8 ms, the units' next events carry RESUMED. -/
def execDebugThaw (s : State) : Host.Outcome State Fault Refusal :=
  .next (if s.obs.stop ≠ .resumeSet then s
    else
      let t := s.obs.stopAt
      let marked (o : ObserveState) : ObserveState :=
        let mine (k : Nat) : Bool := k != 8 && k != 10
        let rings := (List.range 16).foldl (fun l k => amod l (2, k) Ring.reset id) o.rings
        let rings := (List.range 2).foldl (fun l d => amod l (6, d) Ring.reset id) rings
        { o with stop := .running, rings := rings.map (fun e => if mine e.1.1 then (e.1, { e.2 with resumed := true }) else e) }
      let s := s.onObs marked
      let s := s.onPart (fun p => { p with slots := p.slots.map (fun e => if e.2.st = .active then (e.1, { e.2 with renewedAt := s.now }) else e) })
      stopCrumbs 0x000B t s)

end Sys2Proof.Machine
end

