-- ==== Sys2Proof/Machine/Security.lean ====
section
/-!
DEFINITION. Machine/Security.lean: the commands of the security chapter (R548 to R576).  What an SPDM message carries in bytes is
outside the block: a command names the fields that matter, and the response leaves as a code and fields (log 32).
-/
namespace Sys2Proof.Machine

/-! ### SPDM (R552 to R557) -/

/-- The object SPDM messages travel in (R556, R575). -/
def spdmObj : OpObj := { index := 0x1E10, sub := 1, type := 3, roles := 0, any := true }

/-- Run an SPDM request: its response leaves, and the command is answered OK (R556, log 32). -/
def spdm (r : Req) (code : Nat) (run : State → State × (Nat × List Nat)) (s : State) : Host.Outcome State Fault Refusal :=
  .next (operate spdmObj r (leBytes 2 code ++ leBytes 8 r.id) 0 Verdict.ok (fun s =>
    let (s, out) := run s
    reply spdmObj r .ok [] (emit (.spdm r.client out.1 out.2) s)) s)

/-- The client outside its session, by which its SPDM connection is known. -/
def reqBase (r : Req) : Client := { r.client with session := none }

/-- How far a client's connection has come (R554). -/
def State.spdmAt (s : State) (r : Req) : Nat := agetD s.sec.spdm (reqBase r) 0
/-- Set it. -/
def spdmSet (r : Req) (n : Nat) (s : State) : State := s.onSec (fun c => { c with spdm := aset c.spdm (reqBase r) n })
/-- ERROR with a code of SPDM (log 32): 1 InvalidRequest, 3 Busy, 4 UnexpectedRequest, 7 UnsupportedRequest. -/
def spdmError (n : Nat) : Nat × List Nat := (0x7F, [n])
/-- SESSION_REFUSED (R576, R679): reason 1 busy, 2 authentication failed, 3 no common algorithm. -/
def sessionRefused (r : Req) (reason : Nat) (s : State) : State :=
  bump .sessionsRefused 0 (notify 0x1E03 (leBytes 1 (transportNum r.client.transport) ++ leBytes 1 reason) s)

/-- GET_VERSION (R554): version 1.3 only; the connection begins again. -/
def execGetVersion (r : Req) (s : State) : Host.Outcome State Fault Refusal :=
  spdm r 0x84 (fun s => (spdmSet r 1 s, (0x04, [0x1300]))) s

/-- The capability flags of R554: CERT, CHAL, MEAS with signature, MEAS_FRESH, KEY_EX, MUT_AUTH, ENCRYPT, MAC, HBEAT, KEY_UPD. -/
def spdmCaps : Nat := 2 ^ 1 + 2 ^ 2 + 2 * 2 ^ 3 + 2 ^ 5 + 2 ^ 6 + 2 ^ 7 + 2 ^ 8 + 2 ^ 9 + 2 ^ 13 + 2 ^ 14

/-- GET_CAPABILITIES (R554). -/
def execGetCapabilities (r : Req) (flags : Nat) (s : State) : Host.Outcome State Fault Refusal :=
  spdm r 0xE1 (fun s => if s.spdmAt r < 1 then (s, spdmError 4) else (spdmSet r 2 s, (0x61, [spdmCaps, flags]))) s

/-- NEGOTIATE_ALGORITHMS (R554): an offer without one of the algorithms of the table is UnsupportedRequest. -/
def execNegotiateAlgorithms (r : Req) (offered : Nat) (s : State) : Host.Outcome State Fault Refusal :=
  spdm r 0xE3 (fun s => if s.spdmAt r < 2 then (s, spdmError 4)
    else if offered = 0 then (sessionRefused r 3 s, spdmError 7)
    else (spdmSet r 3 s, (0x63, [1]))) s

/-- The certificate chain of slot 0 as a number (R553): the part's certificates down to DeviceID, then the Alias certificate of this boot. -/
def State.certChain (s : State) : Nat := leNat (leBytes 48 (Config.deviceKey 2) ++ leBytes 96 (Config.p384Public s.sec.aliasKey))

/-- GET_DIGESTS (R553): slot 0 is the only slot. -/
def execGetDigests (r : Req) (s : State) : Host.Outcome State Fault Refusal :=
  spdm r 0x81 (fun s => if s.spdmAt r < 3 then (s, spdmError 4) else (s, (0x01, [Config.sha384 (leBytes 144 s.certChain)]))) s

/-- GET_CERTIFICATE (R553): bytes of the slot 0 chain. -/
def execGetCertificate (r : Req) (slot offset length : Nat) (s : State) : Host.Outcome State Fault Refusal :=
  spdm r 0x82 (fun s => if s.spdmAt r < 3 then (s, spdmError 4) else if slot ≠ 0 then (s, spdmError 1)
    else (s, (0x02, [offset, length, s.certChain]))) s

/-- CHALLENGE (R554): a response signed with the Alias key over the nonce. -/
def execChallenge (r : Req) (slot nonce : Nat) (s : State) : Host.Outcome State Fault Refusal :=
  spdm r 0x83 (fun s => if s.spdmAt r < 3 then (s, spdmError 4) else if slot ≠ 0 then (s, spdmError 1)
    else (s, (0x03, [Config.ecdsaSign s.sec.aliasKey nonce]))) s

/-- A measurement block (R555): 4 is what the instruction stores hold, 7 the digest of the enrolled peer's DeviceID certificate, zeros when
there is none. -/
def State.measurement (s : State) (i : Nat) : Nat :=
  if i = 7 then (if s.twin.peer.isSome then Config.sha384 (leBytes 96 (Config.deviceKey (1000 + s.twin.peerEid))) else 0)
  else if i = 4 then s.fw.engineDigest else s.bootBlock i

/-- GET_MEASUREMENTS (R555): one block, or all (0xFF), or their number (0), signed with the Alias key over the nonce. -/
def execGetMeasurements (r : Req) (index nonce : Nat) (s : State) : Host.Outcome State Fault Refusal :=
  spdm r 0xE0 (fun s => if s.spdmAt r < 3 then (s, spdmError 4)
    else if index ≠ 0 ∧ index ≠ 0xFF ∧ index > 7 then (s, spdmError 1)
    else
      let blocks := if index = 0 then [7] else if index = 0xFF then (List.range 7).map (fun i => s.measurement (i + 1)) else [s.measurement index]
      (s, (0x60, blocks ++ [Config.ecdsaSign s.sec.aliasKey (Config.sha384 ((blocks ++ [nonce]).flatMap (leBytes 48)))]))) s

/-- KEY_EXCHANGE (R556, R557): a session begins; beyond 32 it is Busy. -/
def execKeyExchange (r : Req) (exchange nonce : Nat) (s : State) : Host.Outcome State Fault Refusal :=
  spdm r 0xE4 (fun s => if s.spdmAt r < 3 then (s, spdmError 4)
    else if s.sec.sessions.length ≥ 32 then (sessionRefused r 1 s, spdmError 3)
    else
      let id := s.sec.nextSession
      let n : Session := { client := (reqBase r), established := false, roles := 0, authKey := none, tenant := none, peer := false,
                           key := Config.hkdf exchange nonce, missed := 0, sent := 0, received := 0, updates := 0 }
      (s.onSec (fun c => { c with sessions := aset c.sessions id n, nextSession := id + 1 }), (0x64, [id, 1]))) s

/-- Whether a key stands in a table of keys. -/
def State.keyIn (s : State) (t : TableId) (k : Nat) : Bool := (s.table t).any (fun e => e.fields.getD 1 0 == k)

/-- What a session's key gives it (R556, R661, R662): roles, tenant, and whether it is the twin peer's. -/
def State.signerOf (s : State) (r : Req) (k : Nat) : Nat × Option Nat × Bool :=
  if s.keyIn .operatorKeys k then (roleOp, none, false)
  else if s.keyIn .poolManagerKeys k then (rolePm, none, false)
  else match s.sec.tenants.find? (fun e => e.2.authKey == k) with
    | some e => (roleTenant, some e.1, false)
    | none =>
      if r.client.transport = .vc7 ∧ r.client.addr = s.twin.peerEid ∧ k = Config.deviceKey (1000 + s.twin.peerEid) then (rolePeer, none, true) else (0, none, false)

/-- FINISH (R556, R557): the signature must verify under the key named, and a key that is not known gives no role (R661); at most 4
sessions of a tenant. -/
def execFinish (r : Req) (session sig : Nat) (signer : Option Nat) (s : State) : Host.Outcome State Fault Refusal :=
  spdm r 0xE5 (fun s =>
    match aget s.sec.sessions session with
    | some n =>
      if n.established ∨ n.client ≠ (reqBase r) then (s, spdmError 4)
      else
        let drop (s : State) : State := s.onSec (fun c => { c with sessions := adel c.sessions session })
        match signer with
        | none => (bump .sessionsOpened 0 (s.onSec (fun c => { c with sessions := aset c.sessions session { n with established := true } })), (0x65, [session]))
        | some k =>
          let (roles, tenant, peer) := s.signerOf r k
          if Config.ecdsaVerifies k n.key sig = false then (drop (sessionRefused r 2 s), spdmError 1)
          else if tenant.isSome ∧ (s.sec.sessions.filter (fun e => e.2.tenant == tenant)).length ≥ 4 then (drop (sessionRefused r 1 s), spdmError 3)
          else
            let n := { n with established := true, roles := roles, authKey := some k, tenant := tenant, peer := peer }
            (bump .sessionsOpened 0 (s.onSec (fun c => { c with sessions := aset c.sessions session n })), (0x65, [session]))
    | none => (s, spdmError 1)) s

/-- An SPDM request inside a session that is established. -/
def inSession (r : Req) (code session : Nat) (run : Session → State → State × (Nat × List Nat)) (s : State) : Host.Outcome State Fault Refusal :=
  spdm r code (fun s => match aget s.sec.sessions session with
    | some n => if n.established ∧ n.client = (reqBase r) then run n s else (s, spdmError 1)
    | none => (s, spdmError 1)) s

/-- HEARTBEAT (R557). -/
def execSpdmHeartbeat (r : Req) (session : Nat) (s : State) : Host.Outcome State Fault Refusal :=
  inSession r 0xE8 session (fun n s => (s.onSec (fun c => { c with sessions := aset c.sessions session { n with missed := 0 } }), (0x68, []))) s

/-- KEY_UPDATE (R557): the message counts of both directions begin again under the new keys. -/
def execKeyUpdate (r : Req) (session : Nat) (s : State) : Host.Outcome State Fault Refusal :=
  inSession r 0xE9 session (fun n s =>
    (s.onSec (fun c => { c with sessions := aset c.sessions session { n with sent := 0, received := 0, updates := n.updates + 1, key := Config.hkdf n.key n.updates } }), (0x69, []))) s

/-- Take one session out, with its subscriptions. -/
def endOne (session : Nat) (s : State) : State :=
  let s := s.onSec (fun c => { c with sessions := adel c.sessions session })
  s.onKodp (fun k => { k with subs := k.subs.filter (fun b => b.client.session != some session) })

/-- END_SESSION (R557): the keys it delivered stay. -/
def execEndSession (r : Req) (session : Nat) (s : State) : Host.Outcome State Fault Refusal :=
  inSession r 0xEC session (fun _ s => (endOne session s, (0x6C, []))) s

/-- SPDM_HEARTBEAT_TIMEOUT (R557): a session that has missed three periods ends. -/
def execSpdmHeartbeatTimeout (session : Nat) (s : State) : Host.Outcome State Fault Refusal := .next (endOne session s)

/-! ### Tenants (R549 to R551) -/

/-- Whether a key is registered already (R662, R683). -/
def State.keyTaken (s : State) (k : Nat) : Bool :=
  s.keyIn .operatorKeys k || s.keyIn .poolManagerKeys k || s.sec.tenants.any (fun e => e.2.authKey == k)

/-- TENANT_CREATE (R549, R575, R576, R683). -/
def execTenantCreate (r : Req) (tenant key : Nat) (s : State) : Host.Outcome State Fault Refusal :=
  .next (operateOk (cmdObj 0x1E20 1 roleOp) r (leBytes 2 tenant ++ leBytes 96 key) 2
    { bad := tenant == 0 || decide (tenant > 1023) || !Config.p384Valid key || s.keyTaken key, fenced := s.standby, state := ahas s.sec.tenants tenant, other := none }
    (fun s => s.onSec (fun c => { c with tenants := aset c.tenants tenant { authKey := key, sealed := false, memKeys := [], signKeys := [] } })) s)

/-- TENANT_RETIRE (R550): sessions, keys, jobs and record go, at the standby too. -/
def execTenantRetire (r : Req) (tenant : Nat) (s : State) : Host.Outcome State Fault Refusal :=
  .next (operateOk (cmdObj 0x1E20 2 roleOp) r (leBytes 2 tenant) 2
    { bad := tenant == 0 || decide (tenant > 1023), fenced := s.standby, state := !ahas s.sec.tenants tenant, other := none }
    (fun s =>
      let t := aget s.sec.tenants tenant
      let peer (sub : Nat) (arg : List Byte) (s : State) : State := onlyIf s.mirrorsOps (mirrorOp (cmdObj 0x1E30 sub 0) (leBytes 2 tenant ++ arg)) s
      let s := forAll ((t.map Tenant.memKeys).getD []) (fun k s => peer 2 (leBytes 1 k.1) s) s
      let s := forAll (s.sec.jobs.filter (fun j => j.2.tenant == tenant)) (fun j s => peer 5 (leBytes 4 j.1 ++ leBytes 4 0) s) s
      notify 0x1E02 (leBytes 2 tenant) (retireTenant tenant s)) s)

/-- What R576 and R560 refuse of a tenant's key command: on a standby FENCED, but in the Peer session. -/
def State.keyFenced (s : State) (r : Req) : Bool := s.standby && !s.isPeer r.client

/-- TENANT_SEAL (R551). -/
def execTenantSeal (r : Req) (s : State) : Host.Outcome State Fault Refusal :=
  .next (operateOk (cmdObj 0x1E30 7 roleTenant) r [] 0 { Verdict.ok with fenced := s.keyFenced r }
    (fun s => setTenant (s.keyTenant r 0) (fun t => { t with sealed := true }) s) s)

/-! ### Keys (R558 to R568) -/

/-- A key command of the 0x1E30 range: its argument, to the standby with the tenant in front, and its effect (R558, R560). -/
def keyCommand (sub : Nat) (r : Req) (tenant : Nat) (arg : List Byte) (first : Nat) (v : Verdict) (eff : State → State) (s : State) : Host.Outcome State Fault Refusal :=
  let o := cmdObj 0x1E30 sub roleTenant
  let lead := if s.isPeer r.client then leBytes 2 tenant else []
  .next (operate o r (lead ++ arg) (lead.length + first) { v with fenced := s.keyFenced r }
    (fun s => reply o r .ok [] (onlyIf s.mirrorsOps (copyToPeer o r (leBytes 2 tenant ++ arg)) (eff s))) s)

/-- A tenant's record, made where a Peer command names a tenant the standby does not hold (log 31). -/
def withTenant (tenant : Nat) (f : Tenant → Tenant) (s : State) : State :=
  let d : Tenant := { authKey := 0, sealed := false, memKeys := [], signKeys := [] }
  s.onSec (fun c => { c with tenants := amod c.tenants tenant d f })

/-- MEM_KEY_SET (R558, R560): a Peer session may set the tenant-0 key as KEY_ID 0. -/
def execMemKeySet (r : Req) (peerTenant keyId key : Nat) (s : State) : Host.Outcome State Fault Refusal :=
  let t := s.keyTenant r peerTenant
  let zero := s.isPeer r.client && t == 0 && keyId == 0
  let mine := ((aget s.sec.tenants t).map Tenant.memKeys).getD []
  let total := (s.sec.tenants.map (fun e => e.2.memKeys.length)).sum
  keyCommand 1 r t (leBytes 1 keyId ++ leBytes 64 key) 1
    { Verdict.ok with bad := !zero && (keyId == 0 || decide (keyId > 255) || t == 0), state := !zero && ahas mine keyId,
                      other := if !zero && (decide (mine.length ≥ 255) || decide (total ≥ 4096)) then some .noSpace else none }
    (fun s => if zero then s.onSec (fun c => { c with key0 := some key })
      else withTenant t (fun x => { x with memKeys := aset x.memKeys keyId key }) s) s

/-- MEM_KEY_DESTROY (R558): the pantry lines of the key reach DRAM, then the key is zeroised. -/
def execMemKeyDestroy (r : Req) (peerTenant keyId : Nat) (s : State) : Host.Outcome State Fault Refusal :=
  let t := s.keyTenant r peerTenant
  keyCommand 2 r t (leBytes 1 keyId) 1
    { Verdict.ok with bad := keyId == 0 || decide (keyId > 255), state := !ahas (((aget s.sec.tenants t).map Tenant.memKeys).getD []) keyId }
    (destroyMemKey t keyId) s

/-- JOB_KEY_SET (R558, R564, R568): a new job, or the next generation of one beside the generation in use. -/
def execJobKeySet (r : Req) (peerTenant job gen key switchAt : Nat) (s : State) : Host.Outcome State Fault Refusal :=
  let t := s.keyTenant r peerTenant
  let j := aget s.sec.jobs job
  let live := ((j.map LinkJob.gens).getD []).length
  let other := (j.map (fun x => x.tenant != t)).getD false
  let here := (j.map (fun x => ahas x.gens gen)).getD false
  keyCommand 3 r t (leBytes 4 job ++ leBytes 1 gen ++ leBytes 32 key ++ leBytes 8 switchAt) 4
    { Verdict.ok with bad := decide (gen > 255) || (live == 1 && !here && gen != ((j.map LinkJob.current).getD 0 + 1) % 256),
                      state := other || here || decide (live ≥ 2),
                      other := if j.isNone && (decide ((s.sec.jobs.filter (fun e => e.2.tenant == t)).length ≥ 64) || decide (s.sec.jobs.length ≥ 256)) then some .noSpace else none }
    (fun s => match aget s.sec.jobs job with
      | some _ => setJob job (fun x => { x with gens := aset x.gens gen key, switchAt := switchAt, current := if x.gens.isEmpty then gen else x.current }) s
      | none =>
        let n : LinkJob := { tenant := t, gens := [(gen, key)], current := gen, switchAt := 0, older := none, former := [], eids := [] }
        s.onSec (fun c => { c with jobs := aset c.jobs job n })) s

/-- JOB_BIND (R564): up to 64 EIDs, none bound elsewhere, at most 1,024 in the package. -/
def execJobBind (r : Req) (peerTenant job : Nat) (eids : List Nat) (s : State) : Host.Outcome State Fault Refusal :=
  let t := s.keyTenant r peerTenant
  let bound := (s.sec.jobs.map (fun e => e.2.eids.length)).sum
  keyCommand 4 r t (leBytes 4 job ++ leBytes 1 eids.length ++ eids.flatMap (leBytes 4)) 4
    { Verdict.ok with bad := eids.isEmpty || decide (eids.length > 64) || eids.any (fun e => e == 0 || decide (e ≥ 2 ^ 18)) || decide (eids.eraseDups.length < eids.length),
                      state := ((aget s.sec.jobs job).map LinkJob.tenant) != some t || eids.any (fun e => (s.jobOf e).isSome),
                      other := if bound + eids.length > 1024 then some .noSpace else none }
    (setJob job (fun x => { x with eids := x.eids ++ eids })) s

/-- JOB_KEY_DESTROY (R558, R564): EID 0 destroys the job and every binding; another ends that binding. -/
def execJobKeyDestroy (r : Req) (peerTenant job eid : Nat) (s : State) : Host.Outcome State Fault Refusal :=
  let t := s.keyTenant r peerTenant
  let j := aget s.sec.jobs job
  keyCommand 5 r t (leBytes 4 job ++ leBytes 4 eid) 4
    { Verdict.ok with bad := decide (eid ≥ 2 ^ 18), state := (j.map LinkJob.tenant) != some t || (eid != 0 && !((j.map LinkJob.eids).getD []).contains eid) }
    (fun s => if eid = 0 then dropJob job s
      else (setJob job (fun x => { x with eids := x.eids.filter (· ≠ eid) }) s).onSec (fun c => { c with
        tagGen := c.tagGen.filter (fun e => e.1.1 ≠ eid), tagGenOld := c.tagGenOld.filter (fun e => e.1.1 ≠ eid), oldEx := c.oldEx.filter (fun e => e.1 ≠ eid) })) s

/-- KERNEL_SIGN_KEY_SET (R558). -/
def execKernelSignKeySet (r : Req) (peerTenant keyId key : Nat) (s : State) : Host.Outcome State Fault Refusal :=
  let t := s.keyTenant r peerTenant
  keyCommand 6 r t (leBytes 1 keyId ++ leBytes 96 key) 1
    { Verdict.ok with bad := keyId == 0 || decide (keyId > 8) || !Config.p384Valid key, state := ahas (((aget s.sec.tenants t).map Tenant.signKeys).getD []) keyId }
    (withTenant t (fun x => { x with signKeys := aset x.signKeys keyId key })) s

/-- The tag generations of a job's bindings. -/
def jobTags (j : LinkJob) (l : Assoc (Nat × Nat × Nat) Nat) : Assoc (Nat × Nat × Nat) Nat := l.filter (fun e => j.eids.contains e.1.1)
/-- Those of the other EIDs. -/
def otherTags (j : LinkJob) (l : Assoc (Nat × Nat × Nat) Nat) : Assoc (Nat × Nat × Nat) Nat := l.filter (fun e => !j.eids.contains e.1.1)

/-- The exchanges with a job's partners that have begun and not ended: requests and recipes accepted, write requests whose data half is
still to come, and snoops (R566, R568; log 166). -/
def State.openExchanges (s : State) (j : LinkJob) : List (Nat × Nat × Nat) :=
  let begun := s.txn.reqs.map (fun q => (q.src, 0, q.tag)) ++ (s.txn.halves.filter (fun h => hasAddr h.2.op)).map (fun h => (h.2.src, 0, h.2.tag))
  let recipes := s.recp.recipes.map (fun r => (r.src, 0, r.tag))
  let snoops := s.txn.pool.map (fun q => (q.dest, 1, q.tag))
  (begun ++ recipes ++ snoops).filter (fun x => j.eids.contains x.1)

/-- JOB_KEY_SWITCH (R568): at T exchanges use the newer generation, every tag generation at 0; those begun before go on under the older
one, which is kept for 16 ms. -/
def execJobKeySwitch (job : Nat) (s : State) : Host.Outcome State Fault Refusal :=
  .next (match aget s.sec.jobs job with
    | some j =>
      match j.older, j.gens.find? (fun g => g.1 != j.current) with
      | none, some g => (setJob job (fun x => { x with current := g.1, older := some j.current }) s).onSec (fun c => { c with
          tagGenOld := otherTags j c.tagGenOld ++ jobTags j c.tagGen, tagGen := otherTags j c.tagGen
          oldEx := c.oldEx.filter (fun x => !j.eids.contains x.1) ++ s.openExchanges j })
      | _, _ => s
    | none => s)

/-- JOB_KEY_RETIRE_OLD (R568): 16 ms after a switch or an epoch change the older generation and the former keys go; an exchange that has
not ended by then goes on under the key in use (log 166). -/
def execJobKeyRetireOld (job : Nat) (s : State) : Host.Outcome State Fault Refusal :=
  .next (match aget s.sec.jobs job with
    | some j => (setJob job (fun x => { x with gens := x.gens.filter (fun g => x.older != some g.1), older := none, former := [] }) s).onSec (fun c => { c with
        tagGenOld := otherTags j c.tagGenOld, oldEx := c.oldEx.filter (fun x => !j.eids.contains x.1) })
    | none => s)

/-! ### Debug tokens (R570 to R573) -/

/-- DEBUG_CHALLENGE (R571): a fresh value; the previous one is void. -/
def execDebugChallenge (r : Req) (s : State) : Host.Outcome State Fault Refusal :=
  let o := cmdObj 0x1E20 3 (roleOp + roleDebug)
  .next (operate o r [] 0 Verdict.ok (fun s =>
    let v := Config.freeNat s.free % 2 ^ 64
    reply o r .ok (leBytes 8 v) ((useFree s).onSec (fun c => { c with challenge := some v }))) s)

/-- Void the challenge where the token carries it (R571). -/
def voidChallenge (b : List Byte) (s : State) : State :=
  s.onSec (fun c => { c with challenge := if c.challenge = some (leNat ((b.drop 56).take 8)) then none else c.challenge })

/-- DEBUG_TOKEN (R571 to R573): in the boot phase only with DEBUG_REQ, over KSL (R73, R74); a token taken in the hold ends it. -/
def execDebugToken (r : Req) (token : List Byte) (s : State) : Host.Outcome State Fault Refusal :=
  let o : OpObj := { index := 0x1E20, sub := 4, type := 3, roles := 0, any := true }
  let boot := s.pkg.phase == .boot && !(bits s.pkg.straps 6 1 == 1 && r.client.transport == .ksl)
  let format := match s.judgeToken token with | .bad .unsupported => true | _ => false
  .next (operate o r token 0 { Verdict.ok with state := boot && !format } (fun s => match s.judgeToken token with
    | .good t => reply o r .ok [] (endDebugHold (takeToken t (bump .tokensAccepted 0 (voidChallenge token s))))
    | .bad st => reply o r st [] (bump .tokensRefused 0 (onlyIf (st == .integrity) (voidChallenge token) s))) s)

/-- DEBUG_WITHDRAW (R572, R575). -/
def execDebugWithdraw (r : Req) (s : State) : Host.Outcome State Fault Refusal :=
  .next (operateOk (cmdObj 0x1E20 5 (roleOp + roleDebug)) r [] 0 { Verdict.ok with state := s.sec.token.isNone } endToken s)

/-- DEBUG_KEY_SET (R570, R575, R576). -/
def execDebugKeySet (r : Req) (key : Nat) (s : State) : Host.Outcome State Fault Refusal :=
  .next (operateOk (cmdObj 0x1E20 6 roleOp) r (leBytes 96 key) 0 { Verdict.ok with bad := !Config.p384Valid key, fenced := s.standby }
    (fun s => s.onSec (fun c => { c with debugKey := some key })) s)

/-- DEBUG_TOKEN_EXPIRY (R571, R572). -/
def execDebugTokenExpiry (s : State) : Host.Outcome State Fault Refusal := .next (endToken s)

end Sys2Proof.Machine
end

