-- ==== Sys2Proof/Machine/Twin.lean ====
section
/-!
DEFINITION. Machine/Twin.lean: the commands of the twin chapter (R462 to R500) and of R148.
-/
namespace Sys2Proof.Machine

/-- Whether the package runs: powered, not stopped, past the straps, not frozen (R57, R64, R638). -/
def State.runs (s : State) : Bool :=
  !s.pkg.poresetLow && s.pkg.stopped.isNone && s.pkg.phase != .strap && !s.frozen

/-- A timer of the twin: nothing while the package does not run. -/
def onTwinTimer (c : State → Bool) (f : State → State) (s : State) : State := if s.runs && c s then f s else s

/-- A twin packet: on a twin port, for the node EID (R151), and but for TW_HELLO from the peer that was agreed (R462). -/
def arriveTwin (op port : Nat) (p : Packet) (go : Packet → State → State) (s : State) : State :=
  if p.op ≠ op ∨ !isTwinPort port then s
  else arriveLink port p (fun p s =>
    if s.twin.st = .solo then twinIgnore s
    else if op ≠ 0xA0 ∧ (s.twin.peerEid = 0 ∨ p.src ≠ s.twin.peerEid) then twinIgnore s
    else go p s) s

/-! ### Fencing by a higher epoch, and ANNOUNCE (R148, R488, R568) -/

/-- The key of an epoch: HKDF(K, "VSK-EPOCH" ‖ E) (R568). -/
def epochKey (e k : Nat) : Nat := Config.hkdf k (leNat ([0x56, 0x53, 0x4B, 0x2D, 0x45, 0x50, 0x4F, 0x43, 0x48] ++ leBytes 4 e))

/-- Every live link key is replaced by its epoch key, tag generations at 0; the former keys of each job are kept (R568). -/
def epochKeys (e : Nat) (s : State) : State :=
  s.onSec (fun c => { c with
    jobs := c.jobs.map (fun j => (j.1, { j.2 with gens := j.2.gens.map (fun g => (g.1, epochKey e g.2)), former := j.2.gens.map Prod.snd })),
    tagGenOld := [], tagGen := [] })

/-- ANNOUNCE (R148): of its own service EID with a higher epoch it fences, or ends a release; any other is counted. -/
def execAnnounce (port : Nat) (p : Packet) (s : State) : Host.Outcome State Fault Refusal :=
  .next (if p.op ≠ 0x08 then s else arriveFabric port p (fun p s =>
    let service := leNat (p.body.take 4) % 2 ^ 18
    let e := leNat ((p.body.drop 8).take 4)
    if service = s.obj .serviceEid ∧ e > s.twin.epoch then epochKeys e (higherEpoch e s) else bump .announcesIgnored port s) s)

/-! ### TW_HELLO (R466, R468, R560) -/

/-- A HELLO is refused (R12, R464, R468): it is answered with a HELLO of STATUS REFUSED_STATE, but for one that is such an answer itself; a
Varisk in Enrolling raises TWIN_ENROL_REFUSED and tries again after 1 s. -/
def refuseHello (p : Packet) (h : Peer) (reason : Nat) (s : State) : State :=
  let s := onlyIf (s.twin.st != .solo && p.status != Status.refusedState.code) (sendHelloAs .refusedState) s
  if s.twin.st ≠ .enrolling then twinIgnore s
  else if s.twin.refused ≠ 0 then s
  else notify 0x1B02 (leBytes 4 h.node ++ leBytes 1 reason) (s.onTwin (fun t => { t with refused := reason }))

/-- The peer has been agreed (R464, R468). -/
def enrolled (h : Peer) (role : Nat) (s : State) : State :=
  let s := s.onTwin (fun t => { t with peer := some h, peerEid := h.node, refused := 0, refused5 := false })
  notify 0x1B01 (leBytes 4 h.node ++ leBytes 1 role ++ leBytes 4 s.twin.epoch) s

/-- This Varisk becomes the standby of the peer (R464, R483). -/
def becomeStandby (h : Peer) (s : State) : State := enrolled h 0 (startSyncing h s)

/-- Both are in Enrolling (R468): HOME_PREFERENCE 1 owns, on a tie the lower node EID; the epoch becomes the higher + 1, and the owner
draws a new INCARNATION. -/
def agreeEnrolling (h : Peer) (s : State) : State :=
  let mine := s.obj .homePreference == 1
  let own := if mine == h.pref then decide (s.obj .nodeEid < h.node) else mine
  let e := max s.twin.epoch h.epoch + 1
  if e > 0xFFFFFFFF then notify 0x1B07 [] s
  else if own then
    let s := useFree (useEpoch e (s.onTwin (fun t => { t with incarnation := Config.freeNat s.free % 2 ^ 64, peerEid := h.node })))
    sendHello (startFeeding h (enrolled h 1 (becomeOwner s)))
  else becomeStandby { h with epoch := e } (useEpoch e s)

/-- TW_HELLO (R464, R466, R468, R479, R488): acted on by the first row of R468 that applies. -/
def takeHello (p : Packet) (s : State) : State :=
  let h := helloPeer p
  let e := s.twin.epoch
  let mine := s.twin.st == .alone || s.twin.st == .feeding || s.twin.st == .active
  let theirs := h.state == 6 || h.state == 7 || h.state == 8
  let known := s.twin.peerEid == h.node
  if h.code ≠ Config.orderingCodeU8 then refuseHello p h 1 s
  else if h.service ≠ s.obj .serviceEid then refuseHello p h 2 s
  else if h.units ≠ s.obj .deepCacheUnits then refuseHello p h 3 s
  else if !Config.peerChainGood h.node then refuseHello p h 4 s
  else if mine && theirs then
    if h.epoch > e then higherEpoch h.epoch s else if h.epoch < e then sendHello s else twinIgnore s
  else
    match s.twin.st with
    | .alone =>
      if known && h.epoch > e then fenceTo h.epoch s
      else if h.state = 1 ∨ h.state = 4 ∨ h.state = 10 then sendHello (startFeeding h (enrolled h 1 s)) else twinIgnore s
    | .feeding | .active => if known && h.epoch > e then fenceTo h.epoch s else sendHello (twinIgnore s)
    | .promoting => if known && h.epoch > e then fenceTo h.epoch s else twinIgnore s
    | .releasing => if known && h.epoch > e then higherEpoch h.epoch s else twinIgnore s
    | .enrolling =>
      if s.twin.refused ≠ 0 then s
      else if theirs then becomeStandby h s
      else if h.state = 1 then agreeEnrolling h s
      else if s.twin.refused5 then s else notify 0x1B02 (leBytes 4 h.node ++ leBytes 1 5) (s.onTwin (fun t => { t with refused5 := true }))
    | .adrift | .fenced =>
      if theirs && (s.twin.st == .adrift || decide (h.epoch ≥ e)) then becomeStandby h s
      else if s.twin.refused5 then s else notify 0x1B02 (leBytes 4 h.node ++ leBytes 1 5) (s.onTwin (fun t => { t with refused5 := true }))
    | .syncing =>
      if known && h.epoch > e then higherEpoch h.epoch s
      else if known && h.state == 6 then s.onTwin (fun t => { t with st := .enrolling, held := [], syncEnd0 := false, syncEnd1 := false })
      else if known && h.state == 7 then s.onTwin (fun t => { t with incarnation := h.incarnation, peer := some h })
      else twinIgnore s
    | .standby =>
      if known && h.state == 6 then notify 0x1B06 [] (s.onTwin (fun t => { t with st := .adrift, releaseCode := none })) else twinIgnore s
    | .solo => twinIgnore s

/-- TW_HELLO (R468). -/
def execTwHello (port : Nat) (p : Packet) (s : State) : Host.Outcome State Fault Refusal := .next (arriveTwin 0xA0 port p takeHello s)

/-- TW_KEEPALIVE (R467): the peer's epoch, state and HANDOVER_ASK; a higher epoch acts under R464; an owner seen Alone ends a standing as
standby (R479, log 26). -/
def takeKeepalive (p : Packet) (s : State) : State :=
  let a := leNat (p.body.take 16)
  let e := bits a 0 32
  let st := bits a 32 8
  if bits a 40 18 ≠ s.twin.peerEid then twinIgnore s
  else
    let s := s.onTwin (fun t => { t with kaAt := s.now, kaLost1ms := false, kaLost15 := false,
                                         peer := t.peer.map (fun q => { q with state := st, epoch := e, handoverAsk := bits a 58 1 == 1 }) })
    if e > s.twin.epoch then higherEpoch e s
    else if s.twin.st = .standby ∧ st = 6 then notify 0x1B06 [] (s.onTwin (fun t => { t with st := .adrift, releaseCode := none }))
    else if s.twin.st = .syncing ∧ st = 6 then s.onTwin (fun t => { t with st := .enrolling, held := [], syncEnd0 := false, syncEnd1 := false })
    else s

/-- TW_KEEPALIVE (R467). -/
def execTwKeepalive (port : Nat) (p : Packet) (s : State) : Host.Outcome State Fault Refusal := .next (arriveTwin 0xA1 port p takeKeepalive s)

/-- A release code counts only in Standby, with keepalives lost for less than 1 ms (R484); any other is counted (R464). -/
def holdRelease (s : State) : State :=
  if s.twin.st = .standby ∧ !s.twin.kaLost1ms then s.onTwin (fun t => { t with releaseCode := some s.now }) else twinIgnore s

/-- TW_RELEASE (R482): a release code when it names the next epoch. -/
def execTwRelease (port : Nat) (p : Packet) (s : State) : Host.Outcome State Fault Refusal :=
  .next (arriveTwin 0xA2 port p (fun p s =>
    let a := leNat (p.body.take 16)
    if bits a 0 32 = s.twin.epoch + 1 ∧ bits a 32 8 = 1 then holdRelease s else twinIgnore s) s)

/-- MR_ACK (R470): what the standby has applied completes the commits held for it. -/
def execMrAck (port : Nat) (p : Packet) (s : State) : Host.Outcome State Fault Refusal :=
  .next (arriveTwin 0xA3 port p (fun p s =>
    if !s.mirrors then twinIgnore s
    else
      let a := leNat (p.body.take 16)
      let later (old new sent : Nat) : Nat := if mseqLe old new && mseqLe new sent then new else old
      let s := s.onTwin (fun t => { t with acked0 := later t.acked0 (bits a 0 32) t.mseq0, acked1 := later t.acked1 (bits a 32 32) t.mseq1 })
      let s := s.onTwin (fun t => { t with unacked := t.unacked.filter (fun u => !mseqLe u.mseq (if u.stream = 0 then t.acked0 else t.acked1)) })
      settleWaits (endResync (releaseAll (bump .twAcks 0 s)))) s)

/-- MR_LINE (R471, R473). -/
def execMrLine (port : Nat) (p : Packet) (s : State) : Host.Outcome State Fault Refusal := .next (arriveTwin 0xA4 port p takeMirror s)
/-- MR_STATE (R472, R473). -/
def execMrState (port : Nat) (p : Packet) (s : State) : Host.Outcome State Fault Refusal := .next (arriveTwin 0xA5 port p takeMirror s)
/-- RS_LINES (R491). -/
def execRsLines (port : Nat) (p : Packet) (s : State) : Host.Outcome State Fault Refusal := .next (arriveTwin 0xA6 port p takeMirror s)

/-- RP_REQ (R477): answered once the stream has been applied up to MSEQ. -/
def execRpReq (port : Nat) (p : Packet) (s : State) : Host.Outcome State Fault Refusal :=
  .next (arriveTwin 0xA7 port p (fun p s =>
    let a := leNat (p.body.take 16)
    if s.twin.st = .standby ∨ s.twin.st = .syncing ∨ s.owner then
      serveRepairs (s.onTwin (fun t => { t with repairWaits := t.repairWaits ++ [(bits a 77 1, bits a 45 32, bits a 0 45, p.tag, port)] }))
    else twinIgnore s) s)

/-- RP_DATA (R323, R477): the peer's copy is written and used, or the line is poisoned. -/
def execRpData (port : Nat) (p : Packet) (s : State) : Host.Outcome State Fault Refusal :=
  .next (arriveTwin 0xA8 port p (fun p s =>
    match s.poolReq p.src p.tag with
    | some q =>
      if q.issuer ≠ .repair then s
      else
        let a := leNat (p.body.take 16)
        let l := bits a 0 45
        let s := endPool q s
        if p.status = 0 ∧ l = q.key then
          let bad := bits a 48 1 == 1
          let s := setMeta l (fun m => { m with poison := bad, tenant := bits a 49 15, version := bits a 64 16, key := none, cipher := !bad })
            (putBytes (l * 128) (padTo 128 (p.body.drop 16)) s)
          settleWaits (endRepair l true s)
        else settleWaits (endRepair q.key false s)
    | none => s) s)

/-- HB_REQ (R495): an owner in Active grants a handback at the next quiesce barrier. -/
def execHbReq (port : Nat) (p : Packet) (s : State) : Host.Outcome State Fault Refusal :=
  .next (arriveTwin 0xA9 port p (fun _ s => if s.twin.st = .active then s.onTwin (fun t => { t with handback := true }) else twinIgnore s) s)

/-! ### Lamps (R480 to R482) -/

/-- A lamp input. -/
def State.lamp (s : State) (n : Nat) : LampIn := if n = 0 then s.twin.lamp0 else s.twin.lamp1
/-- Set a lamp input. -/
def setLamp (n : Nat) (l : LampIn) (s : State) : State := s.onTwin (fun t => { t with lamp0 := if n = 0 then l else t.lamp0, lamp1 := if n = 0 then t.lamp1 else l })

/-- LAMP_FRAME (R480, R481): a hold frame of the epoch or a higher one lights the input; a release frame of the next epoch is a release
code; bad frames and lower epochs count as dark, and are counted. -/
def execLampFrame (lamp frame : Nat) (s : State) : Host.Outcome State Fault Refusal :=
  if lamp > 1 ∨ !s.runs ∨ Config.twinPorts = 0 then .next s
  else
    let kind := bits frame 8 2
    let e := bits frame 16 32
    let good := decide (frame < 2 ^ 64) && bits frame 0 8 == 0xB4 && bits frame 56 8 == crc8 (leBytes 7 (bits frame 0 56)) && (kind == 1 || kind == 2)
    let dark (why : Nat) (s : State) : State := setLamp lamp { state := 0, why := why } s
    .next (if !good then bump .twBadLampFrames 0 (if (s.lamp lamp).state = 1 then s else dark 2 s)
      else if kind = 1 then
        if e ≥ s.twin.epoch then setLamp lamp { state := 1, why := 0 } s
        else bump .twLowLampFrames 0 (if (s.lamp lamp).state = 1 then s else dark 3 s)
      else if e = s.twin.epoch + 1 then
        let t := holdRelease s
        if s.twin.st = .standby ∧ !s.twin.kaLost1ms then setLamp lamp { state := 2, why := 1 } t else dark 1 t
      else dark 1 s)

/-- LAMP_INPUT_DARK (R481): no good hold frame for 10 µs. -/
def execLampInputDark (lamp : Nat) (s : State) : Host.Outcome State Fault Refusal :=
  .next (if lamp ≤ 1 ∧ (s.lamp lamp).state = 1 then setLamp lamp { state := 0, why := 1 } s else s)

/-- LAMP_FAULT (R481): a standby has one input dark for 1 ms while the other is lit or keepalives continue. -/
def execLampFault (lamp : Nat) (s : State) : Host.Outcome State Fault Refusal :=
  .next (if lamp ≤ 1 ∧ s.runs ∧ (s.twin.st = .standby ∨ s.twin.st = .syncing ∨ s.twin.st = .adrift) ∧ (s.lamp lamp).state ≠ 1 ∧ ((s.lamp (1 - lamp)).state = 1 ∨ !s.twin.kaLost1ms)
    then notify 0x1B09 (leBytes 1 lamp ++ leBytes 1 (max 1 (s.lamp lamp).why)) s else s)

/-! ### Timers of the link (R464, R467, R478, R479, R490) -/

/-- KEEPALIVE_SEND (R467): none in Solo and Fenced, nor after a release (R496); TW_HELLO besides in Enrolling, Fenced and Adrift. -/
def execKeepaliveSend (s : State) : Host.Outcome State Fault Refusal :=
  if s.frozen then .next s else
  .next (onTwinTimer (fun s => s.twin.st != .solo) (fun s =>
    let s := if s.twin.st = .fenced ∨ (s.twin.st = .releasing ∧ s.twin.released) then s else sendKeepalive s
    if s.twin.st = .enrolling ∨ s.twin.st = .fenced ∨ s.twin.st = .adrift then sendHello s else s) s)

/-- STANDBY_KEEPALIVE_LOSS (R464, R494): 1 ms without a keepalive. -/
def execStandbyKeepaliveLoss (s : State) : Host.Outcome State Fault Refusal :=
  if s.frozen then .next s else
  .next (onTwinTimer (fun s => s.twin.st == .syncing || s.twin.st == .standby) (fun s =>
    let s := s.onTwin (fun t => { t with kaLost1ms := true })
    if s.twin.st = .syncing then s.onTwin (fun t => { t with st := .enrolling, held := [], syncEnd0 := false, syncEnd1 := false })
    else if s.twin.releaseCode.isSome then s
    else notify 0x1B06 [] (s.onTwin (fun t => { t with st := .adrift }))) s)

/-- OWNER_KEEPALIVE_LOSS (R464, R479): 1.5 ms without a keepalive (cause 1), or with a record unacknowledged while they continue. -/
def execOwnerKeepaliveLoss (s : State) : Host.Outcome State Fault Refusal :=
  if s.frozen then .next s else
  .next (onTwinTimer (fun s => s.twin.st == .feeding || s.twin.st == .active) (fun s =>
    settleWaits (loseStandby (if s.now ≥ s.twin.kaAt + 1500000 then 1 else 2) s)) s)

/-- MR_ACK_REPORT_TIMER (R470). -/
def execMrAckReportTimer (s : State) : Host.Outcome State Fault Refusal :=
  if s.frozen then .next s else
  .next (onTwinTimer (fun s => s.twin.st == .syncing || s.twin.st == .standby) sendMrAck s)

/-- ANNOUNCE_TIMER (R483): an owner of a twin pair announces itself. -/
def execAnnounceTimer (s : State) : Host.Outcome State Fault Refusal :=
  if s.frozen then .next s else .next (onTwinTimer (fun s => s.owner) sendAnnounce s)

/-- ENROL_RETRY (R464): a refused enrolment is tried again. -/
def execEnrolRetry (s : State) : Host.Outcome State Fault Refusal :=
  if s.frozen then .next s else
  .next (onTwinTimer (fun s => s.twin.st == .enrolling && s.twin.refused != 0) (fun s => sendHello (s.onTwin (fun t => { t with refused := 0 }))) s)

/-- HB_REQ_TIMER (R495): a Standby that prefers ownership, or whose owner asks for the handover, and that has applied all it was sent. -/
def execHbReqTimer (s : State) : Host.Outcome State Fault Refusal :=
  if s.frozen then .next s else
  let ask (s : State) : Bool := s.obj .homePreference == 1 || (match s.twin.peer with | some q => q.handoverAsk | none => false)
  .next (onTwinTimer (fun s => s.twin.st == .standby && s.twin.held.isEmpty && ask s)
    (fun s => sendTw 0 (mkPacket 0 0xA9 s.twin.peerEid (s.obj .nodeEid) 0 0 0 false []) s) s)

/-- Send SYNC_END of a stream and remember its MSEQ (R472, R490). -/
def sendSyncEnd (stream : Nat) (s : State) : State :=
  let s := mirrorState stream 9 1 (leBytes 14 0) s
  let n := if stream = 0 then s.twin.mseq0 else s.twin.mseq1
  s.onTwin (fun t => { t with resync := t.resync.map (fun r => if stream = 0 then { r with end0 := some n } else { r with end1 := some n }) })

/-- RESYNC_SEND (R490 to R492): the next record of the state dump, the next lines of the sweep once they have been read, or the stream's
SYNC_END. -/
def execResyncSend (stream : Nat) (s : State) : Host.Outcome State Fault Refusal :=
  if s.frozen then .next s else
  .next (match s.twin.st, s.twin.resync with
  | .feeding, some r =>
    if stream > 1 ∨ !s.runs ∨ (if stream = 0 then r.end0 else r.end1).isSome then s
    else match r.dump.find? (fun x => x.1 == stream) with
      | some x => mirrorState stream x.2.1 x.2.2.1 x.2.2.2 (s.onTwin (fun t => { t with resync := some { r with dump := r.dump.erase x } }))
      | none =>
        let w := if stream = 0 then r.sweep0 else r.sweep1
        match sweepNext stream w with
        | none => sendSyncEnd stream s
        | some l =>
          let n := min 3 (512 - l % 512)
          let w := { w with next := l + n }
          match readSweep stream l n s with
          | (s, false) => s
          | (s, true) => sendSweep stream l n (s.onTwin (fun t => { t with resync := some (if stream = 0
            then { r with sweep0 := w, doneLines := r.doneLines + n } else { r with sweep1 := w, doneLines := r.doneLines + n }) }))
  | _, _ => s)

/-! ### Takeover (R485 to R487) -/

/-- The frame tags after a takeover (R311): FILLING tags are cleared, WRITING ones are DIRTY with WRITING cleared. -/
def settleTags (s : State) : State :=
  let lines := (s.mem.lines.map Prod.fst).filter (fun l => decide (s.tagBase ≤ l * 128) && decide (l * 128 < ledgerBase))
  forAll lines (fun l s =>
    let k := homeCluster (l * 128)
    let set := (localAddr (l * 128) - s.tagBase / 16) / 128
    forAll (List.range 16) (fun w s =>
      let t := s.tag k set w
      if !tagHas t tagValid then s
      else if tagHas t tagFilling then setTag k set w 0 s
      else if tagHas t tagWriting then setTag k set w (tagPut (tagPut t tagDirty true) tagWriting false) s
      else s) s) s

/-- The recipes after a takeover (R394): a stage in Collecting waits on; one in Reducing runs again from tile 0; the others end ABORTED. -/
def settleRecipes (s : State) : State :=
  forAll s.recp.recipes (fun r s =>
    if r.d.code ≠ 7 then cancelRecipe r.id s
    else
      let reducing := parm (s.stageLine r.ctx r.d.w2) 12 1 == 1
      let leads := !((s.arrived r.ctx r.d.w2).any (fun x => x.id > r.id))
      if reducing then setRecipe r.id (fun x => { x with phase := .reducing, leader := leads, done := [], checked := [], next := 0 }) s else s) s

/-- Whether a slot is in Detaching. -/
def State.detachingSlot (s : State) (slot : Nat) : Bool := ((aget s.part.slots slot).map (fun r => r.st == .detaching)).getD false

/-- The recalls after a takeover (R262): each is restarted toward the holders recorded, by its RECALL_KIND (R241): a downgrade for a request
or a publish sweep, a detach toward the slot that leaves only. -/
def restartRecalls (s : State) : State :=
  forAll (s.dir.entries.filter (fun e => e.2.recalling)) (fun e s =>
    let all := s.holders e.1 e.2
    startRecall e.1 (e.2.kind == 1 || e.2.kind == 7) (if e.2.kind = 6 then all.filter (fun h => s.detachingSlot h) else all) e.2.kind [] .none
      (s.onDir (fun d => { d with entries := aset d.entries e.1 { e.2 with recalling := false } }))) s

/-- The slots after a takeover (R203): Active leases start again; a detach continues. -/
def restartSlots (s : State) : State :=
  forAll s.part.slots (fun e s =>
    match e.2.st with
    | .active => s.onPart (fun p => { p with slots := aset p.slots e.1 { e.2 with renewedAt := s.now } })
    | .detaching => recallSlot e.1 s
    | _ => s) s

/-- A Varisk forced out of Enrolling starts an empty pool (R494). -/
def emptyPool (s : State) : State :=
  let s := s.onMem (fun _ => MemState.reset)
  let s := s.onDir (fun _ => DirState.reset)
  let s := s.onPart (fun p => { PartnerState.reset with invWaits := p.invWaits, rangeWaits := p.rangeWaits, fqSticky := p.fqSticky })
  let s := s.onRecp (fun r => { RecipeState.reset with nextId := r.nextId })
  s.onTxn (fun t => { t with reqs := [], halves := [], ledger := [] })

/-- Whether the conditions of R485 hold. -/
def State.mayTake (s : State) : Bool :=
  let dark := s.twin.lamp0.state != 1 && s.twin.lamp1.state != 1
  let silent := s.twin.kaLost1ms || (match s.twin.peer with | some q => !ownerCode q.state | none => true)
  match s.twin.st with
  | .standby => dark && silent && (s.twin.releaseCode.isSome || s.twin.force.isSome)
  | .adrift => dark && (silent || decide (s.now ≥ s.twin.kaAt + 1000000)) && s.twin.force.isSome
  | .enrolling => s.twin.force.isSome
  | _ => false

/-- TAKEOVER_START (R486): T0.  Steps 1 to 4 in one: what is held is applied, the epoch taken, Alone entered, everything restarted. -/
def execTakeoverStart (s : State) : Host.Outcome State Fault Refusal :=
  if s.frozen then .next s else
  .next (onTwinTimer State.mayTake (fun s =>
    let e := s.twin.epoch + 1
    if e > 0xFFFFFFFE then notify 0x1B07 [] s
    else
      let empty := s.twin.st == .enrolling
      let basis := if s.twin.st == .standby && s.twin.releaseCode.isSome then 1 else 2
      let s := s.onTwin (fun t => { t with st := .promoting })
      let s := applyHeld 1 (s.twin.held.length + 1) (applyHeld 0 (s.twin.held.length + 1) s)
      let s := s.onTwin (fun t => { t with held := [], releaseCode := none, force := none, repairWaits := [], basis := basis })
      let s := becomeOwner (useEpoch e (if empty then emptyPool s else s))
      -- the divergence map begins before anything restarts: what that commits is in it (R479)
      let s := epochKeys e (s.onTwin (fun t => { t with diverging := true, divergence := [] }))
      let s := s.onPart (fun p => { p with ctxCache := [], xlate := [], walks := [] })
      let s := s.onTraffic (fun t => { t with ingress := [], egress := [], rtPort := [], holds := [] })
      let s := settleTags (settleRecipes (restartRecalls (restartSlots s)))
      bump .twTakeovers 0 (abortDumps (fun _ => true) false s)) s)

/-- TAKEOVER_CLAIM_DEADLINE (R486, R644): 5 ms after T0, sleds that are not claimed are unreachable. -/
def execTakeoverClaimDeadline (s : State) : Host.Outcome State Fault Refusal :=
  if s.frozen then .next s else
  .next (onTwinTimer (fun s => s.twin.basis != 0 && s.owner) (fun s =>
    let late := [0, 1, 2, 3].filter (fun n => (s.sled n).present && !(s.sled n).claimed)
    let s := forAll late (fun n s => notify 0x1602 (leBytes 1 n) (setSled n (fun x => { x with reachable := false }) s)) s
    takeoverDone (onlyIf (!late.isEmpty) (timeoutFired 11 9 0 0) s)) s)

/-- FORCE_ARM_EXPIRY (R484): an armed FORCE lapses after 10 s. -/
def execForceArmExpiry (s : State) : Host.Outcome State Fault Refusal :=
  if s.frozen then .next s else .next (s.onTwin (fun t => { t with force := none }))

/-- RELEASE_CODE_EXPIRY (R464, R484): a release code of 10 ms no longer counts; a Standby without keepalives is then Adrift. -/
def execReleaseCodeExpiry (s : State) : Host.Outcome State Fault Refusal :=
  if s.frozen then .next s else
  .next (onTwinTimer (fun s => s.twin.releaseCode.isSome) (fun s =>
    let s := s.onTwin (fun t => { t with releaseCode := none, lamp0 := if t.lamp0.state = 2 then { state := 0, why := 1 } else t.lamp0,
                                         lamp1 := if t.lamp1.state = 2 then { state := 0, why := 1 } else t.lamp1 })
    if s.twin.st = .standby ∧ s.twin.kaLost1ms then notify 0x1B06 [] (s.onTwin (fun t => { t with st := .adrift })) else s) s)

/-! ### Handback (R495, R496) -/

/-- QUIESCE_BARRIER (R495, R496): after TWIN_QUIESCE no recipe is open but ALLREDUCE-STAGE in Collecting; a granted handback starts. -/
def execQuiesceBarrier (s : State) : Host.Outcome State Fault Refusal :=
  if s.frozen then .next s else
  .next (onTwinTimer (fun s => s.twin.quiescing && s.recp.recipes.all (fun r => r.phase == .collecting)) (fun s =>
    let s := s.onTwin (fun t => { t with quiescing := false })
    if s.twin.st = .active ∧ s.twin.handback then settleWaits (releasePeerWaits (s.onTwin (fun t => { t with st := .releasing, paused := true }))) else s) s)

/-- QUIESCE_WAIT_EXPIRY (R495): VC5 credits are restored; the handback waits for the next TWIN_QUIESCE. -/
def execQuiesceWaitExpiry (s : State) : Host.Outcome State Fault Refusal :=
  if s.frozen then .next s else .next (s.onTwin (fun t => { t with quiescing := false }))

/-- HANDBACK_DRAIN_TIMEOUT (R464, R496): 0.4 ms after the barrier requests are not committed, and the handback is abandoned. -/
def execHandbackDrainTimeout (s : State) : Host.Outcome State Fault Refusal :=
  if s.frozen then .next s else
  .next (onTwinTimer (fun s => s.twin.st == .releasing && !s.twin.released) (fun s =>
    notify 0x1B0D [] (bump .twHandbacksAbandoned 0 (s.onTwin (fun t => { t with st := .active, paused := false, handback := false })))) s)

/-- RELEASE_LAMP_END (R482, R496): the lamps go dark 100 µs after the release. -/
def execReleaseLampEnd (s : State) : Host.Outcome State Fault Refusal :=
  if s.frozen then .next s else
  .next (onTwinTimer (fun s => s.twin.lampOut == .release) (fun s => s.onTwin (fun t => { t with lampOut := .dark })) s)

/-- RELEASING_TIMEOUT (R464): 10 ms after the release no one has taken over. -/
def execReleasingTimeout (s : State) : Host.Outcome State Fault Refusal :=
  if s.frozen then .next s else
  .next (onTwinTimer (fun s => s.twin.st == .releasing && s.twin.released) (fun s =>
    notify 0x1B05 (leBytes 1 3) (bump .twStandbyLosses 0 (leaveReleasing s.twin.epoch s))) s)

/-! ### Commands (R464, R484, R495, R499, R500) -/

/-- TWIN_ENABLE (R10, R464, R500): 1 in Solo while Ready makes the owner Alone under the next epoch; 0 in Enrolling or Alone makes Solo. -/
def execTwinEnableWrite (r : Req) (value : Nat) (s : State) : Host.Outcome State Fault Refusal :=
  let solo := s.twin.st == .solo
  .next (operateOk { index := 0x1B00, sub := 1, type := 2, roles := roleOp, any := false } r (leBytes 1 value) 1
    { Verdict.ok with bad := decide (value > 1) || Config.twinPorts == 0
                      state := (value == 0 && s.twin.st != .enrolling && s.twin.st != .alone) || (value == 1 && solo && decide (s.twin.epoch ≥ 0xFFFFFFFF)) }
    (fun s =>
      let s := saveSettings (setObj .twinEnable value (s.onTwin (fun t => { t with enable := value == 1 })))
      if value = 1 then
        if s.twin.st = .solo then becomeOwner (useEpoch (s.twin.epoch + 1) s) else s
      else
        -- a solo Varisk claims the sleds that are present (R309)
        let s := s.onTwin (fun t => { t with st := .solo, lampOut := .dark, diverging := false, divergence := [], refused := 0, refused5 := false, force := none })
        forAll [0, 1, 2, 3] (fun n s => if (s.sled n).present && s.reachable n then claimAfterInfo n s else s) s) s)

/-- TWIN_FORCE (R484): armed with the next epoch; refused and counted in Syncing (R464). -/
def execTwinForce (r : Req) (epoch : Nat) (s : State) : Host.Outcome State Fault Refusal :=
  let state := !(s.twin.st == .enrolling || s.twin.st == .standby || s.twin.st == .adrift)
  .next (onlyIf (s.twin.st == .syncing) twinIgnore (operateOk (cmdObj 0x1B30 1 (roleOp + rolePm)) r (leBytes 4 epoch) 4
    { Verdict.ok with bad := epoch != s.twin.epoch + 1 || Config.twinPorts == 0, state := state }
    (fun s => s.onTwin (fun t => { t with force := some epoch })) s))

/-- TWIN_FORCE_CANCEL (R499). -/
def execTwinForceCancel (r : Req) (s : State) : Host.Outcome State Fault Refusal :=
  .next (operateOk (cmdObj 0x1B30 2 (roleOp + rolePm)) r [] 0 { Verdict.ok with bad := Config.twinPorts == 0, state := s.twin.force.isNone }
    (fun s => s.onTwin (fun t => { t with force := none })) s)

/-- TWIN_HANDOVER (R495, R500): sets HANDOVER_ASK on an owner in Active. -/
def execTwinHandover (r : Req) (s : State) : Host.Outcome State Fault Refusal :=
  .next (operateOk (cmdObj 0x1B30 3 (roleOp + rolePm)) r [] 0 { Verdict.ok with bad := Config.twinPorts == 0, state := s.twin.st != .active }
    (fun s => s.onTwin (fun t => { t with handoverAsk := true })) s)

/-- TWIN_QUIESCE (R495, R500): until the barrier no new RECIPE is accepted. -/
def execTwinQuiesce (r : Req) (s : State) : Host.Outcome State Fault Refusal :=
  .next (operateOk (cmdObj 0x1B30 4 rolePm) r [] 0 { Verdict.ok with bad := Config.twinPorts == 0, fenced := s.standby }
    (fun s => s.onTwin (fun t => { t with quiescing := true })) s)

end Sys2Proof.Machine
end

