-- ==== Sys2Proof/Machine/Objects.lean ====
section
/-!
DEFINITION. Machine/Objects.lean: writes of objects and tables (R142, R187, R233, R274, R396, R426, R461, R520, R547, R600, R650, R662,
R672 to R675, R683).
-/
namespace Sys2Proof.Machine

/-! ### Writes of value objects -/

/-- Whether an IPv6 address, as the number its 16 bytes spell with the first byte lowest, is multicast or loopback (R683). -/
def badIpv6 (v : Nat) : Bool := v % 256 == 255 || v == 2 ^ 120
/-- Whether an IPv4 address is multicast or loopback (R683). -/
def badIpv4 (v : Nat) : Bool := (decide (224 ≤ v / 2 ^ 24) && decide (v / 2 ^ 24 < 240)) || v / 2 ^ 24 == 127

/-- Whether a pool structure of some bytes lies wholly in the direct window, at its alignment (R233). -/
def State.inDirect (s : State) (base bytes align : Nat) : Bool := base % align == 0 && decide (base + bytes ≤ s.poolTop)

/-- The largest U of the part (R274). -/
def maxUnits : Nat := Config.stackGiB * 3 / 8

/-- What an object's own rules refuse of a value with UNSUPPORTED, beyond its range. -/
def State.valueBad (s : State) (o : Obj) (v : Nat) : Bool :=
  match o with
  | .mgmtIpv6 => badIpv6 v
  | .mgmtIpv4 => badIpv4 v
  | .nodeEid => v == s.obj .serviceEid
  | .serviceEid => v == s.obj .nodeEid
  | .contextTableBase => v != 0 && !s.inDirect v (2 ^ 26) (2 ^ 20)
  | .managerFqBase => v != 0 && !s.inDirect v 262400 4096
  | .deepCacheUnits => decide (v > maxUnits)
  | .panicOff => decide (v ≥ s.obj .panicOn)
  | .panicOn => decide (v ≤ s.obj .panicOff)
  | .recipeEnable => v % 2 == 1
  | .rtPortPir => decide (v > 11718) && v != unlimited
  | .rtPortPbs => decide (v < s.obj .rtPortPir) && s.obj .rtPortPir != unlimited
  | .freqCap => v % 100 != 0
  | _ => false

/-- A Compact fabric port that is not Disabled (R187). -/
def State.compactUp (s : State) : Bool := (List.range 32).any (fun p => portPresent p && s.compact p && (s.port p).st != .disabled)

/-- What an object's own rules refuse with REFUSED_STATE. -/
def State.valueRefused (s : State) (o : Obj) (v : Nat) : Bool :=
  match o with
  | .nodeEid | .serviceEid => s.part.slots.any (fun e => e.2.st != .quarantine) || (decide (v ≥ 0x1000) && s.compactUp)
  | .contextTableBase | .managerFqBase => !s.part.slots.isEmpty
  | .deepCacheUnits => s.frames.any (fun e => tagHas e.2.2.2 tagDirty)
  | _ => false

/-- Whether an object is one of a twin that the build does not have: every write to it answers UNSUPPORTED (R10). -/
def noTwinObj (o : Obj) : Bool := Config.twinPorts == 0 && o.info.index / 256 == 0x1B

/-- What a WRITE of a value object is checked for (R10, R650, R683). -/
def writeVerdict (o : Obj) (v : Nat) (s : State) : Verdict :=
  { Verdict.ok with bad := noTwinObj o || decide (v < o.info.lo) || decide (v > o.info.hi) || s.valueBad o v
                    state := s.valueRefused o v || (o.info.rws && s.obj .serviceMode != 1) }

/-- The effect of a WRITE: the value; a stored object's settings record (R672); tenant sessions end where measurement block 6 has
changed (R555, R557). -/
def writeValue (o : Obj) (v : Nat) (s : State) : State :=
  let changed := (o == .signerPolicy || o == .fastPolicy) && s.obj o != v
  onlyIf changed block6Changed (onlyIf o.info.stored saveSettings (setObj o v s))

/-- OBJECT_WRITE (R650, R667): the objects whose writes do more have commands of their own, which a WRITE of them is. -/
def execObjectWrite (r : Req) (obj : Obj) (value : Nat) (s : State) : Host.Outcome State Fault Refusal :=
  match obj with
  | .timeRoot => execTimeRootWrite r value s
  | .serviceMode => execServiceModeWrite r value s
  | .twinEnable => execTwinEnableWrite r value s
  | o => .next (operateOk (writeObj o) r (leBytes o.info.size value) o.info.size (writeVerdict o value s) (writeValue o value) s)

/-! ### Tables -/

/-- The key of a row: its first fields (R674). -/
def rowKey (t : TableId) (r : Row) : List Nat := r.fields.take t.info.keys

/-- Whether a row's fields fit the fields of the table. -/
def rowFits (t : TableId) (r : Row) : Bool :=
  r.fields.length == (tableWidths t).length && ((r.fields.zip (tableWidths t)).all (fun x => decide (x.1 < 256 ^ x.2)))

/-- The rows of a table with one put in: it replaces the row of its key, or comes after the others (R675). -/
def putRow (t : TableId) (row : Row) (rows : List Row) : List Row :=
  if rows.any (fun x => rowKey t x == rowKey t row) then rows.map (fun x => if rowKey t x = rowKey t row then row else x) else rows ++ [row]

/-- Whether a public key is registered elsewhere than in the row of a key table that is replaced (R662, R683). -/
def State.keyElsewhere (s : State) (t : TableId) (row : Row) (rows : List Row) : Bool :=
  let k := row.fields.getD 1 0
  let other : TableId := if t = .operatorKeys then .poolManagerKeys else .operatorKeys
  rows.any (fun x => rowKey t x != rowKey t row && x.fields.getD 1 0 == k) || s.keyIn other k || s.sec.tenants.any (fun e => e.2.authKey == k)

/-- Whether a rate of a profile is outside its range (R520). -/
def badRate (v : Nat) : Bool := decide (v > 11718) && v != unlimited

/-- Whether one bucket of a profile row is refused: CIR, PIR, CBS, PBS (R520). -/
def badBucket (cir pir cbs pbs : Nat) : Bool :=
  badRate cir || badRate pir || decide (pir < cir) || (pir != unlimited && decide (pir < 32)) || decide (cbs < 32) || decide (pbs < 32)
    || (cir != unlimited && decide (cbs < cir)) || (pir != unlimited && decide (pbs < pir))

/-- Whether a profile row is refused (R520). -/
def badProfile (f : List Nat) : Bool :=
  let p := f.getD 0 0
  p == 0 || decide (p > 63)
    || (List.range 6).any (fun i => badBucket (f.getD (1 + 4 * i) 0) (f.getD (2 + 4 * i) 0) (f.getD (3 + 4 * i) 0) (f.getD (4 + 4 * i) 0))

/-- Whether a partition resets. -/
def State.partitionResets (s : State) (p : Nat) : Bool := s.boot.partials.any (fun x => x.kind == 3 && x.unit == p)

/-- What a table's own rules say of a row to be put beside the rows there (R142, R187, R233, R520, R600, R662, R675, R683). -/
def putCheck (t : TableId) (row : Row) (rows : List Row) (s : State) : Option Status :=
  let f (i : Nat) : Nat := row.fields.getD i 0
  let bad : Bool := match t with
    | .operatorKeys | .poolManagerKeys => decide (f 0 > 7) || !Config.p384Valid (f 1) || s.keyElsewhere t row rows
    | .portConfig => !portPresent (f 0) || decide (f 1 > 1) || decide (f 2 > 1) || decide (f 3 > 1) || (f 2 == 1 && !isFabric (f 0))
    | .eidRoutes => !(isFabric (f 0) && portPresent (f 0))
    | .partnerGrants => decide (f 1 > 1) || decide (f 2 > 64) || ((row.fields.drop 3).take (f 2)).contains 0
    | .trafficProfiles => badProfile row.fields
    | .trafficAssign => f 1 != 0 && !(s.table .trafficProfiles).any (fun x => x.fields.getD 0 0 == f 1)
    | .partitions => decide (f 0 > 7) || rows.any (fun x => x.fields.getD 0 0 != f 0 &&
        (Nat.land (x.fields.getD 1 0) (f 1) != 0 || Nat.land (x.fields.getD 2 0) (f 2) != 0))
  if !rowFits t row || bad then some .unsupported
  else match t with
    | .portConfig => if (s.portRow (f 0)).getD 2 0 != f 2 && (s.port (f 0)).st != .disabled then some .refusedState else none
    | .partitions => if s.partitionResets (f 0) then some .refusedState else none
    | _ => none

/-- Put rows one after another; the first that fails decides, with its ordinal (R675). -/
def putAll (t : TableId) (s : State) : Nat → List Row → List Row → List Row × Option (Status × Nat)
  | _, [], rows => (rows, none)
  | n, row :: rest, rows =>
    match putCheck t row rows s with
    | some st => (rows, some (st, n))
    | none =>
      let rows' := putRow t row rows
      let most := if t = .trafficProfiles then t.info.limit - 1 else t.info.limit
      if rows'.length > most then (rows, some (.noSpace, n)) else putAll t s (n + 1) rest rows'

/-- Set a table's rows; its TABLE_GEN rises when the keys have changed (R674). -/
def setTable (t : TableId) (rows : List Row) (s : State) : State :=
  let changed := ((s.table t).map (rowKey t)) != rows.map (rowKey t)
  onlyIf changed (tableChanged t.info.index) (s.onKodp (fun k => { k with tables := aset k.tables t rows }))

/-- What follows a change of a table: the settings record, the sessions of keys that are gone, the grants of the partners whose row has
changed, and the pins that new routes allow (R150, R193, R662, R672). -/
def tableEffect (t : TableId) (old : List Row) (s : State) : State :=
  let now := s.table t
  match t with
  | .operatorKeys | .poolManagerKeys =>
    let gone := (old.map (fun x => x.fields.getD 1 0)).filter (fun k => !now.any (fun x => x.fields.getD 1 0 == k))
    saveSettings (endSessions (fun n => match n.authKey with | some k => gone.contains k | none => false) s)
  | .partnerGrants =>
    let grants (eid : Nat) : List Nat := ((s.grantRow eid).map Row.contexts).getD []
    let changed (eid : Nat) : Bool := old.find? (fun x => x.fields.getD 0 0 == eid) != now.find? (fun x => x.fields.getD 0 0 == eid)
    forAll (s.part.slots.filter (fun e => changed e.2.eid)) (fun e s => setSlot e.1 (fun x => { x with grants := grants x.eid }) s) s
  | .eidRoutes => repin s
  | _ => s

/-- What a row or key failure says to `operate`: UNSUPPORTED with the ordinal, or a further code with it (R652, R675). -/
def rowVerdict : Option (Status × Nat) → Verdict
  | none => Verdict.ok
  | some (.unsupported, n) => { Verdict.ok with bad := true, body := leBytes 2 n }
  | some (st, n) => { Verdict.ok with other := some st, body := leBytes 2 n }

/-- TABLE_PUT (R675). -/
def execTablePut (r : Req) (table : TableId) (rows : List Row) (s : State) : Host.Outcome State Fault Refusal :=
  let (after, fail) := putAll table s 0 rows (s.table table)
  .next (operateOk (putObj table) r (leBytes 2 rows.length ++ rows.flatMap (rowBytes table)) 0 (rowVerdict fail)
    (fun s => tableEffect table (s.table table) (setTable table after s)) s)

/-- The object of a table whose rows are deleted. -/
def deleteObj (t : TableId) : OpObj := { putObj t with type := 6 }

/-- What a table's own rules say of a key to be deleted from the rows there (R520, R600, R675). -/
def deleteCheck (t : TableId) (key : List Nat) (rows : List Row) (s : State) : Option Status :=
  let k := key.getD 0 0
  if t = .portConfig ∨ key.length ≠ t.info.keys ∨ (t = .trafficProfiles ∧ k = 0) then some .unsupported
  else if !rows.any (fun x => rowKey t x == key) then some .refusedState
  else match t with
    | .trafficProfiles => if (s.table .trafficAssign).any (fun x => x.fields.getD 1 0 == k) then some .refusedState else none
    | .partitions => if s.partitionResets k then some .refusedState else none
    | _ => none

/-- Delete keys one after another; the first that fails decides, with its ordinal (R675). -/
def deleteAll (t : TableId) (s : State) : Nat → List (List Nat) → List Row → List Row × Option (Status × Nat)
  | _, [], rows => (rows, none)
  | n, key :: rest, rows =>
    match deleteCheck t key rows s with
    | some st => (rows, some (st, n))
    | none => deleteAll t s (n + 1) rest (rows.filter (fun x => rowKey t x != key))

/-- The bytes of a key. -/
def keyBytes (t : TableId) (key : List Nat) : List Byte := ((tableWidths t).zip key).flatMap (fun x => leBytes x.1 x.2)

/-- TABLE_DELETE (R675). -/
def execTableDelete (r : Req) (table : TableId) (keys : List (List Nat)) (s : State) : Host.Outcome State Fault Refusal :=
  let (after, fail) := deleteAll table s 0 keys (s.table table)
  .next (operateOk (deleteObj table) r (leBytes 2 keys.length ++ keys.flatMap (keyBytes table)) 0 (rowVerdict fail)
    (fun s => tableEffect table (s.table table) (setTable table after s)) s)

end Sys2Proof.Machine
end

