-- ==== Sys2Proof/Machine/Power.lean ====
section
/-!
DEFINITION. Machine/Power.lean: the commands of the power chapter (R521 to R547) and of sugar in the recipe chapter's rows.
-/
namespace Sys2Proof.Machine

/-- SUGAR_QUEUE_SERVE (R525): room has changed; the queue is served in its order. -/
def execSugarQueueServe (s : State) : Host.Outcome State Fault Refusal :=
  if s.frozen then .next s else .next (serveQueue s)

/-- Ask for the Δ-power of the grant a recipe renews, for r × T / n (R369): handled, or only queued, by `put`. -/
def askRenewal (r : Recipe) (g : Sugar) (put : Sugar → State → State) (s : State) : State :=
  let n := min r.total 512
  let left := r.total - r.done.length
  let dur := left * (if g.unitMw = 500 then 4000 else 10000) / (max 1 n)
  put { mkSugar s .renewal r.id r.die g.granted dur g.unitMw g.rt with coreMa := g.coreMa }
    (s.onRecp (fun q => { q with recipes := q.recipes.map (fun x => if x.id = r.id then { x with askedAt := s.now } else x) }))

/-- GRANT_RENEWAL (R369): the front end asks for the Δ-power of the grant it renews, for r × T / n. -/
def execGrantRenewal (recipe : Nat) (s : State) : Host.Outcome State Fault Refusal :=
  if s.frozen then .next s else
  match s.recipe recipe, s.recipeGrant recipe with
  | some r, some g => .next (if s.recipeWaits recipe then s else askRenewal r g admitGrant s)
  | _, _ => .next s

/-- GRANT_END (R526): the grant has reached its duration.  A recipe that goes on and has not asked for its renewal waits for it (R370). -/
def execGrantEnd (kind : SugarKind) (key : Nat) (s : State) : Host.Outcome State Fault Refusal :=
  if s.frozen then .next s else
  let ended := endGrant kind key s
  match s.recipe key, s.power.grants.find? (fun g => g.kind == kind && g.key == key && kind != .wake && kind != .boost) with
  | some r, some g => .next (if s.recipeWaits key then ended else askRenewal r g queueSugar ended)
  | _, _ => .next ended

/-- GRANT_RAMP_DONE (R61, R527): the grant's core current has reached its full value; TP4 falls where its step was announced. -/
def execGrantRampDone (kind : SugarKind) (key : Nat) (s : State) : Host.Outcome State Fault Refusal :=
  if s.frozen then .next s else
  .next (endStep kind.num key
    (s.onPower (fun p => { p with grants := p.grants.map (fun g => if g.kind = kind ∧ g.key = key then { g with reached := g.coreMa } else g) })))

/-- The ballast whose hold has run out, the oldest at least, and the rest (R528). -/
def State.dueBallast (s : State) : Nat × List (Nat × Nat) :=
  let due (x : Nat × Nat) : Bool := decide (s.now ≥ x.1 + s.obj .ballastHold * 1000)
  match s.power.ballast with
  | [] => (0, [])
  | x :: l => (x.2 + ((l.filter due).map Prod.snd).sum, l.filter (fun y => !due y))

/-- BALLAST_HOLD_EXPIRY (R527, R528): ballast starts to ramp down; a fall that takes the changes of 10 µs above 60 A is announced. -/
def execBallastHoldExpiry (s : State) : Host.Outcome State Fault Refusal :=
  if s.frozen then .next s else
  let (b, rest) := s.dueBallast
  let tell := s.mustAnnounce b
  let s := s.onPower (fun p => { p with ballast := rest, ballastDown := p.ballastDown + b, ballastTp4 := p.ballastTp4 || tell })
  .next (if tell then announceStep 9 0 0 b false s else onlyIf (b != 0) (drawQuiet b) s)

/-- BALLAST_RAMP_DOWN_DONE (R528): ballast stops counting as committed; TP4 falls when the fall was announced. -/
def execBallastRampDownDone (s : State) : Host.Outcome State Fault Refusal :=
  if s.frozen then .next s else
  let tp4 := s.power.ballastTp4
  let s := s.onPower (fun p => { p with ballastDown := 0, ballastTp4 := false })
  .next (onlyIf tp4 (endStep 9 0) s)

/-- The number of a rail in RAIL_MONITOR (R686). -/
def Rail.num : Rail → Nat
  | .vddCore => 0 | .vddSram => 1 | .vddq => 2 | .vpp => 3 | .vddOpt => 4 | .vddAux => 5

/-- The transient minimum of a rail in mV (R55). -/
def Rail.least : Rail → Nat
  | .vddCore => 726 | .vddSram => 780 | .vddq => 715 | .vpp => 1710 | .vddOpt => 860 | .vddAux => 1710

/-- POWER_SAMPLE (R521, R522, R543): the rails' voltages (mV) and currents (mA); the reserve and the energy change by the
power over 10 µs. -/
def execPowerSample (rails : List (Rail × Nat × Nat)) (s : State) : Host.Outcome State Fault Refusal :=
  let s := s.onPkg (fun p => { p with railMv := rails.foldl (fun t r => aset t r.1 r.2.1) p.railMv
                                      railMa := rails.foldl (fun t r => aset t r.1 r.2.2) p.railMa })
  let s := forAll rails (fun r s => onlyIf (decide (r.2.1 < r.1.least)) (bump .railDroops r.1.num) s) s
  let mw := (rails.map (fun r => r.2.1 * r.2.2)).sum / 1000
  let lim := s.sustainedMw
  .next (s.onPower (fun p =>
    let r := p.reserveNj + lim * 10 - mw * 10
    let e := p.energyNj + mw * 10
    let edge := s.now / 100000000
    { p with reserveNj := min r 100000000000, energyNj := e, samples := (mw :: p.samples).take 100
             energyAt := if p.energyAt.head?.map Prod.fst == some edge then p.energyAt else ((edge, e / 1000000) :: p.energyAt).take 4 }))

/-- The throttle state that applies (R540): the highest of thermal critical, thermal warning and power, state 1 being left
only after 10 ms at 50 W below its limit. -/
def State.throttleNow (s : State) : Nat :=
  let avg := s.avgMw
  let excess := decide (avg > 1500000) || (decide (avg > s.sustainedMw) && s.power.reserveNj == 0)
  if s.thermalLevel ≥ 2 then 3 else if s.thermalLevel = 1 then 2
  else if excess || (s.power.throttle == 1 && decide (s.power.calmTicks < 100)) then 1 else 0

/-- The frequency cap of a cluster after one tick in a throttle state (R540). -/
def nextCap (thr capTicks capRaise cap freqCap : Nat) : Nat :=
  match thr with
  | 0 => if capTicks % capRaise = 0 then min (cap + 100) (max freqCap 1800) else cap
  | 1 => max 800 (cap - 100)
  | 2 => if capTicks % 10 = 0 ∧ cap > 1200 then cap - 100 else cap
  | _ => 800

/-- GOVERNOR_TICK (R523, R540): base committed power, the throttle state, the frequency caps; the governor does not run while Die 0's Baker
pair reheats. -/
def execGovernorTick (s : State) : Host.Outcome State Fault Refusal :=
  if s.obs.reheat.contains 0 then .next s else
  let avg := s.avgMw
  let old := s.power.throttle
  let lim := if s.power.reserveNj = 0 then s.sustainedMw else 1500000
  let calm := if decide (avg + 50000 ≤ lim) then s.power.calmTicks + 1 else 0
  let s := s.onPower (fun p => { p with calmTicks := calm, capTicks := p.capTicks + 1
                                        baseMw := avg - (p.grants.map Sugar.granted).sum })
  let new := s.throttleNow
  let ms := s.now / 1000000
  let s := s.onPower (fun p => { p with
    throttle := new
    capRaise := if new = 0 ∧ old ≠ 0 then (if old = 1 then 10 else 100) else p.capRaise
    throttleLast := if ms = p.throttleMsNo then p.throttleLast else p.throttleMs
    throttleMs := if ms = p.throttleMsNo then max p.throttleMs new else new
    throttleMsNo := ms
    units := (List.range 16).foldl (fun t u =>
      let q := agetD t u PowerUnit.reset
      aset t u { q with cap := nextCap new p.capTicks p.capRaise q.cap (s.obj .freqCap) }) p.units })
  let s := bumpBy .pwThrottleNs (0 * 4 + new) 100000 (bumpBy .pwThrottleNs (1 * 4 + new) 100000 s)
  let s := onlyIf (new != 0) (fun s => forAll (List.range 16) (fun u s => endGrant .boost u s) s) s
  let s := onlyIf (new != old) (notify 0x1D01 (leBytes 1 old ++ leBytes 1 new)) s
  .next (onlyIf (new == 1 && old != 1) (notifyLimited 0x1D02 0 1000000000 (fun _ => leBytes 4 avg)) s)

/-- The frequency a cluster may run at: its cap, FREQ_CAP, and 1.8 GHz unless boost sugar is held (R540, R546). -/
def State.targetFreq (s : State) (k : Nat) : Nat :=
  let boost := (s.power.grants.find? (fun g => g.kind == .boost && g.key == k && g.full)).map (fun g => g.granted / 6000 * 100)
  min (min (s.punit k).cap (s.obj .freqCap)) (1800 + boost.getD 0)

/-- Whether a cluster runs a Compute tile (R354, R524). -/
def State.runsCompute (s : State) (k : Nat) : Bool :=
  (coresOf k).any (fun c => match (s.coreRec c).run with
    | some t => ((s.recipe t.recipe).map (fun r => r.d.cls == 2)).getD false
    | none => false)

/-- A cluster asks for boost sugar while it runs Compute tiles with FREQ_CAP above 1.8 GHz, and gives it back when its tiles have ended or the
throttle state is not 0 (R524, R540). -/
def settleBoost (k : Nat) (s : State) : State :=
  let mine (g : Sugar) : Bool := g.kind == .boost && g.key == k
  if s.power.throttle = 0 ∧ s.obj .freqCap > 1800 ∧ s.runsCompute k = true then
    (if s.power.grants.any mine || s.power.queue.any mine then s
     else admitGrant (mkSugar s .boost k (dieOfCluster k) (60 * (s.obj .freqCap - 1800)) 0 6000 false) s)
  else if s.power.grants.any mine || s.power.queue.any mine then
    endGrant .boost k (s.onPower (fun p => { p with queue := p.queue.filter (fun g => !mine g) }))
  else s

/-- FREQ_STEP (R540): one step of 0.1 GHz toward the cap; boost sugar is asked for or given back with it (R524). -/
def execFreqStep (cluster : Nat) (s : State) : Host.Outcome State Fault Refusal :=
  if s.frozen then .next s else
  let t := s.targetFreq cluster
  .next (settleBoost cluster (setPunit cluster (fun p => { p with freq := if p.freq < t then min t (p.freq + 100) else max t (p.freq - 100) }) s))

/-- NAP_ALLOWANCE (R527, R529): a new µs of global time; what a ramp draws beyond 40 A is drawn in the µs that follow; held Nap wakes go while
the 40 A allow. -/
def execNapAllowance (s : State) : Host.Outcome State Fault Refusal :=
  if s.frozen then .next s else
  .next (wakeSpares (forAll (List.range 16) (fun u s =>
    if (s.punit u).move = .napHeld ∧ s.power.napUsed + 6000 ≤ 40000 then
      setPunit u (fun q => { q with move := .waking }) (drawQuiet 6000 s)
    else s) (s.onPower (fun w => { w with napUsed := w.napUsed - 40000 }))))

/-- IDLE_TIMER_EXPIRY (R531, R534): an idle unit in Run chooses a state. -/
def execIdleTimerExpiry (unit : Nat) (s : State) : Host.Outcome State Fault Refusal :=
  if s.frozen then .next s else
  let p := s.punit unit
  .next (onlyIf (decide (unit < 24) && p.st == .run && p.move == .none && s.unitIdle unit) (chooseState unit) s)

/-- CALENDAR_WAKE (R534): a calendar entry wakes the unit for its event. -/
def execCalendarWake (unit : Nat) (s : State) : Host.Outcome State Fault Refusal :=
  if s.frozen then .next s else
  let p := s.punit unit
  .next (onlyIf (decide (unit < 24) && p.st != .run && p.move == .none) (fun s => beginWake unit (setPunit unit (fun q => { q with event := true }) s)) s)

/-- POWER_ENTRY_DONE (R535, R536): the entry ends; a wake that came after the last abort point follows. -/
def execPowerEntryDone (unit : Nat) (s : State) : Host.Outcome State Fault Refusal :=
  if s.frozen then .next s else
  -- a stack enters Nap or Doze only with every bank pulled in (R282, R536 step 2)
  let ready (t : PowerSt) : Bool := decide (unit < 16) || t == .deep || s.pulledIn (unit - 16)
  match (s.punit unit).move with
  | .entering t => .next (if ready t then entryDone unit t .none s else s)
  | .enteringWake t => .next (if ready t then beginWake unit (entryDone unit t .none s) else s)
  | _ => .next s

/-- WAKE_REQUEST (R36, R539). -/
def execWakeRequest (unit : Nat) (s : State) : Host.Outcome State Fault Refusal :=
  if s.frozen then .next s else
  .next (onlyIf (decide (unit < 24)) (wakeUnit unit) s)

/-- WAKE_COMPLETE (R537): the unit is in Run and what was held is delivered; one woken for a calendar event chooses again at
once when nothing arrived (R534).  A cluster in Doze or Deep completes only with its wake sugar granted and its current reached (R527). -/
def execWakeComplete (unit : Nat) (s : State) : Host.Outcome State Fault Refusal :=
  if s.frozen then .next s else
  let p := s.punit unit
  let needs := decide (unit < 16) && (p.st == .doze || p.st == .deep)
  if p.move = .waking ∧ (!needs || s.power.grants.any (fun g => g.kind == .wake && g.key == unit && g.full)) then
    let left := p.st
    let s := bump .puWakes (unit * 4 + left.num) (enterState unit .run .none s)
    let s := onlyIf (decide (unit < 16)) (fun s => crumb 2 unit 5 left.num (s.onObs (fun o => { o with rings := amod o.rings (2, unit) Ring.reset (fun r => { r with resumed := true }) }))) s
    let s := onlyIf (decide (unit ≥ 16) && left == .deep) (fun s => s.onDram (fun d => { d with refresh := aset d.refresh (unit - 16) (if s.thermalLevel ≥ 1 then 1 else 0) })) s
    let held := agetD s.power.heldAt unit 0
    let s := setPunit unit (fun q => { q with event := false, refreshAt := 0 }) (s.onPower (fun w => { w with heldAt := adel w.heldAt unit }))
    .next (onlyIf (p.event && held == 0 && s.unitIdle unit) (chooseState unit) s)
  else .next s

/-! ### Jobs, hints, timers (R533, R544, R546, R547) -/

/-- ENERGY_TOTAL in mJ (R543). -/
def State.energyMj (s : State) : Nat := s.power.energyNj / 1000000

/-- Whether a job is open. -/
def State.jobOpen (s : State) (job : Nat) : Bool := s.power.jobs.any (fun j => j.job == job && j.closeAt == 0)

/-- JOB_OPEN (R544, R546). -/
def execJobOpen (r : Req) (job tenant : Nat) (s : State) : Host.Outcome State Fault Refusal :=
  let opens := (s.power.jobs.filter (fun j => j.closeAt == 0)).length
  .next (operateOk (cmdObj 0x1D20 1 rolePm) r (leBytes 4 job ++ leBytes 2 tenant) 4
    { Verdict.ok with bad := decide (tenant > 1023), state := s.jobOpen job, other := if opens ≥ 1024 then some .noSpace else none }
    (fun s => tableChanged 0x1D14 (s.onPower (fun p => { p with jobs := p.jobs.filter (fun j => j.job ≠ job) ++
      [{ job := job, tenant := tenant, openAt := s.now, openMj := s.energyMj, closeAt := 0, closeMj := 0 }] }))) s)

/-- JOB_CLOSE (R544, R546): the job's energy is ENERGY_TOTAL at close less that at open; its job-step timer ends. -/
def execJobClose (r : Req) (job : Nat) (s : State) : Host.Outcome State Fault Refusal :=
  .next (operateOk (cmdObj 0x1D20 2 rolePm) r (leBytes 4 job) 4 { Verdict.ok with state := !s.jobOpen job }
    (fun s => s.onPower (fun p => { p with
      jobs := p.jobs.map (fun j => if j.job = job ∧ j.closeAt = 0 then { j with closeAt := max 1 s.now, closeMj := s.energyMj } else j)
      timers := p.timers.filter (fun t => t.job ≠ job) })) s)

/-- The units of a cluster mask and a stack mask (R546). -/
def maskUnits (clusters stackList : Nat) : List Nat :=
  (List.range 16).filter (fun k => bits clusters k 1 == 1) ++ ((List.range 8).filter (fun k => bits stackList k 1 == 1)).map (· + 16)

/-- QUIET_HINT (R533, R546): replaces the hints of the named units; an end in the past clears them. -/
def execQuietHint (r : Req) (clusters stackList stop : Nat) (s : State) : Host.Outcome State Fault Refusal :=
  .next (operateOk (cmdObj 0x1D20 3 rolePm) r (leBytes 2 clusters ++ leBytes 1 stackList ++ leBytes 8 stop) 2
    { Verdict.ok with bad := decide (clusters ≥ 2 ^ 16) || decide (stackList ≥ 2 ^ 8) }
    (fun s => forAll (maskUnits clusters stackList) (fun u s => setPunit u (fun p => { p with quiet := if stop > s.now then stop else 0 }) s) s) s)

/-- JOB_STEP_TIMER (R533, R546): sets a job's timer, or clears it with period 0. -/
def execJobStepTimer (r : Req) (job first period lead clusters stackList : Nat) (s : State) : Host.Outcome State Fault Refusal :=
  .next (operateOk (cmdObj 0x1D20 4 rolePm) r
    (leBytes 4 job ++ leBytes 8 first ++ leBytes 4 period ++ leBytes 4 lead ++ leBytes 2 clusters ++ leBytes 1 stackList) 4
    { Verdict.ok with bad := decide (clusters ≥ 2 ^ 16) || decide (stackList ≥ 2 ^ 8) || (period != 0 && (decide (period < 10) || decide (period > 10000000)))
                      state := !s.jobOpen job }
    (fun s => s.onPower (fun p => { p with timers := p.timers.filter (fun t => t.job ≠ job) ++
      (if period = 0 then [] else [{ job := job, first := first, period := period, lead := lead, units := maskUnits clusters stackList }]) })) s)

end Sys2Proof.Machine
end

