-- ==== Sys2Proof/Machine/ReadObj.lean ====
section
/-!
DEFINITION. Machine/ReadObj.lean: the values of the objects of the dictionary that are not tables, as READ returns them (R78, R91, R141,
R186, R232, R267, R316, R425, R460, R499, R519, R545, R546, R575, R599, R616, R646, R681, R682).
-/
namespace Sys2Proof.Machine

/-- The value object of an index and subindex. -/
def objOf (index sub : Nat) : Option Obj := allObjs.find? (fun o => o.info.index == index && o.info.sub == sub)

/-- The number of a twin state (0x1B20.01). -/
def twinNum : TwinSt → Nat
  | .solo => 0 | .enrolling => 1 | .syncing => 2 | .standby => 3 | .adrift => 4 | .promoting => 5 | .alone => 6 | .feeding => 7
  | .active => 8 | .releasing => 9 | .fenced => 10

/-- The node number of the straps (R71). -/
def State.kodpAddr (s : State) : Nat := bits s.pkg.straps 2 4

/-! ### Values -/

/-- What READ finds: the roles as bits, whether any message may read it, and the bytes. -/
structure Value where
  roles : Nat
  any   : Bool
  bytes : List Byte
deriving DecidableEq, Repr

/-- A value of some bytes that some roles may read. -/
def val (roles size v : Nat) : Option Value := some { roles := roles, any := false, bytes := leBytes size v }
/-- A value any message may read. -/
def valAny (size v : Nat) : Option Value := some { roles := 0, any := true, bytes := leBytes size v }

/-- A signed number as two's complement of some bits, saturating. -/
def satI (w : Nat) (v : Int) : Nat := ((max (-(2 ^ (w - 1) : Int)) (min (2 ^ (w - 1) - 1) v)) % 2 ^ w).toNat
/-- A Boolean as BOOL. -/
def b01 (b : Bool) : Nat := if b then 1 else 0

/-- Cores enabled now. -/
def State.enabledCores (s : State) : Nat := ((List.range 288).filter (fun c => corePresent c && (s.unit .core c).st == .enabled)).length

/-- The HOPS the Varisk sends (R183): 0 as root, one more than its parent's, 255 with none. -/
def State.hopsOut (s : State) : Nat :=
  if s.obs.time0.st = .root then 0 else match s.txn.timeParent.bind (fun p => aget s.txn.timeRx p) with
    | some r => (r.hops + 1) % 256
    | none => 255

/-- The energy a tenant role reads (R545): ENERGY_TOTAL at the latest 100 ms boundary at least 100 ms in the past. -/
def State.tenantEnergy (s : State) : Nat :=
  match s.power.energyAt.find? (fun e => decide ((e.1 + 1) * 100000000 ≤ s.now)) with
  | some e => e.2
  | none => 0

/-- THROTTLE_STATE as a tenant reads it (R545): the highest state of the last whole millisecond. -/
def State.tenantThrottle (s : State) : Nat :=
  if s.now / 1000000 = s.power.throttleMsNo then s.power.throttleLast
  else if s.now / 1000000 = s.power.throttleMsNo + 1 then s.power.throttleMs else s.power.throttle

/-- The number of a firmware state (0x2000.01). -/
def fwNum : FwSt → Nat
  | .idle => 0 | .staging => 1 | .verified => 2 | .failed => 3 | .trial => 4 | .committing => 5

/-- The value of a time state (0x2100.02). -/
def timeNum : TimeSt → Nat
  | .free => 0 | .locking => 1 | .locked => 2 | .holdover => 3 | .root => 4

/-- STOP_STATE. -/
def stopNum : StopSt → Nat
  | .running => 0 | .stopSet => 1 | .stopped => 2 | .resumeSet => 3

/-- Both pool roles. -/
def opPm : Nat := roleOp + rolePm

/-- The read-only values of the ranges 0x0000 to 0x1200 (R141, R186, R681, R682). -/
def readLow (s : State) (c : Client) (index sub : Nat) : Option Value :=
  match index, sub with
  | 0x0000, 1 => valAny 1 1
  | 0x0000, 2 => valAny 2 8192
  | 0x0000, 3 => valAny 1 (s.rolesOf c)
  | 0x0000, 4 => valAny 2 ((s.tenantOf c).getD 0xFFFF)
  | 0x0005, 1 => val opPm 6 (Config.fuse 1)
  | 0x0005, 8 => val opPm 1 (b01 s.link.mgmtLink)
  | 0x1000, 1 => valAny 1 Config.orderingCodeU8
  | 0x1000, 2 => valAny 1 0xB1
  | 0x1000, 3 => valAny 16 (Config.fuse 2)
  | 0x1000, 4 => val opPm 8 dramTop
  | 0x1000, 5 => val opPm 8 s.poolTop
  | 0x1000, 6 => val opPm 8 (((List.range 4).map (fun n => if (s.sled n).present then (s.sled n).capacity * 65536 else 0)).sum)
  | 0x1000, 7 => val opPm 2 s.enabledCores
  | 0x1000, 8 => val opPm 2 (8 * s.enabledCores)
  | 0x1000, 9 => val opPm 2 (64 * s.enabledCores)
  | 0x1000, 0xA => val opPm 8 (((List.range 40).map (fun p => if portPresent p then 2 ^ p else 0)).sum)
  | 0x1000, 0xB => val opPm 2 (((List.range 10).map (fun e => if enginePresent e then 2 ^ e else 0)).sum)
  | 0x1000, 0xC => val opPm 1 (b01 (Config.twinPorts != 0))
  | 0x1000, 0xD => val roleOp 64 (Config.fuse 3)
  | 0x1100, 1 => val opPm 1 s.pkg.straps
  | 0x1100, 2 => val opPm 1 (match s.pkg.phase with | .strap | .boot => 1 | .run => 2 | .debug => 3)
  | 0x1100, 3 => val opPm 1 s.statusCode
  | 0x1100, 6 => val roleOp 1 s.gpioIn
  | 0x1100, 7 => val roleOp 1 (0x40 + s.kodpAddr)
  | 0x1100, 8 => val opPm 1 (b01 s.pkg.holdup)
  | 0x1100, 9 => val roleOp 4 (s.ctr .stepAckMissing 0)
  | 0x1100, 0xA => val roleOp 4 (s.ctr .stepAckUnsolicited 0)
  | 0x1100, 0xB => val roleOp 4 (s.ctr .stepAckStuck 0)
  | 0x1100, 0xC => val roleOp 4 (s.ctr .kslNotifyDrops 0)
  | 0x1100, 0xD => val roleOp 4 (s.ctr .warmresetShort 0)
  | 0x1111, 1 => val opPm 1 s.thermalLevel
  | 0x1200, 2 => some { roles := opPm, any := false, bytes := (List.range 8).flatMap (fun vc => leBytes 2 (vcAllot vc)) }
  | _, _ => none

/-- The read-only values of the ranges 0x1300 to 0x1C00 (R186, R232, R267, R316, R425, R460, R499, R519). -/
def readMid (s : State) (index sub : Nat) : Option Value :=
  match index, sub with
  | 0x1300, 6 => val opPm 1 (s.txn.timeParent.getD 0xFF)
  | 0x1300, 7 => val opPm 1 s.hopsOut
  | 0x1300, 8 => val opPm 8 0x20000000
  | 0x1300, 9 => val opPm 8 (s.ctr .unroutable 0)
  | 0x1400, 4 => val opPm 2 ((s.part.slots.filter (fun e => e.2.st == .active)).length)
  | 0x1400, 5 => val roleOp 8 (s.ctr .partnerEventsIgnored 0)
  | 0x1500, 3 => val opPm 4 500
  | 0x1500, 4 => val roleOp 2 512
  | 0x1600, 2 => val opPm 8 s.poolTop
  | 0x1600, 7 => val opPm 1 (b01 s.deep.bulk.isSome)
  | 0x1900, 3 => val opPm 32 (0xFE + 0x3F * 2 ^ 16)
  | 0x1A00, 2 => val opPm 2 (256 - s.core.store.length)
  | 0x1B20, 1 => val opPm 1 (twinNum s.twin.st)
  | 0x1B20, 2 => val opPm 4 s.twin.peerEid
  | 0x1B20, 3 => val opPm 4 s.twin.epoch
  | 0x1B20, 4 => val opPm 8 s.twin.incarnation
  | 0x1B20, 5 => val opPm 4 (s.twin.force.getD 0)
  | 0x1C00, 1 => val roleOp 4 1000
  | _, _ => none

/-- The read-only values of the ranges 0x1D00 to 0x2100 (R545, R546, R575, R599, R616, R646). -/
def readHigh (s : State) (c : Client) (index sub : Nat) : Option Value :=
  let tenant := (s.tenantOf c).isSome
  match index, sub with
  | 0x1D00, 7 => val (opPm + roleTenant) 1 (if tenant then s.tenantThrottle else s.power.throttle)
  | 0x1D00, 8 => val opPm 4 s.avgMw
  | 0x1D00, 9 => val opPm 8 s.energyMj
  | 0x1D00, 0xA => val (opPm + roleTenant) 8 s.tenantEnergy
  | 0x1D00, 0xD => val roleOp 4 (s.power.reserveNj / 1000000)
  | 0x1E00, 1 => val (opPm + roleDebug) 1 s.debugLevel
  | 0x1E00, 2 => valAny 48 Config.deviceDigest
  | 0x1E00, 3 => val opPm 1 s.sec.sessions.length
  | 0x1F00, 1 => val opPm 1 s.boot.step
  | 0x1F00, 2 => val opPm 1 s.boot.lastReset
  | 0x1F00, 3 => val opPm 4 s.boot.lastTime
  | 0x2000, 1 => val opPm 1 (fwNum s.fw.st)
  | 0x2000, 2 => val opPm 4 (s.bank s.fw.bootedB).version
  | 0x2000, 3 => val opPm 4 (s.bank s.fw.bootedB).svn
  | 0x2000, 4 => val opPm 4 (let k := s.bank s.staging; if k.st = .empty then 0 else k.version)
  | 0x2000, 5 => val opPm 4 s.fw.minSvn
  | 0x2000, 7 => val opPm 1 (b01 s.fw.bootedB)
  | 0x2000, 8 => val opPm 1 s.fw.lastAct
  | 0x2100, 1 => val (opPm + roleDebug) 8 s.now
  | 0x2100, 2 => val (opPm + roleDebug) 1 (timeNum s.obs.time0.st)
  | 0x2100, 3 => val (roleOp + roleDebug) 4 (satI 32 s.obs.time0.offset)
  | 0x2100, 4 => val (roleOp + roleDebug) 4 (satI 32 s.obs.time0.rateAdj)
  | 0x2100, 6 => val (roleOp + roleDebug) 1 (stopNum s.obs.stop)
  | 0x2100, 7 => val roleOp 8 (s.ctr .notifyDrops 0)
  | _, _ => none

/-- The value of an object, as READ returns it to a client; none where the object is absent, a table or a command (R648, R650). -/
def readValue (s : State) (c : Client) (index sub : Nat) : Option Value :=
  match objOf index sub with
  | some o => val o.info.roles o.info.size (s.obj o)
  | none =>
    match readLow s c index sub with
    | some v => some v
    | none => match readMid s index sub with
      | some v => some v
      | none => readHigh s c index sub

end Sys2Proof.Machine
end

