-- ==== Sys2Proof/Machine/OpsFlit.lean ====
section
/-!
DEFINITION. Machine/OpsFlit.lean: flits, their CRC and framing, acknowledgement and replay, credits received, and what a flit slot sends
(R120 to R138, R502 to R507, R632).
-/
namespace Sys2Proof
open Machine

/-- The number of a flit's kind (R120). -/
def FlitKind.num : FlitKind → Nat
  | .data => 0 | .control => 1 | .idle => 2 | .reserved => 3

/-- Bytes 0 to 247 of a flit (R120). -/
def Flit.front (f : Flit) : List Byte :=
  leBytes 8 (f.seq + f.ack * 2 ^ 12 + (if f.ackValid then 2 ^ 24 else 0) + f.kind.num * 2 ^ 25 + bits f.rsv 0 1 * 2 ^ 27 + f.headMap * 2 ^ 28
      + f.cont * 2 ^ 43 + bits f.rsv 1 17 * 2 ^ 47)
    ++ (f.slots.map (padTo 16)).flatten

/-- CRC-64 of a flit (R121). -/
def crc64 (l : List Byte) : Nat := Nat.xor (crcF 64 0x42F0E1EBA9EA3693 l (2 ^ 64 - 1)) (2 ^ 64 - 1)

/-- The 256 bytes of a flit (R120, R121). -/
def Flit.bytes (f : Flit) : List Byte := f.front ++ leBytes 8 f.crc

/-- Whether a flit draws what R127 gives a bad CRC: its CRC fails, or a slice of it is marked bad (R105). -/
def Flit.broken (f : Flit) : Bool := f.crc != crc64 f.front || !f.bad.isEmpty

/-- The flit with its CRC filled in. -/
def Flit.close (f : Flit) : Flit := { f with crc := crc64 f.front }

/-- Read a packet from the bytes of its slots (R153). -/
def Packet.ofBytes (b : List Byte) : Packet :=
  let h := leNat (b.take 12)
  { vc := bits h 0 3, op := bits h 8 8, dest := bits h 16 18, src := bits h 34 18, tag := bits h 52 12, poison := bits h 64 1 == 1
    resend := bits h 65 1 == 1, enc := bits h 66 1 == 1, rsv := bits h 67 5, status := bits h 72 8, harg := bits h 80 16
    crc := leNat ((b.drop 12).take 4), body := b.drop 16 }

/-- The slots of 16 bytes that some bytes fill. -/
def slotsOf : Nat → List Byte → List (List Byte)
  | 0, _ => []
  | n + 1, b => b.take 16 :: slotsOf n (b.drop 16)

end Sys2Proof

namespace Sys2Proof.Machine

/-! ### Flits the Varisk makes -/

/-- A flit of a port, with the ACK it reports: e − 1, valid once a flit has been accepted, and never on Compact (R128, R137). -/
def State.mkFlit (s : State) (port seq : Nat) (kind : FlitKind) (headMap cont : Nat) (slots : List (List Byte)) : Flit :=
  let q := s.port port
  Flit.close { seq := seq, ack := (q.e + 4095) % 4096, ackValid := q.accepted && !s.compact port, kind := kind, headMap := headMap, cont := cont
               slots := slots ++ List.replicate (15 - slots.length) (List.replicate 16 0), crc := 0 }

/-- Queue a control record (R126). -/
def queueRecord (port : Nat) (rec : List Byte) (s : State) : State := setPort port (fun q => { q with control := q.control ++ [padTo 16 rec] }) s

/-- Queue the NAK that is pending (R126, R127). -/
def sendNak (port : Nat) (s : State) : State :=
  let q := s.port port
  bump .naksSent port (queueRecord port (leBytes 2 3 ++ leBytes 2 q.e ++ leBytes 1 q.nakReason) s)

/-- A flit is missing or bad: a NAK, unless one is pending (R127). -/
def nakFor (port reason : Nat) (s : State) : State :=
  if (s.port port).nakPending then s else sendNak port (setPort port (fun q => { q with nakPending := true, nakReason := reason }) s)

/-! ### Acknowledgement and replay (R129) -/

/-- How many flits are unacknowledged. -/
def Port.outN (q : Port) : Nat := (q.next + 4096 - q.base) % 4096

/-- Free the `n` oldest flits: base passes their numbers. -/
def Port.freeFlits (q : Port) (n : Nat) : Port :=
  let base := (q.base + n) % 4096
  let past (x : Nat) : Bool := decide ((x + 4096 - q.base) % 4096 < n)
  let replay := q.replay.drop n
  { q with base := base, replay := replay, replaysFrom := q.replaysFrom.filter (fun e => !past e.1)
           replaying := q.replaying.bind (fun r => if replay.isEmpty then none else some (if past r then base else r)) }

/-- apply_ack of R129. -/
def applyAck (port a : Nat) (s : State) : State :=
  let q := s.port port
  let k := (a + 4096 - q.base) % 4096
  if k = 4095 then s
  else if k < q.outN then setPort port (fun q => q.freeFlits (k + 1)) s
  else bump .staleAcks port s

/-- start_replay of R129: the fourth from one number is a retrain trigger, and the expiry of row 4 of R644. -/
def startReplay (port n : Nat) (s : State) : State :=
  let q := s.port port
  if agetD q.replaysFrom n 0 ≥ 3 then retrainTrigger port 1 (timeoutFired 4 4 port 0 s)
  else bump .replays port (setPort port (fun q => { q with replaysFrom := amod q.replaysFrom n 0 (· + 1), replaying := some q.base }) s)

/-- A NAK record (R129). -/
def takeNak (port n : Nat) (s : State) : State :=
  let s := bump .naksReceived port s
  let q := s.port port
  let k := (n + 4096 - q.base) % 4096
  let ahead : Bool := match q.replaying with
    | some r => decide ((r + 4096 - q.base) % 4096 ≤ k)
    | none => false
  if k ≥ q.outN ∨ ahead then bump .naksIgnored port s
  else startReplay port n (setPort port (fun q => q.freeFlits k) s)

/-! ### Credits received (R134, R138) -/

/-- The four totals of a record. -/
def recordTotals (b : List Byte) : List Nat := (List.range 4).map (fun i => leNat ((b.drop (8 + 2 * i)).take 2))

/-- A CREDIT record: each total replaces LIMIT where it is newer or equal (R134). -/
def takeCredit (port vc : Nat) (b : List Byte) (s : State) : State :=
  setPort port (fun q => { q with limit := (recordTotals b).zipIdx.foldl (fun (m : Assoc Nat Nat) t =>
    let old := agetD m (vc + t.2) 0
    if (t.1 + 65536 - old) % 65536 < 32768 then aset m (vc + t.2) t.1 else m) q.limit }) s

/-- A CHARGED record on Compact: the slots lost are counted as accepted and released (R138). -/
def takeCharged (port vc : Nat) (b : List Byte) (s : State) : State :=
  forAll (recordTotals b).zipIdx (fun t s =>
    let lost := (t.1 + 65536 - agetD (s.port port).rxAccepted (vc + t.2) 0) % 65536
    if lost < 32768 then bumpBy .creditSyncSlots port lost (setPort port (fun q => { q with rxAccepted := aset q.rxAccepted (vc + t.2) t.1 }) s) else s) s

/-- A control record (R126, R183).  A NAK that comes on a Compact port, where none is ever sent, is counted as a reserved record (log 151). -/
def takeRecord (port : Nat) (b : List Byte) (s : State) : State :=
  let reserved (s : State) : State := bump .reservedRecords port s
  match leNat (b.take 1) with
  | 0 => s
  | 1 => takeCredit port 0 b s
  | 2 => takeCredit port 4 b s
  | 3 => if s.compact port then reserved s else takeNak port (leNat ((b.drop 2).take 2) % 4096) s
  | 4 => if s.compact port then takeCharged port 0 b s else reserved s
  | 5 => if s.compact port then takeCharged port 4 b s else reserved s
  | 0x10 => takeTimeSync port b s
  | _ => reserved s

/-! ### Framing (R122 to R124) -/

/-- The channel that marks the rest of a packet whose head was lost (R137). -/
def lostVc : Nat := 8

/-- What the slots of a flit from `i` on do: the packet in progress, the packets that ended, and the slots begun on each channel; none
where the framing breaks. -/
def walkSlots (headMap : Nat) : Nat → List (List Byte) → Option Partial → List Packet → List (Nat × Nat) → Option (Option Partial × List Packet × List (Nat × Nat))
  | _, [], cur, done, begun => some (cur, done, begun)
  | i, b :: rest, cur, done, begun =>
    let head := bits headMap i 1 == 1
    match cur with
    | some x =>
      if head then none
      else
        let held := x.held ++ [b]
        if x.left ≤ 1 then walkSlots headMap (i + 1) rest none (done ++ [Packet.ofBytes held.flatten]) begun
        else walkSlots headMap (i + 1) rest (some { x with left := x.left - 1, held := held }) done begun
    | none =>
      if !head then walkSlots headMap (i + 1) rest none done begun
      else
        let h := leNat (b.take 1)
        let vc := bits h 0 3
        let n := bits h 3 5 + 1
        if n = 1 then walkSlots headMap (i + 1) rest none (done ++ [Packet.ofBytes b]) (begun ++ [(vc, 1)])
        else walkSlots headMap (i + 1) rest (some { vc := vc, left := n - 1, held := [b] }) done (begun ++ [(vc, n)])

/-- The slots of a Data flit, with the packet in progress before it: CONT must agree with it, and HEAD_MAP mark no slot inside CONT (R123, R124).
On Compact the leading slots of a packet whose head was lost are skipped (R137). -/
def frame (f : Flit) (cur : Option Partial) : Option (Option Partial × List Packet × List (Nat × Nat)) :=
  let slots := (f.slots.take 15).map (padTo 16)
  if f.headMap % 2 ^ f.cont ≠ 0 ∨ f.cont > 15 then none
  else match cur with
    | some x =>
      if x.vc = lostVc then
        (walkSlots f.headMap f.cont (slots.drop f.cont) none [] []).map (fun r => if f.cont = 15 then (some x, r.2) else r)
      else if f.cont ≠ min x.left 15 then none
      else walkSlots f.headMap 0 slots (some x) [] []
    | none => if f.cont ≠ 0 then none else walkSlots f.headMap 0 slots none [] []

/-- Take the packets of an accepted Data flit: ACCEPTED counts at the head (R134); each packet that has ended is handed on. -/
def takeSlots (port : Nat) (f : Flit) (hand : Nat → Packet → State → State) (s : State) : State :=
  match frame f (s.port port).rxPart with
  | none => retrainTrigger port 3 (bump .protocolErrors port s)
  | some (cur, done, begun) =>
    let s := setPort port (fun q => { q with
      e := (f.seq + 1) % 4096, accepted := true, nakPending := false, resync := false, rxPart := cur
      rxAccepted := begun.foldl (fun (m : Assoc Nat Nat) x => amod m x.1 0 (fun n => (n + x.2) % 65536)) q.rxAccepted }) s
    forAll done (hand port) s

/-! ### What a flit slot sends (R123, R134, R502, R505 to R507) -/

/-- Slots that may be begun on a channel (R134). -/
def Port.credit (q : Port) (vc : Nat) : Nat := (agetD q.limit vc 0 + 65536 - agetD q.charged vc 0) % 65536

/-- The head of a leaf: the oldest packet, among the first of each channel, that may be begun (R504). -/
def headOf (may : Packet → Bool) : List Nat → Nat → List Queued → Option (Nat × Queued)
  | _, _, [] => none
  | seen, i, q :: rest =>
    if seen.contains q.pkt.vc then headOf may seen (i + 1) rest
    else if may q.pkt then some (i, q)
    else headOf may (q.pkt.vc :: seen) (i + 1) rest

/-- A leaf's head on a port: the leaf, the packet's place in it, and the packet. -/
structure Head where
  key : LeafKey
  idx : Nat
  q   : Queued
deriving DecidableEq, Repr

/-- The slot rate of R632 at a port's width: OBSERVE_CAP percent of its slots per µs. -/
def State.observeRate (s : State) (port : Nat) : Nat :=
  s.obj .observeCap * 1171875 / (if (s.port port).txWidth = 4 then 20000 else 10000)

/-- Whether a packet may begin: its channel has credit (R134), and observation traffic its bucket (R632). -/
def State.mayBegin (s : State) (port : Nat) (p : Packet) : Bool :=
  decide (p.slots ≤ (s.port port).credit p.vc)
    && (p.op != 0x71 || decide (p.slots ≤ agetD s.traffic.observe port (4 * s.observeRate port)))

/-- The slots queued on a port, of CONTROL or of the other classes. -/
def State.egressSlots (s : State) (port : Nat) (control : Bool) : Nat :=
  ((s.traffic.leaves.filter (fun e => e.1.port == port && (e.1.cls == 0) == control)).map (fun e => queuedSlots e.2)).sum

/-- The packets of a leaf that are in a fabric port's egress buffer of 16,384 slots (R507): in the order they came, as many as fit, 1,024 slots
left to CONTROL; the others wait at the crossing (R34; log 164). -/
def State.buffered (s : State) (k : LeafKey) (l : List Queued) : List Queued :=
  let control := k.cls == 0
  let room := if control then 16384 - min (s.egressSlots k.port false) 15360 else 15360
  if !isFabric k.port || decide (s.egressSlots k.port control ≤ room) then l
  else
    let others := s.traffic.leaves.filter (fun e => e.1.port == k.port && e.1 != k && (e.1.cls == 0) == control)
    let ahead (q : Queued) : Nat := (others.map (fun e => queuedSlots (e.2.filter (fun x => decide (x.at_ < q.at_))))).sum
    (l.zipIdx.filter (fun x => decide (ahead x.1 + queuedSlots (l.take (x.2 + 1)) ≤ room))).map Prod.fst

/-- The heads of a port's leaves among the packets that meet a condition. -/
def State.heads (s : State) (port : Nat) (c : Packet → Bool) : List Head :=
  (s.traffic.leaves.filter (fun e => e.1.port == port)).filterMap (fun e =>
    (headOf (fun p => c p && s.mayBegin port p) [] 0 (s.buffered e.1 e.2)).map (fun h => { key := e.1, idx := h.1, q := h.2 }))

/-- The first in rotation after the last winner (R35). -/
def rotate {α : Type} (num : α → Nat) (last : Nat) (l : List α) : Option α :=
  let least (l : List α) : Option α := l.foldl (fun (a : Option α) x => match a with | none => some x | some y => if num x < num y then some x else some y) none
  match least (l.filter (fun x => decide (num x > last))) with
  | some x => some x
  | none => least l

/-- A head's packet leaves its leaf (R504, R505): the rotation, the slots sent green or yellow, and what R632 counts. -/
def takeHead (h : Head) (green : Bool) (s : State) : State :=
  let n := h.q.pkt.slots
  let s := s.onTraffic (fun t => { t with
    leaves := (t.leaves.map (fun e => if e.1 = h.key then (e.1, e.2.eraseIdx h.idx) else e)).filter (fun e => !e.2.isEmpty)
    lastLeaf := aset t.lastLeaf (h.key.port, h.key.cls) h.key.sub })
  let s := bumpBy (if green then .tfSentGreen else .tfSentYellow) (h.key.sub * 8 + h.key.cls) n s
  if h.q.pkt.op = 0x71 then
    bumpBy .observeWaitNs h.key.port (s.now - h.q.at_) (bumpBy .observeSlots h.key.port n (s.onTraffic (fun t => { t with
      observe := amod t.observe h.key.port (4 * s.observeRate h.key.port) (fun v => v - n) })))
  else s

/-- The egress bucket of a leaf's subscriber and class (R503, R504); none where it is never debited. -/
def State.egressBucket (s : State) (k : LeafKey) : Option Bucket :=
  (s.bucketRates k.sub k.cls false).map (fun r => (aget s.traffic.egress (k.sub, k.cls)).getD { c := r.2.2.1, p := r.2.2.2 })

/-- class_pick of R505 among a class's heads. -/
def State.classPick (s : State) (port cls : Nat) : Option Head :=
  let all := s.heads port (fun p => classOfVc p.vc == cls)
  let elig := all.filter (fun h => match s.egressBucket h.key with | some b => decide (b.p ≥ h.q.pkt.slots) | none => true)
  let green := elig.filter (fun h => match s.egressBucket h.key with | some b => decide (b.c ≥ h.q.pkt.slots) | none => true)
  let last := agetD s.traffic.lastLeaf (port, cls) 0
  match rotate (fun h => h.key.sub) last green with
  | some h => some h
  | none => rotate (fun h => h.key.sub) last elig

/-- Send what class_pick chose: the bucket is debited (R505). -/
def sendPicked (h : Head) (s : State) : State :=
  match s.egressBucket h.key with
  | none => takeHead h true s
  | some b =>
    let n := h.q.pkt.slots
    let green := decide (b.c ≥ n)
    takeHead h green (s.onTraffic (fun t => { t with egress := aset t.egress (h.key.sub, h.key.cls) { c := if green then b.c - n else b.c, p := b.p - n } }))

/-- A head that has waited 2 ms in a shaped leaf (R507): the oldest. -/
def State.overdue (s : State) (port : Nat) : Option Head :=
  let l := (s.heads port (fun p => let c := classOfVc p.vc; c == 1 || c == 2 || c == 3)).filter (fun h => decide (h.q.at_ + 2000000 ≤ s.now))
  l.foldl (fun (a : Option Head) h => match a with | none => some h | some b => if h.q.at_ < b.q.at_ then some h else some b) none

/-- The weight of a class (R506). -/
def State.weight (s : State) (cls : Nat) : Nat :=
  if cls = 2 then s.live .weightCoherent else if cls = 3 then s.live .weightNearmem else if cls = 4 then s.live .weightManage else s.live .weightRealtime

/-- The class whose turn follows (R506). -/
def nextClass (cls : Nat) : Nat := if cls = 4 then 1 else cls + 1

/-- The weighted round of R506, from the class whose turn it is: the packet found, or none once every class has had its turn. -/
def weighted (port : Nat) : Nat → Nat → State → State × Option Packet
  | 0, _, s => (s, none)
  | fuel + 1, cls, s =>
    let d := agetD s.traffic.deficit (port, cls) 0
    let pass (left : Nat) : State × Option Packet :=
      let k := nextClass cls
      weighted port fuel k (s.onTraffic (fun t => { t with
        turn := aset t.turn port k
        deficit := aset (aset t.deficit (port, cls) left) (port, k) (agetD (aset t.deficit (port, cls) left) (port, k) 0 + s.weight k * 32) }))
    match s.classPick port cls with
    | none => pass 0
    | some h =>
      let n := h.q.pkt.slots
      if d ≥ n then ((sendPicked h s).onTraffic (fun t => { t with deficit := aset t.deficit (port, cls) (d - n) }), some h.q.pkt)
      else pass d

/-- The weighted round of R506; where no class has a packet to send, its turns are not taken. -/
def weightedPick (port : Nat) (s : State) : State × Option Packet :=
  match weighted port 9 (agetD s.traffic.turn port 1) s with
  | (t, some p) => (t, some p)
  | (_, none) => (s, none)

/-- port_pick of R506 on a fabric port. -/
def portPick (port : Nat) (s : State) : State × Option Packet :=
  match s.overdue port with
  | some h => (bump .tfOverrides (h.key.sub * 8 + h.key.cls) (takeHead h true s), some h.q.pkt)
  | none =>
    let lastVc := agetD s.traffic.lastLeaf (port, 5) 2
    let ctl (vc : Nat) : Option Head := rotate (fun h => h.key.sub) (agetD s.traffic.lastLeaf (port, 0) 0) (s.heads port (fun p => p.vc == vc))
    match (match ctl (2 - lastVc) with | some h => some h | none => ctl lastVc) with
    | some h => ((takeHead h true s).onTraffic (fun t => { t with lastLeaf := aset t.lastLeaf (port, 5) h.q.pkt.vc }), some h.q.pkt)
    | none =>
      let level := agetD s.traffic.rtPort port (s.live .rtPortPbs)
      let free := s.live .rtPortPir == unlimited
      match s.classPick port 1 with
      | some h =>
        let n := h.q.pkt.slots
        if free || decide (level ≥ n) then
          (onlyIf (!free) (fun s => s.onTraffic (fun t => { t with rtPort := aset t.rtPort port (level - n) })) (sendPicked h s), some h.q.pkt)
        else weightedPick port s
      | none => weightedPick port s

/-- The next packet of a DP or TW port: VC0 first, the others in rotation (R502). -/
def linkPick (port : Nat) (s : State) : State × Option Packet :=
  let all := (List.range 8).flatMap (fun vc => (s.heads port (fun p => p.vc == vc)).take 1)
  match all.find? (fun h => h.q.pkt.vc == 0) with
  | some h => (takeHead h true s, some h.q.pkt)
  | none =>
    match rotate (fun h => h.q.pkt.vc) (agetD s.traffic.lastLeaf (port, 6) 0) all with
    | some h => ((takeHead h true s).onTraffic (fun t => { t with lastLeaf := aset t.lastLeaf (port, 6) h.q.pkt.vc }), some h.q.pkt)
    | none => (s, none)

/-- Fill the slots of a Data flit from slot `i` (R123): the slots, HEAD_MAP and the packet that goes on beyond it.  A packet is charged
whole at its head (R134). -/
def fillFlit (port : Nat) : Nat → Nat → Nat → List (List Byte) → State → State × List (List Byte) × Nat
  | 0, _, map, slots, s => (s, slots, map)
  | fuel + 1, i, map, slots, s =>
    if i ≥ 15 then (s, slots, map)
    else
      match (if isFabric port then portPick port s else linkPick port s) with
      | (s, none) => (s, slots, map)
      | (s, some p) =>
        let n := p.slots
        let all := slotsOf n p.bytes
        let s := setPort port (fun q => { q with
          charged := amod q.charged p.vc 0 (fun c => (c + n) % 65536)
          txPart := if n > 15 - i then some { vc := p.vc, left := n - (15 - i), held := all.drop (15 - i) } else none }) s
        fillFlit port fuel (i + n) (map + 2 ^ i) (slots ++ all.take (15 - i)) s

/-- The slots of the next Data flit, its HEAD_MAP and CONT; none where nothing may be sent (R123). -/
def dataSlots (port : Nat) (s : State) : State × Option (List (List Byte) × Nat × Nat) :=
  match (s.port port).txPart with
  | some x =>
    let n := min x.left 15
    let s := setPort port (fun q => { q with txPart := if x.left > 15 then some { x with left := x.left - 15, held := x.held.drop 15 } else none }) s
    let (s, slots, map) := fillFlit port 15 n 0 (x.held.take n) s
    (s, some (slots, map, n))
  | none =>
    let (s, slots, map) := fillFlit port 15 0 0 [] s
    (s, if slots.isEmpty then none else some (slots, map, 0))

end Sys2Proof.Machine
end

