-- ==== Sys2Proof/Machine/Traffic.lean ====
section
/-!
DEFINITION. Machine/Traffic.lean: the commands of the traffic chapter (R501 to R520); what a flit slot picks is in OpsLink.lean.
-/
namespace Sys2Proof.Machine

/-- The traffic objects that take effect at a refill tick (R514). -/
def tickObjs : List Obj :=
  [.weightCoherent, .weightNearmem, .weightManage, .weightRealtime, .rtPortPir, .rtPortPbs, .holdSlots, .holdLimit, .egressBacklog, .policingEnable]

/-- What was written since the last tick comes into force (R514). -/
def adoptTraffic (s : State) : State :=
  let f := tickObjs.map (fun o => (o, s.obj o))
  let p := s.table .trafficProfiles
  let a := s.table .trafficAssign
  s.onTraffic (fun t => { t with inForce := f, profiles := p, assign := a })

/-- A bucket cut to its depths and refilled (R503, R514); a bucket that is now unlimited is no longer kept. -/
def refill (b : Bucket) : Option (Nat × Nat × Nat × Nat) → Option Bucket
  | none => none
  | some (cir, pir, cbs, pbs) => some { c := min (min b.c cbs + cir) cbs, p := min (min b.p pbs + pir) pbs }

/-- Refill every bucket (R503, R506, R632). -/
def refillAll (s : State) : State :=
  let pir := s.live .rtPortPir
  let pbs := s.live .rtPortPbs
  s.onTraffic (fun t => { t with
    ingress := t.ingress.filterMap (fun e => (refill e.2 (s.bucketRates e.1.2.1 e.1.2.2 true)).map (fun b => (e.1, b))),
    egress := t.egress.filterMap (fun e => (refill e.2 (s.bucketRates e.1.1 e.1.2 false)).map (fun b => (e.1, b))),
    rtPort := t.rtPort.map (fun e => (e.1, min (min e.2 pbs + pir) pbs))
    observe := t.observe.map (fun e => (e.1, min (e.2 + s.observeRate e.1) (4 * s.observeRate e.1))) })

/-- A held request that leaves its hold (R511): it is processed as a request accepted now. -/
def releaseHeldRequest (port slot : Nat) (p : Packet) (s : State) : State :=
  if p.op = 0x50 then takeRecipe port slot p s
  else if p.op = 0x54 then takeCancel p s
  else admitRequest port slot p s

/-- RETRY to a held request (R510). -/
def retryHeld (port slot : Nat) (p : Packet) (s : State) : State :=
  if p.op = 0x50 then recipeRetry port slot p s
  else if p.op = 0x54 then answerCancel p .retry s
  else policedRetry port slot p s

/-- Colour a hold FIFO again from its oldest request (R509). -/
def recolour (key : Nat × Nat × Nat) : Nat → State → State
  | 0, s => s
  | n + 1, s =>
    match agetD s.traffic.holds key [] with
    | [] => s.onTraffic (fun t => { t with holds := adel t.holds key })
    | h :: rest =>
      let cls := classOfVc key.2.2
      let (s, pass) := colour h.die key.1 cls h.charge s
      if !pass then s
      else recolour key n (releaseHeldRequest key.2.1 key.1 h.pkt (bump .tfLeftHold (key.1 * 8 + cls) (s.onTraffic (fun t => { t with holds := aset t.holds key rest }))))

/-- REFILL_TICK (R503, R509, R514, R515): changes come into force, buckets are refilled, holds are coloured again.  Holds stay while a
handback withholds credits (R496). -/
def execRefillTick (s : State) : Host.Outcome State Fault Refusal :=
  if s.frozen then .next s else
  let s := refillAll (adoptTraffic s)
  .next (if s.twin.paused then s else settleWaits (forAll s.traffic.holds (fun h s => if (s.fw.act = .pause ∨ s.twin.quiescing) ∧ h.1.2.2 = 5 then s else recolour h.1 (h.2.length + 1) s) s))

/-- HOLD_LIMIT_EXPIRY (R510, R515): the oldest held request has reached HOLD_LIMIT: it and those behind it are answered RETRY, after
their checks. -/
def execHoldLimitExpiry (sub port vc : Nat) (s : State) : Host.Outcome State Fault Refusal :=
  if s.frozen then .next s else
  if s.live .policingEnable = 0 ∨ s.twin.paused ∨ ((s.fw.act = .pause ∨ s.twin.quiescing) ∧ vc = 5) then .next s
  else
    let l := agetD s.traffic.holds (sub, port, vc) []
    let s := s.onTraffic (fun t => { t with holds := adel t.holds (sub, port, vc) })
    .next (forAll l (fun h s => bump .tfRetryLimit (sub * 8 + classOfVc vc) (retryHeld port sub h.pkt s)) s)

/-! ### Monitoring (R516, R517) -/

/-- The bin of a depth (R517). -/
def depthBin (d : Nat) : Nat := if d = 0 then 0 else min 15 (Nat.log2 d + 1)
/-- The bin of a delay in ns (R517). -/
def delayBin (d : Nat) : Nat := if d < 32 then 0 else min 15 (Nat.log2 (d / 32) + 1)
/-- A saturating count of a bin. -/
def binAdd (t : Assoc Nat Nat) (b : Nat) : Assoc Nat Nat := amod t b 0 (fun n => min (n + 1) 0xFFFFFFFF)

/-- Add one sample of a queue to a pair of histograms: its slots and when its oldest packet entered. -/
def sampleInto (key : Nat × Nat × Nat) (depth : Nat) (oldest : Option Nat) (s : State) : State :=
  s.onTraffic (fun t => { t with histos := amod t.histos key { depth := [], delay := [], empty := 0 } (fun h =>
    match oldest with
    | none => { h with depth := binAdd h.depth 0, empty := min (h.empty + 1) 0xFFFFFFFF }
    | some at_ => { h with depth := binAdd h.depth (depthBin depth), delay := binAdd h.delay (delayBin (s.now - at_)) }) })

/-- The oldest entry of some queued packets. -/
def oldestOf (l : List Nat) : Option Nat := l.foldl (fun a x => match a with | none => some x | some y => some (min x y)) none

/-- QUEUE_SAMPLE (R516, R517): every leaf on its pin, every class queue of a port, every hold is sampled; the clears asked for come
first (log 30). -/
def execQueueSample (s : State) : Host.Outcome State Fault Refusal :=
  if s.frozen then .next s else
  let s := s.onTraffic (fun t => { t with histos := if t.clears.contains 0xFFFF then [] else t.histos.filter (fun e => !t.clears.contains e.1.1), clears := [] })
  let s := forAll s.part.slots (fun e s =>
    match aget s.txn.pins e.2.eid with
    | none => s
    | some port => forAll (List.range 5) (fun cls s =>
        let q := agetD s.traffic.leaves { port := port, sub := e.1, cls := cls } []
        sampleInto (e.1, 0xFF, cls) (queuedSlots q) (oldestOf (q.map Queued.at_)) s) s) s
  let s := forAll ((List.range 32).filter portPresent) (fun port s => forAll (List.range 5) (fun cls s =>
    let q := (s.traffic.leaves.filter (fun e => e.1.port == port && e.1.cls == cls)).flatMap Prod.snd
    sampleInto (0xFFFF, port, cls) (queuedSlots q) (oldestOf (q.map Queued.at_)) s) s) s
  .next (forAll s.traffic.holds (fun h s => sampleInto (h.1.1, 0xFF, classOfVc h.1.2.2) (heldSlots h.2) (oldestOf (h.2.map Held.at_)) s) s)

/-- HISTOGRAM_CLEAR (R517): at the next sample boundary. -/
def execHistogramClear (r : Req) (slot : Nat) (s : State) : Host.Outcome State Fault Refusal :=
  .next (operateOk (cmdObj 0x1C30 1 (roleOp + rolePm)) r (leBytes 2 slot) 2 { Verdict.ok with bad := decide (slot ≥ 8192) && slot != 0xFFFF }
    (fun s => s.onTraffic (fun t => { t with clears := t.clears ++ [slot] })) s)

end Sys2Proof.Machine
end

