-- ==== Sys2Proof/Machine/ReadTable.lean ====
section
/-!
DEFINITION. Machine/ReadTable.lean: the rows of the tables of the dictionary, as TABLE_READ returns them: in ascending key order, and
only those the reader's roles may read (R665, R674, R686).
-/
namespace Sys2Proof.Machine

/-- A table as some message reads it: the roles that may, the bytes of a row's key, the bytes of a row, and the rows. -/
structure TabView where
  roles  : Nat
  keyLen : Nat
  rowLen : Nat
  rows   : List (List Byte)
deriving DecidableEq, Repr

/-- Fields packed in their order, each at its own size (R649). -/
def pack (fs : List (Nat × Nat)) : List Byte := fs.flatMap (fun f => leBytes f.1 f.2)

/-- Counters of a unit as U64 fields, U32 where they are U32. -/
def State.packCtrs (s : State) (u : Nat) (l : List Ctr) : List Byte := l.flatMap (fun c => leBytes (if c.isU32 then 4 else 8) (s.ctr c u))

/-- A table of rows. -/
def tab (roles keyLen rowLen : Nat) (rows : List (List Byte)) : Option TabView :=
  some { roles := roles, keyLen := keyLen, rowLen := rowLen, rows := rows }

/-- Insert by a key into a list in ascending order. -/
def keyInsert {α : Type} (f : α → Nat) (a : α) : List α → List α
  | [] => [a]
  | b :: t => if f a < f b then a :: b :: t else b :: keyInsert f a t
/-- A list in ascending order of a key; equal keys in their order. -/
def keySort {α : Type} (f : α → Nat) (l : List α) : List α := l.foldl (fun acc a => keyInsert f a acc) []

/-- The rows of one tenant where the reader holds no pool role (R665). -/
def State.ownRows (s : State) (c : Client) (l : List (Nat × List Byte)) : List (List Byte) :=
  if s.rolesOf c &&& opPm ≠ 0 then l.map Prod.snd else (l.filter (fun e => s.tenantOf c == some e.1)).map Prod.snd

/-- Numbers below a bound. -/
def upTo (n : Nat) (f : Nat → List Byte) : List (List Byte) := (List.range n).map f

/-- The present ports. -/
def presentPorts : List Nat := (List.range 40).filter portPresent

/-- The rows of a writable table, in ascending key order (R674). -/
def State.rowsOf (s : State) (t : TableId) : List (List Byte) :=
  let key (r : Row) : Nat := if t.info.keys = 2 then r.fields.getD 0 0 * 2 ^ 32 + r.fields.getD 1 0 else r.fields.getD 0 0
  (keySort key (s.table t)).map (rowBytes t)

/-- A writable table as it is read. -/
def State.writable (s : State) (t : TableId) : Option TabView :=
  tab t.info.roles (((tableWidths t).take t.info.keys).sum) (tableWidths t).sum (s.rowsOf t)

/-! ### Range 0x0000 and 0x1000 (R681, R682) -/

/-- Every client with a session, a subscription or a reassembly; its place is its number (log 67). -/
def State.clients (s : State) : List Client :=
  let outside (c : Client) : Client := { c with session := none }
  (s.sec.sessions.map (fun (e : Nat × Session) => e.2.client) ++ s.kodp.subs.map (fun (b : Sub) => outside b.client) ++ s.kodp.reasm.map (fun (m : Reasm) => outside m.client)).eraseDups

/-- A client's number, 0xFFFF where it has none. -/
def State.clientNo (s : State) (c : Client) : Nat := (s.clients.findIdx? (fun x => x == { c with session := none })).getD 0xFFFF

/-- A row of CLIENTS. -/
def clientRow (s : State) (n : Nat) (c : Client) : List Byte :=
  let subs := s.kodp.subs.filter (fun b => { b.client with session := none } == c)
  let sess := s.sec.sessions.filter (fun e => e.2.client == c)
  pack [(2, n), (1, transportNum c.transport), (16, if c.transport = .udp then c.addr else 0), (4, if c.transport = .udp then c.port else c.addr),
    (1, s.rolesOf c), (1, sess.length), (1, (subs.map (fun b => if b.all then 255 else b.codes.length)).foldl max 0),
    (8, agetD s.kodp.heardAt c 0), (2, (subs.map (fun b => b.queue.length)).sum), (4, (subs.map Sub.lost).sum)]

/-- A row of NOTIFY_LOG. -/
def logRow (s : State) (e : NotifyRec × Option Client) : List Byte :=
  pack [(8, e.1.seq), (8, e.1.time), (2, e.1.code), (2, match e.2 with | some c => s.clientNo c | none => 0xFFFF)] ++ padTo 64 e.1.payload

/-- Whether a record may be read in NOTIFY_LOG: a role of the message receives its code; COMMAND_DONE its own client (R679, R682). -/
def State.logVisible (s : State) (c : Client) (e : NotifyRec × Option Client) : Bool :=
  match e.2 with
  | some x => { x with session := none } == { c with session := none }
  | none => codeRoles e.1.code &&& s.rolesOf c != 0

/-- The stack of a cluster's channels (R30, R270). -/
def clusterChannels (k : Nat) : List Nat := (List.range 16).map (fun c => 32 * (k / 2) + 16 * (k % 2) + c)

/-- A row of CLUSTERS. -/
def clusterRow (s : State) (k : Nat) : List Byte :=
  let present := (coresOf k).filter corePresent
  let count (st : UnitSt) : Nat := (present.filter (fun c => (s.unit .core c).st == st)).length
  pack [(1, k), (1, k / 8), (1, k / 2), (1, count .enabled), (1, count .spare), (1, 18 - present.length), (1, count .retired),
    (1, ((clusterChannels k).filter (fun c => (s.channel c).st == .serving && (s.channel c).trained)).length)]

/-- Tables 0x0020 to 0x1010. -/
def tabsCore (s : State) (c : Client) (index : Nat) : Option TabView :=
  match index with
  | 0x0020 => s.writable .operatorKeys
  | 0x0021 => s.writable .poolManagerKeys
  | 0x0030 => tab roleOp 2 40 (s.clients.zipIdx.map (fun e => clientRow s e.2 e.1))
  | 0x0031 => tab opPm 8 84 ((s.kodp.log.filter (s.logVisible c)).map (logRow s))
  | 0x0032 => tab roleOp 1 105 ([1, 2, 3].map (fun t => pack [(1, t)] ++ s.packCtrs t
      [.kReceived, .kReplies, .kMalformed, .kReasmTimeouts, .kRetries, .kRights, .kDuplicates, .kSecureFailures, .kDiscardedFrames, .kAddressConflicts, .kPeerMismatches, .kNotifySent, .kNotifyDropped]))
  | 0x1010 => tab opPm 1 8 (upTo 16 (clusterRow s))
  | _ => none

/-! ### Ranges 0x1100 to 0x1300 (R91, R141, R186) -/

/-- The rails in their numbering. -/
def rails : List Rail := [.vddCore, .vddSram, .vddq, .vpp, .vddOpt, .vddAux]
/-- The kinds of sensor in their numbering. -/
def sensorKinds : List SensorKind := [.cluster, .fabric, .stack, .optical]
/-- The location number of a kind of sensor. -/
def locationNum : SensorKind → Nat
  | .cluster => 0 | .fabric => 1 | .stack => 2 | .optical => 3
/-- The number of a port state (0x1211). -/
def portNum : PortSt → Nat
  | .disabled => 0 | .detect => 1 | .train => 2 | .active => 3 | .retrain => 4 | .down => 5

/-- A row of LASER_INPUTS; an input nothing has measured reads a free power (log 5). -/
def laserRow (s : State) (e i : Nat) : List Byte :=
  let p : Int := match aget s.pkg.lasers (e, i) with
    | some v => v
    | none => 2000 + ((Config.freeNat s.free % 500 : Nat) : Int)
  pack [(1, e), (1, i), (2, satI 16 p), (1, b01 (s.feedingOf e == i && !s.pkg.darkEngines.contains e)), (4, s.ctr .laserSwitchovers (2 * e + i))]

/-- The role of a lane (0x1213): its logical lane, 8 spare, 9 idle, 10 retired. -/
def laneRole (map l : Nat) : Nat :=
  if bits map l 1 = 1 then 10
  else match (activeLanes map).findIdx? (· == l) with
    | some i => i
    | none => if widthOf map = 8 then 8 else 9

/-- A row of LANE_STATUS; what the transmit side shows of symbols is the peer's count, its power is not known here, and how the BER
estimate is formed is not stated (log 68). -/
def laneRow (s : State) (port dir l : Nat) : List Byte :=
  let q := s.port port
  let x := q.lane l
  let rx := dir == 0
  pack [(1, port), (1, dir), (1, l), (1, laneRole (if rx then q.rxRetired else q.txRetired) l),
    (2, satI 16 (if rx then x.power else Config.freeNat s.free)),
    (8, if rx then x.corrected else (x.lcb.map Lcb.rxCorrected).getD 0), (8, if rx then x.uncorr else (x.lcb.map Lcb.rxUncorr).getD 0), (4, Config.freeNat (s.free + 1))]

/-- A row of PORT_STATUS. -/
def portStatusRow (s : State) (port : Nat) : List Byte :=
  let q := s.port port
  pack [(1, port), (1, portNum q.st), (1, q.txWidth), (1, q.rxWidth), (2, q.txRetired), (2, q.rxRetired), (1, b01 (s.compact port)), (4, q.rtt),
    (8, q.changedAt), (1, (s.recentRetrains port).length)]

/-- Tables 0x1110 to 0x1320. -/
def tabsLink (s : State) (index : Nat) : Option TabView :=
  match index with
  | 0x1110 => tab roleOp 1 8 (sensorKinds.flatMap (fun k => (List.range k.count).map (fun i =>
      let x := (aget s.pkg.sensors (k, i)).getD Sensor.cool
      pack [(1, sensorNumber k i), (1, locationNum k), (1, i), (4, satI 32 x.milliC), (1, x.level)])))
  | 0x1120 => tab roleOp 1 9 (rails.map (fun r => pack [(1, r.num), (2, agetD s.pkg.railMv r 0), (2, agetD s.pkg.railMa r 0 / 1000), (4, s.ctr .railDroops r.num)]))
  | 0x1130 => tab roleOp 2 9 (((List.range 10).filter enginePresent).flatMap (fun e => [laserRow s e 0, laserRow s e 1]))
  | 0x1210 => tab opPm 1 4 (presentPorts.map (fun p => rowBytes .portConfig { fields := s.portRow p }))
  | 0x1211 => tab opPm 1 22 (presentPorts.map (portStatusRow s))
  | 0x1212 => tab roleOp 1 117 (presentPorts.map (fun p => pack [(1, p)] ++ s.packCtrs p
      [.crcErrors, .naksSent, .naksReceived, .naksIgnored, .replays, .replayedFlits, .duplicates, .staleAcks, .windowStallNs, .compactLostFlits, .creditSyncSlots,
       .retrains, .laneRetirements, .trainFailures, .protocolErrors, .badLcbs, .reservedRecords, .downDiscards]))
  | 0x1213 => tab roleOp 3 26 (presentPorts.flatMap (fun p => [0, 1].flatMap (fun d => upTo 9 (laneRow s p d))))
  | 0x1310 => s.writable .eidRoutes
  | 0x1320 => tab roleOp 1 145 (presentPorts.map (fun p => pack [(1, p)] ++ s.packCtrs p
      [.misdirected, .malformed, .unattachedSource, .eidRange, .e2eFailures, .e2eNaksSent, .e2eNaksReceived, .resendsReceived, .resendsDroppedInFlight, .ledgerReplays, .resendMismatches, .tagReuse, .unpairedData, .pairingTimeouts, .poolResends, .poolTimeouts, .discardedResponses, .announcesIgnored]))
  | _ => none

/-! ### Ranges 0x1400 to 0x1700 (R232, R267, R316, R350) -/

/-- The number of a slot state (0x1411). -/
def slotNum : SlotSt → Nat
  | .active => 1 | .detaching => 2 | .lost => 3 | .quarantine => 4

/-- A row of PARTNER_SLOTS. -/
def slotRow (s : State) (n : Nat) (x : Slot) : List Byte :=
  pack [(2, n), (4, x.eid), (1, slotNum x.st), (1, x.kind), (2, x.caps), (8, x.nonce), (8, x.attachedAt), (8, x.renewedAt), (8, s.ctr .unqueuedFaults n), (8, s.ctr .slotUnattached n)]

/-- The contexts of CONTEXT_STATUS: a nonzero registered generation or fault count. -/
def State.statusContexts (s : State) : List Nat :=
  keySort id (((s.part.gens.filter (fun e => e.2 != 0)).map Prod.fst ++ (s.ctrs.filter (fun e => e.1.1 == .faultsRecorded && e.2 != 0)).map (fun e => e.1.2)).eraseDups)

/-- A row of CONTEXT_STATUS. -/
def contextRow (s : State) (c : Nat) : List Byte :=
  pack [(2, c), (4, agetD s.part.gens c 0), (8, s.ctr .faultsRecorded c), (8, s.ctr .fqOverflow c), (1, b01 (s.part.fqSticky.contains c)),
    (4, (s.part.xlate.filter (fun e => e.ctx == c)).length)]

/-- A row of DIRECTORY_STATUS. -/
def directoryRow (s : State) (d : Nat) : List Byte :=
  let mine := s.dir.entries.filter (fun e => homeDie (e.1 * 128) == d)
  let count (f : DirEntry → Bool) : Nat := (mine.filter (fun e => f e.2)).length
  pack [(1, d), (4, count (fun e => e.st == .shared)), (4, count (fun e => e.st == .exclusive)), (4, count (fun e => e.st == .modified)),
    (4, count DirEntry.recalling), (4, count DirEntry.coarse), (4, count DirEntry.aged),
    (4, (s.dir.regions.filter (fun e => homeDie (e.1 * 4096) == d)).length), (4, (s.boot.waysUsed.filter (fun w => w / 2 ^ 19 % 2 == d)).length),
    (4, (s.txn.reqs.filter (fun q => q.phase == .parked && homeDie q.pa == d)).length)]

/-- The number of a channel state (0x1610). -/
def chNum : ChSt → Nat
  | .serving => 0 | .retraining => 1 | .failed => 2

/-- A row of CHANNEL_STATUS. -/
def channelRow (s : State) (ch : Nat) : List Byte :=
  pack [(1, ch / 32), (1, ch % 32), (1, ch / 16), (1, chNum (s.channel ch).st)] ++ s.packCtrs ch [.chReads, .chWrites, .chPostponed]
    ++ pack [(8, s.ctr .chPanicNs (2 * ch)), (8, s.ctr .chPanicNs (2 * ch + 1))] ++ s.packCtrs ch [.chPanicCapped, .chTimeouts, .chRetrains]

/-- A row of STACK_STATUS. -/
def stackRow (s : State) (k : Nat) : List Byte :=
  let src := agetD s.dram.source k (0, 0)
  pack [(1, k), (1, agetD s.dram.refresh k 0), (1, src.1), (8, src.2), (4, ((s.boot.rowsUsed.filter (fun e => e.1 / 1024 == k)).map Prod.snd).sum), (1, agetD s.boot.banksUsed k 0)]

/-- A row of SLEDS. -/
def sledRow (s : State) (n : Nat) : List Byte :=
  let x := s.sled n
  let dirty := (s.frames.filter (fun e => tagHas e.2.2.2 tagDirty && granuleSled (tagGranule e.2.2.2) == n)).length
  pack [(1, n), (1, b01 x.reachable), (1, b01 x.foreign), (4, x.capacity), (4, x.ownerEid), (4, x.ownerEpoch), (1, x.health), (1, x.spare), (8, dirty)]
    ++ s.packCtrs n [.sledReads, .sledWrites, .sledRefills, .sledPoisoned, .sledFenced, .sledFailedFills]

/-- A row of DEEP_CACHE_STATUS. -/
def deepRow (s : State) (k : Nat) : List Byte :=
  let mine := (s.frames.filter (fun e => e.1 == k)).map (fun e => e.2.2.2)
  let count (b : Nat) : Nat := (mine.filter (fun t => tagHas t b)).length
  pack [(1, k), (4, 16384 * s.deep.units), (4, count tagValid), (4, count tagDirty), (4, count tagPin), (4, count tagFilling), (4, count tagWriting)]
    ++ s.packCtrs k [.deepHits, .deepMisses, .deepEvictions, .deepWritebacks, .deepParks, .deepRetries]

/-- A row of DRAM_ERROR_COUNTERS. -/
def dramErrorRow (s : State) (ch : Nat) : List Byte :=
  pack [(1, ch / 32), (1, ch % 32)] ++ s.packCtrs ch [.corrected, .uncorrectable, .twinRepairs, .frameRefills, .linesPoisoned, .tenantMismatch, .scrubCorrections]
    ++ (List.range 36).flatMap (fun i => leBytes 4 (s.ctr .symbolCorrected (36 * ch + i)))

/-- The units of RESIDUE_COUNTERS: the cores present, and any other unit a mismatch was counted in. -/
def State.residueUnits (s : State) : List Nat :=
  (List.range 288).filter corePresent ++ keySort id (((s.ctrs.filter (fun e => e.1.1 == .residueMismatches && !corePresent e.1.2)).map (fun e => e.1.2)).eraseDups)

/-- A row of SCRUB_STATUS: the earliest pass start of the stack's channels, its lines done, and how far they lie behind an even pace
(R328, log 69). -/
def scrubStatusRow (s : State) (k : Nat) : List Byte :=
  let chs := (List.range 32).map (fun c => 32 * k + c)
  let start := (chs.map (fun c => agetD s.integ.passStart c 0)).foldl min s.now
  let done := (chs.map (fun c => agetD s.integ.scrubDone c 0)).sum
  let period := s.obj .scrubPeriod * 3600
  let paced := done * period / (Config.stackGiB * 2 ^ 30 / 128)
  pack [(1, k), (8, start), (8, done), (4, (s.now - start) / 1000000000 - paced)]

/-- A row of ERROR_LOG. -/
def errorRow (s : State) (e : ErrorRec) : List Byte :=
  let p := placeOf e.pa
  pack [(8, e.seq), (8, e.time), (1, e.kind), (1, e.action), (1, e.channel / 32), (1, e.channel % 32), (1, p.pseudo), (1, p.bank), (4, p.row), (1, e.symbol),
    (8, e.pa), (2, e.tenant), (2, e.unit), (8, s.ctr .logOverwrites 0)]

/-- A row of TENANT_ERRORS. -/
def tenantErrorRow (s : State) (t : Nat) : List Byte :=
  pack [(2, t)] ++ (List.range 9).flatMap (fun i => leBytes 8 (s.ctr .tenantPoison (9 * t + i))) ++ s.packCtrs t [.tenantPoisoned, .tenantIntegrity, .tenantMismatchByTenant]

/-- Tenants with a record, in ascending order. -/
def State.tenantNos (s : State) : List Nat := keySort id (s.sec.tenants.map Prod.fst)

/-- Tables 0x1410 to 0x1630. -/
def tabsMemory (s : State) (c : Client) (index : Nat) : Option TabView :=
  match index with
  | 0x1410 => s.writable .partnerGrants
  | 0x1411 => tab opPm 2 50 ((keySort Prod.fst s.part.slots).map (fun e => slotRow s e.1 e.2))
  | 0x1430 => tab (opPm + roleTenant) 2 27 (s.ownRows c (s.statusContexts.map (fun x => ((s.readDesc x).owner, contextRow s x))))
  | 0x1440 => tab roleOp 1 89 (upTo 2 (fun d => pack [(1, d)] ++ s.packCtrs d
      [.xlLookups, .xlHits, .xlCtxMisses, .xlWalkHits, .xlWalks, .xlWalkReads, .xlRuns, .xlEvictions, .xlSettles, .xlMismatches, .xlInvalidations]))
  | 0x1510 => tab opPm 1 37 (upTo 2 (directoryRow s))
  | 0x1511 => tab roleOp 1 177 (upTo 2 (fun d => pack [(1, d)] ++ s.packCtrs d
      [.snoopsInv, .snoopsDown, .crossed, .lateSnoopResponses, .sharedSnoopData, .badSnoopStates, .recallTimeouts, .linesPoisonedByRecall, .capacityRecalls, .aliasRecalls, .regionRecalls, .staleEvictions, .wrongStateWritebacks, .holderRerequests, .parks, .losses, .agedEntries, .stashesSent, .stashDropped, .stashDeclined, .publishCommits, .versionConflicts]))
  | 0x1610 => tab roleOp 2 56 (upTo 256 (channelRow s))
  | 0x1611 => tab roleOp 1 16 (upTo 8 (stackRow s))
  | 0x1620 => tab opPm 1 73 (((List.range 4).filter (fun n => (s.sled n).present)).map (sledRow s))
  | 0x1621 => tab opPm 1 73 (upTo 16 (deepRow s))
  | _ => none

/-- SELF_TEST_RESULTS (R344): what failed or was repaired, and every other unit that was tested, passed. -/
def State.selfTestRows (s : State) : List ((Nat × Nat) × (Nat × Nat)) :=
  s.integ.selfTest ++ (match s.integ.testedAt with
    | some t => (testUnits.filter (fun k => !ahas s.integ.selfTest k)).map (fun k => (k, (0, t)))
    | none => [])

/-- Tables 0x1710 to 0x1730. -/
def tabsErrors (s : State) (c : Client) (index : Nat) : Option TabView :=
  match index with
  | 0x1710 => tab roleOp 2 202 (upTo 256 (dramErrorRow s))
  | 0x1711 => tab roleOp 2 18 ((List.range 11).flatMap (fun k => upTo 2 (fun d => pack [(1, k), (1, d)] ++ s.packCtrs (2 * k + d) [.sramCorrected, .sramUncorrectable])))
  | 0x1712 => tab roleOp 2 26 (s.residueUnits.map (fun u => pack [(2, u)] ++ s.packCtrs u [.residueMismatches, .residueReruns, .residueIntegrity]))
  | 0x1713 => tab opPm 1 21 (upTo 8 (scrubStatusRow s))
  | 0x1714 => tab opPm 3 12 ((keySort (fun e => e.1.1 * 65536 + e.1.2) s.selfTestRows).map (fun e => pack [(1, e.1.1), (2, e.1.2), (1, e.2.1), (8, e.2.2)]))
  | 0x1720 => tab opPm 8 47 ((s.integ.log.filter (fun e => s.rolesOf c &&& roleOp != 0 || decide (e.kind ≥ 2))).map (errorRow s))
  | 0x1730 => tab (opPm + roleTenant) 2 98 (s.ownRows c (s.tenantNos.map (fun t => (t, tenantErrorRow s t))))
  | _ => none

/-! ### Ranges 0x1800 to 0x1B00 (R395, R425, R460, R499) -/

/-- The number of a recipe's phase (0x1812). -/
def phaseNum : RecPhase → Nat
  | .admission => 0 | .running => 1 | .collecting => 2 | .reducing => 3 | .streaming => 4

/-- A row of RECIPES_ACTIVE. -/
def runningRow (s : State) (r : Recipe) : List Byte :=
  pack [(2, r.slot), (2, r.tag), (1, r.d.code), (1, phaseNum r.phase), (4, r.total), (4, r.f), (4, ((s.recipeGrant r.id).map Sugar.granted).getD 0)]

/-- A row of KERNEL_STORE. -/
def kernelRow (s : State) (h : Nat) (k : Kernel) : List Byte :=
  let live := s.recp.recipes.filter (fun r => r.d.code == 13 && ((s.kernelEntry r.ctx (r.d.w2)).map Prod.fst) == some h)
  pack [(2, h), (2, k.ctx), (8, k.addr), (4, k.textLen), (4, k.tray), (1, k.signer), (2, k.tenant), (1, k.keyId), (8, k.imageId), (48, k.sha), (8, k.loadedAt), (4, live.length)]

/-- Lines a resync has to send: those of its granules, or all of DRAM (R490). -/
def Resync.total (r : Resync) : Nat :=
  match r.sweep0.only, r.sweep1.only with
  | some a, some b => 512 * (a ++ b).eraseDups.length
  | _, _ => dramTop / 128

/-- The row of TWIN_STATUS. -/
def twinRow (s : State) : List Byte :=
  let t := s.twin
  pack [(1, t.lamp0.state), (1, t.lamp1.state), (4, (s.now - t.kaAt) / 1000), (4, t.mseq0), (4, t.mseq1), (4, t.acked0), (4, t.acked1),
    (4, (s.txn.reqs.filter (fun q => q.phase == .mirror)).length), (8, (t.resync.map Resync.doneLines).getD 0), (8, (t.resync.map Resync.total).getD 0),
    (4, t.divergence.length), (1, ((List.range 4).filter (fun n => (s.sled n).claimed)).length)]

/-- Tables 0x1810 to 0x1B22. -/
def tabsWork (s : State) (c : Client) (index : Nat) : Option TabView :=
  match index with
  | 0x1810 => tab opPm 2 82 ((List.range 2).flatMap (fun d => (List.range 13).map (fun i => pack [(1, d), (1, i + 1)] ++ s.packCtrs (16 * d + i + 1)
      [.rcAccepted, .rcRefused, .rcOk, .rcPoisoned, .rcFailed, .rcAborted, .rcTimeout, .rcTiles, .rcReruns, .rcAdmissionWaits])))
  | 0x1811 => tab roleOp 1 59 (upTo 16 (fun k => pack [(1, k), (2, (agetD s.recp.queues k []).length)] ++ s.packCtrs k
      [.tqRun, .stealCoreTaken, .stealCoreGiven, .stealDieTaken, .stealDieGiven, .stealBridgeTaken, .stealBridgeGiven]))
  | 0x1812 => tab opPm 4 18 ((keySort (fun r => r.slot * 4096 + r.tag) s.recp.recipes).map (runningRow s))
  | 0x1910 => tab roleOp 1 73 (upTo 2 (fun d => pack [(1, d)] ++ s.packCtrs d
      [.exactReadouts, .nonfinite, .saturations, .nanToInteger, .carrySaturated, .mxFf, .fastRecipes, .stochasticRoundings, .tinyProducts]))
  | 0x1A10 => tab (opPm + roleTenant) 2 92 (s.ownRows c ((keySort Prod.fst s.core.store).map (fun e => ((s.readDesc e.2.ctx).owner, kernelRow s e.1 e.2))))
  | 0x1A30 => tab roleOp 1 169 (upTo 2 (fun d => pack [(1, d)] ++ s.packCtrs d [.ktTiles, .ktReruns, .ktThreads, .ktInstrs, .ktTextLoads, .ktWatchdogs, .ktCoreTimeouts]
      ++ (List.range 14).flatMap (fun i => leBytes 8 (s.ctr .ktExceptions (16 * d + i + 1)))))
  | 0x1B21 => tab opPm 0 47 [twinRow s]
  | 0x1B22 => tab roleOp 0 136 [s.packCtrs 0
      [.twLines, .twStates, .twRsLines, .twAcks, .twTakeovers, .twFences, .twHandbacks, .twHandbacksAbandoned, .twFullResyncs, .twDeltaResyncs, .twStandbyLosses, .twRepairsAsked, .twRepairsServed, .twRepairsFailed, .twBadLampFrames, .twLowLampFrames, .twEventsIgnored]]
  | _ => none

/-! ### Ranges 0x1C00 to 0x1E00 (R519, R546, R575) -/

/-- The tenant of a slot's EID by TRAFFIC_ASSIGN; 0 where it has no row (R504, R518). -/
def State.assignTenant (s : State) (slot : Nat) : Nat :=
  match aget s.part.slots slot with
  | some x => (((s.table .trafficAssign).find? (fun r => r.fields.getD 0 0 == x.eid)).map (fun r => r.fields.getD 2 0)).getD 0
  | none => 0

/-- A row of QUEUE_HISTOGRAMS. -/
def histoRow (k : Nat × Nat × Nat) (h : Histo) : List Byte :=
  pack [(2, k.1), (1, k.2.1), (1, k.2.2)] ++ (List.range 16).flatMap (fun i => leBytes 4 (agetD h.depth i 0)) ++ (List.range 16).flatMap (fun i => leBytes 4 (agetD h.delay i 0))
    ++ leBytes 4 h.empty

/-- The unlimited profile 0 (R504). -/
def profile0 : List Byte := leBytes 1 0 ++ (List.replicate 24 (leBytes 4 unlimited)).flatten

/-- A row of SUGAR_GRANTS. -/
def sugarRow (s : State) (g : Sugar) : List Byte :=
  let r := if g.kind = .wake ∨ g.kind = .boost then none else s.recipe g.key
  pack [(1, g.die), (1, g.kind.num), (2, (r.map Recipe.slot).getD 0xFFFF), (2, (r.map Recipe.tag).getD 0xFFFF), (4, g.requested), (4, g.granted), (4, g.coreMa),
    (8, g.askedAt), (8, g.start), (8, g.stop)]

/-- A row of UNIT_POWER_STATES: entries, aborts and wakes of Nap, Doze and Deep, and the time in each state. -/
def powerRow (s : State) (u : Nat) : List Byte :=
  let p := s.punit u
  let per (c : Ctr) : List Byte := [1, 2, 3].flatMap (fun i => leBytes 8 (s.ctr c (4 * u + i)))
  pack [(1, u), (1, p.st.num), (2, p.freq), (1, s.deepest u), (4, s.tNext u .nap / 1000)] ++ per .puEntries ++ per .puAborts ++ per .puWakes
    ++ (List.range 4).flatMap (fun i => leBytes 8 (s.ctr .puStateNs (4 * u + i)))

/-- The entries of CALENDAR (R533): refresh of stacks in Nap and Doze, patrol scrub, quiet hints, job steps, and the twin keepalive. -/
def State.calendar (s : State) : List (Nat × Nat × Nat) :=
  (List.range 24).flatMap (fun u =>
    (if u < 16 ∨ (s.punit u).refreshAt = 0 then [] else [(u, 1, (s.punit u).refreshAt)])
      ++ (if u < 16 ∨ s.obj .scrubEnable = 0 then [] else [(u, 2, s.scrubDue (u - 16))])
      ++ (if 16 ≤ u ∧ (s.twin.st = .standby ∨ s.twin.st = .syncing) then [(u, 5, s.keepaliveDue)] else [])
      ++ (if (s.punit u).quiet = 0 then [] else [(u, 3, (s.punit u).quiet)])
      ++ (s.power.timers.filter (fun t => t.units.contains u)).map (fun t => (u, 4, t.nextWake s.now)))

/-- A row of JOBS as the pool roles read it. -/
def jobRow (j : EnergyJob) : List Byte :=
  pack [(4, j.job), (2, j.tenant), (8, j.openAt), (8, j.closeAt), (8, if j.closeAt = 0 then 0 else j.closeMj - j.openMj)]

/-- A job's row as its tenant reads it (R545): the window widened to 100 ms boundaries, the figure once 100 ms have passed since the
rounded close.  The energy at a boundary that is no longer kept is a free value (log 72). -/
def tenantJobRow (s : State) (j : EnergyJob) : List Byte :=
  let w := 100000000
  let a := j.openAt / w
  let b := (j.closeAt + w - 1) / w
  let shown := j.closeAt != 0 && decide ((b + 1) * w ≤ s.now)
  let at_ (n : Nat) : Nat := match s.power.energyAt.find? (fun e => e.1 == n) with
    | some e => e.2
    | none => Config.freeNat (s.free + n)
  pack [(4, j.job), (2, j.tenant), (8, a * w), (8, if shown then b * w else 0), (8, if shown then at_ b - at_ a else 0)]

/-- Tables 0x1C10 to 0x1D14. -/
def tabsTraffic (s : State) (c : Client) (index : Nat) : Option TabView :=
  match index with
  | 0x1C10 => tab rolePm 1 97 (profile0 :: s.rowsOf .trafficProfiles)
  | 0x1C11 => s.writable .trafficAssign
  | 0x1C20 => tab (opPm + roleTenant) 4 136 (s.ownRows c ((keySort (fun e => e.1.1 * 65536 + e.1.2.1 * 256 + e.1.2.2) s.traffic.histos).map
      (fun e => (if e.1.1 = 0xFFFF then 2 ^ 16 else s.assignTenant e.1.1, histoRow e.1 e.2))))
  | 0x1C21 => tab (opPm + roleTenant) 3 91 (s.ownRows c ((keySort Prod.fst s.part.slots).flatMap (fun e => (List.range 5).map (fun k =>
      (s.assignTenant e.1, pack [(2, e.1), (1, k)] ++ s.packCtrs (8 * e.1 + k)
        [.tfGreen, .tfYellow, .tfHeld, .tfLeftHold, .tfRetrySlots, .tfRetryShare, .tfRetryLimit, .tfPolicedReleases, .tfSentGreen, .tfSentYellow, .tfOverrides])))))
  | 0x1D10 => tab opPm 1 113 (upTo 24 (powerRow s))
  | 0x1D11 => tab opPm 6 42 ((s.power.grants ++ s.power.queue).map (sugarRow s))
  | 0x1D12 => tab roleOp 1 97 (upTo 2 (fun d => pack [(1, d)] ++ s.packCtrs d [.pwGrants, .pwPartial, .pwQueued, .pwQueueNs, .pwRenewals, .pwBallast, .pwAnnounced, .pwNapWaits]
      ++ (List.range 4).flatMap (fun i => leBytes 8 (s.ctr .pwThrottleNs (4 * d + i)))))
  | 0x1D13 => tab roleOp 2 10 (s.calendar.map (fun e => pack [(1, e.1), (1, e.2.1), (8, e.2.2)]))
  | 0x1D14 => tab (opPm + roleTenant) 4 30 (let pool := s.rolesOf c &&& opPm != 0
      let mine := (keySort EnergyJob.job s.power.jobs).filter (fun j => pool || s.tenantOf c == some j.tenant)
      mine.map (fun j => if pool then jobRow j else tenantJobRow s j))
  | _ => none

/-- A row of TENANTS. -/
def tenantRow (s : State) (n : Nat) (t : Tenant) : List Byte :=
  pack [(2, n), (48, Config.sha384 (leBytes 96 t.authKey)), (1, b01 t.sealed), (1, t.memKeys.length), (1, t.signKeys.length),
    (1, (s.sec.jobs.filter (fun j => j.2.tenant == n)).length), (1, (s.sec.sessions.filter (fun e => e.2.tenant == some n)).length)]

/-- A row of JOBS_BOUND. -/
def boundRow (j : Nat) (x : LinkJob) : List Byte :=
  pack [(4, j), (2, x.tenant), (1, (x.gens.map (fun g => 2 ^ (g.1 % 8))).foldl Nat.lor 0), (8, x.switchAt), (2, x.eids.length)]

/-! ### Ranges 0x1F00 to 0x2100 (R599, R616, R646) -/

/-- The rows of LARDER (R593): kind, unit, held, in use, retired, exhausted. -/
def State.larderRows (s : State) : List (List Byte) :=
  let row (kind unit held used retired : Nat) (out : Bool) : List Byte := pack [(1, kind), (4, unit), (2, held), (2, used), (2, retired), (1, b01 out)]
  let cores (k : Nat) (st : UnitSt) : Nat := ((coresOf k).filter (fun c => corePresent c && (s.unit .core c).st == st)).length
  upTo 16 (fun k => row 1 k 2 (2 - min 2 (cores k .spare)) (cores k .retired) (s.noSpareCore k))
    ++ ((List.range 80).filter (fun d => portPresent (d / 2))).map (fun d =>
        let q := s.port (d / 2)
        let n := 9 - (lanesLeft (if d % 2 = 1 then q.txRetired else q.rxRetired)).length
        row 2 d 1 (min 1 n) n (s.noSpareLane d))
    ++ ((List.range 10).filter enginePresent).map (fun e => row 3 e 1 (b01 (s.feedingOf e != 0)) 0 (s.lastInput e))
    ++ upTo 8192 (fun b => row 4 b 64 (agetD s.boot.rowsUsed b 0) 0 (decide (agetD s.boot.rowsUsed b 0 ≥ 64)))
    ++ upTo 8 (fun k => row 5 k 8 (agetD s.boot.banksUsed k 0) 0 (decide (agetD s.boot.banksUsed k 0 ≥ 8)))
    ++ (keySort id s.boot.waysUsed).map (fun w => row 6 w 1 1 1 true)
    ++ ((List.range 4).filter (fun n => (s.sled n).present)).map (fun n => row 7 n 0 0 0 (s.sledLow n))

/-- The number of a unit kind, and of a unit's state (0x1F12). -/
def kindNum : UnitKind → Nat
  | .core => 1 | .cluster => 2 | .channel => 3
/-- The number of a unit's state. -/
def unitNum : UnitSt → Nat
  | .enabled => 0 | .spare => 1 | .retired => 2 | .out => 3 | .resetting => 4

/-- The key under which a unit's resets and stale epochs are counted. -/
def unitKey (k : UnitKind) (u : Nat) : Nat := (kindNum k - 1) * 65536 + u

/-- The number of a bank's STATE (R605). -/
def bankNum : BankSt → Nat
  | .empty => 0 | .writing => 1 | .verified => 2 | .trial => 3 | .good => 4 | .copying => 5 | .failed => 6

/-- A row of FW_BANKS. -/
def bankRow (s : State) (b : Bool) : List Byte :=
  let k := s.bank b
  pack [(1, b01 b), (1, bankNum k.st), (4, k.svn), (4, k.version), (4, k.blocksWritten), (4, k.imageBlocks), (48, Config.sha384 k.header)]

/-- A row of DIE_TIME. -/
def dieRow (s : State) (d : Nat) : List Byte :=
  pack [(1, d), (1, timeNum (s.island d).st), (4, satI 32 ((s.timeOf d : Int) - (s.timeOf 0 : Int))), (4, s.ctr .timeSteps d), (4, s.ctr .timeFaults d), (8, s.ctr .holdoverNs d)]

/-- The number of a dump's state (0x2132). -/
def dumpNum : DumpSt → Nat
  | .armed | .triggered => 0 | .streaming => 1 | .ended => 2

/-- A row of DUMPS. -/
def dumpRow (d : Dump) : List Byte :=
  leBytes 2 d.number ++ padTo 32 d.tensor.name ++ pack [(4, d.sink), (8, d.step), (1, dumpNum d.st), (8, d.cutAt), (8, d.sent), (8, d.copies.length), (1, (d.status.map Status.code).getD 0)]

/-- A row of UNIT_EPOCHS. -/
def epochRow (s : State) (e : UnitKind × Nat) : List Byte :=
  let u := s.unit e.1 e.2
  pack [(1, kindNum e.1), (2, e.2), (2, u.epoch), (1, unitNum u.st)] ++ s.packCtrs (unitKey e.1 e.2) [.unitResets, .staleEpoch]

/-- Tables 0x1E11 to 0x2150.  COUNTER_SNAPSHOT_DATA gives one row for each counter copied: its number, its unit and its value (log 73). -/
def tabsHigh (s : State) (c : Client) (index : Nat) : Option TabView :=
  match index with
  | 0x1E11 => tab (opPm + roleTenant) 2 55 (s.ownRows c ((keySort Prod.fst s.sec.tenants).map (fun e => (e.1, tenantRow s e.1 e.2))))
  | 0x1E12 => tab (opPm + roleTenant) 4 17 (s.ownRows c ((keySort Prod.fst s.sec.jobs).map (fun e => (e.2.tenant, boundRow e.1 e.2))))
  | 0x1E13 => tab roleOp 1 57 (upTo 2 (fun d => pack [(1, d)] ++ s.packCtrs d
      [.tagFailures, .missingEnc, .keyMissing, .sessionsOpened, .sessionsRefused, .tokensAccepted, .tokensRefused]))
  | 0x1F10 => tab opPm 2 19 (s.boot.log.map (fun e => pack [(1, e.1), (1, e.2.1), (8, e.2.2.1), (8, e.2.2.2.1), (1, e.2.2.2.2)]))
  | 0x1F11 => tab opPm 5 12 s.larderRows
  | 0x1F12 => tab roleOp 3 18 ((unitKeys.filter (fun e => e.1 != .core || corePresent e.2)).map (epochRow s))
  | 0x1F13 => s.writable .partitions
  | 0x2010 => tab opPm 1 66 [bankRow s false, bankRow s true]
  | 0x2110 => tab (roleOp + roleDebug) 1 22 (upTo 2 (dieRow s))
  | 0x2130 => tab roleOp 4 20 ((keySort (fun e => e.1.1 * 2 ^ 20 + e.1.2.1 * 2 ^ 16 + e.1.2.2) s.obs.expiredAt).map (fun e =>
      pack [(1, e.1.1), (1, e.1.2.1), (2, e.1.2.2), (8, s.ctr .timeoutExpiries (e.1.1 * 2 ^ 20 + e.1.2.1 * 2 ^ 16 + e.1.2.2)), (8, e.2)]))
  | 0x2131 => tab (opPm + roleDebug) 32 53 ((keySort (fun t => leNat t.name.reverse) s.obs.tensors).map (fun t =>
      padTo 32 t.name ++ pack [(2, t.ctx), (8, t.addr), (8, t.length), (1, t.format), (2, t.extents.length)]))
  | 0x2132 => tab (opPm + roleDebug) 2 72 ((keySort Dump.number s.obs.dumps).map dumpRow)
  | 0x2133 => tab roleOp 1 17 (((List.range 32).filter portPresent).map (fun p => pack [(1, p)] ++ s.packCtrs p [.observeSlots, .observeWaitNs]))
  | 0x2140 => tab (roleOp + roleDebug) 6 14 ((keySort (fun e => e.1.1.ctorIdx * 2 ^ 40 + e.1.2) s.obs.snapshot).map (fun e => pack [(2, e.1.1.ctorIdx), (4, e.1.2), (8, e.2)]))
  | 0x2150 => tab roleDebug 9 257 ((keySort Prod.fst s.obs.capture).map (fun e => padTo 257 (pack [(8, e.2 / 256), (1, e.2 % 256)]))
      ++ s.obs.crossings.map (fun e => pack [(1, e.1), (256, e.2)]))
  | _ => none

/-- A table as a client reads it; none where the index names no table (R648). -/
def tableView (s : State) (c : Client) (index : Nat) : Option TabView :=
  match tabsCore s c index with
  | some v => some v
  | none => match tabsLink s index with
    | some v => some v
    | none => match tabsMemory s c index with
      | some v => some v
      | none => match tabsErrors s c index with
        | some v => some v
        | none => match tabsWork s c index with
          | some v => some v
          | none => match tabsTraffic s c index with
            | some v => some v
            | none => tabsHigh s c index

end Sys2Proof.Machine
end

