-- ==== Sys2Proof/Machine/KodpInvoke.lean ====
section
/-!
DEFINITION. Machine/KodpInvoke.lean: what a KODP request asks for: reads, writes, invocations, tables and subscriptions (R649 to R653,
R664 to R669, R674 to R677, R682, R684), and which command an invocation is.
-/
namespace Sys2Proof.Machine

/-! ### Arguments (R649) -/

/-- The fields of some sizes at the front of some bytes. -/
def cutFields : List Nat → List Byte → List Nat
  | [], _ => []
  | w :: ws, bs => leNat (bs.take w) :: cutFields ws (bs.drop w)

/-- The state a command answers; a command that answers none leaves the state. -/
def ran (x : Host.Outcome State Fault Refusal) (s : State) : State := match x with | .next t => t | _ => s

/-- Answer UNSUPPORTED: an undefined object, or one the operation does not fit (R664). -/
def unsupported (r : Req) (m : KMsg) (s : State) : State :=
  operate { index := m.index, sub := m.sub, type := m.type, roles := 0, any := true } r m.body 0 { Verdict.ok with bad := true } id s

/-- A malformed request that can be answered (R653). -/
def malformedReq (r : Req) (m : KMsg) (s : State) : State := unsupported r m (bump .kMalformed (transportNum r.client.transport) s)

/-- Run a command on the fields of an argument of exactly the sizes given; any other length is malformed (R653). -/
def withArgs (r : Req) (m : KMsg) (ws : List Nat) (run : (Nat → Nat) → Host.Outcome State Fault Refusal) (s : State) : State :=
  if m.body.length = ws.sum then ran (run (fun i => (cutFields ws m.body).getD i 0)) s else malformedReq r m s

/-! ### SPDM messages (R553 to R557; log 32) -/

/-- The session a request came in, or the one its client is opening. -/
def State.sessionFor (s : State) (r : Req) : Nat :=
  match r.client.session with
  | some k => k
  | none => ((s.sec.sessions.find? (fun e => e.2.client == reqBase r && !e.2.established)).map Prod.fst).getD 0

/-- Every public key that may sign FINISH (R556, R560, R661). -/
def State.signers (s : State) : List Nat :=
  (s.table .operatorKeys ++ s.table .poolManagerKeys).map (fun x => x.fields.getD 1 0) ++ s.sec.tenants.map (fun e => e.2.authKey)
    ++ [Config.deviceKey (1000 + s.twin.peerEid)]

/-- The key FINISH is signed with: the first that verifies, and 0 where none does. -/
def State.finishSigner (s : State) (session sig : Nat) : Nat :=
  match aget s.sec.sessions session with
  | some n => (s.signers.find? (fun k => Config.ecdsaVerifies k n.key sig)).getD 0
  | none => 0

/-- A field of an SPDM message. -/
def spdmField (b : List Byte) (lo n : Nat) : Nat := leNat ((b.drop lo).take n)

/-- Run the SPDM request that some bytes are, by its code (R554; the layout is that of DSP0274, log 32). -/
def spdmMessage (r : Req) (b : List Byte) (s : State) : Host.Outcome State Fault Refusal :=
  let f := spdmField b
  match f 1 1 with
  | 0x84 => execGetVersion r s
  | 0xE1 => execGetCapabilities r (f 8 4) s
  | 0xE3 => execNegotiateAlgorithms r (if bits (f 8 4) 7 1 = 1 ∧ bits (f 12 4) 1 1 = 1 then 1 else 0) s
  | 0x81 => execGetDigests r s
  | 0x82 => execGetCertificate r (f 2 1 % 16) (f 4 2) (f 6 2) s
  | 0x83 => execChallenge r (f 2 1 % 16) (f 4 32) s
  | 0xE0 => execGetMeasurements r (f 3 1) (f 4 32) s
  | 0xE4 => execKeyExchange r (f 40 96) (f 8 32) s
  | 0xE5 => let k := s.sessionFor r
    execFinish r k (f 4 96) (if f 2 1 % 2 = 1 then some (s.finishSigner k (f 4 96)) else none) s
  | 0xE8 => execSpdmHeartbeat r (s.sessionFor r) s
  | 0xE9 => execKeyUpdate r (s.sessionFor r) s
  | 0xEC => execEndSession r (s.sessionFor r) s
  | code => spdm r code (fun s => (s, spdmError 7)) s

/-- INVOKE of SPDM_MESSAGE: a length and up to 4,096 bytes (R556, R649). -/
def invokeSpdm (r : Req) (m : KMsg) (s : State) : State :=
  let n := leNat (m.body.take 2)
  if m.body.length < 2 ∨ m.body.length ≠ n + 2 then malformedReq r m s
  else if n > 4096 then unsupported r m s else ran (spdmMessage r (m.body.drop 2) s) s

/-! ### Invocations (R652, R684) -/

/-- INVOKE of the key commands (R558, R560, R575): in the Peer session the tenant leads. -/
def invokeKeys (r : Req) (m : KMsg) (s : State) : State :=
  let lead := s.isPeer r.client
  let t := if lead then leNat (m.body.take 2) else 0
  let m := if lead then { m with body := m.body.drop 2 } else m
  match m.sub with
  | 1 => withArgs r m [1, 64] (fun a => execMemKeySet r t (a 0) (a 1) s) s
  | 2 => withArgs r m [1] (fun a => execMemKeyDestroy r t (a 0) s) s
  | 3 => withArgs r m [4, 1, 32, 8] (fun a => execJobKeySet r t (a 0) (a 1) (a 2) (a 3) s) s
  | 4 =>
    let n := leNat ((m.body.drop 4).take 1)
    withArgs r m ([4, 1] ++ List.replicate n 4) (fun a => execJobBind r t (a 0) ((List.range n).map (fun i => a (i + 2))) s) s
  | 5 => withArgs r m [4, 4] (fun a => execJobKeyDestroy r t (a 0) (a 1) s) s
  | 6 => withArgs r m [1, 96] (fun a => execKernelSignKeySet r t (a 0) (a 1) s) s
  | 7 => withArgs r m [] (fun _ => execTenantSeal r s) s
  | _ => unsupported r m s

/-- INVOKE of PORT_COMMAND, by its action (R115, R141). -/
def invokePort (r : Req) (m : KMsg) (s : State) : State :=
  withArgs r m [1, 1] (fun a => match a 1 with
    | 1 => execPortEnable r (a 0) s
    | 2 => execPortDisable r (a 0) s
    | 3 => execPortRetrain r (a 0) s
    | 4 => execPortLaneRestore r (a 0) s
    | _ => .next (unsupported r m s)) s

/-- INVOKE of the commands of observation (R618 to R641). -/
def invokeObserve (r : Req) (m : KMsg) (s : State) : State :=
  let name := m.body.take 32
  match m.sub with
  | 1 => withArgs r m [8, 1] (fun a => execTimeSet r (a 0) (a 1) s) s
  | 2 => withArgs r m [8] (fun a => execCounterSnapshot r (a 0) s) s
  | 3 => if m.body.length = 7 then withArgs r m [1, 2, 4] (fun a => execCrumbRead r (a 0) (a 1) (some (a 2)) s) s
    else withArgs r m [1, 2] (fun a => execCrumbRead r (a 0) (a 1) none s) s
  | 4 => withArgs r m [1, 2] (fun a => execCrumbRelease r (a 0) (a 1) s) s
  | 5 => withArgs r m [32, 2, 8, 8, 1] (fun a => execTensorRegister r name (a 1) (a 2) (a 3) (a 4) s) s
  | 6 => withArgs r m [32, 4, 8, 8, 8, 8] (fun a => execDumpArm r name (a 1) (a 2) (a 3) (a 4) (a 5) s) s
  | 7 => withArgs r m [2] (fun a => execDumpCancel r (a 0) s) s
  | 8 => withArgs r m [8] (fun a => execDebugStop r (a 0) s) s
  | 9 => withArgs r m [8] (fun a => execDebugResume r (a 0) s) s
  | _ => unsupported r m s

/-- INVOKE of the deep tier's commands (R301, R309, R316). -/
def invokeDeep (r : Req) (m : KMsg) (s : State) : State :=
  match m.sub with
  | 1 => withArgs r m [8, 8] (fun a => execDeepPin r (a 0) (a 1) s) s
  | 2 => withArgs r m [8, 8] (fun a => execDeepUnpin r (a 0) (a 1) s) s
  | 3 => withArgs r m [8, 8] (fun a => execDeepPrefetch r (a 0) (a 1) s) s
  | 4 => withArgs r m [1] (fun a => execDeepFlush r (a 0) s) s
  | 5 => withArgs r m [8, 8] (fun a => execDeepTrim r (a 0) (a 1) s) s
  | 6 => withArgs r m [1] (fun a => execSledClaimForce r (a 0) s) s
  | 7 => withArgs r m [1, 1] (fun a => if a 1 < 32 then execChannelRetrain r (a 0 * 32 + a 1) s else .next (unsupported r m s)) s
  | _ => unsupported r m s

/-- INVOKE of the commands of a tenant's life and of debug tokens (R549 to R551, R570 to R573, R575). -/
def invokeTenant (r : Req) (m : KMsg) (s : State) : State :=
  match m.sub with
  | 1 => withArgs r m [2, 96] (fun a => execTenantCreate r (a 0) (a 1) s) s
  | 2 => withArgs r m [2] (fun a => execTenantRetire r (a 0) s) s
  | 3 => withArgs r m [] (fun _ => execDebugChallenge r s) s
  | 4 => withArgs r m [352] (fun _ => execDebugToken r m.body s) s
  | 5 => withArgs r m [] (fun _ => execDebugWithdraw r s) s
  | 6 => withArgs r m [96] (fun a => execDebugKeySet r (a 0) s) s
  | _ => unsupported r m s

/-- INVOKE of the firmware commands (R607 to R612, R616). -/
def invokeFirmware (r : Req) (m : KMsg) (s : State) : State :=
  match m.sub with
  | 1 => withArgs r m [512] (fun _ => execFwBegin r m.body s) s
  | 2 => withArgs r m [4, 4, 512] (fun a => execFwBlock r (a 0) (a 1) (m.body.drop 8) s) s
  | 3 => withArgs r m [] (fun _ => execFwVerify r s) s
  | 4 => withArgs r m [] (fun _ => execFwActivate r s) s
  | 5 => withArgs r m [] (fun _ => execFwAbort r s) s
  | 6 => withArgs r m [] (fun _ => execFwRaiseSvn r s) s
  | _ => unsupported r m s

/-- INVOKE of resets and of the service commands (R583, R593, R598, R599). -/
def invokeBoot (r : Req) (m : KMsg) (s : State) : State :=
  match m.index, m.sub with
  | 0x1F20, 1 => withArgs r m [2] (fun a => execResetCore r (a 0) s) s
  | 0x1F20, 2 => withArgs r m [1] (fun a => execResetCluster r (a 0) s) s
  | 0x1F20, 3 => withArgs r m [1] (fun a => execResetPartition r (a 0) s) s
  | 0x1F20, 4 => withArgs r m [] (fun _ => execResetPackage r s) s
  | 0x1F20, 5 => withArgs r m [1, 8] (fun a => execRetireUnit r (a 0) (a 1) s) s
  | 0x1F30, 1 => withArgs r m [1, 2] (fun a => execServiceOut r (a 0) (a 1) s) s
  | 0x1F30, 2 => withArgs r m [1, 2] (fun a => execServiceRecal r (a 0) (a 1) s) s
  | 0x1F30, 3 => withArgs r m [1, 2] (fun a => execServiceReplace r (a 0) (a 1) s) s
  | 0x1F30, 4 => withArgs r m [1, 2] (fun a => execServiceIn r (a 0) (a 1) s) s
  | _, _ => unsupported r m s

/-- INVOKE of the other command objects (R232, R267, R346, R396, R425, R460, R499, R519, R546). -/
def invokeWork (r : Req) (m : KMsg) (s : State) : State :=
  match m.index, m.sub with
  | 0x1420, 1 => withArgs r m [2, 4] (fun a => execCtxInvalidate r (a 0) (a 1) s) s
  | 0x1420, 2 => withArgs r m [8, 8] (fun a => execRecallRange r (a 0) (a 1) s) s
  | 0x1420, 3 => withArgs r m [2] (fun a => execPartnerEvict r (a 0) s) s
  | 0x1420, 4 => withArgs r m [2] (fun a => execFqOverflowClear r (a 0) s) s
  | 0x1520, 1 => withArgs r m [8] (fun a => execDirectoryLookup r (a 0) s) s
  | 0x1740, 1 => withArgs r m [] (fun _ => execErrorLogClear r s) s
  | 0x1740, 2 => withArgs r m [1, 4] (fun a => execDeepSetRelease r (a 0) (a 1) s) s
  | 0x1740, 3 => withArgs r m [8] (fun a => execPoisonInject r (a 0) s) s
  | 0x1820, 1 => withArgs r m [2, 2] (fun a => execRecipeAbort r (a 0) (a 1) s) s
  | 0x1A20, 1 => withArgs r m [2, 8, 4] (fun a => execKernelLoad r (a 0) (a 1) (a 2) s) s
  | 0x1A20, 2 => withArgs r m [2] (fun a => execKernelUnload r (a 0) s) s
  | 0x1B30, 1 => withArgs r m [4] (fun a => execTwinForce r (a 0) s) s
  | 0x1B30, 2 => withArgs r m [] (fun _ => execTwinForceCancel r s) s
  | 0x1B30, 3 => withArgs r m [] (fun _ => execTwinHandover r s) s
  | 0x1B30, 4 => withArgs r m [] (fun _ => execTwinQuiesce r s) s
  | 0x1C30, 1 => withArgs r m [2] (fun a => execHistogramClear r (a 0) s) s
  | 0x1D20, 1 => withArgs r m [4, 2] (fun a => execJobOpen r (a 0) (a 1) s) s
  | 0x1D20, 2 => withArgs r m [4] (fun a => execJobClose r (a 0) s) s
  | 0x1D20, 3 => withArgs r m [2, 1, 8] (fun a => execQuietHint r (a 0) (a 1) (a 2) s) s
  | 0x1D20, 4 => withArgs r m [4, 8, 4, 4, 2, 1] (fun a => execJobStepTimer r (a 0) (a 1) (a 2) (a 3) (a 4) (a 5) s) s
  | _, _ => unsupported r m s

/-- INVOKE: the command object of an index (R684). -/
def invoke (r : Req) (m : KMsg) (s : State) : State :=
  match m.index with
  | 0x1220 => if m.sub = 1 then invokePort r m s else unsupported r m s
  | 0x1630 => invokeDeep r m s
  | 0x1E10 => if m.sub = 1 then invokeSpdm r m s else unsupported r m s
  | 0x1E20 => invokeTenant r m s
  | 0x1E30 => invokeKeys r m s
  | 0x1F20 | 0x1F30 => invokeBoot r m s
  | 0x2020 => invokeFirmware r m s
  | 0x2120 => invokeObserve r m s
  | _ => invokeWork r m s

/-! ### Reads, writes, tables (R650, R665, R674, R675) -/

/-- READ (R650, R652). -/
def readReq (r : Req) (m : KMsg) (s : State) : State :=
  if !m.body.isEmpty then malformedReq r m s
  else match readValue s r.client m.index m.sub with
    | some v =>
      let o : OpObj := { index := m.index, sub := m.sub, type := 1, roles := v.roles, any := v.any }
      operate o r [] 0 Verdict.ok (reply o r .ok v.bytes) s
    | none => unsupported r m s

/-- WRITE (R649, R650): a BOOL takes no value but 0 and 1, which its range says. -/
def writeReq (r : Req) (m : KMsg) (s : State) : State :=
  match objOf m.index m.sub with
  | some o => withArgs r m [o.info.size] (fun a => execObjectWrite r o (a 0) s) s
  | none => unsupported r m s

/-- The body of a TABLE_READ reply: rows from an ordinal on, as many as are asked and fit (R652, R674). -/
def tableBody (gen start most : Nat) (v : TabView) : List Byte :=
  let rows := (v.rows.drop start).take (min most ((8176 - 16) / v.rowLen))
  let next := start + rows.length
  pack [(4, gen), (4, v.rows.length), (4, if next < v.rows.length then next else 0xFFFFFFFF), (2, v.rowLen), (2, rows.length)] ++ rows.flatten

/-- Tables whose own commands raise their TABLE_GEN. -/
def genKept (index : Nat) : Bool :=
  [0x0020, 0x0021, 0x1210, 0x1310, 0x1410, 0x1C10, 0x1C11, 0x1D14, 0x1F13].contains index

/-- The TABLE_GEN a read finds: where rows come and go by the block's own events, it has risen by the number of those events since the last
read of these roles, a free value: at least one when the keys differ, and not one alone when they are the same again (R674; log 64). -/
def tableSync (index seenAs : Nat) (v : TabView) (s : State) : State :=
  if genKept index then s
  else
    let keys := v.rows.map (fun x => x.take v.keyLen)
    let k := index + seenAs * 2 ^ 16
    let changed := match aget s.kodp.tableSeen k with
      | some old => old != keys
      | none => false
    let n := Config.freeNat s.free
    tableRaised index (if changed || n != 0 then n + 1 else 0) (useFree (s.onKodp (fun x => { x with tableSeen := aset x.tableSeen k keys })))

/-- TABLE_READ (R665, R674). -/
def tableReadReq (r : Req) (m : KMsg) (s : State) : State :=
  if m.body.length ≠ 6 then malformedReq r m s
  else match tableView s r.client m.index with
    | some v =>
      let o : OpObj := { index := m.index, sub := 0, type := 4, roles := v.roles, any := false }
      if m.sub ≠ 0 then unsupported r m s
      else operate o r m.body 0 Verdict.ok (fun s =>
        let s := tableSync m.index (s.rolesOf r.client) v s
        reply o r .ok (tableBody (agetD s.kodp.tableGen m.index 0) (leNat (m.body.take 4)) (leNat (m.body.drop 4)) v) s) s
    | none => unsupported r m s

/-- The writable tables. -/
def allTables : List TableId :=
  [.operatorKeys, .poolManagerKeys, .portConfig, .eidRoutes, .partnerGrants, .trafficProfiles, .trafficAssign, .partitions]

/-- Cut bytes into records of some sizes. -/
def cutRows (ws : List Nat) : Nat → List Byte → List (List Nat)
  | 0, _ => []
  | n + 1, bs => cutFields ws bs :: cutRows ws n (bs.drop ws.sum)

/-- TABLE_PUT and TABLE_DELETE: a count and that many rows or keys (R652, R675). -/
def tableWriteReq (r : Req) (m : KMsg) (s : State) : State :=
  match allTables.find? (fun t => t.info.index == m.index) with
  | none => unsupported r m s
  | some t =>
    let n := leNat (m.body.take 2)
    let ws := if m.type = 5 then tableWidths t else (tableWidths t).take t.info.keys
    if m.body.length < 2 ∨ m.body.length ≠ 2 + n * ws.sum then malformedReq r m s
    else if m.sub ≠ 0 then unsupported r m s
    else
      let recs := cutRows ws n (m.body.drop 2)
      ran (if m.type = 5 then execTablePut r t (recs.map Row.mk) s else execTableDelete r t recs s) s

/-! ### Subscriptions (R677, R679) -/

/-- The notification codes of R679. -/
def allCodes : List Nat :=
  [1, 2, 3, 0x1101, 0x1102, 0x1103, 0x1104, 0x1201, 0x1202, 0x1203, 0x1401, 0x1402, 0x1403, 0x1404, 0x1405, 0x1501,
   0x1601, 0x1602, 0x1603, 0x1604, 0x1701, 0x1702, 0x1703, 0x1704, 0x1705, 0x1706, 0x1707, 0x1708]
  ++ [0x1B01, 0x1B02, 0x1B03, 0x1B04, 0x1B05, 0x1B06, 0x1B07, 0x1B08, 0x1B09, 0x1B0A, 0x1B0B, 0x1B0C, 0x1B0D,
   0x1D01, 0x1D02, 0x1E01, 0x1E02, 0x1E03, 0x1F01, 0x1F02, 0x1F03, 0x1F04, 0x1F05, 0x1F06, 0x1F07,
   0x2001, 0x2002, 0x2003, 0x2101, 0x2102, 0x2103, 0x2104, 0x2105]

/-- The code that asks for every code. -/
def codeAll : Nat := 0xFFFF

/-- The object a subscription message stands for: it names none, and any message may send it (R651, R677). -/
def subObj (type : Nat) : OpObj := { index := 0, sub := 0, type := type, roles := 0, any := true }

/-- The body of SUBSCRIBE and UNSUBSCRIBE. -/
def codesBytes (codes : List Nat) : List Byte := leBytes 2 codes.length ++ codes.flatMap (leBytes 2)

/-- A client's subscription. -/
def State.subOf (s : State) (c : Client) : Option Sub := s.kodp.subs.find? (fun b => b.client == c)

/-- Put a subscription in place of its client's, or after the others; one with no code is none. -/
def putSub (b : Sub) (s : State) : State :=
  s.onKodp (fun k =>
    let rest := k.subs.filter (fun x => x.client != b.client)
    { k with subs := if b.codes.isEmpty && !b.all then rest
                     else if k.subs.any (fun x => x.client == b.client) then k.subs.map (fun x => if x.client = b.client then b else x) else k.subs ++ [b] })

/-- SUBSCRIBE (R677): the codes granted are those every role of the message may receive; a 65th client is refused. -/
def subscribeReq (r : Req) (codes : List Nat) (s : State) : State :=
  let roles := s.rolesOf r.client
  let old := s.subOf r.client
  let granted := codes.filter (fun c => c == codeAll || mayReceive roles c)
  let v : Verdict := { Verdict.ok with bad := codes.any (fun c => c != codeAll && !allCodes.contains c)
                                       other := if old.isNone && decide (s.kodp.subs.length ≥ 64) then some .noSpace else none }
  let fresh : Sub := { client := r.client, codes := [], all := false, roles := roles, queue := [], lost := 0, lostSeq := 0, lostAt := 0 }
  operate (subObj 7) r (codesBytes codes) 0 v (fun s =>
    let b := old.getD fresh
    reply (subObj 7) r .ok (codesBytes granted)
      (putSub { b with roles := roles, all := b.all || granted.contains codeAll
                       codes := (b.codes ++ granted.filter (fun c => c != codeAll)).eraseDups } s)) s

/-- UNSUBSCRIBE (R652): COUNT 0 removes every code. -/
def unsubscribeReq (r : Req) (codes : List Nat) (s : State) : State :=
  operate (subObj 8) r (codesBytes codes) 0 { Verdict.ok with bad := codes.any (fun c => c != codeAll && !allCodes.contains c) }
    (fun s => reply (subObj 8) r .ok [] (match s.subOf r.client with
      | none => s
      | some b =>
        let every := codes.isEmpty || codes.contains codeAll
        let held := if b.all then allCodes.filter (mayReceive b.roles) else b.codes
        putSub { b with all := false, codes := if every then [] else held.filter (fun c => !codes.contains c) } s)) s

/-- SUBSCRIBE and UNSUBSCRIBE as they come: a count and that many codes. -/
def subReq (r : Req) (m : KMsg) (s : State) : State :=
  let n := leNat (m.body.take 2)
  if m.body.length < 2 ∨ m.body.length ≠ 2 + 2 * n then malformedReq r m s
  else
    let codes := cutFields (List.replicate n 2) (m.body.drop 2)
    if m.type = 7 then subscribeReq r codes s else unsubscribeReq r codes s

/-- PING (R652, R677): the lease runs from this message. -/
def pingReq (r : Req) (s : State) : State :=
  let o : OpObj := { index := 0, sub := 0, type := 10, roles := 0, any := true }
  operate o r [] 0 Verdict.ok (fun s => reply o r .ok (leBytes 4 (s.obj .clientLease)) s) s

/-- Start a request (R652, R666). -/
def startReq (r : Req) (m : KMsg) (s : State) : State :=
  match m.type with
  | 1 => readReq r m s
  | 2 => writeReq r m s
  | 3 => invoke r m s
  | 4 => tableReadReq r m s
  | 5 | 6 => tableWriteReq r m s
  | 7 | 8 => subReq r m s
  | 10 => if m.body.isEmpty then pingReq r s else malformedReq r m s
  | _ => unsupported r m s

/-! ### The queue (R666, R668) -/

/-- Start what waits in Baker's queue, in order, until an INVOKE finds 16 running. -/
def startQueued : Nat → State → State
  | 0, s => s
  | n + 1, s =>
    match s.kodp.queue with
    | [] => s
    | (r, m) :: _ =>
      if !s.bakerUp || s.obs.reheat.contains 0 || (m.type == 3 && decide (s.kodp.running.length ≥ 16)) then s
      else startQueued n (unqueue r (startReq r m s))

/-- Queue a request and start what may start (R666): one that comes again while it waits is a duplicate; a full queue answers RETRY. -/
def queueReq (r : Req) (m : KMsg) (s : State) : State :=
  if s.kodp.queue.any (fun e => e.1.client == r.client && e.1.id == r.id) then bump .kDuplicates (transportNum r.client.transport) s
  else if s.kodp.queue.isEmpty then startReq r m s
  else if s.kodp.queue.length ≥ 256 then
    bump .kRetries (transportNum r.client.transport) (heard r (sendMsg r.client r.tag true (mkMsg (m.type + 0x80) r.id m.index m.sub .retry []) s))
  else startQueued 256 ((heard r s).onKodp (fun k => { k with queue := k.queue ++ [(r, m)] }))

end Sys2Proof.Machine
end

