-- ==== Sys2Proof/Machine/Kodp.lean ====
section
/-!
DEFINITION. Machine/Kodp.lean: the commands of KODP's transports: fragments, messages, sessions, subscriptions and their timers, KSL
frames and the management lane (R80, R81, R651 to R660, R666 to R671, R677, R680).
-/
namespace Sys2Proof.Machine

/-! ### Messages as they come (R651 to R653, R660) -/

/-- Read a message's header and body from its bytes. -/
def parseMsg (b : List Byte) : KMsg :=
  let f (lo n : Nat) : Nat := leNat ((b.drop lo).take n)
  { version := f 0 1, type := f 1 1, reqId := f 2 2, index := f 4 2, sub := f 6 1, status := f 7 1, bodyLen := f 8 2, reserved := f 10 6
    body := b.drop 16 }

/-- The message types that carry no object, whose INDEX and SUBINDEX are 0 (R651). -/
def noIndex (type : Nat) : Bool := type == 7 || type == 8 || type == 9 || type == 10 || type == 11

/-- Whether a header is malformed (R651, R653). -/
def badHeader (m : KMsg) : Bool :=
  m.version != 1 || m.type == 0 || decide (m.type > 11) || m.reserved != 0 || m.bodyLen != m.body.length || (noIndex m.type && (m.index != 0 || m.sub != 0))

/-- The standby's answer to a mirrored operation (R671): one that differs from the owner's outcome is counted, and the standby is given up
as for a record it does not acknowledge; the reply that waited leaves. -/
def peerAnswer (m : KMsg) (s : State) : State :=
  match s.kodp.peerWait.find? (fun w => w.1 == m.reqId) with
  | none => bump .kMalformed 2 s
  | some w =>
    let s := s.onKodp (fun k => { k with peerWait := k.peerWait.erase w })
    let s := onlyIf (m.status != w.2.2.2.status) (fun s => loseStandby 2 (bump .kPeerMismatches 2 s)) s
    sendReply w.2.1 w.2.2.1 w.2.2.2 s

/-- A message in clear, outside a session or taken out of one (R652, R653, R680). -/
def takeClear (c : Client) (tag : Nat) (m : KMsg) (s : State) : State :=
  let r : Req := { client := c, id := m.reqId, tag := tag }
  if m.type ≥ 0x80 then
    if c == s.peerClient then peerAnswer m s else bump .kMalformed (transportNum c.transport) s
  else if badHeader m then malformedReq r m s
  else if m.type = 11 then malformedReq r m s
  else queueReq r m s

/-- A SECURED message (R652, R660): an unknown session, another client's, or a MAC that fails is discarded and counted; from 2³² messages of a
direction on, it is refused until the keys are renewed (R557). -/
def takeSecured (c : Client) (tag reqId session : Nat) (cipher : List Byte) (s : State) : State :=
  let discard (s : State) : State := bump .kSecureFailures (transportNum c.transport) s
  if s.obs.reheat.contains 0 then
    bump .kRetries (transportNum c.transport) (sendMsg c tag true (mkMsg 0x8B reqId 0 0 .retry []) s)
  else match aget s.sec.sessions session with
    | none => discard s
    | some n =>
      if n.client ≠ c ∨ n.received ≥ 2 ^ 32 then discard s
      else match Config.gcmOpen n.key (2 * n.received) (leBytes 4 session) cipher with
        | none => discard s
        | some b =>
          takeClear { c with session := some session } tag (parseMsg b)
            (s.onSec (fun x => { x with sessions := aset x.sessions session { n with received := n.received + 1 } }))

/-- A reassembled message of a client.  On VC7 the padding of its last slot is not part of it (R657). -/
def takeMessage (c : Client) (tag : Nat) (b : List Byte) (s : State) : State :=
  if !s.bakerUp then s
  else
    let n := 16 + (parseMsg b).bodyLen
    let b := if c.transport = .vc7 ∧ n ≤ b.length ∧ b.length < n + 16 ∧ (b.drop n).all (fun x => x == 0) then b.take n else b
    let m := parseMsg b
    if b.length < 4 then bump .kMalformed (transportNum c.transport) s
    else if m.type = 11 ∧ badHeader m = false then
      if b.length < 22 ∨ leNat ((m.body.drop 4).take 2) ≠ m.body.length - 6 then malformedReq { client := c, id := m.reqId, tag := tag } m s
      else takeSecured c tag m.reqId (leNat (m.body.take 4)) (m.body.drop 6) s
    else takeClear c tag m s

/-! ### Fragments (R654 to R658) -/

/-- F, the fragment size of a transport (R655, R657). -/
def fragSize : Transport → Nat
  | .udp => 1024
  | .ksl => 1020
  | .vc7 => 496

/-- The reassembly of a client and REQ_ID (on VC7 a TAG). -/
def State.reasmOf (s : State) (c : Client) (id : Nat) : Option Reasm := s.kodp.reasm.find? (fun a => a.client == c && a.reqId == id)

/-- Drop a reassembly. -/
def dropReasm (c : Client) (id : Nat) (s : State) : State :=
  s.onKodp (fun k => { k with reasm := k.reasm.filter (fun a => !(a.client == c && a.reqId == id)) })

/-- Whether a client's reassemblies leave no room for another (R654). -/
def State.reasmFull (s : State) (c : Client) (id : Nat) : Bool :=
  (s.reasmOf c id).isNone && decide ((s.kodp.reasm.filter (fun a => a.client == c)).length ≥ 4)

/-- Whether a fragment does not fit the ones held (R654, R680). -/
def fragClash (size : Nat) (a : Reasm) (idx : Nat) (last : Bool) (bytes : List Byte) : Bool :=
  decide (idx ≥ 128) || decide (bytes.length > size) || (!last && bytes.length != size)
    || (match aget a.frags idx with | some b => b != bytes | none => false)
    || (match a.last with | some l => decide (idx > l) || (last && idx != l) | none => last && a.frags.any (fun e => decide (e.1 > idx)))

/-- Take a fragment (R654): the message is complete when every fragment up to the last has come. -/
def takeFragment (c : Client) (id idx : Nat) (last : Bool) (bytes : List Byte) (done : List Byte → State → State) (s : State) : State :=
  let size := fragSize c.transport
  let a := (s.reasmOf c id).getD { client := c, reqId := id, frags := [], last := none }
  if s.reasmFull c id then s
  else if fragClash size a idx last bytes then bump .kReasmTimeouts (transportNum c.transport) (dropReasm c id s)
  else if idx * size + bytes.length > 8192 then bump .kMalformed (transportNum c.transport) (dropReasm c id s)
  else
    let a := { a with frags := aset a.frags idx bytes, last := if last then some idx else a.last }
    let s := dropReasm c id s
    match a.last with
    | some l =>
      if (List.range (l + 1)).all (fun i => ahas a.frags i) then done ((List.range (l + 1)).flatMap (fun i => agetD a.frags i [])) s
      else s.onKodp (fun k => { k with reasm := k.reasm ++ [a] })
    | none => s.onKodp (fun k => { k with reasm := k.reasm ++ [a] })

/-- A fragment with the header of UDP and KSL (R655): one too short to carry it is discarded; reserved bits are ignored (R20). -/
def takeHeaded (c : Client) (b : List Byte) (s : State) : State :=
  if b.length < 4 then bump .kMalformed (transportNum c.transport) s
  else takeFragment c (leNat ((b.drop 2).take 2)) (leNat (b.take 1)) (bits (leNat ((b.drop 1).take 1)) 0 1 == 1) (b.drop 4) (takeMessage c 0) s

/-- The client an EID is on VC7. -/
def vc7Client (eid : Nat) : Client := { transport := .vc7, addr := eid, port := 0, session := none }

/-- A KODP packet's fragment into its client's reassembly (R657); fragment 0 names the request's FINGERPRINT and REQ_ID (R175; log 65). -/
def takeVc7Fragment (p : Packet) (s : State) : State :=
  let idx := p.harg % 256
  let s := onlyIf (idx == 0) (fun s => s.onKodp (fun k => { k with vc7Tags := aset k.vc7Tags (p.src, p.tag) (p.crc, leNat ((p.body.drop 2).take 2)) })) s
  takeFragment (vc7Client p.src) p.tag idx (bits p.harg 15 1 == 1) p.body (takeMessage (vc7Client p.src) p.tag) s

/-- A KODP reply ABORTED to a resent request that cannot be answered from the cache (R657). -/
def abortedReply (p : Packet) (s : State) : State :=
  let m := parseMsg p.body
  sendMsg (vc7Client p.src) p.tag true (mkMsg (m.type + 0x80) m.reqId m.index m.sub .aborted []) s

/-- The cached reply to the request of a packet's EID and TAG (R657, R670). -/
def State.cachedVc7 (s : State) (p : Packet) : Option KMsg :=
  (aget s.kodp.vc7Tags (p.src, p.tag)).bind (fun t => s.kodp.cache.findSome? (fun e =>
    if { e.1 with session := none } = vc7Client p.src then (e.2.find? (fun x => x.reqId == t.2)).map CacheEntry.reply else none))

/-- A KODP packet on a fabric port (R157, R159, R164, R165, R175, R657).  The answers to a message that is not taken go out for its
fragment 0. -/
def takeKodpPacket (port : Nat) (p : Packet) (s : State) : State :=
  let first := p.harg % 256 == 0
  let going := (s.reasmOf (vc7Client p.src) p.tag).isSome
  if going then takeVc7Fragment p s
  else
    let s := onlyIf (p.resend && first) (bump .resendsReceived port) s
    match (s.slotOfEid p.src).bind (fun n => (aget s.part.slots n).map (fun r => (n, r))) with
    | none => bump .unattachedSource port (onlyIf first (answerNow p .rightsFault) s)
    | some (slot, r) =>
      if r.st = .lost then bump .unattachedSource port (bump .slotUnattached slot (onlyIf first (answerNow p .rightsFault) s))
      else if s.outstanding p.src p.tag then bump (if p.resend then .resendsDroppedInFlight else .tagReuse) port s
      else if r.st = .detaching ∧ p.resend = false then onlyIf first (answerNow p .aborted) s
      else match (if p.resend then aget s.txn.ledger (slot, p.tag) else none) with
        | none => takeVc7Fragment p s
        | some e =>
          if !first then s
          else if e.fingerprint = p.crc ∧ e.op = 0x70 then
            match s.cachedVc7 p with
            | some m => sendMsg (vc7Client p.src) p.tag true m (bump .ledgerReplays port s)
            | none => abortedReply p (bump .ledgerReplays port s)
          else abortedReply p (bump .resendMismatches port s)

/-- A KODP packet: on a fabric port from a partner, on a TW port from the peer (R157, R560, R657). -/
def arriveKodp (port : Nat) (p : Packet) (s : State) : State :=
  if isFabric port then arriveFabric port p (takeKodpPacket port) s
  else if isTwinPort port then arriveLink port p (fun p s => if p.src = s.twin.peerEid then takeVc7Fragment p s else bump .misdirected port s) s
  else arriveLink port p (fun _ s => bump .malformed port s) s

/-- KODP_FRAGMENT (R654): on VC7 the bytes are HARG, TAG and the slots; a fragment of the peer needs no partner slot (R657). -/
def execKodpFragment (client : Client) (bytes : List Byte) (s : State) : Host.Outcome State Fault Refusal :=
  let c := { client with session := none }
  .next (if !s.bakerUp then s
    else match c.transport with
      | .udp | .ksl => takeHeaded c bytes s
      | .vc7 =>
        let p := mkPacket 7 0x70 (s.obj .nodeEid) c.addr (leNat ((bytes.drop 2).take 2) % 4096) 0 (leNat (bytes.take 2)) false (bytes.drop 4)
        if c = s.peerClient then takeVc7Fragment p s else takeKodpPacket 0 p s)

/-- REASSEMBLY_TIMEOUT (R654). -/
def execReassemblyTimeout (client : Client) (reqId : Nat) (s : State) : Host.Outcome State Fault Refusal :=
  .next (onlyIf (s.reasmOf client reqId).isSome (fun s => bump .kReasmTimeouts (transportNum client.transport) (dropReasm client reqId s)) s)

/-- SECURED (R652, R660). -/
def execSecured (client : Client) (session : Nat) (cipher : List Byte) (s : State) : Host.Outcome State Fault Refusal :=
  .next (if !s.bakerUp then s else takeSecured { client with session := none } 0 0 session cipher s)

/-! ### Subscriptions, leases and timers (R669, R670, R677) -/

/-- SUBSCRIBE (R677). -/
def execSubscribe (r : Req) (codes : List Nat) (s : State) : Host.Outcome State Fault Refusal := .next (subscribeReq r codes s)

/-- UNSUBSCRIBE (R652). -/
def execUnsubscribe (r : Req) (codes : List Nat) (s : State) : Host.Outcome State Fault Refusal := .next (unsubscribeReq r codes s)

/-- PING (R652, R677). -/
def execPing (r : Req) (s : State) : Host.Outcome State Fault Refusal := .next (pingReq r s)

/-- KODP_OPERATION_TIMEOUT (R644 row 13, R669): the operation is answered TIMEOUT and runs on. -/
def execKodpOperationTimeout (r : Req) (s : State) : Host.Outcome State Fault Refusal :=
  .next (match s.kodp.running.find? (fun x => x.req == r && !x.timedOut) with
    | none => s
    | some x =>
      let s := s.onKodp (fun k => { k with running := k.running.map (fun y => if y = x then { y with timedOut := true } else y) })
      timeoutFired 13 8 0 0 (sendReply r x.crc (mkMsg 0x83 r.id x.index x.sub .timeout []) s))

/-- COMMAND_DONE (R669): a command that was answered TIMEOUT ends. -/
def execCommandDone (r : Req) (status : Status) (s : State) : Host.Outcome State Fault Refusal :=
  .next (match s.kodp.running.find? (fun x => x.req == r && x.timedOut) with
    | some x => reply (cmdObj x.index x.sub 0) r status [] s
    | none => s)

/-- CLIENT_LEASE_EXPIRY (R677): the subscription outside a session ends. -/
def execClientLeaseExpiry (client : Client) (s : State) : Host.Outcome State Fault Refusal :=
  .next (s.onKodp (fun k => { k with subs := k.subs.filter (fun b => !(b.client == { client with session := none })) }))

/-- REPLY_CACHE_EXPIRY (R670). -/
def execReplyCacheExpiry (r : Req) (s : State) : Host.Outcome State Fault Refusal :=
  .next (s.onKodp (fun k => { k with cache := amod k.cache r.client [] (fun l => l.filter (fun e => e.reqId != r.id)) }))

/-! ### KSL (R80, R81, R658) -/

/-- The board controller. -/
def kslClient : Client := { transport := .ksl, addr := 0, port := 0, session := none }

/-- Whether a KSL frame is for this package and finds it listening (R74, R81). -/
def State.kslMine (s : State) (addr : Nat) : Bool := s.bakerUp && addr == 0x40 + s.kodpAddr

/-- Drive TP1, or release it. -/
def setKslReleased (b : Bool) (s : State) : State := s.onPkg (fun p => { p with kslReleased := b })

/-- Every KSL frame addressed to the package counts for the lease (R677). -/
def kslHeard (s : State) : State := s.onKodp (fun k => { k with heardAt := aset k.heardAt kslClient s.now })

/-- KSL_WRITE_FRAME (R80, R81). -/
def execKslWriteFrame (addr len : Nat) (msg : List Byte) (crc : Nat) (s : State) : Host.Outcome State Fault Refusal :=
  if !s.kslMine addr then .next (setKslReleased true s)
  else
    let s := kslHeard (setKslReleased false s)
    if crc != crc16 (leBytes 2 len ++ msg) || decide (len > 1024) || msg.length != len || ((aget s.integ.selfTest (5, 40)).map Prod.fst) == some 3 then .next (emit (.kslStatus .integrity) s)
    else if s.obs.reheat.contains 0 || (decide (len ≥ 4) && s.reasmFull kslClient (leNat ((msg.drop 2).take 2))) then .next (emit (.kslStatus .retry) s)
    else .next (takeHeaded kslClient msg (emit (.kslStatus .ok) s))

/-- A KSL read frame's bytes: LEN, a fragment and the CRC over both (R80). -/
def kslFrame (b : List Byte) : List Byte := let x := leBytes 2 b.length ++ b; x ++ leBytes 2 (crc16 x)

/-- KSL_READ_FRAME (R80, R81, R658): the next fragment of the message at the head of the read queue, or LEN 0. -/
def execKslReadFrame (addr : Nat) (s : State) : Host.Outcome State Fault Refusal :=
  if !s.kslMine addr then .next (setKslReleased true s)
  else
    let s := kslHeard (setKslReleased false s)
    match (if s.obs.reheat.contains 0 then [] else s.kodp.kslTx) with
    | [] => .next (emit (.kslFrame (kslFrame [])) s)
    | (_, m) :: rest =>
      let b := kmsgBytes m
      let k := s.kodp.kslRead
      let last := decide (b.length ≤ 1020 * (k + 1))
      let f := leBytes 1 k ++ [if last then 1 else 0] ++ leBytes 2 m.reqId ++ (b.drop (1020 * k)).take 1020
      .next (emit (.kslFrame (kslFrame f)) (s.onKodp (fun x => { x with kslTx := if last then rest else x.kslTx, kslRead := if last then 0 else k + 1 })))

/-- KSL_FRAME_TIMEOUT (R81). -/
def execKslFrameTimeout (s : State) : Host.Outcome State Fault Refusal := .next (setKslReleased true s)

end Sys2Proof.Machine
end

