-- ==== Sys2Proof/Machine/LinkFlit.lean ====
section
/-!
DEFINITION. Machine/LinkFlit.lean: the commands of the flit stream: flits received and sent, and the link layer's timers (R120 to R139,
R502 to R507).  A debug stop leaves the engines sending Idle flits with the last ACK (R640).
-/
namespace Sys2Proof.Machine

/-! ### Packets handed on (R122, R156, R157) -/

/-- A packet from a fabric port: the meaning of its opcode. -/
def fabricPacket (port : Nat) (p : Packet) (s : State) : Host.Outcome State Fault Refusal :=
  match p.op with
  | 0x01 => execAttach port p s
  | 0x03 => execHeartbeat port p s
  | 0x05 => execDetach port p s
  | 0x07 => execE2eNak port p s
  | 0x08 => execAnnounce port p s
  | 0x10 => execRdShared port p s
  | 0x11 => execRdUnique port p s
  | 0x12 => execRdOnce port p s
  | 0x13 => execWrLine port p s
  | 0x14 => execWrPart port p s
  | 0x15 => execWriteback port p s
  | 0x16 => execEvictClean port p s
  | 0x17 => execUpgrade port p s
  | 0x18 => execAtomic port p s
  | 0x22 => execSnpRsp port p s
  | 0x23 => execCrossed port p s
  | 0x25 => execStashRsp port p s
  | 0x40 => execWrData port p s
  | 0x41 => execWbData port p s
  | 0x42 => execSnpData port p s
  | 0x43 => execAtomicOpnd port p s
  | 0x50 => .next (arriveRecipe port p (fun _ => true) s)
  | 0x54 => execRecipeCancel port p s
  | 0x60 => execRtRead port p s
  | 0x70 => .next (arriveKodp port p s)
  | _ => execMalformedPacket port p s

/-- A packet from a DP or TW port: the meaning of its opcode.  A CMP ends the repair it answers (R158, R477); what only the Varisk sends
to a sled has no effect on it (log 152). -/
def peerPacket (port : Nat) (p : Packet) (s : State) : Host.Outcome State Fault Refusal :=
  if (linkShape port p.op).isNone then execMalformedPacket port p s
  else match p.op with
    | 0x88 => execDtReadData port p s
    | 0x86 => execDtCmp port p s
    | 0x81 => execDtInfoData port p s
    | 0xA0 => execTwHello port p s
    | 0xA1 => execTwKeepalive port p s
    | 0xA2 => execTwRelease port p s
    | 0xA3 => execMrAck port p s
    | 0xA4 => execMrLine port p s
    | 0xA5 => execMrState port p s
    | 0xA6 => execRsLines port p s
    | 0xA7 => execRpReq port p s
    | 0xA8 => execRpData port p s
    | 0xA9 => execHbReq port p s
    | 0x70 => .next (arriveKodp port p s)
    | 0x06 => .next (arriveLink port p (fun p s => match s.poolReq p.src p.tag with
      | some q => if q.issuer = .repair then settleWaits (endRepair q.key false (endPool q s)) else s
      | none => s) s)
    | _ => .next (arriveLink port p (fun _ s => s) s)

/-- Hand on a packet that has come whole. -/
def handOn (port : Nat) (p : Packet) (s : State) : State := ran (if isFabric port then fabricPacket port p s else peerPacket port p s) s

/-! ### FLIT_RECEIVED (R124, R127, R137) -/

/-- The records of a Control flit, in order. -/
def takeRecords (port : Nat) (f : Flit) (s : State) : State := forAll (f.slots.take 15) (fun b s => takeRecord port (padTo 16 b) s) s

/-- A good flit on a port with replay (R127).  One of KIND 3 is discarded after its ACK, in the order of R127's text, and counted in
RESERVED_RECORDS; neither is stated (log 151). -/
def grandFlit (port : Nat) (f : Flit) (s : State) : State :=
  let s := onlyIf f.ackValid (applyAck port f.ack) s
  let d := (f.seq + 4096 - (s.port port).e) % 4096
  match f.kind with
  | .control => takeRecords port f s
  | .idle => s
  | .reserved => bump .reservedRecords port s
  | .data =>
    if d = 0 then takeSlots port f handOn s
    else if d ≤ 2047 then nakFor port 2 s
    else bump .duplicates port s

/-- A good flit on a Compact port (R137): flits lost before it end the packet in progress. -/
def compactFlit (port : Nat) (f : Flit) (s : State) : State :=
  let q := s.port port
  let d := if q.resync then 0 else (f.seq + 4096 - q.e) % 4096
  let gap := f.seq != q.e
  match f.kind with
  | .control => takeRecords port f s
  | .idle => s
  | .reserved => bump .reservedRecords port s
  | .data =>
    if d > 2047 then bump .duplicates port s
    else
      let s := onlyIf gap (setPort port (fun q => { q with rxPart := some { vc := lostVc, left := 0, held := [] } })) s
      takeSlots port f handOn (bumpBy .compactLostFlits port d s)

/-- A flit outside Active (R117): in the flit-start step of a training or a retrain good flits in a row are counted, and none is handed
on; elsewhere the receiver does not read the data pairs as flits. -/
def startFlit (port : Nat) (flit : Flit) (s : State) : State :=
  let q := s.port port
  if (q.st == .train || q.st == .retrain) && q.exchanged then
    setPort port (fun q => { q with startFlits := if flit.broken then 0 else q.startFlits + 1 }) s
  else s

/-- FLIT_RECEIVED (R105, R117, R127, R137): a bad CRC or a bad slice is counted; with replay it draws a NAK. -/
def execFlitReceived (port : Nat) (flit : Flit) (s : State) : Host.Outcome State Fault Refusal :=
  .next (if s.frozen then s
    else if (s.port port).st != .active then startFlit port flit s
    else if flit.broken then
      let s := bump .crcErrors port s
      if s.compact port then s else nakFor port 1 s
    else if s.compact port then compactFlit port flit s
    else grandFlit port flit s)

/-! ### FLIT_SEND (R125, R129, R131, R136) -/

/-- Send a flit. -/
def sendFlit (port : Nat) (f : Flit) (s : State) : State := emit (.flit port f) s

/-- A CHARGED record carries the totals, and a TIME_SYNC record the time, of the moment its flit is sent (R138, R184). -/
def State.freshRecord (s : State) (port : Nat) (b : List Byte) : List Byte :=
  let q := s.port port
  match leNat (b.take 1) with
  | 4 => totalsRecord 4 (fun vc => agetD q.charged vc 0) 0
  | 5 => totalsRecord 5 (fun vc => agetD q.charged vc 0) 4
  | 0x10 => let t := s.timeOf (dieOfPort port); b.take 7 ++ leBytes 1 (t % 256) ++ leBytes 8 (t / 256)
  | _ => b

/-- Send a Control flit of up to 15 records (R126). -/
def sendControl (port : Nat) (s : State) : State :=
  let q := s.port port
  let f := s.mkFlit port q.next .control 0 0 ((q.control.take 15).map (s.freshRecord port))
  sendFlit port f (setPort port (fun q => { q with control := q.control.drop 15 }) s)

/-- Send the next flit of a replay: as first sent, with ACK refreshed (R129); the replay ends with the last flit of the buffer. -/
def sendReplay (port n : Nat) (s : State) : State :=
  let q := s.port port
  match q.replay[(n + 4096 - q.base) % 4096]? with
  | none => setPort port (fun q => { q with replaying := none }) s
  | some x =>
    let now := s.mkFlit port 0 .idle 0 0 []
    let next := (n + 1) % 4096
    bump .replayedFlits port (sendFlit port (Flit.close { x.2 with ack := now.ack, ackValid := now.ackValid })
      (setPort port (fun q => { q with replaying := if next = q.next then none else some next }) s))

/-- An Idle flit (R125). -/
def sendIdle (port : Nat) (s : State) : State := sendFlit port (s.mkFlit port (s.port port).next .idle 0 0 []) s

/-- Send new slots as a Data flit; it is kept until it is acknowledged, but on Compact (R129, R131, R137). -/
def sendData (port : Nat) (s : State) : State :=
  match dataSlots port s with
  | (s, none) => sendIdle port s
  | (s, some (slots, map, cont)) =>
    let f := s.mkFlit port (s.port port).next .data map cont slots
    sendFlit port f (setPort port (fun q => { q with
      next := (q.next + 1) % 4096, replay := if s.compact port then q.replay else q.replay ++ [(s.now, f)] }) s)

/-- FLIT_SEND (R125): Control flits first, then what a replay owes, then new Data within the window, else Idle.  A flit slot that the full
window keeps from Data counts in WINDOW_STALL_NS (R131; log 75). -/
def execFlitSend (port : Nat) (s : State) : Host.Outcome State Fault Refusal :=
  .next (if (s.port port).st != .active then
      -- in flit start Idle flits are sent (R117)
      onlyIf (((s.port port).st == .train || (s.port port).st == .retrain) && (s.port port).exchanged) (sendIdle port) s
    else if s.frozen then sendIdle port s
    else
      let s := onlyIf (s.creditsMoved port) (reportCredits port) s
      let q := s.port port
      if !q.control.isEmpty then sendControl port s
      else match q.replaying with
        | some n => sendReplay port n s
        | none =>
          if s.compact port || decide (q.outN < 2047) then sendData port s
          else
            -- a flit slot lasts 1.28 ns, 2.56 ns at width 4 (R131)
            let t := q.stall + (if q.txWidth = 4 then 256 else 128)
            sendIdle port (bumpBy .windowStallNs port (t / 100) (setPort port (fun q => { q with stall := t % 100 }) s)))

/-! ### The link layer's timers (R127, R130, R136, R138, R139) -/

/-- Whether the link layer of a port acts: the port is Active and its die not frozen. -/
def State.linkActs (s : State) (port : Nat) : Bool := !s.frozen && (s.port port).st == .active

/-- NAK_TIMER (R127). -/
def execNakTimer (port : Nat) (s : State) : Host.Outcome State Fault Refusal :=
  .next (onlyIf (s.linkActs port && (s.port port).nakPending && !s.compact port) (sendNak port) s)

/-- REPLAY_TIMEOUT (R130). -/
def execReplayTimeout (port : Nat) (s : State) : Host.Outcome State Fault Refusal :=
  .next (onlyIf (s.linkActs port && (s.port port).outN != 0 && !s.compact port) (fun s => startReplay port (s.port port).base s) s)

/-- OLDEST_FLIT_TIMEOUT (R139, R644 row 4). -/
def execOldestFlitTimeout (port : Nat) (s : State) : Host.Outcome State Fault Refusal :=
  .next (onlyIf (s.linkActs port && (s.port port).outN != 0 && !s.compact port) (fun s => retrainTrigger port 2 (timeoutFired 4 4 port 0 s)) s)

/-- CREDIT_REPORT_TIMER (R136). -/
def execCreditReportTimer (port : Nat) (s : State) : Host.Outcome State Fault Refusal :=
  .next (onlyIf (s.linkActs port) (reportCredits port) s)

/-- CHARGED_REPORT_TIMER (R138). -/
def execChargedReportTimer (port : Nat) (s : State) : Host.Outcome State Fault Refusal :=
  .next (onlyIf (s.linkActs port && s.compact port) (fun s =>
    queueRecord port (leBytes 16 5) (queueRecord port (leBytes 16 4) s)) s)

end Sys2Proof.Machine
end

