-- ==== Sys2Proof/Machine/Mgmt.lean ====
section
/-!
DEFINITION. Machine/Mgmt.lean: the management lane (R656, R680): Ethernet II frames without their FCS, answered as ARP, ICMP, NDP or
ICMPv6, taken as KODP over UDP, or discarded.  The formats of these protocols are those of their RFCs (log 74).
-/
namespace Sys2Proof.Machine

/-! ### Network byte order -/

/-- The number a byte string spells, most significant byte first. -/
def beNat (l : List Byte) : Nat := leNat l.reverse
/-- A number as `n` bytes, most significant first. -/
def beBytes (n v : Nat) : List Byte := (leBytes n v).reverse
/-- A field of a frame. -/
def beField (b : List Byte) (lo n : Nat) : Nat := beNat ((b.drop lo).take n)

/-- The sum of the 16-bit words of some bytes, an odd one padded with a zero. -/
def wordSum : List Byte → Nat
  | a :: b :: t => a.toNat * 256 + b.toNat + wordSum t
  | [a] => a.toNat * 256
  | [] => 0
/-- The Internet checksum of some bytes (log 74). -/
def inetSum (l : List Byte) : Nat :=
  let n := wordSum l
  let n := n % 65536 + n / 65536
  65535 - (n % 65536 + n / 65536) % 65536

/-! ### Addresses (R656) -/

/-- The MAC address from fuses. -/
def ourMac : List Byte := leBytes 6 (Config.fuse 1)
/-- The link-local address. -/
def State.linkLocal (s : State) : Nat := 0xFE80 * 2 ^ 112 + 0x100 + s.kodpAddr
/-- The global address, 0 for none: MGMT_IPV6's octets in their order. -/
def State.globalV6 (s : State) : Nat := beNat (leBytes 16 (s.obj .mgmtIpv6))
/-- Whether an IPv6 address is one of ours, in use. -/
def State.ourV6 (s : State) (a : Nat) : Bool := a != 0 && (a == s.linkLocal || a == s.globalV6) && !s.kodp.conflicts.contains a
/-- Our IPv4 address: MGMT_IPV4, or 169.254.71.(16 + n). -/
def State.ourV4 (s : State) : Nat :=
  let v := s.obj .mgmtIpv4
  if v = 0 then 169 * 2 ^ 24 + 254 * 2 ^ 16 + 71 * 2 ^ 8 + 16 + s.kodpAddr else v
/-- The solicited-node multicast address of an IPv6 address (log 74). -/
def solicited (a : Nat) : Nat := 0xFF02 * 2 ^ 112 + 0x1FF * 2 ^ 24 + a % 2 ^ 24

/-! ### Answers -/

/-- An Ethernet II frame from our MAC. -/
def etherFrame (dst : List Byte) (type : Nat) (payload : List Byte) : List Byte := dst ++ ourMac ++ beBytes 2 type ++ payload

/-- An IPv4 packet of a protocol, its header checksum filled in; DF is set, because the Varisk sends no fragments. -/
def ipv4 (src dst proto : Nat) (payload : List Byte) : List Byte :=
  let h (c : Nat) : List Byte := beBytes 2 0x4500 ++ beBytes 2 (20 + payload.length) ++ beBytes 4 0x4000 ++ beBytes 1 64 ++ beBytes 1 proto ++ beBytes 2 c ++ beBytes 4 src ++ beBytes 4 dst
  h (inetSum (h 0)) ++ payload

/-- The pseudo-header of IPv6. -/
def pseudoV6 (src dst len next : Nat) : List Byte := beBytes 16 src ++ beBytes 16 dst ++ beBytes 4 len ++ beBytes 4 next

/-- An ICMPv6 packet: type, code and the rest, its checksum filled in. -/
def icmpv6 (src dst hop type : Nat) (rest : List Byte) : List Byte :=
  let b (c : Nat) : List Byte := beBytes 1 type ++ [0] ++ beBytes 2 c ++ rest
  let n := 4 + rest.length
  beBytes 4 (6 * 2 ^ 28) ++ beBytes 2 n ++ beBytes 1 58 ++ beBytes 1 hop ++ beBytes 16 src ++ beBytes 16 dst ++ b (inetSum (pseudoV6 src dst n 58 ++ b 0))

/-- A neighbour advertisement for one of our addresses: solicited to the asker, or to all nodes where the asker has no address. -/
def neighbourAdvert (target asker : Nat) (mac : List Byte) : List Byte :=
  let all := asker == 0
  let dst := if all then 0xFF02 * 2 ^ 112 + 1 else asker
  etherFrame (if all then beBytes 6 0x333300000001 else mac) 0x86DD
    (icmpv6 target dst 255 136 (beBytes 4 (if all then 0xA0000000 else 0xE0000000) ++ beBytes 16 target ++ [2, 1] ++ ourMac))

/-! ### Frames -/

/-- A frame that R656 and R680 discard and count. -/
def discardFrame (s : State) : State := bump .kDiscardedFrames 1 s

/-- A UDP datagram: KODP on port 47131, or discarded (R656, R680). -/
def takeUdp (srcAddr : Nat) (b : List Byte) (s : State) : State :=
  let len := beField b 4 2
  if b.length < 8 ∨ len < 8 ∨ len > b.length then s
  else if beField b 2 2 ≠ 47131 then discardFrame s
  else takeHeaded { transport := .udp, addr := srcAddr, port := beField b 0 2, session := none } ((b.take len).drop 8) s

/-- An ARP packet: a request for our IPv4 address is answered (R656). -/
def takeArp (b : List Byte) (s : State) : State :=
  if beField b 0 8 = 0x0001080006040001 ∧ b.length ≥ 28 ∧ beField b 24 4 = s.ourV4 then
    emit (.ethernet 1 (etherFrame ((b.drop 8).take 6) 0x0806
      (beBytes 8 0x0001080006040002 ++ ourMac ++ beBytes 4 s.ourV4 ++ (b.drop 8).take 10))) s
  else s

/-- An IPv4 packet (R656): fragments are discarded and counted. -/
def takeIpv4 (mac b : List Byte) (s : State) : State :=
  let ihl := 4 * (beField b 0 1 % 16)
  let total := beField b 2 2
  let src := beField b 12 4
  if b.length < 20 ∨ beField b 0 1 / 16 ≠ 4 ∨ ihl < 20 ∨ total < ihl ∨ total > b.length ∨ inetSum (b.take ihl) ≠ 0 ∨ beField b 16 4 ≠ s.ourV4 then s
  else if beField b 6 2 % 0x4000 ≠ 0 then discardFrame s
  else
    let d := (b.take total).drop ihl
    let sum := inetSum (beBytes 4 src ++ beBytes 4 s.ourV4 ++ beBytes 2 17 ++ beBytes 2 d.length ++ d)
    match beField b 9 1 with
    | 1 =>
      if beField d 0 2 = 0x0800 ∧ d.length ≥ 8 ∧ inetSum d = 0 then
        let r (c : Nat) : List Byte := beBytes 2 0 ++ beBytes 2 c ++ d.drop 4
        emit (.ethernet 2 (etherFrame mac 0x0800 (ipv4 s.ourV4 src 1 (r (inetSum (r 0)))))) s
      else s
    | 17 => if beField d 6 2 = 0 ∨ sum = 0 then takeUdp src d s else s
    | _ => s

/-- A neighbour solicitation or advertisement (R656): ours are answered; another node's claim to one of our addresses is a conflict. -/
def takeNdp (src : Nat) (mac d : List Byte) (s : State) : State :=
  let target := beField d 8 16
  if !s.ourV6 target || decide (d.length < 24) then s
  else if beField d 0 1 = 135 then emit (.ethernet 3 (neighbourAdvert target src mac)) s
  else bump .kAddressConflicts 1 (s.onKodp (fun k => { k with conflicts := k.conflicts ++ [target] }))

/-- An IPv6 packet (R656). -/
def takeIpv6 (mac b : List Byte) (s : State) : State :=
  let len := beField b 4 2
  let next := beField b 6 1
  let src := beField b 8 16
  let dst := beField b 24 16
  let ours := s.ourV6 dst
  let group := dst == 0xFF02 * 2 ^ 112 + 1 || [s.linkLocal, s.globalV6].any (fun a => a != 0 && dst == solicited a)
  if b.length < 40 ∨ beField b 0 1 / 16 ≠ 6 ∨ 40 + len > b.length ∨ !(ours || group) then s
  else if next = 44 then discardFrame s
  else
    let d := (b.drop 40).take len
    if inetSum (pseudoV6 src dst len next ++ d) ≠ 0 then s
    else if next = 17 ∧ ours = true then takeUdp src d s
    else if next = 58 then
      let type := beField d 0 1
      if type = 128 ∧ ours = true ∧ d.length ≥ 8 then emit (.ethernet 4 (etherFrame mac 0x86DD (icmpv6 dst src 64 129 (d.drop 4)))) s
      else if (type = 135 ∨ type = 136) ∧ beField b 7 1 = 255 then takeNdp src mac d s
      else s
    else s

/-- MGMT_FRAME (R656): a frame addressed to our MAC or to a group, on a lane that is up, while Baker runs. -/
def execMgmtFrame (frame : List Byte) (s : State) : Host.Outcome State Fault Refusal :=
  .next (if !s.link.mgmtLink || !s.bakerUp || decide (frame.length < 14) || decide (frame.length > 1514) then s
    else if frame.take 6 ≠ ourMac ∧ beField frame 0 1 % 2 = 0 then s
    else
      let mac := (frame.drop 6).take 6
      let b := frame.drop 14
      match beField frame 12 2 with
      | 0x8100 => discardFrame s
      | 0x0806 => takeArp b s
      | 0x0800 => takeIpv4 mac b s
      | 0x86DD => takeIpv6 mac b s
      | _ => s)

end Sys2Proof.Machine
end

