-- ==== Sys2Proof/Machine/Dispatch.lean ====
section
/-!
DEFINITION. Machine/Dispatch.lean: the one match from a command to its meaning.
-/
namespace Sys2Proof.Machine

def exec (i : Instr) (s : State) : Host.Outcome State Fault Refusal :=
  match i with
  | .poresetAssert => Sys2Proof.Machine.execPoresetAssert s
  | .strapSample s1 s2 s3 => Sys2Proof.Machine.execStrapSample s1 s2 s3 s
  | .warmresetAssert => Sys2Proof.Machine.execWarmresetAssert s
  | .warmresetShort => Sys2Proof.Machine.execWarmresetShort s
  | .warmresetStart => Sys2Proof.Machine.execWarmresetStart s
  | .brownOut rail => Sys2Proof.Machine.execBrownOut rail s
  | .refclkLoss => Sys2Proof.Machine.execRefclkLoss s
  | .thermalSample readings => Sys2Proof.Machine.execThermalSample readings s
  | .thermtrip kind idx => Sys2Proof.Machine.execThermtrip kind idx s
  | .powerStepAck level => Sys2Proof.Machine.execPowerStepAck level s
  | .powerStepStart => Sys2Proof.Machine.execPowerStepStart s
  | .stepAckMissing => Sys2Proof.Machine.execStepAckMissing s
  | .stepAckStuck => Sys2Proof.Machine.execStepAckStuck s
  | .holdupSample level => Sys2Proof.Machine.execHoldupSample level s
  | .kslWriteFrame addr len msg crc => Sys2Proof.Machine.execKslWriteFrame addr len msg crc s
  | .kslReadFrame addr => Sys2Proof.Machine.execKslReadFrame addr s
  | .kslFrameTimeout => Sys2Proof.Machine.execKslFrameTimeout s
  | .debugHoldTimeout => Sys2Proof.Machine.execDebugHoldTimeout s
  | .bakerBootComplete => Sys2Proof.Machine.execBakerBootComplete s
  | .laserInputLow engine => Sys2Proof.Machine.execLaserInputLow engine s
  | .laserInputsDark engine => Sys2Proof.Machine.execLaserInputsDark engine s
  | .laserInputRestored engine input => Sys2Proof.Machine.execLaserInputRestored engine input s
  | .laserLow engine input => Sys2Proof.Machine.execLaserLow engine input s
  | .lockstepDisagreement die => Sys2Proof.Machine.execLockstepDisagreement die s
  | .laneLos port lane => Sys2Proof.Machine.execLaneLos port lane s
  | .laneSignalRestored port lane => Sys2Proof.Machine.execLaneSignalRestored port lane s
  | .portDark port => Sys2Proof.Machine.execPortDark port s
  | .detectLit port => Sys2Proof.Machine.execDetectLit port s
  | .lcbReceived port lane lcb => Sys2Proof.Machine.execLcbReceived port lane lcb s
  | .trainComplete port => Sys2Proof.Machine.execTrainComplete port s
  | .trainTimeout port => Sys2Proof.Machine.execTrainTimeout port s
  | .retrainComplete port => Sys2Proof.Machine.execRetrainComplete port s
  | .retrainTimeout port => Sys2Proof.Machine.execRetrainTimeout port s
  | .downHoldExpiry port => Sys2Proof.Machine.execDownHoldExpiry port s
  | .flitReceived port flit => Sys2Proof.Machine.execFlitReceived port flit s
  | .flitSend port => Sys2Proof.Machine.execFlitSend port s
  | .nakTimer port => Sys2Proof.Machine.execNakTimer port s
  | .replayTimeout port => Sys2Proof.Machine.execReplayTimeout port s
  | .oldestFlitTimeout port => Sys2Proof.Machine.execOldestFlitTimeout port s
  | .creditReportTimer port => Sys2Proof.Machine.execCreditReportTimer port s
  | .chargedReportTimer port => Sys2Proof.Machine.execChargedReportTimer port s
  | .timeSyncSend port => Sys2Proof.Machine.execTimeSyncSend port s
  | .portEnable r port => Sys2Proof.Machine.execPortEnable r port s
  | .portDisable r port => Sys2Proof.Machine.execPortDisable r port s
  | .portRetrain r port => Sys2Proof.Machine.execPortRetrain r port s
  | .portLaneRestore r port => Sys2Proof.Machine.execPortLaneRestore r port s
  | .attach port p => Sys2Proof.Machine.execAttach port p s
  | .heartbeat port p => Sys2Proof.Machine.execHeartbeat port p s
  | .detach port p => Sys2Proof.Machine.execDetach port p s
  | .detachComplete slot => Sys2Proof.Machine.execDetachComplete slot s
  | .leaseExpiry slot => Sys2Proof.Machine.execLeaseExpiry slot s
  | .partnerLossWalkDone slot => Sys2Proof.Machine.execPartnerLossWalkDone slot s
  | .quarantineExpiry slot => Sys2Proof.Machine.execQuarantineExpiry slot s
  | .e2eNak port p => Sys2Proof.Machine.execE2eNak port p s
  | .announce port p => Sys2Proof.Machine.execAnnounce port p s
  | .rdShared port p => Sys2Proof.Machine.execRdShared port p s
  | .rdUnique port p => Sys2Proof.Machine.execRdUnique port p s
  | .rdOnce port p => Sys2Proof.Machine.execRdOnce port p s
  | .wrLine port p => Sys2Proof.Machine.execWrLine port p s
  | .wrPart port p => Sys2Proof.Machine.execWrPart port p s
  | .writeback port p => Sys2Proof.Machine.execWriteback port p s
  | .evictClean port p => Sys2Proof.Machine.execEvictClean port p s
  | .upgrade port p => Sys2Proof.Machine.execUpgrade port p s
  | .atomic port p => Sys2Proof.Machine.execAtomic port p s
  | .wrData port p => Sys2Proof.Machine.execWrData port p s
  | .wbData port p => Sys2Proof.Machine.execWbData port p s
  | .snpData port p => Sys2Proof.Machine.execSnpData port p s
  | .atomicOpnd port p => Sys2Proof.Machine.execAtomicOpnd port p s
  | .snpRsp port p => Sys2Proof.Machine.execSnpRsp port p s
  | .crossed port p => Sys2Proof.Machine.execCrossed port p s
  | .stashRsp port p => Sys2Proof.Machine.execStashRsp port p s
  | .rtRead port p => Sys2Proof.Machine.execRtRead port p s
  | .recipeCancel port p => Sys2Proof.Machine.execRecipeCancel port p s
  | .requestOrdered src tag => Sys2Proof.Machine.execRequestOrdered src tag s
  | .recallDeadline line => Sys2Proof.Machine.execRecallDeadline line s
  | .parkedPresent line => Sys2Proof.Machine.execParkedPresent line s
  | .pairingTimeout src tag => Sys2Proof.Machine.execPairingTimeout src tag s
  | .requestWithdraw src tag => Sys2Proof.Machine.execRequestWithdraw src tag s
  | .unroutableTimeout dest => Sys2Proof.Machine.execUnroutableTimeout dest s
  | .poolRequestTimeout dest tag => Sys2Proof.Machine.execPoolRequestTimeout dest tag s
  | .poolResend dest tag => Sys2Proof.Machine.execPoolResend dest tag s
  | .genSettleRecheck src tag expired => Sys2Proof.Machine.execGenSettleRecheck src tag expired s
  | .ctxInvalidate r ctx gen => Sys2Proof.Machine.execCtxInvalidate r ctx gen s
  | .recallRange r pa length => Sys2Proof.Machine.execRecallRange r pa length s
  | .partnerEvict r slot => Sys2Proof.Machine.execPartnerEvict r slot s
  | .fqOverflowClear r ctx => Sys2Proof.Machine.execFqOverflowClear r ctx s
  | .directoryLookup r pa => Sys2Proof.Machine.execDirectoryLookup r pa s
  | .dramCommandSlot channel pseudo => Sys2Proof.Machine.execDramCommandSlot channel pseudo s
  | .dramDataReturn channel id errors => Sys2Proof.Machine.execDramDataReturn channel id errors s
  | .refreshInterval channel pseudo bank => Sys2Proof.Machine.execRefreshInterval channel pseudo bank s
  | .dramCommandTimeout channel id => Sys2Proof.Machine.execDramCommandTimeout channel id s
  | .channelRetrainDone channel ok => Sys2Proof.Machine.execChannelRetrainDone channel ok s
  | .panicCap channel mirror => Sys2Proof.Machine.execPanicCap channel mirror s
  | .panicResume channel mirror => Sys2Proof.Machine.execPanicResume channel mirror s
  | .driftTrack channel => Sys2Proof.Machine.execDriftTrack channel s
  | .channelRetrain r channel => Sys2Proof.Machine.execChannelRetrain r channel s
  | .dtInfoData port p => Sys2Proof.Machine.execDtInfoData port p s
  | .dtReadData port p => Sys2Proof.Machine.execDtReadData port p s
  | .dtCmp port p => Sys2Proof.Machine.execDtCmp port p s
  | .deepMissingUnits cluster set way => Sys2Proof.Machine.execDeepMissingUnits cluster set way s
  | .dirtyAgeExpiry cluster set way => Sys2Proof.Machine.execDirtyAgeExpiry cluster set way s
  | .deepWaitResume cluster => Sys2Proof.Machine.execDeepWaitResume cluster s
  | .sledWaitTimeout sled => Sys2Proof.Machine.execSledWaitTimeout sled s
  | .deepPin r pa length => Sys2Proof.Machine.execDeepPin r pa length s
  | .deepUnpin r pa length => Sys2Proof.Machine.execDeepUnpin r pa length s
  | .deepPrefetch r pa length => Sys2Proof.Machine.execDeepPrefetch r pa length s
  | .deepFlush r sled => Sys2Proof.Machine.execDeepFlush r sled s
  | .deepTrim r pa length => Sys2Proof.Machine.execDeepTrim r pa length s
  | .sledClaimForce r sled => Sys2Proof.Machine.execSledClaimForce r sled s
  | .scrubLine pa => Sys2Proof.Machine.execScrubLine pa s
  | .rowRepair channel pseudo bank row => Sys2Proof.Machine.execRowRepair channel pseudo bank row s
  | .bankRepairDone channel pseudo bank => Sys2Proof.Machine.execBankRepairDone channel pseudo bank s
  | .decoderSelftestHourly channel ok => Sys2Proof.Machine.execDecoderSelftestHourly channel ok s
  | .errorLogClear r => Sys2Proof.Machine.execErrorLogClear r s
  | .deepSetRelease r cluster set => Sys2Proof.Machine.execDeepSetRelease r cluster set s
  | .poisonInject r pa => Sys2Proof.Machine.execPoisonInject r pa s
  | .fill port p => Sys2Proof.Machine.execFill port p s
  | .copy port p => Sys2Proof.Machine.execCopy port p s
  | .compare port p => Sys2Proof.Machine.execCompare port p s
  | .reduce port p => Sys2Proof.Machine.execReduce port p s
  | .gatherReduce port p => Sys2Proof.Machine.execGatherReduce port p s
  | .scatterAdd port p => Sys2Proof.Machine.execScatterAdd port p s
  | .allreduceStage port p => Sys2Proof.Machine.execAllreduceStage port p s
  | .optimStep port p => Sys2Proof.Machine.execOptimStep port p s
  | .kvSelect port p => Sys2Proof.Machine.execKvSelect port p s
  | .deltaPack port p => Sys2Proof.Machine.execDeltaPack port p s
  | .digest port p => Sys2Proof.Machine.execDigest port p s
  | .publish port p => Sys2Proof.Machine.execPublish port p s
  | .kernel port p => Sys2Proof.Machine.execKernel port p s
  | .sugarQueueServe => Sys2Proof.Machine.execSugarQueueServe s
  | .grantRenewal recipe => Sys2Proof.Machine.execGrantRenewal recipe s
  | .grantEnd kind key => Sys2Proof.Machine.execGrantEnd kind key s
  | .grantRampDone kind key => Sys2Proof.Machine.execGrantRampDone kind key s
  | .ballastHoldExpiry => Sys2Proof.Machine.execBallastHoldExpiry s
  | .admissionLimitTimeout recipe => Sys2Proof.Machine.execAdmissionLimitTimeout recipe s
  | .tileDispatch recipe => Sys2Proof.Machine.execTileDispatch recipe s
  | .coreSteal core => Sys2Proof.Machine.execCoreSteal core s
  | .tileCheck core => Sys2Proof.Machine.execTileCheck core s
  | .tileCommit core residue => Sys2Proof.Machine.execTileCommit core residue s
  | .recipeEnd recipe => Sys2Proof.Machine.execRecipeEnd recipe s
  | .allreduceDeadline recipe => Sys2Proof.Machine.execAllreduceDeadline recipe s
  | .recipeAbort r slot tag => Sys2Proof.Machine.execRecipeAbort r slot tag s
  | .kernelTileStart core => Sys2Proof.Machine.execKernelTileStart core s
  | .poolAccessReturn core thread n failed => Sys2Proof.Machine.execPoolAccessReturn core thread n failed s
  | .instructionWatchdog core thread => Sys2Proof.Machine.execInstructionWatchdog core thread s
  | .coreTileTimeout core => Sys2Proof.Machine.execCoreTileTimeout core s
  | .accessTimeout core thread n => Sys2Proof.Machine.execAccessTimeout core thread n s
  | .nop core thread => Sys2Proof.Machine.execNop core thread s
  | .texit core thread => Sys2Proof.Machine.execTexit core thread s
  | .trap core thread rs1 => Sys2Proof.Machine.execTrap core thread rs1 s
  | .fence core thread => Sys2Proof.Machine.execFence core thread s
  | .bar core thread => Sys2Proof.Machine.execBar core thread s
  | .barf core thread => Sys2Proof.Machine.execBarf core thread s
  | .tres core thread rs1 => Sys2Proof.Machine.execTres core thread rs1 s
  | .time core thread rd => Sys2Proof.Machine.execTime core thread rd s
  | .xpois core thread rd rs1 => Sys2Proof.Machine.execXpois core thread rd rs1 s
  | .vpois core thread rd rs1 => Sys2Proof.Machine.execVpois core thread rd rs1 s
  | .apois core thread rd rs1 => Sys2Proof.Machine.execApois core thread rd rs1 s
  | .pset core thread rd rs1 => Sys2Proof.Machine.execPset core thread rd rs1 s
  | .pget core thread rd rs1 => Sys2Proof.Machine.execPget core thread rd rs1 s
  | .aluAdd core thread rd rs1 rs2 => Sys2Proof.Machine.execAluAdd core thread rd rs1 rs2 s
  | .aluSub core thread rd rs1 rs2 => Sys2Proof.Machine.execAluSub core thread rd rs1 rs2 s
  | .aluMul core thread rd rs1 rs2 => Sys2Proof.Machine.execAluMul core thread rd rs1 rs2 s
  | .aluMulh core thread rd rs1 rs2 => Sys2Proof.Machine.execAluMulh core thread rd rs1 rs2 s
  | .aluMulhu core thread rd rs1 rs2 => Sys2Proof.Machine.execAluMulhu core thread rd rs1 rs2 s
  | .aluDiv core thread rd rs1 rs2 => Sys2Proof.Machine.execAluDiv core thread rd rs1 rs2 s
  | .aluDivu core thread rd rs1 rs2 => Sys2Proof.Machine.execAluDivu core thread rd rs1 rs2 s
  | .aluRem core thread rd rs1 rs2 => Sys2Proof.Machine.execAluRem core thread rd rs1 rs2 s
  | .aluRemu core thread rd rs1 rs2 => Sys2Proof.Machine.execAluRemu core thread rd rs1 rs2 s
  | .aluAnd core thread rd rs1 rs2 => Sys2Proof.Machine.execAluAnd core thread rd rs1 rs2 s
  | .aluOr core thread rd rs1 rs2 => Sys2Proof.Machine.execAluOr core thread rd rs1 rs2 s
  | .aluXor core thread rd rs1 rs2 => Sys2Proof.Machine.execAluXor core thread rd rs1 rs2 s
  | .aluSll core thread rd rs1 rs2 => Sys2Proof.Machine.execAluSll core thread rd rs1 rs2 s
  | .aluSrl core thread rd rs1 rs2 => Sys2Proof.Machine.execAluSrl core thread rd rs1 rs2 s
  | .aluSra core thread rd rs1 rs2 => Sys2Proof.Machine.execAluSra core thread rd rs1 rs2 s
  | .aluSlt core thread rd rs1 rs2 => Sys2Proof.Machine.execAluSlt core thread rd rs1 rs2 s
  | .aluSltu core thread rd rs1 rs2 => Sys2Proof.Machine.execAluSltu core thread rd rs1 rs2 s
  | .aluMin core thread rd rs1 rs2 => Sys2Proof.Machine.execAluMin core thread rd rs1 rs2 s
  | .aluMax core thread rd rs1 rs2 => Sys2Proof.Machine.execAluMax core thread rd rs1 rs2 s
  | .aluMinu core thread rd rs1 rs2 => Sys2Proof.Machine.execAluMinu core thread rd rs1 rs2 s
  | .aluMaxu core thread rd rs1 rs2 => Sys2Proof.Machine.execAluMaxu core thread rd rs1 rs2 s
  | .addi core thread rd rs1 imm => Sys2Proof.Machine.execAddi core thread rd rs1 imm s
  | .andi core thread rd rs1 imm => Sys2Proof.Machine.execAndi core thread rd rs1 imm s
  | .ori core thread rd rs1 imm => Sys2Proof.Machine.execOri core thread rd rs1 imm s
  | .xori core thread rd rs1 imm => Sys2Proof.Machine.execXori core thread rd rs1 imm s
  | .shiSll core thread rd rs1 sh => Sys2Proof.Machine.execShiSll core thread rd rs1 sh s
  | .shiSrl core thread rd rs1 sh => Sys2Proof.Machine.execShiSrl core thread rd rs1 sh s
  | .shiSra core thread rd rs1 sh => Sys2Proof.Machine.execShiSra core thread rd rs1 sh s
  | .slti core thread rd rs1 imm => Sys2Proof.Machine.execSlti core thread rd rs1 imm s
  | .lui core thread rd imm => Sys2Proof.Machine.execLui core thread rd imm s
  | .beq core thread rs1 rs2 off => Sys2Proof.Machine.execBeq core thread rs1 rs2 off s
  | .bne core thread rs1 rs2 off => Sys2Proof.Machine.execBne core thread rs1 rs2 off s
  | .blt core thread rs1 rs2 off => Sys2Proof.Machine.execBlt core thread rs1 rs2 off s
  | .bge core thread rs1 rs2 off => Sys2Proof.Machine.execBge core thread rs1 rs2 off s
  | .bltu core thread rs1 rs2 off => Sys2Proof.Machine.execBltu core thread rs1 rs2 off s
  | .bgeu core thread rs1 rs2 off => Sys2Proof.Machine.execBgeu core thread rs1 rs2 off s
  | .jal core thread rd imm => Sys2Proof.Machine.execJal core thread rd imm s
  | .jalr core thread rd rs1 imm => Sys2Proof.Machine.execJalr core thread rd rs1 imm s
  | .pbr core thread pr cond off => Sys2Proof.Machine.execPbr core thread pr cond off s
  | .tld core thread rt rb size imm => Sys2Proof.Machine.execTld core thread rt rb size imm s
  | .tlds core thread rt rb size imm => Sys2Proof.Machine.execTlds core thread rt rb size imm s
  | .tst core thread rt rb size imm => Sys2Proof.Machine.execTst core thread rt rb size imm s
  | .vtld core thread vt rb imm => Sys2Proof.Machine.execVtld core thread vt rb imm s
  | .vtst core thread vt rb pred imm => Sys2Proof.Machine.execVtst core thread vt rb pred imm s
  | .tamo core thread rd rs1 rs2 subop => Sys2Proof.Machine.execTamo core thread rd rs1 rs2 subop s
  | .pld core thread rt rb size imm => Sys2Proof.Machine.execPld core thread rt rb size imm s
  | .plds core thread rt rb size imm => Sys2Proof.Machine.execPlds core thread rt rb size imm s
  | .pst core thread rt rb size imm => Sys2Proof.Machine.execPst core thread rt rb size imm s
  | .vpld core thread vt rb imm => Sys2Proof.Machine.execVpld core thread vt rb imm s
  | .vpst core thread vt rb pred imm => Sys2Proof.Machine.execVpst core thread vt rb pred imm s
  | .pamo core thread rd rs1 rs2 subop => Sys2Proof.Machine.execPamo core thread rd rs1 rs2 subop s
  | .lswap core thread vn vc rb => Sys2Proof.Machine.execLswap core thread vn vc rb s
  | .lcas core thread vn vc rb pd => Sys2Proof.Machine.execLcas core thread vn vc rb pd s
  | .vpld2 core thread vt rb imm => Sys2Proof.Machine.execVpld2 core thread vt rb imm s
  | .vpst2 core thread vt rb imm => Sys2Proof.Machine.execVpst2 core thread vt rb imm s
  | .varithAdd core thread vd vs1 vs2 pred fmt => Sys2Proof.Machine.execVarithAdd core thread vd vs1 vs2 pred fmt s
  | .varithSub core thread vd vs1 vs2 pred fmt => Sys2Proof.Machine.execVarithSub core thread vd vs1 vs2 pred fmt s
  | .varithMul core thread vd vs1 vs2 pred fmt => Sys2Proof.Machine.execVarithMul core thread vd vs1 vs2 pred fmt s
  | .varithMin core thread vd vs1 vs2 pred fmt => Sys2Proof.Machine.execVarithMin core thread vd vs1 vs2 pred fmt s
  | .varithMax core thread vd vs1 vs2 pred fmt => Sys2Proof.Machine.execVarithMax core thread vd vs1 vs2 pred fmt s
  | .varithAbs core thread vd vs1 pred fmt => Sys2Proof.Machine.execVarithAbs core thread vd vs1 pred fmt s
  | .varithNeg core thread vd vs1 pred fmt => Sys2Proof.Machine.execVarithNeg core thread vd vs1 pred fmt s
  | .varithAnd core thread vd vs1 vs2 pred fmt => Sys2Proof.Machine.execVarithAnd core thread vd vs1 vs2 pred fmt s
  | .varithOr core thread vd vs1 vs2 pred fmt => Sys2Proof.Machine.execVarithOr core thread vd vs1 vs2 pred fmt s
  | .varithXor core thread vd vs1 vs2 pred fmt => Sys2Proof.Machine.execVarithXor core thread vd vs1 vs2 pred fmt s
  | .varithShl core thread vd vs1 vs2 pred fmt => Sys2Proof.Machine.execVarithShl core thread vd vs1 vs2 pred fmt s
  | .varithShr core thread vd vs1 vs2 pred fmt => Sys2Proof.Machine.execVarithShr core thread vd vs1 vs2 pred fmt s
  | .varithSar core thread vd vs1 vs2 pred fmt => Sys2Proof.Machine.execVarithSar core thread vd vs1 vs2 pred fmt s
  | .varithDiv core thread vd vs1 vs2 pred fmt => Sys2Proof.Machine.execVarithDiv core thread vd vs1 vs2 pred fmt s
  | .varithSqrt core thread vd vs1 pred fmt => Sys2Proof.Machine.execVarithSqrt core thread vd vs1 pred fmt s
  | .fma core thread vd vs1 vs2 pred fmt => Sys2Proof.Machine.execFma core thread vd vs1 vs2 pred fmt s
  | .fms core thread vd vs1 vs2 pred fmt => Sys2Proof.Machine.execFms core thread vd vs1 vs2 pred fmt s
  | .fnma core thread vd vs1 vs2 pred fmt => Sys2Proof.Machine.execFnma core thread vd vs1 vs2 pred fmt s
  | .vcmpEq core thread pd vs1 vs2 pred fmt => Sys2Proof.Machine.execVcmpEq core thread pd vs1 vs2 pred fmt s
  | .vcmpNe core thread pd vs1 vs2 pred fmt => Sys2Proof.Machine.execVcmpNe core thread pd vs1 vs2 pred fmt s
  | .vcmpLt core thread pd vs1 vs2 pred fmt => Sys2Proof.Machine.execVcmpLt core thread pd vs1 vs2 pred fmt s
  | .vcmpLe core thread pd vs1 vs2 pred fmt => Sys2Proof.Machine.execVcmpLe core thread pd vs1 vs2 pred fmt s
  | .vcmpGt core thread pd vs1 vs2 pred fmt => Sys2Proof.Machine.execVcmpGt core thread pd vs1 vs2 pred fmt s
  | .vcmpGe core thread pd vs1 vs2 pred fmt => Sys2Proof.Machine.execVcmpGe core thread pd vs1 vs2 pred fmt s
  | .vcmpUnord core thread pd vs1 vs2 pred fmt => Sys2Proof.Machine.execVcmpUnord core thread pd vs1 vs2 pred fmt s
  | .vcmpLtu core thread pd vs1 vs2 pred fmt => Sys2Proof.Machine.execVcmpLtu core thread pd vs1 vs2 pred fmt s
  | .vcmpGeu core thread pd vs1 vs2 pred fmt => Sys2Proof.Machine.execVcmpGeu core thread pd vs1 vs2 pred fmt s
  | .vcvt core thread vd vs1 part pred fmt fmtTo => Sys2Proof.Machine.execVcvt core thread vd vs1 part pred fmt fmtTo s
  | .vmov core thread vd vs1 pred fmt => Sys2Proof.Machine.execVmov core thread vd vs1 pred fmt s
  | .vperm core thread vd vs1 vs2 pred fmt => Sys2Proof.Machine.execVperm core thread vd vs1 vs2 pred fmt s
  | .vsel core thread vd vs1 vs2 pred fmt => Sys2Proof.Machine.execVsel core thread vd vs1 vs2 pred fmt s
  | .vbcast core thread vd xs pred fmt => Sys2Proof.Machine.execVbcast core thread vd xs pred fmt s
  | .vext core thread xd vs index fmt => Sys2Proof.Machine.execVext core thread xd vs index fmt s
  | .vins core thread vd xs index fmt => Sys2Proof.Machine.execVins core thread vd xs index fmt s
  | .vredAdd core thread xd vs pred fmt => Sys2Proof.Machine.execVredAdd core thread xd vs pred fmt s
  | .vredMin core thread xd vs pred fmt => Sys2Proof.Machine.execVredMin core thread xd vs pred fmt s
  | .vredMax core thread xd vs pred fmt => Sys2Proof.Machine.execVredMax core thread xd vs pred fmt s
  | .vredMinu core thread xd vs pred fmt => Sys2Proof.Machine.execVredMinu core thread xd vs pred fmt s
  | .vredMaxu core thread xd vs pred fmt => Sys2Proof.Machine.execVredMaxu core thread xd vs pred fmt s
  | .vredAnd core thread xd vs pred fmt => Sys2Proof.Machine.execVredAnd core thread xd vs pred fmt s
  | .vredOr core thread xd vs pred fmt => Sys2Proof.Machine.execVredOr core thread xd vs pred fmt s
  | .vredXor core thread xd vs pred fmt => Sys2Proof.Machine.execVredXor core thread xd vs pred fmt s
  | .aadd core thread ad vs1 xs pred fmt => Sys2Proof.Machine.execAadd core thread ad vs1 xs pred fmt s
  | .adot core thread ad vs1 vs2 xs pred fmt => Sys2Proof.Machine.execAdot core thread ad vs1 vs2 xs pred fmt s
  | .aclr core thread ad => Sys2Proof.Machine.execAclr core thread ad s
  | .amov core thread ad as_ => Sys2Proof.Machine.execAmov core thread ad as_ s
  | .amerge core thread ad as_ => Sys2Proof.Machine.execAmerge core thread ad as_ s
  | .aout core thread ad vr index fmt => Sys2Proof.Machine.execAout core thread ad vr index fmt s
  | .asave core thread ad xr => Sys2Proof.Machine.execAsave core thread ad xr s
  | .aload core thread ad xr => Sys2Proof.Machine.execAload core thread ad xr s
  | .kernelLoad r ctx addr len => Sys2Proof.Machine.execKernelLoad r ctx addr len s
  | .kernelUnload r handle => Sys2Proof.Machine.execKernelUnload r handle s
  | .twHello port p => Sys2Proof.Machine.execTwHello port p s
  | .twKeepalive port p => Sys2Proof.Machine.execTwKeepalive port p s
  | .twRelease port p => Sys2Proof.Machine.execTwRelease port p s
  | .mrAck port p => Sys2Proof.Machine.execMrAck port p s
  | .mrLine port p => Sys2Proof.Machine.execMrLine port p s
  | .mrState port p => Sys2Proof.Machine.execMrState port p s
  | .rsLines port p => Sys2Proof.Machine.execRsLines port p s
  | .rpReq port p => Sys2Proof.Machine.execRpReq port p s
  | .rpData port p => Sys2Proof.Machine.execRpData port p s
  | .hbReq port p => Sys2Proof.Machine.execHbReq port p s
  | .lampFrame lamp frame => Sys2Proof.Machine.execLampFrame lamp frame s
  | .lampFault lamp => Sys2Proof.Machine.execLampFault lamp s
  | .keepaliveSend => Sys2Proof.Machine.execKeepaliveSend s
  | .standbyKeepaliveLoss => Sys2Proof.Machine.execStandbyKeepaliveLoss s
  | .ownerKeepaliveLoss => Sys2Proof.Machine.execOwnerKeepaliveLoss s
  | .takeoverStart => Sys2Proof.Machine.execTakeoverStart s
  | .takeoverClaimDeadline => Sys2Proof.Machine.execTakeoverClaimDeadline s
  | .announceTimer => Sys2Proof.Machine.execAnnounceTimer s
  | .enrolRetry => Sys2Proof.Machine.execEnrolRetry s
  | .hbReqTimer => Sys2Proof.Machine.execHbReqTimer s
  | .quiesceBarrier => Sys2Proof.Machine.execQuiesceBarrier s
  | .quiesceWaitExpiry => Sys2Proof.Machine.execQuiesceWaitExpiry s
  | .handbackDrainTimeout => Sys2Proof.Machine.execHandbackDrainTimeout s
  | .releaseLampEnd => Sys2Proof.Machine.execReleaseLampEnd s
  | .releasingTimeout => Sys2Proof.Machine.execReleasingTimeout s
  | .forceArmExpiry => Sys2Proof.Machine.execForceArmExpiry s
  | .resyncSend stream => Sys2Proof.Machine.execResyncSend stream s
  | .twinEnableWrite r value => Sys2Proof.Machine.execTwinEnableWrite r value s
  | .twinForce r epoch => Sys2Proof.Machine.execTwinForce r epoch s
  | .twinForceCancel r => Sys2Proof.Machine.execTwinForceCancel r s
  | .twinHandover r => Sys2Proof.Machine.execTwinHandover r s
  | .twinQuiesce r => Sys2Proof.Machine.execTwinQuiesce r s
  | .refillTick => Sys2Proof.Machine.execRefillTick s
  | .holdLimitExpiry sub port vc => Sys2Proof.Machine.execHoldLimitExpiry sub port vc s
  | .queueSample => Sys2Proof.Machine.execQueueSample s
  | .histogramClear r slot => Sys2Proof.Machine.execHistogramClear r slot s
  | .powerSample rails => Sys2Proof.Machine.execPowerSample rails s
  | .governorTick => Sys2Proof.Machine.execGovernorTick s
  | .freqStep cluster => Sys2Proof.Machine.execFreqStep cluster s
  | .napAllowance => Sys2Proof.Machine.execNapAllowance s
  | .idleTimerExpiry unit => Sys2Proof.Machine.execIdleTimerExpiry unit s
  | .calendarWake unit => Sys2Proof.Machine.execCalendarWake unit s
  | .powerEntryDone unit => Sys2Proof.Machine.execPowerEntryDone unit s
  | .wakeRequest unit => Sys2Proof.Machine.execWakeRequest unit s
  | .wakeComplete unit => Sys2Proof.Machine.execWakeComplete unit s
  | .jobOpen r job tenant => Sys2Proof.Machine.execJobOpen r job tenant s
  | .jobClose r job => Sys2Proof.Machine.execJobClose r job s
  | .quietHint r clusters stackList stop => Sys2Proof.Machine.execQuietHint r clusters stackList stop s
  | .jobStepTimer r job first period lead clusters stackList => Sys2Proof.Machine.execJobStepTimer r job first period lead clusters stackList s
  | .getVersion r => Sys2Proof.Machine.execGetVersion r s
  | .getCapabilities r flags => Sys2Proof.Machine.execGetCapabilities r flags s
  | .negotiateAlgorithms r offered => Sys2Proof.Machine.execNegotiateAlgorithms r offered s
  | .getDigests r => Sys2Proof.Machine.execGetDigests r s
  | .getCertificate r slot offset length => Sys2Proof.Machine.execGetCertificate r slot offset length s
  | .challenge r slot nonce => Sys2Proof.Machine.execChallenge r slot nonce s
  | .getMeasurements r index nonce => Sys2Proof.Machine.execGetMeasurements r index nonce s
  | .keyExchange r exchange nonce => Sys2Proof.Machine.execKeyExchange r exchange nonce s
  | .finish r session sig signer => Sys2Proof.Machine.execFinish r session sig signer s
  | .spdmHeartbeat r session => Sys2Proof.Machine.execSpdmHeartbeat r session s
  | .keyUpdate r session => Sys2Proof.Machine.execKeyUpdate r session s
  | .endSession r session => Sys2Proof.Machine.execEndSession r session s
  | .spdmHeartbeatTimeout session => Sys2Proof.Machine.execSpdmHeartbeatTimeout session s
  | .tenantCreate r tenant key => Sys2Proof.Machine.execTenantCreate r tenant key s
  | .tenantRetire r tenant => Sys2Proof.Machine.execTenantRetire r tenant s
  | .tenantSeal r => Sys2Proof.Machine.execTenantSeal r s
  | .memKeySet r peerTenant keyId key => Sys2Proof.Machine.execMemKeySet r peerTenant keyId key s
  | .memKeyDestroy r peerTenant keyId => Sys2Proof.Machine.execMemKeyDestroy r peerTenant keyId s
  | .jobKeySet r peerTenant job gen key switchAt => Sys2Proof.Machine.execJobKeySet r peerTenant job gen key switchAt s
  | .jobBind r peerTenant job eids => Sys2Proof.Machine.execJobBind r peerTenant job eids s
  | .jobKeyDestroy r peerTenant job eid => Sys2Proof.Machine.execJobKeyDestroy r peerTenant job eid s
  | .kernelSignKeySet r peerTenant keyId key => Sys2Proof.Machine.execKernelSignKeySet r peerTenant keyId key s
  | .jobKeySwitch job => Sys2Proof.Machine.execJobKeySwitch job s
  | .jobKeyRetireOld job => Sys2Proof.Machine.execJobKeyRetireOld job s
  | .debugChallenge r => Sys2Proof.Machine.execDebugChallenge r s
  | .debugToken r token => Sys2Proof.Machine.execDebugToken r token s
  | .debugWithdraw r => Sys2Proof.Machine.execDebugWithdraw r s
  | .debugKeySet r key => Sys2Proof.Machine.execDebugKeySet r key s
  | .debugTokenExpiry => Sys2Proof.Machine.execDebugTokenExpiry s
  | .bringupStepDone failed => Sys2Proof.Machine.execBringupStepDone failed s
  | .bringupStepTimeout => Sys2Proof.Machine.execBringupStepTimeout s
  | .reheatStepDone failed => Sys2Proof.Machine.execReheatStepDone failed s
  | .resetCore r core => Sys2Proof.Machine.execResetCore r core s
  | .resetCluster r cluster => Sys2Proof.Machine.execResetCluster r cluster s
  | .resetPartition r part => Sys2Proof.Machine.execResetPartition r part s
  | .resetPackage r => Sys2Proof.Machine.execResetPackage r s
  | .partialResetDone kind unit => Sys2Proof.Machine.execPartialResetDone kind unit s
  | .coreResetEscalate core => Sys2Proof.Machine.execCoreResetEscalate core s
  | .clusterResetTimeout cluster => Sys2Proof.Machine.execClusterResetTimeout cluster s
  | .retireUnit r kind unit => Sys2Proof.Machine.execRetireUnit r kind unit s
  | .spareBringinDone core ok => Sys2Proof.Machine.execSpareBringinDone core ok s
  | .serviceModeWrite r value => Sys2Proof.Machine.execServiceModeWrite r value s
  | .serviceOut r kind unit => Sys2Proof.Machine.execServiceOut r kind unit s
  | .serviceRecal r kind unit => Sys2Proof.Machine.execServiceRecal r kind unit s
  | .serviceReplace r kind unit => Sys2Proof.Machine.execServiceReplace r kind unit s
  | .serviceIn r kind unit => Sys2Proof.Machine.execServiceIn r kind unit s
  | .fwBegin r header => Sys2Proof.Machine.execFwBegin r header s
  | .fwEraseDone blocks => Sys2Proof.Machine.execFwEraseDone blocks s
  | .fwBlock r block crc data => Sys2Proof.Machine.execFwBlock r block crc data s
  | .fwVerify r => Sys2Proof.Machine.execFwVerify r s
  | .fwVerifyDone => Sys2Proof.Machine.execFwVerifyDone s
  | .fwActivate r => Sys2Proof.Machine.execFwActivate r s
  | .fwSelfcheckDone ok => Sys2Proof.Machine.execFwSelfcheckDone ok s
  | .fwPauseEnd => Sys2Proof.Machine.execFwPauseEnd s
  | .fwCopyDone => Sys2Proof.Machine.execFwCopyDone s
  | .fwAbort r => Sys2Proof.Machine.execFwAbort r s
  | .fwRaiseSvn r => Sys2Proof.Machine.execFwRaiseSvn r s
  | .bakerWatchdog die => Sys2Proof.Machine.execBakerWatchdog die s
  | .mgmtReheatDone die => Sys2Proof.Machine.execMgmtReheatDone die s
  | .handshakeTimeout kind unit => Sys2Proof.Machine.execHandshakeTimeout kind unit s
  | .die1TimeSync => Sys2Proof.Machine.execDie1TimeSync s
  | .holdoverEntry => Sys2Proof.Machine.execHoldoverEntry s
  | .timeRootWrite r value => Sys2Proof.Machine.execTimeRootWrite r value s
  | .timeSet r time frac => Sys2Proof.Machine.execTimeSet r time frac s
  | .counterSnapshot r t => Sys2Proof.Machine.execCounterSnapshot r t s
  | .snapshotAtT => Sys2Proof.Machine.execSnapshotAtT s
  | .crumbRead r kind unit sink => Sys2Proof.Machine.execCrumbRead r kind unit sink s
  | .crumbRelease r kind unit => Sys2Proof.Machine.execCrumbRelease r kind unit s
  | .crumbRingUnfreeze kind unit => Sys2Proof.Machine.execCrumbRingUnfreeze kind unit s
  | .tensorRegister r name ctx addr length format => Sys2Proof.Machine.execTensorRegister r name ctx addr length format s
  | .dumpArm r name sink mark step bufPa bufLen => Sys2Proof.Machine.execDumpArm r name sink mark step bufPa bufLen s
  | .dumpCancel r dump => Sys2Proof.Machine.execDumpCancel r dump s
  | .dumpCut dump => Sys2Proof.Machine.execDumpCut dump s
  | .dumpStreamSend dump => Sys2Proof.Machine.execDumpStreamSend dump s
  | .debugStop r t => Sys2Proof.Machine.execDebugStop r t s
  | .debugFreeze => Sys2Proof.Machine.execDebugFreeze s
  | .debugResume r t => Sys2Proof.Machine.execDebugResume r t s
  | .debugThaw => Sys2Proof.Machine.execDebugThaw s
  | .kodpFragment client bytes => Sys2Proof.Machine.execKodpFragment client bytes s
  | .reassemblyTimeout client reqId => Sys2Proof.Machine.execReassemblyTimeout client reqId s
  | .objectWrite r obj value => Sys2Proof.Machine.execObjectWrite r obj value s
  | .tablePut r table rows => Sys2Proof.Machine.execTablePut r table rows s
  | .tableDelete r table keys => Sys2Proof.Machine.execTableDelete r table keys s
  | .subscribe r codes => Sys2Proof.Machine.execSubscribe r codes s
  | .unsubscribe r codes => Sys2Proof.Machine.execUnsubscribe r codes s
  | .ping r => Sys2Proof.Machine.execPing r s
  | .secured client session cipher => Sys2Proof.Machine.execSecured client session cipher s
  | .kodpOperationTimeout r => Sys2Proof.Machine.execKodpOperationTimeout r s
  | .commandDone r status => Sys2Proof.Machine.execCommandDone r status s
  | .clientLeaseExpiry client => Sys2Proof.Machine.execClientLeaseExpiry client s
  | .replyCacheExpiry r => Sys2Proof.Machine.execReplyCacheExpiry r s
  | .mgmtFrame frame => Sys2Proof.Machine.execMgmtFrame frame s
  | .poresetRelease => Sys2Proof.Machine.execPoresetRelease s
  | .malformedPacket port p => Sys2Proof.Machine.execMalformedPacket port p s
  | .recipeReservedCode port p => Sys2Proof.Machine.execRecipeReservedCode port p s
  | .mgmtLinkChange up => Sys2Proof.Machine.execMgmtLinkChange up s
  | .mgmtReheatWindowExpiry => Sys2Proof.Machine.execMgmtReheatWindowExpiry s
  | .ballastRampDownDone => Sys2Proof.Machine.execBallastRampDownDone s
  | .mrAckReportTimer => Sys2Proof.Machine.execMrAckReportTimer s
  | .lampInputDark lamp => Sys2Proof.Machine.execLampInputDark lamp s
  | .releaseCodeExpiry => Sys2Proof.Machine.execReleaseCodeExpiry s

end Sys2Proof.Machine
end

