-- ==== Sys2Proof/Machine/OpsUpset.lean ====
section
/-!
DEFINITION. Machine/OpsUpset.lean: hardware errors: SRAM words and their SEC-DED code (R240, R325, R348), and the residues and duplicates of
the arithmetic units (R332 to R335).  They come with the ticks of the clock (log 82).
-/
namespace Sys2Proof.Machine

/-! ### SRAM words (R325) -/

/-- What SEC-DED finds in a word of which some bits have flipped: the code is linear, so it is what it finds in those bits alone. -/
def sramCheck (flips : List Nat) : SecDed :=
  let v := flips.foldl (fun a i => Nat.xor a (2 ^ (i % 72))) 0
  secdedCheck (v % 2 ^ 64) (v / 2 ^ 64)

/-- The number of the structure of a word, in the order of the rows of R325 (0x1711). -/
def State.sramNum (s : State) : SramWord → Nat
  | .pantry l => if (s.lineMeta l).dirty then 1 else 0
  | .pantryMeta _ => 2 | .directory _ _ => 3 | .region _ => 4 | .cache _ _ => 5 | .tray _ _ => 6 | .store _ => 7 | .replay _ => 8
  | .queue _ _ => 9 | .slot _ => 10

/-- The die of a word: that of its line, core, port or requester. -/
def State.sramDie (s : State) : SramWord → Nat
  | .pantry l | .pantryMeta l | .directory l _ => homeDie (l * 128)
  | .region g => homeDie (g * 4096)
  | .cache die _ => die % 2
  | .tray c _ | .store c => dieOfCluster (clusterOf c)
  | .replay p => dieOfPort p
  | .queue src tag => (s.request src tag).elim 0 (fun q => dieOfPort q.port)
  | .slot _ => 0

/-- Whether there is a word: the pantry holds the line, the directory the entry, and so on. -/
def State.sramThere (s : State) : SramWord → Bool
  | .pantry l | .pantryMeta l => (s.lineMeta l).inPantry
  | .directory l way => (s.entry l).isSome && decide (way < 16)
  | .region g => ahas s.dir.regions g
  | .cache _ _ => true
  | .tray c b => corePresent c && decide (b < 4096)
  | .store c => corePresent c
  | .replay p => portPresent p && (s.port p).linked
  | .queue _ _ => true
  | .slot n => ahas s.part.slots n

/-- The key of a line's set in the directory: die, slice, set (R240). -/
def setKey (line : Nat) : Nat := sliceOf line * 16384 + Config.setHash line % 16384

/-- A way that shows a second corrected error within 24 h is retired, and the set's spare way takes its place (R240, R593). -/
def noteWay (line way : Nat) (s : State) : State :=
  let k := setKey line
  let again := match aget s.integ.wayErrors (k, way) with | some t => decide (s.now < t + 86400000000000) | none => false
  let s := s.onInteg (fun g => { g with wayErrors := aset g.wayErrors (k, way) s.now })
  onlyIf (again && !s.boot.waysUsed.contains k) (fun s =>
    crumb 5 (sliceOf line) 0x0E (6 + k * 2 ^ 32) (exhaust 6 k (s.onBoot (fun b => { b with waysUsed := b.waysUsed ++ [k] })))) s

/-- A corrected word: counted, and logged at most once a second for its array (R325, R348). -/
def sramCorrected (w : SramWord) (s : State) : State :=
  let k := 2 * s.sramNum w + s.sramDie w
  let s := bump .sramCorrected k s
  let due := match aget s.kodp.rateAt (0x20002, k) with | some t => decide (t + 1000000000 ≤ s.now) | none => true
  let s := onlyIf due (fun s => logError 3 1 0 0 0 0 k (s.onKodp (fun x => { x with rateAt := aset x.rateAt (0x20002, k) s.now }))) s
  match w with
  | .directory l way => noteWay l way s
  | _ => s

/-- A directory entry has been lost: every Active or Detaching slot with CACHING is sent SNP_INV for the line's alias, with no recall of the
line left but this one (R325). -/
def loseEntry (line : Nat) (s : State) : State :=
  match s.entry line with
  | none => s
  | some e =>
    let all := (s.part.slots.filter (fun x => x.2.answers && bits x.2.caps 0 1 == 1)).map Prod.fst
    let cause := ((aget s.dir.recalls line).map Recall.cause).getD .none
    let s := dropPool (fun i _ key => i == .snoop && key == line) s
    let s := putEntry line { e with st := .shared, recalling := false, coarse := true, ptrs := [], groups := (all.map groupOf).eraseDups, lost := true } s
    startRecall line false all 2 [] cause s

/-- A region-filter entry has been lost: its lines' entries lose every holder they name (R259), and the region is freed (R325). -/
def loseRegion (reg : Nat) (s : State) : State :=
  let s := forAll (s.regionLines reg) (fun l s =>
    match s.entry l with
    | none => s
    | some e => forAll e.ptrs (fun slot s => withRecall l (fun s => settleSlot l slot (applyLoss l slot s)) s) s) s
  let s := s.onDir (fun d => { d with regions := adel d.regions reg })
  notifyLimited 0x1703 (homeDie (reg * 4096)) 10000000 (fun _ => leBytes 1 (homeDie (reg * 4096)) ++ leBytes 8 (reg * 4096)) (mirrorRegion reg s)

/-- A line of the pantry has lost a word: a clean one is dropped, to be read again from DRAM; a dirty one is poisoned (R325). -/
def losePantry (l : Nat) (s : State) : State :=
  if (s.lineMeta l).dirty then poisonLine l 1 s else setMeta l (fun m => { m with inPantry := false }) s

/-- An entry of a queue has lost a word (R325): its request is ended INTEGRITY toward its source; toward an internal unit, TIMEOUT. -/
def loseQueued (src tag : Nat) (s : State) : State :=
  match s.request src tag, s.poolReq src tag with
  | some q, _ => settleAged q.line (finishStatus q .integrity 0 false s)
  | none, some q => endPool q (match q.issuer with
    | .deep => sledAnswer (q.port - 32) q .timeout s
    | .repair => endRepair q.key false s
    | _ => s)
  | none, none =>
    if src ≥ 2 ^ 18 ∧ src % 4 = 0 then
      let core := (src - 2 ^ 18) / 4
      match (s.coreRec core).run with
      | none => s
      | some t =>
        if t.kernel then
          match aget t.threads ((tag - 1) % 64) with
          | some x => (match x.accesses.find? (fun a => a.n == (tag - 1) / 64) with
            | some a => endAccess core ((tag - 1) % 64) a.n (lateExc ((tag - 1) % 64) a 13) s
            | none => s)
          | none => s
        else setCore core (fun x => { x with run := none }) (failTile t.recipe t.tile .timeout s)
    else
      -- an answer that waits to leave goes as INTEGRITY
      s.onTraffic (fun t => { t with leaves := t.leaves.map (fun l => (l.1, l.2.map (fun x =>
        if x.pkt.dest = src ∧ x.pkt.tag = tag ∧ isResponse x.pkt = true then { x with pkt := { x.pkt with status := Status.integrity.code }.close } else x))) })

/-- What an uncorrectable word does to its structure (R325). -/
def sramLost (w : SramWord) (s : State) : State :=
  match w with
  | .pantry l => losePantry l s
  | .pantryMeta l => setMeta l (fun m => if m.inPantry && m.dirty then { m with untagged := true } else m) (losePantry l s)
  | .directory l _ => loseEntry l s
  | .region g => loseRegion g s
  | .cache die ctx => s.onPart (fun p => { p with
      ctxCache := p.ctxCache.filter (fun e => e.1 ≠ (die, ctx)), xlate := p.xlate.filter (fun e => !(e.die == die && e.ctx == ctx))
      walks := p.walks.filter (fun e => !(e.die == die && e.ctx == ctx)) })
  | .tray c b => setCore c (fun k => { k with trayPoison := aset k.trayPoison b 0 }) s
  | .store _ => s
  | .replay p => portDown p (Config.freeNat s.free % 256) (useFree s) -- 0x1201 lists no cause for it (log 160)
  | .queue src tag => loseQueued src tag s
  | .slot n => loseChange n 1 s

/-- The action of an uncorrectable word in ERROR_LOG (0x1720; log 160). -/
def State.sramAction (s : State) : SramWord → Nat
  | .pantry l | .pantryMeta l => if (s.lineMeta l).dirty then 4 else 5
  | .tray _ _ => 4
  | .slot _ => 6
  | _ => 5

/-- An uncorrectable word: counted, logged, notified, left in its unit's crumbs, and handled as R325 says. -/
def sramUncorrectable (w : SramWord) (s : State) : State :=
  let num := s.sramNum w
  let die := s.sramDie w
  let (kind, unit, addr) : Nat × Nat × Nat := match w with
    | .pantry l | .pantryMeta l | .directory l _ => (5, sliceOf l, l * 128)
    | .region g => (5, homeDie (g * 4096) * 32, g * 4096)
    | .tray c b => (1, c, b * 128)
    | .store c => (1, c, 0)
    | .replay p => (4, p, 0)
    | _ => (8, die, 0)
  let s := logError 4 (s.sramAction w) 0 addr 0 0 (2 * num + die) (bump .sramUncorrectable (2 * num + die) s)
  let s := notifyLimited 0x1702 (2 * num + die) 10000000 (fun _ => leBytes 1 num ++ leBytes 1 die) (crumb kind unit 7 addr s)
  sramLost w s

/-! ### Checked units (R332 to R335) -/

/-- A front end or slice has shown a mismatch (R335, R348): unit 1,024 + slice, or 1,088 + die (log 160). -/
def noteUnitMismatch (unit : Nat) (s : State) : State :=
  notifyLimited 0x1704 unit 10000000 (fun _ => leBytes 2 unit) (logError 5 1 0 0 0 0 unit (bump .residueMismatches unit s))

/-- A mismatch in an engine that runs a thread (R335): before the result reaches a register, the tile is lost. -/
def laneMismatch (core thread major : Nat) (s : State) : State :=
  match (s.coreRec core).run with
  | none => s
  | some t =>
    match s.recipe t.recipe with
    | none => s
    | some r =>
      if t.kernel then
        match aget t.threads thread with
        | some x => if t.ending != .running || x.exited then s else residueKernel core thread major t x s
        | none => s
      else mismatchTile core thread r t s

/-- The hourly run of test 4 fails in an engine (R346): it runs at a tile boundary, once an hour, and the core is retired as in R343. -/
def engineTestFails (core : Nat) (s : State) : State :=
  let hour := s.now / 3600000000000
  if !corePresent core || (s.unit .core core).st != .enabled || (s.coreRec core).run.isSome || decide (hour ≤ agetD s.integ.engineHour core 0) then s
  else retireCore core .integrity none (noteFailure (4 * 65536 + core) (s.onInteg (fun g => { g with engineHour := aset g.engineHour core hour })))

/-- A hardware error strikes. -/
def strike (u : Upset) (s : State) : State :=
  match u with
  | .engineTest core => engineTestFails core s
  | .loopBack ch =>
    let p := s.punit (16 + ch / 32)
    onlyIf (p.st == .deep && p.move == .waking && (s.channel ch).st == .serving) (retrainChannel ch) s
  | .retention _ => s.onBoot (fun b => { b with retentionBad := true })
  | .settings copyB place value =>
    s.onKodp (fun k => if copyB then { k with settingsB := k.settingsB.spoilt place value } else { k with settingsA := k.settingsA.spoilt place value })
  | .flash => s.onFw (fun w => { w with flashBad := true })
  | .larderRecord => s.onBoot (fun b => { b with larderLost := true })
  | .sram w flips =>
    if !s.sramThere w then s
    else match sramCheck flips with
      | .clean => s
      | .corrected _ => sramCorrected w s
      | .uncorrectable => sramUncorrectable w s
  | .lane core thread major unit a b bit =>
    onlyIf (unit.catches a b (unit.result a b + 2 ^ bit)) (laneMismatch core thread major) s
  | .accumulator core thread acc bit =>
    -- the accumulator's residue is found by its three-bit groups, and compared with the one it carries (R334)
    match ((s.coreRec core).run).bind (fun t => aget t.threads thread) with
    | some x =>
      let v := (x.ar acc).image
      onlyIf (groupSum 192 (Nat.xor v (2 ^ (bit % 576))) != groupSum 192 v) (laneMismatch core thread 0x32) s
    | none => s
  | .slice src tag unit a b bit =>
    match s.request src tag with
    | some q =>
      if q.op = 0x18 ∧ q.ordered = false ∧ unit.catches a b (unit.result a b + 2 ^ bit) = true then
        noteUnitMismatch (1024 + sliceOf q.line) (bump .residueIntegrity (1024 + sliceOf q.line) (settleAged q.line (finishStatus q .integrity 0 false s)))
      else s
    | none => s
  | .frontEnd recipe unit a b bit =>
    match s.recipe recipe with
    | some r =>
      if unit.catches a b (unit.result a b + 2 ^ bit) then
        noteUnitMismatch (1088 + r.die) (bump .residueIntegrity (1088 + r.die) (failTile r.id r.next .integrity s))
      else s
    | none => s

/-- The hardware errors of a tick (log 82); none while the package is not powered up. -/
def strikes (s : State) : State :=
  if s.frozen || !s.timeRuns then s else settleWaits (forAll (Config.upsets s.free) strike (useFree s))

end Sys2Proof.Machine
end

