-- ==== Sys2Proof/Machine/Step.lean ====
section
/-!
DEFINITION. Machine/Step.lean: one step of the block: the command at the front of the queue, or a tick of its clock.
-/
namespace Sys2Proof.Machine

/-- The state with the command that a table word spells put at the front of the queue (unchanged where it spells none). -/
def State.withFetchWord (s : State) (nbits w : Nat) : State :=
  match decodeTableWord nbits w with
  | some c => { s with pending := c :: s.pending }
  | none => s

/-- Take the command at the front of the queue and run it on the state with the queue's rest; on an empty queue the block's clock counts one
tick, hardware errors strike, and Baker starts what waits in its queue (R325, R618, R666; log 33, log 82). -/
def step (s : State) : Host.Outcome State Fault Refusal :=
  match s.pending with
  | [] => .next (tick (strikes (startQueued 256 s)))
  | c :: rest => exec c { s with pending := rest }

end Sys2Proof.Machine
end

