-- ==== Sys2Proof/Safety.lean ====
section
/-!
DEFINITION. Safety.lean: what counts as a safe run of the block: every step answers a next state, pool memory keeps its canonical form, and
a command changes only the parts of the state it is about.
-/
namespace Sys2Proof.Machine

/-- Pool memory is in its canonical form: addresses rise, and no byte equal to what an unlisted address reads as is listed (R318). -/
def State.MemWf (s : State) : Prop := Memory.wf s.mem.cells = true

/-- The part without its ledger, pins, nextTag, which are parts of their own. -/
def TxnState.rest (x : TxnState) : TxnState := { x with ledger := [], pins := [], nextTag := [] }

/-- The part without its mseq0, mseq1, unacked, divergence, written, which are parts of their own. -/
def TwinState.rest (x : TwinState) : TwinState := { x with mseq0 := 0, mseq1 := 0, unacked := [], divergence := [], written := [] }

/-- The part without its leaves, which are parts of their own. -/
def TrafficState.rest (x : TrafficState) : TrafficState := { x with leaves := [] }

/-- The part without its sessions, which are parts of their own. -/
def SecurityState.rest (x : SecurityState) : SecurityState := { x with sessions := [] }

/-- The part without its units, partials, which are parts of their own. -/
def BootState.rest (x : BootState) : BootState := { x with units := [], partials := [] }

/-- The part without its time0, time1, rings, waiting, expiredAt, which are parts of their own. -/
def ObserveState.rest (x : ObserveState) : ObserveState := { x with time0 := TimeIsland.reset, time1 := TimeIsland.reset, rings := [], waiting := [], expiredAt := [] }

/-- The part without its running, objs, tables, tableGen, tableSeen, settingsA, settingsB, which are parts of their own. -/
def KodpState.rest (x : KodpState) : KodpState := { x with running := [], objs := [], tables := [], tableGen := [], tableSeen := [], settingsA := KodpState.reset.settingsA, settingsB := KodpState.reset.settingsB }

/-- The parts of the state, as a frame names them. -/
inductive Part where
  /-- Pins, rails, sensors, laser inputs. -/
  | pkg
  /-- Optical ports and the link layer. -/
  | link
  /-- Transactions. -/
  | txn
  /-- The completion ledger, the pins and the next tags. -/
  | ledger
  /-- Partner slots, contexts, translation caches. -/
  | part
  /-- Directories, region filters, recalls. -/
  | dir
  /-- Pool memory and its metadata. -/
  | mem
  /-- DRAM channels. -/
  | dram
  /-- The deep tier. -/
  | deep
  /-- Error records, scrub, self-test. -/
  | integ
  /-- Recipes and tile queues. -/
  | recp
  /-- Cores, threads, the kernel store. -/
  | core
  /-- The twin pair. -/
  | twin
  /-- What is sent to the standby and not acknowledged. -/
  | mirror
  /-- Scheduling and policing. -/
  | traffic
  /-- The packets that wait at the ports. -/
  | leaves
  /-- The governor, grants, power states. -/
  | power
  /-- Tenants, keys, sessions. -/
  | sec
  /-- The sessions. -/
  | sessions
  /-- Bring-up, resets, the larder. -/
  | boot
  /-- The units, their states and epochs. -/
  | units
  /-- The partial resets that run. -/
  | partials
  /-- The boot store and firmware update. -/
  | fw
  /-- Time, crumbs, dumps, the debug stop. -/
  | obs
  /-- The time islands. -/
  | time
  /-- Crumb rings, waiting notifications, expired timeouts. -/
  | rings
  /-- KODP and the object dictionary. -/
  | kodp
  /-- The operations that run. -/
  | running
  /-- Values, tables and settings of the dictionary. -/
  | dict
  /-- The counters. -/
  | ctrs
  /-- What has left the package. -/
  | out
  /-- The counter of free values. -/
  | free
  deriving DecidableEq, Repr

/-- Two states agree on a part. -/
def Part.same (s t : State) : Part → Prop
  | .pkg => t.pkg = s.pkg
  | .link => t.link = s.link
  | .txn => t.txn.rest = s.txn.rest
  | .ledger => (t.txn.ledger, t.txn.pins, t.txn.nextTag) = (s.txn.ledger, s.txn.pins, s.txn.nextTag)
  | .part => t.part = s.part
  | .dir => t.dir = s.dir
  | .mem => t.mem = s.mem
  | .dram => t.dram = s.dram
  | .deep => t.deep = s.deep
  | .integ => t.integ = s.integ
  | .recp => t.recp = s.recp
  | .core => t.core = s.core
  | .twin => t.twin.rest = s.twin.rest
  | .mirror => (t.twin.mseq0, t.twin.mseq1, t.twin.unacked, t.twin.divergence, t.twin.written) = (s.twin.mseq0, s.twin.mseq1, s.twin.unacked, s.twin.divergence, s.twin.written)
  | .traffic => t.traffic.rest = s.traffic.rest
  | .leaves => t.traffic.leaves = s.traffic.leaves
  | .power => t.power = s.power
  | .sec => t.sec.rest = s.sec.rest
  | .sessions => t.sec.sessions = s.sec.sessions
  | .boot => t.boot.rest = s.boot.rest
  | .units => t.boot.units = s.boot.units
  | .partials => t.boot.partials = s.boot.partials
  | .fw => t.fw = s.fw
  | .obs => t.obs.rest = s.obs.rest
  | .time => (t.obs.time0, t.obs.time1) = (s.obs.time0, s.obs.time1)
  | .rings => (t.obs.rings, t.obs.waiting, t.obs.expiredAt) = (s.obs.rings, s.obs.waiting, s.obs.expiredAt)
  | .kodp => t.kodp.rest = s.kodp.rest
  | .running => t.kodp.running = s.kodp.running
  | .dict => (t.kodp.objs, t.kodp.tables, t.kodp.tableGen, t.kodp.tableSeen, t.kodp.settingsA, t.kodp.settingsB) = (s.kodp.objs, s.kodp.tables, s.kodp.tableGen, s.kodp.tableSeen, s.kodp.settingsA, s.kodp.settingsB)
  | .ctrs => t.ctrs = s.ctrs
  | .out => t.out = s.out
  | .free => t.free = s.free

/-- Every part. -/
def Part.every : List Part := [.pkg, .link, .txn, .ledger, .part, .dir, .mem, .dram, .deep, .integ, .recp, .core, .twin, .mirror, .traffic, .leaves, .power, .sec, .sessions, .boot, .units, .partials, .fw, .obs, .time, .rings, .kodp, .running, .dict, .ctrs, .out, .free]

/-- What a change leaves of a state that may touch the parts listed and no other: the queue waits untouched, what has left the package
stays left, a free value once used is not used again, and pool memory stays canonical. -/
structure Frame (ps : List Part) (s t : State) : Prop where
  pending : t.pending = s.pending
  out     : s.out <:+ t.out
  free    : s.free ≤ t.free
  mem     : s.MemWf → t.MemWf
  rest    : ∀ p, ps.contains p = false → p.same s t

/-- What a bring-in was asked for: the spare, the core it replaces, the request and when, whether or not the spare has been woken yet. -/
def BringIn.asked (b : BringIn) : Nat × Nat × Option Req × Nat := (b.core, b.for_, b.req, b.since)

/-- A command answers a next state, and of that state `q` holds. -/
def Does (c : Instr) (s : State) (q : State → Prop) : Prop := ∃ t, exec c s = .next t ∧ q t

/-- A counter has risen by `n` (R625). -/
def Counts (c : Ctr) (u n : Nat) (s t : State) : Prop := t.ctr c u = ctrAdd c (s.ctr c u) n

/-- The first argument field of an operation, by which two of one object are told apart (R668). -/
def firstArg (n : Nat) (arg : List Byte) : Option Nat := if n = 0 then none else some (leNat (arg.take n))

/-- What R664 to R671 ask of the state before Baker starts an operation: management answers and is in no reheat; the request is no
duplicate; bring-up is done; the message holds a role of the object; the standby does not refuse it; and, of a command, neither the same
one nor sixteen run. -/
def State.accepts (s : State) (o : OpObj) (r : Req) (n : Nat) (arg : List Byte) : Bool :=
  s.bakerUp && !s.obs.reheat.contains 0 && ((agetD s.kodp.cache r.client []).find? (fun e => e.reqId == r.id)).isNone
    && !(s.kodp.running.any (fun x => x.req.client == r.client && x.req.id == r.id)) && (s.ready || o.recovery)
    && (o.any || (o.roles &&& s.rolesOf r.client) != 0 || (s.isPeer r.client && (o.mirrored || o.index == 0x1E30)))
    && !(o.mirrored && s.standby && !s.isPeer r.client)
    && !(o.type == 3 && (firstArg n arg).isSome && s.kodp.running.any (fun x => x.index == o.index && x.sub == o.sub && x.firstArg == firstArg n arg))
    && !(o.type == 3 && decide (s.kodp.running.length ≥ 16))

/-- The entry that an operation has among those that run (R666). -/
def runningOf (o : OpObj) (r : Req) (arg : List Byte) (n : Nat) : Running :=
  { req := r, index := o.index, sub := o.sub, firstArg := firstArg n arg, timedOut := false, crc := kmsgCrc (mkMsg o.type r.id o.index o.sub .ok arg)
    peerArg := if o.mirrored then some arg else none }

/-- The state in which an accepted operation runs. -/
def begun (o : OpObj) (r : Req) (arg : List Byte) (n : Nat) (s : State) : State :=
  unqueue r ((heard r s).onKodp (fun k => { k with running := k.running ++ [runningOf o r arg n] }))

/-- The reply of an operation: its TYPE is the request's with bit 7 set, its header the request's (R651). -/
def replyOf (o : OpObj) (r : Req) (st : Status) (body : List Byte) : KMsg := mkMsg (o.type + 0x80) r.id o.index o.sub st body

/-- A request has been answered: the reply is the newest of the client's cached replies, or waits for the standby's answer; and the
operation runs no more (R669 to R671). -/
def Answered (o : OpObj) (r : Req) (st : Status) (body : List Byte) (t : State) : Prop :=
  ((∃ e, (agetD t.kodp.cache r.client []).getLast? = some e ∧ e.reqId = r.id ∧ e.reply = replyOf o r st body)
    ∨ (∃ w, t.kodp.peerWait.getLast? = some w ∧ w.2.1 = r ∧ w.2.2.2 = replyOf o r st body))
  ∧ (t.kodp.running.all (fun x => !(x.req == r && x.index == o.index && x.sub == o.sub))) = true

/-- An operation is running: Baker has started it and not answered. -/
def Runs (o : OpObj) (r : Req) (t : State) : Prop :=
  ∃ x ∈ t.kodp.running, x.req = r ∧ x.index = o.index ∧ x.sub = o.sub ∧ x.timedOut = false

/-- An operation that is accepted is answered with a status and a body, and of the state then `q` holds. -/
def Replies (c : Instr) (s : State) (o : OpObj) (r : Req) (n : Nat) (arg : List Byte) (st : Status) (body : List Byte) (q : State → Prop) : Prop :=
  s.accepts o r n arg = true → Does c s (fun t => Answered o r st body t ∧ q t)

/-- An operation that is accepted begins and runs on, and of the state then `q` holds. -/
def Starts (c : Instr) (s : State) (o : OpObj) (r : Req) (n : Nat) (arg : List Byte) (q : State → Prop) : Prop :=
  s.accepts o r n arg = true → Does c s (fun t => Runs o r t ∧ q t)

/-- A fabric packet that its port takes: the port is up, the packet's addresses are those of the Varisk and of a partner, it passes its
E2E_CRC and is well formed, and no standby refuses it (R143 to R146, R158, R171 to R173). -/
def State.takes (s : State) (port : Nat) (p : Packet) : Bool :=
  s.portUp port && isFabric port && s.obj .nodeEid != 0 && s.obj .serviceEid != 0 && p.src != 0 && decide (p.src < 0x3FF00)
    && !(s.compact port && (decide (p.src ≥ 0x1000) || decide (p.dest ≥ 0x1000)))
    && (p.dest == s.obj .nodeEid || (p.dest == s.obj .serviceEid && !s.standby)) && p.crcGood && !p.malformed

/-- A request that its slot lets in: the slot is Active and able, and nothing of its tag is outstanding (R165, R191, R198, R200). -/
def State.admits (s : State) (slot : Nat) (p : Packet) : Bool :=
  s.slotOfEid p.src == some slot && ((aget s.part.slots slot).map Slot.st == some .active) && !p.resend && !s.outstanding p.src p.tag
    && !s.lacksCap slot p.op

/-- A request that policing lets pass leaves this state (R508, R509). -/
def State.polices (s : State) (port slot : Nat) (p : Packet) (t : State) : Prop :=
  agetD s.traffic.holds (slot, port, p.vc) [] = [] ∧ s.backlogged slot (classOfVc p.vc) = false
    ∧ colour (dieOfPort port) slot (classOfVc p.vc) p.charge s = (t, true)

/-- A request that may be ordered now at a line of the direct window: it has what it waits for, its source's earlier requests have their
place, and nothing holds the line (R167, R249, R250, R256). -/
def State.orders (s : State) (q : Request) : Bool :=
  !s.frozen && s.request q.src q.tag == some q && q.phase == .ready && !q.ordered && s.mayOrder q && !s.lineBusy q && !s.crossbarHolds q.line q.src q.tag
    && !isDeepPa q.pa && !s.keptFrom q.line q.src q.tag && !s.recalling q.line

/-- A twin packet that is heard: its TW port is up, it is for the node EID, passes its E2E_CRC, is well formed, and comes from the peer that was
agreed (R151, R158, R173, R462). -/
def State.hears (s : State) (port : Nat) (p : Packet) : Bool :=
  isTwinPort port && s.portUp port && p.dest == s.obj .nodeEid && p.crcGood && s.twin.st != .solo && s.twin.peerEid != 0
    && p.src == s.twin.peerEid && !p.linkMalformed port

/-- A packet waits at a port's leaf, to be sent (R504). -/
def State.carries (s : State) (p : Packet) : Prop := ∃ k q, q ∈ agetD s.traffic.leaves k [] ∧ q.pkt = p

/-! ### Kernel threads -/

/-- A thread of the tile that a core runs. -/
def State.threadOf (s : State) (core th : Nat) : Option Thread := (s.coreRec core).run.bind (fun t => aget t.threads th)

/-- An instruction that uses some registers can issue: its thread `x` of tile `t` runs, no late exception of a register it uses waits, and
none of them is being loaded (R431, R449, R454). -/
def State.issues (s : State) (core th : Nat) (uses : List Nat) (t : CoreTile) (x : Thread) : Prop :=
  s.liveThread core th = some (t, x) ∧ (x.late.all fun e => !uses.contains e.2) = true
    ∧ (x.accesses.all fun a => a.kind.dests.all fun d => d == 0 || !uses.contains d) = true

/-- What every instruction of a thread leaves unchanged: the other threads of its tile, the other cores, the queues of tiles, the recipes but
for what `recp` says of them, and all of the state outside cores, recipes and counters, but for the parts listed. -/
structure OnlyThread (core th : Nat) (ps : List Part) (s u : State) : Prop where
  threads : ∀ i, i ≠ th → u.threadOf core i = s.threadOf core i
  cores   : ∀ k, k ≠ core → u.coreRec k = s.coreRec k
  tenant  : (u.coreRec core).trayTenant = (s.coreRec core).trayTenant
  store   : u.core.store = s.core.store
  queues  : u.recp.queues = s.recp.queues ∧ u.recp.locals = s.recp.locals
  frame   : Frame ([.core, .recp, .ctrs] ++ ps) s u

/-- An instruction issues and retires: the thread is `y` and goes on at `next`; the trays are as before, and of the recipes only the tiles
whose check has passed change. -/
def Goes (c : Instr) (s : State) (core th : Nat) (uses : List Nat) (t : CoreTile) (x : Thread) (next : Nat) (y : Thread) : Prop :=
  s.issues core th uses t x → next < t.textLen / 4 → Does c s (fun u => u.threadOf core th = some { y with pc := next }
    ∧ (u.coreRec core).tray = (s.coreRec core).tray ∧ (u.coreRec core).trayPoison = (s.coreRec core).trayPoison
    ∧ (∀ id, (u.recipe id).map (fun r => { r with checked := [] }) = (s.recipe id).map (fun r => { r with checked := [] }))
    ∧ OnlyThread core th [] s u)

/-- An instruction issues and retires, and its thread goes on at the next one. -/
def Retires (c : Instr) (s : State) (core th : Nat) (uses : List Nat) (t : CoreTile) (x : Thread) (y : Thread) : Prop :=
  Goes c s core th uses t x (x.pc + 1) y

/-- A thread has taken an exception (R453, R454): its tile has failed with the status of the cause, the recipe keeps what its lowest failed
tile reports, and the tile runs no more. -/
def Trapped (s u : State) (core : Nat) (t : CoreTile) (e : Exc) : Prop :=
  ∃ r q, s.recipe t.recipe = some r ∧ u.recipe t.recipe = some q ∧ q.exc = keepLowest r.exc (excResult t.tile e)
    ∧ q.failed = (if ahas r.failed t.tile then r.failed else aset r.failed t.tile (excStatus e.cause)) ∧ q.result2 = r.result2
    ∧ ∀ y, (u.coreRec core).run = some y → y.ending ≠ .running

/-- An instruction that takes an exception, and leaves pool memory as it is. -/
def Traps (c : Instr) (s : State) (core : Nat) (t : CoreTile) (e : Exc) : Prop := Does c s (fun u => Trapped s u core t e ∧ Frame [.core, .recp, .ctrs] s u)

/-- A step that answers a next state: the block neither faults nor refuses. -/
def SafeStep (s : State) : Prop := ∃ t, step s = .next t

end Sys2Proof.Machine
end

