-- ==== Sys2Proof/Touches.lean ====
section
/-!
DEFINITION. Touches.lean: which parts of the state each command may change, for the statement of their frames.
-/
namespace Sys2Proof.Machine

/-- The parts of the state that a command may change; all others it leaves as they are. -/
def touches (i : Instr) : List Part :=
  match i with
  | .panicResume .. | .driftTrack .. =>
    [.dram]
  | .fwEraseDone .. | .fwVerifyDone =>
    [.fw]
  | .clientLeaseExpiry .. | .replyCacheExpiry .. =>
    [.kodp]
  | .announceTimer | .hbReqTimer | .mrAckReportTimer =>
    [.leaves]
  | .laneSignalRestored .. | .creditReportTimer .. | .chargedReportTimer .. | .timeSyncSend .. | .mgmtLinkChange .. =>
    [.link]
  | .mgmtReheatWindowExpiry =>
    [.obs]
  | .warmresetAssert | .powerStepStart | .holdupSample .. | .kslFrameTimeout =>
    [.pkg]
  | .crumbRingUnfreeze .. =>
    [.rings]
  | .jobKeySwitch .. | .jobKeyRetireOld .. =>
    [.sec]
  | .queueSample =>
    [.traffic]
  | .quiesceWaitExpiry | .releaseLampEnd | .forceArmExpiry | .lampInputDark .. =>
    [.twin]
  | .refreshInterval .. | .panicCap .. =>
    [.dram, .ctrs]
  | .reassemblyTimeout .. =>
    [.kodp, .ctrs]
  | .unroutableTimeout .. =>
    [.leaves, .ctrs]
  | .keepaliveSend =>
    [.leaves, .free]
  | .detectLit .. | .downHoldExpiry .. | .nakTimer .. =>
    [.link, .ctrs]
  | .debugHoldTimeout | .poresetRelease =>
    [.pkg, .boot]
  | .warmresetShort | .powerStepAck .. | .stepAckMissing | .stepAckStuck =>
    [.pkg, .ctrs]
  | .napAllowance =>
    [.power, .boot]
  | .spdmHeartbeatTimeout .. =>
    [.sessions, .kodp]
  | .lampFrame .. =>
    [.twin, .ctrs]
  | .holdoverEntry =>
    [.txn, .time]
  | .dramCommandSlot .. =>
    [.dram, .ctrs, .out]
  | .poolResend .. =>
    [.ledger, .leaves, .ctrs]
  | .debugFreeze =>
    [.obs, .rings, .free]
  | .kslReadFrame .. =>
    [.pkg, .kodp, .out]
  | .laserInputRestored .. =>
    [.pkg, .link, .free]
  | .sugarQueueServe | .grantRampDone .. | .ballastHoldExpiry | .powerSample .. | .freqStep .. | .calendarWake .. | .ballastRampDownDone =>
    [.pkg, .power, .ctrs]
  | .idleTimerExpiry .. =>
    [.power, .rings, .ctrs]
  | .nop .. | .trap .. | .fence .. | .bar .. | .barf .. | .tres .. | .time .. | .xpois .. | .vpois .. | .apois .. | .pset .. | .pget ..
  | .aluAdd .. | .aluSub .. | .aluMul .. | .aluMulh .. | .aluMulhu .. | .aluDiv .. | .aluDivu .. | .aluRem .. | .aluRemu .. | .aluAnd ..
  | .aluOr .. | .aluXor .. | .aluSll .. | .aluSrl .. | .aluSra .. | .aluSlt .. | .aluSltu .. | .aluMin .. | .aluMax .. | .aluMinu ..
  | .aluMaxu .. | .addi .. | .andi .. | .ori .. | .xori .. | .shiSll .. | .shiSrl .. | .shiSra .. | .slti .. | .lui .. | .beq .. | .bne ..
  | .blt .. | .bge .. | .bltu .. | .bgeu .. | .jal .. | .jalr .. | .pbr .. | .tld .. | .tlds .. | .tst .. | .vtld .. | .vtst .. | .tamo ..
  | .varithAdd .. | .varithSub .. | .varithMul .. | .varithMin .. | .varithMax .. | .varithAbs .. | .varithNeg .. | .varithAnd ..
  | .varithOr .. | .varithXor .. | .varithShl .. | .varithShr .. | .varithSar .. | .varithDiv .. | .varithSqrt .. | .fma .. | .fms ..
  | .fnma .. | .vcmpEq .. | .vcmpNe .. | .vcmpLt .. | .vcmpLe .. | .vcmpGt .. | .vcmpGe .. | .vcmpUnord .. | .vcmpLtu .. | .vcmpGeu ..
  | .vcvt .. | .vmov .. | .vperm .. | .vsel .. | .vbcast .. | .vext .. | .vins .. | .vredAdd .. | .vredMin .. | .vredMax .. | .vredMinu ..
  | .vredMaxu .. | .vredAnd .. | .vredOr .. | .vredXor .. | .aadd .. | .adot .. | .aclr .. | .amov .. | .amerge .. | .aout .. | .asave .. =>
    [.recp, .core, .ctrs]
  | .twRelease .. | .hbReq .. =>
    [.twin, .leaves, .ctrs]
  | .enrolRetry =>
    [.twin, .leaves, .free]
  | .wakeComplete .. =>
    [.dram, .power, .rings, .ctrs]
  | .debugThaw =>
    [.part, .obs, .time, .rings]
  | .grantRenewal .. | .grantEnd .. =>
    [.pkg, .recp, .power, .ctrs]
  | .e2eNak .. | .malformedPacket .. =>
    [.ledger, .mirror, .leaves, .sec, .ctrs]
  | .flitSend .. =>
    [.link, .traffic, .leaves, .ctrs, .out]
  | .coreSteal .. =>
    [.part, .dram, .recp, .core, .ctrs]
  | .wakeRequest .. =>
    [.pkg, .power, .rings, .ctrs, .free]
  | .admissionLimitTimeout .. =>
    [.pkg, .recp, .core, .power, .ctrs]
  | .strapSample .. =>
    [.pkg, .sec, .boot, .fw, .dict]
  | .debugTokenExpiry =>
    [.pkg, .sec, .sessions, .obs, .kodp]
  | .heartbeat .. =>
    [.ledger, .part, .mirror, .leaves, .sec, .ctrs]
  | .tileDispatch .. =>
    [.pkg, .recp, .power, .rings, .ctrs, .free]
  | .stashRsp .. =>
    [.txn, .ledger, .mirror, .leaves, .sec, .ctrs]
  | .lampFault .. =>
    [.ledger, .leaves, .sessions, .rings, .kodp, .ctrs, .out]
  | .fwPauseEnd | .fwCopyDone =>
    [.ledger, .leaves, .sessions, .fw, .rings, .kodp, .ctrs, .out]
  | .die1TimeSync =>
    [.ledger, .leaves, .sessions, .time, .rings, .kodp, .ctrs, .out]
  | .standbyKeepaliveLoss | .handbackDrainTimeout | .releaseCodeExpiry =>
    [.ledger, .twin, .leaves, .sessions, .rings, .kodp, .ctrs, .out]
  | .rpReq .. =>
    [.pkg, .dram, .twin, .leaves, .power, .rings, .ctrs, .free]
  | .scrubLine .. =>
    [.pkg, .mem, .dram, .integ, .power, .rings, .ctrs, .free]
  | .takeoverClaimDeadline =>
    [.ledger, .deep, .twin, .leaves, .sessions, .rings, .kodp, .ctrs, .out]
  | .counterSnapshot .. =>
    [.ledger, .mirror, .leaves, .sessions, .obs, .kodp, .running, .ctrs, .out]
  | .directoryLookup .. | .getDigests .. | .getCertificate .. | .challenge .. | .getMeasurements .. | .finish .. | .spdmHeartbeat ..
  | .keyUpdate .. | .endSession .. | .crumbRelease .. | .subscribe .. | .unsubscribe .. | .ping .. | .kodpOperationTimeout ..
  | .commandDone .. =>
    [.ledger, .mirror, .leaves, .sessions, .rings, .kodp, .running, .ctrs, .out]
  | .instructionWatchdog .. =>
    [.ledger, .recp, .core, .leaves, .sessions, .rings, .kodp, .ctrs, .out]
  | .laneLos .. | .lcbReceived .. | .replayTimeout .. | .oldestFlitTimeout .. =>
    [.link, .txn, .ledger, .leaves, .sessions, .rings, .kodp, .ctrs, .out]
  | .powerEntryDone .. =>
    [.pkg, .dir, .dram, .deep, .core, .power, .units, .rings, .ctrs]
  | .thermalSample .. =>
    [.pkg, .ledger, .dram, .leaves, .sessions, .rings, .kodp, .ctrs, .out]
  | .governorTick =>
    [.pkg, .ledger, .leaves, .power, .sessions, .rings, .kodp, .ctrs, .out]
  | .laserLow .. =>
    [.pkg, .ledger, .leaves, .sessions, .rings, .kodp, .ctrs, .out, .free]
  | .kernelUnload .. =>
    [.ledger, .core, .mirror, .leaves, .sessions, .rings, .kodp, .running, .ctrs, .out]
  | .channelRetrain .. =>
    [.ledger, .dram, .mirror, .leaves, .sessions, .rings, .kodp, .running, .ctrs, .out]
  | .errorLogClear .. =>
    [.ledger, .integ, .mirror, .leaves, .sessions, .rings, .kodp, .running, .ctrs, .out]
  | .jobClose .. | .quietHint .. | .jobStepTimer .. =>
    [.ledger, .mirror, .leaves, .power, .sessions, .rings, .kodp, .running, .ctrs, .out]
  | .getVersion .. | .getCapabilities .. | .negotiateAlgorithms .. | .keyExchange .. | .tenantCreate .. | .tenantSeal .. | .memKeySet ..
  | .jobKeySet .. | .jobBind .. | .jobKeyDestroy .. | .kernelSignKeySet .. | .debugKeySet .. =>
    [.ledger, .mirror, .leaves, .sec, .sessions, .rings, .kodp, .running, .ctrs, .out]
  | .fwBegin .. | .fwVerify .. | .fwAbort .. | .fwRaiseSvn .. =>
    [.ledger, .mirror, .leaves, .sessions, .fw, .rings, .kodp, .running, .ctrs, .out]
  | .snapshotAtT | .crumbRead .. | .dumpCancel .. | .debugStop .. | .debugResume .. =>
    [.ledger, .mirror, .leaves, .sessions, .obs, .rings, .kodp, .running, .ctrs, .out]
  | .serviceModeWrite .. =>
    [.ledger, .mirror, .leaves, .sessions, .rings, .kodp, .running, .dict, .ctrs, .out]
  | .timeSet .. =>
    [.ledger, .mirror, .leaves, .sessions, .time, .rings, .kodp, .running, .ctrs, .out]
  | .histogramClear .. =>
    [.ledger, .mirror, .traffic, .leaves, .sessions, .rings, .kodp, .running, .ctrs, .out]
  | .fqOverflowClear .. =>
    [.ledger, .part, .mirror, .leaves, .sessions, .rings, .kodp, .running, .ctrs, .out]
  | .twinForce .. | .twinForceCancel .. | .twinHandover .. | .twinQuiesce .. =>
    [.ledger, .twin, .mirror, .leaves, .sessions, .rings, .kodp, .running, .ctrs, .out]
  | .bakerBootComplete | .laserInputLow .. =>
    [.pkg, .ledger, .leaves, .sessions, .boot, .rings, .kodp, .ctrs, .out, .free]
  | .resyncSend .. =>
    [.pkg, .mem, .dram, .twin, .mirror, .leaves, .power, .rings, .ctrs, .free]
  | .dtInfoData .. =>
    [.txn, .ledger, .deep, .leaves, .sessions, .boot, .rings, .kodp, .ctrs, .out]
  | .serviceReplace .. =>
    [.ledger, .mirror, .leaves, .power, .sessions, .boot, .rings, .kodp, .running, .ctrs, .out]
  | .jobOpen .. =>
    [.ledger, .mirror, .leaves, .power, .sessions, .rings, .kodp, .running, .dict, .ctrs, .out]
  | .debugChallenge .. =>
    [.ledger, .mirror, .leaves, .sec, .sessions, .rings, .kodp, .running, .ctrs, .out, .free]
  | .fwBlock .. =>
    [.ledger, .mirror, .leaves, .sessions, .fw, .rings, .kodp, .running, .ctrs, .out, .free]
  | .tablePut .. | .tableDelete .. =>
    [.ledger, .part, .mirror, .leaves, .sessions, .rings, .kodp, .running, .dict, .ctrs, .out]
  | .portRetrain .. | .portLaneRestore .. =>
    [.link, .txn, .ledger, .mirror, .leaves, .sessions, .rings, .kodp, .running, .ctrs, .out]
  | .sledClaimForce .. =>
    [.txn, .ledger, .deep, .mirror, .leaves, .sessions, .rings, .kodp, .running, .ctrs, .out]
  | .clusterResetTimeout .. =>
    [.ledger, .mirror, .leaves, .sessions, .boot, .units, .partials, .rings, .kodp, .running, .ctrs, .out]
  | .portDark .. | .trainTimeout .. | .retrainTimeout .. =>
    [.link, .txn, .ledger, .deep, .mirror, .traffic, .leaves, .sessions, .rings, .kodp, .ctrs, .out]
  | .portDisable .. =>
    [.link, .txn, .ledger, .mirror, .traffic, .leaves, .sessions, .rings, .kodp, .running, .ctrs, .out]
  | .lockstepDisagreement .. | .fwSelfcheckDone .. | .bakerWatchdog .. | .mgmtReheatDone .. =>
    [.pkg, .ledger, .leaves, .sec, .sessions, .fw, .obs, .rings, .kodp, .running, .ctrs, .out]
  | .debugWithdraw .. =>
    [.pkg, .ledger, .mirror, .leaves, .sec, .sessions, .obs, .rings, .kodp, .running, .ctrs, .out]
  | .dirtyAgeExpiry .. =>
    [.pkg, .txn, .ledger, .mem, .dram, .deep, .mirror, .leaves, .power, .rings, .ctrs, .free]
  | .releasingTimeout =>
    [.txn, .ledger, .deep, .twin, .mirror, .leaves, .sessions, .rings, .kodp, .running, .ctrs, .out]
  | .timeRootWrite .. =>
    [.txn, .ledger, .mirror, .leaves, .sessions, .time, .rings, .kodp, .running, .dict, .ctrs, .out]
  | .serviceRecal .. =>
    [.link, .ledger, .dram, .mirror, .leaves, .sessions, .units, .rings, .kodp, .running, .ctrs, .out, .free]
  | .trainComplete .. | .retrainComplete .. =>
    [.link, .txn, .ledger, .deep, .mirror, .traffic, .leaves, .sessions, .boot, .rings, .kodp, .ctrs, .out]
  | .portEnable .. =>
    [.link, .txn, .ledger, .deep, .mirror, .traffic, .leaves, .sessions, .rings, .kodp, .running, .ctrs, .out]
  | .twinEnableWrite .. =>
    [.txn, .ledger, .deep, .twin, .mirror, .leaves, .sessions, .rings, .kodp, .running, .dict, .ctrs, .out]
  | .deepUnpin .. =>
    [.pkg, .ledger, .mem, .dram, .mirror, .leaves, .power, .sessions, .rings, .kodp, .running, .ctrs, .out, .free]
  | .fwActivate .. =>
    [.pkg, .ledger, .mirror, .leaves, .sec, .sessions, .boot, .fw, .obs, .rings, .kodp, .running, .ctrs, .out]
  | .laserInputsDark .. =>
    [.pkg, .link, .txn, .ledger, .deep, .mirror, .traffic, .leaves, .sessions, .rings, .kodp, .ctrs, .out, .free]
  | .bringupStepTimeout =>
    [.pkg, .link, .txn, .ledger, .mirror, .traffic, .leaves, .sessions, .boot, .rings, .kodp, .ctrs, .out, .free]
  | .objectWrite .. =>
    [.txn, .ledger, .deep, .twin, .mirror, .leaves, .sessions, .time, .rings, .kodp, .running, .dict, .ctrs, .out]
  | .deepSetRelease .. =>
    [.pkg, .ledger, .mem, .dram, .deep, .mirror, .leaves, .power, .sessions, .rings, .kodp, .running, .ctrs, .out, .free]
  | .tenantRetire .. | .memKeyDestroy .. =>
    [.pkg, .ledger, .mem, .dram, .mirror, .leaves, .power, .sec, .sessions, .rings, .kodp, .running, .ctrs, .out, .free]
  | .brownOut .. | .refclkLoss | .thermtrip .. =>
    [.pkg, .link, .txn, .ledger, .dir, .mem, .deep, .recp, .core, .twin, .mirror, .traffic, .leaves, .sec, .out]
  | .spareBringinDone .. =>
    [.ledger, .dir, .dram, .deep, .core, .mirror, .leaves, .power, .sessions, .boot, .units, .rings, .kodp, .running, .ctrs, .out]
  | .rowRepair .. =>
    [.pkg, .ledger, .mem, .dram, .deep, .integ, .mirror, .leaves, .power, .sessions, .boot, .obs, .rings, .kodp, .ctrs, .out, .free]
  | .mrLine .. | .mrState .. | .rsLines .. =>
    [.pkg, .ledger, .part, .dir, .mem, .dram, .recp, .twin, .mirror, .leaves, .power, .sessions, .rings, .kodp, .ctrs, .out, .free]
  | .aload .. =>
    [.ledger, .dir, .dram, .deep, .integ, .recp, .core, .mirror, .leaves, .power, .sessions, .boot, .units, .rings, .kodp, .running, .ctrs, .out]
  | .resetCore .. | .resetCluster .. | .coreResetEscalate .. =>
    [.ledger, .dir, .dram, .deep, .recp, .core, .mirror, .leaves, .power, .sessions, .boot, .units, .partials, .rings, .kodp, .running, .ctrs, .out]
  | .bankRepairDone .. =>
    [.pkg, .ledger, .mem, .dram, .deep, .integ, .mirror, .leaves, .power, .sessions, .boot, .obs, .rings, .kodp, .running, .ctrs, .out, .free]
  | .coreTileTimeout .. =>
    [.ledger, .dir, .dram, .deep, .recp, .core, .mirror, .leaves, .power, .sessions, .boot, .units, .partials, .rings, .kodp, .running, .ctrs, .out, .free]
  | .dumpCut .. | .dumpStreamSend .. =>
    [.pkg, .txn, .ledger, .part, .dir, .mem, .dram, .deep, .integ, .mirror, .leaves, .power, .sessions, .obs, .rings, .kodp, .ctrs, .out, .free]
  | .dramCommandTimeout .. | .decoderSelftestHourly .. =>
    [.pkg, .txn, .ledger, .dir, .mem, .dram, .deep, .integ, .twin, .mirror, .leaves, .power, .sec, .sessions, .obs, .rings, .kodp, .ctrs, .out, .free]
  | .wrData .. | .atomicOpnd .. =>
    [.pkg, .txn, .ledger, .part, .dir, .mem, .dram, .deep, .integ, .mirror, .leaves, .power, .sec, .sessions, .obs, .rings, .kodp, .ctrs, .out, .free]
  | .poisonInject .. | .tensorRegister .. | .dumpArm .. =>
    [.pkg, .txn, .ledger, .part, .dir, .mem, .dram, .deep, .integ, .mirror, .leaves, .power, .sessions, .obs, .rings, .kodp, .running, .ctrs, .out, .free]
  | .serviceOut .. =>
    [.link, .txn, .ledger, .dir, .dram, .deep, .recp, .core, .mirror, .traffic, .leaves, .power, .sessions, .boot, .units, .partials, .rings, .kodp, .running, .ctrs, .out]
  | .partialResetDone .. =>
    [.pkg, .ledger, .dir, .mem, .dram, .deep, .recp, .core, .mirror, .leaves, .power, .sessions, .boot, .units, .partials, .rings, .kodp, .running, .ctrs, .out, .free]
  | .debugToken .. =>
    [.pkg, .link, .txn, .ledger, .dir, .mem, .recp, .core, .twin, .mirror, .traffic, .leaves, .power, .sec, .sessions, .boot, .rings, .kodp, .running, .ctrs, .out]
  | .channelRetrainDone .. =>
    [.pkg, .txn, .ledger, .dir, .mem, .dram, .deep, .integ, .twin, .mirror, .leaves, .power, .sec, .sessions, .obs, .rings, .kodp, .running, .ctrs, .out, .free]
  | .kernelLoad .. =>
    [.pkg, .txn, .ledger, .part, .dir, .mem, .dram, .deep, .integ, .core, .mirror, .leaves, .power, .sessions, .obs, .rings, .kodp, .running, .ctrs, .out, .free]
  | .rdShared .. | .rdUnique .. | .rdOnce .. | .wrLine .. | .wrPart .. | .upgrade .. | .atomic .. | .rtRead .. | .holdLimitExpiry .. =>
    [.pkg, .txn, .ledger, .part, .dir, .mem, .dram, .deep, .integ, .mirror, .traffic, .leaves, .power, .sec, .sessions, .obs, .rings, .kodp, .ctrs, .out, .free]
  | .tileCheck .. | .kernelTileStart .. | .pld .. | .plds .. | .pst .. | .vpld .. | .vpst .. | .pamo .. | .lswap .. | .lcas .. | .vpld2 ..
  | .vpst2 .. =>
    [.pkg, .txn, .ledger, .part, .dir, .mem, .dram, .deep, .integ, .recp, .core, .mirror, .leaves, .power, .sessions, .obs, .rings, .kodp, .ctrs, .out, .free]
  | .genSettleRecheck .. =>
    [.pkg, .txn, .ledger, .part, .dir, .mem, .dram, .deep, .integ, .recp, .mirror, .leaves, .power, .sec, .sessions, .obs, .rings, .kodp, .ctrs, .out, .free]
  | .retireUnit .. =>
    [.pkg, .ledger, .dir, .mem, .dram, .deep, .integ, .recp, .core, .mirror, .leaves, .power, .sessions, .boot, .units, .obs, .rings, .kodp, .running, .ctrs, .out, .free]
  | .bringupStepDone .. =>
    [.pkg, .link, .txn, .ledger, .mem, .dram, .deep, .integ, .twin, .mirror, .traffic, .leaves, .sec, .sessions, .boot, .units, .fw, .rings, .kodp, .ctrs, .out, .free]
  | .allreduceDeadline .. =>
    [.pkg, .txn, .ledger, .part, .dir, .mem, .dram, .deep, .integ, .recp, .core, .mirror, .leaves, .power, .sec, .sessions, .obs, .rings, .kodp, .ctrs, .out, .free]
  | .fill .. | .copy .. | .compare .. | .reduce .. | .gatherReduce .. | .scatterAdd .. | .allreduceStage .. | .optimStep .. | .kvSelect ..
  | .deltaPack .. | .digest .. | .publish .. | .kernel .. | .recipeReservedCode .. =>
    [.pkg, .txn, .ledger, .part, .dir, .mem, .dram, .deep, .integ, .recp, .mirror, .traffic, .leaves, .power, .sec, .sessions, .obs, .rings, .kodp, .ctrs, .out, .free]
  | .announce .. | .twHello .. | .twKeepalive .. =>
    [.pkg, .txn, .ledger, .part, .dir, .mem, .deep, .recp, .core, .twin, .mirror, .traffic, .leaves, .power, .sec, .sessions, .obs, .rings, .kodp, .running, .ctrs, .out, .free]
  | .recipeAbort .. =>
    [.pkg, .txn, .ledger, .part, .dir, .mem, .dram, .deep, .integ, .recp, .core, .mirror, .leaves, .power, .sec, .sessions, .obs, .rings, .kodp, .running, .ctrs, .out, .free]
  | .attach .. | .detach .. | .detachComplete .. | .quarantineExpiry .. | .recipeCancel .. =>
    [.pkg, .txn, .ledger, .part, .dir, .mem, .dram, .deep, .integ, .recp, .core, .mirror, .traffic, .leaves, .power, .sec, .sessions, .obs, .rings, .kodp, .ctrs, .out, .free]
  | .serviceIn .. =>
    [.pkg, .link, .txn, .ledger, .dir, .mem, .dram, .deep, .recp, .core, .mirror, .traffic, .leaves, .power, .sessions, .boot, .units, .partials, .rings, .kodp, .running, .ctrs, .out, .free]
  | .resetPartition .. =>
    [.pkg, .txn, .ledger, .dir, .mem, .dram, .deep, .integ, .recp, .core, .mirror, .leaves, .power, .sec, .sessions, .boot, .units, .partials, .rings, .kodp, .running, .ctrs, .out, .free]
  | .takeoverStart =>
    [.pkg, .txn, .ledger, .part, .dir, .mem, .dram, .deep, .integ, .recp, .core, .twin, .mirror, .traffic, .leaves, .power, .sec, .sessions, .obs, .rings, .kodp, .ctrs, .out, .free]
  | .writeback .. | .evictClean .. | .wbData .. | .snpData .. | .snpRsp .. | .crossed .. | .requestOrdered .. | .recallDeadline ..
  | .parkedPresent .. | .pairingTimeout .. | .requestWithdraw .. | .recallRange .. | .dramDataReturn .. | .dtReadData ..
  | .deepMissingUnits .. | .deepWaitResume .. | .sledWaitTimeout .. | .deepPin .. | .deepPrefetch .. | .deepFlush .. | .deepTrim ..
  | .rpData .. | .quiesceBarrier =>
    [.pkg, .txn, .ledger, .part, .dir, .mem, .dram, .deep, .integ, .recp, .twin, .mirror, .traffic, .leaves, .power, .sec, .sessions, .obs, .rings, .kodp, .running, .ctrs, .out, .free]
  | .leaseExpiry .. | .partnerLossWalkDone .. | .poolRequestTimeout .. | .ctxInvalidate .. | .partnerEvict .. | .dtCmp .. | .recipeEnd ..
  | .poolAccessReturn .. | .accessTimeout .. | .texit .. | .mrAck .. | .ownerKeepaliveLoss | .refillTick =>
    [.pkg, .txn, .ledger, .part, .dir, .mem, .dram, .deep, .integ, .recp, .core, .twin, .mirror, .traffic, .leaves, .power, .sec, .sessions, .obs, .rings, .kodp, .running, .ctrs, .out, .free]
  | .reheatStepDone .. =>
    [.pkg, .link, .txn, .ledger, .dir, .mem, .dram, .deep, .integ, .recp, .core, .twin, .mirror, .traffic, .leaves, .power, .sessions, .boot, .units, .fw, .rings, .kodp, .running, .ctrs, .out, .free]
  | .tileCommit .. =>
    [.pkg, .txn, .ledger, .part, .dir, .mem, .dram, .deep, .integ, .recp, .core, .twin, .mirror, .traffic, .leaves, .power, .sec, .sessions, .boot, .units, .obs, .rings, .kodp, .running, .ctrs, .out, .free]
  | .handshakeTimeout .. =>
    [.pkg, .link, .txn, .ledger, .dir, .mem, .dram, .deep, .integ, .recp, .core, .twin, .mirror, .traffic, .leaves, .power, .sec, .sessions, .boot, .units, .partials, .obs, .rings, .kodp, .running, .ctrs, .out, .free]
  | .poresetAssert =>
    [.pkg, .link, .txn, .ledger, .part, .dir, .mem, .dram, .deep, .integ, .recp, .core, .twin, .mirror, .traffic, .leaves, .power, .sec, .sessions, .boot, .units, .partials, .fw, .obs, .time, .rings, .kodp, .running, .dict, .ctrs, .out]
  | .warmresetStart | .kslWriteFrame .. | .flitReceived .. | .resetPackage .. | .kodpFragment .. | .secured .. | .mgmtFrame .. =>
    Part.every

end Sys2Proof.Machine
end

