-- ==== Sys2Proof/WellFormed.lean ====
section
/-!
DEFINITION. WellFormed.lean: which commands are well formed: every number within the width its field has in the spec, every byte string of
its length.  What a well-formed command may not do in a state is its meaning's to say.
-/
namespace Sys2Proof
open Machine

/-- Below a bound. -/
def lt (v n : Nat) : Bool := decide (v < n)
/-- A two's complement immediate of `w` bits (R437). -/
def simm (w : Nat) (v : Int) : Bool := decide (-(2 ^ (w - 1) : Int) ≤ v) && decide (v < 2 ^ (w - 1))
/-- An optional number below a bound. -/
def optLt (v : Option Nat) (n : Nat) : Bool := match v with | some x => lt x n | none => true
/-- Every number below a bound. -/
def allLt (l : List Nat) (n : Nat) : Bool := l.all (fun x => lt x n)

/-- A client (R660): the board controller is one; an EID has 18 bits; a session ID 32. -/
def Client.wf (c : Client) : Bool :=
  optLt c.session (2 ^ 32) && (match c.transport with
    | .ksl => c.addr == 0 && c.port == 0
    | .vc7 => lt c.addr (2 ^ 18) && c.port == 0
    | .udp => lt c.addr (2 ^ 128) && lt c.port 65536)
/-- A request (R651, R657). -/
def Req.wf (r : Req) : Bool := Client.wf r.client && lt r.id 65536 && lt r.tag 4096
/-- A packet: the widths of R153, and whole slots up to 32 (R122). -/
def Packet.wf (p : Packet) : Bool :=
  lt p.vc 8 && lt p.op 256 && lt p.dest (2 ^ 18) && lt p.src (2 ^ 18) && lt p.tag 4096 && lt p.rsv 32 && lt p.status 256 && lt p.harg 65536
    && lt p.crc (2 ^ 32) && p.body.length % 16 == 0 && lt p.body.length 497
/-- A flit (R120). -/
def Flit.wf (f : Flit) : Bool :=
  lt f.seq 4096 && lt f.ack 4096 && lt f.headMap (2 ^ 15) && lt f.cont 16 && f.slots.length == 15 && f.slots.all (fun b => b.length == 16) && lt f.crc (2 ^ 64)
    && lt f.rsv (2 ^ 18) && f.bad.all (fun l => lt l 8)
/-- What a lane's receiver reports (R102, R141). -/
def LaneFec.wf (f : LaneFec) : Bool :=
  lt f.corrected (2 ^ 32) && lt f.uncorr (2 ^ 32) && lt f.prbsBad (2 ^ 32) && decide (-(2 ^ 15) ≤ f.power) && decide (f.power < 2 ^ 15)
/-- A hardware thread: its core, and its number in the core (R428, R592). -/
def threadOk (core thread : Nat) : Bool := lt core 288 && lt thread 64

/-- Whether a command is well formed. -/
def Instr.wf : Instr → Bool
  | .poresetAssert => true
  | .strapSample s1 s2 s3 => lt s1 256 && lt s2 256 && lt s3 256
  | .warmresetAssert => true
  | .warmresetShort => true
  | .warmresetStart => true
  | .brownOut _ => true
  | .refclkLoss => true
  | .thermalSample _ => true
  | .thermtrip _ _ => true
  | .powerStepAck _ => true
  | .powerStepStart => true
  | .stepAckMissing => true
  | .stepAckStuck => true
  | .holdupSample _ => true
  | .kslWriteFrame addr len msg crc => lt addr 128 && lt len 65536 && msg.length == len && lt crc 65536
  | .kslReadFrame addr => lt addr 128
  | .kslFrameTimeout => true
  | .debugHoldTimeout => true
  | .bakerBootComplete => true
  | .laserInputLow engine => lt engine 10
  | .laserInputsDark engine => lt engine 10
  | .laserInputRestored engine input => lt engine 10 && lt input 2
  | .laserLow engine input => lt engine 10 && lt input 2
  | .lockstepDisagreement die => lt die 2
  | .laneLos port lane => lt port 40 && lt lane 9
  | .laneSignalRestored port lane => lt port 40 && lt lane 9
  | .portDark port => lt port 40
  | .detectLit port => lt port 40
  | .lcbReceived port lane lcb => lt port 40 && lt lane 9 && lcb.block.length == 320 && LaneFec.wf lcb.fec
  | .trainComplete port => lt port 40
  | .trainTimeout port => lt port 40
  | .retrainComplete port => lt port 40
  | .retrainTimeout port => lt port 40
  | .downHoldExpiry port => lt port 40
  | .flitReceived port flit => lt port 40 && Flit.wf flit
  | .flitSend port => lt port 40
  | .nakTimer port => lt port 40
  | .replayTimeout port => lt port 40
  | .oldestFlitTimeout port => lt port 40
  | .creditReportTimer port => lt port 40
  | .chargedReportTimer port => lt port 40
  | .timeSyncSend port => lt port 40
  | .portEnable r port => Req.wf r && lt port 40
  | .portDisable r port => Req.wf r && lt port 40
  | .portRetrain r port => Req.wf r && lt port 40
  | .portLaneRestore r port => Req.wf r && lt port 40
  | .attach port p => lt port 40 && Packet.wf p
  | .heartbeat port p => lt port 40 && Packet.wf p
  | .detach port p => lt port 40 && Packet.wf p
  | .detachComplete slot => lt slot 8192
  | .leaseExpiry slot => lt slot 8192
  | .partnerLossWalkDone slot => lt slot 8192
  | .quarantineExpiry slot => lt slot 8192
  | .e2eNak port p => lt port 40 && Packet.wf p
  | .announce port p => lt port 40 && Packet.wf p
  | .rdShared port p => lt port 40 && Packet.wf p
  | .rdUnique port p => lt port 40 && Packet.wf p
  | .rdOnce port p => lt port 40 && Packet.wf p
  | .wrLine port p => lt port 40 && Packet.wf p
  | .wrPart port p => lt port 40 && Packet.wf p
  | .writeback port p => lt port 40 && Packet.wf p
  | .evictClean port p => lt port 40 && Packet.wf p
  | .upgrade port p => lt port 40 && Packet.wf p
  | .atomic port p => lt port 40 && Packet.wf p
  | .wrData port p => lt port 40 && Packet.wf p
  | .wbData port p => lt port 40 && Packet.wf p
  | .snpData port p => lt port 40 && Packet.wf p
  | .atomicOpnd port p => lt port 40 && Packet.wf p
  | .snpRsp port p => lt port 40 && Packet.wf p
  | .crossed port p => lt port 40 && Packet.wf p
  | .stashRsp port p => lt port 40 && Packet.wf p
  | .rtRead port p => lt port 40 && Packet.wf p
  | .recipeCancel port p => lt port 40 && Packet.wf p
  | .requestOrdered src tag => lt src (2 ^ 18) && lt tag 4096
  | .recallDeadline line => lt line (2 ^ 46)
  | .parkedPresent line => lt line (2 ^ 46)
  | .pairingTimeout src tag => lt src (2 ^ 18) && lt tag 4096
  | .requestWithdraw src tag => lt src (2 ^ 18) && lt tag 4096
  | .unroutableTimeout dest => lt dest (2 ^ 18)
  | .poolRequestTimeout dest tag => lt dest (2 ^ 18) && lt tag 4096
  | .poolResend dest tag => lt dest (2 ^ 18) && lt tag 4096
  | .genSettleRecheck src tag _ => lt src (2 ^ 18) && lt tag 4096
  | .ctxInvalidate r ctx gen => Req.wf r && lt ctx 65536 && lt gen (2 ^ 32)
  | .recallRange r pa length => Req.wf r && lt pa (2 ^ 53) && lt length (2 ^ 53)
  | .partnerEvict r slot => Req.wf r && lt slot 8192
  | .fqOverflowClear r ctx => Req.wf r && lt ctx 65536
  | .directoryLookup r pa => Req.wf r && lt pa (2 ^ 53)
  | .dramCommandSlot channel pseudo => lt channel 256 && lt pseudo 2
  | .dramDataReturn channel _ errors => lt channel 256 && errors.all (fun e => lt e.1 36 && lt e.2 (2 ^ 32))
  | .refreshInterval channel pseudo bank => lt channel 256 && lt pseudo 2 && lt bank 64
  | .dramCommandTimeout channel _ => lt channel 256
  | .channelRetrainDone channel _ => lt channel 256
  | .panicCap channel _ => lt channel 256
  | .panicResume channel _ => lt channel 256
  | .driftTrack channel => lt channel 256
  | .channelRetrain r channel => Req.wf r && lt channel 256
  | .dtInfoData port p => lt port 40 && Packet.wf p
  | .dtReadData port p => lt port 40 && Packet.wf p
  | .dtCmp port p => lt port 40 && Packet.wf p
  | .deepMissingUnits cluster set way => lt cluster 16 && lt set (2 ^ 32) && lt way 16
  | .dirtyAgeExpiry cluster set way => lt cluster 16 && lt set (2 ^ 32) && lt way 16
  | .deepWaitResume cluster => lt cluster 16
  | .sledWaitTimeout sled => lt sled 256
  | .deepPin r pa length => Req.wf r && lt pa (2 ^ 53) && lt length (2 ^ 53)
  | .deepUnpin r pa length => Req.wf r && lt pa (2 ^ 53) && lt length (2 ^ 53)
  | .deepPrefetch r pa length => Req.wf r && lt pa (2 ^ 53) && lt length (2 ^ 53)
  | .deepFlush r sled => Req.wf r && lt sled 256
  | .deepTrim r pa length => Req.wf r && lt pa (2 ^ 53) && lt length (2 ^ 53)
  | .sledClaimForce r sled => Req.wf r && lt sled 256
  | .scrubLine pa => lt pa (2 ^ 53)
  | .rowRepair channel pseudo bank row => lt channel 256 && lt pseudo 2 && lt bank 64 && lt row (2 ^ 20)
  | .bankRepairDone channel pseudo bank => lt channel 256 && lt pseudo 2 && lt bank 64
  | .decoderSelftestHourly channel _ => lt channel 256
  | .errorLogClear r => Req.wf r
  | .deepSetRelease r cluster set => Req.wf r && lt cluster 16 && lt set (2 ^ 32)
  | .poisonInject r pa => Req.wf r && lt pa (2 ^ 53)
  | .fill port p => lt port 40 && Packet.wf p
  | .copy port p => lt port 40 && Packet.wf p
  | .compare port p => lt port 40 && Packet.wf p
  | .reduce port p => lt port 40 && Packet.wf p
  | .gatherReduce port p => lt port 40 && Packet.wf p
  | .scatterAdd port p => lt port 40 && Packet.wf p
  | .allreduceStage port p => lt port 40 && Packet.wf p
  | .optimStep port p => lt port 40 && Packet.wf p
  | .kvSelect port p => lt port 40 && Packet.wf p
  | .deltaPack port p => lt port 40 && Packet.wf p
  | .digest port p => lt port 40 && Packet.wf p
  | .publish port p => lt port 40 && Packet.wf p
  | .kernel port p => lt port 40 && Packet.wf p
  | .sugarQueueServe => true
  | .grantRenewal _ => true
  | .grantEnd _ _ => true
  | .grantRampDone _ _ => true
  | .ballastHoldExpiry => true
  | .admissionLimitTimeout _ => true
  | .tileDispatch _ => true
  | .coreSteal core => lt core 288
  | .tileCheck core => lt core 288
  | .tileCommit core _ => lt core 288
  | .recipeEnd _ => true
  | .allreduceDeadline _ => true
  | .recipeAbort r slot tag => Req.wf r && lt slot 8192 && lt tag 4096
  | .kernelTileStart core => lt core 288
  | .poolAccessReturn core thread _ _ => threadOk core thread
  | .instructionWatchdog core thread => threadOk core thread
  | .coreTileTimeout core => lt core 288
  | .accessTimeout core thread _ => threadOk core thread
  | .nop core thread => threadOk core thread
  | .texit core thread => threadOk core thread
  | .trap core thread rs1 => threadOk core thread && lt rs1 64
  | .fence core thread => threadOk core thread
  | .bar core thread => threadOk core thread
  | .barf core thread => threadOk core thread
  | .tres core thread rs1 => threadOk core thread && lt rs1 64
  | .time core thread rd => threadOk core thread && lt rd 64
  | .xpois core thread rd rs1 => threadOk core thread && lt rd 64 && lt rs1 64
  | .vpois core thread rd rs1 => threadOk core thread && lt rd 64 && lt rs1 64
  | .apois core thread rd rs1 => threadOk core thread && lt rd 64 && lt rs1 64
  | .pset core thread rd rs1 => threadOk core thread && lt rd 64 && lt rs1 64
  | .pget core thread rd rs1 => threadOk core thread && lt rd 64 && lt rs1 64
  | .aluAdd core thread rd rs1 rs2 => threadOk core thread && lt rd 64 && lt rs1 64 && lt rs2 64
  | .aluSub core thread rd rs1 rs2 => threadOk core thread && lt rd 64 && lt rs1 64 && lt rs2 64
  | .aluMul core thread rd rs1 rs2 => threadOk core thread && lt rd 64 && lt rs1 64 && lt rs2 64
  | .aluMulh core thread rd rs1 rs2 => threadOk core thread && lt rd 64 && lt rs1 64 && lt rs2 64
  | .aluMulhu core thread rd rs1 rs2 => threadOk core thread && lt rd 64 && lt rs1 64 && lt rs2 64
  | .aluDiv core thread rd rs1 rs2 => threadOk core thread && lt rd 64 && lt rs1 64 && lt rs2 64
  | .aluDivu core thread rd rs1 rs2 => threadOk core thread && lt rd 64 && lt rs1 64 && lt rs2 64
  | .aluRem core thread rd rs1 rs2 => threadOk core thread && lt rd 64 && lt rs1 64 && lt rs2 64
  | .aluRemu core thread rd rs1 rs2 => threadOk core thread && lt rd 64 && lt rs1 64 && lt rs2 64
  | .aluAnd core thread rd rs1 rs2 => threadOk core thread && lt rd 64 && lt rs1 64 && lt rs2 64
  | .aluOr core thread rd rs1 rs2 => threadOk core thread && lt rd 64 && lt rs1 64 && lt rs2 64
  | .aluXor core thread rd rs1 rs2 => threadOk core thread && lt rd 64 && lt rs1 64 && lt rs2 64
  | .aluSll core thread rd rs1 rs2 => threadOk core thread && lt rd 64 && lt rs1 64 && lt rs2 64
  | .aluSrl core thread rd rs1 rs2 => threadOk core thread && lt rd 64 && lt rs1 64 && lt rs2 64
  | .aluSra core thread rd rs1 rs2 => threadOk core thread && lt rd 64 && lt rs1 64 && lt rs2 64
  | .aluSlt core thread rd rs1 rs2 => threadOk core thread && lt rd 64 && lt rs1 64 && lt rs2 64
  | .aluSltu core thread rd rs1 rs2 => threadOk core thread && lt rd 64 && lt rs1 64 && lt rs2 64
  | .aluMin core thread rd rs1 rs2 => threadOk core thread && lt rd 64 && lt rs1 64 && lt rs2 64
  | .aluMax core thread rd rs1 rs2 => threadOk core thread && lt rd 64 && lt rs1 64 && lt rs2 64
  | .aluMinu core thread rd rs1 rs2 => threadOk core thread && lt rd 64 && lt rs1 64 && lt rs2 64
  | .aluMaxu core thread rd rs1 rs2 => threadOk core thread && lt rd 64 && lt rs1 64 && lt rs2 64
  | .addi core thread rd rs1 imm => threadOk core thread && lt rd 64 && lt rs1 64 && simm 14 imm
  | .andi core thread rd rs1 imm => threadOk core thread && lt rd 64 && lt rs1 64 && simm 14 imm
  | .ori core thread rd rs1 imm => threadOk core thread && lt rd 64 && lt rs1 64 && simm 14 imm
  | .xori core thread rd rs1 imm => threadOk core thread && lt rd 64 && lt rs1 64 && simm 14 imm
  | .shiSll core thread rd rs1 sh => threadOk core thread && lt rd 64 && lt rs1 64 && lt sh 64
  | .shiSrl core thread rd rs1 sh => threadOk core thread && lt rd 64 && lt rs1 64 && lt sh 64
  | .shiSra core thread rd rs1 sh => threadOk core thread && lt rd 64 && lt rs1 64 && lt sh 64
  | .slti core thread rd rs1 imm => threadOk core thread && lt rd 64 && lt rs1 64 && simm 14 imm
  | .lui core thread rd imm => threadOk core thread && lt rd 64 && simm 20 imm
  | .beq core thread rs1 rs2 off => threadOk core thread && lt rs1 64 && lt rs2 64 && simm 14 off
  | .bne core thread rs1 rs2 off => threadOk core thread && lt rs1 64 && lt rs2 64 && simm 14 off
  | .blt core thread rs1 rs2 off => threadOk core thread && lt rs1 64 && lt rs2 64 && simm 14 off
  | .bge core thread rs1 rs2 off => threadOk core thread && lt rs1 64 && lt rs2 64 && simm 14 off
  | .bltu core thread rs1 rs2 off => threadOk core thread && lt rs1 64 && lt rs2 64 && simm 14 off
  | .bgeu core thread rs1 rs2 off => threadOk core thread && lt rs1 64 && lt rs2 64 && simm 14 off
  | .jal core thread rd imm => threadOk core thread && lt rd 64 && simm 20 imm
  | .jalr core thread rd rs1 imm => threadOk core thread && lt rd 64 && lt rs1 64 && simm 14 imm
  | .pbr core thread pr cond off => threadOk core thread && lt pr 8 && lt cond 4 && simm 14 off
  | .tld core thread rt rb size imm => threadOk core thread && lt rt 64 && lt rb 64 && lt size 4 && simm 12 imm
  | .tlds core thread rt rb size imm => threadOk core thread && lt rt 64 && lt rb 64 && lt size 4 && simm 12 imm
  | .tst core thread rt rb size imm => threadOk core thread && lt rt 64 && lt rb 64 && lt size 4 && simm 12 imm
  | .vtld core thread vt rb imm => threadOk core thread && lt vt 32 && lt rb 64 && simm 12 imm
  | .vtst core thread vt rb pred imm => threadOk core thread && lt vt 32 && lt rb 64 && lt pred 8 && simm 12 imm
  | .tamo core thread rd rs1 rs2 subop => threadOk core thread && lt rd 64 && lt rs1 64 && lt rs2 64 && lt subop 16
  | .pld core thread rt rb size imm => threadOk core thread && lt rt 64 && lt rb 64 && lt size 4 && simm 12 imm
  | .plds core thread rt rb size imm => threadOk core thread && lt rt 64 && lt rb 64 && lt size 4 && simm 12 imm
  | .pst core thread rt rb size imm => threadOk core thread && lt rt 64 && lt rb 64 && lt size 4 && simm 12 imm
  | .vpld core thread vt rb imm => threadOk core thread && lt vt 32 && lt rb 64 && simm 12 imm
  | .vpst core thread vt rb pred imm => threadOk core thread && lt vt 32 && lt rb 64 && lt pred 8 && simm 12 imm
  | .pamo core thread rd rs1 rs2 subop => threadOk core thread && lt rd 64 && lt rs1 64 && lt rs2 64 && lt subop 16
  | .lswap core thread vn vc rb => threadOk core thread && lt vn 32 && lt vc 32 && lt rb 64
  | .lcas core thread vn vc rb pd => threadOk core thread && lt vn 32 && lt vc 32 && lt rb 64 && lt pd 8
  | .vpld2 core thread vt rb imm => threadOk core thread && lt vt 32 && lt rb 64 && simm 12 imm
  | .vpst2 core thread vt rb imm => threadOk core thread && lt vt 32 && lt rb 64 && simm 12 imm
  | .varithAdd core thread vd vs1 vs2 pred fmt => threadOk core thread && lt vd 32 && lt vs1 32 && lt vs2 32 && lt pred 8 && lt fmt 16
  | .varithSub core thread vd vs1 vs2 pred fmt => threadOk core thread && lt vd 32 && lt vs1 32 && lt vs2 32 && lt pred 8 && lt fmt 16
  | .varithMul core thread vd vs1 vs2 pred fmt => threadOk core thread && lt vd 32 && lt vs1 32 && lt vs2 32 && lt pred 8 && lt fmt 16
  | .varithMin core thread vd vs1 vs2 pred fmt => threadOk core thread && lt vd 32 && lt vs1 32 && lt vs2 32 && lt pred 8 && lt fmt 16
  | .varithMax core thread vd vs1 vs2 pred fmt => threadOk core thread && lt vd 32 && lt vs1 32 && lt vs2 32 && lt pred 8 && lt fmt 16
  | .varithAbs core thread vd vs1 pred fmt => threadOk core thread && lt vd 32 && lt vs1 32 && lt pred 8 && lt fmt 16
  | .varithNeg core thread vd vs1 pred fmt => threadOk core thread && lt vd 32 && lt vs1 32 && lt pred 8 && lt fmt 16
  | .varithAnd core thread vd vs1 vs2 pred fmt => threadOk core thread && lt vd 32 && lt vs1 32 && lt vs2 32 && lt pred 8 && lt fmt 16
  | .varithOr core thread vd vs1 vs2 pred fmt => threadOk core thread && lt vd 32 && lt vs1 32 && lt vs2 32 && lt pred 8 && lt fmt 16
  | .varithXor core thread vd vs1 vs2 pred fmt => threadOk core thread && lt vd 32 && lt vs1 32 && lt vs2 32 && lt pred 8 && lt fmt 16
  | .varithShl core thread vd vs1 vs2 pred fmt => threadOk core thread && lt vd 32 && lt vs1 32 && lt vs2 32 && lt pred 8 && lt fmt 16
  | .varithShr core thread vd vs1 vs2 pred fmt => threadOk core thread && lt vd 32 && lt vs1 32 && lt vs2 32 && lt pred 8 && lt fmt 16
  | .varithSar core thread vd vs1 vs2 pred fmt => threadOk core thread && lt vd 32 && lt vs1 32 && lt vs2 32 && lt pred 8 && lt fmt 16
  | .varithDiv core thread vd vs1 vs2 pred fmt => threadOk core thread && lt vd 32 && lt vs1 32 && lt vs2 32 && lt pred 8 && lt fmt 16
  | .varithSqrt core thread vd vs1 pred fmt => threadOk core thread && lt vd 32 && lt vs1 32 && lt pred 8 && lt fmt 16
  | .fma core thread vd vs1 vs2 pred fmt => threadOk core thread && lt vd 32 && lt vs1 32 && lt vs2 32 && lt pred 8 && lt fmt 16
  | .fms core thread vd vs1 vs2 pred fmt => threadOk core thread && lt vd 32 && lt vs1 32 && lt vs2 32 && lt pred 8 && lt fmt 16
  | .fnma core thread vd vs1 vs2 pred fmt => threadOk core thread && lt vd 32 && lt vs1 32 && lt vs2 32 && lt pred 8 && lt fmt 16
  | .vcmpEq core thread pd vs1 vs2 pred fmt => threadOk core thread && lt pd 8 && lt vs1 32 && lt vs2 32 && lt pred 8 && lt fmt 16
  | .vcmpNe core thread pd vs1 vs2 pred fmt => threadOk core thread && lt pd 8 && lt vs1 32 && lt vs2 32 && lt pred 8 && lt fmt 16
  | .vcmpLt core thread pd vs1 vs2 pred fmt => threadOk core thread && lt pd 8 && lt vs1 32 && lt vs2 32 && lt pred 8 && lt fmt 16
  | .vcmpLe core thread pd vs1 vs2 pred fmt => threadOk core thread && lt pd 8 && lt vs1 32 && lt vs2 32 && lt pred 8 && lt fmt 16
  | .vcmpGt core thread pd vs1 vs2 pred fmt => threadOk core thread && lt pd 8 && lt vs1 32 && lt vs2 32 && lt pred 8 && lt fmt 16
  | .vcmpGe core thread pd vs1 vs2 pred fmt => threadOk core thread && lt pd 8 && lt vs1 32 && lt vs2 32 && lt pred 8 && lt fmt 16
  | .vcmpUnord core thread pd vs1 vs2 pred fmt => threadOk core thread && lt pd 8 && lt vs1 32 && lt vs2 32 && lt pred 8 && lt fmt 16
  | .vcmpLtu core thread pd vs1 vs2 pred fmt => threadOk core thread && lt pd 8 && lt vs1 32 && lt vs2 32 && lt pred 8 && lt fmt 16
  | .vcmpGeu core thread pd vs1 vs2 pred fmt => threadOk core thread && lt pd 8 && lt vs1 32 && lt vs2 32 && lt pred 8 && lt fmt 16
  | .vcvt core thread vd vs1 part pred fmt fmtTo => threadOk core thread && lt vd 32 && lt vs1 32 && lt part 16 && lt pred 8 && lt fmt 16 && lt fmtTo 16
  | .vmov core thread vd vs1 pred fmt => threadOk core thread && lt vd 32 && lt vs1 32 && lt pred 8 && lt fmt 16
  | .vperm core thread vd vs1 vs2 pred fmt => threadOk core thread && lt vd 32 && lt vs1 32 && lt vs2 32 && lt pred 8 && lt fmt 16
  | .vsel core thread vd vs1 vs2 pred fmt => threadOk core thread && lt vd 32 && lt vs1 32 && lt vs2 32 && lt pred 8 && lt fmt 16
  | .vbcast core thread vd xs pred fmt => threadOk core thread && lt vd 32 && lt xs 64 && lt pred 8 && lt fmt 16
  | .vext core thread xd vs index fmt => threadOk core thread && lt xd 64 && lt vs 32 && lt index 128 && lt fmt 16
  | .vins core thread vd xs index fmt => threadOk core thread && lt vd 32 && lt xs 64 && lt index 128 && lt fmt 16
  | .vredAdd core thread xd vs pred fmt => threadOk core thread && lt xd 64 && lt vs 32 && lt pred 8 && lt fmt 16
  | .vredMin core thread xd vs pred fmt => threadOk core thread && lt xd 64 && lt vs 32 && lt pred 8 && lt fmt 16
  | .vredMax core thread xd vs pred fmt => threadOk core thread && lt xd 64 && lt vs 32 && lt pred 8 && lt fmt 16
  | .vredMinu core thread xd vs pred fmt => threadOk core thread && lt xd 64 && lt vs 32 && lt pred 8 && lt fmt 16
  | .vredMaxu core thread xd vs pred fmt => threadOk core thread && lt xd 64 && lt vs 32 && lt pred 8 && lt fmt 16
  | .vredAnd core thread xd vs pred fmt => threadOk core thread && lt xd 64 && lt vs 32 && lt pred 8 && lt fmt 16
  | .vredOr core thread xd vs pred fmt => threadOk core thread && lt xd 64 && lt vs 32 && lt pred 8 && lt fmt 16
  | .vredXor core thread xd vs pred fmt => threadOk core thread && lt xd 64 && lt vs 32 && lt pred 8 && lt fmt 16
  | .aadd core thread ad vs1 xs pred fmt => threadOk core thread && lt ad 8 && lt vs1 32 && lt xs 64 && lt pred 8 && lt fmt 16
  | .adot core thread ad vs1 vs2 xs pred fmt => threadOk core thread && lt ad 8 && lt vs1 32 && lt vs2 32 && lt xs 64 && lt pred 8 && lt fmt 16
  | .aclr core thread ad => threadOk core thread && lt ad 8
  | .amov core thread ad as_ => threadOk core thread && lt ad 8 && lt as_ 8
  | .amerge core thread ad as_ => threadOk core thread && lt ad 8 && lt as_ 8
  | .aout core thread ad vr index fmt => threadOk core thread && lt ad 8 && lt vr 32 && lt index 128 && lt fmt 16
  | .asave core thread ad xr => threadOk core thread && lt ad 8 && lt xr 64
  | .aload core thread ad xr => threadOk core thread && lt ad 8 && lt xr 64
  | .kernelLoad r ctx addr len => Req.wf r && lt ctx 65536 && lt addr (2 ^ 64) && lt len (2 ^ 32)
  | .kernelUnload r handle => Req.wf r && lt handle 65536
  | .twHello port p => lt port 40 && Packet.wf p
  | .twKeepalive port p => lt port 40 && Packet.wf p
  | .twRelease port p => lt port 40 && Packet.wf p
  | .mrAck port p => lt port 40 && Packet.wf p
  | .mrLine port p => lt port 40 && Packet.wf p
  | .mrState port p => lt port 40 && Packet.wf p
  | .rsLines port p => lt port 40 && Packet.wf p
  | .rpReq port p => lt port 40 && Packet.wf p
  | .rpData port p => lt port 40 && Packet.wf p
  | .hbReq port p => lt port 40 && Packet.wf p
  | .lampFrame lamp frame => lt lamp 2 && lt frame (2 ^ 64)
  | .lampFault lamp => lt lamp 2
  | .keepaliveSend => true
  | .standbyKeepaliveLoss => true
  | .ownerKeepaliveLoss => true
  | .takeoverStart => true
  | .takeoverClaimDeadline => true
  | .announceTimer => true
  | .enrolRetry => true
  | .hbReqTimer => true
  | .quiesceBarrier => true
  | .quiesceWaitExpiry => true
  | .handbackDrainTimeout => true
  | .releaseLampEnd => true
  | .releasingTimeout => true
  | .forceArmExpiry => true
  | .resyncSend stream => lt stream 2
  | .twinEnableWrite r value => Req.wf r && lt value (2 ^ 128)
  | .twinForce r epoch => Req.wf r && lt epoch (2 ^ 32)
  | .twinForceCancel r => Req.wf r
  | .twinHandover r => Req.wf r
  | .twinQuiesce r => Req.wf r
  | .refillTick => true
  | .holdLimitExpiry sub port vc => lt sub 8193 && lt port 40 && lt vc 8
  | .queueSample => true
  | .histogramClear r slot => Req.wf r && lt slot 8192
  | .powerSample _ => true
  | .governorTick => true
  | .freqStep cluster => lt cluster 16
  | .napAllowance => true
  | .idleTimerExpiry unit => lt unit (2 ^ 64)
  | .calendarWake unit => lt unit (2 ^ 64)
  | .powerEntryDone unit => lt unit (2 ^ 64)
  | .wakeRequest unit => lt unit (2 ^ 64)
  | .wakeComplete unit => lt unit (2 ^ 64)
  | .jobOpen r job tenant => Req.wf r && lt job (2 ^ 32) && lt tenant 65536
  | .jobClose r job => Req.wf r && lt job (2 ^ 32)
  | .quietHint r clusters stackList stop => Req.wf r && lt clusters 65536 && lt stackList 256 && lt stop (2 ^ 64)
  | .jobStepTimer r job first period lead clusters stackList => Req.wf r && lt job (2 ^ 32) && lt first (2 ^ 64) && lt period (2 ^ 32) && lt lead (2 ^ 32) && lt clusters 65536 && lt stackList 256
  | .getVersion r => Req.wf r
  | .getCapabilities r flags => Req.wf r && lt flags (2 ^ 32)
  | .negotiateAlgorithms r offered => Req.wf r && lt offered 2
  | .getDigests r => Req.wf r
  | .getCertificate r slot offset length => Req.wf r && lt slot 16 && lt offset 65536 && lt length 65536
  | .challenge r slot nonce => Req.wf r && lt slot 16 && lt nonce (2 ^ 256)
  | .getMeasurements r index nonce => Req.wf r && lt index 256 && lt nonce (2 ^ 256)
  | .keyExchange r exchange nonce => Req.wf r && lt exchange (2 ^ 768) && lt nonce (2 ^ 256)
  | .finish r session sig signer => Req.wf r && lt session (2 ^ 32) && lt sig (2 ^ 768) && optLt signer (2 ^ 768)
  | .spdmHeartbeat r session => Req.wf r && lt session (2 ^ 32)
  | .keyUpdate r session => Req.wf r && lt session (2 ^ 32)
  | .endSession r session => Req.wf r && lt session (2 ^ 32)
  | .spdmHeartbeatTimeout session => lt session (2 ^ 32)
  | .tenantCreate r tenant key => Req.wf r && lt tenant 65536 && lt key (2 ^ 768)
  | .tenantRetire r tenant => Req.wf r && lt tenant 65536
  | .tenantSeal r => Req.wf r
  | .memKeySet r peerTenant keyId key => Req.wf r && lt peerTenant 65536 && lt keyId 256 && lt key (2 ^ 512)
  | .memKeyDestroy r peerTenant keyId => Req.wf r && lt peerTenant 65536 && lt keyId 256
  | .jobKeySet r peerTenant job gen key switchAt => Req.wf r && lt peerTenant 65536 && lt job (2 ^ 32) && lt gen (2 ^ 32) && lt key (2 ^ 256) && lt switchAt (2 ^ 64)
  | .jobBind r peerTenant job eids => Req.wf r && lt peerTenant 65536 && lt job (2 ^ 32) && allLt eids (2 ^ 32)
  | .jobKeyDestroy r peerTenant job eid => Req.wf r && lt peerTenant 65536 && lt job (2 ^ 32) && lt eid (2 ^ 32)
  | .kernelSignKeySet r peerTenant keyId key => Req.wf r && lt peerTenant 65536 && lt keyId 256 && lt key (2 ^ 768)
  | .jobKeySwitch job => lt job (2 ^ 32)
  | .jobKeyRetireOld job => lt job (2 ^ 32)
  | .debugChallenge r => Req.wf r
  | .debugToken r token => Req.wf r && token.length == 352
  | .debugWithdraw r => Req.wf r
  | .debugKeySet r key => Req.wf r && lt key (2 ^ 768)
  | .debugTokenExpiry => true
  | .bringupStepDone _ => true
  | .bringupStepTimeout => true
  | .reheatStepDone failed => allLt failed 288
  | .resetCore r core => Req.wf r && lt core 288
  | .resetCluster r cluster => Req.wf r && lt cluster 16
  | .resetPartition r part => Req.wf r && lt part 256
  | .resetPackage r => Req.wf r
  | .partialResetDone kind unit => lt kind 256 && lt unit (2 ^ 64)
  | .coreResetEscalate core => lt core 288
  | .clusterResetTimeout cluster => lt cluster 16
  | .retireUnit r kind unit => Req.wf r && lt kind 256 && lt unit (2 ^ 64)
  | .spareBringinDone core _ => lt core 288
  | .serviceModeWrite r value => Req.wf r && lt value (2 ^ 128)
  | .serviceOut r kind unit => Req.wf r && lt kind 256 && lt unit (2 ^ 64)
  | .serviceRecal r kind unit => Req.wf r && lt kind 256 && lt unit (2 ^ 64)
  | .serviceReplace r kind unit => Req.wf r && lt kind 256 && lt unit (2 ^ 64)
  | .serviceIn r kind unit => Req.wf r && lt kind 256 && lt unit (2 ^ 64)
  | .fwBegin r header => Req.wf r && header.length == 512
  | .fwEraseDone _ => true
  | .fwBlock r block crc data => Req.wf r && lt block (2 ^ 32) && lt crc (2 ^ 32) && data.length == 512
  | .fwVerify r => Req.wf r
  | .fwVerifyDone => true
  | .fwActivate r => Req.wf r
  | .fwSelfcheckDone _ => true
  | .fwPauseEnd => true
  | .fwCopyDone => true
  | .fwAbort r => Req.wf r
  | .fwRaiseSvn r => Req.wf r
  | .bakerWatchdog die => lt die 2
  | .mgmtReheatDone die => lt die 2
  | .handshakeTimeout kind unit => lt kind 256 && lt unit (2 ^ 64)
  | .die1TimeSync => true
  | .holdoverEntry => true
  | .timeRootWrite r value => Req.wf r && lt value (2 ^ 128)
  | .timeSet r at_ frac => Req.wf r && lt at_ (2 ^ 64) && lt frac 256
  | .counterSnapshot r t => Req.wf r && lt t (2 ^ 64)
  | .snapshotAtT => true
  | .crumbRead r kind unit sink => Req.wf r && lt kind 256 && lt unit (2 ^ 64) && optLt sink (2 ^ 32)
  | .crumbRelease r kind unit => Req.wf r && lt kind 256 && lt unit (2 ^ 64)
  | .crumbRingUnfreeze kind unit => lt kind 256 && lt unit (2 ^ 64)
  | .tensorRegister r name ctx addr length format => Req.wf r && name.length == 32 && lt ctx 65536 && lt addr (2 ^ 64) && lt length (2 ^ 64) && lt format 256
  | .dumpArm r name sink mark step bufPa bufLen => Req.wf r && name.length == 32 && lt sink (2 ^ 32) && lt mark (2 ^ 64) && lt step (2 ^ 64) && lt bufPa (2 ^ 64) && lt bufLen (2 ^ 64)
  | .dumpCancel r dump => Req.wf r && lt dump 65536
  | .dumpCut dump => lt dump 65536
  | .dumpStreamSend dump => lt dump 65536
  | .debugStop r t => Req.wf r && lt t (2 ^ 64)
  | .debugFreeze => true
  | .debugResume r t => Req.wf r && lt t (2 ^ 64)
  | .debugThaw => true
  | .kodpFragment client _ => Client.wf client
  | .reassemblyTimeout client reqId => Client.wf client && lt reqId 65536
  | .objectWrite r _ value => Req.wf r && lt value (2 ^ 128)
  | .tablePut r table rows => Req.wf r && rows.all (rowFits table)
  | .tableDelete r table keys => Req.wf r && keys.all (fun k => k.length == table.info.keys)
  | .subscribe r codes => Req.wf r && allLt codes 65536
  | .unsubscribe r codes => Req.wf r && allLt codes 65536
  | .ping r => Req.wf r
  | .secured client session _ => Client.wf client && lt session (2 ^ 32)
  | .kodpOperationTimeout r => Req.wf r
  | .commandDone r _ => Req.wf r
  | .clientLeaseExpiry client => Client.wf client
  | .replyCacheExpiry r => Req.wf r
  | .mgmtFrame frame => lt frame.length 1515
  | .poresetRelease => true
  | .malformedPacket port p => lt port 40 && Packet.wf p
  | .recipeReservedCode port p => lt port 40 && Packet.wf p
  | .mgmtLinkChange _ => true
  | .mgmtReheatWindowExpiry => true
  | .ballastRampDownDone => true
  | .mrAckReportTimer => true
  | .lampInputDark lamp => lt lamp 2
  | .releaseCodeExpiry => true

end Sys2Proof
end

