-- ==== Sys2Proof/Certificates/Slice0/Obligations.lean ====
section
/-!
DEFINITION. Certificates/Slice0/Obligations.lean: the statements for the provers.  A clause `Does c s q` says that the command `c` answers
a next state on `s`, and that `q` holds of it; the hypotheses before it are on the state and the operands alone.
-/
open Sys2Proof Sys2Proof.Machine

/-- The resets, straps and stops of the package complete (R57, R63 to R74, R87): what each leaves in the pins, the phase and the rest. -/
def Obligations.PackageResets : Prop :=
  ∀ s : State,
  Does .poresetAssert s (fun t => t.pkg.poresetLow = true ∧ t.pkg.phase = .strap ∧ t.link = LinkState.reset ∧ t.txn = TxnState.reset
    ∧ t.mem = MemState.reset ∧ t.core = CoreState.reset ∧ t.recp = RecipeState.reset ∧ t.sec = SecurityState.reset ∧ t.ctrs = [])
  ∧ (s.pkg.poresetLow = true → Does .poresetRelease s (fun t => t =
      { s with pkg := { s.pkg with poresetLow := false, refclk := true }, boot := { s.boot with startedAt := s.now } }))
  ∧ (∀ s1 s2 s3 : Nat, s.pkg.phase = .strap → s.pkg.poresetLow = false → s.pkg.stopped = none →
      Does (.strapSample s1 s2 s3) s (fun t =>
        let m := majority (s1 % 256) (s2 % 256) (s3 % 256)
        t.pkg = { s.pkg with phase := .boot
                             straps := m % 128 + if m ≥ 128 ∨ s1 % 256 ≠ s2 % 256 ∨ s2 % 256 ≠ s3 % 256 then 128 else 0
                             strapNoted := false, gpIn := m / 16 % 16 }
          ∧ t.boot.step = 1))
  ∧ (s.takesWarm = true → Does .warmresetAssert s (fun t => t = { s with pkg := { s.pkg with warmQual := true, tp4 := false, step := none } }))
  ∧ (s.pkg.warmQual = true → Does .warmresetShort s (fun t => t.pkg.warmQual = false ∧ Counts .warmresetShort 0 1 s t
      ∧ (s.pkg.stepHeld = [] → t.pkg = { s.pkg with warmQual := false })
      ∧ (∀ x rest, s.pkg.stepHeld = x :: rest → s.pkg.tp4 = false → s.pkg.ackStuck = false → s.pkg.step = none →
          t.pkg = { s.pkg with warmQual := false, tp4 := true, step := some x, stepHeld := rest }) ∧ Frame [.pkg, .ctrs] s t))
  ∧ (s.pkg.warmQual = true → s.takesWarm = true → Does .warmresetStart s (fun t => t.pkg.phase = .boot ∧ t.boot.step = 1
      ∧ t.boot.lastReset = (if s.boot.memDone = true then 2 else 4) ∧ t.txn = TxnState.reset ∧ t.dir = DirState.reset ∧ t.core = CoreState.reset
      ∧ t.recp = RecipeState.reset ∧ t.ctrs = []))
  ∧ (s.pkg.phase = .boot → s.fw.recovery = false → s.pkg.stopped = none → Does .bakerBootComplete s (fun t =>
      t.pkg = { s.pkg with phase := (if s.debugLevel = 2 then .debug else .run), debugHold := bits s.pkg.straps 6 1 == 1 && s.sec.token.isNone,
                              strapNoted := s.pkg.strapNoted || decide (s.pkg.straps ≥ 128) }
        ∧ t.boot.step = (if bits s.pkg.straps 6 1 = 1 ∧ s.sec.token = none then 1 else 2)))
  ∧ (s.pkg.debugHold = true → Does .debugHoldTimeout s (fun t => t = { s with pkg := { s.pkg with debugHold := false }, boot := { s.boot with step := 2 } }))
  ∧ (∀ up : Bool, Does (.mgmtLinkChange up) s (fun t => t =
      { s with link := { s.link with mgmtLink := up && (s.bakerUp && s.pkg.phase != .boot) } }))
  ∧ (∀ rail : Rail, s.pkg.poresetLow = false → s.pkg.stopped = none → Does (.brownOut rail) s (fun t =>
      t.pkg.stopped = some .brownOut ∧ t.pkg.tp4 = false ∧ t.mem = MemState.reset ∧ t.link.mgmtLink = false ∧ t.core = CoreState.reset
        ∧ t.recp = RecipeState.reset ∧ t.dir = DirState.reset))
  ∧ (s.pkg.poresetLow = false → s.pkg.stopped = none → Does .refclkLoss s (fun t => t.pkg.stopped = some .refclkLoss ∧ t.pkg.refclk = false
      ∧ t.mem = MemState.reset ∧ t.link.mgmtLink = false))

/-- The sensors, load steps, hold-up input and laser inputs complete (R61, R62, R79, R85, R86, R89, R90). -/
def Obligations.PackageInputs : Prop :=
  ∀ s : State,
  (∀ kind i milli, s.pkg.poresetLow = false → s.pkg.stopped = none → i < kind.count → s.pkg.sensors = [] →
      Does (.thermalSample [(kind, i, milli)]) s (fun t => ∃ x, t.pkg.sensors = [((kind, i), x)] ∧ x.milliC = milli
        ∧ x.above = (if milli ≥ kind.crit then 1 else 0) ∧ x.level = (if milli ≥ kind.warn then 1 else 0)))
  ∧ (∀ kind i, i < kind.count → s.pkg.poresetLow = false → s.pkg.stopped = none → Does (.thermtrip kind i) s (fun t =>
      t.pkg.stopped = some .thermTrip ∧ t.pkg.thermTrip = true ∧ t.mem = MemState.reset))
  ∧ (s.pkg.phase = .run → Does (.powerStepAck true) s (fun t => t.pkg = { s.pkg with tp5 := true } ∧ (s.pkg.tp4 = false → Counts .stepAckUnsolicited 0 1 s t)))
  ∧ (s.pkg.phase = .run → s.pkg.stepHeld = [] → Does (.powerStepAck false) s (fun t => t =
      { s with pkg := { s.pkg with tp5 := false, ackStuck := false } }))
  ∧ (∀ x rest, s.pkg.phase = .run → s.pkg.stepHeld = x :: rest → s.pkg.step = none → s.pkg.tp4 = false → s.pkg.warmQual = false →
      Does (.powerStepAck false) s (fun t =>
        t.pkg = { s.pkg with tp5 := false, ackStuck := false, tp4 := true, step := some x, stepHeld := rest } ∧ Frame [.pkg, .ctrs] s t))
  ∧ (s.pkg.phase ≠ .run → s.pkg.phase ≠ .debug → ∀ level, Does (.powerStepAck level) s (fun t => t = { s with pkg := { s.pkg with tp5 := level } }))
  ∧ (s.pkg.tp4 = true → s.pkg.tp5 = true → Does .powerStepStart s (fun t => t =
      { s with pkg := { s.pkg with step := s.pkg.step.map (fun x => { x with started := true }) } }))
  ∧ (s.pkg.tp4 = true → s.pkg.tp5 = false → (∀ x, s.pkg.step = some x → x.started = false) → s.pkg.stepHeld = [] → Does .stepAckMissing s (fun t =>
      t.pkg = { s.pkg with tp4 := false, step := none } ∧ Counts .stepAckMissing 0 1 s t ∧ Frame [.pkg, .ctrs] s t))
  ∧ (s.pkg.tp4 = false → s.pkg.tp5 = true → Does .stepAckStuck s (fun t => t.pkg = { s.pkg with ackStuck := true } ∧ Counts .stepAckStuck 0 1 s t
      ∧ Frame [.pkg, .ctrs] s t))
  ∧ (∀ level : Bool, s.pkg.poresetLow = false → s.pkg.phase ≠ .strap → s.pkg.stopped = none → Does (.holdupSample level) s (fun t =>
      t.pkg.holdupLast = level ∧ t.pkg.holdup = (if level = s.pkg.holdupLast ∧ s.pkg.holdupRun ≥ 2 then level else s.pkg.holdup) ∧ Frame [.pkg] s t))
  ∧ (∀ e, e < 10 → s.pkg.darkEngines.contains e = false → s.pkg.poresetLow = false → s.pkg.stopped = none →
      Does (.laserInputLow e) s (fun t => t.feedingOf e = 1 - s.feedingOf e ∧ t.link = s.link))
  ∧ (∀ e, e < 10 → s.pkg.darkEngines.contains e = false → s.pkg.poresetLow = false → s.pkg.stopped = none →
      Does (.laserInputsDark e) s (fun t => t.pkg.darkEngines = s.pkg.darkEngines ++ [e] ∧ t.power = s.power ∧ t.mem = s.mem))
  ∧ (∀ e i, e < 10 → i < 2 → s.pkg.poresetLow = false → s.pkg.stopped = none →
      Does (.laserInputRestored e i) s (fun t => t.pkg.darkEngines = s.pkg.darkEngines.filter (· ≠ e)
        ∧ (s.pkg.darkEngines.contains e = true → t.feedingOf e = i)
        ∧ (∀ p, portPresent p = true → engineOf p = e → (s.port p).st = .down → (s.port p).holdOver = true → (t.port p).st = .detect)
        ∧ Frame [.pkg, .link, .free] s t))
  ∧ (∀ e i, e < 10 → i < 2 → s.pkg.poresetLow = false → s.pkg.stopped = none →
      Does (.laserLow e i) s (fun t => ∃ p : Nat, 1701 ≤ p ∧ p < 2000 ∧ agetD t.pkg.lasers (e, i) 0 = (p : Int) ∧ t.pkg.feeding = s.pkg.feeding))
  ∧ (∀ kind i, i < kind.count → s.pkg.poresetLow = true → Does (.thermtrip kind i) s (fun t => t =
      { s with pkg := { s.pkg with stopped := some .thermTrip, thermTrip := true } }))

/-- Bring-up goes forward step by step, stops on a failure or a timeout, and a handshake that times out resets its receiver (R579 to R585,
R592, R644 row 2). -/
def Obligations.BringupSteps : Prop :=
  ∀ s : State,
  (∀ failed : List Nat, s.stepRuns = true → s.boot.path = .cold → Does (.bringupStepDone failed) s (fun t =>
    if s.boot.step = 3 ∧ failed.any stopsBringup = true then t.boot.step = 15 ∧ t.boot.fault = true ∧ t.pkg.fault = true
    else t.boot.step = s.boot.step + 1 ∧ t.boot.fault = s.boot.fault
      ∧ (s.boot.step = 3 → t.boot.memDone = true ∧ t.mem = MemState.reset ∧ t.deep.units = s.obj .deepCacheUnits)
      ∧ (s.boot.step = 5 → t.boot.lastTime = (s.now - s.boot.startedAt) / 1000000
          ∧ t.twin.st = (if s.obj .twinEnable = 1 ∧ Config.twinPorts ≠ 0 then .enrolling else .solo))))
  ∧ (∀ failed : List Nat, s.stepRuns = true → s.boot.path = .reheat → Does (.reheatStepDone failed) s (fun t => t.boot.step = s.boot.step + 1
      ∧ (s.boot.step ≠ 5 ∨ failed = [] → t.boot.units = s.boot.units)
      ∧ (s.boot.step = 5 → ∀ c ∈ failed, corePresent c = true → (t.unit .core c).retiredRole = true)
      ∧ (s.boot.step = 3 → t.deep.units = s.obj .deepCacheUnits) ∧ t.sec.rest = s.sec.rest))
  ∧ (s.stepRuns = true ∨ (s.boot.step = 1 ∧ s.pkg.phase = .boot ∧ s.fw.recovery = false ∧ s.pkg.stopped = none) →
      Does .bringupStepTimeout s (fun t => t.boot.step = 15 ∧ t.boot.fault = true ∧ t.pkg.fault = true ∧ t.mem = s.mem))
  ∧ (∀ unit, unit < 16 → s.frozen = false → s.bakerUp = true → s.clusterResetting unit = false → Does (.handshakeTimeout 2 unit) s (fun t =>
      ∃ p, t.boot.partials.getLast? = some p ∧ p.kind = 2 ∧ p.unit = unit ∧ p.req = none))
  ∧ (∀ unit, unit < 2 → s.frozen = false → s.bakerUp = true → s.obs.reheat.contains unit = false → Does (.handshakeTimeout 8 unit) s (fun t =>
      t.obs.reheat = s.obs.reheat ++ [unit] ∧ (unit = 0 → t.kodp.running = [] ∧ t.sec.sessions = [])))
  ∧ (∀ unit, unit < 2 → s.frozen = false → s.bakerUp = true → Does (.handshakeTimeout 7 unit) s (fun t => t.pkg.fault = true ∧ t.mem = s.mem))

/-- The reset commands begin, and their resets end, escalate or time out (R577, R578, R586 to R588, R599). -/
def Obligations.PartialResets : Prop :=
  ∀ (s : State) (r : Req),
  (∀ core, corePresent core = true → s.coreResetting core = false →
      Starts (.resetCore r core) s (cmdObj 0x1F20 1 roleOp) r 2 (leBytes 2 core) (fun t =>
        t.boot.partials = s.boot.partials ++ [{ kind := 1, unit := core, since := s.now, req := some r }]
          ∧ (t.coreRec core).tray = [] ∧ (t.coreRec core).resident = none ∧ t.mem = s.mem))
  ∧ (∀ cluster, cluster < 16 → s.clusterResetting cluster = false →
      Starts (.resetCluster r cluster) s (cmdObj 0x1F20 2 roleOp) r 1 (leBytes 1 cluster) (fun t =>
        t.boot.partials.getLast? = some { kind := 2, unit := cluster, since := s.now, req := some r }
          ∧ (t.unit .cluster cluster).st = .resetting ∧ t.mem = s.mem))
  ∧ (∀ part clusters channels, s.partition part = some (clusters, channels) → s.boot.partials.any (fun p => p.kind == 3 && p.unit == part) = false →
      Starts (.resetPartition r part) s (cmdObj 0x1F20 3 roleOp) r 1 (leBytes 1 part) (fun t =>
        t.boot.partials.getLast? = some { kind := 3, unit := part, since := s.now, req := some r }))
  ∧ (s.accepts (cmdObj 0x1F20 4 roleOp) r 0 [] = true → Does (.resetPackage r) s (fun t => t.pkg.phase = .boot ∧ t.boot.step = 1
      ∧ t.boot.lastReset = (if s.boot.memDone = true then 3 else 4) ∧ t.txn = TxnState.reset ∧ t.recp = RecipeState.reset ∧ t.ctrs = []
      ∧ Out.kodp r.client (replyOf (cmdObj 0x1F20 4 roleOp) r .ok []) ∈ t.out))
  ∧ (∀ kind unit p, s.boot.partials.find? (fun p => p.kind == kind && p.unit == unit) = some p → (kind = 1 ∨ kind = 2) →
      (kind = 1 → (s.unit .core unit).resets.length < 3) → Does (.partialResetDone kind unit) s (fun t =>
        t.boot.partials = s.boot.partials.filter (fun x => !(x.kind == kind && x.unit == unit))
          ∧ (kind = 1 → (s.unit .core unit).st = .resetting → (t.unit .core unit).st = (s.unit .core unit).was)
          ∧ (kind = 2 → (s.unit .cluster unit).st = .resetting → (t.unit .cluster unit).st = (s.unit .cluster unit).was) ∧ t.mem = s.mem))
  ∧ (∀ core, s.frozen = false → s.boot.partials.any (fun p => p.kind == 1 && p.unit == core) = true → s.clusterResetting (clusterOf core) = false →
      Does (.coreResetEscalate core) s (fun t => t.boot.partials.getLast? = some { kind := 2, unit := clusterOf core, since := s.now, req := none }
        ∧ (t.unit .cluster (clusterOf core)).st = .resetting))
  ∧ (∀ cluster p, s.frozen = false → s.boot.partials.find? (fun p => p.kind == 2 && p.unit == cluster) = some p →
      Does (.clusterResetTimeout cluster) s (fun t => t.boot.partials = s.boot.partials.filter (fun x => !(x.kind == 2 && x.unit == cluster))
        ∧ ∀ c ∈ coresOf cluster, corePresent c = true → (t.unit .core c).st = .retired))

/-- The larder and service mode: units are retired, repaired, taken out of service and brought back (R592 to R599). -/
def Obligations.LarderAndService : Prop :=
  ∀ (s : State) (r : Req),
  (∀ unit c, corePresent unit = true → (s.unit .core unit).st ≠ .retired → s.coreResetting unit = false → s.spareCore (clusterOf unit) = some c →
      c ≠ unit → Starts (.retireUnit r 1 unit) s (cmdObj 0x1F20 5 roleOp) r 1 (leBytes 1 1 ++ leBytes 8 unit) (fun t =>
        t.boot.bringIns.map BringIn.asked = s.boot.bringIns.map BringIn.asked ++ [(c, unit, some r, s.now)] ∧ (t.unit .core unit).st = .retired))
  ∧ (∀ unit, unit / 131072 < 8192 → unit % 131072 < Config.rowsPerBank → agetD s.boot.rowsUsed (unit / 131072) 0 < 64 →
      Replies (.retireUnit r 4 unit) s (cmdObj 0x1F20 5 roleOp) r 1 (leBytes 1 4 ++ leBytes 8 unit) .ok [] (fun t =>
        agetD t.boot.rowsUsed (unit / 131072) 0 = agetD s.boot.rowsUsed (unit / 131072) 0 + 1))
  ∧ (∀ unit, unit < 2 ^ 20 → s.boot.waysUsed.contains unit = false →
      Replies (.retireUnit r 6 unit) s (cmdObj 0x1F20 5 roleOp) r 1 (leBytes 1 6 ++ leBytes 8 unit) .ok [] (fun t =>
        t.boot.waysUsed = s.boot.waysUsed ++ [unit]))
  ∧ (∀ core b, s.boot.bringIns.find? (fun b => b.core == core && b.woken) = some b → Does (.spareBringinDone core true) s (fun t =>
      (t.unit .core core).st = .enabled ∧ (t.unit .core core).epoch = ((s.unit .core core).epoch + 1) % 65536
        ∧ t.boot.bringIns = s.boot.bringIns.filter (fun y => y.core != core) ∧ (t.coreRec core).tray = []))
  ∧ (∀ core b, s.boot.bringIns.find? (fun b => b.core == core && b.woken) = some b → Does (.spareBringinDone core false) s (fun t =>
      (t.unit .core core).st = .retired ∧ (t.unit .core core).retiredRole = true))
  ∧ (∀ channel pseudo bank row, s.frozen = false → s.integ.badRows.contains (channel, pseudo * 16 + bank, row) = true → bank < 16 → pseudo < 2 →
      agetD s.boot.rowsUsed (bankKey channel pseudo bank) 0 < 64 → Does (.rowRepair channel pseudo bank row) s (fun t =>
        agetD t.boot.rowsUsed (bankKey channel pseudo bank) 0 = agetD s.boot.rowsUsed (bankKey channel pseudo bank) 0 + 1
          ∧ t.integ.badRows.contains (channel, pseudo * 16 + bank, row) = false))
  ∧ (∀ channel pseudo bank x, s.frozen = false → s.boot.bankRepairs.find? (fun x => x.1 == bankKey channel pseudo bank) = some x →
      Does (.bankRepairDone channel pseudo bank) s (fun t => agetD t.boot.rowsUsed (bankKey channel pseudo bank) 0 = 0
        ∧ t.boot.bankRepairs = s.boot.bankRepairs.filter (fun y => y.1 != bankKey channel pseudo bank)))
  ∧ (∀ value, value ≤ 1 → (value = 0 → s.anyOut = false) →
      Replies (.serviceModeWrite r value) s (writeObj .serviceMode) r 1 (leBytes 1 value) .ok [] (fun t => t.obj .serviceMode = value ∧ t.boot = s.boot))
  ∧ (∀ unit, unit < 256 → s.obj .serviceMode = 1 → s.unitOut 3 unit = false → s.unitResetting 3 unit = false →
      Replies (.serviceOut r 3 unit) s (serviceObj 1) r 1 (serviceArg 3 unit) .ok [] (fun t => (t.unit .channel unit).st = .out ∧ t.mem = s.mem))
  ∧ (∀ unit, portPresent unit = true → s.obj .serviceMode = 1 → s.unitOut 5 unit = false →
      Replies (.serviceOut r 5 unit) s (serviceObj 1) r 1 (serviceArg 5 unit) .ok [] (fun t =>
        t.boot.portsOut = s.boot.portsOut ++ [unit] ∧ (t.port unit).st = .disabled))
  ∧ (∀ unit, portPresent unit = true → s.obj .serviceMode = 1 → s.unitOut 5 unit = true →
      Replies (.serviceRecal r 5 unit) s (serviceObj 2) r 1 (serviceArg 5 unit) .ok [] (fun t => (t.port unit).laneRestore = true ∧ t.boot = s.boot))
  ∧ (∀ unit c, corePresent unit = true → s.obj .serviceMode = 1 → s.unitOut 1 unit = true → s.coreResetting unit = false →
      s.spareCore (clusterOf unit) = some c → Starts (.serviceReplace r 1 unit) s (serviceObj 3) r 1 (serviceArg 1 unit) (fun t =>
        t.boot.bringIns.map BringIn.asked = s.boot.bringIns.map BringIn.asked ++ [(c, unit, some r, s.now)]))
  ∧ (∀ unit, corePresent unit = true → s.obj .serviceMode = 1 → s.unitOut 1 unit = true → s.coreResetting unit = false →
      (s.unit .core unit).retiredRole = false → Replies (.serviceIn r 1 unit) s (serviceObj 4) r 1 (serviceArg 1 unit) .ok [] (fun t =>
        (t.unit .core unit).st = (if s.enabledIn (clusterOf unit) < Config.enabledPerCluster then .enabled else .spare)
          ∧ (t.unit .core unit).epoch = ((s.unit .core unit).epoch + 1) % 65536))
  ∧ (∀ unit, unit < 16 → s.obj .serviceMode = 1 → s.unitOut 2 unit = true → Starts (.serviceIn r 2 unit) s (serviceObj 4) r 1 (serviceArg 2 unit)
      (fun t => t.boot.partials.getLast? = some { kind := 2, unit := unit, since := s.now, req := some r }))
  ∧ (∀ unit, portPresent unit = true → s.obj .serviceMode = 1 → s.unitOut 5 unit = true →
      Replies (.serviceIn r 5 unit) s (serviceObj 4) r 1 (serviceArg 5 unit) .ok [] (fun t => t.boot.portsOut = s.boot.portsOut.filter (· ≠ unit)))

/-- The events of lanes and ports, and the port commands, move a port through its states (R94, R95, R103, R110, R115 to R118, R139 to R141). -/
def Obligations.PortStates : Prop :=
  ∀ (s : State) (port : Nat), portPresent port = true →
  (∀ lane, lane < 9 → Does (.laneLos port lane) s (fun t => ((t.port port).lane lane).los = true ∧ ((t.port port).lane lane).locked = false
      ∧ (t.port port).retireReq = (if (s.port port).st = .train ∨ (s.port port).linked = true then (s.port port).retireReq ||| 2 ^ lane
          else (s.port port).retireReq)
      ∧ (t.port port).st = (if (s.port port).st = .active ∧ (activeLanes (s.port port).rxRetired).contains lane = true then .retrain else (s.port port).st)))
  ∧ (∀ lane, lane < 9 → Does (.laneSignalRestored port lane) s (fun t =>
      (t.port port).lane lane = { (s.port port).lane lane with los := false } ∧ Frame [.link] s t))
  ∧ ((s.port port).lit = false → (s.port port).st = .train ∨ (s.port port).linked = true → Does (.portDark port) s (fun t => (t.port port).st = .down
      ∧ (t.port port).failed = (if (s.port port).st = .train then (s.port port).failed + 1 else (s.port port).failed) ∧ t.mem = s.mem))
  ∧ ((s.port port).lit = true → (s.port port).st = .detect → Does (.detectLit port) s (fun t => (t.port port).st = .train ∧ (t.port port).changedAt = s.now
      ∧ (t.port port).startFlits = 0 ∧ (∀ lane, ((t.port port).lane lane).run = 0) ∧ Frame [.link] s t))
  ∧ ((s.port port).lit = true → (s.port port).st ≠ .detect → Does (.detectLit port) s (fun t => Counts .portEventsIgnored port 1 s t ∧ Frame [.ctrs] s t))
  ∧ (∀ (lane : Nat) (x : LaneFrame), lane < 9 → Lcb.ofBytes x.block = none → Does (.lcbReceived port lane x) s (fun t =>
      Counts .badLcbs port 1 s t ∧ ((t.port port).lane lane).lcb = ((s.port port).lane lane).lcb ∧ ((t.port port).lane lane).run = 0
        ∧ Frame [.link, .ctrs] s t))
  ∧ (∀ (lane : Nat) (x : LaneFrame) c, lane < 9 → Lcb.ofBytes x.block = some c → Does (.lcbReceived port lane x) s (fun t =>
      ((t.port port).lane lane).lcb = some c ∧ (t.port port).shown = some c
      ∧ ((t.port port).lane lane).power = x.fec.power ∧ ((t.port port).lane lane).uncorr = ((s.port port).lane lane).uncorr + x.fec.uncorr
      ∧ ((t.port port).lane lane).locked = (((s.port port).lane lane).locked || decide (((s.port port).lane lane).run + 1 ≥ 3))
      ∧ (t.port port).st = (if c.retrainReq = true ∧ (s.port port).st = .active then .retrain else (s.port port).st)))
  ∧ ((s.port port).st = .train → (s.port port).flitStarted = true → s.profileClash port = false →
      s.widthsOk port (s.port port).newMaps.1 (s.port port).newMaps.2 = true →
      Does (.trainComplete port) s (fun t => (t.port port).st = .active ∧ (t.port port).rtt = (s.port port).trainedRtt ∧ (t.port port).failed = 0
        ∧ (t.port port).e = 0
        ∧ (t.port port).next = 0 ∧ (t.port port).replay = [] ∧ (t.port port).txWidth = widthOf (s.port port).newMaps.1
        ∧ (t.port port).rxWidth = widthOf (s.port port).newMaps.2))
  ∧ ((s.port port).st = .train → Does (.trainTimeout port) s (fun t => (t.port port).st = .down ∧ (t.port port).failed = (s.port port).failed + 1 ∧ t.mem = s.mem))
  ∧ ((s.port port).st = .retrain → (s.port port).flitStarted = true → s.widthsOk port (s.port port).newMaps.1 (s.port port).newMaps.2 = true → Does (.retrainComplete port) s (fun t =>
      (t.port port).st = .active ∧ (t.port port).e = (s.port port).e ∧ (t.port port).base = (s.port port).base ∧ (t.port port).next = (s.port port).next
        ∧ (t.port port).replay = (s.port port).replay ∧ (t.port port).nakPending = (s.port port).nakPending
        ∧ (t.port port).rtt = (s.port port).trainedRtt ∧ (t.port port).replaying = (if (s.port port).replay = [] then none else some (s.port port).base)))
  ∧ ((s.port port).st = .retrain → Does (.retrainTimeout port) s (fun t => (t.port port).st = .down ∧ (t.port port).replay = [] ∧ (t.port port).e = 0
      ∧ t.mem = s.mem))
  ∧ ((s.port port).st = .down → s.engineLit port = true → Does (.downHoldExpiry port) s (fun t => (t.port port).st = .detect ∧ Frame [.link] s t))
  ∧ (∀ r, ((s.port port).st = .disabled → s.boot.portsOut.contains port = false) →
      (s.compact port = true → s.obj .nodeEid < 0x1000 ∧ s.obj .serviceEid < 0x1000) →
      Replies (.portEnable r port) s (cmdObj 0x1220 1 roleOp) r 1 (leBytes 1 port ++ leBytes 1 1) .ok [] (fun t =>
        (t.port port).st = (if (s.port port).st = .disabled ∧ s.pkg.fault = false then (if s.engineLit port = true then .detect else .down)
          else (s.port port).st)))
  ∧ (∀ r, Replies (.portDisable r port) s (cmdObj 0x1220 1 roleOp) r 1 (leBytes 1 port ++ leBytes 1 2) .ok [] (fun t => (t.port port).st = .disabled))
  ∧ (∀ r, (s.port port).st = .active → Replies (.portRetrain r port) s (cmdObj 0x1220 1 roleOp) r 1 (leBytes 1 port ++ leBytes 1 3) .ok [] (fun t =>
      (t.port port).st = .retrain ∧ (t.port port).retrainReq = true))
  ∧ (∀ r, (s.port port).st = .active → Replies (.portLaneRestore r port) s (cmdObj 0x1220 1 roleOp) r 1 (leBytes 1 port ++ leBytes 1 4) .ok [] (fun t =>
      (t.port port).st = .retrain ∧ (t.port port).laneRestore = true))

/-- Flits are received in order, acknowledged, replayed and sent, and the link layer's timers act (R105, R120 to R139, R640). -/
def Obligations.FlitStream : Prop :=
  ∀ (s : State) (port : Nat), (s.port port).st = .active →
  (∀ f : Flit, s.frozen = false → (f.crc ≠ crc64 f.front ∨ f.bad ≠ []) → s.compact port = false → Does (.flitReceived port f) s (fun t =>
      Counts .crcErrors port 1 s t ∧ (t.port port).nakPending = true ∧ (t.port port).e = (s.port port).e ∧ Frame [.link, .ctrs] s t))
  ∧ (∀ f : Flit, s.frozen = false → f.crc = crc64 f.front → f.bad = [] → s.compact port = false → f.kind = .idle → f.ackValid = true →
      (f.ack + 4096 - (s.port port).base) % 4096 < (s.port port).outN → (s.port port).outN < 4096 → (f.ack + 4096 - (s.port port).base) % 4096 ≠ 4095 →
      Does (.flitReceived port f) s (fun t => t.out = s.out ∧ (t.port port).next = (s.port port).next
        ∧ (t.port port).base = ((s.port port).base + ((f.ack + 4096 - (s.port port).base) % 4096 + 1)) % 4096
        ∧ (t.port port).replay = (s.port port).replay.drop ((f.ack + 4096 - (s.port port).base) % 4096 + 1)))
  ∧ (∀ (f : Flit) cur done begun, s.frozen = false → f.crc = crc64 f.front → f.bad = [] → s.compact port = false → f.kind = .data → f.ackValid = false →
      (f.seq + 4096 - (s.port port).e) % 4096 = 0 → frame f (s.port port).rxPart = some (cur, done, begun) →
      Does (.flitReceived port f) s (fun t => ∃ u, t = forAll done (handOn port) u ∧ (u.port port).e = (f.seq + 1) % 4096
        ∧ (u.port port).accepted = true ∧ (u.port port).rxPart = cur ∧ (u.port port).nakPending = false ∧ Frame [.link] s u))
  ∧ (∀ f : Flit, s.frozen = false → f.crc = crc64 f.front → f.bad = [] → s.compact port = false → f.kind = .data → f.ackValid = false →
      1 ≤ (f.seq + 4096 - (s.port port).e) % 4096 → (f.seq + 4096 - (s.port port).e) % 4096 ≤ 2047 → Does (.flitReceived port f) s (fun t =>
        (t.port port).nakPending = true ∧ (t.port port).e = (s.port port).e ∧ (t.port port).rxPart = (s.port port).rxPart ∧ Frame [.link, .ctrs] s t))
  ∧ (∀ f : Flit, s.frozen = false → f.crc = crc64 f.front → f.bad = [] → s.compact port = false → f.kind = .data → f.ackValid = false →
      2047 < (f.seq + 4096 - (s.port port).e) % 4096 → Does (.flitReceived port f) s (fun t => Counts .duplicates port 1 s t ∧ Frame [.ctrs] s t))
  ∧ (∀ f : Flit, s.frozen = false → (f.crc ≠ crc64 f.front ∨ f.bad ≠ []) → s.compact port = true → Does (.flitReceived port f) s (fun t =>
      Counts .crcErrors port 1 s t ∧ Frame [.ctrs] s t))
  ∧ (s.frozen = true → Does (.flitSend port) s (fun t => ∃ f, t = { s with out := .flit port f :: s.out } ∧ f.kind = .idle ∧ f.crc = crc64 f.front
      ∧ f.ack = ((s.port port).e + 4095) % 4096))
  ∧ (s.frozen = false → s.creditsMoved port = false → (s.port port).control ≠ [] → Does (.flitSend port) s (fun t => ∃ f, t.out = .flit port f :: s.out
      ∧ f.kind = .control ∧ f.crc = crc64 f.front
      ∧ f.slots.take ((s.port port).control.take 15).length = ((s.port port).control.take 15).map (s.freshRecord port) ∧ (t.port port).control = (s.port port).control.drop 15 ∧ Frame [.link, .out] s t))
  ∧ (∀ n x, s.frozen = false → s.creditsMoved port = false → (s.port port).control = [] → (s.port port).replaying = some n →
      (s.port port).replay[(n + 4096 - (s.port port).base) % 4096]? = some x → Does (.flitSend port) s (fun t => ∃ f, t.out = .flit port f :: s.out
        ∧ f.seq = x.2.seq ∧ f.kind = x.2.kind ∧ f.slots = x.2.slots ∧ f.crc = crc64 f.front ∧ Counts .replayedFlits port 1 s t
        ∧ (t.port port).replay = (s.port port).replay))
  ∧ (∀ u slots map cont, s.frozen = false → s.creditsMoved port = false → (s.port port).control = [] → (s.port port).replaying = none →
      s.compact port = false → (s.port port).outN < 2047 → dataSlots port s = (u, some (slots, map, cont)) → Does (.flitSend port) s (fun t =>
        ∃ f, t.out = .flit port f :: u.out ∧ f.kind = .data ∧ f.seq = (u.port port).next ∧ f.headMap = map ∧ f.cont = cont ∧ f.crc = crc64 f.front
          ∧ (t.port port).next = ((u.port port).next + 1) % 4096 ∧ (t.port port).replay = (u.port port).replay ++ [(u.now, f)]))
  ∧ (s.frozen = false → s.creditsMoved port = false → (s.port port).control = [] → (s.port port).replaying = none → s.compact port = false →
      2047 ≤ (s.port port).outN → Does (.flitSend port) s (fun t => (∃ f, t.out = .flit port f :: s.out ∧ f.kind = .idle)
        ∧ Counts .windowStallNs port (((s.port port).stall + (if (s.port port).txWidth = 4 then 256 else 128)) / 100) s t
        ∧ (t.port port).stall = ((s.port port).stall + (if (s.port port).txWidth = 4 then 256 else 128)) % 100 ∧ Frame [.link, .ctrs, .out] s t))
  ∧ (s.frozen = false → (s.port port).nakPending = true → s.compact port = false → Does (.nakTimer port) s (fun t => Counts .naksSent port 1 s t
      ∧ (t.port port).control = (s.port port).control ++ [padTo 16 (leBytes 2 3 ++ leBytes 2 (s.port port).e ++ leBytes 1 (s.port port).nakReason)]))
  ∧ (s.frozen = false → (s.port port).outN ≠ 0 → s.compact port = false → agetD (s.port port).replaysFrom (s.port port).base 0 < 3 →
      Does (.replayTimeout port) s (fun t => (t.port port).replaying = some (s.port port).base ∧ Counts .replays port 1 s t ∧ Frame [.link, .ctrs] s t))
  ∧ (s.frozen = false → (s.port port).outN ≠ 0 → s.compact port = false → Does (.oldestFlitTimeout port) s (fun t => (t.port port).st = .retrain
      ∧ (t.port port).retrainReq = true ∧ (t.port port).changedAt = s.now ∧ t.mem = s.mem))
  ∧ (s.frozen = false → Does (.creditReportTimer port) s (fun t => (t.port port).control = (s.port port).control
      ++ [totalsRecord 1 (s.returned port) 0, totalsRecord 2 (s.returned port) 4] ∧ t.creditsMoved port = false ∧ Frame [.link] s t))
  ∧ (s.frozen = false → s.compact port = true → Does (.chargedReportTimer port) s (fun t => (t.port port).control = (s.port port).control
      ++ [padTo 16 (leBytes 16 4), padTo 16 (leBytes 16 5)] ∧ Frame [.link] s t))

/-- Addressed requests that arrive, pass policing and translate are accepted, with their data halves (R160, R161, R224, R252). -/
def Obligations.RequestsArrive : Prop :=
  ∀ (s : State) (port : Nat) (p : Packet), s.takes port p = true →
  (∀ slot u v pa tenant key tier, s.admits slot p = true → s.notNow p = false → s.polices port slot p u → checkAddressed port slot p u = (v, .ok pa tenant key tier) →
    aget v.dir.recalls (pa / 128) = none →
    (∀ c op, (c, op) ∈ [(Instr.rdShared port p, 0x10), (.rdUnique port p, 0x11), (.rdOnce port p, 0x12), (.upgrade port p, 0x17), (.rtRead port p, 0x60)] →
      p.op = op → Does c s (fun t => t.txn.reqs = v.txn.reqs ++ [newRequest v port slot p .ready pa tenant key tier] ∧ t.mem = v.mem))
    ∧ (p.op = 0x16 → Does (.evictClean port p) s (fun t => ∃ w, t = settleWaits w ∧ w.txn.reqs = v.txn.reqs ++ [newRequest v port slot p .ready pa tenant key tier]
        ∧ w.dir.evicts = v.dir.evicts ++ [{ slot := slot, line := pa / 128, src := p.src, tag := p.tag, writeback := false, applied := false }]))
    ∧ (v.txn.halves = [] → (∀ c op, (c, op) ∈ [(Instr.wrLine port p, 0x13), (.wrPart port p, 0x14), (.atomic port p, 0x18)] → p.op = op →
        Does c s (fun t => t.txn.reqs = v.txn.reqs ++ [newRequest v port slot p .awaitData pa tenant key tier] ∧ t.mem = v.mem))
      ∧ (p.op = 0x15 → Does (.writeback port p) s (fun t => ∃ w, t = settleWaits w
          ∧ w.txn.reqs = v.txn.reqs ++ [newRequest v port slot p .awaitData pa tenant key tier]
          ∧ w.dir.evicts = v.dir.evicts ++ [{ slot := slot, line := pa / 128, src := p.src, tag := p.tag, writeback := true, applied := false }]))))
  ∧ (s.request p.src p.tag = none → s.txn.released = [] →
    (∀ c op, (c, op) ∈ [(Instr.wrData port p, 0x40), (.atomicOpnd port p, 0x43)] → p.op = op →
      Does c s (fun t => t = { s with txn := { s.txn with halves := s.txn.halves ++ [(port, p)] } }))
    ∧ (p.op = 0x41 → Does (.wbData port p) s (fun t => t = settleWaits { s with txn := { s.txn with halves := s.txn.halves ++ [(port, p)] } })))
  ∧ (∀ q body, s.request p.src p.tag = some q → q.data = none → q.phase = .awaitData → halfFits q.pkt p = true → s.openHalf q.pkt q.tenant p = some body →
    aget s.dir.recalls q.line = none → needsHalf q.op = true →
    (∀ c op, (c, op) ∈ [(Instr.wrData port p, 0x40), (.atomicOpnd port p, 0x43)] → p.op = op →
      Does c s (fun t => t.request p.src p.tag = some { q with data := some { p with body := body, enc := false }, phase := .ready }))
    ∧ (p.op = 0x41 → Does (.wbData port p) s (fun t => ∃ w, t = settleWaits w
        ∧ w.request p.src p.tag = some { q with data := some { p with body := body, enc := false }, phase := .ready })))

/-- A request ordered at a free line has its effect: a write commits its bytes and no others, a read leaves memory, a conflicting holder is
recalled; parked requests are presented, and those that may wait no longer are answered (R47, R160, R178, R250, R256, R268). -/
def Obligations.LineOrder : Prop :=
  ∀ (s : State) (q : Request),
  (∀ d, s.orders q = true → q.op = 0x13 → q.data = some d → s.entry q.line = none → s.lineFailed q.line = false → s.obs.dumps = [] →
      q.pkt.stashState = 0 → s.MemWf → Does (.requestOrdered q.src q.tag) s (fun t => ∃ w, t = settleWaits w
        ∧ ∀ a, w.readByte a = (if q.line * 128 ≤ a ∧ a < q.line * 128 + 128 then (padTo 128 d.body).getD (a - q.line * 128) 0 else s.readByte a)))
  ∧ (s.orders q = true → q.op = 0x12 → s.entry q.line = none → (s.lineMeta q.line).inPantry = true → Does (.requestOrdered q.src q.tag) s (fun t =>
      ∃ w, t = settleWaits w ∧ w.request q.src q.tag = none ∧ w.dir.entries = s.dir.entries ∧ w.mem.cells = s.mem.cells))
  ∧ (s.orders q = true → q.op = 0x10 → s.entry q.line = none → (s.lineMeta q.line).inPantry = true → s.aliasBad q = false → s.room q.line = .ok →
      s.readsPoisoned q.line q.tenant false = false → q.down = false → Does (.requestOrdered q.src q.tag) s (fun t => ∃ w, t = settleWaits w
        ∧ (w.entry q.line).map (fun e => { e with aged := false })
          = some (mkEntry (if s.obj .exclusiveGrant = 1 then .exclusive else .shared) q.slot) ∧ w.mem.cells = s.mem.cells))
  ∧ (∀ e h, s.orders q = true → q.op = 0x11 → s.entry q.line = some e → e.coarse = false → e.st = .modified → e.ptrs = [h] → h ≠ q.slot → s.aliasBad q = false →
      ((aget s.part.slots h).map Slot.answers).getD false = true → s.evicting h q.line = false → Does (.requestOrdered q.src q.tag) s (fun t =>
        ∃ w, t = settleWaits w ∧ w.recalling q.line = true ∧ ((aget w.dir.recalls q.line).map Recall.awaited) = some [h]
          ∧ (w.request q.src q.tag).map Request.phase = some .recalling))
  ∧ (∀ line x, s.frozen = false → s.recalling line = false → s.parkedAt line = [.request x] → s.request x.src x.tag = some x → x.phase = .parked →
      Does (.parkedPresent line) s (fun t => t = settleWaits (orderRequest x true s)))
  ∧ (∀ line r e h, s.frozen = false → aget s.dir.recalls line = some r → s.entry line = some e → e.coarse = false → e.st = .shared → r.awaited = [h] →
      r.cause = .none → e.lost = false → s.part.ownWrites = [] → Does (.recallDeadline line) s (fun t => ∃ w, t = settleWaits w ∧ aget w.dir.recalls line = none
        ∧ (∀ x, w.entry line = some x → x.has h = false) ∧ w.mem.cells = s.mem.cells))
  ∧ (s.frozen = false → s.request q.src q.tag = some q → needsHalf q.op = true → q.data = none → q.ordered = false →
      Does (.pairingTimeout q.src q.tag) s (fun t => ∃ w, t = settleWaits w ∧ w.request q.src q.tag = none ∧ w.mem = s.mem))
  ∧ (∀ src tag h, s.frozen = false → s.request src tag = none → s.txn.halves.find? (fun h => h.2.src == src && h.2.tag == tag) = some h →
      Does (.pairingTimeout src tag) s (fun t => t.txn.halves = s.txn.halves.erase h ∧ t.mem = s.mem))
  ∧ (s.frozen = false → s.request q.src q.tag = some q → q.ordered = false → Does (.requestWithdraw q.src q.tag) s (fun t =>
      ∃ w, t = settleWaits w ∧ w.request q.src q.tag = none ∧ w.mem = s.mem))

/-- Answers to snoops and stashes, and what else belongs to the fabric's packets (R150, R157, R158, R180, R183, R239, R252 to R255, R267). -/
def Obligations.SnoopsAndStrays : Prop :=
  ∀ (s : State) (port : Nat) (p : Packet),
  (∀ slot q r e, s.takes port p = true → s.slotOfEid p.src = some slot → s.poolReq p.src p.tag = some q → q.issuer = .snoop →
    aget s.dir.recalls q.key = some r → s.entry q.key = some e → r.awaited = [slot] → r.cause = .none → s.part.ownWrites = [] →
    (p.op = 0x22 → bits p.harg 2 1 = 0 → Does (.snpRsp port p) s (fun t => ∃ w, t = settleWaits w ∧ aget w.dir.recalls q.key = none
        ∧ (s.txn.poolWait = [] → w.poolReq p.src p.tag = none) ∧ w.mem.cells = s.mem.cells))
    ∧ (p.op = 0x22 → bits p.harg 2 1 = 1 → s.txn.halves = [] → Does (.snpRsp port p) s (fun t => ∃ w, t = settleWaits w
        ∧ (aget w.dir.recalls q.key).map Recall.dataDue = some (r.dataDue ++ [(slot, p)]) ∧ w.mem = s.mem))
    ∧ (∀ rsp, p.op = 0x42 → p.enc = false → s.aliasSealed q.key = false → r.dataDue = [(slot, rsp)] → Does (.snpData port p) s (fun t => ∃ w,
        t = settleWaits w ∧ aget w.dir.recalls q.key = none ∧ (s.txn.poolWait = [] → w.poolReq p.src p.tag = none)))
    ∧ (p.op = 0x23 → s.takeable slot q.key = none → Does (.crossed port p) s (fun t => ∃ w, t = settleWaits w
        ∧ (aget w.dir.recalls q.key).map Recall.crossed = some (r.crossed ++ [slot]) ∧ (s.txn.poolWait = [] → w.poolReq p.src p.tag = none) ∧ w.mem = s.mem)))
  ∧ (s.takes port p = true → p.op = 0x42 → s.poolReq p.src p.tag = none →
      Does (.snpData port p) s (fun t => t = { s with txn := { s.txn with halves := s.txn.halves ++ [(port, p)] } }))
  ∧ (∀ q, s.takes port p = true → p.op = 0x25 → s.poolReq p.src p.tag = some q → q.issuer = .stash → Does (.stashRsp port p) s (fun t =>
      (s.txn.poolWait = [] → t.poolReq p.src p.tag = none) ∧ (bits p.harg 0 1 = 0 → Counts .stashDeclined (homeDie (q.key * 128)) 1 s t) ∧ t.mem = s.mem))
  ∧ (∀ dest x xs, s.frozen = false →
      s.traffic.leaves.flatMap (fun e => if e.1.port = noPin then e.2.filter (fun q => q.pkt.dest == dest) else []) = x :: xs →
      Does (.unroutableTimeout dest) s (fun t => Counts .unroutable 0 1 s t ∧ Frame [.leaves, .ctrs] s t ∧ ∃ y ∈ x :: xs, (∀ z ∈ x :: xs, y.at_ ≤ z.at_)
        ∧ t.traffic.leaves = s.traffic.leaves.map (fun e => if e.1.port = noPin then (e.1, e.2.erase y) else e)))
  ∧ (∀ dest tag q, s.frozen = false → s.poolReq dest tag = some q → isFabric (s.portOf q) = true → s.compact (s.portOf q) = true →
      Does (.poolResend dest tag) s (fun t => Counts .poolResends (s.portOf q) 1 s t ∧ t.carries { q.pkt with resend := true } ∧ t.txn.pool = s.txn.pool))
  ∧ (∀ r pa, pa % 128 = 0 → s.paPresent pa 1 = true → Replies (.directoryLookup r pa) s (cmdObj 0x1520 1 (roleOp + roleDebug)) r 8 (leBytes 8 pa) .ok
      (leBytes 1 (homeDie pa) ++ leBytes 16 (((s.entry (pa / 128)).map DirEntry.bits).getD 0)
        ++ leBytes 16 (((aget s.dir.regions (regionOf (pa / 128))).map Region.bits).getD 0)) (fun t => t.dir = s.dir ∧ t.mem = s.mem))
  ∧ (s.portUp port = true → isFabric port = false → p.linkMalformed port = true → p.dest = s.obj .nodeEid → p.crcGood = true →
      ((isTwinPort port && linkExpects p.op) = false → Does (.malformedPacket port p) s (fun t => Counts .malformed port 1 s t ∧ Frame [.ctrs] s t))
      ∧ ((isTwinPort port && linkExpects p.op) = true → Does (.malformedPacket port p) s (fun t => Counts .malformed port 1 s t
          ∧ t.carries (mkPacket 0 0x06 p.src p.dest p.tag Status.unsupported.code 0 false []))))
  ∧ (s.portUp port = true → isFabric port = true → s.obj .nodeEid ≠ 0 → s.obj .serviceEid ≠ 0 → p.src ≠ 0 → p.src < 0x3FF00 → s.compact port = false →
      p.dest = s.obj .nodeEid → p.crcGood = true → opShape p.op = none →
      Does (.malformedPacket port p) s (fun t => Counts .malformed port 1 s t ∧ Frame [.ctrs] s t))
  ∧ (s.frozen = false → (s.port port).st = .active → isFabric port = true → s.obj .timeRoot = 1 → Does (.timeSyncSend port) s (fun t => Frame [.link] s t
      ∧ (t.port port).control = (s.port port).control
        ++ [leBytes 16 (0x10 + 256 + s.timeOf (dieOfPort port) % 256 * 2 ^ 56 + s.timeOf (dieOfPort port) / 256 * 2 ^ 64)]))

/-- Partners attach, keep their lease, detach, are lost and leave; the pool manager's context commands act (R172, R188 to R204, R218 to R221,
R228, R258 to R261). -/
def Obligations.PartnerLife : Prop :=
  ∀ (s : State) (port : Nat) (p : Packet) (slot : Nat) (x : Slot),
  (s.takes port p = true → p.op = 0x01 → p.resend = false → s.slotOfEid p.src = none → s.attachRefusal p = none →
    (List.range 8192).find? (fun n => !ahas s.part.slots n) = some slot → Does (.attach port p) s (fun t => t.part.slots = aset s.part.slots slot
      { st := .active, eid := p.src, kind := attachKind p, caps := attachCap p, nonce := attachNonce p, attachedAt := s.now, renewedAt := s.now
        grants := ((s.grantRow p.src).map Row.contexts).getD [], detachTags := []
        loss := { cause := 0, poisoned := 0, exclusive := 0, shared := 0, coarse := 0, recipes := 0 } }
      ∧ (s.mirrors = false → t.carries (attachAck p slot (attachCap p)))))
  ∧ (s.takes port p = true → p.op = 0x03 → p.resend = false → s.slotOfEid p.src = some slot → aget s.part.slots slot = some x → x.st = .active →
      s.outstanding p.src p.tag = false → p.harg % 8192 = slot → Does (.heartbeat port p) s (fun t =>
        t.part.slots = aset s.part.slots slot { x with renewedAt := s.now } ∧ t.carries (mkPacket 0 0x04 p.src p.dest p.tag 0 8000 false [])))
  ∧ (s.takes port p = true → p.op = 0x05 → p.resend = false → s.slotOfEid p.src = some slot → aget s.part.slots slot = some x → x.st = .active →
      s.outstanding p.src p.tag = false → p.harg % 8192 = slot → s.mirrors = false → Does (.detach port p) s (fun t =>
        ∃ y, aget t.part.slots slot = some y ∧ y.st = .detaching ∧ y.eid = x.eid ∧ y.detachTags = [p.tag]))
  ∧ (s.frozen = false → aget s.part.slots slot = some x → x.st = .detaching → s.linesOf slot = [] → s.txn.reqs = [] → s.traffic.holds = [] →
      s.recp.recipes = [] → s.queuedFor x.eid = 0 → s.standby = false → s.changing slot = false → s.mirrors = false → Does (.detachComplete slot) s (fun t =>
        t.part.slots = aset s.part.slots slot { x with st := .quarantine, renewedAt := s.now, detachTags := [] } ∧ t.mem = s.mem))
  ∧ (s.frozen = false → aget s.part.slots slot = some x → x.st = .active → s.standby = false → s.changing slot = false → s.mirrors = false →
      Does (.leaseExpiry slot) s (fun t => ∃ w, t = settleWaits w
      ∧ ∃ y, aget w.part.slots slot = some y ∧ y.st = .lost ∧ y.eid = x.eid ∧ y.loss.cause = 1))
  ∧ (s.frozen = false → aget s.part.slots slot = some x → x.st = .lost → s.recp.recipes = [] → s.standby = false → s.changing slot = false →
      s.mirrors = false → Does (.partnerLossWalkDone slot) s (fun t =>
      ∃ w, t = settleWaits w ∧ ∃ y, aget w.part.slots slot = some y ∧ y.st = .quarantine ∧ y.eid = x.eid))
  ∧ (s.frozen = false → aget s.part.slots slot = some x → x.st = .quarantine → s.standby = false → s.changing slot = false → s.mirrors = false →
      Does (.quarantineExpiry slot) s (fun t => t.part.slots = adel s.part.slots slot ∧ t.mem = s.mem ∧ t.dir = s.dir))
  ∧ (s.frozen = false → aget s.part.slots slot = some x → s.standby = false → s.changing slot = false → s.mirrors = true →
      (x.st = .active → Does (.leaseExpiry slot) s (fun t => ∃ w, t = settleWaits w ∧ w.part.slots = s.part.slots
        ∧ w.part.heldChanges.map HeldChange.act = s.part.heldChanges.map HeldChange.act ++ [.lose slot 1]))
      ∧ (x.st = .quarantine → Does (.quarantineExpiry slot) s (fun t => t.part.slots = s.part.slots
        ∧ t.part.heldChanges.map HeldChange.act = s.part.heldChanges.map HeldChange.act ++ [.free slot])))
  ∧ (s.takes port p = true → p.op = 0x07 → s.poolReq p.src p.tag = none → Does (.e2eNak port p) s (fun t =>
      Counts .e2eNaksReceived port 1 s t ∧ Frame [.ctrs] s t))
  ∧ (∀ q, s.takes port p = true → p.op = 0x07 → s.poolReq p.src p.tag = some q → s.compact port = true → isFabric (s.portOf q) = true →
      Does (.e2eNak port p) s (fun t => t.carries { q.pkt with resend := true } ∧ Frame [.ledger, .leaves, .ctrs] s t))
  ∧ (∀ r ctx gen, ctx ≠ 0 → ctx < 2 ^ 16 → gen < 2 ^ 32 → s.accepts ctxInvalidateObj r 2 (leBytes 2 ctx ++ leBytes 4 gen) = true →
      s.mirrors = false → Does (.ctxInvalidate r ctx gen) s (fun t => ∃ w, t = settleWaits w ∧ agetD w.part.gens ctx 0 = gen ∧ (∀ e ∈ w.part.xlate, e.ctx ≠ ctx)
        ∧ (∀ e ∈ w.part.walks, e.ctx ≠ ctx) ∧ (∀ e ∈ w.part.ctxCache, e.1.2 ≠ ctx)))
  ∧ (∀ r pa length, pa % 128 = 0 → length % 128 = 0 → s.accepts recallRangeObj r 8 (leBytes 8 pa ++ leBytes 8 length) = true →
      Does (.recallRange r pa length) s (fun t => ∃ w, t = settleWaits w ∧ w.dir = s.dir ∧ ∃ y, w.part.rangeWaits = s.part.rangeWaits ++ [y]
        ∧ y.req = r ∧ y.visited = [] ∧ ∀ l, l ∈ y.lines ↔ s.copyHere r = false ∧ pa ≤ l * 128 ∧ l * 128 < pa + length
          ∧ ((s.entry l).isSome = true ∨ ∃ g ∈ s.deep.fills, l ∈ granuleLines g.granule)))
  ∧ (∀ r, slot < 65536 → aget s.part.slots slot = some x → x.st = .active ∨ x.st = .detaching →
      s.copyHere r = false → s.changing slot = false → s.mirrors = false → s.accepts (cmdObj 0x1420 3 (roleOp + rolePm)) r 2 (leBytes 2 slot) = true → Does (.partnerEvict r slot) s (fun t =>
        ∃ w y, t = reply (cmdObj 0x1420 3 (roleOp + rolePm)) r .ok [] (settleWaits w) ∧ aget w.part.slots slot = some y ∧ y.st = .lost ∧ y.loss.cause = 2))
  ∧ (∀ r ctx, Replies (.fqOverflowClear r ctx) s (cmdObj 0x1420 4 rolePm) r 2 (leBytes 2 ctx) .ok [] (fun t =>
      t.part.fqSticky = s.part.fqSticky.filter (· ≠ ctx) ∧ t.mem = s.mem))
  ∧ (∀ src tag q v pa tenant key tier, s.frozen = false → s.request src tag = some q → q.phase = .settle → hasAddr q.op = true →
      q.op ≠ 0x15 → q.op ≠ 0x16 → checkAddressed q.port q.slot q.pkt s = (v, .ok pa tenant key tier) → q.data = none → v.txn.halves = [] →
      aget v.dir.recalls (pa / 128) = none → Does (.genSettleRecheck src tag false) s (fun t => t.request src tag = some
        { q with phase := if needsHalf q.op then .awaitData else .ready, pa := pa, tenant := tenant, keyId := key, tier := tier }))
  ∧ (∀ dest tag q, s.frozen = false → s.poolReq dest tag = some q → q.issuer = .snoop ∨ q.issuer = .stash →
      Does (.poolRequestTimeout dest tag) s (fun t => (s.txn.poolWait = [] → t.poolReq dest tag = none) ∧ t.mem = s.mem ∧ t.dir = s.dir))

/-- The sleds' answers, the frames' ages and the deep tier's commands act (R295 to R312, R317). -/
def Obligations.DeepTier : Prop :=
  ∀ (s : State) (sled : Nat) (p : Packet), sled < 4 →
  (∀ q, s.portUp (32 + sled) = true → p.dest = s.obj .nodeEid → p.crcGood = true → p.linkMalformed (32 + sled) = false → p.op = 0x81 → s.sledReq (32 + sled) p.tag true = some q →
      Does (.dtInfoData (32 + sled) p) s (fun t => (t.sled sled).present = true ∧ (t.sled sled).reachable = true ∧ (t.sled sled).eid = p.src
        ∧ (t.sled sled).capacity = bits (leNat (p.body.take 16)) 0 32 ∧ (t.sled sled).ownerEid = bits (leNat (p.body.take 16)) 32 18
        ∧ (t.sled sled).ownerEpoch = bits (leNat (p.body.take 16)) 64 32 ∧ t.mem = s.mem))
  ∧ (∀ f u, s.portUp (32 + sled) = true → p.dest = s.obj .nodeEid → p.crcGood = true → p.linkMalformed (32 + sled) = false → p.op = 0x88 →
      s.deep.fills.find? (fun f => dpPort (granuleSled f.granule) == 32 + sled && f.tag == p.tag) = some f → s.fillOf f.granule = some f → f.done = false →
      u = p.harg / 2 * 2 → 512 ≤ u → u < 544 → Does (.dtReadData (32 + sled) p) s (fun t => t.mem = s.mem ∧ t.deep.fills = s.deep.fills.map (fun x =>
        if x.granule = f.granule then { x with metas := aset (aset x.metas (u - 512) (p.poison, p.body.take 128)) (u - 511) (p.poison, (p.body.drop 128).take 128) } else x)))
  ∧ (∀ f u l, s.portUp (32 + sled) = true → p.dest = s.obj .nodeEid → p.crcGood = true → p.linkMalformed (32 + sled) = false → p.op = 0x88 →
      s.deep.fills.find? (fun f => dpPort (granuleSled f.granule) == 32 + sled && f.tag == p.tag) = some f → s.fillOf f.granule = some f → f.done = false →
      u = p.harg / 2 * 2 → u < 512 → (aget f.metas (u / 16)).isSome = true → f.arrived.contains u = false → s.deep.waiting = [] → s.part.ownWrites = [] → s.MemWf →
      l = s.framePa f.cluster f.set f.way / 128 + u → s.lineFailed l = false → s.lineFailed (l + 1) = false → Does (.dtReadData (32 + sled) p) s (fun t => ∃ w, t = settleWaits w
        ∧ (∀ a, a / 128 ≠ l → a / 128 ≠ l + 1 → w.readByte a = s.readByte a)
        ∧ (∀ i, i < 128 → w.readByte (l * 128 + i) = (padTo 128 (p.body.take 128)).getD i 0)
        ∧ w.deep.fills = s.deep.fills.map (fun x => if x.granule = f.granule then { x with arrived := x.arrived ++ [u, u + 1] } else x)))
  ∧ (∀ q, s.portUp (32 + sled) = true → p.dest = s.obj .nodeEid → p.crcGood = true → p.linkMalformed (32 + sled) = false → p.op = 0x86 → s.sledReq (32 + sled) p.tag false = some q →
      q.pkt.op = 0x82 → p.status = 0 → s.twin.basis = 0 → Does (.dtCmp (32 + sled) p) s (fun t => ∃ w, t = settleWaits w
        ∧ (w.sled sled).claimed = true ∧ (w.sled sled).fenced = false ∧ (w.sled sled).ownerEid = s.obj .nodeEid
        ∧ (w.sled sled).ownerEpoch = leNat ((q.pkt.body.drop 4).take 4) ∧ w.mem = s.mem))
  ∧ (∀ f cluster set way, s.frozen = false → s.deep.fills.find? (fun f => f.cluster == cluster && f.set == set && f.way == way) = some f → f.done = true →
      (f.arrived.length = 512 ∧ f.metas.length = 32 → False) → f.reread = false → Does (.deepMissingUnits cluster set way) s (fun t => ∃ tag, t.mem = s.mem
        ∧ t.deep.fills = s.deep.fills.map (fun x => if x.granule = f.granule then { x with reread := true, done := false, tag := tag } else x)))
  ∧ (∀ cluster set way tag, s.frozen = false → tag = s.tag cluster set way → tagHas tag tagValid = true → tagHas tag tagDirty = true → tagHas tag tagWriting = false →
      tagHas tag tagFilling = false → s.maySled (granuleSled (tagGranule tag)) = true → s.quarantined cluster set = false →
      (s.deep.writebacks.filter (fun x => granuleSled x.granule == granuleSled (tagGranule tag))).length < 64 → s.tagReady cluster set = true →
      s.deep.queue = [] → Does (.dirtyAgeExpiry cluster set way) s (fun t => t.deep.writebacks.map (fun x => (x.cluster, x.set, x.way, x.granule))
          = s.deep.writebacks.map (fun x => (x.cluster, x.set, x.way, x.granule)) ++ [(cluster, set, way, tagGranule tag)]))
  ∧ (∀ cluster g src tag q, s.frozen = false → s.deep.waiting = [(cluster, g, src, tag)] → s.request src tag = some q →
      Does (.deepWaitResume cluster) s (fun t => t = settleWaits (bulkStep (orderRequest q false s))))
  ∧ (s.frozen = false → s.reachable sled = false → (s.sled sled).reachable = true → s.deep.waiting = [] → Does (.sledWaitTimeout sled) s (fun t =>
      ∃ w, t = settleWaits w ∧ (w.sled sled).reachable = false ∧ w.mem = s.mem
        ∧ ∀ x ∈ s.deep.seekers, granuleSled x.1 = sled → s.frameWay (granulePa x.1) = none → (x.1, x.2.1, x.2.2.1, some .timeout) ∈ w.deep.seekers))
  ∧ (∀ r pa length c which, (c, which) ∈ [(Instr.deepPin r pa length, 1), (.deepPrefetch r pa length, 3), (.deepTrim r pa length, 5)] →
      (bulkVerdict s pa length).bad = false → s.standby = false → s.deep.bulk = none →
      s.accepts (cmdObj 0x1630 which rolePm) r 8 (leBytes 8 pa ++ leBytes 8 length) = true → Does c s (fun t => ∃ w, t = settleWaits (bulkStep w)
        ∧ w.deep = { s.deep with bulk := some { req := r, which := which, granules := (List.range (length / 65536)).map (fun i => granuleOf pa + i)
                                                first := granuleOf pa, count := length / 65536, sled := 0, noSpace := false, aborted := false } } ∧ w.mem = s.mem))
  ∧ (∀ r, (s.sled sled).present = true → s.deep.units ≠ 0 → s.standby = false → s.deep.bulk = none →
      s.accepts (cmdObj 0x1630 4 (roleOp + rolePm)) r 1 (leBytes 1 sled) = true → Does (.deepFlush r sled) s (fun t => ∃ w, t = settleWaits (bulkStep w)
        ∧ w.deep = { s.deep with bulk := some { req := r, which := 4, granules := [], first := 0, count := 0, sled := sled, noSpace := false, aborted := false } }))
  ∧ (∀ r pa way, (bulkVerdict s pa 65536).bad = false → s.standby = false → s.MemWf → s.frameWay (granulePa (granuleOf pa)) = some way →
      s.lineFailed (s.tagLinePa (granuleCluster (granuleOf pa)) (s.frameSet (granuleOf pa)) / 128) = false →
      Replies (.deepUnpin r pa 65536) s (cmdObj 0x1630 2 rolePm) r 8 (leBytes 8 pa ++ leBytes 8 65536) .ok [] (fun t =>
        tagHas (t.tag (granuleCluster (granuleOf pa)) (s.frameSet (granuleOf pa)) way) tagPin = false ∧ t.deep.bulk = s.deep.bulk))
  ∧ (∀ r, (s.sled sled).present = true → s.twin.st = .solo → Replies (.sledClaimForce r sled) s (cmdObj 0x1630 6 roleOp) r 1 (leBytes 1 sled) .ok [] (fun t =>
      (t.sled sled).fenced = false ∧ ∃ q ∈ t.txn.pool, q.issuer = .deep ∧ q.pkt.op = 0x82 ∧ q.key = sled ∧ q.port = 32 + sled))

/-- The DRAM channels issue, return, refresh, retrain, panic, scrub and test themselves (R275 to R290, R322, R328 to R331, R342, R346, R350). -/
def Obligations.DramChannels : Prop :=
  ∀ (s : State) (ch : Nat), s.frozen = false →
  (∀ pseudo c b, s.channelRuns ch = true → s.stackOpen ch = true → c = (s.channel ch).enter.moveAll (s.channel ch).reqs.length →
      (List.range 16).find? (fun b => decide (agetD c.refreshDue (pseudo * 16 + b) 0 ≥ 8) && !c.bankBusy pseudo b) = some b →
      Does (.dramCommandSlot ch pseudo) s (fun t => t.out = .dram (ch / 32) (ch % 32) ((pseudo * 16 + b) * 4 + 0) :: s.out
        ∧ (t.channel ch).refreshDue = amod c.refreshDue (pseudo * 16 + b) 0 (· - 1) ∧ (t.channel ch).reqs = c.reqs ∧ Frame [.dram, .ctrs, .out] s t))
  ∧ (∀ pseudo c r, s.channelRuns ch = true → s.stackOpen ch = true → c = (s.channel ch).enter.moveAll (s.channel ch).reqs.length →
      (List.range 16).find? (fun b => decide (agetD c.refreshDue (pseudo * 16 + b) 0 ≥ 8) && !c.bankBusy pseudo b) = none →
      ((panicUpdate ch (setChannel ch (fun _ => c) s)).channel ch).pick pseudo = some r →
      Does (.dramCommandSlot ch pseudo) s (fun t =>
        t.out = .dram (ch / 32) (ch % 32) ((r.place.pseudo * 16 + r.place.bank) * 4 + if r.write = true then 2 else 1) :: s.out
          ∧ (t.channel ch).reqs = c.reqs.map (fun x => if x.id = r.id then { x with issued := true } else x) ∧ t.mem = s.mem))
  ∧ (∀ id errors r, (s.channel ch).reqs.find? (fun r => r.id == id && r.issued) = some r → r.write = true →
      s.powerGood (16 + ch / 32) = true → Does (.dramDataReturn ch id errors) s (fun t =>
      (t.channel ch).reqs = (s.channel ch).reqs.filter (fun x => x.id ≠ id) ∧ Counts .chWrites ch 1 s t ∧ Frame [.dram, .ctrs] s t))
  ∧ (∀ id r q, (s.channel ch).reqs.find? (fun r => r.id == id && r.issued) = some r → r.write = false → r.cause = .request q.src q.tag →
      s.request q.src q.tag = some q → q.phase = .dram → q.op = 0x12 → s.powerGood (16 + ch / 32) = true → s.deep.bulk = none →
      Does (.dramDataReturn ch id []) s (fun t => ∃ w, t = settleWaits w
        ∧ w.request q.src q.tag = none ∧ (w.lineMeta r.line).inPantry = true ∧ w.mem.cells = s.mem.cells))
  ∧ (∀ pseudo bank, (s.punit (16 + ch / 32)).st ≠ .deep → Does (.refreshInterval ch pseudo bank) s (fun t => Frame [.dram, .ctrs] s t
      ∧ agetD (t.channel ch).refreshDue (pseudo * 16 + bank) 0 = min (agetD (s.channel ch).refreshDue (pseudo * 16 + bank) 0 + 1) 8))
  ∧ (∀ id r, (s.channel ch).reqs.find? (fun r => r.id == id && r.issued) = some r → (s.channel ch).st = .serving →
      ((s.channel ch).retrainAt.filter (fun t => decide (s.now < t + 60000000000))).length < 3 → Does (.dramCommandTimeout ch id) s (fun t =>
        (t.channel ch).st = .retraining ∧ (t.channel ch).reqs = (s.channel ch).reqs ∧ t.mem = s.mem))
  ∧ ((s.channel ch).st = .retraining → (s.channel ch).fullTrain = none → Does (.channelRetrainDone ch true) s (fun t => (t.channel ch).st = .serving
      ∧ (t.channel ch).reqs = (s.channel ch).reqs.map (fun r => { r with issued := false }) ∧ t.mem = s.mem))
  ∧ ((s.channel ch).st = .retraining → (s.channel ch).fullTrain = none → s.waitingOn ch = [] → Does (.channelRetrainDone ch false) s (fun t =>
      (t.channel ch).st = .failed ∧ (t.channel ch).reqs = [] ∧ t.mem = s.mem))
  ∧ (∀ mirror, (if mirror = true then (s.channel ch).panicMir else (s.channel ch).panicVc6) = .on → Does (.panicCap ch mirror) s (fun t =>
      (if mirror = true then (t.channel ch).panicMir else (t.channel ch).panicVc6) = .capped ∧ Counts .chPanicCapped ch 1 s t ∧ Frame [.dram, .ctrs] s t))
  ∧ (∀ mirror, (if mirror = true then (s.channel ch).panicMir else (s.channel ch).panicVc6) = .capped → Does (.panicResume ch mirror) s (fun t =>
      (if mirror = true then (t.channel ch).panicMir else (t.channel ch).panicVc6)
        = (if (s.channel ch).level (if mirror = true then .rtMirror else .rtVc6) > s.obj .panicOff then .on else .off) ∧ Frame [.dram] s t))
  ∧ (s.channelRuns ch = true → Does (.driftTrack ch) s (fun t => t.channel ch = { s.channel ch with drift := (s.channel ch).drift + 1 } ∧ Frame [.dram] s t))
  ∧ (∀ r, ch < 256 → (s.channel ch).st ≠ .failed → Starts (.channelRetrain r ch) s channelRetrainObj r 1 (leBytes 1 (ch / 32) ++ leBytes 1 (ch % 32)) (fun t =>
      (t.channel ch).st = .retraining ∧ (t.channel ch).fullTrain = some r ∧ t.mem = s.mem))
  ∧ (∀ pa held, s.obj .scrubEnable ≠ 0 → pa < dramTop → s.channelRuns (channelOfPa pa) = true →
      held = ((s.lineMeta (pa / 128)).inPantry && (s.lineMeta (pa / 128)).dirty) → Does (.scrubLine pa) s (fun t =>
        (t.channel (channelOfPa (pa / 128 * 128))).reqs.map (fun x => (x.id, x.line, x.write, x.cause))
          = (s.channel (channelOfPa (pa / 128 * 128))).reqs.map (fun x => (x.id, x.line, x.write, x.cause)) ++ [(s.dram.nextId, pa / 128, held, .scrub)]
        ∧ t.integ = (scrubStep (channelOfPa pa) s).integ ∧ t.mem.cells = s.mem.cells
        ∧ (held = true → (t.lineMeta (pa / 128)).dirty = false) ∧ (held = false → t.mem = s.mem)))
  ∧ (s.waitingOn ch = [] → Does (.decoderSelftestHourly ch false) s (fun t => (t.channel ch).st = .failed
      ∧ aget t.integ.selfTest (3, ch) = some (3, s.now) ∧ t.mem = s.mem))
  ∧ Does (.decoderSelftestHourly ch true) s (fun t => t = s)
  ∧ (∀ r, Replies (.errorLogClear r) s (cmdObj 0x1740 1 roleOp) r 0 [] .ok [] (fun t => t.integ = { s.integ with log := [] } ∧ t.mem = s.mem))
  ∧ (∀ r cluster set, s.quarantined cluster set = true → s.MemWf → Replies (.deepSetRelease r cluster set) s (cmdObj 0x1740 2 roleOp) r 1
      (leBytes 1 cluster ++ leBytes 4 set) .ok [] (fun t => t.quarantined cluster set = false ∧ ∀ way, way < 16 → t.tag cluster set way = 0))
  ∧ (∀ r pa, pa % 128 = 0 → pa < s.poolTop → isDeepPa pa = false → s.standby = false → s.lineFailed (pa / 128) = false → s.obs.dumps = [] → s.MemWf →
      Replies (.poisonInject r pa) s (cmdObj 0x1740 3 roleDebug) r 8 (leBytes 8 pa) .ok [] (fun t => (t.lineMeta (pa / 128)).poison = true
        ∧ ∀ a, t.readByte a = s.readByte a))


/-- A RECIPE that arrives, passes policing and its checks is accepted and acknowledged; a reserved code is refused; a cancel and an abort
are taken (R22, R354 to R359, R394 to R396). -/
def Obligations.RecipesArrive : Prop :=
  ∀ (s : State) (port : Nat) (p : Packet),
  (∀ slot u v params skip, s.takes port p = true → s.admits slot p = true → s.notNow p = false → s.polices port slot p u → p.op = 0x50 → p.enc = false →
    s.isSealed (s.readDesc p.harg).owner = false → recipeChecks (dieOfPort port) slot p.harg (AccBy.params p.src p.tag slot) (descOf p.body) u = (v, .pass params skip) →
    ∀ c code, (c, code) ∈ [(Instr.fill port p, 1), (.copy port p, 2), (.compare port p, 3), (.reduce port p, 4), (.gatherReduce port p, 5),
        (.scatterAdd port p, 6), (.optimStep port p, 8), (.kvSelect port p, 9), (.deltaPack port p, 10), (.digest port p, 11), (.publish port p, 12),
        (.kernel port p, 13)] → (descOf p.body).code = code →
      Does c s (fun t => t.mem = v.mem ∧ t.recp.nextId = v.recp.nextId + 1 ∧ t.recp.queues = v.recp.queues ∧ ∃ r ∈ t.recp.recipes, r.id = v.recp.nextId
        ∧ r.src = p.src ∧ r.tag = p.tag ∧ r.slot = slot ∧ r.ctx = p.harg ∧ r.d = descOf p.body ∧ r.params = params ∧ r.skip = skip ∧ r.done = []
        ∧ r.failed = [] ∧ r.cancelled = false ∧ r.total = (descOf p.body).total params ∧ (r.phase = .running ∨ r.phase = .admission)))
  ∧ (∀ slot u v t params skip, s.takes port p = true → s.admits slot p = true → s.notNow p = false → s.polices port slot p u → p.op = 0x50 → p.enc = false →
    s.isSealed (s.readDesc p.harg).owner = false → (descOf p.body).code = 7 →
    recipeChecks (dieOfPort port) slot p.harg (AccBy.params p.src p.tag slot) (descOf p.body) u = (v, .pass params skip) → arriveStage port slot p v = (t, true) →
      Does (.allreduceStage port p) s (fun x => x = t))
  ∧ (∀ slot u, s.takes port p = true → s.admits slot p = true → s.notNow p = false → s.polices port slot p u → p.op = 0x50 → p.enc = false →
    s.isSealed (s.readDesc p.harg).owner = false → u.isSealed (u.readDesc p.harg).owner = false →
    (descOf p.body).code = 0 ∨ 13 < (descOf p.body).code → Does (.recipeReservedCode port p) s (fun t =>
      t.recp.recipes = s.recp.recipes ∧ t.mem = s.mem ∧ t.carries (mkPacket 5 0x52 p.src p.dest p.tag Status.unsupported.code 0 false doneReset)))
  ∧ (∀ slot x u r, s.takes port p = true → p.op = 0x54 → p.resend = false → s.slotOfEid p.src = some slot → aget s.part.slots slot = some x → x.st = .active →
    s.outstandingHere p.src p.tag = false → s.notNow p = false → s.polices port slot p u →
    u.recp.recipes.find? (fun r => r.src == p.src && r.tag == p.tag) = some r → r.phase ≠ .collecting → r.phase ≠ .reducing → u.recp.recipes.all (fun y => y.id != r.id || y.phase != .reducing) = true → Does (.recipeCancel port p) s (fun t =>
      (∀ y ∈ t.recp.recipes, y.id = r.id → y.cancelled = true) ∧ t.recp.recipes.length = u.recp.recipes.length ∧ t.mem = s.mem
        ∧ t.carries (mkPacket 0 0x06 p.src p.dest p.tag Status.ok.code 0 false [])))
  ∧ (∀ slot x u r, s.takes port p = true → p.op = 0x54 → p.resend = false → s.slotOfEid p.src = some slot → aget s.part.slots slot = some x → x.st = .active →
    s.outstandingHere p.src p.tag = false → s.notNow p = false → s.polices port slot p u →
    u.recp.recipes.find? (fun r => r.src == p.src && r.tag == p.tag) = some r → r.phase = .reducing → Does (.recipeCancel port p) s (fun t =>
      t.recp = u.recp ∧ t.mem = s.mem ∧ t.carries (mkPacket 0 0x06 p.src p.dest p.tag Status.refusedState.code 0 false [])))
  ∧ (∀ req slot tag r, s.standby = false → s.recp.recipes.find? (fun x => x.slot == slot && x.tag == tag) = some r → r.phase ≠ .collecting →
    s.recp.recipes.all (fun y => y.id != r.id || y.phase != .reducing) = true → r.phase ≠ .reducing →
    Replies (.recipeAbort req slot tag) s (cmdObj 0x1820 1 roleOp) req 2 (leBytes 2 slot ++ leBytes 2 tag) .ok [] (fun t =>
      (∀ y ∈ t.recp.recipes, y.id = r.id → y.cancelled = true) ∧ t.mem = s.mem))

/-- The tiles of a recipe are dispatched, taken, checked, committed and lost (R335, R361 to R370). -/
def Obligations.RecipeTiles : Prop :=
  ∀ (s : State), s.frozen = false →
  (∀ id r t, s.standby = false → s.recipe id = some r → ((List.range (r.total - r.next)).map (fun i => r.next + i)).find? (fun t => !r.committed t) = some t →
    r.phase = .running → s.recipeWaits id = false → s.recipeGrant id = none → r.cancelled = false → r.failed = [] → r.scanFailed = false → t < r.f + 512 →
    r.barrier t ≤ r.f → r.d.flag 0 = false → (agetD s.recp.queues (s.tileCluster r t) []).length < 1024 → s.fw.act ≠ .pause →
    (s.unit .cluster (s.tileCluster r t)).st ≠ .resetting → Does (.tileDispatch id) s (fun x => ∃ w, x = fillLocals (s.tileCluster r t) w
      ∧ { recipe := id, tile := t, stolen := false } ∈ agetD w.recp.queues (s.tileCluster r t) [] ∧ w.recipe id = some { r with next := t + 1 } ∧ w.mem = s.mem))
  ∧ (∀ core t rest, s.coreAble core = true → (s.coreRec core).run = none → s.fw.act ≠ .pause → agetD s.recp.locals core [] = t :: rest →
    Does (.coreSteal core) s (fun x => ∃ w c, x = fillLocals (clusterOf core) w ∧ (w.coreRec core).run = some c ∧ c.recipe = t.recipe ∧ c.tile = t.tile
      ∧ c.checked = false ∧ c.ending = .running ∧ agetD w.recp.locals core [] = rest ∧ w.mem = s.mem))
  ∧ (∀ core t r u v c gen, (s.coreRec core).run = some t → s.recipe t.recipe = some r → t.kernel = false → t.checked = false → s.coreAble core = true →
    u = clearForTenant core (s.readDesc r.ctx).owner s → gen = agetD s.part.gens r.ctx 0 →
    checkSpans (dieOfCluster (clusterOf core)) r.ctx r.d.code (r.placeOf t.tile) (r.tileSpans (u.stageSources r) t.tile) (Checked.start []) u = (v, c) →
    (r.d.dataDriven = false → c.verdict gen v = .ok → Does (.tileCheck core) s (fun y =>
      (y.coreRec core).run = some { t with checked := true, pages := c.pages } ∧ y.mem = v.mem ∧ y.recp.queues = v.recp.queues))
    ∧ (∀ w x e, r.d.dataDriven = true → c.settle = none →
      readySpans (AccBy.tile core r.slot) c.pages false ((spanLines (r.tileSpans (u.stageSources r) t.tile)).filter (fun x => !x.write)) v = (w, .ready) →
      checkSpans (dieOfCluster (clusterOf core)) r.ctx r.d.code (fun i => 2 ^ 20 + i) (r.dataSpans (w.reader c.pages) t.tile) c w = (x, e) →
      (r.d.code ≠ 5 → e.verdict gen x = .ok → Does (.tileCheck core) s (fun y =>
        (y.coreRec core).run = some { t with checked := true, pages := e.pages } ∧ y.mem = x.mem ∧ y.recp.queues = x.recp.queues))
      ∧ (∀ z z' e', r.d.code = 5 → e.settle = none →
        readySpans (AccBy.tile core r.slot) e.pages false (spanLines (r.dataSpans (w.reader c.pages) t.tile)) x = (z, .ready) →
        checkSpans (dieOfCluster (clusterOf core)) r.ctx r.d.code (fun i => 2 ^ 20 + i) (r.dataSpans (z.reader e.pages) t.tile) e z = (z', e') →
        e'.verdict gen z' = .ok → Does (.tileCheck core) s (fun y =>
          (y.coreRec core).run = some { t with checked := true, pages := e'.pages } ∧ y.mem = z'.mem ∧ y.recp.queues = z'.recp.queues))))
  ∧ (∀ core t r, (s.coreRec core).run = some t → s.recipe t.recipe = some r → t.kernel = false → t.checked = true → s.coreAble core = true →
    (s.unit .core core).mismatches = [] → r.lost = [] → r.d.code ≠ 13 → Does (.tileCommit core true) s (fun y => ∃ w, y = fillLocals (clusterOf core) w ∧ (w.coreRec core).run = none ∧ w.mem = s.mem
      ∧ ((w.recipe t.recipe).map Recipe.lost) = some [(t.tile, core)]
      ∧ ∃ rest, agetD w.recp.queues (clusterOf core) [] = { recipe := t.recipe, tile := t.tile, stolen := t.stolen } :: rest))
  ∧ (∀ core t r g u v w c, (s.coreRec core).run = some t → s.recipe t.recipe = some r → t.kernel = false → t.checked = true → s.coreAble core = true →
    r.d.code ≠ 6 → r.d.code ≠ 9 → r.d.code ≠ 12 → (List.range t.tile).all (fun x => r.committed x || r.checked.contains x) = true →
    grantWhole t.pages (r.tileSpans (s.stageSources r) t.tile) s = (g, true) →
    readySpans (AccBy.tile core r.slot) t.pages (r.d.flag 1) (spanLines (r.tileSpans (s.stageSources r) t.tile)) g = (u, .ready) →
    (r.dataSpans (u.reader t.pages) t.tile).any (fun x => x.pages.any (fun a => !ahas t.pages (a / 65536))) = false →
    c = Checked.start t.pages → c.verdict (agetD u.part.gens r.ctx 0) u = .ok →
    readySpans (AccBy.tile core r.slot) c.pages (r.d.flag 1) (spanLines (r.dataSpans (u.reader t.pages) t.tile)) (settled (settleTile core) r.ctx u) = (v, .ready) →
    r.fast = false → w = (commitOuts core c.pages (outLines (r.compute (v.reader c.pages) (s.stageSources r) v.free t.tile).outs) v).1 →
    Does (.tileCommit core false) s (fun y => ∃ x, y = settleWaits (fillLocals (clusterOf core) x) ∧ x.mem = w.mem ∧ (x.coreRec core).run = none
      ∧ ∀ q, x.recipe t.recipe = some q → t.tile ∈ q.done))

/-- A stage that the first of several ranks joins is Collecting: the header names the rank and nobody is answered but with RECIPE_ACK; recipes
end with their record when all has committed, and TIMEOUT when their sugar or their stage does not come (R358, R364, R370, R379 to R381). -/
def Obligations.StagesAndEnds : Prop :=
  (∀ (s : State) (port slot : Nat) (p : Packet) (pa ten key tr epa eten ekey etr : Nat) (u v x : State) (first : Bool),
  xlate (dieOfPort port) p.harg (descOf p.body).w2 [0, 1, 3] true s = (u, .ok pa ten key tr) →
  xlate (dieOfPort port) p.harg (stageEntry (descOf p.body).w2 (descOf p.body).rank) [0, 1, 3] true u = (v, .ok epa eten ekey etr) →
  readyAll (AccBy.arrival p.src p.tag slot) p.harg [(descOf p.body).w2, stageEntry (descOf p.body).w2 (descOf p.body).rank] v = (x, true) →
  x.arrived p.harg (descOf p.body).w2 = [] → (descOf p.body).flag 4 = false → x.recipeWaits x.recp.nextId = false →
  arrivalOf (x.stageLine p.harg (descOf p.body).w2) p.harg (descOf p.body) false = .join first false →
  ∃ t, arriveStage port slot p s = (t, true) ∧ ∃ r ∈ t.recp.recipes, r.id = x.recp.nextId ∧ r.phase = .collecting ∧ r.src = p.src ∧ r.tag = p.tag
    ∧ r.leader = false ∧ r.ctx = p.harg ∧ r.d = descOf p.body)
  ∧ (∀ (s : State) (id : Nat) (r : Recipe), s.frozen = false → s.standby = false → s.recipe id = some r →
  (∀ u b, r.phase ≠ .collecting → r.phase ≠ .reducing → r.f ≥ r.total → s.inFlight id = 0 → writeThrough (AccBy.recipe r.id r.slot) r.ctx r.d.doneAddr (r.record r.status) s = (u, some b) →
    Does (.recipeEnd id) s (fun t => ∃ w, t = settleWaits w ∧ w.recipe id = none ∧ w.mem = u.mem))
  ∧ (s.recipeWaits id = true → s.now ≥ r.askedAt + s.obj .admissionLimit * 1000000 → r.failed = [] → Does (.admissionLimitTimeout id) s (fun t =>
      t.recipe id = some { r with failed := [((((List.range (r.total - r.next)).map (r.next + ·)).find? (fun n => !r.committed n)).getD r.total, .timeout)] } ∧ t.recipeWaits id = false ∧ t.mem = s.mem))
  ∧ (r.phase = .collecting → s.now ≥ parm (s.stageLine r.ctx r.d.w2) 32 8 → Does (.allreduceDeadline id) s (fun t => ∃ w, t = retryStage (endStage r.ctx r.d.w2 none w)
      ∧ w.mem = s.mem ∧ ∀ x ∈ s.arrived r.ctx r.d.w2, ∀ y, w.recipe x.id = some y → y.cancelled = false → y.failed = [(0, .timeout)])))

/-- Sugar, ballast, samples and the governor's tick (R521 to R529, R540, R543). -/
def Obligations.PowerBudget : Prop :=
  ∀ (s : State), s.frozen = false →
  (∀ g n, s.power.queue = [g] → s.admittable g = some n → Does .sugarQueueServe s (fun t => t.power.queue = [] ∧ t.mem = s.mem
      ∧ ∃ x ∈ t.power.grants, x.kind = g.kind ∧ x.key = g.key ∧ x.granted = n ∧ x.start = s.now ∧ x.stop = s.now + g.duration))
  ∧ (∀ g, s.power.queue = [g] → s.admittable g = none → Does .sugarQueueServe s (fun t => t = s))
  ∧ (∀ id r g, s.recipe id = some r → s.recipeGrant id = some g → s.recipeWaits id = false → Does (.grantRenewal id) s (fun t =>
      t.recipe id = some { r with askedAt := s.now } ∧ t.mem = s.mem
        ∧ ∃ x, (x ∈ t.power.queue ∨ x ∈ t.power.grants) ∧ x.kind = .renewal ∧ x.key = id ∧ x.requested = g.granted))
  ∧ (∀ kind key g, s.power.grants.find? (fun g => g.kind == kind && g.key == key) = some g → kind ≠ .wake →
      (kind = .boost ∨ s.recipe key = none → Does (.grantEnd kind key) s (fun t =>
        t.power.ballast = s.power.ballast ++ (if g.reached = 0 then [] else [(s.now, g.reached)])
          ∧ (t.power.grants.all fun x => !(x.kind == kind && x.key == key)) = true ∧ Frame [.power, .pkg, .ctrs] s t))
      ∧ (∀ r, kind ≠ .boost → s.recipe key = some r → s.recipeWaits key = false → Does (.grantEnd kind key) s (fun t =>
        t.power.ballast = s.power.ballast ++ (if g.reached = 0 then [] else [(s.now, g.reached)])
          ∧ (t.power.grants.all fun x => !(x.kind == kind && x.key == key)) = true ∧ t.recipe key = some { r with askedAt := s.now }
          ∧ t.recipeWaits key = true ∧ Frame [.power, .pkg, .ctrs, .recp] s t)))
  ∧ (∀ key g, s.power.grants.find? (fun g => g.kind == .wake && g.key == key) = some g → Does (.grantEnd .wake key) s (fun t =>
      t.power.ballast = s.power.ballast ∧ (t.power.grants.all fun x => !(x.kind == .wake && x.key == key)) = true ∧ Frame [.power, .pkg, .ctrs] s t))
  ∧ (∀ kind key, Does (.grantRampDone kind key) s (fun t => (∀ g ∈ t.power.grants, g.kind = kind → g.key = key → g.reached = g.coreMa)
      ∧ t.power.grants.length = s.power.grants.length ∧ Frame [.power, .pkg, .ctrs] s t))
  ∧ (∀ kind key x, s.pkg.step = some x → x.kind = kind.num → x.key = key → s.pkg.stepHeld = [] → Does (.grantRampDone kind key) s (fun t =>
      t.pkg.tp4 = false ∧ t.pkg.step = none ∧ Frame [.power, .pkg] s t))
  ∧ (∀ b rest, s.dueBallast = (b, rest) → s.mustAnnounce b = false → Does .ballastHoldExpiry s (fun t => t.power.ballast = rest
      ∧ t.power.ballastDown = s.power.ballastDown + b ∧ t.power.ballastTp4 = s.power.ballastTp4 ∧ t.quietMa = s.quietMa + b ∧ Frame [.power] s t))
  ∧ (∀ b rest, s.dueBallast = (b, rest) → s.mustAnnounce b = true →
      (s.pkg.tp4 = false → s.pkg.ackStuck = false → s.pkg.step = none → s.pkg.warmQual = false → s.pkg.stepHeld = [] →
        Does .ballastHoldExpiry s (fun t => t.power.ballast = rest ∧ t.power.ballastDown = s.power.ballastDown + b ∧ t.power.ballastTp4 = true
          ∧ t.pkg.tp4 = true ∧ t.pkg.step = some { kind := 9, key := 0, die := 0, milliAmps := b, rising := false, started := false }
          ∧ t.pkg.stepHeld = [] ∧ Frame [.power, .pkg, .ctrs] s t))
      ∧ (s.pkg.tp4 = true → Does .ballastHoldExpiry s (fun t => t.power.ballastTp4 = true ∧ t.pkg.tp4 = true ∧ t.pkg.step = s.pkg.step
          ∧ t.pkg.stepHeld = s.pkg.stepHeld ++ [{ kind := 9, key := 0, die := 0, milliAmps := b, rising := false, started := false }]
          ∧ Frame [.power, .pkg] s t)))
  ∧ (s.power.ballastTp4 = false → Does .ballastRampDownDone s (fun t => t.power.ballastDown = 0 ∧ Frame [.power] s t))
  ∧ (∀ x, s.power.ballastTp4 = true → s.pkg.step = some x → x.kind = 9 → x.key = 0 → s.pkg.ackStuck = false → s.pkg.warmQual = false →
      (s.pkg.stepHeld = [] → Does .ballastRampDownDone s (fun t => t.power.ballastDown = 0 ∧ t.pkg.tp4 = false ∧ t.pkg.step = none
        ∧ Frame [.power, .pkg] s t))
      ∧ (∀ y, s.pkg.stepHeld = [y] → y.kind ≠ 9 → Does .ballastRampDownDone s (fun t => t.power.ballastDown = 0 ∧ t.pkg.tp4 = true
        ∧ t.pkg.step = some y ∧ t.pkg.stepHeld = [] ∧ Frame [.power, .pkg, .ctrs] s t)))
  ∧ (∀ rails, Does (.powerSample rails) s (fun t => t.power.energyNj = s.power.energyNj + (rails.map (fun r => r.2.1 * r.2.2)).sum / 1000 * 10
      ∧ t.power.reserveNj = min (s.power.reserveNj + s.obj .sustainedLimit * 10000 - (rails.map (fun r => r.2.1 * r.2.2)).sum / 1000 * 10) 100000000000
      ∧ t.power.samples.head? = some ((rails.map (fun r => r.2.1 * r.2.2)).sum / 1000) ∧ Frame [.pkg, .power, .ctrs] s t))
  ∧ (∀ rail mv ma, mv < rail.least → Does (.powerSample [(rail, mv, ma)]) s (fun t => Counts .railDroops rail.num 1 s t
      ∧ aget t.pkg.railMv rail = some mv ∧ aget t.pkg.railMa rail = some ma))
  ∧ (s.obs.reheat.contains 0 = true → Does .governorTick s (fun t => t = s))
  ∧ (s.obs.reheat.contains 0 = false → 2 ≤ s.thermalLevel → Does .governorTick s (fun t => t.power.throttle = 3 ∧ (∀ u, u < 16 → (t.punit u).cap = 800)
      ∧ (∀ g ∈ t.power.grants, g.kind = .boost → 16 ≤ g.key) ∧ t.mem = s.mem))
  ∧ (s.obs.reheat.contains 0 = false → s.thermalLevel = 1 → Does .governorTick s (fun t => t.power.throttle = 2 ∧ t.mem = s.mem))
  ∧ (s.obs.reheat.contains 0 = false → s.thermalLevel = 0 → 1500000 < s.avgMw → Does .governorTick s (fun t => t.power.throttle = 1 ∧ (∀ u, u < 16 → (t.punit u).cap = max 800 ((s.punit u).cap - 100))
      ∧ t.mem = s.mem))
  ∧ (s.obs.reheat.contains 0 = false → s.thermalLevel = 0 → s.avgMw ≤ s.sustainedMw → s.avgMw ≤ 1500000 → s.power.throttle ≠ 1 → Does .governorTick s (fun t => t.power.throttle = 0 ∧ t.mem = s.mem))
  ∧ (∀ k, Does (.freqStep k) s (fun t => (t.punit k).freq = (if (s.punit k).freq < s.targetFreq k then min (s.targetFreq k) ((s.punit k).freq + 100)
      else max (s.targetFreq k) ((s.punit k).freq - 100)) ∧ Frame [.power, .pkg, .ctrs] s t))
  ∧ (∀ k, s.power.throttle = 0 → 1800 < s.obj .freqCap → s.runsCompute k = true → s.power.grants = [] → s.power.queue = [] → Does (.freqStep k) s (fun t =>
      ∃ x, (x ∈ t.power.queue ∨ x ∈ t.power.grants) ∧ x.kind = .boost ∧ x.key = k ∧ x.requested = 60 * (s.obj .freqCap - 1800)))

/-- The power states of clusters and stacks: idle, entry, wake (R530 to R539). -/
def Obligations.PowerUnits : Prop :=
  ∀ (s : State), s.frozen = false →
  ((∀ k, k < 16 → (s.punit k).move ≠ .napHeld) → (∀ b ∈ s.boot.bringIns, b.woken = true) →
    Does .napAllowance s (fun t => t = { s with power := { s.power with napUsed := s.power.napUsed - 40000 } }))
  ∧ (∀ u, u < 16 → (∀ k, k < 16 → ((s.punit k).move = .napHeld ↔ k = u)) → (∀ b ∈ s.boot.bringIns, b.woken = true) → s.power.napUsed ≤ 40000 → Does .napAllowance s (fun t => (t.punit u).move = .waking
      ∧ t.power.napUsed = 6000 ∧ Frame [.power] s t))
  ∧ (∀ u, u < 24 → (s.punit u).st = .run → (s.punit u).move = .none → s.unitIdle u = true →
      (s.deepest u = 0 → Does (.idleTimerExpiry u) s (fun t => t = s))
      ∧ (3 ≤ s.deepest u → (unitTimes u .deep).1 + (unitTimes u .deep).2.1 + (unitTimes u .deep).2.2 ≤ s.tNext u .deep → Does (.idleTimerExpiry u) s (fun t =>
          (t.punit u).move = .entering .deep ∧ (t.punit u).st = .run ∧ Frame [.power, .rings, .ctrs] s t)))
  ∧ (∀ u, u < 24 → s.unitIdle u = false → Does (.idleTimerExpiry u) s (fun t => t = s))
  ∧ (∀ u, 16 ≤ u → u < 24 → (s.punit u).st ≠ .run → (s.punit u).move = .none → Does (.calendarWake u) s (fun t => (t.punit u).move = .waking
      ∧ (t.punit u).event = true ∧ (t.punit u).st = (s.punit u).st ∧ Frame [.power] s t))
  ∧ (∀ u st, u < 24 → (s.punit u).move = .entering st → u < 16 ∨ st = .deep ∨ s.pulledIn (u - 16) = true → Does (.powerEntryDone u) s (fun t => (t.punit u).st = st ∧ (t.punit u).move = .none ∧ t.mem = s.mem
      ∧ (u < 16 → st = .deep → ∀ c ∈ coresOf u, corePresent c = true → (t.coreRec c).tray = [] ∧ (t.coreRec c).resident = none)))
  ∧ (∀ u st, 16 ≤ u → u < 24 → (s.punit u).move = .enteringWake st → st = .deep ∨ s.pulledIn (u - 16) = true →
      Does (.powerEntryDone u) s (fun t => (t.punit u).st = st ∧ (t.punit u).move = .waking ∧ t.mem = s.mem))
  ∧ (∀ u st, 16 ≤ u → u < 24 → (s.punit u).move = .entering st → st ≠ .deep → s.pulledIn (u - 16) = false → Does (.powerEntryDone u) s (fun t => t = s))
  ∧ (∀ u, u < 24 → (s.punit u).st = .run → (s.punit u).move = .none → Does (.wakeRequest u) s (fun t => t = s))
  ∧ (∀ u, 16 ≤ u → u < 24 → (s.punit u).st ≠ .run → (s.punit u).move = .none → Does (.wakeRequest u) s (fun t => (t.punit u).move = .waking
      ∧ agetD t.power.heldAt u 0 = agetD s.power.heldAt u 0 + 1 ∧ Frame [.power] s t))
  ∧ (∀ u, u < 16 → (s.punit u).st = .nap → (s.punit u).move = .none → s.power.napUsed ≤ 34000 → Does (.wakeRequest u) s (fun t => (t.punit u).move = .waking
      ∧ t.power.napUsed = s.power.napUsed + 6000 ∧ t.quietMa = s.quietMa + 6000 ∧ Frame [.power] s t))
  ∧ (∀ u, u < 16 → (s.punit u).st = .nap → (s.punit u).move = .none → 34000 < s.power.napUsed → Does (.wakeRequest u) s (fun t => (t.punit u).move = .napHeld
      ∧ Counts .pwNapWaits (dieOfCluster u) 1 s t ∧ Frame [.power, .ctrs] s t))
  ∧ (∀ u, u < 24 → (s.punit u).move = .waking → (s.punit u).event = false → (u < 16 → (s.punit u).st = .doze ∨ (s.punit u).st = .deep →
      s.power.grants.any (fun g => g.kind == .wake && g.key == u && g.full) = true) → Does (.wakeComplete u) s (fun t => (t.punit u).st = .run ∧ (t.punit u).move = .none
      ∧ agetD t.power.heldAt u 0 = 0 ∧ t.mem = s.mem))
  ∧ (∀ u, u < 16 → (s.punit u).move = .waking → (s.punit u).st = .doze → s.power.grants = [] → Does (.wakeComplete u) s (fun t => t = s))

/-- Jobs, hints and timers; the refill tick, a hold's limit, samples of queues (R503, R509 to R517, R533, R544, R546, R547). -/
def Obligations.JobsAndTraffic : Prop :=
  ∀ (s : State) (r : Req),
  (∀ job tenant, tenant ≤ 1023 → s.jobOpen job = false → (s.power.jobs.filter (fun j => j.closeAt == 0)).length < 1024 →
    Replies (.jobOpen r job tenant) s (cmdObj 0x1D20 1 rolePm) r 4 (leBytes 4 job ++ leBytes 2 tenant) .ok [] (fun t => t.jobOpen job = true
      ∧ ∃ j ∈ t.power.jobs, j.job = job ∧ j.tenant = tenant ∧ j.openAt = s.now ∧ j.openMj = s.energyMj ∧ j.closeAt = 0))
  ∧ (∀ job, s.jobOpen job = true → Replies (.jobClose r job) s (cmdObj 0x1D20 2 rolePm) r 4 (leBytes 4 job) .ok [] (fun t => t.jobOpen job = false
      ∧ (∃ j ∈ t.power.jobs, j.job = job ∧ j.closeMj = s.energyMj) ∧ (t.power.timers.all fun x => x.job != job) = true))
  ∧ (∀ job, s.jobOpen job = false → Replies (.jobClose r job) s (cmdObj 0x1D20 2 rolePm) r 4 (leBytes 4 job) .refusedState [] (fun t => t.power = s.power))
  ∧ (∀ clusters stackList stop, clusters < 2 ^ 16 → stackList < 2 ^ 8 →
    Replies (.quietHint r clusters stackList stop) s (cmdObj 0x1D20 3 rolePm) r 2 (leBytes 2 clusters ++ leBytes 1 stackList ++ leBytes 8 stop) .ok [] (fun t =>
      ∀ u, t.punit u = (if (maskUnits clusters stackList).contains u = true then { s.punit u with quiet := if stop > s.now then stop else 0 } else s.punit u)))
  ∧ (∀ job first period lead clusters stackList, clusters < 2 ^ 16 → stackList < 2 ^ 8 → period = 0 ∨ (10 ≤ period ∧ period ≤ 10000000) → s.jobOpen job = true →
    Replies (.jobStepTimer r job first period lead clusters stackList) s (cmdObj 0x1D20 4 rolePm) r 4
      (leBytes 4 job ++ leBytes 8 first ++ leBytes 4 period ++ leBytes 4 lead ++ leBytes 2 clusters ++ leBytes 1 stackList) .ok [] (fun t =>
        t.power.timers.filter (fun x => x.job == job) = (if period = 0 then [] else
          [{ job := job, first := first, period := period, lead := lead, units := maskUnits clusters stackList }])))
  ∧ (s.frozen = false →
  (s.twin.paused = true → Does .refillTick s (fun t => t.traffic.holds = s.traffic.holds ∧ Frame [.traffic] s t))
  ∧ (s.twin.paused = false → s.traffic.holds = [] → Does .refillTick s (fun t => ∃ w, t = settleWaits w ∧ Frame [.traffic] s w
      ∧ w.traffic.profiles = s.table .trafficProfiles ∧ w.traffic.assign = s.table .trafficAssign
      ∧ ∀ key b, aget w.traffic.ingress key = some b → ∃ a cir pir cbs pbs, aget s.traffic.ingress key = some a
        ∧ w.bucketRates key.2.1 key.2.2 true = some (cir, pir, cbs, pbs) ∧ b.c = min (min a.c cbs + cir) cbs ∧ b.p = min (min a.p pbs + pir) pbs))
  ∧ (∀ slot port vc h u pa tenant key tier, s.live .policingEnable ≠ 0 → s.twin.paused = false → s.twin.quiescing = false → s.fw.act ≠ .pause →
      agetD s.traffic.holds (slot, port, vc) [] = [h] → h.pkt.op = 0x10 →
      checkAddressed port slot h.pkt { s with traffic := { s.traffic with holds := adel s.traffic.holds (slot, port, vc) } } = (u, .ok pa tenant key tier) →
      Does (.holdLimitExpiry slot port vc) s (fun t => t.carries (statusPacket h.pkt .retry 0) ∧ t.txn.reqs = u.txn.reqs ∧ t.mem = u.mem))
  ∧ Does .queueSample s (fun t => t.traffic.clears = [] ∧ t.traffic.holds = s.traffic.holds ∧ Frame [.traffic] s t)
  ∧ (∀ slot, slot < 8192 ∨ slot = 0xFFFF → Replies (.histogramClear r slot) s (cmdObj 0x1C30 1 (roleOp + rolePm)) r 2 (leBytes 2 slot) .ok [] (fun t =>
      t.traffic.clears = s.traffic.clears ++ [slot] ∧ t.traffic.histos = s.traffic.histos)))

/-- The ALU computes x[RS1] op x[RS2], poisoned where a source is (R440, R451). -/
def Obligations.AluOps : Prop :=
  ∀ (s : State) (core th : Nat) (t : CoreTile) (x : Thread) (rd rs1 rs2 : Nat) (c : Instr) (op : AluOp),
  (c, op) ∈ [(Instr.aluAdd core th rd rs1 rs2, AluOp.add), (.aluSub core th rd rs1 rs2, .sub), (.aluMul core th rd rs1 rs2, .mul),
    (.aluMulh core th rd rs1 rs2, .mulh), (.aluMulhu core th rd rs1 rs2, .mulhu), (.aluDiv core th rd rs1 rs2, .div), (.aluDivu core th rd rs1 rs2, .divu),
    (.aluRem core th rd rs1 rs2, .rem), (.aluRemu core th rd rs1 rs2, .remu), (.aluAnd core th rd rs1 rs2, .and), (.aluOr core th rd rs1 rs2, .or),
    (.aluXor core th rd rs1 rs2, .xor), (.aluSll core th rd rs1 rs2, .sll), (.aluSrl core th rd rs1 rs2, .srl), (.aluSra core th rd rs1 rs2, .sra),
    (.aluSlt core th rd rs1 rs2, .slt), (.aluSltu core th rd rs1 rs2, .sltu), (.aluMin core th rd rs1 rs2, .min), (.aluMax core th rd rs1 rs2, .max),
    (.aluMinu core th rd rs1 rs2, .minu), (.aluMaxu core th rd rs1 rs2, .maxu)] →
  Retires c s core th [rd, rs1, rs2] t x (x.setX rd (alu op (x.xr rs1).1 (x.xr rs2).1) ((x.xr rs1).2 || (x.xr rs2).2))

/-- What the ALU's operations give at the corners R440 names: division by zero, the most negative number, shift amounts, products. -/
def Obligations.AluCorners : Prop :=
  ∀ (a b : Word64), alu .div a 0 = BitVec.allOnes 64 ∧ alu .divu a 0 = BitVec.allOnes 64 ∧ alu .rem a 0 = a ∧ alu .remu a 0 = a
  ∧ alu .div (BitVec.intMin 64) (BitVec.allOnes 64) = BitVec.intMin 64 ∧ alu .rem (BitVec.intMin 64) (BitVec.allOnes 64) = 0
  ∧ alu .sll a b = alu .sll a (b &&& 63) ∧ alu .srl a b = alu .srl a (b &&& 63) ∧ alu .sra a b = alu .sra a (b &&& 63)
  ∧ (b ≠ 0 → alu .add (alu .mul (alu .divu a b) b) (alu .remu a b) = a ∧ (alu .remu a b).ult b = true)
  ∧ (b ≠ 0 → alu .add (alu .mul (alu .div a b) b) (alu .rem a b) = a)
  ∧ (alu .mulhu a b).toNat * 2 ^ 64 + (alu .mul a b).toNat = a.toNat * b.toNat
  ∧ (alu .mulh a b).toInt * 2 ^ 64 + (alu .mul a b).toNat = a.toInt * b.toInt
  ∧ (alu .slt a b = 1 ↔ a.toInt < b.toInt) ∧ (alu .sltu a b = 1 ↔ a.toNat < b.toNat)
  ∧ (alu .min a b).toInt = min a.toInt b.toInt ∧ (alu .maxu a b).toNat = max a.toNat b.toNat

/-- Immediates, LUI, and the moves between kinds of registers; x0 discards what is written and p0 reads all ones (R434, R438, R439). -/
def Obligations.ScalarMoves : Prop :=
  ∀ (s : State) (core th : Nat) (t : CoreTile) (x : Thread) (rd rs1 : Nat),
  (∀ imm sh c op v, (c, op, v) ∈ [(Instr.addi core th rd rs1 imm, AluOp.add, imm), (.andi core th rd rs1 imm, .and, imm), (.ori core th rd rs1 imm, .or, imm),
      (.xori core th rd rs1 imm, .xor, imm), (.slti core th rd rs1 imm, .slt, imm), (.shiSll core th rd rs1 sh, .sll, (sh : Int)),
      (.shiSrl core th rd rs1 sh, .srl, (sh : Int)), (.shiSra core th rd rs1 sh, .sra, (sh : Int))] →
    Retires c s core th [rd, rs1] t x (x.setX rd (alu op (x.xr rs1).1 (BitVec.ofInt 64 v)) (x.xr rs1).2))
  ∧ (∀ imm, Retires (.lui core th rd imm) s core th [rd] t x (x.setX rd (BitVec.ofInt 64 (imm * 2 ^ 14)) false))
  ∧ Retires (.time core th rd) s core th [rd] t x (x.setX rd (BitVec.ofNat 64 (s.timeOf (dieOfCluster (clusterOf core)) / 256)) false)
  ∧ Retires (.xpois core th rd rs1) s core th [rd, rs1] t x (x.setX rd (if (x.xr rs1).2 = true then 1 else 0) false)
  ∧ Retires (.vpois core th rd rs1) s core th [rd, vReg rs1] t x (x.setX rd (if (x.vr rs1).2 = true then 1 else 0) false)
  ∧ Retires (.apois core th rd rs1) s core th [rd, aReg rs1] t x (x.setX rd (if (x.ar rs1).poison = true then 1 else 0) false)
  ∧ Retires (.pget core th rd rs1) s core th [rd, pReg rs1] t x (x.setX rd (x.pr rs1) false)
  ∧ ((x.xr rs1).2 = false → Retires (.pset core th rd rs1) s core th [rs1, pReg rd] t x (x.setP rd (x.xr rs1).1))
  ∧ ((x.xr rs1).2 = true → s.issues core th [rs1, pReg rd] t x → Traps (.pset core th rd rs1) s core t (excHere x th 0 7 0))
  ∧ Retires (.nop core th) s core th [] t x x
  ∧ (∀ v b, x.setX 0 v b = x ∧ x.xr 0 = (0, false)) ∧ (∀ v, x.setP 0 v = x ∧ x.pr 0 = BitVec.allOnes 64)
  ∧ (∀ v, 0 < rd → (x.setX rd v false).xr rd = (v, false) ∧ (x.setX rd v true).xr rd = (0, true) ∧ (x.setP rd v).pr rd = v)

/-- Branches and jumps: where the thread goes on, the link, poison that is consumed, and a target outside the text (R438, R452, R453). -/
def Obligations.BranchesAndJumps : Prop :=
  ∀ (s : State) (core th : Nat) (t : CoreTile) (x : Thread) (rd rs1 rs2 : Nat) (off : Int),
  (∀ c (k : Word64 → Word64 → Bool) major, (c, k, major) ∈ [(Instr.beq core th rs1 rs2 off, (fun a b => decide (a = b)), 0x0A),
      (.bne core th rs1 rs2 off, (fun a b => decide (a ≠ b)), 0x0B), (.blt core th rs1 rs2 off, (fun a b => decide (a.toInt < b.toInt)), 0x0C),
      (.bge core th rs1 rs2 off, (fun a b => decide (b.toInt ≤ a.toInt)), 0x0D), (.bltu core th rs1 rs2 off, (fun a b => decide (a.toNat < b.toNat)), 0x0E),
      (.bgeu core th rs1 rs2 off, (fun a b => decide (b.toNat ≤ a.toNat)), 0x0F)] →
    ((x.xr rs1).2 = false → (x.xr rs2).2 = false →
      (∀ n : Nat, k (x.xr rs1).1 (x.xr rs2).1 = true → (x.pc : Int) + off = n → Goes c s core th [rs1, rs2] t x n x)
      ∧ (k (x.xr rs1).1 (x.xr rs2).1 = false → Retires c s core th [rs1, rs2] t x x)
      ∧ (k (x.xr rs1).1 (x.xr rs2).1 = true → (x.pc : Int) + off < 0 ∨ (x.pc : Int) + off ≥ (t.textLen / 4 : Nat) → s.issues core th [rs1, rs2] t x →
          Traps c s core t (excHere x th major 6 0)))
    ∧ (((x.xr rs1).2 || (x.xr rs2).2) = true → s.issues core th [rs1, rs2] t x → Traps c s core t (excHere x th major 7 0)))
  ∧ (∀ n : Nat, (x.pc : Int) + off = n → Goes (.jal core th rd off) s core th [rd] t x n (x.setX rd (BitVec.ofNat 64 (x.pc + 1)) false))
  ∧ ((x.xr rs1).2 = false → Goes (.jalr core th rd rs1 off) s core th [rd, rs1] t x (effAddr (x.xr rs1).1 off) (x.setX rd (BitVec.ofNat 64 (x.pc + 1)) false))
  ∧ ((x.xr rs1).2 = true → s.issues core th [rd, rs1] t x → Traps (.jalr core th rd rs1 off) s core t (excHere x th 0x11 7 0))
  ∧ (∀ pr (n : Nat), (x.pc : Int) + off = n →
      (x.pr pr ≠ 0 → Goes (.pbr core th pr 0 off) s core th [pReg pr] t x n x) ∧ (x.pr pr = 0 → Retires (.pbr core th pr 0 off) s core th [pReg pr] t x x)
      ∧ (x.pr pr = 0 → Goes (.pbr core th pr 1 off) s core th [pReg pr] t x n x) ∧ (x.pr pr ≠ 0 → Retires (.pbr core th pr 1 off) s core th [pReg pr] t x x)
      ∧ (x.pr pr = BitVec.allOnes 64 → Goes (.pbr core th pr 2 off) s core th [pReg pr] t x n x)
      ∧ (x.pr pr ≠ BitVec.allOnes 64 → Retires (.pbr core th pr 2 off) s core th [pReg pr] t x x))

/-- Threads end, meet, wait and trap (R431, R432, R439, R448, R454). -/
def Obligations.ThreadControl : Prop :=
  ∀ (s : State) (core th : Nat) (t : CoreTile) (x : Thread) (rs1 : Nat),
  (x.late = [] → x.accesses = [] → Retires (.fence core th) s core th [] t x x)
  ∧ (x.late = [] → x.accesses ≠ [] → s.liveThread core th = some (t, x) → Does (.fence core th) s (fun u => u = s) ∧ Does (.barf core th) s (fun u => u = s))
  ∧ (∀ e l, x.late = e :: l → s.liveThread core th = some (t, x) →
      ∀ c ∈ [Instr.fence core th, .barf core th, .texit core th], Traps c s core t e.1)
  ∧ (∀ c, c = .bar core th ∨ (c = .barf core th ∧ x.late = [] ∧ x.accesses = []) → s.issues core th [] t x → x.pc + 1 < t.textLen / 4 →
      (∃ y, y ∈ t.threads ∧ y.1 ≠ th ∧ y.2.exited = false ∧ y.2.atBar = false) → (t.threads.map Prod.fst).Nodup → Does c s (fun u =>
        u.threadOf core th = some { x with pc := x.pc + 1, atBar := true } ∧ Frame [.core, .recp, .ctrs] s u))
  ∧ (∀ c, c = .bar core th ∨ (c = .barf core th ∧ x.late = [] ∧ x.accesses = []) → s.issues core th [] t x → x.pc + 1 < t.textLen / 4 →
      (∀ y, y ∈ t.threads → y.1 ≠ th → y.2.exited = true ∨ y.2.atBar = true) → Does c s (fun u =>
        u.threadOf core th = some { x with pc := x.pc + 1, atBar := false } ∧ (∀ i y, u.threadOf core i = some y → y.atBar = false) ∧ Frame [.core, .recp, .ctrs] s u))
  ∧ (x.late = [] → s.liveThread core th = some (t, x) → (∃ y, y ∈ t.threads ∧ y.1 ≠ th ∧ y.2.exited = false) → (t.threads.map Prod.fst).Nodup →
      Does (.texit core th) s (fun u => (u.threadOf core th).map Thread.exited = some true ∧ u.mem = s.mem))
  ∧ (x.late = [] → s.liveThread core th = some (t, x) → t.threads = [(th, x)] → x.accesses = [] → Does (.texit core th) s (fun u =>
      ∃ w, u = settleWaits (fillLocals (clusterOf core) w) ∧ (w.coreRec core).run = none ∧ w.mem = s.mem
        ∧ ∃ r q, s.recipe t.recipe = some r ∧ w.recipe t.recipe = some q ∧ q.result = r.result + 1 ∧ t.tile ∈ q.done))
  ∧ (s.issues core th [rs1] t x → Traps (.trap core th rs1) s core t (excHere x th 0 10 ((x.xr rs1).1.toNat % 2 ^ 32)))
  ∧ ((x.xr rs1).2 = false → s.issues core th [rs1] t x → x.pc + 1 < t.textLen / 4 → Does (.tres core th rs1) s (fun u =>
      u.threadOf core th = some { x with pc := x.pc + 1 } ∧ Frame [.core, .recp, .ctrs] s u
        ∧ ∃ r q, s.recipe t.recipe = some r ∧ u.recipe t.recipe = some q ∧ q.result2 = (r.result2 + (x.xr rs1).1.toNat) % 2 ^ 64 ∧ q.result = r.result))
  ∧ ((x.xr rs1).2 = true → s.issues core th [rs1] t x → Traps (.tres core th rs1) s core t (excHere x th 0 7 0))

/-- VARITH computes each governed element; the others keep the destination's; a reserved format does nothing (R436, R441, R446, R447, R451). -/
def Obligations.VectorArith : Prop :=
  ∀ (s : State) (core th : Nat) (t : CoreTile) (x : Thread) (vd vs1 vs2 pred fmt : Nat) (f : Fmt), Fmt.ofReg fmt = some f →
  (∀ c op ok, (c, op, ok) ∈ [(Instr.varithAdd core th vd vs1 vs2 pred fmt, VOp.add, f.plainVec), (.varithSub core th vd vs1 vs2 pred fmt, .sub, f.plainVec),
      (.varithMul core th vd vs1 vs2 pred fmt, .mul, f.plainVec), (.varithMin core th vd vs1 vs2 pred fmt, .min, f.plainVec),
      (.varithMax core th vd vs1 vs2 pred fmt, .max, f.plainVec), (.varithAnd core th vd vs1 vs2 pred fmt, .and, f.isInt),
      (.varithOr core th vd vs1 vs2 pred fmt, .or, f.isInt), (.varithXor core th vd vs1 vs2 pred fmt, .xor, f.isInt),
      (.varithShl core th vd vs1 vs2 pred fmt, .shl, f.isInt), (.varithShr core th vd vs1 vs2 pred fmt, .shr, f.isInt),
      (.varithSar core th vd vs1 vs2 pred fmt, .sar, f.isInt), (.varithDiv core th vd vs1 vs2 pred fmt, .div, f.divides)] →
    (ok = true → Retires c s core th [vReg vd, pReg pred, vReg vs1, vReg vs2] t x (x.setV vd
      (vapply f (x.pr pred) (x.vr vd).1 (fun e => vop op f s.e4m3Nan (elem f (x.vr vs1).1 e) (elem f (x.vr vs2).1 e))).1
      ((x.vr vs1).2 || (x.vr vs2).2 || (!governsAll f (x.pr pred) && (x.vr vd).2))))
    ∧ (ok = false → Does c s (fun u => u = s)))
  ∧ (∀ c op ok, (c, op, ok) ∈ [(Instr.varithAbs core th vd vs1 pred fmt, VOp.abs, f.plainVec), (.varithNeg core th vd vs1 pred fmt, .neg, f.plainVec),
      (.varithSqrt core th vd vs1 pred fmt, .sqrt, f.divides)] →
    (ok = true → Retires c s core th [vReg vd, pReg pred, vReg vs1] t x (x.setV vd
      (vapply f (x.pr pred) (x.vr vd).1 (fun e => vop op f s.e4m3Nan (elem f (x.vr vs1).1 e) 0)).1
      ((x.vr vs1).2 || (!governsAll f (x.pr pred) && (x.vr vd).2))))
    ∧ (ok = false → Does c s (fun u => u = s)))
  ∧ (∀ c k, (c, k) ∈ [(Instr.fma core th vd vs1 vs2 pred fmt, 0), (.fms core th vd vs1 vs2 pred fmt, 1), (.fnma core th vd vs1 vs2 pred fmt, 2)] →
    (f.plainVec = true → Retires c s core th [vReg vd, pReg pred, vReg vs1, vReg vs2] t x (x.setV vd
      (vapply f (x.pr pred) (x.vr vd).1 (fun e => vfma k f s.e4m3Nan (elem f (x.vr vs1).1 e) (elem f (x.vr vs2).1 e) (elem f (x.vr vd).1 e))).1
      ((x.vr vs1).2 || (x.vr vs2).2 || (x.vr vd).2)))
    ∧ (f.plainVec = false → Does c s (fun u => u = s)))

/-- Which bit of a predicate governs an element, by the element's width, and which governs a byte that is stored; a governed element is the one
computed, another is the destination's; so too the bits above the elements (R447; R435, R446). -/
def Obligations.VectorElements : Prop :=
  (∀ (f : Fmt) (p : Word64) (e : Nat), (8 ≤ f.bits → governs f p e = p.getLsbD (e * (f.bits / 8))) ∧ (f.bits = 6 → governs f p e = p.getLsbD e)
    ∧ (f.bits = 4 → governs f p (2 * e) = p.getLsbD e ∧ governs f p (2 * e + 1) = p.getLsbD e) ∧ (8 ≤ f.bits ∨ f.bits = 6 ∨ f.bits = 4))
  ∧ (∀ (k : Core) (p : Word64) (a : Nat) (bs : List Byte), Memory.wf k.tray = true → ∀ i, i < bs.length →
      cellGet (k.trayPut a bs (fun j => p.getLsbD j) false).tray (a + i) = if p.getLsbD i then bs.getD i 0 else cellGet k.tray (a + i))
  ∧ (∀ (f : Fmt) (p : Word64) (old : Vec512) (g : Nat → Written),
      (∀ e, e < f.count → (g e).bits < 2 ^ f.bits → elem f (vapply f p old g).1 e = if governs f p e then (g e).bits else elem f old e)
      ∧ ((vapply f p old g).1.toNat / 2 ^ (f.bits * f.count) = old.toNat / 2 ^ (f.bits * f.count))
      ∧ (f.isInt = true → ∀ a b op, op ≠ .and → op ≠ .or → op ≠ .xor → op ≠ .shr → op ≠ .div → op ≠ .sqrt → (vop op f false a b).bits < 2 ^ f.bits))

/-- Compares: the bits of governed elements are set to their results, every other bit to 0; poison is consumed (R442, R452). -/
def Obligations.VectorCompare : Prop :=
  ∀ (s : State) (core th : Nat) (t : CoreTile) (x : Thread) (pd vs1 vs2 pred fmt : Nat) (f : Fmt) (c : Instr) (op : CmpOp) (ok : Bool),
  Fmt.ofReg fmt = some f →
  (c, op, ok) ∈ [(Instr.vcmpEq core th pd vs1 vs2 pred fmt, CmpOp.eq, true), (.vcmpNe core th pd vs1 vs2 pred fmt, .ne, true),
    (.vcmpLt core th pd vs1 vs2 pred fmt, .lt, true), (.vcmpLe core th pd vs1 vs2 pred fmt, .le, true), (.vcmpGt core th pd vs1 vs2 pred fmt, .gt, true),
    (.vcmpGe core th pd vs1 vs2 pred fmt, .ge, true), (.vcmpUnord core th pd vs1 vs2 pred fmt, .unord, !f.isInt),
    (.vcmpLtu core th pd vs1 vs2 pred fmt, .ltu, f.isInt), (.vcmpGeu core th pd vs1 vs2 pred fmt, .geu, f.isInt)] →
  ((f.compares && ok) = true → (x.vr vs1).2 = false → (x.vr vs2).2 = false →
    Retires c s core th [vReg vs1, vReg vs2, pReg pred, pReg pd] t x (x.setP pd (vcmpMask op f (x.pr pred) (x.vr vs1).1 (x.vr vs2).1)))
  ∧ (∀ i, i < 64 → ((vcmpMask op f (x.pr pred) (x.vr vs1).1 (x.vr vs2).1).getLsbD i = true ↔ ∃ e, e < f.count ∧ governs f (x.pr pred) e = true
      ∧ (predMask f e).testBit i = true ∧ vcmp op f (elem f (x.vr vs1).1 e) (elem f (x.vr vs2).1 e) = true))
  ∧ ((f.compares && ok) = true → ((x.vr vs1).2 || (x.vr vs2).2) = true → s.issues core th [vReg vs1, vReg vs2, pReg pred, pReg pd] t x →
      Traps c s core t (excHere x th 0x26 7 0))
  ∧ ((f.compares && ok) = false → Does c s (fun u => u = s))

/-- Conversions, moves, single elements and reductions (R438, R443, R444, R451). -/
def Obligations.VectorMoves : Prop :=
  ∀ (s : State) (core th : Nat) (t : CoreTile) (x : Thread) (vd vs1 vs2 pred fmt : Nat) (f : Fmt), Fmt.ofReg fmt = some f →
  (∀ fmtTo g part, Fmt.ofReg fmtTo = some g → g.plainVec = true → part < cvtParts f g →
    Retires (.vcvt core th vd vs1 part pred fmt fmtTo) s core th [vReg vd, pReg pred, vReg vs1] t x (x.setV vd
      (vapply g (x.pr pred) (x.vr vd).1 (fun e => match cvtSource f g part e with
        | some j => writeVal g s.e4m3Nan (decode f (elem f (x.vr vs1).1 j))
        | none => Written.of (elem g (x.vr vd).1 e))).1
      ((x.vr vs1).2 || ((decide (g.count > f.count) || !governsAll g (x.pr pred)) && (x.vr vd).2))))
  ∧ (f.plainVec = true → Retires (.vmov core th vd vs1 pred fmt) s core th [vReg vd, pReg pred, vReg vs1] t x (x.setV vd
      (vapply f (x.pr pred) (x.vr vd).1 (fun e => Written.of (elem f (x.vr vs1).1 e))).1 ((x.vr vs1).2 || (!governsAll f (x.pr pred) && (x.vr vd).2))))
  ∧ (f.plainVec = true → Retires (.vperm core th vd vs1 vs2 pred fmt) s core th [vReg vd, pReg pred, vReg vs1, vReg vs2] t x (x.setV vd
      (vapply f (x.pr pred) (x.vr vd).1 (fun e => Written.of (elem f (permBytes (x.vr vs1).1 (x.vr vs2).1) e))).1
      ((x.vr vs1).2 || (x.vr vs2).2 || (!governsAll f (x.pr pred) && (x.vr vd).2))))
  ∧ (f.plainVec = true → Retires (.vsel core th vd vs1 vs2 pred fmt) s core th [vReg vd, vReg vs1, vReg vs2, pReg pred] t x (x.setV vd
      (vmap f (x.pr pred) (x.vr vs2).1 (fun e => elem f (x.vr vs1).1 e)) ((x.vr vs1).2 || (x.vr vs2).2)))
  ∧ (∀ xs, f.plainVec = true → Retires (.vbcast core th vd xs pred fmt) s core th [vReg vd, pReg pred, xs] t x (x.setV vd
      (vapply f (x.pr pred) (x.vr vd).1 (fun _ => Written.of ((x.xr xs).1.toNat % 2 ^ f.bits))).1 ((x.xr xs).2 || (!governsAll f (x.pr pred) && (x.vr vd).2))))
  ∧ (∀ xd index, f.plainVec = true → index < f.count → Retires (.vext core th xd vs1 index fmt) s core th [xd, vReg vs1] t x (x.setX xd
      (if f.isInt then BitVec.ofInt 64 (signed f.bits (elem f (x.vr vs1).1 index)) else BitVec.ofNat 64 (elem f (x.vr vs1).1 index)) (x.vr vs1).2))
  ∧ (∀ xs index, f.plainVec = true → index < f.count → Retires (.vins core th vd xs index fmt) s core th [vReg vd, xs] t x (x.setV vd
      (putElem f (x.vr vd).1 index ((x.xr xs).1.toNat % 2 ^ f.bits)) ((x.vr vd).2 || (x.xr xs).2)))
  ∧ (∀ xd c op, f.reduces = true → (c, op) ∈ [(Instr.vredAdd core th xd vs1 pred fmt, RedOp.add), (.vredMin core th xd vs1 pred fmt, .min),
      (.vredMax core th xd vs1 pred fmt, .max), (.vredMinu core th xd vs1 pred fmt, .minu), (.vredMaxu core th xd vs1 pred fmt, .maxu),
      (.vredAnd core th xd vs1 pred fmt, .and), (.vredOr core th xd vs1 pred fmt, .or), (.vredXor core th xd vs1 pred fmt, .xor)] →
    Retires c s core th [xd, vReg vs1, pReg pred] t x (x.setX xd (vred op f (x.pr pred) (x.vr vs1).1) (x.vr vs1).2))

/-- Accumulators: addends, dot products, merges, readout, and the spill image in the tray (R405 to R411, R445, R451, R452). -/
def Obligations.Accumulators : Prop :=
  ∀ (s : State) (core th : Nat) (t : CoreTile) (x : Thread) (ad : Nat),
  (∀ vs1 xs pred fmt f, Fmt.ofReg fmt = some f → xs = 0 ∨ f.scales = true → (x.xr xs).2 = false →
    Retires (.aadd core th ad vs1 xs pred fmt) s core th [aReg ad, xs, pReg pred, vReg vs1] t x (x.setA ad
      (accumulate f (x.pr pred) (x.vr vs1).2 (fun e => scaledElem f xs (x.xr xs).1 0 (x.vr vs1).1 e) (x.ar ad)).1))
  ∧ (∀ vs1 vs2 xs pred fmt f, Fmt.ofReg fmt = some f → xs = 0 ∨ f.scales = true → (x.xr xs).2 = false →
    Retires (.adot core th ad vs1 vs2 xs pred fmt) s core th [aReg ad, xs, pReg pred, vReg vs1, vReg vs2] t x (x.setA ad
      (accumulate f (x.pr pred) ((x.vr vs1).2 || (x.vr vs2).2)
        (fun e => (scaledElem f xs (x.xr xs).1 0 (x.vr vs1).1 e).mul (scaledElem f xs (x.xr xs).1 4 (x.vr vs2).1 e)) (x.ar ad)).1))
  ∧ (∀ vs1 xs pred fmt f, Fmt.ofReg fmt = some f → f.scales = true → (x.xr xs).2 = true → s.issues core th [aReg ad, xs, pReg pred, vReg vs1] t x →
    Traps (.aadd core th ad vs1 xs pred fmt) s core t (excHere x th 0x30 7 0))
  ∧ Retires (.aclr core th ad) s core th [aReg ad] t x (x.setA ad Acc.empty)
  ∧ (∀ as_, Retires (.amov core th ad as_) s core th [aReg ad, aReg as_] t x (x.setA ad (x.ar as_)))
  ∧ (∀ as_, Retires (.amerge core th ad as_) s core th [aReg ad, aReg as_] t x (x.setA ad ((x.ar ad).merge (x.ar as_)).1))
  ∧ (∀ vr index fmt f, Fmt.ofReg fmt = some f → f.plainVec = true → index < f.count →
    Retires (.aout core th ad vr index fmt) s core th [aReg ad, vReg vr] t x (x.setV vr
      (putElem f (x.vr vr).1 index (writeVal f s.e4m3Nan (x.ar ad).value).bits) ((x.ar ad).poison || (x.vr vr).2)))
  ∧ (∀ xr, (x.xr xr).2 = false → (x.xr xr).1.toNat % 16 = 0 → (x.xr xr).1.toNat + 80 ≤ t.tray → s.issues core th [aReg ad, xr] t x → x.pc + 1 < t.textLen / 4 →
    Does (.asave core th ad xr) s (fun u => u.threadOf core th = some { x with pc := x.pc + 1 } ∧ OnlyThread core th [] s u
      ∧ (u.coreRec core).tray = ((s.coreRec core).trayPut (x.xr xr).1.toNat (x.ar ad).spill (fun _ => true) false).tray))
  ∧ (∀ xr, (x.xr xr).2 = false → (x.xr xr).1.toNat % 16 = 0 → (x.xr xr).1.toNat + 80 ≤ t.tray → (s.coreRec core).trayBad (x.xr xr).1.toNat 80 = false →
    (Acc.fill (cellsRead (s.coreRec core).tray (x.xr xr).1.toNat 80)).2 = true →
    Retires (.aload core th ad xr) s core th [aReg ad, xr] t x (x.setA ad (Acc.fill (cellsRead (s.coreRec core).tray (x.xr xr).1.toNat 80)).1))
  ∧ (∀ xr, (x.xr xr).2 = false → (x.xr xr).1.toNat % 16 = 0 → (x.xr xr).1.toNat + 80 ≤ t.tray → (s.coreRec core).trayBad (x.xr xr).1.toNat 80 = true →
    Retires (.aload core th ad xr) s core th [aReg ad, xr] t x (x.setA ad { Acc.empty with poison := true }))

/-- The exact accumulator: whatever the order of at most 2³³ addends, and however they are grouped over accumulators that are merged, its final
state is the same, flags and carry included (R409); an image saved and loaded is the accumulator, and what is added counts exactly (R405, R407,
R408, R410). -/
def Obligations.AccumulatorExact : Prop :=
  let addend (v : Option Val) : Prop := ∀ neg m e, v = some (.fin neg m e) → -288 ≤ e ∧ m * 2 ^ (e + 288).toNat ≤ 49 * 2 ^ 568
  let put (acc : Acc) (v : Option Val) : Acc := match v with
    | some x => (acc.add x).1
    | none => acc.addPoison
  (∀ l k : List (Option Val), (∀ v ∈ l, addend v) → l.length ≤ 2 ^ 33 → l.Perm k → l.foldl put Acc.empty = k.foldl put Acc.empty)
  ∧ (∀ l k : List (Option Val), (∀ v ∈ l ++ k, addend v) → (l ++ k).length ≤ 2 ^ 33 →
      ((l.foldl put Acc.empty).merge (k.foldl put Acc.empty)).1 = (l ++ k).foldl put Acc.empty)
  ∧ (∀ a : Acc, -(2 ^ 575) ≤ a.a → a.a < 2 ^ 575 → -(2 ^ 31) ≤ a.carry → a.carry < 2 ^ 31 → Acc.fill a.spill = (a, true))
  ∧ (∀ (a : Acc) (m : Nat) (e : Int) (neg : Bool), -288 ≤ e → -(2 ^ 575) ≤ a.a → a.a < 2 ^ 575 → m * 2 ^ (e + 288).toNat < 2 ^ 575 →
      (a.add (.fin neg m e)).1.a + (a.add (.fin neg m e)).1.carry * 2 ^ 576
        = a.a + a.carry * 2 ^ 576 + (if neg = true then -((m * 2 ^ (e + 288).toNat : Nat) : Int) else ((m * 2 ^ (e + 288).toNat : Nat) : Int)))
  ∧ (∀ a b : Acc, -(2 ^ 575) ≤ a.a → a.a < 2 ^ 575 → -(2 ^ 575) ≤ b.a → b.a < 2 ^ 575 →
      (a.merge b).1.a + (a.merge b).1.carry * 2 ^ 576 = a.a + b.a + (a.carry + b.carry) * 2 ^ 576 ∧ -(2 ^ 575) ≤ (a.merge b).1.a ∧ (a.merge b).1.a < 2 ^ 575)

/-- Tray instructions in the window: loads extend, stores and atomics change the bytes they name and no others, poison marks blocks (R446 to
R448, R451). -/
def Obligations.TrayAccesses : Prop :=
  ∀ (s : State) (core th : Nat) (t : CoreTile) (x : Thread) (rb a : Nat) (imm : Int), (x.xr rb).2 = false →
  (∀ rt size, effAddr (x.xr rb).1 imm = a → a % 2 ^ size = 0 → a + 2 ^ size ≤ t.tray → (s.coreRec core).trayBad a (2 ^ size) = false →
    Retires (.tld core th rt rb size imm) s core th [rt, rb] t x (x.setX rt (BitVec.ofNat 64 (leNat (cellsRead (s.coreRec core).tray a (2 ^ size)))) false)
    ∧ Retires (.tlds core th rt rb size imm) s core th [rt, rb] t x
        (x.setX rt (BitVec.ofInt 64 (signed (8 * 2 ^ size) (leNat (cellsRead (s.coreRec core).tray a (2 ^ size))))) false))
  ∧ (∀ rt size, effAddr (x.xr rb).1 imm = a → a % 2 ^ size = 0 → a + 2 ^ size ≤ t.tray → (s.coreRec core).trayBad a (2 ^ size) = true →
    ∀ c ∈ [Instr.tld core th rt rb size imm, .tlds core th rt rb size imm], Retires c s core th [rt, rb] t x (x.setX rt 0 true))
  ∧ (∀ vt, effAddr (x.xr rb).1 (64 * imm) = a → a % 64 = 0 → a + 64 ≤ t.tray → (s.coreRec core).trayBad a 64 = false →
    Retires (.vtld core th vt rb imm) s core th [vReg vt, rb] t x (x.setV vt (BitVec.ofNat 512 (leNat (cellsRead (s.coreRec core).tray a 64))) false))
  ∧ (∀ rt size, effAddr (x.xr rb).1 imm = a → a % 2 ^ size = 0 → a + 2 ^ size ≤ t.tray → s.issues core th [rt, rb] t x → x.pc + 1 < t.textLen / 4 →
    Memory.wf (s.coreRec core).tray = true → Does (.tst core th rt rb size imm) s (fun u => u.threadOf core th = some { x with pc := x.pc + 1 }
      ∧ OnlyThread core th [] s u ∧ ∀ b, cellGet (u.coreRec core).tray b = (if a ≤ b ∧ b < a + 2 ^ size
        then (if (x.xr rt).2 = true then 0 else (leBytes (2 ^ size) (x.xr rt).1.toNat).getD (b - a) 0) else cellGet (s.coreRec core).tray b)))
  ∧ (∀ vt pred, effAddr (x.xr rb).1 (64 * imm) = a → a % 64 = 0 → a + 64 ≤ t.tray → s.issues core th [vReg vt, rb, pReg pred] t x →
    x.pc + 1 < t.textLen / 4 → Memory.wf (s.coreRec core).tray = true → (x.vr vt).2 = false → Does (.vtst core th vt rb pred imm) s (fun u =>
      u.threadOf core th = some { x with pc := x.pc + 1 } ∧ OnlyThread core th [] s u ∧ ∀ b, cellGet (u.coreRec core).tray b =
        (if a ≤ b ∧ b < a + 64 ∧ (x.pr pred).getLsbD (b - a) = true then (vecBytes (x.vr vt).1).getD (b - a) 0 else cellGet (s.coreRec core).tray b)))
  ∧ (∀ rd rs2 subop old, effAddr (x.xr rb).1 0 = a → a % 8 = 0 → a + 8 ≤ t.tray → (s.coreRec core).trayBad a 8 = false → (x.xr rs2).2 = false →
    (x.xr rd).2 = false → old = leNat (cellsRead (s.coreRec core).tray a 8) → s.issues core th [rd, rb, rs2] t x → x.pc + 1 < t.textLen / 4 →
    Memory.wf (s.coreRec core).tray = true → Does (.tamo core th rd rb rs2 subop) s (fun u =>
      u.threadOf core th = some { x.setX rd (BitVec.ofNat 64 old) false with pc := x.pc + 1 } ∧ OnlyThread core th [] s u
        ∧ ∀ b, cellGet (u.coreRec core).tray b = (if a ≤ b ∧ b < a + 8
            then (leBytes 8 (atomicNew subop old (x.xr rs2).1.toNat (x.xr rd).1.toNat)).getD (b - a) 0 else cellGet (s.coreRec core).tray b)))

/-- A tray access that is misaligned, outside the window, or by a poisoned base takes its exception (R448, R452, R453). -/
def Obligations.TrayExceptions : Prop :=
  ∀ (s : State) (core th : Nat) (t : CoreTile) (x : Thread) (rt rb size pred : Nat) (imm : Int) (c : Instr) (uses : List Nat) (major n al : Nat) (off : Int),
  (c, uses, major, off, n, al) ∈ [(Instr.tld core th rt rb size imm, [rt, rb], 0x14, imm, 2 ^ size, 2 ^ size),
    (.tlds core th rt rb size imm, [rt, rb], 0x15, imm, 2 ^ size, 2 ^ size), (.tst core th rt rb size imm, [rt, rb], 0x16, imm, 2 ^ size, 2 ^ size),
    (.vtld core th rt rb imm, [vReg rt, rb], 0x17, 64 * imm, 64, 64), (.vtst core th rt rb pred imm, [vReg rt, rb, pReg pred], 0x18, 64 * imm, 64, 64),
    (.asave core th rt rb, [aReg rt, rb], 0x32, 0, 80, 16), (.aload core th rt rb, [aReg rt, rb], 0x32, 0, 80, 16)] → s.issues core th uses t x →
  ((x.xr rb).2 = true → Traps c s core t (excHere x th major 7 0))
  ∧ ((x.xr rb).2 = false → effAddr (x.xr rb).1 off % al ≠ 0 → Traps c s core t (excHere x th major 4 (effAddr (x.xr rb).1 off)))
  ∧ ((x.xr rb).2 = false → effAddr (x.xr rb).1 off % al = 0 → t.tray < effAddr (x.xr rb).1 off + n →
      Traps c s core t (excHere x th major 5 (effAddr (x.xr rb).1 off)))

/-- A pool access issues into the thread's window once it has passed the checks of R449, in their order: consumed poison, alignment, room in
the window, translation and rights. -/
def Obligations.PoolAccessIssue : Prop :=
  ∀ (s : State) (core th : Nat) (t : CoreTile) (x : Thread) (r : Recipe) (rt rb r2 size subop pred pd : Nat) (imm : Int) (c : Instr) (uses : List Nat)
    (major a al : Nat) (bad write : Bool) (need : List Nat) (kind : AccKind),
  (c, uses, major, bad, a, al, need, write, kind) ∈ [
    (Instr.pld core th rt rb size imm, [rt, rb], 0x1A, (x.xr rb).2, effAddr (x.xr rb).1 imm, 2 ^ size, [0], false, AccKind.load rt (2 ^ size) false),
    (.plds core th rt rb size imm, [rt, rb], 0x1B, (x.xr rb).2, effAddr (x.xr rb).1 imm, 2 ^ size, [0], false, .load rt (2 ^ size) true),
    (.pst core th rt rb size imm, [rt, rb], 0x1C, (x.xr rb).2, effAddr (x.xr rb).1 imm, 2 ^ size, [1], true,
      .store (leBytes (2 ^ size) (x.xr rt).1.toNat) (2 ^ 2 ^ size - 1) (x.xr rt).2 false),
    (.vpld core th rt rb imm, [vReg rt, rb], 0x1D, (x.xr rb).2, effAddr (x.xr rb).1 (64 * imm), 64, [0], false, .vload rt 1),
    (.vpst core th rt rb pred imm, [vReg rt, rb, pReg pred], 0x1E, (x.xr rb).2, effAddr (x.xr rb).1 (64 * imm), 64, [1], true,
      .store (vecBytes (x.vr rt).1) (x.pr pred).toNat (x.vr rt).2 false),
    (.pamo core th rt rb r2 subop, [rt, rb, r2], 0x1F, (x.xr rb).2 || (x.xr r2).2 || (subop == 3 && (x.xr rt).2), effAddr (x.xr rb).1 0, 8, [2], true,
      .amo subop (x.xr r2).1.toNat (x.xr rt).1.toNat rt),
    (.lswap core th rt r2 rb, [vReg rt, vReg (rt + 1), vReg r2, vReg (r2 + 1), rb], 0x20,
      (x.xr rb).2 || (x.vr rt).2 || (x.vr (rt + 1)).2 || (x.vr r2).2 || (x.vr (r2 + 1)).2, effAddr (x.xr rb).1 0, 128, [2], true,
      .line false (vecBytes (x.vr rt).1 ++ vecBytes (x.vr (rt + 1)).1) (vecBytes (x.vr r2).1 ++ vecBytes (x.vr (r2 + 1)).1) r2 0),
    (.lcas core th rt r2 rb pd, [vReg rt, vReg (rt + 1), vReg r2, vReg (r2 + 1), rb, pReg pd], 0x20,
      (x.xr rb).2 || (x.vr rt).2 || (x.vr (rt + 1)).2 || (x.vr r2).2 || (x.vr (r2 + 1)).2, effAddr (x.xr rb).1 0, 128, [2], true,
      .line true (vecBytes (x.vr rt).1 ++ vecBytes (x.vr (rt + 1)).1) (vecBytes (x.vr r2).1 ++ vecBytes (x.vr (r2 + 1)).1) r2 pd),
    (.vpld2 core th rt rb imm, [vReg rt, vReg (rt + 1), rb], 0x21, (x.xr rb).2, effAddr (x.xr rb).1 (128 * imm), 128, [0], false, .vload rt 2),
    (.vpst2 core th rt rb imm, [vReg rt, vReg (rt + 1), rb], 0x22, (x.xr rb).2, effAddr (x.xr rb).1 (128 * imm), 128, [1], true,
      .store (vecBytes (x.vr rt).1 ++ vecBytes (x.vr (rt + 1)).1) (2 ^ 128 - 1) ((x.vr rt).2 || (x.vr (rt + 1)).2) true)] →
  s.issues core th uses t x → s.recipe t.recipe = some r →
  (∀ v pa tenant key tier, bad = false → a % al = 0 → x.accesses.length < 16 → x.pc + 1 < t.textLen / 4 →
    translate (dieOfCluster (clusterOf core)) r.ctx a need write (firstIssue core t (takeTurn core th s)) = (v, .ok pa tenant key tier) →
    v.sealBars (v.readDesc r.ctx).owner tenant write = false → Does c s (fun u => u.threadOf core th = some { x with
      accesses := x.accesses ++ [{ n := x.nextAcc, addr := a, pa := pa, tenant := tenant, keyId := key, tier := tier, major := major, pc := x.pc, kind := kind }]
      nextAcc := x.nextAcc + 1, pc := x.pc + 1 } ∧ OnlyThread core th [.part] s u))
  ∧ (bad = true → Traps c s core t (excHere x th major 7 0))
  ∧ (bad = false → a % al ≠ 0 → Traps c s core t (excHere x th major 4 a))
  ∧ (bad = false → a % al = 0 → 16 ≤ x.accesses.length → Does c s (fun u => u.threadOf core th = some x ∧ OnlyThread core th [] s u))
  ∧ (∀ v e w st cause, bad = false → a % al = 0 → x.accesses.length < 16 →
    translate (dieOfCluster (clusterOf core)) r.ctx a need write (firstIssue core t (takeTurn core th s)) = (v, .fault e) →
    recordFault { slot := r.slot, source := 2, opcode := major, eid := r.src, tag := r.tag } r.ctx a e
      (settled (settleThread core th) r.ctx v) = (w, st) →
    (st, cause) ∈ [(Status.xlateFault, 1), (.rightsFault, 2), (.keyMissing, 3)] → Does c s (fun u => Trapped s u core t (excHere x th major cause a)))

/-- The data of a pool access returns, or its commit happens, once its line is ready; a failed or late access leaves its exception to the
thread (R371, R449 to R451, R454). -/
def Obligations.PoolAccessReturns : Prop :=
  ∀ (s : State) (core th n : Nat) (t : CoreTile) (x : Thread) (a : Access) (who : AccBy), s.frozen = false → (s.coreRec core).run = some t →
  aget t.threads th = some x → t.ending = .running → x.exited = false → who = AccBy.kernel core th n (((s.recipe t.recipe).map (fun r => r.slot)).getD 8192) →
  (∀ v y rt size sgn bad data, accessDue x n = some a → readyLine who (a.pa / 128) a.tier a.kind.writes a.kind.fetches s = (v, .ready) → a.kind = .load rt size sgn →
    y = allocate t.recipe a (useReturned who.src who.tag v) → y.view (a.pa / 128) a.tenant a.keyId = (bad, data) →
    Does (.poolAccessReturn core th n false) s (fun u => u.mem = y.mem
      ∧ u.threadOf core th = some { x.setX rt (if sgn = true then BitVec.ofInt 64 (signed (8 * size) (leNat ((data.drop (a.pa % 128)).take size)))
          else BitVec.ofNat 64 (leNat ((data.drop (a.pa % 128)).take size))) bad with accesses := x.accesses.filter (fun b => b.n != n) }))
  ∧ (∀ v y vt bad data, accessDue x n = some a → readyLine who (a.pa / 128) a.tier a.kind.writes a.kind.fetches s = (v, .ready) → a.kind = .vload vt 1 →
    y = allocate t.recipe a (useReturned who.src who.tag v) → y.view (a.pa / 128) a.tenant a.keyId = (bad, data) →
    Does (.poolAccessReturn core th n false) s (fun u => u.mem = y.mem
      ∧ u.threadOf core th = some { x.setV vt (vecOfBytes ((data.drop (a.pa % 128)).take 64)) bad with accesses := x.accesses.filter (fun b => b.n != n) }))
  ∧ (∀ v data mask full, accessDue x n = some a → readyLine who (a.pa / 128) a.tier a.kind.writes a.kind.fetches s = (v, .ready) → a.kind = .store data mask false full →
    v.lineFailed (a.pa / 128) = false → v.storeOf (a.pa / 128) = some (a.pa / 128) → isDeepPa (a.pa / 128 * 128) = false → v.obs.dumps = [] → v.MemWf →
    mask ≠ 0 → (full = true → a.pa % 128 = 0 ∧ data.length = 128) → a.pa % 128 + data.length ≤ 128 → Does (.poolAccessReturn core th n false) s (fun u =>
      u.threadOf core th = some { x with accesses := x.accesses.filter (fun b => b.n != n) }
        ∧ (∀ b, b / 128 ≠ a.pa / 128 → u.readByte b = v.readByte b)
        ∧ ∀ i, i < data.length → full = true ∨ bits mask i 1 = 1 → u.readByte (a.pa + i) = data.getD i 0))
  ∧ (∀ v subop p q rd old, accessDue x n = some a → readyLine who (a.pa / 128) a.tier a.kind.writes a.kind.fetches s = (v, .ready) → a.kind = .amo subop p q rd → subop ≠ 3 →
    a.pa % 8 = 0 → v.lineFailed (a.pa / 128) = false → v.mergePoisons (a.pa / 128) a.tenant = false → v.storeOf (a.pa / 128) = some (a.pa / 128) →
    isDeepPa (a.pa / 128 * 128) = false → v.obs.dumps = [] → v.MemWf → old = leNat (((v.dataOf (a.pa / 128) a.tenant a.keyId).drop (a.pa % 128)).take 8) →
    Does (.poolAccessReturn core th n false) s (fun u => u.readBytes a.pa 8 = leBytes 8 (atomicNew subop old p q)
      ∧ (∀ b, b / 128 ≠ a.pa / 128 → u.readByte b = v.readByte b)
      ∧ u.threadOf core th = some { x.setX rd (BitVec.ofNat 64 old) false with accesses := x.accesses.filter (fun b => b.n != n) }))
  ∧ (accessDue x n = some a → a.kind.writes = true → Does (.poolAccessReturn core th n true) s (fun u => u.mem = s.mem
      ∧ u.threadOf core th = some { lateExc th a 9 x with accesses := x.accesses.filter (fun b => b.n != n) }))
  ∧ (∀ v rt size sgn, accessDue x n = some a → readyLine who (a.pa / 128) a.tier a.kind.writes a.kind.fetches s = (v, .fail .poisoned) →
    a.kind = .load rt size sgn → Does (.poolAccessReturn core th n false) s (fun u => u.mem = v.mem
      ∧ u.threadOf core th = some { x.setX rt 0 true with accesses := x.accesses.filter (fun b => b.n != n) }))
  ∧ (∀ v, accessDue x n = some a → readyLine who (a.pa / 128) a.tier a.kind.writes a.kind.fetches s = (v, .wait) → Does (.poolAccessReturn core th n false) s (fun u => u = v))
  ∧ (x.accesses.find? (fun a => a.n == n) = some a → Does (.accessTimeout core th n) s (fun u => u.mem = s.mem
      ∧ u.threadOf core th = some { lateExc th a 13 x with accesses := x.accesses.filter (fun b => b.n != n) }))

/-- Kernel tiles start with the launch state, fail their entry check, and are lost to the watchdog; a core that times out is reset (R364,
R429, R430, R455, R588). -/
def Obligations.KernelTiles : Prop :=
  ∀ (s : State) (core : Nat) (t : CoreTile) (r : Recipe), s.frozen = false → (s.coreRec core).run = some t → s.recipe t.recipe = some r →
  (∀ v pa tenant key tier h pc k, t.kernel = true → t.ending = .running → t.threads = [] → s.coreAble core = true →
    translate (dieOfCluster (clusterOf core)) r.ctx r.d.w2 [4] false s = (v, .ok pa tenant key tier) → v.kernelEntry r.ctx r.d.w2 = some (h, pc) →
    aget v.core.store h = some k → Does (.kernelTileStart core) s (fun u => (u.coreRec core).resident = some h ∧ u.mem = s.mem
      ∧ ((u.coreRec core).run.map CoreTile.tray) = some k.tray ∧ ((u.coreRec core).run.map CoreTile.textLen) = some k.textLen
      ∧ (∀ i, i < bits r.d.w6 0 7 → u.threadOf core i = some (launchThread r t.tile i pc)) ∧ (∀ i, bits r.d.w6 0 7 ≤ i → u.threadOf core i = none)))
  ∧ (∀ v pa tenant key tier, t.kernel = true → t.ending = .running → t.threads = [] → s.coreAble core = true → r.failed = [] →
    translate (dieOfCluster (clusterOf core)) r.ctx r.d.w2 [4] false s = (v, .ok pa tenant key tier) → v.kernelEntry r.ctx r.d.w2 = none →
    Does (.kernelTileStart core) s (fun u => (u.coreRec core).run = none ∧ (u.recipe t.recipe).map Recipe.failed = some [(t.tile, .unsupported)]))
  ∧ (∀ th, t.kernel = false → r.lost = [] → r.d.code ≠ 13 → Does (.instructionWatchdog core th) s (fun u => (u.coreRec core).run = none ∧ u.mem = s.mem
      ∧ u.recipe t.recipe = some { r with lost := [(t.tile, 288)] }
      ∧ ∃ rest, agetD u.recp.queues (clusterOf core) [] = { recipe := t.recipe, tile := t.tile, stolen := t.stolen } :: rest))
  ∧ (∀ th x, s.liveThread core th = some (t, x) → r.lost = [] → bits r.d.w6 8 1 = 0 → t.quiet = true →
    Does (.instructionWatchdog core th) s (fun u => (u.coreRec core).run = none ∧ (u.recipe t.recipe).map Recipe.lost = some [(t.tile, 288)] ∧ u.mem = s.mem))
  ∧ (∀ th x, s.liveThread core th = some (t, x) → ahas r.lost t.tile = true → Does (.instructionWatchdog core th) s (fun u =>
      Trapped s u core t (excHere x th 0 12 0) ∧ u.mem = s.mem))
  ∧ (s.coreResetting core = false → t.kernel = false → Does (.coreTileTimeout core) s (fun u => u = beginCoreReset core none (timeoutFired 7 1 core 0 s)
      ∧ u.mem = s.mem ∧ ∃ p ∈ u.boot.partials, p.kind = 1 ∧ p.unit = core ∧ p.req = none))
  ∧ (s.coreResetting core = true → Does (.coreTileTimeout core) s (fun u => u = s))

/-- The kernel store: an image that passes every step of R458 is entered under its handle; one is removed (R457 to R461). -/
def Obligations.KernelStore : Prop :=
  ∀ (s : State) (r : Req),
  (∀ ctx addr len arg v pa tenant key tier pages w z st body, arg = leBytes 2 ctx ++ leBytes 8 addr ++ leBytes 4 len → 0 < ctx → ctx < 65536 →
    (s.readDesc ctx).bad ctx = false → addr % 128 = 0 → len < 2 ^ 32 → 0 < len → len ≤ 16736 → addr % 65536 + len ≤ 65536 → s.standby = false →
    translate 0 ctx addr [4] false (begun (cmdObj 0x1A20 1 rolePm) r arg 2 s) = (v, .ok pa tenant key tier) →
    pages = [(addr / 65536, { pa := pa / 65536 * 65536, tenant := tenant, keyId := key, tier := tier : Page })] →
    readySpans AccBy.load pages false (spanLines [rdSpan addr len]) (settled settleLoad ctx v) = (w, .ready) → poisonAt (w.reader pages) addr len = false →
    loadImage ctx addr len (bytesAt (w.reader pages) addr len) w = (z, st, body) →
    Replies (.kernelLoad r ctx addr len) s (cmdObj 0x1A20 1 rolePm) r 2 arg st body (fun t => t.core = z.core))
  ∧ (∀ ctx addr len b key hd, imageOk b len = true → (s.obj .signerPolicy = 0) → bits (leNat (b.take 256)) 48 8 = 0 → key = Config.deviceKey 6 →
    (textWords ((b.drop 256).take (bits (leNat (b.take 256)) 96 32))).all legalWord = true → s.loadHandle ctx addr = some hd → s.kernelBusy hd = false →
    (Config.ecdsaVerifies key (Config.sha384 (b.take (256 + bits (leNat (b.take 256)) 96 32))) (leNat ((b.drop (256 + bits (leNat (b.take 256)) 96 32)).take 96))
      = true → ∃ z k, loadImage ctx addr len b s = (z, .ok, leBytes 2 hd) ∧ aget z.core.store hd = some k ∧ k.ctx = ctx ∧ k.addr = addr
        ∧ k.textLen = bits (leNat (b.take 256)) 96 32 ∧ k.text = textWords ((b.drop 256).take (bits (leNat (b.take 256)) 96 32)) ∧ Frame [.core] s z)
    ∧ (Config.ecdsaVerifies key (Config.sha384 (b.take (256 + bits (leNat (b.take 256)) 96 32))) (leNat ((b.drop (256 + bits (leNat (b.take 256)) 96 32)).take 96))
      = false → loadImage ctx addr len b s = (s, .integrity, [])))
  ∧ (∀ h, h < 256 → s.standby = false → ahas s.core.store h = true → s.kernelBusy h = false →
    Replies (.kernelUnload r h) s (cmdObj 0x1A20 2 rolePm) r 2 (leBytes 2 h) .ok [] (fun t => ahas t.core.store h = false
      ∧ (∀ k, k ≠ h → aget t.core.store k = aget s.core.store k) ∧ ∀ k, (t.coreRec k).resident ≠ some h))

/-- ANNOUNCE and TW_HELLO: a higher epoch fences, two enrolling Varisks agree, a standby follows an owner (R148, R464, R468, R488). -/
def Obligations.TwinAgrees : Prop :=
  ∀ (s : State) (port : Nat) (p : Packet),
  (s.portUp port = true → isFabric port = true → s.obj .nodeEid ≠ 0 → s.obj .serviceEid ≠ 0 → s.obj .serviceEid ≠ 0x3FFFF → p.src ≠ 0 → p.src < 0x3FF00 →
    s.compact port = false → p.dest = 0x3FFFF → p.op = 0x08 → p.crcGood = true → p.malformed = false →
    (leNat (p.body.take 4) % 2 ^ 18 ≠ s.obj .serviceEid ∨ leNat ((p.body.drop 8).take 4) ≤ s.twin.epoch → Does (.announce port p) s (fun t =>
        Counts .announcesIgnored port 1 s t ∧ Frame [.ctrs] s t))
    ∧ (leNat (p.body.take 4) % 2 ^ 18 = s.obj .serviceEid → s.twin.epoch < leNat ((p.body.drop 8).take 4) → s.twin.st = .alone →
        Does (.announce port p) s (fun t => t.twin.st = .fenced ∧ t.twin.epoch = leNat ((p.body.drop 8).take 4) ∧ t.twin.lampOut = .dark
          ∧ t.txn.halves = [] ∧ t.deep.fills = [] ∧ t.twin.unacked = [] ∧ (s.twin.unacked = [] → t.mem = s.mem)))
    ∧ (∀ u l bytes m, leNat (p.body.take 4) % 2 ^ 18 = s.obj .serviceEid → s.twin.epoch < leNat ((p.body.drop 8).take 4) → s.twin.st = .active →
        s.twin.unacked = [u] → u.line = some l → u.undo = some (bytes, m) → bytes.length = 128 → s.MemWf → Does (.announce port p) s (fun t =>
          t.twin.st = .fenced ∧ t.twin.unacked = [] ∧ ∀ b, t.readByte b = (if b / 128 = l then bytes.getD (b % 128) 0 else s.readByte b)))
    ∧ (leNat (p.body.take 4) % 2 ^ 18 = s.obj .serviceEid → leNat ((p.body.drop 8).take 4) = s.twin.epoch + 1 → s.twin.st = .releasing →
        Does (.announce port p) s (fun t => t.twin.st = .adrift ∧ t.twin.epoch = s.twin.epoch + 1 ∧ t.twin.lampOut = .dark ∧ t.mem = s.mem)))
  ∧ (∀ h, isTwinPort port = true → s.portUp port = true → p.dest = s.obj .nodeEid → p.crcGood = true → p.linkMalformed port = false → p.op = 0xA0 →
    h = helloPeer p →
    h.code = Config.orderingCodeU8 → h.service = s.obj .serviceEid → h.units = s.obj .deepCacheUnits →
    (s.twin.st = .enrolling → s.twin.refused = 0 → h.state = 1 → s.obj .homePreference = 0 → h.pref = true → max s.twin.epoch h.epoch + 1 ≤ 0xFFFFFFFF →
      Does (.twHello port p) s (fun t => t.mem = s.mem ∧ (Config.peerChainGood h.node = true → t.twin.st = .syncing ∧ t.twin.peerEid = h.node
          ∧ t.twin.epoch = max s.twin.epoch h.epoch + 1 ∧ t.dir.entries = [] ∧ t.recp.recipes = [])
        ∧ (Config.peerChainGood h.node = false → t.twin.st = .enrolling ∧ t.twin.refused = 4)))
    ∧ (s.twin.st = .enrolling → s.twin.refused = 0 → h.state = 1 → s.obj .homePreference = 1 → h.pref = false → max s.twin.epoch h.epoch + 1 ≤ 0xFFFFFFFF →
      Does (.twHello port p) s (fun t => t.mem = s.mem ∧ (Config.peerChainGood h.node = true → t.twin.st = .feeding ∧ t.twin.peerEid = h.node
          ∧ t.twin.epoch = max s.twin.epoch h.epoch + 1 ∧ t.twin.lampOut = .hold ∧ t.twin.resync.isSome = true)))
    ∧ (s.twin.st = .standby → s.twin.peerEid = h.node → h.state = 6 → Does (.twHello port p) s (fun t => t.mem = s.mem
        ∧ (Config.peerChainGood h.node = true → t.twin.st = .adrift ∧ t.twin.releaseCode = none)
        ∧ (Config.peerChainGood h.node = false → t.twin.st = .standby))))
  ∧ (∀ h, isTwinPort port = true → s.portUp port = true → p.dest = s.obj .nodeEid → p.crcGood = true → p.linkMalformed port = false → p.op = 0xA0 →
    h = helloPeer p →
    h.code ≠ Config.orderingCodeU8 → s.twin.st = .enrolling → s.twin.refused = 0 → Does (.twHello port p) s (fun t => t.twin.st = .enrolling
      ∧ t.twin.refused = 1 ∧ t.mem = s.mem))

/-- Packets of the agreed peer: keepalives, releases, acknowledgements, the mirror, repairs, handback requests (R467, R470 to R473, R477, R482,
R491, R495). -/
def Obligations.TwinPackets : Prop :=
  ∀ (s : State) (port : Nat) (p : Packet), s.hears port p = true →
  (∀ a, p.op = 0xA1 → a = leNat (p.body.take 16) → bits a 40 18 = s.twin.peerEid → bits a 0 32 ≤ s.twin.epoch → bits a 32 8 ≠ 6 → Does (.twKeepalive port p) s (fun t =>
      t.twin.kaAt = s.now ∧ t.twin.kaLost1ms = false ∧ t.twin.kaLost15 = false ∧ t.twin.st = s.twin.st
        ∧ t.twin.peer.map Peer.state = s.twin.peer.map (fun _ => bits a 32 8) ∧ Frame [.twin] s t))
  ∧ (∀ a, p.op = 0xA2 → a = leNat (p.body.take 16) → bits a 0 32 = s.twin.epoch + 1 → bits a 32 8 = 1 → s.twin.st = .standby → s.twin.kaLost1ms = false →
      Does (.twRelease port p) s (fun t => t.twin.releaseCode = some s.now ∧ Frame [.twin] s t))
  ∧ (p.op = 0xA2 → s.twin.st ≠ .standby → Does (.twRelease port p) s (fun t => Counts .twEventsIgnored 0 1 s t ∧ Frame [.ctrs] s t))
  ∧ (∀ a, p.op = 0xA3 → a = leNat (p.body.take 16) → s.mirrors = true → s.twin.resync = none → (s.txn.reqs.all fun q => q.phase != .mirror) = true →
      s.part.heldChanges = [] → s.part.ownWrites = [] →
      mseqLe s.twin.acked0 (bits a 0 32) = true → mseqLe (bits a 0 32) s.twin.mseq0 = true → mseqLe s.twin.acked1 (bits a 32 32) = true →
      mseqLe (bits a 32 32) s.twin.mseq1 = true → Does (.mrAck port p) s (fun t => ∃ w, t = settleWaits w ∧ w.twin.acked0 = bits a 0 32
        ∧ w.twin.acked1 = bits a 32 32 ∧ w.twin.unacked = s.twin.unacked.filter (fun u => !mseqLe u.mseq (if u.stream = 0 then bits a 0 32 else bits a 32 32))))
  ∧ (∀ l, p.op = 0xA4 → l = bits (leNat (p.body.take 16)) 0 45 → s.twin.st = .standby → s.twin.held = [] → (mirrorKey p).1 = 0 →
      (mirrorKey p).2 = (s.twin.applied0 + 1) % 2 ^ 32 → s.twin.applied0 < 2 ^ 32 → l * 128 < ledgerBase → (s.channel (placeOf (l * 128)).channel).st ≠ .failed →
      s.MemWf → Does (.mrLine port p) s (fun t => t.twin.applied0 = (mirrorKey p).2 ∧ ∀ b, t.readByte b =
        (if b / 128 = l then (padTo 128 (p.body.drop 16)).getD (b % 128) 0 else s.readByte b)))
  ∧ (∀ l, p.op = 0xA6 → l = bits (leNat (p.body.take 16)) 0 45 → bits (leNat (p.body.take 16)) 46 2 = 1 → s.twin.st = .standby → s.twin.held = [] →
      (mirrorKey p).1 = 0 → (mirrorKey p).2 = (s.twin.applied0 + 1) % 2 ^ 32 → s.twin.applied0 < 2 ^ 32 → l * 128 < ledgerBase →
      (s.channel (placeOf (l * 128)).channel).st ≠ .failed → s.MemWf → Does (.rsLines port p) s (fun t => t.twin.applied0 = (mirrorKey p).2 ∧ ∀ b, t.readByte b =
        (if b / 128 = l then (padTo 128 ((p.body.drop 32).take 128)).getD (b % 128) 0 else s.readByte b)))
  ∧ (∀ b, p.op = 0xA5 → b = p.body.drop 16 → bits (leNat (p.body.take 16)) 40 8 = 1 → leNat (b.take 1) = 4 → leNat ((b.drop 1).take 1) = 1 → s.twin.st = .standby →
      s.twin.held = [] → (mirrorKey p).1 = 0 → (mirrorKey p).2 = (s.twin.applied0 + 1) % 2 ^ 32 → s.twin.applied0 < 2 ^ 32 → Does (.mrState port p) s (fun t =>
        t.twin.applied0 = (mirrorKey p).2 ∧ t.part.gens = aset s.part.gens (leNat (((b.take 16).drop 2).take 2)) (leNat (((b.take 16).drop 4).take 4)) ∧ t.mem = s.mem))
  ∧ (∀ c op n, (c, op) ∈ [(Instr.mrLine port p, 0xA4), (.mrState port p, 0xA5), (.rsLines port p, 0xA6)] → p.op = op → s.twin.st = .standby → s.twin.held = [] →
      s.twin.repairWaits = [] → mirrorKey p = (0, n) → n ≠ (s.twin.applied0 + 1) % 2 ^ 32 → mseqLe n s.twin.applied0 = false → Does c s (fun t =>
        t.twin.held = [(0, n, p)] ∧ t.twin.applied0 = s.twin.applied0 ∧ t.mem = s.mem))
  ∧ (∀ a l, p.op = 0xA7 → a = leNat (p.body.take 16) → l = bits a 0 45 → s.owner = true → s.twin.repairWaits = [] →
      ((s.channel (channelOfPa (l * 128))).st = .failed ∨ (s.lineMeta l).inPantry = true → Does (.rpReq port p) s (fun t => Counts .twRepairsServed 0 1 s t
        ∧ t.twin.repairWaits = [] ∧ Frame [.twin, .leaves, .ctrs] s t ∧ ∃ q, t.carries q ∧ q.op = 0xA8 ∧ q.tag = p.tag
        ∧ q.status = (if (s.channel (channelOfPa (l * 128))).st = .failed then Status.integrity.code else 0)))
      ∧ ((s.channel (channelOfPa (l * 128))).st ≠ .failed → (s.lineMeta l).inPantry = false → (s.channel (channelOfPa (l * 128))).reqs = [] →
        Does (.rpReq port p) s (fun t => t.twin.repairWaits = [(bits a 77 1, bits a 45 32, l, p.tag, port)] ∧ t.mem = s.mem
          ∧ ∃ r ∈ (t.channel (channelOfPa (l * 128))).reqs, r.line = l ∧ r.write = false ∧ r.cause = .peerRepair p.tag port)))
  ∧ (∀ q, p.op = 0xA8 → s.poolReq p.src p.tag = some q → q.issuer = .repair → p.status = 0 → bits (leNat (p.body.take 16)) 0 45 = q.key → s.MemWf →
      Does (.rpData port p) s (fun t => ∃ w, t = settleWaits (endRepair q.key true w) ∧ w.poolReq p.src p.tag = none ∧ ∀ b, w.readByte b =
        (if b / 128 = q.key then (padTo 128 (p.body.drop 16)).getD (b % 128) 0 else s.readByte b)))
  ∧ (p.op = 0xA9 → s.twin.st = .active → Does (.hbReq port p) s (fun t => t.twin.handback = true ∧ t.twin.st = .active ∧ Frame [.twin] s t))

/-- The lamps and the timers of the twin link act (R464, R467, R470, R478 to R483, R490, R494, R495). -/
def Obligations.TwinTimers : Prop :=
  ∀ (s : State), s.runs = true →
  (∀ n frame, n ≤ 1 → frame < 2 ^ 64 → bits frame 0 8 = 0xB4 → bits frame 56 8 = crc8 (leBytes 7 (bits frame 0 56)) →
      (bits frame 8 2 = 1 → s.twin.epoch ≤ bits frame 16 32 → Does (.lampFrame n frame) s (fun t => t.lamp n = { state := 1, why := 0 } ∧ Frame [.twin] s t))
      ∧ (bits frame 8 2 = 2 → bits frame 16 32 = s.twin.epoch + 1 → s.twin.st = .standby → s.twin.kaLost1ms = false → Does (.lampFrame n frame) s (fun t =>
          (t.lamp n).state = 2 ∧ t.twin.releaseCode = some s.now ∧ Frame [.twin] s t)))
  ∧ (∀ n frame, n ≤ 1 → bits frame 0 8 ≠ 0xB4 → (s.lamp n).state ≠ 1 → Does (.lampFrame n frame) s (fun t => t.lamp n = { state := 0, why := 2 }
      ∧ Counts .twBadLampFrames 0 1 s t ∧ Frame [.twin, .ctrs] s t))
  ∧ (∀ n, n ≤ 1 → (s.lamp n).state = 1 → Does (.lampInputDark n) s (fun t => t.lamp n = { state := 0, why := 1 } ∧ Frame [.twin] s t))
  ∧ (∀ n, n ≤ 1 → s.twin.st = .standby → (s.lamp n).state ≠ 1 → (s.lamp (1 - n)).state = 1 → Does (.lampFault n) s (fun t =>
      t.kodp.nextSeq = s.kodp.nextSeq + 1 ∧ t.twin = s.twin ∧ t.mem = s.mem))
  ∧ (∀ n, s.twin.st = .alone → Does (.lampFault n) s (fun t => t = s))
  ∧ (s.twin.st = .solo → Does .keepaliveSend s (fun t => t = s))
  ∧ (s.twin.st = .active → s.twin.peerEid ≠ 0 → s.twPorts ≠ [] → Does .keepaliveSend s (fun t => Frame [.leaves] s t
      ∧ ∃ p, t.carries p ∧ p.op = 0xA1 ∧ p.dest = s.twin.peerEid ∧ p.src = s.obj .nodeEid))
  ∧ (s.twin.st = .syncing → Does .standbyKeepaliveLoss s (fun t => t.twin.st = .enrolling ∧ t.twin.kaLost1ms = true ∧ t.twin.held = [] ∧ Frame [.twin] s t))
  ∧ (s.twin.st = .standby → s.twin.releaseCode = none → Does .standbyKeepaliveLoss s (fun t => t.twin.st = .adrift ∧ t.twin.kaLost1ms = true ∧ t.mem = s.mem))
  ∧ (s.twin.st = .standby → s.twin.releaseCode.isSome = true → Does .standbyKeepaliveLoss s (fun t => t.twin.st = .standby ∧ t.twin.kaLost1ms = true
      ∧ Frame [.twin] s t))
  ∧ (s.twin.st = .active → Does .ownerKeepaliveLoss s (fun t => ∃ w, t = settleWaits w ∧ w.twin.st = .alone ∧ w.twin.diverging = true
      ∧ (s.part.heldChanges = [] → s.part.ownWrites = [] → w.mem = s.mem)))
  ∧ (s.twin.st = .standby → s.twPorts ≠ [] → Does .mrAckReportTimer s (fun t => Frame [.leaves] s t
      ∧ t.carries (mkPacket 0 0xA3 s.twin.peerEid (s.obj .nodeEid) 0 0 0 false (leBytes 16 (s.twin.applied0 + s.twin.applied1 * 2 ^ 32)))))
  ∧ (s.twin.st = .alone → ∀ port, port < 32 → portPresent port = true → (s.port port).st = .active → Does .announceTimer s (fun t => Frame [.leaves] s t
      ∧ ∃ p, t.carries p ∧ p.op = 0x08 ∧ p.dest = 0x3FFFF ∧ leNat ((p.body.drop 8).take 4) = s.twin.epoch % 2 ^ 32))
  ∧ (s.twin.st = .enrolling → s.twin.refused ≠ 0 → Does .enrolRetry s (fun t => t.twin.refused = 0 ∧ Frame [.twin, .leaves, .free] s t))
  ∧ (s.twin.st = .standby → s.twin.held = [] → s.obj .homePreference = 1 → s.twPorts ≠ [] → Does .hbReqTimer s (fun t => Frame [.leaves] s t
      ∧ t.carries (mkPacket 0 0xA9 s.twin.peerEid (s.obj .nodeEid) 0 0 0 false [])))
  ∧ (∀ r x rest, s.twin.st = .feeding → s.twin.resync = some r → r.end0 = none → r.dump = x :: rest → x.1 = 0 → Does (.resyncSend 0) s (fun t =>
      t.twin.resync = some { r with dump := rest } ∧ t.twin.unacked.length = s.twin.unacked.length + 1 ∧ t.twin.mseq0 = (s.twin.mseq0 + 1) % 2 ^ 32 ∧ t.mem = s.mem))
  ∧ (∀ r l w, s.twin.st = .feeding → s.twin.resync = some r → r.end0 = none → r.dump = [] → sweepNext 0 r.sweep0 = some l →
      (readSweep 0 l (min 3 (512 - l % 512)) s = (w, true) → Does (.resyncSend 0) s (fun t =>
        t.twin.resync = some { r with sweep0 := { r.sweep0 with next := l + min 3 (512 - l % 512) }, doneLines := r.doneLines + min 3 (512 - l % 512) }
          ∧ Counts .twRsLines 0 1 w t ∧ t.mem = w.mem))
      ∧ (readSweep 0 l (min 3 (512 - l % 512)) s = (w, false) → Does (.resyncSend 0) s (fun t => t = w)))
  ∧ (∀ r, s.twin.st = .feeding → s.twin.resync = some r → r.end0 = none → r.dump = [] → sweepNext 0 r.sweep0 = none → Does (.resyncSend 0) s (fun t =>
      t.twin.resync = some { r with end0 := some ((s.twin.mseq0 + 1) % 2 ^ 32) } ∧ t.mem = s.mem))

/-- Takeover and handback, and the twin's commands (R464, R482 to R487, R494 to R496, R499, R500). -/
def Obligations.TwinTakeover : Prop :=
  ∀ (s : State),
  (s.runs = true → s.twin.st = .standby → s.mayTake = true → s.twin.held = [] → s.recp.recipes = [] → s.dir.entries = [] → s.part.slots = [] → s.obs.dumps = [] →
    s.twin.epoch + 1 ≤ 0xFFFFFFFE → Does .takeoverStart s (fun t => t.twin.st = .alone ∧ t.twin.epoch = s.twin.epoch + 1 ∧ t.twin.lampOut = .hold
      ∧ t.twin.force = none ∧ t.twin.releaseCode = none ∧ t.twin.diverging = true ∧ t.traffic.holds = []
      ∧ t.twin.basis = (if s.twin.releaseCode.isSome = true then 1 else 2)))
  ∧ (s.mayTake = false → Does .takeoverStart s (fun t => t = s))
  ∧ (s.runs = true → s.twin.basis ≠ 0 → s.owner = true → (∀ n, n < 4 → (s.sled n).present = true → (s.sled n).claimed = true) → Does .takeoverClaimDeadline s (fun t =>
      t = takeoverDone s))
  ∧ (∀ n, n < 4 → s.runs = true → s.twin.basis ≠ 0 → s.owner = true → (s.sled n).present = true → (s.sled n).claimed = false → Does .takeoverClaimDeadline s (fun t =>
      (t.sled n).reachable = false ∧ t.mem = s.mem))
  ∧ (s.frozen = false → Does .forceArmExpiry s (fun t => t = { s with twin := { s.twin with force := none } }))
  ∧ (s.runs = true → s.twin.releaseCode.isSome = true → s.twin.st = .standby → s.twin.kaLost1ms = true → Does .releaseCodeExpiry s (fun t => t.twin.st = .adrift
      ∧ t.twin.releaseCode = none ∧ t.mem = s.mem))
  ∧ (s.runs = true → s.twin.releaseCode.isSome = true → s.twin.kaLost1ms = false → Does .releaseCodeExpiry s (fun t => t.twin.st = s.twin.st
      ∧ t.twin.releaseCode = none ∧ (t.lamp 0).state ≠ 2 ∧ (t.lamp 1).state ≠ 2 ∧ Frame [.twin] s t))
  ∧ (s.runs = true → s.twin.quiescing = true → s.recp.recipes = [] → s.twin.st = .active → s.twin.handback = true → Does .quiesceBarrier s (fun t => ∃ w,
      t = settleWaits w ∧ w.twin.st = .releasing ∧ w.twin.paused = true ∧ w.twin.quiescing = false ∧ w.mem = s.mem))
  ∧ (s.runs = true → s.twin.quiescing = true → s.recp.recipes = [] → s.twin.handback = false → Does .quiesceBarrier s (fun t =>
      t = { s with twin := { s.twin with quiescing := false } }))
  ∧ (s.frozen = false → Does .quiesceWaitExpiry s (fun t => t = { s with twin := { s.twin with quiescing := false } }))
  ∧ (s.runs = true → s.twin.st = .releasing → s.twin.released = false → Does .handbackDrainTimeout s (fun t => t.twin.st = .active ∧ t.twin.paused = false
      ∧ t.twin.handback = false ∧ t.mem = s.mem))
  ∧ (s.runs = true → s.twin.lampOut = .release → Does .releaseLampEnd s (fun t => t = { s with twin := { s.twin with lampOut := .dark } }))
  ∧ (s.runs = true → s.twin.st = .releasing → s.twin.released = true → Does .releasingTimeout s (fun t => t.twin.st = .adrift ∧ t.twin.lampOut = .dark
      ∧ t.twin.released = false ∧ t.mem = s.mem))

/-- The commands of the twin: TWIN_ENABLE, TWIN_FORCE and its cancel, TWIN_HANDOVER, TWIN_QUIESCE (R464, R484, R495, R499, R500). -/
def Obligations.TwinCommands : Prop :=
  ∀ (s : State) (r : Req),
  (s.twin.st = .solo → s.twin.epoch < 0xFFFFFFFF → Replies (.twinEnableWrite r 1) s { index := 0x1B00, sub := 1, type := 2, roles := roleOp, any := false } r 1 (leBytes 1 1) .ok []
      (fun t => t.twin.st = .alone ∧ t.twin.epoch = s.twin.epoch + 1 ∧ t.twin.enable = true ∧ t.twin.lampOut = .hold ∧ t.mem = s.mem))
  ∧ (s.twin.st = .alone → Replies (.twinEnableWrite r 0) s { index := 0x1B00, sub := 1, type := 2, roles := roleOp, any := false } r 1 (leBytes 1 0) .ok []
      (fun t => t.twin.st = .solo ∧ t.twin.enable = false ∧ t.twin.lampOut = .dark ∧ t.mem = s.mem))
  ∧ (s.twin.st = .active → Replies (.twinEnableWrite r 0) s { index := 0x1B00, sub := 1, type := 2, roles := roleOp, any := false } r 1 (leBytes 1 0) .refusedState []
      (fun t => t.twin.st = .active))
  ∧ (s.twin.st = .standby → Replies (.twinForce r (s.twin.epoch + 1)) s (cmdObj 0x1B30 1 (roleOp + rolePm)) r 4 (leBytes 4 (s.twin.epoch + 1)) .ok []
      (fun t => t.twin.force = some (s.twin.epoch + 1) ∧ t.twin.st = .standby))
  ∧ (s.twin.st = .syncing → Replies (.twinForce r (s.twin.epoch + 1)) s (cmdObj 0x1B30 1 (roleOp + rolePm)) r 4 (leBytes 4 (s.twin.epoch + 1)) .refusedState []
      (fun t => t.twin.force = s.twin.force ∧ Counts .twEventsIgnored 0 1 s t))
  ∧ (s.twin.force.isSome = true → Replies (.twinForceCancel r) s (cmdObj 0x1B30 2 (roleOp + rolePm)) r 0 [] .ok [] (fun t => t.twin.force = none))
  ∧ (s.twin.st = .active → Replies (.twinHandover r) s (cmdObj 0x1B30 3 (roleOp + rolePm)) r 0 [] .ok [] (fun t => t.twin.handoverAsk = true
      ∧ t.twin.st = .active))
  ∧ (s.standby = false → Replies (.twinQuiesce r) s (cmdObj 0x1B30 4 rolePm) r 0 [] .ok [] (fun t => t.twin.quiescing = true ∧ t.twin.st = s.twin.st))

/-- SPDM: the connection comes by its steps, sessions begin, are finished, kept and ended; a step out of order is UnexpectedRequest (R553 to
R557; the codes and the fields a response leaves as are the model's, log 32). -/
def Obligations.SpdmSessions : Prop :=
  ∀ (s : State) (r : Req),
  Replies (.getVersion r) s spdmObj r 0 (leBytes 2 0x84 ++ leBytes 8 r.id) .ok [] (fun t => .spdm r.client 0x04 [0x1300] ∈ t.out ∧ t.spdmAt r = 1
    ∧ t.mem = s.mem)
  ∧ (∀ c code need (flags offered slot offset length nonce index exchange : Nat), (c, code, need) ∈ [(Instr.getCapabilities r flags, 0xE1, 1),
      (.negotiateAlgorithms r offered, 0xE3, 2), (.getDigests r, 0x81, 3), (.getCertificate r slot offset length, 0x82, 3), (.challenge r slot nonce, 0x83, 3),
      (.getMeasurements r index nonce, 0xE0, 3), (.keyExchange r exchange nonce, 0xE4, 3)] → s.spdmAt r < need →
      Replies c s spdmObj r 0 (leBytes 2 code ++ leBytes 8 r.id) .ok [] (fun t => .spdm r.client 0x7F [4] ∈ t.out ∧ t.sec.rest = s.sec.rest))
  ∧ (∀ flags, 1 ≤ s.spdmAt r → Replies (.getCapabilities r flags) s spdmObj r 0 (leBytes 2 0xE1 ++ leBytes 8 r.id) .ok [] (fun t =>
      .spdm r.client 0x61 [spdmCaps, flags] ∈ t.out ∧ t.spdmAt r = 2))
  ∧ (∀ offered, 2 ≤ s.spdmAt r → offered ≠ 0 → Replies (.negotiateAlgorithms r offered) s spdmObj r 0 (leBytes 2 0xE3 ++ leBytes 8 r.id) .ok [] (fun t =>
      .spdm r.client 0x63 [1] ∈ t.out ∧ t.spdmAt r = 3))
  ∧ (3 ≤ s.spdmAt r → Replies (.getDigests r) s spdmObj r 0 (leBytes 2 0x81 ++ leBytes 8 r.id) .ok [] (fun t =>
      .spdm r.client 0x01 [Config.sha384 (leBytes 144 s.certChain)] ∈ t.out ∧ t.sec.rest = s.sec.rest))
  ∧ (∀ offset length, 3 ≤ s.spdmAt r → Replies (.getCertificate r 0 offset length) s spdmObj r 0 (leBytes 2 0x82 ++ leBytes 8 r.id) .ok [] (fun t =>
      .spdm r.client 0x02 [offset, length, s.certChain] ∈ t.out ∧ t.sec.rest = s.sec.rest))
  ∧ (∀ nonce, 3 ≤ s.spdmAt r → Replies (.challenge r 0 nonce) s spdmObj r 0 (leBytes 2 0x83 ++ leBytes 8 r.id) .ok [] (fun t =>
      .spdm r.client 0x03 [Config.ecdsaSign s.sec.aliasKey nonce] ∈ t.out ∧ t.sec.rest = s.sec.rest))
  ∧ (∀ index nonce blocks, 3 ≤ s.spdmAt r → (index = 0 ∧ blocks = [7]) ∨ (1 ≤ index ∧ index ≤ 7 ∧ blocks = [s.measurement index])
        ∨ (index = 0xFF ∧ blocks = [1, 2, 3, 4, 5, 6, 7].map s.measurement) →
      Replies (.getMeasurements r index nonce) s spdmObj r 0 (leBytes 2 0xE0 ++ leBytes 8 r.id) .ok [] (fun t => t.sec.rest = s.sec.rest
        ∧ .spdm r.client 0x60 (blocks ++ [Config.ecdsaSign s.sec.aliasKey (Config.sha384 ((blocks ++ [nonce]).flatMap (leBytes 48)))]) ∈ t.out))
  ∧ (∀ exchange nonce, 3 ≤ s.spdmAt r → s.sec.sessions.length < 32 → Replies (.keyExchange r exchange nonce) s spdmObj r 0 (leBytes 2 0xE4 ++ leBytes 8 r.id) .ok []
      (fun t => .spdm r.client 0x64 [s.sec.nextSession, 1] ∈ t.out ∧ t.sec.nextSession = s.sec.nextSession + 1
        ∧ ∃ n, aget t.sec.sessions s.sec.nextSession = some n ∧ n.established = false ∧ n.roles = 0 ∧ n.client = { r.client with session := none }))
  ∧ (∀ exchange nonce, 3 ≤ s.spdmAt r → 32 ≤ s.sec.sessions.length → Replies (.keyExchange r exchange nonce) s spdmObj r 0 (leBytes 2 0xE4 ++ leBytes 8 r.id) .ok []
      (fun t => .spdm r.client 0x7F [3] ∈ t.out ∧ t.sec.nextSession = s.sec.nextSession))
  ∧ (∀ session sig n, aget s.sec.sessions session = some n → n.established = false → n.client = { r.client with session := none } →
      Replies (.finish r session sig none) s spdmObj r 0 (leBytes 2 0xE5 ++ leBytes 8 r.id) .ok [] (fun t => .spdm r.client 0x65 [session] ∈ t.out
        ∧ aget t.sec.sessions session = some { n with established := true }))
  ∧ (∀ session sig n k, aget s.sec.sessions session = some n → n.established = false → n.client = { r.client with session := none } → s.keyIn .operatorKeys k = true →
      Replies (.finish r session sig (some k)) s spdmObj r 0 (leBytes 2 0xE5 ++ leBytes 8 r.id) .ok [] (fun t =>
        (Config.ecdsaVerifies k n.key sig = true → .spdm r.client 0x65 [session] ∈ t.out
          ∧ aget t.sec.sessions session = some { n with established := true, roles := roleOp, authKey := some k, tenant := none, peer := false })
        ∧ (Config.ecdsaVerifies k n.key sig = false → .spdm r.client 0x7F [1] ∈ t.out ∧ aget t.sec.sessions session = none)))
  ∧ (∀ session n, aget s.sec.sessions session = some n → n.established = true → n.client = { r.client with session := none } →
      Replies (.spdmHeartbeat r session) s spdmObj r 0 (leBytes 2 0xE8 ++ leBytes 8 r.id) .ok [] (fun t => .spdm r.client 0x68 [] ∈ t.out
          ∧ (aget t.sec.sessions session).map Session.missed = some 0)
      ∧ Replies (.keyUpdate r session) s spdmObj r 0 (leBytes 2 0xE9 ++ leBytes 8 r.id) .ok [] (fun t => .spdm r.client 0x69 [] ∈ t.out
          ∧ (aget t.sec.sessions session).map Session.key = some (Config.hkdf n.key n.updates)
          ∧ (aget t.sec.sessions session).map Session.updates = some (n.updates + 1))
      ∧ Replies (.endSession r session) s spdmObj r 0 (leBytes 2 0xEC ++ leBytes 8 r.id) .ok [] (fun t => .spdm r.client 0x6C [] ∈ t.out
          ∧ aget t.sec.sessions session = none ∧ t.sec.tenants = s.sec.tenants ∧ t.sec.jobs = s.sec.jobs))
  ∧ (∀ session, Does (.spdmHeartbeatTimeout session) s (fun t => aget t.sec.sessions session = none ∧ (t.kodp.subs.all fun b => b.client.session != some session) = true
      ∧ t.sec.tenants = s.sec.tenants ∧ Frame [.sessions, .kodp] s t))

/-- Tenants and their keys: created, sealed, retired; keys set, bound, switched and destroyed (R549 to R551, R558, R560, R564, R568). -/
def Obligations.TenantKeys : Prop :=
  ∀ (s : State) (r : Req),
  (∀ tenant key, 1 ≤ tenant → tenant ≤ 1023 → s.keyTaken key = false → s.standby = false → ahas s.sec.tenants tenant = false →
    Replies (.tenantCreate r tenant key) s (cmdObj 0x1E20 1 roleOp) r 2 (leBytes 2 tenant ++ leBytes 96 key) (if Config.p384Valid key = true then .ok else .unsupported) []
      (fun t => (Config.p384Valid key = true → aget t.sec.tenants tenant = some { authKey := key, sealed := false, memKeys := [], signKeys := [] })
        ∧ (Config.p384Valid key = false → t.sec.rest = s.sec.rest)))
  ∧ (∀ tenant, 1 ≤ tenant → tenant ≤ 1023 → s.standby = false → ahas s.sec.tenants tenant = true → s.twin.st = .solo →
    Replies (.tenantRetire r tenant) s (cmdObj 0x1E20 2 roleOp) r 2 (leBytes 2 tenant) .ok [] (fun t => ahas t.sec.tenants tenant = false
      ∧ (t.sec.jobs.all fun j => j.2.tenant != tenant) = true ∧ (t.sec.sessions.all fun e => e.2.tenant != some tenant) = true ∧ t.mem.cells = s.mem.cells))
  ∧ (s.keyFenced r = false → Replies (.tenantSeal r) s (cmdObj 0x1E30 7 roleTenant) r 0 [] .ok [] (fun t =>
      (∀ x, aget t.sec.tenants (s.keyTenant r 0) = some x → x.sealed = true) ∧ t.sec.tenants.length = s.sec.tenants.length))
  ∧ (∀ p t lead, t = s.keyTenant r p → lead = (if s.isPeer r.client = true then leBytes 2 t else []) → s.keyFenced r = false →
    (∀ keyId key, t ≠ 0 → 1 ≤ keyId → keyId ≤ 255 → ahas (((aget s.sec.tenants t).map Tenant.memKeys).getD []) keyId = false →
      (((aget s.sec.tenants t).map Tenant.memKeys).getD []).length < 255 → (s.sec.tenants.map (fun e => e.2.memKeys.length)).sum < 4096 →
      Replies (.memKeySet r p keyId key) s (cmdObj 0x1E30 1 roleTenant) r (lead.length + 1) (lead ++ (leBytes 1 keyId ++ leBytes 64 key)) .ok [] (fun u =>
        (aget u.sec.tenants t).bind (fun x => aget x.memKeys keyId) = some key))
    ∧ (∀ key, t = 0 → s.isPeer r.client = true → Replies (.memKeySet r p 0 key) s (cmdObj 0x1E30 1 roleTenant) r (lead.length + 1)
        (lead ++ (leBytes 1 0 ++ leBytes 64 key)) .ok [] (fun u => u.sec.key0 = some key ∧ u.sec.tenants = s.sec.tenants))
    ∧ (∀ keyId, 1 ≤ keyId → keyId ≤ 255 → ahas (((aget s.sec.tenants t).map Tenant.memKeys).getD []) keyId = true →
        Replies (.memKeyDestroy r p keyId) s (cmdObj 0x1E30 2 roleTenant) r (lead.length + 1) (lead ++ leBytes 1 keyId) .ok [] (fun u =>
          (aget u.sec.tenants t).bind (fun x => aget x.memKeys keyId) = none ∧ u.mem.cells = s.mem.cells
            ∧ ∀ e ∈ u.mem.lines, e.2.tenant = t → e.2.keyId = keyId → e.2.inPantry = false))
    ∧ (∀ job gen key switchAt, aget s.sec.jobs job = none → gen ≤ 255 → (s.sec.jobs.filter (fun e => e.2.tenant == t)).length < 64 → s.sec.jobs.length < 256 →
        Replies (.jobKeySet r p job gen key switchAt) s (cmdObj 0x1E30 3 roleTenant) r (lead.length + 4)
          (lead ++ (leBytes 4 job ++ leBytes 1 gen ++ leBytes 32 key ++ leBytes 8 switchAt)) .ok [] (fun u => aget u.sec.jobs job
            = some { tenant := t, gens := [(gen, key)], current := gen, switchAt := 0, older := none, former := [], eids := [] }))
    ∧ (∀ job j g key switchAt, aget s.sec.jobs job = some j → j.tenant = t → j.gens = [g] → g.1 = j.current → Replies (.jobKeySet r p job ((j.current + 1) % 256) key switchAt) s
        (cmdObj 0x1E30 3 roleTenant) r (lead.length + 4) (lead ++ (leBytes 4 job ++ leBytes 1 ((j.current + 1) % 256) ++ leBytes 32 key ++ leBytes 8 switchAt)) .ok []
        (fun u => (aget u.sec.jobs job).map LinkJob.current = some j.current ∧ (aget u.sec.jobs job).map LinkJob.switchAt = some switchAt
          ∧ (aget u.sec.jobs job).bind (fun x => aget x.gens ((j.current + 1) % 256)) = some key))
    ∧ (∀ job j eids, aget s.sec.jobs job = some j → j.tenant = t → eids ≠ [] → eids.length ≤ 64 → (eids.all fun e => e != 0 && decide (e < 2 ^ 18)) = true → eids.Nodup →
        (eids.all fun e => (s.jobOf e).isNone) = true → (s.sec.jobs.map (fun e => e.2.eids.length)).sum + eids.length ≤ 1024 →
        Replies (.jobBind r p job eids) s (cmdObj 0x1E30 4 roleTenant) r (lead.length + 4) (lead ++ (leBytes 4 job ++ leBytes 1 eids.length ++ eids.flatMap (leBytes 4))) .ok []
          (fun u => (aget u.sec.jobs job).map LinkJob.eids = some (j.eids ++ eids)))
    ∧ (∀ job j, aget s.sec.jobs job = some j → j.tenant = t → Replies (.jobKeyDestroy r p job 0) s (cmdObj 0x1E30 5 roleTenant) r (lead.length + 4)
        (lead ++ (leBytes 4 job ++ leBytes 4 0)) .ok [] (fun u => aget u.sec.jobs job = none))
    ∧ (∀ job j eid, aget s.sec.jobs job = some j → j.tenant = t → eid ∈ j.eids → eid ≠ 0 → eid < 2 ^ 18 → Replies (.jobKeyDestroy r p job eid) s (cmdObj 0x1E30 5 roleTenant) r
        (lead.length + 4) (lead ++ (leBytes 4 job ++ leBytes 4 eid)) .ok [] (fun u => (aget u.sec.jobs job).map LinkJob.eids = some (j.eids.filter (· ≠ eid))
          ∧ (u.sec.tagGen.all fun e => e.1.1 != eid) = true))
    ∧ (∀ keyId key, 1 ≤ keyId → keyId ≤ 8 → ahas (((aget s.sec.tenants t).map Tenant.signKeys).getD []) keyId = false →
        Replies (.kernelSignKeySet r p keyId key) s (cmdObj 0x1E30 6 roleTenant) r (lead.length + 1) (lead ++ (leBytes 1 keyId ++ leBytes 96 key))
          (if Config.p384Valid key = true then .ok else .unsupported) [] (fun u => Config.p384Valid key = true →
            (aget u.sec.tenants t).bind (fun x => aget x.signKeys keyId) = some key)))
  ∧ (∀ job j g, aget s.sec.jobs job = some j → j.older = none → j.gens.find? (fun g => g.1 != j.current) = some g → Does (.jobKeySwitch job) s (fun t =>
      (aget t.sec.jobs job).map LinkJob.current = some g.1 ∧ (aget t.sec.jobs job).map LinkJob.older = some (some j.current)
        ∧ (t.sec.tagGen.all fun e => !j.eids.contains e.1.1) = true ∧ (∀ x, x ∈ s.openExchanges j → x ∈ t.sec.oldEx) ∧ Frame [.sec] s t))
  ∧ (∀ job j, aget s.sec.jobs job = some j → j.older.isSome = true → Does (.jobKeySwitch job) s (fun t => t = s))
  ∧ (∀ job j, aget s.sec.jobs job = some j → Does (.jobKeyRetireOld job) s (fun t => (aget t.sec.jobs job).map LinkJob.gens
      = some (j.gens.filter (fun g => j.older != some g.1)) ∧ (aget t.sec.jobs job).map LinkJob.older = some none
      ∧ (aget t.sec.jobs job).map LinkJob.former = some [] ∧ (t.sec.tagGenOld.all fun e => !j.eids.contains e.1.1) = true
      ∧ (t.sec.oldEx.all fun x => !j.eids.contains x.1) = true ∧ Frame [.sec] s t))

/-- Debug tokens: the challenge, the judgement of a token, its withdrawal and its end (R570 to R573, R642). -/
def Obligations.DebugTokens : Prop :=
  ∀ (s : State) (r : Req),
  Replies (.debugChallenge r) s (cmdObj 0x1E20 3 (roleOp + roleDebug)) r 0 [] .ok (leBytes 8 (Config.freeNat s.free % 2 ^ 64)) (fun t =>
    t.sec.challenge = some (Config.freeNat s.free % 2 ^ 64) ∧ s.free < t.free)
  ∧ (∀ token, s.pkg.phase ≠ .boot → s.accepts { index := 0x1E20, sub := 4, type := 3, roles := 0, any := true } r 0 token = true → Does (.debugToken r token) s (fun t =>
      (∀ e, s.judgeToken token = .bad e → Answered { index := 0x1E20, sub := 4, type := 3, roles := 0, any := true } r e [] t ∧ t.sec.token = s.sec.token
        ∧ Counts .tokensRefused 0 1 s t ∧ t.mem = s.mem)
      ∧ (∀ k, s.judgeToken token = .good k → Answered { index := 0x1E20, sub := 4, type := 3, roles := 0, any := true } r .ok [] t ∧ t.sec.token = some k
        ∧ t.sec.challenge = none)))
  ∧ (∀ token : List Byte, token.length ≠ 352 → s.judgeToken token = .bad .unsupported)
  ∧ (s.sec.token.isSome = true → Replies (.debugWithdraw r) s (cmdObj 0x1E20 5 (roleOp + roleDebug)) r 0 [] .ok [] (fun t => t.sec.token = none
      ∧ (t.sec.sessions.all fun e => e.2.tenant.isNone) = true ∧ t.mem = s.mem))
  ∧ (s.sec.token = none → Replies (.debugWithdraw r) s (cmdObj 0x1E20 5 (roleOp + roleDebug)) r 0 [] .refusedState [] (fun t => t.sec.rest = s.sec.rest))
  ∧ (∀ key, s.standby = false → Replies (.debugKeySet r key) s (cmdObj 0x1E20 6 roleOp) r 0 (leBytes 96 key) (if Config.p384Valid key = true then .ok else .unsupported) []
      (fun t => t.sec.debugKey = if Config.p384Valid key = true then some key else s.sec.debugKey))
  ∧ (s.sec.token.isSome = true → Does .debugTokenExpiry s (fun t => t.sec.token = none ∧ (t.sec.sessions.all fun e => e.2.tenant.isNone) = true
      ∧ (s.obs.stop = .stopped → t.obs.stop = .resumeSet ∧ t.obs.stopAt = s.now + 10000) ∧ t.mem = s.mem))
  ∧ (s.sec.token = none → Does .debugTokenExpiry s (fun t => t = s))

/-- A firmware update: begun, erased, programmed, verified, activated, committed, aborted (R603, R604, R607 to R613). -/
def Obligations.FirmwareUpdate : Prop :=
  ∀ (s : State) (r : Req),
  (∀ header, headerOk header = true → s.fw.minSvn ≤ headerSvn header → s.fw.st = .idle → s.updateBarred = false →
    Replies (.fwBegin r header) s (fwObj 1) r 0 header (if headerSigned header = true then .ok else .integrity) [] (fun t =>
      (headerSigned header = true → t.fw.st = .staging ∧ (t.bank s.staging).st = .writing ∧ (t.bank s.staging).blocks = [(0, header)]
        ∧ (t.bank s.staging).svn = headerSvn header ∧ t.bank (!s.staging) = s.bank (!s.staging))
      ∧ (headerSigned header = false → t.fw = s.fw)))
  ∧ (∀ blocks, s.fw.st = .staging → Does (.fwEraseDone blocks) s (fun t => (t.bank s.staging).erased
      = max (s.bank s.staging).erased (min blocks ((s.bank s.staging).imageBlocks - 1)) ∧ Frame [.fw] s t))
  ∧ (∀ block crc data, s.fw.st = .staging → 1 ≤ block → block < (s.bank s.staging).imageBlocks → data.length = 512 → (s.bank s.staging).written.contains block = false →
      crc32c data = crc →
      (block ≤ (s.bank s.staging).erased → s.fw.flashBad = false → Replies (.fwBlock r block crc data) s (fwObj 2) r 4 (leBytes 4 block ++ leBytes 4 crc ++ data) .ok [] (fun t =>
        (t.bank s.staging).block block = data ∧ (t.bank s.staging).written.contains block = true ∧ t.fw.st = .staging))
      ∧ (block ≤ (s.bank s.staging).erased → s.fw.flashBad = true → Replies (.fwBlock r block crc data) s (fwObj 2) r 4 (leBytes 4 block ++ leBytes 4 crc ++ data)
        .integrity [] (fun t => (t.bank s.staging).written = (s.bank s.staging).written ∧ t.fw.flashBad = false ∧ t.fw.st = .staging))
      ∧ ((s.bank s.staging).erased < block → Replies (.fwBlock r block crc data) s (fwObj 2) r 4 (leBytes 4 block ++ leBytes 4 crc ++ data) .retry [] (fun t => t.fw = s.fw)))
  ∧ (s.fw.st = .staging → s.fw.verdict = none → Replies (.fwVerify r) s (fwObj 3) r 0 [] .retry [] (fun t => t.fw.verifying = true ∧ t.fw.st = .staging))
  ∧ (s.fw.verdict = some none → Replies (.fwVerify r) s (fwObj 3) r 0 [] .ok [] (fun t => t.fw.verdict = none ∧ t.fw.st = s.fw.st))
  ∧ (∀ c, s.fw.verdict = some (some c) → Replies (.fwVerify r) s (fwObj 3) r 0 [] .integrity (leBytes 1 c) (fun t => t.fw.verdict = none))
  ∧ (s.fw.st = .staging → s.fw.verifying = true → Does .fwVerifyDone s (fun t => t.fw.verifying = false ∧ Frame [.fw] s t
      ∧ ((s.bank s.staging).badComponent = none → t.fw.st = .verified ∧ (t.bank s.staging).st = .verified ∧ t.fw.verdict = some none)
      ∧ (∀ c, (s.bank s.staging).badComponent = some c → t.fw.st = .failed ∧ (t.bank s.staging).st = .failed ∧ t.fw.verdict = some (some c))))
  ∧ (s.fw.st = .verified → s.updateBarred = false → s.fw.recovery = false → Replies (.fwActivate r) s (fwObj 4) r 0 [] .ok [] (fun t => t.fw.st = .trial
      ∧ t.fw.act = .reheat ∧ (t.bank s.staging).st = .trial ∧ t.obs.reheat.contains 0 = true ∧ t.sec.sessions = [] ∧ t.fw.bootedB = s.fw.bootedB ∧ t.mem = s.mem))
  ∧ (s.fw.act = .selfCheck → Does (.fwSelfcheckDone false) s (fun t => t.fw.bootedB = (!s.fw.bootedB) ∧ (t.bank s.fw.bootedB).st = .failed ∧ t.fw.st = .idle
      ∧ t.fw.lastAct = 3 ∧ t.obs.reheat.contains 0 = true))
  ∧ (s.fw.act = .selfCheck → (s.bank s.fw.bootedB).engine = s.fw.engineDigest → Does (.fwSelfcheckDone true) s (fun t => t.fw.st = .committing
      ∧ (t.bank s.fw.bootedB).st = .good ∧ (t.bank (!s.fw.bootedB)).st = .copying ∧ t.fw.lastAct = 1 ∧ t.mem = s.mem))
  ∧ (s.fw.act = .selfCheck → (s.bank s.fw.bootedB).engine ≠ s.fw.engineDigest → Does (.fwSelfcheckDone true) s (fun t => t.fw.act = .pause ∧ Frame [.fw] s t))
  ∧ (s.fw.act = .pause → Does .fwPauseEnd s (fun t => t.fw.st = .committing ∧ t.fw.engineDigest = (s.bank s.fw.bootedB).engine ∧ t.fw.act = .none ∧ t.mem = s.mem))
  ∧ (s.fw.st = .committing → Does .fwCopyDone s (fun t => t.fw.st = .idle ∧ (t.bank s.staging).st = .good ∧ (t.bank s.staging).blocks = (s.bank s.fw.bootedB).blocks
      ∧ t.bank s.fw.bootedB = s.bank s.fw.bootedB ∧ t.mem = s.mem))
  ∧ (s.fw.st = .staging ∨ s.fw.st = .verified ∨ s.fw.st = .failed → Replies (.fwAbort r) s (fwObj 5) r 0 [] .ok [] (fun t => t.fw.st = .idle
      ∧ t.bank s.staging = Bank.empty ∧ t.bank (!s.staging) = s.bank (!s.staging)))
  ∧ (s.fw.st = .idle → s.updateBarred = false → Replies (.fwRaiseSvn r) s (fwObj 6) r 0 [] .ok (leBytes 4 (max s.fw.minSvn (s.bank s.fw.bootedB).svn)) (fun t =>
      t.fw.minSvn = max s.fw.minSvn (s.bank s.fw.bootedB).svn ∧ t.fw.st = .idle))

/-- Management reheats: begun by a watchdog or a disagreement, ended, and their window (R45, R643, R644 row 14). -/
def Obligations.ManagementReheats : Prop :=
  ∀ (s : State), s.bakerUp = true → s.pkg.phase ≠ .boot →
  (∀ die, die ≤ 1 → s.fw.st ≠ .trial → s.obs.reheat.contains die = false → ∀ c ∈ [Instr.bakerWatchdog die, .lockstepDisagreement die], Does c s (fun t =>
    t.obs.reheat.contains die = true ∧ t.mem = s.mem ∧ t.fw = s.fw ∧ (die = 0 → t.sec.sessions = [] ∧ t.kodp.running = []) ∧ t.sec.tenants = s.sec.tenants))
  ∧ (s.fw.st = .trial → s.fw.act = .selfCheck → ∀ c ∈ [Instr.bakerWatchdog 0, .lockstepDisagreement 0], Does c s (fun t => t.fw.st = .idle ∧ t.fw.lastAct = 4
      ∧ t.fw.bootedB = (!s.fw.bootedB) ∧ (t.bank s.fw.bootedB).st = .failed ∧ t.mem = s.mem))
  ∧ (s.obs.reheat.contains 1 = true → Does (.mgmtReheatDone 1) s (fun t => t.obs.reheat.contains 1 = false ∧ Frame [.obs] s t))
  ∧ (s.obs.reheat.contains 0 = true → s.fw.act ≠ .reheat → Does (.mgmtReheatDone 0) s (fun t => t.obs.reheat.contains 0 = false ∧ t.obs.waiting = [] ∧ t.fw = s.fw
      ∧ t.sec.aliasKey = s.aliasAtBoot ∧ t.mem = s.mem))
  ∧ (s.obs.reheat.contains 0 = true → s.fw.act = .reheat → (s.bank s.staging).blocks = [] → s.fw.minSvn ≤ (s.bank s.staging).svn → Does (.mgmtReheatDone 0) s (fun t =>
      t.obs.reheat.contains 0 = false ∧ t.fw.bootedB = s.staging ∧ t.fw.act = .selfCheck))
  ∧ (s.recentReheats = 0 → Does .mgmtReheatWindowExpiry s (fun t => t.obs.shownE = false ∧ Frame [.obs] s t))
  ∧ (s.recentReheats ≠ 0 → Does .mgmtReheatWindowExpiry s (fun t => t = s))

/-- Global time, snapshots and the debug stop (R618 to R621, R626, R638 to R642). -/
def Obligations.TimeAndStops : Prop :=
  ∀ (s : State) (r : Req),
  (s.timeRuns = false → Does .die1TimeSync s (fun t => t = s))
  ∧ (s.timeRuns = true →
      ((((s.obs.time0.counter : Int) - s.obs.time1.counter).natAbs < 256000) → Does .die1TimeSync s (fun t => t.obs.time1.counter = s.obs.time1.counter
        ∧ t.obs.time1.slew = (s.obs.time0.counter : Int) - s.obs.time1.counter ∧ t.obs.time0 = s.obs.time0 ∧ Frame [.time] s t))
      ∧ (s.obs.time1.counter + 256000 ≤ s.obs.time0.counter → s.obs.time1.st ≠ .locked → Does .die1TimeSync s (fun t => t.obs.time1.counter = s.obs.time0.counter
        ∧ t.obs.time1.st = .locking ∧ t.obs.time1.n = 0 ∧ t.obs.time0 = s.obs.time0 ∧ Counts .timeSteps 1 1 s t ∧ Frame [.time, .rings, .ctrs] s t))
      ∧ (s.obs.time1.counter + 256000 ≤ s.obs.time0.counter → s.obs.time1.st = .locked → Does .die1TimeSync s (fun t => t.obs.time1.counter = s.obs.time0.counter
        ∧ Counts .timeFaults 1 1 s t ∧ t.mem = s.mem))
      ∧ (s.obs.time0.counter + 256000 ≤ s.obs.time1.counter → s.obs.time1.everLocked = true → Does .die1TimeSync s (fun t =>
        t.obs.time1.counter = s.obs.time1.counter ∧ Counts .timeFaults 1 1 s t ∧ t.mem = s.mem)))
  ∧ (s.obs.time0.st ≠ .root → s.obs.time0.st ≠ .holdover → (∀ e ∈ s.timeSources, e.2.at_ + 10000000 ≤ s.now) → Does .holdoverEntry s (fun t =>
      t.obs.time0.st = .holdover ∧ t.obs.time0.counter = s.obs.time0.counter ∧ t.obs.time0.rateAdj = s.obs.time0.rateAdj ∧ t.txn.timeParent = none
      ∧ t.obs.time1 = s.obs.time1 ∧ Frame [.txn, .time] s t))
  ∧ (s.obs.time0.st = .root ∨ s.obs.time0.st = .holdover ∨ (∃ e ∈ s.timeSources, s.now < e.2.at_ + 10000000) →
      Does .holdoverEntry s (fun t => t = s))
  ∧ Replies (.timeRootWrite r 1) s (writeObj .timeRoot) r 1 (leBytes 1 1) .ok [] (fun t => t.obj .timeRoot = 1 ∧ t.obs.time0.st = .root
      ∧ t.obs.time0.counter = s.obs.time0.counter ∧ t.obs.time0.rateAdj = 0 ∧ t.obs.time1 = s.obs.time1 ∧ t.txn.timeParent = none)
  ∧ Replies (.timeRootWrite r 0) s (writeObj .timeRoot) r 1 (leBytes 1 0) .ok [] (fun t => t.obj .timeRoot = 0 ∧ t.obs.time0.counter = s.obs.time0.counter
      ∧ t.obs.time0.st = (if s.obs.time0.st = .root then .holdover else s.obs.time0.st)
      ∧ (s.obs.time0.st = .root → t.obs.time0.rateAdj = 0) ∧ t.obs.time1 = s.obs.time1)
  ∧ (∀ v, 1 < v → Replies (.timeRootWrite r v) s (writeObj .timeRoot) r 1 (leBytes 1 v) .unsupported [] (fun t => t.obj .timeRoot = s.obj .timeRoot
      ∧ t.obs.time0 = s.obs.time0))
  ∧ (∀ time frac, time < 2 ^ 64 → frac < 256 →
      (s.obj .timeRoot = 1 → s.part.slots = [] → Replies (.timeSet r time frac) s (cmdObj 0x2120 1 roleOp) r 8 (leBytes 8 time ++ leBytes 1 frac) .ok [] (fun t =>
        t.obs.time0.counter = time * 256 + frac ∧ t.obs.time0.slew = 0 ∧ t.obs.time1 = s.obs.time1 ∧ Counts .timeSteps 0 1 s t ∧ t.mem = s.mem))
      ∧ (s.obj .timeRoot ≠ 1 ∨ s.part.slots ≠ [] → Replies (.timeSet r time frac) s (cmdObj 0x2120 1 roleOp) r 8 (leBytes 8 time ++ leBytes 1 frac) .refusedState []
        (fun t => t.obs.time0 = s.obs.time0)))
  ∧ (∀ at_, at_ < 2 ^ 64 → s.now + 10000 ≤ at_ → Starts (.counterSnapshot r at_) s (cmdObj 0x2120 2 (roleOp + roleDebug)) r 8 (leBytes 8 at_) (fun t =>
      t.obs.snapAt = s.obs.snapAt ++ [(at_, r)] ∧ t.mem = s.mem))
  ∧ (∀ at_, at_ < s.now + 10000 → Replies (.counterSnapshot r at_) s (cmdObj 0x2120 2 (roleOp + roleDebug)) r 8 (leBytes 8 at_) .unsupported [] (fun t =>
      t.obs.snapAt = s.obs.snapAt))
  ∧ (∀ at_, s.obs.snapAt = [(at_, r)] → Does .snapshotAtT s (fun t => t.obs.snapAt = [] ∧ t.obs.snapshot = s.ctrs ∧ t.mem = s.mem))
  ∧ (s.obs.snapAt = [] → Does .snapshotAtT s (fun t => t = s))
  ∧ (∀ at_, at_ < 2 ^ 64 → s.now + 10000 ≤ at_ →
      (s.obs.stop = .running → Replies (.debugStop r at_) s (cmdObj 0x2120 8 roleDebug) r 8 (leBytes 8 at_) .ok [] (fun t => t.obs.stop = .stopSet ∧ t.obs.stopAt = at_
        ∧ t.obs.capture = [] ∧ t.obs.crossings = [] ∧ t.mem = s.mem))
      ∧ (s.obs.stop ≠ .running → Replies (.debugStop r at_) s (cmdObj 0x2120 8 roleDebug) r 8 (leBytes 8 at_) .refusedState [] (fun t => t.obs.stop = s.obs.stop
        ∧ t.obs.stopAt = s.obs.stopAt))
      ∧ (s.frozen = true → Replies (.debugResume r at_) s (cmdObj 0x2120 9 roleDebug) r 8 (leBytes 8 at_) .ok [] (fun t => t.obs.stop = .resumeSet
        ∧ t.obs.stopAt = at_ ∧ t.obs.capture = s.obs.capture ∧ t.mem = s.mem))
      ∧ (s.frozen = false → Replies (.debugResume r at_) s (cmdObj 0x2120 9 roleDebug) r 8 (leBytes 8 at_) .refusedState [] (fun t => t.obs.stop = s.obs.stop)))
  ∧ (s.obs.stop = .stopSet → Does .debugFreeze s (fun t => t.obs.stop = .stopped ∧ t.obs.stopAt = s.obs.stopAt ∧ t.obs.capture.length = 26
      ∧ t.obs.crossings.length = 50 ∧ (∀ e ∈ t.obs.crossings, e.1 < 256)
      ∧ (∀ i, i < 26 → ∃ x, aget t.obs.capture i = some x ∧ s.obs.stopAt * 256 ≤ x ∧ x ≤ s.obs.stopAt * 256 + s.twoCycles i)
      ∧ Frame [.obs, .rings, .free] s t))
  ∧ (s.obs.stop ≠ .stopSet → Does .debugFreeze s (fun t => t = s))
  ∧ (s.obs.stop = .resumeSet → Does .debugThaw s (fun t => t.obs.stop = .running ∧ Frame [.obs, .part, .rings] s t
      ∧ t.part.slots.map (fun e => (e.1, { e.2 with renewedAt := 0 })) = s.part.slots.map (fun e => (e.1, { e.2 with renewedAt := 0 }))
      ∧ (∀ e ∈ t.part.slots, e.2.st = .active → e.2.renewedAt = s.now)))
  ∧ (s.obs.stop ≠ .resumeSet → Does .debugThaw s (fun t => t = s))

/-- Crumb rings, registered tensors and their dumps (R627 to R637). -/
def Obligations.CrumbsAndDumps : Prop :=
  ∀ (s : State) (r : Req),
  (∀ kind unit,
      (crumbUnit kind unit = true →
        Replies (.crumbRead r kind unit none) s (cmdObj 0x2120 3 (roleOp + roleDebug)) r 1 (leBytes 1 kind ++ leBytes 2 unit) .ok (s.ringBytes kind unit)
          (fun t => t.obs.rings = s.obs.rings)
        ∧ (∀ sink, s.isSink sink = true → Replies (.crumbRead r kind unit (some sink)) s (cmdObj 0x2120 3 (roleOp + roleDebug)) r 1
            (leBytes 1 kind ++ leBytes 2 unit ++ leBytes 4 sink) .ok [] (fun t => t.obs.exportSeq = (s.obs.exportSeq + 22) % 65536 ∧ t.obs.rings = s.obs.rings))
        ∧ Replies (.crumbRelease r kind unit) s (cmdObj 0x2120 4 (roleOp + roleDebug)) r 1 (leBytes 1 kind ++ leBytes 2 unit) .ok [] (fun t =>
            ∀ e ∈ t.obs.rings, e.1 = (kind, unit) → e.2.frozen = none))
      ∧ (crumbUnit kind unit = false → Replies (.crumbRead r kind unit none) s (cmdObj 0x2120 3 (roleOp + roleDebug)) r 1 (leBytes 1 kind ++ leBytes 2 unit)
          .unsupported [] (fun t => t.obs.rings = s.obs.rings))
      ∧ Does (.crumbRingUnfreeze kind unit) s (fun t => (∀ e ∈ t.obs.rings, e.1 = (kind, unit) → e.2.frozen = none)
          ∧ t.obs.rings.map (fun e => (e.1, e.2.crumbs, e.2.missed)) = s.obs.rings.map (fun e => (e.1, e.2.crumbs, e.2.missed))
          ∧ (∀ e ∈ s.obs.rings, e.1 ≠ (kind, unit) → e ∈ t.obs.rings) ∧ Frame [.rings] s t))
  ∧ Replies (.crumbRelease r 0 0) s (cmdObj 0x2120 4 (roleOp + roleDebug)) r 1 (leBytes 1 0 ++ leBytes 2 0) .ok [] (fun t => ∀ e ∈ t.obs.rings, e.2.frozen = none)
  ∧ (∀ (name : List Byte) ctx addr length format, name.length ≤ 32 → name.headD 0 ≠ 0 → ctx < 65536 → tensorLengthOk addr length = true → format < 256 → s.standby = false →
      let arg := padTo 32 name ++ leBytes 2 ctx ++ leBytes 8 addr ++ leBytes 8 length ++ leBytes 1 format
      let found := s.obs.tensors.any (fun x => x.name == padTo 32 name)
      (length = 0 → found = true → Replies (.tensorRegister r name ctx addr length format) s (cmdObj 0x2120 5 (rolePm + roleDebug)) r 32 arg .ok [] (fun t =>
        t.obs.tensors = s.obs.tensors.filter (fun x => x.name != padTo 32 name) ∧ (∀ d ∈ t.obs.dumps, d.tensor.name = padTo 32 name → d.st = .ended) ∧ t.mem = s.mem))
      ∧ (length = 0 → found = false → Replies (.tensorRegister r name ctx addr length format) s (cmdObj 0x2120 5 (rolePm + roleDebug)) r 32 arg .refusedState [] (fun t =>
        t.obs.tensors = s.obs.tensors))
      ∧ (length ≠ 0 → found = true → (tensorCheck ctx addr length s).2.1 = none →
        Replies (.tensorRegister r name ctx addr length format) s (cmdObj 0x2120 5 (rolePm + roleDebug)) r 32 arg .refusedState [] (fun t => t.obs.tensors = s.obs.tensors))
      ∧ (length ≠ 0 → found = false → (tensorCheck ctx addr length s).2.1 = none → s.obs.tensors.length < 64 →
        Replies (.tensorRegister r name ctx addr length format) s (cmdObj 0x2120 5 (rolePm + roleDebug)) r 32 arg .ok [] (fun t => ∃ x,
          t.obs.tensors = s.obs.tensors ++ [x] ∧ x.name = padTo 32 name ∧ x.ctx = ctx ∧ x.addr = addr ∧ x.length = length ∧ x.format = format
          ∧ x.extents = (tensorCheck ctx addr length (begun (cmdObj 0x2120 5 (rolePm + roleDebug)) r arg 32 s)).2.2))
      ∧ (length ≠ 0 → found = false → (tensorCheck ctx addr length s).2.1 = none → 64 ≤ s.obs.tensors.length →
        Replies (.tensorRegister r name ctx addr length format) s (cmdObj 0x2120 5 (rolePm + roleDebug)) r 32 arg .noSpace [] (fun t => t.obs.tensors = s.obs.tensors)))
  ∧ (∀ (name : List Byte) sink mark step bufPa bufLen,
      let arg := padTo 32 name ++ leBytes 4 sink ++ leBytes 8 mark ++ leBytes 8 step ++ leBytes 8 bufPa ++ leBytes 8 bufLen
      (s.obs.tensors.find? (fun x => x.name == padTo 32 name) = none → Replies (.dumpArm r name sink mark step bufPa bufLen) s (cmdObj 0x2120 6 (rolePm + roleDebug))
        r 32 arg .unsupported [] (fun t => t.obs.dumps = s.obs.dumps))
      ∧ (∀ x pa tenant keyId, s.obs.tensors.find? (fun x => x.name == padTo 32 name) = some x → markPlace x mark s = some (pa, tenant, keyId) →
        name.length ≤ 32 → s.isSink sink = true → bufPa % 128 = 0 → bufLen % 128 = 0 → bufPa + bufLen ≤ dramTop → mapLines x.lines * 128 ≤ bufLen → step < 2 ^ 64 →
        (s.storeOf (pa / 128)).isSome = true → leNat (((s.dataOf (pa / 128) tenant keyId).drop (pa % 128)).take 8) < step → s.standby = false →
        s.isSealed tenant = false → (∀ y, s.segmentNow x.ctx x.addr = some y → s.isSealed y.2.1 = false) →
        ((s.obs.dumps.filter (fun d => d.st != .ended)).length < 4 → Replies (.dumpArm r name sink mark step bufPa bufLen) s (cmdObj 0x2120 6 (rolePm + roleDebug))
          r 32 arg .ok (leBytes 2 s.dumpNumber) (fun t => ∃ d ∈ t.obs.dumps, d.number = s.dumpNumber ∧ d.tensor = x ∧ d.sink = sink ∧ d.step = step ∧ d.st = .armed
            ∧ d.bufPa = bufPa ∧ d.bufLen = bufLen ∧ d.markPa = pa))
        ∧ (4 ≤ (s.obs.dumps.filter (fun d => d.st != .ended)).length → Replies (.dumpArm r name sink mark step bufPa bufLen) s (cmdObj 0x2120 6 (rolePm + roleDebug))
          r 32 arg .noSpace [] (fun t => t.obs.dumps = s.obs.dumps))))
  ∧ (∀ n, n < 65535 →
      (s.obs.dumps.any (fun d => d.number == n && d.st != .ended) = true → Replies (.dumpCancel r n) s (cmdObj 0x2120 7 (rolePm + roleDebug)) r 2 (leBytes 2 n) .ok [] (fun t =>
        (∀ d ∈ t.obs.dumps, d.number = n → d.st = .ended) ∧ t.obs.tensors = s.obs.tensors ∧ t.mem = s.mem))
      ∧ (s.obs.dumps.any (fun d => d.number == n && d.st != .ended) = false → Replies (.dumpCancel r n) s (cmdObj 0x2120 7 (rolePm + roleDebug)) r 2 (leBytes 2 n)
        .refusedState [] (fun t => t.obs.dumps = s.obs.dumps)))
  ∧ (∀ n d, s.frozen = false → s.obs.dumps = [d] → d.number = n → d.st = .triggered → s.dir.entries = [] → Does (.dumpCut n) s (fun t =>
      t.obs.dumps = [{ d with st := .streaming, settling := [] }] ∧ Frame [.obs] s t))
  ∧ (∀ n d u x l, s.frozen = false → s.obs.dumps = [d] → d.number = n → d.st = .streaming → dumpNext d s = (u, x :: l) → u.obs.dumps = [d] →
      (d.sent + (l.length + 1) < d.tensor.lines → Does (.dumpStreamSend n) s (fun t => ∃ b, t.obs.dumps = [{ d with
          sent := d.sent + (l.length + 1), seq := d.seq + 1, poisoned := b }] ∧ t.mem = u.mem ∧ t.dir = u.dir))
      ∧ (d.tensor.lines ≤ d.sent + (l.length + 1) → Does (.dumpStreamSend n) s (fun t => ∃ y, t.obs.dumps = [y] ∧ y.st = .ended
          ∧ y.sent = d.sent + (l.length + 1) ∧ y.tensor = d.tensor ∧ t.mem = u.mem ∧ t.dir = u.dir)))
  ∧ (∀ n d u, s.frozen = false → s.obs.dumps = [d] → d.number = n → d.st = .streaming → dumpNext d s = (u, []) → Does (.dumpStreamSend n) s (fun t => t = u))
  ∧ (∀ n, (s.obs.dumps.all fun d => d.number != n) = true → ∀ c ∈ [Instr.dumpCut n, .dumpStreamSend n], Does c s (fun t => t = s))

/-- Writes of objects and tables (R650, R664, R672 to R675, R683). -/
def Obligations.DictionaryWrites : Prop :=
  ∀ (s : State) (r : Req),
  (∀ o v, o ∉ [Obj.timeRoot, .serviceMode, .twinEnable] →
      (noTwinObj o = false → o.info.lo ≤ v → v ≤ o.info.hi → s.valueBad o v = false → s.valueRefused o v = false → (o.info.rws = true → s.obj .serviceMode = 1) →
        Replies (.objectWrite r o v) s (writeObj o) r o.info.size (leBytes o.info.size v) .ok [] (fun t => t.obj o = v ∧ (∀ x, x ≠ o → t.obj x = s.obj x)
          ∧ (o.info.stored = true → t.kodp.settingsA = t.kodp.settingsB ∧ t.kodp.settingsA.sequence = max s.kodp.settingsA.sequence s.kodp.settingsB.sequence + 1
              ∧ aget t.kodp.settingsA.values o = some v)
          ∧ (o.info.stored = false → t.kodp.settingsA = s.kodp.settingsA ∧ t.kodp.settingsB = s.kodp.settingsB) ∧ t.mem = s.mem))
      ∧ (noTwinObj o = true ∨ v < o.info.lo ∨ o.info.hi < v ∨ s.valueBad o v = true → Replies (.objectWrite r o v) s (writeObj o) r o.info.size (leBytes o.info.size v) .unsupported [] (fun t =>
          t.kodp.objs = s.kodp.objs ∧ t.kodp.settingsA = s.kodp.settingsA))
      ∧ (noTwinObj o = false → o.info.lo ≤ v → v ≤ o.info.hi → s.valueBad o v = false → s.valueRefused o v = true ∨ (o.info.rws = true ∧ s.obj .serviceMode ≠ 1) →
          Replies (.objectWrite r o v) s (writeObj o) r o.info.size (leBytes o.info.size v) .refusedState [] (fun t => t.kodp.objs = s.kodp.objs)))
  ∧ (∀ v, (∀ t, exec (.timeRootWrite r v) s = .next t → exec (.objectWrite r .timeRoot v) s = .next t)
      ∧ (∀ t, exec (.serviceModeWrite r v) s = .next t → exec (.objectWrite r .serviceMode v) s = .next t)
      ∧ (∀ t, exec (.twinEnableWrite r v) s = .next t → exec (.objectWrite r .twinEnable v) s = .next t))
  ∧ (∀ table rows, s.accepts (putObj table) r 0 (leBytes 2 rows.length ++ rows.flatMap (rowBytes table)) = true → Does (.tablePut r table rows) s (fun t =>
      (∀ after, putAll table s 0 rows (s.table table) = (after, none) → Answered (putObj table) r .ok [] t ∧ t.table table = after
        ∧ (∀ x, x ≠ table → t.table x = s.table x) ∧ t.kodp.objs = s.kodp.objs)
      ∧ (∀ after st n, putAll table s 0 rows (s.table table) = (after, some (st, n)) → Answered (putObj table) r st (leBytes 2 n) t ∧ t.kodp.tables = s.kodp.tables)))
  ∧ (∀ table keys, s.accepts (deleteObj table) r 0 (leBytes 2 keys.length ++ keys.flatMap (keyBytes table)) = true → Does (.tableDelete r table keys) s (fun t =>
      (∀ after, deleteAll table s 0 keys (s.table table) = (after, none) → Answered (deleteObj table) r .ok [] t ∧ t.table table = after
        ∧ (∀ x, x ≠ table → t.table x = s.table x) ∧ t.kodp.objs = s.kodp.objs)
      ∧ (∀ after st n, deleteAll table s 0 keys (s.table table) = (after, some (st, n)) → Answered (deleteObj table) r st (leBytes 2 n) t ∧ t.kodp.tables = s.kodp.tables)))
  ∧ (∀ port lo hi, isFabric port = true → portPresent port = true → port < 256 → lo < 2 ^ 32 → hi < 2 ^ 32 → (s.table .eidRoutes).length < TableId.eidRoutes.info.limit →
      Replies (.tablePut r .eidRoutes [{ fields := [port, lo, hi] }]) s (putObj .eidRoutes) r 0 (leBytes 2 1 ++ rowBytes .eidRoutes { fields := [port, lo, hi] }) .ok [] (fun t =>
        { fields := [port, lo, hi] } ∈ t.table .eidRoutes
          ∧ ∀ x ∈ s.table .eidRoutes, rowKey .eidRoutes x ≠ rowKey .eidRoutes { fields := [port, lo, hi] } → x ∈ t.table .eidRoutes))
  ∧ (∀ keys rows, s.accepts (deleteObj .portConfig) r 0 (leBytes 2 (keys :: rows).length ++ (keys :: rows).flatMap (keyBytes .portConfig)) = true →
      Does (.tableDelete r .portConfig (keys :: rows)) s (fun t => Answered (deleteObj .portConfig) r .unsupported (leBytes 2 0) t ∧ t.kodp.tables = s.kodp.tables))

/-- KODP messages that come in fragments, and what they ask for (R649 to R655, R660, R664, R665, R684). -/
def Obligations.KodpMessages : Prop :=
  ∀ (s : State) (c : Client), c.session = none →
  (s.bakerUp = false → ∀ bytes session, Does (.kodpFragment c bytes) s (fun t => t = s) ∧ Does (.secured c session bytes) s (fun t => t = s))
  ∧ (s.bakerUp = true →
    (c.transport ≠ .vc7 → ∀ bytes, bytes.length < 4 → Does (.kodpFragment c bytes) s (fun t =>
      Counts .kMalformed (transportNum c.transport) 1 s t ∧ Frame [.ctrs] s t))
    ∧ (c.transport ≠ .vc7 → ∀ id idx high data, s.reasmOf c id = none → s.reasmFull c id = false → id < 2 ^ 16 → idx < 8 → data.length = fragSize c.transport →
      Does (.kodpFragment c ([BitVec.ofNat 8 idx, BitVec.ofNat 8 (2 * high)] ++ leBytes 2 id ++ data)) s (fun t =>
        t.kodp.reasm = s.kodp.reasm ++ [{ client := c, reqId := id, frags := [(idx, data)], last := none }] ∧ Frame [.kodp] s t))
    ∧ (∀ id idx data, c = s.peerClient → s.reasmOf c id = none → s.reasmFull c id = false → id < 4096 → idx < 16 → data.length = 496 →
      Does (.kodpFragment c (leBytes 2 idx ++ leBytes 2 id ++ data)) s (fun t =>
        t.kodp.reasm = s.kodp.reasm ++ [{ client := c, reqId := id, frags := [(idx, data)], last := none }] ∧ Frame [.kodp] s t))
    ∧ (∀ id, (s.reasmOf c id = none → Does (.reassemblyTimeout c id) s (fun t => t = s))
      ∧ (s.reasmOf c id ≠ none → Does (.reassemblyTimeout c id) s (fun t => t.reasmOf c id = none ∧ Counts .kReasmTimeouts (transportNum c.transport) 1 s t
          ∧ (∀ d i, (d, i) ≠ (c, id) → t.reasmOf d i = s.reasmOf d i) ∧ Frame [.kodp, .ctrs] s t)))
    ∧ (∀ session cipher, s.obs.reheat.contains 0 = false →
      (aget s.sec.sessions session = none → Does (.secured c session cipher) s (fun t => Counts .kSecureFailures (transportNum c.transport) 1 s t ∧ Frame [.ctrs] s t))
      ∧ (∀ n, aget s.sec.sessions session = some n → n.client ≠ c ∨ 2 ^ 32 ≤ n.received → Does (.secured c session cipher) s (fun t =>
          Counts .kSecureFailures (transportNum c.transport) 1 s t ∧ Frame [.ctrs] s t))
      ∧ (∀ n, aget s.sec.sessions session = some n → n.client = c → n.received < 2 ^ 32 → Does (.secured c session cipher) s (fun t =>
          (Config.gcmOpen n.key (2 * n.received) (leBytes 4 session) cipher = none → Counts .kSecureFailures (transportNum c.transport) 1 s t ∧ Frame [.ctrs] s t)
          ∧ (∀ b, Config.gcmOpen n.key (2 * n.received) (leBytes 4 session) cipher = some b → t = takeClear { c with session := some session } 0 (parseMsg b)
              { s with sec := { s.sec with sessions := aset s.sec.sessions session { n with received := n.received + 1 } } }))))
    ∧ (c.transport ≠ .vc7 → ∀ id, id < 2 ^ 16 → s.kodp.queue = [] → s.reasmOf c id = none → s.reasmFull c id = false →
      let r : Req := { client := c, id := id, tag := 0 }
      let come (m : KMsg) : Instr := .kodpFragment c ([0, 1] ++ leBytes 2 id ++ kmsgBytes m)
      (∀ index sub, index < 2 ^ 16 → sub < 256 →
        (∀ v, readValue s c index sub = some v → Replies (come (mkMsg 1 id index sub .ok [])) s { index := index, sub := sub, type := 1, roles := v.roles, any := v.any }
          r 0 [] .ok v.bytes (fun t => t.mem = s.mem ∧ t.kodp.objs = s.kodp.objs))
        ∧ (readValue s c index sub = none → Replies (come (mkMsg 1 id index sub .ok [])) s { index := index, sub := sub, type := 1, roles := 0, any := true }
          r 0 [] .unsupported [] (fun t => t.mem = s.mem ∧ t.kodp.objs = s.kodp.objs)))
      ∧ (∀ (o : Obj) v, v < 256 ^ o.info.size → ∀ t, exec (.objectWrite r o v) s = .next t →
          exec (come (mkMsg 2 id o.info.index o.info.sub .ok (leBytes o.info.size v))) s = .next t)
      ∧ (∀ a b, a < 128 → b < 2 ^ 16 →
          ∀ e ∈ [((0x1220, 1), leBytes 1 a ++ [2], Instr.portDisable r a), ((0x1420, 3), leBytes 2 b, .partnerEvict r b), ((0x1520, 1), leBytes 8 b, .directoryLookup r b),
            ((0x1630, 4), leBytes 1 a, .deepFlush r a), ((0x1740, 1), [], .errorLogClear r), ((0x1820, 1), leBytes 2 b ++ leBytes 2 a, .recipeAbort r b a),
            ((0x1A20, 2), leBytes 2 b, .kernelUnload r b), ((0x1B30, 3), [], .twinHandover r), ((0x1C30, 1), leBytes 2 b, .histogramClear r b),
            ((0x1D20, 2), leBytes 4 b, .jobClose r b), ((0x1E20, 2), leBytes 2 b, .tenantRetire r b), ((0x1F20, 1), leBytes 2 b, .resetCore r b),
            ((0x2020, 3), [], .fwVerify r), ((0x2120, 8), leBytes 8 b, .debugStop r b)],
          ∀ t, exec e.2.2 s = .next t → exec (come (mkMsg 3 id e.1.1 e.1.2 .ok e.2.1)) s = .next t)
      ∧ (∀ index start most v, genKept index = true → start < 2 ^ 32 → most < 2 ^ 16 → tableView s c index = some v →
          Replies (come (mkMsg 4 id index 0 .ok (leBytes 4 start ++ leBytes 2 most))) s { index := index, sub := 0, type := 4, roles := v.roles, any := false }
            r 0 (leBytes 4 start ++ leBytes 2 most) .ok (tableBody (agetD s.kodp.tableGen index 0) start most v) (fun t => t.mem = s.mem ∧ t.kodp.tables = s.kodp.tables))
      ∧ (∀ index start most v, genKept index = false → index < 2 ^ 16 → start < 2 ^ 32 → most < 2 ^ 16 → tableView s c index = some v → ∃ gen,
          Replies (come (mkMsg 4 id index 0 .ok (leBytes 4 start ++ leBytes 2 most))) s { index := index, sub := 0, type := 4, roles := v.roles, any := false }
            r 0 (leBytes 4 start ++ leBytes 2 most) .ok (tableBody gen start most v) (fun t => t.mem = s.mem ∧ t.kodp.tables = s.kodp.tables))
      ∧ (∀ t, exec (.ping r) s = .next t → exec (come (mkMsg 10 id 0 0 .ok [])) s = .next t)
      ∧ (∀ index sub (body : List Byte), 0x2200 ≤ index → index < 2 ^ 16 → sub < 256 → body.length ≤ 512 →
          Replies (come (mkMsg 3 id index sub .ok body)) s { index := index, sub := sub, type := 3, roles := 0, any := true } r 0 body .unsupported []
            (fun t => t.mem = s.mem ∧ t.kodp.objs = s.kodp.objs))
      ∧ (∀ version, version < 256 → version ≠ 1 → Replies (come { mkMsg 1 id 0x1100 1 .ok [] with version := version }) s
          { index := 0x1100, sub := 1, type := 1, roles := 0, any := true } r 0 [] .unsupported [] (fun t => Counts .kMalformed (transportNum c.transport) 1 s t))))

/-- Subscriptions, leases, the reply cache and operations that take too long (R652, R669, R670, R677). -/
def Obligations.KodpClients : Prop :=
  ∀ (s : State) (r : Req), s.kodp.queue = [] →
  Replies (.ping r) s { index := 0, sub := 0, type := 10, roles := 0, any := true } r 0 [] .ok (leBytes 4 (s.obj .clientLease)) (fun t =>
      aget t.kodp.heardAt r.client = some s.now ∧ t.mem = s.mem)
  ∧ (∀ codes : List Nat, (∀ x ∈ codes, x = codeAll ∨ x ∈ allCodes) →
      let granted := codes.filter (fun x => x == codeAll || mayReceive (s.rolesOf r.client) x)
      ((∃ b, s.subOf r.client = some b) ∨ s.kodp.subs.length < 64 → Replies (.subscribe r codes) s (subObj 7) r 0 (codesBytes codes) .ok (codesBytes granted) (fun t =>
        (granted ≠ [] → ∃ b, t.subOf r.client = some b ∧ b.roles = s.rolesOf r.client ∧ (codeAll ∈ granted → b.all = true) ∧ ∀ x ∈ granted, x ≠ codeAll → x ∈ b.codes)
        ∧ (∀ d, d ≠ r.client → t.subOf d = s.subOf d)))
      ∧ (s.subOf r.client = none → 64 ≤ s.kodp.subs.length → Replies (.subscribe r codes) s (subObj 7) r 0 (codesBytes codes) .noSpace [] (fun t => t.kodp.subs = s.kodp.subs))
      ∧ Replies (.unsubscribe r codes) s (subObj 8) r 0 (codesBytes codes) .ok [] (fun t => (codes = [] → t.subOf r.client = none)
        ∧ (∀ b, t.subOf r.client = some b → b.all = false ∧ ∀ x ∈ codes, x ∉ b.codes) ∧ (∀ d, d ≠ r.client → t.subOf d = s.subOf d)))
  ∧ (∀ codes x, x ∈ codes → x ≠ codeAll → x ∉ allCodes →
      Replies (.subscribe r codes) s (subObj 7) r 0 (codesBytes codes) .unsupported [] (fun t => t.kodp.subs = s.kodp.subs)
      ∧ Replies (.unsubscribe r codes) s (subObj 8) r 0 (codesBytes codes) .unsupported [] (fun t => t.kodp.subs = s.kodp.subs))
  ∧ (∀ x, s.kodp.running.find? (fun x => x.req == r && !x.timedOut) = some x → Does (.kodpOperationTimeout r) s (fun t =>
      Counts .timeoutExpiries (13 * 2 ^ 20 + 8 * 2 ^ 16) 1 s t ∧ { x with timedOut := true } ∈ t.kodp.running
      ∧ (∃ e ∈ agetD t.kodp.cache r.client [], e.reqId = r.id ∧ e.reply = mkMsg 0x83 r.id x.index x.sub .timeout []) ∧ t.mem = s.mem))
  ∧ ((s.kodp.running.all fun x => x.req != r || x.timedOut) = true → Does (.kodpOperationTimeout r) s (fun t => t = s))
  ∧ (∀ x st, s.kodp.running = [x] → x.req = r → x.timedOut = true → (s.mirrorsOps && x.peerArg.isSome) = false → s.obs.reheat.contains 0 = false →
      Does (.commandDone r st) s (fun t => t.kodp.running = [] ∧ t.mem = s.mem ∧ ∃ n, t.kodp.log.getLast? = some (n, some r.client) ∧ n.code = 2 ∧ n.seq = s.kodp.nextSeq
        ∧ n.payload = leBytes 2 r.id ++ leBytes 2 x.index ++ leBytes 1 x.sub ++ leBytes 1 st.code))
  ∧ ((s.kodp.running.all fun x => x.req != r || !x.timedOut) = true → ∀ st, Does (.commandDone r st) s (fun t => t = s))
  ∧ (∀ c : Client, Does (.clientLeaseExpiry c) s (fun t => t.subOf { c with session := none } = none ∧ (∀ d, d ≠ { c with session := none } → t.subOf d = s.subOf d)
      ∧ Frame [.kodp] s t))
  ∧ Does (.replyCacheExpiry r) s (fun t => (∀ e ∈ agetD t.kodp.cache r.client [], e.reqId ≠ r.id)
      ∧ (∀ e ∈ agetD s.kodp.cache r.client [], e.reqId ≠ r.id → e ∈ agetD t.kodp.cache r.client [])
      ∧ (∀ c, c ≠ r.client → agetD t.kodp.cache c [] = agetD s.kodp.cache c []) ∧ Frame [.kodp] s t)

/-- The KSL and the management lane: frames that come and frames that go (R80, R81, R656, R658, R680). -/
def Obligations.ManagementLanes : Prop :=
  ∀ (s : State),
  (∀ addr len msg crc, s.kslMine addr = false → ∀ c ∈ [Instr.kslWriteFrame addr len msg crc, .kslReadFrame addr, .kslFrameTimeout], Does c s (fun t =>
      t = { s with pkg := { s.pkg with kslReleased := true } }))
  ∧ (∀ addr, s.kslMine addr = true →
      (∀ len msg crc, crc ≠ crc16 (leBytes 2 len ++ msg) ∨ 1024 < len ∨ msg.length ≠ len ∨ ((aget s.integ.selfTest (5, 40)).map Prod.fst) = some 3 →
        Does (.kslWriteFrame addr len msg crc) s (fun t => t.out = .kslStatus .integrity :: s.out
        ∧ t.pkg.kslReleased = false ∧ aget t.kodp.heardAt kslClient = some s.now ∧ Frame [.pkg, .kodp, .out] s t))
      ∧ (∀ (msg : List Byte), msg.length ≤ 1024 → s.obs.reheat.contains 0 = true → ((aget s.integ.selfTest (5, 40)).map Prod.fst) ≠ some 3 →
        Does (.kslWriteFrame addr msg.length msg (crc16 (leBytes 2 msg.length ++ msg))) s (fun t => t.out = .kslStatus .retry :: s.out ∧ Frame [.pkg, .kodp, .out] s t))
      ∧ (∀ (msg : List Byte), 4 ≤ msg.length → msg.length ≤ 1024 → s.obs.reheat.contains 0 = false → ((aget s.integ.selfTest (5, 40)).map Prod.fst) ≠ some 3 →
        s.reasmFull kslClient (leNat ((msg.drop 2).take 2)) = false → Does (.kslWriteFrame addr msg.length msg (crc16 (leBytes 2 msg.length ++ msg))) s (fun t =>
          ∃ more, t.out = more ++ .kslStatus .ok :: s.out))
      ∧ (s.kodp.kslTx = [] ∨ s.obs.reheat.contains 0 = true → Does (.kslReadFrame addr) s (fun t =>
          t.out = .kslFrame (leBytes 2 0 ++ leBytes 2 (crc16 (leBytes 2 0))) :: s.out ∧ t.kodp.kslTx = s.kodp.kslTx ∧ Frame [.pkg, .kodp, .out] s t))
      ∧ (∀ e rest, s.kodp.kslTx = e :: rest → s.obs.reheat.contains 0 = false →
          let part := ((kmsgBytes e.2).drop (1020 * s.kodp.kslRead)).take 1020
          let last := decide ((kmsgBytes e.2).length ≤ 1020 * (s.kodp.kslRead + 1))
          let f := leBytes 1 s.kodp.kslRead ++ [if last then 1 else 0] ++ leBytes 2 e.2.reqId ++ part
          Does (.kslReadFrame addr) s (fun t => t.out = .kslFrame (leBytes 2 f.length ++ f ++ leBytes 2 (crc16 (leBytes 2 f.length ++ f))) :: s.out
            ∧ t.kodp.kslTx = (if last then rest else s.kodp.kslTx) ∧ t.kodp.kslRead = (if last then 0 else s.kodp.kslRead + 1) ∧ Frame [.pkg, .kodp, .out] s t)))
  ∧ (∀ frame, s.link.mgmtLink = false ∨ s.bakerUp = false ∨ frame.length < 14 ∨ 1514 < frame.length → Does (.mgmtFrame frame) s (fun t => t = s))
  ∧ (s.link.mgmtLink = true → s.bakerUp = true →
      (∀ frame : List Byte, frame.length < 1515 → 14 ≤ frame.length → frame.take 6 ≠ ourMac → beField frame 0 1 % 2 = 0 → Does (.mgmtFrame frame) s (fun t => t = s))
      ∧ (∀ rest : List Byte, rest.length ≤ 1494 → ∀ mac : List Byte, mac.length = 6 → Does (.mgmtFrame (ourMac ++ mac ++ [0x81, 0x00] ++ rest)) s (fun t =>
          Counts .kDiscardedFrames 1 1 s t ∧ Frame [.ctrs] s t))
      ∧ (∀ (dst mac target : List Byte) (ip : Nat), dst = ourMac ∨ dst = List.replicate 6 0xFF → mac.length = 6 → target.length = 6 → ip < 2 ^ 32 → s.ourV4 < 2 ^ 32 →
          Does (.mgmtFrame (dst ++ mac ++ [0x08, 0x06] ++ beBytes 8 0x0001080006040001 ++ mac ++ beBytes 4 ip ++ target ++ beBytes 4 s.ourV4)) s (fun t =>
            t = { s with out := .ethernet 1 (mac ++ ourMac ++ [0x08, 0x06] ++ beBytes 8 0x0001080006040002 ++ ourMac ++ beBytes 4 s.ourV4 ++ mac ++ beBytes 4 ip) :: s.out }))
      ∧ (∀ mac b : List Byte, mac.length = 6 → 28 ≤ b.length → b.length ≤ 1500 → beField b 0 1 = 0x45 → beField b 2 2 = b.length → inetSum (b.take 20) = 0 →
          beField b 16 4 = s.ourV4 → beField b 6 2 % 0x4000 = 0 → beField b 9 1 = 17 → beField b 24 2 = b.length - 20 → beField b 26 2 = 0 →
          (beField b 22 2 = 47131 → ∀ t,
            exec (.kodpFragment { transport := .udp, addr := beField b 12 4, port := beField b 20 2, session := none } (b.drop 28)) s = .next t →
              exec (.mgmtFrame (ourMac ++ mac ++ [0x08, 0x00] ++ b)) s = .next t)
          ∧ (beField b 22 2 ≠ 47131 → Does (.mgmtFrame (ourMac ++ mac ++ [0x08, 0x00] ++ b)) s (fun t => Counts .kDiscardedFrames 1 1 s t ∧ Frame [.ctrs] s t))))

/-- A step takes the command at the front of the queue and is that command on the rest; no word of the table spells a command. -/
def Obligations.StepRunsFront : Prop :=
  (∀ (c : Instr) (s : State), step { s with pending := c :: s.pending } = exec c s)
  ∧ (∀ (c : Instr) (rest : List Instr) (s : State), s.pending = c :: rest → step s = exec c { s with pending := rest })
  ∧ (∀ nbits w, decodeTableWord nbits w = none) ∧ (∀ (s : State) nbits w, s.withFetchWord nbits w = s)

/-- On an empty queue the clock counts one tick of a microsecond (the model's choice, log 33), after the hardware errors of that tick (log
82) and what Baker starts of what waits: both time islands go on, within 200 ppm; with no clock, or in a debug stop, no error strikes (R64,
R618, R619, R638). -/
def Obligations.EmptyQueueTicks : Prop :=
  (∀ s : State, s.pending = [] → step s = .next (tick (strikes (startQueued 256 s)))
    ∧ (s.kodp.queue = [] → s.timeRuns = false → step s = .next s)
    ∧ (s.kodp.queue = [] → s.timeRuns = true → s.frozen = true → step s = .next (tick s))
    ∧ (s.kodp.queue = [] → s.timeRuns = true → s.frozen = false → step s = .next (tick (settleWaits (forAll (Config.upsets s.free) strike (useFree s)))))
    ∧ (s.bakerUp = true → s.obs.reheat.contains 0 = false → ∀ r m, s.kodp.queue = [(r, m)] → m.type = 10 → m.body = [] →
        step s = .next (tick (strikes (unqueue r (pingReq r s))))))
  ∧ (∀ s : State, s.timeRuns = true → Frame [.time, .ctrs] s (tick s)
      ∧ (∀ d, d ≤ 1 → (-200000 ≤ (s.island d).rateAdj → (s.island d).rateAdj ≤ 200000 →
            (s.island d).counter + 256000 - 51 ≤ ((tick s).island d).counter ∧ ((tick s).island d).counter ≤ (s.island d).counter + 256000 + 51
              ∧ ((tick s).island d).slew.natAbs ≤ (s.island d).slew.natAbs)
          ∧ ((s.island d).slew = 0 → (s.island d).st = .root ∨ (s.island d).rateAdj = 0 → ((tick s).island d).counter = (s.island d).counter + 256000)
          ∧ ((tick s).island d).st = (s.island d).st ∧ ((tick s).island d).rateAdj = (s.island d).rateAdj
          ∧ ((s.island d).st = .holdover → Counts .holdoverNs d 1000 s (tick s))))
  ∧ (∀ s : State, s.timeRuns = false → tick s = s ∧ strikes s = s)

/-- The machine right after reset: nothing waits, nothing is listed in memory, no partner, recipe, session or dump is there, counters read
0 and objects their reset values (R64, R625, R650). -/
def Obligations.ResetHolds : Prop :=
  State.reset.pending = [] ∧ State.reset.MemWf ∧ State.reset.mem.cells = [] ∧ State.reset.part.slots = [] ∧ State.reset.recp.recipes = []
  ∧ State.reset.sec.sessions = [] ∧ State.reset.sec.tenants = [] ∧ State.reset.obs.dumps = [] ∧ State.reset.obs.stop = .running ∧ State.reset.twin.st = .solo
  ∧ State.reset.dir.entries = [] ∧ State.reset.power.grants = [] ∧ State.reset.power.ballast = [] ∧ State.reset.pkg.phase = .strap ∧ State.reset.out = []
  ∧ (∀ c u, State.reset.ctr c u = 0) ∧ (∀ o : Obj, State.reset.obj o = o.info.reset) ∧ (∀ p, State.reset.portUp p = false)
  ∧ (∀ k, (State.reset.coreRec k).run = none ∧ (State.reset.coreRec k).tray = [])

/-- Every step keeps pool memory in its canonical form; what has left the package stays left, a free value once used is not used again, and
only the front of the queue is taken. -/
def Obligations.StepsKeepMemory : Prop :=
  ∀ (s t : State), step s = .next t → (s.MemWf → t.MemWf) ∧ s.out <:+ t.out ∧ s.free ≤ t.free ∧ t.pending = s.pending.tail

/-- Every command answers a next state, and of the parts of the state changes none but those it is about. -/
def Obligations.CommandFrames : Prop := ∀ (c : Instr) (s : State), Does c s (Frame (touches c) s)

/-- Bytes put into pool memory read back, the others as before; the canonical form is kept, and memories that read the same are the same
data. -/
def Obligations.MemoryReadsBack : Prop :=
  ∀ (s : State), s.MemWf →
  (∀ pa bs, (putBytes pa bs s).MemWf ∧ (putBytes pa bs s).readBytes pa bs.length = bs
    ∧ ∀ a, a < pa ∨ pa + bs.length ≤ a → (putBytes pa bs s).readByte a = s.readByte a)
  ∧ (∀ l (bs : List Byte), bs.length = 128 → (putBytes (l * 128) bs s).readLine l = bs ∧ ∀ k, k ≠ l → (putBytes (l * 128) bs s).readLine k = s.readLine k)
  ∧ (∀ t : State, t.MemWf → (∀ a, t.readByte a = s.readByte a) → t.mem.cells = s.mem.cells)

/-- The home of a pool physical address: the cluster is bits 19:16 XOR bits 23:20, the die bit 3 of it, and the cluster-local address the rest;
no two addresses share cluster and cluster-local address, and of each aligned MiB a cluster holds one 64 KiB granule (R38). -/
def Obligations.HomeClusters : Prop :=
  (∀ pa : Nat, pa < 2 ^ 52 → homeCluster pa = Nat.xor (pa / 2 ^ 16 % 16) (pa / 2 ^ 20 % 16) ∧ homeCluster pa < 16
    ∧ homeDie pa = homeCluster pa / 8 % 2 ∧ localAddr pa = Nat.lor ((pa / 2 ^ 20) * 2 ^ 16) (pa % 2 ^ 16))
  ∧ (∀ a b : Nat, homeCluster a = homeCluster b → localAddr a = localAddr b → a = b)
  ∧ (∀ m h : Nat, h < 16 → ∃ g, g < 16 ∧ (∀ x, x < 2 ^ 16 → homeCluster (m * 2 ^ 20 + g * 2 ^ 16 + x) = h)
      ∧ ∀ k x, k < 16 → x < 2 ^ 16 → homeCluster (m * 2 ^ 20 + k * 2 ^ 16 + x) = h → k = g)

/-- INVOKE: at most 16 run at once and a further one waits in the queue; two of one object run together, but one whose first argument field is that
of one still running is refused REFUSED_STATE (R668).  The state without its running operations says what else an operation needs. -/
def Obligations.RunningInvokes : Prop :=
  ∀ (s : State) (o : OpObj) (r : Req) (n : Nat) (arg : List Byte) (run : State → State), o.type = 3 →
  { s with kodp := { s.kodp with running := [] } }.accepts o r n arg = true → (s.kodp.running.all fun x => !(x.req.client == r.client && x.req.id == r.id)) = true →
  s.kodp.queue = [] →
  let same := (firstArg n arg).isSome && s.kodp.running.any (fun x => x.index == o.index && x.sub == o.sub && x.firstArg == firstArg n arg)
  (same = false → s.kodp.running.length < 16 → operate o r arg n Verdict.ok run s = run (begun o r arg n s)
    ∧ (begun o r arg n s).kodp.running = s.kodp.running ++ [runningOf o r arg n] ∧ (begun o r arg n s).kodp.running.length ≤ 16)
  ∧ (same = false → 16 ≤ s.kodp.running.length → (operate o r arg n Verdict.ok run s).kodp.running = s.kodp.running
      ∧ (operate o r arg n Verdict.ok run s).kodp.queue = [(r, mkMsg 3 r.id o.index o.sub .ok arg)])
  ∧ (same = true → Answered o r .refusedState [] (operate o r arg n Verdict.ok run s) ∧ (operate o r arg n Verdict.ok run s).kodp.running = s.kodp.running)
end

