-- ==== Sys2Proof/Laws/Assoc.lean ====
section
/-!
SUPPORT. Laws/Assoc.lean: reading a table after a change of it.
-/
namespace Sys2Proof

variable {K V : Type} [DecidableEq K]

@[simp] theorem aget_aset_same (t : Assoc K V) (k : K) (v : V) : aget (aset t k v) k = some v := by
  induction t with
  | nil => simp [aset, aget]
  | cons e t ih => simp only [aset]; split <;> simp_all [aget]

theorem aget_aset_ne (t : Assoc K V) {k j : K} (v : V) (h : j ≠ k) : aget (aset t k v) j = aget t j := by
  induction t with
  | nil => simp [aset, aget, h.symm]
  | cons e t ih =>
    simp only [aset]
    split
    · rename_i e1; subst e1; simp [aget, h.symm]
    · simp only [aget]; split <;> simp_all

@[simp] theorem agetD_aset_same (t : Assoc K V) (k : K) (v d : V) : agetD (aset t k v) k d = v := by simp [agetD]

theorem agetD_aset_ne (t : Assoc K V) {k j : K} (v d : V) (h : j ≠ k) : agetD (aset t k v) j d = agetD t j d := by
  simp [agetD, aget_aset_ne t v h]

@[simp] theorem agetD_amod_same (t : Assoc K V) (k : K) (d e : V) (f : V → V) : agetD (amod t k d f) k e = f (agetD t k d) := by simp [amod]

theorem agetD_amod_ne (t : Assoc K V) {k j : K} (d e : V) (f : V → V) (h : j ≠ k) : agetD (amod t k d f) j e = agetD t j e := by
  simp [amod, agetD_aset_ne t _ _ h]

@[simp] theorem aget_adel_same (t : Assoc K V) (k : K) : aget (adel t k) k = none := by
  induction t with
  | nil => rfl
  | cons e t ih =>
    by_cases h : e.1 = k
    · simp [adel, h] at ih ⊢; exact ih
    · simp [adel, h, aget] at ih ⊢; exact ih

end Sys2Proof
end

