-- ==== Sys2Proof/Laws/State.lean ====
section
/-!
SUPPORT. Laws/State.lean: what each modifier of a part of the state does to each part, one lemma per part per modifier, so that no proof
unfolds a record update.
-/
namespace Sys2Proof.Machine

variable (s : State)

section
variable (f : PackageState → PackageState)
@[simp] theorem State.onPkg_pkg : (s.onPkg f).pkg = f s.pkg := rfl
@[simp] theorem State.onPkg_link : (s.onPkg f).link = s.link := rfl
@[simp] theorem State.onPkg_txn : (s.onPkg f).txn = s.txn := rfl
@[simp] theorem State.onPkg_part : (s.onPkg f).part = s.part := rfl
@[simp] theorem State.onPkg_dir : (s.onPkg f).dir = s.dir := rfl
@[simp] theorem State.onPkg_mem : (s.onPkg f).mem = s.mem := rfl
@[simp] theorem State.onPkg_dram : (s.onPkg f).dram = s.dram := rfl
@[simp] theorem State.onPkg_deep : (s.onPkg f).deep = s.deep := rfl
@[simp] theorem State.onPkg_integ : (s.onPkg f).integ = s.integ := rfl
@[simp] theorem State.onPkg_recp : (s.onPkg f).recp = s.recp := rfl
@[simp] theorem State.onPkg_core : (s.onPkg f).core = s.core := rfl
@[simp] theorem State.onPkg_twin : (s.onPkg f).twin = s.twin := rfl
@[simp] theorem State.onPkg_traffic : (s.onPkg f).traffic = s.traffic := rfl
@[simp] theorem State.onPkg_power : (s.onPkg f).power = s.power := rfl
@[simp] theorem State.onPkg_sec : (s.onPkg f).sec = s.sec := rfl
@[simp] theorem State.onPkg_boot : (s.onPkg f).boot = s.boot := rfl
@[simp] theorem State.onPkg_fw : (s.onPkg f).fw = s.fw := rfl
@[simp] theorem State.onPkg_obs : (s.onPkg f).obs = s.obs := rfl
@[simp] theorem State.onPkg_kodp : (s.onPkg f).kodp = s.kodp := rfl
@[simp] theorem State.onPkg_ctrs : (s.onPkg f).ctrs = s.ctrs := rfl
@[simp] theorem State.onPkg_free : (s.onPkg f).free = s.free := rfl
@[simp] theorem State.onPkg_out : (s.onPkg f).out = s.out := rfl
@[simp] theorem State.onPkg_pending : (s.onPkg f).pending = s.pending := rfl
end

section
variable (f : LinkState → LinkState)
@[simp] theorem State.onLink_pkg : (s.onLink f).pkg = s.pkg := rfl
@[simp] theorem State.onLink_link : (s.onLink f).link = f s.link := rfl
@[simp] theorem State.onLink_txn : (s.onLink f).txn = s.txn := rfl
@[simp] theorem State.onLink_part : (s.onLink f).part = s.part := rfl
@[simp] theorem State.onLink_dir : (s.onLink f).dir = s.dir := rfl
@[simp] theorem State.onLink_mem : (s.onLink f).mem = s.mem := rfl
@[simp] theorem State.onLink_dram : (s.onLink f).dram = s.dram := rfl
@[simp] theorem State.onLink_deep : (s.onLink f).deep = s.deep := rfl
@[simp] theorem State.onLink_integ : (s.onLink f).integ = s.integ := rfl
@[simp] theorem State.onLink_recp : (s.onLink f).recp = s.recp := rfl
@[simp] theorem State.onLink_core : (s.onLink f).core = s.core := rfl
@[simp] theorem State.onLink_twin : (s.onLink f).twin = s.twin := rfl
@[simp] theorem State.onLink_traffic : (s.onLink f).traffic = s.traffic := rfl
@[simp] theorem State.onLink_power : (s.onLink f).power = s.power := rfl
@[simp] theorem State.onLink_sec : (s.onLink f).sec = s.sec := rfl
@[simp] theorem State.onLink_boot : (s.onLink f).boot = s.boot := rfl
@[simp] theorem State.onLink_fw : (s.onLink f).fw = s.fw := rfl
@[simp] theorem State.onLink_obs : (s.onLink f).obs = s.obs := rfl
@[simp] theorem State.onLink_kodp : (s.onLink f).kodp = s.kodp := rfl
@[simp] theorem State.onLink_ctrs : (s.onLink f).ctrs = s.ctrs := rfl
@[simp] theorem State.onLink_free : (s.onLink f).free = s.free := rfl
@[simp] theorem State.onLink_out : (s.onLink f).out = s.out := rfl
@[simp] theorem State.onLink_pending : (s.onLink f).pending = s.pending := rfl
end

section
variable (f : TxnState → TxnState)
@[simp] theorem State.onTxn_pkg : (s.onTxn f).pkg = s.pkg := rfl
@[simp] theorem State.onTxn_link : (s.onTxn f).link = s.link := rfl
@[simp] theorem State.onTxn_txn : (s.onTxn f).txn = f s.txn := rfl
@[simp] theorem State.onTxn_part : (s.onTxn f).part = s.part := rfl
@[simp] theorem State.onTxn_dir : (s.onTxn f).dir = s.dir := rfl
@[simp] theorem State.onTxn_mem : (s.onTxn f).mem = s.mem := rfl
@[simp] theorem State.onTxn_dram : (s.onTxn f).dram = s.dram := rfl
@[simp] theorem State.onTxn_deep : (s.onTxn f).deep = s.deep := rfl
@[simp] theorem State.onTxn_integ : (s.onTxn f).integ = s.integ := rfl
@[simp] theorem State.onTxn_recp : (s.onTxn f).recp = s.recp := rfl
@[simp] theorem State.onTxn_core : (s.onTxn f).core = s.core := rfl
@[simp] theorem State.onTxn_twin : (s.onTxn f).twin = s.twin := rfl
@[simp] theorem State.onTxn_traffic : (s.onTxn f).traffic = s.traffic := rfl
@[simp] theorem State.onTxn_power : (s.onTxn f).power = s.power := rfl
@[simp] theorem State.onTxn_sec : (s.onTxn f).sec = s.sec := rfl
@[simp] theorem State.onTxn_boot : (s.onTxn f).boot = s.boot := rfl
@[simp] theorem State.onTxn_fw : (s.onTxn f).fw = s.fw := rfl
@[simp] theorem State.onTxn_obs : (s.onTxn f).obs = s.obs := rfl
@[simp] theorem State.onTxn_kodp : (s.onTxn f).kodp = s.kodp := rfl
@[simp] theorem State.onTxn_ctrs : (s.onTxn f).ctrs = s.ctrs := rfl
@[simp] theorem State.onTxn_free : (s.onTxn f).free = s.free := rfl
@[simp] theorem State.onTxn_out : (s.onTxn f).out = s.out := rfl
@[simp] theorem State.onTxn_pending : (s.onTxn f).pending = s.pending := rfl
end

section
variable (f : PartnerState → PartnerState)
@[simp] theorem State.onPart_pkg : (s.onPart f).pkg = s.pkg := rfl
@[simp] theorem State.onPart_link : (s.onPart f).link = s.link := rfl
@[simp] theorem State.onPart_txn : (s.onPart f).txn = s.txn := rfl
@[simp] theorem State.onPart_part : (s.onPart f).part = f s.part := rfl
@[simp] theorem State.onPart_dir : (s.onPart f).dir = s.dir := rfl
@[simp] theorem State.onPart_mem : (s.onPart f).mem = s.mem := rfl
@[simp] theorem State.onPart_dram : (s.onPart f).dram = s.dram := rfl
@[simp] theorem State.onPart_deep : (s.onPart f).deep = s.deep := rfl
@[simp] theorem State.onPart_integ : (s.onPart f).integ = s.integ := rfl
@[simp] theorem State.onPart_recp : (s.onPart f).recp = s.recp := rfl
@[simp] theorem State.onPart_core : (s.onPart f).core = s.core := rfl
@[simp] theorem State.onPart_twin : (s.onPart f).twin = s.twin := rfl
@[simp] theorem State.onPart_traffic : (s.onPart f).traffic = s.traffic := rfl
@[simp] theorem State.onPart_power : (s.onPart f).power = s.power := rfl
@[simp] theorem State.onPart_sec : (s.onPart f).sec = s.sec := rfl
@[simp] theorem State.onPart_boot : (s.onPart f).boot = s.boot := rfl
@[simp] theorem State.onPart_fw : (s.onPart f).fw = s.fw := rfl
@[simp] theorem State.onPart_obs : (s.onPart f).obs = s.obs := rfl
@[simp] theorem State.onPart_kodp : (s.onPart f).kodp = s.kodp := rfl
@[simp] theorem State.onPart_ctrs : (s.onPart f).ctrs = s.ctrs := rfl
@[simp] theorem State.onPart_free : (s.onPart f).free = s.free := rfl
@[simp] theorem State.onPart_out : (s.onPart f).out = s.out := rfl
@[simp] theorem State.onPart_pending : (s.onPart f).pending = s.pending := rfl
end

section
variable (f : DirState → DirState)
@[simp] theorem State.onDir_pkg : (s.onDir f).pkg = s.pkg := rfl
@[simp] theorem State.onDir_link : (s.onDir f).link = s.link := rfl
@[simp] theorem State.onDir_txn : (s.onDir f).txn = s.txn := rfl
@[simp] theorem State.onDir_part : (s.onDir f).part = s.part := rfl
@[simp] theorem State.onDir_dir : (s.onDir f).dir = f s.dir := rfl
@[simp] theorem State.onDir_mem : (s.onDir f).mem = s.mem := rfl
@[simp] theorem State.onDir_dram : (s.onDir f).dram = s.dram := rfl
@[simp] theorem State.onDir_deep : (s.onDir f).deep = s.deep := rfl
@[simp] theorem State.onDir_integ : (s.onDir f).integ = s.integ := rfl
@[simp] theorem State.onDir_recp : (s.onDir f).recp = s.recp := rfl
@[simp] theorem State.onDir_core : (s.onDir f).core = s.core := rfl
@[simp] theorem State.onDir_twin : (s.onDir f).twin = s.twin := rfl
@[simp] theorem State.onDir_traffic : (s.onDir f).traffic = s.traffic := rfl
@[simp] theorem State.onDir_power : (s.onDir f).power = s.power := rfl
@[simp] theorem State.onDir_sec : (s.onDir f).sec = s.sec := rfl
@[simp] theorem State.onDir_boot : (s.onDir f).boot = s.boot := rfl
@[simp] theorem State.onDir_fw : (s.onDir f).fw = s.fw := rfl
@[simp] theorem State.onDir_obs : (s.onDir f).obs = s.obs := rfl
@[simp] theorem State.onDir_kodp : (s.onDir f).kodp = s.kodp := rfl
@[simp] theorem State.onDir_ctrs : (s.onDir f).ctrs = s.ctrs := rfl
@[simp] theorem State.onDir_free : (s.onDir f).free = s.free := rfl
@[simp] theorem State.onDir_out : (s.onDir f).out = s.out := rfl
@[simp] theorem State.onDir_pending : (s.onDir f).pending = s.pending := rfl
end

section
variable (f : MemState → MemState)
@[simp] theorem State.onMem_pkg : (s.onMem f).pkg = s.pkg := rfl
@[simp] theorem State.onMem_link : (s.onMem f).link = s.link := rfl
@[simp] theorem State.onMem_txn : (s.onMem f).txn = s.txn := rfl
@[simp] theorem State.onMem_part : (s.onMem f).part = s.part := rfl
@[simp] theorem State.onMem_dir : (s.onMem f).dir = s.dir := rfl
@[simp] theorem State.onMem_mem : (s.onMem f).mem = f s.mem := rfl
@[simp] theorem State.onMem_dram : (s.onMem f).dram = s.dram := rfl
@[simp] theorem State.onMem_deep : (s.onMem f).deep = s.deep := rfl
@[simp] theorem State.onMem_integ : (s.onMem f).integ = s.integ := rfl
@[simp] theorem State.onMem_recp : (s.onMem f).recp = s.recp := rfl
@[simp] theorem State.onMem_core : (s.onMem f).core = s.core := rfl
@[simp] theorem State.onMem_twin : (s.onMem f).twin = s.twin := rfl
@[simp] theorem State.onMem_traffic : (s.onMem f).traffic = s.traffic := rfl
@[simp] theorem State.onMem_power : (s.onMem f).power = s.power := rfl
@[simp] theorem State.onMem_sec : (s.onMem f).sec = s.sec := rfl
@[simp] theorem State.onMem_boot : (s.onMem f).boot = s.boot := rfl
@[simp] theorem State.onMem_fw : (s.onMem f).fw = s.fw := rfl
@[simp] theorem State.onMem_obs : (s.onMem f).obs = s.obs := rfl
@[simp] theorem State.onMem_kodp : (s.onMem f).kodp = s.kodp := rfl
@[simp] theorem State.onMem_ctrs : (s.onMem f).ctrs = s.ctrs := rfl
@[simp] theorem State.onMem_free : (s.onMem f).free = s.free := rfl
@[simp] theorem State.onMem_out : (s.onMem f).out = s.out := rfl
@[simp] theorem State.onMem_pending : (s.onMem f).pending = s.pending := rfl
end

section
variable (f : DramState → DramState)
@[simp] theorem State.onDram_pkg : (s.onDram f).pkg = s.pkg := rfl
@[simp] theorem State.onDram_link : (s.onDram f).link = s.link := rfl
@[simp] theorem State.onDram_txn : (s.onDram f).txn = s.txn := rfl
@[simp] theorem State.onDram_part : (s.onDram f).part = s.part := rfl
@[simp] theorem State.onDram_dir : (s.onDram f).dir = s.dir := rfl
@[simp] theorem State.onDram_mem : (s.onDram f).mem = s.mem := rfl
@[simp] theorem State.onDram_dram : (s.onDram f).dram = f s.dram := rfl
@[simp] theorem State.onDram_deep : (s.onDram f).deep = s.deep := rfl
@[simp] theorem State.onDram_integ : (s.onDram f).integ = s.integ := rfl
@[simp] theorem State.onDram_recp : (s.onDram f).recp = s.recp := rfl
@[simp] theorem State.onDram_core : (s.onDram f).core = s.core := rfl
@[simp] theorem State.onDram_twin : (s.onDram f).twin = s.twin := rfl
@[simp] theorem State.onDram_traffic : (s.onDram f).traffic = s.traffic := rfl
@[simp] theorem State.onDram_power : (s.onDram f).power = s.power := rfl
@[simp] theorem State.onDram_sec : (s.onDram f).sec = s.sec := rfl
@[simp] theorem State.onDram_boot : (s.onDram f).boot = s.boot := rfl
@[simp] theorem State.onDram_fw : (s.onDram f).fw = s.fw := rfl
@[simp] theorem State.onDram_obs : (s.onDram f).obs = s.obs := rfl
@[simp] theorem State.onDram_kodp : (s.onDram f).kodp = s.kodp := rfl
@[simp] theorem State.onDram_ctrs : (s.onDram f).ctrs = s.ctrs := rfl
@[simp] theorem State.onDram_free : (s.onDram f).free = s.free := rfl
@[simp] theorem State.onDram_out : (s.onDram f).out = s.out := rfl
@[simp] theorem State.onDram_pending : (s.onDram f).pending = s.pending := rfl
end

section
variable (f : DeepState → DeepState)
@[simp] theorem State.onDeep_pkg : (s.onDeep f).pkg = s.pkg := rfl
@[simp] theorem State.onDeep_link : (s.onDeep f).link = s.link := rfl
@[simp] theorem State.onDeep_txn : (s.onDeep f).txn = s.txn := rfl
@[simp] theorem State.onDeep_part : (s.onDeep f).part = s.part := rfl
@[simp] theorem State.onDeep_dir : (s.onDeep f).dir = s.dir := rfl
@[simp] theorem State.onDeep_mem : (s.onDeep f).mem = s.mem := rfl
@[simp] theorem State.onDeep_dram : (s.onDeep f).dram = s.dram := rfl
@[simp] theorem State.onDeep_deep : (s.onDeep f).deep = f s.deep := rfl
@[simp] theorem State.onDeep_integ : (s.onDeep f).integ = s.integ := rfl
@[simp] theorem State.onDeep_recp : (s.onDeep f).recp = s.recp := rfl
@[simp] theorem State.onDeep_core : (s.onDeep f).core = s.core := rfl
@[simp] theorem State.onDeep_twin : (s.onDeep f).twin = s.twin := rfl
@[simp] theorem State.onDeep_traffic : (s.onDeep f).traffic = s.traffic := rfl
@[simp] theorem State.onDeep_power : (s.onDeep f).power = s.power := rfl
@[simp] theorem State.onDeep_sec : (s.onDeep f).sec = s.sec := rfl
@[simp] theorem State.onDeep_boot : (s.onDeep f).boot = s.boot := rfl
@[simp] theorem State.onDeep_fw : (s.onDeep f).fw = s.fw := rfl
@[simp] theorem State.onDeep_obs : (s.onDeep f).obs = s.obs := rfl
@[simp] theorem State.onDeep_kodp : (s.onDeep f).kodp = s.kodp := rfl
@[simp] theorem State.onDeep_ctrs : (s.onDeep f).ctrs = s.ctrs := rfl
@[simp] theorem State.onDeep_free : (s.onDeep f).free = s.free := rfl
@[simp] theorem State.onDeep_out : (s.onDeep f).out = s.out := rfl
@[simp] theorem State.onDeep_pending : (s.onDeep f).pending = s.pending := rfl
end

section
variable (f : IntegState → IntegState)
@[simp] theorem State.onInteg_pkg : (s.onInteg f).pkg = s.pkg := rfl
@[simp] theorem State.onInteg_link : (s.onInteg f).link = s.link := rfl
@[simp] theorem State.onInteg_txn : (s.onInteg f).txn = s.txn := rfl
@[simp] theorem State.onInteg_part : (s.onInteg f).part = s.part := rfl
@[simp] theorem State.onInteg_dir : (s.onInteg f).dir = s.dir := rfl
@[simp] theorem State.onInteg_mem : (s.onInteg f).mem = s.mem := rfl
@[simp] theorem State.onInteg_dram : (s.onInteg f).dram = s.dram := rfl
@[simp] theorem State.onInteg_deep : (s.onInteg f).deep = s.deep := rfl
@[simp] theorem State.onInteg_integ : (s.onInteg f).integ = f s.integ := rfl
@[simp] theorem State.onInteg_recp : (s.onInteg f).recp = s.recp := rfl
@[simp] theorem State.onInteg_core : (s.onInteg f).core = s.core := rfl
@[simp] theorem State.onInteg_twin : (s.onInteg f).twin = s.twin := rfl
@[simp] theorem State.onInteg_traffic : (s.onInteg f).traffic = s.traffic := rfl
@[simp] theorem State.onInteg_power : (s.onInteg f).power = s.power := rfl
@[simp] theorem State.onInteg_sec : (s.onInteg f).sec = s.sec := rfl
@[simp] theorem State.onInteg_boot : (s.onInteg f).boot = s.boot := rfl
@[simp] theorem State.onInteg_fw : (s.onInteg f).fw = s.fw := rfl
@[simp] theorem State.onInteg_obs : (s.onInteg f).obs = s.obs := rfl
@[simp] theorem State.onInteg_kodp : (s.onInteg f).kodp = s.kodp := rfl
@[simp] theorem State.onInteg_ctrs : (s.onInteg f).ctrs = s.ctrs := rfl
@[simp] theorem State.onInteg_free : (s.onInteg f).free = s.free := rfl
@[simp] theorem State.onInteg_out : (s.onInteg f).out = s.out := rfl
@[simp] theorem State.onInteg_pending : (s.onInteg f).pending = s.pending := rfl
end

section
variable (f : RecipeState → RecipeState)
@[simp] theorem State.onRecp_pkg : (s.onRecp f).pkg = s.pkg := rfl
@[simp] theorem State.onRecp_link : (s.onRecp f).link = s.link := rfl
@[simp] theorem State.onRecp_txn : (s.onRecp f).txn = s.txn := rfl
@[simp] theorem State.onRecp_part : (s.onRecp f).part = s.part := rfl
@[simp] theorem State.onRecp_dir : (s.onRecp f).dir = s.dir := rfl
@[simp] theorem State.onRecp_mem : (s.onRecp f).mem = s.mem := rfl
@[simp] theorem State.onRecp_dram : (s.onRecp f).dram = s.dram := rfl
@[simp] theorem State.onRecp_deep : (s.onRecp f).deep = s.deep := rfl
@[simp] theorem State.onRecp_integ : (s.onRecp f).integ = s.integ := rfl
@[simp] theorem State.onRecp_recp : (s.onRecp f).recp = f s.recp := rfl
@[simp] theorem State.onRecp_core : (s.onRecp f).core = s.core := rfl
@[simp] theorem State.onRecp_twin : (s.onRecp f).twin = s.twin := rfl
@[simp] theorem State.onRecp_traffic : (s.onRecp f).traffic = s.traffic := rfl
@[simp] theorem State.onRecp_power : (s.onRecp f).power = s.power := rfl
@[simp] theorem State.onRecp_sec : (s.onRecp f).sec = s.sec := rfl
@[simp] theorem State.onRecp_boot : (s.onRecp f).boot = s.boot := rfl
@[simp] theorem State.onRecp_fw : (s.onRecp f).fw = s.fw := rfl
@[simp] theorem State.onRecp_obs : (s.onRecp f).obs = s.obs := rfl
@[simp] theorem State.onRecp_kodp : (s.onRecp f).kodp = s.kodp := rfl
@[simp] theorem State.onRecp_ctrs : (s.onRecp f).ctrs = s.ctrs := rfl
@[simp] theorem State.onRecp_free : (s.onRecp f).free = s.free := rfl
@[simp] theorem State.onRecp_out : (s.onRecp f).out = s.out := rfl
@[simp] theorem State.onRecp_pending : (s.onRecp f).pending = s.pending := rfl
end

section
variable (f : CoreState → CoreState)
@[simp] theorem State.onCore_pkg : (s.onCore f).pkg = s.pkg := rfl
@[simp] theorem State.onCore_link : (s.onCore f).link = s.link := rfl
@[simp] theorem State.onCore_txn : (s.onCore f).txn = s.txn := rfl
@[simp] theorem State.onCore_part : (s.onCore f).part = s.part := rfl
@[simp] theorem State.onCore_dir : (s.onCore f).dir = s.dir := rfl
@[simp] theorem State.onCore_mem : (s.onCore f).mem = s.mem := rfl
@[simp] theorem State.onCore_dram : (s.onCore f).dram = s.dram := rfl
@[simp] theorem State.onCore_deep : (s.onCore f).deep = s.deep := rfl
@[simp] theorem State.onCore_integ : (s.onCore f).integ = s.integ := rfl
@[simp] theorem State.onCore_recp : (s.onCore f).recp = s.recp := rfl
@[simp] theorem State.onCore_core : (s.onCore f).core = f s.core := rfl
@[simp] theorem State.onCore_twin : (s.onCore f).twin = s.twin := rfl
@[simp] theorem State.onCore_traffic : (s.onCore f).traffic = s.traffic := rfl
@[simp] theorem State.onCore_power : (s.onCore f).power = s.power := rfl
@[simp] theorem State.onCore_sec : (s.onCore f).sec = s.sec := rfl
@[simp] theorem State.onCore_boot : (s.onCore f).boot = s.boot := rfl
@[simp] theorem State.onCore_fw : (s.onCore f).fw = s.fw := rfl
@[simp] theorem State.onCore_obs : (s.onCore f).obs = s.obs := rfl
@[simp] theorem State.onCore_kodp : (s.onCore f).kodp = s.kodp := rfl
@[simp] theorem State.onCore_ctrs : (s.onCore f).ctrs = s.ctrs := rfl
@[simp] theorem State.onCore_free : (s.onCore f).free = s.free := rfl
@[simp] theorem State.onCore_out : (s.onCore f).out = s.out := rfl
@[simp] theorem State.onCore_pending : (s.onCore f).pending = s.pending := rfl
end

section
variable (f : TwinState → TwinState)
@[simp] theorem State.onTwin_pkg : (s.onTwin f).pkg = s.pkg := rfl
@[simp] theorem State.onTwin_link : (s.onTwin f).link = s.link := rfl
@[simp] theorem State.onTwin_txn : (s.onTwin f).txn = s.txn := rfl
@[simp] theorem State.onTwin_part : (s.onTwin f).part = s.part := rfl
@[simp] theorem State.onTwin_dir : (s.onTwin f).dir = s.dir := rfl
@[simp] theorem State.onTwin_mem : (s.onTwin f).mem = s.mem := rfl
@[simp] theorem State.onTwin_dram : (s.onTwin f).dram = s.dram := rfl
@[simp] theorem State.onTwin_deep : (s.onTwin f).deep = s.deep := rfl
@[simp] theorem State.onTwin_integ : (s.onTwin f).integ = s.integ := rfl
@[simp] theorem State.onTwin_recp : (s.onTwin f).recp = s.recp := rfl
@[simp] theorem State.onTwin_core : (s.onTwin f).core = s.core := rfl
@[simp] theorem State.onTwin_twin : (s.onTwin f).twin = f s.twin := rfl
@[simp] theorem State.onTwin_traffic : (s.onTwin f).traffic = s.traffic := rfl
@[simp] theorem State.onTwin_power : (s.onTwin f).power = s.power := rfl
@[simp] theorem State.onTwin_sec : (s.onTwin f).sec = s.sec := rfl
@[simp] theorem State.onTwin_boot : (s.onTwin f).boot = s.boot := rfl
@[simp] theorem State.onTwin_fw : (s.onTwin f).fw = s.fw := rfl
@[simp] theorem State.onTwin_obs : (s.onTwin f).obs = s.obs := rfl
@[simp] theorem State.onTwin_kodp : (s.onTwin f).kodp = s.kodp := rfl
@[simp] theorem State.onTwin_ctrs : (s.onTwin f).ctrs = s.ctrs := rfl
@[simp] theorem State.onTwin_free : (s.onTwin f).free = s.free := rfl
@[simp] theorem State.onTwin_out : (s.onTwin f).out = s.out := rfl
@[simp] theorem State.onTwin_pending : (s.onTwin f).pending = s.pending := rfl
end

section
variable (f : TrafficState → TrafficState)
@[simp] theorem State.onTraffic_pkg : (s.onTraffic f).pkg = s.pkg := rfl
@[simp] theorem State.onTraffic_link : (s.onTraffic f).link = s.link := rfl
@[simp] theorem State.onTraffic_txn : (s.onTraffic f).txn = s.txn := rfl
@[simp] theorem State.onTraffic_part : (s.onTraffic f).part = s.part := rfl
@[simp] theorem State.onTraffic_dir : (s.onTraffic f).dir = s.dir := rfl
@[simp] theorem State.onTraffic_mem : (s.onTraffic f).mem = s.mem := rfl
@[simp] theorem State.onTraffic_dram : (s.onTraffic f).dram = s.dram := rfl
@[simp] theorem State.onTraffic_deep : (s.onTraffic f).deep = s.deep := rfl
@[simp] theorem State.onTraffic_integ : (s.onTraffic f).integ = s.integ := rfl
@[simp] theorem State.onTraffic_recp : (s.onTraffic f).recp = s.recp := rfl
@[simp] theorem State.onTraffic_core : (s.onTraffic f).core = s.core := rfl
@[simp] theorem State.onTraffic_twin : (s.onTraffic f).twin = s.twin := rfl
@[simp] theorem State.onTraffic_traffic : (s.onTraffic f).traffic = f s.traffic := rfl
@[simp] theorem State.onTraffic_power : (s.onTraffic f).power = s.power := rfl
@[simp] theorem State.onTraffic_sec : (s.onTraffic f).sec = s.sec := rfl
@[simp] theorem State.onTraffic_boot : (s.onTraffic f).boot = s.boot := rfl
@[simp] theorem State.onTraffic_fw : (s.onTraffic f).fw = s.fw := rfl
@[simp] theorem State.onTraffic_obs : (s.onTraffic f).obs = s.obs := rfl
@[simp] theorem State.onTraffic_kodp : (s.onTraffic f).kodp = s.kodp := rfl
@[simp] theorem State.onTraffic_ctrs : (s.onTraffic f).ctrs = s.ctrs := rfl
@[simp] theorem State.onTraffic_free : (s.onTraffic f).free = s.free := rfl
@[simp] theorem State.onTraffic_out : (s.onTraffic f).out = s.out := rfl
@[simp] theorem State.onTraffic_pending : (s.onTraffic f).pending = s.pending := rfl
end

section
variable (f : PowerState → PowerState)
@[simp] theorem State.onPower_pkg : (s.onPower f).pkg = s.pkg := rfl
@[simp] theorem State.onPower_link : (s.onPower f).link = s.link := rfl
@[simp] theorem State.onPower_txn : (s.onPower f).txn = s.txn := rfl
@[simp] theorem State.onPower_part : (s.onPower f).part = s.part := rfl
@[simp] theorem State.onPower_dir : (s.onPower f).dir = s.dir := rfl
@[simp] theorem State.onPower_mem : (s.onPower f).mem = s.mem := rfl
@[simp] theorem State.onPower_dram : (s.onPower f).dram = s.dram := rfl
@[simp] theorem State.onPower_deep : (s.onPower f).deep = s.deep := rfl
@[simp] theorem State.onPower_integ : (s.onPower f).integ = s.integ := rfl
@[simp] theorem State.onPower_recp : (s.onPower f).recp = s.recp := rfl
@[simp] theorem State.onPower_core : (s.onPower f).core = s.core := rfl
@[simp] theorem State.onPower_twin : (s.onPower f).twin = s.twin := rfl
@[simp] theorem State.onPower_traffic : (s.onPower f).traffic = s.traffic := rfl
@[simp] theorem State.onPower_power : (s.onPower f).power = f s.power := rfl
@[simp] theorem State.onPower_sec : (s.onPower f).sec = s.sec := rfl
@[simp] theorem State.onPower_boot : (s.onPower f).boot = s.boot := rfl
@[simp] theorem State.onPower_fw : (s.onPower f).fw = s.fw := rfl
@[simp] theorem State.onPower_obs : (s.onPower f).obs = s.obs := rfl
@[simp] theorem State.onPower_kodp : (s.onPower f).kodp = s.kodp := rfl
@[simp] theorem State.onPower_ctrs : (s.onPower f).ctrs = s.ctrs := rfl
@[simp] theorem State.onPower_free : (s.onPower f).free = s.free := rfl
@[simp] theorem State.onPower_out : (s.onPower f).out = s.out := rfl
@[simp] theorem State.onPower_pending : (s.onPower f).pending = s.pending := rfl
end

section
variable (f : SecurityState → SecurityState)
@[simp] theorem State.onSec_pkg : (s.onSec f).pkg = s.pkg := rfl
@[simp] theorem State.onSec_link : (s.onSec f).link = s.link := rfl
@[simp] theorem State.onSec_txn : (s.onSec f).txn = s.txn := rfl
@[simp] theorem State.onSec_part : (s.onSec f).part = s.part := rfl
@[simp] theorem State.onSec_dir : (s.onSec f).dir = s.dir := rfl
@[simp] theorem State.onSec_mem : (s.onSec f).mem = s.mem := rfl
@[simp] theorem State.onSec_dram : (s.onSec f).dram = s.dram := rfl
@[simp] theorem State.onSec_deep : (s.onSec f).deep = s.deep := rfl
@[simp] theorem State.onSec_integ : (s.onSec f).integ = s.integ := rfl
@[simp] theorem State.onSec_recp : (s.onSec f).recp = s.recp := rfl
@[simp] theorem State.onSec_core : (s.onSec f).core = s.core := rfl
@[simp] theorem State.onSec_twin : (s.onSec f).twin = s.twin := rfl
@[simp] theorem State.onSec_traffic : (s.onSec f).traffic = s.traffic := rfl
@[simp] theorem State.onSec_power : (s.onSec f).power = s.power := rfl
@[simp] theorem State.onSec_sec : (s.onSec f).sec = f s.sec := rfl
@[simp] theorem State.onSec_boot : (s.onSec f).boot = s.boot := rfl
@[simp] theorem State.onSec_fw : (s.onSec f).fw = s.fw := rfl
@[simp] theorem State.onSec_obs : (s.onSec f).obs = s.obs := rfl
@[simp] theorem State.onSec_kodp : (s.onSec f).kodp = s.kodp := rfl
@[simp] theorem State.onSec_ctrs : (s.onSec f).ctrs = s.ctrs := rfl
@[simp] theorem State.onSec_free : (s.onSec f).free = s.free := rfl
@[simp] theorem State.onSec_out : (s.onSec f).out = s.out := rfl
@[simp] theorem State.onSec_pending : (s.onSec f).pending = s.pending := rfl
end

section
variable (f : BootState → BootState)
@[simp] theorem State.onBoot_pkg : (s.onBoot f).pkg = s.pkg := rfl
@[simp] theorem State.onBoot_link : (s.onBoot f).link = s.link := rfl
@[simp] theorem State.onBoot_txn : (s.onBoot f).txn = s.txn := rfl
@[simp] theorem State.onBoot_part : (s.onBoot f).part = s.part := rfl
@[simp] theorem State.onBoot_dir : (s.onBoot f).dir = s.dir := rfl
@[simp] theorem State.onBoot_mem : (s.onBoot f).mem = s.mem := rfl
@[simp] theorem State.onBoot_dram : (s.onBoot f).dram = s.dram := rfl
@[simp] theorem State.onBoot_deep : (s.onBoot f).deep = s.deep := rfl
@[simp] theorem State.onBoot_integ : (s.onBoot f).integ = s.integ := rfl
@[simp] theorem State.onBoot_recp : (s.onBoot f).recp = s.recp := rfl
@[simp] theorem State.onBoot_core : (s.onBoot f).core = s.core := rfl
@[simp] theorem State.onBoot_twin : (s.onBoot f).twin = s.twin := rfl
@[simp] theorem State.onBoot_traffic : (s.onBoot f).traffic = s.traffic := rfl
@[simp] theorem State.onBoot_power : (s.onBoot f).power = s.power := rfl
@[simp] theorem State.onBoot_sec : (s.onBoot f).sec = s.sec := rfl
@[simp] theorem State.onBoot_boot : (s.onBoot f).boot = f s.boot := rfl
@[simp] theorem State.onBoot_fw : (s.onBoot f).fw = s.fw := rfl
@[simp] theorem State.onBoot_obs : (s.onBoot f).obs = s.obs := rfl
@[simp] theorem State.onBoot_kodp : (s.onBoot f).kodp = s.kodp := rfl
@[simp] theorem State.onBoot_ctrs : (s.onBoot f).ctrs = s.ctrs := rfl
@[simp] theorem State.onBoot_free : (s.onBoot f).free = s.free := rfl
@[simp] theorem State.onBoot_out : (s.onBoot f).out = s.out := rfl
@[simp] theorem State.onBoot_pending : (s.onBoot f).pending = s.pending := rfl
end

section
variable (f : FirmwareState → FirmwareState)
@[simp] theorem State.onFw_pkg : (s.onFw f).pkg = s.pkg := rfl
@[simp] theorem State.onFw_link : (s.onFw f).link = s.link := rfl
@[simp] theorem State.onFw_txn : (s.onFw f).txn = s.txn := rfl
@[simp] theorem State.onFw_part : (s.onFw f).part = s.part := rfl
@[simp] theorem State.onFw_dir : (s.onFw f).dir = s.dir := rfl
@[simp] theorem State.onFw_mem : (s.onFw f).mem = s.mem := rfl
@[simp] theorem State.onFw_dram : (s.onFw f).dram = s.dram := rfl
@[simp] theorem State.onFw_deep : (s.onFw f).deep = s.deep := rfl
@[simp] theorem State.onFw_integ : (s.onFw f).integ = s.integ := rfl
@[simp] theorem State.onFw_recp : (s.onFw f).recp = s.recp := rfl
@[simp] theorem State.onFw_core : (s.onFw f).core = s.core := rfl
@[simp] theorem State.onFw_twin : (s.onFw f).twin = s.twin := rfl
@[simp] theorem State.onFw_traffic : (s.onFw f).traffic = s.traffic := rfl
@[simp] theorem State.onFw_power : (s.onFw f).power = s.power := rfl
@[simp] theorem State.onFw_sec : (s.onFw f).sec = s.sec := rfl
@[simp] theorem State.onFw_boot : (s.onFw f).boot = s.boot := rfl
@[simp] theorem State.onFw_fw : (s.onFw f).fw = f s.fw := rfl
@[simp] theorem State.onFw_obs : (s.onFw f).obs = s.obs := rfl
@[simp] theorem State.onFw_kodp : (s.onFw f).kodp = s.kodp := rfl
@[simp] theorem State.onFw_ctrs : (s.onFw f).ctrs = s.ctrs := rfl
@[simp] theorem State.onFw_free : (s.onFw f).free = s.free := rfl
@[simp] theorem State.onFw_out : (s.onFw f).out = s.out := rfl
@[simp] theorem State.onFw_pending : (s.onFw f).pending = s.pending := rfl
end

section
variable (f : ObserveState → ObserveState)
@[simp] theorem State.onObs_pkg : (s.onObs f).pkg = s.pkg := rfl
@[simp] theorem State.onObs_link : (s.onObs f).link = s.link := rfl
@[simp] theorem State.onObs_txn : (s.onObs f).txn = s.txn := rfl
@[simp] theorem State.onObs_part : (s.onObs f).part = s.part := rfl
@[simp] theorem State.onObs_dir : (s.onObs f).dir = s.dir := rfl
@[simp] theorem State.onObs_mem : (s.onObs f).mem = s.mem := rfl
@[simp] theorem State.onObs_dram : (s.onObs f).dram = s.dram := rfl
@[simp] theorem State.onObs_deep : (s.onObs f).deep = s.deep := rfl
@[simp] theorem State.onObs_integ : (s.onObs f).integ = s.integ := rfl
@[simp] theorem State.onObs_recp : (s.onObs f).recp = s.recp := rfl
@[simp] theorem State.onObs_core : (s.onObs f).core = s.core := rfl
@[simp] theorem State.onObs_twin : (s.onObs f).twin = s.twin := rfl
@[simp] theorem State.onObs_traffic : (s.onObs f).traffic = s.traffic := rfl
@[simp] theorem State.onObs_power : (s.onObs f).power = s.power := rfl
@[simp] theorem State.onObs_sec : (s.onObs f).sec = s.sec := rfl
@[simp] theorem State.onObs_boot : (s.onObs f).boot = s.boot := rfl
@[simp] theorem State.onObs_fw : (s.onObs f).fw = s.fw := rfl
@[simp] theorem State.onObs_obs : (s.onObs f).obs = f s.obs := rfl
@[simp] theorem State.onObs_kodp : (s.onObs f).kodp = s.kodp := rfl
@[simp] theorem State.onObs_ctrs : (s.onObs f).ctrs = s.ctrs := rfl
@[simp] theorem State.onObs_free : (s.onObs f).free = s.free := rfl
@[simp] theorem State.onObs_out : (s.onObs f).out = s.out := rfl
@[simp] theorem State.onObs_pending : (s.onObs f).pending = s.pending := rfl
end

section
variable (f : KodpState → KodpState)
@[simp] theorem State.onKodp_pkg : (s.onKodp f).pkg = s.pkg := rfl
@[simp] theorem State.onKodp_link : (s.onKodp f).link = s.link := rfl
@[simp] theorem State.onKodp_txn : (s.onKodp f).txn = s.txn := rfl
@[simp] theorem State.onKodp_part : (s.onKodp f).part = s.part := rfl
@[simp] theorem State.onKodp_dir : (s.onKodp f).dir = s.dir := rfl
@[simp] theorem State.onKodp_mem : (s.onKodp f).mem = s.mem := rfl
@[simp] theorem State.onKodp_dram : (s.onKodp f).dram = s.dram := rfl
@[simp] theorem State.onKodp_deep : (s.onKodp f).deep = s.deep := rfl
@[simp] theorem State.onKodp_integ : (s.onKodp f).integ = s.integ := rfl
@[simp] theorem State.onKodp_recp : (s.onKodp f).recp = s.recp := rfl
@[simp] theorem State.onKodp_core : (s.onKodp f).core = s.core := rfl
@[simp] theorem State.onKodp_twin : (s.onKodp f).twin = s.twin := rfl
@[simp] theorem State.onKodp_traffic : (s.onKodp f).traffic = s.traffic := rfl
@[simp] theorem State.onKodp_power : (s.onKodp f).power = s.power := rfl
@[simp] theorem State.onKodp_sec : (s.onKodp f).sec = s.sec := rfl
@[simp] theorem State.onKodp_boot : (s.onKodp f).boot = s.boot := rfl
@[simp] theorem State.onKodp_fw : (s.onKodp f).fw = s.fw := rfl
@[simp] theorem State.onKodp_obs : (s.onKodp f).obs = s.obs := rfl
@[simp] theorem State.onKodp_kodp : (s.onKodp f).kodp = f s.kodp := rfl
@[simp] theorem State.onKodp_ctrs : (s.onKodp f).ctrs = s.ctrs := rfl
@[simp] theorem State.onKodp_free : (s.onKodp f).free = s.free := rfl
@[simp] theorem State.onKodp_out : (s.onKodp f).out = s.out := rfl
@[simp] theorem State.onKodp_pending : (s.onKodp f).pending = s.pending := rfl
end

section
variable (f : Assoc (Ctr × Nat) Nat → Assoc (Ctr × Nat) Nat)
@[simp] theorem State.onCtrs_pkg : (s.onCtrs f).pkg = s.pkg := rfl
@[simp] theorem State.onCtrs_link : (s.onCtrs f).link = s.link := rfl
@[simp] theorem State.onCtrs_txn : (s.onCtrs f).txn = s.txn := rfl
@[simp] theorem State.onCtrs_part : (s.onCtrs f).part = s.part := rfl
@[simp] theorem State.onCtrs_dir : (s.onCtrs f).dir = s.dir := rfl
@[simp] theorem State.onCtrs_mem : (s.onCtrs f).mem = s.mem := rfl
@[simp] theorem State.onCtrs_dram : (s.onCtrs f).dram = s.dram := rfl
@[simp] theorem State.onCtrs_deep : (s.onCtrs f).deep = s.deep := rfl
@[simp] theorem State.onCtrs_integ : (s.onCtrs f).integ = s.integ := rfl
@[simp] theorem State.onCtrs_recp : (s.onCtrs f).recp = s.recp := rfl
@[simp] theorem State.onCtrs_core : (s.onCtrs f).core = s.core := rfl
@[simp] theorem State.onCtrs_twin : (s.onCtrs f).twin = s.twin := rfl
@[simp] theorem State.onCtrs_traffic : (s.onCtrs f).traffic = s.traffic := rfl
@[simp] theorem State.onCtrs_power : (s.onCtrs f).power = s.power := rfl
@[simp] theorem State.onCtrs_sec : (s.onCtrs f).sec = s.sec := rfl
@[simp] theorem State.onCtrs_boot : (s.onCtrs f).boot = s.boot := rfl
@[simp] theorem State.onCtrs_fw : (s.onCtrs f).fw = s.fw := rfl
@[simp] theorem State.onCtrs_obs : (s.onCtrs f).obs = s.obs := rfl
@[simp] theorem State.onCtrs_kodp : (s.onCtrs f).kodp = s.kodp := rfl
@[simp] theorem State.onCtrs_ctrs : (s.onCtrs f).ctrs = f s.ctrs := rfl
@[simp] theorem State.onCtrs_free : (s.onCtrs f).free = s.free := rfl
@[simp] theorem State.onCtrs_out : (s.onCtrs f).out = s.out := rfl
@[simp] theorem State.onCtrs_pending : (s.onCtrs f).pending = s.pending := rfl
end

@[simp] theorem useFree_pkg : (useFree s).pkg = s.pkg := rfl
@[simp] theorem useFree_link : (useFree s).link = s.link := rfl
@[simp] theorem useFree_txn : (useFree s).txn = s.txn := rfl
@[simp] theorem useFree_part : (useFree s).part = s.part := rfl
@[simp] theorem useFree_dir : (useFree s).dir = s.dir := rfl
@[simp] theorem useFree_mem : (useFree s).mem = s.mem := rfl
@[simp] theorem useFree_dram : (useFree s).dram = s.dram := rfl
@[simp] theorem useFree_deep : (useFree s).deep = s.deep := rfl
@[simp] theorem useFree_integ : (useFree s).integ = s.integ := rfl
@[simp] theorem useFree_recp : (useFree s).recp = s.recp := rfl
@[simp] theorem useFree_core : (useFree s).core = s.core := rfl
@[simp] theorem useFree_twin : (useFree s).twin = s.twin := rfl
@[simp] theorem useFree_traffic : (useFree s).traffic = s.traffic := rfl
@[simp] theorem useFree_power : (useFree s).power = s.power := rfl
@[simp] theorem useFree_sec : (useFree s).sec = s.sec := rfl
@[simp] theorem useFree_boot : (useFree s).boot = s.boot := rfl
@[simp] theorem useFree_fw : (useFree s).fw = s.fw := rfl
@[simp] theorem useFree_obs : (useFree s).obs = s.obs := rfl
@[simp] theorem useFree_kodp : (useFree s).kodp = s.kodp := rfl
@[simp] theorem useFree_ctrs : (useFree s).ctrs = s.ctrs := rfl
@[simp] theorem useFree_free : (useFree s).free = s.free + 1 := rfl
@[simp] theorem useFree_out : (useFree s).out = s.out := rfl
@[simp] theorem useFree_pending : (useFree s).pending = s.pending := rfl

@[simp] theorem emit_pkg (x : Out) : (emit x s).pkg = s.pkg := rfl
@[simp] theorem emit_link (x : Out) : (emit x s).link = s.link := rfl
@[simp] theorem emit_txn (x : Out) : (emit x s).txn = s.txn := rfl
@[simp] theorem emit_part (x : Out) : (emit x s).part = s.part := rfl
@[simp] theorem emit_dir (x : Out) : (emit x s).dir = s.dir := rfl
@[simp] theorem emit_mem (x : Out) : (emit x s).mem = s.mem := rfl
@[simp] theorem emit_dram (x : Out) : (emit x s).dram = s.dram := rfl
@[simp] theorem emit_deep (x : Out) : (emit x s).deep = s.deep := rfl
@[simp] theorem emit_integ (x : Out) : (emit x s).integ = s.integ := rfl
@[simp] theorem emit_recp (x : Out) : (emit x s).recp = s.recp := rfl
@[simp] theorem emit_core (x : Out) : (emit x s).core = s.core := rfl
@[simp] theorem emit_twin (x : Out) : (emit x s).twin = s.twin := rfl
@[simp] theorem emit_traffic (x : Out) : (emit x s).traffic = s.traffic := rfl
@[simp] theorem emit_power (x : Out) : (emit x s).power = s.power := rfl
@[simp] theorem emit_sec (x : Out) : (emit x s).sec = s.sec := rfl
@[simp] theorem emit_boot (x : Out) : (emit x s).boot = s.boot := rfl
@[simp] theorem emit_fw (x : Out) : (emit x s).fw = s.fw := rfl
@[simp] theorem emit_obs (x : Out) : (emit x s).obs = s.obs := rfl
@[simp] theorem emit_kodp (x : Out) : (emit x s).kodp = s.kodp := rfl
@[simp] theorem emit_ctrs (x : Out) : (emit x s).ctrs = s.ctrs := rfl
@[simp] theorem emit_free (x : Out) : (emit x s).free = s.free := rfl
@[simp] theorem emit_out (x : Out) : (emit x s).out = x :: s.out := rfl
@[simp] theorem emit_pending (x : Out) : (emit x s).pending = s.pending := rfl

@[simp] theorem bumpBy_pkg (c : Ctr) (u n : Nat) : (bumpBy c u n s).pkg = s.pkg := rfl
@[simp] theorem bumpBy_link (c : Ctr) (u n : Nat) : (bumpBy c u n s).link = s.link := rfl
@[simp] theorem bumpBy_txn (c : Ctr) (u n : Nat) : (bumpBy c u n s).txn = s.txn := rfl
@[simp] theorem bumpBy_part (c : Ctr) (u n : Nat) : (bumpBy c u n s).part = s.part := rfl
@[simp] theorem bumpBy_dir (c : Ctr) (u n : Nat) : (bumpBy c u n s).dir = s.dir := rfl
@[simp] theorem bumpBy_mem (c : Ctr) (u n : Nat) : (bumpBy c u n s).mem = s.mem := rfl
@[simp] theorem bumpBy_dram (c : Ctr) (u n : Nat) : (bumpBy c u n s).dram = s.dram := rfl
@[simp] theorem bumpBy_deep (c : Ctr) (u n : Nat) : (bumpBy c u n s).deep = s.deep := rfl
@[simp] theorem bumpBy_integ (c : Ctr) (u n : Nat) : (bumpBy c u n s).integ = s.integ := rfl
@[simp] theorem bumpBy_recp (c : Ctr) (u n : Nat) : (bumpBy c u n s).recp = s.recp := rfl
@[simp] theorem bumpBy_core (c : Ctr) (u n : Nat) : (bumpBy c u n s).core = s.core := rfl
@[simp] theorem bumpBy_twin (c : Ctr) (u n : Nat) : (bumpBy c u n s).twin = s.twin := rfl
@[simp] theorem bumpBy_traffic (c : Ctr) (u n : Nat) : (bumpBy c u n s).traffic = s.traffic := rfl
@[simp] theorem bumpBy_power (c : Ctr) (u n : Nat) : (bumpBy c u n s).power = s.power := rfl
@[simp] theorem bumpBy_sec (c : Ctr) (u n : Nat) : (bumpBy c u n s).sec = s.sec := rfl
@[simp] theorem bumpBy_boot (c : Ctr) (u n : Nat) : (bumpBy c u n s).boot = s.boot := rfl
@[simp] theorem bumpBy_fw (c : Ctr) (u n : Nat) : (bumpBy c u n s).fw = s.fw := rfl
@[simp] theorem bumpBy_obs (c : Ctr) (u n : Nat) : (bumpBy c u n s).obs = s.obs := rfl
@[simp] theorem bumpBy_kodp (c : Ctr) (u n : Nat) : (bumpBy c u n s).kodp = s.kodp := rfl
@[simp] theorem bumpBy_ctrs (c : Ctr) (u n : Nat) : (bumpBy c u n s).ctrs = aset s.ctrs (c, u) (ctrAdd c (agetD s.ctrs (c, u) 0) n) := rfl
@[simp] theorem bumpBy_free (c : Ctr) (u n : Nat) : (bumpBy c u n s).free = s.free := rfl
@[simp] theorem bumpBy_out (c : Ctr) (u n : Nat) : (bumpBy c u n s).out = s.out := rfl
@[simp] theorem bumpBy_pending (c : Ctr) (u n : Nat) : (bumpBy c u n s).pending = s.pending := rfl

@[simp] theorem bump_pkg (c : Ctr) (u : Nat) : (bump c u s).pkg = s.pkg := rfl
@[simp] theorem bump_link (c : Ctr) (u : Nat) : (bump c u s).link = s.link := rfl
@[simp] theorem bump_txn (c : Ctr) (u : Nat) : (bump c u s).txn = s.txn := rfl
@[simp] theorem bump_part (c : Ctr) (u : Nat) : (bump c u s).part = s.part := rfl
@[simp] theorem bump_dir (c : Ctr) (u : Nat) : (bump c u s).dir = s.dir := rfl
@[simp] theorem bump_mem (c : Ctr) (u : Nat) : (bump c u s).mem = s.mem := rfl
@[simp] theorem bump_dram (c : Ctr) (u : Nat) : (bump c u s).dram = s.dram := rfl
@[simp] theorem bump_deep (c : Ctr) (u : Nat) : (bump c u s).deep = s.deep := rfl
@[simp] theorem bump_integ (c : Ctr) (u : Nat) : (bump c u s).integ = s.integ := rfl
@[simp] theorem bump_recp (c : Ctr) (u : Nat) : (bump c u s).recp = s.recp := rfl
@[simp] theorem bump_core (c : Ctr) (u : Nat) : (bump c u s).core = s.core := rfl
@[simp] theorem bump_twin (c : Ctr) (u : Nat) : (bump c u s).twin = s.twin := rfl
@[simp] theorem bump_traffic (c : Ctr) (u : Nat) : (bump c u s).traffic = s.traffic := rfl
@[simp] theorem bump_power (c : Ctr) (u : Nat) : (bump c u s).power = s.power := rfl
@[simp] theorem bump_sec (c : Ctr) (u : Nat) : (bump c u s).sec = s.sec := rfl
@[simp] theorem bump_boot (c : Ctr) (u : Nat) : (bump c u s).boot = s.boot := rfl
@[simp] theorem bump_fw (c : Ctr) (u : Nat) : (bump c u s).fw = s.fw := rfl
@[simp] theorem bump_obs (c : Ctr) (u : Nat) : (bump c u s).obs = s.obs := rfl
@[simp] theorem bump_kodp (c : Ctr) (u : Nat) : (bump c u s).kodp = s.kodp := rfl
@[simp] theorem bump_ctrs (c : Ctr) (u : Nat) : (bump c u s).ctrs = aset s.ctrs (c, u) (ctrAdd c (agetD s.ctrs (c, u) 0) 1) := rfl
@[simp] theorem bump_free (c : Ctr) (u : Nat) : (bump c u s).free = s.free := rfl
@[simp] theorem bump_out (c : Ctr) (u : Nat) : (bump c u s).out = s.out := rfl
@[simp] theorem bump_pending (c : Ctr) (u : Nat) : (bump c u s).pending = s.pending := rfl

end Sys2Proof.Machine
end

