-- ==== Sys2Proof/Laws/Frame.lean ====
section
/-!
SUPPORT. Laws/Frame.lean: the relation `Frame` between the states before and after: it is reflexive and transitive, a change of a part
of the state keeps it, and so do the operations that take a continuation that does.
-/
namespace Sys2Proof.Machine

/-- Every part of the first list is in the second. -/
def within (a b : List Part) : Bool := a.all (fun p => b.contains p)

theorem within_trans {a b c : List Part} (h : within a b = true) (k : within b c = true) : within a c = true := by
  simp only [within, List.all_eq_true] at *
  intro x hx
  have := h x hx
  simp at this
  exact k x this

theorem not_within {a b : List Part} {p : Part} (h : within a b = true) (n : b.contains p = false) : a.contains p = false := by
  simp only [within, List.all_eq_true] at h
  cases e : a.contains p
  · rfl
  · rw [List.contains_iff_mem] at e
    rw [h p e] at n
    cases n

/-- What is left of the parts outside a list is left of those outside a longer one. -/
theorem rest_of {a P : List Part} {s t : State} (hp : within a P = true) (h : ∀ p, a.contains p = false → p.same s t) :
    ∀ p, P.contains p = false → p.same s t := fun p n => h p (not_within hp n)

theorem Part.same_refl (s : State) (p : Part) : p.same s s := by cases p <;> rfl
theorem Part.same_trans {a b c : State} {p : Part} (h : p.same a b) (k : p.same b c) : p.same a c := by
  cases p <;> exact Eq.trans k h

theorem Frame.refl (P : List Part) (s : State) : Frame P s s := ⟨rfl, List.suffix_rfl, Nat.le_refl _, id, fun p _ => p.same_refl s⟩

theorem Frame.trans {P : List Part} {a b c : State} (h : Frame P a b) (k : Frame P b c) : Frame P a c :=
  ⟨k.pending.trans h.pending, h.out.trans k.out, Nat.le_trans h.free k.free, fun w => k.mem (h.mem w), fun p n => Part.same_trans (h.rest p n) (k.rest p n)⟩

/-- A frame over fewer parts is one over more. -/
theorem Frame.mono {A P : List Part} {s t : State} (h : Frame A s t) (hp : within A P = true) : Frame P s t :=
  ⟨h.pending, h.out, h.free, h.mem, rest_of hp h.rest⟩

/-- A state that agrees on what `Frame` speaks of. -/
theorem frame_same {P : List Part} {s0 s t : State} (h : Frame P s0 s) (p : t.pending = s.pending) (o : t.out = s.out) (f : t.free = s.free)
    (m : t.mem.cells = s.mem.cells) (r : ∀ p, P.contains p = false → p.same s t) : Frame P s0 t :=
  h.trans ⟨p, o ▸ List.suffix_rfl, Nat.le_of_eq f.symm, fun w => by unfold State.MemWf at *; rw [m]; exact w, r⟩

/-- What a command answers, if it answers a next state. -/
def FrameO (P : List Part) (s0 : State) (o : Host.Outcome State Fault Refusal) : Prop := ∀ t, o = .next t → Frame P s0 t

theorem frameO_next {P : List Part} {s0 t : State} (h : Frame P s0 t) : FrameO P s0 (.next t) := by intro u e; cases e; exact h

theorem frame_ite {P : List Part} {s0 a b : State} {c : Prop} [Decidable c] (ha : Frame P s0 a) (hb : Frame P s0 b) : Frame P s0 (if c then a else b) := by
  split <;> assumption
theorem frameO_ite {P : List Part} {s0 : State} {a b : Host.Outcome State Fault Refusal} {c : Prop} [Decidable c] (ha : FrameO P s0 a) (hb : FrameO P s0 b) :
    FrameO P s0 (if c then a else b) := by split <;> assumption

/-- The state of a state and what comes with it. -/
def FrameP {α : Type} (P : List Part) (s0 : State) (x : State × α) : Prop := Frame P s0 x.1

theorem FrameP.fst {α : Type} {P : List Part} {s0 : State} {x : State × α} (h : FrameP P s0 x) : Frame P s0 x.1 := h
theorem frame_mk {α : Type} {P : List Part} {s0 t : State} {b : α} (h : Frame P s0 t) : FrameP P s0 (t, b) := h
theorem frame_of_mk {α : Type} {P : List Part} {s0 t : State} {b : α} (h : FrameP P s0 (t, b)) : Frame P s0 t := h
theorem frame_of_fst {α : Type} {P : List Part} {s0 t : State} {p : State × α} {b : α} (e : p = (t, b)) (h : FrameP P s0 p) : Frame P s0 t := by
  rw [e] at h; exact h

theorem frame_ite1 {α : Type} {P : List Part} {s0 : State} {a b : State × α} {c : Prop} [Decidable c] (ha : FrameP P s0 a) (hb : FrameP P s0 b) :
    FrameP P s0 (if c then a else b) := by split <;> assumption



variable {P : List Part} {s0 s : State}

theorem frame_onlyIf {c : Bool} {f : State → State} (hf : ∀ t, Frame P s0 t → Frame P s0 (f t)) (h : Frame P s0 s) : Frame P s0 (onlyIf c f s) := by
  unfold onlyIf; split
  · exact hf s h
  · exact h

theorem frame_forAll {α : Type} {l : List α} {f : α → State → State} (hf : ∀ a t, Frame P s0 t → Frame P s0 (f a t)) (h : Frame P s0 s) :
    Frame P s0 (forAll l f s) := by
  unfold forAll
  induction l generalizing s with
  | nil => exact h
  | cons a l ih => exact ih (hf a s h)

theorem frame_id (h : Frame P s0 s) : Frame P s0 (id s) := h

theorem frame_foldl {α : Type} {l : List α} {f : State → α → State} (hf : ∀ a t, Frame P s0 t → Frame P s0 (f t a)) (h : Frame P s0 s) :
    Frame P s0 (l.foldl f s) := by
  induction l generalizing s with
  | nil => exact h
  | cons a l ih => exact ih (hf a s h)

theorem frame_foldlP {α β : Type} {l : List α} {f : State × β → α → State × β} {x : State × β} (hf : ∀ a y, FrameP P s0 y → FrameP P s0 (f y a))
    (h : FrameP P s0 x) : FrameP P s0 (l.foldl f x) := by
  induction l generalizing x with
  | nil => exact h
  | cons a l ih => exact ih (hf a x h)

/-! ### Parts of the state -/

theorem frame_onPkg {f : PackageState → PackageState} (hp : within [.pkg] P = true) (h : Frame P s0 s) : Frame P s0 (s.onPkg f) :=
  frame_same h rfl rfl rfl rfl (rest_of hp (by intro q hq; cases q <;> first | rfl | cases hq))
theorem frame_onLink {f : LinkState → LinkState} (hp : within [.link] P = true) (h : Frame P s0 s) : Frame P s0 (s.onLink f) :=
  frame_same h rfl rfl rfl rfl (rest_of hp (by intro q hq; cases q <;> first | rfl | cases hq))
theorem frame_onTxn (A : List Part) {f : TxnState → TxnState} (hp : within A P = true) (h0 : A.contains .ledger = true ∨ (∀ k, ((f k).ledger, (f k).pins, (f k).nextTag) = (k.ledger, k.pins, k.nextTag))) (h1 : A.contains .txn = true ∨ (∀ k, (f k).rest = k.rest)) (h : Frame P s0 s) : Frame P s0 (s.onTxn f) := by
  refine frame_same h rfl rfl rfl rfl (rest_of hp (fun q hq => ?_))
  cases q <;> first
    | rfl
    | exact (h0.resolve_left (by rw [hq]; exact Bool.false_ne_true)) _
    | exact (h1.resolve_left (by rw [hq]; exact Bool.false_ne_true)) _

theorem frame_onPart {f : PartnerState → PartnerState} (hp : within [.part] P = true) (h : Frame P s0 s) : Frame P s0 (s.onPart f) :=
  frame_same h rfl rfl rfl rfl (rest_of hp (by intro q hq; cases q <;> first | rfl | cases hq))
theorem frame_onDir {f : DirState → DirState} (hp : within [.dir] P = true) (h : Frame P s0 s) : Frame P s0 (s.onDir f) :=
  frame_same h rfl rfl rfl rfl (rest_of hp (by intro q hq; cases q <;> first | rfl | cases hq))
theorem frame_onDram {f : DramState → DramState} (hp : within [.dram] P = true) (h : Frame P s0 s) : Frame P s0 (s.onDram f) :=
  frame_same h rfl rfl rfl rfl (rest_of hp (by intro q hq; cases q <;> first | rfl | cases hq))
theorem frame_onDeep {f : DeepState → DeepState} (hp : within [.deep] P = true) (h : Frame P s0 s) : Frame P s0 (s.onDeep f) :=
  frame_same h rfl rfl rfl rfl (rest_of hp (by intro q hq; cases q <;> first | rfl | cases hq))
theorem frame_onInteg {f : IntegState → IntegState} (hp : within [.integ] P = true) (h : Frame P s0 s) : Frame P s0 (s.onInteg f) :=
  frame_same h rfl rfl rfl rfl (rest_of hp (by intro q hq; cases q <;> first | rfl | cases hq))
theorem frame_onRecp {f : RecipeState → RecipeState} (hp : within [.recp] P = true) (h : Frame P s0 s) : Frame P s0 (s.onRecp f) :=
  frame_same h rfl rfl rfl rfl (rest_of hp (by intro q hq; cases q <;> first | rfl | cases hq))
theorem frame_onCore {f : CoreState → CoreState} (hp : within [.core] P = true) (h : Frame P s0 s) : Frame P s0 (s.onCore f) :=
  frame_same h rfl rfl rfl rfl (rest_of hp (by intro q hq; cases q <;> first | rfl | cases hq))
theorem frame_onTwin (A : List Part) {f : TwinState → TwinState} (hp : within A P = true) (h0 : A.contains .mirror = true ∨ (∀ k, ((f k).mseq0, (f k).mseq1, (f k).unacked, (f k).divergence, (f k).written) = (k.mseq0, k.mseq1, k.unacked, k.divergence, k.written))) (h1 : A.contains .twin = true ∨ (∀ k, (f k).rest = k.rest)) (h : Frame P s0 s) : Frame P s0 (s.onTwin f) := by
  refine frame_same h rfl rfl rfl rfl (rest_of hp (fun q hq => ?_))
  cases q <;> first
    | rfl
    | exact (h0.resolve_left (by rw [hq]; exact Bool.false_ne_true)) _
    | exact (h1.resolve_left (by rw [hq]; exact Bool.false_ne_true)) _

theorem frame_onTraffic (A : List Part) {f : TrafficState → TrafficState} (hp : within A P = true) (h0 : A.contains .leaves = true ∨ (∀ k, (f k).leaves = k.leaves)) (h1 : A.contains .traffic = true ∨ (∀ k, (f k).rest = k.rest)) (h : Frame P s0 s) : Frame P s0 (s.onTraffic f) := by
  refine frame_same h rfl rfl rfl rfl (rest_of hp (fun q hq => ?_))
  cases q <;> first
    | rfl
    | exact (h0.resolve_left (by rw [hq]; exact Bool.false_ne_true)) _
    | exact (h1.resolve_left (by rw [hq]; exact Bool.false_ne_true)) _

theorem frame_onPower {f : PowerState → PowerState} (hp : within [.power] P = true) (h : Frame P s0 s) : Frame P s0 (s.onPower f) :=
  frame_same h rfl rfl rfl rfl (rest_of hp (by intro q hq; cases q <;> first | rfl | cases hq))
theorem frame_onSec (A : List Part) {f : SecurityState → SecurityState} (hp : within A P = true) (h0 : A.contains .sessions = true ∨ (∀ k, (f k).sessions = k.sessions)) (h1 : A.contains .sec = true ∨ (∀ k, (f k).rest = k.rest)) (h : Frame P s0 s) : Frame P s0 (s.onSec f) := by
  refine frame_same h rfl rfl rfl rfl (rest_of hp (fun q hq => ?_))
  cases q <;> first
    | rfl
    | exact (h0.resolve_left (by rw [hq]; exact Bool.false_ne_true)) _
    | exact (h1.resolve_left (by rw [hq]; exact Bool.false_ne_true)) _

theorem frame_onBoot (A : List Part) {f : BootState → BootState} (hp : within A P = true) (h0 : A.contains .units = true ∨ (∀ k, (f k).units = k.units)) (h1 : A.contains .partials = true ∨ (∀ k, (f k).partials = k.partials)) (h2 : A.contains .boot = true ∨ (∀ k, (f k).rest = k.rest)) (h : Frame P s0 s) : Frame P s0 (s.onBoot f) := by
  refine frame_same h rfl rfl rfl rfl (rest_of hp (fun q hq => ?_))
  cases q <;> first
    | rfl
    | exact (h0.resolve_left (by rw [hq]; exact Bool.false_ne_true)) _
    | exact (h1.resolve_left (by rw [hq]; exact Bool.false_ne_true)) _
    | exact (h2.resolve_left (by rw [hq]; exact Bool.false_ne_true)) _

theorem frame_onFw {f : FirmwareState → FirmwareState} (hp : within [.fw] P = true) (h : Frame P s0 s) : Frame P s0 (s.onFw f) :=
  frame_same h rfl rfl rfl rfl (rest_of hp (by intro q hq; cases q <;> first | rfl | cases hq))
theorem frame_onObs (A : List Part) {f : ObserveState → ObserveState} (hp : within A P = true) (h0 : A.contains .time = true ∨ (∀ k, ((f k).time0, (f k).time1) = (k.time0, k.time1))) (h1 : A.contains .rings = true ∨ (∀ k, ((f k).rings, (f k).waiting, (f k).expiredAt) = (k.rings, k.waiting, k.expiredAt))) (h2 : A.contains .obs = true ∨ (∀ k, (f k).rest = k.rest)) (h : Frame P s0 s) : Frame P s0 (s.onObs f) := by
  refine frame_same h rfl rfl rfl rfl (rest_of hp (fun q hq => ?_))
  cases q <;> first
    | rfl
    | exact (h0.resolve_left (by rw [hq]; exact Bool.false_ne_true)) _
    | exact (h1.resolve_left (by rw [hq]; exact Bool.false_ne_true)) _
    | exact (h2.resolve_left (by rw [hq]; exact Bool.false_ne_true)) _

theorem frame_onKodp (A : List Part) {f : KodpState → KodpState} (hp : within A P = true) (h0 : A.contains .running = true ∨ (∀ k, (f k).running = k.running)) (h1 : A.contains .dict = true ∨ (∀ k, ((f k).objs, (f k).tables, (f k).tableGen, (f k).tableSeen, (f k).settingsA, (f k).settingsB) = (k.objs, k.tables, k.tableGen, k.tableSeen, k.settingsA, k.settingsB))) (h2 : A.contains .kodp = true ∨ (∀ k, (f k).rest = k.rest)) (h : Frame P s0 s) : Frame P s0 (s.onKodp f) := by
  refine frame_same h rfl rfl rfl rfl (rest_of hp (fun q hq => ?_))
  cases q <;> first
    | rfl
    | exact (h0.resolve_left (by rw [hq]; exact Bool.false_ne_true)) _
    | exact (h1.resolve_left (by rw [hq]; exact Bool.false_ne_true)) _
    | exact (h2.resolve_left (by rw [hq]; exact Bool.false_ne_true)) _

theorem frame_onCtrs {f : Assoc (Ctr × Nat) Nat → Assoc (Ctr × Nat) Nat} (hp : within [.ctrs] P = true) (h : Frame P s0 s) : Frame P s0 (s.onCtrs f) :=
  frame_same h rfl rfl rfl rfl (rest_of hp (by intro q hq; cases q <;> first | rfl | cases hq))
theorem frame_onMem {f : MemState → MemState} (hp : within [.mem] P = true) (hf : ∀ m, Memory.wf m.cells = true → Memory.wf (f m).cells = true)
    (h : Frame P s0 s) : Frame P s0 (s.onMem f) :=
  h.trans ⟨rfl, List.suffix_rfl, Nat.le_refl _, fun w => hf _ w, rest_of hp (by intro q hq; cases q <;> first | rfl | cases hq)⟩

theorem frame_useFree (hp : within [.free] P = true) (h : Frame P s0 s) : Frame P s0 (useFree s) :=
  h.trans ⟨rfl, List.suffix_rfl, Nat.le_succ _, id, rest_of hp (by intro q hq; cases q <;> first | rfl | cases hq)⟩
theorem frame_useFrees {n : Nat} (hp : within [.free] P = true) (h : Frame P s0 s) : Frame P s0 (useFrees n s) :=
  h.trans ⟨rfl, List.suffix_rfl, Nat.le_add_right _ _, id, rest_of hp (by intro q hq; cases q <;> first | rfl | cases hq)⟩
theorem frame_emit {x : Out} (hp : within [.out] P = true) (h : Frame P s0 s) : Frame P s0 (emit x s) :=
  h.trans ⟨rfl, List.suffix_cons x _, Nat.le_refl _, id, rest_of hp (by intro q hq; cases q <;> first | rfl | cases hq)⟩
theorem frame_bumpBy {c : Ctr} {u n : Nat} (hp : within [.ctrs] P = true) (h : Frame P s0 s) : Frame P s0 (bumpBy c u n s) := frame_onCtrs hp h
theorem frame_bump {c : Ctr} {u : Nat} (hp : within [.ctrs] P = true) (h : Frame P s0 s) : Frame P s0 (bump c u s) := frame_bumpBy (n := 1) hp h
theorem frame_setMeta {l : Nat} {f : LineMeta → LineMeta} (hp : within [.mem] P = true) (h : Frame P s0 s) : Frame P s0 (setMeta l f s) :=
  frame_onMem hp (fun _ w => w) h

/-! ### Pool memory -/

theorem cellSet_from {m : List Host.Cell} {lo : Option Nat} {x : Nat} {b : Byte} (hw : cellsFrom lo m = true) (hx : ∀ l, lo = some l → l < x) :
    cellsFrom lo (cellSet m x b) = true := by
  induction m generalizing lo with
  | nil =>
    unfold cellSet
    split
    · exact hw
    · rename_i hb
      cases lo with
      | none => simp [cellsFrom]; exact hb
      | some l => simp [cellsFrom, hx l rfl]; exact hb
  | cons e t ih =>
    obtain ⟨a, c⟩ := e
    simp only [cellsFrom, Bool.and_eq_true, decide_eq_true_eq] at hw
    obtain ⟨⟨h1, h2⟩, h3⟩ := hw
    unfold cellSet
    split
    · subst x
      split
      · cases lo with
        | none =>
          cases t with
          | nil => rfl
          | cons e' t' => simp only [cellsFrom, Bool.and_eq_true, decide_eq_true_eq] at h3 ⊢; exact ⟨⟨trivial, h3.1.2⟩, h3.2⟩
        | some l =>
          have := hx l rfl
          cases t with
          | nil => rfl
          | cons e' t' => simp only [cellsFrom, Bool.and_eq_true, decide_eq_true_eq] at h3 ⊢; exact ⟨⟨by omega, h3.1.2⟩, h3.2⟩
      · simp only [cellsFrom, Bool.and_eq_true, decide_eq_true_eq]
        exact ⟨⟨h1, by assumption⟩, h3⟩
    · split
      · split
        · simp only [cellsFrom, Bool.and_eq_true, decide_eq_true_eq]; exact ⟨⟨h1, h2⟩, h3⟩
        · simp only [cellsFrom, Bool.and_eq_true, decide_eq_true_eq]
          refine ⟨⟨?_, by assumption⟩, ⟨by assumption, h2⟩, h3⟩
          cases lo with
          | none => rfl
          | some l => exact decide_eq_true (hx l rfl)
      · simp only [cellsFrom, Bool.and_eq_true, decide_eq_true_eq]
        exact ⟨⟨h1, h2⟩, ih h3 (by intro l e; cases e; omega)⟩

theorem cellSet_wf {m : List Host.Cell} {x : Nat} {b : Byte} (h : Memory.wf m = true) : Memory.wf (cellSet m x b) = true :=
  cellSet_from h (by intro l e; cases e)

theorem cellsPut_wf {m : List Host.Cell} {x : Nat} {bs : List Byte} (h : Memory.wf m = true) : Memory.wf (cellsPut m x bs) = true := by
  induction bs generalizing m x with
  | nil => exact h
  | cons b bs ih => exact ih (cellSet_wf h)

theorem frame_putBytes {pa : Nat} {bs : List Byte} (hp : within [.mem] P = true) (h : Frame P s0 s) : Frame P s0 (putBytes pa bs s) :=
  frame_onMem hp (fun _ w => cellsPut_wf w) h

end Sys2Proof.Machine
end

