-- ==== Sys2Proof/Laws/FrameOpsPacket.lean ====
section
/-!
SUPPORT. Laws/FrameOpsPacket.lean: the frame of every operation and command of Machine/OpsPacket.lean.
-/
namespace Sys2Proof.Machine

theorem frame_setObj {P : List Part} {s0 : State} {o : Obj} {v : Nat} {s : State} (hp : within [.dict] P = true) (h : Frame P s0 s) : Frame P s0 (setObj o v s) := by
  unfold setObj
  refine frame_onKodp [.dict] (within_trans (by decide) hp) (.inr fun _ => rfl) (.inl rfl) (.inr fun _ => rfl) ?_
  with_reducible assumption

theorem frame_setPort {P : List Part} {s0 : State} {p : Nat} {f : Port → Port} {s : State} (hp : within [.link] P = true) (h : Frame P s0 s) : Frame P s0 (setPort p f s) := by
  unfold setPort
  with_reducible apply frame_onLink (within_trans (by decide) hp)
  with_reducible assumption

theorem frame_enqueueAt {P : List Part} {s0 : State} {port : Nat} {sub : Nat} {p : Packet} {s : State} (hp : within [.leaves] P = true) (h : Frame P s0 s) : Frame P s0 (enqueueAt port sub p s) := by
  unfold enqueueAt
  extract_lets +onlyGivenNames x0
  clear_value x0
  refine frame_onTraffic [.leaves] (within_trans (by decide) hp) (.inl rfl) (.inr fun _ => rfl) ?_
  with_reducible assumption

theorem frame_sendPacket {P : List Part} {s0 : State} {p : Packet} {s : State} (hp : within [.ledger, .leaves] P = true) (h : Frame P s0 s) : Frame P s0 (sendPacket p s) := by
  unfold sendPacket
  extract_lets +onlyGivenNames x0
  clear_value x0
  split
  · with_reducible apply frame_enqueueAt (within_trans (by decide) hp)
    with_reducible assumption
  · split
    · with_reducible apply frame_enqueueAt (within_trans (by decide) hp)
      refine frame_onTxn [.ledger] (within_trans (by decide) hp) (.inl rfl) (.inr fun _ => rfl) ?_
      with_reducible assumption
    · with_reducible apply frame_enqueueAt (within_trans (by decide) hp)
      with_reducible assumption

theorem frame_tookTag {P : List Part} {s0 : State} {dest : Nat} {tag : Nat} {s : State} (hp : within [.ledger] P = true) (h : Frame P s0 s) : Frame P s0 (tookTag dest tag s) := by
  unfold tookTag
  refine frame_onTxn [.ledger] (within_trans (by decide) hp) (.inl rfl) (.inr fun _ => rfl) ?_
  with_reducible assumption

theorem frame_sendOnPort {P : List Part} {s0 : State} {port : Nat} {p : Packet} {s : State} (hp : within [.leaves] P = true) (h : Frame P s0 s) : Frame P s0 (sendOnPort port p s) := by
  unfold sendOnPort
  with_reducible apply frame_enqueueAt (within_trans (by decide) hp)
  with_reducible assumption

theorem frame_repin {P : List Part} {s0 : State} {s : State} (hp : within [.ledger, .leaves] P = true) (h : Frame P s0 s) : Frame P s0 (repin s) := by
  unfold repin
  with_reducible apply frame_forAll
  · intro x0 x1 h2
    with_reducible apply frame_ite
    · with_reducible apply frame_forAll
      · intro x3 x4 h5
        with_reducible apply frame_sendPacket (within_trans (by decide) hp)
        with_reducible assumption
      · refine frame_onTraffic [.leaves] (within_trans (by decide) hp) (.inl rfl) (.inr fun _ => rfl) ?_
        with_reducible assumption
    · with_reducible assumption
  · with_reducible assumption

theorem frame_endExchange {P : List Part} {s0 : State} {eid : Nat} {issuer : Nat} {tag : Nat} {g : Nat} {s : State} (hp : within [.sec] P = true) (h : Frame P s0 s) : Frame P s0 (endExchange eid issuer tag g s) := by
  unfold endExchange
  extract_lets +onlyGivenNames x0
  clear_value x0
  refine frame_onSec [.sec] (within_trans (by decide) hp) (.inr fun _ => by repeat' first | rfl | split) (.inl rfl) ?_
  with_reducible assumption

theorem frame_advanceGen {P : List Part} {s0 : State} {eid : Nat} {issuer : Nat} {tag : Nat} {s : State} (hp : within [.sec] P = true) (h : Frame P s0 s) : Frame P s0 (advanceGen eid issuer tag s) := by
  unfold advanceGen
  with_reducible apply frame_endExchange (within_trans (by decide) hp)
  with_reducible assumption

theorem frame_sendTw {P : List Part} {s0 : State} {n : Nat} {p : Packet} {s : State} (hp : within [.leaves] P = true) (h : Frame P s0 s) : Frame P s0 (sendTw n p s) := by
  unfold sendTw
  with_reducible apply frame_ite
  · with_reducible assumption
  · with_reducible apply frame_sendOnPort (within_trans (by decide) hp)
    with_reducible assumption

theorem frame_mirrorSend {P : List Part} {s0 : State} {stream : Nat} {line : Option (Nat × List Byte × LineMeta)} {mk : Nat → Packet} {s : State} (hp : within [.mirror, .leaves] P = true) (h : Frame P s0 s) : Frame P s0 (mirrorSend stream line mk s) := by
  unfold mirrorSend
  extract_lets +onlyGivenNames x0
  clear_value x0
  extract_lets +onlyGivenNames x1
  clear_value x1
  extract_lets +onlyGivenNames x2
  clear_value x2
  extract_lets +onlyGivenNames x3
  have h3 : Frame P s0 (x3) := by
    unfold x3
    refine frame_onTwin [.mirror] (within_trans (by decide) hp) (.inl rfl) (.inr fun _ => rfl) ?_
    with_reducible assumption
  clear_value x3
  with_reducible apply frame_sendTw (within_trans (by decide) hp)
  with_reducible assumption

theorem frame_mirrorState {P : List Part} {s0 : State} {stream : Nat} {type : Nat} {slots : Nat} {body : List Byte} {s : State} (hp : within [.mirror, .leaves, .ctrs] P = true) (h : Frame P s0 s) : Frame P s0 (mirrorState stream type slots body s) := by
  unfold mirrorState
  with_reducible apply frame_ite
  · with_reducible apply frame_bump (within_trans (by decide) hp)
    with_reducible apply frame_mirrorSend (within_trans (by decide) hp)
    with_reducible assumption
  · with_reducible assumption

theorem frame_mirrorSlot {P : List Part} {s0 : State} {slot : Nat} {st : Option SlotSt} {s : State} (hp : within [.mirror, .leaves, .ctrs] P = true) (h : Frame P s0 s) : Frame P s0 (mirrorSlot slot st s) := by
  unfold mirrorSlot
  split
  · with_reducible apply frame_mirrorState (within_trans (by decide) hp)
    with_reducible assumption
  · with_reducible apply frame_mirrorState (within_trans (by decide) hp)
    with_reducible assumption

theorem frame_mapGranule {P : List Part} {s0 : State} {l : Nat} {s : State} (hp : within [.mirror] P = true) (h : Frame P s0 s) : Frame P s0 (mapGranule l s) := by
  unfold mapGranule
  extract_lets +onlyGivenNames x0
  clear_value x0
  refine frame_onTwin [.mirror] (within_trans (by decide) hp) (.inl rfl) (.inr fun _ => rfl) ?_
  with_reducible assumption

theorem frame_ledgerWrite {P : List Part} {s0 : State} {slot : Nat} {tag : Nat} {stream : Nat} {e : LedgerEntry} {s : State} (hp : within [.ledger, .mirror, .leaves, .ctrs] P = true) (h : Frame P s0 s) : Frame P s0 (ledgerWrite slot tag stream e s) := by
  unfold ledgerWrite
  with_reducible apply frame_mirrorState (within_trans (by decide) hp)
  with_reducible apply frame_mapGranule (within_trans (by decide) hp)
  refine frame_onTxn [.ledger] (within_trans (by decide) hp) (.inl rfl) (.inr fun _ => rfl) ?_
  with_reducible assumption

theorem frame_ledgerClear {P : List Part} {s0 : State} {slot : Nat} {s : State} (hp : within [.ledger, .mirror] P = true) (h : Frame P s0 s) : Frame P s0 (ledgerClear slot s) := by
  unfold ledgerClear
  with_reducible apply frame_forAll
  · intro x0 x1 h2
    with_reducible apply frame_mapGranule (within_trans (by decide) hp)
    with_reducible assumption
  · refine frame_onTxn [.ledger] (within_trans (by decide) hp) (.inl rfl) (.inr fun _ => rfl) ?_
    with_reducible assumption

theorem frame_sendCmp {P : List Part} {s0 : State} {dest : Nat} {tag : Nat} {st : Status} {harg : Nat} {s : State} (hp : within [.ledger, .leaves] P = true) (h : Frame P s0 s) : Frame P s0 (sendCmp dest tag st harg s) := by
  unfold sendCmp
  with_reducible apply frame_sendPacket (within_trans (by decide) hp)
  with_reducible assumption

theorem frame_ledgerFinal {P : List Part} {s0 : State} {p : Packet} {st : Status} {harg : Nat} {result : Nat} {s : State} (hp : within [.ledger, .mirror, .leaves, .ctrs] P = true) (h : Frame P s0 s) : Frame P s0 (ledgerFinal p st harg result s) := by
  unfold ledgerFinal
  split
  · with_reducible apply frame_ite
    · with_reducible apply frame_ledgerWrite (within_trans (by decide) hp)
      with_reducible assumption
    · with_reducible assumption
  · with_reducible assumption

end Sys2Proof.Machine
end

