-- ==== Sys2Proof/Laws/FrameOpsKodp.lean ====
section
/-!
SUPPORT. Laws/FrameOpsKodp.lean: the frame of every operation and command of Machine/OpsKodp.lean.
-/
namespace Sys2Proof.Machine

theorem frame_kslPush {P : List Part} {s0 : State} {isReply : Bool} {m : KMsg} {s : State} (hp : within [.kodp, .ctrs] P = true) (h : Frame P s0 s) : Frame P s0 (kslPush isReply m s) := by
  unfold kslPush
  extract_lets +onlyGivenNames x0
  clear_value x0
  with_reducible apply frame_ite
  · refine frame_onKodp [.kodp] (within_trans (by decide) hp) (.inr fun _ => rfl) (.inr fun _ => rfl) (.inl rfl) ?_
    with_reducible assumption
  · extract_lets +onlyGivenNames x1
    clear_value x1
    split
    · with_reducible apply frame_bump (within_trans (by decide) hp)
      with_reducible apply frame_bump (within_trans (by decide) hp)
      refine frame_onKodp [.kodp] (within_trans (by decide) hp) (.inr fun _ => rfl) (.inr fun _ => rfl) (.inl rfl) ?_
      with_reducible assumption
    · refine frame_onKodp [.kodp] (within_trans (by decide) hp) (.inr fun _ => rfl) (.inr fun _ => rfl) (.inl rfl) ?_
      with_reducible assumption

theorem frame_secureMsg {P : List Part} {s0 : State} {c : Client} {m : KMsg} {s : State} (hp : within [.sessions] P = true) (h : Frame P s0 s) : FrameP P s0 (secureMsg c m s) := by
  unfold secureMsg
  split
  · with_reducible apply frame_mk
    with_reducible assumption
  · extract_lets +onlyGivenNames x0
    clear_value x0
    extract_lets +onlyGivenNames x1
    clear_value x1
    with_reducible apply frame_mk
    refine frame_onSec [.sessions] (within_trans (by decide) hp) (.inl rfl) (.inr fun _ => rfl) ?_
    with_reducible assumption

theorem frame_sendMsg {P : List Part} {s0 : State} {c : Client} {tag : Nat} {isReply : Bool} {m : KMsg} {s : State} (hp : within [.ledger, .leaves, .sessions, .kodp, .ctrs, .out] P = true) (h : Frame P s0 s) : Frame P s0 (sendMsg c tag isReply m s) := by
  unfold sendMsg
  split
  extract_lets +onlyGivenNames x0
  clear_value x0
  extract_lets +onlyGivenNames x1
  clear_value x1
  extract_lets +onlyGivenNames x2
  have h2 : Frame P s0 (x2) := by
    unfold x2
    with_reducible apply frame_onlyIf
    · intro x3 h4
      with_reducible apply frame_tookTag (within_trans (by decide) hp)
      with_reducible assumption
    · refine frame_of_fst (by with_reducible assumption) ?_
      with_reducible apply frame_secureMsg (within_trans (by decide) hp)
      with_reducible assumption
  clear_value x2
  split
  · with_reducible apply frame_emit (within_trans (by decide) hp)
    with_reducible assumption
  · with_reducible apply frame_emit (within_trans (by decide) hp)
    with_reducible apply frame_kslPush (within_trans (by decide) hp)
    with_reducible assumption
  · with_reducible apply frame_emit (within_trans (by decide) hp)
    with_reducible apply frame_forAll
    · intro x5 x6 h7
      with_reducible apply frame_ite
      · with_reducible apply frame_sendTw (within_trans (by decide) hp)
        with_reducible assumption
      · with_reducible apply frame_sendPacket (within_trans (by decide) hp)
        with_reducible assumption
    · with_reducible assumption

theorem frame_sendNotify {P : List Part} {s0 : State} {c : Client} {recs : List NotifyRec} {s : State} (hp : within [.ledger, .leaves, .sessions, .kodp, .ctrs, .out] P = true) (h : Frame P s0 s) : Frame P s0 (sendNotify c recs s) := by
  unfold sendNotify
  extract_lets +onlyGivenNames x0
  clear_value x0
  with_reducible apply frame_sendMsg (within_trans (by decide) hp)
  with_reducible apply frame_bumpBy (within_trans (by decide) hp)
  refine frame_onKodp [.kodp] (within_trans (by decide) hp) (.inr fun _ => rfl) (.inr fun _ => rfl) (.inl rfl) ?_
  with_reducible assumption

theorem frame_deliver {P : List Part} {s0 : State} {r : NotifyRec} {only : Option Client} {s : State} (hp : within [.ledger, .leaves, .sessions, .kodp, .ctrs, .out] P = true) (h : Frame P s0 s) : Frame P s0 (deliver r only s) := by
  unfold deliver
  extract_lets +onlyGivenNames x0
  have h0 : Frame P s0 (x0) := by
    unfold x0
    refine frame_onKodp [.kodp] (within_trans (by decide) hp) (.inr fun _ => rfl) (.inr fun _ => rfl) (.inl rfl) ?_
    with_reducible assumption
  clear_value x0
  split
  · with_reducible apply frame_sendNotify (within_trans (by decide) hp)
    with_reducible assumption
  · refine frame_onKodp [.kodp] (within_trans (by decide) hp) (.inr fun _ => rfl) (.inr fun _ => rfl) (.inl rfl) ?_
    with_reducible assumption

theorem frame_drainSubs {P : List Part} {s0 : State} {s : State} (hp : within [.ledger, .leaves, .sessions, .kodp, .ctrs, .out] P = true) (h : Frame P s0 s) : Frame P s0 (drainSubs s) := by
  unfold drainSubs
  extract_lets +onlyGivenNames x0
  have h0 : Frame P s0 (x0) := by
    unfold x0
    refine frame_onKodp [.kodp] (within_trans (by decide) hp) (.inr fun _ => rfl) (.inr fun _ => rfl) (.inl rfl) ?_
    with_reducible assumption
  clear_value x0
  with_reducible apply frame_forAll
  · intro x1 x2 h3
    extract_lets +onlyGivenNames x4
    clear_value x4
    extract_lets +onlyGivenNames x5
    clear_value x5
    with_reducible apply frame_forAll
    · intro x6 x7 h8
      with_reducible apply frame_sendNotify (within_trans (by decide) hp)
      with_reducible assumption
    · with_reducible apply frame_bumpBy (within_trans (by decide) hp)
      with_reducible assumption
  · with_reducible assumption

theorem frame_notifyTo {P : List Part} {s0 : State} {only : Option Client} {code : Nat} {payload : List Byte} {s : State} (hp : within [.ledger, .leaves, .sessions, .rings, .kodp, .ctrs, .out] P = true) (h : Frame P s0 s) : Frame P s0 (notifyTo only code payload s) := by
  unfold notifyTo
  extract_lets +onlyGivenNames x0
  clear_value x0
  extract_lets +onlyGivenNames x1
  have h1 : Frame P s0 (x1) := by
    unfold x1
    refine frame_onKodp [.kodp] (within_trans (by decide) hp) (.inr fun _ => rfl) (.inr fun _ => rfl) (.inl rfl) ?_
    with_reducible assumption
  clear_value x1
  with_reducible apply frame_ite
  · with_reducible apply frame_ite
    · refine frame_onObs [.rings] (within_trans (by decide) hp) (.inr fun _ => rfl) (.inl rfl) (.inr fun _ => rfl) ?_
      with_reducible assumption
    · with_reducible apply frame_bump (within_trans (by decide) hp)
      with_reducible assumption
  · with_reducible apply frame_drainSubs (within_trans (by decide) hp)
    with_reducible apply frame_deliver (within_trans (by decide) hp)
    with_reducible assumption

theorem frame_notify {P : List Part} {s0 : State} {code : Nat} {payload : List Byte} {s : State} (hp : within [.ledger, .leaves, .sessions, .rings, .kodp, .ctrs, .out] P = true) (h : Frame P s0 s) : Frame P s0 (notify code payload s) := by
  unfold notify
  with_reducible apply frame_notifyTo (within_trans (by decide) hp)
  with_reducible assumption

theorem frame_notifyLimited {P : List Part} {s0 : State} {code : Nat} {unit : Nat} {period : Nat} {payload : Nat → List Byte} {s : State} (hp : within [.ledger, .leaves, .sessions, .rings, .kodp, .ctrs, .out] P = true) (h : Frame P s0 s) : Frame P s0 (notifyLimited code unit period payload s) := by
  unfold notifyLimited
  extract_lets +onlyGivenNames x0
  clear_value x0
  extract_lets +onlyGivenNames x1
  clear_value x1
  with_reducible apply frame_ite
  · with_reducible apply frame_notify (within_trans (by decide) hp)
    refine frame_onKodp [.kodp] (within_trans (by decide) hp) (.inr fun _ => rfl) (.inr fun _ => rfl) (.inl rfl) ?_
    with_reducible assumption
  · refine frame_onKodp [.kodp] (within_trans (by decide) hp) (.inr fun _ => rfl) (.inr fun _ => rfl) (.inl rfl) ?_
    with_reducible assumption

theorem frame_setUnit {P : List Part} {s0 : State} {k : UnitKind} {u : Nat} {f : UnitRec → UnitRec} {s : State} (hp : within [.units] P = true) (h : Frame P s0 s) : Frame P s0 (setUnit k u f s) := by
  unfold setUnit
  refine frame_onBoot [.units] (within_trans (by decide) hp) (.inl rfl) (.inr fun _ => rfl) (.inr fun _ => rfl) ?_
  with_reducible assumption

theorem frame_crumb {P : List Part} {s0 : State} {kind : Nat} {u : Nat} {event : Nat} {arg : Nat} {s : State} (hp : within [.rings] P = true) (h : Frame P s0 s) : Frame P s0 (crumb kind u event arg s) := by
  unfold crumb
  refine frame_onObs [.rings] (within_trans (by decide) hp) (.inr fun _ => rfl) (.inl rfl) (.inr fun _ => rfl) ?_
  with_reducible assumption

theorem frame_freezeRings {P : List Part} {s0 : State} {kind : Nat} {u : Nat} {s : State} (hp : within [.rings] P = true) (h : Frame P s0 s) : Frame P s0 (freezeRings kind u s) := by
  unfold freezeRings
  extract_lets +onlyGivenNames x0
  clear_value x0
  extract_lets +onlyGivenNames x1
  have h1 : ∀ y0, ∀ y1, ∀ y2, Frame P s0 y2 → Frame P s0 (x1 y0 y1 y2) := by
    intro x2 x3 x4 h5
    unfold x1
    refine frame_onObs [.rings] (within_trans (by decide) hp) (.inr fun _ => rfl) (.inl rfl) (.inr fun _ => rfl) ?_
    with_reducible assumption
  clear_value x1
  with_reducible apply h1
  with_reducible apply frame_onlyIf
  · intro x6 h7
    with_reducible apply h1
    with_reducible assumption
  · with_reducible assumption

theorem frame_timeoutFired {P : List Part} {s0 : State} {row : Nat} {kind : Nat} {u : Nat} {arg : Nat} {s : State} (hp : within [.ledger, .leaves, .sessions, .rings, .kodp, .ctrs, .out] P = true) (h : Frame P s0 s) : Frame P s0 (timeoutFired row kind u arg s) := by
  unfold timeoutFired
  extract_lets +onlyGivenNames x0
  have h0 : Frame P s0 (x0) := by
    unfold x0
    with_reducible apply frame_freezeRings (within_trans (by decide) hp)
    with_reducible apply frame_crumb (within_trans (by decide) hp)
    with_reducible assumption
  clear_value x0
  extract_lets +onlyGivenNames x1
  have h1 : Frame P s0 (x1) := by
    unfold x1
    with_reducible apply frame_bump (within_trans (by decide) hp)
    with_reducible assumption
  clear_value x1
  extract_lets +onlyGivenNames x2
  have h2 : Frame P s0 (x2) := by
    unfold x2
    refine frame_onObs [.rings] (within_trans (by decide) hp) (.inr fun _ => rfl) (.inl rfl) (.inr fun _ => rfl) ?_
    with_reducible assumption
  clear_value x2
  with_reducible apply frame_notifyLimited (within_trans (by decide) hp)
  with_reducible assumption

theorem frame_exhaust {P : List Part} {s0 : State} {kind : Nat} {unit : Nat} {s : State} (hp : within [.ledger, .leaves, .sessions, .boot, .rings, .kodp, .ctrs, .out] P = true) (h : Frame P s0 s) : Frame P s0 (exhaust kind unit s) := by
  unfold exhaust
  with_reducible apply frame_ite
  · with_reducible assumption
  · with_reducible apply frame_notify (within_trans (by decide) hp)
    refine frame_onBoot [.boot] (within_trans (by decide) hp) (.inr fun _ => rfl) (.inr fun _ => rfl) (.inl rfl) ?_
    with_reducible assumption

theorem frame_sendDebug {P : List Part} {s0 : State} {sink : Nat} {stream : Nat} {kind : Nat} {seq : Nat} {status : Nat} {offset : Nat} {mask : Nat} {lines : List (List Byte)} {s : State} (hp : within [.ledger, .leaves] P = true) (h : Frame P s0 s) : Frame P s0 (sendDebug sink stream kind seq status offset mask lines s) := by
  unfold sendDebug
  extract_lets +onlyGivenNames x0
  clear_value x0
  with_reducible apply frame_sendPacket (within_trans (by decide) hp)
  with_reducible assumption

theorem frame_endDump {P : List Part} {s0 : State} {d : Dump} {st : Status} {gone : Bool} {s : State} (hp : within [.ledger, .leaves, .sessions, .obs, .rings, .kodp, .ctrs, .out] P = true) (h : Frame P s0 s) : Frame P s0 (endDump d st gone s) := by
  unfold endDump
  extract_lets +onlyGivenNames x0
  have h0 : Frame P s0 (x0) := by
    unfold x0
    refine frame_onObs [.rings, .obs] (within_trans (by decide) hp) (.inr fun _ => rfl) (.inl rfl) (.inl rfl) ?_
    with_reducible assumption
  clear_value x0
  extract_lets +onlyGivenNames x1
  have h1 : Frame P s0 (x1) := by
    unfold x1
    with_reducible apply frame_onlyIf
    · intro x2 h3
      with_reducible apply frame_sendDebug (within_trans (by decide) hp)
      with_reducible assumption
    · with_reducible assumption
  clear_value x1
  with_reducible apply frame_notify (within_trans (by decide) hp)
  with_reducible assumption

theorem frame_abortDumps {P : List Part} {s0 : State} {c : Dump → Bool} {gone : Bool} {s : State} (hp : within [.ledger, .leaves, .sessions, .obs, .rings, .kodp, .ctrs, .out] P = true) (h : Frame P s0 s) : Frame P s0 (abortDumps c gone s) := by
  unfold abortDumps
  with_reducible apply frame_forAll
  · intro x0 x1 h2
    with_reducible apply frame_endDump (within_trans (by decide) hp)
    with_reducible assumption
  · with_reducible assumption

theorem frame_unqueue {P : List Part} {s0 : State} {r : Req} {s : State} (hp : within [.kodp] P = true) (h : Frame P s0 s) : Frame P s0 (unqueue r s) := by
  unfold unqueue
  refine frame_onKodp [.kodp] (within_trans (by decide) hp) (.inr fun _ => rfl) (.inr fun _ => rfl) (.inl rfl) ?_
  with_reducible assumption

theorem frame_sendReply {P : List Part} {s0 : State} {r : Req} {crc : Nat} {m : KMsg} {s : State} (hp : within [.ledger, .mirror, .leaves, .sessions, .kodp, .ctrs, .out] P = true) (h : Frame P s0 s) : Frame P s0 (sendReply r crc m s) := by
  unfold sendReply
  extract_lets +onlyGivenNames x0
  have h0 : Frame P s0 (x0) := by
    unfold x0
    split
    · with_reducible apply frame_onlyIf
      · intro x1 h2
        with_reducible apply frame_ledgerWrite (within_trans (by decide) hp)
        with_reducible assumption
      · with_reducible assumption
    · with_reducible assumption
  clear_value x0
  extract_lets +onlyGivenNames x3
  have h3 : Frame P s0 (x3) := by
    unfold x3
    with_reducible apply frame_unqueue (within_trans (by decide) hp)
    refine frame_onKodp [.kodp] (within_trans (by decide) hp) (.inr fun _ => rfl) (.inr fun _ => rfl) (.inl rfl) ?_
    with_reducible assumption
  clear_value x3
  with_reducible apply frame_sendMsg (within_trans (by decide) hp)
  with_reducible apply frame_bump (within_trans (by decide) hp)
  with_reducible assumption

theorem frame_refuse {P : List Part} {s0 : State} {o : OpObj} {r : Req} {crc : Nat} {st : Status} {body : List Byte} {s : State} (hp : within [.ledger, .mirror, .leaves, .sessions, .kodp, .ctrs, .out] P = true) (h : Frame P s0 s) : Frame P s0 (refuse o r crc st body s) := by
  unfold refuse
  with_reducible apply frame_sendReply (within_trans (by decide) hp)
  with_reducible assumption

theorem frame_mirrorOp {P : List Part} {s0 : State} {o : OpObj} {arg : List Byte} {s : State} (hp : within [.ledger, .leaves, .sessions, .kodp, .ctrs, .out] P = true) (h : Frame P s0 s) : Frame P s0 (mirrorOp o arg s) := by
  unfold mirrorOp
  with_reducible apply frame_sendMsg (within_trans (by decide) hp)
  refine frame_onKodp [.kodp] (within_trans (by decide) hp) (.inr fun _ => rfl) (.inr fun _ => rfl) (.inl rfl) ?_
  with_reducible assumption

theorem frame_reply {P : List Part} {s0 : State} {o : OpObj} {r : Req} {st : Status} {body : List Byte} {s : State} (hp : within [.ledger, .mirror, .leaves, .sessions, .rings, .kodp, .running, .ctrs, .out] P = true) (h : Frame P s0 s) : Frame P s0 (reply o r st body s) := by
  unfold reply
  extract_lets +onlyGivenNames x0
  clear_value x0
  split
  · with_reducible assumption
  · extract_lets +onlyGivenNames x1
    have h1 : Frame P s0 (x1) := by
      unfold x1
      refine frame_onKodp [.running, .kodp] (within_trans (by decide) hp) (.inl rfl) (.inr fun _ => rfl) (.inl rfl) ?_
      with_reducible assumption
    clear_value x1
    extract_lets +onlyGivenNames x2
    clear_value x2
    extract_lets +onlyGivenNames x3
    clear_value x3
    extract_lets +onlyGivenNames x4
    clear_value x4
    extract_lets +onlyGivenNames x5
    have h5 : Frame P s0 (x5) := by
      unfold x5
      with_reducible apply frame_onlyIf
      · intro x6 h7
        with_reducible apply frame_mirrorOp (within_trans (by decide) hp)
        with_reducible assumption
      · with_reducible assumption
    clear_value x5
    with_reducible apply frame_ite
    · with_reducible apply frame_notifyTo (within_trans (by decide) hp)
      with_reducible assumption
    · with_reducible apply frame_ite
      · refine frame_onKodp [.running, .kodp] (within_trans (by decide) hp) (.inl rfl) (.inr fun _ => rfl) (.inl rfl) ?_
        with_reducible assumption
      · with_reducible apply frame_sendReply (within_trans (by decide) hp)
        with_reducible assumption

theorem frame_heard {P : List Part} {s0 : State} {r : Req} {s : State} (hp : within [.kodp, .ctrs] P = true) (h : Frame P s0 s) : Frame P s0 (heard r s) := by
  unfold heard
  with_reducible apply frame_ite
  · with_reducible assumption
  · with_reducible apply frame_bump (within_trans (by decide) hp)
    refine frame_onKodp [.kodp] (within_trans (by decide) hp) (.inr fun _ => rfl) (.inr fun _ => rfl) (.inl rfl) ?_
    with_reducible assumption

theorem frame_operate {P : List Part} {s0 : State} {o : OpObj} {r : Req} {arg : List Byte} {firstLen : Nat} {v : Verdict} {run : State → State} {s : State} (hp : within [.ledger, .mirror, .leaves, .sessions, .kodp, .running, .ctrs, .out] P = true) (h_run : (∀ x0, Frame P s0 x0 → Frame P s0 (run x0))) (h : Frame P s0 s) : Frame P s0 (operate o r arg firstLen v run s) := by
  unfold operate
  extract_lets +onlyGivenNames x0
  clear_value x0
  extract_lets +onlyGivenNames x1
  clear_value x1
  extract_lets +onlyGivenNames x2
  clear_value x2
  extract_lets +onlyGivenNames x3
  clear_value x3
  extract_lets +onlyGivenNames x4
  clear_value x4
  extract_lets +onlyGivenNames x5
  clear_value x5
  extract_lets +onlyGivenNames x6
  clear_value x6
  with_reducible apply frame_ite
  · with_reducible assumption
  · extract_lets +onlyGivenNames x7
    have h7 : Frame P s0 (x7) := by
      unfold x7
      with_reducible apply frame_heard (within_trans (by decide) hp)
      with_reducible assumption
    clear_value x7
    with_reducible apply frame_ite
    · with_reducible apply frame_bump (within_trans (by decide) hp)
      with_reducible apply frame_sendMsg (within_trans (by decide) hp)
      with_reducible apply frame_unqueue (within_trans (by decide) hp)
      with_reducible assumption
    · split
      · with_reducible apply frame_bump (within_trans (by decide) hp)
        with_reducible apply frame_sendMsg (within_trans (by decide) hp)
        with_reducible apply frame_unqueue (within_trans (by decide) hp)
        with_reducible assumption
      · with_reducible apply frame_ite
        · with_reducible apply frame_bump (within_trans (by decide) hp)
          with_reducible apply frame_unqueue (within_trans (by decide) hp)
          with_reducible assumption
        · with_reducible apply frame_ite
          · with_reducible apply frame_refuse (within_trans (by decide) hp)
            with_reducible assumption
          · with_reducible apply frame_ite
            · with_reducible apply frame_refuse (within_trans (by decide) hp)
              with_reducible assumption
            · with_reducible apply frame_ite
              · with_reducible apply frame_bump (within_trans (by decide) hp)
                with_reducible apply frame_refuse (within_trans (by decide) hp)
                with_reducible assumption
              · with_reducible apply frame_ite
                · with_reducible apply frame_refuse (within_trans (by decide) hp)
                  with_reducible assumption
                · with_reducible apply frame_ite
                  · with_reducible apply frame_refuse (within_trans (by decide) hp)
                    with_reducible assumption
                  · split
                    · with_reducible apply frame_onlyIf
                      · intro x8 h9
                        with_reducible apply frame_bump (within_trans (by decide) hp)
                        with_reducible assumption
                      · with_reducible apply frame_refuse (within_trans (by decide) hp)
                        with_reducible assumption
                    · with_reducible apply frame_ite
                      · with_reducible apply frame_ite
                        · with_reducible assumption
                        · with_reducible apply frame_ite
                          · with_reducible apply frame_bump (within_trans (by decide) hp)
                            with_reducible apply frame_refuse (within_trans (by decide) hp)
                            with_reducible assumption
                          · refine frame_onKodp [.running, .kodp] (within_trans (by decide) hp) (.inl rfl) (.inr fun _ => rfl) (.inl rfl) ?_
                            with_reducible assumption
                      · extract_lets +onlyGivenNames x10
                        have h10 : Frame P s0 (x10) := by
                          unfold x10
                          with_reducible apply frame_unqueue (within_trans (by decide) hp)
                          refine frame_onKodp [.running, .kodp] (within_trans (by decide) hp) (.inl rfl) (.inr fun _ => rfl) (.inl rfl) ?_
                          with_reducible assumption
                        clear_value x10
                        with_reducible apply h_run
                        with_reducible assumption

theorem frame_copyToPeer {P : List Part} {s0 : State} {o : OpObj} {r : Req} {arg : List Byte} {s : State} (hp : within [.running] P = true) (h : Frame P s0 s) : Frame P s0 (copyToPeer o r arg s) := by
  unfold copyToPeer
  refine frame_onKodp [.running] (within_trans (by decide) hp) (.inl rfl) (.inr fun _ => rfl) (.inr fun _ => rfl) ?_
  with_reducible assumption

theorem frame_releasePeerWaits {P : List Part} {s0 : State} {s : State} (hp : within [.ledger, .mirror, .leaves, .sessions, .kodp, .ctrs, .out] P = true) (h : Frame P s0 s) : Frame P s0 (releasePeerWaits s) := by
  unfold releasePeerWaits
  with_reducible apply frame_forAll
  · intro x0 x1 h2
    with_reducible apply frame_sendReply (within_trans (by decide) hp)
    with_reducible assumption
  · refine frame_onKodp [.kodp] (within_trans (by decide) hp) (.inr fun _ => rfl) (.inr fun _ => rfl) (.inl rfl) ?_
    with_reducible assumption

theorem frame_operateOk {P : List Part} {s0 : State} {o : OpObj} {r : Req} {arg : List Byte} {firstLen : Nat} {v : Verdict} {eff : State → State} {s : State} (hp : within [.ledger, .mirror, .leaves, .sessions, .rings, .kodp, .running, .ctrs, .out] P = true) (h_eff : (∀ x0, Frame P s0 x0 → Frame P s0 (eff x0))) (h : Frame P s0 s) : Frame P s0 (operateOk o r arg firstLen v eff s) := by
  unfold operateOk
  with_reducible apply frame_operate (within_trans (by decide) hp)
  · intro x0 h1
    with_reducible apply frame_reply (within_trans (by decide) hp)
    with_reducible apply h_eff
    with_reducible assumption
  · with_reducible assumption

theorem frame_saveSettings {P : List Part} {s0 : State} {s : State} (hp : within [.dict] P = true) (h : Frame P s0 s) : Frame P s0 (saveSettings s) := by
  unfold saveSettings
  extract_lets +onlyGivenNames x0
  clear_value x0
  extract_lets +onlyGivenNames x1
  clear_value x1
  refine frame_onKodp [.dict] (within_trans (by decide) hp) (.inr fun _ => rfl) (.inl rfl) (.inr fun _ => rfl) ?_
  with_reducible assumption

theorem frame_tableRaised {P : List Part} {s0 : State} {index : Nat} {n : Nat} {s : State} (hp : within [.dict] P = true) (h : Frame P s0 s) : Frame P s0 (tableRaised index n s) := by
  unfold tableRaised
  refine frame_onKodp [.dict] (within_trans (by decide) hp) (.inr fun _ => rfl) (.inl rfl) (.inr fun _ => rfl) ?_
  with_reducible assumption

theorem frame_tableChanged {P : List Part} {s0 : State} {index : Nat} {s : State} (hp : within [.dict] P = true) (h : Frame P s0 s) : Frame P s0 (tableChanged index s) := by
  unfold tableChanged
  with_reducible apply frame_tableRaised (within_trans (by decide) hp)
  with_reducible assumption

end Sys2Proof.Machine
end

