-- ==== Sys2Proof/Laws/FrameOpsPower.lean ====
section
/-!
SUPPORT. Laws/FrameOpsPower.lean: the frame of every operation and command of Machine/OpsPower.lean.
-/
namespace Sys2Proof.Machine

theorem frame_nextStep {P : List Part} {s0 : State} {s : State} (hp : within [.pkg, .ctrs] P = true) (h : Frame P s0 s) : Frame P s0 (nextStep s) := by
  unfold nextStep
  with_reducible apply frame_ite
  · with_reducible assumption
  · split
    · with_reducible assumption
    · with_reducible apply frame_bump (within_trans (by decide) hp)
      with_reducible apply frame_onPkg (within_trans (by decide) hp)
      with_reducible assumption

theorem frame_announceStep {P : List Part} {s0 : State} {kind : Nat} {key : Nat} {die : Nat} {ma : Nat} {rising : Bool} {s : State} (hp : within [.pkg, .ctrs] P = true) (h : Frame P s0 s) : Frame P s0 (announceStep kind key die ma rising s) := by
  unfold announceStep
  extract_lets +onlyGivenNames x0
  clear_value x0
  with_reducible apply frame_nextStep (within_trans (by decide) hp)
  with_reducible apply frame_onPkg (within_trans (by decide) hp)
  with_reducible assumption

theorem frame_drawQuiet {P : List Part} {s0 : State} {ma : Nat} {s : State} (hp : within [.power] P = true) (h : Frame P s0 s) : Frame P s0 (drawQuiet ma s) := by
  unfold drawQuiet
  with_reducible apply frame_onPower (within_trans (by decide) hp)
  with_reducible assumption

theorem frame_stepOver {P : List Part} {s0 : State} {s : State} (hp : within [.pkg, .ctrs] P = true) (h : Frame P s0 s) : Frame P s0 (stepOver s) := by
  unfold stepOver
  with_reducible apply frame_nextStep (within_trans (by decide) hp)
  with_reducible apply frame_onPkg (within_trans (by decide) hp)
  with_reducible assumption

theorem frame_endStep {P : List Part} {s0 : State} {kind : Nat} {key : Nat} {s : State} (hp : within [.pkg, .ctrs] P = true) (h : Frame P s0 s) : Frame P s0 (endStep kind key s) := by
  unfold endStep
  extract_lets +onlyGivenNames x0
  have h0 : Frame P s0 (x0) := by
    unfold x0
    with_reducible apply frame_onPkg (within_trans (by decide) hp)
    with_reducible assumption
  clear_value x0
  split
  · with_reducible apply frame_ite
    · with_reducible apply frame_stepOver (within_trans (by decide) hp)
      with_reducible assumption
    · with_reducible assumption
  · with_reducible assumption

theorem frame_grantSugar {P : List Part} {s0 : State} {g : Sugar} {granted : Nat} {s : State} (hp : within [.pkg, .power, .ctrs] P = true) (h : Frame P s0 s) : Frame P s0 (grantSugar g granted s) := by
  unfold grantSugar
  extract_lets +onlyGivenNames x0
  clear_value x0
  extract_lets +onlyGivenNames x1
  clear_value x1
  extract_lets +onlyGivenNames x2
  clear_value x2
  extract_lets +onlyGivenNames x3
  clear_value x3
  extract_lets +onlyGivenNames x4
  have h4 : Frame P s0 (x4) := by
    unfold x4
    with_reducible apply frame_forAll
    · intro x5 x6 h7
      with_reducible apply frame_endStep (within_trans (by decide) hp)
      with_reducible assumption
    · with_reducible assumption
  clear_value x4
  extract_lets +onlyGivenNames x8
  clear_value x8
  extract_lets +onlyGivenNames x9
  clear_value x9
  extract_lets +onlyGivenNames x10
  clear_value x10
  extract_lets +onlyGivenNames x11
  clear_value x11
  extract_lets +onlyGivenNames x12
  have h12 : Frame P s0 (x12) := by
    unfold x12
    with_reducible apply frame_onPower (within_trans (by decide) hp)
    with_reducible assumption
  clear_value x12
  extract_lets +onlyGivenNames x13
  have h13 : Frame P s0 (x13) := by
    unfold x13
    with_reducible apply frame_bump (within_trans (by decide) hp)
    with_reducible assumption
  clear_value x13
  extract_lets +onlyGivenNames x14
  have h14 : Frame P s0 (x14) := by
    unfold x14
    with_reducible apply frame_onlyIf
    · intro x15 h16
      with_reducible apply frame_bump (within_trans (by decide) hp)
      with_reducible assumption
    · with_reducible assumption
  clear_value x14
  extract_lets +onlyGivenNames x17
  have h17 : Frame P s0 (x17) := by
    unfold x17
    with_reducible apply frame_onlyIf
    · intro x18 h19
      with_reducible apply frame_bump (within_trans (by decide) hp)
      with_reducible assumption
    · with_reducible assumption
  clear_value x17
  extract_lets +onlyGivenNames x20
  have h20 : Frame P s0 (x20) := by
    unfold x20
    with_reducible apply frame_onlyIf
    · intro x21 h22
      with_reducible apply frame_bump (within_trans (by decide) hp)
      with_reducible assumption
    · with_reducible assumption
  clear_value x20
  with_reducible apply frame_ite
  · with_reducible apply frame_announceStep (within_trans (by decide) hp)
    with_reducible assumption
  · with_reducible apply frame_onlyIf
    · intro x23 h24
      with_reducible apply frame_drawQuiet (within_trans (by decide) hp)
      with_reducible assumption
    · with_reducible assumption

theorem frame_queueSugar {P : List Part} {s0 : State} {g : Sugar} {s : State} (hp : within [.power, .ctrs] P = true) (h : Frame P s0 s) : Frame P s0 (queueSugar g s) := by
  unfold queueSugar
  with_reducible apply frame_ite
  · with_reducible assumption
  · with_reducible apply frame_bump (within_trans (by decide) hp)
    with_reducible apply frame_onPower (within_trans (by decide) hp)
    with_reducible assumption

theorem frame_admitGrant {P : List Part} {s0 : State} {g : Sugar} {s : State} (hp : within [.pkg, .power, .ctrs] P = true) (h : Frame P s0 s) : Frame P s0 (admitGrant g s) := by
  unfold admitGrant
  split
  · with_reducible apply frame_grantSugar (within_trans (by decide) hp)
    with_reducible assumption
  · with_reducible apply frame_queueSugar (within_trans (by decide) hp)
    with_reducible assumption

theorem frame_turnDie {P : List Part} {s0 : State} {g : Sugar} {s : State} (hp : within [.power] P = true) (h : Frame P s0 s) : Frame P s0 (turnDie g s) := by
  unfold turnDie
  with_reducible apply frame_onlyIf
  · intro x0 h1
    with_reducible apply frame_onPower (within_trans (by decide) hp)
    with_reducible assumption
  · with_reducible assumption

theorem frame_serveQueue {P : List Part} {s0 : State} {s : State} (hp : within [.pkg, .power, .ctrs] P = true) (h : Frame P s0 s) : Frame P s0 (serveQueue s) := by
  unfold serveQueue
  with_reducible apply frame_forAll
  · intro x0 x1 h2
    split
    · with_reducible apply frame_grantSugar (within_trans (by decide) hp)
      with_reducible apply frame_bumpBy (within_trans (by decide) hp)
      with_reducible apply frame_turnDie (within_trans (by decide) hp)
      with_reducible assumption
    · with_reducible assumption
  · with_reducible assumption

theorem frame_endGrant {P : List Part} {s0 : State} {kind : SugarKind} {key : Nat} {s : State} (hp : within [.pkg, .power, .ctrs] P = true) (h : Frame P s0 s) : Frame P s0 (endGrant kind key s) := by
  unfold endGrant
  split
  · with_reducible assumption
  · with_reducible apply frame_endStep (within_trans (by decide) hp)
    with_reducible apply frame_onPower (within_trans (by decide) hp)
    with_reducible assumption

theorem frame_endRecipeGrants {P : List Part} {s0 : State} {id : Nat} {s : State} (hp : within [.pkg, .power, .ctrs] P = true) (h : Frame P s0 s) : Frame P s0 (endRecipeGrants id s) := by
  unfold endRecipeGrants
  extract_lets +onlyGivenNames x0
  have h0 : Frame P s0 (x0) := by
    unfold x0
    with_reducible apply frame_endGrant (within_trans (by decide) hp)
    with_reducible apply frame_endGrant (within_trans (by decide) hp)
    with_reducible apply frame_endGrant (within_trans (by decide) hp)
    with_reducible assumption
  clear_value x0
  with_reducible apply frame_onPower (within_trans (by decide) hp)
  with_reducible assumption

theorem frame_setPunit {P : List Part} {s0 : State} {u : Nat} {f : PowerUnit → PowerUnit} {s : State} (hp : within [.power] P = true) (h : Frame P s0 s) : Frame P s0 (setPunit u f s) := by
  unfold setPunit
  with_reducible apply frame_onPower (within_trans (by decide) hp)
  with_reducible assumption

theorem frame_enterState {P : List Part} {s0 : State} {u : Nat} {st : PowerSt} {mv : UnitMove} {s : State} (hp : within [.power, .ctrs] P = true) (h : Frame P s0 s) : Frame P s0 (enterState u st mv s) := by
  unfold enterState
  extract_lets +onlyGivenNames x0
  clear_value x0
  extract_lets +onlyGivenNames x1
  have h1 : Frame P s0 (x1) := by
    unfold x1
    with_reducible apply frame_ite
    · with_reducible assumption
    · with_reducible apply frame_bumpBy (within_trans (by decide) hp)
      with_reducible assumption
  clear_value x1
  with_reducible apply frame_setPunit (within_trans (by decide) hp)
  with_reducible assumption

theorem frame_setCore {P : List Part} {s0 : State} {c : Nat} {f : Core → Core} {s : State} (hp : within [.core] P = true) (h : Frame P s0 s) : Frame P s0 (setCore c f s) := by
  unfold setCore
  with_reducible apply frame_onCore (within_trans (by decide) hp)
  with_reducible assumption

theorem frame_setChannel {P : List Part} {s0 : State} {c : Nat} {f : Channel → Channel} {s : State} (hp : within [.dram] P = true) (h : Frame P s0 s) : Frame P s0 (setChannel c f s) := by
  unfold setChannel
  with_reducible apply frame_onDram (within_trans (by decide) hp)
  with_reducible assumption

theorem frame_chooseState {P : List Part} {s0 : State} {u : Nat} {s : State} (hp : within [.power, .rings, .ctrs] P = true) (h : Frame P s0 s) : Frame P s0 (chooseState u s) := by
  unfold chooseState
  extract_lets +onlyGivenNames x0
  clear_value x0
  extract_lets +onlyGivenNames x1
  have h1 : ∀ y0, Frame P s0 (x1 y0) := by
    intro x2
    unfold x1
    with_reducible apply frame_onlyIf
    · intro x3 h4
      with_reducible apply frame_crumb (within_trans (by decide) hp)
      with_reducible assumption
    · with_reducible apply frame_bump (within_trans (by decide) hp)
      with_reducible apply frame_setPunit (within_trans (by decide) hp)
      with_reducible assumption
  clear_value x1
  with_reducible apply frame_ite
  · with_reducible apply h1
  · with_reducible apply frame_ite
    · with_reducible apply h1
    · with_reducible apply frame_ite
      · with_reducible apply h1
      · with_reducible assumption

theorem frame_beginWake {P : List Part} {s0 : State} {u : Nat} {s : State} (hp : within [.pkg, .power, .ctrs] P = true) (h : Frame P s0 s) : Frame P s0 (beginWake u s) := by
  unfold beginWake
  extract_lets +onlyGivenNames x0
  clear_value x0
  with_reducible apply frame_ite
  · split
    · with_reducible apply frame_ite
      · with_reducible apply frame_bump (within_trans (by decide) hp)
        with_reducible apply frame_setPunit (within_trans (by decide) hp)
        with_reducible assumption
      · with_reducible apply frame_setPunit (within_trans (by decide) hp)
        with_reducible apply frame_drawQuiet (within_trans (by decide) hp)
        with_reducible assumption
    · with_reducible apply frame_admitGrant (within_trans (by decide) hp)
      with_reducible apply frame_setPunit (within_trans (by decide) hp)
      with_reducible assumption
  · with_reducible apply frame_setPunit (within_trans (by decide) hp)
    with_reducible assumption

theorem frame_wakeUnit {P : List Part} {s0 : State} {u : Nat} {s : State} (hp : within [.pkg, .power, .rings, .ctrs, .free] P = true) (h : Frame P s0 s) : Frame P s0 (wakeUnit u s) := by
  unfold wakeUnit
  extract_lets +onlyGivenNames x0
  clear_value x0
  extract_lets +onlyGivenNames x1
  have h1 : Frame P s0 (x1) := by
    unfold x1
    with_reducible apply frame_onPower (within_trans (by decide) hp)
    with_reducible assumption
  clear_value x1
  split
  · with_reducible apply frame_ite
    · with_reducible apply frame_onlyIf
      · intro x2 h3
        with_reducible apply frame_crumb (within_trans (by decide) hp)
        with_reducible assumption
      · with_reducible apply frame_bump (within_trans (by decide) hp)
        with_reducible apply frame_useFree (within_trans (by decide) hp)
        with_reducible apply frame_setPunit (within_trans (by decide) hp)
        with_reducible assumption
    · with_reducible apply frame_useFree (within_trans (by decide) hp)
      with_reducible apply frame_setPunit (within_trans (by decide) hp)
      with_reducible assumption
  · with_reducible assumption
  · with_reducible assumption
  · with_reducible assumption
  · with_reducible apply frame_ite
    · with_reducible assumption
    · with_reducible apply frame_beginWake (within_trans (by decide) hp)
      with_reducible assumption

theorem frame_refuseOld {P : List Part} {s0 : State} {c : Nat} {s : State} (hp : within [.dir, .dram, .deep, .ctrs] P = true) (h : Frame P s0 s) : Frame P s0 (refuseOld c s) := by
  unfold refuseOld
  extract_lets +onlyGivenNames x0
  clear_value x0
  extract_lets +onlyGivenNames x1
  clear_value x1
  extract_lets +onlyGivenNames x2
  have h2 : Frame P s0 (x2) := by
    unfold x2
    with_reducible apply frame_onlyIf
    · intro x3 h4
      with_reducible apply frame_bumpBy (within_trans (by decide) hp)
      with_reducible assumption
    · with_reducible assumption
  clear_value x2
  extract_lets +onlyGivenNames x5
  have h5 : Frame P s0 (x5) := by
    unfold x5
    with_reducible apply frame_onDir (within_trans (by decide) hp)
    with_reducible assumption
  clear_value x5
  with_reducible apply frame_onDeep (within_trans (by decide) hp)
  with_reducible apply frame_onDram (within_trans (by decide) hp)
  with_reducible assumption

theorem frame_advanceEpoch {P : List Part} {s0 : State} {k : UnitKind} {u : Nat} {s : State} (hp : within [.dir, .dram, .deep, .units, .rings, .ctrs] P = true) (h : Frame P s0 s) : Frame P s0 (advanceEpoch k u s) := by
  unfold advanceEpoch
  extract_lets +onlyGivenNames x0
  have h0 : Frame P s0 (x0) := by
    unfold x0
    with_reducible apply frame_setUnit (within_trans (by decide) hp)
    with_reducible assumption
  clear_value x0
  extract_lets +onlyGivenNames x1
  have h1 : Frame P s0 (x1) := by
    unfold x1
    with_reducible apply frame_onlyIf
    · intro x2 h3
      with_reducible apply frame_refuseOld (within_trans (by decide) hp)
      with_reducible assumption
    · with_reducible assumption
  clear_value x1
  with_reducible apply frame_crumb (within_trans (by decide) hp)
  with_reducible assumption

theorem frame_clearCore {P : List Part} {s0 : State} {c : Nat} {s : State} (hp : within [.core] P = true) (h : Frame P s0 s) : Frame P s0 (clearCore c s) := by
  unfold clearCore
  with_reducible apply frame_setCore (within_trans (by decide) hp)
  with_reducible assumption

theorem frame_entryDone {P : List Part} {s0 : State} {u : Nat} {t : PowerSt} {mv : UnitMove} {s : State} (hp : within [.pkg, .dir, .dram, .deep, .core, .power, .units, .rings, .ctrs] P = true) (h : Frame P s0 s) : Frame P s0 (entryDone u t mv s) := by
  unfold entryDone
  extract_lets +onlyGivenNames x0
  have h0 : Frame P s0 (x0) := by
    unfold x0
    with_reducible apply frame_enterState (within_trans (by decide) hp)
    with_reducible assumption
  clear_value x0
  with_reducible apply frame_ite
  · extract_lets +onlyGivenNames x1
    have h1 : Frame P s0 (x1) := by
      unfold x1
      with_reducible apply frame_endGrant (within_trans (by decide) hp)
      with_reducible apply frame_endGrant (within_trans (by decide) hp)
      with_reducible assumption
    clear_value x1
    with_reducible apply frame_ite
    · with_reducible apply frame_forAll
      · intro x2 x3 h4
        with_reducible apply frame_ite
        · with_reducible apply frame_advanceEpoch (within_trans (by decide) hp)
          with_reducible apply frame_clearCore (within_trans (by decide) hp)
          with_reducible assumption
        · with_reducible assumption
      · with_reducible assumption
    · with_reducible assumption
  · extract_lets +onlyGivenNames x5
    clear_value x5
    extract_lets +onlyGivenNames x6
    have h6 : Frame P s0 (x6) := by
      unfold x6
      with_reducible apply frame_setPunit (within_trans (by decide) hp)
      with_reducible assumption
    clear_value x6
    with_reducible apply frame_ite
    · extract_lets +onlyGivenNames x7
      clear_value x7
      with_reducible apply frame_onDram (within_trans (by decide) hp)
      with_reducible assumption
    · with_reducible assumption

end Sys2Proof.Machine
end

