-- ==== Sys2Proof/Laws/FrameOpsMemory.lean ====
section
/-!
SUPPORT. Laws/FrameOpsMemory.lean: the frame of every operation and command of Machine/OpsMemory.lean.
-/
namespace Sys2Proof.Machine

theorem frame_setSled {P : List Part} {s0 : State} {n : Nat} {f : Sled → Sled} {s : State} (hp : within [.deep] P = true) (h : Frame P s0 s) : Frame P s0 (setSled n f s) := by
  unfold setSled
  with_reducible apply frame_onDeep (within_trans (by decide) hp)
  with_reducible assumption

theorem frame_logError {P : List Part} {s0 : State} {kind : Nat} {action : Nat} {channel : Nat} {pa : Nat} {symbol : Nat} {tenant : Nat} {unit : Nat} {s : State} (hp : within [.integ, .ctrs] P = true) (h : Frame P s0 s) : Frame P s0 (logError kind action channel pa symbol tenant unit s) := by
  unfold logError
  extract_lets +onlyGivenNames x0
  have h0 : Frame P s0 (x0) := by
    unfold x0
    with_reducible apply frame_onlyIf
    · intro x1 h2
      with_reducible apply frame_bump (within_trans (by decide) hp)
      with_reducible assumption
    · with_reducible assumption
  clear_value x0
  with_reducible apply frame_onInteg (within_trans (by decide) hp)
  with_reducible assumption

theorem frame_poisonEvent {P : List Part} {s0 : State} {line : Nat} {cause : Nat} {s : State} (hp : within [.ledger, .integ, .leaves, .sessions, .rings, .kodp, .ctrs, .out] P = true) (h : Frame P s0 s) : Frame P s0 (poisonEvent line cause s) := by
  unfold poisonEvent
  extract_lets +onlyGivenNames x0
  clear_value x0
  extract_lets +onlyGivenNames x1
  clear_value x1
  extract_lets +onlyGivenNames x2
  have h2 : Frame P s0 (x2) := by
    unfold x2
    with_reducible apply frame_bump (within_trans (by decide) hp)
    with_reducible apply frame_bump (within_trans (by decide) hp)
    with_reducible assumption
  clear_value x2
  with_reducible apply frame_notifyLimited (within_trans (by decide) hp)
  with_reducible apply frame_logError (within_trans (by decide) hp)
  with_reducible assumption

theorem frame_countMismatch {P : List Part} {s0 : State} {line : Nat} {tenant : Nat} {s : State} (hp : within [.mem, .integ, .ctrs] P = true) (h : Frame P s0 s) : Frame P s0 (countMismatch line tenant s) := by
  unfold countMismatch
  extract_lets +onlyGivenNames x0
  clear_value x0
  with_reducible apply frame_ite
  · split
    · with_reducible apply frame_setMeta (within_trans (by decide) hp)
      with_reducible assumption
    · with_reducible assumption
  · with_reducible apply frame_ite
    · extract_lets +onlyGivenNames x1
      clear_value x1
      with_reducible apply frame_logError (within_trans (by decide) hp)
      with_reducible apply frame_bump (within_trans (by decide) hp)
      with_reducible apply frame_bump (within_trans (by decide) hp)
      with_reducible assumption
    · with_reducible assumption

theorem frame_panicUpdate {P : List Part} {s0 : State} {ch : Nat} {s : State} (hp : within [.dram, .ctrs] P = true) (h : Frame P s0 s) : Frame P s0 (panicUpdate ch s) := by
  unfold panicUpdate
  extract_lets +onlyGivenNames x0
  clear_value x0
  extract_lets +onlyGivenNames x1
  clear_value x1
  extract_lets +onlyGivenNames x2
  clear_value x2
  extract_lets +onlyGivenNames x3
  clear_value x3
  extract_lets +onlyGivenNames x4
  clear_value x4
  extract_lets +onlyGivenNames x5
  clear_value x5
  with_reducible apply frame_bumpBy (within_trans (by decide) hp)
  with_reducible apply frame_bumpBy (within_trans (by decide) hp)
  with_reducible apply frame_setChannel (within_trans (by decide) hp)
  with_reducible assumption

theorem frame_dramPush {P : List Part} {s0 : State} {line : Nat} {write : Bool} {cls : DramClass} {cause : DramCause} {s : State} (hp : within [.pkg, .dram, .power, .rings, .ctrs, .free] P = true) (h : Frame P s0 s) : Frame P s0 (dramPush line write cls cause s) := by
  unfold dramPush
  extract_lets +onlyGivenNames x0
  clear_value x0
  extract_lets +onlyGivenNames x1
  clear_value x1
  extract_lets +onlyGivenNames x2
  have h2 : Frame P s0 (x2) := by
    unfold x2
    with_reducible apply frame_onDram (within_trans (by decide) hp)
    with_reducible assumption
  clear_value x2
  extract_lets +onlyGivenNames x3
  have h3 : Frame P s0 (x3) := by
    unfold x3
    with_reducible apply frame_setChannel (within_trans (by decide) hp)
    with_reducible assumption
  clear_value x3
  extract_lets +onlyGivenNames x4
  have h4 : Frame P s0 (x4) := by
    unfold x4
    with_reducible apply frame_ite
    · with_reducible assumption
    · with_reducible apply frame_wakeUnit (within_trans (by decide) hp)
      with_reducible assumption
  clear_value x4
  with_reducible apply frame_panicUpdate (within_trans (by decide) hp)
  with_reducible apply frame_ite
  · with_reducible apply frame_setChannel (within_trans (by decide) hp)
    with_reducible assumption
  · with_reducible assumption

theorem frame_pantryUse {P : List Part} {s0 : State} {l : Nat} {s : State} (hp : within [.mem] P = true) (h : Frame P s0 s) : Frame P s0 (pantryUse l s) := by
  unfold pantryUse
  extract_lets +onlyGivenNames x0
  clear_value x0
  refine frame_onMem (within_trans (by decide) hp) (fun _ w => w) ?_
  with_reducible assumption

theorem frame_pantryRoom {P : List Part} {s0 : State} {l : Nat} {s : State} (hp : within [.pkg, .mem, .dram, .power, .rings, .ctrs, .free] P = true) (h : Frame P s0 s) : Frame P s0 (pantryRoom l s) := by
  unfold pantryRoom
  with_reducible apply frame_ite
  · with_reducible apply frame_pantryUse (within_trans (by decide) hp)
    with_reducible assumption
  · extract_lets +onlyGivenNames x0
    clear_value x0
    split
    · with_reducible apply frame_pantryUse (within_trans (by decide) hp)
      with_reducible apply frame_setMeta (within_trans (by decide) hp)
      with_reducible assumption
    · extract_lets +onlyGivenNames x1
      clear_value x1
      extract_lets +onlyGivenNames x2
      have h2 : Frame P s0 (x2) := by
        unfold x2
        with_reducible apply frame_pantryUse (within_trans (by decide) hp)
        with_reducible apply frame_setMeta (within_trans (by decide) hp)
        with_reducible assumption
      clear_value x2
      with_reducible apply frame_forAll
      · intro x3 x4 h5
        with_reducible apply frame_onlyIf
        · intro x6 h7
          with_reducible apply frame_dramPush (within_trans (by decide) hp)
          with_reducible assumption
        · with_reducible apply frame_setMeta (within_trans (by decide) hp)
          with_reducible assumption
      · with_reducible assumption

theorem frame_pantryFill {P : List Part} {s0 : State} {l : Nat} {keyId : Nat} {s : State} (hp : within [.pkg, .mem, .dram, .power, .rings, .ctrs, .free] P = true) (h : Frame P s0 s) : Frame P s0 (pantryFill l keyId s) := by
  unfold pantryFill
  with_reducible apply frame_setMeta (within_trans (by decide) hp)
  with_reducible apply frame_pantryRoom (within_trans (by decide) hp)
  with_reducible assumption

theorem frame_mirrorLine {P : List Part} {s0 : State} {l : Nat} {old : List Byte × LineMeta} {s : State} (hp : within [.mirror, .leaves, .ctrs] P = true) (h : Frame P s0 s) : Frame P s0 (mirrorLine l old s) := by
  unfold mirrorLine
  with_reducible apply frame_ite
  · extract_lets +onlyGivenNames x0
    clear_value x0
    extract_lets +onlyGivenNames x1
    clear_value x1
    extract_lets +onlyGivenNames x2
    clear_value x2
    with_reducible apply frame_bump (within_trans (by decide) hp)
    with_reducible apply frame_mirrorSend (within_trans (by decide) hp)
    with_reducible assumption
  · with_reducible assumption

theorem frame_dumpCopy {P : List Part} {s0 : State} {line : Nat} {s : State} (hp : within [.ledger, .mem, .leaves, .sessions, .obs, .rings, .kodp, .ctrs, .out] P = true) (h : Frame P s0 s) : Frame P s0 (dumpCopy line s) := by
  unfold dumpCopy
  with_reducible apply frame_forAll
  · intro x0 x1 h2
    extract_lets +onlyGivenNames x3
    clear_value x3
    split
    · with_reducible assumption
    · with_reducible apply frame_ite
      · extract_lets +onlyGivenNames x4
        clear_value x4
        extract_lets +onlyGivenNames x5
        clear_value x5
        with_reducible apply frame_ite
        · with_reducible apply frame_endDump (within_trans (by decide) hp)
          with_reducible assumption
        · extract_lets +onlyGivenNames x6
          clear_value x6
          extract_lets +onlyGivenNames x7
          clear_value x7
          extract_lets +onlyGivenNames x8
          have h8 : Frame P s0 (x8) := by
            unfold x8
            with_reducible apply frame_putBytes (within_trans (by decide) hp)
            with_reducible apply frame_putBytes (within_trans (by decide) hp)
            with_reducible assumption
          clear_value x8
          extract_lets +onlyGivenNames x9
          clear_value x9
          extract_lets +onlyGivenNames x10
          have h10 : Frame P s0 (x10) := by
            unfold x10
            with_reducible apply frame_setMeta (within_trans (by decide) hp)
            with_reducible assumption
          clear_value x10
          refine frame_onObs [.rings, .obs] (within_trans (by decide) hp) (.inr fun _ => rfl) (.inl rfl) (.inl rfl) ?_
          with_reducible assumption
      · with_reducible assumption
  · with_reducible assumption

theorem frame_dumpTrigger {P : List Part} {s0 : State} {line : Nat} {s : State} (hp : within [.obs] P = true) (h : Frame P s0 s) : Frame P s0 (dumpTrigger line s) := by
  unfold dumpTrigger
  refine frame_onObs [.obs] (within_trans (by decide) hp) (.inr fun _ => rfl) (.inr fun _ => rfl) (.inl rfl) ?_
  with_reducible assumption

theorem frame_commitRaw {P : List Part} {s0 : State} {l : Nat} {bytes : List Byte} {m : LineMeta} {s : State} (hp : within [.pkg, .mem, .dram, .mirror, .leaves, .power, .rings, .ctrs, .free] P = true) (h : Frame P s0 s) : Frame P s0 (commitRaw l bytes m s) := by
  unfold commitRaw
  extract_lets +onlyGivenNames x0
  clear_value x0
  extract_lets +onlyGivenNames x1
  clear_value x1
  extract_lets +onlyGivenNames x2
  have h2 : Frame P s0 (x2) := by
    unfold x2
    with_reducible apply frame_pantryRoom (within_trans (by decide) hp)
    with_reducible assumption
  clear_value x2
  extract_lets +onlyGivenNames x3
  have h3 : Frame P s0 (x3) := by
    unfold x3
    with_reducible apply frame_setMeta (within_trans (by decide) hp)
    with_reducible apply frame_putBytes (within_trans (by decide) hp)
    with_reducible assumption
  clear_value x3
  with_reducible apply frame_mirrorLine (within_trans (by decide) hp)
  with_reducible apply frame_mapGranule (within_trans (by decide) hp)
  with_reducible assumption

theorem frame_setTag {P : List Part} {s0 : State} {cluster : Nat} {set : Nat} {way : Nat} {v : Nat} {s : State} (hp : within [.pkg, .mem, .dram, .mirror, .leaves, .power, .rings, .ctrs, .free] P = true) (h : Frame P s0 s) : Frame P s0 (setTag cluster set way v s) := by
  unfold setTag
  with_reducible apply frame_ite
  · with_reducible assumption
  · with_reducible apply frame_commitRaw (within_trans (by decide) hp)
    with_reducible assumption

theorem frame_queueWriteback {P : List Part} {s0 : State} {cluster : Nat} {set : Nat} {way : Nat} {s : State} (hp : within [.deep] P = true) (h : Frame P s0 s) : Frame P s0 (queueWriteback cluster set way s) := by
  unfold queueWriteback
  with_reducible apply frame_ite
  · with_reducible assumption
  · with_reducible apply frame_onDeep (within_trans (by decide) hp)
    with_reducible assumption

theorem frame_dirtyFrame {P : List Part} {s0 : State} {line : Nat} {s : State} (hp : within [.pkg, .mem, .dram, .deep, .mirror, .leaves, .power, .rings, .ctrs, .free] P = true) (h : Frame P s0 s) : Frame P s0 (dirtyFrame line s) := by
  unfold dirtyFrame
  extract_lets +onlyGivenNames x0
  clear_value x0
  with_reducible apply frame_ite
  · split
    · with_reducible assumption
    · extract_lets +onlyGivenNames x1
      clear_value x1
      extract_lets +onlyGivenNames x2
      clear_value x2
      extract_lets +onlyGivenNames x3
      clear_value x3
      extract_lets +onlyGivenNames x4
      have h4 : Frame P s0 (x4) := by
        unfold x4
        with_reducible apply frame_ite
        · with_reducible assumption
        · with_reducible apply frame_onlyIf
          · intro x5 h6
            with_reducible apply frame_queueWriteback (within_trans (by decide) hp)
            with_reducible assumption
          · with_reducible apply frame_onDeep (within_trans (by decide) hp)
            with_reducible assumption
      clear_value x4
      with_reducible apply frame_setTag (within_trans (by decide) hp)
      with_reducible assumption
  · with_reducible assumption

theorem frame_poisonListed {P : List Part} {s0 : State} {ch : Nat} {line : Nat} {s : State} (hp : within [.dram] P = true) (h : Frame P s0 s) : Frame P s0 (poisonListed ch line s) := by
  unfold poisonListed
  with_reducible apply frame_setChannel (within_trans (by decide) hp)
  with_reducible assumption

theorem frame_commitLine {P : List Part} {s0 : State} {line : Nat} {bytes : List Byte} {m : LineMeta} {s : State} (hp : within [.pkg, .ledger, .mem, .dram, .deep, .mirror, .leaves, .power, .sessions, .obs, .rings, .kodp, .ctrs, .out, .free] P = true) (h : Frame P s0 s) : Frame P s0 (commitLine line bytes m s) := by
  unfold commitLine
  split
  · with_reducible assumption
  · with_reducible apply frame_ite
    · with_reducible apply frame_onlyIf
      · intro x0 h1
        with_reducible apply frame_poisonListed (within_trans (by decide) hp)
        with_reducible assumption
      · with_reducible assumption
    · with_reducible apply frame_dumpTrigger (within_trans (by decide) hp)
      with_reducible apply frame_commitRaw (within_trans (by decide) hp)
      with_reducible apply frame_dirtyFrame (within_trans (by decide) hp)
      with_reducible apply frame_dumpCopy (within_trans (by decide) hp)
      with_reducible assumption

theorem frame_writeLine {P : List Part} {s0 : State} {line : Nat} {bytes : List Byte} {poison : Bool} {cause : Nat} {tenant : Nat} {keyId : Nat} {s : State} (hp : within [.pkg, .ledger, .mem, .dram, .deep, .integ, .mirror, .leaves, .power, .sessions, .obs, .rings, .kodp, .ctrs, .out, .free] P = true) (h : Frame P s0 s) : Frame P s0 (writeLine line bytes poison cause tenant keyId s) := by
  unfold writeLine
  extract_lets +onlyGivenNames x0
  have h0 : Frame P s0 (x0) := by
    unfold x0
    with_reducible apply frame_commitLine (within_trans (by decide) hp)
    with_reducible assumption
  clear_value x0
  with_reducible apply frame_onlyIf
  · intro x1 h2
    with_reducible apply frame_poisonEvent (within_trans (by decide) hp)
    with_reducible assumption
  · with_reducible assumption

theorem frame_dirtyHeld {P : List Part} {s0 : State} {line : Nat} {s : State} (hp : within [.pkg, .mem, .dram, .deep, .mirror, .leaves, .power, .rings, .ctrs, .free] P = true) (h : Frame P s0 s) : Frame P s0 (dirtyHeld line s) := by
  unfold dirtyHeld
  with_reducible apply frame_forAll
  · intro x0 x1 h2
    with_reducible apply frame_dirtyFrame (within_trans (by decide) hp)
    with_reducible assumption
  · with_reducible assumption

theorem frame_poisonLine {P : List Part} {s0 : State} {line : Nat} {cause : Nat} {s : State} (hp : within [.pkg, .ledger, .mem, .dram, .deep, .integ, .mirror, .leaves, .power, .sessions, .obs, .rings, .kodp, .ctrs, .out, .free] P = true) (h : Frame P s0 s) : Frame P s0 (poisonLine line cause s) := by
  unfold poisonLine
  split
  · with_reducible assumption
  · with_reducible apply frame_dirtyHeld (within_trans (by decide) hp)
    with_reducible apply frame_poisonEvent (within_trans (by decide) hp)
    with_reducible apply frame_commitLine (within_trans (by decide) hp)
    with_reducible assumption

theorem frame_mergeLine {P : List Part} {s0 : State} {line : Nat} {new : List Byte} {mask : Nat → Bool} {poison : Bool} {cause : Nat} {tenant : Nat} {keyId : Nat} {s : State} (hp : within [.pkg, .ledger, .mem, .dram, .deep, .integ, .mirror, .leaves, .power, .sessions, .obs, .rings, .kodp, .ctrs, .out, .free] P = true) (h : Frame P s0 s) : Frame P s0 (mergeLine line new mask poison cause tenant keyId s) := by
  unfold mergeLine
  extract_lets +onlyGivenNames x0
  clear_value x0
  extract_lets +onlyGivenNames x1
  clear_value x1
  extract_lets +onlyGivenNames x2
  have h2 : Frame P s0 (x2) := by
    unfold x2
    with_reducible apply frame_commitLine (within_trans (by decide) hp)
    with_reducible assumption
  clear_value x2
  with_reducible apply frame_ite
  · with_reducible apply frame_poisonEvent (within_trans (by decide) hp)
    with_reducible assumption
  · with_reducible apply frame_onlyIf
    · intro x3 h4
      with_reducible apply frame_poisonEvent (within_trans (by decide) hp)
      with_reducible assumption
    · with_reducible assumption

theorem frame_writeOwn {P : List Part} {s0 : State} {pa : Nat} {bs : List Byte} {s : State} (hp : within [.pkg, .ledger, .mem, .dram, .deep, .mirror, .leaves, .power, .sessions, .obs, .rings, .kodp, .ctrs, .out, .free] P = true) (h : Frame P s0 s) : Frame P s0 (writeOwn pa bs s) := by
  unfold writeOwn
  extract_lets +onlyGivenNames x0
  clear_value x0
  extract_lets +onlyGivenNames x1
  clear_value x1
  with_reducible apply frame_forAll
  · intro x2 x3 h4
    extract_lets +onlyGivenNames x5
    clear_value x5
    extract_lets +onlyGivenNames x6
    clear_value x6
    extract_lets +onlyGivenNames x7
    clear_value x7
    extract_lets +onlyGivenNames x8
    clear_value x8
    with_reducible apply frame_commitLine (within_trans (by decide) hp)
    with_reducible assumption
  · with_reducible assumption

end Sys2Proof.Machine
end

