-- ==== Sys2Proof/Laws/FrameOpsXlate.lean ====
section
/-!
SUPPORT. Laws/FrameOpsXlate.lean: the frame of every operation and command of Machine/OpsXlate.lean.
-/
namespace Sys2Proof.Machine

theorem frame_fetchDesc {P : List Part} {s0 : State} {die : Nat} {ctx : Nat} {s : State} (hp : within [.part, .ctrs] P = true) (h : Frame P s0 s) : FrameP P s0 (fetchDesc die ctx s) := by
  unfold fetchDesc
  with_reducible apply frame_ite1
  · with_reducible apply frame_mk
    with_reducible assumption
  · split
    · with_reducible apply frame_mk
      with_reducible assumption
    · extract_lets +onlyGivenNames x0
      clear_value x0
      extract_lets +onlyGivenNames x1
      have h1 : Frame P s0 (x1) := by
        unfold x1
        with_reducible apply frame_bump (within_trans (by decide) hp)
        with_reducible assumption
      clear_value x1
      with_reducible apply frame_ite1
      · with_reducible apply frame_mk
        with_reducible assumption
      · with_reducible apply frame_mk
        with_reducible apply frame_onPart (within_trans (by decide) hp)
        with_reducible assumption

theorem frame_keepWalk {P : List Part} {s0 : State} {die : Nat} {ctx : Nat} {pva : Nat} {ps : List (Nat × Nat)} {s : State} (hp : within [.part] P = true) (h : Frame P s0 s) : Frame P s0 (keepWalk die ctx pva ps s) := by
  unfold keepWalk
  with_reducible apply frame_forAll
  · intro x0 x1 h2
    with_reducible apply frame_onPart (within_trans (by decide) hp)
    with_reducible assumption
  · with_reducible assumption

theorem frame_fetchLeaf {P : List Part} {s0 : State} {die : Nat} {ctx : Nat} {gen : Nat} {root : Nat} {pva : Nat} {s : State} (hp : within [.part, .ctrs] P = true) (h : Frame P s0 s) : FrameP P s0 (fetchLeaf die ctx gen root pva s) := by
  unfold fetchLeaf
  split
  · with_reducible apply frame_mk
    with_reducible apply frame_bump (within_trans (by decide) hp)
    with_reducible apply frame_bump (within_trans (by decide) hp)
    with_reducible assumption
  · with_reducible apply frame_ite1
    · with_reducible apply frame_mk
      with_reducible apply frame_bump (within_trans (by decide) hp)
      with_reducible assumption
    · extract_lets +onlyGivenNames x0
      clear_value x0
      extract_lets +onlyGivenNames x1
      clear_value x1
      split
      extract_lets +onlyGivenNames x2
      have h2 : Frame P s0 (x2) := by
        unfold x2
        with_reducible apply frame_keepWalk (within_trans (by decide) hp)
        with_reducible apply frame_bumpBy (within_trans (by decide) hp)
        with_reducible assumption
      clear_value x2
      extract_lets +onlyGivenNames x3
      have h3 : ∀ y0, Frame P s0 y0 → Frame P s0 (x3 y0) := by
        intro x4 h5
        unfold x3
        with_reducible apply frame_bump (within_trans (by decide) hp)
        with_reducible apply frame_bump (within_trans (by decide) hp)
        with_reducible apply frame_onlyIf
        · intro x6 h7
          with_reducible apply frame_bump (within_trans (by decide) hp)
          with_reducible assumption
        · with_reducible assumption
      clear_value x3
      split
      · with_reducible apply frame_mk
        with_reducible assumption
      · extract_lets +onlyGivenNames x8
        have h8 : Frame P s0 (x8) := by
          unfold x8
          with_reducible apply frame_bump (within_trans (by decide) hp)
          with_reducible apply h3
          with_reducible assumption
        clear_value x8
        extract_lets +onlyGivenNames x9
        have h9 : Frame P s0 (x9) := by
          unfold x9
          with_reducible apply frame_onlyIf
          · intro x10 h11
            with_reducible apply frame_bump (within_trans (by decide) hp)
            with_reducible assumption
          · with_reducible assumption
        clear_value x9
        extract_lets +onlyGivenNames x12
        have h12 : Frame P s0 (x12) := by
          unfold x12
          with_reducible apply frame_onlyIf
          · intro x13 h14
            with_reducible apply frame_bump (within_trans (by decide) hp)
            with_reducible assumption
          · with_reducible assumption
        clear_value x12
        with_reducible apply frame_mk
        with_reducible apply frame_onPart (within_trans (by decide) hp)
        with_reducible assumption
      · with_reducible apply frame_mk
        with_reducible apply frame_onlyIf
        · intro x15 h16
          with_reducible apply frame_bump (within_trans (by decide) hp)
          with_reducible assumption
        · with_reducible apply h3
          with_reducible assumption

theorem frame_translate {P : List Part} {s0 : State} {die : Nat} {ctx : Nat} {addr : Nat} {need : List Nat} {write : Bool} {s : State} (hp : within [.part, .ctrs] P = true) (h : Frame P s0 s) : FrameP P s0 (translate die ctx addr need write s) := by
  unfold translate
  split
  extract_lets +onlyGivenNames x0
  clear_value x0
  with_reducible apply frame_ite1
  · with_reducible apply frame_mk
    refine frame_of_fst (by with_reducible assumption) ?_
    with_reducible apply frame_fetchDesc (within_trans (by decide) hp)
    with_reducible assumption
  · with_reducible apply frame_ite1
    · with_reducible apply frame_mk
      with_reducible apply frame_bump (within_trans (by decide) hp)
      refine frame_of_fst (by with_reducible assumption) ?_
      with_reducible apply frame_fetchDesc (within_trans (by decide) hp)
      with_reducible assumption
    · extract_lets +onlyGivenNames x1
      clear_value x1
      extract_lets +onlyGivenNames x2
      clear_value x2
      split
      · with_reducible apply frame_mk
        refine frame_of_fst (by with_reducible assumption) ?_
        with_reducible apply frame_fetchDesc (within_trans (by decide) hp)
        with_reducible assumption
      · with_reducible apply frame_ite1
        · with_reducible apply frame_mk
          refine frame_of_fst (by with_reducible assumption) ?_
          with_reducible apply frame_fetchDesc (within_trans (by decide) hp)
          with_reducible assumption
        · with_reducible apply frame_ite1
          · with_reducible apply frame_mk
            refine frame_of_fst (by with_reducible assumption) ?_
            with_reducible apply frame_fetchDesc (within_trans (by decide) hp)
            with_reducible assumption
          · extract_lets +onlyGivenNames x3
            clear_value x3
            with_reducible apply frame_ite1
            · with_reducible apply frame_mk
              refine frame_of_fst (by with_reducible assumption) ?_
              with_reducible apply frame_fetchDesc (within_trans (by decide) hp)
              with_reducible assumption
            · with_reducible apply frame_ite1
              · split
                · with_reducible apply frame_mk
                  refine frame_of_fst (by with_reducible assumption) ?_
                  with_reducible apply frame_fetchLeaf (within_trans (by decide) hp)
                  refine frame_of_fst (by with_reducible assumption) ?_
                  with_reducible apply frame_fetchDesc (within_trans (by decide) hp)
                  with_reducible assumption
                · with_reducible apply frame_mk
                  refine frame_of_fst (by with_reducible assumption) ?_
                  with_reducible apply frame_fetchLeaf (within_trans (by decide) hp)
                  refine frame_of_fst (by with_reducible assumption) ?_
                  with_reducible apply frame_fetchDesc (within_trans (by decide) hp)
                  with_reducible assumption
                · extract_lets +onlyGivenNames x4
                  clear_value x4
                  with_reducible apply frame_ite1
                  · with_reducible apply frame_mk
                    refine frame_of_fst (by with_reducible assumption) ?_
                    with_reducible apply frame_fetchLeaf (within_trans (by decide) hp)
                    refine frame_of_fst (by with_reducible assumption) ?_
                    with_reducible apply frame_fetchDesc (within_trans (by decide) hp)
                    with_reducible assumption
                  · with_reducible apply frame_mk
                    refine frame_of_fst (by with_reducible assumption) ?_
                    with_reducible apply frame_fetchLeaf (within_trans (by decide) hp)
                    refine frame_of_fst (by with_reducible assumption) ?_
                    with_reducible apply frame_fetchDesc (within_trans (by decide) hp)
                    with_reducible assumption
              · extract_lets +onlyGivenNames x5
                clear_value x5
                with_reducible apply frame_ite1
                · with_reducible apply frame_mk
                  refine frame_of_fst (by with_reducible assumption) ?_
                  with_reducible apply frame_fetchDesc (within_trans (by decide) hp)
                  with_reducible assumption
                · with_reducible apply frame_mk
                  refine frame_of_fst (by with_reducible assumption) ?_
                  with_reducible apply frame_fetchDesc (within_trans (by decide) hp)
                  with_reducible assumption

end Sys2Proof.Machine
end

