-- ==== Sys2Proof/Laws/FrameOpsDir.lean ====
section
/-!
SUPPORT. Laws/FrameOpsDir.lean: the frame of every operation and command of Machine/OpsDir.lean.
-/
namespace Sys2Proof.Machine

theorem frame_sendPool {P : List Part} {s0 : State} {issuer : Issuer} {key : Nat} {port : Option Nat} {tag : Nat} {p : Packet} {s : State} (hp : within [.txn, .ledger, .leaves] P = true) (h : Frame P s0 s) : Frame P s0 (sendPool issuer key port tag p s) := by
  unfold sendPool
  extract_lets +onlyGivenNames x0
  have h0 : Frame P s0 (x0) := by
    unfold x0
    split
    · with_reducible apply frame_sendOnPort (within_trans (by decide) hp)
      with_reducible assumption
    · with_reducible apply frame_sendPacket (within_trans (by decide) hp)
      with_reducible assumption
  clear_value x0
  with_reducible apply frame_tookTag (within_trans (by decide) hp)
  refine frame_onTxn [.ledger, .txn] (within_trans (by decide) hp) (.inl rfl) (.inl rfl) ?_
  with_reducible assumption

theorem frame_issuePool {P : List Part} {s0 : State} {issuer : Issuer} {key : Nat} {port : Option Nat} {p : Packet} {s : State} (hp : within [.txn, .ledger, .leaves] P = true) (h : Frame P s0 s) : Frame P s0 (issuePool issuer key port p s) := by
  unfold issuePool
  split
  · with_reducible apply frame_sendPool (within_trans (by decide) hp)
    with_reducible assumption
  · refine frame_onTxn [.ledger, .txn] (within_trans (by decide) hp) (.inl rfl) (.inl rfl) ?_
    with_reducible assumption

theorem frame_endPool {P : List Part} {s0 : State} {q : PoolReq} {s : State} (hp : within [.txn, .ledger, .leaves] P = true) (h : Frame P s0 s) : Frame P s0 (endPool q s) := by
  unfold endPool
  extract_lets +onlyGivenNames x0
  have h0 : Frame P s0 (x0) := by
    unfold x0
    refine frame_onTxn [.ledger, .txn] (within_trans (by decide) hp) (.inl rfl) (.inl rfl) ?_
    with_reducible assumption
  clear_value x0
  split
  · with_reducible apply frame_issuePool (within_trans (by decide) hp)
    refine frame_onTxn [.ledger, .txn] (within_trans (by decide) hp) (.inl rfl) (.inl rfl) ?_
    with_reducible assumption
  · with_reducible assumption

theorem frame_dropPool {P : List Part} {s0 : State} {gone : Issuer → Nat → Nat → Bool} {s : State} (hp : within [.txn] P = true) (h : Frame P s0 s) : Frame P s0 (dropPool gone s) := by
  unfold dropPool
  refine frame_onTxn [.txn] (within_trans (by decide) hp) (.inr fun _ => rfl) (.inl rfl) ?_
  with_reducible assumption

theorem frame_mirrorEntry {P : List Part} {s0 : State} {line : Nat} {s : State} (hp : within [.mirror, .leaves, .ctrs] P = true) (h : Frame P s0 s) : Frame P s0 (mirrorEntry line s) := by
  unfold mirrorEntry
  with_reducible apply frame_mirrorState (within_trans (by decide) hp)
  with_reducible assumption

theorem frame_mirrorRegion {P : List Part} {s0 : State} {reg : Nat} {s : State} (hp : within [.mirror, .leaves, .ctrs] P = true) (h : Frame P s0 s) : Frame P s0 (mirrorRegion reg s) := by
  unfold mirrorRegion
  with_reducible apply frame_mirrorState (within_trans (by decide) hp)
  with_reducible assumption

theorem frame_touchEntry {P : List Part} {s0 : State} {line : Nat} {s : State} (hp : within [.dir] P = true) (h : Frame P s0 s) : Frame P s0 (touchEntry line s) := by
  unfold touchEntry
  extract_lets +onlyGivenNames x0
  clear_value x0
  extract_lets +onlyGivenNames x1
  clear_value x1
  with_reducible apply frame_onDir (within_trans (by decide) hp)
  with_reducible assumption

theorem frame_putEntry {P : List Part} {s0 : State} {line : Nat} {e : DirEntry} {s : State} (hp : within [.dir, .mirror, .leaves, .ctrs] P = true) (h : Frame P s0 s) : Frame P s0 (putEntry line e s) := by
  unfold putEntry
  extract_lets +onlyGivenNames x0
  clear_value x0
  extract_lets +onlyGivenNames x1
  have h1 : Frame P s0 (x1) := by
    unfold x1
    with_reducible apply frame_touchEntry (within_trans (by decide) hp)
    with_reducible apply frame_onDir (within_trans (by decide) hp)
    with_reducible assumption
  clear_value x1
  extract_lets +onlyGivenNames x2
  clear_value x2
  extract_lets +onlyGivenNames x3
  have h3 : Frame P s0 (x3) := by
    unfold x3
    with_reducible apply frame_mirrorEntry (within_trans (by decide) hp)
    with_reducible assumption
  clear_value x3
  with_reducible apply frame_ite
  · with_reducible apply frame_mirrorRegion (within_trans (by decide) hp)
    with_reducible apply frame_onDir (within_trans (by decide) hp)
    with_reducible assumption
  · with_reducible assumption

theorem frame_dropEntry {P : List Part} {s0 : State} {line : Nat} {s : State} (hp : within [.dir, .mirror, .leaves, .ctrs] P = true) (h : Frame P s0 s) : Frame P s0 (dropEntry line s) := by
  unfold dropEntry
  with_reducible apply frame_ite
  · with_reducible assumption
  · extract_lets +onlyGivenNames x0
    have h0 : Frame P s0 (x0) := by
      unfold x0
      with_reducible apply frame_mirrorEntry (within_trans (by decide) hp)
      with_reducible apply frame_onDir (within_trans (by decide) hp)
      with_reducible assumption
    clear_value x0
    extract_lets +onlyGivenNames x1
    clear_value x1
    extract_lets +onlyGivenNames x2
    clear_value x2
    with_reducible apply frame_mirrorRegion (within_trans (by decide) hp)
    with_reducible apply frame_onDir (within_trans (by decide) hp)
    with_reducible assumption

theorem frame_putOrDrop {P : List Part} {s0 : State} {line : Nat} {e : DirEntry} {s : State} (hp : within [.dir, .mirror, .leaves, .ctrs] P = true) (h : Frame P s0 s) : Frame P s0 (putOrDrop line e s) := by
  unfold putOrDrop
  with_reducible apply frame_ite
  · with_reducible apply frame_dropEntry (within_trans (by decide) hp)
    with_reducible assumption
  · with_reducible apply frame_putEntry (within_trans (by decide) hp)
    with_reducible assumption

theorem frame_grantEntry {P : List Part} {s0 : State} {line : Nat} {ctx : Nat} {addr : Nat} {e : DirEntry} {s : State} (hp : within [.dir, .mirror, .leaves, .ctrs] P = true) (h : Frame P s0 s) : Frame P s0 (grantEntry line ctx addr e s) := by
  unfold grantEntry
  extract_lets +onlyGivenNames x0
  clear_value x0
  extract_lets +onlyGivenNames x1
  have h1 : Frame P s0 (x1) := by
    unfold x1
    with_reducible apply frame_ite
    · with_reducible assumption
    · with_reducible apply frame_onDir (within_trans (by decide) hp)
      with_reducible assumption
  clear_value x1
  with_reducible apply frame_putEntry (within_trans (by decide) hp)
  with_reducible assumption

theorem frame_countLoss {P : List Part} {s0 : State} {slot : Nat} {f : LossCounts → LossCounts} {s : State} (hp : within [.part] P = true) (h : Frame P s0 s) : Frame P s0 (countLoss slot f s) := by
  unfold countLoss
  with_reducible apply frame_onPart (within_trans (by decide) hp)
  with_reducible assumption

theorem frame_applyLoss {P : List Part} {s0 : State} {line : Nat} {slot : Nat} {s : State} (hp : within [.pkg, .ledger, .part, .dir, .mem, .dram, .deep, .integ, .mirror, .leaves, .power, .sessions, .obs, .rings, .kodp, .ctrs, .out, .free] P = true) (h : Frame P s0 s) : Frame P s0 (applyLoss line slot s) := by
  unfold applyLoss
  split
  · with_reducible assumption
  · with_reducible apply frame_ite
    · with_reducible apply frame_poisonLine (within_trans (by decide) hp)
      with_reducible assumption
    · with_reducible apply frame_ite
      · with_reducible apply frame_ite
        · with_reducible apply frame_countLoss (within_trans (by decide) hp)
          with_reducible assumption
        · with_reducible assumption
      · with_reducible apply frame_ite
        · with_reducible assumption
        · split
          · extract_lets +onlyGivenNames x0
            have h0 : Frame P s0 (x0) := by
              unfold x0
              with_reducible apply frame_poisonLine (within_trans (by decide) hp)
              with_reducible apply frame_countLoss (within_trans (by decide) hp)
              with_reducible assumption
            clear_value x0
            with_reducible apply frame_ite
            · with_reducible apply frame_putEntry (within_trans (by decide) hp)
              with_reducible assumption
            · with_reducible apply frame_dropEntry (within_trans (by decide) hp)
              with_reducible assumption
          · extract_lets +onlyGivenNames x1
            have h1 : Frame P s0 (x1) := by
              unfold x1
              with_reducible apply frame_countLoss (within_trans (by decide) hp)
              with_reducible assumption
            clear_value x1
            with_reducible apply frame_ite
            · with_reducible apply frame_putEntry (within_trans (by decide) hp)
              with_reducible assumption
            · with_reducible apply frame_dropEntry (within_trans (by decide) hp)
              with_reducible assumption
          · extract_lets +onlyGivenNames x2
            have h2 : Frame P s0 (x2) := by
              unfold x2
              with_reducible apply frame_countLoss (within_trans (by decide) hp)
              with_reducible assumption
            clear_value x2
            with_reducible apply frame_ite
            · with_reducible apply frame_putEntry (within_trans (by decide) hp)
              with_reducible assumption
            · with_reducible apply frame_putOrDrop (within_trans (by decide) hp)
              with_reducible assumption

theorem frame_writeSnoop {P : List Part} {s0 : State} {line : Nat} {bytes : List Byte} {poison : Bool} {s : State} (hp : within [.pkg, .ledger, .mem, .dram, .deep, .integ, .mirror, .leaves, .power, .sessions, .obs, .rings, .kodp, .ctrs, .out, .free] P = true) (h : Frame P s0 s) : Frame P s0 (writeSnoop line bytes poison s) := by
  unfold writeSnoop
  split
  · with_reducible apply frame_writeLine (within_trans (by decide) hp)
    with_reducible assumption
  · with_reducible apply frame_poisonEvent (within_trans (by decide) hp)
    with_reducible apply frame_commitLine (within_trans (by decide) hp)
    with_reducible assumption

theorem frame_takeEviction {P : List Part} {s0 : State} {v : Eviction} {s : State} (hp : within [.pkg, .ledger, .dir, .mem, .dram, .deep, .integ, .mirror, .leaves, .power, .sessions, .obs, .rings, .kodp, .ctrs, .out, .free] P = true) (h : Frame P s0 s) : Frame P s0 (takeEviction v s) := by
  unfold takeEviction
  extract_lets +onlyGivenNames x0
  have h0 : Frame P s0 (x0) := by
    unfold x0
    with_reducible apply frame_onDir (within_trans (by decide) hp)
    with_reducible assumption
  clear_value x0
  split
  · with_reducible assumption
  · extract_lets +onlyGivenNames x1
    have h1 : Frame P s0 (x1) := by
      unfold x1
      split
      · split
        · with_reducible apply frame_writeLine (within_trans (by decide) hp)
          with_reducible assumption
        · with_reducible assumption
      · with_reducible assumption
    clear_value x1
    with_reducible apply frame_ite
    · with_reducible assumption
    · with_reducible apply frame_putEntry (within_trans (by decide) hp)
      with_reducible assumption

theorem frame_dumpSettled {P : List Part} {s0 : State} {line : Nat} {s : State} (hp : within [.obs] P = true) (h : Frame P s0 s) : Frame P s0 (dumpSettled line s) := by
  unfold dumpSettled
  refine frame_onObs [.obs] (within_trans (by decide) hp) (.inr fun _ => rfl) (.inr fun _ => rfl) (.inl rfl) ?_
  with_reducible assumption

theorem frame_closeRecall {P : List Part} {s0 : State} {line : Nat} {s : State} (hp : within [.dir, .mirror, .leaves, .obs, .ctrs] P = true) (h : Frame P s0 s) : Frame P s0 (closeRecall line s) := by
  unfold closeRecall
  extract_lets +onlyGivenNames x0
  have h0 : Frame P s0 (x0) := by
    unfold x0
    with_reducible apply frame_dumpSettled (within_trans (by decide) hp)
    with_reducible assumption
  clear_value x0
  split
  · extract_lets +onlyGivenNames x1
    have h1 : Frame P s0 (x1) := by
      unfold x1
      with_reducible apply frame_onDir (within_trans (by decide) hp)
      with_reducible assumption
    clear_value x1
    extract_lets +onlyGivenNames x2
    clear_value x2
    extract_lets +onlyGivenNames x3
    clear_value x3
    with_reducible apply frame_putOrDrop (within_trans (by decide) hp)
    with_reducible assumption
  · with_reducible apply frame_onDir (within_trans (by decide) hp)
    with_reducible assumption
  · with_reducible assumption

theorem frame_sendSnoop {P : List Part} {s0 : State} {down : Bool} {line : Nat} {slot : Nat} {s : State} (hp : within [.txn, .ledger, .leaves, .ctrs] P = true) (h : Frame P s0 s) : Frame P s0 (sendSnoop down line slot s) := by
  unfold sendSnoop
  split
  · extract_lets +onlyGivenNames x0
    clear_value x0
    with_reducible apply frame_bump (within_trans (by decide) hp)
    with_reducible apply frame_issuePool (within_trans (by decide) hp)
    with_reducible assumption
  · with_reducible assumption

theorem frame_startRecall {P : List Part} {s0 : State} {line : Nat} {down : Bool} {targets : List Nat} {kind : Nat} {keep : List Nat} {cause : RecallCause} {s : State} (hp : within [.pkg, .txn, .ledger, .part, .dir, .mem, .dram, .deep, .integ, .mirror, .leaves, .power, .sessions, .obs, .rings, .kodp, .ctrs, .out, .free] P = true) (h : Frame P s0 s) : Frame P s0 (startRecall line down targets kind keep cause s) := by
  unfold startRecall
  split
  · with_reducible assumption
  · extract_lets +onlyGivenNames x0
    have h0 : Frame P s0 (x0) := by
      unfold x0
      with_reducible apply frame_putEntry (within_trans (by decide) hp)
      with_reducible assumption
    clear_value x0
    extract_lets +onlyGivenNames x1
    have h1 : Frame P s0 (x1) := by
      unfold x1
      with_reducible apply frame_onDir (within_trans (by decide) hp)
      with_reducible assumption
    clear_value x1
    extract_lets +onlyGivenNames x2
    have h2 : Frame P s0 (x2) := by
      unfold x2
      with_reducible apply frame_forAll
      · intro x3 x4 h5
        extract_lets +onlyGivenNames x6
        clear_value x6
        with_reducible apply frame_ite
        · with_reducible apply frame_applyLoss (within_trans (by decide) hp)
          with_reducible assumption
        · split
          · with_reducible apply frame_takeEviction (within_trans (by decide) hp)
            with_reducible assumption
          · extract_lets +onlyGivenNames x7
            clear_value x7
            extract_lets +onlyGivenNames x8
            clear_value x8
            extract_lets +onlyGivenNames x9
            have h9 : Frame P s0 (x9) := by
              unfold x9
              with_reducible apply frame_onDir (within_trans (by decide) hp)
              with_reducible assumption
            clear_value x9
            with_reducible apply frame_ite
            · with_reducible assumption
            · with_reducible apply frame_sendSnoop (within_trans (by decide) hp)
              with_reducible assumption
      · with_reducible assumption
    clear_value x2
    split
    · with_reducible apply frame_ite
      · with_reducible apply frame_closeRecall (within_trans (by decide) hp)
        with_reducible assumption
      · with_reducible assumption
    · with_reducible assumption

theorem frame_settleSlot {P : List Part} {s0 : State} {line : Nat} {slot : Nat} {s : State} (hp : within [.dir, .mirror, .leaves, .obs, .ctrs] P = true) (h : Frame P s0 s) : Frame P s0 (settleSlot line slot s) := by
  unfold settleSlot
  extract_lets +onlyGivenNames x0
  have h0 : Frame P s0 (x0) := by
    unfold x0
    with_reducible apply frame_onDir (within_trans (by decide) hp)
    with_reducible assumption
  clear_value x0
  split
  · with_reducible apply frame_ite
    · with_reducible apply frame_closeRecall (within_trans (by decide) hp)
      with_reducible assumption
    · with_reducible assumption
  · with_reducible assumption

theorem frame_answerState {P : List Part} {s0 : State} {line : Nat} {slot : Nat} {st : Nat} {s : State} (hp : within [.dir, .mirror, .leaves, .obs, .ctrs] P = true) (h : Frame P s0 s) : Frame P s0 (answerState line slot st s) := by
  unfold answerState
  split
  · extract_lets +onlyGivenNames x0
    have h0 : Frame P s0 (x0) := by
      unfold x0
      with_reducible apply frame_ite
      · with_reducible assumption
      · with_reducible apply frame_putEntry (within_trans (by decide) hp)
        with_reducible assumption
    clear_value x0
    with_reducible apply frame_settleSlot (within_trans (by decide) hp)
    with_reducible assumption
  · with_reducible assumption

theorem frame_recallRegion {P : List Part} {s0 : State} {reg : Nat} {kind : Nat} {s : State} (hp : within [.pkg, .txn, .ledger, .part, .dir, .mem, .dram, .deep, .integ, .mirror, .leaves, .power, .sessions, .obs, .rings, .kodp, .ctrs, .out, .free] P = true) (h : Frame P s0 s) : Frame P s0 (recallRegion reg kind s) := by
  unfold recallRegion
  with_reducible apply frame_forAll
  · intro x0 x1 h2
    split
    · with_reducible apply frame_ite
      · with_reducible assumption
      · with_reducible apply frame_startRecall (within_trans (by decide) hp)
        with_reducible assumption
    · with_reducible assumption
  · with_reducible apply frame_bump (within_trans (by decide) hp)
    with_reducible assumption

theorem frame_recallAll {P : List Part} {s0 : State} {line : Nat} {kind : Nat} {s : State} (hp : within [.pkg, .txn, .ledger, .part, .dir, .mem, .dram, .deep, .integ, .mirror, .leaves, .power, .sessions, .obs, .rings, .kodp, .ctrs, .out, .free] P = true) (h : Frame P s0 s) : Frame P s0 (recallAll line kind s) := by
  unfold recallAll
  split
  · with_reducible apply frame_ite
    · with_reducible assumption
    · with_reducible apply frame_startRecall (within_trans (by decide) hp)
      with_reducible assumption
  · with_reducible assumption

end Sys2Proof.Machine
end

