-- ==== Sys2Proof/Laws/FrameOpsDeep.lean ====
section
/-!
SUPPORT. Laws/FrameOpsDeep.lean: the frame of every operation and command of Machine/OpsDeep.lean.
-/
namespace Sys2Proof.Machine

theorem frame_sendDt {P : List Part} {s0 : State} {sled : Nat} {vc : Nat} {op : Nat} {harg : Nat} {key : Nat} {body : List Byte} {s : State} (hp : within [.txn, .ledger, .leaves] P = true) (h : Frame P s0 s) : Frame P s0 (sendDt sled vc op harg key body s) := by
  unfold sendDt
  extract_lets +onlyGivenNames x0
  clear_value x0
  extract_lets +onlyGivenNames x1
  clear_value x1
  with_reducible apply frame_sendPool (within_trans (by decide) hp)
  with_reducible assumption

theorem frame_sendInfo {P : List Part} {s0 : State} {sled : Nat} {s : State} (hp : within [.txn, .ledger, .leaves] P = true) (h : Frame P s0 s) : Frame P s0 (sendInfo sled s) := by
  unfold sendInfo
  with_reducible apply frame_sendDt (within_trans (by decide) hp)
  with_reducible assumption

theorem frame_sendClaim {P : List Part} {s0 : State} {sled : Nat} {epoch : Nat} {s : State} (hp : within [.txn, .ledger, .leaves] P = true) (h : Frame P s0 s) : Frame P s0 (sendClaim sled epoch s) := by
  unfold sendClaim
  with_reducible apply frame_sendDt (within_trans (by decide) hp)
  with_reducible assumption

theorem frame_stopDeep {P : List Part} {s0 : State} {s : State} (hp : within [.txn, .ledger, .deep, .mirror, .leaves, .sessions, .rings, .kodp, .running, .ctrs, .out] P = true) (h : Frame P s0 s) : Frame P s0 (stopDeep s) := by
  unfold stopDeep
  extract_lets +onlyGivenNames x0
  have h0 : Frame P s0 (x0) := by
    unfold x0
    split
    · with_reducible apply frame_reply (within_trans (by decide) hp)
      with_reducible assumption
    · with_reducible assumption
  clear_value x0
  with_reducible apply frame_onDeep (within_trans (by decide) hp)
  with_reducible apply frame_dropPool (within_trans (by decide) hp)
  with_reducible assumption

theorem frame_quarantine {P : List Part} {s0 : State} {cluster : Nat} {set : Nat} {s : State} (hp : within [.ledger, .deep, .leaves, .sessions, .rings, .kodp, .ctrs, .out] P = true) (h : Frame P s0 s) : Frame P s0 (quarantine cluster set s) := by
  unfold quarantine
  with_reducible apply frame_ite
  · with_reducible assumption
  · with_reducible apply frame_notify (within_trans (by decide) hp)
    with_reducible apply frame_onDeep (within_trans (by decide) hp)
    with_reducible assumption

theorem frame_cleanGranule {P : List Part} {s0 : State} {g : Nat} {drop : Bool} {s : State} (hp : within [.pkg, .mem, .dram, .power, .rings, .ctrs, .free] P = true) (h : Frame P s0 s) : Frame P s0 (cleanGranule g drop s) := by
  unfold cleanGranule
  split
  · with_reducible assumption
  · extract_lets +onlyGivenNames x0
    clear_value x0
    with_reducible apply frame_forAll
    · intro x1 x2 h3
      with_reducible apply frame_onlyIf
      · intro x4 h5
        with_reducible apply frame_dramPush (within_trans (by decide) hp)
        with_reducible assumption
      · with_reducible apply frame_setMeta (within_trans (by decide) hp)
        with_reducible assumption
    · with_reducible assumption

theorem frame_fetchTag {P : List Part} {s0 : State} {cluster : Nat} {set : Nat} {s : State} (hp : within [.pkg, .dram, .power, .rings, .ctrs, .free] P = true) (h : Frame P s0 s) : Frame P s0 (fetchTag cluster set s) := by
  unfold fetchTag
  extract_lets +onlyGivenNames x0
  clear_value x0
  with_reducible apply frame_ite
  · with_reducible assumption
  · with_reducible apply frame_dramPush (within_trans (by decide) hp)
    with_reducible assumption

theorem frame_sendWriteback {P : List Part} {s0 : State} {w : Writeback} {s : State} (hp : within [.txn, .ledger, .deep, .leaves] P = true) (h : Frame P s0 s) : Frame P s0 (sendWriteback w s) := by
  unfold sendWriteback
  extract_lets +onlyGivenNames x0
  clear_value x0
  extract_lets +onlyGivenNames x1
  clear_value x1
  extract_lets +onlyGivenNames x2
  clear_value x2
  extract_lets +onlyGivenNames x3
  have h3 : Frame P s0 (x3) := by
    unfold x3
    with_reducible apply frame_onDeep (within_trans (by decide) hp)
    with_reducible assumption
  clear_value x3
  extract_lets +onlyGivenNames x4
  have h4 : Frame P s0 (x4) := by
    unfold x4
    with_reducible apply frame_sendPool (within_trans (by decide) hp)
    with_reducible assumption
  clear_value x4
  extract_lets +onlyGivenNames x5
  clear_value x5
  with_reducible apply frame_forAll
  · intro x6 x7 h8
    extract_lets +onlyGivenNames x9
    clear_value x9
    extract_lets +onlyGivenNames x10
    clear_value x10
    with_reducible apply frame_sendOnPort (within_trans (by decide) hp)
    with_reducible assumption
  · with_reducible assumption

theorem frame_readForWriteback {P : List Part} {s0 : State} {g : Nat} {skips : Nat → Bool} {s : State} (hp : within [.txn, .ledger, .deep, .leaves] P = true) (h : Frame P s0 s) : Frame P s0 (readForWriteback g skips s) := by
  unfold readForWriteback
  split
  · with_reducible assumption
  · extract_lets +onlyGivenNames x0
    clear_value x0
    extract_lets +onlyGivenNames x1
    have h1 : Frame P s0 (x1) := by
      unfold x1
      with_reducible apply frame_onDeep (within_trans (by decide) hp)
      with_reducible assumption
    clear_value x1
    with_reducible apply frame_ite
    · with_reducible apply frame_sendWriteback (within_trans (by decide) hp)
      with_reducible assumption
    · with_reducible assumption

theorem frame_startWriteback {P : List Part} {s0 : State} {cluster : Nat} {set : Nat} {way : Nat} {s : State} (hp : within [.pkg, .txn, .ledger, .mem, .dram, .deep, .mirror, .leaves, .power, .rings, .ctrs, .free] P = true) (h : Frame P s0 s) : Frame P s0 (startWriteback cluster set way s) := by
  unfold startWriteback
  with_reducible apply frame_ite
  · with_reducible apply frame_fetchTag (within_trans (by decide) hp)
    with_reducible assumption
  · extract_lets +onlyGivenNames x0
    clear_value x0
    extract_lets +onlyGivenNames x1
    clear_value x1
    extract_lets +onlyGivenNames x2
    clear_value x2
    extract_lets +onlyGivenNames x3
    clear_value x3
    with_reducible apply frame_ite
    · with_reducible assumption
    · extract_lets +onlyGivenNames x4
      have h4 : Frame P s0 (x4) := by
        unfold x4
        with_reducible apply frame_cleanGranule (within_trans (by decide) hp)
        with_reducible apply frame_setTag (within_trans (by decide) hp)
        with_reducible assumption
      clear_value x4
      extract_lets +onlyGivenNames x5
      clear_value x5
      extract_lets +onlyGivenNames x6
      clear_value x6
      extract_lets +onlyGivenNames x7
      clear_value x7
      extract_lets +onlyGivenNames x8
      have h8 : Frame P s0 (x8) := by
        unfold x8
        with_reducible apply frame_bump (within_trans (by decide) hp)
        with_reducible apply frame_bumpBy (within_trans (by decide) hp)
        with_reducible apply frame_onDeep (within_trans (by decide) hp)
        with_reducible assumption
      clear_value x8
      with_reducible apply frame_ite
      · with_reducible apply frame_sendWriteback (within_trans (by decide) hp)
        with_reducible assumption
      · with_reducible apply frame_forAll
        · intro x9 x10 h11
          with_reducible apply frame_dramPush (within_trans (by decide) hp)
          with_reducible assumption
        · with_reducible assumption

theorem frame_runQueue {P : List Part} {s0 : State} {s : State} (hp : within [.pkg, .txn, .ledger, .mem, .dram, .deep, .mirror, .leaves, .power, .rings, .ctrs, .free] P = true) (h : Frame P s0 s) : Frame P s0 (runQueue s) := by
  unfold runQueue
  with_reducible apply frame_forAll
  · intro x0 x1 h2
    extract_lets +onlyGivenNames x3
    have h3 : Frame P s0 (x3) := by
      unfold x3
      with_reducible apply frame_startWriteback (within_trans (by decide) hp)
      with_reducible assumption
    clear_value x3
    extract_lets +onlyGivenNames x4
    clear_value x4
    with_reducible apply frame_ite
    · with_reducible apply frame_onDeep (within_trans (by decide) hp)
      with_reducible assumption
    · with_reducible assumption
  · with_reducible assumption

theorem frame_recallGranule {P : List Part} {s0 : State} {g : Nat} {s : State} (hp : within [.pkg, .txn, .ledger, .part, .dir, .mem, .dram, .deep, .integ, .mirror, .leaves, .power, .sessions, .obs, .rings, .kodp, .ctrs, .out, .free] P = true) (h : Frame P s0 s) : FrameP P s0 (recallGranule g s) := by
  unfold recallGranule
  extract_lets +onlyGivenNames x0
  clear_value x0
  extract_lets +onlyGivenNames x1
  have h1 : Frame P s0 (x1) := by
    unfold x1
    with_reducible apply frame_forAll
    · intro x2 x3 h4
      with_reducible apply frame_recallAll (within_trans (by decide) hp)
      with_reducible assumption
    · with_reducible assumption
  clear_value x1
  with_reducible apply frame_mk
  with_reducible assumption

theorem frame_takeWay {P : List Part} {s0 : State} {cluster : Nat} {set : Nat} {w : Nat} {s : State} (hp : within [.pkg, .txn, .ledger, .part, .dir, .mem, .dram, .deep, .integ, .mirror, .leaves, .power, .sessions, .obs, .rings, .kodp, .ctrs, .out, .free] P = true) (h : Frame P s0 s) : FrameP P s0 (takeWay cluster set w s) := by
  unfold takeWay
  extract_lets +onlyGivenNames x0
  clear_value x0
  split
  with_reducible apply frame_ite1
  · with_reducible apply frame_mk
    with_reducible apply frame_bump (within_trans (by decide) hp)
    with_reducible apply frame_cleanGranule (within_trans (by decide) hp)
    with_reducible apply frame_onDeep (within_trans (by decide) hp)
    refine frame_of_fst (by with_reducible assumption) ?_
    with_reducible apply frame_recallGranule (within_trans (by decide) hp)
    with_reducible assumption
  · with_reducible apply frame_mk
    with_reducible apply frame_onDeep (within_trans (by decide) hp)
    refine frame_of_fst (by with_reducible assumption) ?_
    with_reducible apply frame_recallGranule (within_trans (by decide) hp)
    with_reducible assumption

theorem frame_handSteps {P : List Part} {s0 : State} {cluster : Nat} {set : Nat} {a0 : Nat} {s : State} (hp : within [.pkg, .txn, .ledger, .part, .dir, .mem, .dram, .deep, .integ, .mirror, .leaves, .power, .sessions, .obs, .rings, .kodp, .ctrs, .out, .free] P = true) (h : Frame P s0 s) : FrameP P s0 (handSteps cluster set a0 s) := by
  induction a0 generalizing s with
  | zero =>
    rw [handSteps]
    with_reducible apply frame_mk
    with_reducible assumption
  | succ a0 ih =>
    rw [handSteps]
    with_reducible apply frame_ite1
    · with_reducible apply frame_takeWay (within_trans (by decide) hp)
      with_reducible apply frame_onDeep (within_trans (by decide) hp)
      with_reducible assumption
    · with_reducible apply ih
      with_reducible apply frame_ite
      · with_reducible apply frame_onDeep (within_trans (by decide) hp)
        with_reducible assumption
      · with_reducible apply frame_ite
        · with_reducible apply frame_setTag (within_trans (by decide) hp)
          with_reducible apply frame_onDeep (within_trans (by decide) hp)
          with_reducible assumption
        · with_reducible apply frame_startWriteback (within_trans (by decide) hp)
          with_reducible apply frame_queueWriteback (within_trans (by decide) hp)
          with_reducible apply frame_onDeep (within_trans (by decide) hp)
          with_reducible assumption

theorem frame_chooseFrame {P : List Part} {s0 : State} {cluster : Nat} {set : Nat} {s : State} (hp : within [.pkg, .txn, .ledger, .part, .dir, .mem, .dram, .deep, .integ, .mirror, .leaves, .power, .sessions, .obs, .rings, .kodp, .ctrs, .out, .free] P = true) (h : Frame P s0 s) : FrameP P s0 (chooseFrame cluster set s) := by
  unfold chooseFrame
  split
  · with_reducible apply frame_mk
    with_reducible assumption
  · with_reducible apply frame_ite1
    · with_reducible apply frame_takeWay (within_trans (by decide) hp)
      with_reducible assumption
    · with_reducible apply frame_handSteps (within_trans (by decide) hp)
      with_reducible apply frame_onDeep (within_trans (by decide) hp)
      with_reducible assumption
  · with_reducible apply frame_handSteps (within_trans (by decide) hp)
    with_reducible assumption

theorem frame_startFill {P : List Part} {s0 : State} {g : Nat} {set : Nat} {way : Nat} {first : Nat} {tier : Nat} {pin : Bool} {s : State} (hp : within [.pkg, .txn, .ledger, .mem, .dram, .deep, .mirror, .leaves, .power, .rings, .ctrs, .free] P = true) (h : Frame P s0 s) : Frame P s0 (startFill g set way first tier pin s) := by
  unfold startFill
  extract_lets +onlyGivenNames x0
  clear_value x0
  extract_lets +onlyGivenNames x1
  clear_value x1
  extract_lets +onlyGivenNames x2
  clear_value x2
  extract_lets +onlyGivenNames x3
  have h3 : Frame P s0 (x3) := by
    unfold x3
    with_reducible apply frame_setTag (within_trans (by decide) hp)
    with_reducible assumption
  clear_value x3
  extract_lets +onlyGivenNames x4
  clear_value x4
  extract_lets +onlyGivenNames x5
  clear_value x5
  extract_lets +onlyGivenNames x6
  have h6 : Frame P s0 (x6) := by
    unfold x6
    with_reducible apply frame_sendDt (within_trans (by decide) hp)
    with_reducible assumption
  clear_value x6
  with_reducible apply frame_onDeep (within_trans (by decide) hp)
  with_reducible assumption

theorem frame_grantFrame {P : List Part} {s0 : State} {g : Nat} {tier : Nat} {s : State} (hp : within [.pkg, .txn, .ledger, .part, .dir, .mem, .dram, .deep, .integ, .mirror, .leaves, .power, .sessions, .obs, .rings, .kodp, .ctrs, .out, .free] P = true) (h : Frame P s0 s) : FrameP P s0 (grantFrame g tier s) := by
  unfold grantFrame
  extract_lets +onlyGivenNames x0
  clear_value x0
  extract_lets +onlyGivenNames x1
  clear_value x1
  with_reducible apply frame_ite1
  · with_reducible apply frame_mk
    with_reducible assumption
  · with_reducible apply frame_ite1
    · with_reducible apply frame_mk
      with_reducible apply frame_fetchTag (within_trans (by decide) hp)
      with_reducible assumption
    · with_reducible apply frame_ite1
      · with_reducible apply frame_mk
        with_reducible assumption
      · split
        · extract_lets +onlyGivenNames x2
          have h2 : Frame P s0 (x2) := by
            unfold x2
            with_reducible apply frame_setTag (within_trans (by decide) hp)
            with_reducible apply frame_onDeep (within_trans (by decide) hp)
            refine frame_of_fst (by with_reducible assumption) ?_
            with_reducible apply frame_chooseFrame (within_trans (by decide) hp)
            with_reducible assumption
          clear_value x2
          with_reducible apply frame_mk
          with_reducible apply frame_onlyIf
          · intro x3 h4
            with_reducible apply frame_queueWriteback (within_trans (by decide) hp)
            with_reducible assumption
          · with_reducible assumption
        · with_reducible apply frame_mk
          refine frame_of_fst (by with_reducible assumption) ?_
          with_reducible apply frame_chooseFrame (within_trans (by decide) hp)
          with_reducible assumption

theorem frame_touchFrame {P : List Part} {s0 : State} {g : Nat} {way : Nat} {tier : Nat} {s : State} (hp : within [.pkg, .mem, .dram, .mirror, .leaves, .power, .rings, .ctrs, .free] P = true) (h : Frame P s0 s) : Frame P s0 (touchFrame g way tier s) := by
  unfold touchFrame
  extract_lets +onlyGivenNames x0
  clear_value x0
  extract_lets +onlyGivenNames x1
  clear_value x1
  extract_lets +onlyGivenNames x2
  clear_value x2
  extract_lets +onlyGivenNames x3
  clear_value x3
  with_reducible apply frame_ite
  · with_reducible assumption
  · with_reducible apply frame_setTag (within_trans (by decide) hp)
    with_reducible assumption

theorem frame_missGranule {P : List Part} {s0 : State} {g : Nat} {first : Nat} {tier : Nat} {pin : Bool} {s : State} (hp : within [.pkg, .txn, .ledger, .part, .dir, .mem, .dram, .deep, .integ, .mirror, .leaves, .power, .sessions, .obs, .rings, .kodp, .ctrs, .out, .free] P = true) (h : Frame P s0 s) : Frame P s0 (missGranule g first tier pin s) := by
  unfold missGranule
  extract_lets +onlyGivenNames x0
  clear_value x0
  extract_lets +onlyGivenNames x1
  clear_value x1
  with_reducible apply frame_ite
  · with_reducible apply frame_fetchTag (within_trans (by decide) hp)
    with_reducible assumption
  · extract_lets +onlyGivenNames x2
    have h2 : Frame P s0 (x2) := by
      unfold x2
      with_reducible apply frame_bump (within_trans (by decide) hp)
      with_reducible assumption
    clear_value x2
    with_reducible apply frame_ite
    · with_reducible assumption
    · split
      · with_reducible apply frame_startFill (within_trans (by decide) hp)
        refine frame_of_fst (by with_reducible assumption) ?_
        with_reducible apply frame_chooseFrame (within_trans (by decide) hp)
        with_reducible assumption
      · refine frame_of_fst (by with_reducible assumption) ?_
        with_reducible apply frame_chooseFrame (within_trans (by decide) hp)
        with_reducible assumption

theorem frame_deepAccess {P : List Part} {s0 : State} {line : Nat} {write : Bool} {tier : Nat} {waiting : Nat} {s : State} (hp : within [.pkg, .txn, .ledger, .part, .dir, .mem, .dram, .deep, .integ, .mirror, .leaves, .power, .sessions, .obs, .rings, .kodp, .ctrs, .out, .free] P = true) (h : Frame P s0 s) : FrameP P s0 (deepAccess line write tier waiting s) := by
  unfold deepAccess
  extract_lets +onlyGivenNames x0
  clear_value x0
  extract_lets +onlyGivenNames x1
  clear_value x1
  extract_lets +onlyGivenNames x2
  clear_value x2
  extract_lets +onlyGivenNames x3
  clear_value x3
  with_reducible apply frame_ite1
  · with_reducible apply frame_mk
    with_reducible apply frame_quarantine (within_trans (by decide) hp)
    with_reducible assumption
  · with_reducible apply frame_ite1
    · with_reducible apply frame_ite1
      · with_reducible apply frame_mk
        with_reducible apply frame_bump (within_trans (by decide) hp)
        with_reducible assumption
      · with_reducible apply frame_mk
        with_reducible apply frame_bump (within_trans (by decide) hp)
        with_reducible apply frame_fetchTag (within_trans (by decide) hp)
        with_reducible assumption
    · split
      · with_reducible apply frame_ite1
        · extract_lets +onlyGivenNames x4
          have h4 : Frame P s0 (x4) := by
            unfold x4
            with_reducible apply frame_touchFrame (within_trans (by decide) hp)
            with_reducible assumption
          clear_value x4
          split
          · with_reducible apply frame_ite1
            · with_reducible apply frame_mk
              with_reducible assumption
            · with_reducible apply frame_ite1
              · with_reducible apply frame_mk
                with_reducible apply frame_bump (within_trans (by decide) hp)
                with_reducible assumption
              · with_reducible apply frame_mk
                with_reducible assumption
          · with_reducible apply frame_mk
            with_reducible assumption
        · with_reducible apply frame_mk
          with_reducible apply frame_bump (within_trans (by decide) hp)
          with_reducible apply frame_touchFrame (within_trans (by decide) hp)
          with_reducible assumption
      · with_reducible apply frame_ite1
        · with_reducible apply frame_mk
          with_reducible apply frame_bump (within_trans (by decide) hp)
          with_reducible assumption
        · with_reducible apply frame_mk
          with_reducible apply frame_bump (within_trans (by decide) hp)
          with_reducible apply frame_missGranule (within_trans (by decide) hp)
          with_reducible assumption

end Sys2Proof.Machine
end

