-- ==== Sys2Proof/Laws/FrameOpsOwn.lean ====
section
/-!
SUPPORT. Laws/FrameOpsOwn.lean: the frame of every operation and command of Machine/OpsOwn.lean.
-/
namespace Sys2Proof.Machine

theorem frame_holdAtCrossbar {P : List Part} {s0 : State} {line : Nat} {src : Nat} {tag : Nat} {s : State} (hp : within [.dir] P = true) (h : Frame P s0 s) : Frame P s0 (holdAtCrossbar line src tag s) := by
  unfold holdAtCrossbar
  with_reducible apply frame_onDir (within_trans (by decide) hp)
  with_reducible assumption

theorem frame_leaveCrossbar {P : List Part} {s0 : State} {line : Nat} {src : Nat} {tag : Nat} {s : State} (hp : within [.dir] P = true) (h : Frame P s0 s) : Frame P s0 (leaveCrossbar line src tag s) := by
  unfold leaveCrossbar
  with_reducible apply frame_onDir (within_trans (by decide) hp)
  with_reducible assumption

theorem frame_settleAged {P : List Part} {s0 : State} {line : Nat} {s : State} (hp : within [.dir, .mirror, .leaves, .ctrs] P = true) (h : Frame P s0 s) : Frame P s0 (settleAged line s) := by
  unfold settleAged
  with_reducible apply frame_ite
  · with_reducible assumption
  · split
    · with_reducible apply frame_ite
      · with_reducible apply frame_putEntry (within_trans (by decide) hp)
        with_reducible assumption
      · with_reducible assumption
    · with_reducible assumption

theorem frame_enterAged {P : List Part} {s0 : State} {line : Nat} {src : Nat} {tag : Nat} {losses : Nat} {s : State} (hp : within [.dir, .mirror, .leaves, .ctrs] P = true) (h : Frame P s0 s) : Frame P s0 (enterAged line src tag losses s) := by
  unfold enterAged
  with_reducible apply frame_ite
  · split
    · with_reducible apply frame_bump (within_trans (by decide) hp)
      with_reducible apply frame_putEntry (within_trans (by decide) hp)
      with_reducible apply frame_onDir (within_trans (by decide) hp)
      with_reducible assumption
    · with_reducible assumption
  · with_reducible assumption

theorem frame_keepAccess {P : List Part} {s0 : State} {b : AccBy} {line : Nat} {write : Bool} {s : State} (hp : within [.dir] P = true) (h : Frame P s0 s) : Frame P s0 (keepAccess b line write s) := by
  unfold keepAccess
  with_reducible apply frame_ite
  · with_reducible assumption
  · with_reducible apply frame_onDir (within_trans (by decide) hp)
    with_reducible assumption

theorem frame_parkAccess {P : List Part} {s0 : State} {b : AccBy} {line : Nat} {write : Bool} {s : State} (hp : within [.dir, .ctrs] P = true) (h : Frame P s0 s) : Frame P s0 (parkAccess b line write s) := by
  unfold parkAccess
  with_reducible apply frame_ite
  · with_reducible assumption
  · with_reducible apply frame_bump (within_trans (by decide) hp)
    with_reducible apply frame_keepAccess (within_trans (by decide) hp)
    with_reducible assumption

theorem frame_endLineAccess {P : List Part} {s0 : State} {b : AccBy} {line : Nat} {s : State} (hp : within [.dir, .mirror, .leaves, .ctrs] P = true) (h : Frame P s0 s) : Frame P s0 (endLineAccess b line s) := by
  unfold endLineAccess
  with_reducible apply frame_ite
  · with_reducible assumption
  · with_reducible apply frame_settleAged (within_trans (by decide) hp)
    with_reducible apply frame_leaveCrossbar (within_trans (by decide) hp)
    with_reducible apply frame_onDir (within_trans (by decide) hp)
    with_reducible assumption

theorem frame_fetchLine {P : List Part} {s0 : State} {b : AccBy} {line : Nat} {s : State} (hp : within [.pkg, .mem, .dram, .power, .rings, .ctrs, .free] P = true) (h : Frame P s0 s) : FrameP P s0 (fetchLine b line s) := by
  unfold fetchLine
  split
  · with_reducible apply frame_mk
    with_reducible assumption
  · extract_lets +onlyGivenNames x0
    clear_value x0
    with_reducible apply frame_ite1
    · with_reducible apply frame_mk
      with_reducible apply frame_pantryUse (within_trans (by decide) hp)
      with_reducible assumption
    · with_reducible apply frame_ite1
      · with_reducible apply frame_mk
        with_reducible assumption
      · with_reducible apply frame_ite1
        · with_reducible apply frame_mk
          with_reducible assumption
        · with_reducible apply frame_ite1
          · with_reducible apply frame_mk
            with_reducible assumption
          · extract_lets +onlyGivenNames x1
            clear_value x1
            with_reducible apply frame_ite1
            · with_reducible apply frame_mk
              with_reducible assumption
            · with_reducible apply frame_mk
              with_reducible apply frame_dramPush (within_trans (by decide) hp)
              with_reducible assumption

theorem frame_noteReturned {P : List Part} {s0 : State} {l : Nat} {src : Nat} {tag : Nat} {s : State} (hp : within [.dram] P = true) (h : Frame P s0 s) : Frame P s0 (noteReturned l src tag s) := by
  unfold noteReturned
  with_reducible apply frame_onDram (within_trans (by decide) hp)
  with_reducible assumption

theorem frame_useReturned {P : List Part} {s0 : State} {src : Nat} {tag : Nat} {s : State} (hp : within [.dram] P = true) (h : Frame P s0 s) : Frame P s0 (useReturned src tag s) := by
  unfold useReturned
  with_reducible apply frame_ite
  · with_reducible assumption
  · with_reducible apply frame_onDram (within_trans (by decide) hp)
    with_reducible assumption

theorem frame_orderAccess {P : List Part} {s0 : State} {b : AccBy} {line : Nat} {write : Bool} {fetch : Bool} {s : State} (hp : within [.pkg, .txn, .ledger, .part, .dir, .mem, .dram, .deep, .integ, .mirror, .leaves, .power, .sessions, .obs, .rings, .kodp, .ctrs, .out, .free] P = true) (h : Frame P s0 s) : FrameP P s0 (orderAccess b line write fetch s) := by
  unfold orderAccess
  extract_lets +onlyGivenNames x0
  have h0 : ∀ y0, Frame P s0 y0 → FrameP P s0 (x0 y0) := by
    intro x1 h2
    unfold x0
    split
    · with_reducible apply frame_mk
      with_reducible apply frame_endLineAccess (within_trans (by decide) hp)
      refine frame_of_fst (by with_reducible assumption) ?_
      with_reducible apply frame_ite1
      · with_reducible apply frame_fetchLine (within_trans (by decide) hp)
        with_reducible assumption
      · with_reducible apply frame_mk
        with_reducible assumption
    · with_reducible apply frame_ite1
      · with_reducible apply frame_fetchLine (within_trans (by decide) hp)
        with_reducible assumption
      · with_reducible apply frame_mk
        with_reducible assumption
  clear_value x0
  extract_lets +onlyGivenNames x3
  clear_value x3
  with_reducible apply frame_ite1
  · with_reducible apply frame_mk
    with_reducible assumption
  · with_reducible apply frame_ite1
    · with_reducible apply frame_mk
      with_reducible apply frame_holdAtCrossbar (within_trans (by decide) hp)
      with_reducible assumption
    · extract_lets +onlyGivenNames x4
      have h4 : Frame P s0 (x4) := by
        unfold x4
        with_reducible apply frame_leaveCrossbar (within_trans (by decide) hp)
        with_reducible assumption
      clear_value x4
      with_reducible apply frame_ite1
      · with_reducible apply frame_mk
        with_reducible apply frame_parkAccess (within_trans (by decide) hp)
        with_reducible assumption
      · split
        · extract_lets +onlyGivenNames x5
          have h5 : Frame P s0 (x5) := by
            unfold x5
            with_reducible apply frame_startRecall (within_trans (by decide) hp)
            with_reducible apply frame_keepAccess (within_trans (by decide) hp)
            with_reducible assumption
          clear_value x5
          with_reducible apply frame_ite1
          · with_reducible apply frame_mk
            with_reducible assumption
          · with_reducible apply h0
            with_reducible assumption
        · with_reducible apply h0
          with_reducible assumption

theorem frame_unseek {P : List Part} {s0 : State} {b : AccBy} {g : Nat} {s : State} (hp : within [.deep] P = true) (h : Frame P s0 s) : Frame P s0 (unseek b g s) := by
  unfold unseek
  with_reducible apply frame_ite
  · with_reducible assumption
  · with_reducible apply frame_onDeep (within_trans (by decide) hp)
    with_reducible assumption

theorem frame_seek {P : List Part} {s0 : State} {b : AccBy} {g : Nat} {s : State} (hp : within [.deep] P = true) (h : Frame P s0 s) : Frame P s0 (seek b g s) := by
  unfold seek
  extract_lets +onlyGivenNames x0
  have h0 : Frame P s0 (x0) := by
    unfold x0
    with_reducible apply frame_unseek (within_trans (by decide) hp)
    with_reducible assumption
  clear_value x0
  with_reducible apply frame_onDeep (within_trans (by decide) hp)
  with_reducible assumption

theorem frame_residentFirst {P : List Part} {s0 : State} {b : AccBy} {line : Nat} {tier : Nat} {write : Bool} {fetch : Bool} {s : State} (hp : within [.pkg, .txn, .ledger, .part, .dir, .mem, .dram, .deep, .integ, .mirror, .leaves, .power, .sessions, .obs, .rings, .kodp, .ctrs, .out, .free] P = true) (h : Frame P s0 s) : FrameP P s0 (residentFirst b line tier write fetch s) := by
  unfold residentFirst
  extract_lets +onlyGivenNames x0
  clear_value x0
  split
  · with_reducible apply frame_orderAccess (within_trans (by decide) hp)
    with_reducible apply frame_unseek (within_trans (by decide) hp)
    refine frame_of_fst (by with_reducible assumption) ?_
    with_reducible apply frame_deepAccess (within_trans (by decide) hp)
    with_reducible assumption
  · with_reducible apply frame_mk
    with_reducible apply frame_seek (within_trans (by decide) hp)
    refine frame_of_fst (by with_reducible assumption) ?_
    with_reducible apply frame_deepAccess (within_trans (by decide) hp)
    with_reducible assumption
  · with_reducible apply frame_mk
    with_reducible apply frame_unseek (within_trans (by decide) hp)
    refine frame_of_fst (by with_reducible assumption) ?_
    with_reducible apply frame_deepAccess (within_trans (by decide) hp)
    with_reducible assumption
  · with_reducible apply frame_mk
    with_reducible apply frame_unseek (within_trans (by decide) hp)
    refine frame_of_fst (by with_reducible assumption) ?_
    with_reducible apply frame_deepAccess (within_trans (by decide) hp)
    with_reducible assumption

theorem frame_readyLine {P : List Part} {s0 : State} {b : AccBy} {line : Nat} {tier : Nat} {write : Bool} {fetch : Bool} {s : State} (hp : within [.pkg, .txn, .ledger, .part, .dir, .mem, .dram, .deep, .integ, .mirror, .leaves, .power, .sessions, .obs, .rings, .kodp, .ctrs, .out, .free] P = true) (h : Frame P s0 s) : FrameP P s0 (readyLine b line tier write fetch s) := by
  unfold readyLine
  with_reducible apply frame_ite1
  · extract_lets +onlyGivenNames x0
    clear_value x0
    split
    · with_reducible apply frame_mk
      with_reducible apply frame_unseek (within_trans (by decide) hp)
      with_reducible assumption
    · with_reducible apply frame_residentFirst (within_trans (by decide) hp)
      with_reducible assumption
  · with_reducible apply frame_orderAccess (within_trans (by decide) hp)
    with_reducible assumption

theorem frame_presentAccess {P : List Part} {s0 : State} {a : LineAccess} {s : State} (hp : within [.pkg, .txn, .ledger, .part, .dir, .mem, .dram, .deep, .integ, .mirror, .leaves, .power, .sessions, .obs, .rings, .kodp, .ctrs, .out, .free] P = true) (h : Frame P s0 s) : Frame P s0 (presentAccess a s) := by
  unfold presentAccess
  extract_lets +onlyGivenNames x0
  clear_value x0
  with_reducible apply frame_ite
  · with_reducible apply frame_bump (within_trans (by decide) hp)
    with_reducible apply frame_enterAged (within_trans (by decide) hp)
    with_reducible apply frame_onDir (within_trans (by decide) hp)
    with_reducible assumption
  · split
    · with_reducible apply frame_startRecall (within_trans (by decide) hp)
      with_reducible assumption
    · with_reducible assumption

theorem frame_flushOwn {P : List Part} {s0 : State} {a0 : Nat} {s : State} (hp : within [.pkg, .txn, .ledger, .part, .dir, .mem, .dram, .deep, .integ, .mirror, .leaves, .power, .sessions, .obs, .rings, .kodp, .ctrs, .out, .free] P = true) (h : Frame P s0 s) : Frame P s0 (flushOwn a0 s) := by
  induction a0 generalizing s with
  | zero =>
    rw [flushOwn]
    exact h
  | succ a0 ih =>
    rw [flushOwn]
    split
    · exact h
    · extract_lets +onlyGivenNames x0
      have h0 : ∀ y0, Frame P s0 y0 → Frame P s0 (x0 y0) := by
        intro x1 h2
        unfold x0
        with_reducible apply frame_onPart (within_trans (by decide) hp)
        with_reducible assumption
      clear_value x0
      with_reducible apply frame_ite
      · with_reducible apply ih
        with_reducible apply h0
        exact h
      · split
        · with_reducible apply ih
          with_reducible apply frame_writeOwn (within_trans (by decide) hp)
          with_reducible apply frame_dropEntry (within_trans (by decide) hp)
          with_reducible apply h0
          with_reducible apply frame_useReturned (within_trans (by decide) hp)
          refine frame_of_fst (by with_reducible assumption) ?_
          with_reducible apply frame_readyLine (within_trans (by decide) hp)
          with_reducible assumption
        · refine frame_of_fst (by with_reducible assumption) ?_
          with_reducible apply frame_readyLine (within_trans (by decide) hp)
          with_reducible assumption
        · refine frame_of_fst (by with_reducible assumption) ?_
          with_reducible apply frame_readyLine (within_trans (by decide) hp)
          with_reducible assumption
        · with_reducible apply ih
          with_reducible apply h0
          refine frame_of_fst (by with_reducible assumption) ?_
          with_reducible apply frame_readyLine (within_trans (by decide) hp)
          with_reducible assumption


theorem frame_runOwn {P : List Part} {s0 : State} {s : State} (hp : within [.pkg, .txn, .ledger, .part, .dir, .mem, .dram, .deep, .integ, .mirror, .leaves, .power, .sessions, .obs, .rings, .kodp, .ctrs, .out, .free] P = true) (h : Frame P s0 s) : Frame P s0 (runOwn s) := by
  unfold runOwn
  with_reducible apply frame_ite
  · with_reducible assumption
  · with_reducible apply frame_flushOwn (within_trans (by decide) hp)
    with_reducible assumption

theorem frame_xlate {P : List Part} {s0 : State} {die : Nat} {ctx : Nat} {addr : Nat} {need : List Nat} {write : Bool} {s : State} (hp : within [.pkg, .txn, .ledger, .part, .dir, .mem, .dram, .deep, .integ, .mirror, .leaves, .power, .sessions, .obs, .rings, .kodp, .ctrs, .out, .free] P = true) (h : Frame P s0 s) : FrameP P s0 (xlate die ctx addr need write s) := by
  unfold xlate
  split
  · with_reducible apply frame_mk
    with_reducible apply frame_ite
    · refine frame_of_fst (by with_reducible assumption) ?_
      with_reducible apply frame_translate (within_trans (by decide) hp)
      with_reducible assumption
    · with_reducible apply frame_missGranule (within_trans (by decide) hp)
      refine frame_of_fst (by with_reducible assumption) ?_
      with_reducible apply frame_translate (within_trans (by decide) hp)
      with_reducible assumption
  · with_reducible apply frame_translate (within_trans (by decide) hp)
    with_reducible assumption

theorem frame_settleFor {P : List Part} {s0 : State} {who : Nat} {ctx : Nat} {f : XFault} {granule : Option Nat} {s : State} (hp : within [.part] P = true) (h : Frame P s0 s) : FrameP P s0 (settleFor who ctx f granule s) := by
  unfold settleFor
  extract_lets +onlyGivenNames x0
  clear_value x0
  extract_lets +onlyGivenNames x1
  clear_value x1
  with_reducible apply frame_ite1
  · with_reducible apply frame_mk
    with_reducible apply frame_onPart (within_trans (by decide) hp)
    with_reducible assumption
  · with_reducible apply frame_mk
    with_reducible apply frame_onPart (within_trans (by decide) hp)
    with_reducible assumption

theorem frame_settled {P : List Part} {s0 : State} {who : Nat} {ctx : Nat} {s : State} (hp : within [.part] P = true) (h : Frame P s0 s) : Frame P s0 (settled who ctx s) := by
  unfold settled
  with_reducible apply frame_ite
  · with_reducible apply frame_onPart (within_trans (by decide) hp)
    with_reducible assumption
  · with_reducible assumption

theorem frame_recordFault {P : List Part} {s0 : State} {by_ : FaultBy} {ctx : Nat} {addr : Nat} {x : XFault} {s : State} (hp : within [.pkg, .txn, .ledger, .part, .dir, .mem, .dram, .deep, .integ, .mirror, .leaves, .power, .sessions, .obs, .rings, .kodp, .ctrs, .out, .free] P = true) (h : Frame P s0 s) : FrameP P s0 (recordFault by_ ctx addr x s) := by
  unfold recordFault
  with_reducible apply frame_ite1
  · with_reducible apply frame_mk
    with_reducible apply frame_onlyIf
    · intro x0 h1
      with_reducible apply frame_bump (within_trans (by decide) hp)
      with_reducible assumption
    · with_reducible assumption
  · extract_lets +onlyGivenNames x2
    extract_lets +onlyGivenNames x3
    with_reducible apply frame_ite1
    · with_reducible apply frame_mk
      with_reducible apply frame_bump (within_trans (by decide) hp)
      with_reducible assumption
    · extract_lets +onlyGivenNames x4
      extract_lets +onlyGivenNames x5
      with_reducible apply frame_ite1
      · extract_lets +onlyGivenNames x6
        clear_value x6
        extract_lets +onlyGivenNames x7
        have h7 : Frame P s0 (x7) := by
          unfold x7
          with_reducible apply frame_bump (within_trans (by decide) hp)
          with_reducible apply frame_onPart (within_trans (by decide) hp)
          with_reducible assumption
        clear_value x7
        with_reducible apply frame_mk
        with_reducible apply frame_onlyIf
        · intro x8 h9
          with_reducible apply frame_notify (within_trans (by decide) hp)
          with_reducible assumption
        · with_reducible assumption
      · extract_lets +onlyGivenNames x10
        have h10 : Frame P s0 (x10) := by
          unfold x10
          with_reducible apply frame_bump (within_trans (by decide) hp)
          with_reducible assumption
        clear_value x10
        extract_lets +onlyGivenNames x11
        clear_value x11
        extract_lets +onlyGivenNames x12
        have h12 : Frame P s0 (x12) := by
          unfold x12
          with_reducible apply frame_runOwn (within_trans (by decide) hp)
          with_reducible apply frame_onPart (within_trans (by decide) hp)
          with_reducible assumption
        clear_value x12
        with_reducible apply frame_mk
        with_reducible apply frame_onlyIf
        · intro x13 h14
          with_reducible apply frame_notifyLimited (within_trans (by decide) hp)
          with_reducible assumption
        · with_reducible assumption

end Sys2Proof.Machine
end

