-- ==== Sys2Proof/Laws/FrameOpsTxn.lean ====
section
/-!
SUPPORT. Laws/FrameOpsTxn.lean: the frame of every operation and command of Machine/OpsTxn.lean.
-/
namespace Sys2Proof.Machine

theorem frame_finalGen {P : List Part} {s0 : State} {eid : Nat} {tag : Nat} {s : State} (hp : within [.sec] P = true) (h : Frame P s0 s) : Frame P s0 (finalGen eid tag s) := by
  unfold finalGen
  with_reducible apply frame_onlyIf
  · intro x0 h1
    with_reducible apply frame_advanceGen (within_trans (by decide) hp)
    with_reducible assumption
  · with_reducible assumption

theorem frame_answerNow {P : List Part} {s0 : State} {p : Packet} {st : Status} {s : State} (hp : within [.ledger, .mirror, .leaves, .sec, .ctrs] P = true) (h : Frame P s0 s) : Frame P s0 (answerNow p st s) := by
  unfold answerNow
  with_reducible apply frame_finalGen (within_trans (by decide) hp)
  with_reducible apply frame_sendPacket (within_trans (by decide) hp)
  with_reducible apply frame_ledgerFinal (within_trans (by decide) hp)
  with_reducible assumption

theorem frame_answerMismatch {P : List Part} {s0 : State} {p : Packet} {s : State} (hp : within [.ledger, .leaves, .sec] P = true) (h : Frame P s0 s) : Frame P s0 (answerMismatch p s) := by
  unfold answerMismatch
  with_reducible apply frame_finalGen (within_trans (by decide) hp)
  with_reducible apply frame_sendPacket (within_trans (by decide) hp)
  with_reducible assumption

theorem frame_replayResponse {P : List Part} {s0 : State} {p : Packet} {e : LedgerEntry} {s : State} (hp : within [.ledger, .leaves, .sec] P = true) (h : Frame P s0 s) : Frame P s0 (replayResponse p e s) := by
  unfold replayResponse
  extract_lets +onlyGivenNames x0
  clear_value x0
  extract_lets +onlyGivenNames x1
  clear_value x1
  with_reducible apply frame_onlyIf
  · intro x2 h3
    with_reducible apply frame_finalGen (within_trans (by decide) hp)
    with_reducible assumption
  · with_reducible apply frame_sendPacket (within_trans (by decide) hp)
    with_reducible assumption

theorem frame_setRequest {P : List Part} {s0 : State} {src : Nat} {tag : Nat} {f : Request → Request} {s : State} (hp : within [.txn] P = true) (h : Frame P s0 s) : Frame P s0 (setRequest src tag f s) := by
  unfold setRequest
  refine frame_onTxn [.txn] (within_trans (by decide) hp) (.inr fun _ => rfl) (.inl rfl) ?_
  with_reducible assumption

theorem frame_dropRequest {P : List Part} {s0 : State} {src : Nat} {tag : Nat} {s : State} (hp : within [.txn, .dir] P = true) (h : Frame P s0 s) : Frame P s0 (dropRequest src tag s) := by
  unfold dropRequest
  extract_lets +onlyGivenNames x0
  have h0 : Frame P s0 (x0) := by
    unfold x0
    refine frame_onTxn [.txn] (within_trans (by decide) hp) (.inr fun _ => rfl) (.inl rfl) ?_
    with_reducible assumption
  clear_value x0
  with_reducible apply frame_onDir (within_trans (by decide) hp)
  with_reducible assumption

theorem frame_sendFinal {P : List Part} {s0 : State} {q : Request} {pk : Packet} {s : State} (hp : within [.ledger, .leaves, .sec, .ctrs] P = true) (h : Frame P s0 s) : Frame P s0 (sendFinal q pk s) := by
  unfold sendFinal
  extract_lets +onlyGivenNames x0
  clear_value x0
  with_reducible apply frame_finalGen (within_trans (by decide) hp)
  with_reducible apply frame_ite
  · with_reducible apply frame_bump (within_trans (by decide) hp)
    with_reducible assumption
  · with_reducible apply frame_sendPacket (within_trans (by decide) hp)
    with_reducible assumption

theorem frame_stashHint {P : List Part} {s0 : State} {q : Request} {s : State} (hp : within [.txn, .ledger, .dir, .mirror, .leaves, .ctrs] P = true) (h : Frame P s0 s) : Frame P s0 (stashHint q s) := by
  unfold stashHint
  extract_lets +onlyGivenNames x0
  clear_value x0
  extract_lets +onlyGivenNames x1
  have h1 : ∀ y0, Frame P s0 y0 → Frame P s0 (x1 y0) := by
    intro x2 h3
    unfold x1
    with_reducible apply frame_bump (within_trans (by decide) hp)
    with_reducible assumption
  clear_value x1
  extract_lets +onlyGivenNames x4
  clear_value x4
  extract_lets +onlyGivenNames x5
  clear_value x5
  with_reducible apply frame_ite
  · with_reducible assumption
  · extract_lets +onlyGivenNames x6
    clear_value x6
    split
    split
    · with_reducible apply h1
      with_reducible assumption
    · extract_lets +onlyGivenNames x7
      clear_value x7
      extract_lets +onlyGivenNames x8
      clear_value x8
      with_reducible apply frame_ite
      · with_reducible apply h1
        with_reducible assumption
      · extract_lets +onlyGivenNames x9
        clear_value x9
        extract_lets +onlyGivenNames x10
        clear_value x10
        extract_lets +onlyGivenNames x11
        clear_value x11
        with_reducible apply frame_bump (within_trans (by decide) hp)
        with_reducible apply frame_issuePool (within_trans (by decide) hp)
        with_reducible apply frame_grantEntry (within_trans (by decide) hp)
        with_reducible assumption

theorem frame_releaseAnswer {P : List Part} {s0 : State} {q : Request} {pk : Packet} {s : State} (hp : within [.txn, .ledger, .dir, .mirror, .leaves, .sec, .ctrs] P = true) (h : Frame P s0 s) : Frame P s0 (releaseAnswer q pk s) := by
  unfold releaseAnswer
  extract_lets +onlyGivenNames x0
  have h0 : Frame P s0 (x0) := by
    unfold x0
    with_reducible apply frame_dropRequest (within_trans (by decide) hp)
    with_reducible apply frame_sendFinal (within_trans (by decide) hp)
    with_reducible assumption
  clear_value x0
  with_reducible apply frame_ite
  · with_reducible apply frame_ite
    · with_reducible apply frame_stashHint (within_trans (by decide) hp)
      with_reducible assumption
    · with_reducible apply frame_bump (within_trans (by decide) hp)
      with_reducible assumption
  · with_reducible assumption

theorem frame_finish {P : List Part} {s0 : State} {q : Request} {st : Status} {harg : Nat} {result : Nat} {pk : Packet} {hold : Bool} {s : State} (hp : within [.txn, .ledger, .dir, .mirror, .leaves, .sec, .ctrs] P = true) (h : Frame P s0 s) : Frame P s0 (finish q st harg result pk hold s) := by
  unfold finish
  extract_lets +onlyGivenNames x0
  have h0 : Frame P s0 (x0) := by
    unfold x0
    with_reducible apply frame_ite
    · with_reducible apply frame_ledgerWrite (within_trans (by decide) hp)
      with_reducible assumption
    · with_reducible assumption
  clear_value x0
  extract_lets +onlyGivenNames x1
  have h1 : Frame P s0 (x1) := by
    unfold x1
    with_reducible apply frame_onlyIf
    · intro x2 h3
      with_reducible apply frame_bump (within_trans (by decide) hp)
      with_reducible assumption
    · with_reducible assumption
  clear_value x1
  extract_lets +onlyGivenNames x4
  have h4 : Frame P s0 (x4) := by
    unfold x4
    with_reducible apply frame_onlyIf
    · intro x5 h6
      with_reducible apply frame_bump (within_trans (by decide) hp)
      with_reducible assumption
    · with_reducible assumption
  clear_value x4
  with_reducible apply frame_ite
  · with_reducible apply frame_setRequest (within_trans (by decide) hp)
    with_reducible assumption
  · with_reducible apply frame_releaseAnswer (within_trans (by decide) hp)
    with_reducible assumption

theorem frame_finishStatus {P : List Part} {s0 : State} {q : Request} {st : Status} {harg : Nat} {hold : Bool} {s : State} (hp : within [.txn, .ledger, .dir, .mirror, .leaves, .sec, .ctrs] P = true) (h : Frame P s0 s) : Frame P s0 (finishStatus q st harg hold s) := by
  unfold finishStatus
  with_reducible apply frame_finish (within_trans (by decide) hp)
  with_reducible assumption

theorem frame_finishRead {P : List Part} {s0 : State} {q : Request} {poison : Bool} {data : List Byte} {granted : Nat} {s : State} (hp : within [.txn, .ledger, .dir, .mirror, .leaves, .sec, .ctrs] P = true) (h : Frame P s0 s) : Frame P s0 (finishRead q poison data granted s) := by
  unfold finishRead
  extract_lets +onlyGivenNames x0
  clear_value x0
  extract_lets +onlyGivenNames x1
  clear_value x1
  extract_lets +onlyGivenNames x2
  clear_value x2
  with_reducible apply frame_finish (within_trans (by decide) hp)
  with_reducible assumption

theorem frame_finishAtomic {P : List Part} {s0 : State} {q : Request} {st : Status} {old : Nat} {hold : Bool} {s : State} (hp : within [.txn, .ledger, .dir, .mirror, .leaves, .sec, .ctrs] P = true) (h : Frame P s0 s) : Frame P s0 (finishAtomic q st old hold s) := by
  unfold finishAtomic
  with_reducible apply frame_finish (within_trans (by decide) hp)
  with_reducible assumption

theorem frame_answerMalformed {P : List Part} {s0 : State} {p : Packet} {s : State} (hp : within [.ledger, .mirror, .leaves, .sec, .ctrs] P = true) (h : Frame P s0 s) : Frame P s0 (answerMalformed p s) := by
  unfold answerMalformed
  with_reducible apply frame_ite
  · with_reducible apply frame_finalGen (within_trans (by decide) hp)
    with_reducible apply frame_sendPacket (within_trans (by decide) hp)
    with_reducible apply frame_ledgerFinal (within_trans (by decide) hp)
    with_reducible assumption
  · with_reducible apply frame_answerNow (within_trans (by decide) hp)
    with_reducible assumption

theorem frame_arriveFabric {P : List Part} {s0 : State} {port : Nat} {p : Packet} {go : Packet → State → State} {s : State} (hp : within [.ledger, .mirror, .leaves, .sec, .ctrs] P = true) (h_go : (∀ x0, ∀ x1, Frame P s0 x1 → Frame P s0 (go x0 x1))) (h : Frame P s0 s) : Frame P s0 (arriveFabric port p go s) := by
  unfold arriveFabric
  with_reducible apply frame_ite
  · with_reducible assumption
  · extract_lets +onlyGivenNames x0
    clear_value x0
    extract_lets +onlyGivenNames x1
    clear_value x1
    extract_lets +onlyGivenNames x2
    clear_value x2
    with_reducible apply frame_ite
    · with_reducible apply frame_bump (within_trans (by decide) hp)
      with_reducible assumption
    · with_reducible apply frame_ite
      · with_reducible apply frame_bump (within_trans (by decide) hp)
        with_reducible assumption
      · with_reducible apply frame_ite
        · with_reducible apply frame_bump (within_trans (by decide) hp)
          with_reducible assumption
        · extract_lets +onlyGivenNames x3
          clear_value x3
          with_reducible apply frame_ite
          · extract_lets +onlyGivenNames x4
            have h4 : Frame P s0 (x4) := by
              unfold x4
              with_reducible apply frame_bump (within_trans (by decide) hp)
              with_reducible assumption
            clear_value x4
            with_reducible apply frame_ite
            · with_reducible apply frame_ite
              · with_reducible apply frame_bump (within_trans (by decide) hp)
                with_reducible apply frame_sendPacket (within_trans (by decide) hp)
                with_reducible assumption
              · with_reducible assumption
            · with_reducible apply frame_ite
              · with_reducible apply frame_ite
                · with_reducible assumption
                · with_reducible apply h_go
                  with_reducible assumption
              · with_reducible apply frame_ite
                · with_reducible apply frame_answerNow (within_trans (by decide) hp)
                  with_reducible assumption
                · with_reducible assumption
          · with_reducible apply frame_ite
            · extract_lets +onlyGivenNames x5
              have h5 : Frame P s0 (x5) := by
                unfold x5
                with_reducible apply frame_bump (within_trans (by decide) hp)
                with_reducible assumption
              clear_value x5
              with_reducible apply frame_ite
              · with_reducible apply frame_answerMalformed (within_trans (by decide) hp)
                with_reducible assumption
              · with_reducible assumption
            · with_reducible apply frame_ite
              · with_reducible apply frame_ite
                · with_reducible apply frame_answerNow (within_trans (by decide) hp)
                  with_reducible assumption
                · with_reducible assumption
              · with_reducible apply h_go
                with_reducible assumption

theorem frame_arriveLink {P : List Part} {s0 : State} {port : Nat} {p : Packet} {go : Packet → State → State} {s : State} (hp : within [.leaves, .ctrs] P = true) (h_go : (∀ x0, ∀ x1, Frame P s0 x1 → Frame P s0 (go x0 x1))) (h : Frame P s0 s) : Frame P s0 (arriveLink port p go s) := by
  unfold arriveLink
  extract_lets +onlyGivenNames x0
  have h0 : ∀ y0, ∀ y1, Frame P s0 y1 → Frame P s0 (x0 y0 y1) := by
    intro x1 x2 h3
    unfold x0
    with_reducible apply frame_ite
    · with_reducible apply frame_sendOnPort (within_trans (by decide) hp)
      with_reducible assumption
    · with_reducible assumption
  clear_value x0
  with_reducible apply frame_ite
  · with_reducible assumption
  · with_reducible apply frame_ite
    · with_reducible apply frame_bump (within_trans (by decide) hp)
      with_reducible assumption
    · with_reducible apply frame_ite
      · with_reducible apply h0
        with_reducible apply frame_bump (within_trans (by decide) hp)
        with_reducible assumption
      · with_reducible apply frame_ite
        · with_reducible apply h0
          with_reducible apply frame_bump (within_trans (by decide) hp)
          with_reducible assumption
        · with_reducible apply h_go
          with_reducible assumption

theorem frame_releaseHalf {P : List Part} {s0 : State} {p : Packet} {policed : Bool} {s : State} (hp : within [.txn, .ctrs] P = true) (h : Frame P s0 s) : Frame P s0 (releaseHalf p policed s) := by
  unfold releaseHalf
  with_reducible apply frame_ite
  · with_reducible assumption
  · with_reducible apply frame_ite
    · with_reducible apply frame_onlyIf
      · intro x0 h1
        with_reducible apply frame_bump (within_trans (by decide) hp)
        with_reducible assumption
      · refine frame_onTxn [.txn] (within_trans (by decide) hp) (.inr fun _ => rfl) (.inl rfl) ?_
        with_reducible assumption
    · refine frame_onTxn [.txn] (within_trans (by decide) hp) (.inr fun _ => rfl) (.inl rfl) ?_
      with_reducible assumption

theorem frame_answerEarly {P : List Part} {s0 : State} {p : Packet} {st : Status} {s : State} (hp : within [.txn, .ledger, .mirror, .leaves, .sec, .ctrs] P = true) (h : Frame P s0 s) : Frame P s0 (answerEarly p st s) := by
  unfold answerEarly
  with_reducible apply frame_releaseHalf (within_trans (by decide) hp)
  with_reducible apply frame_answerNow (within_trans (by decide) hp)
  with_reducible assumption

theorem frame_intake {P : List Part} {s0 : State} {port : Nat} {p : Packet} {busy : State → Bool} {replay : LedgerEntry → State → State} {go : Nat → Bool → State → State} {s : State} (hp : within [.txn, .ledger, .mirror, .leaves, .sec, .ctrs] P = true) (h_replay : (∀ x0, ∀ x1, Frame P s0 x1 → Frame P s0 (replay x0 x1))) (h_go : (∀ x0, ∀ x1, ∀ x2, Frame P s0 x2 → Frame P s0 (go x0 x1 x2))) (h : Frame P s0 s) : Frame P s0 (intake port p busy replay go s) := by
  unfold intake
  extract_lets +onlyGivenNames x0
  have h0 : Frame P s0 (x0) := by
    unfold x0
    with_reducible apply frame_onlyIf
    · intro x1 h2
      with_reducible apply frame_bump (within_trans (by decide) hp)
      with_reducible assumption
    · with_reducible assumption
  clear_value x0
  split
  · with_reducible apply frame_bump (within_trans (by decide) hp)
    with_reducible apply frame_answerEarly (within_trans (by decide) hp)
    with_reducible assumption
  · split
    · with_reducible apply frame_bump (within_trans (by decide) hp)
      with_reducible apply frame_answerEarly (within_trans (by decide) hp)
      with_reducible assumption
    · with_reducible apply frame_ite
      · with_reducible apply frame_bump (within_trans (by decide) hp)
        with_reducible apply frame_bump (within_trans (by decide) hp)
        with_reducible apply frame_answerEarly (within_trans (by decide) hp)
        with_reducible assumption
      · with_reducible apply frame_ite
        · with_reducible apply frame_bump (within_trans (by decide) hp)
          with_reducible assumption
        · extract_lets +onlyGivenNames x3
          have h3 : ∀ y0, Frame P s0 y0 → Frame P s0 (x3 y0) := by
            intro x4 h5
            unfold x3
            with_reducible apply h_go
            with_reducible assumption
          clear_value x3
          with_reducible apply frame_ite
          · split
            · with_reducible apply frame_ite
              · with_reducible apply frame_bump (within_trans (by decide) hp)
                with_reducible apply frame_releaseHalf (within_trans (by decide) hp)
                with_reducible apply h_replay
                with_reducible assumption
              · with_reducible apply frame_bump (within_trans (by decide) hp)
                with_reducible apply frame_releaseHalf (within_trans (by decide) hp)
                with_reducible apply frame_answerMismatch (within_trans (by decide) hp)
                with_reducible assumption
            · with_reducible apply h3
              with_reducible assumption
          · with_reducible apply h3
            with_reducible assumption

theorem frame_colour {P : List Part} {s0 : State} {die : Nat} {slot : Nat} {cls : Nat} {n : Nat} {s : State} (hp : within [.traffic, .ctrs] P = true) (h : Frame P s0 s) : FrameP P s0 (colour die slot cls n s) := by
  unfold colour
  split
  · with_reducible apply frame_mk
    with_reducible apply frame_bump (within_trans (by decide) hp)
    with_reducible assumption
  · extract_lets +onlyGivenNames x0
    clear_value x0
    with_reducible apply frame_ite1
    · with_reducible apply frame_mk
      with_reducible apply frame_bump (within_trans (by decide) hp)
      refine frame_onTraffic [.traffic] (within_trans (by decide) hp) (.inr fun _ => rfl) (.inl rfl) ?_
      with_reducible assumption
    · with_reducible apply frame_ite1
      · with_reducible apply frame_mk
        with_reducible apply frame_bump (within_trans (by decide) hp)
        refine frame_onTraffic [.traffic] (within_trans (by decide) hp) (.inr fun _ => rfl) (.inl rfl) ?_
        with_reducible assumption
      · with_reducible apply frame_mk
        with_reducible assumption

theorem frame_police {P : List Part} {s0 : State} {port : Nat} {slot : Nat} {p : Packet} {go : State → State} {retry : State → State} {s : State} (hp : within [.traffic, .ctrs] P = true) (h_go : (∀ x0, Frame P s0 x0 → Frame P s0 (go x0))) (h_retry : (∀ x0, Frame P s0 x0 → Frame P s0 (retry x0))) (h : Frame P s0 s) : Frame P s0 (police port slot p go retry s) := by
  unfold police
  extract_lets +onlyGivenNames x0
  clear_value x0
  extract_lets +onlyGivenNames x1
  clear_value x1
  extract_lets +onlyGivenNames x2
  clear_value x2
  extract_lets +onlyGivenNames x3
  clear_value x3
  extract_lets +onlyGivenNames x4
  have h4 : ∀ y0, Frame P s0 y0 → Frame P s0 (x4 y0) := by
    intro x5 h6
    unfold x4
    extract_lets +onlyGivenNames x7
    clear_value x7
    with_reducible apply frame_bump (within_trans (by decide) hp)
    refine frame_onTraffic [.traffic] (within_trans (by decide) hp) (.inr fun _ => rfl) (.inl rfl) ?_
    with_reducible assumption
  clear_value x4
  with_reducible apply frame_ite
  · with_reducible apply h4
    with_reducible assumption
  · split
    with_reducible apply frame_ite
    · with_reducible apply h_go
      refine frame_of_fst (by with_reducible assumption) ?_
      with_reducible apply frame_ite1
      · with_reducible apply frame_mk
        with_reducible assumption
      · with_reducible apply frame_colour (within_trans (by decide) hp)
        with_reducible assumption
    · with_reducible apply frame_ite
      · with_reducible apply frame_bump (within_trans (by decide) hp)
        with_reducible apply h_retry
        refine frame_of_fst (by with_reducible assumption) ?_
        with_reducible apply frame_ite1
        · with_reducible apply frame_mk
          with_reducible assumption
        · with_reducible apply frame_colour (within_trans (by decide) hp)
          with_reducible assumption
      · with_reducible apply frame_ite
        · with_reducible apply frame_bump (within_trans (by decide) hp)
          with_reducible apply h_retry
          refine frame_of_fst (by with_reducible assumption) ?_
          with_reducible apply frame_ite1
          · with_reducible apply frame_mk
            with_reducible assumption
          · with_reducible apply frame_colour (within_trans (by decide) hp)
            with_reducible assumption
        · with_reducible apply h4
          refine frame_of_fst (by with_reducible assumption) ?_
          with_reducible apply frame_ite1
          · with_reducible apply frame_mk
            with_reducible assumption
          · with_reducible apply frame_colour (within_trans (by decide) hp)
            with_reducible assumption

theorem frame_checkAddressed {P : List Part} {s0 : State} {port : Nat} {slot : Nat} {p : Packet} {s : State} (hp : within [.pkg, .txn, .ledger, .part, .dir, .mem, .dram, .deep, .integ, .mirror, .leaves, .power, .sessions, .obs, .rings, .kodp, .ctrs, .out, .free] P = true) (h : Frame P s0 s) : FrameP P s0 (checkAddressed port slot p s) := by
  unfold checkAddressed
  split
  with_reducible apply frame_ite1
  · with_reducible apply frame_mk
    with_reducible assumption
  · split
    split
    · with_reducible apply frame_ite1
      · with_reducible apply frame_mk
        with_reducible apply frame_bump (within_trans (by decide) hp)
        refine frame_of_fst (by with_reducible assumption) ?_
        with_reducible apply frame_xlate (within_trans (by decide) hp)
        with_reducible assumption
      · with_reducible apply frame_mk
        refine frame_of_fst (by with_reducible assumption) ?_
        with_reducible apply frame_xlate (within_trans (by decide) hp)
        with_reducible assumption
    · with_reducible apply frame_mk
      refine frame_of_fst (by with_reducible assumption) ?_
      with_reducible apply frame_xlate (within_trans (by decide) hp)
      with_reducible assumption

theorem frame_answerFault {P : List Part} {s0 : State} {slot : Nat} {p : Packet} {f : XFault} {s : State} (hp : within [.pkg, .txn, .ledger, .part, .dir, .mem, .dram, .deep, .integ, .mirror, .leaves, .power, .sec, .sessions, .obs, .rings, .kodp, .ctrs, .out, .free] P = true) (h : Frame P s0 s) : Frame P s0 (answerFault slot p f s) := by
  unfold answerFault
  split
  with_reducible apply frame_answerEarly (within_trans (by decide) hp)
  refine frame_of_fst (by with_reducible assumption) ?_
  with_reducible apply frame_recordFault (within_trans (by decide) hp)
  with_reducible assumption

theorem frame_serve {P : List Part} {s0 : State} {q : Request} {s : State} (hp : within [.pkg, .txn, .ledger, .dir, .mem, .dram, .deep, .integ, .mirror, .leaves, .power, .sec, .sessions, .obs, .rings, .kodp, .ctrs, .out, .free] P = true) (h : Frame P s0 s) : Frame P s0 (serve q s) := by
  unfold serve
  extract_lets +onlyGivenNames x0
  clear_value x0
  extract_lets +onlyGivenNames x1
  clear_value x1
  extract_lets +onlyGivenNames x2
  have h2 : Frame P s0 (x2) := by
    unfold x2
    with_reducible apply frame_setRequest (within_trans (by decide) hp)
    with_reducible assumption
  clear_value x2
  extract_lets +onlyGivenNames x3
  clear_value x3
  split
  · split
    extract_lets +onlyGivenNames x4
    have h4 : Frame P s0 (x4) := by
      unfold x4
      with_reducible apply frame_countMismatch (within_trans (by decide) hp)
      with_reducible assumption
    clear_value x4
    with_reducible apply frame_ite
    · with_reducible apply frame_finishRead (within_trans (by decide) hp)
      with_reducible assumption
    · split
      · extract_lets +onlyGivenNames x5
        clear_value x5
        with_reducible apply frame_finishRead (within_trans (by decide) hp)
        with_reducible apply frame_grantEntry (within_trans (by decide) hp)
        with_reducible assumption
      · with_reducible apply frame_finishRead (within_trans (by decide) hp)
        with_reducible apply frame_grantEntry (within_trans (by decide) hp)
        with_reducible assumption
  · split
    extract_lets +onlyGivenNames x6
    have h6 : Frame P s0 (x6) := by
      unfold x6
      with_reducible apply frame_countMismatch (within_trans (by decide) hp)
      with_reducible assumption
    clear_value x6
    with_reducible apply frame_ite
    · with_reducible apply frame_finishRead (within_trans (by decide) hp)
      with_reducible assumption
    · with_reducible apply frame_finishRead (within_trans (by decide) hp)
      with_reducible apply frame_grantEntry (within_trans (by decide) hp)
      with_reducible apply frame_dropEntry (within_trans (by decide) hp)
      with_reducible assumption
  · split
    · with_reducible assumption
    · with_reducible apply frame_ite
      · with_reducible apply frame_finishStatus (within_trans (by decide) hp)
        with_reducible apply frame_onlyIf
        · intro x7 h8
          with_reducible apply frame_poisonListed (within_trans (by decide) hp)
          with_reducible assumption
        · with_reducible assumption
      · with_reducible apply frame_finishStatus (within_trans (by decide) hp)
        with_reducible apply frame_writeLine (within_trans (by decide) hp)
        with_reducible assumption
  · split
    · with_reducible assumption
    · with_reducible apply frame_ite
      · with_reducible apply frame_finishStatus (within_trans (by decide) hp)
        with_reducible apply frame_onlyIf
        · intro x9 h10
          with_reducible apply frame_poisonListed (within_trans (by decide) hp)
          with_reducible assumption
        · with_reducible assumption
      · extract_lets +onlyGivenNames x11
        clear_value x11
        extract_lets +onlyGivenNames x12
        clear_value x12
        extract_lets +onlyGivenNames x13
        clear_value x13
        extract_lets +onlyGivenNames x14
        have h14 : Frame P s0 (x14) := by
          unfold x14
          with_reducible apply frame_countMismatch (within_trans (by decide) hp)
          with_reducible assumption
        clear_value x14
        with_reducible apply frame_finishStatus (within_trans (by decide) hp)
        with_reducible apply frame_mergeLine (within_trans (by decide) hp)
        with_reducible assumption
  · split
    · with_reducible assumption
    · with_reducible apply frame_ite
      · with_reducible apply frame_finishStatus (within_trans (by decide) hp)
        with_reducible apply frame_onlyIf
        · intro x15 h16
          with_reducible apply frame_poisonListed (within_trans (by decide) hp)
          with_reducible assumption
        · with_reducible assumption
      · with_reducible apply frame_finishStatus (within_trans (by decide) hp)
        with_reducible apply frame_dropEntry (within_trans (by decide) hp)
        with_reducible apply frame_writeLine (within_trans (by decide) hp)
        with_reducible assumption
  · split
    · with_reducible apply frame_finishStatus (within_trans (by decide) hp)
      with_reducible assumption
    · with_reducible apply frame_ite
      · with_reducible apply frame_finishStatus (within_trans (by decide) hp)
        with_reducible apply frame_putEntry (within_trans (by decide) hp)
        with_reducible assumption
      · with_reducible apply frame_finishStatus (within_trans (by decide) hp)
        with_reducible assumption
  · split
    · with_reducible assumption
    · extract_lets +onlyGivenNames x17
      clear_value x17
      extract_lets +onlyGivenNames x18
      have h18 : Frame P s0 (x18) := by
        unfold x18
        with_reducible apply frame_countMismatch (within_trans (by decide) hp)
        with_reducible assumption
      clear_value x18
      with_reducible apply frame_ite
      · with_reducible apply frame_finishAtomic (within_trans (by decide) hp)
        with_reducible assumption
      · extract_lets +onlyGivenNames x19
        clear_value x19
        extract_lets +onlyGivenNames x20
        clear_value x20
        extract_lets +onlyGivenNames x21
        clear_value x21
        extract_lets +onlyGivenNames x22
        clear_value x22
        extract_lets +onlyGivenNames x23
        clear_value x23
        with_reducible apply frame_ite
        · with_reducible apply frame_finishAtomic (within_trans (by decide) hp)
          with_reducible assumption
        · extract_lets +onlyGivenNames x24
          clear_value x24
          with_reducible apply frame_finishAtomic (within_trans (by decide) hp)
          with_reducible apply frame_mergeLine (within_trans (by decide) hp)
          with_reducible assumption
  · split
    with_reducible apply frame_finishRead (within_trans (by decide) hp)
    with_reducible apply frame_countMismatch (within_trans (by decide) hp)
    with_reducible assumption
  · split
    with_reducible apply frame_finishRead (within_trans (by decide) hp)
    with_reducible apply frame_countMismatch (within_trans (by decide) hp)
    with_reducible assumption
  · with_reducible apply frame_finishStatus (within_trans (by decide) hp)
    with_reducible apply frame_bump (within_trans (by decide) hp)
    with_reducible assumption

theorem frame_serveOrRead {P : List Part} {s0 : State} {q : Request} {s : State} (hp : within [.pkg, .txn, .ledger, .dir, .mem, .dram, .deep, .integ, .mirror, .leaves, .power, .sec, .sessions, .obs, .rings, .kodp, .ctrs, .out, .free] P = true) (h : Frame P s0 s) : Frame P s0 (serveOrRead q s) := by
  unfold serveOrRead
  split
  · with_reducible assumption
  · extract_lets +onlyGivenNames x0
    clear_value x0
    extract_lets +onlyGivenNames x1
    clear_value x1
    with_reducible apply frame_ite
    · with_reducible apply frame_finishStatus (within_trans (by decide) hp)
      with_reducible assumption
    · with_reducible apply frame_ite
      · with_reducible apply frame_finishStatus (within_trans (by decide) hp)
        with_reducible assumption
      · with_reducible apply frame_ite
        · extract_lets +onlyGivenNames x2
          clear_value x2
          extract_lets +onlyGivenNames x3
          have h3 : Frame P s0 (x3) := by
            unfold x3
            with_reducible apply frame_onlyIf
            · intro x4 h5
              with_reducible apply frame_setPunit (within_trans (by decide) hp)
              with_reducible assumption
            · with_reducible assumption
          clear_value x3
          with_reducible apply frame_dramPush (within_trans (by decide) hp)
          with_reducible apply frame_setRequest (within_trans (by decide) hp)
          with_reducible assumption
        · with_reducible apply frame_ite
          · with_reducible apply frame_finishStatus (within_trans (by decide) hp)
            with_reducible apply frame_onlyIf
            · intro x6 h7
              with_reducible apply frame_poisonListed (within_trans (by decide) hp)
              with_reducible assumption
            · with_reducible assumption
          · with_reducible apply frame_serve (within_trans (by decide) hp)
            with_reducible apply frame_onlyIf
            · intro x8 h9
              with_reducible apply frame_pantryUse (within_trans (by decide) hp)
              with_reducible apply frame_setMeta (within_trans (by decide) hp)
              with_reducible assumption
            · with_reducible assumption

theorem frame_park {P : List Part} {s0 : State} {q : Request} {lost : Bool} {s : State} (hp : within [.txn, .dir, .mirror, .leaves, .ctrs] P = true) (h : Frame P s0 s) : Frame P s0 (park q lost s) := by
  unfold park
  extract_lets +onlyGivenNames x0
  clear_value x0
  extract_lets +onlyGivenNames x1
  clear_value x1
  extract_lets +onlyGivenNames x2
  have h2 : Frame P s0 (x2) := by
    unfold x2
    with_reducible apply frame_setRequest (within_trans (by decide) hp)
    with_reducible assumption
  clear_value x2
  extract_lets +onlyGivenNames x3
  have h3 : Frame P s0 (x3) := by
    unfold x3
    with_reducible apply frame_onlyIf
    · intro x4 h5
      with_reducible apply frame_bump (within_trans (by decide) hp)
      with_reducible assumption
    · with_reducible apply frame_onlyIf
      · intro x6 h7
        with_reducible apply frame_bump (within_trans (by decide) hp)
        with_reducible assumption
      · with_reducible assumption
  clear_value x3
  with_reducible apply frame_enterAged (within_trans (by decide) hp)
  with_reducible assumption

theorem frame_orderEviction {P : List Part} {s0 : State} {q : Request} {s : State} (hp : within [.pkg, .txn, .ledger, .dir, .mem, .dram, .deep, .integ, .mirror, .leaves, .power, .sec, .sessions, .obs, .rings, .kodp, .ctrs, .out, .free] P = true) (h : Frame P s0 s) : Frame P s0 (orderEviction q s) := by
  unfold orderEviction
  extract_lets +onlyGivenNames x0
  clear_value x0
  extract_lets +onlyGivenNames x1
  clear_value x1
  extract_lets +onlyGivenNames x2
  clear_value x2
  extract_lets +onlyGivenNames x3
  have h3 : Frame P s0 (x3) := by
    unfold x3
    with_reducible apply frame_onDir (within_trans (by decide) hp)
    with_reducible assumption
  clear_value x3
  with_reducible apply frame_ite
  · with_reducible apply frame_finishStatus (within_trans (by decide) hp)
    with_reducible assumption
  · split
    · with_reducible apply frame_finishStatus (within_trans (by decide) hp)
      with_reducible apply frame_bump (within_trans (by decide) hp)
      with_reducible assumption
    · with_reducible apply frame_ite
      · with_reducible apply frame_ite
        · with_reducible apply frame_finishStatus (within_trans (by decide) hp)
          with_reducible apply frame_onlyIf
          · intro x4 h5
            with_reducible apply frame_bump (within_trans (by decide) hp)
            with_reducible assumption
          · with_reducible assumption
        · with_reducible apply frame_bump (within_trans (by decide) hp)
          with_reducible apply frame_finishStatus (within_trans (by decide) hp)
          with_reducible assumption
      · with_reducible apply frame_ite
        · with_reducible apply frame_finishStatus (within_trans (by decide) hp)
          with_reducible apply frame_bump (within_trans (by decide) hp)
          with_reducible assumption
        · with_reducible apply frame_ite
          · with_reducible apply frame_ite
            · with_reducible apply frame_ite
              · with_reducible apply frame_bump (within_trans (by decide) hp)
                with_reducible apply frame_finishStatus (within_trans (by decide) hp)
                with_reducible assumption
              · with_reducible apply frame_serve (within_trans (by decide) hp)
                with_reducible assumption
            · with_reducible apply frame_bump (within_trans (by decide) hp)
              with_reducible apply frame_finishStatus (within_trans (by decide) hp)
              with_reducible assumption
          · with_reducible apply frame_finishStatus (within_trans (by decide) hp)
            with_reducible apply frame_ite
            · with_reducible apply frame_putEntry (within_trans (by decide) hp)
              with_reducible assumption
            · with_reducible apply frame_putOrDrop (within_trans (by decide) hp)
              with_reducible assumption

theorem frame_serveInRoom {P : List Part} {s0 : State} {q : Request} {s : State} (hp : within [.pkg, .txn, .ledger, .part, .dir, .mem, .dram, .deep, .integ, .mirror, .leaves, .power, .sec, .sessions, .obs, .rings, .kodp, .ctrs, .out, .free] P = true) (h : Frame P s0 s) : Frame P s0 (serveInRoom q s) := by
  unfold serveInRoom
  extract_lets +onlyGivenNames x0
  clear_value x0
  extract_lets +onlyGivenNames x1
  have h1 : ∀ y0, Frame P s0 y0 → Frame P s0 (x1 y0) := by
    intro x2 h3
    unfold x1
    with_reducible apply frame_park (within_trans (by decide) hp)
    with_reducible assumption
  clear_value x1
  extract_lets +onlyGivenNames x4
  have h4 : ∀ y0, ∀ y1, Frame P s0 y1 → Frame P s0 (x4 y0 y1) := by
    intro x5 x6 h7
    unfold x4
    with_reducible apply frame_setRequest (within_trans (by decide) hp)
    with_reducible assumption
  clear_value x4
  extract_lets +onlyGivenNames x8
  have h8 : ∀ y0, Frame P s0 y0 → Frame P s0 (x8 y0) := by
    intro x9 h10
    unfold x8
    with_reducible apply frame_bump (within_trans (by decide) hp)
    with_reducible apply frame_ite
    · with_reducible apply frame_serveOrRead (within_trans (by decide) hp)
      with_reducible assumption
    · with_reducible apply h1
      with_reducible assumption
  clear_value x8
  split
  · with_reducible apply frame_serveOrRead (within_trans (by decide) hp)
    with_reducible assumption
  · with_reducible apply frame_ite
    · with_reducible apply h1
      with_reducible assumption
    · with_reducible apply h8
      split
      · with_reducible apply frame_startRecall (within_trans (by decide) hp)
        with_reducible apply h4
        with_reducible assumption
      · with_reducible assumption
  · with_reducible apply frame_ite
    · with_reducible apply h1
      with_reducible assumption
    · with_reducible apply h8
      with_reducible apply frame_recallRegion (within_trans (by decide) hp)
      with_reducible apply h4
      with_reducible assumption
  · with_reducible apply frame_bump (within_trans (by decide) hp)
    with_reducible apply h1
    with_reducible assumption

theorem frame_present {P : List Part} {s0 : State} {q : Request} {fromPark : Bool} {s : State} (hp : within [.pkg, .txn, .ledger, .part, .dir, .mem, .dram, .deep, .integ, .mirror, .leaves, .power, .sec, .sessions, .obs, .rings, .kodp, .ctrs, .out, .free] P = true) (h : Frame P s0 s) : Frame P s0 (present q fromPark s) := by
  unfold present
  extract_lets +onlyGivenNames x0
  clear_value x0
  extract_lets +onlyGivenNames x1
  clear_value x1
  with_reducible apply frame_ite
  · with_reducible apply frame_park (within_trans (by decide) hp)
    with_reducible assumption
  · extract_lets +onlyGivenNames x2
    have h2 : Frame P s0 (x2) := by
      unfold x2
      split
      · with_reducible apply frame_ite
        · with_reducible apply frame_bump (within_trans (by decide) hp)
          with_reducible apply frame_putOrDrop (within_trans (by decide) hp)
          with_reducible assumption
        · with_reducible assumption
      · with_reducible assumption
    clear_value x2
    extract_lets +onlyGivenNames x3
    have h3 : Frame P s0 (x3) := by
      unfold x3
      with_reducible apply frame_touchEntry (within_trans (by decide) hp)
      with_reducible assumption
    clear_value x3
    extract_lets +onlyGivenNames x4
    clear_value x4
    extract_lets +onlyGivenNames x5
    clear_value x5
    extract_lets +onlyGivenNames x6
    have h6 : ∀ y0, Frame P s0 y0 → Frame P s0 (x6 y0) := by
      intro x7 h8
      unfold x6
      split
      · extract_lets +onlyGivenNames x9
        clear_value x9
        extract_lets +onlyGivenNames x10
        have h10 : Frame P s0 (x10) := by
          unfold x10
          with_reducible apply frame_setRequest (within_trans (by decide) hp)
          with_reducible assumption
        clear_value x10
        extract_lets +onlyGivenNames x11
        have h11 : Frame P s0 (x11) := by
          unfold x11
          with_reducible apply frame_startRecall (within_trans (by decide) hp)
          with_reducible assumption
        clear_value x11
        with_reducible apply frame_ite
        · with_reducible assumption
        · split
          · with_reducible apply frame_serveOrRead (within_trans (by decide) hp)
            with_reducible assumption
          · with_reducible assumption
      · with_reducible apply frame_ite
        · with_reducible apply frame_serveInRoom (within_trans (by decide) hp)
          with_reducible assumption
        · with_reducible apply frame_serveOrRead (within_trans (by decide) hp)
          with_reducible assumption
    clear_value x6
    with_reducible apply frame_ite
    · with_reducible apply frame_ite
      · with_reducible apply frame_park (within_trans (by decide) hp)
        with_reducible assumption
      · extract_lets +onlyGivenNames x12
        have h12 : Frame P s0 (x12) := by
          unfold x12
          with_reducible apply frame_bump (within_trans (by decide) hp)
          with_reducible apply frame_recallRegion (within_trans (by decide) hp)
          with_reducible assumption
        clear_value x12
        with_reducible apply frame_ite
        · with_reducible apply frame_park (within_trans (by decide) hp)
          with_reducible assumption
        · with_reducible apply h6
          with_reducible assumption
    · with_reducible apply h6
      with_reducible assumption

theorem frame_orderRequest {P : List Part} {s0 : State} {q : Request} {fromPark : Bool} {s : State} (hp : within [.pkg, .txn, .ledger, .part, .dir, .mem, .dram, .deep, .integ, .mirror, .leaves, .power, .sec, .sessions, .obs, .rings, .kodp, .ctrs, .out, .free] P = true) (h : Frame P s0 s) : Frame P s0 (orderRequest q fromPark s) := by
  unfold orderRequest
  with_reducible apply frame_ite
  · with_reducible assumption
  · with_reducible apply frame_ite
    · with_reducible apply frame_holdAtCrossbar (within_trans (by decide) hp)
      with_reducible assumption
    · extract_lets +onlyGivenNames x0
      have h0 : Frame P s0 (x0) := by
        unfold x0
        with_reducible apply frame_leaveCrossbar (within_trans (by decide) hp)
        with_reducible assumption
      clear_value x0
      with_reducible apply frame_ite
      · extract_lets +onlyGivenNames x1
        clear_value x1
        extract_lets +onlyGivenNames x2
        have h2 : ∀ y0, Frame P s0 y0 → Frame P s0 (x2 y0) := by
          intro x3 h4
          unfold x2
          with_reducible apply frame_onDeep (within_trans (by decide) hp)
          with_reducible assumption
        clear_value x2
        split
        · with_reducible apply frame_settleAged (within_trans (by decide) hp)
          with_reducible apply frame_ite
          · with_reducible apply frame_orderEviction (within_trans (by decide) hp)
            with_reducible apply h2
            refine frame_of_fst (by with_reducible assumption) ?_
            with_reducible apply frame_deepAccess (within_trans (by decide) hp)
            with_reducible assumption
          · with_reducible apply frame_present (within_trans (by decide) hp)
            with_reducible apply h2
            refine frame_of_fst (by with_reducible assumption) ?_
            with_reducible apply frame_deepAccess (within_trans (by decide) hp)
            with_reducible assumption
        · with_reducible apply frame_setRequest (within_trans (by decide) hp)
          with_reducible apply frame_onDeep (within_trans (by decide) hp)
          with_reducible apply h2
          refine frame_of_fst (by with_reducible assumption) ?_
          with_reducible apply frame_deepAccess (within_trans (by decide) hp)
          with_reducible assumption
        · with_reducible apply frame_finishStatus (within_trans (by decide) hp)
          with_reducible apply h2
          refine frame_of_fst (by with_reducible assumption) ?_
          with_reducible apply frame_deepAccess (within_trans (by decide) hp)
          with_reducible assumption
        · with_reducible apply frame_ite
          · with_reducible apply frame_finishRead (within_trans (by decide) hp)
            with_reducible apply h2
            refine frame_of_fst (by with_reducible assumption) ?_
            with_reducible apply frame_deepAccess (within_trans (by decide) hp)
            with_reducible assumption
          · with_reducible apply frame_ite
            · with_reducible apply frame_finishAtomic (within_trans (by decide) hp)
              with_reducible apply h2
              refine frame_of_fst (by with_reducible assumption) ?_
              with_reducible apply frame_deepAccess (within_trans (by decide) hp)
              with_reducible assumption
            · with_reducible apply frame_finishStatus (within_trans (by decide) hp)
              with_reducible apply h2
              refine frame_of_fst (by with_reducible assumption) ?_
              with_reducible apply frame_deepAccess (within_trans (by decide) hp)
              with_reducible assumption
      · with_reducible apply frame_settleAged (within_trans (by decide) hp)
        with_reducible apply frame_ite
        · with_reducible apply frame_orderEviction (within_trans (by decide) hp)
          with_reducible assumption
        · with_reducible apply frame_present (within_trans (by decide) hp)
          with_reducible assumption

theorem frame_completeCause {P : List Part} {s0 : State} {line : Nat} {c : RecallCause} {s : State} (hp : within [.pkg, .txn, .ledger, .dir, .mem, .dram, .deep, .integ, .mirror, .leaves, .power, .sec, .sessions, .obs, .rings, .kodp, .ctrs, .out, .free] P = true) (h : Frame P s0 s) : Frame P s0 (completeCause line c s) := by
  unfold completeCause
  split
  · split
    · with_reducible apply frame_ite
      · with_reducible apply frame_settleAged (within_trans (by decide) hp)
        with_reducible apply frame_serveOrRead (within_trans (by decide) hp)
        with_reducible assumption
      · with_reducible assumption
    · with_reducible assumption
  · with_reducible apply frame_onlyIf
    · intro x0 h1
      with_reducible apply frame_onDir (within_trans (by decide) hp)
      with_reducible assumption
    · with_reducible assumption
  · with_reducible assumption

theorem frame_withRecall {P : List Part} {s0 : State} {line : Nat} {f : State → State} {s : State} (hp : within [.pkg, .txn, .ledger, .part, .dir, .mem, .dram, .deep, .integ, .mirror, .leaves, .power, .sec, .sessions, .obs, .rings, .kodp, .ctrs, .out, .free] P = true) (h_f : (∀ x0, Frame P s0 x0 → Frame P s0 (f x0))) (h : Frame P s0 s) : Frame P s0 (withRecall line f s) := by
  unfold withRecall
  extract_lets +onlyGivenNames x0
  clear_value x0
  extract_lets +onlyGivenNames x1
  have h1 : Frame P s0 (x1) := by
    unfold x1
    with_reducible apply h_f
    with_reducible assumption
  clear_value x1
  split
  · with_reducible apply frame_runOwn (within_trans (by decide) hp)
    with_reducible apply frame_completeCause (within_trans (by decide) hp)
    with_reducible assumption
  · with_reducible assumption

theorem frame_answerByEviction {P : List Part} {s0 : State} {q : Request} {s : State} (hp : within [.pkg, .txn, .ledger, .part, .dir, .mem, .dram, .deep, .integ, .mirror, .leaves, .power, .sec, .sessions, .obs, .rings, .kodp, .ctrs, .out, .free] P = true) (h : Frame P s0 s) : Frame P s0 (answerByEviction q s) := by
  unfold answerByEviction
  split
  · with_reducible apply frame_ite
    · with_reducible apply frame_withRecall (within_trans (by decide) hp)
      · intro x0 h1
        with_reducible apply frame_settleSlot (within_trans (by decide) hp)
        with_reducible apply frame_takeEviction (within_trans (by decide) hp)
        with_reducible assumption
      · with_reducible assumption
    · with_reducible assumption
  · with_reducible assumption

theorem frame_pairHalf {P : List Part} {s0 : State} {q : Request} {d : Packet} {s : State} (hp : within [.pkg, .txn, .ledger, .part, .dir, .mem, .dram, .deep, .integ, .mirror, .leaves, .power, .sec, .sessions, .obs, .rings, .kodp, .ctrs, .out, .free] P = true) (h : Frame P s0 s) : Frame P s0 (pairHalf q d s) := by
  unfold pairHalf
  with_reducible apply frame_ite
  · extract_lets +onlyGivenNames x0
    clear_value x0
    with_reducible apply frame_answerByEviction (within_trans (by decide) hp)
    with_reducible apply frame_setRequest (within_trans (by decide) hp)
    with_reducible assumption
  · with_reducible apply frame_ite
    · with_reducible apply frame_bump (within_trans (by decide) hp)
      with_reducible apply frame_dropRequest (within_trans (by decide) hp)
      with_reducible apply frame_answerNow (within_trans (by decide) hp)
      with_reducible assumption
    · split
      · with_reducible apply frame_bump (within_trans (by decide) hp)
        with_reducible apply frame_finishStatus (within_trans (by decide) hp)
        with_reducible assumption
      · extract_lets +onlyGivenNames x1
        clear_value x1
        with_reducible apply frame_answerByEviction (within_trans (by decide) hp)
        with_reducible apply frame_setRequest (within_trans (by decide) hp)
        with_reducible assumption

theorem frame_acceptListed {P : List Part} {s0 : State} {q : Request} {s : State} (hp : within [.pkg, .txn, .ledger, .part, .dir, .mem, .dram, .deep, .integ, .mirror, .leaves, .power, .sec, .sessions, .obs, .rings, .kodp, .ctrs, .out, .free] P = true) (h : Frame P s0 s) : Frame P s0 (acceptListed q s) := by
  unfold acceptListed
  extract_lets +onlyGivenNames x0
  have h0 : Frame P s0 (x0) := by
    unfold x0
    with_reducible apply frame_ite
    · with_reducible apply frame_onDir (within_trans (by decide) hp)
      with_reducible assumption
    · with_reducible assumption
  clear_value x0
  with_reducible apply frame_ite
  · split
    · with_reducible apply frame_pairHalf (within_trans (by decide) hp)
      refine frame_onTxn [.ledger, .txn] (within_trans (by decide) hp) (.inl rfl) (.inl rfl) ?_
      with_reducible assumption
    · with_reducible assumption
  · with_reducible apply frame_answerByEviction (within_trans (by decide) hp)
    with_reducible assumption

theorem frame_acceptRequest {P : List Part} {s0 : State} {q : Request} {s : State} (hp : within [.pkg, .txn, .ledger, .part, .dir, .mem, .dram, .deep, .integ, .mirror, .leaves, .power, .sec, .sessions, .obs, .rings, .kodp, .ctrs, .out, .free] P = true) (h : Frame P s0 s) : Frame P s0 (acceptRequest q s) := by
  unfold acceptRequest
  with_reducible apply frame_acceptListed (within_trans (by decide) hp)
  refine frame_onTxn [.ledger, .txn] (within_trans (by decide) hp) (.inl rfl) (.inl rfl) ?_
  with_reducible assumption

theorem frame_admitRequest {P : List Part} {s0 : State} {port : Nat} {slot : Nat} {p : Packet} {s : State} (hp : within [.pkg, .txn, .ledger, .part, .dir, .mem, .dram, .deep, .integ, .mirror, .leaves, .power, .sec, .sessions, .obs, .rings, .kodp, .ctrs, .out, .free] P = true) (h : Frame P s0 s) : Frame P s0 (admitRequest port slot p s) := by
  unfold admitRequest
  split
  · with_reducible apply frame_acceptRequest (within_trans (by decide) hp)
    refine frame_of_fst (by with_reducible assumption) ?_
    with_reducible apply frame_checkAddressed (within_trans (by decide) hp)
    with_reducible assumption
  · with_reducible apply frame_answerFault (within_trans (by decide) hp)
    refine frame_of_fst (by with_reducible assumption) ?_
    with_reducible apply frame_checkAddressed (within_trans (by decide) hp)
    with_reducible assumption
  · with_reducible apply frame_bump (within_trans (by decide) hp)
    refine frame_onTxn [.ledger, .txn] (within_trans (by decide) hp) (.inl rfl) (.inl rfl) ?_
    refine frame_of_fst (by with_reducible assumption) ?_
    with_reducible apply frame_checkAddressed (within_trans (by decide) hp)
    with_reducible assumption

theorem frame_abortRequest {P : List Part} {s0 : State} {port : Nat} {slot : Nat} {p : Packet} {s : State} (hp : within [.pkg, .txn, .ledger, .part, .dir, .mem, .dram, .deep, .integ, .mirror, .leaves, .power, .sec, .sessions, .obs, .rings, .kodp, .ctrs, .out, .free] P = true) (h : Frame P s0 s) : Frame P s0 (abortRequest port slot p s) := by
  unfold abortRequest
  split
  · with_reducible apply frame_answerFault (within_trans (by decide) hp)
    refine frame_of_fst (by with_reducible assumption) ?_
    with_reducible apply frame_checkAddressed (within_trans (by decide) hp)
    with_reducible assumption
  · with_reducible apply frame_answerEarly (within_trans (by decide) hp)
    refine frame_of_fst (by with_reducible assumption) ?_
    with_reducible apply frame_checkAddressed (within_trans (by decide) hp)
    with_reducible assumption

theorem frame_policedRetry {P : List Part} {s0 : State} {port : Nat} {slot : Nat} {p : Packet} {s : State} (hp : within [.pkg, .txn, .ledger, .part, .dir, .mem, .dram, .deep, .integ, .mirror, .leaves, .power, .sec, .sessions, .obs, .rings, .kodp, .ctrs, .out, .free] P = true) (h : Frame P s0 s) : Frame P s0 (policedRetry port slot p s) := by
  unfold policedRetry
  split
  split
  · split
    with_reducible apply frame_releaseHalf (within_trans (by decide) hp)
    with_reducible apply frame_answerNow (within_trans (by decide) hp)
    refine frame_of_fst (by with_reducible assumption) ?_
    with_reducible apply frame_recordFault (within_trans (by decide) hp)
    refine frame_of_fst (by with_reducible assumption) ?_
    with_reducible apply frame_checkAddressed (within_trans (by decide) hp)
    with_reducible assumption
  · with_reducible apply frame_releaseHalf (within_trans (by decide) hp)
    with_reducible apply frame_answerNow (within_trans (by decide) hp)
    refine frame_of_fst (by with_reducible assumption) ?_
    with_reducible apply frame_checkAddressed (within_trans (by decide) hp)
    with_reducible assumption

theorem frame_arriveRequest {P : List Part} {s0 : State} {port : Nat} {p : Packet} {s : State} (hp : within [.pkg, .txn, .ledger, .part, .dir, .mem, .dram, .deep, .integ, .mirror, .traffic, .leaves, .power, .sec, .sessions, .obs, .rings, .kodp, .ctrs, .out, .free] P = true) (h : Frame P s0 s) : Frame P s0 (arriveRequest port p s) := by
  unfold arriveRequest
  with_reducible apply frame_arriveFabric (within_trans (by decide) hp)
  · intro x0 x1 h2
    with_reducible apply frame_intake (within_trans (by decide) hp)
    · intro x3 x4 h5
      with_reducible apply frame_replayResponse (within_trans (by decide) hp)
      with_reducible assumption
    · intro x6 x7 x8 h9
      with_reducible apply frame_ite
      · with_reducible apply frame_answerEarly (within_trans (by decide) hp)
        with_reducible assumption
      · with_reducible apply frame_ite
        · with_reducible apply frame_abortRequest (within_trans (by decide) hp)
          with_reducible assumption
        · with_reducible apply frame_police (within_trans (by decide) hp)
          · intro x10 h11
            with_reducible apply frame_admitRequest (within_trans (by decide) hp)
            with_reducible assumption
          · intro x12 h13
            with_reducible apply frame_policedRetry (within_trans (by decide) hp)
            with_reducible assumption
          · with_reducible assumption
    · with_reducible assumption
  · with_reducible assumption

theorem frame_arriveHalf {P : List Part} {s0 : State} {port : Nat} {p : Packet} {s : State} (hp : within [.pkg, .txn, .ledger, .part, .dir, .mem, .dram, .deep, .integ, .mirror, .leaves, .power, .sec, .sessions, .obs, .rings, .kodp, .ctrs, .out, .free] P = true) (h : Frame P s0 s) : Frame P s0 (arriveHalf port p s) := by
  unfold arriveHalf
  with_reducible apply frame_arriveFabric (within_trans (by decide) hp)
  · intro x0 x1 h2
    extract_lets +onlyGivenNames x3
    have h3 : ∀ y0, Frame P s0 y0 → Frame P s0 (x3 y0) := by
      intro x4 h5
      unfold x3
      refine frame_onTxn [.ledger, .txn] (within_trans (by decide) hp) (.inl rfl) (.inl rfl) ?_
      with_reducible assumption
    clear_value x3
    split
    · with_reducible apply frame_ite
      · with_reducible apply frame_ite
        · with_reducible apply frame_setRequest (within_trans (by decide) hp)
          with_reducible assumption
        · with_reducible apply frame_pairHalf (within_trans (by decide) hp)
          with_reducible assumption
      · with_reducible apply frame_ite
        · with_reducible assumption
        · with_reducible apply h3
          with_reducible assumption
    · split
      · with_reducible apply frame_onlyIf
        · intro x6 h7
          with_reducible apply frame_bump (within_trans (by decide) hp)
          with_reducible assumption
        · refine frame_onTxn [.ledger, .txn] (within_trans (by decide) hp) (.inl rfl) (.inl rfl) ?_
          with_reducible assumption
      · with_reducible apply h3
        with_reducible assumption
  · with_reducible assumption

end Sys2Proof.Machine
end

