-- ==== Sys2Proof/Laws/FrameOpsPartner.lean ====
section
/-!
SUPPORT. Laws/FrameOpsPartner.lean: the frame of every operation and command of Machine/OpsPartner.lean.
-/
namespace Sys2Proof.Machine

theorem frame_dropTiles {P : List Part} {s0 : State} {id : Nat} {keep : Nat → Bool} {s : State} (hp : within [.recp, .core] P = true) (h : Frame P s0 s) : Frame P s0 (dropTiles id keep s) := by
  unfold dropTiles
  extract_lets +onlyGivenNames x0
  clear_value x0
  extract_lets +onlyGivenNames x1
  have h1 : Frame P s0 (x1) := by
    unfold x1
    with_reducible apply frame_onRecp (within_trans (by decide) hp)
    with_reducible assumption
  clear_value x1
  with_reducible apply frame_onCore (within_trans (by decide) hp)
  with_reducible assumption

theorem frame_setRecipe {P : List Part} {s0 : State} {id : Nat} {f : Recipe → Recipe} {s : State} (hp : within [.recp] P = true) (h : Frame P s0 s) : Frame P s0 (setRecipe id f s) := by
  unfold setRecipe
  with_reducible apply frame_onRecp (within_trans (by decide) hp)
  with_reducible assumption

theorem frame_cancelRecipe {P : List Part} {s0 : State} {id : Nat} {s : State} (hp : within [.recp, .core] P = true) (h : Frame P s0 s) : Frame P s0 (cancelRecipe id s) := by
  unfold cancelRecipe
  with_reducible apply frame_ite
  · with_reducible assumption
  · with_reducible apply frame_dropTiles (within_trans (by decide) hp)
    with_reducible apply frame_setRecipe (within_trans (by decide) hp)
    with_reducible assumption

theorem frame_cancelSlotRecipes {P : List Part} {s0 : State} {slot : Nat} {s : State} (hp : within [.recp, .core] P = true) (h : Frame P s0 s) : Frame P s0 (cancelSlotRecipes slot s) := by
  unfold cancelSlotRecipes
  with_reducible apply frame_forAll
  · intro x0 x1 h2
    with_reducible apply frame_cancelRecipe (within_trans (by decide) hp)
    with_reducible assumption
  · with_reducible assumption

theorem frame_setSlot {P : List Part} {s0 : State} {slot : Nat} {f : Slot → Slot} {s : State} (hp : within [.part] P = true) (h : Frame P s0 s) : Frame P s0 (setSlot slot f s) := by
  unfold setSlot
  with_reducible apply frame_onPart (within_trans (by decide) hp)
  with_reducible assumption

theorem frame_ignoreEvent {P : List Part} {s0 : State} {s : State} (hp : within [.ctrs] P = true) (h : Frame P s0 s) : Frame P s0 (ignoreEvent s) := by
  unfold ignoreEvent
  with_reducible apply frame_bump (within_trans (by decide) hp)
  with_reducible assumption

theorem frame_discardResponses {P : List Part} {s0 : State} {eid : Nat} {s : State} (hp : within [.leaves, .ctrs] P = true) (h : Frame P s0 s) : Frame P s0 (discardResponses eid s) := by
  unfold discardResponses
  with_reducible apply frame_forAll
  · intro x0 x1 h2
    with_reducible apply frame_bumpBy (within_trans (by decide) hp)
    with_reducible assumption
  · refine frame_onTraffic [.leaves] (within_trans (by decide) hp) (.inl rfl) (.inr fun _ => rfl) ?_
    with_reducible assumption

theorem frame_settleHolds {P : List Part} {s0 : State} {slot : Nat} {stays : Held → Bool} {answer : Nat → Packet → State → State} {s : State} (hp : within [.traffic] P = true) (h_answer : (∀ x0, ∀ x1, ∀ x2, Frame P s0 x2 → Frame P s0 (answer x0 x1 x2))) (h : Frame P s0 s) : Frame P s0 (settleHolds slot stays answer s) := by
  unfold settleHolds
  extract_lets +onlyGivenNames x0
  clear_value x0
  extract_lets +onlyGivenNames x1
  have h1 : Frame P s0 (x1) := by
    unfold x1
    refine frame_onTraffic [.traffic] (within_trans (by decide) hp) (.inr fun _ => rfl) (.inl rfl) ?_
    with_reducible assumption
  clear_value x1
  with_reducible apply frame_forAll
  · intro x2 x3 h4
    with_reducible apply frame_forAll
    · intro x5 x6 h7
      with_reducible apply h_answer
      with_reducible assumption
    · with_reducible assumption
  · with_reducible assumption

theorem frame_refuseLost {P : List Part} {s0 : State} {slot : Nat} {port : Nat} {p : Packet} {s : State} (hp : within [.txn, .ledger, .mirror, .leaves, .sec, .ctrs] P = true) (h : Frame P s0 s) : Frame P s0 (refuseLost slot port p s) := by
  unfold refuseLost
  with_reducible apply frame_answerEarly (within_trans (by decide) hp)
  with_reducible apply frame_bump (within_trans (by decide) hp)
  with_reducible apply frame_bump (within_trans (by decide) hp)
  with_reducible assumption

theorem frame_freeBuckets {P : List Part} {s0 : State} {slot : Nat} {s : State} (hp : within [.traffic] P = true) (h : Frame P s0 s) : Frame P s0 (freeBuckets slot s) := by
  unfold freeBuckets
  refine frame_onTraffic [.traffic] (within_trans (by decide) hp) (.inr fun _ => rfl) (.inl rfl) ?_
  with_reducible assumption

theorem frame_freeSlot {P : List Part} {s0 : State} {slot : Nat} {s : State} (hp : within [.ledger, .part, .mirror, .traffic, .leaves, .ctrs] P = true) (h : Frame P s0 s) : Frame P s0 (freeSlot slot s) := by
  unfold freeSlot
  split
  · with_reducible assumption
  · with_reducible apply frame_setSlot (within_trans (by decide) hp)
    with_reducible apply frame_ledgerClear (within_trans (by decide) hp)
    with_reducible apply frame_discardResponses (within_trans (by decide) hp)
    with_reducible apply frame_freeBuckets (within_trans (by decide) hp)
    with_reducible assumption

theorem frame_loseSlot {P : List Part} {s0 : State} {slot : Nat} {cause : Nat} {s : State} (hp : within [.pkg, .txn, .ledger, .part, .dir, .mem, .dram, .deep, .integ, .recp, .core, .mirror, .traffic, .leaves, .power, .sec, .sessions, .obs, .rings, .kodp, .ctrs, .out, .free] P = true) (h : Frame P s0 s) : Frame P s0 (loseSlot slot cause s) := by
  unfold loseSlot
  split
  · with_reducible assumption
  · extract_lets +onlyGivenNames x0
    clear_value x0
    extract_lets +onlyGivenNames x1
    have h1 : Frame P s0 (x1) := by
      unfold x1
      with_reducible apply frame_abortDumps (within_trans (by decide) hp)
      with_reducible assumption
    clear_value x1
    extract_lets +onlyGivenNames x2
    have h2 : Frame P s0 (x2) := by
      unfold x2
      with_reducible apply frame_setSlot (within_trans (by decide) hp)
      with_reducible assumption
    clear_value x2
    extract_lets +onlyGivenNames x3
    have h3 : Frame P s0 (x3) := by
      unfold x3
      with_reducible apply frame_settleHolds (within_trans (by decide) hp)
      · intro x4 x5 x6 h7
        with_reducible apply frame_refuseLost (within_trans (by decide) hp)
        with_reducible assumption
      · with_reducible apply frame_freeBuckets (within_trans (by decide) hp)
        with_reducible apply frame_cancelSlotRecipes (within_trans (by decide) hp)
        with_reducible assumption
    clear_value x3
    extract_lets +onlyGivenNames x8
    have h8 : Frame P s0 (x8) := by
      unfold x8
      with_reducible apply frame_forAll
      · intro x9 x10 h11
        with_reducible apply frame_withRecall (within_trans (by decide) hp)
        · intro x12 h13
          with_reducible apply frame_settleSlot (within_trans (by decide) hp)
          with_reducible apply frame_applyLoss (within_trans (by decide) hp)
          with_reducible assumption
        · with_reducible assumption
      · with_reducible assumption
    clear_value x8
    with_reducible apply frame_dropPool (within_trans (by decide) hp)
    with_reducible assumption

theorem frame_recallSlot {P : List Part} {s0 : State} {slot : Nat} {s : State} (hp : within [.pkg, .txn, .ledger, .part, .dir, .mem, .dram, .deep, .integ, .mirror, .leaves, .power, .sessions, .obs, .rings, .kodp, .ctrs, .out, .free] P = true) (h : Frame P s0 s) : Frame P s0 (recallSlot slot s) := by
  unfold recallSlot
  with_reducible apply frame_forAll
  · intro x0 x1 h2
    with_reducible apply frame_ite
    · with_reducible assumption
    · with_reducible apply frame_startRecall (within_trans (by decide) hp)
      with_reducible assumption
  · with_reducible assumption

theorem frame_startDetach {P : List Part} {s0 : State} {slot : Nat} {tag : Nat} {s : State} (hp : within [.pkg, .txn, .ledger, .part, .dir, .mem, .dram, .deep, .integ, .recp, .core, .mirror, .leaves, .power, .sessions, .obs, .rings, .kodp, .ctrs, .out, .free] P = true) (h : Frame P s0 s) : Frame P s0 (startDetach slot tag s) := by
  unfold startDetach
  extract_lets +onlyGivenNames x0
  clear_value x0
  extract_lets +onlyGivenNames x1
  have h1 : Frame P s0 (x1) := by
    unfold x1
    with_reducible apply frame_abortDumps (within_trans (by decide) hp)
    with_reducible assumption
  clear_value x1
  with_reducible apply frame_cancelSlotRecipes (within_trans (by decide) hp)
  with_reducible apply frame_recallSlot (within_trans (by decide) hp)
  with_reducible apply frame_setSlot (within_trans (by decide) hp)
  with_reducible assumption

theorem frame_voidTensors {P : List Part} {s0 : State} {ctx : Nat} {s : State} (hp : within [.ledger, .leaves, .sessions, .obs, .rings, .kodp, .ctrs, .out] P = true) (h : Frame P s0 s) : Frame P s0 (voidTensors ctx s) := by
  unfold voidTensors
  extract_lets +onlyGivenNames x0
  clear_value x0
  extract_lets +onlyGivenNames x1
  have h1 : Frame P s0 (x1) := by
    unfold x1
    refine frame_onObs [.rings, .obs] (within_trans (by decide) hp) (.inr fun _ => rfl) (.inl rfl) (.inl rfl) ?_
    with_reducible assumption
  clear_value x1
  with_reducible apply frame_forAll
  · intro x2 x3 h4
    with_reducible apply frame_notify (within_trans (by decide) hp)
    with_reducible apply frame_abortDumps (within_trans (by decide) hp)
    with_reducible assumption
  · with_reducible assumption

theorem frame_openSnoop {P : List Part} {s0 : State} {rsp : Packet} {p : Packet} {s : State} (hp : within [.sec] P = true) (h : Frame P s0 s) : FrameP P s0 (openSnoop rsp p s) := by
  unfold openSnoop
  split
  · with_reducible apply frame_mk
    with_reducible assumption
  · extract_lets +onlyGivenNames x0
    clear_value x0
    split
    · with_reducible apply frame_mk
      with_reducible apply frame_endExchange (within_trans (by decide) hp)
      with_reducible assumption
    · split
      · with_reducible apply frame_mk
        with_reducible apply frame_endExchange (within_trans (by decide) hp)
        with_reducible assumption
      · with_reducible apply frame_mk
        with_reducible assumption

theorem frame_takeSnoopData {P : List Part} {s0 : State} {line : Nat} {slot : Nat} {rsp : Packet} {p : Packet} {s : State} (hp : within [.pkg, .txn, .ledger, .dir, .mem, .dram, .deep, .integ, .mirror, .leaves, .power, .sec, .sessions, .obs, .rings, .kodp, .ctrs, .out, .free] P = true) (h : Frame P s0 s) : Frame P s0 (takeSnoopData line slot rsp p s) := by
  unfold takeSnoopData
  extract_lets +onlyGivenNames x0
  clear_value x0
  split
  split
  · with_reducible apply frame_bump (within_trans (by decide) hp)
    with_reducible apply frame_onDir (within_trans (by decide) hp)
    refine frame_of_fst (by with_reducible assumption) ?_
    with_reducible apply frame_ite1
    · with_reducible apply frame_mk
      with_reducible assumption
    · with_reducible apply frame_ite1
      · with_reducible apply frame_openSnoop (within_trans (by decide) hp)
        with_reducible assumption
      · with_reducible apply frame_mk
        with_reducible assumption
  · extract_lets +onlyGivenNames x1
    have h1 : Frame P s0 (x1) := by
      unfold x1
      with_reducible apply frame_ite
      · with_reducible apply frame_writeSnoop (within_trans (by decide) hp)
        refine frame_of_fst (by with_reducible assumption) ?_
        with_reducible apply frame_ite1
        · with_reducible apply frame_mk
          with_reducible assumption
        · with_reducible apply frame_ite1
          · with_reducible apply frame_openSnoop (within_trans (by decide) hp)
            with_reducible assumption
          · with_reducible apply frame_mk
            with_reducible assumption
      · with_reducible apply frame_bump (within_trans (by decide) hp)
        refine frame_of_fst (by with_reducible assumption) ?_
        with_reducible apply frame_ite1
        · with_reducible apply frame_mk
          with_reducible assumption
        · with_reducible apply frame_ite1
          · with_reducible apply frame_openSnoop (within_trans (by decide) hp)
            with_reducible assumption
          · with_reducible apply frame_mk
            with_reducible assumption
    clear_value x1
    extract_lets +onlyGivenNames x2
    have h2 : Frame P s0 (x2) := by
      unfold x2
      split
      · with_reducible apply frame_endPool (within_trans (by decide) hp)
        with_reducible assumption
      · with_reducible assumption
    clear_value x2
    extract_lets +onlyGivenNames x3
    have h3 : Frame P s0 (x3) := by
      unfold x3
      with_reducible apply frame_onlyIf
      · intro x4 h5
        with_reducible apply frame_advanceGen (within_trans (by decide) hp)
        with_reducible assumption
      · with_reducible assumption
    clear_value x3
    with_reducible apply frame_answerState (within_trans (by decide) hp)
    with_reducible assumption
  · refine frame_of_fst (by with_reducible assumption) ?_
    with_reducible apply frame_ite1
    · with_reducible apply frame_mk
      with_reducible assumption
    · with_reducible apply frame_ite1
      · with_reducible apply frame_openSnoop (within_trans (by decide) hp)
        with_reducible assumption
      · with_reducible apply frame_mk
        with_reducible assumption

end Sys2Proof.Machine
end

