-- ==== Sys2Proof/Laws/FrameOpsDram.lean ====
section
/-!
SUPPORT. Laws/FrameOpsDram.lean: the frame of every operation and command of Machine/OpsDram.lean.
-/
namespace Sys2Proof.Machine

theorem frame_dramOut {P : List Part} {s0 : State} {ch : Nat} {pseudo : Nat} {bank : Nat} {kind : Nat} {s : State} (hp : within [.out] P = true) (h : Frame P s0 s) : Frame P s0 (dramOut ch pseudo bank kind s) := by
  unfold dramOut
  with_reducible apply frame_emit (within_trans (by decide) hp)
  with_reducible assumption

theorem frame_refreshBank {P : List Part} {s0 : State} {ch : Nat} {pseudo : Nat} {bank : Nat} {s : State} (hp : within [.dram, .out] P = true) (h : Frame P s0 s) : Frame P s0 (refreshBank ch pseudo bank s) := by
  unfold refreshBank
  with_reducible apply frame_dramOut (within_trans (by decide) hp)
  with_reducible apply frame_setChannel (within_trans (by decide) hp)
  with_reducible assumption

theorem frame_issueDram {P : List Part} {s0 : State} {ch : Nat} {r : DramReq} {s : State} (hp : within [.dram, .ctrs, .out] P = true) (h : Frame P s0 s) : Frame P s0 (issueDram ch r s) := by
  unfold issueDram
  extract_lets +onlyGivenNames x0
  clear_value x0
  extract_lets +onlyGivenNames x1
  have h1 : Frame P s0 (x1) := by
    unfold x1
    with_reducible apply frame_setChannel (within_trans (by decide) hp)
    with_reducible assumption
  clear_value x1
  with_reducible apply frame_panicUpdate (within_trans (by decide) hp)
  with_reducible apply frame_dramOut (within_trans (by decide) hp)
  with_reducible assumption

theorem frame_failChannel {P : List Part} {s0 : State} {ch : Nat} {s : State} (hp : within [.ledger, .dram, .leaves, .sessions, .rings, .kodp, .ctrs, .out] P = true) (h : Frame P s0 s) : Frame P s0 (failChannel ch s) := by
  unfold failChannel
  with_reducible apply frame_ite
  · with_reducible assumption
  · with_reducible apply frame_notify (within_trans (by decide) hp)
    with_reducible apply frame_setChannel (within_trans (by decide) hp)
    with_reducible assumption

theorem frame_answerRepair {P : List Part} {s0 : State} {l : Nat} {tag : Nat} {port : Nat} {bad : Bool} {s : State} (hp : within [.twin, .leaves, .ctrs] P = true) (h : Frame P s0 s) : Frame P s0 (answerRepair l tag port bad s) := by
  unfold answerRepair
  extract_lets +onlyGivenNames x0
  clear_value x0
  extract_lets +onlyGivenNames x1
  clear_value x1
  with_reducible apply frame_bump (within_trans (by decide) hp)
  with_reducible apply frame_sendOnPort (within_trans (by decide) hp)
  refine frame_onTwin [.twin] (within_trans (by decide) hp) (.inr fun _ => rfl) (.inl rfl) ?_
  with_reducible assumption

theorem frame_answerFailed {P : List Part} {s0 : State} {ch : Nat} {s : State} (hp : within [.pkg, .txn, .ledger, .dir, .mem, .dram, .deep, .integ, .twin, .mirror, .leaves, .power, .sec, .sessions, .obs, .rings, .kodp, .ctrs, .out, .free] P = true) (h : Frame P s0 s) : Frame P s0 (answerFailed ch s) := by
  unfold answerFailed
  extract_lets +onlyGivenNames x0
  have h0 : Frame P s0 (x0) := by
    unfold x0
    with_reducible apply frame_forAll
    · intro x1 x2 h3
      with_reducible apply frame_answerRepair (within_trans (by decide) hp)
      with_reducible assumption
    · with_reducible assumption
  clear_value x0
  with_reducible apply frame_forAll
  · intro x4 x5 h6
    split
    · with_reducible apply frame_settleAged (within_trans (by decide) hp)
      with_reducible apply frame_serveOrRead (within_trans (by decide) hp)
      with_reducible assumption
    · with_reducible assumption
  · with_reducible apply frame_forAll
    · intro x7 x8 h9
      with_reducible apply frame_readForWriteback (within_trans (by decide) hp)
      with_reducible assumption
    · with_reducible assumption

theorem frame_unlistPoison {P : List Part} {s0 : State} {ch : Nat} {s : State} (hp : within [.pkg, .mem, .dram, .mirror, .leaves, .power, .rings, .ctrs, .free] P = true) (h : Frame P s0 s) : Frame P s0 (unlistPoison ch s) := by
  unfold unlistPoison
  extract_lets +onlyGivenNames x0
  clear_value x0
  extract_lets +onlyGivenNames x1
  clear_value x1
  extract_lets +onlyGivenNames x2
  have h2 : Frame P s0 (x2) := by
    unfold x2
    with_reducible apply frame_onlyIf
    · intro x3 h4
      refine frame_onMem (within_trans (by decide) hp) (fun _ w => w) ?_
      with_reducible assumption
    · with_reducible assumption
  clear_value x2
  extract_lets +onlyGivenNames x5
  have h5 : Frame P s0 (x5) := by
    unfold x5
    with_reducible apply frame_setChannel (within_trans (by decide) hp)
    with_reducible assumption
  clear_value x5
  with_reducible apply frame_forAll
  · intro x6 x7 h8
    split
    · with_reducible apply frame_commitRaw (within_trans (by decide) hp)
      with_reducible assumption
    · with_reducible assumption
  · with_reducible assumption

theorem frame_retrainChannel {P : List Part} {s0 : State} {ch : Nat} {s : State} (hp : within [.pkg, .txn, .ledger, .dir, .mem, .dram, .deep, .integ, .twin, .mirror, .leaves, .power, .sec, .sessions, .obs, .rings, .kodp, .ctrs, .out, .free] P = true) (h : Frame P s0 s) : Frame P s0 (retrainChannel ch s) := by
  unfold retrainChannel
  extract_lets +onlyGivenNames x0
  clear_value x0
  extract_lets +onlyGivenNames x1
  clear_value x1
  extract_lets +onlyGivenNames x2
  have h2 : Frame P s0 (x2) := by
    unfold x2
    with_reducible apply frame_bump (within_trans (by decide) hp)
    with_reducible apply frame_setChannel (within_trans (by decide) hp)
    with_reducible assumption
  clear_value x2
  extract_lets +onlyGivenNames x3
  have h3 : Frame P s0 (x3) := by
    unfold x3
    with_reducible apply frame_crumb (within_trans (by decide) hp)
    with_reducible assumption
  clear_value x3
  with_reducible apply frame_ite
  · with_reducible apply frame_answerFailed (within_trans (by decide) hp)
    with_reducible apply frame_failChannel (within_trans (by decide) hp)
    with_reducible assumption
  · with_reducible apply frame_setChannel (within_trans (by decide) hp)
    with_reducible assumption

theorem frame_channelServes {P : List Part} {s0 : State} {ch : Nat} {s : State} (hp : within [.pkg, .mem, .dram, .mirror, .leaves, .power, .rings, .ctrs, .free] P = true) (h : Frame P s0 s) : Frame P s0 (channelServes ch s) := by
  unfold channelServes
  extract_lets +onlyGivenNames x0
  clear_value x0
  extract_lets +onlyGivenNames x1
  have h1 : Frame P s0 (x1) := by
    unfold x1
    with_reducible apply frame_setChannel (within_trans (by decide) hp)
    with_reducible assumption
  clear_value x1
  with_reducible apply frame_panicUpdate (within_trans (by decide) hp)
  with_reducible apply frame_onlyIf
  · intro x2 h3
    with_reducible apply frame_unlistPoison (within_trans (by decide) hp)
    with_reducible assumption
  · with_reducible assumption

theorem frame_badRow {P : List Part} {s0 : State} {l : Nat} {s : State} (hp : within [.integ] P = true) (h : Frame P s0 s) : Frame P s0 (badRow l s) := by
  unfold badRow
  with_reducible apply frame_ite
  · with_reducible assumption
  · with_reducible apply frame_onInteg (within_trans (by decide) hp)
    with_reducible assumption

theorem frame_countCorrected {P : List Part} {s0 : State} {l : Nat} {sym : Nat} {s : State} (hp : within [.ledger, .integ, .leaves, .sessions, .rings, .kodp, .ctrs, .out] P = true) (h : Frame P s0 s) : Frame P s0 (countCorrected l sym s) := by
  unfold countCorrected
  extract_lets +onlyGivenNames x0
  clear_value x0
  extract_lets +onlyGivenNames x1
  clear_value x1
  extract_lets +onlyGivenNames x2
  have h2 : Frame P s0 (x2) := by
    unfold x2
    with_reducible apply frame_bump (within_trans (by decide) hp)
    with_reducible apply frame_bump (within_trans (by decide) hp)
    with_reducible assumption
  clear_value x2
  extract_lets +onlyGivenNames x3
  clear_value x3
  extract_lets +onlyGivenNames x4
  have h4 : Frame P s0 (x4) := by
    unfold x4
    split
    · with_reducible apply frame_ite
      · with_reducible assumption
      · with_reducible apply frame_logError (within_trans (by decide) hp)
        refine frame_onKodp [.kodp] (within_trans (by decide) hp) (.inr fun _ => rfl) (.inr fun _ => rfl) (.inl rfl) ?_
        with_reducible assumption
    · with_reducible apply frame_logError (within_trans (by decide) hp)
      refine frame_onKodp [.kodp] (within_trans (by decide) hp) (.inr fun _ => rfl) (.inr fun _ => rfl) (.inl rfl) ?_
      with_reducible assumption
  clear_value x4
  extract_lets +onlyGivenNames x5
  clear_value x5
  split
  extract_lets +onlyGivenNames x6
  clear_value x6
  extract_lets +onlyGivenNames x7
  have h7 : Frame P s0 (x7) := by
    unfold x7
    with_reducible apply frame_onInteg (within_trans (by decide) hp)
    with_reducible assumption
  clear_value x7
  extract_lets +onlyGivenNames x8
  have h8 : Frame P s0 (x8) := by
    unfold x8
    with_reducible apply frame_onlyIf
    · intro x9 h10
      with_reducible apply frame_notifyLimited (within_trans (by decide) hp)
      with_reducible assumption
    · with_reducible assumption
  clear_value x8
  extract_lets +onlyGivenNames x11
  clear_value x11
  extract_lets +onlyGivenNames x12
  clear_value x12
  extract_lets +onlyGivenNames x13
  clear_value x13
  extract_lets +onlyGivenNames x14
  clear_value x14
  extract_lets +onlyGivenNames x15
  clear_value x15
  extract_lets +onlyGivenNames x16
  have h16 : Frame P s0 (x16) := by
    unfold x16
    with_reducible apply frame_onInteg (within_trans (by decide) hp)
    with_reducible assumption
  clear_value x16
  with_reducible apply frame_onlyIf
  · intro x17 h18
    with_reducible apply frame_notifyLimited (within_trans (by decide) hp)
    with_reducible assumption
  · with_reducible assumption

theorem frame_tagArrived {P : List Part} {s0 : State} {l : Nat} {s : State} (hp : within [.pkg, .txn, .ledger, .part, .dir, .mem, .dram, .deep, .integ, .mirror, .leaves, .power, .sec, .sessions, .obs, .rings, .kodp, .ctrs, .out, .free] P = true) (h : Frame P s0 s) : Frame P s0 (tagArrived l s) := by
  unfold tagArrived
  extract_lets +onlyGivenNames x0
  clear_value x0
  extract_lets +onlyGivenNames x1
  clear_value x1
  extract_lets +onlyGivenNames x2
  have h2 : Frame P s0 (x2) := by
    unfold x2
    with_reducible apply frame_forAll
    · intro x3 x4 h5
      with_reducible apply frame_startWriteback (within_trans (by decide) hp)
      with_reducible assumption
    · with_reducible assumption
  clear_value x2
  with_reducible apply frame_forAll
  · intro x6 x7 h8
    split
    · with_reducible apply frame_orderRequest (within_trans (by decide) hp)
      with_reducible assumption
    · with_reducible assumption
  · with_reducible assumption

theorem frame_resumeCause {P : List Part} {s0 : State} {l : Nat} {cause : DramCause} {s : State} (hp : within [.pkg, .txn, .ledger, .part, .dir, .mem, .dram, .deep, .integ, .twin, .mirror, .leaves, .power, .sec, .sessions, .obs, .rings, .kodp, .ctrs, .out, .free] P = true) (h : Frame P s0 s) : Frame P s0 (resumeCause l cause s) := by
  unfold resumeCause
  split
  · split
    · with_reducible apply frame_ite
      · with_reducible apply frame_settleAged (within_trans (by decide) hp)
        with_reducible apply frame_serve (within_trans (by decide) hp)
        with_reducible apply frame_pantryFill (within_trans (by decide) hp)
        with_reducible assumption
      · with_reducible assumption
    · with_reducible assumption
  · with_reducible apply frame_ite
    · with_reducible apply frame_noteReturned (within_trans (by decide) hp)
      with_reducible assumption
    · with_reducible apply frame_bump (within_trans (by decide) hp)
      with_reducible assumption
  · with_reducible apply frame_tagArrived (within_trans (by decide) hp)
    with_reducible apply frame_pantryFill (within_trans (by decide) hp)
    with_reducible assumption
  · with_reducible apply frame_readForWriteback (within_trans (by decide) hp)
    with_reducible assumption
  · with_reducible apply frame_answerRepair (within_trans (by decide) hp)
    with_reducible assumption
  · with_reducible assumption

theorem frame_askRepair {P : List Part} {s0 : State} {l : Nat} {cause : DramCause} {s : State} (hp : within [.txn, .ledger, .integ, .leaves, .ctrs] P = true) (h : Frame P s0 s) : Frame P s0 (askRepair l cause s) := by
  unfold askRepair
  extract_lets +onlyGivenNames x0
  have h0 : Frame P s0 (x0) := by
    unfold x0
    with_reducible apply frame_onInteg (within_trans (by decide) hp)
    with_reducible assumption
  clear_value x0
  with_reducible apply frame_ite
  · with_reducible assumption
  · extract_lets +onlyGivenNames x1
    clear_value x1
    extract_lets +onlyGivenNames x2
    clear_value x2
    with_reducible apply frame_bump (within_trans (by decide) hp)
    with_reducible apply frame_issuePool (within_trans (by decide) hp)
    with_reducible assumption

theorem frame_uncorrectableLine {P : List Part} {s0 : State} {l : Nat} {cause : DramCause} {s : State} (hp : within [.pkg, .txn, .ledger, .part, .dir, .mem, .dram, .deep, .integ, .twin, .mirror, .leaves, .power, .sec, .sessions, .obs, .rings, .kodp, .ctrs, .out, .free] P = true) (h : Frame P s0 s) : Frame P s0 (uncorrectableLine l cause s) := by
  unfold uncorrectableLine
  extract_lets +onlyGivenNames x0
  clear_value x0
  extract_lets +onlyGivenNames x1
  have h1 : Frame P s0 (x1) := by
    unfold x1
    with_reducible apply frame_badRow (within_trans (by decide) hp)
    with_reducible apply frame_crumb (within_trans (by decide) hp)
    with_reducible apply frame_bump (within_trans (by decide) hp)
    with_reducible assumption
  clear_value x1
  split
  · with_reducible apply frame_answerRepair (within_trans (by decide) hp)
    with_reducible apply frame_poisonLine (within_trans (by decide) hp)
    with_reducible apply frame_logError (within_trans (by decide) hp)
    with_reducible assumption
  · with_reducible apply frame_ite
    · with_reducible apply frame_askRepair (within_trans (by decide) hp)
      with_reducible apply frame_logError (within_trans (by decide) hp)
      with_reducible assumption
    · extract_lets +onlyGivenNames x2
      clear_value x2
      split
      · extract_lets +onlyGivenNames x3
        have h3 : Frame P s0 (x3) := by
          unfold x3
          with_reducible apply frame_logError (within_trans (by decide) hp)
          with_reducible apply frame_bump (within_trans (by decide) hp)
          with_reducible assumption
        clear_value x3
        extract_lets +onlyGivenNames x4
        have h4 : Frame P s0 (x4) := by
          unfold x4
          with_reducible apply frame_onInteg (within_trans (by decide) hp)
          with_reducible assumption
        clear_value x4
        with_reducible apply frame_ite
        · with_reducible assumption
        · with_reducible apply frame_bump (within_trans (by decide) hp)
          with_reducible apply frame_startFill (within_trans (by decide) hp)
          with_reducible assumption
      · with_reducible apply frame_resumeCause (within_trans (by decide) hp)
        with_reducible apply frame_poisonLine (within_trans (by decide) hp)
        with_reducible apply frame_logError (within_trans (by decide) hp)
        with_reducible assumption

theorem frame_endRepair {P : List Part} {s0 : State} {l : Nat} {good : Bool} {s : State} (hp : within [.pkg, .txn, .ledger, .part, .dir, .mem, .dram, .deep, .integ, .twin, .mirror, .leaves, .power, .sec, .sessions, .obs, .rings, .kodp, .ctrs, .out, .free] P = true) (h : Frame P s0 s) : Frame P s0 (endRepair l good s) := by
  unfold endRepair
  extract_lets +onlyGivenNames x0
  clear_value x0
  extract_lets +onlyGivenNames x1
  clear_value x1
  extract_lets +onlyGivenNames x2
  have h2 : Frame P s0 (x2) := by
    unfold x2
    with_reducible apply frame_onInteg (within_trans (by decide) hp)
    with_reducible assumption
  clear_value x2
  extract_lets +onlyGivenNames x3
  have h3 : Frame P s0 (x3) := by
    unfold x3
    with_reducible apply frame_ite
    · with_reducible apply frame_bump (within_trans (by decide) hp)
      with_reducible assumption
    · with_reducible apply frame_bump (within_trans (by decide) hp)
      with_reducible apply frame_poisonLine (within_trans (by decide) hp)
      with_reducible assumption
  clear_value x3
  with_reducible apply frame_forAll
  · intro x4 x5 h6
    with_reducible apply frame_resumeCause (within_trans (by decide) hp)
    with_reducible assumption
  · with_reducible assumption

theorem frame_scrubRow {P : List Part} {s0 : State} {l : Nat} {s : State} (hp : within [.integ] P = true) (h : Frame P s0 s) : Frame P s0 (scrubRow l s) := by
  unfold scrubRow
  extract_lets +onlyGivenNames x0
  clear_value x0
  extract_lets +onlyGivenNames x1
  clear_value x1
  split
  extract_lets +onlyGivenNames x2
  clear_value x2
  extract_lets +onlyGivenNames x3
  have h3 : Frame P s0 (x3) := by
    unfold x3
    with_reducible apply frame_onInteg (within_trans (by decide) hp)
    with_reducible assumption
  clear_value x3
  with_reducible apply frame_onlyIf
  · intro x4 h5
    with_reducible apply frame_badRow (within_trans (by decide) hp)
    with_reducible assumption
  · with_reducible assumption

theorem frame_applyResidual {P : List Part} {s0 : State} {l : Nat} {errors : List (Nat × Nat)} {s : State} (hp : within [.mem] P = true) (h : Frame P s0 s) : Frame P s0 (applyResidual l errors s) := by
  unfold applyResidual
  extract_lets +onlyGivenNames x0
  clear_value x0
  with_reducible apply frame_ite
  · with_reducible assumption
  · extract_lets +onlyGivenNames x1
    clear_value x1
    with_reducible apply frame_setMeta (within_trans (by decide) hp)
    with_reducible apply frame_putBytes (within_trans (by decide) hp)
    with_reducible assumption

theorem frame_scrubRead {P : List Part} {s0 : State} {l : Nat} {errors : List (Nat × Nat)} {s : State} (hp : within [.pkg, .txn, .ledger, .part, .dir, .mem, .dram, .deep, .integ, .twin, .mirror, .leaves, .power, .sec, .sessions, .obs, .rings, .kodp, .ctrs, .out, .free] P = true) (h : Frame P s0 s) : Frame P s0 (scrubRead l errors s) := by
  unfold scrubRead
  extract_lets +onlyGivenNames x0
  have h0 : ∀ y0, Frame P s0 y0 → Frame P s0 (x0 y0) := by
    intro x1 h2
    unfold x0
    with_reducible apply frame_dramPush (within_trans (by decide) hp)
    with_reducible assumption
  clear_value x0
  split
  · with_reducible apply frame_applyResidual (within_trans (by decide) hp)
    with_reducible assumption
  · with_reducible apply frame_scrubRow (within_trans (by decide) hp)
    with_reducible apply frame_countCorrected (within_trans (by decide) hp)
    with_reducible apply frame_bump (within_trans (by decide) hp)
    with_reducible apply h0
    with_reducible apply frame_applyResidual (within_trans (by decide) hp)
    with_reducible assumption
  · with_reducible apply frame_ite
    · with_reducible apply h0
      with_reducible assumption
    · with_reducible apply frame_uncorrectableLine (within_trans (by decide) hp)
      with_reducible assumption

theorem frame_lineRead {P : List Part} {s0 : State} {l : Nat} {errors : List (Nat × Nat)} {cause : DramCause} {s : State} (hp : within [.pkg, .txn, .ledger, .part, .dir, .mem, .dram, .deep, .integ, .twin, .mirror, .leaves, .power, .sec, .sessions, .obs, .rings, .kodp, .ctrs, .out, .free] P = true) (h : Frame P s0 s) : Frame P s0 (lineRead l errors cause s) := by
  unfold lineRead
  with_reducible apply frame_ite
  · with_reducible apply frame_scrubRead (within_trans (by decide) hp)
    with_reducible assumption
  · split
    · with_reducible apply frame_resumeCause (within_trans (by decide) hp)
      with_reducible apply frame_applyResidual (within_trans (by decide) hp)
      with_reducible assumption
    · extract_lets +onlyGivenNames x0
      have h0 : Frame P s0 (x0) := by
        unfold x0
        with_reducible apply frame_resumeCause (within_trans (by decide) hp)
        with_reducible apply frame_countCorrected (within_trans (by decide) hp)
        with_reducible apply frame_applyResidual (within_trans (by decide) hp)
        with_reducible assumption
      clear_value x0
      with_reducible apply frame_setMeta (within_trans (by decide) hp)
      with_reducible assumption
    · with_reducible apply frame_uncorrectableLine (within_trans (by decide) hp)
      with_reducible assumption

end Sys2Proof.Machine
end

