-- ==== Sys2Proof/Laws/FrameOpsRecipe.lean ====
section
/-!
SUPPORT. Laws/FrameOpsRecipe.lean: the frame of every operation and command of Machine/OpsRecipe.lean.
-/
namespace Sys2Proof.Machine

theorem frame_writeThrough {P : List Part} {s0 : State} {by_ : AccBy} {ctx : Nat} {addr : Nat} {bytes : List Byte} {s : State} (hp : within [.pkg, .txn, .ledger, .part, .dir, .mem, .dram, .deep, .integ, .mirror, .leaves, .power, .sessions, .obs, .rings, .kodp, .ctrs, .out, .free] P = true) (h : Frame P s0 s) : FrameP P s0 (writeThrough by_ ctx addr bytes s) := by
  unfold writeThrough
  split
  · with_reducible apply frame_mk
    with_reducible assumption
  · extract_lets +onlyGivenNames x0
    clear_value x0
    split
    · with_reducible apply frame_mk
      refine frame_of_fst (by with_reducible assumption) ?_
      with_reducible apply frame_readyLine (within_trans (by decide) hp)
      with_reducible assumption
    · with_reducible apply frame_mk
      refine frame_of_fst (by with_reducible assumption) ?_
      with_reducible apply frame_readyLine (within_trans (by decide) hp)
      with_reducible assumption
    · with_reducible apply frame_ite1
      · with_reducible apply frame_mk
        refine frame_of_fst (by with_reducible assumption) ?_
        with_reducible apply frame_readyLine (within_trans (by decide) hp)
        with_reducible assumption
      · with_reducible apply frame_mk
        with_reducible apply frame_writeLine (within_trans (by decide) hp)
        with_reducible apply frame_dropEntry (within_trans (by decide) hp)
        refine frame_of_fst (by with_reducible assumption) ?_
        with_reducible apply frame_readyLine (within_trans (by decide) hp)
        with_reducible assumption

theorem frame_sendDone {P : List Part} {s0 : State} {r : Recipe} {pkt : Packet} {st : Status} {slot1 : List Byte} {s : State} (hp : within [.txn, .ledger, .dir, .mirror, .leaves, .sec, .ctrs] P = true) (h : Frame P s0 s) : Frame P s0 (sendDone r pkt st slot1 s) := by
  unfold sendDone
  extract_lets +onlyGivenNames x0
  clear_value x0
  extract_lets +onlyGivenNames x1
  have h1 : Frame P s0 (x1) := by
    unfold x1
    refine frame_onTxn [.ledger, .txn] (within_trans (by decide) hp) (.inl rfl) (.inl rfl) ?_
    with_reducible assumption
  clear_value x1
  with_reducible apply frame_finish (within_trans (by decide) hp)
  with_reducible assumption

theorem frame_dropRecipe {P : List Part} {s0 : State} {r : Recipe} {s : State} (hp : within [.pkg, .recp, .core, .mirror, .leaves, .power, .ctrs] P = true) (h : Frame P s0 s) : Frame P s0 (dropRecipe r s) := by
  unfold dropRecipe
  extract_lets +onlyGivenNames x0
  have h0 : Frame P s0 (x0) := by
    unfold x0
    with_reducible apply frame_endRecipeGrants (within_trans (by decide) hp)
    with_reducible apply frame_dropTiles (within_trans (by decide) hp)
    with_reducible assumption
  clear_value x0
  extract_lets +onlyGivenNames x1
  have h1 : Frame P s0 (x1) := by
    unfold x1
    with_reducible apply frame_onRecp (within_trans (by decide) hp)
    with_reducible assumption
  clear_value x1
  with_reducible apply frame_mirrorState (within_trans (by decide) hp)
  with_reducible assumption

theorem frame_closeRecipe {P : List Part} {s0 : State} {r : Recipe} {st : Status} {written : Bool} {s : State} (hp : within [.pkg, .txn, .ledger, .dir, .recp, .core, .mirror, .leaves, .power, .sec, .ctrs] P = true) (h : Frame P s0 s) : Frame P s0 (closeRecipe r st written s) := by
  unfold closeRecipe
  extract_lets +onlyGivenNames x0
  clear_value x0
  with_reducible apply frame_sendDone (within_trans (by decide) hp)
  with_reducible apply frame_bump (within_trans (by decide) hp)
  with_reducible apply frame_dropRecipe (within_trans (by decide) hp)
  with_reducible assumption

theorem frame_endRecipe {P : List Part} {s0 : State} {r : Recipe} {st : Status} {s : State} (hp : within [.pkg, .txn, .ledger, .part, .dir, .mem, .dram, .deep, .integ, .recp, .core, .mirror, .leaves, .power, .sec, .sessions, .obs, .rings, .kodp, .ctrs, .out, .free] P = true) (h : Frame P s0 s) : Frame P s0 (endRecipe r st s) := by
  unfold endRecipe
  split
  · refine frame_of_fst (by with_reducible assumption) ?_
    with_reducible apply frame_writeThrough (within_trans (by decide) hp)
    with_reducible assumption
  · with_reducible apply frame_closeRecipe (within_trans (by decide) hp)
    refine frame_of_fst (by with_reducible assumption) ?_
    with_reducible apply frame_writeThrough (within_trans (by decide) hp)
    with_reducible assumption

theorem frame_readyAll {P : List Part} {s0 : State} {by_ : AccBy} {ctx : Nat} {a0 : List Nat} {s : State} (hp : within [.pkg, .txn, .ledger, .part, .dir, .mem, .dram, .deep, .integ, .mirror, .leaves, .power, .sessions, .obs, .rings, .kodp, .ctrs, .out, .free] P = true) (h : Frame P s0 s) : FrameP P s0 (readyAll by_ ctx a0 s) := by
  induction a0 generalizing s with
  | nil =>
    rw [readyAll]
    with_reducible apply frame_mk
    with_reducible assumption
  | cons b0 a0 ih =>
    rw [readyAll]
    split
    split
    with_reducible apply frame_mk
    refine frame_of_fst (by with_reducible assumption) ?_
    with_reducible apply ih
    refine frame_of_fst (by with_reducible assumption) ?_
    split
    · split
      · with_reducible apply frame_mk
        refine frame_of_fst (by with_reducible assumption) ?_
        with_reducible apply frame_readyLine (within_trans (by decide) hp)
        with_reducible assumption
      · with_reducible apply frame_mk
        refine frame_of_fst (by with_reducible assumption) ?_
        with_reducible apply frame_readyLine (within_trans (by decide) hp)
        with_reducible assumption
    · with_reducible apply frame_mk
      with_reducible assumption

theorem frame_endStage {P : List Part} {s0 : State} {ctx : Nat} {stage : Nat} {by_ : Option Recipe} {s : State} (hp : within [.pkg, .txn, .ledger, .part, .dir, .mem, .dram, .deep, .integ, .recp, .core, .mirror, .leaves, .power, .sec, .sessions, .obs, .rings, .kodp, .ctrs, .out, .free] P = true) (h : Frame P s0 s) : Frame P s0 (endStage ctx stage by_ s) := by
  unfold endStage
  extract_lets +onlyGivenNames x0
  clear_value x0
  extract_lets +onlyGivenNames x1
  clear_value x1
  split
  with_reducible apply frame_ite
  · refine frame_of_fst (by with_reducible assumption) ?_
    with_reducible apply frame_readyAll (within_trans (by decide) hp)
    with_reducible assumption
  · extract_lets +onlyGivenNames x2
    clear_value x2
    extract_lets +onlyGivenNames x3
    clear_value x3
    extract_lets +onlyGivenNames x4
    clear_value x4
    extract_lets +onlyGivenNames x5
    clear_value x5
    split
    extract_lets +onlyGivenNames x6
    have h6 : Frame P s0 (x6) := by
      unfold x6
      refine FrameP.fst ?_
      with_reducible apply frame_writeThrough (within_trans (by decide) hp)
      refine frame_of_fst (by with_reducible assumption) ?_
      with_reducible apply frame_foldlP
      · intro x7 x8 h9
        split
        with_reducible apply frame_mk
        refine frame_of_fst (by with_reducible assumption) ?_
        with_reducible apply frame_writeThrough (within_trans (by decide) hp)
        refine FrameP.fst ?_
        with_reducible assumption
      · with_reducible apply frame_mk
        refine frame_of_fst (by with_reducible assumption) ?_
        with_reducible apply frame_readyAll (within_trans (by decide) hp)
        with_reducible assumption
    clear_value x6
    with_reducible apply frame_forAll
    · intro x10 x11 h12
      with_reducible apply frame_closeRecipe (within_trans (by decide) hp)
      with_reducible assumption
    · with_reducible assumption

theorem frame_withdrawRank {P : List Part} {s0 : State} {r : Recipe} {s : State} (hp : within [.pkg, .txn, .ledger, .part, .dir, .mem, .dram, .deep, .integ, .recp, .core, .mirror, .leaves, .power, .sec, .sessions, .obs, .rings, .kodp, .ctrs, .out, .free] P = true) (h : Frame P s0 s) : Frame P s0 (withdrawRank r s) := by
  unfold withdrawRank
  extract_lets +onlyGivenNames x0
  clear_value x0
  split
  with_reducible apply frame_ite
  · refine frame_of_fst (by with_reducible assumption) ?_
    with_reducible apply frame_readyAll (within_trans (by decide) hp)
    with_reducible assumption
  · extract_lets +onlyGivenNames x1
    clear_value x1
    extract_lets +onlyGivenNames x2
    clear_value x2
    extract_lets +onlyGivenNames x3
    clear_value x3
    with_reducible apply frame_endRecipe (within_trans (by decide) hp)
    refine FrameP.fst ?_
    with_reducible apply frame_writeThrough (within_trans (by decide) hp)
    refine frame_of_fst (by with_reducible assumption) ?_
    with_reducible apply frame_readyAll (within_trans (by decide) hp)
    with_reducible assumption

theorem frame_readForRecipe {P : List Part} {s0 : State} {who : AccBy} {pa : Nat} {tier : Nat} {go : State → State × Admit} {s : State} (hp : within [.pkg, .txn, .ledger, .part, .dir, .mem, .dram, .deep, .integ, .mirror, .leaves, .power, .sessions, .obs, .rings, .kodp, .ctrs, .out, .free] P = true) (h_go : (∀ x0, Frame P s0 x0 → FrameP P s0 (go x0))) (h : Frame P s0 s) : FrameP P s0 (readForRecipe who pa tier go s) := by
  unfold readForRecipe
  split
  · with_reducible apply h_go
    refine frame_of_fst (by with_reducible assumption) ?_
    with_reducible apply frame_readyLine (within_trans (by decide) hp)
    with_reducible assumption
  · with_reducible apply frame_mk
    refine frame_of_fst (by with_reducible assumption) ?_
    with_reducible apply frame_readyLine (within_trans (by decide) hp)
    with_reducible assumption
  · with_reducible apply frame_mk
    refine frame_of_fst (by with_reducible assumption) ?_
    with_reducible apply frame_readyLine (within_trans (by decide) hp)
    with_reducible assumption

theorem frame_readParams {P : List Part} {s0 : State} {who : AccBy} {die : Nat} {ctx : Nat} {d : Desc} {s : State} (hp : within [.pkg, .txn, .ledger, .part, .dir, .mem, .dram, .deep, .integ, .mirror, .leaves, .power, .sessions, .obs, .rings, .kodp, .ctrs, .out, .free] P = true) (h : Frame P s0 s) : FrameP P s0 (readParams who die ctx d s) := by
  unfold readParams
  split
  · with_reducible apply frame_mk
    with_reducible assumption
  · split
    · with_reducible apply frame_readForRecipe (within_trans (by decide) hp)
      · intro x0 h1
        with_reducible apply frame_mk
        with_reducible assumption
      · refine frame_of_fst (by with_reducible assumption) ?_
        with_reducible apply frame_xlate (within_trans (by decide) hp)
        with_reducible assumption
    · with_reducible apply frame_mk
      refine frame_of_fst (by with_reducible assumption) ?_
      with_reducible apply frame_xlate (within_trans (by decide) hp)
      with_reducible assumption
    · with_reducible apply frame_mk
      refine frame_of_fst (by with_reducible assumption) ?_
      with_reducible apply frame_xlate (within_trans (by decide) hp)
      with_reducible assumption

theorem frame_recipeChecks {P : List Part} {s0 : State} {die : Nat} {slot : Nat} {ctx : Nat} {who : AccBy} {d : Desc} {s : State} (hp : within [.pkg, .txn, .ledger, .part, .dir, .mem, .dram, .deep, .integ, .mirror, .leaves, .power, .sessions, .obs, .rings, .kodp, .ctrs, .out, .free] P = true) (h : Frame P s0 s) : FrameP P s0 (recipeChecks die slot ctx who d s) := by
  unfold recipeChecks
  extract_lets +onlyGivenNames x0
  clear_value x0
  with_reducible apply frame_ite1
  · with_reducible apply frame_mk
    with_reducible assumption
  · extract_lets +onlyGivenNames x1
    clear_value x1
    with_reducible apply frame_ite1
    · with_reducible apply frame_mk
      with_reducible assumption
    · split
      · extract_lets +onlyGivenNames x2
        clear_value x2
        with_reducible apply frame_ite1
        · with_reducible apply frame_mk
          refine frame_of_fst (by with_reducible assumption) ?_
          with_reducible apply frame_readParams (within_trans (by decide) hp)
          with_reducible assumption
        · with_reducible apply frame_ite1
          · with_reducible apply frame_mk
            refine frame_of_fst (by with_reducible assumption) ?_
            with_reducible apply frame_readParams (within_trans (by decide) hp)
            with_reducible assumption
          · split
            · with_reducible apply frame_mk
              refine frame_of_fst (by with_reducible assumption) ?_
              with_reducible apply frame_xlate (within_trans (by decide) hp)
              refine frame_of_fst (by with_reducible assumption) ?_
              with_reducible apply frame_readParams (within_trans (by decide) hp)
              with_reducible assumption
            · with_reducible apply frame_mk
              refine frame_of_fst (by with_reducible assumption) ?_
              with_reducible apply frame_xlate (within_trans (by decide) hp)
              refine frame_of_fst (by with_reducible assumption) ?_
              with_reducible apply frame_readParams (within_trans (by decide) hp)
              with_reducible assumption
            · split
              split
              · with_reducible apply frame_mk
                refine frame_of_fst (by with_reducible assumption) ?_
                with_reducible apply frame_ite1
                · with_reducible apply frame_ite1
                  · with_reducible apply frame_mk
                    refine frame_of_fst (by with_reducible assumption) ?_
                    with_reducible apply frame_xlate (within_trans (by decide) hp)
                    refine frame_of_fst (by with_reducible assumption) ?_
                    with_reducible apply frame_readParams (within_trans (by decide) hp)
                    with_reducible assumption
                  · split
                    with_reducible apply frame_mk
                    refine frame_of_fst (by with_reducible assumption) ?_
                    with_reducible apply frame_xlate (within_trans (by decide) hp)
                    refine frame_of_fst (by with_reducible assumption) ?_
                    with_reducible apply frame_xlate (within_trans (by decide) hp)
                    refine frame_of_fst (by with_reducible assumption) ?_
                    with_reducible apply frame_readParams (within_trans (by decide) hp)
                    with_reducible assumption
                · with_reducible apply frame_mk
                  refine frame_of_fst (by with_reducible assumption) ?_
                  with_reducible apply frame_xlate (within_trans (by decide) hp)
                  refine frame_of_fst (by with_reducible assumption) ?_
                  with_reducible apply frame_readParams (within_trans (by decide) hp)
                  with_reducible assumption
              · with_reducible apply frame_mk
                refine frame_of_fst (by with_reducible assumption) ?_
                with_reducible apply frame_ite1
                · with_reducible apply frame_ite1
                  · with_reducible apply frame_mk
                    refine frame_of_fst (by with_reducible assumption) ?_
                    with_reducible apply frame_xlate (within_trans (by decide) hp)
                    refine frame_of_fst (by with_reducible assumption) ?_
                    with_reducible apply frame_readParams (within_trans (by decide) hp)
                    with_reducible assumption
                  · split
                    with_reducible apply frame_mk
                    refine frame_of_fst (by with_reducible assumption) ?_
                    with_reducible apply frame_xlate (within_trans (by decide) hp)
                    refine frame_of_fst (by with_reducible assumption) ?_
                    with_reducible apply frame_xlate (within_trans (by decide) hp)
                    refine frame_of_fst (by with_reducible assumption) ?_
                    with_reducible apply frame_readParams (within_trans (by decide) hp)
                    with_reducible assumption
                · with_reducible apply frame_mk
                  refine frame_of_fst (by with_reducible assumption) ?_
                  with_reducible apply frame_xlate (within_trans (by decide) hp)
                  refine frame_of_fst (by with_reducible assumption) ?_
                  with_reducible apply frame_readParams (within_trans (by decide) hp)
                  with_reducible assumption
              · with_reducible apply frame_ite1
                · with_reducible apply frame_mk
                  refine frame_of_fst (by with_reducible assumption) ?_
                  with_reducible apply frame_ite1
                  · with_reducible apply frame_ite1
                    · with_reducible apply frame_mk
                      refine frame_of_fst (by with_reducible assumption) ?_
                      with_reducible apply frame_xlate (within_trans (by decide) hp)
                      refine frame_of_fst (by with_reducible assumption) ?_
                      with_reducible apply frame_readParams (within_trans (by decide) hp)
                      with_reducible assumption
                    · split
                      with_reducible apply frame_mk
                      refine frame_of_fst (by with_reducible assumption) ?_
                      with_reducible apply frame_xlate (within_trans (by decide) hp)
                      refine frame_of_fst (by with_reducible assumption) ?_
                      with_reducible apply frame_xlate (within_trans (by decide) hp)
                      refine frame_of_fst (by with_reducible assumption) ?_
                      with_reducible apply frame_readParams (within_trans (by decide) hp)
                      with_reducible assumption
                  · with_reducible apply frame_mk
                    refine frame_of_fst (by with_reducible assumption) ?_
                    with_reducible apply frame_xlate (within_trans (by decide) hp)
                    refine frame_of_fst (by with_reducible assumption) ?_
                    with_reducible apply frame_readParams (within_trans (by decide) hp)
                    with_reducible assumption
                · with_reducible apply frame_ite1
                  · with_reducible apply frame_mk
                    refine frame_of_fst (by with_reducible assumption) ?_
                    with_reducible apply frame_ite1
                    · with_reducible apply frame_ite1
                      · with_reducible apply frame_mk
                        refine frame_of_fst (by with_reducible assumption) ?_
                        with_reducible apply frame_xlate (within_trans (by decide) hp)
                        refine frame_of_fst (by with_reducible assumption) ?_
                        with_reducible apply frame_readParams (within_trans (by decide) hp)
                        with_reducible assumption
                      · split
                        with_reducible apply frame_mk
                        refine frame_of_fst (by with_reducible assumption) ?_
                        with_reducible apply frame_xlate (within_trans (by decide) hp)
                        refine frame_of_fst (by with_reducible assumption) ?_
                        with_reducible apply frame_xlate (within_trans (by decide) hp)
                        refine frame_of_fst (by with_reducible assumption) ?_
                        with_reducible apply frame_readParams (within_trans (by decide) hp)
                        with_reducible assumption
                    · with_reducible apply frame_mk
                      refine frame_of_fst (by with_reducible assumption) ?_
                      with_reducible apply frame_xlate (within_trans (by decide) hp)
                      refine frame_of_fst (by with_reducible assumption) ?_
                      with_reducible apply frame_readParams (within_trans (by decide) hp)
                      with_reducible assumption
                  · with_reducible apply frame_readForRecipe (within_trans (by decide) hp)
                    · intro x3 h4
                      split
                      · with_reducible apply frame_mk
                        with_reducible assumption
                      · with_reducible apply frame_mk
                        with_reducible assumption
                    · refine frame_of_fst (by with_reducible assumption) ?_
                      with_reducible apply frame_ite1
                      · with_reducible apply frame_ite1
                        · with_reducible apply frame_mk
                          refine frame_of_fst (by with_reducible assumption) ?_
                          with_reducible apply frame_xlate (within_trans (by decide) hp)
                          refine frame_of_fst (by with_reducible assumption) ?_
                          with_reducible apply frame_readParams (within_trans (by decide) hp)
                          with_reducible assumption
                        · split
                          with_reducible apply frame_mk
                          refine frame_of_fst (by with_reducible assumption) ?_
                          with_reducible apply frame_xlate (within_trans (by decide) hp)
                          refine frame_of_fst (by with_reducible assumption) ?_
                          with_reducible apply frame_xlate (within_trans (by decide) hp)
                          refine frame_of_fst (by with_reducible assumption) ?_
                          with_reducible apply frame_readParams (within_trans (by decide) hp)
                          with_reducible assumption
                      · with_reducible apply frame_mk
                        refine frame_of_fst (by with_reducible assumption) ?_
                        with_reducible apply frame_xlate (within_trans (by decide) hp)
                        refine frame_of_fst (by with_reducible assumption) ?_
                        with_reducible apply frame_readParams (within_trans (by decide) hp)
                        with_reducible assumption
      · with_reducible apply frame_mk
        refine frame_of_fst (by with_reducible assumption) ?_
        with_reducible apply frame_readParams (within_trans (by decide) hp)
        with_reducible assumption

theorem frame_refuseRecipe {P : List Part} {s0 : State} {die : Nat} {p : Packet} {st : Status} {slot1 : List Byte} {s : State} (hp : within [.ledger, .mirror, .leaves, .sec, .ctrs] P = true) (h : Frame P s0 s) : Frame P s0 (refuseRecipe die p st slot1 s) := by
  unfold refuseRecipe
  extract_lets +onlyGivenNames x0
  clear_value x0
  with_reducible apply frame_finalGen (within_trans (by decide) hp)
  with_reducible apply frame_sendPacket (within_trans (by decide) hp)
  with_reducible apply frame_ledgerFinal (within_trans (by decide) hp)
  with_reducible apply frame_onlyIf
  · intro x1 h2
    with_reducible apply frame_bump (within_trans (by decide) hp)
    with_reducible assumption
  · with_reducible assumption

theorem frame_askSugar {P : List Part} {s0 : State} {r : Recipe} {s : State} (hp : within [.pkg, .power, .ctrs] P = true) (h : Frame P s0 s) : Frame P s0 (askSugar r s) := by
  unfold askSugar
  with_reducible apply frame_ite
  · with_reducible assumption
  · extract_lets +onlyGivenNames x0
    clear_value x0
    extract_lets +onlyGivenNames x1
    clear_value x1
    extract_lets +onlyGivenNames x2
    clear_value x2
    with_reducible apply frame_admitGrant (within_trans (by decide) hp)
    with_reducible assumption

theorem frame_acceptRecipe {P : List Part} {s0 : State} {r : Recipe} {s : State} (hp : within [.pkg, .ledger, .recp, .mirror, .leaves, .power, .ctrs] P = true) (h : Frame P s0 s) : Frame P s0 (acceptRecipe r s) := by
  unfold acceptRecipe
  extract_lets +onlyGivenNames x0
  have h0 : Frame P s0 (x0) := by
    unfold x0
    with_reducible apply frame_bump (within_trans (by decide) hp)
    with_reducible apply frame_onlyIf
    · intro x1 h2
      with_reducible apply frame_bump (within_trans (by decide) hp)
      with_reducible assumption
    · with_reducible apply frame_onRecp (within_trans (by decide) hp)
      with_reducible assumption
  clear_value x0
  extract_lets +onlyGivenNames x3
  have h3 : Frame P s0 (x3) := by
    unfold x3
    with_reducible apply frame_mirrorState (within_trans (by decide) hp)
    with_reducible assumption
  clear_value x3
  extract_lets +onlyGivenNames x4
  have h4 : Frame P s0 (x4) := by
    unfold x4
    with_reducible apply frame_ite
    · with_reducible apply frame_askSugar (within_trans (by decide) hp)
      with_reducible assumption
    · with_reducible assumption
  clear_value x4
  extract_lets +onlyGivenNames x5
  clear_value x5
  extract_lets +onlyGivenNames x6
  have h6 : Frame P s0 (x6) := by
    unfold x6
    with_reducible apply frame_onlyIf
    · intro x7 h8
      with_reducible apply frame_bump (within_trans (by decide) hp)
      with_reducible apply frame_setRecipe (within_trans (by decide) hp)
      with_reducible assumption
    · with_reducible assumption
  clear_value x6
  extract_lets +onlyGivenNames x9
  clear_value x9
  extract_lets +onlyGivenNames x10
  have h10 : Frame P s0 (x10) := by
    unfold x10
    with_reducible apply frame_ledgerWrite (within_trans (by decide) hp)
    with_reducible assumption
  clear_value x10
  with_reducible apply frame_sendPacket (within_trans (by decide) hp)
  with_reducible assumption

theorem frame_arriveStage {P : List Part} {s0 : State} {port : Nat} {slot : Nat} {p : Packet} {s : State} (hp : within [.pkg, .txn, .ledger, .part, .dir, .mem, .dram, .deep, .integ, .recp, .mirror, .leaves, .power, .sec, .sessions, .obs, .rings, .kodp, .ctrs, .out, .free] P = true) (h : Frame P s0 s) : FrameP P s0 (arriveStage port slot p s) := by
  unfold arriveStage
  extract_lets +onlyGivenNames x0
  clear_value x0
  extract_lets +onlyGivenNames x1
  clear_value x1
  extract_lets +onlyGivenNames x2
  clear_value x2
  extract_lets +onlyGivenNames x3
  have h3 : ∀ y0, ∀ y1, ∀ y2, Frame P s0 y2 → FrameP P s0 (x3 y0 y1 y2) := by
    intro x4 x5 x6 h7
    unfold x3
    split
    with_reducible apply frame_mk
    with_reducible apply frame_refuseRecipe (within_trans (by decide) hp)
    refine frame_of_fst (by with_reducible assumption) ?_
    with_reducible apply frame_recordFault (within_trans (by decide) hp)
    with_reducible assumption
  clear_value x3
  split
  · with_reducible apply frame_mk
    refine frame_of_fst (by with_reducible assumption) ?_
    with_reducible apply frame_xlate (within_trans (by decide) hp)
    with_reducible assumption
  · with_reducible apply h3
    refine frame_of_fst (by with_reducible assumption) ?_
    with_reducible apply frame_xlate (within_trans (by decide) hp)
    with_reducible assumption
  · split
    · with_reducible apply frame_mk
      refine frame_of_fst (by with_reducible assumption) ?_
      with_reducible apply frame_xlate (within_trans (by decide) hp)
      refine frame_of_fst (by with_reducible assumption) ?_
      with_reducible apply frame_xlate (within_trans (by decide) hp)
      with_reducible assumption
    · with_reducible apply h3
      refine frame_of_fst (by with_reducible assumption) ?_
      with_reducible apply frame_xlate (within_trans (by decide) hp)
      refine frame_of_fst (by with_reducible assumption) ?_
      with_reducible apply frame_xlate (within_trans (by decide) hp)
      with_reducible assumption
    · extract_lets +onlyGivenNames x8
      clear_value x8
      split
      with_reducible apply frame_ite1
      · with_reducible apply frame_mk
        refine frame_of_fst (by with_reducible assumption) ?_
        with_reducible apply frame_readyAll (within_trans (by decide) hp)
        refine frame_of_fst (by with_reducible assumption) ?_
        with_reducible apply frame_xlate (within_trans (by decide) hp)
        refine frame_of_fst (by with_reducible assumption) ?_
        with_reducible apply frame_xlate (within_trans (by decide) hp)
        with_reducible assumption
      · extract_lets +onlyGivenNames x9
        clear_value x9
        extract_lets +onlyGivenNames x10
        clear_value x10
        split
        · with_reducible apply frame_mk
          refine frame_of_fst (by with_reducible assumption) ?_
          with_reducible apply frame_readyAll (within_trans (by decide) hp)
          refine frame_of_fst (by with_reducible assumption) ?_
          with_reducible apply frame_xlate (within_trans (by decide) hp)
          refine frame_of_fst (by with_reducible assumption) ?_
          with_reducible apply frame_xlate (within_trans (by decide) hp)
          with_reducible assumption
        · with_reducible apply frame_mk
          with_reducible apply frame_refuseRecipe (within_trans (by decide) hp)
          refine frame_of_fst (by with_reducible assumption) ?_
          with_reducible apply frame_readyAll (within_trans (by decide) hp)
          refine frame_of_fst (by with_reducible assumption) ?_
          with_reducible apply frame_xlate (within_trans (by decide) hp)
          refine frame_of_fst (by with_reducible assumption) ?_
          with_reducible apply frame_xlate (within_trans (by decide) hp)
          with_reducible assumption
        · extract_lets +onlyGivenNames x11
          clear_value x11
          extract_lets +onlyGivenNames x12
          clear_value x12
          extract_lets +onlyGivenNames x13
          have h13 : Frame P s0 (x13) := by
            unfold x13
            with_reducible apply frame_mergeLine (within_trans (by decide) hp)
            refine frame_of_fst (by with_reducible assumption) ?_
            with_reducible apply frame_readyAll (within_trans (by decide) hp)
            refine frame_of_fst (by with_reducible assumption) ?_
            with_reducible apply frame_xlate (within_trans (by decide) hp)
            refine frame_of_fst (by with_reducible assumption) ?_
            with_reducible apply frame_xlate (within_trans (by decide) hp)
            with_reducible assumption
          clear_value x13
          extract_lets +onlyGivenNames x14
          have h14 : Frame P s0 (x14) := by
            unfold x14
            refine FrameP.fst ?_
            with_reducible apply frame_writeThrough (within_trans (by decide) hp)
            with_reducible assumption
          clear_value x14
          extract_lets +onlyGivenNames x15
          clear_value x15
          extract_lets +onlyGivenNames x16
          clear_value x16
          extract_lets +onlyGivenNames x17
          have h17 : Frame P s0 (x17) := by
            unfold x17
            with_reducible apply frame_acceptRecipe (within_trans (by decide) hp)
            with_reducible assumption
          clear_value x17
          with_reducible apply frame_ite1
          · extract_lets +onlyGivenNames x18
            have h18 : Frame P s0 (x18) := by
              unfold x18
              with_reducible apply frame_onRecp (within_trans (by decide) hp)
              with_reducible assumption
            clear_value x18
            with_reducible apply frame_mk
            with_reducible apply frame_askSugar (within_trans (by decide) hp)
            with_reducible assumption
          · with_reducible apply frame_mk
            with_reducible assumption

theorem frame_admitRecipe {P : List Part} {s0 : State} {port : Nat} {slot : Nat} {p : Packet} {s : State} (hp : within [.pkg, .txn, .ledger, .part, .dir, .mem, .dram, .deep, .integ, .recp, .mirror, .leaves, .power, .sec, .sessions, .obs, .rings, .kodp, .ctrs, .out, .free] P = true) (h : Frame P s0 s) : FrameP P s0 (admitRecipe port slot p s) := by
  unfold admitRecipe
  extract_lets +onlyGivenNames x0
  clear_value x0
  extract_lets +onlyGivenNames x1
  clear_value x1
  split
  · with_reducible apply frame_mk
    with_reducible apply frame_refuseRecipe (within_trans (by decide) hp)
    refine frame_of_fst (by with_reducible assumption) ?_
    with_reducible apply frame_recipeChecks (within_trans (by decide) hp)
    with_reducible assumption
  · split
    with_reducible apply frame_mk
    with_reducible apply frame_refuseRecipe (within_trans (by decide) hp)
    refine frame_of_fst (by with_reducible assumption) ?_
    with_reducible apply frame_recordFault (within_trans (by decide) hp)
    refine frame_of_fst (by with_reducible assumption) ?_
    with_reducible apply frame_recipeChecks (within_trans (by decide) hp)
    with_reducible assumption
  · with_reducible apply frame_mk
    refine frame_of_fst (by with_reducible assumption) ?_
    with_reducible apply frame_recipeChecks (within_trans (by decide) hp)
    with_reducible assumption
  · with_reducible apply frame_mk
    refine frame_of_fst (by with_reducible assumption) ?_
    with_reducible apply frame_recipeChecks (within_trans (by decide) hp)
    with_reducible assumption
  · with_reducible apply frame_ite1
    · with_reducible apply frame_arriveStage (within_trans (by decide) hp)
      refine frame_of_fst (by with_reducible assumption) ?_
      with_reducible apply frame_recipeChecks (within_trans (by decide) hp)
      with_reducible assumption
    · with_reducible apply frame_mk
      with_reducible apply frame_acceptRecipe (within_trans (by decide) hp)
      refine frame_of_fst (by with_reducible assumption) ?_
      with_reducible apply frame_recipeChecks (within_trans (by decide) hp)
      with_reducible assumption

theorem frame_keepRecipe {P : List Part} {s0 : State} {port : Nat} {slot : Nat} {p : Packet} {s : State} (hp : within [.txn] P = true) (h : Frame P s0 s) : Frame P s0 (keepRecipe port slot p s) := by
  unfold keepRecipe
  with_reducible apply frame_ite
  · with_reducible assumption
  · refine frame_onTxn [.txn] (within_trans (by decide) hp) (.inr fun _ => rfl) (.inl rfl) ?_
    with_reducible assumption

theorem frame_retryRecipe {P : List Part} {s0 : State} {q : Request} {s : State} (hp : within [.pkg, .txn, .ledger, .part, .dir, .mem, .dram, .deep, .integ, .recp, .mirror, .leaves, .power, .sec, .sessions, .obs, .rings, .kodp, .ctrs, .out, .free] P = true) (h : Frame P s0 s) : Frame P s0 (retryRecipe q s) := by
  unfold retryRecipe
  extract_lets +onlyGivenNames x0
  clear_value x0
  extract_lets +onlyGivenNames x1
  have h1 : Frame P s0 (x1) := by
    unfold x1
    refine frame_onTxn [.ledger, .txn] (within_trans (by decide) hp) (.inl rfl) (.inl rfl) ?_
    with_reducible assumption
  clear_value x1
  split
  · refine frame_of_fst (by with_reducible assumption) ?_
    with_reducible apply frame_admitRecipe (within_trans (by decide) hp)
    with_reducible assumption
  · refine frame_onTxn [.ledger, .txn] (within_trans (by decide) hp) (.inl rfl) (.inl rfl) ?_
    refine frame_of_fst (by with_reducible assumption) ?_
    with_reducible apply frame_admitRecipe (within_trans (by decide) hp)
    with_reducible assumption

theorem frame_retryStage {P : List Part} {s0 : State} {s : State} (hp : within [.pkg, .txn, .ledger, .part, .dir, .mem, .dram, .deep, .integ, .recp, .mirror, .leaves, .power, .sec, .sessions, .obs, .rings, .kodp, .ctrs, .out, .free] P = true) (h : Frame P s0 s) : Frame P s0 (retryStage s) := by
  unfold retryStage
  with_reducible apply frame_forAll
  · intro x0 x1 h2
    with_reducible apply frame_retryRecipe (within_trans (by decide) hp)
    with_reducible assumption
  · with_reducible assumption

theorem frame_retryRecipes {P : List Part} {s0 : State} {s : State} (hp : within [.pkg, .txn, .ledger, .part, .dir, .mem, .dram, .deep, .integ, .recp, .mirror, .leaves, .power, .sec, .sessions, .obs, .rings, .kodp, .ctrs, .out, .free] P = true) (h : Frame P s0 s) : Frame P s0 (retryRecipes s) := by
  unfold retryRecipes
  with_reducible apply frame_forAll
  · intro x0 x1 h2
    with_reducible apply frame_retryRecipe (within_trans (by decide) hp)
    with_reducible assumption
  · with_reducible assumption

theorem frame_takeRecipe {P : List Part} {s0 : State} {port : Nat} {slot : Nat} {p : Packet} {s : State} (hp : within [.pkg, .txn, .ledger, .part, .dir, .mem, .dram, .deep, .integ, .recp, .mirror, .leaves, .power, .sec, .sessions, .obs, .rings, .kodp, .ctrs, .out, .free] P = true) (h : Frame P s0 s) : Frame P s0 (takeRecipe port slot p s) := by
  unfold takeRecipe
  split
  · refine frame_of_fst (by with_reducible assumption) ?_
    with_reducible apply frame_admitRecipe (within_trans (by decide) hp)
    with_reducible assumption
  · with_reducible apply frame_keepRecipe (within_trans (by decide) hp)
    refine frame_of_fst (by with_reducible assumption) ?_
    with_reducible apply frame_admitRecipe (within_trans (by decide) hp)
    with_reducible assumption

theorem frame_recipeRetry {P : List Part} {s0 : State} {port : Nat} {slot : Nat} {p : Packet} {s : State} (hp : within [.pkg, .txn, .ledger, .part, .dir, .mem, .dram, .deep, .integ, .mirror, .leaves, .power, .sec, .sessions, .obs, .rings, .kodp, .ctrs, .out, .free] P = true) (h : Frame P s0 s) : Frame P s0 (recipeRetry port slot p s) := by
  unfold recipeRetry
  split
  · with_reducible apply frame_refuseRecipe (within_trans (by decide) hp)
    refine frame_of_fst (by with_reducible assumption) ?_
    with_reducible apply frame_recipeChecks (within_trans (by decide) hp)
    with_reducible assumption
  · split
    with_reducible apply frame_refuseRecipe (within_trans (by decide) hp)
    refine frame_of_fst (by with_reducible assumption) ?_
    with_reducible apply frame_recordFault (within_trans (by decide) hp)
    refine frame_of_fst (by with_reducible assumption) ?_
    with_reducible apply frame_recipeChecks (within_trans (by decide) hp)
    with_reducible assumption
  · with_reducible apply frame_refuseRecipe (within_trans (by decide) hp)
    refine frame_of_fst (by with_reducible assumption) ?_
    with_reducible apply frame_recipeChecks (within_trans (by decide) hp)
    with_reducible assumption

theorem frame_cancelNow {P : List Part} {s0 : State} {r : Recipe} {s : State} (hp : within [.pkg, .txn, .ledger, .part, .dir, .mem, .dram, .deep, .integ, .recp, .core, .mirror, .leaves, .power, .sec, .sessions, .obs, .rings, .kodp, .ctrs, .out, .free] P = true) (h : Frame P s0 s) : Frame P s0 (cancelNow r s) := by
  unfold cancelNow
  with_reducible apply frame_ite
  · with_reducible apply frame_withdrawRank (within_trans (by decide) hp)
    with_reducible apply frame_cancelRecipe (within_trans (by decide) hp)
    with_reducible assumption
  · with_reducible apply frame_cancelRecipe (within_trans (by decide) hp)
    with_reducible assumption

theorem frame_abortNewRecipe {P : List Part} {s0 : State} {port : Nat} {slot : Nat} {p : Packet} {s : State} (hp : within [.pkg, .txn, .ledger, .part, .dir, .mem, .dram, .deep, .integ, .mirror, .leaves, .power, .sec, .sessions, .obs, .rings, .kodp, .ctrs, .out, .free] P = true) (h : Frame P s0 s) : Frame P s0 (abortNewRecipe port slot p s) := by
  unfold abortNewRecipe
  split
  · with_reducible apply frame_refuseRecipe (within_trans (by decide) hp)
    refine frame_of_fst (by with_reducible assumption) ?_
    with_reducible apply frame_recipeChecks (within_trans (by decide) hp)
    with_reducible assumption
  · split
    with_reducible apply frame_refuseRecipe (within_trans (by decide) hp)
    refine frame_of_fst (by with_reducible assumption) ?_
    with_reducible apply frame_recordFault (within_trans (by decide) hp)
    refine frame_of_fst (by with_reducible assumption) ?_
    with_reducible apply frame_recipeChecks (within_trans (by decide) hp)
    with_reducible assumption
  · with_reducible apply frame_refuseRecipe (within_trans (by decide) hp)
    refine frame_of_fst (by with_reducible assumption) ?_
    with_reducible apply frame_recipeChecks (within_trans (by decide) hp)
    with_reducible assumption

theorem frame_abortHeld {P : List Part} {s0 : State} {slot : Nat} {port : Nat} {p : Packet} {s : State} (hp : within [.pkg, .txn, .ledger, .part, .dir, .mem, .dram, .deep, .integ, .mirror, .leaves, .power, .sec, .sessions, .obs, .rings, .kodp, .ctrs, .out, .free] P = true) (h : Frame P s0 s) : Frame P s0 (abortHeld slot port p s) := by
  unfold abortHeld
  with_reducible apply frame_ite
  · with_reducible apply frame_abortNewRecipe (within_trans (by decide) hp)
    with_reducible assumption
  · with_reducible apply frame_ite
    · with_reducible apply frame_answerEarly (within_trans (by decide) hp)
      with_reducible assumption
    · with_reducible apply frame_abortRequest (within_trans (by decide) hp)
      with_reducible assumption

theorem frame_answerCancel {P : List Part} {s0 : State} {p : Packet} {st : Status} {s : State} (hp : within [.ledger, .mirror, .leaves, .sec, .ctrs] P = true) (h : Frame P s0 s) : Frame P s0 (answerCancel p st s) := by
  unfold answerCancel
  with_reducible apply frame_answerNow (within_trans (by decide) hp)
  with_reducible assumption

theorem frame_takeCancel {P : List Part} {s0 : State} {p : Packet} {s : State} (hp : within [.pkg, .txn, .ledger, .part, .dir, .mem, .dram, .deep, .integ, .recp, .core, .mirror, .leaves, .power, .sec, .sessions, .obs, .rings, .kodp, .ctrs, .out, .free] P = true) (h : Frame P s0 s) : Frame P s0 (takeCancel p s) := by
  unfold takeCancel
  split
  · with_reducible apply frame_ite
    · with_reducible apply frame_answerCancel (within_trans (by decide) hp)
      with_reducible assumption
    · with_reducible apply frame_answerCancel (within_trans (by decide) hp)
      with_reducible apply frame_cancelNow (within_trans (by decide) hp)
      with_reducible assumption
  · with_reducible apply frame_answerCancel (within_trans (by decide) hp)
    with_reducible assumption

theorem frame_arriveRecipe {P : List Part} {s0 : State} {port : Nat} {p : Packet} {mine : Desc → Bool} {s : State} (hp : within [.pkg, .txn, .ledger, .part, .dir, .mem, .dram, .deep, .integ, .recp, .mirror, .traffic, .leaves, .power, .sec, .sessions, .obs, .rings, .kodp, .ctrs, .out, .free] P = true) (h : Frame P s0 s) : Frame P s0 (arriveRecipe port p mine s) := by
  unfold arriveRecipe
  with_reducible apply frame_ite
  · with_reducible assumption
  · with_reducible apply frame_arriveFabric (within_trans (by decide) hp)
    · intro x0 x1 h2
      with_reducible apply frame_intake (within_trans (by decide) hp)
      · intro x3 x4 h5
        extract_lets +onlyGivenNames x6
        clear_value x6
        extract_lets +onlyGivenNames x7
        clear_value x7
        extract_lets +onlyGivenNames x8
        clear_value x8
        extract_lets +onlyGivenNames x9
        clear_value x9
        with_reducible apply frame_sendPacket (within_trans (by decide) hp)
        with_reducible assumption
      · intro x10 x11 x12 h13
        with_reducible apply frame_ite
        · with_reducible apply frame_refuseRecipe (within_trans (by decide) hp)
          with_reducible assumption
        · extract_lets +onlyGivenNames x14
          clear_value x14
          split
          · with_reducible apply frame_bump (within_trans (by decide) hp)
            with_reducible apply frame_refuseRecipe (within_trans (by decide) hp)
            with_reducible assumption
          · extract_lets +onlyGivenNames x15
            clear_value x15
            with_reducible apply frame_ite
            · with_reducible assumption
            · with_reducible apply frame_ite
              · with_reducible apply frame_abortNewRecipe (within_trans (by decide) hp)
                with_reducible assumption
              · with_reducible apply frame_police (within_trans (by decide) hp)
                · intro x16 h17
                  with_reducible apply frame_takeRecipe (within_trans (by decide) hp)
                  with_reducible assumption
                · intro x18 h19
                  with_reducible apply frame_recipeRetry (within_trans (by decide) hp)
                  with_reducible assumption
                · with_reducible assumption
      · with_reducible assumption
    · with_reducible assumption

theorem frame_visitRange {P : List Part} {s0 : State} {w : RangeWait} {s : State} (hp : within [.pkg, .txn, .ledger, .part, .dir, .mem, .dram, .deep, .integ, .mirror, .leaves, .power, .sessions, .obs, .rings, .kodp, .ctrs, .out, .free] P = true) (h : Frame P s0 s) : FrameP P s0 (visitRange w s) := by
  unfold visitRange
  with_reducible apply frame_foldlP
  · intro x0 x1 h2
    split
    with_reducible apply frame_ite1
    · with_reducible apply frame_mk
      exact frame_of_mk (by with_reducible assumption)
    · with_reducible apply frame_ite1
      · with_reducible apply frame_mk
        exact frame_of_mk (by with_reducible assumption)
      · extract_lets +onlyGivenNames x3
        have h3 : Frame P s0 (x3) := by
          unfold x3
          with_reducible apply frame_recallAll (within_trans (by decide) hp)
          exact frame_of_mk (by with_reducible assumption)
        clear_value x3
        with_reducible apply frame_mk
        with_reducible assumption
  · with_reducible apply frame_mk
    with_reducible assumption

theorem frame_tryRelease {P : List Part} {s0 : State} {s : State} (hp : within [.txn, .ledger, .twin, .mirror, .traffic, .leaves, .sec, .ctrs] P = true) (h : Frame P s0 s) : Frame P s0 (tryRelease s) := by
  unfold tryRelease
  with_reducible apply frame_ite
  · with_reducible assumption
  · extract_lets +onlyGivenNames x0
    have h0 : Frame P s0 (x0) := by
      unfold x0
      refine frame_onTwin [.mirror, .twin] (within_trans (by decide) hp) (.inl rfl) (.inl rfl) ?_
      with_reducible assumption
    clear_value x0
    extract_lets +onlyGivenNames x1
    have h1 : Frame P s0 (x1) := by
      unfold x1
      with_reducible apply frame_forAll
      · intro x2 x3 h4
        with_reducible apply frame_forAll
        · intro x5 x6 h7
          with_reducible apply frame_answerEarly (within_trans (by decide) hp)
          with_reducible assumption
        · with_reducible assumption
      · refine frame_onTraffic [.leaves, .traffic] (within_trans (by decide) hp) (.inl rfl) (.inl rfl) ?_
        with_reducible assumption
    clear_value x1
    extract_lets +onlyGivenNames x8
    clear_value x8
    with_reducible apply frame_forAll
    · intro x9 x10 h11
      with_reducible apply frame_sendOnPort (within_trans (by decide) hp)
      with_reducible assumption
    · with_reducible assumption

theorem frame_settleWaits {P : List Part} {s0 : State} {s : State} (hp : within [.pkg, .txn, .ledger, .part, .dir, .mem, .dram, .deep, .integ, .recp, .twin, .mirror, .traffic, .leaves, .power, .sec, .sessions, .obs, .rings, .kodp, .running, .ctrs, .out, .free] P = true) (h : Frame P s0 s) : Frame P s0 (settleWaits s) := by
  unfold settleWaits
  extract_lets +onlyGivenNames x0
  have h0 : Frame P s0 (x0) := by
    unfold x0
    with_reducible apply frame_retryRecipes (within_trans (by decide) hp)
    with_reducible apply frame_runQueue (within_trans (by decide) hp)
    with_reducible apply frame_runOwn (within_trans (by decide) hp)
    with_reducible apply frame_tryRelease (within_trans (by decide) hp)
    with_reducible assumption
  clear_value x0
  extract_lets +onlyGivenNames x1
  have h1 : Frame P s0 (x1) := by
    unfold x1
    with_reducible apply frame_forAll
    · intro x2 x3 h4
      extract_lets +onlyGivenNames x5
      clear_value x5
      with_reducible apply frame_ite
      · with_reducible assumption
      · with_reducible apply frame_reply (within_trans (by decide) hp)
        with_reducible apply frame_onPart (within_trans (by decide) hp)
        with_reducible assumption
    · with_reducible assumption
  clear_value x1
  with_reducible apply frame_forAll
  · intro x6 x7 h8
    split
    with_reducible apply frame_ite
    · with_reducible apply frame_reply (within_trans (by decide) hp)
      with_reducible apply frame_onPart (within_trans (by decide) hp)
      refine frame_of_fst (by with_reducible assumption) ?_
      with_reducible apply frame_visitRange (within_trans (by decide) hp)
      with_reducible assumption
    · with_reducible apply frame_onPart (within_trans (by decide) hp)
      refine frame_of_fst (by with_reducible assumption) ?_
      with_reducible apply frame_visitRange (within_trans (by decide) hp)
      with_reducible assumption
  · with_reducible assumption

theorem frame_snoopAnswer {P : List Part} {s0 : State} {port : Nat} {p : Packet} {go : Nat → Nat → Recall → PoolReq → State → State} {s : State} (hp : within [.pkg, .txn, .ledger, .part, .dir, .mem, .dram, .deep, .integ, .recp, .twin, .mirror, .traffic, .leaves, .power, .sec, .sessions, .obs, .rings, .kodp, .running, .ctrs, .out, .free] P = true) (h_go : (∀ x0, ∀ x1, ∀ x2, ∀ x3, ∀ x4, Frame P s0 x4 → Frame P s0 (go x0 x1 x2 x3 x4))) (h : Frame P s0 s) : Frame P s0 (snoopAnswer port p go s) := by
  unfold snoopAnswer
  split
  · with_reducible apply frame_ite
    · with_reducible apply frame_bump (within_trans (by decide) hp)
      with_reducible assumption
    · split
      · with_reducible apply frame_ite
        · with_reducible apply frame_settleWaits (within_trans (by decide) hp)
          with_reducible apply h_go
          with_reducible assumption
        · with_reducible apply frame_bump (within_trans (by decide) hp)
          with_reducible apply frame_endPool (within_trans (by decide) hp)
          with_reducible assumption
      · with_reducible apply frame_bump (within_trans (by decide) hp)
        with_reducible apply frame_endPool (within_trans (by decide) hp)
        with_reducible assumption
  · with_reducible apply frame_bump (within_trans (by decide) hp)
    with_reducible assumption

end Sys2Proof.Machine
end

