-- ==== Sys2Proof/Laws/FrameOpsTile.lean ====
section
/-!
SUPPORT. Laws/FrameOpsTile.lean: the frame of every operation and command of Machine/OpsTile.lean.
-/
namespace Sys2Proof.Machine

theorem frame_checkSpans {P : List Part} {s0 : State} {die : Nat} {ctx : Nat} {code : Nat} {place : Nat → Nat} {l : List Span} {c : Checked} {s : State} (hp : within [.pkg, .txn, .ledger, .part, .dir, .mem, .dram, .deep, .integ, .mirror, .leaves, .power, .sessions, .obs, .rings, .kodp, .ctrs, .out, .free] P = true) (h : Frame P s0 s) : FrameP P s0 (checkSpans die ctx code place l c s) := by
  unfold checkSpans
  with_reducible apply frame_foldlP
  · intro x0 x1 h2
    with_reducible apply frame_foldlP
    · intro x3 x4 h5
      split
      split
      split
      · with_reducible apply frame_mk
        refine frame_of_fst (by with_reducible assumption) ?_
        with_reducible apply frame_xlate (within_trans (by decide) hp)
        exact frame_of_mk (by with_reducible assumption)
      · with_reducible apply frame_mk
        refine frame_of_fst (by with_reducible assumption) ?_
        with_reducible apply frame_xlate (within_trans (by decide) hp)
        exact frame_of_mk (by with_reducible assumption)
      · with_reducible apply frame_mk
        refine frame_of_fst (by with_reducible assumption) ?_
        with_reducible apply frame_xlate (within_trans (by decide) hp)
        exact frame_of_mk (by with_reducible assumption)
    · with_reducible assumption
  · with_reducible apply frame_mk
    with_reducible assumption

theorem frame_grantWhole {P : List Part} {s0 : State} {pages : Assoc Nat Page} {l : List Span} {s : State} (hp : within [.pkg, .txn, .ledger, .part, .dir, .mem, .dram, .deep, .integ, .mirror, .leaves, .power, .sessions, .obs, .rings, .kodp, .ctrs, .out, .free] P = true) (h : Frame P s0 s) : FrameP P s0 (grantWhole pages l s) := by
  unfold grantWhole
  with_reducible apply frame_foldlP
  · intro x0 x1 h2
    extract_lets +onlyGivenNames x3
    clear_value x3
    with_reducible apply frame_ite1
    · split
      with_reducible apply frame_mk
      refine frame_of_fst (by with_reducible assumption) ?_
      with_reducible apply frame_grantFrame (within_trans (by decide) hp)
      refine FrameP.fst ?_
      with_reducible assumption
    · with_reducible assumption
  · with_reducible apply frame_mk
    with_reducible assumption

theorem frame_readySpans {P : List Part} {s0 : State} {by_ : AccBy} {pages : Assoc Nat Page} {alloc : Bool} {l : List LineUse} {s : State} (hp : within [.pkg, .txn, .ledger, .part, .dir, .mem, .dram, .deep, .integ, .mirror, .leaves, .power, .sessions, .obs, .rings, .kodp, .ctrs, .out, .free] P = true) (h : Frame P s0 s) : FrameP P s0 (readySpans by_ pages alloc l s) := by
  unfold readySpans
  with_reducible apply frame_foldlP
  · intro x0 x1 h2
    split
    · with_reducible apply frame_mk
      exact frame_of_mk (by with_reducible assumption)
    · split
      · with_reducible apply frame_mk
        exact frame_of_mk (by with_reducible assumption)
      · extract_lets +onlyGivenNames x3
        clear_value x3
        split
        · extract_lets +onlyGivenNames x4
          have h4 : Frame P s0 (x4) := by
            unfold x4
            split
            · with_reducible apply frame_onlyIf
              · intro x5 h6
                with_reducible apply frame_pantryFill (within_trans (by decide) hp)
                with_reducible assumption
              · refine frame_of_fst (by with_reducible assumption) ?_
                with_reducible apply frame_readyLine (within_trans (by decide) hp)
                exact frame_of_mk (by with_reducible assumption)
            · refine frame_of_fst (by with_reducible assumption) ?_
              with_reducible apply frame_readyLine (within_trans (by decide) hp)
              exact frame_of_mk (by with_reducible assumption)
          clear_value x4
          with_reducible apply frame_mk
          with_reducible assumption
        · with_reducible apply frame_mk
          refine frame_of_fst (by with_reducible assumption) ?_
          with_reducible apply frame_readyLine (within_trans (by decide) hp)
          exact frame_of_mk (by with_reducible assumption)
  · with_reducible apply frame_mk
    with_reducible assumption

theorem frame_tileWrite {P : List Part} {s0 : State} {core : Nat} {line : Nat} {s : State} (hp : within [.pkg, .mem, .dram, .power, .rings, .ctrs, .free] P = true) (h : Frame P s0 s) : Frame P s0 (tileWrite core line s) := by
  unfold tileWrite
  split
  · with_reducible apply frame_ite
    · with_reducible apply frame_dramPush (within_trans (by decide) hp)
      with_reducible apply frame_setMeta (within_trans (by decide) hp)
      with_reducible assumption
    · with_reducible assumption
  · with_reducible assumption

theorem frame_commitOut {P : List Part} {s0 : State} {core : Nat} {pages : Assoc Nat Page} {x : Nat × List (Nat × Byte) × Bool} {s : State} (hp : within [.pkg, .ledger, .mem, .dram, .deep, .integ, .mirror, .leaves, .power, .sessions, .obs, .rings, .kodp, .ctrs, .out, .free] P = true) (h : Frame P s0 s) : FrameP P s0 (commitOut core pages x s) := by
  unfold commitOut
  split
  · with_reducible apply frame_mk
    with_reducible assumption
  · extract_lets +onlyGivenNames x0
    clear_value x0
    with_reducible apply frame_ite1
    · with_reducible apply frame_mk
      with_reducible apply frame_onlyIf
      · intro x1 h2
        with_reducible apply frame_poisonListed (within_trans (by decide) hp)
        with_reducible assumption
      · with_reducible assumption
    · extract_lets +onlyGivenNames x3
      clear_value x3
      extract_lets +onlyGivenNames x4
      clear_value x4
      extract_lets +onlyGivenNames x5
      have h5 : Frame P s0 (x5) := by
        unfold x5
        with_reducible apply frame_ite
        · with_reducible apply frame_writeLine (within_trans (by decide) hp)
          with_reducible assumption
        · with_reducible apply frame_mergeLine (within_trans (by decide) hp)
          with_reducible assumption
      clear_value x5
      extract_lets +onlyGivenNames x6
      have h6 : Frame P s0 (x6) := by
        unfold x6
        with_reducible apply frame_tileWrite (within_trans (by decide) hp)
        with_reducible assumption
      clear_value x6
      with_reducible apply frame_mk
      with_reducible assumption

theorem frame_commitOuts {P : List Part} {s0 : State} {core : Nat} {pages : Assoc Nat Page} {l : List (Nat × List (Nat × Byte) × Bool)} {s : State} (hp : within [.pkg, .ledger, .mem, .dram, .deep, .integ, .mirror, .leaves, .power, .sessions, .obs, .rings, .kodp, .ctrs, .out, .free] P = true) (h : Frame P s0 s) : FrameP P s0 (commitOuts core pages l s) := by
  unfold commitOuts
  with_reducible apply frame_foldlP
  · intro x0 x1 h2
    split
    with_reducible apply frame_mk
    refine frame_of_fst (by with_reducible assumption) ?_
    with_reducible apply frame_commitOut (within_trans (by decide) hp)
    refine FrameP.fst ?_
    with_reducible assumption
  · with_reducible apply frame_mk
    with_reducible assumption

theorem frame_countEv {P : List Part} {s0 : State} {die : Nat} {e : NumEv} {s : State} (hp : within [.ctrs] P = true) (h : Frame P s0 s) : Frame P s0 (countEv die e s) := by
  unfold countEv
  extract_lets +onlyGivenNames x0
  have h0 : ∀ y0, ∀ y1, ∀ y2, Frame P s0 y2 → Frame P s0 (x0 y0 y1 y2) := by
    intro x1 x2 x3 h4
    unfold x0
    with_reducible apply frame_ite
    · with_reducible assumption
    · with_reducible apply frame_bumpBy (within_trans (by decide) hp)
      with_reducible assumption
  clear_value x0
  with_reducible apply h0
  with_reducible apply h0
  with_reducible apply h0
  with_reducible apply h0
  with_reducible apply h0
  with_reducible apply h0
  with_reducible apply h0
  with_reducible apply h0
  with_reducible assumption

theorem frame_failTile {P : List Part} {s0 : State} {id : Nat} {tile : Nat} {st : Status} {s : State} (hp : within [.recp, .core] P = true) (h : Frame P s0 s) : Frame P s0 (failTile id tile st s) := by
  unfold failTile
  with_reducible apply frame_dropTiles (within_trans (by decide) hp)
  with_reducible apply frame_setRecipe (within_trans (by decide) hp)
  with_reducible assumption

theorem frame_loseTile {P : List Part} {s0 : State} {t : CoreTile} {cluster : Nat} {avoid : Nat} {st : Status} {s : State} (hp : within [.recp, .core, .ctrs] P = true) (h : Frame P s0 s) : Frame P s0 (loseTile t cluster avoid st s) := by
  unfold loseTile
  extract_lets +onlyGivenNames x0
  clear_value x0
  extract_lets +onlyGivenNames x1
  clear_value x1
  split
  · with_reducible assumption
  · with_reducible apply frame_ite
    · with_reducible apply frame_failTile (within_trans (by decide) hp)
      with_reducible assumption
    · extract_lets +onlyGivenNames x2
      have h2 : Frame P s0 (x2) := by
        unfold x2
        with_reducible apply frame_setRecipe (within_trans (by decide) hp)
        with_reducible assumption
      clear_value x2
      with_reducible apply frame_bump (within_trans (by decide) hp)
      with_reducible apply frame_onRecp (within_trans (by decide) hp)
      with_reducible assumption

theorem frame_doneTile {P : List Part} {s0 : State} {id : Nat} {tile : Nat} {s : State} (hp : within [.recp, .mirror, .leaves, .ctrs] P = true) (h : Frame P s0 s) : Frame P s0 (doneTile id tile s) := by
  unfold doneTile
  split
  · with_reducible assumption
  · with_reducible apply frame_bump (within_trans (by decide) hp)
    with_reducible apply frame_mirrorState (within_trans (by decide) hp)
    with_reducible apply frame_setRecipe (within_trans (by decide) hp)
    with_reducible assumption

end Sys2Proof.Machine
end

