-- ==== Sys2Proof/Laws/FrameOpsLarder.lean ====
section
/-!
SUPPORT. Laws/FrameOpsLarder.lean: the frame of every operation and command of Machine/OpsLarder.lean.
-/
namespace Sys2Proof.Machine

theorem frame_wakeSpares {P : List Part} {s0 : State} {s : State} (hp : within [.power, .boot] P = true) (h : Frame P s0 s) : Frame P s0 (wakeSpares s) := by
  unfold wakeSpares
  with_reducible apply frame_forAll
  · intro x0 x1 h2
    with_reducible apply frame_ite
    · with_reducible assumption
    · refine frame_onBoot [.boot] (within_trans (by decide) hp) (.inr fun _ => rfl) (.inr fun _ => rfl) (.inl rfl) ?_
      with_reducible apply frame_drawQuiet (within_trans (by decide) hp)
      with_reducible assumption
  · with_reducible assumption

theorem frame_noSpareFor {P : List Part} {s0 : State} {for_ : Nat} {req : Option Req} {s : State} (hp : within [.ledger, .mirror, .leaves, .sessions, .boot, .rings, .kodp, .running, .ctrs, .out] P = true) (h : Frame P s0 s) : Frame P s0 (noSpareFor for_ req s) := by
  unfold noSpareFor
  extract_lets +onlyGivenNames x0
  have h0 : Frame P s0 (x0) := by
    unfold x0
    with_reducible apply frame_onlyIf
    · intro x1 h2
      with_reducible apply frame_notify (within_trans (by decide) hp)
      with_reducible apply frame_crumb (within_trans (by decide) hp)
      with_reducible assumption
    · with_reducible assumption
  clear_value x0
  extract_lets +onlyGivenNames x3
  have h3 : Frame P s0 (x3) := by
    unfold x3
    with_reducible apply frame_exhaust (within_trans (by decide) hp)
    with_reducible assumption
  clear_value x3
  split
  · with_reducible apply frame_reply (within_trans (by decide) hp)
    with_reducible apply frame_reply (within_trans (by decide) hp)
    with_reducible assumption
  · with_reducible assumption

theorem frame_bringSpare {P : List Part} {s0 : State} {for_ : Nat} {req : Option Req} {s : State} (hp : within [.ledger, .mirror, .leaves, .power, .sessions, .boot, .rings, .kodp, .running, .ctrs, .out] P = true) (h : Frame P s0 s) : Frame P s0 (bringSpare for_ req s) := by
  unfold bringSpare
  extract_lets +onlyGivenNames x0
  clear_value x0
  split
  · extract_lets +onlyGivenNames x1
    have h1 : Frame P s0 (x1) := by
      unfold x1
      with_reducible apply frame_wakeSpares (within_trans (by decide) hp)
      refine frame_onBoot [.boot] (within_trans (by decide) hp) (.inr fun _ => rfl) (.inr fun _ => rfl) (.inl rfl) ?_
      with_reducible assumption
    clear_value x1
    with_reducible apply frame_ite
    · with_reducible apply frame_exhaust (within_trans (by decide) hp)
      with_reducible assumption
    · with_reducible assumption
  · split
    · with_reducible apply frame_noSpareFor (within_trans (by decide) hp)
      refine frame_onBoot [.boot] (within_trans (by decide) hp) (.inr fun _ => rfl) (.inr fun _ => rfl) (.inl rfl) ?_
      with_reducible assumption
    · with_reducible apply frame_noSpareFor (within_trans (by decide) hp)
      with_reducible assumption

theorem frame_vacateCore {P : List Part} {s0 : State} {c : Nat} {avoid : Nat} {st : Status} {s : State} (hp : within [.recp, .core, .ctrs] P = true) (h : Frame P s0 s) : Frame P s0 (vacateCore c avoid st s) := by
  unfold vacateCore
  extract_lets +onlyGivenNames x0
  clear_value x0
  extract_lets +onlyGivenNames x1
  clear_value x1
  extract_lets +onlyGivenNames x2
  have h2 : Frame P s0 (x2) := by
    unfold x2
    with_reducible apply frame_onRecp (within_trans (by decide) hp)
    with_reducible assumption
  clear_value x2
  split
  · extract_lets +onlyGivenNames x3
    have h3 : Frame P s0 (x3) := by
      unfold x3
      with_reducible apply frame_setCore (within_trans (by decide) hp)
      with_reducible assumption
    clear_value x3
    with_reducible apply frame_ite
    · with_reducible assumption
    · with_reducible apply frame_loseTile (within_trans (by decide) hp)
      with_reducible assumption
  · with_reducible assumption

theorem frame_retireCore {P : List Part} {s0 : State} {c : Nat} {st : Status} {req : Option Req} {s : State} (hp : within [.ledger, .dir, .dram, .deep, .recp, .core, .mirror, .leaves, .power, .sessions, .boot, .units, .rings, .kodp, .running, .ctrs, .out] P = true) (h : Frame P s0 s) : Frame P s0 (retireCore c st req s) := by
  unfold retireCore
  extract_lets +onlyGivenNames x0
  have h0 : Frame P s0 (x0) := by
    unfold x0
    with_reducible apply frame_setUnit (within_trans (by decide) hp)
    with_reducible assumption
  clear_value x0
  extract_lets +onlyGivenNames x1
  have h1 : Frame P s0 (x1) := by
    unfold x1
    with_reducible apply frame_vacateCore (within_trans (by decide) hp)
    with_reducible assumption
  clear_value x1
  with_reducible apply frame_bringSpare (within_trans (by decide) hp)
  with_reducible apply frame_clearCore (within_trans (by decide) hp)
  with_reducible apply frame_advanceEpoch (within_trans (by decide) hp)
  with_reducible assumption

theorem frame_noteMismatch {P : List Part} {s0 : State} {c : Nat} {thread : Nat} {tile : Nat} {s : State} (hp : within [.ledger, .dir, .dram, .deep, .integ, .recp, .core, .mirror, .leaves, .power, .sessions, .boot, .units, .rings, .kodp, .running, .ctrs, .out] P = true) (h : Frame P s0 s) : Frame P s0 (noteMismatch c thread tile s) := by
  unfold noteMismatch
  extract_lets +onlyGivenNames x0
  have h0 : Frame P s0 (x0) := by
    unfold x0
    with_reducible apply frame_crumb (within_trans (by decide) hp)
    with_reducible assumption
  clear_value x0
  extract_lets +onlyGivenNames x1
  clear_value x1
  extract_lets +onlyGivenNames x2
  clear_value x2
  extract_lets +onlyGivenNames x3
  clear_value x3
  extract_lets +onlyGivenNames x4
  have h4 : Frame P s0 (x4) := by
    unfold x4
    with_reducible apply frame_bump (within_trans (by decide) hp)
    with_reducible apply frame_setUnit (within_trans (by decide) hp)
    with_reducible assumption
  clear_value x4
  extract_lets +onlyGivenNames x5
  have h5 : Frame P s0 (x5) := by
    unfold x5
    with_reducible apply frame_logError (within_trans (by decide) hp)
    with_reducible assumption
  clear_value x5
  with_reducible apply frame_ite
  · with_reducible apply frame_retireCore (within_trans (by decide) hp)
    with_reducible assumption
  · with_reducible assumption

end Sys2Proof.Machine
end

