-- ==== Sys2Proof/Laws/FrameOpsSlots.lean ====
section
/-!
SUPPORT. Laws/FrameOpsSlots.lean: the frame of every operation and command of Machine/OpsSlots.lean.
-/
namespace Sys2Proof.Machine

theorem frame_sendAttachAck {P : List Part} {s0 : State} {p : Packet} {slot : Nat} {caps : Nat} {s : State} (hp : within [.ledger, .mirror, .leaves, .sec, .ctrs] P = true) (h : Frame P s0 s) : Frame P s0 (sendAttachAck p slot caps s) := by
  unfold sendAttachAck
  with_reducible apply frame_finalGen (within_trans (by decide) hp)
  with_reducible apply frame_sendPacket (within_trans (by decide) hp)
  with_reducible apply frame_ledgerWrite (within_trans (by decide) hp)
  with_reducible assumption

theorem frame_beginDetach {P : List Part} {s0 : State} {slot : Nat} {tag : Nat} {s : State} (hp : within [.pkg, .txn, .ledger, .part, .dir, .mem, .dram, .deep, .integ, .recp, .core, .mirror, .traffic, .leaves, .power, .sec, .sessions, .obs, .rings, .kodp, .ctrs, .out, .free] P = true) (h : Frame P s0 s) : Frame P s0 (beginDetach slot tag s) := by
  unfold beginDetach
  split
  · with_reducible apply frame_ite
    · with_reducible apply frame_settleHolds (within_trans (by decide) hp)
      · intro x0 x1 x2 h3
        with_reducible apply frame_abortHeld (within_trans (by decide) hp)
        with_reducible assumption
      · with_reducible apply frame_startDetach (within_trans (by decide) hp)
        with_reducible assumption
    · with_reducible apply frame_ite
      · with_reducible apply frame_setSlot (within_trans (by decide) hp)
        with_reducible assumption
      · with_reducible assumption
  · with_reducible assumption

theorem frame_leaveSlot {P : List Part} {s0 : State} {slot : Nat} {s : State} (hp : within [.ledger, .part, .mirror, .traffic, .leaves, .sec, .sessions, .rings, .kodp, .ctrs, .out] P = true) (h : Frame P s0 s) : Frame P s0 (leaveSlot slot s) := by
  unfold leaveSlot
  split
  · with_reducible assumption
  · with_reducible apply frame_ite
    · with_reducible apply frame_notify (within_trans (by decide) hp)
      with_reducible apply frame_forAll
      · intro x0 x1 h2
        with_reducible apply frame_finalGen (within_trans (by decide) hp)
        with_reducible apply frame_sendCmp (within_trans (by decide) hp)
        with_reducible assumption
      · with_reducible apply frame_freeSlot (within_trans (by decide) hp)
        with_reducible assumption
    · with_reducible apply frame_ite
      · extract_lets +onlyGivenNames x3
        clear_value x3
        extract_lets +onlyGivenNames x4
        clear_value x4
        with_reducible apply frame_freeSlot (within_trans (by decide) hp)
        with_reducible apply frame_notify (within_trans (by decide) hp)
        with_reducible assumption
      · with_reducible assumption

theorem frame_setGeneration {P : List Part} {s0 : State} {r : Req} {ctx : Nat} {gen : Nat} {s : State} (hp : within [.ledger, .part, .leaves, .sessions, .obs, .rings, .kodp, .ctrs, .out] P = true) (h : Frame P s0 s) : Frame P s0 (setGeneration r ctx gen s) := by
  unfold setGeneration
  extract_lets +onlyGivenNames x0
  clear_value x0
  extract_lets +onlyGivenNames x1
  clear_value x1
  extract_lets +onlyGivenNames x2
  have h2 : Frame P s0 (x2) := by
    unfold x2
    with_reducible apply frame_onPart (within_trans (by decide) hp)
    with_reducible assumption
  clear_value x2
  with_reducible apply frame_voidTensors (within_trans (by decide) hp)
  with_reducible apply frame_bump (within_trans (by decide) hp)
  with_reducible apply frame_bump (within_trans (by decide) hp)
  with_reducible assumption

theorem frame_runChange {P : List Part} {s0 : State} {a : HeldAct} {s : State} (hp : within [.pkg, .txn, .ledger, .part, .dir, .mem, .dram, .deep, .integ, .recp, .core, .mirror, .traffic, .leaves, .power, .sec, .sessions, .obs, .rings, .kodp, .ctrs, .out, .free] P = true) (h : Frame P s0 s) : Frame P s0 (runChange a s) := by
  unfold runChange
  split
  · extract_lets +onlyGivenNames x0
    clear_value x0
    with_reducible apply frame_notify (within_trans (by decide) hp)
    with_reducible apply frame_sendAttachAck (within_trans (by decide) hp)
    with_reducible assumption
  · split
    · with_reducible apply frame_ite
      · with_reducible apply frame_loseSlot (within_trans (by decide) hp)
        with_reducible assumption
      · with_reducible assumption
    · with_reducible assumption
  · with_reducible apply frame_beginDetach (within_trans (by decide) hp)
    with_reducible assumption
  · with_reducible apply frame_leaveSlot (within_trans (by decide) hp)
    with_reducible assumption
  · with_reducible apply frame_onPart (within_trans (by decide) hp)
    with_reducible assumption
  · with_reducible apply frame_setGeneration (within_trans (by decide) hp)
    with_reducible assumption

theorem frame_holdChange {P : List Part} {s0 : State} {record : State → State} {a : HeldAct} {s : State} (hp : within [.pkg, .txn, .ledger, .part, .dir, .mem, .dram, .deep, .integ, .recp, .core, .mirror, .traffic, .leaves, .power, .sec, .sessions, .obs, .rings, .kodp, .ctrs, .out, .free] P = true) (h_record : (∀ x0, Frame P s0 x0 → Frame P s0 (record x0))) (h : Frame P s0 s) : Frame P s0 (holdChange record a s) := by
  unfold holdChange
  with_reducible apply frame_ite
  · extract_lets +onlyGivenNames x0
    have h0 : Frame P s0 (x0) := by
      unfold x0
      with_reducible apply h_record
      with_reducible assumption
    clear_value x0
    with_reducible apply frame_onPart (within_trans (by decide) hp)
    with_reducible assumption
  · with_reducible apply frame_runChange (within_trans (by decide) hp)
    with_reducible assumption

theorem frame_fenceChange {P : List Part} {s0 : State} {a : HeldAct} {s : State} (hp : within [.ledger, .mirror, .leaves, .sec, .sessions, .rings, .kodp, .running, .ctrs, .out] P = true) (h : Frame P s0 s) : Frame P s0 (fenceChange a s) := by
  unfold fenceChange
  split
  · with_reducible apply frame_answerNow (within_trans (by decide) hp)
    with_reducible assumption
  · split
    · with_reducible apply frame_sendCmp (within_trans (by decide) hp)
      with_reducible assumption
    · with_reducible assumption
  · with_reducible apply frame_reply (within_trans (by decide) hp)
    with_reducible assumption
  · with_reducible assumption

end Sys2Proof.Machine
end

