-- ==== Sys2Proof/Laws/FrameOpsTwin.lean ====
section
/-!
SUPPORT. Laws/FrameOpsTwin.lean: the frame of every operation and command of Machine/OpsTwin.lean.
-/
namespace Sys2Proof.Machine

theorem frame_twinIgnore {P : List Part} {s0 : State} {s : State} (hp : within [.ctrs] P = true) (h : Frame P s0 s) : Frame P s0 (twinIgnore s) := by
  unfold twinIgnore
  with_reducible apply frame_bump (within_trans (by decide) hp)
  with_reducible assumption

theorem frame_sendHelloAs {P : List Part} {s0 : State} {st : Status} {s : State} (hp : within [.leaves, .free] P = true) (h : Frame P s0 s) : Frame P s0 (sendHelloAs st s) := by
  unfold sendHelloAs
  extract_lets +onlyGivenNames x0
  clear_value x0
  extract_lets +onlyGivenNames x1
  clear_value x1
  extract_lets +onlyGivenNames x2
  clear_value x2
  extract_lets +onlyGivenNames x3
  clear_value x3
  with_reducible apply frame_forAll
  · intro x4 x5 h6
    with_reducible apply frame_sendOnPort (within_trans (by decide) hp)
    with_reducible assumption
  · with_reducible apply frame_ite
    · with_reducible apply frame_useFree (within_trans (by decide) hp)
      with_reducible assumption
    · with_reducible assumption

theorem frame_sendHello {P : List Part} {s0 : State} {s : State} (hp : within [.leaves, .free] P = true) (h : Frame P s0 s) : Frame P s0 (sendHello s) := by
  unfold sendHello
  with_reducible apply frame_sendHelloAs (within_trans (by decide) hp)
  with_reducible assumption

theorem frame_sendKeepalive {P : List Part} {s0 : State} {s : State} (hp : within [.leaves] P = true) (h : Frame P s0 s) : Frame P s0 (sendKeepalive s) := by
  unfold sendKeepalive
  extract_lets +onlyGivenNames x0
  clear_value x0
  extract_lets +onlyGivenNames x1
  clear_value x1
  with_reducible apply frame_forAll
  · intro x2 x3 h4
    with_reducible apply frame_sendOnPort (within_trans (by decide) hp)
    with_reducible assumption
  · with_reducible assumption

theorem frame_sendAnnounce {P : List Part} {s0 : State} {s : State} (hp : within [.leaves] P = true) (h : Frame P s0 s) : Frame P s0 (sendAnnounce s) := by
  unfold sendAnnounce
  extract_lets +onlyGivenNames x0
  clear_value x0
  with_reducible apply frame_forAll
  · intro x1 x2 h3
    with_reducible apply frame_enqueueAt (within_trans (by decide) hp)
    with_reducible assumption
  · with_reducible assumption

theorem frame_undoSent {P : List Part} {s0 : State} {u : Sent} {s : State} (hp : within [.mem] P = true) (h : Frame P s0 s) : Frame P s0 (undoSent u s) := by
  unfold undoSent
  split
  · with_reducible apply frame_setMeta (within_trans (by decide) hp)
    with_reducible apply frame_putBytes (within_trans (by decide) hp)
    with_reducible assumption
  · with_reducible assumption

theorem frame_fenceTo {P : List Part} {s0 : State} {e : Nat} {s : State} (hp : within [.pkg, .txn, .ledger, .part, .dir, .mem, .deep, .recp, .core, .twin, .mirror, .traffic, .leaves, .power, .sec, .sessions, .obs, .rings, .kodp, .running, .ctrs, .out] P = true) (h : Frame P s0 s) : Frame P s0 (fenceTo e s) := by
  unfold fenceTo
  extract_lets +onlyGivenNames x0
  have h0 : Frame P s0 (x0) := by
    unfold x0
    with_reducible apply frame_forAll
    · intro x1 x2 h3
      with_reducible apply frame_undoSent (within_trans (by decide) hp)
      with_reducible assumption
    · with_reducible assumption
  clear_value x0
  extract_lets +onlyGivenNames x4
  have h4 : Frame P s0 (x4) := by
    unfold x4
    refine frame_onTwin [.mirror, .twin] (within_trans (by decide) hp) (.inl rfl) (.inl rfl) ?_
    with_reducible assumption
  clear_value x4
  extract_lets +onlyGivenNames x5
  have h5 : Frame P s0 (x5) := by
    unfold x5
    with_reducible apply frame_forAll
    · intro x6 x7 h8
      with_reducible apply frame_dropRequest (within_trans (by decide) hp)
      with_reducible apply frame_sendFinal (within_trans (by decide) hp)
      with_reducible assumption
    · with_reducible assumption
  clear_value x5
  extract_lets +onlyGivenNames x9
  have h9 : Frame P s0 (x9) := by
    unfold x9
    with_reducible apply frame_forAll
    · intro x10 x11 h12
      with_reducible apply frame_forAll
      · intro x13 x14 h15
        with_reducible apply frame_answerEarly (within_trans (by decide) hp)
        with_reducible assumption
      · with_reducible assumption
    · with_reducible assumption
  clear_value x9
  extract_lets +onlyGivenNames x16
  have h16 : Frame P s0 (x16) := by
    unfold x16
    with_reducible apply frame_forAll
    · intro x17 x18 h19
      with_reducible apply frame_forAll
      · intro x20 x21 h22
        with_reducible apply frame_sendCmp (within_trans (by decide) hp)
        with_reducible assumption
      · with_reducible assumption
    · with_reducible assumption
  clear_value x16
  extract_lets +onlyGivenNames x23
  have h23 : Frame P s0 (x23) := by
    unfold x23
    with_reducible apply frame_forAll
    · intro x24 x25 h26
      with_reducible apply frame_fenceChange (within_trans (by decide) hp)
      with_reducible assumption
    · with_reducible assumption
  clear_value x23
  extract_lets +onlyGivenNames x27
  have h27 : Frame P s0 (x27) := by
    unfold x27
    with_reducible apply frame_onPart (within_trans (by decide) hp)
    with_reducible assumption
  clear_value x27
  extract_lets +onlyGivenNames x28
  have h28 : Frame P s0 (x28) := by
    unfold x28
    refine frame_onTraffic [.leaves, .traffic] (within_trans (by decide) hp) (.inl rfl) (.inl rfl) ?_
    with_reducible assumption
  clear_value x28
  extract_lets +onlyGivenNames x29
  have h29 : Frame P s0 (x29) := by
    unfold x29
    with_reducible apply frame_forAll
    · intro x30 x31 h32
      with_reducible apply frame_sendPacket (within_trans (by decide) hp)
      with_reducible apply frame_dropRecipe (within_trans (by decide) hp)
      with_reducible assumption
    · with_reducible assumption
  clear_value x29
  extract_lets +onlyGivenNames x33
  have h33 : Frame P s0 (x33) := by
    unfold x33
    with_reducible apply frame_stopDeep (within_trans (by decide) hp)
    with_reducible apply frame_dropPool (within_trans (by decide) hp)
    refine frame_onTxn [.ledger, .txn] (within_trans (by decide) hp) (.inl rfl) (.inl rfl) ?_
    with_reducible assumption
  clear_value x33
  with_reducible apply frame_notify (within_trans (by decide) hp)
  with_reducible apply frame_bump (within_trans (by decide) hp)
  with_reducible apply frame_releasePeerWaits (within_trans (by decide) hp)
  with_reducible apply frame_abortDumps (within_trans (by decide) hp)
  with_reducible assumption

theorem frame_leaveReleasing {P : List Part} {s0 : State} {e : Nat} {s : State} (hp : within [.txn, .ledger, .deep, .twin, .mirror, .leaves, .sessions, .rings, .kodp, .running, .ctrs, .out] P = true) (h : Frame P s0 s) : Frame P s0 (leaveReleasing e s) := by
  unfold leaveReleasing
  with_reducible apply frame_stopDeep (within_trans (by decide) hp)
  refine frame_onTwin [.mirror, .twin] (within_trans (by decide) hp) (.inl rfl) (.inl rfl) ?_
  with_reducible assumption

theorem frame_handedOver {P : List Part} {s0 : State} {e : Nat} {s : State} (hp : within [.txn, .ledger, .deep, .twin, .mirror, .leaves, .sessions, .rings, .kodp, .running, .ctrs, .out, .free] P = true) (h : Frame P s0 s) : Frame P s0 (handedOver e s) := by
  unfold handedOver
  with_reducible apply frame_sendHello (within_trans (by decide) hp)
  with_reducible apply frame_notify (within_trans (by decide) hp)
  with_reducible apply frame_bump (within_trans (by decide) hp)
  with_reducible apply frame_leaveReleasing (within_trans (by decide) hp)
  with_reducible assumption

theorem frame_higherEpoch {P : List Part} {s0 : State} {e : Nat} {s : State} (hp : within [.pkg, .txn, .ledger, .part, .dir, .mem, .deep, .recp, .core, .twin, .mirror, .traffic, .leaves, .power, .sec, .sessions, .obs, .rings, .kodp, .running, .ctrs, .out, .free] P = true) (h : Frame P s0 s) : Frame P s0 (higherEpoch e s) := by
  unfold higherEpoch
  split
  · with_reducible apply frame_fenceTo (within_trans (by decide) hp)
    with_reducible assumption
  · with_reducible apply frame_fenceTo (within_trans (by decide) hp)
    with_reducible assumption
  · with_reducible apply frame_fenceTo (within_trans (by decide) hp)
    with_reducible assumption
  · with_reducible apply frame_fenceTo (within_trans (by decide) hp)
    with_reducible assumption
  · with_reducible apply frame_ite
    · with_reducible apply frame_handedOver (within_trans (by decide) hp)
      with_reducible assumption
    · with_reducible apply frame_fenceTo (within_trans (by decide) hp)
      with_reducible assumption
  · refine frame_onTwin [.mirror, .twin] (within_trans (by decide) hp) (.inl rfl) (.inl rfl) ?_
    with_reducible assumption
  · with_reducible apply frame_twinIgnore (within_trans (by decide) hp)
    with_reducible assumption

theorem frame_copyKeys {P : List Part} {s0 : State} {s : State} (hp : within [.ledger, .leaves, .sessions, .kodp, .ctrs, .out] P = true) (h : Frame P s0 s) : Frame P s0 (copyKeys s) := by
  unfold copyKeys
  extract_lets +onlyGivenNames x0
  have h0 : ∀ y0, ∀ y1, ∀ y2, Frame P s0 y2 → Frame P s0 (x0 y0 y1 y2) := by
    intro x1 x2 x3 h4
    unfold x0
    with_reducible apply frame_mirrorOp (within_trans (by decide) hp)
    with_reducible assumption
  clear_value x0
  extract_lets +onlyGivenNames x5
  have h5 : Frame P s0 (x5) := by
    unfold x5
    split
    · with_reducible apply h0
      with_reducible assumption
    · with_reducible assumption
  clear_value x5
  extract_lets +onlyGivenNames x6
  have h6 : Frame P s0 (x6) := by
    unfold x6
    with_reducible apply frame_forAll
    · intro x7 x8 h9
      extract_lets +onlyGivenNames x10
      have h10 : Frame P s0 (x10) := by
        unfold x10
        with_reducible apply frame_forAll
        · intro x11 x12 h13
          with_reducible apply h0
          with_reducible assumption
        · with_reducible assumption
      clear_value x10
      with_reducible apply frame_forAll
      · intro x14 x15 h16
        with_reducible apply h0
        with_reducible assumption
      · with_reducible assumption
    · with_reducible assumption
  clear_value x6
  with_reducible apply frame_forAll
  · intro x17 x18 h19
    extract_lets +onlyGivenNames x20
    have h20 : Frame P s0 (x20) := by
      unfold x20
      with_reducible apply frame_forAll
      · intro x21 x22 h23
        with_reducible apply h0
        with_reducible assumption
      · with_reducible assumption
    clear_value x20
    with_reducible apply frame_ite
    · with_reducible assumption
    · with_reducible apply h0
      with_reducible assumption
  · with_reducible assumption

theorem frame_copyObjects {P : List Part} {s0 : State} {s : State} (hp : within [.ledger, .leaves, .sessions, .kodp, .ctrs, .out] P = true) (h : Frame P s0 s) : Frame P s0 (copyObjects s) := by
  unfold copyObjects
  extract_lets +onlyGivenNames x0
  have h0 : Frame P s0 (x0) := by
    unfold x0
    with_reducible apply frame_forAll
    · intro x1 x2 h3
      with_reducible apply frame_mirrorOp (within_trans (by decide) hp)
      with_reducible assumption
    · with_reducible assumption
  clear_value x0
  with_reducible apply frame_forAll
  · intro x4 x5 h6
    with_reducible apply frame_mirrorOp (within_trans (by decide) hp)
    with_reducible assumption
  · with_reducible assumption

theorem frame_startFeeding {P : List Part} {s0 : State} {peer : Peer} {s : State} (hp : within [.ledger, .twin, .mirror, .leaves, .sessions, .kodp, .ctrs, .out] P = true) (h : Frame P s0 s) : Frame P s0 (startFeeding peer s) := by
  unfold startFeeding
  extract_lets +onlyGivenNames x0
  clear_value x0
  extract_lets +onlyGivenNames x1
  clear_value x1
  extract_lets +onlyGivenNames x2
  have h2 : Frame P s0 (x2) := by
    unfold x2
    with_reducible apply frame_bump (within_trans (by decide) hp)
    with_reducible assumption
  clear_value x2
  extract_lets +onlyGivenNames x3
  clear_value x3
  with_reducible apply frame_copyObjects (within_trans (by decide) hp)
  with_reducible apply frame_copyKeys (within_trans (by decide) hp)
  refine frame_onTwin [.mirror, .twin] (within_trans (by decide) hp) (.inl rfl) (.inl rfl) ?_
  with_reducible assumption

theorem frame_startSyncing {P : List Part} {s0 : State} {peer : Peer} {s : State} (hp : within [.txn, .ledger, .part, .dir, .deep, .recp, .twin, .mirror, .leaves, .sessions, .rings, .kodp, .running, .ctrs, .out] P = true) (h : Frame P s0 s) : Frame P s0 (startSyncing peer s) := by
  unfold startSyncing
  extract_lets +onlyGivenNames x0
  clear_value x0
  extract_lets +onlyGivenNames x1
  have h1 : Frame P s0 (x1) := by
    unfold x1
    refine frame_onTwin [.mirror, .twin] (within_trans (by decide) hp) (.inl rfl) (.inl rfl) ?_
    with_reducible assumption
  clear_value x1
  extract_lets +onlyGivenNames x2
  have h2 : Frame P s0 (x2) := by
    unfold x2
    with_reducible apply frame_onDir (within_trans (by decide) hp)
    with_reducible assumption
  clear_value x2
  extract_lets +onlyGivenNames x3
  clear_value x3
  extract_lets +onlyGivenNames x4
  have h4 : Frame P s0 (x4) := by
    unfold x4
    with_reducible apply frame_onPart (within_trans (by decide) hp)
    with_reducible assumption
  clear_value x4
  extract_lets +onlyGivenNames x5
  clear_value x5
  extract_lets +onlyGivenNames x6
  have h6 : Frame P s0 (x6) := by
    unfold x6
    with_reducible apply frame_onRecp (within_trans (by decide) hp)
    with_reducible assumption
  clear_value x6
  extract_lets +onlyGivenNames x7
  have h7 : Frame P s0 (x7) := by
    unfold x7
    refine frame_onTxn [.ledger, .txn] (within_trans (by decide) hp) (.inl rfl) (.inl rfl) ?_
    with_reducible assumption
  clear_value x7
  with_reducible apply frame_stopDeep (within_trans (by decide) hp)
  with_reducible assumption

theorem frame_useEpoch {P : List Part} {s0 : State} {e : Nat} {s : State} (hp : within [.twin] P = true) (h : Frame P s0 s) : Frame P s0 (useEpoch e s) := by
  unfold useEpoch
  refine frame_onTwin [.twin] (within_trans (by decide) hp) (.inr fun _ => rfl) (.inl rfl) ?_
  with_reducible assumption

theorem frame_becomeOwner {P : List Part} {s0 : State} {s : State} (hp : within [.txn, .ledger, .deep, .twin, .leaves] P = true) (h : Frame P s0 s) : Frame P s0 (becomeOwner s) := by
  unfold becomeOwner
  extract_lets +onlyGivenNames x0
  have h0 : Frame P s0 (x0) := by
    unfold x0
    refine frame_onTwin [.twin] (within_trans (by decide) hp) (.inr fun _ => rfl) (.inl rfl) ?_
    with_reducible assumption
  clear_value x0
  extract_lets +onlyGivenNames x1
  have h1 : Frame P s0 (x1) := by
    unfold x1
    with_reducible apply frame_forAll
    · intro x2 x3 h4
      with_reducible apply frame_setSled (within_trans (by decide) hp)
      with_reducible assumption
    · with_reducible assumption
  clear_value x1
  extract_lets +onlyGivenNames x5
  have h5 : Frame P s0 (x5) := by
    unfold x5
    with_reducible apply frame_forAll
    · intro x6 x7 h8
      with_reducible apply frame_ite
      · with_reducible apply frame_sendClaim (within_trans (by decide) hp)
        with_reducible assumption
      · with_reducible assumption
    · with_reducible assumption
  clear_value x5
  with_reducible apply frame_sendAnnounce (within_trans (by decide) hp)
  with_reducible assumption

theorem frame_releaseHeld {P : List Part} {s0 : State} {s : State} (hp : within [.txn, .ledger, .dir, .mirror, .leaves, .sec, .ctrs] P = true) (h : Frame P s0 s) : Frame P s0 (releaseHeld s) := by
  unfold releaseHeld
  with_reducible apply frame_forAll
  · intro x0 x1 h2
    split
    · with_reducible apply frame_releaseAnswer (within_trans (by decide) hp)
      with_reducible assumption
    · with_reducible assumption
  · with_reducible assumption

theorem frame_releaseChanges {P : List Part} {s0 : State} {s : State} (hp : within [.pkg, .txn, .ledger, .part, .dir, .mem, .dram, .deep, .integ, .recp, .core, .mirror, .traffic, .leaves, .power, .sec, .sessions, .obs, .rings, .kodp, .ctrs, .out, .free] P = true) (h : Frame P s0 s) : Frame P s0 (releaseChanges s) := by
  unfold releaseChanges
  extract_lets +onlyGivenNames x0
  clear_value x0
  extract_lets +onlyGivenNames x1
  clear_value x1
  with_reducible apply frame_ite
  · with_reducible assumption
  · with_reducible apply frame_forAll
    · intro x2 x3 h4
      with_reducible apply frame_runChange (within_trans (by decide) hp)
      with_reducible assumption
    · with_reducible apply frame_onPart (within_trans (by decide) hp)
      with_reducible assumption

theorem frame_releaseAll {P : List Part} {s0 : State} {s : State} (hp : within [.pkg, .txn, .ledger, .part, .dir, .mem, .dram, .deep, .integ, .recp, .core, .mirror, .traffic, .leaves, .power, .sec, .sessions, .obs, .rings, .kodp, .ctrs, .out, .free] P = true) (h : Frame P s0 s) : Frame P s0 (releaseAll s) := by
  unfold releaseAll
  with_reducible apply frame_runOwn (within_trans (by decide) hp)
  with_reducible apply frame_releaseChanges (within_trans (by decide) hp)
  with_reducible apply frame_releaseHeld (within_trans (by decide) hp)
  with_reducible assumption

theorem frame_endResync {P : List Part} {s0 : State} {s : State} (hp : within [.ledger, .twin, .mirror, .leaves, .sessions, .rings, .kodp, .ctrs, .out] P = true) (h : Frame P s0 s) : Frame P s0 (endResync s) := by
  unfold endResync
  split
  · split
    · with_reducible apply frame_ite
      · with_reducible apply frame_notify (within_trans (by decide) hp)
        refine frame_onTwin [.mirror, .twin] (within_trans (by decide) hp) (.inl rfl) (.inl rfl) ?_
        with_reducible assumption
      · with_reducible assumption
    · with_reducible assumption
  · with_reducible assumption

theorem frame_loseStandby {P : List Part} {s0 : State} {cause : Nat} {s : State} (hp : within [.pkg, .txn, .ledger, .part, .dir, .mem, .dram, .deep, .integ, .recp, .core, .twin, .mirror, .traffic, .leaves, .power, .sec, .sessions, .obs, .rings, .kodp, .ctrs, .out, .free] P = true) (h : Frame P s0 s) : Frame P s0 (loseStandby cause s) := by
  unfold loseStandby
  extract_lets +onlyGivenNames x0
  clear_value x0
  extract_lets +onlyGivenNames x1
  clear_value x1
  extract_lets +onlyGivenNames x2
  clear_value x2
  extract_lets +onlyGivenNames x3
  have h3 : Frame P s0 (x3) := by
    unfold x3
    refine frame_onTwin [.mirror, .twin] (within_trans (by decide) hp) (.inl rfl) (.inl rfl) ?_
    with_reducible assumption
  clear_value x3
  extract_lets +onlyGivenNames x4
  have h4 : Frame P s0 (x4) := by
    unfold x4
    with_reducible apply frame_releasePeerWaits (within_trans (by decide) hp)
    with_reducible apply frame_releaseAll (within_trans (by decide) hp)
    with_reducible assumption
  clear_value x4
  with_reducible apply frame_sendHello (within_trans (by decide) hp)
  with_reducible apply frame_notify (within_trans (by decide) hp)
  with_reducible apply frame_bump (within_trans (by decide) hp)
  with_reducible assumption

theorem frame_ledgerSet {P : List Part} {s0 : State} {slot : Nat} {tag : Nat} {w : Nat} {s : State} (hp : within [.ledger] P = true) (h : Frame P s0 s) : Frame P s0 (ledgerSet slot tag w s) := by
  unfold ledgerSet
  extract_lets +onlyGivenNames x0
  clear_value x0
  refine frame_onTxn [.ledger] (within_trans (by decide) hp) (.inl rfl) (.inr fun _ => rfl) ?_
  with_reducible assumption

theorem frame_applyLedgerLine {P : List Part} {s0 : State} {l : Nat} {data : List Byte} {s : State} (hp : within [.ledger] P = true) (h : Frame P s0 s) : Frame P s0 (applyLedgerLine l data s) := by
  unfold applyLedgerLine
  with_reducible apply frame_forAll
  · intro x0 x1 h2
    extract_lets +onlyGivenNames x3
    clear_value x3
    extract_lets +onlyGivenNames x4
    clear_value x4
    with_reducible apply frame_ledgerSet (within_trans (by decide) hp)
    with_reducible assumption
  · with_reducible assumption

theorem frame_applyLine {P : List Part} {s0 : State} {l : Nat} {word : Nat} {data : List Byte} {s : State} (hp : within [.pkg, .ledger, .mem, .dram, .twin, .mirror, .leaves, .power, .sessions, .rings, .kodp, .ctrs, .out, .free] P = true) (h : Frame P s0 s) : Frame P s0 (applyLine l word data s) := by
  unfold applyLine
  extract_lets +onlyGivenNames x0
  clear_value x0
  with_reducible apply frame_ite
  · with_reducible apply frame_applyLedgerLine (within_trans (by decide) hp)
    with_reducible assumption
  · with_reducible apply frame_ite
    · with_reducible apply frame_notify (within_trans (by decide) hp)
      with_reducible apply frame_setMeta (within_trans (by decide) hp)
      refine frame_onTwin [.mirror, .twin] (within_trans (by decide) hp) (.inl rfl) (.inl rfl) ?_
      with_reducible assumption
    · extract_lets +onlyGivenNames x1
      have h1 : Frame P s0 (x1) := by
        unfold x1
        with_reducible apply frame_putBytes (within_trans (by decide) hp)
        with_reducible apply frame_pantryRoom (within_trans (by decide) hp)
        with_reducible assumption
      clear_value x1
      with_reducible apply frame_mapGranule (within_trans (by decide) hp)
      with_reducible apply frame_setMeta (within_trans (by decide) hp)
      with_reducible assumption

theorem frame_applyRecord {P : List Part} {s0 : State} {type : Nat} {b : List Byte} {s : State} (hp : within [.ledger, .part, .dir, .recp, .mirror, .ctrs] P = true) (h : Frame P s0 s) : Frame P s0 (applyRecord type b s) := by
  unfold applyRecord
  extract_lets +onlyGivenNames x0
  clear_value x0
  split
  · extract_lets +onlyGivenNames x1
    clear_value x1
    split
    · with_reducible apply frame_onDir (within_trans (by decide) hp)
      with_reducible assumption
    · with_reducible apply frame_onDir (within_trans (by decide) hp)
      with_reducible assumption
  · extract_lets +onlyGivenNames x2
    clear_value x2
    extract_lets +onlyGivenNames x3
    clear_value x3
    with_reducible apply frame_ite
    · with_reducible apply frame_onDir (within_trans (by decide) hp)
      with_reducible assumption
    · with_reducible apply frame_onDir (within_trans (by decide) hp)
      with_reducible assumption
  · extract_lets +onlyGivenNames x4
    clear_value x4
    extract_lets +onlyGivenNames x5
    clear_value x5
    split
    · with_reducible apply frame_ledgerClear (within_trans (by decide) hp)
      with_reducible apply frame_onPart (within_trans (by decide) hp)
      with_reducible assumption
    · extract_lets +onlyGivenNames x6
      clear_value x6
      extract_lets +onlyGivenNames x7
      clear_value x7
      extract_lets +onlyGivenNames x8
      clear_value x8
      extract_lets +onlyGivenNames x9
      clear_value x9
      with_reducible apply frame_onPart (within_trans (by decide) hp)
      with_reducible assumption
  · with_reducible apply frame_onPart (within_trans (by decide) hp)
    with_reducible assumption
  · extract_lets +onlyGivenNames x10
    clear_value x10
    extract_lets +onlyGivenNames x11
    clear_value x11
    extract_lets +onlyGivenNames x12
    clear_value x12
    extract_lets +onlyGivenNames x13
    clear_value x13
    extract_lets +onlyGivenNames x14
    clear_value x14
    extract_lets +onlyGivenNames x15
    clear_value x15
    extract_lets +onlyGivenNames x16
    clear_value x16
    extract_lets +onlyGivenNames x17
    clear_value x17
    extract_lets +onlyGivenNames x18
    clear_value x18
    with_reducible apply frame_onRecp (within_trans (by decide) hp)
    with_reducible assumption
  · with_reducible apply frame_onRecp (within_trans (by decide) hp)
    with_reducible assumption
  · with_reducible apply frame_onRecp (within_trans (by decide) hp)
    with_reducible assumption
  · with_reducible apply frame_mapGranule (within_trans (by decide) hp)
    with_reducible apply frame_ledgerSet (within_trans (by decide) hp)
    with_reducible assumption
  · with_reducible apply frame_bump (within_trans (by decide) hp)
    with_reducible assumption

theorem frame_applyRecords {P : List Part} {s0 : State} {stream : Nat} {a0 : Nat} {a1 : List Byte} {s : State} (hp : within [.ledger, .part, .dir, .recp, .twin, .mirror, .ctrs] P = true) (h : Frame P s0 s) : Frame P s0 (applyRecords stream a0 a1 s) := by
  induction a0 generalizing a1 s with
  | zero =>
    rw [applyRecords]
    with_reducible assumption
  | succ a0 ih =>
    rw [applyRecords]
    with_reducible apply ih
    with_reducible apply frame_ite
    · refine frame_onTwin [.mirror, .twin] (within_trans (by decide) hp) (.inl rfl) (.inl rfl) ?_
      with_reducible assumption
    · with_reducible apply frame_applyRecord (within_trans (by decide) hp)
      with_reducible assumption

theorem frame_applyPacket {P : List Part} {s0 : State} {p : Packet} {s : State} (hp : within [.pkg, .ledger, .part, .dir, .mem, .dram, .recp, .twin, .mirror, .leaves, .power, .sessions, .rings, .kodp, .ctrs, .out, .free] P = true) (h : Frame P s0 s) : Frame P s0 (applyPacket p s) := by
  unfold applyPacket
  extract_lets +onlyGivenNames x0
  clear_value x0
  split
  extract_lets +onlyGivenNames x1
  have h1 : Frame P s0 (x1) := by
    unfold x1
    refine frame_onTwin [.mirror, .twin] (within_trans (by decide) hp) (.inl rfl) (.inl rfl) ?_
    with_reducible assumption
  clear_value x1
  with_reducible apply frame_ite
  · with_reducible apply frame_applyLine (within_trans (by decide) hp)
    with_reducible assumption
  · with_reducible apply frame_ite
    · with_reducible apply frame_applyRecords (within_trans (by decide) hp)
      with_reducible assumption
    · extract_lets +onlyGivenNames x2
      clear_value x2
      with_reducible apply frame_forAll
      · intro x3 x4 h5
        with_reducible apply frame_applyLine (within_trans (by decide) hp)
        with_reducible assumption
      · with_reducible assumption

theorem frame_applyHeld {P : List Part} {s0 : State} {stream : Nat} {a0 : Nat} {s : State} (hp : within [.pkg, .ledger, .part, .dir, .mem, .dram, .recp, .twin, .mirror, .leaves, .power, .sessions, .rings, .kodp, .ctrs, .out, .free] P = true) (h : Frame P s0 s) : Frame P s0 (applyHeld stream a0 s) := by
  induction a0 generalizing s with
  | zero =>
    rw [applyHeld]
    with_reducible assumption
  | succ a0 ih =>
    rw [applyHeld]
    split
    · with_reducible apply ih
      with_reducible apply frame_applyPacket (within_trans (by decide) hp)
      refine frame_onTwin [.mirror, .twin] (within_trans (by decide) hp) (.inl rfl) (.inl rfl) ?_
      with_reducible assumption
    · with_reducible assumption

theorem frame_sendMrAck {P : List Part} {s0 : State} {s : State} (hp : within [.leaves] P = true) (h : Frame P s0 s) : Frame P s0 (sendMrAck s) := by
  unfold sendMrAck
  with_reducible apply frame_sendTw (within_trans (by decide) hp)
  with_reducible assumption

theorem frame_serveRepair {P : List Part} {s0 : State} {w : Nat × Nat × Nat × Nat × Nat} {s : State} (hp : within [.pkg, .dram, .twin, .leaves, .power, .rings, .ctrs, .free] P = true) (h : Frame P s0 s) : Frame P s0 (serveRepair w s) := by
  unfold serveRepair
  split
  extract_lets +onlyGivenNames x0
  clear_value x0
  with_reducible apply frame_ite
  · with_reducible apply frame_answerRepair (within_trans (by decide) hp)
    with_reducible assumption
  · with_reducible apply frame_ite
    · with_reducible apply frame_answerRepair (within_trans (by decide) hp)
      with_reducible assumption
    · with_reducible apply frame_ite
      · with_reducible assumption
      · with_reducible apply frame_dramPush (within_trans (by decide) hp)
        with_reducible assumption

theorem frame_serveRepairs {P : List Part} {s0 : State} {s : State} (hp : within [.pkg, .dram, .twin, .leaves, .power, .rings, .ctrs, .free] P = true) (h : Frame P s0 s) : Frame P s0 (serveRepairs s) := by
  unfold serveRepairs
  with_reducible apply frame_forAll
  · intro x0 x1 h2
    with_reducible apply frame_serveRepair (within_trans (by decide) hp)
    with_reducible assumption
  · with_reducible assumption

theorem frame_endSyncing {P : List Part} {s0 : State} {s : State} (hp : within [.twin] P = true) (h : Frame P s0 s) : Frame P s0 (endSyncing s) := by
  unfold endSyncing
  with_reducible apply frame_ite
  · refine frame_onTwin [.twin] (within_trans (by decide) hp) (.inr fun _ => rfl) (.inl rfl) ?_
    with_reducible assumption
  · with_reducible assumption

theorem frame_takeMirror {P : List Part} {s0 : State} {p : Packet} {s : State} (hp : within [.pkg, .ledger, .part, .dir, .mem, .dram, .recp, .twin, .mirror, .leaves, .power, .sessions, .rings, .kodp, .ctrs, .out, .free] P = true) (h : Frame P s0 s) : Frame P s0 (takeMirror p s) := by
  unfold takeMirror
  with_reducible apply frame_ite
  · with_reducible apply frame_twinIgnore (within_trans (by decide) hp)
    with_reducible assumption
  · split
    extract_lets +onlyGivenNames x0
    clear_value x0
    with_reducible apply frame_ite
    · with_reducible apply frame_sendMrAck (within_trans (by decide) hp)
      with_reducible assumption
    · extract_lets +onlyGivenNames x1
      have h1 : Frame P s0 (x1) := by
        unfold x1
        refine frame_onTwin [.mirror, .twin] (within_trans (by decide) hp) (.inl rfl) (.inl rfl) ?_
        with_reducible assumption
      clear_value x1
      extract_lets +onlyGivenNames x2
      have h2 : Frame P s0 (x2) := by
        unfold x2
        with_reducible apply frame_applyHeld (within_trans (by decide) hp)
        with_reducible assumption
      clear_value x2
      with_reducible apply frame_sendMrAck (within_trans (by decide) hp)
      with_reducible apply frame_serveRepairs (within_trans (by decide) hp)
      with_reducible apply frame_endSyncing (within_trans (by decide) hp)
      with_reducible assumption

theorem frame_readSweep {P : List Part} {s0 : State} {die : Nat} {l : Nat} {n : Nat} {s : State} (hp : within [.pkg, .mem, .dram, .power, .rings, .ctrs, .free] P = true) (h : Frame P s0 s) : FrameP P s0 (readSweep die l n s) := by
  unfold readSweep
  extract_lets +onlyGivenNames x0
  clear_value x0
  split
  with_reducible apply frame_mk
  with_reducible apply frame_ite
  · with_reducible apply frame_useReturned (within_trans (by decide) hp)
    refine frame_of_fst (by with_reducible assumption) ?_
    with_reducible apply frame_foldlP
    · intro x1 x2 h3
      split
      · with_reducible apply frame_mk
        refine frame_of_fst (by with_reducible assumption) ?_
        with_reducible apply frame_fetchLine (within_trans (by decide) hp)
        refine FrameP.fst ?_
        with_reducible assumption
      · with_reducible apply frame_mk
        refine frame_of_fst (by with_reducible assumption) ?_
        with_reducible apply frame_fetchLine (within_trans (by decide) hp)
        refine FrameP.fst ?_
        with_reducible assumption
    · with_reducible apply frame_mk
      with_reducible assumption
  · refine frame_of_fst (by with_reducible assumption) ?_
    with_reducible apply frame_foldlP
    · intro x4 x5 h6
      split
      · with_reducible apply frame_mk
        refine frame_of_fst (by with_reducible assumption) ?_
        with_reducible apply frame_fetchLine (within_trans (by decide) hp)
        refine FrameP.fst ?_
        with_reducible assumption
      · with_reducible apply frame_mk
        refine frame_of_fst (by with_reducible assumption) ?_
        with_reducible apply frame_fetchLine (within_trans (by decide) hp)
        refine FrameP.fst ?_
        with_reducible assumption
    · with_reducible apply frame_mk
      with_reducible assumption

theorem frame_sendSweep {P : List Part} {s0 : State} {die : Nat} {l : Nat} {n : Nat} {s : State} (hp : within [.mirror, .leaves, .ctrs] P = true) (h : Frame P s0 s) : Frame P s0 (sendSweep die l n s) := by
  unfold sendSweep
  extract_lets +onlyGivenNames x0
  clear_value x0
  extract_lets +onlyGivenNames x1
  clear_value x1
  with_reducible apply frame_bump (within_trans (by decide) hp)
  with_reducible apply frame_mirrorSend (within_trans (by decide) hp)
  with_reducible assumption

end Sys2Proof.Machine
end

