-- ==== Sys2Proof/Laws/FrameOpsFill.lean ====
section
/-!
SUPPORT. Laws/FrameOpsFill.lean: the frame of every operation and command of Machine/OpsFill.lean.
-/
namespace Sys2Proof.Machine

theorem frame_wakeGranule {P : List Part} {s0 : State} {g : Nat} {s : State} (hp : within [.pkg, .txn, .ledger, .part, .dir, .mem, .dram, .deep, .integ, .mirror, .leaves, .power, .sec, .sessions, .obs, .rings, .kodp, .ctrs, .out, .free] P = true) (h : Frame P s0 s) : Frame P s0 (wakeGranule g s) := by
  unfold wakeGranule
  with_reducible apply frame_forAll
  · intro x0 x1 h2
    split
    · with_reducible apply frame_orderRequest (within_trans (by decide) hp)
      with_reducible assumption
    · with_reducible assumption
  · with_reducible apply frame_runOwn (within_trans (by decide) hp)
    with_reducible assumption

theorem frame_endBulk {P : List Part} {s0 : State} {b : Bulk} {st : Status} {s : State} (hp : within [.ledger, .deep, .mirror, .leaves, .sessions, .rings, .kodp, .running, .ctrs, .out] P = true) (h : Frame P s0 s) : Frame P s0 (endBulk b st s) := by
  unfold endBulk
  with_reducible apply frame_reply (within_trans (by decide) hp)
  with_reducible apply frame_onDeep (within_trans (by decide) hp)
  with_reducible assumption

theorem frame_failWaiting {P : List Part} {s0 : State} {g : Nat} {st : Status} {s : State} (hp : within [.txn, .ledger, .dir, .deep, .mirror, .leaves, .sec, .sessions, .rings, .kodp, .running, .ctrs, .out] P = true) (h : Frame P s0 s) : Frame P s0 (failWaiting g st s) := by
  unfold failWaiting
  extract_lets +onlyGivenNames x0
  clear_value x0
  extract_lets +onlyGivenNames x1
  have h1 : Frame P s0 (x1) := by
    unfold x1
    with_reducible apply frame_onDeep (within_trans (by decide) hp)
    with_reducible assumption
  clear_value x1
  extract_lets +onlyGivenNames x2
  have h2 : Frame P s0 (x2) := by
    unfold x2
    split
    · with_reducible apply frame_ite
      · with_reducible apply frame_endBulk (within_trans (by decide) hp)
        with_reducible assumption
      · with_reducible assumption
    · with_reducible assumption
  clear_value x2
  with_reducible apply frame_forAll
  · intro x3 x4 h5
    split
    · with_reducible apply frame_settleAged (within_trans (by decide) hp)
      with_reducible apply frame_finishStatus (within_trans (by decide) hp)
      with_reducible assumption
    · with_reducible assumption
  · with_reducible assumption

theorem frame_placeLine {P : List Part} {s0 : State} {f : Fill} {i : Nat} {poison : Bool} {data : List Byte} {s : State} (hp : within [.pkg, .ledger, .mem, .dram, .integ, .mirror, .leaves, .power, .sessions, .rings, .kodp, .ctrs, .out, .free] P = true) (h : Frame P s0 s) : Frame P s0 (placeLine f i poison data s) := by
  unfold placeLine
  extract_lets +onlyGivenNames x0
  clear_value x0
  split
  extract_lets +onlyGivenNames x1
  clear_value x1
  extract_lets +onlyGivenNames x2
  clear_value x2
  extract_lets +onlyGivenNames x3
  clear_value x3
  extract_lets +onlyGivenNames x4
  clear_value x4
  extract_lets +onlyGivenNames x5
  clear_value x5
  extract_lets +onlyGivenNames x6
  have h6 : ∀ y0, Frame P s0 y0 → Frame P s0 (x6 y0) := by
    intro x7 h8
    unfold x6
    extract_lets +onlyGivenNames x9
    clear_value x9
    extract_lets +onlyGivenNames x10
    clear_value x10
    extract_lets +onlyGivenNames x11
    have h11 : Frame P s0 (x11) := by
      unfold x11
      with_reducible apply frame_dramPush (within_trans (by decide) hp)
      with_reducible apply frame_ite
      · with_reducible apply frame_pantryRoom (within_trans (by decide) hp)
        with_reducible assumption
      · with_reducible assumption
    clear_value x11
    extract_lets +onlyGivenNames x12
    have h12 : Frame P s0 (x12) := by
      unfold x12
      with_reducible apply frame_setMeta (within_trans (by decide) hp)
      with_reducible apply frame_putBytes (within_trans (by decide) hp)
      with_reducible assumption
    clear_value x12
    with_reducible apply frame_mirrorLine (within_trans (by decide) hp)
    with_reducible apply frame_mapGranule (within_trans (by decide) hp)
    with_reducible assumption
  clear_value x6
  extract_lets +onlyGivenNames x13
  have h13 : Frame P s0 (x13) := by
    unfold x13
    with_reducible apply frame_ite
    · with_reducible apply frame_onlyIf
      · intro x14 h15
        with_reducible apply frame_poisonListed (within_trans (by decide) hp)
        with_reducible assumption
      · with_reducible assumption
    · with_reducible apply h6
      with_reducible assumption
  clear_value x13
  with_reducible apply frame_ite
  · with_reducible apply frame_bump (within_trans (by decide) hp)
    with_reducible apply frame_poisonEvent (within_trans (by decide) hp)
    with_reducible apply frame_logError (within_trans (by decide) hp)
    with_reducible assumption
  · with_reducible assumption

theorem frame_setFill {P : List Part} {s0 : State} {g : Nat} {f : Fill → Fill} {s : State} (hp : within [.deep] P = true) (h : Frame P s0 s) : Frame P s0 (setFill g f s) := by
  unfold setFill
  with_reducible apply frame_onDeep (within_trans (by decide) hp)
  with_reducible assumption

theorem frame_endRefill {P : List Part} {s0 : State} {f : Fill} {go : Nat → DramCause → State → State} {s : State} (hp : within [.integ] P = true) (h_go : (∀ x0, ∀ x1, ∀ x2, Frame P s0 x2 → Frame P s0 (go x0 x1 x2))) (h : Frame P s0 s) : Frame P s0 (endRefill f go s) := by
  unfold endRefill
  extract_lets +onlyGivenNames x0
  clear_value x0
  extract_lets +onlyGivenNames x1
  clear_value x1
  extract_lets +onlyGivenNames x2
  clear_value x2
  with_reducible apply frame_forAll
  · intro x3 x4 h5
    with_reducible apply h_go
    with_reducible assumption
  · with_reducible apply frame_onInteg (within_trans (by decide) hp)
    with_reducible assumption

theorem frame_bulkGranule {P : List Part} {s0 : State} {b : Bulk} {g : Nat} {s : State} (hp : within [.pkg, .txn, .ledger, .part, .dir, .mem, .dram, .deep, .integ, .mirror, .leaves, .power, .sessions, .obs, .rings, .kodp, .ctrs, .out, .free] P = true) (h : Frame P s0 s) : FrameP P s0 (bulkGranule b g s) := by
  unfold bulkGranule
  extract_lets +onlyGivenNames x0
  clear_value x0
  extract_lets +onlyGivenNames x1
  clear_value x1
  extract_lets +onlyGivenNames x2
  clear_value x2
  with_reducible apply frame_ite1
  · with_reducible apply frame_mk
    with_reducible assumption
  · with_reducible apply frame_ite1
    · with_reducible apply frame_mk
      with_reducible apply frame_fetchTag (within_trans (by decide) hp)
      with_reducible assumption
    · with_reducible apply frame_ite1
      · split
        with_reducible apply frame_ite1
        · with_reducible apply frame_mk
          refine frame_of_fst (by with_reducible assumption) ?_
          with_reducible apply frame_recallGranule (within_trans (by decide) hp)
          with_reducible assumption
        · split
          · with_reducible apply frame_mk
            refine frame_of_fst (by with_reducible assumption) ?_
            with_reducible apply frame_recallGranule (within_trans (by decide) hp)
            with_reducible assumption
          · extract_lets +onlyGivenNames x3
            clear_value x3
            with_reducible apply frame_ite1
            · with_reducible apply frame_mk
              refine frame_of_fst (by with_reducible assumption) ?_
              with_reducible apply frame_recallGranule (within_trans (by decide) hp)
              with_reducible assumption
            · with_reducible apply frame_mk
              with_reducible apply frame_setTag (within_trans (by decide) hp)
              with_reducible apply frame_cleanGranule (within_trans (by decide) hp)
              refine frame_of_fst (by with_reducible assumption) ?_
              with_reducible apply frame_recallGranule (within_trans (by decide) hp)
              with_reducible assumption
      · split
        · extract_lets +onlyGivenNames x4
          clear_value x4
          with_reducible apply frame_ite1
          · with_reducible apply frame_mk
            with_reducible assumption
          · with_reducible apply frame_ite1
            · with_reducible apply frame_mk
              with_reducible assumption
            · with_reducible apply frame_mk
              with_reducible apply frame_setTag (within_trans (by decide) hp)
              with_reducible assumption
        · with_reducible apply frame_ite1
          · with_reducible apply frame_mk
            with_reducible assumption
          · with_reducible apply frame_mk
            with_reducible apply frame_missGranule (within_trans (by decide) hp)
            with_reducible assumption

theorem frame_bulkStep {P : List Part} {s0 : State} {s : State} (hp : within [.pkg, .txn, .ledger, .part, .dir, .mem, .dram, .deep, .integ, .mirror, .leaves, .power, .sessions, .obs, .rings, .kodp, .running, .ctrs, .out, .free] P = true) (h : Frame P s0 s) : Frame P s0 (bulkStep s) := by
  unfold bulkStep
  split
  · with_reducible assumption
  · with_reducible apply frame_ite
    · extract_lets +onlyGivenNames x0
      clear_value x0
      extract_lets +onlyGivenNames x1
      have h1 : Frame P s0 (x1) := by
        unfold x1
        with_reducible apply frame_forAll
        · intro x2 x3 h4
          with_reducible apply frame_startWriteback (within_trans (by decide) hp)
          with_reducible assumption
        · with_reducible assumption
      clear_value x1
      with_reducible apply frame_ite
      · with_reducible apply frame_endBulk (within_trans (by decide) hp)
        with_reducible assumption
      · with_reducible assumption
    · with_reducible apply frame_ite
      · with_reducible assumption
      · split
        extract_lets +onlyGivenNames x5
        have h5 : Frame P s0 (x5) := by
          unfold x5
          with_reducible apply frame_onDeep (within_trans (by decide) hp)
          refine frame_of_fst (by with_reducible assumption) ?_
          with_reducible apply frame_foldlP
          · intro x6 x7 h8
            with_reducible apply frame_bulkGranule (within_trans (by decide) hp)
            refine FrameP.fst ?_
            with_reducible assumption
          · with_reducible apply frame_mk
            with_reducible assumption
        clear_value x5
        with_reducible apply frame_ite
        · with_reducible assumption
        · with_reducible apply frame_ite
          · with_reducible apply frame_endBulk (within_trans (by decide) hp)
            with_reducible assumption
          · extract_lets +onlyGivenNames x9
            clear_value x9
            extract_lets +onlyGivenNames x10
            have h10 : Frame P s0 (x10) := by
              unfold x10
              with_reducible apply frame_forAll
              · intro x11 x12 h13
                extract_lets +onlyGivenNames x14
                clear_value x14
                extract_lets +onlyGivenNames x15
                clear_value x15
                with_reducible apply frame_ite
                · with_reducible apply frame_sendDt (within_trans (by decide) hp)
                  with_reducible assumption
                · with_reducible assumption
              · with_reducible assumption
            clear_value x10
            with_reducible apply frame_ite
            · with_reducible apply frame_onDeep (within_trans (by decide) hp)
              with_reducible assumption
            · with_reducible apply frame_endBulk (within_trans (by decide) hp)
              with_reducible assumption

theorem frame_completeFill {P : List Part} {s0 : State} {g : Nat} {s : State} (hp : within [.pkg, .txn, .ledger, .part, .dir, .mem, .dram, .deep, .integ, .twin, .mirror, .leaves, .power, .sec, .sessions, .obs, .rings, .kodp, .running, .ctrs, .out, .free] P = true) (h : Frame P s0 s) : Frame P s0 (completeFill g s) := by
  unfold completeFill
  split
  · with_reducible assumption
  · with_reducible apply frame_ite
    · with_reducible assumption
    · extract_lets +onlyGivenNames x0
      clear_value x0
      extract_lets +onlyGivenNames x1
      have h1 : Frame P s0 (x1) := by
        unfold x1
        with_reducible apply frame_setTag (within_trans (by decide) hp)
        with_reducible assumption
      clear_value x1
      extract_lets +onlyGivenNames x2
      have h2 : Frame P s0 (x2) := by
        unfold x2
        with_reducible apply frame_onDeep (within_trans (by decide) hp)
        with_reducible assumption
      clear_value x2
      extract_lets +onlyGivenNames x3
      have h3 : Frame P s0 (x3) := by
        unfold x3
        with_reducible apply frame_endRefill (within_trans (by decide) hp)
        · intro x4 x5 x6 h7
          with_reducible apply frame_resumeCause (within_trans (by decide) hp)
          with_reducible assumption
        · with_reducible apply frame_bump (within_trans (by decide) hp)
          with_reducible assumption
      clear_value x3
      with_reducible apply frame_bulkStep (within_trans (by decide) hp)
      with_reducible apply frame_wakeGranule (within_trans (by decide) hp)
      with_reducible assumption

theorem frame_failFill {P : List Part} {s0 : State} {f : Fill} {st : Status} {s : State} (hp : within [.pkg, .txn, .ledger, .dir, .mem, .dram, .deep, .integ, .mirror, .leaves, .power, .sec, .sessions, .rings, .kodp, .running, .ctrs, .out, .free] P = true) (h : Frame P s0 s) : Frame P s0 (failFill f st s) := by
  unfold failFill
  extract_lets +onlyGivenNames x0
  have h0 : Frame P s0 (x0) := by
    unfold x0
    with_reducible apply frame_setTag (within_trans (by decide) hp)
    with_reducible apply frame_cleanGranule (within_trans (by decide) hp)
    with_reducible assumption
  clear_value x0
  extract_lets +onlyGivenNames x1
  have h1 : Frame P s0 (x1) := by
    unfold x1
    with_reducible apply frame_onDeep (within_trans (by decide) hp)
    with_reducible assumption
  clear_value x1
  extract_lets +onlyGivenNames x2
  have h2 : Frame P s0 (x2) := by
    unfold x2
    with_reducible apply frame_endRefill (within_trans (by decide) hp)
    · intro x3 x4 x5 h6
      split
      · split
        · with_reducible apply frame_settleAged (within_trans (by decide) hp)
          with_reducible apply frame_finishStatus (within_trans (by decide) hp)
          with_reducible assumption
        · with_reducible assumption
      · with_reducible apply frame_onDeep (within_trans (by decide) hp)
        with_reducible assumption
      · with_reducible assumption
    · with_reducible assumption
  clear_value x2
  with_reducible apply frame_failWaiting (within_trans (by decide) hp)
  with_reducible apply frame_bump (within_trans (by decide) hp)
  with_reducible assumption

theorem frame_sledFencedBy {P : List Part} {s0 : State} {sled : Nat} {s : State} (hp : within [.pkg, .txn, .ledger, .part, .dir, .mem, .deep, .recp, .core, .twin, .mirror, .traffic, .leaves, .power, .sec, .sessions, .obs, .rings, .kodp, .running, .ctrs, .out, .free] P = true) (h : Frame P s0 s) : Frame P s0 (sledFencedBy sled s) := by
  unfold sledFencedBy
  extract_lets +onlyGivenNames x0
  have h0 : Frame P s0 (x0) := by
    unfold x0
    with_reducible apply frame_notify (within_trans (by decide) hp)
    with_reducible apply frame_bump (within_trans (by decide) hp)
    with_reducible apply frame_setSled (within_trans (by decide) hp)
    with_reducible assumption
  clear_value x0
  with_reducible apply frame_ite
  · with_reducible assumption
  · with_reducible apply frame_higherEpoch (within_trans (by decide) hp)
    with_reducible assumption

theorem frame_endWriteback {P : List Part} {s0 : State} {w : Writeback} {ok : Bool} {s : State} (hp : within [.pkg, .mem, .dram, .deep, .mirror, .leaves, .power, .rings, .ctrs, .free] P = true) (h : Frame P s0 s) : Frame P s0 (endWriteback w ok s) := by
  unfold endWriteback
  extract_lets +onlyGivenNames x0
  clear_value x0
  extract_lets +onlyGivenNames x1
  clear_value x1
  extract_lets +onlyGivenNames x2
  clear_value x2
  extract_lets +onlyGivenNames x3
  have h3 : Frame P s0 (x3) := by
    unfold x3
    with_reducible apply frame_setTag (within_trans (by decide) hp)
    with_reducible assumption
  clear_value x3
  extract_lets +onlyGivenNames x4
  have h4 : Frame P s0 (x4) := by
    unfold x4
    with_reducible apply frame_onDeep (within_trans (by decide) hp)
    with_reducible assumption
  clear_value x4
  with_reducible apply frame_onlyIf
  · intro x5 h6
    with_reducible apply frame_queueWriteback (within_trans (by decide) hp)
    with_reducible assumption
  · with_reducible assumption

theorem frame_takeoverDone {P : List Part} {s0 : State} {s : State} (hp : within [.ledger, .twin, .leaves, .sessions, .rings, .kodp, .ctrs, .out] P = true) (h : Frame P s0 s) : Frame P s0 (takeoverDone s) := by
  unfold takeoverDone
  with_reducible apply frame_notify (within_trans (by decide) hp)
  refine frame_onTwin [.twin] (within_trans (by decide) hp) (.inr fun _ => rfl) (.inl rfl) ?_
  with_reducible assumption

theorem frame_claimAfterInfo {P : List Part} {s0 : State} {sled : Nat} {s : State} (hp : within [.txn, .ledger, .deep, .leaves, .sessions, .rings, .kodp, .ctrs, .out] P = true) (h : Frame P s0 s) : Frame P s0 (claimAfterInfo sled s) := by
  unfold claimAfterInfo
  extract_lets +onlyGivenNames x0
  clear_value x0
  with_reducible apply frame_ite
  · with_reducible assumption
  · with_reducible apply frame_ite
    · with_reducible apply frame_ite
      · with_reducible apply frame_sendClaim (within_trans (by decide) hp)
        with_reducible assumption
      · with_reducible assumption
    · with_reducible apply frame_ite
      · with_reducible apply frame_sendClaim (within_trans (by decide) hp)
        with_reducible apply frame_setSled (within_trans (by decide) hp)
        with_reducible assumption
      · with_reducible apply frame_ite
        · with_reducible assumption
        · with_reducible apply frame_notify (within_trans (by decide) hp)
          with_reducible apply frame_setSled (within_trans (by decide) hp)
          with_reducible assumption

theorem frame_sledAnswer {P : List Part} {s0 : State} {sled : Nat} {q : PoolReq} {st : Status} {s : State} (hp : within [.pkg, .txn, .ledger, .part, .dir, .mem, .dram, .deep, .integ, .recp, .core, .twin, .mirror, .traffic, .leaves, .power, .sec, .sessions, .obs, .rings, .kodp, .running, .ctrs, .out, .free] P = true) (h : Frame P s0 s) : Frame P s0 (sledAnswer sled q st s) := by
  unfold sledAnswer
  extract_lets +onlyGivenNames x0
  have h0 : Frame P s0 (x0) := by
    unfold x0
    with_reducible apply frame_endPool (within_trans (by decide) hp)
    with_reducible assumption
  clear_value x0
  split
  · with_reducible apply frame_ite
    · extract_lets +onlyGivenNames x1
      clear_value x1
      extract_lets +onlyGivenNames x2
      have h2 : Frame P s0 (x2) := by
        unfold x2
        with_reducible apply frame_setSled (within_trans (by decide) hp)
        with_reducible assumption
      clear_value x2
      with_reducible apply frame_ite
      · with_reducible apply frame_takeoverDone (within_trans (by decide) hp)
        with_reducible assumption
      · with_reducible assumption
    · with_reducible apply frame_ite
      · with_reducible apply frame_sledFencedBy (within_trans (by decide) hp)
        with_reducible assumption
      · with_reducible assumption
  · split
    · with_reducible assumption
    · with_reducible apply frame_ite
      · with_reducible apply frame_completeFill (within_trans (by decide) hp)
        with_reducible apply frame_setFill (within_trans (by decide) hp)
        with_reducible assumption
      · with_reducible apply frame_failFill (within_trans (by decide) hp)
        with_reducible assumption
  · split
    · with_reducible assumption
    · extract_lets +onlyGivenNames x3
      have h3 : Frame P s0 (x3) := by
        unfold x3
        with_reducible apply frame_endWriteback (within_trans (by decide) hp)
        with_reducible assumption
      clear_value x3
      with_reducible apply frame_ite
      · with_reducible apply frame_sledFencedBy (within_trans (by decide) hp)
        with_reducible assumption
      · with_reducible apply frame_bulkStep (within_trans (by decide) hp)
        with_reducible assumption
  · extract_lets +onlyGivenNames x4
    have h4 : Frame P s0 (x4) := by
      unfold x4
      with_reducible apply frame_ite
      · with_reducible apply frame_sledFencedBy (within_trans (by decide) hp)
        with_reducible assumption
      · with_reducible assumption
    clear_value x4
    split
    · with_reducible apply frame_ite
      · with_reducible apply frame_endBulk (within_trans (by decide) hp)
        with_reducible assumption
      · with_reducible assumption
    · with_reducible assumption
  · with_reducible assumption

end Sys2Proof.Machine
end

