-- ==== Sys2Proof/Laws/FrameOpsTime.lean ====
section
/-!
SUPPORT. Laws/FrameOpsTime.lean: the frame of every operation and command of Machine/OpsTime.lean.
-/
namespace Sys2Proof.Machine

theorem frame_setIsland {P : List Part} {s0 : State} {die : Nat} {f : TimeIsland → TimeIsland} {s : State} (hp : within [.time] P = true) (h : Frame P s0 s) : Frame P s0 (setIsland die f s) := by
  unfold setIsland
  refine frame_onObs [.time] (within_trans (by decide) hp) (.inl rfl) (.inr fun _ => rfl) (.inr fun _ => rfl) ?_
  with_reducible assumption

theorem frame_tick {P : List Part} {s0 : State} {s : State} (hp : within [.time, .ctrs] P = true) (h : Frame P s0 s) : Frame P s0 (tick s) := by
  unfold tick
  with_reducible apply frame_ite
  · extract_lets +onlyGivenNames x0
    have h0 : ∀ y0, ∀ y1, Frame P s0 y1 → Frame P s0 (x0 y0 y1) := by
      intro x1 x2 h3
      unfold x0
      with_reducible apply frame_onlyIf
      · intro x4 h5
        with_reducible apply frame_bumpBy (within_trans (by decide) hp)
        with_reducible assumption
      · with_reducible assumption
    clear_value x0
    with_reducible apply h0
    with_reducible apply h0
    with_reducible apply frame_setIsland (within_trans (by decide) hp)
    with_reducible apply frame_setIsland (within_trans (by decide) hp)
    with_reducible assumption
  · with_reducible assumption

theorem frame_timeFault {P : List Part} {s0 : State} {die : Nat} {off : Int} {s : State} (hp : within [.ledger, .leaves, .sessions, .rings, .kodp, .ctrs, .out] P = true) (h : Frame P s0 s) : Frame P s0 (timeFault die off s) := by
  unfold timeFault
  with_reducible apply frame_bump (within_trans (by decide) hp)
  with_reducible apply frame_notify (within_trans (by decide) hp)
  with_reducible assumption

theorem frame_stepTo {P : List Part} {s0 : State} {die : Nat} {g : Nat} {s : State} (hp : within [.time, .rings, .ctrs] P = true) (h : Frame P s0 s) : Frame P s0 (stepTo die g s) := by
  unfold stepTo
  extract_lets +onlyGivenNames x0
  clear_value x0
  extract_lets +onlyGivenNames x1
  have h1 : Frame P s0 (x1) := by
    unfold x1
    with_reducible apply frame_setIsland (within_trans (by decide) hp)
    with_reducible assumption
  clear_value x1
  with_reducible apply frame_bump (within_trans (by decide) hp)
  with_reducible apply frame_crumb (within_trans (by decide) hp)
  with_reducible assumption

theorem frame_steer {P : List Part} {s0 : State} {die : Nat} {g : Nat} {s : State} (hp : within [.ledger, .leaves, .sessions, .time, .rings, .kodp, .ctrs, .out] P = true) (h : Frame P s0 s) : Frame P s0 (steer die g s) := by
  unfold steer
  extract_lets +onlyGivenNames x0
  clear_value x0
  extract_lets +onlyGivenNames x1
  clear_value x1
  extract_lets +onlyGivenNames x2
  clear_value x2
  with_reducible apply frame_ite
  · extract_lets +onlyGivenNames x3
    have h3 : Frame P s0 (x3) := by
      unfold x3
      with_reducible apply frame_stepTo (within_trans (by decide) hp)
      with_reducible assumption
    clear_value x3
    with_reducible apply frame_ite
    · with_reducible apply frame_timeFault (within_trans (by decide) hp)
      with_reducible assumption
    · with_reducible apply frame_setIsland (within_trans (by decide) hp)
      with_reducible assumption
  · extract_lets +onlyGivenNames x4
    have h4 : Frame P s0 (x4) := by
      unfold x4
      with_reducible apply frame_onlyIf
      · intro x5 h6
        with_reducible apply frame_timeFault (within_trans (by decide) hp)
        with_reducible assumption
      · with_reducible assumption
    clear_value x4
    with_reducible apply frame_setIsland (within_trans (by decide) hp)
    with_reducible assumption

theorem frame_chooseParent {P : List Part} {s0 : State} {s : State} (hp : within [.txn] P = true) (h : Frame P s0 s) : Frame P s0 (chooseParent s) := by
  unfold chooseParent
  extract_lets +onlyGivenNames x0
  clear_value x0
  extract_lets +onlyGivenNames x1
  clear_value x1
  with_reducible apply frame_ite
  · with_reducible assumption
  · refine frame_onTxn [.txn] (within_trans (by decide) hp) (.inr fun _ => rfl) (.inl rfl) ?_
    with_reducible assumption

theorem frame_takeTimeSync {P : List Part} {s0 : State} {port : Nat} {b : List Byte} {s : State} (hp : within [.txn, .ledger, .leaves, .sessions, .time, .rings, .kodp, .ctrs, .out] P = true) (h : Frame P s0 s) : Frame P s0 (takeTimeSync port b s) := by
  unfold takeTimeSync
  with_reducible apply frame_ite
  · with_reducible assumption
  · extract_lets +onlyGivenNames x0
    clear_value x0
    extract_lets +onlyGivenNames x1
    clear_value x1
    extract_lets +onlyGivenNames x2
    clear_value x2
    extract_lets +onlyGivenNames x3
    clear_value x3
    extract_lets +onlyGivenNames x4
    clear_value x4
    extract_lets +onlyGivenNames x5
    clear_value x5
    extract_lets +onlyGivenNames x6
    have h6 : Frame P s0 (x6) := by
      unfold x6
      with_reducible apply frame_chooseParent (within_trans (by decide) hp)
      refine frame_onTxn [.ledger, .txn] (within_trans (by decide) hp) (.inl rfl) (.inl rfl) ?_
      with_reducible assumption
    clear_value x6
    with_reducible apply frame_ite
    · with_reducible apply frame_steer (within_trans (by decide) hp)
      with_reducible assumption
    · with_reducible assumption

end Sys2Proof.Machine
end

