-- ==== Sys2Proof/Laws/FrameOpsLink.lean ====
section
/-!
SUPPORT. Laws/FrameOpsLink.lean: the frame of every operation and command of Machine/OpsLink.lean.
-/
namespace Sys2Proof.Machine

theorem frame_setLane {P : List Part} {s0 : State} {port : Nat} {l : Nat} {f : Lane → Lane} {s : State} (hp : within [.link] P = true) (h : Frame P s0 s) : Frame P s0 (setLane port l f s) := by
  unfold setLane
  with_reducible apply frame_setPort (within_trans (by decide) hp)
  with_reducible assumption

theorem frame_portTo {P : List Part} {s0 : State} {port : Nat} {st : PortSt} {f : Port → Port} {s : State} (hp : within [.link] P = true) (h : Frame P s0 s) : Frame P s0 (portTo port st f s) := by
  unfold portTo
  with_reducible apply frame_setPort (within_trans (by decide) hp)
  with_reducible assumption

theorem frame_beginTrain {P : List Part} {s0 : State} {port : Nat} {s : State} (hp : within [.link] P = true) (h : Frame P s0 s) : Frame P s0 (beginTrain port s) := by
  unfold beginTrain
  with_reducible apply frame_portTo (within_trans (by decide) hp)
  with_reducible assumption

theorem frame_loseHolds {P : List Part} {s0 : State} {port : Nat} {s : State} (hp : within [.traffic] P = true) (h : Frame P s0 s) : Frame P s0 (loseHolds port s) := by
  unfold loseHolds
  refine frame_onTraffic [.traffic] (within_trans (by decide) hp) (.inr fun _ => rfl) (.inl rfl) ?_
  with_reducible assumption

theorem frame_moveLeaves {P : List Part} {s0 : State} {port : Nat} {s : State} (hp : within [.ledger, .leaves] P = true) (h : Frame P s0 s) : Frame P s0 (moveLeaves port s) := by
  unfold moveLeaves
  extract_lets +onlyGivenNames x0
  clear_value x0
  extract_lets +onlyGivenNames x1
  have h1 : Frame P s0 (x1) := by
    unfold x1
    refine frame_onTxn [.ledger] (within_trans (by decide) hp) (.inl rfl) (.inr fun _ => rfl) ?_
    with_reducible assumption
  clear_value x1
  extract_lets +onlyGivenNames x2
  have h2 : Frame P s0 (x2) := by
    unfold x2
    refine frame_onTraffic [.leaves] (within_trans (by decide) hp) (.inl rfl) (.inr fun _ => rfl) ?_
    with_reducible assumption
  clear_value x2
  with_reducible apply frame_forAll
  · intro x3 x4 h5
    with_reducible apply frame_forAll
    · intro x6 x7 h8
      split
      extract_lets +onlyGivenNames x9
      clear_value x9
      extract_lets +onlyGivenNames x10
      clear_value x10
      refine frame_onTraffic [.leaves] (within_trans (by decide) hp) (.inl rfl) (.inr fun _ => rfl) ?_
      refine frame_of_fst (by with_reducible assumption) ?_
      split
      · with_reducible apply frame_mk
        with_reducible assumption
      · split
        · with_reducible apply frame_mk
          refine frame_onTxn [.ledger] (within_trans (by decide) hp) (.inl rfl) (.inr fun _ => rfl) ?_
          with_reducible assumption
        · with_reducible apply frame_mk
          with_reducible assumption
    · with_reducible assumption
  · with_reducible assumption

theorem frame_resendFrom {P : List Part} {s0 : State} {port : Nat} {mine : List PoolReq} {s : State} (hp : within [.ledger, .mirror, .leaves] P = true) (h : Frame P s0 s) : Frame P s0 (resendFrom port mine s) := by
  unfold resendFrom
  with_reducible apply frame_ite
  · extract_lets +onlyGivenNames x0
    have h0 : Frame P s0 (x0) := by
      unfold x0
      with_reducible apply frame_forAll
      · intro x1 x2 h3
        with_reducible apply frame_sendTw (within_trans (by decide) hp)
        with_reducible assumption
      · with_reducible assumption
    clear_value x0
    refine frame_onTwin [.mirror] (within_trans (by decide) hp) (.inl rfl) (.inr fun _ => rfl) ?_
    with_reducible assumption
  · with_reducible apply frame_ite
    · with_reducible apply frame_forAll
      · intro x4 x5 h6
        with_reducible apply frame_ite
        · with_reducible assumption
        · with_reducible apply frame_sendPacket (within_trans (by decide) hp)
          with_reducible assumption
      · with_reducible assumption
    · with_reducible assumption

theorem frame_leftActive {P : List Part} {s0 : State} {port : Nat} {s : State} (hp : within [.txn, .ledger, .mirror, .traffic, .leaves] P = true) (h : Frame P s0 s) : Frame P s0 (leftActive port s) := by
  unfold leftActive
  extract_lets +onlyGivenNames x0
  have h0 : Frame P s0 (x0) := by
    unfold x0
    refine frame_onTxn [.ledger, .txn] (within_trans (by decide) hp) (.inl rfl) (.inl rfl) ?_
    with_reducible assumption
  clear_value x0
  extract_lets +onlyGivenNames x1
  clear_value x1
  extract_lets +onlyGivenNames x2
  have h2 : Frame P s0 (x2) := by
    unfold x2
    with_reducible apply frame_onlyIf
    · intro x3 h4
      with_reducible apply frame_moveLeaves (within_trans (by decide) hp)
      with_reducible apply frame_loseHolds (within_trans (by decide) hp)
      with_reducible assumption
    · with_reducible assumption
  clear_value x2
  with_reducible apply frame_chooseParent (within_trans (by decide) hp)
  with_reducible apply frame_resendFrom (within_trans (by decide) hp)
  with_reducible assumption

theorem frame_disablePort {P : List Part} {s0 : State} {port : Nat} {s : State} (hp : within [.link, .txn, .ledger, .mirror, .traffic, .leaves] P = true) (h : Frame P s0 s) : Frame P s0 (disablePort port s) := by
  unfold disablePort
  extract_lets +onlyGivenNames x0
  clear_value x0
  with_reducible apply frame_onlyIf
  · intro x1 h2
    with_reducible apply frame_leftActive (within_trans (by decide) hp)
    with_reducible assumption
  · with_reducible apply frame_portTo (within_trans (by decide) hp)
    with_reducible assumption

theorem frame_portDown {P : List Part} {s0 : State} {port : Nat} {cause : Nat} {s : State} (hp : within [.link, .txn, .ledger, .deep, .mirror, .traffic, .leaves, .sessions, .rings, .kodp, .ctrs, .out] P = true) (h : Frame P s0 s) : Frame P s0 (portDown port cause s) := by
  unfold portDown
  extract_lets +onlyGivenNames x0
  clear_value x0
  extract_lets +onlyGivenNames x1
  clear_value x1
  extract_lets +onlyGivenNames x2
  have h2 : Frame P s0 (x2) := by
    unfold x2
    with_reducible apply frame_portTo (within_trans (by decide) hp)
    with_reducible assumption
  clear_value x2
  extract_lets +onlyGivenNames x3
  have h3 : Frame P s0 (x3) := by
    unfold x3
    with_reducible apply frame_bumpBy (within_trans (by decide) hp)
    with_reducible assumption
  clear_value x3
  extract_lets +onlyGivenNames x4
  have h4 : Frame P s0 (x4) := by
    unfold x4
    with_reducible apply frame_onlyIf
    · intro x5 h6
      with_reducible apply frame_leftActive (within_trans (by decide) hp)
      with_reducible assumption
    · with_reducible assumption
  clear_value x4
  extract_lets +onlyGivenNames x7
  have h7 : Frame P s0 (x7) := by
    unfold x7
    with_reducible apply frame_notify (within_trans (by decide) hp)
    with_reducible assumption
  clear_value x7
  extract_lets +onlyGivenNames x8
  have h8 : Frame P s0 (x8) := by
    unfold x8
    with_reducible apply frame_onlyIf
    · intro x9 h10
      with_reducible apply frame_notify (within_trans (by decide) hp)
      with_reducible assumption
    · with_reducible assumption
  clear_value x8
  with_reducible apply frame_ite
  · with_reducible apply frame_notify (within_trans (by decide) hp)
    with_reducible apply frame_setSled (within_trans (by decide) hp)
    with_reducible assumption
  · with_reducible assumption

theorem frame_trainFails {P : List Part} {s0 : State} {port : Nat} {cause : Nat} {s : State} (hp : within [.link, .txn, .ledger, .deep, .mirror, .traffic, .leaves, .sessions, .rings, .kodp, .ctrs, .out] P = true) (h : Frame P s0 s) : Frame P s0 (trainFails port cause s) := by
  unfold trainFails
  with_reducible apply frame_portDown (within_trans (by decide) hp)
  with_reducible apply frame_bump (within_trans (by decide) hp)
  with_reducible apply frame_setPort (within_trans (by decide) hp)
  with_reducible assumption

theorem frame_disableAll {P : List Part} {s0 : State} {s : State} (hp : within [.link, .txn, .ledger, .mirror, .traffic, .leaves] P = true) (h : Frame P s0 s) : Frame P s0 (disableAll s) := by
  unfold disableAll
  with_reducible apply frame_forAll
  · intro x0 x1 h2
    with_reducible apply frame_disablePort (within_trans (by decide) hp)
    with_reducible assumption
  · with_reducible assumption

theorem frame_portIgnored {P : List Part} {s0 : State} {port : Nat} {s : State} (hp : within [.ctrs] P = true) (h : Frame P s0 s) : Frame P s0 (portIgnored port s) := by
  unfold portIgnored
  with_reducible apply frame_bump (within_trans (by decide) hp)
  with_reducible assumption

theorem frame_retrainTrigger {P : List Part} {s0 : State} {port : Nat} {cause : Nat} {s : State} (hp : within [.link, .txn, .ledger, .leaves, .sessions, .rings, .kodp, .ctrs, .out] P = true) (h : Frame P s0 s) : Frame P s0 (retrainTrigger port cause s) := by
  unfold retrainTrigger
  extract_lets +onlyGivenNames x0
  clear_value x0
  with_reducible apply frame_ite
  · with_reducible assumption
  · with_reducible apply frame_ite
    · with_reducible apply frame_portIgnored (within_trans (by decide) hp)
      with_reducible assumption
    · extract_lets +onlyGivenNames x1
      clear_value x1
      extract_lets +onlyGivenNames x2
      have h2 : Frame P s0 (x2) := by
        unfold x2
        with_reducible apply frame_setPort (within_trans (by decide) hp)
        with_reducible assumption
      clear_value x2
      extract_lets +onlyGivenNames x3
      have h3 : Frame P s0 (x3) := by
        unfold x3
        with_reducible apply frame_chooseParent (within_trans (by decide) hp)
        with_reducible apply frame_bump (within_trans (by decide) hp)
        with_reducible apply frame_crumb (within_trans (by decide) hp)
        with_reducible assumption
      clear_value x3
      extract_lets +onlyGivenNames x4
      clear_value x4
      with_reducible apply frame_ite
      · with_reducible assumption
      · with_reducible apply frame_ite
        · split
          · with_reducible apply frame_setPort (within_trans (by decide) hp)
            with_reducible assumption
          · with_reducible assumption
        · with_reducible apply frame_notify (within_trans (by decide) hp)
          with_reducible assumption

theorem frame_adoptMaps {P : List Part} {s0 : State} {port : Nat} {tx : Nat} {rx : Nat} {training : Bool} {s : State} (hp : within [.link, .ledger, .leaves, .sessions, .boot, .rings, .kodp, .ctrs, .out] P = true) (h : Frame P s0 s) : Frame P s0 (adoptMaps port tx rx training s) := by
  unfold adoptMaps
  extract_lets +onlyGivenNames x0
  clear_value x0
  extract_lets +onlyGivenNames x1
  clear_value x1
  extract_lets +onlyGivenNames x2
  clear_value x2
  extract_lets +onlyGivenNames x3
  clear_value x3
  extract_lets +onlyGivenNames x4
  have h4 : Frame P s0 (x4) := by
    unfold x4
    with_reducible apply frame_bumpBy (within_trans (by decide) hp)
    with_reducible assumption
  clear_value x4
  extract_lets +onlyGivenNames x5
  have h5 : Frame P s0 (x5) := by
    unfold x5
    with_reducible apply frame_setPort (within_trans (by decide) hp)
    with_reducible assumption
  clear_value x5
  extract_lets +onlyGivenNames x6
  clear_value x6
  extract_lets +onlyGivenNames x7
  have h7 : Frame P s0 (x7) := by
    unfold x7
    with_reducible apply frame_onlyIf
    · intro x8 h9
      with_reducible apply frame_exhaust (within_trans (by decide) hp)
      with_reducible assumption
    · with_reducible apply frame_onlyIf
      · intro x10 h11
        with_reducible apply frame_exhaust (within_trans (by decide) hp)
        with_reducible assumption
      · with_reducible assumption
  clear_value x7
  extract_lets +onlyGivenNames x12
  have h12 : Frame P s0 (x12) := by
    unfold x12
    with_reducible apply frame_onlyIf
    · intro x13 h14
      with_reducible apply frame_notify (within_trans (by decide) hp)
      with_reducible assumption
    · with_reducible assumption
  clear_value x12
  with_reducible apply frame_onlyIf
  · intro x15 h16
    with_reducible apply frame_notify (within_trans (by decide) hp)
    with_reducible assumption
  · with_reducible assumption

theorem frame_reportCredits {P : List Part} {s0 : State} {port : Nat} {s : State} (hp : within [.link] P = true) (h : Frame P s0 s) : Frame P s0 (reportCredits port s) := by
  unfold reportCredits
  extract_lets +onlyGivenNames x0
  clear_value x0
  extract_lets +onlyGivenNames x1
  clear_value x1
  extract_lets +onlyGivenNames x2
  clear_value x2
  with_reducible apply frame_setPort (within_trans (by decide) hp)
  with_reducible assumption

theorem frame_reachedActive {P : List Part} {s0 : State} {port : Nat} {s : State} (hp : within [.link, .txn, .ledger, .leaves] P = true) (h : Frame P s0 s) : Frame P s0 (reachedActive port s) := by
  unfold reachedActive
  extract_lets +onlyGivenNames x0
  have h0 : Frame P s0 (x0) := by
    unfold x0
    with_reducible apply frame_reportCredits (within_trans (by decide) hp)
    with_reducible assumption
  clear_value x0
  with_reducible apply frame_ite
  · with_reducible apply frame_sendInfo (within_trans (by decide) hp)
    with_reducible assumption
  · with_reducible apply frame_ite
    · with_reducible apply frame_repin (within_trans (by decide) hp)
      with_reducible assumption
    · with_reducible assumption

theorem frame_trainDone {P : List Part} {s0 : State} {port : Nat} {s : State} (hp : within [.link, .txn, .ledger, .deep, .mirror, .traffic, .leaves, .sessions, .boot, .rings, .kodp, .ctrs, .out] P = true) (h : Frame P s0 s) : Frame P s0 (trainDone port s) := by
  unfold trainDone
  split
  extract_lets +onlyGivenNames x0
  clear_value x0
  with_reducible apply frame_ite
  · with_reducible apply frame_trainFails (within_trans (by decide) hp)
    with_reducible assumption
  · with_reducible apply frame_ite
    · with_reducible apply frame_trainFails (within_trans (by decide) hp)
      with_reducible assumption
    · with_reducible apply frame_reachedActive (within_trans (by decide) hp)
      with_reducible apply frame_portTo (within_trans (by decide) hp)
      with_reducible apply frame_adoptMaps (within_trans (by decide) hp)
      with_reducible assumption

theorem frame_retrainDone {P : List Part} {s0 : State} {port : Nat} {s : State} (hp : within [.link, .txn, .ledger, .deep, .mirror, .traffic, .leaves, .sessions, .boot, .rings, .kodp, .ctrs, .out] P = true) (h : Frame P s0 s) : Frame P s0 (retrainDone port s) := by
  unfold retrainDone
  split
  with_reducible apply frame_ite
  · with_reducible apply frame_portDown (within_trans (by decide) hp)
    with_reducible assumption
  · with_reducible apply frame_reachedActive (within_trans (by decide) hp)
    with_reducible apply frame_portTo (within_trans (by decide) hp)
    with_reducible apply frame_adoptMaps (within_trans (by decide) hp)
    with_reducible assumption

theorem frame_detectPort {P : List Part} {s0 : State} {port : Nat} {s : State} (hp : within [.link, .txn, .ledger, .deep, .mirror, .traffic, .leaves, .sessions, .rings, .kodp, .ctrs, .out] P = true) (h : Frame P s0 s) : Frame P s0 (detectPort port s) := by
  unfold detectPort
  with_reducible apply frame_ite
  · with_reducible assumption
  · with_reducible apply frame_ite
    · with_reducible apply frame_portTo (within_trans (by decide) hp)
      with_reducible assumption
    · with_reducible apply frame_portDown (within_trans (by decide) hp)
      with_reducible assumption

end Sys2Proof.Machine
end

