-- ==== Sys2Proof/Laws/FrameOpsSecurity.lean ====
section
/-!
SUPPORT. Laws/FrameOpsSecurity.lean: the frame of every operation and command of Machine/OpsSecurity.lean.
-/
namespace Sys2Proof.Machine

theorem frame_releaseFrames {P : List Part} {s0 : State} {s : State} (hp : within [.twin, .out] P = true) (h : Frame P s0 s) : Frame P s0 (releaseFrames s) := by
  unfold releaseFrames
  extract_lets +onlyGivenNames x0
  clear_value x0
  extract_lets +onlyGivenNames x1
  have h1 : Frame P s0 (x1) := by
    unfold x1
    with_reducible apply frame_onlyIf
    · intro x2 h3
      with_reducible apply frame_emit (within_trans (by decide) hp)
      with_reducible apply frame_emit (within_trans (by decide) hp)
      with_reducible assumption
    · with_reducible assumption
  clear_value x1
  refine frame_onTwin [.twin] (within_trans (by decide) hp) (.inr fun _ => rfl) (.inl rfl) ?_
  with_reducible assumption

theorem frame_abortAll {P : List Part} {s0 : State} {s : State} (hp : within [.pkg, .txn, .ledger, .dir, .recp, .core, .mirror, .leaves, .power, .sec, .ctrs] P = true) (h : Frame P s0 s) : Frame P s0 (abortAll s) := by
  unfold abortAll
  extract_lets +onlyGivenNames x0
  have h0 : Frame P s0 (x0) := by
    unfold x0
    with_reducible apply frame_forAll
    · intro x1 x2 h3
      extract_lets +onlyGivenNames x4
      clear_value x4
      extract_lets +onlyGivenNames x5
      have h5 : Frame P s0 (x5) := by
        unfold x5
        with_reducible apply frame_bump (within_trans (by decide) hp)
        with_reducible apply frame_dropRecipe (within_trans (by decide) hp)
        with_reducible assumption
      clear_value x5
      with_reducible apply frame_finish (within_trans (by decide) hp)
      with_reducible assumption
    · with_reducible assumption
  clear_value x0
  with_reducible apply frame_forAll
  · intro x6 x7 h8
    with_reducible apply frame_finishStatus (within_trans (by decide) hp)
    with_reducible assumption
  · with_reducible assumption

theorem frame_stopDataPath {P : List Part} {s0 : State} {s : State} (hp : within [.pkg, .link, .txn, .ledger, .twin, .mirror, .traffic, .leaves, .out] P = true) (h : Frame P s0 s) : Frame P s0 (stopDataPath s) := by
  unfold stopDataPath
  with_reducible apply frame_disableAll (within_trans (by decide) hp)
  with_reducible apply frame_onPkg (within_trans (by decide) hp)
  with_reducible apply frame_releaseFrames (within_trans (by decide) hp)
  with_reducible assumption

theorem frame_endSessions {P : List Part} {s0 : State} {c : Session → Bool} {s : State} (hp : within [.sessions, .kodp] P = true) (h : Frame P s0 s) : Frame P s0 (endSessions c s) := by
  unfold endSessions
  extract_lets +onlyGivenNames x0
  clear_value x0
  extract_lets +onlyGivenNames x1
  have h1 : Frame P s0 (x1) := by
    unfold x1
    refine frame_onSec [.sessions] (within_trans (by decide) hp) (.inl rfl) (.inr fun _ => rfl) ?_
    with_reducible assumption
  clear_value x1
  refine frame_onKodp [.kodp] (within_trans (by decide) hp) (.inr fun _ => rfl) (.inr fun _ => rfl) (.inl rfl) ?_
  with_reducible assumption

theorem frame_endTenant {P : List Part} {s0 : State} {tenant : Nat} {s : State} (hp : within [.sessions, .kodp] P = true) (h : Frame P s0 s) : Frame P s0 (endTenant tenant s) := by
  unfold endTenant
  with_reducible apply frame_endSessions (within_trans (by decide) hp)
  with_reducible assumption

theorem frame_block6Changed {P : List Part} {s0 : State} {s : State} (hp : within [.sessions, .kodp] P = true) (h : Frame P s0 s) : Frame P s0 (block6Changed s) := by
  unfold block6Changed
  with_reducible apply frame_endSessions (within_trans (by decide) hp)
  with_reducible assumption

theorem frame_flushPantry {P : List Part} {s0 : State} {c : LineMeta → Bool} {s : State} (hp : within [.pkg, .mem, .dram, .power, .rings, .ctrs, .free] P = true) (h : Frame P s0 s) : Frame P s0 (flushPantry c s) := by
  unfold flushPantry
  with_reducible apply frame_forAll
  · intro x0 x1 h2
    extract_lets +onlyGivenNames x3
    have h3 : Frame P s0 (x3) := by
      unfold x3
      with_reducible apply frame_onlyIf
      · intro x4 h5
        with_reducible apply frame_dramPush (within_trans (by decide) hp)
        with_reducible assumption
      · with_reducible assumption
    clear_value x3
    with_reducible apply frame_setMeta (within_trans (by decide) hp)
    with_reducible assumption
  · with_reducible assumption

theorem frame_destroyMemKey {P : List Part} {s0 : State} {tenant : Nat} {keyId : Nat} {s : State} (hp : within [.pkg, .mem, .dram, .power, .sec, .rings, .ctrs, .free] P = true) (h : Frame P s0 s) : Frame P s0 (destroyMemKey tenant keyId s) := by
  unfold destroyMemKey
  extract_lets +onlyGivenNames x0
  have h0 : Frame P s0 (x0) := by
    unfold x0
    with_reducible apply frame_flushPantry (within_trans (by decide) hp)
    with_reducible assumption
  clear_value x0
  refine frame_onSec [.sec] (within_trans (by decide) hp) (.inr fun _ => rfl) (.inl rfl) ?_
  with_reducible assumption

theorem frame_setTenant {P : List Part} {s0 : State} {tenant : Nat} {f : Tenant → Tenant} {s : State} (hp : within [.sec] P = true) (h : Frame P s0 s) : Frame P s0 (setTenant tenant f s) := by
  unfold setTenant
  refine frame_onSec [.sec] (within_trans (by decide) hp) (.inr fun _ => rfl) (.inl rfl) ?_
  with_reducible assumption

theorem frame_setJob {P : List Part} {s0 : State} {job : Nat} {f : LinkJob → LinkJob} {s : State} (hp : within [.sec] P = true) (h : Frame P s0 s) : Frame P s0 (setJob job f s) := by
  unfold setJob
  refine frame_onSec [.sec] (within_trans (by decide) hp) (.inr fun _ => rfl) (.inl rfl) ?_
  with_reducible assumption

theorem frame_dropJob {P : List Part} {s0 : State} {job : Nat} {s : State} (hp : within [.sec] P = true) (h : Frame P s0 s) : Frame P s0 (dropJob job s) := by
  unfold dropJob
  extract_lets +onlyGivenNames x0
  clear_value x0
  refine frame_onSec [.sec] (within_trans (by decide) hp) (.inr fun _ => rfl) (.inl rfl) ?_
  with_reducible assumption

theorem frame_zeroiseKeys {P : List Part} {s0 : State} {s : State} (hp : within [.sec] P = true) (h : Frame P s0 s) : Frame P s0 (zeroiseKeys s) := by
  unfold zeroiseKeys
  refine frame_onSec [.sec] (within_trans (by decide) hp) (.inr fun _ => rfl) (.inl rfl) ?_
  with_reducible assumption

theorem frame_retireTenant {P : List Part} {s0 : State} {tenant : Nat} {s : State} (hp : within [.pkg, .mem, .dram, .power, .sec, .sessions, .rings, .kodp, .ctrs, .free] P = true) (h : Frame P s0 s) : Frame P s0 (retireTenant tenant s) := by
  unfold retireTenant
  extract_lets +onlyGivenNames x0
  have h0 : Frame P s0 (x0) := by
    unfold x0
    with_reducible apply frame_endTenant (within_trans (by decide) hp)
    with_reducible assumption
  clear_value x0
  extract_lets +onlyGivenNames x1
  have h1 : Frame P s0 (x1) := by
    unfold x1
    with_reducible apply frame_flushPantry (within_trans (by decide) hp)
    with_reducible assumption
  clear_value x1
  extract_lets +onlyGivenNames x2
  have h2 : Frame P s0 (x2) := by
    unfold x2
    with_reducible apply frame_forAll
    · intro x3 x4 h5
      with_reducible apply frame_dropJob (within_trans (by decide) hp)
      with_reducible assumption
    · with_reducible assumption
  clear_value x2
  refine frame_onSec [.sessions, .sec] (within_trans (by decide) hp) (.inl rfl) (.inl rfl) ?_
  with_reducible assumption

theorem frame_endDebugHold {P : List Part} {s0 : State} {s : State} (hp : within [.pkg, .boot] P = true) (h : Frame P s0 s) : Frame P s0 (endDebugHold s) := by
  unfold endDebugHold
  with_reducible apply frame_ite
  · refine frame_onBoot [.boot] (within_trans (by decide) hp) (.inr fun _ => rfl) (.inr fun _ => rfl) (.inl rfl) ?_
    with_reducible apply frame_onPkg (within_trans (by decide) hp)
    with_reducible assumption
  · with_reducible assumption

theorem frame_eraseForDebug {P : List Part} {s0 : State} {s : State} (hp : within [.pkg, .link, .txn, .ledger, .dir, .mem, .recp, .core, .twin, .mirror, .traffic, .leaves, .power, .sec, .sessions, .rings, .kodp, .ctrs, .out] P = true) (h : Frame P s0 s) : Frame P s0 (eraseForDebug s) := by
  unfold eraseForDebug
  extract_lets +onlyGivenNames x0
  have h0 : Frame P s0 (x0) := by
    unfold x0
    refine frame_onSec [.sessions, .sec] (within_trans (by decide) hp) (.inl rfl) (.inl rfl) ?_
    with_reducible apply frame_abortAll (within_trans (by decide) hp)
    with_reducible apply frame_releaseFrames (within_trans (by decide) hp)
    with_reducible assumption
  clear_value x0
  extract_lets +onlyGivenNames x1
  have h1 : Frame P s0 (x1) := by
    unfold x1
    with_reducible apply frame_disableAll (within_trans (by decide) hp)
    with_reducible apply frame_onPkg (within_trans (by decide) hp)
    with_reducible assumption
  clear_value x1
  extract_lets +onlyGivenNames x2
  have h2 : Frame P s0 (x2) := by
    unfold x2
    refine frame_onMem (within_trans (by decide) hp) (fun _ w => w) ?_
    with_reducible assumption
  clear_value x2
  extract_lets +onlyGivenNames x3
  have h3 : Frame P s0 (x3) := by
    unfold x3
    with_reducible apply frame_forAll
    · intro x4 x5 h6
      with_reducible apply frame_ite
      · with_reducible apply frame_clearCore (within_trans (by decide) hp)
        with_reducible assumption
      · with_reducible assumption
    · with_reducible assumption
  clear_value x3
  extract_lets +onlyGivenNames x7
  have h7 : Frame P s0 (x7) := by
    unfold x7
    with_reducible apply frame_endSessions (within_trans (by decide) hp)
    with_reducible apply frame_zeroiseKeys (within_trans (by decide) hp)
    with_reducible assumption
  clear_value x7
  with_reducible apply frame_notify (within_trans (by decide) hp)
  with_reducible assumption

theorem frame_debugPhase {P : List Part} {s0 : State} {on : Bool} {s : State} (hp : within [.pkg] P = true) (h : Frame P s0 s) : Frame P s0 (debugPhase on s) := by
  unfold debugPhase
  with_reducible apply frame_onPkg (within_trans (by decide) hp)
  with_reducible assumption

theorem frame_takeToken {P : List Part} {s0 : State} {t : Token} {s : State} (hp : within [.pkg, .link, .txn, .ledger, .dir, .mem, .recp, .core, .twin, .mirror, .traffic, .leaves, .power, .sec, .sessions, .rings, .kodp, .ctrs, .out] P = true) (h : Frame P s0 s) : Frame P s0 (takeToken t s) := by
  unfold takeToken
  extract_lets +onlyGivenNames x0
  have h0 : Frame P s0 (x0) := by
    unfold x0
    with_reducible apply frame_onlyIf
    · intro x1 h2
      with_reducible apply frame_eraseForDebug (within_trans (by decide) hp)
      with_reducible assumption
    · with_reducible assumption
  clear_value x0
  with_reducible apply frame_onlyIf
  · intro x3 h4
    with_reducible apply frame_debugPhase (within_trans (by decide) hp)
    with_reducible assumption
  · with_reducible apply frame_block6Changed (within_trans (by decide) hp)
    refine frame_onSec [.sessions, .sec] (within_trans (by decide) hp) (.inl rfl) (.inl rfl) ?_
    with_reducible assumption

theorem frame_endToken {P : List Part} {s0 : State} {s : State} (hp : within [.pkg, .sec, .sessions, .obs, .kodp] P = true) (h : Frame P s0 s) : Frame P s0 (endToken s) := by
  unfold endToken
  with_reducible apply frame_ite
  · with_reducible assumption
  · extract_lets +onlyGivenNames x0
    have h0 : Frame P s0 (x0) := by
      unfold x0
      with_reducible apply frame_debugPhase (within_trans (by decide) hp)
      with_reducible apply frame_block6Changed (within_trans (by decide) hp)
      refine frame_onSec [.sessions, .sec] (within_trans (by decide) hp) (.inl rfl) (.inl rfl) ?_
      with_reducible assumption
    clear_value x0
    with_reducible apply frame_ite
    · refine frame_onObs [.obs] (within_trans (by decide) hp) (.inr fun _ => rfl) (.inr fun _ => rfl) (.inl rfl) ?_
      with_reducible assumption
    · with_reducible apply frame_ite
      · refine frame_onObs [.obs] (within_trans (by decide) hp) (.inr fun _ => rfl) (.inr fun _ => rfl) (.inl rfl) ?_
        with_reducible assumption
      · with_reducible assumption

end Sys2Proof.Machine
end

