-- ==== Sys2Proof/Laws/FrameOpsPins.lean ====
section
/-!
SUPPORT. Laws/FrameOpsPins.lean: the frame of every operation and command of Machine/OpsPins.lean.
-/
namespace Sys2Proof.Machine

theorem frame_holdPins {P : List Part} {s0 : State} {s : State} (hp : within [.pkg] P = true) (h : Frame P s0 s) : Frame P s0 (holdPins s) := by
  unfold holdPins
  with_reducible apply frame_onPkg (within_trans (by decide) hp)
  with_reducible assumption

end Sys2Proof.Machine
end

