-- ==== Sys2Proof/Laws/FrameOpsFirmware.lean ====
section
/-!
SUPPORT. Laws/FrameOpsFirmware.lean: the frame of every operation and command of Machine/OpsFirmware.lean.
-/
namespace Sys2Proof.Machine

theorem frame_setBank {P : List Part} {s0 : State} {b : Bool} {f : Bank → Bank} {s : State} (hp : within [.fw] P = true) (h : Frame P s0 s) : Frame P s0 (setBank b f s) := by
  unfold setBank
  with_reducible apply frame_onFw (within_trans (by decide) hp)
  with_reducible assumption

theorem frame_bankTo {P : List Part} {s0 : State} {b : Bool} {st : BankSt} {s : State} (hp : within [.fw] P = true) (h : Frame P s0 s) : Frame P s0 (bankTo b st s) := by
  unfold bankTo
  with_reducible apply frame_setBank (within_trans (by decide) hp)
  with_reducible assumption

theorem frame_bootAlias {P : List Part} {s0 : State} {s : State} (hp : within [.sec] P = true) (h : Frame P s0 s) : Frame P s0 (bootAlias s) := by
  unfold bootAlias
  refine frame_onSec [.sec] (within_trans (by decide) hp) (.inr fun _ => rfl) (.inl rfl) ?_
  with_reducible assumption

theorem frame_bootFrom {P : List Part} {s0 : State} {a0 : List Bool} {s : State} (hp : within [.fw] P = true) (h : Frame P s0 s) : FrameP P s0 (bootFrom a0 s) := by
  induction a0 generalizing s with
  | nil =>
    rw [bootFrom]
    with_reducible apply frame_mk
    with_reducible assumption
  | cons b0 a0 ih =>
    rw [bootFrom]
    with_reducible apply frame_ite1
    · with_reducible apply ih
      with_reducible assumption
    · with_reducible apply frame_ite1
      · with_reducible apply frame_mk
        with_reducible assumption
      · with_reducible apply ih
        with_reducible apply frame_bankTo (within_trans (by decide) hp)
        with_reducible assumption

theorem frame_bootRom {P : List Part} {s0 : State} {s : State} (hp : within [.sec, .fw] P = true) (h : Frame P s0 s) : Frame P s0 (bootRom s) := by
  unfold bootRom
  extract_lets +onlyGivenNames x0
  clear_value x0
  extract_lets +onlyGivenNames x1
  have h1 : ∀ y0, ∀ y1, Frame P s0 y1 → Frame P s0 (x1 y0 y1) := by
    intro x2 x3 h4
    unfold x1
    with_reducible apply frame_ite
    · with_reducible apply frame_bankTo (within_trans (by decide) hp)
      with_reducible assumption
    · with_reducible assumption
  clear_value x1
  extract_lets +onlyGivenNames x5
  have h5 : Frame P s0 (x5) := by
    unfold x5
    with_reducible apply h1
    with_reducible apply h1
    with_reducible assumption
  clear_value x5
  extract_lets +onlyGivenNames x6
  have h6 : Frame P s0 (x6) := by
    unfold x6
    with_reducible apply frame_onlyIf
    · intro x7 h8
      with_reducible apply frame_onFw (within_trans (by decide) hp)
      with_reducible assumption
    · with_reducible assumption
  clear_value x6
  extract_lets +onlyGivenNames x9
  clear_value x9
  extract_lets +onlyGivenNames x10
  have h10 : Frame P s0 (x10) := by
    unfold x10
    with_reducible apply frame_onFw (within_trans (by decide) hp)
    with_reducible assumption
  clear_value x10
  split
  · extract_lets +onlyGivenNames x11
    clear_value x11
    with_reducible apply frame_bootAlias (within_trans (by decide) hp)
    with_reducible apply frame_onFw (within_trans (by decide) hp)
    refine frame_of_fst (by with_reducible assumption) ?_
    with_reducible apply frame_bootFrom (within_trans (by decide) hp)
    with_reducible assumption
  · with_reducible apply frame_onFw (within_trans (by decide) hp)
    refine frame_of_fst (by with_reducible assumption) ?_
    with_reducible apply frame_bootFrom (within_trans (by decide) hp)
    with_reducible assumption

theorem frame_startReheat {P : List Part} {s0 : State} {die : Nat} {s : State} (hp : within [.pkg, .ledger, .leaves, .sec, .sessions, .obs, .rings, .kodp, .running, .ctrs, .out] P = true) (h : Frame P s0 s) : Frame P s0 (startReheat die s) := by
  unfold startReheat
  with_reducible apply frame_ite
  · with_reducible assumption
  · extract_lets +onlyGivenNames x0
    have h0 : Frame P s0 (x0) := by
      unfold x0
      refine frame_onObs [.rings, .obs] (within_trans (by decide) hp) (.inr fun _ => rfl) (.inl rfl) (.inl rfl) ?_
      with_reducible assumption
    clear_value x0
    extract_lets +onlyGivenNames x1
    clear_value x1
    extract_lets +onlyGivenNames x2
    have h2 : Frame P s0 (x2) := by
      unfold x2
      with_reducible apply frame_onlyIf
      · intro x3 h4
        with_reducible apply frame_notify (within_trans (by decide) hp)
        with_reducible assumption
      · with_reducible assumption
    clear_value x2
    extract_lets +onlyGivenNames x5
    have h5 : Frame P s0 (x5) := by
      unfold x5
      with_reducible apply frame_onlyIf
      · intro x6 h7
        with_reducible apply frame_holdPins (within_trans (by decide) hp)
        with_reducible assumption
      · with_reducible assumption
    clear_value x5
    extract_lets +onlyGivenNames x8
    have h8 : Frame P s0 (x8) := by
      unfold x8
      refine frame_onObs [.rings, .obs] (within_trans (by decide) hp) (.inr fun _ => rfl) (.inl rfl) (.inl rfl) ?_
      with_reducible assumption
    clear_value x8
    with_reducible apply frame_ite
    · with_reducible apply frame_endSessions (within_trans (by decide) hp)
      refine frame_onSec [.sessions, .sec] (within_trans (by decide) hp) (.inl rfl) (.inl rfl) ?_
      refine frame_onKodp [.running, .kodp] (within_trans (by decide) hp) (.inl rfl) (.inr fun _ => rfl) (.inl rfl) ?_
      with_reducible assumption
    · with_reducible assumption

theorem frame_rollBack {P : List Part} {s0 : State} {new : Bool} {why : Nat} {s : State} (hp : within [.pkg, .ledger, .leaves, .sec, .sessions, .fw, .obs, .rings, .kodp, .running, .ctrs, .out] P = true) (h : Frame P s0 s) : Frame P s0 (rollBack new why s) := by
  unfold rollBack
  extract_lets +onlyGivenNames x0
  clear_value x0
  extract_lets +onlyGivenNames x1
  have h1 : Frame P s0 (x1) := by
    unfold x1
    with_reducible apply frame_bankTo (within_trans (by decide) hp)
    with_reducible assumption
  clear_value x1
  extract_lets +onlyGivenNames x2
  have h2 : Frame P s0 (x2) := by
    unfold x2
    with_reducible apply frame_onFw (within_trans (by decide) hp)
    with_reducible assumption
  clear_value x2
  with_reducible apply frame_notify (within_trans (by decide) hp)
  with_reducible apply frame_startReheat (within_trans (by decide) hp)
  with_reducible assumption

theorem frame_commitFw {P : List Part} {s0 : State} {s : State} (hp : within [.ledger, .leaves, .sessions, .fw, .rings, .kodp, .ctrs, .out] P = true) (h : Frame P s0 s) : Frame P s0 (commitFw s) := by
  unfold commitFw
  extract_lets +onlyGivenNames x0
  clear_value x0
  extract_lets +onlyGivenNames x1
  have h1 : Frame P s0 (x1) := by
    unfold x1
    with_reducible apply frame_bankTo (within_trans (by decide) hp)
    with_reducible apply frame_bankTo (within_trans (by decide) hp)
    with_reducible assumption
  clear_value x1
  with_reducible apply frame_notify (within_trans (by decide) hp)
  with_reducible apply frame_onFw (within_trans (by decide) hp)
  with_reducible assumption

end Sys2Proof.Machine
end

