-- ==== Sys2Proof/Laws/FrameOpsReset.lean ====
section
/-!
SUPPORT. Laws/FrameOpsReset.lean: the frame of every operation and command of Machine/OpsReset.lean.
-/
namespace Sys2Proof.Machine

theorem frame_dropWork {P : List Part} {s0 : State} {s : State} (hp : within [.txn, .ledger, .dir, .deep, .recp, .core, .traffic, .leaves] P = true) (h : Frame P s0 s) : Frame P s0 (dropWork s) := by
  unfold dropWork
  refine frame_same (s := s) ?_ rfl rfl rfl rfl (rest_of hp (by intro q hq; cases q <;> first | rfl | cases hq))
  with_reducible assumption

theorem frame_stopPackage {P : List Part} {s0 : State} {cause : StopCause} {aux : Bool} {s : State} (hp : within [.pkg, .link, .txn, .ledger, .dir, .mem, .deep, .recp, .core, .twin, .mirror, .traffic, .leaves, .sec, .out] P = true) (h : Frame P s0 s) : Frame P s0 (stopPackage cause aux s) := by
  unfold stopPackage
  with_reducible apply frame_ite
  · with_reducible assumption
  · extract_lets +onlyGivenNames x0
    clear_value x0
    extract_lets +onlyGivenNames x1
    have h1 : Frame P s0 (x1) := by
      unfold x1
      with_reducible apply frame_disableAll (within_trans (by decide) hp)
      with_reducible apply frame_onlyIf
      · intro x2 h3
        with_reducible apply frame_releaseFrames (within_trans (by decide) hp)
        with_reducible assumption
      · with_reducible assumption
    clear_value x1
    extract_lets +onlyGivenNames x4
    have h4 : Frame P s0 (x4) := by
      unfold x4
      with_reducible apply frame_dropWork (within_trans (by decide) hp)
      with_reducible apply frame_zeroiseKeys (within_trans (by decide) hp)
      with_reducible assumption
    clear_value x4
    extract_lets +onlyGivenNames x5
    have h5 : Frame P s0 (x5) := by
      unfold x5
      refine frame_onTwin [.mirror, .twin] (within_trans (by decide) hp) (.inl rfl) (.inl rfl) ?_
      with_reducible assumption
    clear_value x5
    extract_lets +onlyGivenNames x6
    have h6 : Frame P s0 (x6) := by
      unfold x6
      with_reducible apply frame_onLink (within_trans (by decide) hp)
      with_reducible assumption
    clear_value x6
    with_reducible apply frame_onPkg (within_trans (by decide) hp)
    refine frame_onMem (within_trans (by decide) hp) (fun _ _ => rfl) ?_
    with_reducible assumption

theorem frame_coldReset {P : List Part} {s0 : State} {s : State} (hp : within [.pkg, .link, .txn, .ledger, .part, .dir, .mem, .dram, .deep, .integ, .recp, .core, .twin, .mirror, .traffic, .leaves, .power, .sec, .sessions, .boot, .units, .partials, .fw, .obs, .time, .rings, .kodp, .running, .dict, .ctrs, .out] P = true) (h : Frame P s0 s) : Frame P s0 (coldReset s) := by
  unfold coldReset
  extract_lets x0 x1
  have h0 : Frame P s0 x0 := by
    unfold x0
    with_reducible apply frame_releaseFrames (within_trans (by decide) hp)
    with_reducible assumption
  exact h0.trans ⟨rfl, List.suffix_rfl, Nat.le_refl _, fun _ => rfl, rest_of hp (by intro q hq; cases q <;> first | rfl | cases hq)⟩


theorem frame_walkDirectory {P : List Part} {s0 : State} {s : State} (hp : within [.pkg, .ledger, .dir, .mem, .dram, .deep, .integ, .mirror, .leaves, .power, .sessions, .obs, .rings, .kodp, .ctrs, .out, .free] P = true) (h : Frame P s0 s) : Frame P s0 (walkDirectory s) := by
  unfold walkDirectory
  extract_lets +onlyGivenNames x0
  have h0 : Frame P s0 (x0) := by
    unfold x0
    with_reducible apply frame_forAll
    · intro x1 x2 h3
      with_reducible apply frame_poisonLine (within_trans (by decide) hp)
      with_reducible assumption
    · with_reducible assumption
  clear_value x0
  refine frame_same (s := x0) ?_ rfl rfl rfl rfl (rest_of hp (by intro q hq; cases q <;> first | rfl | cases hq))
  with_reducible assumption

theorem frame_settleFrames {P : List Part} {s0 : State} {s : State} (hp : within [.pkg, .mem, .dram, .mirror, .leaves, .power, .rings, .ctrs, .free] P = true) (h : Frame P s0 s) : Frame P s0 (settleFrames s) := by
  unfold settleFrames
  extract_lets +onlyGivenNames x0
  have h0 : Frame P s0 (x0) := by
    unfold x0
    with_reducible apply frame_forAll
    · intro x1 x2 h3
      extract_lets +onlyGivenNames x4
      clear_value x4
      with_reducible apply frame_ite
      · with_reducible apply frame_setTag (within_trans (by decide) hp)
        with_reducible assumption
      · with_reducible apply frame_ite
        · with_reducible apply frame_setTag (within_trans (by decide) hp)
          with_reducible assumption
        · with_reducible assumption
    · with_reducible assumption
  clear_value x0
  refine frame_onMem (within_trans (by decide) hp) (fun _ w => w) ?_
  with_reducible assumption

theorem frame_islandsReset {P : List Part} {s0 : State} {s : State} (hp : within [.pkg, .link, .txn, .ledger, .part, .dir, .dram, .deep, .integ, .recp, .core, .twin, .mirror, .traffic, .leaves, .power, .sec, .sessions, .boot, .units, .partials, .fw, .obs, .time, .rings, .kodp, .running, .dict, .ctrs] P = true) (h : Frame P s0 s) : Frame P s0 (islandsReset s) := by
  unfold islandsReset
  extract_lets +onlyGivenNames x0
  clear_value x0
  extract_lets +onlyGivenNames x1
  clear_value x1
  refine frame_same (s := s) ?_ rfl rfl rfl rfl (rest_of hp (by intro q hq; cases q <;> first | rfl | cases hq))
  with_reducible assumption

theorem frame_warmReset {P : List Part} {s0 : State} {why : Nat} {s : State} (hp : within Part.every P = true) (h : Frame P s0 s) : Frame P s0 (warmReset why s) := by
  unfold warmReset
  extract_lets +onlyGivenNames x0
  have h0 : Frame P s0 (x0) := by
    unfold x0
    with_reducible apply frame_abortDumps (within_trans (by decide) hp)
    with_reducible apply frame_disableAll (within_trans (by decide) hp)
    with_reducible apply frame_releaseFrames (within_trans (by decide) hp)
    with_reducible assumption
  clear_value x0
  extract_lets +onlyGivenNames x1
  have h1 : Frame P s0 (x1) := by
    unfold x1
    refine frame_onTxn [.ledger, .txn] (within_trans (by decide) hp) (.inl rfl) (.inl rfl) ?_
    with_reducible assumption
  clear_value x1
  extract_lets +onlyGivenNames x2
  have h2 : Frame P s0 (x2) := by
    unfold x2
    with_reducible apply frame_islandsReset (within_trans (by decide) hp)
    with_reducible apply frame_settleFrames (within_trans (by decide) hp)
    with_reducible apply frame_walkDirectory (within_trans (by decide) hp)
    with_reducible assumption
  clear_value x2
  with_reducible apply frame_bootRom (within_trans (by decide) hp)
  refine frame_onBoot [.units, .partials, .boot] (within_trans (by decide) hp) (.inl rfl) (.inl rfl) (.inl rfl) ?_
  with_reducible assumption

theorem frame_logStep {P : List Part} {s0 : State} {step : Nat} {sub : Nat} {result : Nat} {s : State} (hp : within [.boot] P = true) (h : Frame P s0 s) : Frame P s0 (logStep step sub result s) := by
  unfold logStep
  refine frame_onBoot [.boot] (within_trans (by decide) hp) (.inr fun _ => rfl) (.inr fun _ => rfl) (.inl rfl) ?_
  with_reducible assumption

theorem frame_stopBringup {P : List Part} {s0 : State} {s : State} (hp : within [.pkg, .link, .txn, .ledger, .mirror, .traffic, .leaves, .sessions, .boot, .rings, .kodp, .ctrs, .out, .free] P = true) (h : Frame P s0 s) : Frame P s0 (stopBringup s) := by
  unfold stopBringup
  extract_lets +onlyGivenNames x0
  have h0 : Frame P s0 (x0) := by
    unfold x0
    with_reducible apply frame_logStep (within_trans (by decide) hp)
    with_reducible assumption
  clear_value x0
  extract_lets +onlyGivenNames x1
  have h1 : Frame P s0 (x1) := by
    unfold x1
    with_reducible apply frame_disableAll (within_trans (by decide) hp)
    refine frame_onBoot [.boot] (within_trans (by decide) hp) (.inr fun _ => rfl) (.inr fun _ => rfl) (.inl rfl) ?_
    with_reducible apply frame_onPkg (within_trans (by decide) hp)
    with_reducible assumption
  clear_value x1
  with_reducible apply frame_useFree (within_trans (by decide) hp)
  with_reducible apply frame_useFree (within_trans (by decide) hp)
  with_reducible apply frame_notify (within_trans (by decide) hp)
  with_reducible assumption

theorem frame_noteFailure {P : List Part} {s0 : State} {n : Nat} {s : State} (hp : within [.ledger, .integ, .leaves, .sessions, .rings, .kodp, .ctrs, .out] P = true) (h : Frame P s0 s) : Frame P s0 (noteFailure n s) := by
  unfold noteFailure
  extract_lets +onlyGivenNames x0
  clear_value x0
  extract_lets +onlyGivenNames x1
  clear_value x1
  extract_lets +onlyGivenNames x2
  clear_value x2
  extract_lets +onlyGivenNames x3
  have h3 : Frame P s0 (x3) := by
    unfold x3
    with_reducible apply frame_onInteg (within_trans (by decide) hp)
    with_reducible assumption
  clear_value x3
  extract_lets +onlyGivenNames x4
  have h4 : Frame P s0 (x4) := by
    unfold x4
    with_reducible apply frame_logError (within_trans (by decide) hp)
    with_reducible assumption
  clear_value x4
  with_reducible apply frame_notify (within_trans (by decide) hp)
  with_reducible assumption

theorem frame_applyFailure {P : List Part} {s0 : State} {n : Nat} {s : State} (hp : within [.ledger, .dram, .leaves, .sessions, .units, .rings, .kodp, .ctrs, .out] P = true) (h : Frame P s0 s) : Frame P s0 (applyFailure n s) := by
  unfold applyFailure
  extract_lets +onlyGivenNames x0
  clear_value x0
  extract_lets +onlyGivenNames x1
  clear_value x1
  with_reducible apply frame_ite
  · with_reducible apply frame_ite
    · with_reducible assumption
    · with_reducible apply frame_notify (within_trans (by decide) hp)
      with_reducible apply frame_crumb (within_trans (by decide) hp)
      with_reducible apply frame_setUnit (within_trans (by decide) hp)
      with_reducible assumption
  · with_reducible apply frame_ite
    · with_reducible apply frame_failChannel (within_trans (by decide) hp)
      with_reducible assumption
    · with_reducible assumption

theorem frame_trainAll {P : List Part} {s0 : State} {source : Nat} {failed : List Nat} {s : State} (hp : within [.dram] P = true) (h : Frame P s0 s) : Frame P s0 (trainAll source failed s) := by
  unfold trainAll
  extract_lets +onlyGivenNames x0
  have h0 : Frame P s0 (x0) := by
    unfold x0
    with_reducible apply frame_forAll
    · intro x1 x2 h3
      with_reducible apply frame_ite
      · with_reducible assumption
      · with_reducible apply frame_ite
        · with_reducible apply frame_setChannel (within_trans (by decide) hp)
          with_reducible assumption
        · with_reducible apply frame_setChannel (within_trans (by decide) hp)
          with_reducible assumption
    · with_reducible assumption
  clear_value x0
  extract_lets +onlyGivenNames x4
  clear_value x4
  with_reducible apply frame_onDram (within_trans (by decide) hp)
  with_reducible assumption

theorem frame_coldMemories {P : List Part} {s0 : State} {s : State} (hp : within [.mem, .dram, .deep, .integ, .sec, .boot, .units, .free] P = true) (h : Frame P s0 s) : Frame P s0 (coldMemories s) := by
  unfold coldMemories
  extract_lets +onlyGivenNames x0
  have h0 : Frame P s0 (x0) := by
    unfold x0
    with_reducible apply frame_trainAll (within_trans (by decide) hp)
    with_reducible assumption
  clear_value x0
  extract_lets +onlyGivenNames x1
  have h1 : Frame P s0 (x1) := by
    unfold x1
    with_reducible apply frame_useFree (within_trans (by decide) hp)
    refine frame_onSec [.sec] (within_trans (by decide) hp) (.inr fun _ => rfl) (.inl rfl) ?_
    refine frame_onMem (within_trans (by decide) hp) (fun _ _ => rfl) ?_
    with_reducible assumption
  clear_value x1
  refine frame_onBoot [.units, .boot] (within_trans (by decide) hp) (.inl rfl) (.inr fun _ => rfl) (.inl rfl) ?_
  with_reducible apply frame_onInteg (within_trans (by decide) hp)
  with_reducible apply frame_onDeep (within_trans (by decide) hp)
  with_reducible assumption

theorem frame_reheatMemories {P : List Part} {s0 : State} {failed : List Nat} {s : State} (hp : within [.pkg, .mem, .dram, .deep, .mirror, .leaves, .power, .rings, .ctrs, .free] P = true) (h : Frame P s0 s) : Frame P s0 (reheatMemories failed s) := by
  unfold reheatMemories
  extract_lets +onlyGivenNames x0
  have h0 : Frame P s0 (x0) := by
    unfold x0
    with_reducible apply frame_trainAll (within_trans (by decide) hp)
    with_reducible assumption
  clear_value x0
  extract_lets +onlyGivenNames x1
  have h1 : Frame P s0 (x1) := by
    unfold x1
    with_reducible apply frame_forAll
    · intro x2 x3 h4
      with_reducible apply frame_unlistPoison (within_trans (by decide) hp)
      with_reducible apply frame_setChannel (within_trans (by decide) hp)
      with_reducible assumption
    · with_reducible assumption
  clear_value x1
  with_reducible apply frame_onDeep (within_trans (by decide) hp)
  with_reducible assumption

theorem frame_lightPorts {P : List Part} {s0 : State} {s : State} (hp : within [.link, .txn, .ledger, .deep, .mirror, .traffic, .leaves, .sessions, .rings, .kodp, .ctrs, .out] P = true) (h : Frame P s0 s) : Frame P s0 (lightPorts s) := by
  unfold lightPorts
  with_reducible apply frame_forAll
  · intro x0 x1 h2
    with_reducible apply frame_detectPort (within_trans (by decide) hp)
    with_reducible assumption
  · with_reducible assumption

theorem frame_chooseRoles {P : List Part} {s0 : State} {s : State} (hp : within [.ledger, .leaves, .sessions, .boot, .units, .rings, .kodp, .ctrs, .out] P = true) (h : Frame P s0 s) : Frame P s0 (chooseRoles s) := by
  unfold chooseRoles
  with_reducible apply frame_forAll
  · intro x0 x1 h2
    extract_lets +onlyGivenNames x3
    clear_value x3
    extract_lets +onlyGivenNames x4
    have h4 : Frame P s0 (x4) := by
      unfold x4
      with_reducible apply frame_forAll
      · intro x5 x6 h7
        with_reducible apply frame_setUnit (within_trans (by decide) hp)
        with_reducible assumption
      · with_reducible assumption
    clear_value x4
    with_reducible apply frame_ite
    · with_reducible apply frame_exhaust (within_trans (by decide) hp)
      with_reducible assumption
    · with_reducible assumption
  · with_reducible assumption

theorem frame_becomeReady {P : List Part} {s0 : State} {s : State} (hp : within [.ledger, .twin, .leaves, .sessions, .boot, .fw, .rings, .kodp, .ctrs, .out, .free] P = true) (h : Frame P s0 s) : Frame P s0 (becomeReady s) := by
  unfold becomeReady
  extract_lets +onlyGivenNames x0
  have h0 : Frame P s0 (x0) := by
    unfold x0
    with_reducible apply frame_onFw (within_trans (by decide) hp)
    with_reducible assumption
  clear_value x0
  extract_lets +onlyGivenNames x1
  have h1 : Frame P s0 (x1) := by
    unfold x1
    refine frame_onBoot [.boot] (within_trans (by decide) hp) (.inr fun _ => rfl) (.inr fun _ => rfl) (.inl rfl) ?_
    with_reducible assumption
  clear_value x1
  extract_lets +onlyGivenNames x2
  clear_value x2
  extract_lets +onlyGivenNames x3
  have h3 : Frame P s0 (x3) := by
    unfold x3
    refine frame_onTwin [.twin] (within_trans (by decide) hp) (.inr fun _ => rfl) (.inl rfl) ?_
    with_reducible assumption
  clear_value x3
  with_reducible apply frame_useFree (within_trans (by decide) hp)
  with_reducible apply frame_useFree (within_trans (by decide) hp)
  with_reducible apply frame_notify (within_trans (by decide) hp)
  with_reducible assumption

theorem frame_beginUnit {P : List Part} {s0 : State} {k : UnitKind} {u : Nat} {kind : Nat} {s : State} (hp : within [.dir, .dram, .deep, .units, .rings, .ctrs] P = true) (h : Frame P s0 s) : Frame P s0 (beginUnit k u kind s) := by
  unfold beginUnit
  extract_lets +onlyGivenNames x0
  clear_value x0
  extract_lets +onlyGivenNames x1
  have h1 : Frame P s0 (x1) := by
    unfold x1
    with_reducible apply frame_crumb (within_trans (by decide) hp)
    with_reducible assumption
  clear_value x1
  extract_lets +onlyGivenNames x2
  clear_value x2
  extract_lets +onlyGivenNames x3
  have h3 : Frame P s0 (x3) := by
    unfold x3
    with_reducible apply frame_bump (within_trans (by decide) hp)
    with_reducible assumption
  clear_value x3
  extract_lets +onlyGivenNames x4
  have h4 : Frame P s0 (x4) := by
    unfold x4
    with_reducible apply frame_setUnit (within_trans (by decide) hp)
    with_reducible assumption
  clear_value x4
  with_reducible apply frame_advanceEpoch (within_trans (by decide) hp)
  with_reducible assumption

theorem frame_endUnit {P : List Part} {s0 : State} {k : UnitKind} {u : Nat} {s : State} (hp : within [.units, .rings] P = true) (h : Frame P s0 s) : Frame P s0 (endUnit k u s) := by
  unfold endUnit
  extract_lets +onlyGivenNames x0
  clear_value x0
  with_reducible apply frame_crumb (within_trans (by decide) hp)
  with_reducible apply frame_setUnit (within_trans (by decide) hp)
  with_reducible assumption

theorem frame_restartBringIn {P : List Part} {s0 : State} {c : Nat} {s : State} (hp : within [.ledger, .mirror, .leaves, .power, .sessions, .boot, .rings, .kodp, .running, .ctrs, .out] P = true) (h : Frame P s0 s) : Frame P s0 (restartBringIn c s) := by
  unfold restartBringIn
  split
  · with_reducible assumption
  · split
    · with_reducible apply frame_wakeSpares (within_trans (by decide) hp)
      refine frame_onBoot [.boot] (within_trans (by decide) hp) (.inr fun _ => rfl) (.inr fun _ => rfl) (.inl rfl) ?_
      with_reducible assumption
    · with_reducible apply frame_ite
      · with_reducible assumption
      · with_reducible apply frame_bringSpare (within_trans (by decide) hp)
        refine frame_onBoot [.boot] (within_trans (by decide) hp) (.inr fun _ => rfl) (.inr fun _ => rfl) (.inl rfl) ?_
        with_reducible assumption

theorem frame_beginCoreReset {P : List Part} {s0 : State} {c : Nat} {req : Option Req} {s : State} (hp : within [.ledger, .dir, .dram, .deep, .recp, .core, .mirror, .leaves, .power, .sessions, .boot, .units, .partials, .rings, .kodp, .running, .ctrs, .out] P = true) (h : Frame P s0 s) : Frame P s0 (beginCoreReset c req s) := by
  unfold beginCoreReset
  extract_lets +onlyGivenNames x0
  have h0 : Frame P s0 (x0) := by
    unfold x0
    with_reducible apply frame_vacateCore (within_trans (by decide) hp)
    with_reducible assumption
  clear_value x0
  extract_lets +onlyGivenNames x1
  have h1 : Frame P s0 (x1) := by
    unfold x1
    with_reducible apply frame_clearCore (within_trans (by decide) hp)
    with_reducible apply frame_beginUnit (within_trans (by decide) hp)
    with_reducible assumption
  clear_value x1
  extract_lets +onlyGivenNames x2
  have h2 : Frame P s0 (x2) := by
    unfold x2
    with_reducible apply frame_restartBringIn (within_trans (by decide) hp)
    with_reducible assumption
  clear_value x2
  refine frame_onBoot [.units, .partials, .boot] (within_trans (by decide) hp) (.inl rfl) (.inl rfl) (.inl rfl) ?_
  with_reducible assumption

theorem frame_abortRecipe {P : List Part} {s0 : State} {id : Nat} {s : State} (hp : within [.recp, .core] P = true) (h : Frame P s0 s) : Frame P s0 (abortRecipe id s) := by
  unfold abortRecipe
  with_reducible apply frame_dropTiles (within_trans (by decide) hp)
  with_reducible apply frame_setRecipe (within_trans (by decide) hp)
  with_reducible assumption

theorem frame_absorbCluster {P : List Part} {s0 : State} {k : Nat} {kind : Nat} {s : State} (hp : within [.ledger, .dir, .dram, .deep, .recp, .core, .mirror, .leaves, .power, .sessions, .boot, .units, .partials, .rings, .kodp, .running, .ctrs, .out] P = true) (h : Frame P s0 s) : Frame P s0 (absorbCluster k kind s) := by
  unfold absorbCluster
  extract_lets +onlyGivenNames x0
  clear_value x0
  extract_lets +onlyGivenNames x1
  clear_value x1
  extract_lets +onlyGivenNames x2
  have h2 : Frame P s0 (x2) := by
    unfold x2
    with_reducible apply frame_forAll
    · intro x3 x4 h5
      with_reducible apply frame_abortRecipe (within_trans (by decide) hp)
      with_reducible assumption
    · with_reducible assumption
  clear_value x2
  extract_lets +onlyGivenNames x6
  have h6 : Frame P s0 (x6) := by
    unfold x6
    with_reducible apply frame_onRecp (within_trans (by decide) hp)
    with_reducible assumption
  clear_value x6
  split
  extract_lets +onlyGivenNames x7
  have h7 : Frame P s0 (x7) := by
    unfold x7
    refine frame_onBoot [.units, .partials, .boot] (within_trans (by decide) hp) (.inl rfl) (.inl rfl) (.inl rfl) ?_
    with_reducible assumption
  clear_value x7
  extract_lets +onlyGivenNames x8
  have h8 : Frame P s0 (x8) := by
    unfold x8
    with_reducible apply frame_forAll
    · intro x9 x10 h11
      split
      · with_reducible apply frame_reply (within_trans (by decide) hp)
        with_reducible assumption
      · with_reducible assumption
    · with_reducible assumption
  clear_value x8
  extract_lets +onlyGivenNames x12
  have h12 : Frame P s0 (x12) := by
    unfold x12
    with_reducible apply frame_forAll
    · intro x13 x14 h15
      extract_lets +onlyGivenNames x16
      have h16 : Frame P s0 (x16) := by
        unfold x16
        with_reducible apply frame_setCore (within_trans (by decide) hp)
        with_reducible assumption
      clear_value x16
      with_reducible apply frame_restartBringIn (within_trans (by decide) hp)
      with_reducible apply frame_clearCore (within_trans (by decide) hp)
      with_reducible apply frame_advanceEpoch (within_trans (by decide) hp)
      with_reducible apply frame_bump (within_trans (by decide) hp)
      with_reducible apply frame_endUnit (within_trans (by decide) hp)
      with_reducible assumption
    · with_reducible assumption
  clear_value x12
  with_reducible apply frame_beginUnit (within_trans (by decide) hp)
  with_reducible assumption

theorem frame_beginClusterReset {P : List Part} {s0 : State} {k : Nat} {req : Option Req} {s : State} (hp : within [.ledger, .dir, .dram, .deep, .recp, .core, .mirror, .leaves, .power, .sessions, .boot, .units, .partials, .rings, .kodp, .running, .ctrs, .out] P = true) (h : Frame P s0 s) : Frame P s0 (beginClusterReset k req s) := by
  unfold beginClusterReset
  extract_lets +onlyGivenNames x0
  have h0 : Frame P s0 (x0) := by
    unfold x0
    with_reducible apply frame_absorbCluster (within_trans (by decide) hp)
    with_reducible assumption
  clear_value x0
  refine frame_onBoot [.units, .partials, .boot] (within_trans (by decide) hp) (.inl rfl) (.inl rfl) (.inl rfl) ?_
  with_reducible assumption

theorem frame_beginPartition {P : List Part} {s0 : State} {p : Nat} {clusters : Nat} {channels : Nat} {req : Option Req} {s : State} (hp : within [.pkg, .txn, .ledger, .dir, .mem, .dram, .deep, .integ, .recp, .core, .mirror, .leaves, .power, .sec, .sessions, .boot, .units, .partials, .rings, .kodp, .running, .ctrs, .out, .free] P = true) (h : Frame P s0 s) : Frame P s0 (beginPartition p clusters channels req s) := by
  unfold beginPartition
  extract_lets +onlyGivenNames x0
  have h0 : Frame P s0 (x0) := by
    unfold x0
    with_reducible apply frame_forAll
    · intro x1 x2 h3
      extract_lets +onlyGivenNames x4
      have h4 : Frame P s0 (x4) := by
        unfold x4
        split
        · split
          · with_reducible apply frame_reply (within_trans (by decide) hp)
            with_reducible assumption
          · with_reducible assumption
        · with_reducible assumption
      clear_value x4
      refine frame_onBoot [.units, .partials, .boot] (within_trans (by decide) hp) (.inl rfl) (.inl rfl) (.inl rfl) ?_
      with_reducible apply frame_absorbCluster (within_trans (by decide) hp)
      with_reducible assumption
    · with_reducible assumption
  clear_value x0
  extract_lets +onlyGivenNames x5
  have h5 : Frame P s0 (x5) := by
    unfold x5
    with_reducible apply frame_forAll
    · intro x6 x7 h8
      extract_lets +onlyGivenNames x9
      clear_value x9
      extract_lets +onlyGivenNames x10
      have h10 : Frame P s0 (x10) := by
        unfold x10
        with_reducible apply frame_beginUnit (within_trans (by decide) hp)
        with_reducible assumption
      clear_value x10
      extract_lets +onlyGivenNames x11
      have h11 : Frame P s0 (x11) := by
        unfold x11
        with_reducible apply frame_setChannel (within_trans (by decide) hp)
        with_reducible assumption
      clear_value x11
      with_reducible apply frame_forAll
      · intro x12 x13 h14
        split
        · with_reducible apply frame_settleAged (within_trans (by decide) hp)
          with_reducible apply frame_finishStatus (within_trans (by decide) hp)
          with_reducible assumption
        · with_reducible assumption
      · with_reducible assumption
    · with_reducible assumption
  clear_value x5
  extract_lets +onlyGivenNames x15
  clear_value x15
  extract_lets +onlyGivenNames x16
  have h16 : Frame P s0 (x16) := by
    unfold x16
    with_reducible apply frame_forAll
    · intro x17 x18 h19
      with_reducible apply frame_failFill (within_trans (by decide) hp)
      with_reducible assumption
    · with_reducible assumption
  clear_value x16
  extract_lets +onlyGivenNames x20
  have h20 : Frame P s0 (x20) := by
    unfold x20
    with_reducible apply frame_onDeep (within_trans (by decide) hp)
    with_reducible assumption
  clear_value x20
  refine frame_onBoot [.units, .partials, .boot] (within_trans (by decide) hp) (.inl rfl) (.inl rfl) (.inl rfl) ?_
  with_reducible assumption

theorem frame_endPartition {P : List Part} {s0 : State} {clusters : Nat} {channels : Nat} {s : State} (hp : within [.pkg, .mem, .dram, .mirror, .leaves, .power, .units, .rings, .ctrs, .free] P = true) (h : Frame P s0 s) : Frame P s0 (endPartition clusters channels s) := by
  unfold endPartition
  extract_lets +onlyGivenNames x0
  have h0 : Frame P s0 (x0) := by
    unfold x0
    with_reducible apply frame_forAll
    · intro x1 x2 h3
      with_reducible apply frame_endUnit (within_trans (by decide) hp)
      with_reducible assumption
    · with_reducible assumption
  clear_value x0
  with_reducible apply frame_forAll
  · intro x4 x5 h6
    extract_lets +onlyGivenNames x7
    have h7 : Frame P s0 (x7) := by
      unfold x7
      with_reducible apply frame_endUnit (within_trans (by decide) hp)
      with_reducible assumption
    clear_value x7
    with_reducible apply frame_ite
    · with_reducible apply frame_channelServes (within_trans (by decide) hp)
      with_reducible assumption
    · with_reducible assumption
  · with_reducible assumption

theorem frame_startBankRepair {P : List Part} {s0 : State} {key : Nat} {req : Option Req} {s : State} (hp : within [.ledger, .leaves, .sessions, .boot, .rings, .kodp, .ctrs, .out] P = true) (h : Frame P s0 s) : Frame P s0 (startBankRepair key req s) := by
  unfold startBankRepair
  extract_lets +onlyGivenNames x0
  clear_value x0
  extract_lets +onlyGivenNames x1
  clear_value x1
  with_reducible apply frame_ite
  · with_reducible assumption
  · extract_lets +onlyGivenNames x2
    have h2 : Frame P s0 (x2) := by
      unfold x2
      refine frame_onBoot [.boot] (within_trans (by decide) hp) (.inr fun _ => rfl) (.inr fun _ => rfl) (.inl rfl) ?_
      with_reducible assumption
    clear_value x2
    with_reducible apply frame_ite
    · with_reducible apply frame_exhaust (within_trans (by decide) hp)
      with_reducible assumption
    · with_reducible assumption

theorem frame_copyChecked {P : List Part} {s0 : State} {lines : List Nat} {s : State} (hp : within [.pkg, .ledger, .mem, .dram, .deep, .integ, .mirror, .leaves, .power, .sessions, .obs, .rings, .kodp, .ctrs, .out, .free] P = true) (h : Frame P s0 s) : Frame P s0 (copyChecked lines s) := by
  unfold copyChecked
  extract_lets +onlyGivenNames x0
  clear_value x0
  with_reducible apply frame_forAll
  · intro x1 x2 h3
    with_reducible apply frame_ite
    · extract_lets +onlyGivenNames x4
      clear_value x4
      with_reducible apply frame_poisonLine (within_trans (by decide) hp)
      with_reducible apply frame_logError (within_trans (by decide) hp)
      with_reducible apply frame_crumb (within_trans (by decide) hp)
      with_reducible apply frame_bump (within_trans (by decide) hp)
      with_reducible assumption
    · with_reducible assumption
  · with_reducible apply frame_useFree (within_trans (by decide) hp)
    with_reducible assumption

theorem frame_repairRow {P : List Part} {s0 : State} {key : Nat} {row : Nat} {s : State} (hp : within [.pkg, .ledger, .mem, .dram, .deep, .integ, .mirror, .leaves, .power, .sessions, .boot, .obs, .rings, .kodp, .ctrs, .out, .free] P = true) (h : Frame P s0 s) : Frame P s0 (repairRow key row s) := by
  unfold repairRow
  extract_lets +onlyGivenNames x0
  have h0 : Frame P s0 (x0) := by
    unfold x0
    with_reducible apply frame_onInteg (within_trans (by decide) hp)
    with_reducible assumption
  clear_value x0
  extract_lets +onlyGivenNames x1
  clear_value x1
  with_reducible apply frame_ite
  · with_reducible apply frame_startBankRepair (within_trans (by decide) hp)
    with_reducible assumption
  · extract_lets +onlyGivenNames x2
    have h2 : Frame P s0 (x2) := by
      unfold x2
      with_reducible apply frame_copyChecked (within_trans (by decide) hp)
      with_reducible assumption
    clear_value x2
    extract_lets +onlyGivenNames x3
    have h3 : Frame P s0 (x3) := by
      unfold x3
      with_reducible apply frame_crumb (within_trans (by decide) hp)
      refine frame_onBoot [.boot] (within_trans (by decide) hp) (.inr fun _ => rfl) (.inr fun _ => rfl) (.inl rfl) ?_
      with_reducible assumption
    clear_value x3
    with_reducible apply frame_ite
    · with_reducible apply frame_exhaust (within_trans (by decide) hp)
      with_reducible assumption
    · with_reducible assumption

end Sys2Proof.Machine
end

