-- ==== Sys2Proof/Laws/FramePackage.lean ====
section
/-!
SUPPORT. Laws/FramePackage.lean: the frame of every operation and command of Machine/Package.lean.
-/
namespace Sys2Proof.Machine

theorem frame_execPoresetAssert {P : List Part} {s0 : State} {s : State} (hp : within [.pkg, .link, .txn, .ledger, .part, .dir, .mem, .dram, .deep, .integ, .recp, .core, .twin, .mirror, .traffic, .leaves, .power, .sec, .sessions, .boot, .units, .partials, .fw, .obs, .time, .rings, .kodp, .running, .dict, .ctrs, .out] P = true) (h : Frame P s0 s) : FrameO P s0 (execPoresetAssert s) := by
  unfold execPoresetAssert
  with_reducible apply frameO_next
  with_reducible apply frame_coldReset (within_trans (by decide) hp)
  with_reducible assumption

theorem frame_execPoresetRelease {P : List Part} {s0 : State} {s : State} (hp : within [.pkg, .boot] P = true) (h : Frame P s0 s) : FrameO P s0 (execPoresetRelease s) := by
  unfold execPoresetRelease
  with_reducible apply frameO_next
  with_reducible apply frame_ite
  · refine frame_onBoot [.boot] (within_trans (by decide) hp) (.inr fun _ => rfl) (.inr fun _ => rfl) (.inl rfl) ?_
    with_reducible apply frame_onPkg (within_trans (by decide) hp)
    with_reducible assumption
  · with_reducible assumption

theorem frame_execStrapSample {P : List Part} {s0 : State} {s1 : Nat} {s2 : Nat} {s3 : Nat} {s : State} (hp : within [.pkg, .sec, .boot, .fw, .dict] P = true) (h : Frame P s0 s) : FrameO P s0 (execStrapSample s1 s2 s3 s) := by
  unfold execStrapSample
  with_reducible apply frameO_next
  with_reducible apply frame_ite
  · with_reducible assumption
  · extract_lets +onlyGivenNames x0
    clear_value x0
    extract_lets +onlyGivenNames x1
    clear_value x1
    extract_lets +onlyGivenNames x2
    clear_value x2
    extract_lets +onlyGivenNames x3
    clear_value x3
    extract_lets +onlyGivenNames x4
    clear_value x4
    extract_lets +onlyGivenNames x5
    clear_value x5
    extract_lets +onlyGivenNames x6
    have h6 : Frame P s0 (x6) := by
      unfold x6
      with_reducible apply frame_logStep (within_trans (by decide) hp)
      with_reducible apply frame_onPkg (within_trans (by decide) hp)
      with_reducible assumption
    clear_value x6
    extract_lets +onlyGivenNames x7
    have h7 : Frame P s0 (x7) := by
      unfold x7
      with_reducible apply frame_ite
      · with_reducible apply frame_setObj (within_trans (by decide) hp)
        with_reducible assumption
      · with_reducible assumption
    clear_value x7
    with_reducible apply frame_bootRom (within_trans (by decide) hp)
    refine frame_onBoot [.boot] (within_trans (by decide) hp) (.inr fun _ => rfl) (.inr fun _ => rfl) (.inl rfl) ?_
    with_reducible assumption

theorem frame_execWarmresetAssert {P : List Part} {s0 : State} {s : State} (hp : within [.pkg] P = true) (h : Frame P s0 s) : FrameO P s0 (execWarmresetAssert s) := by
  unfold execWarmresetAssert
  with_reducible apply frameO_next
  with_reducible apply frame_ite
  · with_reducible apply frame_onPkg (within_trans (by decide) hp)
    with_reducible assumption
  · with_reducible assumption

theorem frame_execWarmresetShort {P : List Part} {s0 : State} {s : State} (hp : within [.pkg, .ctrs] P = true) (h : Frame P s0 s) : FrameO P s0 (execWarmresetShort s) := by
  unfold execWarmresetShort
  with_reducible apply frameO_next
  with_reducible apply frame_ite
  · with_reducible apply frame_nextStep (within_trans (by decide) hp)
    with_reducible apply frame_bump (within_trans (by decide) hp)
    with_reducible apply frame_onPkg (within_trans (by decide) hp)
    with_reducible assumption
  · with_reducible assumption

theorem frame_execWarmresetStart {P : List Part} {s0 : State} {s : State} (hp : within Part.every P = true) (h : Frame P s0 s) : FrameO P s0 (execWarmresetStart s) := by
  unfold execWarmresetStart
  with_reducible apply frameO_next
  with_reducible apply frame_ite
  · with_reducible apply frame_warmReset (within_trans (by decide) hp)
    with_reducible assumption
  · with_reducible assumption

theorem frame_execBakerBootComplete {P : List Part} {s0 : State} {s : State} (hp : within [.pkg, .ledger, .leaves, .sessions, .boot, .rings, .kodp, .ctrs, .out, .free] P = true) (h : Frame P s0 s) : FrameO P s0 (execBakerBootComplete s) := by
  unfold execBakerBootComplete
  with_reducible apply frameO_next
  with_reducible apply frame_ite
  · with_reducible assumption
  · extract_lets +onlyGivenNames x0
    have h0 : Frame P s0 (x0) := by
      unfold x0
      with_reducible apply frame_logStep (within_trans (by decide) hp)
      with_reducible assumption
    clear_value x0
    extract_lets +onlyGivenNames x1
    clear_value x1
    extract_lets +onlyGivenNames x2
    clear_value x2
    extract_lets +onlyGivenNames x3
    have h3 : Frame P s0 (x3) := by
      unfold x3
      with_reducible apply frame_onPkg (within_trans (by decide) hp)
      with_reducible assumption
    clear_value x3
    extract_lets +onlyGivenNames x4
    have h4 : Frame P s0 (x4) := by
      unfold x4
      refine frame_onBoot [.boot] (within_trans (by decide) hp) (.inr fun _ => rfl) (.inr fun _ => rfl) (.inl rfl) ?_
      with_reducible assumption
    clear_value x4
    extract_lets +onlyGivenNames x5
    have h5 : Frame P s0 (x5) := by
      unfold x5
      with_reducible apply frame_onlyIf
      · intro x6 h7
        with_reducible apply frame_notify (within_trans (by decide) hp)
        with_reducible apply frame_onPkg (within_trans (by decide) hp)
        with_reducible assumption
      · with_reducible assumption
    clear_value x5
    extract_lets +onlyGivenNames x8
    have h8 : Frame P s0 (x8) := by
      unfold x8
      with_reducible apply frame_onlyIf
      · intro x9 h10
        with_reducible apply frame_notify (within_trans (by decide) hp)
        with_reducible assumption
      · with_reducible assumption
    clear_value x8
    with_reducible apply frame_onlyIf
    · intro x11 h12
      with_reducible apply frame_useFree (within_trans (by decide) hp)
      with_reducible apply frame_useFree (within_trans (by decide) hp)
      with_reducible apply frame_notify (within_trans (by decide) hp)
      refine frame_onBoot [.boot] (within_trans (by decide) hp) (.inr fun _ => rfl) (.inr fun _ => rfl) (.inl rfl) ?_
      with_reducible assumption
    · with_reducible assumption

theorem frame_execDebugHoldTimeout {P : List Part} {s0 : State} {s : State} (hp : within [.pkg, .boot] P = true) (h : Frame P s0 s) : FrameO P s0 (execDebugHoldTimeout s) := by
  unfold execDebugHoldTimeout
  with_reducible apply frameO_next
  with_reducible apply frame_endDebugHold (within_trans (by decide) hp)
  with_reducible assumption

theorem frame_execMgmtLinkChange {P : List Part} {s0 : State} {up : Bool} {s : State} (hp : within [.link] P = true) (h : Frame P s0 s) : FrameO P s0 (execMgmtLinkChange up s) := by
  unfold execMgmtLinkChange
  extract_lets +onlyGivenNames x0
  clear_value x0
  with_reducible apply frameO_next
  with_reducible apply frame_onLink (within_trans (by decide) hp)
  with_reducible assumption

theorem frame_execBrownOut {P : List Part} {s0 : State} {rail : Rail} {s : State} (hp : within [.pkg, .link, .txn, .ledger, .dir, .mem, .deep, .recp, .core, .twin, .mirror, .traffic, .leaves, .sec, .out] P = true) (h : Frame P s0 s) : FrameO P s0 (execBrownOut rail s) := by
  unfold execBrownOut
  with_reducible apply frameO_next
  with_reducible apply frame_stopPackage (within_trans (by decide) hp)
  with_reducible assumption

theorem frame_execRefclkLoss {P : List Part} {s0 : State} {s : State} (hp : within [.pkg, .link, .txn, .ledger, .dir, .mem, .deep, .recp, .core, .twin, .mirror, .traffic, .leaves, .sec, .out] P = true) (h : Frame P s0 s) : FrameO P s0 (execRefclkLoss s) := by
  unfold execRefclkLoss
  with_reducible apply frameO_next
  with_reducible apply frame_ite
  · with_reducible assumption
  · with_reducible apply frame_stopPackage (within_trans (by decide) hp)
    with_reducible apply frame_onPkg (within_trans (by decide) hp)
    with_reducible assumption

theorem frame_execThermalSample {P : List Part} {s0 : State} {readings : List (SensorKind × Nat × Int)} {s : State} (hp : within [.pkg, .ledger, .dram, .leaves, .sessions, .rings, .kodp, .ctrs, .out] P = true) (h : Frame P s0 s) : FrameO P s0 (execThermalSample readings s) := by
  unfold execThermalSample
  with_reducible apply frameO_next
  with_reducible apply frame_ite
  · with_reducible assumption
  · extract_lets +onlyGivenNames x0
    clear_value x0
    extract_lets +onlyGivenNames x1
    clear_value x1
    extract_lets +onlyGivenNames x2
    clear_value x2
    extract_lets +onlyGivenNames x3
    clear_value x3
    extract_lets +onlyGivenNames x4
    clear_value x4
    extract_lets +onlyGivenNames x5
    have h5 : Frame P s0 (x5) := by
      unfold x5
      with_reducible apply frame_onPkg (within_trans (by decide) hp)
      with_reducible assumption
    clear_value x5
    extract_lets +onlyGivenNames x6
    have h6 : Frame P s0 (x6) := by
      unfold x6
      with_reducible apply frame_forAll
      · intro x7 x8 h9
        with_reducible apply frame_notify (within_trans (by decide) hp)
        with_reducible assumption
      · with_reducible assumption
    clear_value x6
    extract_lets +onlyGivenNames x10
    clear_value x10
    with_reducible apply frame_onDram (within_trans (by decide) hp)
    with_reducible assumption

theorem frame_execThermtrip {P : List Part} {s0 : State} {kind : SensorKind} {idx : Nat} {s : State} (hp : within [.pkg, .link, .txn, .ledger, .dir, .mem, .deep, .recp, .core, .twin, .mirror, .traffic, .leaves, .sec, .out] P = true) (h : Frame P s0 s) : FrameO P s0 (execThermtrip kind idx s) := by
  unfold execThermtrip
  with_reducible apply frameO_next
  with_reducible apply frame_ite
  · with_reducible assumption
  · extract_lets +onlyGivenNames x0
    have h0 : Frame P s0 (x0) := by
      unfold x0
      with_reducible apply frame_onPkg (within_trans (by decide) hp)
      with_reducible assumption
    clear_value x0
    with_reducible apply frame_ite
    · with_reducible apply frame_onPkg (within_trans (by decide) hp)
      with_reducible assumption
    · with_reducible apply frame_stopPackage (within_trans (by decide) hp)
      with_reducible assumption

theorem frame_execPowerStepAck {P : List Part} {s0 : State} {level : Bool} {s : State} (hp : within [.pkg, .ctrs] P = true) (h : Frame P s0 s) : FrameO P s0 (execPowerStepAck level s) := by
  unfold execPowerStepAck
  with_reducible apply frameO_ite
  · with_reducible apply frameO_next
    with_reducible apply frame_onPkg (within_trans (by decide) hp)
    with_reducible assumption
  · with_reducible apply frameO_ite
    · with_reducible apply frameO_next
      with_reducible apply frame_onlyIf
      · intro x0 h1
        with_reducible apply frame_bump (within_trans (by decide) hp)
        with_reducible assumption
      · with_reducible apply frame_onPkg (within_trans (by decide) hp)
        with_reducible assumption
    · extract_lets +onlyGivenNames x2
      have h2 : Frame P s0 (x2) := by
        unfold x2
        with_reducible apply frame_onPkg (within_trans (by decide) hp)
        with_reducible assumption
      clear_value x2
      with_reducible apply frameO_next
      with_reducible apply frame_nextStep (within_trans (by decide) hp)
      with_reducible assumption

theorem frame_execPowerStepStart {P : List Part} {s0 : State} {s : State} (hp : within [.pkg] P = true) (h : Frame P s0 s) : FrameO P s0 (execPowerStepStart s) := by
  unfold execPowerStepStart
  with_reducible apply frameO_next
  with_reducible apply frame_ite
  · with_reducible apply frame_onPkg (within_trans (by decide) hp)
    with_reducible assumption
  · with_reducible assumption

theorem frame_execStepAckMissing {P : List Part} {s0 : State} {s : State} (hp : within [.pkg, .ctrs] P = true) (h : Frame P s0 s) : FrameO P s0 (execStepAckMissing s) := by
  unfold execStepAckMissing
  with_reducible apply frameO_next
  with_reducible apply frame_ite
  · with_reducible apply frame_stepOver (within_trans (by decide) hp)
    with_reducible apply frame_bump (within_trans (by decide) hp)
    with_reducible assumption
  · with_reducible assumption

theorem frame_execStepAckStuck {P : List Part} {s0 : State} {s : State} (hp : within [.pkg, .ctrs] P = true) (h : Frame P s0 s) : FrameO P s0 (execStepAckStuck s) := by
  unfold execStepAckStuck
  with_reducible apply frameO_next
  with_reducible apply frame_ite
  · with_reducible apply frame_bump (within_trans (by decide) hp)
    with_reducible apply frame_onPkg (within_trans (by decide) hp)
    with_reducible assumption
  · with_reducible assumption

theorem frame_execHoldupSample {P : List Part} {s0 : State} {level : Bool} {s : State} (hp : within [.pkg] P = true) (h : Frame P s0 s) : FrameO P s0 (execHoldupSample level s) := by
  unfold execHoldupSample
  with_reducible apply frameO_next
  with_reducible apply frame_ite
  · with_reducible assumption
  · with_reducible apply frame_onPkg (within_trans (by decide) hp)
    with_reducible assumption

theorem frame_execLaserInputLow {P : List Part} {s0 : State} {engine : Nat} {s : State} (hp : within [.pkg, .ledger, .leaves, .sessions, .boot, .rings, .kodp, .ctrs, .out, .free] P = true) (h : Frame P s0 s) : FrameO P s0 (execLaserInputLow engine s) := by
  unfold execLaserInputLow
  with_reducible apply frameO_next
  with_reducible apply frame_ite
  · with_reducible assumption
  · extract_lets +onlyGivenNames x0
    clear_value x0
    extract_lets +onlyGivenNames x1
    clear_value x1
    extract_lets +onlyGivenNames x2
    have h2 : Frame P s0 (x2) := by
      unfold x2
      with_reducible apply frame_useFree (within_trans (by decide) hp)
      with_reducible apply frame_onPkg (within_trans (by decide) hp)
      with_reducible assumption
    clear_value x2
    with_reducible apply frame_exhaust (within_trans (by decide) hp)
    with_reducible apply frame_notify (within_trans (by decide) hp)
    with_reducible apply frame_bump (within_trans (by decide) hp)
    with_reducible assumption

theorem frame_execLaserInputsDark {P : List Part} {s0 : State} {engine : Nat} {s : State} (hp : within [.pkg, .link, .txn, .ledger, .deep, .mirror, .traffic, .leaves, .sessions, .rings, .kodp, .ctrs, .out, .free] P = true) (h : Frame P s0 s) : FrameO P s0 (execLaserInputsDark engine s) := by
  unfold execLaserInputsDark
  with_reducible apply frameO_next
  with_reducible apply frame_ite
  · with_reducible assumption
  · extract_lets +onlyGivenNames x0
    have h0 : Frame P s0 (x0) := by
      unfold x0
      with_reducible apply frame_useFree (within_trans (by decide) hp)
      with_reducible apply frame_useFree (within_trans (by decide) hp)
      with_reducible apply frame_onPkg (within_trans (by decide) hp)
      with_reducible assumption
    clear_value x0
    with_reducible apply frame_forAll
    · intro x1 x2 h3
      extract_lets +onlyGivenNames x4
      clear_value x4
      with_reducible apply frame_ite
      · with_reducible apply frame_trainFails (within_trans (by decide) hp)
        with_reducible assumption
      · with_reducible apply frame_ite
        · with_reducible apply frame_portDown (within_trans (by decide) hp)
          with_reducible assumption
        · with_reducible assumption
    · with_reducible assumption

theorem frame_execLaserInputRestored {P : List Part} {s0 : State} {engine : Nat} {input : Nat} {s : State} (hp : within [.pkg, .link, .free] P = true) (h : Frame P s0 s) : FrameO P s0 (execLaserInputRestored engine input s) := by
  unfold execLaserInputRestored
  with_reducible apply frameO_next
  with_reducible apply frame_ite
  · with_reducible assumption
  · extract_lets +onlyGivenNames x0
    clear_value x0
    extract_lets +onlyGivenNames x1
    have h1 : Frame P s0 (x1) := by
      unfold x1
      with_reducible apply frame_useFree (within_trans (by decide) hp)
      with_reducible apply frame_onPkg (within_trans (by decide) hp)
      with_reducible assumption
    clear_value x1
    with_reducible apply frame_forAll
    · intro x2 x3 h4
      with_reducible apply frame_portTo (within_trans (by decide) hp)
      with_reducible assumption
    · with_reducible assumption

theorem frame_execLaserLow {P : List Part} {s0 : State} {engine : Nat} {input : Nat} {s : State} (hp : within [.pkg, .ledger, .leaves, .sessions, .rings, .kodp, .ctrs, .out, .free] P = true) (h : Frame P s0 s) : FrameO P s0 (execLaserLow engine input s) := by
  unfold execLaserLow
  with_reducible apply frameO_next
  with_reducible apply frame_ite
  · with_reducible assumption
  · extract_lets +onlyGivenNames x0
    clear_value x0
    extract_lets +onlyGivenNames x1
    have h1 : Frame P s0 (x1) := by
      unfold x1
      with_reducible apply frame_useFree (within_trans (by decide) hp)
      with_reducible apply frame_onPkg (within_trans (by decide) hp)
      with_reducible assumption
    clear_value x1
    with_reducible apply frame_notifyLimited (within_trans (by decide) hp)
    with_reducible assumption

end Sys2Proof.Machine
end

