-- ==== Sys2Proof/Laws/FrameBoot.lean ====
section
/-!
SUPPORT. Laws/FrameBoot.lean: the frame of every operation and command of Machine/Boot.lean.
-/
namespace Sys2Proof.Machine

theorem frame_logSubSteps {P : List Part} {s0 : State} {result : Nat} {s : State} (hp : within [.boot, .free] P = true) (h : Frame P s0 s) : Frame P s0 (logSubSteps result s) := by
  unfold logSubSteps
  extract_lets +onlyGivenNames x0
  clear_value x0
  extract_lets +onlyGivenNames x1
  clear_value x1
  extract_lets +onlyGivenNames x2
  clear_value x2
  with_reducible apply frame_useFrees (within_trans (by decide) hp)
  refine frame_onBoot [.boot] (within_trans (by decide) hp) (.inr fun _ => rfl) (.inr fun _ => rfl) (.inl rfl) ?_
  with_reducible assumption

theorem frame_execBringupStepDone {P : List Part} {s0 : State} {failed : List Nat} {s : State} (hp : within [.pkg, .link, .txn, .ledger, .mem, .dram, .deep, .integ, .twin, .mirror, .traffic, .leaves, .sec, .sessions, .boot, .units, .fw, .rings, .kodp, .ctrs, .out, .free] P = true) (h : Frame P s0 s) : FrameO P s0 (execBringupStepDone failed s) := by
  unfold execBringupStepDone
  with_reducible apply frameO_next
  with_reducible apply frame_ite
  · with_reducible assumption
  · extract_lets +onlyGivenNames x0
    have h0 : Frame P s0 (x0) := by
      unfold x0
      with_reducible apply frame_forAll
      · intro x1 x2 h3
        with_reducible apply frame_noteFailure (within_trans (by decide) hp)
        with_reducible assumption
      · with_reducible assumption
    clear_value x0
    with_reducible apply frame_ite
    · with_reducible apply frame_stopBringup (within_trans (by decide) hp)
      with_reducible assumption
    · extract_lets +onlyGivenNames x4
      have h4 : Frame P s0 (x4) := by
        unfold x4
        with_reducible apply frame_forAll
        · intro x5 x6 h7
          with_reducible apply frame_applyFailure (within_trans (by decide) hp)
          with_reducible assumption
        · with_reducible assumption
      clear_value x4
      extract_lets +onlyGivenNames x8
      clear_value x8
      extract_lets +onlyGivenNames x9
      clear_value x9
      extract_lets +onlyGivenNames x10
      have h10 : Frame P s0 (x10) := by
        unfold x10
        with_reducible apply frame_ite
        · with_reducible apply frame_logStep (within_trans (by decide) hp)
          with_reducible apply frame_logSubSteps (within_trans (by decide) hp)
          with_reducible apply frame_coldMemories (within_trans (by decide) hp)
          with_reducible assumption
        · with_reducible apply frame_logStep (within_trans (by decide) hp)
          with_reducible assumption
      clear_value x10
      with_reducible apply frame_ite
      · refine frame_onBoot [.units, .boot] (within_trans (by decide) hp) (.inl rfl) (.inr fun _ => rfl) (.inl rfl) ?_
        with_reducible assumption
      · with_reducible apply frame_ite
        · with_reducible apply frame_lightPorts (within_trans (by decide) hp)
          refine frame_onBoot [.units, .boot] (within_trans (by decide) hp) (.inl rfl) (.inr fun _ => rfl) (.inl rfl) ?_
          with_reducible assumption
        · with_reducible apply frame_ite
          · refine frame_onBoot [.units, .boot] (within_trans (by decide) hp) (.inl rfl) (.inr fun _ => rfl) (.inl rfl) ?_
            with_reducible assumption
          · with_reducible apply frame_becomeReady (within_trans (by decide) hp)
            with_reducible apply frame_chooseRoles (within_trans (by decide) hp)
            with_reducible assumption

theorem frame_execReheatStepDone {P : List Part} {s0 : State} {failed : List Nat} {s : State} (hp : within [.pkg, .link, .txn, .ledger, .dir, .mem, .dram, .deep, .integ, .recp, .core, .twin, .mirror, .traffic, .leaves, .power, .sessions, .boot, .units, .fw, .rings, .kodp, .running, .ctrs, .out, .free] P = true) (h : Frame P s0 s) : FrameO P s0 (execReheatStepDone failed s) := by
  unfold execReheatStepDone
  with_reducible apply frameO_next
  with_reducible apply frame_ite
  · with_reducible assumption
  · extract_lets +onlyGivenNames x0
    clear_value x0
    extract_lets +onlyGivenNames x1
    have h1 : ∀ y0, ∀ y1, Frame P s0 y1 → Frame P s0 (x1 y0 y1) := by
      intro x2 x3 h4
      unfold x1
      with_reducible apply frame_ite
      · with_reducible apply frame_retireCore (within_trans (by decide) hp)
        with_reducible apply frame_noteFailure (within_trans (by decide) hp)
        with_reducible assumption
      · with_reducible assumption
    clear_value x1
    extract_lets +onlyGivenNames x5
    have h5 : Frame P s0 (x5) := by
      unfold x5
      with_reducible apply frame_logStep (within_trans (by decide) hp)
      with_reducible apply frame_ite
      · with_reducible apply frame_reheatMemories (within_trans (by decide) hp)
        with_reducible assumption
      · with_reducible apply frame_ite
        · with_reducible apply frame_forAll
          · intro x6 x7 h8
            with_reducible apply h1
            with_reducible assumption
          · with_reducible assumption
        · with_reducible assumption
    clear_value x5
    with_reducible apply frame_ite
    · refine frame_onBoot [.units, .boot] (within_trans (by decide) hp) (.inl rfl) (.inr fun _ => rfl) (.inl rfl) ?_
      with_reducible assumption
    · with_reducible apply frame_ite
      · with_reducible apply frame_lightPorts (within_trans (by decide) hp)
        refine frame_onBoot [.units, .boot] (within_trans (by decide) hp) (.inl rfl) (.inr fun _ => rfl) (.inl rfl) ?_
        with_reducible assumption
      · with_reducible apply frame_ite
        · refine frame_onBoot [.units, .boot] (within_trans (by decide) hp) (.inl rfl) (.inr fun _ => rfl) (.inl rfl) ?_
          with_reducible assumption
        · with_reducible apply frame_becomeReady (within_trans (by decide) hp)
          with_reducible assumption

theorem frame_execBringupStepTimeout {P : List Part} {s0 : State} {s : State} (hp : within [.pkg, .link, .txn, .ledger, .mirror, .traffic, .leaves, .sessions, .boot, .rings, .kodp, .ctrs, .out, .free] P = true) (h : Frame P s0 s) : FrameO P s0 (execBringupStepTimeout s) := by
  unfold execBringupStepTimeout
  extract_lets +onlyGivenNames x0
  clear_value x0
  with_reducible apply frameO_next
  with_reducible apply frame_ite
  · with_reducible apply frame_stopBringup (within_trans (by decide) hp)
    with_reducible assumption
  · with_reducible assumption

theorem frame_execResetCore {P : List Part} {s0 : State} {r : Req} {core : Nat} {s : State} (hp : within [.ledger, .dir, .dram, .deep, .recp, .core, .mirror, .leaves, .power, .sessions, .boot, .units, .partials, .rings, .kodp, .running, .ctrs, .out] P = true) (h : Frame P s0 s) : FrameO P s0 (execResetCore r core s) := by
  unfold execResetCore
  with_reducible apply frameO_next
  with_reducible apply frame_operate (within_trans (by decide) hp)
  · intro x0 h1
    with_reducible apply frame_beginCoreReset (within_trans (by decide) hp)
    with_reducible assumption
  · with_reducible assumption

theorem frame_execResetCluster {P : List Part} {s0 : State} {r : Req} {cluster : Nat} {s : State} (hp : within [.ledger, .dir, .dram, .deep, .recp, .core, .mirror, .leaves, .power, .sessions, .boot, .units, .partials, .rings, .kodp, .running, .ctrs, .out] P = true) (h : Frame P s0 s) : FrameO P s0 (execResetCluster r cluster s) := by
  unfold execResetCluster
  with_reducible apply frameO_next
  with_reducible apply frame_operate (within_trans (by decide) hp)
  · intro x0 h1
    with_reducible apply frame_beginClusterReset (within_trans (by decide) hp)
    with_reducible assumption
  · with_reducible assumption

theorem frame_execResetPartition {P : List Part} {s0 : State} {r : Req} {part : Nat} {s : State} (hp : within [.pkg, .txn, .ledger, .dir, .mem, .dram, .deep, .integ, .recp, .core, .mirror, .leaves, .power, .sec, .sessions, .boot, .units, .partials, .rings, .kodp, .running, .ctrs, .out, .free] P = true) (h : Frame P s0 s) : FrameO P s0 (execResetPartition r part s) := by
  unfold execResetPartition
  extract_lets +onlyGivenNames x0
  clear_value x0
  with_reducible apply frameO_next
  with_reducible apply frame_operate (within_trans (by decide) hp)
  · intro x1 h2
    split
    · with_reducible apply frame_beginPartition (within_trans (by decide) hp)
      with_reducible assumption
    · with_reducible assumption
  · with_reducible assumption

theorem frame_execResetPackage {P : List Part} {s0 : State} {r : Req} {s : State} (hp : within Part.every P = true) (h : Frame P s0 s) : FrameO P s0 (execResetPackage r s) := by
  unfold execResetPackage
  extract_lets +onlyGivenNames x0
  clear_value x0
  with_reducible apply frameO_next
  with_reducible apply frame_operate (within_trans (by decide) hp)
  · intro x1 h2
    with_reducible apply frame_warmReset (within_trans (by decide) hp)
    with_reducible apply frame_abortAll (within_trans (by decide) hp)
    with_reducible apply frame_reply (within_trans (by decide) hp)
    with_reducible assumption
  · with_reducible assumption

theorem frame_notePartial {P : List Part} {s0 : State} {kind : Nat} {unit : Nat} {s : State} (hp : within [.ledger, .leaves, .sessions, .rings, .kodp, .ctrs, .out] P = true) (h : Frame P s0 s) : Frame P s0 (notePartial kind unit s) := by
  unfold notePartial
  with_reducible apply frame_notify (within_trans (by decide) hp)
  with_reducible assumption

theorem frame_execPartialResetDone {P : List Part} {s0 : State} {kind : Nat} {unit : Nat} {s : State} (hp : within [.pkg, .ledger, .dir, .mem, .dram, .deep, .recp, .core, .mirror, .leaves, .power, .sessions, .boot, .units, .partials, .rings, .kodp, .running, .ctrs, .out, .free] P = true) (h : Frame P s0 s) : FrameO P s0 (execPartialResetDone kind unit s) := by
  unfold execPartialResetDone
  split
  · with_reducible apply frameO_next
    with_reducible assumption
  · extract_lets +onlyGivenNames x0
    have h0 : Frame P s0 (x0) := by
      unfold x0
      refine frame_onBoot [.units, .partials, .boot] (within_trans (by decide) hp) (.inl rfl) (.inl rfl) (.inl rfl) ?_
      with_reducible assumption
    clear_value x0
    extract_lets +onlyGivenNames x1
    have h1 : Frame P s0 (x1) := by
      unfold x1
      with_reducible apply frame_endUnit (within_trans (by decide) hp)
      with_reducible assumption
    clear_value x1
    extract_lets +onlyGivenNames x2
    have h2 : Frame P s0 (x2) := by
      unfold x2
      with_reducible apply frame_ite
      · with_reducible apply frame_ite
        · with_reducible apply frame_retireCore (within_trans (by decide) hp)
          with_reducible assumption
        · with_reducible assumption
      · with_reducible apply frame_ite
        · with_reducible apply frame_endUnit (within_trans (by decide) hp)
          with_reducible assumption
        · split
          · with_reducible apply frame_endPartition (within_trans (by decide) hp)
            with_reducible assumption
          · with_reducible assumption
    clear_value x2
    extract_lets +onlyGivenNames x3
    have h3 : Frame P s0 (x3) := by
      unfold x3
      with_reducible apply frame_notePartial (within_trans (by decide) hp)
      with_reducible assumption
    clear_value x3
    split
    · with_reducible apply frameO_next
      with_reducible assumption
    · with_reducible apply frameO_next
      with_reducible apply frame_reply (within_trans (by decide) hp)
      with_reducible apply frame_reply (within_trans (by decide) hp)
      with_reducible assumption

theorem frame_execCoreResetEscalate {P : List Part} {s0 : State} {core : Nat} {s : State} (hp : within [.ledger, .dir, .dram, .deep, .recp, .core, .mirror, .leaves, .power, .sessions, .boot, .units, .partials, .rings, .kodp, .running, .ctrs, .out] P = true) (h : Frame P s0 s) : FrameO P s0 (execCoreResetEscalate core s) := by
  unfold execCoreResetEscalate
  with_reducible apply frameO_ite
  · with_reducible apply frameO_next
    with_reducible assumption
  · with_reducible apply frameO_next
    with_reducible apply frame_ite
    · with_reducible apply frame_ite
      · with_reducible assumption
      · with_reducible apply frame_beginClusterReset (within_trans (by decide) hp)
        with_reducible assumption
    · with_reducible assumption

theorem frame_execClusterResetTimeout {P : List Part} {s0 : State} {cluster : Nat} {s : State} (hp : within [.ledger, .mirror, .leaves, .sessions, .boot, .units, .partials, .rings, .kodp, .running, .ctrs, .out] P = true) (h : Frame P s0 s) : FrameO P s0 (execClusterResetTimeout cluster s) := by
  unfold execClusterResetTimeout
  with_reducible apply frameO_ite
  · with_reducible apply frameO_next
    with_reducible assumption
  · split
    · with_reducible apply frameO_next
      with_reducible assumption
    · extract_lets +onlyGivenNames x0
      have h0 : Frame P s0 (x0) := by
        unfold x0
        refine frame_onBoot [.units, .partials, .boot] (within_trans (by decide) hp) (.inl rfl) (.inl rfl) (.inl rfl) ?_
        with_reducible assumption
      clear_value x0
      extract_lets +onlyGivenNames x1
      have h1 : Frame P s0 (x1) := by
        unfold x1
        with_reducible apply frame_endUnit (within_trans (by decide) hp)
        with_reducible assumption
      clear_value x1
      extract_lets +onlyGivenNames x2
      have h2 : Frame P s0 (x2) := by
        unfold x2
        with_reducible apply frame_forAll
        · intro x3 x4 h5
          with_reducible apply frame_crumb (within_trans (by decide) hp)
          with_reducible apply frame_setUnit (within_trans (by decide) hp)
          with_reducible assumption
        · with_reducible assumption
      clear_value x2
      extract_lets +onlyGivenNames x6
      have h6 : Frame P s0 (x6) := by
        unfold x6
        with_reducible apply frame_exhaust (within_trans (by decide) hp)
        with_reducible apply frame_notify (within_trans (by decide) hp)
        with_reducible assumption
      clear_value x6
      with_reducible apply frameO_next
      split
      · with_reducible apply frame_reply (within_trans (by decide) hp)
        with_reducible apply frame_reply (within_trans (by decide) hp)
        with_reducible assumption
      · with_reducible assumption

theorem frame_execRetireUnit {P : List Part} {s0 : State} {r : Req} {kind : Nat} {unit : Nat} {s : State} (hp : within [.pkg, .ledger, .dir, .mem, .dram, .deep, .integ, .recp, .core, .mirror, .leaves, .power, .sessions, .boot, .units, .obs, .rings, .kodp, .running, .ctrs, .out, .free] P = true) (h : Frame P s0 s) : FrameO P s0 (execRetireUnit r kind unit s) := by
  unfold execRetireUnit
  extract_lets +onlyGivenNames x0
  clear_value x0
  extract_lets +onlyGivenNames x1
  clear_value x1
  extract_lets +onlyGivenNames x2
  clear_value x2
  extract_lets +onlyGivenNames x3
  clear_value x3
  extract_lets +onlyGivenNames x4
  clear_value x4
  extract_lets +onlyGivenNames x5
  clear_value x5
  extract_lets +onlyGivenNames x6
  clear_value x6
  with_reducible apply frameO_next
  with_reducible apply frame_operate (within_trans (by decide) hp)
  · intro x7 h8
    with_reducible apply frame_ite
    · with_reducible apply frame_retireCore (within_trans (by decide) hp)
      with_reducible assumption
    · with_reducible apply frame_ite
      · with_reducible apply frame_reply (within_trans (by decide) hp)
        with_reducible apply frame_repairRow (within_trans (by decide) hp)
        with_reducible assumption
      · with_reducible apply frame_ite
        · with_reducible apply frame_startBankRepair (within_trans (by decide) hp)
          with_reducible assumption
        · with_reducible apply frame_reply (within_trans (by decide) hp)
          with_reducible apply frame_exhaust (within_trans (by decide) hp)
          refine frame_onBoot [.units, .boot] (within_trans (by decide) hp) (.inl rfl) (.inr fun _ => rfl) (.inl rfl) ?_
          with_reducible assumption
  · with_reducible assumption

theorem frame_execSpareBringinDone {P : List Part} {s0 : State} {core : Nat} {ok : Bool} {s : State} (hp : within [.ledger, .dir, .dram, .deep, .core, .mirror, .leaves, .power, .sessions, .boot, .units, .rings, .kodp, .running, .ctrs, .out] P = true) (h : Frame P s0 s) : FrameO P s0 (execSpareBringinDone core ok s) := by
  unfold execSpareBringinDone
  split
  · with_reducible apply frameO_next
    with_reducible assumption
  · extract_lets +onlyGivenNames x0
    have h0 : Frame P s0 (x0) := by
      unfold x0
      refine frame_onBoot [.units, .boot] (within_trans (by decide) hp) (.inl rfl) (.inr fun _ => rfl) (.inl rfl) ?_
      with_reducible assumption
    clear_value x0
    with_reducible apply frameO_ite
    · extract_lets +onlyGivenNames x1
      have h1 : Frame P s0 (x1) := by
        unfold x1
        with_reducible apply frame_clearCore (within_trans (by decide) hp)
        with_reducible apply frame_advanceEpoch (within_trans (by decide) hp)
        with_reducible assumption
      clear_value x1
      extract_lets +onlyGivenNames x2
      have h2 : Frame P s0 (x2) := by
        unfold x2
        with_reducible apply frame_setUnit (within_trans (by decide) hp)
        with_reducible assumption
      clear_value x2
      extract_lets +onlyGivenNames x3
      have h3 : Frame P s0 (x3) := by
        unfold x3
        with_reducible apply frame_onlyIf
        · intro x4 h5
          with_reducible apply frame_notify (within_trans (by decide) hp)
          with_reducible apply frame_crumb (within_trans (by decide) hp)
          with_reducible assumption
        · with_reducible assumption
      clear_value x3
      extract_lets +onlyGivenNames x6
      have h6 : Frame P s0 (x6) := by
        unfold x6
        with_reducible apply frame_notify (within_trans (by decide) hp)
        with_reducible apply frame_crumb (within_trans (by decide) hp)
        with_reducible assumption
      clear_value x6
      with_reducible apply frameO_next
      split
      · with_reducible apply frame_reply (within_trans (by decide) hp)
        with_reducible apply frame_reply (within_trans (by decide) hp)
        with_reducible assumption
      · with_reducible assumption
    · extract_lets +onlyGivenNames x7
      have h7 : Frame P s0 (x7) := by
        unfold x7
        with_reducible apply frame_setUnit (within_trans (by decide) hp)
        with_reducible assumption
      clear_value x7
      extract_lets +onlyGivenNames x8
      have h8 : Frame P s0 (x8) := by
        unfold x8
        with_reducible apply frame_notify (within_trans (by decide) hp)
        with_reducible apply frame_crumb (within_trans (by decide) hp)
        with_reducible assumption
      clear_value x8
      with_reducible apply frameO_next
      with_reducible apply frame_bringSpare (within_trans (by decide) hp)
      with_reducible assumption

theorem frame_execRowRepair {P : List Part} {s0 : State} {channel : Nat} {pseudo : Nat} {bank : Nat} {row : Nat} {s : State} (hp : within [.pkg, .ledger, .mem, .dram, .deep, .integ, .mirror, .leaves, .power, .sessions, .boot, .obs, .rings, .kodp, .ctrs, .out, .free] P = true) (h : Frame P s0 s) : FrameO P s0 (execRowRepair channel pseudo bank row s) := by
  unfold execRowRepair
  with_reducible apply frameO_ite
  · with_reducible apply frameO_next
    with_reducible assumption
  · with_reducible apply frameO_next
    with_reducible apply frame_ite
    · with_reducible apply frame_repairRow (within_trans (by decide) hp)
      with_reducible assumption
    · with_reducible assumption

theorem frame_execBankRepairDone {P : List Part} {s0 : State} {channel : Nat} {pseudo : Nat} {bank : Nat} {s : State} (hp : within [.pkg, .ledger, .mem, .dram, .deep, .integ, .mirror, .leaves, .power, .sessions, .boot, .obs, .rings, .kodp, .running, .ctrs, .out, .free] P = true) (h : Frame P s0 s) : FrameO P s0 (execBankRepairDone channel pseudo bank s) := by
  unfold execBankRepairDone
  with_reducible apply frameO_ite
  · with_reducible apply frameO_next
    with_reducible assumption
  · extract_lets +onlyGivenNames x0
    clear_value x0
    split
    · with_reducible apply frameO_next
      with_reducible assumption
    · extract_lets +onlyGivenNames x1
      have h1 : Frame P s0 (x1) := by
        unfold x1
        refine frame_onBoot [.boot] (within_trans (by decide) hp) (.inr fun _ => rfl) (.inr fun _ => rfl) (.inl rfl) ?_
        with_reducible assumption
      clear_value x1
      extract_lets +onlyGivenNames x2
      have h2 : Frame P s0 (x2) := by
        unfold x2
        with_reducible apply frame_onInteg (within_trans (by decide) hp)
        with_reducible assumption
      clear_value x2
      extract_lets +onlyGivenNames x3
      have h3 : Frame P s0 (x3) := by
        unfold x3
        with_reducible apply frame_crumb (within_trans (by decide) hp)
        with_reducible apply frame_copyChecked (within_trans (by decide) hp)
        with_reducible assumption
      clear_value x3
      with_reducible apply frameO_next
      split
      · with_reducible apply frame_reply (within_trans (by decide) hp)
        with_reducible assumption
      · with_reducible assumption

theorem frame_execServiceModeWrite {P : List Part} {s0 : State} {r : Req} {value : Nat} {s : State} (hp : within [.ledger, .mirror, .leaves, .sessions, .rings, .kodp, .running, .dict, .ctrs, .out] P = true) (h : Frame P s0 s) : FrameO P s0 (execServiceModeWrite r value s) := by
  unfold execServiceModeWrite
  with_reducible apply frameO_next
  with_reducible apply frame_operateOk (within_trans (by decide) hp)
  · intro x0 h1
    with_reducible apply frame_setObj (within_trans (by decide) hp)
    with_reducible assumption
  · with_reducible assumption

theorem frame_takeOut {P : List Part} {s0 : State} {kind : Nat} {unit : Nat} {s : State} (hp : within [.link, .txn, .ledger, .dir, .dram, .deep, .recp, .core, .mirror, .traffic, .leaves, .power, .sessions, .boot, .units, .partials, .rings, .kodp, .running, .ctrs, .out] P = true) (h : Frame P s0 s) : Frame P s0 (takeOut kind unit s) := by
  unfold takeOut
  extract_lets +onlyGivenNames x0
  have h0 : ∀ y0, ∀ y1, Frame P s0 y1 → Frame P s0 (x0 y0 y1) := by
    intro x1 x2 h3
    unfold x0
    with_reducible apply frame_setUnit (within_trans (by decide) hp)
    with_reducible assumption
  clear_value x0
  with_reducible apply frame_ite
  · with_reducible apply frame_setUnit (within_trans (by decide) hp)
    with_reducible apply frame_beginCoreReset (within_trans (by decide) hp)
    with_reducible assumption
  · with_reducible apply frame_ite
    · extract_lets +onlyGivenNames x4
      have h4 : Frame P s0 (x4) := by
        unfold x4
        with_reducible apply frame_forAll
        · intro x5 x6 h7
          with_reducible apply frame_beginCoreReset (within_trans (by decide) hp)
          with_reducible assumption
        · with_reducible assumption
      clear_value x4
      extract_lets +onlyGivenNames x8
      clear_value x8
      extract_lets +onlyGivenNames x9
      have h9 : Frame P s0 (x9) := by
        unfold x9
        with_reducible apply frame_setUnit (within_trans (by decide) hp)
        with_reducible assumption
      clear_value x9
      split
      · with_reducible apply frame_onRecp (within_trans (by decide) hp)
        with_reducible assumption
      · with_reducible assumption
    · with_reducible apply frame_ite
      · with_reducible apply h0
        with_reducible assumption
      · with_reducible apply frame_ite
        · with_reducible apply frame_forAll
          · intro x10 x11 h12
            with_reducible apply h0
            with_reducible assumption
          · refine frame_onBoot [.units, .partials, .boot] (within_trans (by decide) hp) (.inl rfl) (.inl rfl) (.inl rfl) ?_
            with_reducible assumption
        · with_reducible apply frame_disablePort (within_trans (by decide) hp)
          refine frame_onBoot [.units, .partials, .boot] (within_trans (by decide) hp) (.inl rfl) (.inl rfl) (.inl rfl) ?_
          with_reducible assumption

theorem frame_execServiceOut {P : List Part} {s0 : State} {r : Req} {kind : Nat} {unit : Nat} {s : State} (hp : within [.link, .txn, .ledger, .dir, .dram, .deep, .recp, .core, .mirror, .traffic, .leaves, .power, .sessions, .boot, .units, .partials, .rings, .kodp, .running, .ctrs, .out] P = true) (h : Frame P s0 s) : FrameO P s0 (execServiceOut r kind unit s) := by
  unfold execServiceOut
  with_reducible apply frameO_next
  with_reducible apply frame_operateOk (within_trans (by decide) hp)
  · intro x0 h1
    with_reducible apply frame_takeOut (within_trans (by decide) hp)
    with_reducible assumption
  · with_reducible assumption

theorem frame_execServiceRecal {P : List Part} {s0 : State} {r : Req} {kind : Nat} {unit : Nat} {s : State} (hp : within [.link, .ledger, .dram, .mirror, .leaves, .sessions, .units, .rings, .kodp, .running, .ctrs, .out, .free] P = true) (h : Frame P s0 s) : FrameO P s0 (execServiceRecal r kind unit s) := by
  unfold execServiceRecal
  extract_lets +onlyGivenNames x0
  clear_value x0
  with_reducible apply frameO_next
  with_reducible apply frame_operate (within_trans (by decide) hp)
  · intro x1 h2
    extract_lets +onlyGivenNames x3
    clear_value x3
    extract_lets +onlyGivenNames x4
    have h4 : ∀ y0, ∀ y1, Frame P s0 y1 → Frame P s0 (x4 y0 y1) := by
      intro x5 x6 h7
      unfold x4
      with_reducible apply frame_setUnit (within_trans (by decide) hp)
      with_reducible apply frame_ite
      · with_reducible apply frame_setChannel (within_trans (by decide) hp)
        with_reducible assumption
      · with_reducible apply frame_failChannel (within_trans (by decide) hp)
        with_reducible assumption
    clear_value x4
    extract_lets +onlyGivenNames x8
    have h8 : Frame P s0 (x8) := by
      unfold x8
      with_reducible apply frame_ite
      · with_reducible apply frame_setUnit (within_trans (by decide) hp)
        with_reducible assumption
      · with_reducible apply frame_ite
        · with_reducible apply frame_forAll
          · intro x9 x10 h11
            with_reducible apply frame_setUnit (within_trans (by decide) hp)
            with_reducible assumption
          · with_reducible apply frame_setUnit (within_trans (by decide) hp)
            with_reducible assumption
        · with_reducible apply frame_ite
          · with_reducible apply h4
            with_reducible assumption
          · with_reducible apply frame_ite
            · with_reducible apply frame_forAll
              · intro x12 x13 h14
                with_reducible apply h4
                with_reducible assumption
              · with_reducible assumption
            · with_reducible apply frame_setPort (within_trans (by decide) hp)
              with_reducible assumption
    clear_value x8
    with_reducible apply frame_reply (within_trans (by decide) hp)
    with_reducible apply frame_useFree (within_trans (by decide) hp)
    with_reducible assumption
  · with_reducible assumption

theorem frame_execServiceReplace {P : List Part} {s0 : State} {r : Req} {kind : Nat} {unit : Nat} {s : State} (hp : within [.ledger, .mirror, .leaves, .power, .sessions, .boot, .rings, .kodp, .running, .ctrs, .out] P = true) (h : Frame P s0 s) : FrameO P s0 (execServiceReplace r kind unit s) := by
  unfold execServiceReplace
  with_reducible apply frameO_next
  with_reducible apply frame_operate (within_trans (by decide) hp)
  · intro x0 h1
    with_reducible apply frame_bringSpare (within_trans (by decide) hp)
    with_reducible assumption
  · with_reducible assumption

theorem frame_channelBack {P : List Part} {s0 : State} {c : Nat} {s : State} (hp : within [.pkg, .dir, .mem, .dram, .deep, .mirror, .leaves, .power, .units, .rings, .ctrs, .free] P = true) (h : Frame P s0 s) : Frame P s0 (channelBack c s) := by
  unfold channelBack
  extract_lets +onlyGivenNames x0
  have h0 : Frame P s0 (x0) := by
    unfold x0
    with_reducible apply frame_advanceEpoch (within_trans (by decide) hp)
    with_reducible apply frame_setUnit (within_trans (by decide) hp)
    with_reducible assumption
  clear_value x0
  with_reducible apply frame_ite
  · with_reducible apply frame_channelServes (within_trans (by decide) hp)
    with_reducible assumption
  · with_reducible assumption

theorem frame_execServiceIn {P : List Part} {s0 : State} {r : Req} {kind : Nat} {unit : Nat} {s : State} (hp : within [.pkg, .link, .txn, .ledger, .dir, .mem, .dram, .deep, .recp, .core, .mirror, .traffic, .leaves, .power, .sessions, .boot, .units, .partials, .rings, .kodp, .running, .ctrs, .out, .free] P = true) (h : Frame P s0 s) : FrameO P s0 (execServiceIn r kind unit s) := by
  unfold execServiceIn
  extract_lets +onlyGivenNames x0
  clear_value x0
  extract_lets +onlyGivenNames x1
  clear_value x1
  extract_lets +onlyGivenNames x2
  clear_value x2
  with_reducible apply frameO_next
  with_reducible apply frame_operate (within_trans (by decide) hp)
  · intro x3 h4
    with_reducible apply frame_ite
    · extract_lets +onlyGivenNames x5
      clear_value x5
      with_reducible apply frame_reply (within_trans (by decide) hp)
      with_reducible apply frame_clearCore (within_trans (by decide) hp)
      with_reducible apply frame_advanceEpoch (within_trans (by decide) hp)
      with_reducible apply frame_setUnit (within_trans (by decide) hp)
      with_reducible assumption
    · with_reducible apply frame_ite
      · with_reducible apply frame_beginClusterReset (within_trans (by decide) hp)
        with_reducible apply frame_setUnit (within_trans (by decide) hp)
        with_reducible assumption
      · with_reducible apply frame_ite
        · with_reducible apply frame_reply (within_trans (by decide) hp)
          with_reducible apply frame_channelBack (within_trans (by decide) hp)
          with_reducible assumption
        · with_reducible apply frame_ite
          · with_reducible apply frame_reply (within_trans (by decide) hp)
            with_reducible apply frame_forAll
            · intro x6 x7 h8
              with_reducible apply frame_channelBack (within_trans (by decide) hp)
              with_reducible assumption
            · refine frame_onBoot [.units, .partials, .boot] (within_trans (by decide) hp) (.inl rfl) (.inl rfl) (.inl rfl) ?_
              with_reducible assumption
          · extract_lets +onlyGivenNames x9
            have h9 : Frame P s0 (x9) := by
              unfold x9
              refine frame_onBoot [.units, .partials, .boot] (within_trans (by decide) hp) (.inl rfl) (.inl rfl) (.inl rfl) ?_
              with_reducible assumption
            clear_value x9
            with_reducible apply frame_reply (within_trans (by decide) hp)
            with_reducible apply frame_ite
            · with_reducible apply frame_detectPort (within_trans (by decide) hp)
              with_reducible assumption
            · with_reducible assumption
  · with_reducible assumption

theorem frame_execHandshakeTimeout {P : List Part} {s0 : State} {kind : Nat} {unit : Nat} {s : State} (hp : within [.pkg, .link, .txn, .ledger, .dir, .mem, .dram, .deep, .integ, .recp, .core, .twin, .mirror, .traffic, .leaves, .power, .sec, .sessions, .boot, .units, .partials, .obs, .rings, .kodp, .running, .ctrs, .out, .free] P = true) (h : Frame P s0 s) : FrameO P s0 (execHandshakeTimeout kind unit s) := by
  unfold execHandshakeTimeout
  with_reducible apply frameO_ite
  · with_reducible apply frameO_next
    with_reducible assumption
  · with_reducible apply frameO_next
    with_reducible apply frame_ite
    · with_reducible assumption
    · with_reducible apply frame_ite
      · extract_lets +onlyGivenNames x0
        have h0 : Frame P s0 (x0) := by
          unfold x0
          with_reducible apply frame_timeoutFired (within_trans (by decide) hp)
          with_reducible assumption
        clear_value x0
        with_reducible apply frame_ite
        · with_reducible assumption
        · with_reducible apply frame_beginClusterReset (within_trans (by decide) hp)
          with_reducible assumption
      · with_reducible apply frame_ite
        · extract_lets +onlyGivenNames x1
          have h1 : Frame P s0 (x1) := by
            unfold x1
            with_reducible apply frame_timeoutFired (within_trans (by decide) hp)
            with_reducible assumption
          clear_value x1
          with_reducible apply frame_forAll
          · intro x2 x3 h4
            with_reducible apply frame_ite
            · with_reducible apply frame_retrainChannel (within_trans (by decide) hp)
              with_reducible assumption
            · with_reducible assumption
          · with_reducible assumption
        · with_reducible apply frame_ite
          · with_reducible apply frame_startReheat (within_trans (by decide) hp)
            with_reducible apply frame_timeoutFired (within_trans (by decide) hp)
            with_reducible assumption
          · with_reducible apply frame_ite
            · with_reducible apply frame_stopDataPath (within_trans (by decide) hp)
              with_reducible apply frame_timeoutFired (within_trans (by decide) hp)
              with_reducible assumption
            · with_reducible assumption

end Sys2Proof.Machine
end

