-- ==== Sys2Proof/Laws/FramePartners.lean ====
section
/-!
SUPPORT. Laws/FramePartners.lean: the frame of every operation and command of Machine/Partners.lean.
-/
namespace Sys2Proof.Machine

theorem frame_onOp {P : List Part} {s0 : State} {ok : Bool} {f : State → State} {s : State} (hp : within [] P = true) (h_f : (∀ x0, Frame P s0 x0 → Frame P s0 (f x0))) (h : Frame P s0 s) : FrameO P s0 (onOp ok f s) := by
  unfold onOp
  with_reducible apply frameO_next
  with_reducible apply frame_ite
  · with_reducible apply h_f
    with_reducible assumption
  · with_reducible assumption

theorem frame_attachNew {P : List Part} {s0 : State} {p : Packet} {s : State} (hp : within [.pkg, .txn, .ledger, .part, .dir, .mem, .dram, .deep, .integ, .recp, .core, .mirror, .traffic, .leaves, .power, .sec, .sessions, .obs, .rings, .kodp, .ctrs, .out, .free] P = true) (h : Frame P s0 s) : Frame P s0 (attachNew p s) := by
  unfold attachNew
  split
  · with_reducible apply frame_answerNow (within_trans (by decide) hp)
    with_reducible assumption
  · extract_lets +onlyGivenNames x0
    clear_value x0
    with_reducible apply frame_holdChange (within_trans (by decide) hp)
    · intro x1 h2
      with_reducible apply frame_mirrorSlot (within_trans (by decide) hp)
      with_reducible assumption
    · with_reducible apply frame_onPart (within_trans (by decide) hp)
      with_reducible assumption

theorem frame_loseChange {P : List Part} {s0 : State} {slot : Nat} {cause : Nat} {s : State} (hp : within [.pkg, .txn, .ledger, .part, .dir, .mem, .dram, .deep, .integ, .recp, .core, .mirror, .traffic, .leaves, .power, .sec, .sessions, .obs, .rings, .kodp, .ctrs, .out, .free] P = true) (h : Frame P s0 s) : Frame P s0 (loseChange slot cause s) := by
  unfold loseChange
  with_reducible apply frame_ite
  · with_reducible assumption
  · with_reducible apply frame_holdChange (within_trans (by decide) hp)
    · intro x0 h1
      with_reducible apply frame_mirrorSlot (within_trans (by decide) hp)
      with_reducible assumption
    · with_reducible assumption

theorem frame_leaveChange {P : List Part} {s0 : State} {slot : Nat} {s : State} (hp : within [.pkg, .txn, .ledger, .part, .dir, .mem, .dram, .deep, .integ, .recp, .core, .mirror, .traffic, .leaves, .power, .sec, .sessions, .obs, .rings, .kodp, .ctrs, .out, .free] P = true) (h : Frame P s0 s) : Frame P s0 (leaveChange slot s) := by
  unfold leaveChange
  with_reducible apply frame_ite
  · with_reducible assumption
  · with_reducible apply frame_holdChange (within_trans (by decide) hp)
    · intro x0 h1
      with_reducible apply frame_mirrorSlot (within_trans (by decide) hp)
      with_reducible assumption
    · with_reducible assumption

theorem frame_execAttach {P : List Part} {s0 : State} {port : Nat} {p : Packet} {s : State} (hp : within [.pkg, .txn, .ledger, .part, .dir, .mem, .dram, .deep, .integ, .recp, .core, .mirror, .traffic, .leaves, .power, .sec, .sessions, .obs, .rings, .kodp, .ctrs, .out, .free] P = true) (h : Frame P s0 s) : FrameO P s0 (execAttach port p s) := by
  unfold execAttach
  with_reducible apply frame_onOp (within_trans (by decide) hp)
  · intro x0 h1
    with_reducible apply frame_arriveFabric (within_trans (by decide) hp)
    · intro x2 x3 h4
      extract_lets +onlyGivenNames x5
      have h5 : Frame P s0 (x5) := by
        unfold x5
        with_reducible apply frame_onlyIf
        · intro x6 h7
          with_reducible apply frame_bump (within_trans (by decide) hp)
          with_reducible assumption
        · with_reducible assumption
      clear_value x5
      extract_lets +onlyGivenNames x8
      clear_value x8
      split
      · split
        · with_reducible apply frame_answerNow (within_trans (by decide) hp)
          with_reducible assumption
        · with_reducible apply frame_attachNew (within_trans (by decide) hp)
          with_reducible assumption
      · split
        · with_reducible assumption
        · with_reducible apply frame_ite
          · with_reducible apply frame_bump (within_trans (by decide) hp)
            with_reducible assumption
          · split
            · with_reducible apply frame_ite
              · with_reducible apply frame_bump (within_trans (by decide) hp)
                with_reducible apply frame_replayResponse (within_trans (by decide) hp)
                with_reducible assumption
              · with_reducible apply frame_bump (within_trans (by decide) hp)
                with_reducible apply frame_answerMismatch (within_trans (by decide) hp)
                with_reducible assumption
            · with_reducible apply frame_ite
              · with_reducible apply frame_sendAttachAck (within_trans (by decide) hp)
                with_reducible apply frame_onPart (within_trans (by decide) hp)
                with_reducible assumption
              · split
                · with_reducible apply frame_answerNow (within_trans (by decide) hp)
                  with_reducible assumption
                · with_reducible apply frame_answerNow (within_trans (by decide) hp)
                  with_reducible apply frame_ite
                  · with_reducible apply frame_loseChange (within_trans (by decide) hp)
                    with_reducible assumption
                  · with_reducible assumption
    · with_reducible assumption
  · with_reducible assumption

theorem frame_execHeartbeat {P : List Part} {s0 : State} {port : Nat} {p : Packet} {s : State} (hp : within [.ledger, .part, .mirror, .leaves, .sec, .ctrs] P = true) (h : Frame P s0 s) : FrameO P s0 (execHeartbeat port p s) := by
  unfold execHeartbeat
  with_reducible apply frame_onOp (within_trans (by decide) hp)
  · intro x0 h1
    with_reducible apply frame_arriveFabric (within_trans (by decide) hp)
    · intro x2 x3 h4
      extract_lets +onlyGivenNames x5
      have h5 : Frame P s0 (x5) := by
        unfold x5
        with_reducible apply frame_onlyIf
        · intro x6 h7
          with_reducible apply frame_bump (within_trans (by decide) hp)
          with_reducible assumption
        · with_reducible assumption
      clear_value x5
      split
      · with_reducible apply frame_bump (within_trans (by decide) hp)
        with_reducible apply frame_answerNow (within_trans (by decide) hp)
        with_reducible assumption
      · split
        · with_reducible assumption
        · extract_lets +onlyGivenNames x8
          have h8 : ∀ y0, ∀ y1, Frame P s0 y1 → Frame P s0 (x8 y0 y1) := by
            intro x9 x10 h11
            unfold x8
            with_reducible apply frame_finalGen (within_trans (by decide) hp)
            with_reducible apply frame_sendPacket (within_trans (by decide) hp)
            with_reducible assumption
          clear_value x8
          with_reducible apply frame_ite
          · with_reducible apply frame_bump (within_trans (by decide) hp)
            with_reducible apply frame_bump (within_trans (by decide) hp)
            with_reducible apply frame_answerNow (within_trans (by decide) hp)
            with_reducible assumption
          · with_reducible apply frame_ite
            · with_reducible apply frame_bump (within_trans (by decide) hp)
              with_reducible assumption
            · with_reducible apply frame_ite
              · with_reducible apply frame_answerNow (within_trans (by decide) hp)
                with_reducible assumption
              · with_reducible apply frame_ite
                · with_reducible apply h8
                  with_reducible apply frame_onPart (within_trans (by decide) hp)
                  with_reducible assumption
                · with_reducible apply h8
                  with_reducible assumption
    · with_reducible assumption
  · with_reducible assumption

theorem frame_execDetach {P : List Part} {s0 : State} {port : Nat} {p : Packet} {s : State} (hp : within [.pkg, .txn, .ledger, .part, .dir, .mem, .dram, .deep, .integ, .recp, .core, .mirror, .traffic, .leaves, .power, .sec, .sessions, .obs, .rings, .kodp, .ctrs, .out, .free] P = true) (h : Frame P s0 s) : FrameO P s0 (execDetach port p s) := by
  unfold execDetach
  with_reducible apply frame_onOp (within_trans (by decide) hp)
  · intro x0 h1
    with_reducible apply frame_arriveFabric (within_trans (by decide) hp)
    · intro x2 x3 h4
      extract_lets +onlyGivenNames x5
      have h5 : Frame P s0 (x5) := by
        unfold x5
        with_reducible apply frame_onlyIf
        · intro x6 h7
          with_reducible apply frame_bump (within_trans (by decide) hp)
          with_reducible assumption
        · with_reducible assumption
      clear_value x5
      split
      · with_reducible apply frame_ite
        · with_reducible apply frame_answerNow (within_trans (by decide) hp)
          with_reducible assumption
        · with_reducible apply frame_bump (within_trans (by decide) hp)
          with_reducible apply frame_answerNow (within_trans (by decide) hp)
          with_reducible assumption
      · split
        · with_reducible assumption
        · with_reducible apply frame_ite
          · with_reducible apply frame_bump (within_trans (by decide) hp)
            with_reducible apply frame_bump (within_trans (by decide) hp)
            with_reducible apply frame_answerNow (within_trans (by decide) hp)
            with_reducible assumption
          · with_reducible apply frame_ite
            · with_reducible apply frame_bump (within_trans (by decide) hp)
              with_reducible assumption
            · split
              · with_reducible apply frame_ite
                · with_reducible apply frame_bump (within_trans (by decide) hp)
                  with_reducible apply frame_replayResponse (within_trans (by decide) hp)
                  with_reducible assumption
                · with_reducible apply frame_bump (within_trans (by decide) hp)
                  with_reducible apply frame_answerMismatch (within_trans (by decide) hp)
                  with_reducible assumption
              · with_reducible apply frame_ite
                · with_reducible apply frame_answerNow (within_trans (by decide) hp)
                  with_reducible assumption
                · with_reducible apply frame_holdChange (within_trans (by decide) hp)
                  · intro x8 h9
                    with_reducible apply frame_mirrorSlot (within_trans (by decide) hp)
                    with_reducible assumption
                  · with_reducible assumption
    · with_reducible assumption
  · with_reducible assumption

theorem frame_execDetachComplete {P : List Part} {s0 : State} {slot : Nat} {s : State} (hp : within [.pkg, .txn, .ledger, .part, .dir, .mem, .dram, .deep, .integ, .recp, .core, .mirror, .traffic, .leaves, .power, .sec, .sessions, .obs, .rings, .kodp, .ctrs, .out, .free] P = true) (h : Frame P s0 s) : FrameO P s0 (execDetachComplete slot s) := by
  unfold execDetachComplete
  with_reducible apply frameO_ite
  · with_reducible apply frameO_next
    with_reducible assumption
  · split
    · with_reducible apply frameO_ite
      · extract_lets +onlyGivenNames x0
        have h0 : Frame P s0 (x0) := by
          unfold x0
          with_reducible apply frame_recallSlot (within_trans (by decide) hp)
          with_reducible assumption
        clear_value x0
        extract_lets +onlyGivenNames x1
        clear_value x1
        with_reducible apply frameO_next
        with_reducible apply frame_ite
        · with_reducible assumption
        · with_reducible apply frame_leaveChange (within_trans (by decide) hp)
          with_reducible assumption
      · with_reducible apply frameO_next
        with_reducible apply frame_ignoreEvent (within_trans (by decide) hp)
        with_reducible assumption
    · with_reducible apply frameO_next
      with_reducible apply frame_ignoreEvent (within_trans (by decide) hp)
      with_reducible assumption

theorem frame_execLeaseExpiry {P : List Part} {s0 : State} {slot : Nat} {s : State} (hp : within [.pkg, .txn, .ledger, .part, .dir, .mem, .dram, .deep, .integ, .recp, .core, .twin, .mirror, .traffic, .leaves, .power, .sec, .sessions, .obs, .rings, .kodp, .running, .ctrs, .out, .free] P = true) (h : Frame P s0 s) : FrameO P s0 (execLeaseExpiry slot s) := by
  unfold execLeaseExpiry
  with_reducible apply frameO_ite
  · with_reducible apply frameO_next
    with_reducible assumption
  · split
    · extract_lets +onlyGivenNames x0
      clear_value x0
      with_reducible apply frameO_next
      with_reducible apply frame_ite
      · with_reducible apply frame_settleWaits (within_trans (by decide) hp)
        with_reducible apply frame_timeoutFired (within_trans (by decide) hp)
        with_reducible apply frame_loseChange (within_trans (by decide) hp)
        with_reducible assumption
      · with_reducible apply frame_ignoreEvent (within_trans (by decide) hp)
        with_reducible assumption
    · with_reducible apply frameO_next
      with_reducible apply frame_ignoreEvent (within_trans (by decide) hp)
      with_reducible assumption

theorem frame_execPartnerLossWalkDone {P : List Part} {s0 : State} {slot : Nat} {s : State} (hp : within [.pkg, .txn, .ledger, .part, .dir, .mem, .dram, .deep, .integ, .recp, .core, .twin, .mirror, .traffic, .leaves, .power, .sec, .sessions, .obs, .rings, .kodp, .running, .ctrs, .out, .free] P = true) (h : Frame P s0 s) : FrameO P s0 (execPartnerLossWalkDone slot s) := by
  unfold execPartnerLossWalkDone
  with_reducible apply frameO_ite
  · with_reducible apply frameO_next
    with_reducible assumption
  · split
    · with_reducible apply frameO_ite
      · with_reducible apply frameO_ite
        · with_reducible apply frameO_next
          with_reducible assumption
        · with_reducible apply frameO_next
          with_reducible apply frame_settleWaits (within_trans (by decide) hp)
          with_reducible apply frame_leaveChange (within_trans (by decide) hp)
          with_reducible apply frame_forAll
          · intro x0 x1 h2
            with_reducible apply frame_applyLoss (within_trans (by decide) hp)
            with_reducible assumption
          · with_reducible assumption
      · with_reducible apply frameO_next
        with_reducible apply frame_ignoreEvent (within_trans (by decide) hp)
        with_reducible assumption
    · with_reducible apply frameO_next
      with_reducible apply frame_ignoreEvent (within_trans (by decide) hp)
      with_reducible assumption

theorem frame_execQuarantineExpiry {P : List Part} {s0 : State} {slot : Nat} {s : State} (hp : within [.pkg, .txn, .ledger, .part, .dir, .mem, .dram, .deep, .integ, .recp, .core, .mirror, .traffic, .leaves, .power, .sec, .sessions, .obs, .rings, .kodp, .ctrs, .out, .free] P = true) (h : Frame P s0 s) : FrameO P s0 (execQuarantineExpiry slot s) := by
  unfold execQuarantineExpiry
  with_reducible apply frameO_ite
  · with_reducible apply frameO_next
    with_reducible assumption
  · split
    · with_reducible apply frameO_next
      with_reducible apply frame_ite
      · with_reducible apply frame_ite
        · with_reducible assumption
        · with_reducible apply frame_holdChange (within_trans (by decide) hp)
          · intro x0 h1
            with_reducible apply frame_mirrorSlot (within_trans (by decide) hp)
            with_reducible assumption
          · with_reducible assumption
      · with_reducible apply frame_ignoreEvent (within_trans (by decide) hp)
        with_reducible assumption
    · with_reducible apply frameO_next
      with_reducible apply frame_ignoreEvent (within_trans (by decide) hp)
      with_reducible assumption

theorem frame_execE2eNak {P : List Part} {s0 : State} {port : Nat} {p : Packet} {s : State} (hp : within [.ledger, .mirror, .leaves, .sec, .ctrs] P = true) (h : Frame P s0 s) : FrameO P s0 (execE2eNak port p s) := by
  unfold execE2eNak
  with_reducible apply frame_onOp (within_trans (by decide) hp)
  · intro x0 h1
    with_reducible apply frame_arriveFabric (within_trans (by decide) hp)
    · intro x2 x3 h4
      split
      · with_reducible apply frame_ite
        · with_reducible apply frame_bump (within_trans (by decide) hp)
          with_reducible apply frame_bump (within_trans (by decide) hp)
          with_reducible apply frame_sendPacket (within_trans (by decide) hp)
          with_reducible assumption
        · with_reducible apply frame_bump (within_trans (by decide) hp)
          with_reducible assumption
      · with_reducible apply frame_bump (within_trans (by decide) hp)
        with_reducible assumption
    · with_reducible assumption
  · with_reducible assumption

theorem frame_execCtxInvalidate {P : List Part} {s0 : State} {r : Req} {ctx : Nat} {gen : Nat} {s : State} (hp : within [.pkg, .txn, .ledger, .part, .dir, .mem, .dram, .deep, .integ, .recp, .core, .twin, .mirror, .traffic, .leaves, .power, .sec, .sessions, .obs, .rings, .kodp, .running, .ctrs, .out, .free] P = true) (h : Frame P s0 s) : FrameO P s0 (execCtxInvalidate r ctx gen s) := by
  unfold execCtxInvalidate
  with_reducible apply frameO_next
  with_reducible apply frame_operate (within_trans (by decide) hp)
  · intro x0 h1
    with_reducible apply frame_settleWaits (within_trans (by decide) hp)
    with_reducible apply frame_holdChange (within_trans (by decide) hp)
    · intro x2 h3
      with_reducible apply frame_mirrorState (within_trans (by decide) hp)
      with_reducible assumption
    · with_reducible assumption
  · with_reducible assumption

theorem frame_execRecallRange {P : List Part} {s0 : State} {r : Req} {pa : Nat} {length : Nat} {s : State} (hp : within [.pkg, .txn, .ledger, .part, .dir, .mem, .dram, .deep, .integ, .recp, .twin, .mirror, .traffic, .leaves, .power, .sec, .sessions, .obs, .rings, .kodp, .running, .ctrs, .out, .free] P = true) (h : Frame P s0 s) : FrameO P s0 (execRecallRange r pa length s) := by
  unfold execRecallRange
  with_reducible apply frameO_next
  with_reducible apply frame_operate (within_trans (by decide) hp)
  · intro x0 h1
    extract_lets +onlyGivenNames x2
    clear_value x2
    extract_lets +onlyGivenNames x3
    clear_value x3
    with_reducible apply frame_settleWaits (within_trans (by decide) hp)
    with_reducible apply frame_onPart (within_trans (by decide) hp)
    with_reducible assumption
  · with_reducible assumption

theorem frame_execPartnerEvict {P : List Part} {s0 : State} {r : Req} {slot : Nat} {s : State} (hp : within [.pkg, .txn, .ledger, .part, .dir, .mem, .dram, .deep, .integ, .recp, .core, .twin, .mirror, .traffic, .leaves, .power, .sec, .sessions, .obs, .rings, .kodp, .running, .ctrs, .out, .free] P = true) (h : Frame P s0 s) : FrameO P s0 (execPartnerEvict r slot s) := by
  unfold execPartnerEvict
  extract_lets +onlyGivenNames x0
  clear_value x0
  with_reducible apply frameO_next
  with_reducible apply frame_operateOk (within_trans (by decide) hp)
  · intro x1 h2
    with_reducible apply frame_ite
    · with_reducible assumption
    · with_reducible apply frame_settleWaits (within_trans (by decide) hp)
      with_reducible apply frame_loseChange (within_trans (by decide) hp)
      with_reducible assumption
  · with_reducible assumption

theorem frame_execFqOverflowClear {P : List Part} {s0 : State} {r : Req} {ctx : Nat} {s : State} (hp : within [.ledger, .part, .mirror, .leaves, .sessions, .rings, .kodp, .running, .ctrs, .out] P = true) (h : Frame P s0 s) : FrameO P s0 (execFqOverflowClear r ctx s) := by
  unfold execFqOverflowClear
  with_reducible apply frameO_next
  with_reducible apply frame_operateOk (within_trans (by decide) hp)
  · intro x0 h1
    with_reducible apply frame_onPart (within_trans (by decide) hp)
    with_reducible assumption
  · with_reducible assumption

end Sys2Proof.Machine
end

