-- ==== Sys2Proof/Laws/FrameCoherence.lean ====
section
/-!
SUPPORT. Laws/FrameCoherence.lean: the frame of every operation and command of Machine/Coherence.lean.
-/
namespace Sys2Proof.Machine

theorem frame_execRdShared {P : List Part} {s0 : State} {port : Nat} {p : Packet} {s : State} (hp : within [.pkg, .txn, .ledger, .part, .dir, .mem, .dram, .deep, .integ, .mirror, .traffic, .leaves, .power, .sec, .sessions, .obs, .rings, .kodp, .ctrs, .out, .free] P = true) (h : Frame P s0 s) : FrameO P s0 (execRdShared port p s) := by
  unfold execRdShared
  with_reducible apply frame_onOp (within_trans (by decide) hp)
  · intro x0 h1
    with_reducible apply frame_arriveRequest (within_trans (by decide) hp)
    with_reducible assumption
  · with_reducible assumption

theorem frame_execRdUnique {P : List Part} {s0 : State} {port : Nat} {p : Packet} {s : State} (hp : within [.pkg, .txn, .ledger, .part, .dir, .mem, .dram, .deep, .integ, .mirror, .traffic, .leaves, .power, .sec, .sessions, .obs, .rings, .kodp, .ctrs, .out, .free] P = true) (h : Frame P s0 s) : FrameO P s0 (execRdUnique port p s) := by
  unfold execRdUnique
  with_reducible apply frame_onOp (within_trans (by decide) hp)
  · intro x0 h1
    with_reducible apply frame_arriveRequest (within_trans (by decide) hp)
    with_reducible assumption
  · with_reducible assumption

theorem frame_execRdOnce {P : List Part} {s0 : State} {port : Nat} {p : Packet} {s : State} (hp : within [.pkg, .txn, .ledger, .part, .dir, .mem, .dram, .deep, .integ, .mirror, .traffic, .leaves, .power, .sec, .sessions, .obs, .rings, .kodp, .ctrs, .out, .free] P = true) (h : Frame P s0 s) : FrameO P s0 (execRdOnce port p s) := by
  unfold execRdOnce
  with_reducible apply frame_onOp (within_trans (by decide) hp)
  · intro x0 h1
    with_reducible apply frame_arriveRequest (within_trans (by decide) hp)
    with_reducible assumption
  · with_reducible assumption

theorem frame_execWrLine {P : List Part} {s0 : State} {port : Nat} {p : Packet} {s : State} (hp : within [.pkg, .txn, .ledger, .part, .dir, .mem, .dram, .deep, .integ, .mirror, .traffic, .leaves, .power, .sec, .sessions, .obs, .rings, .kodp, .ctrs, .out, .free] P = true) (h : Frame P s0 s) : FrameO P s0 (execWrLine port p s) := by
  unfold execWrLine
  with_reducible apply frame_onOp (within_trans (by decide) hp)
  · intro x0 h1
    with_reducible apply frame_arriveRequest (within_trans (by decide) hp)
    with_reducible assumption
  · with_reducible assumption

theorem frame_execWrPart {P : List Part} {s0 : State} {port : Nat} {p : Packet} {s : State} (hp : within [.pkg, .txn, .ledger, .part, .dir, .mem, .dram, .deep, .integ, .mirror, .traffic, .leaves, .power, .sec, .sessions, .obs, .rings, .kodp, .ctrs, .out, .free] P = true) (h : Frame P s0 s) : FrameO P s0 (execWrPart port p s) := by
  unfold execWrPart
  with_reducible apply frame_onOp (within_trans (by decide) hp)
  · intro x0 h1
    with_reducible apply frame_arriveRequest (within_trans (by decide) hp)
    with_reducible assumption
  · with_reducible assumption

theorem frame_execWriteback {P : List Part} {s0 : State} {port : Nat} {p : Packet} {s : State} (hp : within [.pkg, .txn, .ledger, .part, .dir, .mem, .dram, .deep, .integ, .recp, .twin, .mirror, .traffic, .leaves, .power, .sec, .sessions, .obs, .rings, .kodp, .running, .ctrs, .out, .free] P = true) (h : Frame P s0 s) : FrameO P s0 (execWriteback port p s) := by
  unfold execWriteback
  with_reducible apply frame_onOp (within_trans (by decide) hp)
  · intro x0 h1
    with_reducible apply frame_settleWaits (within_trans (by decide) hp)
    with_reducible apply frame_arriveRequest (within_trans (by decide) hp)
    with_reducible assumption
  · with_reducible assumption

theorem frame_execEvictClean {P : List Part} {s0 : State} {port : Nat} {p : Packet} {s : State} (hp : within [.pkg, .txn, .ledger, .part, .dir, .mem, .dram, .deep, .integ, .recp, .twin, .mirror, .traffic, .leaves, .power, .sec, .sessions, .obs, .rings, .kodp, .running, .ctrs, .out, .free] P = true) (h : Frame P s0 s) : FrameO P s0 (execEvictClean port p s) := by
  unfold execEvictClean
  with_reducible apply frame_onOp (within_trans (by decide) hp)
  · intro x0 h1
    with_reducible apply frame_settleWaits (within_trans (by decide) hp)
    with_reducible apply frame_arriveRequest (within_trans (by decide) hp)
    with_reducible assumption
  · with_reducible assumption

theorem frame_execUpgrade {P : List Part} {s0 : State} {port : Nat} {p : Packet} {s : State} (hp : within [.pkg, .txn, .ledger, .part, .dir, .mem, .dram, .deep, .integ, .mirror, .traffic, .leaves, .power, .sec, .sessions, .obs, .rings, .kodp, .ctrs, .out, .free] P = true) (h : Frame P s0 s) : FrameO P s0 (execUpgrade port p s) := by
  unfold execUpgrade
  with_reducible apply frame_onOp (within_trans (by decide) hp)
  · intro x0 h1
    with_reducible apply frame_arriveRequest (within_trans (by decide) hp)
    with_reducible assumption
  · with_reducible assumption

theorem frame_execAtomic {P : List Part} {s0 : State} {port : Nat} {p : Packet} {s : State} (hp : within [.pkg, .txn, .ledger, .part, .dir, .mem, .dram, .deep, .integ, .mirror, .traffic, .leaves, .power, .sec, .sessions, .obs, .rings, .kodp, .ctrs, .out, .free] P = true) (h : Frame P s0 s) : FrameO P s0 (execAtomic port p s) := by
  unfold execAtomic
  with_reducible apply frame_onOp (within_trans (by decide) hp)
  · intro x0 h1
    with_reducible apply frame_arriveRequest (within_trans (by decide) hp)
    with_reducible assumption
  · with_reducible assumption

theorem frame_execRtRead {P : List Part} {s0 : State} {port : Nat} {p : Packet} {s : State} (hp : within [.pkg, .txn, .ledger, .part, .dir, .mem, .dram, .deep, .integ, .mirror, .traffic, .leaves, .power, .sec, .sessions, .obs, .rings, .kodp, .ctrs, .out, .free] P = true) (h : Frame P s0 s) : FrameO P s0 (execRtRead port p s) := by
  unfold execRtRead
  with_reducible apply frame_onOp (within_trans (by decide) hp)
  · intro x0 h1
    with_reducible apply frame_arriveRequest (within_trans (by decide) hp)
    with_reducible assumption
  · with_reducible assumption

theorem frame_execWrData {P : List Part} {s0 : State} {port : Nat} {p : Packet} {s : State} (hp : within [.pkg, .txn, .ledger, .part, .dir, .mem, .dram, .deep, .integ, .mirror, .leaves, .power, .sec, .sessions, .obs, .rings, .kodp, .ctrs, .out, .free] P = true) (h : Frame P s0 s) : FrameO P s0 (execWrData port p s) := by
  unfold execWrData
  with_reducible apply frame_onOp (within_trans (by decide) hp)
  · intro x0 h1
    with_reducible apply frame_arriveHalf (within_trans (by decide) hp)
    with_reducible assumption
  · with_reducible assumption

theorem frame_execWbData {P : List Part} {s0 : State} {port : Nat} {p : Packet} {s : State} (hp : within [.pkg, .txn, .ledger, .part, .dir, .mem, .dram, .deep, .integ, .recp, .twin, .mirror, .traffic, .leaves, .power, .sec, .sessions, .obs, .rings, .kodp, .running, .ctrs, .out, .free] P = true) (h : Frame P s0 s) : FrameO P s0 (execWbData port p s) := by
  unfold execWbData
  with_reducible apply frame_onOp (within_trans (by decide) hp)
  · intro x0 h1
    with_reducible apply frame_settleWaits (within_trans (by decide) hp)
    with_reducible apply frame_arriveHalf (within_trans (by decide) hp)
    with_reducible assumption
  · with_reducible assumption

theorem frame_execAtomicOpnd {P : List Part} {s0 : State} {port : Nat} {p : Packet} {s : State} (hp : within [.pkg, .txn, .ledger, .part, .dir, .mem, .dram, .deep, .integ, .mirror, .leaves, .power, .sec, .sessions, .obs, .rings, .kodp, .ctrs, .out, .free] P = true) (h : Frame P s0 s) : FrameO P s0 (execAtomicOpnd port p s) := by
  unfold execAtomicOpnd
  with_reducible apply frame_onOp (within_trans (by decide) hp)
  · intro x0 h1
    with_reducible apply frame_arriveHalf (within_trans (by decide) hp)
    with_reducible assumption
  · with_reducible assumption

theorem frame_execSnpData {P : List Part} {s0 : State} {port : Nat} {p : Packet} {s : State} (hp : within [.pkg, .txn, .ledger, .part, .dir, .mem, .dram, .deep, .integ, .recp, .twin, .mirror, .traffic, .leaves, .power, .sec, .sessions, .obs, .rings, .kodp, .running, .ctrs, .out, .free] P = true) (h : Frame P s0 s) : FrameO P s0 (execSnpData port p s) := by
  unfold execSnpData
  with_reducible apply frame_onOp (within_trans (by decide) hp)
  · intro x0 h1
    with_reducible apply frame_arriveFabric (within_trans (by decide) hp)
    · intro x2 x3 h4
      extract_lets +onlyGivenNames x5
      clear_value x5
      split
      · with_reducible apply frame_settleWaits (within_trans (by decide) hp)
        with_reducible apply frame_withRecall (within_trans (by decide) hp)
        · intro x6 h7
          with_reducible apply frame_takeSnoopData (within_trans (by decide) hp)
          with_reducible assumption
        · with_reducible assumption
      · refine frame_onTxn [.ledger, .txn] (within_trans (by decide) hp) (.inl rfl) (.inl rfl) ?_
        with_reducible assumption
    · with_reducible assumption
  · with_reducible assumption

theorem frame_execSnpRsp {P : List Part} {s0 : State} {port : Nat} {p : Packet} {s : State} (hp : within [.pkg, .txn, .ledger, .part, .dir, .mem, .dram, .deep, .integ, .recp, .twin, .mirror, .traffic, .leaves, .power, .sec, .sessions, .obs, .rings, .kodp, .running, .ctrs, .out, .free] P = true) (h : Frame P s0 s) : FrameO P s0 (execSnpRsp port p s) := by
  unfold execSnpRsp
  with_reducible apply frame_onOp (within_trans (by decide) hp)
  · intro x0 h1
    with_reducible apply frame_arriveFabric (within_trans (by decide) hp)
    · intro x2 x3 h4
      with_reducible apply frame_snoopAnswer (within_trans (by decide) hp)
      · intro x5 x6 x7 x8 x9 h10
        split
        extract_lets +onlyGivenNames x11
        have h11 : Frame P s0 (x11) := by
          unfold x11
          with_reducible apply frame_onlyIf
          · intro x12 h13
            with_reducible apply frame_bump (within_trans (by decide) hp)
            with_reducible assumption
          · with_reducible assumption
        clear_value x11
        with_reducible apply frame_ite
        · split
          · with_reducible apply frame_withRecall (within_trans (by decide) hp)
            · intro x14 h15
              with_reducible apply frame_takeSnoopData (within_trans (by decide) hp)
              with_reducible assumption
            · refine frame_onTxn [.ledger, .txn] (within_trans (by decide) hp) (.inl rfl) (.inl rfl) ?_
              with_reducible assumption
          · with_reducible apply frame_onDir (within_trans (by decide) hp)
            with_reducible assumption
        · extract_lets +onlyGivenNames x16
          have h16 : Frame P s0 (x16) := by
            unfold x16
            with_reducible apply frame_onlyIf
            · intro x17 h18
              with_reducible apply frame_advanceGen (within_trans (by decide) hp)
              with_reducible assumption
            · with_reducible assumption
          clear_value x16
          with_reducible apply frame_withRecall (within_trans (by decide) hp)
          · intro x19 h20
            with_reducible apply frame_answerState (within_trans (by decide) hp)
            with_reducible assumption
          · with_reducible apply frame_endPool (within_trans (by decide) hp)
            with_reducible assumption
      · with_reducible assumption
    · with_reducible assumption
  · with_reducible assumption

theorem frame_execCrossed {P : List Part} {s0 : State} {port : Nat} {p : Packet} {s : State} (hp : within [.pkg, .txn, .ledger, .part, .dir, .mem, .dram, .deep, .integ, .recp, .twin, .mirror, .traffic, .leaves, .power, .sec, .sessions, .obs, .rings, .kodp, .running, .ctrs, .out, .free] P = true) (h : Frame P s0 s) : FrameO P s0 (execCrossed port p s) := by
  unfold execCrossed
  with_reducible apply frame_onOp (within_trans (by decide) hp)
  · intro x0 h1
    with_reducible apply frame_arriveFabric (within_trans (by decide) hp)
    · intro x2 x3 h4
      with_reducible apply frame_snoopAnswer (within_trans (by decide) hp)
      · intro x5 x6 x7 x8 x9 h10
        extract_lets +onlyGivenNames x11
        have h11 : Frame P s0 (x11) := by
          unfold x11
          with_reducible apply frame_bump (within_trans (by decide) hp)
          with_reducible apply frame_endPool (within_trans (by decide) hp)
          with_reducible assumption
        clear_value x11
        extract_lets +onlyGivenNames x12
        have h12 : Frame P s0 (x12) := by
          unfold x12
          with_reducible apply frame_onlyIf
          · intro x13 h14
            with_reducible apply frame_advanceGen (within_trans (by decide) hp)
            with_reducible assumption
          · with_reducible assumption
        clear_value x12
        split
        · with_reducible apply frame_withRecall (within_trans (by decide) hp)
          · intro x15 h16
            with_reducible apply frame_settleSlot (within_trans (by decide) hp)
            with_reducible apply frame_takeEviction (within_trans (by decide) hp)
            with_reducible assumption
          · with_reducible assumption
        · with_reducible apply frame_onDir (within_trans (by decide) hp)
          with_reducible assumption
      · with_reducible assumption
    · with_reducible assumption
  · with_reducible assumption

theorem frame_execStashRsp {P : List Part} {s0 : State} {port : Nat} {p : Packet} {s : State} (hp : within [.txn, .ledger, .mirror, .leaves, .sec, .ctrs] P = true) (h : Frame P s0 s) : FrameO P s0 (execStashRsp port p s) := by
  unfold execStashRsp
  with_reducible apply frame_onOp (within_trans (by decide) hp)
  · intro x0 h1
    with_reducible apply frame_arriveFabric (within_trans (by decide) hp)
    · intro x2 x3 h4
      split
      · with_reducible apply frame_ite
        · extract_lets +onlyGivenNames x5
          have h5 : Frame P s0 (x5) := by
            unfold x5
            with_reducible apply frame_onlyIf
            · intro x6 h7
              with_reducible apply frame_advanceGen (within_trans (by decide) hp)
              with_reducible assumption
            · with_reducible apply frame_endPool (within_trans (by decide) hp)
              with_reducible assumption
          clear_value x5
          with_reducible apply frame_onlyIf
          · intro x8 h9
            with_reducible apply frame_bump (within_trans (by decide) hp)
            with_reducible assumption
          · with_reducible assumption
        · with_reducible assumption
      · with_reducible assumption
    · with_reducible assumption
  · with_reducible assumption

theorem frame_execRequestOrdered {P : List Part} {s0 : State} {src : Nat} {tag : Nat} {s : State} (hp : within [.pkg, .txn, .ledger, .part, .dir, .mem, .dram, .deep, .integ, .recp, .twin, .mirror, .traffic, .leaves, .power, .sec, .sessions, .obs, .rings, .kodp, .running, .ctrs, .out, .free] P = true) (h : Frame P s0 s) : FrameO P s0 (execRequestOrdered src tag s) := by
  unfold execRequestOrdered
  with_reducible apply frameO_ite
  · with_reducible apply frameO_next
    with_reducible assumption
  · split
    · with_reducible apply frameO_next
      with_reducible apply frame_ite
      · with_reducible assumption
      · with_reducible apply frame_ite
        · with_reducible apply frame_retryRecipe (within_trans (by decide) hp)
          with_reducible assumption
        · with_reducible apply frame_settleWaits (within_trans (by decide) hp)
          with_reducible apply frame_orderRequest (within_trans (by decide) hp)
          with_reducible assumption
    · with_reducible apply frameO_next
      with_reducible assumption

theorem frame_execRecallDeadline {P : List Part} {s0 : State} {line : Nat} {s : State} (hp : within [.pkg, .txn, .ledger, .part, .dir, .mem, .dram, .deep, .integ, .recp, .twin, .mirror, .traffic, .leaves, .power, .sec, .sessions, .obs, .rings, .kodp, .running, .ctrs, .out, .free] P = true) (h : Frame P s0 s) : FrameO P s0 (execRecallDeadline line s) := by
  unfold execRecallDeadline
  with_reducible apply frameO_ite
  · with_reducible apply frameO_next
    with_reducible assumption
  · split
    · extract_lets +onlyGivenNames x0
      clear_value x0
      extract_lets +onlyGivenNames x1
      clear_value x1
      extract_lets +onlyGivenNames x2
      have h2 : Frame P s0 (x2) := by
        unfold x2
        with_reducible apply frame_onlyIf
        · intro x3 h4
          with_reducible apply frame_bump (within_trans (by decide) hp)
          with_reducible apply frame_poisonLine (within_trans (by decide) hp)
          with_reducible assumption
        · with_reducible assumption
      clear_value x2
      extract_lets +onlyGivenNames x5
      have h5 : Frame P s0 (x5) := by
        unfold x5
        with_reducible apply frame_timeoutFired (within_trans (by decide) hp)
        with_reducible apply frame_bump (within_trans (by decide) hp)
        with_reducible assumption
      clear_value x5
      extract_lets +onlyGivenNames x6
      have h6 : Frame P s0 (x6) := by
        unfold x6
        with_reducible apply frame_forAll
        · intro x7 x8 h9
          with_reducible apply frame_notifyLimited (within_trans (by decide) hp)
          with_reducible assumption
        · with_reducible assumption
      clear_value x6
      extract_lets +onlyGivenNames x10
      clear_value x10
      extract_lets +onlyGivenNames x11
      have h11 : Frame P s0 (x11) := by
        unfold x11
        with_reducible apply frame_dropPool (within_trans (by decide) hp)
        with_reducible assumption
      clear_value x11
      with_reducible apply frameO_next
      with_reducible apply frame_settleWaits (within_trans (by decide) hp)
      with_reducible apply frame_withRecall (within_trans (by decide) hp)
      · intro x12 h13
        with_reducible apply frame_forAll
        · intro x14 x15 h16
          with_reducible apply frame_settleSlot (within_trans (by decide) hp)
          split
          · with_reducible apply frame_ite
            · with_reducible assumption
            · with_reducible apply frame_putEntry (within_trans (by decide) hp)
              with_reducible assumption
          · with_reducible assumption
        · with_reducible assumption
      · with_reducible assumption
    · with_reducible apply frameO_next
      with_reducible assumption

theorem frame_execParkedPresent {P : List Part} {s0 : State} {line : Nat} {s : State} (hp : within [.pkg, .txn, .ledger, .part, .dir, .mem, .dram, .deep, .integ, .recp, .twin, .mirror, .traffic, .leaves, .power, .sec, .sessions, .obs, .rings, .kodp, .running, .ctrs, .out, .free] P = true) (h : Frame P s0 s) : FrameO P s0 (execParkedPresent line s) := by
  unfold execParkedPresent
  with_reducible apply frameO_ite
  · with_reducible apply frameO_next
    with_reducible assumption
  · with_reducible apply frameO_ite
    · with_reducible apply frameO_next
      with_reducible assumption
    · with_reducible apply frameO_next
      with_reducible apply frame_settleWaits (within_trans (by decide) hp)
      with_reducible apply frame_forAll
      · intro x0 x1 h2
        split
        · split
          · with_reducible apply frame_ite
            · with_reducible apply frame_orderRequest (within_trans (by decide) hp)
              with_reducible assumption
            · with_reducible assumption
          · with_reducible assumption
        · with_reducible apply frame_ite
          · with_reducible apply frame_presentAccess (within_trans (by decide) hp)
            with_reducible assumption
          · with_reducible assumption
      · with_reducible assumption

theorem frame_execPairingTimeout {P : List Part} {s0 : State} {src : Nat} {tag : Nat} {s : State} (hp : within [.pkg, .txn, .ledger, .part, .dir, .mem, .dram, .deep, .integ, .recp, .twin, .mirror, .traffic, .leaves, .power, .sec, .sessions, .obs, .rings, .kodp, .running, .ctrs, .out, .free] P = true) (h : Frame P s0 s) : FrameO P s0 (execPairingTimeout src tag s) := by
  unfold execPairingTimeout
  with_reducible apply frameO_ite
  · with_reducible apply frameO_next
    with_reducible assumption
  · split
    · with_reducible apply frameO_ite
      · with_reducible apply frameO_next
        with_reducible apply frame_settleWaits (within_trans (by decide) hp)
        with_reducible apply frame_timeoutFired (within_trans (by decide) hp)
        with_reducible apply frame_bump (within_trans (by decide) hp)
        with_reducible apply frame_finishStatus (within_trans (by decide) hp)
        with_reducible assumption
      · with_reducible apply frameO_next
        with_reducible assumption
    · split
      · with_reducible apply frameO_next
        with_reducible apply frame_timeoutFired (within_trans (by decide) hp)
        with_reducible apply frame_bump (within_trans (by decide) hp)
        refine frame_onTxn [.ledger, .txn] (within_trans (by decide) hp) (.inl rfl) (.inl rfl) ?_
        with_reducible assumption
      · with_reducible apply frameO_next
        refine frame_onTxn [.ledger, .txn] (within_trans (by decide) hp) (.inl rfl) (.inl rfl) ?_
        with_reducible assumption

theorem frame_execRequestWithdraw {P : List Part} {s0 : State} {src : Nat} {tag : Nat} {s : State} (hp : within [.pkg, .txn, .ledger, .part, .dir, .mem, .dram, .deep, .integ, .recp, .twin, .mirror, .traffic, .leaves, .power, .sec, .sessions, .obs, .rings, .kodp, .running, .ctrs, .out, .free] P = true) (h : Frame P s0 s) : FrameO P s0 (execRequestWithdraw src tag s) := by
  unfold execRequestWithdraw
  with_reducible apply frameO_ite
  · with_reducible apply frameO_next
    with_reducible assumption
  · split
    · with_reducible apply frameO_ite
      · with_reducible apply frameO_next
        with_reducible assumption
      · extract_lets +onlyGivenNames x0
        have h0 : Frame P s0 (x0) := by
          unfold x0
          with_reducible apply frame_onDeep (within_trans (by decide) hp)
          with_reducible assumption
        clear_value x0
        extract_lets +onlyGivenNames x1
        have h1 : Frame P s0 (x1) := by
          unfold x1
          with_reducible apply frame_onlyIf
          · intro x2 h3
            with_reducible apply frame_releaseHalf (within_trans (by decide) hp)
            with_reducible assumption
          · with_reducible assumption
        clear_value x1
        with_reducible apply frameO_next
        with_reducible apply frame_settleWaits (within_trans (by decide) hp)
        with_reducible apply frame_settleAged (within_trans (by decide) hp)
        with_reducible apply frame_timeoutFired (within_trans (by decide) hp)
        with_reducible apply frame_finishStatus (within_trans (by decide) hp)
        with_reducible assumption
    · with_reducible apply frameO_next
      with_reducible assumption

theorem frame_execUnroutableTimeout {P : List Part} {s0 : State} {dest : Nat} {s : State} (hp : within [.leaves, .ctrs] P = true) (h : Frame P s0 s) : FrameO P s0 (execUnroutableTimeout dest s) := by
  unfold execUnroutableTimeout
  with_reducible apply frameO_ite
  · with_reducible apply frameO_next
    with_reducible assumption
  · extract_lets +onlyGivenNames x0
    clear_value x0
    split
    · with_reducible apply frameO_next
      with_reducible assumption
    · extract_lets +onlyGivenNames x1
      clear_value x1
      with_reducible apply frameO_next
      with_reducible apply frame_bump (within_trans (by decide) hp)
      refine frame_onTraffic [.leaves] (within_trans (by decide) hp) (.inl rfl) (.inr fun _ => rfl) ?_
      with_reducible assumption

theorem frame_execPoolResend {P : List Part} {s0 : State} {dest : Nat} {tag : Nat} {s : State} (hp : within [.ledger, .leaves, .ctrs] P = true) (h : Frame P s0 s) : FrameO P s0 (execPoolResend dest tag s) := by
  unfold execPoolResend
  with_reducible apply frameO_ite
  · with_reducible apply frameO_next
    with_reducible assumption
  · split
    · with_reducible apply frameO_ite
      · with_reducible apply frameO_next
        with_reducible apply frame_bump (within_trans (by decide) hp)
        with_reducible apply frame_sendPacket (within_trans (by decide) hp)
        with_reducible assumption
      · with_reducible apply frameO_next
        with_reducible assumption
    · with_reducible apply frameO_next
      with_reducible assumption

theorem frame_execDirectoryLookup {P : List Part} {s0 : State} {r : Req} {pa : Nat} {s : State} (hp : within [.ledger, .mirror, .leaves, .sessions, .rings, .kodp, .running, .ctrs, .out] P = true) (h : Frame P s0 s) : FrameO P s0 (execDirectoryLookup r pa s) := by
  unfold execDirectoryLookup
  extract_lets +onlyGivenNames x0
  clear_value x0
  with_reducible apply frameO_next
  with_reducible apply frame_operate (within_trans (by decide) hp)
  · intro x1 h2
    with_reducible apply frame_reply (within_trans (by decide) hp)
    with_reducible assumption
  · with_reducible assumption

theorem frame_execMalformedPacket {P : List Part} {s0 : State} {port : Nat} {p : Packet} {s : State} (hp : within [.ledger, .mirror, .leaves, .sec, .ctrs] P = true) (h : Frame P s0 s) : FrameO P s0 (execMalformedPacket port p s) := by
  unfold execMalformedPacket
  with_reducible apply frameO_ite
  · with_reducible apply frame_onOp (within_trans (by decide) hp)
    · intro x0 h1
      with_reducible apply frame_arriveFabric (within_trans (by decide) hp)
      · intro x2 x3 h4
        with_reducible assumption
      · with_reducible assumption
    · with_reducible assumption
  · with_reducible apply frame_onOp (within_trans (by decide) hp)
    · intro x5 h6
      with_reducible apply frame_arriveLink (within_trans (by decide) hp)
      · intro x7 x8 h9
        with_reducible assumption
      · with_reducible assumption
    · with_reducible assumption

theorem frame_execTimeSyncSend {P : List Part} {s0 : State} {port : Nat} {s : State} (hp : within [.link] P = true) (h : Frame P s0 s) : FrameO P s0 (execTimeSyncSend port s) := by
  unfold execTimeSyncSend
  with_reducible apply frameO_ite
  · with_reducible apply frameO_next
    with_reducible assumption
  · extract_lets +onlyGivenNames x0
    clear_value x0
    extract_lets +onlyGivenNames x1
    clear_value x1
    split
    with_reducible apply frameO_ite
    · extract_lets +onlyGivenNames x2
      clear_value x2
      with_reducible apply frameO_next
      with_reducible apply frame_setPort (within_trans (by decide) hp)
      with_reducible assumption
    · with_reducible apply frameO_next
      with_reducible assumption

end Sys2Proof.Machine
end

