-- ==== Sys2Proof/Laws/FrameDeep.lean ====
section
/-!
SUPPORT. Laws/FrameDeep.lean: the frame of every operation and command of Machine/Deep.lean.
-/
namespace Sys2Proof.Machine

theorem frame_arriveDeep {P : List Part} {s0 : State} {op : Nat} {port : Nat} {p : Packet} {go : Nat → Packet → State → State} {s : State} (hp : within [.leaves, .ctrs] P = true) (h_go : (∀ x0, ∀ x1, ∀ x2, Frame P s0 x2 → Frame P s0 (go x0 x1 x2))) (h : Frame P s0 s) : Frame P s0 (arriveDeep op port p go s) := by
  unfold arriveDeep
  with_reducible apply frame_ite
  · with_reducible assumption
  · with_reducible apply frame_arriveLink (within_trans (by decide) hp)
    · intro x0 x1 h2
      with_reducible apply h_go
      with_reducible assumption
    · with_reducible assumption

theorem frame_execDtInfoData {P : List Part} {s0 : State} {port : Nat} {p : Packet} {s : State} (hp : within [.txn, .ledger, .deep, .leaves, .sessions, .boot, .rings, .kodp, .ctrs, .out] P = true) (h : Frame P s0 s) : FrameO P s0 (execDtInfoData port p s) := by
  unfold execDtInfoData
  with_reducible apply frameO_next
  with_reducible apply frame_arriveDeep (within_trans (by decide) hp)
  · intro x0 x1 x2 h3
    split
    · with_reducible assumption
    · extract_lets +onlyGivenNames x4
      clear_value x4
      extract_lets +onlyGivenNames x5
      have h5 : Frame P s0 (x5) := by
        unfold x5
        with_reducible apply frame_setSled (within_trans (by decide) hp)
        with_reducible apply frame_endPool (within_trans (by decide) hp)
        with_reducible assumption
      clear_value x5
      with_reducible apply frame_claimAfterInfo (within_trans (by decide) hp)
      with_reducible apply frame_onlyIf
      · intro x6 h7
        with_reducible apply frame_exhaust (within_trans (by decide) hp)
        with_reducible assumption
      · with_reducible assumption
  · with_reducible assumption

theorem frame_execDtReadData {P : List Part} {s0 : State} {port : Nat} {p : Packet} {s : State} (hp : within [.pkg, .txn, .ledger, .part, .dir, .mem, .dram, .deep, .integ, .recp, .twin, .mirror, .traffic, .leaves, .power, .sec, .sessions, .obs, .rings, .kodp, .running, .ctrs, .out, .free] P = true) (h : Frame P s0 s) : FrameO P s0 (execDtReadData port p s) := by
  unfold execDtReadData
  with_reducible apply frameO_next
  with_reducible apply frame_arriveDeep (within_trans (by decide) hp)
  · intro x0 x1 x2 h3
    split
    · with_reducible assumption
    · extract_lets +onlyGivenNames x4
      clear_value x4
      extract_lets +onlyGivenNames x5
      clear_value x5
      extract_lets +onlyGivenNames x6
      clear_value x6
      with_reducible apply frame_ite
      · with_reducible assumption
      · with_reducible apply frame_ite
        · with_reducible apply frame_completeFill (within_trans (by decide) hp)
          with_reducible apply frame_setFill (within_trans (by decide) hp)
          with_reducible assumption
        · with_reducible apply frame_ite
          · with_reducible assumption
          · extract_lets +onlyGivenNames x7
            have h7 : Frame P s0 (x7) := by
              unfold x7
              with_reducible apply frame_placeLine (within_trans (by decide) hp)
              with_reducible apply frame_placeLine (within_trans (by decide) hp)
              with_reducible assumption
            clear_value x7
            extract_lets +onlyGivenNames x8
            have h8 : Frame P s0 (x8) := by
              unfold x8
              with_reducible apply frame_setFill (within_trans (by decide) hp)
              with_reducible assumption
            clear_value x8
            with_reducible apply frame_settleWaits (within_trans (by decide) hp)
            with_reducible apply frame_completeFill (within_trans (by decide) hp)
            with_reducible apply frame_wakeGranule (within_trans (by decide) hp)
            with_reducible assumption
  · with_reducible assumption

theorem frame_execDtCmp {P : List Part} {s0 : State} {port : Nat} {p : Packet} {s : State} (hp : within [.pkg, .txn, .ledger, .part, .dir, .mem, .dram, .deep, .integ, .recp, .core, .twin, .mirror, .traffic, .leaves, .power, .sec, .sessions, .obs, .rings, .kodp, .running, .ctrs, .out, .free] P = true) (h : Frame P s0 s) : FrameO P s0 (execDtCmp port p s) := by
  unfold execDtCmp
  with_reducible apply frameO_next
  with_reducible apply frame_arriveDeep (within_trans (by decide) hp)
  · intro x0 x1 x2 h3
    split
    · with_reducible assumption
    · with_reducible apply frame_settleWaits (within_trans (by decide) hp)
      with_reducible apply frame_sledAnswer (within_trans (by decide) hp)
      with_reducible assumption
  · with_reducible assumption

theorem frame_execDeepMissingUnits {P : List Part} {s0 : State} {cluster : Nat} {set : Nat} {way : Nat} {s : State} (hp : within [.pkg, .txn, .ledger, .part, .dir, .mem, .dram, .deep, .integ, .recp, .twin, .mirror, .traffic, .leaves, .power, .sec, .sessions, .obs, .rings, .kodp, .running, .ctrs, .out, .free] P = true) (h : Frame P s0 s) : FrameO P s0 (execDeepMissingUnits cluster set way s) := by
  unfold execDeepMissingUnits
  with_reducible apply frameO_ite
  · with_reducible apply frameO_next
    with_reducible assumption
  · with_reducible apply frameO_next
    split
    · with_reducible assumption
    · with_reducible apply frame_ite
      · with_reducible assumption
      · with_reducible apply frame_ite
        · extract_lets +onlyGivenNames x0
          clear_value x0
          extract_lets +onlyGivenNames x1
          clear_value x1
          with_reducible apply frame_setFill (within_trans (by decide) hp)
          with_reducible apply frame_sendDt (within_trans (by decide) hp)
          with_reducible assumption
        · extract_lets +onlyGivenNames x2
          clear_value x2
          extract_lets +onlyGivenNames x3
          have h3 : Frame P s0 (x3) := by
            unfold x3
            with_reducible apply frame_forAll
            · intro x4 x5 h6
              with_reducible apply frame_placeLine (within_trans (by decide) hp)
              with_reducible assumption
            · with_reducible assumption
          clear_value x3
          extract_lets +onlyGivenNames x7
          have h7 : Frame P s0 (x7) := by
            unfold x7
            with_reducible apply frame_setFill (within_trans (by decide) hp)
            with_reducible assumption
          clear_value x7
          with_reducible apply frame_settleWaits (within_trans (by decide) hp)
          with_reducible apply frame_completeFill (within_trans (by decide) hp)
          with_reducible assumption

theorem frame_execDirtyAgeExpiry {P : List Part} {s0 : State} {cluster : Nat} {set : Nat} {way : Nat} {s : State} (hp : within [.pkg, .txn, .ledger, .mem, .dram, .deep, .mirror, .leaves, .power, .rings, .ctrs, .free] P = true) (h : Frame P s0 s) : FrameO P s0 (execDirtyAgeExpiry cluster set way s) := by
  unfold execDirtyAgeExpiry
  with_reducible apply frameO_ite
  · with_reducible apply frameO_next
    with_reducible assumption
  · with_reducible apply frameO_next
    with_reducible apply frame_ite
    · with_reducible apply frame_runQueue (within_trans (by decide) hp)
      with_reducible apply frame_queueWriteback (within_trans (by decide) hp)
      with_reducible apply frame_onDeep (within_trans (by decide) hp)
      with_reducible assumption
    · with_reducible assumption

theorem frame_execDeepWaitResume {P : List Part} {s0 : State} {cluster : Nat} {s : State} (hp : within [.pkg, .txn, .ledger, .part, .dir, .mem, .dram, .deep, .integ, .recp, .twin, .mirror, .traffic, .leaves, .power, .sec, .sessions, .obs, .rings, .kodp, .running, .ctrs, .out, .free] P = true) (h : Frame P s0 s) : FrameO P s0 (execDeepWaitResume cluster s) := by
  unfold execDeepWaitResume
  with_reducible apply frameO_ite
  · with_reducible apply frameO_next
    with_reducible assumption
  · with_reducible apply frameO_next
    with_reducible apply frame_settleWaits (within_trans (by decide) hp)
    with_reducible apply frame_bulkStep (within_trans (by decide) hp)
    with_reducible apply frame_forAll
    · intro x0 x1 h2
      split
      · with_reducible apply frame_orderRequest (within_trans (by decide) hp)
        with_reducible assumption
      · with_reducible assumption
    · with_reducible assumption

theorem frame_execSledWaitTimeout {P : List Part} {s0 : State} {sled : Nat} {s : State} (hp : within [.pkg, .txn, .ledger, .part, .dir, .mem, .dram, .deep, .integ, .recp, .twin, .mirror, .traffic, .leaves, .power, .sec, .sessions, .obs, .rings, .kodp, .running, .ctrs, .out, .free] P = true) (h : Frame P s0 s) : FrameO P s0 (execSledWaitTimeout sled s) := by
  unfold execSledWaitTimeout
  with_reducible apply frameO_ite
  · with_reducible apply frameO_next
    with_reducible assumption
  · with_reducible apply frameO_next
    with_reducible apply frame_ite
    · with_reducible assumption
    · extract_lets +onlyGivenNames x0
      clear_value x0
      extract_lets +onlyGivenNames x1
      clear_value x1
      extract_lets +onlyGivenNames x2
      have h2 : Frame P s0 (x2) := by
        unfold x2
        with_reducible apply frame_forAll
        · intro x3 x4 h5
          with_reducible apply frame_failWaiting (within_trans (by decide) hp)
          with_reducible assumption
        · with_reducible assumption
      clear_value x2
      with_reducible apply frame_settleWaits (within_trans (by decide) hp)
      with_reducible apply frame_ite
      · with_reducible apply frame_notify (within_trans (by decide) hp)
        with_reducible apply frame_setSled (within_trans (by decide) hp)
        with_reducible assumption
      · with_reducible assumption

theorem frame_startBulk {P : List Part} {s0 : State} {which : Nat} {r : Req} {pa : Nat} {length : Nat} {s : State} (hp : within [.pkg, .txn, .ledger, .part, .dir, .mem, .dram, .deep, .integ, .recp, .twin, .mirror, .traffic, .leaves, .power, .sec, .sessions, .obs, .rings, .kodp, .running, .ctrs, .out, .free] P = true) (h : Frame P s0 s) : Frame P s0 (startBulk which r pa length s) := by
  unfold startBulk
  extract_lets +onlyGivenNames x0
  clear_value x0
  extract_lets +onlyGivenNames x1
  clear_value x1
  with_reducible apply frame_operate (within_trans (by decide) hp)
  · intro x2 h3
    with_reducible apply frame_settleWaits (within_trans (by decide) hp)
    with_reducible apply frame_bulkStep (within_trans (by decide) hp)
    with_reducible apply frame_onDeep (within_trans (by decide) hp)
    with_reducible assumption
  · with_reducible assumption

theorem frame_execDeepPin {P : List Part} {s0 : State} {r : Req} {pa : Nat} {length : Nat} {s : State} (hp : within [.pkg, .txn, .ledger, .part, .dir, .mem, .dram, .deep, .integ, .recp, .twin, .mirror, .traffic, .leaves, .power, .sec, .sessions, .obs, .rings, .kodp, .running, .ctrs, .out, .free] P = true) (h : Frame P s0 s) : FrameO P s0 (execDeepPin r pa length s) := by
  unfold execDeepPin
  with_reducible apply frameO_next
  with_reducible apply frame_startBulk (within_trans (by decide) hp)
  with_reducible assumption

theorem frame_execDeepPrefetch {P : List Part} {s0 : State} {r : Req} {pa : Nat} {length : Nat} {s : State} (hp : within [.pkg, .txn, .ledger, .part, .dir, .mem, .dram, .deep, .integ, .recp, .twin, .mirror, .traffic, .leaves, .power, .sec, .sessions, .obs, .rings, .kodp, .running, .ctrs, .out, .free] P = true) (h : Frame P s0 s) : FrameO P s0 (execDeepPrefetch r pa length s) := by
  unfold execDeepPrefetch
  with_reducible apply frameO_next
  with_reducible apply frame_startBulk (within_trans (by decide) hp)
  with_reducible assumption

theorem frame_execDeepTrim {P : List Part} {s0 : State} {r : Req} {pa : Nat} {length : Nat} {s : State} (hp : within [.pkg, .txn, .ledger, .part, .dir, .mem, .dram, .deep, .integ, .recp, .twin, .mirror, .traffic, .leaves, .power, .sec, .sessions, .obs, .rings, .kodp, .running, .ctrs, .out, .free] P = true) (h : Frame P s0 s) : FrameO P s0 (execDeepTrim r pa length s) := by
  unfold execDeepTrim
  with_reducible apply frameO_next
  with_reducible apply frame_startBulk (within_trans (by decide) hp)
  with_reducible assumption

theorem frame_execDeepUnpin {P : List Part} {s0 : State} {r : Req} {pa : Nat} {length : Nat} {s : State} (hp : within [.pkg, .ledger, .mem, .dram, .mirror, .leaves, .power, .sessions, .rings, .kodp, .running, .ctrs, .out, .free] P = true) (h : Frame P s0 s) : FrameO P s0 (execDeepUnpin r pa length s) := by
  unfold execDeepUnpin
  with_reducible apply frameO_next
  with_reducible apply frame_operateOk (within_trans (by decide) hp)
  · intro x0 h1
    with_reducible apply frame_forAll
    · intro x2 x3 h4
      split
      · extract_lets +onlyGivenNames x5
        clear_value x5
        with_reducible apply frame_ite
        · with_reducible apply frame_setTag (within_trans (by decide) hp)
          with_reducible assumption
        · with_reducible assumption
      · with_reducible assumption
    · with_reducible assumption
  · with_reducible assumption

theorem frame_execDeepFlush {P : List Part} {s0 : State} {r : Req} {sled : Nat} {s : State} (hp : within [.pkg, .txn, .ledger, .part, .dir, .mem, .dram, .deep, .integ, .recp, .twin, .mirror, .traffic, .leaves, .power, .sec, .sessions, .obs, .rings, .kodp, .running, .ctrs, .out, .free] P = true) (h : Frame P s0 s) : FrameO P s0 (execDeepFlush r sled s) := by
  unfold execDeepFlush
  with_reducible apply frameO_next
  with_reducible apply frame_operate (within_trans (by decide) hp)
  · intro x0 h1
    with_reducible apply frame_settleWaits (within_trans (by decide) hp)
    with_reducible apply frame_bulkStep (within_trans (by decide) hp)
    with_reducible apply frame_onDeep (within_trans (by decide) hp)
    with_reducible assumption
  · with_reducible assumption

theorem frame_execSledClaimForce {P : List Part} {s0 : State} {r : Req} {sled : Nat} {s : State} (hp : within [.txn, .ledger, .deep, .mirror, .leaves, .sessions, .rings, .kodp, .running, .ctrs, .out] P = true) (h : Frame P s0 s) : FrameO P s0 (execSledClaimForce r sled s) := by
  unfold execSledClaimForce
  with_reducible apply frameO_next
  with_reducible apply frame_operateOk (within_trans (by decide) hp)
  · intro x0 h1
    with_reducible apply frame_sendClaim (within_trans (by decide) hp)
    with_reducible apply frame_setSled (within_trans (by decide) hp)
    with_reducible assumption
  · with_reducible assumption

theorem frame_execPoolRequestTimeout {P : List Part} {s0 : State} {dest : Nat} {tag : Nat} {s : State} (hp : within [.pkg, .txn, .ledger, .part, .dir, .mem, .dram, .deep, .integ, .recp, .core, .twin, .mirror, .traffic, .leaves, .power, .sec, .sessions, .obs, .rings, .kodp, .running, .ctrs, .out, .free] P = true) (h : Frame P s0 s) : FrameO P s0 (execPoolRequestTimeout dest tag s) := by
  unfold execPoolRequestTimeout
  with_reducible apply frameO_ite
  · with_reducible apply frameO_next
    with_reducible assumption
  · with_reducible apply frameO_next
    split
    · with_reducible assumption
    · extract_lets +onlyGivenNames x0
      have h0 : Frame P s0 (x0) := by
        unfold x0
        with_reducible apply frame_timeoutFired (within_trans (by decide) hp)
        with_reducible apply frame_bump (within_trans (by decide) hp)
        with_reducible assumption
      clear_value x0
      split
      · with_reducible apply frame_settleWaits (within_trans (by decide) hp)
        with_reducible apply frame_sledAnswer (within_trans (by decide) hp)
        with_reducible assumption
      · with_reducible apply frame_settleWaits (within_trans (by decide) hp)
        with_reducible apply frame_endRepair (within_trans (by decide) hp)
        with_reducible apply frame_endPool (within_trans (by decide) hp)
        with_reducible assumption
      · with_reducible apply frame_endPool (within_trans (by decide) hp)
        with_reducible assumption

end Sys2Proof.Machine
end

