-- ==== Sys2Proof/Laws/FrameDram.lean ====
section
/-!
SUPPORT. Laws/FrameDram.lean: the frame of every operation and command of Machine/Dram.lean.
-/
namespace Sys2Proof.Machine

theorem frame_pullIn {P : List Part} {s0 : State} {ch : Nat} {pseudo : Nat} {s : State} (hp : within [.dram, .out] P = true) (h : Frame P s0 s) : Frame P s0 (pullIn ch pseudo s) := by
  unfold pullIn
  extract_lets +onlyGivenNames x0
  clear_value x0
  with_reducible apply frame_ite
  · with_reducible assumption
  · split
    · with_reducible apply frame_refreshBank (within_trans (by decide) hp)
      with_reducible assumption
    · with_reducible assumption

theorem frame_execDramCommandSlot {P : List Part} {s0 : State} {channel : Nat} {pseudo : Nat} {s : State} (hp : within [.dram, .ctrs, .out] P = true) (h : Frame P s0 s) : FrameO P s0 (execDramCommandSlot channel pseudo s) := by
  unfold execDramCommandSlot
  with_reducible apply frameO_ite
  · with_reducible apply frameO_next
    with_reducible assumption
  · with_reducible apply frameO_ite
    · with_reducible apply frameO_next
      with_reducible assumption
    · with_reducible apply frameO_ite
      · with_reducible apply frameO_next
        with_reducible apply frame_pullIn (within_trans (by decide) hp)
        with_reducible assumption
      · extract_lets +onlyGivenNames x0
        have h0 : Frame P s0 (x0) := by
          unfold x0
          with_reducible apply frame_panicUpdate (within_trans (by decide) hp)
          with_reducible apply frame_setChannel (within_trans (by decide) hp)
          with_reducible assumption
        clear_value x0
        extract_lets +onlyGivenNames x1
        clear_value x1
        extract_lets +onlyGivenNames x2
        clear_value x2
        split
        · with_reducible apply frameO_next
          with_reducible apply frame_refreshBank (within_trans (by decide) hp)
          with_reducible assumption
        · split
          · with_reducible apply frameO_next
            with_reducible apply frame_issueDram (within_trans (by decide) hp)
            with_reducible assumption
          · split
            · with_reducible apply frameO_next
              with_reducible apply frame_refreshBank (within_trans (by decide) hp)
              with_reducible assumption
            · with_reducible apply frameO_next
              with_reducible assumption

theorem frame_execDramDataReturn {P : List Part} {s0 : State} {channel : Nat} {id : Nat} {errors : List (Nat × Nat)} {s : State} (hp : within [.pkg, .txn, .ledger, .part, .dir, .mem, .dram, .deep, .integ, .recp, .twin, .mirror, .traffic, .leaves, .power, .sec, .sessions, .obs, .rings, .kodp, .running, .ctrs, .out, .free] P = true) (h : Frame P s0 s) : FrameO P s0 (execDramDataReturn channel id errors s) := by
  unfold execDramDataReturn
  with_reducible apply frameO_ite
  · with_reducible apply frameO_next
    with_reducible assumption
  · split
    · with_reducible apply frameO_next
      with_reducible assumption
    · extract_lets +onlyGivenNames x0
      have h0 : Frame P s0 (x0) := by
        unfold x0
        with_reducible apply frame_setChannel (within_trans (by decide) hp)
        with_reducible assumption
      clear_value x0
      with_reducible apply frameO_ite
      · with_reducible apply frameO_next
        with_reducible apply frame_bump (within_trans (by decide) hp)
        with_reducible assumption
      · with_reducible apply frameO_next
        with_reducible apply frame_settleWaits (within_trans (by decide) hp)
        with_reducible apply frame_bulkStep (within_trans (by decide) hp)
        with_reducible apply frame_lineRead (within_trans (by decide) hp)
        with_reducible apply frame_bump (within_trans (by decide) hp)
        with_reducible assumption

theorem frame_execRefreshInterval {P : List Part} {s0 : State} {channel : Nat} {pseudo : Nat} {bank : Nat} {s : State} (hp : within [.dram, .ctrs] P = true) (h : Frame P s0 s) : FrameO P s0 (execRefreshInterval channel pseudo bank s) := by
  unfold execRefreshInterval
  with_reducible apply frameO_ite
  · with_reducible apply frameO_next
    with_reducible assumption
  · extract_lets +onlyGivenNames x0
    clear_value x0
    with_reducible apply frameO_next
    with_reducible apply frame_onlyIf
    · intro x1 h2
      with_reducible apply frame_bump (within_trans (by decide) hp)
      with_reducible assumption
    · with_reducible apply frame_setChannel (within_trans (by decide) hp)
      with_reducible assumption

theorem frame_execDramCommandTimeout {P : List Part} {s0 : State} {channel : Nat} {id : Nat} {s : State} (hp : within [.pkg, .txn, .ledger, .dir, .mem, .dram, .deep, .integ, .twin, .mirror, .leaves, .power, .sec, .sessions, .obs, .rings, .kodp, .ctrs, .out, .free] P = true) (h : Frame P s0 s) : FrameO P s0 (execDramCommandTimeout channel id s) := by
  unfold execDramCommandTimeout
  with_reducible apply frameO_ite
  · with_reducible apply frameO_next
    with_reducible assumption
  · split
    · with_reducible apply frameO_next
      with_reducible assumption
    · with_reducible apply frameO_ite
      · with_reducible apply frameO_next
        with_reducible apply frame_retrainChannel (within_trans (by decide) hp)
        with_reducible apply frame_timeoutFired (within_trans (by decide) hp)
        with_reducible apply frame_bump (within_trans (by decide) hp)
        with_reducible assumption
      · with_reducible apply frameO_next
        with_reducible assumption

theorem frame_execChannelRetrainDone {P : List Part} {s0 : State} {channel : Nat} {ok : Bool} {s : State} (hp : within [.pkg, .txn, .ledger, .dir, .mem, .dram, .deep, .integ, .twin, .mirror, .leaves, .power, .sec, .sessions, .obs, .rings, .kodp, .running, .ctrs, .out, .free] P = true) (h : Frame P s0 s) : FrameO P s0 (execChannelRetrainDone channel ok s) := by
  unfold execChannelRetrainDone
  with_reducible apply frameO_ite
  · with_reducible apply frameO_next
    with_reducible assumption
  · extract_lets +onlyGivenNames x0
    clear_value x0
    with_reducible apply frameO_ite
    · with_reducible apply frameO_next
      with_reducible assumption
    · extract_lets +onlyGivenNames x1
      have h1 : Frame P s0 (x1) := by
        unfold x1
        with_reducible apply frame_setChannel (within_trans (by decide) hp)
        with_reducible assumption
      clear_value x1
      extract_lets +onlyGivenNames x2
      have h2 : Frame P s0 (x2) := by
        unfold x2
        with_reducible apply frame_ite
        · with_reducible apply frame_ite
          · with_reducible assumption
          · with_reducible apply frame_channelServes (within_trans (by decide) hp)
            with_reducible assumption
        · with_reducible apply frame_answerFailed (within_trans (by decide) hp)
          with_reducible apply frame_failChannel (within_trans (by decide) hp)
          with_reducible assumption
      clear_value x2
      split
      · with_reducible apply frameO_next
        with_reducible apply frame_reply (within_trans (by decide) hp)
        with_reducible assumption
      · with_reducible apply frameO_next
        with_reducible assumption

theorem frame_execPanicCap {P : List Part} {s0 : State} {channel : Nat} {mirror : Bool} {s : State} (hp : within [.dram, .ctrs] P = true) (h : Frame P s0 s) : FrameO P s0 (execPanicCap channel mirror s) := by
  unfold execPanicCap
  with_reducible apply frameO_ite
  · with_reducible apply frameO_next
    with_reducible assumption
  · extract_lets +onlyGivenNames x0
    clear_value x0
    extract_lets +onlyGivenNames x1
    clear_value x1
    with_reducible apply frameO_ite
    · extract_lets +onlyGivenNames x2
      clear_value x2
      with_reducible apply frameO_next
      with_reducible apply frame_bump (within_trans (by decide) hp)
      with_reducible apply frame_bumpBy (within_trans (by decide) hp)
      with_reducible apply frame_setChannel (within_trans (by decide) hp)
      with_reducible assumption
    · with_reducible apply frameO_next
      with_reducible assumption

theorem frame_execPanicResume {P : List Part} {s0 : State} {channel : Nat} {mirror : Bool} {s : State} (hp : within [.dram] P = true) (h : Frame P s0 s) : FrameO P s0 (execPanicResume channel mirror s) := by
  unfold execPanicResume
  with_reducible apply frameO_ite
  · with_reducible apply frameO_next
    with_reducible assumption
  · extract_lets +onlyGivenNames x0
    clear_value x0
    extract_lets +onlyGivenNames x1
    clear_value x1
    with_reducible apply frameO_ite
    · extract_lets +onlyGivenNames x2
      clear_value x2
      extract_lets +onlyGivenNames x3
      clear_value x3
      extract_lets +onlyGivenNames x4
      clear_value x4
      with_reducible apply frameO_next
      with_reducible apply frame_setChannel (within_trans (by decide) hp)
      with_reducible assumption
    · with_reducible apply frameO_next
      with_reducible assumption

theorem frame_execDriftTrack {P : List Part} {s0 : State} {channel : Nat} {s : State} (hp : within [.dram] P = true) (h : Frame P s0 s) : FrameO P s0 (execDriftTrack channel s) := by
  unfold execDriftTrack
  with_reducible apply frameO_ite
  · with_reducible apply frameO_next
    with_reducible assumption
  · with_reducible apply frameO_next
    with_reducible apply frame_onlyIf
    · intro x0 h1
      with_reducible apply frame_setChannel (within_trans (by decide) hp)
      with_reducible assumption
    · with_reducible assumption

theorem frame_execChannelRetrain {P : List Part} {s0 : State} {r : Req} {channel : Nat} {s : State} (hp : within [.ledger, .dram, .mirror, .leaves, .sessions, .rings, .kodp, .running, .ctrs, .out] P = true) (h : Frame P s0 s) : FrameO P s0 (execChannelRetrain r channel s) := by
  unfold execChannelRetrain
  with_reducible apply frameO_next
  with_reducible apply frame_operate (within_trans (by decide) hp)
  · intro x0 h1
    with_reducible apply frame_crumb (within_trans (by decide) hp)
    with_reducible apply frame_setChannel (within_trans (by decide) hp)
    with_reducible assumption
  · with_reducible assumption

theorem frame_scrubStep {P : List Part} {s0 : State} {ch : Nat} {s : State} (hp : within [.integ] P = true) (h : Frame P s0 s) : Frame P s0 (scrubStep ch s) := by
  unfold scrubStep
  extract_lets +onlyGivenNames x0
  clear_value x0
  with_reducible apply frame_ite
  · with_reducible apply frame_onInteg (within_trans (by decide) hp)
    with_reducible assumption
  · with_reducible apply frame_onInteg (within_trans (by decide) hp)
    with_reducible assumption

theorem frame_execScrubLine {P : List Part} {s0 : State} {pa : Nat} {s : State} (hp : within [.pkg, .mem, .dram, .integ, .power, .rings, .ctrs, .free] P = true) (h : Frame P s0 s) : FrameO P s0 (execScrubLine pa s) := by
  unfold execScrubLine
  with_reducible apply frameO_ite
  · with_reducible apply frameO_next
    with_reducible assumption
  · extract_lets +onlyGivenNames x0
    clear_value x0
    extract_lets +onlyGivenNames x1
    clear_value x1
    with_reducible apply frameO_ite
    · with_reducible apply frameO_next
      with_reducible assumption
    · extract_lets +onlyGivenNames x2
      have h2 : Frame P s0 (x2) := by
        unfold x2
        with_reducible apply frame_scrubStep (within_trans (by decide) hp)
        with_reducible assumption
      clear_value x2
      extract_lets +onlyGivenNames x3
      clear_value x3
      with_reducible apply frameO_next
      with_reducible apply frame_ite
      · with_reducible apply frame_dramPush (within_trans (by decide) hp)
        with_reducible apply frame_setMeta (within_trans (by decide) hp)
        with_reducible assumption
      · with_reducible apply frame_dramPush (within_trans (by decide) hp)
        with_reducible assumption

theorem frame_execDecoderSelftestHourly {P : List Part} {s0 : State} {channel : Nat} {ok : Bool} {s : State} (hp : within [.pkg, .txn, .ledger, .dir, .mem, .dram, .deep, .integ, .twin, .mirror, .leaves, .power, .sec, .sessions, .obs, .rings, .kodp, .ctrs, .out, .free] P = true) (h : Frame P s0 s) : FrameO P s0 (execDecoderSelftestHourly channel ok s) := by
  unfold execDecoderSelftestHourly
  with_reducible apply frameO_ite
  · with_reducible apply frameO_next
    with_reducible assumption
  · with_reducible apply frameO_ite
    · with_reducible apply frameO_next
      with_reducible assumption
    · extract_lets +onlyGivenNames x0
      have h0 : Frame P s0 (x0) := by
        unfold x0
        with_reducible apply frame_onInteg (within_trans (by decide) hp)
        with_reducible assumption
      clear_value x0
      extract_lets +onlyGivenNames x1
      have h1 : Frame P s0 (x1) := by
        unfold x1
        with_reducible apply frame_notifyLimited (within_trans (by decide) hp)
        with_reducible apply frame_logError (within_trans (by decide) hp)
        with_reducible assumption
      clear_value x1
      with_reducible apply frameO_next
      with_reducible apply frame_answerFailed (within_trans (by decide) hp)
      with_reducible apply frame_failChannel (within_trans (by decide) hp)
      with_reducible assumption

theorem frame_execErrorLogClear {P : List Part} {s0 : State} {r : Req} {s : State} (hp : within [.ledger, .integ, .mirror, .leaves, .sessions, .rings, .kodp, .running, .ctrs, .out] P = true) (h : Frame P s0 s) : FrameO P s0 (execErrorLogClear r s) := by
  unfold execErrorLogClear
  with_reducible apply frameO_next
  with_reducible apply frame_operateOk (within_trans (by decide) hp)
  · intro x0 h1
    with_reducible apply frame_onInteg (within_trans (by decide) hp)
    with_reducible assumption
  · with_reducible assumption

theorem frame_execDeepSetRelease {P : List Part} {s0 : State} {r : Req} {cluster : Nat} {set : Nat} {s : State} (hp : within [.pkg, .ledger, .mem, .dram, .deep, .mirror, .leaves, .power, .sessions, .rings, .kodp, .running, .ctrs, .out, .free] P = true) (h : Frame P s0 s) : FrameO P s0 (execDeepSetRelease r cluster set s) := by
  unfold execDeepSetRelease
  with_reducible apply frameO_next
  with_reducible apply frame_operateOk (within_trans (by decide) hp)
  · intro x0 h1
    extract_lets +onlyGivenNames x2
    clear_value x2
    with_reducible apply frame_commitRaw (within_trans (by decide) hp)
    with_reducible apply frame_onDeep (within_trans (by decide) hp)
    with_reducible assumption
  · with_reducible assumption

theorem frame_execPoisonInject {P : List Part} {s0 : State} {r : Req} {pa : Nat} {s : State} (hp : within [.pkg, .txn, .ledger, .part, .dir, .mem, .dram, .deep, .integ, .mirror, .leaves, .power, .sessions, .obs, .rings, .kodp, .running, .ctrs, .out, .free] P = true) (h : Frame P s0 s) : FrameO P s0 (execPoisonInject r pa s) := by
  unfold execPoisonInject
  extract_lets +onlyGivenNames x0
  clear_value x0
  with_reducible apply frameO_next
  with_reducible apply frame_operate (within_trans (by decide) hp)
  · intro x1 h2
    split
    · with_reducible apply frame_reply (within_trans (by decide) hp)
      with_reducible apply frame_poisonLine (within_trans (by decide) hp)
      with_reducible assumption
    · with_reducible apply frame_reply (within_trans (by decide) hp)
      with_reducible apply frame_missGranule (within_trans (by decide) hp)
      with_reducible assumption
  · with_reducible assumption

end Sys2Proof.Machine
end

