-- ==== Sys2Proof/Laws/FrameFirmware.lean ====
section
/-!
SUPPORT. Laws/FrameFirmware.lean: the frame of every operation and command of Machine/Firmware.lean.
-/
namespace Sys2Proof.Machine

theorem frame_execFwBegin {P : List Part} {s0 : State} {r : Req} {header : List Byte} {s : State} (hp : within [.ledger, .mirror, .leaves, .sessions, .fw, .rings, .kodp, .running, .ctrs, .out] P = true) (h : Frame P s0 s) : FrameO P s0 (execFwBegin r header s) := by
  unfold execFwBegin
  extract_lets +onlyGivenNames x0
  clear_value x0
  with_reducible apply frameO_next
  with_reducible apply frame_operateOk (within_trans (by decide) hp)
  · intro x1 h2
    extract_lets +onlyGivenNames x3
    clear_value x3
    extract_lets +onlyGivenNames x4
    clear_value x4
    with_reducible apply frame_onFw (within_trans (by decide) hp)
    with_reducible apply frame_setBank (within_trans (by decide) hp)
    with_reducible assumption
  · with_reducible assumption

theorem frame_execFwEraseDone {P : List Part} {s0 : State} {blocks : Nat} {s : State} (hp : within [.fw] P = true) (h : Frame P s0 s) : FrameO P s0 (execFwEraseDone blocks s) := by
  unfold execFwEraseDone
  with_reducible apply frameO_next
  with_reducible apply frame_ite
  · with_reducible apply frame_setBank (within_trans (by decide) hp)
    with_reducible assumption
  · with_reducible assumption

theorem frame_execFwBlock {P : List Part} {s0 : State} {r : Req} {block : Nat} {crc : Nat} {data : List Byte} {s : State} (hp : within [.ledger, .mirror, .leaves, .sessions, .fw, .rings, .kodp, .running, .ctrs, .out, .free] P = true) (h : Frame P s0 s) : FrameO P s0 (execFwBlock r block crc data s) := by
  unfold execFwBlock
  extract_lets +onlyGivenNames x0
  clear_value x0
  with_reducible apply frameO_next
  with_reducible apply frame_operate (within_trans (by decide) hp)
  · intro x1 h2
    with_reducible apply frame_ite
    · extract_lets +onlyGivenNames x3
      clear_value x3
      with_reducible apply frame_reply (within_trans (by decide) hp)
      with_reducible apply frame_useFree (within_trans (by decide) hp)
      with_reducible apply frame_onFw (within_trans (by decide) hp)
      with_reducible apply frame_setBank (within_trans (by decide) hp)
      with_reducible assumption
    · with_reducible apply frame_reply (within_trans (by decide) hp)
      with_reducible apply frame_setBank (within_trans (by decide) hp)
      with_reducible assumption
  · with_reducible assumption

theorem frame_execFwVerify {P : List Part} {s0 : State} {r : Req} {s : State} (hp : within [.ledger, .mirror, .leaves, .sessions, .fw, .rings, .kodp, .running, .ctrs, .out] P = true) (h : Frame P s0 s) : FrameO P s0 (execFwVerify r s) := by
  unfold execFwVerify
  extract_lets +onlyGivenNames x0
  clear_value x0
  with_reducible apply frameO_next
  with_reducible apply frame_operate (within_trans (by decide) hp)
  · intro x1 h2
    split
    · extract_lets +onlyGivenNames x3
      have h3 : Frame P s0 (x3) := by
        unfold x3
        with_reducible apply frame_onFw (within_trans (by decide) hp)
        with_reducible assumption
      clear_value x3
      split
      · with_reducible apply frame_reply (within_trans (by decide) hp)
        with_reducible assumption
      · with_reducible apply frame_reply (within_trans (by decide) hp)
        with_reducible assumption
    · with_reducible apply frame_reply (within_trans (by decide) hp)
      with_reducible apply frame_onFw (within_trans (by decide) hp)
      with_reducible assumption
  · with_reducible assumption

theorem frame_execFwVerifyDone {P : List Part} {s0 : State} {s : State} (hp : within [.fw] P = true) (h : Frame P s0 s) : FrameO P s0 (execFwVerifyDone s) := by
  unfold execFwVerifyDone
  with_reducible apply frameO_next
  with_reducible apply frame_ite
  · extract_lets +onlyGivenNames x0
    clear_value x0
    split
    · with_reducible apply frame_onFw (within_trans (by decide) hp)
      with_reducible apply frame_bankTo (within_trans (by decide) hp)
      with_reducible assumption
    · with_reducible apply frame_onFw (within_trans (by decide) hp)
      with_reducible apply frame_bankTo (within_trans (by decide) hp)
      with_reducible assumption
  · with_reducible assumption

theorem frame_execFwActivate {P : List Part} {s0 : State} {r : Req} {s : State} (hp : within [.pkg, .ledger, .mirror, .leaves, .sec, .sessions, .boot, .fw, .obs, .rings, .kodp, .running, .ctrs, .out] P = true) (h : Frame P s0 s) : FrameO P s0 (execFwActivate r s) := by
  unfold execFwActivate
  extract_lets +onlyGivenNames x0
  clear_value x0
  with_reducible apply frameO_next
  with_reducible apply frame_operate (within_trans (by decide) hp)
  · intro x1 h2
    extract_lets +onlyGivenNames x3
    clear_value x3
    extract_lets +onlyGivenNames x4
    have h4 : Frame P s0 (x4) := by
      unfold x4
      with_reducible apply frame_reply (within_trans (by decide) hp)
      with_reducible apply frame_onFw (within_trans (by decide) hp)
      with_reducible apply frame_bankTo (within_trans (by decide) hp)
      with_reducible assumption
    clear_value x4
    with_reducible apply frame_ite
    · split
      · with_reducible apply frame_onPkg (within_trans (by decide) hp)
        refine frame_onBoot [.boot] (within_trans (by decide) hp) (.inr fun _ => rfl) (.inr fun _ => rfl) (.inl rfl) ?_
        with_reducible apply frame_bootAlias (within_trans (by decide) hp)
        with_reducible apply frame_onFw (within_trans (by decide) hp)
        refine frame_of_fst (by with_reducible assumption) ?_
        with_reducible apply frame_bootFrom (within_trans (by decide) hp)
        with_reducible assumption
      · refine frame_of_fst (by with_reducible assumption) ?_
        with_reducible apply frame_bootFrom (within_trans (by decide) hp)
        with_reducible assumption
    · with_reducible apply frame_startReheat (within_trans (by decide) hp)
      with_reducible assumption
  · with_reducible assumption

theorem frame_execFwSelfcheckDone {P : List Part} {s0 : State} {ok : Bool} {s : State} (hp : within [.pkg, .ledger, .leaves, .sec, .sessions, .fw, .obs, .rings, .kodp, .running, .ctrs, .out] P = true) (h : Frame P s0 s) : FrameO P s0 (execFwSelfcheckDone ok s) := by
  unfold execFwSelfcheckDone
  with_reducible apply frameO_next
  with_reducible apply frame_ite
  · with_reducible assumption
  · with_reducible apply frame_ite
    · with_reducible apply frame_rollBack (within_trans (by decide) hp)
      with_reducible assumption
    · with_reducible apply frame_ite
      · with_reducible apply frame_onFw (within_trans (by decide) hp)
        with_reducible assumption
      · with_reducible apply frame_commitFw (within_trans (by decide) hp)
        with_reducible assumption

theorem frame_execFwPauseEnd {P : List Part} {s0 : State} {s : State} (hp : within [.ledger, .leaves, .sessions, .fw, .rings, .kodp, .ctrs, .out] P = true) (h : Frame P s0 s) : FrameO P s0 (execFwPauseEnd s) := by
  unfold execFwPauseEnd
  with_reducible apply frameO_next
  with_reducible apply frame_ite
  · with_reducible apply frame_commitFw (within_trans (by decide) hp)
    with_reducible apply frame_onFw (within_trans (by decide) hp)
    with_reducible assumption
  · with_reducible assumption

theorem frame_execFwCopyDone {P : List Part} {s0 : State} {s : State} (hp : within [.ledger, .leaves, .sessions, .fw, .rings, .kodp, .ctrs, .out] P = true) (h : Frame P s0 s) : FrameO P s0 (execFwCopyDone s) := by
  unfold execFwCopyDone
  with_reducible apply frameO_next
  with_reducible apply frame_ite
  · extract_lets +onlyGivenNames x0
    clear_value x0
    with_reducible apply frame_notify (within_trans (by decide) hp)
    with_reducible apply frame_onFw (within_trans (by decide) hp)
    with_reducible apply frame_setBank (within_trans (by decide) hp)
    with_reducible assumption
  · with_reducible assumption

theorem frame_execFwAbort {P : List Part} {s0 : State} {r : Req} {s : State} (hp : within [.ledger, .mirror, .leaves, .sessions, .fw, .rings, .kodp, .running, .ctrs, .out] P = true) (h : Frame P s0 s) : FrameO P s0 (execFwAbort r s) := by
  unfold execFwAbort
  with_reducible apply frameO_next
  with_reducible apply frame_operateOk (within_trans (by decide) hp)
  · intro x0 h1
    with_reducible apply frame_onFw (within_trans (by decide) hp)
    with_reducible apply frame_setBank (within_trans (by decide) hp)
    with_reducible assumption
  · with_reducible assumption

theorem frame_execFwRaiseSvn {P : List Part} {s0 : State} {r : Req} {s : State} (hp : within [.ledger, .mirror, .leaves, .sessions, .fw, .rings, .kodp, .running, .ctrs, .out] P = true) (h : Frame P s0 s) : FrameO P s0 (execFwRaiseSvn r s) := by
  unfold execFwRaiseSvn
  extract_lets +onlyGivenNames x0
  clear_value x0
  with_reducible apply frameO_next
  with_reducible apply frame_operate (within_trans (by decide) hp)
  · intro x1 h2
    extract_lets +onlyGivenNames x3
    clear_value x3
    with_reducible apply frame_reply (within_trans (by decide) hp)
    with_reducible apply frame_onFw (within_trans (by decide) hp)
    with_reducible assumption
  · with_reducible assumption

theorem frame_execBakerWatchdog {P : List Part} {s0 : State} {die : Nat} {s : State} (hp : within [.pkg, .ledger, .leaves, .sec, .sessions, .fw, .obs, .rings, .kodp, .running, .ctrs, .out] P = true) (h : Frame P s0 s) : FrameO P s0 (execBakerWatchdog die s) := by
  unfold execBakerWatchdog
  with_reducible apply frameO_next
  with_reducible apply frame_ite
  · with_reducible assumption
  · extract_lets +onlyGivenNames x0
    have h0 : Frame P s0 (x0) := by
      unfold x0
      with_reducible apply frame_timeoutFired (within_trans (by decide) hp)
      with_reducible assumption
    clear_value x0
    with_reducible apply frame_ite
    · with_reducible apply frame_rollBack (within_trans (by decide) hp)
      refine frame_onObs [.rings, .obs] (within_trans (by decide) hp) (.inr fun _ => rfl) (.inl rfl) (.inl rfl) ?_
      with_reducible assumption
    · with_reducible apply frame_startReheat (within_trans (by decide) hp)
      with_reducible assumption

theorem frame_execLockstepDisagreement {P : List Part} {s0 : State} {die : Nat} {s : State} (hp : within [.pkg, .ledger, .leaves, .sec, .sessions, .fw, .obs, .rings, .kodp, .running, .ctrs, .out] P = true) (h : Frame P s0 s) : FrameO P s0 (execLockstepDisagreement die s) := by
  unfold execLockstepDisagreement
  with_reducible apply frameO_next
  with_reducible apply frame_ite
  · with_reducible assumption
  · with_reducible apply frame_ite
    · with_reducible apply frame_rollBack (within_trans (by decide) hp)
      refine frame_onObs [.rings, .obs] (within_trans (by decide) hp) (.inr fun _ => rfl) (.inl rfl) (.inl rfl) ?_
      with_reducible assumption
    · with_reducible apply frame_startReheat (within_trans (by decide) hp)
      with_reducible assumption

theorem frame_execMgmtReheatDone {P : List Part} {s0 : State} {die : Nat} {s : State} (hp : within [.pkg, .ledger, .leaves, .sec, .sessions, .fw, .obs, .rings, .kodp, .running, .ctrs, .out] P = true) (h : Frame P s0 s) : FrameO P s0 (execMgmtReheatDone die s) := by
  unfold execMgmtReheatDone
  with_reducible apply frameO_next
  with_reducible apply frame_ite
  · with_reducible assumption
  · extract_lets +onlyGivenNames x0
    clear_value x0
    extract_lets +onlyGivenNames x1
    have h1 : Frame P s0 (x1) := by
      unfold x1
      refine frame_onObs [.rings, .obs] (within_trans (by decide) hp) (.inr fun _ => rfl) (.inl rfl) (.inl rfl) ?_
      with_reducible assumption
    clear_value x1
    with_reducible apply frame_ite
    · with_reducible assumption
    · extract_lets +onlyGivenNames x2
      have h2 : Frame P s0 (x2) := by
        unfold x2
        with_reducible apply frame_bootAlias (within_trans (by decide) hp)
        with_reducible apply frame_onPkg (within_trans (by decide) hp)
        with_reducible assumption
      clear_value x2
      extract_lets +onlyGivenNames x3
      clear_value x3
      extract_lets +onlyGivenNames x4
      have h4 : Frame P s0 (x4) := by
        unfold x4
        with_reducible apply frame_drainSubs (within_trans (by decide) hp)
        with_reducible apply frame_forAll
        · intro x5 x6 h7
          with_reducible apply frame_deliver (within_trans (by decide) hp)
          with_reducible assumption
        · refine frame_onObs [.rings, .obs] (within_trans (by decide) hp) (.inr fun _ => rfl) (.inl rfl) (.inl rfl) ?_
          with_reducible assumption
      clear_value x4
      with_reducible apply frame_ite
      · with_reducible assumption
      · extract_lets +onlyGivenNames x8
        clear_value x8
        with_reducible apply frame_ite
        · with_reducible apply frame_bootAlias (within_trans (by decide) hp)
          with_reducible apply frame_onFw (within_trans (by decide) hp)
          with_reducible assumption
        · with_reducible apply frame_rollBack (within_trans (by decide) hp)
          with_reducible assumption

theorem frame_execMgmtReheatWindowExpiry {P : List Part} {s0 : State} {s : State} (hp : within [.obs] P = true) (h : Frame P s0 s) : FrameO P s0 (execMgmtReheatWindowExpiry s) := by
  unfold execMgmtReheatWindowExpiry
  with_reducible apply frameO_next
  with_reducible apply frame_ite
  · refine frame_onObs [.obs] (within_trans (by decide) hp) (.inr fun _ => rfl) (.inr fun _ => rfl) (.inl rfl) ?_
    with_reducible assumption
  · with_reducible assumption

end Sys2Proof.Machine
end

