-- ==== Sys2Proof/Laws/FrameRecipes.lean ====
section
/-!
SUPPORT. Laws/FrameRecipes.lean: the frame of every operation and command of Machine/Recipes.lean.
-/
namespace Sys2Proof.Machine

theorem frame_recipeRow {P : List Part} {s0 : State} {code : Nat} {port : Nat} {p : Packet} {s : State} (hp : within [.pkg, .txn, .ledger, .part, .dir, .mem, .dram, .deep, .integ, .recp, .mirror, .traffic, .leaves, .power, .sec, .sessions, .obs, .rings, .kodp, .ctrs, .out, .free] P = true) (h : Frame P s0 s) : FrameO P s0 (recipeRow code port p s) := by
  unfold recipeRow
  with_reducible apply frameO_next
  with_reducible apply frame_ite
  · with_reducible apply frame_arriveRecipe (within_trans (by decide) hp)
    with_reducible assumption
  · with_reducible assumption

theorem frame_execFill {P : List Part} {s0 : State} {port : Nat} {p : Packet} {s : State} (hp : within [.pkg, .txn, .ledger, .part, .dir, .mem, .dram, .deep, .integ, .recp, .mirror, .traffic, .leaves, .power, .sec, .sessions, .obs, .rings, .kodp, .ctrs, .out, .free] P = true) (h : Frame P s0 s) : FrameO P s0 (execFill port p s) := by
  unfold execFill
  with_reducible apply frame_recipeRow (within_trans (by decide) hp)
  with_reducible assumption

theorem frame_execCopy {P : List Part} {s0 : State} {port : Nat} {p : Packet} {s : State} (hp : within [.pkg, .txn, .ledger, .part, .dir, .mem, .dram, .deep, .integ, .recp, .mirror, .traffic, .leaves, .power, .sec, .sessions, .obs, .rings, .kodp, .ctrs, .out, .free] P = true) (h : Frame P s0 s) : FrameO P s0 (execCopy port p s) := by
  unfold execCopy
  with_reducible apply frame_recipeRow (within_trans (by decide) hp)
  with_reducible assumption

theorem frame_execCompare {P : List Part} {s0 : State} {port : Nat} {p : Packet} {s : State} (hp : within [.pkg, .txn, .ledger, .part, .dir, .mem, .dram, .deep, .integ, .recp, .mirror, .traffic, .leaves, .power, .sec, .sessions, .obs, .rings, .kodp, .ctrs, .out, .free] P = true) (h : Frame P s0 s) : FrameO P s0 (execCompare port p s) := by
  unfold execCompare
  with_reducible apply frame_recipeRow (within_trans (by decide) hp)
  with_reducible assumption

theorem frame_execReduce {P : List Part} {s0 : State} {port : Nat} {p : Packet} {s : State} (hp : within [.pkg, .txn, .ledger, .part, .dir, .mem, .dram, .deep, .integ, .recp, .mirror, .traffic, .leaves, .power, .sec, .sessions, .obs, .rings, .kodp, .ctrs, .out, .free] P = true) (h : Frame P s0 s) : FrameO P s0 (execReduce port p s) := by
  unfold execReduce
  with_reducible apply frame_recipeRow (within_trans (by decide) hp)
  with_reducible assumption

theorem frame_execGatherReduce {P : List Part} {s0 : State} {port : Nat} {p : Packet} {s : State} (hp : within [.pkg, .txn, .ledger, .part, .dir, .mem, .dram, .deep, .integ, .recp, .mirror, .traffic, .leaves, .power, .sec, .sessions, .obs, .rings, .kodp, .ctrs, .out, .free] P = true) (h : Frame P s0 s) : FrameO P s0 (execGatherReduce port p s) := by
  unfold execGatherReduce
  with_reducible apply frame_recipeRow (within_trans (by decide) hp)
  with_reducible assumption

theorem frame_execScatterAdd {P : List Part} {s0 : State} {port : Nat} {p : Packet} {s : State} (hp : within [.pkg, .txn, .ledger, .part, .dir, .mem, .dram, .deep, .integ, .recp, .mirror, .traffic, .leaves, .power, .sec, .sessions, .obs, .rings, .kodp, .ctrs, .out, .free] P = true) (h : Frame P s0 s) : FrameO P s0 (execScatterAdd port p s) := by
  unfold execScatterAdd
  with_reducible apply frame_recipeRow (within_trans (by decide) hp)
  with_reducible assumption

theorem frame_execAllreduceStage {P : List Part} {s0 : State} {port : Nat} {p : Packet} {s : State} (hp : within [.pkg, .txn, .ledger, .part, .dir, .mem, .dram, .deep, .integ, .recp, .mirror, .traffic, .leaves, .power, .sec, .sessions, .obs, .rings, .kodp, .ctrs, .out, .free] P = true) (h : Frame P s0 s) : FrameO P s0 (execAllreduceStage port p s) := by
  unfold execAllreduceStage
  with_reducible apply frame_recipeRow (within_trans (by decide) hp)
  with_reducible assumption

theorem frame_execOptimStep {P : List Part} {s0 : State} {port : Nat} {p : Packet} {s : State} (hp : within [.pkg, .txn, .ledger, .part, .dir, .mem, .dram, .deep, .integ, .recp, .mirror, .traffic, .leaves, .power, .sec, .sessions, .obs, .rings, .kodp, .ctrs, .out, .free] P = true) (h : Frame P s0 s) : FrameO P s0 (execOptimStep port p s) := by
  unfold execOptimStep
  with_reducible apply frame_recipeRow (within_trans (by decide) hp)
  with_reducible assumption

theorem frame_execKvSelect {P : List Part} {s0 : State} {port : Nat} {p : Packet} {s : State} (hp : within [.pkg, .txn, .ledger, .part, .dir, .mem, .dram, .deep, .integ, .recp, .mirror, .traffic, .leaves, .power, .sec, .sessions, .obs, .rings, .kodp, .ctrs, .out, .free] P = true) (h : Frame P s0 s) : FrameO P s0 (execKvSelect port p s) := by
  unfold execKvSelect
  with_reducible apply frame_recipeRow (within_trans (by decide) hp)
  with_reducible assumption

theorem frame_execDeltaPack {P : List Part} {s0 : State} {port : Nat} {p : Packet} {s : State} (hp : within [.pkg, .txn, .ledger, .part, .dir, .mem, .dram, .deep, .integ, .recp, .mirror, .traffic, .leaves, .power, .sec, .sessions, .obs, .rings, .kodp, .ctrs, .out, .free] P = true) (h : Frame P s0 s) : FrameO P s0 (execDeltaPack port p s) := by
  unfold execDeltaPack
  with_reducible apply frame_recipeRow (within_trans (by decide) hp)
  with_reducible assumption

theorem frame_execDigest {P : List Part} {s0 : State} {port : Nat} {p : Packet} {s : State} (hp : within [.pkg, .txn, .ledger, .part, .dir, .mem, .dram, .deep, .integ, .recp, .mirror, .traffic, .leaves, .power, .sec, .sessions, .obs, .rings, .kodp, .ctrs, .out, .free] P = true) (h : Frame P s0 s) : FrameO P s0 (execDigest port p s) := by
  unfold execDigest
  with_reducible apply frame_recipeRow (within_trans (by decide) hp)
  with_reducible assumption

theorem frame_execPublish {P : List Part} {s0 : State} {port : Nat} {p : Packet} {s : State} (hp : within [.pkg, .txn, .ledger, .part, .dir, .mem, .dram, .deep, .integ, .recp, .mirror, .traffic, .leaves, .power, .sec, .sessions, .obs, .rings, .kodp, .ctrs, .out, .free] P = true) (h : Frame P s0 s) : FrameO P s0 (execPublish port p s) := by
  unfold execPublish
  with_reducible apply frame_recipeRow (within_trans (by decide) hp)
  with_reducible assumption

theorem frame_execKernel {P : List Part} {s0 : State} {port : Nat} {p : Packet} {s : State} (hp : within [.pkg, .txn, .ledger, .part, .dir, .mem, .dram, .deep, .integ, .recp, .mirror, .traffic, .leaves, .power, .sec, .sessions, .obs, .rings, .kodp, .ctrs, .out, .free] P = true) (h : Frame P s0 s) : FrameO P s0 (execKernel port p s) := by
  unfold execKernel
  with_reducible apply frame_recipeRow (within_trans (by decide) hp)
  with_reducible assumption

theorem frame_execRecipeReservedCode {P : List Part} {s0 : State} {port : Nat} {p : Packet} {s : State} (hp : within [.pkg, .txn, .ledger, .part, .dir, .mem, .dram, .deep, .integ, .recp, .mirror, .traffic, .leaves, .power, .sec, .sessions, .obs, .rings, .kodp, .ctrs, .out, .free] P = true) (h : Frame P s0 s) : FrameO P s0 (execRecipeReservedCode port p s) := by
  unfold execRecipeReservedCode
  with_reducible apply frameO_next
  with_reducible apply frame_ite
  · with_reducible apply frame_arriveRecipe (within_trans (by decide) hp)
    with_reducible assumption
  · with_reducible assumption

theorem frame_execRecipeCancel {P : List Part} {s0 : State} {port : Nat} {p : Packet} {s : State} (hp : within [.pkg, .txn, .ledger, .part, .dir, .mem, .dram, .deep, .integ, .recp, .core, .mirror, .traffic, .leaves, .power, .sec, .sessions, .obs, .rings, .kodp, .ctrs, .out, .free] P = true) (h : Frame P s0 s) : FrameO P s0 (execRecipeCancel port p s) := by
  unfold execRecipeCancel
  with_reducible apply frameO_next
  with_reducible apply frame_ite
  · with_reducible apply frame_arriveFabric (within_trans (by decide) hp)
    · intro x0 x1 h2
      with_reducible apply frame_intake (within_trans (by decide) hp)
      · intro x3 x4 h5
        with_reducible apply frame_replayResponse (within_trans (by decide) hp)
        with_reducible assumption
      · intro x6 x7 x8 h9
        with_reducible apply frame_ite
        · with_reducible apply frame_answerCancel (within_trans (by decide) hp)
          with_reducible assumption
        · with_reducible apply frame_police (within_trans (by decide) hp)
          · intro x10 h11
            with_reducible apply frame_takeCancel (within_trans (by decide) hp)
            with_reducible assumption
          · intro x12 h13
            with_reducible apply frame_answerCancel (within_trans (by decide) hp)
            with_reducible assumption
          · with_reducible assumption
      · with_reducible assumption
    · with_reducible assumption
  · with_reducible assumption

theorem frame_execRecipeAbort {P : List Part} {s0 : State} {r : Req} {slot : Nat} {tag : Nat} {s : State} (hp : within [.pkg, .txn, .ledger, .part, .dir, .mem, .dram, .deep, .integ, .recp, .core, .mirror, .leaves, .power, .sec, .sessions, .obs, .rings, .kodp, .running, .ctrs, .out, .free] P = true) (h : Frame P s0 s) : FrameO P s0 (execRecipeAbort r slot tag s) := by
  unfold execRecipeAbort
  extract_lets +onlyGivenNames x0
  clear_value x0
  extract_lets +onlyGivenNames x1
  clear_value x1
  with_reducible apply frameO_next
  with_reducible apply frame_operateOk (within_trans (by decide) hp)
  · intro x2 h3
    with_reducible apply frame_ite
    · with_reducible assumption
    · split
      · with_reducible apply frame_cancelNow (within_trans (by decide) hp)
        with_reducible assumption
      · with_reducible assumption
  · with_reducible assumption

theorem frame_takeQueued {P : List Part} {s0 : State} {k : Nat} {c : Nat} {s : State} (hp : within [.recp] P = true) (h : Frame P s0 s) : FrameP P s0 (takeQueued k c s) := by
  unfold takeQueued
  extract_lets +onlyGivenNames x0
  clear_value x0
  extract_lets +onlyGivenNames x1
  clear_value x1
  extract_lets +onlyGivenNames x2
  clear_value x2
  split
  · with_reducible apply frame_mk
    with_reducible assumption
  · with_reducible apply frame_mk
    with_reducible apply frame_onRecp (within_trans (by decide) hp)
    with_reducible assumption

theorem frame_fillLocals {P : List Part} {s0 : State} {k : Nat} {s : State} (hp : within [.recp] P = true) (h : Frame P s0 s) : Frame P s0 (fillLocals k s) := by
  unfold fillLocals
  with_reducible apply frame_forAll
  · intro x0 x1 h2
    with_reducible apply frame_ite
    · split
      · with_reducible apply frame_onRecp (within_trans (by decide) hp)
        refine frame_of_fst (by with_reducible assumption) ?_
        with_reducible apply frame_takeQueued (within_trans (by decide) hp)
        with_reducible assumption
      · refine frame_of_fst (by with_reducible assumption) ?_
        with_reducible apply frame_takeQueued (within_trans (by decide) hp)
        with_reducible assumption
    · with_reducible assumption
  · with_reducible assumption

theorem frame_execTileDispatch {P : List Part} {s0 : State} {recipe : Nat} {s : State} (hp : within [.pkg, .recp, .power, .rings, .ctrs, .free] P = true) (h : Frame P s0 s) : FrameO P s0 (execTileDispatch recipe s) := by
  unfold execTileDispatch
  with_reducible apply frameO_ite
  · with_reducible apply frameO_next
    with_reducible assumption
  · split
    · with_reducible apply frameO_next
      with_reducible assumption
    · extract_lets +onlyGivenNames x0
      clear_value x0
      split
      · with_reducible apply frameO_next
        with_reducible assumption
      · extract_lets +onlyGivenNames x1
        clear_value x1
        extract_lets +onlyGivenNames x2
        clear_value x2
        extract_lets +onlyGivenNames x3
        clear_value x3
        extract_lets +onlyGivenNames x4
        clear_value x4
        extract_lets +onlyGivenNames x5
        clear_value x5
        with_reducible apply frameO_ite
        · with_reducible apply frameO_next
          with_reducible assumption
        · extract_lets +onlyGivenNames x6
          have h6 : Frame P s0 (x6) := by
            unfold x6
            with_reducible apply frame_setRecipe (within_trans (by decide) hp)
            with_reducible assumption
          clear_value x6
          extract_lets +onlyGivenNames x7
          have h7 : Frame P s0 (x7) := by
            unfold x7
            with_reducible apply frame_onRecp (within_trans (by decide) hp)
            with_reducible assumption
          clear_value x7
          with_reducible apply frameO_next
          with_reducible apply frame_fillLocals (within_trans (by decide) hp)
          with_reducible apply frame_wakeUnit (within_trans (by decide) hp)
          with_reducible assumption

theorem frame_startTile {P : List Part} {s0 : State} {c : Nat} {t : TileRef} {s : State} (hp : within [.part, .dram, .core] P = true) (h : Frame P s0 s) : Frame P s0 (startTile c t s) := by
  unfold startTile
  extract_lets +onlyGivenNames x0
  clear_value x0
  extract_lets +onlyGivenNames x1
  clear_value x1
  with_reducible apply frame_setCore (within_trans (by decide) hp)
  with_reducible apply frame_onPart (within_trans (by decide) hp)
  with_reducible apply frame_onDram (within_trans (by decide) hp)
  with_reducible assumption

theorem frame_execCoreSteal {P : List Part} {s0 : State} {core : Nat} {s : State} (hp : within [.part, .dram, .recp, .core, .ctrs] P = true) (h : Frame P s0 s) : FrameO P s0 (execCoreSteal core s) := by
  unfold execCoreSteal
  with_reducible apply frameO_ite
  · with_reducible apply frameO_next
    with_reducible assumption
  · with_reducible apply frameO_ite
    · with_reducible apply frameO_next
      with_reducible assumption
    · extract_lets +onlyGivenNames x0
      clear_value x0
      extract_lets +onlyGivenNames x1
      clear_value x1
      split
      · with_reducible apply frameO_next
        with_reducible apply frame_fillLocals (within_trans (by decide) hp)
        with_reducible apply frame_startTile (within_trans (by decide) hp)
        with_reducible apply frame_onRecp (within_trans (by decide) hp)
        with_reducible assumption
      · split
        · with_reducible apply frameO_next
          with_reducible apply frame_fillLocals (within_trans (by decide) hp)
          with_reducible apply frame_startTile (within_trans (by decide) hp)
          refine frame_of_fst (by with_reducible assumption) ?_
          with_reducible apply frame_takeQueued (within_trans (by decide) hp)
          with_reducible assumption
        · extract_lets +onlyGivenNames x2
          clear_value x2
          extract_lets +onlyGivenNames x3
          clear_value x3
          extract_lets +onlyGivenNames x4
          clear_value x4
          extract_lets +onlyGivenNames x5
          clear_value x5
          extract_lets +onlyGivenNames x6
          clear_value x6
          extract_lets +onlyGivenNames x7
          clear_value x7
          extract_lets +onlyGivenNames x8
          have h8 : ∀ y0, ∀ y1, ∀ y2, Frame P s0 y2 → Frame P s0 (x8 y0 y1 y2) := by
            intro x9 x10 x11 h12
            unfold x8
            with_reducible apply frame_onRecp (within_trans (by decide) hp)
            with_reducible assumption
          clear_value x8
          split
          · split
            · with_reducible apply frameO_next
              with_reducible apply frame_bump (within_trans (by decide) hp)
              with_reducible apply frame_bump (within_trans (by decide) hp)
              with_reducible apply frame_startTile (within_trans (by decide) hp)
              with_reducible apply h8
              with_reducible apply frame_onRecp (within_trans (by decide) hp)
              refine frame_of_fst (by with_reducible assumption) ?_
              with_reducible apply frame_takeQueued (within_trans (by decide) hp)
              with_reducible assumption
            · with_reducible apply frameO_next
              refine frame_of_fst (by with_reducible assumption) ?_
              with_reducible apply frame_takeQueued (within_trans (by decide) hp)
              with_reducible assumption
          · split
            · split
              · with_reducible apply frameO_next
                with_reducible apply frame_bump (within_trans (by decide) hp)
                with_reducible apply frame_bump (within_trans (by decide) hp)
                with_reducible apply frame_startTile (within_trans (by decide) hp)
                with_reducible apply h8
                with_reducible apply frame_onRecp (within_trans (by decide) hp)
                refine frame_of_fst (by with_reducible assumption) ?_
                with_reducible apply frame_takeQueued (within_trans (by decide) hp)
                with_reducible assumption
              · with_reducible apply frameO_next
                refine frame_of_fst (by with_reducible assumption) ?_
                with_reducible apply frame_takeQueued (within_trans (by decide) hp)
                with_reducible assumption
            · split
              · split
                · with_reducible apply frameO_next
                  with_reducible apply frame_bump (within_trans (by decide) hp)
                  with_reducible apply frame_bump (within_trans (by decide) hp)
                  with_reducible apply frame_startTile (within_trans (by decide) hp)
                  with_reducible apply h8
                  with_reducible apply frame_onRecp (within_trans (by decide) hp)
                  refine frame_of_fst (by with_reducible assumption) ?_
                  with_reducible apply frame_takeQueued (within_trans (by decide) hp)
                  with_reducible assumption
                · with_reducible apply frameO_next
                  refine frame_of_fst (by with_reducible assumption) ?_
                  with_reducible apply frame_takeQueued (within_trans (by decide) hp)
                  with_reducible assumption
              · with_reducible apply frameO_next
                refine frame_of_fst (by with_reducible assumption) ?_
                with_reducible apply frame_takeQueued (within_trans (by decide) hp)
                with_reducible assumption

theorem frame_clearForTenant {P : List Part} {s0 : State} {c : Nat} {tenant : Nat} {s : State} (hp : within [.core] P = true) (h : Frame P s0 s) : Frame P s0 (clearForTenant c tenant s) := by
  unfold clearForTenant
  with_reducible apply frame_ite
  · with_reducible assumption
  · with_reducible apply frame_setCore (within_trans (by decide) hp)
    with_reducible assumption

theorem frame_failCheck {P : List Part} {s0 : State} {c : Nat} {r : Recipe} {tile : Nat} {f : XFault} {addr : Nat} {s : State} (hp : within [.pkg, .txn, .ledger, .part, .dir, .mem, .dram, .deep, .integ, .recp, .core, .mirror, .leaves, .power, .sessions, .obs, .rings, .kodp, .ctrs, .out, .free] P = true) (h : Frame P s0 s) : Frame P s0 (failCheck c r tile f addr s) := by
  unfold failCheck
  split
  with_reducible apply frame_setCore (within_trans (by decide) hp)
  with_reducible apply frame_failTile (within_trans (by decide) hp)
  with_reducible apply frame_settled (within_trans (by decide) hp)
  refine frame_of_fst (by with_reducible assumption) ?_
  with_reducible apply frame_recordFault (within_trans (by decide) hp)
  with_reducible assumption

theorem frame_onVerdict {P : List Part} {s0 : State} {core : Nat} {r : Recipe} {tile : Nat} {v : SpanCheck} {go : State → State} {s : State} (hp : within [.pkg, .txn, .ledger, .part, .dir, .mem, .dram, .deep, .integ, .recp, .core, .mirror, .leaves, .power, .sessions, .obs, .rings, .kodp, .ctrs, .out, .free] P = true) (h_go : (∀ x0, Frame P s0 x0 → Frame P s0 (go x0))) (h : Frame P s0 s) : Frame P s0 (onVerdict core r tile v go s) := by
  unfold onVerdict
  split
  · with_reducible apply frame_failCheck (within_trans (by decide) hp)
    with_reducible assumption
  · with_reducible apply h_go
    with_reducible apply frame_settled (within_trans (by decide) hp)
    with_reducible assumption
  · split
    · refine frame_of_fst (by with_reducible assumption) ?_
      with_reducible apply frame_settleFor (within_trans (by decide) hp)
      with_reducible assumption
    · with_reducible apply frame_failCheck (within_trans (by decide) hp)
      refine frame_of_fst (by with_reducible assumption) ?_
      with_reducible apply frame_settleFor (within_trans (by decide) hp)
      with_reducible assumption

theorem frame_execTileCheck {P : List Part} {s0 : State} {core : Nat} {s : State} (hp : within [.pkg, .txn, .ledger, .part, .dir, .mem, .dram, .deep, .integ, .recp, .core, .mirror, .leaves, .power, .sessions, .obs, .rings, .kodp, .ctrs, .out, .free] P = true) (h : Frame P s0 s) : FrameO P s0 (execTileCheck core s) := by
  unfold execTileCheck
  with_reducible apply frameO_ite
  · with_reducible apply frameO_next
    with_reducible assumption
  · split
    · with_reducible apply frameO_next
      with_reducible assumption
    · split
      · with_reducible apply frameO_next
        with_reducible apply frame_setCore (within_trans (by decide) hp)
        with_reducible assumption
      · with_reducible apply frameO_ite
        · with_reducible apply frameO_next
          with_reducible assumption
        · extract_lets +onlyGivenNames x0
          clear_value x0
          extract_lets +onlyGivenNames x1
          clear_value x1
          extract_lets +onlyGivenNames x2
          have h2 : Frame P s0 (x2) := by
            unfold x2
            with_reducible apply frame_clearForTenant (within_trans (by decide) hp)
            with_reducible assumption
          clear_value x2
          extract_lets +onlyGivenNames x3
          clear_value x3
          split
          extract_lets +onlyGivenNames x4
          have h4 : ∀ y0, ∀ y1, Frame P s0 y1 → Frame P s0 (x4 y0 y1) := by
            intro x5 x6 h7
            unfold x4
            with_reducible apply frame_onVerdict (within_trans (by decide) hp)
            · intro x8 h9
              with_reducible apply frame_setCore (within_trans (by decide) hp)
              with_reducible apply frame_setRecipe (within_trans (by decide) hp)
              with_reducible assumption
            · with_reducible assumption
          clear_value x4
          with_reducible apply frameO_ite
          · with_reducible apply frameO_next
            with_reducible apply h4
            refine frame_of_fst (by with_reducible assumption) ?_
            with_reducible apply frame_checkSpans (within_trans (by decide) hp)
            with_reducible assumption
          · split
            · with_reducible apply frameO_next
              refine frame_of_fst (by with_reducible assumption) ?_
              with_reducible apply frame_readySpans (within_trans (by decide) hp)
              refine frame_of_fst (by with_reducible assumption) ?_
              with_reducible apply frame_checkSpans (within_trans (by decide) hp)
              with_reducible assumption
            · with_reducible apply frameO_next
              with_reducible apply frame_setCore (within_trans (by decide) hp)
              with_reducible apply frame_failTile (within_trans (by decide) hp)
              refine frame_of_fst (by with_reducible assumption) ?_
              with_reducible apply frame_readySpans (within_trans (by decide) hp)
              refine frame_of_fst (by with_reducible assumption) ?_
              with_reducible apply frame_checkSpans (within_trans (by decide) hp)
              with_reducible assumption
            · extract_lets +onlyGivenNames x10
              clear_value x10
              split
              with_reducible apply frameO_ite
              · with_reducible apply frameO_next
                with_reducible apply h4
                refine frame_of_fst (by with_reducible assumption) ?_
                with_reducible apply frame_checkSpans (within_trans (by decide) hp)
                refine frame_of_fst (by with_reducible assumption) ?_
                with_reducible apply frame_readySpans (within_trans (by decide) hp)
                refine frame_of_fst (by with_reducible assumption) ?_
                with_reducible apply frame_checkSpans (within_trans (by decide) hp)
                with_reducible assumption
              · split
                · with_reducible apply frameO_next
                  refine frame_of_fst (by with_reducible assumption) ?_
                  with_reducible apply frame_readySpans (within_trans (by decide) hp)
                  refine frame_of_fst (by with_reducible assumption) ?_
                  with_reducible apply frame_checkSpans (within_trans (by decide) hp)
                  refine frame_of_fst (by with_reducible assumption) ?_
                  with_reducible apply frame_readySpans (within_trans (by decide) hp)
                  refine frame_of_fst (by with_reducible assumption) ?_
                  with_reducible apply frame_checkSpans (within_trans (by decide) hp)
                  with_reducible assumption
                · with_reducible apply frameO_next
                  with_reducible apply frame_setCore (within_trans (by decide) hp)
                  with_reducible apply frame_failTile (within_trans (by decide) hp)
                  refine frame_of_fst (by with_reducible assumption) ?_
                  with_reducible apply frame_readySpans (within_trans (by decide) hp)
                  refine frame_of_fst (by with_reducible assumption) ?_
                  with_reducible apply frame_checkSpans (within_trans (by decide) hp)
                  refine frame_of_fst (by with_reducible assumption) ?_
                  with_reducible apply frame_readySpans (within_trans (by decide) hp)
                  refine frame_of_fst (by with_reducible assumption) ?_
                  with_reducible apply frame_checkSpans (within_trans (by decide) hp)
                  with_reducible assumption
                · split
                  with_reducible apply frameO_next
                  with_reducible apply h4
                  refine frame_of_fst (by with_reducible assumption) ?_
                  with_reducible apply frame_checkSpans (within_trans (by decide) hp)
                  refine frame_of_fst (by with_reducible assumption) ?_
                  with_reducible apply frame_readySpans (within_trans (by decide) hp)
                  refine frame_of_fst (by with_reducible assumption) ?_
                  with_reducible apply frame_checkSpans (within_trans (by decide) hp)
                  refine frame_of_fst (by with_reducible assumption) ?_
                  with_reducible apply frame_readySpans (within_trans (by decide) hp)
                  refine frame_of_fst (by with_reducible assumption) ?_
                  with_reducible apply frame_checkSpans (within_trans (by decide) hp)
                  with_reducible assumption

theorem frame_publishSweep {P : List Part} {s0 : State} {pages : Assoc Nat Page} {l : List Nat} {visited : List Nat} {kind : Nat} {s : State} (hp : within [.pkg, .txn, .ledger, .part, .dir, .mem, .dram, .deep, .integ, .mirror, .leaves, .power, .sessions, .obs, .rings, .kodp, .ctrs, .out, .free] P = true) (h : Frame P s0 s) : FrameP P s0 (publishSweep pages l visited kind s) := by
  unfold publishSweep
  with_reducible apply frame_foldlP
  · intro x0 x1 h2
    split
    · with_reducible assumption
    · split
      extract_lets +onlyGivenNames x3
      clear_value x3
      with_reducible apply frame_ite1
      · with_reducible apply frame_mk
        exact frame_of_mk (by with_reducible assumption)
      · with_reducible apply frame_ite1
        · with_reducible apply frame_mk
          exact frame_of_mk (by with_reducible assumption)
        · split
          · with_reducible apply frame_ite1
            · with_reducible apply frame_mk
              exact frame_of_mk (by with_reducible assumption)
            · extract_lets +onlyGivenNames x4
              have h4 : Frame P s0 (x4) := by
                unfold x4
                with_reducible apply frame_startRecall (within_trans (by decide) hp)
                exact frame_of_mk (by with_reducible assumption)
              clear_value x4
              with_reducible apply frame_mk
              with_reducible assumption
          · with_reducible apply frame_mk
            exact frame_of_mk (by with_reducible assumption)
  · with_reducible apply frame_mk
    with_reducible assumption

theorem frame_publishTile {P : List Part} {s0 : State} {core : Nat} {r : Recipe} {t : CoreTile} {s : State} (hp : within [.pkg, .txn, .ledger, .part, .dir, .mem, .dram, .deep, .integ, .recp, .core, .mirror, .leaves, .power, .sessions, .obs, .rings, .kodp, .ctrs, .out, .free] P = true) (h : Frame P s0 s) : Frame P s0 (publishTile core r t s) := by
  unfold publishTile
  extract_lets +onlyGivenNames x0
  clear_value x0
  extract_lets +onlyGivenNames x1
  clear_value x1
  extract_lets +onlyGivenNames x2
  clear_value x2
  extract_lets +onlyGivenNames x3
  have h3 : ∀ y0, ∀ y1, ∀ y2, Frame P s0 y2 → Frame P s0 (x3 y0 y1 y2) := by
    intro x4 x5 x6 h7
    unfold x3
    extract_lets +onlyGivenNames x8
    have h8 : Frame P s0 (x8) := by
      unfold x8
      with_reducible apply frame_setRecipe (within_trans (by decide) hp)
      with_reducible assumption
    clear_value x8
    extract_lets +onlyGivenNames x9
    have h9 : Frame P s0 (x9) := by
      unfold x9
      with_reducible apply frame_setCore (within_trans (by decide) hp)
      with_reducible assumption
    clear_value x9
    with_reducible apply frame_ite
    · with_reducible apply frame_bump (within_trans (by decide) hp)
      with_reducible apply frame_doneTile (within_trans (by decide) hp)
      with_reducible assumption
    · with_reducible apply frame_failTile (within_trans (by decide) hp)
      with_reducible assumption
  clear_value x3
  extract_lets +onlyGivenNames x10
  clear_value x10
  extract_lets +onlyGivenNames x11
  clear_value x11
  extract_lets +onlyGivenNames x12
  clear_value x12
  split
  extract_lets +onlyGivenNames x13
  have h13 : Frame P s0 (x13) := by
    unfold x13
    with_reducible apply frame_setCore (within_trans (by decide) hp)
    refine frame_of_fst (by with_reducible assumption) ?_
    with_reducible apply frame_ite1
    · with_reducible apply frame_mk
      with_reducible assumption
    · with_reducible apply frame_publishSweep (within_trans (by decide) hp)
      with_reducible assumption
  clear_value x13
  with_reducible apply frame_ite
  · with_reducible assumption
  · split
    · refine frame_of_fst (by with_reducible assumption) ?_
      with_reducible apply frame_ite1
      · with_reducible apply frame_mk
        with_reducible assumption
      · with_reducible apply frame_readySpans (within_trans (by decide) hp)
        with_reducible assumption
    · with_reducible apply h3
      refine frame_of_fst (by with_reducible assumption) ?_
      with_reducible apply frame_ite1
      · with_reducible apply frame_mk
        with_reducible assumption
      · with_reducible apply frame_readySpans (within_trans (by decide) hp)
        with_reducible assumption
    · split
      extract_lets +onlyGivenNames x14
      clear_value x14
      extract_lets +onlyGivenNames x15
      clear_value x15
      extract_lets +onlyGivenNames x16
      clear_value x16
      with_reducible apply frame_ite
      · refine frame_of_fst (by with_reducible assumption) ?_
        with_reducible apply frame_ite1
        · with_reducible apply frame_mk
          refine frame_of_fst (by with_reducible assumption) ?_
          with_reducible apply frame_ite1
          · with_reducible apply frame_mk
            with_reducible assumption
          · with_reducible apply frame_readySpans (within_trans (by decide) hp)
            with_reducible assumption
        · with_reducible apply frame_publishSweep (within_trans (by decide) hp)
          refine frame_of_fst (by with_reducible assumption) ?_
          with_reducible apply frame_ite1
          · with_reducible apply frame_mk
            with_reducible assumption
          · with_reducible apply frame_readySpans (within_trans (by decide) hp)
            with_reducible assumption
      · with_reducible apply frame_ite
        · with_reducible apply h3
          refine frame_of_fst (by with_reducible assumption) ?_
          with_reducible apply frame_ite1
          · with_reducible apply frame_mk
            refine frame_of_fst (by with_reducible assumption) ?_
            with_reducible apply frame_ite1
            · with_reducible apply frame_mk
              with_reducible assumption
            · with_reducible apply frame_readySpans (within_trans (by decide) hp)
              with_reducible assumption
          · with_reducible apply frame_publishSweep (within_trans (by decide) hp)
            refine frame_of_fst (by with_reducible assumption) ?_
            with_reducible apply frame_ite1
            · with_reducible apply frame_mk
              with_reducible assumption
            · with_reducible apply frame_readySpans (within_trans (by decide) hp)
              with_reducible assumption
        · with_reducible apply frame_ite
          · with_reducible apply h3
            refine frame_of_fst (by with_reducible assumption) ?_
            with_reducible apply frame_ite1
            · with_reducible apply frame_mk
              refine frame_of_fst (by with_reducible assumption) ?_
              with_reducible apply frame_ite1
              · with_reducible apply frame_mk
                with_reducible assumption
              · with_reducible apply frame_readySpans (within_trans (by decide) hp)
                with_reducible assumption
            · with_reducible apply frame_publishSweep (within_trans (by decide) hp)
              refine frame_of_fst (by with_reducible assumption) ?_
              with_reducible apply frame_ite1
              · with_reducible apply frame_mk
                with_reducible assumption
              · with_reducible apply frame_readySpans (within_trans (by decide) hp)
                with_reducible assumption
          · with_reducible apply frame_ite
            · with_reducible apply h3
              refine frame_of_fst (by with_reducible assumption) ?_
              with_reducible apply frame_ite1
              · with_reducible apply frame_mk
                refine frame_of_fst (by with_reducible assumption) ?_
                with_reducible apply frame_ite1
                · with_reducible apply frame_mk
                  with_reducible assumption
                · with_reducible apply frame_readySpans (within_trans (by decide) hp)
                  with_reducible assumption
              · with_reducible apply frame_publishSweep (within_trans (by decide) hp)
                refine frame_of_fst (by with_reducible assumption) ?_
                with_reducible apply frame_ite1
                · with_reducible apply frame_mk
                  with_reducible assumption
                · with_reducible apply frame_readySpans (within_trans (by decide) hp)
                  with_reducible assumption
            · with_reducible apply frame_ite
              · with_reducible apply frame_bump (within_trans (by decide) hp)
                with_reducible apply h3
                refine frame_of_fst (by with_reducible assumption) ?_
                with_reducible apply frame_ite1
                · with_reducible apply frame_mk
                  refine frame_of_fst (by with_reducible assumption) ?_
                  with_reducible apply frame_ite1
                  · with_reducible apply frame_mk
                    with_reducible assumption
                  · with_reducible apply frame_readySpans (within_trans (by decide) hp)
                    with_reducible assumption
                · with_reducible apply frame_publishSweep (within_trans (by decide) hp)
                  refine frame_of_fst (by with_reducible assumption) ?_
                  with_reducible apply frame_ite1
                  · with_reducible apply frame_mk
                    with_reducible assumption
                  · with_reducible apply frame_readySpans (within_trans (by decide) hp)
                    with_reducible assumption
              · split
                · refine frame_of_fst (by with_reducible assumption) ?_
                  with_reducible apply frame_readySpans (within_trans (by decide) hp)
                  refine frame_of_fst (by with_reducible assumption) ?_
                  with_reducible apply frame_ite1
                  · with_reducible apply frame_mk
                    refine frame_of_fst (by with_reducible assumption) ?_
                    with_reducible apply frame_ite1
                    · with_reducible apply frame_mk
                      with_reducible assumption
                    · with_reducible apply frame_readySpans (within_trans (by decide) hp)
                      with_reducible assumption
                  · with_reducible apply frame_publishSweep (within_trans (by decide) hp)
                    refine frame_of_fst (by with_reducible assumption) ?_
                    with_reducible apply frame_ite1
                    · with_reducible apply frame_mk
                      with_reducible assumption
                    · with_reducible apply frame_readySpans (within_trans (by decide) hp)
                      with_reducible assumption
                · with_reducible apply h3
                  refine frame_of_fst (by with_reducible assumption) ?_
                  with_reducible apply frame_readySpans (within_trans (by decide) hp)
                  refine frame_of_fst (by with_reducible assumption) ?_
                  with_reducible apply frame_ite1
                  · with_reducible apply frame_mk
                    refine frame_of_fst (by with_reducible assumption) ?_
                    with_reducible apply frame_ite1
                    · with_reducible apply frame_mk
                      with_reducible assumption
                    · with_reducible apply frame_readySpans (within_trans (by decide) hp)
                      with_reducible assumption
                  · with_reducible apply frame_publishSweep (within_trans (by decide) hp)
                    refine frame_of_fst (by with_reducible assumption) ?_
                    with_reducible apply frame_ite1
                    · with_reducible apply frame_mk
                      with_reducible assumption
                    · with_reducible apply frame_readySpans (within_trans (by decide) hp)
                      with_reducible assumption
                · extract_lets +onlyGivenNames x17
                  clear_value x17
                  split
                  extract_lets +onlyGivenNames x18
                  have h18 : Frame P s0 (x18) := by
                    unfold x18
                    with_reducible apply frame_setRecipe (within_trans (by decide) hp)
                    refine frame_of_fst (by with_reducible assumption) ?_
                    with_reducible apply frame_commitOuts (within_trans (by decide) hp)
                    refine frame_of_fst (by with_reducible assumption) ?_
                    with_reducible apply frame_readySpans (within_trans (by decide) hp)
                    refine frame_of_fst (by with_reducible assumption) ?_
                    with_reducible apply frame_ite1
                    · with_reducible apply frame_mk
                      refine frame_of_fst (by with_reducible assumption) ?_
                      with_reducible apply frame_ite1
                      · with_reducible apply frame_mk
                        with_reducible assumption
                      · with_reducible apply frame_readySpans (within_trans (by decide) hp)
                        with_reducible assumption
                    · with_reducible apply frame_publishSweep (within_trans (by decide) hp)
                      refine frame_of_fst (by with_reducible assumption) ?_
                      with_reducible apply frame_ite1
                      · with_reducible apply frame_mk
                        with_reducible assumption
                      · with_reducible apply frame_readySpans (within_trans (by decide) hp)
                        with_reducible assumption
                  clear_value x18
                  with_reducible apply h3
                  with_reducible apply frame_onlyIf
                  · intro x19 h20
                    with_reducible apply frame_bump (within_trans (by decide) hp)
                    with_reducible assumption
                  · with_reducible assumption

theorem frame_streamUnit {P : List Part} {s0 : State} {r : Recipe} {V : LineReader} {block : Nat} {head : Nat} {base : Nat} {s : State} (hp : within [.ledger, .recp, .leaves] P = true) (h : Frame P s0 s) : Frame P s0 (streamUnit r V block head base s) := by
  unfold streamUnit
  extract_lets +onlyGivenNames x0
  clear_value x0
  with_reducible apply frame_forAll
  · intro x1 x2 h3
    extract_lets +onlyGivenNames x4
    clear_value x4
    extract_lets +onlyGivenNames x5
    clear_value x5
    extract_lets +onlyGivenNames x6
    clear_value x6
    extract_lets +onlyGivenNames x7
    clear_value x7
    extract_lets +onlyGivenNames x8
    clear_value x8
    extract_lets +onlyGivenNames x9
    clear_value x9
    extract_lets +onlyGivenNames x10
    clear_value x10
    with_reducible apply frame_ite
    · with_reducible assumption
    · with_reducible apply frame_setRecipe (within_trans (by decide) hp)
      with_reducible apply frame_sendPacket (within_trans (by decide) hp)
      with_reducible assumption
  · with_reducible assumption

theorem frame_commitTile {P : List Part} {s0 : State} {core : Nat} {r : Recipe} {t : CoreTile} {s : State} (hp : within [.pkg, .txn, .ledger, .part, .dir, .mem, .dram, .deep, .integ, .recp, .core, .mirror, .leaves, .power, .sessions, .obs, .rings, .kodp, .ctrs, .out, .free] P = true) (h : Frame P s0 s) : Frame P s0 (commitTile core r t s) := by
  unfold commitTile
  extract_lets +onlyGivenNames x0
  clear_value x0
  extract_lets +onlyGivenNames x1
  clear_value x1
  extract_lets +onlyGivenNames x2
  clear_value x2
  extract_lets +onlyGivenNames x3
  clear_value x3
  with_reducible apply frame_ite
  · with_reducible assumption
  · with_reducible apply frame_ite
    · with_reducible apply frame_publishTile (within_trans (by decide) hp)
      with_reducible assumption
    · extract_lets +onlyGivenNames x4
      have h4 : ∀ y0, ∀ y1, Frame P s0 y1 → Frame P s0 (x4 y0 y1) := by
        intro x5 x6 h7
        unfold x4
        with_reducible apply frame_setCore (within_trans (by decide) hp)
        with_reducible apply frame_failTile (within_trans (by decide) hp)
        with_reducible assumption
      clear_value x4
      extract_lets +onlyGivenNames x8
      clear_value x8
      extract_lets +onlyGivenNames x9
      clear_value x9
      split
      split
      · refine frame_of_fst (by with_reducible assumption) ?_
        with_reducible apply frame_ite1
        · with_reducible apply frame_readySpans (within_trans (by decide) hp)
          refine frame_of_fst (by with_reducible assumption) ?_
          with_reducible apply frame_grantWhole (within_trans (by decide) hp)
          with_reducible assumption
        · with_reducible apply frame_mk
          refine frame_of_fst (by with_reducible assumption) ?_
          with_reducible apply frame_grantWhole (within_trans (by decide) hp)
          with_reducible assumption
      · with_reducible apply h4
        refine frame_of_fst (by with_reducible assumption) ?_
        with_reducible apply frame_ite1
        · with_reducible apply frame_readySpans (within_trans (by decide) hp)
          refine frame_of_fst (by with_reducible assumption) ?_
          with_reducible apply frame_grantWhole (within_trans (by decide) hp)
          with_reducible assumption
        · with_reducible apply frame_mk
          refine frame_of_fst (by with_reducible assumption) ?_
          with_reducible apply frame_grantWhole (within_trans (by decide) hp)
          with_reducible assumption
      · extract_lets +onlyGivenNames x10
        clear_value x10
        extract_lets +onlyGivenNames x11
        clear_value x11
        split
        with_reducible apply frame_onVerdict (within_trans (by decide) hp)
        · intro x12 h13
          split
          · refine frame_of_fst (by with_reducible assumption) ?_
            with_reducible apply frame_readySpans (within_trans (by decide) hp)
            with_reducible assumption
          · with_reducible apply h4
            refine frame_of_fst (by with_reducible assumption) ?_
            with_reducible apply frame_readySpans (within_trans (by decide) hp)
            with_reducible assumption
          · extract_lets +onlyGivenNames x14
            clear_value x14
            extract_lets +onlyGivenNames x15
            clear_value x15
            extract_lets +onlyGivenNames x16
            have h16 : Frame P s0 (x16) := by
              unfold x16
              with_reducible apply frame_onlyIf
              · intro x17 h18
                with_reducible apply frame_useFree (within_trans (by decide) hp)
                with_reducible assumption
              · refine frame_of_fst (by with_reducible assumption) ?_
                with_reducible apply frame_readySpans (within_trans (by decide) hp)
                with_reducible assumption
            clear_value x16
            split
            extract_lets +onlyGivenNames x19
            have h19 : Frame P s0 (x19) := by
              unfold x19
              with_reducible apply frame_countEv (within_trans (by decide) hp)
              refine frame_of_fst (by with_reducible assumption) ?_
              with_reducible apply frame_commitOuts (within_trans (by decide) hp)
              with_reducible assumption
            clear_value x19
            extract_lets +onlyGivenNames x20
            clear_value x20
            extract_lets +onlyGivenNames x21
            clear_value x21
            extract_lets +onlyGivenNames x22
            have h22 : Frame P s0 (x22) := by
              unfold x22
              with_reducible apply frame_ite
              · with_reducible apply frame_streamUnit (within_trans (by decide) hp)
                with_reducible assumption
              · with_reducible assumption
            clear_value x22
            extract_lets +onlyGivenNames x23
            have h23 : Frame P s0 (x23) := by
              unfold x23
              with_reducible apply frame_setRecipe (within_trans (by decide) hp)
              with_reducible assumption
            clear_value x23
            with_reducible apply frame_bump (within_trans (by decide) hp)
            with_reducible apply frame_doneTile (within_trans (by decide) hp)
            with_reducible apply frame_setCore (within_trans (by decide) hp)
            with_reducible assumption
        · refine frame_of_fst (by with_reducible assumption) ?_
          with_reducible apply frame_ite1
          · with_reducible apply frame_checkSpans (within_trans (by decide) hp)
            refine frame_of_fst (by with_reducible assumption) ?_
            with_reducible apply frame_ite1
            · with_reducible apply frame_readySpans (within_trans (by decide) hp)
              refine frame_of_fst (by with_reducible assumption) ?_
              with_reducible apply frame_grantWhole (within_trans (by decide) hp)
              with_reducible assumption
            · with_reducible apply frame_mk
              refine frame_of_fst (by with_reducible assumption) ?_
              with_reducible apply frame_grantWhole (within_trans (by decide) hp)
              with_reducible assumption
          · with_reducible apply frame_mk
            refine frame_of_fst (by with_reducible assumption) ?_
            with_reducible apply frame_ite1
            · with_reducible apply frame_readySpans (within_trans (by decide) hp)
              refine frame_of_fst (by with_reducible assumption) ?_
              with_reducible apply frame_grantWhole (within_trans (by decide) hp)
              with_reducible assumption
            · with_reducible apply frame_mk
              refine frame_of_fst (by with_reducible assumption) ?_
              with_reducible apply frame_grantWhole (within_trans (by decide) hp)
              with_reducible assumption

theorem frame_mismatchTile {P : List Part} {s0 : State} {core : Nat} {thread : Nat} {r : Recipe} {t : CoreTile} {s : State} (hp : within [.ledger, .dir, .dram, .deep, .integ, .recp, .core, .mirror, .leaves, .power, .sessions, .boot, .units, .rings, .kodp, .running, .ctrs, .out] P = true) (h : Frame P s0 s) : Frame P s0 (mismatchTile core thread r t s) := by
  unfold mismatchTile
  extract_lets +onlyGivenNames x0
  clear_value x0
  extract_lets +onlyGivenNames x1
  have h1 : Frame P s0 (x1) := by
    unfold x1
    with_reducible apply frame_setCore (within_trans (by decide) hp)
    with_reducible assumption
  clear_value x1
  extract_lets +onlyGivenNames x2
  have h2 : Frame P s0 (x2) := by
    unfold x2
    with_reducible apply frame_bump (within_trans (by decide) hp)
    with_reducible apply frame_loseTile (within_trans (by decide) hp)
    with_reducible assumption
  clear_value x2
  with_reducible apply frame_fillLocals (within_trans (by decide) hp)
  with_reducible apply frame_noteMismatch (within_trans (by decide) hp)
  with_reducible assumption

theorem frame_execTileCommit {P : List Part} {s0 : State} {core : Nat} {residue : Bool} {s : State} (hp : within [.pkg, .txn, .ledger, .part, .dir, .mem, .dram, .deep, .integ, .recp, .core, .twin, .mirror, .traffic, .leaves, .power, .sec, .sessions, .boot, .units, .obs, .rings, .kodp, .running, .ctrs, .out, .free] P = true) (h : Frame P s0 s) : FrameO P s0 (execTileCommit core residue s) := by
  unfold execTileCommit
  with_reducible apply frameO_ite
  · with_reducible apply frameO_next
    with_reducible assumption
  · split
    · with_reducible apply frameO_next
      with_reducible assumption
    · split
      · with_reducible apply frameO_next
        with_reducible apply frame_setCore (within_trans (by decide) hp)
        with_reducible assumption
      · with_reducible apply frameO_ite
        · with_reducible apply frameO_next
          with_reducible assumption
        · with_reducible apply frameO_ite
          · with_reducible apply frameO_next
            with_reducible apply frame_mismatchTile (within_trans (by decide) hp)
            with_reducible assumption
          · with_reducible apply frameO_next
            with_reducible apply frame_settleWaits (within_trans (by decide) hp)
            with_reducible apply frame_fillLocals (within_trans (by decide) hp)
            with_reducible apply frame_commitTile (within_trans (by decide) hp)
            with_reducible assumption

theorem frame_execRecipeEnd {P : List Part} {s0 : State} {recipe : Nat} {s : State} (hp : within [.pkg, .txn, .ledger, .part, .dir, .mem, .dram, .deep, .integ, .recp, .core, .twin, .mirror, .traffic, .leaves, .power, .sec, .sessions, .obs, .rings, .kodp, .running, .ctrs, .out, .free] P = true) (h : Frame P s0 s) : FrameO P s0 (execRecipeEnd recipe s) := by
  unfold execRecipeEnd
  with_reducible apply frameO_ite
  · with_reducible apply frameO_next
    with_reducible assumption
  · split
    · with_reducible apply frameO_next
      with_reducible assumption
    · extract_lets +onlyGivenNames x0
      clear_value x0
      with_reducible apply frameO_ite
      · with_reducible apply frameO_ite
        · extract_lets +onlyGivenNames x1
          clear_value x1
          with_reducible apply frameO_next
          with_reducible apply frame_settleWaits (within_trans (by decide) hp)
          with_reducible apply frame_retryStage (within_trans (by decide) hp)
          with_reducible apply frame_ite
          · with_reducible apply frame_withdrawRank (within_trans (by decide) hp)
            with_reducible assumption
          · with_reducible apply frame_endStage (within_trans (by decide) hp)
            with_reducible assumption
        · with_reducible apply frameO_ite
          · with_reducible apply frameO_next
            with_reducible apply frame_settleWaits (within_trans (by decide) hp)
            with_reducible apply frame_retryStage (within_trans (by decide) hp)
            with_reducible apply frame_endStage (within_trans (by decide) hp)
            with_reducible assumption
          · with_reducible apply frameO_next
            with_reducible assumption
      · with_reducible apply frameO_ite
        · with_reducible apply frameO_next
          with_reducible assumption
        · with_reducible apply frameO_ite
          · with_reducible apply frameO_next
            with_reducible apply frame_ite
            · with_reducible apply frame_settleWaits (within_trans (by decide) hp)
              with_reducible apply frame_retryStage (within_trans (by decide) hp)
              with_reducible apply frame_endStage (within_trans (by decide) hp)
              with_reducible assumption
            · with_reducible assumption
          · with_reducible apply frameO_next
            with_reducible apply frame_settleWaits (within_trans (by decide) hp)
            with_reducible apply frame_endRecipe (within_trans (by decide) hp)
            with_reducible assumption

theorem frame_execAdmissionLimitTimeout {P : List Part} {s0 : State} {recipe : Nat} {s : State} (hp : within [.pkg, .recp, .core, .power, .ctrs] P = true) (h : Frame P s0 s) : FrameO P s0 (execAdmissionLimitTimeout recipe s) := by
  unfold execAdmissionLimitTimeout
  with_reducible apply frameO_ite
  · with_reducible apply frameO_next
    with_reducible assumption
  · split
    · with_reducible apply frameO_ite
      · with_reducible apply frameO_next
        with_reducible apply frame_endRecipeGrants (within_trans (by decide) hp)
        with_reducible apply frame_failTile (within_trans (by decide) hp)
        with_reducible assumption
      · with_reducible apply frameO_next
        with_reducible assumption
    · with_reducible apply frameO_next
      with_reducible assumption

theorem frame_execAllreduceDeadline {P : List Part} {s0 : State} {recipe : Nat} {s : State} (hp : within [.pkg, .txn, .ledger, .part, .dir, .mem, .dram, .deep, .integ, .recp, .core, .mirror, .leaves, .power, .sec, .sessions, .obs, .rings, .kodp, .ctrs, .out, .free] P = true) (h : Frame P s0 s) : FrameO P s0 (execAllreduceDeadline recipe s) := by
  unfold execAllreduceDeadline
  with_reducible apply frameO_ite
  · with_reducible apply frameO_next
    with_reducible assumption
  · split
    · with_reducible apply frameO_ite
      · extract_lets +onlyGivenNames x0
        have h0 : Frame P s0 (x0) := by
          unfold x0
          with_reducible apply frame_forAll
          · intro x1 x2 h3
            with_reducible apply frame_setRecipe (within_trans (by decide) hp)
            with_reducible assumption
          · with_reducible assumption
        clear_value x0
        with_reducible apply frameO_next
        with_reducible apply frame_retryStage (within_trans (by decide) hp)
        with_reducible apply frame_endStage (within_trans (by decide) hp)
        with_reducible assumption
      · with_reducible apply frameO_next
        with_reducible assumption
    · with_reducible apply frameO_next
      with_reducible assumption

theorem frame_execGenSettleRecheck {P : List Part} {s0 : State} {src : Nat} {tag : Nat} {expired : Bool} {s : State} (hp : within [.pkg, .txn, .ledger, .part, .dir, .mem, .dram, .deep, .integ, .recp, .mirror, .leaves, .power, .sec, .sessions, .obs, .rings, .kodp, .ctrs, .out, .free] P = true) (h : Frame P s0 s) : FrameO P s0 (execGenSettleRecheck src tag expired s) := by
  unfold execGenSettleRecheck
  with_reducible apply frameO_ite
  · with_reducible apply frameO_next
    with_reducible assumption
  · split
    · with_reducible apply frameO_next
      with_reducible assumption
    · with_reducible apply frameO_ite
      · with_reducible apply frameO_next
        with_reducible assumption
      · with_reducible apply frameO_ite
        · extract_lets +onlyGivenNames x0
          clear_value x0
          extract_lets +onlyGivenNames x1
          have h1 : Frame P s0 (x1) := by
            unfold x1
            refine frame_onTxn [.ledger, .txn] (within_trans (by decide) hp) (.inl rfl) (.inl rfl) ?_
            with_reducible assumption
          clear_value x1
          split
          · with_reducible apply frameO_ite
            · split
              with_reducible apply frameO_next
              with_reducible apply frame_refuseRecipe (within_trans (by decide) hp)
              refine frame_of_fst (by with_reducible assumption) ?_
              with_reducible apply frame_recordFault (within_trans (by decide) hp)
              refine frame_of_fst (by with_reducible assumption) ?_
              with_reducible apply frame_recipeChecks (within_trans (by decide) hp)
              with_reducible assumption
            · with_reducible apply frameO_next
              refine frame_onTxn [.ledger, .txn] (within_trans (by decide) hp) (.inl rfl) (.inl rfl) ?_
              refine frame_of_fst (by with_reducible assumption) ?_
              with_reducible apply frame_recipeChecks (within_trans (by decide) hp)
              with_reducible assumption
          · with_reducible apply frameO_next
            with_reducible apply frame_retryRecipe (within_trans (by decide) hp)
            with_reducible assumption
        · split
          split
          · extract_lets +onlyGivenNames x2
            have h2 : Frame P s0 (x2) := by
              unfold x2
              refine frame_onTxn [.ledger, .txn] (within_trans (by decide) hp) (.inl rfl) (.inl rfl) ?_
              refine frame_of_fst (by with_reducible assumption) ?_
              with_reducible apply frame_checkAddressed (within_trans (by decide) hp)
              with_reducible assumption
            clear_value x2
            extract_lets +onlyGivenNames x3
            clear_value x3
            with_reducible apply frameO_next
            with_reducible apply frame_acceptListed (within_trans (by decide) hp)
            with_reducible apply frame_setRequest (within_trans (by decide) hp)
            with_reducible assumption
          · with_reducible apply frameO_next
            with_reducible apply frame_answerFault (within_trans (by decide) hp)
            with_reducible apply frame_dropRequest (within_trans (by decide) hp)
            refine frame_of_fst (by with_reducible assumption) ?_
            with_reducible apply frame_checkAddressed (within_trans (by decide) hp)
            with_reducible assumption
          · with_reducible apply frameO_next
            with_reducible apply frame_ite
            · with_reducible apply frame_answerFault (within_trans (by decide) hp)
              with_reducible apply frame_dropRequest (within_trans (by decide) hp)
              refine frame_of_fst (by with_reducible assumption) ?_
              with_reducible apply frame_checkAddressed (within_trans (by decide) hp)
              with_reducible assumption
            · refine frame_of_fst (by with_reducible assumption) ?_
              with_reducible apply frame_checkAddressed (within_trans (by decide) hp)
              with_reducible assumption

end Sys2Proof.Machine
end

