-- ==== Sys2Proof/Laws/FrameOpsCore.lean ====
section
/-!
SUPPORT. Laws/FrameOpsCore.lean: the frame of every operation and command of Machine/OpsCore.lean.
-/
namespace Sys2Proof.Machine

theorem frame_drainTile {P : List Part} {s0 : State} {core : Nat} {s : State} (hp : within [.recp, .core, .ctrs] P = true) (h : Frame P s0 s) : Frame P s0 (drainTile core s) := by
  unfold drainTile
  split
  · with_reducible assumption
  · with_reducible apply frame_ite
    · with_reducible assumption
    · extract_lets +onlyGivenNames x0
      have h0 : Frame P s0 (x0) := by
        unfold x0
        with_reducible apply frame_setCore (within_trans (by decide) hp)
        with_reducible assumption
      clear_value x0
      extract_lets +onlyGivenNames x1
      have h1 : Frame P s0 (x1) := by
        unfold x1
        with_reducible apply frame_ite
        · with_reducible apply frame_bump (within_trans (by decide) hp)
          with_reducible apply frame_loseTile (within_trans (by decide) hp)
          with_reducible assumption
        · with_reducible assumption
      clear_value x1
      with_reducible apply frame_fillLocals (within_trans (by decide) hp)
      with_reducible assumption

theorem frame_takeExc {P : List Part} {s0 : State} {core : Nat} {e : Exc} {s : State} (hp : within [.recp, .core, .ctrs] P = true) (h : Frame P s0 s) : Frame P s0 (takeExc core e s) := by
  unfold takeExc
  split
  · with_reducible assumption
  · with_reducible apply frame_ite
    · with_reducible assumption
    · extract_lets +onlyGivenNames x0
      have h0 : Frame P s0 (x0) := by
        unfold x0
        with_reducible apply frame_bump (within_trans (by decide) hp)
        with_reducible assumption
      clear_value x0
      extract_lets +onlyGivenNames x1
      have h1 : Frame P s0 (x1) := by
        unfold x1
        with_reducible apply frame_setRecipe (within_trans (by decide) hp)
        with_reducible assumption
      clear_value x1
      extract_lets +onlyGivenNames x2
      have h2 : Frame P s0 (x2) := by
        unfold x2
        with_reducible apply frame_failTile (within_trans (by decide) hp)
        with_reducible assumption
      clear_value x2
      with_reducible apply frame_drainTile (within_trans (by decide) hp)
      with_reducible assumption

theorem frame_loseKernel {P : List Part} {s0 : State} {core : Nat} {e : Exc} {s : State} (hp : within [.recp, .core, .ctrs] P = true) (h : Frame P s0 s) : Frame P s0 (loseKernel core e s) := by
  unfold loseKernel
  split
  · with_reducible assumption
  · split
    · with_reducible assumption
    · with_reducible apply frame_ite
      · with_reducible apply frame_takeExc (within_trans (by decide) hp)
        with_reducible assumption
      · with_reducible apply frame_drainTile (within_trans (by decide) hp)
        with_reducible apply frame_setCore (within_trans (by decide) hp)
        with_reducible assumption

theorem frame_residueKernel {P : List Part} {s0 : State} {core : Nat} {thread : Nat} {major : Nat} {t : CoreTile} {x : Thread} {s : State} (hp : within [.ledger, .dir, .dram, .deep, .integ, .recp, .core, .mirror, .leaves, .power, .sessions, .boot, .units, .rings, .kodp, .running, .ctrs, .out] P = true) (h : Frame P s0 s) : Frame P s0 (residueKernel core thread major t x s) := by
  unfold residueKernel
  extract_lets +onlyGivenNames x0
  clear_value x0
  with_reducible apply frame_noteMismatch (within_trans (by decide) hp)
  with_reducible apply frame_bump (within_trans (by decide) hp)
  with_reducible apply frame_loseKernel (within_trans (by decide) hp)
  with_reducible assumption

theorem frame_setThread {P : List Part} {s0 : State} {core : Nat} {th : Nat} {f : Thread → Thread} {s : State} (hp : within [.core] P = true) (h : Frame P s0 s) : Frame P s0 (setThread core th f s) := by
  unfold setThread
  with_reducible apply frame_setCore (within_trans (by decide) hp)
  with_reducible assumption

theorem frame_takeTurn {P : List Part} {s0 : State} {core : Nat} {th : Nat} {s : State} (hp : within [.core] P = true) (h : Frame P s0 s) : Frame P s0 (takeTurn core th s) := by
  unfold takeTurn
  with_reducible apply frame_setCore (within_trans (by decide) hp)
  with_reducible assumption

theorem frame_firstIssue {P : List Part} {s0 : State} {core : Nat} {t : CoreTile} {s : State} (hp : within [.recp, .core] P = true) (h : Frame P s0 s) : Frame P s0 (firstIssue core t s) := by
  unfold firstIssue
  with_reducible apply frame_ite
  · with_reducible assumption
  · with_reducible apply frame_setRecipe (within_trans (by decide) hp)
    with_reducible apply frame_setCore (within_trans (by decide) hp)
    with_reducible assumption

theorem frame_issue {P : List Part} {s0 : State} {core : Nat} {th : Nat} {uses : List Nat} {all : Bool} {drain : Bool} {go : CoreTile → Thread → State → State} {s : State} (hp : within [.recp, .core, .ctrs] P = true) (h_go : (∀ x0, ∀ x1, ∀ x2, Frame P s0 x2 → Frame P s0 (go x0 x1 x2))) (h : Frame P s0 s) : Frame P s0 (issue core th uses all drain go s) := by
  unfold issue
  split
  · with_reducible assumption
  · split
    · with_reducible apply frame_takeExc (within_trans (by decide) hp)
      with_reducible assumption
    · with_reducible apply frame_ite
      · with_reducible assumption
      · with_reducible apply h_go
        with_reducible apply frame_firstIssue (within_trans (by decide) hp)
        with_reducible apply frame_takeTurn (within_trans (by decide) hp)
        with_reducible assumption

theorem frame_retireTo {P : List Part} {s0 : State} {core : Nat} {th : Nat} {major : Nat} {t : CoreTile} {x : Thread} {next : Int} {f : Thread → Thread} {s : State} (hp : within [.recp, .core, .ctrs] P = true) (h : Frame P s0 s) : Frame P s0 (retireTo core th major t x next f s) := by
  unfold retireTo
  extract_lets +onlyGivenNames x0
  have h0 : Frame P s0 (x0) := by
    unfold x0
    with_reducible apply frame_bump (within_trans (by decide) hp)
    with_reducible assumption
  clear_value x0
  with_reducible apply frame_ite
  · with_reducible apply frame_takeExc (within_trans (by decide) hp)
    with_reducible apply frame_setThread (within_trans (by decide) hp)
    with_reducible assumption
  · with_reducible apply frame_setThread (within_trans (by decide) hp)
    with_reducible assumption

theorem frame_retire {P : List Part} {s0 : State} {core : Nat} {th : Nat} {major : Nat} {t : CoreTile} {x : Thread} {f : Thread → Thread} {s : State} (hp : within [.recp, .core, .ctrs] P = true) (h : Frame P s0 s) : Frame P s0 (retire core th major t x f s) := by
  unfold retire
  with_reducible apply frame_retireTo (within_trans (by decide) hp)
  with_reducible assumption

theorem frame_endTile {P : List Part} {s0 : State} {core : Nat} {s : State} (hp : within [.pkg, .txn, .ledger, .part, .dir, .mem, .dram, .deep, .integ, .recp, .core, .twin, .mirror, .traffic, .leaves, .power, .sec, .sessions, .obs, .rings, .kodp, .running, .ctrs, .out, .free] P = true) (h : Frame P s0 s) : Frame P s0 (endTile core s) := by
  unfold endTile
  split
  · with_reducible assumption
  · with_reducible apply frame_ite
    · with_reducible assumption
    · split
      · with_reducible apply frame_takeExc (within_trans (by decide) hp)
        with_reducible assumption
      · extract_lets +onlyGivenNames x0
        have h0 : Frame P s0 (x0) := by
          unfold x0
          with_reducible apply frame_setCore (within_trans (by decide) hp)
          with_reducible assumption
        clear_value x0
        extract_lets +onlyGivenNames x1
        have h1 : Frame P s0 (x1) := by
          unfold x1
          with_reducible apply frame_setRecipe (within_trans (by decide) hp)
          with_reducible assumption
        clear_value x1
        extract_lets +onlyGivenNames x2
        have h2 : Frame P s0 (x2) := by
          unfold x2
          with_reducible apply frame_bump (within_trans (by decide) hp)
          with_reducible apply frame_bump (within_trans (by decide) hp)
          with_reducible apply frame_doneTile (within_trans (by decide) hp)
          with_reducible assumption
        clear_value x2
        with_reducible apply frame_settleWaits (within_trans (by decide) hp)
        with_reducible apply frame_fillLocals (within_trans (by decide) hp)
        with_reducible assumption

theorem frame_openBarrier {P : List Part} {s0 : State} {core : Nat} {s : State} (hp : within [.core] P = true) (h : Frame P s0 s) : Frame P s0 (openBarrier core s) := by
  unfold openBarrier
  with_reducible apply frame_setCore (within_trans (by decide) hp)
  with_reducible assumption

theorem frame_unpoisoned {P : List Part} {s0 : State} {core : Nat} {th : Nat} {major : Nat} {x : Thread} {bad : Bool} {go : State → State} {s : State} (hp : within [.recp, .core, .ctrs] P = true) (h_go : (∀ x0, Frame P s0 x0 → Frame P s0 (go x0))) (h : Frame P s0 s) : Frame P s0 (unpoisoned core th major x bad go s) := by
  unfold unpoisoned
  with_reducible apply frame_ite
  · with_reducible apply frame_takeExc (within_trans (by decide) hp)
    with_reducible assumption
  · with_reducible apply h_go
    with_reducible assumption

theorem frame_scalarOp {P : List Part} {s0 : State} {core : Nat} {th : Nat} {major : Nat} {rd : Nat} {uses : List Nat} {f : State → Thread → Word64 × Bool} {s : State} (hp : within [.recp, .core, .ctrs] P = true) (h : Frame P s0 s) : Frame P s0 (scalarOp core th major rd uses f s) := by
  unfold scalarOp
  with_reducible apply frame_issue (within_trans (by decide) hp)
  · intro x0 x1 x2 h3
    extract_lets +onlyGivenNames x4
    clear_value x4
    with_reducible apply frame_retire (within_trans (by decide) hp)
    with_reducible assumption
  · with_reducible assumption

theorem frame_branch {P : List Part} {s0 : State} {core : Nat} {th : Nat} {major : Nat} {rs1 : Nat} {rs2 : Nat} {off : Int} {c : Word64 → Word64 → Bool} {s : State} (hp : within [.recp, .core, .ctrs] P = true) (h : Frame P s0 s) : Frame P s0 (branch core th major rs1 rs2 off c s) := by
  unfold branch
  with_reducible apply frame_issue (within_trans (by decide) hp)
  · intro x0 x1 x2 h3
    extract_lets +onlyGivenNames x4
    clear_value x4
    extract_lets +onlyGivenNames x5
    clear_value x5
    with_reducible apply frame_unpoisoned (within_trans (by decide) hp)
    · intro x6 h7
      with_reducible apply frame_retireTo (within_trans (by decide) hp)
      with_reducible assumption
    · with_reducible assumption
  · with_reducible assumption

theorem frame_trayAccess {P : List Part} {s0 : State} {core : Nat} {th : Nat} {major : Nat} {t : CoreTile} {x : Thread} {base : Word64 × Bool} {off : Int} {n : Nat} {al : Nat} {go : Nat → State → State} {s : State} (hp : within [.recp, .core, .ctrs] P = true) (h_go : (∀ x0, ∀ x1, Frame P s0 x1 → Frame P s0 (go x0 x1))) (h : Frame P s0 s) : Frame P s0 (trayAccess core th major t x base off n al go s) := by
  unfold trayAccess
  with_reducible apply frame_unpoisoned (within_trans (by decide) hp)
  · intro x0 h1
    extract_lets +onlyGivenNames x2
    clear_value x2
    with_reducible apply frame_ite
    · with_reducible apply frame_takeExc (within_trans (by decide) hp)
      with_reducible assumption
    · with_reducible apply frame_ite
      · with_reducible apply frame_takeExc (within_trans (by decide) hp)
        with_reducible assumption
      · with_reducible apply h_go
        with_reducible assumption
  · with_reducible assumption

theorem frame_poolAccess {P : List Part} {s0 : State} {core : Nat} {th : Nat} {major : Nat} {t : CoreTile} {x : Thread} {bad : Bool} {a : Nat} {al : Nat} {need : List Nat} {write : Bool} {kind : AccKind} {f : Thread → Thread} {s : State} (hp : within [.pkg, .txn, .ledger, .part, .dir, .mem, .dram, .deep, .integ, .recp, .core, .mirror, .leaves, .power, .sessions, .obs, .rings, .kodp, .ctrs, .out, .free] P = true) (h : Frame P s0 s) : Frame P s0 (poolAccess core th major t x bad a al need write kind f s) := by
  unfold poolAccess
  with_reducible apply frame_unpoisoned (within_trans (by decide) hp)
  · intro x0 h1
    with_reducible apply frame_ite
    · with_reducible apply frame_takeExc (within_trans (by decide) hp)
      with_reducible assumption
    · with_reducible apply frame_ite
      · with_reducible assumption
      · split
        · with_reducible assumption
        · extract_lets +onlyGivenNames x2
          have h2 : ∀ y0, ∀ y1, Frame P s0 y1 → Frame P s0 (x2 y0 y1) := by
            intro x3 x4 h5
            unfold x2
            split
            extract_lets +onlyGivenNames x6
            clear_value x6
            with_reducible apply frame_takeExc (within_trans (by decide) hp)
            refine frame_of_fst (by with_reducible assumption) ?_
            with_reducible apply frame_recordFault (within_trans (by decide) hp)
            with_reducible assumption
          clear_value x2
          extract_lets +onlyGivenNames x7
          clear_value x7
          split
          · split
            · refine frame_of_fst (by with_reducible assumption) ?_
              with_reducible apply frame_settleFor (within_trans (by decide) hp)
              refine frame_of_fst (by with_reducible assumption) ?_
              with_reducible apply frame_xlate (within_trans (by decide) hp)
              with_reducible assumption
            · with_reducible apply h2
              refine frame_of_fst (by with_reducible assumption) ?_
              with_reducible apply frame_settleFor (within_trans (by decide) hp)
              refine frame_of_fst (by with_reducible assumption) ?_
              with_reducible apply frame_xlate (within_trans (by decide) hp)
              with_reducible assumption
          · with_reducible apply h2
            with_reducible apply frame_settled (within_trans (by decide) hp)
            refine frame_of_fst (by with_reducible assumption) ?_
            with_reducible apply frame_xlate (within_trans (by decide) hp)
            with_reducible assumption
          · extract_lets +onlyGivenNames x8
            have h8 : Frame P s0 (x8) := by
              unfold x8
              with_reducible apply frame_settled (within_trans (by decide) hp)
              refine frame_of_fst (by with_reducible assumption) ?_
              with_reducible apply frame_xlate (within_trans (by decide) hp)
              with_reducible assumption
            clear_value x8
            with_reducible apply frame_ite
            · with_reducible apply h2
              with_reducible assumption
            · extract_lets +onlyGivenNames x9
              clear_value x9
              with_reducible apply frame_retire (within_trans (by decide) hp)
              with_reducible assumption
  · with_reducible assumption

theorem frame_endAccess {P : List Part} {s0 : State} {core : Nat} {th : Nat} {n : Nat} {f : Thread → Thread} {s : State} (hp : within [.pkg, .txn, .ledger, .part, .dir, .mem, .dram, .deep, .integ, .recp, .core, .twin, .mirror, .traffic, .leaves, .power, .sec, .sessions, .obs, .rings, .kodp, .running, .ctrs, .out, .free] P = true) (h : Frame P s0 s) : Frame P s0 (endAccess core th n f s) := by
  unfold endAccess
  extract_lets +onlyGivenNames x0
  have h0 : Frame P s0 (x0) := by
    unfold x0
    with_reducible apply frame_setThread (within_trans (by decide) hp)
    with_reducible assumption
  clear_value x0
  with_reducible apply frame_endTile (within_trans (by decide) hp)
  with_reducible apply frame_drainTile (within_trans (by decide) hp)
  with_reducible assumption

theorem frame_countPoisoned {P : List Part} {s0 : State} {recipe : Nat} {line : Nat} {s : State} (hp : within [.recp] P = true) (h : Frame P s0 s) : Frame P s0 (countPoisoned recipe line s) := by
  unfold countPoisoned
  with_reducible apply frame_ite
  · with_reducible apply frame_setRecipe (within_trans (by decide) hp)
    with_reducible assumption
  · with_reducible assumption

theorem frame_performAccess {P : List Part} {s0 : State} {core : Nat} {th : Nat} {recipe : Nat} {a : Access} {s : State} (hp : within [.pkg, .txn, .ledger, .part, .dir, .mem, .dram, .deep, .integ, .recp, .core, .twin, .mirror, .traffic, .leaves, .power, .sec, .sessions, .obs, .rings, .kodp, .running, .ctrs, .out, .free] P = true) (h : Frame P s0 s) : Frame P s0 (performAccess core th recipe a s) := by
  unfold performAccess
  extract_lets +onlyGivenNames x0
  clear_value x0
  extract_lets +onlyGivenNames x1
  clear_value x1
  split
  extract_lets +onlyGivenNames x2
  have h2 : Frame P s0 (x2) := by
    unfold x2
    with_reducible apply frame_countMismatch (within_trans (by decide) hp)
    with_reducible assumption
  clear_value x2
  split
  · extract_lets +onlyGivenNames x3
    clear_value x3
    extract_lets +onlyGivenNames x4
    clear_value x4
    with_reducible apply frame_endAccess (within_trans (by decide) hp)
    with_reducible assumption
  · with_reducible apply frame_endAccess (within_trans (by decide) hp)
    with_reducible assumption
  · with_reducible apply frame_ite
    · with_reducible apply frame_endAccess (within_trans (by decide) hp)
      with_reducible apply frame_onlyIf
      · intro x5 h6
        with_reducible apply frame_poisonListed (within_trans (by decide) hp)
        with_reducible assumption
      · with_reducible assumption
    · with_reducible apply frame_ite
      · with_reducible apply frame_endAccess (within_trans (by decide) hp)
        with_reducible assumption
      · extract_lets +onlyGivenNames x7
        have h7 : Frame P s0 (x7) := by
          unfold x7
          with_reducible apply frame_ite
          · with_reducible apply frame_writeLine (within_trans (by decide) hp)
            with_reducible assumption
          · with_reducible apply frame_mergeLine (within_trans (by decide) hp)
            with_reducible assumption
        clear_value x7
        with_reducible apply frame_endAccess (within_trans (by decide) hp)
        with_reducible apply frame_countPoisoned (within_trans (by decide) hp)
        with_reducible apply frame_tileWrite (within_trans (by decide) hp)
        with_reducible assumption
  · with_reducible apply frame_ite
    · with_reducible apply frame_endAccess (within_trans (by decide) hp)
      with_reducible assumption
    · with_reducible apply frame_ite
      · with_reducible apply frame_endAccess (within_trans (by decide) hp)
        with_reducible assumption
      · extract_lets +onlyGivenNames x8
        clear_value x8
        extract_lets +onlyGivenNames x9
        have h9 : Frame P s0 (x9) := by
          unfold x9
          with_reducible apply frame_ite
          · with_reducible assumption
          · with_reducible apply frame_mergeLine (within_trans (by decide) hp)
            with_reducible assumption
        clear_value x9
        with_reducible apply frame_endAccess (within_trans (by decide) hp)
        with_reducible apply frame_tileWrite (within_trans (by decide) hp)
        with_reducible assumption
  · with_reducible apply frame_ite
    · with_reducible apply frame_endAccess (within_trans (by decide) hp)
      with_reducible assumption
    · with_reducible apply frame_ite
      · with_reducible apply frame_endAccess (within_trans (by decide) hp)
        with_reducible apply frame_takeExc (within_trans (by decide) hp)
        with_reducible assumption
      · extract_lets +onlyGivenNames x10
        clear_value x10
        extract_lets +onlyGivenNames x11
        have h11 : Frame P s0 (x11) := by
          unfold x11
          with_reducible apply frame_onlyIf
          · intro x12 h13
            with_reducible apply frame_tileWrite (within_trans (by decide) hp)
            with_reducible apply frame_writeLine (within_trans (by decide) hp)
            with_reducible assumption
          · with_reducible assumption
        clear_value x11
        extract_lets +onlyGivenNames x14
        clear_value x14
        with_reducible apply frame_endAccess (within_trans (by decide) hp)
        with_reducible assumption

end Sys2Proof.Machine
end

