-- ==== Sys2Proof/Laws/FrameKernelMemory.lean ====
section
/-!
SUPPORT. Laws/FrameKernelMemory.lean: the frame of every operation and command of Machine/KernelMemory.lean.
-/
namespace Sys2Proof.Machine

theorem frame_trayLoad {P : List Part} {s0 : State} {core : Nat} {th : Nat} {major : Nat} {rt : Nat} {rb : Nat} {size : Nat} {imm : Int} {sgn : Bool} {s : State} (hp : within [.recp, .core, .ctrs] P = true) (h : Frame P s0 s) : Frame P s0 (trayLoad core th major rt rb size imm sgn s) := by
  unfold trayLoad
  extract_lets +onlyGivenNames x0
  clear_value x0
  with_reducible apply frame_issue (within_trans (by decide) hp)
  · intro x1 x2 x3 h4
    with_reducible apply frame_trayAccess (within_trans (by decide) hp)
    · intro x5 x6 h7
      split
      extract_lets +onlyGivenNames x8
      clear_value x8
      with_reducible apply frame_retire (within_trans (by decide) hp)
      with_reducible assumption
    · with_reducible assumption
  · with_reducible assumption

theorem frame_execTld {P : List Part} {s0 : State} {core : Nat} {thread : Nat} {rt : Nat} {rb : Nat} {size : Nat} {imm : Int} {s : State} (hp : within [.recp, .core, .ctrs] P = true) (h : Frame P s0 s) : FrameO P s0 (execTld core thread rt rb size imm s) := by
  unfold execTld
  with_reducible apply frameO_next
  with_reducible apply frame_trayLoad (within_trans (by decide) hp)
  with_reducible assumption

theorem frame_execTlds {P : List Part} {s0 : State} {core : Nat} {thread : Nat} {rt : Nat} {rb : Nat} {size : Nat} {imm : Int} {s : State} (hp : within [.recp, .core, .ctrs] P = true) (h : Frame P s0 s) : FrameO P s0 (execTlds core thread rt rb size imm s) := by
  unfold execTlds
  with_reducible apply frameO_next
  with_reducible apply frame_trayLoad (within_trans (by decide) hp)
  with_reducible assumption

theorem frame_execTst {P : List Part} {s0 : State} {core : Nat} {thread : Nat} {rt : Nat} {rb : Nat} {size : Nat} {imm : Int} {s : State} (hp : within [.recp, .core, .ctrs] P = true) (h : Frame P s0 s) : FrameO P s0 (execTst core thread rt rb size imm s) := by
  unfold execTst
  extract_lets +onlyGivenNames x0
  clear_value x0
  with_reducible apply frameO_next
  with_reducible apply frame_issue (within_trans (by decide) hp)
  · intro x1 x2 x3 h4
    with_reducible apply frame_trayAccess (within_trans (by decide) hp)
    · intro x5 x6 h7
      with_reducible apply frame_retire (within_trans (by decide) hp)
      with_reducible apply frame_setCore (within_trans (by decide) hp)
      with_reducible assumption
    · with_reducible assumption
  · with_reducible assumption

theorem frame_execVtld {P : List Part} {s0 : State} {core : Nat} {thread : Nat} {vt : Nat} {rb : Nat} {imm : Int} {s : State} (hp : within [.recp, .core, .ctrs] P = true) (h : Frame P s0 s) : FrameO P s0 (execVtld core thread vt rb imm s) := by
  unfold execVtld
  with_reducible apply frameO_next
  with_reducible apply frame_issue (within_trans (by decide) hp)
  · intro x0 x1 x2 h3
    with_reducible apply frame_trayAccess (within_trans (by decide) hp)
    · intro x4 x5 h6
      split
      with_reducible apply frame_retire (within_trans (by decide) hp)
      with_reducible assumption
    · with_reducible assumption
  · with_reducible assumption

theorem frame_execVtst {P : List Part} {s0 : State} {core : Nat} {thread : Nat} {vt : Nat} {rb : Nat} {pred : Nat} {imm : Int} {s : State} (hp : within [.recp, .core, .ctrs] P = true) (h : Frame P s0 s) : FrameO P s0 (execVtst core thread vt rb pred imm s) := by
  unfold execVtst
  with_reducible apply frameO_next
  with_reducible apply frame_issue (within_trans (by decide) hp)
  · intro x0 x1 x2 h3
    with_reducible apply frame_trayAccess (within_trans (by decide) hp)
    · intro x4 x5 h6
      with_reducible apply frame_retire (within_trans (by decide) hp)
      with_reducible apply frame_setCore (within_trans (by decide) hp)
      with_reducible assumption
    · with_reducible assumption
  · with_reducible assumption

theorem frame_execTamo {P : List Part} {s0 : State} {core : Nat} {thread : Nat} {rd : Nat} {rs1 : Nat} {rs2 : Nat} {subop : Nat} {s : State} (hp : within [.recp, .core, .ctrs] P = true) (h : Frame P s0 s) : FrameO P s0 (execTamo core thread rd rs1 rs2 subop s) := by
  unfold execTamo
  with_reducible apply frameO_next
  with_reducible apply frame_issue (within_trans (by decide) hp)
  · intro x0 x1 x2 h3
    with_reducible apply frame_unpoisoned (within_trans (by decide) hp)
    · intro x4 h5
      with_reducible apply frame_trayAccess (within_trans (by decide) hp)
      · intro x6 x7 h8
        split
        with_reducible apply frame_ite
        · with_reducible apply frame_retire (within_trans (by decide) hp)
          with_reducible assumption
        · extract_lets +onlyGivenNames x9
          clear_value x9
          with_reducible apply frame_retire (within_trans (by decide) hp)
          with_reducible apply frame_setCore (within_trans (by decide) hp)
          with_reducible assumption
      · with_reducible assumption
    · with_reducible assumption
  · with_reducible assumption

theorem frame_poolLoad {P : List Part} {s0 : State} {core : Nat} {th : Nat} {major : Nat} {rt : Nat} {rb : Nat} {size : Nat} {imm : Int} {sgn : Bool} {s : State} (hp : within [.pkg, .txn, .ledger, .part, .dir, .mem, .dram, .deep, .integ, .recp, .core, .mirror, .leaves, .power, .sessions, .obs, .rings, .kodp, .ctrs, .out, .free] P = true) (h : Frame P s0 s) : Frame P s0 (poolLoad core th major rt rb size imm sgn s) := by
  unfold poolLoad
  extract_lets +onlyGivenNames x0
  clear_value x0
  with_reducible apply frame_issue (within_trans (by decide) hp)
  · intro x1 x2 x3 h4
    with_reducible apply frame_poolAccess (within_trans (by decide) hp)
    with_reducible assumption
  · with_reducible assumption

theorem frame_execPld {P : List Part} {s0 : State} {core : Nat} {thread : Nat} {rt : Nat} {rb : Nat} {size : Nat} {imm : Int} {s : State} (hp : within [.pkg, .txn, .ledger, .part, .dir, .mem, .dram, .deep, .integ, .recp, .core, .mirror, .leaves, .power, .sessions, .obs, .rings, .kodp, .ctrs, .out, .free] P = true) (h : Frame P s0 s) : FrameO P s0 (execPld core thread rt rb size imm s) := by
  unfold execPld
  with_reducible apply frameO_next
  with_reducible apply frame_poolLoad (within_trans (by decide) hp)
  with_reducible assumption

theorem frame_execPlds {P : List Part} {s0 : State} {core : Nat} {thread : Nat} {rt : Nat} {rb : Nat} {size : Nat} {imm : Int} {s : State} (hp : within [.pkg, .txn, .ledger, .part, .dir, .mem, .dram, .deep, .integ, .recp, .core, .mirror, .leaves, .power, .sessions, .obs, .rings, .kodp, .ctrs, .out, .free] P = true) (h : Frame P s0 s) : FrameO P s0 (execPlds core thread rt rb size imm s) := by
  unfold execPlds
  with_reducible apply frameO_next
  with_reducible apply frame_poolLoad (within_trans (by decide) hp)
  with_reducible assumption

theorem frame_execPst {P : List Part} {s0 : State} {core : Nat} {thread : Nat} {rt : Nat} {rb : Nat} {size : Nat} {imm : Int} {s : State} (hp : within [.pkg, .txn, .ledger, .part, .dir, .mem, .dram, .deep, .integ, .recp, .core, .mirror, .leaves, .power, .sessions, .obs, .rings, .kodp, .ctrs, .out, .free] P = true) (h : Frame P s0 s) : FrameO P s0 (execPst core thread rt rb size imm s) := by
  unfold execPst
  extract_lets +onlyGivenNames x0
  clear_value x0
  with_reducible apply frameO_next
  with_reducible apply frame_issue (within_trans (by decide) hp)
  · intro x1 x2 x3 h4
    with_reducible apply frame_poolAccess (within_trans (by decide) hp)
    with_reducible assumption
  · with_reducible assumption

theorem frame_execVpld {P : List Part} {s0 : State} {core : Nat} {thread : Nat} {vt : Nat} {rb : Nat} {imm : Int} {s : State} (hp : within [.pkg, .txn, .ledger, .part, .dir, .mem, .dram, .deep, .integ, .recp, .core, .mirror, .leaves, .power, .sessions, .obs, .rings, .kodp, .ctrs, .out, .free] P = true) (h : Frame P s0 s) : FrameO P s0 (execVpld core thread vt rb imm s) := by
  unfold execVpld
  with_reducible apply frameO_next
  with_reducible apply frame_issue (within_trans (by decide) hp)
  · intro x0 x1 x2 h3
    with_reducible apply frame_poolAccess (within_trans (by decide) hp)
    with_reducible assumption
  · with_reducible assumption

theorem frame_execVpst {P : List Part} {s0 : State} {core : Nat} {thread : Nat} {vt : Nat} {rb : Nat} {pred : Nat} {imm : Int} {s : State} (hp : within [.pkg, .txn, .ledger, .part, .dir, .mem, .dram, .deep, .integ, .recp, .core, .mirror, .leaves, .power, .sessions, .obs, .rings, .kodp, .ctrs, .out, .free] P = true) (h : Frame P s0 s) : FrameO P s0 (execVpst core thread vt rb pred imm s) := by
  unfold execVpst
  with_reducible apply frameO_next
  with_reducible apply frame_issue (within_trans (by decide) hp)
  · intro x0 x1 x2 h3
    with_reducible apply frame_poolAccess (within_trans (by decide) hp)
    with_reducible assumption
  · with_reducible assumption

theorem frame_execPamo {P : List Part} {s0 : State} {core : Nat} {thread : Nat} {rd : Nat} {rs1 : Nat} {rs2 : Nat} {subop : Nat} {s : State} (hp : within [.pkg, .txn, .ledger, .part, .dir, .mem, .dram, .deep, .integ, .recp, .core, .mirror, .leaves, .power, .sessions, .obs, .rings, .kodp, .ctrs, .out, .free] P = true) (h : Frame P s0 s) : FrameO P s0 (execPamo core thread rd rs1 rs2 subop s) := by
  unfold execPamo
  with_reducible apply frameO_next
  with_reducible apply frame_issue (within_trans (by decide) hp)
  · intro x0 x1 x2 h3
    with_reducible apply frame_poolAccess (within_trans (by decide) hp)
    with_reducible assumption
  · with_reducible assumption

theorem frame_lineAtomic {P : List Part} {s0 : State} {core : Nat} {th : Nat} {vn : Nat} {vc : Nat} {rb : Nat} {pd : Nat} {cas : Bool} {s : State} (hp : within [.pkg, .txn, .ledger, .part, .dir, .mem, .dram, .deep, .integ, .recp, .core, .mirror, .leaves, .power, .sessions, .obs, .rings, .kodp, .ctrs, .out, .free] P = true) (h : Frame P s0 s) : Frame P s0 (lineAtomic core th vn vc rb pd cas s) := by
  unfold lineAtomic
  with_reducible apply frame_issue (within_trans (by decide) hp)
  · intro x0 x1 x2 h3
    extract_lets +onlyGivenNames x4
    clear_value x4
    extract_lets +onlyGivenNames x5
    clear_value x5
    with_reducible apply frame_poolAccess (within_trans (by decide) hp)
    with_reducible assumption
  · with_reducible assumption

theorem frame_execLswap {P : List Part} {s0 : State} {core : Nat} {thread : Nat} {vn : Nat} {vc : Nat} {rb : Nat} {s : State} (hp : within [.pkg, .txn, .ledger, .part, .dir, .mem, .dram, .deep, .integ, .recp, .core, .mirror, .leaves, .power, .sessions, .obs, .rings, .kodp, .ctrs, .out, .free] P = true) (h : Frame P s0 s) : FrameO P s0 (execLswap core thread vn vc rb s) := by
  unfold execLswap
  with_reducible apply frameO_next
  with_reducible apply frame_lineAtomic (within_trans (by decide) hp)
  with_reducible assumption

theorem frame_execLcas {P : List Part} {s0 : State} {core : Nat} {thread : Nat} {vn : Nat} {vc : Nat} {rb : Nat} {pd : Nat} {s : State} (hp : within [.pkg, .txn, .ledger, .part, .dir, .mem, .dram, .deep, .integ, .recp, .core, .mirror, .leaves, .power, .sessions, .obs, .rings, .kodp, .ctrs, .out, .free] P = true) (h : Frame P s0 s) : FrameO P s0 (execLcas core thread vn vc rb pd s) := by
  unfold execLcas
  with_reducible apply frameO_next
  with_reducible apply frame_lineAtomic (within_trans (by decide) hp)
  with_reducible assumption

theorem frame_execVpld2 {P : List Part} {s0 : State} {core : Nat} {thread : Nat} {vt : Nat} {rb : Nat} {imm : Int} {s : State} (hp : within [.pkg, .txn, .ledger, .part, .dir, .mem, .dram, .deep, .integ, .recp, .core, .mirror, .leaves, .power, .sessions, .obs, .rings, .kodp, .ctrs, .out, .free] P = true) (h : Frame P s0 s) : FrameO P s0 (execVpld2 core thread vt rb imm s) := by
  unfold execVpld2
  with_reducible apply frameO_next
  with_reducible apply frame_issue (within_trans (by decide) hp)
  · intro x0 x1 x2 h3
    with_reducible apply frame_poolAccess (within_trans (by decide) hp)
    with_reducible assumption
  · with_reducible assumption

theorem frame_execVpst2 {P : List Part} {s0 : State} {core : Nat} {thread : Nat} {vt : Nat} {rb : Nat} {imm : Int} {s : State} (hp : within [.pkg, .txn, .ledger, .part, .dir, .mem, .dram, .deep, .integ, .recp, .core, .mirror, .leaves, .power, .sessions, .obs, .rings, .kodp, .ctrs, .out, .free] P = true) (h : Frame P s0 s) : FrameO P s0 (execVpst2 core thread vt rb imm s) := by
  unfold execVpst2
  with_reducible apply frameO_next
  with_reducible apply frame_issue (within_trans (by decide) hp)
  · intro x0 x1 x2 h3
    extract_lets +onlyGivenNames x4
    clear_value x4
    with_reducible apply frame_poolAccess (within_trans (by decide) hp)
    with_reducible assumption
  · with_reducible assumption

theorem frame_allocate {P : List Part} {s0 : State} {recipe : Nat} {a : Access} {s : State} (hp : within [.pkg, .mem, .dram, .power, .rings, .ctrs, .free] P = true) (h : Frame P s0 s) : Frame P s0 (allocate recipe a s) := by
  unfold allocate
  split
  · with_reducible apply frame_onlyIf
    · intro x0 h1
      with_reducible apply frame_pantryFill (within_trans (by decide) hp)
      with_reducible assumption
    · with_reducible assumption
  · with_reducible assumption

theorem frame_execPoolAccessReturn {P : List Part} {s0 : State} {core : Nat} {thread : Nat} {n : Nat} {failed : Bool} {s : State} (hp : within [.pkg, .txn, .ledger, .part, .dir, .mem, .dram, .deep, .integ, .recp, .core, .twin, .mirror, .traffic, .leaves, .power, .sec, .sessions, .obs, .rings, .kodp, .running, .ctrs, .out, .free] P = true) (h : Frame P s0 s) : FrameO P s0 (execPoolAccessReturn core thread n failed s) := by
  unfold execPoolAccessReturn
  with_reducible apply frameO_ite
  · with_reducible apply frameO_next
    with_reducible assumption
  · with_reducible apply frameO_next
    split
    · with_reducible assumption
    · split
      · with_reducible assumption
      · with_reducible apply frame_ite
        · with_reducible apply frame_endAccess (within_trans (by decide) hp)
          with_reducible assumption
        · extract_lets +onlyGivenNames x0
          clear_value x0
          split
          · with_reducible apply frame_performAccess (within_trans (by decide) hp)
            with_reducible apply frame_allocate (within_trans (by decide) hp)
            with_reducible apply frame_useReturned (within_trans (by decide) hp)
            refine frame_of_fst (by with_reducible assumption) ?_
            with_reducible apply frame_readyLine (within_trans (by decide) hp)
            with_reducible assumption
          · refine frame_of_fst (by with_reducible assumption) ?_
            with_reducible apply frame_readyLine (within_trans (by decide) hp)
            with_reducible assumption
          · extract_lets +onlyGivenNames x1
            have h1 : ∀ y0, Frame P s0 y0 → Frame P s0 (x1 y0) := by
              intro x2 h3
              unfold x1
              with_reducible apply frame_setRecipe (within_trans (by decide) hp)
              with_reducible assumption
            clear_value x1
            split
            · with_reducible apply frame_endAccess (within_trans (by decide) hp)
              refine frame_of_fst (by with_reducible assumption) ?_
              with_reducible apply frame_readyLine (within_trans (by decide) hp)
              with_reducible assumption
            · with_reducible apply frame_endAccess (within_trans (by decide) hp)
              refine frame_of_fst (by with_reducible assumption) ?_
              with_reducible apply frame_readyLine (within_trans (by decide) hp)
              with_reducible assumption
            · with_reducible apply frame_endAccess (within_trans (by decide) hp)
              with_reducible apply h1
              refine frame_of_fst (by with_reducible assumption) ?_
              with_reducible apply frame_readyLine (within_trans (by decide) hp)
              with_reducible assumption
            · with_reducible apply frame_endAccess (within_trans (by decide) hp)
              with_reducible apply h1
              refine frame_of_fst (by with_reducible assumption) ?_
              with_reducible apply frame_readyLine (within_trans (by decide) hp)
              with_reducible assumption
            · with_reducible apply frame_endAccess (within_trans (by decide) hp)
              with_reducible apply frame_takeExc (within_trans (by decide) hp)
              refine frame_of_fst (by with_reducible assumption) ?_
              with_reducible apply frame_readyLine (within_trans (by decide) hp)
              with_reducible assumption
          · refine frame_of_fst (by with_reducible assumption) ?_
            with_reducible apply frame_readyLine (within_trans (by decide) hp)
            with_reducible assumption

theorem frame_execAccessTimeout {P : List Part} {s0 : State} {core : Nat} {thread : Nat} {n : Nat} {s : State} (hp : within [.pkg, .txn, .ledger, .part, .dir, .mem, .dram, .deep, .integ, .recp, .core, .twin, .mirror, .traffic, .leaves, .power, .sec, .sessions, .obs, .rings, .kodp, .running, .ctrs, .out, .free] P = true) (h : Frame P s0 s) : FrameO P s0 (execAccessTimeout core thread n s) := by
  unfold execAccessTimeout
  with_reducible apply frameO_ite
  · with_reducible apply frameO_next
    with_reducible assumption
  · with_reducible apply frameO_next
    split
    · with_reducible assumption
    · split
      · with_reducible assumption
      · with_reducible apply frame_endAccess (within_trans (by decide) hp)
        with_reducible assumption

end Sys2Proof.Machine
end

