-- ==== Sys2Proof/Laws/FrameKernelScalar.lean ====
section
/-!
SUPPORT. Laws/FrameKernelScalar.lean: the frame of every operation and command of Machine/KernelScalar.lean.
-/
namespace Sys2Proof.Machine

theorem frame_execNop {P : List Part} {s0 : State} {core : Nat} {thread : Nat} {s : State} (hp : within [.recp, .core, .ctrs] P = true) (h : Frame P s0 s) : FrameO P s0 (execNop core thread s) := by
  unfold execNop
  with_reducible apply frameO_next
  with_reducible apply frame_issue (within_trans (by decide) hp)
  · intro x0 x1 x2 h3
    with_reducible apply frame_retire (within_trans (by decide) hp)
    with_reducible assumption
  · with_reducible assumption

theorem frame_execTexit {P : List Part} {s0 : State} {core : Nat} {thread : Nat} {s : State} (hp : within [.pkg, .txn, .ledger, .part, .dir, .mem, .dram, .deep, .integ, .recp, .core, .twin, .mirror, .traffic, .leaves, .power, .sec, .sessions, .obs, .rings, .kodp, .running, .ctrs, .out, .free] P = true) (h : Frame P s0 s) : FrameO P s0 (execTexit core thread s) := by
  unfold execTexit
  with_reducible apply frameO_next
  with_reducible apply frame_issue (within_trans (by decide) hp)
  · intro x0 x1 x2 h3
    with_reducible apply frame_endTile (within_trans (by decide) hp)
    with_reducible apply frame_openBarrier (within_trans (by decide) hp)
    with_reducible apply frame_setThread (within_trans (by decide) hp)
    with_reducible apply frame_bump (within_trans (by decide) hp)
    with_reducible assumption
  · with_reducible assumption

theorem frame_execTrap {P : List Part} {s0 : State} {core : Nat} {thread : Nat} {rs1 : Nat} {s : State} (hp : within [.recp, .core, .ctrs] P = true) (h : Frame P s0 s) : FrameO P s0 (execTrap core thread rs1 s) := by
  unfold execTrap
  with_reducible apply frameO_next
  with_reducible apply frame_issue (within_trans (by decide) hp)
  · intro x0 x1 x2 h3
    with_reducible apply frame_takeExc (within_trans (by decide) hp)
    with_reducible assumption
  · with_reducible assumption

theorem frame_execFence {P : List Part} {s0 : State} {core : Nat} {thread : Nat} {s : State} (hp : within [.recp, .core, .ctrs] P = true) (h : Frame P s0 s) : FrameO P s0 (execFence core thread s) := by
  unfold execFence
  with_reducible apply frameO_next
  with_reducible apply frame_issue (within_trans (by decide) hp)
  · intro x0 x1 x2 h3
    with_reducible apply frame_retire (within_trans (by decide) hp)
    with_reducible assumption
  · with_reducible assumption

theorem frame_reachBarrier {P : List Part} {s0 : State} {core : Nat} {thread : Nat} {t : CoreTile} {x : Thread} {s : State} (hp : within [.recp, .core, .ctrs] P = true) (h : Frame P s0 s) : Frame P s0 (reachBarrier core thread t x s) := by
  unfold reachBarrier
  with_reducible apply frame_openBarrier (within_trans (by decide) hp)
  with_reducible apply frame_retire (within_trans (by decide) hp)
  with_reducible assumption

theorem frame_execBar {P : List Part} {s0 : State} {core : Nat} {thread : Nat} {s : State} (hp : within [.recp, .core, .ctrs] P = true) (h : Frame P s0 s) : FrameO P s0 (execBar core thread s) := by
  unfold execBar
  with_reducible apply frameO_next
  with_reducible apply frame_issue (within_trans (by decide) hp)
  · intro x0 x1 x2 h3
    with_reducible apply frame_reachBarrier (within_trans (by decide) hp)
    with_reducible assumption
  · with_reducible assumption

theorem frame_execBarf {P : List Part} {s0 : State} {core : Nat} {thread : Nat} {s : State} (hp : within [.recp, .core, .ctrs] P = true) (h : Frame P s0 s) : FrameO P s0 (execBarf core thread s) := by
  unfold execBarf
  with_reducible apply frameO_next
  with_reducible apply frame_issue (within_trans (by decide) hp)
  · intro x0 x1 x2 h3
    with_reducible apply frame_reachBarrier (within_trans (by decide) hp)
    with_reducible assumption
  · with_reducible assumption

theorem frame_execTres {P : List Part} {s0 : State} {core : Nat} {thread : Nat} {rs1 : Nat} {s : State} (hp : within [.recp, .core, .ctrs] P = true) (h : Frame P s0 s) : FrameO P s0 (execTres core thread rs1 s) := by
  unfold execTres
  with_reducible apply frameO_next
  with_reducible apply frame_issue (within_trans (by decide) hp)
  · intro x0 x1 x2 h3
    with_reducible apply frame_unpoisoned (within_trans (by decide) hp)
    · intro x4 h5
      with_reducible apply frame_retire (within_trans (by decide) hp)
      with_reducible apply frame_setRecipe (within_trans (by decide) hp)
      with_reducible assumption
    · with_reducible assumption
  · with_reducible assumption

theorem frame_execTime {P : List Part} {s0 : State} {core : Nat} {thread : Nat} {rd : Nat} {s : State} (hp : within [.recp, .core, .ctrs] P = true) (h : Frame P s0 s) : FrameO P s0 (execTime core thread rd s) := by
  unfold execTime
  with_reducible apply frameO_next
  with_reducible apply frame_scalarOp (within_trans (by decide) hp)
  with_reducible assumption

theorem frame_execXpois {P : List Part} {s0 : State} {core : Nat} {thread : Nat} {rd : Nat} {rs1 : Nat} {s : State} (hp : within [.recp, .core, .ctrs] P = true) (h : Frame P s0 s) : FrameO P s0 (execXpois core thread rd rs1 s) := by
  unfold execXpois
  with_reducible apply frameO_next
  with_reducible apply frame_scalarOp (within_trans (by decide) hp)
  with_reducible assumption

theorem frame_execVpois {P : List Part} {s0 : State} {core : Nat} {thread : Nat} {rd : Nat} {rs1 : Nat} {s : State} (hp : within [.recp, .core, .ctrs] P = true) (h : Frame P s0 s) : FrameO P s0 (execVpois core thread rd rs1 s) := by
  unfold execVpois
  with_reducible apply frameO_next
  with_reducible apply frame_scalarOp (within_trans (by decide) hp)
  with_reducible assumption

theorem frame_execApois {P : List Part} {s0 : State} {core : Nat} {thread : Nat} {rd : Nat} {rs1 : Nat} {s : State} (hp : within [.recp, .core, .ctrs] P = true) (h : Frame P s0 s) : FrameO P s0 (execApois core thread rd rs1 s) := by
  unfold execApois
  with_reducible apply frameO_next
  with_reducible apply frame_scalarOp (within_trans (by decide) hp)
  with_reducible assumption

theorem frame_execPset {P : List Part} {s0 : State} {core : Nat} {thread : Nat} {rd : Nat} {rs1 : Nat} {s : State} (hp : within [.recp, .core, .ctrs] P = true) (h : Frame P s0 s) : FrameO P s0 (execPset core thread rd rs1 s) := by
  unfold execPset
  with_reducible apply frameO_next
  with_reducible apply frame_issue (within_trans (by decide) hp)
  · intro x0 x1 x2 h3
    with_reducible apply frame_unpoisoned (within_trans (by decide) hp)
    · intro x4 h5
      with_reducible apply frame_retire (within_trans (by decide) hp)
      with_reducible assumption
    · with_reducible assumption
  · with_reducible assumption

theorem frame_execPget {P : List Part} {s0 : State} {core : Nat} {thread : Nat} {rd : Nat} {rs1 : Nat} {s : State} (hp : within [.recp, .core, .ctrs] P = true) (h : Frame P s0 s) : FrameO P s0 (execPget core thread rd rs1 s) := by
  unfold execPget
  with_reducible apply frameO_next
  with_reducible apply frame_scalarOp (within_trans (by decide) hp)
  with_reducible assumption

theorem frame_aluOp {P : List Part} {s0 : State} {core : Nat} {thread : Nat} {rd : Nat} {rs1 : Nat} {rs2 : Nat} {op : AluOp} {s : State} (hp : within [.recp, .core, .ctrs] P = true) (h : Frame P s0 s) : Frame P s0 (aluOp core thread rd rs1 rs2 op s) := by
  unfold aluOp
  with_reducible apply frame_scalarOp (within_trans (by decide) hp)
  with_reducible assumption

theorem frame_execAluAdd {P : List Part} {s0 : State} {core : Nat} {thread : Nat} {rd : Nat} {rs1 : Nat} {rs2 : Nat} {s : State} (hp : within [.recp, .core, .ctrs] P = true) (h : Frame P s0 s) : FrameO P s0 (execAluAdd core thread rd rs1 rs2 s) := by
  unfold execAluAdd
  with_reducible apply frameO_next
  with_reducible apply frame_aluOp (within_trans (by decide) hp)
  with_reducible assumption

theorem frame_execAluSub {P : List Part} {s0 : State} {core : Nat} {thread : Nat} {rd : Nat} {rs1 : Nat} {rs2 : Nat} {s : State} (hp : within [.recp, .core, .ctrs] P = true) (h : Frame P s0 s) : FrameO P s0 (execAluSub core thread rd rs1 rs2 s) := by
  unfold execAluSub
  with_reducible apply frameO_next
  with_reducible apply frame_aluOp (within_trans (by decide) hp)
  with_reducible assumption

theorem frame_execAluMul {P : List Part} {s0 : State} {core : Nat} {thread : Nat} {rd : Nat} {rs1 : Nat} {rs2 : Nat} {s : State} (hp : within [.recp, .core, .ctrs] P = true) (h : Frame P s0 s) : FrameO P s0 (execAluMul core thread rd rs1 rs2 s) := by
  unfold execAluMul
  with_reducible apply frameO_next
  with_reducible apply frame_aluOp (within_trans (by decide) hp)
  with_reducible assumption

theorem frame_execAluMulh {P : List Part} {s0 : State} {core : Nat} {thread : Nat} {rd : Nat} {rs1 : Nat} {rs2 : Nat} {s : State} (hp : within [.recp, .core, .ctrs] P = true) (h : Frame P s0 s) : FrameO P s0 (execAluMulh core thread rd rs1 rs2 s) := by
  unfold execAluMulh
  with_reducible apply frameO_next
  with_reducible apply frame_aluOp (within_trans (by decide) hp)
  with_reducible assumption

theorem frame_execAluMulhu {P : List Part} {s0 : State} {core : Nat} {thread : Nat} {rd : Nat} {rs1 : Nat} {rs2 : Nat} {s : State} (hp : within [.recp, .core, .ctrs] P = true) (h : Frame P s0 s) : FrameO P s0 (execAluMulhu core thread rd rs1 rs2 s) := by
  unfold execAluMulhu
  with_reducible apply frameO_next
  with_reducible apply frame_aluOp (within_trans (by decide) hp)
  with_reducible assumption

theorem frame_execAluDiv {P : List Part} {s0 : State} {core : Nat} {thread : Nat} {rd : Nat} {rs1 : Nat} {rs2 : Nat} {s : State} (hp : within [.recp, .core, .ctrs] P = true) (h : Frame P s0 s) : FrameO P s0 (execAluDiv core thread rd rs1 rs2 s) := by
  unfold execAluDiv
  with_reducible apply frameO_next
  with_reducible apply frame_aluOp (within_trans (by decide) hp)
  with_reducible assumption

theorem frame_execAluDivu {P : List Part} {s0 : State} {core : Nat} {thread : Nat} {rd : Nat} {rs1 : Nat} {rs2 : Nat} {s : State} (hp : within [.recp, .core, .ctrs] P = true) (h : Frame P s0 s) : FrameO P s0 (execAluDivu core thread rd rs1 rs2 s) := by
  unfold execAluDivu
  with_reducible apply frameO_next
  with_reducible apply frame_aluOp (within_trans (by decide) hp)
  with_reducible assumption

theorem frame_execAluRem {P : List Part} {s0 : State} {core : Nat} {thread : Nat} {rd : Nat} {rs1 : Nat} {rs2 : Nat} {s : State} (hp : within [.recp, .core, .ctrs] P = true) (h : Frame P s0 s) : FrameO P s0 (execAluRem core thread rd rs1 rs2 s) := by
  unfold execAluRem
  with_reducible apply frameO_next
  with_reducible apply frame_aluOp (within_trans (by decide) hp)
  with_reducible assumption

theorem frame_execAluRemu {P : List Part} {s0 : State} {core : Nat} {thread : Nat} {rd : Nat} {rs1 : Nat} {rs2 : Nat} {s : State} (hp : within [.recp, .core, .ctrs] P = true) (h : Frame P s0 s) : FrameO P s0 (execAluRemu core thread rd rs1 rs2 s) := by
  unfold execAluRemu
  with_reducible apply frameO_next
  with_reducible apply frame_aluOp (within_trans (by decide) hp)
  with_reducible assumption

theorem frame_execAluAnd {P : List Part} {s0 : State} {core : Nat} {thread : Nat} {rd : Nat} {rs1 : Nat} {rs2 : Nat} {s : State} (hp : within [.recp, .core, .ctrs] P = true) (h : Frame P s0 s) : FrameO P s0 (execAluAnd core thread rd rs1 rs2 s) := by
  unfold execAluAnd
  with_reducible apply frameO_next
  with_reducible apply frame_aluOp (within_trans (by decide) hp)
  with_reducible assumption

theorem frame_execAluOr {P : List Part} {s0 : State} {core : Nat} {thread : Nat} {rd : Nat} {rs1 : Nat} {rs2 : Nat} {s : State} (hp : within [.recp, .core, .ctrs] P = true) (h : Frame P s0 s) : FrameO P s0 (execAluOr core thread rd rs1 rs2 s) := by
  unfold execAluOr
  with_reducible apply frameO_next
  with_reducible apply frame_aluOp (within_trans (by decide) hp)
  with_reducible assumption

theorem frame_execAluXor {P : List Part} {s0 : State} {core : Nat} {thread : Nat} {rd : Nat} {rs1 : Nat} {rs2 : Nat} {s : State} (hp : within [.recp, .core, .ctrs] P = true) (h : Frame P s0 s) : FrameO P s0 (execAluXor core thread rd rs1 rs2 s) := by
  unfold execAluXor
  with_reducible apply frameO_next
  with_reducible apply frame_aluOp (within_trans (by decide) hp)
  with_reducible assumption

theorem frame_execAluSll {P : List Part} {s0 : State} {core : Nat} {thread : Nat} {rd : Nat} {rs1 : Nat} {rs2 : Nat} {s : State} (hp : within [.recp, .core, .ctrs] P = true) (h : Frame P s0 s) : FrameO P s0 (execAluSll core thread rd rs1 rs2 s) := by
  unfold execAluSll
  with_reducible apply frameO_next
  with_reducible apply frame_aluOp (within_trans (by decide) hp)
  with_reducible assumption

theorem frame_execAluSrl {P : List Part} {s0 : State} {core : Nat} {thread : Nat} {rd : Nat} {rs1 : Nat} {rs2 : Nat} {s : State} (hp : within [.recp, .core, .ctrs] P = true) (h : Frame P s0 s) : FrameO P s0 (execAluSrl core thread rd rs1 rs2 s) := by
  unfold execAluSrl
  with_reducible apply frameO_next
  with_reducible apply frame_aluOp (within_trans (by decide) hp)
  with_reducible assumption

theorem frame_execAluSra {P : List Part} {s0 : State} {core : Nat} {thread : Nat} {rd : Nat} {rs1 : Nat} {rs2 : Nat} {s : State} (hp : within [.recp, .core, .ctrs] P = true) (h : Frame P s0 s) : FrameO P s0 (execAluSra core thread rd rs1 rs2 s) := by
  unfold execAluSra
  with_reducible apply frameO_next
  with_reducible apply frame_aluOp (within_trans (by decide) hp)
  with_reducible assumption

theorem frame_execAluSlt {P : List Part} {s0 : State} {core : Nat} {thread : Nat} {rd : Nat} {rs1 : Nat} {rs2 : Nat} {s : State} (hp : within [.recp, .core, .ctrs] P = true) (h : Frame P s0 s) : FrameO P s0 (execAluSlt core thread rd rs1 rs2 s) := by
  unfold execAluSlt
  with_reducible apply frameO_next
  with_reducible apply frame_aluOp (within_trans (by decide) hp)
  with_reducible assumption

theorem frame_execAluSltu {P : List Part} {s0 : State} {core : Nat} {thread : Nat} {rd : Nat} {rs1 : Nat} {rs2 : Nat} {s : State} (hp : within [.recp, .core, .ctrs] P = true) (h : Frame P s0 s) : FrameO P s0 (execAluSltu core thread rd rs1 rs2 s) := by
  unfold execAluSltu
  with_reducible apply frameO_next
  with_reducible apply frame_aluOp (within_trans (by decide) hp)
  with_reducible assumption

theorem frame_execAluMin {P : List Part} {s0 : State} {core : Nat} {thread : Nat} {rd : Nat} {rs1 : Nat} {rs2 : Nat} {s : State} (hp : within [.recp, .core, .ctrs] P = true) (h : Frame P s0 s) : FrameO P s0 (execAluMin core thread rd rs1 rs2 s) := by
  unfold execAluMin
  with_reducible apply frameO_next
  with_reducible apply frame_aluOp (within_trans (by decide) hp)
  with_reducible assumption

theorem frame_execAluMax {P : List Part} {s0 : State} {core : Nat} {thread : Nat} {rd : Nat} {rs1 : Nat} {rs2 : Nat} {s : State} (hp : within [.recp, .core, .ctrs] P = true) (h : Frame P s0 s) : FrameO P s0 (execAluMax core thread rd rs1 rs2 s) := by
  unfold execAluMax
  with_reducible apply frameO_next
  with_reducible apply frame_aluOp (within_trans (by decide) hp)
  with_reducible assumption

theorem frame_execAluMinu {P : List Part} {s0 : State} {core : Nat} {thread : Nat} {rd : Nat} {rs1 : Nat} {rs2 : Nat} {s : State} (hp : within [.recp, .core, .ctrs] P = true) (h : Frame P s0 s) : FrameO P s0 (execAluMinu core thread rd rs1 rs2 s) := by
  unfold execAluMinu
  with_reducible apply frameO_next
  with_reducible apply frame_aluOp (within_trans (by decide) hp)
  with_reducible assumption

theorem frame_execAluMaxu {P : List Part} {s0 : State} {core : Nat} {thread : Nat} {rd : Nat} {rs1 : Nat} {rs2 : Nat} {s : State} (hp : within [.recp, .core, .ctrs] P = true) (h : Frame P s0 s) : FrameO P s0 (execAluMaxu core thread rd rs1 rs2 s) := by
  unfold execAluMaxu
  with_reducible apply frameO_next
  with_reducible apply frame_aluOp (within_trans (by decide) hp)
  with_reducible assumption

theorem frame_immOp {P : List Part} {s0 : State} {core : Nat} {thread : Nat} {major : Nat} {rd : Nat} {rs1 : Nat} {imm : Int} {op : AluOp} {s : State} (hp : within [.recp, .core, .ctrs] P = true) (h : Frame P s0 s) : Frame P s0 (immOp core thread major rd rs1 imm op s) := by
  unfold immOp
  with_reducible apply frame_scalarOp (within_trans (by decide) hp)
  with_reducible assumption

theorem frame_execAddi {P : List Part} {s0 : State} {core : Nat} {thread : Nat} {rd : Nat} {rs1 : Nat} {imm : Int} {s : State} (hp : within [.recp, .core, .ctrs] P = true) (h : Frame P s0 s) : FrameO P s0 (execAddi core thread rd rs1 imm s) := by
  unfold execAddi
  with_reducible apply frameO_next
  with_reducible apply frame_immOp (within_trans (by decide) hp)
  with_reducible assumption

theorem frame_execAndi {P : List Part} {s0 : State} {core : Nat} {thread : Nat} {rd : Nat} {rs1 : Nat} {imm : Int} {s : State} (hp : within [.recp, .core, .ctrs] P = true) (h : Frame P s0 s) : FrameO P s0 (execAndi core thread rd rs1 imm s) := by
  unfold execAndi
  with_reducible apply frameO_next
  with_reducible apply frame_immOp (within_trans (by decide) hp)
  with_reducible assumption

theorem frame_execOri {P : List Part} {s0 : State} {core : Nat} {thread : Nat} {rd : Nat} {rs1 : Nat} {imm : Int} {s : State} (hp : within [.recp, .core, .ctrs] P = true) (h : Frame P s0 s) : FrameO P s0 (execOri core thread rd rs1 imm s) := by
  unfold execOri
  with_reducible apply frameO_next
  with_reducible apply frame_immOp (within_trans (by decide) hp)
  with_reducible assumption

theorem frame_execXori {P : List Part} {s0 : State} {core : Nat} {thread : Nat} {rd : Nat} {rs1 : Nat} {imm : Int} {s : State} (hp : within [.recp, .core, .ctrs] P = true) (h : Frame P s0 s) : FrameO P s0 (execXori core thread rd rs1 imm s) := by
  unfold execXori
  with_reducible apply frameO_next
  with_reducible apply frame_immOp (within_trans (by decide) hp)
  with_reducible assumption

theorem frame_execSlti {P : List Part} {s0 : State} {core : Nat} {thread : Nat} {rd : Nat} {rs1 : Nat} {imm : Int} {s : State} (hp : within [.recp, .core, .ctrs] P = true) (h : Frame P s0 s) : FrameO P s0 (execSlti core thread rd rs1 imm s) := by
  unfold execSlti
  with_reducible apply frameO_next
  with_reducible apply frame_immOp (within_trans (by decide) hp)
  with_reducible assumption

theorem frame_execShiSll {P : List Part} {s0 : State} {core : Nat} {thread : Nat} {rd : Nat} {rs1 : Nat} {sh : Nat} {s : State} (hp : within [.recp, .core, .ctrs] P = true) (h : Frame P s0 s) : FrameO P s0 (execShiSll core thread rd rs1 sh s) := by
  unfold execShiSll
  with_reducible apply frameO_next
  with_reducible apply frame_immOp (within_trans (by decide) hp)
  with_reducible assumption

theorem frame_execShiSrl {P : List Part} {s0 : State} {core : Nat} {thread : Nat} {rd : Nat} {rs1 : Nat} {sh : Nat} {s : State} (hp : within [.recp, .core, .ctrs] P = true) (h : Frame P s0 s) : FrameO P s0 (execShiSrl core thread rd rs1 sh s) := by
  unfold execShiSrl
  with_reducible apply frameO_next
  with_reducible apply frame_immOp (within_trans (by decide) hp)
  with_reducible assumption

theorem frame_execShiSra {P : List Part} {s0 : State} {core : Nat} {thread : Nat} {rd : Nat} {rs1 : Nat} {sh : Nat} {s : State} (hp : within [.recp, .core, .ctrs] P = true) (h : Frame P s0 s) : FrameO P s0 (execShiSra core thread rd rs1 sh s) := by
  unfold execShiSra
  with_reducible apply frameO_next
  with_reducible apply frame_immOp (within_trans (by decide) hp)
  with_reducible assumption

theorem frame_execLui {P : List Part} {s0 : State} {core : Nat} {thread : Nat} {rd : Nat} {imm : Int} {s : State} (hp : within [.recp, .core, .ctrs] P = true) (h : Frame P s0 s) : FrameO P s0 (execLui core thread rd imm s) := by
  unfold execLui
  with_reducible apply frameO_next
  with_reducible apply frame_scalarOp (within_trans (by decide) hp)
  with_reducible assumption

theorem frame_execBeq {P : List Part} {s0 : State} {core : Nat} {thread : Nat} {rs1 : Nat} {rs2 : Nat} {off : Int} {s : State} (hp : within [.recp, .core, .ctrs] P = true) (h : Frame P s0 s) : FrameO P s0 (execBeq core thread rs1 rs2 off s) := by
  unfold execBeq
  with_reducible apply frameO_next
  with_reducible apply frame_branch (within_trans (by decide) hp)
  with_reducible assumption

theorem frame_execBne {P : List Part} {s0 : State} {core : Nat} {thread : Nat} {rs1 : Nat} {rs2 : Nat} {off : Int} {s : State} (hp : within [.recp, .core, .ctrs] P = true) (h : Frame P s0 s) : FrameO P s0 (execBne core thread rs1 rs2 off s) := by
  unfold execBne
  with_reducible apply frameO_next
  with_reducible apply frame_branch (within_trans (by decide) hp)
  with_reducible assumption

theorem frame_execBlt {P : List Part} {s0 : State} {core : Nat} {thread : Nat} {rs1 : Nat} {rs2 : Nat} {off : Int} {s : State} (hp : within [.recp, .core, .ctrs] P = true) (h : Frame P s0 s) : FrameO P s0 (execBlt core thread rs1 rs2 off s) := by
  unfold execBlt
  with_reducible apply frameO_next
  with_reducible apply frame_branch (within_trans (by decide) hp)
  with_reducible assumption

theorem frame_execBge {P : List Part} {s0 : State} {core : Nat} {thread : Nat} {rs1 : Nat} {rs2 : Nat} {off : Int} {s : State} (hp : within [.recp, .core, .ctrs] P = true) (h : Frame P s0 s) : FrameO P s0 (execBge core thread rs1 rs2 off s) := by
  unfold execBge
  with_reducible apply frameO_next
  with_reducible apply frame_branch (within_trans (by decide) hp)
  with_reducible assumption

theorem frame_execBltu {P : List Part} {s0 : State} {core : Nat} {thread : Nat} {rs1 : Nat} {rs2 : Nat} {off : Int} {s : State} (hp : within [.recp, .core, .ctrs] P = true) (h : Frame P s0 s) : FrameO P s0 (execBltu core thread rs1 rs2 off s) := by
  unfold execBltu
  with_reducible apply frameO_next
  with_reducible apply frame_branch (within_trans (by decide) hp)
  with_reducible assumption

theorem frame_execBgeu {P : List Part} {s0 : State} {core : Nat} {thread : Nat} {rs1 : Nat} {rs2 : Nat} {off : Int} {s : State} (hp : within [.recp, .core, .ctrs] P = true) (h : Frame P s0 s) : FrameO P s0 (execBgeu core thread rs1 rs2 off s) := by
  unfold execBgeu
  with_reducible apply frameO_next
  with_reducible apply frame_branch (within_trans (by decide) hp)
  with_reducible assumption

theorem frame_execJal {P : List Part} {s0 : State} {core : Nat} {thread : Nat} {rd : Nat} {imm : Int} {s : State} (hp : within [.recp, .core, .ctrs] P = true) (h : Frame P s0 s) : FrameO P s0 (execJal core thread rd imm s) := by
  unfold execJal
  with_reducible apply frameO_next
  with_reducible apply frame_issue (within_trans (by decide) hp)
  · intro x0 x1 x2 h3
    with_reducible apply frame_retireTo (within_trans (by decide) hp)
    with_reducible assumption
  · with_reducible assumption

theorem frame_execJalr {P : List Part} {s0 : State} {core : Nat} {thread : Nat} {rd : Nat} {rs1 : Nat} {imm : Int} {s : State} (hp : within [.recp, .core, .ctrs] P = true) (h : Frame P s0 s) : FrameO P s0 (execJalr core thread rd rs1 imm s) := by
  unfold execJalr
  with_reducible apply frameO_next
  with_reducible apply frame_issue (within_trans (by decide) hp)
  · intro x0 x1 x2 h3
    with_reducible apply frame_unpoisoned (within_trans (by decide) hp)
    · intro x4 h5
      with_reducible apply frame_retireTo (within_trans (by decide) hp)
      with_reducible assumption
    · with_reducible assumption
  · with_reducible assumption

theorem frame_execPbr {P : List Part} {s0 : State} {core : Nat} {thread : Nat} {pr : Nat} {cond : Nat} {off : Int} {s : State} (hp : within [.recp, .core, .ctrs] P = true) (h : Frame P s0 s) : FrameO P s0 (execPbr core thread pr cond off s) := by
  unfold execPbr
  with_reducible apply frameO_next
  with_reducible apply frame_issue (within_trans (by decide) hp)
  · intro x0 x1 x2 h3
    with_reducible apply frame_retireTo (within_trans (by decide) hp)
    with_reducible assumption
  · with_reducible assumption

end Sys2Proof.Machine
end

