-- ==== Sys2Proof/Laws/FrameKernelVector.lean ====
section
/-!
SUPPORT. Laws/FrameKernelVector.lean: the frame of every operation and command of Machine/KernelVector.lean.
-/
namespace Sys2Proof.Machine

theorem frame_vecOp {P : List Part} {s0 : State} {core : Nat} {th : Nat} {major : Nat} {vd : Nat} {xs : List Nat} {vs : List Nat} {pred : Nat} {f : Fmt} {reads : Bool} {g : State → Thread → Nat → Written} {s : State} (hp : within [.recp, .core, .ctrs] P = true) (h : Frame P s0 s) : Frame P s0 (vecOp core th major vd xs vs pred f reads g s) := by
  unfold vecOp
  with_reducible apply frame_issue (within_trans (by decide) hp)
  · intro x0 x1 x2 h3
    extract_lets +onlyGivenNames x4
    clear_value x4
    extract_lets +onlyGivenNames x5
    clear_value x5
    extract_lets +onlyGivenNames x6
    clear_value x6
    split
    with_reducible apply frame_retire (within_trans (by decide) hp)
    with_reducible apply frame_ite
    · with_reducible assumption
    · with_reducible apply frame_countEv (within_trans (by decide) hp)
      with_reducible assumption
  · with_reducible assumption

theorem frame_withFmt {P : List Part} {s0 : State} {code : Nat} {ok : Fmt → Bool} {go : Fmt → State → State} {s : State} (hp : within [] P = true) (h_go : (∀ x0, ∀ x1, Frame P s0 x1 → Frame P s0 (go x0 x1))) (h : Frame P s0 s) : Frame P s0 (withFmt code ok go s) := by
  unfold withFmt
  split
  · with_reducible apply frame_ite
    · with_reducible apply h_go
      with_reducible assumption
    · with_reducible assumption
  · with_reducible assumption

theorem frame_varith2 {P : List Part} {s0 : State} {core : Nat} {th : Nat} {vd : Nat} {vs1 : Nat} {vs2 : Nat} {pred : Nat} {fmt : Nat} {ok : Fmt → Bool} {op : VOp} {s : State} (hp : within [.recp, .core, .ctrs] P = true) (h : Frame P s0 s) : Frame P s0 (varith2 core th vd vs1 vs2 pred fmt ok op s) := by
  unfold varith2
  with_reducible apply frame_withFmt (within_trans (by decide) hp)
  · intro x0 x1 h2
    with_reducible apply frame_vecOp (within_trans (by decide) hp)
    with_reducible assumption
  · with_reducible assumption

theorem frame_varith1 {P : List Part} {s0 : State} {core : Nat} {th : Nat} {vd : Nat} {vs1 : Nat} {pred : Nat} {fmt : Nat} {ok : Fmt → Bool} {op : VOp} {s : State} (hp : within [.recp, .core, .ctrs] P = true) (h : Frame P s0 s) : Frame P s0 (varith1 core th vd vs1 pred fmt ok op s) := by
  unfold varith1
  with_reducible apply frame_withFmt (within_trans (by decide) hp)
  · intro x0 x1 h2
    with_reducible apply frame_vecOp (within_trans (by decide) hp)
    with_reducible assumption
  · with_reducible assumption

theorem frame_execVarithAdd {P : List Part} {s0 : State} {core : Nat} {thread : Nat} {vd : Nat} {vs1 : Nat} {vs2 : Nat} {pred : Nat} {fmt : Nat} {s : State} (hp : within [.recp, .core, .ctrs] P = true) (h : Frame P s0 s) : FrameO P s0 (execVarithAdd core thread vd vs1 vs2 pred fmt s) := by
  unfold execVarithAdd
  with_reducible apply frameO_next
  with_reducible apply frame_varith2 (within_trans (by decide) hp)
  with_reducible assumption

theorem frame_execVarithSub {P : List Part} {s0 : State} {core : Nat} {thread : Nat} {vd : Nat} {vs1 : Nat} {vs2 : Nat} {pred : Nat} {fmt : Nat} {s : State} (hp : within [.recp, .core, .ctrs] P = true) (h : Frame P s0 s) : FrameO P s0 (execVarithSub core thread vd vs1 vs2 pred fmt s) := by
  unfold execVarithSub
  with_reducible apply frameO_next
  with_reducible apply frame_varith2 (within_trans (by decide) hp)
  with_reducible assumption

theorem frame_execVarithMul {P : List Part} {s0 : State} {core : Nat} {thread : Nat} {vd : Nat} {vs1 : Nat} {vs2 : Nat} {pred : Nat} {fmt : Nat} {s : State} (hp : within [.recp, .core, .ctrs] P = true) (h : Frame P s0 s) : FrameO P s0 (execVarithMul core thread vd vs1 vs2 pred fmt s) := by
  unfold execVarithMul
  with_reducible apply frameO_next
  with_reducible apply frame_varith2 (within_trans (by decide) hp)
  with_reducible assumption

theorem frame_execVarithMin {P : List Part} {s0 : State} {core : Nat} {thread : Nat} {vd : Nat} {vs1 : Nat} {vs2 : Nat} {pred : Nat} {fmt : Nat} {s : State} (hp : within [.recp, .core, .ctrs] P = true) (h : Frame P s0 s) : FrameO P s0 (execVarithMin core thread vd vs1 vs2 pred fmt s) := by
  unfold execVarithMin
  with_reducible apply frameO_next
  with_reducible apply frame_varith2 (within_trans (by decide) hp)
  with_reducible assumption

theorem frame_execVarithMax {P : List Part} {s0 : State} {core : Nat} {thread : Nat} {vd : Nat} {vs1 : Nat} {vs2 : Nat} {pred : Nat} {fmt : Nat} {s : State} (hp : within [.recp, .core, .ctrs] P = true) (h : Frame P s0 s) : FrameO P s0 (execVarithMax core thread vd vs1 vs2 pred fmt s) := by
  unfold execVarithMax
  with_reducible apply frameO_next
  with_reducible apply frame_varith2 (within_trans (by decide) hp)
  with_reducible assumption

theorem frame_execVarithAbs {P : List Part} {s0 : State} {core : Nat} {thread : Nat} {vd : Nat} {vs1 : Nat} {pred : Nat} {fmt : Nat} {s : State} (hp : within [.recp, .core, .ctrs] P = true) (h : Frame P s0 s) : FrameO P s0 (execVarithAbs core thread vd vs1 pred fmt s) := by
  unfold execVarithAbs
  with_reducible apply frameO_next
  with_reducible apply frame_varith1 (within_trans (by decide) hp)
  with_reducible assumption

theorem frame_execVarithNeg {P : List Part} {s0 : State} {core : Nat} {thread : Nat} {vd : Nat} {vs1 : Nat} {pred : Nat} {fmt : Nat} {s : State} (hp : within [.recp, .core, .ctrs] P = true) (h : Frame P s0 s) : FrameO P s0 (execVarithNeg core thread vd vs1 pred fmt s) := by
  unfold execVarithNeg
  with_reducible apply frameO_next
  with_reducible apply frame_varith1 (within_trans (by decide) hp)
  with_reducible assumption

theorem frame_execVarithAnd {P : List Part} {s0 : State} {core : Nat} {thread : Nat} {vd : Nat} {vs1 : Nat} {vs2 : Nat} {pred : Nat} {fmt : Nat} {s : State} (hp : within [.recp, .core, .ctrs] P = true) (h : Frame P s0 s) : FrameO P s0 (execVarithAnd core thread vd vs1 vs2 pred fmt s) := by
  unfold execVarithAnd
  with_reducible apply frameO_next
  with_reducible apply frame_varith2 (within_trans (by decide) hp)
  with_reducible assumption

theorem frame_execVarithOr {P : List Part} {s0 : State} {core : Nat} {thread : Nat} {vd : Nat} {vs1 : Nat} {vs2 : Nat} {pred : Nat} {fmt : Nat} {s : State} (hp : within [.recp, .core, .ctrs] P = true) (h : Frame P s0 s) : FrameO P s0 (execVarithOr core thread vd vs1 vs2 pred fmt s) := by
  unfold execVarithOr
  with_reducible apply frameO_next
  with_reducible apply frame_varith2 (within_trans (by decide) hp)
  with_reducible assumption

theorem frame_execVarithXor {P : List Part} {s0 : State} {core : Nat} {thread : Nat} {vd : Nat} {vs1 : Nat} {vs2 : Nat} {pred : Nat} {fmt : Nat} {s : State} (hp : within [.recp, .core, .ctrs] P = true) (h : Frame P s0 s) : FrameO P s0 (execVarithXor core thread vd vs1 vs2 pred fmt s) := by
  unfold execVarithXor
  with_reducible apply frameO_next
  with_reducible apply frame_varith2 (within_trans (by decide) hp)
  with_reducible assumption

theorem frame_execVarithShl {P : List Part} {s0 : State} {core : Nat} {thread : Nat} {vd : Nat} {vs1 : Nat} {vs2 : Nat} {pred : Nat} {fmt : Nat} {s : State} (hp : within [.recp, .core, .ctrs] P = true) (h : Frame P s0 s) : FrameO P s0 (execVarithShl core thread vd vs1 vs2 pred fmt s) := by
  unfold execVarithShl
  with_reducible apply frameO_next
  with_reducible apply frame_varith2 (within_trans (by decide) hp)
  with_reducible assumption

theorem frame_execVarithShr {P : List Part} {s0 : State} {core : Nat} {thread : Nat} {vd : Nat} {vs1 : Nat} {vs2 : Nat} {pred : Nat} {fmt : Nat} {s : State} (hp : within [.recp, .core, .ctrs] P = true) (h : Frame P s0 s) : FrameO P s0 (execVarithShr core thread vd vs1 vs2 pred fmt s) := by
  unfold execVarithShr
  with_reducible apply frameO_next
  with_reducible apply frame_varith2 (within_trans (by decide) hp)
  with_reducible assumption

theorem frame_execVarithSar {P : List Part} {s0 : State} {core : Nat} {thread : Nat} {vd : Nat} {vs1 : Nat} {vs2 : Nat} {pred : Nat} {fmt : Nat} {s : State} (hp : within [.recp, .core, .ctrs] P = true) (h : Frame P s0 s) : FrameO P s0 (execVarithSar core thread vd vs1 vs2 pred fmt s) := by
  unfold execVarithSar
  with_reducible apply frameO_next
  with_reducible apply frame_varith2 (within_trans (by decide) hp)
  with_reducible assumption

theorem frame_execVarithDiv {P : List Part} {s0 : State} {core : Nat} {thread : Nat} {vd : Nat} {vs1 : Nat} {vs2 : Nat} {pred : Nat} {fmt : Nat} {s : State} (hp : within [.recp, .core, .ctrs] P = true) (h : Frame P s0 s) : FrameO P s0 (execVarithDiv core thread vd vs1 vs2 pred fmt s) := by
  unfold execVarithDiv
  with_reducible apply frameO_next
  with_reducible apply frame_varith2 (within_trans (by decide) hp)
  with_reducible assumption

theorem frame_execVarithSqrt {P : List Part} {s0 : State} {core : Nat} {thread : Nat} {vd : Nat} {vs1 : Nat} {pred : Nat} {fmt : Nat} {s : State} (hp : within [.recp, .core, .ctrs] P = true) (h : Frame P s0 s) : FrameO P s0 (execVarithSqrt core thread vd vs1 pred fmt s) := by
  unfold execVarithSqrt
  with_reducible apply frameO_next
  with_reducible apply frame_varith1 (within_trans (by decide) hp)
  with_reducible assumption

theorem frame_fusedOp {P : List Part} {s0 : State} {core : Nat} {th : Nat} {k : Nat} {vd : Nat} {vs1 : Nat} {vs2 : Nat} {pred : Nat} {fmt : Nat} {s : State} (hp : within [.recp, .core, .ctrs] P = true) (h : Frame P s0 s) : Frame P s0 (fusedOp core th k vd vs1 vs2 pred fmt s) := by
  unfold fusedOp
  with_reducible apply frame_withFmt (within_trans (by decide) hp)
  · intro x0 x1 h2
    with_reducible apply frame_vecOp (within_trans (by decide) hp)
    with_reducible assumption
  · with_reducible assumption

theorem frame_execFma {P : List Part} {s0 : State} {core : Nat} {thread : Nat} {vd : Nat} {vs1 : Nat} {vs2 : Nat} {pred : Nat} {fmt : Nat} {s : State} (hp : within [.recp, .core, .ctrs] P = true) (h : Frame P s0 s) : FrameO P s0 (execFma core thread vd vs1 vs2 pred fmt s) := by
  unfold execFma
  with_reducible apply frameO_next
  with_reducible apply frame_fusedOp (within_trans (by decide) hp)
  with_reducible assumption

theorem frame_execFms {P : List Part} {s0 : State} {core : Nat} {thread : Nat} {vd : Nat} {vs1 : Nat} {vs2 : Nat} {pred : Nat} {fmt : Nat} {s : State} (hp : within [.recp, .core, .ctrs] P = true) (h : Frame P s0 s) : FrameO P s0 (execFms core thread vd vs1 vs2 pred fmt s) := by
  unfold execFms
  with_reducible apply frameO_next
  with_reducible apply frame_fusedOp (within_trans (by decide) hp)
  with_reducible assumption

theorem frame_execFnma {P : List Part} {s0 : State} {core : Nat} {thread : Nat} {vd : Nat} {vs1 : Nat} {vs2 : Nat} {pred : Nat} {fmt : Nat} {s : State} (hp : within [.recp, .core, .ctrs] P = true) (h : Frame P s0 s) : FrameO P s0 (execFnma core thread vd vs1 vs2 pred fmt s) := by
  unfold execFnma
  with_reducible apply frameO_next
  with_reducible apply frame_fusedOp (within_trans (by decide) hp)
  with_reducible assumption

theorem frame_compareOp {P : List Part} {s0 : State} {core : Nat} {th : Nat} {pd : Nat} {vs1 : Nat} {vs2 : Nat} {pred : Nat} {fmt : Nat} {ok : Fmt → Bool} {op : CmpOp} {s : State} (hp : within [.recp, .core, .ctrs] P = true) (h : Frame P s0 s) : Frame P s0 (compareOp core th pd vs1 vs2 pred fmt ok op s) := by
  unfold compareOp
  with_reducible apply frame_withFmt (within_trans (by decide) hp)
  · intro x0 x1 h2
    with_reducible apply frame_issue (within_trans (by decide) hp)
    · intro x3 x4 x5 h6
      with_reducible apply frame_unpoisoned (within_trans (by decide) hp)
      · intro x7 h8
        with_reducible apply frame_retire (within_trans (by decide) hp)
        with_reducible assumption
      · with_reducible assumption
    · with_reducible assumption
  · with_reducible assumption

theorem frame_execVcmpEq {P : List Part} {s0 : State} {core : Nat} {thread : Nat} {pd : Nat} {vs1 : Nat} {vs2 : Nat} {pred : Nat} {fmt : Nat} {s : State} (hp : within [.recp, .core, .ctrs] P = true) (h : Frame P s0 s) : FrameO P s0 (execVcmpEq core thread pd vs1 vs2 pred fmt s) := by
  unfold execVcmpEq
  with_reducible apply frameO_next
  with_reducible apply frame_compareOp (within_trans (by decide) hp)
  with_reducible assumption

theorem frame_execVcmpNe {P : List Part} {s0 : State} {core : Nat} {thread : Nat} {pd : Nat} {vs1 : Nat} {vs2 : Nat} {pred : Nat} {fmt : Nat} {s : State} (hp : within [.recp, .core, .ctrs] P = true) (h : Frame P s0 s) : FrameO P s0 (execVcmpNe core thread pd vs1 vs2 pred fmt s) := by
  unfold execVcmpNe
  with_reducible apply frameO_next
  with_reducible apply frame_compareOp (within_trans (by decide) hp)
  with_reducible assumption

theorem frame_execVcmpLt {P : List Part} {s0 : State} {core : Nat} {thread : Nat} {pd : Nat} {vs1 : Nat} {vs2 : Nat} {pred : Nat} {fmt : Nat} {s : State} (hp : within [.recp, .core, .ctrs] P = true) (h : Frame P s0 s) : FrameO P s0 (execVcmpLt core thread pd vs1 vs2 pred fmt s) := by
  unfold execVcmpLt
  with_reducible apply frameO_next
  with_reducible apply frame_compareOp (within_trans (by decide) hp)
  with_reducible assumption

theorem frame_execVcmpLe {P : List Part} {s0 : State} {core : Nat} {thread : Nat} {pd : Nat} {vs1 : Nat} {vs2 : Nat} {pred : Nat} {fmt : Nat} {s : State} (hp : within [.recp, .core, .ctrs] P = true) (h : Frame P s0 s) : FrameO P s0 (execVcmpLe core thread pd vs1 vs2 pred fmt s) := by
  unfold execVcmpLe
  with_reducible apply frameO_next
  with_reducible apply frame_compareOp (within_trans (by decide) hp)
  with_reducible assumption

theorem frame_execVcmpGt {P : List Part} {s0 : State} {core : Nat} {thread : Nat} {pd : Nat} {vs1 : Nat} {vs2 : Nat} {pred : Nat} {fmt : Nat} {s : State} (hp : within [.recp, .core, .ctrs] P = true) (h : Frame P s0 s) : FrameO P s0 (execVcmpGt core thread pd vs1 vs2 pred fmt s) := by
  unfold execVcmpGt
  with_reducible apply frameO_next
  with_reducible apply frame_compareOp (within_trans (by decide) hp)
  with_reducible assumption

theorem frame_execVcmpGe {P : List Part} {s0 : State} {core : Nat} {thread : Nat} {pd : Nat} {vs1 : Nat} {vs2 : Nat} {pred : Nat} {fmt : Nat} {s : State} (hp : within [.recp, .core, .ctrs] P = true) (h : Frame P s0 s) : FrameO P s0 (execVcmpGe core thread pd vs1 vs2 pred fmt s) := by
  unfold execVcmpGe
  with_reducible apply frameO_next
  with_reducible apply frame_compareOp (within_trans (by decide) hp)
  with_reducible assumption

theorem frame_execVcmpUnord {P : List Part} {s0 : State} {core : Nat} {thread : Nat} {pd : Nat} {vs1 : Nat} {vs2 : Nat} {pred : Nat} {fmt : Nat} {s : State} (hp : within [.recp, .core, .ctrs] P = true) (h : Frame P s0 s) : FrameO P s0 (execVcmpUnord core thread pd vs1 vs2 pred fmt s) := by
  unfold execVcmpUnord
  with_reducible apply frameO_next
  with_reducible apply frame_compareOp (within_trans (by decide) hp)
  with_reducible assumption

theorem frame_execVcmpLtu {P : List Part} {s0 : State} {core : Nat} {thread : Nat} {pd : Nat} {vs1 : Nat} {vs2 : Nat} {pred : Nat} {fmt : Nat} {s : State} (hp : within [.recp, .core, .ctrs] P = true) (h : Frame P s0 s) : FrameO P s0 (execVcmpLtu core thread pd vs1 vs2 pred fmt s) := by
  unfold execVcmpLtu
  with_reducible apply frameO_next
  with_reducible apply frame_compareOp (within_trans (by decide) hp)
  with_reducible assumption

theorem frame_execVcmpGeu {P : List Part} {s0 : State} {core : Nat} {thread : Nat} {pd : Nat} {vs1 : Nat} {vs2 : Nat} {pred : Nat} {fmt : Nat} {s : State} (hp : within [.recp, .core, .ctrs] P = true) (h : Frame P s0 s) : FrameO P s0 (execVcmpGeu core thread pd vs1 vs2 pred fmt s) := by
  unfold execVcmpGeu
  with_reducible apply frameO_next
  with_reducible apply frame_compareOp (within_trans (by decide) hp)
  with_reducible assumption

theorem frame_execVcvt {P : List Part} {s0 : State} {core : Nat} {thread : Nat} {vd : Nat} {vs1 : Nat} {part : Nat} {pred : Nat} {fmt : Nat} {fmtTo : Nat} {s : State} (hp : within [.recp, .core, .ctrs] P = true) (h : Frame P s0 s) : FrameO P s0 (execVcvt core thread vd vs1 part pred fmt fmtTo s) := by
  unfold execVcvt
  with_reducible apply frameO_next
  with_reducible apply frame_withFmt (within_trans (by decide) hp)
  · intro x0 x1 h2
    with_reducible apply frame_withFmt (within_trans (by decide) hp)
    · intro x3 x4 h5
      with_reducible apply frame_ite
      · with_reducible assumption
      · with_reducible apply frame_vecOp (within_trans (by decide) hp)
        with_reducible assumption
    · with_reducible assumption
  · with_reducible assumption

theorem frame_execVmov {P : List Part} {s0 : State} {core : Nat} {thread : Nat} {vd : Nat} {vs1 : Nat} {pred : Nat} {fmt : Nat} {s : State} (hp : within [.recp, .core, .ctrs] P = true) (h : Frame P s0 s) : FrameO P s0 (execVmov core thread vd vs1 pred fmt s) := by
  unfold execVmov
  with_reducible apply frameO_next
  with_reducible apply frame_withFmt (within_trans (by decide) hp)
  · intro x0 x1 h2
    with_reducible apply frame_vecOp (within_trans (by decide) hp)
    with_reducible assumption
  · with_reducible assumption

theorem frame_execVperm {P : List Part} {s0 : State} {core : Nat} {thread : Nat} {vd : Nat} {vs1 : Nat} {vs2 : Nat} {pred : Nat} {fmt : Nat} {s : State} (hp : within [.recp, .core, .ctrs] P = true) (h : Frame P s0 s) : FrameO P s0 (execVperm core thread vd vs1 vs2 pred fmt s) := by
  unfold execVperm
  with_reducible apply frameO_next
  with_reducible apply frame_withFmt (within_trans (by decide) hp)
  · intro x0 x1 h2
    with_reducible apply frame_vecOp (within_trans (by decide) hp)
    with_reducible assumption
  · with_reducible assumption

theorem frame_execVsel {P : List Part} {s0 : State} {core : Nat} {thread : Nat} {vd : Nat} {vs1 : Nat} {vs2 : Nat} {pred : Nat} {fmt : Nat} {s : State} (hp : within [.recp, .core, .ctrs] P = true) (h : Frame P s0 s) : FrameO P s0 (execVsel core thread vd vs1 vs2 pred fmt s) := by
  unfold execVsel
  with_reducible apply frameO_next
  with_reducible apply frame_withFmt (within_trans (by decide) hp)
  · intro x0 x1 h2
    with_reducible apply frame_issue (within_trans (by decide) hp)
    · intro x3 x4 x5 h6
      extract_lets +onlyGivenNames x7
      clear_value x7
      with_reducible apply frame_retire (within_trans (by decide) hp)
      with_reducible assumption
    · with_reducible assumption
  · with_reducible assumption

theorem frame_execVbcast {P : List Part} {s0 : State} {core : Nat} {thread : Nat} {vd : Nat} {xs : Nat} {pred : Nat} {fmt : Nat} {s : State} (hp : within [.recp, .core, .ctrs] P = true) (h : Frame P s0 s) : FrameO P s0 (execVbcast core thread vd xs pred fmt s) := by
  unfold execVbcast
  with_reducible apply frameO_next
  with_reducible apply frame_withFmt (within_trans (by decide) hp)
  · intro x0 x1 h2
    with_reducible apply frame_vecOp (within_trans (by decide) hp)
    with_reducible assumption
  · with_reducible assumption

theorem frame_execVext {P : List Part} {s0 : State} {core : Nat} {thread : Nat} {xd : Nat} {vs : Nat} {index : Nat} {fmt : Nat} {s : State} (hp : within [.recp, .core, .ctrs] P = true) (h : Frame P s0 s) : FrameO P s0 (execVext core thread xd vs index fmt s) := by
  unfold execVext
  with_reducible apply frameO_next
  with_reducible apply frame_withFmt (within_trans (by decide) hp)
  · intro x0 x1 h2
    with_reducible apply frame_scalarOp (within_trans (by decide) hp)
    with_reducible assumption
  · with_reducible assumption

theorem frame_execVins {P : List Part} {s0 : State} {core : Nat} {thread : Nat} {vd : Nat} {xs : Nat} {index : Nat} {fmt : Nat} {s : State} (hp : within [.recp, .core, .ctrs] P = true) (h : Frame P s0 s) : FrameO P s0 (execVins core thread vd xs index fmt s) := by
  unfold execVins
  with_reducible apply frameO_next
  with_reducible apply frame_withFmt (within_trans (by decide) hp)
  · intro x0 x1 h2
    with_reducible apply frame_issue (within_trans (by decide) hp)
    · intro x3 x4 x5 h6
      with_reducible apply frame_retire (within_trans (by decide) hp)
      with_reducible assumption
    · with_reducible assumption
  · with_reducible assumption

theorem frame_reduceOp {P : List Part} {s0 : State} {core : Nat} {th : Nat} {xd : Nat} {vs : Nat} {pred : Nat} {fmt : Nat} {op : RedOp} {s : State} (hp : within [.recp, .core, .ctrs] P = true) (h : Frame P s0 s) : Frame P s0 (reduceOp core th xd vs pred fmt op s) := by
  unfold reduceOp
  with_reducible apply frame_withFmt (within_trans (by decide) hp)
  · intro x0 x1 h2
    with_reducible apply frame_scalarOp (within_trans (by decide) hp)
    with_reducible assumption
  · with_reducible assumption

theorem frame_execVredAdd {P : List Part} {s0 : State} {core : Nat} {thread : Nat} {xd : Nat} {vs : Nat} {pred : Nat} {fmt : Nat} {s : State} (hp : within [.recp, .core, .ctrs] P = true) (h : Frame P s0 s) : FrameO P s0 (execVredAdd core thread xd vs pred fmt s) := by
  unfold execVredAdd
  with_reducible apply frameO_next
  with_reducible apply frame_reduceOp (within_trans (by decide) hp)
  with_reducible assumption

theorem frame_execVredMin {P : List Part} {s0 : State} {core : Nat} {thread : Nat} {xd : Nat} {vs : Nat} {pred : Nat} {fmt : Nat} {s : State} (hp : within [.recp, .core, .ctrs] P = true) (h : Frame P s0 s) : FrameO P s0 (execVredMin core thread xd vs pred fmt s) := by
  unfold execVredMin
  with_reducible apply frameO_next
  with_reducible apply frame_reduceOp (within_trans (by decide) hp)
  with_reducible assumption

theorem frame_execVredMax {P : List Part} {s0 : State} {core : Nat} {thread : Nat} {xd : Nat} {vs : Nat} {pred : Nat} {fmt : Nat} {s : State} (hp : within [.recp, .core, .ctrs] P = true) (h : Frame P s0 s) : FrameO P s0 (execVredMax core thread xd vs pred fmt s) := by
  unfold execVredMax
  with_reducible apply frameO_next
  with_reducible apply frame_reduceOp (within_trans (by decide) hp)
  with_reducible assumption

theorem frame_execVredMinu {P : List Part} {s0 : State} {core : Nat} {thread : Nat} {xd : Nat} {vs : Nat} {pred : Nat} {fmt : Nat} {s : State} (hp : within [.recp, .core, .ctrs] P = true) (h : Frame P s0 s) : FrameO P s0 (execVredMinu core thread xd vs pred fmt s) := by
  unfold execVredMinu
  with_reducible apply frameO_next
  with_reducible apply frame_reduceOp (within_trans (by decide) hp)
  with_reducible assumption

theorem frame_execVredMaxu {P : List Part} {s0 : State} {core : Nat} {thread : Nat} {xd : Nat} {vs : Nat} {pred : Nat} {fmt : Nat} {s : State} (hp : within [.recp, .core, .ctrs] P = true) (h : Frame P s0 s) : FrameO P s0 (execVredMaxu core thread xd vs pred fmt s) := by
  unfold execVredMaxu
  with_reducible apply frameO_next
  with_reducible apply frame_reduceOp (within_trans (by decide) hp)
  with_reducible assumption

theorem frame_execVredAnd {P : List Part} {s0 : State} {core : Nat} {thread : Nat} {xd : Nat} {vs : Nat} {pred : Nat} {fmt : Nat} {s : State} (hp : within [.recp, .core, .ctrs] P = true) (h : Frame P s0 s) : FrameO P s0 (execVredAnd core thread xd vs pred fmt s) := by
  unfold execVredAnd
  with_reducible apply frameO_next
  with_reducible apply frame_reduceOp (within_trans (by decide) hp)
  with_reducible assumption

theorem frame_execVredOr {P : List Part} {s0 : State} {core : Nat} {thread : Nat} {xd : Nat} {vs : Nat} {pred : Nat} {fmt : Nat} {s : State} (hp : within [.recp, .core, .ctrs] P = true) (h : Frame P s0 s) : FrameO P s0 (execVredOr core thread xd vs pred fmt s) := by
  unfold execVredOr
  with_reducible apply frameO_next
  with_reducible apply frame_reduceOp (within_trans (by decide) hp)
  with_reducible assumption

theorem frame_execVredXor {P : List Part} {s0 : State} {core : Nat} {thread : Nat} {xd : Nat} {vs : Nat} {pred : Nat} {fmt : Nat} {s : State} (hp : within [.recp, .core, .ctrs] P = true) (h : Frame P s0 s) : FrameO P s0 (execVredXor core thread xd vs pred fmt s) := by
  unfold execVredXor
  with_reducible apply frameO_next
  with_reducible apply frame_reduceOp (within_trans (by decide) hp)
  with_reducible assumption

theorem frame_accOp {P : List Part} {s0 : State} {core : Nat} {th : Nat} {major : Nat} {ad : Nat} {vs : List Nat} {xs : Nat} {pred : Nat} {fmt : Nat} {g : Fmt → Thread → Nat → Val} {s : State} (hp : within [.recp, .core, .ctrs] P = true) (h : Frame P s0 s) : Frame P s0 (accOp core th major ad vs xs pred fmt g s) := by
  unfold accOp
  with_reducible apply frame_withFmt (within_trans (by decide) hp)
  · intro x0 x1 h2
    with_reducible apply frame_issue (within_trans (by decide) hp)
    · intro x3 x4 x5 h6
      with_reducible apply frame_unpoisoned (within_trans (by decide) hp)
      · intro x7 h8
        split
        with_reducible apply frame_retire (within_trans (by decide) hp)
        with_reducible apply frame_countEv (within_trans (by decide) hp)
        with_reducible assumption
      · with_reducible assumption
    · with_reducible assumption
  · with_reducible assumption

theorem frame_execAadd {P : List Part} {s0 : State} {core : Nat} {thread : Nat} {ad : Nat} {vs1 : Nat} {xs : Nat} {pred : Nat} {fmt : Nat} {s : State} (hp : within [.recp, .core, .ctrs] P = true) (h : Frame P s0 s) : FrameO P s0 (execAadd core thread ad vs1 xs pred fmt s) := by
  unfold execAadd
  with_reducible apply frameO_next
  with_reducible apply frame_accOp (within_trans (by decide) hp)
  with_reducible assumption

theorem frame_execAdot {P : List Part} {s0 : State} {core : Nat} {thread : Nat} {ad : Nat} {vs1 : Nat} {vs2 : Nat} {xs : Nat} {pred : Nat} {fmt : Nat} {s : State} (hp : within [.recp, .core, .ctrs] P = true) (h : Frame P s0 s) : FrameO P s0 (execAdot core thread ad vs1 vs2 xs pred fmt s) := by
  unfold execAdot
  with_reducible apply frameO_next
  with_reducible apply frame_accOp (within_trans (by decide) hp)
  with_reducible assumption

theorem frame_execAclr {P : List Part} {s0 : State} {core : Nat} {thread : Nat} {ad : Nat} {s : State} (hp : within [.recp, .core, .ctrs] P = true) (h : Frame P s0 s) : FrameO P s0 (execAclr core thread ad s) := by
  unfold execAclr
  with_reducible apply frameO_next
  with_reducible apply frame_issue (within_trans (by decide) hp)
  · intro x0 x1 x2 h3
    with_reducible apply frame_retire (within_trans (by decide) hp)
    with_reducible assumption
  · with_reducible assumption

theorem frame_execAmov {P : List Part} {s0 : State} {core : Nat} {thread : Nat} {ad : Nat} {as_ : Nat} {s : State} (hp : within [.recp, .core, .ctrs] P = true) (h : Frame P s0 s) : FrameO P s0 (execAmov core thread ad as_ s) := by
  unfold execAmov
  with_reducible apply frameO_next
  with_reducible apply frame_issue (within_trans (by decide) hp)
  · intro x0 x1 x2 h3
    with_reducible apply frame_retire (within_trans (by decide) hp)
    with_reducible assumption
  · with_reducible assumption

theorem frame_execAmerge {P : List Part} {s0 : State} {core : Nat} {thread : Nat} {ad : Nat} {as_ : Nat} {s : State} (hp : within [.recp, .core, .ctrs] P = true) (h : Frame P s0 s) : FrameO P s0 (execAmerge core thread ad as_ s) := by
  unfold execAmerge
  with_reducible apply frameO_next
  with_reducible apply frame_issue (within_trans (by decide) hp)
  · intro x0 x1 x2 h3
    split
    with_reducible apply frame_retire (within_trans (by decide) hp)
    with_reducible apply frame_countEv (within_trans (by decide) hp)
    with_reducible assumption
  · with_reducible assumption

theorem frame_execAout {P : List Part} {s0 : State} {core : Nat} {thread : Nat} {ad : Nat} {vr : Nat} {index : Nat} {fmt : Nat} {s : State} (hp : within [.recp, .core, .ctrs] P = true) (h : Frame P s0 s) : FrameO P s0 (execAout core thread ad vr index fmt s) := by
  unfold execAout
  with_reducible apply frameO_next
  with_reducible apply frame_withFmt (within_trans (by decide) hp)
  · intro x0 x1 h2
    with_reducible apply frame_issue (within_trans (by decide) hp)
    · intro x3 x4 x5 h6
      extract_lets +onlyGivenNames x7
      clear_value x7
      extract_lets +onlyGivenNames x8
      clear_value x8
      extract_lets +onlyGivenNames x9
      clear_value x9
      extract_lets +onlyGivenNames x10
      clear_value x10
      extract_lets +onlyGivenNames x11
      clear_value x11
      with_reducible apply frame_retire (within_trans (by decide) hp)
      with_reducible apply frame_countEv (within_trans (by decide) hp)
      with_reducible assumption
    · with_reducible assumption
  · with_reducible assumption

theorem frame_execAsave {P : List Part} {s0 : State} {core : Nat} {thread : Nat} {ad : Nat} {xr : Nat} {s : State} (hp : within [.recp, .core, .ctrs] P = true) (h : Frame P s0 s) : FrameO P s0 (execAsave core thread ad xr s) := by
  unfold execAsave
  with_reducible apply frameO_next
  with_reducible apply frame_issue (within_trans (by decide) hp)
  · intro x0 x1 x2 h3
    with_reducible apply frame_trayAccess (within_trans (by decide) hp)
    · intro x4 x5 h6
      with_reducible apply frame_retire (within_trans (by decide) hp)
      with_reducible apply frame_setCore (within_trans (by decide) hp)
      with_reducible assumption
    · with_reducible assumption
  · with_reducible assumption

theorem frame_execAload {P : List Part} {s0 : State} {core : Nat} {thread : Nat} {ad : Nat} {xr : Nat} {s : State} (hp : within [.ledger, .dir, .dram, .deep, .integ, .recp, .core, .mirror, .leaves, .power, .sessions, .boot, .units, .rings, .kodp, .running, .ctrs, .out] P = true) (h : Frame P s0 s) : FrameO P s0 (execAload core thread ad xr s) := by
  unfold execAload
  with_reducible apply frameO_next
  with_reducible apply frame_issue (within_trans (by decide) hp)
  · intro x0 x1 x2 h3
    with_reducible apply frame_trayAccess (within_trans (by decide) hp)
    · intro x4 x5 h6
      extract_lets +onlyGivenNames x7
      clear_value x7
      with_reducible apply frame_ite
      · with_reducible apply frame_retire (within_trans (by decide) hp)
        with_reducible assumption
      · split
        with_reducible apply frame_ite
        · with_reducible apply frame_retire (within_trans (by decide) hp)
          with_reducible assumption
        · with_reducible apply frame_residueKernel (within_trans (by decide) hp)
          with_reducible assumption
    · with_reducible assumption
  · with_reducible assumption

end Sys2Proof.Machine
end

