-- ==== Sys2Proof/Laws/FrameKernels.lean ====
section
/-!
SUPPORT. Laws/FrameKernels.lean: the frame of every operation and command of Machine/Kernels.lean.
-/
namespace Sys2Proof.Machine

theorem frame_failEntry {P : List Part} {s0 : State} {core : Nat} {r : Recipe} {tile : Nat} {f : XFault} {s : State} (hp : within [.pkg, .txn, .ledger, .part, .dir, .mem, .dram, .deep, .integ, .recp, .core, .mirror, .leaves, .power, .sessions, .obs, .rings, .kodp, .ctrs, .out, .free] P = true) (h : Frame P s0 s) : Frame P s0 (failEntry core r tile f s) := by
  unfold failEntry
  extract_lets +onlyGivenNames x0
  have h0 : Frame P s0 (x0) := by
    unfold x0
    with_reducible apply frame_setRecipe (within_trans (by decide) hp)
    with_reducible assumption
  clear_value x0
  with_reducible apply frame_failCheck (within_trans (by decide) hp)
  with_reducible assumption

theorem frame_startThreads {P : List Part} {s0 : State} {core : Nat} {r : Recipe} {t : CoreTile} {handle : Nat} {pc : Nat} {k : Kernel} {s : State} (hp : within [.core, .ctrs] P = true) (h : Frame P s0 s) : Frame P s0 (startThreads core r t handle pc k s) := by
  unfold startThreads
  extract_lets +onlyGivenNames x0
  clear_value x0
  extract_lets +onlyGivenNames x1
  clear_value x1
  extract_lets +onlyGivenNames x2
  have h2 : Frame P s0 (x2) := by
    unfold x2
    with_reducible apply frame_onlyIf
    · intro x3 h4
      with_reducible apply frame_bump (within_trans (by decide) hp)
      with_reducible assumption
    · with_reducible assumption
  clear_value x2
  extract_lets +onlyGivenNames x5
  have h5 : Frame P s0 (x5) := by
    unfold x5
    with_reducible apply frame_bumpBy (within_trans (by decide) hp)
    with_reducible assumption
  clear_value x5
  with_reducible apply frame_setCore (within_trans (by decide) hp)
  with_reducible assumption

theorem frame_execKernelTileStart {P : List Part} {s0 : State} {core : Nat} {s : State} (hp : within [.pkg, .txn, .ledger, .part, .dir, .mem, .dram, .deep, .integ, .recp, .core, .mirror, .leaves, .power, .sessions, .obs, .rings, .kodp, .ctrs, .out, .free] P = true) (h : Frame P s0 s) : FrameO P s0 (execKernelTileStart core s) := by
  unfold execKernelTileStart
  with_reducible apply frameO_ite
  · with_reducible apply frameO_next
    with_reducible assumption
  · with_reducible apply frameO_next
    split
    · with_reducible assumption
    · split
      · with_reducible apply frame_setCore (within_trans (by decide) hp)
        with_reducible assumption
      · with_reducible apply frame_ite
        · with_reducible assumption
        · split
          · split
            · refine frame_of_fst (by with_reducible assumption) ?_
              with_reducible apply frame_settleFor (within_trans (by decide) hp)
              refine frame_of_fst (by with_reducible assumption) ?_
              with_reducible apply frame_xlate (within_trans (by decide) hp)
              with_reducible assumption
            · with_reducible apply frame_failEntry (within_trans (by decide) hp)
              refine frame_of_fst (by with_reducible assumption) ?_
              with_reducible apply frame_settleFor (within_trans (by decide) hp)
              refine frame_of_fst (by with_reducible assumption) ?_
              with_reducible apply frame_xlate (within_trans (by decide) hp)
              with_reducible assumption
          · with_reducible apply frame_failEntry (within_trans (by decide) hp)
            refine frame_of_fst (by with_reducible assumption) ?_
            with_reducible apply frame_xlate (within_trans (by decide) hp)
            with_reducible assumption
          · extract_lets +onlyGivenNames x0
            have h0 : Frame P s0 (x0) := by
              unfold x0
              with_reducible apply frame_settled (within_trans (by decide) hp)
              refine frame_of_fst (by with_reducible assumption) ?_
              with_reducible apply frame_xlate (within_trans (by decide) hp)
              with_reducible assumption
            clear_value x0
            split
            · with_reducible apply frame_failEntry (within_trans (by decide) hp)
              with_reducible assumption
            · split
              · with_reducible assumption
              · with_reducible apply frame_startThreads (within_trans (by decide) hp)
                with_reducible apply frame_clearForTenant (within_trans (by decide) hp)
                with_reducible assumption

theorem frame_execInstructionWatchdog {P : List Part} {s0 : State} {core : Nat} {thread : Nat} {s : State} (hp : within [.ledger, .recp, .core, .leaves, .sessions, .rings, .kodp, .ctrs, .out] P = true) (h : Frame P s0 s) : FrameO P s0 (execInstructionWatchdog core thread s) := by
  unfold execInstructionWatchdog
  with_reducible apply frameO_ite
  · with_reducible apply frameO_next
    with_reducible assumption
  · with_reducible apply frameO_next
    split
    · with_reducible assumption
    · extract_lets +onlyGivenNames x0
      clear_value x0
      with_reducible apply frame_ite
      · split
        · with_reducible assumption
        · with_reducible apply frame_loseKernel (within_trans (by decide) hp)
          with_reducible apply frame_bump (within_trans (by decide) hp)
          with_reducible apply frame_timeoutFired (within_trans (by decide) hp)
          with_reducible assumption
      · with_reducible apply frame_loseTile (within_trans (by decide) hp)
        with_reducible apply frame_setCore (within_trans (by decide) hp)
        with_reducible apply frame_timeoutFired (within_trans (by decide) hp)
        with_reducible assumption

theorem frame_execCoreTileTimeout {P : List Part} {s0 : State} {core : Nat} {s : State} (hp : within [.ledger, .dir, .dram, .deep, .recp, .core, .mirror, .leaves, .power, .sessions, .boot, .units, .partials, .rings, .kodp, .running, .ctrs, .out, .free] P = true) (h : Frame P s0 s) : FrameO P s0 (execCoreTileTimeout core s) := by
  unfold execCoreTileTimeout
  with_reducible apply frameO_ite
  · with_reducible apply frameO_next
    with_reducible assumption
  · with_reducible apply frameO_next
    split
    · with_reducible assumption
    · with_reducible apply frame_ite
      · with_reducible assumption
      · extract_lets +onlyGivenNames x0
        have h0 : Frame P s0 (x0) := by
          unfold x0
          with_reducible apply frame_timeoutFired (within_trans (by decide) hp)
          with_reducible assumption
        clear_value x0
        extract_lets +onlyGivenNames x1
        have h1 : Frame P s0 (x1) := by
          unfold x1
          with_reducible apply frame_bump (within_trans (by decide) hp)
          with_reducible assumption
        clear_value x1
        extract_lets +onlyGivenNames x2
        have h2 : Frame P s0 (x2) := by
          unfold x2
          with_reducible apply frame_ite
          · split
            · with_reducible apply frame_ite
              · with_reducible apply frame_takeExc (within_trans (by decide) hp)
                with_reducible apply frame_useFree (within_trans (by decide) hp)
                with_reducible assumption
              · with_reducible assumption
            · with_reducible assumption
          · with_reducible assumption
        clear_value x2
        with_reducible apply frame_beginCoreReset (within_trans (by decide) hp)
        with_reducible assumption

theorem frame_requeue {P : List Part} {s0 : State} {o : OpObj} {r : Req} {arg : List Byte} {s : State} (hp : within [.kodp, .running] P = true) (h : Frame P s0 s) : Frame P s0 (requeue o r arg s) := by
  unfold requeue
  refine frame_onKodp [.running, .kodp] (within_trans (by decide) hp) (.inl rfl) (.inr fun _ => rfl) (.inl rfl) ?_
  with_reducible assumption

theorem frame_dropResident {P : List Part} {s0 : State} {h1 : Nat} {s : State} (hp : within [.core] P = true) (h : Frame P s0 s) : Frame P s0 (dropResident h1 s) := by
  unfold dropResident
  with_reducible apply frame_onCore (within_trans (by decide) hp)
  with_reducible assumption

theorem frame_loadImage {P : List Part} {s0 : State} {ctx : Nat} {addr : Nat} {len : Nat} {b : List Byte} {s : State} (hp : within [.core] P = true) (h : Frame P s0 s) : FrameP P s0 (loadImage ctx addr len b s) := by
  unfold loadImage
  extract_lets +onlyGivenNames x0
  clear_value x0
  extract_lets +onlyGivenNames x1
  clear_value x1
  extract_lets +onlyGivenNames x2
  clear_value x2
  extract_lets +onlyGivenNames x3
  clear_value x3
  extract_lets +onlyGivenNames x4
  clear_value x4
  extract_lets +onlyGivenNames x5
  clear_value x5
  extract_lets +onlyGivenNames x6
  clear_value x6
  with_reducible apply frame_ite1
  · with_reducible apply frame_mk
    with_reducible assumption
  · with_reducible apply frame_ite1
    · with_reducible apply frame_mk
      with_reducible assumption
    · split
      · with_reducible apply frame_mk
        with_reducible assumption
      · extract_lets +onlyGivenNames x7
        clear_value x7
        with_reducible apply frame_ite1
        · with_reducible apply frame_mk
          with_reducible assumption
        · extract_lets +onlyGivenNames x8
          clear_value x8
          split
          · with_reducible apply frame_mk
            with_reducible assumption
          · split
            · with_reducible apply frame_mk
              with_reducible assumption
            · with_reducible apply frame_ite1
              · with_reducible apply frame_mk
                with_reducible assumption
              · extract_lets +onlyGivenNames x9
                clear_value x9
                with_reducible apply frame_mk
                with_reducible apply frame_dropResident (within_trans (by decide) hp)
                with_reducible apply frame_onCore (within_trans (by decide) hp)
                with_reducible assumption

theorem frame_execKernelLoad {P : List Part} {s0 : State} {r : Req} {ctx : Nat} {addr : Nat} {len : Nat} {s : State} (hp : within [.pkg, .txn, .ledger, .part, .dir, .mem, .dram, .deep, .integ, .core, .mirror, .leaves, .power, .sessions, .obs, .rings, .kodp, .running, .ctrs, .out, .free] P = true) (h : Frame P s0 s) : FrameO P s0 (execKernelLoad r ctx addr len s) := by
  unfold execKernelLoad
  extract_lets +onlyGivenNames x0
  clear_value x0
  extract_lets +onlyGivenNames x1
  clear_value x1
  with_reducible apply frameO_next
  with_reducible apply frame_operate (within_trans (by decide) hp)
  · intro x2 h3
    extract_lets +onlyGivenNames x4
    clear_value x4
    split
    split
    · with_reducible apply frame_requeue (within_trans (by decide) hp)
      refine frame_of_fst (by with_reducible assumption) ?_
      with_reducible apply frame_foldlP
      · intro x5 x6 h7
        split
        · with_reducible apply frame_mk
          exact frame_of_mk (by with_reducible assumption)
        · split
          · with_reducible apply frame_mk
            refine frame_of_fst (by with_reducible assumption) ?_
            with_reducible apply frame_xlate (within_trans (by decide) hp)
            exact frame_of_mk (by with_reducible assumption)
          · split
            · with_reducible apply frame_mk
              refine frame_of_fst (by with_reducible assumption) ?_
              with_reducible apply frame_settleFor (within_trans (by decide) hp)
              refine frame_of_fst (by with_reducible assumption) ?_
              with_reducible apply frame_xlate (within_trans (by decide) hp)
              exact frame_of_mk (by with_reducible assumption)
            · with_reducible apply frame_mk
              refine frame_of_fst (by with_reducible assumption) ?_
              with_reducible apply frame_settleFor (within_trans (by decide) hp)
              refine frame_of_fst (by with_reducible assumption) ?_
              with_reducible apply frame_xlate (within_trans (by decide) hp)
              exact frame_of_mk (by with_reducible assumption)
          · with_reducible apply frame_mk
            refine frame_of_fst (by with_reducible assumption) ?_
            with_reducible apply frame_xlate (within_trans (by decide) hp)
            exact frame_of_mk (by with_reducible assumption)
      · with_reducible apply frame_mk
        with_reducible assumption
    · with_reducible apply frame_reply (within_trans (by decide) hp)
      with_reducible apply frame_settled (within_trans (by decide) hp)
      refine frame_of_fst (by with_reducible assumption) ?_
      with_reducible apply frame_foldlP
      · intro x8 x9 h10
        split
        · with_reducible apply frame_mk
          exact frame_of_mk (by with_reducible assumption)
        · split
          · with_reducible apply frame_mk
            refine frame_of_fst (by with_reducible assumption) ?_
            with_reducible apply frame_xlate (within_trans (by decide) hp)
            exact frame_of_mk (by with_reducible assumption)
          · split
            · with_reducible apply frame_mk
              refine frame_of_fst (by with_reducible assumption) ?_
              with_reducible apply frame_settleFor (within_trans (by decide) hp)
              refine frame_of_fst (by with_reducible assumption) ?_
              with_reducible apply frame_xlate (within_trans (by decide) hp)
              exact frame_of_mk (by with_reducible assumption)
            · with_reducible apply frame_mk
              refine frame_of_fst (by with_reducible assumption) ?_
              with_reducible apply frame_settleFor (within_trans (by decide) hp)
              refine frame_of_fst (by with_reducible assumption) ?_
              with_reducible apply frame_xlate (within_trans (by decide) hp)
              exact frame_of_mk (by with_reducible assumption)
          · with_reducible apply frame_mk
            refine frame_of_fst (by with_reducible assumption) ?_
            with_reducible apply frame_xlate (within_trans (by decide) hp)
            exact frame_of_mk (by with_reducible assumption)
      · with_reducible apply frame_mk
        with_reducible assumption
    · extract_lets +onlyGivenNames x11
      have h11 : Frame P s0 (x11) := by
        unfold x11
        with_reducible apply frame_settled (within_trans (by decide) hp)
        refine frame_of_fst (by with_reducible assumption) ?_
        with_reducible apply frame_foldlP
        · intro x12 x13 h14
          split
          · with_reducible apply frame_mk
            exact frame_of_mk (by with_reducible assumption)
          · split
            · with_reducible apply frame_mk
              refine frame_of_fst (by with_reducible assumption) ?_
              with_reducible apply frame_xlate (within_trans (by decide) hp)
              exact frame_of_mk (by with_reducible assumption)
            · split
              · with_reducible apply frame_mk
                refine frame_of_fst (by with_reducible assumption) ?_
                with_reducible apply frame_settleFor (within_trans (by decide) hp)
                refine frame_of_fst (by with_reducible assumption) ?_
                with_reducible apply frame_xlate (within_trans (by decide) hp)
                exact frame_of_mk (by with_reducible assumption)
              · with_reducible apply frame_mk
                refine frame_of_fst (by with_reducible assumption) ?_
                with_reducible apply frame_settleFor (within_trans (by decide) hp)
                refine frame_of_fst (by with_reducible assumption) ?_
                with_reducible apply frame_xlate (within_trans (by decide) hp)
                exact frame_of_mk (by with_reducible assumption)
            · with_reducible apply frame_mk
              refine frame_of_fst (by with_reducible assumption) ?_
              with_reducible apply frame_xlate (within_trans (by decide) hp)
              exact frame_of_mk (by with_reducible assumption)
        · with_reducible apply frame_mk
          with_reducible assumption
      clear_value x11
      extract_lets +onlyGivenNames x15
      clear_value x15
      split
      · with_reducible apply frame_requeue (within_trans (by decide) hp)
        refine frame_of_fst (by with_reducible assumption) ?_
        with_reducible apply frame_readySpans (within_trans (by decide) hp)
        with_reducible assumption
      · with_reducible apply frame_reply (within_trans (by decide) hp)
        refine frame_of_fst (by with_reducible assumption) ?_
        with_reducible apply frame_readySpans (within_trans (by decide) hp)
        with_reducible assumption
      · extract_lets +onlyGivenNames x16
        clear_value x16
        extract_lets +onlyGivenNames x17
        clear_value x17
        with_reducible apply frame_ite
        · with_reducible apply frame_reply (within_trans (by decide) hp)
          refine frame_of_fst (by with_reducible assumption) ?_
          with_reducible apply frame_readySpans (within_trans (by decide) hp)
          with_reducible assumption
        · split
          with_reducible apply frame_reply (within_trans (by decide) hp)
          refine frame_of_fst (by with_reducible assumption) ?_
          with_reducible apply frame_loadImage (within_trans (by decide) hp)
          refine frame_of_fst (by with_reducible assumption) ?_
          with_reducible apply frame_readySpans (within_trans (by decide) hp)
          with_reducible assumption
  · with_reducible assumption

theorem frame_execKernelUnload {P : List Part} {s0 : State} {r : Req} {handle : Nat} {s : State} (hp : within [.ledger, .core, .mirror, .leaves, .sessions, .rings, .kodp, .running, .ctrs, .out] P = true) (h : Frame P s0 s) : FrameO P s0 (execKernelUnload r handle s) := by
  unfold execKernelUnload
  with_reducible apply frameO_next
  with_reducible apply frame_operateOk (within_trans (by decide) hp)
  · intro x0 h1
    with_reducible apply frame_dropResident (within_trans (by decide) hp)
    with_reducible apply frame_onCore (within_trans (by decide) hp)
    with_reducible assumption
  · with_reducible assumption

end Sys2Proof.Machine
end

