-- ==== Sys2Proof/Laws/FrameLinkPort.lean ====
section
/-!
SUPPORT. Laws/FrameLinkPort.lean: the frame of every operation and command of Machine/LinkPort.lean.
-/
namespace Sys2Proof.Machine

theorem frame_execLaneLos {P : List Part} {s0 : State} {port : Nat} {lane : Nat} {s : State} (hp : within [.link, .txn, .ledger, .leaves, .sessions, .rings, .kodp, .ctrs, .out] P = true) (h : Frame P s0 s) : FrameO P s0 (execLaneLos port lane s) := by
  unfold execLaneLos
  with_reducible apply frameO_ite
  · with_reducible apply frameO_next
    with_reducible assumption
  · extract_lets +onlyGivenNames x0
    clear_value x0
    extract_lets +onlyGivenNames x1
    clear_value x1
    extract_lets +onlyGivenNames x2
    clear_value x2
    extract_lets +onlyGivenNames x3
    have h3 : Frame P s0 (x3) := by
      unfold x3
      with_reducible apply frame_setPort (within_trans (by decide) hp)
      with_reducible apply frame_setLane (within_trans (by decide) hp)
      with_reducible assumption
    clear_value x3
    with_reducible apply frameO_next
    with_reducible apply frame_onlyIf
    · intro x4 h5
      with_reducible apply frame_retrainTrigger (within_trans (by decide) hp)
      with_reducible assumption
    · with_reducible assumption

theorem frame_execLaneSignalRestored {P : List Part} {s0 : State} {port : Nat} {lane : Nat} {s : State} (hp : within [.link] P = true) (h : Frame P s0 s) : FrameO P s0 (execLaneSignalRestored port lane s) := by
  unfold execLaneSignalRestored
  with_reducible apply frameO_next
  with_reducible apply frame_ite
  · with_reducible apply frame_setLane (within_trans (by decide) hp)
    with_reducible assumption
  · with_reducible assumption

theorem frame_execPortDark {P : List Part} {s0 : State} {port : Nat} {s : State} (hp : within [.link, .txn, .ledger, .deep, .mirror, .traffic, .leaves, .sessions, .rings, .kodp, .ctrs, .out] P = true) (h : Frame P s0 s) : FrameO P s0 (execPortDark port s) := by
  unfold execPortDark
  with_reducible apply frameO_next
  with_reducible apply frame_ite
  · with_reducible assumption
  · split
    · with_reducible apply frame_trainFails (within_trans (by decide) hp)
      with_reducible assumption
    · with_reducible apply frame_portDown (within_trans (by decide) hp)
      with_reducible assumption
    · with_reducible apply frame_portDown (within_trans (by decide) hp)
      with_reducible assumption
    · with_reducible apply frame_portIgnored (within_trans (by decide) hp)
      with_reducible assumption
    · with_reducible apply frame_portIgnored (within_trans (by decide) hp)
      with_reducible assumption
    · with_reducible apply frame_portIgnored (within_trans (by decide) hp)
      with_reducible assumption

theorem frame_execDetectLit {P : List Part} {s0 : State} {port : Nat} {s : State} (hp : within [.link, .ctrs] P = true) (h : Frame P s0 s) : FrameO P s0 (execDetectLit port s) := by
  unfold execDetectLit
  with_reducible apply frameO_next
  with_reducible apply frame_ite
  · with_reducible assumption
  · with_reducible apply frame_ite
    · with_reducible apply frame_beginTrain (within_trans (by decide) hp)
      with_reducible assumption
    · with_reducible apply frame_portIgnored (within_trans (by decide) hp)
      with_reducible assumption

theorem frame_execLcbReceived {P : List Part} {s0 : State} {port : Nat} {lane : Nat} {lcb : LaneFrame} {s : State} (hp : within [.link, .txn, .ledger, .leaves, .sessions, .rings, .kodp, .ctrs, .out] P = true) (h : Frame P s0 s) : FrameO P s0 (execLcbReceived port lane lcb s) := by
  unfold execLcbReceived
  with_reducible apply frameO_ite
  · with_reducible apply frameO_next
    with_reducible assumption
  · extract_lets +onlyGivenNames x0
    have h0 : Frame P s0 (x0) := by
      unfold x0
      with_reducible apply frame_setLane (within_trans (by decide) hp)
      with_reducible assumption
    clear_value x0
    split
    · with_reducible apply frameO_next
      with_reducible apply frame_bump (within_trans (by decide) hp)
      with_reducible apply frame_setLane (within_trans (by decide) hp)
      with_reducible assumption
    · extract_lets +onlyGivenNames x1
      clear_value x1
      extract_lets +onlyGivenNames x2
      clear_value x2
      extract_lets +onlyGivenNames x3
      have h3 : Frame P s0 (x3) := by
        unfold x3
        with_reducible apply frame_setLane (within_trans (by decide) hp)
        with_reducible assumption
      clear_value x3
      extract_lets +onlyGivenNames x4
      have h4 : Frame P s0 (x4) := by
        unfold x4
        with_reducible apply frame_setPort (within_trans (by decide) hp)
        with_reducible assumption
      clear_value x4
      with_reducible apply frameO_next
      with_reducible apply frame_onlyIf
      · intro x5 h6
        with_reducible apply frame_retrainTrigger (within_trans (by decide) hp)
        with_reducible assumption
      · with_reducible assumption

theorem frame_execTrainComplete {P : List Part} {s0 : State} {port : Nat} {s : State} (hp : within [.link, .txn, .ledger, .deep, .mirror, .traffic, .leaves, .sessions, .boot, .rings, .kodp, .ctrs, .out] P = true) (h : Frame P s0 s) : FrameO P s0 (execTrainComplete port s) := by
  unfold execTrainComplete
  with_reducible apply frameO_next
  with_reducible apply frame_ite
  · with_reducible assumption
  · with_reducible apply frame_ite
    · with_reducible apply frame_trainDone (within_trans (by decide) hp)
      with_reducible assumption
    · with_reducible apply frame_portIgnored (within_trans (by decide) hp)
      with_reducible assumption

theorem frame_execTrainTimeout {P : List Part} {s0 : State} {port : Nat} {s : State} (hp : within [.link, .txn, .ledger, .deep, .mirror, .traffic, .leaves, .sessions, .rings, .kodp, .ctrs, .out] P = true) (h : Frame P s0 s) : FrameO P s0 (execTrainTimeout port s) := by
  unfold execTrainTimeout
  with_reducible apply frameO_next
  with_reducible apply frame_ite
  · with_reducible assumption
  · with_reducible apply frame_ite
    · with_reducible apply frame_trainFails (within_trans (by decide) hp)
      with_reducible assumption
    · with_reducible apply frame_portIgnored (within_trans (by decide) hp)
      with_reducible assumption

theorem frame_execRetrainComplete {P : List Part} {s0 : State} {port : Nat} {s : State} (hp : within [.link, .txn, .ledger, .deep, .mirror, .traffic, .leaves, .sessions, .boot, .rings, .kodp, .ctrs, .out] P = true) (h : Frame P s0 s) : FrameO P s0 (execRetrainComplete port s) := by
  unfold execRetrainComplete
  with_reducible apply frameO_next
  with_reducible apply frame_ite
  · with_reducible assumption
  · with_reducible apply frame_ite
    · with_reducible apply frame_retrainDone (within_trans (by decide) hp)
      with_reducible assumption
    · with_reducible apply frame_portIgnored (within_trans (by decide) hp)
      with_reducible assumption

theorem frame_execRetrainTimeout {P : List Part} {s0 : State} {port : Nat} {s : State} (hp : within [.link, .txn, .ledger, .deep, .mirror, .traffic, .leaves, .sessions, .rings, .kodp, .ctrs, .out] P = true) (h : Frame P s0 s) : FrameO P s0 (execRetrainTimeout port s) := by
  unfold execRetrainTimeout
  with_reducible apply frameO_next
  with_reducible apply frame_ite
  · with_reducible assumption
  · with_reducible apply frame_ite
    · with_reducible apply frame_portDown (within_trans (by decide) hp)
      with_reducible assumption
    · with_reducible apply frame_portIgnored (within_trans (by decide) hp)
      with_reducible assumption

theorem frame_execDownHoldExpiry {P : List Part} {s0 : State} {port : Nat} {s : State} (hp : within [.link, .ctrs] P = true) (h : Frame P s0 s) : FrameO P s0 (execDownHoldExpiry port s) := by
  unfold execDownHoldExpiry
  with_reducible apply frameO_next
  with_reducible apply frame_ite
  · with_reducible assumption
  · with_reducible apply frame_ite
    · with_reducible apply frame_portIgnored (within_trans (by decide) hp)
      with_reducible assumption
    · with_reducible apply frame_ite
      · with_reducible apply frame_portTo (within_trans (by decide) hp)
        with_reducible assumption
      · with_reducible apply frame_setPort (within_trans (by decide) hp)
        with_reducible assumption

theorem frame_portCommand {P : List Part} {s0 : State} {r : Req} {port : Nat} {action : Nat} {refused : Bool} {eff : State → State} {s : State} (hp : within [.ledger, .mirror, .leaves, .sessions, .rings, .kodp, .running, .ctrs, .out] P = true) (h_eff : (∀ x0, Frame P s0 x0 → Frame P s0 (eff x0))) (h : Frame P s0 s) : Frame P s0 (portCommand r port action refused eff s) := by
  unfold portCommand
  with_reducible apply frame_operateOk (within_trans (by decide) hp)
  · intro x0 h1
    with_reducible apply h_eff
    with_reducible assumption
  · with_reducible assumption

theorem frame_execPortEnable {P : List Part} {s0 : State} {r : Req} {port : Nat} {s : State} (hp : within [.link, .txn, .ledger, .deep, .mirror, .traffic, .leaves, .sessions, .rings, .kodp, .running, .ctrs, .out] P = true) (h : Frame P s0 s) : FrameO P s0 (execPortEnable r port s) := by
  unfold execPortEnable
  extract_lets +onlyGivenNames x0
  clear_value x0
  extract_lets +onlyGivenNames x1
  clear_value x1
  with_reducible apply frameO_next
  with_reducible apply frame_portCommand (within_trans (by decide) hp)
  · intro x2 h3
    with_reducible apply frame_ite
    · with_reducible apply frame_detectPort (within_trans (by decide) hp)
      with_reducible assumption
    · with_reducible apply frame_ite
      · with_reducible assumption
      · with_reducible apply frame_portIgnored (within_trans (by decide) hp)
        with_reducible assumption
  · with_reducible assumption

theorem frame_execPortDisable {P : List Part} {s0 : State} {r : Req} {port : Nat} {s : State} (hp : within [.link, .txn, .ledger, .mirror, .traffic, .leaves, .sessions, .rings, .kodp, .running, .ctrs, .out] P = true) (h : Frame P s0 s) : FrameO P s0 (execPortDisable r port s) := by
  unfold execPortDisable
  extract_lets +onlyGivenNames x0
  clear_value x0
  with_reducible apply frameO_next
  with_reducible apply frame_portCommand (within_trans (by decide) hp)
  · intro x1 h2
    with_reducible apply frame_ite
    · with_reducible apply frame_portIgnored (within_trans (by decide) hp)
      with_reducible assumption
    · with_reducible apply frame_disablePort (within_trans (by decide) hp)
      with_reducible assumption
  · with_reducible assumption

theorem frame_execPortRetrain {P : List Part} {s0 : State} {r : Req} {port : Nat} {s : State} (hp : within [.link, .txn, .ledger, .mirror, .leaves, .sessions, .rings, .kodp, .running, .ctrs, .out] P = true) (h : Frame P s0 s) : FrameO P s0 (execPortRetrain r port s) := by
  unfold execPortRetrain
  extract_lets +onlyGivenNames x0
  clear_value x0
  with_reducible apply frameO_next
  with_reducible apply frame_portCommand (within_trans (by decide) hp)
  · intro x1 h2
    with_reducible apply frame_ite
    · with_reducible apply frame_retrainTrigger (within_trans (by decide) hp)
      with_reducible assumption
    · with_reducible apply frame_ite
      · with_reducible apply frame_portIgnored (within_trans (by decide) hp)
        with_reducible assumption
      · with_reducible assumption
  · with_reducible assumption

theorem frame_execPortLaneRestore {P : List Part} {s0 : State} {r : Req} {port : Nat} {s : State} (hp : within [.link, .txn, .ledger, .mirror, .leaves, .sessions, .rings, .kodp, .running, .ctrs, .out] P = true) (h : Frame P s0 s) : FrameO P s0 (execPortLaneRestore r port s) := by
  unfold execPortLaneRestore
  with_reducible apply frameO_next
  with_reducible apply frame_portCommand (within_trans (by decide) hp)
  · intro x0 h1
    with_reducible apply frame_retrainTrigger (within_trans (by decide) hp)
    with_reducible apply frame_setPort (within_trans (by decide) hp)
    with_reducible assumption
  · with_reducible assumption

end Sys2Proof.Machine
end

