-- ==== Sys2Proof/Laws/FrameObserve.lean ====
section
/-!
SUPPORT. Laws/FrameObserve.lean: the frame of every operation and command of Machine/Observe.lean.
-/
namespace Sys2Proof.Machine

theorem frame_execDie1TimeSync {P : List Part} {s0 : State} {s : State} (hp : within [.ledger, .leaves, .sessions, .time, .rings, .kodp, .ctrs, .out] P = true) (h : Frame P s0 s) : FrameO P s0 (execDie1TimeSync s) := by
  unfold execDie1TimeSync
  with_reducible apply frameO_next
  with_reducible apply frame_ite
  · with_reducible apply frame_steer (within_trans (by decide) hp)
    with_reducible assumption
  · with_reducible assumption

theorem frame_execHoldoverEntry {P : List Part} {s0 : State} {s : State} (hp : within [.txn, .time] P = true) (h : Frame P s0 s) : FrameO P s0 (execHoldoverEntry s) := by
  unfold execHoldoverEntry
  extract_lets +onlyGivenNames x0
  clear_value x0
  extract_lets +onlyGivenNames x1
  clear_value x1
  with_reducible apply frameO_next
  with_reducible apply frame_ite
  · with_reducible assumption
  · with_reducible apply frame_setIsland (within_trans (by decide) hp)
    refine frame_onTxn [.txn] (within_trans (by decide) hp) (.inr fun _ => rfl) (.inl rfl) ?_
    with_reducible assumption

theorem frame_rootWrite {P : List Part} {s0 : State} {value : Nat} {s : State} (hp : within [.txn, .time, .dict] P = true) (h : Frame P s0 s) : Frame P s0 (rootWrite value s) := by
  unfold rootWrite
  extract_lets +onlyGivenNames x0
  have h0 : Frame P s0 (x0) := by
    unfold x0
    with_reducible apply frame_setObj (within_trans (by decide) hp)
    with_reducible assumption
  clear_value x0
  with_reducible apply frame_ite
  · with_reducible apply frame_setIsland (within_trans (by decide) hp)
    refine frame_onTxn [.txn] (within_trans (by decide) hp) (.inr fun _ => rfl) (.inl rfl) ?_
    with_reducible assumption
  · with_reducible apply frame_ite
    · with_reducible apply frame_setIsland (within_trans (by decide) hp)
      with_reducible assumption
    · with_reducible assumption

theorem frame_execTimeRootWrite {P : List Part} {s0 : State} {r : Req} {value : Nat} {s : State} (hp : within [.txn, .ledger, .mirror, .leaves, .sessions, .time, .rings, .kodp, .running, .dict, .ctrs, .out] P = true) (h : Frame P s0 s) : FrameO P s0 (execTimeRootWrite r value s) := by
  unfold execTimeRootWrite
  with_reducible apply frameO_next
  with_reducible apply frame_operateOk (within_trans (by decide) hp)
  · intro x0 h1
    with_reducible apply frame_rootWrite (within_trans (by decide) hp)
    with_reducible assumption
  · with_reducible assumption

theorem frame_execTimeSet {P : List Part} {s0 : State} {r : Req} {time : Nat} {frac : Nat} {s : State} (hp : within [.ledger, .mirror, .leaves, .sessions, .time, .rings, .kodp, .running, .ctrs, .out] P = true) (h : Frame P s0 s) : FrameO P s0 (execTimeSet r time frac s) := by
  unfold execTimeSet
  with_reducible apply frameO_next
  with_reducible apply frame_operateOk (within_trans (by decide) hp)
  · intro x0 h1
    with_reducible apply frame_stepTo (within_trans (by decide) hp)
    with_reducible assumption
  · with_reducible assumption

theorem frame_execCounterSnapshot {P : List Part} {s0 : State} {r : Req} {t : Nat} {s : State} (hp : within [.ledger, .mirror, .leaves, .sessions, .obs, .kodp, .running, .ctrs, .out] P = true) (h : Frame P s0 s) : FrameO P s0 (execCounterSnapshot r t s) := by
  unfold execCounterSnapshot
  with_reducible apply frameO_next
  with_reducible apply frame_operate (within_trans (by decide) hp)
  · intro x0 h1
    refine frame_onObs [.obs] (within_trans (by decide) hp) (.inr fun _ => rfl) (.inr fun _ => rfl) (.inl rfl) ?_
    with_reducible assumption
  · with_reducible assumption

theorem frame_execSnapshotAtT {P : List Part} {s0 : State} {s : State} (hp : within [.ledger, .mirror, .leaves, .sessions, .obs, .rings, .kodp, .running, .ctrs, .out] P = true) (h : Frame P s0 s) : FrameO P s0 (execSnapshotAtT s) := by
  unfold execSnapshotAtT
  with_reducible apply frameO_next
  split
  · with_reducible assumption
  · with_reducible apply frame_reply (within_trans (by decide) hp)
    refine frame_onObs [.rings, .obs] (within_trans (by decide) hp) (.inr fun _ => rfl) (.inl rfl) (.inl rfl) ?_
    with_reducible assumption

theorem frame_sendExport {P : List Part} {s0 : State} {sink : Nat} {kind : Nat} {bytes : List Byte} {s : State} (hp : within [.ledger, .leaves, .obs] P = true) (h : Frame P s0 s) : Frame P s0 (sendExport sink kind bytes s) := by
  unfold sendExport
  extract_lets +onlyGivenNames x0
  clear_value x0
  with_reducible apply frame_forAll
  · intro x1 x2 h3
    extract_lets +onlyGivenNames x4
    clear_value x4
    extract_lets +onlyGivenNames x5
    clear_value x5
    with_reducible apply frame_sendDebug (within_trans (by decide) hp)
    refine frame_onObs [.obs] (within_trans (by decide) hp) (.inr fun _ => rfl) (.inr fun _ => rfl) (.inl rfl) ?_
    with_reducible assumption
  · with_reducible assumption

theorem frame_execCrumbRead {P : List Part} {s0 : State} {r : Req} {kind : Nat} {unit : Nat} {sink : Option Nat} {s : State} (hp : within [.ledger, .mirror, .leaves, .sessions, .obs, .rings, .kodp, .running, .ctrs, .out] P = true) (h : Frame P s0 s) : FrameO P s0 (execCrumbRead r kind unit sink s) := by
  unfold execCrumbRead
  extract_lets +onlyGivenNames x0
  clear_value x0
  extract_lets +onlyGivenNames x1
  clear_value x1
  with_reducible apply frameO_next
  with_reducible apply frame_operate (within_trans (by decide) hp)
  · intro x2 h3
    split
    · with_reducible apply frame_reply (within_trans (by decide) hp)
      with_reducible assumption
    · with_reducible apply frame_reply (within_trans (by decide) hp)
      with_reducible apply frame_sendExport (within_trans (by decide) hp)
      with_reducible assumption
  · with_reducible assumption

theorem frame_execCrumbRelease {P : List Part} {s0 : State} {r : Req} {kind : Nat} {unit : Nat} {s : State} (hp : within [.ledger, .mirror, .leaves, .sessions, .rings, .kodp, .running, .ctrs, .out] P = true) (h : Frame P s0 s) : FrameO P s0 (execCrumbRelease r kind unit s) := by
  unfold execCrumbRelease
  with_reducible apply frameO_next
  with_reducible apply frame_operateOk (within_trans (by decide) hp)
  · intro x0 h1
    refine frame_onObs [.rings] (within_trans (by decide) hp) (.inr fun _ => rfl) (.inl rfl) (.inr fun _ => rfl) ?_
    with_reducible assumption
  · with_reducible assumption

theorem frame_execCrumbRingUnfreeze {P : List Part} {s0 : State} {kind : Nat} {unit : Nat} {s : State} (hp : within [.rings] P = true) (h : Frame P s0 s) : FrameO P s0 (execCrumbRingUnfreeze kind unit s) := by
  unfold execCrumbRingUnfreeze
  with_reducible apply frameO_next
  refine frame_onObs [.rings] (within_trans (by decide) hp) (.inr fun _ => rfl) (.inl rfl) (.inr fun _ => rfl) ?_
  with_reducible assumption

theorem frame_tensorCheck {P : List Part} {s0 : State} {ctx : Nat} {addr : Nat} {length : Nat} {s : State} (hp : within [.pkg, .txn, .ledger, .part, .dir, .mem, .dram, .deep, .integ, .mirror, .leaves, .power, .sessions, .obs, .rings, .kodp, .ctrs, .out, .free] P = true) (h : Frame P s0 s) : FrameP P s0 (tensorCheck ctx addr length s) := by
  unfold tensorCheck
  extract_lets +onlyGivenNames x0
  clear_value x0
  split
  extract_lets +onlyGivenNames x1
  clear_value x1
  extract_lets +onlyGivenNames x2
  clear_value x2
  with_reducible apply frame_mk
  refine frame_of_fst (by with_reducible assumption) ?_
  with_reducible apply frame_checkSpans (within_trans (by decide) hp)
  with_reducible assumption

theorem frame_execTensorRegister {P : List Part} {s0 : State} {r : Req} {name : List Byte} {ctx : Nat} {addr : Nat} {length : Nat} {format : Nat} {s : State} (hp : within [.pkg, .txn, .ledger, .part, .dir, .mem, .dram, .deep, .integ, .mirror, .leaves, .power, .sessions, .obs, .rings, .kodp, .running, .ctrs, .out, .free] P = true) (h : Frame P s0 s) : FrameO P s0 (execTensorRegister r name ctx addr length format s) := by
  unfold execTensorRegister
  extract_lets +onlyGivenNames x0
  clear_value x0
  extract_lets +onlyGivenNames x1
  clear_value x1
  extract_lets +onlyGivenNames x2
  have h2 : FrameP P s0 (x2) := by
    unfold x2
    with_reducible apply frame_tensorCheck (within_trans (by decide) hp)
    with_reducible assumption
  clear_value x2
  extract_lets +onlyGivenNames x3
  clear_value x3
  extract_lets +onlyGivenNames x4
  clear_value x4
  extract_lets +onlyGivenNames x5
  clear_value x5
  with_reducible apply frameO_next
  with_reducible apply frame_operateOk (within_trans (by decide) hp)
  · intro x6 h7
    with_reducible apply frame_ite
    · with_reducible apply frame_abortDumps (within_trans (by decide) hp)
      refine frame_onObs [.rings, .obs] (within_trans (by decide) hp) (.inr fun _ => rfl) (.inl rfl) (.inl rfl) ?_
      with_reducible assumption
    · split
      refine frame_onObs [.rings, .obs] (within_trans (by decide) hp) (.inr fun _ => rfl) (.inl rfl) (.inl rfl) ?_
      refine frame_of_fst (by with_reducible assumption) ?_
      with_reducible apply frame_tensorCheck (within_trans (by decide) hp)
      with_reducible assumption
  · with_reducible assumption

theorem frame_armDump {P : List Part} {s0 : State} {o : OpObj} {r : Req} {t : Tensor} {sink : Nat} {markPa : Nat} {step : Nat} {bufPa : Nat} {bufLen : Nat} {s : State} (hp : within [.pkg, .ledger, .mem, .dram, .deep, .mirror, .leaves, .power, .sessions, .obs, .rings, .kodp, .running, .ctrs, .out, .free] P = true) (h : Frame P s0 s) : Frame P s0 (armDump o r t sink markPa step bufPa bufLen s) := by
  unfold armDump
  extract_lets +onlyGivenNames x0
  clear_value x0
  extract_lets +onlyGivenNames x1
  clear_value x1
  extract_lets +onlyGivenNames x2
  have h2 : Frame P s0 (x2) := by
    unfold x2
    with_reducible apply frame_forAll
    · intro x3 x4 h5
      with_reducible apply frame_writeOwn (within_trans (by decide) hp)
      with_reducible assumption
    · with_reducible assumption
  clear_value x2
  with_reducible apply frame_reply (within_trans (by decide) hp)
  refine frame_onObs [.rings, .obs] (within_trans (by decide) hp) (.inr fun _ => rfl) (.inl rfl) (.inl rfl) ?_
  with_reducible assumption

theorem frame_execDumpArm {P : List Part} {s0 : State} {r : Req} {name : List Byte} {sink : Nat} {mark : Nat} {step : Nat} {bufPa : Nat} {bufLen : Nat} {s : State} (hp : within [.pkg, .txn, .ledger, .part, .dir, .mem, .dram, .deep, .integ, .mirror, .leaves, .power, .sessions, .obs, .rings, .kodp, .running, .ctrs, .out, .free] P = true) (h : Frame P s0 s) : FrameO P s0 (execDumpArm r name sink mark step bufPa bufLen s) := by
  unfold execDumpArm
  extract_lets +onlyGivenNames x0
  clear_value x0
  extract_lets +onlyGivenNames x1
  clear_value x1
  extract_lets +onlyGivenNames x2
  clear_value x2
  extract_lets +onlyGivenNames x3
  clear_value x3
  split
  · with_reducible apply frameO_next
    with_reducible apply frame_operate (within_trans (by decide) hp)
    · intro x4 h5
      with_reducible apply frame_id
      with_reducible assumption
    · with_reducible assumption
  · split
    · with_reducible apply frameO_next
      with_reducible apply frame_operate (within_trans (by decide) hp)
      · intro x6 h7
        with_reducible apply frame_id
        with_reducible assumption
      · with_reducible assumption
    · extract_lets +onlyGivenNames x8
      clear_value x8
      extract_lets +onlyGivenNames x9
      clear_value x9
      extract_lets +onlyGivenNames x10
      clear_value x10
      extract_lets +onlyGivenNames x11
      clear_value x11
      with_reducible apply frameO_next
      with_reducible apply frame_operate (within_trans (by decide) hp)
      · intro x12 h13
        with_reducible apply frame_ite
        · with_reducible apply frame_armDump (within_trans (by decide) hp)
          with_reducible assumption
        · with_reducible apply frame_reply (within_trans (by decide) hp)
          with_reducible apply frame_missGranule (within_trans (by decide) hp)
          with_reducible assumption
      · with_reducible assumption

theorem frame_execDumpCancel {P : List Part} {s0 : State} {r : Req} {dump : Nat} {s : State} (hp : within [.ledger, .mirror, .leaves, .sessions, .obs, .rings, .kodp, .running, .ctrs, .out] P = true) (h : Frame P s0 s) : FrameO P s0 (execDumpCancel r dump s) := by
  unfold execDumpCancel
  with_reducible apply frameO_next
  with_reducible apply frame_operateOk (within_trans (by decide) hp)
  · intro x0 h1
    with_reducible apply frame_abortDumps (within_trans (by decide) hp)
    with_reducible assumption
  · with_reducible assumption

theorem frame_setDump {P : List Part} {s0 : State} {n : Nat} {f : Dump → Dump} {s : State} (hp : within [.obs] P = true) (h : Frame P s0 s) : Frame P s0 (setDump n f s) := by
  unfold setDump
  refine frame_onObs [.obs] (within_trans (by decide) hp) (.inr fun _ => rfl) (.inr fun _ => rfl) (.inl rfl) ?_
  with_reducible assumption

theorem frame_execDumpCut {P : List Part} {s0 : State} {dump : Nat} {s : State} (hp : within [.pkg, .txn, .ledger, .part, .dir, .mem, .dram, .deep, .integ, .mirror, .leaves, .power, .sessions, .obs, .rings, .kodp, .ctrs, .out, .free] P = true) (h : Frame P s0 s) : FrameO P s0 (execDumpCut dump s) := by
  unfold execDumpCut
  with_reducible apply frameO_ite
  · with_reducible apply frameO_next
    with_reducible assumption
  · with_reducible apply frameO_next
    split
    · with_reducible assumption
    · extract_lets +onlyGivenNames x0
      clear_value x0
      extract_lets +onlyGivenNames x1
      have h1 : Frame P s0 (x1) := by
        unfold x1
        with_reducible apply frame_setDump (within_trans (by decide) hp)
        with_reducible assumption
      clear_value x1
      with_reducible apply frame_forAll
      · intro x2 x3 h4
        with_reducible apply frame_ite
        · with_reducible assumption
        · with_reducible apply frame_startRecall (within_trans (by decide) hp)
          with_reducible assumption
      · with_reducible assumption

theorem frame_dumpTake {P : List Part} {s0 : State} {d : Dump} {a0 : Nat} {a1 : Nat} {s : State} (hp : within [.pkg, .txn, .ledger, .part, .dir, .mem, .dram, .deep, .integ, .mirror, .leaves, .power, .sessions, .obs, .rings, .kodp, .ctrs, .out, .free] P = true) (h : Frame P s0 s) : FrameP P s0 (dumpTake d a0 a1 s) := by
  induction a0 generalizing a1 s with
  | zero =>
    rw [dumpTake]
    with_reducible apply frame_mk
    with_reducible assumption
  | succ a0 ih =>
    rw [dumpTake]
    with_reducible apply frame_ite1
    · beta_reduce
      split
      with_reducible apply frame_mk
      refine frame_of_fst (by with_reducible assumption) ?_
      with_reducible apply ih
      with_reducible assumption
    · split
      · beta_reduce
        split
        with_reducible apply frame_mk
        refine frame_of_fst (by with_reducible assumption) ?_
        with_reducible apply ih
        refine frame_of_fst (by with_reducible assumption) ?_
        with_reducible apply frame_readyLine (within_trans (by decide) hp)
        with_reducible assumption
      · with_reducible apply frame_mk
        refine frame_of_fst (by with_reducible assumption) ?_
        with_reducible apply frame_readyLine (within_trans (by decide) hp)
        with_reducible assumption
      · with_reducible apply frame_mk
        refine frame_of_fst (by with_reducible assumption) ?_
        with_reducible apply frame_readyLine (within_trans (by decide) hp)
        with_reducible assumption
      · with_reducible apply frame_mk
        refine frame_of_fst (by with_reducible assumption) ?_
        with_reducible apply frame_readyLine (within_trans (by decide) hp)
        with_reducible assumption
      · beta_reduce
        split
        with_reducible apply frame_mk
        refine frame_of_fst (by with_reducible assumption) ?_
        with_reducible apply ih
        refine frame_of_fst (by with_reducible assumption) ?_
        with_reducible apply frame_readyLine (within_trans (by decide) hp)
        with_reducible assumption

theorem frame_dumpNext {P : List Part} {s0 : State} {d : Dump} {s : State} (hp : within [.pkg, .txn, .ledger, .part, .dir, .mem, .dram, .deep, .integ, .mirror, .leaves, .power, .sessions, .obs, .rings, .kodp, .ctrs, .out, .free] P = true) (h : Frame P s0 s) : FrameP P s0 (dumpNext d s) := by
  unfold dumpNext
  with_reducible apply frame_dumpTake (within_trans (by decide) hp)
  with_reducible assumption

theorem frame_dumpPacket {P : List Part} {s0 : State} {d : Dump} {l : List (Bool × List Byte)} {s : State} (hp : within [.ledger, .leaves, .sessions, .obs, .rings, .kodp, .ctrs, .out] P = true) (h : Frame P s0 s) : Frame P s0 (dumpPacket d l s) := by
  unfold dumpPacket
  extract_lets +onlyGivenNames x0
  clear_value x0
  extract_lets +onlyGivenNames x1
  have h1 : Frame P s0 (x1) := by
    unfold x1
    with_reducible apply frame_sendDebug (within_trans (by decide) hp)
    with_reducible assumption
  clear_value x1
  extract_lets +onlyGivenNames x2
  clear_value x2
  extract_lets +onlyGivenNames x3
  have h3 : Frame P s0 (x3) := by
    unfold x3
    with_reducible apply frame_setDump (within_trans (by decide) hp)
    with_reducible assumption
  clear_value x3
  with_reducible apply frame_onlyIf
  · intro x4 h5
    with_reducible apply frame_endDump (within_trans (by decide) hp)
    with_reducible assumption
  · with_reducible assumption

theorem frame_dumpSend {P : List Part} {s0 : State} {d : Dump} {s : State} (hp : within [.pkg, .txn, .ledger, .part, .dir, .mem, .dram, .deep, .integ, .mirror, .leaves, .power, .sessions, .obs, .rings, .kodp, .ctrs, .out, .free] P = true) (h : Frame P s0 s) : Frame P s0 (dumpSend d s) := by
  unfold dumpSend
  split
  · refine frame_of_fst (by with_reducible assumption) ?_
    with_reducible apply frame_dumpNext (within_trans (by decide) hp)
    with_reducible assumption
  · extract_lets +onlyGivenNames x0
    have h0 : Frame P s0 (x0) := by
      unfold x0
      with_reducible apply frame_useReturned (within_trans (by decide) hp)
      refine frame_of_fst (by with_reducible assumption) ?_
      with_reducible apply frame_dumpNext (within_trans (by decide) hp)
      with_reducible assumption
    clear_value x0
    split
    · with_reducible assumption
    · with_reducible apply frame_dumpPacket (within_trans (by decide) hp)
      with_reducible assumption

theorem frame_execDumpStreamSend {P : List Part} {s0 : State} {dump : Nat} {s : State} (hp : within [.pkg, .txn, .ledger, .part, .dir, .mem, .dram, .deep, .integ, .mirror, .leaves, .power, .sessions, .obs, .rings, .kodp, .ctrs, .out, .free] P = true) (h : Frame P s0 s) : FrameO P s0 (execDumpStreamSend dump s) := by
  unfold execDumpStreamSend
  with_reducible apply frameO_ite
  · with_reducible apply frameO_next
    with_reducible assumption
  · with_reducible apply frameO_next
    split
    · with_reducible assumption
    · with_reducible apply frame_dumpSend (within_trans (by decide) hp)
      with_reducible assumption

theorem frame_execDebugStop {P : List Part} {s0 : State} {r : Req} {t : Nat} {s : State} (hp : within [.ledger, .mirror, .leaves, .sessions, .obs, .rings, .kodp, .running, .ctrs, .out] P = true) (h : Frame P s0 s) : FrameO P s0 (execDebugStop r t s) := by
  unfold execDebugStop
  with_reducible apply frameO_next
  with_reducible apply frame_operateOk (within_trans (by decide) hp)
  · intro x0 h1
    refine frame_onObs [.rings, .obs] (within_trans (by decide) hp) (.inr fun _ => rfl) (.inl rfl) (.inl rfl) ?_
    with_reducible assumption
  · with_reducible assumption

theorem frame_stopCrumbs {P : List Part} {s0 : State} {event : Nat} {arg : Nat} {s : State} (hp : within [.rings] P = true) (h : Frame P s0 s) : Frame P s0 (stopCrumbs event arg s) := by
  unfold stopCrumbs
  with_reducible apply frame_forAll
  · intro x0 x1 h2
    with_reducible apply frame_crumb (within_trans (by decide) hp)
    with_reducible assumption
  · with_reducible apply frame_forAll
    · intro x3 x4 h5
      with_reducible apply frame_crumb (within_trans (by decide) hp)
      with_reducible assumption
    · with_reducible assumption

theorem frame_execDebugFreeze {P : List Part} {s0 : State} {s : State} (hp : within [.obs, .rings, .free] P = true) (h : Frame P s0 s) : FrameO P s0 (execDebugFreeze s) := by
  unfold execDebugFreeze
  with_reducible apply frameO_next
  with_reducible apply frame_ite
  · with_reducible assumption
  · extract_lets +onlyGivenNames x0
    have h0 : Frame P s0 (x0) := by
      unfold x0
      with_reducible apply frame_stopCrumbs (within_trans (by decide) hp)
      with_reducible assumption
    clear_value x0
    extract_lets +onlyGivenNames x1
    clear_value x1
    extract_lets +onlyGivenNames x2
    clear_value x2
    extract_lets +onlyGivenNames x3
    clear_value x3
    extract_lets +onlyGivenNames x4
    clear_value x4
    with_reducible apply frame_useFrees (within_trans (by decide) hp)
    refine frame_onObs [.rings, .obs] (within_trans (by decide) hp) (.inr fun _ => rfl) (.inl rfl) (.inl rfl) ?_
    with_reducible assumption

theorem frame_execDebugResume {P : List Part} {s0 : State} {r : Req} {t : Nat} {s : State} (hp : within [.ledger, .mirror, .leaves, .sessions, .obs, .rings, .kodp, .running, .ctrs, .out] P = true) (h : Frame P s0 s) : FrameO P s0 (execDebugResume r t s) := by
  unfold execDebugResume
  with_reducible apply frameO_next
  with_reducible apply frame_operateOk (within_trans (by decide) hp)
  · intro x0 h1
    refine frame_onObs [.rings, .obs] (within_trans (by decide) hp) (.inr fun _ => rfl) (.inl rfl) (.inl rfl) ?_
    with_reducible assumption
  · with_reducible assumption

theorem frame_execDebugThaw {P : List Part} {s0 : State} {s : State} (hp : within [.part, .obs, .time, .rings] P = true) (h : Frame P s0 s) : FrameO P s0 (execDebugThaw s) := by
  unfold execDebugThaw
  with_reducible apply frameO_next
  with_reducible apply frame_ite
  · with_reducible assumption
  · extract_lets +onlyGivenNames x0
    clear_value x0
    extract_lets +onlyGivenNames x1
    clear_value x1
    extract_lets +onlyGivenNames x2
    clear_value x2
    extract_lets +onlyGivenNames x3
    have h3 : Frame P s0 (x3) := by
      unfold x3
      refine frame_onObs [.time, .rings, .obs] (within_trans (by decide) hp) (.inl rfl) (.inl rfl) (.inl rfl) ?_
      with_reducible assumption
    clear_value x3
    extract_lets +onlyGivenNames x4
    have h4 : Frame P s0 (x4) := by
      unfold x4
      with_reducible apply frame_onPart (within_trans (by decide) hp)
      with_reducible assumption
    clear_value x4
    with_reducible apply frame_stopCrumbs (within_trans (by decide) hp)
    with_reducible assumption

end Sys2Proof.Machine
end

