-- ==== Sys2Proof/Laws/FrameSecurity.lean ====
section
/-!
SUPPORT. Laws/FrameSecurity.lean: the frame of every operation and command of Machine/Security.lean.
-/
namespace Sys2Proof.Machine

theorem frame_spdm {P : List Part} {s0 : State} {r : Req} {code : Nat} {run : State → State × Nat × List Nat} {s : State} (hp : within [.ledger, .mirror, .leaves, .sessions, .rings, .kodp, .running, .ctrs, .out] P = true) (h_run : (∀ x0, Frame P s0 x0 → FrameP P s0 (run x0))) (h : Frame P s0 s) : FrameO P s0 (spdm r code run s) := by
  unfold spdm
  with_reducible apply frameO_next
  with_reducible apply frame_operate (within_trans (by decide) hp)
  · intro x0 h1
    split
    with_reducible apply frame_reply (within_trans (by decide) hp)
    with_reducible apply frame_emit (within_trans (by decide) hp)
    refine frame_of_fst (by with_reducible assumption) ?_
    with_reducible apply h_run
    with_reducible assumption
  · with_reducible assumption

theorem frame_spdmSet {P : List Part} {s0 : State} {r : Req} {n : Nat} {s : State} (hp : within [.sec] P = true) (h : Frame P s0 s) : Frame P s0 (spdmSet r n s) := by
  unfold spdmSet
  refine frame_onSec [.sec] (within_trans (by decide) hp) (.inr fun _ => rfl) (.inl rfl) ?_
  with_reducible assumption

theorem frame_sessionRefused {P : List Part} {s0 : State} {r : Req} {reason : Nat} {s : State} (hp : within [.ledger, .leaves, .sessions, .rings, .kodp, .ctrs, .out] P = true) (h : Frame P s0 s) : Frame P s0 (sessionRefused r reason s) := by
  unfold sessionRefused
  with_reducible apply frame_bump (within_trans (by decide) hp)
  with_reducible apply frame_notify (within_trans (by decide) hp)
  with_reducible assumption

theorem frame_execGetVersion {P : List Part} {s0 : State} {r : Req} {s : State} (hp : within [.ledger, .mirror, .leaves, .sec, .sessions, .rings, .kodp, .running, .ctrs, .out] P = true) (h : Frame P s0 s) : FrameO P s0 (execGetVersion r s) := by
  unfold execGetVersion
  with_reducible apply frame_spdm (within_trans (by decide) hp)
  · intro x0 h1
    with_reducible apply frame_mk
    with_reducible apply frame_spdmSet (within_trans (by decide) hp)
    with_reducible assumption
  · with_reducible assumption

theorem frame_execGetCapabilities {P : List Part} {s0 : State} {r : Req} {flags : Nat} {s : State} (hp : within [.ledger, .mirror, .leaves, .sec, .sessions, .rings, .kodp, .running, .ctrs, .out] P = true) (h : Frame P s0 s) : FrameO P s0 (execGetCapabilities r flags s) := by
  unfold execGetCapabilities
  with_reducible apply frame_spdm (within_trans (by decide) hp)
  · intro x0 h1
    with_reducible apply frame_ite1
    · with_reducible apply frame_mk
      with_reducible assumption
    · with_reducible apply frame_mk
      with_reducible apply frame_spdmSet (within_trans (by decide) hp)
      with_reducible assumption
  · with_reducible assumption

theorem frame_execNegotiateAlgorithms {P : List Part} {s0 : State} {r : Req} {offered : Nat} {s : State} (hp : within [.ledger, .mirror, .leaves, .sec, .sessions, .rings, .kodp, .running, .ctrs, .out] P = true) (h : Frame P s0 s) : FrameO P s0 (execNegotiateAlgorithms r offered s) := by
  unfold execNegotiateAlgorithms
  with_reducible apply frame_spdm (within_trans (by decide) hp)
  · intro x0 h1
    with_reducible apply frame_ite1
    · with_reducible apply frame_mk
      with_reducible assumption
    · with_reducible apply frame_ite1
      · with_reducible apply frame_mk
        with_reducible apply frame_sessionRefused (within_trans (by decide) hp)
        with_reducible assumption
      · with_reducible apply frame_mk
        with_reducible apply frame_spdmSet (within_trans (by decide) hp)
        with_reducible assumption
  · with_reducible assumption

theorem frame_execGetDigests {P : List Part} {s0 : State} {r : Req} {s : State} (hp : within [.ledger, .mirror, .leaves, .sessions, .rings, .kodp, .running, .ctrs, .out] P = true) (h : Frame P s0 s) : FrameO P s0 (execGetDigests r s) := by
  unfold execGetDigests
  with_reducible apply frame_spdm (within_trans (by decide) hp)
  · intro x0 h1
    with_reducible apply frame_ite1
    · with_reducible apply frame_mk
      with_reducible assumption
    · with_reducible apply frame_mk
      with_reducible assumption
  · with_reducible assumption

theorem frame_execGetCertificate {P : List Part} {s0 : State} {r : Req} {slot : Nat} {offset : Nat} {length : Nat} {s : State} (hp : within [.ledger, .mirror, .leaves, .sessions, .rings, .kodp, .running, .ctrs, .out] P = true) (h : Frame P s0 s) : FrameO P s0 (execGetCertificate r slot offset length s) := by
  unfold execGetCertificate
  with_reducible apply frame_spdm (within_trans (by decide) hp)
  · intro x0 h1
    with_reducible apply frame_ite1
    · with_reducible apply frame_mk
      with_reducible assumption
    · with_reducible apply frame_ite1
      · with_reducible apply frame_mk
        with_reducible assumption
      · with_reducible apply frame_mk
        with_reducible assumption
  · with_reducible assumption

theorem frame_execChallenge {P : List Part} {s0 : State} {r : Req} {slot : Nat} {nonce : Nat} {s : State} (hp : within [.ledger, .mirror, .leaves, .sessions, .rings, .kodp, .running, .ctrs, .out] P = true) (h : Frame P s0 s) : FrameO P s0 (execChallenge r slot nonce s) := by
  unfold execChallenge
  with_reducible apply frame_spdm (within_trans (by decide) hp)
  · intro x0 h1
    with_reducible apply frame_ite1
    · with_reducible apply frame_mk
      with_reducible assumption
    · with_reducible apply frame_ite1
      · with_reducible apply frame_mk
        with_reducible assumption
      · with_reducible apply frame_mk
        with_reducible assumption
  · with_reducible assumption

theorem frame_execGetMeasurements {P : List Part} {s0 : State} {r : Req} {index : Nat} {nonce : Nat} {s : State} (hp : within [.ledger, .mirror, .leaves, .sessions, .rings, .kodp, .running, .ctrs, .out] P = true) (h : Frame P s0 s) : FrameO P s0 (execGetMeasurements r index nonce s) := by
  unfold execGetMeasurements
  with_reducible apply frame_spdm (within_trans (by decide) hp)
  · intro x0 h1
    with_reducible apply frame_ite1
    · with_reducible apply frame_mk
      with_reducible assumption
    · with_reducible apply frame_ite1
      · with_reducible apply frame_mk
        with_reducible assumption
      · extract_lets +onlyGivenNames x2
        clear_value x2
        with_reducible apply frame_mk
        with_reducible assumption
  · with_reducible assumption

theorem frame_execKeyExchange {P : List Part} {s0 : State} {r : Req} {exchange : Nat} {nonce : Nat} {s : State} (hp : within [.ledger, .mirror, .leaves, .sec, .sessions, .rings, .kodp, .running, .ctrs, .out] P = true) (h : Frame P s0 s) : FrameO P s0 (execKeyExchange r exchange nonce s) := by
  unfold execKeyExchange
  with_reducible apply frame_spdm (within_trans (by decide) hp)
  · intro x0 h1
    with_reducible apply frame_ite1
    · with_reducible apply frame_mk
      with_reducible assumption
    · with_reducible apply frame_ite1
      · with_reducible apply frame_mk
        with_reducible apply frame_sessionRefused (within_trans (by decide) hp)
        with_reducible assumption
      · extract_lets +onlyGivenNames x2
        clear_value x2
        extract_lets +onlyGivenNames x3
        clear_value x3
        with_reducible apply frame_mk
        refine frame_onSec [.sessions, .sec] (within_trans (by decide) hp) (.inl rfl) (.inl rfl) ?_
        with_reducible assumption
  · with_reducible assumption

theorem frame_execFinish {P : List Part} {s0 : State} {r : Req} {session : Nat} {sig : Nat} {signer : Option Nat} {s : State} (hp : within [.ledger, .mirror, .leaves, .sessions, .rings, .kodp, .running, .ctrs, .out] P = true) (h : Frame P s0 s) : FrameO P s0 (execFinish r session sig signer s) := by
  unfold execFinish
  with_reducible apply frame_spdm (within_trans (by decide) hp)
  · intro x0 h1
    split
    · with_reducible apply frame_ite1
      · with_reducible apply frame_mk
        with_reducible assumption
      · extract_lets +onlyGivenNames x2
        have h2 : ∀ y0, Frame P s0 y0 → Frame P s0 (x2 y0) := by
          intro x3 h4
          unfold x2
          refine frame_onSec [.sessions] (within_trans (by decide) hp) (.inl rfl) (.inr fun _ => rfl) ?_
          with_reducible assumption
        clear_value x2
        split
        · with_reducible apply frame_mk
          with_reducible apply frame_bump (within_trans (by decide) hp)
          refine frame_onSec [.sessions] (within_trans (by decide) hp) (.inl rfl) (.inr fun _ => rfl) ?_
          with_reducible assumption
        · split
          with_reducible apply frame_ite1
          · with_reducible apply frame_mk
            with_reducible apply h2
            with_reducible apply frame_sessionRefused (within_trans (by decide) hp)
            with_reducible assumption
          · with_reducible apply frame_ite1
            · with_reducible apply frame_mk
              with_reducible apply h2
              with_reducible apply frame_sessionRefused (within_trans (by decide) hp)
              with_reducible assumption
            · extract_lets +onlyGivenNames x5
              clear_value x5
              with_reducible apply frame_mk
              with_reducible apply frame_bump (within_trans (by decide) hp)
              refine frame_onSec [.sessions] (within_trans (by decide) hp) (.inl rfl) (.inr fun _ => rfl) ?_
              with_reducible assumption
    · with_reducible apply frame_mk
      with_reducible assumption
  · with_reducible assumption

theorem frame_inSession {P : List Part} {s0 : State} {r : Req} {code : Nat} {session : Nat} {run : Session → State → State × Nat × List Nat} {s : State} (hp : within [.ledger, .mirror, .leaves, .sessions, .rings, .kodp, .running, .ctrs, .out] P = true) (h_run : (∀ x0, ∀ x1, Frame P s0 x1 → FrameP P s0 (run x0 x1))) (h : Frame P s0 s) : FrameO P s0 (inSession r code session run s) := by
  unfold inSession
  with_reducible apply frame_spdm (within_trans (by decide) hp)
  · intro x0 h1
    split
    · with_reducible apply frame_ite1
      · with_reducible apply h_run
        with_reducible assumption
      · with_reducible apply frame_mk
        with_reducible assumption
    · with_reducible apply frame_mk
      with_reducible assumption
  · with_reducible assumption

theorem frame_execSpdmHeartbeat {P : List Part} {s0 : State} {r : Req} {session : Nat} {s : State} (hp : within [.ledger, .mirror, .leaves, .sessions, .rings, .kodp, .running, .ctrs, .out] P = true) (h : Frame P s0 s) : FrameO P s0 (execSpdmHeartbeat r session s) := by
  unfold execSpdmHeartbeat
  with_reducible apply frame_inSession (within_trans (by decide) hp)
  · intro x0 x1 h2
    with_reducible apply frame_mk
    refine frame_onSec [.sessions] (within_trans (by decide) hp) (.inl rfl) (.inr fun _ => rfl) ?_
    with_reducible assumption
  · with_reducible assumption

theorem frame_execKeyUpdate {P : List Part} {s0 : State} {r : Req} {session : Nat} {s : State} (hp : within [.ledger, .mirror, .leaves, .sessions, .rings, .kodp, .running, .ctrs, .out] P = true) (h : Frame P s0 s) : FrameO P s0 (execKeyUpdate r session s) := by
  unfold execKeyUpdate
  with_reducible apply frame_inSession (within_trans (by decide) hp)
  · intro x0 x1 h2
    with_reducible apply frame_mk
    refine frame_onSec [.sessions] (within_trans (by decide) hp) (.inl rfl) (.inr fun _ => rfl) ?_
    with_reducible assumption
  · with_reducible assumption

theorem frame_endOne {P : List Part} {s0 : State} {session : Nat} {s : State} (hp : within [.sessions, .kodp] P = true) (h : Frame P s0 s) : Frame P s0 (endOne session s) := by
  unfold endOne
  extract_lets +onlyGivenNames x0
  have h0 : Frame P s0 (x0) := by
    unfold x0
    refine frame_onSec [.sessions] (within_trans (by decide) hp) (.inl rfl) (.inr fun _ => rfl) ?_
    with_reducible assumption
  clear_value x0
  refine frame_onKodp [.kodp] (within_trans (by decide) hp) (.inr fun _ => rfl) (.inr fun _ => rfl) (.inl rfl) ?_
  with_reducible assumption

theorem frame_execEndSession {P : List Part} {s0 : State} {r : Req} {session : Nat} {s : State} (hp : within [.ledger, .mirror, .leaves, .sessions, .rings, .kodp, .running, .ctrs, .out] P = true) (h : Frame P s0 s) : FrameO P s0 (execEndSession r session s) := by
  unfold execEndSession
  with_reducible apply frame_inSession (within_trans (by decide) hp)
  · intro x0 x1 h2
    with_reducible apply frame_mk
    with_reducible apply frame_endOne (within_trans (by decide) hp)
    with_reducible assumption
  · with_reducible assumption

theorem frame_execSpdmHeartbeatTimeout {P : List Part} {s0 : State} {session : Nat} {s : State} (hp : within [.sessions, .kodp] P = true) (h : Frame P s0 s) : FrameO P s0 (execSpdmHeartbeatTimeout session s) := by
  unfold execSpdmHeartbeatTimeout
  with_reducible apply frameO_next
  with_reducible apply frame_endOne (within_trans (by decide) hp)
  with_reducible assumption

theorem frame_execTenantCreate {P : List Part} {s0 : State} {r : Req} {tenant : Nat} {key : Nat} {s : State} (hp : within [.ledger, .mirror, .leaves, .sec, .sessions, .rings, .kodp, .running, .ctrs, .out] P = true) (h : Frame P s0 s) : FrameO P s0 (execTenantCreate r tenant key s) := by
  unfold execTenantCreate
  with_reducible apply frameO_next
  with_reducible apply frame_operateOk (within_trans (by decide) hp)
  · intro x0 h1
    refine frame_onSec [.sessions, .sec] (within_trans (by decide) hp) (.inl rfl) (.inl rfl) ?_
    with_reducible assumption
  · with_reducible assumption

theorem frame_execTenantRetire {P : List Part} {s0 : State} {r : Req} {tenant : Nat} {s : State} (hp : within [.pkg, .ledger, .mem, .dram, .mirror, .leaves, .power, .sec, .sessions, .rings, .kodp, .running, .ctrs, .out, .free] P = true) (h : Frame P s0 s) : FrameO P s0 (execTenantRetire r tenant s) := by
  unfold execTenantRetire
  with_reducible apply frameO_next
  with_reducible apply frame_operateOk (within_trans (by decide) hp)
  · intro x0 h1
    extract_lets +onlyGivenNames x2
    clear_value x2
    extract_lets +onlyGivenNames x3
    have h3 : ∀ y0, ∀ y1, ∀ y2, Frame P s0 y2 → Frame P s0 (x3 y0 y1 y2) := by
      intro x4 x5 x6 h7
      unfold x3
      with_reducible apply frame_onlyIf
      · intro x8 h9
        with_reducible apply frame_mirrorOp (within_trans (by decide) hp)
        with_reducible assumption
      · with_reducible assumption
    clear_value x3
    extract_lets +onlyGivenNames x10
    have h10 : Frame P s0 (x10) := by
      unfold x10
      with_reducible apply frame_forAll
      · intro x11 x12 h13
        with_reducible apply h3
        with_reducible assumption
      · with_reducible assumption
    clear_value x10
    extract_lets +onlyGivenNames x14
    have h14 : Frame P s0 (x14) := by
      unfold x14
      with_reducible apply frame_forAll
      · intro x15 x16 h17
        with_reducible apply h3
        with_reducible assumption
      · with_reducible assumption
    clear_value x14
    with_reducible apply frame_notify (within_trans (by decide) hp)
    with_reducible apply frame_retireTenant (within_trans (by decide) hp)
    with_reducible assumption
  · with_reducible assumption

theorem frame_execTenantSeal {P : List Part} {s0 : State} {r : Req} {s : State} (hp : within [.ledger, .mirror, .leaves, .sec, .sessions, .rings, .kodp, .running, .ctrs, .out] P = true) (h : Frame P s0 s) : FrameO P s0 (execTenantSeal r s) := by
  unfold execTenantSeal
  with_reducible apply frameO_next
  with_reducible apply frame_operateOk (within_trans (by decide) hp)
  · intro x0 h1
    with_reducible apply frame_setTenant (within_trans (by decide) hp)
    with_reducible assumption
  · with_reducible assumption

theorem frame_keyCommand {P : List Part} {s0 : State} {sub : Nat} {r : Req} {tenant : Nat} {arg : List Byte} {first : Nat} {v : Verdict} {eff : State → State} {s : State} (hp : within [.ledger, .mirror, .leaves, .sessions, .rings, .kodp, .running, .ctrs, .out] P = true) (h_eff : (∀ x0, Frame P s0 x0 → Frame P s0 (eff x0))) (h : Frame P s0 s) : FrameO P s0 (keyCommand sub r tenant arg first v eff s) := by
  unfold keyCommand
  extract_lets +onlyGivenNames x0
  clear_value x0
  extract_lets +onlyGivenNames x1
  clear_value x1
  with_reducible apply frameO_next
  with_reducible apply frame_operate (within_trans (by decide) hp)
  · intro x2 h3
    with_reducible apply frame_reply (within_trans (by decide) hp)
    with_reducible apply frame_onlyIf
    · intro x4 h5
      with_reducible apply frame_copyToPeer (within_trans (by decide) hp)
      with_reducible assumption
    · with_reducible apply h_eff
      with_reducible assumption
  · with_reducible assumption

theorem frame_withTenant {P : List Part} {s0 : State} {tenant : Nat} {f : Tenant → Tenant} {s : State} (hp : within [.sec] P = true) (h : Frame P s0 s) : Frame P s0 (withTenant tenant f s) := by
  unfold withTenant
  extract_lets +onlyGivenNames x0
  clear_value x0
  refine frame_onSec [.sec] (within_trans (by decide) hp) (.inr fun _ => rfl) (.inl rfl) ?_
  with_reducible assumption

theorem frame_execMemKeySet {P : List Part} {s0 : State} {r : Req} {peerTenant : Nat} {keyId : Nat} {key : Nat} {s : State} (hp : within [.ledger, .mirror, .leaves, .sec, .sessions, .rings, .kodp, .running, .ctrs, .out] P = true) (h : Frame P s0 s) : FrameO P s0 (execMemKeySet r peerTenant keyId key s) := by
  unfold execMemKeySet
  extract_lets +onlyGivenNames x0
  clear_value x0
  extract_lets +onlyGivenNames x1
  clear_value x1
  extract_lets +onlyGivenNames x2
  clear_value x2
  extract_lets +onlyGivenNames x3
  clear_value x3
  with_reducible apply frame_keyCommand (within_trans (by decide) hp)
  · intro x4 h5
    with_reducible apply frame_ite
    · refine frame_onSec [.sessions, .sec] (within_trans (by decide) hp) (.inl rfl) (.inl rfl) ?_
      with_reducible assumption
    · with_reducible apply frame_withTenant (within_trans (by decide) hp)
      with_reducible assumption
  · with_reducible assumption

theorem frame_execMemKeyDestroy {P : List Part} {s0 : State} {r : Req} {peerTenant : Nat} {keyId : Nat} {s : State} (hp : within [.pkg, .ledger, .mem, .dram, .mirror, .leaves, .power, .sec, .sessions, .rings, .kodp, .running, .ctrs, .out, .free] P = true) (h : Frame P s0 s) : FrameO P s0 (execMemKeyDestroy r peerTenant keyId s) := by
  unfold execMemKeyDestroy
  extract_lets +onlyGivenNames x0
  clear_value x0
  with_reducible apply frame_keyCommand (within_trans (by decide) hp)
  · intro x1 h2
    with_reducible apply frame_destroyMemKey (within_trans (by decide) hp)
    with_reducible assumption
  · with_reducible assumption

theorem frame_execJobKeySet {P : List Part} {s0 : State} {r : Req} {peerTenant : Nat} {job : Nat} {gen : Nat} {key : Nat} {switchAt : Nat} {s : State} (hp : within [.ledger, .mirror, .leaves, .sec, .sessions, .rings, .kodp, .running, .ctrs, .out] P = true) (h : Frame P s0 s) : FrameO P s0 (execJobKeySet r peerTenant job gen key switchAt s) := by
  unfold execJobKeySet
  extract_lets +onlyGivenNames x0
  clear_value x0
  extract_lets +onlyGivenNames x1
  clear_value x1
  extract_lets +onlyGivenNames x2
  clear_value x2
  extract_lets +onlyGivenNames x3
  clear_value x3
  extract_lets +onlyGivenNames x4
  clear_value x4
  with_reducible apply frame_keyCommand (within_trans (by decide) hp)
  · intro x5 h6
    split
    · with_reducible apply frame_setJob (within_trans (by decide) hp)
      with_reducible assumption
    · extract_lets +onlyGivenNames x7
      clear_value x7
      refine frame_onSec [.sessions, .sec] (within_trans (by decide) hp) (.inl rfl) (.inl rfl) ?_
      with_reducible assumption
  · with_reducible assumption

theorem frame_execJobBind {P : List Part} {s0 : State} {r : Req} {peerTenant : Nat} {job : Nat} {eids : List Nat} {s : State} (hp : within [.ledger, .mirror, .leaves, .sec, .sessions, .rings, .kodp, .running, .ctrs, .out] P = true) (h : Frame P s0 s) : FrameO P s0 (execJobBind r peerTenant job eids s) := by
  unfold execJobBind
  extract_lets +onlyGivenNames x0
  clear_value x0
  extract_lets +onlyGivenNames x1
  clear_value x1
  with_reducible apply frame_keyCommand (within_trans (by decide) hp)
  · intro x2 h3
    with_reducible apply frame_setJob (within_trans (by decide) hp)
    with_reducible assumption
  · with_reducible assumption

theorem frame_execJobKeyDestroy {P : List Part} {s0 : State} {r : Req} {peerTenant : Nat} {job : Nat} {eid : Nat} {s : State} (hp : within [.ledger, .mirror, .leaves, .sec, .sessions, .rings, .kodp, .running, .ctrs, .out] P = true) (h : Frame P s0 s) : FrameO P s0 (execJobKeyDestroy r peerTenant job eid s) := by
  unfold execJobKeyDestroy
  extract_lets +onlyGivenNames x0
  clear_value x0
  extract_lets +onlyGivenNames x1
  clear_value x1
  with_reducible apply frame_keyCommand (within_trans (by decide) hp)
  · intro x2 h3
    with_reducible apply frame_ite
    · with_reducible apply frame_dropJob (within_trans (by decide) hp)
      with_reducible assumption
    · refine frame_onSec [.sessions, .sec] (within_trans (by decide) hp) (.inl rfl) (.inl rfl) ?_
      with_reducible apply frame_setJob (within_trans (by decide) hp)
      with_reducible assumption
  · with_reducible assumption

theorem frame_execKernelSignKeySet {P : List Part} {s0 : State} {r : Req} {peerTenant : Nat} {keyId : Nat} {key : Nat} {s : State} (hp : within [.ledger, .mirror, .leaves, .sec, .sessions, .rings, .kodp, .running, .ctrs, .out] P = true) (h : Frame P s0 s) : FrameO P s0 (execKernelSignKeySet r peerTenant keyId key s) := by
  unfold execKernelSignKeySet
  extract_lets +onlyGivenNames x0
  clear_value x0
  with_reducible apply frame_keyCommand (within_trans (by decide) hp)
  · intro x1 h2
    with_reducible apply frame_withTenant (within_trans (by decide) hp)
    with_reducible assumption
  · with_reducible assumption

theorem frame_execJobKeySwitch {P : List Part} {s0 : State} {job : Nat} {s : State} (hp : within [.sec] P = true) (h : Frame P s0 s) : FrameO P s0 (execJobKeySwitch job s) := by
  unfold execJobKeySwitch
  with_reducible apply frameO_next
  split
  · split
    · refine frame_onSec [.sec] (within_trans (by decide) hp) (.inr fun _ => rfl) (.inl rfl) ?_
      with_reducible apply frame_setJob (within_trans (by decide) hp)
      with_reducible assumption
    · with_reducible assumption
  · with_reducible assumption

theorem frame_execJobKeyRetireOld {P : List Part} {s0 : State} {job : Nat} {s : State} (hp : within [.sec] P = true) (h : Frame P s0 s) : FrameO P s0 (execJobKeyRetireOld job s) := by
  unfold execJobKeyRetireOld
  with_reducible apply frameO_next
  split
  · refine frame_onSec [.sec] (within_trans (by decide) hp) (.inr fun _ => rfl) (.inl rfl) ?_
    with_reducible apply frame_setJob (within_trans (by decide) hp)
    with_reducible assumption
  · with_reducible assumption

theorem frame_execDebugChallenge {P : List Part} {s0 : State} {r : Req} {s : State} (hp : within [.ledger, .mirror, .leaves, .sec, .sessions, .rings, .kodp, .running, .ctrs, .out, .free] P = true) (h : Frame P s0 s) : FrameO P s0 (execDebugChallenge r s) := by
  unfold execDebugChallenge
  extract_lets +onlyGivenNames x0
  clear_value x0
  with_reducible apply frameO_next
  with_reducible apply frame_operate (within_trans (by decide) hp)
  · intro x1 h2
    extract_lets +onlyGivenNames x3
    clear_value x3
    with_reducible apply frame_reply (within_trans (by decide) hp)
    refine frame_onSec [.sessions, .sec] (within_trans (by decide) hp) (.inl rfl) (.inl rfl) ?_
    with_reducible apply frame_useFree (within_trans (by decide) hp)
    with_reducible assumption
  · with_reducible assumption

theorem frame_voidChallenge {P : List Part} {s0 : State} {b : List Byte} {s : State} (hp : within [.sec] P = true) (h : Frame P s0 s) : Frame P s0 (voidChallenge b s) := by
  unfold voidChallenge
  refine frame_onSec [.sec] (within_trans (by decide) hp) (.inr fun _ => rfl) (.inl rfl) ?_
  with_reducible assumption

theorem frame_execDebugToken {P : List Part} {s0 : State} {r : Req} {token : List Byte} {s : State} (hp : within [.pkg, .link, .txn, .ledger, .dir, .mem, .recp, .core, .twin, .mirror, .traffic, .leaves, .power, .sec, .sessions, .boot, .rings, .kodp, .running, .ctrs, .out] P = true) (h : Frame P s0 s) : FrameO P s0 (execDebugToken r token s) := by
  unfold execDebugToken
  extract_lets +onlyGivenNames x0
  clear_value x0
  extract_lets +onlyGivenNames x1
  clear_value x1
  extract_lets +onlyGivenNames x2
  clear_value x2
  with_reducible apply frameO_next
  with_reducible apply frame_operate (within_trans (by decide) hp)
  · intro x3 h4
    split
    · with_reducible apply frame_reply (within_trans (by decide) hp)
      with_reducible apply frame_endDebugHold (within_trans (by decide) hp)
      with_reducible apply frame_takeToken (within_trans (by decide) hp)
      with_reducible apply frame_bump (within_trans (by decide) hp)
      with_reducible apply frame_voidChallenge (within_trans (by decide) hp)
      with_reducible assumption
    · with_reducible apply frame_reply (within_trans (by decide) hp)
      with_reducible apply frame_bump (within_trans (by decide) hp)
      with_reducible apply frame_onlyIf
      · intro x5 h6
        with_reducible apply frame_voidChallenge (within_trans (by decide) hp)
        with_reducible assumption
      · with_reducible assumption
  · with_reducible assumption

theorem frame_execDebugWithdraw {P : List Part} {s0 : State} {r : Req} {s : State} (hp : within [.pkg, .ledger, .mirror, .leaves, .sec, .sessions, .obs, .rings, .kodp, .running, .ctrs, .out] P = true) (h : Frame P s0 s) : FrameO P s0 (execDebugWithdraw r s) := by
  unfold execDebugWithdraw
  with_reducible apply frameO_next
  with_reducible apply frame_operateOk (within_trans (by decide) hp)
  · intro x0 h1
    with_reducible apply frame_endToken (within_trans (by decide) hp)
    with_reducible assumption
  · with_reducible assumption

theorem frame_execDebugKeySet {P : List Part} {s0 : State} {r : Req} {key : Nat} {s : State} (hp : within [.ledger, .mirror, .leaves, .sec, .sessions, .rings, .kodp, .running, .ctrs, .out] P = true) (h : Frame P s0 s) : FrameO P s0 (execDebugKeySet r key s) := by
  unfold execDebugKeySet
  with_reducible apply frameO_next
  with_reducible apply frame_operateOk (within_trans (by decide) hp)
  · intro x0 h1
    refine frame_onSec [.sessions, .sec] (within_trans (by decide) hp) (.inl rfl) (.inl rfl) ?_
    with_reducible assumption
  · with_reducible assumption

theorem frame_execDebugTokenExpiry {P : List Part} {s0 : State} {s : State} (hp : within [.pkg, .sec, .sessions, .obs, .kodp] P = true) (h : Frame P s0 s) : FrameO P s0 (execDebugTokenExpiry s) := by
  unfold execDebugTokenExpiry
  with_reducible apply frameO_next
  with_reducible apply frame_endToken (within_trans (by decide) hp)
  with_reducible assumption

end Sys2Proof.Machine
end

