-- ==== Sys2Proof/Laws/FrameTwin.lean ====
section
/-!
SUPPORT. Laws/FrameTwin.lean: the frame of every operation and command of Machine/Twin.lean.
-/
namespace Sys2Proof.Machine

theorem frame_onTwinTimer {P : List Part} {s0 : State} {c : State → Bool} {f : State → State} {s : State} (hp : within [] P = true) (h_f : (∀ x0, Frame P s0 x0 → Frame P s0 (f x0))) (h : Frame P s0 s) : Frame P s0 (onTwinTimer c f s) := by
  unfold onTwinTimer
  with_reducible apply frame_ite
  · with_reducible apply h_f
    with_reducible assumption
  · with_reducible assumption

theorem frame_arriveTwin {P : List Part} {s0 : State} {op : Nat} {port : Nat} {p : Packet} {go : Packet → State → State} {s : State} (hp : within [.leaves, .ctrs] P = true) (h_go : (∀ x0, ∀ x1, Frame P s0 x1 → Frame P s0 (go x0 x1))) (h : Frame P s0 s) : Frame P s0 (arriveTwin op port p go s) := by
  unfold arriveTwin
  with_reducible apply frame_ite
  · with_reducible assumption
  · with_reducible apply frame_arriveLink (within_trans (by decide) hp)
    · intro x0 x1 h2
      with_reducible apply frame_ite
      · with_reducible apply frame_twinIgnore (within_trans (by decide) hp)
        with_reducible assumption
      · with_reducible apply frame_ite
        · with_reducible apply frame_twinIgnore (within_trans (by decide) hp)
          with_reducible assumption
        · with_reducible apply h_go
          with_reducible assumption
    · with_reducible assumption

theorem frame_epochKeys {P : List Part} {s0 : State} {e : Nat} {s : State} (hp : within [.sec] P = true) (h : Frame P s0 s) : Frame P s0 (epochKeys e s) := by
  unfold epochKeys
  refine frame_onSec [.sec] (within_trans (by decide) hp) (.inr fun _ => rfl) (.inl rfl) ?_
  with_reducible assumption

theorem frame_execAnnounce {P : List Part} {s0 : State} {port : Nat} {p : Packet} {s : State} (hp : within [.pkg, .txn, .ledger, .part, .dir, .mem, .deep, .recp, .core, .twin, .mirror, .traffic, .leaves, .power, .sec, .sessions, .obs, .rings, .kodp, .running, .ctrs, .out, .free] P = true) (h : Frame P s0 s) : FrameO P s0 (execAnnounce port p s) := by
  unfold execAnnounce
  with_reducible apply frameO_next
  with_reducible apply frame_ite
  · with_reducible assumption
  · with_reducible apply frame_arriveFabric (within_trans (by decide) hp)
    · intro x0 x1 h2
      extract_lets +onlyGivenNames x3
      clear_value x3
      extract_lets +onlyGivenNames x4
      clear_value x4
      with_reducible apply frame_ite
      · with_reducible apply frame_epochKeys (within_trans (by decide) hp)
        with_reducible apply frame_higherEpoch (within_trans (by decide) hp)
        with_reducible assumption
      · with_reducible apply frame_bump (within_trans (by decide) hp)
        with_reducible assumption
    · with_reducible assumption

theorem frame_refuseHello {P : List Part} {s0 : State} {p : Packet} {h1 : Peer} {reason : Nat} {s : State} (hp : within [.ledger, .twin, .leaves, .sessions, .rings, .kodp, .ctrs, .out, .free] P = true) (h : Frame P s0 s) : Frame P s0 (refuseHello p h1 reason s) := by
  unfold refuseHello
  extract_lets +onlyGivenNames x0
  have h0 : Frame P s0 (x0) := by
    unfold x0
    with_reducible apply frame_onlyIf
    · intro x1 h2
      with_reducible apply frame_sendHelloAs (within_trans (by decide) hp)
      with_reducible assumption
    · with_reducible assumption
  clear_value x0
  with_reducible apply frame_ite
  · with_reducible apply frame_twinIgnore (within_trans (by decide) hp)
    with_reducible assumption
  · with_reducible apply frame_ite
    · with_reducible assumption
    · with_reducible apply frame_notify (within_trans (by decide) hp)
      refine frame_onTwin [.twin] (within_trans (by decide) hp) (.inr fun _ => rfl) (.inl rfl) ?_
      with_reducible assumption

theorem frame_enrolled {P : List Part} {s0 : State} {h1 : Peer} {role : Nat} {s : State} (hp : within [.ledger, .twin, .leaves, .sessions, .rings, .kodp, .ctrs, .out] P = true) (h : Frame P s0 s) : Frame P s0 (enrolled h1 role s) := by
  unfold enrolled
  extract_lets +onlyGivenNames x0
  have h0 : Frame P s0 (x0) := by
    unfold x0
    refine frame_onTwin [.twin] (within_trans (by decide) hp) (.inr fun _ => rfl) (.inl rfl) ?_
    with_reducible assumption
  clear_value x0
  with_reducible apply frame_notify (within_trans (by decide) hp)
  with_reducible assumption

theorem frame_becomeStandby {P : List Part} {s0 : State} {h1 : Peer} {s : State} (hp : within [.txn, .ledger, .part, .dir, .deep, .recp, .twin, .mirror, .leaves, .sessions, .rings, .kodp, .running, .ctrs, .out] P = true) (h : Frame P s0 s) : Frame P s0 (becomeStandby h1 s) := by
  unfold becomeStandby
  with_reducible apply frame_enrolled (within_trans (by decide) hp)
  with_reducible apply frame_startSyncing (within_trans (by decide) hp)
  with_reducible assumption

theorem frame_agreeEnrolling {P : List Part} {s0 : State} {h1 : Peer} {s : State} (hp : within [.txn, .ledger, .part, .dir, .deep, .recp, .twin, .mirror, .leaves, .sessions, .rings, .kodp, .running, .ctrs, .out, .free] P = true) (h : Frame P s0 s) : Frame P s0 (agreeEnrolling h1 s) := by
  unfold agreeEnrolling
  extract_lets +onlyGivenNames x0
  clear_value x0
  extract_lets +onlyGivenNames x1
  clear_value x1
  extract_lets +onlyGivenNames x2
  clear_value x2
  with_reducible apply frame_ite
  · with_reducible apply frame_notify (within_trans (by decide) hp)
    with_reducible assumption
  · with_reducible apply frame_ite
    · extract_lets +onlyGivenNames x3
      have h3 : Frame P s0 (x3) := by
        unfold x3
        with_reducible apply frame_useFree (within_trans (by decide) hp)
        with_reducible apply frame_useEpoch (within_trans (by decide) hp)
        refine frame_onTwin [.mirror, .twin] (within_trans (by decide) hp) (.inl rfl) (.inl rfl) ?_
        with_reducible assumption
      clear_value x3
      with_reducible apply frame_sendHello (within_trans (by decide) hp)
      with_reducible apply frame_startFeeding (within_trans (by decide) hp)
      with_reducible apply frame_enrolled (within_trans (by decide) hp)
      with_reducible apply frame_becomeOwner (within_trans (by decide) hp)
      with_reducible assumption
    · with_reducible apply frame_becomeStandby (within_trans (by decide) hp)
      with_reducible apply frame_useEpoch (within_trans (by decide) hp)
      with_reducible assumption

theorem frame_takeHello {P : List Part} {s0 : State} {p : Packet} {s : State} (hp : within [.pkg, .txn, .ledger, .part, .dir, .mem, .deep, .recp, .core, .twin, .mirror, .traffic, .leaves, .power, .sec, .sessions, .obs, .rings, .kodp, .running, .ctrs, .out, .free] P = true) (h : Frame P s0 s) : Frame P s0 (takeHello p s) := by
  unfold takeHello
  extract_lets +onlyGivenNames x0
  clear_value x0
  extract_lets +onlyGivenNames x1
  clear_value x1
  extract_lets +onlyGivenNames x2
  clear_value x2
  extract_lets +onlyGivenNames x3
  clear_value x3
  extract_lets +onlyGivenNames x4
  clear_value x4
  with_reducible apply frame_ite
  · with_reducible apply frame_refuseHello (within_trans (by decide) hp)
    with_reducible assumption
  · with_reducible apply frame_ite
    · with_reducible apply frame_refuseHello (within_trans (by decide) hp)
      with_reducible assumption
    · with_reducible apply frame_ite
      · with_reducible apply frame_refuseHello (within_trans (by decide) hp)
        with_reducible assumption
      · with_reducible apply frame_ite
        · with_reducible apply frame_refuseHello (within_trans (by decide) hp)
          with_reducible assumption
        · with_reducible apply frame_ite
          · with_reducible apply frame_ite
            · with_reducible apply frame_higherEpoch (within_trans (by decide) hp)
              with_reducible assumption
            · with_reducible apply frame_ite
              · with_reducible apply frame_sendHello (within_trans (by decide) hp)
                with_reducible assumption
              · with_reducible apply frame_twinIgnore (within_trans (by decide) hp)
                with_reducible assumption
          · split
            · with_reducible apply frame_ite
              · with_reducible apply frame_fenceTo (within_trans (by decide) hp)
                with_reducible assumption
              · with_reducible apply frame_ite
                · with_reducible apply frame_sendHello (within_trans (by decide) hp)
                  with_reducible apply frame_startFeeding (within_trans (by decide) hp)
                  with_reducible apply frame_enrolled (within_trans (by decide) hp)
                  with_reducible assumption
                · with_reducible apply frame_twinIgnore (within_trans (by decide) hp)
                  with_reducible assumption
            · with_reducible apply frame_ite
              · with_reducible apply frame_fenceTo (within_trans (by decide) hp)
                with_reducible assumption
              · with_reducible apply frame_sendHello (within_trans (by decide) hp)
                with_reducible apply frame_twinIgnore (within_trans (by decide) hp)
                with_reducible assumption
            · with_reducible apply frame_ite
              · with_reducible apply frame_fenceTo (within_trans (by decide) hp)
                with_reducible assumption
              · with_reducible apply frame_sendHello (within_trans (by decide) hp)
                with_reducible apply frame_twinIgnore (within_trans (by decide) hp)
                with_reducible assumption
            · with_reducible apply frame_ite
              · with_reducible apply frame_fenceTo (within_trans (by decide) hp)
                with_reducible assumption
              · with_reducible apply frame_twinIgnore (within_trans (by decide) hp)
                with_reducible assumption
            · with_reducible apply frame_ite
              · with_reducible apply frame_higherEpoch (within_trans (by decide) hp)
                with_reducible assumption
              · with_reducible apply frame_twinIgnore (within_trans (by decide) hp)
                with_reducible assumption
            · with_reducible apply frame_ite
              · with_reducible assumption
              · with_reducible apply frame_ite
                · with_reducible apply frame_becomeStandby (within_trans (by decide) hp)
                  with_reducible assumption
                · with_reducible apply frame_ite
                  · with_reducible apply frame_agreeEnrolling (within_trans (by decide) hp)
                    with_reducible assumption
                  · with_reducible apply frame_ite
                    · with_reducible assumption
                    · with_reducible apply frame_notify (within_trans (by decide) hp)
                      refine frame_onTwin [.mirror, .twin] (within_trans (by decide) hp) (.inl rfl) (.inl rfl) ?_
                      with_reducible assumption
            · with_reducible apply frame_ite
              · with_reducible apply frame_becomeStandby (within_trans (by decide) hp)
                with_reducible assumption
              · with_reducible apply frame_ite
                · with_reducible assumption
                · with_reducible apply frame_notify (within_trans (by decide) hp)
                  refine frame_onTwin [.mirror, .twin] (within_trans (by decide) hp) (.inl rfl) (.inl rfl) ?_
                  with_reducible assumption
            · with_reducible apply frame_ite
              · with_reducible apply frame_becomeStandby (within_trans (by decide) hp)
                with_reducible assumption
              · with_reducible apply frame_ite
                · with_reducible assumption
                · with_reducible apply frame_notify (within_trans (by decide) hp)
                  refine frame_onTwin [.mirror, .twin] (within_trans (by decide) hp) (.inl rfl) (.inl rfl) ?_
                  with_reducible assumption
            · with_reducible apply frame_ite
              · with_reducible apply frame_higherEpoch (within_trans (by decide) hp)
                with_reducible assumption
              · with_reducible apply frame_ite
                · refine frame_onTwin [.mirror, .twin] (within_trans (by decide) hp) (.inl rfl) (.inl rfl) ?_
                  with_reducible assumption
                · with_reducible apply frame_ite
                  · refine frame_onTwin [.mirror, .twin] (within_trans (by decide) hp) (.inl rfl) (.inl rfl) ?_
                    with_reducible assumption
                  · with_reducible apply frame_twinIgnore (within_trans (by decide) hp)
                    with_reducible assumption
            · with_reducible apply frame_ite
              · with_reducible apply frame_notify (within_trans (by decide) hp)
                refine frame_onTwin [.mirror, .twin] (within_trans (by decide) hp) (.inl rfl) (.inl rfl) ?_
                with_reducible assumption
              · with_reducible apply frame_twinIgnore (within_trans (by decide) hp)
                with_reducible assumption
            · with_reducible apply frame_twinIgnore (within_trans (by decide) hp)
              with_reducible assumption

theorem frame_execTwHello {P : List Part} {s0 : State} {port : Nat} {p : Packet} {s : State} (hp : within [.pkg, .txn, .ledger, .part, .dir, .mem, .deep, .recp, .core, .twin, .mirror, .traffic, .leaves, .power, .sec, .sessions, .obs, .rings, .kodp, .running, .ctrs, .out, .free] P = true) (h : Frame P s0 s) : FrameO P s0 (execTwHello port p s) := by
  unfold execTwHello
  with_reducible apply frameO_next
  with_reducible apply frame_arriveTwin (within_trans (by decide) hp)
  · intro x0 x1 h2
    with_reducible apply frame_takeHello (within_trans (by decide) hp)
    with_reducible assumption
  · with_reducible assumption

theorem frame_takeKeepalive {P : List Part} {s0 : State} {p : Packet} {s : State} (hp : within [.pkg, .txn, .ledger, .part, .dir, .mem, .deep, .recp, .core, .twin, .mirror, .traffic, .leaves, .power, .sec, .sessions, .obs, .rings, .kodp, .running, .ctrs, .out, .free] P = true) (h : Frame P s0 s) : Frame P s0 (takeKeepalive p s) := by
  unfold takeKeepalive
  extract_lets +onlyGivenNames x0
  clear_value x0
  extract_lets +onlyGivenNames x1
  clear_value x1
  extract_lets +onlyGivenNames x2
  clear_value x2
  with_reducible apply frame_ite
  · with_reducible apply frame_twinIgnore (within_trans (by decide) hp)
    with_reducible assumption
  · extract_lets +onlyGivenNames x3
    have h3 : Frame P s0 (x3) := by
      unfold x3
      refine frame_onTwin [.mirror, .twin] (within_trans (by decide) hp) (.inl rfl) (.inl rfl) ?_
      with_reducible assumption
    clear_value x3
    with_reducible apply frame_ite
    · with_reducible apply frame_higherEpoch (within_trans (by decide) hp)
      with_reducible assumption
    · with_reducible apply frame_ite
      · with_reducible apply frame_notify (within_trans (by decide) hp)
        refine frame_onTwin [.mirror, .twin] (within_trans (by decide) hp) (.inl rfl) (.inl rfl) ?_
        with_reducible assumption
      · with_reducible apply frame_ite
        · refine frame_onTwin [.mirror, .twin] (within_trans (by decide) hp) (.inl rfl) (.inl rfl) ?_
          with_reducible assumption
        · with_reducible assumption

theorem frame_execTwKeepalive {P : List Part} {s0 : State} {port : Nat} {p : Packet} {s : State} (hp : within [.pkg, .txn, .ledger, .part, .dir, .mem, .deep, .recp, .core, .twin, .mirror, .traffic, .leaves, .power, .sec, .sessions, .obs, .rings, .kodp, .running, .ctrs, .out, .free] P = true) (h : Frame P s0 s) : FrameO P s0 (execTwKeepalive port p s) := by
  unfold execTwKeepalive
  with_reducible apply frameO_next
  with_reducible apply frame_arriveTwin (within_trans (by decide) hp)
  · intro x0 x1 h2
    with_reducible apply frame_takeKeepalive (within_trans (by decide) hp)
    with_reducible assumption
  · with_reducible assumption

theorem frame_holdRelease {P : List Part} {s0 : State} {s : State} (hp : within [.twin, .ctrs] P = true) (h : Frame P s0 s) : Frame P s0 (holdRelease s) := by
  unfold holdRelease
  with_reducible apply frame_ite
  · refine frame_onTwin [.twin] (within_trans (by decide) hp) (.inr fun _ => rfl) (.inl rfl) ?_
    with_reducible assumption
  · with_reducible apply frame_twinIgnore (within_trans (by decide) hp)
    with_reducible assumption

theorem frame_execTwRelease {P : List Part} {s0 : State} {port : Nat} {p : Packet} {s : State} (hp : within [.twin, .leaves, .ctrs] P = true) (h : Frame P s0 s) : FrameO P s0 (execTwRelease port p s) := by
  unfold execTwRelease
  with_reducible apply frameO_next
  with_reducible apply frame_arriveTwin (within_trans (by decide) hp)
  · intro x0 x1 h2
    extract_lets +onlyGivenNames x3
    clear_value x3
    with_reducible apply frame_ite
    · with_reducible apply frame_holdRelease (within_trans (by decide) hp)
      with_reducible assumption
    · with_reducible apply frame_twinIgnore (within_trans (by decide) hp)
      with_reducible assumption
  · with_reducible assumption

theorem frame_execMrAck {P : List Part} {s0 : State} {port : Nat} {p : Packet} {s : State} (hp : within [.pkg, .txn, .ledger, .part, .dir, .mem, .dram, .deep, .integ, .recp, .core, .twin, .mirror, .traffic, .leaves, .power, .sec, .sessions, .obs, .rings, .kodp, .running, .ctrs, .out, .free] P = true) (h : Frame P s0 s) : FrameO P s0 (execMrAck port p s) := by
  unfold execMrAck
  with_reducible apply frameO_next
  with_reducible apply frame_arriveTwin (within_trans (by decide) hp)
  · intro x0 x1 h2
    with_reducible apply frame_ite
    · with_reducible apply frame_twinIgnore (within_trans (by decide) hp)
      with_reducible assumption
    · extract_lets +onlyGivenNames x3
      clear_value x3
      extract_lets +onlyGivenNames x4
      clear_value x4
      extract_lets +onlyGivenNames x5
      have h5 : Frame P s0 (x5) := by
        unfold x5
        refine frame_onTwin [.mirror, .twin] (within_trans (by decide) hp) (.inl rfl) (.inl rfl) ?_
        with_reducible assumption
      clear_value x5
      extract_lets +onlyGivenNames x6
      have h6 : Frame P s0 (x6) := by
        unfold x6
        refine frame_onTwin [.mirror, .twin] (within_trans (by decide) hp) (.inl rfl) (.inl rfl) ?_
        with_reducible assumption
      clear_value x6
      with_reducible apply frame_settleWaits (within_trans (by decide) hp)
      with_reducible apply frame_endResync (within_trans (by decide) hp)
      with_reducible apply frame_releaseAll (within_trans (by decide) hp)
      with_reducible apply frame_bump (within_trans (by decide) hp)
      with_reducible assumption
  · with_reducible assumption

theorem frame_execMrLine {P : List Part} {s0 : State} {port : Nat} {p : Packet} {s : State} (hp : within [.pkg, .ledger, .part, .dir, .mem, .dram, .recp, .twin, .mirror, .leaves, .power, .sessions, .rings, .kodp, .ctrs, .out, .free] P = true) (h : Frame P s0 s) : FrameO P s0 (execMrLine port p s) := by
  unfold execMrLine
  with_reducible apply frameO_next
  with_reducible apply frame_arriveTwin (within_trans (by decide) hp)
  · intro x0 x1 h2
    with_reducible apply frame_takeMirror (within_trans (by decide) hp)
    with_reducible assumption
  · with_reducible assumption

theorem frame_execMrState {P : List Part} {s0 : State} {port : Nat} {p : Packet} {s : State} (hp : within [.pkg, .ledger, .part, .dir, .mem, .dram, .recp, .twin, .mirror, .leaves, .power, .sessions, .rings, .kodp, .ctrs, .out, .free] P = true) (h : Frame P s0 s) : FrameO P s0 (execMrState port p s) := by
  unfold execMrState
  with_reducible apply frameO_next
  with_reducible apply frame_arriveTwin (within_trans (by decide) hp)
  · intro x0 x1 h2
    with_reducible apply frame_takeMirror (within_trans (by decide) hp)
    with_reducible assumption
  · with_reducible assumption

theorem frame_execRsLines {P : List Part} {s0 : State} {port : Nat} {p : Packet} {s : State} (hp : within [.pkg, .ledger, .part, .dir, .mem, .dram, .recp, .twin, .mirror, .leaves, .power, .sessions, .rings, .kodp, .ctrs, .out, .free] P = true) (h : Frame P s0 s) : FrameO P s0 (execRsLines port p s) := by
  unfold execRsLines
  with_reducible apply frameO_next
  with_reducible apply frame_arriveTwin (within_trans (by decide) hp)
  · intro x0 x1 h2
    with_reducible apply frame_takeMirror (within_trans (by decide) hp)
    with_reducible assumption
  · with_reducible assumption

theorem frame_execRpReq {P : List Part} {s0 : State} {port : Nat} {p : Packet} {s : State} (hp : within [.pkg, .dram, .twin, .leaves, .power, .rings, .ctrs, .free] P = true) (h : Frame P s0 s) : FrameO P s0 (execRpReq port p s) := by
  unfold execRpReq
  with_reducible apply frameO_next
  with_reducible apply frame_arriveTwin (within_trans (by decide) hp)
  · intro x0 x1 h2
    extract_lets +onlyGivenNames x3
    clear_value x3
    with_reducible apply frame_ite
    · with_reducible apply frame_serveRepairs (within_trans (by decide) hp)
      refine frame_onTwin [.twin] (within_trans (by decide) hp) (.inr fun _ => rfl) (.inl rfl) ?_
      with_reducible assumption
    · with_reducible apply frame_twinIgnore (within_trans (by decide) hp)
      with_reducible assumption
  · with_reducible assumption

theorem frame_execRpData {P : List Part} {s0 : State} {port : Nat} {p : Packet} {s : State} (hp : within [.pkg, .txn, .ledger, .part, .dir, .mem, .dram, .deep, .integ, .recp, .twin, .mirror, .traffic, .leaves, .power, .sec, .sessions, .obs, .rings, .kodp, .running, .ctrs, .out, .free] P = true) (h : Frame P s0 s) : FrameO P s0 (execRpData port p s) := by
  unfold execRpData
  with_reducible apply frameO_next
  with_reducible apply frame_arriveTwin (within_trans (by decide) hp)
  · intro x0 x1 h2
    split
    · with_reducible apply frame_ite
      · with_reducible assumption
      · extract_lets +onlyGivenNames x3
        clear_value x3
        extract_lets +onlyGivenNames x4
        clear_value x4
        extract_lets +onlyGivenNames x5
        have h5 : Frame P s0 (x5) := by
          unfold x5
          with_reducible apply frame_endPool (within_trans (by decide) hp)
          with_reducible assumption
        clear_value x5
        with_reducible apply frame_ite
        · extract_lets +onlyGivenNames x6
          clear_value x6
          extract_lets +onlyGivenNames x7
          have h7 : Frame P s0 (x7) := by
            unfold x7
            with_reducible apply frame_setMeta (within_trans (by decide) hp)
            with_reducible apply frame_putBytes (within_trans (by decide) hp)
            with_reducible assumption
          clear_value x7
          with_reducible apply frame_settleWaits (within_trans (by decide) hp)
          with_reducible apply frame_endRepair (within_trans (by decide) hp)
          with_reducible assumption
        · with_reducible apply frame_settleWaits (within_trans (by decide) hp)
          with_reducible apply frame_endRepair (within_trans (by decide) hp)
          with_reducible assumption
    · with_reducible assumption
  · with_reducible assumption

theorem frame_execHbReq {P : List Part} {s0 : State} {port : Nat} {p : Packet} {s : State} (hp : within [.twin, .leaves, .ctrs] P = true) (h : Frame P s0 s) : FrameO P s0 (execHbReq port p s) := by
  unfold execHbReq
  with_reducible apply frameO_next
  with_reducible apply frame_arriveTwin (within_trans (by decide) hp)
  · intro x0 x1 h2
    with_reducible apply frame_ite
    · refine frame_onTwin [.twin] (within_trans (by decide) hp) (.inr fun _ => rfl) (.inl rfl) ?_
      with_reducible assumption
    · with_reducible apply frame_twinIgnore (within_trans (by decide) hp)
      with_reducible assumption
  · with_reducible assumption

theorem frame_setLamp {P : List Part} {s0 : State} {n : Nat} {l : LampIn} {s : State} (hp : within [.twin] P = true) (h : Frame P s0 s) : Frame P s0 (setLamp n l s) := by
  unfold setLamp
  refine frame_onTwin [.twin] (within_trans (by decide) hp) (.inr fun _ => rfl) (.inl rfl) ?_
  with_reducible assumption

theorem frame_execLampFrame {P : List Part} {s0 : State} {lamp : Nat} {frame : Nat} {s : State} (hp : within [.twin, .ctrs] P = true) (h : Frame P s0 s) : FrameO P s0 (execLampFrame lamp frame s) := by
  unfold execLampFrame
  with_reducible apply frameO_ite
  · with_reducible apply frameO_next
    with_reducible assumption
  · extract_lets +onlyGivenNames x0
    clear_value x0
    extract_lets +onlyGivenNames x1
    clear_value x1
    extract_lets +onlyGivenNames x2
    clear_value x2
    extract_lets +onlyGivenNames x3
    have h3 : ∀ y0, ∀ y1, Frame P s0 y1 → Frame P s0 (x3 y0 y1) := by
      intro x4 x5 h6
      unfold x3
      with_reducible apply frame_setLamp (within_trans (by decide) hp)
      with_reducible assumption
    clear_value x3
    with_reducible apply frameO_next
    with_reducible apply frame_ite
    · with_reducible apply frame_bump (within_trans (by decide) hp)
      with_reducible apply frame_ite
      · with_reducible assumption
      · with_reducible apply h3
        with_reducible assumption
    · with_reducible apply frame_ite
      · with_reducible apply frame_ite
        · with_reducible apply frame_setLamp (within_trans (by decide) hp)
          with_reducible assumption
        · with_reducible apply frame_bump (within_trans (by decide) hp)
          with_reducible apply frame_ite
          · with_reducible assumption
          · with_reducible apply h3
            with_reducible assumption
      · with_reducible apply frame_ite
        · extract_lets +onlyGivenNames x7
          have h7 : Frame P s0 (x7) := by
            unfold x7
            with_reducible apply frame_holdRelease (within_trans (by decide) hp)
            with_reducible assumption
          clear_value x7
          with_reducible apply frame_ite
          · with_reducible apply frame_setLamp (within_trans (by decide) hp)
            with_reducible assumption
          · with_reducible apply h3
            with_reducible assumption
        · with_reducible apply h3
          with_reducible assumption

theorem frame_execLampInputDark {P : List Part} {s0 : State} {lamp : Nat} {s : State} (hp : within [.twin] P = true) (h : Frame P s0 s) : FrameO P s0 (execLampInputDark lamp s) := by
  unfold execLampInputDark
  with_reducible apply frameO_next
  with_reducible apply frame_ite
  · with_reducible apply frame_setLamp (within_trans (by decide) hp)
    with_reducible assumption
  · with_reducible assumption

theorem frame_execLampFault {P : List Part} {s0 : State} {lamp : Nat} {s : State} (hp : within [.ledger, .leaves, .sessions, .rings, .kodp, .ctrs, .out] P = true) (h : Frame P s0 s) : FrameO P s0 (execLampFault lamp s) := by
  unfold execLampFault
  with_reducible apply frameO_next
  with_reducible apply frame_ite
  · with_reducible apply frame_notify (within_trans (by decide) hp)
    with_reducible assumption
  · with_reducible assumption

theorem frame_execKeepaliveSend {P : List Part} {s0 : State} {s : State} (hp : within [.leaves, .free] P = true) (h : Frame P s0 s) : FrameO P s0 (execKeepaliveSend s) := by
  unfold execKeepaliveSend
  with_reducible apply frameO_ite
  · with_reducible apply frameO_next
    with_reducible assumption
  · with_reducible apply frameO_next
    with_reducible apply frame_onTwinTimer (within_trans (by decide) hp)
    · intro x0 h1
      extract_lets +onlyGivenNames x2
      have h2 : Frame P s0 (x2) := by
        unfold x2
        with_reducible apply frame_ite
        · with_reducible assumption
        · with_reducible apply frame_sendKeepalive (within_trans (by decide) hp)
          with_reducible assumption
      clear_value x2
      with_reducible apply frame_ite
      · with_reducible apply frame_sendHello (within_trans (by decide) hp)
        with_reducible assumption
      · with_reducible assumption
    · with_reducible assumption

theorem frame_execStandbyKeepaliveLoss {P : List Part} {s0 : State} {s : State} (hp : within [.ledger, .twin, .leaves, .sessions, .rings, .kodp, .ctrs, .out] P = true) (h : Frame P s0 s) : FrameO P s0 (execStandbyKeepaliveLoss s) := by
  unfold execStandbyKeepaliveLoss
  with_reducible apply frameO_ite
  · with_reducible apply frameO_next
    with_reducible assumption
  · with_reducible apply frameO_next
    with_reducible apply frame_onTwinTimer (within_trans (by decide) hp)
    · intro x0 h1
      extract_lets +onlyGivenNames x2
      have h2 : Frame P s0 (x2) := by
        unfold x2
        refine frame_onTwin [.twin] (within_trans (by decide) hp) (.inr fun _ => rfl) (.inl rfl) ?_
        with_reducible assumption
      clear_value x2
      with_reducible apply frame_ite
      · refine frame_onTwin [.twin] (within_trans (by decide) hp) (.inr fun _ => rfl) (.inl rfl) ?_
        with_reducible assumption
      · with_reducible apply frame_ite
        · with_reducible assumption
        · with_reducible apply frame_notify (within_trans (by decide) hp)
          refine frame_onTwin [.twin] (within_trans (by decide) hp) (.inr fun _ => rfl) (.inl rfl) ?_
          with_reducible assumption
    · with_reducible assumption

theorem frame_execOwnerKeepaliveLoss {P : List Part} {s0 : State} {s : State} (hp : within [.pkg, .txn, .ledger, .part, .dir, .mem, .dram, .deep, .integ, .recp, .core, .twin, .mirror, .traffic, .leaves, .power, .sec, .sessions, .obs, .rings, .kodp, .running, .ctrs, .out, .free] P = true) (h : Frame P s0 s) : FrameO P s0 (execOwnerKeepaliveLoss s) := by
  unfold execOwnerKeepaliveLoss
  with_reducible apply frameO_ite
  · with_reducible apply frameO_next
    with_reducible assumption
  · with_reducible apply frameO_next
    with_reducible apply frame_onTwinTimer (within_trans (by decide) hp)
    · intro x0 h1
      with_reducible apply frame_settleWaits (within_trans (by decide) hp)
      with_reducible apply frame_loseStandby (within_trans (by decide) hp)
      with_reducible assumption
    · with_reducible assumption

theorem frame_execMrAckReportTimer {P : List Part} {s0 : State} {s : State} (hp : within [.leaves] P = true) (h : Frame P s0 s) : FrameO P s0 (execMrAckReportTimer s) := by
  unfold execMrAckReportTimer
  with_reducible apply frameO_ite
  · with_reducible apply frameO_next
    with_reducible assumption
  · with_reducible apply frameO_next
    with_reducible apply frame_onTwinTimer (within_trans (by decide) hp)
    · intro x0 h1
      with_reducible apply frame_sendMrAck (within_trans (by decide) hp)
      with_reducible assumption
    · with_reducible assumption

theorem frame_execAnnounceTimer {P : List Part} {s0 : State} {s : State} (hp : within [.leaves] P = true) (h : Frame P s0 s) : FrameO P s0 (execAnnounceTimer s) := by
  unfold execAnnounceTimer
  with_reducible apply frameO_ite
  · with_reducible apply frameO_next
    with_reducible assumption
  · with_reducible apply frameO_next
    with_reducible apply frame_onTwinTimer (within_trans (by decide) hp)
    · intro x0 h1
      with_reducible apply frame_sendAnnounce (within_trans (by decide) hp)
      with_reducible assumption
    · with_reducible assumption

theorem frame_execEnrolRetry {P : List Part} {s0 : State} {s : State} (hp : within [.twin, .leaves, .free] P = true) (h : Frame P s0 s) : FrameO P s0 (execEnrolRetry s) := by
  unfold execEnrolRetry
  with_reducible apply frameO_ite
  · with_reducible apply frameO_next
    with_reducible assumption
  · with_reducible apply frameO_next
    with_reducible apply frame_onTwinTimer (within_trans (by decide) hp)
    · intro x0 h1
      with_reducible apply frame_sendHello (within_trans (by decide) hp)
      refine frame_onTwin [.twin] (within_trans (by decide) hp) (.inr fun _ => rfl) (.inl rfl) ?_
      with_reducible assumption
    · with_reducible assumption

theorem frame_execHbReqTimer {P : List Part} {s0 : State} {s : State} (hp : within [.leaves] P = true) (h : Frame P s0 s) : FrameO P s0 (execHbReqTimer s) := by
  unfold execHbReqTimer
  with_reducible apply frameO_ite
  · with_reducible apply frameO_next
    with_reducible assumption
  · extract_lets +onlyGivenNames x0
    clear_value x0
    with_reducible apply frameO_next
    with_reducible apply frame_onTwinTimer (within_trans (by decide) hp)
    · intro x1 h2
      with_reducible apply frame_sendTw (within_trans (by decide) hp)
      with_reducible assumption
    · with_reducible assumption

theorem frame_sendSyncEnd {P : List Part} {s0 : State} {stream : Nat} {s : State} (hp : within [.twin, .mirror, .leaves, .ctrs] P = true) (h : Frame P s0 s) : Frame P s0 (sendSyncEnd stream s) := by
  unfold sendSyncEnd
  extract_lets +onlyGivenNames x0
  have h0 : Frame P s0 (x0) := by
    unfold x0
    with_reducible apply frame_mirrorState (within_trans (by decide) hp)
    with_reducible assumption
  clear_value x0
  extract_lets +onlyGivenNames x1
  clear_value x1
  refine frame_onTwin [.mirror, .twin] (within_trans (by decide) hp) (.inl rfl) (.inl rfl) ?_
  with_reducible assumption

theorem frame_execResyncSend {P : List Part} {s0 : State} {stream : Nat} {s : State} (hp : within [.pkg, .mem, .dram, .twin, .mirror, .leaves, .power, .rings, .ctrs, .free] P = true) (h : Frame P s0 s) : FrameO P s0 (execResyncSend stream s) := by
  unfold execResyncSend
  with_reducible apply frameO_ite
  · with_reducible apply frameO_next
    with_reducible assumption
  · with_reducible apply frameO_next
    split
    · with_reducible apply frame_ite
      · with_reducible assumption
      · split
        · with_reducible apply frame_mirrorState (within_trans (by decide) hp)
          refine frame_onTwin [.mirror, .twin] (within_trans (by decide) hp) (.inl rfl) (.inl rfl) ?_
          with_reducible assumption
        · extract_lets +onlyGivenNames x0
          clear_value x0
          split
          · with_reducible apply frame_sendSyncEnd (within_trans (by decide) hp)
            with_reducible assumption
          · extract_lets +onlyGivenNames x1
            clear_value x1
            extract_lets +onlyGivenNames x2
            clear_value x2
            split
            · refine frame_of_fst (by with_reducible assumption) ?_
              with_reducible apply frame_readSweep (within_trans (by decide) hp)
              with_reducible assumption
            · with_reducible apply frame_sendSweep (within_trans (by decide) hp)
              refine frame_onTwin [.mirror, .twin] (within_trans (by decide) hp) (.inl rfl) (.inl rfl) ?_
              refine frame_of_fst (by with_reducible assumption) ?_
              with_reducible apply frame_readSweep (within_trans (by decide) hp)
              with_reducible assumption
    · with_reducible assumption

theorem frame_settleTags {P : List Part} {s0 : State} {s : State} (hp : within [.pkg, .mem, .dram, .mirror, .leaves, .power, .rings, .ctrs, .free] P = true) (h : Frame P s0 s) : Frame P s0 (settleTags s) := by
  unfold settleTags
  extract_lets +onlyGivenNames x0
  clear_value x0
  with_reducible apply frame_forAll
  · intro x1 x2 h3
    extract_lets +onlyGivenNames x4
    clear_value x4
    extract_lets +onlyGivenNames x5
    clear_value x5
    with_reducible apply frame_forAll
    · intro x6 x7 h8
      extract_lets +onlyGivenNames x9
      clear_value x9
      with_reducible apply frame_ite
      · with_reducible assumption
      · with_reducible apply frame_ite
        · with_reducible apply frame_setTag (within_trans (by decide) hp)
          with_reducible assumption
        · with_reducible apply frame_ite
          · with_reducible apply frame_setTag (within_trans (by decide) hp)
            with_reducible assumption
          · with_reducible assumption
    · with_reducible assumption
  · with_reducible assumption

theorem frame_settleRecipes {P : List Part} {s0 : State} {s : State} (hp : within [.recp, .core] P = true) (h : Frame P s0 s) : Frame P s0 (settleRecipes s) := by
  unfold settleRecipes
  with_reducible apply frame_forAll
  · intro x0 x1 h2
    with_reducible apply frame_ite
    · with_reducible apply frame_cancelRecipe (within_trans (by decide) hp)
      with_reducible assumption
    · extract_lets +onlyGivenNames x3
      clear_value x3
      extract_lets +onlyGivenNames x4
      clear_value x4
      with_reducible apply frame_ite
      · with_reducible apply frame_setRecipe (within_trans (by decide) hp)
        with_reducible assumption
      · with_reducible assumption
  · with_reducible assumption

theorem frame_restartRecalls {P : List Part} {s0 : State} {s : State} (hp : within [.pkg, .txn, .ledger, .part, .dir, .mem, .dram, .deep, .integ, .mirror, .leaves, .power, .sessions, .obs, .rings, .kodp, .ctrs, .out, .free] P = true) (h : Frame P s0 s) : Frame P s0 (restartRecalls s) := by
  unfold restartRecalls
  with_reducible apply frame_forAll
  · intro x0 x1 h2
    extract_lets +onlyGivenNames x3
    clear_value x3
    with_reducible apply frame_startRecall (within_trans (by decide) hp)
    with_reducible apply frame_onDir (within_trans (by decide) hp)
    with_reducible assumption
  · with_reducible assumption

theorem frame_restartSlots {P : List Part} {s0 : State} {s : State} (hp : within [.pkg, .txn, .ledger, .part, .dir, .mem, .dram, .deep, .integ, .mirror, .leaves, .power, .sessions, .obs, .rings, .kodp, .ctrs, .out, .free] P = true) (h : Frame P s0 s) : Frame P s0 (restartSlots s) := by
  unfold restartSlots
  with_reducible apply frame_forAll
  · intro x0 x1 h2
    split
    · with_reducible apply frame_onPart (within_trans (by decide) hp)
      with_reducible assumption
    · with_reducible apply frame_recallSlot (within_trans (by decide) hp)
      with_reducible assumption
    · with_reducible assumption
  · with_reducible assumption

theorem frame_emptyPool {P : List Part} {s0 : State} {s : State} (hp : within [.txn, .ledger, .part, .dir, .mem, .recp] P = true) (h : Frame P s0 s) : Frame P s0 (emptyPool s) := by
  unfold emptyPool
  extract_lets +onlyGivenNames x0
  have h0 : Frame P s0 (x0) := by
    unfold x0
    refine frame_onMem (within_trans (by decide) hp) (fun _ _ => rfl) ?_
    with_reducible assumption
  clear_value x0
  extract_lets +onlyGivenNames x1
  have h1 : Frame P s0 (x1) := by
    unfold x1
    with_reducible apply frame_onDir (within_trans (by decide) hp)
    with_reducible assumption
  clear_value x1
  extract_lets +onlyGivenNames x2
  clear_value x2
  extract_lets +onlyGivenNames x3
  have h3 : Frame P s0 (x3) := by
    unfold x3
    with_reducible apply frame_onPart (within_trans (by decide) hp)
    with_reducible assumption
  clear_value x3
  extract_lets +onlyGivenNames x4
  clear_value x4
  extract_lets +onlyGivenNames x5
  have h5 : Frame P s0 (x5) := by
    unfold x5
    with_reducible apply frame_onRecp (within_trans (by decide) hp)
    with_reducible assumption
  clear_value x5
  refine frame_onTxn [.ledger, .txn] (within_trans (by decide) hp) (.inl rfl) (.inl rfl) ?_
  with_reducible assumption

theorem frame_execTakeoverStart {P : List Part} {s0 : State} {s : State} (hp : within [.pkg, .txn, .ledger, .part, .dir, .mem, .dram, .deep, .integ, .recp, .core, .twin, .mirror, .traffic, .leaves, .power, .sec, .sessions, .obs, .rings, .kodp, .ctrs, .out, .free] P = true) (h : Frame P s0 s) : FrameO P s0 (execTakeoverStart s) := by
  unfold execTakeoverStart
  with_reducible apply frameO_ite
  · with_reducible apply frameO_next
    with_reducible assumption
  · with_reducible apply frameO_next
    with_reducible apply frame_onTwinTimer (within_trans (by decide) hp)
    · intro x0 h1
      extract_lets +onlyGivenNames x2
      clear_value x2
      with_reducible apply frame_ite
      · with_reducible apply frame_notify (within_trans (by decide) hp)
        with_reducible assumption
      · extract_lets +onlyGivenNames x3
        clear_value x3
        extract_lets +onlyGivenNames x4
        clear_value x4
        extract_lets +onlyGivenNames x5
        have h5 : Frame P s0 (x5) := by
          unfold x5
          refine frame_onTwin [.mirror, .twin] (within_trans (by decide) hp) (.inl rfl) (.inl rfl) ?_
          with_reducible assumption
        clear_value x5
        extract_lets +onlyGivenNames x6
        have h6 : Frame P s0 (x6) := by
          unfold x6
          with_reducible apply frame_applyHeld (within_trans (by decide) hp)
          with_reducible apply frame_applyHeld (within_trans (by decide) hp)
          with_reducible assumption
        clear_value x6
        extract_lets +onlyGivenNames x7
        have h7 : Frame P s0 (x7) := by
          unfold x7
          refine frame_onTwin [.mirror, .twin] (within_trans (by decide) hp) (.inl rfl) (.inl rfl) ?_
          with_reducible assumption
        clear_value x7
        extract_lets +onlyGivenNames x8
        have h8 : Frame P s0 (x8) := by
          unfold x8
          with_reducible apply frame_becomeOwner (within_trans (by decide) hp)
          with_reducible apply frame_useEpoch (within_trans (by decide) hp)
          with_reducible apply frame_ite
          · with_reducible apply frame_emptyPool (within_trans (by decide) hp)
            with_reducible assumption
          · with_reducible assumption
        clear_value x8
        extract_lets +onlyGivenNames x9
        have h9 : Frame P s0 (x9) := by
          unfold x9
          with_reducible apply frame_epochKeys (within_trans (by decide) hp)
          refine frame_onTwin [.mirror, .twin] (within_trans (by decide) hp) (.inl rfl) (.inl rfl) ?_
          with_reducible assumption
        clear_value x9
        extract_lets +onlyGivenNames x10
        have h10 : Frame P s0 (x10) := by
          unfold x10
          with_reducible apply frame_onPart (within_trans (by decide) hp)
          with_reducible assumption
        clear_value x10
        extract_lets +onlyGivenNames x11
        have h11 : Frame P s0 (x11) := by
          unfold x11
          refine frame_onTraffic [.leaves, .traffic] (within_trans (by decide) hp) (.inl rfl) (.inl rfl) ?_
          with_reducible assumption
        clear_value x11
        extract_lets +onlyGivenNames x12
        have h12 : Frame P s0 (x12) := by
          unfold x12
          with_reducible apply frame_settleTags (within_trans (by decide) hp)
          with_reducible apply frame_settleRecipes (within_trans (by decide) hp)
          with_reducible apply frame_restartRecalls (within_trans (by decide) hp)
          with_reducible apply frame_restartSlots (within_trans (by decide) hp)
          with_reducible assumption
        clear_value x12
        with_reducible apply frame_bump (within_trans (by decide) hp)
        with_reducible apply frame_abortDumps (within_trans (by decide) hp)
        with_reducible assumption
    · with_reducible assumption

theorem frame_execTakeoverClaimDeadline {P : List Part} {s0 : State} {s : State} (hp : within [.ledger, .deep, .twin, .leaves, .sessions, .rings, .kodp, .ctrs, .out] P = true) (h : Frame P s0 s) : FrameO P s0 (execTakeoverClaimDeadline s) := by
  unfold execTakeoverClaimDeadline
  with_reducible apply frameO_ite
  · with_reducible apply frameO_next
    with_reducible assumption
  · with_reducible apply frameO_next
    with_reducible apply frame_onTwinTimer (within_trans (by decide) hp)
    · intro x0 h1
      extract_lets +onlyGivenNames x2
      clear_value x2
      extract_lets +onlyGivenNames x3
      have h3 : Frame P s0 (x3) := by
        unfold x3
        with_reducible apply frame_forAll
        · intro x4 x5 h6
          with_reducible apply frame_notify (within_trans (by decide) hp)
          with_reducible apply frame_setSled (within_trans (by decide) hp)
          with_reducible assumption
        · with_reducible assumption
      clear_value x3
      with_reducible apply frame_takeoverDone (within_trans (by decide) hp)
      with_reducible apply frame_onlyIf
      · intro x7 h8
        with_reducible apply frame_timeoutFired (within_trans (by decide) hp)
        with_reducible assumption
      · with_reducible assumption
    · with_reducible assumption

theorem frame_execForceArmExpiry {P : List Part} {s0 : State} {s : State} (hp : within [.twin] P = true) (h : Frame P s0 s) : FrameO P s0 (execForceArmExpiry s) := by
  unfold execForceArmExpiry
  with_reducible apply frameO_ite
  · with_reducible apply frameO_next
    with_reducible assumption
  · with_reducible apply frameO_next
    refine frame_onTwin [.twin] (within_trans (by decide) hp) (.inr fun _ => rfl) (.inl rfl) ?_
    with_reducible assumption

theorem frame_execReleaseCodeExpiry {P : List Part} {s0 : State} {s : State} (hp : within [.ledger, .twin, .leaves, .sessions, .rings, .kodp, .ctrs, .out] P = true) (h : Frame P s0 s) : FrameO P s0 (execReleaseCodeExpiry s) := by
  unfold execReleaseCodeExpiry
  with_reducible apply frameO_ite
  · with_reducible apply frameO_next
    with_reducible assumption
  · with_reducible apply frameO_next
    with_reducible apply frame_onTwinTimer (within_trans (by decide) hp)
    · intro x0 h1
      extract_lets +onlyGivenNames x2
      have h2 : Frame P s0 (x2) := by
        unfold x2
        refine frame_onTwin [.twin] (within_trans (by decide) hp) (.inr fun _ => rfl) (.inl rfl) ?_
        with_reducible assumption
      clear_value x2
      with_reducible apply frame_ite
      · with_reducible apply frame_notify (within_trans (by decide) hp)
        refine frame_onTwin [.twin] (within_trans (by decide) hp) (.inr fun _ => rfl) (.inl rfl) ?_
        with_reducible assumption
      · with_reducible assumption
    · with_reducible assumption

theorem frame_execQuiesceBarrier {P : List Part} {s0 : State} {s : State} (hp : within [.pkg, .txn, .ledger, .part, .dir, .mem, .dram, .deep, .integ, .recp, .twin, .mirror, .traffic, .leaves, .power, .sec, .sessions, .obs, .rings, .kodp, .running, .ctrs, .out, .free] P = true) (h : Frame P s0 s) : FrameO P s0 (execQuiesceBarrier s) := by
  unfold execQuiesceBarrier
  with_reducible apply frameO_ite
  · with_reducible apply frameO_next
    with_reducible assumption
  · with_reducible apply frameO_next
    with_reducible apply frame_onTwinTimer (within_trans (by decide) hp)
    · intro x0 h1
      extract_lets +onlyGivenNames x2
      have h2 : Frame P s0 (x2) := by
        unfold x2
        refine frame_onTwin [.mirror, .twin] (within_trans (by decide) hp) (.inl rfl) (.inl rfl) ?_
        with_reducible assumption
      clear_value x2
      with_reducible apply frame_ite
      · with_reducible apply frame_settleWaits (within_trans (by decide) hp)
        with_reducible apply frame_releasePeerWaits (within_trans (by decide) hp)
        refine frame_onTwin [.mirror, .twin] (within_trans (by decide) hp) (.inl rfl) (.inl rfl) ?_
        with_reducible assumption
      · with_reducible assumption
    · with_reducible assumption

theorem frame_execQuiesceWaitExpiry {P : List Part} {s0 : State} {s : State} (hp : within [.twin] P = true) (h : Frame P s0 s) : FrameO P s0 (execQuiesceWaitExpiry s) := by
  unfold execQuiesceWaitExpiry
  with_reducible apply frameO_ite
  · with_reducible apply frameO_next
    with_reducible assumption
  · with_reducible apply frameO_next
    refine frame_onTwin [.twin] (within_trans (by decide) hp) (.inr fun _ => rfl) (.inl rfl) ?_
    with_reducible assumption

theorem frame_execHandbackDrainTimeout {P : List Part} {s0 : State} {s : State} (hp : within [.ledger, .twin, .leaves, .sessions, .rings, .kodp, .ctrs, .out] P = true) (h : Frame P s0 s) : FrameO P s0 (execHandbackDrainTimeout s) := by
  unfold execHandbackDrainTimeout
  with_reducible apply frameO_ite
  · with_reducible apply frameO_next
    with_reducible assumption
  · with_reducible apply frameO_next
    with_reducible apply frame_onTwinTimer (within_trans (by decide) hp)
    · intro x0 h1
      with_reducible apply frame_notify (within_trans (by decide) hp)
      with_reducible apply frame_bump (within_trans (by decide) hp)
      refine frame_onTwin [.twin] (within_trans (by decide) hp) (.inr fun _ => rfl) (.inl rfl) ?_
      with_reducible assumption
    · with_reducible assumption

theorem frame_execReleaseLampEnd {P : List Part} {s0 : State} {s : State} (hp : within [.twin] P = true) (h : Frame P s0 s) : FrameO P s0 (execReleaseLampEnd s) := by
  unfold execReleaseLampEnd
  with_reducible apply frameO_ite
  · with_reducible apply frameO_next
    with_reducible assumption
  · with_reducible apply frameO_next
    with_reducible apply frame_onTwinTimer (within_trans (by decide) hp)
    · intro x0 h1
      refine frame_onTwin [.twin] (within_trans (by decide) hp) (.inr fun _ => rfl) (.inl rfl) ?_
      with_reducible assumption
    · with_reducible assumption

theorem frame_execReleasingTimeout {P : List Part} {s0 : State} {s : State} (hp : within [.txn, .ledger, .deep, .twin, .mirror, .leaves, .sessions, .rings, .kodp, .running, .ctrs, .out] P = true) (h : Frame P s0 s) : FrameO P s0 (execReleasingTimeout s) := by
  unfold execReleasingTimeout
  with_reducible apply frameO_ite
  · with_reducible apply frameO_next
    with_reducible assumption
  · with_reducible apply frameO_next
    with_reducible apply frame_onTwinTimer (within_trans (by decide) hp)
    · intro x0 h1
      with_reducible apply frame_notify (within_trans (by decide) hp)
      with_reducible apply frame_bump (within_trans (by decide) hp)
      with_reducible apply frame_leaveReleasing (within_trans (by decide) hp)
      with_reducible assumption
    · with_reducible assumption

theorem frame_execTwinEnableWrite {P : List Part} {s0 : State} {r : Req} {value : Nat} {s : State} (hp : within [.txn, .ledger, .deep, .twin, .mirror, .leaves, .sessions, .rings, .kodp, .running, .dict, .ctrs, .out] P = true) (h : Frame P s0 s) : FrameO P s0 (execTwinEnableWrite r value s) := by
  unfold execTwinEnableWrite
  extract_lets +onlyGivenNames x0
  clear_value x0
  with_reducible apply frameO_next
  with_reducible apply frame_operateOk (within_trans (by decide) hp)
  · intro x1 h2
    extract_lets +onlyGivenNames x3
    have h3 : Frame P s0 (x3) := by
      unfold x3
      with_reducible apply frame_saveSettings (within_trans (by decide) hp)
      with_reducible apply frame_setObj (within_trans (by decide) hp)
      refine frame_onTwin [.mirror, .twin] (within_trans (by decide) hp) (.inl rfl) (.inl rfl) ?_
      with_reducible assumption
    clear_value x3
    with_reducible apply frame_ite
    · with_reducible apply frame_ite
      · with_reducible apply frame_becomeOwner (within_trans (by decide) hp)
        with_reducible apply frame_useEpoch (within_trans (by decide) hp)
        with_reducible assumption
      · with_reducible assumption
    · extract_lets +onlyGivenNames x4
      have h4 : Frame P s0 (x4) := by
        unfold x4
        refine frame_onTwin [.mirror, .twin] (within_trans (by decide) hp) (.inl rfl) (.inl rfl) ?_
        with_reducible assumption
      clear_value x4
      with_reducible apply frame_forAll
      · intro x5 x6 h7
        with_reducible apply frame_ite
        · with_reducible apply frame_claimAfterInfo (within_trans (by decide) hp)
          with_reducible assumption
        · with_reducible assumption
      · with_reducible assumption
  · with_reducible assumption

theorem frame_execTwinForce {P : List Part} {s0 : State} {r : Req} {epoch : Nat} {s : State} (hp : within [.ledger, .twin, .mirror, .leaves, .sessions, .rings, .kodp, .running, .ctrs, .out] P = true) (h : Frame P s0 s) : FrameO P s0 (execTwinForce r epoch s) := by
  unfold execTwinForce
  extract_lets +onlyGivenNames x0
  clear_value x0
  with_reducible apply frameO_next
  with_reducible apply frame_onlyIf
  · intro x1 h2
    with_reducible apply frame_twinIgnore (within_trans (by decide) hp)
    with_reducible assumption
  · with_reducible apply frame_operateOk (within_trans (by decide) hp)
    · intro x3 h4
      refine frame_onTwin [.mirror, .twin] (within_trans (by decide) hp) (.inl rfl) (.inl rfl) ?_
      with_reducible assumption
    · with_reducible assumption

theorem frame_execTwinForceCancel {P : List Part} {s0 : State} {r : Req} {s : State} (hp : within [.ledger, .twin, .mirror, .leaves, .sessions, .rings, .kodp, .running, .ctrs, .out] P = true) (h : Frame P s0 s) : FrameO P s0 (execTwinForceCancel r s) := by
  unfold execTwinForceCancel
  with_reducible apply frameO_next
  with_reducible apply frame_operateOk (within_trans (by decide) hp)
  · intro x0 h1
    refine frame_onTwin [.mirror, .twin] (within_trans (by decide) hp) (.inl rfl) (.inl rfl) ?_
    with_reducible assumption
  · with_reducible assumption

theorem frame_execTwinHandover {P : List Part} {s0 : State} {r : Req} {s : State} (hp : within [.ledger, .twin, .mirror, .leaves, .sessions, .rings, .kodp, .running, .ctrs, .out] P = true) (h : Frame P s0 s) : FrameO P s0 (execTwinHandover r s) := by
  unfold execTwinHandover
  with_reducible apply frameO_next
  with_reducible apply frame_operateOk (within_trans (by decide) hp)
  · intro x0 h1
    refine frame_onTwin [.mirror, .twin] (within_trans (by decide) hp) (.inl rfl) (.inl rfl) ?_
    with_reducible assumption
  · with_reducible assumption

theorem frame_execTwinQuiesce {P : List Part} {s0 : State} {r : Req} {s : State} (hp : within [.ledger, .twin, .mirror, .leaves, .sessions, .rings, .kodp, .running, .ctrs, .out] P = true) (h : Frame P s0 s) : FrameO P s0 (execTwinQuiesce r s) := by
  unfold execTwinQuiesce
  with_reducible apply frameO_next
  with_reducible apply frame_operateOk (within_trans (by decide) hp)
  · intro x0 h1
    refine frame_onTwin [.mirror, .twin] (within_trans (by decide) hp) (.inl rfl) (.inl rfl) ?_
    with_reducible assumption
  · with_reducible assumption

end Sys2Proof.Machine
end

