-- ==== Sys2Proof/Laws/FrameObjects.lean ====
section
/-!
SUPPORT. Laws/FrameObjects.lean: the frame of every operation and command of Machine/Objects.lean.
-/
namespace Sys2Proof.Machine

theorem frame_writeValue {P : List Part} {s0 : State} {o : Obj} {v : Nat} {s : State} (hp : within [.sessions, .kodp, .dict] P = true) (h : Frame P s0 s) : Frame P s0 (writeValue o v s) := by
  unfold writeValue
  extract_lets +onlyGivenNames x0
  clear_value x0
  with_reducible apply frame_onlyIf
  · intro x1 h2
    with_reducible apply frame_block6Changed (within_trans (by decide) hp)
    with_reducible assumption
  · with_reducible apply frame_onlyIf
    · intro x3 h4
      with_reducible apply frame_saveSettings (within_trans (by decide) hp)
      with_reducible assumption
    · with_reducible apply frame_setObj (within_trans (by decide) hp)
      with_reducible assumption

theorem frame_execObjectWrite {P : List Part} {s0 : State} {r : Req} {obj : Obj} {value : Nat} {s : State} (hp : within [.txn, .ledger, .deep, .twin, .mirror, .leaves, .sessions, .time, .rings, .kodp, .running, .dict, .ctrs, .out] P = true) (h : Frame P s0 s) : FrameO P s0 (execObjectWrite r obj value s) := by
  unfold execObjectWrite
  split
  · with_reducible apply frame_execTimeRootWrite (within_trans (by decide) hp)
    with_reducible assumption
  · with_reducible apply frame_execServiceModeWrite (within_trans (by decide) hp)
    with_reducible assumption
  · with_reducible apply frame_execTwinEnableWrite (within_trans (by decide) hp)
    with_reducible assumption
  · with_reducible apply frameO_next
    with_reducible apply frame_operateOk (within_trans (by decide) hp)
    · intro x0 h1
      with_reducible apply frame_writeValue (within_trans (by decide) hp)
      with_reducible assumption
    · with_reducible assumption

theorem frame_setTable {P : List Part} {s0 : State} {t : TableId} {rows : List Row} {s : State} (hp : within [.dict] P = true) (h : Frame P s0 s) : Frame P s0 (setTable t rows s) := by
  unfold setTable
  extract_lets +onlyGivenNames x0
  clear_value x0
  with_reducible apply frame_onlyIf
  · intro x1 h2
    with_reducible apply frame_tableChanged (within_trans (by decide) hp)
    with_reducible assumption
  · refine frame_onKodp [.dict] (within_trans (by decide) hp) (.inr fun _ => rfl) (.inl rfl) (.inr fun _ => rfl) ?_
    with_reducible assumption

theorem frame_tableEffect {P : List Part} {s0 : State} {t : TableId} {old : List Row} {s : State} (hp : within [.ledger, .part, .leaves, .sessions, .kodp, .dict] P = true) (h : Frame P s0 s) : Frame P s0 (tableEffect t old s) := by
  unfold tableEffect
  extract_lets +onlyGivenNames x0
  clear_value x0
  split
  · extract_lets +onlyGivenNames x1
    clear_value x1
    with_reducible apply frame_saveSettings (within_trans (by decide) hp)
    with_reducible apply frame_endSessions (within_trans (by decide) hp)
    with_reducible assumption
  · extract_lets +onlyGivenNames x2
    clear_value x2
    with_reducible apply frame_saveSettings (within_trans (by decide) hp)
    with_reducible apply frame_endSessions (within_trans (by decide) hp)
    with_reducible assumption
  · extract_lets +onlyGivenNames x3
    clear_value x3
    extract_lets +onlyGivenNames x4
    clear_value x4
    with_reducible apply frame_forAll
    · intro x5 x6 h7
      with_reducible apply frame_setSlot (within_trans (by decide) hp)
      with_reducible assumption
    · with_reducible assumption
  · with_reducible apply frame_repin (within_trans (by decide) hp)
    with_reducible assumption
  · with_reducible assumption

theorem frame_execTablePut {P : List Part} {s0 : State} {r : Req} {table : TableId} {rows : List Row} {s : State} (hp : within [.ledger, .part, .mirror, .leaves, .sessions, .rings, .kodp, .running, .dict, .ctrs, .out] P = true) (h : Frame P s0 s) : FrameO P s0 (execTablePut r table rows s) := by
  unfold execTablePut
  split
  with_reducible apply frameO_next
  with_reducible apply frame_operateOk (within_trans (by decide) hp)
  · intro x0 h1
    with_reducible apply frame_tableEffect (within_trans (by decide) hp)
    with_reducible apply frame_setTable (within_trans (by decide) hp)
    with_reducible assumption
  · with_reducible assumption

theorem frame_execTableDelete {P : List Part} {s0 : State} {r : Req} {table : TableId} {keys : List (List Nat)} {s : State} (hp : within [.ledger, .part, .mirror, .leaves, .sessions, .rings, .kodp, .running, .dict, .ctrs, .out] P = true) (h : Frame P s0 s) : FrameO P s0 (execTableDelete r table keys s) := by
  unfold execTableDelete
  split
  with_reducible apply frameO_next
  with_reducible apply frame_operateOk (within_trans (by decide) hp)
  · intro x0 h1
    with_reducible apply frame_tableEffect (within_trans (by decide) hp)
    with_reducible apply frame_setTable (within_trans (by decide) hp)
    with_reducible assumption
  · with_reducible assumption

end Sys2Proof.Machine
end

