-- ==== Sys2Proof/Laws/FramePower.lean ====
section
/-!
SUPPORT. Laws/FramePower.lean: the frame of every operation and command of Machine/Power.lean.
-/
namespace Sys2Proof.Machine

theorem frame_execSugarQueueServe {P : List Part} {s0 : State} {s : State} (hp : within [.pkg, .power, .ctrs] P = true) (h : Frame P s0 s) : FrameO P s0 (execSugarQueueServe s) := by
  unfold execSugarQueueServe
  with_reducible apply frameO_ite
  · with_reducible apply frameO_next
    with_reducible assumption
  · with_reducible apply frameO_next
    with_reducible apply frame_serveQueue (within_trans (by decide) hp)
    with_reducible assumption

theorem frame_askRenewal {P : List Part} {s0 : State} {r : Recipe} {g : Sugar} {put : Sugar → State → State} {s : State} (hp : within [.recp] P = true) (h_put : (∀ x0, ∀ x1, Frame P s0 x1 → Frame P s0 (put x0 x1))) (h : Frame P s0 s) : Frame P s0 (askRenewal r g put s) := by
  unfold askRenewal
  extract_lets +onlyGivenNames x0
  clear_value x0
  extract_lets +onlyGivenNames x1
  clear_value x1
  extract_lets +onlyGivenNames x2
  clear_value x2
  with_reducible apply h_put
  with_reducible apply frame_onRecp (within_trans (by decide) hp)
  with_reducible assumption

theorem frame_execGrantRenewal {P : List Part} {s0 : State} {recipe : Nat} {s : State} (hp : within [.pkg, .recp, .power, .ctrs] P = true) (h : Frame P s0 s) : FrameO P s0 (execGrantRenewal recipe s) := by
  unfold execGrantRenewal
  with_reducible apply frameO_ite
  · with_reducible apply frameO_next
    with_reducible assumption
  · split
    · with_reducible apply frameO_next
      with_reducible apply frame_ite
      · with_reducible assumption
      · with_reducible apply frame_askRenewal (within_trans (by decide) hp)
        · intro x0 x1 h2
          with_reducible apply frame_admitGrant (within_trans (by decide) hp)
          with_reducible assumption
        · with_reducible assumption
    · with_reducible apply frameO_next
      with_reducible assumption

theorem frame_execGrantEnd {P : List Part} {s0 : State} {kind : SugarKind} {key : Nat} {s : State} (hp : within [.pkg, .recp, .power, .ctrs] P = true) (h : Frame P s0 s) : FrameO P s0 (execGrantEnd kind key s) := by
  unfold execGrantEnd
  with_reducible apply frameO_ite
  · with_reducible apply frameO_next
    with_reducible assumption
  · extract_lets +onlyGivenNames x0
    have h0 : Frame P s0 (x0) := by
      unfold x0
      with_reducible apply frame_endGrant (within_trans (by decide) hp)
      with_reducible assumption
    clear_value x0
    split
    · with_reducible apply frameO_next
      with_reducible apply frame_ite
      · with_reducible assumption
      · with_reducible apply frame_askRenewal (within_trans (by decide) hp)
        · intro x1 x2 h3
          with_reducible apply frame_queueSugar (within_trans (by decide) hp)
          with_reducible assumption
        · with_reducible assumption
    · with_reducible apply frameO_next
      with_reducible assumption

theorem frame_execGrantRampDone {P : List Part} {s0 : State} {kind : SugarKind} {key : Nat} {s : State} (hp : within [.pkg, .power, .ctrs] P = true) (h : Frame P s0 s) : FrameO P s0 (execGrantRampDone kind key s) := by
  unfold execGrantRampDone
  with_reducible apply frameO_ite
  · with_reducible apply frameO_next
    with_reducible assumption
  · with_reducible apply frameO_next
    with_reducible apply frame_endStep (within_trans (by decide) hp)
    with_reducible apply frame_onPower (within_trans (by decide) hp)
    with_reducible assumption

theorem frame_execBallastHoldExpiry {P : List Part} {s0 : State} {s : State} (hp : within [.pkg, .power, .ctrs] P = true) (h : Frame P s0 s) : FrameO P s0 (execBallastHoldExpiry s) := by
  unfold execBallastHoldExpiry
  with_reducible apply frameO_ite
  · with_reducible apply frameO_next
    with_reducible assumption
  · split
    extract_lets +onlyGivenNames x0
    clear_value x0
    extract_lets +onlyGivenNames x1
    have h1 : Frame P s0 (x1) := by
      unfold x1
      with_reducible apply frame_onPower (within_trans (by decide) hp)
      with_reducible assumption
    clear_value x1
    with_reducible apply frameO_next
    with_reducible apply frame_ite
    · with_reducible apply frame_announceStep (within_trans (by decide) hp)
      with_reducible assumption
    · with_reducible apply frame_onlyIf
      · intro x2 h3
        with_reducible apply frame_drawQuiet (within_trans (by decide) hp)
        with_reducible assumption
      · with_reducible assumption

theorem frame_execBallastRampDownDone {P : List Part} {s0 : State} {s : State} (hp : within [.pkg, .power, .ctrs] P = true) (h : Frame P s0 s) : FrameO P s0 (execBallastRampDownDone s) := by
  unfold execBallastRampDownDone
  with_reducible apply frameO_ite
  · with_reducible apply frameO_next
    with_reducible assumption
  · extract_lets +onlyGivenNames x0
    clear_value x0
    extract_lets +onlyGivenNames x1
    have h1 : Frame P s0 (x1) := by
      unfold x1
      with_reducible apply frame_onPower (within_trans (by decide) hp)
      with_reducible assumption
    clear_value x1
    with_reducible apply frameO_next
    with_reducible apply frame_onlyIf
    · intro x2 h3
      with_reducible apply frame_endStep (within_trans (by decide) hp)
      with_reducible assumption
    · with_reducible assumption

theorem frame_execPowerSample {P : List Part} {s0 : State} {rails : List (Rail × Nat × Nat)} {s : State} (hp : within [.pkg, .power, .ctrs] P = true) (h : Frame P s0 s) : FrameO P s0 (execPowerSample rails s) := by
  unfold execPowerSample
  extract_lets +onlyGivenNames x0
  have h0 : Frame P s0 (x0) := by
    unfold x0
    with_reducible apply frame_onPkg (within_trans (by decide) hp)
    with_reducible assumption
  clear_value x0
  extract_lets +onlyGivenNames x1
  have h1 : Frame P s0 (x1) := by
    unfold x1
    with_reducible apply frame_forAll
    · intro x2 x3 h4
      with_reducible apply frame_onlyIf
      · intro x5 h6
        with_reducible apply frame_bump (within_trans (by decide) hp)
        with_reducible assumption
      · with_reducible assumption
    · with_reducible assumption
  clear_value x1
  extract_lets +onlyGivenNames x7
  clear_value x7
  extract_lets +onlyGivenNames x8
  clear_value x8
  with_reducible apply frameO_next
  with_reducible apply frame_onPower (within_trans (by decide) hp)
  with_reducible assumption

theorem frame_execGovernorTick {P : List Part} {s0 : State} {s : State} (hp : within [.pkg, .ledger, .leaves, .power, .sessions, .rings, .kodp, .ctrs, .out] P = true) (h : Frame P s0 s) : FrameO P s0 (execGovernorTick s) := by
  unfold execGovernorTick
  with_reducible apply frameO_ite
  · with_reducible apply frameO_next
    with_reducible assumption
  · extract_lets +onlyGivenNames x0
    clear_value x0
    extract_lets +onlyGivenNames x1
    clear_value x1
    extract_lets +onlyGivenNames x2
    clear_value x2
    extract_lets +onlyGivenNames x3
    clear_value x3
    extract_lets +onlyGivenNames x4
    have h4 : Frame P s0 (x4) := by
      unfold x4
      with_reducible apply frame_onPower (within_trans (by decide) hp)
      with_reducible assumption
    clear_value x4
    extract_lets +onlyGivenNames x5
    clear_value x5
    extract_lets +onlyGivenNames x6
    clear_value x6
    extract_lets +onlyGivenNames x7
    have h7 : Frame P s0 (x7) := by
      unfold x7
      with_reducible apply frame_onPower (within_trans (by decide) hp)
      with_reducible assumption
    clear_value x7
    extract_lets +onlyGivenNames x8
    have h8 : Frame P s0 (x8) := by
      unfold x8
      with_reducible apply frame_bumpBy (within_trans (by decide) hp)
      with_reducible apply frame_bumpBy (within_trans (by decide) hp)
      with_reducible assumption
    clear_value x8
    extract_lets +onlyGivenNames x9
    have h9 : Frame P s0 (x9) := by
      unfold x9
      with_reducible apply frame_onlyIf
      · intro x10 h11
        with_reducible apply frame_forAll
        · intro x12 x13 h14
          with_reducible apply frame_endGrant (within_trans (by decide) hp)
          with_reducible assumption
        · with_reducible assumption
      · with_reducible assumption
    clear_value x9
    extract_lets +onlyGivenNames x15
    have h15 : Frame P s0 (x15) := by
      unfold x15
      with_reducible apply frame_onlyIf
      · intro x16 h17
        with_reducible apply frame_notify (within_trans (by decide) hp)
        with_reducible assumption
      · with_reducible assumption
    clear_value x15
    with_reducible apply frameO_next
    with_reducible apply frame_onlyIf
    · intro x18 h19
      with_reducible apply frame_notifyLimited (within_trans (by decide) hp)
      with_reducible assumption
    · with_reducible assumption

theorem frame_settleBoost {P : List Part} {s0 : State} {k : Nat} {s : State} (hp : within [.pkg, .power, .ctrs] P = true) (h : Frame P s0 s) : Frame P s0 (settleBoost k s) := by
  unfold settleBoost
  extract_lets +onlyGivenNames x0
  clear_value x0
  with_reducible apply frame_ite
  · with_reducible apply frame_ite
    · with_reducible assumption
    · with_reducible apply frame_admitGrant (within_trans (by decide) hp)
      with_reducible assumption
  · with_reducible apply frame_ite
    · with_reducible apply frame_endGrant (within_trans (by decide) hp)
      with_reducible apply frame_onPower (within_trans (by decide) hp)
      with_reducible assumption
    · with_reducible assumption

theorem frame_execFreqStep {P : List Part} {s0 : State} {cluster : Nat} {s : State} (hp : within [.pkg, .power, .ctrs] P = true) (h : Frame P s0 s) : FrameO P s0 (execFreqStep cluster s) := by
  unfold execFreqStep
  with_reducible apply frameO_ite
  · with_reducible apply frameO_next
    with_reducible assumption
  · extract_lets +onlyGivenNames x0
    clear_value x0
    with_reducible apply frameO_next
    with_reducible apply frame_settleBoost (within_trans (by decide) hp)
    with_reducible apply frame_setPunit (within_trans (by decide) hp)
    with_reducible assumption

theorem frame_execNapAllowance {P : List Part} {s0 : State} {s : State} (hp : within [.power, .boot] P = true) (h : Frame P s0 s) : FrameO P s0 (execNapAllowance s) := by
  unfold execNapAllowance
  with_reducible apply frameO_ite
  · with_reducible apply frameO_next
    with_reducible assumption
  · with_reducible apply frameO_next
    with_reducible apply frame_wakeSpares (within_trans (by decide) hp)
    with_reducible apply frame_forAll
    · intro x0 x1 h2
      with_reducible apply frame_ite
      · with_reducible apply frame_setPunit (within_trans (by decide) hp)
        with_reducible apply frame_drawQuiet (within_trans (by decide) hp)
        with_reducible assumption
      · with_reducible assumption
    · with_reducible apply frame_onPower (within_trans (by decide) hp)
      with_reducible assumption

theorem frame_execIdleTimerExpiry {P : List Part} {s0 : State} {unit : Nat} {s : State} (hp : within [.power, .rings, .ctrs] P = true) (h : Frame P s0 s) : FrameO P s0 (execIdleTimerExpiry unit s) := by
  unfold execIdleTimerExpiry
  with_reducible apply frameO_ite
  · with_reducible apply frameO_next
    with_reducible assumption
  · extract_lets +onlyGivenNames x0
    clear_value x0
    with_reducible apply frameO_next
    with_reducible apply frame_onlyIf
    · intro x1 h2
      with_reducible apply frame_chooseState (within_trans (by decide) hp)
      with_reducible assumption
    · with_reducible assumption

theorem frame_execCalendarWake {P : List Part} {s0 : State} {unit : Nat} {s : State} (hp : within [.pkg, .power, .ctrs] P = true) (h : Frame P s0 s) : FrameO P s0 (execCalendarWake unit s) := by
  unfold execCalendarWake
  with_reducible apply frameO_ite
  · with_reducible apply frameO_next
    with_reducible assumption
  · extract_lets +onlyGivenNames x0
    clear_value x0
    with_reducible apply frameO_next
    with_reducible apply frame_onlyIf
    · intro x1 h2
      with_reducible apply frame_beginWake (within_trans (by decide) hp)
      with_reducible apply frame_setPunit (within_trans (by decide) hp)
      with_reducible assumption
    · with_reducible assumption

theorem frame_execPowerEntryDone {P : List Part} {s0 : State} {unit : Nat} {s : State} (hp : within [.pkg, .dir, .dram, .deep, .core, .power, .units, .rings, .ctrs] P = true) (h : Frame P s0 s) : FrameO P s0 (execPowerEntryDone unit s) := by
  unfold execPowerEntryDone
  with_reducible apply frameO_ite
  · with_reducible apply frameO_next
    with_reducible assumption
  · extract_lets +onlyGivenNames x0
    clear_value x0
    split
    · with_reducible apply frameO_next
      with_reducible apply frame_ite
      · with_reducible apply frame_entryDone (within_trans (by decide) hp)
        with_reducible assumption
      · with_reducible assumption
    · with_reducible apply frameO_next
      with_reducible apply frame_ite
      · with_reducible apply frame_beginWake (within_trans (by decide) hp)
        with_reducible apply frame_entryDone (within_trans (by decide) hp)
        with_reducible assumption
      · with_reducible assumption
    · with_reducible apply frameO_next
      with_reducible assumption

theorem frame_execWakeRequest {P : List Part} {s0 : State} {unit : Nat} {s : State} (hp : within [.pkg, .power, .rings, .ctrs, .free] P = true) (h : Frame P s0 s) : FrameO P s0 (execWakeRequest unit s) := by
  unfold execWakeRequest
  with_reducible apply frameO_ite
  · with_reducible apply frameO_next
    with_reducible assumption
  · with_reducible apply frameO_next
    with_reducible apply frame_onlyIf
    · intro x0 h1
      with_reducible apply frame_wakeUnit (within_trans (by decide) hp)
      with_reducible assumption
    · with_reducible assumption

theorem frame_execWakeComplete {P : List Part} {s0 : State} {unit : Nat} {s : State} (hp : within [.dram, .power, .rings, .ctrs] P = true) (h : Frame P s0 s) : FrameO P s0 (execWakeComplete unit s) := by
  unfold execWakeComplete
  with_reducible apply frameO_ite
  · with_reducible apply frameO_next
    with_reducible assumption
  · extract_lets +onlyGivenNames x0
    clear_value x0
    extract_lets +onlyGivenNames x1
    clear_value x1
    with_reducible apply frameO_ite
    · extract_lets +onlyGivenNames x2
      clear_value x2
      extract_lets +onlyGivenNames x3
      have h3 : Frame P s0 (x3) := by
        unfold x3
        with_reducible apply frame_bump (within_trans (by decide) hp)
        with_reducible apply frame_enterState (within_trans (by decide) hp)
        with_reducible assumption
      clear_value x3
      extract_lets +onlyGivenNames x4
      have h4 : Frame P s0 (x4) := by
        unfold x4
        with_reducible apply frame_onlyIf
        · intro x5 h6
          with_reducible apply frame_crumb (within_trans (by decide) hp)
          refine frame_onObs [.rings] (within_trans (by decide) hp) (.inr fun _ => rfl) (.inl rfl) (.inr fun _ => rfl) ?_
          with_reducible assumption
        · with_reducible assumption
      clear_value x4
      extract_lets +onlyGivenNames x7
      have h7 : Frame P s0 (x7) := by
        unfold x7
        with_reducible apply frame_onlyIf
        · intro x8 h9
          with_reducible apply frame_onDram (within_trans (by decide) hp)
          with_reducible assumption
        · with_reducible assumption
      clear_value x7
      extract_lets +onlyGivenNames x10
      clear_value x10
      extract_lets +onlyGivenNames x11
      have h11 : Frame P s0 (x11) := by
        unfold x11
        with_reducible apply frame_setPunit (within_trans (by decide) hp)
        with_reducible apply frame_onPower (within_trans (by decide) hp)
        with_reducible assumption
      clear_value x11
      with_reducible apply frameO_next
      with_reducible apply frame_onlyIf
      · intro x12 h13
        with_reducible apply frame_chooseState (within_trans (by decide) hp)
        with_reducible assumption
      · with_reducible assumption
    · with_reducible apply frameO_next
      with_reducible assumption

theorem frame_execJobOpen {P : List Part} {s0 : State} {r : Req} {job : Nat} {tenant : Nat} {s : State} (hp : within [.ledger, .mirror, .leaves, .power, .sessions, .rings, .kodp, .running, .dict, .ctrs, .out] P = true) (h : Frame P s0 s) : FrameO P s0 (execJobOpen r job tenant s) := by
  unfold execJobOpen
  extract_lets +onlyGivenNames x0
  clear_value x0
  with_reducible apply frameO_next
  with_reducible apply frame_operateOk (within_trans (by decide) hp)
  · intro x1 h2
    with_reducible apply frame_tableChanged (within_trans (by decide) hp)
    with_reducible apply frame_onPower (within_trans (by decide) hp)
    with_reducible assumption
  · with_reducible assumption

theorem frame_execJobClose {P : List Part} {s0 : State} {r : Req} {job : Nat} {s : State} (hp : within [.ledger, .mirror, .leaves, .power, .sessions, .rings, .kodp, .running, .ctrs, .out] P = true) (h : Frame P s0 s) : FrameO P s0 (execJobClose r job s) := by
  unfold execJobClose
  with_reducible apply frameO_next
  with_reducible apply frame_operateOk (within_trans (by decide) hp)
  · intro x0 h1
    with_reducible apply frame_onPower (within_trans (by decide) hp)
    with_reducible assumption
  · with_reducible assumption

theorem frame_execQuietHint {P : List Part} {s0 : State} {r : Req} {clusters : Nat} {stackList : Nat} {stop : Nat} {s : State} (hp : within [.ledger, .mirror, .leaves, .power, .sessions, .rings, .kodp, .running, .ctrs, .out] P = true) (h : Frame P s0 s) : FrameO P s0 (execQuietHint r clusters stackList stop s) := by
  unfold execQuietHint
  with_reducible apply frameO_next
  with_reducible apply frame_operateOk (within_trans (by decide) hp)
  · intro x0 h1
    with_reducible apply frame_forAll
    · intro x2 x3 h4
      with_reducible apply frame_setPunit (within_trans (by decide) hp)
      with_reducible assumption
    · with_reducible assumption
  · with_reducible assumption

theorem frame_execJobStepTimer {P : List Part} {s0 : State} {r : Req} {job : Nat} {first : Nat} {period : Nat} {lead : Nat} {clusters : Nat} {stackList : Nat} {s : State} (hp : within [.ledger, .mirror, .leaves, .power, .sessions, .rings, .kodp, .running, .ctrs, .out] P = true) (h : Frame P s0 s) : FrameO P s0 (execJobStepTimer r job first period lead clusters stackList s) := by
  unfold execJobStepTimer
  with_reducible apply frameO_next
  with_reducible apply frame_operateOk (within_trans (by decide) hp)
  · intro x0 h1
    with_reducible apply frame_onPower (within_trans (by decide) hp)
    with_reducible assumption
  · with_reducible assumption

end Sys2Proof.Machine
end

