-- ==== Sys2Proof/Laws/FrameOpsFlit.lean ====
section
/-!
SUPPORT. Laws/FrameOpsFlit.lean: the frame of every operation and command of Machine/OpsFlit.lean.
-/
namespace Sys2Proof.Machine

theorem frame_queueRecord {P : List Part} {s0 : State} {port : Nat} {rec : List Byte} {s : State} (hp : within [.link] P = true) (h : Frame P s0 s) : Frame P s0 (queueRecord port rec s) := by
  unfold queueRecord
  with_reducible apply frame_setPort (within_trans (by decide) hp)
  with_reducible assumption

theorem frame_sendNak {P : List Part} {s0 : State} {port : Nat} {s : State} (hp : within [.link, .ctrs] P = true) (h : Frame P s0 s) : Frame P s0 (sendNak port s) := by
  unfold sendNak
  extract_lets +onlyGivenNames x0
  clear_value x0
  with_reducible apply frame_bump (within_trans (by decide) hp)
  with_reducible apply frame_queueRecord (within_trans (by decide) hp)
  with_reducible assumption

theorem frame_nakFor {P : List Part} {s0 : State} {port : Nat} {reason : Nat} {s : State} (hp : within [.link, .ctrs] P = true) (h : Frame P s0 s) : Frame P s0 (nakFor port reason s) := by
  unfold nakFor
  with_reducible apply frame_ite
  · with_reducible assumption
  · with_reducible apply frame_sendNak (within_trans (by decide) hp)
    with_reducible apply frame_setPort (within_trans (by decide) hp)
    with_reducible assumption

theorem frame_applyAck {P : List Part} {s0 : State} {port : Nat} {a : Nat} {s : State} (hp : within [.link, .ctrs] P = true) (h : Frame P s0 s) : Frame P s0 (applyAck port a s) := by
  unfold applyAck
  extract_lets +onlyGivenNames x0
  clear_value x0
  extract_lets +onlyGivenNames x1
  clear_value x1
  with_reducible apply frame_ite
  · with_reducible assumption
  · with_reducible apply frame_ite
    · with_reducible apply frame_setPort (within_trans (by decide) hp)
      with_reducible assumption
    · with_reducible apply frame_bump (within_trans (by decide) hp)
      with_reducible assumption

theorem frame_startReplay {P : List Part} {s0 : State} {port : Nat} {n : Nat} {s : State} (hp : within [.link, .txn, .ledger, .leaves, .sessions, .rings, .kodp, .ctrs, .out] P = true) (h : Frame P s0 s) : Frame P s0 (startReplay port n s) := by
  unfold startReplay
  extract_lets +onlyGivenNames x0
  clear_value x0
  with_reducible apply frame_ite
  · with_reducible apply frame_retrainTrigger (within_trans (by decide) hp)
    with_reducible apply frame_timeoutFired (within_trans (by decide) hp)
    with_reducible assumption
  · with_reducible apply frame_bump (within_trans (by decide) hp)
    with_reducible apply frame_setPort (within_trans (by decide) hp)
    with_reducible assumption

theorem frame_takeNak {P : List Part} {s0 : State} {port : Nat} {n : Nat} {s : State} (hp : within [.link, .txn, .ledger, .leaves, .sessions, .rings, .kodp, .ctrs, .out] P = true) (h : Frame P s0 s) : Frame P s0 (takeNak port n s) := by
  unfold takeNak
  extract_lets +onlyGivenNames x0
  have h0 : Frame P s0 (x0) := by
    unfold x0
    with_reducible apply frame_bump (within_trans (by decide) hp)
    with_reducible assumption
  clear_value x0
  extract_lets +onlyGivenNames x1
  clear_value x1
  extract_lets +onlyGivenNames x2
  clear_value x2
  extract_lets +onlyGivenNames x3
  clear_value x3
  with_reducible apply frame_ite
  · with_reducible apply frame_bump (within_trans (by decide) hp)
    with_reducible assumption
  · with_reducible apply frame_startReplay (within_trans (by decide) hp)
    with_reducible apply frame_setPort (within_trans (by decide) hp)
    with_reducible assumption

theorem frame_takeCredit {P : List Part} {s0 : State} {port : Nat} {vc : Nat} {b : List Byte} {s : State} (hp : within [.link] P = true) (h : Frame P s0 s) : Frame P s0 (takeCredit port vc b s) := by
  unfold takeCredit
  with_reducible apply frame_setPort (within_trans (by decide) hp)
  with_reducible assumption

theorem frame_takeCharged {P : List Part} {s0 : State} {port : Nat} {vc : Nat} {b : List Byte} {s : State} (hp : within [.link, .ctrs] P = true) (h : Frame P s0 s) : Frame P s0 (takeCharged port vc b s) := by
  unfold takeCharged
  with_reducible apply frame_forAll
  · intro x0 x1 h2
    extract_lets +onlyGivenNames x3
    clear_value x3
    with_reducible apply frame_ite
    · with_reducible apply frame_bumpBy (within_trans (by decide) hp)
      with_reducible apply frame_setPort (within_trans (by decide) hp)
      with_reducible assumption
    · with_reducible assumption
  · with_reducible assumption

theorem frame_takeRecord {P : List Part} {s0 : State} {port : Nat} {b : List Byte} {s : State} (hp : within [.link, .txn, .ledger, .leaves, .sessions, .time, .rings, .kodp, .ctrs, .out] P = true) (h : Frame P s0 s) : Frame P s0 (takeRecord port b s) := by
  unfold takeRecord
  extract_lets +onlyGivenNames x0
  have h0 : ∀ y0, Frame P s0 y0 → Frame P s0 (x0 y0) := by
    intro x1 h2
    unfold x0
    with_reducible apply frame_bump (within_trans (by decide) hp)
    with_reducible assumption
  clear_value x0
  split
  · with_reducible assumption
  · with_reducible apply frame_takeCredit (within_trans (by decide) hp)
    with_reducible assumption
  · with_reducible apply frame_takeCredit (within_trans (by decide) hp)
    with_reducible assumption
  · with_reducible apply frame_ite
    · with_reducible apply h0
      with_reducible assumption
    · with_reducible apply frame_takeNak (within_trans (by decide) hp)
      with_reducible assumption
  · with_reducible apply frame_ite
    · with_reducible apply frame_takeCharged (within_trans (by decide) hp)
      with_reducible assumption
    · with_reducible apply h0
      with_reducible assumption
  · with_reducible apply frame_ite
    · with_reducible apply frame_takeCharged (within_trans (by decide) hp)
      with_reducible assumption
    · with_reducible apply h0
      with_reducible assumption
  · with_reducible apply frame_takeTimeSync (within_trans (by decide) hp)
    with_reducible assumption
  · with_reducible apply h0
    with_reducible assumption

theorem frame_takeSlots {P : List Part} {s0 : State} {port : Nat} {f : Flit} {hand : Nat → Packet → State → State} {s : State} (hp : within [.link, .txn, .ledger, .leaves, .sessions, .rings, .kodp, .ctrs, .out] P = true) (h_hand : (∀ x0, ∀ x1, ∀ x2, Frame P s0 x2 → Frame P s0 (hand x0 x1 x2))) (h : Frame P s0 s) : Frame P s0 (takeSlots port f hand s) := by
  unfold takeSlots
  split
  · with_reducible apply frame_retrainTrigger (within_trans (by decide) hp)
    with_reducible apply frame_bump (within_trans (by decide) hp)
    with_reducible assumption
  · extract_lets +onlyGivenNames x0
    have h0 : Frame P s0 (x0) := by
      unfold x0
      with_reducible apply frame_setPort (within_trans (by decide) hp)
      with_reducible assumption
    clear_value x0
    with_reducible apply frame_forAll
    · intro x1 x2 h3
      with_reducible apply h_hand
      with_reducible assumption
    · with_reducible assumption

theorem frame_takeHead {P : List Part} {s0 : State} {h1 : Head} {green : Bool} {s : State} (hp : within [.traffic, .leaves, .ctrs] P = true) (h : Frame P s0 s) : Frame P s0 (takeHead h1 green s) := by
  unfold takeHead
  extract_lets +onlyGivenNames x0
  clear_value x0
  extract_lets +onlyGivenNames x1
  have h1 : Frame P s0 (x1) := by
    unfold x1
    refine frame_onTraffic [.leaves, .traffic] (within_trans (by decide) hp) (.inl rfl) (.inl rfl) ?_
    with_reducible assumption
  clear_value x1
  extract_lets +onlyGivenNames x2
  have h2 : Frame P s0 (x2) := by
    unfold x2
    with_reducible apply frame_bumpBy (within_trans (by decide) hp)
    with_reducible assumption
  clear_value x2
  with_reducible apply frame_ite
  · with_reducible apply frame_bumpBy (within_trans (by decide) hp)
    with_reducible apply frame_bumpBy (within_trans (by decide) hp)
    refine frame_onTraffic [.leaves, .traffic] (within_trans (by decide) hp) (.inl rfl) (.inl rfl) ?_
    with_reducible assumption
  · with_reducible assumption

theorem frame_sendPicked {P : List Part} {s0 : State} {h1 : Head} {s : State} (hp : within [.traffic, .leaves, .ctrs] P = true) (h : Frame P s0 s) : Frame P s0 (sendPicked h1 s) := by
  unfold sendPicked
  split
  · with_reducible apply frame_takeHead (within_trans (by decide) hp)
    with_reducible assumption
  · extract_lets +onlyGivenNames x0
    clear_value x0
    extract_lets +onlyGivenNames x1
    clear_value x1
    with_reducible apply frame_takeHead (within_trans (by decide) hp)
    refine frame_onTraffic [.leaves, .traffic] (within_trans (by decide) hp) (.inl rfl) (.inl rfl) ?_
    with_reducible assumption

theorem frame_weighted {P : List Part} {s0 : State} {port : Nat} {a0 : Nat} {a1 : Nat} {s : State} (hp : within [.traffic, .leaves, .ctrs] P = true) (h : Frame P s0 s) : FrameP P s0 (weighted port a0 a1 s) := by
  induction a0 generalizing a1 s with
  | zero =>
    rw [weighted]
    with_reducible apply frame_mk
    with_reducible assumption
  | succ a0 ih =>
    rw [weighted]
    split
    · beta_reduce
      extract_lets +onlyGivenNames x0
      clear_value x0
      with_reducible apply ih
      refine frame_onTraffic [.leaves, .traffic] (within_trans (by decide) hp) (.inl rfl) (.inl rfl) ?_
      with_reducible assumption
    · extract_lets +onlyGivenNames x1
      clear_value x1
      with_reducible apply frame_ite1
      · with_reducible apply frame_mk
        refine frame_onTraffic [.leaves, .traffic] (within_trans (by decide) hp) (.inl rfl) (.inl rfl) ?_
        with_reducible apply frame_sendPicked (within_trans (by decide) hp)
        with_reducible assumption
      · beta_reduce
        extract_lets +onlyGivenNames x2
        clear_value x2
        with_reducible apply ih
        refine frame_onTraffic [.leaves, .traffic] (within_trans (by decide) hp) (.inl rfl) (.inl rfl) ?_
        with_reducible assumption

theorem frame_weightedPick {P : List Part} {s0 : State} {port : Nat} {s : State} (hp : within [.traffic, .leaves, .ctrs] P = true) (h : Frame P s0 s) : FrameP P s0 (weightedPick port s) := by
  unfold weightedPick
  split
  · with_reducible apply frame_mk
    refine frame_of_fst (by with_reducible assumption) ?_
    with_reducible apply frame_weighted (within_trans (by decide) hp)
    with_reducible assumption
  · with_reducible apply frame_mk
    with_reducible assumption

theorem frame_portPick {P : List Part} {s0 : State} {port : Nat} {s : State} (hp : within [.traffic, .leaves, .ctrs] P = true) (h : Frame P s0 s) : FrameP P s0 (portPick port s) := by
  unfold portPick
  split
  · with_reducible apply frame_mk
    with_reducible apply frame_bump (within_trans (by decide) hp)
    with_reducible apply frame_takeHead (within_trans (by decide) hp)
    with_reducible assumption
  · extract_lets +onlyGivenNames x0
    clear_value x0
    extract_lets +onlyGivenNames x1
    clear_value x1
    split
    · with_reducible apply frame_mk
      refine frame_onTraffic [.leaves, .traffic] (within_trans (by decide) hp) (.inl rfl) (.inl rfl) ?_
      with_reducible apply frame_takeHead (within_trans (by decide) hp)
      with_reducible assumption
    · extract_lets +onlyGivenNames x2
      clear_value x2
      extract_lets +onlyGivenNames x3
      clear_value x3
      split
      · extract_lets +onlyGivenNames x4
        clear_value x4
        with_reducible apply frame_ite1
        · with_reducible apply frame_mk
          with_reducible apply frame_onlyIf
          · intro x5 h6
            refine frame_onTraffic [.leaves, .traffic] (within_trans (by decide) hp) (.inl rfl) (.inl rfl) ?_
            with_reducible assumption
          · with_reducible apply frame_sendPicked (within_trans (by decide) hp)
            with_reducible assumption
        · with_reducible apply frame_weightedPick (within_trans (by decide) hp)
          with_reducible assumption
      · with_reducible apply frame_weightedPick (within_trans (by decide) hp)
        with_reducible assumption

theorem frame_linkPick {P : List Part} {s0 : State} {port : Nat} {s : State} (hp : within [.traffic, .leaves, .ctrs] P = true) (h : Frame P s0 s) : FrameP P s0 (linkPick port s) := by
  unfold linkPick
  extract_lets +onlyGivenNames x0
  clear_value x0
  split
  · with_reducible apply frame_mk
    with_reducible apply frame_takeHead (within_trans (by decide) hp)
    with_reducible assumption
  · split
    · with_reducible apply frame_mk
      refine frame_onTraffic [.leaves, .traffic] (within_trans (by decide) hp) (.inl rfl) (.inl rfl) ?_
      with_reducible apply frame_takeHead (within_trans (by decide) hp)
      with_reducible assumption
    · with_reducible apply frame_mk
      with_reducible assumption

theorem frame_fillFlit {P : List Part} {s0 : State} {port : Nat} {a0 : Nat} {a1 : Nat} {a2 : Nat} {a3 : List (List Byte)} {s : State} (hp : within [.link, .traffic, .leaves, .ctrs] P = true) (h : Frame P s0 s) : FrameP P s0 (fillFlit port a0 a1 a2 a3 s) := by
  induction a0 generalizing a1 a2 a3 s with
  | zero =>
    rw [fillFlit]
    with_reducible apply frame_mk
    with_reducible assumption
  | succ a0 ih =>
    rw [fillFlit]
    with_reducible apply frame_ite1
    · with_reducible apply frame_mk
      with_reducible assumption
    · split
      · with_reducible apply frame_mk
        refine frame_of_fst (by with_reducible assumption) ?_
        with_reducible apply frame_ite1
        · with_reducible apply frame_portPick (within_trans (by decide) hp)
          with_reducible assumption
        · with_reducible apply frame_linkPick (within_trans (by decide) hp)
          with_reducible assumption
      · extract_lets +onlyGivenNames x0
        clear_value x0
        extract_lets +onlyGivenNames x1
        clear_value x1
        extract_lets +onlyGivenNames x2
        have h2 : Frame P s0 (x2) := by
          unfold x2
          with_reducible apply frame_setPort (within_trans (by decide) hp)
          refine frame_of_fst (by with_reducible assumption) ?_
          with_reducible apply frame_ite1
          · with_reducible apply frame_portPick (within_trans (by decide) hp)
            with_reducible assumption
          · with_reducible apply frame_linkPick (within_trans (by decide) hp)
            with_reducible assumption
        clear_value x2
        with_reducible apply ih
        with_reducible assumption

theorem frame_dataSlots {P : List Part} {s0 : State} {port : Nat} {s : State} (hp : within [.link, .traffic, .leaves, .ctrs] P = true) (h : Frame P s0 s) : FrameP P s0 (dataSlots port s) := by
  unfold dataSlots
  split
  · extract_lets +onlyGivenNames x0
    clear_value x0
    extract_lets +onlyGivenNames x1
    have h1 : Frame P s0 (x1) := by
      unfold x1
      with_reducible apply frame_setPort (within_trans (by decide) hp)
      with_reducible assumption
    clear_value x1
    split
    with_reducible apply frame_mk
    refine frame_of_fst (by with_reducible assumption) ?_
    with_reducible apply frame_fillFlit (within_trans (by decide) hp)
    with_reducible assumption
  · split
    with_reducible apply frame_mk
    refine frame_of_fst (by with_reducible assumption) ?_
    with_reducible apply frame_fillFlit (within_trans (by decide) hp)
    with_reducible assumption

end Sys2Proof.Machine
end

