-- ==== Sys2Proof/Laws/FrameTraffic.lean ====
section
/-!
SUPPORT. Laws/FrameTraffic.lean: the frame of every operation and command of Machine/Traffic.lean.
-/
namespace Sys2Proof.Machine

theorem frame_adoptTraffic {P : List Part} {s0 : State} {s : State} (hp : within [.traffic] P = true) (h : Frame P s0 s) : Frame P s0 (adoptTraffic s) := by
  unfold adoptTraffic
  extract_lets +onlyGivenNames x0
  clear_value x0
  extract_lets +onlyGivenNames x1
  clear_value x1
  extract_lets +onlyGivenNames x2
  clear_value x2
  refine frame_onTraffic [.traffic] (within_trans (by decide) hp) (.inr fun _ => rfl) (.inl rfl) ?_
  with_reducible assumption

theorem frame_refillAll {P : List Part} {s0 : State} {s : State} (hp : within [.traffic] P = true) (h : Frame P s0 s) : Frame P s0 (refillAll s) := by
  unfold refillAll
  extract_lets +onlyGivenNames x0
  clear_value x0
  extract_lets +onlyGivenNames x1
  clear_value x1
  refine frame_onTraffic [.traffic] (within_trans (by decide) hp) (.inr fun _ => rfl) (.inl rfl) ?_
  with_reducible assumption

theorem frame_releaseHeldRequest {P : List Part} {s0 : State} {port : Nat} {slot : Nat} {p : Packet} {s : State} (hp : within [.pkg, .txn, .ledger, .part, .dir, .mem, .dram, .deep, .integ, .recp, .core, .mirror, .leaves, .power, .sec, .sessions, .obs, .rings, .kodp, .ctrs, .out, .free] P = true) (h : Frame P s0 s) : Frame P s0 (releaseHeldRequest port slot p s) := by
  unfold releaseHeldRequest
  with_reducible apply frame_ite
  · with_reducible apply frame_takeRecipe (within_trans (by decide) hp)
    with_reducible assumption
  · with_reducible apply frame_ite
    · with_reducible apply frame_takeCancel (within_trans (by decide) hp)
      with_reducible assumption
    · with_reducible apply frame_admitRequest (within_trans (by decide) hp)
      with_reducible assumption

theorem frame_retryHeld {P : List Part} {s0 : State} {port : Nat} {slot : Nat} {p : Packet} {s : State} (hp : within [.pkg, .txn, .ledger, .part, .dir, .mem, .dram, .deep, .integ, .mirror, .leaves, .power, .sec, .sessions, .obs, .rings, .kodp, .ctrs, .out, .free] P = true) (h : Frame P s0 s) : Frame P s0 (retryHeld port slot p s) := by
  unfold retryHeld
  with_reducible apply frame_ite
  · with_reducible apply frame_recipeRetry (within_trans (by decide) hp)
    with_reducible assumption
  · with_reducible apply frame_ite
    · with_reducible apply frame_answerCancel (within_trans (by decide) hp)
      with_reducible assumption
    · with_reducible apply frame_policedRetry (within_trans (by decide) hp)
      with_reducible assumption

theorem frame_recolour {P : List Part} {s0 : State} {key : Nat × Nat × Nat} {a0 : Nat} {s : State} (hp : within [.pkg, .txn, .ledger, .part, .dir, .mem, .dram, .deep, .integ, .recp, .core, .mirror, .traffic, .leaves, .power, .sec, .sessions, .obs, .rings, .kodp, .ctrs, .out, .free] P = true) (h : Frame P s0 s) : Frame P s0 (recolour key a0 s) := by
  induction a0 generalizing s with
  | zero =>
    rw [recolour]
    with_reducible assumption
  | succ a0 ih =>
    rw [recolour]
    split
    · refine frame_onTraffic [.leaves, .traffic] (within_trans (by decide) hp) (.inl rfl) (.inl rfl) ?_
      with_reducible assumption
    · extract_lets +onlyGivenNames x0
      clear_value x0
      split
      with_reducible apply frame_ite
      · refine frame_of_fst (by with_reducible assumption) ?_
        with_reducible apply frame_colour (within_trans (by decide) hp)
        with_reducible assumption
      · with_reducible apply ih
        with_reducible apply frame_releaseHeldRequest (within_trans (by decide) hp)
        with_reducible apply frame_bump (within_trans (by decide) hp)
        refine frame_onTraffic [.leaves, .traffic] (within_trans (by decide) hp) (.inl rfl) (.inl rfl) ?_
        refine frame_of_fst (by with_reducible assumption) ?_
        with_reducible apply frame_colour (within_trans (by decide) hp)
        with_reducible assumption

theorem frame_execRefillTick {P : List Part} {s0 : State} {s : State} (hp : within [.pkg, .txn, .ledger, .part, .dir, .mem, .dram, .deep, .integ, .recp, .core, .twin, .mirror, .traffic, .leaves, .power, .sec, .sessions, .obs, .rings, .kodp, .running, .ctrs, .out, .free] P = true) (h : Frame P s0 s) : FrameO P s0 (execRefillTick s) := by
  unfold execRefillTick
  with_reducible apply frameO_ite
  · with_reducible apply frameO_next
    with_reducible assumption
  · extract_lets +onlyGivenNames x0
    have h0 : Frame P s0 (x0) := by
      unfold x0
      with_reducible apply frame_refillAll (within_trans (by decide) hp)
      with_reducible apply frame_adoptTraffic (within_trans (by decide) hp)
      with_reducible assumption
    clear_value x0
    with_reducible apply frameO_next
    with_reducible apply frame_ite
    · with_reducible assumption
    · with_reducible apply frame_settleWaits (within_trans (by decide) hp)
      with_reducible apply frame_forAll
      · intro x1 x2 h3
        with_reducible apply frame_ite
        · with_reducible assumption
        · with_reducible apply frame_recolour (within_trans (by decide) hp)
          with_reducible assumption
      · with_reducible assumption

theorem frame_execHoldLimitExpiry {P : List Part} {s0 : State} {sub : Nat} {port : Nat} {vc : Nat} {s : State} (hp : within [.pkg, .txn, .ledger, .part, .dir, .mem, .dram, .deep, .integ, .mirror, .traffic, .leaves, .power, .sec, .sessions, .obs, .rings, .kodp, .ctrs, .out, .free] P = true) (h : Frame P s0 s) : FrameO P s0 (execHoldLimitExpiry sub port vc s) := by
  unfold execHoldLimitExpiry
  with_reducible apply frameO_ite
  · with_reducible apply frameO_next
    with_reducible assumption
  · with_reducible apply frameO_ite
    · with_reducible apply frameO_next
      with_reducible assumption
    · extract_lets +onlyGivenNames x0
      clear_value x0
      extract_lets +onlyGivenNames x1
      have h1 : Frame P s0 (x1) := by
        unfold x1
        refine frame_onTraffic [.leaves, .traffic] (within_trans (by decide) hp) (.inl rfl) (.inl rfl) ?_
        with_reducible assumption
      clear_value x1
      with_reducible apply frameO_next
      with_reducible apply frame_forAll
      · intro x2 x3 h4
        with_reducible apply frame_bump (within_trans (by decide) hp)
        with_reducible apply frame_retryHeld (within_trans (by decide) hp)
        with_reducible assumption
      · with_reducible assumption

theorem frame_sampleInto {P : List Part} {s0 : State} {key : Nat × Nat × Nat} {depth : Nat} {oldest : Option Nat} {s : State} (hp : within [.traffic] P = true) (h : Frame P s0 s) : Frame P s0 (sampleInto key depth oldest s) := by
  unfold sampleInto
  refine frame_onTraffic [.traffic] (within_trans (by decide) hp) (.inr fun _ => rfl) (.inl rfl) ?_
  with_reducible assumption

theorem frame_execQueueSample {P : List Part} {s0 : State} {s : State} (hp : within [.traffic] P = true) (h : Frame P s0 s) : FrameO P s0 (execQueueSample s) := by
  unfold execQueueSample
  with_reducible apply frameO_ite
  · with_reducible apply frameO_next
    with_reducible assumption
  · extract_lets +onlyGivenNames x0
    have h0 : Frame P s0 (x0) := by
      unfold x0
      refine frame_onTraffic [.traffic] (within_trans (by decide) hp) (.inr fun _ => rfl) (.inl rfl) ?_
      with_reducible assumption
    clear_value x0
    extract_lets +onlyGivenNames x1
    have h1 : Frame P s0 (x1) := by
      unfold x1
      with_reducible apply frame_forAll
      · intro x2 x3 h4
        split
        · with_reducible assumption
        · with_reducible apply frame_forAll
          · intro x5 x6 h7
            extract_lets +onlyGivenNames x8
            clear_value x8
            with_reducible apply frame_sampleInto (within_trans (by decide) hp)
            with_reducible assumption
          · with_reducible assumption
      · with_reducible assumption
    clear_value x1
    extract_lets +onlyGivenNames x9
    have h9 : Frame P s0 (x9) := by
      unfold x9
      with_reducible apply frame_forAll
      · intro x10 x11 h12
        with_reducible apply frame_forAll
        · intro x13 x14 h15
          extract_lets +onlyGivenNames x16
          clear_value x16
          with_reducible apply frame_sampleInto (within_trans (by decide) hp)
          with_reducible assumption
        · with_reducible assumption
      · with_reducible assumption
    clear_value x9
    with_reducible apply frameO_next
    with_reducible apply frame_forAll
    · intro x17 x18 h19
      with_reducible apply frame_sampleInto (within_trans (by decide) hp)
      with_reducible assumption
    · with_reducible assumption

theorem frame_execHistogramClear {P : List Part} {s0 : State} {r : Req} {slot : Nat} {s : State} (hp : within [.ledger, .mirror, .traffic, .leaves, .sessions, .rings, .kodp, .running, .ctrs, .out] P = true) (h : Frame P s0 s) : FrameO P s0 (execHistogramClear r slot s) := by
  unfold execHistogramClear
  with_reducible apply frameO_next
  with_reducible apply frame_operateOk (within_trans (by decide) hp)
  · intro x0 h1
    refine frame_onTraffic [.leaves, .traffic] (within_trans (by decide) hp) (.inl rfl) (.inl rfl) ?_
    with_reducible assumption
  · with_reducible assumption

end Sys2Proof.Machine
end

