-- ==== Sys2Proof/Laws/FrameKodpInvoke.lean ====
section
/-!
SUPPORT. Laws/FrameKodpInvoke.lean: the frame of every operation and command of Machine/KodpInvoke.lean.
-/
namespace Sys2Proof.Machine

theorem frame_ran {P : List Part} {s0 : State} {o : Host.Outcome State Fault Refusal} {s : State} (ho : FrameO P s0 o) (h : Frame P s0 s) : Frame P s0 (ran o s) := by
  unfold ran
  split
  · exact ho _ rfl
  · exact h

theorem frame_unsupported {P : List Part} {s0 : State} {r : Req} {m : KMsg} {s : State} (hp : within [.ledger, .mirror, .leaves, .sessions, .kodp, .running, .ctrs, .out] P = true) (h : Frame P s0 s) : Frame P s0 (unsupported r m s) := by
  unfold unsupported
  with_reducible apply frame_operate (within_trans (by decide) hp)
  · intro x0 h1
    with_reducible apply frame_id
    with_reducible assumption
  · with_reducible assumption

theorem frame_malformedReq {P : List Part} {s0 : State} {r : Req} {m : KMsg} {s : State} (hp : within [.ledger, .mirror, .leaves, .sessions, .kodp, .running, .ctrs, .out] P = true) (h : Frame P s0 s) : Frame P s0 (malformedReq r m s) := by
  unfold malformedReq
  with_reducible apply frame_unsupported (within_trans (by decide) hp)
  with_reducible apply frame_bump (within_trans (by decide) hp)
  with_reducible assumption

theorem frame_withArgs {P : List Part} {s0 : State} {r : Req} {m : KMsg} {ws : List Nat} {run : (Nat → Nat) → Host.Outcome State Fault Refusal} {s : State} (hp : within [.ledger, .mirror, .leaves, .sessions, .kodp, .running, .ctrs, .out] P = true) (h_run : (∀ x0, FrameO P s0 (run x0))) (h : Frame P s0 s) : Frame P s0 (withArgs r m ws run s) := by
  unfold withArgs
  with_reducible apply frame_ite
  · with_reducible apply frame_ran
    · with_reducible apply h_run
    · with_reducible assumption
  · with_reducible apply frame_malformedReq (within_trans (by decide) hp)
    with_reducible assumption

theorem frame_spdmMessage {P : List Part} {s0 : State} {r : Req} {b : List Byte} {s : State} (hp : within [.ledger, .mirror, .leaves, .sec, .sessions, .rings, .kodp, .running, .ctrs, .out] P = true) (h : Frame P s0 s) : FrameO P s0 (spdmMessage r b s) := by
  unfold spdmMessage
  extract_lets +onlyGivenNames x0
  clear_value x0
  split
  · with_reducible apply frame_execGetVersion (within_trans (by decide) hp)
    with_reducible assumption
  · with_reducible apply frame_execGetCapabilities (within_trans (by decide) hp)
    with_reducible assumption
  · with_reducible apply frame_execNegotiateAlgorithms (within_trans (by decide) hp)
    with_reducible assumption
  · with_reducible apply frame_execGetDigests (within_trans (by decide) hp)
    with_reducible assumption
  · with_reducible apply frame_execGetCertificate (within_trans (by decide) hp)
    with_reducible assumption
  · with_reducible apply frame_execChallenge (within_trans (by decide) hp)
    with_reducible assumption
  · with_reducible apply frame_execGetMeasurements (within_trans (by decide) hp)
    with_reducible assumption
  · with_reducible apply frame_execKeyExchange (within_trans (by decide) hp)
    with_reducible assumption
  · extract_lets +onlyGivenNames x1
    clear_value x1
    with_reducible apply frame_execFinish (within_trans (by decide) hp)
    with_reducible assumption
  · with_reducible apply frame_execSpdmHeartbeat (within_trans (by decide) hp)
    with_reducible assumption
  · with_reducible apply frame_execKeyUpdate (within_trans (by decide) hp)
    with_reducible assumption
  · with_reducible apply frame_execEndSession (within_trans (by decide) hp)
    with_reducible assumption
  · with_reducible apply frame_spdm (within_trans (by decide) hp)
    · intro x2 h3
      with_reducible apply frame_mk
      with_reducible assumption
    · with_reducible assumption

theorem frame_invokeSpdm {P : List Part} {s0 : State} {r : Req} {m : KMsg} {s : State} (hp : within [.ledger, .mirror, .leaves, .sec, .sessions, .rings, .kodp, .running, .ctrs, .out] P = true) (h : Frame P s0 s) : Frame P s0 (invokeSpdm r m s) := by
  unfold invokeSpdm
  extract_lets +onlyGivenNames x0
  clear_value x0
  with_reducible apply frame_ite
  · with_reducible apply frame_malformedReq (within_trans (by decide) hp)
    with_reducible assumption
  · with_reducible apply frame_ite
    · with_reducible apply frame_unsupported (within_trans (by decide) hp)
      with_reducible assumption
    · with_reducible apply frame_ran
      · with_reducible apply frame_spdmMessage (within_trans (by decide) hp)
        with_reducible assumption
      · with_reducible assumption

theorem frame_invokeKeys {P : List Part} {s0 : State} {r : Req} {m : KMsg} {s : State} (hp : within [.pkg, .ledger, .mem, .dram, .mirror, .leaves, .power, .sec, .sessions, .rings, .kodp, .running, .ctrs, .out, .free] P = true) (h : Frame P s0 s) : Frame P s0 (invokeKeys r m s) := by
  unfold invokeKeys
  extract_lets +onlyGivenNames x0
  clear_value x0
  extract_lets +onlyGivenNames x1
  clear_value x1
  extract_lets +onlyGivenNames x2
  clear_value x2
  split
  · with_reducible apply frame_withArgs (within_trans (by decide) hp)
    · intro x3
      with_reducible apply frame_execMemKeySet (within_trans (by decide) hp)
      with_reducible assumption
    · with_reducible assumption
  · with_reducible apply frame_withArgs (within_trans (by decide) hp)
    · intro x4
      with_reducible apply frame_execMemKeyDestroy (within_trans (by decide) hp)
      with_reducible assumption
    · with_reducible assumption
  · with_reducible apply frame_withArgs (within_trans (by decide) hp)
    · intro x5
      with_reducible apply frame_execJobKeySet (within_trans (by decide) hp)
      with_reducible assumption
    · with_reducible assumption
  · extract_lets +onlyGivenNames x6
    clear_value x6
    with_reducible apply frame_withArgs (within_trans (by decide) hp)
    · intro x7
      with_reducible apply frame_execJobBind (within_trans (by decide) hp)
      with_reducible assumption
    · with_reducible assumption
  · with_reducible apply frame_withArgs (within_trans (by decide) hp)
    · intro x8
      with_reducible apply frame_execJobKeyDestroy (within_trans (by decide) hp)
      with_reducible assumption
    · with_reducible assumption
  · with_reducible apply frame_withArgs (within_trans (by decide) hp)
    · intro x9
      with_reducible apply frame_execKernelSignKeySet (within_trans (by decide) hp)
      with_reducible assumption
    · with_reducible assumption
  · with_reducible apply frame_withArgs (within_trans (by decide) hp)
    · intro x10
      with_reducible apply frame_execTenantSeal (within_trans (by decide) hp)
      with_reducible assumption
    · with_reducible assumption
  · with_reducible apply frame_unsupported (within_trans (by decide) hp)
    with_reducible assumption

theorem frame_invokePort {P : List Part} {s0 : State} {r : Req} {m : KMsg} {s : State} (hp : within [.link, .txn, .ledger, .deep, .mirror, .traffic, .leaves, .sessions, .rings, .kodp, .running, .ctrs, .out] P = true) (h : Frame P s0 s) : Frame P s0 (invokePort r m s) := by
  unfold invokePort
  with_reducible apply frame_withArgs (within_trans (by decide) hp)
  · intro x0
    split
    · with_reducible apply frame_execPortEnable (within_trans (by decide) hp)
      with_reducible assumption
    · with_reducible apply frame_execPortDisable (within_trans (by decide) hp)
      with_reducible assumption
    · with_reducible apply frame_execPortRetrain (within_trans (by decide) hp)
      with_reducible assumption
    · with_reducible apply frame_execPortLaneRestore (within_trans (by decide) hp)
      with_reducible assumption
    · with_reducible apply frameO_next
      with_reducible apply frame_unsupported (within_trans (by decide) hp)
      with_reducible assumption
  · with_reducible assumption

theorem frame_invokeObserve {P : List Part} {s0 : State} {r : Req} {m : KMsg} {s : State} (hp : within [.pkg, .txn, .ledger, .part, .dir, .mem, .dram, .deep, .integ, .mirror, .leaves, .power, .sessions, .obs, .time, .rings, .kodp, .running, .ctrs, .out, .free] P = true) (h : Frame P s0 s) : Frame P s0 (invokeObserve r m s) := by
  unfold invokeObserve
  extract_lets +onlyGivenNames x0
  clear_value x0
  split
  · with_reducible apply frame_withArgs (within_trans (by decide) hp)
    · intro x1
      with_reducible apply frame_execTimeSet (within_trans (by decide) hp)
      with_reducible assumption
    · with_reducible assumption
  · with_reducible apply frame_withArgs (within_trans (by decide) hp)
    · intro x2
      with_reducible apply frame_execCounterSnapshot (within_trans (by decide) hp)
      with_reducible assumption
    · with_reducible assumption
  · with_reducible apply frame_ite
    · with_reducible apply frame_withArgs (within_trans (by decide) hp)
      · intro x3
        with_reducible apply frame_execCrumbRead (within_trans (by decide) hp)
        with_reducible assumption
      · with_reducible assumption
    · with_reducible apply frame_withArgs (within_trans (by decide) hp)
      · intro x4
        with_reducible apply frame_execCrumbRead (within_trans (by decide) hp)
        with_reducible assumption
      · with_reducible assumption
  · with_reducible apply frame_withArgs (within_trans (by decide) hp)
    · intro x5
      with_reducible apply frame_execCrumbRelease (within_trans (by decide) hp)
      with_reducible assumption
    · with_reducible assumption
  · with_reducible apply frame_withArgs (within_trans (by decide) hp)
    · intro x6
      with_reducible apply frame_execTensorRegister (within_trans (by decide) hp)
      with_reducible assumption
    · with_reducible assumption
  · with_reducible apply frame_withArgs (within_trans (by decide) hp)
    · intro x7
      with_reducible apply frame_execDumpArm (within_trans (by decide) hp)
      with_reducible assumption
    · with_reducible assumption
  · with_reducible apply frame_withArgs (within_trans (by decide) hp)
    · intro x8
      with_reducible apply frame_execDumpCancel (within_trans (by decide) hp)
      with_reducible assumption
    · with_reducible assumption
  · with_reducible apply frame_withArgs (within_trans (by decide) hp)
    · intro x9
      with_reducible apply frame_execDebugStop (within_trans (by decide) hp)
      with_reducible assumption
    · with_reducible assumption
  · with_reducible apply frame_withArgs (within_trans (by decide) hp)
    · intro x10
      with_reducible apply frame_execDebugResume (within_trans (by decide) hp)
      with_reducible assumption
    · with_reducible assumption
  · with_reducible apply frame_unsupported (within_trans (by decide) hp)
    with_reducible assumption

theorem frame_invokeDeep {P : List Part} {s0 : State} {r : Req} {m : KMsg} {s : State} (hp : within [.pkg, .txn, .ledger, .part, .dir, .mem, .dram, .deep, .integ, .recp, .twin, .mirror, .traffic, .leaves, .power, .sec, .sessions, .obs, .rings, .kodp, .running, .ctrs, .out, .free] P = true) (h : Frame P s0 s) : Frame P s0 (invokeDeep r m s) := by
  unfold invokeDeep
  split
  · with_reducible apply frame_withArgs (within_trans (by decide) hp)
    · intro x0
      with_reducible apply frame_execDeepPin (within_trans (by decide) hp)
      with_reducible assumption
    · with_reducible assumption
  · with_reducible apply frame_withArgs (within_trans (by decide) hp)
    · intro x1
      with_reducible apply frame_execDeepUnpin (within_trans (by decide) hp)
      with_reducible assumption
    · with_reducible assumption
  · with_reducible apply frame_withArgs (within_trans (by decide) hp)
    · intro x2
      with_reducible apply frame_execDeepPrefetch (within_trans (by decide) hp)
      with_reducible assumption
    · with_reducible assumption
  · with_reducible apply frame_withArgs (within_trans (by decide) hp)
    · intro x3
      with_reducible apply frame_execDeepFlush (within_trans (by decide) hp)
      with_reducible assumption
    · with_reducible assumption
  · with_reducible apply frame_withArgs (within_trans (by decide) hp)
    · intro x4
      with_reducible apply frame_execDeepTrim (within_trans (by decide) hp)
      with_reducible assumption
    · with_reducible assumption
  · with_reducible apply frame_withArgs (within_trans (by decide) hp)
    · intro x5
      with_reducible apply frame_execSledClaimForce (within_trans (by decide) hp)
      with_reducible assumption
    · with_reducible assumption
  · with_reducible apply frame_withArgs (within_trans (by decide) hp)
    · intro x6
      with_reducible apply frameO_ite
      · with_reducible apply frame_execChannelRetrain (within_trans (by decide) hp)
        with_reducible assumption
      · with_reducible apply frameO_next
        with_reducible apply frame_unsupported (within_trans (by decide) hp)
        with_reducible assumption
    · with_reducible assumption
  · with_reducible apply frame_unsupported (within_trans (by decide) hp)
    with_reducible assumption

theorem frame_invokeTenant {P : List Part} {s0 : State} {r : Req} {m : KMsg} {s : State} (hp : within [.pkg, .link, .txn, .ledger, .dir, .mem, .dram, .recp, .core, .twin, .mirror, .traffic, .leaves, .power, .sec, .sessions, .boot, .obs, .rings, .kodp, .running, .ctrs, .out, .free] P = true) (h : Frame P s0 s) : Frame P s0 (invokeTenant r m s) := by
  unfold invokeTenant
  split
  · with_reducible apply frame_withArgs (within_trans (by decide) hp)
    · intro x0
      with_reducible apply frame_execTenantCreate (within_trans (by decide) hp)
      with_reducible assumption
    · with_reducible assumption
  · with_reducible apply frame_withArgs (within_trans (by decide) hp)
    · intro x1
      with_reducible apply frame_execTenantRetire (within_trans (by decide) hp)
      with_reducible assumption
    · with_reducible assumption
  · with_reducible apply frame_withArgs (within_trans (by decide) hp)
    · intro x2
      with_reducible apply frame_execDebugChallenge (within_trans (by decide) hp)
      with_reducible assumption
    · with_reducible assumption
  · with_reducible apply frame_withArgs (within_trans (by decide) hp)
    · intro x3
      with_reducible apply frame_execDebugToken (within_trans (by decide) hp)
      with_reducible assumption
    · with_reducible assumption
  · with_reducible apply frame_withArgs (within_trans (by decide) hp)
    · intro x4
      with_reducible apply frame_execDebugWithdraw (within_trans (by decide) hp)
      with_reducible assumption
    · with_reducible assumption
  · with_reducible apply frame_withArgs (within_trans (by decide) hp)
    · intro x5
      with_reducible apply frame_execDebugKeySet (within_trans (by decide) hp)
      with_reducible assumption
    · with_reducible assumption
  · with_reducible apply frame_unsupported (within_trans (by decide) hp)
    with_reducible assumption

theorem frame_invokeFirmware {P : List Part} {s0 : State} {r : Req} {m : KMsg} {s : State} (hp : within [.pkg, .ledger, .mirror, .leaves, .sec, .sessions, .boot, .fw, .obs, .rings, .kodp, .running, .ctrs, .out, .free] P = true) (h : Frame P s0 s) : Frame P s0 (invokeFirmware r m s) := by
  unfold invokeFirmware
  split
  · with_reducible apply frame_withArgs (within_trans (by decide) hp)
    · intro x0
      with_reducible apply frame_execFwBegin (within_trans (by decide) hp)
      with_reducible assumption
    · with_reducible assumption
  · with_reducible apply frame_withArgs (within_trans (by decide) hp)
    · intro x1
      with_reducible apply frame_execFwBlock (within_trans (by decide) hp)
      with_reducible assumption
    · with_reducible assumption
  · with_reducible apply frame_withArgs (within_trans (by decide) hp)
    · intro x2
      with_reducible apply frame_execFwVerify (within_trans (by decide) hp)
      with_reducible assumption
    · with_reducible assumption
  · with_reducible apply frame_withArgs (within_trans (by decide) hp)
    · intro x3
      with_reducible apply frame_execFwActivate (within_trans (by decide) hp)
      with_reducible assumption
    · with_reducible assumption
  · with_reducible apply frame_withArgs (within_trans (by decide) hp)
    · intro x4
      with_reducible apply frame_execFwAbort (within_trans (by decide) hp)
      with_reducible assumption
    · with_reducible assumption
  · with_reducible apply frame_withArgs (within_trans (by decide) hp)
    · intro x5
      with_reducible apply frame_execFwRaiseSvn (within_trans (by decide) hp)
      with_reducible assumption
    · with_reducible assumption
  · with_reducible apply frame_unsupported (within_trans (by decide) hp)
    with_reducible assumption

theorem frame_invokeBoot {P : List Part} {s0 : State} {r : Req} {m : KMsg} {s : State} (hp : within Part.every P = true) (h : Frame P s0 s) : Frame P s0 (invokeBoot r m s) := by
  unfold invokeBoot
  split
  · with_reducible apply frame_withArgs (within_trans (by decide) hp)
    · intro x0
      with_reducible apply frame_execResetCore (within_trans (by decide) hp)
      with_reducible assumption
    · with_reducible assumption
  · with_reducible apply frame_withArgs (within_trans (by decide) hp)
    · intro x1
      with_reducible apply frame_execResetCluster (within_trans (by decide) hp)
      with_reducible assumption
    · with_reducible assumption
  · with_reducible apply frame_withArgs (within_trans (by decide) hp)
    · intro x2
      with_reducible apply frame_execResetPartition (within_trans (by decide) hp)
      with_reducible assumption
    · with_reducible assumption
  · with_reducible apply frame_withArgs (within_trans (by decide) hp)
    · intro x3
      with_reducible apply frame_execResetPackage (within_trans (by decide) hp)
      with_reducible assumption
    · with_reducible assumption
  · with_reducible apply frame_withArgs (within_trans (by decide) hp)
    · intro x4
      with_reducible apply frame_execRetireUnit (within_trans (by decide) hp)
      with_reducible assumption
    · with_reducible assumption
  · with_reducible apply frame_withArgs (within_trans (by decide) hp)
    · intro x5
      with_reducible apply frame_execServiceOut (within_trans (by decide) hp)
      with_reducible assumption
    · with_reducible assumption
  · with_reducible apply frame_withArgs (within_trans (by decide) hp)
    · intro x6
      with_reducible apply frame_execServiceRecal (within_trans (by decide) hp)
      with_reducible assumption
    · with_reducible assumption
  · with_reducible apply frame_withArgs (within_trans (by decide) hp)
    · intro x7
      with_reducible apply frame_execServiceReplace (within_trans (by decide) hp)
      with_reducible assumption
    · with_reducible assumption
  · with_reducible apply frame_withArgs (within_trans (by decide) hp)
    · intro x8
      with_reducible apply frame_execServiceIn (within_trans (by decide) hp)
      with_reducible assumption
    · with_reducible assumption
  · with_reducible apply frame_unsupported (within_trans (by decide) hp)
    with_reducible assumption

theorem frame_invokeWork {P : List Part} {s0 : State} {r : Req} {m : KMsg} {s : State} (hp : within [.pkg, .txn, .ledger, .part, .dir, .mem, .dram, .deep, .integ, .recp, .core, .twin, .mirror, .traffic, .leaves, .power, .sec, .sessions, .obs, .rings, .kodp, .running, .dict, .ctrs, .out, .free] P = true) (h : Frame P s0 s) : Frame P s0 (invokeWork r m s) := by
  unfold invokeWork
  split
  · with_reducible apply frame_withArgs (within_trans (by decide) hp)
    · intro x0
      with_reducible apply frame_execCtxInvalidate (within_trans (by decide) hp)
      with_reducible assumption
    · with_reducible assumption
  · with_reducible apply frame_withArgs (within_trans (by decide) hp)
    · intro x1
      with_reducible apply frame_execRecallRange (within_trans (by decide) hp)
      with_reducible assumption
    · with_reducible assumption
  · with_reducible apply frame_withArgs (within_trans (by decide) hp)
    · intro x2
      with_reducible apply frame_execPartnerEvict (within_trans (by decide) hp)
      with_reducible assumption
    · with_reducible assumption
  · with_reducible apply frame_withArgs (within_trans (by decide) hp)
    · intro x3
      with_reducible apply frame_execFqOverflowClear (within_trans (by decide) hp)
      with_reducible assumption
    · with_reducible assumption
  · with_reducible apply frame_withArgs (within_trans (by decide) hp)
    · intro x4
      with_reducible apply frame_execDirectoryLookup (within_trans (by decide) hp)
      with_reducible assumption
    · with_reducible assumption
  · with_reducible apply frame_withArgs (within_trans (by decide) hp)
    · intro x5
      with_reducible apply frame_execErrorLogClear (within_trans (by decide) hp)
      with_reducible assumption
    · with_reducible assumption
  · with_reducible apply frame_withArgs (within_trans (by decide) hp)
    · intro x6
      with_reducible apply frame_execDeepSetRelease (within_trans (by decide) hp)
      with_reducible assumption
    · with_reducible assumption
  · with_reducible apply frame_withArgs (within_trans (by decide) hp)
    · intro x7
      with_reducible apply frame_execPoisonInject (within_trans (by decide) hp)
      with_reducible assumption
    · with_reducible assumption
  · with_reducible apply frame_withArgs (within_trans (by decide) hp)
    · intro x8
      with_reducible apply frame_execRecipeAbort (within_trans (by decide) hp)
      with_reducible assumption
    · with_reducible assumption
  · with_reducible apply frame_withArgs (within_trans (by decide) hp)
    · intro x9
      with_reducible apply frame_execKernelLoad (within_trans (by decide) hp)
      with_reducible assumption
    · with_reducible assumption
  · with_reducible apply frame_withArgs (within_trans (by decide) hp)
    · intro x10
      with_reducible apply frame_execKernelUnload (within_trans (by decide) hp)
      with_reducible assumption
    · with_reducible assumption
  · with_reducible apply frame_withArgs (within_trans (by decide) hp)
    · intro x11
      with_reducible apply frame_execTwinForce (within_trans (by decide) hp)
      with_reducible assumption
    · with_reducible assumption
  · with_reducible apply frame_withArgs (within_trans (by decide) hp)
    · intro x12
      with_reducible apply frame_execTwinForceCancel (within_trans (by decide) hp)
      with_reducible assumption
    · with_reducible assumption
  · with_reducible apply frame_withArgs (within_trans (by decide) hp)
    · intro x13
      with_reducible apply frame_execTwinHandover (within_trans (by decide) hp)
      with_reducible assumption
    · with_reducible assumption
  · with_reducible apply frame_withArgs (within_trans (by decide) hp)
    · intro x14
      with_reducible apply frame_execTwinQuiesce (within_trans (by decide) hp)
      with_reducible assumption
    · with_reducible assumption
  · with_reducible apply frame_withArgs (within_trans (by decide) hp)
    · intro x15
      with_reducible apply frame_execHistogramClear (within_trans (by decide) hp)
      with_reducible assumption
    · with_reducible assumption
  · with_reducible apply frame_withArgs (within_trans (by decide) hp)
    · intro x16
      with_reducible apply frame_execJobOpen (within_trans (by decide) hp)
      with_reducible assumption
    · with_reducible assumption
  · with_reducible apply frame_withArgs (within_trans (by decide) hp)
    · intro x17
      with_reducible apply frame_execJobClose (within_trans (by decide) hp)
      with_reducible assumption
    · with_reducible assumption
  · with_reducible apply frame_withArgs (within_trans (by decide) hp)
    · intro x18
      with_reducible apply frame_execQuietHint (within_trans (by decide) hp)
      with_reducible assumption
    · with_reducible assumption
  · with_reducible apply frame_withArgs (within_trans (by decide) hp)
    · intro x19
      with_reducible apply frame_execJobStepTimer (within_trans (by decide) hp)
      with_reducible assumption
    · with_reducible assumption
  · with_reducible apply frame_unsupported (within_trans (by decide) hp)
    with_reducible assumption

theorem frame_invoke {P : List Part} {s0 : State} {r : Req} {m : KMsg} {s : State} (hp : within Part.every P = true) (h : Frame P s0 s) : Frame P s0 (invoke r m s) := by
  unfold invoke
  split
  · with_reducible apply frame_ite
    · with_reducible apply frame_invokePort (within_trans (by decide) hp)
      with_reducible assumption
    · with_reducible apply frame_unsupported (within_trans (by decide) hp)
      with_reducible assumption
  · with_reducible apply frame_invokeDeep (within_trans (by decide) hp)
    with_reducible assumption
  · with_reducible apply frame_ite
    · with_reducible apply frame_invokeSpdm (within_trans (by decide) hp)
      with_reducible assumption
    · with_reducible apply frame_unsupported (within_trans (by decide) hp)
      with_reducible assumption
  · with_reducible apply frame_invokeTenant (within_trans (by decide) hp)
    with_reducible assumption
  · with_reducible apply frame_invokeKeys (within_trans (by decide) hp)
    with_reducible assumption
  · with_reducible apply frame_invokeBoot (within_trans (by decide) hp)
    with_reducible assumption
  · with_reducible apply frame_invokeBoot (within_trans (by decide) hp)
    with_reducible assumption
  · with_reducible apply frame_invokeFirmware (within_trans (by decide) hp)
    with_reducible assumption
  · with_reducible apply frame_invokeObserve (within_trans (by decide) hp)
    with_reducible assumption
  · with_reducible apply frame_invokeWork (within_trans (by decide) hp)
    with_reducible assumption

theorem frame_readReq {P : List Part} {s0 : State} {r : Req} {m : KMsg} {s : State} (hp : within [.ledger, .mirror, .leaves, .sessions, .rings, .kodp, .running, .ctrs, .out] P = true) (h : Frame P s0 s) : Frame P s0 (readReq r m s) := by
  unfold readReq
  with_reducible apply frame_ite
  · with_reducible apply frame_malformedReq (within_trans (by decide) hp)
    with_reducible assumption
  · split
    · extract_lets +onlyGivenNames x0
      clear_value x0
      with_reducible apply frame_operate (within_trans (by decide) hp)
      · intro x1 h2
        with_reducible apply frame_reply (within_trans (by decide) hp)
        with_reducible assumption
      · with_reducible assumption
    · with_reducible apply frame_unsupported (within_trans (by decide) hp)
      with_reducible assumption

theorem frame_writeReq {P : List Part} {s0 : State} {r : Req} {m : KMsg} {s : State} (hp : within [.txn, .ledger, .deep, .twin, .mirror, .leaves, .sessions, .time, .rings, .kodp, .running, .dict, .ctrs, .out] P = true) (h : Frame P s0 s) : Frame P s0 (writeReq r m s) := by
  unfold writeReq
  split
  · with_reducible apply frame_withArgs (within_trans (by decide) hp)
    · intro x0
      with_reducible apply frame_execObjectWrite (within_trans (by decide) hp)
      with_reducible assumption
    · with_reducible assumption
  · with_reducible apply frame_unsupported (within_trans (by decide) hp)
    with_reducible assumption

theorem frame_tableSync {P : List Part} {s0 : State} {index : Nat} {seenAs : Nat} {v : TabView} {s : State} (hp : within [.dict, .free] P = true) (h : Frame P s0 s) : Frame P s0 (tableSync index seenAs v s) := by
  unfold tableSync
  with_reducible apply frame_ite
  · with_reducible assumption
  · extract_lets +onlyGivenNames x0
    clear_value x0
    extract_lets +onlyGivenNames x1
    clear_value x1
    extract_lets +onlyGivenNames x2
    clear_value x2
    extract_lets +onlyGivenNames x3
    clear_value x3
    with_reducible apply frame_tableRaised (within_trans (by decide) hp)
    with_reducible apply frame_useFree (within_trans (by decide) hp)
    refine frame_onKodp [.dict] (within_trans (by decide) hp) (.inr fun _ => rfl) (.inl rfl) (.inr fun _ => rfl) ?_
    with_reducible assumption

theorem frame_tableReadReq {P : List Part} {s0 : State} {r : Req} {m : KMsg} {s : State} (hp : within [.ledger, .mirror, .leaves, .sessions, .rings, .kodp, .running, .dict, .ctrs, .out, .free] P = true) (h : Frame P s0 s) : Frame P s0 (tableReadReq r m s) := by
  unfold tableReadReq
  with_reducible apply frame_ite
  · with_reducible apply frame_malformedReq (within_trans (by decide) hp)
    with_reducible assumption
  · split
    · extract_lets +onlyGivenNames x0
      clear_value x0
      with_reducible apply frame_ite
      · with_reducible apply frame_unsupported (within_trans (by decide) hp)
        with_reducible assumption
      · with_reducible apply frame_operate (within_trans (by decide) hp)
        · intro x1 h2
          extract_lets +onlyGivenNames x3
          have h3 : Frame P s0 (x3) := by
            unfold x3
            with_reducible apply frame_tableSync (within_trans (by decide) hp)
            with_reducible assumption
          clear_value x3
          with_reducible apply frame_reply (within_trans (by decide) hp)
          with_reducible assumption
        · with_reducible assumption
    · with_reducible apply frame_unsupported (within_trans (by decide) hp)
      with_reducible assumption

theorem frame_tableWriteReq {P : List Part} {s0 : State} {r : Req} {m : KMsg} {s : State} (hp : within [.ledger, .part, .mirror, .leaves, .sessions, .rings, .kodp, .running, .dict, .ctrs, .out] P = true) (h : Frame P s0 s) : Frame P s0 (tableWriteReq r m s) := by
  unfold tableWriteReq
  split
  · with_reducible apply frame_unsupported (within_trans (by decide) hp)
    with_reducible assumption
  · extract_lets +onlyGivenNames x0
    clear_value x0
    extract_lets +onlyGivenNames x1
    clear_value x1
    with_reducible apply frame_ite
    · with_reducible apply frame_malformedReq (within_trans (by decide) hp)
      with_reducible assumption
    · with_reducible apply frame_ite
      · with_reducible apply frame_unsupported (within_trans (by decide) hp)
        with_reducible assumption
      · extract_lets +onlyGivenNames x2
        clear_value x2
        with_reducible apply frame_ran
        · with_reducible apply frameO_ite
          · with_reducible apply frame_execTablePut (within_trans (by decide) hp)
            with_reducible assumption
          · with_reducible apply frame_execTableDelete (within_trans (by decide) hp)
            with_reducible assumption
        · with_reducible assumption

theorem frame_putSub {P : List Part} {s0 : State} {b : Machine.Sub} {s : State} (hp : within [.kodp] P = true) (h : Frame P s0 s) : Frame P s0 (putSub b s) := by
  unfold putSub
  refine frame_onKodp [.kodp] (within_trans (by decide) hp) (.inr fun _ => rfl) (.inr fun _ => rfl) (.inl rfl) ?_
  with_reducible assumption

theorem frame_subscribeReq {P : List Part} {s0 : State} {r : Req} {codes : List Nat} {s : State} (hp : within [.ledger, .mirror, .leaves, .sessions, .rings, .kodp, .running, .ctrs, .out] P = true) (h : Frame P s0 s) : Frame P s0 (subscribeReq r codes s) := by
  unfold subscribeReq
  extract_lets +onlyGivenNames x0
  clear_value x0
  extract_lets +onlyGivenNames x1
  clear_value x1
  extract_lets +onlyGivenNames x2
  clear_value x2
  extract_lets +onlyGivenNames x3
  clear_value x3
  extract_lets +onlyGivenNames x4
  clear_value x4
  extract_lets +onlyGivenNames x5
  clear_value x5
  with_reducible apply frame_operate (within_trans (by decide) hp)
  · intro x6 h7
    extract_lets +onlyGivenNames x8
    clear_value x8
    with_reducible apply frame_reply (within_trans (by decide) hp)
    with_reducible apply frame_putSub (within_trans (by decide) hp)
    with_reducible assumption
  · with_reducible assumption

theorem frame_unsubscribeReq {P : List Part} {s0 : State} {r : Req} {codes : List Nat} {s : State} (hp : within [.ledger, .mirror, .leaves, .sessions, .rings, .kodp, .running, .ctrs, .out] P = true) (h : Frame P s0 s) : Frame P s0 (unsubscribeReq r codes s) := by
  unfold unsubscribeReq
  with_reducible apply frame_operate (within_trans (by decide) hp)
  · intro x0 h1
    with_reducible apply frame_reply (within_trans (by decide) hp)
    split
    · with_reducible assumption
    · extract_lets +onlyGivenNames x2
      clear_value x2
      extract_lets +onlyGivenNames x3
      clear_value x3
      with_reducible apply frame_putSub (within_trans (by decide) hp)
      with_reducible assumption
  · with_reducible assumption

theorem frame_subReq {P : List Part} {s0 : State} {r : Req} {m : KMsg} {s : State} (hp : within [.ledger, .mirror, .leaves, .sessions, .rings, .kodp, .running, .ctrs, .out] P = true) (h : Frame P s0 s) : Frame P s0 (subReq r m s) := by
  unfold subReq
  extract_lets +onlyGivenNames x0
  clear_value x0
  with_reducible apply frame_ite
  · with_reducible apply frame_malformedReq (within_trans (by decide) hp)
    with_reducible assumption
  · extract_lets +onlyGivenNames x1
    clear_value x1
    with_reducible apply frame_ite
    · with_reducible apply frame_subscribeReq (within_trans (by decide) hp)
      with_reducible assumption
    · with_reducible apply frame_unsubscribeReq (within_trans (by decide) hp)
      with_reducible assumption

theorem frame_pingReq {P : List Part} {s0 : State} {r : Req} {s : State} (hp : within [.ledger, .mirror, .leaves, .sessions, .rings, .kodp, .running, .ctrs, .out] P = true) (h : Frame P s0 s) : Frame P s0 (pingReq r s) := by
  unfold pingReq
  extract_lets +onlyGivenNames x0
  clear_value x0
  with_reducible apply frame_operate (within_trans (by decide) hp)
  · intro x1 h2
    with_reducible apply frame_reply (within_trans (by decide) hp)
    with_reducible assumption
  · with_reducible assumption

theorem frame_startReq {P : List Part} {s0 : State} {r : Req} {m : KMsg} {s : State} (hp : within Part.every P = true) (h : Frame P s0 s) : Frame P s0 (startReq r m s) := by
  unfold startReq
  split
  · with_reducible apply frame_readReq (within_trans (by decide) hp)
    with_reducible assumption
  · with_reducible apply frame_writeReq (within_trans (by decide) hp)
    with_reducible assumption
  · with_reducible apply frame_invoke (within_trans (by decide) hp)
    with_reducible assumption
  · with_reducible apply frame_tableReadReq (within_trans (by decide) hp)
    with_reducible assumption
  · with_reducible apply frame_tableWriteReq (within_trans (by decide) hp)
    with_reducible assumption
  · with_reducible apply frame_tableWriteReq (within_trans (by decide) hp)
    with_reducible assumption
  · with_reducible apply frame_subReq (within_trans (by decide) hp)
    with_reducible assumption
  · with_reducible apply frame_subReq (within_trans (by decide) hp)
    with_reducible assumption
  · with_reducible apply frame_ite
    · with_reducible apply frame_pingReq (within_trans (by decide) hp)
      with_reducible assumption
    · with_reducible apply frame_malformedReq (within_trans (by decide) hp)
      with_reducible assumption
  · with_reducible apply frame_unsupported (within_trans (by decide) hp)
    with_reducible assumption

theorem frame_startQueued {P : List Part} {s0 : State} {a0 : Nat} {s : State} (hp : within Part.every P = true) (h : Frame P s0 s) : Frame P s0 (startQueued a0 s) := by
  induction a0 generalizing s with
  | zero =>
    rw [startQueued]
    with_reducible assumption
  | succ a0 ih =>
    rw [startQueued]
    split
    · with_reducible assumption
    · with_reducible apply frame_ite
      · with_reducible assumption
      · with_reducible apply ih
        with_reducible apply frame_unqueue (within_trans (by decide) hp)
        with_reducible apply frame_startReq (within_trans (by decide) hp)
        with_reducible assumption

theorem frame_queueReq {P : List Part} {s0 : State} {r : Req} {m : KMsg} {s : State} (hp : within Part.every P = true) (h : Frame P s0 s) : Frame P s0 (queueReq r m s) := by
  unfold queueReq
  with_reducible apply frame_ite
  · with_reducible apply frame_bump (within_trans (by decide) hp)
    with_reducible assumption
  · with_reducible apply frame_ite
    · with_reducible apply frame_startReq (within_trans (by decide) hp)
      with_reducible assumption
    · with_reducible apply frame_ite
      · with_reducible apply frame_bump (within_trans (by decide) hp)
        with_reducible apply frame_heard (within_trans (by decide) hp)
        with_reducible apply frame_sendMsg (within_trans (by decide) hp)
        with_reducible assumption
      · with_reducible apply frame_startQueued (within_trans (by decide) hp)
        refine frame_onKodp [.running, .dict, .kodp] (within_trans (by decide) hp) (.inl rfl) (.inl rfl) (.inl rfl) ?_
        with_reducible apply frame_heard (within_trans (by decide) hp)
        with_reducible assumption

end Sys2Proof.Machine
end

