-- ==== Sys2Proof/Laws/FrameKodp.lean ====
section
/-!
SUPPORT. Laws/FrameKodp.lean: the frame of every operation and command of Machine/Kodp.lean.
-/
namespace Sys2Proof.Machine

theorem frame_peerAnswer {P : List Part} {s0 : State} {m : KMsg} {s : State} (hp : within [.pkg, .txn, .ledger, .part, .dir, .mem, .dram, .deep, .integ, .recp, .core, .twin, .mirror, .traffic, .leaves, .power, .sec, .sessions, .obs, .rings, .kodp, .ctrs, .out, .free] P = true) (h : Frame P s0 s) : Frame P s0 (peerAnswer m s) := by
  unfold peerAnswer
  split
  · with_reducible apply frame_bump (within_trans (by decide) hp)
    with_reducible assumption
  · extract_lets +onlyGivenNames x0
    have h0 : Frame P s0 (x0) := by
      unfold x0
      refine frame_onKodp [.kodp] (within_trans (by decide) hp) (.inr fun _ => rfl) (.inr fun _ => rfl) (.inl rfl) ?_
      with_reducible assumption
    clear_value x0
    extract_lets +onlyGivenNames x1
    have h1 : Frame P s0 (x1) := by
      unfold x1
      with_reducible apply frame_onlyIf
      · intro x2 h3
        with_reducible apply frame_loseStandby (within_trans (by decide) hp)
        with_reducible apply frame_bump (within_trans (by decide) hp)
        with_reducible assumption
      · with_reducible assumption
    clear_value x1
    with_reducible apply frame_sendReply (within_trans (by decide) hp)
    with_reducible assumption

theorem frame_takeClear {P : List Part} {s0 : State} {c : Client} {tag : Nat} {m : KMsg} {s : State} (hp : within Part.every P = true) (h : Frame P s0 s) : Frame P s0 (takeClear c tag m s) := by
  unfold takeClear
  extract_lets +onlyGivenNames x0
  clear_value x0
  with_reducible apply frame_ite
  · with_reducible apply frame_ite
    · with_reducible apply frame_peerAnswer (within_trans (by decide) hp)
      with_reducible assumption
    · with_reducible apply frame_bump (within_trans (by decide) hp)
      with_reducible assumption
  · with_reducible apply frame_ite
    · with_reducible apply frame_malformedReq (within_trans (by decide) hp)
      with_reducible assumption
    · with_reducible apply frame_ite
      · with_reducible apply frame_malformedReq (within_trans (by decide) hp)
        with_reducible assumption
      · with_reducible apply frame_queueReq (within_trans (by decide) hp)
        with_reducible assumption

theorem frame_takeSecured {P : List Part} {s0 : State} {c : Client} {tag : Nat} {reqId : Nat} {session : Nat} {cipher : List Byte} {s : State} (hp : within Part.every P = true) (h : Frame P s0 s) : Frame P s0 (takeSecured c tag reqId session cipher s) := by
  unfold takeSecured
  extract_lets +onlyGivenNames x0
  have h0 : ∀ y0, Frame P s0 y0 → Frame P s0 (x0 y0) := by
    intro x1 h2
    unfold x0
    with_reducible apply frame_bump (within_trans (by decide) hp)
    with_reducible assumption
  clear_value x0
  with_reducible apply frame_ite
  · with_reducible apply frame_bump (within_trans (by decide) hp)
    with_reducible apply frame_sendMsg (within_trans (by decide) hp)
    with_reducible assumption
  · split
    · with_reducible apply h0
      with_reducible assumption
    · with_reducible apply frame_ite
      · with_reducible apply h0
        with_reducible assumption
      · split
        · with_reducible apply h0
          with_reducible assumption
        · with_reducible apply frame_takeClear (within_trans (by decide) hp)
          refine frame_onSec [.sessions, .sec] (within_trans (by decide) hp) (.inl rfl) (.inl rfl) ?_
          with_reducible assumption

theorem frame_takeMessage {P : List Part} {s0 : State} {c : Client} {tag : Nat} {b : List Byte} {s : State} (hp : within Part.every P = true) (h : Frame P s0 s) : Frame P s0 (takeMessage c tag b s) := by
  unfold takeMessage
  with_reducible apply frame_ite
  · with_reducible assumption
  · extract_lets +onlyGivenNames x0
    clear_value x0
    extract_lets +onlyGivenNames x1
    clear_value x1
    extract_lets +onlyGivenNames x2
    clear_value x2
    with_reducible apply frame_ite
    · with_reducible apply frame_bump (within_trans (by decide) hp)
      with_reducible assumption
    · with_reducible apply frame_ite
      · with_reducible apply frame_ite
        · with_reducible apply frame_malformedReq (within_trans (by decide) hp)
          with_reducible assumption
        · with_reducible apply frame_takeSecured (within_trans (by decide) hp)
          with_reducible assumption
      · with_reducible apply frame_takeClear (within_trans (by decide) hp)
        with_reducible assumption

theorem frame_dropReasm {P : List Part} {s0 : State} {c : Client} {id : Nat} {s : State} (hp : within [.kodp] P = true) (h : Frame P s0 s) : Frame P s0 (dropReasm c id s) := by
  unfold dropReasm
  refine frame_onKodp [.kodp] (within_trans (by decide) hp) (.inr fun _ => rfl) (.inr fun _ => rfl) (.inl rfl) ?_
  with_reducible assumption

theorem frame_takeFragment {P : List Part} {s0 : State} {c : Client} {id : Nat} {idx : Nat} {last : Bool} {bytes : List Byte} {done : List Byte → State → State} {s : State} (hp : within [.kodp, .ctrs] P = true) (h_done : (∀ x0, ∀ x1, Frame P s0 x1 → Frame P s0 (done x0 x1))) (h : Frame P s0 s) : Frame P s0 (takeFragment c id idx last bytes done s) := by
  unfold takeFragment
  extract_lets +onlyGivenNames x0
  clear_value x0
  extract_lets +onlyGivenNames x1
  clear_value x1
  with_reducible apply frame_ite
  · with_reducible assumption
  · with_reducible apply frame_ite
    · with_reducible apply frame_bump (within_trans (by decide) hp)
      with_reducible apply frame_dropReasm (within_trans (by decide) hp)
      with_reducible assumption
    · with_reducible apply frame_ite
      · with_reducible apply frame_bump (within_trans (by decide) hp)
        with_reducible apply frame_dropReasm (within_trans (by decide) hp)
        with_reducible assumption
      · extract_lets +onlyGivenNames x2
        clear_value x2
        extract_lets +onlyGivenNames x3
        have h3 : Frame P s0 (x3) := by
          unfold x3
          with_reducible apply frame_dropReasm (within_trans (by decide) hp)
          with_reducible assumption
        clear_value x3
        split
        · with_reducible apply frame_ite
          · with_reducible apply h_done
            with_reducible assumption
          · refine frame_onKodp [.kodp] (within_trans (by decide) hp) (.inr fun _ => rfl) (.inr fun _ => rfl) (.inl rfl) ?_
            with_reducible assumption
        · refine frame_onKodp [.kodp] (within_trans (by decide) hp) (.inr fun _ => rfl) (.inr fun _ => rfl) (.inl rfl) ?_
          with_reducible assumption

theorem frame_takeHeaded {P : List Part} {s0 : State} {c : Client} {b : List Byte} {s : State} (hp : within Part.every P = true) (h : Frame P s0 s) : Frame P s0 (takeHeaded c b s) := by
  unfold takeHeaded
  with_reducible apply frame_ite
  · with_reducible apply frame_bump (within_trans (by decide) hp)
    with_reducible assumption
  · with_reducible apply frame_takeFragment (within_trans (by decide) hp)
    · intro x0 x1 h2
      with_reducible apply frame_takeMessage (within_trans (by decide) hp)
      with_reducible assumption
    · with_reducible assumption

theorem frame_takeVc7Fragment {P : List Part} {s0 : State} {p : Packet} {s : State} (hp : within Part.every P = true) (h : Frame P s0 s) : Frame P s0 (takeVc7Fragment p s) := by
  unfold takeVc7Fragment
  extract_lets +onlyGivenNames x0
  clear_value x0
  extract_lets +onlyGivenNames x1
  have h1 : Frame P s0 (x1) := by
    unfold x1
    with_reducible apply frame_onlyIf
    · intro x2 h3
      refine frame_onKodp [.running, .dict, .kodp] (within_trans (by decide) hp) (.inl rfl) (.inl rfl) (.inl rfl) ?_
      with_reducible assumption
    · with_reducible assumption
  clear_value x1
  with_reducible apply frame_takeFragment (within_trans (by decide) hp)
  · intro x4 x5 h6
    with_reducible apply frame_takeMessage (within_trans (by decide) hp)
    with_reducible assumption
  · with_reducible assumption

theorem frame_abortedReply {P : List Part} {s0 : State} {p : Packet} {s : State} (hp : within [.ledger, .leaves, .sessions, .kodp, .ctrs, .out] P = true) (h : Frame P s0 s) : Frame P s0 (abortedReply p s) := by
  unfold abortedReply
  extract_lets +onlyGivenNames x0
  clear_value x0
  with_reducible apply frame_sendMsg (within_trans (by decide) hp)
  with_reducible assumption

theorem frame_takeKodpPacket {P : List Part} {s0 : State} {port : Nat} {p : Packet} {s : State} (hp : within Part.every P = true) (h : Frame P s0 s) : Frame P s0 (takeKodpPacket port p s) := by
  unfold takeKodpPacket
  extract_lets +onlyGivenNames x0
  clear_value x0
  extract_lets +onlyGivenNames x1
  clear_value x1
  with_reducible apply frame_ite
  · with_reducible apply frame_takeVc7Fragment (within_trans (by decide) hp)
    with_reducible assumption
  · extract_lets +onlyGivenNames x2
    have h2 : Frame P s0 (x2) := by
      unfold x2
      with_reducible apply frame_onlyIf
      · intro x3 h4
        with_reducible apply frame_bump (within_trans (by decide) hp)
        with_reducible assumption
      · with_reducible assumption
    clear_value x2
    split
    · with_reducible apply frame_bump (within_trans (by decide) hp)
      with_reducible apply frame_onlyIf
      · intro x5 h6
        with_reducible apply frame_answerNow (within_trans (by decide) hp)
        with_reducible assumption
      · with_reducible assumption
    · with_reducible apply frame_ite
      · with_reducible apply frame_bump (within_trans (by decide) hp)
        with_reducible apply frame_bump (within_trans (by decide) hp)
        with_reducible apply frame_onlyIf
        · intro x7 h8
          with_reducible apply frame_answerNow (within_trans (by decide) hp)
          with_reducible assumption
        · with_reducible assumption
      · with_reducible apply frame_ite
        · with_reducible apply frame_bump (within_trans (by decide) hp)
          with_reducible assumption
        · with_reducible apply frame_ite
          · with_reducible apply frame_onlyIf
            · intro x9 h10
              with_reducible apply frame_answerNow (within_trans (by decide) hp)
              with_reducible assumption
            · with_reducible assumption
          · split
            · with_reducible apply frame_takeVc7Fragment (within_trans (by decide) hp)
              with_reducible assumption
            · with_reducible apply frame_ite
              · with_reducible assumption
              · with_reducible apply frame_ite
                · split
                  · with_reducible apply frame_sendMsg (within_trans (by decide) hp)
                    with_reducible apply frame_bump (within_trans (by decide) hp)
                    with_reducible assumption
                  · with_reducible apply frame_abortedReply (within_trans (by decide) hp)
                    with_reducible apply frame_bump (within_trans (by decide) hp)
                    with_reducible assumption
                · with_reducible apply frame_abortedReply (within_trans (by decide) hp)
                  with_reducible apply frame_bump (within_trans (by decide) hp)
                  with_reducible assumption

theorem frame_arriveKodp {P : List Part} {s0 : State} {port : Nat} {p : Packet} {s : State} (hp : within Part.every P = true) (h : Frame P s0 s) : Frame P s0 (arriveKodp port p s) := by
  unfold arriveKodp
  with_reducible apply frame_ite
  · with_reducible apply frame_arriveFabric (within_trans (by decide) hp)
    · intro x0 x1 h2
      with_reducible apply frame_takeKodpPacket (within_trans (by decide) hp)
      with_reducible assumption
    · with_reducible assumption
  · with_reducible apply frame_ite
    · with_reducible apply frame_arriveLink (within_trans (by decide) hp)
      · intro x3 x4 h5
        with_reducible apply frame_ite
        · with_reducible apply frame_takeVc7Fragment (within_trans (by decide) hp)
          with_reducible assumption
        · with_reducible apply frame_bump (within_trans (by decide) hp)
          with_reducible assumption
      · with_reducible assumption
    · with_reducible apply frame_arriveLink (within_trans (by decide) hp)
      · intro x6 x7 h8
        with_reducible apply frame_bump (within_trans (by decide) hp)
        with_reducible assumption
      · with_reducible assumption

theorem frame_execKodpFragment {P : List Part} {s0 : State} {client : Client} {bytes : List Byte} {s : State} (hp : within Part.every P = true) (h : Frame P s0 s) : FrameO P s0 (execKodpFragment client bytes s) := by
  unfold execKodpFragment
  extract_lets +onlyGivenNames x0
  clear_value x0
  with_reducible apply frameO_next
  with_reducible apply frame_ite
  · with_reducible assumption
  · split
    · with_reducible apply frame_takeHeaded (within_trans (by decide) hp)
      with_reducible assumption
    · with_reducible apply frame_takeHeaded (within_trans (by decide) hp)
      with_reducible assumption
    · extract_lets +onlyGivenNames x1
      clear_value x1
      with_reducible apply frame_ite
      · with_reducible apply frame_takeVc7Fragment (within_trans (by decide) hp)
        with_reducible assumption
      · with_reducible apply frame_takeKodpPacket (within_trans (by decide) hp)
        with_reducible assumption

theorem frame_execReassemblyTimeout {P : List Part} {s0 : State} {client : Client} {reqId : Nat} {s : State} (hp : within [.kodp, .ctrs] P = true) (h : Frame P s0 s) : FrameO P s0 (execReassemblyTimeout client reqId s) := by
  unfold execReassemblyTimeout
  with_reducible apply frameO_next
  with_reducible apply frame_onlyIf
  · intro x0 h1
    with_reducible apply frame_bump (within_trans (by decide) hp)
    with_reducible apply frame_dropReasm (within_trans (by decide) hp)
    with_reducible assumption
  · with_reducible assumption

theorem frame_execSecured {P : List Part} {s0 : State} {client : Client} {session : Nat} {cipher : List Byte} {s : State} (hp : within Part.every P = true) (h : Frame P s0 s) : FrameO P s0 (execSecured client session cipher s) := by
  unfold execSecured
  with_reducible apply frameO_next
  with_reducible apply frame_ite
  · with_reducible assumption
  · with_reducible apply frame_takeSecured (within_trans (by decide) hp)
    with_reducible assumption

theorem frame_execSubscribe {P : List Part} {s0 : State} {r : Req} {codes : List Nat} {s : State} (hp : within [.ledger, .mirror, .leaves, .sessions, .rings, .kodp, .running, .ctrs, .out] P = true) (h : Frame P s0 s) : FrameO P s0 (execSubscribe r codes s) := by
  unfold execSubscribe
  with_reducible apply frameO_next
  with_reducible apply frame_subscribeReq (within_trans (by decide) hp)
  with_reducible assumption

theorem frame_execUnsubscribe {P : List Part} {s0 : State} {r : Req} {codes : List Nat} {s : State} (hp : within [.ledger, .mirror, .leaves, .sessions, .rings, .kodp, .running, .ctrs, .out] P = true) (h : Frame P s0 s) : FrameO P s0 (execUnsubscribe r codes s) := by
  unfold execUnsubscribe
  with_reducible apply frameO_next
  with_reducible apply frame_unsubscribeReq (within_trans (by decide) hp)
  with_reducible assumption

theorem frame_execPing {P : List Part} {s0 : State} {r : Req} {s : State} (hp : within [.ledger, .mirror, .leaves, .sessions, .rings, .kodp, .running, .ctrs, .out] P = true) (h : Frame P s0 s) : FrameO P s0 (execPing r s) := by
  unfold execPing
  with_reducible apply frameO_next
  with_reducible apply frame_pingReq (within_trans (by decide) hp)
  with_reducible assumption

theorem frame_execKodpOperationTimeout {P : List Part} {s0 : State} {r : Req} {s : State} (hp : within [.ledger, .mirror, .leaves, .sessions, .rings, .kodp, .running, .ctrs, .out] P = true) (h : Frame P s0 s) : FrameO P s0 (execKodpOperationTimeout r s) := by
  unfold execKodpOperationTimeout
  with_reducible apply frameO_next
  split
  · with_reducible assumption
  · extract_lets +onlyGivenNames x0
    have h0 : Frame P s0 (x0) := by
      unfold x0
      refine frame_onKodp [.running, .kodp] (within_trans (by decide) hp) (.inl rfl) (.inr fun _ => rfl) (.inl rfl) ?_
      with_reducible assumption
    clear_value x0
    with_reducible apply frame_timeoutFired (within_trans (by decide) hp)
    with_reducible apply frame_sendReply (within_trans (by decide) hp)
    with_reducible assumption

theorem frame_execCommandDone {P : List Part} {s0 : State} {r : Req} {status : Status} {s : State} (hp : within [.ledger, .mirror, .leaves, .sessions, .rings, .kodp, .running, .ctrs, .out] P = true) (h : Frame P s0 s) : FrameO P s0 (execCommandDone r status s) := by
  unfold execCommandDone
  with_reducible apply frameO_next
  split
  · with_reducible apply frame_reply (within_trans (by decide) hp)
    with_reducible assumption
  · with_reducible assumption

theorem frame_execClientLeaseExpiry {P : List Part} {s0 : State} {client : Client} {s : State} (hp : within [.kodp] P = true) (h : Frame P s0 s) : FrameO P s0 (execClientLeaseExpiry client s) := by
  unfold execClientLeaseExpiry
  with_reducible apply frameO_next
  refine frame_onKodp [.kodp] (within_trans (by decide) hp) (.inr fun _ => rfl) (.inr fun _ => rfl) (.inl rfl) ?_
  with_reducible assumption

theorem frame_execReplyCacheExpiry {P : List Part} {s0 : State} {r : Req} {s : State} (hp : within [.kodp] P = true) (h : Frame P s0 s) : FrameO P s0 (execReplyCacheExpiry r s) := by
  unfold execReplyCacheExpiry
  with_reducible apply frameO_next
  refine frame_onKodp [.kodp] (within_trans (by decide) hp) (.inr fun _ => rfl) (.inr fun _ => rfl) (.inl rfl) ?_
  with_reducible assumption

theorem frame_setKslReleased {P : List Part} {s0 : State} {b : Bool} {s : State} (hp : within [.pkg] P = true) (h : Frame P s0 s) : Frame P s0 (setKslReleased b s) := by
  unfold setKslReleased
  with_reducible apply frame_onPkg (within_trans (by decide) hp)
  with_reducible assumption

theorem frame_kslHeard {P : List Part} {s0 : State} {s : State} (hp : within [.kodp] P = true) (h : Frame P s0 s) : Frame P s0 (kslHeard s) := by
  unfold kslHeard
  refine frame_onKodp [.kodp] (within_trans (by decide) hp) (.inr fun _ => rfl) (.inr fun _ => rfl) (.inl rfl) ?_
  with_reducible assumption

theorem frame_execKslWriteFrame {P : List Part} {s0 : State} {addr : Nat} {len : Nat} {msg : List Byte} {crc : Nat} {s : State} (hp : within Part.every P = true) (h : Frame P s0 s) : FrameO P s0 (execKslWriteFrame addr len msg crc s) := by
  unfold execKslWriteFrame
  with_reducible apply frameO_ite
  · with_reducible apply frameO_next
    with_reducible apply frame_setKslReleased (within_trans (by decide) hp)
    with_reducible assumption
  · extract_lets +onlyGivenNames x0
    have h0 : Frame P s0 (x0) := by
      unfold x0
      with_reducible apply frame_kslHeard (within_trans (by decide) hp)
      with_reducible apply frame_setKslReleased (within_trans (by decide) hp)
      with_reducible assumption
    clear_value x0
    with_reducible apply frameO_ite
    · with_reducible apply frameO_next
      with_reducible apply frame_emit (within_trans (by decide) hp)
      with_reducible assumption
    · with_reducible apply frameO_ite
      · with_reducible apply frameO_next
        with_reducible apply frame_emit (within_trans (by decide) hp)
        with_reducible assumption
      · with_reducible apply frameO_next
        with_reducible apply frame_takeHeaded (within_trans (by decide) hp)
        with_reducible apply frame_emit (within_trans (by decide) hp)
        with_reducible assumption

theorem frame_execKslReadFrame {P : List Part} {s0 : State} {addr : Nat} {s : State} (hp : within [.pkg, .kodp, .out] P = true) (h : Frame P s0 s) : FrameO P s0 (execKslReadFrame addr s) := by
  unfold execKslReadFrame
  with_reducible apply frameO_ite
  · with_reducible apply frameO_next
    with_reducible apply frame_setKslReleased (within_trans (by decide) hp)
    with_reducible assumption
  · extract_lets +onlyGivenNames x0
    have h0 : Frame P s0 (x0) := by
      unfold x0
      with_reducible apply frame_kslHeard (within_trans (by decide) hp)
      with_reducible apply frame_setKslReleased (within_trans (by decide) hp)
      with_reducible assumption
    clear_value x0
    split
    · with_reducible apply frameO_next
      with_reducible apply frame_emit (within_trans (by decide) hp)
      with_reducible assumption
    · extract_lets +onlyGivenNames x1
      clear_value x1
      extract_lets +onlyGivenNames x2
      clear_value x2
      extract_lets +onlyGivenNames x3
      clear_value x3
      extract_lets +onlyGivenNames x4
      clear_value x4
      with_reducible apply frameO_next
      with_reducible apply frame_emit (within_trans (by decide) hp)
      refine frame_onKodp [.kodp] (within_trans (by decide) hp) (.inr fun _ => rfl) (.inr fun _ => rfl) (.inl rfl) ?_
      with_reducible assumption

theorem frame_execKslFrameTimeout {P : List Part} {s0 : State} {s : State} (hp : within [.pkg] P = true) (h : Frame P s0 s) : FrameO P s0 (execKslFrameTimeout s) := by
  unfold execKslFrameTimeout
  with_reducible apply frameO_next
  with_reducible apply frame_setKslReleased (within_trans (by decide) hp)
  with_reducible assumption

end Sys2Proof.Machine
end

