-- ==== Sys2Proof/Laws/FrameLinkFlit.lean ====
section
/-!
SUPPORT. Laws/FrameLinkFlit.lean: the frame of every operation and command of Machine/LinkFlit.lean.
-/
namespace Sys2Proof.Machine

theorem frame_fabricPacket {P : List Part} {s0 : State} {port : Nat} {p : Packet} {s : State} (hp : within Part.every P = true) (h : Frame P s0 s) : FrameO P s0 (fabricPacket port p s) := by
  unfold fabricPacket
  split
  · with_reducible apply frame_execAttach (within_trans (by decide) hp)
    with_reducible assumption
  · with_reducible apply frame_execHeartbeat (within_trans (by decide) hp)
    with_reducible assumption
  · with_reducible apply frame_execDetach (within_trans (by decide) hp)
    with_reducible assumption
  · with_reducible apply frame_execE2eNak (within_trans (by decide) hp)
    with_reducible assumption
  · with_reducible apply frame_execAnnounce (within_trans (by decide) hp)
    with_reducible assumption
  · with_reducible apply frame_execRdShared (within_trans (by decide) hp)
    with_reducible assumption
  · with_reducible apply frame_execRdUnique (within_trans (by decide) hp)
    with_reducible assumption
  · with_reducible apply frame_execRdOnce (within_trans (by decide) hp)
    with_reducible assumption
  · with_reducible apply frame_execWrLine (within_trans (by decide) hp)
    with_reducible assumption
  · with_reducible apply frame_execWrPart (within_trans (by decide) hp)
    with_reducible assumption
  · with_reducible apply frame_execWriteback (within_trans (by decide) hp)
    with_reducible assumption
  · with_reducible apply frame_execEvictClean (within_trans (by decide) hp)
    with_reducible assumption
  · with_reducible apply frame_execUpgrade (within_trans (by decide) hp)
    with_reducible assumption
  · with_reducible apply frame_execAtomic (within_trans (by decide) hp)
    with_reducible assumption
  · with_reducible apply frame_execSnpRsp (within_trans (by decide) hp)
    with_reducible assumption
  · with_reducible apply frame_execCrossed (within_trans (by decide) hp)
    with_reducible assumption
  · with_reducible apply frame_execStashRsp (within_trans (by decide) hp)
    with_reducible assumption
  · with_reducible apply frame_execWrData (within_trans (by decide) hp)
    with_reducible assumption
  · with_reducible apply frame_execWbData (within_trans (by decide) hp)
    with_reducible assumption
  · with_reducible apply frame_execSnpData (within_trans (by decide) hp)
    with_reducible assumption
  · with_reducible apply frame_execAtomicOpnd (within_trans (by decide) hp)
    with_reducible assumption
  · with_reducible apply frameO_next
    with_reducible apply frame_arriveRecipe (within_trans (by decide) hp)
    with_reducible assumption
  · with_reducible apply frame_execRecipeCancel (within_trans (by decide) hp)
    with_reducible assumption
  · with_reducible apply frame_execRtRead (within_trans (by decide) hp)
    with_reducible assumption
  · with_reducible apply frameO_next
    with_reducible apply frame_arriveKodp (within_trans (by decide) hp)
    with_reducible assumption
  · with_reducible apply frame_execMalformedPacket (within_trans (by decide) hp)
    with_reducible assumption

theorem frame_peerPacket {P : List Part} {s0 : State} {port : Nat} {p : Packet} {s : State} (hp : within Part.every P = true) (h : Frame P s0 s) : FrameO P s0 (peerPacket port p s) := by
  unfold peerPacket
  with_reducible apply frameO_ite
  · with_reducible apply frame_execMalformedPacket (within_trans (by decide) hp)
    with_reducible assumption
  · split
    · with_reducible apply frame_execDtReadData (within_trans (by decide) hp)
      with_reducible assumption
    · with_reducible apply frame_execDtCmp (within_trans (by decide) hp)
      with_reducible assumption
    · with_reducible apply frame_execDtInfoData (within_trans (by decide) hp)
      with_reducible assumption
    · with_reducible apply frame_execTwHello (within_trans (by decide) hp)
      with_reducible assumption
    · with_reducible apply frame_execTwKeepalive (within_trans (by decide) hp)
      with_reducible assumption
    · with_reducible apply frame_execTwRelease (within_trans (by decide) hp)
      with_reducible assumption
    · with_reducible apply frame_execMrAck (within_trans (by decide) hp)
      with_reducible assumption
    · with_reducible apply frame_execMrLine (within_trans (by decide) hp)
      with_reducible assumption
    · with_reducible apply frame_execMrState (within_trans (by decide) hp)
      with_reducible assumption
    · with_reducible apply frame_execRsLines (within_trans (by decide) hp)
      with_reducible assumption
    · with_reducible apply frame_execRpReq (within_trans (by decide) hp)
      with_reducible assumption
    · with_reducible apply frame_execRpData (within_trans (by decide) hp)
      with_reducible assumption
    · with_reducible apply frame_execHbReq (within_trans (by decide) hp)
      with_reducible assumption
    · with_reducible apply frameO_next
      with_reducible apply frame_arriveKodp (within_trans (by decide) hp)
      with_reducible assumption
    · with_reducible apply frameO_next
      with_reducible apply frame_arriveLink (within_trans (by decide) hp)
      · intro x0 x1 h2
        split
        · with_reducible apply frame_ite
          · with_reducible apply frame_settleWaits (within_trans (by decide) hp)
            with_reducible apply frame_endRepair (within_trans (by decide) hp)
            with_reducible apply frame_endPool (within_trans (by decide) hp)
            with_reducible assumption
          · with_reducible assumption
        · with_reducible assumption
      · with_reducible assumption
    · with_reducible apply frameO_next
      with_reducible apply frame_arriveLink (within_trans (by decide) hp)
      · intro x3 x4 h5
        with_reducible assumption
      · with_reducible assumption

theorem frame_handOn {P : List Part} {s0 : State} {port : Nat} {p : Packet} {s : State} (hp : within Part.every P = true) (h : Frame P s0 s) : Frame P s0 (handOn port p s) := by
  unfold handOn
  with_reducible apply frame_ran
  · with_reducible apply frameO_ite
    · with_reducible apply frame_fabricPacket (within_trans (by decide) hp)
      with_reducible assumption
    · with_reducible apply frame_peerPacket (within_trans (by decide) hp)
      with_reducible assumption
  · with_reducible assumption

theorem frame_takeRecords {P : List Part} {s0 : State} {port : Nat} {f : Flit} {s : State} (hp : within [.link, .txn, .ledger, .leaves, .sessions, .time, .rings, .kodp, .ctrs, .out] P = true) (h : Frame P s0 s) : Frame P s0 (takeRecords port f s) := by
  unfold takeRecords
  with_reducible apply frame_forAll
  · intro x0 x1 h2
    with_reducible apply frame_takeRecord (within_trans (by decide) hp)
    with_reducible assumption
  · with_reducible assumption

theorem frame_grandFlit {P : List Part} {s0 : State} {port : Nat} {f : Flit} {s : State} (hp : within Part.every P = true) (h : Frame P s0 s) : Frame P s0 (grandFlit port f s) := by
  unfold grandFlit
  extract_lets +onlyGivenNames x0
  have h0 : Frame P s0 (x0) := by
    unfold x0
    with_reducible apply frame_onlyIf
    · intro x1 h2
      with_reducible apply frame_applyAck (within_trans (by decide) hp)
      with_reducible assumption
    · with_reducible assumption
  clear_value x0
  extract_lets +onlyGivenNames x3
  clear_value x3
  split
  · with_reducible apply frame_takeRecords (within_trans (by decide) hp)
    with_reducible assumption
  · with_reducible assumption
  · with_reducible apply frame_bump (within_trans (by decide) hp)
    with_reducible assumption
  · with_reducible apply frame_ite
    · with_reducible apply frame_takeSlots (within_trans (by decide) hp)
      · intro x4 x5 x6 h7
        with_reducible apply frame_handOn (within_trans (by decide) hp)
        with_reducible assumption
      · with_reducible assumption
    · with_reducible apply frame_ite
      · with_reducible apply frame_nakFor (within_trans (by decide) hp)
        with_reducible assumption
      · with_reducible apply frame_bump (within_trans (by decide) hp)
        with_reducible assumption

theorem frame_compactFlit {P : List Part} {s0 : State} {port : Nat} {f : Flit} {s : State} (hp : within Part.every P = true) (h : Frame P s0 s) : Frame P s0 (compactFlit port f s) := by
  unfold compactFlit
  extract_lets +onlyGivenNames x0
  clear_value x0
  extract_lets +onlyGivenNames x1
  clear_value x1
  extract_lets +onlyGivenNames x2
  clear_value x2
  split
  · with_reducible apply frame_takeRecords (within_trans (by decide) hp)
    with_reducible assumption
  · with_reducible assumption
  · with_reducible apply frame_bump (within_trans (by decide) hp)
    with_reducible assumption
  · with_reducible apply frame_ite
    · with_reducible apply frame_bump (within_trans (by decide) hp)
      with_reducible assumption
    · extract_lets +onlyGivenNames x3
      have h3 : Frame P s0 (x3) := by
        unfold x3
        with_reducible apply frame_onlyIf
        · intro x4 h5
          with_reducible apply frame_setPort (within_trans (by decide) hp)
          with_reducible assumption
        · with_reducible assumption
      clear_value x3
      with_reducible apply frame_takeSlots (within_trans (by decide) hp)
      · intro x6 x7 x8 h9
        with_reducible apply frame_handOn (within_trans (by decide) hp)
        with_reducible assumption
      · with_reducible apply frame_bumpBy (within_trans (by decide) hp)
        with_reducible assumption

theorem frame_startFlit {P : List Part} {s0 : State} {port : Nat} {flit : Flit} {s : State} (hp : within [.link] P = true) (h : Frame P s0 s) : Frame P s0 (startFlit port flit s) := by
  unfold startFlit
  extract_lets +onlyGivenNames x0
  clear_value x0
  with_reducible apply frame_ite
  · with_reducible apply frame_setPort (within_trans (by decide) hp)
    with_reducible assumption
  · with_reducible assumption

theorem frame_execFlitReceived {P : List Part} {s0 : State} {port : Nat} {flit : Flit} {s : State} (hp : within Part.every P = true) (h : Frame P s0 s) : FrameO P s0 (execFlitReceived port flit s) := by
  unfold execFlitReceived
  with_reducible apply frameO_next
  with_reducible apply frame_ite
  · with_reducible assumption
  · with_reducible apply frame_ite
    · with_reducible apply frame_startFlit (within_trans (by decide) hp)
      with_reducible assumption
    · with_reducible apply frame_ite
      · extract_lets +onlyGivenNames x0
        have h0 : Frame P s0 (x0) := by
          unfold x0
          with_reducible apply frame_bump (within_trans (by decide) hp)
          with_reducible assumption
        clear_value x0
        with_reducible apply frame_ite
        · with_reducible assumption
        · with_reducible apply frame_nakFor (within_trans (by decide) hp)
          with_reducible assumption
      · with_reducible apply frame_ite
        · with_reducible apply frame_compactFlit (within_trans (by decide) hp)
          with_reducible assumption
        · with_reducible apply frame_grandFlit (within_trans (by decide) hp)
          with_reducible assumption

theorem frame_sendFlit {P : List Part} {s0 : State} {port : Nat} {f : Flit} {s : State} (hp : within [.out] P = true) (h : Frame P s0 s) : Frame P s0 (sendFlit port f s) := by
  unfold sendFlit
  with_reducible apply frame_emit (within_trans (by decide) hp)
  with_reducible assumption

theorem frame_sendControl {P : List Part} {s0 : State} {port : Nat} {s : State} (hp : within [.link, .out] P = true) (h : Frame P s0 s) : Frame P s0 (sendControl port s) := by
  unfold sendControl
  extract_lets +onlyGivenNames x0
  clear_value x0
  extract_lets +onlyGivenNames x1
  clear_value x1
  with_reducible apply frame_sendFlit (within_trans (by decide) hp)
  with_reducible apply frame_setPort (within_trans (by decide) hp)
  with_reducible assumption

theorem frame_sendReplay {P : List Part} {s0 : State} {port : Nat} {n : Nat} {s : State} (hp : within [.link, .ctrs, .out] P = true) (h : Frame P s0 s) : Frame P s0 (sendReplay port n s) := by
  unfold sendReplay
  extract_lets +onlyGivenNames x0
  clear_value x0
  split
  · with_reducible apply frame_setPort (within_trans (by decide) hp)
    with_reducible assumption
  · extract_lets +onlyGivenNames x1
    clear_value x1
    extract_lets +onlyGivenNames x2
    clear_value x2
    with_reducible apply frame_bump (within_trans (by decide) hp)
    with_reducible apply frame_sendFlit (within_trans (by decide) hp)
    with_reducible apply frame_setPort (within_trans (by decide) hp)
    with_reducible assumption

theorem frame_sendIdle {P : List Part} {s0 : State} {port : Nat} {s : State} (hp : within [.out] P = true) (h : Frame P s0 s) : Frame P s0 (sendIdle port s) := by
  unfold sendIdle
  with_reducible apply frame_sendFlit (within_trans (by decide) hp)
  with_reducible assumption

theorem frame_sendData {P : List Part} {s0 : State} {port : Nat} {s : State} (hp : within [.link, .traffic, .leaves, .ctrs, .out] P = true) (h : Frame P s0 s) : Frame P s0 (sendData port s) := by
  unfold sendData
  split
  · with_reducible apply frame_sendIdle (within_trans (by decide) hp)
    refine frame_of_fst (by with_reducible assumption) ?_
    with_reducible apply frame_dataSlots (within_trans (by decide) hp)
    with_reducible assumption
  · extract_lets +onlyGivenNames x0
    clear_value x0
    with_reducible apply frame_sendFlit (within_trans (by decide) hp)
    with_reducible apply frame_setPort (within_trans (by decide) hp)
    refine frame_of_fst (by with_reducible assumption) ?_
    with_reducible apply frame_dataSlots (within_trans (by decide) hp)
    with_reducible assumption

theorem frame_execFlitSend {P : List Part} {s0 : State} {port : Nat} {s : State} (hp : within [.link, .traffic, .leaves, .ctrs, .out] P = true) (h : Frame P s0 s) : FrameO P s0 (execFlitSend port s) := by
  unfold execFlitSend
  with_reducible apply frameO_next
  with_reducible apply frame_ite
  · with_reducible apply frame_onlyIf
    · intro x0 h1
      with_reducible apply frame_sendIdle (within_trans (by decide) hp)
      with_reducible assumption
    · with_reducible assumption
  · with_reducible apply frame_ite
    · with_reducible apply frame_sendIdle (within_trans (by decide) hp)
      with_reducible assumption
    · extract_lets +onlyGivenNames x2
      have h2 : Frame P s0 (x2) := by
        unfold x2
        with_reducible apply frame_onlyIf
        · intro x3 h4
          with_reducible apply frame_reportCredits (within_trans (by decide) hp)
          with_reducible assumption
        · with_reducible assumption
      clear_value x2
      extract_lets +onlyGivenNames x5
      clear_value x5
      with_reducible apply frame_ite
      · with_reducible apply frame_sendControl (within_trans (by decide) hp)
        with_reducible assumption
      · split
        · with_reducible apply frame_sendReplay (within_trans (by decide) hp)
          with_reducible assumption
        · with_reducible apply frame_ite
          · with_reducible apply frame_sendData (within_trans (by decide) hp)
            with_reducible assumption
          · extract_lets +onlyGivenNames x6
            clear_value x6
            with_reducible apply frame_sendIdle (within_trans (by decide) hp)
            with_reducible apply frame_bumpBy (within_trans (by decide) hp)
            with_reducible apply frame_setPort (within_trans (by decide) hp)
            with_reducible assumption

theorem frame_execNakTimer {P : List Part} {s0 : State} {port : Nat} {s : State} (hp : within [.link, .ctrs] P = true) (h : Frame P s0 s) : FrameO P s0 (execNakTimer port s) := by
  unfold execNakTimer
  with_reducible apply frameO_next
  with_reducible apply frame_onlyIf
  · intro x0 h1
    with_reducible apply frame_sendNak (within_trans (by decide) hp)
    with_reducible assumption
  · with_reducible assumption

theorem frame_execReplayTimeout {P : List Part} {s0 : State} {port : Nat} {s : State} (hp : within [.link, .txn, .ledger, .leaves, .sessions, .rings, .kodp, .ctrs, .out] P = true) (h : Frame P s0 s) : FrameO P s0 (execReplayTimeout port s) := by
  unfold execReplayTimeout
  with_reducible apply frameO_next
  with_reducible apply frame_onlyIf
  · intro x0 h1
    with_reducible apply frame_startReplay (within_trans (by decide) hp)
    with_reducible assumption
  · with_reducible assumption

theorem frame_execOldestFlitTimeout {P : List Part} {s0 : State} {port : Nat} {s : State} (hp : within [.link, .txn, .ledger, .leaves, .sessions, .rings, .kodp, .ctrs, .out] P = true) (h : Frame P s0 s) : FrameO P s0 (execOldestFlitTimeout port s) := by
  unfold execOldestFlitTimeout
  with_reducible apply frameO_next
  with_reducible apply frame_onlyIf
  · intro x0 h1
    with_reducible apply frame_retrainTrigger (within_trans (by decide) hp)
    with_reducible apply frame_timeoutFired (within_trans (by decide) hp)
    with_reducible assumption
  · with_reducible assumption

theorem frame_execCreditReportTimer {P : List Part} {s0 : State} {port : Nat} {s : State} (hp : within [.link] P = true) (h : Frame P s0 s) : FrameO P s0 (execCreditReportTimer port s) := by
  unfold execCreditReportTimer
  with_reducible apply frameO_next
  with_reducible apply frame_onlyIf
  · intro x0 h1
    with_reducible apply frame_reportCredits (within_trans (by decide) hp)
    with_reducible assumption
  · with_reducible assumption

theorem frame_execChargedReportTimer {P : List Part} {s0 : State} {port : Nat} {s : State} (hp : within [.link] P = true) (h : Frame P s0 s) : FrameO P s0 (execChargedReportTimer port s) := by
  unfold execChargedReportTimer
  with_reducible apply frameO_next
  with_reducible apply frame_onlyIf
  · intro x0 h1
    with_reducible apply frame_queueRecord (within_trans (by decide) hp)
    with_reducible apply frame_queueRecord (within_trans (by decide) hp)
    with_reducible assumption
  · with_reducible assumption

end Sys2Proof.Machine
end

