-- ==== Sys2Proof/Laws/FrameMgmt.lean ====
section
/-!
SUPPORT. Laws/FrameMgmt.lean: the frame of every operation and command of Machine/Mgmt.lean.
-/
namespace Sys2Proof.Machine

theorem frame_discardFrame {P : List Part} {s0 : State} {s : State} (hp : within [.ctrs] P = true) (h : Frame P s0 s) : Frame P s0 (discardFrame s) := by
  unfold discardFrame
  with_reducible apply frame_bump (within_trans (by decide) hp)
  with_reducible assumption

theorem frame_takeUdp {P : List Part} {s0 : State} {srcAddr : Nat} {b : List Byte} {s : State} (hp : within Part.every P = true) (h : Frame P s0 s) : Frame P s0 (takeUdp srcAddr b s) := by
  unfold takeUdp
  extract_lets +onlyGivenNames x0
  clear_value x0
  with_reducible apply frame_ite
  · with_reducible assumption
  · with_reducible apply frame_ite
    · with_reducible apply frame_discardFrame (within_trans (by decide) hp)
      with_reducible assumption
    · with_reducible apply frame_takeHeaded (within_trans (by decide) hp)
      with_reducible assumption

theorem frame_takeArp {P : List Part} {s0 : State} {b : List Byte} {s : State} (hp : within [.out] P = true) (h : Frame P s0 s) : Frame P s0 (takeArp b s) := by
  unfold takeArp
  with_reducible apply frame_ite
  · with_reducible apply frame_emit (within_trans (by decide) hp)
    with_reducible assumption
  · with_reducible assumption

theorem frame_takeIpv4 {P : List Part} {s0 : State} {mac : List Byte} {b : List Byte} {s : State} (hp : within Part.every P = true) (h : Frame P s0 s) : Frame P s0 (takeIpv4 mac b s) := by
  unfold takeIpv4
  extract_lets +onlyGivenNames x0
  clear_value x0
  extract_lets +onlyGivenNames x1
  clear_value x1
  extract_lets +onlyGivenNames x2
  clear_value x2
  with_reducible apply frame_ite
  · with_reducible assumption
  · with_reducible apply frame_ite
    · with_reducible apply frame_discardFrame (within_trans (by decide) hp)
      with_reducible assumption
    · extract_lets +onlyGivenNames x3
      clear_value x3
      extract_lets +onlyGivenNames x4
      clear_value x4
      split
      · with_reducible apply frame_ite
        · extract_lets +onlyGivenNames x5
          clear_value x5
          with_reducible apply frame_emit (within_trans (by decide) hp)
          with_reducible assumption
        · with_reducible assumption
      · with_reducible apply frame_ite
        · with_reducible apply frame_takeUdp (within_trans (by decide) hp)
          with_reducible assumption
        · with_reducible assumption
      · with_reducible assumption

theorem frame_takeNdp {P : List Part} {s0 : State} {src : Nat} {mac : List Byte} {d : List Byte} {s : State} (hp : within [.kodp, .ctrs, .out] P = true) (h : Frame P s0 s) : Frame P s0 (takeNdp src mac d s) := by
  unfold takeNdp
  extract_lets +onlyGivenNames x0
  clear_value x0
  with_reducible apply frame_ite
  · with_reducible assumption
  · with_reducible apply frame_ite
    · with_reducible apply frame_emit (within_trans (by decide) hp)
      with_reducible assumption
    · with_reducible apply frame_bump (within_trans (by decide) hp)
      refine frame_onKodp [.kodp] (within_trans (by decide) hp) (.inr fun _ => rfl) (.inr fun _ => rfl) (.inl rfl) ?_
      with_reducible assumption

theorem frame_takeIpv6 {P : List Part} {s0 : State} {mac : List Byte} {b : List Byte} {s : State} (hp : within Part.every P = true) (h : Frame P s0 s) : Frame P s0 (takeIpv6 mac b s) := by
  unfold takeIpv6
  extract_lets +onlyGivenNames x0
  clear_value x0
  extract_lets +onlyGivenNames x1
  clear_value x1
  extract_lets +onlyGivenNames x2
  clear_value x2
  extract_lets +onlyGivenNames x3
  clear_value x3
  extract_lets +onlyGivenNames x4
  clear_value x4
  extract_lets +onlyGivenNames x5
  clear_value x5
  with_reducible apply frame_ite
  · with_reducible assumption
  · with_reducible apply frame_ite
    · with_reducible apply frame_discardFrame (within_trans (by decide) hp)
      with_reducible assumption
    · extract_lets +onlyGivenNames x6
      clear_value x6
      with_reducible apply frame_ite
      · with_reducible assumption
      · with_reducible apply frame_ite
        · with_reducible apply frame_takeUdp (within_trans (by decide) hp)
          with_reducible assumption
        · with_reducible apply frame_ite
          · extract_lets +onlyGivenNames x7
            clear_value x7
            with_reducible apply frame_ite
            · with_reducible apply frame_emit (within_trans (by decide) hp)
              with_reducible assumption
            · with_reducible apply frame_ite
              · with_reducible apply frame_takeNdp (within_trans (by decide) hp)
                with_reducible assumption
              · with_reducible assumption
          · with_reducible assumption

theorem frame_execMgmtFrame {P : List Part} {s0 : State} {frame : List Byte} {s : State} (hp : within Part.every P = true) (h : Frame P s0 s) : FrameO P s0 (execMgmtFrame frame s) := by
  unfold execMgmtFrame
  with_reducible apply frameO_next
  with_reducible apply frame_ite
  · with_reducible assumption
  · with_reducible apply frame_ite
    · with_reducible assumption
    · extract_lets +onlyGivenNames x0
      clear_value x0
      extract_lets +onlyGivenNames x1
      clear_value x1
      split
      · with_reducible apply frame_discardFrame (within_trans (by decide) hp)
        with_reducible assumption
      · with_reducible apply frame_takeArp (within_trans (by decide) hp)
        with_reducible assumption
      · with_reducible apply frame_takeIpv4 (within_trans (by decide) hp)
        with_reducible assumption
      · with_reducible apply frame_takeIpv6 (within_trans (by decide) hp)
        with_reducible assumption
      · with_reducible assumption

end Sys2Proof.Machine
end

