-- ==== Sys2Proof/Laws/FrameDispatch.lean ====
section
/-!
SUPPORT. Laws/FrameDispatch.lean: the frame of every operation and command of Machine/Dispatch.lean.
-/
namespace Sys2Proof.Machine

theorem frame_exec {P : List Part} {s0 : State} {i : Instr} {s : State} (hp : within Part.every P = true) (h : Frame P s0 s) : FrameO P s0 (exec i s) := by
  unfold exec
  split
  · with_reducible apply frame_execPoresetAssert (within_trans (by decide) hp)
    with_reducible assumption
  · with_reducible apply frame_execStrapSample (within_trans (by decide) hp)
    with_reducible assumption
  · with_reducible apply frame_execWarmresetAssert (within_trans (by decide) hp)
    with_reducible assumption
  · with_reducible apply frame_execWarmresetShort (within_trans (by decide) hp)
    with_reducible assumption
  · with_reducible apply frame_execWarmresetStart (within_trans (by decide) hp)
    with_reducible assumption
  · with_reducible apply frame_execBrownOut (within_trans (by decide) hp)
    with_reducible assumption
  · with_reducible apply frame_execRefclkLoss (within_trans (by decide) hp)
    with_reducible assumption
  · with_reducible apply frame_execThermalSample (within_trans (by decide) hp)
    with_reducible assumption
  · with_reducible apply frame_execThermtrip (within_trans (by decide) hp)
    with_reducible assumption
  · with_reducible apply frame_execPowerStepAck (within_trans (by decide) hp)
    with_reducible assumption
  · with_reducible apply frame_execPowerStepStart (within_trans (by decide) hp)
    with_reducible assumption
  · with_reducible apply frame_execStepAckMissing (within_trans (by decide) hp)
    with_reducible assumption
  · with_reducible apply frame_execStepAckStuck (within_trans (by decide) hp)
    with_reducible assumption
  · with_reducible apply frame_execHoldupSample (within_trans (by decide) hp)
    with_reducible assumption
  · with_reducible apply frame_execKslWriteFrame (within_trans (by decide) hp)
    with_reducible assumption
  · with_reducible apply frame_execKslReadFrame (within_trans (by decide) hp)
    with_reducible assumption
  · with_reducible apply frame_execKslFrameTimeout (within_trans (by decide) hp)
    with_reducible assumption
  · with_reducible apply frame_execDebugHoldTimeout (within_trans (by decide) hp)
    with_reducible assumption
  · with_reducible apply frame_execBakerBootComplete (within_trans (by decide) hp)
    with_reducible assumption
  · with_reducible apply frame_execLaserInputLow (within_trans (by decide) hp)
    with_reducible assumption
  · with_reducible apply frame_execLaserInputsDark (within_trans (by decide) hp)
    with_reducible assumption
  · with_reducible apply frame_execLaserInputRestored (within_trans (by decide) hp)
    with_reducible assumption
  · with_reducible apply frame_execLaserLow (within_trans (by decide) hp)
    with_reducible assumption
  · with_reducible apply frame_execLockstepDisagreement (within_trans (by decide) hp)
    with_reducible assumption
  · with_reducible apply frame_execLaneLos (within_trans (by decide) hp)
    with_reducible assumption
  · with_reducible apply frame_execLaneSignalRestored (within_trans (by decide) hp)
    with_reducible assumption
  · with_reducible apply frame_execPortDark (within_trans (by decide) hp)
    with_reducible assumption
  · with_reducible apply frame_execDetectLit (within_trans (by decide) hp)
    with_reducible assumption
  · with_reducible apply frame_execLcbReceived (within_trans (by decide) hp)
    with_reducible assumption
  · with_reducible apply frame_execTrainComplete (within_trans (by decide) hp)
    with_reducible assumption
  · with_reducible apply frame_execTrainTimeout (within_trans (by decide) hp)
    with_reducible assumption
  · with_reducible apply frame_execRetrainComplete (within_trans (by decide) hp)
    with_reducible assumption
  · with_reducible apply frame_execRetrainTimeout (within_trans (by decide) hp)
    with_reducible assumption
  · with_reducible apply frame_execDownHoldExpiry (within_trans (by decide) hp)
    with_reducible assumption
  · with_reducible apply frame_execFlitReceived (within_trans (by decide) hp)
    with_reducible assumption
  · with_reducible apply frame_execFlitSend (within_trans (by decide) hp)
    with_reducible assumption
  · with_reducible apply frame_execNakTimer (within_trans (by decide) hp)
    with_reducible assumption
  · with_reducible apply frame_execReplayTimeout (within_trans (by decide) hp)
    with_reducible assumption
  · with_reducible apply frame_execOldestFlitTimeout (within_trans (by decide) hp)
    with_reducible assumption
  · with_reducible apply frame_execCreditReportTimer (within_trans (by decide) hp)
    with_reducible assumption
  · with_reducible apply frame_execChargedReportTimer (within_trans (by decide) hp)
    with_reducible assumption
  · with_reducible apply frame_execTimeSyncSend (within_trans (by decide) hp)
    with_reducible assumption
  · with_reducible apply frame_execPortEnable (within_trans (by decide) hp)
    with_reducible assumption
  · with_reducible apply frame_execPortDisable (within_trans (by decide) hp)
    with_reducible assumption
  · with_reducible apply frame_execPortRetrain (within_trans (by decide) hp)
    with_reducible assumption
  · with_reducible apply frame_execPortLaneRestore (within_trans (by decide) hp)
    with_reducible assumption
  · with_reducible apply frame_execAttach (within_trans (by decide) hp)
    with_reducible assumption
  · with_reducible apply frame_execHeartbeat (within_trans (by decide) hp)
    with_reducible assumption
  · with_reducible apply frame_execDetach (within_trans (by decide) hp)
    with_reducible assumption
  · with_reducible apply frame_execDetachComplete (within_trans (by decide) hp)
    with_reducible assumption
  · with_reducible apply frame_execLeaseExpiry (within_trans (by decide) hp)
    with_reducible assumption
  · with_reducible apply frame_execPartnerLossWalkDone (within_trans (by decide) hp)
    with_reducible assumption
  · with_reducible apply frame_execQuarantineExpiry (within_trans (by decide) hp)
    with_reducible assumption
  · with_reducible apply frame_execE2eNak (within_trans (by decide) hp)
    with_reducible assumption
  · with_reducible apply frame_execAnnounce (within_trans (by decide) hp)
    with_reducible assumption
  · with_reducible apply frame_execRdShared (within_trans (by decide) hp)
    with_reducible assumption
  · with_reducible apply frame_execRdUnique (within_trans (by decide) hp)
    with_reducible assumption
  · with_reducible apply frame_execRdOnce (within_trans (by decide) hp)
    with_reducible assumption
  · with_reducible apply frame_execWrLine (within_trans (by decide) hp)
    with_reducible assumption
  · with_reducible apply frame_execWrPart (within_trans (by decide) hp)
    with_reducible assumption
  · with_reducible apply frame_execWriteback (within_trans (by decide) hp)
    with_reducible assumption
  · with_reducible apply frame_execEvictClean (within_trans (by decide) hp)
    with_reducible assumption
  · with_reducible apply frame_execUpgrade (within_trans (by decide) hp)
    with_reducible assumption
  · with_reducible apply frame_execAtomic (within_trans (by decide) hp)
    with_reducible assumption
  · with_reducible apply frame_execWrData (within_trans (by decide) hp)
    with_reducible assumption
  · with_reducible apply frame_execWbData (within_trans (by decide) hp)
    with_reducible assumption
  · with_reducible apply frame_execSnpData (within_trans (by decide) hp)
    with_reducible assumption
  · with_reducible apply frame_execAtomicOpnd (within_trans (by decide) hp)
    with_reducible assumption
  · with_reducible apply frame_execSnpRsp (within_trans (by decide) hp)
    with_reducible assumption
  · with_reducible apply frame_execCrossed (within_trans (by decide) hp)
    with_reducible assumption
  · with_reducible apply frame_execStashRsp (within_trans (by decide) hp)
    with_reducible assumption
  · with_reducible apply frame_execRtRead (within_trans (by decide) hp)
    with_reducible assumption
  · with_reducible apply frame_execRecipeCancel (within_trans (by decide) hp)
    with_reducible assumption
  · with_reducible apply frame_execRequestOrdered (within_trans (by decide) hp)
    with_reducible assumption
  · with_reducible apply frame_execRecallDeadline (within_trans (by decide) hp)
    with_reducible assumption
  · with_reducible apply frame_execParkedPresent (within_trans (by decide) hp)
    with_reducible assumption
  · with_reducible apply frame_execPairingTimeout (within_trans (by decide) hp)
    with_reducible assumption
  · with_reducible apply frame_execRequestWithdraw (within_trans (by decide) hp)
    with_reducible assumption
  · with_reducible apply frame_execUnroutableTimeout (within_trans (by decide) hp)
    with_reducible assumption
  · with_reducible apply frame_execPoolRequestTimeout (within_trans (by decide) hp)
    with_reducible assumption
  · with_reducible apply frame_execPoolResend (within_trans (by decide) hp)
    with_reducible assumption
  · with_reducible apply frame_execGenSettleRecheck (within_trans (by decide) hp)
    with_reducible assumption
  · with_reducible apply frame_execCtxInvalidate (within_trans (by decide) hp)
    with_reducible assumption
  · with_reducible apply frame_execRecallRange (within_trans (by decide) hp)
    with_reducible assumption
  · with_reducible apply frame_execPartnerEvict (within_trans (by decide) hp)
    with_reducible assumption
  · with_reducible apply frame_execFqOverflowClear (within_trans (by decide) hp)
    with_reducible assumption
  · with_reducible apply frame_execDirectoryLookup (within_trans (by decide) hp)
    with_reducible assumption
  · with_reducible apply frame_execDramCommandSlot (within_trans (by decide) hp)
    with_reducible assumption
  · with_reducible apply frame_execDramDataReturn (within_trans (by decide) hp)
    with_reducible assumption
  · with_reducible apply frame_execRefreshInterval (within_trans (by decide) hp)
    with_reducible assumption
  · with_reducible apply frame_execDramCommandTimeout (within_trans (by decide) hp)
    with_reducible assumption
  · with_reducible apply frame_execChannelRetrainDone (within_trans (by decide) hp)
    with_reducible assumption
  · with_reducible apply frame_execPanicCap (within_trans (by decide) hp)
    with_reducible assumption
  · with_reducible apply frame_execPanicResume (within_trans (by decide) hp)
    with_reducible assumption
  · with_reducible apply frame_execDriftTrack (within_trans (by decide) hp)
    with_reducible assumption
  · with_reducible apply frame_execChannelRetrain (within_trans (by decide) hp)
    with_reducible assumption
  · with_reducible apply frame_execDtInfoData (within_trans (by decide) hp)
    with_reducible assumption
  · with_reducible apply frame_execDtReadData (within_trans (by decide) hp)
    with_reducible assumption
  · with_reducible apply frame_execDtCmp (within_trans (by decide) hp)
    with_reducible assumption
  · with_reducible apply frame_execDeepMissingUnits (within_trans (by decide) hp)
    with_reducible assumption
  · with_reducible apply frame_execDirtyAgeExpiry (within_trans (by decide) hp)
    with_reducible assumption
  · with_reducible apply frame_execDeepWaitResume (within_trans (by decide) hp)
    with_reducible assumption
  · with_reducible apply frame_execSledWaitTimeout (within_trans (by decide) hp)
    with_reducible assumption
  · with_reducible apply frame_execDeepPin (within_trans (by decide) hp)
    with_reducible assumption
  · with_reducible apply frame_execDeepUnpin (within_trans (by decide) hp)
    with_reducible assumption
  · with_reducible apply frame_execDeepPrefetch (within_trans (by decide) hp)
    with_reducible assumption
  · with_reducible apply frame_execDeepFlush (within_trans (by decide) hp)
    with_reducible assumption
  · with_reducible apply frame_execDeepTrim (within_trans (by decide) hp)
    with_reducible assumption
  · with_reducible apply frame_execSledClaimForce (within_trans (by decide) hp)
    with_reducible assumption
  · with_reducible apply frame_execScrubLine (within_trans (by decide) hp)
    with_reducible assumption
  · with_reducible apply frame_execRowRepair (within_trans (by decide) hp)
    with_reducible assumption
  · with_reducible apply frame_execBankRepairDone (within_trans (by decide) hp)
    with_reducible assumption
  · with_reducible apply frame_execDecoderSelftestHourly (within_trans (by decide) hp)
    with_reducible assumption
  · with_reducible apply frame_execErrorLogClear (within_trans (by decide) hp)
    with_reducible assumption
  · with_reducible apply frame_execDeepSetRelease (within_trans (by decide) hp)
    with_reducible assumption
  · with_reducible apply frame_execPoisonInject (within_trans (by decide) hp)
    with_reducible assumption
  · with_reducible apply frame_execFill (within_trans (by decide) hp)
    with_reducible assumption
  · with_reducible apply frame_execCopy (within_trans (by decide) hp)
    with_reducible assumption
  · with_reducible apply frame_execCompare (within_trans (by decide) hp)
    with_reducible assumption
  · with_reducible apply frame_execReduce (within_trans (by decide) hp)
    with_reducible assumption
  · with_reducible apply frame_execGatherReduce (within_trans (by decide) hp)
    with_reducible assumption
  · with_reducible apply frame_execScatterAdd (within_trans (by decide) hp)
    with_reducible assumption
  · with_reducible apply frame_execAllreduceStage (within_trans (by decide) hp)
    with_reducible assumption
  · with_reducible apply frame_execOptimStep (within_trans (by decide) hp)
    with_reducible assumption
  · with_reducible apply frame_execKvSelect (within_trans (by decide) hp)
    with_reducible assumption
  · with_reducible apply frame_execDeltaPack (within_trans (by decide) hp)
    with_reducible assumption
  · with_reducible apply frame_execDigest (within_trans (by decide) hp)
    with_reducible assumption
  · with_reducible apply frame_execPublish (within_trans (by decide) hp)
    with_reducible assumption
  · with_reducible apply frame_execKernel (within_trans (by decide) hp)
    with_reducible assumption
  · with_reducible apply frame_execSugarQueueServe (within_trans (by decide) hp)
    with_reducible assumption
  · with_reducible apply frame_execGrantRenewal (within_trans (by decide) hp)
    with_reducible assumption
  · with_reducible apply frame_execGrantEnd (within_trans (by decide) hp)
    with_reducible assumption
  · with_reducible apply frame_execGrantRampDone (within_trans (by decide) hp)
    with_reducible assumption
  · with_reducible apply frame_execBallastHoldExpiry (within_trans (by decide) hp)
    with_reducible assumption
  · with_reducible apply frame_execAdmissionLimitTimeout (within_trans (by decide) hp)
    with_reducible assumption
  · with_reducible apply frame_execTileDispatch (within_trans (by decide) hp)
    with_reducible assumption
  · with_reducible apply frame_execCoreSteal (within_trans (by decide) hp)
    with_reducible assumption
  · with_reducible apply frame_execTileCheck (within_trans (by decide) hp)
    with_reducible assumption
  · with_reducible apply frame_execTileCommit (within_trans (by decide) hp)
    with_reducible assumption
  · with_reducible apply frame_execRecipeEnd (within_trans (by decide) hp)
    with_reducible assumption
  · with_reducible apply frame_execAllreduceDeadline (within_trans (by decide) hp)
    with_reducible assumption
  · with_reducible apply frame_execRecipeAbort (within_trans (by decide) hp)
    with_reducible assumption
  · with_reducible apply frame_execKernelTileStart (within_trans (by decide) hp)
    with_reducible assumption
  · with_reducible apply frame_execPoolAccessReturn (within_trans (by decide) hp)
    with_reducible assumption
  · with_reducible apply frame_execInstructionWatchdog (within_trans (by decide) hp)
    with_reducible assumption
  · with_reducible apply frame_execCoreTileTimeout (within_trans (by decide) hp)
    with_reducible assumption
  · with_reducible apply frame_execAccessTimeout (within_trans (by decide) hp)
    with_reducible assumption
  · with_reducible apply frame_execNop (within_trans (by decide) hp)
    with_reducible assumption
  · with_reducible apply frame_execTexit (within_trans (by decide) hp)
    with_reducible assumption
  · with_reducible apply frame_execTrap (within_trans (by decide) hp)
    with_reducible assumption
  · with_reducible apply frame_execFence (within_trans (by decide) hp)
    with_reducible assumption
  · with_reducible apply frame_execBar (within_trans (by decide) hp)
    with_reducible assumption
  · with_reducible apply frame_execBarf (within_trans (by decide) hp)
    with_reducible assumption
  · with_reducible apply frame_execTres (within_trans (by decide) hp)
    with_reducible assumption
  · with_reducible apply frame_execTime (within_trans (by decide) hp)
    with_reducible assumption
  · with_reducible apply frame_execXpois (within_trans (by decide) hp)
    with_reducible assumption
  · with_reducible apply frame_execVpois (within_trans (by decide) hp)
    with_reducible assumption
  · with_reducible apply frame_execApois (within_trans (by decide) hp)
    with_reducible assumption
  · with_reducible apply frame_execPset (within_trans (by decide) hp)
    with_reducible assumption
  · with_reducible apply frame_execPget (within_trans (by decide) hp)
    with_reducible assumption
  · with_reducible apply frame_execAluAdd (within_trans (by decide) hp)
    with_reducible assumption
  · with_reducible apply frame_execAluSub (within_trans (by decide) hp)
    with_reducible assumption
  · with_reducible apply frame_execAluMul (within_trans (by decide) hp)
    with_reducible assumption
  · with_reducible apply frame_execAluMulh (within_trans (by decide) hp)
    with_reducible assumption
  · with_reducible apply frame_execAluMulhu (within_trans (by decide) hp)
    with_reducible assumption
  · with_reducible apply frame_execAluDiv (within_trans (by decide) hp)
    with_reducible assumption
  · with_reducible apply frame_execAluDivu (within_trans (by decide) hp)
    with_reducible assumption
  · with_reducible apply frame_execAluRem (within_trans (by decide) hp)
    with_reducible assumption
  · with_reducible apply frame_execAluRemu (within_trans (by decide) hp)
    with_reducible assumption
  · with_reducible apply frame_execAluAnd (within_trans (by decide) hp)
    with_reducible assumption
  · with_reducible apply frame_execAluOr (within_trans (by decide) hp)
    with_reducible assumption
  · with_reducible apply frame_execAluXor (within_trans (by decide) hp)
    with_reducible assumption
  · with_reducible apply frame_execAluSll (within_trans (by decide) hp)
    with_reducible assumption
  · with_reducible apply frame_execAluSrl (within_trans (by decide) hp)
    with_reducible assumption
  · with_reducible apply frame_execAluSra (within_trans (by decide) hp)
    with_reducible assumption
  · with_reducible apply frame_execAluSlt (within_trans (by decide) hp)
    with_reducible assumption
  · with_reducible apply frame_execAluSltu (within_trans (by decide) hp)
    with_reducible assumption
  · with_reducible apply frame_execAluMin (within_trans (by decide) hp)
    with_reducible assumption
  · with_reducible apply frame_execAluMax (within_trans (by decide) hp)
    with_reducible assumption
  · with_reducible apply frame_execAluMinu (within_trans (by decide) hp)
    with_reducible assumption
  · with_reducible apply frame_execAluMaxu (within_trans (by decide) hp)
    with_reducible assumption
  · with_reducible apply frame_execAddi (within_trans (by decide) hp)
    with_reducible assumption
  · with_reducible apply frame_execAndi (within_trans (by decide) hp)
    with_reducible assumption
  · with_reducible apply frame_execOri (within_trans (by decide) hp)
    with_reducible assumption
  · with_reducible apply frame_execXori (within_trans (by decide) hp)
    with_reducible assumption
  · with_reducible apply frame_execShiSll (within_trans (by decide) hp)
    with_reducible assumption
  · with_reducible apply frame_execShiSrl (within_trans (by decide) hp)
    with_reducible assumption
  · with_reducible apply frame_execShiSra (within_trans (by decide) hp)
    with_reducible assumption
  · with_reducible apply frame_execSlti (within_trans (by decide) hp)
    with_reducible assumption
  · with_reducible apply frame_execLui (within_trans (by decide) hp)
    with_reducible assumption
  · with_reducible apply frame_execBeq (within_trans (by decide) hp)
    with_reducible assumption
  · with_reducible apply frame_execBne (within_trans (by decide) hp)
    with_reducible assumption
  · with_reducible apply frame_execBlt (within_trans (by decide) hp)
    with_reducible assumption
  · with_reducible apply frame_execBge (within_trans (by decide) hp)
    with_reducible assumption
  · with_reducible apply frame_execBltu (within_trans (by decide) hp)
    with_reducible assumption
  · with_reducible apply frame_execBgeu (within_trans (by decide) hp)
    with_reducible assumption
  · with_reducible apply frame_execJal (within_trans (by decide) hp)
    with_reducible assumption
  · with_reducible apply frame_execJalr (within_trans (by decide) hp)
    with_reducible assumption
  · with_reducible apply frame_execPbr (within_trans (by decide) hp)
    with_reducible assumption
  · with_reducible apply frame_execTld (within_trans (by decide) hp)
    with_reducible assumption
  · with_reducible apply frame_execTlds (within_trans (by decide) hp)
    with_reducible assumption
  · with_reducible apply frame_execTst (within_trans (by decide) hp)
    with_reducible assumption
  · with_reducible apply frame_execVtld (within_trans (by decide) hp)
    with_reducible assumption
  · with_reducible apply frame_execVtst (within_trans (by decide) hp)
    with_reducible assumption
  · with_reducible apply frame_execTamo (within_trans (by decide) hp)
    with_reducible assumption
  · with_reducible apply frame_execPld (within_trans (by decide) hp)
    with_reducible assumption
  · with_reducible apply frame_execPlds (within_trans (by decide) hp)
    with_reducible assumption
  · with_reducible apply frame_execPst (within_trans (by decide) hp)
    with_reducible assumption
  · with_reducible apply frame_execVpld (within_trans (by decide) hp)
    with_reducible assumption
  · with_reducible apply frame_execVpst (within_trans (by decide) hp)
    with_reducible assumption
  · with_reducible apply frame_execPamo (within_trans (by decide) hp)
    with_reducible assumption
  · with_reducible apply frame_execLswap (within_trans (by decide) hp)
    with_reducible assumption
  · with_reducible apply frame_execLcas (within_trans (by decide) hp)
    with_reducible assumption
  · with_reducible apply frame_execVpld2 (within_trans (by decide) hp)
    with_reducible assumption
  · with_reducible apply frame_execVpst2 (within_trans (by decide) hp)
    with_reducible assumption
  · with_reducible apply frame_execVarithAdd (within_trans (by decide) hp)
    with_reducible assumption
  · with_reducible apply frame_execVarithSub (within_trans (by decide) hp)
    with_reducible assumption
  · with_reducible apply frame_execVarithMul (within_trans (by decide) hp)
    with_reducible assumption
  · with_reducible apply frame_execVarithMin (within_trans (by decide) hp)
    with_reducible assumption
  · with_reducible apply frame_execVarithMax (within_trans (by decide) hp)
    with_reducible assumption
  · with_reducible apply frame_execVarithAbs (within_trans (by decide) hp)
    with_reducible assumption
  · with_reducible apply frame_execVarithNeg (within_trans (by decide) hp)
    with_reducible assumption
  · with_reducible apply frame_execVarithAnd (within_trans (by decide) hp)
    with_reducible assumption
  · with_reducible apply frame_execVarithOr (within_trans (by decide) hp)
    with_reducible assumption
  · with_reducible apply frame_execVarithXor (within_trans (by decide) hp)
    with_reducible assumption
  · with_reducible apply frame_execVarithShl (within_trans (by decide) hp)
    with_reducible assumption
  · with_reducible apply frame_execVarithShr (within_trans (by decide) hp)
    with_reducible assumption
  · with_reducible apply frame_execVarithSar (within_trans (by decide) hp)
    with_reducible assumption
  · with_reducible apply frame_execVarithDiv (within_trans (by decide) hp)
    with_reducible assumption
  · with_reducible apply frame_execVarithSqrt (within_trans (by decide) hp)
    with_reducible assumption
  · with_reducible apply frame_execFma (within_trans (by decide) hp)
    with_reducible assumption
  · with_reducible apply frame_execFms (within_trans (by decide) hp)
    with_reducible assumption
  · with_reducible apply frame_execFnma (within_trans (by decide) hp)
    with_reducible assumption
  · with_reducible apply frame_execVcmpEq (within_trans (by decide) hp)
    with_reducible assumption
  · with_reducible apply frame_execVcmpNe (within_trans (by decide) hp)
    with_reducible assumption
  · with_reducible apply frame_execVcmpLt (within_trans (by decide) hp)
    with_reducible assumption
  · with_reducible apply frame_execVcmpLe (within_trans (by decide) hp)
    with_reducible assumption
  · with_reducible apply frame_execVcmpGt (within_trans (by decide) hp)
    with_reducible assumption
  · with_reducible apply frame_execVcmpGe (within_trans (by decide) hp)
    with_reducible assumption
  · with_reducible apply frame_execVcmpUnord (within_trans (by decide) hp)
    with_reducible assumption
  · with_reducible apply frame_execVcmpLtu (within_trans (by decide) hp)
    with_reducible assumption
  · with_reducible apply frame_execVcmpGeu (within_trans (by decide) hp)
    with_reducible assumption
  · with_reducible apply frame_execVcvt (within_trans (by decide) hp)
    with_reducible assumption
  · with_reducible apply frame_execVmov (within_trans (by decide) hp)
    with_reducible assumption
  · with_reducible apply frame_execVperm (within_trans (by decide) hp)
    with_reducible assumption
  · with_reducible apply frame_execVsel (within_trans (by decide) hp)
    with_reducible assumption
  · with_reducible apply frame_execVbcast (within_trans (by decide) hp)
    with_reducible assumption
  · with_reducible apply frame_execVext (within_trans (by decide) hp)
    with_reducible assumption
  · with_reducible apply frame_execVins (within_trans (by decide) hp)
    with_reducible assumption
  · with_reducible apply frame_execVredAdd (within_trans (by decide) hp)
    with_reducible assumption
  · with_reducible apply frame_execVredMin (within_trans (by decide) hp)
    with_reducible assumption
  · with_reducible apply frame_execVredMax (within_trans (by decide) hp)
    with_reducible assumption
  · with_reducible apply frame_execVredMinu (within_trans (by decide) hp)
    with_reducible assumption
  · with_reducible apply frame_execVredMaxu (within_trans (by decide) hp)
    with_reducible assumption
  · with_reducible apply frame_execVredAnd (within_trans (by decide) hp)
    with_reducible assumption
  · with_reducible apply frame_execVredOr (within_trans (by decide) hp)
    with_reducible assumption
  · with_reducible apply frame_execVredXor (within_trans (by decide) hp)
    with_reducible assumption
  · with_reducible apply frame_execAadd (within_trans (by decide) hp)
    with_reducible assumption
  · with_reducible apply frame_execAdot (within_trans (by decide) hp)
    with_reducible assumption
  · with_reducible apply frame_execAclr (within_trans (by decide) hp)
    with_reducible assumption
  · with_reducible apply frame_execAmov (within_trans (by decide) hp)
    with_reducible assumption
  · with_reducible apply frame_execAmerge (within_trans (by decide) hp)
    with_reducible assumption
  · with_reducible apply frame_execAout (within_trans (by decide) hp)
    with_reducible assumption
  · with_reducible apply frame_execAsave (within_trans (by decide) hp)
    with_reducible assumption
  · with_reducible apply frame_execAload (within_trans (by decide) hp)
    with_reducible assumption
  · with_reducible apply frame_execKernelLoad (within_trans (by decide) hp)
    with_reducible assumption
  · with_reducible apply frame_execKernelUnload (within_trans (by decide) hp)
    with_reducible assumption
  · with_reducible apply frame_execTwHello (within_trans (by decide) hp)
    with_reducible assumption
  · with_reducible apply frame_execTwKeepalive (within_trans (by decide) hp)
    with_reducible assumption
  · with_reducible apply frame_execTwRelease (within_trans (by decide) hp)
    with_reducible assumption
  · with_reducible apply frame_execMrAck (within_trans (by decide) hp)
    with_reducible assumption
  · with_reducible apply frame_execMrLine (within_trans (by decide) hp)
    with_reducible assumption
  · with_reducible apply frame_execMrState (within_trans (by decide) hp)
    with_reducible assumption
  · with_reducible apply frame_execRsLines (within_trans (by decide) hp)
    with_reducible assumption
  · with_reducible apply frame_execRpReq (within_trans (by decide) hp)
    with_reducible assumption
  · with_reducible apply frame_execRpData (within_trans (by decide) hp)
    with_reducible assumption
  · with_reducible apply frame_execHbReq (within_trans (by decide) hp)
    with_reducible assumption
  · with_reducible apply frame_execLampFrame (within_trans (by decide) hp)
    with_reducible assumption
  · with_reducible apply frame_execLampFault (within_trans (by decide) hp)
    with_reducible assumption
  · with_reducible apply frame_execKeepaliveSend (within_trans (by decide) hp)
    with_reducible assumption
  · with_reducible apply frame_execStandbyKeepaliveLoss (within_trans (by decide) hp)
    with_reducible assumption
  · with_reducible apply frame_execOwnerKeepaliveLoss (within_trans (by decide) hp)
    with_reducible assumption
  · with_reducible apply frame_execTakeoverStart (within_trans (by decide) hp)
    with_reducible assumption
  · with_reducible apply frame_execTakeoverClaimDeadline (within_trans (by decide) hp)
    with_reducible assumption
  · with_reducible apply frame_execAnnounceTimer (within_trans (by decide) hp)
    with_reducible assumption
  · with_reducible apply frame_execEnrolRetry (within_trans (by decide) hp)
    with_reducible assumption
  · with_reducible apply frame_execHbReqTimer (within_trans (by decide) hp)
    with_reducible assumption
  · with_reducible apply frame_execQuiesceBarrier (within_trans (by decide) hp)
    with_reducible assumption
  · with_reducible apply frame_execQuiesceWaitExpiry (within_trans (by decide) hp)
    with_reducible assumption
  · with_reducible apply frame_execHandbackDrainTimeout (within_trans (by decide) hp)
    with_reducible assumption
  · with_reducible apply frame_execReleaseLampEnd (within_trans (by decide) hp)
    with_reducible assumption
  · with_reducible apply frame_execReleasingTimeout (within_trans (by decide) hp)
    with_reducible assumption
  · with_reducible apply frame_execForceArmExpiry (within_trans (by decide) hp)
    with_reducible assumption
  · with_reducible apply frame_execResyncSend (within_trans (by decide) hp)
    with_reducible assumption
  · with_reducible apply frame_execTwinEnableWrite (within_trans (by decide) hp)
    with_reducible assumption
  · with_reducible apply frame_execTwinForce (within_trans (by decide) hp)
    with_reducible assumption
  · with_reducible apply frame_execTwinForceCancel (within_trans (by decide) hp)
    with_reducible assumption
  · with_reducible apply frame_execTwinHandover (within_trans (by decide) hp)
    with_reducible assumption
  · with_reducible apply frame_execTwinQuiesce (within_trans (by decide) hp)
    with_reducible assumption
  · with_reducible apply frame_execRefillTick (within_trans (by decide) hp)
    with_reducible assumption
  · with_reducible apply frame_execHoldLimitExpiry (within_trans (by decide) hp)
    with_reducible assumption
  · with_reducible apply frame_execQueueSample (within_trans (by decide) hp)
    with_reducible assumption
  · with_reducible apply frame_execHistogramClear (within_trans (by decide) hp)
    with_reducible assumption
  · with_reducible apply frame_execPowerSample (within_trans (by decide) hp)
    with_reducible assumption
  · with_reducible apply frame_execGovernorTick (within_trans (by decide) hp)
    with_reducible assumption
  · with_reducible apply frame_execFreqStep (within_trans (by decide) hp)
    with_reducible assumption
  · with_reducible apply frame_execNapAllowance (within_trans (by decide) hp)
    with_reducible assumption
  · with_reducible apply frame_execIdleTimerExpiry (within_trans (by decide) hp)
    with_reducible assumption
  · with_reducible apply frame_execCalendarWake (within_trans (by decide) hp)
    with_reducible assumption
  · with_reducible apply frame_execPowerEntryDone (within_trans (by decide) hp)
    with_reducible assumption
  · with_reducible apply frame_execWakeRequest (within_trans (by decide) hp)
    with_reducible assumption
  · with_reducible apply frame_execWakeComplete (within_trans (by decide) hp)
    with_reducible assumption
  · with_reducible apply frame_execJobOpen (within_trans (by decide) hp)
    with_reducible assumption
  · with_reducible apply frame_execJobClose (within_trans (by decide) hp)
    with_reducible assumption
  · with_reducible apply frame_execQuietHint (within_trans (by decide) hp)
    with_reducible assumption
  · with_reducible apply frame_execJobStepTimer (within_trans (by decide) hp)
    with_reducible assumption
  · with_reducible apply frame_execGetVersion (within_trans (by decide) hp)
    with_reducible assumption
  · with_reducible apply frame_execGetCapabilities (within_trans (by decide) hp)
    with_reducible assumption
  · with_reducible apply frame_execNegotiateAlgorithms (within_trans (by decide) hp)
    with_reducible assumption
  · with_reducible apply frame_execGetDigests (within_trans (by decide) hp)
    with_reducible assumption
  · with_reducible apply frame_execGetCertificate (within_trans (by decide) hp)
    with_reducible assumption
  · with_reducible apply frame_execChallenge (within_trans (by decide) hp)
    with_reducible assumption
  · with_reducible apply frame_execGetMeasurements (within_trans (by decide) hp)
    with_reducible assumption
  · with_reducible apply frame_execKeyExchange (within_trans (by decide) hp)
    with_reducible assumption
  · with_reducible apply frame_execFinish (within_trans (by decide) hp)
    with_reducible assumption
  · with_reducible apply frame_execSpdmHeartbeat (within_trans (by decide) hp)
    with_reducible assumption
  · with_reducible apply frame_execKeyUpdate (within_trans (by decide) hp)
    with_reducible assumption
  · with_reducible apply frame_execEndSession (within_trans (by decide) hp)
    with_reducible assumption
  · with_reducible apply frame_execSpdmHeartbeatTimeout (within_trans (by decide) hp)
    with_reducible assumption
  · with_reducible apply frame_execTenantCreate (within_trans (by decide) hp)
    with_reducible assumption
  · with_reducible apply frame_execTenantRetire (within_trans (by decide) hp)
    with_reducible assumption
  · with_reducible apply frame_execTenantSeal (within_trans (by decide) hp)
    with_reducible assumption
  · with_reducible apply frame_execMemKeySet (within_trans (by decide) hp)
    with_reducible assumption
  · with_reducible apply frame_execMemKeyDestroy (within_trans (by decide) hp)
    with_reducible assumption
  · with_reducible apply frame_execJobKeySet (within_trans (by decide) hp)
    with_reducible assumption
  · with_reducible apply frame_execJobBind (within_trans (by decide) hp)
    with_reducible assumption
  · with_reducible apply frame_execJobKeyDestroy (within_trans (by decide) hp)
    with_reducible assumption
  · with_reducible apply frame_execKernelSignKeySet (within_trans (by decide) hp)
    with_reducible assumption
  · with_reducible apply frame_execJobKeySwitch (within_trans (by decide) hp)
    with_reducible assumption
  · with_reducible apply frame_execJobKeyRetireOld (within_trans (by decide) hp)
    with_reducible assumption
  · with_reducible apply frame_execDebugChallenge (within_trans (by decide) hp)
    with_reducible assumption
  · with_reducible apply frame_execDebugToken (within_trans (by decide) hp)
    with_reducible assumption
  · with_reducible apply frame_execDebugWithdraw (within_trans (by decide) hp)
    with_reducible assumption
  · with_reducible apply frame_execDebugKeySet (within_trans (by decide) hp)
    with_reducible assumption
  · with_reducible apply frame_execDebugTokenExpiry (within_trans (by decide) hp)
    with_reducible assumption
  · with_reducible apply frame_execBringupStepDone (within_trans (by decide) hp)
    with_reducible assumption
  · with_reducible apply frame_execBringupStepTimeout (within_trans (by decide) hp)
    with_reducible assumption
  · with_reducible apply frame_execReheatStepDone (within_trans (by decide) hp)
    with_reducible assumption
  · with_reducible apply frame_execResetCore (within_trans (by decide) hp)
    with_reducible assumption
  · with_reducible apply frame_execResetCluster (within_trans (by decide) hp)
    with_reducible assumption
  · with_reducible apply frame_execResetPartition (within_trans (by decide) hp)
    with_reducible assumption
  · with_reducible apply frame_execResetPackage (within_trans (by decide) hp)
    with_reducible assumption
  · with_reducible apply frame_execPartialResetDone (within_trans (by decide) hp)
    with_reducible assumption
  · with_reducible apply frame_execCoreResetEscalate (within_trans (by decide) hp)
    with_reducible assumption
  · with_reducible apply frame_execClusterResetTimeout (within_trans (by decide) hp)
    with_reducible assumption
  · with_reducible apply frame_execRetireUnit (within_trans (by decide) hp)
    with_reducible assumption
  · with_reducible apply frame_execSpareBringinDone (within_trans (by decide) hp)
    with_reducible assumption
  · with_reducible apply frame_execServiceModeWrite (within_trans (by decide) hp)
    with_reducible assumption
  · with_reducible apply frame_execServiceOut (within_trans (by decide) hp)
    with_reducible assumption
  · with_reducible apply frame_execServiceRecal (within_trans (by decide) hp)
    with_reducible assumption
  · with_reducible apply frame_execServiceReplace (within_trans (by decide) hp)
    with_reducible assumption
  · with_reducible apply frame_execServiceIn (within_trans (by decide) hp)
    with_reducible assumption
  · with_reducible apply frame_execFwBegin (within_trans (by decide) hp)
    with_reducible assumption
  · with_reducible apply frame_execFwEraseDone (within_trans (by decide) hp)
    with_reducible assumption
  · with_reducible apply frame_execFwBlock (within_trans (by decide) hp)
    with_reducible assumption
  · with_reducible apply frame_execFwVerify (within_trans (by decide) hp)
    with_reducible assumption
  · with_reducible apply frame_execFwVerifyDone (within_trans (by decide) hp)
    with_reducible assumption
  · with_reducible apply frame_execFwActivate (within_trans (by decide) hp)
    with_reducible assumption
  · with_reducible apply frame_execFwSelfcheckDone (within_trans (by decide) hp)
    with_reducible assumption
  · with_reducible apply frame_execFwPauseEnd (within_trans (by decide) hp)
    with_reducible assumption
  · with_reducible apply frame_execFwCopyDone (within_trans (by decide) hp)
    with_reducible assumption
  · with_reducible apply frame_execFwAbort (within_trans (by decide) hp)
    with_reducible assumption
  · with_reducible apply frame_execFwRaiseSvn (within_trans (by decide) hp)
    with_reducible assumption
  · with_reducible apply frame_execBakerWatchdog (within_trans (by decide) hp)
    with_reducible assumption
  · with_reducible apply frame_execMgmtReheatDone (within_trans (by decide) hp)
    with_reducible assumption
  · with_reducible apply frame_execHandshakeTimeout (within_trans (by decide) hp)
    with_reducible assumption
  · with_reducible apply frame_execDie1TimeSync (within_trans (by decide) hp)
    with_reducible assumption
  · with_reducible apply frame_execHoldoverEntry (within_trans (by decide) hp)
    with_reducible assumption
  · with_reducible apply frame_execTimeRootWrite (within_trans (by decide) hp)
    with_reducible assumption
  · with_reducible apply frame_execTimeSet (within_trans (by decide) hp)
    with_reducible assumption
  · with_reducible apply frame_execCounterSnapshot (within_trans (by decide) hp)
    with_reducible assumption
  · with_reducible apply frame_execSnapshotAtT (within_trans (by decide) hp)
    with_reducible assumption
  · with_reducible apply frame_execCrumbRead (within_trans (by decide) hp)
    with_reducible assumption
  · with_reducible apply frame_execCrumbRelease (within_trans (by decide) hp)
    with_reducible assumption
  · with_reducible apply frame_execCrumbRingUnfreeze (within_trans (by decide) hp)
    with_reducible assumption
  · with_reducible apply frame_execTensorRegister (within_trans (by decide) hp)
    with_reducible assumption
  · with_reducible apply frame_execDumpArm (within_trans (by decide) hp)
    with_reducible assumption
  · with_reducible apply frame_execDumpCancel (within_trans (by decide) hp)
    with_reducible assumption
  · with_reducible apply frame_execDumpCut (within_trans (by decide) hp)
    with_reducible assumption
  · with_reducible apply frame_execDumpStreamSend (within_trans (by decide) hp)
    with_reducible assumption
  · with_reducible apply frame_execDebugStop (within_trans (by decide) hp)
    with_reducible assumption
  · with_reducible apply frame_execDebugFreeze (within_trans (by decide) hp)
    with_reducible assumption
  · with_reducible apply frame_execDebugResume (within_trans (by decide) hp)
    with_reducible assumption
  · with_reducible apply frame_execDebugThaw (within_trans (by decide) hp)
    with_reducible assumption
  · with_reducible apply frame_execKodpFragment (within_trans (by decide) hp)
    with_reducible assumption
  · with_reducible apply frame_execReassemblyTimeout (within_trans (by decide) hp)
    with_reducible assumption
  · with_reducible apply frame_execObjectWrite (within_trans (by decide) hp)
    with_reducible assumption
  · with_reducible apply frame_execTablePut (within_trans (by decide) hp)
    with_reducible assumption
  · with_reducible apply frame_execTableDelete (within_trans (by decide) hp)
    with_reducible assumption
  · with_reducible apply frame_execSubscribe (within_trans (by decide) hp)
    with_reducible assumption
  · with_reducible apply frame_execUnsubscribe (within_trans (by decide) hp)
    with_reducible assumption
  · with_reducible apply frame_execPing (within_trans (by decide) hp)
    with_reducible assumption
  · with_reducible apply frame_execSecured (within_trans (by decide) hp)
    with_reducible assumption
  · with_reducible apply frame_execKodpOperationTimeout (within_trans (by decide) hp)
    with_reducible assumption
  · with_reducible apply frame_execCommandDone (within_trans (by decide) hp)
    with_reducible assumption
  · with_reducible apply frame_execClientLeaseExpiry (within_trans (by decide) hp)
    with_reducible assumption
  · with_reducible apply frame_execReplyCacheExpiry (within_trans (by decide) hp)
    with_reducible assumption
  · with_reducible apply frame_execMgmtFrame (within_trans (by decide) hp)
    with_reducible assumption
  · with_reducible apply frame_execPoresetRelease (within_trans (by decide) hp)
    with_reducible assumption
  · with_reducible apply frame_execMalformedPacket (within_trans (by decide) hp)
    with_reducible assumption
  · with_reducible apply frame_execRecipeReservedCode (within_trans (by decide) hp)
    with_reducible assumption
  · with_reducible apply frame_execMgmtLinkChange (within_trans (by decide) hp)
    with_reducible assumption
  · with_reducible apply frame_execMgmtReheatWindowExpiry (within_trans (by decide) hp)
    with_reducible assumption
  · with_reducible apply frame_execBallastRampDownDone (within_trans (by decide) hp)
    with_reducible assumption
  · with_reducible apply frame_execMrAckReportTimer (within_trans (by decide) hp)
    with_reducible assumption
  · with_reducible apply frame_execLampInputDark (within_trans (by decide) hp)
    with_reducible assumption
  · with_reducible apply frame_execReleaseCodeExpiry (within_trans (by decide) hp)
    with_reducible assumption

end Sys2Proof.Machine
end

