-- ==== Sys2Proof/Laws/FrameOpsUpset.lean ====
section
/-!
SUPPORT. Laws/FrameOpsUpset.lean: the frame of every operation and command of Machine/OpsUpset.lean.
-/
namespace Sys2Proof.Machine

theorem frame_noteWay {P : List Part} {s0 : State} {line : Nat} {way : Nat} {s : State} (hp : within [.ledger, .integ, .leaves, .sessions, .boot, .rings, .kodp, .ctrs, .out] P = true) (h : Frame P s0 s) : Frame P s0 (noteWay line way s) := by
  unfold noteWay
  extract_lets +onlyGivenNames x0
  clear_value x0
  extract_lets +onlyGivenNames x1
  clear_value x1
  extract_lets +onlyGivenNames x2
  have h2 : Frame P s0 (x2) := by
    unfold x2
    with_reducible apply frame_onInteg (within_trans (by decide) hp)
    with_reducible assumption
  clear_value x2
  with_reducible apply frame_onlyIf
  · intro x3 h4
    with_reducible apply frame_crumb (within_trans (by decide) hp)
    with_reducible apply frame_exhaust (within_trans (by decide) hp)
    refine frame_onBoot [.boot] (within_trans (by decide) hp) (.inr fun _ => rfl) (.inr fun _ => rfl) (.inl rfl) ?_
    with_reducible assumption
  · with_reducible assumption

theorem frame_sramCorrected {P : List Part} {s0 : State} {w : SramWord} {s : State} (hp : within [.ledger, .integ, .leaves, .sessions, .boot, .rings, .kodp, .ctrs, .out] P = true) (h : Frame P s0 s) : Frame P s0 (sramCorrected w s) := by
  unfold sramCorrected
  extract_lets +onlyGivenNames x0
  clear_value x0
  extract_lets +onlyGivenNames x1
  have h1 : Frame P s0 (x1) := by
    unfold x1
    with_reducible apply frame_bump (within_trans (by decide) hp)
    with_reducible assumption
  clear_value x1
  extract_lets +onlyGivenNames x2
  clear_value x2
  extract_lets +onlyGivenNames x3
  have h3 : Frame P s0 (x3) := by
    unfold x3
    with_reducible apply frame_onlyIf
    · intro x4 h5
      with_reducible apply frame_logError (within_trans (by decide) hp)
      refine frame_onKodp [.kodp] (within_trans (by decide) hp) (.inr fun _ => rfl) (.inr fun _ => rfl) (.inl rfl) ?_
      with_reducible assumption
    · with_reducible assumption
  clear_value x3
  split
  · with_reducible apply frame_noteWay (within_trans (by decide) hp)
    with_reducible assumption
  · with_reducible assumption

theorem frame_loseEntry {P : List Part} {s0 : State} {line : Nat} {s : State} (hp : within [.pkg, .txn, .ledger, .part, .dir, .mem, .dram, .deep, .integ, .mirror, .leaves, .power, .sessions, .obs, .rings, .kodp, .ctrs, .out, .free] P = true) (h : Frame P s0 s) : Frame P s0 (loseEntry line s) := by
  unfold loseEntry
  split
  · with_reducible assumption
  · extract_lets +onlyGivenNames x0
    clear_value x0
    extract_lets +onlyGivenNames x1
    clear_value x1
    extract_lets +onlyGivenNames x2
    have h2 : Frame P s0 (x2) := by
      unfold x2
      with_reducible apply frame_dropPool (within_trans (by decide) hp)
      with_reducible assumption
    clear_value x2
    extract_lets +onlyGivenNames x3
    have h3 : Frame P s0 (x3) := by
      unfold x3
      with_reducible apply frame_putEntry (within_trans (by decide) hp)
      with_reducible assumption
    clear_value x3
    with_reducible apply frame_startRecall (within_trans (by decide) hp)
    with_reducible assumption

theorem frame_loseRegion {P : List Part} {s0 : State} {reg : Nat} {s : State} (hp : within [.pkg, .txn, .ledger, .part, .dir, .mem, .dram, .deep, .integ, .mirror, .leaves, .power, .sec, .sessions, .obs, .rings, .kodp, .ctrs, .out, .free] P = true) (h : Frame P s0 s) : Frame P s0 (loseRegion reg s) := by
  unfold loseRegion
  extract_lets +onlyGivenNames x0
  have h0 : Frame P s0 (x0) := by
    unfold x0
    with_reducible apply frame_forAll
    · intro x1 x2 h3
      split
      · with_reducible assumption
      · with_reducible apply frame_forAll
        · intro x4 x5 h6
          with_reducible apply frame_withRecall (within_trans (by decide) hp)
          · intro x7 h8
            with_reducible apply frame_settleSlot (within_trans (by decide) hp)
            with_reducible apply frame_applyLoss (within_trans (by decide) hp)
            with_reducible assumption
          · with_reducible assumption
        · with_reducible assumption
    · with_reducible assumption
  clear_value x0
  extract_lets +onlyGivenNames x9
  have h9 : Frame P s0 (x9) := by
    unfold x9
    with_reducible apply frame_onDir (within_trans (by decide) hp)
    with_reducible assumption
  clear_value x9
  with_reducible apply frame_notifyLimited (within_trans (by decide) hp)
  with_reducible apply frame_mirrorRegion (within_trans (by decide) hp)
  with_reducible assumption

theorem frame_losePantry {P : List Part} {s0 : State} {l : Nat} {s : State} (hp : within [.pkg, .ledger, .mem, .dram, .deep, .integ, .mirror, .leaves, .power, .sessions, .obs, .rings, .kodp, .ctrs, .out, .free] P = true) (h : Frame P s0 s) : Frame P s0 (losePantry l s) := by
  unfold losePantry
  with_reducible apply frame_ite
  · with_reducible apply frame_poisonLine (within_trans (by decide) hp)
    with_reducible assumption
  · with_reducible apply frame_setMeta (within_trans (by decide) hp)
    with_reducible assumption

theorem frame_loseQueued {P : List Part} {s0 : State} {src : Nat} {tag : Nat} {s : State} (hp : within [.pkg, .txn, .ledger, .part, .dir, .mem, .dram, .deep, .integ, .recp, .core, .twin, .mirror, .traffic, .leaves, .power, .sec, .sessions, .obs, .rings, .kodp, .running, .ctrs, .out, .free] P = true) (h : Frame P s0 s) : Frame P s0 (loseQueued src tag s) := by
  unfold loseQueued
  split
  · with_reducible apply frame_settleAged (within_trans (by decide) hp)
    with_reducible apply frame_finishStatus (within_trans (by decide) hp)
    with_reducible assumption
  · with_reducible apply frame_endPool (within_trans (by decide) hp)
    split
    · with_reducible apply frame_sledAnswer (within_trans (by decide) hp)
      with_reducible assumption
    · with_reducible apply frame_endRepair (within_trans (by decide) hp)
      with_reducible assumption
    · with_reducible assumption
  · with_reducible apply frame_ite
    · extract_lets +onlyGivenNames x0
      clear_value x0
      split
      · with_reducible assumption
      · with_reducible apply frame_ite
        · split
          · split
            · with_reducible apply frame_endAccess (within_trans (by decide) hp)
              with_reducible assumption
            · with_reducible assumption
          · with_reducible assumption
        · with_reducible apply frame_setCore (within_trans (by decide) hp)
          with_reducible apply frame_failTile (within_trans (by decide) hp)
          with_reducible assumption
    · refine frame_onTraffic [.leaves, .traffic] (within_trans (by decide) hp) (.inl rfl) (.inl rfl) ?_
      with_reducible assumption

theorem frame_sramLost {P : List Part} {s0 : State} {w : SramWord} {s : State} (hp : within [.pkg, .link, .txn, .ledger, .part, .dir, .mem, .dram, .deep, .integ, .recp, .core, .twin, .mirror, .traffic, .leaves, .power, .sec, .sessions, .obs, .rings, .kodp, .running, .ctrs, .out, .free] P = true) (h : Frame P s0 s) : Frame P s0 (sramLost w s) := by
  unfold sramLost
  split
  · with_reducible apply frame_losePantry (within_trans (by decide) hp)
    with_reducible assumption
  · with_reducible apply frame_setMeta (within_trans (by decide) hp)
    with_reducible apply frame_losePantry (within_trans (by decide) hp)
    with_reducible assumption
  · with_reducible apply frame_loseEntry (within_trans (by decide) hp)
    with_reducible assumption
  · with_reducible apply frame_loseRegion (within_trans (by decide) hp)
    with_reducible assumption
  · with_reducible apply frame_onPart (within_trans (by decide) hp)
    with_reducible assumption
  · with_reducible apply frame_setCore (within_trans (by decide) hp)
    with_reducible assumption
  · with_reducible assumption
  · with_reducible apply frame_portDown (within_trans (by decide) hp)
    with_reducible apply frame_useFree (within_trans (by decide) hp)
    with_reducible assumption
  · with_reducible apply frame_loseQueued (within_trans (by decide) hp)
    with_reducible assumption
  · with_reducible apply frame_loseChange (within_trans (by decide) hp)
    with_reducible assumption

theorem frame_sramUncorrectable {P : List Part} {s0 : State} {w : SramWord} {s : State} (hp : within [.pkg, .link, .txn, .ledger, .part, .dir, .mem, .dram, .deep, .integ, .recp, .core, .twin, .mirror, .traffic, .leaves, .power, .sec, .sessions, .obs, .rings, .kodp, .running, .ctrs, .out, .free] P = true) (h : Frame P s0 s) : Frame P s0 (sramUncorrectable w s) := by
  unfold sramUncorrectable
  extract_lets +onlyGivenNames x0
  clear_value x0
  extract_lets +onlyGivenNames x1
  clear_value x1
  split
  extract_lets +onlyGivenNames x2
  have h2 : Frame P s0 (x2) := by
    unfold x2
    with_reducible apply frame_logError (within_trans (by decide) hp)
    with_reducible apply frame_bump (within_trans (by decide) hp)
    with_reducible assumption
  clear_value x2
  extract_lets +onlyGivenNames x3
  have h3 : Frame P s0 (x3) := by
    unfold x3
    with_reducible apply frame_notifyLimited (within_trans (by decide) hp)
    with_reducible apply frame_crumb (within_trans (by decide) hp)
    with_reducible assumption
  clear_value x3
  with_reducible apply frame_sramLost (within_trans (by decide) hp)
  with_reducible assumption

theorem frame_noteUnitMismatch {P : List Part} {s0 : State} {unit : Nat} {s : State} (hp : within [.ledger, .integ, .leaves, .sessions, .rings, .kodp, .ctrs, .out] P = true) (h : Frame P s0 s) : Frame P s0 (noteUnitMismatch unit s) := by
  unfold noteUnitMismatch
  with_reducible apply frame_notifyLimited (within_trans (by decide) hp)
  with_reducible apply frame_logError (within_trans (by decide) hp)
  with_reducible apply frame_bump (within_trans (by decide) hp)
  with_reducible assumption

theorem frame_laneMismatch {P : List Part} {s0 : State} {core : Nat} {thread : Nat} {major : Nat} {s : State} (hp : within [.ledger, .dir, .dram, .deep, .integ, .recp, .core, .mirror, .leaves, .power, .sessions, .boot, .units, .rings, .kodp, .running, .ctrs, .out] P = true) (h : Frame P s0 s) : Frame P s0 (laneMismatch core thread major s) := by
  unfold laneMismatch
  split
  · with_reducible assumption
  · split
    · with_reducible assumption
    · with_reducible apply frame_ite
      · split
        · with_reducible apply frame_ite
          · with_reducible assumption
          · with_reducible apply frame_residueKernel (within_trans (by decide) hp)
            with_reducible assumption
        · with_reducible assumption
      · with_reducible apply frame_mismatchTile (within_trans (by decide) hp)
        with_reducible assumption

theorem frame_engineTestFails {P : List Part} {s0 : State} {core : Nat} {s : State} (hp : within [.ledger, .dir, .dram, .deep, .integ, .recp, .core, .mirror, .leaves, .power, .sessions, .boot, .units, .rings, .kodp, .running, .ctrs, .out] P = true) (h : Frame P s0 s) : Frame P s0 (engineTestFails core s) := by
  unfold engineTestFails
  extract_lets +onlyGivenNames x0
  clear_value x0
  with_reducible apply frame_ite
  · with_reducible assumption
  · with_reducible apply frame_retireCore (within_trans (by decide) hp)
    with_reducible apply frame_noteFailure (within_trans (by decide) hp)
    with_reducible apply frame_onInteg (within_trans (by decide) hp)
    with_reducible assumption

theorem frame_strike {P : List Part} {s0 : State} {u : Upset} {s : State} (hp : within [.pkg, .link, .txn, .ledger, .part, .dir, .mem, .dram, .deep, .integ, .recp, .core, .twin, .mirror, .traffic, .leaves, .power, .sec, .sessions, .boot, .units, .fw, .obs, .rings, .kodp, .running, .dict, .ctrs, .out, .free] P = true) (h : Frame P s0 s) : Frame P s0 (strike u s) := by
  unfold strike
  split
  · with_reducible apply frame_engineTestFails (within_trans (by decide) hp)
    with_reducible assumption
  · extract_lets +onlyGivenNames x0
    clear_value x0
    with_reducible apply frame_onlyIf
    · intro x1 h2
      with_reducible apply frame_retrainChannel (within_trans (by decide) hp)
      with_reducible assumption
    · with_reducible assumption
  · refine frame_onBoot [.units, .boot] (within_trans (by decide) hp) (.inl rfl) (.inr fun _ => rfl) (.inl rfl) ?_
    with_reducible assumption
  · refine frame_onKodp [.running, .dict, .kodp] (within_trans (by decide) hp) (.inl rfl) (.inl rfl) (.inl rfl) ?_
    with_reducible assumption
  · with_reducible apply frame_onFw (within_trans (by decide) hp)
    with_reducible assumption
  · refine frame_onBoot [.units, .boot] (within_trans (by decide) hp) (.inl rfl) (.inr fun _ => rfl) (.inl rfl) ?_
    with_reducible assumption
  · with_reducible apply frame_ite
    · with_reducible assumption
    · split
      · with_reducible assumption
      · with_reducible apply frame_sramCorrected (within_trans (by decide) hp)
        with_reducible assumption
      · with_reducible apply frame_sramUncorrectable (within_trans (by decide) hp)
        with_reducible assumption
  · with_reducible apply frame_onlyIf
    · intro x3 h4
      with_reducible apply frame_laneMismatch (within_trans (by decide) hp)
      with_reducible assumption
    · with_reducible assumption
  · split
    · extract_lets +onlyGivenNames x5
      clear_value x5
      with_reducible apply frame_onlyIf
      · intro x6 h7
        with_reducible apply frame_laneMismatch (within_trans (by decide) hp)
        with_reducible assumption
      · with_reducible assumption
    · with_reducible assumption
  · split
    · with_reducible apply frame_ite
      · with_reducible apply frame_noteUnitMismatch (within_trans (by decide) hp)
        with_reducible apply frame_bump (within_trans (by decide) hp)
        with_reducible apply frame_settleAged (within_trans (by decide) hp)
        with_reducible apply frame_finishStatus (within_trans (by decide) hp)
        with_reducible assumption
      · with_reducible assumption
    · with_reducible assumption
  · split
    · with_reducible apply frame_ite
      · with_reducible apply frame_noteUnitMismatch (within_trans (by decide) hp)
        with_reducible apply frame_bump (within_trans (by decide) hp)
        with_reducible apply frame_failTile (within_trans (by decide) hp)
        with_reducible assumption
      · with_reducible assumption
    · with_reducible assumption

theorem frame_strikes {P : List Part} {s0 : State} {s : State} (hp : within [.pkg, .link, .txn, .ledger, .part, .dir, .mem, .dram, .deep, .integ, .recp, .core, .twin, .mirror, .traffic, .leaves, .power, .sec, .sessions, .boot, .units, .fw, .obs, .rings, .kodp, .running, .dict, .ctrs, .out, .free] P = true) (h : Frame P s0 s) : Frame P s0 (strikes s) := by
  unfold strikes
  with_reducible apply frame_ite
  · with_reducible assumption
  · with_reducible apply frame_settleWaits (within_trans (by decide) hp)
    with_reducible apply frame_forAll
    · intro x0 x1 h2
      with_reducible apply frame_strike (within_trans (by decide) hp)
      with_reducible assumption
    · with_reducible apply frame_useFree (within_trans (by decide) hp)
      with_reducible assumption

end Sys2Proof.Machine
end

