-- ==== Sys2Proof/Laws/Operate.lean ====
section
/-!
SUPPORT. Laws/Operate.lean: what a KODP operation does once it is accepted: it runs, and its reply answers it.
-/
namespace Sys2Proof.Machine

theorem frame_begun {P : List Part} {s0 s : State} {o : OpObj} {r : Req} {arg : List Byte} {n : Nat}
    (hp : within [.kodp, .running, .ctrs] P = true) (h : Frame P s0 s) : Frame P s0 (begun o r arg n s) := by
  unfold begun
  apply frame_unqueue (within_trans (by decide) hp)
  refine frame_onKodp [.running] (within_trans (by decide) hp) (.inl rfl) (.inr fun _ => rfl) (.inr fun _ => rfl) ?_
  exact frame_heard (within_trans (by decide) hp) h

@[simp] theorem heard_running (r : Req) (s : State) : (heard r s).kodp.running = s.kodp.running := by unfold heard; split <;> rfl
@[simp] theorem heard_cache (r : Req) (s : State) : (heard r s).kodp.cache = s.kodp.cache := by unfold heard; split <;> rfl
@[simp] theorem heard_obs (r : Req) (s : State) : (heard r s).obs = s.obs := by unfold heard; split <;> rfl
@[simp] theorem heard_ready (r : Req) (s : State) : (heard r s).ready = s.ready := by unfold heard; split <;> rfl
@[simp] theorem heard_standby (r : Req) (s : State) : (heard r s).standby = s.standby := by unfold heard; split <;> rfl
@[simp] theorem heard_isPeer (r : Req) (s : State) (c : Client) : (heard r s).isPeer c = s.isPeer c := by unfold heard; split <;> rfl

@[simp] theorem begun_running (o : OpObj) (r : Req) (arg : List Byte) (n : Nat) (s : State) :
    (begun o r arg n s).kodp.running = s.kodp.running ++ [runningOf o r arg n] := by
  show (heard r s).kodp.running ++ _ = _
  rw [heard_running]

/-- An accepted operation runs (R664 to R671). -/
theorem operate_accepted {o : OpObj} {r : Req} {arg : List Byte} {n : Nat} {v : Verdict} {run : State → State} {s : State}
    (h : s.accepts o r n arg = true) (h1 : v.bad = false) (h2 : v.fenced = false) (h3 : v.state = false) (h4 : v.other = none) :
    operate o r arg n v run s = run (begun o r arg n s) := by
  simp only [State.accepts, Bool.and_eq_true, Bool.not_eq_true', Option.isNone_iff_eq_none] at h
  obtain ⟨⟨⟨⟨⟨⟨⟨⟨a1, a2⟩, a3⟩, a4⟩, a5⟩, a6⟩, a7⟩, a8⟩, a9⟩ := h
  unfold operate
  simp only [a1, heard_obs, a2, heard_cache, a3, heard_running, a4, heard_ready, h1, h2, h3, h4, heard_standby, heard_isPeer, a7, a9]
  have e5 : (!s.ready && !o.recovery) = false := by cases h5 : s.ready <;> cases h6 : o.recovery <;> simp_all
  have e6 : (!(o.any || (o.roles &&& s.rolesOf r.client) != 0 || s.isPeer r.client && (o.mirrored || o.index == 0x1E30))) = false := by
    rw [Bool.not_eq_false']; exact a6
  simp only [e5, e6]
  have e8 : (o.type == 3 && (firstArg n arg).isSome && s.kodp.running.any (fun x => x.index == o.index && x.sub == o.sub && x.firstArg == firstArg n arg)) = false := a8
  unfold firstArg at e8
  simp only [e8]
  rfl

/-- Operations that run are found by their request. -/
theorem accepts_no_running {o : OpObj} {r : Req} {arg : List Byte} {n : Nat} {s : State} (h : s.accepts o r n arg = true) :
    ∀ x ∈ s.kodp.running, ¬(x.req.client = r.client ∧ x.req.id = r.id) := by
  simp only [State.accepts, Bool.and_eq_true, Bool.not_eq_true'] at h
  have a4 := h.1.1.1.1.1.2
  intro x hx hc
  rw [List.any_eq_false] at a4
  apply a4 x hx
  simp [hc.1, hc.2]

/-- What KODP keeps of replies and of the operations that run: a message that is sent changes none of it. -/
def KodpState.held (k : KodpState) : Assoc Client (List CacheEntry) × List (Nat × Req × Nat × KMsg) × List Running := (k.cache, k.peerWait, k.running)

theorem held_of_kodp {s t : State} (h : t.kodp = s.kodp) : t.kodp.held = s.kodp.held := by rw [h]

theorem frame_kodp {A : List Part} {s t : State} (h : Frame A s t) (h1 : A.contains .kodp = false) (h2 : A.contains .running = false) :
    t.kodp.held = s.kodp.held := by
  have e1 : t.kodp.rest = s.kodp.rest := h.rest .kodp h1
  have e2 : t.kodp.running = s.kodp.running := h.rest .running h2
  have e3 : t.kodp.cache = s.kodp.cache := by show t.kodp.rest.cache = s.kodp.rest.cache; rw [e1]
  have e4 : t.kodp.peerWait = s.kodp.peerWait := by show t.kodp.rest.peerWait = s.kodp.rest.peerWait; rw [e1]
  simp only [KodpState.held, e2, e3, e4]

@[simp] theorem kslPush_held (b : Bool) (m : KMsg) (s : State) : (kslPush b m s).kodp.held = s.kodp.held := by
  unfold kslPush
  dsimp only
  split
  · rfl
  · split
    · generalize s.kodp.kslTx ++ [(b, m)] = q
      rw [frame_kodp (frame_bump (P := [.ctrs]) (c := .kslNotifyDrops) (u := 0) rfl (frame_bump (c := .kNotifyDropped) (u := 3) rfl (Frame.refl _ _))) rfl rfl]
      rfl
    · rfl

@[simp] theorem secureMsg_held (c : Client) (m : KMsg) (s : State) : (secureMsg c m s).1.kodp.held = s.kodp.held := by
  unfold secureMsg; split <;> rfl

@[simp] theorem sendMsg_held (c : Client) (tag : Nat) (b : Bool) (m : KMsg) (s : State) : (sendMsg c tag b m s).kodp.held = s.kodp.held := by
  unfold sendMsg
  split
  rename_i t w e
  have ht : t.kodp.held = s.kodp.held := by have := secureMsg_held c m s; rw [e] at this; exact this
  extract_lets own tag1 t1
  have h1 : Frame [.leaves, .ledger, .out] t t1 := by
    unfold t1
    refine frame_onlyIf ?_ (Frame.refl _ _)
    intro u hu
    exact frame_tookTag (by decide) hu
  have ht : t1.kodp.held = s.kodp.held := (frame_kodp h1 rfl rfl).trans ht
  clear_value own tag1 t1
  split
  · exact ht
  · exact (kslPush_held b w t1).trans ht
  · refine Eq.trans (frame_kodp (A := [.leaves, .ledger, .out]) (s := t1) ?_ rfl rfl) ht
    refine frame_emit (by decide) (frame_forAll ?_ (Frame.refl _ _))
    intro p u hu
    split
    · exact frame_sendTw (by decide) hu
    · exact frame_sendPacket (by decide) hu

/-- A reply is the newest of its client's cached replies; what runs is left. -/
theorem sendReply_cache (r : Req) (crc : Nat) (m : KMsg) (s : State) :
    (agetD (sendReply r crc m s).kodp.cache r.client []).getLast? = some { reqId := r.id, crc := crc, reply := m }
      ∧ (sendReply r crc m s).kodp.running = s.kodp.running := by
  unfold sendReply
  extract_lets u w
  have hu : u.kodp.held = s.kodp.held := by
    unfold u
    split
    · refine frame_kodp (A := [.ledger, .twin, .mirror, .leaves, .ctrs]) (frame_onlyIf ?_ (Frame.refl _ _)) rfl rfl
      intro t ht
      exact frame_ledgerWrite (by decide) ht
    · rfl
  have hs := sendMsg_held r.client r.tag true m (bump .kReplies (transportNum r.client.transport) w)
  have hw : w.kodp.running = u.kodp.running ∧ (agetD w.kodp.cache r.client []).getLast? = some { reqId := r.id, crc := crc, reply := m } := by
    refine ⟨rfl, ?_⟩
    have e : w.kodp.cache = amod u.kodp.cache r.client [] (fun (l : List CacheEntry) => (l ++ [{ reqId := r.id, crc := crc, reply := m : CacheEntry }]).drop (l.length + 1 - 64)) := rfl
    rw [e, agetD_amod_same, List.getLast?_drop]
    simp
  simp only [KodpState.held, Prod.mk.injEq] at hs hu
  constructor
  · rw [hs.1]; exact hw.2
  · rw [hs.2.2]; exact hw.1.trans hu.2.2

/-- The reply of an operation that runs alone under its request answers it. -/
theorem reply_answers {o : OpObj} {r : Req} {st : Status} {body : List Byte} {l : List Running} {x : Running} {t : State}
    (hr : t.kodp.running = l ++ [x]) (hl : ∀ y ∈ l, ¬(y.req.client = r.client ∧ y.req.id = r.id))
    (h1 : x.req = r) (h2 : x.index = o.index) (h3 : x.sub = o.sub) (h4 : x.timedOut = false) : Answered o r st body (reply o r st body t) := by
  have hn : ∀ y ∈ l, (y.req == r && y.index == o.index && y.sub == o.sub) = false := by
    intro y hy
    have := hl y hy
    cases hq : (y.req == r && y.index == o.index && y.sub == o.sub) with
    | false => rfl
    | true => simp at hq; exact absurd (by rw [hq.1.1]; exact ⟨rfl, rfl⟩) this
  have hx : (x.req == r && x.index == o.index && x.sub == o.sub) = true := by simp [h1, h2, h3]
  have hf : t.kodp.running.find? (fun y => y.req == r && y.index == o.index && y.sub == o.sub) = some x := by
    rw [hr, List.find?_append, List.find?_eq_none.2 (by intro y hy; simp [hn y hy])]
    simp [hx]
  have hfil : (l ++ [x]).filter (fun y => !(y.req == r && y.index == o.index && y.sub == o.sub)) = l := by
    rw [List.filter_append, List.filter_eq_self.2 (by intro y hy; simp [hn y hy])]
    simp [h1, h2, h3]
  have keep : ∀ (u : State), u.kodp.running = l → Answered o r st body (sendReply r x.crc (replyOf o r st body) u) := by
    intro u hu
    refine ⟨.inl ⟨_, (sendReply_cache r x.crc _ u).1, rfl, rfl⟩, ?_⟩
    rw [(sendReply_cache r x.crc _ u).2, hu, List.all_eq_true]
    intro y hy
    simp [hn y hy]
  unfold reply
  extract_lets mine t1 m n
  have hf2 : t.kodp.running.find? mine = some x := hf
  split
  · rename_i e; rw [hf2] at e; cases e
  rename_i y e
  rw [hf2] at e
  cases e
  extract_lets copied t2
  have r1 : t1.kodp.running = l := by
    show (t.kodp.running.filter _) = l
    rw [hr]; exact hfil
  have r2 : t2.kodp.running = l := by
    refine Eq.trans ?_ r1
    have : Frame [.kodp, .ledger, .leaves, .sessions, .ctrs, .out] t1 t2 := by
      refine frame_onlyIf ?_ (Frame.refl _ _)
      intro u hu
      exact frame_mirrorOp (by decide) hu
    exact this.rest .running rfl
  rw [if_neg (by simp [h4])]
  clear_value t1 copied t2
  split
  · refine ⟨.inr ⟨_, List.getLast?_concat, rfl, rfl⟩, ?_⟩
    show t2.kodp.running.all _ = true
    rw [r2, List.all_eq_true]
    intro y hy
    simp [hn y hy]
  · exact keep t2 r2

end Sys2Proof.Machine
end

