-- ==== Sys2Proof/Tests/Slice0.lean ====
section
/-!
SUPPORT. Tests/Slice0.lean: the model's own tests.  For every statement with hypotheses a theorem `witness_<statement>` that shows, clause by
clause, a state and operands that meet them together; what well-formedness takes and refuses; the spec's worked examples; single steps.
-/
open Sys2Proof Sys2Proof.Machine
namespace Sys2Proof.Tests

/-- A client on UDP, outside a session. -/
def udpClient (n : Nat) : Client := { transport := .udp, addr := n, port := 9, session := none }
/-- A session of a UDP client that holds some roles. -/
def sessionOf (n roles : Nat) (tenant : Option Nat) : Session :=
  { client := udpClient n, established := true, roles := roles, authKey := some 77, tenant := tenant, peer := false, key := 5, missed := 0, sent := 0, received := 0, updates := 0 }
/-- A request in the session of a number. -/
def reqIn (n : Nat) : Req := { client := { udpClient n with session := some n }, id := 7, tag := 0 }
/-- The board controller's request: Operator. -/
def rO : Req := { client := kslClient, id := 7, tag := 0 }
/-- A pool manager's. -/
def rP : Req := reqIn 1
/-- Tenant 5's. -/
def rT : Req := reqIn 2
/-- A debug client's. -/
def rD : Req := reqIn 3
/-- A package that is up: Ready, with a session of each role. -/
def up : State :=
  { State.reset with
    pkg := { State.reset.pkg with poresetLow := false, phase := .run }
    boot := { State.reset.boot with step := 6, memDone := true }
    sec := { State.reset.sec with sessions := [(1, sessionOf 1 rolePm none), (2, sessionOf 2 roleTenant (some 5)), (3, sessionOf 3 roleDebug none)], nextSession := 4 } }


/-- A segment of the direct window with every right, under the key `key` of tenant `ten`. -/
def segOf (ten key : Nat) : Segment :=
  { valid := true, paged := false, rights := 255, tenant := ten, keyId := key, tier := 0, base := 0, limit := 1024, poisoned := false }
/-- Context 5: one segment, tenant 5. -/
def ctx5 : CtxDesc := { valid := true, ctxId := 5, gen := 1, root := 0, fqBase := 4096, fqLog := 4, owner := 5, segs := [segOf 5 1] }
/-- A partner slot that is Active with every capability. -/
def slotOf (eid : Nat) : Slot :=
  { st := .active, eid := eid, kind := 1, caps := 31, nonce := 7, attachedAt := 0, renewedAt := 0, grants := [5], detachTags := []
    loss := { cause := 0, poisoned := 0, exclusive := 0, shared := 0, coarse := 0, recipes := 0 } }
/-- A lane control block of a good peer. -/
def goodLcb : Lcb :=
  { physLane := 0, port := 0, logicalLane := 0, linkState := 2, frameCount := 0, txRetired := 0, retireReq := 0, retrainReq := false
    laneRestore := false, txWidth := 8, capGrand := true, capCompact := true, capHalf := true, profile := 0, rxCorrected := 0, rxUncorr := 0, stamp := 0
    echo := 0, echoHold := 0 }
/-- A port whose lanes are lit. -/
def litPort (st : PortSt) : Port :=
  { Port.reset with st := st, txWidth := 8, rxWidth := 8, shown := some goodLcb, startFlits := 32
                    lanes := (List.range 9).map (fun l => (l, { Lane.reset with los := false, locked := true, lcb := some goodLcb, run := 3, same := 3 })) }
/-- A package with its fabric up: two partners in slots 3 and 4 (EID 10 and 11), context 5 of tenant 5, ports 0, 1, 32 and 36 Active. -/
def world : State :=
  { up with
    link := { ports := [(0, litPort .active), (1, litPort .active), (32, litPort .active), (36, litPort .active)], mgmtLink := true }
    kodp := { up.kodp with objs := [(.nodeEid, 1), (.serviceEid, 2)] }
    part := { up.part with slots := [(3, slotOf 10), (4, slotOf 11)], gens := [(5, 1)], ctxCache := [((0, 5), ctx5), ((1, 5), ctx5)] }
    sec := { up.sec with tenants := [(5, { authKey := 77, sealed := false, memKeys := [(1, 99)], signKeys := [(1, 88)] })] } }
/-- A packet to the node EID from EID 10. -/
def pktOf (vc op harg : Nat) (body : List Byte) : Packet :=
  Packet.close { vc := vc, op := op, dest := 1, src := 10, tag := 7, poison := false, resend := false, enc := false, rsv := 0, status := 0, harg := harg, crc := 0, body := body }
/-- A request packet for an address in context 5. -/
def reqPkt (vc op addr size subop : Nat) : Packet := pktOf vc op 5 (leBytes 8 addr ++ leBytes 1 size ++ leBytes 1 subop ++ leBytes 6 0)


/-- A KERNEL descriptor. -/
def kernDesc : Desc := { code := 13, flags := 0, op := 0, fmtIn := 0, fmtOut := 0, startTile := 0, doneAddr := 1024, w2 := 65536, w3 := 0, w4 := 0, w5 := 4, w6 := 2, w7 := 0 }
/-- A recipe of a descriptor that slot 3 sent. -/
def recOf (d : Desc) (ph : RecPhase) : Recipe :=
  { id := 1, src := 10, tag := 7, slot := 3, ctx := 5, port := 0, pkt := pktOf 5 0x50 5 d.bytes, die := 0, d := d, phase := ph, acceptedAt := 0, askedAt := 0
    total := d.total [], phaseOne := 0, next := 0, done := [], skip := [], checked := [], failed := [], lost := [], withLoss := false, cancelled := false
    poison := false, poisoned := 0, result := 0, result2 := 0, marks := 0, exc := none, leader := false, params := [], parts := [], scanBad := 0
    streamSeq := 0, e4m3Nan := false, fast := false }
/-- A thread at instruction 3: x2 is -2, x3 is 4096, x4 is poisoned, x5 is 128; v1 to v4 hold patterns, v5 is poisoned; p1 is a pattern. -/
def thr : Thread :=
  { x := [(1, (5, false)), (2, (0xFFFFFFFFFFFFFFFE, false)), (3, (4096, false)), (4, (0, true)), (5, (128, false)), (6, (0, false)), (7, (131, false)), (8, (8128, false)), (10, (256, false))]
    v := [(1, (0x3F8000003F800000C000000001020304, false)), (2, (0x4080000040A0000040C0000080000001, false)), (5, (0, true))]
    acc := [(1, { Acc.empty with a := 77, any := true, notNeg0 := true })], p := [(1, 0x5555), (2, 0)], pc := 3, exited := false, atBar := false, accesses := []
    nextAcc := 0, late := [] }
/-- A kernel tile of the recipe, with the threads given. -/
def kTile (l : Assoc Nat Thread) : CoreTile :=
  { recipe := 1, tile := 2, stolen := false, checked := true, kernel := true, handle := 0, textLen := 400, tray := 8192, threads := l, ending := .running, pages := [], visited := [] }
/-- The tray of core 3: some bytes, and a poisoned block. -/
def kCore (t : CoreTile) : Core := { Core.reset with run := some t, tray := [(128, 9), (135, 250), (140, 7)], trayPoison := [(2, 0)] }
/-- Core 3 runs a kernel tile with these threads. -/
def kern (l : Assoc Nat Thread) : State :=
  { world with recp := { world.recp with recipes := [{ recOf kernDesc .running with next := 4 }], nextId := 2 }, core := { world.core with cores := [(3, kCore (kTile l))] } }


/-- A package in a twin state, its peer agreed as EID 60. -/
def twinIn (st : TwinSt) : State :=
  { world with twin := { world.twin with st := st, enable := true, peerEid := 60, epoch := 9, lampOut := .hold, kaAt := 0
                                         peer := some { node := 60, service := 2, code := 1, state := 3, units := 0, pref := true, fresh := false, incarnation := 5, epoch := 9, handoverAsk := false } } }
/-- A packet from the peer. -/
def twPkt (op tag : Nat) (body : List Byte) : Packet :=
  Packet.close { vc := ((linkShape 36 op).map Prod.fst).getD 0, op := op, dest := 1, src := 60, tag := tag, poison := false, resend := false, enc := false, rsv := 0, status := 0, harg := 0, crc := 0, body := body }

/-- A pair by its parts. -/
theorem pairOf {α β : Type} {x : α × β} {a : α} {b : β} (h : x.1 = a) (k : x.2 = b) : x = (a, b) := Prod.ext h k

end Sys2Proof.Tests

namespace Sys2Proof.Tests.Package
set_option Elab.async false

/-! Witnesses: for every clause of the statements about packages and pins, a state and operands that meet its hypotheses. -/

def bt : State := { State.reset with pkg := { State.reset.pkg with poresetLow := false, phase := .boot } }
def st0 : State := { State.reset with pkg := { State.reset.pkg with poresetLow := false } }

theorem witness_PackageResets :
    (up.pkg.poresetLow = false ∧ up.pkg.stopped = none)
    ∧ (State.reset : State).pkg.poresetLow = true
    ∧ (st0.pkg.phase = Phase.strap ∧ st0.pkg.poresetLow = false ∧ st0.pkg.stopped = none)
    ∧ up.takesWarm = true
    ∧ (up.onPkg fun p => { p with warmQual := true } : State).pkg.warmQual = true
    ∧ ((up.onPkg fun p => { p with warmQual := true } : State).pkg.warmQual = true ∧ (up.onPkg fun p => { p with warmQual := true } : State).takesWarm =
      true)
    ∧ (bt.pkg.phase = Phase.boot ∧ bt.fw.recovery = false ∧ bt.pkg.stopped = none)
    ∧ (bt.onPkg fun p => { p with debugHold := true } : State).pkg.debugHold = true :=
  ⟨by decide +kernel, by decide +kernel, by decide +kernel, by decide +kernel, by decide +kernel, by decide +kernel, by decide +kernel, by decide +kernel⟩

theorem witness_PackageInputs :
    ((up.onPkg fun p => { p with holdupRun := 2, holdupLast := true } : State).pkg.poresetLow = false ∧
      (up.onPkg fun p => { p with holdupRun := 2, holdupLast := true } : State).pkg.phase ≠ Phase.strap ∧
      (up.onPkg fun p => { p with holdupRun := 2, holdupLast := true } : State).pkg.stopped = none)
    ∧ (9 < 10 ∧ up.pkg.darkEngines.contains 9 = false ∧ up.pkg.poresetLow = false ∧ up.pkg.stopped = none)
    ∧ (3 < 10 ∧ 1 < 2 ∧ (up.onPkg fun p => { p with darkEngines := [3] } : State).pkg.poresetLow = false ∧
      (up.onPkg fun p => { p with darkEngines := [3] } : State).pkg.stopped = none)
    ∧ (9 < 10 ∧ 1 < 2 ∧ up.pkg.poresetLow = false ∧ up.pkg.stopped = none)
    ∧ (9 < (.optical : SensorKind).count ∧ (st0.onPkg fun p => { p with poresetLow := true } : State).pkg.poresetLow = true)
    ∧ (up.pkg.poresetLow = false ∧ up.pkg.stopped = none ∧ 7 < (.stack : SensorKind).count ∧ up.pkg.sensors = [])
    ∧ (1 < (.fabric : SensorKind).count ∧ up.pkg.poresetLow = false ∧ up.pkg.stopped = none)
    ∧ up.pkg.phase = Phase.run
    ∧ ((up.onPkg fun p => { p with tp4 := true } : State).pkg.phase = Phase.run ∧ (up.onPkg fun p => { p with tp4 := true } : State).pkg.stepHeld = [])
    ∧ ((up.onPkg fun p => { p with stepHeld := [{ kind := 0, key := 0, die := 0, milliAmps := 5, rising := true, started := false }] } : State).pkg.phase =
      Phase.run ∧
      (up.onPkg fun p => { p with stepHeld := [{ kind := 0, key := 0, die := 0, milliAmps := 5, rising := true, started := false }] } : State).pkg.stepHeld
      = ({ kind := 0, key := 0, die := 0, milliAmps := 5, rising := true, started := false } : LoadStep) :: ([] : List LoadStep) ∧
      (up.onPkg fun p => { p with stepHeld := [{ kind := 0, key := 0, die := 0, milliAmps := 5, rising := true, started := false }] } : State).pkg.step =
      none ∧
      (up.onPkg fun p => { p with stepHeld := [{ kind := 0, key := 0, die := 0, milliAmps := 5, rising := true, started := false }] } : State).pkg.tp4 =
      false ∧
      (up.onPkg fun p => { p with stepHeld := [{ kind := 0, key := 0, die := 0, milliAmps := 5, rising := true, started := false }] } : State).pkg.warmQual
      = false)
    ∧ ((State.reset : State).pkg.phase ≠ Phase.run ∧ (State.reset : State).pkg.phase ≠ Phase.debug)
    ∧ ((up.onPkg fun p =>
      { p with tp4 := true, tp5 := true, step := some { kind := 0, key := 0, die := 0, milliAmps := 5, rising := true, started := false } } :
      State).pkg.tp4 = true ∧ (up.onPkg fun p =>
      { p with tp4 := true, tp5 := true, step := some { kind := 0, key := 0, die := 0, milliAmps := 5, rising := true, started := false } } :
      State).pkg.tp5 = true)
    ∧ ((up.onPkg fun p => { p with tp4 := true, step := some { kind := 0, key := 0, die := 0, milliAmps := 5, rising := true, started := false } } :
      State).pkg.tp4 = true ∧ (up.onPkg fun p =>
      { p with tp4 := true, step := some { kind := 0, key := 0, die := 0, milliAmps := 5, rising := true, started := false } } : State).pkg.tp5 = false ∧
      (∀ (x : LoadStep), (up.onPkg fun p =>
      { p with tp4 := true, step := some { kind := 0, key := 0, die := 0, milliAmps := 5, rising := true, started := false } } : State).pkg.step = some x →
      x.started = false) ∧ (up.onPkg fun p =>
      { p with tp4 := true, step := some { kind := 0, key := 0, die := 0, milliAmps := 5, rising := true, started := false } } : State).pkg.stepHeld = [])
    ∧ ((up.onPkg fun p => { p with tp5 := true, tp4 := false } : State).pkg.tp4 = false ∧
      (up.onPkg fun p => { p with tp5 := true, tp4 := false } : State).pkg.tp5 = true) :=
  ⟨by decide +kernel, by decide +kernel, by decide +kernel, by decide +kernel, by decide +kernel, by decide +kernel, by decide +kernel, by decide +kernel,
   by decide +kernel, by decide +kernel, by decide +kernel, by decide +kernel, by decide +kernel, by decide +kernel⟩

end Sys2Proof.Tests.Package

namespace Sys2Proof.Tests.Bringup
set_option Elab.async false

/-! Witnesses: for every clause of the statements about bring-up, resets and spares, a state and operands that meet its hypotheses. -/

def bs (n : Nat) (p : BootPath) : State := up.onBoot fun b => { b with step := n, path := p, memDone := false }
def part : State := up.onKodp fun k => { k with tables := [(.partitions, [{ fields := [3, 5, 6] }])] }
def pr (k u : Nat) : State := up.onBoot fun b => { b with
      partials := [{ kind := k, unit := u, since := 0, req := some rO }],
      units := [((.core, u), {(unitDefault .core u) with st := .resetting, was := .enabled}),
        ((.cluster, u), {(unitDefault .cluster u) with st := .resetting, was := .enabled})] }
def out (k u : Nat) : State := (up.onKodp fun k => {k with objs := [(.serviceMode, 1)]}).onBoot fun b => if k = 5 then {b with portsOut := [u]} else
  { b with units := [((if k = 1 then .core else if k = 2 then .cluster else .channel, u), {(unitDefault .core u) with st := .out})] }
def bring : State := up.onBoot fun b => { b with
      bringIns := [{ core := 16, for_ := 3, req := some rO, woken := true, since := 5 }],
      units := [((.core, 3), {(unitDefault .core 3) with st := .retired})] }

theorem witness_BringupSteps :
    ((bs 2 .cold : State).stepRuns = true ∧ (bs 2 .cold : State).boot.path = BootPath.cold)
    ∧ ((bs 2 .reheat : State).stepRuns = true ∧ (bs 2 .reheat : State).boot.path = BootPath.reheat)
    ∧ ((bs 2 .cold : State).stepRuns = true ∨ (bs 2 .cold : State).boot.step = 1 ∧ (bs 2 .cold : State).pkg.phase = Phase.boot ∧
      (bs 2 .cold : State).fw.recovery = false ∧ (bs 2 .cold : State).pkg.stopped = none)
    ∧ (0 < 16 ∧ up.frozen = false ∧ up.bakerUp = true ∧ up.clusterResetting 0 = false)
    ∧ (0 < 2 ∧ up.frozen = false ∧ up.bakerUp = true ∧ up.obs.reheat.contains 0 = false)
    ∧ (0 < 2 ∧ up.frozen = false ∧ up.bakerUp = true) :=
  ⟨by decide +kernel, by decide +kernel, by decide +kernel, by decide +kernel, by decide +kernel, by decide +kernel⟩

set_option maxRecDepth 100000 in
theorem witness_PartialResets :
    (corePresent 0 = true ∧ up.coreResetting 0 = false ∧ up.accepts (cmdObj 7968 1 roleOp) rO 2 (leBytes 2 0) = true)
    ∧ (15 < 16 ∧ up.clusterResetting 15 = false ∧ up.accepts (cmdObj 7968 2 roleOp) rO 1 (leBytes 1 15) = true)
    ∧ (part.partition 3 = some (5, 6) ∧ (part.boot.partials.any fun p => p.kind == 3 && p.unit == 3) = false ∧ part.accepts (cmdObj 7968 3 roleOp) rO 1
      (leBytes 1 3) = true)
    ∧ up.accepts (cmdObj 7968 4 roleOp) rO 0 [] = true
    ∧ ((1 = 1 ∨ 1 = 2) ∧ (1 = 1 → ((pr 1 3 : State).unit UnitKind.core 3).resets.length < 3))
    ∧ (List.find? (fun p => p.kind == 1 && p.unit == 3) (pr 1 3 : State).boot.partials = some
      ({ kind := 1, unit := 3, since := 0, req := some rO } : Partial1))
    ∧ ((pr 1 100 : State).frozen = false ∧ ((pr 1 100 : State).boot.partials.any fun p => p.kind == 1 && p.unit == 100) = true ∧
      (pr 1 100 : State).clusterResetting (clusterOf 100) = false)
    ∧ (pr 2 15 : State).frozen = false
    ∧ (List.find? (fun p => p.kind == 2 && p.unit == 15) (pr 2 15 : State).boot.partials = some
      ({ kind := 2, unit := 15, since := 0, req := some rO } : Partial1)) :=
  ⟨by decide +kernel, by decide +kernel, by decide +kernel, by decide +kernel, by decide +kernel, by decide +kernel, by decide +kernel, by decide +kernel,
   by decide +kernel⟩

set_option maxRecDepth 100000 in
theorem witness_LarderAndService :
    (portPresent 0 = true ∧ (out 5 7 : State).obj Obj.serviceMode = 1 ∧ (out 5 7 : State).unitOut 5 0 = false ∧ (out 5 7 : State).accepts (serviceObj 1) rO
      1 (serviceArg 5 0) = true)
    ∧ (portPresent 7 = true ∧ (out 5 7 : State).obj Obj.serviceMode = 1 ∧ (out 5 7 : State).unitOut 5 7 = true ∧ (out 5 7 : State).accepts (serviceObj 2)
      rO 1 (serviceArg 5 7) = true)
    ∧ (corePresent 7 = true ∧ (out 1 7 : State).obj Obj.serviceMode = 1 ∧ (out 1 7 : State).unitOut 1 7 = true ∧ (out 1 7 : State).coreResetting 7 = false
      ∧ (out 1 7 : State).spareCore (clusterOf 7) = some 16 ∧ (out 1 7 : State).accepts (serviceObj 3) rO 1 (serviceArg 1 7) = true)
    ∧ (corePresent 7 = true ∧ (out 1 7 : State).obj Obj.serviceMode = 1 ∧ (out 1 7 : State).unitOut 1 7 = true ∧ (out 1 7 : State).coreResetting 7 = false
      ∧ ((out 1 7 : State).unit UnitKind.core 7).retiredRole = false ∧ (out 1 7 : State).accepts (serviceObj 4) rO 1 (serviceArg 1 7) = true)
    ∧ (7 < 16 ∧ (out 2 7 : State).obj Obj.serviceMode = 1 ∧ (out 2 7 : State).unitOut 2 7 = true ∧ (out 2 7 : State).accepts (serviceObj 4) rO 1
      (serviceArg 2 7) = true)
    ∧ (portPresent 7 = true ∧ (out 5 7 : State).obj Obj.serviceMode = 1 ∧ (out 5 7 : State).unitOut 5 7 = true ∧ (out 5 7 : State).accepts (serviceObj 4)
      rO 1 (serviceArg 5 7) = true)
    ∧ (corePresent 3 = true ∧ (up.unit UnitKind.core 3).st ≠ UnitSt.retired ∧ up.coreResetting 3 = false ∧ up.spareCore (clusterOf 3) = some 16 ∧ 16 ≠ 3 ∧
      up.accepts (cmdObj 7968 5 roleOp) rO 1 (leBytes 1 1 ++ leBytes 8 3) = true)
    ∧ (0 / 131072 < 8192 ∧ agetD up.boot.rowsUsed (0 / 131072) 0 < 64 ∧ up.accepts (cmdObj 7968 5 roleOp) rO 1 (leBytes 1 4 ++ leBytes 8 0) = true)
    ∧ (0 % 131072 < Config.rowsPerBank)
    ∧ (0 < 2 ^ 20 ∧ up.boot.waysUsed.contains 0 = false ∧ up.accepts (cmdObj 7968 5 roleOp) rO 1 (leBytes 1 6 ++ leBytes 8 0) = true)
    ∧ (List.find? (fun b => b.core == 16 && b.woken) bring.boot.bringIns = some
      ({ core := 16, for_ := 3, req := some rO, woken := true, since := 5 } : BringIn))
    ∧ ((up.onInteg fun i => {i with badRows := [(255, 31, 9)]} : State).frozen = false ∧
      (up.onInteg fun i => {i with badRows := [(255, 31, 9)]} : State).integ.badRows.contains (255, 1 * 16 + 15, 9) = true ∧ 15 < 16 ∧ 1 < 2 ∧ agetD
      (up.onInteg fun i => {i with badRows := [(255, 31, 9)]} : State).boot.rowsUsed (bankKey 255 1 15) 0 < 64)
    ∧ (up.onBoot fun b => {b with bankRepairs := [(bankKey 3 1 7, some rO)], rowsUsed := [(bankKey 3 1 7, 64)]} : State).frozen = false
    ∧ (List.find? (fun x => x.fst == bankKey 3 1 7)
      (up.onBoot fun b => {b with bankRepairs := [(bankKey 3 1 7, some rO)], rowsUsed := [(bankKey 3 1 7, 64)]} : State).boot.bankRepairs = some
      ((bankKey 3 1 7, some rO) : Nat × Option Req))
    ∧ (1 ≤ 1 ∧ (1 = 0 → up.anyOut = false) ∧ up.accepts (writeObj Obj.serviceMode) rO 1 (leBytes 1 1) = true)
    ∧ (0 < 256 ∧ (out 5 7 : State).obj Obj.serviceMode = 1 ∧ (out 5 7 : State).unitOut 3 0 = false ∧ (out 5 7 : State).unitResetting 3 0 = false ∧
      (out 5 7 : State).accepts (serviceObj 1) rO 1 (serviceArg 3 0) = true) :=
  ⟨by decide +kernel, by decide +kernel, by decide +kernel, by decide +kernel, by decide +kernel, by decide +kernel, by decide +kernel, by decide +kernel,
   by decide, by decide +kernel, by decide +kernel, by decide +kernel, by decide +kernel, by decide +kernel, by decide +kernel, by decide +kernel⟩

end Sys2Proof.Tests.Bringup

namespace Sys2Proof.Tests.Link
set_option Elab.async false

/-! Witnesses: for every clause of the statements about ports and flits, a state and operands that meet its hypotheses. -/

def wp (st : PortSt) : State := world.onLink fun l => { l with ports := [(0, litPort st)] }
def dk (st : PortSt) : State := world.onLink fun l => { l with ports := [(0, {Port.reset with st := st})] }
def fl (k : FlitKind) (seq ack : Nat) (v : Bool) : Flit := Flit.close
  { seq := seq, ack := ack, ackValid := v, kind := k, headMap := 0, cont := 0, slots := [], crc := 0 }
def pk1 : Packet := reqPkt 1 0x12 128 0 0
def dfl (seq : Nat) : Flit := Flit.close
  { seq := seq, ack := 0, ackValid := false, kind := .data, headMap := 1, cont := 0, slots := [pk1.bytes.take 16, pk1.bytes.drop 16], crc := 0 }
def sentW : State := world.onLink fun l => { l with
      ports := [(0, { litPort .active with
            base := 10,
            next := 12,
            replay := [(0, fl .data 10 0 false), (0, fl .data 11 0 false)],
            control := [leBytes 16 7],
            e := 4095,
            nakPending := true })] }
def sentX : State := world.onLink fun l => { l with
      ports := [(0,
        { litPort .active with base := 10, next := 12, replay := [(0, fl .data 10 0 false), (0, fl .data 11 0 false)], replaying := some 11, e := 4095 })] }
def full : State := world.onLink fun l => { l with ports := [(0, { litPort .active with base := 0, next := 2047 })] }
def cW : State := sentW.onKodp fun k => { k with tables := [(.portConfig, [{ fields := [0, 1, 1, 1] }])] }
def frz (s : State) : State := s.onObs fun o => { o with stop := .stopped }
def data1 : State := { world with link := { world.link with ports := [(0, { litPort .active with limit := [(1, 100)] })] } }.onTraffic fun t =>
  { t with leaves := [({ port := 0, sub := 3, cls := 2 }, [{ at_ := 0, pkt := { pk1 with dest := 10, src := 1 } }])] }
def hfl : Flit := Flit.close { dfl 4095 with headMap := 0x4000, cont := 0, slots := (List.replicate 14 []) ++ [pk1.bytes.take 16] }

set_option maxRecDepth 100000 in
theorem witness_PortStates :
    (portPresent 0 = true ∧ ((wp .retrain : State).port 0).st = PortSt.retrain ∧ ((wp .retrain : State).port 0).flitStarted = true ∧
      (wp .retrain : State).widthsOk 0 ((wp .retrain : State).port 0).newMaps.fst ((wp .retrain : State).port 0).newMaps.snd = true)
    ∧ (portPresent 0 = true ∧ ((wp .retrain : State).port 0).st = PortSt.retrain)
    ∧ (portPresent 0 = true ∧ ((wp .down : State).port 0).st = PortSt.down ∧ (wp .down : State).engineLit 0 = true)
    ∧ (portPresent 0 = true ∧ (((wp .down : State).port 0).st = PortSt.disabled → (wp .down : State).boot.portsOut.contains 0 = false) ∧
      ((wp .down : State).compact 0 = true → (wp .down : State).obj Obj.nodeEid < 4096 ∧ (wp .down : State).obj Obj.serviceEid < 4096) ∧
      (wp .down : State).accepts (cmdObj 4640 1 roleOp) rO 1 (leBytes 1 0 ++ leBytes 1 1) = true)
    ∧ (portPresent 0 = true ∧ (wp .down : State).accepts (cmdObj 4640 1 roleOp) rO 1 (leBytes 1 0 ++ leBytes 1 2) = true)
    ∧ (portPresent 0 = true ∧ ((wp .active : State).port 0).st = PortSt.active ∧ (wp .active : State).accepts (cmdObj 4640 1 roleOp) rO 1
      (leBytes 1 0 ++ leBytes 1 3) = true)
    ∧ (portPresent 0 = true ∧ ((wp .active : State).port 0).st = PortSt.active ∧ (wp .active : State).accepts (cmdObj 4640 1 roleOp) rO 1
      (leBytes 1 0 ++ leBytes 1 4) = true)
    ∧ (portPresent 0 = true ∧ 8 < 9)
    ∧ (portPresent 39 = true ∧ 8 < 9)
    ∧ (portPresent 0 = true ∧ ((dk .train : State).port 0).lit = false ∧
      (((dk .train : State).port 0).st = PortSt.train ∨ ((dk .train : State).port 0).linked = true))
    ∧ (portPresent 0 = true ∧ ((wp .detect : State).port 0).lit = true ∧ ((wp .detect : State).port 0).st = PortSt.detect)
    ∧ (portPresent 0 = true ∧ ((wp .down : State).port 0).lit = true ∧ ((wp .down : State).port 0).st ≠ PortSt.detect)
    ∧ (portPresent 0 = true ∧ 8 < 9 ∧ Lcb.ofBytes ({ block := [], fec := ⟨0,0,0,0⟩ } : LaneFrame).block = none)
    ∧ (portPresent 0 = true ∧ 8 < 9)
    ∧ (Lcb.ofBytes ({ block := goodLcb.bytes, fec := ⟨1,2,3,4⟩ } : LaneFrame).block = some goodLcb)
    ∧ (portPresent 0 = true ∧ ((wp .train : State).port 0).st = PortSt.train ∧ ((wp .train : State).port 0).flitStarted = true ∧
      (wp .train : State).profileClash 0 = false ∧ (wp .train : State).widthsOk 0 ((wp .train : State).port 0).newMaps.fst
      ((wp .train : State).port 0).newMaps.snd = true)
    ∧ (portPresent 0 = true ∧ ((wp .train : State).port 0).st = PortSt.train) :=
  ⟨by decide +kernel, by decide +kernel, by decide +kernel, by decide +kernel, by decide +kernel, by decide +kernel, by decide +kernel, by decide +kernel,
   by decide +kernel, by decide +kernel, by decide +kernel, by decide +kernel, by decide +kernel, by decide +kernel, by decide +kernel, by decide +kernel,
   by decide +kernel⟩

set_option maxRecDepth 100000 in
theorem witness_FlitStream :
    ((data1.port 0).st = PortSt.active ∧ data1.frozen = false ∧ data1.creditsMoved 0 = false ∧ (data1.port 0).control = [] ∧ (data1.port 0).replaying =
      none ∧ data1.compact 0 = false ∧ (data1.port 0).outN < 2047)
    ∧ (dataSlots 0 data1 = (((dataSlots 0 data1).1 : State), some ((((dataSlots 0 data1).2.getD ([],0,0)).1 : List (List Byte)),
      (((dataSlots 0 data1).2.getD ([],0,0)).2.1 : Nat), (((dataSlots 0 data1).2.getD ([],0,0)).2.2 : Nat))))
    ∧ ((full.port 0).st = PortSt.active ∧ full.frozen = false ∧ full.creditsMoved 0 = false ∧ (full.port 0).control = [] ∧ (full.port 0).replaying = none ∧
      full.compact 0 = false ∧ 2047 ≤ (full.port 0).outN)
    ∧ ((sentW.port 0).st = PortSt.active ∧ sentW.frozen = false ∧ (sentW.port 0).nakPending = true ∧ sentW.compact 0 = false)
    ∧ ((sentW.port 0).st = PortSt.active ∧ sentW.frozen = false ∧ (sentW.port 0).outN ≠ 0 ∧ sentW.compact 0 = false ∧ agetD (sentW.port 0).replaysFrom
      (sentW.port 0).base 0 < 3)
    ∧ ((sentW.port 0).st = PortSt.active ∧ sentW.frozen = false ∧ (sentW.port 0).outN ≠ 0 ∧ sentW.compact 0 = false)
    ∧ ((sentW.port 0).st = PortSt.active ∧ sentW.frozen = false)
    ∧ ((cW.port 0).st = PortSt.active ∧ cW.frozen = false ∧ cW.compact 0 = true)
    ∧ ((sentW.port 0).st = PortSt.active ∧ sentW.frozen = false ∧ (({ fl .idle 3 3 true with crc := 4 } : Flit).crc ≠ crc64
      ({ fl .idle 3 3 true with crc := 4 } : Flit).front ∨ ({ fl .idle 3 3 true with crc := 4 } : Flit).bad ≠ []) ∧ sentW.compact 0 = false)
    ∧ ((sentW.port 0).st = PortSt.active ∧ sentW.frozen = false ∧ (fl .idle 3 11 true : Flit).crc = crc64 (fl .idle 3 11 true : Flit).front ∧
      (fl .idle 3 11 true : Flit).bad = [] ∧ sentW.compact 0 = false ∧ (fl .idle 3 11 true : Flit).kind = FlitKind.idle ∧
      (fl .idle 3 11 true : Flit).ackValid = true ∧ ((fl .idle 3 11 true : Flit).ack + 4096 - (sentW.port 0).base) % 4096 < (sentW.port 0).outN)
    ∧ ((sentW.port 0).outN < 4096 ∧ ((fl .idle 3 11 true : Flit).ack + 4096 - (sentW.port 0).base) % 4096 ≠ 4095)
    ∧ ((sentW.port 0).st = PortSt.active ∧ sentW.frozen = false ∧ hfl.bad = [] ∧ sentW.compact 0 = false ∧ hfl.kind = FlitKind.data ∧ hfl.ackValid = false
      ∧ (hfl.seq + 4096 - (sentW.port 0).e) % 4096 = 0 ∧ frame hfl (sentW.port 0).rxPart = some
      ((some { vc := 1, left := 1, held := [pk1.bytes.take 16] } : Option Partial), ([] : List Packet), ([(1,2)] : List (Nat × Nat))))
    ∧ (hfl.crc = crc64 hfl.front)
    ∧ ((sentW.port 0).st = PortSt.active ∧ sentW.frozen = false ∧ (dfl 0 : Flit).crc = crc64 (dfl 0 : Flit).front ∧ (dfl 0 : Flit).bad = [] ∧ sentW.compact
      0 = false ∧ (dfl 0 : Flit).kind = FlitKind.data ∧ (dfl 0 : Flit).ackValid = false ∧ 1 ≤ ((dfl 0 : Flit).seq + 4096 - (sentW.port 0).e) % 4096)
    ∧ ((dfl 0 : Flit).seq + 4096 - (sentW.port 0).e) % 4096 ≤ 2047
    ∧ ((sentW.port 0).st = PortSt.active ∧ sentW.frozen = false ∧ (dfl 2047 : Flit).crc = crc64 (dfl 2047 : Flit).front ∧ (dfl 2047 : Flit).bad = [] ∧
      sentW.compact 0 = false ∧ (dfl 2047 : Flit).kind = FlitKind.data ∧ (dfl 2047 : Flit).ackValid = false ∧ 2047 <
      ((dfl 2047 : Flit).seq + 4096 - (sentW.port 0).e) % 4096)
    ∧ ((cW.port 0).st = PortSt.active ∧ cW.frozen = false ∧ (({ fl .idle 3 3 true with crc := 4 } : Flit).crc ≠ crc64
      ({ fl .idle 3 3 true with crc := 4 } : Flit).front ∨ ({ fl .idle 3 3 true with crc := 4 } : Flit).bad ≠ []) ∧ cW.compact 0 = true)
    ∧ (((frz world : State).port 0).st = PortSt.active ∧ (frz world : State).frozen = true)
    ∧ ((sentW.port 0).st = PortSt.active ∧ sentW.frozen = false ∧ sentW.creditsMoved 0 = false ∧ (sentW.port 0).control ≠ [])
    ∧ ((sentX.port 0).st = PortSt.active ∧ sentX.frozen = false ∧ sentX.creditsMoved 0 = false ∧ (sentX.port 0).control = [] ∧ (sentX.port 0).replaying =
      some 11 ∧ (sentX.port 0).replay[(11 + 4096 - (sentX.port 0).base) % 4096]? = some ((0, fl .data 11 0 false) : Nat × Flit)) :=
  ⟨by decide +kernel, pairOf rfl (by decide +kernel), by decide +kernel, by decide +kernel, by decide +kernel, by decide +kernel, by decide +kernel,
   by decide +kernel, by decide +kernel, by decide +kernel, by decide +kernel, by decide +kernel, by decide +kernel, by decide +kernel, by decide +kernel,
   by decide +kernel, by decide +kernel, by decide +kernel, by decide +kernel, by decide +kernel⟩

end Sys2Proof.Tests.Link

namespace Sys2Proof.Tests.Lines
set_option Elab.async false

/-! Witnesses: for every clause of the statements about requests and lines, a state and operands that meet its hypotheses. -/

def pol (p : Packet) (s : State) : State := (colour 0 3 (classOfVc p.vc) p.charge s).1
def chk (p : Packet) (s : State) : State := (checkAddressed 0 3 p (pol p s)).1
def r (op : Nat) : Packet := reqPkt (if op = 0x60 then 6 else 1) op 256 (if op = 0x18 then 8 else 0) (if op = 0x18 then 1 else 0)
def dp (op n : Nat) : Packet := pktOf 4 op 0 (leBytes n 77)
def rq (op : Nat) (ph : ReqPhase) (d : Option Packet) : Request := { newRequest world 0 3 (r op) ph 256 5 1 0 with data := d }
def wr (op : Nat) (ph : ReqPhase) (d : Option Packet) : State := world.onTxn fun t => { t with reqs := [rq op ph d] }
def pan (s : State) : State := s.onMem fun m => { m with lines := [(2, { LineMeta.reset with inPantry := true, tenant := 5, keyId := 1, key := some 99 })] }
def ent (st : LineSt) (l : List Nat) : DirEntry := { mkEntry st 0 with ptrs := l }
def wd (st : LineSt) (l : List Nat) (s : State) : State := s.onDir fun d =>
  { d with entries := [(2, ent st l)], regions := [(0, { lines := 1, ctx := 5, addr := 0 })] }
def rc (l : List Nat) : Recall := { down := false, awaited := l, crossed := [], dataDue := [], keep := [], cause := .none }
def wrc (l : List Nat) (s : State) : State := (wd .shared l s).onDir fun d =>
  { d with recalls := [(2, rc l)], entries := d.entries.map fun e => (e.1, {e.2 with recalling := true}) }
def snp (op harg : Nat) (n : Nat) : Packet := pktOf (if op = 0x42 then 4 else 2) op harg (leBytes n 9)
def pq (i : Issuer) : PoolReq := { dest := 10, tag := 7, port := 0, issuer := i, pkt := r 0x10, key := 2 }
def wsn (i : Issuer) : State := (wrc [3] world).onTxn fun t => { t with pool := [pq i] }
def wsd (l : List (Nat × Packet)) : State := (wsn .snoop).onDir fun d => { d with recalls := [(2, {rc [3] with dataDue := l})] }
def qd (n : Nat) : Queued := { at_ := n, pkt := { r 0x10 with dest := 44 } }
def cmp (s : State) : State := s.onKodp fun k => { k with tables := [(.portConfig, [{ fields := [0, 1, 1, 1] }])] }

set_option maxRecDepth 100000 in
theorem witness_RequestsArrive :
    (world.takes 0 (r 0x10 : Packet) = true ∧ world.admits 3 (r 0x10 : Packet) = true ∧ world.notNow (r 0x10 : Packet) = false ∧ agetD world.traffic.holds
      (3, 0, (r 0x10 : Packet).vc) [] = [] ∧ world.backlogged 3 (classOfVc (r 0x10 : Packet).vc) = false ∧ aget (chk (r 0x10) world : State).dir.recalls
      (256 / 128) = none ∧ (r 0x10 : Packet).op = 0x10)
    ∧ (colour (dieOfPort 0) 3 (classOfVc (r 0x10 : Packet).vc) (r 0x10 : Packet).charge world = ((pol (r 0x10) world : State), true))
    ∧ (checkAddressed 0 3 (r 0x10 : Packet) (pol (r 0x10) world : State) = ((chk (r 0x10) world : State), XRes.ok 256 5 1 0))
    ∧ (((.rdShared 0 (r 0x10) : Instr), 0x10) ∈ [(Instr.rdShared 0 (r 0x10 : Packet), 16), (Instr.rdUnique 0 (r 0x10 : Packet), 17),
      (Instr.rdOnce 0 (r 0x10 : Packet), 18), (Instr.upgrade 0 (r 0x10 : Packet), 23), (Instr.rtRead 0 (r 0x10 : Packet), 96)])
    ∧ (world.takes 0 (r 0x16 : Packet) = true ∧ world.admits 3 (r 0x16 : Packet) = true ∧ world.notNow (r 0x16 : Packet) = false ∧ agetD
      world.traffic.holds (3, 0, (r 0x16 : Packet).vc) [] = [] ∧ world.backlogged 3 (classOfVc (r 0x16 : Packet).vc) = false ∧ aget
      (chk (r 0x16) world : State).dir.recalls (256 / 128) = none ∧ (r 0x16 : Packet).op = 22)
    ∧ (colour (dieOfPort 0) 3 (classOfVc (r 0x16 : Packet).vc) (r 0x16 : Packet).charge world = ((pol (r 0x16) world : State), true))
    ∧ (checkAddressed 0 3 (r 0x16 : Packet) (pol (r 0x16) world : State) = ((chk (r 0x16) world : State), XRes.ok 256 5 1 0))
    ∧ (world.takes 0 (r 0x13 : Packet) = true ∧ world.admits 3 (r 0x13 : Packet) = true ∧ world.notNow (r 0x13 : Packet) = false ∧ agetD
      world.traffic.holds (3, 0, (r 0x13 : Packet).vc) [] = [] ∧ world.backlogged 3 (classOfVc (r 0x13 : Packet).vc) = false ∧ aget
      (chk (r 0x13) world : State).dir.recalls (256 / 128) = none ∧ (chk (r 0x13) world : State).txn.halves = [] ∧ (r 0x13 : Packet).op = 0x13)
    ∧ (colour (dieOfPort 0) 3 (classOfVc (r 0x13 : Packet).vc) (r 0x13 : Packet).charge world = ((pol (r 0x13) world : State), true))
    ∧ (checkAddressed 0 3 (r 0x13 : Packet) (pol (r 0x13) world : State) = ((chk (r 0x13) world : State), XRes.ok 256 5 1 0))
    ∧ (((.wrLine 0 (r 0x13) : Instr), 0x13) ∈
      [(Instr.wrLine 0 (r 0x13 : Packet), 19), (Instr.wrPart 0 (r 0x13 : Packet), 20), (Instr.atomic 0 (r 0x13 : Packet), 24)])
    ∧ (world.takes 0 (r 0x15 : Packet) = true ∧ world.admits 3 (r 0x15 : Packet) = true ∧ world.notNow (r 0x15 : Packet) = false ∧ agetD
      world.traffic.holds (3, 0, (r 0x15 : Packet).vc) [] = [] ∧ world.backlogged 3 (classOfVc (r 0x15 : Packet).vc) = false ∧ aget
      (chk (r 0x15) world : State).dir.recalls (256 / 128) = none ∧ (chk (r 0x15) world : State).txn.halves = [] ∧ (r 0x15 : Packet).op = 21)
    ∧ (colour (dieOfPort 0) 3 (classOfVc (r 0x15 : Packet).vc) (r 0x15 : Packet).charge world = ((pol (r 0x15) world : State), true))
    ∧ (checkAddressed 0 3 (r 0x15 : Packet) (pol (r 0x15) world : State) = ((chk (r 0x15) world : State), XRes.ok 256 5 1 0))
    ∧ (world.takes 0 (dp 0x40 128 : Packet) = true ∧ world.request (dp 0x40 128 : Packet).src (dp 0x40 128 : Packet).tag = none ∧ world.txn.released = [] ∧
      (dp 0x40 128 : Packet).op = 0x40)
    ∧ (((.wrData 0 (dp 0x40 128) : Instr), 0x40) ∈ [(Instr.wrData 0 (dp 0x40 128 : Packet), 64), (Instr.atomicOpnd 0 (dp 0x40 128 : Packet), 67)])
    ∧ (world.takes 0 (dp 0x41 128 : Packet) = true ∧ world.request (dp 0x41 128 : Packet).src (dp 0x41 128 : Packet).tag = none ∧ world.txn.released = [] ∧
      (dp 0x41 128 : Packet).op = 65)
    ∧ ((wr 0x13 .awaitData none : State).takes 0 (dp 0x40 128 : Packet) = true ∧ (wr 0x13 .awaitData none : State).request (dp 0x40 128 : Packet).src
      (dp 0x40 128 : Packet).tag = some (rq 0x13 .awaitData none : Request) ∧ (rq 0x13 .awaitData none : Request).data = none ∧
      (rq 0x13 .awaitData none : Request).phase = ReqPhase.awaitData ∧ halfFits (rq 0x13 .awaitData none : Request).pkt (dp 0x40 128 : Packet) = true ∧
      (wr 0x13 .awaitData none : State).openHalf (rq 0x13 .awaitData none : Request).pkt (rq 0x13 .awaitData none : Request).tenant (dp 0x40 128 : Packet)
      = some (leBytes 128 77 : List Byte) ∧ aget (wr 0x13 .awaitData none : State).dir.recalls (rq 0x13 .awaitData none : Request).line = none ∧ needsHalf
      (rq 0x13 .awaitData none : Request).op = true)
    ∧ (dp 0x40 128 : Packet).op = 0x40
    ∧ (((.wrData 0 (dp 0x40 128) : Instr), 0x40) ∈ [(Instr.wrData 0 (dp 0x40 128 : Packet), 64), (Instr.atomicOpnd 0 (dp 0x40 128 : Packet), 67)])
    ∧ ((wr 0x15 .awaitData none : State).takes 0 (dp 0x41 128 : Packet) = true ∧ (wr 0x15 .awaitData none : State).request (dp 0x41 128 : Packet).src
      (dp 0x41 128 : Packet).tag = some (rq 0x15 .awaitData none : Request) ∧ (rq 0x15 .awaitData none : Request).data = none ∧
      (rq 0x15 .awaitData none : Request).phase = ReqPhase.awaitData ∧ halfFits (rq 0x15 .awaitData none : Request).pkt (dp 0x41 128 : Packet) = true ∧
      (wr 0x15 .awaitData none : State).openHalf (rq 0x15 .awaitData none : Request).pkt (rq 0x15 .awaitData none : Request).tenant (dp 0x41 128 : Packet)
      = some (leBytes 128 77 : List Byte) ∧ aget (wr 0x15 .awaitData none : State).dir.recalls (rq 0x15 .awaitData none : Request).line = none ∧ needsHalf
      (rq 0x15 .awaitData none : Request).op = true)
    ∧ (dp 0x41 128 : Packet).op = 65 :=
  ⟨by decide +kernel, pairOf rfl (by decide +kernel), pairOf rfl (by decide +kernel), List.Mem.head _, by decide +kernel, pairOf rfl (by decide +kernel),
   pairOf rfl (by decide +kernel), by decide +kernel, pairOf rfl (by decide +kernel), pairOf rfl (by decide +kernel), List.Mem.head _, by decide +kernel,
   pairOf rfl (by decide +kernel), pairOf rfl (by decide +kernel), by decide +kernel, List.Mem.head _, by decide +kernel, by decide +kernel,
   by decide +kernel, List.Mem.head _, by decide +kernel, by decide +kernel⟩

set_option maxRecDepth 100000 in
theorem witness_LineOrder :
    ((wr 0x13 .ready (some (dp 0x40 128)) : State).orders (rq 0x13 .ready (some (dp 0x40 128)) : Request) = true ∧
      (rq 0x13 .ready (some (dp 0x40 128)) : Request).op = 19 ∧ (rq 0x13 .ready (some (dp 0x40 128)) : Request).data = some (dp 0x40 128 : Packet) ∧
      (wr 0x13 .ready (some (dp 0x40 128)) : State).entry (rq 0x13 .ready (some (dp 0x40 128)) : Request).line = none ∧
      (wr 0x13 .ready (some (dp 0x40 128)) : State).lineFailed (rq 0x13 .ready (some (dp 0x40 128)) : Request).line = false ∧
      (wr 0x13 .ready (some (dp 0x40 128)) : State).obs.dumps = [] ∧ (rq 0x13 .ready (some (dp 0x40 128)) : Request).pkt.stashState = 0)
    ∧ ((wr 0x13 .ready (some (dp 0x40 128)) : State).MemWf)
    ∧ ((pan (wr 0x12 .ready none) : State).orders (rq 0x12 .ready none : Request) = true ∧ (rq 0x12 .ready none : Request).op = 18 ∧
      (pan (wr 0x12 .ready none) : State).entry (rq 0x12 .ready none : Request).line = none ∧
      ((pan (wr 0x12 .ready none) : State).lineMeta (rq 0x12 .ready none : Request).line).inPantry = true)
    ∧ ((pan (wr 0x10 .ready none) : State).orders (rq 0x10 .ready none : Request) = true ∧ (rq 0x10 .ready none : Request).op = 16 ∧
      (pan (wr 0x10 .ready none) : State).entry (rq 0x10 .ready none : Request).line = none ∧
      ((pan (wr 0x10 .ready none) : State).lineMeta (rq 0x10 .ready none : Request).line).inPantry = true ∧ (pan (wr 0x10 .ready none) : State).aliasBad
      (rq 0x10 .ready none : Request) = false ∧ (pan (wr 0x10 .ready none) : State).room (rq 0x10 .ready none : Request).line = Room.ok ∧
      (pan (wr 0x10 .ready none) : State).readsPoisoned (rq 0x10 .ready none : Request).line (rq 0x10 .ready none : Request).tenant false = false ∧
      (rq 0x10 .ready none : Request).down = false)
    ∧ ((wd .modified [4] (wr 0x11 .ready none) : State).orders (rq 0x11 .ready none : Request) = true ∧ (rq 0x11 .ready none : Request).op = 17 ∧
      (wd .modified [4] (wr 0x11 .ready none) : State).entry (rq 0x11 .ready none : Request).line = some (ent .modified [4] : DirEntry) ∧
      (ent .modified [4] : DirEntry).coarse = false ∧ (ent .modified [4] : DirEntry).st = LineSt.modified ∧ (ent .modified [4] : DirEntry).ptrs = [4] ∧ 4 ≠
      (rq 0x11 .ready none : Request).slot ∧ (wd .modified [4] (wr 0x11 .ready none) : State).aliasBad (rq 0x11 .ready none : Request) = false)
    ∧ ((Option.map Slot.answers (aget (wd .modified [4] (wr 0x11 .ready none) : State).part.slots 4)).getD false = true ∧
      (wd .modified [4] (wr 0x11 .ready none) : State).evicting 4 (rq 0x11 .ready none : Request).line = false)
    ∧ ((wr 0x11 .parked none : State).frozen = false ∧ (wr 0x11 .parked none : State).recalling 2 = false ∧ (wr 0x11 .parked none : State).parkedAt 2 =
      [Parked.request (rq 0x11 .parked none : Request)] ∧ (wr 0x11 .parked none : State).request (rq 0x11 .parked none : Request).src
      (rq 0x11 .parked none : Request).tag = some (rq 0x11 .parked none : Request) ∧ (rq 0x11 .parked none : Request).phase = ReqPhase.parked)
    ∧ ((wrc [4] world : State).frozen = false ∧ aget (wrc [4] world : State).dir.recalls 2 = some (rc [4] : Recall) ∧ (wrc [4] world : State).entry 2 =
      some ({ent .shared [4] with recalling := true} : DirEntry) ∧ ({ent .shared [4] with recalling := true} : DirEntry).coarse = false ∧
      ({ent .shared [4] with recalling := true} : DirEntry).st = LineSt.shared ∧ (rc [4] : Recall).awaited = [4] ∧ (rc [4] : Recall).cause =
      RecallCause.none ∧ ({ent .shared [4] with recalling := true} : DirEntry).lost = false)
    ∧ (wrc [4] world : State).part.ownWrites = []
    ∧ ((wr 0x13 .awaitData none : State).frozen = false ∧ (wr 0x13 .awaitData none : State).request (rq 0x13 .awaitData none : Request).src
      (rq 0x13 .awaitData none : Request).tag = some (rq 0x13 .awaitData none : Request) ∧ needsHalf (rq 0x13 .awaitData none : Request).op = true ∧
      (rq 0x13 .awaitData none : Request).data = none ∧ (rq 0x13 .awaitData none : Request).ordered = false)
    ∧ ((world.onTxn fun t => {t with halves := [(0, dp 0x40 128)]} : State).frozen = false ∧
      (world.onTxn fun t => {t with halves := [(0, dp 0x40 128)]} : State).request 10 7 = none)
    ∧ (List.find? (fun h => h.snd.src == 10 && h.snd.tag == 7) (world.onTxn fun t => {t with halves := [(0, dp 0x40 128)]} : State).txn.halves = some
      ((0, dp 0x40 128) : Nat × Packet))
    ∧ ((wr 0x11 .ready none : State).frozen = false ∧ (wr 0x11 .ready none : State).request (rq 0x11 .ready none : Request).src
      (rq 0x11 .ready none : Request).tag = some (rq 0x11 .ready none : Request) ∧ (rq 0x11 .ready none : Request).ordered = false) :=
  ⟨by decide +kernel, by unfold State.MemWf; decide +kernel, by decide +kernel, by decide +kernel, by decide +kernel, by decide +kernel, by decide +kernel,
   by decide +kernel, by decide +kernel, by decide +kernel, by decide +kernel, by decide +kernel, by decide +kernel⟩

set_option maxRecDepth 100000 in
theorem witness_SnoopsAndStrays :
    ((wsn .snoop : State).takes 0 (snp 0x22 0 0 : Packet) = true ∧ (wsn .snoop : State).slotOfEid (snp 0x22 0 0 : Packet).src = some 3 ∧
      (wsn .snoop : State).poolReq (snp 0x22 0 0 : Packet).src (snp 0x22 0 0 : Packet).tag = some (pq .snoop : PoolReq) ∧ (pq .snoop : PoolReq).issuer =
      Issuer.snoop ∧ aget (wsn .snoop : State).dir.recalls (pq .snoop : PoolReq).key = some (rc [3] : Recall) ∧ (wsn .snoop : State).entry
      (pq .snoop : PoolReq).key = some ({ent .shared [3] with recalling := true} : DirEntry) ∧ (rc [3] : Recall).awaited = [3] ∧ (rc [3] : Recall).cause =
      RecallCause.none)
    ∧ ((wsn .snoop : State).part.ownWrites = [] ∧ (snp 0x22 0 0 : Packet).op = 34 ∧ bits (snp 0x22 0 0 : Packet).harg 2 1 = 0)
    ∧ ((wsn .snoop : State).takes 0 (snp 0x22 4 0 : Packet) = true ∧ (wsn .snoop : State).slotOfEid (snp 0x22 4 0 : Packet).src = some 3 ∧
      (wsn .snoop : State).poolReq (snp 0x22 4 0 : Packet).src (snp 0x22 4 0 : Packet).tag = some (pq .snoop : PoolReq) ∧ (pq .snoop : PoolReq).issuer =
      Issuer.snoop ∧ aget (wsn .snoop : State).dir.recalls (pq .snoop : PoolReq).key = some (rc [3] : Recall) ∧ (wsn .snoop : State).entry
      (pq .snoop : PoolReq).key = some ({ent .shared [3] with recalling := true} : DirEntry) ∧ (rc [3] : Recall).awaited = [3] ∧ (rc [3] : Recall).cause =
      RecallCause.none)
    ∧ ((wsn .snoop : State).part.ownWrites = [] ∧ (snp 0x22 4 0 : Packet).op = 34 ∧ bits (snp 0x22 4 0 : Packet).harg 2 1 = 1 ∧
      (wsn .snoop : State).txn.halves = [])
    ∧ ((wsd [(3, snp 0x22 4 0)] : State).takes 0 (snp 0x42 0 128 : Packet) = true ∧ (wsd [(3, snp 0x22 4 0)] : State).slotOfEid
      (snp 0x42 0 128 : Packet).src = some 3 ∧ (wsd [(3, snp 0x22 4 0)] : State).poolReq (snp 0x42 0 128 : Packet).src (snp 0x42 0 128 : Packet).tag = some
      (pq .snoop : PoolReq) ∧ (pq .snoop : PoolReq).issuer = Issuer.snoop ∧ aget (wsd [(3, snp 0x22 4 0)] : State).dir.recalls (pq .snoop : PoolReq).key =
      some ({rc [3] with dataDue := [(3, snp 0x22 4 0)]} : Recall) ∧ (wsd [(3, snp 0x22 4 0)] : State).entry (pq .snoop : PoolReq).key = some
      ({ent .shared [3] with recalling := true} : DirEntry) ∧ ({rc [3] with dataDue := [(3, snp 0x22 4 0)]} : Recall).awaited = [3] ∧
      ({rc [3] with dataDue := [(3, snp 0x22 4 0)]} : Recall).cause = RecallCause.none)
    ∧ ((wsd [(3, snp 0x22 4 0)] : State).part.ownWrites = [] ∧ (snp 0x42 0 128 : Packet).op = 66 ∧ (snp 0x42 0 128 : Packet).enc = false ∧
      (wsd [(3, snp 0x22 4 0)] : State).aliasSealed (pq .snoop : PoolReq).key = false ∧ ({rc [3] with dataDue := [(3, snp 0x22 4 0)]} : Recall).dataDue =
      [(3, (snp 0x22 4 0 : Packet))])
    ∧ ((wsn .snoop : State).takes 0 (snp 0x23 0 0 : Packet) = true ∧ (wsn .snoop : State).slotOfEid (snp 0x23 0 0 : Packet).src = some 3 ∧
      (wsn .snoop : State).poolReq (snp 0x23 0 0 : Packet).src (snp 0x23 0 0 : Packet).tag = some (pq .snoop : PoolReq) ∧ (pq .snoop : PoolReq).issuer =
      Issuer.snoop ∧ aget (wsn .snoop : State).dir.recalls (pq .snoop : PoolReq).key = some (rc [3] : Recall) ∧ (wsn .snoop : State).entry
      (pq .snoop : PoolReq).key = some ({ent .shared [3] with recalling := true} : DirEntry) ∧ (rc [3] : Recall).awaited = [3] ∧ (rc [3] : Recall).cause =
      RecallCause.none)
    ∧ ((wsn .snoop : State).part.ownWrites = [] ∧ (snp 0x23 0 0 : Packet).op = 35 ∧ (wsn .snoop : State).takeable 3 (pq .snoop : PoolReq).key = none)
    ∧ (world.takes 0 (snp 0x42 0 128 : Packet) = true ∧ (snp 0x42 0 128 : Packet).op = 66 ∧ world.poolReq (snp 0x42 0 128 : Packet).src
      (snp 0x42 0 128 : Packet).tag = none)
    ∧ ((wsn .stash : State).takes 0 (snp 0x25 0 0 : Packet) = true ∧ (snp 0x25 0 0 : Packet).op = 37 ∧ (wsn .stash : State).poolReq
      (snp 0x25 0 0 : Packet).src (snp 0x25 0 0 : Packet).tag = some (pq .stash : PoolReq) ∧ (pq .stash : PoolReq).issuer = Issuer.stash)
    ∧ (world.onTraffic fun t => {t with leaves := [({port := noPin, sub := 0, cls := 2}, [qd 4, qd 5]), ({port := noPin, sub := 0, cls := 3}, [qd 3])]} :
      State).frozen = false
    ∧ (List.flatMap (fun e => if e.fst.port = noPin then List.filter (fun q => q.pkt.dest == 44) e.snd else []) (world.onTraffic fun t =>
      {t with leaves := [({port := noPin, sub := 0, cls := 2}, [qd 4, qd 5]), ({port := noPin, sub := 0, cls := 3}, [qd 3])]} : State).traffic.leaves =
      (qd 4 : Queued) :: ([qd 5, qd 3] : List Queued))
    ∧ ((cmp (wsn .stash) : State).frozen = false ∧ (cmp (wsn .stash) : State).poolReq 10 7 = some (pq .stash : PoolReq) ∧ isFabric
      ((cmp (wsn .stash) : State).portOf (pq .stash : PoolReq)) = true ∧ (cmp (wsn .stash) : State).compact
      ((cmp (wsn .stash) : State).portOf (pq .stash : PoolReq)) = true)
    ∧ (256 % 128 = 0 ∧ (wsn .stash : State).paPresent 256 1 = true ∧ (wsn .stash : State).accepts (cmdObj 5408 1 (roleOp + roleDebug)) rO 8 (leBytes 8 256)
      = true)
    ∧ (world.portUp 36 = true ∧ isFabric 36 = false ∧ (snp 0x99 0 128 : Packet).linkMalformed 36 = true ∧ (snp 0x99 0 128 : Packet).dest = world.obj
      Obj.nodeEid ∧ (snp 0x99 0 128 : Packet).crcGood = true ∧ (isTwinPort 36 && linkExpects (snp 0x99 0 128 : Packet).op) = false)
    ∧ (world.portUp 36 = true ∧ isFabric 36 = false ∧ (snp 0xA7 0 128 : Packet).linkMalformed 36 = true ∧ (snp 0xA7 0 128 : Packet).dest = world.obj
      Obj.nodeEid ∧ (snp 0xA7 0 128 : Packet).crcGood = true ∧ (isTwinPort 36 && linkExpects (snp 0xA7 0 128 : Packet).op) = true)
    ∧ (world.portUp 0 = true ∧ isFabric 0 = true ∧ world.obj Obj.nodeEid ≠ 0 ∧ world.obj Obj.serviceEid ≠ 0 ∧ (snp 0x99 0 128 : Packet).src ≠ 0 ∧
      (snp 0x99 0 128 : Packet).src < 261888 ∧ world.compact 0 = false ∧ (snp 0x99 0 128 : Packet).dest = world.obj Obj.nodeEid)
    ∧ ((snp 0x99 0 128 : Packet).crcGood = true ∧ opShape (snp 0x99 0 128 : Packet).op = none)
    ∧ ((world.onKodp fun k => {k with objs := (.timeRoot,1) :: k.objs} : State).frozen = false ∧
      ((world.onKodp fun k => {k with objs := (.timeRoot,1) :: k.objs} : State).port 0).st = PortSt.active ∧ isFabric 0 = true ∧
      (world.onKodp fun k => {k with objs := (.timeRoot,1) :: k.objs} : State).obj Obj.timeRoot = 1) :=
  ⟨by decide +kernel, by decide +kernel, by decide +kernel, by decide +kernel, by decide +kernel, by decide +kernel, by decide +kernel, by decide +kernel,
   by decide +kernel, by decide +kernel, by decide +kernel, by decide +kernel, by decide +kernel, by decide +kernel, by decide +kernel, by decide +kernel,
   by decide +kernel, by decide +kernel, by decide +kernel⟩

end Sys2Proof.Tests.Lines

namespace Sys2Proof.Tests.Partners
set_option Elab.async false

/-! Witnesses: for every clause of the statements about partners, a state and operands that meet its hypotheses. -/

def at1 : Packet := { pktOf 0 1 0 (leBytes 8 99 ++ leBytes 2 1 ++ leBytes 1 1 ++ leBytes 5 0 ++ leBytes 2 0x100 ++ leBytes 14 0) with src := 12 }.close
def hb (op : Nat) : Packet := pktOf 0 op 3 []
def sl (st : SlotSt) (s : State) : State := s.onPart fun p =>
  { p with slots := [(3, {slotOf 10 with st := st, detachTags := if st = .detaching then [9] else []}), (4, slotOf 11)] }
def xs (st : SlotSt) : Slot := {slotOf 10 with st := st, detachTags := if st = .detaching then [9] else []}
def ent (st : LineSt) (l : List Nat) : DirEntry := { mkEntry st 0 with ptrs := l }
def wd (st : LineSt) (l : List Nat) (s : State) : State := s.onDir fun d =>
  { d with entries := [(2, ent st l)], regions := [(0, { lines := 1, ctx := 5, addr := 0 })] }
def pq (i : Issuer) : PoolReq := { dest := 10, tag := 7, port := 0, issuer := i, pkt := reqPkt 1 0x20 256 0 0, key := 2 }
def cmp (s : State) : State := s.onKodp fun k => { k with tables := [(.portConfig, [{ fields := [0, 1, 1, 1] }])] }
def wp (s : State) : State := s.onTxn fun t => { t with pool := [pq .snoop] }
def xl : State := world.onPart fun p => { p with
      xlate := [{die := 0, ctx := 5, gen := 1, va := 0, size := 65536, pa := 0, write := true}],
      walks := [{die := 1, ctx := 5, level := 1, prefx := 0, node := 3}] }
def r (op : Nat) : Packet := reqPkt 1 op 256 (if op = 0x18 then 8 else 0) (if op = 0x18 then 1 else 0)
def rq (op : Nat) (ph : ReqPhase) : Request := newRequest world 0 3 (r op) ph 0 0 0 0
def wr (op : Nat) (ph : ReqPhase) : State := world.onTxn fun t => { t with reqs := [rq op ph] }
def chk (op : Nat) : State := (checkAddressed 0 3 (r op) (wr op .settle)).1
def act (s : State) : State := s.onTwin fun t => {t with st := .active, enable := true, peerEid := 60 }

set_option maxRecDepth 100000 in
theorem witness_PartnerLife :
    ((world.onKodp fun k => {k with objs := (.attachPolicy,0) :: k.objs} : State).takes 0 at1 = true ∧ at1.op = 1 ∧ at1.resend = false ∧
      (world.onKodp fun k => {k with objs := (.attachPolicy,0) :: k.objs} : State).slotOfEid at1.src = none ∧
      (world.onKodp fun k => {k with objs := (.attachPolicy,0) :: k.objs} : State).attachRefusal at1 = none)
    ∧ (List.find? (fun n => !ahas (world.onKodp fun k => {k with objs := (.attachPolicy,0) :: k.objs} : State).part.slots n) (List.range 8192) = some 0)
    ∧ ((cmp (wp world) : State).takes 0 (hb 7 : Packet) = true ∧ (hb 7 : Packet).op = 7 ∧ (cmp (wp world) : State).poolReq (hb 7 : Packet).src
      (hb 7 : Packet).tag = some (pq .snoop : PoolReq) ∧ (cmp (wp world) : State).compact 0 = true ∧ isFabric
      ((cmp (wp world) : State).portOf (pq .snoop : PoolReq)) = true)
    ∧ (5 ≠ 0 ∧ 5 < 2 ^ 16 ∧ (2^32-1 : Nat) < 2 ^ 32 ∧ xl.accepts ctxInvalidateObj rP 2 (leBytes 2 5 ++ leBytes 4 (2^32-1 : Nat)) = true ∧ xl.mirrors =
      false)
    ∧ (256 % 128 = 0 ∧ 0 % 128 = 0 ∧ (wd .shared [3] world : State).accepts recallRangeObj rP 8 (leBytes 8 256 ++ leBytes 8 0) = true)
    ∧ (3 < 65536 ∧ aget world.part.slots 3 = some (slotOf 10 : Slot) ∧ ((slotOf 10 : Slot).st = SlotSt.active ∨ (slotOf 10 : Slot).st = SlotSt.detaching) ∧
      world.copyHere rP = false ∧ world.changing 3 = false ∧ world.mirrors = false ∧ world.accepts (cmdObj 5152 3 (roleOp + rolePm)) rP 2 (leBytes 2 3) =
      true)
    ∧ (world.onPart fun p => {p with fqSticky := [5,6]} : State).accepts (cmdObj 5152 4 rolePm) rP 2 (leBytes 2 5) = true
    ∧ ((wr 0x10 .settle : State).frozen = false ∧ (wr 0x10 .settle : State).request 10 7 = some (rq 0x10 .settle : Request) ∧
      (rq 0x10 .settle : Request).phase = ReqPhase.settle ∧ hasAddr (rq 0x10 .settle : Request).op = true ∧ (rq 0x10 .settle : Request).op ≠ 21 ∧
      (rq 0x10 .settle : Request).op ≠ 22 ∧ (rq 0x10 .settle : Request).data = none ∧ (chk 0x10 : State).txn.halves = [])
    ∧ aget (chk 0x10 : State).dir.recalls (256 / 128) = none
    ∧ (checkAddressed (rq 0x10 .settle : Request).port (rq 0x10 .settle : Request).slot (rq 0x10 .settle : Request).pkt (wr 0x10 .settle : State) =
      ((chk 0x10 : State), XRes.ok 256 5 1 0))
    ∧ ((wp world : State).frozen = false ∧ (wp world : State).poolReq 10 7 = some (pq .snoop : PoolReq) ∧
      ((pq .snoop : PoolReq).issuer = Issuer.snoop ∨ (pq .snoop : PoolReq).issuer = Issuer.stash))
    ∧ (world.takes 0 (hb 3 : Packet) = true ∧ (hb 3 : Packet).op = 3 ∧ (hb 3 : Packet).resend = false ∧ world.slotOfEid (hb 3 : Packet).src = some 3 ∧ aget
      world.part.slots 3 = some (slotOf 10 : Slot) ∧ (slotOf 10 : Slot).st = SlotSt.active ∧ world.outstanding (hb 3 : Packet).src (hb 3 : Packet).tag =
      false ∧ (hb 3 : Packet).harg % 8192 = 3)
    ∧ (world.takes 0 (hb 5 : Packet) = true ∧ (hb 5 : Packet).op = 5 ∧ (hb 5 : Packet).resend = false ∧ world.slotOfEid (hb 5 : Packet).src = some 3 ∧ aget
      world.part.slots 3 = some (slotOf 10 : Slot) ∧ (slotOf 10 : Slot).st = SlotSt.active ∧ world.outstanding (hb 5 : Packet).src (hb 5 : Packet).tag =
      false ∧ (hb 5 : Packet).harg % 8192 = 3)
    ∧ world.mirrors = false
    ∧ ((sl .detaching world : State).frozen = false ∧ aget (sl .detaching world : State).part.slots 3 = some (xs .detaching : Slot) ∧
      (xs .detaching : Slot).st = SlotSt.detaching ∧ (sl .detaching world : State).linesOf 3 = [] ∧ (sl .detaching world : State).txn.reqs = [] ∧
      (sl .detaching world : State).traffic.holds = [] ∧ (sl .detaching world : State).recp.recipes = [] ∧ (sl .detaching world : State).queuedFor
      (xs .detaching : Slot).eid = 0)
    ∧ ((sl .detaching world : State).standby = false ∧ (sl .detaching world : State).changing 3 = false ∧ (sl .detaching world : State).mirrors = false)
    ∧ (world.frozen = false ∧ aget world.part.slots 3 = some (slotOf 10 : Slot) ∧ (slotOf 10 : Slot).st = SlotSt.active ∧ world.standby = false ∧
      world.changing 3 = false ∧ world.mirrors = false)
    ∧ ((sl .lost world : State).frozen = false ∧ aget (sl .lost world : State).part.slots 3 = some (xs .lost : Slot) ∧ (xs .lost : Slot).st = SlotSt.lost ∧
      (sl .lost world : State).recp.recipes = [] ∧ (sl .lost world : State).standby = false ∧ (sl .lost world : State).changing 3 = false ∧
      (sl .lost world : State).mirrors = false)
    ∧ ((sl .quarantine world : State).frozen = false ∧ aget (sl .quarantine world : State).part.slots 3 = some (xs .quarantine : Slot) ∧
      (xs .quarantine : Slot).st = SlotSt.quarantine ∧ (sl .quarantine world : State).standby = false ∧ (sl .quarantine world : State).changing 3 = false ∧
      (sl .quarantine world : State).mirrors = false)
    ∧ ((act world : State).frozen = false ∧ aget (act world : State).part.slots 3 = some (slotOf 10 : Slot) ∧ (act world : State).standby = false ∧
      (act world : State).changing 3 = false ∧ (act world : State).mirrors = true ∧ (slotOf 10 : Slot).st = SlotSt.active)
    ∧ ((act (sl .quarantine world) : State).frozen = false ∧ aget (act (sl .quarantine world) : State).part.slots 3 = some (xs .quarantine : Slot) ∧
      (act (sl .quarantine world) : State).standby = false ∧ (act (sl .quarantine world) : State).changing 3 = false ∧
      (act (sl .quarantine world) : State).mirrors = true ∧ (xs .quarantine : Slot).st = SlotSt.quarantine)
    ∧ (world.takes 0 (hb 7 : Packet) = true ∧ (hb 7 : Packet).op = 7 ∧ world.poolReq (hb 7 : Packet).src (hb 7 : Packet).tag = none) :=
  ⟨by decide +kernel, by decide +kernel, by decide +kernel, by decide +kernel, by decide +kernel, by decide +kernel, by decide +kernel, by decide +kernel,
   by decide +kernel, pairOf rfl (by decide +kernel), by decide +kernel, by decide +kernel, by decide +kernel, by decide +kernel, by decide +kernel,
   by decide +kernel, by decide +kernel, by decide +kernel, by decide +kernel, by decide +kernel, by decide +kernel, by decide +kernel⟩

end Sys2Proof.Tests.Partners

namespace Sys2Proof.Tests.DeepTier
set_option Elab.async false

/-! Witnesses: for every clause of the statements about the deep tier, a state and operands that meet its hypotheses. -/

def sl0 : Sled := { Sled.reset with present := true, reachable := true, claimed := true, capacity := 1000, eid := 50 }
def deepW : State := { world with deep := { world.deep with units := 1, sleds := [(0, sl0)] } }
def dpk (op tag status harg : Nat) (b : List Byte) : Packet := Packet.close { 
      vc := (if op = 0x88 then 3 else if op = 0x81 ∨ op = 0x86 then 0 else 1),
      op := op,
      dest := 1,
      src := 50,
      tag := tag,
      poison := false,
      resend := false,
      enc := false,
      rsv := 0,
      status := status,
      harg := harg,
      crc := 0,
      body := b }
def pq (op : Nat) (b : List Byte) : PoolReq :=
  { dest := 50, tag := 7, port := 32, issuer := .deep, pkt := { dpk op 7 0 0 b with dest := 50, src := 1 }, key := 0 }
def wp (q : PoolReq) (s : State := deepW) : State := s.onTxn fun t => { t with pool := [q] }
def info : Packet := dpk 0x81 7 0 0 (leBytes 16 (500 + 50 * 2^32 + 9 * 2^64))
def g0 : Nat := 3
def fillf (a : List Nat) (m : Assoc Nat (Bool × List Byte)) (done : Bool) : Fill := { 
      cluster := granuleCluster g0,
      set := deepW.frameSet g0,
      way := 2,
      granule := g0,
      first := 0,
      tag := 7,
      arrived := a,
      metas := m,
      done := done,
      reread := false }
def wf (f : Fill) : State := setTag f.cluster f.set f.way (1 + 2^5 + g0*256) (deepW.onDeep fun d => { d with fills := [f] })
def fm : Fill := fillf [] ((List.range 32).map fun i => (i, (false, leBytes 128 0))) false
def wd : State := setTag fm.cluster fm.set 2 (1 + 2 + g0*256) deepW
def rq : Request := { newRequest world 0 3 (reqPkt 1 0x12 256 0 0) .deep (2^48 + 65536 * g0) 5 1 1 with losses := 0 }
def ww (n : Nat) : State := (wd.onTxn fun t => { t with reqs := [rq] }).onDeep fun d => { d with waiting := [(n, g0, 10, 7)] }

set_option maxRecDepth 100000 in
theorem witness_DeepTier :
    (0 < 4 ∧ (wd.sled 0).present = true ∧ wd.deep.units ≠ 0 ∧ wd.standby = false ∧ wd.deep.bulk = none ∧ wd.accepts (cmdObj 5680 4 (roleOp + rolePm)) rP 1
      (leBytes 1 0) = true)
    ∧ (0 < 4 ∧ (bulkVerdict (setTag fm.cluster fm.set 2 (1 + 2 + 16 + g0*256) deepW : State) (2^48+65536*g0 : Nat) 65536).bad = false ∧
      (setTag fm.cluster fm.set 2 (1 + 2 + 16 + g0*256) deepW : State).standby = false ∧
      (setTag fm.cluster fm.set 2 (1 + 2 + 16 + g0*256) deepW : State).frameWay (granulePa (granuleOf (2^48+65536*g0 : Nat))) = some 2 ∧
      (setTag fm.cluster fm.set 2 (1 + 2 + 16 + g0*256) deepW : State).lineFailed
      ((setTag fm.cluster fm.set 2 (1 + 2 + 16 + g0*256) deepW : State).tagLinePa (granuleCluster (granuleOf (2^48+65536*g0 : Nat)))
      ((setTag fm.cluster fm.set 2 (1 + 2 + 16 + g0*256) deepW : State).frameSet (granuleOf (2^48+65536*g0 : Nat))) / 128) = false ∧
      (setTag fm.cluster fm.set 2 (1 + 2 + 16 + g0*256) deepW : State).accepts (cmdObj 5680 2 rolePm) rP 8
      (leBytes 8 (2^48+65536*g0 : Nat) ++ leBytes 8 65536) = true)
    ∧ ((setTag fm.cluster fm.set 2 (1 + 2 + 16 + g0*256) deepW : State).MemWf)
    ∧ (0 < 4 ∧ (wd.sled 0).present = true ∧ wd.twin.st = TwinSt.solo ∧ wd.accepts (cmdObj 5680 6 roleOp) rO 1 (leBytes 1 0) = true)
    ∧ (0 < 4 ∧ (wp (pq 0x80 []) : State).portUp (32 + 0) = true ∧ info.dest = (wp (pq 0x80 []) : State).obj Obj.nodeEid ∧ info.crcGood = true ∧
      info.linkMalformed (32 + 0) = false ∧ info.op = 129 ∧ (wp (pq 0x80 []) : State).sledReq (32 + 0) info.tag true = some (pq 0x80 [] : PoolReq))
    ∧ (0 < 4 ∧ (wf (fillf [] [] false) : State).portUp (32 + 0) = true ∧ (dpk 0x88 7 0 512 (leBytes 256 3) : Packet).dest =
      (wf (fillf [] [] false) : State).obj Obj.nodeEid ∧ (dpk 0x88 7 0 512 (leBytes 256 3) : Packet).crcGood = true ∧
      (dpk 0x88 7 0 512 (leBytes 256 3) : Packet).linkMalformed (32 + 0) = false ∧ (dpk 0x88 7 0 512 (leBytes 256 3) : Packet).op = 136 ∧
      (wf (fillf [] [] false) : State).fillOf (fillf [] [] false : Fill).granule = some (fillf [] [] false : Fill) ∧ (fillf [] [] false : Fill).done =
      false)
    ∧ (512 = (dpk 0x88 7 0 512 (leBytes 256 3) : Packet).harg / 2 * 2 ∧ 512 ≤ 512 ∧ 512 < 544)
    ∧ (List.find? (fun f => dpPort (granuleSled f.granule) == 32 + 0 && f.tag == (dpk 0x88 7 0 512 (leBytes 256 3) : Packet).tag)
      (wf (fillf [] [] false) : State).deep.fills = some (fillf [] [] false : Fill))
    ∧ (0 < 4 ∧ (wf fm : State).portUp (32 + 0) = true ∧ (dpk 0x88 7 0 0 (leBytes 256 3) : Packet).dest = (wf fm : State).obj Obj.nodeEid ∧
      (dpk 0x88 7 0 0 (leBytes 256 3) : Packet).crcGood = true ∧ (dpk 0x88 7 0 0 (leBytes 256 3) : Packet).linkMalformed (32 + 0) = false ∧
      (dpk 0x88 7 0 0 (leBytes 256 3) : Packet).op = 136 ∧ (wf fm : State).fillOf fm.granule = some fm ∧ fm.done = false)
    ∧ (0 = (dpk 0x88 7 0 0 (leBytes 256 3) : Packet).harg / 2 * 2 ∧ 0 < 512 ∧ (aget fm.metas (0 / 16)).isSome = true ∧ fm.arrived.contains 0 = false ∧
      (wf fm : State).deep.waiting = [] ∧ (wf fm : State).part.ownWrites = [] ∧ (deepW.framePa fm.cluster fm.set 2 / 128 : Nat) = (wf fm : State).framePa
      fm.cluster fm.set fm.way / 128 + 0 ∧ (wf fm : State).lineFailed (deepW.framePa fm.cluster fm.set 2 / 128 : Nat) = false)
    ∧ (wf fm : State).lineFailed ((deepW.framePa fm.cluster fm.set 2 / 128 : Nat) + 1) = false
    ∧ ((wf fm : State).MemWf)
    ∧ (List.find? (fun f => dpPort (granuleSled f.granule) == 32 + 0 && f.tag == (dpk 0x88 7 0 0 (leBytes 256 3) : Packet).tag) (wf fm : State).deep.fills
      = some fm)
    ∧ (0 < 4 ∧ (wp (pq 0x82 (leBytes 16 (5 + 9 * 2^32))) : State).portUp (32 + 0) = true ∧ (dpk 0x86 7 0 0 [] : Packet).dest =
      (wp (pq 0x82 (leBytes 16 (5 + 9 * 2^32))) : State).obj Obj.nodeEid ∧ (dpk 0x86 7 0 0 [] : Packet).crcGood = true ∧
      (dpk 0x86 7 0 0 [] : Packet).linkMalformed (32 + 0) = false ∧ (dpk 0x86 7 0 0 [] : Packet).op = 134 ∧
      (wp (pq 0x82 (leBytes 16 (5 + 9 * 2^32))) : State).sledReq (32 + 0) (dpk 0x86 7 0 0 [] : Packet).tag false = some
      (pq 0x82 (leBytes 16 (5 + 9 * 2^32)) : PoolReq) ∧ (pq 0x82 (leBytes 16 (5 + 9 * 2^32)) : PoolReq).pkt.op = 130)
    ∧ ((dpk 0x86 7 0 0 [] : Packet).status = 0 ∧ (wp (pq 0x82 (leBytes 16 (5 + 9 * 2^32))) : State).twin.basis = 0)
    ∧ (0 < 4 ∧ (wf (fillf [0] [] true) : State).frozen = false ∧ (fillf [0] [] true : Fill).done = true ∧
      ((fillf [0] [] true : Fill).arrived.length = 512 ∧ List.length (fillf [0] [] true : Fill).metas = 32 → False) ∧ (fillf [0] [] true : Fill).reread =
      false)
    ∧ (List.find? (fun f => f.cluster == (fm.cluster : Nat) && f.set == (fm.set : Nat) && f.way == 2) (wf (fillf [0] [] true) : State).deep.fills = some
      (fillf [0] [] true : Fill))
    ∧ (0 < 4 ∧ wd.frozen = false ∧ (1 + 2 + g0*256 : Nat) = wd.tag (fm.cluster : Nat) (fm.set : Nat) 2 ∧ tagHas (1 + 2 + g0*256 : Nat) tagValid = true ∧
      tagHas (1 + 2 + g0*256 : Nat) tagDirty = true ∧ tagHas (1 + 2 + g0*256 : Nat) tagWriting = false ∧ tagHas (1 + 2 + g0*256 : Nat) tagFilling = false ∧
      wd.maySled (granuleSled (tagGranule (1 + 2 + g0*256 : Nat))) = true)
    ∧ (wd.quarantined (fm.cluster : Nat) (fm.set : Nat) = false ∧ wd.tagReady (fm.cluster : Nat) (fm.set : Nat) = true ∧ wd.deep.queue = [])
    ∧ ((List.filter (fun x => granuleSled x.granule == granuleSled (tagGranule (1 + 2 + g0*256 : Nat))) wd.deep.writebacks).length < 64)
    ∧ (0 < 4 ∧ (ww fm.cluster : State).frozen = false ∧ (ww fm.cluster : State).deep.waiting = [((fm.cluster : Nat), g0, 10, 7)] ∧
      (ww fm.cluster : State).request 10 7 = some rq)
    ∧ (0 < 4 ∧ (wd.onLink fun l => { l with ports := [] } : State).frozen = false ∧ (wd.onLink fun l => { l with ports := [] } : State).reachable 0 = false
      ∧ ((wd.onLink fun l => { l with ports := [] } : State).sled 0).reachable = true ∧ (wd.onLink fun l => { l with ports := [] } : State).deep.waiting =
      [])
    ∧ (0 < 4 ∧ (bulkVerdict wd (2^48 : Nat) (65536*3 : Nat)).bad = false ∧ wd.standby = false ∧ wd.deep.bulk = none ∧ wd.accepts (cmdObj 5680 1 rolePm) rP
      8 (leBytes 8 (2^48 : Nat) ++ leBytes 8 (65536*3 : Nat)) = true)
    ∧ (((.deepPin rP (2^48) (65536*3) : Instr), 1) ∈ [(Instr.deepPin rP (2^48 : Nat) (65536*3 : Nat), 1),
      (Instr.deepPrefetch rP (2^48 : Nat) (65536*3 : Nat), 3), (Instr.deepTrim rP (2^48 : Nat) (65536*3 : Nat), 5)]) :=
  ⟨by decide +kernel, by decide +kernel, by unfold State.MemWf; decide +kernel, by decide +kernel, by decide +kernel, by decide +kernel, by decide +kernel,
   by decide +kernel, by decide +kernel, by decide +kernel, by decide +kernel, by unfold State.MemWf; decide +kernel, by decide +kernel, by decide +kernel,
   by decide +kernel, by decide +kernel, by decide +kernel, by decide +kernel, by decide +kernel, by decide +kernel, by decide +kernel, by decide +kernel,
   by decide +kernel, List.Mem.head _⟩

end Sys2Proof.Tests.DeepTier

namespace Sys2Proof.Tests.Dram
set_option Elab.async false

/-! Witnesses: for every clause of the statements about DRAM, a state and operands that meet its hypotheses. -/

def dr (id line : Nat) (w iss : Bool) (c : DramCause) : DramReq :=
  { id := id, line := line, write := w, cls := .normal, cause := c, entered := iss, inBank := iss, issued := iss }
def ch0 (c : Channel) : State := world.onDram fun d => { d with channels := [((placeOf 256).channel, c)] }
def k0 : Nat := (placeOf 256).channel
def p0 := placeOf 256
def c1 : Channel := { Channel.reset with refreshDue := [(p0.pseudo*16 + p0.bank, 8)] }
def c2 : Channel := { Channel.reset with reqs := [dr 1 2 false false .evict] }
def c3 (w : Bool) (c : DramCause) : Channel := { Channel.reset with reqs := [dr 1 2 w true c] }
def rq (op : Nat) : Request := { newRequest world 0 3 (reqPkt 1 op 256 0 0) .dram 256 5 1 0 with ordered := true }
def cr (w : Bool) (c : DramCause) : State := (ch0 (c3 w c)).onTxn fun t => { t with reqs := [rq 0x12] }
def scr (l : Assoc Nat LineMeta) : State := (ch0 c1).onMem fun m => {m with lines := l}

set_option maxRecDepth 100000 in
theorem witness_DramChannels :
    ((ch0 { c3 true .evict with panicMir := .capped, panicVc6 := .capped } : State).frozen = false ∧ (if true = true then
      ((ch0 { c3 true .evict with panicMir := .capped, panicVc6 := .capped } : State).channel k0).panicMir else
      ((ch0 { c3 true .evict with panicMir := .capped, panicVc6 := .capped } : State).channel k0).panicVc6) = Panic.capped)
    ∧ ((ch0 c1 : State).frozen = false ∧ (ch0 c1 : State).channelRuns k0 = true)
    ∧ ((ch0 c1 : State).frozen = false ∧ k0 < 256 ∧ ((ch0 c1 : State).channel k0).st ≠ ChSt.failed ∧ (ch0 c1 : State).accepts channelRetrainObj rO 1
      (leBytes 1 (k0 / 32) ++ leBytes 1 (k0 % 32)) = true)
    ∧ ((scr [] : State).frozen = false ∧ (scr [] : State).obj Obj.scrubEnable ≠ 0 ∧ 256 < dramTop ∧ (scr [] : State).channelRuns (channelOfPa 256) = true ∧
      false = (((scr [] : State).lineMeta (256 / 128)).inPantry && ((scr [] : State).lineMeta (256 / 128)).dirty))
    ∧ ((ch0 c1 : State).frozen = false ∧ (ch0 c1 : State).waitingOn k0 = [])
    ∧ (ch0 c1 : State).frozen = false
    ∧ ((world.onInteg fun i =>
      {i with log := [{ seq := 1, time := 0, kind := 1, action := 0, channel := 0, pa := 0, symbol := 0, tenant := 0, unit := 0 }]} : State).frozen = false
      ∧ (world.onInteg fun i =>
      {i with log := [{ seq := 1, time := 0, kind := 1, action := 0, channel := 0, pa := 0, symbol := 0, tenant := 0, unit := 0 }]} : State).accepts
      (cmdObj 5952 1 roleOp) rO 0 [] = true)
    ∧ (((setTag 3 9 4 77 { world with deep := { world.deep with units := 1 } }).onDeep fun d => {d with quarantined := [(3, 9), (1, 1)]} : State).frozen =
      false ∧ ((setTag 3 9 4 77 { world with deep := { world.deep with units := 1 } }).onDeep fun d => {d with quarantined := [(3, 9), (1, 1)]} :
      State).quarantined 3 9 = true ∧
      ((setTag 3 9 4 77 { world with deep := { world.deep with units := 1 } }).onDeep fun d => {d with quarantined := [(3, 9), (1, 1)]} : State).accepts
      (cmdObj 5952 2 roleOp) rO 1 (leBytes 1 3 ++ leBytes 4 9) = true)
    ∧ (((setTag 3 9 4 77 { world with deep := { world.deep with units := 1 } }).onDeep fun d => {d with quarantined := [(3, 9), (1, 1)]} : State).MemWf)
    ∧ (world.frozen = false ∧ 256 % 128 = 0 ∧ 256 < world.poolTop ∧ isDeepPa 256 = false ∧ world.standby = false ∧ world.lineFailed (256 / 128) = false ∧
      world.obs.dumps = [] ∧ world.accepts (cmdObj 5952 3 roleDebug) rD 8 (leBytes 8 256) = true)
    ∧ (world.MemWf)
    ∧ ((ch0 c1 : State).frozen = false ∧ (ch0 c1 : State).channelRuns k0 = true ∧ (ch0 c1 : State).stackOpen k0 = true ∧ c1 = Channel.moveAll
      ((ch0 c1 : State).channel k0).reqs.length ((ch0 c1 : State).channel k0).enter)
    ∧ (List.find? (fun b => decide (agetD c1.refreshDue ((p0.pseudo : Nat) * 16 + b) 0 ≥ 8) && !c1.bankBusy (p0.pseudo : Nat) b) (List.range 16) = some
      (p0.bank : Nat))
    ∧ ((ch0 c2 : State).frozen = false ∧ (ch0 c2 : State).channelRuns k0 = true ∧ (ch0 c2 : State).stackOpen k0 = true ∧ (c2.enter.moveAll 1 : Channel) =
      Channel.moveAll ((ch0 c2 : State).channel k0).reqs.length ((ch0 c2 : State).channel k0).enter)
    ∧ (List.find? (fun b => decide (agetD (c2.enter.moveAll 1 : Channel).refreshDue ((p0.pseudo : Nat) * 16 + b) 0 ≥ 8) &&
      !(c2.enter.moveAll 1 : Channel).bankBusy (p0.pseudo : Nat) b) (List.range 16) = none)
    ∧ (((panicUpdate k0 (setChannel k0 (fun _ => (c2.enter.moveAll 1 : Channel)) (ch0 c2 : State))).channel k0).pick (p0.pseudo : Nat) = some
      ({ dr 1 2 false false .evict with inBank := true, entered := true } : DramReq))
    ∧ ((ch0 (c3 true .evict) : State).frozen = false ∧ (dr 1 2 true true .evict : DramReq).write = true ∧ (ch0 (c3 true .evict) : State).powerGood
      (16 + k0 / 32) = true)
    ∧ (List.find? (fun r => r.id == 1 && r.issued) ((ch0 (c3 true .evict) : State).channel k0).reqs = some (dr 1 2 true true .evict : DramReq))
    ∧ ((cr false (.request 10 7) : State).frozen = false ∧ (dr 1 2 false true (.request 10 7) : DramReq).write = false ∧
      (dr 1 2 false true (.request 10 7) : DramReq).cause = DramCause.request (rq 0x12 : Request).src (rq 0x12 : Request).tag ∧
      (cr false (.request 10 7) : State).request (rq 0x12 : Request).src (rq 0x12 : Request).tag = some (rq 0x12 : Request) ∧ (rq 0x12 : Request).phase =
      ReqPhase.dram ∧ (rq 0x12 : Request).op = 18 ∧ (cr false (.request 10 7) : State).powerGood (16 + k0 / 32) = true ∧
      (cr false (.request 10 7) : State).deep.bulk = none)
    ∧ (List.find? (fun r => r.id == 1 && r.issued) ((cr false (.request 10 7) : State).channel k0).reqs = some
      (dr 1 2 false true (.request 10 7) : DramReq))
    ∧ ((ch0 c1 : State).frozen = false ∧ ((ch0 c1 : State).punit (16 + k0 / 32)).st ≠ PowerSt.deep)
    ∧ ((cr false (.request 10 7) : State).frozen = false ∧ ((cr false (.request 10 7) : State).channel k0).st = ChSt.serving)
    ∧ (List.find? (fun r => r.id == 1 && r.issued) ((cr false (.request 10 7) : State).channel k0).reqs = some
      (dr 1 2 false true (.request 10 7) : DramReq))
    ∧ ((List.filter (fun t => decide ((cr false (.request 10 7) : State).now < t + 60000000000))
      ((cr false (.request 10 7) : State).channel k0).retrainAt).length < 3)
    ∧ ((ch0 { c3 true .evict with st := .retraining} : State).frozen = false ∧ ((ch0 { c3 true .evict with st := .retraining} : State).channel k0).st =
      ChSt.retraining ∧ ((ch0 { c3 true .evict with st := .retraining} : State).channel k0).fullTrain = none)
    ∧ ((ch0 { c3 true .evict with st := .retraining} : State).frozen = false ∧ ((ch0 { c3 true .evict with st := .retraining} : State).channel k0).st =
      ChSt.retraining ∧ ((ch0 { c3 true .evict with st := .retraining} : State).channel k0).fullTrain = none ∧
      (ch0 { c3 true .evict with st := .retraining} : State).waitingOn k0 = [])
    ∧ ((ch0 { c3 true .evict with panicMir := .on, panicVc6 := .on } : State).frozen = false ∧ (if true = true then
      ((ch0 { c3 true .evict with panicMir := .on, panicVc6 := .on } : State).channel k0).panicMir else
      ((ch0 { c3 true .evict with panicMir := .on, panicVc6 := .on } : State).channel k0).panicVc6) = Panic.on) :=
  ⟨by decide +kernel, by decide +kernel, by decide +kernel, by decide +kernel, by decide +kernel, by decide +kernel, by decide +kernel, by decide +kernel,
   by unfold State.MemWf; decide +kernel, by decide +kernel, by unfold State.MemWf; decide +kernel, by decide +kernel, by decide +kernel,
   by decide +kernel, by decide +kernel, by decide +kernel, by decide +kernel, by decide +kernel, by decide +kernel, by decide +kernel, by decide +kernel,
   by decide +kernel, by decide +kernel, by decide +kernel, by decide +kernel, by decide +kernel, by decide +kernel⟩

end Sys2Proof.Tests.Dram

namespace Sys2Proof.Tests.Recipes
set_option Elab.async false

/-! Witnesses: for every clause of the statements about recipes, a state and operands that meet its hypotheses. -/

def pant : Assoc Nat LineMeta := (List.range 40).map
  (fun i => ((if i < 20 then 1024 else 1516) + i, { LineMeta.reset with inPantry := true, tenant := 5, keyId := 1, key := some 99 }))
def wld : State := { world with mem := { world.mem with lines := pant } }
def desc (code flags op fi fo : Nat) (w2 w3 w4 w5 w6 w7 : Nat) : Desc := { 
      code := code,
      flags := flags,
      op := op,
      fmtIn := fi,
      fmtOut := fo,
      startTile := 0,
      doneAddr := 1024,
      w2 := w2,
      w3 := w3,
      w4 := w4,
      w5 := w5,
      w6 := w6,
      w7 := w7 }
def rcp (d : Desc) : Packet := pktOf 5 0x50 5 d.bytes
def fillD : Desc := desc 1 0 0 0 0 65536 256 0x1122334455667788 0 0 0
def copyD : Desc := desc 2 1 0 0 0 65536 256 131072 0 0 0
def redD : Desc := desc 4 0 0 2 2 65536 128 131072 256 2 0
def pol (p : Packet) (s : State) : State := (colour 0 3 (classOfVc p.vc) p.charge s).1
def adm (s : State) (p : Packet) : State × Admit := recipeChecks 0 3 5 (AccBy.params p.src p.tag 3) (descOf p.body) (pol p s)
def stgD : Desc := desc 7 0 0 2 2 (65536*3) 128 131072 (65536*4) 0 (2 + 1*65536 + 10*2^32)
def stgP : Packet := rcp stgD
def vS : State := (adm wld stgP).1
def rsv (c : Nat) : Packet := rcp { fillD with code := c }
def rec (d : Desc) (ph : RecPhase) : Recipe := { 
      id := 1,
      src := 10,
      tag := 7,
      slot := 3,
      ctx := 5,
      port := 0,
      pkt := rcp d,
      die := 0,
      d := d,
      phase := ph,
      acceptedAt := 0,
      askedAt := 0,
      total := d.total [],
      phaseOne := 0,
      next := 0,
      done := [],
      skip := [],
      checked := [],
      failed := [],
      lost := [],
      withLoss := false,
      cancelled := false,
      poison := false,
      poisoned := 0,
      result := 0,
      result2 := 0,
      marks := 0,
      exc := none,
      leader := false,
      params := [],
      parts := [],
      scanBad := 0,
      streamSeq := 0,
      e4m3Nan := false,
      fast := false }
def wr (r : Recipe) : State := wld.onRecp fun x => { x with recipes := [r], nextId := 2 }
def can : Packet := pktOf 5 0x54 0 []
def tl (chk : Bool) (pg : Assoc Nat Page) : CoreTile := { 
      recipe := 1,
      tile := 0,
      stolen := false,
      checked := chk,
      kernel := false,
      handle := 0,
      textLen := 0,
      tray := 0,
      threads := [],
      ending := .running,
      pages := pg,
      visited := [] }
def onCore (k : Nat) (c : Core) (s : State) : State := s.onCore fun x => { x with cores := [(k, c)] }
def run0 (d : Desc) (chk : Bool) (pg : Assoc Nat Page) : State := onCore 3 { Core.reset with run := some (tl chk pg) }
  (wr { rec d .running with next := 1, checked := if chk then [0] else [] })
def cl1 (d : Desc) : State := clearForTenant 3 ((run0 d false []).readDesc 5).owner (run0 d false [])
def ck1 (d : Desc) := checkSpans 0 5 d.code ((rec d .running).placeOf 0) ((rec d .running).tileSpans ((cl1 d).stageSources (rec d .running)) 0)
  (Checked.start []) (cl1 d)
def rcc (d : Desc) (chk : Bool) : Recipe := { rec d .running with next := 1, checked := if chk then [0] else [] }
def rd1 (d : Desc) : State := (readySpans (AccBy.tile 3 (rcc d false).slot) (ck1 d).2.pages false
  ((spanLines ((rcc d false).tileSpans ((cl1 d).stageSources (rcc d false)) (tl false []).tile)).filter (fun x => !x.write)) (ck1 d).1).1
def ck2 (d : Desc) := checkSpans (dieOfCluster (clusterOf 3)) (rcc d false).ctx (rcc d false).d.code (fun i => 2^20 + i)
  ((rcc d false).dataSpans ((rd1 d).reader (ck1 d).2.pages) (tl false []).tile) (ck1 d).2 (rd1 d)
def gaD : Desc := desc 6 0 0 2 2 65536 131072 (131072+512) (2 + 4*2^32) 4 0
def grD : Desc := desc 5 0 0 2 2 65536 131072 (131072+512) (131072+1024) (2 + 4*2^32) 1
def rd2 (d : Desc) := (readySpans (AccBy.tile 3 (rcc d false).slot) (ck2 d).2.pages false
  (spanLines ((rcc d false).dataSpans ((rd1 d).reader (ck1 d).2.pages) (tl false []).tile)) (ck2 d).1)
def ck3 (d : Desc) := checkSpans (dieOfCluster (clusterOf 3)) (rcc d false).ctx (rcc d false).d.code (fun i => 2^20 + i)
  ((rcc d false).dataSpans ((rd2 d).1.reader (ck2 d).2.pages) (tl false []).tile) (ck2 d).2 (rd2 d).1
def pg : Assoc Nat Page := (ck1 copyD).2.pages
def com (d : Desc) : State := run0 d true (ck1 d).2.pages
def cg (d : Desc) : State := (grantWhole (ck1 d).2.pages ((rcc d true).tileSpans [] 0) (com d)).1
def cu (d : Desc) : State := (readySpans (AccBy.tile 3 3) (ck1 d).2.pages ((rcc d true).d.flag 1) (spanLines ((rcc d true).tileSpans [] 0)) (cg d)).1
def cv (d : Desc) : State := (readySpans (AccBy.tile 3 3) (ck1 d).2.pages ((rcc d true).d.flag 1)
  (spanLines ((rcc d true).dataSpans ((cu d).reader (ck1 d).2.pages) 0)) (settled (settleTile 3) 5 (cu d))).1
def cw (d : Desc) : State := (commitOuts 3 (ck1 d).2.pages (outLines ((rcc d true).compute ((cv d).reader (ck1 d).2.pages) [] (cv d).free 0).outs) (cv d)).1
def tu : State := (xlate 0 5 (65536*3) [0,1,3] true vS).1
def tv : State := (xlate 0 5 (stageEntry (65536*3) 1) [0,1,3] true tu).1
def tx : State := (readyAll (AccBy.arrival 10 7 3) 5 [65536*3, stageEntry (65536*3) 1] tv).1
def fin : Recipe := { rec fillD .running with next := 1, done := [0] }
def sg : Sugar := { 
      kind := .compute,
      key := 1,
      die := 0,
      requested := 100,
      granted := 0,
      duration := 10,
      unitMw := 0,
      coreMa := 5,
      reached := 0,
      rt := false,
      askedAt := 0,
      start := 0,
      stop := 0 }

set_option maxRecDepth 100000 in
theorem witness_RecipesArrive :
    (wld.takes 0 (rcp redD : Packet) = true ∧ wld.admits 3 (rcp redD : Packet) = true ∧ wld.notNow (rcp redD : Packet) = false ∧ agetD wld.traffic.holds
      (3, 0, (rcp redD : Packet).vc) [] = [] ∧ wld.backlogged 3 (classOfVc (rcp redD : Packet).vc) = false ∧ (rcp redD : Packet).op = 80 ∧
      (rcp redD : Packet).enc = false ∧ wld.isSealed (wld.readDesc (rcp redD : Packet).harg).owner = false)
    ∧ (descOf (rcp redD : Packet).body).code = 4
    ∧ (colour (dieOfPort 0) 3 (classOfVc (rcp redD : Packet).vc) (rcp redD : Packet).charge wld = ((pol (rcp redD) wld : State), true))
    ∧ (recipeChecks (dieOfPort 0) 3 (rcp redD : Packet).harg (AccBy.params (rcp redD : Packet).src (rcp redD : Packet).tag 3)
      (descOf (rcp redD : Packet).body) (pol (rcp redD) wld : State) = (((adm wld (rcp redD)).1 : State), Admit.pass ([] : List Byte) ([] : List Nat)))
    ∧ (((.reduce 0 (rcp redD) : Instr), 4) ∈ [(Instr.fill 0 (rcp redD : Packet), 1), (Instr.copy 0 (rcp redD : Packet), 2),
      (Instr.compare 0 (rcp redD : Packet), 3), (Instr.reduce 0 (rcp redD : Packet), 4), (Instr.gatherReduce 0 (rcp redD : Packet), 5),
      (Instr.scatterAdd 0 (rcp redD : Packet), 6), (Instr.optimStep 0 (rcp redD : Packet), 8), (Instr.kvSelect 0 (rcp redD : Packet), 9),
      (Instr.deltaPack 0 (rcp redD : Packet), 10), (Instr.digest 0 (rcp redD : Packet), 11), (Instr.publish 0 (rcp redD : Packet), 12),
      (Instr.kernel 0 (rcp redD : Packet), 13)])
    ∧ (wld.takes 0 stgP = true ∧ wld.admits 3 stgP = true ∧ wld.notNow stgP = false ∧ agetD wld.traffic.holds (3, 0, stgP.vc) [] = [] ∧ wld.backlogged 3
      (classOfVc stgP.vc) = false ∧ stgP.op = 80 ∧ stgP.enc = false ∧ wld.isSealed (wld.readDesc stgP.harg).owner = false)
    ∧ (descOf stgP.body).code = 7
    ∧ (colour (dieOfPort 0) 3 (classOfVc stgP.vc) stgP.charge wld = ((pol stgP wld : State), true))
    ∧ (recipeChecks (dieOfPort 0) 3 stgP.harg (AccBy.params stgP.src stgP.tag 3) (descOf stgP.body) (pol stgP wld : State) =
      (vS, Admit.pass ([] : List Byte) ([] : List Nat)))
    ∧ (arriveStage 0 3 stgP vS = (((arriveStage 0 3 stgP vS).1 : State), true))
    ∧ (wld.takes 0 (rsv 0 : Packet) = true ∧ wld.admits 3 (rsv 0 : Packet) = true ∧ wld.notNow (rsv 0 : Packet) = false ∧ agetD wld.traffic.holds
      (3, 0, (rsv 0 : Packet).vc) [] = [] ∧ wld.backlogged 3 (classOfVc (rsv 0 : Packet).vc) = false ∧ (rsv 0 : Packet).op = 80 ∧ (rsv 0 : Packet).enc =
      false ∧ wld.isSealed (wld.readDesc (rsv 0 : Packet).harg).owner = false)
    ∧ ((pol (rsv 0) wld : State).isSealed ((pol (rsv 0) wld : State).readDesc (rsv 0 : Packet).harg).owner = false ∧
      ((descOf (rsv 0 : Packet).body).code = 0 ∨ 13 < (descOf (rsv 0 : Packet).body).code))
    ∧ (colour (dieOfPort 0) 3 (classOfVc (rsv 0 : Packet).vc) (rsv 0 : Packet).charge wld = ((pol (rsv 0) wld : State), true))
    ∧ ((wr (rec fillD .running) : State).takes 0 can = true ∧ can.op = 84 ∧ can.resend = false ∧ (wr (rec fillD .running) : State).slotOfEid can.src = some
      3 ∧ aget (wr (rec fillD .running) : State).part.slots 3 = some (slotOf 10 : Slot) ∧ (slotOf 10 : Slot).st = SlotSt.active ∧
      (wr (rec fillD .running) : State).outstandingHere can.src can.tag = false ∧ (wr (rec fillD .running) : State).notNow can = false)
    ∧ (agetD (wr (rec fillD .running) : State).traffic.holds (3, 0, can.vc) [] = [] ∧ (wr (rec fillD .running) : State).backlogged 3 (classOfVc can.vc) =
      false ∧ (rec fillD .running : Recipe).phase ≠ RecPhase.collecting ∧ (rec fillD .running : Recipe).phase ≠ RecPhase.reducing ∧
      ((pol can (wr (rec fillD .running)) : State).recp.recipes.all fun y => y.id != (rec fillD .running : Recipe).id || y.phase != RecPhase.reducing) =
      true)
    ∧ (colour (dieOfPort 0) 3 (classOfVc can.vc) can.charge (wr (rec fillD .running) : State) = ((pol can (wr (rec fillD .running)) : State), true))
    ∧ (List.find? (fun r => r.src == can.src && r.tag == can.tag) (pol can (wr (rec fillD .running)) : State).recp.recipes = some
      (rec fillD .running : Recipe))
    ∧ ((wr (rec stgD .reducing) : State).takes 0 can = true ∧ can.op = 84 ∧ can.resend = false ∧ (wr (rec stgD .reducing) : State).slotOfEid can.src = some
      3 ∧ aget (wr (rec stgD .reducing) : State).part.slots 3 = some (slotOf 10 : Slot) ∧ (slotOf 10 : Slot).st = SlotSt.active ∧
      (wr (rec stgD .reducing) : State).outstandingHere can.src can.tag = false ∧ (wr (rec stgD .reducing) : State).notNow can = false)
    ∧ (agetD (wr (rec stgD .reducing) : State).traffic.holds (3, 0, can.vc) [] = [] ∧ (wr (rec stgD .reducing) : State).backlogged 3 (classOfVc can.vc) =
      false ∧ (rec stgD .reducing : Recipe).phase = RecPhase.reducing)
    ∧ (colour (dieOfPort 0) 3 (classOfVc can.vc) can.charge (wr (rec stgD .reducing) : State) = ((pol can (wr (rec stgD .reducing)) : State), true))
    ∧ (List.find? (fun r => r.src == can.src && r.tag == can.tag) (pol can (wr (rec stgD .reducing)) : State).recp.recipes = some
      (rec stgD .reducing : Recipe))
    ∧ ((wr (rec fillD .running) : State).standby = false ∧ (rec fillD .running : Recipe).phase ≠ RecPhase.collecting ∧
      ((wr (rec fillD .running) : State).recp.recipes.all fun y => y.id != (rec fillD .running : Recipe).id || y.phase != RecPhase.reducing) = true ∧
      (rec fillD .running : Recipe).phase ≠ RecPhase.reducing ∧ (wr (rec fillD .running) : State).accepts (cmdObj 6176 1 roleOp) rO 2
      (leBytes 2 3 ++ leBytes 2 7) = true)
    ∧ (List.find? (fun x => x.slot == 3 && x.tag == 7) (wr (rec fillD .running) : State).recp.recipes = some (rec fillD .running : Recipe)) :=
  ⟨by decide +kernel, by decide +kernel, pairOf rfl (by decide +kernel), pairOf rfl (by decide +kernel),
   List.Mem.tail _ (List.Mem.tail _ (List.Mem.tail _ (List.Mem.head _))), by decide +kernel, by decide +kernel, pairOf rfl (by decide +kernel),
   pairOf rfl (by decide +kernel), pairOf rfl (by decide +kernel), by decide +kernel, by decide +kernel, pairOf rfl (by decide +kernel), by decide +kernel,
   by decide +kernel, pairOf rfl (by decide +kernel), by decide +kernel, by decide +kernel, by decide +kernel, pairOf rfl (by decide +kernel),
   by decide +kernel, by decide +kernel, by decide +kernel⟩

set_option maxRecDepth 100000 in
theorem witness_RecipeTiles :
    ((wr (rec fillD .running) : State).frozen = false ∧ (wr (rec fillD .running) : State).standby = false ∧ (wr (rec fillD .running) : State).recipe 1 =
      some (rec fillD .running : Recipe) ∧ (rec fillD .running : Recipe).phase = RecPhase.running ∧ (wr (rec fillD .running) : State).recipeWaits 1 = false
      ∧ (wr (rec fillD .running) : State).recipeGrant 1 = none ∧ (rec fillD .running : Recipe).cancelled = false ∧ (rec fillD .running : Recipe).failed =
      [])
    ∧ ((rec fillD .running : Recipe).scanFailed = false ∧ 0 < (rec fillD .running : Recipe).f + 512 ∧ (rec fillD .running : Recipe).barrier 0 ≤
      (rec fillD .running : Recipe).f ∧ (rec fillD .running : Recipe).d.flag 0 = false ∧
      (agetD (wr (rec fillD .running) : State).recp.queues ((wr (rec fillD .running) : State).tileCluster (rec fillD .running : Recipe) 0) []).length <
      1024 ∧ (wr (rec fillD .running) : State).fw.act ≠ Activation.pause ∧
      ((wr (rec fillD .running) : State).unit UnitKind.cluster ((wr (rec fillD .running) : State).tileCluster (rec fillD .running : Recipe) 0)).st ≠
      UnitSt.resetting)
    ∧ (List.find? (fun t => !(rec fillD .running : Recipe).committed t)
      (List.map (fun i => (rec fillD .running : Recipe).next + i) (List.range ((rec fillD .running : Recipe).total - (rec fillD .running : Recipe).next)))
      = some 0)
    ∧ (((wr (rec fillD .running)).onRecp fun x => { x with locals := [(3, [{ recipe := 1, tile := 0, stolen := false }])] } : State).frozen = false ∧
      ((wr (rec fillD .running)).onRecp fun x => { x with locals := [(3, [{ recipe := 1, tile := 0, stolen := false }])] } : State).coreAble 3 = true ∧
      (((wr (rec fillD .running)).onRecp fun x => { x with locals := [(3, [{ recipe := 1, tile := 0, stolen := false }])] } : State).coreRec 3).run = none
      ∧ ((wr (rec fillD .running)).onRecp fun x => { x with locals := [(3, [{ recipe := 1, tile := 0, stolen := false }])] } : State).fw.act ≠
      Activation.pause ∧ agetD
      ((wr (rec fillD .running)).onRecp fun x => { x with locals := [(3, [{ recipe := 1, tile := 0, stolen := false }])] } : State).recp.locals 3 [] =
      ({ recipe := 1, tile := 0, stolen := false } : TileRef) :: ([] : List TileRef))
    ∧ ((run0 fillD false [] : State).frozen = false ∧ ((run0 fillD false [] : State).coreRec 3).run = some (tl false [] : CoreTile) ∧
      (run0 fillD false [] : State).recipe (tl false [] : CoreTile).recipe = some (rcc fillD false : Recipe) ∧ (tl false [] : CoreTile).kernel = false ∧
      (tl false [] : CoreTile).checked = false ∧ (run0 fillD false [] : State).coreAble 3 = true ∧ (cl1 fillD : State) = clearForTenant 3
      ((run0 fillD false [] : State).readDesc (rcc fillD false : Recipe).ctx).owner (run0 fillD false [] : State) ∧ 1 = agetD
      (run0 fillD false [] : State).part.gens (rcc fillD false : Recipe).ctx 0)
    ∧ ((rcc fillD false : Recipe).d.dataDriven = false ∧ ((ck1 fillD).2 : Checked).verdict 1 ((ck1 fillD).1 : State) = SpanCheck.ok)
    ∧ (checkSpans (dieOfCluster (clusterOf 3)) (rcc fillD false : Recipe).ctx (rcc fillD false : Recipe).d.code
      ((rcc fillD false : Recipe).placeOf (tl false [] : CoreTile).tile)
      ((rcc fillD false : Recipe).tileSpans ((cl1 fillD : State).stageSources (rcc fillD false : Recipe)) (tl false [] : CoreTile).tile) (Checked.start [])
      (cl1 fillD : State) = (((ck1 fillD).1 : State), ((ck1 fillD).2 : Checked)))
    ∧ ((run0 gaD false [] : State).frozen = false ∧ ((run0 gaD false [] : State).coreRec 3).run = some (tl false [] : CoreTile) ∧
      (run0 gaD false [] : State).recipe (tl false [] : CoreTile).recipe = some (rcc gaD false : Recipe) ∧ (tl false [] : CoreTile).kernel = false ∧
      (tl false [] : CoreTile).checked = false ∧ (run0 gaD false [] : State).coreAble 3 = true ∧ (cl1 gaD : State) = clearForTenant 3
      ((run0 gaD false [] : State).readDesc (rcc gaD false : Recipe).ctx).owner (run0 gaD false [] : State) ∧ 1 = agetD
      (run0 gaD false [] : State).part.gens (rcc gaD false : Recipe).ctx 0)
    ∧ ((rcc gaD false : Recipe).d.dataDriven = true ∧ ((ck1 gaD).2 : Checked).settle = none ∧ (rcc gaD false : Recipe).d.code ≠ 5 ∧
      ((ck2 gaD).2 : Checked).verdict 1 ((ck2 gaD).1 : State) = SpanCheck.ok)
    ∧ (checkSpans (dieOfCluster (clusterOf 3)) (rcc gaD false : Recipe).ctx (rcc gaD false : Recipe).d.code
      ((rcc gaD false : Recipe).placeOf (tl false [] : CoreTile).tile)
      ((rcc gaD false : Recipe).tileSpans ((cl1 gaD : State).stageSources (rcc gaD false : Recipe)) (tl false [] : CoreTile).tile) (Checked.start [])
      (cl1 gaD : State) = (((ck1 gaD).1 : State), ((ck1 gaD).2 : Checked)))
    ∧ (readySpans (AccBy.tile 3 (rcc gaD false : Recipe).slot) ((ck1 gaD).2 : Checked).pages false (List.filter (fun x => !x.write)
      (spanLines ((rcc gaD false : Recipe).tileSpans ((cl1 gaD : State).stageSources (rcc gaD false : Recipe)) (tl false [] : CoreTile).tile)))
      ((ck1 gaD).1 : State) = ((rd1 gaD : State), LineReady.ready))
    ∧ (checkSpans (dieOfCluster (clusterOf 3)) (rcc gaD false : Recipe).ctx (rcc gaD false : Recipe).d.code (fun i => 2 ^ 20 + i)
      ((rcc gaD false : Recipe).dataSpans ((rd1 gaD : State).reader ((ck1 gaD).2 : Checked).pages) (tl false [] : CoreTile).tile) ((ck1 gaD).2 : Checked)
      (rd1 gaD : State) = (((ck2 gaD).1 : State), ((ck2 gaD).2 : Checked)))
    ∧ ((run0 grD false [] : State).frozen = false ∧ ((run0 grD false [] : State).coreRec 3).run = some (tl false [] : CoreTile) ∧
      (run0 grD false [] : State).recipe (tl false [] : CoreTile).recipe = some (rcc grD false : Recipe) ∧ (tl false [] : CoreTile).kernel = false ∧
      (tl false [] : CoreTile).checked = false ∧ (run0 grD false [] : State).coreAble 3 = true ∧ (cl1 grD : State) = clearForTenant 3
      ((run0 grD false [] : State).readDesc (rcc grD false : Recipe).ctx).owner (run0 grD false [] : State) ∧ 1 = agetD
      (run0 grD false [] : State).part.gens (rcc grD false : Recipe).ctx 0)
    ∧ ((rcc grD false : Recipe).d.dataDriven = true ∧ ((ck1 grD).2 : Checked).settle = none ∧ (rcc grD false : Recipe).d.code = 5 ∧
      ((ck2 grD).2 : Checked).settle = none ∧ ((ck3 grD).2 : Checked).verdict 1 ((ck3 grD).1 : State) = SpanCheck.ok)
    ∧ (checkSpans (dieOfCluster (clusterOf 3)) (rcc grD false : Recipe).ctx (rcc grD false : Recipe).d.code
      ((rcc grD false : Recipe).placeOf (tl false [] : CoreTile).tile)
      ((rcc grD false : Recipe).tileSpans ((cl1 grD : State).stageSources (rcc grD false : Recipe)) (tl false [] : CoreTile).tile) (Checked.start [])
      (cl1 grD : State) = (((ck1 grD).1 : State), ((ck1 grD).2 : Checked)))
    ∧ (readySpans (AccBy.tile 3 (rcc grD false : Recipe).slot) ((ck1 grD).2 : Checked).pages false (List.filter (fun x => !x.write)
      (spanLines ((rcc grD false : Recipe).tileSpans ((cl1 grD : State).stageSources (rcc grD false : Recipe)) (tl false [] : CoreTile).tile)))
      ((ck1 grD).1 : State) = ((rd1 grD : State), LineReady.ready))
    ∧ (checkSpans (dieOfCluster (clusterOf 3)) (rcc grD false : Recipe).ctx (rcc grD false : Recipe).d.code (fun i => 2 ^ 20 + i)
      ((rcc grD false : Recipe).dataSpans ((rd1 grD : State).reader ((ck1 grD).2 : Checked).pages) (tl false [] : CoreTile).tile) ((ck1 grD).2 : Checked)
      (rd1 grD : State) = (((ck2 grD).1 : State), ((ck2 grD).2 : Checked)))
    ∧ (readySpans (AccBy.tile 3 (rcc grD false : Recipe).slot) ((ck2 grD).2 : Checked).pages false
      (spanLines ((rcc grD false : Recipe).dataSpans ((rd1 grD : State).reader ((ck1 grD).2 : Checked).pages) (tl false [] : CoreTile).tile))
      ((ck2 grD).1 : State) = (((rd2 grD).1 : State), LineReady.ready))
    ∧ (checkSpans (dieOfCluster (clusterOf 3)) (rcc grD false : Recipe).ctx (rcc grD false : Recipe).d.code (fun i => 2 ^ 20 + i)
      ((rcc grD false : Recipe).dataSpans (((rd2 grD).1 : State).reader ((ck2 grD).2 : Checked).pages) (tl false [] : CoreTile).tile)
      ((ck2 grD).2 : Checked) ((rd2 grD).1 : State) = (((ck3 grD).1 : State), ((ck3 grD).2 : Checked)))
    ∧ ((run0 copyD true pg : State).frozen = false ∧ ((run0 copyD true pg : State).coreRec 3).run = some (tl true pg : CoreTile) ∧
      (run0 copyD true pg : State).recipe (tl true pg : CoreTile).recipe = some (rcc copyD true : Recipe) ∧ (tl true pg : CoreTile).kernel = false ∧
      (tl true pg : CoreTile).checked = true ∧ (run0 copyD true pg : State).coreAble 3 = true ∧
      ((run0 copyD true pg : State).unit UnitKind.core 3).mismatches = [] ∧ (rcc copyD true : Recipe).lost = [])
    ∧ (rcc copyD true : Recipe).d.code ≠ 13
    ∧ ((com fillD : State).frozen = false ∧ ((com fillD : State).coreRec 3).run = some (tl true (ck1 fillD).2.pages : CoreTile) ∧
      (com fillD : State).recipe (tl true (ck1 fillD).2.pages : CoreTile).recipe = some (rcc fillD true : Recipe) ∧
      (tl true (ck1 fillD).2.pages : CoreTile).kernel = false ∧ (tl true (ck1 fillD).2.pages : CoreTile).checked = true ∧ (com fillD : State).coreAble 3 =
      true ∧ (rcc fillD true : Recipe).d.code ≠ 6 ∧ (rcc fillD true : Recipe).d.code ≠ 9)
    ∧ ((rcc fillD true : Recipe).d.code ≠ 12 ∧ ((List.range (tl true (ck1 fillD).2.pages : CoreTile).tile).all fun x => (rcc fillD true : Recipe).committed
      x || (rcc fillD true : Recipe).checked.contains x) = true ∧ (((rcc fillD true : Recipe).dataSpans
      ((cu fillD : State).reader (tl true (ck1 fillD).2.pages : CoreTile).pages) (tl true (ck1 fillD).2.pages : CoreTile).tile).any fun x => x.pages.any
      fun a => !ahas (tl true (ck1 fillD).2.pages : CoreTile).pages (a / 65536)) = false ∧ (Checked.start (ck1 fillD).2.pages : Checked) = Checked.start
      (tl true (ck1 fillD).2.pages : CoreTile).pages ∧ (Checked.start (ck1 fillD).2.pages : Checked).verdict
      (agetD (cu fillD : State).part.gens (rcc fillD true : Recipe).ctx 0) (cu fillD : State) = SpanCheck.ok ∧ (rcc fillD true : Recipe).fast = false)
    ∧ ((cw fillD : State) = (commitOuts 3 (Checked.start (ck1 fillD).2.pages : Checked).pages (outLines ((rcc fillD true : Recipe).compute
      ((cv fillD : State).reader (Checked.start (ck1 fillD).2.pages : Checked).pages) ((com fillD : State).stageSources (rcc fillD true : Recipe))
      (cv fillD : State).free (tl true (ck1 fillD).2.pages : CoreTile).tile).outs) (cv fillD : State)).fst)
    ∧ (grantWhole (tl true (ck1 fillD).2.pages : CoreTile).pages
      ((rcc fillD true : Recipe).tileSpans ((com fillD : State).stageSources (rcc fillD true : Recipe)) (tl true (ck1 fillD).2.pages : CoreTile).tile)
      (com fillD : State) = ((cg fillD : State), true))
    ∧ (readySpans (AccBy.tile 3 (rcc fillD true : Recipe).slot) (tl true (ck1 fillD).2.pages : CoreTile).pages ((rcc fillD true : Recipe).d.flag 1)
      (spanLines
      ((rcc fillD true : Recipe).tileSpans ((com fillD : State).stageSources (rcc fillD true : Recipe)) (tl true (ck1 fillD).2.pages : CoreTile).tile))
      (cg fillD : State) = ((cu fillD : State), LineReady.ready))
    ∧ (readySpans (AccBy.tile 3 (rcc fillD true : Recipe).slot) (Checked.start (ck1 fillD).2.pages : Checked).pages ((rcc fillD true : Recipe).d.flag 1)
      (spanLines ((rcc fillD true : Recipe).dataSpans ((cu fillD : State).reader (tl true (ck1 fillD).2.pages : CoreTile).pages)
      (tl true (ck1 fillD).2.pages : CoreTile).tile)) (settled (settleTile 3) (rcc fillD true : Recipe).ctx (cu fillD : State)) =
      ((cv fillD : State), LineReady.ready)) :=
  ⟨by decide +kernel, by decide +kernel, by decide +kernel, by decide +kernel, by decide +kernel, by decide +kernel, pairOf rfl rfl, by decide +kernel,
   by decide +kernel, pairOf rfl rfl, pairOf rfl (by decide +kernel), pairOf rfl rfl, by decide +kernel, by decide +kernel, pairOf rfl rfl,
   pairOf rfl (by decide +kernel), pairOf rfl rfl, pairOf rfl (by decide +kernel), pairOf rfl rfl, by decide +kernel, by decide +kernel, by decide +kernel,
   by decide +kernel, by rfl, pairOf rfl (by decide +kernel), pairOf rfl (by decide +kernel), pairOf rfl (by decide +kernel)⟩

set_option maxRecDepth 100000 in
theorem witness_StagesAndEnds :
    (tx.arrived stgP.harg (descOf stgP.body).w2 = [] ∧ (descOf stgP.body).flag 4 = false ∧ tx.recipeWaits tx.recp.nextId = false ∧ arrivalOf
      (tx.stageLine stgP.harg (descOf stgP.body).w2) stgP.harg (descOf stgP.body) false = Arrival.join true false)
    ∧ (xlate (dieOfPort 0) stgP.harg (descOf stgP.body).w2 [0, 1, 3] true vS = (tu, XRes.ok (65536*3 : Nat) 5 1 0))
    ∧ (xlate (dieOfPort 0) stgP.harg (stageEntry (descOf stgP.body).w2 (descOf stgP.body).rank) [0, 1, 3] true tu =
      (tv, XRes.ok (stageEntry (65536*3) 1 : Nat) 5 1 0))
    ∧ (readyAll (AccBy.arrival stgP.src stgP.tag 3) stgP.harg [(descOf stgP.body).w2, stageEntry (descOf stgP.body).w2 (descOf stgP.body).rank] tv =
      (tx, true))
    ∧ ((wr fin : State).frozen = false ∧ (wr fin : State).standby = false ∧ (wr fin : State).recipe 1 = some fin ∧ fin.phase ≠ RecPhase.collecting ∧
      fin.phase ≠ RecPhase.reducing ∧ fin.f ≥ fin.total ∧ (wr fin : State).inFlight 1 = 0)
    ∧ (writeThrough (AccBy.recipe fin.id fin.slot) fin.ctx fin.d.doneAddr (fin.record fin.status) (wr fin : State) =
      (((writeThrough (AccBy.recipe 1 3) 5 1024 (fin.record fin.status) (wr fin)).1 : State), some true))
    ∧ (({ (wr (rec fillD .admission)) with
          obs := { wld.obs with time0 := {wld.obs.time0 with counter := 256 * 10^12 }, time1 := {wld.obs.time1 with counter := 256 * 10^12 } } }.onPower
      fun p => { p with queue := [sg] } : State).frozen = false ∧ ({ (wr (rec fillD .admission)) with
          obs := { wld.obs with time0 := {wld.obs.time0 with counter := 256 * 10^12 }, time1 := {wld.obs.time1 with counter := 256 * 10^12 } } }.onPower
      fun p => { p with queue := [sg] } : State).standby = false ∧ ({ (wr (rec fillD .admission)) with
          obs := { wld.obs with time0 := {wld.obs.time0 with counter := 256 * 10^12 }, time1 := {wld.obs.time1 with counter := 256 * 10^12 } } }.onPower
      fun p => { p with queue := [sg] } : State).recipe 1 = some (rec fillD .admission : Recipe) ∧ ({ (wr (rec fillD .admission)) with
          obs := { wld.obs with time0 := {wld.obs.time0 with counter := 256 * 10^12 }, time1 := {wld.obs.time1 with counter := 256 * 10^12 } } }.onPower
      fun p => { p with queue := [sg] } : State).recipeWaits 1 = true ∧ ({ (wr (rec fillD .admission)) with
          obs := { wld.obs with time0 := {wld.obs.time0 with counter := 256 * 10^12 }, time1 := {wld.obs.time1 with counter := 256 * 10^12 } } }.onPower
      fun p => { p with queue := [sg] } : State).now ≥ (rec fillD .admission : Recipe).askedAt + ({ (wr (rec fillD .admission)) with
          obs := { wld.obs with time0 := {wld.obs.time0 with counter := 256 * 10^12 }, time1 := {wld.obs.time1 with counter := 256 * 10^12 } } }.onPower
      fun p => { p with queue := [sg] } : State).obj Obj.admissionLimit * 1000000 ∧ (rec fillD .admission : Recipe).failed = [])
    ∧ ((wr (rec stgD .collecting) : State).frozen = false ∧ (wr (rec stgD .collecting) : State).standby = false ∧
      (wr (rec stgD .collecting) : State).recipe 1 = some (rec stgD .collecting : Recipe) ∧ (rec stgD .collecting : Recipe).phase = RecPhase.collecting ∧
      (wr (rec stgD .collecting) : State).now ≥ parm
      ((wr (rec stgD .collecting) : State).stageLine (rec stgD .collecting : Recipe).ctx (rec stgD .collecting : Recipe).d.w2) 32 8) :=
  ⟨by decide +kernel, pairOf rfl (by decide +kernel), pairOf rfl (by decide +kernel), pairOf rfl (by decide +kernel), by decide +kernel,
   pairOf rfl (by decide +kernel), by decide +kernel, by decide +kernel⟩

end Sys2Proof.Tests.Recipes

namespace Sys2Proof.Tests.Power
set_option Elab.async false

/-! Witnesses: for every clause of the statements about power, jobs and traffic, a state and operands that meet its hypotheses. -/

def sg (k : SugarKind) (key g : Nat) : Sugar := { 
      kind := k,
      key := key,
      die := 0,
      requested := 100,
      granted := g,
      duration := 10,
      unitMw := 0,
      coreMa := 5,
      reached := 3,
      rt := false,
      askedAt := 0,
      start := 0,
      stop := 0 }
def q (l g : List Sugar) : State := world.onPower fun p => { p with queue := l, grants := g }
def desc : Desc :=
  { code := 1, flags := 0, op := 0, fmtIn := 0, fmtOut := 0, startTile := 0, doneAddr := 1024, w2 := 65536, w3 := 256, w4 := 1, w5 := 0, w6 := 0, w7 := 0 }
def rec : Recipe := { 
      id := 1,
      src := 10,
      tag := 7,
      slot := 3,
      ctx := 5,
      port := 0,
      pkt := pktOf 5 0x50 5 desc.bytes,
      die := 0,
      d := desc,
      phase := .running,
      acceptedAt := 0,
      askedAt := 0,
      total := 1,
      phaseOne := 0,
      next := 0,
      done := [],
      skip := [],
      checked := [],
      failed := [],
      lost := [],
      withLoss := false,
      cancelled := false,
      poison := false,
      poisoned := 0,
      result := 0,
      result2 := 0,
      marks := 0,
      exc := none,
      leader := false,
      params := [],
      parts := [],
      scanBad := 0,
      streamSeq := 0,
      e4m3Nan := false,
      fast := false }
def wr (s : State) : State := s.onRecp fun x => { x with recipes := [rec], nextId := 2 }
def lstep (k key : Nat) : LoadStep := { kind := k, key := key, die := 0, milliAmps := 5, rising := true, started := true }
def bal (n : Nat) : State := world.onPower fun p => { p with ballast := [(0, n)], ballastDown := 7, quietSteps := [(world.now, 3)] }
def fall (l : List LoadStep) : State := ((bal 60001).onPower fun p => { p with ballastTp4 := true }).onPkg fun p =>
  { p with tp4 := true, tp5 := true, step := some (lstep 9 0), stepHeld := l }
def th (l : Nat) : State := world.onPkg fun p =>
  { p with sensors := [((.stack, 1), { milliC := 105000, level := l, above := 1, belowWarn := 0, belowCrit := 0 })] }
def crn : CoreTile := { 
      recipe := 1,
      tile := 0,
      stolen := false,
      checked := false,
      kernel := false,
      handle := 0,
      textLen := 0,
      tray := 0,
      threads := [],
      ending := .running,
      pages := [],
      visited := [] }
def bst : State := (wr world).onCore fun c => { c with cores := [(18 * 3, { Core.reset with run := some crn })] }
def bst2 : State := (bst.onRecp fun r => { r with recipes := [{ rec with d := { rec.d with code := 5 } }] }).onKodp fun k =>
  { k with objs := [(.freqCap, 1900)] }
def pu (u : Nat) (st : PowerSt) (m : UnitMove) : State := world.onPower fun p => { p with units := [(u, {PowerUnit.reset with st := st, move := m})] }
def un (n : Nat) : State := world.onKodp fun k => { k with objs := [(.clusterDeepest, n), (.stackDeepest, n)] }
def pull (u : Nat) (m : UnitMove) : State := (pu u .run m).onDram fun d =>
  { d with channels := (List.range 32).map fun i => ((u - 16) * 32 + i, { Channel.reset with refreshDue := (List.range 32).map fun b => (b, -8) }) }
def jb : State := world.onPower fun p => { p with
      jobs := [{ job := 9, tenant := 5, openAt := 1, openMj := 0, closeAt := 0, closeMj := 0 }],
      timers := [{ job := 9, first := 0, period := 10, lead := 0, units := [1] }, { job := 8, first := 0, period := 10, lead := 0, units := [1] }],
      energyNj := 5 * 10^6 }
def hp : Packet := reqPkt 1 0x10 256 0 0
def hd : Held := { at_ := 0, charge := 1, slots := 2, die := 0, pkt := hp }
def hs : State := jb.onTraffic fun t => { t with holds := [((3, 0, 1), [hd])], inForce := [(.policingEnable, 1)] }
def hu : State := (checkAddressed 0 3 hp (jb.onTraffic fun t => { t with inForce := [(.policingEnable, 1)] })).1

set_option maxRecDepth 100000 in
theorem witness_PowerBudget :
    ((bal 60001 : State).frozen = false ∧ (bal 60001 : State).power.ballastTp4 = false)
    ∧ ((fall [] : State).frozen = false ∧ (fall [] : State).power.ballastTp4 = true ∧ (fall [] : State).pkg.step = some (lstep 9 0 : LoadStep) ∧
      (lstep 9 0 : LoadStep).kind = 9 ∧ (lstep 9 0 : LoadStep).key = 0 ∧ (fall [] : State).pkg.ackStuck = false ∧ (fall [] : State).pkg.warmQual = false ∧
      (fall [] : State).pkg.stepHeld = [])
    ∧ ((fall [lstep 2 1] : State).frozen = false ∧ (fall [lstep 2 1] : State).power.ballastTp4 = true ∧ (fall [lstep 2 1] : State).pkg.step = some
      (lstep 9 0 : LoadStep) ∧ (lstep 9 0 : LoadStep).kind = 9 ∧ (lstep 9 0 : LoadStep).key = 0 ∧ (fall [lstep 2 1] : State).pkg.ackStuck = false ∧
      (fall [lstep 2 1] : State).pkg.warmQual = false ∧ (fall [lstep 2 1] : State).pkg.stepHeld = [(lstep 2 1 : LoadStep)])
    ∧ (lstep 2 1 : LoadStep).kind ≠ 9
    ∧ (bal 0 : State).frozen = false
    ∧ ((bal 0 : State).frozen = false ∧ (Rail.vddAux.least - 1 : Nat) < (.vddAux : Rail).least)
    ∧ (((th 2).onObs fun o => { o with reheat := [0] } : State).frozen = false ∧
      ((th 2).onObs fun o => { o with reheat := [0] } : State).obs.reheat.contains 0 = true)
    ∧ ((th 2 : State).frozen = false ∧ (th 2 : State).obs.reheat.contains 0 = false ∧ 2 ≤ (th 2 : State).thermalLevel)
    ∧ ((th 1 : State).frozen = false ∧ (th 1 : State).obs.reheat.contains 0 = false ∧ (th 1 : State).thermalLevel = 1)
    ∧ (((th 0).onPower fun p => { p with samples := [1500001]} : State).frozen = false ∧
      ((th 0).onPower fun p => { p with samples := [1500001]} : State).obs.reheat.contains 0 = false ∧
      ((th 0).onPower fun p => { p with samples := [1500001]} : State).thermalLevel = 0 ∧ 1500000 <
      ((th 0).onPower fun p => { p with samples := [1500001]} : State).avgMw)
    ∧ (((th 0).onPower fun p => { p with samples := [5], throttle := 3} : State).frozen = false ∧
      ((th 0).onPower fun p => { p with samples := [5], throttle := 3} : State).obs.reheat.contains 0 = false ∧
      ((th 0).onPower fun p => { p with samples := [5], throttle := 3} : State).thermalLevel = 0 ∧
      ((th 0).onPower fun p => { p with samples := [5], throttle := 3} : State).avgMw ≤
      ((th 0).onPower fun p => { p with samples := [5], throttle := 3} : State).sustainedMw ∧
      ((th 0).onPower fun p => { p with samples := [5], throttle := 3} : State).avgMw ≤ 1500000 ∧
      ((th 0).onPower fun p => { p with samples := [5], throttle := 3} : State).power.throttle ≠ 1)
    ∧ (th 0 : State).frozen = false
    ∧ ((q [sg .wake 1 0] [] : State).frozen = false ∧ (q [sg .wake 1 0] [] : State).power.queue = [(sg .wake 1 0 : Sugar)] ∧
      (q [sg .wake 1 0] [] : State).admittable (sg .wake 1 0 : Sugar) = some 100)
    ∧ (bst2.frozen = false ∧ bst2.power.throttle = 0 ∧ 1800 < bst2.obj Obj.freqCap ∧ bst2.runsCompute 3 = true ∧ bst2.power.grants = [] ∧ bst2.power.queue
      = [])
    ∧ (((q [sg .compute 1 0] []).onPower fun p => { p with throttle := 3 } : State).frozen = false ∧
      ((q [sg .compute 1 0] []).onPower fun p => { p with throttle := 3 } : State).power.queue = [(sg .compute 1 0 : Sugar)] ∧
      ((q [sg .compute 1 0] []).onPower fun p => { p with throttle := 3 } : State).admittable (sg .compute 1 0 : Sugar) = none)
    ∧ ((wr (q [] [sg .compute 1 100]) : State).frozen = false ∧ (wr (q [] [sg .compute 1 100]) : State).recipe 1 = some rec ∧
      (wr (q [] [sg .compute 1 100]) : State).recipeGrant 1 = some (sg .compute 1 100 : Sugar) ∧ (wr (q [] [sg .compute 1 100]) : State).recipeWaits 1 =
      false)
    ∧ ((q [] [sg .compute 1 100] : State).frozen = false ∧ (.compute : SugarKind) ≠ SugarKind.wake ∧
      ((.compute : SugarKind) = SugarKind.boost ∨ (q [] [sg .compute 1 100] : State).recipe 1 = none))
    ∧ (List.find? (fun g => g.kind == (.compute : SugarKind) && g.key == 1) (q [] [sg .compute 1 100] : State).power.grants = some
      (sg .compute 1 100 : Sugar))
    ∧ ((wr (q [] [sg .compute 1 100]) : State).frozen = false ∧ (.compute : SugarKind) ≠ SugarKind.wake ∧ (.compute : SugarKind) ≠ SugarKind.boost ∧
      (wr (q [] [sg .compute 1 100]) : State).recipe 1 = some rec ∧ (wr (q [] [sg .compute 1 100]) : State).recipeWaits 1 = false)
    ∧ (List.find? (fun g => g.kind == (.compute : SugarKind) && g.key == 1) (wr (q [] [sg .compute 1 100]) : State).power.grants = some
      (sg .compute 1 100 : Sugar))
    ∧ (wr (q [] [sg .wake 1 100]) : State).frozen = false
    ∧ (List.find? (fun g => g.kind == SugarKind.wake && g.key == 1) (wr (q [] [sg .wake 1 100]) : State).power.grants = some (sg .wake 1 100 : Sugar))
    ∧ (wr (q [] [sg .wake 1 100]) : State).frozen = false
    ∧ (((q [] [sg .wake 1 100]).onPkg fun p => { p with tp4 := true, step := some (lstep 2 1) } : State).frozen = false ∧
      ((q [] [sg .wake 1 100]).onPkg fun p => { p with tp4 := true, step := some (lstep 2 1) } : State).pkg.step = some (lstep 2 1 : LoadStep) ∧
      (lstep 2 1 : LoadStep).kind = (.wake : SugarKind).num ∧ (lstep 2 1 : LoadStep).key = 1 ∧
      ((q [] [sg .wake 1 100]).onPkg fun p => { p with tp4 := true, step := some (lstep 2 1) } : State).pkg.stepHeld = [])
    ∧ (world.frozen = false ∧ world.dueBallast = (0, ([] : List (Nat × Nat))) ∧ world.mustAnnounce 0 = false)
    ∧ ((bal 59998 : State).frozen = false ∧ (bal 59998 : State).dueBallast = (59998, ([] : List (Nat × Nat))) ∧ (bal 59998 : State).mustAnnounce 59998 =
      true ∧ (bal 59998 : State).pkg.tp4 = false ∧ (bal 59998 : State).pkg.ackStuck = false ∧ (bal 59998 : State).pkg.step = none ∧
      (bal 59998 : State).pkg.warmQual = false ∧ (bal 59998 : State).pkg.stepHeld = [])
    ∧ (((bal 59998).onPkg fun p => { p with tp4 := true, step := some (lstep 2 1) } : State).frozen = false ∧
      ((bal 59998).onPkg fun p => { p with tp4 := true, step := some (lstep 2 1) } : State).dueBallast = (59998, ([] : List (Nat × Nat))) ∧
      ((bal 59998).onPkg fun p => { p with tp4 := true, step := some (lstep 2 1) } : State).mustAnnounce 59998 = true ∧
      ((bal 59998).onPkg fun p => { p with tp4 := true, step := some (lstep 2 1) } : State).pkg.tp4 = true) :=
  ⟨by decide +kernel, by decide +kernel, by decide +kernel, by decide +kernel, by decide +kernel, by decide +kernel, by decide +kernel, by decide +kernel,
   by decide +kernel, by decide +kernel, by decide +kernel, by decide +kernel, by decide +kernel, by decide +kernel, by decide +kernel, by decide +kernel,
   by decide +kernel, by decide +kernel, by decide +kernel, by decide +kernel, by decide +kernel, by decide +kernel, by decide +kernel, by decide +kernel,
   by decide +kernel, by decide +kernel, by decide +kernel⟩

theorem witness_PowerUnits :
    ((pu 3 .nap .none : State).frozen = false ∧ (∀ (k : Nat), k < 16 → ((pu 3 .nap .none : State).punit k).move ≠ UnitMove.napHeld) ∧
      (∀ b ∈ (pu 3 .nap .none : State).boot.bringIns, b.woken = true))
    ∧ ((pu 16 .doze (.none) : State).frozen = false ∧ 16 ≤ 16 ∧ 16 < 24 ∧ ((pu 16 .doze (.none) : State).punit 16).st ≠ PowerSt.run ∧
      ((pu 16 .doze (.none) : State).punit 16).move = UnitMove.none)
    ∧ (((pu 3 .nap (.none)).onPower fun p => {p with napUsed := 34000} : State).frozen = false ∧ 3 < 16 ∧
      (((pu 3 .nap (.none)).onPower fun p => {p with napUsed := 34000} : State).punit 3).st = PowerSt.nap ∧
      (((pu 3 .nap (.none)).onPower fun p => {p with napUsed := 34000} : State).punit 3).move = UnitMove.none ∧
      ((pu 3 .nap (.none)).onPower fun p => {p with napUsed := 34000} : State).power.napUsed ≤ 34000)
    ∧ (((pu 3 .nap (.none)).onPower fun p => {p with napUsed := 34001} : State).frozen = false ∧ 3 < 16 ∧
      (((pu 3 .nap (.none)).onPower fun p => {p with napUsed := 34001} : State).punit 3).st = PowerSt.nap ∧
      (((pu 3 .nap (.none)).onPower fun p => {p with napUsed := 34001} : State).punit 3).move = UnitMove.none ∧ 34000 <
      ((pu 3 .nap (.none)).onPower fun p => {p with napUsed := 34001} : State).power.napUsed)
    ∧ ((pu 3 .nap (.waking) : State).frozen = false ∧ 3 < 24 ∧ ((pu 3 .nap (.waking) : State).punit 3).move = UnitMove.waking ∧
      ((pu 3 .nap (.waking) : State).punit 3).event = false ∧ (3 < 16 → ((pu 3 .nap (.waking) : State).punit 3).st = PowerSt.doze ∨
      ((pu 3 .nap (.waking) : State).punit 3).st = PowerSt.deep →
      ((pu 3 .nap (.waking) : State).power.grants.any fun g => g.kind == SugarKind.wake && g.key == 3 && g.full) = true))
    ∧ ((pu 3 .doze (.waking) : State).frozen = false ∧ 3 < 16 ∧ ((pu 3 .doze (.waking) : State).punit 3).move = UnitMove.waking ∧
      ((pu 3 .doze (.waking) : State).punit 3).st = PowerSt.doze ∧ (pu 3 .doze (.waking) : State).power.grants = [])
    ∧ ((pu 3 .nap .napHeld : State).frozen = false ∧ 3 < 16 ∧
      (∀ (k : Nat), k < 16 → (((pu 3 .nap .napHeld : State).punit k).move = UnitMove.napHeld ↔ k = 3)) ∧
      (∀ b ∈ (pu 3 .nap .napHeld : State).boot.bringIns, b.woken = true) ∧ (pu 3 .nap .napHeld : State).power.napUsed ≤ 40000)
    ∧ ((un 0 : State).frozen = false ∧ 3 < 24 ∧ ((un 0 : State).punit 3).st = PowerSt.run ∧ ((un 0 : State).punit 3).move = UnitMove.none ∧
      (un 0 : State).unitIdle 3 = true ∧ (un 0 : State).deepest 3 = 0)
    ∧ (((un 3).onPower fun p => {p with units := [(3, {PowerUnit.reset with quiet := 10^15})]} : State).frozen = false ∧ 3 < 24 ∧
      (((un 3).onPower fun p => {p with units := [(3, {PowerUnit.reset with quiet := 10^15})]} : State).punit 3).st = PowerSt.run ∧
      (((un 3).onPower fun p => {p with units := [(3, {PowerUnit.reset with quiet := 10^15})]} : State).punit 3).move = UnitMove.none ∧
      ((un 3).onPower fun p => {p with units := [(3, {PowerUnit.reset with quiet := 10^15})]} : State).unitIdle 3 = true ∧ 3 ≤
      ((un 3).onPower fun p => {p with units := [(3, {PowerUnit.reset with quiet := 10^15})]} : State).deepest 3 ∧ (unitTimes 3 PowerSt.deep).fst +
      (unitTimes 3 PowerSt.deep).snd.fst + (unitTimes 3 PowerSt.deep).snd.snd ≤
      ((un 3).onPower fun p => {p with units := [(3, {PowerUnit.reset with quiet := 10^15})]} : State).tNext 3 PowerSt.deep)
    ∧ ((world.onRecp fun r => {r with queues := [(3, [{recipe := 1, tile := 0, stolen := false}])]} : State).frozen = false ∧ 3 < 24 ∧
      (world.onRecp fun r => {r with queues := [(3, [{recipe := 1, tile := 0, stolen := false}])]} : State).unitIdle 3 = false)
    ∧ ((pu 16 .nap .none : State).frozen = false ∧ 16 ≤ 16 ∧ 16 < 24 ∧ ((pu 16 .nap .none : State).punit 16).st ≠ PowerSt.run ∧
      ((pu 16 .nap .none : State).punit 16).move = UnitMove.none)
    ∧ ((pull 16 (.entering .nap) : State).frozen = false ∧ 16 < 24 ∧ ((pull 16 (.entering .nap) : State).punit 16).move = UnitMove.entering
      (.nap : PowerSt) ∧ (16 < 16 ∨ (.nap : PowerSt) = PowerSt.deep ∨ (pull 16 (.entering .nap) : State).pulledIn (16 - 16) = true))
    ∧ ((pull 16 (.enteringWake .nap) : State).frozen = false ∧ 16 ≤ 16 ∧ 16 < 24 ∧ ((pull 16 (.enteringWake .nap) : State).punit 16).move =
      UnitMove.enteringWake (.nap : PowerSt) ∧ ((.nap : PowerSt) = PowerSt.deep ∨ (pull 16 (.enteringWake .nap) : State).pulledIn (16 - 16) = true))
    ∧ ((pu 16 .run (.entering .nap) : State).frozen = false ∧ 16 ≤ 16 ∧ 16 < 24 ∧ ((pu 16 .run (.entering .nap) : State).punit 16).move = UnitMove.entering
      (.nap : PowerSt) ∧ (.nap : PowerSt) ≠ PowerSt.deep ∧ (pu 16 .run (.entering .nap) : State).pulledIn (16 - 16) = false)
    ∧ ((pu 3 .run (.none) : State).frozen = false ∧ 3 < 24 ∧ ((pu 3 .run (.none) : State).punit 3).st = PowerSt.run ∧
      ((pu 3 .run (.none) : State).punit 3).move = UnitMove.none) :=
  ⟨by decide +kernel, by decide +kernel, by decide +kernel, by decide +kernel, by decide +kernel, by decide +kernel, by decide +kernel, by decide +kernel,
   by decide +kernel, by decide +kernel, by decide +kernel, by decide +kernel, by decide +kernel, by decide +kernel, by decide +kernel⟩

set_option maxRecDepth 100000 in
theorem witness_JobsAndTraffic :
    (1023 ≤ 1023 ∧ jb.jobOpen 8 = false ∧ jb.accepts (cmdObj 7456 1 rolePm) rP 4 (leBytes 4 8 ++ leBytes 2 1023) = true)
    ∧ ((List.filter (fun j => j.closeAt == 0) jb.power.jobs).length < 1024)
    ∧ (jb.jobOpen 9 = true ∧ jb.accepts (cmdObj 7456 2 rolePm) rP 4 (leBytes 4 9) = true)
    ∧ (jb.jobOpen 8 = false ∧ jb.accepts (cmdObj 7456 2 rolePm) rP 4 (leBytes 4 8) = true)
    ∧ (1 < 2 ^ 16 ∧ 0 < 2 ^ 8 ∧ jb.accepts (cmdObj 7456 3 rolePm) rP 2 (leBytes 2 1 ++ leBytes 1 0 ++ leBytes 8 0) = true)
    ∧ (1 < 2 ^ 16 ∧ 1 < 2 ^ 8 ∧ (0 = 0 ∨ 10 ≤ 0 ∧ 0 ≤ 10000000) ∧ jb.jobOpen 9 = true ∧ jb.accepts (cmdObj 7456 4 rolePm) rP 4
      (leBytes 4 9 ++ leBytes 8 5 ++ leBytes 4 0 ++ leBytes 4 3 ++ leBytes 2 1 ++ leBytes 1 1) = true)
    ∧ ((jb.onTwin fun t => {t with paused := true} : State).frozen = false ∧ (jb.onTwin fun t => {t with paused := true} : State).twin.paused = true)
    ∧ (jb.frozen = false ∧ jb.twin.paused = false ∧ jb.traffic.holds = [])
    ∧ (hs.frozen = false ∧ hs.live Obj.policingEnable ≠ 0 ∧ hs.twin.paused = false ∧ hs.twin.quiescing = false ∧ hs.fw.act ≠ Activation.pause ∧ agetD
      hs.traffic.holds (3, 0, 1) [] = [hd] ∧ hd.pkt.op = 16 ∧ checkAddressed 0 3 hd.pkt { 
          pkg := hs.pkg,
          link := hs.link,
          txn := hs.txn,
          part := hs.part,
          dir := hs.dir,
          mem := hs.mem,
          dram := hs.dram,
          deep := hs.deep,
          integ := hs.integ,
          recp := hs.recp,
          core := hs.core,
          twin := hs.twin,
          traffic := have __src := hs.traffic; { 
                ingress := __src.ingress,
                egress := __src.egress,
                rtPort := __src.rtPort,
                leaves := __src.leaves,
                lastLeaf := __src.lastLeaf,
                turn := __src.turn,
                deficit := __src.deficit,
                holds := adel hs.traffic.holds (3, 0, 1),
                histos := __src.histos,
                clears := __src.clears,
                inForce := __src.inForce,
                profiles := __src.profiles,
                assign := __src.assign,
                observe := __src.observe },
          power := hs.power,
          sec := hs.sec,
          boot := hs.boot,
          fw := hs.fw,
          obs := hs.obs,
          kodp := hs.kodp,
          ctrs := hs.ctrs,
          free := hs.free,
          out := hs.out,
          pending := hs.pending } = (hu, XRes.ok 256 5 1 0))
    ∧ hs.frozen = false
    ∧ (hs.frozen = false ∧ (8191 < 8192 ∨ 8191 = 65535) ∧ hs.accepts (cmdObj 7216 1 (roleOp + rolePm)) rP 2 (leBytes 2 8191) = true) :=
  ⟨by decide +kernel, by decide +kernel, by decide +kernel, by decide +kernel, by decide +kernel, by decide +kernel, by decide +kernel, by decide +kernel,
   by decide +kernel, by decide +kernel, by decide +kernel⟩

end Sys2Proof.Tests.Power

namespace Sys2Proof.Tests.Scalar
set_option Elab.async false

/-! Witnesses: for every clause of the statements about scalar instructions and threads, a state and operands that meet its hypotheses. -/

def k1 : State := kern [(0, thr), (1, thr)]
def t1 : CoreTile := kTile [(0, thr), (1, thr)]
def accL : Access := { n := 0, addr := 264, pa := 264, tenant := 5, keyId := 1, tier := 0, major := 0x1A, pc := 1, kind := .load 9 4 true }
def thrAc : Thread := { thr with accesses := [accL], nextAcc := 1 }
def exL : Exc := { cause := 1, thread := 0, pc := 2, major := 0x1A, detail := 9 }
def thrLa : Thread := { thr with late := [(exL, 9)] }
def kx (l : Assoc Nat Thread) : State := kern l
def tx (l : Assoc Nat Thread) : CoreTile := kTile l

theorem witness_AluOps :
    (k1.liveThread 3 0 = some (t1, thr) ∧ (thr.late.all fun e => !([9, 1, 2] : List Nat).contains e.snd) = true ∧
      (thr.accesses.all fun a => a.kind.dests.all fun d => d == 0 || !([9, 1, 2] : List Nat).contains d) = true ∧ thr.pc + 1 < t1.textLen / 4)
    ∧ (((.aluAdd 3 0 9 1 2 : Instr), (.add : AluOp)) ∈ [(Instr.aluAdd 3 0 9 1 2, AluOp.add), (Instr.aluSub 3 0 9 1 2, AluOp.sub),
      (Instr.aluMul 3 0 9 1 2, AluOp.mul), (Instr.aluMulh 3 0 9 1 2, AluOp.mulh), (Instr.aluMulhu 3 0 9 1 2, AluOp.mulhu),
      (Instr.aluDiv 3 0 9 1 2, AluOp.div), (Instr.aluDivu 3 0 9 1 2, AluOp.divu), (Instr.aluRem 3 0 9 1 2, AluOp.rem),
      (Instr.aluRemu 3 0 9 1 2, AluOp.remu), (Instr.aluAnd 3 0 9 1 2, AluOp.and), (Instr.aluOr 3 0 9 1 2, AluOp.or), (Instr.aluXor 3 0 9 1 2, AluOp.xor),
      (Instr.aluSll 3 0 9 1 2, AluOp.sll), (Instr.aluSrl 3 0 9 1 2, AluOp.srl), (Instr.aluSra 3 0 9 1 2, AluOp.sra), (Instr.aluSlt 3 0 9 1 2, AluOp.slt),
      (Instr.aluSltu 3 0 9 1 2, AluOp.sltu), (Instr.aluMin 3 0 9 1 2, AluOp.min), (Instr.aluMax 3 0 9 1 2, AluOp.max),
      (Instr.aluMinu 3 0 9 1 2, AluOp.minu), (Instr.aluMaxu 3 0 9 1 2, AluOp.maxu)]) :=
  ⟨by decide +kernel, List.Mem.head _⟩

theorem witness_AluCorners :
    (3 : Word64) ≠ 0 :=
  by decide +kernel

theorem witness_ScalarMoves :
    (k1.liveThread 3 0 = some (t1, thr) ∧ (thr.late.all fun e => !([] : List Nat).contains e.snd) = true ∧
      (thr.accesses.all fun a => a.kind.dests.all fun d => d == 0 || !([] : List Nat).contains d) = true ∧ thr.pc + 1 < t1.textLen / 4)
    ∧ 0 < 9
    ∧ (k1.liveThread 3 0 = some (t1, thr) ∧ (thr.late.all fun e => !([9, 2] : List Nat).contains e.snd) = true ∧
      (thr.accesses.all fun a => a.kind.dests.all fun d => d == 0 || !([9, 2] : List Nat).contains d) = true ∧ thr.pc + 1 < t1.textLen / 4)
    ∧ (((.ori 3 0 9 2 (-5) : Instr), (.or : AluOp), (-5 : Int)) ∈ [(Instr.addi 3 0 9 2 (-5 : Int), AluOp.add, (-5 : Int)),
      (Instr.andi 3 0 9 2 (-5 : Int), AluOp.and, (-5 : Int)), (Instr.ori 3 0 9 2 (-5 : Int), AluOp.or, (-5 : Int)),
      (Instr.xori 3 0 9 2 (-5 : Int), AluOp.xor, (-5 : Int)), (Instr.slti 3 0 9 2 (-5 : Int), AluOp.slt, (-5 : Int)),
      (Instr.shiSll 3 0 9 2 5, AluOp.sll, (↑5 : Int)), (Instr.shiSrl 3 0 9 2 5, AluOp.srl, (↑5 : Int)), (Instr.shiSra 3 0 9 2 5, AluOp.sra, (↑5 : Int))])
    ∧ (k1.liveThread 3 0 = some (t1, thr) ∧ (thr.late.all fun e => !([9] : List Nat).contains e.snd) = true ∧
      (thr.accesses.all fun a => a.kind.dests.all fun d => d == 0 || !([9] : List Nat).contains d) = true ∧ thr.pc + 1 < t1.textLen / 4)
    ∧ (k1.liveThread 3 0 = some (t1, thr) ∧ (thr.late.all fun e => !([9, 2] : List Nat).contains e.snd) = true ∧
      (thr.accesses.all fun a => a.kind.dests.all fun d => d == 0 || !([9, 2] : List Nat).contains d) = true ∧ thr.pc + 1 < t1.textLen / 4)
    ∧ (k1.liveThread 3 0 = some (t1, thr) ∧ (thr.late.all fun e => !([9, vReg 2] : List Nat).contains e.snd) = true ∧
      (thr.accesses.all fun a => a.kind.dests.all fun d => d == 0 || !([9, vReg 2] : List Nat).contains d) = true ∧ thr.pc + 1 < t1.textLen / 4)
    ∧ (k1.liveThread 3 0 = some (t1, thr) ∧ (thr.late.all fun e => !([9, aReg 2] : List Nat).contains e.snd) = true ∧
      (thr.accesses.all fun a => a.kind.dests.all fun d => d == 0 || !([9, aReg 2] : List Nat).contains d) = true ∧ thr.pc + 1 < t1.textLen / 4)
    ∧ (k1.liveThread 3 0 = some (t1, thr) ∧ (thr.late.all fun e => !([9, pReg 2] : List Nat).contains e.snd) = true ∧
      (thr.accesses.all fun a => a.kind.dests.all fun d => d == 0 || !([9, pReg 2] : List Nat).contains d) = true ∧ thr.pc + 1 < t1.textLen / 4)
    ∧ ((thr.xr 2).snd = false ∧ k1.liveThread 3 0 = some (t1, thr) ∧ (thr.late.all fun e => !([2, pReg 1] : List Nat).contains e.snd) = true ∧
      (thr.accesses.all fun a => a.kind.dests.all fun d => d == 0 || !([2, pReg 1] : List Nat).contains d) = true ∧ thr.pc + 1 < t1.textLen / 4)
    ∧ ((thr.xr 4).snd = true ∧ k1.liveThread 3 0 = some (t1, thr) ∧ (thr.late.all fun e => !([4, pReg 1] : List Nat).contains e.snd) = true ∧
      (thr.accesses.all fun a => a.kind.dests.all fun d => d == 0 || !([4, pReg 1] : List Nat).contains d) = true) :=
  ⟨by decide +kernel, by decide +kernel, by decide +kernel, List.Mem.tail _ (List.Mem.tail _ (List.Mem.head _)), by decide +kernel, by decide +kernel,
   by decide +kernel, by decide +kernel, by decide +kernel, by decide +kernel, by decide +kernel⟩

set_option maxRecDepth 100000 in
theorem witness_BranchesAndJumps :
    ((thr.xr 1).snd = false ∧ (thr.xr 1).snd = false ∧ (↑thr.pc : Int) + (-3 : Int) = (↑0 : Int) ∧ k1.liveThread 3 0 = some (t1, thr) ∧
      (thr.late.all fun e => !([1, 1] : List Nat).contains e.snd) = true ∧
      (thr.accesses.all fun a => a.kind.dests.all fun d => d == 0 || !([1, 1] : List Nat).contains d) = true ∧ 0 < t1.textLen / 4)
    ∧ (((.beq 3 0 1 1 (-3) : Instr), (fun a b => decide (a = b) : Word64 → Word64 → Bool), 0x0A) ∈
      [(Instr.beq 3 0 1 1 (-3 : Int), fun a b => decide (a = b), 10), (Instr.bne 3 0 1 1 (-3 : Int), fun a b => decide (a ≠ b), 11),
      (Instr.blt 3 0 1 1 (-3 : Int), fun a b => decide (BitVec.toInt a < BitVec.toInt b), 12),
      (Instr.bge 3 0 1 1 (-3 : Int), fun a b => decide (BitVec.toInt b ≤ BitVec.toInt a), 13),
      (Instr.bltu 3 0 1 1 (-3 : Int), fun a b => decide (BitVec.toNat a < BitVec.toNat b), 14),
      (Instr.bgeu 3 0 1 1 (-3 : Int), fun a b => decide (BitVec.toNat b ≤ BitVec.toNat a), 15)])
    ∧ ((fun a b => decide (a = b) : Word64 → Word64 → Bool) (thr.xr 1).fst (thr.xr 1).fst = true)
    ∧ ((thr.xr 1).snd = false ∧ (thr.xr 2).snd = false ∧ k1.liveThread 3 0 = some (t1, thr) ∧ (thr.late.all fun e => !([1, 2] : List Nat).contains e.snd) =
      true ∧ (thr.accesses.all fun a => a.kind.dests.all fun d => d == 0 || !([1, 2] : List Nat).contains d) = true ∧ thr.pc + 1 < t1.textLen / 4)
    ∧ (((.beq 3 0 1 2 (96) : Instr), (fun a b => decide (a = b) : Word64 → Word64 → Bool), 0x0A) ∈
      [(Instr.beq 3 0 1 2 (96 : Int), fun a b => decide (a = b), 10), (Instr.bne 3 0 1 2 (96 : Int), fun a b => decide (a ≠ b), 11),
      (Instr.blt 3 0 1 2 (96 : Int), fun a b => decide (BitVec.toInt a < BitVec.toInt b), 12),
      (Instr.bge 3 0 1 2 (96 : Int), fun a b => decide (BitVec.toInt b ≤ BitVec.toInt a), 13),
      (Instr.bltu 3 0 1 2 (96 : Int), fun a b => decide (BitVec.toNat a < BitVec.toNat b), 14),
      (Instr.bgeu 3 0 1 2 (96 : Int), fun a b => decide (BitVec.toNat b ≤ BitVec.toNat a), 15)])
    ∧ ((fun a b => decide (a = b) : Word64 → Word64 → Bool) (thr.xr 1).fst (thr.xr 2).fst = false)
    ∧ ((thr.xr 1).snd = false ∧ (thr.xr 1).snd = false ∧ ((↑thr.pc : Int) + (97 : Int) < 0 ∨ (↑thr.pc : Int) + (97 : Int) ≥ (↑(t1.textLen / 4) : Int)) ∧
      k1.liveThread 3 0 = some (t1, thr) ∧ (thr.late.all fun e => !([1, 1] : List Nat).contains e.snd) = true ∧
      (thr.accesses.all fun a => a.kind.dests.all fun d => d == 0 || !([1, 1] : List Nat).contains d) = true)
    ∧ (((.beq 3 0 1 1 (97) : Instr), (fun a b => decide (a = b) : Word64 → Word64 → Bool), 0x0A) ∈
      [(Instr.beq 3 0 1 1 (97 : Int), fun a b => decide (a = b), 10), (Instr.bne 3 0 1 1 (97 : Int), fun a b => decide (a ≠ b), 11),
      (Instr.blt 3 0 1 1 (97 : Int), fun a b => decide (BitVec.toInt a < BitVec.toInt b), 12),
      (Instr.bge 3 0 1 1 (97 : Int), fun a b => decide (BitVec.toInt b ≤ BitVec.toInt a), 13),
      (Instr.bltu 3 0 1 1 (97 : Int), fun a b => decide (BitVec.toNat a < BitVec.toNat b), 14),
      (Instr.bgeu 3 0 1 1 (97 : Int), fun a b => decide (BitVec.toNat b ≤ BitVec.toNat a), 15)])
    ∧ ((fun a b => decide (a = b) : Word64 → Word64 → Bool) (thr.xr 1).fst (thr.xr 1).fst = true)
    ∧ (((thr.xr 4).snd || (thr.xr 1).snd) = true ∧ k1.liveThread 3 0 = some (t1, thr) ∧ (thr.late.all fun e => !([4, 1] : List Nat).contains e.snd) = true
      ∧ (thr.accesses.all fun a => a.kind.dests.all fun d => d == 0 || !([4, 1] : List Nat).contains d) = true)
    ∧ (((.beq 3 0 4 1 (-4) : Instr), (fun a b => decide (a = b) : Word64 → Word64 → Bool), 0x0A) ∈
      [(Instr.beq 3 0 4 1 (-4 : Int), fun a b => decide (a = b), 10), (Instr.bne 3 0 4 1 (-4 : Int), fun a b => decide (a ≠ b), 11),
      (Instr.blt 3 0 4 1 (-4 : Int), fun a b => decide (BitVec.toInt a < BitVec.toInt b), 12),
      (Instr.bge 3 0 4 1 (-4 : Int), fun a b => decide (BitVec.toInt b ≤ BitVec.toInt a), 13),
      (Instr.bltu 3 0 4 1 (-4 : Int), fun a b => decide (BitVec.toNat a < BitVec.toNat b), 14),
      (Instr.bgeu 3 0 4 1 (-4 : Int), fun a b => decide (BitVec.toNat b ≤ BitVec.toNat a), 15)])
    ∧ ((↑thr.pc : Int) + (-2 : Int) = (↑1 : Int) ∧ k1.liveThread 3 0 = some (t1, thr) ∧ (thr.late.all fun e => !([9] : List Nat).contains e.snd) = true ∧
      (thr.accesses.all fun a => a.kind.dests.all fun d => d == 0 || !([9] : List Nat).contains d) = true ∧ 1 < t1.textLen / 4)
    ∧ ((thr.xr 1).snd = false ∧ k1.liveThread 3 0 = some (t1, thr) ∧ (thr.late.all fun e => !([9, 1] : List Nat).contains e.snd) = true ∧
      (thr.accesses.all fun a => a.kind.dests.all fun d => d == 0 || !([9, 1] : List Nat).contains d) = true ∧ effAddr (thr.xr 1).fst (-2 : Int) <
      t1.textLen / 4)
    ∧ ((thr.xr 4).snd = true ∧ k1.liveThread 3 0 = some (t1, thr) ∧ (thr.late.all fun e => !([1, 4] : List Nat).contains e.snd) = true ∧
      (thr.accesses.all fun a => a.kind.dests.all fun d => d == 0 || !([1, 4] : List Nat).contains d) = true)
    ∧ ((↑thr.pc : Int) + (5 : Int) = (↑8 : Int) ∧ thr.pr 0 ≠ 0 ∧ k1.liveThread 3 0 = some (t1, thr) ∧
      (thr.late.all fun e => !([pReg 0] : List Nat).contains e.snd) = true ∧
      (thr.accesses.all fun a => a.kind.dests.all fun d => d == 0 || !([pReg 0] : List Nat).contains d) = true ∧ 8 < t1.textLen / 4)
    ∧ ((↑thr.pc : Int) + (5 : Int) = (↑8 : Int) ∧ thr.pr 2 = 0 ∧ k1.liveThread 3 0 = some (t1, thr) ∧
      (thr.late.all fun e => !([pReg 2] : List Nat).contains e.snd) = true ∧
      (thr.accesses.all fun a => a.kind.dests.all fun d => d == 0 || !([pReg 2] : List Nat).contains d) = true ∧ thr.pc + 1 < t1.textLen / 4)
    ∧ ((↑thr.pc : Int) + (5 : Int) = (↑8 : Int) ∧ thr.pr 2 = 0 ∧ k1.liveThread 3 0 = some (t1, thr) ∧
      (thr.late.all fun e => !([pReg 2] : List Nat).contains e.snd) = true ∧
      (thr.accesses.all fun a => a.kind.dests.all fun d => d == 0 || !([pReg 2] : List Nat).contains d) = true ∧ 8 < t1.textLen / 4)
    ∧ ((↑thr.pc : Int) + (5 : Int) = (↑8 : Int) ∧ thr.pr 0 ≠ 0 ∧ k1.liveThread 3 0 = some (t1, thr) ∧
      (thr.late.all fun e => !([pReg 0] : List Nat).contains e.snd) = true ∧
      (thr.accesses.all fun a => a.kind.dests.all fun d => d == 0 || !([pReg 0] : List Nat).contains d) = true ∧ thr.pc + 1 < t1.textLen / 4)
    ∧ ((↑thr.pc : Int) + (5 : Int) = (↑8 : Int) ∧ thr.pr 0 = BitVec.allOnes 64 ∧ k1.liveThread 3 0 = some (t1, thr) ∧
      (thr.late.all fun e => !([pReg 0] : List Nat).contains e.snd) = true ∧
      (thr.accesses.all fun a => a.kind.dests.all fun d => d == 0 || !([pReg 0] : List Nat).contains d) = true ∧ 8 < t1.textLen / 4)
    ∧ ((↑thr.pc : Int) + (5 : Int) = (↑8 : Int) ∧ thr.pr 1 ≠ BitVec.allOnes 64 ∧ k1.liveThread 3 0 = some (t1, thr) ∧
      (thr.late.all fun e => !([pReg 1] : List Nat).contains e.snd) = true ∧
      (thr.accesses.all fun a => a.kind.dests.all fun d => d == 0 || !([pReg 1] : List Nat).contains d) = true ∧ thr.pc + 1 < t1.textLen / 4) :=
  ⟨by decide +kernel, List.Mem.head _, by decide +kernel, by decide +kernel, List.Mem.head _, by decide +kernel, by decide +kernel, List.Mem.head _,
   by decide +kernel, by decide +kernel, List.Mem.head _, by decide +kernel, by decide +kernel, by decide +kernel, by decide +kernel, by decide +kernel,
   by decide +kernel, by decide +kernel, by decide +kernel, by decide +kernel⟩

set_option maxRecDepth 100000 in
theorem witness_ThreadControl :
    (thr.late = [] ∧ thr.accesses = [] ∧ (kx [(0, thr), (1, thr)] : State).liveThread 3 0 = some ((tx [(0, thr), (1, thr)] : CoreTile), thr) ∧
      (thr.late.all fun e => !([] : List Nat).contains e.snd) = true ∧
      (thr.accesses.all fun a => a.kind.dests.all fun d => d == 0 || !([] : List Nat).contains d) = true ∧ thr.pc + 1 <
      (tx [(0, thr), (1, thr)] : CoreTile).textLen / 4)
    ∧ ((thr.xr 4).snd = true ∧ (kx [(0, thr), (1, thr)] : State).liveThread 3 0 = some ((tx [(0, thr), (1, thr)] : CoreTile), thr) ∧
      (thr.late.all fun e => !([4] : List Nat).contains e.snd) = true ∧
      (thr.accesses.all fun a => a.kind.dests.all fun d => d == 0 || !([4] : List Nat).contains d) = true)
    ∧ (thrAc.late = [] ∧ thrAc.accesses ≠ [] ∧ (kx [(0, thrAc), (1, thr)] : State).liveThread 3 0 = some ((tx [(0, thrAc), (1, thr)] : CoreTile), thrAc))
    ∧ (thrLa.late = ((exL, 9) : Exc × Nat) :: ([] : List (Exc × Nat)) ∧ (kx [(0, thrLa), (1, thr)] : State).liveThread 3 0 = some
      ((tx [(0, thrLa), (1, thr)] : CoreTile), thrLa))
    ∧ ((.barf 3 0 : Instr) ∈ [Instr.fence 3 0, Instr.barf 3 0, Instr.texit 3 0])
    ∧ ((kx [(0, thr), (1, thr)] : State).liveThread 3 0 = some ((tx [(0, thr), (1, thr)] : CoreTile), thr) ∧
      (thr.late.all fun e => !([] : List Nat).contains e.snd) = true ∧
      (thr.accesses.all fun a => a.kind.dests.all fun d => d == 0 || !([] : List Nat).contains d) = true ∧ thr.pc + 1 <
      (tx [(0, thr), (1, thr)] : CoreTile).textLen / 4 ∧
      (∃ y, y ∈ (tx [(0, thr), (1, thr)] : CoreTile).threads ∧ y.fst ≠ 0 ∧ y.snd.exited = false ∧ y.snd.atBar = false) ∧
      (List.map Prod.fst (tx [(0, thr), (1, thr)] : CoreTile).threads).Nodup)
    ∧ ((.bar 3 0 : Instr) = Instr.bar 3 0 ∨ (.bar 3 0 : Instr) = Instr.barf 3 0 ∧ thr.late = [] ∧ thr.accesses = [])
    ∧ ((kx [(0, thr)] : State).liveThread 3 0 = some ((tx [(0, thr)] : CoreTile), thr) ∧ (thr.late.all fun e => !([] : List Nat).contains e.snd) = true ∧
      (thr.accesses.all fun a => a.kind.dests.all fun d => d == 0 || !([] : List Nat).contains d) = true ∧ thr.pc + 1 < (tx [(0, thr)] : CoreTile).textLen
      / 4 ∧ (∀ y ∈ (tx [(0, thr)] : CoreTile).threads, y.fst ≠ 0 → y.snd.exited = true ∨ y.snd.atBar = true))
    ∧ ((.bar 3 0 : Instr) = Instr.bar 3 0 ∨ (.bar 3 0 : Instr) = Instr.barf 3 0 ∧ thr.late = [] ∧ thr.accesses = [])
    ∧ (thr.late = [] ∧ (kx [(0, thr), (1, thr)] : State).liveThread 3 0 = some ((tx [(0, thr), (1, thr)] : CoreTile), thr) ∧
      (∃ y, y ∈ (tx [(0, thr), (1, thr)] : CoreTile).threads ∧ y.fst ≠ 0 ∧ y.snd.exited = false) ∧
      (List.map Prod.fst (tx [(0, thr), (1, thr)] : CoreTile).threads).Nodup)
    ∧ (thr.late = [] ∧ (kx [(0, thr)] : State).liveThread 3 0 = some ((tx [(0, thr)] : CoreTile), thr) ∧ (tx [(0, thr)] : CoreTile).threads = [(0, thr)] ∧
      thr.accesses = [])
    ∧ ((kx [(0, thr), (1, thr)] : State).liveThread 3 0 = some ((tx [(0, thr), (1, thr)] : CoreTile), thr) ∧
      (thr.late.all fun e => !([0] : List Nat).contains e.snd) = true ∧
      (thr.accesses.all fun a => a.kind.dests.all fun d => d == 0 || !([0] : List Nat).contains d) = true)
    ∧ ((thr.xr 0).snd = false ∧ (kx [(0, thr), (1, thr)] : State).liveThread 3 0 = some ((tx [(0, thr), (1, thr)] : CoreTile), thr) ∧
      (thr.late.all fun e => !([0] : List Nat).contains e.snd) = true ∧
      (thr.accesses.all fun a => a.kind.dests.all fun d => d == 0 || !([0] : List Nat).contains d) = true ∧ thr.pc + 1 <
      (tx [(0, thr), (1, thr)] : CoreTile).textLen / 4) :=
  ⟨by decide +kernel, by decide +kernel, by decide +kernel, by decide +kernel, List.Mem.tail _ (List.Mem.head _), by decide +kernel, by decide +kernel,
   by decide +kernel, by decide +kernel, by decide +kernel, by decide +kernel, by decide +kernel, by decide +kernel⟩

end Sys2Proof.Tests.Scalar

namespace Sys2Proof.Tests.Vector
set_option Elab.async false

/-! Witnesses: for every clause of the statements about vector instructions, a state and operands that meet its hypotheses. -/

def k1 : State := kern [(0, thr), (1, thr)]
def t1 : CoreTile := kTile [(0, thr), (1, thr)]

theorem witness_VectorArith :
    (Fmt.ofReg 0 = some (.int64 : Fmt) ∧ (Fmt.plainVec .int64 : Bool) = true ∧ k1.liveThread 3 0 = some (t1, thr) ∧
      (thr.late.all fun e => !([vReg 9, pReg 1, vReg 1, vReg 2] : List Nat).contains e.snd) = true ∧
      (thr.accesses.all fun a => a.kind.dests.all fun d => d == 0 || !([vReg 9, pReg 1, vReg 1, vReg 2] : List Nat).contains d) = true ∧ thr.pc + 1 <
      t1.textLen / 4)
    ∧ (((.varithAdd 3 0 9 1 2 1 0 : Instr), (.add : VOp), (Fmt.plainVec .int64 : Bool)) ∈
      [(Instr.varithAdd 3 0 9 1 2 1 0, VOp.add, (.int64 : Fmt).plainVec), (Instr.varithSub 3 0 9 1 2 1 0, VOp.sub, (.int64 : Fmt).plainVec),
      (Instr.varithMul 3 0 9 1 2 1 0, VOp.mul, (.int64 : Fmt).plainVec), (Instr.varithMin 3 0 9 1 2 1 0, VOp.min, (.int64 : Fmt).plainVec),
      (Instr.varithMax 3 0 9 1 2 1 0, VOp.max, (.int64 : Fmt).plainVec), (Instr.varithAnd 3 0 9 1 2 1 0, VOp.and, (.int64 : Fmt).isInt),
      (Instr.varithOr 3 0 9 1 2 1 0, VOp.or, (.int64 : Fmt).isInt), (Instr.varithXor 3 0 9 1 2 1 0, VOp.xor, (.int64 : Fmt).isInt),
      (Instr.varithShl 3 0 9 1 2 1 0, VOp.shl, (.int64 : Fmt).isInt), (Instr.varithShr 3 0 9 1 2 1 0, VOp.shr, (.int64 : Fmt).isInt),
      (Instr.varithSar 3 0 9 1 2 1 0, VOp.sar, (.int64 : Fmt).isInt), (Instr.varithDiv 3 0 9 1 2 1 0, VOp.div, (.int64 : Fmt).divides)])
    ∧ (Fmt.ofReg 8 = some (.e4m3 : Fmt) ∧ (Fmt.isInt .e4m3 : Bool) = false)
    ∧ (((.varithOr 3 0 9 1 2 1 8 : Instr), (.or : VOp), (Fmt.isInt .e4m3 : Bool)) ∈ [(Instr.varithAdd 3 0 9 1 2 1 8, VOp.add, (.e4m3 : Fmt).plainVec),
      (Instr.varithSub 3 0 9 1 2 1 8, VOp.sub, (.e4m3 : Fmt).plainVec), (Instr.varithMul 3 0 9 1 2 1 8, VOp.mul, (.e4m3 : Fmt).plainVec),
      (Instr.varithMin 3 0 9 1 2 1 8, VOp.min, (.e4m3 : Fmt).plainVec), (Instr.varithMax 3 0 9 1 2 1 8, VOp.max, (.e4m3 : Fmt).plainVec),
      (Instr.varithAnd 3 0 9 1 2 1 8, VOp.and, (.e4m3 : Fmt).isInt), (Instr.varithOr 3 0 9 1 2 1 8, VOp.or, (.e4m3 : Fmt).isInt),
      (Instr.varithXor 3 0 9 1 2 1 8, VOp.xor, (.e4m3 : Fmt).isInt), (Instr.varithShl 3 0 9 1 2 1 8, VOp.shl, (.e4m3 : Fmt).isInt),
      (Instr.varithShr 3 0 9 1 2 1 8, VOp.shr, (.e4m3 : Fmt).isInt), (Instr.varithSar 3 0 9 1 2 1 8, VOp.sar, (.e4m3 : Fmt).isInt),
      (Instr.varithDiv 3 0 9 1 2 1 8, VOp.div, (.e4m3 : Fmt).divides)])
    ∧ (Fmt.ofReg 0 = some (.int64 : Fmt) ∧ (Fmt.plainVec .int64 : Bool) = true ∧ k1.liveThread 3 0 = some (t1, thr) ∧
      (thr.late.all fun e => !([vReg 2, pReg 1, vReg 1] : List Nat).contains e.snd) = true ∧
      (thr.accesses.all fun a => a.kind.dests.all fun d => d == 0 || !([vReg 2, pReg 1, vReg 1] : List Nat).contains d) = true ∧ thr.pc + 1 < t1.textLen /
      4)
    ∧ (((.varithAbs 3 0 2 1 1 0 : Instr), (.abs : VOp), (Fmt.plainVec .int64 : Bool)) ∈ [(Instr.varithAbs 3 0 2 1 1 0, VOp.abs, (.int64 : Fmt).plainVec),
      (Instr.varithNeg 3 0 2 1 1 0, VOp.neg, (.int64 : Fmt).plainVec), (Instr.varithSqrt 3 0 2 1 1 0, VOp.sqrt, (.int64 : Fmt).divides)])
    ∧ (Fmt.ofReg 0 = some (.int64 : Fmt) ∧ (Fmt.divides .int64 : Bool) = false)
    ∧ (((.varithSqrt 3 0 2 1 1 0 : Instr), (.sqrt : VOp), (Fmt.divides .int64 : Bool)) ∈ [(Instr.varithAbs 3 0 2 1 1 0, VOp.abs, (.int64 : Fmt).plainVec),
      (Instr.varithNeg 3 0 2 1 1 0, VOp.neg, (.int64 : Fmt).plainVec), (Instr.varithSqrt 3 0 2 1 1 0, VOp.sqrt, (.int64 : Fmt).divides)])
    ∧ (Fmt.ofReg 0 = some (.int64 : Fmt) ∧ (.int64 : Fmt).plainVec = true ∧ k1.liveThread 3 0 = some (t1, thr) ∧
      (thr.late.all fun e => !([vReg 2, pReg 1, vReg 1, vReg 2] : List Nat).contains e.snd) = true ∧
      (thr.accesses.all fun a => a.kind.dests.all fun d => d == 0 || !([vReg 2, pReg 1, vReg 1, vReg 2] : List Nat).contains d) = true ∧ thr.pc + 1 <
      t1.textLen / 4)
    ∧ (((.fma 3 0 2 1 2 1 0 : Instr), 0) ∈ [(Instr.fma 3 0 2 1 2 1 0, 0), (Instr.fms 3 0 2 1 2 1 0, 1), (Instr.fnma 3 0 2 1 2 1 0, 2)])
    ∧ (Fmt.ofReg 11 = some (.e3m2 : Fmt) ∧ (.e3m2 : Fmt).plainVec = false)
    ∧ (((.fma 3 0 2 1 2 1 11 : Instr), 0) ∈ [(Instr.fma 3 0 2 1 2 1 11, 0), (Instr.fms 3 0 2 1 2 1 11, 1), (Instr.fnma 3 0 2 1 2 1 11, 2)]) :=
  ⟨by decide +kernel, List.Mem.head _, by decide +kernel,
   List.Mem.tail _ (List.Mem.tail _ (List.Mem.tail _ (List.Mem.tail _ (List.Mem.tail _ (List.Mem.tail _ (List.Mem.head _)))))), by decide +kernel,
   List.Mem.head _, by decide +kernel, List.Mem.tail _ (List.Mem.tail _ (List.Mem.head _)), by decide +kernel, List.Mem.head _, by decide +kernel,
   List.Mem.head _⟩

set_option maxRecDepth 100000 in
theorem witness_VectorElements :
    8 ≤ (.int8 : Fmt).bits
    ∧ (.e3m2 : Fmt).bits = 6
    ∧ (.int4 : Fmt).bits = 4
    ∧ (Memory.wf (Core.reset : Core).tray = true ∧ 2 < ([1, 2, 3] : List Byte).length)
    ∧ 7 < (.int64 : Fmt).count
    ∧ (((fun _ => Written.of 3 : Nat → Written) 7).bits < 2 ^ (.int64 : Fmt).bits)
    ∧ ((.int64 : Fmt).isInt = true ∧ (.add : VOp) ≠ VOp.and ∧ (.add : VOp) ≠ VOp.or ∧ (.add : VOp) ≠ VOp.xor ∧ (.add : VOp) ≠ VOp.shr ∧ (.add : VOp) ≠
      VOp.div ∧ (.add : VOp) ≠ VOp.sqrt) :=
  ⟨by decide +kernel, by decide +kernel, by decide +kernel, by decide +kernel, by decide +kernel, by decide +kernel, by decide +kernel⟩

theorem witness_VectorCompare :
    (Fmt.ofReg 0 = some (.int64 : Fmt) ∧ ((.int64 : Fmt).compares && true) = true ∧ (thr.vr 1).snd = false ∧ (thr.vr 2).snd = false ∧ k1.liveThread 3 0 =
      some (t1, thr) ∧ (thr.late.all fun e => !([vReg 1, vReg 2, pReg 1, pReg 2] : List Nat).contains e.snd) = true ∧
      (thr.accesses.all fun a => a.kind.dests.all fun d => d == 0 || !([vReg 1, vReg 2, pReg 1, pReg 2] : List Nat).contains d) = true ∧ thr.pc + 1 <
      t1.textLen / 4)
    ∧ (((.vcmpEq 3 0 2 1 2 1 0 : Instr), (.eq : CmpOp), true) ∈ [(Instr.vcmpEq 3 0 2 1 2 1 0, CmpOp.eq, true),
      (Instr.vcmpNe 3 0 2 1 2 1 0, CmpOp.ne, true), (Instr.vcmpLt 3 0 2 1 2 1 0, CmpOp.lt, true), (Instr.vcmpLe 3 0 2 1 2 1 0, CmpOp.le, true),
      (Instr.vcmpGt 3 0 2 1 2 1 0, CmpOp.gt, true), (Instr.vcmpGe 3 0 2 1 2 1 0, CmpOp.ge, true),
      (Instr.vcmpUnord 3 0 2 1 2 1 0, CmpOp.unord, !(.int64 : Fmt).isInt), (Instr.vcmpLtu 3 0 2 1 2 1 0, CmpOp.ltu, (.int64 : Fmt).isInt),
      (Instr.vcmpGeu 3 0 2 1 2 1 0, CmpOp.geu, (.int64 : Fmt).isInt)])
    ∧ (Fmt.ofReg 0 = some (.int64 : Fmt) ∧ 63 < 64)
    ∧ (((.vcmpEq 3 0 2 1 2 1 0 : Instr), (.eq : CmpOp), true) ∈ [(Instr.vcmpEq 3 0 2 1 2 1 0, CmpOp.eq, true),
      (Instr.vcmpNe 3 0 2 1 2 1 0, CmpOp.ne, true), (Instr.vcmpLt 3 0 2 1 2 1 0, CmpOp.lt, true), (Instr.vcmpLe 3 0 2 1 2 1 0, CmpOp.le, true),
      (Instr.vcmpGt 3 0 2 1 2 1 0, CmpOp.gt, true), (Instr.vcmpGe 3 0 2 1 2 1 0, CmpOp.ge, true),
      (Instr.vcmpUnord 3 0 2 1 2 1 0, CmpOp.unord, !(.int64 : Fmt).isInt), (Instr.vcmpLtu 3 0 2 1 2 1 0, CmpOp.ltu, (.int64 : Fmt).isInt),
      (Instr.vcmpGeu 3 0 2 1 2 1 0, CmpOp.geu, (.int64 : Fmt).isInt)])
    ∧ (Fmt.ofReg 3 = some (.int8 : Fmt) ∧ ((.int8 : Fmt).compares && true) = true ∧ ((thr.vr 1).snd || (thr.vr 5).snd) = true ∧ k1.liveThread 3 0 = some
      (t1, thr) ∧ (thr.late.all fun e => !([vReg 1, vReg 5, pReg 1, pReg 2] : List Nat).contains e.snd) = true ∧
      (thr.accesses.all fun a => a.kind.dests.all fun d => d == 0 || !([vReg 1, vReg 5, pReg 1, pReg 2] : List Nat).contains d) = true)
    ∧ (((.vcmpEq 3 0 2 1 5 1 3 : Instr), (.eq : CmpOp), true) ∈ [(Instr.vcmpEq 3 0 2 1 5 1 3, CmpOp.eq, true),
      (Instr.vcmpNe 3 0 2 1 5 1 3, CmpOp.ne, true), (Instr.vcmpLt 3 0 2 1 5 1 3, CmpOp.lt, true), (Instr.vcmpLe 3 0 2 1 5 1 3, CmpOp.le, true),
      (Instr.vcmpGt 3 0 2 1 5 1 3, CmpOp.gt, true), (Instr.vcmpGe 3 0 2 1 5 1 3, CmpOp.ge, true),
      (Instr.vcmpUnord 3 0 2 1 5 1 3, CmpOp.unord, !(.int8 : Fmt).isInt), (Instr.vcmpLtu 3 0 2 1 5 1 3, CmpOp.ltu, (.int8 : Fmt).isInt),
      (Instr.vcmpGeu 3 0 2 1 5 1 3, CmpOp.geu, (.int8 : Fmt).isInt)])
    ∧ (Fmt.ofReg 4 = some (.int4 : Fmt) ∧ ((.int4 : Fmt).compares && true) = false)
    ∧ (((.vcmpEq 3 0 2 1 2 1 4 : Instr), (.eq : CmpOp), true) ∈ [(Instr.vcmpEq 3 0 2 1 2 1 4, CmpOp.eq, true),
      (Instr.vcmpNe 3 0 2 1 2 1 4, CmpOp.ne, true), (Instr.vcmpLt 3 0 2 1 2 1 4, CmpOp.lt, true), (Instr.vcmpLe 3 0 2 1 2 1 4, CmpOp.le, true),
      (Instr.vcmpGt 3 0 2 1 2 1 4, CmpOp.gt, true), (Instr.vcmpGe 3 0 2 1 2 1 4, CmpOp.ge, true),
      (Instr.vcmpUnord 3 0 2 1 2 1 4, CmpOp.unord, !(.int4 : Fmt).isInt), (Instr.vcmpLtu 3 0 2 1 2 1 4, CmpOp.ltu, (.int4 : Fmt).isInt),
      (Instr.vcmpGeu 3 0 2 1 2 1 4, CmpOp.geu, (.int4 : Fmt).isInt)]) :=
  ⟨by decide +kernel, List.Mem.head _, by decide +kernel, List.Mem.head _, by decide +kernel, List.Mem.head _, by decide +kernel, List.Mem.head _⟩

theorem witness_VectorMoves :
    (Fmt.ofReg 0 = some (.int64 : Fmt) ∧ Fmt.ofReg 3 = some (.int8 : Fmt) ∧ (.int8 : Fmt).plainVec = true ∧ 0 < cvtParts (.int64 : Fmt) (.int8 : Fmt) ∧
      k1.liveThread 3 0 = some (t1, thr) ∧ (thr.late.all fun e => !([vReg 9, pReg 1, vReg 1] : List Nat).contains e.snd) = true ∧
      (thr.accesses.all fun a => a.kind.dests.all fun d => d == 0 || !([vReg 9, pReg 1, vReg 1] : List Nat).contains d) = true ∧ thr.pc + 1 < t1.textLen /
      4)
    ∧ (Fmt.ofReg 3 = some (.int8 : Fmt) ∧ (.int8 : Fmt).plainVec = true ∧ k1.liveThread 3 0 = some (t1, thr) ∧
      (thr.late.all fun e => !([vReg 9, pReg 1, vReg 1] : List Nat).contains e.snd) = true ∧
      (thr.accesses.all fun a => a.kind.dests.all fun d => d == 0 || !([vReg 9, pReg 1, vReg 1] : List Nat).contains d) = true ∧ thr.pc + 1 < t1.textLen /
      4)
    ∧ (Fmt.ofReg 3 = some (.int8 : Fmt) ∧ (.int8 : Fmt).plainVec = true ∧ k1.liveThread 3 0 = some (t1, thr) ∧
      (thr.late.all fun e => !([vReg 9, pReg 1, vReg 1, vReg 2] : List Nat).contains e.snd) = true ∧
      (thr.accesses.all fun a => a.kind.dests.all fun d => d == 0 || !([vReg 9, pReg 1, vReg 1, vReg 2] : List Nat).contains d) = true ∧ thr.pc + 1 <
      t1.textLen / 4)
    ∧ (Fmt.ofReg 3 = some (.int8 : Fmt) ∧ (.int8 : Fmt).plainVec = true ∧ k1.liveThread 3 0 = some (t1, thr) ∧
      (thr.late.all fun e => !([vReg 9, vReg 1, vReg 2, pReg 1] : List Nat).contains e.snd) = true ∧
      (thr.accesses.all fun a => a.kind.dests.all fun d => d == 0 || !([vReg 9, vReg 1, vReg 2, pReg 1] : List Nat).contains d) = true ∧ thr.pc + 1 <
      t1.textLen / 4)
    ∧ (Fmt.ofReg 3 = some (.int8 : Fmt) ∧ (.int8 : Fmt).plainVec = true ∧ k1.liveThread 3 0 = some (t1, thr) ∧
      (thr.late.all fun e => !([vReg 9, pReg 1, 2] : List Nat).contains e.snd) = true ∧
      (thr.accesses.all fun a => a.kind.dests.all fun d => d == 0 || !([vReg 9, pReg 1, 2] : List Nat).contains d) = true ∧ thr.pc + 1 < t1.textLen / 4)
    ∧ (Fmt.ofReg 3 = some (.int8 : Fmt) ∧ (.int8 : Fmt).plainVec = true ∧ 1 < (.int8 : Fmt).count ∧ k1.liveThread 3 0 = some (t1, thr) ∧
      (thr.late.all fun e => !([9, vReg 1] : List Nat).contains e.snd) = true ∧
      (thr.accesses.all fun a => a.kind.dests.all fun d => d == 0 || !([9, vReg 1] : List Nat).contains d) = true ∧ thr.pc + 1 < t1.textLen / 4)
    ∧ (Fmt.ofReg 3 = some (.int8 : Fmt) ∧ (.int8 : Fmt).plainVec = true ∧ (Fmt.count .int8 - 1 : Nat) < (.int8 : Fmt).count ∧ k1.liveThread 3 0 = some
      (t1, thr) ∧ (thr.late.all fun e => !([vReg 9, 2] : List Nat).contains e.snd) = true ∧
      (thr.accesses.all fun a => a.kind.dests.all fun d => d == 0 || !([vReg 9, 2] : List Nat).contains d) = true ∧ thr.pc + 1 < t1.textLen / 4)
    ∧ (Fmt.ofReg 0 = some (.int64 : Fmt) ∧ (.int64 : Fmt).reduces = true ∧ k1.liveThread 3 0 = some (t1, thr) ∧
      (thr.late.all fun e => !([9, vReg 1, pReg 1] : List Nat).contains e.snd) = true ∧
      (thr.accesses.all fun a => a.kind.dests.all fun d => d == 0 || !([9, vReg 1, pReg 1] : List Nat).contains d) = true ∧ thr.pc + 1 < t1.textLen / 4)
    ∧ (((.vredAdd 3 0 9 1 1 0 : Instr), (.add : RedOp)) ∈ [(Instr.vredAdd 3 0 9 1 1 0, RedOp.add), (Instr.vredMin 3 0 9 1 1 0, RedOp.min),
      (Instr.vredMax 3 0 9 1 1 0, RedOp.max), (Instr.vredMinu 3 0 9 1 1 0, RedOp.minu), (Instr.vredMaxu 3 0 9 1 1 0, RedOp.maxu),
      (Instr.vredAnd 3 0 9 1 1 0, RedOp.and), (Instr.vredOr 3 0 9 1 1 0, RedOp.or), (Instr.vredXor 3 0 9 1 1 0, RedOp.xor)]) :=
  ⟨by decide +kernel, by decide +kernel, by decide +kernel, by decide +kernel, by decide +kernel, by decide +kernel, by decide +kernel, by decide +kernel,
   List.Mem.head _⟩

theorem witness_Accumulators :
    ((thr.xr 10).snd = false ∧ BitVec.toNat (thr.xr 10).fst % 16 = 0 ∧ BitVec.toNat (thr.xr 10).fst + 80 ≤ t1.tray ∧ (k1.coreRec 3).trayBad
      (BitVec.toNat (thr.xr 10).fst) 80 = true ∧ k1.liveThread 3 0 = some (t1, thr) ∧ (thr.late.all fun e => !([aReg 2, 10] : List Nat).contains e.snd) =
      true ∧ (thr.accesses.all fun a => a.kind.dests.all fun d => d == 0 || !([aReg 2, 10] : List Nat).contains d) = true ∧ thr.pc + 1 < t1.textLen / 4)
    ∧ (Fmt.ofReg 0 = some (.int64 : Fmt) ∧ (0 = 0 ∨ (.int64 : Fmt).scales = true) ∧ (thr.xr 0).snd = false ∧ k1.liveThread 3 0 = some (t1, thr) ∧
      (thr.late.all fun e => !([aReg 1, 0, pReg 1, vReg 1] : List Nat).contains e.snd) = true ∧
      (thr.accesses.all fun a => a.kind.dests.all fun d => d == 0 || !([aReg 1, 0, pReg 1, vReg 1] : List Nat).contains d) = true ∧ thr.pc + 1 < t1.textLen
      / 4)
    ∧ (Fmt.ofReg 0 = some (.int64 : Fmt) ∧ (0 = 0 ∨ (.int64 : Fmt).scales = true) ∧ (thr.xr 0).snd = false ∧ k1.liveThread 3 0 = some (t1, thr) ∧
      (thr.late.all fun e => !([aReg 1, 0, pReg 1, vReg 1, vReg 2] : List Nat).contains e.snd) = true ∧
      (thr.accesses.all fun a => a.kind.dests.all fun d => d == 0 || !([aReg 1, 0, pReg 1, vReg 1, vReg 2] : List Nat).contains d) = true ∧ thr.pc + 1 <
      t1.textLen / 4)
    ∧ (Fmt.ofReg 3 = some (.int8 : Fmt) ∧ (.int8 : Fmt).scales = true ∧ (thr.xr 4).snd = true ∧ k1.liveThread 3 0 = some (t1, thr) ∧
      (thr.late.all fun e => !([aReg 1, 4, pReg 1, vReg 1] : List Nat).contains e.snd) = true ∧
      (thr.accesses.all fun a => a.kind.dests.all fun d => d == 0 || !([aReg 1, 4, pReg 1, vReg 1] : List Nat).contains d) = true)
    ∧ (k1.liveThread 3 0 = some (t1, thr) ∧ (thr.late.all fun e => !([aReg 1] : List Nat).contains e.snd) = true ∧
      (thr.accesses.all fun a => a.kind.dests.all fun d => d == 0 || !([aReg 1] : List Nat).contains d) = true ∧ thr.pc + 1 < t1.textLen / 4)
    ∧ (k1.liveThread 3 0 = some (t1, thr) ∧ (thr.late.all fun e => !([aReg 2, aReg 1] : List Nat).contains e.snd) = true ∧
      (thr.accesses.all fun a => a.kind.dests.all fun d => d == 0 || !([aReg 2, aReg 1] : List Nat).contains d) = true ∧ thr.pc + 1 < t1.textLen / 4)
    ∧ (Fmt.ofReg 3 = some (.int8 : Fmt) ∧ (.int8 : Fmt).plainVec = true ∧ 1 < (.int8 : Fmt).count ∧ k1.liveThread 3 0 = some (t1, thr) ∧
      (thr.late.all fun e => !([aReg 1, vReg 2] : List Nat).contains e.snd) = true ∧
      (thr.accesses.all fun a => a.kind.dests.all fun d => d == 0 || !([aReg 1, vReg 2] : List Nat).contains d) = true ∧ thr.pc + 1 < t1.textLen / 4)
    ∧ ((thr.xr 5).snd = false ∧ BitVec.toNat (thr.xr 5).fst % 16 = 0 ∧ BitVec.toNat (thr.xr 5).fst + 80 ≤ t1.tray ∧ k1.liveThread 3 0 = some (t1, thr) ∧
      (thr.late.all fun e => !([aReg 1, 5] : List Nat).contains e.snd) = true ∧
      (thr.accesses.all fun a => a.kind.dests.all fun d => d == 0 || !([aReg 1, 5] : List Nat).contains d) = true ∧ thr.pc + 1 < t1.textLen / 4)
    ∧ ((thr.xr 6).snd = false ∧ BitVec.toNat (thr.xr 6).fst % 16 = 0 ∧ BitVec.toNat (thr.xr 6).fst + 80 ≤ t1.tray ∧ (k1.coreRec 3).trayBad
      (BitVec.toNat (thr.xr 6).fst) 80 = false ∧ (Acc.fill (cellsRead (k1.coreRec 3).tray (BitVec.toNat (thr.xr 6).fst) 80)).snd = true ∧ k1.liveThread 3 0
      = some (t1, thr) ∧ (thr.late.all fun e => !([aReg 2, 6] : List Nat).contains e.snd) = true ∧
      (thr.accesses.all fun a => a.kind.dests.all fun d => d == 0 || !([aReg 2, 6] : List Nat).contains d) = true)
    ∧ thr.pc + 1 < t1.textLen / 4 :=
  ⟨by decide +kernel, by decide +kernel, by decide +kernel, by decide +kernel, by decide +kernel, by decide +kernel, by decide +kernel, by decide +kernel,
   by decide +kernel, by decide +kernel⟩

theorem witness_AccumulatorExact :
    (([some (.fin true 5 (-288)), none] : List (Option Val)).length ≤ 2 ^ 33 ∧ ([some (.fin true 5 (-288)), none] : List (Option Val)).Perm
      ([none, some (.fin true 5 (-288))] : List (Option Val)))
    ∧ (∀ v ∈ ([some (.fin true 5 (-288)), none] : List (Option Val)),
      (fun v => ∀ (neg : Bool) (m : Nat) (e : Int), v = some (Val.fin neg m e) → -288 ≤ e ∧ m * 2 ^ (e + 288).toNat ≤ 49 * 2 ^ 568) v)
    ∧ (([some (.fin true 5 (-288)), none] : List (Option Val)) ++ ([none, some (.fin false 49 280)] : List (Option Val))).length ≤ 2 ^ 33
    ∧ (∀ v ∈ ([some (.fin true 5 (-288)), none] : List (Option Val)) ++ ([none, some (.fin false 49 280)] : List (Option Val)),
      (fun v => ∀ (neg : Bool) (m : Nat) (e : Int), v = some (Val.fin neg m e) → -288 ≤ e ∧ m * 2 ^ (e + 288).toNat ≤ 49 * 2 ^ 568) v)
    ∧ (-2 ^ 575 ≤ ({ Acc.empty with a := -(2 ^ 575), carry := 2 ^ 31 - 1 } : Machine.Acc).a ∧
      ({ Acc.empty with a := -(2 ^ 575), carry := 2 ^ 31 - 1 } : Machine.Acc).a < 2 ^ 575 ∧ -2 ^ 31 ≤
      ({ Acc.empty with a := -(2 ^ 575), carry := 2 ^ 31 - 1 } : Machine.Acc).carry ∧
      ({ Acc.empty with a := -(2 ^ 575), carry := 2 ^ 31 - 1 } : Machine.Acc).carry < 2 ^ 31)
    ∧ (-288 ≤ (-288 : Int) ∧ -2 ^ 575 ≤ ({ Acc.empty with a := -(2 ^ 575) } : Machine.Acc).a ∧ ({ Acc.empty with a := -(2 ^ 575) } : Machine.Acc).a < 2 ^
      575 ∧ (2 ^ 575 - 1 : Nat) * 2 ^ ((-288 : Int) + 288).toNat < 2 ^ 575)
    ∧ (-2 ^ 575 ≤ ({ Acc.empty with a := -(2 ^ 575) } : Machine.Acc).a ∧ ({ Acc.empty with a := -(2 ^ 575) } : Machine.Acc).a < 2 ^ 575 ∧ -2 ^ 575 ≤
      ({ Acc.empty with a := 2 ^ 575 - 1 } : Machine.Acc).a ∧ ({ Acc.empty with a := 2 ^ 575 - 1 } : Machine.Acc).a < 2 ^ 575) :=
  ⟨by decide +kernel, (by simp; decide +kernel), by decide +kernel, (by simp; decide +kernel), by decide +kernel, by decide +kernel, by decide +kernel⟩

end Sys2Proof.Tests.Vector

namespace Sys2Proof.Tests.Accesses
set_option Elab.async false

/-! Witnesses: for every clause of the statements about accesses of kernels, a state and operands that meet its hypotheses. -/

def k1 : State := kern [(0, thr), (1, thr)]
def t1 : CoreTile := kTile [(0, thr), (1, thr)]
def e0 (i : Int) : Nat := (((thr.xr 5).1.toNat : Int) + i).toNat
def rk : Recipe := { recOf kernDesc .running with next := 4 }
def tra (a : Nat) (need : List Nat) (w : Bool) : State × XRes := translate 0 5 a need w (firstIssue 3 t1 (takeTurn 3 0 k1))
def thr16 : Thread := { thr with
      accesses := (List.range 16).map
        (fun i => { n := i, addr := 0, pa := 0, tenant := 0, keyId := 0, tier := 0, major := 0, pc := 0, kind := .store [] 0 false false }),
      nextAcc := 16 }
def k16 : State := kern [(0, thr16), (1, thr)]
def t16 : CoreTile := kTile [(0, thr16), (1, thr)]
def flt (s : State) : State := s.onPart fun p =>
  { p with gens := [(5, 1)], ctxCache := [((0, 5), {ctx5 with segs := []}), ((1, 5), {ctx5 with segs := []})] }
def trf (a : Nat) (need : List Nat) (w : Bool) : State × XRes := translate 0 5 a need w (firstIssue 3 t1 (takeTurn 3 0 (flt k1)))
def trx (a : Nat) (need : List Nat) (w : Bool) : XFault := match (trf a need w).2 with | .fault e => e | _ => { status := .ok, reason := 0, recorded := false, level := 0, pva := 0, gen := 0 }
def trr (maj a : Nat) (need : List Nat) (w : Bool) : State × Status := recordFault { slot := 3, source := 2, opcode := maj, eid := 10, tag := 7 } 5 a
  (trx a need w) (settled (settleThread 3 0) 5 (trf a need w).1)

theorem witness_TrayAccesses :
    ((thr.xr 5).snd = false ∧ effAddr (thr.xr 5).fst (0 : Int) = (e0 (0) : Nat) ∧ (e0 (0) : Nat) % 2 ^ 0 = 0 ∧ (e0 (0) : Nat) + 2 ^ 0 ≤ t1.tray ∧
      (k1.coreRec 3).trayBad (e0 (0) : Nat) (2 ^ 0) = false ∧ k1.liveThread 3 0 = some (t1, thr) ∧
      (thr.late.all fun e => !([9, 5] : List Nat).contains e.snd) = true ∧
      (thr.accesses.all fun a => a.kind.dests.all fun d => d == 0 || !([9, 5] : List Nat).contains d) = true)
    ∧ thr.pc + 1 < t1.textLen / 4
    ∧ ((thr.xr 5).snd = false ∧ effAddr (thr.xr 5).fst (128 : Int) = (e0 (128) : Nat) ∧ (e0 (128) : Nat) % 2 ^ 0 = 0 ∧ (e0 (128) : Nat) + 2 ^ 0 ≤ t1.tray ∧
      (k1.coreRec 3).trayBad (e0 (128) : Nat) (2 ^ 0) = true ∧ k1.liveThread 3 0 = some (t1, thr) ∧
      (thr.late.all fun e => !([9, 5] : List Nat).contains e.snd) = true ∧
      (thr.accesses.all fun a => a.kind.dests.all fun d => d == 0 || !([9, 5] : List Nat).contains d) = true)
    ∧ thr.pc + 1 < t1.textLen / 4
    ∧ ((.tld 3 0 9 5 0 (128) : Instr) ∈ [Instr.tld 3 0 9 5 0 (128 : Int), Instr.tlds 3 0 9 5 0 (128 : Int)])
    ∧ ((thr.xr 5).snd = false ∧ effAddr (thr.xr 5).fst (64 * (0 : Int)) = (e0 (64*(0)) : Nat) ∧ (e0 (64*(0)) : Nat) % 64 = 0 ∧ (e0 (64*(0)) : Nat) + 64 ≤
      t1.tray ∧ (k1.coreRec 3).trayBad (e0 (64*(0)) : Nat) 64 = false ∧ k1.liveThread 3 0 = some (t1, thr) ∧
      (thr.late.all fun e => !([vReg 9, 5] : List Nat).contains e.snd) = true ∧
      (thr.accesses.all fun a => a.kind.dests.all fun d => d == 0 || !([vReg 9, 5] : List Nat).contains d) = true)
    ∧ thr.pc + 1 < t1.textLen / 4
    ∧ ((thr.xr 5).snd = false ∧ effAddr (thr.xr 5).fst (0 : Int) = (e0 (0) : Nat) ∧ (e0 (0) : Nat) % 2 ^ 0 = 0 ∧ (e0 (0) : Nat) + 2 ^ 0 ≤ t1.tray ∧
      k1.liveThread 3 0 = some (t1, thr) ∧ (thr.late.all fun e => !([1, 5] : List Nat).contains e.snd) = true ∧
      (thr.accesses.all fun a => a.kind.dests.all fun d => d == 0 || !([1, 5] : List Nat).contains d) = true ∧ thr.pc + 1 < t1.textLen / 4)
    ∧ Memory.wf (k1.coreRec 3).tray = true
    ∧ ((thr.xr 5).snd = false ∧ effAddr (thr.xr 5).fst (64 * (0 : Int)) = (e0 (64*(0)) : Nat) ∧ (e0 (64*(0)) : Nat) % 64 = 0 ∧ (e0 (64*(0)) : Nat) + 64 ≤
      t1.tray ∧ k1.liveThread 3 0 = some (t1, thr) ∧ (thr.late.all fun e => !([vReg 1, 5, pReg 1] : List Nat).contains e.snd) = true ∧
      (thr.accesses.all fun a => a.kind.dests.all fun d => d == 0 || !([vReg 1, 5, pReg 1] : List Nat).contains d) = true ∧ thr.pc + 1 < t1.textLen / 4)
    ∧ (Memory.wf (k1.coreRec 3).tray = true ∧ (thr.vr 1).snd = false)
    ∧ ((thr.xr 5).snd = false ∧ effAddr (thr.xr 5).fst 0 = 128 ∧ 128 % 8 = 0 ∧ 128 + 8 ≤ t1.tray ∧ (k1.coreRec 3).trayBad 128 8 = false ∧ (thr.xr 2).snd =
      false ∧ (thr.xr 1).snd = false ∧ (leNat (cellsRead (k1.coreRec 3).tray 128 8) : Nat) = leNat (cellsRead (k1.coreRec 3).tray 128 8))
    ∧ (k1.liveThread 3 0 = some (t1, thr) ∧ (thr.late.all fun e => !([1, 5, 2] : List Nat).contains e.snd) = true ∧
      (thr.accesses.all fun a => a.kind.dests.all fun d => d == 0 || !([1, 5, 2] : List Nat).contains d) = true ∧ thr.pc + 1 < t1.textLen / 4 ∧ Memory.wf
      (k1.coreRec 3).tray = true) :=
  ⟨by decide +kernel, by decide +kernel, by decide +kernel, by decide +kernel, List.Mem.head _, by decide +kernel, by decide +kernel, by decide +kernel,
   by decide +kernel, by decide +kernel, by decide +kernel, by decide +kernel, by decide +kernel⟩

theorem witness_TrayExceptions :
    (k1.liveThread 3 0 = some (t1, thr) ∧ (thr.late.all fun e => !([9, 4] : List Nat).contains e.snd) = true ∧
      (thr.accesses.all fun a => a.kind.dests.all fun d => d == 0 || !([9, 4] : List Nat).contains d) = true ∧ (thr.xr 4).snd = true)
    ∧ (((.tld 3 0 9 4 1 (0) : Instr), ([9, 4] : List Nat), 0x14, ((0) : Int), 2, 2) ∈
      [(Instr.tld 3 0 9 4 1 (0 : Int), [9, 4], 20, (0 : Int), 2 ^ 1, 2 ^ 1), (Instr.tlds 3 0 9 4 1 (0 : Int), [9, 4], 21, (0 : Int), 2 ^ 1, 2 ^ 1),
      (Instr.tst 3 0 9 4 1 (0 : Int), [9, 4], 22, (0 : Int), 2 ^ 1, 2 ^ 1), (Instr.vtld 3 0 9 4 (0 : Int), [vReg 9, 4], 23, 64 * (0 : Int), 64, 64),
      (Instr.vtst 3 0 9 4 1 (0 : Int), [vReg 9, 4, pReg 1], 24, 64 * (0 : Int), 64, 64), (Instr.asave 3 0 9 4, [aReg 9, 4], 50, 0, 80, 16),
      (Instr.aload 3 0 9 4, [aReg 9, 4], 50, 0, 80, 16)])
    ∧ (k1.liveThread 3 0 = some (t1, thr) ∧ (thr.late.all fun e => !([9, 7] : List Nat).contains e.snd) = true ∧
      (thr.accesses.all fun a => a.kind.dests.all fun d => d == 0 || !([9, 7] : List Nat).contains d) = true ∧ (thr.xr 7).snd = false ∧ effAddr
      (thr.xr 7).fst ((0) : Int) % 2 ≠ 0)
    ∧ (((.tld 3 0 9 7 1 (0) : Instr), ([9, 7] : List Nat), 0x14, ((0) : Int), 2, 2) ∈
      [(Instr.tld 3 0 9 7 1 (0 : Int), [9, 7], 20, (0 : Int), 2 ^ 1, 2 ^ 1), (Instr.tlds 3 0 9 7 1 (0 : Int), [9, 7], 21, (0 : Int), 2 ^ 1, 2 ^ 1),
      (Instr.tst 3 0 9 7 1 (0 : Int), [9, 7], 22, (0 : Int), 2 ^ 1, 2 ^ 1), (Instr.vtld 3 0 9 7 (0 : Int), [vReg 9, 7], 23, 64 * (0 : Int), 64, 64),
      (Instr.vtst 3 0 9 7 1 (0 : Int), [vReg 9, 7, pReg 1], 24, 64 * (0 : Int), 64, 64), (Instr.asave 3 0 9 7, [aReg 9, 7], 50, 0, 80, 16),
      (Instr.aload 3 0 9 7, [aReg 9, 7], 50, 0, 80, 16)])
    ∧ (k1.liveThread 3 0 = some (t1, thr) ∧ (thr.late.all fun e => !([9, 3] : List Nat).contains e.snd) = true ∧
      (thr.accesses.all fun a => a.kind.dests.all fun d => d == 0 || !([9, 3] : List Nat).contains d) = true ∧ (thr.xr 3).snd = false ∧ effAddr
      (thr.xr 3).fst ((8000) : Int) % 2 = 0 ∧ t1.tray < effAddr (thr.xr 3).fst ((8000) : Int) + 2)
    ∧ (((.tld 3 0 9 3 1 (8000) : Instr), ([9, 3] : List Nat), 0x14, ((8000) : Int), 2, 2) ∈
      [(Instr.tld 3 0 9 3 1 (8000 : Int), [9, 3], 20, (8000 : Int), 2 ^ 1, 2 ^ 1),
      (Instr.tlds 3 0 9 3 1 (8000 : Int), [9, 3], 21, (8000 : Int), 2 ^ 1, 2 ^ 1),
      (Instr.tst 3 0 9 3 1 (8000 : Int), [9, 3], 22, (8000 : Int), 2 ^ 1, 2 ^ 1),
      (Instr.vtld 3 0 9 3 (8000 : Int), [vReg 9, 3], 23, 64 * (8000 : Int), 64, 64),
      (Instr.vtst 3 0 9 3 1 (8000 : Int), [vReg 9, 3, pReg 1], 24, 64 * (8000 : Int), 64, 64), (Instr.asave 3 0 9 3, [aReg 9, 3], 50, 0, 80, 16),
      (Instr.aload 3 0 9 3, [aReg 9, 3], 50, 0, 80, 16)]) :=
  ⟨by decide +kernel, List.Mem.head _, by decide +kernel, List.Mem.head _, by decide +kernel, List.Mem.head _⟩

set_option maxRecDepth 100000 in
theorem witness_PoolAccessIssue :
    (k1.liveThread 3 0 = some (t1, thr) ∧ (thr.late.all fun e => !([1, 3] : List Nat).contains e.snd) = true ∧
      (thr.accesses.all fun a => a.kind.dests.all fun d => d == 0 || !([1, 3] : List Nat).contains d) = true ∧ k1.recipe t1.recipe = some rk ∧
      ((thr.xr 3).2 : Bool) = false ∧ (effAddr (thr.xr 3).1 (0) : Nat) % (2 ^ 3 : Nat) = 0 ∧ thr.accesses.length < 16 ∧ thr.pc + 1 < t1.textLen / 4)
    ∧ ((tra (effAddr (thr.xr 3).1 (0)) [0] false).1 : State).sealBars (((tra (effAddr (thr.xr 3).1 (0)) [0] false).1 : State).readDesc rk.ctx).owner 5
      false = false
    ∧ (((.pld 3 0 1 3 3 (0) : Instr), ([1, 3] : List Nat), 0x1A, ((thr.xr 3).2 : Bool), (effAddr (thr.xr 3).1 (0) : Nat), (2 ^ 3 : Nat), ([0] : List Nat),
      false, (AccKind.load 1 (2 ^ 3) false : AccKind)) ∈
      [(Instr.pld 3 0 1 3 3 (0 : Int), [1, 3], 26, (thr.xr 3).snd, effAddr (thr.xr 3).fst (0 : Int), 2 ^ 3, [0], false, AccKind.load 1 (2 ^ 3) false),
      (Instr.plds 3 0 1 3 3 (0 : Int), [1, 3], 27, (thr.xr 3).snd, effAddr (thr.xr 3).fst (0 : Int), 2 ^ 3, [0], false, AccKind.load 1 (2 ^ 3) true),
      (Instr.pst 3 0 1 3 3 (0 : Int), [1, 3], 28, (thr.xr 3).snd, effAddr (thr.xr 3).fst (0 : Int), 2 ^ 3, [1], true, AccKind.store
      (leBytes (2 ^ 3) (BitVec.toNat (thr.xr 1).fst)) (2 ^ 2 ^ 3 - 1) (thr.xr 1).snd false),
      (Instr.vpld 3 0 1 3 (0 : Int), [vReg 1, 3], 29, (thr.xr 3).snd, effAddr (thr.xr 3).fst (64 * (0 : Int)), 64, [0], false, AccKind.vload 1 1),
      (Instr.vpst 3 0 1 3 1 (0 : Int), [vReg 1, 3, pReg 1], 30, (thr.xr 3).snd, effAddr (thr.xr 3).fst (64 * (0 : Int)), 64, [1], true, AccKind.store
      (vecBytes (thr.vr 1).fst) (BitVec.toNat (thr.pr 1)) (thr.vr 1).snd false), (Instr.pamo 3 0 1 3 2 1, [1, 3, 2], 31, (thr.xr 3).snd || (thr.xr 2).snd
      || 1 == 3 && (thr.xr 1).snd, effAddr (thr.xr 3).fst 0, 8, [2], true, AccKind.amo 1 (BitVec.toNat (thr.xr 2).fst) (BitVec.toNat (thr.xr 1).fst) 1),
      (Instr.lswap 3 0 1 2 3, [vReg 1, vReg (1 + 1), vReg 2, vReg (2 + 1), 3], 32, (thr.xr 3).snd || (thr.vr 1).snd || (thr.vr (1 + 1)).snd ||
      (thr.vr 2).snd || (thr.vr (2 + 1)).snd, effAddr (thr.xr 3).fst 0, 128, [2], true, AccKind.line false
      (vecBytes (thr.vr 1).fst ++ vecBytes (thr.vr (1 + 1)).fst) (vecBytes (thr.vr 2).fst ++ vecBytes (thr.vr (2 + 1)).fst) 2 0), (Instr.lcas 3 0 1 2 3 1,
      [vReg 1, vReg (1 + 1), vReg 2, vReg (2 + 1), 3, pReg 1], 32, (thr.xr 3).snd || (thr.vr 1).snd || (thr.vr (1 + 1)).snd || (thr.vr 2).snd ||
      (thr.vr (2 + 1)).snd, effAddr (thr.xr 3).fst 0, 128, [2], true, AccKind.line true (vecBytes (thr.vr 1).fst ++ vecBytes (thr.vr (1 + 1)).fst)
      (vecBytes (thr.vr 2).fst ++ vecBytes (thr.vr (2 + 1)).fst) 2 1), (Instr.vpld2 3 0 1 3 (0 : Int), [vReg 1, vReg (1 + 1), 3], 33, (thr.xr 3).snd,
      effAddr (thr.xr 3).fst (128 * (0 : Int)), 128, [0], false, AccKind.vload 1 2), (Instr.vpst2 3 0 1 3 (0 : Int), [vReg 1, vReg (1 + 1), 3], 34,
      (thr.xr 3).snd, effAddr (thr.xr 3).fst (128 * (0 : Int)), 128, [1], true, AccKind.store (vecBytes (thr.vr 1).fst ++ vecBytes (thr.vr (1 + 1)).fst)
      (2 ^ 128 - 1) ((thr.vr 1).snd || (thr.vr (1 + 1)).snd) true)])
    ∧ (translate (dieOfCluster (clusterOf 3)) rk.ctx (effAddr (thr.xr 3).1 (0) : Nat) ([0] : List Nat) false (firstIssue 3 t1 (takeTurn 3 0 k1)) =
      (((tra (effAddr (thr.xr 3).1 (0)) [0] false).1 : State), XRes.ok (effAddr (thr.xr 3).1 (0) : Nat) 5 1 0))
    ∧ (k1.liveThread 3 0 = some (t1, thr) ∧ (thr.late.all fun e => !([1, 4] : List Nat).contains e.snd) = true ∧
      (thr.accesses.all fun a => a.kind.dests.all fun d => d == 0 || !([1, 4] : List Nat).contains d) = true ∧ k1.recipe t1.recipe = some rk ∧
      ((thr.xr 4).2 : Bool) = true)
    ∧ (((.pld 3 0 1 4 3 (0) : Instr), ([1, 4] : List Nat), 0x1A, ((thr.xr 4).2 : Bool), (effAddr (thr.xr 4).1 (0) : Nat), (2 ^ 3 : Nat), ([0] : List Nat),
      false, (AccKind.load 1 (2 ^ 3) false : AccKind)) ∈
      [(Instr.pld 3 0 1 4 3 (0 : Int), [1, 4], 26, (thr.xr 4).snd, effAddr (thr.xr 4).fst (0 : Int), 2 ^ 3, [0], false, AccKind.load 1 (2 ^ 3) false),
      (Instr.plds 3 0 1 4 3 (0 : Int), [1, 4], 27, (thr.xr 4).snd, effAddr (thr.xr 4).fst (0 : Int), 2 ^ 3, [0], false, AccKind.load 1 (2 ^ 3) true),
      (Instr.pst 3 0 1 4 3 (0 : Int), [1, 4], 28, (thr.xr 4).snd, effAddr (thr.xr 4).fst (0 : Int), 2 ^ 3, [1], true, AccKind.store
      (leBytes (2 ^ 3) (BitVec.toNat (thr.xr 1).fst)) (2 ^ 2 ^ 3 - 1) (thr.xr 1).snd false),
      (Instr.vpld 3 0 1 4 (0 : Int), [vReg 1, 4], 29, (thr.xr 4).snd, effAddr (thr.xr 4).fst (64 * (0 : Int)), 64, [0], false, AccKind.vload 1 1),
      (Instr.vpst 3 0 1 4 1 (0 : Int), [vReg 1, 4, pReg 1], 30, (thr.xr 4).snd, effAddr (thr.xr 4).fst (64 * (0 : Int)), 64, [1], true, AccKind.store
      (vecBytes (thr.vr 1).fst) (BitVec.toNat (thr.pr 1)) (thr.vr 1).snd false), (Instr.pamo 3 0 1 4 2 1, [1, 4, 2], 31, (thr.xr 4).snd || (thr.xr 2).snd
      || 1 == 3 && (thr.xr 1).snd, effAddr (thr.xr 4).fst 0, 8, [2], true, AccKind.amo 1 (BitVec.toNat (thr.xr 2).fst) (BitVec.toNat (thr.xr 1).fst) 1),
      (Instr.lswap 3 0 1 2 4, [vReg 1, vReg (1 + 1), vReg 2, vReg (2 + 1), 4], 32, (thr.xr 4).snd || (thr.vr 1).snd || (thr.vr (1 + 1)).snd ||
      (thr.vr 2).snd || (thr.vr (2 + 1)).snd, effAddr (thr.xr 4).fst 0, 128, [2], true, AccKind.line false
      (vecBytes (thr.vr 1).fst ++ vecBytes (thr.vr (1 + 1)).fst) (vecBytes (thr.vr 2).fst ++ vecBytes (thr.vr (2 + 1)).fst) 2 0), (Instr.lcas 3 0 1 2 4 1,
      [vReg 1, vReg (1 + 1), vReg 2, vReg (2 + 1), 4, pReg 1], 32, (thr.xr 4).snd || (thr.vr 1).snd || (thr.vr (1 + 1)).snd || (thr.vr 2).snd ||
      (thr.vr (2 + 1)).snd, effAddr (thr.xr 4).fst 0, 128, [2], true, AccKind.line true (vecBytes (thr.vr 1).fst ++ vecBytes (thr.vr (1 + 1)).fst)
      (vecBytes (thr.vr 2).fst ++ vecBytes (thr.vr (2 + 1)).fst) 2 1), (Instr.vpld2 3 0 1 4 (0 : Int), [vReg 1, vReg (1 + 1), 4], 33, (thr.xr 4).snd,
      effAddr (thr.xr 4).fst (128 * (0 : Int)), 128, [0], false, AccKind.vload 1 2), (Instr.vpst2 3 0 1 4 (0 : Int), [vReg 1, vReg (1 + 1), 4], 34,
      (thr.xr 4).snd, effAddr (thr.xr 4).fst (128 * (0 : Int)), 128, [1], true, AccKind.store (vecBytes (thr.vr 1).fst ++ vecBytes (thr.vr (1 + 1)).fst)
      (2 ^ 128 - 1) ((thr.vr 1).snd || (thr.vr (1 + 1)).snd) true)])
    ∧ (k1.liveThread 3 0 = some (t1, thr) ∧ (thr.late.all fun e => !([4, 3] : List Nat).contains e.snd) = true ∧
      (thr.accesses.all fun a => a.kind.dests.all fun d => d == 0 || !([4, 3] : List Nat).contains d) = true ∧ k1.recipe t1.recipe = some rk ∧
      ((thr.xr 3).2 : Bool) = false ∧ (effAddr (thr.xr 3).1 (2) : Nat) % (2 ^ 2 : Nat) ≠ 0)
    ∧ (((.pld 3 0 4 3 2 (2) : Instr), ([4, 3] : List Nat), 0x1A, ((thr.xr 3).2 : Bool), (effAddr (thr.xr 3).1 (2) : Nat), (2 ^ 2 : Nat), ([0] : List Nat),
      false, (AccKind.load 4 (2 ^ 2) false : AccKind)) ∈
      [(Instr.pld 3 0 4 3 2 (2 : Int), [4, 3], 26, (thr.xr 3).snd, effAddr (thr.xr 3).fst (2 : Int), 2 ^ 2, [0], false, AccKind.load 4 (2 ^ 2) false),
      (Instr.plds 3 0 4 3 2 (2 : Int), [4, 3], 27, (thr.xr 3).snd, effAddr (thr.xr 3).fst (2 : Int), 2 ^ 2, [0], false, AccKind.load 4 (2 ^ 2) true),
      (Instr.pst 3 0 4 3 2 (2 : Int), [4, 3], 28, (thr.xr 3).snd, effAddr (thr.xr 3).fst (2 : Int), 2 ^ 2, [1], true, AccKind.store
      (leBytes (2 ^ 2) (BitVec.toNat (thr.xr 4).fst)) (2 ^ 2 ^ 2 - 1) (thr.xr 4).snd false),
      (Instr.vpld 3 0 4 3 (2 : Int), [vReg 4, 3], 29, (thr.xr 3).snd, effAddr (thr.xr 3).fst (64 * (2 : Int)), 64, [0], false, AccKind.vload 4 1),
      (Instr.vpst 3 0 4 3 1 (2 : Int), [vReg 4, 3, pReg 1], 30, (thr.xr 3).snd, effAddr (thr.xr 3).fst (64 * (2 : Int)), 64, [1], true, AccKind.store
      (vecBytes (thr.vr 4).fst) (BitVec.toNat (thr.pr 1)) (thr.vr 4).snd false), (Instr.pamo 3 0 4 3 2 3, [4, 3, 2], 31, (thr.xr 3).snd || (thr.xr 2).snd
      || 3 == 3 && (thr.xr 4).snd, effAddr (thr.xr 3).fst 0, 8, [2], true, AccKind.amo 3 (BitVec.toNat (thr.xr 2).fst) (BitVec.toNat (thr.xr 4).fst) 4),
      (Instr.lswap 3 0 4 2 3, [vReg 4, vReg (4 + 1), vReg 2, vReg (2 + 1), 3], 32, (thr.xr 3).snd || (thr.vr 4).snd || (thr.vr (4 + 1)).snd ||
      (thr.vr 2).snd || (thr.vr (2 + 1)).snd, effAddr (thr.xr 3).fst 0, 128, [2], true, AccKind.line false
      (vecBytes (thr.vr 4).fst ++ vecBytes (thr.vr (4 + 1)).fst) (vecBytes (thr.vr 2).fst ++ vecBytes (thr.vr (2 + 1)).fst) 2 0), (Instr.lcas 3 0 4 2 3 1,
      [vReg 4, vReg (4 + 1), vReg 2, vReg (2 + 1), 3, pReg 1], 32, (thr.xr 3).snd || (thr.vr 4).snd || (thr.vr (4 + 1)).snd || (thr.vr 2).snd ||
      (thr.vr (2 + 1)).snd, effAddr (thr.xr 3).fst 0, 128, [2], true, AccKind.line true (vecBytes (thr.vr 4).fst ++ vecBytes (thr.vr (4 + 1)).fst)
      (vecBytes (thr.vr 2).fst ++ vecBytes (thr.vr (2 + 1)).fst) 2 1), (Instr.vpld2 3 0 4 3 (2 : Int), [vReg 4, vReg (4 + 1), 3], 33, (thr.xr 3).snd,
      effAddr (thr.xr 3).fst (128 * (2 : Int)), 128, [0], false, AccKind.vload 4 2), (Instr.vpst2 3 0 4 3 (2 : Int), [vReg 4, vReg (4 + 1), 3], 34,
      (thr.xr 3).snd, effAddr (thr.xr 3).fst (128 * (2 : Int)), 128, [1], true, AccKind.store (vecBytes (thr.vr 4).fst ++ vecBytes (thr.vr (4 + 1)).fst)
      (2 ^ 128 - 1) ((thr.vr 4).snd || (thr.vr (4 + 1)).snd) true)])
    ∧ (k16.liveThread 3 0 = some (t16, thr16) ∧ (thr16.late.all fun e => !([1, 3] : List Nat).contains e.snd) = true ∧
      (thr16.accesses.all fun a => a.kind.dests.all fun d => d == 0 || !([1, 3] : List Nat).contains d) = true ∧ k16.recipe t16.recipe = some rk ∧
      ((thr.xr 3).2 : Bool) = false ∧ (effAddr (thr.xr 3).1 (0) : Nat) % (2 ^ 3 : Nat) = 0 ∧ 16 ≤ thr16.accesses.length)
    ∧ (((.pld 3 0 1 3 3 (0) : Instr), ([1, 3] : List Nat), 0x1A, ((thr.xr 3).2 : Bool), (effAddr (thr.xr 3).1 (0) : Nat), (2 ^ 3 : Nat), ([0] : List Nat),
      false, (AccKind.load 1 (2 ^ 3) false : AccKind)) ∈
      [(Instr.pld 3 0 1 3 3 (0 : Int), [1, 3], 26, (thr16.xr 3).snd, effAddr (thr16.xr 3).fst (0 : Int), 2 ^ 3, [0], false, AccKind.load 1 (2 ^ 3) false),
      (Instr.plds 3 0 1 3 3 (0 : Int), [1, 3], 27, (thr16.xr 3).snd, effAddr (thr16.xr 3).fst (0 : Int), 2 ^ 3, [0], false, AccKind.load 1 (2 ^ 3) true),
      (Instr.pst 3 0 1 3 3 (0 : Int), [1, 3], 28, (thr16.xr 3).snd, effAddr (thr16.xr 3).fst (0 : Int), 2 ^ 3, [1], true, AccKind.store
      (leBytes (2 ^ 3) (BitVec.toNat (thr16.xr 1).fst)) (2 ^ 2 ^ 3 - 1) (thr16.xr 1).snd false),
      (Instr.vpld 3 0 1 3 (0 : Int), [vReg 1, 3], 29, (thr16.xr 3).snd, effAddr (thr16.xr 3).fst (64 * (0 : Int)), 64, [0], false, AccKind.vload 1 1),
      (Instr.vpst 3 0 1 3 1 (0 : Int), [vReg 1, 3, pReg 1], 30, (thr16.xr 3).snd, effAddr (thr16.xr 3).fst (64 * (0 : Int)), 64, [1], true, AccKind.store
      (vecBytes (thr16.vr 1).fst) (BitVec.toNat (thr16.pr 1)) (thr16.vr 1).snd false), (Instr.pamo 3 0 1 3 2 1, [1, 3, 2], 31, (thr16.xr 3).snd ||
      (thr16.xr 2).snd || 1 == 3 && (thr16.xr 1).snd, effAddr (thr16.xr 3).fst 0, 8, [2], true, AccKind.amo 1 (BitVec.toNat (thr16.xr 2).fst)
      (BitVec.toNat (thr16.xr 1).fst) 1), (Instr.lswap 3 0 1 2 3, [vReg 1, vReg (1 + 1), vReg 2, vReg (2 + 1), 3], 32, (thr16.xr 3).snd || (thr16.vr 1).snd
      || (thr16.vr (1 + 1)).snd || (thr16.vr 2).snd || (thr16.vr (2 + 1)).snd, effAddr (thr16.xr 3).fst 0, 128, [2], true, AccKind.line false
      (vecBytes (thr16.vr 1).fst ++ vecBytes (thr16.vr (1 + 1)).fst) (vecBytes (thr16.vr 2).fst ++ vecBytes (thr16.vr (2 + 1)).fst) 2 0), (Instr.lcas 3 0 1
      2 3 1, [vReg 1, vReg (1 + 1), vReg 2, vReg (2 + 1), 3, pReg 1], 32, (thr16.xr 3).snd || (thr16.vr 1).snd || (thr16.vr (1 + 1)).snd ||
      (thr16.vr 2).snd || (thr16.vr (2 + 1)).snd, effAddr (thr16.xr 3).fst 0, 128, [2], true, AccKind.line true
      (vecBytes (thr16.vr 1).fst ++ vecBytes (thr16.vr (1 + 1)).fst) (vecBytes (thr16.vr 2).fst ++ vecBytes (thr16.vr (2 + 1)).fst) 2 1), (Instr.vpld2 3 0
      1 3 (0 : Int), [vReg 1, vReg (1 + 1), 3], 33, (thr16.xr 3).snd, effAddr (thr16.xr 3).fst (128 * (0 : Int)), 128, [0], false, AccKind.vload 1 2),
      (Instr.vpst2 3 0 1 3 (0 : Int), [vReg 1, vReg (1 + 1), 3], 34, (thr16.xr 3).snd, effAddr (thr16.xr 3).fst (128 * (0 : Int)), 128, [1], true,
      AccKind.store (vecBytes (thr16.vr 1).fst ++ vecBytes (thr16.vr (1 + 1)).fst) (2 ^ 128 - 1) ((thr16.vr 1).snd || (thr16.vr (1 + 1)).snd) true)])
    ∧ ((flt k1 : State).liveThread 3 0 = some (t1, thr) ∧ (thr.late.all fun e => !([1, 3] : List Nat).contains e.snd) = true ∧
      (thr.accesses.all fun a => a.kind.dests.all fun d => d == 0 || !([1, 3] : List Nat).contains d) = true ∧ (flt k1 : State).recipe t1.recipe = some rk
      ∧ ((thr.xr 3).2 : Bool) = false ∧ (effAddr (thr.xr 3).1 (0) : Nat) % (2 ^ 3 : Nat) = 0 ∧ thr.accesses.length < 16 ∧
      (((trr 0x1A (effAddr (thr.xr 3).1 (0)) [0] false).2 : Status), 1) ∈ [(Status.xlateFault, 1), (Status.rightsFault, 2), (Status.keyMissing, 3)])
    ∧ (((.pld 3 0 1 3 3 (0) : Instr), ([1, 3] : List Nat), 0x1A, ((thr.xr 3).2 : Bool), (effAddr (thr.xr 3).1 (0) : Nat), (2 ^ 3 : Nat), ([0] : List Nat),
      false, (AccKind.load 1 (2 ^ 3) false : AccKind)) ∈
      [(Instr.pld 3 0 1 3 3 (0 : Int), [1, 3], 26, (thr.xr 3).snd, effAddr (thr.xr 3).fst (0 : Int), 2 ^ 3, [0], false, AccKind.load 1 (2 ^ 3) false),
      (Instr.plds 3 0 1 3 3 (0 : Int), [1, 3], 27, (thr.xr 3).snd, effAddr (thr.xr 3).fst (0 : Int), 2 ^ 3, [0], false, AccKind.load 1 (2 ^ 3) true),
      (Instr.pst 3 0 1 3 3 (0 : Int), [1, 3], 28, (thr.xr 3).snd, effAddr (thr.xr 3).fst (0 : Int), 2 ^ 3, [1], true, AccKind.store
      (leBytes (2 ^ 3) (BitVec.toNat (thr.xr 1).fst)) (2 ^ 2 ^ 3 - 1) (thr.xr 1).snd false),
      (Instr.vpld 3 0 1 3 (0 : Int), [vReg 1, 3], 29, (thr.xr 3).snd, effAddr (thr.xr 3).fst (64 * (0 : Int)), 64, [0], false, AccKind.vload 1 1),
      (Instr.vpst 3 0 1 3 1 (0 : Int), [vReg 1, 3, pReg 1], 30, (thr.xr 3).snd, effAddr (thr.xr 3).fst (64 * (0 : Int)), 64, [1], true, AccKind.store
      (vecBytes (thr.vr 1).fst) (BitVec.toNat (thr.pr 1)) (thr.vr 1).snd false), (Instr.pamo 3 0 1 3 2 1, [1, 3, 2], 31, (thr.xr 3).snd || (thr.xr 2).snd
      || 1 == 3 && (thr.xr 1).snd, effAddr (thr.xr 3).fst 0, 8, [2], true, AccKind.amo 1 (BitVec.toNat (thr.xr 2).fst) (BitVec.toNat (thr.xr 1).fst) 1),
      (Instr.lswap 3 0 1 2 3, [vReg 1, vReg (1 + 1), vReg 2, vReg (2 + 1), 3], 32, (thr.xr 3).snd || (thr.vr 1).snd || (thr.vr (1 + 1)).snd ||
      (thr.vr 2).snd || (thr.vr (2 + 1)).snd, effAddr (thr.xr 3).fst 0, 128, [2], true, AccKind.line false
      (vecBytes (thr.vr 1).fst ++ vecBytes (thr.vr (1 + 1)).fst) (vecBytes (thr.vr 2).fst ++ vecBytes (thr.vr (2 + 1)).fst) 2 0), (Instr.lcas 3 0 1 2 3 1,
      [vReg 1, vReg (1 + 1), vReg 2, vReg (2 + 1), 3, pReg 1], 32, (thr.xr 3).snd || (thr.vr 1).snd || (thr.vr (1 + 1)).snd || (thr.vr 2).snd ||
      (thr.vr (2 + 1)).snd, effAddr (thr.xr 3).fst 0, 128, [2], true, AccKind.line true (vecBytes (thr.vr 1).fst ++ vecBytes (thr.vr (1 + 1)).fst)
      (vecBytes (thr.vr 2).fst ++ vecBytes (thr.vr (2 + 1)).fst) 2 1), (Instr.vpld2 3 0 1 3 (0 : Int), [vReg 1, vReg (1 + 1), 3], 33, (thr.xr 3).snd,
      effAddr (thr.xr 3).fst (128 * (0 : Int)), 128, [0], false, AccKind.vload 1 2), (Instr.vpst2 3 0 1 3 (0 : Int), [vReg 1, vReg (1 + 1), 3], 34,
      (thr.xr 3).snd, effAddr (thr.xr 3).fst (128 * (0 : Int)), 128, [1], true, AccKind.store (vecBytes (thr.vr 1).fst ++ vecBytes (thr.vr (1 + 1)).fst)
      (2 ^ 128 - 1) ((thr.vr 1).snd || (thr.vr (1 + 1)).snd) true)])
    ∧ (translate (dieOfCluster (clusterOf 3)) rk.ctx (effAddr (thr.xr 3).1 (0) : Nat) ([0] : List Nat) false
      (firstIssue 3 t1 (takeTurn 3 0 (flt k1 : State))) =
      (((trf (effAddr (thr.xr 3).1 (0)) [0] false).1 : State), XRes.fault (trx (effAddr (thr.xr 3).1 (0)) [0] false : XFault)))
    ∧ (recordFault { slot := rk.slot, source := 2, opcode := 0x1A, eid := rk.src, tag := rk.tag } rk.ctx (effAddr (thr.xr 3).1 (0) : Nat)
      (trx (effAddr (thr.xr 3).1 (0)) [0] false : XFault) (settled (settleThread 3 0) rk.ctx ((trf (effAddr (thr.xr 3).1 (0)) [0] false).1 : State)) =
      (((trr 0x1A (effAddr (thr.xr 3).1 (0)) [0] false).1 : State), ((trr 0x1A (effAddr (thr.xr 3).1 (0)) [0] false).2 : Status))) :=
  ⟨by decide +kernel, by decide +kernel, List.Mem.head _, pairOf rfl (by decide +kernel), by decide +kernel, List.Mem.head _, by decide +kernel,
   List.Mem.head _, by decide +kernel, List.Mem.head _, by decide +kernel, List.Mem.head _, pairOf rfl (by decide +kernel), pairOf rfl rfl⟩

end Sys2Proof.Tests.Accesses

namespace Sys2Proof.Tests.KernelTiles
set_option Elab.async false

/-! Witnesses: for every clause of the statements about kernel tiles and the kernel store, a state and operands that meet its hypotheses. -/

def acc0 (k : AccKind) : Access := { n := 0, addr := 264, pa := 264, tenant := 5, keyId := 1, tier := 0, major := 0x1A, pc := 1, kind := k }
def thrA (k : AccKind) : Thread := { thr with accesses := [acc0 k], nextAcc := 1 }
def pan (s : State) : State := s.onMem fun m => { m with
      lines := [(2, { LineMeta.reset with inPantry := true, tenant := 5, keyId := 1, key := some 99 })],
      cells := [(264, 200), (265, 255), (271, 255)] }
def kk (k : AccKind) : State := pan (kern [(0, thrA k), (1, thr)])
def tt (k : AccKind) : CoreTile := kTile [(0, thrA k), (1, thr)]
def wh : AccBy := AccBy.kernel 3 0 0 3
def rl (k : AccKind) : State := (readyLine wh 2 0 k.writes k.fetches (kk k)).1
def yl (k : AccKind) : State := allocate 1 (acc0 k) (useReturned wh.src wh.tag (rl k))
def ld : AccKind := .load 9 4 true
def vl : AccKind := .vload 2 1
def st : AccKind := .store [1, 2, 3] 5 false false
def am (n : Nat) : AccKind := .amo n 7 9 11
def busyL : State := (kk st).onDir fun d => { d with
      entries := [(2, { mkEntry .modified 4 with recalling := true })],
      regions := [(0, {lines := 1, ctx := 5, addr := 0})],
      recalls := [(2, { down := false, awaited := [4], crossed := [], dataDue := [], keep := [], cause := .none })] }
def dpa : Nat := 2 ^ 48 + 264
def accD : Access := { acc0 ld with addr := 264, pa := dpa }
def thrD : Thread := { thr with accesses := [accD], nextAcc := 1 }
def quar0 : State := kern [(0, thrD), (1, thr)]
def quar : State := quar0.onDeep fun d => { d with quarantined := [(homeCluster (dpa / 128 * 128), quar0.frameSet (granuleOf (dpa / 128 * 128)))] }
def rk : Recipe := { recOf kernDesc .running with next := 4 }
def knl : Kernel := { 
      ctx := 5,
      addr := 65536-256,
      textLen := 400,
      tray := 4096,
      signer := 0,
      tenant := 0,
      keyId := 0,
      imageId := 1,
      entries := [0, 0xFFFFFFFF],
      text := [],
      sha := 0,
      loadedAt := 0 }
def ks (b : Bool) : State := (kern []).onCore fun c => { c with store := if b then [(6, knl)] else [] }
def ktr (b : Bool) := translate 0 5 65536 [4] false (ks b)
def fillD : Desc := { kernDesc with code := 1, w2 := 65536, w3 := 256, w5 := 0, w6 := 0 }
def tl : CoreTile := { kTile [] with kernel := false, tile := 0 }
def run0 : State := { world with
      recp := { world.recp with recipes := [recOf fillD .running] },
      core := { world.core with cores := [(3, { Core.reset with run := some tl })] } }
def rkl : Recipe := { rk with lost := [(2, 9)] }
def rs : State := run0.onBoot fun b => { b with units := [((.core, 3), {(unitDefault .core 3) with st := .resetting})] }
def img : List Byte := leBytes 256 (0x31494B56 + 0x0100 * 2^32 + 4 * 2^96 + 128 * 2^128 + (2^(32*16) - 2^32) * 2^256) ++ leBytes 4 0 ++ leBytes 96 5
def hdr : List Byte := leBytes 64 (1 + 5 * 2^16 + 1 * 2^32 + 4096 * 2^128 + 4 * 2^180 + 5 * 2^192)
def ls : State := (world.onKodp fun k => { k with objs := (.contextTableBase, 2^20) :: k.objs }).onMem fun m => { m with
      cells := ((List.range 356).filterMap (fun i => let b := img.getD i 0; if b = 0 then none else some (65536 + i, b))) ++
        ((List.range 64).filterMap (fun i => let b := hdr.getD i 0; if b = 0 then none else some (2^20 + 5 * 1024 + i, b))),
      lines := (List.range 3).map fun i => (512 + i, { LineMeta.reset with inPantry := true, tenant := 5, keyId := 1, key := some 99 }) }
def karg : List Byte := leBytes 2 5 ++ leBytes 8 65536 ++ leBytes 4 356
def kt := translate 0 5 65536 [4] false (begun (cmdObj 0x1A20 1 rolePm) rP karg 2 ls)
def kp : Assoc Nat Page := [(1, { pa := 65536, tenant := 5, keyId := 1, tier := 0 })]
def kw : State := (readySpans AccBy.load kp false (spanLines [rdSpan 65536 356]) (settled settleLoad 5 kt.1)).1
def kz := loadImage 5 65536 356 (bytesAt (kw.reader kp) 65536 356) kw

set_option maxRecDepth 100000 in
theorem witness_PoolAccessReturns :
    ((kk ld : State).frozen = false ∧ ((kk ld : State).coreRec 3).run = some (tt ld : CoreTile) ∧ aget (tt ld : CoreTile).threads 0 = some
      (thrA ld : Thread) ∧ (tt ld : CoreTile).ending = TileEnd.running ∧ (thrA ld : Thread).exited = false ∧ accessDue (thrA ld : Thread) 0 = some
      (acc0 ld : Access) ∧ (acc0 ld : Access).kind = AccKind.load 9 4 true ∧ (yl ld : State).view ((acc0 ld : Access).pa / 128) (acc0 ld : Access).tenant
      (acc0 ld : Access).keyId = ((((yl ld).view 2 5 1).1 : Bool), (((yl ld).view 2 5 1).2 : List Byte)))
    ∧ ((yl ld : State) = allocate (tt ld : CoreTile).recipe (acc0 ld : Access) (useReturned wh.src wh.tag (rl ld : State)))
    ∧ (wh = AccBy.kernel 3 0 0 ((Option.map (fun r => r.slot) ((kk ld : State).recipe (tt ld : CoreTile).recipe)).getD 8192))
    ∧ (readyLine wh ((acc0 ld : Access).pa / 128) (acc0 ld : Access).tier (acc0 ld : Access).kind.writes (acc0 ld : Access).kind.fetches (kk ld : State) =
      ((rl ld : State), LineReady.ready))
    ∧ ((kk vl : State).frozen = false ∧ ((kk vl : State).coreRec 3).run = some (tt vl : CoreTile) ∧ aget (tt vl : CoreTile).threads 0 = some
      (thrA vl : Thread) ∧ (tt vl : CoreTile).ending = TileEnd.running ∧ (thrA vl : Thread).exited = false ∧ accessDue (thrA vl : Thread) 0 = some
      (acc0 vl : Access) ∧ (acc0 vl : Access).kind = AccKind.vload 2 1 ∧ (yl vl : State).view ((acc0 vl : Access).pa / 128) (acc0 vl : Access).tenant
      (acc0 vl : Access).keyId = ((((yl vl).view 2 5 1).1 : Bool), (((yl vl).view 2 5 1).2 : List Byte)))
    ∧ ((yl vl : State) = allocate (tt vl : CoreTile).recipe (acc0 vl : Access) (useReturned wh.src wh.tag (rl vl : State)))
    ∧ (wh = AccBy.kernel 3 0 0 ((Option.map (fun r => r.slot) ((kk vl : State).recipe (tt vl : CoreTile).recipe)).getD 8192))
    ∧ (readyLine wh ((acc0 vl : Access).pa / 128) (acc0 vl : Access).tier (acc0 vl : Access).kind.writes (acc0 vl : Access).kind.fetches (kk vl : State) =
      ((rl vl : State), LineReady.ready))
    ∧ ((kk st : State).frozen = false ∧ ((kk st : State).coreRec 3).run = some (tt st : CoreTile) ∧ aget (tt st : CoreTile).threads 0 = some
      (thrA st : Thread) ∧ (tt st : CoreTile).ending = TileEnd.running ∧ (thrA st : Thread).exited = false ∧ accessDue (thrA st : Thread) 0 = some
      (acc0 st : Access) ∧ (acc0 st : Access).kind = AccKind.store ([1,2,3] : List Byte) 5 false false ∧ (rl st : State).lineFailed
      ((acc0 st : Access).pa / 128) = false)
    ∧ ((rl st : State).storeOf ((acc0 st : Access).pa / 128) = some ((acc0 st : Access).pa / 128) ∧ isDeepPa ((acc0 st : Access).pa / 128 * 128) = false ∧
      (rl st : State).obs.dumps = [] ∧ 5 ≠ 0 ∧ (false = true → (acc0 st : Access).pa % 128 = 0 ∧ ([1,2,3] : List Byte).length = 128) ∧
      (acc0 st : Access).pa % 128 + ([1,2,3] : List Byte).length ≤ 128)
    ∧ ((rl st : State).MemWf)
    ∧ (wh = AccBy.kernel 3 0 0 ((Option.map (fun r => r.slot) ((kk st : State).recipe (tt st : CoreTile).recipe)).getD 8192))
    ∧ (readyLine wh ((acc0 st : Access).pa / 128) (acc0 st : Access).tier (acc0 st : Access).kind.writes (acc0 st : Access).kind.fetches (kk st : State) =
      ((rl st : State), LineReady.ready))
    ∧ ((kk (am 1) : State).frozen = false ∧ ((kk (am 1) : State).coreRec 3).run = some (tt (am 1) : CoreTile) ∧ aget (tt (am 1) : CoreTile).threads 0 =
      some (thrA (am 1) : Thread) ∧ (tt (am 1) : CoreTile).ending = TileEnd.running ∧ (thrA (am 1) : Thread).exited = false ∧ accessDue
      (thrA (am 1) : Thread) 0 = some (acc0 (am 1) : Access) ∧ (acc0 (am 1) : Access).kind = AccKind.amo 1 7 9 11 ∧ 1 ≠ 3)
    ∧ ((acc0 (am 1) : Access).pa % 8 = 0 ∧ (rl (am 1) : State).lineFailed ((acc0 (am 1) : Access).pa / 128) = false ∧ (rl (am 1) : State).mergePoisons
      ((acc0 (am 1) : Access).pa / 128) (acc0 (am 1) : Access).tenant = false ∧ (rl (am 1) : State).storeOf ((acc0 (am 1) : Access).pa / 128) = some
      ((acc0 (am 1) : Access).pa / 128) ∧ isDeepPa ((acc0 (am 1) : Access).pa / 128 * 128) = false ∧ (rl (am 1) : State).obs.dumps = [] ∧
      (leNat ((((rl (am 1)).dataOf 2 5 1).drop 8).take 8) : Nat) = leNat (List.take 8 (List.drop ((acc0 (am 1) : Access).pa % 128)
      ((rl (am 1) : State).dataOf ((acc0 (am 1) : Access).pa / 128) (acc0 (am 1) : Access).tenant (acc0 (am 1) : Access).keyId))))
    ∧ ((rl (am 1) : State).MemWf)
    ∧ (wh = AccBy.kernel 3 0 0 ((Option.map (fun r => r.slot) ((kk (am 1) : State).recipe (tt (am 1) : CoreTile).recipe)).getD 8192))
    ∧ (readyLine wh ((acc0 (am 1) : Access).pa / 128) (acc0 (am 1) : Access).tier (acc0 (am 1) : Access).kind.writes (acc0 (am 1) : Access).kind.fetches
      (kk (am 1) : State) = ((rl (am 1) : State), LineReady.ready))
    ∧ ((kk st : State).frozen = false ∧ ((kk st : State).coreRec 3).run = some (tt st : CoreTile) ∧ aget (tt st : CoreTile).threads 0 = some
      (thrA st : Thread) ∧ (tt st : CoreTile).ending = TileEnd.running ∧ (thrA st : Thread).exited = false ∧ accessDue (thrA st : Thread) 0 = some
      (acc0 st : Access) ∧ (acc0 st : Access).kind.writes = true)
    ∧ (wh = AccBy.kernel 3 0 0 ((Option.map (fun r => r.slot) ((kk st : State).recipe (tt st : CoreTile).recipe)).getD 8192))
    ∧ (quar.frozen = false ∧ (quar.coreRec 3).run = some (kTile [(0, thrD), (1, thr)] : CoreTile) ∧ aget (kTile [(0, thrD), (1, thr)] : CoreTile).threads 0
      = some thrD ∧ (kTile [(0, thrD), (1, thr)] : CoreTile).ending = TileEnd.running ∧ thrD.exited = false ∧ accessDue thrD 0 = some accD ∧ accD.kind =
      AccKind.load 9 4 true)
    ∧ (wh = AccBy.kernel 3 0 0 ((Option.map (fun r => r.slot) (quar.recipe (kTile [(0, thrD), (1, thr)] : CoreTile).recipe)).getD 8192))
    ∧ (readyLine wh (accD.pa / 128) accD.tier accD.kind.writes accD.kind.fetches quar =
      (((readyLine wh (dpa / 128) 0 false true quar).1 : State), LineReady.fail Status.poisoned))
    ∧ (busyL.frozen = false ∧ (busyL.coreRec 3).run = some (tt st : CoreTile) ∧ aget (tt st : CoreTile).threads 0 = some (thrA st : Thread) ∧
      (tt st : CoreTile).ending = TileEnd.running ∧ (thrA st : Thread).exited = false ∧ accessDue (thrA st : Thread) 0 = some (acc0 st : Access))
    ∧ (wh = AccBy.kernel 3 0 0 ((Option.map (fun r => r.slot) (busyL.recipe (tt st : CoreTile).recipe)).getD 8192))
    ∧ (readyLine wh ((acc0 st : Access).pa / 128) (acc0 st : Access).tier (acc0 st : Access).kind.writes (acc0 st : Access).kind.fetches busyL =
      (((readyLine wh 2 0 true true busyL).1 : State), LineReady.wait))
    ∧ ((kk st : State).frozen = false ∧ ((kk st : State).coreRec 3).run = some (tt st : CoreTile) ∧ aget (tt st : CoreTile).threads 0 = some
      (thrA st : Thread) ∧ (tt st : CoreTile).ending = TileEnd.running ∧ (thrA st : Thread).exited = false)
    ∧ (wh = AccBy.kernel 3 0 0 ((Option.map (fun r => r.slot) ((kk st : State).recipe (tt st : CoreTile).recipe)).getD 8192))
    ∧ (List.find? (fun a => a.n == 0) (thrA st : Thread).accesses = some (acc0 st : Access)) :=
  ⟨by decide +kernel, by rfl, by decide +kernel, pairOf rfl (by decide +kernel), by decide +kernel, by rfl, by decide +kernel,
   pairOf rfl (by decide +kernel), by decide +kernel, by decide +kernel, by unfold State.MemWf; decide +kernel, by decide +kernel,
   pairOf rfl (by decide +kernel), by decide +kernel, by decide +kernel, by unfold State.MemWf; decide +kernel, by decide +kernel,
   pairOf rfl (by decide +kernel), by decide +kernel, by decide +kernel, by decide +kernel, by decide +kernel, pairOf rfl (by decide +kernel),
   by decide +kernel, by decide +kernel, pairOf rfl (by decide +kernel), by decide +kernel, by decide +kernel, by decide +kernel⟩

set_option maxRecDepth 100000 in
theorem witness_KernelTiles :
    ((ks true : State).frozen = false ∧ ((ks true : State).coreRec 3).run = some (kTile [] : CoreTile) ∧ (ks true : State).recipe
      (kTile [] : CoreTile).recipe = some rk ∧ (kTile [] : CoreTile).kernel = true ∧ (kTile [] : CoreTile).ending = TileEnd.running ∧
      (kTile [] : CoreTile).threads = [] ∧ (ks true : State).coreAble 3 = true ∧ ((ktr true).1 : State).kernelEntry rk.ctx rk.d.w2 = some (6, 0))
    ∧ aget ((ktr true).1 : State).core.store 6 = some knl
    ∧ (translate (dieOfCluster (clusterOf 3)) rk.ctx rk.d.w2 [4] false (ks true : State) = (((ktr true).1 : State), XRes.ok 65536 5 1 0))
    ∧ ((ks false : State).frozen = false ∧ ((ks false : State).coreRec 3).run = some (kTile [] : CoreTile) ∧ (ks false : State).recipe
      (kTile [] : CoreTile).recipe = some rk ∧ (kTile [] : CoreTile).kernel = true ∧ (kTile [] : CoreTile).ending = TileEnd.running ∧
      (kTile [] : CoreTile).threads = [] ∧ (ks false : State).coreAble 3 = true ∧ rk.failed = [])
    ∧ ((ktr false).1 : State).kernelEntry rk.ctx rk.d.w2 = none
    ∧ (translate (dieOfCluster (clusterOf 3)) rk.ctx rk.d.w2 [4] false (ks false : State) = (((ktr false).1 : State), XRes.ok 65536 5 1 0))
    ∧ (run0.frozen = false ∧ (run0.coreRec 3).run = some tl ∧ run0.recipe tl.recipe = some (recOf fillD .running : Recipe) ∧ tl.kernel = false ∧
      (recOf fillD .running : Recipe).lost = [] ∧ (recOf fillD .running : Recipe).d.code ≠ 13)
    ∧ ((kern [(0, thr)] : State).frozen = false ∧ ((kern [(0, thr)] : State).coreRec 3).run = some (kTile [(0, thr)] : CoreTile) ∧
      (kern [(0, thr)] : State).recipe (kTile [(0, thr)] : CoreTile).recipe = some rk ∧ (kern [(0, thr)] : State).liveThread 3 0 = some
      ((kTile [(0, thr)] : CoreTile), thr) ∧ rk.lost = [] ∧ bits rk.d.w6 8 1 = 0 ∧ (kTile [(0, thr)] : CoreTile).quiet = true)
    ∧ (((kern [(0, thr)]).onRecp fun x => { x with recipes := [rkl]} : State).frozen = false ∧
      (((kern [(0, thr)]).onRecp fun x => { x with recipes := [rkl]} : State).coreRec 3).run = some (kTile [(0, thr)] : CoreTile) ∧
      ((kern [(0, thr)]).onRecp fun x => { x with recipes := [rkl]} : State).recipe (kTile [(0, thr)] : CoreTile).recipe = some rkl ∧
      ((kern [(0, thr)]).onRecp fun x => { x with recipes := [rkl]} : State).liveThread 3 0 = some ((kTile [(0, thr)] : CoreTile), thr) ∧ ahas rkl.lost
      (kTile [(0, thr)] : CoreTile).tile = true)
    ∧ (run0.frozen = false ∧ (run0.coreRec 3).run = some tl ∧ run0.recipe tl.recipe = some (recOf fillD .running : Recipe) ∧ run0.coreResetting 3 = false ∧
      tl.kernel = false)
    ∧ (rs.frozen = false ∧ (rs.coreRec 3).run = some tl ∧ rs.recipe tl.recipe = some (recOf fillD .running : Recipe) ∧ rs.coreResetting 3 = true) :=
  ⟨by decide +kernel, by decide +kernel, pairOf rfl (by decide +kernel), by decide +kernel, by decide +kernel, pairOf rfl (by decide +kernel),
   by decide +kernel, by decide +kernel, by decide +kernel, by decide +kernel, by decide +kernel⟩

set_option maxRecDepth 100000 in
theorem witness_KernelStore :
    (karg = leBytes 2 5 ++ leBytes 8 65536 ++ leBytes 4 356 ∧ 0 < 5 ∧ 5 < 65536 ∧ (ls.readDesc 5).bad 5 = false ∧ 65536 % 128 = 0 ∧ 356 < 2 ^ 32 ∧ 0 < 356
      ∧ 356 ≤ 16736)
    ∧ (65536 % 65536 + 356 ≤ 65536 ∧ ls.standby = false ∧ kp = [(65536 / 65536, { pa := 65536 / 65536 * 65536, tenant := 5, keyId := 1, tier := 0 })] ∧
      poisonAt (kw.reader kp) 65536 356 = false ∧ ls.accepts (cmdObj 6688 1 rolePm) rP 2 karg = true)
    ∧ (translate 0 5 65536 [4] false (begun (cmdObj 6688 1 rolePm) rP karg 2 ls) = ((kt.1 : State), XRes.ok 65536 5 1 0))
    ∧ (readySpans AccBy.load kp false (spanLines [rdSpan 65536 356]) (settled settleLoad 5 (kt.1 : State)) = (kw, LineReady.ready))
    ∧ (loadImage 5 65536 356 (bytesAt (kw.reader kp) 65536 356) kw = ((kz.1 : State), (kz.2.1 : Status), (kz.2.2 : List Byte)))
    ∧ (imageOk img 356 = true ∧ ls.obj Obj.signerPolicy = 0 ∧ bits (leNat (List.take 256 img)) 48 8 = 0 ∧
      (textWords (List.take (bits (leNat (List.take 256 img)) 96 32) (List.drop 256 img))).all legalWord = true ∧ ls.loadHandle 5 65536 = some 0 ∧
      ls.kernelBusy 0 = false)
    ∧ ((Config.deviceKey 6 : Nat) = Config.deviceKey 6)
    ∧ (6 < 256 ∧ (world.onCore fun c => { c with store := [(6, knl), (7, knl)], cores := [(3, {Core.reset with resident := some 6})] } : State).standby =
      false ∧ ahas
      (world.onCore fun c => { c with store := [(6, knl), (7, knl)], cores := [(3, {Core.reset with resident := some 6})] } : State).core.store 6 = true ∧
      (world.onCore fun c => { c with store := [(6, knl), (7, knl)], cores := [(3, {Core.reset with resident := some 6})] } : State).kernelBusy 6 = false ∧
      (world.onCore fun c => { c with store := [(6, knl), (7, knl)], cores := [(3, {Core.reset with resident := some 6})] } : State).accepts
      (cmdObj 6688 2 rolePm) rP 2 (leBytes 2 6) = true) :=
  ⟨by decide +kernel, by decide +kernel, pairOf rfl (by decide +kernel), pairOf rfl (by decide +kernel), pairOf rfl (pairOf rfl rfl), by decide +kernel,
   by rfl, by decide +kernel⟩

end Sys2Proof.Tests.KernelTiles

namespace Sys2Proof.Tests.Twin
set_option Elab.async false

/-! Witnesses: for every clause of the statements about the twin, a state and operands that meet its hypotheses. -/

def ann (sv ep : Nat) : Packet := { pktOf 0 8 0 (leBytes 16 (sv + ep * 2^64)) with dest := 0x3FFFF }.close
def ud : Sent := { stream := 0, mseq := 3, line := some 4, sentAt := 0, port := 36, pkt := ann 2 3, undo := some (leBytes 128 (5^200), LineMeta.reset) }
def actU : State := ((twinIn .active).onTwin fun t => { t with unacked := [ud] }).onMem fun m => { m with cells := [(3, 7), (512, 9), (600, 8), (640, 4)] }
def hel (code state pref ep : Nat) : Packet := twPkt 0xA0 1
  (leBytes 16 (60 + 2 * 2^32 + code * 2^64 + state * 2^72 + 0 * 2^80 + pref * 2^88) ++ leBytes 16 (5 + ep * 2^64))
def H (c st p e : Nat) : Peer := helloPeer (hel c st p e)
def en : State := (twinIn .enrolling).onTwin fun t => { t with peerEid := 0, peer := none }
def ka (st ep : Nat) : Packet := twPkt 0xA1 0 (leBytes 16 (ep + st * 2^32 + 60 * 2^40))
def twm (st : TwinSt) (f : TwinState → TwinState) : State := (twinIn st).onTwin f
def rel : Packet := twPkt 0xA2 0 (leBytes 16 (10 + 2^32))
def ack (a b : Nat) : Packet := twPkt 0xA3 0 (leBytes 16 (a + b * 2^32))
def act : State := twm .active fun t => { t with
      mseq0 := 5,
      mseq1 := 2^32 - 1,
      acked0 := 2,
      acked1 := 2^32 - 3,
      unacked := [{ stream := 0, mseq := 3, line := some 4, sentAt := 0, port := 36, pkt := rel, undo := none },
        { stream := 0, mseq := 4, line := some 4, sentAt := 0, port := 36, pkt := rel, undo := none },
        { stream := 1, mseq := 2^32 - 2, line := none, sentAt := 0, port := 36, pkt := rel, undo := none }] }
def sb : State := twm .standby fun t => { t with applied0 := 6 }
def ml (n : Nat) : Packet := twPkt 0xA4 0 (leBytes 16 (2 + 3 * 2^48 + n * 2^80) ++ leBytes 128 (3^400))
def rs (n : Nat) : Packet := twPkt 0xA6 0 (leBytes 16 (2 + 1 * 2^46) ++ leBytes 16 (n * 2^96) ++ leBytes 128 (3^400))
def ms (n : Nat) : Packet := twPkt 0xA5 0 (leBytes 16 (n + 1 * 2^40) ++ leBytes 16 (4 + 1 * 2^8 + 77 * 2^16 + 5 * 2^32))
def rp : Packet := twPkt 0xA7 3 (leBytes 16 2)
def pant (s : State) : State := s.onMem fun m => { m with lines := [(2, { LineMeta.reset with inPantry := true })] }
def rd : Packet := twPkt 0xA8 7 (leBytes 16 2 ++ leBytes 128 (3^400))
def rpq : PoolReq := { dest := 60, tag := 7, port := 36, issuer := .repair, pkt := rp, key := 2 }
def rpS : State := (act.onTxn fun t => { t with pool := [rpq] }).onInteg fun i => { i with repairs := [{ line := 2, tag := 7, cause := .scrub }] }
def fr (k e : Nat) : Nat := let x := 0xB4 + k * 2^8 + e * 2^16; x + crc8 (leBytes 7 x) * 2^56
def rsy (d : List (Nat × Nat × Nat × List Byte)) (o : Option (List Nat)) : Resync := { 
      delta := false,
      dump := d,
      sweep0 := { next := 0, only := o },
      sweep1 := { next := 0, only := o },
      end0 := none,
      end1 := none,
      doneLines := 0,
      startedAt := 0 }
def fd (r : Resync) : State := twm .feeding fun t => { t with resync := some r, mseq0 := 2^32-1 }
def ry := rsy [] none
def pan3 (s : State) : State := s.onMem fun m => { m with lines := (List.range 3).map fun i => (i, { LineMeta.reset with inPantry := true }) }
def tk (f : TwinState → TwinState) : State := { twm .standby f with part := PartnerState.reset }

set_option maxRecDepth 100000 in
theorem witness_TwinAgrees :
    ((twinIn .alone : State).portUp 0 = true ∧ isFabric 0 = true ∧ (twinIn .alone : State).obj Obj.nodeEid ≠ 0 ∧ (twinIn .alone : State).obj Obj.serviceEid
      ≠ 0 ∧ (twinIn .alone : State).obj Obj.serviceEid ≠ 262143 ∧ (ann 2 9 : Packet).src ≠ 0 ∧ (ann 2 9 : Packet).src < 261888 ∧
      (twinIn .alone : State).compact 0 = false)
    ∧ ((ann 2 9 : Packet).dest = 262143 ∧ (ann 2 9 : Packet).op = 8 ∧ (ann 2 9 : Packet).crcGood = true ∧ (ann 2 9 : Packet).malformed = false ∧ (leNat
      (List.take 4 (ann 2 9 : Packet).body) % 2 ^ 18 ≠ (twinIn .alone : State).obj Obj.serviceEid ∨ leNat
      (List.take 4 (List.drop 8 (ann 2 9 : Packet).body)) ≤ (twinIn .alone : State).twin.epoch))
    ∧ ((twinIn .alone : State).portUp 0 = true ∧ isFabric 0 = true ∧ (twinIn .alone : State).obj Obj.nodeEid ≠ 0 ∧ (twinIn .alone : State).obj
      Obj.serviceEid ≠ 0 ∧ (twinIn .alone : State).obj Obj.serviceEid ≠ 262143 ∧ (ann 2 10 : Packet).src ≠ 0 ∧ (ann 2 10 : Packet).src < 261888 ∧
      (twinIn .alone : State).compact 0 = false)
    ∧ ((ann 2 10 : Packet).dest = 262143 ∧ (ann 2 10 : Packet).op = 8 ∧ (ann 2 10 : Packet).crcGood = true ∧ (ann 2 10 : Packet).malformed = false ∧ leNat
      (List.take 4 (ann 2 10 : Packet).body) % 2 ^ 18 = (twinIn .alone : State).obj Obj.serviceEid ∧ (twinIn .alone : State).twin.epoch < leNat
      (List.take 4 (List.drop 8 (ann 2 10 : Packet).body)) ∧ (twinIn .alone : State).twin.st = TwinSt.alone)
    ∧ (actU.portUp 0 = true ∧ isFabric 0 = true ∧ actU.obj Obj.nodeEid ≠ 0 ∧ actU.obj Obj.serviceEid ≠ 0 ∧ actU.obj Obj.serviceEid ≠ 262143 ∧
      (ann 2 10 : Packet).src ≠ 0 ∧ (ann 2 10 : Packet).src < 261888 ∧ actU.compact 0 = false)
    ∧ ((ann 2 10 : Packet).dest = 262143 ∧ (ann 2 10 : Packet).op = 8 ∧ (ann 2 10 : Packet).crcGood = true ∧ (ann 2 10 : Packet).malformed = false ∧ leNat
      (List.take 4 (ann 2 10 : Packet).body) % 2 ^ 18 = actU.obj Obj.serviceEid ∧ actU.twin.epoch < leNat
      (List.take 4 (List.drop 8 (ann 2 10 : Packet).body)) ∧ actU.twin.st = TwinSt.active ∧ actU.twin.unacked = [ud])
    ∧ (ud.line = some 4 ∧ ud.undo = some ((leBytes 128 (5^200) : List Byte), (LineMeta.reset : LineMeta)) ∧ (leBytes 128 (5^200) : List Byte).length = 128)
    ∧ (actU.MemWf)
    ∧ ((twinIn .releasing : State).portUp 0 = true ∧ isFabric 0 = true ∧ (twinIn .releasing : State).obj Obj.nodeEid ≠ 0 ∧ (twinIn .releasing : State).obj
      Obj.serviceEid ≠ 0 ∧ (twinIn .releasing : State).obj Obj.serviceEid ≠ 262143 ∧ (ann 2 10 : Packet).src ≠ 0 ∧ (ann 2 10 : Packet).src < 261888 ∧
      (twinIn .releasing : State).compact 0 = false)
    ∧ ((ann 2 10 : Packet).dest = 262143 ∧ (ann 2 10 : Packet).op = 8 ∧ (ann 2 10 : Packet).crcGood = true ∧ (ann 2 10 : Packet).malformed = false ∧ leNat
      (List.take 4 (ann 2 10 : Packet).body) % 2 ^ 18 = (twinIn .releasing : State).obj Obj.serviceEid ∧ leNat
      (List.take 4 (List.drop 8 (ann 2 10 : Packet).body)) = (twinIn .releasing : State).twin.epoch + 1 ∧ (twinIn .releasing : State).twin.st =
      TwinSt.releasing)
    ∧ (isTwinPort 36 = true ∧ en.portUp 36 = true ∧ (hel 1 1 1 4 : Packet).dest = en.obj Obj.nodeEid ∧ (hel 1 1 1 4 : Packet).crcGood = true ∧
      (hel 1 1 1 4 : Packet).linkMalformed 36 = false ∧ (hel 1 1 1 4 : Packet).op = 160 ∧ (H 1 1 1 4 : Peer) = helloPeer (hel 1 1 1 4 : Packet) ∧
      (H 1 1 1 4 : Peer).service = en.obj Obj.serviceEid)
    ∧ ((H 1 1 1 4 : Peer).units = en.obj Obj.deepCacheUnits ∧ en.twin.st = TwinSt.enrolling ∧ en.twin.refused = 0 ∧ (H 1 1 1 4 : Peer).state = 1 ∧ en.obj
      Obj.homePreference = 0 ∧ (H 1 1 1 4 : Peer).pref = true ∧ max en.twin.epoch (H 1 1 1 4 : Peer).epoch + 1 ≤ 4294967295)
    ∧ ((H 1 1 1 4 : Peer).code = Config.orderingCodeU8)
    ∧ (isTwinPort 36 = true ∧ (en.onKodp fun k => {k with objs := (.homePreference, 1) :: k.objs} : State).portUp 36 = true ∧ (hel 1 1 0 20 : Packet).dest
      = (en.onKodp fun k => {k with objs := (.homePreference, 1) :: k.objs} : State).obj Obj.nodeEid ∧ (hel 1 1 0 20 : Packet).crcGood = true ∧
      (hel 1 1 0 20 : Packet).linkMalformed 36 = false ∧ (hel 1 1 0 20 : Packet).op = 160 ∧ (H 1 1 0 20 : Peer) = helloPeer (hel 1 1 0 20 : Packet) ∧
      (H 1 1 0 20 : Peer).service = (en.onKodp fun k => {k with objs := (.homePreference, 1) :: k.objs} : State).obj Obj.serviceEid)
    ∧ ((H 1 1 0 20 : Peer).units = (en.onKodp fun k => {k with objs := (.homePreference, 1) :: k.objs} : State).obj Obj.deepCacheUnits ∧
      (en.onKodp fun k => {k with objs := (.homePreference, 1) :: k.objs} : State).twin.st = TwinSt.enrolling ∧
      (en.onKodp fun k => {k with objs := (.homePreference, 1) :: k.objs} : State).twin.refused = 0 ∧ (H 1 1 0 20 : Peer).state = 1 ∧
      (en.onKodp fun k => {k with objs := (.homePreference, 1) :: k.objs} : State).obj Obj.homePreference = 1 ∧ (H 1 1 0 20 : Peer).pref = false ∧ max
      (en.onKodp fun k => {k with objs := (.homePreference, 1) :: k.objs} : State).twin.epoch (H 1 1 0 20 : Peer).epoch + 1 ≤ 4294967295)
    ∧ ((H 1 1 0 20 : Peer).code = Config.orderingCodeU8)
    ∧ (isTwinPort 36 = true ∧ (twinIn .standby : State).portUp 36 = true ∧ (hel 1 6 0 20 : Packet).dest = (twinIn .standby : State).obj Obj.nodeEid ∧
      (hel 1 6 0 20 : Packet).crcGood = true ∧ (hel 1 6 0 20 : Packet).linkMalformed 36 = false ∧ (hel 1 6 0 20 : Packet).op = 160 ∧ (H 1 6 0 20 : Peer) =
      helloPeer (hel 1 6 0 20 : Packet) ∧ (H 1 6 0 20 : Peer).service = (twinIn .standby : State).obj Obj.serviceEid)
    ∧ ((H 1 6 0 20 : Peer).units = (twinIn .standby : State).obj Obj.deepCacheUnits ∧ (twinIn .standby : State).twin.st = TwinSt.standby ∧
      (twinIn .standby : State).twin.peerEid = (H 1 6 0 20 : Peer).node ∧ (H 1 6 0 20 : Peer).state = 6)
    ∧ ((H 1 6 0 20 : Peer).code = Config.orderingCodeU8)
    ∧ (isTwinPort 36 = true ∧ en.portUp 36 = true ∧ (hel 2 1 1 4 : Packet).dest = en.obj Obj.nodeEid ∧ (hel 2 1 1 4 : Packet).crcGood = true ∧
      (hel 2 1 1 4 : Packet).linkMalformed 36 = false ∧ (hel 2 1 1 4 : Packet).op = 160 ∧ (H 2 1 1 4 : Peer) = helloPeer (hel 2 1 1 4 : Packet) ∧
      en.twin.st = TwinSt.enrolling)
    ∧ en.twin.refused = 0
    ∧ ((H 2 1 1 4 : Peer).code ≠ Config.orderingCodeU8) :=
  ⟨by decide +kernel, by decide +kernel, by decide +kernel, by decide +kernel, by decide +kernel, by decide +kernel, by decide +kernel,
   by unfold State.MemWf; decide +kernel, by decide +kernel, by decide +kernel, by decide +kernel, by decide +kernel, by decide +kernel, by decide +kernel,
   by decide +kernel, by decide +kernel, by decide +kernel, by decide +kernel, by decide +kernel, by decide +kernel, by decide +kernel, by decide +kernel⟩

theorem witness_TwinPackets :
    (rpS.hears 36 rd = true ∧ rd.op = 168 ∧ rpS.poolReq rd.src rd.tag = some rpq ∧ rpq.issuer = Issuer.repair ∧ rd.status = 0 ∧ bits
      (leNat (List.take 16 rd.body)) 0 45 = rpq.key)
    ∧ (rpS.MemWf)
    ∧ (act.hears 36 (twPkt 0xA9 0 [] : Packet) = true ∧ (twPkt 0xA9 0 [] : Packet).op = 169 ∧ act.twin.st = TwinSt.active)
    ∧ ((twinIn .alone : State).hears 36 (ka 8 9 : Packet) = true ∧ (ka 8 9 : Packet).op = 161 ∧ (leNat ((ka 8 9).body.take 16) : Nat) = leNat
      (List.take 16 (ka 8 9 : Packet).body) ∧ bits (leNat ((ka 8 9).body.take 16) : Nat) 40 18 = (twinIn .alone : State).twin.peerEid ∧ bits
      (leNat ((ka 8 9).body.take 16) : Nat) 0 32 ≤ (twinIn .alone : State).twin.epoch ∧ bits (leNat ((ka 8 9).body.take 16) : Nat) 32 8 ≠ 6)
    ∧ ((twinIn .standby : State).hears 36 rel = true ∧ rel.op = 162 ∧ (leNat (rel.body.take 16) : Nat) = leNat (List.take 16 rel.body) ∧ bits
      (leNat (rel.body.take 16) : Nat) 0 32 = (twinIn .standby : State).twin.epoch + 1 ∧ bits (leNat (rel.body.take 16) : Nat) 32 8 = 1 ∧
      (twinIn .standby : State).twin.st = TwinSt.standby ∧ (twinIn .standby : State).twin.kaLost1ms = false)
    ∧ ((twinIn .active : State).hears 36 rel = true ∧ rel.op = 162 ∧ (twinIn .active : State).twin.st ≠ TwinSt.standby)
    ∧ (act.hears 36 (ack 3 (2^32 - 1) : Packet) = true ∧ (ack 3 (2^32 - 1) : Packet).op = 163 ∧ (leNat ((ack 3 (2^32-1)).body.take 16) : Nat) = leNat
      (List.take 16 (ack 3 (2^32 - 1) : Packet).body) ∧ act.mirrors = true ∧ act.twin.resync = none ∧
      (act.txn.reqs.all fun q => q.phase != ReqPhase.mirror) = true ∧ act.part.heldChanges = [] ∧ act.part.ownWrites = [])
    ∧ (mseqLe act.twin.acked0 (bits (leNat ((ack 3 (2^32-1)).body.take 16) : Nat) 0 32) = true ∧ mseqLe
      (bits (leNat ((ack 3 (2^32-1)).body.take 16) : Nat) 0 32) act.twin.mseq0 = true ∧ mseqLe act.twin.acked1
      (bits (leNat ((ack 3 (2^32-1)).body.take 16) : Nat) 32 32) = true ∧ mseqLe (bits (leNat ((ack 3 (2^32-1)).body.take 16) : Nat) 32 32) act.twin.mseq1
      = true)
    ∧ (sb.hears 36 (ml 7 : Packet) = true ∧ (ml 7 : Packet).op = 164 ∧ 2 = bits (leNat (List.take 16 (ml 7 : Packet).body)) 0 45 ∧ sb.twin.st =
      TwinSt.standby ∧ sb.twin.held = [] ∧ (mirrorKey (ml 7 : Packet)).fst = 0 ∧ (mirrorKey (ml 7 : Packet)).snd = (sb.twin.applied0 + 1) % 2 ^ 32 ∧
      sb.twin.applied0 < 2 ^ 32)
    ∧ (2 * 128 < ledgerBase ∧ (sb.channel (placeOf (2 * 128)).channel).st ≠ ChSt.failed)
    ∧ (sb.MemWf)
    ∧ (sb.hears 36 (rs 7 : Packet) = true ∧ (rs 7 : Packet).op = 166 ∧ 2 = bits (leNat (List.take 16 (rs 7 : Packet).body)) 0 45 ∧ bits
      (leNat (List.take 16 (rs 7 : Packet).body)) 46 2 = 1 ∧ sb.twin.st = TwinSt.standby ∧ sb.twin.held = [] ∧ (mirrorKey (rs 7 : Packet)).fst = 0 ∧
      (mirrorKey (rs 7 : Packet)).snd = (sb.twin.applied0 + 1) % 2 ^ 32)
    ∧ (sb.twin.applied0 < 2 ^ 32 ∧ 2 * 128 < ledgerBase ∧ (sb.channel (placeOf (2 * 128)).channel).st ≠ ChSt.failed)
    ∧ (sb.MemWf)
    ∧ (sb.hears 36 (ms 7 : Packet) = true ∧ (ms 7 : Packet).op = 165 ∧ ((ms 7).body.drop 16 : List Byte) = List.drop 16 (ms 7 : Packet).body ∧ bits
      (leNat (List.take 16 (ms 7 : Packet).body)) 40 8 = 1 ∧ leNat (List.take 1 ((ms 7).body.drop 16 : List Byte)) = 4 ∧ leNat
      (List.take 1 (List.drop 1 ((ms 7).body.drop 16 : List Byte))) = 1 ∧ sb.twin.st = TwinSt.standby ∧ sb.twin.held = [])
    ∧ ((mirrorKey (ms 7 : Packet)).fst = 0 ∧ (mirrorKey (ms 7 : Packet)).snd = (sb.twin.applied0 + 1) % 2 ^ 32 ∧ sb.twin.applied0 < 2 ^ 32)
    ∧ (sb.hears 36 (ml 9 : Packet) = true ∧ (ml 9 : Packet).op = 0xA4 ∧ sb.twin.st = TwinSt.standby ∧ sb.twin.held = [] ∧ sb.twin.repairWaits = [] ∧
      mirrorKey (ml 9 : Packet) = (0, 9) ∧ 9 ≠ (sb.twin.applied0 + 1) % 2 ^ 32 ∧ mseqLe 9 sb.twin.applied0 = false)
    ∧ (((.mrLine 36 (ml 9) : Instr), 0xA4) ∈
      [(Instr.mrLine 36 (ml 9 : Packet), 164), (Instr.mrState 36 (ml 9 : Packet), 165), (Instr.rsLines 36 (ml 9 : Packet), 166)])
    ∧ ((pant act : State).hears 36 rp = true ∧ rp.op = 167 ∧ (leNat (rp.body.take 16) : Nat) = leNat (List.take 16 rp.body) ∧ 2 = bits
      (leNat (rp.body.take 16) : Nat) 0 45 ∧ (pant act : State).owner = true ∧ (pant act : State).twin.repairWaits = [] ∧
      (((pant act : State).channel (channelOfPa (2 * 128))).st = ChSt.failed ∨ ((pant act : State).lineMeta 2).inPantry = true))
    ∧ (act.hears 36 rp = true ∧ rp.op = 167 ∧ (leNat (rp.body.take 16) : Nat) = leNat (List.take 16 rp.body) ∧ 2 = bits (leNat (rp.body.take 16) : Nat) 0
      45 ∧ act.owner = true ∧ act.twin.repairWaits = [] ∧ (act.channel (channelOfPa (2 * 128))).st ≠ ChSt.failed ∧ (act.lineMeta 2).inPantry = false)
    ∧ (act.channel (channelOfPa (2 * 128))).reqs = [] :=
  ⟨by decide +kernel, by unfold State.MemWf; decide +kernel, by decide +kernel, by decide +kernel, by decide +kernel, by decide +kernel, by decide +kernel,
   by decide +kernel, by decide +kernel, by decide +kernel, by unfold State.MemWf; decide +kernel, by decide +kernel, by decide +kernel,
   by unfold State.MemWf; decide +kernel, by decide +kernel, by decide +kernel, by decide +kernel, List.Mem.head _, by decide +kernel, by decide +kernel,
   by decide +kernel⟩

set_option maxRecDepth 100000 in
theorem witness_TwinTimers :
    ((twm .standby fun t => {t with releaseCode := some 4} : State).runs = true ∧ (twm .standby fun t => {t with releaseCode := some 4} : State).twin.st =
      TwinSt.standby ∧ (twm .standby fun t => {t with releaseCode := some 4} : State).twin.releaseCode.isSome = true)
    ∧ (act.runs = true ∧ act.twin.st = TwinSt.active)
    ∧ (sb.runs = true ∧ sb.twin.st = TwinSt.standby ∧ sb.twPorts ≠ [])
    ∧ ((twinIn .alone : State).runs = true ∧ (twinIn .alone : State).twin.st = TwinSt.alone ∧ 0 < 32 ∧ portPresent 0 = true ∧
      ((twinIn .alone : State).port 0).st = PortSt.active)
    ∧ ((twm .enrolling fun t => {t with refused := 4} : State).runs = true ∧ (twm .enrolling fun t => {t with refused := 4} : State).twin.st =
      TwinSt.enrolling ∧ (twm .enrolling fun t => {t with refused := 4} : State).twin.refused ≠ 0)
    ∧ ((sb.onKodp fun k => {k with objs := (.homePreference, 1) :: k.objs} : State).runs = true ∧
      (sb.onKodp fun k => {k with objs := (.homePreference, 1) :: k.objs} : State).twin.st = TwinSt.standby ∧
      (sb.onKodp fun k => {k with objs := (.homePreference, 1) :: k.objs} : State).twin.held = [] ∧
      (sb.onKodp fun k => {k with objs := (.homePreference, 1) :: k.objs} : State).obj Obj.homePreference = 1 ∧
      (sb.onKodp fun k => {k with objs := (.homePreference, 1) :: k.objs} : State).twPorts ≠ [])
    ∧ ((fd (rsy [(0, 4, 1, leBytes 14 5), (1, 4, 1, leBytes 14 6)] none) : State).runs = true ∧
      (fd (rsy [(0, 4, 1, leBytes 14 5), (1, 4, 1, leBytes 14 6)] none) : State).twin.st = TwinSt.feeding ∧
      (fd (rsy [(0, 4, 1, leBytes 14 5), (1, 4, 1, leBytes 14 6)] none) : State).twin.resync = some
      (rsy [(0, 4, 1, leBytes 14 5), (1, 4, 1, leBytes 14 6)] none : Resync) ∧ (rsy [(0, 4, 1, leBytes 14 5), (1, 4, 1, leBytes 14 6)] none : Resync).end0
      = none ∧ (rsy [(0, 4, 1, leBytes 14 5), (1, 4, 1, leBytes 14 6)] none : Resync).dump = ((0, 4, 1, leBytes 14 5) : Nat × Nat × Nat × List Byte) ::
      ([(1, 4, 1, leBytes 14 6)] : List (Nat × Nat × Nat × List Byte)) ∧ ((0, 4, 1, leBytes 14 5) : Nat × Nat × Nat × List Byte).fst = 0)
    ∧ ((pan3 (fd ry) : State).runs = true ∧ (pan3 (fd ry) : State).twin.st = TwinSt.feeding ∧ (pan3 (fd ry) : State).twin.resync = some ry ∧ ry.end0 = none
      ∧ ry.dump = [] ∧ sweepNext 0 ry.sweep0 = some 0)
    ∧ (readSweep 0 0 (min 3 (512 - 0 % 512)) (pan3 (fd ry) : State) = (((readSweep 0 0 3 (pan3 (fd ry))).1 : State), true))
    ∧ ((fd ry : State).runs = true ∧ (fd ry : State).twin.st = TwinSt.feeding ∧ (fd ry : State).twin.resync = some ry ∧ ry.end0 = none ∧ ry.dump = [] ∧
      sweepNext 0 ry.sweep0 = some 0)
    ∧ (readSweep 0 0 (min 3 (512 - 0 % 512)) (fd ry : State) = (((readSweep 0 0 3 (fd ry)).1 : State), false))
    ∧ ((fd (rsy [] (some [])) : State).runs = true ∧ (fd (rsy [] (some [])) : State).twin.st = TwinSt.feeding ∧ (fd (rsy [] (some [])) : State).twin.resync
      = some (rsy [] (some []) : Resync) ∧ (rsy [] (some []) : Resync).end0 = none ∧ (rsy [] (some []) : Resync).dump = [] ∧ sweepNext 0
      (rsy [] (some []) : Resync).sweep0 = none)
    ∧ ((twinIn .solo : State).runs = true ∧ 1 ≤ 1 ∧ (fr 1 9 : Nat) < 2 ^ 64 ∧ bits (fr 1 9 : Nat) 0 8 = 180 ∧ bits (fr 1 9 : Nat) 56 8 = crc8
      (leBytes 7 (bits (fr 1 9 : Nat) 0 56)) ∧ bits (fr 1 9 : Nat) 8 2 = 1 ∧ (twinIn .solo : State).twin.epoch ≤ bits (fr 1 9 : Nat) 16 32)
    ∧ ((twinIn .standby : State).runs = true ∧ 1 ≤ 1 ∧ (fr 2 10 : Nat) < 2 ^ 64 ∧ bits (fr 2 10 : Nat) 0 8 = 180 ∧ bits (fr 2 10 : Nat) 56 8 = crc8
      (leBytes 7 (bits (fr 2 10 : Nat) 0 56)) ∧ bits (fr 2 10 : Nat) 8 2 = 2 ∧ bits (fr 2 10 : Nat) 16 32 = (twinIn .standby : State).twin.epoch + 1 ∧
      (twinIn .standby : State).twin.st = TwinSt.standby)
    ∧ (twinIn .standby : State).twin.kaLost1ms = false
    ∧ ((twinIn .standby : State).runs = true ∧ 1 ≤ 1 ∧ bits 5 0 8 ≠ 180 ∧ ((twinIn .standby : State).lamp 1).state ≠ 1)
    ∧ ((twm .standby fun t => {t with lamp1 := { state := 1, why := 0 }} : State).runs = true ∧ 1 ≤ 1 ∧
      ((twm .standby fun t => {t with lamp1 := { state := 1, why := 0 }} : State).lamp 1).state = 1)
    ∧ ((twm .standby fun t => {t with lamp1 := { state := 1, why := 0 }} : State).runs = true ∧ 0 ≤ 1 ∧
      (twm .standby fun t => {t with lamp1 := { state := 1, why := 0 }} : State).twin.st = TwinSt.standby ∧
      ((twm .standby fun t => {t with lamp1 := { state := 1, why := 0 }} : State).lamp 0).state ≠ 1 ∧
      ((twm .standby fun t => {t with lamp1 := { state := 1, why := 0 }} : State).lamp (1 - 0)).state = 1)
    ∧ ((twinIn .alone : State).runs = true ∧ (twinIn .alone : State).twin.st = TwinSt.alone)
    ∧ ((twinIn .solo : State).runs = true ∧ (twinIn .solo : State).twin.st = TwinSt.solo)
    ∧ ((twinIn .active : State).runs = true ∧ (twinIn .active : State).twin.st = TwinSt.active ∧ (twinIn .active : State).twin.peerEid ≠ 0 ∧
      (twinIn .active : State).twPorts ≠ [])
    ∧ ((twm .syncing fun t => {t with held := [(0, 3, rel)]} : State).runs = true ∧ (twm .syncing fun t => {t with held := [(0, 3, rel)]} : State).twin.st
      = TwinSt.syncing)
    ∧ ((twinIn .standby : State).runs = true ∧ (twinIn .standby : State).twin.st = TwinSt.standby ∧ (twinIn .standby : State).twin.releaseCode = none) :=
  ⟨by decide +kernel, by decide +kernel, by decide +kernel, by decide +kernel, by decide +kernel, by decide +kernel, by decide +kernel, by decide +kernel,
   pairOf rfl (by decide +kernel), by decide +kernel, pairOf rfl (by decide +kernel), by decide +kernel, by decide +kernel, by decide +kernel,
   by decide +kernel, by decide +kernel, by decide +kernel, by decide +kernel, by decide +kernel, by decide +kernel, by decide +kernel, by decide +kernel,
   by decide +kernel⟩

theorem witness_TwinTakeover :
    ((tk fun t => {t with force := some 10, kaLost1ms := true} : State).runs = true ∧
      (tk fun t => {t with force := some 10, kaLost1ms := true} : State).twin.st = TwinSt.standby ∧
      (tk fun t => {t with force := some 10, kaLost1ms := true} : State).mayTake = true ∧
      (tk fun t => {t with force := some 10, kaLost1ms := true} : State).twin.held = [] ∧
      (tk fun t => {t with force := some 10, kaLost1ms := true} : State).recp.recipes = [] ∧
      (tk fun t => {t with force := some 10, kaLost1ms := true} : State).dir.entries = [] ∧
      (tk fun t => {t with force := some 10, kaLost1ms := true} : State).part.slots = [] ∧
      (tk fun t => {t with force := some 10, kaLost1ms := true} : State).obs.dumps = [])
    ∧ (tk fun t => {t with force := some 10, kaLost1ms := true} : State).twin.epoch + 1 ≤ 4294967294
    ∧ (twm .alone fun t => {t with quiescing := true, handback := false} : State).frozen = false
    ∧ ((twm .releasing fun t => {t with paused := true, handback := true} : State).runs = true ∧
      (twm .releasing fun t => {t with paused := true, handback := true} : State).twin.st = TwinSt.releasing ∧
      (twm .releasing fun t => {t with paused := true, handback := true} : State).twin.released = false)
    ∧ ((twm .releasing fun t => {t with lampOut := .release, handback := true} : State).runs = true ∧
      (twm .releasing fun t => {t with lampOut := .release, handback := true} : State).twin.lampOut = LampOut.release)
    ∧ ((twm .releasing fun t => {t with paused := true, released := true} : State).runs = true ∧
      (twm .releasing fun t => {t with paused := true, released := true} : State).twin.st = TwinSt.releasing ∧
      (twm .releasing fun t => {t with paused := true, released := true} : State).twin.released = true)
    ∧ (twinIn .active : State).mayTake = false
    ∧ ((twm .alone fun t => {t with basis := 2} : State).runs = true ∧ (twm .alone fun t => {t with basis := 2} : State).twin.basis ≠ 0 ∧
      (twm .alone fun t => {t with basis := 2} : State).owner = true ∧ (∀ (n : Nat), n < 4 →
      ((twm .alone fun t => {t with basis := 2} : State).sled n).present = true → ((twm .alone fun t => {t with basis := 2} : State).sled n).claimed =
      true))
    ∧ (2 < 4 ∧ ((twm .alone fun t => {t with basis := 2}).onDeep fun d => {d with sleds := [(2, {Sled.reset with present := true, reachable := true})]} :
      State).runs = true ∧ ((twm .alone fun t => {t with basis := 2}).onDeep fun d =>
      {d with sleds := [(2, {Sled.reset with present := true, reachable := true})]} : State).twin.basis ≠ 0 ∧
      ((twm .alone fun t => {t with basis := 2}).onDeep fun d => {d with sleds := [(2, {Sled.reset with present := true, reachable := true})]} :
      State).owner = true ∧ (((twm .alone fun t => {t with basis := 2}).onDeep fun d =>
      {d with sleds := [(2, {Sled.reset with present := true, reachable := true})]} : State).sled 2).present = true ∧
      (((twm .alone fun t => {t with basis := 2}).onDeep fun d => {d with sleds := [(2, {Sled.reset with present := true, reachable := true})]} :
      State).sled 2).claimed = false)
    ∧ (twm .alone fun t => {t with force := some 3} : State).frozen = false
    ∧ ((twm .standby fun t => {t with releaseCode := some 3, kaLost1ms := true} : State).runs = true ∧
      (twm .standby fun t => {t with releaseCode := some 3, kaLost1ms := true} : State).twin.releaseCode.isSome = true ∧
      (twm .standby fun t => {t with releaseCode := some 3, kaLost1ms := true} : State).twin.st = TwinSt.standby ∧
      (twm .standby fun t => {t with releaseCode := some 3, kaLost1ms := true} : State).twin.kaLost1ms = true)
    ∧ ((twm .active fun t => {t with releaseCode := some 3, lamp1 := { state := 2, why := 0 }} : State).runs = true ∧
      (twm .active fun t => {t with releaseCode := some 3, lamp1 := { state := 2, why := 0 }} : State).twin.releaseCode.isSome = true ∧
      (twm .active fun t => {t with releaseCode := some 3, lamp1 := { state := 2, why := 0 }} : State).twin.kaLost1ms = false)
    ∧ ((twm .active fun t => {t with quiescing := true, handback := true} : State).runs = true ∧
      (twm .active fun t => {t with quiescing := true, handback := true} : State).twin.quiescing = true ∧
      (twm .active fun t => {t with quiescing := true, handback := true} : State).recp.recipes = [] ∧
      (twm .active fun t => {t with quiescing := true, handback := true} : State).twin.st = TwinSt.active ∧
      (twm .active fun t => {t with quiescing := true, handback := true} : State).twin.handback = true)
    ∧ ((twm .alone fun t => {t with quiescing := true, handback := false} : State).runs = true ∧
      (twm .alone fun t => {t with quiescing := true, handback := false} : State).twin.quiescing = true ∧
      (twm .alone fun t => {t with quiescing := true, handback := false} : State).recp.recipes = [] ∧
      (twm .alone fun t => {t with quiescing := true, handback := false} : State).twin.handback = false) :=
  ⟨by decide +kernel, by decide +kernel, by decide +kernel, by decide +kernel, by decide +kernel, by decide +kernel, by decide +kernel, by decide +kernel,
   by decide +kernel, by decide +kernel, by decide +kernel, by decide +kernel, by decide +kernel, by decide +kernel⟩

theorem witness_TwinCommands :
    (world.twin.st = TwinSt.solo ∧ world.twin.epoch < 4294967295 ∧ world.accepts { index := 6912, sub := 1, type := 2, roles := roleOp, any := false } rO 1
      (leBytes 1 1) = true)
    ∧ ((twinIn .alone : State).twin.st = TwinSt.alone ∧ (twinIn .alone : State).accepts
      { index := 6912, sub := 1, type := 2, roles := roleOp, any := false } rO 1 (leBytes 1 0) = true)
    ∧ ((twinIn .active : State).twin.st = TwinSt.active ∧ (twinIn .active : State).accepts
      { index := 6912, sub := 1, type := 2, roles := roleOp, any := false } rO 1 (leBytes 1 0) = true)
    ∧ ((twinIn .standby : State).twin.st = TwinSt.standby ∧ (twinIn .standby : State).accepts (cmdObj 6960 1 (roleOp + rolePm)) rO 4
      (leBytes 4 ((twinIn .standby : State).twin.epoch + 1)) = true)
    ∧ ((twinIn .syncing : State).twin.st = TwinSt.syncing ∧ (twinIn .syncing : State).accepts (cmdObj 6960 1 (roleOp + rolePm)) rP 4
      (leBytes 4 ((twinIn .syncing : State).twin.epoch + 1)) = true)
    ∧ ((twm .standby fun t => {t with force := some 4} : State).twin.force.isSome = true ∧ (twm .standby fun t => {t with force := some 4} : State).accepts
      (cmdObj 6960 2 (roleOp + rolePm)) rP 0 [] = true)
    ∧ ((twinIn .active : State).twin.st = TwinSt.active ∧ (twinIn .active : State).accepts (cmdObj 6960 3 (roleOp + rolePm)) rP 0 [] = true)
    ∧ (world.standby = false ∧ world.accepts (cmdObj 6960 4 rolePm) rP 0 [] = true) :=
  ⟨by decide +kernel, by decide +kernel, by decide +kernel, by decide +kernel, by decide +kernel, by decide +kernel, by decide +kernel, by decide +kernel⟩

end Sys2Proof.Tests.Twin

namespace Sys2Proof.Tests.Security
set_option Elab.async false

/-! Witnesses: for every clause of the statements about security, a state and operands that meet its hypotheses. -/

def rU : Req := { client := udpClient 9, id := 7, tag := 0 }
def at_ (n : Nat) : State := world.onSec fun x => { x with spdm := [(udpClient 9, n)] }
def many : State := (at_ 3).onSec fun x => { x with sessions := (List.range 32).map fun i => (i + 1, sessionOf i roleOp none) }
def hs (e : Bool) : Session := { sessionOf 9 0 none with established := e, authKey := none, missed := 2 }
def hand (e : Bool) : State := (at_ 3).onSec fun x => { x with sessions := x.sessions ++ [(6, hs e)], nextSession := 7 }
def ok1 : State := (hand false).onKodp fun k => { k with tables := [(.operatorKeys, [{ fields := [0, 44] }])] }
def jb (g : Assoc Nat Nat) : LinkJob := { tenant := 5, gens := g, current := 255, switchAt := 0, older := none, former := [], eids := [10, 11] }
def tj (g : Assoc Nat Nat) : State := world.onSec fun x =>
  { x with jobs := [(70, jb g)], tagGen := [((10, 0, 3), 4), ((12, 0, 3), 4)], tagGenOld := [((10, 0, 3), 4)] }
def peerW (st : TwinSt) : State := (twinIn st).onSec fun x => { x with
      sessions := x.sessions ++
        [(8, { sessionOf 9 0 none with client := { transport := .vc7, addr := 60, port := 0, session := none }, peer := true, roles := rolePeer })],
      nextSession := 9,
      jobs := [(70, jb [(255, 9)])] }
def rPeer : Req := { client := { transport := .vc7, addr := 60, port := 0, session := some 8 }, id := 4, tag := 0 }
def pant (s : State) : State := s.onMem fun m =>
  { m with lines := [(2, { LineMeta.reset with inPantry := true, dirty := true, tenant := 5, keyId := 1, key := some 99 })], cells := [(264, 9)] }
def jo : LinkJob := { jb [(255, 9), (0, 4)] with older := some 255, current := 0, former := [3] }
def tjo : State := (tj [(255, 9), (0, 4)]).onSec fun c => { c with jobs := [(70, jo)], oldEx := [(10, 0, 4), (12, 0, 4)] }
def tok (s : State) : State := s.onSec fun x => { x with token := some { level := 2, notAfter := 99, preLock := false }, challenge := some 5 }

theorem witness_SpdmSessions :
    (at_ 0 : State).accepts spdmObj rU 0 (leBytes 2 132 ++ leBytes 8 rU.id) = true
    ∧ (3 ≤ many.spdmAt rU ∧ 32 ≤ List.length many.sec.sessions ∧ many.accepts spdmObj rU 0 (leBytes 2 228 ++ leBytes 8 rU.id) = true)
    ∧ (aget (hand false : State).sec.sessions 6 = some (hs false : Session) ∧ (hs false : Session).established = false ∧ (hs false : Session).client =
      { rU.client with session := none } ∧ (hand false : State).accepts spdmObj rU 0 (leBytes 2 229 ++ leBytes 8 rU.id) = true)
    ∧ (aget ok1.sec.sessions 6 = some (hs false : Session) ∧ (hs false : Session).established = false ∧ (hs false : Session).client =
      { rU.client with session := none } ∧ ok1.keyIn TableId.operatorKeys 44 = true ∧ ok1.accepts spdmObj rU 0 (leBytes 2 229 ++ leBytes 8 rU.id) = true)
    ∧ (aget (hand true : State).sec.sessions 6 = some (hs true : Session) ∧ (hs true : Session).established = true ∧ (hs true : Session).client =
      { rU.client with session := none } ∧ (hand true : State).accepts spdmObj rU 0 (leBytes 2 232 ++ leBytes 8 rU.id) = true)
    ∧ (aget (hand true : State).sec.sessions 6 = some (hs true : Session) ∧ (hs true : Session).established = true ∧ (hs true : Session).client =
      { rU.client with session := none } ∧ (hand true : State).accepts spdmObj rU 0 (leBytes 2 233 ++ leBytes 8 rU.id) = true)
    ∧ (aget (hand true : State).sec.sessions 6 = some (hs true : Session) ∧ (hs true : Session).established = true ∧ (hs true : Session).client =
      { rU.client with session := none } ∧ (hand true : State).accepts spdmObj rU 0 (leBytes 2 236 ++ leBytes 8 rU.id) = true)
    ∧ ((at_ 2 : State).spdmAt rU < 3 ∧ (at_ 2 : State).accepts spdmObj rU 0 (leBytes 2 0x81 ++ leBytes 8 rU.id) = true)
    ∧ (((.getDigests rU : Instr), 0x81, 3) ∈ [(Instr.getCapabilities rU 3, 225, 1), (Instr.negotiateAlgorithms rU 3, 227, 2),
      (Instr.getDigests rU, 129, 3), (Instr.getCertificate rU 0 0 0, 130, 3), (Instr.challenge rU 0 0, 131, 3), (Instr.getMeasurements rU 0 0, 224, 3),
      (Instr.keyExchange rU 0 0, 228, 3)])
    ∧ (1 ≤ (at_ 1 : State).spdmAt rU ∧ (at_ 1 : State).accepts spdmObj rU 0 (leBytes 2 225 ++ leBytes 8 rU.id) = true)
    ∧ (2 ≤ (at_ 2 : State).spdmAt rU ∧ 9 ≠ 0 ∧ (at_ 2 : State).accepts spdmObj rU 0 (leBytes 2 227 ++ leBytes 8 rU.id) = true)
    ∧ (3 ≤ (at_ 3 : State).spdmAt rU ∧ (at_ 3 : State).accepts spdmObj rU 0 (leBytes 2 129 ++ leBytes 8 rU.id) = true)
    ∧ (3 ≤ (at_ 3 : State).spdmAt rU ∧ (at_ 3 : State).accepts spdmObj rU 0 (leBytes 2 130 ++ leBytes 8 rU.id) = true)
    ∧ (3 ≤ (at_ 3 : State).spdmAt rU ∧ (at_ 3 : State).accepts spdmObj rU 0 (leBytes 2 131 ++ leBytes 8 rU.id) = true)
    ∧ (3 ≤ (at_ 3 : State).spdmAt rU ∧ (0 = 0 ∧ ([7] : List Nat) = [7] ∨ 1 ≤ 0 ∧ 0 ≤ 7 ∧ ([7] : List Nat) = [(at_ 3 : State).measurement 0] ∨ 0 = 255 ∧
      ([7] : List Nat) = List.map (at_ 3 : State).measurement [1, 2, 3, 4, 5, 6, 7]) ∧ (at_ 3 : State).accepts spdmObj rU 0
      (leBytes 2 224 ++ leBytes 8 rU.id) = true)
    ∧ (3 ≤ (at_ 3 : State).spdmAt rU ∧ List.length (at_ 3 : State).sec.sessions < 32 ∧ (at_ 3 : State).accepts spdmObj rU 0
      (leBytes 2 228 ++ leBytes 8 rU.id) = true) :=
  ⟨by decide +kernel, by decide +kernel, by decide +kernel, by decide +kernel, by decide +kernel, by decide +kernel, by decide +kernel, by decide +kernel,
   List.Mem.tail _ (List.Mem.tail _ (List.Mem.head _)), by decide +kernel, by decide +kernel, by decide +kernel, by decide +kernel, by decide +kernel,
   by decide +kernel, by decide +kernel⟩

set_option maxRecDepth 100000 in
theorem witness_TenantKeys :
    (1 ≤ 1023 ∧ 1023 ≤ 1023 ∧ world.keyTaken 3 = false ∧ world.standby = false ∧ ahas world.sec.tenants 1023 = false ∧ world.accepts (cmdObj 7712 1 roleOp)
      rO 2 (leBytes 2 1023 ++ leBytes 96 3) = true)
    ∧ (1 ≤ 5 ∧ 5 ≤ 1023 ∧ (tj [(255, 9)] : State).standby = false ∧ ahas (tj [(255, 9)] : State).sec.tenants 5 = true ∧ (tj [(255, 9)] : State).twin.st =
      TwinSt.solo ∧ (tj [(255, 9)] : State).accepts (cmdObj 7712 2 roleOp) rO 2 (leBytes 2 5) = true)
    ∧ ((tj [(255, 9)] : State).keyFenced rT = false ∧ (tj [(255, 9)] : State).accepts (cmdObj 7728 7 roleTenant) rT 0 [] = true)
    ∧ (5 = (tj [(255, 9)] : State).keyTenant rT 0 ∧ (([] : List Byte) = if (tj [(255, 9)] : State).isPeer rT.client = true then leBytes 2 5 else []) ∧
      (tj [(255, 9)] : State).keyFenced rT = false ∧ 5 ≠ 0 ∧ 1 ≤ 255 ∧ 255 ≤ 255 ∧ ahas
      ((Option.map Tenant.memKeys (aget (tj [(255, 9)] : State).sec.tenants 5)).getD []) 255 = false ∧ List.length
      ((Option.map Tenant.memKeys (aget (tj [(255, 9)] : State).sec.tenants 5)).getD []) < 255)
    ∧ (tj [(255, 9)] : State).accepts (cmdObj 7728 1 roleTenant) rT (([] : List Byte).length + 1) (([] : List Byte) ++ (leBytes 1 255 ++ leBytes 64 3)) =
      true
    ∧ ((List.map (fun e => List.length e.snd.memKeys) (tj [(255, 9)] : State).sec.tenants).sum < 4096)
    ∧ (0 = (peerW .standby : State).keyTenant rPeer 0 ∧
      ((leBytes 2 0 : List Byte) = if (peerW .standby : State).isPeer rPeer.client = true then leBytes 2 0 else []) ∧ (peerW .standby : State).keyFenced
      rPeer = false ∧ 0 = 0 ∧ (peerW .standby : State).isPeer rPeer.client = true ∧ (peerW .standby : State).accepts (cmdObj 7728 1 roleTenant) rPeer
      ((leBytes 2 0 : List Byte).length + 1) ((leBytes 2 0 : List Byte) ++ (leBytes 1 0 ++ leBytes 64 37)) = true)
    ∧ (5 = (pant (tj [(255, 9)]) : State).keyTenant rT 5 ∧
      (([] : List Byte) = if (pant (tj [(255, 9)]) : State).isPeer rT.client = true then leBytes 2 5 else []) ∧ (pant (tj [(255, 9)]) : State).keyFenced rT
      = false ∧ 1 ≤ 1 ∧ 1 ≤ 255 ∧ ahas ((Option.map Tenant.memKeys (aget (pant (tj [(255, 9)]) : State).sec.tenants 5)).getD []) 1 = true ∧
      (pant (tj [(255, 9)]) : State).accepts (cmdObj 7728 2 roleTenant) rT (([] : List Byte).length + 1) (([] : List Byte) ++ leBytes 1 1) = true)
    ∧ (5 = (tj [(255, 9)] : State).keyTenant rT 5 ∧ (([] : List Byte) = if (tj [(255, 9)] : State).isPeer rT.client = true then leBytes 2 5 else []) ∧
      (tj [(255, 9)] : State).keyFenced rT = false ∧ aget (tj [(255, 9)] : State).sec.jobs 71 = none ∧ 255 ≤ 255 ∧ List.length
      (tj [(255, 9)] : State).sec.jobs < 256 ∧ (tj [(255, 9)] : State).accepts (cmdObj 7728 3 roleTenant) rT (([] : List Byte).length + 4)
      (([] : List Byte) ++ (leBytes 4 71 ++ leBytes 1 255 ++ leBytes 32 (3^100 : Nat) ++ leBytes 8 7)) = true)
    ∧ ((List.filter (fun e => e.snd.tenant == 5) (tj [(255, 9)] : State).sec.jobs).length < 64)
    ∧ (5 = (tj [(255, 9)] : State).keyTenant rT 5 ∧ (([] : List Byte) = if (tj [(255, 9)] : State).isPeer rT.client = true then leBytes 2 5 else []) ∧
      (tj [(255, 9)] : State).keyFenced rT = false ∧ aget (tj [(255, 9)] : State).sec.jobs 70 = some (jb [(255, 9)] : LinkJob) ∧
      (jb [(255, 9)] : LinkJob).tenant = 5 ∧ (jb [(255, 9)] : LinkJob).gens = [((255, 9) : Nat × Nat)] ∧ ((255, 9) : Nat × Nat).fst =
      (jb [(255, 9)] : LinkJob).current ∧ (tj [(255, 9)] : State).accepts (cmdObj 7728 3 roleTenant) rT (([] : List Byte).length + 4)
      (([] : List Byte) ++ (leBytes 4 70 ++ leBytes 1 (((jb [(255, 9)] : LinkJob).current + 1) % 256) ++ leBytes 32 44 ++ leBytes 8 0)) = true)
    ∧ (5 = (tj [(255, 9)] : State).keyTenant rT 5 ∧ (([] : List Byte) = if (tj [(255, 9)] : State).isPeer rT.client = true then leBytes 2 5 else []) ∧
      (tj [(255, 9)] : State).keyFenced rT = false ∧ aget (tj [(255, 9)] : State).sec.jobs 70 = some (jb [(255, 9)] : LinkJob) ∧
      (jb [(255, 9)] : LinkJob).tenant = 5 ∧ ([1, 2^18-1] : List Nat) ≠ [] ∧ ([1, 2^18-1] : List Nat).length ≤ 64 ∧
      (([1, 2^18-1] : List Nat).all fun e => e != 0 && decide (e < 2 ^ 18)) = true)
    ∧ (([1, 2^18-1] : List Nat).Nodup ∧ (([1, 2^18-1] : List Nat).all fun e => ((tj [(255, 9)] : State).jobOf e).isNone) = true ∧
      (tj [(255, 9)] : State).accepts (cmdObj 7728 4 roleTenant) rT (([] : List Byte).length + 4)
      (([] : List Byte) ++ (leBytes 4 70 ++ leBytes 1 ([1, 2^18-1] : List Nat).length ++ List.flatMap (leBytes 4) ([1, 2^18-1] : List Nat))) = true)
    ∧ ((List.map (fun e => e.snd.eids.length) (tj [(255, 9)] : State).sec.jobs).sum + ([1, 2^18-1] : List Nat).length ≤ 1024)
    ∧ (5 = (tj [(255, 9)] : State).keyTenant rT 5 ∧ (([] : List Byte) = if (tj [(255, 9)] : State).isPeer rT.client = true then leBytes 2 5 else []) ∧
      (tj [(255, 9)] : State).keyFenced rT = false ∧ aget (tj [(255, 9)] : State).sec.jobs 70 = some (jb [(255, 9)] : LinkJob) ∧
      (jb [(255, 9)] : LinkJob).tenant = 5 ∧ (tj [(255, 9)] : State).accepts (cmdObj 7728 5 roleTenant) rT (([] : List Byte).length + 4)
      (([] : List Byte) ++ (leBytes 4 70 ++ leBytes 4 0)) = true)
    ∧ (5 = (tj [(255, 9)] : State).keyTenant rT 5 ∧ (([] : List Byte) = if (tj [(255, 9)] : State).isPeer rT.client = true then leBytes 2 5 else []) ∧
      (tj [(255, 9)] : State).keyFenced rT = false ∧ aget (tj [(255, 9)] : State).sec.jobs 70 = some (jb [(255, 9)] : LinkJob) ∧
      (jb [(255, 9)] : LinkJob).tenant = 5 ∧ 10 ∈ (jb [(255, 9)] : LinkJob).eids ∧ 10 ≠ 0 ∧ 10 < 2 ^ 18)
    ∧ (tj [(255, 9)] : State).accepts (cmdObj 7728 5 roleTenant) rT (([] : List Byte).length + 4) (([] : List Byte) ++ (leBytes 4 70 ++ leBytes 4 10)) =
      true
    ∧ (5 = (tj [(255, 9)] : State).keyTenant rT 5 ∧ (([] : List Byte) = if (tj [(255, 9)] : State).isPeer rT.client = true then leBytes 2 5 else []) ∧
      (tj [(255, 9)] : State).keyFenced rT = false ∧ 1 ≤ 8 ∧ 8 ≤ 8 ∧ ahas
      ((Option.map Tenant.signKeys (aget (tj [(255, 9)] : State).sec.tenants 5)).getD []) 8 = false ∧ (tj [(255, 9)] : State).accepts
      (cmdObj 7728 6 roleTenant) rT (([] : List Byte).length + 1) (([] : List Byte) ++ (leBytes 1 8 ++ leBytes 96 10)) = true)
    ∧ (aget (tj [(255, 9), (0, 4)] : State).sec.jobs 70 = some (jb [(255, 9), (0, 4)] : LinkJob) ∧ (jb [(255, 9), (0, 4)] : LinkJob).older = none)
    ∧ (List.find? (fun g => g.fst != (jb [(255, 9), (0, 4)] : LinkJob).current) (jb [(255, 9), (0, 4)] : LinkJob).gens = some ((0, 4) : Nat × Nat))
    ∧ (aget tjo.sec.jobs 70 = some jo ∧ jo.older.isSome = true)
    ∧ aget tjo.sec.jobs 70 = some jo :=
  ⟨by decide +kernel, by decide +kernel, by decide +kernel, by decide +kernel, by decide +kernel, by decide +kernel, by decide +kernel, by decide +kernel,
   by decide +kernel, by decide +kernel, by decide +kernel, by decide +kernel, by decide +kernel, by decide +kernel, by decide +kernel, by decide +kernel,
   by decide +kernel, by decide +kernel, by decide +kernel, by decide +kernel, by decide +kernel, by decide +kernel⟩

theorem witness_DebugTokens :
    world.accepts (cmdObj 7712 3 (roleOp + roleDebug)) rO 0 [] = true
    ∧ (world.pkg.phase ≠ Phase.boot ∧ world.accepts { index := 7712, sub := 4, type := 3, roles := 0, any := true } rU 0 ([] : List Byte) = true)
    ∧ ([] : List Byte).length ≠ 352
    ∧ ((tok world : State).sec.token.isSome = true ∧ (tok world : State).accepts (cmdObj 7712 5 (roleOp + roleDebug)) rD 0 [] = true)
    ∧ (world.sec.token = none ∧ world.accepts (cmdObj 7712 5 (roleOp + roleDebug)) rD 0 [] = true)
    ∧ (world.standby = false ∧ world.accepts (cmdObj 7712 6 roleOp) rO 0 (leBytes 96 3) = true)
    ∧ (tok world : State).sec.token.isSome = true
    ∧ world.sec.token = none :=
  ⟨by decide +kernel, by decide +kernel, by decide +kernel, by decide +kernel, by decide +kernel, by decide +kernel, by decide +kernel, by decide +kernel⟩

end Sys2Proof.Tests.Security

namespace Sys2Proof.Tests.Firmware
set_option Elab.async false

/-! Witnesses: for every clause of the statements about firmware, a state and operands that meet its hypotheses. -/

def fwW : State := world.onPkg fun p => { p with holdup := true }
def hdr (svn blocks : Nat) : List Byte :=
  leBytes 4 0x31574B56 ++ leBytes 2 0x0100 ++ leBytes 2 0 ++ leBytes 4 svn ++ leBytes 4 7 ++ leBytes 4 blocks ++ leBytes 1 2 ++ leBytes 3 0
  ++ leBytes 4 1 ++ leBytes 4 512 ++ leBytes 48 77 ++ leBytes 4 2 ++ leBytes 4 700 ++ leBytes 48 78 ++ leBytes 4 4 ++ leBytes 4 1 ++ leBytes 48 79
  ++ leBytes 224 0 ++ leBytes 96 5
def stg (st : FwSt) (b : Bool) (v : Option (Option Nat)) (bk : BankSt) : State := (fwW.onFw fun w => { w with st := st, bootedB := b, verdict := v }) |>
  setBank (!b) (fun k => { k with st := bk, svn := 4, version := 2, blocks := [(0, hdr 3 9)], written := [0], imageBlocks := 9, erased := 4 })
def blk (i : Nat) : List Byte := leBytes 512 (i * 7 ^ 200)
def full_ (b : Bool) : State := setBank (!b) (fun k => { k with written := List.range 9, erased := 8 }) (stg .staging b none .writing)
def tr (b : Bool) (a : Activation) : State := ((stg .trial b none .good).onFw fun w => { w with act := a, engineDigest := 79 }) 
def rh (l : List Nat) (s : State) : State := s.onObs fun o => { o with reheat := l, reheatAt := [5] }

set_option maxRecDepth 100000 in
theorem witness_FirmwareUpdate :
    ((setBank true (fun k => { k with blocks := [(0, hdr 3 9)], st := .trial }) (tr true .selfCheck) : State).fw.act = Activation.selfCheck)
    ∧ (((setBank true (fun k => { k with blocks := [(0, hdr 3 9)], st := .trial }) (tr true .selfCheck) : State).bank
      (setBank true (fun k => { k with blocks := [(0, hdr 3 9)], st := .trial }) (tr true .selfCheck) : State).fw.bootedB).engine =
      (setBank true (fun k => { k with blocks := [(0, hdr 3 9)], st := .trial }) (tr true .selfCheck) : State).fw.engineDigest)
    ∧ ((setBank true (fun k => { k with blocks := [(0, hdr 3 9)], st := .trial }) ((tr true .selfCheck).onFw fun w => { w with engineDigest := 1 }) :
      State).fw.act = Activation.selfCheck)
    ∧ (((setBank true (fun k => { k with blocks := [(0, hdr 3 9)], st := .trial }) ((tr true .selfCheck).onFw fun w => { w with engineDigest := 1 }) :
      State).bank (setBank true (fun k => { k with blocks := [(0, hdr 3 9)], st := .trial })
      ((tr true .selfCheck).onFw fun w => { w with engineDigest := 1 }) : State).fw.bootedB).engine ≠ (setBank true
      (fun k => { k with blocks := [(0, hdr 3 9)], st := .trial }) ((tr true .selfCheck).onFw fun w => { w with engineDigest := 1 }) :
      State).fw.engineDigest)
    ∧ ((setBank true (fun k => { k with blocks := [(0, hdr 3 9)], st := .trial }) ((tr true .pause).onFw fun w => { w with engineDigest := 1 }) :
      State).fw.act = Activation.pause)
    ∧ (stg .committing true none .copying : State).fw.st = FwSt.committing
    ∧ (((stg .failed true none .failed : State).fw.st = FwSt.staging ∨ (stg .failed true none .failed : State).fw.st = FwSt.verified ∨
      (stg .failed true none .failed : State).fw.st = FwSt.failed) ∧ (stg .failed true none .failed : State).accepts (fwObj 5) rO 0 [] = true)
    ∧ ((setBank true (fun k => { k with svn := 9 }) (stg .idle true none .good) : State).fw.st = FwSt.idle)
    ∧ ((setBank true (fun k => { k with svn := 9 }) (stg .idle true none .good) : State).updateBarred = false)
    ∧ ((setBank true (fun k => { k with svn := 9 }) (stg .idle true none .good) : State).accepts (fwObj 6) rO 0 [] = true)
    ∧ (headerOk (hdr 3 9 : List Byte) = true ∧ fwW.fw.minSvn ≤ headerSvn (hdr 3 9 : List Byte) ∧ fwW.fw.st = FwSt.idle ∧ fwW.updateBarred = false ∧
      fwW.accepts (fwObj 1) rO 0 (hdr 3 9 : List Byte) = true)
    ∧ (stg .staging true none .writing : State).fw.st = FwSt.staging
    ∧ ((stg .staging true none .writing : State).fw.st = FwSt.staging ∧ 1 ≤ 4 ∧ 4 <
      ((stg .staging true none .writing : State).bank (stg .staging true none .writing : State).staging).imageBlocks ∧ (blk 3 : List Byte).length = 512 ∧
      ((stg .staging true none .writing : State).bank (stg .staging true none .writing : State).staging).written.contains 4 = false ∧ crc32c
      (blk 3 : List Byte) = (crc32c (blk 3) : Nat) ∧ 4 ≤
      ((stg .staging true none .writing : State).bank (stg .staging true none .writing : State).staging).erased ∧
      (stg .staging true none .writing : State).fw.flashBad = false)
    ∧ (stg .staging true none .writing : State).accepts (fwObj 2) rO 4 (leBytes 4 4 ++ leBytes 4 (crc32c (blk 3) : Nat) ++ (blk 3 : List Byte)) = true
    ∧ (((stg .staging true none .writing).onFw fun w => { w with flashBad := true } : State).fw.st = FwSt.staging ∧ 1 ≤ 4 ∧ 4 <
      (((stg .staging true none .writing).onFw fun w => { w with flashBad := true } : State).bank
      ((stg .staging true none .writing).onFw fun w => { w with flashBad := true } : State).staging).imageBlocks ∧ (blk 3 : List Byte).length = 512 ∧
      (((stg .staging true none .writing).onFw fun w => { w with flashBad := true } : State).bank
      ((stg .staging true none .writing).onFw fun w => { w with flashBad := true } : State).staging).written.contains 4 = false ∧ crc32c
      (blk 3 : List Byte) = (crc32c (blk 3) : Nat) ∧ 4 ≤ (((stg .staging true none .writing).onFw fun w => { w with flashBad := true } : State).bank
      ((stg .staging true none .writing).onFw fun w => { w with flashBad := true } : State).staging).erased ∧
      ((stg .staging true none .writing).onFw fun w => { w with flashBad := true } : State).fw.flashBad = true)
    ∧ ((stg .staging true none .writing).onFw fun w => { w with flashBad := true } : State).accepts (fwObj 2) rO 4
      (leBytes 4 4 ++ leBytes 4 (crc32c (blk 3) : Nat) ++ (blk 3 : List Byte)) = true
    ∧ ((stg .staging true none .writing : State).fw.st = FwSt.staging ∧ 1 ≤ 5 ∧ 5 <
      ((stg .staging true none .writing : State).bank (stg .staging true none .writing : State).staging).imageBlocks ∧ (blk 3 : List Byte).length = 512 ∧
      ((stg .staging true none .writing : State).bank (stg .staging true none .writing : State).staging).written.contains 5 = false ∧ crc32c
      (blk 3 : List Byte) = (crc32c (blk 3) : Nat) ∧
      ((stg .staging true none .writing : State).bank (stg .staging true none .writing : State).staging).erased < 5 ∧
      (stg .staging true none .writing : State).accepts (fwObj 2) rO 4 (leBytes 4 5 ++ leBytes 4 (crc32c (blk 3) : Nat) ++ (blk 3 : List Byte)) = true)
    ∧ ((full_ false : State).fw.st = FwSt.staging ∧ (full_ false : State).fw.verdict = none ∧ (full_ false : State).accepts (fwObj 3) rO 0 [] = true)
    ∧ ((stg .verified true (some none) .verified : State).fw.verdict = some none ∧ (stg .verified true (some none) .verified : State).accepts (fwObj 3) rO
      0 [] = true)
    ∧ ((stg .failed true (some (some 2)) .failed : State).fw.verdict = some (some 2) ∧ (stg .failed true (some (some 2)) .failed : State).accepts (fwObj 3)
      rO 0 [] = true)
    ∧ (((full_ true).onFw fun w => { w with verifying := true } : State).fw.st = FwSt.staging ∧
      ((full_ true).onFw fun w => { w with verifying := true } : State).fw.verifying = true)
    ∧ ((stg .verified false none .verified : State).fw.st = FwSt.verified ∧ (stg .verified false none .verified : State).updateBarred = false ∧
      (stg .verified false none .verified : State).fw.recovery = false ∧ (stg .verified false none .verified : State).accepts (fwObj 4) rO 0 [] = true)
    ∧ (tr true .selfCheck : State).fw.act = Activation.selfCheck :=
  ⟨by decide +kernel, by decide +kernel, by decide +kernel, by decide +kernel, by decide +kernel, by decide +kernel, by decide +kernel, by decide +kernel,
   by decide +kernel, by decide +kernel, by decide +kernel, by decide +kernel, by decide +kernel, by decide +kernel, by decide +kernel, by decide +kernel,
   by decide +kernel, by decide +kernel, by decide +kernel, by decide +kernel, by decide +kernel, by decide +kernel, by decide +kernel⟩

set_option maxRecDepth 100000 in
theorem witness_ManagementReheats :
    (fwW.bakerUp = true ∧ fwW.pkg.phase ≠ Phase.boot ∧ 1 ≤ 1 ∧ fwW.fw.st ≠ FwSt.trial ∧ fwW.obs.reheat.contains 1 = false)
    ∧ ((.lockstepDisagreement 1 : Instr) ∈ [Instr.bakerWatchdog 1, Instr.lockstepDisagreement 1])
    ∧ ((tr true .selfCheck : State).bakerUp = true ∧ (tr true .selfCheck : State).pkg.phase ≠ Phase.boot ∧ (tr true .selfCheck : State).fw.st = FwSt.trial
      ∧ (tr true .selfCheck : State).fw.act = Activation.selfCheck)
    ∧ ((.bakerWatchdog 0 : Instr) ∈ [Instr.bakerWatchdog 0, Instr.lockstepDisagreement 0])
    ∧ ((rh [1] world : State).bakerUp = true ∧ (rh [1] world : State).pkg.phase ≠ Phase.boot ∧ (rh [1] world : State).obs.reheat.contains 1 = true)
    ∧ ((rh [0, 1] world : State).bakerUp = true ∧ (rh [0, 1] world : State).pkg.phase ≠ Phase.boot ∧ (rh [0, 1] world : State).obs.reheat.contains 0 = true
      ∧ (rh [0, 1] world : State).fw.act ≠ Activation.reheat)
    ∧ ((rh [0] (setBank false (fun k => { k with blocks := [] }) (tr true .reheat)) : State).bakerUp = true)
    ∧ ((rh [0] (setBank false (fun k => { k with blocks := [] }) (tr true .reheat)) : State).pkg.phase ≠ Phase.boot)
    ∧ ((rh [0] (setBank false (fun k => { k with blocks := [] }) (tr true .reheat)) : State).obs.reheat.contains 0 = true)
    ∧ ((rh [0] (setBank false (fun k => { k with blocks := [] }) (tr true .reheat)) : State).fw.act = Activation.reheat)
    ∧ (((rh [0] (setBank false (fun k => { k with blocks := [] }) (tr true .reheat)) : State).bank
      (rh [0] (setBank false (fun k => { k with blocks := [] }) (tr true .reheat)) : State).staging).blocks = [])
    ∧ ((rh [0] (setBank false (fun k => { k with blocks := [] }) (tr true .reheat)) : State).fw.minSvn ≤
      ((rh [0] (setBank false (fun k => { k with blocks := [] }) (tr true .reheat)) : State).bank
      (rh [0] (setBank false (fun k => { k with blocks := [] }) (tr true .reheat)) : State).staging).svn)
    ∧ (world.bakerUp = true ∧ world.pkg.phase ≠ Phase.boot ∧ world.recentReheats = 0)
    ∧ ((rh [] world : State).bakerUp = true ∧ (rh [] world : State).pkg.phase ≠ Phase.boot ∧ (rh [] world : State).recentReheats ≠ 0) :=
  ⟨by decide +kernel, List.Mem.tail _ (List.Mem.head _), by decide +kernel, List.Mem.head _, by decide +kernel, by decide +kernel, by decide +kernel,
   by decide +kernel, by decide +kernel, by decide +kernel, by decide +kernel, by decide +kernel, by decide +kernel, by decide +kernel⟩

end Sys2Proof.Tests.Firmware

namespace Sys2Proof.Tests.Observe
set_option Elab.async false

/-! Witnesses: for every clause of the statements about time, dumps and debug stops, a state and operands that meet its hypotheses. -/

def ti (a b : Nat) (sa sb : TimeSt) (e : Bool) (s : State) : State := s.onObs fun o =>
  { o with time0 := { o.time0 with counter := a, st := sa, rateAdj := -7 }, time1 := { o.time1 with counter := b, st := sb, everLocked := e, n := 4 } }
def wr : State := { world with pkg := { world.pkg with refclk := true } }
def src (l : List (Nat × Nat)) (s : State) : State := s.onTxn fun t =>
  { t with timeRx := l.map (fun e => (e.1, { time := 5, hops := 1, valid := true, at_ := e.2, lower := none })), timeParent := some 0 }
def root (p : Bool) : State := (ti (256 * 20000000) 5 .root .locked true wr).onKodp (fun k => { k with objs := (.timeRoot, 1) :: k.objs }) |>.onPart
  (fun x => { x with slots := if p then [] else x.slots })
def snap : State := (root false).onObs fun o => { o with snapAt := [(30000, rO)] }
def stp (x : StopSt) : State := ((root false).onObs fun o => { o with stop := x, stopAt := 20020000 })
def cr : State := (crumb 4 1 0x401 7 (crumb 3 255 2 1 (crumb 4 1 0x402 9 world))).onObs fun o =>
  { o with rings := o.rings.map fun e => (e.1, { e.2 with frozen := some 5 }) }
def sk : State := cr.onPart fun x => { x with slots := (5, { slotOf 12 with kind := 3 }) :: x.slots }
def nm : List Byte := [65, 66]
def ten (n : Nat) : Tensor := { name := padTo 32 [65, BitVec.ofNat 8 n], ctx := 5, addr := 1280, length := 256, format := 3, extents := [(10, 2)] }
def tw (l : List Tensor) (ds : List Dump) : State :=
  (sk.onMem fun m => { m with lines := (16, { LineMeta.reset with tenant := 5, keyId := 1, key := some 99 }) :: m.lines }).onObs fun o =>
  { o with tensors := l, dumps := ds, nextDump := 9 }
def dmp (n : Nat) (st : DumpSt) (t : Tensor) : Dump := { 
      number := n,
      tensor := t,
      sink := 12,
      markPa := 1024,
      step := 7,
      bufPa := 65536,
      bufLen := 4096,
      st := st,
      cutAt := 0,
      sent := 0,
      copies := [],
      settling := [],
      seq := 0,
      poisoned := false,
      status := none }
def trg : Dump := { dmp 9 .triggered (ten 66) with settling := [0] }
def str (k : Nat) (c : List Nat) : Dump := { dmp 9 .streaming (ten 66) with sent := k, copies := c, cutAt := 5 }
def dBig : Dump := { str 0 [] with tensor := { ten 66 with length := 1024, extents := [(1280, 8)] } }
def dTwo : Dump := { str 0 [1] with tensor := { ten 66 with extents := [(1280, 2)] } }
def sDump (d : Dump) : State := (tw [ten 66] [d]).onMem fun m =>
  { m with lines := (List.range 8).map (fun i => (10 + i, { LineMeta.reset with inPantry := true, tenant := 5, keyId := 1, key := some 99 })) ++ m.lines }
def dn (d : Dump) : State × List (Bool × List Byte) := dumpNext d (sDump d)

set_option maxRecDepth 100000 in
theorem witness_TimeAndStops :
    (State.reset : State).timeRuns = false
    ∧ (0 < (root false : State).now + 10000 ∧ (root false : State).accepts (cmdObj 8480 2 (roleOp + roleDebug)) rO 8 (leBytes 8 0) = true)
    ∧ snap.obs.snapAt = [(30000, rO)]
    ∧ (root false : State).obs.snapAt = []
    ∧ (20030000 < 2 ^ 64 ∧ (stp .running : State).now + 10000 ≤ 20030000 ∧ (stp .running : State).obs.stop = StopSt.running ∧
      (stp .running : State).accepts (cmdObj 8480 8 roleDebug) rD 8 (leBytes 8 20030000) = true)
    ∧ (20030000 < 2 ^ 64 ∧ (stp .stopped : State).now + 10000 ≤ 20030000 ∧ (stp .stopped : State).obs.stop ≠ StopSt.running ∧
      (stp .stopped : State).accepts (cmdObj 8480 8 roleDebug) rD 8 (leBytes 8 20030000) = true)
    ∧ (20030000 < 2 ^ 64 ∧ (stp .stopped : State).now + 10000 ≤ 20030000 ∧ (stp .stopped : State).frozen = true ∧ (stp .stopped : State).accepts
      (cmdObj 8480 9 roleDebug) rD 8 (leBytes 8 20030000) = true)
    ∧ (20030000 < 2 ^ 64 ∧ (stp .running : State).now + 10000 ≤ 20030000 ∧ (stp .running : State).frozen = false ∧ (stp .running : State).accepts
      (cmdObj 8480 9 roleDebug) rD 8 (leBytes 8 20030000) = true)
    ∧ (stp .stopSet : State).obs.stop = StopSt.stopSet
    ∧ (stp .stopped : State).obs.stop ≠ StopSt.stopSet
    ∧ (stp .resumeSet : State).obs.stop = StopSt.resumeSet
    ∧ (stp .stopSet : State).obs.stop ≠ StopSt.resumeSet
    ∧ ((ti 9000000 9000100 .free .free false wr : State).timeRuns = true ∧ ((↑(ti 9000000 9000100 .free .free false wr : State).obs.time0.counter : Int) -
      (↑(ti 9000000 9000100 .free .free false wr : State).obs.time1.counter : Int)).natAbs < 256000)
    ∧ ((ti 9000000 8744000 .locked .free false wr : State).timeRuns = true ∧ (ti 9000000 8744000 .locked .free false wr : State).obs.time1.counter + 256000
      ≤ (ti 9000000 8744000 .locked .free false wr : State).obs.time0.counter ∧ (ti 9000000 8744000 .locked .free false wr : State).obs.time1.st ≠
      TimeSt.locked)
    ∧ ((ti 9000000 5 .locked .locked true wr : State).timeRuns = true ∧ (ti 9000000 5 .locked .locked true wr : State).obs.time1.counter + 256000 ≤
      (ti 9000000 5 .locked .locked true wr : State).obs.time0.counter ∧ (ti 9000000 5 .locked .locked true wr : State).obs.time1.st = TimeSt.locked)
    ∧ ((ti 9000000 9256000 .locked .locked true wr : State).timeRuns = true ∧ (ti 9000000 9256000 .locked .locked true wr : State).obs.time0.counter +
      256000 ≤ (ti 9000000 9256000 .locked .locked true wr : State).obs.time1.counter ∧
      (ti 9000000 9256000 .locked .locked true wr : State).obs.time1.everLocked = true)
    ∧ ((ti (256 * 20000000) 5 .locked .locked true wr : State).obs.time0.st ≠ TimeSt.root ∧
      (ti (256 * 20000000) 5 .locked .locked true wr : State).obs.time0.st ≠ TimeSt.holdover)
    ∧ (∀ e ∈ (ti (256 * 20000000) 5 .locked .locked true wr : State).timeSources, e.snd.at_ + 10000000 ≤
      (ti (256 * 20000000) 5 .locked .locked true wr : State).now)
    ∧ (ti (256 * 20000000) 5 .free .locked true wr : State).accepts (writeObj Obj.timeRoot) rO 1 (leBytes 1 1) = true
    ∧ (src [(0, 5), (1, 10000001)] (ti (256 * 20000000) 5 .root .locked true wr) : State).accepts (writeObj Obj.timeRoot) rO 1 (leBytes 1 0) = true
    ∧ (1 < 2 ∧ (ti (256 * 20000000) 5 .free .locked true wr : State).accepts (writeObj Obj.timeRoot) rO 1 (leBytes 1 2) = true)
    ∧ (70000000 < 2 ^ 64 ∧ 255 < 256 ∧ (root true : State).obj Obj.timeRoot = 1 ∧ (root true : State).part.slots = [] ∧ (root true : State).accepts
      (cmdObj 8480 1 roleOp) rO 8 (leBytes 8 70000000 ++ leBytes 1 255) = true)
    ∧ (70000000 < 2 ^ 64 ∧ 255 < 256 ∧ ((root false : State).obj Obj.timeRoot ≠ 1 ∨ (root false : State).part.slots ≠ []) ∧ (root false : State).accepts
      (cmdObj 8480 1 roleOp) rO 8 (leBytes 8 70000000 ++ leBytes 1 255) = true)
    ∧ (20010000 < 2 ^ 64 ∧ (root false : State).now + 10000 ≤ 20010000 ∧ (root false : State).accepts (cmdObj 8480 2 (roleOp + roleDebug)) rO 8
      (leBytes 8 20010000) = true)
    ∧ ((ti (256 * 20000000) 5 .root .locked true wr : State).obs.time0.st = .root) :=
  ⟨by decide +kernel, by decide +kernel, by decide +kernel, by decide +kernel, by decide +kernel, by decide +kernel, by decide +kernel, by decide +kernel,
   by decide +kernel, by decide +kernel, by decide +kernel, by decide +kernel, by decide +kernel, by decide +kernel, by decide +kernel, by decide +kernel,
   by decide +kernel, by decide +kernel, by decide +kernel, by decide +kernel, by decide +kernel, by decide +kernel, by decide +kernel, by decide +kernel,
   by rfl⟩

set_option maxRecDepth 100000 in
theorem witness_CrumbsAndDumps :
    (crumbUnit 4 1 = true ∧ cr.accepts (cmdObj 8480 3 (roleOp + roleDebug)) rO 1 (leBytes 1 4 ++ leBytes 2 1) = true)
    ∧ (crumbUnit 4 1 = true ∧ sk.isSink 12 = true ∧ sk.accepts (cmdObj 8480 3 (roleOp + roleDebug)) rO 1 (leBytes 1 4 ++ leBytes 2 1 ++ leBytes 4 12) =
      true)
    ∧ (crumbUnit 4 1 = true ∧ sk.accepts (cmdObj 8480 4 (roleOp + roleDebug)) rO 1 (leBytes 1 4 ++ leBytes 2 1) = true)
    ∧ (crumbUnit 0 0 = false ∧ sk.accepts (cmdObj 8480 3 (roleOp + roleDebug)) rO 1 (leBytes 1 0 ++ leBytes 2 0) = true)
    ∧ sk.accepts (cmdObj 8480 4 (roleOp + roleDebug)) rO 1 (leBytes 1 0 ++ leBytes 2 0) = true
    ∧ (nm.length ≤ 32 ∧ nm.headD 0 ≠ 0 ∧ 5 < 65536 ∧ tensorLengthOk 1280 0 = true ∧ 3 < 256 ∧
      (tw [ten 66, ten 67] [dmp 3 .armed (ten 66), dmp 4 .streaming (ten 67)] : State).standby = false ∧ 0 = 0 ∧
      ((tw [ten 66, ten 67] [dmp 3 .armed (ten 66), dmp 4 .streaming (ten 67)] : State).obs.tensors.any fun x => x.name == padTo 32 nm) = true)
    ∧ (tw [ten 66, ten 67] [dmp 3 .armed (ten 66), dmp 4 .streaming (ten 67)] : State).accepts (cmdObj 8480 5 (rolePm + roleDebug)) rP 32
      (padTo 32 nm ++ leBytes 2 5 ++ leBytes 8 1280 ++ leBytes 8 0 ++ leBytes 1 3) = true
    ∧ (nm.length ≤ 32 ∧ nm.headD 0 ≠ 0 ∧ 5 < 65536 ∧ tensorLengthOk 1280 0 = true ∧ 3 < 256 ∧ (tw [ten 67] [] : State).standby = false ∧ 0 = 0 ∧
      ((tw [ten 67] [] : State).obs.tensors.any fun x => x.name == padTo 32 nm) = false)
    ∧ (tw [ten 67] [] : State).accepts (cmdObj 8480 5 (rolePm + roleDebug)) rD 32
      (padTo 32 nm ++ leBytes 2 5 ++ leBytes 8 1280 ++ leBytes 8 0 ++ leBytes 1 3) = true
    ∧ (nm.length ≤ 32 ∧ nm.headD 0 ≠ 0 ∧ 5 < 65536 ∧ tensorLengthOk 1280 256 = true ∧ 3 < 256 ∧ (tw [ten 66] [] : State).standby = false ∧ 256 ≠ 0 ∧
      ((tw [ten 66] [] : State).obs.tensors.any fun x => x.name == padTo 32 nm) = true)
    ∧ ((tensorCheck 5 1280 256 (tw [ten 66] [] : State)).snd.fst = none ∧ (tw [ten 66] [] : State).accepts (cmdObj 8480 5 (rolePm + roleDebug)) rD 32
      (padTo 32 nm ++ leBytes 2 5 ++ leBytes 8 1280 ++ leBytes 8 256 ++ leBytes 1 3) = true)
    ∧ (nm.length ≤ 32 ∧ nm.headD 0 ≠ 0 ∧ 5 < 65536 ∧ tensorLengthOk 0 128 = true ∧ 255 < 256 ∧ (tw [] [] : State).standby = false ∧ 128 ≠ 0 ∧
      ((tw [] [] : State).obs.tensors.any fun x => x.name == padTo 32 nm) = false)
    ∧ ((tensorCheck 5 0 128 (tw [] [] : State)).snd.fst = none ∧ (tw [] [] : State).obs.tensors.length < 64 ∧ (tw [] [] : State).accepts
      (cmdObj 8480 5 (rolePm + roleDebug)) rP 32 (padTo 32 nm ++ leBytes 2 5 ++ leBytes 8 0 ++ leBytes 8 128 ++ leBytes 1 255) = true)
    ∧ (nm.length ≤ 32 ∧ nm.headD 0 ≠ 0 ∧ 5 < 65536 ∧ tensorLengthOk 0 128 = true ∧ 255 < 256 ∧ 128 ≠ 0)
    ∧ ((tw ((List.range 64).map (fun i => ten (i + 100))) [] : State).standby = false)
    ∧ (((tw ((List.range 64).map (fun i => ten (i + 100))) [] : State).obs.tensors.any fun x => x.name == padTo 32 nm) = false)
    ∧ ((tensorCheck 5 0 128 (tw ((List.range 64).map (fun i => ten (i + 100))) [] : State)).snd.fst = none)
    ∧ (64 ≤ (tw ((List.range 64).map (fun i => ten (i + 100))) [] : State).obs.tensors.length)
    ∧ ((tw ((List.range 64).map (fun i => ten (i + 100))) [] : State).accepts (cmdObj 8480 5 (rolePm + roleDebug)) rP 32
      (padTo 32 nm ++ leBytes 2 5 ++ leBytes 8 0 ++ leBytes 8 128 ++ leBytes 1 255) = true)
    ∧ (tw [ten 67] [] : State).accepts (cmdObj 8480 6 (rolePm + roleDebug)) rD 32
      (padTo 32 nm ++ leBytes 4 12 ++ leBytes 8 1024 ++ leBytes 8 7 ++ leBytes 8 65536 ++ leBytes 8 4096) = true
    ∧ (List.find? (fun x => x.name == padTo 32 nm) (tw [ten 67] [] : State).obs.tensors = none)
    ∧ (markPlace (ten 66 : Tensor) 2056 (tw [ten 66] [dmp 9 .armed (ten 66)] : State) = some (2056, 5, 1) ∧ nm.length ≤ 32 ∧
      (tw [ten 66] [dmp 9 .armed (ten 66)] : State).isSink 12 = true ∧ 65536 % 128 = 0 ∧ 128 % 128 = 0 ∧ 65536 + 128 ≤ dramTop ∧ mapLines
      (ten 66 : Tensor).lines * 128 ≤ 128 ∧ 7 < 2 ^ 64)
    ∧ (((tw [ten 66] [dmp 9 .armed (ten 66)] : State).storeOf (2056 / 128)).isSome = true ∧ (tw [ten 66] [dmp 9 .armed (ten 66)] : State).standby = false ∧
      (tw [ten 66] [dmp 9 .armed (ten 66)] : State).isSealed 5 = false ∧ (∀ (y : Nat × Nat × Nat), (tw [ten 66] [dmp 9 .armed (ten 66)] : State).segmentNow
      (ten 66 : Tensor).ctx (ten 66 : Tensor).addr = some y → (tw [ten 66] [dmp 9 .armed (ten 66)] : State).isSealed y.snd.fst = false) ∧
      (tw [ten 66] [dmp 9 .armed (ten 66)] : State).accepts (cmdObj 8480 6 (rolePm + roleDebug)) rP 32
      (padTo 32 nm ++ leBytes 4 12 ++ leBytes 8 2056 ++ leBytes 8 7 ++ leBytes 8 65536 ++ leBytes 8 128) = true)
    ∧ (leNat (List.take 8 (List.drop (2056 % 128) ((tw [ten 66] [dmp 9 .armed (ten 66)] : State).dataOf (2056 / 128) 5 1))) < 7)
    ∧ (List.find? (fun x => x.name == padTo 32 nm) (tw [ten 66] [dmp 9 .armed (ten 66)] : State).obs.tensors = some (ten 66 : Tensor))
    ∧ ((List.filter (fun d => d.st != DumpSt.ended) (tw [ten 66] [dmp 9 .armed (ten 66)] : State).obs.dumps).length < 4)
    ∧ (markPlace (ten 66 : Tensor) 2056 (tw [ten 66] (([1,2,3,4].map fun n => dmp n .armed (ten 66)) ++ [dmp 9 .ended (ten 67)]) : State) = some
      (2056, 5, 1) ∧ nm.length ≤ 32 ∧ (tw [ten 66] (([1,2,3,4].map fun n => dmp n .armed (ten 66)) ++ [dmp 9 .ended (ten 67)]) : State).isSink 12 = true ∧
      65536 % 128 = 0 ∧ 128 % 128 = 0 ∧ 65536 + 128 ≤ dramTop ∧ mapLines (ten 66 : Tensor).lines * 128 ≤ 128 ∧ 7 < 2 ^ 64)
    ∧ (((tw [ten 66] (([1,2,3,4].map fun n => dmp n .armed (ten 66)) ++ [dmp 9 .ended (ten 67)]) : State).storeOf (2056 / 128)).isSome = true ∧
      (tw [ten 66] (([1,2,3,4].map fun n => dmp n .armed (ten 66)) ++ [dmp 9 .ended (ten 67)]) : State).standby = false ∧
      (tw [ten 66] (([1,2,3,4].map fun n => dmp n .armed (ten 66)) ++ [dmp 9 .ended (ten 67)]) : State).isSealed 5 = false ∧ (∀ (y : Nat × Nat × Nat),
      (tw [ten 66] (([1,2,3,4].map fun n => dmp n .armed (ten 66)) ++ [dmp 9 .ended (ten 67)]) : State).segmentNow (ten 66 : Tensor).ctx
      (ten 66 : Tensor).addr = some y → (tw [ten 66] (([1,2,3,4].map fun n => dmp n .armed (ten 66)) ++ [dmp 9 .ended (ten 67)]) : State).isSealed
      y.snd.fst = false) ∧ (tw [ten 66] (([1,2,3,4].map fun n => dmp n .armed (ten 66)) ++ [dmp 9 .ended (ten 67)]) : State).accepts
      (cmdObj 8480 6 (rolePm + roleDebug)) rP 32 (padTo 32 nm ++ leBytes 4 12 ++ leBytes 8 2056 ++ leBytes 8 7 ++ leBytes 8 65536 ++ leBytes 8 128) = true)
    ∧ (leNat (List.take 8
      (List.drop (2056 % 128) ((tw [ten 66] (([1,2,3,4].map fun n => dmp n .armed (ten 66)) ++ [dmp 9 .ended (ten 67)]) : State).dataOf (2056 / 128) 5 1)))
      < 7)
    ∧ (List.find? (fun x => x.name == padTo 32 nm)
      (tw [ten 66] (([1,2,3,4].map fun n => dmp n .armed (ten 66)) ++ [dmp 9 .ended (ten 67)]) : State).obs.tensors = some (ten 66 : Tensor))
    ∧ (4 ≤ (List.filter (fun d => d.st != DumpSt.ended)
      (tw [ten 66] (([1,2,3,4].map fun n => dmp n .armed (ten 66)) ++ [dmp 9 .ended (ten 67)]) : State).obs.dumps).length)
    ∧ (9 < 65535 ∧ ((tw [ten 66] [dmp 9 .armed (ten 66)] : State).obs.dumps.any fun d => d.number == 9 && d.st != DumpSt.ended) = true ∧
      (tw [ten 66] [dmp 9 .armed (ten 66)] : State).accepts (cmdObj 8480 7 (rolePm + roleDebug)) rP 2 (leBytes 2 9) = true)
    ∧ (9 < 65535 ∧ ((tw [ten 66] [dmp 9 .ended (ten 66)] : State).obs.dumps.any fun d => d.number == 9 && d.st != DumpSt.ended) = false ∧
      (tw [ten 66] [dmp 9 .ended (ten 66)] : State).accepts (cmdObj 8480 7 (rolePm + roleDebug)) rP 2 (leBytes 2 9) = true)
    ∧ ((tw [ten 66] [trg] : State).frozen = false ∧ (tw [ten 66] [trg] : State).obs.dumps = [trg] ∧ trg.number = 9 ∧ trg.st = DumpSt.triggered ∧
      (tw [ten 66] [trg] : State).dir.entries = [])
    ∧ ((sDump dBig : State).frozen = false ∧ (sDump dBig : State).obs.dumps = [dBig] ∧ dBig.number = 9 ∧ dBig.st = DumpSt.streaming ∧
      ((dn dBig).1 : State).obs.dumps = [dBig] ∧ dBig.sent + (((dn dBig).2.tail : List (Bool × List Byte)).length + 1) < dBig.tensor.lines)
    ∧ (dumpNext dBig (sDump dBig : State) =
      (((dn dBig).1 : State), ((dn dBig).2.headD (false, []) : Bool × List Byte) :: ((dn dBig).2.tail : List (Bool × List Byte))))
    ∧ ((sDump dTwo : State).frozen = false ∧ (sDump dTwo : State).obs.dumps = [dTwo] ∧ dTwo.number = 9 ∧ dTwo.st = DumpSt.streaming ∧
      ((dn dTwo).1 : State).obs.dumps = [dTwo] ∧ dTwo.tensor.lines ≤ dTwo.sent + (((dn dTwo).2.tail : List (Bool × List Byte)).length + 1))
    ∧ (dumpNext dTwo (sDump dTwo : State) =
      (((dn dTwo).1 : State), ((dn dTwo).2.headD (false, []) : Bool × List Byte) :: ((dn dTwo).2.tail : List (Bool × List Byte))))
    ∧ ((tw [ten 66] [dBig] : State).frozen = false ∧ (tw [ten 66] [dBig] : State).obs.dumps = [dBig] ∧ dBig.number = 9 ∧ dBig.st = DumpSt.streaming)
    ∧ (dumpNext dBig (tw [ten 66] [dBig] : State) = (((dumpNext dBig (tw [ten 66] [dBig])).1 : State), []))
    ∧ ((tw [] [] : State).obs.dumps.all fun d => d.number != 3) = true
    ∧ ((.dumpCut 3 : Instr) ∈ [Instr.dumpCut 3, Instr.dumpStreamSend 3]) :=
  ⟨by decide +kernel, by decide +kernel, by decide +kernel, by decide +kernel, by decide +kernel, by decide +kernel, by decide +kernel, by decide +kernel,
   by decide +kernel, by decide +kernel, by decide +kernel, by decide +kernel, by decide +kernel, by decide +kernel, by decide +kernel, by decide +kernel,
   by decide +kernel, by decide +kernel, by decide +kernel, by decide +kernel, by decide +kernel, by decide +kernel, by decide +kernel, by decide +kernel,
   by decide +kernel, by decide +kernel, by decide +kernel, by decide +kernel, by decide +kernel, by decide +kernel, by decide +kernel, by decide +kernel,
   by decide +kernel, by decide +kernel, by decide +kernel, pairOf rfl rfl, by decide +kernel, pairOf rfl rfl, by decide +kernel,
   pairOf rfl (by decide +kernel), by decide +kernel, List.Mem.head _⟩

end Sys2Proof.Tests.Observe

namespace Sys2Proof.Tests.Kodp
set_option Elab.async false

/-! Witnesses: for every clause of the statements about KODP, a state and operands that meet its hypotheses. -/

def nosl : State := world.onPart fun x => { x with slots := [] }
def svc : State := nosl.onKodp fun k => { k with objs := (.serviceMode, 1) :: k.objs }
def filled : State := nosl.onKodp fun k =>
  { k with tables := allTables.map fun t => (t, [{ fields := [0, 5, 6, 7, 8, 9] }, { fields := [1, 2, 3, 4, 5, 6] }]) }
def uc : Client := udpClient 9
def dn : State := { world with pkg := { world.pkg with poresetLow := true } }
def pw : State := twinIn .standby
def rea : State := world.onKodp fun k => { k with
      reasm := [{ client := uc, reqId := 4, frags := [(1, [3])], last := none }, { client := kslClient, reqId := 4, frags := [(1, [3])], last := none }] }
def sb (c : Client) : Sub := { client := c, codes := [1, 0x1101], all := true, roles := 1, queue := [], lost := 0, lostSeq := 0, lostAt := 0 }
def subd (n : Nat) (l : List Client) : State := world.onKodp fun k => { k with subs := l.map sb ++ (List.range n).map fun i => sb (udpClient (500 + i)) }
def rn (late : Bool) (p : Option (List Byte)) : Running :=
  { req := rO, index := 0x1740, sub := 9, firstArg := none, timedOut := late, crc := 0, peerArg := p }
def run1 (late : Bool) (p : Option (List Byte)) : State := world.onKodp fun k => { k with running := [rn late p] }
def rhw : State := world.onObs fun o => { o with reheat := [0] }

set_option maxRecDepth 100000 in
theorem witness_DictionaryWrites :
    (¬(.nodeEid : Obj) ∈ [Obj.timeRoot, Obj.serviceMode, Obj.twinEnable] ∧ noTwinObj (.nodeEid : Obj) = false ∧ (.nodeEid : Obj).info.lo ≤ 77 ∧ 77 ≤
      (.nodeEid : Obj).info.hi ∧ svc.valueBad (.nodeEid : Obj) 77 = false ∧ svc.valueRefused (.nodeEid : Obj) 77 = false ∧
      ((.nodeEid : Obj).info.rws = true → svc.obj Obj.serviceMode = 1) ∧ svc.accepts (writeObj (.nodeEid : Obj)) rO (.nodeEid : Obj).info.size
      (leBytes (.nodeEid : Obj).info.size 77) = true)
    ∧ (¬(.nodeEid : Obj) ∈ [Obj.timeRoot, Obj.serviceMode, Obj.twinEnable] ∧
      (noTwinObj (.nodeEid : Obj) = true ∨ 2 < (.nodeEid : Obj).info.lo ∨ (.nodeEid : Obj).info.hi < 2 ∨ nosl.valueBad (.nodeEid : Obj) 2 = true) ∧
      nosl.accepts (writeObj (.nodeEid : Obj)) rO (.nodeEid : Obj).info.size (leBytes (.nodeEid : Obj).info.size 2) = true)
    ∧ (¬(.nodeEid : Obj) ∈ [Obj.timeRoot, Obj.serviceMode, Obj.twinEnable] ∧ noTwinObj (.nodeEid : Obj) = false ∧ (.nodeEid : Obj).info.lo ≤ 77 ∧ 77 ≤
      (.nodeEid : Obj).info.hi ∧ world.valueBad (.nodeEid : Obj) 77 = false ∧
      (world.valueRefused (.nodeEid : Obj) 77 = true ∨ (.nodeEid : Obj).info.rws = true ∧ world.obj Obj.serviceMode ≠ 1) ∧ world.accepts
      (writeObj (.nodeEid : Obj)) rO (.nodeEid : Obj).info.size (leBytes (.nodeEid : Obj).info.size 77) = true)
    ∧ (∃ u, exec (Instr.timeRootWrite rO 1) world = .next u)
    ∧ (∃ u, exec (Instr.serviceModeWrite rO 1) world = .next u)
    ∧ (∃ u, exec (Instr.twinEnableWrite rO 1) world = .next u)
    ∧ nosl.accepts (putObj (.eidRoutes : TableId)) rO 0 (leBytes 2 ([{ fields := [0, 16, 31] }] : List Row).length ++ List.flatMap
      (rowBytes (.eidRoutes : TableId)) ([{ fields := [0, 16, 31] }] : List Row)) = true
    ∧ nosl.accepts (deleteObj (.eidRoutes : TableId)) rO 0
      (leBytes 2 ([[0, 16]] : List (List Nat)).length ++ List.flatMap (keyBytes (.eidRoutes : TableId)) ([[0, 16]] : List (List Nat))) = true
    ∧ (isFabric 0 = true ∧ portPresent 0 = true ∧ 0 < 256 ∧ 16 < 2 ^ 32 ∧ 31 < 2 ^ 32 ∧ (filled.table TableId.eidRoutes).length <
      TableId.eidRoutes.info.limit ∧ filled.accepts (putObj TableId.eidRoutes) rO 0 (leBytes 2 1 ++ rowBytes TableId.eidRoutes { fields := [0, 16, 31] }) =
      true)
    ∧ filled.accepts (deleteObj TableId.portConfig) rO 0 (leBytes 2 (([0] : List Nat) :: ([[1]] : List (List Nat))).length ++ List.flatMap
      (keyBytes TableId.portConfig) (([0] : List Nat) :: ([[1]] : List (List Nat)))) = true :=
  ⟨by decide +kernel, by decide +kernel, by decide +kernel, ⟨_, rfl⟩, ⟨_, rfl⟩, ⟨_, rfl⟩, by decide +kernel, by decide +kernel, by decide +kernel,
   by decide +kernel⟩

set_option maxRecDepth 100000 in
theorem witness_KodpMessages :
    (uc.session = none ∧ dn.bakerUp = false)
    ∧ (uc.session = none ∧ world.bakerUp = true ∧ uc.transport ≠ Transport.vc7 ∧ ([0, 2, 2] : List Byte).length < 4)
    ∧ (kslClient.session = none ∧ world.bakerUp = true ∧ kslClient.transport ≠ Transport.vc7 ∧ world.reasmOf kslClient 3 = none ∧ world.reasmFull kslClient
      3 = false ∧ 3 < 2 ^ 16 ∧ 0 < 8 ∧ (leBytes 1020 (7^900) : List Byte).length = fragSize kslClient.transport)
    ∧ ((pw.peerClient : Client).session = none ∧ pw.bakerUp = true ∧ (pw.peerClient : Client) = pw.peerClient ∧ pw.reasmOf (pw.peerClient : Client) 4095 =
      none ∧ pw.reasmFull (pw.peerClient : Client) 4095 = false ∧ 4095 < 4096 ∧ 15 < 16 ∧ (leBytes 496 (7^900) : List Byte).length = 496)
    ∧ (uc.session = none ∧ rea.bakerUp = true ∧ rea.reasmOf uc 5 = none)
    ∧ (uc.session = none ∧ rea.bakerUp = true ∧ rea.reasmOf uc 4 ≠ none)
    ∧ (uc.session = none ∧ rea.bakerUp = true ∧ rea.obs.reheat.contains 0 = false ∧ aget rea.sec.sessions 4 = none)
    ∧ (uc.session = none ∧ rea.bakerUp = true ∧ rea.obs.reheat.contains 0 = false ∧ aget rea.sec.sessions 1 = some (sessionOf 1 rolePm none : Session) ∧
      ((sessionOf 1 rolePm none : Session).client ≠ uc ∨ 2 ^ 32 ≤ (sessionOf 1 rolePm none : Session).received))
    ∧ ((udpClient 1 : Client).session = none ∧ rea.bakerUp = true ∧ rea.obs.reheat.contains 0 = false ∧ aget rea.sec.sessions 1 = some
      (sessionOf 1 rolePm none : Session) ∧ (sessionOf 1 rolePm none : Session).client = (udpClient 1 : Client) ∧
      (sessionOf 1 rolePm none : Session).received < 2 ^ 32)
    ∧ (kslClient.session = none ∧ world.bakerUp = true ∧ kslClient.transport ≠ Transport.vc7 ∧ 9 < 2 ^ 16 ∧ world.kodp.queue = [] ∧ world.reasmOf kslClient
      9 = none ∧ world.reasmFull kslClient 9 = false ∧ 0x1100 < 2 ^ 16)
    ∧ (1 < 256 ∧ readValue world kslClient 0x1100 1 = some ({ roles := 3, any := false, bytes := [0] } : Value) ∧ world.accepts { 
          index := 0x1100,
          sub := 1,
          type := 1,
          roles := ({ roles := 3, any := false, bytes := [0] } : Value).roles,
          any := ({ roles := 3, any := false, bytes := [0] } : Value).any } { client := kslClient, id := 9, tag := 0 } 0 [] = true)
    ∧ (kslClient.session = none ∧ world.bakerUp = true ∧ kslClient.transport ≠ Transport.vc7 ∧ 9 < 2 ^ 16 ∧ world.kodp.queue = [] ∧ world.reasmOf kslClient
      9 = none ∧ world.reasmFull kslClient 9 = false ∧ 0x2201 < 2 ^ 16)
    ∧ (1 < 256 ∧ readValue world kslClient 0x2201 1 = none ∧ world.accepts { index := 0x2201, sub := 1, type := 1, roles := 0, any := true }
      { client := kslClient, id := 9, tag := 0 } 0 [] = true)
    ∧ (kslClient.session = none ∧ world.bakerUp = true ∧ kslClient.transport ≠ Transport.vc7 ∧ 7 < 2 ^ 16 ∧ world.kodp.queue = [] ∧ world.reasmOf kslClient
      7 = none ∧ world.reasmFull kslClient 7 = false ∧ 900 < 256 ^ (.clientLease : Obj).info.size)
    ∧ (∃ u, exec (Instr.objectWrite { client := kslClient, id := 7, tag := 0 } (.clientLease : Obj) 900) world = .next u)
    ∧ (kslClient.session = none ∧ world.bakerUp = true ∧ kslClient.transport ≠ Transport.vc7 ∧ 7 < 2 ^ 16 ∧ world.kodp.queue = [] ∧ world.reasmOf kslClient
      7 = none ∧ world.reasmFull kslClient 7 = false ∧ 127 < 128)
    ∧ 65535 < 2 ^ 16
    ∧ ((((0x1740, 1), [], .errorLogClear { client := kslClient, id := 7, tag := 0 }) : (Nat × Nat) × List Byte × Instr) ∈
      [((4640, 1), leBytes 1 127 ++ [2], Instr.portDisable { client := kslClient, id := 7, tag := 0 } 127),
      ((5152, 3), leBytes 2 65535, Instr.partnerEvict { client := kslClient, id := 7, tag := 0 } 65535),
      ((5408, 1), leBytes 8 65535, Instr.directoryLookup { client := kslClient, id := 7, tag := 0 } 65535),
      ((5680, 4), leBytes 1 127, Instr.deepFlush { client := kslClient, id := 7, tag := 0 } 127),
      ((5952, 1), [], Instr.errorLogClear { client := kslClient, id := 7, tag := 0 }),
      ((6176, 1), leBytes 2 65535 ++ leBytes 2 127, Instr.recipeAbort { client := kslClient, id := 7, tag := 0 } 65535 127),
      ((6688, 2), leBytes 2 65535, Instr.kernelUnload { client := kslClient, id := 7, tag := 0 } 65535),
      ((6960, 3), [], Instr.twinHandover { client := kslClient, id := 7, tag := 0 }),
      ((7216, 1), leBytes 2 65535, Instr.histogramClear { client := kslClient, id := 7, tag := 0 } 65535),
      ((7456, 2), leBytes 4 65535, Instr.jobClose { client := kslClient, id := 7, tag := 0 } 65535),
      ((7712, 2), leBytes 2 65535, Instr.tenantRetire { client := kslClient, id := 7, tag := 0 } 65535),
      ((7968, 1), leBytes 2 65535, Instr.resetCore { client := kslClient, id := 7, tag := 0 } 65535),
      ((8224, 3), [], Instr.fwVerify { client := kslClient, id := 7, tag := 0 }),
      ((8480, 8), leBytes 8 65535, Instr.debugStop { client := kslClient, id := 7, tag := 0 } 65535)])
    ∧ (∃ u, exec (((0x1740, 1), [], .errorLogClear { client := kslClient, id := 7, tag := 0 }) : (Nat × Nat) × List Byte × Instr).snd.snd world = .next u)
    ∧ (kslClient.session = none ∧ world.bakerUp = true ∧ kslClient.transport ≠ Transport.vc7 ∧ 7 < 2 ^ 16 ∧ world.kodp.queue = [] ∧ world.reasmOf kslClient
      7 = none ∧ world.reasmFull kslClient 7 = false ∧ genKept 0x0020 = true)
    ∧ (0 < 2 ^ 32 ∧ 65535 < 2 ^ 16 ∧ tableView world kslClient 0x0020 = some
      ((tableView world kslClient 0x0020).getD { roles := 0, keyLen := 0, rowLen := 1, rows := [] } : TabView) ∧ world.accepts { 
          index := 0x0020,
          sub := 0,
          type := 4,
          roles := ((tableView world kslClient 0x0020).getD { roles := 0, keyLen := 0, rowLen := 1, rows := [] } : TabView).roles,
          any := false } { client := kslClient, id := 7, tag := 0 } 0 (leBytes 4 0 ++ leBytes 2 65535) = true)
    ∧ (kslClient.session = none ∧ world.bakerUp = true ∧ kslClient.transport ≠ Transport.vc7 ∧ 7 < 2 ^ 16 ∧ world.kodp.queue = [] ∧ world.reasmOf kslClient
      7 = none ∧ world.reasmFull kslClient 7 = false ∧ genKept 0x1120 = false)
    ∧ (0x1120 < 2 ^ 16 ∧ 0 < 2 ^ 32 ∧ 65535 < 2 ^ 16 ∧ tableView world kslClient 0x1120 = some
      ((tableView world kslClient 0x1120).getD { roles := 0, keyLen := 0, rowLen := 1, rows := [] } : TabView))
    ∧ (kslClient.session = none ∧ world.bakerUp = true ∧ kslClient.transport ≠ Transport.vc7 ∧ 7 < 2 ^ 16 ∧ world.kodp.queue = [] ∧ world.reasmOf kslClient
      7 = none ∧ world.reasmFull kslClient 7 = false)
    ∧ (∃ u, exec (Instr.ping { client := kslClient, id := 7, tag := 0 }) world = .next u)
    ∧ (uc.session = none ∧ world.bakerUp = true ∧ uc.transport ≠ Transport.vc7 ∧ 7 < 2 ^ 16 ∧ world.kodp.queue = [] ∧ world.reasmOf uc 7 = none ∧
      world.reasmFull uc 7 = false ∧ 8704 ≤ 0xFFFF)
    ∧ (0xFFFF < 2 ^ 16 ∧ 255 < 256 ∧ (leBytes 512 5 : List Byte).length ≤ 512 ∧ world.accepts
      { index := 0xFFFF, sub := 255, type := 3, roles := 0, any := true } { client := uc, id := 7, tag := 0 } 0 (leBytes 512 5 : List Byte) = true)
    ∧ (uc.session = none ∧ world.bakerUp = true ∧ uc.transport ≠ Transport.vc7 ∧ 7 < 2 ^ 16 ∧ world.kodp.queue = [] ∧ world.reasmOf uc 7 = none ∧
      world.reasmFull uc 7 = false ∧ 0 < 256)
    ∧ (0 ≠ 1 ∧ world.accepts { index := 4352, sub := 1, type := 1, roles := 0, any := true } { client := uc, id := 7, tag := 0 } 0 [] = true) :=
  ⟨by decide +kernel, by decide +kernel, by decide +kernel, by decide +kernel, by decide +kernel, by decide +kernel, by decide +kernel, by decide +kernel,
   by decide +kernel, by decide +kernel, by decide +kernel, by decide +kernel, by decide +kernel, by decide +kernel, ⟨_, rfl⟩, by decide +kernel,
   by decide +kernel, List.Mem.tail _ (List.Mem.tail _ (List.Mem.tail _ (List.Mem.tail _ (List.Mem.head _)))), ⟨_, rfl⟩, by decide +kernel,
   by decide +kernel, by decide +kernel, by decide +kernel, by decide +kernel, ⟨_, rfl⟩, by decide +kernel, by decide +kernel, by decide +kernel,
   by decide +kernel⟩

set_option maxRecDepth 100000 in
theorem witness_KodpClients :
    (world.kodp.queue = [] ∧ world.accepts { index := 0, sub := 0, type := 10, roles := 0, any := true } rO 0 [] = true)
    ∧ ((subd 3 [] : State).kodp.queue = [] ∧ (∀ x ∈ ([] : List Nat), x = codeAll ∨ x ∈ allCodes) ∧ (subd 3 [] : State).kodp.subs.length < 64 ∧
      (subd 3 [] : State).accepts (subObj 7) rO 0 (codesBytes ([] : List Nat)) = true)
    ∧ ((subd 64 [] : State).kodp.queue = [] ∧ (∀ x ∈ ([1] : List Nat), x = codeAll ∨ x ∈ allCodes) ∧ (subd 64 [] : State).subOf rO.client = none ∧ 64 ≤
      (subd 64 [] : State).kodp.subs.length ∧ (subd 64 [] : State).accepts (subObj 7) rO 0 (codesBytes ([1] : List Nat)) = true)
    ∧ ((subd 4 [] : State).kodp.queue = [] ∧ (∀ x ∈ ([] : List Nat), x = codeAll ∨ x ∈ allCodes) ∧ (subd 4 [] : State).accepts (subObj 8) rO 0
      (codesBytes ([] : List Nat)) = true)
    ∧ ((subd 4 [] : State).kodp.queue = [] ∧ 5 ∈ ([1, 5] : List Nat) ∧ 5 ≠ codeAll ∧ ¬5 ∈ allCodes ∧ (subd 4 [] : State).accepts (subObj 7) rO 0
      (codesBytes ([1, 5] : List Nat)) = true)
    ∧ ((subd 4 [] : State).kodp.queue = [] ∧ 5 ∈ ([1, 5] : List Nat) ∧ 5 ≠ codeAll ∧ ¬5 ∈ allCodes ∧ (subd 4 [] : State).accepts (subObj 8) rO 0
      (codesBytes ([1, 5] : List Nat)) = true)
    ∧ (run1 false none : State).kodp.queue = []
    ∧ (List.find? (fun x => x.req == rO && !x.timedOut) (run1 false none : State).kodp.running = some (rn false none : Running))
    ∧ ((run1 true none : State).kodp.queue = [] ∧ ((run1 true none : State).kodp.running.all fun x => x.req != rO || x.timedOut) = true)
    ∧ ((run1 true none : State).kodp.queue = [] ∧ (run1 true none : State).kodp.running = [(rn true none : Running)] ∧ (rn true none : Running).req = rO ∧
      (rn true none : Running).timedOut = true ∧ ((run1 true none : State).mirrorsOps && (rn true none : Running).peerArg.isSome) = false ∧
      (run1 true none : State).obs.reheat.contains 0 = false)
    ∧ ((run1 false none : State).kodp.queue = [] ∧ ((run1 false none : State).kodp.running.all fun x => x.req != rO || !x.timedOut) = true)
    ∧ (subd 4 [uc, rO.client] : State).kodp.queue = []
    ∧ ((run1 true none).onKodp fun k => { k with
          cache := [(rO.client, [{ reqId := 7, crc := 4, reply := mkMsg 1 7 0 0 .ok [] }, { reqId := 8, crc := 4, reply := mkMsg 1 7 0 0 .ok [] }]),
            (uc, [{ reqId := 7, crc := 4, reply := mkMsg 1 7 0 0 .ok [] }])] } : State).kodp.queue = [] :=
  ⟨by decide +kernel, by decide +kernel, by decide +kernel, by decide +kernel, by decide +kernel, by decide +kernel, by decide +kernel, by decide +kernel,
   by decide +kernel, by decide +kernel, by decide +kernel, by decide +kernel, by decide +kernel⟩

set_option maxRecDepth 100000 in
theorem witness_ManagementLanes :
    world.kslMine 0x3F = false
    ∧ ((.kslReadFrame 0x3F : Instr) ∈ [Instr.kslWriteFrame 0x3F 2 ([1, 2] : List Byte) 7, Instr.kslReadFrame 0x3F, Instr.kslFrameTimeout])
    ∧ (world.kslMine 0x40 = true ∧ (7 ≠ crc16 (leBytes 2 3 ++ ([1, 2, 3] : List Byte)) ∨ 1024 < 3 ∨ ([1, 2, 3] : List Byte).length ≠ 3 ∨ Option.map
      Prod.fst (aget world.integ.selfTest (5, 40)) = some 3))
    ∧ (rhw.kslMine 0x40 = true ∧ ([] : List Byte).length ≤ 1024 ∧ rhw.obs.reheat.contains 0 = true ∧ Option.map Prod.fst (aget rhw.integ.selfTest (5, 40))
      ≠ some 3)
    ∧ (world.kslMine 0x40 = true ∧ 4 ≤ ([0, 1, 3, 4] : List Byte).length ∧ ([0, 1, 3, 4] : List Byte).length ≤ 1024 ∧ world.obs.reheat.contains 0 = false ∧
      Option.map Prod.fst (aget world.integ.selfTest (5, 40)) ≠ some 3 ∧ world.reasmFull kslClient
      (leNat (List.take 2 (List.drop 2 ([0, 1, 3, 4] : List Byte)))) = false)
    ∧ (world.kslMine 0x40 = true ∧ (world.kodp.kslTx = [] ∨ world.obs.reheat.contains 0 = true))
    ∧ ((world.onKodp fun k => { k with kslTx := [(true, mkMsg 1 3 0 0 .ok [])] } : State).kslMine 0x40 = true ∧
      (world.onKodp fun k => { k with kslTx := [(true, mkMsg 1 3 0 0 .ok [])] } : State).kodp.kslTx = ((true, mkMsg 1 3 0 0 .ok []) : Bool × KMsg) ::
      ([] : List (Bool × KMsg)) ∧ (world.onKodp fun k => { k with kslTx := [(true, mkMsg 1 3 0 0 .ok [])] } : State).obs.reheat.contains 0 = false)
    ∧ ∃ frame : List Byte, 14 ≤ frame.length ∧ frame.length < 1515 ∧ frame.take 6 ≠ ourMac ∧ beField frame 0 1 % 2 = 0 :=
  ⟨by decide +kernel, List.Mem.tail _ (List.Mem.head _), by decide +kernel, by decide +kernel, by decide +kernel, by decide +kernel, by decide +kernel, by
    by_cases h : ourMac = [2, 9, 9, 9, 9, 9]
    · exact ⟨4 :: leBytes 60 3, by decide, by decide, by rw [h]; decide, by decide⟩
    · exact ⟨[2, 9, 9, 9, 9, 9] ++ leBytes 60 3, by decide, by decide, fun e => h (by rw [← e]; rfl), by decide⟩⟩

end Sys2Proof.Tests.Kodp

namespace Sys2Proof.Tests.Whole
set_option Elab.async false

/-! Witnesses: for every clause of the statements about management lanes and the machine as a whole, a state and operands that meet its hypotheses. -/

def uc : Client := udpClient 9
def ipB (s : State) (port frag : Nat) (pay : List Byte) : List Byte :=
  let h := beBytes 2 0x4500 ++ beBytes 2 (28 + pay.length) ++ beBytes 2 7 ++ beBytes 2 frag ++ [64, 17] 
  let rest := beBytes 4 0x0A000002 ++ beBytes 4 s.ourV4
  let c := inetSum (h ++ [0, 0] ++ rest)
  h ++ beBytes 2 c ++ rest ++ beBytes 2 5000 ++ beBytes 2 port ++ beBytes 2 (8 + pay.length) ++ [0, 0] ++ pay
def mac : List Byte := [2, 3, 4, 5, 6, 7]
def rg (n : Nat) (fa : Option Nat) : State := world.onKodp fun k => { k with
      running := (List.range n).map fun i =>
        { req := { client := uc, id := i, tag := 0 }, index := 0x2120, sub := 2, firstArg := fa, timedOut := false, crc := 0, peerArg := none } }

set_option maxRecDepth 100000 in
theorem witness_ManagementLanes_b :
    (world.link.mgmtLink = false ∨ world.bakerUp = false ∨ ([1, 2, 3] : List Byte).length < 14 ∨ 1514 < ([1, 2, 3] : List Byte).length)
    ∧ (world.link.mgmtLink = true ∧ world.bakerUp = true ∧ ([2, 9, 9, 9, 9, 9] ++ leBytes 60 3 : List Byte).length < 1515 ∧ 14 ≤
      ([2, 9, 9, 9, 9, 9] ++ leBytes 60 3 : List Byte).length ∧ beField ([2, 9, 9, 9, 9, 9] ++ leBytes 60 3 : List Byte) 0 1 % 2 = 0)
    ∧ (world.link.mgmtLink = true ∧ world.bakerUp = true ∧ ([] : List Byte).length ≤ 1494 ∧ ([2, 3, 4, 5, 6, 7] : List Byte).length = 6)
    ∧ (world.link.mgmtLink = true ∧ world.bakerUp = true ∧ ([2, 3, 4, 5, 6, 7] : List Byte).length = 6 ∧ (leBytes 6 0 : List Byte).length = 6 ∧ 0x0A000002
      < 2 ^ 32 ∧ world.ourV4 < 2 ^ 32)
    ∧ (ourMac = ourMac ∨ ourMac = List.replicate 6 255)
    ∧ (world.link.mgmtLink = true ∧ world.bakerUp = true ∧ mac.length = 6 ∧ 28 ≤ (ipB world 47131 0 [5] : List Byte).length ∧
      (ipB world 47131 0 [5] : List Byte).length ≤ 1500 ∧ beField (ipB world 47131 0 [5] : List Byte) 0 1 = 69 ∧ beField
      (ipB world 47131 0 [5] : List Byte) 2 2 = (ipB world 47131 0 [5] : List Byte).length ∧ inetSum (List.take 20 (ipB world 47131 0 [5] : List Byte)) = 0)
    ∧ (beField (ipB world 47131 0 [5] : List Byte) 16 4 = world.ourV4 ∧ beField (ipB world 47131 0 [5] : List Byte) 6 2 % 16384 = 0 ∧ beField
      (ipB world 47131 0 [5] : List Byte) 9 1 = 17 ∧ beField (ipB world 47131 0 [5] : List Byte) 24 2 = (ipB world 47131 0 [5] : List Byte).length - 20 ∧
      beField (ipB world 47131 0 [5] : List Byte) 26 2 = 0 ∧ beField (ipB world 47131 0 [5] : List Byte) 22 2 = 47131)
    ∧ (∃ u, exec (Instr.kodpFragment { 
          transport := Transport.udp,
          addr := beField (ipB world 47131 0 [5] : List Byte) 12 4,
          port := beField (ipB world 47131 0 [5] : List Byte) 20 2,
          session := none } (List.drop 28 (ipB world 47131 0 [5] : List Byte))) world = .next u)
    ∧ (world.link.mgmtLink = true ∧ world.bakerUp = true ∧ mac.length = 6 ∧ 28 ≤ (ipB world 53 0 [] : List Byte).length ∧
      (ipB world 53 0 [] : List Byte).length ≤ 1500 ∧ beField (ipB world 53 0 [] : List Byte) 0 1 = 69 ∧ beField (ipB world 53 0 [] : List Byte) 2 2 =
      (ipB world 53 0 [] : List Byte).length ∧ inetSum (List.take 20 (ipB world 53 0 [] : List Byte)) = 0)
    ∧ (beField (ipB world 53 0 [] : List Byte) 16 4 = world.ourV4 ∧ beField (ipB world 53 0 [] : List Byte) 6 2 % 16384 = 0 ∧ beField
      (ipB world 53 0 [] : List Byte) 9 1 = 17 ∧ beField (ipB world 53 0 [] : List Byte) 24 2 = (ipB world 53 0 [] : List Byte).length - 20 ∧ beField
      (ipB world 53 0 [] : List Byte) 26 2 = 0 ∧ beField (ipB world 53 0 [] : List Byte) 22 2 ≠ 47131) :=
  ⟨by decide +kernel, by decide +kernel, by decide +kernel, by decide +kernel, by simp, by decide +kernel, by decide +kernel, ⟨_, rfl⟩, by decide +kernel,
   by decide +kernel⟩

theorem witness_StepRunsFront :
    ({ State.reset with pending := [.nop 0 0] } : State).pending = (.nop 0 0 : Instr) :: ([] : List Instr) :=
  by decide +kernel

theorem witness_EmptyQueueTicks :
    world.pending = []
    ∧ ((State.reset : State).pending = [] ∧ (State.reset : State).kodp.queue = [] ∧ (State.reset : State).timeRuns = false)
    ∧ ((world.onObs fun o => { o with stop := .stopped } : State).pending = [] ∧ (world.onObs fun o => { o with stop := .stopped } : State).kodp.queue = []
      ∧ (world.onObs fun o => { o with stop := .stopped } : State).timeRuns = true ∧ (world.onObs fun o => { o with stop := .stopped } : State).frozen =
      true)
    ∧ (world.pending = [] ∧ world.kodp.queue = [] ∧ world.timeRuns = true ∧ world.frozen = false)
    ∧ ((world.onKodp fun k => { k with queue := [({ client := uc, id := 5, tag := 0 }, mkMsg 10 5 0 0 .ok [])] } : State).pending = [] ∧
      (world.onKodp fun k => { k with queue := [({ client := uc, id := 5, tag := 0 }, mkMsg 10 5 0 0 .ok [])] } : State).bakerUp = true ∧
      (world.onKodp fun k => { k with queue := [({ client := uc, id := 5, tag := 0 }, mkMsg 10 5 0 0 .ok [])] } : State).obs.reheat.contains 0 = false ∧
      (world.onKodp fun k => { k with queue := [({ client := uc, id := 5, tag := 0 }, mkMsg 10 5 0 0 .ok [])] } : State).kodp.queue =
      [(({ client := uc, id := 5, tag := 0 } : Req), (mkMsg 10 5 0 0 .ok [] : KMsg))] ∧ (mkMsg 10 5 0 0 .ok [] : KMsg).type = 10 ∧
      (mkMsg 10 5 0 0 .ok [] : KMsg).body = [])
    ∧ world.timeRuns = true
    ∧ (world.timeRuns = true ∧ 1 ≤ 1 ∧ -200000 ≤ (world.island 1).rateAdj ∧ (world.island 1).rateAdj ≤ 200000)
    ∧ (world.timeRuns = true ∧ 1 ≤ 1 ∧ (world.island 1).slew = 0 ∧ ((world.island 1).st = TimeSt.root ∨ (world.island 1).rateAdj = 0))
    ∧ (world.timeRuns = true ∧ 1 ≤ 1)
    ∧ ((world.onObs fun o => { o with time0 := { o.time0 with st := .holdover } } : State).timeRuns = true ∧ 0 ≤ 1 ∧
      ((world.onObs fun o => { o with time0 := { o.time0 with st := .holdover } } : State).island 0).st = TimeSt.holdover)
    ∧ (State.reset : State).timeRuns = false
    ∧ (world.onPkg fun p => { p with refclk := false } : State).timeRuns = false :=
  ⟨by decide +kernel, by decide +kernel, by decide +kernel, by decide +kernel, by decide +kernel, by decide +kernel, by decide +kernel, by decide +kernel,
   by decide +kernel, by decide +kernel, by decide +kernel, by decide +kernel⟩

set_option maxRecDepth 100000 in
theorem witness_StepsKeepMemory :
    ((State.reset : State).MemWf)
    ∧ (∃ u, step (State.reset : State) = .next u)
    ∧ (∃ u, step (State.reset : State) = .next u) :=
  ⟨by unfold State.MemWf; decide +kernel, ⟨_, rfl⟩, ⟨_, rfl⟩⟩

set_option maxRecDepth 100000 in
theorem witness_MemoryReadsBack :
    ((State.reset : State).MemWf)
    ∧ (6 < 4 ∨ 4 + ([1, 2] : List Byte).length ≤ 6)
    ∧ ((State.reset : State).MemWf)
    ∧ (leBytes 128 7 : List Byte).length = 128
    ∧ ((State.reset : State).MemWf)
    ∧ ((leBytes 128 7 : List Byte).length = 128 ∧ 1 ≠ 0)
    ∧ ((State.reset : State).MemWf)
    ∧ ((State.reset : State).MemWf)
    ∧ ((State.reset : State).MemWf)
    ∧ (∀ (a : Nat), (State.reset : State).readByte a = (State.reset : State).readByte a) :=
  ⟨by unfold State.MemWf; decide +kernel, by decide +kernel, by unfold State.MemWf; decide +kernel, by decide +kernel,
   by unfold State.MemWf; decide +kernel, by decide +kernel, by unfold State.MemWf; decide +kernel, by unfold State.MemWf; decide +kernel,
   by unfold State.MemWf; decide +kernel, by simp⟩

theorem witness_HomeClusters :
    0x123456789ABCD < 2 ^ 52
    ∧ (homeCluster 3 = homeCluster 3 ∧ localAddr 3 = localAddr 3)
    ∧ 15 < 16 :=
  ⟨by decide +kernel, by decide +kernel, by decide +kernel⟩

theorem witness_RunningInvokes :
    ((cmdObj 0x2120 2 (roleOp + roleDebug) : OpObj).type = 3 ∧ ({ world with kodp := { world.kodp with running := [] } } : State).accepts
      (cmdObj 0x2120 2 (roleOp + roleDebug) : OpObj) rO 8 (leBytes 8 5 : List Byte) = true ∧
      (world.kodp.running.all fun x => !(x.req.client == rO.client && x.req.id == rO.id)) = true ∧ world.kodp.queue = [] ∧
      ((firstArg 8 (leBytes 8 5 : List Byte)).isSome && world.kodp.running.any fun x => x.index == (cmdObj 0x2120 2 (roleOp + roleDebug) : OpObj).index &&
      x.sub == (cmdObj 0x2120 2 (roleOp + roleDebug) : OpObj).sub && x.firstArg == firstArg 8 (leBytes 8 5 : List Byte)) = false ∧
      world.kodp.running.length < 16)
    ∧ ((cmdObj 0x2120 2 (roleOp + roleDebug) : OpObj).type = 3 ∧
      ({ (rg 16 (some 4) : State) with kodp := { (rg 16 (some 4) : State).kodp with running := [] } } : State).accepts
      (cmdObj 0x2120 2 (roleOp + roleDebug) : OpObj) rO 8 (leBytes 8 5 : List Byte) = true ∧
      ((rg 16 (some 4) : State).kodp.running.all fun x => !(x.req.client == rO.client && x.req.id == rO.id)) = true ∧ (rg 16 (some 4) : State).kodp.queue =
      [] ∧ ((firstArg 8 (leBytes 8 5 : List Byte)).isSome && (rg 16 (some 4) : State).kodp.running.any fun x => x.index ==
      (cmdObj 0x2120 2 (roleOp + roleDebug) : OpObj).index && x.sub == (cmdObj 0x2120 2 (roleOp + roleDebug) : OpObj).sub && x.firstArg == firstArg 8
      (leBytes 8 5 : List Byte)) = false ∧ 16 ≤ (rg 16 (some 4) : State).kodp.running.length)
    ∧ ((cmdObj 0x2120 2 (roleOp + roleDebug) : OpObj).type = 3 ∧
      ({ (rg 1 (some 5) : State) with kodp := { (rg 1 (some 5) : State).kodp with running := [] } } : State).accepts
      (cmdObj 0x2120 2 (roleOp + roleDebug) : OpObj) rO 8 (leBytes 8 5 : List Byte) = true ∧
      ((rg 1 (some 5) : State).kodp.running.all fun x => !(x.req.client == rO.client && x.req.id == rO.id)) = true ∧ (rg 1 (some 5) : State).kodp.queue =
      [] ∧ ((firstArg 8 (leBytes 8 5 : List Byte)).isSome && (rg 1 (some 5) : State).kodp.running.any fun x => x.index ==
      (cmdObj 0x2120 2 (roleOp + roleDebug) : OpObj).index && x.sub == (cmdObj 0x2120 2 (roleOp + roleDebug) : OpObj).sub && x.firstArg == firstArg 8
      (leBytes 8 5 : List Byte)) = true) :=
  ⟨by decide +kernel, by decide +kernel, by decide +kernel⟩

end Sys2Proof.Tests.Whole

namespace Sys2Proof.Tests.Smoke
set_option Elab.async false

/-- A well-formed request, and one with a TAG of 13 bits. -/
def rq : Req := { client := kslClient, id := 7, tag := 0 }
def rqBad : Req := { rq with tag := 4096 }
/-- A well-formed client, and one with an address the board controller has not. -/
def cli : Client := kslClient
def cliBad : Client := { kslClient with addr := 1 }
/-- A well-formed packet, and one with a TAG of 13 bits. -/
def pkt : Packet := { vc := 0, op := 0, dest := 0, src := 0, tag := 0, poison := false, resend := false, enc := false, rsv := 0, status := 0, harg := 0, crc := 0, body := [] }
def pktBad : Packet := { pkt with tag := 4096 }
/-- A well-formed flit. -/
def flt : Flit :=
  { seq := 0, ack := 0, ackValid := false, kind := .idle, headMap := 0, cont := 0, slots := List.replicate 15 (List.replicate 16 0), crc := 0 }
/-- A well-formed lane frame. -/
def lane : LaneFrame := { block := List.replicate 320 0, fec := { corrected := 0, uncorr := 0, prbsBad := 0, power := 0 } }

/-! Of what commands are made of, a term for every check that fails it. -/

theorem wf_refuses_clients : ([{ cli with session := some (2 ^ 32) }, { cli with addr := 1 }, { cli with port := 1 }, { cli with transport := .vc7, addr := 2 ^ 18 },
    { cli with transport := .vc7, port := 1 }, { cli with transport := .udp, addr := 2 ^ 128 }, { cli with transport := .udp, port := 65536 }] : List Client).all
      (fun c => !c.wf) = true := by decide +kernel

theorem wf_refuses_requests : ([{ rq with client := cliBad }, { rq with id := 65536 }, rqBad] : List Req).all (fun c => !c.wf) = true := by decide +kernel

theorem wf_refuses_packets : ([{ pkt with vc := 8 }, { pkt with op := 256 }, { pkt with dest := 2 ^ 18 }, { pkt with src := 2 ^ 18 }, pktBad, { pkt with rsv := 32 },
    { pkt with status := 256 }, { pkt with harg := 65536 }, { pkt with crc := 2 ^ 32 }, { pkt with body := [0] }, { pkt with body := List.replicate 512 0 }] : List Packet).all
      (fun c => !c.wf) = true := by decide +kernel

theorem wf_refuses_flits : ([{ flt with seq := 4096 }, { flt with ack := 4096 }, { flt with headMap := 2 ^ 15 }, { flt with cont := 16 }, { flt with slots := [] },
    { flt with slots := List.replicate 15 [] }, { flt with crc := 2 ^ 64 }, { flt with rsv := 2 ^ 18 }, { flt with bad := [8] }] : List Flit).all (fun c => !c.wf) = true := by decide +kernel

theorem wf_refuses_lanes : ([{ lane.fec with corrected := 2 ^ 32 }, { lane.fec with uncorr := 2 ^ 32 }, { lane.fec with prbsBad := 2 ^ 32 }, { lane.fec with power := -(2 ^ 15) - 1 },
    { lane.fec with power := 2 ^ 15 }] : List LaneFec).all (fun c => !c.wf) = true := by decide +kernel

theorem wf_refuses_threads : threadOk 288 0 = false ∧ threadOk 0 64 = false := by decide +kernel

/-! Of every command, a term that is well formed. -/

theorem wf_takes_1 : (
    [.poresetAssert, .strapSample 0 0 0, .warmresetAssert, .warmresetShort, .warmresetStart, .brownOut .vddCore, .refclkLoss,
     .thermalSample [], .thermtrip .stack 0, .powerStepAck true, .powerStepStart, .stepAckMissing, .stepAckStuck, .holdupSample true,
     .kslWriteFrame 0 0 [] 0, .kslReadFrame 0, .kslFrameTimeout, .debugHoldTimeout, .bakerBootComplete, .laserInputLow 0,
     .laserInputsDark 0, .laserInputRestored 0 0, .laserLow 0 0, .lockstepDisagreement 0, .laneLos 0 0, .laneSignalRestored 0 0,
     .portDark 0, .detectLit 0, .lcbReceived 0 0 lane, .trainComplete 0, .trainTimeout 0, .retrainComplete 0, .retrainTimeout 0,
     .downHoldExpiry 0, .flitReceived 0 flt, .flitSend 0, .nakTimer 0, .replayTimeout 0, .oldestFlitTimeout 0, .creditReportTimer 0,
     .chargedReportTimer 0, .timeSyncSend 0, .portEnable rq 0, .portDisable rq 0, .portRetrain rq 0, .portLaneRestore rq 0, .attach 0 pkt,
     .heartbeat 0 pkt, .detach 0 pkt, .detachComplete 0, .leaseExpiry 0, .partnerLossWalkDone 0, .quarantineExpiry 0, .e2eNak 0 pkt,
     .announce 0 pkt, .rdShared 0 pkt, .rdUnique 0 pkt, .rdOnce 0 pkt, .wrLine 0 pkt, .wrPart 0 pkt] : List Instr).all (fun c => c.wf) = true := by decide +kernel

theorem wf_takes_2 : (
    [.writeback 0 pkt, .evictClean 0 pkt, .upgrade 0 pkt, .atomic 0 pkt, .wrData 0 pkt, .wbData 0 pkt, .snpData 0 pkt, .atomicOpnd 0 pkt,
     .snpRsp 0 pkt, .crossed 0 pkt, .stashRsp 0 pkt, .rtRead 0 pkt, .recipeCancel 0 pkt, .requestOrdered 0 0, .recallDeadline 0,
     .parkedPresent 0, .pairingTimeout 0 0, .requestWithdraw 0 0, .unroutableTimeout 0, .poolRequestTimeout 0 0, .poolResend 0 0,
     .genSettleRecheck 0 0 true, .ctxInvalidate rq 0 0, .recallRange rq 0 0, .partnerEvict rq 0, .fqOverflowClear rq 0,
     .directoryLookup rq 0, .dramCommandSlot 0 0, .dramDataReturn 0 0 [], .refreshInterval 0 0 0, .dramCommandTimeout 0 0,
     .channelRetrainDone 0 true, .panicCap 0 true, .panicResume 0 true, .driftTrack 0, .channelRetrain rq 0, .dtInfoData 0 pkt,
     .dtReadData 0 pkt, .dtCmp 0 pkt, .deepMissingUnits 0 0 0, .dirtyAgeExpiry 0 0 0, .deepWaitResume 0, .sledWaitTimeout 0,
     .deepPin rq 0 0, .deepUnpin rq 0 0, .deepPrefetch rq 0 0, .deepFlush rq 0, .deepTrim rq 0 0, .sledClaimForce rq 0, .scrubLine 0,
     .rowRepair 0 0 0 0, .bankRepairDone 0 0 0, .decoderSelftestHourly 0 true, .errorLogClear rq, .deepSetRelease rq 0 0,
     .poisonInject rq 0, .fill 0 pkt, .copy 0 pkt, .compare 0 pkt, .reduce 0 pkt] : List Instr).all (fun c => c.wf) = true := by decide +kernel

theorem wf_takes_3 : (
    [.gatherReduce 0 pkt, .scatterAdd 0 pkt, .allreduceStage 0 pkt, .optimStep 0 pkt, .kvSelect 0 pkt, .deltaPack 0 pkt, .digest 0 pkt,
     .publish 0 pkt, .kernel 0 pkt, .sugarQueueServe, .grantRenewal 0, .grantEnd .wake 0, .grantRampDone .wake 0, .ballastHoldExpiry,
     .admissionLimitTimeout 0, .tileDispatch 0, .coreSteal 0, .tileCheck 0, .tileCommit 0 true, .recipeEnd 0, .allreduceDeadline 0,
     .recipeAbort rq 0 0, .kernelTileStart 0, .poolAccessReturn 0 0 0 true, .instructionWatchdog 0 0, .coreTileTimeout 0,
     .accessTimeout 0 0 0, .nop 0 0, .texit 0 0, .trap 0 0 0, .fence 0 0, .bar 0 0, .barf 0 0, .tres 0 0 0, .time 0 0 0, .xpois 0 0 0 0,
     .vpois 0 0 0 0, .apois 0 0 0 0, .pset 0 0 0 0, .pget 0 0 0 0, .aluAdd 0 0 0 0 0, .aluSub 0 0 0 0 0, .aluMul 0 0 0 0 0,
     .aluMulh 0 0 0 0 0, .aluMulhu 0 0 0 0 0, .aluDiv 0 0 0 0 0, .aluDivu 0 0 0 0 0, .aluRem 0 0 0 0 0, .aluRemu 0 0 0 0 0,
     .aluAnd 0 0 0 0 0, .aluOr 0 0 0 0 0, .aluXor 0 0 0 0 0, .aluSll 0 0 0 0 0, .aluSrl 0 0 0 0 0, .aluSra 0 0 0 0 0, .aluSlt 0 0 0 0 0,
     .aluSltu 0 0 0 0 0, .aluMin 0 0 0 0 0, .aluMax 0 0 0 0 0, .aluMinu 0 0 0 0 0] : List Instr).all (fun c => c.wf) = true := by decide +kernel

theorem wf_takes_4 : (
    [.aluMaxu 0 0 0 0 0, .addi 0 0 0 0 0, .andi 0 0 0 0 0, .ori 0 0 0 0 0, .xori 0 0 0 0 0, .shiSll 0 0 0 0 0, .shiSrl 0 0 0 0 0,
     .shiSra 0 0 0 0 0, .slti 0 0 0 0 0, .lui 0 0 0 0, .beq 0 0 0 0 0, .bne 0 0 0 0 0, .blt 0 0 0 0 0, .bge 0 0 0 0 0, .bltu 0 0 0 0 0,
     .bgeu 0 0 0 0 0, .jal 0 0 0 0, .jalr 0 0 0 0 0, .pbr 0 0 0 0 0, .tld 0 0 0 0 0 0, .tlds 0 0 0 0 0 0, .tst 0 0 0 0 0 0,
     .vtld 0 0 0 0 0, .vtst 0 0 0 0 0 0, .tamo 0 0 0 0 0 0, .pld 0 0 0 0 0 0, .plds 0 0 0 0 0 0, .pst 0 0 0 0 0 0, .vpld 0 0 0 0 0,
     .vpst 0 0 0 0 0 0, .pamo 0 0 0 0 0 0, .lswap 0 0 0 0 0, .lcas 0 0 0 0 0 0, .vpld2 0 0 0 0 0, .vpst2 0 0 0 0 0,
     .varithAdd 0 0 0 0 0 0 0, .varithSub 0 0 0 0 0 0 0, .varithMul 0 0 0 0 0 0 0, .varithMin 0 0 0 0 0 0 0, .varithMax 0 0 0 0 0 0 0,
     .varithAbs 0 0 0 0 0 0, .varithNeg 0 0 0 0 0 0, .varithAnd 0 0 0 0 0 0 0, .varithOr 0 0 0 0 0 0 0, .varithXor 0 0 0 0 0 0 0,
     .varithShl 0 0 0 0 0 0 0, .varithShr 0 0 0 0 0 0 0, .varithSar 0 0 0 0 0 0 0, .varithDiv 0 0 0 0 0 0 0, .varithSqrt 0 0 0 0 0 0,
     .fma 0 0 0 0 0 0 0, .fms 0 0 0 0 0 0 0, .fnma 0 0 0 0 0 0 0, .vcmpEq 0 0 0 0 0 0 0, .vcmpNe 0 0 0 0 0 0 0, .vcmpLt 0 0 0 0 0 0 0,
     .vcmpLe 0 0 0 0 0 0 0, .vcmpGt 0 0 0 0 0 0 0, .vcmpGe 0 0 0 0 0 0 0, .vcmpUnord 0 0 0 0 0 0 0] : List Instr).all (fun c => c.wf) = true := by decide +kernel

theorem wf_takes_5 : (
    [.vcmpLtu 0 0 0 0 0 0 0, .vcmpGeu 0 0 0 0 0 0 0, .vcvt 0 0 0 0 0 0 0 0, .vmov 0 0 0 0 0 0, .vperm 0 0 0 0 0 0 0, .vsel 0 0 0 0 0 0 0,
     .vbcast 0 0 0 0 0 0, .vext 0 0 0 0 0 0, .vins 0 0 0 0 0 0, .vredAdd 0 0 0 0 0 0, .vredMin 0 0 0 0 0 0, .vredMax 0 0 0 0 0 0,
     .vredMinu 0 0 0 0 0 0, .vredMaxu 0 0 0 0 0 0, .vredAnd 0 0 0 0 0 0, .vredOr 0 0 0 0 0 0, .vredXor 0 0 0 0 0 0, .aadd 0 0 0 0 0 0 0,
     .adot 0 0 0 0 0 0 0 0, .aclr 0 0 0, .amov 0 0 0 0, .amerge 0 0 0 0, .aout 0 0 0 0 0 0, .asave 0 0 0 0, .aload 0 0 0 0,
     .kernelLoad rq 0 0 0, .kernelUnload rq 0, .twHello 0 pkt, .twKeepalive 0 pkt, .twRelease 0 pkt, .mrAck 0 pkt, .mrLine 0 pkt,
     .mrState 0 pkt, .rsLines 0 pkt, .rpReq 0 pkt, .rpData 0 pkt, .hbReq 0 pkt, .lampFrame 0 0, .lampFault 0, .keepaliveSend,
     .standbyKeepaliveLoss, .ownerKeepaliveLoss, .takeoverStart, .takeoverClaimDeadline, .announceTimer, .enrolRetry, .hbReqTimer,
     .quiesceBarrier, .quiesceWaitExpiry, .handbackDrainTimeout, .releaseLampEnd, .releasingTimeout, .forceArmExpiry, .resyncSend 0,
     .twinEnableWrite rq 0, .twinForce rq 0, .twinForceCancel rq, .twinHandover rq, .twinQuiesce rq, .refillTick] : List Instr).all (fun c => c.wf) = true := by decide +kernel

theorem wf_takes_6 : (
    [.holdLimitExpiry 0 0 0, .queueSample, .histogramClear rq 0, .powerSample [], .governorTick, .freqStep 0, .napAllowance,
     .idleTimerExpiry 0, .calendarWake 0, .powerEntryDone 0, .wakeRequest 0, .wakeComplete 0, .jobOpen rq 0 0, .jobClose rq 0,
     .quietHint rq 0 0 0, .jobStepTimer rq 0 0 0 0 0 0, .getVersion rq, .getCapabilities rq 0, .negotiateAlgorithms rq 0, .getDigests rq,
     .getCertificate rq 0 0 0, .challenge rq 0 0, .getMeasurements rq 0 0, .keyExchange rq 0 0, .finish rq 0 0 none, .spdmHeartbeat rq 0,
     .keyUpdate rq 0, .endSession rq 0, .spdmHeartbeatTimeout 0, .tenantCreate rq 0 0, .tenantRetire rq 0, .tenantSeal rq,
     .memKeySet rq 0 0 0, .memKeyDestroy rq 0 0, .jobKeySet rq 0 0 0 0 0, .jobBind rq 0 0 [], .jobKeyDestroy rq 0 0 0,
     .kernelSignKeySet rq 0 0 0, .jobKeySwitch 0, .jobKeyRetireOld 0, .debugChallenge rq, .debugToken rq (List.replicate 352 0),
     .debugWithdraw rq, .debugKeySet rq 0, .debugTokenExpiry, .bringupStepDone [], .bringupStepTimeout, .reheatStepDone [],
     .resetCore rq 0, .resetCluster rq 0, .resetPartition rq 0, .resetPackage rq, .partialResetDone 0 0, .coreResetEscalate 0,
     .clusterResetTimeout 0, .retireUnit rq 0 0, .spareBringinDone 0 true, .serviceModeWrite rq 0, .serviceOut rq 0 0, .serviceRecal rq 0 0] : List Instr).all (fun c => c.wf) = true := by decide +kernel

theorem wf_takes_7 : (
    [.serviceReplace rq 0 0, .serviceIn rq 0 0, .fwBegin rq (List.replicate 512 0), .fwEraseDone 0, .fwBlock rq 0 0 (List.replicate 512 0),
     .fwVerify rq, .fwVerifyDone, .fwActivate rq, .fwSelfcheckDone true, .fwPauseEnd, .fwCopyDone, .fwAbort rq, .fwRaiseSvn rq,
     .bakerWatchdog 0, .mgmtReheatDone 0, .handshakeTimeout 0 0, .die1TimeSync, .holdoverEntry, .timeRootWrite rq 0, .timeSet rq 0 0,
     .counterSnapshot rq 0, .snapshotAtT, .crumbRead rq 0 0 none, .crumbRelease rq 0 0, .crumbRingUnfreeze 0 0,
     .tensorRegister rq (List.replicate 32 0) 0 0 0 0, .dumpArm rq (List.replicate 32 0) 0 0 0 0 0, .dumpCancel rq 0, .dumpCut 0,
     .dumpStreamSend 0, .debugStop rq 0, .debugFreeze, .debugResume rq 0, .debugThaw, .kodpFragment cli [], .reassemblyTimeout cli 0,
     .objectWrite rq .nodeEid 0, .tablePut rq .eidRoutes [], .tableDelete rq .eidRoutes [], .subscribe rq [], .unsubscribe rq [], .ping rq,
     .secured cli 0 [], .kodpOperationTimeout rq, .commandDone rq .ok, .clientLeaseExpiry cli, .replyCacheExpiry rq, .mgmtFrame [],
     .poresetRelease, .malformedPacket 0 pkt, .recipeReservedCode 0 pkt, .mgmtLinkChange true, .mgmtReheatWindowExpiry,
     .ballastRampDownDone, .mrAckReportTimer, .lampInputDark 0, .releaseCodeExpiry] : List Instr).all (fun c => c.wf) = true := by decide +kernel

/-! For every check of a command, a term that fails it and nothing else, and is refused. -/

theorem wf_refuses_1 : (
    [.strapSample 256 0 0, .strapSample 0 256 0, .strapSample 0 0 256, .kslWriteFrame 128 0 [] 0, .kslWriteFrame 0 65536 [] 0,
     .kslWriteFrame 0 0 ([0]) 0, .kslWriteFrame 0 0 [] 65536, .kslReadFrame 128, .laserInputLow 10, .laserInputsDark 10,
     .laserInputRestored 10 0, .laserInputRestored 0 2, .laserLow 10 0, .laserLow 0 2, .lockstepDisagreement 2, .laneLos 40 0,
     .laneLos 0 9, .laneSignalRestored 40 0, .laneSignalRestored 0 9, .portDark 40, .detectLit 40, .lcbReceived 40 0 lane,
     .lcbReceived 0 9 lane, .lcbReceived 0 0 ({ lane with block := [] }),
     .lcbReceived 0 0 ({ lane with fec := { lane.fec with corrected := 2 ^ 32 } }), .trainComplete 40, .trainTimeout 40,
     .retrainComplete 40, .retrainTimeout 40, .downHoldExpiry 40, .flitReceived 40 flt, .flitReceived 0 ({ flt with seq := 4096 }),
     .flitSend 40, .nakTimer 40, .replayTimeout 40, .oldestFlitTimeout 40, .creditReportTimer 40, .chargedReportTimer 40, .timeSyncSend 40,
     .portEnable rqBad 0, .portEnable rq 40, .portDisable rqBad 0, .portDisable rq 40, .portRetrain rqBad 0, .portRetrain rq 40,
     .portLaneRestore rqBad 0, .portLaneRestore rq 40, .attach 40 pkt, .attach 0 pktBad, .heartbeat 40 pkt, .heartbeat 0 pktBad,
     .detach 40 pkt, .detach 0 pktBad, .detachComplete 8192, .leaseExpiry 8192, .partnerLossWalkDone 8192, .quarantineExpiry 8192,
     .e2eNak 40 pkt, .e2eNak 0 pktBad, .announce 40 pkt, .announce 0 pktBad, .rdShared 40 pkt, .rdShared 0 pktBad, .rdUnique 40 pkt,
     .rdUnique 0 pktBad, .rdOnce 40 pkt, .rdOnce 0 pktBad, .wrLine 40 pkt, .wrLine 0 pktBad, .wrPart 40 pkt, .wrPart 0 pktBad,
     .writeback 40 pkt, .writeback 0 pktBad, .evictClean 40 pkt, .evictClean 0 pktBad, .upgrade 40 pkt, .upgrade 0 pktBad, .atomic 40 pkt,
     .atomic 0 pktBad, .wrData 40 pkt, .wrData 0 pktBad, .wbData 40 pkt, .wbData 0 pktBad, .snpData 40 pkt, .snpData 0 pktBad,
     .atomicOpnd 40 pkt, .atomicOpnd 0 pktBad, .snpRsp 40 pkt, .snpRsp 0 pktBad, .crossed 40 pkt] : List Instr).all (fun c => !c.wf) = true := by decide +kernel

theorem wf_refuses_2 : (
    [.crossed 0 pktBad, .stashRsp 40 pkt, .stashRsp 0 pktBad, .rtRead 40 pkt, .rtRead 0 pktBad, .recipeCancel 40 pkt,
     .recipeCancel 0 pktBad, .requestOrdered (2 ^ 18) 0, .requestOrdered 0 4096, .recallDeadline (2 ^ 46), .parkedPresent (2 ^ 46),
     .pairingTimeout (2 ^ 18) 0, .pairingTimeout 0 4096, .requestWithdraw (2 ^ 18) 0, .requestWithdraw 0 4096, .unroutableTimeout (2 ^ 18),
     .poolRequestTimeout (2 ^ 18) 0, .poolRequestTimeout 0 4096, .poolResend (2 ^ 18) 0, .poolResend 0 4096,
     .genSettleRecheck (2 ^ 18) 0 true, .genSettleRecheck 0 4096 true, .ctxInvalidate rqBad 0 0, .ctxInvalidate rq 65536 0,
     .ctxInvalidate rq 0 (2 ^ 32), .recallRange rqBad 0 0, .recallRange rq (2 ^ 53) 0, .recallRange rq 0 (2 ^ 53), .partnerEvict rqBad 0,
     .partnerEvict rq 8192, .fqOverflowClear rqBad 0, .fqOverflowClear rq 65536, .directoryLookup rqBad 0, .directoryLookup rq (2 ^ 53),
     .dramCommandSlot 256 0, .dramCommandSlot 0 2, .dramDataReturn 256 0 [], .dramDataReturn 0 0 ([(36, 0)]),
     .dramDataReturn 0 0 ([(0, 2 ^ 32)]), .refreshInterval 256 0 0, .refreshInterval 0 2 0, .refreshInterval 0 0 64,
     .dramCommandTimeout 256 0, .channelRetrainDone 256 true, .panicCap 256 true, .panicResume 256 true, .driftTrack 256,
     .channelRetrain rqBad 0, .channelRetrain rq 256, .dtInfoData 40 pkt, .dtInfoData 0 pktBad, .dtReadData 40 pkt, .dtReadData 0 pktBad,
     .dtCmp 40 pkt, .dtCmp 0 pktBad, .deepMissingUnits 16 0 0, .deepMissingUnits 0 (2 ^ 32) 0, .deepMissingUnits 0 0 16,
     .dirtyAgeExpiry 16 0 0, .dirtyAgeExpiry 0 (2 ^ 32) 0, .dirtyAgeExpiry 0 0 16, .deepWaitResume 16, .sledWaitTimeout 256,
     .deepPin rqBad 0 0, .deepPin rq (2 ^ 53) 0, .deepPin rq 0 (2 ^ 53), .deepUnpin rqBad 0 0, .deepUnpin rq (2 ^ 53) 0,
     .deepUnpin rq 0 (2 ^ 53), .deepPrefetch rqBad 0 0, .deepPrefetch rq (2 ^ 53) 0, .deepPrefetch rq 0 (2 ^ 53), .deepFlush rqBad 0,
     .deepFlush rq 256, .deepTrim rqBad 0 0, .deepTrim rq (2 ^ 53) 0, .deepTrim rq 0 (2 ^ 53), .sledClaimForce rqBad 0,
     .sledClaimForce rq 256, .scrubLine (2 ^ 53), .rowRepair 256 0 0 0, .rowRepair 0 2 0 0, .rowRepair 0 0 64 0, .rowRepair 0 0 0 (2 ^ 20),
     .bankRepairDone 256 0 0, .bankRepairDone 0 2 0, .bankRepairDone 0 0 64, .decoderSelftestHourly 256 true, .errorLogClear rqBad,
     .deepSetRelease rqBad 0 0] : List Instr).all (fun c => !c.wf) = true := by decide +kernel

theorem wf_refuses_3 : (
    [.deepSetRelease rq 16 0, .deepSetRelease rq 0 (2 ^ 32), .poisonInject rqBad 0, .poisonInject rq (2 ^ 53), .fill 40 pkt,
     .fill 0 pktBad, .copy 40 pkt, .copy 0 pktBad, .compare 40 pkt, .compare 0 pktBad, .reduce 40 pkt, .reduce 0 pktBad,
     .gatherReduce 40 pkt, .gatherReduce 0 pktBad, .scatterAdd 40 pkt, .scatterAdd 0 pktBad, .allreduceStage 40 pkt,
     .allreduceStage 0 pktBad, .optimStep 40 pkt, .optimStep 0 pktBad, .kvSelect 40 pkt, .kvSelect 0 pktBad, .deltaPack 40 pkt,
     .deltaPack 0 pktBad, .digest 40 pkt, .digest 0 pktBad, .publish 40 pkt, .publish 0 pktBad, .kernel 40 pkt, .kernel 0 pktBad,
     .coreSteal 288, .tileCheck 288, .tileCommit 288 true, .recipeAbort rqBad 0 0, .recipeAbort rq 8192 0, .recipeAbort rq 0 4096,
     .kernelTileStart 288, .poolAccessReturn 288 0 0 true, .instructionWatchdog 288 0, .coreTileTimeout 288, .accessTimeout 288 0 0,
     .nop 288 0, .texit 288 0, .trap 288 0 0, .trap 0 0 64, .fence 288 0, .bar 288 0, .barf 288 0, .tres 288 0 0, .tres 0 0 64,
     .time 288 0 0, .time 0 0 64, .xpois 288 0 0 0, .xpois 0 0 64 0, .xpois 0 0 0 64, .vpois 288 0 0 0, .vpois 0 0 64 0, .vpois 0 0 0 64,
     .apois 288 0 0 0, .apois 0 0 64 0, .apois 0 0 0 64, .pset 288 0 0 0, .pset 0 0 64 0, .pset 0 0 0 64, .pget 288 0 0 0, .pget 0 0 64 0,
     .pget 0 0 0 64, .aluAdd 288 0 0 0 0, .aluAdd 0 0 64 0 0, .aluAdd 0 0 0 64 0, .aluAdd 0 0 0 0 64, .aluSub 288 0 0 0 0,
     .aluSub 0 0 64 0 0, .aluSub 0 0 0 64 0, .aluSub 0 0 0 0 64, .aluMul 288 0 0 0 0, .aluMul 0 0 64 0 0, .aluMul 0 0 0 64 0,
     .aluMul 0 0 0 0 64, .aluMulh 288 0 0 0 0, .aluMulh 0 0 64 0 0, .aluMulh 0 0 0 64 0, .aluMulh 0 0 0 0 64, .aluMulhu 288 0 0 0 0,
     .aluMulhu 0 0 64 0 0, .aluMulhu 0 0 0 64 0, .aluMulhu 0 0 0 0 64, .aluDiv 288 0 0 0 0, .aluDiv 0 0 64 0 0, .aluDiv 0 0 0 64 0] : List Instr).all (fun c => !c.wf) = true := by decide +kernel

theorem wf_refuses_4 : (
    [.aluDiv 0 0 0 0 64, .aluDivu 288 0 0 0 0, .aluDivu 0 0 64 0 0, .aluDivu 0 0 0 64 0, .aluDivu 0 0 0 0 64, .aluRem 288 0 0 0 0,
     .aluRem 0 0 64 0 0, .aluRem 0 0 0 64 0, .aluRem 0 0 0 0 64, .aluRemu 288 0 0 0 0, .aluRemu 0 0 64 0 0, .aluRemu 0 0 0 64 0,
     .aluRemu 0 0 0 0 64, .aluAnd 288 0 0 0 0, .aluAnd 0 0 64 0 0, .aluAnd 0 0 0 64 0, .aluAnd 0 0 0 0 64, .aluOr 288 0 0 0 0,
     .aluOr 0 0 64 0 0, .aluOr 0 0 0 64 0, .aluOr 0 0 0 0 64, .aluXor 288 0 0 0 0, .aluXor 0 0 64 0 0, .aluXor 0 0 0 64 0,
     .aluXor 0 0 0 0 64, .aluSll 288 0 0 0 0, .aluSll 0 0 64 0 0, .aluSll 0 0 0 64 0, .aluSll 0 0 0 0 64, .aluSrl 288 0 0 0 0,
     .aluSrl 0 0 64 0 0, .aluSrl 0 0 0 64 0, .aluSrl 0 0 0 0 64, .aluSra 288 0 0 0 0, .aluSra 0 0 64 0 0, .aluSra 0 0 0 64 0,
     .aluSra 0 0 0 0 64, .aluSlt 288 0 0 0 0, .aluSlt 0 0 64 0 0, .aluSlt 0 0 0 64 0, .aluSlt 0 0 0 0 64, .aluSltu 288 0 0 0 0,
     .aluSltu 0 0 64 0 0, .aluSltu 0 0 0 64 0, .aluSltu 0 0 0 0 64, .aluMin 288 0 0 0 0, .aluMin 0 0 64 0 0, .aluMin 0 0 0 64 0,
     .aluMin 0 0 0 0 64, .aluMax 288 0 0 0 0, .aluMax 0 0 64 0 0, .aluMax 0 0 0 64 0, .aluMax 0 0 0 0 64, .aluMinu 288 0 0 0 0,
     .aluMinu 0 0 64 0 0, .aluMinu 0 0 0 64 0, .aluMinu 0 0 0 0 64, .aluMaxu 288 0 0 0 0, .aluMaxu 0 0 64 0 0, .aluMaxu 0 0 0 64 0,
     .aluMaxu 0 0 0 0 64, .addi 288 0 0 0 0, .addi 0 0 64 0 0, .addi 0 0 0 64 0, .addi 0 0 0 0 8192, .andi 288 0 0 0 0, .andi 0 0 64 0 0,
     .andi 0 0 0 64 0, .andi 0 0 0 0 8192, .ori 288 0 0 0 0, .ori 0 0 64 0 0, .ori 0 0 0 64 0, .ori 0 0 0 0 8192, .xori 288 0 0 0 0,
     .xori 0 0 64 0 0, .xori 0 0 0 64 0, .xori 0 0 0 0 8192, .shiSll 288 0 0 0 0, .shiSll 0 0 64 0 0, .shiSll 0 0 0 64 0,
     .shiSll 0 0 0 0 64, .shiSrl 288 0 0 0 0, .shiSrl 0 0 64 0 0, .shiSrl 0 0 0 64 0, .shiSrl 0 0 0 0 64, .shiSra 288 0 0 0 0,
     .shiSra 0 0 64 0 0, .shiSra 0 0 0 64 0, .shiSra 0 0 0 0 64, .slti 288 0 0 0 0] : List Instr).all (fun c => !c.wf) = true := by decide +kernel

theorem wf_refuses_5 : (
    [.slti 0 0 64 0 0, .slti 0 0 0 64 0, .slti 0 0 0 0 8192, .lui 288 0 0 0, .lui 0 0 64 0, .lui 0 0 0 524288, .beq 288 0 0 0 0,
     .beq 0 0 64 0 0, .beq 0 0 0 64 0, .beq 0 0 0 0 8192, .bne 288 0 0 0 0, .bne 0 0 64 0 0, .bne 0 0 0 64 0, .bne 0 0 0 0 8192,
     .blt 288 0 0 0 0, .blt 0 0 64 0 0, .blt 0 0 0 64 0, .blt 0 0 0 0 8192, .bge 288 0 0 0 0, .bge 0 0 64 0 0, .bge 0 0 0 64 0,
     .bge 0 0 0 0 8192, .bltu 288 0 0 0 0, .bltu 0 0 64 0 0, .bltu 0 0 0 64 0, .bltu 0 0 0 0 8192, .bgeu 288 0 0 0 0, .bgeu 0 0 64 0 0,
     .bgeu 0 0 0 64 0, .bgeu 0 0 0 0 8192, .jal 288 0 0 0, .jal 0 0 64 0, .jal 0 0 0 524288, .jalr 288 0 0 0 0, .jalr 0 0 64 0 0,
     .jalr 0 0 0 64 0, .jalr 0 0 0 0 8192, .pbr 288 0 0 0 0, .pbr 0 0 8 0 0, .pbr 0 0 0 4 0, .pbr 0 0 0 0 8192, .tld 288 0 0 0 0 0,
     .tld 0 0 64 0 0 0, .tld 0 0 0 64 0 0, .tld 0 0 0 0 4 0, .tld 0 0 0 0 0 2048, .tlds 288 0 0 0 0 0, .tlds 0 0 64 0 0 0,
     .tlds 0 0 0 64 0 0, .tlds 0 0 0 0 4 0, .tlds 0 0 0 0 0 2048, .tst 288 0 0 0 0 0, .tst 0 0 64 0 0 0, .tst 0 0 0 64 0 0,
     .tst 0 0 0 0 4 0, .tst 0 0 0 0 0 2048, .vtld 288 0 0 0 0, .vtld 0 0 32 0 0, .vtld 0 0 0 64 0, .vtld 0 0 0 0 2048, .vtst 288 0 0 0 0 0,
     .vtst 0 0 32 0 0 0, .vtst 0 0 0 64 0 0, .vtst 0 0 0 0 8 0, .vtst 0 0 0 0 0 2048, .tamo 288 0 0 0 0 0, .tamo 0 0 64 0 0 0,
     .tamo 0 0 0 64 0 0, .tamo 0 0 0 0 64 0, .tamo 0 0 0 0 0 16, .pld 288 0 0 0 0 0, .pld 0 0 64 0 0 0, .pld 0 0 0 64 0 0,
     .pld 0 0 0 0 4 0, .pld 0 0 0 0 0 2048, .plds 288 0 0 0 0 0, .plds 0 0 64 0 0 0, .plds 0 0 0 64 0 0, .plds 0 0 0 0 4 0,
     .plds 0 0 0 0 0 2048, .pst 288 0 0 0 0 0, .pst 0 0 64 0 0 0, .pst 0 0 0 64 0 0, .pst 0 0 0 0 4 0, .pst 0 0 0 0 0 2048,
     .vpld 288 0 0 0 0, .vpld 0 0 32 0 0, .vpld 0 0 0 64 0, .vpld 0 0 0 0 2048, .vpst 288 0 0 0 0 0] : List Instr).all (fun c => !c.wf) = true := by decide +kernel

theorem wf_refuses_6 : (
    [.vpst 0 0 32 0 0 0, .vpst 0 0 0 64 0 0, .vpst 0 0 0 0 8 0, .vpst 0 0 0 0 0 2048, .pamo 288 0 0 0 0 0, .pamo 0 0 64 0 0 0,
     .pamo 0 0 0 64 0 0, .pamo 0 0 0 0 64 0, .pamo 0 0 0 0 0 16, .lswap 288 0 0 0 0, .lswap 0 0 32 0 0, .lswap 0 0 0 32 0,
     .lswap 0 0 0 0 64, .lcas 288 0 0 0 0 0, .lcas 0 0 32 0 0 0, .lcas 0 0 0 32 0 0, .lcas 0 0 0 0 64 0, .lcas 0 0 0 0 0 8,
     .vpld2 288 0 0 0 0, .vpld2 0 0 32 0 0, .vpld2 0 0 0 64 0, .vpld2 0 0 0 0 2048, .vpst2 288 0 0 0 0, .vpst2 0 0 32 0 0,
     .vpst2 0 0 0 64 0, .vpst2 0 0 0 0 2048, .varithAdd 288 0 0 0 0 0 0, .varithAdd 0 0 32 0 0 0 0, .varithAdd 0 0 0 32 0 0 0,
     .varithAdd 0 0 0 0 32 0 0, .varithAdd 0 0 0 0 0 8 0, .varithAdd 0 0 0 0 0 0 16, .varithSub 288 0 0 0 0 0 0, .varithSub 0 0 32 0 0 0 0,
     .varithSub 0 0 0 32 0 0 0, .varithSub 0 0 0 0 32 0 0, .varithSub 0 0 0 0 0 8 0, .varithSub 0 0 0 0 0 0 16, .varithMul 288 0 0 0 0 0 0,
     .varithMul 0 0 32 0 0 0 0, .varithMul 0 0 0 32 0 0 0, .varithMul 0 0 0 0 32 0 0, .varithMul 0 0 0 0 0 8 0, .varithMul 0 0 0 0 0 0 16,
     .varithMin 288 0 0 0 0 0 0, .varithMin 0 0 32 0 0 0 0, .varithMin 0 0 0 32 0 0 0, .varithMin 0 0 0 0 32 0 0, .varithMin 0 0 0 0 0 8 0,
     .varithMin 0 0 0 0 0 0 16, .varithMax 288 0 0 0 0 0 0, .varithMax 0 0 32 0 0 0 0, .varithMax 0 0 0 32 0 0 0,
     .varithMax 0 0 0 0 32 0 0, .varithMax 0 0 0 0 0 8 0, .varithMax 0 0 0 0 0 0 16, .varithAbs 288 0 0 0 0 0, .varithAbs 0 0 32 0 0 0,
     .varithAbs 0 0 0 32 0 0, .varithAbs 0 0 0 0 8 0, .varithAbs 0 0 0 0 0 16, .varithNeg 288 0 0 0 0 0, .varithNeg 0 0 32 0 0 0,
     .varithNeg 0 0 0 32 0 0, .varithNeg 0 0 0 0 8 0, .varithNeg 0 0 0 0 0 16, .varithAnd 288 0 0 0 0 0 0, .varithAnd 0 0 32 0 0 0 0,
     .varithAnd 0 0 0 32 0 0 0, .varithAnd 0 0 0 0 32 0 0, .varithAnd 0 0 0 0 0 8 0, .varithAnd 0 0 0 0 0 0 16, .varithOr 288 0 0 0 0 0 0,
     .varithOr 0 0 32 0 0 0 0, .varithOr 0 0 0 32 0 0 0, .varithOr 0 0 0 0 32 0 0, .varithOr 0 0 0 0 0 8 0, .varithOr 0 0 0 0 0 0 16,
     .varithXor 288 0 0 0 0 0 0, .varithXor 0 0 32 0 0 0 0, .varithXor 0 0 0 32 0 0 0, .varithXor 0 0 0 0 32 0 0, .varithXor 0 0 0 0 0 8 0,
     .varithXor 0 0 0 0 0 0 16, .varithShl 288 0 0 0 0 0 0, .varithShl 0 0 32 0 0 0 0, .varithShl 0 0 0 32 0 0 0,
     .varithShl 0 0 0 0 32 0 0, .varithShl 0 0 0 0 0 8 0, .varithShl 0 0 0 0 0 0 16] : List Instr).all (fun c => !c.wf) = true := by decide +kernel

theorem wf_refuses_7 : (
    [.varithShr 288 0 0 0 0 0 0, .varithShr 0 0 32 0 0 0 0, .varithShr 0 0 0 32 0 0 0, .varithShr 0 0 0 0 32 0 0, .varithShr 0 0 0 0 0 8 0,
     .varithShr 0 0 0 0 0 0 16, .varithSar 288 0 0 0 0 0 0, .varithSar 0 0 32 0 0 0 0, .varithSar 0 0 0 32 0 0 0,
     .varithSar 0 0 0 0 32 0 0, .varithSar 0 0 0 0 0 8 0, .varithSar 0 0 0 0 0 0 16, .varithDiv 288 0 0 0 0 0 0, .varithDiv 0 0 32 0 0 0 0,
     .varithDiv 0 0 0 32 0 0 0, .varithDiv 0 0 0 0 32 0 0, .varithDiv 0 0 0 0 0 8 0, .varithDiv 0 0 0 0 0 0 16, .varithSqrt 288 0 0 0 0 0,
     .varithSqrt 0 0 32 0 0 0, .varithSqrt 0 0 0 32 0 0, .varithSqrt 0 0 0 0 8 0, .varithSqrt 0 0 0 0 0 16, .fma 288 0 0 0 0 0 0,
     .fma 0 0 32 0 0 0 0, .fma 0 0 0 32 0 0 0, .fma 0 0 0 0 32 0 0, .fma 0 0 0 0 0 8 0, .fma 0 0 0 0 0 0 16, .fms 288 0 0 0 0 0 0,
     .fms 0 0 32 0 0 0 0, .fms 0 0 0 32 0 0 0, .fms 0 0 0 0 32 0 0, .fms 0 0 0 0 0 8 0, .fms 0 0 0 0 0 0 16, .fnma 288 0 0 0 0 0 0,
     .fnma 0 0 32 0 0 0 0, .fnma 0 0 0 32 0 0 0, .fnma 0 0 0 0 32 0 0, .fnma 0 0 0 0 0 8 0, .fnma 0 0 0 0 0 0 16, .vcmpEq 288 0 0 0 0 0 0,
     .vcmpEq 0 0 8 0 0 0 0, .vcmpEq 0 0 0 32 0 0 0, .vcmpEq 0 0 0 0 32 0 0, .vcmpEq 0 0 0 0 0 8 0, .vcmpEq 0 0 0 0 0 0 16,
     .vcmpNe 288 0 0 0 0 0 0, .vcmpNe 0 0 8 0 0 0 0, .vcmpNe 0 0 0 32 0 0 0, .vcmpNe 0 0 0 0 32 0 0, .vcmpNe 0 0 0 0 0 8 0,
     .vcmpNe 0 0 0 0 0 0 16, .vcmpLt 288 0 0 0 0 0 0, .vcmpLt 0 0 8 0 0 0 0, .vcmpLt 0 0 0 32 0 0 0, .vcmpLt 0 0 0 0 32 0 0,
     .vcmpLt 0 0 0 0 0 8 0, .vcmpLt 0 0 0 0 0 0 16, .vcmpLe 288 0 0 0 0 0 0, .vcmpLe 0 0 8 0 0 0 0, .vcmpLe 0 0 0 32 0 0 0,
     .vcmpLe 0 0 0 0 32 0 0, .vcmpLe 0 0 0 0 0 8 0, .vcmpLe 0 0 0 0 0 0 16, .vcmpGt 288 0 0 0 0 0 0, .vcmpGt 0 0 8 0 0 0 0,
     .vcmpGt 0 0 0 32 0 0 0, .vcmpGt 0 0 0 0 32 0 0, .vcmpGt 0 0 0 0 0 8 0, .vcmpGt 0 0 0 0 0 0 16, .vcmpGe 288 0 0 0 0 0 0,
     .vcmpGe 0 0 8 0 0 0 0, .vcmpGe 0 0 0 32 0 0 0, .vcmpGe 0 0 0 0 32 0 0, .vcmpGe 0 0 0 0 0 8 0, .vcmpGe 0 0 0 0 0 0 16,
     .vcmpUnord 288 0 0 0 0 0 0, .vcmpUnord 0 0 8 0 0 0 0, .vcmpUnord 0 0 0 32 0 0 0, .vcmpUnord 0 0 0 0 32 0 0, .vcmpUnord 0 0 0 0 0 8 0,
     .vcmpUnord 0 0 0 0 0 0 16, .vcmpLtu 288 0 0 0 0 0 0, .vcmpLtu 0 0 8 0 0 0 0, .vcmpLtu 0 0 0 32 0 0 0, .vcmpLtu 0 0 0 0 32 0 0,
     .vcmpLtu 0 0 0 0 0 8 0, .vcmpLtu 0 0 0 0 0 0 16, .vcmpGeu 288 0 0 0 0 0 0] : List Instr).all (fun c => !c.wf) = true := by decide +kernel

theorem wf_refuses_8 : (
    [.vcmpGeu 0 0 8 0 0 0 0, .vcmpGeu 0 0 0 32 0 0 0, .vcmpGeu 0 0 0 0 32 0 0, .vcmpGeu 0 0 0 0 0 8 0, .vcmpGeu 0 0 0 0 0 0 16,
     .vcvt 288 0 0 0 0 0 0 0, .vcvt 0 0 32 0 0 0 0 0, .vcvt 0 0 0 32 0 0 0 0, .vcvt 0 0 0 0 16 0 0 0, .vcvt 0 0 0 0 0 8 0 0,
     .vcvt 0 0 0 0 0 0 16 0, .vcvt 0 0 0 0 0 0 0 16, .vmov 288 0 0 0 0 0, .vmov 0 0 32 0 0 0, .vmov 0 0 0 32 0 0, .vmov 0 0 0 0 8 0,
     .vmov 0 0 0 0 0 16, .vperm 288 0 0 0 0 0 0, .vperm 0 0 32 0 0 0 0, .vperm 0 0 0 32 0 0 0, .vperm 0 0 0 0 32 0 0, .vperm 0 0 0 0 0 8 0,
     .vperm 0 0 0 0 0 0 16, .vsel 288 0 0 0 0 0 0, .vsel 0 0 32 0 0 0 0, .vsel 0 0 0 32 0 0 0, .vsel 0 0 0 0 32 0 0, .vsel 0 0 0 0 0 8 0,
     .vsel 0 0 0 0 0 0 16, .vbcast 288 0 0 0 0 0, .vbcast 0 0 32 0 0 0, .vbcast 0 0 0 64 0 0, .vbcast 0 0 0 0 8 0, .vbcast 0 0 0 0 0 16,
     .vext 288 0 0 0 0 0, .vext 0 0 64 0 0 0, .vext 0 0 0 32 0 0, .vext 0 0 0 0 128 0, .vext 0 0 0 0 0 16, .vins 288 0 0 0 0 0,
     .vins 0 0 32 0 0 0, .vins 0 0 0 64 0 0, .vins 0 0 0 0 128 0, .vins 0 0 0 0 0 16, .vredAdd 288 0 0 0 0 0, .vredAdd 0 0 64 0 0 0,
     .vredAdd 0 0 0 32 0 0, .vredAdd 0 0 0 0 8 0, .vredAdd 0 0 0 0 0 16, .vredMin 288 0 0 0 0 0, .vredMin 0 0 64 0 0 0,
     .vredMin 0 0 0 32 0 0, .vredMin 0 0 0 0 8 0, .vredMin 0 0 0 0 0 16, .vredMax 288 0 0 0 0 0, .vredMax 0 0 64 0 0 0,
     .vredMax 0 0 0 32 0 0, .vredMax 0 0 0 0 8 0, .vredMax 0 0 0 0 0 16, .vredMinu 288 0 0 0 0 0, .vredMinu 0 0 64 0 0 0,
     .vredMinu 0 0 0 32 0 0, .vredMinu 0 0 0 0 8 0, .vredMinu 0 0 0 0 0 16, .vredMaxu 288 0 0 0 0 0, .vredMaxu 0 0 64 0 0 0,
     .vredMaxu 0 0 0 32 0 0, .vredMaxu 0 0 0 0 8 0, .vredMaxu 0 0 0 0 0 16, .vredAnd 288 0 0 0 0 0, .vredAnd 0 0 64 0 0 0,
     .vredAnd 0 0 0 32 0 0, .vredAnd 0 0 0 0 8 0, .vredAnd 0 0 0 0 0 16, .vredOr 288 0 0 0 0 0, .vredOr 0 0 64 0 0 0, .vredOr 0 0 0 32 0 0,
     .vredOr 0 0 0 0 8 0, .vredOr 0 0 0 0 0 16, .vredXor 288 0 0 0 0 0, .vredXor 0 0 64 0 0 0, .vredXor 0 0 0 32 0 0, .vredXor 0 0 0 0 8 0,
     .vredXor 0 0 0 0 0 16, .aadd 288 0 0 0 0 0 0, .aadd 0 0 8 0 0 0 0, .aadd 0 0 0 32 0 0 0, .aadd 0 0 0 0 64 0 0, .aadd 0 0 0 0 0 8 0,
     .aadd 0 0 0 0 0 0 16] : List Instr).all (fun c => !c.wf) = true := by decide +kernel

theorem wf_refuses_9 : (
    [.adot 288 0 0 0 0 0 0 0, .adot 0 0 8 0 0 0 0 0, .adot 0 0 0 32 0 0 0 0, .adot 0 0 0 0 32 0 0 0, .adot 0 0 0 0 0 64 0 0,
     .adot 0 0 0 0 0 0 8 0, .adot 0 0 0 0 0 0 0 16, .aclr 288 0 0, .aclr 0 0 8, .amov 288 0 0 0, .amov 0 0 8 0, .amov 0 0 0 8,
     .amerge 288 0 0 0, .amerge 0 0 8 0, .amerge 0 0 0 8, .aout 288 0 0 0 0 0, .aout 0 0 8 0 0 0, .aout 0 0 0 32 0 0, .aout 0 0 0 0 128 0,
     .aout 0 0 0 0 0 16, .asave 288 0 0 0, .asave 0 0 8 0, .asave 0 0 0 64, .aload 288 0 0 0, .aload 0 0 8 0, .aload 0 0 0 64,
     .kernelLoad rqBad 0 0 0, .kernelLoad rq 65536 0 0, .kernelLoad rq 0 (2 ^ 64) 0, .kernelLoad rq 0 0 (2 ^ 32), .kernelUnload rqBad 0,
     .kernelUnload rq 65536, .twHello 40 pkt, .twHello 0 pktBad, .twKeepalive 40 pkt, .twKeepalive 0 pktBad, .twRelease 40 pkt,
     .twRelease 0 pktBad, .mrAck 40 pkt, .mrAck 0 pktBad, .mrLine 40 pkt, .mrLine 0 pktBad, .mrState 40 pkt, .mrState 0 pktBad,
     .rsLines 40 pkt, .rsLines 0 pktBad, .rpReq 40 pkt, .rpReq 0 pktBad, .rpData 40 pkt, .rpData 0 pktBad, .hbReq 40 pkt, .hbReq 0 pktBad,
     .lampFrame 2 0, .lampFrame 0 (2 ^ 64), .lampFault 2, .resyncSend 2, .twinEnableWrite rqBad 0, .twinEnableWrite rq (2 ^ 128),
     .twinForce rqBad 0, .twinForce rq (2 ^ 32), .twinForceCancel rqBad, .twinHandover rqBad, .twinQuiesce rqBad,
     .holdLimitExpiry 8193 0 0, .holdLimitExpiry 0 40 0, .holdLimitExpiry 0 0 8, .histogramClear rqBad 0, .histogramClear rq 8192,
     .freqStep 16, .idleTimerExpiry (2 ^ 64), .calendarWake (2 ^ 64), .powerEntryDone (2 ^ 64), .wakeRequest (2 ^ 64),
     .wakeComplete (2 ^ 64), .jobOpen rqBad 0 0, .jobOpen rq (2 ^ 32) 0, .jobOpen rq 0 65536, .jobClose rqBad 0, .jobClose rq (2 ^ 32),
     .quietHint rqBad 0 0 0, .quietHint rq 65536 0 0, .quietHint rq 0 256 0, .quietHint rq 0 0 (2 ^ 64), .jobStepTimer rqBad 0 0 0 0 0 0,
     .jobStepTimer rq (2 ^ 32) 0 0 0 0 0, .jobStepTimer rq 0 (2 ^ 64) 0 0 0 0, .jobStepTimer rq 0 0 (2 ^ 32) 0 0 0,
     .jobStepTimer rq 0 0 0 (2 ^ 32) 0 0, .jobStepTimer rq 0 0 0 0 65536 0, .jobStepTimer rq 0 0 0 0 0 256] : List Instr).all (fun c => !c.wf) = true := by decide +kernel

theorem wf_refuses_10 : (
    [.getVersion rqBad, .getCapabilities rqBad 0, .getCapabilities rq (2 ^ 32), .negotiateAlgorithms rqBad 0, .negotiateAlgorithms rq 2,
     .getDigests rqBad, .getCertificate rqBad 0 0 0, .getCertificate rq 16 0 0, .getCertificate rq 0 65536 0, .getCertificate rq 0 0 65536,
     .challenge rqBad 0 0, .challenge rq 16 0, .challenge rq 0 (2 ^ 256), .getMeasurements rqBad 0 0, .getMeasurements rq 256 0,
     .getMeasurements rq 0 (2 ^ 256), .keyExchange rqBad 0 0, .keyExchange rq (2 ^ 768) 0, .keyExchange rq 0 (2 ^ 256),
     .finish rqBad 0 0 none, .finish rq (2 ^ 32) 0 none, .finish rq 0 (2 ^ 768) none, .finish rq 0 0 (some (2 ^ 768)),
     .spdmHeartbeat rqBad 0, .spdmHeartbeat rq (2 ^ 32), .keyUpdate rqBad 0, .keyUpdate rq (2 ^ 32), .endSession rqBad 0,
     .endSession rq (2 ^ 32), .spdmHeartbeatTimeout (2 ^ 32), .tenantCreate rqBad 0 0, .tenantCreate rq 65536 0,
     .tenantCreate rq 0 (2 ^ 768), .tenantRetire rqBad 0, .tenantRetire rq 65536, .tenantSeal rqBad, .memKeySet rqBad 0 0 0,
     .memKeySet rq 65536 0 0, .memKeySet rq 0 256 0, .memKeySet rq 0 0 (2 ^ 512), .memKeyDestroy rqBad 0 0, .memKeyDestroy rq 65536 0,
     .memKeyDestroy rq 0 256, .jobKeySet rqBad 0 0 0 0 0, .jobKeySet rq 65536 0 0 0 0, .jobKeySet rq 0 (2 ^ 32) 0 0 0,
     .jobKeySet rq 0 0 (2 ^ 32) 0 0, .jobKeySet rq 0 0 0 (2 ^ 256) 0, .jobKeySet rq 0 0 0 0 (2 ^ 64), .jobBind rqBad 0 0 [],
     .jobBind rq 65536 0 [], .jobBind rq 0 (2 ^ 32) [], .jobBind rq 0 0 ([2 ^ 32]), .jobKeyDestroy rqBad 0 0 0,
     .jobKeyDestroy rq 65536 0 0, .jobKeyDestroy rq 0 (2 ^ 32) 0, .jobKeyDestroy rq 0 0 (2 ^ 32), .kernelSignKeySet rqBad 0 0 0,
     .kernelSignKeySet rq 65536 0 0, .kernelSignKeySet rq 0 256 0, .kernelSignKeySet rq 0 0 (2 ^ 768), .jobKeySwitch (2 ^ 32),
     .jobKeyRetireOld (2 ^ 32), .debugChallenge rqBad, .debugToken rqBad (List.replicate 352 0), .debugToken rq [], .debugWithdraw rqBad,
     .debugKeySet rqBad 0, .debugKeySet rq (2 ^ 768), .reheatStepDone ([288]), .resetCore rqBad 0, .resetCore rq 288,
     .resetCluster rqBad 0, .resetCluster rq 16, .resetPartition rqBad 0, .resetPartition rq 256, .resetPackage rqBad,
     .partialResetDone 256 0, .partialResetDone 0 (2 ^ 64), .coreResetEscalate 288, .clusterResetTimeout 16, .retireUnit rqBad 0 0,
     .retireUnit rq 256 0, .retireUnit rq 0 (2 ^ 64), .spareBringinDone 288 true, .serviceModeWrite rqBad 0,
     .serviceModeWrite rq (2 ^ 128), .serviceOut rqBad 0 0, .serviceOut rq 256 0, .serviceOut rq 0 (2 ^ 64)] : List Instr).all (fun c => !c.wf) = true := by decide +kernel

theorem wf_refuses_11 : (
    [.serviceRecal rqBad 0 0, .serviceRecal rq 256 0, .serviceRecal rq 0 (2 ^ 64), .serviceReplace rqBad 0 0, .serviceReplace rq 256 0,
     .serviceReplace rq 0 (2 ^ 64), .serviceIn rqBad 0 0, .serviceIn rq 256 0, .serviceIn rq 0 (2 ^ 64),
     .fwBegin rqBad (List.replicate 512 0), .fwBegin rq [], .fwBlock rqBad 0 0 (List.replicate 512 0),
     .fwBlock rq (2 ^ 32) 0 (List.replicate 512 0), .fwBlock rq 0 (2 ^ 32) (List.replicate 512 0), .fwBlock rq 0 0 [], .fwVerify rqBad,
     .fwActivate rqBad, .fwAbort rqBad, .fwRaiseSvn rqBad, .bakerWatchdog 2, .mgmtReheatDone 2, .handshakeTimeout 256 0,
     .handshakeTimeout 0 (2 ^ 64), .timeRootWrite rqBad 0, .timeRootWrite rq (2 ^ 128), .timeSet rqBad 0 0, .timeSet rq (2 ^ 64) 0,
     .timeSet rq 0 256, .counterSnapshot rqBad 0, .counterSnapshot rq (2 ^ 64), .crumbRead rqBad 0 0 none, .crumbRead rq 256 0 none,
     .crumbRead rq 0 (2 ^ 64) none, .crumbRead rq 0 0 (some (2 ^ 32)), .crumbRelease rqBad 0 0, .crumbRelease rq 256 0,
     .crumbRelease rq 0 (2 ^ 64), .crumbRingUnfreeze 256 0, .crumbRingUnfreeze 0 (2 ^ 64),
     .tensorRegister rqBad (List.replicate 32 0) 0 0 0 0, .tensorRegister rq [] 0 0 0 0,
     .tensorRegister rq (List.replicate 32 0) 65536 0 0 0, .tensorRegister rq (List.replicate 32 0) 0 (2 ^ 64) 0 0,
     .tensorRegister rq (List.replicate 32 0) 0 0 (2 ^ 64) 0, .tensorRegister rq (List.replicate 32 0) 0 0 0 256,
     .dumpArm rqBad (List.replicate 32 0) 0 0 0 0 0, .dumpArm rq [] 0 0 0 0 0, .dumpArm rq (List.replicate 32 0) (2 ^ 32) 0 0 0 0,
     .dumpArm rq (List.replicate 32 0) 0 (2 ^ 64) 0 0 0, .dumpArm rq (List.replicate 32 0) 0 0 (2 ^ 64) 0 0,
     .dumpArm rq (List.replicate 32 0) 0 0 0 (2 ^ 64) 0, .dumpArm rq (List.replicate 32 0) 0 0 0 0 (2 ^ 64), .dumpCancel rqBad 0,
     .dumpCancel rq 65536, .dumpCut 65536, .dumpStreamSend 65536, .debugStop rqBad 0, .debugStop rq (2 ^ 64), .debugResume rqBad 0,
     .debugResume rq (2 ^ 64), .kodpFragment cliBad [], .reassemblyTimeout cliBad 0, .reassemblyTimeout cli 65536,
     .objectWrite rqBad .nodeEid 0, .objectWrite rq .nodeEid (2 ^ 128), .tablePut rqBad .eidRoutes [],
     .tablePut rq .eidRoutes ([{ fields := [] }]), .tableDelete rqBad .eidRoutes [], .tableDelete rq .eidRoutes ([[]]),
     .subscribe rqBad [], .subscribe rq ([65536]), .unsubscribe rqBad [], .unsubscribe rq ([65536]), .ping rqBad, .secured cliBad 0 [],
     .secured cli (2 ^ 32) [], .kodpOperationTimeout rqBad, .commandDone rqBad .ok, .clientLeaseExpiry cliBad, .replyCacheExpiry rqBad,
     .mgmtFrame (List.replicate 1515 0), .malformedPacket 40 pkt, .malformedPacket 0 pktBad, .recipeReservedCode 40 pkt,
     .recipeReservedCode 0 pktBad, .lampInputDark 2] : List Instr).all (fun c => !c.wf) = true := by decide +kernel

end Sys2Proof.Tests.Smoke

namespace Sys2Proof.Tests.Examples
set_option Elab.async false

/-! The spec's own worked examples; every expected value is the spec's. -/

/-- The ASCII digits 1 to 9. -/
def digits : List Byte := [0x31, 0x32, 0x33, 0x34, 0x35, 0x36, 0x37, 0x38, 0x39]

/-- The CRC checks of engine test 5 (08_integrity.md, R343). -/
theorem example_crcs : crc64 digits = 0x62EC59E3F1A4F00A ∧ crc32c digits = 0xE3069283 ∧ crc16 digits = 0x29B1 := by decide +kernel

/-- "Finding a line's home" (01_architecture.md) and the channel, bank and row of the same line (07_dram_and_deep_tier.md, R270): channel 29
of stack 4 is number 4 × 32 + 29. -/
theorem example_home : homeCluster 0x3A5C4E80 = 9 ∧ homeDie 0x3A5C4E80 = 1 ∧ localAddr 0x3A5C4E80 = 0x03A54E80 ∧ dieOfPort 5 = 0
    ∧ placeOf 0x3A5C4E80 = { channel := 157, pseudo := 1, bank := 11, row := 0x74, column := 5 } := by decide +kernel

/-- "A lost credit update" (03_skeleth_link.md): what is available before and after the record is lost. -/
theorem example_credit : ({ Port.reset with limit := [(4, 0xFF40)], charged := [(4, 0xFE60)] } : Port).credit 4 = 224
    ∧ ({ Port.reset with limit := [(4, 0x0070)], charged := [(4, 0xFF38)] } : Port).credit 4 = 312 := by decide +kernel

/-- "A checked accumulation" (08_integrity.md): the residues of the accumulator before, after, and after with bit 4 flipped. -/
theorem example_residues : groupSum 192 1000 = 6 ∧ groupSum 192 5576 = 4 ∧ groupSum 192 5592 = 6 ∧ 11 * 13 * 2 ^ 5 + 1000 = 5576 := by decide +kernel

/-- A page-table entry (R213). -/
def pte (leaf write : Bool) (run pa : Nat) : List Byte :=
  leBytes 8 (1 + (if leaf then 2 else 0) + (if write then 4 else 0) + run * 16 + pa / 256 * 4096)
/-- The tables of "A mixed-page context" (05_partners_contexts_translation.md), its nodes at 0x10000 to 0x13000. -/
def tables : State :=
  putBytes 0x10000 (pte false false 0 0x11000) (putBytes 0x11008 (pte true true 0 0xC0000000) (putBytes 0x11010 (pte false false 0 0x12000)
    (putBytes 0x12000 (pte true true 1 0x123400000) (putBytes 0x12008 (pte true true 1 0x123600000) (putBytes 0x12010 (pte false false 0 0x13000)
      (putBytes 0x13000 (pte true true 0 0x0A210000) up))))))

/-- "A mixed-page context": the huge leaf, the run of two medium pages found from its second page, the small page, and the entry that is not
valid. -/
theorem example_walks : (tables.walkFrom 0x52345680 4 0x10000 0).1 = .leaf 0x40000000 0x40000000 0xC0000000 true false
    ∧ (tables.walkFrom 0x80210000 4 0x10000 0).1 = .leaf 0x80000000 0x400000 0x123400000 true true
    ∧ (tables.walkFrom 0x80408000 4 0x10000 0).1 = .leaf 0x80400000 0x10000 0x0A210000 true false
    ∧ (tables.walkFrom 0x80410000 4 0x10000 0).1 = .stop 1 3 ∧ homeCluster 0xD2345680 = 7 ∧ homeCluster 0x123610000 = 7 := by decide +kernel

/-- The stochastic rounding of R424: 1.00390625 stored as bfloat16 under the two draws. -/
theorem example_stochastic : (writeStochastic .bfloat16 false (decode .binary32 0x3F808000) 0x3A1C55D0).1.bits = 0x3F81
    ∧ (writeStochastic .bfloat16 false (decode .binary32 0x3F808000) 0xC0F31E02).1.bits = 0x3F80 := by decide +kernel

/-- Add bfloat16 addends to an empty accumulator, and write what it reads out as. -/
def sumOf (l : List Nat) : Nat := (writeVal .bfloat16 false (l.foldl (fun a x => (a.add (decode .bfloat16 x)).1) Acc.empty).value).bits

/-- "Three contributors" (10_numerics.md): both elements, in rank order and in the order 2, 0, 1. -/
theorem example_contributors : sumOf [0x3F80, 0x3B80, 0x3B80] = 0x3F81 ∧ sumOf [0x7180, 0x3F80, 0xF180] = 0x3F80 ∧ sumOf [0x3B80, 0x3F80, 0x3B80] = 0x3F81
    ∧ sumOf [0xF180, 0x7180, 0x3F80] = 0x3F80 := by decide +kernel

/-- "Scaling a region" (11_kernel_isa.md): the four words are legal. -/
theorem example_kernel_words : [0x1890C007, 0x84448000, 0x90420852, 0x3892FFFB].all legalWord = true := by decide +kernel

/-- "A long command over KSL" (19_object_dictionary.md): the message of the frame, and the reply that says TIMEOUT. -/
theorem example_ksl : kmsgBytes (mkMsg 3 0x1234 0x1630 4 .ok [0xFF])
      = [0x01, 0x03, 0x34, 0x12, 0x30, 0x16, 0x04, 0x00, 0x01, 0x00, 0x00, 0x00, 0x00, 0x00, 0x00, 0x00, 0xFF]
    ∧ kmsgBytes (mkMsg 0x83 0x1234 0x1630 4 .timeout []) = [0x01, 0x83, 0x34, 0x12, 0x30, 0x16, 0x04, 0x07, 0, 0, 0, 0, 0, 0, 0, 0] := by decide +kernel

/-! Single steps. -/

/-- The state a step answers. -/
def after (c : Instr) (s : State) : State := match step { s with pending := [c] } with | .next t => t | _ => s

/-- Reset memory is canonical (R64). -/
theorem test_reset_memory : State.reset.MemWf := by unfold State.MemWf; decide

/-- A store of the value that memory reads as leaves no entry, and the bytes read back (log 1). -/
theorem test_memory : (putBytes 5 [0, 7, 0] State.reset).mem.cells = [(6, 7)] ∧ (putBytes 6 [0] (putBytes 5 [0, 7, 0] State.reset)).mem.cells = []
    ∧ (putBytes 5 [9, 7] State.reset).readBytes 4 4 = [0, 9, 7, 0] := by decide +kernel

/-- The command at the front runs, and is taken from the queue. -/
theorem test_step_takes_front : (after (.aluAdd 3 0 9 1 2) (kern [(0, thr)])).pending = []
    ∧ ((after (.aluAdd 3 0 9 1 2) (kern [(0, thr)])).threadOf 3 0).map (fun x => (x.pc, x.xr 9)) = some (4, (3, false)) := by decide +kernel

/-- ALU ADD into x0 writes nothing (R429). -/
theorem test_x0 : ((after (.aluAdd 3 0 0 1 2) (kern [(0, thr)])).threadOf 3 0).map (fun x => x.xr 0) = some (0, false) := by decide +kernel

/-- A brown-out of VDD_CORE stops the package (R57, R63). -/
theorem test_brown_out : (after (.brownOut .vddCore) up).pkg.stopped.isSome = true := by decide +kernel

/-- A write of 1 to TIME_ROOT puts Die 0's time island into Root and leaves its counter (R621). -/
theorem test_time_root : (after (.timeRootWrite rO 1) up).obs.time0.st = .root ∧ (after (.timeRootWrite rO 1) up).obs.time0.counter = up.obs.time0.counter := by
  decide +kernel

end Sys2Proof.Tests.Examples
end

section
/-!
PROOF. The home of a pool physical address (R38): the model's `homeCluster`, `homeDie`, `localAddr` and its inverse `paOfLocal`.
-/
namespace Sys2Proof.Machine

theorem homeCluster_eq_xor (pa : Nat) : homeCluster pa = (pa / 2 ^ 16 % 16) ^^^ (pa / 2 ^ 20 % 16) := rfl

theorem homeCluster_lt (pa : Nat) : homeCluster pa < 16 :=
  Nat.xor_lt_two_pow (n := 4) (Nat.mod_lt _ (by decide)) (Nat.mod_lt _ (by decide))

/-- The die is one bit: a cluster index has four. -/
theorem homeDie_eq_bit (pa : Nat) : homeDie pa = homeCluster pa / 8 % 2 := by
  have hlt : homeCluster pa < 16 := homeCluster_lt pa
  unfold homeDie
  omega

/-- The two fields of a cluster-local address do not overlap, so R38's OR is the model's sum. -/
theorem localAddr_eq_or (pa : Nat) : localAddr pa = (pa / 2 ^ 20 * 2 ^ 16) ||| (pa % 2 ^ 16) := by
  have hlow : pa % 2 ^ 16 < 2 ^ 16 := Nat.mod_lt _ (by decide)
  have hor := Nat.two_pow_add_eq_or_of_lt hlow (pa / 2 ^ 20)
  rwa [Nat.mul_comm] at hor

theorem localAddr_div (pa : Nat) : localAddr pa / 2 ^ 16 = pa / 2 ^ 20 := by
  unfold localAddr
  omega

theorem localAddr_mod (pa : Nat) : localAddr pa % 2 ^ 16 = pa % 2 ^ 16 := by
  unfold localAddr
  omega

/-- Cluster and cluster-local address give the address back: bits 23:20 stand in the cluster-local address, and a second XOR with them
takes them out of the cluster index. -/
@[simp] theorem paOfLocal_homeCluster_localAddr (pa : Nat) : paOfLocal (homeCluster pa) (localAddr pa) = pa := by
  have hgranule : Nat.xor (homeCluster pa) (pa / 2 ^ 20 % 16) = pa / 2 ^ 16 % 16 := Nat.xor_xor_cancel_right _ _
  simp only [paOfLocal, localAddr_div, localAddr_mod, hgranule]
  omega

/-- The 64 KiB granule `k` of the aligned MiB `m` lies whole in one cluster. -/
theorem homeCluster_granule (m : Nat) {k x : Nat} (hk : k < 16) (hx : x < 2 ^ 16) :
    homeCluster (m * 2 ^ 20 + k * 2 ^ 16 + x) = k ^^^ (m % 16) := by
  have hgranule : (m * 2 ^ 20 + k * 2 ^ 16 + x) / 2 ^ 16 % 16 = k := by omega
  have hmib : (m * 2 ^ 20 + k * 2 ^ 16 + x) / 2 ^ 20 = m := by omega
  rw [homeCluster_eq_xor, hgranule, hmib]

/-- Settles O59: `paOfLocal` is the inverse of R38's map, and of the MiB `m` the cluster `h` holds granule `h ^^^ m % 16`. -/
theorem homeClusters : Obligations.HomeClusters := by
  unfold Obligations.HomeClusters
  refine ⟨fun pa _ => ⟨homeCluster_eq_xor pa, homeCluster_lt pa, homeDie_eq_bit pa, localAddr_eq_or pa⟩, ?_, ?_⟩
  · intro a b hcluster hlocal
    rw [← paOfLocal_homeCluster_localAddr a, hcluster, hlocal, paOfLocal_homeCluster_localAddr]
  · intro m h hh
    have hg : h ^^^ (m % 16) < 16 := Nat.xor_lt_two_pow (n := 4) hh (Nat.mod_lt _ (by decide))
    refine ⟨h ^^^ (m % 16), hg, fun x hx => ?_, fun k x hk hx hhome => ?_⟩
    · rw [homeCluster_granule m hg hx, Nat.xor_xor_cancel_right]
    · rw [← hhome, homeCluster_granule m hk hx, Nat.xor_xor_cancel_right]

end Sys2Proof.Machine
end

section
/-!
PROOF. The exact accumulator's arithmetic (R405, R407 to R409): what an add and a merge do to the value V of R407, and why the state they
leave depends on the addends alone. The state is pinned down by the invariant `Acc.Holds`: A in its range, the exact sum, and each flag an OR
over the addends; bounded addends keep CARRY in its 32 bits, so that no overflow marks the accumulator NAN.
-/
namespace Sys2Proof.Machine

/-! ### The value of an accumulator -/

/-- A + C × 2⁵⁷⁶, the finite value V of R407 in units of 2⁻²⁸⁸. -/
def Acc.total (x : Acc) : Int := x.a + x.carry * 2 ^ 576

/-- The range of A (R407). -/
def Acc.InRange (x : Acc) : Prop := -(2 ^ 575) ≤ x.a ∧ x.a < 2 ^ 575

/-- What a sum `s` brought into the range of A adds to CARRY (R408). -/
def carryOut (s : Int) : Int := if s ≥ 2 ^ 575 then 1 else if s < -(2 ^ 575) then -1 else 0

theorem two_pow_576 : (2 : Int) ^ 576 = 2 * 2 ^ 575 := pow_succ' 2 575

theorem two_pow_575 : (2 : Int) ^ 575 = 2 ^ 7 * 2 ^ 568 := pow_add 2 7 568

theorem settle_a (x : Acc) (s : Int) : (x.settle s).1.a = s - carryOut s * 2 ^ 576 := by
  unfold Acc.settle carryOut
  split_ifs <;> simp only [one_mul, neg_mul, zero_mul, sub_neg_eq_add, sub_zero]

theorem settle_carry (x : Acc) (s : Int) : (x.settle s).1.carry = x.carry + carryOut s := by
  unfold Acc.settle carryOut
  split_ifs <;> simp only [sub_eq_add_neg, add_zero]

theorem settle_nan_of_carry {x : Acc} {s : Int} (hlo : -(2 ^ 31) ≤ (x.settle s).1.carry) (hhi : (x.settle s).1.carry < 2 ^ 31) :
    (x.settle s).1.nan = x.nan := by
  have hdef : (x.settle s).1.nan = (x.nan || (decide ((x.settle s).1.carry < -(2 ^ 31)) || decide ((x.settle s).1.carry > 2 ^ 31 - 1))) := rfl
  rw [hdef, decide_eq_false (by omega), decide_eq_false (by omega), Bool.or_false, Bool.or_false]

/-- What is carried out of A stands in CARRY: settling a sum keeps the value. -/
theorem settle_total (x : Acc) (s : Int) : (x.settle s).1.total = s + x.carry * 2 ^ 576 := by
  rw [Acc.total, settle_a, settle_carry, add_mul, sub_add_add_cancel]

/-- One carry brings the sum of two numbers in range back into range. -/
theorem settle_inRange (x : Acc) {s : Int} (hlo : -(2 * 2 ^ 575) ≤ s) (hhi : s < 2 * 2 ^ 575) : (x.settle s).1.InRange := by
  have hpos : (0 : Int) < 2 ^ 575 := Int.pow_pos (by decide)
  rw [Acc.InRange, settle_a, two_pow_576]
  unfold carryOut
  generalize (2 : Int) ^ 575 = h at *
  split_ifs <;> omega

/-- The pair (A, CARRY) with A in range is the only representation of its value (R409). -/
theorem a_carry_eq_of_total_eq {x y : Acc} (hx : x.InRange) (hy : y.InRange) (h : x.total = y.total) : x.a = y.a ∧ x.carry = y.carry := by
  obtain ⟨hxlo, hxhi⟩ := hx
  obtain ⟨hylo, hyhi⟩ := hy
  have hpos : (0 : Int) < 2 ^ 576 := Int.pow_pos (by decide)
  unfold Acc.total at h
  have hdiff : x.a - y.a = (y.carry - x.carry) * 2 ^ 576 := by
    rw [sub_mul]
    omega
  have ha : x.a = y.a := by
    refine sub_eq_zero.mp (Int.eq_zero_of_abs_lt_dvd (Dvd.intro_left _ hdiff.symm) (abs_lt.mpr ?_))
    rw [two_pow_576]
    omega
  rw [ha] at h
  exact ⟨ha, Int.eq_of_mul_eq_mul_right hpos.ne' (add_left_cancel h)⟩

/-- The sum of 2³³ addends, the largest 49 × 2⁵⁶⁸, leaves CARRY in its 32 bits (R409): a CARRY of 2³¹ stands for 2⁶⁰⁷ = 2³³ × 64 × 2⁵⁶⁸. -/
theorem carry_bounds {x : Acc} (hx : x.InRange) (h : |x.total| ≤ 2 ^ 33 * (49 * 2 ^ 568)) : -(2 ^ 31) ≤ x.carry ∧ x.carry < 2 ^ 31 := by
  obtain ⟨hlo, hhi⟩ := hx
  obtain ⟨htlo, hthi⟩ := abs_le.mp h
  have hpos : (0 : Int) < 2 ^ 568 := Int.pow_pos (by decide)
  unfold Acc.total at htlo hthi
  rw [two_pow_576] at htlo hthi
  rw [two_pow_575] at hlo hhi htlo hthi
  generalize (2 : Int) ^ 568 = u at *
  constructor <;> by_contra! hc <;> nlinarith

/-! ### Addends -/

/-- Whether an addend, `none` a poisoned one, is one that R405 forms: an integer multiple of 2⁻²⁸⁸, at most 3.0625 × 2²⁸⁴ in magnitude. -/
def ExactAddend (v : Option Val) : Prop := ∀ neg m e, v = some (.fin neg m e) → -288 ≤ e ∧ m * 2 ^ (e + 288).toNat ≤ 49 * 2 ^ 568

/-- What an addend adds to the value of an accumulator, in units of 2⁻²⁸⁸. -/
def addendValue : Option Val → Int
  | some (.fin neg m e) => (addendInt neg m e).1
  | _ => 0

/-- Whether an addend sets NOTNEG0 (R407). -/
def addendNotNeg0 : Option Val → Bool
  | some (.fin neg m e) => !(neg && (addendInt neg m e).1 == 0)
  | some _ => true
  | none => false

/-- Add an addend, poisoned or not (R408). -/
def Acc.put (x : Acc) : Option Val → Acc
  | some v => (x.add v).1
  | none => x.addPoison

/-- The exact sum of some addends, in units of 2⁻²⁸⁸. -/
def addendSum (l : List (Option Val)) : Int := (l.map addendValue).sum

/-- At most 2³³ addends of R405, the premise of R409. -/
structure Addends (l : List (Option Val)) : Prop where
  exact : ∀ v ∈ l, ExactAddend v
  count : l.length ≤ 2 ^ 33

theorem Addends.subperm {l k : List (Option Val)} (h : Addends k) (hsub : l.Subperm k) : Addends l :=
  ⟨fun v hv => h.exact v (hsub.subset hv), hsub.length_le.trans h.count⟩

@[simp] theorem addendSum_append (l k : List (Option Val)) : addendSum (l ++ k) = addendSum l + addendSum k := by
  simp [addendSum]

@[simp] theorem addendSum_singleton (v : Option Val) : addendSum [v] = addendValue v := by
  simp [addendSum]

/-- A multiple of 2⁻²⁸⁸ is added without rounding. -/
theorem addendInt_exact (neg : Bool) (m : Nat) {e : Int} (he : -288 ≤ e) :
    (addendInt neg m e).1 = if neg = true then -((m * 2 ^ (e + 288).toNat : Nat) : Int) else ((m * 2 ^ (e + 288).toNat : Nat) : Int) := by
  have hround : roundEven m e (-288) = m * 2 ^ (e + 288).toNat := by simp [roundEven, he]
  simp only [addendInt, hround]

theorem addendValue_of_not_fin {v : Option Val} (hv : ∀ neg m e, v ≠ some (.fin neg m e)) : addendValue v = 0 := by
  match v with
  | none | some .nan | some (.inf _) => rfl
  | some (.fin neg m e) => exact absurd rfl (hv neg m e)

theorem abs_addendValue_le {v : Option Val} (h : ExactAddend v) : |addendValue v| ≤ 49 * 2 ^ 568 := by
  obtain ⟨neg, m, e, rfl⟩ | hv := em (∃ neg m e, v = some (.fin neg m e))
  · obtain ⟨he, hm⟩ := h neg m e rfl
    have habs : |addendValue (some (.fin neg m e))| = ((m * 2 ^ (e + 288).toNat : Nat) : Int) := by
      rw [addendValue, addendInt_exact neg m he]
      split_ifs <;> simp
    have hcast : ((49 * 2 ^ 568 : Nat) : Int) = 49 * 2 ^ 568 := by simp only [Nat.cast_mul, Nat.cast_pow, Nat.cast_ofNat]
    rw [habs, ← hcast]
    exact Nat.cast_le.mpr hm
  · push Not at hv
    rw [addendValue_of_not_fin hv, abs_zero]
    positivity

/-- An addend of R405 is below the range of A. -/
theorem abs_addendValue_lt {v : Option Val} (h : ExactAddend v) : |addendValue v| < 2 ^ 575 := by
  have hpos : (0 : Int) < 2 ^ 568 := Int.pow_pos (by decide)
  have hle := abs_addendValue_le h
  rw [two_pow_575]
  omega

theorem abs_addendSum_le {l : List (Option Val)} (h : Addends l) : |addendSum l| ≤ 2 ^ 33 * (49 * 2 ^ 568) := by
  have heach : ∀ t ∈ l.map addendValue, |t| ≤ 49 * 2 ^ 568 := by
    simpa only [List.forall_mem_map] using fun v hv => abs_addendValue_le (h.exact v hv)
  have hcount : (l.length : Int) * (49 * 2 ^ 568) ≤ 2 ^ 33 * (49 * 2 ^ 568) :=
    Int.mul_le_mul_of_nonneg_right (by exact_mod_cast h.count) (by positivity)
  have hhi := List.sum_le_card_nsmul _ _ fun t ht => (abs_le.mp (heach t ht)).2
  have hlo := List.card_nsmul_le_sum _ _ fun t ht => (abs_le.mp (heach t ht)).1
  rw [List.length_map, nsmul_eq_mul] at hhi hlo
  rw [mul_neg] at hlo
  exact abs_le.mpr ⟨(neg_le_neg hcount).trans hlo, hhi.trans hcount⟩

/-! ### The flags: ORs over the addends -/

/-- The flags of an accumulator are those that the addends `l` set (R407). -/
structure Acc.FlagsOf (x : Acc) (l : List (Option Val)) : Prop where
  nan     : x.nan = decide (some .nan ∈ l)
  pinf    : x.pinf = decide (some (.inf false) ∈ l)
  ninf    : x.ninf = decide (some (.inf true) ∈ l)
  poison  : x.poison = decide (none ∈ l)
  any     : x.any = l.any (fun _ => true)
  notNeg0 : x.notNeg0 = l.any addendNotNeg0

/-- The flags that an addend sets, before its value is added. -/
def Acc.mark (x : Acc) (v : Option Val) : Acc :=
  { x with nan := x.nan || decide (some .nan = v), pinf := x.pinf || decide (some (.inf false) = v)
           ninf := x.ninf || decide (some (.inf true) = v), poison := x.poison || decide (none = v), any := true
           notNeg0 := x.notNeg0 || addendNotNeg0 v }

/-- The sum of the CARRYs and the ORs of the flags, before the ACCs are added (R409). -/
def Acc.join (x y : Acc) : Acc :=
  { x with carry := x.carry + y.carry, nan := x.nan || y.nan, pinf := x.pinf || y.pinf, ninf := x.ninf || y.ninf
           poison := x.poison || y.poison, any := x.any || y.any, notNeg0 := x.notNeg0 || y.notNeg0 }

theorem merge_eq_settle (x y : Acc) : x.merge y = (x.join y).settle (x.a + y.a) := rfl

theorem put_fin (x : Acc) (neg : Bool) (m : Nat) (e : Int) :
    x.put (some (.fin neg m e)) = ((x.mark (some (.fin neg m e))).settle (x.a + addendValue (some (.fin neg m e)))).1 := by
  simp [Acc.put, Acc.add, Acc.mark, addendNotNeg0, addendValue]

theorem put_of_not_fin (x : Acc) {v : Option Val} (hv : ∀ neg m e, v ≠ some (.fin neg m e)) : x.put v = x.mark v := by
  match v with
  | none | some .nan | some (.inf true) | some (.inf false) => simp [Acc.put, Acc.add, Acc.addPoison, Acc.mark, addendNotNeg0]
  | some (.fin neg m e) => exact absurd rfl (hv neg m e)

/-- A finite addend of any size counts exactly (R408). -/
theorem add_fin_total (x : Acc) (neg : Bool) (m : Nat) (e : Int) : (x.add (.fin neg m e)).1.total = x.total + (addendInt neg m e).1 :=
  (settle_total _ _).trans (add_right_comm _ _ _)

theorem merge_total (x y : Acc) : (x.merge y).1.total = x.a + y.a + (x.carry + y.carry) * 2 ^ 576 := settle_total _ _

theorem merge_inRange {x y : Acc} (hx : x.InRange) (hy : y.InRange) : (x.merge y).1.InRange := by
  obtain ⟨hxlo, hxhi⟩ := hx
  obtain ⟨hylo, hyhi⟩ := hy
  exact settle_inRange _ (by omega) (by omega)

namespace Acc.FlagsOf
variable {x y : Acc} {l k : List (Option Val)}

theorem mark (h : x.FlagsOf l) (v : Option Val) : (x.mark v).FlagsOf (l ++ [v]) := by
  constructor <;> simp [Acc.mark, h.nan, h.pinf, h.ninf, h.poison, h.notNeg0]

theorem join (hx : x.FlagsOf l) (hy : y.FlagsOf k) : (x.join y).FlagsOf (l ++ k) := by
  constructor <;> simp [Acc.join, hx.nan, hx.pinf, hx.ninf, hx.poison, hx.any, hx.notNeg0, hy.nan, hy.pinf, hy.ninf, hy.poison, hy.any,
    hy.notNeg0]

theorem perm (h : x.FlagsOf l) (hp : l.Perm k) : x.FlagsOf k where
  nan := h.nan.trans (decide_eq_decide.mpr hp.mem_iff)
  pinf := h.pinf.trans (decide_eq_decide.mpr hp.mem_iff)
  ninf := h.ninf.trans (decide_eq_decide.mpr hp.mem_iff)
  poison := h.poison.trans (decide_eq_decide.mpr hp.mem_iff)
  any := h.any.trans hp.any_eq
  notNeg0 := h.notNeg0.trans hp.any_eq

end Acc.FlagsOf

/-! ### The state that some addends leave -/

/-- An accumulator is what the addends `l` leave: A in its range, their exact sum, and their flags. -/
structure Acc.Holds (x : Acc) (l : List (Option Val)) : Prop where
  inRange : x.InRange
  total   : x.total = addendSum l
  flags   : x.FlagsOf l

namespace Acc.Holds
variable {x y : Acc} {l k : List (Option Val)}

theorem perm (h : x.Holds l) (hp : l.Perm k) : x.Holds k :=
  ⟨h.inRange, h.total.trans (hp.map addendValue).sum_eq, h.flags.perm hp⟩

/-- The addends alone, not their order, decide the state (R409). -/
theorem unique (hx : x.Holds l) (hy : y.Holds l) : x = y := by
  obtain ⟨ha, hcarry⟩ := a_carry_eq_of_total_eq hx.inRange hy.inRange (hx.total.trans hy.total.symm)
  obtain ⟨hnan, hpinf, hninf, hpoison, hany, hnotNeg0⟩ := hx.flags
  cases x
  cases y
  rw [Acc.mk.injEq]
  exact ⟨ha, hcarry, hnan.trans hy.flags.nan.symm, hpinf.trans hy.flags.pinf.symm, hninf.trans hy.flags.ninf.symm,
    hpoison.trans hy.flags.poison.symm, hany.trans hy.flags.any.symm, hnotNeg0.trans hy.flags.notNeg0.symm⟩

theorem empty : Acc.empty.Holds [] where
  inRange := ⟨neg_nonpos.mpr (Int.pow_pos (by decide)).le, Int.pow_pos (by decide)⟩
  total := (zero_add _).trans (zero_mul _)
  flags := by constructor <;> simp [Acc.empty]

/-- Settling the exact sum of at most 2³³ addends, their flags set before, leaves their state: CARRY does not overflow. -/
theorem settle {z : Acc} {s : Int} (hlo : -(2 * 2 ^ 575) ≤ s) (hhi : s < 2 * 2 ^ 575) (hsum : s + z.carry * 2 ^ 576 = addendSum l)
    (hflags : z.FlagsOf l) (hl : Addends l) : (z.settle s).1.Holds l := by
  have hrange := settle_inRange z hlo hhi
  have htotal := (settle_total z s).trans hsum
  obtain ⟨hclo, hchi⟩ := carry_bounds hrange (htotal ▸ abs_addendSum_le hl)
  exact ⟨hrange, htotal, { hflags with nan := (settle_nan_of_carry hclo hchi).trans hflags.nan }⟩

theorem put (h : x.Holds l) {v : Option Val} (hl : Addends (l ++ [v])) : (x.put v).Holds (l ++ [v]) := by
  have hflags := h.flags.mark v
  obtain ⟨hlo, hhi⟩ := h.inRange
  have htotal : x.total + addendValue v = addendSum (l ++ [v]) := by rw [addendSum_append, addendSum_singleton, h.total]
  obtain ⟨neg, m, e, rfl⟩ | hv := em (∃ neg m e, v = some (.fin neg m e))
  · obtain ⟨hvlo, hvhi⟩ := abs_lt.mp (abs_addendValue_lt (hl.exact (some (.fin neg m e)) (by simp)))
    rw [put_fin]
    exact settle (by omega) (by omega) (by rw [← htotal, Acc.total, add_right_comm]; rfl) hflags hl
  · push Not at hv
    rw [put_of_not_fin x hv]
    rw [addendValue_of_not_fin hv, add_zero] at htotal
    exact ⟨h.inRange, htotal, hflags⟩

theorem merge (hx : x.Holds l) (hy : y.Holds k) (hl : Addends (l ++ k)) : (x.merge y).1.Holds (l ++ k) := by
  obtain ⟨hxlo, hxhi⟩ := hx.inRange
  obtain ⟨hylo, hyhi⟩ := hy.inRange
  have hsum : x.a + y.a + (x.carry + y.carry) * 2 ^ 576 = addendSum (l ++ k) := by
    rw [addendSum_append, ← hx.total, ← hy.total, Acc.total, Acc.total, add_mul, add_add_add_comm]
  rw [merge_eq_settle]
  exact settle (by omega) (by omega) hsum (hx.flags.join hy.flags) hl

theorem foldl_put (hl : Addends l) : (l.foldl Acc.put Acc.empty).Holds l := by
  induction l using List.reverseRecOn with
  | nil => exact empty
  | append_singleton l v ih =>
    rw [List.foldl_append]
    exact (ih (hl.subperm (List.sublist_append_left _ _).subperm)).put hl

end Acc.Holds
end Sys2Proof.Machine
end

section
/-!
PROOF. The spill image of an accumulator (R410): its fields packed one above the other, and each read back from where it stands.
-/
namespace Sys2Proof.Machine

/-! ### Fields of a packed number -/

@[simp] theorem leNat_leBytes (n v : Nat) : leNat (leBytes n v) = v % 256 ^ n := by
  induction n generalizing v with
  | zero => simp [leBytes, leNat, Nat.mod_one]
  | succ n ih =>
    rw [leBytes, leNat, ih, BitVec.toNat_ofNat, pow_succ' 256]
    exact Nat.mod_mul.symm

/-- The field that stands lowest. -/
theorem bits_lowest {n a : Nat} (ha : a < 2 ^ n) (b : Nat) : bits (a + 2 ^ n * b) 0 n = a := by
  simp [bits, Nat.mod_eq_of_lt ha]

/-- A field above the lowest is a field of what is packed above it. -/
theorem bits_above {n a : Nat} (ha : a < 2 ^ n) (b lo w : Nat) : bits (a + 2 ^ n * b) (n + lo) w = bits b lo w := by
  rw [bits, bits, pow_add, ← Nat.div_div_eq_div_mul, Nat.add_mul_div_left _ _ (Nat.two_pow_pos n), Nat.div_eq_of_lt ha, Nat.zero_add]

theorem pack_lt {n m a b : Nat} (ha : a < 2 ^ n) (hb : b < 2 ^ m) : a + 2 ^ n * b < 2 ^ (n + m) := by
  calc a + 2 ^ n * b < 2 ^ n * (b + 1) := by rw [Nat.mul_succ]; omega
    _ ≤ 2 ^ n * 2 ^ m := Nat.mul_le_mul_left _ hb
    _ = 2 ^ (n + m) := (pow_add 2 n m).symm

theorem wrap_lt (w : Nat) (n : Int) : wrap w n < 2 ^ w := by
  have hpos : (0 : Int) < (2 ^ w : Nat) := by exact_mod_cast Nat.two_pow_pos w
  have hlt := Int.emod_lt_of_pos n hpos
  unfold wrap
  omega

theorem wrap_of_nonneg {w : Nat} {n : Int} (h0 : 0 ≤ n) (h : n < 2 ^ w) : (wrap w n : Int) = n := by
  rw [wrap, Int.toNat_of_nonneg (Int.emod_nonneg n (by positivity)), Nat.cast_pow]
  exact Int.emod_eq_of_lt h0 h

theorem wrap_of_neg {w : Nat} {n : Int} (h0 : n < 0) (h : -(2 ^ w) ≤ n) : (wrap w n : Int) = n + 2 ^ w := by
  rw [wrap, Int.toNat_of_nonneg (Int.emod_nonneg n (by positivity)), Nat.cast_pow, Int.emod_eq_add_self_emod]
  exact Int.emod_eq_of_lt (by simpa [neg_le_iff_add_nonneg] using h) (by simpa using h0)

/-- An integer of `w + 1` bits is the two's complement of its low bits. -/
theorem signed_wrap {w : Nat} {n : Int} (hlo : -(2 ^ w) ≤ n) (hhi : n < 2 ^ w) : signed (w + 1) (wrap (w + 1) n) = n := by
  have hM : (2 : Int) ^ (w + 1) = 2 * 2 ^ w := pow_succ' 2 w
  have hp : ((2 ^ w : Nat) : Int) = 2 ^ w := Nat.cast_pow 2 w
  have hMp : ((2 ^ (w + 1) : Nat) : Int) = 2 * 2 ^ w := (Nat.cast_pow 2 (w + 1)).trans hM
  rw [signed, Nat.mod_eq_of_lt (wrap_lt (w + 1) n), Nat.add_sub_cancel, hMp]
  obtain h0 | h0 := le_or_gt 0 n
  · have hw := wrap_of_nonneg (w := w + 1) h0 (by omega)
    rw [if_pos (by omega), hw]
  · have hw := wrap_of_neg (w := w + 1) h0 (by omega)
    rw [if_neg (by omega), hw]
    omega

/-! ### The image -/

/-- The six flags as bits 0 to 5 of one number. -/
def packFlags (nan pinf ninf poison any notNeg0 : Bool) : Nat :=
  (if nan then 1 else 0) + (if pinf then 2 else 0) + (if ninf then 4 else 0) + (if poison then 8 else 0) + (if any then 16 else 0)
    + (if notNeg0 then 32 else 0)

theorem packFlags_lt : ∀ nan pinf ninf poison any notNeg0, packFlags nan pinf ninf poison any notNeg0 < 2 ^ 6 := by decide

theorem packFlags_bits : ∀ nan pinf ninf poison any notNeg0, let fl := packFlags nan pinf ninf poison any notNeg0
    decide (bits fl 0 1 = 1) = nan ∧ decide (bits fl 1 1 = 1) = pinf ∧ decide (bits fl 2 1 = 1) = ninf ∧ decide (bits fl 3 1 = 1) = poison
      ∧ decide (bits fl 4 1 = 1) = any ∧ decide (bits fl 5 1 = 1) = notNeg0 := by decide

/-- The flags of an accumulator as its spill image holds them. -/
def Acc.flagBits (x : Acc) : Nat := packFlags x.nan x.pinf x.ninf x.poison x.any x.notNeg0

/-- The 640 bits of the spill image, field upon field. -/
def Acc.packed (x : Acc) : Nat := x.image + 2 ^ 576 * (wrap 32 x.carry + 2 ^ 32 * (x.flagBits + 2 ^ 8 * (x.image % 7)))

theorem spill_eq_leBytes_packed (x : Acc) : x.spill = leBytes 80 x.packed := by
  have hdef : x.spill = leBytes 80 (x.image + wrap 32 x.carry * 2 ^ 576 + x.flagBits * 2 ^ 608 + x.image % 7 * 2 ^ 616) := rfl
  rw [hdef, Acc.packed, pow_add 2 576 32, pow_add 2 576 40]
  generalize (2 : Nat) ^ 576 = p
  congr 1
  ring

theorem packed_lt (x : Acc) : x.packed < 256 ^ 80 := by
  have hflags : x.flagBits + 2 ^ 8 * (x.image % 7) < 2 ^ (8 + 3) := pack_lt ((packFlags_lt ..).trans (by decide)) (by omega)
  calc x.packed < 2 ^ (576 + (32 + (8 + 3))) := pack_lt (wrap_lt 576 _) (pack_lt (wrap_lt 32 _) hflags)
    _ ≤ 2 ^ (8 * 80) := pow_le_pow_right₀ (by decide) (by decide)
    _ = 256 ^ 80 := pow_mul 2 8 80

theorem flagBits_bits (x : Acc) : decide (bits x.flagBits 0 1 = 1) = x.nan ∧ decide (bits x.flagBits 1 1 = 1) = x.pinf
    ∧ decide (bits x.flagBits 2 1 = 1) = x.ninf ∧ decide (bits x.flagBits 3 1 = 1) = x.poison ∧ decide (bits x.flagBits 4 1 = 1) = x.any
    ∧ decide (bits x.flagBits 5 1 = 1) = x.notNeg0 := packFlags_bits ..

/-- An image saved and loaded is the accumulator, and its RESIDUE matches (R410). -/
theorem fill_spill {x : Acc} (ha : x.InRange) (hlo : -(2 ^ 31) ≤ x.carry) (hhi : x.carry < 2 ^ 31) : Acc.fill x.spill = (x, true) := by
  have hword : leNat x.spill = x.packed := by rw [spill_eq_leBytes_packed, leNat_leBytes, Nat.mod_eq_of_lt (packed_lt x)]
  have hfl : x.flagBits < 2 ^ 6 := packFlags_lt ..
  have hacc : bits x.packed 0 576 = x.image := bits_lowest (wrap_lt 576 _) _
  have hcarry : bits x.packed 576 32 = wrap 32 x.carry := (bits_above (wrap_lt 576 _) _ 0 32).trans (bits_lowest (wrap_lt 32 _) _)
  have hflags : bits x.packed 608 6 = x.flagBits := by
    refine (bits_above (wrap_lt 576 _) _ 32 6).trans ((bits_above (wrap_lt 32 _) _ 0 6).trans ?_)
    unfold bits
    omega
  have hresidue : bits x.packed 616 3 = x.image % 7 := by
    refine (bits_above (wrap_lt 576 _) _ 40 3).trans ((bits_above (wrap_lt 32 _) _ 8 3).trans ?_)
    unfold bits
    omega
  obtain ⟨hnan, hpinf, hninf, hpoison, hany, hnotNeg0⟩ := flagBits_bits x
  have hsacc : signed 576 x.image = x.a := signed_wrap ha.1 ha.2
  have hscarry : signed 32 (wrap 32 x.carry) = x.carry := signed_wrap hlo hhi
  simp only [Acc.fill, hword, hacc, hcarry, hflags, hresidue, hsacc, hscarry, hnan, hpinf, hninf, hpoison, hany, hnotNeg0, decide_true]

end Sys2Proof.Machine
end

section
/-!
PROOF. The exact accumulator (R409, R410), from the two parts above.
-/
namespace Sys2Proof.Machine

/-- Settles O30: any two accumulators that hold the same addends, in whatever order and grouping, are equal (`Acc.Holds.unique`). -/
theorem accumulatorExact : Obligations.AccumulatorExact := by
  unfold Obligations.AccumulatorExact
  intro addend put
  -- Where the model is built without Mathlib, its powers are core Lean's and not those of `ExactAddend`: `omega` reads both as one.
  have hexact (v : Option Val) (h : addend v) : ExactAddend v := by
    intro neg m e hv
    obtain ⟨he, hm⟩ := h neg m e hv
    exact ⟨he, by omega⟩
  refine ⟨fun l k hall hcount hperm => ?_, fun l k hall hcount => ?_, fun a hlo hhi hclo hchi => fill_spill ⟨hlo, hhi⟩ hclo hchi,
    fun a m e neg he hlo hhi hm => ?_, fun a b halo hahi hblo hbhi => ?_⟩
  · have hl : Addends l := ⟨fun v hv => hexact v (hall v hv), hcount⟩
    exact (Acc.Holds.foldl_put hl).perm hperm |>.unique (Acc.Holds.foldl_put (hl.subperm hperm.symm.subperm))
  · have hlk : Addends (l ++ k) := ⟨fun v hv => hexact v (hall v hv), hcount⟩
    have hl := Acc.Holds.foldl_put (hlk.subperm (List.sublist_append_left l k).subperm)
    have hk := Acc.Holds.foldl_put (hlk.subperm (List.sublist_append_right l k).subperm)
    exact (hl.merge hk hlk).unique (Acc.Holds.foldl_put hlk)
  · rw [← addendInt_exact neg m he]
    exact add_fin_total a neg m e
  · exact ⟨merge_total a b, merge_inRange ⟨halo, hahi⟩ ⟨hblo, hbhi⟩⟩

end Sys2Proof.Machine
end

section
/-!
PROOF. The elements of a vector register (R435, R446, R447): a register is its elements stacked from the lowest, below the bits the format
leaves out. What a predicated operation makes of each element is read off the stack.
-/
namespace Sys2Proof.Machine

/-! ### A stack of fields of one width -/

/-- Fields of `w` bits, the first lowest, below the number `top`. -/
def stack (w : Nat) (es : List Nat) (top : Nat) : Nat := es.foldr (fun x acc => x % 2 ^ w + 2 ^ w * acc) top

@[simp] theorem stack_nil (w top : Nat) : stack w [] top = top := rfl

@[simp] theorem stack_cons (w x : Nat) (es : List Nat) (top : Nat) : stack w (x :: es) top = x % 2 ^ w + 2 ^ w * stack w es top := rfl

theorem stack_lt {w k top : Nat} (es : List Nat) (htop : top < 2 ^ k) : stack w es top < 2 ^ (w * es.length + k) := by
  induction es with
  | nil => simpa using htop
  | cons x es ih =>
    have hlen : w * (x :: es).length + k = w + (w * es.length + k) := by rw [List.length_cons, Nat.mul_succ]; omega
    rw [stack_cons, hlen]
    exact pack_lt (Nat.mod_lt _ (Nat.two_pow_pos w)) ih

/-- The top stands above all the fields. -/
theorem stack_eq_add (w : Nat) (es : List Nat) (top : Nat) : stack w es top = stack w es 0 + 2 ^ (w * es.length) * top := by
  induction es with
  | nil => simp
  | cons x es ih => rw [stack_cons, stack_cons, ih, List.length_cons, Nat.mul_succ, Nat.add_comm (w * es.length), Nat.pow_add]; ring

theorem stack_div (w : Nat) (es : List Nat) (top : Nat) : stack w es top / 2 ^ (w * es.length) = top := by
  have hlow : stack w es 0 < 2 ^ (w * es.length) := stack_lt (k := 0) es (by decide)
  rw [stack_eq_add, Nat.add_mul_div_left _ _ (Nat.two_pow_pos _), Nat.div_eq_of_lt hlow, Nat.zero_add]

/-- A field of the stack, read from where it stands. -/
theorem bits_stack (w : Nat) (es : List Nat) (top : Nat) {e : Nat} (he : e < es.length) :
    bits (stack w es top) (w * e) w = es[e] % 2 ^ w := by
  induction es generalizing e with
  | nil => cases he
  | cons x es ih =>
    have hx : x % 2 ^ w < 2 ^ w := Nat.mod_lt _ (Nat.two_pow_pos w)
    cases e with
    | zero => exact bits_lowest hx _
    | succ e =>
      rw [stack_cons, Nat.mul_succ, Nat.add_comm (w * e), bits_above hx, List.getElem_cons_succ]
      exact ih (Nat.lt_of_succ_lt_succ he)

/-! ### The elements of a register -/

/-- A format's elements fit into a register (R435). -/
theorem Fmt.bits_mul_count_le (f : Fmt) : f.bits * f.count ≤ 512 := by cases f <;> decide

/-- The three shapes of R447: whole bytes, six bits, half a byte. -/
theorem Fmt.bits_cases (f : Fmt) : 8 ≤ f.bits ∨ f.bits = 6 ∨ f.bits = 4 := by cases f <;> decide

theorem elem_lt (f : Fmt) (v : Vec512) (e : Nat) : elem f v e < 2 ^ f.bits := Nat.mod_lt _ (Nat.two_pow_pos _)

/-- A register made from all its elements is their stack below the old bits above them: nothing is cut off. -/
theorem ofElems_toNat {f : Fmt} {es : List Nat} (hlen : es.length = f.count) (old : Vec512) :
    (ofElems f es old).toNat = stack f.bits es (old.toNat / 2 ^ (f.bits * f.count)) := by
  have hn : f.bits * es.length + (512 - f.bits * es.length) = 512 := by rw [hlen]; have := f.bits_mul_count_le; omega
  have hlow : stack f.bits es 0 < 2 ^ (f.bits * es.length) := stack_lt (k := 0) es (by decide)
  have htop : old.toNat / 2 ^ (f.bits * es.length) < 2 ^ (512 - f.bits * es.length) := by
    rw [Nat.div_lt_iff_lt_mul (Nat.two_pow_pos _), ← Nat.pow_add, Nat.add_comm, hn]
    exact old.isLt
  have hall : stack f.bits es (old.toNat / 2 ^ (f.bits * es.length)) < 2 ^ 512 := (stack_lt es htop).trans_eq (congrArg _ hn)
  calc (ofElems f es old).toNat
      = (stack f.bits es 0 % 2 ^ (f.bits * f.count) + old.toNat / 2 ^ (f.bits * f.count) * 2 ^ (f.bits * f.count)) % 2 ^ 512 :=
        BitVec.toNat_ofNat _ _
    _ = stack f.bits es (old.toNat / 2 ^ (f.bits * f.count)) := by
        rw [← hlen, Nat.mod_eq_of_lt hlow, Nat.mul_comm (old.toNat / _), ← stack_eq_add, Nat.mod_eq_of_lt hall]

theorem elem_ofElems {f : Fmt} {es : List Nat} (hlen : es.length = f.count) (old : Vec512) {e : Nat} (he : e < es.length) :
    elem f (ofElems f es old) e = es[e] % 2 ^ f.bits := by
  rw [elem, ofElems_toNat hlen, bits_stack f.bits es _ he]

theorem ofElems_div {f : Fmt} {es : List Nat} (hlen : es.length = f.count) (old : Vec512) :
    (ofElems f es old).toNat / 2 ^ (f.bits * f.count) = old.toNat / 2 ^ (f.bits * f.count) := by
  rw [ofElems_toNat hlen, ← hlen, stack_div]

/-- A governed element is the one computed, cut to the width; another keeps its value (R446). -/
theorem elem_vmap {f : Fmt} (p : Word64) (old : Vec512) (g : Nat → Nat) {e : Nat} (he : e < f.count) :
    elem f (vmap f p old g) e = if governs f p e then g e % 2 ^ f.bits else elem f old e := by
  rw [vmap, elem_ofElems (by simp) old (by simpa using he), List.getElem_map, List.getElem_range]
  split
  · rfl
  · exact Nat.mod_eq_of_lt (elem_lt f old e)

theorem vmap_div (f : Fmt) (p : Word64) (old : Vec512) (g : Nat → Nat) :
    (vmap f p old g).toNat / 2 ^ (f.bits * f.count) = old.toNat / 2 ^ (f.bits * f.count) :=
  ofElems_div (by simp) old

/-! ### The bit that governs an element (R447) -/

theorem governs_of_bytes {f : Fmt} (h : 8 ≤ f.bits) (p : Word64) (e : Nat) : governs f p e = p.getLsbD (e * (f.bits / 8)) := if_pos h

theorem governs_of_six {f : Fmt} (h : f.bits = 6) (p : Word64) (e : Nat) : governs f p e = p.getLsbD e := by simp [governs, h]

/-- Two elements of four bits share the bit of their byte. -/
theorem governs_of_four {f : Fmt} (h : f.bits = 4) (p : Word64) (e : Nat) : governs f p e = p.getLsbD (e / 2) := by simp [governs, h]

/-! ### Results that fit -/

/-- An integer result fits its element where the operation wraps; AND, OR, XOR and SHR fit only as their operands do, and an integer format
has no division or square root. -/
theorem vop_int_lt {f : Fmt} (hint : f.isInt = true) (nan : Bool) (a b : Nat) {op : VOp} (hand : op ≠ .and) (hor : op ≠ .or) (hxor : op ≠ .xor)
    (hshr : op ≠ .shr) (hdiv : op ≠ .div) (hsqrt : op ≠ .sqrt) : (vop op f nan a b).bits < 2 ^ f.bits := by
  simp only [vop, if_pos hint, Written.of]
  cases op with
  | add | sub | mul | min | max | abs | neg | sar => exact wrap_lt _ _
  | shl => exact Nat.mod_lt _ (Nat.two_pow_pos _)
  | and | or | xor | shr | div | sqrt => contradiction

end Sys2Proof.Machine
end

section
/-!
PROOF. Bytes held in canonical form (R318): what a read returns after a write, and so what a masked store leaves in a tray (R446, R447).
-/
namespace Sys2Proof.Machine

/-- Below the first address listed there is nothing but zeros. -/
theorem cellGet_of_le {m : List Host.Cell} {l y : Nat} (hm : cellsFrom (some l) m = true) (hy : y ≤ l) : cellGet m y = 0 := by
  cases m with
  | nil => rfl
  | cons c t =>
    obtain ⟨a, b⟩ := c
    simp only [cellsFrom, Bool.and_eq_true, decide_eq_true_eq] at hm
    obtain ⟨⟨hla, -⟩, -⟩ := hm
    rw [cellGet, if_neg (by omega), if_pos (by omega)]

/-- The address written stands before the first cell, at it, or among the rest. -/
theorem cellGet_cellSet_of_cellsFrom {m : List Host.Cell} {lo : Option Nat} (hm : cellsFrom lo m = true) (x : Nat) (b : Byte) (y : Nat) :
    cellGet (cellSet m x b) y = if y = x then b else cellGet m y := by
  induction m generalizing lo with
  | nil => grind [cellGet, cellSet]
  | cons c t ih =>
    obtain ⟨a, d⟩ := c
    simp only [cellsFrom, Bool.and_eq_true] at hm
    obtain ⟨-, ht⟩ := hm
    have hbelow : y ≤ a → cellGet t y = 0 := cellGet_of_le ht
    obtain hxa | rfl | hax := Nat.lt_trichotomy x a
    · grind [cellGet, cellSet]
    · grind [cellGet, cellSet]
    · have hset : cellSet ((a, d) :: t) x b = (a, d) :: cellSet t x b := by rw [cellSet, if_neg (by omega), if_neg (by omega)]
      have hrest := ih ht
      grind [cellGet]

/-- A byte written is the byte read; every other address is as it was. -/
theorem cellGet_cellSet {m : List Host.Cell} (hm : Memory.wf m = true) (x : Nat) (b : Byte) (y : Nat) :
    cellGet (cellSet m x b) y = if y = x then b else cellGet m y :=
  cellGet_cellSet_of_cellsFrom hm x b y

/-- Bytes written at some offsets from an address, each offset with its own byte. -/
theorem cellGet_foldl_cellSet {m : List Host.Cell} (hm : Memory.wf m = true) (a : Nat) (v : Nat → Byte) (offsets : List Nat) (j : Nat) :
    cellGet (offsets.foldl (fun m i => cellSet m (a + i) (v i)) m) (a + j) = if j ∈ offsets then v j else cellGet m (a + j) := by
  induction offsets generalizing m with
  | nil => rfl
  | cons i offsets ih =>
    rw [List.foldl_cons, ih (cellSet_wf hm), cellGet_cellSet hm]
    by_cases hji : j = i <;> simp [hji]

/-- A clean store writes the bytes of its mask and no other (R446). -/
theorem cellGet_trayPut {k : Core} (hk : Memory.wf k.tray = true) (a : Nat) (bs : List Byte) (mask : Nat → Bool) {i : Nat} (hi : i < bs.length) :
    cellGet (k.trayPut a bs mask false).tray (a + i) = if mask i then bs.getD i 0 else cellGet k.tray (a + i) := by
  have hmem : i ∈ (List.range bs.length).filter mask ↔ mask i = true := by simp [hi]
  calc cellGet (k.trayPut a bs mask false).tray (a + i)
      = if i ∈ (List.range bs.length).filter mask then bs.getD i 0 else cellGet k.tray (a + i) :=
        cellGet_foldl_cellSet hk a (fun i => bs.getD i 0) _ i
    _ = if mask i then bs.getD i 0 else cellGet k.tray (a + i) := if_congr hmem rfl rfl

/-- Settles O26: the governing bit by the element's width, the masked store byte by byte, and each element read off the stack that
`vapply` builds. -/
theorem vectorElements : Obligations.VectorElements := by
  unfold Obligations.VectorElements
  refine ⟨fun f p e => ⟨fun h => governs_of_bytes h p e, fun h => governs_of_six h p e, fun h => ⟨?_, ?_⟩, f.bits_cases⟩,
    fun k p a bs hk i hi => cellGet_trayPut hk a bs _ hi, fun f p old g => ⟨fun e he hg => ?_, vmap_div f p old _, ?_⟩⟩
  · rw [governs_of_four h]; congr 1; omega
  · rw [governs_of_four h]; congr 1; omega
  · rw [vapply, elem_vmap p old _ he, Nat.mod_eq_of_lt hg]
  · exact fun hint a b op => vop_int_lt hint false a b

end Sys2Proof.Machine
end

section
/-!
PROOF. The operations that run at once (R668): an INVOKE that all but the running operations allow is refused, waits or begins.
-/
namespace Sys2Proof.Machine

@[simp] theorem heard_queue (r : Req) (s : State) : (heard r s).kodp.queue = s.kodp.queue := by unfold heard; split <;> rfl

/-- Whether an operation of the same object and the same first argument field is still running (R668). -/
def State.runsSame (s : State) (o : OpObj) (n : Nat) (arg : List Byte) : Bool :=
  (firstArg n arg).isSome && s.kodp.running.any (fun x => x.index == o.index && x.sub == o.sub && x.firstArg == firstArg n arg)

/-- The state in which a request has come and waits at the end of the queue (R668). -/
def waiting (o : OpObj) (r : Req) (arg : List Byte) (s : State) : State :=
  (heard r s).onKodp (fun k => { k with queue := k.queue ++ [(r, mkMsg o.type r.id o.index o.sub .ok arg)] })

@[simp] theorem waiting_running (o : OpObj) (r : Req) (arg : List Byte) (s : State) : (waiting o r arg s).kodp.running = s.kodp.running :=
  heard_running r s

@[simp] theorem waiting_queue (o : OpObj) (r : Req) (arg : List Byte) (s : State) :
    (waiting o r arg s).kodp.queue = s.kodp.queue ++ [(r, mkMsg o.type r.id o.index o.sub .ok arg)] :=
  congrArg (· ++ _) (heard_queue r s)

/-- Of an INVOKE that the state without its running operations accepts, those that run decide: a clash of first arguments comes before
the sixteen (R664, R668). -/
theorem operate_invoke {s : State} {o : OpObj} {r : Req} {n : Nat} {arg : List Byte} {run : State → State} (htype : o.type = 3)
    (hidle : { s with kodp := { s.kodp with running := [] } }.accepts o r n arg = true)
    (hfresh : (s.kodp.running.all fun x => !(x.req.client == r.client && x.req.id == r.id)) = true) (hqueue : s.kodp.queue = []) :
    operate o r arg n Verdict.ok run s =
      if s.runsSame o n arg then refuse o r (kmsgCrc (mkMsg o.type r.id o.index o.sub .ok arg)) .refusedState [] (heard r s)
      else if 16 ≤ s.kodp.running.length then waiting o r arg s else run (begun o r arg n s) := by
  simp only [State.accepts, Bool.and_eq_true, Bool.not_eq_true', Option.isNone_iff_eq_none] at hidle
  obtain ⟨⟨⟨⟨⟨⟨⟨⟨hup, hcold⟩, hcache⟩, -⟩, hready⟩, hroles⟩, hfence⟩, -⟩, -⟩ := hidle
  -- None of these reads the running operations, so each holds of `s` itself.
  replace hup : s.bakerUp = true := hup
  replace hready : (!s.ready && !o.recovery) = false := by rw [← Bool.not_or, Bool.not_eq_false']; exact hready
  replace hroles : (!(o.any || (o.roles &&& s.rolesOf r.client) != 0 || s.isPeer r.client && (o.mirrored || o.index == 0x1E30))) = false := by
    rw [Bool.not_eq_false']; exact hroles
  replace hfence : (o.mirrored && s.standby && !s.isPeer r.client) = false := hfence
  have hnoDuplicate : s.kodp.running.any (fun x => x.req.client == r.client && x.req.id == r.id) = false := by
    rw [List.any_eq_not_all_not, hfresh]; rfl
  have hsame : (o.type == 3 && (firstArg n arg).isSome && s.kodp.running.any fun x => x.index == o.index && x.sub == o.sub
      && x.firstArg == firstArg n arg) = s.runsSame o n arg := by rw [htype]; rfl
  rw [firstArg] at hsame
  have hfull : (o.type == 3 && decide (s.kodp.running.length ≥ 16)) = decide (16 ≤ s.kodp.running.length) := by rw [htype]; rfl
  unfold operate
  simp only [hup, heard_obs, hcold, heard_cache, hcache, heard_running, hnoDuplicate, heard_ready, hready, Verdict.ok, hroles, heard_standby,
    heard_isPeer, hfence, hfull, heard_queue, hqueue, hsame, Bool.false_or, decide_eq_true_eq]
  rfl

/-- Where nothing runs under a request, its refusal answers it and leaves what runs. -/
theorem refuse_answers {s : State} {o : OpObj} {r : Req} {crc : Nat} {st : Status} {body : List Byte}
    (hfresh : (s.kodp.running.all fun x => !(x.req.client == r.client && x.req.id == r.id)) = true) :
    Answered o r st body (refuse o r crc st body s) ∧ (refuse o r crc st body s).kodp.running = s.kodp.running := by
  obtain ⟨hcache, hrunning⟩ := sendReply_cache r crc (replyOf o r st body) s
  refine ⟨⟨.inl ⟨_, hcache, rfl, rfl⟩, ?_⟩, hrunning⟩
  rw [refuse, ← replyOf, hrunning, List.all_eq_true]
  intro x hx
  have hx := List.all_eq_true.1 hfresh x hx
  by_cases hr : x.req = r
  · simp [hr] at hx
  · simp [hr]

/-- Settles O60: the running operations refuse an INVOKE, make it wait or let it begin (`operate_invoke`). -/
theorem runningInvokes : Obligations.RunningInvokes := by
  unfold Obligations.RunningInvokes
  intro s o r n arg run htype hidle hfresh hqueue same
  have hop := operate_invoke (run := run) htype hidle hfresh hqueue
  rw [show s.runsSame o n arg = same from rfl] at hop
  refine ⟨fun hsame hroom => ?_, fun hsame hfull => ?_, fun hsame => ?_⟩
  · rw [hop, hsame, if_neg Bool.false_ne_true, if_neg hroom.not_ge, begun_running, List.length_append]
    exact ⟨rfl, rfl, hroom⟩
  · rw [hop, hsame, if_neg Bool.false_ne_true, if_pos hfull, waiting_running, waiting_queue, hqueue, htype]
    exact ⟨rfl, rfl⟩
  · rw [hop, hsame, if_pos rfl, ← heard_running r s]
    exact refuse_answers (by rwa [heard_running])

end Sys2Proof.Machine
end

section
/-!
PROOF. The step (R666): it takes the front of the queue, and on an empty queue the clock ticks. Frames of every command and of a step, read off
the frames of `exec`, `tick`, `strikes` and `startQueued`.
-/
namespace Sys2Proof.Machine

/-! ### The front of the queue -/

theorem step_of_pending {c : Instr} {rest : List Instr} {s : State} (h : s.pending = c :: rest) : step s = exec c { s with pending := rest } := by
  rw [step, h]

theorem step_of_empty {s : State} (h : s.pending = []) : step s = .next (tick (strikes (startQueued 256 s))) := by
  rw [step, h]

/-- Settles O53: by what `step` does with a queue that is not empty; `decodeTableWord` answers none. -/
theorem stepRunsFront : Obligations.StepRunsFront :=
  ⟨fun _ _ => rfl, fun _ _ _ h => step_of_pending h, fun _ _ => rfl, fun _ _ _ => rfl⟩

/-! ### What a step keeps -/

/-- Every step is a frame over every part, from the state whose queue has lost its front. -/
theorem step_frame {s t : State} (h : step s = .next t) : Frame Part.every { s with pending := s.pending.tail } t := by
  cases hp : s.pending with
  | nil =>
    rw [step_of_empty hp] at h
    cases h
    have hs : ({ s with pending := [] } : State) = s := by rw [← hp]
    rw [List.tail_nil, hs]
    exact frame_tick rfl (frame_strikes rfl (frame_startQueued rfl (Frame.refl _ s)))
  | cons c rest =>
    rw [step_of_pending hp] at h
    exact frame_exec rfl (Frame.refl _ _) t h

/-- Settles O56: a step is a frame over every part (`step_frame`). -/
theorem stepsKeepMemory : Obligations.StepsKeepMemory := by
  unfold Obligations.StepsKeepMemory
  intro s t h
  have hf := step_frame h
  exact ⟨hf.mem, hf.out, hf.free, hf.pending⟩

/-! ### What a command keeps -/

/-- No command faults and none is refused: its meaning is a next state on every path. -/
theorem exec_next (c : Instr) (s : State) : ∃ t, exec c s = .next t := by
  cases c with
  | powerStepAck | kslWriteFrame | kslReadFrame | laneLos | lcbReceived | timeSyncSend | detachComplete | leaseExpiry |
    partnerLossWalkDone | quarantineExpiry | requestOrdered | recallDeadline | parkedPresent | pairingTimeout | requestWithdraw |
    unroutableTimeout | poolRequestTimeout | poolResend | genSettleRecheck | dramCommandSlot | dramDataReturn | refreshInterval |
    dramCommandTimeout | channelRetrainDone | panicCap | panicResume | driftTrack | deepMissingUnits | dirtyAgeExpiry |
    deepWaitResume | sledWaitTimeout | scrubLine | rowRepair | bankRepairDone | decoderSelftestHourly | sugarQueueServe |
    grantRenewal | grantEnd | grantRampDone | ballastHoldExpiry | admissionLimitTimeout | tileDispatch | coreSteal | tileCheck |
    tileCommit | recipeEnd | allreduceDeadline | kernelTileStart | poolAccessReturn | instructionWatchdog | coreTileTimeout |
    accessTimeout | lampFrame | keepaliveSend | standbyKeepaliveLoss | ownerKeepaliveLoss | takeoverStart | takeoverClaimDeadline
    | announceTimer | enrolRetry | hbReqTimer | quiesceBarrier | quiesceWaitExpiry | handbackDrainTimeout | releaseLampEnd |
    releasingTimeout | forceArmExpiry | resyncSend | refillTick | holdLimitExpiry | queueSample | governorTick | freqStep |
    napAllowance | idleTimerExpiry | calendarWake | powerEntryDone | wakeRequest | wakeComplete | partialResetDone |
    coreResetEscalate | clusterResetTimeout | spareBringinDone | handshakeTimeout | dumpArm | dumpCut | dumpStreamSend |
    objectWrite | malformedPacket | ballastRampDownDone | mrAckReportTimer | releaseCodeExpiry =>
    simp only [exec, execPowerStepAck, execKslWriteFrame, execKslReadFrame, execLaneLos, execLcbReceived, execTimeSyncSend,
      execDetachComplete, execLeaseExpiry, execPartnerLossWalkDone, execQuarantineExpiry, execRequestOrdered, execRecallDeadline,
      execParkedPresent, execPairingTimeout, execRequestWithdraw, execUnroutableTimeout, execPoolRequestTimeout, execPoolResend,
      execGenSettleRecheck, execDramCommandSlot, execDramDataReturn, execRefreshInterval, execDramCommandTimeout,
      execChannelRetrainDone, execPanicCap, execPanicResume, execDriftTrack, execDeepMissingUnits, execDirtyAgeExpiry,
      execDeepWaitResume, execSledWaitTimeout, execScrubLine, execRowRepair, execBankRepairDone, execDecoderSelftestHourly,
      execSugarQueueServe, execGrantRenewal, execGrantEnd, execGrantRampDone, execBallastHoldExpiry, execAdmissionLimitTimeout,
      execTileDispatch, execCoreSteal, execTileCheck, execTileCommit, execRecipeEnd, execAllreduceDeadline, execKernelTileStart,
      execPoolAccessReturn, execInstructionWatchdog, execCoreTileTimeout, execAccessTimeout, execLampFrame, execKeepaliveSend,
      execStandbyKeepaliveLoss, execOwnerKeepaliveLoss, execTakeoverStart, execTakeoverClaimDeadline, execAnnounceTimer,
      execEnrolRetry, execHbReqTimer, execQuiesceBarrier, execQuiesceWaitExpiry, execHandbackDrainTimeout, execReleaseLampEnd,
      execReleasingTimeout, execForceArmExpiry, execResyncSend, execRefillTick, execHoldLimitExpiry, execQueueSample,
      execGovernorTick, execFreqStep, execNapAllowance, execIdleTimerExpiry, execCalendarWake, execPowerEntryDone,
      execWakeRequest, execWakeComplete, execPartialResetDone, execCoreResetEscalate, execClusterResetTimeout,
      execSpareBringinDone, execHandshakeTimeout, execDumpArm, execDumpCut, execDumpStreamSend, execObjectWrite,
      execMalformedPacket, execBallastRampDownDone, execMrAckReportTimer, execReleaseCodeExpiry]
    repeat' split
    all_goals exact ⟨_, rfl⟩
  | _ => exact ⟨_, rfl⟩

theorem within_refl (P : List Part) : within P P = true := by simp [within]

/-- Each command by the frame of its meaning, whose parts are those the command touches. -/
theorem exec_frame (c : Instr) (s : State) : FrameO (touches c) s (exec c s) := by
  cases c with
  | poresetAssert => exact frame_execPoresetAssert (within_refl _) (.refl _ _)
  | strapSample => exact frame_execStrapSample (within_refl _) (.refl _ _)
  | warmresetAssert => exact frame_execWarmresetAssert (within_refl _) (.refl _ _)
  | warmresetShort => exact frame_execWarmresetShort (within_refl _) (.refl _ _)
  | warmresetStart => exact frame_execWarmresetStart (within_refl _) (.refl _ _)
  | brownOut => exact frame_execBrownOut (within_refl _) (.refl _ _)
  | refclkLoss => exact frame_execRefclkLoss (within_refl _) (.refl _ _)
  | thermalSample => exact frame_execThermalSample (within_refl _) (.refl _ _)
  | thermtrip => exact frame_execThermtrip (within_refl _) (.refl _ _)
  | powerStepAck => exact frame_execPowerStepAck (within_refl _) (.refl _ _)
  | powerStepStart => exact frame_execPowerStepStart (within_refl _) (.refl _ _)
  | stepAckMissing => exact frame_execStepAckMissing (within_refl _) (.refl _ _)
  | stepAckStuck => exact frame_execStepAckStuck (within_refl _) (.refl _ _)
  | holdupSample => exact frame_execHoldupSample (within_refl _) (.refl _ _)
  | kslWriteFrame => exact frame_execKslWriteFrame (within_refl _) (.refl _ _)
  | kslReadFrame => exact frame_execKslReadFrame (within_refl _) (.refl _ _)
  | kslFrameTimeout => exact frame_execKslFrameTimeout (within_refl _) (.refl _ _)
  | debugHoldTimeout => exact frame_execDebugHoldTimeout (within_refl _) (.refl _ _)
  | bakerBootComplete => exact frame_execBakerBootComplete (within_refl _) (.refl _ _)
  | laserInputLow => exact frame_execLaserInputLow (within_refl _) (.refl _ _)
  | laserInputsDark => exact frame_execLaserInputsDark (within_refl _) (.refl _ _)
  | laserInputRestored => exact frame_execLaserInputRestored (within_refl _) (.refl _ _)
  | laserLow => exact frame_execLaserLow (within_refl _) (.refl _ _)
  | lockstepDisagreement => exact frame_execLockstepDisagreement (within_refl _) (.refl _ _)
  | laneLos => exact frame_execLaneLos (within_refl _) (.refl _ _)
  | laneSignalRestored => exact frame_execLaneSignalRestored (within_refl _) (.refl _ _)
  | portDark => exact frame_execPortDark (within_refl _) (.refl _ _)
  | detectLit => exact frame_execDetectLit (within_refl _) (.refl _ _)
  | lcbReceived => exact frame_execLcbReceived (within_refl _) (.refl _ _)
  | trainComplete => exact frame_execTrainComplete (within_refl _) (.refl _ _)
  | trainTimeout => exact frame_execTrainTimeout (within_refl _) (.refl _ _)
  | retrainComplete => exact frame_execRetrainComplete (within_refl _) (.refl _ _)
  | retrainTimeout => exact frame_execRetrainTimeout (within_refl _) (.refl _ _)
  | downHoldExpiry => exact frame_execDownHoldExpiry (within_refl _) (.refl _ _)
  | flitReceived => exact frame_execFlitReceived (within_refl _) (.refl _ _)
  | flitSend => exact frame_execFlitSend (within_refl _) (.refl _ _)
  | nakTimer => exact frame_execNakTimer (within_refl _) (.refl _ _)
  | replayTimeout => exact frame_execReplayTimeout (within_refl _) (.refl _ _)
  | oldestFlitTimeout => exact frame_execOldestFlitTimeout (within_refl _) (.refl _ _)
  | creditReportTimer => exact frame_execCreditReportTimer (within_refl _) (.refl _ _)
  | chargedReportTimer => exact frame_execChargedReportTimer (within_refl _) (.refl _ _)
  | timeSyncSend => exact frame_execTimeSyncSend (within_refl _) (.refl _ _)
  | portEnable => exact frame_execPortEnable (within_refl _) (.refl _ _)
  | portDisable => exact frame_execPortDisable (within_refl _) (.refl _ _)
  | portRetrain => exact frame_execPortRetrain (within_refl _) (.refl _ _)
  | portLaneRestore => exact frame_execPortLaneRestore (within_refl _) (.refl _ _)
  | attach => exact frame_execAttach (within_refl _) (.refl _ _)
  | heartbeat => exact frame_execHeartbeat (within_refl _) (.refl _ _)
  | detach => exact frame_execDetach (within_refl _) (.refl _ _)
  | detachComplete => exact frame_execDetachComplete (within_refl _) (.refl _ _)
  | leaseExpiry => exact frame_execLeaseExpiry (within_refl _) (.refl _ _)
  | partnerLossWalkDone => exact frame_execPartnerLossWalkDone (within_refl _) (.refl _ _)
  | quarantineExpiry => exact frame_execQuarantineExpiry (within_refl _) (.refl _ _)
  | e2eNak => exact frame_execE2eNak (within_refl _) (.refl _ _)
  | announce => exact frame_execAnnounce (within_refl _) (.refl _ _)
  | rdShared => exact frame_execRdShared (within_refl _) (.refl _ _)
  | rdUnique => exact frame_execRdUnique (within_refl _) (.refl _ _)
  | rdOnce => exact frame_execRdOnce (within_refl _) (.refl _ _)
  | wrLine => exact frame_execWrLine (within_refl _) (.refl _ _)
  | wrPart => exact frame_execWrPart (within_refl _) (.refl _ _)
  | writeback => exact frame_execWriteback (within_refl _) (.refl _ _)
  | evictClean => exact frame_execEvictClean (within_refl _) (.refl _ _)
  | upgrade => exact frame_execUpgrade (within_refl _) (.refl _ _)
  | atomic => exact frame_execAtomic (within_refl _) (.refl _ _)
  | wrData => exact frame_execWrData (within_refl _) (.refl _ _)
  | wbData => exact frame_execWbData (within_refl _) (.refl _ _)
  | snpData => exact frame_execSnpData (within_refl _) (.refl _ _)
  | atomicOpnd => exact frame_execAtomicOpnd (within_refl _) (.refl _ _)
  | snpRsp => exact frame_execSnpRsp (within_refl _) (.refl _ _)
  | crossed => exact frame_execCrossed (within_refl _) (.refl _ _)
  | stashRsp => exact frame_execStashRsp (within_refl _) (.refl _ _)
  | rtRead => exact frame_execRtRead (within_refl _) (.refl _ _)
  | recipeCancel => exact frame_execRecipeCancel (within_refl _) (.refl _ _)
  | requestOrdered => exact frame_execRequestOrdered (within_refl _) (.refl _ _)
  | recallDeadline => exact frame_execRecallDeadline (within_refl _) (.refl _ _)
  | parkedPresent => exact frame_execParkedPresent (within_refl _) (.refl _ _)
  | pairingTimeout => exact frame_execPairingTimeout (within_refl _) (.refl _ _)
  | requestWithdraw => exact frame_execRequestWithdraw (within_refl _) (.refl _ _)
  | unroutableTimeout => exact frame_execUnroutableTimeout (within_refl _) (.refl _ _)
  | poolRequestTimeout => exact frame_execPoolRequestTimeout (within_refl _) (.refl _ _)
  | poolResend => exact frame_execPoolResend (within_refl _) (.refl _ _)
  | genSettleRecheck => exact frame_execGenSettleRecheck (within_refl _) (.refl _ _)
  | ctxInvalidate => exact frame_execCtxInvalidate (within_refl _) (.refl _ _)
  | recallRange => exact frame_execRecallRange (within_refl _) (.refl _ _)
  | partnerEvict => exact frame_execPartnerEvict (within_refl _) (.refl _ _)
  | fqOverflowClear => exact frame_execFqOverflowClear (within_refl _) (.refl _ _)
  | directoryLookup => exact frame_execDirectoryLookup (within_refl _) (.refl _ _)
  | dramCommandSlot => exact frame_execDramCommandSlot (within_refl _) (.refl _ _)
  | dramDataReturn => exact frame_execDramDataReturn (within_refl _) (.refl _ _)
  | refreshInterval => exact frame_execRefreshInterval (within_refl _) (.refl _ _)
  | dramCommandTimeout => exact frame_execDramCommandTimeout (within_refl _) (.refl _ _)
  | channelRetrainDone => exact frame_execChannelRetrainDone (within_refl _) (.refl _ _)
  | panicCap => exact frame_execPanicCap (within_refl _) (.refl _ _)
  | panicResume => exact frame_execPanicResume (within_refl _) (.refl _ _)
  | driftTrack => exact frame_execDriftTrack (within_refl _) (.refl _ _)
  | channelRetrain => exact frame_execChannelRetrain (within_refl _) (.refl _ _)
  | dtInfoData => exact frame_execDtInfoData (within_refl _) (.refl _ _)
  | dtReadData => exact frame_execDtReadData (within_refl _) (.refl _ _)
  | dtCmp => exact frame_execDtCmp (within_refl _) (.refl _ _)
  | deepMissingUnits => exact frame_execDeepMissingUnits (within_refl _) (.refl _ _)
  | dirtyAgeExpiry => exact frame_execDirtyAgeExpiry (within_refl _) (.refl _ _)
  | deepWaitResume => exact frame_execDeepWaitResume (within_refl _) (.refl _ _)
  | sledWaitTimeout => exact frame_execSledWaitTimeout (within_refl _) (.refl _ _)
  | deepPin => exact frame_execDeepPin (within_refl _) (.refl _ _)
  | deepUnpin => exact frame_execDeepUnpin (within_refl _) (.refl _ _)
  | deepPrefetch => exact frame_execDeepPrefetch (within_refl _) (.refl _ _)
  | deepFlush => exact frame_execDeepFlush (within_refl _) (.refl _ _)
  | deepTrim => exact frame_execDeepTrim (within_refl _) (.refl _ _)
  | sledClaimForce => exact frame_execSledClaimForce (within_refl _) (.refl _ _)
  | scrubLine => exact frame_execScrubLine (within_refl _) (.refl _ _)
  | rowRepair => exact frame_execRowRepair (within_refl _) (.refl _ _)
  | bankRepairDone => exact frame_execBankRepairDone (within_refl _) (.refl _ _)
  | decoderSelftestHourly => exact frame_execDecoderSelftestHourly (within_refl _) (.refl _ _)
  | errorLogClear => exact frame_execErrorLogClear (within_refl _) (.refl _ _)
  | deepSetRelease => exact frame_execDeepSetRelease (within_refl _) (.refl _ _)
  | poisonInject => exact frame_execPoisonInject (within_refl _) (.refl _ _)
  | fill => exact frame_execFill (within_refl _) (.refl _ _)
  | copy => exact frame_execCopy (within_refl _) (.refl _ _)
  | compare => exact frame_execCompare (within_refl _) (.refl _ _)
  | reduce => exact frame_execReduce (within_refl _) (.refl _ _)
  | gatherReduce => exact frame_execGatherReduce (within_refl _) (.refl _ _)
  | scatterAdd => exact frame_execScatterAdd (within_refl _) (.refl _ _)
  | allreduceStage => exact frame_execAllreduceStage (within_refl _) (.refl _ _)
  | optimStep => exact frame_execOptimStep (within_refl _) (.refl _ _)
  | kvSelect => exact frame_execKvSelect (within_refl _) (.refl _ _)
  | deltaPack => exact frame_execDeltaPack (within_refl _) (.refl _ _)
  | digest => exact frame_execDigest (within_refl _) (.refl _ _)
  | publish => exact frame_execPublish (within_refl _) (.refl _ _)
  | kernel => exact frame_execKernel (within_refl _) (.refl _ _)
  | sugarQueueServe => exact frame_execSugarQueueServe (within_refl _) (.refl _ _)
  | grantRenewal => exact frame_execGrantRenewal (within_refl _) (.refl _ _)
  | grantEnd => exact frame_execGrantEnd (within_refl _) (.refl _ _)
  | grantRampDone => exact frame_execGrantRampDone (within_refl _) (.refl _ _)
  | ballastHoldExpiry => exact frame_execBallastHoldExpiry (within_refl _) (.refl _ _)
  | admissionLimitTimeout => exact frame_execAdmissionLimitTimeout (within_refl _) (.refl _ _)
  | tileDispatch => exact frame_execTileDispatch (within_refl _) (.refl _ _)
  | coreSteal => exact frame_execCoreSteal (within_refl _) (.refl _ _)
  | tileCheck => exact frame_execTileCheck (within_refl _) (.refl _ _)
  | tileCommit => exact frame_execTileCommit (within_refl _) (.refl _ _)
  | recipeEnd => exact frame_execRecipeEnd (within_refl _) (.refl _ _)
  | allreduceDeadline => exact frame_execAllreduceDeadline (within_refl _) (.refl _ _)
  | recipeAbort => exact frame_execRecipeAbort (within_refl _) (.refl _ _)
  | kernelTileStart => exact frame_execKernelTileStart (within_refl _) (.refl _ _)
  | poolAccessReturn => exact frame_execPoolAccessReturn (within_refl _) (.refl _ _)
  | instructionWatchdog => exact frame_execInstructionWatchdog (within_refl _) (.refl _ _)
  | coreTileTimeout => exact frame_execCoreTileTimeout (within_refl _) (.refl _ _)
  | accessTimeout => exact frame_execAccessTimeout (within_refl _) (.refl _ _)
  | nop => exact frame_execNop (within_refl _) (.refl _ _)
  | texit => exact frame_execTexit (within_refl _) (.refl _ _)
  | trap => exact frame_execTrap (within_refl _) (.refl _ _)
  | fence => exact frame_execFence (within_refl _) (.refl _ _)
  | bar => exact frame_execBar (within_refl _) (.refl _ _)
  | barf => exact frame_execBarf (within_refl _) (.refl _ _)
  | tres => exact frame_execTres (within_refl _) (.refl _ _)
  | time => exact frame_execTime (within_refl _) (.refl _ _)
  | xpois => exact frame_execXpois (within_refl _) (.refl _ _)
  | vpois => exact frame_execVpois (within_refl _) (.refl _ _)
  | apois => exact frame_execApois (within_refl _) (.refl _ _)
  | pset => exact frame_execPset (within_refl _) (.refl _ _)
  | pget => exact frame_execPget (within_refl _) (.refl _ _)
  | aluAdd => exact frame_execAluAdd (within_refl _) (.refl _ _)
  | aluSub => exact frame_execAluSub (within_refl _) (.refl _ _)
  | aluMul => exact frame_execAluMul (within_refl _) (.refl _ _)
  | aluMulh => exact frame_execAluMulh (within_refl _) (.refl _ _)
  | aluMulhu => exact frame_execAluMulhu (within_refl _) (.refl _ _)
  | aluDiv => exact frame_execAluDiv (within_refl _) (.refl _ _)
  | aluDivu => exact frame_execAluDivu (within_refl _) (.refl _ _)
  | aluRem => exact frame_execAluRem (within_refl _) (.refl _ _)
  | aluRemu => exact frame_execAluRemu (within_refl _) (.refl _ _)
  | aluAnd => exact frame_execAluAnd (within_refl _) (.refl _ _)
  | aluOr => exact frame_execAluOr (within_refl _) (.refl _ _)
  | aluXor => exact frame_execAluXor (within_refl _) (.refl _ _)
  | aluSll => exact frame_execAluSll (within_refl _) (.refl _ _)
  | aluSrl => exact frame_execAluSrl (within_refl _) (.refl _ _)
  | aluSra => exact frame_execAluSra (within_refl _) (.refl _ _)
  | aluSlt => exact frame_execAluSlt (within_refl _) (.refl _ _)
  | aluSltu => exact frame_execAluSltu (within_refl _) (.refl _ _)
  | aluMin => exact frame_execAluMin (within_refl _) (.refl _ _)
  | aluMax => exact frame_execAluMax (within_refl _) (.refl _ _)
  | aluMinu => exact frame_execAluMinu (within_refl _) (.refl _ _)
  | aluMaxu => exact frame_execAluMaxu (within_refl _) (.refl _ _)
  | addi => exact frame_execAddi (within_refl _) (.refl _ _)
  | andi => exact frame_execAndi (within_refl _) (.refl _ _)
  | ori => exact frame_execOri (within_refl _) (.refl _ _)
  | xori => exact frame_execXori (within_refl _) (.refl _ _)
  | shiSll => exact frame_execShiSll (within_refl _) (.refl _ _)
  | shiSrl => exact frame_execShiSrl (within_refl _) (.refl _ _)
  | shiSra => exact frame_execShiSra (within_refl _) (.refl _ _)
  | slti => exact frame_execSlti (within_refl _) (.refl _ _)
  | lui => exact frame_execLui (within_refl _) (.refl _ _)
  | beq => exact frame_execBeq (within_refl _) (.refl _ _)
  | bne => exact frame_execBne (within_refl _) (.refl _ _)
  | blt => exact frame_execBlt (within_refl _) (.refl _ _)
  | bge => exact frame_execBge (within_refl _) (.refl _ _)
  | bltu => exact frame_execBltu (within_refl _) (.refl _ _)
  | bgeu => exact frame_execBgeu (within_refl _) (.refl _ _)
  | jal => exact frame_execJal (within_refl _) (.refl _ _)
  | jalr => exact frame_execJalr (within_refl _) (.refl _ _)
  | pbr => exact frame_execPbr (within_refl _) (.refl _ _)
  | tld => exact frame_execTld (within_refl _) (.refl _ _)
  | tlds => exact frame_execTlds (within_refl _) (.refl _ _)
  | tst => exact frame_execTst (within_refl _) (.refl _ _)
  | vtld => exact frame_execVtld (within_refl _) (.refl _ _)
  | vtst => exact frame_execVtst (within_refl _) (.refl _ _)
  | tamo => exact frame_execTamo (within_refl _) (.refl _ _)
  | pld => exact frame_execPld (within_refl _) (.refl _ _)
  | plds => exact frame_execPlds (within_refl _) (.refl _ _)
  | pst => exact frame_execPst (within_refl _) (.refl _ _)
  | vpld => exact frame_execVpld (within_refl _) (.refl _ _)
  | vpst => exact frame_execVpst (within_refl _) (.refl _ _)
  | pamo => exact frame_execPamo (within_refl _) (.refl _ _)
  | lswap => exact frame_execLswap (within_refl _) (.refl _ _)
  | lcas => exact frame_execLcas (within_refl _) (.refl _ _)
  | vpld2 => exact frame_execVpld2 (within_refl _) (.refl _ _)
  | vpst2 => exact frame_execVpst2 (within_refl _) (.refl _ _)
  | varithAdd => exact frame_execVarithAdd (within_refl _) (.refl _ _)
  | varithSub => exact frame_execVarithSub (within_refl _) (.refl _ _)
  | varithMul => exact frame_execVarithMul (within_refl _) (.refl _ _)
  | varithMin => exact frame_execVarithMin (within_refl _) (.refl _ _)
  | varithMax => exact frame_execVarithMax (within_refl _) (.refl _ _)
  | varithAbs => exact frame_execVarithAbs (within_refl _) (.refl _ _)
  | varithNeg => exact frame_execVarithNeg (within_refl _) (.refl _ _)
  | varithAnd => exact frame_execVarithAnd (within_refl _) (.refl _ _)
  | varithOr => exact frame_execVarithOr (within_refl _) (.refl _ _)
  | varithXor => exact frame_execVarithXor (within_refl _) (.refl _ _)
  | varithShl => exact frame_execVarithShl (within_refl _) (.refl _ _)
  | varithShr => exact frame_execVarithShr (within_refl _) (.refl _ _)
  | varithSar => exact frame_execVarithSar (within_refl _) (.refl _ _)
  | varithDiv => exact frame_execVarithDiv (within_refl _) (.refl _ _)
  | varithSqrt => exact frame_execVarithSqrt (within_refl _) (.refl _ _)
  | fma => exact frame_execFma (within_refl _) (.refl _ _)
  | fms => exact frame_execFms (within_refl _) (.refl _ _)
  | fnma => exact frame_execFnma (within_refl _) (.refl _ _)
  | vcmpEq => exact frame_execVcmpEq (within_refl _) (.refl _ _)
  | vcmpNe => exact frame_execVcmpNe (within_refl _) (.refl _ _)
  | vcmpLt => exact frame_execVcmpLt (within_refl _) (.refl _ _)
  | vcmpLe => exact frame_execVcmpLe (within_refl _) (.refl _ _)
  | vcmpGt => exact frame_execVcmpGt (within_refl _) (.refl _ _)
  | vcmpGe => exact frame_execVcmpGe (within_refl _) (.refl _ _)
  | vcmpUnord => exact frame_execVcmpUnord (within_refl _) (.refl _ _)
  | vcmpLtu => exact frame_execVcmpLtu (within_refl _) (.refl _ _)
  | vcmpGeu => exact frame_execVcmpGeu (within_refl _) (.refl _ _)
  | vcvt => exact frame_execVcvt (within_refl _) (.refl _ _)
  | vmov => exact frame_execVmov (within_refl _) (.refl _ _)
  | vperm => exact frame_execVperm (within_refl _) (.refl _ _)
  | vsel => exact frame_execVsel (within_refl _) (.refl _ _)
  | vbcast => exact frame_execVbcast (within_refl _) (.refl _ _)
  | vext => exact frame_execVext (within_refl _) (.refl _ _)
  | vins => exact frame_execVins (within_refl _) (.refl _ _)
  | vredAdd => exact frame_execVredAdd (within_refl _) (.refl _ _)
  | vredMin => exact frame_execVredMin (within_refl _) (.refl _ _)
  | vredMax => exact frame_execVredMax (within_refl _) (.refl _ _)
  | vredMinu => exact frame_execVredMinu (within_refl _) (.refl _ _)
  | vredMaxu => exact frame_execVredMaxu (within_refl _) (.refl _ _)
  | vredAnd => exact frame_execVredAnd (within_refl _) (.refl _ _)
  | vredOr => exact frame_execVredOr (within_refl _) (.refl _ _)
  | vredXor => exact frame_execVredXor (within_refl _) (.refl _ _)
  | aadd => exact frame_execAadd (within_refl _) (.refl _ _)
  | adot => exact frame_execAdot (within_refl _) (.refl _ _)
  | aclr => exact frame_execAclr (within_refl _) (.refl _ _)
  | amov => exact frame_execAmov (within_refl _) (.refl _ _)
  | amerge => exact frame_execAmerge (within_refl _) (.refl _ _)
  | aout => exact frame_execAout (within_refl _) (.refl _ _)
  | asave => exact frame_execAsave (within_refl _) (.refl _ _)
  | aload => exact frame_execAload (within_refl _) (.refl _ _)
  | kernelLoad => exact frame_execKernelLoad (within_refl _) (.refl _ _)
  | kernelUnload => exact frame_execKernelUnload (within_refl _) (.refl _ _)
  | twHello => exact frame_execTwHello (within_refl _) (.refl _ _)
  | twKeepalive => exact frame_execTwKeepalive (within_refl _) (.refl _ _)
  | twRelease => exact frame_execTwRelease (within_refl _) (.refl _ _)
  | mrAck => exact frame_execMrAck (within_refl _) (.refl _ _)
  | mrLine => exact frame_execMrLine (within_refl _) (.refl _ _)
  | mrState => exact frame_execMrState (within_refl _) (.refl _ _)
  | rsLines => exact frame_execRsLines (within_refl _) (.refl _ _)
  | rpReq => exact frame_execRpReq (within_refl _) (.refl _ _)
  | rpData => exact frame_execRpData (within_refl _) (.refl _ _)
  | hbReq => exact frame_execHbReq (within_refl _) (.refl _ _)
  | lampFrame => exact frame_execLampFrame (within_refl _) (.refl _ _)
  | lampFault => exact frame_execLampFault (within_refl _) (.refl _ _)
  | keepaliveSend => exact frame_execKeepaliveSend (within_refl _) (.refl _ _)
  | standbyKeepaliveLoss => exact frame_execStandbyKeepaliveLoss (within_refl _) (.refl _ _)
  | ownerKeepaliveLoss => exact frame_execOwnerKeepaliveLoss (within_refl _) (.refl _ _)
  | takeoverStart => exact frame_execTakeoverStart (within_refl _) (.refl _ _)
  | takeoverClaimDeadline => exact frame_execTakeoverClaimDeadline (within_refl _) (.refl _ _)
  | announceTimer => exact frame_execAnnounceTimer (within_refl _) (.refl _ _)
  | enrolRetry => exact frame_execEnrolRetry (within_refl _) (.refl _ _)
  | hbReqTimer => exact frame_execHbReqTimer (within_refl _) (.refl _ _)
  | quiesceBarrier => exact frame_execQuiesceBarrier (within_refl _) (.refl _ _)
  | quiesceWaitExpiry => exact frame_execQuiesceWaitExpiry (within_refl _) (.refl _ _)
  | handbackDrainTimeout => exact frame_execHandbackDrainTimeout (within_refl _) (.refl _ _)
  | releaseLampEnd => exact frame_execReleaseLampEnd (within_refl _) (.refl _ _)
  | releasingTimeout => exact frame_execReleasingTimeout (within_refl _) (.refl _ _)
  | forceArmExpiry => exact frame_execForceArmExpiry (within_refl _) (.refl _ _)
  | resyncSend => exact frame_execResyncSend (within_refl _) (.refl _ _)
  | twinEnableWrite => exact frame_execTwinEnableWrite (within_refl _) (.refl _ _)
  | twinForce => exact frame_execTwinForce (within_refl _) (.refl _ _)
  | twinForceCancel => exact frame_execTwinForceCancel (within_refl _) (.refl _ _)
  | twinHandover => exact frame_execTwinHandover (within_refl _) (.refl _ _)
  | twinQuiesce => exact frame_execTwinQuiesce (within_refl _) (.refl _ _)
  | refillTick => exact frame_execRefillTick (within_refl _) (.refl _ _)
  | holdLimitExpiry => exact frame_execHoldLimitExpiry (within_refl _) (.refl _ _)
  | queueSample => exact frame_execQueueSample (within_refl _) (.refl _ _)
  | histogramClear => exact frame_execHistogramClear (within_refl _) (.refl _ _)
  | powerSample => exact frame_execPowerSample (within_refl _) (.refl _ _)
  | governorTick => exact frame_execGovernorTick (within_refl _) (.refl _ _)
  | freqStep => exact frame_execFreqStep (within_refl _) (.refl _ _)
  | napAllowance => exact frame_execNapAllowance (within_refl _) (.refl _ _)
  | idleTimerExpiry => exact frame_execIdleTimerExpiry (within_refl _) (.refl _ _)
  | calendarWake => exact frame_execCalendarWake (within_refl _) (.refl _ _)
  | powerEntryDone => exact frame_execPowerEntryDone (within_refl _) (.refl _ _)
  | wakeRequest => exact frame_execWakeRequest (within_refl _) (.refl _ _)
  | wakeComplete => exact frame_execWakeComplete (within_refl _) (.refl _ _)
  | jobOpen => exact frame_execJobOpen (within_refl _) (.refl _ _)
  | jobClose => exact frame_execJobClose (within_refl _) (.refl _ _)
  | quietHint => exact frame_execQuietHint (within_refl _) (.refl _ _)
  | jobStepTimer => exact frame_execJobStepTimer (within_refl _) (.refl _ _)
  | getVersion => exact frame_execGetVersion (within_refl _) (.refl _ _)
  | getCapabilities => exact frame_execGetCapabilities (within_refl _) (.refl _ _)
  | negotiateAlgorithms => exact frame_execNegotiateAlgorithms (within_refl _) (.refl _ _)
  | getDigests => exact frame_execGetDigests (within_refl _) (.refl _ _)
  | getCertificate => exact frame_execGetCertificate (within_refl _) (.refl _ _)
  | challenge => exact frame_execChallenge (within_refl _) (.refl _ _)
  | getMeasurements => exact frame_execGetMeasurements (within_refl _) (.refl _ _)
  | keyExchange => exact frame_execKeyExchange (within_refl _) (.refl _ _)
  | finish => exact frame_execFinish (within_refl _) (.refl _ _)
  | spdmHeartbeat => exact frame_execSpdmHeartbeat (within_refl _) (.refl _ _)
  | keyUpdate => exact frame_execKeyUpdate (within_refl _) (.refl _ _)
  | endSession => exact frame_execEndSession (within_refl _) (.refl _ _)
  | spdmHeartbeatTimeout => exact frame_execSpdmHeartbeatTimeout (within_refl _) (.refl _ _)
  | tenantCreate => exact frame_execTenantCreate (within_refl _) (.refl _ _)
  | tenantRetire => exact frame_execTenantRetire (within_refl _) (.refl _ _)
  | tenantSeal => exact frame_execTenantSeal (within_refl _) (.refl _ _)
  | memKeySet => exact frame_execMemKeySet (within_refl _) (.refl _ _)
  | memKeyDestroy => exact frame_execMemKeyDestroy (within_refl _) (.refl _ _)
  | jobKeySet => exact frame_execJobKeySet (within_refl _) (.refl _ _)
  | jobBind => exact frame_execJobBind (within_refl _) (.refl _ _)
  | jobKeyDestroy => exact frame_execJobKeyDestroy (within_refl _) (.refl _ _)
  | kernelSignKeySet => exact frame_execKernelSignKeySet (within_refl _) (.refl _ _)
  | jobKeySwitch => exact frame_execJobKeySwitch (within_refl _) (.refl _ _)
  | jobKeyRetireOld => exact frame_execJobKeyRetireOld (within_refl _) (.refl _ _)
  | debugChallenge => exact frame_execDebugChallenge (within_refl _) (.refl _ _)
  | debugToken => exact frame_execDebugToken (within_refl _) (.refl _ _)
  | debugWithdraw => exact frame_execDebugWithdraw (within_refl _) (.refl _ _)
  | debugKeySet => exact frame_execDebugKeySet (within_refl _) (.refl _ _)
  | debugTokenExpiry => exact frame_execDebugTokenExpiry (within_refl _) (.refl _ _)
  | bringupStepDone => exact frame_execBringupStepDone (within_refl _) (.refl _ _)
  | bringupStepTimeout => exact frame_execBringupStepTimeout (within_refl _) (.refl _ _)
  | reheatStepDone => exact frame_execReheatStepDone (within_refl _) (.refl _ _)
  | resetCore => exact frame_execResetCore (within_refl _) (.refl _ _)
  | resetCluster => exact frame_execResetCluster (within_refl _) (.refl _ _)
  | resetPartition => exact frame_execResetPartition (within_refl _) (.refl _ _)
  | resetPackage => exact frame_execResetPackage (within_refl _) (.refl _ _)
  | partialResetDone => exact frame_execPartialResetDone (within_refl _) (.refl _ _)
  | coreResetEscalate => exact frame_execCoreResetEscalate (within_refl _) (.refl _ _)
  | clusterResetTimeout => exact frame_execClusterResetTimeout (within_refl _) (.refl _ _)
  | retireUnit => exact frame_execRetireUnit (within_refl _) (.refl _ _)
  | spareBringinDone => exact frame_execSpareBringinDone (within_refl _) (.refl _ _)
  | serviceModeWrite => exact frame_execServiceModeWrite (within_refl _) (.refl _ _)
  | serviceOut => exact frame_execServiceOut (within_refl _) (.refl _ _)
  | serviceRecal => exact frame_execServiceRecal (within_refl _) (.refl _ _)
  | serviceReplace => exact frame_execServiceReplace (within_refl _) (.refl _ _)
  | serviceIn => exact frame_execServiceIn (within_refl _) (.refl _ _)
  | fwBegin => exact frame_execFwBegin (within_refl _) (.refl _ _)
  | fwEraseDone => exact frame_execFwEraseDone (within_refl _) (.refl _ _)
  | fwBlock => exact frame_execFwBlock (within_refl _) (.refl _ _)
  | fwVerify => exact frame_execFwVerify (within_refl _) (.refl _ _)
  | fwVerifyDone => exact frame_execFwVerifyDone (within_refl _) (.refl _ _)
  | fwActivate => exact frame_execFwActivate (within_refl _) (.refl _ _)
  | fwSelfcheckDone => exact frame_execFwSelfcheckDone (within_refl _) (.refl _ _)
  | fwPauseEnd => exact frame_execFwPauseEnd (within_refl _) (.refl _ _)
  | fwCopyDone => exact frame_execFwCopyDone (within_refl _) (.refl _ _)
  | fwAbort => exact frame_execFwAbort (within_refl _) (.refl _ _)
  | fwRaiseSvn => exact frame_execFwRaiseSvn (within_refl _) (.refl _ _)
  | bakerWatchdog => exact frame_execBakerWatchdog (within_refl _) (.refl _ _)
  | mgmtReheatDone => exact frame_execMgmtReheatDone (within_refl _) (.refl _ _)
  | handshakeTimeout => exact frame_execHandshakeTimeout (within_refl _) (.refl _ _)
  | die1TimeSync => exact frame_execDie1TimeSync (within_refl _) (.refl _ _)
  | holdoverEntry => exact frame_execHoldoverEntry (within_refl _) (.refl _ _)
  | timeRootWrite => exact frame_execTimeRootWrite (within_refl _) (.refl _ _)
  | timeSet => exact frame_execTimeSet (within_refl _) (.refl _ _)
  | counterSnapshot => exact frame_execCounterSnapshot (within_refl _) (.refl _ _)
  | snapshotAtT => exact frame_execSnapshotAtT (within_refl _) (.refl _ _)
  | crumbRead => exact frame_execCrumbRead (within_refl _) (.refl _ _)
  | crumbRelease => exact frame_execCrumbRelease (within_refl _) (.refl _ _)
  | crumbRingUnfreeze => exact frame_execCrumbRingUnfreeze (within_refl _) (.refl _ _)
  | tensorRegister => exact frame_execTensorRegister (within_refl _) (.refl _ _)
  | dumpArm => exact frame_execDumpArm (within_refl _) (.refl _ _)
  | dumpCancel => exact frame_execDumpCancel (within_refl _) (.refl _ _)
  | dumpCut => exact frame_execDumpCut (within_refl _) (.refl _ _)
  | dumpStreamSend => exact frame_execDumpStreamSend (within_refl _) (.refl _ _)
  | debugStop => exact frame_execDebugStop (within_refl _) (.refl _ _)
  | debugFreeze => exact frame_execDebugFreeze (within_refl _) (.refl _ _)
  | debugResume => exact frame_execDebugResume (within_refl _) (.refl _ _)
  | debugThaw => exact frame_execDebugThaw (within_refl _) (.refl _ _)
  | kodpFragment => exact frame_execKodpFragment (within_refl _) (.refl _ _)
  | reassemblyTimeout => exact frame_execReassemblyTimeout (within_refl _) (.refl _ _)
  | objectWrite => exact frame_execObjectWrite (within_refl _) (.refl _ _)
  | tablePut => exact frame_execTablePut (within_refl _) (.refl _ _)
  | tableDelete => exact frame_execTableDelete (within_refl _) (.refl _ _)
  | subscribe => exact frame_execSubscribe (within_refl _) (.refl _ _)
  | unsubscribe => exact frame_execUnsubscribe (within_refl _) (.refl _ _)
  | ping => exact frame_execPing (within_refl _) (.refl _ _)
  | secured => exact frame_execSecured (within_refl _) (.refl _ _)
  | kodpOperationTimeout => exact frame_execKodpOperationTimeout (within_refl _) (.refl _ _)
  | commandDone => exact frame_execCommandDone (within_refl _) (.refl _ _)
  | clientLeaseExpiry => exact frame_execClientLeaseExpiry (within_refl _) (.refl _ _)
  | replyCacheExpiry => exact frame_execReplyCacheExpiry (within_refl _) (.refl _ _)
  | mgmtFrame => exact frame_execMgmtFrame (within_refl _) (.refl _ _)
  | poresetRelease => exact frame_execPoresetRelease (within_refl _) (.refl _ _)
  | malformedPacket => exact frame_execMalformedPacket (within_refl _) (.refl _ _)
  | recipeReservedCode => exact frame_execRecipeReservedCode (within_refl _) (.refl _ _)
  | mgmtLinkChange => exact frame_execMgmtLinkChange (within_refl _) (.refl _ _)
  | mgmtReheatWindowExpiry => exact frame_execMgmtReheatWindowExpiry (within_refl _) (.refl _ _)
  | ballastRampDownDone => exact frame_execBallastRampDownDone (within_refl _) (.refl _ _)
  | mrAckReportTimer => exact frame_execMrAckReportTimer (within_refl _) (.refl _ _)
  | lampInputDark => exact frame_execLampInputDark (within_refl _) (.refl _ _)
  | releaseCodeExpiry => exact frame_execReleaseCodeExpiry (within_refl _) (.refl _ _)

/-- Settles O57: a command answers a state (`exec_next`), and its meaning's frame is over the parts it touches (`exec_frame`). -/
theorem commandFrames : Obligations.CommandFrames := by
  unfold Obligations.CommandFrames
  intro c s
  obtain ⟨t, ht⟩ := exec_next c s
  exact ⟨t, ht, exec_frame c s t ht⟩

end Sys2Proof.Machine
end

section
/-!
PROOF. Pool memory read after a write, and canonical form as a normal form: memories that read the same are the same (R318).
-/
namespace Sys2Proof.Machine

theorem cellGet_cellsPut {m : List Host.Cell} (hm : Memory.wf m = true) (x : Nat) (bs : List Byte) (y : Nat) :
    cellGet (cellsPut m x bs) y = if x ≤ y ∧ y < x + bs.length then bs.getD (y - x) 0 else cellGet m y := by
  induction bs generalizing m x with
  | nil => rw [cellsPut, if_neg (by rintro ⟨h1, h2⟩; rw [List.length_nil] at h2; omega)]
  | cons b bs ih =>
    rw [cellsPut, ih (cellSet_wf hm), cellGet_cellSet hm, List.length_cons]
    obtain hlt | rfl | hgt := Nat.lt_trichotomy y x
    · rw [if_neg (by omega), if_neg (by omega), if_neg (by omega)]
    · rw [if_neg (by omega), if_pos rfl, if_pos (by omega), Nat.sub_self, List.getD_cons_zero]
    · rw [if_neg (by omega : ¬ y = x), show y - x = y - (x + 1) + 1 by omega, List.getD_cons_succ]
      exact if_congr (by omega) rfl rfl

theorem readByte_putBytes {s : State} (h : s.MemWf) (pa : Nat) (bs : List Byte) (a : Nat) :
    (putBytes pa bs s).readByte a = if pa ≤ a ∧ a < pa + bs.length then bs.getD (a - pa) 0 else s.readByte a :=
  cellGet_cellsPut h pa bs a

theorem readByte_putBytes_outside {s : State} (h : s.MemWf) {pa : Nat} {bs : List Byte} {a : Nat} (ha : a < pa ∨ pa + bs.length ≤ a) :
    (putBytes pa bs s).readByte a = s.readByte a := by
  rw [readByte_putBytes h, if_neg (by omega)]

theorem readBytes_putBytes {s : State} (h : s.MemWf) (pa : Nat) (bs : List Byte) : (putBytes pa bs s).readBytes pa bs.length = bs := by
  refine List.ext_getElem (by simp [State.readBytes, cellsRead]) fun i hi hi' => ?_
  have hread := readByte_putBytes h pa bs (pa + i)
  rw [if_pos (by omega), Nat.add_sub_cancel_left, List.getD_eq_getElem _ _ hi'] at hread
  simpa [State.readBytes, cellsRead, State.readByte] using hread

theorem readBytes_congr {s t : State} {pa n : Nat} (h : ∀ i, i < n → t.readByte (pa + i) = s.readByte (pa + i)) : t.readBytes pa n = s.readBytes pa n :=
  List.map_congr_left fun i hi => h i (List.mem_range.1 hi)

theorem putBytes_memWf {s : State} (h : s.MemWf) (pa : Nat) (bs : List Byte) : (putBytes pa bs s).MemWf := cellsPut_wf h

/-- The canonical form is a normal form: what cells read as determines them. -/
theorem cells_eq_of_cellGet {m n : List Host.Cell} {lo lo' : Option Nat} (hm : cellsFrom lo m = true) (hn : cellsFrom lo' n = true)
    (h : ∀ a, cellGet m a = cellGet n a) : m = n := by
  induction m generalizing n lo lo' with
  | nil =>
    cases n with
    | nil => rfl
    | cons e n =>
      obtain ⟨c, d⟩ := e
      simp only [cellsFrom, Bool.and_eq_true, decide_eq_true_eq] at hn
      have hc := h c
      rw [cellGet, cellGet, if_pos rfl] at hc
      exact absurd hc.symm hn.1.2
  | cons e m ih =>
    obtain ⟨a, b⟩ := e
    simp only [cellsFrom, Bool.and_eq_true, decide_eq_true_eq] at hm
    obtain ⟨⟨-, hb⟩, hm⟩ := hm
    have ha := h a
    rw [cellGet, if_pos rfl] at ha
    cases n with
    | nil => exact absurd ha hb
    | cons e n =>
      obtain ⟨c, d⟩ := e
      simp only [cellsFrom, Bool.and_eq_true, decide_eq_true_eq] at hn
      obtain ⟨⟨-, hd⟩, hn⟩ := hn
      have hc := h c
      rw [cellGet] at ha
      rw [cellGet, cellGet, if_pos rfl] at hc
      obtain hlt | rfl | hgt := Nat.lt_trichotomy a c
      · rw [if_neg hlt.ne', if_pos hlt] at ha
        exact absurd ha hb
      · rw [if_pos rfl] at ha
        subst ha
        rw [ih hm hn fun y => ?_]
        by_cases hy : y ≤ a
        · rw [cellGet_of_le hm hy, cellGet_of_le hn hy]
        · have hrest := h y
          rwa [cellGet, cellGet, if_neg (by omega), if_neg (by omega), if_neg (by omega), if_neg (by omega)] at hrest
      · rw [if_neg hgt.ne', if_pos hgt] at hc
        exact absurd hc.symm hd

/-- Settles O58: what memory reads as after a write (`readByte_putBytes`), and the canonical form as a normal form (`cells_eq_of_cellGet`). -/
theorem memoryReadsBack : Obligations.MemoryReadsBack := by
  unfold Obligations.MemoryReadsBack
  intro s hs
  refine ⟨fun pa bs => ⟨putBytes_memWf hs pa bs, readBytes_putBytes hs pa bs, fun a ha => readByte_putBytes_outside hs ha⟩,
    fun l bs hl => ⟨?_, fun k hk => readBytes_congr fun i hi => readByte_putBytes_outside hs (by omega)⟩,
    fun t ht h => cells_eq_of_cellGet ht hs h⟩
  rw [State.readLine, ← hl]
  exact readBytes_putBytes hs _ bs

end Sys2Proof.Machine
end

section
/-!
PROOF. Frames part by part: a part that a frame does not list is as it was, with the parts that are cut into several put together again.
-/
namespace Sys2Proof.Machine

variable {P : List Part} {s t : State}

theorem Frame.pkg_eq (h : Frame P s t) (hp : P.contains .pkg = false) : t.pkg = s.pkg := h.rest .pkg hp
theorem Frame.link_eq (h : Frame P s t) (hp : P.contains .link = false) : t.link = s.link := h.rest .link hp
theorem Frame.part_eq (h : Frame P s t) (hp : P.contains .part = false) : t.part = s.part := h.rest .part hp
theorem Frame.dir_eq (h : Frame P s t) (hp : P.contains .dir = false) : t.dir = s.dir := h.rest .dir hp
theorem Frame.mem_eq (h : Frame P s t) (hp : P.contains .mem = false) : t.mem = s.mem := h.rest .mem hp
theorem Frame.dram_eq (h : Frame P s t) (hp : P.contains .dram = false) : t.dram = s.dram := h.rest .dram hp
theorem Frame.deep_eq (h : Frame P s t) (hp : P.contains .deep = false) : t.deep = s.deep := h.rest .deep hp
theorem Frame.integ_eq (h : Frame P s t) (hp : P.contains .integ = false) : t.integ = s.integ := h.rest .integ hp
theorem Frame.recp_eq (h : Frame P s t) (hp : P.contains .recp = false) : t.recp = s.recp := h.rest .recp hp
theorem Frame.core_eq (h : Frame P s t) (hp : P.contains .core = false) : t.core = s.core := h.rest .core hp
theorem Frame.power_eq (h : Frame P s t) (hp : P.contains .power = false) : t.power = s.power := h.rest .power hp
theorem Frame.fw_eq (h : Frame P s t) (hp : P.contains .fw = false) : t.fw = s.fw := h.rest .fw hp
theorem Frame.ctrs_eq (h : Frame P s t) (hp : P.contains .ctrs = false) : t.ctrs = s.ctrs := h.rest .ctrs hp
theorem Frame.out_eq (h : Frame P s t) (hp : P.contains .out = false) : t.out = s.out := h.rest .out hp
theorem Frame.free_eq (h : Frame P s t) (hp : P.contains .free = false) : t.free = s.free := h.rest .free hp
theorem Frame.leaves_eq (h : Frame P s t) (hp : P.contains .leaves = false) : t.traffic.leaves = s.traffic.leaves := h.rest .leaves hp
theorem Frame.sessions_eq (h : Frame P s t) (hp : P.contains .sessions = false) : t.sec.sessions = s.sec.sessions := h.rest .sessions hp
theorem Frame.units_eq (h : Frame P s t) (hp : P.contains .units = false) : t.boot.units = s.boot.units := h.rest .units hp
theorem Frame.partials_eq (h : Frame P s t) (hp : P.contains .partials = false) : t.boot.partials = s.boot.partials := h.rest .partials hp
theorem Frame.running_eq (h : Frame P s t) (hp : P.contains .running = false) : t.kodp.running = s.kodp.running := h.rest .running hp

theorem Frame.txn_rest (h : Frame P s t) (hp : P.contains .txn = false) : t.txn.rest = s.txn.rest := h.rest .txn hp
theorem Frame.twin_rest (h : Frame P s t) (hp : P.contains .twin = false) : t.twin.rest = s.twin.rest := h.rest .twin hp
theorem Frame.traffic_rest (h : Frame P s t) (hp : P.contains .traffic = false) : t.traffic.rest = s.traffic.rest := h.rest .traffic hp
theorem Frame.sec_rest (h : Frame P s t) (hp : P.contains .sec = false) : t.sec.rest = s.sec.rest := h.rest .sec hp
theorem Frame.boot_rest (h : Frame P s t) (hp : P.contains .boot = false) : t.boot.rest = s.boot.rest := h.rest .boot hp
theorem Frame.obs_rest (h : Frame P s t) (hp : P.contains .obs = false) : t.obs.rest = s.obs.rest := h.rest .obs hp
theorem Frame.kodp_rest (h : Frame P s t) (hp : P.contains .kodp = false) : t.kodp.rest = s.kodp.rest := h.rest .kodp hp

theorem Frame.time_eq (h : Frame P s t) (hp : P.contains .time = false) : t.obs.time0 = s.obs.time0 ∧ t.obs.time1 = s.obs.time1 :=
  Prod.mk.inj (h.rest .time hp)

theorem Frame.rings_eq (h : Frame P s t) (hp : P.contains .rings = false) :
    t.obs.rings = s.obs.rings ∧ t.obs.waiting = s.obs.waiting ∧ t.obs.expiredAt = s.obs.expiredAt := by
  have hrings := h.rest .rings hp
  simpa only [Part.same, Prod.mk.injEq] using hrings

theorem Frame.ledger_eq (h : Frame P s t) (hp : P.contains .ledger = false) :
    t.txn.ledger = s.txn.ledger ∧ t.txn.pins = s.txn.pins ∧ t.txn.nextTag = s.txn.nextTag := by
  have hledger := h.rest .ledger hp
  simpa only [Part.same, Prod.mk.injEq] using hledger

theorem Frame.mirror_eq (h : Frame P s t) (hp : P.contains .mirror = false) : t.twin.mseq0 = s.twin.mseq0 ∧ t.twin.mseq1 = s.twin.mseq1
    ∧ t.twin.unacked = s.twin.unacked ∧ t.twin.divergence = s.twin.divergence ∧ t.twin.written = s.twin.written := by
  have hmirror := h.rest .mirror hp
  simpa only [Part.same, Prod.mk.injEq] using hmirror

theorem Frame.dict_eq (h : Frame P s t) (hp : P.contains .dict = false) : t.kodp.objs = s.kodp.objs ∧ t.kodp.tables = s.kodp.tables
    ∧ t.kodp.tableGen = s.kodp.tableGen ∧ t.kodp.tableSeen = s.kodp.tableSeen ∧ t.kodp.settingsA = s.kodp.settingsA
    ∧ t.kodp.settingsB = s.kodp.settingsB := by
  have hdict := h.rest .dict hp
  simpa only [Part.same, Prod.mk.injEq] using hdict

/-! ### Parts put together -/

theorem Frame.txn_eq (h : Frame P s t) (h1 : P.contains .txn = false) (h2 : P.contains .ledger = false) : t.txn = s.txn := by
  have hrest := h.txn_rest h1
  obtain ⟨hledger, hpins, htag⟩ := h.ledger_eq h2
  generalize t.txn = x at *
  generalize s.txn = y at *
  cases x; cases y
  simp_all [TxnState.rest]

theorem Frame.twin_eq (h : Frame P s t) (h1 : P.contains .twin = false) (h2 : P.contains .mirror = false) : t.twin = s.twin := by
  have hrest := h.twin_rest h1
  obtain ⟨h0, h1, hun, hdiv, hwr⟩ := h.mirror_eq h2
  generalize t.twin = x at *
  generalize s.twin = y at *
  cases x; cases y
  simp_all [TwinState.rest]

theorem Frame.traffic_eq (h : Frame P s t) (h1 : P.contains .traffic = false) (h2 : P.contains .leaves = false) : t.traffic = s.traffic := by
  have hrest := h.traffic_rest h1
  have hleaves := h.leaves_eq h2
  generalize t.traffic = x at *
  generalize s.traffic = y at *
  cases x; cases y
  simp_all [TrafficState.rest]

theorem Frame.sec_eq (h : Frame P s t) (h1 : P.contains .sec = false) (h2 : P.contains .sessions = false) : t.sec = s.sec := by
  have hrest := h.sec_rest h1
  have hsessions := h.sessions_eq h2
  generalize t.sec = x at *
  generalize s.sec = y at *
  cases x; cases y
  simp_all [SecurityState.rest]

theorem Frame.boot_eq (h : Frame P s t) (h1 : P.contains .boot = false) (h2 : P.contains .units = false) (h3 : P.contains .partials = false) :
    t.boot = s.boot := by
  have hrest := h.boot_rest h1
  have hunits := h.units_eq h2
  have hpartials := h.partials_eq h3
  generalize t.boot = x at *
  generalize s.boot = y at *
  cases x; cases y
  simp_all [BootState.rest]

theorem Frame.obs_eq (h : Frame P s t) (h1 : P.contains .obs = false) (h2 : P.contains .time = false) (h3 : P.contains .rings = false) :
    t.obs = s.obs := by
  have hrest := h.obs_rest h1
  obtain ⟨h0, h1⟩ := h.time_eq h2
  obtain ⟨hrings, hwaiting, hexpired⟩ := h.rings_eq h3
  generalize t.obs = x at *
  generalize s.obs = y at *
  cases x; cases y
  simp_all [ObserveState.rest]

theorem Frame.kodp_eq (h : Frame P s t) (h1 : P.contains .kodp = false) (h2 : P.contains .running = false) (h3 : P.contains .dict = false) :
    t.kodp = s.kodp := by
  have hrest := h.kodp_rest h1
  have hrunning := h.running_eq h2
  obtain ⟨hobjs, htables, hgen, hseen, ha, hb⟩ := h.dict_eq h3
  generalize t.kodp = x at *
  generalize s.kodp = y at *
  cases x; cases y
  simp_all [KodpState.rest]

/-! ### What is read through a part -/

theorem Frame.obj_eq (h : Frame P s t) (hp : P.contains .dict = false) (o : Obj) : t.obj o = s.obj o := by
  obtain ⟨hobjs, -⟩ := h.dict_eq hp
  rw [State.obj, State.obj, hobjs]

theorem Frame.ctr_eq (h : Frame P s t) (hp : P.contains .ctrs = false) (c : Ctr) (u : Nat) : t.ctr c u = s.ctr c u := by
  rw [State.ctr, State.ctr, h.ctrs_eq hp]

theorem Frame.now_eq (h : Frame P s t) (hp : P.contains .time = false) : t.now = s.now := by
  rw [State.now, State.now, (h.time_eq hp).1]

theorem Frame.unit_eq (h : Frame P s t) (hp : P.contains .units = false) (k : UnitKind) (u : Nat) : t.unit k u = s.unit k u := by
  rw [State.unit, State.unit, h.units_eq hp]

theorem Frame.readByte_eq (h : Frame P s t) (hp : P.contains .mem = false) (a : Nat) : t.readByte a = s.readByte a := by
  rw [State.readByte, State.readByte, h.mem_eq hp]

end Sys2Proof.Machine
end

section
/-!
PROOF. What messages leave of the KODP part: a message that is sent changes the KSL read queue and nothing else of it, a notification its own
queues and numbers, a reply also the operations that run, the reply cache and Baker's queue (R651, R666, R669 to R671, R676 to R679).
-/
namespace Sys2Proof.Machine

/-- The KODP part without what a message that is sent may change. -/
def KodpState.unsent (k : KodpState) : KodpState := { k with kslTx := [] }

/-- The KODP part without what a notification may change. -/
def KodpState.unnoted (k : KodpState) : KodpState := { k with kslTx := [], notifySent := [], log := [], subs := [], nextSeq := 0 }

/-- The KODP part without what an answer may change. -/
def KodpState.unanswered (k : KodpState) : KodpState :=
  { k.unnoted with running := [], cache := [], queue := [], peerNext := 0, peerWait := [] }

theorem unanswered_of_unsent {k l : KodpState} (h : k.unsent = l.unsent) : k.unanswered = l.unanswered :=
  congrArg (fun k : KodpState => { k.unnoted with running := [], cache := [], queue := [], peerNext := 0, peerWait := [] }) h

@[simp] theorem kslPush_unsent (b : Bool) (m : KMsg) (s : State) : (kslPush b m s).kodp.unsent = s.kodp.unsent := by
  simp only [kslPush]
  repeat' split
  all_goals rfl

@[simp] theorem secureMsg_kodp (c : Client) (m : KMsg) (s : State) : (secureMsg c m s).1.kodp = s.kodp := by
  unfold secureMsg
  split <;> rfl

@[simp] theorem sendMsg_unsent (c : Client) (tag : Nat) (b : Bool) (m : KMsg) (s : State) : (sendMsg c tag b m s).kodp.unsent = s.kodp.unsent := by
  unfold sendMsg
  split
  rename_i t w e
  have ht : t.kodp = s.kodp := by rw [← secureMsg_kodp c m s, e]
  extract_lets own tag1 t1
  have ht1 : t1.kodp = s.kodp := by
    refine Eq.trans (Frame.kodp_eq (P := [.ledger]) ?_ rfl rfl rfl) ht
    exact frame_onlyIf (fun u hu => frame_tookTag (by decide) hu) (Frame.refl _ _)
  clear_value own tag1 t1
  split
  · exact congrArg _ ht1
  · exact (kslPush_unsent b w t1).trans (congrArg _ ht1)
  · refine congrArg KodpState.unsent (Eq.trans (Frame.kodp_eq (P := [.leaves, .ledger, .out]) (s := t1) ?_ rfl rfl rfl) ht1)
    refine frame_emit (by decide) (frame_forAll ?_ (Frame.refl _ _))
    intro p u hu
    exact frame_ite (frame_sendTw (by decide) hu) (frame_sendPacket (by decide) hu)

theorem queue_of_unsent {k l : KodpState} (h : k.unsent = l.unsent) : k.queue = l.queue :=
  (congrArg KodpState.queue h : k.unsent.queue = l.unsent.queue)

theorem unnoted_of_unsent {k l : KodpState} (h : k.unsent = l.unsent) : k.unnoted = l.unnoted :=
  congrArg (fun x : KodpState => { x with notifySent := [], log := [], subs := [], nextSeq := 0 }) h

@[simp] theorem sendNotify_unnoted (c : Client) (recs : List NotifyRec) (s : State) : (sendNotify c recs s).kodp.unnoted = s.kodp.unnoted := by
  unfold sendNotify
  extract_lets n
  exact (unnoted_of_unsent (sendMsg_unsent ..)).trans rfl

/-! The new values of the log and of the subscriptions stay variables: the bounds of 4,096 and 256 in them must not be evaluated. -/

theorem onKodp_log_unnoted (f : KodpState → List (NotifyRec × Option Client)) (s : State) :
    (s.onKodp (fun k => { k with log := f k })).kodp.unnoted = s.kodp.unnoted := rfl

theorem onKodp_subs_unnoted (f : KodpState → List Sub) (s : State) :
    (s.onKodp (fun k => { k with subs := f k })).kodp.unnoted = s.kodp.unnoted := rfl

@[simp] theorem deliver_unnoted (n : NotifyRec) (only : Option Client) (s : State) : (deliver n only s).kodp.unnoted = s.kodp.unnoted := by
  unfold deliver
  extract_lets t
  have ht : t.kodp.unnoted = s.kodp.unnoted := onKodp_log_unnoted _ s
  clear_value t
  split
  · rw [sendNotify_unnoted, ht]
  · exact (onKodp_subs_unnoted _ t).trans ht

/-- An equation that each step of a loop keeps holds of the loop. -/
theorem forAll_keeps {α β : Type} {f : α → State → State} {g : State → β} (h : ∀ a s, g (f a s) = g s) (l : List α) (s : State) :
    g (forAll l f s) = g s := by
  unfold forAll
  induction l generalizing s with
  | nil => rfl
  | cons a l ih => exact (ih (f a s)).trans (h a s)

@[simp] theorem drainSubs_unnoted (s : State) : (drainSubs s).kodp.unnoted = s.kodp.unnoted := by
  unfold drainSubs
  extract_lets clear
  refine (forAll_keeps (g := fun t => t.kodp.unnoted) (fun b t => ?_) _ _).trans rfl
  extract_lets lost recs
  exact forAll_keeps (g := fun t => t.kodp.unnoted) (fun i u => sendNotify_unnoted ..) _ _

@[simp] theorem notifyTo_unnoted (only : Option Client) (code : Nat) (payload : List Byte) (s : State) :
    (notifyTo only code payload s).kodp.unnoted = s.kodp.unnoted := by
  unfold notifyTo
  extract_lets r t
  split
  · split <;> rfl
  · exact (drainSubs_unnoted _).trans (deliver_unnoted ..)

@[simp] theorem notify_unnoted (code : Nat) (payload : List Byte) (s : State) : (notify code payload s).kodp.unnoted = s.kodp.unnoted :=
  notifyTo_unnoted ..

theorem queue_of_unnoted {k l : KodpState} (h : k.unnoted = l.unnoted) : k.queue = l.queue :=
  (congrArg KodpState.queue h : k.unnoted.queue = l.unnoted.queue)

/-- A reply is sent, and its request leaves Baker's queue (R666, R670). -/
theorem sendReply_queue (r : Req) (crc : Nat) (m : KMsg) (s : State) :
    (sendReply r crc m s).kodp.queue = s.kodp.queue.filter (fun e => !(e.1.client == r.client && e.1.id == r.id)) := by
  unfold sendReply
  extract_lets u w
  have hu : u.kodp = s.kodp := by
    unfold u
    split
    · exact Frame.kodp_eq (P := [.ledger, .mirror, .leaves, .ctrs]) (frame_onlyIf (fun t ht => frame_ledgerWrite (by decide) ht) (Frame.refl _ _)) rfl rfl rfl
    · rfl
  refine (queue_of_unsent (sendMsg_unsent ..)).trans ?_
  show u.kodp.queue.filter _ = _
  rw [hu]

@[simp] theorem sendReply_unanswered (r : Req) (crc : Nat) (m : KMsg) (s : State) : (sendReply r crc m s).kodp.unanswered = s.kodp.unanswered := by
  unfold sendReply
  extract_lets u w
  have hu : u.kodp = s.kodp := by
    unfold u
    split
    · exact Frame.kodp_eq (P := [.ledger, .mirror, .leaves, .ctrs]) (frame_onlyIf (fun t ht => frame_ledgerWrite (by decide) ht) (Frame.refl _ _)) rfl rfl rfl
    · rfl
  rw [unanswered_of_unsent (sendMsg_unsent ..), ← hu]
  simp only [bump, bumpBy, unqueue, w, State.onCtrs_kodp, State.onKodp_kodp, KodpState.unanswered, KodpState.unnoted]

@[simp] theorem mirrorOp_queue (o : OpObj) (arg : List Byte) (s : State) : (mirrorOp o arg s).kodp.queue = s.kodp.queue := by
  unfold mirrorOp
  exact (queue_of_unsent (sendMsg_unsent ..)).trans rfl

@[simp] theorem mirrorOp_unanswered (o : OpObj) (arg : List Byte) (s : State) : (mirrorOp o arg s).kodp.unanswered = s.kodp.unanswered := by
  unfold mirrorOp
  exact (unanswered_of_unsent (sendMsg_unsent ..)).trans rfl

theorem unanswered_of_unnoted {k l : KodpState} (h : k.unnoted = l.unnoted) : k.unanswered = l.unanswered :=
  congrArg (fun k : KodpState => { k with running := [], cache := [], queue := [], peerNext := 0, peerWait := [] }) h

@[simp] theorem reply_unanswered (o : OpObj) (r : Req) (st : Status) (body : List Byte) (s : State) :
    (reply o r st body s).kodp.unanswered = s.kodp.unanswered := by
  unfold reply
  extract_lets mine t m n
  split
  · rfl
  rename_i x _
  extract_lets copied u
  have hu : u.kodp.unanswered = s.kodp.unanswered := by
    unfold u onlyIf
    split
    · exact mirrorOp_unanswered ..
    · rfl
  clear_value t copied u
  split
  · exact (unanswered_of_unnoted (notifyTo_unnoted ..)).trans hu
  · split
    · exact hu
    · exact (sendReply_unanswered ..).trans hu

/-- A reply puts nothing into Baker's queue. -/
theorem reply_queue_subset (o : OpObj) (r : Req) (st : Status) (body : List Byte) (s : State) :
    (reply o r st body s).kodp.queue ⊆ s.kodp.queue := by
  unfold reply
  extract_lets mine t m n
  split
  · exact List.Subset.refl _
  rename_i x _
  extract_lets copied u
  have hu : u.kodp.queue = s.kodp.queue := by
    unfold u onlyIf
    split
    · exact mirrorOp_queue ..
    · rfl
  clear_value t copied u
  rw [← hu]
  split
  · exact fun e he => queue_of_unnoted (notifyTo_unnoted ..) ▸ he
  · split
    · exact List.Subset.refl _
    · rw [sendReply_queue]
      exact List.filter_subset_self _

theorem unqueue_queue_subset (r : Req) (s : State) : (unqueue r s).kodp.queue ⊆ s.kodp.queue := List.filter_subset_self _

end Sys2Proof.Machine
end

section
/-!
PROOF. The tick of the clock on an empty queue (R64, R618, R619, R638), and the state right after reset (R64, R625, R650).
-/
namespace Sys2Proof.Machine

/-! ### One island's tick -/

theorem clampInt_bounds {b : Int} (hb : 0 ≤ b) (v : Int) : -b ≤ clampInt v b ∧ clampInt v b ≤ b := by
  unfold clampInt
  omega

/-- Within its bound a value is left as it is; outside it the bound of its own side is taken. -/
theorem clampInt_spec {b : Int} (hb : 0 ≤ b) (v : Int) : clampInt v b = v ∨ (b < v ∧ clampInt v b = b) ∨ (v < -b ∧ clampInt v b = -b) := by
  unfold clampInt
  omega

/-- The rate correction of a tick, in counts: 256,000 times the rate in parts per billion, rounded toward zero (R618). -/
def TimeIsland.rate (t : TimeIsland) : Int := if t.st = .root then 0 else Int.tdiv (256000 * t.rateAdj) 1000000000

/-- What a tick takes off the offset that is left to slew (R619). -/
def TimeIsland.slewed (t : TimeIsland) : Int :=
  clampInt (clampInt (t.rate + Int.tdiv t.slew (max 1 t.slewTicks)) 51 - t.rate) t.slew.natAbs

theorem TimeIsland.tick_eq (t : TimeIsland) : t.tick =
    { t with counter := (t.counter + (256000 + t.rate + t.slewed)).toNat, slew := t.slew - t.slewed, slewTicks := t.slewTicks - 1 } := rfl

theorem TimeIsland.rate_bounds {t : TimeIsland} (hlo : -200000 ≤ t.rateAdj) (hhi : t.rateAdj ≤ 200000) : -51 ≤ t.rate ∧ t.rate ≤ 51 := by
  unfold rate
  split
  · decide
  · obtain hn | hp := Int.lt_or_le t.rateAdj 0
    · have hneg : Int.tdiv (256000 * t.rateAdj) 1000000000 = -((256000 * -t.rateAdj) / 1000000000) := by
        rw [show 256000 * t.rateAdj = -(256000 * -t.rateAdj) by omega, Int.neg_tdiv, Int.tdiv_eq_ediv_of_nonneg (by omega)]
      omega
    · rw [Int.tdiv_eq_ediv_of_nonneg (by omega)]
      omega

/-- The share of a tick lies between 0 and the offset. -/
theorem tdiv_share_sign (slew : Int) (n : Nat) :
    (0 ≤ slew → 0 ≤ Int.tdiv slew (max 1 n)) ∧ (slew ≤ 0 → Int.tdiv slew (max 1 n) ≤ 0) :=
  ⟨fun h => Int.tdiv_nonneg h (by omega), fun h => by
    have hopp := Int.tdiv_nonneg (a := -slew) (b := max 1 n) (by omega) (by omega)
    rw [Int.neg_tdiv] at hopp
    omega⟩

/-- The clamps keep rate and slewing within 51 counts together (200 ppm of 256,000), and the slewing on the side of the offset and no more
than it. -/
theorem TimeIsland.slewed_bounds {t : TimeIsland} (hlo : -51 ≤ t.rate) (hhi : t.rate ≤ 51) :
    -51 ≤ t.rate + t.slewed ∧ t.rate + t.slewed ≤ 51 ∧ (t.slew - t.slewed).natAbs ≤ t.slew.natAbs := by
  obtain ⟨hpos, hneg⟩ := tdiv_share_sign t.slew t.slewTicks
  unfold slewed
  generalize Int.tdiv t.slew (max 1 t.slewTicks) = share at *
  unfold clampInt
  omega

theorem TimeIsland.slewed_of_slew_zero {t : TimeIsland} (h : t.slew = 0) : t.slewed = 0 := by
  unfold slewed
  rw [h]
  have hbounds := clampInt_bounds (Int.le_refl 0)
  exact Int.le_antisymm (hbounds _).2 (hbounds _).1

theorem TimeIsland.rate_of_free {t : TimeIsland} (h : t.st = .root ∨ t.rateAdj = 0) : t.rate = 0 := by
  unfold rate
  obtain h | h := h
  · rw [if_pos h]
  · rw [h]
    split <;> rfl

/-! ### The tick of both islands -/

theorem island_onlyIf_bumpBy (b : Bool) (c : Ctr) (u n : Nat) (s : State) (d : Nat) : (onlyIf b (bumpBy c u n) s).island d = s.island d := by
  unfold onlyIf
  split <;> rfl

theorem tick_of_timeRuns {s : State} (h : s.timeRuns = true) : tick s =
    let t := setIsland 1 TimeIsland.tick (setIsland 0 TimeIsland.tick s)
    let u := onlyIf ((t.island 0).st == .holdover) (bumpBy .holdoverNs 0 1000) t
    onlyIf ((u.island 1).st == .holdover) (bumpBy .holdoverNs 1 1000) u := by
  rw [tick, if_pos h]
  rfl

theorem island_tick {s : State} (h : s.timeRuns = true) {d : Nat} (hd : d ≤ 1) : (tick s).island d = (s.island d).tick := by
  rw [tick_of_timeRuns h]
  simp only [island_onlyIf_bumpBy]
  obtain rfl | rfl : d = 0 ∨ d = 1 := by omega
  · rfl
  · rfl

theorem ctr_bumpBy (c : Ctr) (u n : Nat) (s : State) (c' : Ctr) (u' : Nat) :
    (bumpBy c u n s).ctr c' u' = if (c', u') = (c, u) then ctrAdd c (s.ctr c u) n else s.ctr c' u' := by
  unfold State.ctr bumpBy
  rw [State.onCtrs_ctrs]
  split
  · rename_i h
    rw [h, agetD_aset_same]
  · rename_i h
    exact agetD_aset_ne _ _ _ h

theorem ctr_bumpBy_same (c : Ctr) (u n : Nat) (s : State) : (bumpBy c u n s).ctr c u = ctrAdd c (s.ctr c u) n := by
  rw [ctr_bumpBy, if_pos rfl]

theorem ctr_onlyIf_bumpBy_ne (b : Bool) {c c' : Ctr} {u u' : Nat} (n : Nat) {s : State} (h : (c', u') ≠ (c, u)) :
    (onlyIf b (bumpBy c u n) s).ctr c' u' = s.ctr c' u' := by
  unfold onlyIf
  split
  · rw [ctr_bumpBy, if_neg h]
  · rfl

theorem ctr_tick_holdover {s : State} (h : s.timeRuns = true) {d : Nat} (hd : d ≤ 1) (hst : (s.island d).st = .holdover) :
    Counts .holdoverNs d 1000 s (tick s) := by
  rw [Counts, tick_of_timeRuns h]
  have hisland : ∀ e, e ≤ 1 → ((setIsland 1 TimeIsland.tick (setIsland 0 TimeIsland.tick s)).island e).st = (s.island e).st := by
    intro e he
    obtain rfl | rfl : e = 0 ∨ e = 1 := by omega
    · rfl
    · rfl
  simp only [island_onlyIf_bumpBy, hisland 0 (by omega), hisland 1 (by omega)]
  obtain rfl | rfl : d = 0 ∨ d = 1 := by omega
  · rw [ctr_onlyIf_bumpBy_ne _ _ (by decide), hst]
    exact ctr_bumpBy_same ..
  · rw [hst, onlyIf, beq_self_eq_true, if_pos rfl, ctr_bumpBy_same, ctr_onlyIf_bumpBy_ne _ _ (by decide)]
    rfl

theorem tick_of_not_timeRuns {s : State} (h : s.timeRuns = false) : tick s = s := by
  rw [tick, h]
  rfl

theorem strikes_of_not_timeRuns {s : State} (h : s.timeRuns = false) : strikes s = s := by
  rw [strikes, h, Bool.not_false, Bool.or_true]
  rfl

theorem strikes_of_frozen {s : State} (h : s.frozen = true) : strikes s = s := by
  rw [strikes, h, Bool.true_or]
  rfl

theorem strikes_of_runs {s : State} (h : s.timeRuns = true) (hf : s.frozen = false) :
    strikes s = settleWaits (forAll (Config.upsets s.free) strike (useFree s)) := by
  rw [strikes, h, hf]
  rfl

/-! ### Baker's queue -/

theorem startQueued_of_empty {s : State} (n : Nat) (h : s.kodp.queue = []) : startQueued n s = s := by
  cases n with
  | zero => rfl
  | succ n => rw [startQueued, h]

theorem refuse_queue_subset (o : OpObj) (r : Req) (crc : Nat) (st : Status) (body : List Byte) (s : State) :
    (refuse o r crc st body s).kodp.queue ⊆ s.kodp.queue := by
  rw [refuse, sendReply_queue]
  exact List.filter_subset_self _

theorem queue_subset_ite {q : List (Req × KMsg)} {c : Prop} [Decidable c] {a b : State} (ha : a.kodp.queue ⊆ q) (hb : b.kodp.queue ⊆ q) :
    (if c then a else b).kodp.queue ⊆ q := by
  split <;> assumption

/-- An operation that is no INVOKE puts nothing into Baker's queue, if its run does not (R668). -/
theorem operate_queue_subset {o : OpObj} {r : Req} {arg : List Byte} {n : Nat} {v : Verdict} {run : State → State} {s : State} (htype : o.type ≠ 3)
    (hrun : ∀ t, (run t).kodp.queue ⊆ t.kodp.queue) : (operate o r arg n v run s).kodp.queue ⊆ s.kodp.queue := by
  have hno : (o.type == 3) = false := beq_eq_false_iff_ne.2 htype
  unfold operate
  extract_lets first tr roles peerOk req crc status t w
  have ht : t.kodp.queue = s.kodp.queue := heard_queue r s
  have hw : w.kodp.queue ⊆ t.kodp.queue := unqueue_queue_subset r _
  clear_value w
  clear_value first tr roles peerOk req crc status t
  rw [← ht, hno, Bool.false_and]
  have hunqueue : (unqueue r t).kodp.queue ⊆ t.kodp.queue := unqueue_queue_subset r t
  have hsend : ∀ m, (sendMsg r.client r.tag true m (unqueue r t)).kodp.queue ⊆ t.kodp.queue := fun m e he =>
    hunqueue (queue_of_unsent (sendMsg_unsent ..) ▸ he)
  have hrefuse : ∀ st body, (refuse o r crc st body t).kodp.queue ⊆ t.kodp.queue := fun st body => refuse_queue_subset ..
  refine queue_subset_ite (ht ▸ List.Subset.refl _) (queue_subset_ite (hsend _) ?_)
  split
  · exact hsend _
  refine queue_subset_ite hunqueue (queue_subset_ite (hrefuse ..) (queue_subset_ite (hrefuse ..) (queue_subset_ite (hrefuse ..)
    (queue_subset_ite (hrefuse ..) (queue_subset_ite (hrefuse ..) ?_)))))
  split
  · exact queue_subset_ite (hrefuse ..) (hrefuse ..)
  · exact List.Subset.trans (hrun _) hw

theorem pingReq_queue_subset (r : Req) (s : State) : (pingReq r s).kodp.queue ⊆ s.kodp.queue := by
  unfold pingReq
  extract_lets o
  have ho : o.type ≠ 3 := by decide
  clear_value o
  exact operate_queue_subset ho fun _ => reply_queue_subset ..

/-- A PING that waits alone is started, and nothing waits then. -/
theorem startQueued_of_ping {s : State} {r : Req} {m : KMsg} (n : Nat) (hup : s.bakerUp = true) (hcold : s.obs.reheat.contains 0 = false)
    (hq : s.kodp.queue = [(r, m)]) (htype : m.type = 10) (hbody : m.body = []) : startQueued (n + 1) s = unqueue r (pingReq r s) := by
  have hempty : (unqueue r (pingReq r s)).kodp.queue = [] := by
    refine List.filter_eq_nil_iff.2 fun e he => ?_
    have he := pingReq_queue_subset r s he
    rw [hq, List.mem_singleton] at he
    simp [he]
  have hstart : startReq r m s = pingReq r s := by simp [startReq, htype, hbody]
  rw [startQueued, hq]
  simp only [hup, hcold, htype, hstart, startQueued_of_empty n hempty]
  rfl

/-- Settles O54: `step_of_empty`, what `strikes` and `startQueued` do in each case, and the bounds of an island's tick (`slewed_bounds`). -/
theorem emptyQueueTicks : Obligations.EmptyQueueTicks := by
  unfold Obligations.EmptyQueueTicks
  refine ⟨fun s hs => ⟨step_of_empty hs, fun hq h => ?_, fun hq h hf => ?_, fun hq h hf => ?_, fun hup hcold r m hq htype hbody => ?_⟩, fun s h => ?_,
    fun s h => ⟨tick_of_not_timeRuns h, strikes_of_not_timeRuns h⟩⟩
  · rw [step_of_empty hs, startQueued_of_empty _ hq, strikes_of_not_timeRuns h, tick_of_not_timeRuns h]
  · rw [step_of_empty hs, startQueued_of_empty _ hq, strikes_of_frozen hf]
  · rw [step_of_empty hs, startQueued_of_empty _ hq, strikes_of_runs h hf]
  · rw [step_of_empty hs, startQueued_of_ping _ hup hcold hq htype hbody]
  · refine ⟨frame_tick rfl (Frame.refl _ s), fun d hd => ?_⟩
    rw [island_tick h hd, TimeIsland.tick_eq]
    refine ⟨fun hlo hhi => ?_, fun hslew hfree => ?_, rfl, rfl, ctr_tick_holdover h hd⟩
    · obtain ⟨hrlo, hrhi⟩ := TimeIsland.rate_bounds hlo hhi
      obtain ⟨hslo, hshi, habs⟩ := TimeIsland.slewed_bounds hrlo hrhi
      exact ⟨by simp only; omega, by simp only; omega, habs⟩
    · simp only [TimeIsland.slewed_of_slew_zero hslew, TimeIsland.rate_of_free hfree]
      omega

/-- Settles O55: each part of the reset state is what its `reset` says; an absent counter or object reads as its reset value. -/
theorem resetHolds : Obligations.ResetHolds := by
  unfold Obligations.ResetHolds
  refine ⟨rfl, rfl, rfl, rfl, rfl, rfl, rfl, rfl, rfl, rfl, rfl, rfl, rfl, rfl, rfl, fun c u => rfl, fun o => rfl, fun p => rfl, fun k => ⟨rfl, rfl⟩⟩

end Sys2Proof.Machine
end

section
/-!
PROOF. The resets of the package (R65, R585).
-/
namespace Sys2Proof.Machine

/-- A package in its run phase, WARMRESET_N qualified, whose memory has been initialised and of whose retention registers one failed its check. -/
def retentionLost : State :=
  { State.reset with
    pkg := { State.reset.pkg with poresetLow := false, phase := .run, warmQual := true }
    boot := { State.reset.boot with memDone := true, retentionBad := true } }

/-- A warm reset with a bad retention register takes the cold path and reports it (R585, log 82): LAST_RESET is 4 though memory had been initialised. -/
theorem warmresetStart_retentionLost : ∀ t, exec .warmresetStart retentionLost = .next t → t.boot.lastReset = 4 := by
  intro t h
  cases h
  rfl

/-- Refutes O1: the clause of WARMRESET_START makes LAST_RESET 2 wherever memory has been initialised, but with a retention register that fails its
check the reset is a cold start and LAST_RESET is 4 (`retentionLost`). -/
theorem not_packageResets : ¬ Obligations.PackageResets := by
  unfold Obligations.PackageResets
  intro h
  obtain ⟨-, -, -, -, -, hwarm, -⟩ := h retentionLost
  obtain ⟨t, ht, -, -, hlast, -⟩ := hwarm rfl rfl
  rw [warmresetStart_retentionLost t ht] at hlast
  exact absurd hlast (by decide)

/-- The same package, Ready, asked by the board controller for a reset. -/
def retentionLostReady : State := { retentionLost with boot := { retentionLost.boot with step := 6 } }

/-- The board controller's request. -/
def boardRequest : Req := { client := kslClient, id := 7, tag := 0 }

theorem resetPackage_retentionLost : ∀ t, exec (.resetPackage boardRequest) retentionLostReady = .next t → t.boot.lastReset = 4 := by
  intro t h
  cases h
  decide +kernel

/-- Refutes O4: the clause of RESET_PACKAGE makes LAST_RESET 3 wherever memory has been initialised, but with a retention register that fails its
check the reset is a cold start and LAST_RESET is 4 (`retentionLostReady`). -/
theorem not_partialResets : ¬ Obligations.PartialResets := by
  unfold Obligations.PartialResets
  intro h
  obtain ⟨-, -, -, hreset, -⟩ := h retentionLostReady boardRequest
  obtain ⟨t, ht, -, -, hlast, -⟩ := hreset (by decide +kernel)
  rw [resetPackage_retentionLost t ht] at hlast
  exact absurd hlast (by decide)

end Sys2Proof.Machine
end

section
/-!
PROOF. The sensors, load steps, hold-up input and laser inputs (R61, R62, R79, R85, R86, R89, R90).
-/
namespace Sys2Proof.Machine

/-! ### Ports move one at a time -/

theorem port_setPort_same (p : Nat) (f : Port → Port) (s : State) : (setPort p f s).port p = f (s.port p) := agetD_aset_same ..

theorem port_setPort_ne {p q : Nat} (f : Port → Port) (s : State) (h : q ≠ p) : (setPort p f s).port q = s.port q := agetD_aset_ne _ _ _ h

theorem port_portTo_same (p : Nat) (st : PortSt) (f : Port → Port) (s : State) : ((portTo p st f s).port p).st = st := by
  rw [portTo, port_setPort_same]

theorem port_portTo_ne {p q : Nat} (st : PortSt) (f : Port → Port) (s : State) (h : q ≠ p) : (portTo p st f s).port q = s.port q :=
  port_setPort_ne _ s h

/-- Ports moved one after another to a state are in it. -/
theorem port_forAll_portTo {l : List Nat} {p : Nat} {st : PortSt} {f : Port → Port} {s : State} (h : p ∈ l ∨ (s.port p).st = st) :
    ((forAll l (fun p s => portTo p st f s) s).port p).st = st := by
  unfold forAll
  induction l generalizing s with
  | nil => exact h.resolve_left List.not_mem_nil
  | cons q l ih =>
    refine ih ?_
    by_cases hq : p = q
    · exact .inr (hq ▸ port_portTo_same ..)
    · rw [port_portTo_ne _ _ _ hq]
      exact h.imp_left fun hp => (List.mem_cons.1 hp).resolve_left hq

theorem portPresent_lt {p : Nat} (h : portPresent p = true) : p < 40 := by
  have h1 : Config.fabricPorts ≤ 32 := by decide
  have h2 : Config.twinPorts ≤ 4 := by decide
  simp only [portPresent, Bool.or_eq_true, decide_eq_true_eq] at h
  omega

/-! ### Load steps -/

theorem nextStep_of_none {s : State} (h : s.pkg.stepHeld = []) : nextStep s = s := by
  unfold nextStep
  split
  · rfl
  · rw [h]

/-- The oldest held step is announced where nothing keeps it back (R61, R62). -/
theorem nextStep_of_held {s : State} {x : LoadStep} {rest : List LoadStep} (hheld : s.pkg.stepHeld = x :: rest) (htp4 : s.pkg.tp4 = false)
    (hstuck : s.pkg.ackStuck = false) (hstep : s.pkg.step = none) (hwarm : s.pkg.warmQual = false) :
    nextStep s = bump .pwAnnounced x.die (s.onPkg (fun p => { p with tp4 := true, step := some x, stepHeld := rest })) := by
  unfold nextStep
  rw [htp4, hstuck, hstep, hwarm, hheld]
  rfl

/-! ### Sensors -/

theorem SensorKind.warn_le_crit (k : SensorKind) : k.warn ≤ k.crit := by cases k <;> decide

/-- A first reading: below Warning it leaves a sensor Normal, from Warning on it makes it 1 (R89). -/
theorem level_take_cool (k : SensorKind) (milli : Int) : (Sensor.cool.take k milli).level = if milli ≥ k.warn then 1 else 0 := by
  have habove : ¬ (if milli ≥ k.crit then Sensor.cool.above + 1 else 0) ≥ 100 := by
    simp only [Sensor.cool]
    split <;> omega
  simp only [Sensor.take, if_neg habove]
  rfl

theorem belowWarn_take_cool {k : SensorKind} {milli : Int} (h : milli ≥ k.warn) : (Sensor.cool.take k milli).belowWarn = 0 := by
  have hnot : ¬ milli ≤ k.warn - 5000 := by omega
  simp only [Sensor.take, if_neg hnot]

/-! ### A stop by heat -/

theorem stopPackage_of_running {s : State} (cause : StopCause) (aux : Bool) (hlow : s.pkg.poresetLow = false) (hstop : s.pkg.stopped = none) :
    (stopPackage cause aux s).pkg = { s.pkg with
        stopped := some cause, fault := s.pkg.fault || (s.pkg.phase == Phase.run || s.pkg.phase == Phase.debug), tp4 := false, step := none, stepHeld := []
        kslReleased := true, warmQual := false }
      ∧ (stopPackage cause aux s).mem = MemState.reset := by
  unfold stopPackage
  rw [hlow, hstop]
  refine ⟨?_, rfl⟩
  have hframe : Frame [.link, .txn, .ledger, .mirror, .traffic, .leaves, .twin, .out, .sec] s (zeroiseKeys (disableAll (onlyIf (!aux) releaseFrames s))) :=
    frame_zeroiseKeys (by decide) (frame_disableAll (by decide)
      (frame_onlyIf (fun t ht => frame_releaseFrames (by decide) ht) (Frame.refl _ s)))
  exact congrArg (fun p : PackageState => { p with
    stopped := some cause, fault := p.fault || (s.pkg.phase == Phase.run || s.pkg.phase == Phase.debug), tp4 := false, step := none, stepHeld := []
    kslReleased := true, warmQual := false }) (hframe.pkg_eq rfl)

/-- Settles O2: each input by its command, what follows it (notifications, ports that go down) by the frame that leaves the pins. -/
theorem packageInputs : Obligations.PackageInputs := by
  unfold Obligations.PackageInputs
  intro s
  refine ⟨?sample, ?trip, ?ackHigh, ?ackLow, ?ackHeld, ?ackEarly, ?start, ?missing, ?stuck, ?holdup, ?low, ?dark, ?restored, ?warning, ?tripReset⟩
  case sample =>
    intro kind i milli hlow hstop hi hsensors
    have hgo : ¬ (s.pkg.poresetLow = true ∨ s.pkg.stopped.isSome = true) := by simp [hlow, hstop]
    refine ⟨_, rfl, ?_⟩
    rw [if_neg hgo]
    simp only [hsensors, List.filter_cons, hi, decide_true, if_true, List.filter_nil, List.foldl_cons, List.foldl_nil, aset, aget, Option.getD_none,
      List.map_cons, List.map_nil, State.onDram_pkg]
    refine ⟨_, congrArg PackageState.sensors (Frame.pkg_eq (P := [.ledger, .leaves, .sessions, .rings, .kodp, .ctrs, .out]) (frame_forAll
      (fun a t ht => frame_notify (by decide) ht) (Frame.refl _ _)) rfl), rfl, rfl, ?_⟩
    have hlevel := level_take_cool kind milli
    have hnot2 : ¬ (Sensor.cool.take kind milli).level = 2 := by rw [hlevel]; split <;> omega
    by_cases hw : milli ≥ kind.warn
    · simp [belowWarn_take_cool hw, hlevel, hw]
    · simp [hlevel, hw]
  case trip =>
    intro kind i hi hlow hstop
    refine ⟨_, rfl, ?_⟩
    rw [if_neg (by omega)]
    simp only [State.onPkg_pkg, hlow, Bool.false_eq_true, if_false]
    obtain ⟨hpkg, hmem⟩ := stopPackage_of_running (s := s.onPkg (fun p => { p with thermTrip := true })) .thermTrip false hlow hstop
    rw [hpkg]
    exact ⟨rfl, rfl, hmem⟩
  case ackHigh =>
    intro hrun
    refine ⟨_, by rw [exec, execPowerStepAck, if_neg (by simp [hrun])]; rfl, ?_, fun htp4 => ?_⟩
    · unfold onlyIf
      split <;> rfl
    · rw [htp4]
      exact agetD_aset_same ..
  case ackLow =>
    intro hrun hheld
    refine ⟨_, by rw [exec, execPowerStepAck, if_neg (by simp [hrun])]; rfl, ?_⟩
    exact nextStep_of_none hheld
  case ackHeld =>
    intro x rest hrun hheld hstep htp4 hwarm
    refine ⟨_, by rw [exec, execPowerStepAck, if_neg (by simp [hrun])]; rfl, ?_, frame_nextStep rfl (frame_onPkg rfl (Frame.refl _ s))⟩
    have hnext := nextStep_of_held (s := s.onPkg (fun p => { p with tp5 := false, ackStuck := false })) hheld htp4 rfl hstep hwarm
    rw [hnext]
    rfl
  case ackEarly =>
    intro hrun hdebug level
    exact ⟨_, by rw [exec, execPowerStepAck, if_pos ⟨hrun, hdebug⟩]; rfl, rfl⟩
  case start =>
    intro htp4 htp5
    refine ⟨_, rfl, ?_⟩
    rw [htp4, htp5]
    rfl
  case missing =>
    intro htp4 htp5 hstep hheld
    have hstarted : (s.pkg.step.map LoadStep.started).getD false = false := by
      cases h : s.pkg.step with
      | none => rfl
      | some x => exact hstep x h
    refine ⟨_, rfl, ?_⟩
    rw [htp4, htp5, hstarted]
    have hover : stepOver (bump .stepAckMissing 0 s) = (bump .stepAckMissing 0 s).onPkg (fun p => { p with tp4 := false, step := none }) :=
      nextStep_of_none hheld
    simp only [Bool.not_false, Bool.and_self, if_true, hover]
    exact ⟨rfl, agetD_aset_same .., frame_onPkg rfl (frame_bump rfl (Frame.refl _ s))⟩
  case stuck =>
    intro htp4 htp5
    refine ⟨_, rfl, ?_⟩
    rw [htp4, htp5]
    exact ⟨rfl, agetD_aset_same .., frame_bump rfl (frame_onPkg rfl (Frame.refl _ s))⟩
  case holdup =>
    intro level hlow hphase hstop
    have hgo : ¬ (s.pkg.poresetLow = true ∨ s.pkg.phase = .strap ∨ s.pkg.stopped.isSome = true) := by simp [hlow, hphase, hstop]
    refine ⟨_, rfl, ?_⟩
    rw [if_neg hgo]
    refine ⟨rfl, ?_, frame_onPkg rfl (Frame.refl _ s)⟩
    simp only [State.onPkg_pkg]
    refine if_congr ?_ rfl rfl
    split <;> simp_all
  case low =>
    intro e he hdark hlow hstop
    refine ⟨_, rfl, ?_⟩
    rw [if_neg (by rw [hdark, hlow, hstop]; simpa using he)]
    have hframe {t : State} (n : Nat) (b : List Byte) : Frame [.ledger, .leaves, .sessions, .boot, .rings, .kodp, .ctrs, .out] t
        (exhaust 3 e (notify n b (bump .laserSwitchovers (e * 2 + (1 - s.feedingOf e)) t))) :=
      frame_exhaust (by decide) (frame_notify (by decide) (frame_bump (by decide) (Frame.refl _ t)))
    refine ⟨?_, (hframe ..).link_eq rfl⟩
    rw [State.feedingOf, (hframe ..).pkg_eq rfl]
    exact agetD_aset_same ..
  case dark =>
    intro e he hdark hlow hstop
    refine ⟨_, rfl, ?_⟩
    rw [if_neg (by rw [hdark, hlow, hstop]; simpa using he)]
    have hframe {l : List Nat} {t : State} : Frame [.link, .txn, .ledger, .deep, .mirror, .traffic, .leaves, .sessions, .rings, .kodp, .ctrs, .out] t
        (forAll l (fun p s => let st := (s.port p).st
          if st = .train then trainFails p 4 s else if st = .active ∨ st = .retrain ∨ st = .detect then portDown p 4 s else s) t) :=
      frame_forAll (fun p u hu => frame_ite (frame_trainFails (by decide) hu) (frame_ite (frame_portDown (by decide) hu) hu)) (Frame.refl _ t)
    exact ⟨by rw [hframe.pkg_eq rfl]; rfl, hframe.power_eq rfl, hframe.mem_eq rfl⟩
  case restored =>
    intro e i he hi hlow hstop
    refine ⟨_, rfl, ?_⟩
    rw [if_neg (by rw [hlow, hstop]; simp; omega)]
    have hframe {l : List Nat} {t : State} : Frame [.link] t (forAll l (fun p s => portTo p .detect (fun q => { q with holdOver := false }) s) t) :=
      frame_forAll (fun p u hu => frame_portTo (by decide) hu) (Frame.refl _ t)
    refine ⟨by rw [hframe.pkg_eq rfl]; rfl, fun hdark => ?_, fun p hp hengine hdown hover => port_forAll_portTo (.inl ?_), ?_⟩
    · rw [State.feedingOf, hframe.pkg_eq rfl]
      simp only [hdark]
      exact agetD_aset_same ..
    · refine List.mem_filter.2 ⟨List.mem_range.2 (portPresent_lt hp), ?_⟩
      rw [hp, hengine, beq_self_eq_true, Bool.true_and, Bool.true_and]
      exact Bool.and_eq_true_iff.2 ⟨beq_iff_eq.2 hdown, hover⟩
    · exact Frame.trans (frame_useFree rfl (frame_onPkg rfl (Frame.refl _ s))) (hframe.mono rfl)
  case warning =>
    intro e i he hi hlow hstop
    refine ⟨_, rfl, 1701 + Config.freeNat s.free % 299, by omega, by omega, ?_⟩
    rw [if_neg (by rw [hlow, hstop]; simp; omega)]
    have hframe {t : State} (c u n : Nat) (b : Nat → List Byte) : Frame [.ledger, .leaves, .sessions, .rings, .kodp, .ctrs, .out] t (notifyLimited c u n b t) :=
      frame_notifyLimited (by decide) (Frame.refl _ t)
    rw [(hframe ..).pkg_eq rfl]
    exact ⟨agetD_aset_same .., rfl⟩
  case tripReset =>
    intro kind i hi hlow
    have hgo : ¬ i ≥ kind.count := by omega
    refine ⟨_, rfl, ?_⟩
    rw [if_neg hgo]
    exact if_pos hlow

end Sys2Proof.Machine
end

section
/-!
PROOF. What an accepted KODP operation leaves when it is answered at once, and when it starts (R664 to R671).
-/
namespace Sys2Proof.Machine

/-- The parts an operation that begins may change. -/
def begunParts : List Part := [.kodp, .running, .ctrs]

/-- The parts a reply may change. -/
def replyParts : List Part := [.ledger, .mirror, .leaves, .sessions, .rings, .kodp, .running, .ctrs, .out]

theorem begun_frame (o : OpObj) (r : Req) (arg : List Byte) (n : Nat) (s : State) : Frame begunParts s (begun o r arg n s) :=
  frame_begun (by decide) (Frame.refl _ s)

theorem reply_frame (o : OpObj) (r : Req) (st : Status) (body : List Byte) (s : State) : Frame replyParts s (reply o r st body s) :=
  frame_reply (by decide) (Frame.refl _ s)

variable {c : Instr} {s : State} {o : OpObj} {r : Req} {n : Nat} {arg : List Byte} {v : Verdict} {run : State → State} {q : State → Prop}

/-- A command that is an operation, accepted and not refused by its verdict, and answers what its effect leaves. -/
theorem replies_of_operate {st : Status} {body : List Byte} {u : State}
    (hexec : exec c s = .next (operate o r arg n v run s)) (hbad : v.bad = false) (hfenced : v.fenced = false) (hstate : v.state = false)
    (hother : v.other = none) (hrun : run (begun o r arg n s) = reply o r st body u)
    (hkept : u.kodp.running = (begun o r arg n s).kodp.running) (hq : q (reply o r st body u)) : Replies c s o r n arg st body q := by
  intro hacc
  refine ⟨reply o r st body u, ?_, reply_answers (hkept.trans (begun_running ..)) (accepts_no_running hacc) rfl rfl rfl rfl, hq⟩
  rw [hexec, operate_accepted hacc hbad hfenced hstate hother, hrun]

/-- A command that is an operation, accepted and not refused by its verdict, and starts. -/
theorem starts_of_operate {u : State} (hexec : exec c s = .next (operate o r arg n v run s)) (hbad : v.bad = false) (hfenced : v.fenced = false)
    (hstate : v.state = false) (hother : v.other = none) (hrun : run (begun o r arg n s) = u) (hkept : runningOf o r arg n ∈ u.kodp.running)
    (hq : q u) : Starts c s o r n arg q := by
  intro hacc
  refine ⟨u, ?_, ⟨_, hkept, rfl, rfl, rfl, rfl⟩, hq⟩
  rw [hexec, operate_accepted hacc hbad hfenced hstate hother, hrun]

theorem runningOf_mem_begun (o : OpObj) (r : Req) (arg : List Byte) (n : Nat) (s : State) : runningOf o r arg n ∈ (begun o r arg n s).kodp.running := by
  rw [begun_running]
  exact List.mem_concat_self

/-- A reply ends the operations it answers and no other. -/
theorem reply_running (o : OpObj) (r : Req) (st : Status) (body : List Byte) (s : State) :
    (reply o r st body s).kodp.running = s.kodp.running.filter (fun x => !(x.req == r && x.index == o.index && x.sub == o.sub)) := by
  unfold reply
  extract_lets mine t m n
  split
  · rename_i h
    refine (List.filter_eq_self.mpr fun x hx => ?_).symm
    exact Bool.not_eq_true' _ ▸ Bool.eq_false_iff.mpr (List.find?_eq_none.mp h x hx)
  · rename_i x _
    extract_lets copied u
    have hu : u.kodp.running = t.kodp.running :=
      Frame.running_eq (P := [.kodp, .ledger, .leaves, .sessions, .ctrs, .out]) (frame_onlyIf (fun v hv => frame_mirrorOp (by decide) hv) (Frame.refl _ t)) rfl
    have ht : t.kodp.running = s.kodp.running.filter (fun x => !(x.req == r && x.index == o.index && x.sub == o.sub)) := rfl
    rw [← ht, ← hu]
    clear_value t copied u
    split
    · exact Frame.running_eq (P := [.ledger, .leaves, .sessions, .rings, .kodp, .ctrs, .out]) (frame_notifyTo (by decide) (Frame.refl _ u)) rfl
    · split
      · rfl
      · exact (sendReply_cache r x.crc m u).2

/-- An operation goes on running when another object's is answered. -/
theorem mem_running_reply {o : OpObj} {r : Req} {st : Status} {body : List Byte} {s : State} {x : Running} (h : x ∈ s.kodp.running)
    (hne : ¬(x.index = o.index ∧ x.sub = o.sub)) : x ∈ (reply o r st body s).kodp.running := by
  rw [reply_running]
  refine List.mem_filter.mpr ⟨h, ?_⟩
  simpa only [Bool.and_assoc, Bool.not_eq_true', Bool.and_eq_false_imp, beq_iff_eq, beq_eq_false_iff_ne, ne_eq] using fun _ h1 h2 => hne ⟨h1, h2⟩

end Sys2Proof.Machine
end

section
/-!
PROOF. The steps of bring-up, cold and from a reheat, and the handshakes that time out (R579 to R585, R592, R644 row 2).
-/
namespace Sys2Proof.Machine

/-! ### What the larder and the roles of cores leave of bring-up -/

/-- The bring-up part without what retiring cores and choosing roles may change. -/
def BootState.unlardered (b : BootState) : BootState := { b with units := [], bringIns := [], exhausted := [] }

theorem BootState.of_unlardered {a b : BootState} (h : a.unlardered = b.unlardered) :
    a.step = b.step ∧ a.fault = b.fault ∧ a.startedAt = b.startedAt ∧ a.partials = b.partials := by
  simp only [unlardered, BootState.mk.injEq] at h
  obtain ⟨hstep, -, -, -, hstarted, -, -, hfault, -, -, hpartials, -⟩ := h
  exact ⟨hstep, hfault, hstarted, hpartials⟩

/-- A frame that leaves bring-up and its partial resets leaves all but what the larder changes. -/
theorem Frame.unlardered_eq {P : List Part} {s t : State} (h : Frame P s t) (h1 : P.contains .boot = false) (h2 : P.contains .partials = false) :
    t.boot.unlardered = s.boot.unlardered := by
  have hrest := h.boot_rest h1
  have hpartials := h.partials_eq h2
  generalize t.boot = x at *
  generalize s.boot = y at *
  cases x; cases y
  simp_all [BootState.rest, BootState.unlardered]

theorem exhaust_unlardered (k u : Nat) (s : State) : (exhaust k u s).boot.unlardered = s.boot.unlardered := by
  unfold exhaust
  split
  · rfl
  · rw [Frame.boot_eq (P := [.ledger, .leaves, .sessions, .rings, .kodp, .ctrs, .out]) (frame_notify (by decide) (Frame.refl _ _)) rfl rfl rfl]
    rfl

theorem wakeSpares_unlardered (s : State) : (wakeSpares s).boot.unlardered = s.boot.unlardered := by
  unfold wakeSpares
  refine forAll_keeps (g := fun t => t.boot.unlardered) (fun b t => ?_) _ _
  split <;> rfl

theorem noSpareFor_unlardered (c : Nat) (req : Option Req) (s : State) : (noSpareFor c req s).boot.unlardered = s.boot.unlardered := by
  unfold noSpareFor
  extract_lets t u
  have ht : t.boot = s.boot := Frame.boot_eq (P := [.ledger, .leaves, .sessions, .rings, .kodp, .ctrs, .out])
    (frame_onlyIf (fun v hv => frame_notify (by decide) (frame_crumb (by decide) hv)) (Frame.refl _ _)) rfl rfl rfl
  have hu : u.boot.unlardered = s.boot.unlardered := (exhaust_unlardered ..).trans (congrArg _ ht)
  clear_value t u
  split
  · rw [Frame.boot_eq (P := [.ledger, .mirror, .leaves, .sessions, .rings, .kodp, .running, .ctrs, .out])
      (frame_reply (by decide) (frame_reply (by decide) (Frame.refl _ u))) rfl rfl rfl, hu]
  · exact hu

theorem bringSpare_unlardered (c : Nat) (req : Option Req) (s : State) : (bringSpare c req s).boot.unlardered = s.boot.unlardered := by
  unfold bringSpare
  extract_lets k
  split
  · extract_lets t
    have ht : t.boot.unlardered = s.boot.unlardered := wakeSpares_unlardered _
    clear_value t
    split
    · exact (exhaust_unlardered ..).trans ht
    · exact ht
  · split <;> exact noSpareFor_unlardered ..

theorem retireCore_unlardered (c : Nat) (st : Status) (req : Option Req) (s : State) : (retireCore c st req s).boot.unlardered = s.boot.unlardered := by
  unfold retireCore
  extract_lets t u
  refine (bringSpare_unlardered ..).trans ?_
  have hu : Frame [.units, .recp, .core, .ctrs, .dir, .dram, .deep, .rings] s (clearCore c (advanceEpoch .core c u)) :=
    frame_clearCore (by decide) (frame_advanceEpoch (by decide) (frame_vacateCore (by decide) (frame_setUnit (by decide) (Frame.refl _ s))))
  exact hu.unlardered_eq rfl rfl

theorem setUnit_unlardered (k : UnitKind) (u : Nat) (f : UnitRec → UnitRec) (s : State) : (setUnit k u f s).boot.unlardered = s.boot.unlardered := rfl

theorem chooseRoles_unlardered (s : State) : (chooseRoles s).boot.unlardered = s.boot.unlardered := by
  unfold chooseRoles
  refine forAll_keeps (g := fun t => t.boot.unlardered) (fun k t => ?_) _ _
  extract_lets good u
  have hu : u.boot.unlardered = t.boot.unlardered := forAll_keeps (g := fun t => t.boot.unlardered) (fun x t => setUnit_unlardered ..) _ _
  clear_value u
  split
  · exact (exhaust_unlardered ..).trans hu
  · exact hu

/-! ### Retired cores stay retired -/

theorem unit_setUnit (k : UnitKind) (u : Nat) (f : UnitRec → UnitRec) (s : State) (k' : UnitKind) (u' : Nat) :
    (setUnit k u f s).unit k' u' = if (k', u') = (k, u) then f (s.unit k u) else s.unit k' u' := by
  unfold State.unit setUnit
  rw [State.onBoot_boot]
  split
  · rename_i h
    obtain ⟨rfl, rfl⟩ := Prod.mk.inj h
    exact agetD_aset_same ..
  · rename_i h
    simp only [aget_aset_ne _ _ h]

theorem unit_retiredRole_advanceEpoch (k : UnitKind) (u : Nat) (s : State) (k' : UnitKind) (u' : Nat) :
    ((advanceEpoch k u s).unit k' u').retiredRole = (s.unit k' u').retiredRole := by
  unfold advanceEpoch
  extract_lets t w
  have hw : Frame [.dir, .dram, .deep, .ctrs] t w := frame_onlyIf (fun v hv => frame_refuseOld (by decide) hv) (Frame.refl _ t)
  rw [Frame.unit_eq (P := [.rings]) (frame_crumb (by decide) (Frame.refl _ w)) rfl, hw.unit_eq rfl, unit_setUnit]
  split
  · rename_i h
    obtain ⟨rfl, rfl⟩ := Prod.mk.inj h
    rfl
  · rfl

/-- Retiring a core gives it the retired role, and takes that role from none. -/
theorem unit_retiredRole_retireCore (c : Nat) (st : Status) (req : Option Req) (s : State) (d : Nat) (h : d = c ∨ (s.unit .core d).retiredRole = true) :
    ((retireCore c st req s).unit .core d).retiredRole = true := by
  unfold retireCore
  extract_lets t u
  rw [Frame.unit_eq (P := [.ledger, .mirror, .leaves, .power, .sessions, .boot, .rings, .kodp, .running, .ctrs, .out]) (frame_bringSpare (by decide) (Frame.refl _ _)) rfl,
    Frame.unit_eq (P := [.core]) (frame_clearCore (by decide) (Frame.refl _ _)) rfl, unit_retiredRole_advanceEpoch,
    Frame.unit_eq (P := [.recp, .core, .ctrs]) (frame_vacateCore (by decide) (Frame.refl _ t)) rfl, unit_setUnit]
  split
  · rfl
  · rename_i hne
    exact h.resolve_left fun hd => hne (by rw [hd])

/-! ### Ports that light leave the cache of the deep tier -/

theorem detectPort_deepUnits (p : Nat) (s : State) : (detectPort p s).deep.units = s.deep.units := by
  unfold detectPort
  split
  · rfl
  split
  · rfl
  · unfold portDown
    extract_lets q n t1 t2 t3 t4 t5
    have h5 : Frame [.link, .txn, .ledger, .mirror, .traffic, .leaves, .sessions, .rings, .kodp, .ctrs, .out] s t5 :=
      frame_onlyIf (fun v hv => frame_notify (by decide) hv) (frame_notify (by decide) (frame_onlyIf (fun v hv => frame_leftActive (by decide) hv)
        (frame_bumpBy (by decide) (frame_portTo (by decide) (Frame.refl _ s)))))
    split
    · rw [Frame.deep_eq (P := [.ledger, .leaves, .sessions, .rings, .kodp, .ctrs, .out]) (frame_notify (by decide) (Frame.refl _ _)) rfl]
      show t5.deep.units = s.deep.units
      rw [h5.deep_eq rfl]
    · exact congrArg DeepState.units (h5.deep_eq rfl)

theorem lightPorts_deepUnits (s : State) : (lightPorts s).deep.units = s.deep.units :=
  forAll_keeps (g := fun t => t.deep.units) (fun p t => detectPort_deepUnits p t) _ _

/-! ### How steps end -/

/-- Bring-up that stops shows step 15 and FAULT_N (R581). -/
theorem stopBringup_fails (s : State) : (stopBringup s).boot.step = 15 ∧ (stopBringup s).boot.fault = true ∧ (stopBringup s).pkg.fault = true := by
  unfold stopBringup
  extract_lets t u
  have hw : Frame [.ledger, .leaves, .sessions, .rings, .kodp, .ctrs, .out, .free] u
      (useFree (useFree (notify 0x1F02 (leBytes 1 (Config.freeNat u.free) ++ leBytes 4 (Config.freeNat (u.free + 1))) u))) :=
    frame_useFree (by decide) (frame_useFree (by decide) (frame_notify (by decide) (Frame.refl _ u)))
  have hu : Frame [.link, .txn, .ledger, .mirror, .traffic, .leaves] ((t.onPkg (fun p => { p with fault := true })).onBoot (fun b => { b with step := 15, fault := true })) u :=
    frame_disableAll (by decide) (Frame.refl _ _)
  rw [hw.boot_eq rfl rfl rfl, hw.pkg_eq rfl, hu.boot_eq rfl rfl rfl, hu.pkg_eq rfl]
  exact ⟨rfl, rfl, rfl⟩

/-- The end of the last step (R579): Ready, the time bring-up took, and the twin by TWIN_ENABLE (R464). -/
theorem becomeReady_boot (s : State) : (becomeReady s).boot = { s.boot with step := 6, lastTime := (s.now - s.boot.startedAt) / 1000000 }
    ∧ (becomeReady s).twin.st = (if s.obj .twinEnable = 1 ∧ Config.twinPorts ≠ 0 then .enrolling else .solo)
    ∧ (becomeReady s).deep = s.deep ∧ (becomeReady s).mem = s.mem := by
  unfold becomeReady
  extract_lets t u on v
  have hw : Frame [.ledger, .leaves, .sessions, .rings, .kodp, .ctrs, .out, .free] v
      (useFree (useFree (notify 0x1F01 (leBytes 1 (Config.freeNat v.free) ++ leBytes 4 (Config.freeNat (v.free + 1))) v))) :=
    frame_useFree (by decide) (frame_useFree (by decide) (frame_notify (by decide) (Frame.refl _ v)))
  rw [hw.boot_eq rfl rfl rfl, hw.twin_eq rfl rfl, hw.deep_eq rfl, hw.mem_eq rfl]
  refine ⟨rfl, ?_, rfl, rfl⟩
  have hon : on = true ↔ s.obj .twinEnable = 1 ∧ Config.twinPorts ≠ 0 := by
    show (s.obj .twinEnable == 1 && Config.twinPorts != 0) = true ↔ _
    rw [Bool.and_eq_true, beq_iff_eq, bne_iff_ne]
  exact if_congr hon rfl rfl

theorem lightPorts_frame (s : State) : Frame [.link, .txn, .ledger, .deep, .mirror, .traffic, .leaves, .sessions, .rings, .kodp, .ctrs, .out] s (lightPorts s) :=
  frame_lightPorts (by decide) (Frame.refl _ s)

theorem lightPorts_boot (s : State) : (lightPorts s).boot = s.boot := (lightPorts_frame s).boot_eq rfl rfl rfl

/-- The cold path's step 3 (R579): memory is initialised, and the deep tier's cache has the size asked for (R274). -/
theorem coldMemories_boot (s : State) : (coldMemories s).boot = { s.boot with memDone := true } ∧ (coldMemories s).mem = MemState.reset
    ∧ (coldMemories s).deep.units = s.obj .deepCacheUnits := by
  unfold coldMemories
  extract_lets t u
  have ht : Frame [.dram] s t := frame_trainAll (by decide) (Frame.refl _ s)
  clear_value t
  refine ⟨?_, rfl, ht.obj_eq rfl _⟩
  show { t.boot with memDone := true } = _
  rw [ht.boot_eq rfl rfl rfl]

theorem stepRuns_bounds {s : State} (h : s.stepRuns = true) : 2 ≤ s.boot.step ∧ s.boot.step ≤ 5 := by
  simp only [State.stepRuns, Bool.and_eq_true, decide_eq_true_eq] at h
  obtain ⟨⟨⟨⟨⟨hlo, hhi⟩, -⟩, -⟩, -⟩, -⟩ := h
  exact ⟨hlo, hhi⟩

/-- What the failures of a step leave of bring-up. -/
theorem applyFailures_frame (failed : List Nat) (s : State) : Frame [.ledger, .integ, .dram, .leaves, .sessions, .units, .rings, .kodp, .ctrs, .out] s
    (forAll failed applyFailure (forAll failed noteFailure s)) :=
  frame_forAll (fun n t ht => frame_applyFailure (by decide) ht) (frame_forAll (fun n t ht => frame_noteFailure (by decide) ht) (Frame.refl _ s))

/-- A step of the cold path that goes on (R579). -/
def coldStep (failed : List Nat) (s : State) : State :=
  let s := forAll failed applyFailure s
  let result := if failed.isEmpty then 0 else 1
  let step := s.boot.step
  let s := if step = 3 then logStep 3 0 result (logSubSteps result (coldMemories s)) else logStep step 0 result s
  if step = 2 then s.onBoot (fun b => { b with step := 3 })
  else if step = 3 then lightPorts (s.onBoot (fun b => { b with step := 4 }))
  else if step = 4 then s.onBoot (fun b => { b with step := 5 })
  else becomeReady (chooseRoles s)

theorem exec_bringupStepDone {s : State} (failed : List Nat) (hruns : s.stepRuns = true) (hpath : s.boot.path = .cold) :
    exec (.bringupStepDone failed) s = .next (if s.boot.step = 3 ∧ failed.any stopsBringup = true then stopBringup (forAll failed noteFailure s)
      else coldStep failed (forAll failed noteFailure s)) := by
  have hnote : (forAll failed noteFailure s).boot = s.boot :=
    Frame.boot_eq (P := [.ledger, .integ, .leaves, .sessions, .rings, .kodp, .ctrs, .out]) (frame_forAll (fun n t ht => frame_noteFailure (by decide) ht) (Frame.refl _ s)) rfl rfl rfl
  have hgo : (!s.stepRuns || s.boot.path != .cold) = false := by rw [hruns, hpath]; rfl
  rw [exec, execBringupStepDone, hgo, if_neg Bool.false_ne_true]
  simp only [hnote, Bool.and_eq_true, decide_eq_true_eq]
  rfl

theorem logStep_boot (a b r : Nat) (s : State) : ∃ log, (logStep a b r s).boot = { s.boot with log := log } := ⟨_, rfl⟩

theorem logSubSteps_boot (r : Nat) (s : State) : ∃ log, (logSubSteps r s).boot = { s.boot with log := log } := ⟨_, rfl⟩

theorem coldStep_two {failed : List Nat} {s u : State} (hu : u = forAll failed applyFailure s) (h : u.boot.step = 2) :
    coldStep failed s = (logStep 2 0 (if failed.isEmpty then 0 else 1) u).onBoot (fun b => { b with step := 3 }) := by
  simp only [coldStep, ← hu, h, if_true, Nat.reduceEqDiff, if_false]

theorem coldStep_three {failed : List Nat} {s u : State} (hu : u = forAll failed applyFailure s) (h : u.boot.step = 3) :
    ∃ r, coldStep failed s = lightPorts ((logStep 3 0 r (logSubSteps r (coldMemories u))).onBoot (fun b => { b with step := 4 })) := by
  refine ⟨if failed.isEmpty then 0 else 1, ?_⟩
  simp only [coldStep, ← hu, h, if_true, Nat.reduceEqDiff, if_false]

theorem coldStep_four {failed : List Nat} {s u : State} (hu : u = forAll failed applyFailure s) (h : u.boot.step = 4) :
    coldStep failed s = (logStep 4 0 (if failed.isEmpty then 0 else 1) u).onBoot (fun b => { b with step := 5 }) := by
  simp only [coldStep, ← hu, h, if_true, Nat.reduceEqDiff, if_false]

theorem coldStep_five {failed : List Nat} {s u : State} (hu : u = forAll failed applyFailure s) (h : u.boot.step = 5) :
    ∃ r, coldStep failed s = becomeReady (chooseRoles (logStep 5 0 r u)) := by
  refine ⟨if failed.isEmpty then 0 else 1, ?_⟩
  simp only [coldStep, ← hu, h, Nat.reduceEqDiff, if_false]

theorem chooseRoles_frame (s : State) : Frame [.ledger, .leaves, .sessions, .boot, .units, .rings, .kodp, .ctrs, .out] s (chooseRoles s) :=
  frame_chooseRoles (by decide) (Frame.refl _ s)

/-- What each step that goes on leaves (R579). -/
theorem coldStep_boot {failed : List Nat} {s : State} (hlo : 2 ≤ s.boot.step) (hhi : s.boot.step ≤ 5) :
    (coldStep failed s).boot.step = s.boot.step + 1 ∧ (coldStep failed s).boot.fault = s.boot.fault
      ∧ (s.boot.step = 3 → (coldStep failed s).boot.memDone = true ∧ (coldStep failed s).mem = MemState.reset
        ∧ (coldStep failed s).deep.units = s.obj .deepCacheUnits)
      ∧ (s.boot.step = 5 → (coldStep failed s).boot.lastTime = (s.now - s.boot.startedAt) / 1000000
        ∧ (coldStep failed s).twin.st = (if s.obj .twinEnable = 1 ∧ Config.twinPorts ≠ 0 then .enrolling else .solo)) := by
  obtain ⟨u, hu⟩ : ∃ u, u = forAll failed applyFailure s := ⟨_, rfl⟩
  have hframe : Frame [.ledger, .dram, .leaves, .sessions, .units, .rings, .kodp, .ctrs, .out] s u :=
    hu ▸ frame_forAll (fun n t ht => frame_applyFailure (by decide) ht) (Frame.refl _ s)
  obtain ⟨hstep, hfault, hstarted, -⟩ := BootState.of_unlardered (hframe.unlardered_eq rfl rfl)
  rw [← hstep, ← hfault, ← hframe.obj_eq rfl, ← hframe.obj_eq rfl, ← hframe.now_eq rfl, ← hstarted]
  rw [← hstep] at hlo hhi
  obtain h | h | h | h : u.boot.step = 2 ∨ u.boot.step = 3 ∨ u.boot.step = 4 ∨ u.boot.step = 5 := by omega
  · rw [coldStep_two hu h, h]
    exact ⟨rfl, rfl, fun h => absurd h (by decide), fun h => absurd h (by decide)⟩
  · obtain ⟨r, hr⟩ := coldStep_three hu h
    obtain ⟨hboot, hmem, hunits⟩ := coldMemories_boot u
    obtain ⟨sub, hsub⟩ := logSubSteps_boot r (coldMemories u)
    obtain ⟨log, hlog⟩ := logStep_boot 3 0 r (logSubSteps r (coldMemories u))
    rw [hr, lightPorts_boot, (lightPorts_frame _).mem_eq rfl, lightPorts_deepUnits, h, State.onBoot_boot, hlog, hsub, hboot]
    exact ⟨rfl, rfl, fun _ => ⟨rfl, hmem, hunits⟩, fun h => absurd h (by decide)⟩
  · rw [coldStep_four hu h, h]
    exact ⟨rfl, rfl, fun h => absurd h (by decide), fun h => absurd h (by decide)⟩
  · obtain ⟨r, hr⟩ := coldStep_five hu h
    obtain ⟨-, hchosen, hbegan, -⟩ := BootState.of_unlardered (chooseRoles_unlardered (logStep 5 0 r u))
    have hframe5 := chooseRoles_frame (logStep 5 0 r u)
    have hnow := hframe5.now_eq rfl
    have htwin := hframe5.obj_eq rfl .twinEnable
    rw [hr]
    generalize chooseRoles (logStep 5 0 r u) = v at *
    obtain ⟨hboot, hst, -, -⟩ := becomeReady_boot v
    rw [hboot, hst, h, htwin, hnow, hbegan]
    exact ⟨rfl, hchosen, fun h => absurd h (by decide), fun _ => ⟨rfl, rfl⟩⟩

/-! ### Bring-up from a reheat (R592) -/

/-- A core whose self-test state does not match is retired in a reheat (R592). -/
def reheatRetire (c : Nat) (s : State) : State :=
  if corePresent c && !(s.unit .core c).retiredRole then retireCore c .timeout none (noteFailure (10 * 65536 + c) s) else s

theorem noteFailure_frame (n : Nat) (s : State) : Frame [.ledger, .integ, .leaves, .sessions, .rings, .kodp, .ctrs, .out] s (noteFailure n s) :=
  frame_noteFailure (by decide) (Frame.refl _ s)

theorem reheatRetire_unlardered (c : Nat) (s : State) : (reheatRetire c s).boot.unlardered = s.boot.unlardered := by
  unfold reheatRetire
  split
  · exact (retireCore_unlardered ..).trans ((noteFailure_frame _ s).unlardered_eq rfl rfl)
  · rfl

theorem reheatRetire_keeps_retired (c : Nat) (s : State) (d : Nat) (h : (s.unit .core d).retiredRole = true) :
    ((reheatRetire c s).unit .core d).retiredRole = true := by
  unfold reheatRetire
  split
  · refine unit_retiredRole_retireCore _ _ _ _ _ (.inr ?_)
    rw [(noteFailure_frame _ s).unit_eq rfl, h]
  · exact h

theorem reheatRetire_retired (c : Nat) (s : State) (h : corePresent c = true) : ((reheatRetire c s).unit .core c).retiredRole = true := by
  unfold reheatRetire
  split
  · exact unit_retiredRole_retireCore _ _ _ _ _ (.inl rfl)
  · rename_i hc
    simpa [h] using hc

theorem forAll_reheatRetire_retired (failed : List Nat) (s : State) (d : Nat)
    (h : (s.unit .core d).retiredRole = true ∨ (d ∈ failed ∧ corePresent d = true)) :
    ((forAll failed reheatRetire s).unit .core d).retiredRole = true := by
  induction failed generalizing s with
  | nil => exact h.resolve_right fun hd => absurd hd.1 List.not_mem_nil
  | cons c cs ih =>
    refine ih (reheatRetire c s) ?_
    rcases h with h | ⟨hd, hp⟩
    · exact .inl (reheatRetire_keeps_retired c s d h)
    · rcases List.mem_cons.mp hd with rfl | hd
      · exact .inl (reheatRetire_retired d s hp)
      · exact .inr ⟨hd, hp⟩

theorem reheatMemories_frame (failed : List Nat) (s : State) :
    Frame [.pkg, .mem, .dram, .deep, .mirror, .leaves, .power, .rings, .ctrs, .free] s (reheatMemories failed s) :=
  frame_reheatMemories (by decide) (Frame.refl _ s)

theorem reheatMemories_deepUnits (failed : List Nat) (s : State) : (reheatMemories failed s).deep.units = s.obj .deepCacheUnits := by
  unfold reheatMemories
  extract_lets t u
  have hu : Frame [.pkg, .mem, .dram, .mirror, .leaves, .power, .rings, .ctrs, .free] s u :=
    frame_forAll (fun e v hv => frame_unlistPoison (by decide) (frame_setChannel (by decide) hv)) (frame_trainAll (by decide) (Frame.refl _ s))
  clear_value u
  exact hu.obj_eq rfl _

/-- What a step of the reheat does before it goes on. -/
def reheatWork (failed : List Nat) (s : State) : State :=
  if s.boot.step = 3 then reheatMemories failed s else if s.boot.step = 5 then forAll failed reheatRetire s else s

theorem reheatWork_unlardered (failed : List Nat) (s : State) : (reheatWork failed s).boot.unlardered = s.boot.unlardered := by
  unfold reheatWork
  split
  · exact (reheatMemories_frame failed s).unlardered_eq rfl rfl
  split
  · exact forAll_keeps (g := fun t => t.boot.unlardered) reheatRetire_unlardered _ _
  · rfl

theorem reheatWork_units {failed : List Nat} {s : State} (h : s.boot.step ≠ 5 ∨ failed = []) : (reheatWork failed s).boot.units = s.boot.units := by
  unfold reheatWork
  split
  · exact (reheatMemories_frame failed s).units_eq rfl
  split
  · rename_i h5
    rw [h.resolve_left fun h => h h5]
    rfl
  · rfl

/-- How a step of the reheat goes on. -/
def reheatGoesOn (step : Nat) (s : State) : State :=
  if step = 2 then s.onBoot (fun b => { b with step := 3 })
  else if step = 3 then lightPorts (s.onBoot (fun b => { b with step := 4 }))
  else if step = 4 then s.onBoot (fun b => { b with step := 5 })
  else becomeReady s

theorem reheatGoesOn_boot {step : Nat} (hlo : 2 ≤ step) (hhi : step ≤ 5) (s : State) :
    (reheatGoesOn step s).boot.step = step + 1 ∧ (reheatGoesOn step s).boot.units = s.boot.units
      ∧ (reheatGoesOn step s).deep.units = s.deep.units := by
  obtain h | h | h | h : step = 2 ∨ step = 3 ∨ step = 4 ∨ step = 5 := by omega
  all_goals subst h
  · exact ⟨rfl, rfl, rfl⟩
  · show (lightPorts _).boot.step = 4 ∧ (lightPorts _).boot.units = _ ∧ (lightPorts _).deep.units = _
    rw [lightPorts_boot, lightPorts_deepUnits]
    exact ⟨rfl, rfl, rfl⟩
  · exact ⟨rfl, rfl, rfl⟩
  · obtain ⟨hboot, -, hdeep, -⟩ := becomeReady_boot s
    show (becomeReady s).boot.step = 6 ∧ (becomeReady s).boot.units = _ ∧ (becomeReady s).deep.units = _
    rw [hboot, hdeep]
    exact ⟨rfl, rfl, rfl⟩

theorem exec_reheatStepDone {s : State} (failed : List Nat) (hruns : s.stepRuns = true) (hpath : s.boot.path = .reheat) :
    exec (.reheatStepDone failed) s
      = .next (reheatGoesOn s.boot.step (logStep s.boot.step 0 (if s.boot.step = 5 ∧ failed ≠ [] then 1 else 0) (reheatWork failed s))) := by
  have hgo : (!s.stepRuns || s.boot.path != .reheat) = false := by rw [hruns, hpath]; rfl
  rw [exec, execReheatStepDone, hgo, if_neg Bool.false_ne_true]
  rfl

/-! ### Handshakes that time out (R585) -/

/-- The timeout of a receiver's handshake, with its crumb and its notification. -/
theorem timeoutFired_frame (row kind u arg : Nat) (s : State) : Frame [.ledger, .leaves, .sessions, .rings, .kodp, .ctrs, .out] s (timeoutFired row kind u arg s) :=
  frame_timeoutFired (by decide) (Frame.refl _ s)

theorem timeoutFired_clusterResetting (row kind u arg k : Nat) (s : State) :
    (timeoutFired row kind u arg s).clusterResetting k = s.clusterResetting k := by
  unfold State.clusterResetting
  rw [(timeoutFired_frame row kind u arg s).unit_eq rfl]

theorem timeoutFired_reheat (row kind u arg : Nat) (s : State) : (timeoutFired row kind u arg s).obs.reheat = s.obs.reheat :=
  (congrArg ObserveState.reheat ((timeoutFired_frame row kind u arg s).obs_rest rfl) : (timeoutFired row kind u arg s).obs.rest.reheat = s.obs.rest.reheat)

theorem beginClusterReset_last (k : Nat) (req : Option Req) (s : State) :
    ∃ p, (beginClusterReset k req s).boot.partials.getLast? = some p ∧ p.kind = 2 ∧ p.unit = k ∧ p.req = req := by
  unfold beginClusterReset
  extract_lets t
  exact ⟨_, List.getLast?_concat, rfl, rfl, rfl⟩

theorem endSessions_all (s : State) : (endSessions (fun _ => true) s).sec.sessions = [] ∧ (endSessions (fun _ => true) s).obs = s.obs
    ∧ (endSessions (fun _ => true) s).kodp.running = s.kodp.running := by
  refine ⟨?_, rfl, rfl⟩
  show s.sec.sessions.filter (fun _ => false) = []
  exact List.filter_false _

/-- A reheat that starts is listed; Baker's own ends every operation and session (R592, R614). -/
theorem startReheat_listed {die : Nat} {s : State} (h : s.obs.reheat.contains die = false) :
    (startReheat die s).obs.reheat = s.obs.reheat ++ [die]
      ∧ (die = 0 → (startReheat die s).kodp.running = [] ∧ (startReheat die s).sec.sessions = []) := by
  unfold startReheat
  rw [if_neg (by rw [h]; exact Bool.false_ne_true)]
  extract_lets t n u v w
  have hw : w.obs.reheat = s.obs.reheat ++ [die] := by
    have hv : Frame [.pkg, .ledger, .leaves, .sessions, .rings, .kodp, .ctrs, .out] t v :=
      frame_onlyIf (fun x hx => frame_holdPins (by decide) hx) (frame_onlyIf (fun x hx => frame_notify (by decide) hx) (Frame.refl _ t))
    have hr : v.obs.reheat = t.obs.reheat := (congrArg ObserveState.reheat (hv.obs_rest rfl) : v.obs.rest.reheat = t.obs.rest.reheat)
    show v.obs.reheat ++ [die] = _
    rw [hr]
    rfl
  clear_value w
  split
  · rename_i hd
    obtain ⟨hs, ho, hk⟩ := endSessions_all ((w.onKodp (fun k => { k with running := [], queue := [], reasm := [], peerWait := [] })).onSec (fun c => { c with spdm := [] }))
    refine ⟨?_, fun _ => ⟨hk, hs⟩⟩
    rw [ho]
    exact hw
  · rename_i hd
    exact ⟨hw, fun h => absurd h hd⟩

theorem stopDataPath_fault (s : State) : (stopDataPath s).pkg.fault = true := by
  unfold stopDataPath
  rw [Frame.pkg_eq (P := [.link, .txn, .ledger, .mirror, .traffic, .leaves]) (frame_disableAll (by decide) (Frame.refl _ _)) rfl]
  rfl

/-- Settles O3: each step's end is computed by its lemma (`coldStep_boot`, `reheatGoesOn_boot`), and the frames say what else it leaves. -/
theorem bringupSteps : Obligations.BringupSteps := by
  intro s
  refine ⟨fun failed hruns hpath => ?_, fun failed hruns hpath => ?_, fun hruns => ?_, fun unit hunit hfrozen hbaker hno => ?_,
    fun unit hunit hfrozen hbaker hno => ?_, fun unit hunit hfrozen hbaker => ?_⟩
  · obtain ⟨hlo, hhi⟩ := stepRuns_bounds hruns
    refine ⟨_, exec_bringupStepDone failed hruns hpath, ?_⟩
    split
    · exact stopBringup_fails _
    · have hn : Frame [.ledger, .integ, .leaves, .sessions, .rings, .kodp, .ctrs, .out] s (forAll failed noteFailure s) :=
        frame_forAll (fun n t ht => frame_noteFailure (by decide) ht) (Frame.refl _ s)
      have hb := hn.boot_eq rfl rfl rfl
      have h := @coldStep_boot failed (forAll failed noteFailure s) (by rw [hb]; exact hlo) (by rw [hb]; exact hhi)
      simpa only [hb, hn.obj_eq rfl, hn.now_eq rfl] using h
  · obtain ⟨hlo, hhi⟩ := stepRuns_bounds hruns
    have hsec := (exec_frame (.reheatStepDone failed) s _ (exec_reheatStepDone failed hruns hpath)).sec_rest rfl
    refine ⟨_, exec_reheatStepDone failed hruns hpath, ?_⟩
    obtain ⟨hstep, hunits, hdeep⟩ := reheatGoesOn_boot hlo hhi
      (logStep s.boot.step 0 (if s.boot.step = 5 ∧ failed ≠ [] then 1 else 0) (reheatWork failed s))
    refine ⟨hstep, fun h => hunits.trans (reheatWork_units h), fun h5 c hc hp => ?_, fun h3 => hdeep.trans ?_, hsec⟩
    · unfold State.unit
      rw [hunits]
      show ((reheatWork failed s).unit .core c).retiredRole = true
      unfold reheatWork
      rw [h5]
      exact forAll_reheatRetire_retired failed s c (.inr ⟨hc, hp⟩)
    · show (reheatWork failed s).deep.units = _
      unfold reheatWork
      rw [if_pos h3]
      exact reheatMemories_deepUnits failed s
  · have hgo : (s.stepRuns || (s.boot.step == 1 && s.pkg.phase == .boot && !s.fw.recovery && s.pkg.stopped.isNone)) = true := by
      rcases hruns with h | ⟨h1, h2, h3, h4⟩
      · rw [h, Bool.true_or]
      · rw [h1, h2, h3, h4]
        exact Bool.or_true _
    have hexec : exec .bringupStepTimeout s = .next (stopBringup s) := by
      rw [exec, execBringupStepTimeout, hgo, if_pos rfl]
    obtain ⟨h1, h2, h3⟩ := stopBringup_fails s
    exact ⟨_, hexec, h1, h2, h3, (exec_frame _ s _ hexec).mem_eq rfl⟩
  · have hexec : exec (.handshakeTimeout 2 unit) s = .next (beginClusterReset unit none (timeoutFired 2 2 unit 0 s)) := by
      have hgo : (timeoutFired 2 2 unit 0 s).clusterResetting unit = false := by rw [timeoutFired_clusterResetting, hno]
      rw [exec, execHandshakeTimeout, hfrozen, hbaker, if_neg Bool.false_ne_true]
      simp only [hunit, hgo, Bool.not_true, Bool.false_eq_true, if_false, and_self, if_true]
    exact ⟨_, hexec, beginClusterReset_last ..⟩
  · have hexec : exec (.handshakeTimeout 8 unit) s = .next (startReheat unit (timeoutFired 2 8 unit 0 s)) := by
      rw [exec, execHandshakeTimeout, hfrozen, hbaker, if_neg Bool.false_ne_true]
      simp only [hunit, Bool.not_true, Bool.false_eq_true, if_false, Nat.reduceEqDiff, false_and, and_self, if_true]
    have h := timeoutFired_reheat 2 8 unit 0 s
    have hs := @startReheat_listed unit (timeoutFired 2 8 unit 0 s) (by rw [h]; exact hno)
    rw [h] at hs
    exact ⟨_, hexec, hs⟩
  · have hexec : exec (.handshakeTimeout 7 unit) s = .next (stopDataPath (timeoutFired 2 7 unit 0 s)) := by
      rw [exec, execHandshakeTimeout, hfrozen, hbaker, if_neg Bool.false_ne_true]
      simp only [hunit, Bool.not_true, Bool.false_eq_true, if_false, Nat.reduceEqDiff, false_and, and_self, if_true]
    refine ⟨_, hexec, stopDataPath_fault _, ?_⟩
    exact Frame.mem_eq (P := [.pkg, .link, .txn, .ledger, .twin, .mirror, .traffic, .leaves, .sessions, .rings, .kodp, .ctrs, .out])
      (frame_stopDataPath (by decide) (frame_timeoutFired (by decide) (Frame.refl _ s))) rfl

end Sys2Proof.Machine
end

section
/-!
PROOF. The larder and service mode: units retired, repaired, taken out and brought back (R592 to R599).
-/
namespace Sys2Proof.Machine

/-! ### Units -/

theorem forAll_holds {α : Type} {P : State → Prop} {f : α → State → State} (h : ∀ a s, P s → P (f a s)) (l : List α) {s : State} (hs : P s) :
    P (forAll l f s) := by
  induction l generalizing s with
  | nil => exact hs
  | cons a l ih => exact ih (h a s hs)

theorem unit_advanceEpoch (k : UnitKind) (u : Nat) (s : State) (k' : UnitKind) (u' : Nat) :
    (advanceEpoch k u s).unit k' u'
      = if (k', u') = (k, u) then { s.unit k u with epoch := ((s.unit k u).epoch + 1) % 65536 } else s.unit k' u' := by
  unfold advanceEpoch
  extract_lets t w
  have hw : Frame [.dir, .dram, .deep, .ctrs] t w := frame_onlyIf (fun v hv => frame_refuseOld (by decide) hv) (Frame.refl _ t)
  rw [Frame.unit_eq (P := [.rings]) (frame_crumb (by decide) (Frame.refl _ w)) rfl, hw.unit_eq rfl, unit_setUnit]

theorem unit_st_advanceEpoch (k : UnitKind) (u : Nat) (s : State) (k' : UnitKind) (u' : Nat) :
    ((advanceEpoch k u s).unit k' u').st = (s.unit k' u').st := by
  rw [unit_advanceEpoch]
  split
  · rename_i h
    obtain ⟨rfl, rfl⟩ := Prod.mk.inj h
    rfl
  · rfl

theorem unit_setUnit_same (k : UnitKind) (u : Nat) (f : UnitRec → UnitRec) (s : State) : (setUnit k u f s).unit k u = f (s.unit k u) := by
  rw [unit_setUnit, if_pos rfl]

theorem clearCore_frame (c : Nat) (s : State) : Frame [.core] s (clearCore c s) := frame_clearCore (by decide) (Frame.refl _ s)

theorem advanceEpoch_frame (k : UnitKind) (u : Nat) (s : State) : Frame [.dir, .dram, .deep, .units, .rings, .ctrs] s (advanceEpoch k u s) :=
  frame_advanceEpoch (by decide) (Frame.refl _ s)

theorem setUnit_frame (k : UnitKind) (u : Nat) (f : UnitRec → UnitRec) (s : State) : Frame [.units] s (setUnit k u f s) :=
  frame_setUnit (by decide) (Frame.refl _ s)

theorem clearCore_tray (c : Nat) (s : State) : ((clearCore c s).coreRec c).tray = [] := by
  unfold clearCore State.coreRec setCore
  rw [State.onCore_core]
  dsimp only
  rw [agetD_aset_same]

theorem Frame.bringIns_eq {P : List Part} {s t : State} (h : Frame P s t) (hp : P.contains .boot = false) : t.boot.bringIns = s.boot.bringIns :=
  (congrArg BootState.bringIns (h.boot_rest hp) : t.boot.rest.bringIns = s.boot.rest.bringIns)

theorem Frame.coreRec_eq {P : List Part} {s t : State} (h : Frame P s t) (hp : P.contains .core = false) (c : Nat) : t.coreRec c = s.coreRec c := by
  unfold State.coreRec
  rw [h.core_eq hp]

/-! ### Spares (R593, R594) -/

theorem wakeSpares_asked (s : State) : (wakeSpares s).boot.bringIns.map BringIn.asked = s.boot.bringIns.map BringIn.asked := by
  unfold wakeSpares
  refine forAll_keeps (g := fun t => t.boot.bringIns.map BringIn.asked) (fun b t => ?_) _ _
  split
  · rfl
  · show List.map _ (List.map _ t.boot.bringIns) = _
    rw [List.map_map]
    refine List.map_congr_left fun y _ => ?_
    show BringIn.asked (if y.core = b.core then { y with woken := true } else y) = y.asked
    split <;> rfl

theorem exhaust_bringIns (k u : Nat) (s : State) : (exhaust k u s).boot.bringIns = s.boot.bringIns := by
  unfold exhaust
  split
  · rfl
  · rw [Frame.bringIns_eq (P := [.ledger, .leaves, .sessions, .rings, .kodp, .ctrs, .out]) (frame_notify (by decide) (Frame.refl _ _)) rfl]
    rfl

/-- A spare that is there is asked for. -/
theorem bringSpare_asked {f c : Nat} {req : Option Req} {s : State} (h : s.spareCore (clusterOf f) = some c) :
    (bringSpare f req s).boot.bringIns.map BringIn.asked = s.boot.bringIns.map BringIn.asked ++ [(c, f, req, s.now)]
      ∧ (bringSpare f req s).kodp.running = s.kodp.running := by
  unfold bringSpare
  extract_lets k
  split
  case h_2 hnone => exact absurd (h.symm.trans hnone) nofun
  rename_i d hd
  obtain rfl : c = d := Option.some.inj (h.symm.trans hd)
  extract_lets t
  have ht : t.boot.bringIns.map BringIn.asked = s.boot.bringIns.map BringIn.asked ++ [(c, f, req, s.now)] := by
    unfold t
    rw [wakeSpares_asked]
    show List.map BringIn.asked (s.boot.bringIns ++ [_]) = _
    rw [List.map_append]
    rfl
  have hr : t.kodp.running = s.kodp.running :=
    Frame.running_eq (P := [.power, .boot]) (frame_wakeSpares (by decide) (frame_onBoot [.boot] (by decide) (.inr fun _ => rfl) (.inr fun _ => rfl) (.inl rfl) (Frame.refl _ s))) rfl
  clear_value t
  split
  · exact ⟨(congrArg _ (exhaust_bringIns ..)).trans ht,
      (Frame.running_eq (P := [.ledger, .leaves, .sessions, .boot, .rings, .kodp, .ctrs, .out]) (frame_exhaust (by decide) (Frame.refl _ t)) rfl).trans hr⟩
  · exact ⟨ht, hr⟩

theorem bringSpare_unit (f : Nat) (req : Option Req) (s : State) (k : UnitKind) (u : Nat) : (bringSpare f req s).unit k u = s.unit k u :=
  Frame.unit_eq (P := [.ledger, .mirror, .leaves, .power, .sessions, .boot, .rings, .kodp, .running, .ctrs, .out]) (frame_bringSpare (by decide) (Frame.refl _ s)) rfl k u

/-- The spare found stays the one found when another core of the cluster is retired. -/
theorem spareCore_of_retired {s t : State} {k c d : Nat} (h : s.spareCore k = some c) (hne : c ≠ d) (hin : t.boot.bringIns = s.boot.bringIns)
    (hd : (t.unit .core d).st = .retired) (hst : ∀ x, x ≠ d → (t.unit .core x).st = (s.unit .core x).st) : t.spareCore k = some c := by
  unfold State.spareCore at h ⊢
  rw [List.find?_eq_some_iff_append] at h ⊢
  rw [hin]
  obtain ⟨hc, as, bs, hl, hbefore⟩ := h
  refine ⟨by rw [hst c hne]; exact hc, as, bs, hl, fun a ha => ?_⟩
  rcases eq_or_ne a d with rfl | had
  · rw [hd]
    simp
  · rw [hst a had]
    exact hbefore a ha

/-- A core that is retired leaves its cluster's spare to be brought in for it (R593). -/
theorem retireCore_asked {unit c : Nat} {st : Status} {req : Option Req} {s : State} (h : s.spareCore (clusterOf unit) = some c) (hne : c ≠ unit) :
    (retireCore unit st req s).boot.bringIns.map BringIn.asked = s.boot.bringIns.map BringIn.asked ++ [(c, unit, req, s.now)]
      ∧ (retireCore unit st req s).kodp.running = s.kodp.running ∧ ((retireCore unit st req s).unit .core unit).st = .retired := by
  unfold retireCore
  extract_lets t u
  obtain ⟨v, hv⟩ : ∃ v, v = clearCore unit (advanceEpoch .core unit u) := ⟨_, rfl⟩
  rw [← hv]
  have hframe : Frame [.units, .recp, .core, .ctrs, .dir, .dram, .deep, .rings] s v :=
    hv ▸ frame_clearCore (by decide) (frame_advanceEpoch (by decide) (frame_vacateCore (by decide) (frame_setUnit (by decide) (Frame.refl _ s))))
  have hst : ∀ x, (v.unit .core x).st = (t.unit .core x).st := fun x => by
    rw [hv, (clearCore_frame ..).unit_eq rfl, unit_st_advanceEpoch,
      Frame.unit_eq (P := [.recp, .core, .ctrs]) (frame_vacateCore (by decide) (Frame.refl _ t)) rfl]
  have hretired : (v.unit .core unit).st = .retired := by
    rw [hst, unit_setUnit_same]
  obtain ⟨hasked, hrunning⟩ := bringSpare_asked (req := req) (spareCore_of_retired h hne (hframe.bringIns_eq rfl) hretired fun x hx => by
    rw [hst, unit_setUnit, if_neg fun he => hx (Prod.mk.inj he).2])
  refine ⟨?_, hrunning.trans (hframe.running_eq rfl), ?_⟩
  · rw [hasked, hframe.bringIns_eq rfl, hframe.now_eq rfl]
  · rw [bringSpare_unit, hretired]

/-! ### Rows (R595, R596) -/

/-- What the integrity part holds besides its log of errors. -/
def IntegState.unlogged (g : IntegState) : IntegState := { g with log := [], logSeq := 0 }

theorem onInteg_log_unlogged (f : IntegState → List ErrorRec) (h : IntegState → Nat) (s : State) :
    (s.onInteg (fun g => { g with log := f g, logSeq := h g })).integ.unlogged = s.integ.unlogged := rfl

theorem logError_unlogged (kind action channel pa symbol tenant unit : Nat) (s : State) :
    (logError kind action channel pa symbol tenant unit s).integ.unlogged = s.integ.unlogged := by
  unfold logError
  extract_lets t
  have ht : t.integ = s.integ := Frame.integ_eq (P := [.ctrs]) (frame_onlyIf (fun v hv => frame_bump (by decide) hv) (Frame.refl _ s)) rfl
  rw [← ht]
  exact onInteg_log_unlogged _ _ t

theorem poisonLine_unlogged (line cause : Nat) (s : State) : (poisonLine line cause s).integ.unlogged = s.integ.unlogged := by
  unfold poisonLine
  split
  · rfl
  · rename_i l _
    rw [Frame.integ_eq (P := [.pkg, .mem, .dram, .deep, .mirror, .leaves, .power, .rings, .ctrs, .free]) (frame_dirtyHeld (by decide) (Frame.refl _ _)) rfl]
    unfold poisonEvent
    extract_lets ch tenant t
    have ht : t.integ = s.integ :=
      Frame.integ_eq (P := [.pkg, .ledger, .mem, .dram, .deep, .mirror, .leaves, .power, .sessions, .obs, .rings, .kodp, .ctrs, .out, .free])
        (frame_bump (by decide) (frame_bump (by decide) (frame_commitLine (by decide) (Frame.refl _ s)))) rfl
    rw [Frame.integ_eq (P := [.ledger, .leaves, .sessions, .rings, .kodp, .ctrs, .out]) (frame_notifyLimited (by decide) (Frame.refl _ _)) rfl,
      logError_unlogged, ht]

theorem copyChecked_unlogged (lines : List Nat) (s : State) : (copyChecked lines s).integ.unlogged = s.integ.unlogged := by
  unfold copyChecked
  extract_lets bad
  refine forAll_keeps (g := fun t => t.integ.unlogged) (fun x t => ?_) _ _
  split
  · rw [poisonLine_unlogged, logError_unlogged,
      Frame.integ_eq (P := [.rings, .ctrs]) (frame_crumb (by decide) (frame_bump (by decide) (Frame.refl _ t))) rfl]
  · rfl

theorem badRows_of_unlogged {a b : IntegState} (h : a.unlogged = b.unlogged) : a.badRows = b.badRows :=
  (congrArg IntegState.badRows h : a.unlogged.badRows = b.unlogged.badRows)

theorem copyChecked_frame (lines : List Nat) (s : State) :
    Frame [.pkg, .ledger, .mem, .dram, .deep, .integ, .mirror, .leaves, .power, .sessions, .obs, .rings, .kodp, .ctrs, .out, .free] s (copyChecked lines s) :=
  frame_copyChecked (by decide) (Frame.refl _ s)

theorem exhaust_rowsUsed (k u : Nat) (s : State) : (exhaust k u s).boot.rowsUsed = s.boot.rowsUsed :=
  (congrArg BootState.rowsUsed (exhaust_unlardered k u s) : (exhaust k u s).boot.unlardered.rowsUsed = s.boot.unlardered.rowsUsed)

/-- A row repaired takes one of its bank's spare rows (R595). -/
theorem repairRow_spare {key row : Nat} {s : State} (h : agetD s.boot.rowsUsed key 0 < 64) :
    agetD (repairRow key row s).boot.rowsUsed key 0 = agetD s.boot.rowsUsed key 0 + 1 ∧ (repairRow key row s).kodp.running = s.kodp.running
      ∧ (repairRow key row s).integ.badRows = s.integ.badRows.filter (fun x => !(x.1 * 32 + x.2.1 == key && x.2.2 == row)) := by
  have hrunning : (repairRow key row s).kodp.running = s.kodp.running :=
    Frame.running_eq (P := [.pkg, .ledger, .mem, .dram, .deep, .integ, .mirror, .leaves, .power, .sessions, .boot, .obs, .rings, .kodp, .ctrs, .out, .free])
      (frame_repairRow (by decide) (Frame.refl _ s)) rfl
  refine ⟨?_, hrunning, ?_⟩ <;> clear hrunning <;> unfold repairRow <;> extract_lets t n u w
  all_goals
    have hn : n = agetD s.boot.rowsUsed key 0 := rfl
    rw [if_neg (by rw [hn]; exact Nat.not_le.mpr h)]
    have hw : w.boot.rowsUsed = aset s.boot.rowsUsed key (n + 1) := by
      have hu : u.boot.rowsUsed = s.boot.rowsUsed := congrArg BootState.rowsUsed ((copyChecked_frame (rowLines key row) t).boot_eq rfl rfl rfl)
      rw [Frame.boot_eq (P := [.rings]) (frame_crumb (by decide) (Frame.refl _ _)) rfl rfl rfl]
      show aset u.boot.rowsUsed key (n + 1) = _
      rw [hu]
    have hb : w.integ.badRows = t.integ.badRows := badRows_of_unlogged
      ((congrArg IntegState.unlogged (Frame.integ_eq (P := [.rings]) (frame_crumb (by decide) (Frame.refl _ _)) rfl)).trans (copyChecked_unlogged (rowLines key row) t))
    have ht : t.integ.badRows = s.integ.badRows.filter (fun x => !(x.1 * 32 + x.2.1 == key && x.2.2 == row)) := rfl
    clear_value w n
  · rw [← hn]
    have : agetD w.boot.rowsUsed key 0 = n + 1 := by rw [hw, agetD_aset_same]
    split
    · rw [exhaust_rowsUsed, this]
    · exact this
  · rw [← ht, ← hb]
    split
    · rw [Frame.integ_eq (P := [.ledger, .leaves, .sessions, .boot, .rings, .kodp, .ctrs, .out]) (frame_exhaust (by decide) (Frame.refl _ w)) rfl]
    · rfl

/-! ### A cluster that is reset leaves SERVICE_IN running (R598) -/

theorem bringSpare_runs {f : Nat} {req : Option Req} {x : Running} {s : State} (h : x ∈ s.kodp.running)
    (hsub : ¬(x.index = 0x1F30 ∧ x.sub = 3) ∧ ¬(x.index = 0x1F20 ∧ x.sub = 5)) : x ∈ (bringSpare f req s).kodp.running := by
  have hno : ∀ g q t, x ∈ t.kodp.running → x ∈ (noSpareFor g q t).kodp.running := by
    intro g q t ht
    unfold noSpareFor
    extract_lets u w
    have hw : w.kodp.running = t.kodp.running := Frame.running_eq (P := [.ledger, .leaves, .sessions, .boot, .rings, .kodp, .ctrs, .out])
      (frame_exhaust (by decide) (frame_onlyIf (fun v hv => frame_notify (by decide) (frame_crumb (by decide) hv)) (Frame.refl _ t))) rfl
    rw [← hw] at ht
    clear_value w
    split
    · exact mem_running_reply (mem_running_reply ht hsub.2) hsub.1
    · exact ht
  cases hspare : s.spareCore (clusterOf f) with
  | some c =>
    rw [(bringSpare_asked hspare).2]
    exact h
  | none =>
    unfold bringSpare
    extract_lets k
    split
    · rename_i hsome
      exact absurd (hspare.symm.trans hsome) nofun
    · split <;> exact hno _ _ _ h

theorem restartBringIn_runs {c : Nat} {x : Running} {s : State} (h : x ∈ s.kodp.running)
    (hsub : ¬(x.index = 0x1F30 ∧ x.sub = 3) ∧ ¬(x.index = 0x1F20 ∧ x.sub = 5)) : x ∈ (restartBringIn c s).kodp.running := by
  unfold restartBringIn
  split
  · exact h
  split
  · rw [Frame.running_eq (P := [.power, .boot]) (frame_wakeSpares (by decide) (Frame.refl _ _)) rfl]
    exact h
  · split
    · exact h
    · exact bringSpare_runs (by exact h) hsub

theorem absorbCluster_runs {k kind : Nat} {x : Running} {s : State} (h : x ∈ s.kodp.running)
    (hsub : ¬(x.index = 0x1F30 ∧ x.sub = 3) ∧ ¬(x.index = 0x1F20 ∧ x.sub = 5)) (hcore : ¬(x.index = 0x1F20 ∧ x.sub = 1)) :
    x ∈ (absorbCluster k kind s).kodp.running := by
  unfold absorbCluster
  extract_lets cores ids s1 s2
  have h2 : x ∈ s2.kodp.running := by
    have hs : s1.kodp.running = s.kodp.running := Frame.running_eq (P := [.recp, .core]) (frame_forAll (fun i t ht => frame_abortRecipe (by decide) ht) (Frame.refl _ s)) rfl
    show x ∈ s1.kodp.running
    rw [hs]
    exact h
  clear_value s2
  split
  rename_i mine rest _
  extract_lets s3 s4 s5
  rw [Frame.running_eq (P := [.dir, .dram, .deep, .units, .rings, .ctrs]) (frame_beginUnit (by decide) (Frame.refl _ s5)) rfl]
  have h4 : x ∈ s4.kodp.running := by
    refine forAll_holds (P := fun t => x ∈ t.kodp.running) (fun p t ht => ?_) mine (by exact h2)
    split
    · exact mem_running_reply ht hcore
    · exact ht
  refine forAll_holds (P := fun t => x ∈ t.kodp.running) (fun c t ht => ?_) cores h4
  refine restartBringIn_runs ?_ hsub
  rw [Frame.running_eq (P := [.core, .dir, .dram, .deep, .units, .rings, .ctrs])
    (frame_clearCore (by decide) (frame_advanceEpoch (by decide) (frame_bump (by decide) (frame_endUnit (by decide) (frame_setCore (by decide) (Frame.refl _ t)))))) rfl]
  exact ht

/-! ### The operations -/

theorem Frame.spareCore_eq {P : List Part} {s t : State} (h : Frame P s t) (h1 : P.contains .boot = false) (h2 : P.contains .units = false) (k : Nat) :
    t.spareCore k = s.spareCore k := by
  unfold State.spareCore
  rw [h.bringIns_eq h1]
  simp only [h.unit_eq h2]

/-- Retiring a core starts the bring-in of its spare (R593). -/
theorem retireUnit_core {s : State} {r : Req} {unit c : Nat} (hp : corePresent unit = true) (hst : (s.unit .core unit).st ≠ .retired)
    (hres : s.coreResetting unit = false) (hspare : s.spareCore (clusterOf unit) = some c) (hne : c ≠ unit) :
    Starts (.retireUnit r 1 unit) s (cmdObj 0x1F20 5 roleOp) r 1 (leBytes 1 1 ++ leBytes 8 unit) (fun t =>
      t.boot.bringIns.map BringIn.asked = s.boot.bringIns.map BringIn.asked ++ [(c, unit, some r, s.now)] ∧ (t.unit .core unit).st = .retired) := by
  obtain ⟨b, hb⟩ : ∃ b, b = begun (cmdObj 0x1F20 5 roleOp) r (leBytes 1 1 ++ leBytes 8 unit) 1 s := ⟨_, rfl⟩
  have hf : Frame begunParts s b := hb ▸ begun_frame ..
  obtain ⟨hasked, hrun, hretired⟩ := @retireCore_asked unit c .timeout (some r) b (by rw [hf.spareCore_eq rfl rfl, hspare]) hne
  refine starts_of_operate (u := retireCore unit .timeout (some r) b) rfl ?_ rfl ?_ rfl (by rw [← hb]; rfl) ?_ ⟨?_, hretired⟩
  · simp [hp]
  · simp [hst, hres]
  · rw [hrun, hb]
    exact runningOf_mem_begun ..
  · rw [hasked, hf.bringIns_eq rfl, hf.now_eq rfl]

/-- Retiring a row repairs it from its bank's spares (R595). -/
theorem retireUnit_row {s : State} {r : Req} {unit : Nat} (hkey : unit / 131072 < 8192) (hrow : unit % 131072 < Config.rowsPerBank)
    (hleft : agetD s.boot.rowsUsed (unit / 131072) 0 < 64) :
    Replies (.retireUnit r 4 unit) s (cmdObj 0x1F20 5 roleOp) r 1 (leBytes 1 4 ++ leBytes 8 unit) .ok [] (fun t =>
      agetD t.boot.rowsUsed (unit / 131072) 0 = agetD s.boot.rowsUsed (unit / 131072) 0 + 1) := by
  obtain ⟨b, hb⟩ : ∃ b, b = begun (cmdObj 0x1F20 5 roleOp) r (leBytes 1 4 ++ leBytes 8 unit) 1 s := ⟨_, rfl⟩
  have hboot : b.boot = s.boot := hb ▸ (begun_frame ..).boot_eq rfl rfl rfl
  obtain ⟨hused, hrun, -⟩ := @repairRow_spare (unit / 131072) (unit % 131072) b (by rw [hboot]; exact hleft)
  refine replies_of_operate (u := repairRow (unit / 131072) (unit % 131072) b) rfl ?_ rfl rfl ?_ (by rw [← hb]; rfl) (hrun.trans (by rw [hb])) ?_
  · simp [Nat.not_le.mpr hkey, Nat.not_le.mpr hrow]
  · simp [hleft]
  · rw [(reply_frame ..).boot_eq rfl rfl rfl, hused, hboot]

theorem exhaust_waysUsed (k u : Nat) (s : State) : (exhaust k u s).boot.waysUsed = s.boot.waysUsed :=
  (congrArg BootState.waysUsed (exhaust_unlardered k u s) : (exhaust k u s).boot.unlardered.waysUsed = s.boot.unlardered.waysUsed)

/-- Retiring a way lists it (R596). -/
theorem retireUnit_way {s : State} {r : Req} {unit : Nat} (hunit : unit < 2 ^ 20) (hleft : s.boot.waysUsed.contains unit = false) :
    Replies (.retireUnit r 6 unit) s (cmdObj 0x1F20 5 roleOp) r 1 (leBytes 1 6 ++ leBytes 8 unit) .ok [] (fun t =>
      t.boot.waysUsed = s.boot.waysUsed ++ [unit]) := by
  obtain ⟨b, hb⟩ : ∃ b, b = begun (cmdObj 0x1F20 5 roleOp) r (leBytes 1 6 ++ leBytes 8 unit) 1 s := ⟨_, rfl⟩
  have hboot : b.boot = s.boot := hb ▸ (begun_frame ..).boot_eq rfl rfl rfl
  refine replies_of_operate (u := exhaust 6 unit (b.onBoot (fun x => { x with waysUsed := x.waysUsed ++ [unit] }))) rfl ?_ rfl rfl ?_
    (by rw [← hb]; rfl) ?_ ?_
  · simpa using hunit
  · simpa using hleft
  · rw [Frame.running_eq (P := [.ledger, .leaves, .sessions, .boot, .rings, .kodp, .ctrs, .out]) (frame_exhaust (by decide) (Frame.refl _ _)) rfl, ← hb]
    rfl
  · rw [(reply_frame ..).boot_eq rfl rfl rfl, exhaust_waysUsed, ← hboot]
    rfl

/-- A spare that passes its self-test is enabled, with a new epoch and an empty tray (R594). -/
theorem spareBringinDone_good {s : State} {core : Nat} {b : BringIn} (h : s.boot.bringIns.find? (fun b => b.core == core && b.woken) = some b) :
    Does (.spareBringinDone core true) s (fun t => (t.unit .core core).st = .enabled ∧ (t.unit .core core).epoch = ((s.unit .core core).epoch + 1) % 65536
      ∧ t.boot.bringIns = s.boot.bringIns.filter (fun y => y.core != core) ∧ (t.coreRec core).tray = []) := by
  obtain ⟨s1, hs1⟩ : ∃ u, u = s.onBoot (fun x => { x with bringIns := x.bringIns.filter (fun y => y.core != core) }) := ⟨_, rfl⟩
  obtain ⟨s2, hs2⟩ : ∃ u, u = clearCore core (advanceEpoch .core core s1) := ⟨_, rfl⟩
  obtain ⟨s3, hs3⟩ : ∃ u, u = setUnit .core core (fun u => { u with st := .enabled }) s2 := ⟨_, rfl⟩
  have hunit : s3.unit .core core = { s.unit .core core with st := .enabled, epoch := ((s.unit .core core).epoch + 1) % 65536 } := by
    rw [hs3, unit_setUnit_same, hs2, (clearCore_frame ..).unit_eq rfl, unit_advanceEpoch, if_pos rfl, hs1]
    rfl
  have hin : s3.boot.bringIns = s.boot.bringIns.filter (fun y => y.core != core) := by
    rw [hs3, (setUnit_frame ..).bringIns_eq rfl, hs2, (clearCore_frame ..).bringIns_eq rfl, (advanceEpoch_frame ..).bringIns_eq rfl, hs1]
    rfl
  have htray : (s3.coreRec core).tray = [] := by
    rw [hs3, (setUnit_frame ..).coreRec_eq rfl, hs2, clearCore_tray]
  have hq : ∀ t, Frame replyParts s3 t → (t.unit .core core).st = .enabled ∧ (t.unit .core core).epoch = ((s.unit .core core).epoch + 1) % 65536
      ∧ t.boot.bringIns = s.boot.bringIns.filter (fun y => y.core != core) ∧ (t.coreRec core).tray = [] := by
    intro t ht
    rw [ht.unit_eq rfl, hunit, ht.bringIns_eq rfl, ht.coreRec_eq rfl]
    exact ⟨rfl, rfl, hin, htray⟩
  refine ⟨_, by rw [exec, execSpareBringinDone, h]; dsimp only; rw [if_pos rfl, ← hs1, ← hs2, ← hs3], hq _ ?_⟩
  have hn : Frame replyParts s3 (notify 0x1F05 (leBytes 1 1 ++ leBytes 4 core) (crumb 1 core 0x0E (1 + core * 2 ^ 32)
      (onlyIf (s3.unit .core b.for_).retiredRole (fun s => notify 0x1F04 (leBytes 1 1 ++ leBytes 4 b.for_) (crumb 1 b.for_ 0x0E (1 + b.for_ * 2 ^ 32) s)) s3))) :=
    frame_notify (by decide) (frame_crumb (by decide) (frame_onlyIf (fun v hv => frame_notify (by decide) (frame_crumb (by decide) hv)) (Frame.refl _ s3)))
  split
  · exact frame_reply (by decide) (frame_reply (by decide) hn)
  · exact hn

/-- A spare that fails its self-test is retired (R594). -/
theorem spareBringinDone_bad {s : State} {core : Nat} {b : BringIn} (h : s.boot.bringIns.find? (fun b => b.core == core && b.woken) = some b) :
    Does (.spareBringinDone core false) s (fun t => (t.unit .core core).st = .retired ∧ (t.unit .core core).retiredRole = true) := by
  refine ⟨_, by rw [exec, execSpareBringinDone, h]; rfl, ?_⟩
  dsimp only
  rw [bringSpare_unit, Frame.unit_eq (P := [.ledger, .leaves, .sessions, .rings, .kodp, .ctrs, .out]) (frame_notify (by decide) (frame_crumb (by decide) (Frame.refl _ _))) rfl, unit_setUnit_same]
  exact ⟨rfl, rfl⟩

/-- The larder repairs a row that a check found bad (R595). -/
theorem rowRepair_bad {s : State} {channel pseudo bank row : Nat} (hfrozen : s.frozen = false)
    (hbad : s.integ.badRows.contains (channel, pseudo * 16 + bank, row) = true) (hleft : agetD s.boot.rowsUsed (bankKey channel pseudo bank) 0 < 64) :
    Does (.rowRepair channel pseudo bank row) s (fun t =>
      agetD t.boot.rowsUsed (bankKey channel pseudo bank) 0 = agetD s.boot.rowsUsed (bankKey channel pseudo bank) 0 + 1
        ∧ t.integ.badRows.contains (channel, pseudo * 16 + bank, row) = false) := by
  obtain ⟨hused, -, hrows⟩ := @repairRow_spare (bankKey channel pseudo bank) row s hleft
  refine ⟨repairRow (bankKey channel pseudo bank) row s, by rw [exec, execRowRepair, hfrozen, hbad]; rfl, hused, ?_⟩
  rw [hrows, List.contains_eq_mem, decide_eq_false_iff_not]
  intro h
  have hkept := (List.mem_filter.mp h).2
  simp [bankKey, Nat.add_assoc] at hkept

/-- A bank repaired has all its spare rows again (R596). -/
theorem bankRepairDone_listed {s : State} {channel pseudo bank : Nat} {x : Nat × Option Req} (hfrozen : s.frozen = false)
    (h : s.boot.bankRepairs.find? (fun x => x.1 == bankKey channel pseudo bank) = some x) :
    Does (.bankRepairDone channel pseudo bank) s (fun t => agetD t.boot.rowsUsed (bankKey channel pseudo bank) 0 = 0
      ∧ t.boot.bankRepairs = s.boot.bankRepairs.filter (fun y => y.1 != bankKey channel pseudo bank)) := by
  obtain ⟨key, hkey⟩ : ∃ k, k = bankKey channel pseudo bank := ⟨_, rfl⟩
  rw [← hkey] at h ⊢
  obtain ⟨s1, hs1⟩ : ∃ u, u = (s.onBoot (fun b => { b with bankRepairs := b.bankRepairs.filter (fun y => y.1 != key), rowsUsed := adel b.rowsUsed key })).onInteg
    (fun g => { g with badRows := g.badRows.filter (fun y => y.1 * 32 + y.2.1 != key) }) := ⟨_, rfl⟩
  obtain ⟨s2, hs2⟩ : ∃ u, u = crumb 3 channel 0x0E (5 + key * 2 ^ 32) (copyChecked (s1.bankLines key) s1) := ⟨_, rfl⟩
  refine ⟨match x.2 with | some r => reply (cmdObj 0x1F20 5 roleOp) r .ok [] s2 | none => s2,
    by rw [exec, execBankRepairDone, hfrozen, if_neg Bool.false_ne_true]; dsimp only; rw [← hkey, h]; rw [hs2, hs1] <;> rfl, ?_⟩
  have h2 : s2.boot = s1.boot := by
    rw [hs2, Frame.boot_eq (P := [.rings]) (frame_crumb (by decide) (Frame.refl _ _)) rfl rfl rfl, (copyChecked_frame ..).boot_eq rfl rfl rfl]
  have hboot : (match x.2 with | some r => reply (cmdObj 0x1F20 5 roleOp) r .ok [] s2 | none => s2).boot = s1.boot := by
    split
    · rw [(reply_frame ..).boot_eq rfl rfl rfl, h2]
    · exact h2
  dsimp only
  rw [hboot, hs1]
  refine ⟨?_, rfl⟩
  show agetD (adel s.boot.rowsUsed key) key 0 = 0
  rw [agetD, aget_adel_same]
  rfl

/-- Service mode is entered, and left once no unit is out (R597). -/
theorem serviceModeWrite_replies {s : State} {r : Req} {value : Nat} (hvalue : value ≤ 1) (hout : value = 0 → s.anyOut = false) :
    Replies (.serviceModeWrite r value) s (writeObj .serviceMode) r 1 (leBytes 1 value) .ok [] (fun t => t.obj .serviceMode = value ∧ t.boot = s.boot) := by
  obtain ⟨b, hb⟩ : ∃ b, b = begun (writeObj .serviceMode) r (leBytes 1 value) 1 s := ⟨_, rfl⟩
  have hboot : b.boot = s.boot := hb ▸ (begun_frame ..).boot_eq rfl rfl rfl
  refine replies_of_operate (u := setObj .serviceMode value b) rfl ?_ rfl ?_ rfl (by rw [← hb]) (by rw [← hb]; rfl) ⟨?_, ?_⟩
  · simpa using hvalue
  · simpa using hout
  · rw [(reply_frame ..).obj_eq rfl]
    exact agetD_aset_same ..
  · rw [(reply_frame ..).boot_eq rfl rfl rfl]
    exact hboot

theorem Frame.port_eq {P : List Part} {s t : State} (h : Frame P s t) (hp : P.contains .link = false) (p : Nat) : t.port p = s.port p := by
  unfold State.port
  rw [h.link_eq hp]

theorem disablePort_frame (p : Nat) (s : State) : Frame [.link, .txn, .ledger, .mirror, .traffic, .leaves] s (disablePort p s) :=
  frame_disablePort (by decide) (Frame.refl _ s)

theorem disablePort_st (p : Nat) (s : State) : ((disablePort p s).port p).st = .disabled := by
  unfold disablePort
  extract_lets was
  rw [Frame.port_eq (P := [.txn, .ledger, .mirror, .traffic, .leaves]) (frame_onlyIf (fun v hv => frame_leftActive (by decide) hv) (Frame.refl _ _)) rfl, port_portTo_same]

section
variable {s : State} {r : Req} {unit : Nat} (hmode : s.obj .serviceMode = 1)
include hmode

/-- A channel is taken out of service; memory stays (R598). -/
theorem serviceOut_channel (hunit : unit < 256) (hin : s.unitOut 3 unit = false) (hres : s.unitResetting 3 unit = false) :
    Replies (.serviceOut r 3 unit) s (serviceObj 1) r 1 (serviceArg 3 unit) .ok [] (fun t => (t.unit .channel unit).st = .out ∧ t.mem = s.mem) := by
  refine replies_of_operate (u := takeOut 3 unit (begun (serviceObj 1) r (serviceArg 3 unit) 1 s)) rfl ?_ rfl ?_ rfl rfl rfl ⟨?_, ?_⟩
  · simpa [unitAbsent] using hunit
  · simp [hmode, hin, hres]
  · rw [(reply_frame ..).unit_eq rfl]
    unfold takeOut
    dsimp only
    rw [if_neg (by decide), if_neg (by decide), if_pos rfl, unit_setUnit_same]
  · rw [(reply_frame ..).mem_eq rfl]
    exact (begun_frame (serviceObj 1) r (serviceArg 3 unit) 1 s).mem_eq rfl

/-- A port is taken out of service: it is disabled (R598). -/
theorem serviceOut_port (hp : portPresent unit = true) (hin : s.unitOut 5 unit = false) :
    Replies (.serviceOut r 5 unit) s (serviceObj 1) r 1 (serviceArg 5 unit) .ok [] (fun t =>
      t.boot.portsOut = s.boot.portsOut ++ [unit] ∧ (t.port unit).st = .disabled) := by
  obtain ⟨b, hb⟩ : ∃ b, b = begun (serviceObj 1) r (serviceArg 5 unit) 1 s := ⟨_, rfl⟩
  have hboot : b.boot = s.boot := hb ▸ (begun_frame ..).boot_eq rfl rfl rfl
  refine replies_of_operate (u := disablePort unit (b.onBoot (fun x => { x with portsOut := x.portsOut ++ [unit] }))) rfl ?_ rfl ?_ rfl
    (by rw [← hb]; rfl) ?_ ⟨?_, ?_⟩
  · simpa [unitAbsent] using hp
  · simp [hmode, hin, State.unitResetting]
  · rw [(disablePort_frame ..).running_eq rfl, ← hb]
    rfl
  · rw [(reply_frame ..).boot_eq rfl rfl rfl, (disablePort_frame ..).boot_eq rfl rfl rfl, ← hboot]
    rfl
  · rw [(reply_frame ..).port_eq rfl, disablePort_st]

/-- A port recalibrated asks for its lanes to be restored (R598). -/
theorem serviceRecal_port (hp : portPresent unit = true) (hout : s.unitOut 5 unit = true) :
    Replies (.serviceRecal r 5 unit) s (serviceObj 2) r 1 (serviceArg 5 unit) .ok [] (fun t => (t.port unit).laneRestore = true ∧ t.boot = s.boot) := by
  refine replies_of_operate (u := useFree (setPort unit (fun p => { p with laneRestore := true }) (begun (serviceObj 2) r (serviceArg 5 unit) 1 s))) rfl ?_ rfl ?_ rfl
    rfl rfl ⟨?_, ?_⟩
  · simpa [unitAbsent] using hp
  · simp [hmode, hout, State.unitResetting]
  · rw [(reply_frame ..).port_eq rfl]
    rw [Frame.port_eq (P := [.free]) (frame_useFree (by decide) (Frame.refl _ _)) rfl, port_setPort_same]
  · rw [(reply_frame ..).boot_eq rfl rfl rfl]
    exact (begun_frame (serviceObj 2) r (serviceArg 5 unit) 1 s).boot_eq rfl rfl rfl

/-- A core out of service is replaced by a spare that is brought in (R598). -/
theorem serviceReplace_core {c : Nat} (hp : corePresent unit = true) (hout : s.unitOut 1 unit = true) (hres : s.coreResetting unit = false)
    (hspare : s.spareCore (clusterOf unit) = some c) : Starts (.serviceReplace r 1 unit) s (serviceObj 3) r 1 (serviceArg 1 unit) (fun t =>
      t.boot.bringIns.map BringIn.asked = s.boot.bringIns.map BringIn.asked ++ [(c, unit, some r, s.now)]) := by
  obtain ⟨b, hb⟩ : ∃ b, b = begun (serviceObj 3) r (serviceArg 1 unit) 1 s := ⟨_, rfl⟩
  have hf : Frame begunParts s b := hb ▸ begun_frame ..
  obtain ⟨hasked, hrun⟩ := @bringSpare_asked unit c (some r) b (by rw [hf.spareCore_eq rfl rfl, hspare])
  refine starts_of_operate (u := bringSpare unit (some r) b) rfl ?_ rfl ?_ rfl (by rw [← hb]) ?_ ?_
  · simpa [unitAbsent] using hp
  · simp [hmode, hout, State.unitResetting, hres]
  · rw [hrun, hb]
    exact runningOf_mem_begun ..
  · rw [hasked, hf.bringIns_eq rfl, hf.now_eq rfl]

/-- A core comes back into service as an enabled core or a spare (R598). -/
theorem serviceIn_core (hp : corePresent unit = true) (hout : s.unitOut 1 unit = true) (hres : s.coreResetting unit = false)
    (hrole : (s.unit .core unit).retiredRole = false) :
    Replies (.serviceIn r 1 unit) s (serviceObj 4) r 1 (serviceArg 1 unit) .ok [] (fun t =>
      (t.unit .core unit).st = (if s.enabledIn (clusterOf unit) < Config.enabledPerCluster then .enabled else .spare)
        ∧ (t.unit .core unit).epoch = ((s.unit .core unit).epoch + 1) % 65536) := by
  obtain ⟨b, hb⟩ : ∃ b, b = begun (serviceObj 4) r (serviceArg 1 unit) 1 s := ⟨_, rfl⟩
  have hf : Frame begunParts s b := hb ▸ begun_frame ..
  obtain ⟨st, hst⟩ : ∃ st : UnitSt, st = if b.enabledIn (clusterOf unit) < Config.enabledPerCluster then .enabled else .spare := ⟨_, rfl⟩
  obtain ⟨w, hw⟩ : ∃ w, w = setUnit .core unit (fun u => { u with st := st, retiredRole := false, recal := false }) b := ⟨_, rfl⟩
  have henabled : b.enabledIn (clusterOf unit) = s.enabledIn (clusterOf unit) := by
    unfold State.enabledIn
    simp only [hf.unit_eq rfl]
  refine replies_of_operate (u := clearCore unit (advanceEpoch .core unit w)) rfl ?_ rfl ?_ rfl
    (by rw [← hb, if_pos rfl, ← hst, hw]) ?_ ?_
  · simpa [unitAbsent] using hp
  · simp [hmode, hout, State.unitResetting, hres, hrole]
  · rw [(clearCore_frame ..).running_eq rfl, (advanceEpoch_frame ..).running_eq rfl, hw, ← hb]
    rfl
  · rw [(reply_frame ..).unit_eq rfl, (clearCore_frame ..).unit_eq rfl, unit_advanceEpoch, if_pos rfl, hw, unit_setUnit_same, ← henabled, ← hf.unit_eq rfl]
    exact ⟨hst, rfl⟩

/-- A cluster comes back into service through its reset (R598). -/
theorem serviceIn_cluster (hunit : unit < 16) (hout : s.unitOut 2 unit = true) :
    Starts (.serviceIn r 2 unit) s (serviceObj 4) r 1 (serviceArg 2 unit)
      (fun t => t.boot.partials.getLast? = some { kind := 2, unit := unit, since := s.now, req := some r }) := by
  obtain ⟨b, hb⟩ : ∃ b, b = begun (serviceObj 4) r (serviceArg 2 unit) 1 s := ⟨_, rfl⟩
  obtain ⟨w, hw⟩ : ∃ w, w = setUnit .cluster unit (fun u => { u with st := .enabled, recal := false }) b := ⟨_, rfl⟩
  have hf : Frame (.units :: begunParts) s w := by
    rw [hw, hb]
    exact frame_setUnit (by decide) (frame_begun (by decide) (Frame.refl _ s))
  have hmem : runningOf (serviceObj 4) r (serviceArg 2 unit) 1 ∈ w.kodp.running := by
    rw [hw, hb]
    exact runningOf_mem_begun ..
  have hst : (s.unit .cluster unit).st = .out := by simpa [State.unitOut] using hout
  refine starts_of_operate (u := beginClusterReset unit (some r) w) rfl ?_ rfl ?_ rfl (by rw [← hb]; dsimp only; rw [if_neg (by decide), if_pos rfl, ← hw]) ?_ ?_
  · simpa [unitAbsent] using hunit
  · simp [hmode, hout, State.unitResetting, State.clusterResetting, hst]
  · have hruns := @absorbCluster_runs unit 4 _ w hmem ⟨fun h => absurd (show 4 = 3 from h.2) (by decide), fun h => absurd (show 0x1F30 = 0x1F20 from h.1) (by decide)⟩
      fun h => absurd (show 0x1F30 = 0x1F20 from h.1) (by decide)
    unfold beginClusterReset
    exact hruns
  · unfold beginClusterReset
    extract_lets t
    clear hmem
    have ht : t.now = s.now := by
      rw [Frame.now_eq (P := [.ledger, .dir, .dram, .deep, .recp, .core, .mirror, .leaves, .power, .sessions, .boot, .units, .partials, .rings, .kodp, .running, .ctrs, .out])
        (frame_absorbCluster (by decide) (Frame.refl _ w)) rfl, hf.now_eq rfl]
    clear_value t
    rw [← ht]
    exact List.getLast?_concat

/-- A port comes back into service: it is listed as out no more (R598). -/
theorem serviceIn_port (hp : portPresent unit = true) (hout : s.unitOut 5 unit = true) :
    Replies (.serviceIn r 5 unit) s (serviceObj 4) r 1 (serviceArg 5 unit) .ok [] (fun t => t.boot.portsOut = s.boot.portsOut.filter (· ≠ unit)) := by
  obtain ⟨b, hb⟩ : ∃ b, b = begun (serviceObj 4) r (serviceArg 5 unit) 1 s := ⟨_, rfl⟩
  have hboot : b.boot = s.boot := hb ▸ (begun_frame ..).boot_eq rfl rfl rfl
  obtain ⟨w, hw⟩ : ∃ w, w = b.onBoot (fun b => { b with portsOut := b.portsOut.filter (· ≠ unit) }) := ⟨_, rfl⟩
  have hf : Frame [.link, .txn, .ledger, .deep, .mirror, .traffic, .leaves, .sessions, .rings, .kodp, .ctrs, .out] w (if w.engineLit unit then detectPort unit w else w) := by
    split
    · exact frame_detectPort (by decide) (Frame.refl _ w)
    · exact Frame.refl _ w
  refine replies_of_operate (u := if w.engineLit unit then detectPort unit w else w) rfl ?_ rfl ?_ rfl
    (by rw [← hb, if_neg (by decide), if_neg (by decide), if_neg (by decide), if_neg (by decide), ← hw]) ?_ ?_
  · simpa [unitAbsent] using hp
  · simp [hmode, hout, State.unitResetting]
  · rw [hf.running_eq rfl, hw, ← hb]
    rfl
  · rw [(reply_frame ..).boot_eq rfl rfl rfl, hf.boot_eq rfl rfl rfl, hw, ← hboot]
    rfl

end

/-- Settles O5: each operation is accepted, runs its effect and is answered (`replies_of_operate`) or goes on (`starts_of_operate`). -/
theorem larderAndService : Obligations.LarderAndService := by
  intro s r
  exact ⟨fun unit c => retireUnit_core, fun unit => retireUnit_row, fun unit => retireUnit_way, fun core b => spareBringinDone_good,
    fun core b => spareBringinDone_bad, fun channel pseudo bank row hf hb _ _ hl => rowRepair_bad hf hb hl, fun channel pseudo bank x => bankRepairDone_listed,
    fun value => serviceModeWrite_replies, fun unit hu hm => serviceOut_channel hm hu, fun unit hp hm => serviceOut_port hm hp,
    fun unit hp hm => serviceRecal_port hm hp, fun unit c hp hm => serviceReplace_core hm hp, fun unit hp hm => serviceIn_core hm hp,
    fun unit hu hm => serviceIn_cluster hm hu, fun unit hp hm => serviceIn_port hm hp⟩

end Sys2Proof.Machine
end

section
/-!
PROOF. The states of a port: what its lanes' events, its timers and PORT_COMMAND leave of it (R94, R95, R103, R110, R115 to R118, R139 to R141).
-/
namespace Sys2Proof.Machine

/-! ### A port and its lanes -/

theorem setPort_frame (p : Nat) (f : Port → Port) (s : State) : Frame [.link] s (setPort p f s) := frame_setPort (by decide) (Frame.refl _ s)

theorem lane_untrained (q : Port) (l : Nat) : q.untrained.lane l = { q.lane l with run := 0, same := 0 } := by
  unfold Port.lane Port.untrained agetD
  dsimp only
  induction q.lanes with
  | nil => rfl
  | cons e t ih =>
    obtain ⟨k, v⟩ := e
    by_cases h : k = l
    · simp [aget, h]
    · simpa [aget, h] using ih

theorem port_setLane (p l : Nat) (f : Lane → Lane) (s : State) :
    (setLane p l f s).port p = { s.port p with lanes := amod (s.port p).lanes l Lane.reset f } := port_setPort_same ..

theorem lane_setLane (p l : Nat) (f : Lane → Lane) (s : State) : ((setLane p l f s).port p).lane l = f ((s.port p).lane l) := by
  rw [port_setLane]
  exact agetD_amod_same ..

theorem setLane_frame (p l : Nat) (f : Lane → Lane) (s : State) : Frame [.link] s (setLane p l f s) := setPort_frame ..

/-! ### Leaving Active, and retraining -/

theorem port_portTo (p : Nat) (st : PortSt) (f : Port → Port) (s : State) : (portTo p st f s).port p
    = { f (s.port p) with st := st, changedAt := s.now, retrainReq := false, litAt := if st = .detect then s.now else (f (s.port p)).litAt } :=
  port_setPort_same ..

theorem port_portDown (p cause : Nat) (s : State) :
    (portDown p cause s).port p = { (s.port p).fresh with st := .down, changedAt := s.now, retrainReq := false } := by
  unfold portDown
  extract_lets q n t1 t2 t3 t4 t5
  have h5 : Frame [.txn, .ledger, .mirror, .traffic, .leaves, .sessions, .rings, .kodp, .ctrs, .out] t1 t5 :=
    frame_onlyIf (fun v hv => frame_notify (by decide) hv) (frame_notify (by decide) (frame_onlyIf (fun v hv => frame_leftActive (by decide) hv)
      (frame_bumpBy (by decide) (Frame.refl _ t1))))
  have h : t5.port p = { (s.port p).fresh with st := .down, changedAt := s.now, retrainReq := false } := by
    rw [h5.port_eq rfl, port_portTo]
    rfl
  clear_value t5
  split
  · rw [Frame.port_eq (P := [.ledger, .deep, .leaves, .sessions, .rings, .kodp, .ctrs, .out]) (frame_notify (by decide) (frame_setSled (by decide) (Frame.refl _ _))) rfl, h]
  · exact h

theorem port_trainFails (p cause : Nat) (s : State) : (trainFails p cause s).port p
    = { (s.port p).fresh with st := .down, changedAt := s.now, retrainReq := false, failed := (s.port p).failed + 1 } := by
  unfold trainFails
  rw [port_portDown, Frame.port_eq (P := [.ctrs]) (frame_bump (by decide) (Frame.refl _ _)) rfl, Frame.now_eq (P := [.ctrs]) (frame_bump (by decide) (Frame.refl _ _)) rfl,
    port_setPort_same]
  rfl

theorem port_portIgnored (p q : Nat) (s : State) : (portIgnored p s).port q = s.port q :=
  Frame.port_eq (P := [.ctrs]) (frame_bump (by decide) (Frame.refl _ s)) rfl q

theorem port_retrainTrigger_active {p cause : Nat} {s : State} (h : (s.port p).st = .active) :
    ∃ times next, (retrainTrigger p cause s).port p
      = { (s.port p).untrained with st := .retrain, changedAt := s.now, retrainReq := true, retrainTimes := times, retireNext := next } := by
  unfold retrainTrigger
  extract_lets q times t u gone
  have hq : q.st = .active := h
  rw [if_neg (by rw [hq]; decide), if_neg (by rw [hq]; decide)]
  have hu : u.port p = { (s.port p).untrained with st := .retrain, changedAt := s.now, retrainReq := true, retrainTimes := times } := by
    rw [Frame.port_eq (P := [.txn, .rings, .ctrs]) (frame_chooseParent (by decide) (frame_bump (by decide) (frame_crumb (by decide) (Frame.refl _ t)))) rfl,
      port_setPort_same]
  clear_value u
  split
  · exact ⟨_, _, hu⟩
  split
  · split
    · rw [port_setPort_same, hu]
      exact ⟨_, _, rfl⟩
    · exact ⟨_, _, hu⟩
  · rw [Frame.port_eq (P := [.ledger, .leaves, .sessions, .rings, .kodp, .ctrs, .out]) (frame_notify (by decide) (Frame.refl _ u)) rfl]
    exact ⟨_, _, hu⟩

theorem port_retrainTrigger_of_ne {p cause : Nat} {s : State} (h : (s.port p).st ≠ .active) : (retrainTrigger p cause s).port p = s.port p := by
  unfold retrainTrigger
  extract_lets q times t u gone
  have hq : (q.st != .active) = true := bne_iff_ne.mpr h
  split
  · rfl
  · rw [port_portIgnored]

/-! ### Reaching Active -/

theorem port_reachedActive (p : Nat) (s : State) :
    ∃ released control, (reachedActive p s).port p = { s.port p with released := released, control := control } := by
  unfold reachedActive
  extract_lets t
  have ht : ∃ released control, t.port p = { s.port p with released := released, control := control } := ⟨_, _, port_setPort_same ..⟩
  clear_value t
  split
  · rw [Frame.port_eq (P := [.txn, .ledger, .leaves]) (frame_sendInfo (by decide) (Frame.refl _ t)) rfl]
    exact ht
  split
  · rw [Frame.port_eq (P := [.ledger, .leaves]) (frame_repin (by decide) (Frame.refl _ t)) rfl]
    exact ht
  · exact ht

theorem port_adoptMaps (p tx rx : Nat) (training : Bool) (s : State) : ∃ narrowed lanes, (adoptMaps p tx rx training s).port p
    = { s.port p with txRetired := tx, rxRetired := rx, txWidth := widthOf tx, rxWidth := widthOf rx, retireReq := 0, retireNext := 0, laneRestore := false
                      narrowed := narrowed, lanes := lanes } := by
  unfold adoptMaps
  extract_lets q wasTx wasRx grown t u full v w
  have hu : u.port p = _ := port_setPort_same ..
  have ht : t.port p = s.port p := Frame.port_eq (P := [.ctrs]) (frame_bumpBy (by decide) (Frame.refl _ s)) rfl p
  rw [ht] at hu
  rw [Frame.port_eq (P := [.ledger, .leaves, .sessions, .boot, .rings, .kodp, .ctrs, .out]) (frame_onlyIf (fun v hv => frame_notify (by decide) hv)
    (frame_onlyIf (fun v hv => frame_notify (by decide) hv) (frame_onlyIf (fun v hv => frame_exhaust (by decide) hv)
      (frame_onlyIf (fun v hv => frame_exhaust (by decide) hv) (Frame.refl _ u))))) rfl, hu]
  exact ⟨_, _, rfl⟩

/-- A port that has trained is Active, with its link layer begun anew (R117, R118). -/
theorem port_trainDone {p : Nat} {s : State} (hclash : s.profileClash p = false) (hok : s.widthsOk p (s.port p).newMaps.1 (s.port p).newMaps.2 = true) :
    ((trainDone p s).port p).st = .active ∧ ((trainDone p s).port p).rtt = (s.port p).trainedRtt ∧ ((trainDone p s).port p).failed = 0
      ∧ ((trainDone p s).port p).e = 0 ∧ ((trainDone p s).port p).next = 0 ∧ ((trainDone p s).port p).replay = []
      ∧ ((trainDone p s).port p).txWidth = widthOf (s.port p).newMaps.1 ∧ ((trainDone p s).port p).rxWidth = widthOf (s.port p).newMaps.2 := by
  unfold trainDone
  dsimp only
  rw [hclash, hok, if_neg Bool.false_ne_true, if_neg (by decide)]
  obtain ⟨released, control, hr⟩ := port_reachedActive p (portTo p .active (fun q => { q.fresh with failed := 0, rtt := (s.port p).trainedRtt })
    (adoptMaps p (s.port p).newMaps.1 (s.port p).newMaps.2 true s))
  obtain ⟨narrowed, lanes, ha⟩ := port_adoptMaps p (s.port p).newMaps.1 (s.port p).newMaps.2 true s
  rw [hr, port_portTo, ha]
  exact ⟨rfl, rfl, rfl, rfl, rfl, rfl, rfl, rfl⟩

/-- A port that has retrained is Active, with its link layer kept, and replays what is not acknowledged (R118, R137). -/
theorem port_retrainDone {p : Nat} {s : State} (hok : s.widthsOk p (s.port p).newMaps.1 (s.port p).newMaps.2 = true) :
    ((retrainDone p s).port p).st = .active ∧ ((retrainDone p s).port p).e = (s.port p).e ∧ ((retrainDone p s).port p).base = (s.port p).base
      ∧ ((retrainDone p s).port p).next = (s.port p).next ∧ ((retrainDone p s).port p).replay = (s.port p).replay
      ∧ ((retrainDone p s).port p).nakPending = (s.port p).nakPending ∧ ((retrainDone p s).port p).rtt = (s.port p).trainedRtt
      ∧ ((retrainDone p s).port p).replaying = (if (s.port p).replay = [] then none else some (s.port p).base) := by
  unfold retrainDone
  dsimp only
  rw [hok, if_neg (by decide)]
  obtain ⟨released, control, hr⟩ := port_reachedActive p (portTo p .active (fun q => { q with
    rtt := q.trainedRtt, replaying := if q.replay.isEmpty then none else some q.base, resync := s.compact p })
    (adoptMaps p (s.port p).newMaps.1 (s.port p).newMaps.2 false s))
  obtain ⟨narrowed, lanes, ha⟩ := port_adoptMaps p (s.port p).newMaps.1 (s.port p).newMaps.2 false s
  rw [hr, port_portTo, ha]
  exact ⟨rfl, rfl, rfl, rfl, rfl, rfl, rfl, if_congr List.isEmpty_iff rfl rfl⟩

/-! ### The lanes' events -/

section
variable {s : State} {port lane : Nat} (hp : portPresent port = true)
include hp

theorem laneThere_of_present (hlane : lane < 9) : laneThere port lane = true := by
  simp [laneThere, hp, hlane]

/-- A lane that loses its signal is asked to be retired by a port that trains or is linked, and an Active port retrains for one it uses (R110, R116). -/
theorem laneLos_does (hlane : lane < 9) : Does (.laneLos port lane) s (fun t =>
    ((t.port port).lane lane).los = true ∧ ((t.port port).lane lane).locked = false
      ∧ (t.port port).retireReq = (if (s.port port).st = .train ∨ (s.port port).linked = true then (s.port port).retireReq ||| 2 ^ lane
          else (s.port port).retireReq)
      ∧ (t.port port).st = (if (s.port port).st = .active ∧ (activeLanes (s.port port).rxRetired).contains lane = true then .retrain else (s.port port).st)) := by
  obtain ⟨asks, hasks⟩ : ∃ b, b = ((s.port port).st == .train || (s.port port).st == .active || (s.port port).st == .retrain) := ⟨_, rfl⟩
  obtain ⟨u, hu⟩ : ∃ u, u = setPort port (fun q => { q with retireReq := if asks then q.retireReq ||| 2 ^ lane else q.retireReq })
    (setLane port lane (fun l => { l with los := true, locked := false, run := 0, same := 0 }) s) := ⟨_, rfl⟩
  have hexec : exec (.laneLos port lane) s = .next (onlyIf ((s.port port).st == .active && (activeLanes (s.port port).rxRetired).contains lane)
      (retrainTrigger port 4) u) := by
    rw [exec, execLaneLos, laneThere_of_present hp hlane, if_neg (by decide), hu, hasks]
  have hport : u.port port = { s.port port with
      retireReq := if asks then (s.port port).retireReq ||| 2 ^ lane else (s.port port).retireReq
      lanes := amod (s.port port).lanes lane Lane.reset (fun l => { l with los := true, locked := false, run := 0, same := 0 }) } := by
    rw [hu, port_setPort_same, port_setLane]
  have hlanes : (u.port port).lane lane = { (s.port port).lane lane with los := true, locked := false, run := 0, same := 0 } := by
    rw [hport, Port.lane]
    dsimp only
    rw [agetD_amod_same]
    rfl
  have hreq : (u.port port).retireReq = if (s.port port).st = .train ∨ (s.port port).linked = true then (s.port port).retireReq ||| 2 ^ lane
      else (s.port port).retireReq := by
    rw [hport]
    refine if_congr ?_ rfl rfl
    rw [hasks]
    simp only [Port.linked, Bool.or_eq_true, beq_iff_eq, or_assoc]
  have hst : (u.port port).st = (s.port port).st := by rw [hport]
  refine ⟨_, hexec, ?_⟩
  dsimp only
  by_cases hactive : (s.port port).st = .active ∧ (activeLanes (s.port port).rxRetired).contains lane = true
  · obtain ⟨times, next, ht⟩ := @port_retrainTrigger_active port 4 u (hst.trans hactive.1)
    have hon : ((s.port port).st == .active && (activeLanes (s.port port).rxRetired).contains lane) = true := by rw [hactive.1, hactive.2]; rfl
    rw [hon, onlyIf, if_pos rfl, ht, if_pos hactive]
    have hl := lane_untrained (u.port port) lane
    rw [hlanes] at hl
    exact ⟨congrArg Lane.los hl, congrArg Lane.locked hl, hreq, rfl⟩
  · have hon : ((s.port port).st == .active && (activeLanes (s.port port).rxRetired).contains lane) = false := by
      rw [Bool.eq_false_iff, ne_eq, Bool.and_eq_true, beq_iff_eq]
      exact hactive
    rw [hon, onlyIf, if_neg Bool.false_ne_true, if_neg hactive, hlanes]
    exact ⟨rfl, rfl, hreq, hst⟩

/-- A control block that is not one is counted; the lane keeps the last good one (R102, R104). -/
theorem lcbReceived_bad {x : LaneFrame} (hlane : lane < 9) (hx : Lcb.ofBytes x.block = none) : Does (.lcbReceived port lane x) s (fun t =>
    Counts .badLcbs port 1 s t ∧ ((t.port port).lane lane).lcb = ((s.port port).lane lane).lcb ∧ ((t.port port).lane lane).run = 0
      ∧ Frame [.link, .ctrs] s t) := by
  refine ⟨_, by rw [exec, execLcbReceived, laneThere_of_present hp hlane, if_neg (by decide)]; dsimp only; rw [hx], ?_, ?_, ?_,
    frame_bump (by decide) (frame_setLane (by decide) (frame_setLane (by decide) (Frame.refl _ s)))⟩
  · exact ctr_bumpBy_same ..
  · rw [Frame.port_eq (P := [.ctrs]) (frame_bump (by decide) (Frame.refl _ _)) rfl, lane_setLane, lane_setLane]
    rfl
  · rw [Frame.port_eq (P := [.ctrs]) (frame_bump (by decide) (Frame.refl _ _)) rfl, lane_setLane]

/-- A good control block is shown, counts towards the lane's lock, and may ask an Active port to retrain (R102 to R104, R116). -/
theorem lcbReceived_good {x : LaneFrame} {c : Lcb} (hlane : lane < 9) (hx : Lcb.ofBytes x.block = some c) : Does (.lcbReceived port lane x) s (fun t =>
    ((t.port port).lane lane).lcb = some c ∧ (t.port port).shown = some c
      ∧ ((t.port port).lane lane).power = x.fec.power ∧ ((t.port port).lane lane).uncorr = ((s.port port).lane lane).uncorr + x.fec.uncorr
      ∧ ((t.port port).lane lane).locked = (((s.port port).lane lane).locked || decide (((s.port port).lane lane).run + 1 ≥ 3))
      ∧ (t.port port).st = (if c.retrainReq = true ∧ (s.port port).st = .active then .retrain else (s.port port).st)) := by
  obtain ⟨a, ha⟩ : ∃ a, a = (setLane port lane (fun y => y.report x.fec) s).stampNow port := ⟨_, rfl⟩
  obtain ⟨u, hu⟩ : ∃ u, u = setLane port lane (fun y => y.take c a) (setLane port lane (fun y => y.report x.fec) s) := ⟨_, rfl⟩
  obtain ⟨w, hw⟩ : ∃ w, w = setPort port (fun q => { q with
    shown := some c, retireNext := q.retireNext ||| c.retireReq
    trips := if c.echo = 0 then q.trips else ((a + 2 * 2 ^ 32 - c.echo - c.echoHold) % 2 ^ 32 :: q.trips).take 64 }) u := ⟨_, rfl⟩
  have hexec : exec (.lcbReceived port lane x) s = .next (onlyIf c.retrainReq (retrainTrigger port 5) w) := by
    rw [exec, execLcbReceived, laneThere_of_present hp hlane, if_neg (by decide)]
    dsimp only
    rw [hx, hw, hu, ha]
  have hlanew : (w.port port).lane lane = (((s.port port).lane lane).report x.fec).take c a := by
    have : (w.port port).lane lane = (u.port port).lane lane := by
      rw [hw, port_setPort_same]
      rfl
    rw [this, hu, lane_setLane, lane_setLane]
  have hst : (w.port port).st = (s.port port).st := by
    rw [hw, port_setPort_same, hu, port_setLane, port_setLane]
  have hshown : (w.port port).shown = some c := by rw [hw, port_setPort_same]
  refine ⟨_, hexec, ?_⟩
  dsimp only
  by_cases hretrain : c.retrainReq = true ∧ (s.port port).st = .active
  · obtain ⟨times, next, ht⟩ := @port_retrainTrigger_active port 5 w (hst.trans hretrain.2)
    rw [hretrain.1, onlyIf, if_pos rfl, ht, if_pos ⟨rfl, hretrain.2⟩]
    have hl := lane_untrained (w.port port) lane
    rw [hlanew] at hl
    exact ⟨congrArg Lane.lcb hl, hshown, congrArg Lane.power hl, congrArg Lane.uncorr hl, congrArg Lane.locked hl, rfl⟩
  · have hkept : (onlyIf c.retrainReq (retrainTrigger port 5) w).port port = w.port port := by
      unfold onlyIf
      split
      · rename_i h
        exact port_retrainTrigger_of_ne fun hact => hretrain ⟨h, hst.symm.trans hact⟩
      · rfl
    rw [hkept, if_neg hretrain, hlanew]
    exact ⟨rfl, hshown, rfl, rfl, rfl, hst⟩

/-! ### The port's own events -/

/-- A port that trains or is linked and goes dark falls to Down; a training that so ends has failed (R115, R116). -/
theorem portDark_does (hlit : (s.port port).lit = false) (hst : (s.port port).st = .train ∨ (s.port port).linked = true) :
    Does (.portDark port) s (fun t => (t.port port).st = .down
      ∧ (t.port port).failed = (if (s.port port).st = .train then (s.port port).failed + 1 else (s.port port).failed) ∧ t.mem = s.mem) := by
  have hgo : (!portPresent port || (s.port port).lit) = false := by rw [hp, hlit]; rfl
  by_cases htrain : (s.port port).st = .train
  · have hexec : exec (.portDark port) s = .next (trainFails port 3 s) := by
      rw [exec, execPortDark, hgo, if_neg Bool.false_ne_true, htrain]
    refine ⟨_, hexec, ?_, ?_, (exec_frame _ s _ hexec).mem_eq rfl⟩
    · rw [port_trainFails]
    · rw [port_trainFails, if_pos htrain]
  · have hlinked : (s.port port).st = .active ∨ (s.port port).st = .retrain := by
      simpa only [Port.linked, Bool.or_eq_true, beq_iff_eq] using hst.resolve_left htrain
    have hexec : exec (.portDark port) s = .next (portDown port 3 s) := by
      rw [exec, execPortDark, hgo, if_neg Bool.false_ne_true]
      rcases hlinked with h | h <;> rw [h]
    refine ⟨_, hexec, ?_, ?_, (exec_frame _ s _ hexec).mem_eq rfl⟩
    · rw [port_portDown]
    · rw [port_portDown, if_neg htrain]
      rfl

/-- A port in Detect that is lit begins to train, its counts begun anew (R115, R117). -/
theorem detectLit_detect (hlit : (s.port port).lit = true) (hst : (s.port port).st = .detect) :
    Does (.detectLit port) s (fun t => (t.port port).st = .train ∧ (t.port port).changedAt = s.now ∧ (t.port port).startFlits = 0
      ∧ (∀ lane, ((t.port port).lane lane).run = 0) ∧ Frame [.link] s t) := by
  have hexec : exec (.detectLit port) s = .next (beginTrain port s) := by
    rw [exec, execDetectLit, hp, hlit, if_neg (by decide), if_pos hst]
  refine ⟨_, hexec, ?_, ?_, ?_, fun lane => ?_, frame_beginTrain (by decide) (Frame.refl _ s)⟩
  all_goals unfold beginTrain; rw [port_portTo]
  · rfl
  · exact congrArg Lane.run (lane_untrained (s.port port) lane)

/-- Light in another state is counted and ignored (R116). -/
theorem detectLit_other (hlit : (s.port port).lit = true) (hst : (s.port port).st ≠ .detect) :
    Does (.detectLit port) s (fun t => Counts .portEventsIgnored port 1 s t ∧ Frame [.ctrs] s t) := by
  refine ⟨portIgnored port s, ?_, ctr_bumpBy_same .., frame_bump (by decide) (Frame.refl _ s)⟩
  rw [exec, execDetectLit, hp, hlit, if_neg (by decide), if_neg hst]

theorem trainComplete_does (hst : (s.port port).st = .train) (hflits : (s.port port).flitStarted = true) (hclash : s.profileClash port = false)
    (hok : s.widthsOk port (s.port port).newMaps.1 (s.port port).newMaps.2 = true) :
    Does (.trainComplete port) s (fun t => (t.port port).st = .active ∧ (t.port port).rtt = (s.port port).trainedRtt ∧ (t.port port).failed = 0
      ∧ (t.port port).e = 0 ∧ (t.port port).next = 0 ∧ (t.port port).replay = [] ∧ (t.port port).txWidth = widthOf (s.port port).newMaps.1
      ∧ (t.port port).rxWidth = widthOf (s.port port).newMaps.2) :=
  ⟨trainDone port s, by rw [exec, execTrainComplete, hp, if_neg (by decide), if_pos ⟨hst, hflits⟩], port_trainDone hclash hok⟩

/-- A training that times out has failed (R116). -/
theorem trainTimeout_does (hst : (s.port port).st = .train) : Does (.trainTimeout port) s (fun t =>
    (t.port port).st = .down ∧ (t.port port).failed = (s.port port).failed + 1 ∧ t.mem = s.mem) := by
  have hexec : exec (.trainTimeout port) s = .next (trainFails port 1 s) := by
    rw [exec, execTrainTimeout, hp, if_neg (by decide), if_pos hst]
  refine ⟨_, hexec, ?_, ?_, (exec_frame _ s _ hexec).mem_eq rfl⟩ <;> rw [port_trainFails]

theorem retrainComplete_does (hst : (s.port port).st = .retrain) (hflits : (s.port port).flitStarted = true)
    (hok : s.widthsOk port (s.port port).newMaps.1 (s.port port).newMaps.2 = true) : Does (.retrainComplete port) s (fun t =>
      (t.port port).st = .active ∧ (t.port port).e = (s.port port).e ∧ (t.port port).base = (s.port port).base ∧ (t.port port).next = (s.port port).next
        ∧ (t.port port).replay = (s.port port).replay ∧ (t.port port).nakPending = (s.port port).nakPending
        ∧ (t.port port).rtt = (s.port port).trainedRtt ∧ (t.port port).replaying = (if (s.port port).replay = [] then none else some (s.port port).base)) :=
  ⟨retrainDone port s, by rw [exec, execRetrainComplete, hp, if_neg (by decide), if_pos ⟨hst, hflits⟩], port_retrainDone hok⟩

/-- A retrain that times out loses the link (R118, R140). -/
theorem retrainTimeout_does (hst : (s.port port).st = .retrain) : Does (.retrainTimeout port) s (fun t =>
    (t.port port).st = .down ∧ (t.port port).replay = [] ∧ (t.port port).e = 0 ∧ t.mem = s.mem) := by
  have hexec : exec (.retrainTimeout port) s = .next (portDown port 2 s) := by
    rw [exec, execRetrainTimeout, hp, if_neg (by decide), if_pos hst]
  refine ⟨_, hexec, ?_, ?_, ?_, (exec_frame _ s _ hexec).mem_eq rfl⟩ <;> rw [port_portDown] <;> rfl

/-- A port leaves Down for Detect once its hold is over (R115). -/
theorem downHoldExpiry_does (hst : (s.port port).st = .down) (hlit : s.engineLit port = true) :
    Does (.downHoldExpiry port) s (fun t => (t.port port).st = .detect ∧ Frame [.link] s t) := by
  refine ⟨portTo port .detect id s, ?_, by rw [port_portTo], frame_portTo (by decide) (Frame.refl _ s)⟩
  rw [exec, execDownHoldExpiry, hp, if_neg (by decide), if_neg (fun h => h hst), if_pos hlit]

/-! ### PORT_COMMAND -/

/-- What PORT_COMMAND answers when it is not refused. -/
theorem portCommand_replies {c : Instr} {r : Req} {action : Nat} {refused : Bool} {eff : State → State} {q : State → Prop}
    (hexec : exec c s = .next (portCommand r port action refused eff s)) (hno : refused = false) {u : State}
    (hu : eff (begun (cmdObj 0x1220 1 roleOp) r (leBytes 1 port ++ leBytes 1 action) 1 s) = u)
    (hkept : u.kodp.running = (begun (cmdObj 0x1220 1 roleOp) r (leBytes 1 port ++ leBytes 1 action) 1 s).kodp.running)
    (hq : ∀ t : State, t.port port = u.port port → q t) :
    Replies c s (cmdObj 0x1220 1 roleOp) r 1 (leBytes 1 port ++ leBytes 1 action) .ok [] q := by
  subst hno
  unfold portCommand operateOk at hexec
  exact replies_of_operate hexec (by rw [hp]; rfl) rfl rfl rfl (congrArg _ hu) hkept (hq _ ((reply_frame ..).port_eq rfl port))

theorem port_detectPort (h : (s.port port).st = .disabled) : ((detectPort port s).port port).st
    = if s.pkg.fault = false then (if s.engineLit port = true then .detect else .down) else .disabled := by
  unfold detectPort
  cases hfault : s.pkg.fault with
  | true => rw [if_pos (.inr rfl), if_neg (by decide), h]
  | false =>
    rw [if_neg (by rintro (h' | h'); exacts [h' h, Bool.false_ne_true h']), if_pos rfl]
    split
    · rw [port_portTo]
    · rw [port_portDown]

/-- PORT_COMMAND Enable takes a Disabled port to Detect (R115; with no light, Down, and with FAULT_N, nowhere: log 126). -/
theorem portEnable_replies {r : Req} (hout : (s.port port).st = .disabled → s.boot.portsOut.contains port = false)
    (hwide : s.compact port = true → s.obj .nodeEid < 0x1000 ∧ s.obj .serviceEid < 0x1000) :
    Replies (.portEnable r port) s (cmdObj 0x1220 1 roleOp) r 1 (leBytes 1 port ++ leBytes 1 1) .ok [] (fun t =>
      (t.port port).st = (if (s.port port).st = .disabled ∧ s.pkg.fault = false then (if s.engineLit port = true then .detect else .down)
        else (s.port port).st)) := by
  obtain ⟨b, hb⟩ : ∃ b, b = begun (cmdObj 0x1220 1 roleOp) r (leBytes 1 port ++ leBytes 1 1) 1 s := ⟨_, rfl⟩
  have hf : Frame begunParts s b := hb ▸ begun_frame ..
  obtain ⟨u, hu⟩ : ∃ u, u = if (s.port port).st = .disabled then detectPort port b else if (s.port port).st = .down then b else portIgnored port b := ⟨_, rfl⟩
  refine portCommand_replies hp rfl ?_ (u := u) (by rw [← hb, hu]) ?_ fun t ht => ?_
  · have h1 : ((s.port port).st == .disabled && s.boot.portsOut.contains port) = false := by
      rw [Bool.eq_false_iff, ne_eq, Bool.and_eq_true, beq_iff_eq]
      exact fun h => absurd (hout h.1 ▸ h.2) (by decide)
    have h2 : (s.compact port && (decide (s.obj .nodeEid ≥ 0x1000) || decide (s.obj .serviceEid ≥ 0x1000))) = false := by
      rw [Bool.eq_false_iff, ne_eq, Bool.and_eq_true, Bool.or_eq_true, decide_eq_true_eq, decide_eq_true_eq]
      rintro ⟨hc, h⟩
      have := hwide hc
      omega
    rw [h1, h2]
    rfl
  · rw [← hb, hu]
    split
    · exact Frame.running_eq (P := [.link, .txn, .ledger, .deep, .mirror, .traffic, .leaves, .sessions, .rings, .kodp, .ctrs, .out]) (frame_detectPort (by decide) (Frame.refl _ b)) rfl
    · split <;> rfl
  · have hst : (b.port port).st = (s.port port).st := by rw [hf.port_eq rfl]
    have hlit : b.engineLit port = s.engineLit port := by unfold State.engineLit; rw [hf.pkg_eq rfl]
    rw [ht, hu]
    by_cases hd : (s.port port).st = .disabled
    · rw [if_pos hd, port_detectPort hp (hst.trans hd), hf.pkg_eq rfl, hlit]
      by_cases hfault : s.pkg.fault = false
      · have hon : (s.port port).st = .disabled ∧ s.pkg.fault = false := ⟨hd, hfault⟩
        rw [if_pos hfault, if_pos hon]
      · have hoff : ¬((s.port port).st = .disabled ∧ s.pkg.fault = false) := fun h => hfault h.2
        rw [if_neg hfault, if_neg hoff, hd]
    · have hoff : ¬((s.port port).st = .disabled ∧ s.pkg.fault = false) := fun h => hd h.1
      rw [if_neg hd, if_neg hoff, ← hst]
      by_cases hdown : (b.port port).st = .down
      · rw [if_pos hdown]
      · rw [if_neg hdown, port_portIgnored]

/-- PORT_COMMAND Disable (R115). -/
theorem portDisable_replies {r : Req} :
    Replies (.portDisable r port) s (cmdObj 0x1220 1 roleOp) r 1 (leBytes 1 port ++ leBytes 1 2) .ok [] (fun t => (t.port port).st = .disabled) := by
  obtain ⟨b, hb⟩ : ∃ b, b = begun (cmdObj 0x1220 1 roleOp) r (leBytes 1 port ++ leBytes 1 2) 1 s := ⟨_, rfl⟩
  have hf : Frame begunParts s b := hb ▸ begun_frame ..
  obtain ⟨u, hu⟩ : ∃ u, u = if (s.port port).st = .disabled then portIgnored port b else disablePort port b := ⟨_, rfl⟩
  refine portCommand_replies hp rfl rfl (u := u) (by rw [← hb, hu]) ?_ fun t ht => ?_
  · rw [← hb, hu]
    split
    · rfl
    · exact (disablePort_frame ..).running_eq rfl
  · rw [ht, hu]
    split
    · rw [port_portIgnored, hf.port_eq rfl]
      assumption
    · exact disablePort_st ..

theorem retrainTrigger_frame (cause : Nat) (s : State) :
    Frame [.link, .txn, .ledger, .leaves, .sessions, .rings, .kodp, .ctrs, .out] s (retrainTrigger port cause s) :=
  frame_retrainTrigger (by decide) (Frame.refl _ s)

/-- PORT_COMMAND Retrain takes an Active port to Retrain (R116, R118). -/
theorem portRetrain_replies {r : Req} (hst : (s.port port).st = .active) :
    Replies (.portRetrain r port) s (cmdObj 0x1220 1 roleOp) r 1 (leBytes 1 port ++ leBytes 1 3) .ok [] (fun t =>
      (t.port port).st = .retrain ∧ (t.port port).retrainReq = true) := by
  obtain ⟨b, hb⟩ : ∃ b, b = begun (cmdObj 0x1220 1 roleOp) r (leBytes 1 port ++ leBytes 1 3) 1 s := ⟨_, rfl⟩
  have hf : Frame begunParts s b := hb ▸ begun_frame ..
  refine portCommand_replies hp rfl ?_ (u := retrainTrigger port 6 b) (by rw [← hb, if_pos hst]) ?_ fun t ht => ?_
  · rw [hst]
    rfl
  · rw [← hb, (retrainTrigger_frame hp ..).running_eq rfl]
  · obtain ⟨times, next, h⟩ := @port_retrainTrigger_active port 6 b (by rw [hf.port_eq rfl, hst])
    rw [ht, h]
    exact ⟨rfl, rfl⟩

/-- PORT_COMMAND Lane restore retrains an Active port with LANE_RESTORE (R141). -/
theorem portLaneRestore_replies {r : Req} (hst : (s.port port).st = .active) :
    Replies (.portLaneRestore r port) s (cmdObj 0x1220 1 roleOp) r 1 (leBytes 1 port ++ leBytes 1 4) .ok [] (fun t =>
      (t.port port).st = .retrain ∧ (t.port port).laneRestore = true) := by
  obtain ⟨b, hb⟩ : ∃ b, b = begun (cmdObj 0x1220 1 roleOp) r (leBytes 1 port ++ leBytes 1 4) 1 s := ⟨_, rfl⟩
  have hf : Frame begunParts s b := hb ▸ begun_frame ..
  refine portCommand_replies hp rfl ?_ (u := retrainTrigger port 6 (setPort port (fun q => { q with laneRestore := true }) b)) (by rw [← hb]) ?_ fun t ht => ?_
  · rw [hst]
    rfl
  · rw [← hb, (retrainTrigger_frame hp ..).running_eq rfl, (setPort_frame ..).running_eq rfl]
  · obtain ⟨times, next, h⟩ := @port_retrainTrigger_active port 6 (setPort port (fun q => { q with laneRestore := true }) b)
      (by rw [port_setPort_same, hf.port_eq rfl, hst])
    rw [ht, h, port_setPort_same]
    exact ⟨rfl, rfl⟩

end

/-- Settles O6: each event and each command of a port by its own lemma above. -/
theorem portStates : Obligations.PortStates := by
  intro s port hp
  refine ⟨fun lane => laneLos_does hp, fun lane hlane => ?_, portDark_does hp, detectLit_detect hp, detectLit_other hp, fun lane x => lcbReceived_bad hp,
    fun lane x c => lcbReceived_good hp, trainComplete_does hp, trainTimeout_does hp, retrainComplete_does hp, retrainTimeout_does hp,
    downHoldExpiry_does hp, fun r => portEnable_replies hp, fun r => portDisable_replies hp, fun r => portRetrain_replies hp,
    fun r => portLaneRestore_replies hp⟩
  exact ⟨_, by rw [exec, execLaneSignalRestored, if_pos (laneThere_of_present hp hlane)], lane_setLane .., setLane_frame ..⟩

end Sys2Proof.Machine
end

section
/-!
PROOF. The flit stream: flits received and sent, and the link layer's timers (R105, R120 to R139, R640).
-/
namespace Sys2Proof.Machine

section
variable {s : State} {port : Nat} (hst : (s.port port).st = .active)
include hst

/-! ### Flits received -/

theorem exec_flitReceived {f : Flit} (hfrozen : s.frozen = false) : exec (.flitReceived port f) s
    = .next (if f.broken then (if (bump .crcErrors port s).compact port then bump .crcErrors port s else nakFor port 1 (bump .crcErrors port s))
        else if s.compact port then compactFlit port f s else grandFlit port f s) := by
  rw [exec, execFlitReceived, hfrozen, if_neg Bool.false_ne_true, hst, if_neg (by decide)]

theorem exec_flitReceived_grand {f : Flit} (hfrozen : s.frozen = false) (hcrc : f.crc = crc64 f.front) (hbad : f.bad = []) (hgrand : s.compact port = false) :
    exec (.flitReceived port f) s = .next (grandFlit port f s) := by
  have hwhole : f.broken = false := by rw [Flit.broken, hcrc, hbad, bne_self_eq_false]; rfl
  rw [exec_flitReceived hst hfrozen, hwhole, if_neg Bool.false_ne_true, hgrand, if_neg Bool.false_ne_true]

omit hst in
theorem broken_of {f : Flit} (h : f.crc ≠ crc64 f.front ∨ f.bad ≠ []) : f.broken = true := by
  unfold Flit.broken
  rcases h with h | h
  · rw [bne_iff_ne.mpr h, Bool.true_or]
  · cases hb : f.bad with
    | nil => exact absurd hb h
    | cons => rw [List.isEmpty_cons, Bool.not_false, Bool.or_true]

omit hst in
/-- A NAK that is asked for is pending; nothing else of what is received changes (R127). -/
theorem port_nakFor (port reason : Nat) (s : State) : ∃ reason' control, (nakFor port reason s).port port
    = { s.port port with nakPending := true, nakReason := reason', control := control } := by
  unfold nakFor
  split
  · rename_i h
    exact ⟨_, _, (congrArg (fun b => { s.port port with nakPending := b }) h.symm).symm⟩
  · unfold sendNak queueRecord
    extract_lets q
    rw [Frame.port_eq (P := [.ctrs]) (frame_bump (by decide) (Frame.refl _ _)) rfl, port_setPort_same, port_setPort_same]
    exact ⟨_, _, rfl⟩

omit hst in
theorem nakFor_frame (port reason : Nat) (s : State) : Frame [.link, .ctrs] s (nakFor port reason s) := frame_nakFor (by decide) (Frame.refl _ s)

omit hst in
theorem ctr_nakFor {c : Ctr} {u : Nat} (port reason : Nat) (s : State) (h : (c, u) ≠ (.naksSent, port)) : (nakFor port reason s).ctr c u = s.ctr c u := by
  unfold nakFor
  split
  · rfl
  · unfold sendNak bump
    rw [ctr_bumpBy, if_neg h]
    rfl

/-- A flit with a bad CRC or a bad slice draws a NAK (R105, R127). -/
theorem flitReceived_broken {f : Flit} (hfrozen : s.frozen = false) (hbad : f.crc ≠ crc64 f.front ∨ f.bad ≠ []) (hgrand : s.compact port = false) :
    Does (.flitReceived port f) s (fun t => Counts .crcErrors port 1 s t ∧ (t.port port).nakPending = true ∧ (t.port port).e = (s.port port).e
      ∧ Frame [.link, .ctrs] s t) := by
  have hgo : (bump .crcErrors port s).compact port = false := hgrand
  refine ⟨_, by rw [exec_flitReceived hst hfrozen, broken_of hbad, if_pos rfl, hgo, if_neg Bool.false_ne_true], ?_, ?_⟩
  · unfold Counts
    rw [ctr_nakFor _ _ _ (by rintro ⟨⟩)]
    exact ctr_bumpBy_same ..
  · obtain ⟨reason, control, h⟩ := port_nakFor port 1 (bump .crcErrors port s)
    rw [h]
    exact ⟨rfl, rfl, frame_nakFor (by decide) (frame_bump (by decide) (Frame.refl _ s))⟩

/-- On a Compact port it is counted only (R137). -/
theorem flitReceived_brokenCompact {f : Flit} (hfrozen : s.frozen = false) (hbad : f.crc ≠ crc64 f.front ∨ f.bad ≠ []) (hcompact : s.compact port = true) :
    Does (.flitReceived port f) s (fun t => Counts .crcErrors port 1 s t ∧ Frame [.ctrs] s t) := by
  have hgo : (bump .crcErrors port s).compact port = true := hcompact
  refine ⟨bump .crcErrors port s, by rw [exec_flitReceived hst hfrozen, broken_of hbad, if_pos rfl, hgo, if_pos rfl], ctr_bumpBy_same .., frame_bump (by decide) (Frame.refl _ s)⟩

/-- An Idle flit's valid ACK frees the flits it acknowledges (R128, R129). -/
theorem flitReceived_idle {f : Flit} (hfrozen : s.frozen = false) (hcrc : f.crc = crc64 f.front) (hbad : f.bad = []) (hgrand : s.compact port = false)
    (hkind : f.kind = .idle) (hvalid : f.ackValid = true) (hnew : (f.ack + 4096 - (s.port port).base) % 4096 < (s.port port).outN)
    (hne : (f.ack + 4096 - (s.port port).base) % 4096 ≠ 4095) :
    Does (.flitReceived port f) s (fun t => t.out = s.out ∧ (t.port port).next = (s.port port).next
      ∧ (t.port port).base = ((s.port port).base + ((f.ack + 4096 - (s.port port).base) % 4096 + 1)) % 4096
      ∧ (t.port port).replay = (s.port port).replay.drop ((f.ack + 4096 - (s.port port).base) % 4096 + 1)) := by
  refine ⟨_, exec_flitReceived_grand hst hfrozen hcrc hbad hgrand, ?_⟩
  have hack : grandFlit port f s = setPort port (fun q => q.freeFlits ((f.ack + 4096 - (s.port port).base) % 4096 + 1)) s := by
    unfold grandFlit
    extract_lets t d
    rw [hkind]
    show onlyIf f.ackValid (applyAck port f.ack) s = _
    rw [hvalid, onlyIf, if_pos rfl, applyAck, if_neg hne, if_pos hnew]
  dsimp only
  rw [hack, port_setPort_same]
  exact ⟨rfl, rfl, rfl, rfl⟩

omit hst in
theorem grandFlit_data {f : Flit} {s : State} (hkind : f.kind = .data) (hvalid : f.ackValid = false) : grandFlit port f s
    = if (f.seq + 4096 - (s.port port).e) % 4096 = 0 then takeSlots port f handOn s
      else if (f.seq + 4096 - (s.port port).e) % 4096 ≤ 2047 then nakFor port 2 s else bump .duplicates port s := by
  unfold grandFlit
  rw [hkind, hvalid, onlyIf, if_neg Bool.false_ne_true]

/-- The Data flit that is next in order is accepted, and the packets it ends are handed on (R122 to R124, R127). -/
theorem flitReceived_next {f : Flit} {cur : Option Partial} {done : List Packet} {begun : List (Nat × Nat)} (hfrozen : s.frozen = false)
    (hcrc : f.crc = crc64 f.front) (hbad : f.bad = []) (hgrand : s.compact port = false) (hkind : f.kind = .data) (hvalid : f.ackValid = false)
    (hnext : (f.seq + 4096 - (s.port port).e) % 4096 = 0) (hframe : frame f (s.port port).rxPart = some (cur, done, begun)) :
    Does (.flitReceived port f) s (fun t => ∃ u, t = forAll done (handOn port) u ∧ (u.port port).e = (f.seq + 1) % 4096
      ∧ (u.port port).accepted = true ∧ (u.port port).rxPart = cur ∧ (u.port port).nakPending = false ∧ Frame [.link] s u) := by
  refine ⟨_, exec_flitReceived_grand hst hfrozen hcrc hbad hgrand, setPort port (fun q => { q with
      e := (f.seq + 1) % 4096, accepted := true, nakPending := false, resync := false, rxPart := cur
      rxAccepted := begun.foldl (fun (m : Assoc Nat Nat) x => amod m x.1 0 (fun n => (n + x.2) % 65536)) q.rxAccepted }) s, ?_, ?_, ?_, ?_, ?_, setPort_frame ..⟩
  · rw [grandFlit_data hkind hvalid, if_pos hnext, takeSlots, hframe]
  all_goals rw [port_setPort_same]

/-- A Data flit ahead of the next draws a NAK (R127). -/
theorem flitReceived_ahead {f : Flit} (hfrozen : s.frozen = false) (hcrc : f.crc = crc64 f.front) (hbad : f.bad = []) (hgrand : s.compact port = false)
    (hkind : f.kind = .data) (hvalid : f.ackValid = false) (hlo : 1 ≤ (f.seq + 4096 - (s.port port).e) % 4096)
    (hhi : (f.seq + 4096 - (s.port port).e) % 4096 ≤ 2047) : Does (.flitReceived port f) s (fun t =>
      (t.port port).nakPending = true ∧ (t.port port).e = (s.port port).e ∧ (t.port port).rxPart = (s.port port).rxPart ∧ Frame [.link, .ctrs] s t) := by
  refine ⟨_, exec_flitReceived_grand hst hfrozen hcrc hbad hgrand, ?_⟩
  obtain ⟨reason, control, h⟩ := port_nakFor port 2 s
  rw [grandFlit_data hkind hvalid, if_neg (Nat.one_le_iff_ne_zero.mp hlo), if_pos hhi, h]
  exact ⟨rfl, rfl, rfl, nakFor_frame ..⟩

/-- One behind is a duplicate (R127). -/
theorem flitReceived_duplicate {f : Flit} (hfrozen : s.frozen = false) (hcrc : f.crc = crc64 f.front) (hbad : f.bad = []) (hgrand : s.compact port = false)
    (hkind : f.kind = .data) (hvalid : f.ackValid = false) (hlo : 2047 < (f.seq + 4096 - (s.port port).e) % 4096) :
    Does (.flitReceived port f) s (fun t => Counts .duplicates port 1 s t ∧ Frame [.ctrs] s t) := by
  refine ⟨_, exec_flitReceived_grand hst hfrozen hcrc hbad hgrand, ?_⟩
  rw [grandFlit_data hkind hvalid, if_neg (by omega), if_neg (Nat.not_le.mpr hlo)]
  exact ⟨ctr_bumpBy_same .., frame_bump (by decide) (Frame.refl _ s)⟩

/-! ### Flits sent -/

omit hst in
theorem close_refreshed (f : Flit) (ack : Nat) (valid : Bool) : (Flit.close { f with ack := ack, ackValid := valid }).seq = f.seq
    ∧ (Flit.close { f with ack := ack, ackValid := valid }).kind = f.kind ∧ (Flit.close { f with ack := ack, ackValid := valid }).slots = f.slots :=
  ⟨rfl, rfl, rfl⟩

omit hst in
theorem close_crc (f : Flit) : f.close.crc = crc64 f.close.front := rfl

omit hst in
theorem mkFlit_crc (s : State) (port seq : Nat) (kind : FlitKind) (headMap cont : Nat) (slots : List (List Byte)) :
    (s.mkFlit port seq kind headMap cont slots).crc = crc64 (s.mkFlit port seq kind headMap cont slots).front := close_crc _

/-- In a debug stop an Active port sends Idle flits with the last ACK (R640). -/
theorem flitSend_frozen (hfrozen : s.frozen = true) : Does (.flitSend port) s (fun t => ∃ f, t = { s with out := .flit port f :: s.out }
    ∧ f.kind = .idle ∧ f.crc = crc64 f.front ∧ f.ack = ((s.port port).e + 4095) % 4096) := by
  refine ⟨sendIdle port s, ?_, _, rfl, rfl, mkFlit_crc .., rfl⟩
  rw [exec, execFlitSend, hst, if_neg (by decide), hfrozen, if_pos rfl]

theorem exec_flitSend (hfrozen : s.frozen = false) (hmoved : s.creditsMoved port = false) : exec (.flitSend port) s
    = .next (if !(s.port port).control.isEmpty then sendControl port s
        else match (s.port port).replaying with
          | some n => sendReplay port n s
          | none =>
            if s.compact port || decide ((s.port port).outN < 2047) then sendData port s
            else sendIdle port (bumpBy .windowStallNs port (((s.port port).stall + (if (s.port port).txWidth = 4 then 256 else 128)) / 100)
              (setPort port (fun q => { q with stall := ((s.port port).stall + (if (s.port port).txWidth = 4 then 256 else 128)) % 100 }) s))) := by
  rw [exec, execFlitSend, hst, if_neg (by decide), hfrozen, if_neg Bool.false_ne_true, hmoved]
  rfl

/-- Control records go first, up to 15 in a flit (R125, R126). -/
theorem flitSend_control (hfrozen : s.frozen = false) (hmoved : s.creditsMoved port = false) (hcontrol : (s.port port).control ≠ []) :
    Does (.flitSend port) s (fun t => ∃ f, t.out = .flit port f :: s.out ∧ f.kind = .control ∧ f.crc = crc64 f.front
      ∧ f.slots.take ((s.port port).control.take 15).length = ((s.port port).control.take 15).map (s.freshRecord port)
      ∧ (t.port port).control = (s.port port).control.drop 15 ∧ Frame [.link, .out] s t) := by
  have hgo : (!(s.port port).control.isEmpty) = true := by rw [Bool.not_eq_true', List.isEmpty_eq_false_iff]; exact hcontrol
  refine ⟨_, by rw [exec_flitSend hst hfrozen hmoved, hgo, if_pos rfl], _, rfl, rfl, mkFlit_crc .., ?_, ?_, frame_sendControl (by decide) (Frame.refl _ s)⟩
  · show List.take _ (List.map _ _ ++ _) = _
    rw [List.take_append_of_le_length (by rw [List.length_map]), List.take_of_length_le (by rw [List.length_map])]
  · unfold sendControl
    extract_lets q f
    rw [Frame.port_eq (P := [.out]) (frame_sendFlit (by decide) (Frame.refl _ _)) rfl, port_setPort_same]

/-- Then what a replay owes, as first sent (R125, R129). -/
theorem flitSend_replay {n : Nat} {x : Nat × Flit} (hfrozen : s.frozen = false) (hmoved : s.creditsMoved port = false) (hcontrol : (s.port port).control = [])
    (hreplaying : (s.port port).replaying = some n) (hx : (s.port port).replay[(n + 4096 - (s.port port).base) % 4096]? = some x) :
    Does (.flitSend port) s (fun t => ∃ f, t.out = .flit port f :: s.out ∧ f.seq = x.2.seq ∧ f.kind = x.2.kind ∧ f.slots = x.2.slots
      ∧ f.crc = crc64 f.front ∧ Counts .replayedFlits port 1 s t ∧ (t.port port).replay = (s.port port).replay) := by
  have hexec : exec (.flitSend port) s = .next (sendReplay port n s) := by
    rw [exec_flitSend hst hfrozen hmoved, hcontrol, if_neg (by decide), hreplaying]
  refine ⟨_, hexec, ?_⟩
  unfold sendReplay
  extract_lets q
  have hq : q.replay[(n + 4096 - q.base) % 4096]? = some x := hx
  rw [hq]
  obtain ⟨f, hf⟩ : ∃ f, f = Flit.close { x.2 with ack := (s.mkFlit port 0 .idle 0 0 []).ack, ackValid := (s.mkFlit port 0 .idle 0 0 []).ackValid } := ⟨_, rfl⟩
  have hcrc : f.crc = crc64 f.front := hf ▸ close_crc _
  obtain ⟨hseq, hkind, hslots⟩ : f.seq = x.2.seq ∧ f.kind = x.2.kind ∧ f.slots = x.2.slots := hf ▸ close_refreshed ..
  dsimp only
  rw [← hf]
  refine ⟨f, rfl, hseq, hkind, hslots, hcrc, ctr_bumpBy_same .., ?_⟩
  rw [Frame.port_eq (P := [.ctrs, .out]) (frame_bump (by decide) (frame_sendFlit (by decide) (Frame.refl _ _))) rfl, port_setPort_same]

/-- Then new slots, while the window has room (R125, R129, R131). -/
theorem flitSend_data {u : State} {slots : List (List Byte)} {map cont : Nat} (hfrozen : s.frozen = false) (hmoved : s.creditsMoved port = false)
    (hcontrol : (s.port port).control = []) (hreplaying : (s.port port).replaying = none) (hgrand : s.compact port = false)
    (hroom : (s.port port).outN < 2047) (hslots : dataSlots port s = (u, some (slots, map, cont))) :
    Does (.flitSend port) s (fun t => ∃ f, t.out = .flit port f :: u.out ∧ f.kind = .data ∧ f.seq = (u.port port).next ∧ f.headMap = map ∧ f.cont = cont
      ∧ f.crc = crc64 f.front ∧ (t.port port).next = ((u.port port).next + 1) % 4096 ∧ (t.port port).replay = (u.port port).replay ++ [(u.now, f)]) := by
  have hexec : exec (.flitSend port) s = .next (sendData port s) := by
    rw [exec_flitSend hst hfrozen hmoved, hcontrol, if_neg (by decide), hreplaying]
    dsimp only
    rw [if_pos (by rw [decide_eq_true hroom, Bool.or_true])]
  have hu : Frame [.link, .traffic, .leaves, .ctrs] s u := by
    have h := frame_dataSlots (port := port) (P := [.link, .traffic, .leaves, .ctrs]) (by decide) (Frame.refl _ s)
    rw [hslots] at h
    exact h
  have hgrandu : u.compact port = false := by
    rw [← hgrand]
    unfold State.compact State.table
    rw [(hu.dict_eq rfl).2.1]
  have hsend : sendData port s = sendFlit port (u.mkFlit port (u.port port).next .data map cont slots) (setPort port (fun q => { q with
      next := (q.next + 1) % 4096
      replay := if u.compact port then q.replay else q.replay ++ [(u.now, u.mkFlit port (u.port port).next .data map cont slots)] }) u) := by
    rw [sendData, hslots]
  have hport := Frame.port_eq (P := [.out]) (frame_sendFlit (f := u.mkFlit port (u.port port).next .data map cont slots) (port := port) (by decide)
    (Frame.refl _ (setPort port (fun q => { q with
      next := (q.next + 1) % 4096
      replay := if u.compact port then q.replay else q.replay ++ [(u.now, u.mkFlit port (u.port port).next .data map cont slots)] }) u))) rfl port
  rw [← hsend, port_setPort_same, hgrandu, if_neg Bool.false_ne_true] at hport
  refine ⟨_, hexec, u.mkFlit port (u.port port).next .data map cont slots, by rw [hsend]; rfl, rfl, rfl, rfl, rfl, mkFlit_crc .., ?_, ?_⟩
  · rw [hport]
  · rw [hport]

/-- A full window sends Idle flits, and the time that Data then waits is counted (R131). -/
theorem flitSend_full (hfrozen : s.frozen = false) (hmoved : s.creditsMoved port = false) (hcontrol : (s.port port).control = [])
    (hreplaying : (s.port port).replaying = none) (hgrand : s.compact port = false) (hfull : 2047 ≤ (s.port port).outN) :
    Does (.flitSend port) s (fun t => (∃ f, t.out = .flit port f :: s.out ∧ f.kind = .idle)
      ∧ Counts .windowStallNs port (((s.port port).stall + (if (s.port port).txWidth = 4 then 256 else 128)) / 100) s t
      ∧ (t.port port).stall = ((s.port port).stall + (if (s.port port).txWidth = 4 then 256 else 128)) % 100 ∧ Frame [.link, .ctrs, .out] s t) := by
  have hno : ¬(s.compact port || decide ((s.port port).outN < 2047)) = true := by
    rw [hgrand, Bool.false_or, decide_eq_true_eq]
    exact Nat.not_lt.mpr hfull
  refine ⟨sendIdle port (bumpBy .windowStallNs port (((s.port port).stall + (if (s.port port).txWidth = 4 then 256 else 128)) / 100)
    (setPort port (fun q => { q with stall := ((s.port port).stall + (if (s.port port).txWidth = 4 then 256 else 128)) % 100 }) s)),
    by rw [exec_flitSend hst hfrozen hmoved, hcontrol, if_neg (by decide), hreplaying]; dsimp only; rw [if_neg hno], ⟨_, rfl, rfl⟩, ?_, ?_, ?_⟩
  · exact ctr_bumpBy_same ..
  · rw [Frame.port_eq (P := [.ctrs, .out]) (frame_sendIdle (by decide) (frame_bumpBy (by decide) (Frame.refl _ _))) rfl, port_setPort_same]
  · exact frame_sendIdle (by decide) (frame_bumpBy (by decide) (frame_setPort (by decide) (Frame.refl _ s)))

/-! ### Timers -/

theorem linkActs_of (hfrozen : s.frozen = false) : s.linkActs port = true := by
  rw [State.linkActs, hfrozen, hst]
  rfl

/-- A pending NAK is sent again (R127). -/
theorem nakTimer_does (hfrozen : s.frozen = false) (hnak : (s.port port).nakPending = true) (hgrand : s.compact port = false) :
    Does (.nakTimer port) s (fun t => Counts .naksSent port 1 s t ∧ (t.port port).control
      = (s.port port).control ++ [padTo 16 (leBytes 2 3 ++ leBytes 2 (s.port port).e ++ leBytes 1 (s.port port).nakReason)]) := by
  refine ⟨sendNak port s, by rw [exec, execNakTimer, linkActs_of hst hfrozen, hnak, hgrand]; rfl, ctr_bumpBy_same .., ?_⟩
  unfold sendNak
  extract_lets q
  rw [Frame.port_eq (P := [.ctrs]) (frame_bump (by decide) (Frame.refl _ _)) rfl, queueRecord, port_setPort_same]

/-- Flits that no ACK frees are replayed (R129, R130). -/
theorem replayTimeout_does (hfrozen : s.frozen = false) (hout : (s.port port).outN ≠ 0) (hgrand : s.compact port = false)
    (htries : agetD (s.port port).replaysFrom (s.port port).base 0 < 3) :
    Does (.replayTimeout port) s (fun t => (t.port port).replaying = some (s.port port).base ∧ Counts .replays port 1 s t ∧ Frame [.link, .ctrs] s t) := by
  have hexec : exec (.replayTimeout port) s = .next (startReplay port (s.port port).base s) := by
    rw [exec, execReplayTimeout, linkActs_of hst hfrozen, hgrand, bne_iff_ne.mpr hout]
    rfl
  refine ⟨_, hexec, ?_⟩
  rw [startReplay]
  dsimp only
  rw [if_neg (Nat.not_le.mpr htries)]
  refine ⟨?_, ctr_bumpBy_same .., frame_bump (by decide) (frame_setPort (by decide) (Frame.refl _ s))⟩
  rw [Frame.port_eq (P := [.ctrs]) (frame_bump (by decide) (Frame.refl _ _)) rfl, port_setPort_same]

/-- A flit outstanding too long retrains the port (R139). -/
theorem oldestFlitTimeout_does (hfrozen : s.frozen = false) (hout : (s.port port).outN ≠ 0) (hgrand : s.compact port = false) :
    Does (.oldestFlitTimeout port) s (fun t => (t.port port).st = .retrain ∧ (t.port port).retrainReq = true ∧ (t.port port).changedAt = s.now
      ∧ t.mem = s.mem) := by
  have hexec : exec (.oldestFlitTimeout port) s = .next (retrainTrigger port 2 (timeoutFired 4 4 port 0 s)) := by
    rw [exec, execOldestFlitTimeout, linkActs_of hst hfrozen, hgrand, bne_iff_ne.mpr hout]
    rfl
  have hf := timeoutFired_frame 4 4 port 0 s
  obtain ⟨times, next, h⟩ := @port_retrainTrigger_active port 2 (timeoutFired 4 4 port 0 s) (by rw [hf.port_eq rfl, hst])
  refine ⟨_, hexec, ?_⟩
  dsimp only
  rw [h]
  exact ⟨rfl, rfl, hf.now_eq rfl, (exec_frame _ s _ hexec).mem_eq rfl⟩

omit hst in
/-- A credit report shows every total released: nothing has moved since (R136). -/
theorem creditsMoved_reportCredits (port : Nat) (s : State) : (reportCredits port s).creditsMoved port = false := by
  obtain ⟨tot, htot⟩ : ∃ tot, tot = (List.range 8).map (fun vc => (vc, s.releasedNow port vc)) := ⟨_, rfl⟩
  have hport : (reportCredits port s).port port
      = { s.port port with released := tot, control := (s.port port).control ++ [totalsRecord 1 (s.returned port) 0, totalsRecord 2 (s.returned port) 4] } := by
    rw [htot]
    exact port_setPort_same ..
  have hreported : ∀ vc, vc < 8 → agetD tot vc 0 = s.releasedNow port vc := by
    intro vc hvc
    rw [htot]
    interval_cases vc <;> rfl
  unfold State.creditsMoved
  rw [List.any_eq_false]
  intro vc hvc
  have hlt := List.mem_range.mp hvc
  rw [bne_iff_ne, ne_eq, not_not, hport]
  dsimp only
  rw [hreported vc hlt]
  unfold State.releasedNow
  rw [hport]
  dsimp only
  have hw : (reportCredits port s).withheld port vc = s.withheld port vc := rfl
  rw [hw]
  by_cases hheld : s.withheld port vc = true
  · rw [if_pos hheld, if_pos hheld, hreported vc hlt, State.releasedNow, if_pos hheld]
  · rw [if_neg hheld, if_neg hheld]
    rfl

theorem creditReportTimer_does (hfrozen : s.frozen = false) : Does (.creditReportTimer port) s (fun t => (t.port port).control
    = (s.port port).control ++ [totalsRecord 1 (s.returned port) 0, totalsRecord 2 (s.returned port) 4] ∧ t.creditsMoved port = false ∧ Frame [.link] s t) := by
  refine ⟨_, by rw [exec, execCreditReportTimer, linkActs_of hst hfrozen]; rfl, ?_, creditsMoved_reportCredits .., frame_reportCredits (by decide) (Frame.refl _ s)⟩
  exact (congrArg Port.control (port_setPort_same ..)).trans rfl

theorem chargedReportTimer_does (hfrozen : s.frozen = false) (hcompact : s.compact port = true) : Does (.chargedReportTimer port) s (fun t =>
    (t.port port).control = (s.port port).control ++ [padTo 16 (leBytes 16 4), padTo 16 (leBytes 16 5)] ∧ Frame [.link] s t) := by
  refine ⟨_, by rw [exec, execChargedReportTimer, linkActs_of hst hfrozen, hcompact]; rfl, ?_,
    frame_queueRecord (by decide) (frame_queueRecord (by decide) (Frame.refl _ s))⟩
  unfold queueRecord
  rw [port_setPort_same, port_setPort_same, List.append_assoc]
  rfl

end

/-- Settles O7: each flit and each timer by its own lemma above. -/
theorem flitStream : Obligations.FlitStream := by
  intro s port hst
  exact ⟨fun f => flitReceived_broken hst, fun f hf hc hb hg hk hv hn _ => flitReceived_idle hst hf hc hb hg hk hv hn, fun f cur done begun => flitReceived_next hst,
    fun f => flitReceived_ahead hst, fun f => flitReceived_duplicate hst, fun f => flitReceived_brokenCompact hst, flitSend_frozen hst, flitSend_control hst,
    fun n x => flitSend_replay hst, fun u slots map cont => flitSend_data hst, flitSend_full hst, nakTimer_does hst, replayTimeout_does hst,
    oldestFlitTimeout_does hst, creditReportTimer_does hst, chargedReportTimer_does hst⟩

end Sys2Proof.Machine
end

section
/-!
PROOF. Addressed requests and their data halves arrive (R160, R161, R224, R252).
-/
namespace Sys2Proof.Machine

/-! ### Packets that a port takes -/

/-- A fabric packet that its port takes goes on to what its opcode asks (R143 to R146, R171 to R173). -/
theorem arriveFabric_of_takes {s : State} {port : Nat} {p : Packet} (h : s.takes port p = true) (go : Packet → State → State) :
    arriveFabric port p go s = go p s := by
  simp only [State.takes, Bool.and_eq_true, Bool.or_eq_true, Bool.not_eq_true', bne_iff_ne, ne_eq, decide_eq_true_eq, beq_iff_eq] at h
  obtain ⟨⟨⟨⟨⟨⟨⟨⟨⟨hup, hfabric⟩, hnode⟩, hservice⟩, hsrc⟩, hlow⟩, hcompact⟩, hdest⟩, hcrc⟩, hshape⟩ := h
  unfold arriveFabric
  rw [hup, hfabric, if_neg (by decide)]
  dsimp only
  have h1 : ¬(s.obj .nodeEid = 0 ∨ s.obj .serviceEid = 0 ∨ p.src = 0 ∨ p.src ≥ 0x3FF00) := by omega
  have h2 : ¬((s.compact port && (decide (p.src ≥ 0x1000) || p.dest == 0 || (decide (p.dest ≥ 0x1000) && p.dest != 0x3FFFF))) = true) := by
    rcases hdest with hd | ⟨hd, -⟩ <;> cases hc : s.compact port <;> simp [hc] at hcompact ⊢ <;> omega
  have h3 : ¬((!(p.dest == s.obj .nodeEid || p.dest == s.obj .serviceEid || (p.dest == 0x3FFFF && p.op == 0x08))) = true) := by
    rcases hdest with hd | ⟨hd, -⟩ <;> simp [hd]
  have h4 : ¬((p.dest == s.obj .serviceEid && p.dest != s.obj .nodeEid && s.standby) = true) := by
    rcases hdest with hd | ⟨-, hd⟩ <;> simp [hd]
  rw [if_neg h1, if_neg h2, if_neg h3, hcrc, hshape, if_neg (by decide), if_neg (by decide), if_neg h4]

theorem needsHalf_iff {op : Nat} : needsHalf op = true ↔ op = 0x13 ∨ op = 0x14 ∨ op = 0x15 ∨ op = 0x18 := by
  simp [needsHalf]

/-- An addressed request that its slot lets in and policing lets pass, and that translates, is accepted (R224). -/
theorem arriveRequest_of_admits {s u v : State} {port slot pa tenant key tier : Nat} {p : Packet} (htakes : s.takes port p = true)
    (hadmits : s.admits slot p = true) (hnow : s.notNow p = false) (hpolices : s.polices port slot p u)
    (hcheck : checkAddressed port slot p u = (v, .ok pa tenant key tier)) :
    arriveRequest port p s = acceptRequest (newRequest v port slot p .ready pa tenant key tier) v := by
  simp only [State.admits, Bool.and_eq_true, Bool.not_eq_true', beq_iff_eq] at hadmits
  obtain ⟨⟨⟨⟨hslot, hactive⟩, hfirst⟩, hfree⟩, hcap⟩ := hadmits
  obtain ⟨r, hr, hst⟩ := Option.map_eq_some_iff.mp hactive
  obtain ⟨hholds, hbacklog, hcolour⟩ := hpolices
  unfold arriveRequest
  rw [arriveFabric_of_takes htakes]
  unfold intake
  rw [hfirst, onlyIf, if_neg Bool.false_ne_true]
  dsimp only
  rw [hslot]
  dsimp only
  rw [hr]
  dsimp only
  have hfree' : ¬ s.outstanding p.src p.tag = true := by rw [hfree]; exact Bool.false_ne_true
  have hcap' : ¬ s.lacksCap slot p.op = true := by rw [hcap]; exact Bool.false_ne_true
  rw [hst, if_neg (by decide), if_neg hfree', Bool.false_and, Bool.false_and, if_neg Bool.false_ne_true, if_neg hcap', if_neg (by decide)]
  unfold police
  rw [hnow, if_neg Bool.false_ne_true, hholds, hbacklog, List.isEmpty_nil, hcolour]
  simp only [Bool.not_true, Bool.or_false, Bool.false_eq_true, if_false, if_true]
  unfold admitRequest
  rw [hcheck]

theorem onOp_of_op {b : Bool} (h : b = true) (f : State → State) (s : State) : onOp b f s = .next (f s) := by
  rw [onOp, h, if_pos rfl]

/-! ### Acceptance -/

theorem answerByEviction_of_no_recall {q : Request} {s : State} (h : aget s.dir.recalls q.line = none) : answerByEviction q s = s := by
  unfold answerByEviction
  rw [h]

/-- What has no data half is accepted ready (R224). -/
theorem acceptRequest_ready {q : Request} {s : State} (hhalf : needsHalf q.op = false) (hev : ¬(q.op = 0x15 ∨ q.op = 0x16))
    (hrecall : aget s.dir.recalls q.line = none) : acceptRequest q s = s.onTxn (fun t => { t with reqs := t.reqs ++ [{ q with phase := .ready }] }) := by
  unfold acceptRequest acceptListed
  dsimp only
  rw [if_neg hev, hhalf, if_neg Bool.false_ne_true, if_neg Bool.false_ne_true]
  exact answerByEviction_of_no_recall hrecall

/-- An EVICT_CLEAN is indexed (R252). -/
theorem acceptRequest_evict {q : Request} {s : State} (hop : q.op = 0x16) (hrecall : aget s.dir.recalls q.line = none) :
    acceptRequest q s = (s.onTxn (fun t => { t with reqs := t.reqs ++ [{ q with phase := .ready }] })).onDir (fun d => { d with
      evicts := d.evicts ++ [{ slot := q.slot, line := q.line, src := q.src, tag := q.tag, writeback := false, applied := false }] }) := by
  have hhalf : needsHalf q.op = false := by rw [hop]; rfl
  unfold acceptRequest acceptListed
  dsimp only
  rw [if_pos (Or.inr hop : q.op = 0x15 ∨ q.op = 0x16), hhalf, if_neg Bool.false_ne_true, if_neg Bool.false_ne_true, hop]
  exact answerByEviction_of_no_recall hrecall

/-- A write or an atomic waits for its data half (R160). -/
theorem acceptRequest_awaits {q : Request} {s : State} (hhalf : needsHalf q.op = true) (hev : ¬(q.op = 0x15 ∨ q.op = 0x16)) (hnone : s.txn.halves = []) :
    acceptRequest q s = s.onTxn (fun t => { t with reqs := t.reqs ++ [{ q with phase := .awaitData }] }) := by
  unfold acceptRequest acceptListed
  dsimp only
  rw [if_neg hev, hhalf, if_pos rfl, if_pos rfl, State.onTxn_txn, hnone]
  rfl

/-- A WRITEBACK is indexed, and waits for its data half (R160, R252). -/
theorem acceptRequest_writeback {q : Request} {s : State} (hop : q.op = 0x15) (hnone : s.txn.halves = []) :
    acceptRequest q s = (s.onTxn (fun t => { t with reqs := t.reqs ++ [{ q with phase := .awaitData }] })).onDir (fun d => { d with
      evicts := d.evicts ++ [{ slot := q.slot, line := q.line, src := q.src, tag := q.tag, writeback := true, applied := false }] }) := by
  have hhalf : needsHalf q.op = true := by rw [hop]; rfl
  unfold acceptRequest acceptListed
  dsimp only
  rw [if_pos (Or.inl hop : q.op = 0x15 ∨ q.op = 0x16), hhalf, if_pos rfl, if_pos rfl, hop, State.onDir_txn, State.onTxn_txn, hnone]
  rfl

/-! ### Data halves -/

/-- A half whose request is not there is kept (R160). -/
theorem arriveHalf_early {s : State} {port : Nat} {p : Packet} (htakes : s.takes port p = true) (hnone : s.request p.src p.tag = none)
    (hreleased : s.txn.released = []) : arriveHalf port p s = { s with txn := { s.txn with halves := s.txn.halves ++ [(port, p)] } } := by
  unfold arriveHalf
  rw [arriveFabric_of_takes htakes]
  dsimp only
  rw [hnone]
  have hlate : s.txn.released.find? (fun x => s.awaitsHalf x p.src p.tag) = none := by rw [hreleased]; rfl
  dsimp only
  rw [hlate]
  rfl

theorem request_setRequest {s : State} {src tag : Nat} {q : Request} (f : Request → Request) (h : s.request src tag = some q)
    (hsrc : (f q).src = src) (htag : (f q).tag = tag) : (setRequest src tag f s).request src tag = some (f q) := by
  unfold State.request setRequest at *
  rw [State.onTxn_txn]
  dsimp only
  generalize s.txn.reqs = l at h
  induction l with
  | nil => exact absurd h nofun
  | cons x xs ih =>
    rw [List.find?_cons] at h
    rw [List.map_cons, List.find?_cons]
    cases hx : (x.src == src && x.tag == tag) with
    | true =>
      rw [hx] at h
      obtain rfl : x = q := Option.some.inj h
      have hx' : x.src = src ∧ x.tag = tag := by simpa using hx
      rw [if_pos hx', hsrc, htag, beq_self_eq_true, beq_self_eq_true]
      rfl
    | false =>
      rw [hx] at h
      have hx' : ¬(x.src = src ∧ x.tag = tag) := by simpa using hx
      rw [if_neg hx', hx]
      exact ih h

/-- A half that comes to its request is paired with it (R160, R161). -/
theorem arriveHalf_paired {s : State} {port : Nat} {p : Packet} {q : Request} {body : List Byte} (htakes : s.takes port p = true)
    (hq : s.request p.src p.tag = some q) (hdata : q.data = none) (hphase : q.phase = .awaitData) (hfits : halfFits q.pkt p = true)
    (hopen : s.openHalf q.pkt q.tenant p = some body) (hrecall : aget s.dir.recalls q.line = none) (hhalf : needsHalf q.op = true) :
    (arriveHalf port p s).request p.src p.tag = some { q with data := some { p with body := body, enc := false }, phase := .ready } := by
  have hcrc : p.crcGood = true := by
    simp only [State.takes, Bool.and_eq_true] at htakes
    exact htakes.1.2
  have hwho : q.src = p.src ∧ q.tag = p.tag := by
    have := List.find?_some hq
    simpa using this
  unfold arriveHalf
  rw [arriveFabric_of_takes htakes]
  dsimp only
  rw [hq]
  dsimp only
  rw [hhalf, hdata, Option.isNone_none, Bool.and_self, if_pos rfl, hphase, if_neg (by decide)]
  unfold pairHalf
  rw [hcrc, hfits, if_neg (by decide), if_neg (by decide), hopen]
  dsimp only
  rw [answerByEviction_of_no_recall (by exact hrecall), hwho.1, hwho.2]
  refine (request_setRequest _ hq ?_ ?_).trans ?_ <;> rw [hphase, if_neg (by decide)]

/-- Settles O8: an admitted request is accepted (`arriveRequest_of_admits`), by its kind; a half is kept or paired. -/
theorem requestsArrive : Obligations.RequestsArrive := by
  intro s port p htakes
  refine ⟨fun slot u v pa tenant key tier hadmits hnow hpolices hcheck hrecall => ?_, fun hnone hreleased => ?_,
    fun q body hq hdata hphase hfits hopen hrecall hhalf => ?_⟩
  · have harrive := arriveRequest_of_admits htakes hadmits hnow hpolices hcheck
    refine ⟨fun c op hc hop => ?_, fun hop => ?_, fun hnone => ⟨fun c op hc hop => ?_, fun hop => ?_⟩⟩
    · have hexec : exec c s = onOp (p.op == op) (arriveRequest port p) s ∧ needsHalf op = false ∧ ¬(op = 0x15 ∨ op = 0x16) := by
        simp only [List.mem_cons, List.not_mem_nil, or_false, Prod.mk.injEq] at hc
        rcases hc with ⟨rfl, rfl⟩ | ⟨rfl, rfl⟩ | ⟨rfl, rfl⟩ | ⟨rfl, rfl⟩ | ⟨rfl, rfl⟩ <;> exact ⟨rfl, rfl, by decide⟩
      obtain ⟨hexec, hhalf, hev⟩ := hexec
      subst hop
      refine ⟨_, by rw [hexec, onOp_of_op (beq_self_eq_true p.op), harrive], ?_⟩
      rw [acceptRequest_ready (q := newRequest v port slot p .ready pa tenant key tier) hhalf hev hrecall]
      exact ⟨rfl, rfl⟩
    · have hexec : exec (.evictClean port p) s = onOp (p.op == 0x16) (fun s => settleWaits (arriveRequest port p s)) s := rfl
      exact ⟨_, by rw [hexec, onOp_of_op (beq_iff_eq.mpr hop), harrive, acceptRequest_evict hop hrecall], _, rfl, rfl, rfl⟩
    · have hexec : exec c s = onOp (p.op == op) (arriveRequest port p) s ∧ needsHalf op = true ∧ ¬(op = 0x15 ∨ op = 0x16) := by
        simp only [List.mem_cons, List.not_mem_nil, or_false, Prod.mk.injEq] at hc
        rcases hc with ⟨rfl, rfl⟩ | ⟨rfl, rfl⟩ | ⟨rfl, rfl⟩ <;> exact ⟨rfl, rfl, by decide⟩
      obtain ⟨hexec, hhalf, hev⟩ := hexec
      subst hop
      refine ⟨_, by rw [hexec, onOp_of_op (beq_self_eq_true p.op), harrive], ?_⟩
      rw [acceptRequest_awaits (q := newRequest v port slot p .ready pa tenant key tier) hhalf hev hnone]
      exact ⟨rfl, rfl⟩
    · have hexec : exec (.writeback port p) s = onOp (p.op == 0x15) (fun s => settleWaits (arriveRequest port p s)) s := rfl
      exact ⟨_, by rw [hexec, onOp_of_op (beq_iff_eq.mpr hop), harrive, acceptRequest_writeback hop hnone], _, rfl, rfl, rfl⟩
  · refine ⟨fun c op hc hop => ?_, fun hop => ?_⟩
    · have hexec : exec c s = onOp (p.op == op) (arriveHalf port p) s := by
        simp only [List.mem_cons, List.not_mem_nil, or_false, Prod.mk.injEq] at hc
        rcases hc with ⟨rfl, rfl⟩ | ⟨rfl, rfl⟩ <;> rfl
      exact ⟨_, by rw [hexec, onOp_of_op (beq_iff_eq.mpr hop)], arriveHalf_early htakes hnone hreleased⟩
    · have hexec : exec (.wbData port p) s = onOp (p.op == 0x41) (fun s => settleWaits (arriveHalf port p s)) s := rfl
      exact ⟨_, by rw [hexec, onOp_of_op (beq_iff_eq.mpr hop)], congrArg settleWaits (arriveHalf_early htakes hnone hreleased)⟩
  · have hpaired := arriveHalf_paired htakes hq hdata hphase hfits hopen hrecall hhalf
    refine ⟨fun c op hc hop => ?_, fun hop => ?_⟩
    · have hexec : exec c s = onOp (p.op == op) (arriveHalf port p) s := by
        simp only [List.mem_cons, List.not_mem_nil, or_false, Prod.mk.injEq] at hc
        rcases hc with ⟨rfl, rfl⟩ | ⟨rfl, rfl⟩ <;> rfl
      exact ⟨_, by rw [hexec, onOp_of_op (beq_iff_eq.mpr hop)], hpaired⟩
    · have hexec : exec (.wbData port p) s = onOp (p.op == 0x41) (fun s => settleWaits (arriveHalf port p s)) s := rfl
      exact ⟨_, by rw [hexec, onOp_of_op (beq_iff_eq.mpr hop)], _, rfl, hpaired⟩

end Sys2Proof.Machine
end

section
/-!
PROOF. Kernel threads (R429 to R455): the records of cores and recipes, what issuing an instruction leaves, its retirement, and the exception
it may take.
-/
namespace Sys2Proof.Machine

/-! ### Tables whose values change in place -/

/-- A table mapped with its keys kept reads the changed value. -/
theorem aget_map_of_fst {K V : Type} [DecidableEq K] (l : Assoc K V) (k : K) (f : K × V → K × V) (hf : ∀ e, (f e).1 = e.1) :
    aget (l.map f) k = (aget l k).map (fun v => (f (k, v)).2) := by
  induction l with
  | nil => rfl
  | cons e l ih =>
    obtain ⟨j, v⟩ := e
    rw [List.map_cons, aget, show f (j, v) = (j, (f (j, v)).2) from Prod.ext (hf _) rfl, aget]
    by_cases hj : j = k
    · subst hj; simp
    · rw [if_neg hj, if_neg hj, ih]

/-! ### The records of cores and recipes -/

theorem coreRec_setCore_same (c : Nat) (f : Core → Core) (s : State) : (setCore c f s).coreRec c = f (s.coreRec c) := agetD_aset_same ..

theorem coreRec_setCore_ne {c k : Nat} (f : Core → Core) (s : State) (h : k ≠ c) : (setCore c f s).coreRec k = s.coreRec k :=
  agetD_aset_ne _ _ _ h

theorem recipe_setCore (c : Nat) (f : Core → Core) (s : State) (id : Nat) : (setCore c f s).recipe id = s.recipe id := rfl

/-- A recipe changed in place is found again under its number. -/
theorem recipe_setRecipe (id k : Nat) (f : Recipe → Recipe) (s : State) (hf : ∀ r, (f r).id = r.id) :
    (setRecipe id f s).recipe k = (s.recipe k).map (fun r => if r.id = id then f r else r) := by
  have key : ∀ l : List Recipe, (l.map (fun x => if x.id = id then f x else x)).find? (fun r => r.id == k)
      = (l.find? (fun r => r.id == k)).map (fun r => if r.id = id then f r else r) := by
    intro l
    induction l with
    | nil => rfl
    | cons r l ih =>
      have hid : (if r.id = id then f r else r).id = r.id := by split <;> simp [hf]
      rw [List.map_cons, List.find?_cons, List.find?_cons, hid]
      by_cases hk : (r.id == k) = true <;> simp [hk, ih]
  exact key _

theorem id_of_recipe {s : State} {id : Nat} {r : Recipe} (h : s.recipe id = some r) : r.id = id := by
  have := List.find?_some h
  simpa using this

theorem recipe_setRecipe_same {id : Nat} {f : Recipe → Recipe} {s : State} {r : Recipe} (hf : ∀ r, (f r).id = r.id) (h : s.recipe id = some r) :
    (setRecipe id f s).recipe id = some (f r) := by
  rw [recipe_setRecipe id id f s hf, h, Option.map_some, if_pos (id_of_recipe h)]

theorem coreRec_of_core_eq {s t : State} (h : t.core = s.core) (c : Nat) : t.coreRec c = s.coreRec c := by
  unfold State.coreRec; rw [h]

theorem recipe_of_recp_eq {s t : State} (h : t.recp = s.recp) (id : Nat) : t.recipe id = s.recipe id := by
  unfold State.recipe; rw [h]

/-! ### Issue (R431, R449, R454) -/

/-- A recipe but for the list of the tiles whose check has passed. -/
def Recipe.unchecked (r : Recipe) : Recipe := { r with checked := [] }

/-- A thread that may issue: its tile runs on its core, has a recipe, and is not stopped. -/
theorem live_iff {s : State} {core th : Nat} {t : CoreTile} {x : Thread} : s.liveThread core th = some (t, x) ↔
    (s.frozen = false ∧ s.coreAble core = true) ∧ (s.coreRec core).run = some t
      ∧ (t.kernel = true ∧ t.ending = .running ∧ ∃ r, s.recipe t.recipe = some r) ∧ aget t.threads th = some x ∧ x.exited = false ∧ x.atBar = false := by
  unfold State.liveThread
  constructor
  · intro h
    split at h
    · exact absurd h nofun
    next hable =>
      split at h
      · exact absurd h nofun
      next t' hrun =>
        split at h
        · exact absurd h nofun
        next hruns =>
          split at h
          · exact absurd h nofun
          next x' hx =>
            split at h
            · exact absurd h nofun
            next hfree =>
              obtain ⟨rfl, rfl⟩ := Prod.mk.inj (Option.some.inj h)
              simp only [Bool.or_eq_true, Bool.not_eq_true', not_or, Bool.not_eq_true, Bool.not_eq_false, bne_iff_ne, ne_eq, not_not,
                Option.isNone_iff_eq_none] at hable hruns hfree
              exact ⟨hable, hrun, ⟨hruns.1.1, hruns.1.2, Option.ne_none_iff_exists'.1 hruns.2⟩, hx, hfree⟩
  · rintro ⟨⟨hfrozen, hable⟩, hrun, ⟨hkernel, hending, r, hr⟩, hx, hexited, hbar⟩
    simp [hfrozen, hable, hrun, hkernel, hending, hr, hx, hexited, hbar]

/-- The state in which an instruction of a thread runs once it has issued. -/
def issued (core th : Nat) (t : CoreTile) (s : State) : State := firstIssue core t (takeTurn core th s)

theorem issue_of_issues {s : State} {core th : Nat} {uses : List Nat} {t : CoreTile} {x : Thread} (h : s.issues core th uses t x)
    (go : CoreTile → Thread → State → State) : issue core th uses false false go s = go t x (issued core th t s) := by
  obtain ⟨hlive, hlate, hloads⟩ := h
  have hnone : x.late.find? (fun e => false || uses.contains e.2) = none := by
    rw [List.find?_eq_none]
    intro e he
    have := List.all_eq_true.1 hlate e he
    simpa using this
  have hfree : x.accesses.any (fun a => a.kind.dests.any (fun d => d != 0 && uses.contains d)) = false := by
    rw [List.any_eq_false]
    intro a ha hany
    obtain ⟨d, hd, hused⟩ := List.any_eq_true.1 hany
    have hclear := List.all_eq_true.1 (List.all_eq_true.1 hloads a ha) d hd
    simp only [Bool.and_eq_true, bne_iff_ne, ne_eq, Bool.or_eq_true, beq_iff_eq, Bool.not_eq_true'] at hused hclear
    rcases hclear with hzero | hunused
    · exact hused.1 hzero
    · exact absurd (hused.2.symm.trans hunused) nofun
  unfold issue
  simp only [hlive, hnone, hfree, Bool.false_and, Bool.or_self, Bool.false_eq_true, if_false]
  rfl

/-- An instruction that waits for every access of its thread issues where none is outstanding and nothing late waits. -/
theorem issue_drained {s : State} {core th : Nat} {t : CoreTile} {x : Thread} (hlive : s.liveThread core th = some (t, x)) (hlate : x.late = [])
    {drain : Bool} (hdrained : drain = true → x.accesses = []) (go : CoreTile → Thread → State → State) :
    issue core th [] true drain go s = go t x (issued core th t s) := by
  have hwaits : (drain && !x.accesses.isEmpty) = false := by
    cases drain with
    | false => rfl
    | true => simp [hdrained rfl]
  have hfree : x.accesses.any (fun a => a.kind.dests.any (fun d => d != 0 && ([] : List Nat).contains d)) = false := by
    simp
  unfold issue
  simp only [hlive, hlate, List.find?_nil, hwaits, hfree, Bool.or_self, Bool.false_eq_true, if_false]
  rfl

/-- The state in which an issued instruction runs, or has done some of its work: the tile runs, its check passed; the other cores, the kernel
store and the queues of tiles are as before, and so are the recipes but for their checked tiles. -/
structure Issued (core : Nat) (t : CoreTile) (s v : State) : Prop where
  run : (v.coreRec core).run = some { t with checked := true }
  tenant : (v.coreRec core).trayTenant = (s.coreRec core).trayTenant
  cores : ∀ k, k ≠ core → v.coreRec k = s.coreRec k
  store : v.core.store = s.core.store
  queues : v.recp.queues = s.recp.queues ∧ v.recp.locals = s.recp.locals
  recipes : ∀ id, (v.recipe id).map Recipe.unchecked = (s.recipe id).map Recipe.unchecked
  frame : Frame [.core, .recp, .ctrs] s v

theorem takeTurn_coreRec (core th : Nat) (s : State) :
    (takeTurn core th s).coreRec core = { s.coreRec core with turns := aset (s.coreRec core).turns (th % 8) (th / 8) } := coreRec_setCore_same ..

/-- The first instruction of a tile marks it as one whose check has passed. -/
theorem firstIssue_coreRec {core : Nat} {t : CoreTile} {s : State} (h : (s.coreRec core).run = some t) :
    (firstIssue core t s).coreRec core = { s.coreRec core with run := some { t with checked := true } } := by
  unfold firstIssue
  split
  next hc => rw [show { t with checked := true } = t from by cases t; simp_all, ← h]
  next => exact (coreRec_setCore_same core (fun c => { c with run := c.run.map (fun t => { t with checked := true }) }) s).trans (by rw [h]; rfl)

theorem firstIssue_coreRec_ne (core : Nat) (t : CoreTile) (s : State) {k : Nat} (h : k ≠ core) : (firstIssue core t s).coreRec k = s.coreRec k := by
  unfold firstIssue
  split
  · rfl
  · exact coreRec_setCore_ne (fun c => { c with run := c.run.map (fun t => { t with checked := true }) }) s h

theorem firstIssue_recipe (core : Nat) (t : CoreTile) (s : State) (id : Nat) :
    ((firstIssue core t s).recipe id).map Recipe.unchecked = (s.recipe id).map Recipe.unchecked := by
  unfold firstIssue
  split
  · rfl
  · rw [recipe_setRecipe t.recipe id
      (fun r => { r with checked := if r.checked.contains t.tile then r.checked else r.checked ++ [t.tile] }) _ (fun _ => rfl), Option.map_map]
    show (s.recipe id).map _ = _
    congr 1
    funext r
    simp only [Function.comp_apply]
    split <;> rfl

/-- Issuing changes of its core the rotation and the tile's mark alone. -/
theorem issued_coreRec {core th : Nat} {t : CoreTile} {s : State} (h : (s.coreRec core).run = some t) : (issued core th t s).coreRec core
    = { s.coreRec core with run := some { t with checked := true }, turns := aset (s.coreRec core).turns (th % 8) (th / 8) } := by
  have hturn : ((takeTurn core th s).coreRec core).run = some t := by rw [takeTurn_coreRec]; exact h
  rw [issued, firstIssue_coreRec hturn, takeTurn_coreRec]

theorem issued_frame (core th : Nat) (t : CoreTile) (s : State) : Frame [.core, .recp] s (issued core th t s) :=
  frame_firstIssue (by decide) (frame_takeTurn (by decide) (Frame.refl _ s))

theorem issued_issued {core th : Nat} {t : CoreTile} {s : State} (hrun : (s.coreRec core).run = some t) : Issued core t s (issued core th t s) where
  run := by rw [issued_coreRec hrun]
  tenant := by rw [issued_coreRec hrun]
  cores k hk := (firstIssue_coreRec_ne core t _ hk).trans (coreRec_setCore_ne _ s hk)
  store := by unfold issued firstIssue; split <;> rfl
  queues := by unfold issued firstIssue; split <;> exact ⟨rfl, rfl⟩
  recipes id := firstIssue_recipe core t _ id
  frame := (issued_frame core th t s).mono (by decide)

/-- What changes only parts outside cores and recipes leaves an issued instruction running. -/
theorem Issued.of_frame {core : Nat} {t : CoreTile} {s v w : State} (h : Issued core t s v) (hw : Frame [.ctrs] v w) : Issued core t s w := by
  have hc : ∀ k, w.coreRec k = v.coreRec k := coreRec_of_core_eq (hw.core_eq rfl)
  have hr := recipe_of_recp_eq (hw.recp_eq rfl)
  exact ⟨by rw [hc]; exact h.run, by rw [hc]; exact h.tenant, fun k hk => by rw [hc]; exact h.cores k hk, by rw [hw.core_eq rfl]; exact h.store,
    by rw [hw.recp_eq rfl]; exact h.queues, fun id => by rw [hr]; exact h.recipes id, h.frame.trans (hw.mono (by decide))⟩

/-- A change of the core's tray leaves an issued instruction running. -/
theorem Issued.setTray {core : Nat} {t : CoreTile} {s v : State} (h : Issued core t s v) {f : Core → Core} (hrun : ∀ k, (f k).run = k.run)
    (htenant : ∀ k, (f k).trayTenant = k.trayTenant) : Issued core t s (setCore core f v) where
  run := by rw [coreRec_setCore_same, hrun]; exact h.run
  tenant := by rw [coreRec_setCore_same, htenant]; exact h.tenant
  cores k hk := (coreRec_setCore_ne _ _ hk).trans (h.cores k hk)
  store := h.store
  queues := h.queues
  recipes := h.recipes
  frame := h.frame.trans (frame_setCore (by decide) (Frame.refl _ v))

/-! ### Retirement -/

/-- A tile with one of its threads changed. -/
def CoreTile.onThread (th : Nat) (f : Thread → Thread) (t : CoreTile) : CoreTile :=
  { t with threads := t.threads.map (fun e => if e.1 = th then (e.1, f e.2) else e) }

theorem onThread_same {t : CoreTile} {th : Nat} {x : Thread} (f : Thread → Thread) (h : aget t.threads th = some x) :
    aget (t.onThread th f).threads th = some (f x) := by
  rw [CoreTile.onThread, aget_map_of_fst _ _ _ (fun e => by split <;> rfl), h, Option.map_some, if_pos rfl]

theorem onThread_ne (t : CoreTile) {th i : Nat} (f : Thread → Thread) (h : i ≠ th) : aget (t.onThread th f).threads i = aget t.threads i := by
  rw [CoreTile.onThread, aget_map_of_fst _ _ _ (fun e => by split <;> rfl)]
  simp [h]

theorem setThread_coreRec {core th : Nat} {f : Thread → Thread} {s : State} {t : CoreTile} (h : (s.coreRec core).run = some t) :
    (setThread core th f s).coreRec core = { s.coreRec core with run := some (t.onThread th f) } := by
  refine (coreRec_setCore_same ..).trans ?_
  rw [h]; rfl

theorem threadOf_of_run {s : State} {core : Nat} {t : CoreTile} (h : (s.coreRec core).run = some t) (th : Nat) :
    s.threadOf core th = aget t.threads th := by
  unfold State.threadOf; rw [h]; rfl

/-- An instruction retires at a place in the text: its thread has changed and goes on there, and its tile's other threads are as before. -/
theorem retireTo_goes {core th major : Nat} {t : CoreTile} {x : Thread} {next : Nat} {f : Thread → Thread} {s w : State} (hw : Issued core t s w)
    (hrun : (s.coreRec core).run = some t) (hx : aget t.threads th = some x) (hnext : next < t.textLen / 4) :
    (retireTo core th major t x next f w).threadOf core th = some { f x with pc := next }
      ∧ ((retireTo core th major t x next f w).coreRec core).tray = (w.coreRec core).tray
      ∧ ((retireTo core th major t x next f w).coreRec core).trayPoison = (w.coreRec core).trayPoison
      ∧ (∀ id, (retireTo core th major t x next f w).recipe id = w.recipe id)
      ∧ OnlyThread core th [] s (retireTo core th major t x next f w) := by
  obtain ⟨b, hb⟩ : ∃ b, b = bump .ktInstrs (dieOfCluster (clusterOf core)) w := ⟨_, rfl⟩
  have hstays : ¬ ((next : Int) < 0 ∨ (next : Int) ≥ t.textLen / 4) := by omega
  have hu : retireTo core th major t x next f w = setThread core th (fun x => { f x with pc := next }) b := by
    unfold retireTo
    dsimp only
    rw [if_neg hstays, hb, Int.toNat_natCast]
  have hwb : Frame [.ctrs] w b := by rw [hb]; exact frame_bump (by decide) (Frame.refl _ w)
  have hib : Issued core t s b := hw.of_frame hwb
  have hur := setThread_coreRec (th := th) (f := fun x => { f x with pc := next }) hib.run
  have hurun := congrArg Core.run hur
  have hcw := coreRec_of_core_eq (hwb.core_eq rfl) core
  rw [hu]
  refine ⟨?_, by rw [hur, hcw], by rw [hur, hcw], fun id => recipe_of_recp_eq (hwb.recp_eq rfl) id, ?_⟩
  · rw [threadOf_of_run hurun]; exact onThread_same _ hx
  · refine ⟨fun i hi => ?_, fun k hk => (coreRec_setCore_ne _ _ hk).trans (hib.cores k hk), by rw [hur]; exact hib.tenant, hib.store, hib.queues,
      hib.frame.trans (frame_setThread (by decide) (Frame.refl _ b))⟩
    rw [threadOf_of_run hurun, threadOf_of_run hrun]; exact onThread_ne _ _ hi

/-- An instruction that issues and then retires at `next`, having done work `g` on counters only, goes on there. -/
theorem goes_of_retireTo {c : Instr} {s : State} {core th major : Nat} {uses : List Nat} {t : CoreTile} {x y : Thread} {next : Nat}
    {go : CoreTile → Thread → State → State} (hexec : exec c s = .next (issue core th uses false false go s))
    (hgo : ∃ f w, go t x (issued core th t s) = retireTo core th major t x next f w ∧ f x = y ∧ Frame [.ctrs] (issued core th t s) w) :
    Goes c s core th uses t x next y := by
  intro hissues hnext
  obtain ⟨f, w, hretires, rfl, hw⟩ := hgo
  obtain ⟨_, hrun, _, hx, _⟩ := live_iff.1 hissues.1
  have hi := issued_issued (th := th) hrun
  have hc := coreRec_of_core_eq (hw.core_eq rfl) core
  obtain ⟨hthread, htray, hpoison, hrecipe, honly⟩ := retireTo_goes (major := major) (f := f) (hi.of_frame hw) hrun hx hnext
  refine ⟨_, hexec, ?_⟩
  rw [issue_of_issues hissues, hretires]
  refine ⟨hthread, by rw [htray, hc, issued_coreRec hrun], by rw [hpoison, hc, issued_coreRec hrun], fun id => ?_, honly⟩
  rw [hrecipe]; exact (hi.of_frame hw).recipes id

/-- An instruction that issues and then retires goes on at the next one. -/
theorem retires_of_retire {c : Instr} {s : State} {core th major : Nat} {uses : List Nat} {t : CoreTile} {x y : Thread}
    {go : CoreTile → Thread → State → State} (hexec : exec c s = .next (issue core th uses false false go s))
    (hgo : ∃ f w, go t x (issued core th t s) = retire core th major t x f w ∧ f x = y ∧ Frame [.ctrs] (issued core th t s) w) :
    Retires c s core th uses t x y := by
  obtain ⟨f, w, hretires, hf, hw⟩ := hgo
  exact goes_of_retireTo (major := major) hexec ⟨f, w, hretires.trans (by unfold retire; norm_cast), hf, hw⟩

/-- An instruction that computes one scalar retires with it in its register. -/
theorem retires_of_scalarOp {c : Instr} {s : State} {core th major rd : Nat} {uses : List Nat} {f : State → Thread → Word64 × Bool} {t : CoreTile}
    {x y : Thread} (hexec : exec c s = .next (scalarOp core th major rd uses f s))
    (hy : x.setX rd (f (issued core th t s) x).1 (f (issued core th t s) x).2 = y) : Retires c s core th (rd :: uses) t x y :=
  retires_of_retire (major := major) hexec ⟨_, _, rfl, hy, Frame.refl _ _⟩

/-! ### Exceptions (R453, R454) -/

/-- A tile that is dropped does not run on. -/
theorem dropped_ends {t y : CoreTile} (h : t.dropped = some y) : y.ending = .ended ∧ y.quiet = false := by
  unfold CoreTile.dropped at h
  dsimp only at h
  split at h
  · exact absurd h nofun
  next hq =>
    obtain rfl := Option.some.inj h
    exact ⟨rfl, by simpa using hq⟩

theorem dropTiles_recipe (id : Nat) (keep : Nat → Bool) (s : State) (k : Nat) : (dropTiles id keep s).recipe k = s.recipe k := rfl

/-- Dropping a recipe's tiles stops the one its core runs. -/
theorem dropTiles_run {id core : Nat} {keep : Nat → Bool} {s : State} {t : CoreTile} (hrun : (s.coreRec core).run = some t) (hid : t.recipe = id)
    (hdrop : keep t.tile = false) : ((dropTiles id keep s).coreRec core).run = t.dropped := by
  have hsome : ∃ k, aget s.core.cores core = some k := by
    cases h : aget s.core.cores core with
    | some k => exact ⟨k, rfl⟩
    | none => rw [State.coreRec, agetD, h] at hrun; exact absurd hrun nofun
  obtain ⟨k, hk⟩ := hsome
  have hkrun : k.run = some t := by rw [State.coreRec, agetD, hk] at hrun; exact hrun
  have hget : aget (dropTiles id keep s).core.cores core = some { k with run := t.dropped } := by
    refine (aget_map_of_fst s.core.cores core _ (fun e => ?_)).trans ?_
    · cases e.2.run with
      | none => rfl
      | some y => dsimp only; split <;> rfl
    · simp only [hk, hkrun, Option.map_some, hid, hdrop, beq_self_eq_true, Bool.not_false, Bool.and_self, if_true]
  rw [State.coreRec, agetD, hget]
  rfl

/-- What an exception of a thread leaves: its tile has failed and runs no more, and its recipe keeps what the lowest failed tile reports. -/
theorem takeExc_trapped {s w : State} {core : Nat} {t y : CoreTile} (e : Exc) (hsame : ∀ id, (w.recipe id).map Recipe.unchecked = (s.recipe id).map Recipe.unchecked)
    (hrecipe : ∃ r, s.recipe t.recipe = some r) (hrun : (w.coreRec core).run = some y) (hy : y.recipe = t.recipe ∧ y.tile = t.tile ∧ y.ending = .running) :
    Trapped s (takeExc core e w) core t e := by
  obtain ⟨hyr, hyt, hye⟩ := hy
  obtain ⟨r, hr⟩ := hrecipe
  obtain ⟨q, hq, hqr⟩ : ∃ q, w.recipe t.recipe = some q ∧ q.unchecked = r.unchecked := by
    have := hsame t.recipe
    rw [hr, Option.map_some, Option.map_eq_some_iff] at this
    exact this
  obtain ⟨b, hb⟩ : ∃ b, b = bump .ktExceptions (dieOfCluster (clusterOf core) * 16 + e.cause) w := ⟨_, rfl⟩
  obtain ⟨m, hm⟩ : ∃ m, m = setRecipe t.recipe (fun r => { r with exc := keepLowest r.exc (excResult t.tile e) }) b := ⟨_, rfl⟩
  obtain ⟨d, hd⟩ : ∃ d, d = failTile t.recipe t.tile (excStatus e.cause) m := ⟨_, rfl⟩
  have hwb : Frame [.ctrs] w b := by rw [hb]; exact frame_bump (by decide) (Frame.refl _ w)
  have htakes : takeExc core e w = drainTile core d := by
    unfold takeExc
    simp only [hrun, hye, bne_self_eq_false, Bool.false_eq_true, if_false, hyr, hyt, hd, hm, hb]
  have hdrun : (d.coreRec core).run = y.dropped := by
    rw [hd]
    refine dropTiles_run (?_ : (m.coreRec core).run = some y) hyr (by simp [hyt])
    rw [hm]
    exact (congrArg Core.run (coreRec_of_core_eq (hwb.core_eq rfl) core)).trans hrun
  have hends : ∀ z, (d.coreRec core).run = some z → z.ending = .ended ∧ z.quiet = false := fun z hz => dropped_ends (hdrun.symm.trans hz)
  have hdrains : drainTile core d = d := by
    unfold drainTile
    split
    · rfl
    next z hz => rw [if_pos (by simp [(hends z hz).2])]
  have hmq : m.recipe t.recipe = some { q with exc := keepLowest q.exc (excResult t.tile e) } := by
    rw [hm]
    exact recipe_setRecipe_same (fun _ => rfl) ((recipe_of_recp_eq (hwb.recp_eq rfl) _).trans hq)
  have hdq : d.recipe t.recipe = some { q with
      exc := keepLowest q.exc (excResult t.tile e)
      failed := if ahas q.failed t.tile then q.failed else aset q.failed t.tile (excStatus e.cause) } := by
    rw [hd]
    refine (dropTiles_recipe ..).trans ?_
    exact recipe_setRecipe_same
      (f := fun r => { r with failed := if ahas r.failed t.tile then r.failed else aset r.failed t.tile (excStatus e.cause) }) (fun _ => rfl) hmq
  have hexc : q.exc = r.exc := (congrArg Recipe.exc hqr :)
  have hfailed : q.failed = r.failed := (congrArg Recipe.failed hqr :)
  have hresult : q.result2 = r.result2 := (congrArg Recipe.result2 hqr :)
  rw [htakes, hdrains]
  refine ⟨r, _, hr, hdq, by rw [hexc], by rw [hfailed], hresult, fun z hz => ?_⟩
  rw [(hends z hz).1]; exact nofun

/-- An issued instruction that takes an exception. -/
theorem Issued.traps {core : Nat} {t : CoreTile} {s w : State} (h : Issued core t s w) (hending : t.ending = .running) (hrecipe : ∃ r, s.recipe t.recipe = some r)
    (e : Exc) : Trapped s (takeExc core e w) core t e ∧ Frame [.core, .recp, .ctrs] s (takeExc core e w) :=
  ⟨takeExc_trapped e h.recipes hrecipe h.run ⟨rfl, rfl, hending⟩, frame_takeExc (by decide) h.frame⟩

/-- An instruction that issues and then takes an exception, having done work on counters only. -/
theorem traps_of_takeExc {c : Instr} {s : State} {core th : Nat} {uses : List Nat} {t : CoreTile} {x : Thread} {e : Exc}
    {go : CoreTile → Thread → State → State} (hissues : s.issues core th uses t x) (hexec : exec c s = .next (issue core th uses false false go s))
    (hgo : go t x (issued core th t s) = takeExc core e (issued core th t s)) : Traps c s core t e := by
  obtain ⟨_, hrun, ⟨_, hending, hrecipe⟩, _⟩ := live_iff.1 hissues.1
  refine ⟨_, hexec, ?_⟩
  rw [issue_of_issues hissues, hgo]
  exact (issued_issued hrun).traps hending hrecipe e

/-- An instruction that retires to a place outside the text takes PC_RANGE (R453). -/
theorem traps_of_retireTo {c : Instr} {s : State} {core th major : Nat} {uses : List Nat} {t : CoreTile} {x : Thread} {next : Int} {f : Thread → Thread}
    {go : CoreTile → Thread → State → State} (hissues : s.issues core th uses t x) (hexec : exec c s = .next (issue core th uses false false go s))
    (hgo : go t x (issued core th t s) = retireTo core th major t x next f (issued core th t s))
    (hnext : next < 0 ∨ next ≥ (t.textLen / 4 : Nat)) : Traps c s core t (excHere x th major 6 0) := by
  obtain ⟨_, hrun, ⟨_, hending, hrecipe⟩, _⟩ := live_iff.1 hissues.1
  obtain ⟨b, hb⟩ : ∃ b, b = bump .ktInstrs (dieOfCluster (clusterOf core)) (issued core th t s) := ⟨_, rfl⟩
  have hib : Issued core t s b := (issued_issued hrun).of_frame (by rw [hb]; exact frame_bump (by decide) (Frame.refl _ _))
  have hout : next < 0 ∨ next ≥ (t.textLen : Int) / 4 := by omega
  refine ⟨_, hexec, ?_⟩
  rw [issue_of_issues hissues, hgo, retireTo]
  dsimp only
  rw [if_pos hout, ← hb]
  exact ⟨takeExc_trapped _ hib.recipes hrecipe (congrArg Core.run (setThread_coreRec hib.run)) ⟨rfl, rfl, hending⟩,
    frame_takeExc (by decide) (frame_setThread (by decide) hib.frame)⟩

end Sys2Proof.Machine
end

section
/-!
PROOF. The scalar instructions of kernel threads: the ALU and its corners, immediates and moves, branches and jumps (R434, R438 to R440,
R452, R453).
-/
namespace Sys2Proof.Machine

/-! ### The ALU (R440) -/

theorem alu_retires {c : Instr} {s : State} {core th : Nat} {t : CoreTile} {x : Thread} {rd rs1 rs2 : Nat} {op : AluOp}
    (hexec : exec c s = .next (aluOp core th rd rs1 rs2 op s)) :
    Retires c s core th [rd, rs1, rs2] t x (x.setX rd (alu op (x.xr rs1).1 (x.xr rs2).1) ((x.xr rs1).2 || (x.xr rs2).2)) :=
  retires_of_scalarOp hexec rfl

/-- Settles O20: each ALU instruction computes one scalar from two registers, and retires. -/
theorem aluOps : Obligations.AluOps := by
  unfold Obligations.AluOps
  intro s core th t x rd rs1 rs2 c op hmem
  simp only [List.mem_cons, Prod.mk.injEq, List.not_mem_nil, or_false] at hmem
  rcases hmem with ⟨rfl, rfl⟩ | ⟨rfl, rfl⟩ | ⟨rfl, rfl⟩ | ⟨rfl, rfl⟩ | ⟨rfl, rfl⟩ | ⟨rfl, rfl⟩ | ⟨rfl, rfl⟩ | ⟨rfl, rfl⟩ | ⟨rfl, rfl⟩ | ⟨rfl, rfl⟩
    | ⟨rfl, rfl⟩ | ⟨rfl, rfl⟩ | ⟨rfl, rfl⟩ | ⟨rfl, rfl⟩ | ⟨rfl, rfl⟩ | ⟨rfl, rfl⟩ | ⟨rfl, rfl⟩ | ⟨rfl, rfl⟩ | ⟨rfl, rfl⟩ | ⟨rfl, rfl⟩ | ⟨rfl, rfl⟩
  all_goals exact alu_retires rfl

/-! ### The corners of the ALU (R440) -/

theorem alu_div_rem_exact {a b : Word64} (hb : b ≠ 0) : alu .add (alu .mul (alu .div a b) b) (alu .rem a b) = a := by
  have hexact : b.toInt * a.toInt.tdiv b.toInt + a.toInt.tmod b.toInt = a.toInt := Int.mul_tdiv_add_tmod ..
  calc alu .add (alu .mul (alu .div a b) b) (alu .rem a b)
      = BitVec.ofInt 64 (a.toInt.tdiv b.toInt) * BitVec.ofInt 64 b.toInt + BitVec.ofInt 64 (a.toInt.tmod b.toInt) := by
        simp only [alu, if_neg hb, BitVec.ofInt_toInt]
    _ = BitVec.ofInt 64 a.toInt := by rw [← BitVec.ofInt_mul, ← BitVec.ofInt_add, Int.mul_comm, hexact]
    _ = a := BitVec.ofInt_toInt

theorem alu_divu_remu_exact {a b : Word64} (hb : b ≠ 0) :
    alu .add (alu .mul (alu .divu a b) b) (alu .remu a b) = a ∧ (alu .remu a b).ult b = true := by
  have hpos : 0 < b.toNat := Nat.pos_of_ne_zero fun h => hb (BitVec.eq_of_toNat_eq h)
  have hdiv : alu .divu a b = a / b := BitVec.eq_of_toNat_eq (by
    have : a.toNat / b.toNat < 2 ^ 64 := Nat.lt_of_le_of_lt (Nat.div_le_self ..) a.isLt
    rw [alu, if_neg hb, BitVec.toNat_ofNat, Nat.mod_eq_of_lt this, BitVec.toNat_udiv])
  have hrem : alu .remu a b = a % b := BitVec.eq_of_toNat_eq (by
    have : a.toNat % b.toNat < 2 ^ 64 := Nat.lt_of_le_of_lt (Nat.mod_le ..) a.isLt
    rw [alu, if_neg hb, BitVec.toNat_ofNat, Nat.mod_eq_of_lt this, BitVec.toNat_umod])
  rw [hdiv, hrem]
  refine ⟨BitVec.eq_of_toNat_eq ?_, ?_⟩
  · have hle : a.toNat / b.toNat * b.toNat ≤ a.toNat := Nat.div_mul_le_self ..
    have hlt := a.isLt
    simp only [alu, BitVec.toNat_add, BitVec.toNat_mul, BitVec.toNat_udiv, BitVec.toNat_umod]
    rw [Nat.mod_eq_of_lt (by omega : a.toNat / b.toNat * b.toNat < 2 ^ 64), Nat.div_add_mod', Nat.mod_eq_of_lt hlt]
  · rw [BitVec.ult_eq_decide, BitVec.toNat_umod]
    exact decide_eq_true (Nat.mod_lt _ hpos)

theorem alu_mulhu_exact (a b : Word64) : (alu .mulhu a b).toNat * 2 ^ 64 + (alu .mul a b).toNat = a.toNat * b.toNat := by
  have hlt : a.toNat * b.toNat < 2 ^ 64 * 2 ^ 64 := Nat.mul_lt_mul'' a.isLt b.isLt
  simp only [alu, BitVec.toNat_ofNat, BitVec.toNat_mul]
  rw [Nat.mod_eq_of_lt (Nat.div_lt_of_lt_mul hlt), Nat.div_add_mod']

/-- The product of two signed words lies within 2¹²⁶ of 0. -/
theorem toInt_mul_bounds (a b : Word64) : -(2 ^ 126) ≤ a.toInt * b.toInt ∧ a.toInt * b.toInt ≤ 2 ^ 126 := by
  have habs : (a.toInt * b.toInt).natAbs ≤ 2 ^ 63 * 2 ^ 63 := by
    rw [Int.natAbs_mul]
    have ha := BitVec.le_toInt a
    have ha' := BitVec.toInt_lt (x := a)
    have hb := BitVec.le_toInt b
    have hb' := BitVec.toInt_lt (x := b)
    exact Nat.mul_le_mul (by omega) (by omega)
  generalize a.toInt * b.toInt = p at habs ⊢
  omega

theorem alu_mulh_exact (a b : Word64) : (alu .mulh a b).toInt * 2 ^ 64 + (alu .mul a b).toNat = a.toInt * b.toInt := by
  have hbounds := toInt_mul_bounds a b
  have hlow : ((alu .mul a b).toNat : Int) = a.toInt * b.toInt % 2 ^ 64 := by
    have hmul : alu .mul a b = BitVec.ofInt 64 (a.toInt * b.toInt) := by rw [BitVec.ofInt_mul, BitVec.ofInt_toInt, BitVec.ofInt_toInt]; rfl
    rw [hmul, BitVec.toNat_ofInt]
    omega
  rw [hlow]
  show (BitVec.ofInt 64 (a.toInt * b.toInt / 2 ^ 64)).toInt * 2 ^ 64 + _ = _
  generalize a.toInt * b.toInt = p at hbounds ⊢
  rw [BitVec.toInt_ofInt_eq_self (by decide) (by omega) (by omega)]
  omega

theorem toNat_and_63 (b : Word64) : (b &&& 63).toNat % 64 = b.toNat % 64 := by
  have h : (63 : Nat) = 2 ^ 6 - 1 := rfl
  rw [BitVec.toNat_and, show (63 : Word64).toNat = 2 ^ 6 - 1 from rfl, Nat.and_two_pow_sub_one_eq_mod]
  omega

theorem flag_eq_one (c : Bool) : (if c = true then (1 : Word64) else 0) = 1 ↔ c = true := by cases c <;> simp

/-- Settles O21: the division identities, the two halves of a product, and the orders, each by its own lemma. -/
theorem aluCorners : Obligations.AluCorners := by
  unfold Obligations.AluCorners
  intro a b
  refine ⟨rfl, rfl, rfl, rfl, by decide +kernel, by decide +kernel, ?_, ?_, ?_, alu_divu_remu_exact, alu_div_rem_exact, alu_mulhu_exact a b,
    alu_mulh_exact a b, ?_, ?_, ?_, ?_⟩
  · simp only [alu, toNat_and_63]
  · simp only [alu, toNat_and_63]
  · simp only [alu, toNat_and_63]
  · exact (flag_eq_one _).trans (by rw [BitVec.slt_eq_decide, decide_eq_true_iff])
  · exact (flag_eq_one _).trans (by rw [BitVec.ult_eq_decide, decide_eq_true_iff])
  · simp only [alu, BitVec.slt_eq_decide, decide_eq_true_iff]
    split <;> omega
  · simp only [alu, BitVec.ult_eq_decide, decide_eq_true_iff]
    split <;> omega

/-! ### Immediates and moves (R434, R438, R439) -/

theorem imm_retires {c : Instr} {s : State} {core th : Nat} {t : CoreTile} {x : Thread} {rd rs1 major : Nat} {v : Int} {op : AluOp}
    (hexec : exec c s = .next (immOp core th major rd rs1 v op s)) :
    Retires c s core th [rd, rs1] t x (x.setX rd (alu op (x.xr rs1).1 (BitVec.ofInt 64 v)) (x.xr rs1).2) :=
  retires_of_scalarOp hexec rfl

/-- Issuing changes no time island. -/
theorem issued_timeOf (core th : Nat) (t : CoreTile) (s : State) (die : Nat) : (issued core th t s).timeOf die = s.timeOf die := by
  obtain ⟨h0, h1⟩ := (issued_frame core th t s).time_eq rfl
  unfold State.timeOf
  rw [h0, h1]

/-- A poisoned operand that an instruction consumes is the exception POISON_CONSUMED (R452). -/
theorem unpoisoned_true {core th major : Nat} {x : Thread} {bad : Bool} (h : bad = true) (go : State → State) (s : State) :
    unpoisoned core th major x bad go s = takeExc core (excHere x th major 7 0) s := if_pos h

theorem unpoisoned_false {core th major : Nat} {x : Thread} {bad : Bool} (h : bad = false) (go : State → State) (s : State) :
    unpoisoned core th major x bad go s = go s := by rw [unpoisoned, h]; exact if_neg nofun

theorem xr_setX {rd : Nat} (h : 0 < rd) (x : Thread) (v : Word64) (poison : Bool) : (x.setX rd v poison).xr rd = (if poison then 0 else v, poison) := by
  have hne : rd ≠ 0 := by omega
  simp [Thread.setX, Thread.xr, hne]

theorem pr_setP {rd : Nat} (h : 0 < rd) (x : Thread) (v : Word64) : (x.setP rd v).pr rd = v := by
  have hne : rd ≠ 0 := by omega
  simp [Thread.setP, Thread.pr, hne]

/-- Settles O22: each instruction computes one scalar and retires with it; PSET writes a predicate, or consumes poison. -/
theorem scalarMoves : Obligations.ScalarMoves := by
  unfold Obligations.ScalarMoves
  intro s core th t x rd rs1
  refine ⟨?_, fun imm => retires_of_scalarOp rfl rfl, retires_of_scalarOp rfl (by rw [issued_timeOf]), retires_of_scalarOp rfl rfl,
    retires_of_scalarOp rfl rfl, retires_of_scalarOp rfl rfl, retires_of_scalarOp rfl rfl, fun hclean => ?_, fun hbad hissues => ?_,
    retires_of_retire rfl ⟨id, _, rfl, rfl, Frame.refl _ _⟩, fun _ _ => ⟨rfl, rfl⟩, fun _ => ⟨rfl, rfl⟩, fun v hrd =>
      ⟨xr_setX hrd x v false, xr_setX hrd x v true, pr_setP hrd x v⟩⟩
  · intro imm sh c op v hmem
    simp only [List.mem_cons, Prod.mk.injEq, List.not_mem_nil, or_false] at hmem
    rcases hmem with ⟨rfl, rfl, rfl⟩ | ⟨rfl, rfl, rfl⟩ | ⟨rfl, rfl, rfl⟩ | ⟨rfl, rfl, rfl⟩ | ⟨rfl, rfl, rfl⟩ | ⟨rfl, rfl, rfl⟩ | ⟨rfl, rfl, rfl⟩
      | ⟨rfl, rfl, rfl⟩
    all_goals exact imm_retires rfl
  · exact retires_of_retire rfl ⟨_, _, unpoisoned_false hclean .., rfl, Frame.refl _ _⟩
  · exact traps_of_takeExc hissues rfl (unpoisoned_true hbad ..)

/-! ### Branches and jumps (R438, R452, R453) -/

/-- The place at which a branch goes on. -/
theorem branch_next {core th major : Nat} {x : Thread} {rs1 rs2 : Nat} {off : Int} {k : Word64 → Word64 → Bool} {t : CoreTile} {s : State}
    (h1 : (x.xr rs1).2 = false) (h2 : (x.xr rs2).2 = false) :
    unpoisoned core th major x ((x.xr rs1).2 || (x.xr rs2).2) (fun s =>
      retireTo core th major t x (if k (x.xr rs1).1 (x.xr rs2).1 then x.pc + off else x.pc + 1) id s) s
    = retireTo core th major t x (if k (x.xr rs1).1 (x.xr rs2).1 then x.pc + off else x.pc + 1) id s :=
  unpoisoned_false (by rw [h1, h2]; rfl) ..

/-- Where a branch goes on, and the exceptions it takes. -/
theorem branch_goes {c : Instr} {s : State} {core th : Nat} {t : CoreTile} {x : Thread} {rs1 rs2 major : Nat} {off : Int}
    {k k' : Word64 → Word64 → Bool} (hexec : exec c s = .next (branch core th major rs1 rs2 off k' s)) (hk : ∀ a b, k' a b = k a b) :
    ((x.xr rs1).2 = false → (x.xr rs2).2 = false →
      (∀ n : Nat, k (x.xr rs1).1 (x.xr rs2).1 = true → (x.pc : Int) + off = n → Goes c s core th [rs1, rs2] t x n x)
      ∧ (k (x.xr rs1).1 (x.xr rs2).1 = false → Retires c s core th [rs1, rs2] t x x)
      ∧ (k (x.xr rs1).1 (x.xr rs2).1 = true → (x.pc : Int) + off < 0 ∨ (x.pc : Int) + off ≥ (t.textLen / 4 : Nat) → s.issues core th [rs1, rs2] t x →
          Traps c s core t (excHere x th major 6 0)))
    ∧ (((x.xr rs1).2 || (x.xr rs2).2) = true → s.issues core th [rs1, rs2] t x → Traps c s core t (excHere x th major 7 0)) := by
  obtain rfl : k' = k := funext fun a => funext fun b => hk a b
  refine ⟨fun h1 h2 => ⟨fun n htaken hn => ?_, fun hnot => ?_, fun htaken hout hissues => ?_⟩, fun hbad hissues =>
    traps_of_takeExc hissues hexec (unpoisoned_true hbad ..)⟩
  · exact goes_of_retireTo hexec ⟨id, _, (branch_next h1 h2).trans (by rw [if_pos htaken, hn]), rfl, Frame.refl _ _⟩
  · exact goes_of_retireTo hexec ⟨id, _, (branch_next h1 h2).trans (by rw [if_neg (by rw [hnot]; exact nofun)]; rfl), rfl, Frame.refl _ _⟩
  · exact traps_of_retireTo hissues hexec ((branch_next h1 h2).trans (by rw [if_pos htaken])) hout

/-- A jump on a predicate goes on at the offset where it meets the condition, and else at the next instruction. -/
theorem pbr_goes (s : State) (core th : Nat) (t : CoreTile) (x : Thread) (pr cond n : Nat) (off : Int) (hn : (x.pc : Int) + off = n) :
    (meetsCond (x.pr pr) cond = true → Goes (.pbr core th pr cond off) s core th [pReg pr] t x n x)
      ∧ (meetsCond (x.pr pr) cond = false → Retires (.pbr core th pr cond off) s core th [pReg pr] t x x) := by
  refine ⟨fun hmeets => ?_, fun hnot => ?_⟩
  · exact goes_of_retireTo rfl ⟨id, _, by rw [if_pos hmeets, hn], rfl, Frame.refl _ _⟩
  · exact goes_of_retireTo rfl ⟨id, _, by rw [if_neg (by rw [hnot]; exact nofun)]; rfl, rfl, Frame.refl _ _⟩

/-- Settles O23: each branch compares as R438 says, a jump leaves its link, and a target outside the text or a poisoned operand traps. -/
theorem branchesAndJumps : Obligations.BranchesAndJumps := by
  unfold Obligations.BranchesAndJumps
  intro s core th t x rd rs1 rs2 off
  refine ⟨?_, fun n hn => ?_, fun hclean => ?_, fun hbad hissues => ?_, fun pr n hn => ?_⟩
  · intro c k major hmem
    have hexec : ∃ k', exec c s = .next (branch core th major rs1 rs2 off k' s) ∧ ∀ a b, k' a b = k a b := by
      simp only [List.mem_cons, Prod.mk.injEq, List.not_mem_nil, or_false] at hmem
      rcases hmem with ⟨rfl, rfl, rfl⟩ | ⟨rfl, rfl, rfl⟩ | ⟨rfl, rfl, rfl⟩ | ⟨rfl, rfl, rfl⟩ | ⟨rfl, rfl, rfl⟩ | ⟨rfl, rfl, rfl⟩
      · exact ⟨_, rfl, fun _ _ => rfl⟩
      · exact ⟨_, rfl, fun a b => by rw [Bool.eq_iff_iff]; simp⟩
      · exact ⟨_, rfl, fun a b => BitVec.slt_eq_decide⟩
      · exact ⟨_, rfl, fun a b => by rw [BitVec.slt_eq_decide, Bool.eq_iff_iff]; simp⟩
      · exact ⟨_, rfl, fun a b => BitVec.ult_eq_decide⟩
      · exact ⟨_, rfl, fun a b => by rw [BitVec.ult_eq_decide, Bool.eq_iff_iff]; simp⟩
    obtain ⟨k', hbranch, hk⟩ := hexec
    exact branch_goes hbranch hk
  · exact goes_of_retireTo rfl ⟨_, _, by rw [hn], rfl, Frame.refl _ _⟩
  · exact goes_of_retireTo rfl ⟨_, _, unpoisoned_false hclean .., rfl, Frame.refl _ _⟩
  · exact traps_of_takeExc hissues rfl (unpoisoned_true hbad ..)
  · have hany := pbr_goes s core th t x pr 0 n off hn
    have hno := pbr_goes s core th t x pr 1 n off hn
    have hall := pbr_goes s core th t x pr 2 n off hn
    exact ⟨fun h => hany.1 (bne_iff_ne.2 h), fun h => hany.2 (by simp [meetsCond, h]), fun h => hno.1 (beq_iff_eq.2 h),
      fun h => hno.2 (beq_eq_false_iff_ne.2 h), fun h => hall.1 (beq_iff_eq.2 h), fun h => hall.2 (beq_eq_false_iff_ne.2 h)⟩

end Sys2Proof.Machine
end

section
/-!
PROOF. The vector and accumulator instructions of kernel threads (R405 to R411, R436, R438, R441 to R447, R451, R452).
-/
namespace Sys2Proof.Machine

/-! ### Formats -/

theorem withFmt_ok {code : Nat} {f : Fmt} (hf : Fmt.ofReg code = some f) {ok : Fmt → Bool} (hok : ok f = true) (go : Fmt → State → State)
    (s : State) : withFmt code ok go s = go f s := by
  unfold withFmt
  rw [hf]
  exact if_pos hok

/-- In a format that an instruction does not take, it does nothing. -/
theorem withFmt_reserved {code : Nat} {f : Fmt} (hf : Fmt.ofReg code = some f) {ok : Fmt → Bool} (hok : ok f = false) (go : Fmt → State → State)
    (s : State) : withFmt code ok go s = s := by
  unfold withFmt
  rw [hf]
  exact if_neg (by rw [hok]; exact nofun)

/-- Issuing changes no object. -/
theorem issued_e4m3Nan (core th : Nat) (t : CoreTile) (s : State) : (issued core th t s).e4m3Nan = s.e4m3Nan := by
  unfold State.e4m3Nan
  rw [(issued_frame core th t s).obj_eq rfl]

/-! ### Elementwise operations (R441, R443, R446) -/

/-- An instruction that computes one vector retires with it in its register. -/
theorem vecOp_retires {c : Instr} {s : State} {core th major : Nat} {t : CoreTile} {x : Thread} {vd pred : Nat} {xs vs : List Nat} {f : Fmt}
    {reads : Bool} {g : State → Thread → Nat → Written} {h : Nat → Written} {bad : Bool} (hexec : exec c s = .next (vecOp core th major vd xs vs pred f reads g s))
    (hg : g (issued core th t s) x = h)
    (hbad : (xs.any (fun i => (x.xr i).2) || vs.any (fun i => (x.vr i).2) || ((reads || !governsAll f (x.pr pred)) && (x.vr vd).2)) = bad) :
    Retires c s core th (vReg vd :: pReg pred :: xs ++ vs.map vReg) t x (x.setV vd (vapply f (x.pr pred) (x.vr vd).1 h).1 bad) := by
  subst hg hbad
  refine retires_of_retire (major := major) hexec ⟨_, _, rfl, rfl, ?_⟩
  split
  · exact Frame.refl _ _
  · exact frame_countEv (by decide) (Frame.refl _ _)

theorem varith2_retires {c : Instr} {s : State} {core th : Nat} {t : CoreTile} {x : Thread} {vd vs1 vs2 pred fmt : Nat} {f : Fmt} {ok : Fmt → Bool}
    {op : VOp} (hf : Fmt.ofReg fmt = some f) (hexec : exec c s = .next (varith2 core th vd vs1 vs2 pred fmt ok op s)) :
    (ok f = true → Retires c s core th [vReg vd, pReg pred, vReg vs1, vReg vs2] t x (x.setV vd
      (vapply f (x.pr pred) (x.vr vd).1 (fun e => vop op f s.e4m3Nan (elem f (x.vr vs1).1 e) (elem f (x.vr vs2).1 e))).1
      ((x.vr vs1).2 || (x.vr vs2).2 || (!governsAll f (x.pr pred) && (x.vr vd).2))))
    ∧ (ok f = false → Does c s (fun u => u = s)) := by
  refine ⟨fun hok => vecOp_retires (hexec.trans (congrArg Host.Outcome.next (withFmt_ok hf hok _ s))) (by rw [issued_e4m3Nan]) (by simp), fun hok =>
    ⟨_, hexec, withFmt_reserved hf hok _ s⟩⟩

theorem varith1_retires {c : Instr} {s : State} {core th : Nat} {t : CoreTile} {x : Thread} {vd vs1 pred fmt : Nat} {f : Fmt} {ok : Fmt → Bool}
    {op : VOp} (hf : Fmt.ofReg fmt = some f) (hexec : exec c s = .next (varith1 core th vd vs1 pred fmt ok op s)) :
    (ok f = true → Retires c s core th [vReg vd, pReg pred, vReg vs1] t x (x.setV vd
      (vapply f (x.pr pred) (x.vr vd).1 (fun e => vop op f s.e4m3Nan (elem f (x.vr vs1).1 e) 0)).1
      ((x.vr vs1).2 || (!governsAll f (x.pr pred) && (x.vr vd).2))))
    ∧ (ok f = false → Does c s (fun u => u = s)) :=
  ⟨fun hok => vecOp_retires (hexec.trans (congrArg Host.Outcome.next (withFmt_ok hf hok _ s))) (by rw [issued_e4m3Nan]) (by simp), fun hok =>
    ⟨_, hexec, withFmt_reserved hf hok _ s⟩⟩

theorem fused_retires {c : Instr} {s : State} {core th k : Nat} {t : CoreTile} {x : Thread} {vd vs1 vs2 pred fmt : Nat} {f : Fmt}
    (hf : Fmt.ofReg fmt = some f) (hexec : exec c s = .next (fusedOp core th k vd vs1 vs2 pred fmt s)) :
    (f.plainVec = true → Retires c s core th [vReg vd, pReg pred, vReg vs1, vReg vs2] t x (x.setV vd
      (vapply f (x.pr pred) (x.vr vd).1 (fun e => vfma k f s.e4m3Nan (elem f (x.vr vs1).1 e) (elem f (x.vr vs2).1 e) (elem f (x.vr vd).1 e))).1
      ((x.vr vs1).2 || (x.vr vs2).2 || (x.vr vd).2)))
    ∧ (f.plainVec = false → Does c s (fun u => u = s)) :=
  ⟨fun hok => vecOp_retires (hexec.trans (congrArg Host.Outcome.next (withFmt_ok hf hok _ s))) (by rw [issued_e4m3Nan]) (by simp), fun hok =>
    ⟨_, hexec, withFmt_reserved hf hok _ s⟩⟩

/-- Settles O25: each VARITH and fused instruction computes its operation elementwise in the formats it takes. -/
theorem vectorArith : Obligations.VectorArith := by
  unfold Obligations.VectorArith
  intro s core th t x vd vs1 vs2 pred fmt f hf
  refine ⟨fun c op ok hmem => ?_, fun c op ok hmem => ?_, fun c k hmem => ?_⟩
  · simp only [List.mem_cons, Prod.mk.injEq, List.not_mem_nil, or_false] at hmem
    rcases hmem with ⟨rfl, rfl, rfl⟩ | ⟨rfl, rfl, rfl⟩ | ⟨rfl, rfl, rfl⟩ | ⟨rfl, rfl, rfl⟩ | ⟨rfl, rfl, rfl⟩ | ⟨rfl, rfl, rfl⟩ | ⟨rfl, rfl, rfl⟩
      | ⟨rfl, rfl, rfl⟩ | ⟨rfl, rfl, rfl⟩ | ⟨rfl, rfl, rfl⟩ | ⟨rfl, rfl, rfl⟩ | ⟨rfl, rfl, rfl⟩
    all_goals exact varith2_retires hf rfl
  · simp only [List.mem_cons, Prod.mk.injEq, List.not_mem_nil, or_false] at hmem
    rcases hmem with ⟨rfl, rfl, rfl⟩ | ⟨rfl, rfl, rfl⟩ | ⟨rfl, rfl, rfl⟩
    all_goals exact varith1_retires hf rfl
  · simp only [List.mem_cons, Prod.mk.injEq, List.not_mem_nil, or_false] at hmem
    rcases hmem with ⟨rfl, rfl⟩ | ⟨rfl, rfl⟩ | ⟨rfl, rfl⟩
    all_goals exact fused_retires hf rfl

/-! ### Compare (R442, R452) -/

/-- A bit of masks that are gathered by OR is set where it was, or where a chosen element sets it. -/
theorem testBit_foldl_masks (l : List Nat) (chosen : Nat → Bool) (mask : Nat → Nat) (m i : Nat) :
    (l.foldl (fun m e => if chosen e then m ||| mask e else m) m).testBit i = true ↔
      m.testBit i = true ∨ ∃ e ∈ l, chosen e = true ∧ (mask e).testBit i = true := by
  induction l generalizing m with
  | nil => simp
  | cons e l ih =>
    rw [List.foldl_cons, ih]
    by_cases h : chosen e = true
    · simp [h, Nat.testBit_or, or_assoc]
    · simp [h]

theorem vcmpMask_bit (op : CmpOp) (f : Fmt) (p : Word64) (a b : Vec512) {i : Nat} (hi : i < 64) : (vcmpMask op f p a b).getLsbD i = true ↔
    ∃ e, e < f.count ∧ governs f p e = true ∧ (predMask f e).testBit i = true ∧ vcmp op f (elem f a e) (elem f b e) = true := by
  unfold vcmpMask
  rw [BitVec.getLsbD_ofNat, decide_eq_true hi, Bool.true_and,
    testBit_foldl_masks _ (fun e => governs f p e && vcmp op f (elem f a e) (elem f b e)) (predMask f)]
  simp only [Nat.zero_testBit, Bool.false_eq_true, false_or, List.mem_range, Bool.and_eq_true]
  exact exists_congr fun e => by tauto

/-- A compare writes its mask to a predicate, or consumes poison. -/
theorem compare_does {c : Instr} {s : State} {core th : Nat} {t : CoreTile} {x : Thread} {pd vs1 vs2 pred fmt : Nat} {f : Fmt} {ok : Fmt → Bool}
    {op : CmpOp} (hf : Fmt.ofReg fmt = some f) (hexec : exec c s = .next (compareOp core th pd vs1 vs2 pred fmt ok op s)) :
    ((f.compares && ok f) = true → (x.vr vs1).2 = false → (x.vr vs2).2 = false →
      Retires c s core th [vReg vs1, vReg vs2, pReg pred, pReg pd] t x (x.setP pd (vcmpMask op f (x.pr pred) (x.vr vs1).1 (x.vr vs2).1)))
    ∧ ((f.compares && ok f) = true → ((x.vr vs1).2 || (x.vr vs2).2) = true → s.issues core th [vReg vs1, vReg vs2, pReg pred, pReg pd] t x →
      Traps c s core t (excHere x th 0x26 7 0))
    ∧ ((f.compares && ok f) = false → Does c s (fun u => u = s)) := by
  have hissue (hok : (f.compares && ok f) = true) :=
    hexec.trans (congrArg Host.Outcome.next (withFmt_ok (ok := fun f => f.compares && ok f) hf hok _ s))
  refine ⟨fun hok h1 h2 => ?_, fun hok hbad hissues => ?_, fun hok => ⟨_, hexec, withFmt_reserved (ok := fun f => f.compares && ok f) hf hok _ s⟩⟩
  · exact retires_of_retire (hissue hok) ⟨_, _, unpoisoned_false (by rw [h1, h2]; rfl) .., rfl, Frame.refl _ _⟩
  · exact traps_of_takeExc hissues (hissue hok) (unpoisoned_true hbad ..)

/-- Settles O27: each compare writes the mask of its operation; the bits of the mask are those of the governed elements that hold. -/
theorem vectorCompare : Obligations.VectorCompare := by
  unfold Obligations.VectorCompare
  intro s core th t x pd vs1 vs2 pred fmt f c op ok hf hmem
  have hexec : ∃ k : Fmt → Bool, k f = ok ∧ exec c s = .next (compareOp core th pd vs1 vs2 pred fmt k op s) := by
    simp only [List.mem_cons, Prod.mk.injEq, List.not_mem_nil, or_false] at hmem
    rcases hmem with ⟨rfl, rfl, rfl⟩ | ⟨rfl, rfl, rfl⟩ | ⟨rfl, rfl, rfl⟩ | ⟨rfl, rfl, rfl⟩ | ⟨rfl, rfl, rfl⟩ | ⟨rfl, rfl, rfl⟩
      | ⟨rfl, rfl, rfl⟩ | ⟨rfl, rfl, rfl⟩ | ⟨rfl, rfl, rfl⟩
    iterate 6 exact ⟨fun _ => true, rfl, rfl⟩
    · exact ⟨fun f => !f.isInt, rfl, rfl⟩
    · exact ⟨Fmt.isInt, rfl, rfl⟩
    · exact ⟨Fmt.isInt, rfl, rfl⟩
  obtain ⟨k, rfl, hcompare⟩ := hexec
  obtain ⟨hclean, hbad, hreserved⟩ := compare_does (t := t) (x := x) hf hcompare
  exact ⟨hclean, fun i hi => vcmpMask_bit op f _ _ _ hi, hbad, hreserved⟩

/-! ### Conversions, moves, elements and reductions (R438, R443, R444) -/

theorem vcvt_retires {s : State} {core th : Nat} {t : CoreTile} {x : Thread} {vd vs1 part pred fmt fmtTo : Nat} {f g : Fmt}
    (hf : Fmt.ofReg fmt = some f) (hg : Fmt.ofReg fmtTo = some g) (hplain : g.plainVec = true) (hpart : part < cvtParts f g) :
    Retires (.vcvt core th vd vs1 part pred fmt fmtTo) s core th [vReg vd, pReg pred, vReg vs1] t x (x.setV vd
      (vapply g (x.pr pred) (x.vr vd).1 (fun e => match cvtSource f g part e with
        | some j => writeVal g s.e4m3Nan (decode f (elem f (x.vr vs1).1 j))
        | none => Written.of (elem g (x.vr vd).1 e))).1
      ((x.vr vs1).2 || ((decide (g.count > f.count) || !governsAll g (x.pr pred)) && (x.vr vd).2))) := by
  refine vecOp_retires (major := 0x27) (xs := []) (vs := [vs1]) (reads := decide (g.count > f.count)) (g := fun s x e =>
    match cvtSource f g part e with
      | some j => writeVal g s.e4m3Nan (decode f (elem f (x.vr vs1).1 j))
      | none => Written.of (elem g (x.vr vd).1 e)) (congrArg Host.Outcome.next ?_) ?_ (by simp)
  · exact (withFmt_ok hf (ok := fun _ => true) rfl _ s).trans ((withFmt_ok hg hplain _ s).trans (if_neg (by omega)))
  · rw [issued_e4m3Nan]

theorem reduce_retires {c : Instr} {s : State} {core th : Nat} {t : CoreTile} {x : Thread} {xd vs pred fmt : Nat} {f : Fmt} {op : RedOp}
    (hf : Fmt.ofReg fmt = some f) (hok : f.reduces = true) (hexec : exec c s = .next (reduceOp core th xd vs pred fmt op s)) :
    Retires c s core th [xd, vReg vs, pReg pred] t x (x.setX xd (vred op f (x.pr pred) (x.vr vs).1) (x.vr vs).2) :=
  retires_of_scalarOp (hexec.trans (congrArg Host.Outcome.next (withFmt_ok hf hok _ s))) rfl

/-- Settles O28: each instruction computes one register from the thread, and retires with it. -/
theorem vectorMoves : Obligations.VectorMoves := by
  unfold Obligations.VectorMoves
  intro s core th t x vd vs1 vs2 pred fmt f hf
  refine ⟨fun fmtTo g part hg hplain hpart => vcvt_retires hf hg hplain hpart, fun hok => ?_, fun hok => ?_, fun hok => ?_, fun xs hok => ?_,
    fun xd index hok hindex => ?_, fun xs index hok hindex => ?_, fun xd c op hok hmem => ?_⟩
  · exact vecOp_retires (xs := []) (vs := [vs1]) (congrArg Host.Outcome.next (withFmt_ok hf hok _ s)) rfl (by simp)
  · exact vecOp_retires (xs := []) (vs := [vs1, vs2]) (congrArg Host.Outcome.next (withFmt_ok hf hok _ s)) rfl (by simp)
  · exact retires_of_retire (congrArg Host.Outcome.next (withFmt_ok hf hok _ s)) ⟨_, _, rfl, rfl, Frame.refl _ _⟩
  · exact vecOp_retires (xs := [xs]) (vs := []) (congrArg Host.Outcome.next (withFmt_ok hf hok _ s)) rfl (by simp)
  · have hboth : (f.plainVec && decide (index < f.count)) = true := by rw [hok, decide_eq_true hindex]; rfl
    exact retires_of_scalarOp
      (congrArg Host.Outcome.next (withFmt_ok (ok := fun f => f.plainVec && decide (index < f.count)) hf hboth _ s)) rfl
  · have hboth : (f.plainVec && decide (index < f.count)) = true := by rw [hok, decide_eq_true hindex]; rfl
    exact retires_of_retire
      (congrArg Host.Outcome.next (withFmt_ok (ok := fun f => f.plainVec && decide (index < f.count)) hf hboth _ s)) ⟨_, _, rfl, rfl, Frame.refl _ _⟩
  · simp only [List.mem_cons, Prod.mk.injEq, List.not_mem_nil, or_false] at hmem
    rcases hmem with ⟨rfl, rfl⟩ | ⟨rfl, rfl⟩ | ⟨rfl, rfl⟩ | ⟨rfl, rfl⟩ | ⟨rfl, rfl⟩ | ⟨rfl, rfl⟩ | ⟨rfl, rfl⟩ | ⟨rfl, rfl⟩
    all_goals exact reduce_retires hf hok rfl

end Sys2Proof.Machine
end

section
/-!
PROOF. The accumulators of kernel threads and the tray (R405 to R411, R445 to R448, R451 to R453): where a tray access goes on or traps, and
the bytes that stores change.
-/
namespace Sys2Proof.Machine

/-! ### A tray access (R448, R453) -/

theorem trayAccess_poisoned {core th major : Nat} {t : CoreTile} {x : Thread} {base : Word64 × Bool} {off : Int} {n al : Nat}
    (hbase : base.2 = true) (go : Nat → State → State) (s : State) :
    trayAccess core th major t x base off n al go s = takeExc core (excHere x th major 7 0) s := unpoisoned_true hbase ..

theorem trayAccess_misaligned {core th major : Nat} {t : CoreTile} {x : Thread} {base : Word64 × Bool} {off : Int} {n al : Nat}
    (hbase : base.2 = false) (hal : effAddr base.1 off % al ≠ 0) (go : Nat → State → State) (s : State) :
    trayAccess core th major t x base off n al go s = takeExc core (excHere x th major 4 (effAddr base.1 off)) s :=
  (unpoisoned_false hbase ..).trans (if_pos hal)

theorem trayAccess_outside {core th major : Nat} {t : CoreTile} {x : Thread} {base : Word64 × Bool} {off : Int} {n al : Nat}
    (hbase : base.2 = false) (hal : effAddr base.1 off % al = 0) (hend : t.tray < effAddr base.1 off + n) (go : Nat → State → State) (s : State) :
    trayAccess core th major t x base off n al go s = takeExc core (excHere x th major 5 (effAddr base.1 off)) s :=
  (unpoisoned_false hbase ..).trans ((if_neg (not_not.2 hal)).trans (if_pos hend))

theorem trayAccess_inside {core th major : Nat} {t : CoreTile} {x : Thread} {base : Word64 × Bool} {off : Int} {n al a : Nat}
    (hbase : base.2 = false) (ha : effAddr base.1 off = a) (hal : a % al = 0) (hend : a + n ≤ t.tray) (go : Nat → State → State) (s : State) :
    trayAccess core th major t x base off n al go s = go a s := by
  subst ha
  exact (unpoisoned_false hbase ..).trans ((if_neg (not_not.2 hal)).trans (if_neg (Nat.not_lt.2 hend)))

/-- The register itself is the address where there is no offset. -/
theorem effAddr_zero (w : Word64) : effAddr w 0 = w.toNat := by
  have := w.isLt
  unfold effAddr
  omega

/-- A tray instruction traps as its access does. -/
theorem tray_traps {c : Instr} {s : State} {core th major : Nat} {uses : List Nat} {t : CoreTile} {x : Thread} {rb n al : Nat} {off : Int}
    {go : CoreTile → Thread → State → State} {body : Nat → State → State} (hexec : exec c s = .next (issue core th uses false false go s))
    (hgo : ∀ s, go t x s = trayAccess core th major t x (x.xr rb) off n al body s) (hissues : s.issues core th uses t x) :
    ((x.xr rb).2 = true → Traps c s core t (excHere x th major 7 0))
    ∧ ((x.xr rb).2 = false → effAddr (x.xr rb).1 off % al ≠ 0 → Traps c s core t (excHere x th major 4 (effAddr (x.xr rb).1 off)))
    ∧ ((x.xr rb).2 = false → effAddr (x.xr rb).1 off % al = 0 → t.tray < effAddr (x.xr rb).1 off + n →
        Traps c s core t (excHere x th major 5 (effAddr (x.xr rb).1 off))) := by
  refine ⟨fun hbad => ?_, fun hclean hal => ?_, fun hclean hal hend => ?_⟩
  · exact traps_of_takeExc hissues hexec (by rw [hgo]; exact trayAccess_poisoned hbad ..)
  · exact traps_of_takeExc hissues hexec (by rw [hgo]; exact trayAccess_misaligned hclean hal ..)
  · exact traps_of_takeExc hissues hexec (by rw [hgo]; exact trayAccess_outside hclean hal hend ..)

/-- Settles O32: every one of the instructions makes its access first, and the access takes the exceptions in R448's order. -/
theorem trayExceptions : Obligations.TrayExceptions := by
  unfold Obligations.TrayExceptions
  intro s core th t x rt rb size pred imm c uses major n al off hmem hissues
  simp only [List.mem_cons, Prod.mk.injEq, List.not_mem_nil, or_false] at hmem
  rcases hmem with ⟨rfl, rfl, rfl, rfl, rfl, rfl⟩ | ⟨rfl, rfl, rfl, rfl, rfl, rfl⟩ | ⟨rfl, rfl, rfl, rfl, rfl, rfl⟩ | ⟨rfl, rfl, rfl, rfl, rfl, rfl⟩
    | ⟨rfl, rfl, rfl, rfl, rfl, rfl⟩ | ⟨rfl, rfl, rfl, rfl, rfl, rfl⟩ | ⟨rfl, rfl, rfl, rfl, rfl, rfl⟩
  all_goals exact tray_traps rfl (fun _ => rfl) hissues

/-! ### Stores to the tray (R446, R448, R451) -/

/-- An instruction that issues, writes its core's tray and retires. -/
theorem does_of_traySet {c : Instr} {s : State} {core th major : Nat} {uses : List Nat} {t : CoreTile} {x : Thread}
    {go : CoreTile → Thread → State → State} {f : Thread → Thread} {g : Core → Core} (hissues : s.issues core th uses t x)
    (hnext : x.pc + 1 < t.textLen / 4) (hexec : exec c s = .next (issue core th uses false false go s))
    (hgo : go t x (issued core th t s) = retire core th major t x f (setCore core g (issued core th t s)))
    (hrun : ∀ k, (g k).run = k.run) (htenant : ∀ k, (g k).trayTenant = k.trayTenant)
    (htray : ∀ k j, k.tray = j.tray → (g k).tray = (g j).tray) :
    Does c s (fun u => u.threadOf core th = some { f x with pc := x.pc + 1 } ∧ OnlyThread core th [] s u
      ∧ (u.coreRec core).tray = (g (s.coreRec core)).tray) := by
  obtain ⟨_, hruns, _, hx, _⟩ := live_iff.1 hissues.1
  have hw := (issued_issued (th := th) hruns).setTray hrun htenant
  obtain ⟨hthread, htrays, -, -, honly⟩ := retireTo_goes (major := major) (f := f) hw hruns hx hnext
  refine ⟨_, hexec, ?_⟩
  rw [issue_of_issues hissues, hgo, retire, show (x.pc : Int) + 1 = ((x.pc + 1 : Nat) : Int) by norm_cast]
  refine ⟨hthread, honly, htrays.trans ?_⟩
  rw [coreRec_setCore_same]
  exact htray _ _ (by rw [issued_coreRec hruns])

theorem trayPut_tray_congr {k j : Core} (h : k.tray = j.tray) (a : Nat) (bs : List Byte) (mask : Nat → Bool) (poison : Bool) :
    (k.trayPut a bs mask poison).tray = (j.trayPut a bs mask poison).tray := by
  unfold Core.trayPut
  dsimp only
  rw [h]

theorem trayPut_run (k : Core) (a : Nat) (bs : List Byte) (mask : Nat → Bool) (poison : Bool) : (k.trayPut a bs mask poison).run = k.run := rfl

theorem trayPut_tenant (k : Core) (a : Nat) (bs : List Byte) (mask : Nat → Bool) (poison : Bool) :
    (k.trayPut a bs mask poison).trayTenant = k.trayTenant := rfl

/-- The bytes of a tray after a store: those of its mask are the store's, zeros where it is poisoned, and the others are as before. -/
theorem cellGet_trayPut_all {k : Core} (hk : Memory.wf k.tray = true) (a : Nat) (bs : List Byte) (mask : Nat → Bool) (poison : Bool) (b : Nat) :
    cellGet (k.trayPut a bs mask poison).tray b
      = if a ≤ b ∧ b < a + bs.length ∧ mask (b - a) = true then (if poison then 0 else bs.getD (b - a) 0) else cellGet k.tray b := by
  have hidx : (k.trayPut a bs mask poison).tray
      = ((List.range bs.length).filter mask).foldl (fun m i => cellSet m (a + i) (if poison then 0 else bs.getD i 0)) k.tray := rfl
  rw [hidx]
  by_cases hab : a ≤ b
  · obtain ⟨i, rfl⟩ := Nat.exists_eq_add_of_le hab
    rw [cellGet_foldl_cellSet hk a (fun i => if poison then 0 else bs.getD i 0)]
    simp
  · rw [if_neg (by omega)]
    have hbelow : ∀ (l : List Nat) (m : List Host.Cell), Memory.wf m = true →
        cellGet (l.foldl (fun m i => cellSet m (a + i) (if poison then 0 else bs.getD i 0)) m) b = cellGet m b := by
      intro l
      induction l with
      | nil => exact fun _ _ => rfl
      | cons i l ih =>
        intro m hm
        rw [List.foldl_cons, ih _ (cellSet_wf hm), cellGet_cellSet hm, if_neg (by omega)]
    exact hbelow _ _ hk

theorem length_leBytes (n v : Nat) : (leBytes n v).length = n := by
  induction n generalizing v with
  | zero => rfl
  | succ n ih => rw [leBytes, List.length_cons, ih]

theorem length_vecBytes (v : Vec512) : (vecBytes v).length = 64 := length_leBytes 64 _

/-- What a tray load reads of a state in which it has issued. -/
theorem issued_trayWord {core th : Nat} {t : CoreTile} {s : State} (hrun : (s.coreRec core).run = some t) (a n : Nat) :
    ((issued core th t s).coreRec core).trayWord a n = (s.coreRec core).trayWord a n := by
  rw [issued_coreRec hrun]; rfl

theorem trayWord_clean {k : Core} {a n : Nat} (h : k.trayBad a n = false) : k.trayWord a n = (leNat (cellsRead k.tray a n), false) :=
  if_neg (by rw [h]; exact nofun)

theorem trayWord_poisoned {k : Core} {a n : Nat} (h : k.trayBad a n = true) : k.trayWord a n = (0, true) := if_pos h

/-- A scalar tray load in the window retires with what it reads. -/
theorem trayLoad_retires {c : Instr} {s : State} {core th major : Nat} {t : CoreTile} {x : Thread} {rt rb size a : Nat} {imm : Int} {sgn : Bool}
    (hexec : exec c s = .next (trayLoad core th major rt rb size imm sgn s)) (hbase : (x.xr rb).2 = false) (ha : effAddr (x.xr rb).1 imm = a)
    (hal : a % 2 ^ size = 0) (hend : a + 2 ^ size ≤ t.tray) {v : Nat} {bad : Bool} (hword : (s.coreRec core).trayWord a (2 ^ size) = (v, bad)) :
    Retires c s core th [rt, rb] t x (x.setX rt (if sgn then BitVec.ofInt 64 (signed (8 * 2 ^ size) v) else BitVec.ofNat 64 v) bad) := by
  intro hissues
  obtain ⟨_, hrun, _⟩ := live_iff.1 hissues.1
  revert hissues
  refine retires_of_retire (major := major) hexec ⟨_, _, (trayAccess_inside hbase ha hal hend ..).trans ?_, rfl, Frame.refl _ _⟩
  rw [issued_trayWord hrun, hword]

theorem vtld_retires {s : State} {core th : Nat} {t : CoreTile} {x : Thread} {vt rb a : Nat} {imm : Int} (hbase : (x.xr rb).2 = false)
    (ha : effAddr (x.xr rb).1 (64 * imm) = a) (hal : a % 64 = 0) (hend : a + 64 ≤ t.tray) (hclean : (s.coreRec core).trayBad a 64 = false) :
    Retires (.vtld core th vt rb imm) s core th [vReg vt, rb] t x
      (x.setV vt (BitVec.ofNat 512 (leNat (cellsRead (s.coreRec core).tray a 64))) false) := by
  intro hissues
  obtain ⟨_, hrun, _⟩ := live_iff.1 hissues.1
  revert hissues
  refine retires_of_retire (major := 0x17) rfl ⟨_, _, (trayAccess_inside hbase ha hal hend ..).trans ?_, rfl, Frame.refl _ _⟩
  rw [issued_trayWord hrun, trayWord_clean hclean]

/-- A store of some bytes to the tray, in the window: the thread goes on, and the tray reads them where its mask says. -/
theorem does_of_trayPut {c : Instr} {s : State} {core th major : Nat} {uses : List Nat} {t : CoreTile} {x : Thread} {go : CoreTile → Thread → State → State}
    {f : Thread → Thread} {a n : Nat} {bs : List Byte} {mask : Nat → Bool} {poison : Bool} (hissues : s.issues core th uses t x)
    (hnext : x.pc + 1 < t.textLen / 4) (hwf : Memory.wf (s.coreRec core).tray = true) (hlen : bs.length = n)
    (hexec : exec c s = .next (issue core th uses false false go s))
    (hgo : go t x (issued core th t s) = retire core th major t x f (setCore core (fun k => k.trayPut a bs mask poison) (issued core th t s))) :
    Does c s (fun u => u.threadOf core th = some { f x with pc := x.pc + 1 } ∧ OnlyThread core th [] s u ∧ ∀ b, cellGet (u.coreRec core).tray b
      = if a ≤ b ∧ b < a + n ∧ mask (b - a) = true then (if poison = true then 0 else bs.getD (b - a) 0) else cellGet (s.coreRec core).tray b) := by
  obtain ⟨u, hu, hthread, honly, htray⟩ := does_of_traySet (g := fun k => k.trayPut a bs mask poison) hissues hnext hexec hgo (fun k => trayPut_run k ..)
    (fun k => trayPut_tenant k ..)
    (fun k j h => trayPut_tray_congr h ..)
  refine ⟨u, hu, hthread, honly, fun b => ?_⟩
  rw [htray, cellGet_trayPut_all hwf, hlen]

/-- Settles O31: loads read the bytes their thread's address names, stores and atomics write them and no others. -/
theorem trayAccesses : Obligations.TrayAccesses := by
  unfold Obligations.TrayAccesses
  intro s core th t x rb a imm hbase
  refine ⟨fun rt size ha hal hend hclean => ⟨?_, ?_⟩, fun rt size ha hal hend hbad c hc => ?_, fun vt ha hal hend hclean =>
    vtld_retires hbase ha hal hend hclean, fun rt size ha hal hend hissues hnext hwf => ?_, fun vt pred ha hal hend hissues hnext hwf hclean => ?_,
    fun rd rs2 subop old ha hal hend hclean h2 hd hold hissues hnext hwf => ?_⟩
  · exact trayLoad_retires (sgn := false) rfl hbase ha hal hend (trayWord_clean hclean)
  · exact trayLoad_retires (sgn := true) rfl hbase ha hal hend (trayWord_clean hclean)
  · simp only [List.mem_cons, List.not_mem_nil, or_false] at hc
    have hzero : ∀ v : Word64, x.setX rt v true = x.setX rt 0 true := fun v => rfl
    rcases hc with rfl | rfl
    · exact trayLoad_retires (sgn := false) rfl hbase ha hal hend (trayWord_poisoned hbad)
    · have := trayLoad_retires (sgn := true) (s := s) (th := th) (rt := rt) (c := .tlds core th rt rb size imm) rfl hbase ha hal hend
        (trayWord_poisoned hbad)
      rw [hzero] at this
      exact this
  · have hput := does_of_trayPut (f := id) (mask := fun _ => true) (poison := (x.xr rt).2) hissues hnext hwf
      (length_leBytes (2 ^ size) (x.xr rt).1.toNat) (c := .tst core th rt rb size imm) rfl (trayAccess_inside hbase ha hal hend ..)
    simpa using hput
  · have hput := does_of_trayPut (f := id) (mask := fun i => (x.pr pred).getLsbD i) (poison := (x.vr vt).2) hissues hnext hwf
      (length_vecBytes (x.vr vt).1) (c := .vtst core th vt rb pred imm) rfl (trayAccess_inside hbase ha hal hend ..)
    simpa [hclean] using hput
  · obtain ⟨_, hrun, _⟩ := live_iff.1 hissues.1
    have hgoes : unpoisoned core th 0x19 x ((x.xr rs2).2 || (subop == 3 && (x.xr rd).2)) (fun s =>
        trayAccess core th 0x19 t x (x.xr rb) 0 8 8 (fun a s =>
          let (old, bad) := (s.coreRec core).trayWord a 8
          if bad then retire core th 0x19 t x (Thread.setX rd 0 true) s
          else
            let new := leBytes 8 (atomicNew subop old (x.xr rs2).1.toNat (x.xr rd).1.toNat)
            retire core th 0x19 t x (Thread.setX rd (BitVec.ofNat 64 old) false) (setCore core (fun c => c.trayPut a new (fun _ => true) false) s)) s)
          (issued core th t s)
        = retire core th 0x19 t x (Thread.setX rd (BitVec.ofNat 64 old) false) (setCore core (fun c => c.trayPut a
            (leBytes 8 (atomicNew subop old (x.xr rs2).1.toNat (x.xr rd).1.toNat)) (fun _ => true) false) (issued core th t s)) := by
      rw [unpoisoned_false (by simp [h2, hd]), trayAccess_inside hbase ha hal hend]
      dsimp only
      rw [issued_trayWord hrun, trayWord_clean hclean, hold]
      exact if_neg nofun
    have hput := does_of_trayPut hissues hnext hwf (length_leBytes 8 _) (c := .tamo core th rd rb rs2 subop) rfl hgoes
    simpa using hput

/-! ### Accumulators (R405 to R411, R445) -/

/-- An instruction that adds to an accumulator retires with it. -/
theorem accOp_retires {c : Instr} {s : State} {core th major : Nat} {t : CoreTile} {x : Thread} {ad xs pred fmt : Nat} {vs : List Nat} {f : Fmt}
    {g : Fmt → Thread → Nat → Val} (hf : Fmt.ofReg fmt = some f) (hxs : xs = 0 ∨ f.scales = true) (hclean : (x.xr xs).2 = false)
    (hexec : exec c s = .next (accOp core th major ad vs xs pred fmt g s)) :
    Retires c s core th ([aReg ad, xs, pReg pred] ++ vs.map vReg) t x
      (x.setA ad (accumulate f (x.pr pred) (vs.any (fun i => (x.vr i).2)) (g f x) (x.ar ad)).1) := by
  have hok : (xs == 0 || f.scales) = true := by simpa using hxs
  refine retires_of_retire (major := major) (hexec.trans (congrArg Host.Outcome.next (withFmt_ok (ok := fun f => xs == 0 || f.scales) hf hok _ s)))
    ⟨_, _, unpoisoned_false hclean .., rfl, frame_countEv (by decide) (Frame.refl _ _)⟩

theorem aadd_traps {s : State} {core th : Nat} {t : CoreTile} {x : Thread} {ad vs1 xs pred fmt : Nat} {f : Fmt} (hf : Fmt.ofReg fmt = some f)
    (hscales : f.scales = true) (hbad : (x.xr xs).2 = true) (hissues : s.issues core th [aReg ad, xs, pReg pred, vReg vs1] t x) :
    Traps (.aadd core th ad vs1 xs pred fmt) s core t (excHere x th 0x30 7 0) := by
  have hok : (xs == 0 || f.scales) = true := by rw [hscales, Bool.or_true]
  exact traps_of_takeExc hissues (congrArg Host.Outcome.next (withFmt_ok (ok := fun f => xs == 0 || f.scales) hf hok _ s))
    (unpoisoned_true hbad ..)

theorem aout_retires {s : State} {core th : Nat} {t : CoreTile} {x : Thread} {ad vr index fmt : Nat} {f : Fmt} (hf : Fmt.ofReg fmt = some f)
    (hplain : f.plainVec = true) (hindex : index < f.count) : Retires (.aout core th ad vr index fmt) s core th [aReg ad, vReg vr] t x (x.setV vr
      (putElem f (x.vr vr).1 index (writeVal f s.e4m3Nan (x.ar ad).value).bits) ((x.ar ad).poison || (x.vr vr).2)) := by
  have hok : (f.plainVec && decide (index < f.count)) = true := by rw [hplain, decide_eq_true hindex]; rfl
  exact retires_of_retire
    (congrArg Host.Outcome.next (withFmt_ok (ok := fun f => f.plainVec && decide (index < f.count)) hf hok _ s))
    ⟨_, _, rfl, by rw [issued_e4m3Nan], frame_countEv (by decide) (Frame.refl _ _)⟩

theorem asave_does {s : State} {core th : Nat} {t : CoreTile} {x : Thread} {ad xr : Nat} (hbase : (x.xr xr).2 = false)
    (hal : (x.xr xr).1.toNat % 16 = 0) (hend : (x.xr xr).1.toNat + 80 ≤ t.tray) (hissues : s.issues core th [aReg ad, xr] t x)
    (hnext : x.pc + 1 < t.textLen / 4) :
    Does (.asave core th ad xr) s (fun u => u.threadOf core th = some { x with pc := x.pc + 1 } ∧ OnlyThread core th [] s u
      ∧ (u.coreRec core).tray = ((s.coreRec core).trayPut (x.xr xr).1.toNat (x.ar ad).spill (fun _ => true) false).tray) := by
  have hgo : trayAccess core th 0x32 t x (x.xr xr) 0 80 16 (fun a s =>
      retire core th 0x32 t x id (setCore core (fun c => c.trayPut a (x.ar ad).spill (fun _ => true) false) s)) (issued core th t s)
      = retire core th 0x32 t x id (setCore core (fun k => k.trayPut (x.xr xr).1.toNat (x.ar ad).spill (fun _ => true) false) (issued core th t s)) :=
    trayAccess_inside hbase (effAddr_zero _) hal hend ..
  exact does_of_traySet (c := .asave core th ad xr) hissues hnext rfl hgo (fun k => trayPut_run k ..) (fun k => trayPut_tenant k ..) (fun k j h => trayPut_tray_congr h ..)

theorem aload_retires {s : State} {core th : Nat} {t : CoreTile} {x : Thread} {ad xr : Nat} {v : Acc} (hbase : (x.xr xr).2 = false)
    (hal : (x.xr xr).1.toNat % 16 = 0) (hend : (x.xr xr).1.toNat + 80 ≤ t.tray)
    (hv : (s.coreRec core).trayBad (x.xr xr).1.toNat 80 = true ∧ v = { Acc.empty with poison := true }
      ∨ (s.coreRec core).trayBad (x.xr xr).1.toNat 80 = false ∧ Acc.fill (cellsRead (s.coreRec core).tray (x.xr xr).1.toNat 80) = (v, true)) :
    Retires (.aload core th ad xr) s core th [aReg ad, xr] t x (x.setA ad v) := by
  intro hissues
  obtain ⟨_, hrun, _⟩ := live_iff.1 hissues.1
  revert hissues
  refine retires_of_retire (major := 0x32) rfl
    ⟨Thread.setA ad v, issued core th t s, (trayAccess_inside hbase (effAddr_zero _) hal hend ..).trans ?_, rfl, Frame.refl _ _⟩
  have hbad : ((issued core th t s).coreRec core).trayBad (x.xr xr).1.toNat 80 = (s.coreRec core).trayBad (x.xr xr).1.toNat 80 := by
    rw [issued_coreRec hrun]; rfl
  have hcells : ((issued core th t s).coreRec core).tray = (s.coreRec core).tray := by rw [issued_coreRec hrun]
  dsimp only
  rw [hbad, hcells]
  rcases hv with ⟨hpoisoned, rfl⟩ | ⟨hclean, hfill⟩
  · exact if_pos hpoisoned
  · rw [hclean, hfill]
    rfl

/-- Settles O29: each instruction retires with the accumulator, register or tray that R445 says. -/
theorem accumulators : Obligations.Accumulators := by
  unfold Obligations.Accumulators
  intro s core th t x ad
  refine ⟨fun vs1 xs pred fmt f hf hxs hclean => ?_, fun vs1 vs2 xs pred fmt f hf hxs hclean => ?_, fun vs1 xs pred fmt f hf hscales hbad hissues =>
    aadd_traps hf hscales hbad hissues, retires_of_retire rfl ⟨_, _, rfl, rfl, Frame.refl _ _⟩, fun as_ =>
    retires_of_retire rfl ⟨_, _, rfl, rfl, Frame.refl _ _⟩, fun as_ => retires_of_retire rfl ⟨_, _, rfl, rfl, frame_countEv (by decide) (Frame.refl _ _)⟩,
    fun vr index fmt f hf hplain hindex => aout_retires hf hplain hindex, fun xr hbase hal hend hissues hnext => asave_does hbase hal hend hissues hnext,
    fun xr hbase hal hend hclean hgood => aload_retires hbase hal hend (.inr ⟨hclean, Prod.ext rfl hgood⟩), fun xr hbase hal hend hbad =>
    aload_retires hbase hal hend (.inl ⟨hbad, rfl⟩)⟩
  · have := accOp_retires (s := s) (core := core) (th := th) (t := t) (ad := ad) (vs := [vs1]) hf hxs hclean
      (c := .aadd core th ad vs1 xs pred fmt) rfl
    simpa using this
  · have := accOp_retires (s := s) (core := core) (th := th) (t := t) (ad := ad) (vs := [vs1, vs2]) hf hxs hclean
      (c := .adot core th ad vs1 vs2 xs pred fmt) rfl
    simpa using this

end Sys2Proof.Machine
end

section
/-!
PROOF. Thread and tile control: fences, barriers, the end of threads and tiles, TRAP and TRES (R431, R432, R439, R448, R454).
-/
namespace Sys2Proof.Machine

/-! ### Retiring in place, barriers and ends, on the record of the core -/

theorem retireTo_inside {core th major : Nat} {t : CoreTile} {x : Thread} {next : Nat} {f : Thread → Thread} {s : State} (hnext : next < t.textLen / 4) :
    retireTo core th major t x next f s
      = setThread core th (fun x => { f x with pc := next }) (bump .ktInstrs (dieOfCluster (clusterOf core)) s) := by
  have hstays : ¬ ((next : Int) < 0 ∨ (next : Int) ≥ t.textLen / 4) := by omega
  unfold retireTo
  dsimp only
  rw [if_neg hstays, Int.toNat_natCast]

/-- A tile after a barrier has been tried: open where every thread that has not exited is at it. -/
def CoreTile.opened (y : CoreTile) : CoreTile :=
  if y.threads.all (fun e => e.2.exited || e.2.atBar) then { y with threads := y.threads.map (fun e => (e.1, { e.2 with atBar := false })) } else y

theorem openBarrier_coreRec {core : Nat} {s : State} {y : CoreTile} (h : (s.coreRec core).run = some y) :
    (openBarrier core s).coreRec core = { s.coreRec core with run := some y.opened } := by
  refine (coreRec_setCore_same ..).trans ?_
  rw [h]; rfl

theorem opened_shut {y : CoreTile} {e : Nat × Thread} (he : e ∈ y.threads) (h : e.2.exited = false ∧ e.2.atBar = false) : y.opened = y :=
  if_neg fun hall => by
    have := List.all_eq_true.1 hall e he
    rw [h.1, h.2] at this
    exact absurd this nofun

theorem opened_open {y : CoreTile} (h : ∀ e ∈ y.threads, e.2.exited = true ∨ e.2.atBar = true) :
    y.opened = { y with threads := y.threads.map (fun e => (e.1, { e.2 with atBar := false })) } :=
  if_pos (List.all_eq_true.2 fun e he => by rcases h e he with h | h <;> simp [h])

theorem aget_opened {l : Assoc Nat Thread} (th : Nat) :
    aget (l.map (fun e => (e.1, { e.2 with atBar := false }))) th = (aget l th).map (fun x => { x with atBar := false }) :=
  aget_map_of_fst l th _ (fun _ => rfl)

theorem mem_onThread_ne {t : CoreTile} {th : Nat} {f : Thread → Thread} {e : Nat × Thread} (he : e ∈ t.threads) (hne : e.1 ≠ th) :
    e ∈ (t.onThread th f).threads := by
  refine List.mem_map.2 ⟨e, he, if_neg hne⟩

/-- The threads of a tile one of whose threads has changed. -/
theorem onThread_cases {t : CoreTile} {th : Nat} {f : Thread → Thread} {e : Nat × Thread} (he : e ∈ (t.onThread th f).threads) :
    (e ∈ t.threads ∧ e.1 ≠ th) ∨ ∃ x, e = (th, f x) := by
  obtain ⟨y, hy, hye⟩ := List.mem_map.1 he
  split at hye
  next heq => exact .inr ⟨y.2, by rw [← hye, heq]⟩
  next hne => subst hye; exact .inl ⟨hy, hne⟩

/-! ### Barriers (R439, R448) -/

/-- The instructions that reach a barrier, once they issue. -/
theorem exec_barrier {c : Instr} {s : State} {core th : Nat} {t : CoreTile} {x : Thread}
    (hc : c = .bar core th ∨ (c = .barf core th ∧ x.late = [] ∧ x.accesses = [])) (hissues : s.issues core th [] t x) :
    exec c s = .next (reachBarrier core th t x (issued core th t s)) := by
  rcases hc with rfl | ⟨rfl, hlate, haccesses⟩
  · exact congrArg Host.Outcome.next (issue_of_issues hissues _)
  · exact congrArg Host.Outcome.next (issue_drained hissues.1 hlate (fun _ => haccesses) _)

/-- A tile one of whose threads has come to the barrier and goes on at `pc` after it. -/
def CoreTile.met (t : CoreTile) (th pc : Nat) : CoreTile := { t with checked := true }.onThread th (fun y => { y with atBar := true, pc := pc })

/-- A thread comes to a barrier, and the barrier is tried. -/
theorem reachBarrier_does {c : Instr} {s : State} {core th : Nat} {t : CoreTile} {x : Thread}
    (hc : c = .bar core th ∨ (c = .barf core th ∧ x.late = [] ∧ x.accesses = [])) (hissues : s.issues core th [] t x)
    (hnext : x.pc + 1 < t.textLen / 4) :
    ∃ u, exec c s = .next u ∧ (u.coreRec core).run = some (t.met th (x.pc + 1)).opened ∧ Frame [.core, .recp, .ctrs] s u := by
  obtain ⟨_, hrun, _⟩ := live_iff.1 hissues.1
  obtain ⟨b, hb⟩ : ∃ b, b = bump .ktInstrs (dieOfCluster (clusterOf core)) (issued core th t s) := ⟨_, rfl⟩
  have hib : Issued core t s b := (issued_issued hrun).of_frame (by rw [hb]; exact frame_bump (by decide) (Frame.refl _ _))
  have hreach : reachBarrier core th t x (issued core th t s)
      = openBarrier core (setThread core th (fun y => { y with atBar := true, pc := x.pc + 1 }) b) := by
    unfold reachBarrier retire
    rw [show (x.pc : Int) + 1 = ((x.pc + 1 : Nat) : Int) by norm_cast, retireTo_inside hnext, hb]
  refine ⟨_, exec_barrier hc hissues, ?_, ?_⟩
  · rw [hreach, openBarrier_coreRec (congrArg Core.run (setThread_coreRec hib.run))]
    rfl
  · rw [hreach]
    exact frame_openBarrier (by decide) (frame_setThread (by decide) hib.frame)

theorem met_same {t : CoreTile} {th pc : Nat} {x : Thread} (h : aget t.threads th = some x) :
    aget (t.met th pc).threads th = some { x with atBar := true, pc := pc } := onThread_same _ h

/-- A barrier stays shut while another thread of the tile has not come to it. -/
theorem barrier_shut {c : Instr} {s : State} {core th : Nat} {t : CoreTile} {x : Thread}
    (hc : c = .bar core th ∨ (c = .barf core th ∧ x.late = [] ∧ x.accesses = [])) (hissues : s.issues core th [] t x)
    (hnext : x.pc + 1 < t.textLen / 4) (hother : ∃ y, y ∈ t.threads ∧ y.1 ≠ th ∧ y.2.exited = false ∧ y.2.atBar = false) :
    Does c s (fun u => u.threadOf core th = some { x with pc := x.pc + 1, atBar := true } ∧ Frame [.core, .recp, .ctrs] s u) := by
  obtain ⟨_, _, _, hx, _⟩ := live_iff.1 hissues.1
  obtain ⟨u, hexec, hrun, hframe⟩ := reachBarrier_does hc hissues hnext
  obtain ⟨y, hy, hyth, hyfree⟩ := hother
  rw [opened_shut (y := t.met th (x.pc + 1)) (mem_onThread_ne hy hyth) hyfree] at hrun
  exact ⟨u, hexec, by rw [threadOf_of_run hrun, met_same hx], hframe⟩

/-- The last thread to come to a barrier opens it for all. -/
theorem barrier_opens {c : Instr} {s : State} {core th : Nat} {t : CoreTile} {x : Thread}
    (hc : c = .bar core th ∨ (c = .barf core th ∧ x.late = [] ∧ x.accesses = [])) (hissues : s.issues core th [] t x)
    (hnext : x.pc + 1 < t.textLen / 4) (hothers : ∀ y, y ∈ t.threads → y.1 ≠ th → y.2.exited = true ∨ y.2.atBar = true) :
    Does c s (fun u => u.threadOf core th = some { x with pc := x.pc + 1, atBar := false }
      ∧ (∀ i y, u.threadOf core i = some y → y.atBar = false) ∧ Frame [.core, .recp, .ctrs] s u) := by
  obtain ⟨_, _, _, hx, _⟩ := live_iff.1 hissues.1
  obtain ⟨u, hexec, hrun, hframe⟩ := reachBarrier_does hc hissues hnext
  have hall : ∀ e ∈ (t.met th (x.pc + 1)).threads, e.2.exited = true ∨ e.2.atBar = true := by
    intro e he
    rcases onThread_cases he with ⟨hmem, hne⟩ | ⟨z, rfl⟩
    · exact hothers e hmem hne
    · exact .inr rfl
  rw [opened_open hall] at hrun
  refine ⟨u, hexec, ?_, fun i y hy => ?_, hframe⟩
  · rw [threadOf_of_run hrun, aget_opened, met_same hx]; rfl
  · rw [threadOf_of_run hrun, aget_opened, Option.map_eq_some_iff] at hy
    obtain ⟨z, -, rfl⟩ := hy
    rfl

/-! ### TEXIT (R431, R432, R448) -/

/-- A tile one of whose threads has exited. -/
def CoreTile.left (t : CoreTile) (th : Nat) : CoreTile := { t with checked := true }.onThread th (fun y => { y with exited := true })

theorem left_same {t : CoreTile} {th : Nat} {x : Thread} (h : aget t.threads th = some x) :
    aget (t.left th).threads th = some { x with exited := true } := onThread_same _ h

/-- A thread exits: the barrier is tried without it, and then the tile's end. -/
theorem texit_does {s : State} {core th : Nat} {t : CoreTile} {x : Thread} (hlate : x.late = []) (hlive : s.liveThread core th = some (t, x)) :
    ∃ v, exec (.texit core th) s = .next (endTile core v) ∧ (v.coreRec core).run = some (t.left th).opened
      ∧ (∀ id, (v.recipe id).map Recipe.unchecked = (s.recipe id).map Recipe.unchecked) ∧ Frame [.core, .recp, .ctrs] s v := by
  obtain ⟨_, hrun, _⟩ := live_iff.1 hlive
  obtain ⟨b, hb⟩ : ∃ b, b = bump .ktInstrs (dieOfCluster (clusterOf core)) (issued core th t s) := ⟨_, rfl⟩
  have hib : Issued core t s b := (issued_issued hrun).of_frame (by rw [hb]; exact frame_bump (by decide) (Frame.refl _ _))
  refine ⟨openBarrier core (setThread core th (fun y => { y with exited := true }) b), ?_, ?_, hib.recipes,
    frame_openBarrier (by decide) (frame_setThread (by decide) hib.frame)⟩
  · rw [hb]
    exact congrArg Host.Outcome.next (issue_drained (drain := false) hlive hlate (fun h => absurd h nofun) _)
  · rw [openBarrier_coreRec (congrArg Core.run (setThread_coreRec hib.run))]
    rfl

/-- Whether a thread has exited is the same after a barrier has been tried. -/
theorem exited_opened (y : CoreTile) (th : Nat) : (aget y.opened.threads th).map Thread.exited = (aget y.threads th).map Thread.exited := by
  unfold CoreTile.opened
  split
  · rw [aget_opened, Option.map_map]; rfl
  · rfl

theorem mem_opened {y : CoreTile} {e : Nat × Thread} (he : e ∈ y.threads) : ∃ z ∈ y.opened.threads, z.1 = e.1 ∧ z.2.exited = e.2.exited := by
  unfold CoreTile.opened
  split
  · exact ⟨_, List.mem_map.2 ⟨e, he, rfl⟩, rfl, rfl⟩
  · exact ⟨e, he, rfl, rfl⟩

/-- A tile that has a thread still to exit does not end. -/
theorem endTile_waits {core : Nat} {s : State} {y : CoreTile} (hrun : (s.coreRec core).run = some y) (he : ∃ e ∈ y.threads, e.2.exited = false) :
    endTile core s = s := by
  obtain ⟨e, he, hexited⟩ := he
  have hall : y.threads.all (fun e => e.2.exited) = false := List.all_eq_false.2 ⟨e, he, by rw [hexited]; exact nofun⟩
  unfold endTile
  simp only [hrun, hall, Bool.not_false, Bool.or_true, Bool.true_or, if_true]

theorem texit_others {s : State} {core th : Nat} {t : CoreTile} {x : Thread} (hlate : x.late = []) (hlive : s.liveThread core th = some (t, x))
    (hother : ∃ y, y ∈ t.threads ∧ y.1 ≠ th ∧ y.2.exited = false) :
    Does (.texit core th) s (fun u => (u.threadOf core th).map Thread.exited = some true ∧ u.mem = s.mem) := by
  obtain ⟨_, _, _, hx, _⟩ := live_iff.1 hlive
  obtain ⟨v, hexec, hrun, -, hframe⟩ := texit_does hlate hlive
  obtain ⟨y, hy, hyth, hyexited⟩ := hother
  have hends : endTile core v = v := by
    obtain ⟨z, hz, -, hzexited⟩ := mem_opened (y := t.left th) (e := y) (mem_onThread_ne hy hyth)
    exact endTile_waits hrun ⟨z, hz, hzexited.trans hyexited⟩
  refine ⟨_, hexec, ?_, ?_⟩
  · rw [hends, threadOf_of_run hrun, exited_opened, left_same hx]
    rfl
  · rw [hends, hframe.mem_eq rfl]

/-- A tile all of whose threads have exited, with no access outstanding and nothing late, ends. -/
theorem endTile_ends {core : Nat} {s : State} {y : CoreTile} (hrun : (s.coreRec core).run = some y) (hkernel : y.kernel = true)
    (hending : y.ending = .running) (hsome : y.threads.isEmpty = false) (hall : y.threads.all (fun e => e.2.exited) = true) (hquiet : y.quiet = true)
    (hlate : y.threads.flatMap (fun e => e.2.late) = []) : endTile core s = settleWaits (fillLocals (clusterOf core)
      (bump .ktTiles (dieOfCluster (clusterOf core)) (bump .tqRun (clusterOf core) (doneTile y.recipe y.tile
        (setRecipe y.recipe (fun r => { r with result := r.result + 1 }) (setCore core (fun c => { c with run := none }) s)))))) := by
  unfold endTile
  simp only [hrun, hkernel, hending, hsome, hall, hquiet, hlate, Bool.not_true, bne_self_eq_false, Bool.or_self, Bool.false_eq_true, if_false,
    List.head?_nil]

/-- A tile that is done is among its recipe's. -/
theorem doneTile_recipe {id tile : Nat} {s : State} {r : Recipe} (h : s.recipe id = some r) :
    ∃ q, (doneTile id tile s).recipe id = some q ∧ q.result = r.result ∧ tile ∈ q.done := by
  obtain ⟨m, hm⟩ : ∃ m, m = setRecipe id (fun x => { x with done := if x.done.contains tile then x.done else x.done ++ [tile] }) s := ⟨_, rfl⟩
  have hdone : doneTile id tile s
      = bump .rcTiles (r.die * 16 + r.d.code) (mirrorState 0 6 1 (leBytes 2 r.slot ++ leBytes 2 r.tag ++ leBytes 2 0 ++ leBytes 4 tile) m) := by
    unfold doneTile
    rw [h, hm]
  have hframe : Frame [.mirror, .leaves, .ctrs] m (doneTile id tile s) := by
    rw [hdone]
    exact frame_bump (by decide) (frame_mirrorState (by decide) (Frame.refl _ m))
  refine ⟨{ r with done := if r.done.contains tile then r.done else r.done ++ [tile] }, (recipe_of_recp_eq (hframe.recp_eq rfl) id).trans (by
    rw [hm]
    exact recipe_setRecipe_same (f := fun x => { x with done := if x.done.contains tile then x.done else x.done ++ [tile] }) (fun _ => rfl) h),
    rfl, ?_⟩
  split
  next hin => exact List.contains_iff_mem.1 hin
  next => exact List.mem_append_right _ (List.mem_singleton_self tile)

theorem texit_last {s : State} {core th : Nat} {t : CoreTile} {x : Thread} (hlate : x.late = []) (hlive : s.liveThread core th = some (t, x))
    (honly : t.threads = [(th, x)]) (haccesses : x.accesses = []) : Does (.texit core th) s (fun u =>
      ∃ w, u = settleWaits (fillLocals (clusterOf core) w) ∧ (w.coreRec core).run = none ∧ w.mem = s.mem
        ∧ ∃ r q, s.recipe t.recipe = some r ∧ w.recipe t.recipe = some q ∧ q.result = r.result + 1 ∧ t.tile ∈ q.done) := by
  obtain ⟨_, _, ⟨hkernel, hending, r, hr⟩, _⟩ := live_iff.1 hlive
  obtain ⟨v, hexec, hrun, hsame, hframe⟩ := texit_does hlate hlive
  have hleft : (t.left th).threads = [(th, { x with exited := true })] := by
    simp [CoreTile.left, CoreTile.onThread, honly]
  have hopened : (t.left th).opened = { t.left th with threads := [(th, { x with exited := true, atBar := false })] } := by
    rw [opened_open (fun e he => by rw [hleft, List.mem_singleton] at he; subst he; exact .inl rfl), hleft]
    rfl
  rw [hopened] at hrun
  have hends := endTile_ends hrun hkernel hending rfl rfl (by simp [CoreTile.quiet, haccesses]) (by simp [hlate])
  obtain ⟨q, hq, hqr⟩ : ∃ q, v.recipe t.recipe = some q ∧ q.unchecked = r.unchecked := by
    have := hsame t.recipe
    rwa [hr, Option.map_some, Option.map_eq_some_iff] at this
  have hresult : q.result = r.result := (congrArg Recipe.result hqr :)
  obtain ⟨m, hm⟩ : ∃ m, m = setRecipe t.recipe (fun r => { r with result := r.result + 1 }) (setCore core (fun c => { c with run := none }) v) := ⟨_, rfl⟩
  have hmq : m.recipe t.recipe = some { q with result := q.result + 1 } := by
    rw [hm]
    exact recipe_setRecipe_same (f := fun r => { r with result := r.result + 1 }) (fun _ => rfl) hq
  obtain ⟨p, hp, hpresult, hptile⟩ := doneTile_recipe (tile := t.tile) hmq
  obtain ⟨w, hw⟩ : ∃ w, w = bump .ktTiles (dieOfCluster (clusterOf core)) (bump .tqRun (clusterOf core) (doneTile t.recipe t.tile m)) := ⟨_, rfl⟩
  have hframe1 : Frame [.ctrs] (doneTile t.recipe t.tile m) w := by
    rw [hw]
    exact frame_bump (by decide) (frame_bump (by decide) (Frame.refl _ _))
  have hframe2 : Frame [.recp, .mirror, .leaves, .ctrs] m w := (frame_doneTile (by decide) (Frame.refl _ m)).trans (hframe1.mono (by decide))
  refine ⟨_, hexec, w, ?_, ?_, ?_, r, p, hr, ?_, by rw [hpresult, ← hresult], hptile⟩
  · rw [hends, hw, hm]
    rfl
  · rw [coreRec_of_core_eq (hframe2.core_eq rfl), hm]
    exact congrArg Core.run (coreRec_setCore_same core (fun c => { c with run := none }) v)
  · rw [hframe2.mem_eq rfl, hm]
    exact hframe.mem_eq rfl
  · rw [recipe_of_recp_eq (hframe1.recp_eq rfl)]
    exact hp

/-! ### TRES (R432, R439) -/

theorem tres_does {s : State} {core th : Nat} {t : CoreTile} {x : Thread} {rs1 : Nat} (hclean : (x.xr rs1).2 = false)
    (hissues : s.issues core th [rs1] t x) (hnext : x.pc + 1 < t.textLen / 4) : Does (.tres core th rs1) s (fun u =>
      u.threadOf core th = some { x with pc := x.pc + 1 } ∧ Frame [.core, .recp, .ctrs] s u
        ∧ ∃ r q, s.recipe t.recipe = some r ∧ u.recipe t.recipe = some q ∧ q.result2 = (r.result2 + (x.xr rs1).1.toNat) % 2 ^ 64 ∧ q.result = r.result) := by
  obtain ⟨_, hrun, ⟨_, _, r, hr⟩, hx, _⟩ := live_iff.1 hissues.1
  have hi := issued_issued (th := th) hrun
  obtain ⟨q, hq, hqr⟩ : ∃ q, (issued core th t s).recipe t.recipe = some q ∧ q.unchecked = r.unchecked := by
    have := hi.recipes t.recipe
    rwa [hr, Option.map_some, Option.map_eq_some_iff] at this
  have hresult : q.result = r.result := (congrArg Recipe.result hqr :)
  have hresult2 : q.result2 = r.result2 := (congrArg Recipe.result2 hqr :)
  obtain ⟨m, hm⟩ : ∃ m, m = setRecipe t.recipe (fun r => { r with result2 := (r.result2 + (x.xr rs1).1.toNat) % 2 ^ 64 }) (issued core th t s) := ⟨_, rfl⟩
  obtain ⟨b, hb⟩ : ∃ b, b = bump .ktInstrs (dieOfCluster (clusterOf core)) m := ⟨_, rfl⟩
  have hmb : Frame [.ctrs] m b := by rw [hb]; exact frame_bump (by decide) (Frame.refl _ m)
  have hbrun : (b.coreRec core).run = some { t with checked := true } := by
    rw [coreRec_of_core_eq (hmb.core_eq rfl), hm]
    exact hi.run
  have hmq : m.recipe t.recipe = some { q with result2 := (q.result2 + (x.xr rs1).1.toNat) % 2 ^ 64 } := by
    rw [hm]
    exact recipe_setRecipe_same (f := fun r => { r with result2 := (r.result2 + (x.xr rs1).1.toNat) % 2 ^ 64 }) (fun _ => rfl) hq
  have hgoes : issue core th [rs1] false false (fun t x s => unpoisoned core th 0 x (x.xr rs1).2 (fun s =>
      retire core th 0 t x id (setRecipe t.recipe (fun r => { r with result2 := (r.result2 + (x.xr rs1).1.toNat) % 2 ^ 64 }) s)) s) s
      = setThread core th (fun x' => { x' with pc := x.pc + 1 }) b := by
    rw [issue_of_issues hissues, unpoisoned_false hclean, ← hm, retire, show (x.pc : Int) + 1 = ((x.pc + 1 : Nat) : Int) by norm_cast,
      retireTo_inside hnext, hb]
    rfl
  refine ⟨_, congrArg Host.Outcome.next hgoes, ?_, ?_, r, _, hr, (recipe_of_recp_eq (hmb.recp_eq rfl) _).trans hmq, by rw [hresult2], hresult⟩
  · rw [threadOf_of_run (congrArg Core.run (setThread_coreRec hbrun))]
    exact onThread_same (t := { t with checked := true }) _ hx
  · refine frame_setThread (by decide) (hi.frame.trans (Frame.trans ?_ (hmb.mono (by decide))))
    rw [hm]
    exact frame_setRecipe (by decide) (Frame.refl _ _)

/-! ### The obligation -/

/-- An instruction at which a late exception is taken (R454). -/
theorem late_traps {c : Instr} {s : State} {core th : Nat} {t : CoreTile} {x : Thread} {e : Exc × Nat} {l : List (Exc × Nat)} {drain : Bool}
    {go : CoreTile → Thread → State → State} (hlate : x.late = e :: l) (hlive : s.liveThread core th = some (t, x))
    (hexec : exec c s = .next (issue core th [] true drain go s)) : Traps c s core t e.1 := by
  obtain ⟨_, hrun, ⟨_, hending, hrecipe⟩, _⟩ := live_iff.1 hlive
  refine ⟨_, hexec, ?_⟩
  have htakes : issue core th [] true drain go s = takeExc core e.1 s := by
    unfold issue
    simp only [hlive, hlate, List.find?_cons, Bool.true_or]
  rw [htakes]
  exact ⟨takeExc_trapped _ (fun _ => rfl) hrecipe hrun ⟨rfl, rfl, hending⟩, frame_takeExc (by decide) (Frame.refl _ s)⟩

/-- An instruction that waits for the accesses of its thread leaves the state as it is while one is outstanding. -/
theorem issue_waits {s : State} {core th : Nat} {t : CoreTile} {x : Thread} (hlate : x.late = []) (haccesses : x.accesses ≠ [])
    (hlive : s.liveThread core th = some (t, x)) (go : CoreTile → Thread → State → State) : issue core th [] true true go s = s := by
  have hwaits : x.accesses.isEmpty = false := by simpa using haccesses
  unfold issue
  simp only [hlive, hlate, List.find?_nil, hwaits, Bool.not_false, Bool.and_self, Bool.true_or, if_true]

/-- Settles O24: fences drain, barriers shut and open, threads and tiles end, and TRAP and TRES act. -/
theorem threadControl : Obligations.ThreadControl := by
  unfold Obligations.ThreadControl
  intro s core th t x rs1
  refine ⟨fun hlate haccesses hissues hnext => ?_, fun hlate haccesses hlive =>
    ⟨⟨_, rfl, issue_waits hlate haccesses hlive _⟩, ⟨_, rfl, issue_waits hlate haccesses hlive _⟩⟩, fun e l hlate hlive c hc => ?_,
    fun c hc hissues hnext hother _ => barrier_shut hc hissues hnext hother, fun c hc hissues hnext hothers => barrier_opens hc hissues hnext hothers,
    fun hlate hlive hother _ => texit_others hlate hlive hother, fun hlate hlive honly haccesses => texit_last hlate hlive honly haccesses,
    fun hissues => traps_of_takeExc hissues rfl rfl, fun hclean hissues hnext => tres_does hclean hissues hnext, fun hbad hissues =>
    traps_of_takeExc hissues rfl (unpoisoned_true hbad ..)⟩
  · have hsame : exec (.fence core th) s = .next (issue core th [] false false (fun t x s => retire core th 0 t x id s) s) := by
      refine congrArg Host.Outcome.next ?_
      rw [issue_drained hissues.1 hlate (fun _ => haccesses), issue_of_issues hissues]
    exact retires_of_retire hsame ⟨id, _, rfl, rfl, Frame.refl _ _⟩ hissues hnext
  · simp only [List.mem_cons, List.not_mem_nil, or_false] at hc
    rcases hc with rfl | rfl | rfl
    all_goals exact late_traps hlate hlive rfl

end Sys2Proof.Machine
end

section
/-!
PROOF. What the operations of the home directory leave of entries and recalls (R240 to R253), and of the bytes of pool memory (R40, R318).
-/
namespace Sys2Proof.Machine

/-! ### Tables -/

theorem aget_append {K V : Type} [DecidableEq K] (a b : Assoc K V) (k : K) : aget (a ++ b) k = (aget a k).or (aget b k) := by
  induction a with
  | nil => rfl
  | cons e a ih =>
    obtain ⟨j, v⟩ := e
    rw [List.cons_append, aget, aget]
    split
    · rfl
    · exact ih

theorem aget_filter_key {K V : Type} [DecidableEq K] (t : Assoc K V) (p : K → Bool) (k : K) :
    aget (t.filter (fun e => p e.1)) k = if p k = true then aget t k else none := by
  induction t with
  | nil => rw [List.filter_nil, aget, ite_self]
  | cons e t ih =>
    obtain ⟨j, v⟩ := e
    rw [List.filter_cons]
    by_cases hj : j = k
    · subst hj
      cases hp : p j with
      | true => simp [aget, hp]
      | false => simp [ih, hp]
    · cases hp : p j <;> simp [aget, hj, ih, hp]

theorem aget_adel_ne {K V : Type} [DecidableEq K] (t : Assoc K V) {k j : K} (h : j ≠ k) : aget (adel t k) j = aget t j := by
  rw [adel, aget_filter_key t (fun x => decide (x ≠ k)), if_pos (decide_eq_true h)]

theorem aget_map_value {K V : Type} [DecidableEq K] (t : Assoc K V) (k : K) (f : V → V) :
    aget (t.map (fun e => if e.1 = k then (e.1, f e.2) else e)) k = (aget t k).map f := by
  induction t with
  | nil => rfl
  | cons e t ih =>
    obtain ⟨j, v⟩ := e
    rw [List.map_cons]
    by_cases hj : j = k
    · simp [aget, hj]
    · simpa [aget, hj] using ih

/-! ### Entries -/

/-- The order of use of lines changes no entry. -/
theorem aget_lastUsed {V : Type} (t : Assoc Nat V) (line l : Nat) :
    aget (t.filter (fun e => e.1 != line) ++ t.filter (fun e => e.1 == line)) l = aget t l := by
  rw [aget_append, aget_filter_key t (fun x => x != line), aget_filter_key t (fun x => x == line)]
  by_cases h : l = line <;> simp [h]

theorem touchEntry_dir (line : Nat) (s : State) : ∃ es rs, (touchEntry line s).dir = { s.dir with entries := es, regions := rs }
    ∧ (∀ l, aget es l = aget s.dir.entries l) ∧ ∀ r, aget rs r = aget s.dir.regions r :=
  ⟨_, _, rfl, aget_lastUsed _ _, aget_lastUsed _ _⟩

/-- An entry that is put is that line's; the other lines keep theirs, and recalls and evictions stay. -/
theorem putEntry_dir (line : Nat) (e : DirEntry) (s : State) : ∃ es rs, (putEntry line e s).dir = { s.dir with entries := es, regions := rs }
    ∧ ∀ l, aget es l = if l = line then some e else aget s.dir.entries l := by
  unfold putEntry
  extract_lets fresh t reg u
  have ht : ∃ es rs, t.dir = { s.dir with entries := es, regions := rs } ∧ ∀ l, aget es l = if l = line then some e else aget s.dir.entries l := by
    obtain ⟨es, rs, hdir, hes, -⟩ := touchEntry_dir line (s.onDir (fun d => { d with entries := adel d.entries line ++ [(line, e)] }))
    refine ⟨es, rs, hdir, fun l => (hes l).trans ?_⟩
    show aget (adel s.dir.entries line ++ [(line, e)]) l = _
    rw [aget_append]
    by_cases hl : l = line
    · simp [hl, aget]
    · rw [aget_adel_ne _ hl, if_neg hl]
      simp [aget, Ne.symm hl]
  have hu : u.dir = t.dir := Frame.dir_eq (P := [.mirror, .leaves, .ctrs]) (frame_mirrorEntry (by decide) (Frame.refl _ t)) rfl
  rw [← hu] at ht
  clear_value u
  obtain ⟨es, rs, hdir, hes⟩ := ht
  split
  · refine ⟨es, u.dir.regions.map (fun x => if x.1 = reg then (x.1, { x.2 with lines := (u.regionLines reg).length }) else x), ?_, hes⟩
    rw [Frame.dir_eq (P := [.mirror, .leaves, .ctrs]) (frame_mirrorRegion (by decide) (Frame.refl _ _)) rfl, State.onDir_dir, hdir]
  · exact ⟨es, rs, hdir, hes⟩

theorem entry_putEntry (line : Nat) (e : DirEntry) (s : State) (l : Nat) : (putEntry line e s).entry l = if l = line then some e else s.entry l := by
  obtain ⟨es, rs, hdir, hes⟩ := putEntry_dir line e s
  rw [State.entry, hdir]
  exact hes l

theorem recalls_putEntry (line : Nat) (e : DirEntry) (s : State) : (putEntry line e s).dir.recalls = s.dir.recalls := by
  obtain ⟨es, rs, hdir, -⟩ := putEntry_dir line e s
  rw [hdir]

theorem evicts_putEntry (line : Nat) (e : DirEntry) (s : State) : (putEntry line e s).dir.evicts = s.dir.evicts := by
  obtain ⟨es, rs, hdir, -⟩ := putEntry_dir line e s
  rw [hdir]

/-- An entry that is dropped is gone; the other lines keep theirs. -/
theorem dropEntry_dir (line : Nat) (s : State) : ∃ es rs, (dropEntry line s).dir = { s.dir with entries := es, regions := rs }
    ∧ ∀ l, aget es l = if l = line then none else aget s.dir.entries l := by
  unfold dropEntry
  split
  · rename_i h
    refine ⟨s.dir.entries, s.dir.regions, rfl, fun l => ?_⟩
    split
    · rename_i hl
      rw [hl]
      exact Option.isNone_iff_eq_none.mp h
    · rfl
  · extract_lets u reg n
    have hu : u.dir = { s.dir with entries := adel s.dir.entries line } := Frame.dir_eq (P := [.mirror, .leaves, .ctrs]) (frame_mirrorEntry (by decide) (Frame.refl _ _)) rfl
    clear_value n u
    refine ⟨adel s.dir.entries line, if n = 0 then adel u.dir.regions reg else u.dir.regions.map (fun x => if x.1 = reg then (x.1, { x.2 with lines := n }) else x),
      ?_, fun l => ?_⟩
    · rw [Frame.dir_eq (P := [.mirror, .leaves, .ctrs]) (frame_mirrorRegion (by decide) (Frame.refl _ _)) rfl, State.onDir_dir, hu]
    · split
      · rename_i hl
        rw [hl, aget_adel_same]
      · rename_i hl
        exact aget_adel_ne _ hl

theorem entry_dropEntry (line : Nat) (s : State) (l : Nat) : (dropEntry line s).entry l = if l = line then none else s.entry l := by
  obtain ⟨es, rs, hdir, hes⟩ := dropEntry_dir line s
  rw [State.entry, hdir]
  exact hes l

theorem recalls_dropEntry (line : Nat) (s : State) : (dropEntry line s).dir.recalls = s.dir.recalls := by
  obtain ⟨es, rs, hdir, -⟩ := dropEntry_dir line s
  rw [hdir]

theorem entry_putOrDrop (line : Nat) (e : DirEntry) (s : State) (l : Nat) :
    (putOrDrop line e s).entry l = if l = line then (if e.empty = true then none else some e) else s.entry l := by
  unfold putOrDrop
  split
  · exact entry_dropEntry ..
  · exact entry_putEntry ..

theorem recalls_putOrDrop (line : Nat) (e : DirEntry) (s : State) : (putOrDrop line e s).dir.recalls = s.dir.recalls := by
  unfold putOrDrop
  split
  · exact recalls_dropEntry ..
  · exact recalls_putEntry ..

/-- Settling what has aged changes nothing of an entry but its AGED. -/
theorem settleAged_dir (line : Nat) (s : State) : (settleAged line s).dir.recalls = s.dir.recalls
    ∧ (∀ l, ((settleAged line s).entry l).map (fun e => { e with aged := false }) = (s.entry l).map (fun e => { e with aged := false }))
    ∧ (s.entry line = none → (settleAged line s).dir.entries = s.dir.entries) := by
  unfold settleAged
  split
  · exact ⟨rfl, fun _ => rfl, fun _ => rfl⟩
  · split
    · rename_i e he
      split
      · refine ⟨recalls_putEntry .., fun l => ?_, fun h => absurd (he.symm.trans h) nofun⟩
        rw [entry_putEntry]
        split
        · rename_i hl
          rw [hl, he]
          rfl
        · rfl
      · exact ⟨rfl, fun _ => rfl, fun _ => rfl⟩
    · exact ⟨rfl, fun _ => rfl, fun _ => rfl⟩

theorem settleAged_frame (line : Nat) (s : State) : Frame [.dir, .mirror, .leaves, .ctrs] s (settleAged line s) :=
  frame_settleAged (by decide) (Frame.refl _ s)

/-! ### Recalls -/

/-- A recall that closes is gone, and its line keeps an entry only of who is left. -/
theorem closeRecall_dir (line : Nat) (s : State) : aget (closeRecall line s).dir.recalls line = none
    ∧ ∀ l, l ≠ line → aget (closeRecall line s).dir.recalls l = aget s.dir.recalls l := by
  unfold closeRecall
  extract_lets t
  have ht : t.dir = s.dir := rfl
  rw [← ht]
  clear_value t
  split
  · extract_lets u e1 e2
    rw [recalls_putOrDrop]
    exact ⟨aget_adel_same .., fun l hl => aget_adel_ne _ hl⟩
  · exact ⟨aget_adel_same .., fun l hl => aget_adel_ne _ hl⟩
  · rename_i h
    exact ⟨h, fun _ _ => rfl⟩

end Sys2Proof.Machine
end

section
/-!
PROOF. Lines of pool memory as they are written: the bytes of a line that commits, whole or merged, and of no other (R47, R318).
-/
namespace Sys2Proof.Machine

/-! ### Bytes of pool memory -/

theorem pantryRoom_cells (l : Nat) (s : State) : (pantryRoom l s).mem.cells = s.mem.cells := by
  unfold pantryRoom
  split
  · rfl
  extract_lets set
  split
  · rfl
  · refine (forAll_keeps (g := fun u : State => u.mem.cells) (fun e u => ?_) _ _).trans rfl
    unfold onlyIf
    split
    · rw [Frame.mem_eq (P := [.pkg, .dram, .power, .rings, .ctrs, .free]) (frame_dramPush (by decide) (Frame.refl _ _)) rfl]
      rfl
    · rfl

theorem commitRaw_cells (l : Nat) (bytes : List Byte) (m : LineMeta) (s : State) :
    (commitRaw l bytes m s).mem.cells = cellsPut s.mem.cells (l * 128) (padTo 128 bytes) := by
  unfold commitRaw
  extract_lets old held t u
  have ht : t.mem.cells = s.mem.cells := pantryRoom_cells l s
  rw [Frame.mem_eq (P := [.mirror, .leaves, .ctrs]) (frame_mirrorLine (by decide) (frame_mapGranule (by decide) (Frame.refl _ u))) rfl, ← ht]
  rfl

theorem storeOf_direct {s : State} {line : Nat} (h : isDeepPa (line * 128) = false) : s.storeOf line = some line := by
  unfold State.storeOf
  dsimp only
  rw [h, if_neg Bool.false_ne_true]

/-- A line of the direct window that commits, no dump watching, holds its bytes (R47). -/
theorem commitLine_cells {line : Nat} {bytes : List Byte} {s : State} (hdirect : isDeepPa (line * 128) = false) (hserves : s.lineFailed line = false)
    (hdumps : s.obs.dumps = []) (m : LineMeta) :
    (commitLine line bytes m s).mem.cells = cellsPut s.mem.cells (line * 128) (padTo 128 bytes) := by
  have hclean : dirtyFrame line (dumpCopy line s) = s := by
    unfold dirtyFrame dumpCopy
    dsimp only
    rw [hdirect, if_neg Bool.false_ne_true, hdumps]
    rfl
  unfold commitLine
  rw [storeOf_direct hdirect]
  dsimp only
  rw [hserves, if_neg Bool.false_ne_true, Frame.mem_eq (P := [.obs]) (frame_dumpTrigger (by decide) (Frame.refl _ _)) rfl, commitRaw_cells, hclean]

/-- A line of the direct window that is written, no dump watching, holds its bytes (R47, R318). -/
theorem writeLine_cells {line : Nat} {bytes : List Byte} {poison : Bool} {cause tenant keyId : Nat} {s : State} (hdirect : isDeepPa (line * 128) = false)
    (hserves : s.lineFailed line = false) (hdumps : s.obs.dumps = []) :
    (writeLine line bytes poison cause tenant keyId s).mem.cells = cellsPut s.mem.cells (line * 128) (padTo 128 bytes) := by
  unfold writeLine
  rw [Frame.mem_eq (P := [.ledger, .integ, .leaves, .sessions, .rings, .kodp, .ctrs, .out])
    (frame_onlyIf (fun v hv => frame_poisonEvent (by decide) hv) (Frame.refl _ _)) rfl,
    commitLine_cells hdirect hserves hdumps]

theorem padTo_length (n : Nat) (l : List Byte) : (padTo n l).length = n := by
  unfold padTo
  rw [List.length_append, List.length_take, List.length_replicate]
  omega

theorem lineFailed_congr {s t : State} {line : Nat} (hdirect : isDeepPa (line * 128) = false) (hdram : t.dram = s.dram) : t.lineFailed line = s.lineFailed line := by
  unfold State.lineFailed State.channel
  rw [storeOf_direct hdirect, storeOf_direct hdirect, hdram]

end Sys2Proof.Machine
end

section
/-!
PROOF. Pool accesses of kernel threads: the checks of R449 in their order, the access that enters the window, and the faults that are taken at
the instruction (R453).
-/
namespace Sys2Proof.Machine

/-! ### The checks in their order (R449) -/

theorem poolAccess_poisoned {core th major : Nat} {t : CoreTile} {x : Thread} {bad : Bool} {a al : Nat} {need : List Nat} {write : Bool}
    {kind : AccKind} {f : Thread → Thread} {s : State} (h : bad = true) :
    poolAccess core th major t x bad a al need write kind f s = takeExc core (excHere x th major 7 0) s := unpoisoned_true h ..

theorem poolAccess_misaligned {core th major : Nat} {t : CoreTile} {x : Thread} {bad : Bool} {a al : Nat} {need : List Nat} {write : Bool}
    {kind : AccKind} {f : Thread → Thread} {s : State} (h : bad = false) (hal : a % al ≠ 0) :
    poolAccess core th major t x bad a al need write kind f s = takeExc core (excHere x th major 4 a) s :=
  (unpoisoned_false h ..).trans (if_pos hal)

/-- With the window full, the thread waits. -/
theorem poolAccess_full {core th major : Nat} {t : CoreTile} {x : Thread} {bad : Bool} {a al : Nat} {need : List Nat} {write : Bool}
    {kind : AccKind} {f : Thread → Thread} {s : State} (h : bad = false) (hal : a % al = 0) (hfull : 16 ≤ x.accesses.length) :
    poolAccess core th major t x bad a al need write kind f s = s :=
  (unpoisoned_false h ..).trans ((if_neg (not_not.2 hal)).trans (if_pos hfull))

theorem xlate_of_ok {die ctx addr : Nat} {need : List Nat} {write : Bool} {s v : State} {pa tenant key tier : Nat}
    (h : translate die ctx addr need write s = (v, .ok pa tenant key tier)) : xlate die ctx addr need write s = (v, .ok pa tenant key tier) := by
  rw [xlate, h]

theorem xlate_of_fault {die ctx addr : Nat} {need : List Nat} {write : Bool} {s v : State} {e : XFault}
    (h : translate die ctx addr need write s = (v, .fault e)) : xlate die ctx addr need write s = (v, .fault e) := by
  rw [xlate, h]

/-- What no longer waits for a context's generation does not change whether a segment is shut. -/
theorem sealBars_settled (who ctx : Nat) (v : State) (c tenant : Nat) (write : Bool) :
    (settled who ctx v).sealBars ((settled who ctx v).readDesc c).owner tenant write = v.sealBars (v.readDesc c).owner tenant write := by
  unfold settled
  split <;> rfl

/-- An access that passes every check enters the window, and its instruction retires. -/
theorem poolAccess_issues {core th major : Nat} {t : CoreTile} {x : Thread} {r : Recipe} {bad : Bool} {a al : Nat} {need : List Nat} {write : Bool}
    {kind : AccKind} {f : Thread → Thread} {s v : State} {pa tenant key tier : Nat} (h : bad = false) (hal : a % al = 0) (hroom : x.accesses.length < 16)
    (hr : s.recipe t.recipe = some r) (hv : translate (dieOfCluster (clusterOf core)) r.ctx a need write s = (v, .ok pa tenant key tier))
    (hopen : v.sealBars (v.readDesc r.ctx).owner tenant write = false) :
    poolAccess core th major t x bad a al need write kind f s = retire core th major t x (fun y => { f y with
      accesses := y.accesses ++ [{ n := x.nextAcc, addr := a, pa := pa, tenant := tenant, keyId := key, tier := tier, major := major, pc := x.pc, kind := kind }]
      nextAcc := y.nextAcc + 1 }) (settled (settleThread core th) r.ctx v) := by
  refine (unpoisoned_false h ..).trans ((if_neg (not_not.2 hal)).trans ((if_neg (Nat.not_le.2 hroom)).trans ?_))
  simp only [hr, xlate_of_ok hv, sealBars_settled, hopen, Bool.false_eq_true, if_false]

/-- A fault of the translation is recorded, and taken with the cause that its status means. -/
theorem poolAccess_faults {core th major : Nat} {t : CoreTile} {x : Thread} {r : Recipe} {bad : Bool} {a al : Nat} {need : List Nat} {write : Bool}
    {kind : AccKind} {f : Thread → Thread} {s v w : State} {e : XFault} {st : Status} {cause : Nat} (h : bad = false) (hal : a % al = 0)
    (hroom : x.accesses.length < 16) (hr : s.recipe t.recipe = some r)
    (hv : translate (dieOfCluster (clusterOf core)) r.ctx a need write s = (v, .fault e))
    (hw : recordFault { slot := r.slot, source := 2, opcode := major, eid := r.src, tag := r.tag } r.ctx a e (settled (settleThread core th) r.ctx v) = (w, st))
    (hcause : (st, cause) ∈ [(Status.xlateFault, 1), (.rightsFault, 2), (.keyMissing, 3)]) :
    poolAccess core th major t x bad a al need write kind f s = takeExc core (excHere x th major cause a) w := by
  refine (unpoisoned_false h ..).trans ((if_neg (not_not.2 hal)).trans ((if_neg (Nat.not_le.2 hroom)).trans ?_))
  simp only [hr, xlate_of_fault hv, hw]
  simp only [List.mem_cons, Prod.mk.injEq, List.not_mem_nil, or_false] at hcause
  rcases hcause with ⟨rfl, rfl⟩ | ⟨rfl, rfl⟩ | ⟨rfl, rfl⟩ <;> rfl

/-! ### The obligation -/

/-- What changes neither cores nor recipes leaves an exception's thread and recipe where they are. -/
theorem trapped_of_frame {P : List Part} {s v w : State} {core : Nat} {t : CoreTile} (hv : Issued core t s v) (hw : Frame P v w)
    (hcore : P.contains .core = false) (hrecp : P.contains .recp = false) (hending : t.ending = .running) (hrecipe : ∃ r, s.recipe t.recipe = some r)
    (e : Exc) : Trapped s (takeExc core e w) core t e :=
  takeExc_trapped e (fun id => by rw [recipe_of_recp_eq (hw.recp_eq hrecp)]; exact hv.recipes id) hrecipe
    ((congrArg Core.run (coreRec_of_core_eq (hw.core_eq hcore) core)).trans hv.run) ⟨rfl, rfl, hending⟩

/-- The parts that recording a fault may change. -/
def faultParts : List Part := [.pkg, .txn, .ledger, .part, .dir, .mem, .dram, .deep, .integ, .mirror, .leaves, .power, .sessions, .obs, .rings, .kodp, .ctrs, .out, .free]

/-- A thread's recipe is found, checked or not, in the state in which its instruction runs. -/
theorem Issued.recipe_some {core : Nat} {t : CoreTile} {s v : State} (h : Issued core t s v) {r : Recipe} (hr : s.recipe t.recipe = some r) :
    ∃ q, v.recipe t.recipe = some q ∧ q.unchecked = r.unchecked := by
  have := h.recipes t.recipe
  rwa [hr, Option.map_some, Option.map_eq_some_iff] at this

/-- A thread retires after work that changed neither cores nor recipes. -/
theorem setThread_goes {s v b : State} {core th : Nat} {t : CoreTile} {x : Thread} (g : Thread → Thread) (hv : Issued core t s v)
    (hb : Frame [.part, .ctrs] v b) (hrun : (s.coreRec core).run = some t) (hx : aget t.threads th = some x) :
    (setThread core th g b).threadOf core th = some (g x) ∧ OnlyThread core th [.part] s (setThread core th g b) := by
  have hsame := coreRec_of_core_eq (hb.core_eq rfl)
  have hbrun : (b.coreRec core).run = some { t with checked := true } := by rw [hsame]; exact hv.run
  have hset := setThread_coreRec (th := th) (f := g) hbrun
  have hsetrun := congrArg Core.run hset
  refine ⟨?_, fun i hi => ?_, fun k hk => ?_, ?_, ?_, ?_, ?_⟩
  · rw [threadOf_of_run hsetrun]
    exact onThread_same (t := { t with checked := true }) g hx
  · rw [threadOf_of_run hsetrun, threadOf_of_run hrun]
    exact onThread_ne { t with checked := true } g hi
  · exact (coreRec_setCore_ne _ _ hk).trans ((hsame k).trans (hv.cores k hk))
  · rw [hset, hsame]
    exact hv.tenant
  · exact (congrArg CoreState.store (hb.core_eq rfl)).trans hv.store
  · have hrecp : (setThread core th g b).recp = v.recp := hb.recp_eq rfl
    rw [hrecp]
    exact hv.queues
  · exact frame_setThread (by decide) ((hv.frame.mono (by decide)).trans (hb.mono (by decide)))

/-- The five outcomes of an instruction that makes a pool access. -/
theorem poolAccess_does {s : State} {core th : Nat} {t : CoreTile} {x : Thread} {r : Recipe} {c : Instr} {uses : List Nat} {major a al : Nat}
    {bad write : Bool} {need : List Nat} {kind : AccKind} {go : CoreTile → Thread → State → State} (hexec : exec c s = .next (issue core th uses false false go s))
    (hgo : ∀ v, go t x v = poolAccess core th major t x bad a al need write kind id v) (hissues : s.issues core th uses t x)
    (hr : s.recipe t.recipe = some r) :
    (∀ v pa tenant key tier, bad = false → a % al = 0 → x.accesses.length < 16 → x.pc + 1 < t.textLen / 4 →
      translate (dieOfCluster (clusterOf core)) r.ctx a need write (issued core th t s) = (v, .ok pa tenant key tier) →
      v.sealBars (v.readDesc r.ctx).owner tenant write = false → Does c s (fun u => u.threadOf core th = some { x with
        accesses := x.accesses ++ [{ n := x.nextAcc, addr := a, pa := pa, tenant := tenant, keyId := key, tier := tier, major := major, pc := x.pc, kind := kind }]
        nextAcc := x.nextAcc + 1, pc := x.pc + 1 } ∧ OnlyThread core th [.part] s u))
    ∧ (bad = true → Traps c s core t (excHere x th major 7 0))
    ∧ (bad = false → a % al ≠ 0 → Traps c s core t (excHere x th major 4 a))
    ∧ (bad = false → a % al = 0 → 16 ≤ x.accesses.length → Does c s (fun u => u.threadOf core th = some x ∧ OnlyThread core th [] s u))
    ∧ (∀ v e w st cause, bad = false → a % al = 0 → x.accesses.length < 16 →
      translate (dieOfCluster (clusterOf core)) r.ctx a need write (issued core th t s) = (v, .fault e) →
      recordFault { slot := r.slot, source := 2, opcode := major, eid := r.src, tag := r.tag } r.ctx a e
        (settled (settleThread core th) r.ctx v) = (w, st) →
      (st, cause) ∈ [(Status.xlateFault, 1), (.rightsFault, 2), (.keyMissing, 3)] → Does c s (fun u => Trapped s u core t (excHere x th major cause a))) := by
  obtain ⟨_, hrun, ⟨_, hending, _⟩, hx, _⟩ := live_iff.1 hissues.1
  have hi := issued_issued (th := th) hrun
  obtain ⟨q, hq, hqr⟩ := hi.recipe_some hr
  have hctx : q.ctx = r.ctx := (congrArg Recipe.ctx hqr :)
  have hby : ({ slot := q.slot, source := 2, opcode := major, eid := q.src, tag := q.tag } : FaultBy)
      = { slot := r.slot, source := 2, opcode := major, eid := r.src, tag := r.tag } := by
    rw [show q.slot = r.slot from (congrArg Recipe.slot hqr :), show q.src = r.src from (congrArg Recipe.src hqr :),
      show q.tag = r.tag from (congrArg Recipe.tag hqr :)]
  have htranslate {v : State} {y : XRes} (hv : translate (dieOfCluster (clusterOf core)) r.ctx a need write (issued core th t s) = (v, y)) :
      Frame [.part, .ctrs] (issued core th t s) v := by
    have : FrameP [.part, .ctrs] (issued core th t s) (translate (dieOfCluster (clusterOf core)) r.ctx a need write (issued core th t s)) :=
      frame_translate (by decide) (Frame.refl _ _)
    rw [hv] at this
    exact this
  refine ⟨fun v pa tenant key tier hbad hal hroom hnext hv hopen => ?_, fun hbad => traps_of_takeExc hissues hexec ((hgo _).trans (poolAccess_poisoned hbad)),
    fun hbad hal => traps_of_takeExc hissues hexec ((hgo _).trans (poolAccess_misaligned hbad hal)), fun hbad hal hfull => ?_,
    fun v e w st cause hbad hal hroom hv hw hcause => ?_⟩
  · rw [← hctx] at hv hopen
    have hsettled : Frame [.part, .ctrs] (issued core th t s) (settled (settleThread core th) q.ctx v) :=
      frame_settled (by decide) (htranslate (by rw [← hctx]; exact hv))
    refine ⟨_, hexec, ?_⟩
    rw [issue_of_issues hissues, hgo, poolAccess_issues hbad hal hroom hq hv hopen, retire,
      show (x.pc : Int) + 1 = ((x.pc + 1 : Nat) : Int) by norm_cast, retireTo_inside hnext]
    exact setThread_goes _ hi (frame_bump (by decide) hsettled) hrun hx
  · refine ⟨_, hexec, ?_⟩
    rw [issue_of_issues hissues, hgo, poolAccess_full hbad hal hfull]
    refine ⟨by rw [threadOf_of_run hi.run]; exact hx, fun i hi' => ?_, hi.cores, hi.tenant, hi.store, hi.queues, hi.frame⟩
    rw [threadOf_of_run hi.run, threadOf_of_run hrun]
  · refine ⟨_, hexec, ?_⟩
    rw [← hctx] at hv hw
    rw [← hby] at hw
    rw [issue_of_issues hissues, hgo, poolAccess_faults hbad hal hroom hq hv hw hcause]
    have hframe : Frame faultParts (issued core th t s) w := by
      have hrec : FrameP faultParts (issued core th t s) (recordFault { slot := q.slot, source := 2, opcode := major, eid := q.src, tag := q.tag } q.ctx a e
          (settled (settleThread core th) q.ctx v)) :=
        frame_recordFault (by decide) (frame_settled (by decide) ((htranslate (by rw [← hctx]; exact hv)).mono (by decide)))
      rw [hw] at hrec
      exact hrec
    exact trapped_of_frame hi hframe rfl rfl hending ⟨r, hr⟩ _

/-- Settles O33: each of the ten instructions makes one pool access, which has the outcomes of R449. -/
theorem poolAccessIssue : Obligations.PoolAccessIssue := by
  unfold Obligations.PoolAccessIssue
  intro s core th t x r rt rb r2 size subop pred pd imm c uses major a al bad write need kind hmem hissues hr
  have hgoes : ∃ go : CoreTile → Thread → State → State, exec c s = .next (issue core th uses false false go s)
      ∧ ∀ v, go t x v = poolAccess core th major t x bad a al need write kind id v := by
    simp only [List.mem_cons, Prod.mk.injEq, List.not_mem_nil, or_false] at hmem
    rcases hmem with ⟨rfl, rfl, rfl, rfl, rfl, rfl, rfl, rfl, rfl⟩ | ⟨rfl, rfl, rfl, rfl, rfl, rfl, rfl, rfl, rfl⟩
      | ⟨rfl, rfl, rfl, rfl, rfl, rfl, rfl, rfl, rfl⟩ | ⟨rfl, rfl, rfl, rfl, rfl, rfl, rfl, rfl, rfl⟩
      | ⟨rfl, rfl, rfl, rfl, rfl, rfl, rfl, rfl, rfl⟩ | ⟨rfl, rfl, rfl, rfl, rfl, rfl, rfl, rfl, rfl⟩
      | ⟨rfl, rfl, rfl, rfl, rfl, rfl, rfl, rfl, rfl⟩ | ⟨rfl, rfl, rfl, rfl, rfl, rfl, rfl, rfl, rfl⟩
      | ⟨rfl, rfl, rfl, rfl, rfl, rfl, rfl, rfl, rfl⟩ | ⟨rfl, rfl, rfl, rfl, rfl, rfl, rfl, rfl, rfl⟩
    all_goals exact ⟨_, rfl, fun _ => rfl⟩
  obtain ⟨go, hexec, hgo⟩ := hgoes
  exact poolAccess_does hexec hgo hissues hr

end Sys2Proof.Machine
end

section
/-!
PROOF. The return of a load from a line whose TENANT has been lost (R325, R371, R449).
-/
namespace Sys2Proof.Machine

/-- A load of a scalar from line 2, outstanding. -/
def lostTenantLoad : Access :=
  { n := 0, addr := 256, pa := 256, tenant := 0, keyId := 0, tier := 0, major := 0x1A, pc := 0, kind := .load 1 8 false }

/-- The thread that has issued the load and no other. -/
def lostTenantThread : Thread :=
  { x := [], v := [], acc := [], p := [], pc := 1, exited := false, atBar := false, accesses := [lostTenantLoad], nextAcc := 1, late := [] }

/-- The kernel tile of that thread. -/
def lostTenantTile : CoreTile :=
  { recipe := 1, tile := 0, stolen := false, checked := true, kernel := true, handle := 0, textLen := 400, tray := 0,
    threads := [(0, lostTenantThread)], ending := .running, pages := [], visited := [] }

/-- Core 3 runs the tile; the pantry holds line 2, which is still to be given a TENANT by the next request. -/
def lostTenant : State :=
  { State.reset with
    core := { State.reset.core with cores := [(3, { Core.reset with run := some lostTenantTile })] }
    mem := { State.reset.mem with lines := [(2, { LineMeta.reset with inPantry := true, untagged := true })] } }

/-- The line as the load finds it, ready. -/
def lostTenantReady : State := (readyLine (.kernel 3 0 0 8192) 2 0 false true lostTenant).1

/-- The state that the load's data are read from. -/
def lostTenantSeen : State :=
  allocate 1 lostTenantLoad (useReturned (AccBy.kernel 3 0 0 8192).src (AccBy.kernel 3 0 0 8192).tag lostTenantReady)

/-- The load that returns gives the line its TENANT (R325), and so changes the line's metadata. -/
theorem poolAccessReturn_lostTenant : ∀ t, exec (.poolAccessReturn 3 0 0 false) lostTenant = .next t → t.mem.lines ≠ lostTenantSeen.mem.lines := by
  intro t h
  cases h
  decide +kernel

/-- Refutes O34: its first clause says that a load leaves memory as it is, but a load from a line whose TENANT has been lost gives the line the
TENANT of its segment (`lostTenant`). -/
theorem not_poolAccessReturns : ¬ Obligations.PoolAccessReturns := by
  unfold Obligations.PoolAccessReturns
  intro h
  obtain ⟨hload, -⟩ := h lostTenant 3 0 0 lostTenantTile lostTenantThread lostTenantLoad (.kernel 3 0 0 8192) rfl rfl rfl rfl rfl rfl
  obtain ⟨t, ht, hmem, -⟩ := hload lostTenantReady lostTenantSeen 1 8 false (lostTenantSeen.view 2 0 0).1 (lostTenantSeen.view 2 0 0).2
    (by decide +kernel) (Prod.ext rfl (by decide +kernel)) rfl rfl rfl
  exact poolAccessReturn_lostTenant t ht (congrArg MemState.lines hmem)

end Sys2Proof.Machine
end

section
/-!
PROOF. The watchdog of a kernel thread (R454, R455): the exception shows the instruction the thread is at.
-/
namespace Sys2Proof.Machine

/-- A KERNEL recipe whose tile 0 has been lost before. -/
def lostBefore : Recipe :=
  { id := 1, src := 10, tag := 7, slot := 3, ctx := 5, port := 0
    pkt := { vc := 5, op := 0x50, dest := 1, src := 10, tag := 7, poison := false, resend := false, enc := false, rsv := 0, status := 0, harg := 5, crc := 0, body := [] }
    die := 0
    d := { code := 13, flags := 0, op := 0, fmtIn := 0, fmtOut := 0, startTile := 0, doneAddr := 1024, w2 := 65536, w3 := 0, w4 := 0, w5 := 1, w6 := 1, w7 := 0 }
    phase := .running, acceptedAt := 0, askedAt := 0, total := 1, phaseOne := 0, next := 1, done := [], skip := [], checked := [0], failed := []
    lost := [(0, 288)], withLoss := false, cancelled := false, poison := false, poisoned := 0, result := 0, result2 := 0, marks := 0, exc := none
    leader := false, params := [], parts := [], scanBad := 0, streamSeq := 0, e4m3Nan := false, fast := false }

/-- A thread at the first instruction of its text. -/
def hungThread : Thread :=
  { x := [], v := [], acc := [], p := [], pc := 0, exited := false, atBar := false, accesses := [], nextAcc := 0, late := [] }

/-- The tile of the thread. -/
def hungTile : CoreTile :=
  { recipe := 1, tile := 0, stolen := false, checked := true, kernel := true, handle := 0, textLen := 4, tray := 0, threads := [(0, hungThread)]
    ending := .running, pages := [], visited := [] }

/-- Core 3 runs the tile, of a text whose only instruction has MAJOR 2. -/
def hung : State :=
  { State.reset with
    recp := { State.reset.recp with recipes := [lostBefore] }
    core :=
      { cores := [(3, { Core.reset with run := some hungTile })]
        store := [(0, { ctx := 5, addr := 65280, textLen := 4, tray := 0, signer := 0, tenant := 0, keyId := 0, imageId := 1, entries := [0]
                        text := [2 * 2 ^ 26], sha := 0, loadedAt := 0 })] } }

/-- The exception that the watchdog leaves has the MAJOR of the thread's instruction in RESULT[61:56] (R454). -/
theorem instructionWatchdog_hung : ∀ t, exec (.instructionWatchdog 3 0) hung = .next t →
    (t.recipe 1).map Recipe.exc = some (some (12 + 2 * 2 ^ 56, 0)) := by
  intro t h
  cases h
  decide +kernel

/-- Refutes O35: its clause of a tile lost twice names the exception with MAJOR 0, but the thread is at an instruction, here one with MAJOR 2
(`hung`), and the exception shows it. -/
theorem not_kernelTiles : ¬ Obligations.KernelTiles := by
  unfold Obligations.KernelTiles
  intro h
  obtain ⟨-, -, -, -, hwatchdog, -⟩ := h hung 3 hungTile lostBefore rfl rfl rfl
  obtain ⟨t, ht, ⟨r, q, hr, hq, hexc, -⟩, -⟩ := hwatchdog 0 hungThread (by decide +kernel) rfl
  have hshown := instructionWatchdog_hung t ht
  have hbefore : hung.recipe hungTile.recipe = some lostBefore := rfl
  obtain rfl : lostBefore = r := Option.some.inj (hbefore.symm.trans hr)
  have hzero : keepLowest lostBefore.exc (excResult hungTile.tile (excHere hungThread 0 0 12 0)) = some (12, 0) := by decide
  rw [show hungTile.recipe = 1 from rfl] at hq
  rw [hq, Option.map_some, hexc, hzero] at hshown
  exact absurd hshown (by decide)

end Sys2Proof.Machine
end

section
/-!
PROOF. The kernel store: an image that is loaded, and a handle that is removed (R457 to R461).
-/
namespace Sys2Proof.Machine

/-! ### Reading an image of one page -/

/-- A span within one page begins at its own address and has no other. -/
theorem pages_of_one_page {addr len : Nat} (hlen : 0 < len) (hpage : addr % 65536 + len ≤ 65536) : (rdSpan addr len).pages = [addr] := by
  have hcount : (addr + len - 1) / 65536 + 1 - addr / 65536 = 1 := by omega
  have hfirst : max addr (addr / 65536 * 65536) = addr := by omega
  unfold Span.pages rdSpan
  dsimp only
  rw [if_neg (by omega), hcount]
  simp [hfirst]

/-- KERNEL_LOAD once the page translates and the lines are ready: the image is judged, and its verdict is the reply (R458). -/
theorem kernelLoad_replies {s : State} {r : Req} {ctx addr len : Nat} {arg : List Byte} {v w z : State} {pa tenant key tier : Nat} {pages : Assoc Nat Page}
    {st : Status} {body : List Byte} (harg : arg = leBytes 2 ctx ++ leBytes 8 addr ++ leBytes 4 len) (hctx : 0 < ctx) (hctx' : ctx < 65536)
    (hdesc : (s.readDesc ctx).bad ctx = false) (haddr : addr % 128 = 0) (hlen : 0 < len) (hmax : len ≤ 16736) (hpage : addr % 65536 + len ≤ 65536)
    (hv : translate 0 ctx addr [4] false (begun (cmdObj 0x1A20 1 rolePm) r arg 2 s) = (v, .ok pa tenant key tier))
    (hpages : pages = [(addr / 65536, { pa := pa / 65536 * 65536, tenant := tenant, keyId := key, tier := tier : Page })])
    (hready : readySpans AccBy.load pages false (spanLines [rdSpan addr len]) (settled settleLoad ctx v) = (w, .ready))
    (hclean : poisonAt (w.reader pages) addr len = false) (hload : loadImage ctx addr len (bytesAt (w.reader pages) addr len) w = (z, st, body)) :
    Replies (.kernelLoad r ctx addr len) s (cmdObj 0x1A20 1 rolePm) r 2 arg st body (fun t => t.core = z.core) := by
  have hbad : (ctx == 0 || decide (ctx ≥ 65536) || (s.readDesc ctx).bad ctx || addr % 128 != 0 || decide (len ≥ 2 ^ 32)) = false := by
    simp only [hdesc, haddr, Bool.or_false, bne_self_eq_false, Bool.or_eq_false_iff, beq_eq_false_iff_ne, decide_eq_false_iff_not]
    omega
  have hlines : ¬ (len > 352 + 16384) := by omega
  have hn : min len (352 + 16384) = len := by omega
  have hframe : Frame [.pkg, .txn, .ledger, .part, .dir, .mem, .dram, .deep, .integ, .core, .mirror, .leaves, .power, .sessions, .obs, .rings, .kodp,
      .ctrs, .out, .free] (begun (cmdObj 0x1A20 1 rolePm) r arg 2 s) z := by
    have hvf : FrameP [.part, .ctrs] (begun (cmdObj 0x1A20 1 rolePm) r arg 2 s) (translate 0 ctx addr [4] false (begun (cmdObj 0x1A20 1 rolePm) r arg 2 s)) :=
      frame_translate (by decide) (Frame.refl _ _)
    have hwf : FrameP [.pkg, .txn, .ledger, .part, .dir, .mem, .dram, .deep, .integ, .mirror, .leaves, .power, .sessions, .obs, .rings, .kodp, .ctrs,
        .out, .free] (settled settleLoad ctx v) (readySpans AccBy.load pages false (spanLines [rdSpan addr len]) (settled settleLoad ctx v)) :=
      frame_readySpans (by decide) (Frame.refl _ _)
    have hzf : FrameP [.core] w (loadImage ctx addr len (bytesAt (w.reader pages) addr len) w) := frame_loadImage (by decide) (Frame.refl _ w)
    rw [hv] at hvf
    rw [hready] at hwf
    rw [hload] at hzf
    exact ((hvf.mono (by decide)).trans (frame_settled (by decide) (Frame.refl _ v))).trans ((hwf.mono (by decide)).trans (hzf.mono (by decide)))
  subst harg
  refine replies_of_operate (u := z) rfl hbad rfl rfl rfl ?_ (hframe.running_eq rfl) ((reply_frame ..).core_eq rfl)
  simp only [pages_of_one_page hlen hpage, List.foldl_cons, List.foldl_nil, xlate_of_ok hv]
  rw [if_neg hlines, show aset ([] : Assoc Nat Page) (addr / 65536) { pa := pa / 65536 * 65536, tenant := tenant, keyId := key, tier := tier } = pages
    from hpages.symm, hready]
  dsimp only
  rw [hn, hclean, if_neg Bool.false_ne_true, hload]
  rfl

/-! ### The judgement of an image (R458, R459) -/

/-- The text that an image gives has its words legal: nothing is found amiss. -/
theorem findIdx_none_of_legal {text : List Nat} (h : text.all legalWord = true) : text.findIdx? (fun w => !legalWord w) = none := by
  rw [List.findIdx?_eq_none_iff]
  intro w hw
  rw [List.all_eq_true.1 h w hw]
  rfl

/-- The entry an image gets in the store. -/
def imageKernel (ctx addr : Nat) (b : List Byte) (now : Nat) : Kernel :=
  let n := leNat (b.take 256)
  { ctx := ctx, addr := addr, textLen := bits n 96 32, tray := bits n 128 32, signer := bits n 48 8, tenant := bits n 64 10, keyId := bits n 56 8
    imageId := bits n 192 64, entries := imageEntries (b.take 256), text := textWords ((b.drop 256).take (bits n 96 32))
    sha := Config.sha384 (b.take (256 + bits n 96 32)), loadedAt := now }

/-- The length of an image's text. -/
def imageText (b : List Byte) : Nat := bits (leNat (b.take 256)) 96 32

/-- An image signed by the device's key for kernels, under a policy that takes it: the store holds it if its signature is good, and else
nothing has changed. -/
theorem loadImage_signed {s : State} {ctx addr len hd : Nat} {b : List Byte} (himage : imageOk b len = true) (hpolicy : s.obj .signerPolicy = 0)
    (hsigner : bits (leNat (b.take 256)) 48 8 = 0) (hlegal : (textWords ((b.drop 256).take (imageText b))).all legalWord = true)
    (hhandle : s.loadHandle ctx addr = some hd) (hidle : s.kernelBusy hd = false) :
    loadImage ctx addr len b s = if Config.ecdsaVerifies (Config.deviceKey 6) (Config.sha384 (b.take (256 + imageText b)))
        (leNat ((b.drop (256 + imageText b)).take 96)) = true
      then (dropResident hd (s.onCore (fun c => { c with store := aset c.store hd (imageKernel ctx addr b s.now) })), .ok, leBytes 2 hd)
      else (s, .integrity, []) := by
  have htaken : ¬ ((bits (leNat (b.take 256)) 48 8 = 0 ∧ s.obj .signerPolicy = 1)
      ∨ (bits (leNat (b.take 256)) 48 8 = 1 ∧ (s.obj .signerPolicy = 2 ∨ bits (leNat (b.take 256)) 64 10 ≠ (s.readDesc ctx).owner))) := by
    rw [hsigner, hpolicy]
    omega
  unfold loadImage
  dsimp only
  rw [himage, Bool.not_true, if_neg Bool.false_ne_true, if_neg htaken, if_pos hsigner]
  dsimp only
  rw [show bits (leNat (b.take 256)) 96 32 = imageText b from rfl]
  cases hgood : Config.ecdsaVerifies (Config.deviceKey 6) (Config.sha384 (b.take (256 + imageText b))) (leNat ((b.drop (256 + imageText b)).take 96)) with
  | false => rfl
  | true =>
    rw [Bool.not_true, if_neg Bool.false_ne_true, if_pos rfl, findIdx_none_of_legal hlegal, hhandle]
    dsimp only
    rw [hidle, if_neg Bool.false_ne_true]
    rfl

/-! ### Handles -/

theorem dropResident_store (h : Nat) (s : State) : (dropResident h s).core.store = s.core.store := rfl

/-- No core holds the text of a handle that has been dropped. -/
theorem resident_dropResident (h : Nat) (s : State) (k : Nat) : ((dropResident h s).coreRec k).resident ≠ some h := by
  have hcores : (dropResident h s).coreRec k
      = agetD (s.core.cores.map (fun e => (e.1, if e.2.resident = some h then { e.2 with resident := none } else e.2))) k Core.reset := rfl
  rw [hcores, agetD,
    aget_map_of_fst s.core.cores k (fun e => (e.1, if e.2.resident = some h then { e.2 with resident := none } else e.2)) (fun _ => rfl)]
  cases aget s.core.cores k with
  | none => exact nofun
  | some c =>
    rw [Option.map_some, Option.getD_some]
    split
    · exact nofun
    next hne => exact hne

/-- Settles O36: a load replies what the judgement of its image says, a good image is entered, and an unload removes its handle. -/
theorem kernelStore : Obligations.KernelStore := by
  unfold Obligations.KernelStore
  intro s r
  refine ⟨?_, ?_, ?_⟩
  · intro ctx addr len arg v pa tenant key tier pages w z st body harg hctx hctx' hdesc haddr _ hlen hmax hpage _ hv hpages hready hclean hload
    exact kernelLoad_replies harg hctx hctx' hdesc haddr hlen hmax hpage hv hpages hready hclean hload
  · rintro ctx addr len b key hd himage hpolicy hsigner rfl hlegal hhandle hidle
    have hsigned := loadImage_signed himage hpolicy hsigner hlegal hhandle hidle
    refine ⟨fun hgood => ⟨_, imageKernel ctx addr b s.now, hsigned.trans (if_pos hgood), ?_, rfl, rfl, rfl, rfl, ?_⟩, fun hfails =>
      hsigned.trans (if_neg (by rw [imageText, hfails]; exact Bool.false_ne_true))⟩
    · rw [dropResident_store]
      exact aget_aset_same ..
    · exact frame_dropResident (by decide) (frame_onCore (by decide) (Frame.refl _ s))
  · intro h hh _ hheld hidle
    have hcore : (begun (cmdObj 0x1A20 2 rolePm) r (leBytes 2 h) 2 s).core = s.core := (begun_frame ..).core_eq rfl
    obtain ⟨u, hu⟩ : ∃ u, u = dropResident h ((begun (cmdObj 0x1A20 2 rolePm) r (leBytes 2 h) 2 s).onCore (fun c => { c with store := adel c.store h })) :=
      ⟨_, rfl⟩
    have hstore : u.core.store = adel s.core.store h := by rw [hu, dropResident_store, ← hcore]; rfl
    have hafter : (reply (cmdObj 0x1A20 2 rolePm) r .ok [] u).core = u.core := (reply_frame ..).core_eq rfl
    refine replies_of_operate (u := u) rfl (decide_eq_false (by omega)) rfl (by simp [hheld, hidle]) rfl (by rw [hu]) (by rw [hu]; rfl) ⟨?_, ?_, ?_⟩
    · rw [hafter, hstore, ahas, aget_adel_same, Option.isSome_none]
    · intro k hk
      rw [hafter, hstore, aget_adel_ne _ hk]
    · intro k
      rw [coreRec_of_core_eq hafter, hu]
      exact resident_dropResident h _ k

end Sys2Proof.Machine
end

section
/-!
PROOF. What a KODP operation leaves that its verdict refuses (R664, R665), and which counters an answer changes (R625).
-/
namespace Sys2Proof.Machine

/-! ### Refusals -/

/-- A refusal answers the request with its status. -/
theorem answered_refuse {o : OpObj} {r : Req} {n : Nat} {arg : List Byte} {s : State} (h : s.accepts o r n arg = true) (crc : Nat) (st : Status)
    (body : List Byte) {t : State} (ht : t.kodp.running = s.kodp.running) : Answered o r st body (refuse o r crc st body t) := by
  obtain ⟨hcache, hrunning⟩ := sendReply_cache r crc (replyOf o r st body) t
  refine ⟨.inl ⟨_, hcache, rfl, rfl⟩, ?_⟩
  rw [show (refuse o r crc st body t).kodp.running = s.kodp.running from hrunning.trans ht, List.all_eq_true]
  intro x hx
  have hother := accepts_no_running h x hx
  simp only [Bool.not_eq_true', Bool.and_eq_false_iff, beq_eq_false_iff_ne]
  exact .inl (.inl fun heq => hother ⟨by rw [heq], by rw [heq]⟩)

/-- An operation that is accepted but whose operands are bad. -/
theorem operate_bad {o : OpObj} {r : Req} {arg : List Byte} {n : Nat} {v : Verdict} {run : State → State} {s : State} (h : s.accepts o r n arg = true)
    (hbad : v.bad = true) : operate o r arg n v run s = refuse o r (kmsgCrc (mkMsg o.type r.id o.index o.sub .ok arg)) .unsupported v.body (heard r s) := by
  simp only [State.accepts, Bool.and_eq_true, Bool.not_eq_true', Option.isNone_iff_eq_none] at h
  obtain ⟨⟨⟨⟨⟨⟨⟨⟨hup, hreheat⟩, hfresh⟩, halone⟩, hready⟩, -⟩, -⟩, -⟩, -⟩ := h
  have hstarts : (!s.ready && !o.recovery) = false := by rw [← Bool.not_or, hready]; rfl
  unfold operate
  simp only [hup, heard_obs, hreheat, heard_cache, hfresh, heard_running, halone, heard_ready, hstarts, hbad, Bool.not_true, Bool.false_eq_true, if_false,
    if_true]

/-- An operation that is accepted but refused for the state or the fencing of the object. -/
theorem operate_refused {o : OpObj} {r : Req} {arg : List Byte} {n : Nat} {v : Verdict} {run : State → State} {s : State} (h : s.accepts o r n arg = true)
    (hbad : v.bad = false) : (v.fenced = true → operate o r arg n v run s = refuse o r (kmsgCrc (mkMsg o.type r.id o.index o.sub .ok arg)) .fenced [] (heard r s))
      ∧ (v.fenced = false → v.state = true →
        operate o r arg n v run s = refuse o r (kmsgCrc (mkMsg o.type r.id o.index o.sub .ok arg)) .refusedState [] (heard r s)) := by
  simp only [State.accepts, Bool.and_eq_true, Bool.not_eq_true', Option.isNone_iff_eq_none] at h
  obtain ⟨⟨⟨⟨⟨⟨⟨⟨hup, hreheat⟩, hfresh⟩, halone⟩, hready⟩, hroles⟩, hstandby⟩, -⟩, -⟩ := h
  have hstarts : (!s.ready && !o.recovery) = false := by rw [← Bool.not_or, hready]; rfl
  have hmay : (!(o.any || (o.roles &&& s.rolesOf r.client) != 0 || s.isPeer r.client && (o.mirrored || o.index == 0x1E30))) = false := by
    rw [Bool.not_eq_false']; exact hroles
  refine ⟨fun hfenced => ?_, fun hfenced hstate => ?_⟩
  · unfold operate
    simp only [hup, heard_obs, hreheat, heard_cache, hfresh, heard_running, halone, heard_ready, hstarts, hbad, hmay, hfenced, Bool.not_true,
      Bool.true_or, Bool.false_eq_true, if_false, if_true]
  · unfold operate
    simp only [hup, heard_obs, hreheat, heard_cache, hfresh, heard_running, halone, heard_ready, hstarts, hbad, hmay, hfenced, heard_standby,
      heard_isPeer, hstandby, hstate, Bool.not_true, Bool.or_false, Bool.true_or, Bool.false_eq_true, if_false, if_true]

/-- An operation that is accepted but that something else stands against, other than RETRY. -/
theorem operate_other {o : OpObj} {r : Req} {arg : List Byte} {n : Nat} {v : Verdict} {run : State → State} {s : State} {st : Status}
    (h : s.accepts o r n arg = true) (hbad : v.bad = false) (hfenced : v.fenced = false) (hstate : v.state = false) (hother : v.other = some st)
    (hst : (st == .retry) = false) :
    operate o r arg n v run s = refuse o r (kmsgCrc (mkMsg o.type r.id o.index o.sub .ok arg)) st v.body (heard r s) := by
  simp only [State.accepts, Bool.and_eq_true, Bool.not_eq_true', Option.isNone_iff_eq_none] at h
  obtain ⟨⟨⟨⟨⟨⟨⟨⟨hup, hreheat⟩, hfresh⟩, halone⟩, hready⟩, hroles⟩, hstandby⟩, hsame⟩, -⟩ := h
  have hstarts : (!s.ready && !o.recovery) = false := by rw [← Bool.not_or, hready]; rfl
  have hmay : (!(o.any || (o.roles &&& s.rolesOf r.client) != 0 || s.isPeer r.client && (o.mirrored || o.index == 0x1E30))) = false := by
    rw [Bool.not_eq_false']; exact hroles
  have hsame' : (o.type == 3 && (if n = 0 then none else some (leNat (arg.take n))).isSome
      && s.kodp.running.any (fun x => x.index == o.index && x.sub == o.sub && x.firstArg == (if n = 0 then none else some (leNat (arg.take n))))) = false := hsame
  unfold operate onlyIf
  simp only [hup, heard_obs, hreheat, heard_cache, hfresh, heard_running, halone, heard_ready, hstarts, hbad, hmay, hfenced, heard_standby,
    heard_isPeer, hstandby, hstate, hother, hsame', hst, Bool.not_true, Bool.or_self, Bool.false_eq_true, if_false]

section
variable {c : Instr} {s : State} {o : OpObj} {r : Req} {n : Nat} {arg : List Byte} {v : Verdict} {run : State → State} {q : State → Prop}

/-- The state a refusal is sent from. -/
theorem heard_frame (r : Req) (s : State) : Frame [.kodp, .ctrs] s (heard r s) := frame_heard (by decide) (Frame.refl _ s)

/-- The parts that a refusal may change. -/
def refusalParts : List Part := [.ledger, .mirror, .leaves, .sessions, .kodp, .ctrs, .out]

theorem refuse_frame (o : OpObj) (r : Req) (crc : Nat) (st : Status) (body : List Byte) (s : State) : Frame refusalParts s (refuse o r crc st body (heard r s)) :=
  frame_refuse (by decide) (frame_heard (by decide) (Frame.refl _ s))

/-- A command that is an operation, accepted and then refused for its state. -/
theorem replies_refusedState (hexec : exec c s = .next (operate o r arg n v run s)) (hbad : v.bad = false) (hfenced : v.fenced = false)
    (hstate : v.state = true) (hq : ∀ t crc, t = refuse o r crc .refusedState [] (heard r s) → q t) : Replies c s o r n arg .refusedState [] q := by
  intro hacc
  refine ⟨_, hexec, ?_⟩
  rw [(operate_refused hacc hbad).2 hfenced hstate]
  exact ⟨answered_refuse hacc _ _ _ (heard_running r s), hq _ _ rfl⟩

/-- A command that is an operation, accepted and then refused for its operands. -/
theorem replies_unsupported (hexec : exec c s = .next (operate o r arg n v run s)) (hbad : v.bad = true)
    (hq : ∀ t crc, t = refuse o r crc .unsupported v.body (heard r s) → q t) : Replies c s o r n arg .unsupported v.body q := by
  intro hacc
  refine ⟨_, hexec, ?_⟩
  rw [operate_bad hacc hbad]
  exact ⟨answered_refuse hacc _ _ _ (heard_running r s), hq _ _ rfl⟩

/-- A command that is an operation, accepted and then fenced. -/
theorem replies_fenced (hexec : exec c s = .next (operate o r arg n v run s)) (hbad : v.bad = false) (hfenced : v.fenced = true)
    (hq : ∀ t crc, t = refuse o r crc .fenced [] (heard r s) → q t) : Replies c s o r n arg .fenced [] q := by
  intro hacc
  refine ⟨_, hexec, ?_⟩
  rw [(operate_refused hacc hbad).1 hfenced]
  exact ⟨answered_refuse hacc _ _ _ (heard_running r s), hq _ _ rfl⟩

/-- A command that is an operation, accepted, that something else stands against. -/
theorem replies_other {st : Status} (hexec : exec c s = .next (operate o r arg n v run s)) (hbad : v.bad = false) (hfenced : v.fenced = false)
    (hstate : v.state = false) (hother : v.other = some st) (hst : (st == .retry) = false)
    (hq : ∀ t crc, t = refuse o r crc st v.body (heard r s) → q t) : Replies c s o r n arg st v.body q := by
  intro hacc
  refine ⟨_, hexec, ?_⟩
  rw [operate_other hacc hbad hfenced hstate hother hst]
  exact ⟨answered_refuse hacc _ _ _ (heard_running r s), hq _ _ rfl⟩

end

/-! ### The counters of an answer (R625) -/

/-- The counters that a message or an answer may change. -/
def messageCtrs : List Ctr := [.kReceived, .kReplies, .kslNotifyDrops, .kNotifyDropped, .twStates]

theorem ctr_bump_ne {c d : Ctr} (h : c ≠ d) (u v : Nat) (s : State) : (bump d v s).ctr c u = s.ctr c u := by
  rw [bump, ctr_bumpBy, if_neg fun heq => h (congrArg Prod.fst heq)]

theorem ne_of_not_mem {c d : Ctr} {l : List Ctr} (h : c ∉ l) (hd : d ∈ l) : c ≠ d := fun heq => h (heq ▸ hd)

theorem heard_ctr {c : Ctr} (hc : c ∉ messageCtrs) (u : Nat) (r : Req) (s : State) : (heard r s).ctr c u = s.ctr c u := by
  unfold heard
  split
  · rfl
  · exact ctr_bump_ne (ne_of_not_mem hc (by decide)) u _ _

theorem kslPush_ctr {c : Ctr} (hc : c ∉ messageCtrs) (u : Nat) (b : Bool) (m : KMsg) (s : State) : (kslPush b m s).ctr c u = s.ctr c u := by
  unfold kslPush
  dsimp only
  split
  · rfl
  · split
    · rw [ctr_bump_ne (ne_of_not_mem hc (by decide)), ctr_bump_ne (ne_of_not_mem hc (by decide))]
      rfl
    · rfl

theorem secureMsg_ctr (c : Ctr) (u : Nat) (k : Client) (m : KMsg) (s : State) : (secureMsg k m s).1.ctr c u = s.ctr c u := by
  unfold secureMsg
  split <;> rfl

theorem sendMsg_ctr {c : Ctr} (hc : c ∉ messageCtrs) (u : Nat) (k : Client) (tag : Nat) (b : Bool) (m : KMsg) (s : State) :
    (sendMsg k tag b m s).ctr c u = s.ctr c u := by
  unfold sendMsg
  split
  next t w hsecure =>
  have ht : t.ctr c u = s.ctr c u := by
    have := secureMsg_ctr c u k m s
    rwa [hsecure] at this
  extract_lets own tag1 v
  have hv : v.ctr c u = t.ctr c u :=
    Frame.ctr_eq (P := [.ledger]) (frame_onlyIf (fun w hw => frame_tookTag (by decide) hw) (Frame.refl _ t)) rfl c u
  clear_value own tag1 v
  split
  · exact hv.trans ht
  · exact (kslPush_ctr hc u b w v).trans (hv.trans ht)
  · refine Eq.trans (Frame.ctr_eq (P := [.leaves, .ledger, .out]) (frame_emit (by decide) (frame_forAll (fun p w hw => ?_) (Frame.refl _ v))) rfl c u)
      (hv.trans ht)
    split
    · exact frame_sendTw (by decide) hw
    · exact frame_sendPacket (by decide) hw

theorem mirrorState_ctr {c : Ctr} (hc : c ∉ messageCtrs) (u stream type slots : Nat) (body : List Byte) (s : State) :
    (mirrorState stream type slots body s).ctr c u = s.ctr c u := by
  unfold mirrorState
  split
  · rw [ctr_bump_ne (ne_of_not_mem hc (by decide))]
    exact Frame.ctr_eq (P := [.mirror, .leaves]) (frame_mirrorSend (by decide) (Frame.refl _ s)) rfl c u
  · rfl

theorem ledgerWrite_ctr {c : Ctr} (hc : c ∉ messageCtrs) (u slot tag stream : Nat) (e : LedgerEntry) (s : State) :
    (ledgerWrite slot tag stream e s).ctr c u = s.ctr c u := by
  unfold ledgerWrite
  rw [mirrorState_ctr hc]
  refine Frame.ctr_eq (P := [.ledger, .twin, .mirror]) ?_ rfl c u
  exact frame_mapGranule (by decide) (frame_onTxn [.ledger] (by decide) (.inl rfl) (.inr fun _ => rfl) (Frame.refl _ s))

theorem sendReply_ctr {c : Ctr} (hc : c ∉ messageCtrs) (u : Nat) (r : Req) (crc : Nat) (m : KMsg) (s : State) : (sendReply r crc m s).ctr c u = s.ctr c u := by
  unfold sendReply
  extract_lets v w
  have hv : v.ctr c u = s.ctr c u := by
    unfold v onlyIf
    split
    · split
      · exact ledgerWrite_ctr hc ..
      · rfl
    · rfl
  rw [sendMsg_ctr hc, ctr_bump_ne (ne_of_not_mem hc (by decide))]
  exact hv

/-- A refusal changes no counter but those of messages. -/
theorem refuse_ctr {c : Ctr} (hc : c ∉ messageCtrs) (u : Nat) (o : OpObj) (r : Req) (crc : Nat) (st : Status) (body : List Byte) (s : State) :
    (refuse o r crc st body (heard r s)).ctr c u = s.ctr c u := (sendReply_ctr hc u r crc _ _).trans (heard_ctr hc u r s)

end Sys2Proof.Machine
end

section
/-!
PROOF. The commands of the twin (R464, R484, R495, R499, R500).
-/
namespace Sys2Proof.Machine

section
variable {c : Instr} {s : State} {o : OpObj} {r : Req} {n : Nat} {arg : List Byte} {v : Verdict} {eff : State → State} {q : State → Prop}

/-- A command that answers OK with no body, for an effect that leaves the operations that run as they are. -/
theorem replies_operateOk (hexec : exec c s = .next (operateOk o r arg n v eff s)) (hbad : v.bad = false) (hfenced : v.fenced = false)
    (hstate : v.state = false) (hother : v.other = none) (hkept : ∀ b, (eff b).kodp.running = b.kodp.running)
    (hq : q (reply o r .ok [] (eff (begun o r arg n s)))) : Replies c s o r n arg .ok [] q :=
  replies_of_operate hexec hbad hfenced hstate hother rfl (hkept _) hq

end

theorem reply_twin (o : OpObj) (r : Req) (st : Status) (body : List Byte) (s : State) : (reply o r st body s).twin.rest = s.twin.rest :=
  (reply_frame o r st body s).twin_rest rfl

theorem begun_twin (o : OpObj) (r : Req) (arg : List Byte) (n : Nat) (s : State) : (begun o r arg n s).twin = s.twin :=
  (begun_frame o r arg n s).twin_eq rfl rfl

theorem reply_mem (o : OpObj) (r : Req) (st : Status) (body : List Byte) (s : State) : (reply o r st body s).mem = s.mem :=
  (reply_frame o r st body s).mem_eq rfl

theorem refuse_twin (o : OpObj) (r : Req) (crc : Nat) (st : Status) (body : List Byte) (s : State) :
    (refuse o r crc st body (heard r s)).twin.rest = s.twin.rest := (refuse_frame o r crc st body s).twin_rest rfl

/-- An owner from now on is Alone and holds its lamp (R464). -/
theorem becomeOwner_twin (s : State) : ∃ a p, (becomeOwner s).twin.rest = { s.twin.rest with st := .alone, lampOut := .hold, announceAt := a, handback := false,
                                                                                              quiescing := false, paused := false, released := false, prepared := p } := by
  refine ⟨s.now, max s.twin.prepared (s.twin.epoch + 1), ?_⟩
  unfold becomeOwner
  refine Eq.trans (Frame.twin_rest (P := [.txn, .ledger, .deep, .leaves]) (frame_sendAnnounce (by decide) (frame_forAll (fun n w hw => ?_)
    (frame_forAll (fun n w hw => frame_setSled (by decide) hw) (Frame.refl _ _)))) rfl) rfl
  split
  · exact frame_sendClaim (by decide) hw
  · exact hw

/-- The claims of a Varisk's sleds leave the twin's own state and memory (R309). -/
theorem claims_frame (s : State) : Frame [.txn, .ledger, .deep, .leaves, .sessions, .rings, .kodp, .ctrs, .out] s
    (forAll [0, 1, 2, 3] (fun n s => if (s.sled n).present && s.reachable n then claimAfterInfo n s else s) s) := by
  refine frame_forAll (fun n w hw => ?_) (Frame.refl _ s)
  split
  · exact frame_claimAfterInfo (by decide) hw
  · exact hw

/-- The object TWIN_ENABLE as it is written. -/
abbrev enableObj : OpObj := { index := 0x1B00, sub := 1, type := 2, roles := roleOp, any := false }

/-- TWIN_ENABLE is written and stored. -/
def enableWritten (value : Nat) (s : State) : State := saveSettings (setObj .twinEnable value (s.onTwin (fun t => { t with enable := value == 1 })))

theorem enableWritten_frame (value : Nat) (s : State) : Frame [.twin, .dict] s (enableWritten value s) :=
  frame_saveSettings (by decide) (frame_setObj (by decide) (frame_onTwin [.twin] (by decide) (.inr fun _ => rfl) (.inl rfl) (Frame.refl _ s)))

theorem enableWritten_twin (value : Nat) (s : State) : (enableWritten value s).twin = { s.twin with enable := value == 1 } := rfl

/-- What TWIN_ENABLE 1 makes of a Varisk in Solo (R464). -/
def enabledOwner (s : State) : State := becomeOwner (useEpoch ((enableWritten 1 s).twin.epoch + 1) (enableWritten 1 s))

theorem enabledOwner_frame (s : State) : Frame [.txn, .ledger, .deep, .twin, .leaves, .dict] s (enabledOwner s) :=
  frame_becomeOwner (by decide) (frame_useEpoch (by decide) ((enableWritten_frame 1 s).mono (by decide)))

theorem enabledOwner_twin (s : State) : ∃ a p, (enabledOwner s).twin.rest
    = { s.twin.rest with st := .alone, enable := true, epoch := s.twin.epoch + 1, lampOut := .hold, announceAt := a, handback := false, quiescing := false,
                         paused := false, released := false, prepared := p } := by
  obtain ⟨a, p, howner⟩ := becomeOwner_twin (useEpoch ((enableWritten 1 s).twin.epoch + 1) (enableWritten 1 s))
  refine ⟨a, p, howner.trans ?_⟩
  rw [useEpoch, State.onTwin_twin, enableWritten_twin]
  rfl

/-- The twin's own state of a Varisk that leaves Enrolling or Alone for Solo (R464). -/
def leftForSolo (s : State) : State :=
  s.onTwin (fun t => { t with st := .solo, lampOut := .dark, diverging := false, divergence := [], refused := 0, refused5 := false, force := none })

/-- What TWIN_ENABLE 0 does (R309, R464). -/
def disabled (s : State) : State :=
  forAll [0, 1, 2, 3] (fun n s => if (s.sled n).present && s.reachable n then claimAfterInfo n s else s) (leftForSolo (enableWritten 0 s))

theorem disabled_frame (s : State) :
    Frame [.txn, .ledger, .deep, .twin, .mirror, .leaves, .sessions, .rings, .kodp, .dict, .ctrs, .out] s (disabled s) :=
  ((enableWritten_frame 0 s).mono (by decide)).trans
    ((frame_onTwin [.twin, .mirror] (by decide) (.inl rfl) (.inl rfl) (Frame.refl _ _)).trans ((claims_frame _).mono (by decide)))

theorem disabled_twin (s : State) : (disabled s).twin.rest
    = { s.twin.rest with st := .solo, enable := false, lampOut := .dark, diverging := false, refused := 0, refused5 := false, force := none } :=
  ((claims_frame (leftForSolo (enableWritten 0 s))).twin_rest rfl).trans rfl

theorem reply_enabledOwner (r : Req) {b s : State} (hb : b.twin = s.twin) (hbmem : b.mem = s.mem) : (fun t : State =>
    t.twin.st = .alone ∧ t.twin.epoch = s.twin.epoch + 1 ∧ t.twin.enable = true ∧ t.twin.lampOut = .hold ∧ t.mem = s.mem)
      (reply enableObj r .ok [] (enabledOwner b)) := by
  obtain ⟨a, p, howner⟩ := enabledOwner_twin b
  have hr := (reply_twin enableObj r .ok [] (enabledOwner b)).trans howner
  generalize hu : enabledOwner b = u at hr ⊢
  have hmem : u.mem = s.mem := hu ▸ ((enabledOwner_frame b).mem_eq rfl).trans hbmem
  refine ⟨(congrArg TwinState.st hr :), ?_, (congrArg TwinState.enable hr :), (congrArg TwinState.lampOut hr :), (reply_mem ..).trans hmem⟩
  rw [← hb]
  exact (congrArg TwinState.epoch hr :)

theorem reply_disabled (r : Req) {b s : State} (hbmem : b.mem = s.mem) : (fun t : State =>
    t.twin.st = .solo ∧ t.twin.enable = false ∧ t.twin.lampOut = .dark ∧ t.mem = s.mem) (reply enableObj r .ok [] (disabled b)) := by
  have hr := (reply_twin enableObj r .ok [] (disabled b)).trans (disabled_twin b)
  generalize hu : disabled b = u at hr ⊢
  have hmem : u.mem = s.mem := hu ▸ ((disabled_frame b).mem_eq rfl).trans hbmem
  exact ⟨(congrArg TwinState.st hr :), (congrArg TwinState.enable hr :), (congrArg TwinState.lampOut hr :), (reply_mem ..).trans hmem⟩

section
variable (s : State) (r : Req)

theorem twinEnable_alone (hsolo : s.twin.st = .solo) (hepoch : s.twin.epoch < 0xFFFFFFFF) :
    Replies (.twinEnableWrite r 1) s enableObj r 1 (leBytes 1 1) .ok []
      (fun t => t.twin.st = .alone ∧ t.twin.epoch = s.twin.epoch + 1 ∧ t.twin.enable = true ∧ t.twin.lampOut = .hold ∧ t.mem = s.mem) := by
  have hb := begun_twin enableObj r (leBytes 1 1) 1 s
  have hbmem := (begun_frame enableObj r (leBytes 1 1) 1 s).mem_eq rfl
  refine replies_of_operate (u := enabledOwner (begun enableObj r (leBytes 1 1) 1 s)) rfl rfl rfl ?_ rfl ?_ ?_ ?_
  · exact (congrArg (_ && ·) (decide_eq_false (Nat.not_le.mpr hepoch))).trans (Bool.and_false _)
  · generalize begun enableObj r (leBytes 1 1) 1 s = b at hb ⊢
    have hst : (enableWritten 1 b).twin.st = .solo := (congrArg TwinState.st hb).trans hsolo
    exact congrArg (reply enableObj r .ok []) (if_pos hst)
  · exact (enabledOwner_frame _).running_eq rfl
  · exact reply_enabledOwner r hb hbmem

theorem twinEnable_solo (halone : s.twin.st = .alone) :
    Replies (.twinEnableWrite r 0) s enableObj r 1 (leBytes 1 0) .ok []
      (fun t => t.twin.st = .solo ∧ t.twin.enable = false ∧ t.twin.lampOut = .dark ∧ t.mem = s.mem) := by
  have hbmem := (begun_frame enableObj r (leBytes 1 0) 1 s).mem_eq rfl
  refine replies_of_operate (u := disabled (begun enableObj r (leBytes 1 0) 1 s)) rfl rfl rfl ?_ rfl rfl ?_ ?_
  · rw [halone]
    rfl
  · exact (disabled_frame _).running_eq rfl
  · exact reply_disabled r hbmem

theorem twinEnable_refused (hactive : s.twin.st = .active) :
    Replies (.twinEnableWrite r 0) s enableObj r 1 (leBytes 1 0) .refusedState [] (fun t => t.twin.st = .active) := by
  refine replies_refusedState rfl rfl rfl ?_ ?_
  · rw [hactive]
    rfl
  · rintro _ crc rfl
    exact (congrArg TwinState.st (refuse_twin enableObj r crc .refusedState [] s) :).trans hactive

/-- The verdict of TWIN_FORCE with the next epoch. -/
def forceVerdict (s : State) : Verdict :=
  { Verdict.ok with bad := s.twin.epoch + 1 != s.twin.epoch + 1 || Config.twinPorts == 0
                    state := !(s.twin.st == .enrolling || s.twin.st == .standby || s.twin.st == .adrift) }

theorem forceVerdict_bad (s : State) : (forceVerdict s).bad = false := by
  unfold forceVerdict
  rw [bne_self_eq_false]
  rfl

theorem twinForce_armed (hstandby : s.twin.st = .standby) :
    Replies (.twinForce r (s.twin.epoch + 1)) s (cmdObj 0x1B30 1 (roleOp + rolePm)) r 4 (leBytes 4 (s.twin.epoch + 1)) .ok []
      (fun t => t.twin.force = some (s.twin.epoch + 1) ∧ t.twin.st = .standby) := by
  have hexec : exec (.twinForce r (s.twin.epoch + 1)) s = .next (operateOk (cmdObj 0x1B30 1 (roleOp + rolePm)) r (leBytes 4 (s.twin.epoch + 1)) 4
      (forceVerdict s) (fun u => u.onTwin (fun t => { t with force := some (s.twin.epoch + 1) })) s) := by
    rw [exec, execTwinForce, onlyIf, if_neg (by rw [hstandby]; decide)]
    rfl
  refine replies_operateOk hexec (forceVerdict_bad s) rfl ?_ rfl (fun _ => rfl) ?_
  · rw [forceVerdict, hstandby]
    rfl
  · have hb := begun_twin (cmdObj 0x1B30 1 (roleOp + rolePm)) r (leBytes 4 (s.twin.epoch + 1)) 4 s
    generalize begun (cmdObj 0x1B30 1 (roleOp + rolePm)) r (leBytes 4 (s.twin.epoch + 1)) 4 s = b at hb ⊢
    have hr := reply_twin (cmdObj 0x1B30 1 (roleOp + rolePm)) r .ok [] (b.onTwin (fun t => { t with force := some (s.twin.epoch + 1) }))
    exact ⟨(congrArg TwinState.force hr :), (congrArg TwinState.st hr :).trans ((congrArg TwinState.st hb).trans hstandby)⟩

theorem twinForce_ignored (hsyncing : s.twin.st = .syncing) :
    Replies (.twinForce r (s.twin.epoch + 1)) s (cmdObj 0x1B30 1 (roleOp + rolePm)) r 4 (leBytes 4 (s.twin.epoch + 1)) .refusedState []
      (fun t => t.twin.force = s.twin.force ∧ Counts .twEventsIgnored 0 1 s t) := by
  intro hacc
  have hstate : (forceVerdict s).state = true := by
    rw [forceVerdict, hsyncing]
    rfl
  have hrefused := (operate_refused (run := fun b => reply (cmdObj 0x1B30 1 (roleOp + rolePm)) r .ok []
    (b.onTwin (fun t => { t with force := some (s.twin.epoch + 1) }))) hacc (forceVerdict_bad s)).2 rfl hstate
  refine ⟨_, congrArg Host.Outcome.next ((if_pos (by rw [hsyncing]; rfl)).trans (congrArg twinIgnore hrefused)), ?_⟩
  have hanswered := answered_refuse hacc (kmsgCrc (mkMsg (cmdObj 0x1B30 1 (roleOp + rolePm)).type r.id (cmdObj 0x1B30 1 (roleOp + rolePm)).index
    (cmdObj 0x1B30 1 (roleOp + rolePm)).sub .ok (leBytes 4 (s.twin.epoch + 1)))) .refusedState [] (heard_running r s)
  refine ⟨hanswered, (congrArg TwinState.force (refuse_twin (cmdObj 0x1B30 1 (roleOp + rolePm)) r _ .refusedState [] s) :), ?_⟩
  exact (ctr_bumpBy_same ..).trans (congrArg (ctrAdd .twEventsIgnored · 1) (refuse_ctr (c := .twEventsIgnored) (by decide) 0 _ r _ .refusedState [] s))

theorem twinHandover_asked (hactive : s.twin.st = .active) :
    Replies (.twinHandover r) s (cmdObj 0x1B30 3 (roleOp + rolePm)) r 0 [] .ok [] (fun t => t.twin.handoverAsk = true ∧ t.twin.st = .active) := by
  have hb := begun_twin (cmdObj 0x1B30 3 (roleOp + rolePm)) r [] 0 s
  refine replies_operateOk rfl rfl rfl ?_ rfl (fun _ => rfl) ?_
  · rw [hactive]
    rfl
  · generalize begun (cmdObj 0x1B30 3 (roleOp + rolePm)) r [] 0 s = b at hb ⊢
    have hr := reply_twin (cmdObj 0x1B30 3 (roleOp + rolePm)) r .ok [] (b.onTwin (fun t => { t with handoverAsk := true }))
    exact ⟨(congrArg TwinState.handoverAsk hr :), (congrArg TwinState.st hr :).trans ((congrArg TwinState.st hb).trans hactive)⟩

theorem twinQuiesce_quiescing (hstandby : s.standby = false) :
    Replies (.twinQuiesce r) s (cmdObj 0x1B30 4 rolePm) r 0 [] .ok [] (fun t => t.twin.quiescing = true ∧ t.twin.st = s.twin.st) := by
  have hb := begun_twin (cmdObj 0x1B30 4 rolePm) r [] 0 s
  refine replies_operateOk rfl rfl hstandby rfl rfl (fun _ => rfl) ?_
  generalize begun (cmdObj 0x1B30 4 rolePm) r [] 0 s = b at hb ⊢
  have hr := reply_twin (cmdObj 0x1B30 4 rolePm) r .ok [] (b.onTwin (fun t => { t with quiescing := true }))
  exact ⟨(congrArg TwinState.quiescing hr :), (congrArg TwinState.st hr :).trans (congrArg TwinState.st hb :)⟩

theorem twinForceCancel_cancels (hforce : s.twin.force.isSome = true) :
    Replies (.twinForceCancel r) s (cmdObj 0x1B30 2 (roleOp + rolePm)) r 0 [] .ok [] (fun t => t.twin.force = none) := by
  refine replies_operateOk rfl rfl rfl (Option.isNone_eq_false_iff.mpr hforce) rfl (fun _ => rfl) ?_
  generalize begun (cmdObj 0x1B30 2 (roleOp + rolePm)) r [] 0 s = b
  exact (congrArg TwinState.force (reply_twin (cmdObj 0x1B30 2 (roleOp + rolePm)) r .ok [] (b.onTwin (fun t => { t with force := none }))) :)

end

/-- Settles O41: each of the five commands is an operation whose verdict the twin's state decides; its effect is the model's own change of the twin's
state, and neither the answer nor the claims and announces it sends change that state again. -/
theorem twinCommands : Obligations.TwinCommands := by
  unfold Obligations.TwinCommands
  exact fun s r => ⟨twinEnable_alone s r, twinEnable_solo s r, twinEnable_refused s r, twinForce_armed s r, twinForce_ignored s r,
    twinForceCancel_cancels s r, twinHandover_asked s r, twinQuiesce_quiescing s r⟩

end Sys2Proof.Machine
end

section
/-!
PROOF. The sessions of SPDM, and the keys of tenants, where the model does otherwise than was guessed (R556, R558, R660).
-/
namespace Sys2Proof.Machine

/-! ### FINISH in a session (R556, R660) -/

/-- A package that is Ready. -/
def readyPackage : State :=
  { State.reset with pkg := { State.reset.pkg with poresetLow := false, phase := .run }, boot := { State.reset.boot with step := 6 } }

/-- A client that sends inside session 1. -/
def sessionClient : Client := { transport := .udp, addr := 1, port := 1, session := some 1 }
def sessionReq : Req := { client := sessionClient, id := 7, tag := 0 }

/-- Session 1, not yet established. -/
def halfSession : Session :=
  { client := { sessionClient with session := none }, established := false, roles := 0, authKey := none, tenant := none, peer := false
    key := 0, missed := 0, sent := 0, received := 0, updates := 0 }

def openingState : State := { readyPackage with sec := { readyPackage.sec with sessions := [(1, halfSession)] } }

/-- The reply to FINISH goes out in the session, and takes the first number of its direction. -/
theorem finish_openingState : ∀ t, exec (.finish sessionReq 1 0 none) openingState = .next t →
    (aget t.sec.sessions 1).map Session.sent = some 1 := by
  intro t h
  cases h
  decide +kernel

/-- Refutes O42: a client that asks FINISH inside the very session (`openingState`) is answered by a message of that session, which takes the next
number of its direction: the session after is not the one before with `established` set alone. -/
theorem not_spdmSessions : ¬ Obligations.SpdmSessions := by
  unfold Obligations.SpdmSessions
  intro h
  obtain ⟨-, -, -, -, -, -, -, -, -, -, hfinish, -⟩ := h openingState sessionReq
  obtain ⟨t, ht, -, -, hsession⟩ := hfinish 1 0 halfSession rfl rfl rfl (by decide +kernel)
  have hsent := finish_openingState t ht
  rw [hsession] at hsent
  exact absurd hsent (by decide)

/-! ### MEM_KEY_DESTROY (R558) -/

/-- A line of tenant 1's memory key 1 in the pantry. -/
def keyedLine : LineMeta := { LineMeta.reset with tenant := 1, keyId := 1, inPantry := true }

/-- A session of tenant 1. -/
def tenantSession : Session := { halfSession with established := true, roles := roleTenant, tenant := some 1 }

/-- Tenant 1 with one memory key and two entries of line 5. -/
def twiceListed : State :=
  { readyPackage with
    sec := { readyPackage.sec with sessions := [(1, tenantSession)]
                                   tenants := [(1, { authKey := 0, sealed := false, memKeys := [(1, 0)], signKeys := [] })] }
    mem := { readyPackage.mem with lines := [(5, keyedLine), (5, keyedLine)] } }

/-- Only the first entry of a line is its metadata, so only that one leaves the pantry. -/
theorem memKeyDestroy_twiceListed : ∀ t, exec (.memKeyDestroy sessionReq 0 1) twiceListed = .next t → (5, keyedLine) ∈ t.mem.lines := by
  intro t h
  cases h
  decide +kernel

/-- Refutes O43: the clause of MEM_KEY_DESTROY takes every entry of the lines' metadata out of the pantry; an entry that stands behind another of
the same line (`twiceListed`) is no line's metadata and stays as it is. -/
theorem not_tenantKeys : ¬ Obligations.TenantKeys := by
  unfold Obligations.TenantKeys
  intro h
  obtain ⟨-, -, -, hkeys, -⟩ := h twiceListed sessionReq
  obtain ⟨-, -, hdestroy, -⟩ := hkeys 0 1 [] (by decide +kernel) (by decide +kernel) (by decide +kernel)
  obtain ⟨t, ht, -, -, -, hgone⟩ := hdestroy 1 (by decide) (by decide) (by decide +kernel) (by decide +kernel)
  exact absurd (hgone _ (memKeyDestroy_twiceListed t ht) rfl rfl) (by decide)

end Sys2Proof.Machine
end

section
/-!
PROOF. The KSL and the management lane (R80, R81, R656, R658, R680).
-/
namespace Sys2Proof.Machine

/-! ### KSL frames (R80, R81, R658) -/

/-- The state in which a KSL frame for this package is taken. -/
def kslTaken (s : State) : State := kslHeard (setKslReleased false s)

theorem kslTaken_heard (s : State) : aget (kslTaken s).kodp.heardAt kslClient = some s.now := aget_aset_same ..

theorem kslTaken_frame (s : State) : Frame [.pkg, .kodp, .out] s (kslTaken s) :=
  frame_kslHeard (by decide) (frame_setKslReleased (by decide) (Frame.refl _ _))

/-- Whether the checks of R80 fail a written frame. -/
def State.kslBroken (s : State) (len : Nat) (msg : List Byte) (crc : Nat) : Bool :=
  crc != crc16 (leBytes 2 len ++ msg) || decide (len > 1024) || msg.length != len || ((aget s.integ.selfTest (5, 40)).map Prod.fst) == some 3

theorem exec_kslWriteFrame {s : State} {addr len crc : Nat} {msg : List Byte} (hmine : s.kslMine addr = true) :
    exec (.kslWriteFrame addr len msg crc) s
      = .next (if s.kslBroken len msg crc then emit (.kslStatus .integrity) (kslTaken s)
          else if s.obs.reheat.contains 0 || (decide (len ≥ 4) && s.reasmFull kslClient (leNat ((msg.drop 2).take 2))) then emit (.kslStatus .retry) (kslTaken s)
          else takeHeaded kslClient msg (emit (.kslStatus .ok) (kslTaken s))) := by
  rw [exec, execKslWriteFrame, hmine]
  refine (if_neg (by decide : ¬ ((!true) = true))).trans ?_
  rw [apply_ite Host.Outcome.next, apply_ite Host.Outcome.next]
  rfl

theorem exec_kslReadFrame {s : State} {addr : Nat} {q : List (Bool × KMsg)} (hmine : s.kslMine addr = true)
    (hq : (if s.obs.reheat.contains 0 then [] else s.kodp.kslTx) = q) :
    exec (.kslReadFrame addr) s = match (generalizing := false) q with
      | [] => .next (emit (.kslFrame (kslFrame [])) (kslTaken s))
      | (_, m) :: rest =>
        let last := decide ((kmsgBytes m).length ≤ 1020 * (s.kodp.kslRead + 1))
        let f := leBytes 1 s.kodp.kslRead ++ [if last then 1 else 0] ++ leBytes 2 m.reqId ++ ((kmsgBytes m).drop (1020 * s.kodp.kslRead)).take 1020
        .next (emit (.kslFrame (kslFrame f)) ((kslTaken s).onKodp (fun x =>
          { x with kslTx := if last then rest else x.kslTx, kslRead := if last then 0 else s.kodp.kslRead + 1 }))) := by
  subst hq
  rw [exec, execKslReadFrame, hmine]
  exact if_neg (by decide : ¬ ((!true) = true))

/-- A frame for another package releases TP1. -/
theorem ksl_not_mine {s : State} {addr len crc : Nat} {msg : List Byte} (hmine : s.kslMine addr = false) :
    ∀ c ∈ [Instr.kslWriteFrame addr len msg crc, .kslReadFrame addr, .kslFrameTimeout], Does c s (fun t =>
      t = { s with pkg := { s.pkg with kslReleased := true } }) := by
  have hnot : (!s.kslMine addr) = true := by rw [hmine]; rfl
  intro c hc
  simp only [List.mem_cons, List.not_mem_nil, or_false] at hc
  rcases hc with rfl | rfl | rfl
  · exact ⟨_, if_pos hnot, rfl⟩
  · exact ⟨_, if_pos hnot, rfl⟩
  · exact ⟨_, rfl, rfl⟩

theorem kslWriteFrame_broken {s : State} {addr len crc : Nat} {msg : List Byte} (hmine : s.kslMine addr = true)
    (hbad : crc ≠ crc16 (leBytes 2 len ++ msg) ∨ 1024 < len ∨ msg.length ≠ len ∨ ((aget s.integ.selfTest (5, 40)).map Prod.fst) = some 3) :
    Does (.kslWriteFrame addr len msg crc) s (fun t => t.out = .kslStatus .integrity :: s.out
      ∧ t.pkg.kslReleased = false ∧ aget t.kodp.heardAt kslClient = some s.now ∧ Frame [.pkg, .kodp, .out] s t) := by
  have hbroken : s.kslBroken len msg crc = true := by
    simpa only [State.kslBroken, Bool.or_eq_true, bne_iff_ne, ne_eq, decide_eq_true_eq, beq_iff_eq, or_assoc] using hbad
  refine ⟨_, exec_kslWriteFrame hmine, ?_⟩
  rw [if_pos hbroken]
  exact ⟨rfl, rfl, kslTaken_heard s, frame_emit (by decide) (kslTaken_frame s)⟩

/-- A frame whose length, CRC and input are right passes the checks. -/
theorem kslBroken_false {s : State} {msg : List Byte} (hlen : msg.length ≤ 1024) (htest : ((aget s.integ.selfTest (5, 40)).map Prod.fst) ≠ some 3) :
    s.kslBroken msg.length msg (crc16 (leBytes 2 msg.length ++ msg)) = false := by
  have hshort : decide (msg.length > 1024) = false := decide_eq_false (by omega)
  simp only [State.kslBroken, bne_self_eq_false, hshort, beq_eq_false_iff_ne.2 htest, Bool.or_false]

theorem kslWriteFrame_reheat {s : State} {addr : Nat} {msg : List Byte} (hmine : s.kslMine addr = true) (hlen : msg.length ≤ 1024)
    (hreheat : s.obs.reheat.contains 0 = true) (htest : ((aget s.integ.selfTest (5, 40)).map Prod.fst) ≠ some 3) :
    Does (.kslWriteFrame addr msg.length msg (crc16 (leBytes 2 msg.length ++ msg))) s (fun t => t.out = .kslStatus .retry :: s.out ∧ Frame [.pkg, .kodp, .out] s t) := by
  refine ⟨_, exec_kslWriteFrame hmine, ?_⟩
  rw [kslBroken_false hlen htest, hreheat, Bool.true_or]
  exact ⟨rfl, frame_emit (by decide) (kslTaken_frame s)⟩

theorem kslWriteFrame_taken {s : State} {addr : Nat} {msg : List Byte} (hmine : s.kslMine addr = true) (hlen : msg.length ≤ 1024)
    (hreheat : s.obs.reheat.contains 0 = false) (htest : ((aget s.integ.selfTest (5, 40)).map Prod.fst) ≠ some 3)
    (hroom : s.reasmFull kslClient (leNat ((msg.drop 2).take 2)) = false) :
    Does (.kslWriteFrame addr msg.length msg (crc16 (leBytes 2 msg.length ++ msg))) s (fun t => ∃ more, t.out = more ++ .kslStatus .ok :: s.out) := by
  refine ⟨_, exec_kslWriteFrame hmine, ?_⟩
  rw [kslBroken_false hlen htest, hreheat, hroom, Bool.and_false]
  have hframe : Frame Part.every (emit (.kslStatus .ok) (kslTaken s)) (takeHeaded kslClient msg (emit (.kslStatus .ok) (kslTaken s))) :=
    frame_takeHeaded (by decide) (Frame.refl _ _)
  obtain ⟨more, hmore⟩ := hframe.out
  exact ⟨more, hmore.symm⟩

theorem kslReadFrame_empty {s : State} {addr : Nat} (hmine : s.kslMine addr = true) (hnone : s.kodp.kslTx = [] ∨ s.obs.reheat.contains 0 = true) :
    Does (.kslReadFrame addr) s (fun t => t.out = .kslFrame (leBytes 2 0 ++ leBytes 2 (crc16 (leBytes 2 0))) :: s.out ∧ t.kodp.kslTx = s.kodp.kslTx
      ∧ Frame [.pkg, .kodp, .out] s t) := by
  have hq : (if s.obs.reheat.contains 0 then [] else s.kodp.kslTx) = [] := by
    rcases hnone with h | h
    · rw [h, ite_self]
    · rw [h]; rfl
  exact ⟨_, exec_kslReadFrame hmine hq, rfl, rfl, frame_emit (by decide) (kslTaken_frame s)⟩

theorem kslReadFrame_head {s : State} {addr : Nat} {e : Bool × KMsg} {rest : List (Bool × KMsg)} (hmine : s.kslMine addr = true)
    (hq : s.kodp.kslTx = e :: rest) (hreheat : s.obs.reheat.contains 0 = false) :
    let part := ((kmsgBytes e.2).drop (1020 * s.kodp.kslRead)).take 1020
    let last := decide ((kmsgBytes e.2).length ≤ 1020 * (s.kodp.kslRead + 1))
    let f := leBytes 1 s.kodp.kslRead ++ [if last then 1 else 0] ++ leBytes 2 e.2.reqId ++ part
    Does (.kslReadFrame addr) s (fun t => t.out = .kslFrame (leBytes 2 f.length ++ f ++ leBytes 2 (crc16 (leBytes 2 f.length ++ f))) :: s.out
      ∧ t.kodp.kslTx = (if last then rest else s.kodp.kslTx) ∧ t.kodp.kslRead = (if last then 0 else s.kodp.kslRead + 1) ∧ Frame [.pkg, .kodp, .out] s t) := by
  have hhead : (if s.obs.reheat.contains 0 then [] else s.kodp.kslTx) = e :: rest := by rw [hreheat, hq]; rfl
  exact ⟨_, exec_kslReadFrame hmine hhead, rfl, rfl, rfl, frame_emit (by decide) (frame_onKodp [.kodp] (by decide) (.inr fun _ => rfl) (.inr fun _ => rfl) (.inl rfl) (kslTaken_frame s))⟩

/-! ### Fields of a frame, most significant byte first -/

theorem length_beBytes (n v : Nat) : (beBytes n v).length = n := (List.length_reverse ..).trans (length_leBytes n v)

theorem beNat_beBytes (n v : Nat) : beNat (beBytes n v) = v % 256 ^ n := by
  rw [beNat, beBytes, List.reverse_reverse, leNat_leBytes]

/-- A field that stands behind the bytes `a` of a frame. -/
theorem beField_append {a x rest : List Byte} {lo n : Nat} (hlo : a.length = lo) (hn : x.length = n) : beField (a ++ (x ++ rest)) lo n = beNat x := by
  rw [beField, List.drop_left' hlo, List.take_left' hn]

/-! ### Frames of the management lane (R656, R680) -/

theorem exec_mgmtFrame {s : State} {frame : List Byte} (hlink : s.link.mgmtLink = true) (hup : s.bakerUp = true) (hmin : 14 ≤ frame.length)
    (hmax : frame.length ≤ 1514) (hfor : frame.take 6 = ourMac ∨ beField frame 0 1 % 2 ≠ 0) :
    exec (.mgmtFrame frame) s = .next (match beField frame 12 2 with
      | 0x8100 => discardFrame s
      | 0x0806 => takeArp (frame.drop 14) s
      | 0x0800 => takeIpv4 ((frame.drop 6).take 6) (frame.drop 14) s
      | 0x86DD => takeIpv6 ((frame.drop 6).take 6) (frame.drop 14) s
      | _ => s) := by
  have htakes : ¬ ((!s.link.mgmtLink || !s.bakerUp || decide (frame.length < 14) || decide (frame.length > 1514)) = true) := by
    simp only [hlink, hup, Bool.or_eq_true, decide_eq_true_eq]
    simp; omega
  have hmine : ¬ (frame.take 6 ≠ ourMac ∧ beField frame 0 1 % 2 = 0) := by tauto
  exact congrArg Host.Outcome.next ((if_neg htakes).trans (if_neg hmine))

theorem mgmtFrame_untaken {s : State} {frame : List Byte} (h : s.link.mgmtLink = false ∨ s.bakerUp = false ∨ frame.length < 14 ∨ 1514 < frame.length) :
    Does (.mgmtFrame frame) s (fun t => t = s) := by
  have hnot : (!s.link.mgmtLink || !s.bakerUp || decide (frame.length < 14) || decide (frame.length > 1514)) = true := by
    simpa only [Bool.or_eq_true, Bool.not_eq_true', decide_eq_true_eq, or_assoc] using h
  exact ⟨_, rfl, if_pos hnot⟩

/-- A frame for neither our MAC nor a group. -/
theorem mgmtFrame_elsewhere {s : State} {frame : List Byte} (hlink : s.link.mgmtLink = true) (hup : s.bakerUp = true) (hmax : frame.length < 1515)
    (hmin : 14 ≤ frame.length) (hmac : frame.take 6 ≠ ourMac) (hgroup : beField frame 0 1 % 2 = 0) : Does (.mgmtFrame frame) s (fun t => t = s) := by
  have htakes : ¬ ((!s.link.mgmtLink || !s.bakerUp || decide (frame.length < 14) || decide (frame.length > 1514)) = true) := by
    simp only [hlink, hup, Bool.or_eq_true, decide_eq_true_eq]
    simp; omega
  exact ⟨_, rfl, (if_neg htakes).trans (if_pos ⟨hmac, hgroup⟩)⟩

theorem length_ourMac : ourMac.length = 6 := length_leBytes 6 _

/-- A frame to an address that is ours or everyone's, of some EtherType. -/
theorem exec_mgmtFrame_typed {s : State} {dst mac b : List Byte} {x y : Byte} (hlink : s.link.mgmtLink = true) (hup : s.bakerUp = true)
    (hdst : dst = ourMac ∨ dst = List.replicate 6 0xFF) (hmac : mac.length = 6) (hmax : b.length ≤ 1500) :
    exec (.mgmtFrame (dst ++ (mac ++ ([x, y] ++ b)))) s = .next (match beNat [x, y] with
      | 0x8100 => discardFrame s
      | 0x0806 => takeArp b s
      | 0x0800 => takeIpv4 mac b s
      | 0x86DD => takeIpv6 mac b s
      | _ => s) := by
  have hlen : dst.length = 6 := by
    rcases hdst with rfl | rfl
    · exact length_ourMac
    · exact List.length_replicate
  have hfor : (dst ++ (mac ++ ([x, y] ++ b))).take 6 = ourMac ∨ beField (dst ++ (mac ++ ([x, y] ++ b))) 0 1 % 2 ≠ 0 := by
    rw [List.take_left' hlen]
    rcases hdst with rfl | rfl
    · exact .inl rfl
    · exact .inr (show beNat [0xFF] % 2 ≠ 0 by decide)
  have htype : beField (dst ++ (mac ++ ([x, y] ++ b))) 12 2 = beNat [x, y] := by
    rw [← List.append_assoc]
    exact beField_append (by rw [List.length_append, hlen, hmac]) rfl
  have hfrom : ((dst ++ (mac ++ ([x, y] ++ b))).drop 6).take 6 = mac := by rw [List.drop_left' hlen, List.take_left' hmac]
  have hrest : (dst ++ (mac ++ ([x, y] ++ b))).drop 14 = b := by
    rw [← List.append_assoc, ← List.append_assoc]
    exact List.drop_left' (by simp [hlen, hmac])
  rw [exec_mgmtFrame hlink hup (by simp [hlen, hmac]; omega) (by simp [hlen, hmac]; omega) hfor, htype, hfrom, hrest]

theorem discardFrame_counts (s : State) : Counts .kDiscardedFrames 1 1 s (discardFrame s) ∧ Frame [.ctrs] s (discardFrame s) :=
  ⟨ctr_bumpBy_same .., frame_bump (by decide) (Frame.refl _ _)⟩

/-- A request for our IPv4 address. -/
theorem takeArp_request {s : State} {mac target : List Byte} {ip : Nat} (hmac : mac.length = 6) (htarget : target.length = 6) (hours : s.ourV4 < 2 ^ 32) :
    takeArp (beBytes 8 0x0001080006040001 ++ (mac ++ (beBytes 4 ip ++ (target ++ beBytes 4 s.ourV4)))) s
      = emit (.ethernet 1 (mac ++ ourMac ++ [0x08, 0x06] ++ beBytes 8 0x0001080006040002 ++ ourMac ++ beBytes 4 s.ourV4 ++ mac ++ beBytes 4 ip)) s := by
  have hkind : beField (beBytes 8 0x0001080006040001 ++ (mac ++ (beBytes 4 ip ++ (target ++ beBytes 4 s.ourV4)))) 0 8 = 0x0001080006040001 := by
    refine (beField_append (a := []) rfl (length_beBytes 8 _)).trans (beNat_beBytes 8 _)
  have hasked : beField (beBytes 8 0x0001080006040001 ++ (mac ++ (beBytes 4 ip ++ (target ++ beBytes 4 s.ourV4)))) 24 4 = s.ourV4 := by
    have hsplit : beBytes 8 0x0001080006040001 ++ (mac ++ (beBytes 4 ip ++ (target ++ beBytes 4 s.ourV4)))
        = (beBytes 8 0x0001080006040001 ++ mac ++ beBytes 4 ip ++ target) ++ (beBytes 4 s.ourV4 ++ []) := by simp
    rw [hsplit, beField_append (by simp [length_beBytes, hmac, htarget]) (length_beBytes 4 _), beNat_beBytes]
    exact Nat.mod_eq_of_lt hours
  have hmacs : ((beBytes 8 0x0001080006040001 ++ (mac ++ (beBytes 4 ip ++ (target ++ beBytes 4 s.ourV4)))).drop 8).take 6 = mac := by
    rw [List.drop_left' (length_beBytes 8 _), List.take_left' hmac]
  have hasker : ((beBytes 8 0x0001080006040001 ++ (mac ++ (beBytes 4 ip ++ (target ++ beBytes 4 s.ourV4)))).drop 8).take 10 = mac ++ beBytes 4 ip := by
    rw [List.drop_left' (length_beBytes 8 _), ← List.append_assoc]
    exact List.take_left' (by simp [length_beBytes, hmac])
  have hbytes : (0x0806 : Nat) = 0x0806 ∧ beBytes 2 0x0806 = [0x08, 0x06] := ⟨rfl, by decide⟩
  rw [takeArp, if_pos ⟨hkind, by simp [length_beBytes, hmac, htarget], hasked⟩, hmacs, hasker, etherFrame, hbytes.2]
  simp only [List.append_assoc]

theorem beField_take {b : List Byte} {k lo n : Nat} (h : lo + n ≤ k) : beField (b.take k) lo n = beField b lo n := by
  rw [beField, beField, List.drop_take, List.take_take, min_eq_left (by omega)]

theorem beField_drop {b : List Byte} {k lo n : Nat} : beField (b.drop k) lo n = beField b (k + lo) n := by
  rw [beField, beField, List.drop_drop]

/-- A UDP datagram without a checksum in a whole IPv4 packet to our address. -/
theorem takeIpv4_udp {s : State} {mac b : List Byte} (hmin : 28 ≤ b.length) (hver : beField b 0 1 = 0x45) (htotal : beField b 2 2 = b.length)
    (hsum : inetSum (b.take 20) = 0) (hdst : beField b 16 4 = s.ourV4) (hfrag : beField b 6 2 % 0x4000 = 0) (hproto : beField b 9 1 = 17)
    (hlen : beField b 24 2 = b.length - 20) (hnosum : beField b 26 2 = 0) :
    takeIpv4 mac b s = if beField b 22 2 ≠ 47131 then discardFrame s
      else takeHeaded { transport := .udp, addr := beField b 12 4, port := beField b 20 2, session := none } (b.drop 28) s := by
  have hgood : ¬ (b.length < 20 ∨ beField b 0 1 / 16 ≠ 4 ∨ 4 * (beField b 0 1 % 16) < 20 ∨ beField b 2 2 < 4 * (beField b 0 1 % 16) ∨ beField b 2 2 > b.length
      ∨ inetSum (b.take (4 * (beField b 0 1 % 16))) ≠ 0 ∨ beField b 16 4 ≠ s.ourV4) := by
    rw [hver, htotal]
    simp [hsum, hdst]; omega
  have hwhole : (b.take (beField b 2 2)).drop (4 * (beField b 0 1 % 16)) = b.drop 20 := by rw [htotal, hver, List.take_length]
  have hudp : takeUdp (beField b 12 4) (b.drop 20) s = if beField b 22 2 ≠ 47131 then discardFrame s
      else takeHeaded { transport := .udp, addr := beField b 12 4, port := beField b 20 2, session := none } (b.drop 28) s := by
    have hfits : ¬ ((b.drop 20).length < 8 ∨ beField (b.drop 20) 4 2 < 8 ∨ beField (b.drop 20) 4 2 > (b.drop 20).length) := by
      rw [beField_drop, hlen, List.length_drop]; omega
    have hdata : ((b.drop 20).take (beField (b.drop 20) 4 2)).drop 8 = b.drop 28 := by
      rw [beField_drop, hlen, List.take_of_length_le (by rw [List.length_drop]), List.drop_drop]
    rw [takeUdp, if_neg hfits, hdata, beField_drop, beField_drop]
  rw [takeIpv4, if_neg hgood, if_neg (not_not_intro hfrag)]
  dsimp only
  rw [hwhole, hproto]
  refine (if_pos (.inl ?_)).trans hudp
  rw [beField_drop]; exact hnosum

/-! ### O52 -/

/-- Settles O52: a KSL frame is a case of its checks, a management frame one of its EtherType and of the IPv4 packet it carries; what the message in a
frame then asks for is what a fragment of that client asks for. -/
theorem managementLanes : Obligations.ManagementLanes := by
  unfold Obligations.ManagementLanes
  intro s
  refine ⟨fun addr len msg crc h => ksl_not_mine h, fun addr hmine => ⟨fun len msg crc hbad => kslWriteFrame_broken hmine hbad,
    fun msg hlen hreheat htest => kslWriteFrame_reheat hmine hlen hreheat htest,
    fun msg _ hlen hreheat htest hroom => kslWriteFrame_taken hmine hlen hreheat htest hroom,
    fun hnone => kslReadFrame_empty hmine hnone, fun e rest hq hreheat => kslReadFrame_head hmine hq hreheat⟩,
    fun frame h => mgmtFrame_untaken h, fun hlink hup => ⟨?_, ?_, ?_, ?_⟩⟩
  · exact fun frame hmax hmin hmac hgroup => mgmtFrame_elsewhere hlink hup hmax hmin hmac hgroup
  · intro rest hrest mac hmac
    refine ⟨discardFrame s, ?_, discardFrame_counts s⟩
    rw [List.append_assoc, List.append_assoc]
    exact exec_mgmtFrame_typed hlink hup (.inl rfl) hmac (by omega)
  · intro dst mac target ip hdst hmac htarget hip hours
    refine ⟨_, ?_, rfl⟩
    have hb : (beBytes 8 0x0001080006040001 ++ (mac ++ (beBytes 4 ip ++ (target ++ beBytes 4 s.ourV4)))).length ≤ 1500 := by
      simp [length_beBytes, hmac, htarget]
    have hexec := exec_mgmtFrame_typed (x := 0x08) (y := 0x06) (s := s) hlink hup hdst hmac hb
    rw [takeArp_request hmac htarget hours, show beNat [0x08, 0x06] = 0x0806 by decide] at hexec
    simpa only [List.append_assoc, emit] using hexec
  · intro mac b hmac hmin hmax hver htotal hsum hdst hfrag hproto hlen hnosum
    have hexec : exec (.mgmtFrame (ourMac ++ mac ++ [0x08, 0x00] ++ b)) s = .next (takeIpv4 mac b s) := by
      rw [List.append_assoc, List.append_assoc]
      exact exec_mgmtFrame_typed hlink hup (.inl rfl) hmac hmax
    rw [takeIpv4_udp hmin hver htotal hsum hdst hfrag hproto hlen hnosum] at hexec
    refine ⟨fun hport t ht => ?_, fun hport => ⟨_, hexec.trans (congrArg _ (if_pos hport)), discardFrame_counts s⟩⟩
    rw [hexec, if_neg (not_not_intro hport), ← ht, exec, execKodpFragment]
    rw [hup]; rfl

end Sys2Proof.Machine
end

section
/-!
PROOF. What taking an operation, refusing it and answering it leave alike: the parts no message touches, the counters that count no messages, and the
KODP part but its queues (R651, R664 to R671).  Proofs about the effect of an operation go through this relation and open no message.
-/
namespace Sys2Proof.Machine

/-- The KODP part without what taking and answering an operation may change. -/
def KodpState.settled (k : KodpState) : KodpState :=
  { k with running := [], cache := [], queue := [], kslTx := [], peerNext := 0, peerWait := [], heardAt := [] }

/-- The parts that taking, refusing and answering an operation may change. -/
def handledParts : List Part := [.ledger, .mirror, .leaves, .sessions, .kodp, .running, .ctrs, .out]

/-- The sessions without the numbers of the messages they have sent, which is what a message in a session changes (R660). -/
def State.sessionsHeld (s : State) : List (Nat × Session) := s.sec.sessions.map (fun e => (e.1, { e.2 with sent := 0 }))

/-- Nothing but an operation's messages has changed the state. -/
structure Handled (s t : State) : Prop where
  frame : Frame handledParts s t
  sessions : t.sessionsHeld = s.sessionsHeld
  ctr : ∀ c, c ∉ messageCtrs → ∀ u, t.ctr c u = s.ctr c u
  kodp : t.kodp.settled = s.kodp.settled

theorem Handled.refl (s : State) : Handled s s := ⟨Frame.refl _ s, rfl, fun _ _ _ => rfl, rfl⟩

theorem Handled.trans {s t u : State} (h : Handled s t) (g : Handled t u) : Handled s u :=
  ⟨h.frame.trans g.frame, g.sessions.trans h.sessions, fun c hc v => (g.ctr c hc v).trans (h.ctr c hc v), g.kodp.trans h.kodp⟩

/-- A change of the operations that run, or of those that wait. -/
theorem handled_onKodp {f : KodpState → KodpState} (hrest : ∀ k, (f k).settled = k.settled) (s : State) : Handled s (s.onKodp f) := by
  refine ⟨?_, rfl, fun _ _ _ => rfl, hrest s.kodp⟩
  have hdict : ∀ k : KodpState, ((f k).objs, (f k).tables, (f k).tableGen, (f k).tableSeen, (f k).settingsA, (f k).settingsB)
      = (k.objs, k.tables, k.tableGen, k.tableSeen, k.settingsA, k.settingsB) := fun k =>
    (congrArg (fun k : KodpState => (k.objs, k.tables, k.tableGen, k.tableSeen, k.settingsA, k.settingsB)) (hrest k) :)
  exact frame_onKodp handledParts (by decide) (.inl rfl) (.inr hdict) (.inl rfl) (Frame.refl _ s)

/-- A frame without sessions leaves them. -/
theorem sessionsHeld_of_frame {P : List Part} {s t : State} (h : Frame P s t) (hp : P.contains .sessions = false) : t.sessionsHeld = s.sessionsHeld := by
  unfold State.sessionsHeld
  rw [h.sessions_eq hp]

/-- Replacing an entry by one that a function does not tell from it. -/
theorem map_aset_same {K V W : Type} [DecidableEq K] {l : Assoc K V} {k : K} {n m : V} {g : K × V → W} (h : aget l k = some n) (hg : g (k, m) = g (k, n)) :
    (aset l k m).map g = l.map g := by
  induction l with
  | nil => cases h
  | cons e rest ih =>
    obtain ⟨j, v⟩ := e
    by_cases hj : j = k
    · subst hj
      have hv : v = n := Option.some.inj (Eq.trans (by simp [aget]) h)
      simp [aset, hg, hv]
    · have hrest : aget rest k = some n := Eq.trans (by simp [aget, hj]) h
      simp only [aset, hj, if_false, List.map_cons, ih hrest]

theorem secureMsg_sessionsHeld (c : Client) (m : KMsg) (s : State) : (secureMsg c m s).1.sessionsHeld = s.sessionsHeld := by
  unfold secureMsg
  split
  · rfl
  next k n hsession =>
    obtain ⟨j, -, hj⟩ := Option.bind_eq_some_iff.1 hsession
    obtain ⟨x, hx, hkn⟩ := Option.map_eq_some_iff.1 hj
    obtain ⟨rfl, rfl⟩ := Prod.mk.inj hkn
    exact map_aset_same hx rfl

theorem sendMsg_sessionsHeld (c : Client) (tag : Nat) (b : Bool) (m : KMsg) (s : State) : (sendMsg c tag b m s).sessionsHeld = s.sessionsHeld := by
  unfold sendMsg
  split
  next t w hsecure =>
  have ht : t.sessionsHeld = s.sessionsHeld := by
    have := secureMsg_sessionsHeld c m s
    rwa [hsecure] at this
  extract_lets own tag1 v
  have hv : v.sessionsHeld = t.sessionsHeld :=
    sessionsHeld_of_frame (P := [.ledger]) (frame_onlyIf (fun w hw => frame_tookTag (by decide) hw) (Frame.refl _ t)) rfl
  clear_value own tag1 v
  split
  · exact hv.trans ht
  · exact (sessionsHeld_of_frame (P := [.kodp, .ctrs, .out]) (frame_emit (by decide) (frame_kslPush (by decide) (Frame.refl _ v))) rfl).trans (hv.trans ht)
  · refine Eq.trans (sessionsHeld_of_frame (P := [.leaves, .ledger, .out]) (frame_emit (by decide) (frame_forAll (fun p w hw => ?_) (Frame.refl _ v))) rfl)
      (hv.trans ht)
    split
    · exact frame_sendTw (by decide) hw
    · exact frame_sendPacket (by decide) hw

theorem heard_handled (r : Req) (s : State) : Handled s (heard r s) := by
  refine ⟨frame_heard (by decide) (Frame.refl _ s), ?_, fun c hc u => heard_ctr hc u r s, ?_⟩
  · exact sessionsHeld_of_frame (P := [.kodp, .ctrs]) (frame_heard (by decide) (Frame.refl _ s)) rfl
  unfold heard
  split <;> rfl

theorem settled_of_unsent {k l : KodpState} (h : k.unsent = l.unsent) : k.settled = l.settled :=
  (congrArg (fun k : KodpState => { k with running := [], cache := [], queue := [], peerNext := 0, peerWait := [], heardAt := [] }) h :)

theorem sendReply_handled (r : Req) (crc : Nat) (m : KMsg) (s : State) : Handled s (sendReply r crc m s) := by
  refine ⟨frame_sendReply (by decide) (Frame.refl _ s), ?_, fun c hc u => sendReply_ctr hc u r crc m s, ?_⟩
  · unfold sendReply
    refine (sendMsg_sessionsHeld ..).trans (sessionsHeld_of_frame (P := [.ledger, .mirror, .leaves, .kodp, .ctrs]) (frame_bump (by decide) (frame_unqueue (by decide)
      (frame_onKodp [.kodp] (by decide) (.inr fun _ => rfl) (.inr fun _ => rfl) (.inl rfl) ?_))) rfl)
    split
    · exact frame_onlyIf (fun t ht => frame_ledgerWrite (by decide) ht) (Frame.refl _ _)
    · exact Frame.refl _ _
  unfold sendReply
  extract_lets u w
  have hu : u.kodp = s.kodp := by
    unfold u
    split
    · exact Frame.kodp_eq (P := [.ledger, .mirror, .leaves, .ctrs]) (frame_onlyIf (fun t ht => frame_ledgerWrite (by decide) ht) (Frame.refl _ _)) rfl rfl rfl
    · rfl
  rw [settled_of_unsent (sendMsg_unsent ..), ← hu]
  rfl

theorem mirrorOp_handled (o : OpObj) (arg : List Byte) (s : State) : Handled s (mirrorOp o arg s) := by
  refine ⟨frame_mirrorOp (by decide) (Frame.refl _ s), ?_, fun c hc u => ?_, ?_⟩
  · unfold mirrorOp
    exact (sendMsg_sessionsHeld ..).trans rfl
  · unfold mirrorOp
    exact (sendMsg_ctr hc ..).trans rfl
  · unfold mirrorOp
    exact (settled_of_unsent (sendMsg_unsent ..)).trans rfl

theorem unqueue_handled (r : Req) (s : State) : Handled s (unqueue r s) :=
  handled_onKodp (f := fun k => { k with queue := k.queue.filter (fun e => !(e.1.client == r.client && e.1.id == r.id)) }) (fun _ => rfl) s

theorem refuse_handled (o : OpObj) (r : Req) (crc : Nat) (st : Status) (body : List Byte) (s : State) : Handled s (refuse o r crc st body (heard r s)) :=
  (heard_handled r s).trans (sendReply_handled ..)

theorem begun_handled (o : OpObj) (r : Req) (arg : List Byte) (n : Nat) (s : State) : Handled s (begun o r arg n s) :=
  (heard_handled r s).trans ((handled_onKodp (f := fun k => { k with running := k.running ++ [runningOf o r arg n] }) (fun _ => rfl) _).trans
    (unqueue_handled r _))

/-- The operation that an accepted request runs as is the only one of its client and REQ_ID, and is not timed out. -/
theorem find_running_begun {o : OpObj} {r : Req} {arg : List Byte} {n : Nat} {s : State} (h : s.accepts o r n arg = true) :
    (begun o r arg n s).kodp.running.find? (fun x => x.req == r && x.index == o.index && x.sub == o.sub) = some (runningOf o r arg n) := by
  rw [begun_running, List.find?_append]
  have hnone : s.kodp.running.find? (fun x => x.req == r && x.index == o.index && x.sub == o.sub) = none := by
    refine List.find?_eq_none.2 fun x hx hmine => accepts_no_running h x hx ?_
    simp only [Bool.and_eq_true, beq_iff_eq] at hmine
    obtain ⟨⟨hreq, -⟩, -⟩ := hmine
    exact ⟨by rw [hreq], by rw [hreq]⟩
  rw [hnone, Option.none_or]
  simp [runningOf]

/-- The answer of an operation that has not timed out. -/
theorem reply_handled {o : OpObj} {r : Req} {st : Status} {body : List Byte} {u : State} {x : Running} (htimely : x.timedOut = false)
    (hmine : u.kodp.running.find? (fun x => x.req == r && x.index == o.index && x.sub == o.sub) = some x) : Handled u (reply o r st body u) := by
  unfold reply
  extract_lets mine t m n
  rw [show u.kodp.running.find? mine = some x from hmine]
  dsimp only
  rw [htimely, if_neg Bool.false_ne_true]
  have ht : Handled u t := handled_onKodp (f := fun k => { k with running := k.running.filter (fun x => !mine x) }) (fun _ => rfl) u
  generalize hcopied : (st == .ok && t.mirrorsOps && x.peerArg.isSome) = copied
  have hsent : Handled u (onlyIf copied (mirrorOp o (x.peerArg.getD [])) t) := by
    cases copied
    · exact ht
    · exact ht.trans (mirrorOp_handled ..)
  split
  · exact hsent.trans (handled_onKodp (f := fun k => { k with peerWait := k.peerWait ++ [(n, r, x.crc, m)] }) (fun _ => rfl) _)
  · exact hsent.trans (sendReply_handled ..)

section
variable {c : Instr} {s : State} {o : OpObj} {r : Req} {n : Nat} {arg : List Byte} {v : Verdict} {run : State → State} {q : State → Prop}

/-- A command that is an operation whose run has an effect and then answers: the effect is that of the run on a state in which nothing but messages
has changed, and nothing but messages changes after. -/
theorem replies_handled {st : Status} {body : List Byte} (eff : State → State) (hexec : exec c s = .next (operate o r arg n v run s)) (hbad : v.bad = false)
    (hfenced : v.fenced = false) (hstate : v.state = false) (hother : v.other = none) (hrun : ∀ b, Handled s b → run b = reply o r st body (eff b))
    (hkept : ∀ b, Handled s b → (eff b).kodp.running = b.kodp.running) (hq : ∀ b t, Handled s b → Handled (eff b) t → q t) :
    Replies c s o r n arg st body q := by
  intro hacc
  have hb := begun_handled o r arg n s
  refine replies_of_operate hexec hbad hfenced hstate hother (hrun _ hb) (hkept _ hb) (hq _ _ hb (reply_handled (x := runningOf o r arg n) rfl ?_)) hacc
  rw [hkept _ hb]
  exact find_running_begun hacc

/-- The same where the answer is OK and carries nothing. -/
theorem replies_effect {eff : State → State} (hexec : exec c s = .next (operateOk o r arg n v eff s)) (hbad : v.bad = false) (hfenced : v.fenced = false)
    (hstate : v.state = false) (hother : v.other = none) (hkept : ∀ b, Handled s b → (eff b).kodp.running = b.kodp.running)
    (hq : ∀ b t, Handled s b → Handled (eff b) t → q t) : Replies c s o r n arg .ok [] q :=
  replies_handled eff hexec hbad hfenced hstate hother (fun _ _ => rfl) hkept hq

theorem refused_bad (hexec : exec c s = .next (operate o r arg n v run s)) (hbad : v.bad = true) (hbody : v.body = []) (hq : ∀ t, Handled s t → q t) :
    Replies c s o r n arg .unsupported [] q :=
  hbody ▸ replies_unsupported hexec hbad fun t crc ht => hq t (ht ▸ refuse_handled ..)

theorem refused_fenced (hexec : exec c s = .next (operate o r arg n v run s)) (hbad : v.bad = false) (hfenced : v.fenced = true) (hq : ∀ t, Handled s t → q t) :
    Replies c s o r n arg .fenced [] q :=
  replies_fenced hexec hbad hfenced fun t crc ht => hq t (ht ▸ refuse_handled ..)

theorem refused_state (hexec : exec c s = .next (operate o r arg n v run s)) (hbad : v.bad = false) (hfenced : v.fenced = false) (hstate : v.state = true)
    (hq : ∀ t, Handled s t → q t) : Replies c s o r n arg .refusedState [] q :=
  replies_refusedState hexec hbad hfenced hstate fun t crc ht => hq t (ht ▸ refuse_handled ..)

theorem refused_other {st : Status} (hexec : exec c s = .next (operate o r arg n v run s)) (hbad : v.bad = false) (hfenced : v.fenced = false)
    (hstate : v.state = false) (hother : v.other = some st) (hst : (st == .retry) = false) (hbody : v.body = []) (hq : ∀ t, Handled s t → q t) :
    Replies c s o r n arg st [] q :=
  hbody ▸ replies_other hexec hbad hfenced hstate hother hst fun t crc ht => hq t (ht ▸ refuse_handled ..)

end

end Sys2Proof.Machine
end

section
/-!
PROOF. What a notification and a recovery timeout leave of the counters, the notification log and the reply cache (R645, R676 to R679).
-/
namespace Sys2Proof.Machine

/-- The counters that raising a notification may change. -/
def noticeCtrs : List Ctr := [.kNotifySent, .kNotifyDropped, .notifyDrops] ++ messageCtrs

theorem ctr_bumpBy_ne {c d : Ctr} (h : c ≠ d) (u v n : Nat) (s : State) : (bumpBy d v n s).ctr c u = s.ctr c u := by
  rw [ctr_bumpBy, if_neg fun heq => h (congrArg Prod.fst heq)]

theorem ctr_of_ctrs {s t : State} (h : t.ctrs = s.ctrs) (c : Ctr) (u : Nat) : t.ctr c u = s.ctr c u := by
  unfold State.ctr
  rw [h]

theorem message_of_notice {c : Ctr} (h : c ∉ noticeCtrs) : c ∉ messageCtrs := fun hm => h (List.mem_append_right _ hm)

theorem sendNotify_ctr {c : Ctr} (hc : c ∉ noticeCtrs) (u : Nat) (k : Client) (recs : List NotifyRec) (s : State) :
    (sendNotify k recs s).ctr c u = s.ctr c u := by
  unfold sendNotify
  exact (sendMsg_ctr (message_of_notice hc) ..).trans (ctr_bumpBy_ne (ne_of_not_mem hc (by decide)) ..)

theorem drainSubs_ctr {c : Ctr} (hc : c ∉ noticeCtrs) (u : Nat) (s : State) : (drainSubs s).ctr c u = s.ctr c u := by
  unfold drainSubs
  extract_lets clear
  have hclear : clear.ctr c u = s.ctr c u := by simp only [clear, State.ctr, State.onKodp_ctrs]
  clear_value clear
  refine (forAll_keeps (g := fun t => t.ctr c u) (fun b t => ?_) _ clear).trans hclear
  extract_lets lost recs
  have hlost : (bumpBy .kNotifyDropped (transportNum b.client.transport) b.lost t).ctr c u = t.ctr c u :=
    ctr_bumpBy_ne (ne_of_not_mem hc (by decide)) ..
  generalize bumpBy .kNotifyDropped (transportNum b.client.transport) b.lost t = v at hlost ⊢
  exact (forAll_keeps (g := fun t => t.ctr c u) (fun i w => sendNotify_ctr hc ..) _ v).trans hlost

theorem deliver_ctr {c : Ctr} (hc : c ∉ noticeCtrs) (u : Nat) (n : NotifyRec) (only : Option Client) (s : State) :
    (deliver n only s).ctr c u = s.ctr c u := by
  have hkodp : ∀ (f : KodpState → KodpState) (t : State), (t.onKodp f).ctr c u = t.ctr c u := fun _ _ => rfl
  unfold deliver
  extract_lets t
  have ht : t.ctr c u = s.ctr c u := hkodp ..
  clear_value t
  cases only with
  | none => exact (hkodp ..).trans ht
  | some k => exact (sendNotify_ctr hc ..).trans ht

theorem notifyTo_ctr {c : Ctr} (hc : c ∉ noticeCtrs) (u : Nat) (only : Option Client) (code : Nat) (payload : List Byte) (s : State) :
    (notifyTo only code payload s).ctr c u = s.ctr c u := by
  unfold notifyTo
  extract_lets n t
  split
  · split
    · exact ctr_of_ctrs rfl c u
    · exact (ctr_bump_ne (ne_of_not_mem hc (by decide)) ..).trans (ctr_of_ctrs rfl c u)
  · exact (drainSubs_ctr hc ..).trans ((deliver_ctr hc ..).trans (ctr_of_ctrs rfl c u))

/-- A notification changes no counter but those of messages and notifications. -/
theorem notify_ctr {c : Ctr} (hc : c ∉ noticeCtrs) (u code : Nat) (payload : List Byte) (s : State) : (notify code payload s).ctr c u = s.ctr c u :=
  notifyTo_ctr hc ..

theorem notifyLimited_ctr {c : Ctr} (hc : c ∉ noticeCtrs) (u code unit period : Nat) (payload : Nat → List Byte) (s : State) :
    (notifyLimited code unit period payload s).ctr c u = s.ctr c u := by
  unfold notifyLimited
  extract_lets sup due
  split
  · exact notify_ctr hc ..
  · rfl

/-- The state in which a recovery timeout raises its notification. -/
theorem timeoutFired_ctr {c : Ctr} (hc : c ∉ noticeCtrs) (u row kind v arg : Nat) (s : State) : (timeoutFired row kind v arg s).ctr c u
    = (bump .timeoutExpiries (row * 2 ^ 20 + kind * 2 ^ 16 + v) s).ctr c u := by
  unfold timeoutFired
  rw [notifyLimited_ctr hc]
  have hrings : (freezeRings kind v (crumb kind v 6 (row + arg * 2 ^ 64) s)).ctr c u = s.ctr c u :=
    Frame.ctr_eq (P := [.rings]) (frame_freezeRings (by decide) (frame_crumb (by decide) (Frame.refl _ s))) rfl c u
  show (bump .timeoutExpiries _ _).ctr c u = _
  rw [bump, ctr_bumpBy, bump, ctr_bumpBy, hrings]
  have hsame : (freezeRings kind v (crumb kind v 6 (row + arg * 2 ^ 64) s)).ctr .timeoutExpiries = s.ctr .timeoutExpiries := by
    funext w
    exact Frame.ctr_eq (P := [.rings]) (frame_freezeRings (by decide) (frame_crumb (by decide) (Frame.refl _ s))) rfl _ w
  rw [hsame]

/-- A recovery timeout counts under its row, kind and unit. -/
theorem timeoutFired_counts (row kind v arg : Nat) (s : State) :
    Counts .timeoutExpiries (row * 2 ^ 20 + kind * 2 ^ 16 + v) 1 s (timeoutFired row kind v arg s) :=
  (timeoutFired_ctr (by decide) ..).trans (ctr_bumpBy_same ..)

/-! ### The log and the reply cache -/

theorem log_of_unsent {k l : KodpState} (h : k.unsent = l.unsent) : k.log = l.log := (congrArg KodpState.log h :)

theorem sendNotify_log (k : Client) (recs : List NotifyRec) (s : State) : (sendNotify k recs s).kodp.log = s.kodp.log := by
  unfold sendNotify
  exact (log_of_unsent (sendMsg_unsent ..)).trans rfl

theorem drainSubs_log (s : State) : (drainSubs s).kodp.log = s.kodp.log := by
  unfold drainSubs
  refine (forAll_keeps (g := fun s => s.kodp.log) (fun b s => ?_) _ _).trans rfl
  exact (forAll_keeps (g := fun s => s.kodp.log) (fun i s => sendNotify_log ..) _ _).trans rfl

/-- A notification that Baker raises is the newest of the log. -/
theorem notifyTo_log {only : Option Client} {code : Nat} {payload : List Byte} {s : State} (hreheat : s.obs.reheat.contains 0 = false) :
    (notifyTo only code payload s).kodp.log.getLast? = some
      ({ seq := s.kodp.nextSeq, time := s.now, code := code, unlocked := !s.obs.time0.isLocked, payload := payload.take 64 }, only) := by
  unfold notifyTo
  extract_lets n t
  have ht : t.obs.reheat.contains 0 = false := hreheat
  rw [ht, if_neg Bool.false_ne_true, drainSubs_log]
  have hlog (l : List (NotifyRec × Option Client)) : ((l ++ [(n, only)]).drop (l.length + 1 - 4096)).getLast? = some (n, only) := by
    rw [List.getLast?_drop]; simp
  unfold deliver
  cases only with
  | none =>
    simp only [State.onKodp_kodp]
    exact hlog _
  | some k =>
    simp only [sendNotify_log, State.onKodp_kodp]
    exact hlog _

theorem cache_of_unnoted {k l : KodpState} (h : k.unnoted = l.unnoted) : k.cache = l.cache := (congrArg KodpState.cache h :)

theorem notifyLimited_cache (code unit period : Nat) (payload : Nat → List Byte) (s : State) :
    (notifyLimited code unit period payload s).kodp.cache = s.kodp.cache := by
  unfold notifyLimited
  extract_lets sup due
  split
  · exact (cache_of_unnoted (notify_unnoted ..)).trans rfl
  · rfl

theorem timeoutFired_cache (row kind u arg : Nat) (s : State) : (timeoutFired row kind u arg s).kodp.cache = s.kodp.cache := by
  unfold timeoutFired
  have hrings : Frame [.rings] s (freezeRings kind u (crumb kind u 6 (row + arg * 2 ^ 64) s)) :=
    frame_freezeRings (by decide) (frame_crumb (by decide) (Frame.refl _ s))
  refine (notifyLimited_cache ..).trans ?_
  simp only [State.onObs_kodp, bump, bumpBy, State.onCtrs_kodp, hrings.kodp_eq rfl rfl rfl]

end Sys2Proof.Machine
end

section
/-!
PROOF. Subscriptions, leases, the reply cache and operations that take too long (R652, R669, R670, R677).
-/
namespace Sys2Proof.Machine

/-! ### Subscriptions in their list (R677) -/

theorem subOf_client {s : State} {c : Client} {b : Sub} (h : s.subOf c = some b) : b.client = c := beq_iff_eq.1 (List.find?_some h :)

/-- Taking a client's subscription out leaves the others'. -/
theorem find_sub_filter (l : List Sub) {c d : Client} (hd : d ≠ c) :
    (l.filter (fun b => b.client != c)).find? (fun b => b.client == d) = l.find? (fun b => b.client == d) := by
  rw [List.find?_filter]
  refine List.find?_congr fun b _ => ?_
  by_cases h : b.client = d
  · simp [h, hd]
  · simp [h]

theorem find_sub_filter_same (l : List Sub) (c : Client) : (l.filter (fun b => b.client != c)).find? (fun b => b.client == c) = none := by
  rw [List.find?_filter]
  exact List.find?_eq_none.2 fun b _ => by simp

/-- Putting a subscription in place of its client's. -/
theorem find_sub_map (l : List Sub) (b : Sub) (d : Client) :
    (l.map (fun x => if x.client = b.client then b else x)).find? (fun x => x.client == d)
      = (l.find? (fun x => x.client == d)).map (fun x => if x.client = b.client then b else x) := by
  rw [List.find?_map]
  congr 1
  refine List.find?_congr fun x _ => ?_
  simp only [Function.comp_apply]
  split
  next h => rw [h]
  next => rfl

theorem subOf_putSub_same (b : Sub) (s : State) : (putSub b s).subOf b.client = if b.codes.isEmpty && !b.all then none else some b := by
  unfold State.subOf putSub
  simp only [State.onKodp_kodp]
  split
  · exact find_sub_filter_same ..
  · split
    next hany =>
      rw [find_sub_map]
      obtain ⟨x, hx, hxb⟩ := List.any_eq_true.1 hany
      cases hf : s.kodp.subs.find? (fun x => x.client == b.client) with
      | none => exact absurd hxb (List.find?_eq_none.1 hf x hx)
      | some y => exact congrArg some (if_pos (subOf_client hf))
    next hany =>
      rw [List.find?_append, List.find?_eq_none.2 fun x hx hxb => hany (List.any_eq_true.2 ⟨x, hx, hxb⟩)]
      simp

theorem subOf_putSub_ne (b : Sub) (s : State) {d : Client} (hd : d ≠ b.client) : (putSub b s).subOf d = s.subOf d := by
  unfold State.subOf putSub
  simp only [State.onKodp_kodp]
  split
  · exact find_sub_filter _ hd
  · split
    · rw [find_sub_map]
      cases hf : s.kodp.subs.find? (fun x => x.client == d) with
      | none => rfl
      | some y => exact congrArg some (if_neg fun h => hd ((subOf_client hf).symm.trans h))
    · rw [List.find?_append]
      simp [hd.symm]

theorem putSub_running (b : Sub) (s : State) : (putSub b s).kodp.running = s.kodp.running := rfl

theorem Handled.subs {s t : State} (h : Handled s t) : t.kodp.subs = s.kodp.subs := (congrArg KodpState.subs h.kodp :)

theorem Handled.subOf {s t : State} (h : Handled s t) (c : Client) : t.subOf c = s.subOf c := by
  unfold State.subOf
  rw [h.subs]

section
variable {s : State} {r : Req} {codes : List Nat}

/-- The codes of a request of which one is undefined, or none. -/
theorem codes_bad (codes : List Nat) : (codes.any (fun c => c != codeAll && !allCodes.contains c)) = true ↔ ∃ x ∈ codes, x ≠ codeAll ∧ x ∉ allCodes := by
  simp

theorem codes_good {codes : List Nat} (h : ∀ x ∈ codes, x = codeAll ∨ x ∈ allCodes) : (codes.any (fun c => c != codeAll && !allCodes.contains c)) = false := by
  refine Bool.eq_false_iff.2 fun hbad => ?_
  obtain ⟨x, hx, hne, hno⟩ := (codes_bad codes).1 hbad
  exact (h x hx).elim hne hno

/-- The subscription a client has, or an empty one. -/
def heldSub (s : State) (r : Req) : Sub :=
  (s.subOf r.client).getD { client := r.client, codes := [], all := false, roles := s.rolesOf r.client, queue := [], lost := 0, lostSeq := 0, lostAt := 0 }

theorem heldSub_client (s : State) (r : Req) : (heldSub s r).client = r.client := by
  unfold heldSub
  cases h : s.subOf r.client with
  | none => rfl
  | some b => exact subOf_client h

/-- The subscription that SUBSCRIBE leaves (R677). -/
def grantedSub (s : State) (r : Req) (codes : List Nat) : Sub :=
  let granted := codes.filter (fun c => c == codeAll || mayReceive (s.rolesOf r.client) c)
  { heldSub s r with roles := s.rolesOf r.client, all := (heldSub s r).all || granted.contains codeAll
                     codes := ((heldSub s r).codes ++ granted.filter (fun c => c != codeAll)).eraseDups }

theorem grantedSub_codes {x : Nat} (hx : x ∈ codes.filter (fun c => c == codeAll || mayReceive (s.rolesOf r.client) c)) (hne : x ≠ codeAll) :
    x ∈ (grantedSub s r codes).codes :=
  List.mem_eraseDups.2 (List.mem_append_right _ (List.mem_filter.2 ⟨hx, by simpa using hne⟩))

theorem grantedSub_kept (h : codes.filter (fun c => c == codeAll || mayReceive (s.rolesOf r.client) c) ≠ []) :
    ((grantedSub s r codes).codes.isEmpty && !(grantedSub s r codes).all) = false := by
  obtain ⟨x, hx⟩ := List.exists_mem_of_ne_nil _ h
  by_cases hall : x = codeAll
  · have hcontains : (codes.filter (fun c => c == codeAll || mayReceive (s.rolesOf r.client) c)).contains codeAll = true := List.contains_iff_mem.2 (hall ▸ hx)
    have : (grantedSub s r codes).all = true := by
      show ((heldSub s r).all || _) = true
      rw [hcontains, Bool.or_true]
    rw [this, Bool.not_true, Bool.and_false]
  · have hmem := grantedSub_codes hx hall
    rw [List.isEmpty_eq_false_iff.2 (List.ne_nil_of_mem hmem), Bool.false_and]

/-- Whether SUBSCRIBE is refused (R677). -/
def subscribeVerdict (r : Req) (codes : List Nat) (s : State) : Verdict :=
  { Verdict.ok with bad := codes.any (fun c => c != codeAll && !allCodes.contains c)
                    other := if (s.subOf r.client).isNone && decide (s.kodp.subs.length ≥ 64) then some .noSpace else none }

theorem exec_subscribe (r : Req) (codes : List Nat) (s : State) : exec (.subscribe r codes) s
    = .next (operate (subObj 7) r (codesBytes codes) 0 (subscribeVerdict r codes s) (fun b => reply (subObj 7) r .ok
        (codesBytes (codes.filter (fun c => c == codeAll || mayReceive (s.rolesOf r.client) c))) (putSub (grantedSub s r codes) b)) s) := rfl

/-- Whether UNSUBSCRIBE is refused. -/
def unsubscribeVerdict (codes : List Nat) : Verdict := { Verdict.ok with bad := codes.any (fun c => c != codeAll && !allCodes.contains c) }

/-- SUBSCRIBE with defined codes and room for the client (R677). -/
theorem subscribe_granted (hcodes : ∀ x ∈ codes, x = codeAll ∨ x ∈ allCodes) (hroom : (∃ b, s.subOf r.client = some b) ∨ s.kodp.subs.length < 64) :
    let granted := codes.filter (fun x => x == codeAll || mayReceive (s.rolesOf r.client) x)
    Replies (.subscribe r codes) s (subObj 7) r 0 (codesBytes codes) .ok (codesBytes granted) (fun t =>
      (granted ≠ [] → ∃ b, t.subOf r.client = some b ∧ b.roles = s.rolesOf r.client ∧ (codeAll ∈ granted → b.all = true) ∧ ∀ x ∈ granted, x ≠ codeAll → x ∈ b.codes)
      ∧ (∀ d, d ≠ r.client → t.subOf d = s.subOf d)) := by
  have hother : (if (s.subOf r.client).isNone && decide (s.kodp.subs.length ≥ 64) then some Status.noSpace else none) = none := by
    refine if_neg ?_
    rw [Bool.and_eq_true, Option.isNone_iff_eq_none, decide_eq_true_eq]
    rintro ⟨hnone, hfull⟩
    rcases hroom with ⟨b, hb⟩ | hroom
    · rw [hnone] at hb; cases hb
    · omega
  refine replies_handled (putSub (grantedSub s r codes)) (exec_subscribe r codes s) (codes_good hcodes) rfl rfl hother (fun b _ => rfl) (fun b _ => rfl) fun b t hb ht => ?_
  have hclient : (grantedSub s r codes).client = r.client := heldSub_client s r
  refine ⟨fun hsome => ⟨grantedSub s r codes, ?_, rfl, fun hall => ?_, fun x hx hne => grantedSub_codes hx hne⟩, fun d hd => ?_⟩
  · rw [ht.subOf, ← hclient, subOf_putSub_same, grantedSub_kept hsome]
    rfl
  · show ((heldSub s r).all || _) = true
    rw [List.contains_iff_mem.2 hall, Bool.or_true]
  · rw [ht.subOf, subOf_putSub_ne _ _ (hclient ▸ hd), hb.subOf]

theorem subscribe_full (hcodes : ∀ x ∈ codes, x = codeAll ∨ x ∈ allCodes) (hnone : s.subOf r.client = none) (hfull : 64 ≤ s.kodp.subs.length) :
    Replies (.subscribe r codes) s (subObj 7) r 0 (codesBytes codes) .noSpace [] (fun t => t.kodp.subs = s.kodp.subs) :=
  have hother : (if (s.subOf r.client).isNone && decide (s.kodp.subs.length ≥ 64) then some Status.noSpace else none) = some .noSpace :=
    if_pos (by rw [hnone]; simpa using hfull)
  refused_other (exec_subscribe r codes s) (codes_good hcodes) rfl rfl hother rfl rfl fun _ ht => ht.subs

/-- What UNSUBSCRIBE does to the client's subscription (R652). -/
def unsubscribed (r : Req) (codes : List Nat) (s : State) : State :=
  match s.subOf r.client with
  | none => s
  | some b => putSub { b with all := false, codes := if codes.isEmpty || codes.contains codeAll then []
                                                     else (if b.all then allCodes.filter (mayReceive b.roles) else b.codes).filter (fun c => !codes.contains c) } s

theorem unsubscribed_running (r : Req) (codes : List Nat) (s : State) : (unsubscribed r codes s).kodp.running = s.kodp.running := by
  unfold unsubscribed
  split <;> rfl

theorem unsubscribed_ne (codes : List Nat) (s : State) {d : Client} (hd : d ≠ r.client) : (unsubscribed r codes s).subOf d = s.subOf d := by
  unfold unsubscribed
  split
  · rfl
  next b hb => exact subOf_putSub_ne _ _ (show d ≠ b.client from subOf_client hb ▸ hd)

/-- What is left of the client's subscription. -/
theorem unsubscribed_same (codes : List Nat) (s : State) : (codes = [] → (unsubscribed r codes s).subOf r.client = none)
    ∧ ∀ b, (unsubscribed r codes s).subOf r.client = some b → b.all = false ∧ ∀ x ∈ codes, x ∉ b.codes := by
  unfold unsubscribed
  split
  next hnone => exact ⟨fun _ => hnone, fun b hb => absurd (hnone.symm.trans hb) nofun⟩
  next b hb =>
    have hclient := subOf_client hb
    rw [← hclient, subOf_putSub_same _ s]
    refine ⟨fun hnil => by rw [hnil]; rfl, fun d hd => ?_⟩
    obtain ⟨-, hd⟩ := Option.ite_none_left_eq_some.1 hd
    obtain rfl := Option.some.inj hd
    refine ⟨rfl, fun x hx hmem => ?_⟩
    dsimp only at hmem
    split at hmem
    · cases hmem
    · obtain ⟨-, hout⟩ := List.mem_filter.1 hmem
      rw [List.contains_iff_mem.2 hx] at hout
      cases hout

theorem exec_unsubscribe (r : Req) (codes : List Nat) (s : State) : exec (.unsubscribe r codes) s
    = .next (operate (subObj 8) r (codesBytes codes) 0 (unsubscribeVerdict codes) (fun b => reply (subObj 8) r .ok [] (unsubscribed r codes b)) s) := rfl

theorem unsubscribe_done (hcodes : ∀ x ∈ codes, x = codeAll ∨ x ∈ allCodes) :
    Replies (.unsubscribe r codes) s (subObj 8) r 0 (codesBytes codes) .ok [] (fun t => (codes = [] → t.subOf r.client = none)
      ∧ (∀ b, t.subOf r.client = some b → b.all = false ∧ ∀ x ∈ codes, x ∉ b.codes) ∧ (∀ d, d ≠ r.client → t.subOf d = s.subOf d)) := by
  refine replies_handled (unsubscribed r codes) (exec_unsubscribe r codes s) (codes_good hcodes) rfl rfl rfl (fun b _ => rfl) (fun b _ => unsubscribed_running r codes b)
    fun b t hb ht => ?_
  obtain ⟨hnone, hsome⟩ := unsubscribed_same (r := r) codes b
  exact ⟨fun hnil => (ht.subOf _).trans (hnone hnil), fun x hx => hsome x ((ht.subOf _).symm.trans hx),
    fun d hd => (ht.subOf d).trans ((unsubscribed_ne codes b hd).trans (hb.subOf d))⟩

/-- A code that is not defined is refused. -/
theorem subscriptions_unsupported {x : Nat} (hx : x ∈ codes) (hne : x ≠ codeAll) (hno : x ∉ allCodes) :
    Replies (.subscribe r codes) s (subObj 7) r 0 (codesBytes codes) .unsupported [] (fun t => t.kodp.subs = s.kodp.subs)
      ∧ Replies (.unsubscribe r codes) s (subObj 8) r 0 (codesBytes codes) .unsupported [] (fun t => t.kodp.subs = s.kodp.subs) :=
  ⟨refused_bad (exec_subscribe r codes s) ((codes_bad codes).2 ⟨x, hx, hne, hno⟩) rfl fun _ ht => ht.subs,
    refused_bad (exec_unsubscribe r codes s) ((codes_bad codes).2 ⟨x, hx, hne, hno⟩) rfl fun _ ht => ht.subs⟩

/-! ### PING (R652, R677) -/

/-- The object a PING stands for. -/
def pingObj : OpObj := { index := 0, sub := 0, type := 10, roles := 0, any := true }

theorem exec_ping (r : Req) (s : State) : exec (.ping r) s
    = .next (operate pingObj r [] 0 Verdict.ok (fun b => reply pingObj r .ok (leBytes 4 (b.obj .clientLease)) b) s) := rfl

theorem begun_heardAt (hqueue : s.kodp.queue = []) (o : OpObj) (arg : List Byte) (n : Nat) :
    (begun o r arg n s).kodp.heardAt = aset s.kodp.heardAt r.client s.now := by
  show (heard r s).kodp.heardAt = _
  unfold heard
  rw [hqueue]
  rfl

theorem reply_heardAt (o : OpObj) (r : Req) (st : Status) (body : List Byte) (s : State) : (reply o r st body s).kodp.heardAt = s.kodp.heardAt :=
  (congrArg KodpState.heardAt (reply_unanswered o r st body s) :)

theorem ping_heard (hqueue : s.kodp.queue = []) : Replies (.ping r) s pingObj r 0 [] .ok (leBytes 4 (s.obj .clientLease))
    (fun t => aget t.kodp.heardAt r.client = some s.now ∧ t.mem = s.mem) := by
  have hobj : (begun pingObj r [] 0 s).obj .clientLease = s.obj .clientLease := (begun_handled ..).frame.obj_eq rfl _
  refine replies_of_operate (u := begun pingObj r [] 0 s) (exec_ping r s) rfl rfl rfl rfl (by rw [hobj]) rfl ⟨?_, ?_⟩
  · rw [reply_heardAt, begun_heardAt hqueue]
    exact aget_aset_same ..
  · exact ((reply_frame ..).mem_eq rfl).trans ((begun_frame ..).mem_eq rfl)

/-! ### Operations that take too long (R669) -/

theorem operationTimeout_answers {x : Running} (hx : s.kodp.running.find? (fun x => x.req == r && !x.timedOut) = some x) :
    Does (.kodpOperationTimeout r) s (fun t => Counts .timeoutExpiries (13 * 2 ^ 20 + 8 * 2 ^ 16) 1 s t ∧ { x with timedOut := true } ∈ t.kodp.running
      ∧ (∃ e ∈ agetD t.kodp.cache r.client [], e.reqId = r.id ∧ e.reply = mkMsg 0x83 r.id x.index x.sub .timeout []) ∧ t.mem = s.mem) := by
  have hexec : ∃ u, exec (.kodpOperationTimeout r) s = .next (timeoutFired 13 8 0 0 (sendReply r x.crc (mkMsg 0x83 r.id x.index x.sub .timeout []) u))
      ∧ u.kodp.running = s.kodp.running.map (fun y => if y = x then { y with timedOut := true } else y) ∧ u.ctrs = s.ctrs ∧ u.mem = s.mem := by
    rw [exec, execKodpOperationTimeout, hx]
    exact ⟨_, rfl, rfl, rfl, rfl⟩
  obtain ⟨u, hexec, hrunning, hctrs, hmem⟩ := hexec
  obtain ⟨hcache, hsent⟩ := sendReply_cache r x.crc (mkMsg 0x83 r.id x.index x.sub .timeout []) u
  have hf := timeoutFired_frame 13 8 0 0 (sendReply r x.crc (mkMsg 0x83 r.id x.index x.sub .timeout []) u)
  refine ⟨_, hexec, ?_, ?_, ⟨{ reqId := r.id, crc := x.crc, reply := mkMsg 0x83 r.id x.index x.sub .timeout [] }, ?_, rfl, rfl⟩, ?_⟩
  · have hcount := timeoutFired_counts 13 8 0 0 (sendReply r x.crc (mkMsg 0x83 r.id x.index x.sub .timeout []) u)
    unfold Counts at hcount ⊢
    rw [sendReply_ctr (by decide), ctr_of_ctrs hctrs] at hcount
    exact hcount
  · rw [hf.running_eq rfl, hsent, hrunning]
    exact List.mem_map.2 ⟨x, List.mem_of_find?_eq_some hx, if_pos rfl⟩
  · rw [timeoutFired_cache]
    exact List.mem_of_getLast? hcache
  · rw [hf.mem_eq rfl, (sendReply_handled ..).frame.mem_eq rfl, hmem]

theorem operationTimeout_none (hnone : (s.kodp.running.all fun x => x.req != r || x.timedOut) = true) :
    Does (.kodpOperationTimeout r) s (fun t => t = s) := by
  have hfind : s.kodp.running.find? (fun x => x.req == r && !x.timedOut) = none := by
    refine List.find?_eq_none.2 fun x hx hmine => ?_
    have h := List.all_eq_true.1 hnone x hx
    simp only [Bool.and_eq_true, beq_iff_eq, Bool.not_eq_true', Bool.or_eq_true, bne_iff_ne] at h hmine
    rcases h with h | h
    · exact h hmine.1
    · rw [hmine.2] at h; cases h
  refine ⟨s, ?_, rfl⟩
  rw [exec, execKodpOperationTimeout, hfind]

/-- The end of a command that was answered TIMEOUT. -/
theorem commandDone_notifies {x : Running} {st : Status} (hrunning : s.kodp.running = [x]) (hreq : x.req = r) (hlate : x.timedOut = true)
    (hcopied : (s.mirrorsOps && x.peerArg.isSome) = false) (hreheat : s.obs.reheat.contains 0 = false) :
    Does (.commandDone r st) s (fun t => t.kodp.running = [] ∧ t.mem = s.mem ∧ ∃ n, t.kodp.log.getLast? = some (n, some r.client) ∧ n.code = 2 ∧ n.seq = s.kodp.nextSeq
      ∧ n.payload = leBytes 2 r.id ++ leBytes 2 x.index ++ leBytes 1 x.sub ++ leBytes 1 st.code) := by
  have hfind : s.kodp.running.find? (fun x => x.req == r && x.timedOut) = some x := by rw [hrunning]; simp [hreq, hlate]
  have hmine : s.kodp.running.find? (fun y => y.req == r && y.index == x.index && y.sub == x.sub) = some x := by
    rw [hrunning]; simp [hreq]
  have hexec : ∃ u, exec (.commandDone r st) s
      = .next (notifyTo (some r.client) 2 (leBytes 2 r.id ++ leBytes 2 x.index ++ leBytes 1 x.sub ++ leBytes 1 st.code ++ []) u) ∧ u.obs = s.obs
      ∧ u.kodp.nextSeq = s.kodp.nextSeq ∧ u.kodp.running = s.kodp.running.filter (fun y => !(y.req == r && y.index == x.index && y.sub == x.sub)) ∧ u.mem = s.mem := by
    rw [exec, execCommandDone, hfind]
    dsimp only [reply, cmdObj]
    rw [hmine]
    dsimp only
    rw [hlate, if_pos rfl]
    refine ⟨_, rfl, ?_⟩
    have hnot : (st == .ok && (s.onKodp (fun k => { k with running := k.running.filter (fun y => !(y.req == r && y.index == x.index && y.sub == x.sub)) })).mirrorsOps
        && x.peerArg.isSome) = false := by
      rw [Bool.and_assoc]
      exact (congrArg (st == .ok && ·) hcopied).trans (Bool.and_false _)
    rw [hnot]
    exact ⟨rfl, rfl, rfl, rfl⟩
  obtain ⟨u, hexec, hobs, hseq, hleft, hmem⟩ := hexec
  have hf : Frame [.ledger, .leaves, .sessions, .rings, .kodp, .ctrs, .out] u
      (notifyTo (some r.client) 2 (leBytes 2 r.id ++ leBytes 2 x.index ++ leBytes 1 x.sub ++ leBytes 1 st.code ++ []) u) := frame_notifyTo (by decide) (Frame.refl _ u)
  refine ⟨_, hexec, ?_, ?_, _, notifyTo_log (hobs ▸ hreheat), rfl, hseq, ?_⟩
  · rw [hf.running_eq rfl, hleft, hrunning]
    simp [hreq]
  · rw [hf.mem_eq rfl, hmem]
  · rw [List.append_nil]
    exact List.take_of_length_le (by simp [length_leBytes])

theorem commandDone_none (hnone : (s.kodp.running.all fun x => x.req != r || !x.timedOut) = true) (st : Status) : Does (.commandDone r st) s (fun t => t = s) := by
  have hfind : s.kodp.running.find? (fun x => x.req == r && x.timedOut) = none := by
    refine List.find?_eq_none.2 fun x hx hmine => ?_
    have h := List.all_eq_true.1 hnone x hx
    simp only [Bool.and_eq_true, beq_iff_eq, Bool.not_eq_true', Bool.or_eq_true, bne_iff_ne] at h hmine
    rcases h with h | h
    · exact h hmine.1
    · rw [hmine.2] at h; cases h
  refine ⟨s, ?_, rfl⟩
  rw [exec, execCommandDone, hfind]

/-! ### Leases and the reply cache (R670, R677) -/

theorem clientLeaseExpiry_ends (c : Client) : Does (.clientLeaseExpiry c) s (fun t => t.subOf { c with session := none } = none
    ∧ (∀ d, d ≠ { c with session := none } → t.subOf d = s.subOf d) ∧ Frame [.kodp] s t) :=
  ⟨_, rfl, find_sub_filter_same .., fun _ hd => find_sub_filter _ hd,
    frame_onKodp [.kodp] (by decide) (.inr fun _ => rfl) (.inr fun _ => rfl) (.inl rfl) (Frame.refl _ s)⟩

theorem replyCacheExpiry_drops : Does (.replyCacheExpiry r) s (fun t => (∀ e ∈ agetD t.kodp.cache r.client [], e.reqId ≠ r.id)
    ∧ (∀ e ∈ agetD s.kodp.cache r.client [], e.reqId ≠ r.id → e ∈ agetD t.kodp.cache r.client [])
    ∧ (∀ c, c ≠ r.client → agetD t.kodp.cache c [] = agetD s.kodp.cache c []) ∧ Frame [.kodp] s t) := by
  have hsame : agetD (amod s.kodp.cache r.client [] (fun l => l.filter (fun e => e.reqId != r.id))) r.client []
      = (agetD s.kodp.cache r.client []).filter (fun e => e.reqId != r.id) := agetD_amod_same ..
  refine ⟨_, rfl, fun e he => ?_, fun e he hne => ?_, fun c hc => agetD_amod_ne _ _ _ _ hc,
    frame_onKodp [.kodp] (by decide) (.inr fun _ => rfl) (.inr fun _ => rfl) (.inl rfl) (Frame.refl _ s)⟩
  · have he' : e ∈ (agetD s.kodp.cache r.client []).filter (fun e => e.reqId != r.id) := hsame ▸ he
    exact bne_iff_ne.1 (List.mem_filter.1 he').2
  · exact hsame ▸ List.mem_filter.2 ⟨he, by simpa using hne⟩

end

/-! ### O51 -/

/-- Settles O51: each command is an operation whose effect is on the list of subscriptions, a lookup among the operations that run, or a filter of
the client's cached replies. -/
theorem kodpClients : Obligations.KodpClients := by
  unfold Obligations.KodpClients
  intro s r hqueue
  exact ⟨ping_heard hqueue, fun codes hcodes => ⟨subscribe_granted hcodes, subscribe_full hcodes, unsubscribe_done hcodes⟩,
    fun codes x hx hne hno => subscriptions_unsupported hx hne hno, fun x hx => operationTimeout_answers hx, operationTimeout_none,
    fun x st hrunning hreq hlate hcopied hreheat => commandDone_notifies hrunning hreq hlate hcopied hreheat, commandDone_none, clientLeaseExpiry_ends,
    replyCacheExpiry_drops⟩

end Sys2Proof.Machine
end

section
/-!
PROOF. KODP messages: the fragments they come in, the header that is read back from them, and the request that is started (R651 to R660).
-/
namespace Sys2Proof.Machine

/-! ### Messages read back (R651) -/

/-- The header fields of a message fit the bytes they have. -/
structure MsgFits (m : KMsg) : Prop where
  version : m.version < 256
  type : m.type < 256
  reqId : m.reqId < 65536
  index : m.index < 65536
  sub : m.sub < 256
  status : m.status < 256
  bodyLen : m.bodyLen < 65536
  reserved : m.reserved < 2 ^ 48

theorem take_leBytes_append (n v : Nat) (rest : List Byte) : (leBytes n v ++ rest).take n = leBytes n v := List.take_left' (length_leBytes n v)

theorem drop_leBytes_append (n v k : Nat) (rest : List Byte) : (leBytes n v ++ rest).drop (n + k) = rest.drop k := by
  rw [← List.drop_drop, List.drop_left' (length_leBytes n v)]

/-- The field that stands first. -/
theorem leNat_front {n v : Nat} (h : v < 256 ^ n) (rest : List Byte) : leNat ((leBytes n v ++ rest).take n) = v := by
  rw [take_leBytes_append, leNat_leBytes, Nat.mod_eq_of_lt h]

theorem kmsgBytes_fields (m : KMsg) : kmsgBytes m = leBytes 1 m.version ++ (leBytes 1 m.type ++ (leBytes 2 m.reqId ++ (leBytes 2 m.index ++ (leBytes 1 m.sub
    ++ (leBytes 1 m.status ++ (leBytes 2 m.bodyLen ++ (leBytes 6 m.reserved ++ m.body))))))) := by
  simp only [kmsgBytes, List.append_assoc]

theorem length_kmsgBytes (m : KMsg) : (kmsgBytes m).length = 16 + m.body.length := by
  simp only [kmsgBytes_fields, List.length_append, length_leBytes]
  omega

/-- A message is read back from its bytes. -/
theorem parseMsg_kmsgBytes {m : KMsg} (h : MsgFits m) : parseMsg (kmsgBytes m) = m := by
  obtain ⟨version, type, reqId, index, sub, status, bodyLen, reserved, body⟩ := m
  obtain ⟨hversion, htype, hreqId, hindex, hsub, hstatus, hbodyLen, hreserved⟩ := h
  have h4 {v : Nat} (hv : v < 65536) : v < 256 ^ 2 := hv
  rw [parseMsg, kmsgBytes_fields]
  simp only [KMsg.mk.injEq]
  refine ⟨leNat_front hversion _, ?_, ?_, ?_, ?_, ?_, ?_, ?_, ?_⟩
  · rw [drop_leBytes_append 1 _ 0]; exact leNat_front htype _
  · rw [drop_leBytes_append 1 _ 1, drop_leBytes_append 1 _ 0]; exact leNat_front (h4 hreqId) _
  · rw [drop_leBytes_append 1 _ 3, drop_leBytes_append 1 _ 2, drop_leBytes_append 2 _ 0]; exact leNat_front (h4 hindex) _
  · rw [drop_leBytes_append 1 _ 5, drop_leBytes_append 1 _ 4, drop_leBytes_append 2 _ 2, drop_leBytes_append 2 _ 0]; exact leNat_front hsub _
  · rw [drop_leBytes_append 1 _ 6, drop_leBytes_append 1 _ 5, drop_leBytes_append 2 _ 3, drop_leBytes_append 2 _ 1, drop_leBytes_append 1 _ 0]
    exact leNat_front hstatus _
  · rw [drop_leBytes_append 1 _ 7, drop_leBytes_append 1 _ 6, drop_leBytes_append 2 _ 4, drop_leBytes_append 2 _ 2, drop_leBytes_append 1 _ 1,
      drop_leBytes_append 1 _ 0]
    exact leNat_front (h4 hbodyLen) _
  · rw [drop_leBytes_append 1 _ 9, drop_leBytes_append 1 _ 8, drop_leBytes_append 2 _ 6, drop_leBytes_append 2 _ 4, drop_leBytes_append 1 _ 3,
      drop_leBytes_append 1 _ 2, drop_leBytes_append 2 _ 0]
    exact leNat_front hreserved _
  · rw [drop_leBytes_append 1 _ 15, drop_leBytes_append 1 _ 14, drop_leBytes_append 2 _ 12, drop_leBytes_append 2 _ 10, drop_leBytes_append 1 _ 9,
      drop_leBytes_append 1 _ 8, drop_leBytes_append 2 _ 6, drop_leBytes_append 6 _ 0]
    rfl

/-! ### Fragments (R654, R655) -/

theorem reasm_filter {s : State} {c : Client} {id : Nat} (h : s.reasmOf c id = none) :
    s.kodp.reasm.filter (fun a => !(a.client == c && a.reqId == id)) = s.kodp.reasm :=
  List.filter_eq_self.2 fun a ha => by
    have := List.find?_eq_none.1 h a ha
    rw [Bool.eq_false_iff.2 this]
    rfl

theorem dropReasm_none {s : State} {c : Client} {id : Nat} (h : s.reasmOf c id = none) : dropReasm c id s = s := by
  unfold dropReasm
  show { s with kodp := { s.kodp with reasm := s.kodp.reasm.filter (fun a => !(a.client == c && a.reqId == id)) } } = s
  rw [reasm_filter h]

theorem fragClash_first {c : Client} {size id idx : Nat} {last : Bool} {bytes : List Byte} (hidx : idx < 128) (hlen : bytes.length ≤ size)
    (hfull : last = false → bytes.length = size) : fragClash size { client := c, reqId := id, frags := [], last := none } idx last bytes = false := by
  have hbig : decide (idx ≥ 128) = false := decide_eq_false (by omega)
  have hover : decide (bytes.length > size) = false := decide_eq_false (by omega)
  have hshort : (!last && bytes.length != size) = false := by
    cases last
    · rw [hfull rfl]; simp
    · rfl
  simp only [fragClash, hbig, hover, hshort, aget, List.any_nil, Bool.and_false, Bool.or_self]

section
variable {s : State} {c : Client} {id idx : Nat} {bytes : List Byte} {done : List Byte → State → State}

/-- The first fragment of a message of several. -/
theorem takeFragment_first (hnone : s.reasmOf c id = none) (hroom : s.reasmFull c id = false) (hidx : idx < 128)
    (hlen : bytes.length = fragSize c.transport) (hfits : idx * fragSize c.transport + bytes.length ≤ 8192) :
    takeFragment c id idx false bytes done s = s.onKodp (fun k => { k with reasm := k.reasm ++ [{ client := c, reqId := id, frags := [(idx, bytes)], last := none }] }) := by
  unfold takeFragment
  extract_lets size a a' u
  have ha : a = { client := c, reqId := id, frags := [], last := none } := by unfold a; rw [hnone]; rfl
  have hclash : fragClash size a idx false bytes = false := ha ▸ fragClash_first hidx hlen.le fun _ => hlen
  rw [hroom, hclash, if_neg Bool.false_ne_true, if_neg Bool.false_ne_true, if_neg hfits.not_gt]
  have hu : u = s := dropReasm_none hnone
  unfold a'
  rw [hu, ha]
  rfl

/-- A message of one fragment. -/
theorem takeFragment_whole (hnone : s.reasmOf c id = none) (hroom : s.reasmFull c id = false) (hlen : bytes.length ≤ fragSize c.transport)
    (hfits : bytes.length ≤ 8192) : takeFragment c id 0 true bytes done s = done bytes s := by
  unfold takeFragment
  extract_lets size a a' u
  have ha : a = { client := c, reqId := id, frags := [], last := none } := by unfold a; rw [hnone]; rfl
  have hclash : fragClash size a 0 true bytes = false := ha ▸ fragClash_first (by decide) hlen nofun
  have hsize : ¬ (0 * size + bytes.length > 8192) := by omega
  rw [hroom, hclash, if_neg Bool.false_ne_true, if_neg Bool.false_ne_true, if_neg hsize]
  have hu : u = s := dropReasm_none hnone
  unfold a'
  rw [hu, ha]
  refine (if_pos rfl).trans ?_
  show done (([0].flatMap fun i => agetD [(0, bytes)] i [])) s = _
  simp [agetD, aget]

end

theorem fragSize_le (t : Transport) : 496 ≤ fragSize t ∧ fragSize t ≤ 1024 := by cases t <;> decide
theorem fragSize_headed {t : Transport} (h : t ≠ .vc7) : 1020 ≤ fragSize t := by
  cases t
  · decide
  · exact absurd rfl h
  · decide

/-- A fragment of UDP or the KSL. -/
theorem exec_kodpFragment_headed {s : State} {c : Client} {b : List Byte} (hup : s.bakerUp = true) (hsession : c.session = none) (ht : c.transport ≠ .vc7) :
    exec (.kodpFragment c b) s = .next (takeHeaded c b s) := by
  obtain ⟨t, addr, port, session⟩ := c
  obtain rfl : session = none := hsession
  rw [exec, execKodpFragment, hup]
  cases t
  · rfl
  · exact absurd rfl ht
  · rfl

theorem leNat_byte (v : Nat) : leNat [BitVec.ofNat 8 v] = v % 256 := by
  simp [leNat]

/-- The fields of a fragment's header. -/
theorem takeHeaded_fields {s : State} {c : Client} {x y : Byte} {id : Nat} {data : List Byte} (hid : id < 2 ^ 16) :
    takeHeaded c ([x, y] ++ leBytes 2 id ++ data) s = takeFragment c id (leNat [x]) (bits (leNat [y]) 0 1 == 1) data (takeMessage c 0) s := by
  have hlong : ¬ ([x, y] ++ leBytes 2 id ++ data).length < 4 := by simp [length_leBytes]
  have hname : leNat ((([x, y] ++ leBytes 2 id ++ data).drop 2).take 2) = id := leNat_front hid data
  have hdata : ([x, y] ++ leBytes 2 id ++ data).drop 4 = data := List.drop_left' (by simp [length_leBytes])
  rw [takeHeaded, if_neg hlong, hname, hdata]
  rfl

/-! ### Messages that are taken (R652, R653) -/

/-- A message in one fragment of UDP or the KSL that is no SECURED message. -/
theorem exec_whole {s : State} {c : Client} {m : KMsg} (hup : s.bakerUp = true) (hsession : c.session = none) (ht : c.transport ≠ .vc7) (hm : MsgFits m)
    (hlen : m.body.length ≤ 1000) (htype : m.type ≠ 11) (hnone : s.reasmOf c m.reqId = none) (hroom : s.reasmFull c m.reqId = false) :
    exec (.kodpFragment c ([0, 1] ++ leBytes 2 m.reqId ++ kmsgBytes m)) s = .next (takeClear c 0 m s) := by
  have hsize := fragSize_headed ht
  have hbytes := length_kmsgBytes m
  rw [exec_kodpFragment_headed hup hsession ht, takeHeaded_fields hm.reqId]
  refine congrArg Host.Outcome.next ((takeFragment_whole hnone hroom (by omega) (by omega)).trans ?_)
  have hnot : ¬ (!s.bakerUp) = true := by rw [hup]; decide
  have hlong : ¬ (kmsgBytes m).length < 4 := by omega
  have hplain : ¬ (m.type = 11 ∧ badHeader m = false) := fun h => htype h.1
  have hwhole : ¬ (c.transport = .vc7 ∧ 16 + (parseMsg (kmsgBytes m)).bodyLen ≤ (kmsgBytes m).length
      ∧ (kmsgBytes m).length < 16 + (parseMsg (kmsgBytes m)).bodyLen + 16
      ∧ (((kmsgBytes m).drop (16 + (parseMsg (kmsgBytes m)).bodyLen)).all fun x => x == 0) = true) := fun h => ht h.1
  rw [takeMessage, if_neg hnot]
  dsimp only
  rw [if_neg hwhole, if_neg hlong, parseMsg_kmsgBytes hm, if_neg hplain]

/-- A request that is well formed is started where none waits. -/
theorem takeClear_starts {s : State} {c : Client} {m : KMsg} (htype : m.type < 0x80) (h11 : m.type ≠ 11) (hgood : badHeader m = false) (hqueue : s.kodp.queue = []) :
    takeClear c 0 m s = startReq { client := c, id := m.reqId, tag := 0 } m s := by
  rw [takeClear, if_neg (by omega : ¬ m.type ≥ 0x80), hgood, if_neg Bool.false_ne_true, if_neg h11, queueReq, hqueue]
  rfl

/-- A request whose header is malformed. -/
theorem takeClear_malformed {s : State} {c : Client} {m : KMsg} (htype : m.type < 0x80) (hbad : badHeader m = true) :
    takeClear c 0 m s = malformedReq { client := c, id := m.reqId, tag := 0 } m s := by
  rw [takeClear, if_neg (by omega : ¬ m.type ≥ 0x80), hbad, if_pos rfl]

theorem mkMsg_fits {type id index sub : Nat} {body : List Byte} (htype : type < 256) (hid : id < 65536) (hindex : index < 65536) (hsub : sub < 256)
    (hbody : body.length < 65536) : MsgFits (mkMsg type id index sub .ok body) :=
  ⟨(by decide : 1 < 256), htype, hid, hindex, hsub, (by decide : Status.ok.code < 256), hbody, (by decide : 0 < 2 ^ 48)⟩

/-- A request made by `mkMsg` is well formed when it names an object, or is one that names none. -/
theorem mkMsg_good {type id index sub : Nat} {body : List Byte} (hpos : type ≠ 0) (hle : type ≤ 11) (hnone : noIndex type = true → index = 0 ∧ sub = 0) :
    badHeader (mkMsg type id index sub .ok body) = false := by
  have hzero : (type == 0) = false := beq_eq_false_iff_ne.2 hpos
  have hover : decide (type > 11) = false := decide_eq_false (by omega)
  have hobject : (noIndex type && (index != 0 || sub != 0)) = false := by
    cases h : noIndex type with
    | false => rfl
    | true =>
      obtain ⟨rfl, rfl⟩ := hnone h
      rfl
  simp only [badHeader, mkMsg, hzero, hobject, bne_self_eq_false, Bool.or_false, Bool.false_or]
  exact hover

section
variable {s : State} {c : Client} {id : Nat}

/-- What a request that comes whole needs of the state (R654, R666). -/
structure Comes (s : State) (c : Client) (id : Nat) : Prop where
  up : s.bakerUp = true
  session : c.session = none
  transport : c.transport ≠ .vc7
  named : id < 2 ^ 16
  queue : s.kodp.queue = []
  none_ : s.reasmOf c id = none
  room : s.reasmFull c id = false

/-- A request that comes whole is started. -/
theorem exec_come (h : Comes s c id) {type index sub : Nat} {body : List Byte} (hpos : type ≠ 0) (hle : type < 11) (hindex : index < 65536) (hsub : sub < 256)
    (hbody : body.length ≤ 1000) (hnone : noIndex type = true → index = 0 ∧ sub = 0) :
    exec (.kodpFragment c ([0, 1] ++ leBytes 2 id ++ kmsgBytes (mkMsg type id index sub .ok body))) s
      = .next (startReq { client := c, id := id, tag := 0 } (mkMsg type id index sub .ok body) s) := by
  have hm : MsgFits (mkMsg type id index sub .ok body) := mkMsg_fits (by omega) h.named hindex hsub (by omega : body.length < 65536)
  refine (exec_whole h.up h.session h.transport hm hbody hle.ne h.none_ h.room).trans (congrArg _ ?_)
  exact takeClear_starts (show type < 0x80 by omega) hle.ne (mkMsg_good hpos hle.le hnone) h.queue

end

end Sys2Proof.Machine
end

section
/-!
PROOF. KODP messages that come in fragments, and what they ask for (R649 to R655, R660, R664, R665, R684).
-/
namespace Sys2Proof.Machine

/-! ### Fragments that come and reassemblies that end (R654, R655, R657) -/

section
variable {s : State} {c : Client}

theorem baker_down (hup : s.bakerUp = false) (bytes : List Byte) (session : Nat) :
    Does (.kodpFragment c bytes) s (fun t => t = s) ∧ Does (.secured c session bytes) s (fun t => t = s) := by
  have hnot : (!s.bakerUp) = true := by rw [hup]; rfl
  exact ⟨⟨_, rfl, if_pos hnot⟩, ⟨_, rfl, if_pos hnot⟩⟩

theorem fragment_short (hup : s.bakerUp = true) (hsession : c.session = none) (ht : c.transport ≠ .vc7) {bytes : List Byte} (hshort : bytes.length < 4) :
    Does (.kodpFragment c bytes) s (fun t => Counts .kMalformed (transportNum c.transport) 1 s t ∧ Frame [.ctrs] s t) := by
  refine ⟨_, exec_kodpFragment_headed hup hsession ht, ?_⟩
  rw [takeHeaded, if_pos hshort]
  exact ⟨ctr_bumpBy_same .., frame_bump (by decide) (Frame.refl _ s)⟩

theorem frame_reasm (f : List Reasm → List Reasm) (s : State) : Frame [.kodp] s (s.onKodp (fun k => { k with reasm := f k.reasm })) :=
  frame_onKodp [.kodp] (by decide) (.inr fun _ => rfl) (.inr fun _ => rfl) (.inl rfl) (Frame.refl _ s)

theorem fragment_first (hup : s.bakerUp = true) (hsession : c.session = none) (ht : c.transport ≠ .vc7) {id idx high : Nat} {data : List Byte}
    (hnone : s.reasmOf c id = none) (hroom : s.reasmFull c id = false) (hid : id < 2 ^ 16) (hidx : idx < 8) (hlen : data.length = fragSize c.transport) :
    Does (.kodpFragment c ([BitVec.ofNat 8 idx, BitVec.ofNat 8 (2 * high)] ++ leBytes 2 id ++ data)) s (fun t =>
      t.kodp.reasm = s.kodp.reasm ++ [{ client := c, reqId := id, frags := [(idx, data)], last := none }] ∧ Frame [.kodp] s t) := by
  have hsize := fragSize_le c.transport
  have hnum : leNat [BitVec.ofNat 8 idx] = idx := (leNat_byte idx).trans (Nat.mod_eq_of_lt (by omega))
  have hmore : (bits (leNat [BitVec.ofNat 8 (2 * high)]) 0 1 == 1) = false := by
    rw [leNat_byte, beq_eq_false_iff_ne, bits]
    omega
  have hfits : idx * fragSize c.transport + data.length ≤ 8192 := by
    have : idx * fragSize c.transport ≤ 7 * 1024 := Nat.mul_le_mul (by omega) hsize.2
    omega
  refine ⟨_, exec_kodpFragment_headed hup hsession ht, ?_⟩
  rw [takeHeaded_fields hid, hnum, hmore, takeFragment_first hnone hroom (by omega) hlen hfits]
  exact ⟨rfl, frame_reasm (fun l => l ++ _) s⟩

theorem bits_high {v k : Nat} (h : v < 2 ^ k) : bits v k 1 = 0 := by
  simp [bits, Nat.div_eq_of_lt h]

/-- The first fragment of a message on VC7. -/
theorem takeVc7Fragment_first {p : Packet} (hnone : s.reasmOf (vc7Client p.src) p.tag = none) (hroom : s.reasmFull (vc7Client p.src) p.tag = false)
    (hidx : p.harg < 16) (hlen : p.body.length = 496) : ∃ u, takeVc7Fragment p s
      = u.onKodp (fun k => { k with reasm := k.reasm ++ [{ client := vc7Client p.src, reqId := p.tag, frags := [(p.harg, p.body)], last := none }] })
      ∧ u.kodp.reasm = s.kodp.reasm ∧ Frame [.kodp] s u := by
  have hind : p.harg % 256 = p.harg := Nat.mod_eq_of_lt (by omega)
  have hmore : (bits p.harg 15 1 == 1) = false := by rw [bits_high (by omega)]; rfl
  unfold takeVc7Fragment
  extract_lets idx u
  have hframe : Frame [.kodp] s u := frame_onlyIf (fun v hv =>
    frame_onKodp [.kodp] (by decide) (.inr fun _ => rfl) (.inr fun _ => rfl) (.inl rfl) hv) (Frame.refl _ s)
  have hreasm : u.kodp.reasm = s.kodp.reasm := by
    unfold u onlyIf
    split <;> rfl
  clear_value u
  refine ⟨u, ?_, hreasm, hframe⟩
  unfold idx
  rw [hind, hmore]
  refine takeFragment_first ?_ ?_ (by omega) hlen ?_
  · unfold State.reasmOf; rw [hreasm]; exact hnone
  · unfold State.reasmFull State.reasmOf; rw [hreasm]; exact hroom
  · show p.harg * 496 + p.body.length ≤ 8192
    omega

/-- A fragment of the standby or owner on VC7. -/
theorem fragment_peer (hup : s.bakerUp = true) {id idx : Nat} {data : List Byte} (hc : c = s.peerClient) (hnone : s.reasmOf c id = none)
    (hroom : s.reasmFull c id = false) (hid : id < 4096) (hidx : idx < 16) (hlen : data.length = 496) :
    Does (.kodpFragment c (leBytes 2 idx ++ leBytes 2 id ++ data)) s (fun t =>
      t.kodp.reasm = s.kodp.reasm ++ [{ client := c, reqId := id, frags := [(idx, data)], last := none }] ∧ Frame [.kodp] s t) := by
  subst hc
  have hname : leNat (((leBytes 2 idx ++ leBytes 2 id ++ data).drop 2).take 2) % 4096 = id := by
    rw [List.append_assoc, List.drop_left' (length_leBytes 2 idx), leNat_front (show id < 256 ^ 2 by omega)]
    exact Nat.mod_eq_of_lt hid
  have hnum : leNat ((leBytes 2 idx ++ leBytes 2 id ++ data).take 2) = idx := by
    rw [List.append_assoc]
    exact leNat_front (show idx < 256 ^ 2 by omega) _
  have hdata : (leBytes 2 idx ++ leBytes 2 id ++ data).drop 4 = data := List.drop_left' (by simp [length_leBytes])
  have hexec : exec (.kodpFragment s.peerClient (leBytes 2 idx ++ leBytes 2 id ++ data)) s
      = .next (takeVc7Fragment (mkPacket 7 0x70 (s.obj .nodeEid) s.twin.peerEid id 0 idx false data) s) := by
    rw [exec, execKodpFragment, hup]
    dsimp only [State.peerClient]
    rw [hname, hnum, hdata]
    exact congrArg Host.Outcome.next ((if_neg (by decide : ¬ ((!true) = true))).trans (if_pos rfl))
  obtain ⟨u, htake, hreasm, hframe⟩ :=
    takeVc7Fragment_first (s := s) (p := mkPacket 7 0x70 (s.obj .nodeEid) s.twin.peerEid id 0 idx false data) hnone hroom hidx hlen
  refine ⟨_, hexec, ?_⟩
  rw [htake]
  exact ⟨congrArg (· ++ _) hreasm, hframe.trans (frame_reasm (fun l => l ++ _) u)⟩

theorem reasmOf_dropReasm_same (c : Client) (id : Nat) (s : State) : (dropReasm c id s).reasmOf c id = none := by
  refine List.find?_eq_none.2 fun a ha => ?_
  have hout := (List.mem_filter.1 (show a ∈ s.kodp.reasm.filter _ from ha)).2
  rw [Bool.not_eq_true'] at hout
  exact Bool.eq_false_iff.1 hout

theorem reasmOf_dropReasm_ne (s : State) {c d : Client} {id i : Nat} (h : (d, i) ≠ (c, id)) : (dropReasm c id s).reasmOf d i = s.reasmOf d i := by
  show (s.kodp.reasm.filter (fun a => !(a.client == c && a.reqId == id))).find? _ = s.kodp.reasm.find? _
  rw [List.find?_filter]
  refine List.find?_congr fun a _ => ?_
  refine Bool.eq_iff_iff.2 ?_
  simp only [decide_eq_true_eq, Bool.not_eq_true', Bool.and_eq_true, beq_iff_eq, Bool.and_eq_false_imp, beq_eq_false_iff_ne]
  refine ⟨And.right, ?_⟩
  rintro ⟨rfl, rfl⟩
  exact ⟨fun hclient hid => h (by rw [hclient, hid]), rfl, rfl⟩

theorem reassemblyTimeout_drops (id : Nat) : (s.reasmOf c id = none → Does (.reassemblyTimeout c id) s (fun t => t = s))
    ∧ (s.reasmOf c id ≠ none → Does (.reassemblyTimeout c id) s (fun t => t.reasmOf c id = none ∧ Counts .kReasmTimeouts (transportNum c.transport) 1 s t
      ∧ (∀ d i, (d, i) ≠ (c, id) → t.reasmOf d i = s.reasmOf d i) ∧ Frame [.kodp, .ctrs] s t)) := by
  refine ⟨fun hnone => ⟨s, ?_, rfl⟩, fun hsome => ⟨bump .kReasmTimeouts (transportNum c.transport) (dropReasm c id s), ?_, ?_, ?_, ?_, ?_⟩⟩
  · rw [exec, execReassemblyTimeout, hnone]; rfl
  · rw [exec, execReassemblyTimeout, Option.isSome_iff_ne_none.2 hsome]; rfl
  · exact reasmOf_dropReasm_same c id s
  · exact ctr_bumpBy_same ..
  · exact fun d i h => reasmOf_dropReasm_ne s h
  · exact frame_bump (by decide) (frame_dropReasm (by decide) (Frame.refl _ s))

/-! ### SECURED messages (R660) -/

theorem exec_secured (hup : s.bakerUp = true) (hsession : c.session = none) (hreheat : s.obs.reheat.contains 0 = false) (session : Nat) (cipher : List Byte) :
    exec (.secured c session cipher) s = .next (match aget s.sec.sessions session with
      | none => bump .kSecureFailures (transportNum c.transport) s
      | some n =>
        if n.client ≠ c ∨ n.received ≥ 2 ^ 32 then bump .kSecureFailures (transportNum c.transport) s
        else match Config.gcmOpen n.key (2 * n.received) (leBytes 4 session) cipher with
          | none => bump .kSecureFailures (transportNum c.transport) s
          | some b => takeClear { c with session := some session } 0 (parseMsg b)
              (s.onSec (fun x => { x with sessions := aset x.sessions session { n with received := n.received + 1 } }))) := by
  have hc : ({ c with session := none } : Client) = c := by rw [← hsession]
  rw [exec, execSecured, hup, hc, takeSecured, hreheat] <;> rfl

theorem secureFailure_counts (k : Nat) (s : State) :
    Counts .kSecureFailures k 1 s (bump .kSecureFailures k s) ∧ Frame [.ctrs] s (bump .kSecureFailures k s) :=
  ⟨ctr_bumpBy_same .., frame_bump (by decide) (Frame.refl _ s)⟩

theorem secured_taken (hup : s.bakerUp = true) (hsession : c.session = none) (hreheat : s.obs.reheat.contains 0 = false) (session : Nat) (cipher : List Byte) :
    (aget s.sec.sessions session = none → Does (.secured c session cipher) s (fun t => Counts .kSecureFailures (transportNum c.transport) 1 s t ∧ Frame [.ctrs] s t))
    ∧ (∀ n, aget s.sec.sessions session = some n → n.client ≠ c ∨ 2 ^ 32 ≤ n.received → Does (.secured c session cipher) s (fun t =>
        Counts .kSecureFailures (transportNum c.transport) 1 s t ∧ Frame [.ctrs] s t))
    ∧ (∀ n, aget s.sec.sessions session = some n → n.client = c → n.received < 2 ^ 32 → Does (.secured c session cipher) s (fun t =>
        (Config.gcmOpen n.key (2 * n.received) (leBytes 4 session) cipher = none → Counts .kSecureFailures (transportNum c.transport) 1 s t ∧ Frame [.ctrs] s t)
        ∧ (∀ b, Config.gcmOpen n.key (2 * n.received) (leBytes 4 session) cipher = some b → t = takeClear { c with session := some session } 0 (parseMsg b)
            { s with sec := { s.sec with sessions := aset s.sec.sessions session { n with received := n.received + 1 } } }))) := by
  have hexec := exec_secured hup hsession hreheat session cipher
  refine ⟨fun hnone => ⟨_, hexec, ?_⟩, fun n hn hbad => ⟨_, hexec, ?_⟩, fun n hn hmine hkeys => ⟨_, hexec, ?_⟩⟩
  · rw [hnone]
    exact secureFailure_counts ..
  · rw [hn]
    dsimp only
    rw [if_pos hbad]
    exact secureFailure_counts ..
  · have hgood : ¬ (n.client ≠ c ∨ n.received ≥ 2 ^ 32) := by
      rintro (h | h)
      · exact h hmine
      · exact absurd hkeys (by omega)
    rw [hn]
    dsimp only
    rw [if_neg hgood]
    refine ⟨fun hopen => ?_, fun b hopen => ?_⟩
    · rw [hopen]
      exact secureFailure_counts ..
    · rw [hopen]
      rfl

/-! ### What a request asks for (R649, R664, R665, R684) -/

variable {id : Nat}

/-- The request of a client outside a session. -/
def plainReq (c : Client) (id : Nat) : Req := { client := c, id := id, tag := 0 }

/-- The object of a request that the dictionary does not know. -/
def unknownObj (m : KMsg) : OpObj := { index := m.index, sub := m.sub, type := m.type, roles := 0, any := true }

/-- A request that is not supported. -/
theorem replies_not_supported {i : Instr} {r : Req} {m : KMsg} {body : List Byte} {o : OpObj} (ho : o = unknownObj m) (hbody : body = m.body)
    (hexec : exec i s = .next (unsupported r m s)) : Replies i s o r 0 body .unsupported [] (fun t => t.mem = s.mem ∧ t.kodp.objs = s.kodp.objs) := by
  subst ho hbody
  exact refused_bad hexec rfl rfl fun t ht => ⟨ht.frame.mem_eq rfl, (ht.frame.dict_eq rfl).1⟩

theorem read_value (h : Comes s c id) {index sub : Nat} (hindex : index < 2 ^ 16) (hsub : sub < 256) :
    (∀ v, readValue s c index sub = some v → Replies (.kodpFragment c ([0, 1] ++ leBytes 2 id ++ kmsgBytes (mkMsg 1 id index sub .ok []))) s
      { index := index, sub := sub, type := 1, roles := v.roles, any := v.any } (plainReq c id) 0 [] .ok v.bytes (fun t => t.mem = s.mem ∧ t.kodp.objs = s.kodp.objs))
    ∧ (readValue s c index sub = none → Replies (.kodpFragment c ([0, 1] ++ leBytes 2 id ++ kmsgBytes (mkMsg 1 id index sub .ok []))) s
      { index := index, sub := sub, type := 1, roles := 0, any := true } (plainReq c id) 0 [] .unsupported [] (fun t => t.mem = s.mem ∧ t.kodp.objs = s.kodp.objs)) := by
  have hexec := exec_come h (type := 1) (body := []) (by decide) (by decide) hindex hsub (by decide) (absurd · (by decide))
  refine ⟨fun v hv => ?_, fun hv => ?_⟩
  · have hread : exec (.kodpFragment c ([0, 1] ++ leBytes 2 id ++ kmsgBytes (mkMsg 1 id index sub .ok []))) s
        = .next (operate { index := index, sub := sub, type := 1, roles := v.roles, any := v.any } (plainReq c id) [] 0 Verdict.ok
          (fun b => reply { index := index, sub := sub, type := 1, roles := v.roles, any := v.any } (plainReq c id) .ok v.bytes b) s) := by
      rw [hexec, startReq]
      dsimp only [mkMsg]
      rw [readReq]
      dsimp only
      rw [hv]
      rfl
    refine replies_handled (fun b => b) hread rfl rfl rfl rfl (fun b _ => rfl) (fun b _ => rfl) fun b t hb ht => ?_
    have hbt := hb.trans ht
    exact ⟨hbt.frame.mem_eq rfl, (hbt.frame.dict_eq rfl).1⟩
  · refine replies_not_supported (m := mkMsg 1 id index sub .ok []) rfl rfl ?_
    rw [hexec, startReq]
    dsimp only [mkMsg]
    rw [readReq]
    dsimp only
    rw [hv]
    rfl

theorem objOf_info (o : Obj) : objOf o.info.index o.info.sub = some o := by cases o <;> rfl

theorem withArgs_one {r : Req} {m : KMsg} {n v : Nat} {run : (Nat → Nat) → Host.Outcome State Fault Refusal} (hbody : m.body = leBytes n v) (hv : v < 256 ^ n) :
    withArgs r m [n] run s = ran (run (fun i => [v].getD i 0)) s := by
  have hfields : cutFields [n] m.body = [v] := by
    rw [hbody, cutFields, List.take_of_length_le (length_leBytes n v).le, leNat_leBytes, Nat.mod_eq_of_lt hv]
    rfl
  rw [withArgs, hfields]
  exact if_pos (by rw [hbody, length_leBytes]; simp)

theorem withArgs_two {r : Req} {m : KMsg} {n v k w : Nat} {run : (Nat → Nat) → Host.Outcome State Fault Refusal} (hbody : m.body = leBytes n v ++ leBytes k w)
    (hv : v < 256 ^ n) (hw : w < 256 ^ k) : withArgs r m [n, k] run s = ran (run (fun i => [v, w].getD i 0)) s := by
  have hfields : cutFields [n, k] m.body = [v, w] := by
    rw [hbody, cutFields, leNat_front hv, List.drop_left' (length_leBytes n v), cutFields, List.take_of_length_le (length_leBytes k w).le, leNat_leBytes,
      Nat.mod_eq_of_lt hw]
    rfl
  rw [withArgs, hfields]
  exact if_pos (by rw [hbody, List.length_append, length_leBytes, length_leBytes]; simp)

theorem withArgs_none {r : Req} {m : KMsg} {run : (Nat → Nat) → Host.Outcome State Fault Refusal} (hbody : m.body = []) :
    withArgs r m [] run s = ran (run (fun i => [].getD i 0)) s := by
  rw [withArgs, hbody]
  rfl

/-- The fields of every object fit a request. -/
theorem info_fits (o : Obj) : o.info.index < 65536 ∧ o.info.sub < 256 ∧ o.info.size ≤ 1000 := by cases o <;> decide

theorem write_object (h : Comes s c id) (o : Obj) {v : Nat} (hv : v < 256 ^ o.info.size) (t : State) (ht : exec (.objectWrite (plainReq c id) o v) s = .next t) :
    exec (.kodpFragment c ([0, 1] ++ leBytes 2 id ++ kmsgBytes (mkMsg 2 id o.info.index o.info.sub .ok (leBytes o.info.size v)))) s = .next t := by
  obtain ⟨hindex, hsub, hsize⟩ := info_fits o
  rw [exec_come h (by decide) (by decide) hindex hsub (by rw [length_leBytes]; exact hsize) (absurd · (by decide)), startReq]
  dsimp only [mkMsg]
  rw [writeReq]
  dsimp only
  rw [objOf_info]
  dsimp only
  rw [withArgs_one rfl hv]
  exact congrArg (fun x => Host.Outcome.next (ran x s)) ht

/-- An invocation whose arguments are read back runs the command they name. -/
theorem invoke_runs (h : Comes s c id) {index sub : Nat} {body : List Byte} {i : Instr} (hindex : index < 65536) (hsub : sub < 256) (hbody : body.length ≤ 1000)
    (hrun : invoke (plainReq c id) (mkMsg 3 id index sub .ok body) s = ran (exec i s) s) (t : State) (ht : exec i s = .next t) :
    exec (.kodpFragment c ([0, 1] ++ leBytes 2 id ++ kmsgBytes (mkMsg 3 id index sub .ok body))) s = .next t := by
  rw [exec_come h (by decide) (by decide) hindex hsub hbody (absurd · (by decide)), startReq]
  exact congrArg Host.Outcome.next (hrun.trans (congrArg (ran · s) ht))

section
variable {r : Req} {m : KMsg} {i : Instr} {run : (Nat → Nat) → Host.Outcome State Fault Refusal} {n k v w : Nat}

/-- An invocation that takes no argument, one or two. -/
theorem invoke_none (hinvoke : invoke r m s = withArgs r m [] run s) (hbody : m.body = []) (hrun : run (fun i => [].getD i 0) = exec i s) :
    invoke r m s = ran (exec i s) s := by
  rw [hinvoke, withArgs_none hbody, hrun]

theorem invoke_one (hinvoke : invoke r m s = withArgs r m [n] run s) (hbody : m.body = leBytes n v) (hv : v < 256 ^ n)
    (hrun : run (fun i => [v].getD i 0) = exec i s) : invoke r m s = ran (exec i s) s := by
  rw [hinvoke, withArgs_one hbody hv, hrun]

theorem invoke_two (hinvoke : invoke r m s = withArgs r m [n, k] run s) (hbody : m.body = leBytes n v ++ leBytes k w) (hv : v < 256 ^ n) (hw : w < 256 ^ k)
    (hrun : run (fun i => [v, w].getD i 0) = exec i s) : invoke r m s = ran (exec i s) s := by
  rw [hinvoke, withArgs_two hbody hv hw, hrun]

end

/-- An invocation of an object of the ranges above the dictionary's. -/
theorem invoke_undefined {r : Req} {m : KMsg} (hm : 0x2200 ≤ m.index) : invoke r m s = unsupported r m s := by
  unfold invoke
  split
  any_goals omega
  unfold invokeWork
  split
  any_goals omega
  rfl

theorem invoke_unknown (h : Comes s c id) {index sub : Nat} {body : List Byte} (hlo : 0x2200 ≤ index) (hhi : index < 2 ^ 16) (hsub : sub < 256) (hbody : body.length ≤ 512) :
    Replies (.kodpFragment c ([0, 1] ++ leBytes 2 id ++ kmsgBytes (mkMsg 3 id index sub .ok body))) s { index := index, sub := sub, type := 3, roles := 0, any := true }
      (plainReq c id) 0 body .unsupported [] (fun t => t.mem = s.mem ∧ t.kodp.objs = s.kodp.objs) := by
  refine replies_not_supported (m := mkMsg 3 id index sub .ok body) rfl rfl ?_
  rw [exec_come h (by decide) (by decide) hhi hsub (by omega) (absurd · (by decide)), startReq]
  exact congrArg Host.Outcome.next (invoke_undefined hlo)

/-- The object of a TABLE_READ. -/
def tableObj (index roles : Nat) : OpObj := { index := index, sub := 0, type := 4, roles := roles, any := false }

/-- TABLE_READ of a table that stands in the dictionary. -/
theorem exec_tableRead (h : Comes s c id) {index start most : Nat} {v : TabView} (hindex : index < 2 ^ 16) (hstart : start < 2 ^ 32) (hmost : most < 2 ^ 16)
    (hv : tableView s c index = some v) : exec (.kodpFragment c ([0, 1] ++ leBytes 2 id ++ kmsgBytes (mkMsg 4 id index 0 .ok (leBytes 4 start ++ leBytes 2 most)))) s
      = .next (operate (tableObj index v.roles) (plainReq c id) (leBytes 4 start ++ leBytes 2 most) 0 Verdict.ok (fun b =>
          reply (tableObj index v.roles) (plainReq c id) .ok
            (tableBody (agetD (tableSync index (b.rolesOf c) v b).kodp.tableGen index 0) start most v) (tableSync index (b.rolesOf c) v b)) s) := by
  have hlen : (leBytes 4 start ++ leBytes 2 most).length = 6 := by simp [length_leBytes]
  have hfrom : leNat ((leBytes 4 start ++ leBytes 2 most).take 4) = start := leNat_front (show start < 256 ^ 4 by omega) _
  have hcount : leNat ((leBytes 4 start ++ leBytes 2 most).drop 4) = most := by
    rw [List.drop_left' (length_leBytes 4 start), leNat_leBytes]
    exact Nat.mod_eq_of_lt (by omega)
  rw [exec_come h (by decide) (by decide) hindex (by decide) (by omega) (absurd · (by decide)), startReq]
  dsimp only [mkMsg]
  rw [tableReadReq]
  dsimp only
  rw [hlen, hv, hfrom, hcount]
  rfl

theorem genKept_index {index : Nat} (h : genKept index = true) : index < 2 ^ 16 := by
  have hmem := List.contains_iff_mem.1 h
  simp only [List.mem_cons, List.not_mem_nil, or_false] at hmem
  omega

theorem tableSync_running (index seenAs : Nat) (v : TabView) (s : State) : (tableSync index seenAs v s).kodp.running = s.kodp.running := by
  unfold tableSync
  split <;> rfl

theorem tableSync_mem (index seenAs : Nat) (v : TabView) (s : State) : (tableSync index seenAs v s).mem = s.mem := by
  unfold tableSync
  split <;> rfl

theorem tableSync_tables (index seenAs : Nat) (v : TabView) (s : State) : (tableSync index seenAs v s).kodp.tables = s.kodp.tables := by
  unfold tableSync
  split <;> rfl

/-- A table whose TABLE_GEN its own commands raise is read at the generation it has. -/
theorem tableRead_kept (h : Comes s c id) {index start most : Nat} {v : TabView} (hkept : genKept index = true) (hstart : start < 2 ^ 32) (hmost : most < 2 ^ 16)
    (hv : tableView s c index = some v) : Replies (.kodpFragment c ([0, 1] ++ leBytes 2 id ++ kmsgBytes (mkMsg 4 id index 0 .ok (leBytes 4 start ++ leBytes 2 most)))) s
      (tableObj index v.roles) (plainReq c id) 0 (leBytes 4 start ++ leBytes 2 most) .ok (tableBody (agetD s.kodp.tableGen index 0) start most v)
      (fun t => t.mem = s.mem ∧ t.kodp.tables = s.kodp.tables) := by
  refine replies_handled (fun b => b) (exec_tableRead h (genKept_index hkept) hstart hmost hv) rfl rfl rfl rfl (fun b hb => ?_) (fun b _ => rfl)
    fun b t hb ht => ⟨(hb.trans ht).frame.mem_eq rfl, ((hb.trans ht).frame.dict_eq rfl).2.1⟩
  have hsame : tableSync index (b.rolesOf c) v b = b := if_pos hkept
  have hgen : b.kodp.tableGen = s.kodp.tableGen := (congrArg KodpState.tableGen hb.kodp :)
  rw [hsame, hgen]

/-- One whose rows come and go by the block's own events is read at a generation that a free value gives. -/
theorem tableRead_synced (h : Comes s c id) {index start most : Nat} {v : TabView} (hindex : index < 2 ^ 16) (hstart : start < 2 ^ 32) (hmost : most < 2 ^ 16)
    (hv : tableView s c index = some v) : ∃ gen,
      Replies (.kodpFragment c ([0, 1] ++ leBytes 2 id ++ kmsgBytes (mkMsg 4 id index 0 .ok (leBytes 4 start ++ leBytes 2 most)))) s
        (tableObj index v.roles) (plainReq c id) 0 (leBytes 4 start ++ leBytes 2 most) .ok (tableBody gen start most v)
        (fun t => t.mem = s.mem ∧ t.kodp.tables = s.kodp.tables) := by
  have hb : Handled s (begun (tableObj index v.roles) (plainReq c id) (leBytes 4 start ++ leBytes 2 most) 0 s) := begun_handled ..
  refine ⟨_, replies_of_operate (exec_tableRead h hindex hstart hmost hv) rfl rfl rfl rfl rfl (tableSync_running ..) ⟨?_, ?_⟩⟩
  · rw [(reply_frame ..).mem_eq rfl, tableSync_mem, hb.frame.mem_eq rfl]
  · rw [((reply_frame ..).dict_eq rfl).2.1, tableSync_tables, (hb.frame.dict_eq rfl).2.1]

/-- A request of another version of the protocol (R653). -/
theorem version_malformed (h : Comes s c id) {version : Nat} (hfits : version < 256) (hother : version ≠ 1) :
    Replies (.kodpFragment c ([0, 1] ++ leBytes 2 id ++ kmsgBytes { mkMsg 1 id 0x1100 1 .ok [] with version := version })) s
      { index := 0x1100, sub := 1, type := 1, roles := 0, any := true } (plainReq c id) 0 [] .unsupported [] (fun t => Counts .kMalformed (transportNum c.transport) 1 s t) := by
  intro hacc
  have hm : MsgFits { mkMsg 1 id 0x1100 1 .ok [] with version := version } :=
    ⟨hfits, (by decide : 1 < 256), h.named, (by decide : 0x1100 < 65536), (by decide : 1 < 256), (by decide : Status.ok.code < 256), (by decide : 0 < 65536),
      (by decide : 0 < 2 ^ 48)⟩
  have hbad : badHeader { mkMsg 1 id 0x1100 1 .ok [] with version := version } = true := by
    simp only [badHeader, bne_iff_ne.2 hother, Bool.true_or]
  have hexec := exec_whole (m := { mkMsg 1 id 0x1100 1 .ok [] with version := version }) h.up h.session h.transport hm (by decide : 0 ≤ 1000) (by decide : 1 ≠ 11)
    h.none_ h.room
  rw [takeClear_malformed (by decide : 1 < 0x80) hbad] at hexec
  refine ⟨_, hexec, ?_⟩
  have hacc' : (bump .kMalformed (transportNum c.transport) s).accepts { index := 0x1100, sub := 1, type := 1, roles := 0, any := true } (plainReq c id) 0 [] = true := hacc
  show Answered _ _ _ _ (operate { index := 0x1100, sub := 1, type := 1, roles := 0, any := true } (plainReq c id) [] 0 { Verdict.ok with bad := true } (fun b => b)
    (bump .kMalformed (transportNum c.transport) s)) ∧ Counts _ _ _ s (operate { index := 0x1100, sub := 1, type := 1, roles := 0, any := true } (plainReq c id) [] 0
    { Verdict.ok with bad := true } (fun b => b) (bump .kMalformed (transportNum c.transport) s))
  rw [operate_bad hacc' rfl]
  exact ⟨answered_refuse hacc' _ _ _ (heard_running ..), (refuse_ctr (by decide) ..).trans (ctr_bumpBy_same ..)⟩

end

/-! ### O50 -/

/-- Settles O50: a fragment is one of its transport's headers and of the reassembly it goes to; a message that comes whole is read back from its bytes
and started, and what is started is the operation its type, object and fields name. -/
theorem kodpMessages : Obligations.KodpMessages := by
  unfold Obligations.KodpMessages
  intro s c hsession
  refine ⟨fun hup bytes session => baker_down hup bytes session, fun hup => ⟨fun ht bytes hshort => fragment_short hup hsession ht hshort,
    fun ht id idx high data hnone hroom hid hidx hlen => fragment_first hup hsession ht hnone hroom hid hidx hlen,
    fun id idx data hc hnone hroom hid hidx hlen => fragment_peer hup hc hnone hroom hid hidx hlen, fun id => reassemblyTimeout_drops id,
    fun session cipher hreheat => secured_taken hup hsession hreheat session cipher, fun ht id hid hqueue hnone hroom => ?_⟩⟩
  have h : Comes s c id := ⟨hup, hsession, ht, hid, hqueue, hnone, hroom⟩
  refine ⟨fun index sub hindex hsub => read_value h hindex hsub, fun o v hv t ht => write_object h o hv t ht, fun a b ha hb => ?_,
    fun index start most v hkept hstart hmost hv => tableRead_kept h hkept hstart hmost hv,
    fun index start most v _ hindex hstart hmost hv => tableRead_synced h hindex hstart hmost hv, fun t ht => ?_,
    fun index sub body hlo hhi hsub hbody => invoke_unknown h hlo hhi hsub hbody, fun version hfits hother => version_malformed h hfits hother⟩
  · have ha1 : a < 256 ^ 1 := by omega
    have ha2 : a < 256 ^ 2 := by omega
    have hb2 : b < 256 ^ 2 := by omega
    have hb4 : b < 256 ^ 4 := by omega
    have hb8 : b < 256 ^ 8 := by omega
    intro e he
    simp only [List.mem_cons, List.not_mem_nil, or_false] at he
    rcases he with rfl | rfl | rfl | rfl | rfl | rfl | rfl | rfl | rfl | rfl | rfl | rfl | rfl | rfl <;> dsimp only
    · exact invoke_runs h (by decide) (by decide) (by simp [length_leBytes])
        (invoke_two (k := 1) (w := 2) (run := fun x => match x 1 with
        | 1 => execPortEnable (plainReq c id) (x 0) s
        | 2 => execPortDisable (plainReq c id) (x 0) s
        | 3 => execPortRetrain (plainReq c id) (x 0) s
        | 4 => execPortLaneRestore (plainReq c id) (x 0) s
        | _ => .next (unsupported (plainReq c id) (mkMsg 3 id 0x1220 1 .ok (leBytes 1 a ++ [2])) s)) rfl rfl ha1 (by decide) rfl)
    · exact invoke_runs h (by decide) (by decide) (by simp [length_leBytes])
        (invoke_one (run := fun a => execPartnerEvict (plainReq c id) (a 0) s) rfl rfl hb2 rfl)
    · exact invoke_runs h (by decide) (by decide) (by simp [length_leBytes])
        (invoke_one (run := fun a => execDirectoryLookup (plainReq c id) (a 0) s) rfl rfl hb8 rfl)
    · exact invoke_runs h (by decide) (by decide) (by simp [length_leBytes])
        (invoke_one (run := fun a => execDeepFlush (plainReq c id) (a 0) s) rfl rfl ha1 rfl)
    · exact invoke_runs h (by decide) (by decide) (by decide)
        (invoke_none (run := fun _ => execErrorLogClear (plainReq c id) s) rfl rfl rfl)
    · exact invoke_runs h (by decide) (by decide) (by simp [length_leBytes])
        (invoke_two (run := fun a => execRecipeAbort (plainReq c id) (a 0) (a 1) s) rfl rfl hb2 ha2 rfl)
    · exact invoke_runs h (by decide) (by decide) (by simp [length_leBytes])
        (invoke_one (run := fun a => execKernelUnload (plainReq c id) (a 0) s) rfl rfl hb2 rfl)
    · exact invoke_runs h (by decide) (by decide) (by decide)
        (invoke_none (run := fun _ => execTwinHandover (plainReq c id) s) rfl rfl rfl)
    · exact invoke_runs h (by decide) (by decide) (by simp [length_leBytes])
        (invoke_one (run := fun a => execHistogramClear (plainReq c id) (a 0) s) rfl rfl hb2 rfl)
    · exact invoke_runs h (by decide) (by decide) (by simp [length_leBytes])
        (invoke_one (run := fun a => execJobClose (plainReq c id) (a 0) s) rfl rfl hb4 rfl)
    · exact invoke_runs h (by decide) (by decide) (by simp [length_leBytes])
        (invoke_one (run := fun a => execTenantRetire (plainReq c id) (a 0) s) rfl rfl hb2 rfl)
    · exact invoke_runs h (by decide) (by decide) (by simp [length_leBytes])
        (invoke_one (run := fun a => execResetCore (plainReq c id) (a 0) s) rfl rfl hb2 rfl)
    · exact invoke_runs h (by decide) (by decide) (by decide)
        (invoke_none (run := fun _ => execFwVerify (plainReq c id) s) rfl rfl rfl)
    · exact invoke_runs h (by decide) (by decide) (by simp [length_leBytes])
        (invoke_one (run := fun a => execDebugStop (plainReq c id) (a 0) s) rfl rfl hb8 rfl)
  · rw [exec_come h (by decide) (by decide) (by decide) (by decide) (by decide) (fun _ => ⟨rfl, rfl⟩), ← ht]
    rfl

end Sys2Proof.Machine
end

section
/-!
PROOF. Debug tokens (R570 to R573, R642).
-/
namespace Sys2Proof.Machine

/-! ### The judgement of a token (R571) -/

theorem Handled.sec {s t : State} (h : Handled s t) : t.sec.rest = s.sec.rest := h.frame.sec_rest rfl
theorem Handled.challenge {s t : State} (h : Handled s t) : t.sec.challenge = s.sec.challenge := (congrArg SecurityState.challenge h.sec :)
theorem Handled.token {s t : State} (h : Handled s t) : t.sec.token = s.sec.token := (congrArg SecurityState.token h.sec :)
theorem Handled.debugKey {s t : State} (h : Handled s t) : t.sec.debugKey = s.sec.debugKey := (congrArg SecurityState.debugKey h.sec :)

theorem Handled.judgeToken {s t : State} (h : Handled s t) (b : List Byte) : t.judgeToken b = s.judgeToken b := by
  unfold State.judgeToken
  rw [(h.frame.time_eq rfl).1, h.debugKey, h.challenge, h.frame.now_eq rfl]

theorem judgeToken_length {s : State} {b : List Byte} (h : b.length ≠ 352) : s.judgeToken b = .bad .unsupported := by
  unfold State.judgeToken
  exact if_pos h

/-- A token that is good carries the challenge in force. -/
theorem challenge_of_good {s : State} {b : List Byte} {k : Token} (h : s.judgeToken b = .good k) : s.sec.challenge = some (leNat ((b.drop 56).take 8)) := by
  by_contra hne
  simp only [State.judgeToken, hne, false_and, and_false, if_false] at h
  split at h
  · cases h
  · split at h
    · cases h
    · split at h <;> cases h

/-! ### A token that comes into force (R571, R573) -/

theorem finalGen_challenge (eid tag : Nat) (s : State) : (finalGen eid tag s).sec.challenge = s.sec.challenge := by
  unfold finalGen onlyIf
  split
  · simp only [advanceGen, endExchange, State.onSec_sec]
    split <;> rfl
  · rfl

theorem releaseAnswer_challenge (q : Request) (pk : Packet) (s : State) : (releaseAnswer q pk s).sec.challenge = s.sec.challenge := by
  have hsent : (dropRequest q.src q.tag (sendFinal q pk s)).sec.challenge = s.sec.challenge := by
    rw [Frame.sec_eq (P := [.txn, .dir]) (frame_dropRequest (by decide) (Frame.refl _ _)) rfl rfl]
    unfold sendFinal
    extract_lets gone
    clear_value gone
    rw [finalGen_challenge]
    cases gone
    case true => rfl
    case false =>
      rw [if_neg Bool.false_ne_true, Frame.sec_eq (P := [.ledger, .leaves]) (frame_sendPacket (by decide) (Frame.refl _ _)) rfl rfl]
  unfold releaseAnswer
  dsimp only
  split
  · split
    · rwa [Frame.sec_eq (P := [.txn, .ledger, .dir, .mirror, .leaves, .ctrs]) (frame_stashHint (by decide) (Frame.refl _ _)) rfl rfl]
    · exact hsent
  · exact hsent

theorem finish_challenge (q : Request) (st : Status) (harg result : Nat) (pk : Packet) (hold : Bool) (s : State) :
    (finish q st harg result pk hold s).sec.challenge = s.sec.challenge := by
  unfold finish
  extract_lets t u v
  have hv : v.sec = s.sec := by
    refine Frame.sec_eq (P := [.ledger, .mirror, .leaves, .ctrs]) (frame_onlyIf (fun w hw => frame_bump (by decide) hw)
      (frame_onlyIf (fun w hw => frame_bump (by decide) hw) ?_)) rfl rfl
    unfold t
    split
    · exact frame_ledgerWrite (by decide) (Frame.refl _ _)
    · exact Frame.refl _ _
  clear_value v
  split
  · rw [Frame.sec_eq (P := [.txn]) (frame_setRequest (by decide) (Frame.refl _ _)) rfl rfl, hv]
  · rw [releaseAnswer_challenge, hv]

theorem abortAll_challenge (s : State) : (abortAll s).sec.challenge = s.sec.challenge := by
  unfold abortAll
  refine (forAll_keeps (g := fun t => t.sec.challenge) (fun q t => finish_challenge ..) _ _).trans ?_
  refine forAll_keeps (g := fun t => t.sec.challenge) (fun r t => ?_) _ _
  extract_lets q u
  have hu : u.sec = t.sec := Frame.sec_eq (P := [.pkg, .recp, .core, .mirror, .leaves, .power, .ctrs])
    (frame_bump (by decide) (frame_dropRecipe (by decide) (Frame.refl _ _))) rfl rfl
  clear_value u
  exact (finish_challenge ..).trans (congrArg SecurityState.challenge hu)

theorem endSessions_challenge (c : Session → Bool) (s : State) : (endSessions c s).sec.challenge = s.sec.challenge := rfl
theorem zeroiseKeys_challenge (s : State) : (zeroiseKeys s).sec.challenge = s.sec.challenge := rfl

theorem notify_challenge (code : Nat) (payload : List Byte) (s : State) : (notify code payload s).sec.challenge = s.sec.challenge :=
  have hframe : Frame [.ledger, .leaves, .sessions, .rings, .kodp, .ctrs, .out] s (notify code payload s) := frame_notify (by decide) (Frame.refl _ s)
  (congrArg SecurityState.challenge (hframe.sec_rest rfl) :)

theorem eraseForDebug_challenge (s : State) : (eraseForDebug s).sec.challenge = s.sec.challenge := by
  unfold eraseForDebug
  extract_lets t u v w x
  have ht : t.sec.challenge = s.sec.challenge := by
    show (abortAll (releaseFrames s)).sec.challenge = _
    rw [abortAll_challenge, Frame.sec_eq (P := [.twin, .out]) (frame_releaseFrames (by decide) (Frame.refl _ _)) rfl rfl]
  have hu : u.sec = t.sec := Frame.sec_eq (P := [.pkg, .link, .txn, .ledger, .mirror, .traffic, .leaves])
    (frame_disableAll (by decide) (frame_onPkg (by decide) (Frame.refl _ t))) rfl rfl
  have hw : w.sec = v.sec := by
    refine Frame.sec_eq (P := [.core]) (frame_forAll (fun c z hz => ?_) (Frame.refl _ v)) rfl rfl
    split
    · exact frame_clearCore (by decide) hz
    · exact hz
  have hx : x.sec.challenge = w.sec.challenge := (endSessions_challenge _ _).trans (zeroiseKeys_challenge w)
  have hv : v.sec = u.sec := rfl
  rw [notify_challenge, hx, hw, hv, hu, ht]

/-- The state in which a good token is answered. -/
def tokenTaken (b : List Byte) (k : Token) (s : State) : State := endDebugHold (takeToken k (bump .tokensAccepted 0 (voidChallenge b s)))

theorem tokenTaken_running (b : List Byte) (k : Token) (s : State) : (tokenTaken b k s).kodp.running = s.kodp.running :=
  Frame.running_eq (P := [.pkg, .link, .txn, .ledger, .dir, .mem, .recp, .core, .twin, .mirror, .traffic, .leaves, .power, .boot, .sec, .sessions, .rings, .kodp, .ctrs, .out])
    (frame_endDebugHold (by decide) (frame_takeToken (by decide) (frame_bump (by decide) (frame_voidChallenge (by decide) (Frame.refl _ s))))) rfl

theorem block6Changed_sec (s : State) : (block6Changed s).sec.rest = s.sec.rest :=
  Frame.sec_rest (P := [.sessions, .kodp]) (frame_block6Changed (by decide) (Frame.refl _ s)) rfl

theorem tokenTaken_sec {b : List Byte} {k : Token} {s : State} (hchallenge : s.sec.challenge = some (leNat ((b.drop 56).take 8))) :
    (tokenTaken b k s).sec.token = some k ∧ (tokenTaken b k s).sec.challenge = none := by
  have hvoid : (voidChallenge b s).sec.challenge = none := if_pos hchallenge
  have hcounted : (bump .tokensAccepted 0 (voidChallenge b s)).sec.challenge = none := by rw [bump, bumpBy, State.onCtrs_sec, hvoid]
  unfold tokenTaken
  generalize bump .tokensAccepted 0 (voidChallenge b s) = t at hcounted ⊢
  have hhold : (endDebugHold (takeToken k t)).sec = (takeToken k t).sec :=
    Frame.sec_eq (P := [.pkg, .boot]) (frame_endDebugHold (by decide) (Frame.refl _ _)) rfl rfl
  rw [hhold]
  have herased : (onlyIf (k.level == 2) eraseForDebug t).sec.challenge = none := by
    unfold onlyIf
    split
    · rw [eraseForDebug_challenge, hcounted]
    · exact hcounted
  unfold takeToken
  generalize onlyIf (k.level == 2) eraseForDebug t = u at herased ⊢
  have hsec : (onlyIf (k.level == 2) (debugPhase true) (block6Changed (u.onSec (fun c => { c with token := some k })))).sec.rest
      = (u.onSec (fun c => { c with token := some k })).sec.rest := by
    refine Eq.trans ?_ (block6Changed_sec _)
    exact Frame.sec_rest (P := [.pkg]) (frame_onlyIf (fun w hw => frame_debugPhase (by decide) hw) (Frame.refl _ _)) rfl
  exact ⟨(congrArg SecurityState.token hsec :), (congrArg SecurityState.challenge hsec :).trans herased⟩

/-! ### A token that is refused -/

/-- The state in which a bad token is answered. -/
def tokenRefused (b : List Byte) (st : Status) (s : State) : State := bump .tokensRefused 0 (onlyIf (st == .integrity) (voidChallenge b) s)

theorem tokenRefused_frame (b : List Byte) (st : Status) (s : State) : Frame [.sec, .ctrs] s (tokenRefused b st s) :=
  frame_bump (by decide) (frame_onlyIf (fun t ht => frame_voidChallenge (by decide) ht) (Frame.refl _ s))

theorem tokenRefused_sec (b : List Byte) (st : Status) (s : State) : (tokenRefused b st s).sec.token = s.sec.token
    ∧ (tokenRefused b st s).ctr .tokensRefused 0 = ctrAdd .tokensRefused (s.ctr .tokensRefused 0) 1 := by
  have hvoid : (onlyIf (st == .integrity) (voidChallenge b) s).sec.token = s.sec.token ∧ (onlyIf (st == .integrity) (voidChallenge b) s).ctrs = s.ctrs := by
    unfold onlyIf
    split <;> exact ⟨rfl, rfl⟩
  refine ⟨hvoid.1, (ctr_bumpBy_same ..).trans ?_⟩
  rw [ctr_of_ctrs hvoid.2]

/-! ### The end of a token (R572, R642) -/

theorem endSessions_out (c : Session → Bool) (s : State) : ∀ e ∈ (endSessions c s).sec.sessions, c e.2 = false := by
  intro e he
  have hout := (List.mem_filter.1 (show e ∈ s.sec.sessions.filter (fun e => !c e.2) from he)).2
  simpa using hout

theorem endToken_none {s : State} (h : s.sec.token = none) : endToken s = s := if_pos (by rw [h]; rfl)

/-- The state without its token, its sessions of tenants and the debug phase. -/
def tokenless (s : State) : State := debugPhase false (block6Changed (s.onSec (fun c => { c with token := none })))

theorem endToken_some {s : State} (h : s.sec.token.isSome = true) : endToken s
    = if s.obs.stop = .stopped ∨ s.obs.stop = .resumeSet then (tokenless s).onObs (fun o => { o with stop := .resumeSet, stopAt := s.now + 10000 })
      else if s.obs.stop = .stopSet then (tokenless s).onObs (fun o => { o with stop := .running }) else tokenless s := by
  have hnot : ¬ (s.sec.token.isNone = true) := by
    rw [← Option.not_isSome, h]; decide
  unfold endToken
  rw [if_neg hnot]
  have hobs : (tokenless s).obs = s.obs := Frame.obs_eq (P := [.pkg, .sec, .sessions, .kodp]) (frame_debugPhase (by decide) (frame_block6Changed (by decide)
    (frame_onSec [.sec] (by decide) (.inr fun _ => rfl) (.inl rfl) (Frame.refl _ s)))) rfl rfl rfl
  have hnow : (tokenless s).now = s.now := by
    unfold State.now
    rw [hobs]
  show (if (tokenless s).obs.stop = .stopped ∨ (tokenless s).obs.stop = .resumeSet then
    (tokenless s).onObs (fun o => { o with stop := .resumeSet, stopAt := (tokenless s).now + 10000 })
    else if (tokenless s).obs.stop = .stopSet then (tokenless s).onObs (fun o => { o with stop := .running }) else tokenless s) = _
  rw [hobs, hnow]

theorem endToken_sec {s : State} (h : s.sec.token.isSome = true) : (endToken s).sec.token = none ∧ ∀ e ∈ (endToken s).sec.sessions, e.2.tenant = none := by
  have hsec : (endToken s).sec = (tokenless s).sec := by
    rw [endToken_some h]
    split
    · rfl
    · split <;> rfl
  rw [hsec]
  refine ⟨(congrArg SecurityState.token (block6Changed_sec (s.onSec (fun c => { c with token := none }))) :), fun e he => ?_⟩
  have hout := endSessions_out (fun n => n.tenant.isSome) (s.onSec (fun c => { c with token := none })) e he
  simpa using hout

theorem endToken_running (s : State) : (endToken s).kodp.running = s.kodp.running :=
  Frame.running_eq (P := [.pkg, .sec, .sessions, .obs, .kodp]) (frame_endToken (by decide) (Frame.refl _ s)) rfl

/-- A message in a session changes no session's tenant. -/
theorem Handled.noTenants {s t : State} (h : Handled s t) (hs : ∀ e ∈ s.sec.sessions, e.2.tenant = none) : ∀ e ∈ t.sec.sessions, e.2.tenant = none := by
  intro e he
  have hmem : (e.1, { e.2 with sent := 0 }) ∈ t.sessionsHeld := List.mem_map.2 ⟨e, he, rfl⟩
  rw [h.sessions] at hmem
  obtain ⟨x, hx, heq⟩ := List.mem_map.1 hmem
  have htenant := (congrArg (fun e : Nat × Session => e.2.tenant) heq :)
  exact (show e.2.tenant = x.2.tenant from htenant.symm).trans (hs x hx)

/-! ### O44 -/

section
variable {s : State} {r : Req}

theorem debugChallenge_fresh : Replies (.debugChallenge r) s (cmdObj 0x1E20 3 (roleOp + roleDebug)) r 0 [] .ok (leBytes 8 (Config.freeNat s.free % 2 ^ 64)) (fun t =>
    t.sec.challenge = some (Config.freeNat s.free % 2 ^ 64) ∧ s.free < t.free) := by
  refine replies_handled (fun b => (useFree b).onSec (fun c => { c with challenge := some (Config.freeNat b.free % 2 ^ 64) })) rfl rfl rfl rfl rfl
    (fun b hb => ?_) (fun b _ => rfl) fun b t hb ht => ⟨?_, ?_⟩
  · rw [hb.frame.free_eq rfl]
  · rw [ht.challenge, ← hb.frame.free_eq rfl]
    rfl
  · rw [ht.frame.free_eq rfl, ← hb.frame.free_eq rfl]
    exact Nat.lt_succ_self b.free

/-- The object of DEBUG_TOKEN. -/
def tokenObj : OpObj := { index := 0x1E20, sub := 4, type := 3, roles := 0, any := true }

/-- Outside the boot phase a token is judged, and answered as it is judged. -/
theorem exec_debugToken {token : List Byte} (hphase : s.pkg.phase ≠ .boot) : exec (.debugToken r token) s
    = .next (operate tokenObj r token 0 Verdict.ok (fun b => match b.judgeToken token with
      | .good k => reply tokenObj r .ok [] (tokenTaken token k b)
      | .bad st => reply tokenObj r st [] (tokenRefused token st b)) s) := by
  have hboot : (s.pkg.phase == .boot) = false := beq_eq_false_iff_ne.2 hphase
  rw [exec, execDebugToken, hboot] <;> rfl

theorem debugToken_judged {token : List Byte} (hphase : s.pkg.phase ≠ .boot) (hacc : s.accepts tokenObj r 0 token = true) : Does (.debugToken r token) s (fun t =>
    (∀ e, s.judgeToken token = .bad e → Answered tokenObj r e [] t ∧ t.sec.token = s.sec.token ∧ Counts .tokensRefused 0 1 s t ∧ t.mem = s.mem)
    ∧ (∀ k, s.judgeToken token = .good k → Answered tokenObj r .ok [] t ∧ t.sec.token = some k ∧ t.sec.challenge = none)) := by
  cases hjudge : s.judgeToken token with
  | bad e =>
    have hreplies : Replies (.debugToken r token) s tokenObj r 0 token e [] (fun t => t.sec.token = s.sec.token ∧ Counts .tokensRefused 0 1 s t ∧ t.mem = s.mem) := by
      refine replies_handled (tokenRefused token e) (exec_debugToken hphase) rfl rfl rfl rfl (fun b hb => ?_)
        (fun b _ => (tokenRefused_frame token e b).running_eq rfl) fun b t hb ht => ⟨?_, ?_, ?_⟩
      · rw [hb.judgeToken, hjudge]
      · rw [ht.token, (tokenRefused_sec token e b).1, hb.token]
      · unfold Counts
        rw [ht.ctr _ (by decide), (tokenRefused_sec token e b).2, hb.ctr _ (by decide)]
      · rw [ht.frame.mem_eq rfl, (tokenRefused_frame token e b).mem_eq rfl, hb.frame.mem_eq rfl]
    obtain ⟨t, ht, hanswered, hq⟩ := hreplies hacc
    exact ⟨t, ht, fun e' he => by cases he; exact ⟨hanswered, hq⟩, nofun⟩
  | good k =>
    have hreplies : Replies (.debugToken r token) s tokenObj r 0 token .ok [] (fun t => t.sec.token = some k ∧ t.sec.challenge = none) := by
      refine replies_handled (tokenTaken token k) (exec_debugToken hphase) rfl rfl rfl rfl (fun b hb => ?_) (fun b _ => tokenTaken_running token k b)
        fun b t hb ht => ?_
      · rw [hb.judgeToken, hjudge]
      · rw [ht.token, ht.challenge]
        exact tokenTaken_sec (hb.challenge.trans (challenge_of_good hjudge))
    obtain ⟨t, ht, hanswered, hq⟩ := hreplies hacc
    exact ⟨t, ht, nofun, fun k' hk => by cases hk; exact ⟨hanswered, hq⟩⟩

theorem debugWithdraw_ends (htoken : s.sec.token.isSome = true) : Replies (.debugWithdraw r) s (cmdObj 0x1E20 5 (roleOp + roleDebug)) r 0 [] .ok [] (fun t =>
    t.sec.token = none ∧ (t.sec.sessions.all fun e => e.2.tenant.isNone) = true ∧ t.mem = s.mem) := by
  refine replies_effect (eff := endToken) rfl rfl rfl (show s.sec.token.isNone = false by rw [← Option.not_isSome, htoken]; rfl) rfl
    (fun b _ => endToken_running b) fun b t hb ht => ?_
  obtain ⟨hnone, hsessions⟩ := endToken_sec (s := b) (by rw [hb.token]; exact htoken)
  refine ⟨ht.token.trans hnone, ?_, ?_⟩
  · exact List.all_eq_true.2 fun e he => by rw [ht.noTenants hsessions e he]; rfl
  · rw [ht.frame.mem_eq rfl, Frame.mem_eq (P := [.pkg, .sec, .sessions, .obs, .kodp]) (frame_endToken (by decide) (Frame.refl _ b)) rfl, hb.frame.mem_eq rfl]

theorem debugKeySet_set (hstandby : s.standby = false) (key : Nat) : Replies (.debugKeySet r key) s (cmdObj 0x1E20 6 roleOp) r 0 (leBytes 96 key)
    (if Config.p384Valid key = true then .ok else .unsupported) [] (fun t => t.sec.debugKey = if Config.p384Valid key = true then some key else s.sec.debugKey) := by
  by_cases hkey : Config.p384Valid key = true
  · rw [if_pos hkey, if_pos hkey]
    exact replies_effect (eff := fun b => b.onSec (fun c => { c with debugKey := some key })) rfl (show (!Config.p384Valid key) = false by rw [hkey]; rfl) hstandby rfl rfl
      (fun b _ => rfl) fun b t hb ht => ht.debugKey
  · rw [if_neg hkey, if_neg hkey]
    exact refused_bad rfl (show (!Config.p384Valid key) = true by rw [Bool.not_eq_true', Bool.eq_false_iff]; exact hkey) rfl fun t ht => ht.debugKey

theorem debugTokenExpiry_ends (htoken : s.sec.token.isSome = true) : Does .debugTokenExpiry s (fun t => t.sec.token = none
    ∧ (t.sec.sessions.all fun e => e.2.tenant.isNone) = true ∧ (s.obs.stop = .stopped → t.obs.stop = .resumeSet ∧ t.obs.stopAt = s.now + 10000) ∧ t.mem = s.mem) := by
  obtain ⟨hnone, hsessions⟩ := endToken_sec htoken
  refine ⟨_, rfl, hnone, ?_, fun hstopped => ?_, Frame.mem_eq (P := [.pkg, .sec, .sessions, .obs, .kodp]) (frame_endToken (by decide) (Frame.refl _ s)) rfl⟩
  · exact List.all_eq_true.2 fun e he => by rw [hsessions e he]; rfl
  · rw [endToken_some htoken, if_pos (.inl hstopped)]
    exact ⟨rfl, rfl⟩

end

/-- Settles O44: a token is judged by what no message changes, so the state it is answered in is that of its judgement; the end of a token takes the
sessions of tenants out, and the answer brings none back. -/
theorem debugTokens : Obligations.DebugTokens := by
  unfold Obligations.DebugTokens
  intro s r
  refine ⟨debugChallenge_fresh, fun token hphase hacc => debugToken_judged hphase hacc, fun token hlen => judgeToken_length hlen, debugWithdraw_ends,
    fun hnone => ?_, fun key hstandby => debugKeySet_set hstandby key, debugTokenExpiry_ends, fun hnone => ⟨_, rfl, endToken_none hnone⟩⟩
  exact refused_state rfl rfl rfl (show s.sec.token.isNone = true by rw [hnone]; rfl) fun t ht => ht.sec

end Sys2Proof.Machine
end

section
/-!
PROOF. Global time, snapshots and the debug stop (R618 to R621, R626, R638 to R642).
-/
namespace Sys2Proof.Machine

/-! ### Islands -/

section
variable {s : State} {r : Req}

theorem stepTo_time1 (g : Nat) (s : State) : (stepTo 1 g s).obs.time1
      = { s.obs.time1 with counter := g, offset := (g : Int) - (s.timeOf 1 : Int), slew := 0 } ∧ (stepTo 1 g s).obs.time0 = s.obs.time0 := ⟨rfl, rfl⟩

theorem stepTo_time0 (g : Nat) (s : State) : (stepTo 0 g s).obs.time0
      = { s.obs.time0 with counter := g, offset := (g : Int) - (s.timeOf 0 : Int), slew := 0 } ∧ (stepTo 0 g s).obs.time1 = s.obs.time1 := ⟨rfl, rfl⟩

theorem stepTo_counts (die g : Nat) (s : State) : Counts .timeSteps die 1 s (stepTo die g s) := by
  unfold stepTo
  refine (ctr_bumpBy_same ..).trans (congrArg (ctrAdd _ · 1) ?_)
  exact Frame.ctr_eq (P := [.time, .rings]) (frame_crumb (by decide) (frame_setIsland (by decide) (Frame.refl _ s))) rfl _ _

theorem stepTo_ctr {c : Ctr} (hc : c ≠ .timeSteps) (u die g : Nat) (s : State) : (stepTo die g s).ctr c u = s.ctr c u := by
  unfold stepTo
  refine (ctr_bump_ne hc ..).trans ?_
  exact Frame.ctr_eq (P := [.time, .rings]) (frame_crumb (by decide) (frame_setIsland (by decide) (Frame.refl _ s))) rfl _ _

theorem timeFault_frame (die : Nat) (off : Int) (s : State) : Frame [.ledger, .leaves, .sessions, .rings, .kodp, .ctrs, .out] s (timeFault die off s) :=
  frame_timeFault (by decide) (Frame.refl _ s)

theorem timeFault_counts (die : Nat) (off : Int) (s : State) : Counts .timeFaults die 1 s (timeFault die off s) := by
  unfold timeFault
  refine (ctr_bumpBy_same ..).trans (congrArg (ctrAdd _ · 1) ?_)
  exact notify_ctr (by decide) ..

/-! ### Die 1's island follows Die 0's (R618, R619) -/

theorem exec_die1TimeSync (hruns : s.timeRuns = true) : exec .die1TimeSync s = .next (steer 1 s.obs.time0.counter s) := by
  rw [exec, execDie1TimeSync, hruns]
  rfl

/-- How far Die 1's island is behind Die 0's. -/
def State.behind (s : State) : Int := (s.obs.time0.counter : Int) - (s.obs.time1.counter : Int)

theorem steer_slews (hlow : s.behind < 256000) (hhigh : -256000 < s.behind ∨ s.obs.time1.everLocked = true) : ∃ f : TimeIsland → TimeIsland,
    steer 1 s.obs.time0.counter s = setIsland 1 f (onlyIf (decide (s.behind ≤ -256000)) (timeFault 1 s.behind) s)
      ∧ (∀ t, (f t).counter = t.counter ∧ (f t).slew = s.behind) := by
  have hno : ¬ ((256000 : Int) ≤ s.behind ∨ (s.behind ≤ -256000 ∧ s.obs.time1.everLocked = false)) := by
    rintro (h | ⟨h, hnever⟩)
    · omega
    · rcases hhigh with h' | h'
      · omega
      · rw [hnever] at h'; cases h'
  exact ⟨_, if_neg hno, fun t => ⟨rfl, rfl⟩⟩

theorem steer_steps (hahead : 256000 ≤ s.behind) : steer 1 s.obs.time0.counter s
    = if s.obs.time1.st = .locked then timeFault 1 s.behind (stepTo 1 s.obs.time0.counter s)
      else setIsland 1 (fun t => { t with st := .locking, n := 0 }) (stepTo 1 s.obs.time0.counter s) :=
  if_pos (.inl hahead)

theorem die1TimeSync_slews (hruns : s.timeRuns = true) (hnear : ((s.obs.time0.counter : Int) - s.obs.time1.counter).natAbs < 256000) :
    Does .die1TimeSync s (fun t => t.obs.time1.counter = s.obs.time1.counter ∧ t.obs.time1.slew = (s.obs.time0.counter : Int) - s.obs.time1.counter
      ∧ t.obs.time0 = s.obs.time0 ∧ Frame [.time] s t) := by
  have hb : s.behind = (s.obs.time0.counter : Int) - s.obs.time1.counter := rfl
  obtain ⟨f, hsteer, hf⟩ := steer_slews (s := s) (by omega) (.inl (by omega))
  have hquiet : decide (s.behind ≤ -256000) = false := decide_eq_false (by omega)
  rw [hquiet] at hsteer
  refine ⟨_, (exec_die1TimeSync hruns).trans (congrArg _ hsteer), (hf _).1, (hf _).2, rfl, frame_setIsland (by decide) (Frame.refl _ s)⟩

theorem die1TimeSync_steps (hruns : s.timeRuns = true) (hbehind : s.obs.time1.counter + 256000 ≤ s.obs.time0.counter) (hst : s.obs.time1.st ≠ .locked) :
    Does .die1TimeSync s (fun t => t.obs.time1.counter = s.obs.time0.counter ∧ t.obs.time1.st = .locking ∧ t.obs.time1.n = 0 ∧ t.obs.time0 = s.obs.time0
      ∧ Counts .timeSteps 1 1 s t ∧ Frame [.time, .rings, .ctrs] s t) := by
  have hb : s.behind = (s.obs.time0.counter : Int) - s.obs.time1.counter := rfl
  refine ⟨_, (exec_die1TimeSync hruns).trans (congrArg _ ((steer_steps (by omega)).trans (if_neg hst))), rfl, rfl, rfl, rfl, ?_,
    frame_setIsland (by decide) (frame_stepTo (by decide) (Frame.refl _ s))⟩
  exact (ctr_of_ctrs rfl ..).trans (stepTo_counts 1 s.obs.time0.counter s)

theorem die1TimeSync_faults (hruns : s.timeRuns = true) (hbehind : s.obs.time1.counter + 256000 ≤ s.obs.time0.counter) (hst : s.obs.time1.st = .locked) :
    Does .die1TimeSync s (fun t => t.obs.time1.counter = s.obs.time0.counter ∧ Counts .timeFaults 1 1 s t ∧ t.mem = s.mem) := by
  have hb : s.behind = (s.obs.time0.counter : Int) - s.obs.time1.counter := rfl
  have hf := timeFault_frame 1 s.behind (stepTo 1 s.obs.time0.counter s)
  refine ⟨_, (exec_die1TimeSync hruns).trans (congrArg _ ((steer_steps (by omega)).trans (if_pos hst))), ?_, ?_, ?_⟩
  · rw [(hf.time_eq rfl).2, (stepTo_time1 ..).1]
  · have hcount := timeFault_counts 1 s.behind (stepTo 1 s.obs.time0.counter s)
    unfold Counts at hcount ⊢
    rwa [stepTo_ctr (by decide)] at hcount
  · rw [hf.mem_eq rfl]
    rfl

theorem die1TimeSync_refuses (hruns : s.timeRuns = true) (hahead : s.obs.time0.counter + 256000 ≤ s.obs.time1.counter) (hever : s.obs.time1.everLocked = true) :
    Does .die1TimeSync s (fun t => t.obs.time1.counter = s.obs.time1.counter ∧ Counts .timeFaults 1 1 s t ∧ t.mem = s.mem) := by
  have hb : s.behind = (s.obs.time0.counter : Int) - s.obs.time1.counter := rfl
  obtain ⟨f, hsteer, hf⟩ := steer_slews (s := s) (by omega) (.inr hever)
  have hloud : decide (s.behind ≤ -256000) = true := decide_eq_true (by omega)
  rw [hloud] at hsteer
  have hframe := timeFault_frame 1 s.behind s
  refine ⟨_, (exec_die1TimeSync hruns).trans (congrArg _ hsteer), (hf _).1.trans ?_, ?_, ?_⟩
  · exact congrArg TimeIsland.counter (hframe.time_eq rfl).2
  · exact (ctr_of_ctrs rfl ..).trans (timeFault_counts 1 s.behind s)
  · exact hframe.mem_eq rfl

/-! ### Holdover and the root (R620, R621) -/

/-- Whether a port shows a TIME_SYNC of the last 10 ms. -/
def State.timeFresh (s : State) : Bool := s.timeSources.any (fun e => decide (s.now < e.2.at_ + 10000000))

theorem timeFresh_iff : s.timeFresh = true ↔ ∃ e ∈ s.timeSources, s.now < e.2.at_ + 10000000 := by
  simp [State.timeFresh]

theorem holdoverEntry_enters (hroot : s.obs.time0.st ≠ .root) (hhold : s.obs.time0.st ≠ .holdover) (hold : ∀ e ∈ s.timeSources, e.2.at_ + 10000000 ≤ s.now) :
    Does .holdoverEntry s (fun t => t.obs.time0.st = .holdover ∧ t.obs.time0.counter = s.obs.time0.counter ∧ t.obs.time0.rateAdj = s.obs.time0.rateAdj
      ∧ t.txn.timeParent = none ∧ t.obs.time1 = s.obs.time1 ∧ Frame [.txn, .time] s t) := by
  have hno : ¬ (s.obs.time0.st = .root ∨ s.obs.time0.st = .holdover ∨ s.timeFresh = true) := by
    rintro (h | h | h)
    · exact hroot h
    · exact hhold h
    · obtain ⟨e, he, hlt⟩ := timeFresh_iff.1 h
      exact absurd (hold e he) (by omega)
  refine ⟨_, congrArg Host.Outcome.next (if_neg hno), rfl, rfl, rfl, rfl, rfl, ?_⟩
  exact frame_setIsland (by decide) (frame_onTxn [.txn] (by decide) (.inr fun _ => rfl) (.inl rfl) (Frame.refl _ s))

theorem holdoverEntry_stays (h : s.obs.time0.st = .root ∨ s.obs.time0.st = .holdover ∨ ∃ e ∈ s.timeSources, s.now < e.2.at_ + 10000000) :
    Does .holdoverEntry s (fun t => t = s) := by
  rw [← timeFresh_iff] at h
  exact ⟨_, rfl, if_pos h⟩

theorem obj_setObj_same (o : Obj) (v : Nat) (s : State) : (setObj o v s).obj o = v := by
  show (aget (aset s.kodp.objs o v) o).getD _ = v
  rw [aget_aset_same]
  rfl

theorem Handled.obs {s t : State} (h : Handled s t) : t.obs = s.obs := h.frame.obs_eq rfl rfl rfl

theorem Handled.timeParent {s t : State} (h : Handled s t) : t.txn.timeParent = s.txn.timeParent := (congrArg TxnState.timeParent (h.frame.txn_rest rfl) :)

theorem rootWrite_running (v : Nat) (s : State) : (rootWrite v s).kodp.running = s.kodp.running :=
  Frame.running_eq (P := [.txn, .time, .dict]) (frame_rootWrite (by decide) (Frame.refl _ s)) rfl

theorem timeRoot_taken : Replies (.timeRootWrite r 1) s (writeObj .timeRoot) r 1 (leBytes 1 1) .ok [] (fun t => t.obj .timeRoot = 1 ∧ t.obs.time0.st = .root
    ∧ t.obs.time0.counter = s.obs.time0.counter ∧ t.obs.time0.rateAdj = 0 ∧ t.obs.time1 = s.obs.time1 ∧ t.txn.timeParent = none) := by
  refine replies_effect (eff := rootWrite 1) rfl rfl rfl rfl rfl (fun b _ => rootWrite_running 1 b) fun b t hb ht => ?_
  have hobs : b.obs = s.obs := hb.obs
  have hroot : (rootWrite 1 b).obs.time0 = { b.obs.time0 with st := .root, rateAdj := 0, slew := 0, everLocked := true }
      ∧ (rootWrite 1 b).obs.time1 = b.obs.time1 ∧ (rootWrite 1 b).txn.timeParent = none := ⟨rfl, rfl, rfl⟩
  obtain ⟨htime0, htime1, hparent⟩ := hroot
  rw [ht.obs, ht.timeParent, htime0, htime1, hobs, ht.frame.obj_eq rfl]
  exact ⟨obj_setObj_same .timeRoot 1 b, rfl, rfl, rfl, rfl, hparent⟩

/-- What giving the root up leaves of Die 0's island. -/
theorem rootWrite_zero (s : State) : (rootWrite 0 s).obj .timeRoot = 0 ∧ (rootWrite 0 s).obs.time1 = s.obs.time1
    ∧ (rootWrite 0 s).obs.time0.counter = s.obs.time0.counter ∧ (rootWrite 0 s).obs.time0.st = (if s.obs.time0.st = .root then .holdover else s.obs.time0.st)
    ∧ (s.obs.time0.st = .root → (rootWrite 0 s).obs.time0.rateAdj = 0) := by
  unfold rootWrite
  dsimp only
  rw [if_neg (by decide)]
  by_cases h : s.obs.time0.st = .root
  · rw [if_pos h, if_pos h]
    exact ⟨obj_setObj_same .timeRoot 0 s, rfl, rfl, rfl, fun _ => rfl⟩
  · rw [if_neg h, if_neg h]
    exact ⟨obj_setObj_same .timeRoot 0 s, rfl, rfl, rfl, fun h' => absurd h' h⟩

theorem timeRoot_left : Replies (.timeRootWrite r 0) s (writeObj .timeRoot) r 1 (leBytes 1 0) .ok [] (fun t => t.obj .timeRoot = 0
    ∧ t.obs.time0.counter = s.obs.time0.counter ∧ t.obs.time0.st = (if s.obs.time0.st = .root then .holdover else s.obs.time0.st)
    ∧ (s.obs.time0.st = .root → t.obs.time0.rateAdj = 0) ∧ t.obs.time1 = s.obs.time1) := by
  refine replies_effect (eff := rootWrite 0) rfl rfl rfl rfl rfl (fun b _ => rootWrite_running 0 b) fun b t hb ht => ?_
  obtain ⟨hobj, htime1, hcounter, hst, hrate⟩ := rootWrite_zero b
  rw [ht.obs, ht.frame.obj_eq rfl, ← hb.obs]
  exact ⟨hobj, hcounter, hst, hrate, htime1⟩

theorem timeRoot_bad {v : Nat} (hv : 1 < v) : Replies (.timeRootWrite r v) s (writeObj .timeRoot) r 1 (leBytes 1 v) .unsupported [] (fun t =>
    t.obj .timeRoot = s.obj .timeRoot ∧ t.obs.time0 = s.obs.time0) :=
  refused_bad rfl (decide_eq_true hv) rfl fun t ht => ⟨ht.frame.obj_eq rfl _, congrArg ObserveState.time0 ht.obs⟩

/-- Whether TIME_SET is refused. -/
def timeSetVerdict (time frac : Nat) (s : State) : Verdict :=
  { Verdict.ok with bad := decide (time ≥ 2 ^ 64) || decide (frac ≥ 256), state := s.obj .timeRoot != 1 || !s.part.slots.isEmpty }

theorem exec_timeSet (time frac : Nat) : exec (.timeSet r time frac) s = .next (operateOk (cmdObj 0x2120 1 roleOp) r (leBytes 8 time ++ leBytes 1 frac) 8
    (timeSetVerdict time frac s) (stepTo 0 (time * 256 + frac)) s) := rfl

theorem timeSet_set {time frac : Nat} (htime : time < 2 ^ 64) (hfrac : frac < 256) :
    (s.obj .timeRoot = 1 → s.part.slots = [] → Replies (.timeSet r time frac) s (cmdObj 0x2120 1 roleOp) r 8 (leBytes 8 time ++ leBytes 1 frac) .ok [] (fun t =>
      t.obs.time0.counter = time * 256 + frac ∧ t.obs.time0.slew = 0 ∧ t.obs.time1 = s.obs.time1 ∧ Counts .timeSteps 0 1 s t ∧ t.mem = s.mem))
    ∧ (s.obj .timeRoot ≠ 1 ∨ s.part.slots ≠ [] → Replies (.timeSet r time frac) s (cmdObj 0x2120 1 roleOp) r 8 (leBytes 8 time ++ leBytes 1 frac) .refusedState []
      (fun t => t.obs.time0 = s.obs.time0)) := by
  have hbad : (timeSetVerdict time frac s).bad = false := by
    show (decide (time ≥ 2 ^ 64) || decide (frac ≥ 256)) = false
    rw [decide_eq_false (by omega), decide_eq_false (by omega)]
    rfl
  have hrunning (b : State) : (stepTo 0 (time * 256 + frac) b).kodp.running = b.kodp.running :=
    Frame.running_eq (P := [.time, .rings, .ctrs]) (frame_stepTo (by decide) (Frame.refl _ b)) rfl
  refine ⟨fun hroot hslots => ?_, fun h => ?_⟩
  · have hstate : (timeSetVerdict time frac s).state = false := by
      show (s.obj .timeRoot != 1 || !s.part.slots.isEmpty) = false
      rw [hroot, hslots]
      rfl
    refine replies_effect (exec_timeSet time frac) hbad rfl hstate rfl (fun b _ => hrunning b) fun b t hb ht => ?_
    obtain ⟨htime0, htime1⟩ := stepTo_time0 (time * 256 + frac) b
    rw [ht.obs, htime0, htime1, hb.obs, ht.frame.mem_eq rfl]
    refine ⟨rfl, rfl, rfl, ?_, (show (stepTo 0 (time * 256 + frac) b).mem = b.mem from rfl).trans (hb.frame.mem_eq rfl)⟩
    unfold Counts
    rw [ht.ctr _ (by decide), stepTo_counts, hb.ctr _ (by decide)]
  · have hstate : (timeSetVerdict time frac s).state = true := by
      show (s.obj .timeRoot != 1 || !s.part.slots.isEmpty) = true
      rcases h with h | h
      · rw [bne_iff_ne.2 h, Bool.true_or]
      · rw [List.isEmpty_eq_false_iff.2 h, Bool.not_false, Bool.or_true]
    exact refused_state (exec_timeSet time frac) hbad rfl hstate fun t ht => congrArg ObserveState.time0 ht.obs

/-! ### Snapshots (R626) -/

/-- Whether a time that an operation names is refused: it is to be 10 µs ahead. -/
theorem timeBad_false {at_ : Nat} (hfits : at_ < 2 ^ 64) (hahead : s.now + 10000 ≤ at_) : (decide (at_ < s.now + 10000) || decide (at_ ≥ 2 ^ 64)) = false := by
  rw [decide_eq_false (by omega), decide_eq_false (by omega)]
  rfl

theorem counterSnapshot_starts {at_ : Nat} (hfits : at_ < 2 ^ 64) (hahead : s.now + 10000 ≤ at_) :
    Starts (.counterSnapshot r at_) s (cmdObj 0x2120 2 (roleOp + roleDebug)) r 8 (leBytes 8 at_) (fun t => t.obs.snapAt = s.obs.snapAt ++ [(at_, r)] ∧ t.mem = s.mem) := by
  refine starts_of_operate rfl (timeBad_false hfits hahead) rfl rfl rfl rfl (runningOf_mem_begun ..) ⟨?_, ?_⟩
  · show (begun (cmdObj 0x2120 2 (roleOp + roleDebug)) r (leBytes 8 at_) 8 s).obs.snapAt ++ [(at_, r)] = _
    rw [(begun_handled ..).obs]
  · exact (begun_handled (cmdObj 0x2120 2 (roleOp + roleDebug)) r (leBytes 8 at_) 8 s).frame.mem_eq rfl

theorem counterSnapshot_late {at_ : Nat} (hlate : at_ < s.now + 10000) :
    Replies (.counterSnapshot r at_) s (cmdObj 0x2120 2 (roleOp + roleDebug)) r 8 (leBytes 8 at_) .unsupported [] (fun t => t.obs.snapAt = s.obs.snapAt) :=
  have hbad : (decide (at_ < s.now + 10000) || decide (at_ ≥ 2 ^ 64)) = true := by rw [decide_eq_true hlate, Bool.true_or]
  refused_bad rfl hbad rfl fun t ht => congrArg ObserveState.snapAt ht.obs

theorem snapshotAtT_copies {at_ : Nat} (hone : s.obs.snapAt = [(at_, r)]) : Does .snapshotAtT s (fun t => t.obs.snapAt = [] ∧ t.obs.snapshot = s.ctrs ∧ t.mem = s.mem) := by
  have hexec : exec .snapshotAtT s = .next (reply (cmdObj 0x2120 2 (roleOp + roleDebug)) r .ok []
      (s.onObs (fun o => { o with snapAt := o.snapAt.erase (at_, r), snapshot := s.ctrs }))) := by
    rw [exec, execSnapshotAtT, hone]
    rfl
  have hf := reply_frame (cmdObj 0x2120 2 (roleOp + roleDebug)) r .ok [] (s.onObs (fun o => { o with snapAt := o.snapAt.erase (at_, r), snapshot := s.ctrs }))
  have hrest := hf.obs_rest rfl
  refine ⟨_, hexec, (congrArg ObserveState.snapAt hrest :).trans ?_, (congrArg ObserveState.snapshot hrest :), hf.mem_eq rfl⟩
  show s.obs.snapAt.erase (at_, r) = []
  rw [hone]
  simp

theorem snapshotAtT_none (hnone : s.obs.snapAt = []) : Does .snapshotAtT s (fun t => t = s) := by
  refine ⟨s, ?_, rfl⟩
  rw [exec, execSnapshotAtT, hnone]
  rfl

/-! ### The debug stop (R638 to R642) -/

theorem debugStop_set {at_ : Nat} (hfits : at_ < 2 ^ 64) (hahead : s.now + 10000 ≤ at_) :
    (s.obs.stop = .running → Replies (.debugStop r at_) s (cmdObj 0x2120 8 roleDebug) r 8 (leBytes 8 at_) .ok [] (fun t => t.obs.stop = .stopSet ∧ t.obs.stopAt = at_
      ∧ t.obs.capture = [] ∧ t.obs.crossings = [] ∧ t.mem = s.mem))
    ∧ (s.obs.stop ≠ .running → Replies (.debugStop r at_) s (cmdObj 0x2120 8 roleDebug) r 8 (leBytes 8 at_) .refusedState [] (fun t => t.obs.stop = s.obs.stop
      ∧ t.obs.stopAt = s.obs.stopAt)) := by
  refine ⟨fun hrunning => ?_, fun hnot => ?_⟩
  · have hstate : (s.obs.stop != .running) = false := by rw [hrunning]; rfl
    refine replies_effect (eff := fun b => b.onObs (fun o => { o with stop := .stopSet, stopAt := at_, capture := [], crossings := [] })) rfl
      (timeBad_false hfits hahead) rfl hstate rfl (fun b _ => rfl) fun b t hb ht => ?_
    rw [ht.obs, ht.frame.mem_eq rfl]
    exact ⟨rfl, rfl, rfl, rfl, hb.frame.mem_eq rfl⟩
  · have hstate : (s.obs.stop != .running) = true := bne_iff_ne.2 hnot
    exact refused_state rfl (timeBad_false hfits hahead) rfl hstate fun t ht => by rw [ht.obs]; exact ⟨rfl, rfl⟩

theorem debugResume_set {at_ : Nat} (hfits : at_ < 2 ^ 64) (hahead : s.now + 10000 ≤ at_) :
    (s.frozen = true → Replies (.debugResume r at_) s (cmdObj 0x2120 9 roleDebug) r 8 (leBytes 8 at_) .ok [] (fun t => t.obs.stop = .resumeSet
      ∧ t.obs.stopAt = at_ ∧ t.obs.capture = s.obs.capture ∧ t.mem = s.mem))
    ∧ (s.frozen = false → Replies (.debugResume r at_) s (cmdObj 0x2120 9 roleDebug) r 8 (leBytes 8 at_) .refusedState [] (fun t => t.obs.stop = s.obs.stop)) := by
  refine ⟨fun hfrozen => ?_, fun hnot => ?_⟩
  · have hstate : (!s.frozen) = false := by rw [hfrozen]; rfl
    refine replies_effect (eff := fun b => b.onObs (fun o => { o with stop := .resumeSet, stopAt := at_ })) rfl
      (timeBad_false hfits hahead) rfl hstate rfl (fun b _ => rfl) fun b t hb ht => ?_
    rw [ht.obs, ht.frame.mem_eq rfl]
    exact ⟨rfl, rfl, (congrArg ObserveState.capture hb.obs :), hb.frame.mem_eq rfl⟩
  · have hstate : (!s.frozen) = true := by rw [hnot]; rfl
    exact refused_state rfl (timeBad_false hfits hahead) rfl hstate fun t ht => by rw [ht.obs]

theorem aget_map_self {V : Type} (f : Nat → V) {l : List Nat} {i : Nat} (hi : i ∈ l) : aget (l.map (fun j => (j, f j))) i = some (f i) := by
  induction l with
  | nil => cases hi
  | cons j rest ih =>
    by_cases hj : j = i
    · subst hj
      simp [aget]
    · have hrest := ih ((List.mem_cons.1 hi).resolve_left (Ne.symm hj))
      simpa [aget, hj] using hrest

/-- The stamps of a freeze: each island's lies within two of its cycles after the time set. -/
def freezeStamps (s : State) : List (Nat × Nat) := (List.range 26).map (fun i => (i, s.obs.stopAt * 256 + Config.freeNat (s.free + i) % (s.twoCycles i + 1)))

/-- What is in the crossings, by their number. -/
def crossingDepth (s : State) (i : Nat) : Nat :=
  if 32 ≤ i ∧ i < 40 then min 255 ((stackOf (i - 32)).map (fun c => ((s.channel c).reqs.filter (fun r => !r.entered)).length)).sum else Config.freeNat (s.free + 26 + i) % 256

theorem crossingDepth_lt (s : State) (i : Nat) : crossingDepth s i < 256 := by
  unfold crossingDepth
  split
  · omega
  · exact Nat.mod_lt _ (by decide)

theorem stopCrumbs_frame (event arg : Nat) (s : State) : Frame [.rings] s (stopCrumbs event arg s) := frame_stopCrumbs (by decide) (Frame.refl _ s)

theorem exec_debugFreeze (hset : s.obs.stop = .stopSet) : exec .debugFreeze s = .next (useFrees 126 ((stopCrumbs 0x000A s.obs.stopAt s).onObs (fun o =>
    { o with stop := .stopped, capture := freezeStamps (stopCrumbs 0x000A s.obs.stopAt s)
             crossings := (List.range 50).map (fun i => (crossingDepth (stopCrumbs 0x000A s.obs.stopAt s) i, Config.freeNat ((stopCrumbs 0x000A s.obs.stopAt s).free + 76 + i))) }))) :=
  congrArg Host.Outcome.next (if_neg (not_not_intro hset))

theorem debugFreeze_freezes (hset : s.obs.stop = .stopSet) : Does .debugFreeze s (fun t => t.obs.stop = .stopped ∧ t.obs.stopAt = s.obs.stopAt ∧ t.obs.capture.length = 26
    ∧ t.obs.crossings.length = 50 ∧ (∀ e ∈ t.obs.crossings, e.1 < 256)
    ∧ (∀ i, i < 26 → ∃ x, aget t.obs.capture i = some x ∧ s.obs.stopAt * 256 ≤ x ∧ x ≤ s.obs.stopAt * 256 + s.twoCycles i)
    ∧ Frame [.obs, .rings, .free] s t) := by
  have hframe := stopCrumbs_frame 0x000A s.obs.stopAt s
  have hat : (stopCrumbs 0x000A s.obs.stopAt s).obs.stopAt = s.obs.stopAt := (congrArg ObserveState.stopAt (hframe.obs_rest rfl) :)
  have hcycles (i : Nat) : (stopCrumbs 0x000A s.obs.stopAt s).twoCycles i = s.twoCycles i := by
    unfold State.twoCycles State.punit
    rw [hframe.power_eq rfl]
  refine ⟨_, exec_debugFreeze hset, rfl, hat, ?_, ?_, ?_, fun i hi => ?_, ?_⟩
  · exact (List.length_map ..).trans List.length_range
  · exact (List.length_map ..).trans List.length_range
  · intro e he
    obtain ⟨i, -, rfl⟩ := List.mem_map.1 he
    exact crossingDepth_lt ..
  · refine ⟨_, aget_map_self _ (List.mem_range.2 hi), ?_, ?_⟩
    · rw [hat]
      exact Nat.le_add_right ..
    · rw [hat, hcycles]
      exact Nat.add_le_add_left (Nat.lt_succ_iff.1 (Nat.mod_lt _ (Nat.succ_pos _))) _
  · exact frame_useFrees (by decide) (frame_onObs [.obs, .rings] (by decide) (.inr fun _ => rfl) (.inl rfl) (.inl rfl) (hframe.mono (by decide)))

theorem debugFreeze_none (hno : s.obs.stop ≠ .stopSet) : Does .debugFreeze s (fun t => t = s) := ⟨_, rfl, if_pos hno⟩

/-- The observation part as a thaw leaves it: the rings of the units that were stopped are marked. -/
def thawed (o : ObserveState) : ObserveState :=
  let rings := (List.range 16).foldl (fun l k => amod l (2, k) Ring.reset id) o.rings
  let rings := (List.range 2).foldl (fun l d => amod l (6, d) Ring.reset id) rings
  { o with stop := .running, rings := rings.map (fun e => if e.1.1 != 8 && e.1.1 != 10 then (e.1, { e.2 with resumed := true }) else e) }

theorem thawed_kept (o : ObserveState) : (thawed o).time0 = o.time0 ∧ (thawed o).stop = .running := by
  simp only [thawed, and_self]

/-- Every Active lease starts anew. -/
def leasesRenewed (s : State) : State :=
  s.onPart (fun p => { p with slots := p.slots.map (fun e => if e.2.st = .active then (e.1, { e.2 with renewedAt := s.now }) else e) })

theorem exec_debugThaw (hset : s.obs.stop = .resumeSet) : exec .debugThaw s = .next (stopCrumbs 0x000B s.obs.stopAt (leasesRenewed (s.onObs thawed))) :=
  congrArg Host.Outcome.next (if_neg (not_not_intro hset))

theorem debugThaw_runs (hset : s.obs.stop = .resumeSet) : Does .debugThaw s (fun t => t.obs.stop = .running ∧ Frame [.obs, .part, .rings] s t
    ∧ t.part.slots.map (fun e => (e.1, { e.2 with renewedAt := 0 })) = s.part.slots.map (fun e => (e.1, { e.2 with renewedAt := 0 }))
    ∧ (∀ e ∈ t.part.slots, e.2.st = .active → e.2.renewedAt = s.now)) := by
  have hthawed : Frame [.obs, .part, .rings] s (s.onObs thawed) :=
    frame_onObs (f := thawed) [.obs, .rings] (by decide) (.inr fun k => by simp only [thawed]) (.inl rfl) (.inl rfl) (Frame.refl _ s)
  have hstop : (s.onObs thawed).obs.stop = .running := (thawed_kept s.obs).2
  have hnow : (s.onObs thawed).now = s.now := congrArg (fun t : TimeIsland => t.counter / 256) (thawed_kept s.obs).1
  have hpart : (s.onObs thawed).part = s.part := State.onObs_part ..
  have hexec := exec_debugThaw hset
  generalize s.onObs thawed = u at hthawed hstop hnow hpart hexec
  have hframe := stopCrumbs_frame 0x000B s.obs.stopAt (leasesRenewed u)
  have hslots : (leasesRenewed u).part.slots = s.part.slots.map (fun e => if e.2.st = .active then (e.1, { e.2 with renewedAt := s.now }) else e) := by
    unfold leasesRenewed
    rw [hnow]
    exact congrArg (List.map _) (congrArg PartnerState.slots hpart)
  refine ⟨_, hexec, (congrArg ObserveState.stop (hframe.obs_rest rfl) :).trans hstop, ?_, ?_, ?_⟩
  · exact frame_stopCrumbs (by decide) (frame_onPart (by decide) hthawed)
  · rw [hframe.part_eq rfl, hslots, List.map_map]
    refine List.map_congr_left fun e _ => ?_
    dsimp only [Function.comp_apply]
    split <;> rfl
  · rw [hframe.part_eq rfl, hslots]
    intro e he hactive
    obtain ⟨x, -, rfl⟩ := List.mem_map.1 he
    split at hactive
    next h => rw [if_pos h]
    next h => exact absurd hactive h

theorem debugThaw_none (hno : s.obs.stop ≠ .resumeSet) : Does .debugThaw s (fun t => t = s) := ⟨_, rfl, if_pos hno⟩

end

/-- Settles O47: Die 1's island is steered by how far it is behind; the operations on time, snapshots and stops have their effect between what no message
changes; a freeze and a thaw are their own state with the crumbs added. -/
theorem timeAndStops : Obligations.TimeAndStops := by
  unfold Obligations.TimeAndStops
  intro s r
  refine ⟨fun hno => ⟨s, by rw [exec, execDie1TimeSync, hno] <;> rfl, rfl⟩,
    fun hruns => ⟨die1TimeSync_slews hruns, die1TimeSync_steps hruns, die1TimeSync_faults hruns, die1TimeSync_refuses hruns⟩,
    holdoverEntry_enters, holdoverEntry_stays, timeRoot_taken, timeRoot_left, fun v hv => timeRoot_bad hv, fun time frac htime hfrac => timeSet_set htime hfrac,
    fun at_ hfits hahead => counterSnapshot_starts hfits hahead, fun at_ hlate => counterSnapshot_late hlate, fun at_ hone => snapshotAtT_copies hone,
    snapshotAtT_none, fun at_ hfits hahead => ?_, debugFreeze_freezes, debugFreeze_none, debugThaw_runs, debugThaw_none⟩
  obtain ⟨hrun, hnot⟩ := debugStop_set (s := s) (r := r) hfits hahead
  obtain ⟨hfrozen, hthawed⟩ := debugResume_set (s := s) (r := r) hfits hahead
  exact ⟨hrun, hnot, hfrozen, hthawed⟩

end Sys2Proof.Machine
end

section
/-!
PROOF. The power states of clusters and stacks: idle, entry, wake (R530 to R539).
-/
namespace Sys2Proof.Machine

/-! ### Loops that touch one of their elements -/

theorem forAll_of_idle {α : Type} {f : α → State → State} {l : List α} {s : State} (h : ∀ a ∈ l, f a s = s) : forAll l f s = s := by
  induction l with
  | nil => rfl
  | cons a l ih =>
    rw [forAll, List.foldl_cons, h a List.mem_cons_self]
    exact ih fun b hb => h b (List.mem_cons_of_mem _ hb)

/-- Where a loop without repetitions does nothing but for one of its elements, before that one acts and after it, it is what that one
does. -/
theorem forAll_of_single {α : Type} {f : α → State → State} {l : List α} {a : α} {s : State} (hl : l.Nodup) (ha : a ∈ l)
    (hbefore : ∀ b ∈ l, b ≠ a → f b s = s) (hafter : ∀ b ∈ l, b ≠ a → f b (f a s) = f a s) : forAll l f s = f a s := by
  obtain ⟨pre, post, rfl⟩ := List.append_of_mem ha
  have hne : ∀ b ∈ pre ++ post, b ≠ a := fun b hb hba => (List.nodup_cons.1 (List.nodup_middle.1 hl)).1 (hba ▸ hb)
  have hmem : ∀ b ∈ pre ++ post, b ∈ pre ++ a :: post := fun b hb => by
    obtain hb | hb := List.mem_append.1 hb
    · exact List.mem_append_left _ hb
    · exact List.mem_append_right _ (List.mem_cons_of_mem _ hb)
  have hpre : forAll pre f s = s := forAll_of_idle fun b hb => hbefore b (hmem b (List.mem_append_left _ hb)) (hne b (List.mem_append_left _ hb))
  have hpost : forAll post f (f a s) = f a s := forAll_of_idle fun b hb =>
    hafter b (hmem b (List.mem_append_right _ hb)) (hne b (List.mem_append_right _ hb))
  calc forAll (pre ++ a :: post) f s = forAll post f (f a (forAll pre f s)) := by rw [forAll, List.foldl_append, List.foldl_cons]; rfl
    _ = f a s := by rw [hpre, hpost]

/-! ### Units -/

theorem punit_setPunit_same (u : Nat) (f : PowerUnit → PowerUnit) (s : State) : (setPunit u f s).punit u = f (s.punit u) := agetD_aset_same ..

theorem punit_setPunit_ne {u v : Nat} (f : PowerUnit → PowerUnit) (s : State) (h : v ≠ u) : (setPunit u f s).punit v = s.punit v :=
  agetD_aset_ne _ _ _ h

theorem setPunit_frame (u : Nat) (f : PowerUnit → PowerUnit) (s : State) : Frame [.power] s (setPunit u f s) :=
  frame_setPunit (by decide) (Frame.refl _ s)

theorem punit_of_units {s t : State} (h : t.power.units = s.power.units) (u : Nat) : t.punit u = s.punit u := by
  rw [State.punit, State.punit, h]

theorem Frame.punit_eq {P : List Part} {s t : State} (h : Frame P s t) (hp : P.contains .power = false) (u : Nat) : t.punit u = s.punit u :=
  punit_of_units (congrArg PowerState.units (h.power_eq hp)) u

/-- A unit that enters a state has it, and what moves it next. -/
theorem enterState_punit (u : Nat) (st : PowerSt) (mv : UnitMove) (s : State) :
    ((enterState u st mv s).punit u).st = st ∧ ((enterState u st mv s).punit u).move = mv := by
  unfold enterState
  rw [punit_setPunit_same]
  exact ⟨rfl, rfl⟩

theorem drawQuiet_frame (ma : Nat) (s : State) : Frame [.power] s (drawQuiet ma s) := frame_drawQuiet (by decide) (Frame.refl _ s)

theorem punit_drawQuiet (ma : Nat) (s : State) (u : Nat) : (drawQuiet ma s).punit u = s.punit u := rfl

/-- What is drawn with no handshake counts at once in the changes of the 10 µs (R527). -/
theorem quietMa_drawQuiet (ma : Nat) (s : State) : (drawQuiet ma s).quietMa = s.quietMa + ma := by
  have hkept : (s.power.quietSteps.filter (fun x => decide (s.now < x.1 + 10000))).filter (fun x => decide (s.now < x.1 + 10000))
      = s.power.quietSteps.filter (fun x => decide (s.now < x.1 + 10000)) := by
    rw [List.filter_filter]
    simp
  have hnew : [(s.now, ma)].filter (fun x => decide (s.now < x.1 + 10000)) = [(s.now, ma)] := by simp
  calc (drawQuiet ma s).quietMa
      = (((s.power.quietSteps.filter (fun x => decide (s.now < x.1 + 10000)) ++ [(s.now, ma)]).filter
          (fun x => decide (s.now < x.1 + 10000))).map Prod.snd).sum := rfl
    _ = s.quietMa + ma := by
      rw [List.filter_append, hkept, hnew, List.map_append, List.sum_append]
      rfl

/-! ### The allowance of Nap wakes (R529) -/

theorem wakeSpares_of_woken {s : State} (h : ∀ b ∈ s.boot.bringIns, b.woken = true) : wakeSpares s = s :=
  forAll_of_idle fun b hb => by rw [h b hb]; rfl

/-- What a held Nap wake does in a new µs: it goes where the 40 A allow. -/
def releaseNap (u : Nat) (s : State) : State :=
  if (s.punit u).move = .napHeld ∧ s.power.napUsed + 6000 ≤ 40000 then setPunit u (fun q => { q with move := .waking }) (drawQuiet 6000 s) else s

/-- `n` mA less count in the µs. -/
def State.lessUsed (n : Nat) (s : State) : State := s.onPower (fun w => { w with napUsed := w.napUsed - n })

theorem units_lessUsed (n : Nat) (s : State) : (s.lessUsed n).power.units = s.power.units := rfl

theorem lessUsed_frame (n : Nat) (s : State) : Frame [.power] s (s.lessUsed n) := by
  unfold State.lessUsed
  exact frame_onPower (by decide) (Frame.refl _ s)

theorem lessUsed_eq (n : Nat) (s : State) : s.lessUsed n = { s with power := { s.power with napUsed := s.power.napUsed - n } } := rfl

/-- The allowance a new µs gives back. -/
def newMicrosecond (s : State) : State := s.lessUsed 40000

theorem newMicrosecond_frame (s : State) : Frame [.power] s (newMicrosecond s) := lessUsed_frame 40000 s

theorem punit_newMicrosecond (s : State) (u : Nat) : (newMicrosecond s).punit u = s.punit u := by
  exact punit_of_units (units_lessUsed 40000 s) u

theorem execNapAllowance_eq {s : State} (hf : s.frozen = false) :
    exec .napAllowance s = .next (wakeSpares (forAll (List.range 16) releaseNap (newMicrosecond s))) := by
  rw [exec, execNapAllowance, hf]
  rfl

theorem releaseNap_of_not_held {u : Nat} {s : State} (h : (s.punit u).move ≠ .napHeld) : releaseNap u s = s := if_neg fun hh => h hh.1

theorem napAllowance_none {s : State} (hf : s.frozen = false) (hnone : ∀ k, k < 16 → (s.punit k).move ≠ .napHeld)
    (hspares : ∀ b ∈ s.boot.bringIns, b.woken = true) :
    Does .napAllowance s (fun t => t = { s with power := { s.power with napUsed := s.power.napUsed - 40000 } }) := by
  have hloop : forAll (List.range 16) releaseNap (newMicrosecond s) = newMicrosecond s :=
    forAll_of_idle fun k hk => releaseNap_of_not_held (by rw [punit_newMicrosecond]; exact hnone k (List.mem_range.1 hk))
  have hwoken : ∀ b ∈ (newMicrosecond s).boot.bringIns, b.woken = true := by
    rw [(newMicrosecond_frame s).boot_eq rfl rfl rfl]
    exact hspares
  have hmade : wakeSpares (forAll (List.range 16) releaseNap (newMicrosecond s)) = s.lessUsed 40000 := by
    rw [hloop, wakeSpares_of_woken hwoken, newMicrosecond]
  exact ⟨_, (execNapAllowance_eq hf).trans (congrArg Host.Outcome.next hmade), lessUsed_eq 40000 s⟩

theorem napAllowance_held {s : State} (hf : s.frozen = false) {u : Nat} (hu : u < 16) (honly : ∀ k, k < 16 → ((s.punit k).move = .napHeld ↔ k = u))
    (hspares : ∀ b ∈ s.boot.bringIns, b.woken = true) (hused : s.power.napUsed ≤ 40000) :
    Does .napAllowance s (fun t => (t.punit u).move = .waking ∧ t.power.napUsed = 6000 ∧ Frame [.power] s t) := by
  have hzero : (newMicrosecond s).power.napUsed = 0 := by
    show s.power.napUsed - 40000 = 0
    omega
  have hgoes : releaseNap u (newMicrosecond s) = setPunit u (fun q => { q with move := .waking }) (drawQuiet 6000 (newMicrosecond s)) :=
    if_pos ⟨by rw [punit_newMicrosecond]; exact (honly u hu).2 rfl, by omega⟩
  have hloop : forAll (List.range 16) releaseNap (newMicrosecond s) = releaseNap u (newMicrosecond s) := by
    refine forAll_of_single List.nodup_range (List.mem_range.2 hu) (fun k hk hne => ?_) (fun k hk hne => ?_)
    · exact releaseNap_of_not_held fun h => hne ((honly k (List.mem_range.1 hk)).1 (punit_newMicrosecond s k ▸ h))
    · refine releaseNap_of_not_held fun h => hne ((honly k (List.mem_range.1 hk)).1 ?_)
      rw [hgoes, punit_setPunit_ne _ _ hne, punit_drawQuiet, punit_newMicrosecond] at h
      exact h
  have hframe : Frame [.power] s (releaseNap u (newMicrosecond s)) := by
    rw [hgoes]
    exact frame_setPunit (by decide) (frame_drawQuiet (by decide) (newMicrosecond_frame s))
  have hwoken : ∀ b ∈ (releaseNap u (newMicrosecond s)).boot.bringIns, b.woken = true := by
    rw [show (releaseNap u (newMicrosecond s)).boot = s.boot from hframe.boot_eq rfl rfl rfl]
    exact hspares
  refine ⟨_, execNapAllowance_eq hf, ?_⟩
  dsimp only
  rw [hloop, wakeSpares_of_woken hwoken]
  refine ⟨?_, ?_, hframe⟩
  · rw [hgoes, punit_setPunit_same]
  · rw [hgoes]
    show (newMicrosecond s).power.napUsed + 6000 = 6000
    rw [hzero]

/-! ### Idle units (R531, R534) -/

theorem chooseState_none {u : Nat} {s : State} (h : s.deepest u = 0) : chooseState u s = s := by
  have hfits : ∀ st : PowerSt, 0 < st.num → decide (st.num ≤ s.deepest u) = false := fun st hst => decide_eq_false (by omega)
  unfold chooseState
  simp only [hfits .deep (by decide), hfits .doze (by decide), hfits .nap (by decide), Bool.false_and, Bool.false_eq_true, if_false]

theorem chooseState_deep {u : Nat} {s : State} (hdeep : 3 ≤ s.deepest u)
    (htime : (unitTimes u .deep).1 + (unitTimes u .deep).2.1 + (unitTimes u .deep).2.2 ≤ s.tNext u .deep) :
    chooseState u s = onlyIf (decide (u < 16)) (crumb 2 u 3 3) (bump .puEntries (u * 4 + 3) (setPunit u (fun p => { p with move := .entering .deep }) s)) := by
  unfold chooseState
  exact if_pos (by rw [Bool.and_eq_true]; exact ⟨decide_eq_true hdeep, decide_eq_true htime⟩)

theorem idleTimerExpiry_chooses {u : Nat} {s : State} (hf : s.frozen = false) (hu : u < 24) (hrun : (s.punit u).st = .run)
    (hmove : (s.punit u).move = .none) (hidle : s.unitIdle u = true) : exec (.idleTimerExpiry u) s = .next (chooseState u s) := by
  rw [exec, execIdleTimerExpiry, hf]
  simp [hu, hrun, hmove, hidle, onlyIf]

theorem idleTimerExpiry_busy {u : Nat} {s : State} (hf : s.frozen = false) (hbusy : s.unitIdle u = false) :
    Does (.idleTimerExpiry u) s (fun t => t = s) := by
  refine ⟨s, ?_, rfl⟩
  rw [exec, execIdleTimerExpiry, hf, hbusy]
  simp [onlyIf]

theorem idleTimerExpiry_deep {u : Nat} {s : State} (hf : s.frozen = false) (hu : u < 24) (hrun : (s.punit u).st = .run)
    (hmove : (s.punit u).move = .none) (hidle : s.unitIdle u = true) (hdeep : 3 ≤ s.deepest u)
    (htime : (unitTimes u .deep).1 + (unitTimes u .deep).2.1 + (unitTimes u .deep).2.2 ≤ s.tNext u .deep) :
    Does (.idleTimerExpiry u) s (fun t => (t.punit u).move = .entering .deep ∧ (t.punit u).st = .run ∧ Frame [.power, .rings, .ctrs] s t) := by
  refine ⟨_, idleTimerExpiry_chooses hf hu hrun hmove hidle, ?_⟩
  have hunit : (chooseState u s).punit u = { s.punit u with move := .entering .deep } := by
    rw [chooseState_deep hdeep htime,
      Frame.punit_eq (P := [.rings, .ctrs]) (frame_onlyIf (fun v hv => frame_crumb (by decide) hv) (frame_bump (by decide) (Frame.refl _ _))) rfl,
      punit_setPunit_same]
  dsimp only
  rw [hunit]
  exact ⟨rfl, hrun, frame_chooseState (by decide) (Frame.refl _ s)⟩

/-! ### Wakes (R36, R534, R537, R539) -/

theorem beginWake_stack {u : Nat} (hu : 16 ≤ u) (s : State) : beginWake u s = setPunit u (fun q => { q with move := .waking }) s :=
  if_neg (by omega)

theorem calendarWake_stack {u : Nat} {s : State} (hf : s.frozen = false) (hlo : 16 ≤ u) (hhi : u < 24) (hst : (s.punit u).st ≠ .run)
    (hmove : (s.punit u).move = .none) :
    Does (.calendarWake u) s (fun t => (t.punit u).move = .waking ∧ (t.punit u).event = true ∧ (t.punit u).st = (s.punit u).st ∧ Frame [.power] s t) := by
  have hexec : exec (.calendarWake u) s = .next (beginWake u (setPunit u (fun q => { q with event := true }) s)) := by
    rw [exec, execCalendarWake, hf]
    simp [hhi, hst, hmove, onlyIf]
  refine ⟨_, hexec, ?_⟩
  dsimp only
  rw [beginWake_stack hlo, punit_setPunit_same, punit_setPunit_same]
  exact ⟨rfl, rfl, rfl, frame_setPunit (by decide) (setPunit_frame ..)⟩

/-- What a unit holds back is one request more. -/
def holdRequest (u : Nat) (s : State) : State := s.onPower (fun w => { w with heldAt := amod w.heldAt u 0 (· + 1) })

theorem holdRequest_frame (u : Nat) (s : State) : Frame [.power] s (holdRequest u s) := frame_onPower (by decide) (Frame.refl _ s)

theorem exec_wakeRequest {u : Nat} {s : State} (hf : s.frozen = false) (hu : u < 24) : exec (.wakeRequest u) s = .next (wakeUnit u s) := by
  rw [exec, execWakeRequest, hf]
  simp [hu, onlyIf]

theorem wakeUnit_asleep {u : Nat} {s : State} (hst : (s.punit u).st ≠ .run) (hmove : (s.punit u).move = .none) :
    wakeUnit u s = beginWake u (holdRequest u s) := by
  unfold wakeUnit
  simp only [hmove]
  exact if_neg hst

theorem wakeRequest_running {u : Nat} {s : State} (hf : s.frozen = false) (hu : u < 24) (hst : (s.punit u).st = .run)
    (hmove : (s.punit u).move = .none) : Does (.wakeRequest u) s (fun t => t = s) := by
  refine ⟨_, exec_wakeRequest hf hu, ?_⟩
  unfold wakeUnit
  simp only [hmove]
  exact if_pos hst

theorem wakeRequest_stack {u : Nat} {s : State} (hf : s.frozen = false) (hlo : 16 ≤ u) (hhi : u < 24) (hst : (s.punit u).st ≠ .run)
    (hmove : (s.punit u).move = .none) :
    Does (.wakeRequest u) s (fun t => (t.punit u).move = .waking ∧ agetD t.power.heldAt u 0 = agetD s.power.heldAt u 0 + 1 ∧ Frame [.power] s t) := by
  refine ⟨_, exec_wakeRequest hf hhi, ?_⟩
  dsimp only
  rw [wakeUnit_asleep hst hmove, beginWake_stack hlo, punit_setPunit_same]
  exact ⟨rfl, agetD_amod_same .., frame_setPunit (by decide) (holdRequest_frame u s)⟩

theorem beginWake_nap {u : Nat} {s : State} (hu : u < 16) (hst : (s.punit u).st = .nap) : beginWake u s =
    if s.power.napUsed + 6000 > 40000 then bump .pwNapWaits (dieOfCluster u) (setPunit u (fun q => { q with move := .napHeld }) s)
    else setPunit u (fun q => { q with move := .waking }) (drawQuiet 6000 s) := by
  unfold beginWake
  rw [if_pos hu]
  simp only [hst]

theorem wakeRequest_nap {u : Nat} {s : State} (hf : s.frozen = false) (hu : u < 16) (hst : (s.punit u).st = .nap) (hmove : (s.punit u).move = .none)
    (hused : s.power.napUsed ≤ 34000) :
    Does (.wakeRequest u) s (fun t => (t.punit u).move = .waking ∧ t.power.napUsed = s.power.napUsed + 6000 ∧ t.quietMa = s.quietMa + 6000
      ∧ Frame [.power] s t) := by
  have hroom : ¬ (holdRequest u s).power.napUsed + 6000 > 40000 := by
    show ¬ s.power.napUsed + 6000 > 40000
    omega
  refine ⟨_, exec_wakeRequest hf (by omega), ?_⟩
  dsimp only
  rw [wakeUnit_asleep (by rw [hst]; decide) hmove, beginWake_nap (s := holdRequest u s) hu hst, if_neg hroom, punit_setPunit_same]
  exact ⟨rfl, rfl, quietMa_drawQuiet 6000 (holdRequest u s),
    frame_setPunit (by decide) (frame_drawQuiet (by decide) (holdRequest_frame u s))⟩

theorem wakeRequest_napHeld {u : Nat} {s : State} (hf : s.frozen = false) (hu : u < 16) (hst : (s.punit u).st = .nap)
    (hmove : (s.punit u).move = .none) (hused : 34000 < s.power.napUsed) :
    Does (.wakeRequest u) s (fun t => (t.punit u).move = .napHeld ∧ Counts .pwNapWaits (dieOfCluster u) 1 s t ∧ Frame [.power, .ctrs] s t) := by
  have hfull : (holdRequest u s).power.napUsed + 6000 > 40000 := by
    show s.power.napUsed + 6000 > 40000
    omega
  refine ⟨_, exec_wakeRequest hf (by omega), ?_⟩
  dsimp only
  rw [wakeUnit_asleep (by rw [hst]; decide) hmove, beginWake_nap (s := holdRequest u s) hu hst, if_pos hfull]
  refine ⟨?_, ctr_bumpBy_same .., frame_bump (by decide) (frame_setPunit (by decide) (frame_onPower (by decide) (Frame.refl _ s)))⟩
  rw [Frame.punit_eq (P := [.ctrs]) (frame_bump (by decide) (Frame.refl _ _)) rfl, punit_setPunit_same]

/-! ### Entries (R535, R536) -/

theorem endStep_frame (kind key : Nat) (s : State) : Frame [.pkg, .ctrs] s (endStep kind key s) := frame_endStep (by decide) (Frame.refl _ s)

/-- A grant that ends changes no unit. -/
theorem punit_endGrant (kind : SugarKind) (key : Nat) (s : State) (u : Nat) : (endGrant kind key s).punit u = s.punit u := by
  unfold endGrant
  split
  · rfl
  · rw [(endStep_frame ..).punit_eq rfl]
    rfl

theorem loseTray_frame (c : Nat) (s : State) :
    Frame [.core, .dir, .dram, .deep, .units, .rings, .ctrs] s (if corePresent c then advanceEpoch .core c (clearCore c s) else s) := by
  split
  · exact frame_advanceEpoch (by decide) (frame_clearCore (by decide) (Frame.refl _ s))
  · exact Frame.refl _ s

theorem punit_forAll {P : List Part} (hp : P.contains .power = false) {f : Nat → State → State} (hf : ∀ c s, Frame P s (f c s)) (l : List Nat) (s : State)
    (u : Nat) : (forAll l f s).punit u = s.punit u :=
  forAll_keeps (g := fun s => s.punit u) (fun c s => (hf c s).punit_eq hp u) l s

theorem entryDone_punit (u : Nat) (st : PowerSt) (mv : UnitMove) (s : State) :
    ((entryDone u st mv s).punit u).st = st ∧ ((entryDone u st mv s).punit u).move = mv := by
  obtain ⟨hst, hmove⟩ := enterState_punit u st mv s
  unfold entryDone
  extract_lets t grants next w clear
  have hgrants : grants.punit u = t.punit u := by rw [punit_endGrant, punit_endGrant]
  have hw : w.punit u = { t.punit u with refreshAt := next } := punit_setPunit_same ..
  split
  · split
    · rw [punit_forAll (P := [.core, .dir, .dram, .deep, .units, .rings, .ctrs]) rfl (fun c s => loseTray_frame c s), hgrants]
      exact ⟨hst, hmove⟩
    · rw [hgrants]
      exact ⟨hst, hmove⟩
  · split
    · rw [Frame.punit_eq (P := [.dram]) (frame_onDram (by decide) (Frame.refl _ w)) rfl, hw]
      exact ⟨hst, hmove⟩
    · rw [hw]
      exact ⟨hst, hmove⟩

/-- Whether a core's tray and store are lost. -/
def State.trayLost (s : State) (c : Nat) : Prop := (s.coreRec c).tray = [] ∧ (s.coreRec c).resident = none

theorem trayLost_of_core {s t : State} (h : t.core = s.core) (c : Nat) : t.trayLost c ↔ s.trayLost c := by
  rw [State.trayLost, State.trayLost, State.coreRec, State.coreRec, h]

theorem trayLost_clearCore (c d : Nat) (s : State) : (clearCore c s).trayLost d ↔ d = c ∨ s.trayLost d := by
  by_cases h : d = c
  · subst h
    rw [State.trayLost, clearCore, coreRec_setCore_same]
    simp
  · rw [State.trayLost, clearCore, coreRec_setCore_ne _ _ h]
    simp [h, State.trayLost]

theorem trayLost_loseTray (c d : Nat) (s : State) (h : (corePresent c = true ∧ d = c) ∨ s.trayLost d) :
    (if corePresent c then advanceEpoch .core c (clearCore c s) else s).trayLost d := by
  split
  · rw [trayLost_of_core ((advanceEpoch_frame ..).core_eq rfl), trayLost_clearCore]
    exact h.imp And.right id
  · next hc => exact h.resolve_left fun hh => hc hh.1

theorem trayLost_forAll (l : List Nat) (d : Nat) (hd : corePresent d = true) (s : State) (h : d ∈ l ∨ s.trayLost d) :
    (forAll l (fun c s => if corePresent c then advanceEpoch .core c (clearCore c s) else s) s).trayLost d := by
  induction l generalizing s with
  | nil => exact h.resolve_left (List.not_mem_nil)
  | cons c l ih =>
    refine ih _ ?_
    obtain h | h := h
    · obtain rfl | h := List.mem_cons.1 h
      · exact .inr (trayLost_loseTray d d s (.inl ⟨hd, rfl⟩))
      · exact .inl h
    · exact .inr (trayLost_loseTray c d s (.inr h))

theorem entryDone_deep_trays {u : Nat} (hu : u < 16) (mv : UnitMove) (s : State) {c : Nat} (hc : c ∈ coresOf u) (hpresent : corePresent c = true) :
    (entryDone u .deep mv s).trayLost c := by
  unfold entryDone
  rw [if_pos hu, if_pos rfl]
  exact trayLost_forAll _ c hpresent _ (.inl hc)

/-- Whether a unit's entry into a state is complete: a stack enters Nap and Doze only with every bank pulled in. -/
def State.entryReady (s : State) (u : Nat) (st : PowerSt) : Bool := decide (u < 16) || st == .deep || s.pulledIn (u - 16)

theorem entryReady_of {s : State} {u : Nat} {st : PowerSt} (h : u < 16 ∨ st = .deep ∨ s.pulledIn (u - 16) = true) : s.entryReady u st = true := by
  rw [State.entryReady, Bool.or_eq_true, Bool.or_eq_true, decide_eq_true_iff, beq_iff_eq]
  tauto

theorem exec_powerEntryDone_entering {u : Nat} {s : State} {st : PowerSt} (hf : s.frozen = false) (hmove : (s.punit u).move = .entering st) :
    exec (.powerEntryDone u) s = .next (if s.entryReady u st then entryDone u st .none s else s) := by
  rw [exec, execPowerEntryDone, hf]
  simp only [hmove]
  rfl

theorem exec_powerEntryDone_wake {u : Nat} {s : State} {st : PowerSt} (hf : s.frozen = false) (hmove : (s.punit u).move = .enteringWake st) :
    exec (.powerEntryDone u) s = .next (if s.entryReady u st then beginWake u (entryDone u st .none s) else s) := by
  rw [exec, execPowerEntryDone, hf]
  simp only [hmove]
  rfl

theorem entryDone_mem (u : Nat) (st : PowerSt) (mv : UnitMove) (s : State) : (entryDone u st mv s).mem = s.mem :=
  (frame_entryDone (P := [.pkg, .dir, .dram, .deep, .core, .power, .units, .rings, .ctrs]) (by decide) (Frame.refl _ s)).mem_eq rfl

theorem powerEntryDone_entered {u : Nat} {st : PowerSt} {s : State} (hf : s.frozen = false) (hmove : (s.punit u).move = .entering st)
    (hready : u < 16 ∨ st = .deep ∨ s.pulledIn (u - 16) = true) :
    Does (.powerEntryDone u) s (fun t => (t.punit u).st = st ∧ (t.punit u).move = .none ∧ t.mem = s.mem
      ∧ (u < 16 → st = .deep → ∀ c ∈ coresOf u, corePresent c = true → (t.coreRec c).tray = [] ∧ (t.coreRec c).resident = none)) := by
  refine ⟨_, exec_powerEntryDone_entering hf hmove, ?_⟩
  dsimp only
  rw [if_pos (entryReady_of hready)]
  obtain ⟨hst, hnone⟩ := entryDone_punit u st .none s
  refine ⟨hst, hnone, entryDone_mem .., ?_⟩
  rintro hu rfl c hc hpresent
  exact entryDone_deep_trays hu .none s hc hpresent

theorem powerEntryDone_wakes {u : Nat} {st : PowerSt} {s : State} (hf : s.frozen = false) (hlo : 16 ≤ u)
    (hmove : (s.punit u).move = .enteringWake st) (hready : st = .deep ∨ s.pulledIn (u - 16) = true) :
    Does (.powerEntryDone u) s (fun t => (t.punit u).st = st ∧ (t.punit u).move = .waking ∧ t.mem = s.mem) := by
  refine ⟨_, exec_powerEntryDone_wake hf hmove, ?_⟩
  dsimp only
  rw [if_pos (entryReady_of (.inr hready)), beginWake_stack hlo, punit_setPunit_same]
  exact ⟨(entryDone_punit u st .none s).1, rfl, entryDone_mem u st .none s⟩

theorem powerEntryDone_waits {u : Nat} {st : PowerSt} {s : State} (hf : s.frozen = false) (hlo : 16 ≤ u) (hmove : (s.punit u).move = .entering st)
    (hst : st ≠ .deep) (hbanks : s.pulledIn (u - 16) = false) : Does (.powerEntryDone u) s (fun t => t = s) := by
  have hnot : ¬ s.entryReady u st = true := by
    rw [State.entryReady, hbanks, decide_eq_false (by omega : ¬ u < 16), beq_eq_false_iff_ne.2 hst]
    decide
  refine ⟨_, exec_powerEntryDone_entering hf hmove, ?_⟩
  rw [if_neg hnot]

/-! ### The wake is complete (R537) -/

/-- A unit whose wake is complete: in Run, its crumb left, its stack's refresh its own again, and what it held delivered. -/
def wokenUnit (u : Nat) (s : State) : State :=
  let left := (s.punit u).st
  let s := bump .puWakes (u * 4 + left.num) (enterState u .run .none s)
  let s := onlyIf (decide (u < 16)) (fun s => crumb 2 u 5 left.num (s.onObs (fun o => { o with rings := amod o.rings (2, u) Ring.reset (fun r => { r with resumed := true }) }))) s
  let s := onlyIf (decide (u ≥ 16) && left == .deep) (fun s => s.onDram (fun d => { d with refresh := aset d.refresh (u - 16) (if s.thermalLevel ≥ 1 then 1 else 0) })) s
  setPunit u (fun q => { q with event := false, refreshAt := 0 }) (s.onPower (fun w => { w with heldAt := adel w.heldAt u }))

/-- Whether a wake needs its sugar and has it: only a cluster that leaves Doze or Deep does (R527). -/
def State.wakeFed (s : State) (u : Nat) : Bool :=
  !(decide (u < 16) && ((s.punit u).st == .doze || (s.punit u).st == .deep)) || s.power.grants.any (fun g => g.kind == .wake && g.key == u && g.full)

theorem exec_wakeComplete {u : Nat} {s : State} (hf : s.frozen = false) (hmove : (s.punit u).move = .waking) (hfed : s.wakeFed u = true)
    (hevent : (s.punit u).event = false) : exec (.wakeComplete u) s = .next (wokenUnit u s) := by
  rw [exec, execWakeComplete, hf, if_neg (by decide : ¬ false = true)]
  exact (if_pos ⟨hmove, hfed⟩).trans (by rw [hevent]; rfl)

theorem wokenUnit_does (u : Nat) (s : State) : ((wokenUnit u s).punit u).st = .run ∧ ((wokenUnit u s).punit u).move = .none
    ∧ agetD (wokenUnit u s).power.heldAt u 0 = 0 ∧ (wokenUnit u s).mem = s.mem := by
  obtain ⟨hst, hmove⟩ := enterState_punit u .run .none s
  unfold wokenUnit
  extract_lets left a b c
  have hc : Frame [.ctrs, .rings, .dram] (enterState u .run .none s) c := by
    refine frame_onlyIf (fun v hv => frame_onDram (by decide) hv) (frame_onlyIf (fun v hv => ?_) (frame_bump (by decide) (Frame.refl _ _)))
    exact frame_crumb (by decide) (frame_onObs [.rings] (by decide) (.inr fun _ => rfl) (.inl (by decide)) (.inr fun _ => rfl) hv)
  have hunit : (setPunit u (fun q => { q with event := false, refreshAt := 0 }) (c.onPower (fun w => { w with heldAt := adel w.heldAt u }))).punit u
      = { (enterState u .run .none s).punit u with event := false, refreshAt := 0 } := by
    rw [punit_setPunit_same, ← hc.punit_eq rfl]
    rfl
  rw [hunit]
  refine ⟨hst, hmove, ?_, ?_⟩
  · show agetD (adel c.power.heldAt u) u 0 = 0
    rw [agetD, aget_adel_same]
    rfl
  · show c.mem = s.mem
    rw [hc.mem_eq rfl]
    exact (frame_enterState (P := [.power, .ctrs]) (by decide) (Frame.refl _ s)).mem_eq rfl

theorem wakeComplete_woken {u : Nat} {s : State} (hf : s.frozen = false) (hmove : (s.punit u).move = .waking) (hevent : (s.punit u).event = false)
    (hgrant : u < 16 → (s.punit u).st = .doze ∨ (s.punit u).st = .deep →
      s.power.grants.any (fun g => g.kind == .wake && g.key == u && g.full) = true) :
    Does (.wakeComplete u) s (fun t => (t.punit u).st = .run ∧ (t.punit u).move = .none ∧ agetD t.power.heldAt u 0 = 0 ∧ t.mem = s.mem) := by
  have hfed : s.wakeFed u = true := by
    by_cases hneeds : u < 16 ∧ ((s.punit u).st = .doze ∨ (s.punit u).st = .deep)
    · rw [State.wakeFed, hgrant hneeds.1 hneeds.2, Bool.or_true]
    · rw [State.wakeFed, show (decide (u < 16) && ((s.punit u).st == .doze || (s.punit u).st == .deep)) = false by simpa using hneeds]
      rfl
  exact ⟨_, exec_wakeComplete hf hmove hfed hevent, wokenUnit_does u s⟩

theorem wakeComplete_unfed {u : Nat} {s : State} (hf : s.frozen = false) (hu : u < 16) (hst : (s.punit u).st = .doze)
    (hgrants : s.power.grants = []) : Does (.wakeComplete u) s (fun t => t = s) := by
  refine ⟨s, ?_, rfl⟩
  rw [exec, execWakeComplete, hf]
  simp [hu, hst, hgrants]

/-- Settles O18: each event of a unit by the branch its state takes, the held wakes of a new µs by the one unit that is held. -/
theorem powerUnits : Obligations.PowerUnits := by
  unfold Obligations.PowerUnits
  intro s hf
  refine ⟨fun hnone hspares => napAllowance_none hf hnone hspares, fun u hu honly hspares hused => napAllowance_held hf hu honly hspares hused,
    fun u hu hrun hmove hidle => ⟨fun hdeep => ?_, fun hdeep htime => idleTimerExpiry_deep hf hu hrun hmove hidle hdeep htime⟩,
    fun u _ hbusy => idleTimerExpiry_busy hf hbusy, fun u hlo hhi hst hmove => calendarWake_stack hf hlo hhi hst hmove,
    fun u st _ hmove hready => powerEntryDone_entered hf hmove hready, fun u st hlo _ hmove hready => powerEntryDone_wakes hf hlo hmove hready,
    fun u st hlo _ hmove hst hbanks => powerEntryDone_waits hf hlo hmove hst hbanks, fun u hu hst hmove => wakeRequest_running hf hu hst hmove,
    fun u hlo hhi hst hmove => wakeRequest_stack hf hlo hhi hst hmove, fun u hu hst hmove hused => wakeRequest_nap hf hu hst hmove hused,
    fun u hu hst hmove hused => wakeRequest_napHeld hf hu hst hmove hused,
    fun u _ hmove hevent hgrant => wakeComplete_woken hf hmove hevent hgrant, fun u hu _ hst hgrants => wakeComplete_unfed hf hu hst hgrants⟩
  exact ⟨_, idleTimerExpiry_chooses hf hu hrun hmove hidle, chooseState_none hdeep⟩

end Sys2Proof.Machine
end

section
/-!
PROOF. Sugar: requests granted, queued, renewed and ended, and the ballast they leave (R61, R369, R525 to R528).
-/
namespace Sys2Proof.Machine

/-! ### A request is handled (R525) -/

/-- A request in the queue or in force, as it was asked for. -/
def State.sugarAsked (s : State) (g : Sugar) : Prop :=
  ∃ x, (x ∈ s.power.queue ∨ x ∈ s.power.grants) ∧ x.kind = g.kind ∧ x.key = g.key ∧ x.requested = g.requested

/-- A grant comes in force beside the others, now and for its duration; its request leaves the queue, and no unit changes. -/
theorem grantSugar_power (g : Sugar) (n : Nat) (s : State) :
    (∃ x ∈ (grantSugar g n s).power.grants, x.kind = g.kind ∧ x.key = g.key ∧ x.requested = g.requested ∧ x.granted = n ∧ x.start = s.now
      ∧ x.stop = s.now + g.duration)
    ∧ (grantSugar g n s).power.queue = s.power.queue.filter (fun h => !(h.kind == g.kind && h.key == g.key))
    ∧ (grantSugar g n s).power.units = s.power.units := by
  unfold grantSugar
  extract_lets ma core same prev s1 flows cover rest g' s2 s3 s4 s5 s6
  have h1 : Frame [.pkg, .ctrs] s s1 := frame_forAll (fun h t ht => frame_endStep (by decide) ht) (Frame.refl _ s)
  have h6 : Frame [.ctrs] s2 s6 :=
    frame_onlyIf (fun t ht => frame_bump (by decide) ht) (frame_onlyIf (fun t ht => frame_bump (by decide) ht)
      (frame_onlyIf (fun t ht => frame_bump (by decide) ht) (frame_bump (by decide) (Frame.refl _ s2))))
  have hgrant : g' ∈ s2.power.grants := List.mem_append_right _ (List.mem_singleton_self _)
  have hqueue : s2.power.queue = s.power.queue.filter (fun h => !(h.kind == g.kind && h.key == g.key)) := by
    show s1.power.queue.filter _ = _
    rw [h1.power_eq rfl]
  have hunits : s2.power.units = s.power.units := by
    show s1.power.units = _
    rw [h1.power_eq rfl]
  have hnow : s1.now = s.now := h1.now_eq rfl
  have hg' : g'.kind = g.kind ∧ g'.key = g.key ∧ g'.requested = g.requested ∧ g'.granted = n ∧ g'.start = s.now ∧ g'.stop = s.now + g.duration :=
    ⟨rfl, rfl, rfl, rfl, hnow, congrArg (· + g.duration) hnow⟩
  have hend : ∀ t : State, t.power.grants = s6.power.grants → t.power.queue = s6.power.queue → t.power.units = s6.power.units →
      (∃ x ∈ t.power.grants, x.kind = g.kind ∧ x.key = g.key ∧ x.requested = g.requested ∧ x.granted = n ∧ x.start = s.now
        ∧ x.stop = s.now + g.duration) ∧ t.power.queue = s.power.queue.filter (fun h => !(h.kind == g.kind && h.key == g.key))
      ∧ t.power.units = s.power.units := by
    intro t hg hq hu
    rw [hg, hq, hu, h6.power_eq rfl]
    exact ⟨⟨g', hgrant, hg'⟩, hqueue, hunits⟩
  split
  · have ht := (frame_announceStep (P := [.pkg, .ctrs]) (kind := g.kind.num) (key := g.key) (die := g.die) (ma := rest) (rising := true) (by decide)
      (Frame.refl _ s6)).power_eq rfl
    exact hend _ (congrArg PowerState.grants ht) (congrArg PowerState.queue ht) (congrArg PowerState.units ht)
  · unfold onlyIf
    split
    · exact hend _ rfl rfl rfl
    · exact hend _ rfl rfl rfl

/-- A request that is not in the queue yet is put last in it. -/
theorem queueSugar_new {g : Sugar} {s : State} (h : s.power.queue.any (fun h => h.kind == g.kind && h.key == g.key) = false) :
    queueSugar g s = bump .pwQueued g.die (s.onPower (fun p => { p with queue := p.queue ++ [g] })) := by
  rw [queueSugar, h]
  rfl

theorem power_bumpBy (c : Ctr) (u n : Nat) (s : State) : (bumpBy c u n s).power = s.power := rfl

theorem queue_queueSugar_new {g : Sugar} {s : State} (h : s.power.queue.any (fun h => h.kind == g.kind && h.key == g.key) = false) :
    (queueSugar g s).power.queue = s.power.queue ++ [g] := by
  rw [queueSugar_new h]
  rfl

theorem admitGrant_asks {g : Sugar} {s : State} (h : s.power.queue.any (fun h => h.kind == g.kind && h.key == g.key) = false) :
    (admitGrant g s).sugarAsked g := by
  unfold admitGrant
  split
  · next n _ =>
    obtain ⟨x, hx, hkind, hkey, hreq, -⟩ := (grantSugar_power g n s).1
    exact ⟨x, .inr hx, hkind, hkey, hreq⟩
  · exact ⟨g, .inl (by rw [queue_queueSugar_new h]; exact List.mem_append_right _ (List.mem_singleton_self _)), rfl, rfl, rfl⟩

theorem units_queueSugar (g : Sugar) (s : State) : (queueSugar g s).power.units = s.power.units := by
  unfold queueSugar
  split <;> rfl

theorem units_admitGrant (g : Sugar) (s : State) : (admitGrant g s).power.units = s.power.units := by
  unfold admitGrant
  split
  · exact (grantSugar_power ..).2.2
  · exact units_queueSugar g s

/-! ### The queue is served (R525) -/

theorem turnDie_alone {g : Sugar} {s : State} (h : s.power.queue = [g]) : turnDie g s = s := by
  unfold turnDie
  rw [h]
  simp [onlyIf]

theorem serveQueue_of_one {g : Sugar} {s : State} (h : s.power.queue = [g]) : serveQueue s =
    match s.admittable g with
    | some n => grantSugar g n (bumpBy .pwQueueNs g.die (s.now - g.askedAt) (turnDie g s))
    | none => s := by
  unfold serveQueue
  rw [h]
  rfl

theorem exec_sugarQueueServe {s : State} (hf : s.frozen = false) : exec .sugarQueueServe s = .next (serveQueue s) := by
  rw [exec, execSugarQueueServe, hf]
  rfl

theorem sugarQueueServe_grants {s : State} (hf : s.frozen = false) {g : Sugar} {n : Nat} (hq : s.power.queue = [g]) (hn : s.admittable g = some n) :
    Does .sugarQueueServe s (fun t => t.power.queue = [] ∧ t.mem = s.mem
      ∧ ∃ x ∈ t.power.grants, x.kind = g.kind ∧ x.key = g.key ∧ x.granted = n ∧ x.start = s.now ∧ x.stop = s.now + g.duration) := by
  have hserved : serveQueue s = grantSugar g n (bumpBy .pwQueueNs g.die (s.now - g.askedAt) s) := by
    rw [serveQueue_of_one hq, hn, turnDie_alone hq]
  refine ⟨_, exec_sugarQueueServe hf, ?_⟩
  dsimp only
  rw [hserved]
  obtain ⟨⟨x, hx, hkind, hkey, -, hgranted, hstart, hstop⟩, hqueue, -⟩ := grantSugar_power g n (bumpBy .pwQueueNs g.die (s.now - g.askedAt) s)
  refine ⟨?_, ?_, x, hx, hkind, hkey, hgranted, hstart, hstop⟩
  · rw [hqueue, power_bumpBy, hq]
    simp
  · exact (frame_grantSugar (P := [.pkg, .power, .ctrs]) (by decide) (frame_bumpBy (by decide) (Frame.refl _ s))).mem_eq rfl

theorem sugarQueueServe_waits {s : State} (hf : s.frozen = false) {g : Sugar} (hq : s.power.queue = [g]) (hn : s.admittable g = none) :
    Does .sugarQueueServe s (fun t => t = s) :=
  ⟨_, exec_sugarQueueServe hf, by rw [serveQueue_of_one hq, hn]⟩

/-! ### Renewals (R369, R370) -/

/-- The request of a renewal: the Δ-power of the grant it renews. -/
def renewalOf (r : Recipe) (g : Sugar) (s : State) : Sugar :=
  { mkSugar s .renewal r.id r.die g.granted ((r.total - r.done.length) * (if g.unitMw = 500 then 4000 else 10000) / max 1 (min r.total 512)) g.unitMw g.rt
    with coreMa := g.coreMa }

theorem askRenewal_eq (r : Recipe) (g : Sugar) (put : Sugar → State → State) (s : State) :
    askRenewal r g put s = put (renewalOf r g s) (setRecipe r.id (fun x => { x with askedAt := s.now }) s) := rfl

/-- No request of a recipe that does not wait is in the queue. -/
theorem not_queued_of_not_waits {s : State} {id : Nat} (h : s.recipeWaits id = false) :
    s.power.queue.any (fun g => g.kind == .renewal && g.key == id) = false := by
  rw [State.recipeWaits, List.any_eq_false] at h
  rw [List.any_eq_false]
  intro g hg
  have hno := h g hg
  by_cases hkind : g.kind = .renewal
  · rw [hkind] at hno ⊢
    simpa using hno
  · simp [hkind]

theorem recipe_asked {s : State} {id : Nat} {r : Recipe} (hr : s.recipe id = some r) (n : Nat) :
    (setRecipe r.id (fun x => { x with askedAt := n }) s).recipe id = some { r with askedAt := n } := by
  obtain rfl := id_of_recipe hr
  exact recipe_setRecipe_same (f := fun x => { x with askedAt := n }) (fun _ => rfl) hr

theorem exec_grantRenewal {s : State} (hf : s.frozen = false) {id : Nat} {r : Recipe} {g : Sugar} (hr : s.recipe id = some r)
    (hg : s.recipeGrant id = some g) (hw : s.recipeWaits id = false) : exec (.grantRenewal id) s = .next (askRenewal r g admitGrant s) := by
  rw [exec, execGrantRenewal, hf]
  simp only [hr, hg, hw]
  rfl

theorem grantRenewal_asks {s : State} (hf : s.frozen = false) {id : Nat} {r : Recipe} {g : Sugar} (hr : s.recipe id = some r)
    (hg : s.recipeGrant id = some g) (hw : s.recipeWaits id = false) : Does (.grantRenewal id) s (fun t =>
      t.recipe id = some { r with askedAt := s.now } ∧ t.mem = s.mem
        ∧ ∃ x, (x ∈ t.power.queue ∨ x ∈ t.power.grants) ∧ x.kind = .renewal ∧ x.key = id ∧ x.requested = g.granted) := by
  refine ⟨_, exec_grantRenewal hf hr hg hw, ?_⟩
  dsimp only
  rw [askRenewal_eq]
  have hframe : Frame [.pkg, .power, .ctrs] (setRecipe r.id (fun x => { x with askedAt := s.now }) s)
      (admitGrant (renewalOf r g s) (setRecipe r.id (fun x => { x with askedAt := s.now }) s)) := frame_admitGrant (by decide) (Frame.refl _ _)
  have hnot : (setRecipe r.id (fun x => { x with askedAt := s.now }) s).power.queue.any
      (fun h => h.kind == (renewalOf r g s).kind && h.key == (renewalOf r g s).key) = false := by
    have := not_queued_of_not_waits hw
    rw [← id_of_recipe hr] at this
    exact this
  obtain ⟨x, hx, hkind, hkey, hreq⟩ := admitGrant_asks hnot
  refine ⟨?_, hframe.mem_eq rfl, x, hx, hkind, hkey.trans (id_of_recipe hr), hreq⟩
  rw [recipe_of_recp_eq (hframe.recp_eq rfl)]
  exact recipe_asked hr s.now

/-! ### Grants end (R526, R528) -/

/-- The grants but for those of a kind and a key. -/
def grantsBut (kind : SugarKind) (key : Nat) (l : List Sugar) : List Sugar := l.filter (fun h => !(h.kind == kind && h.key == key))

theorem grantsBut_all (kind : SugarKind) (key : Nat) (l : List Sugar) :
    ((grantsBut kind key l).all fun x => !(x.kind == kind && x.key == key)) = true :=
  List.all_eq_true.2 fun _ hx => (List.mem_filter.1 hx).2

theorem grantsBut_of_none {kind : SugarKind} {key : Nat} {l : List Sugar} (h : l.find? (fun g => g.kind == kind && g.key == key) = none) :
    grantsBut kind key l = l :=
  List.filter_eq_self.2 fun g hg => by
    rw [Bool.not_eq_true', Bool.eq_false_iff]
    exact List.find?_eq_none.1 h g hg

theorem endGrant_frame (kind : SugarKind) (key : Nat) (s : State) : Frame [.pkg, .power, .ctrs] s (endGrant kind key s) :=
  frame_endGrant (by decide) (Frame.refl _ s)

theorem endGrant_of_some {s : State} {kind : SugarKind} {key : Nat} {g : Sugar}
    (hg : s.power.grants.find? (fun g => g.kind == kind && g.key == key) = some g) :
    endGrant kind key s = endStep kind.num key (s.onPower (fun p => { p with
      grants := grantsBut kind key p.grants
      ballast := if kind = .wake ∨ g.reached = 0 then p.ballast else p.ballast ++ [(s.now, g.reached)] })) := by
  rw [endGrant, hg]
  rfl

/-- What a grant that ends leaves of power: the other grants, its core current as ballast but for a wake's, and all else. -/
theorem endGrant_power {s : State} {kind : SugarKind} {key : Nat} {g : Sugar}
    (hg : s.power.grants.find? (fun g => g.kind == kind && g.key == key) = some g) :
    (endGrant kind key s).power = { s.power with
      grants := grantsBut kind key s.power.grants
      ballast := if kind = .wake ∨ g.reached = 0 then s.power.ballast else s.power.ballast ++ [(s.now, g.reached)] } := by
  rw [endGrant_of_some hg, (endStep_frame ..).power_eq rfl]
  rfl

theorem endGrant_of_none {s : State} {kind : SugarKind} {key : Nat} (h : s.power.grants.find? (fun g => g.kind == kind && g.key == key) = none) :
    endGrant kind key s = s := by
  rw [endGrant, h]

theorem grants_endGrant (kind : SugarKind) (key : Nat) (s : State) :
    (endGrant kind key s).power.grants = grantsBut kind key s.power.grants := by
  cases hg : s.power.grants.find? (fun g => g.kind == kind && g.key == key) with
  | none => rw [endGrant_of_none hg, grantsBut_of_none hg]
  | some g => rw [endGrant_power hg]

/-- The ballast a grant leaves, where it is not a wake's. -/
theorem ballast_endGrant {s : State} {kind : SugarKind} {key : Nat} {g : Sugar} (hkind : kind ≠ .wake)
    (hg : s.power.grants.find? (fun g => g.kind == kind && g.key == key) = some g) :
    (endGrant kind key s).power.ballast = s.power.ballast ++ (if g.reached = 0 then [] else [(s.now, g.reached)]) := by
  rw [endGrant_power hg]
  by_cases h : g.reached = 0 <;> simp [hkind, h]

/-- The grant that is renewed when it ends: a recipe's. -/
def State.renewable (s : State) (kind : SugarKind) (key : Nat) : Option Sugar :=
  s.power.grants.find? (fun g => g.kind == kind && g.key == key && kind != .wake && kind != .boost)

theorem exec_grantEnd {s : State} (hf : s.frozen = false) (kind : SugarKind) (key : Nat) : exec (.grantEnd kind key) s =
    match s.recipe key, s.renewable kind key with
    | some r, some g => .next (if s.recipeWaits key then endGrant kind key s else askRenewal r g queueSugar (endGrant kind key s))
    | _, _ => .next (endGrant kind key s) := by
  rw [exec, execGrantEnd, hf]
  rfl

theorem renewable_of_unit {s : State} {kind : SugarKind} {key : Nat} (h : kind = .wake ∨ kind = .boost) : s.renewable kind key = none := by
  rw [State.renewable, List.find?_eq_none]
  intro g _
  obtain rfl | rfl := h <;> simp

theorem renewable_of_recipe {s : State} {kind : SugarKind} {key : Nat} (hw : kind ≠ .wake) (hb : kind ≠ .boost) :
    s.renewable kind key = s.power.grants.find? (fun g => g.kind == kind && g.key == key) := by
  have hsame : ∀ g : Sugar, (g.kind == kind && g.key == key && kind != .wake && kind != .boost) = (g.kind == kind && g.key == key) := fun g => by
    rw [bne_iff_ne.2 hw, bne_iff_ne.2 hb, Bool.and_true, Bool.and_true]
  simp only [State.renewable, hsame]

theorem exec_grantEnd_ends {s : State} (hf : s.frozen = false) {kind : SugarKind} {key : Nat}
    (h : s.recipe key = none ∨ kind = .wake ∨ kind = .boost) : exec (.grantEnd kind key) s = .next (endGrant kind key s) := by
  rw [exec_grantEnd hf]
  obtain h | h := h
  · rw [h]
  · rw [renewable_of_unit h]
    cases s.recipe key <;> rfl

theorem grantEnd_ends {s : State} (hf : s.frozen = false) {kind : SugarKind} {key : Nat} {g : Sugar} (hkind : kind ≠ .wake)
    (hg : s.power.grants.find? (fun g => g.kind == kind && g.key == key) = some g) (h : kind = .boost ∨ s.recipe key = none) :
    Does (.grantEnd kind key) s (fun t => t.power.ballast = s.power.ballast ++ (if g.reached = 0 then [] else [(s.now, g.reached)])
      ∧ (t.power.grants.all fun x => !(x.kind == kind && x.key == key)) = true ∧ Frame [.power, .pkg, .ctrs] s t) := by
  refine ⟨_, exec_grantEnd_ends hf (by tauto), ballast_endGrant hkind hg, ?_, frame_endGrant (by decide) (Frame.refl _ s)⟩
  rw [grants_endGrant]
  exact grantsBut_all ..

theorem grantEnd_wake {s : State} (hf : s.frozen = false) {key : Nat} {g : Sugar}
    (hg : s.power.grants.find? (fun g => g.kind == .wake && g.key == key) = some g) : Does (.grantEnd .wake key) s (fun t =>
      t.power.ballast = s.power.ballast ∧ (t.power.grants.all fun x => !(x.kind == .wake && x.key == key)) = true ∧ Frame [.power, .pkg, .ctrs] s t) := by
  refine ⟨_, exec_grantEnd_ends hf (by tauto), ?_, ?_, frame_endGrant (by decide) (Frame.refl _ s)⟩
  · rw [endGrant_power hg]
    simp
  · rw [grants_endGrant]
    exact grantsBut_all ..

theorem grants_queueSugar (g : Sugar) (s : State) : (queueSugar g s).power.grants = s.power.grants ∧ (queueSugar g s).power.ballast = s.power.ballast := by
  unfold queueSugar
  split <;> exact ⟨rfl, rfl⟩

/-- A recipe that goes on asks for its renewal when its grant ends, and waits for it (R370). -/
theorem grantEnd_renews {s : State} (hf : s.frozen = false) {kind : SugarKind} {key : Nat} {g : Sugar} {r : Recipe} (hw : kind ≠ .wake)
    (hg : s.power.grants.find? (fun g => g.kind == kind && g.key == key) = some g) (hb : kind ≠ .boost) (hr : s.recipe key = some r)
    (hwaits : s.recipeWaits key = false) : Does (.grantEnd kind key) s (fun t =>
      t.power.ballast = s.power.ballast ++ (if g.reached = 0 then [] else [(s.now, g.reached)])
        ∧ (t.power.grants.all fun x => !(x.kind == kind && x.key == key)) = true ∧ t.recipe key = some { r with askedAt := s.now }
        ∧ t.recipeWaits key = true ∧ Frame [.power, .pkg, .ctrs, .recp] s t) := by
  have hexec : exec (.grantEnd kind key) s = .next (askRenewal r g queueSugar (endGrant kind key s)) := by
    rw [exec_grantEnd hf, hr, renewable_of_recipe hw hb, hg, hwaits]
    rfl
  have hended := endGrant_frame kind key s
  have hqueue : (endGrant kind key s).power.queue = s.power.queue := by rw [endGrant_power hg]
  have hrecipe : (endGrant kind key s).recipe key = some r := (recipe_of_recp_eq (hended.recp_eq rfl) key).trans hr
  have hnow : (endGrant kind key s).now = s.now := hended.now_eq rfl
  have hnot : (setRecipe r.id (fun x => { x with askedAt := (endGrant kind key s).now }) (endGrant kind key s)).power.queue.any
      (fun h => h.kind == (renewalOf r g (endGrant kind key s)).kind && h.key == (renewalOf r g (endGrant kind key s)).key) = false := by
    have := not_queued_of_not_waits hwaits
    rw [← id_of_recipe hr, ← hqueue] at this
    exact this
  refine ⟨_, hexec, ?_⟩
  dsimp only
  rw [askRenewal_eq]
  obtain ⟨hgrants, hballast⟩ := grants_queueSugar (renewalOf r g (endGrant kind key s))
    (setRecipe r.id (fun x => { x with askedAt := (endGrant kind key s).now }) (endGrant kind key s))
  have hframe : Frame [.power, .ctrs] (setRecipe r.id (fun x => { x with askedAt := (endGrant kind key s).now }) (endGrant kind key s))
      (queueSugar (renewalOf r g (endGrant kind key s)) (setRecipe r.id (fun x => { x with askedAt := (endGrant kind key s).now }) (endGrant kind key s))) :=
    frame_queueSugar (by decide) (Frame.refl _ _)
  refine ⟨hballast.trans (ballast_endGrant hw hg), ?_, ?_, ?_,
    frame_queueSugar (by decide) (frame_onRecp (by decide) (frame_endGrant (by decide) (Frame.refl _ s)))⟩
  · rw [hgrants]
    exact (congrArg (fun l => l.all fun x => !(x.kind == kind && x.key == key)) (grants_endGrant kind key s)).trans (grantsBut_all ..)
  · rw [recipe_of_recp_eq (hframe.recp_eq rfl), recipe_asked hrecipe, hnow]
  · rw [State.recipeWaits, queue_queueSugar_new hnot, List.any_append, Bool.or_eq_true]
    refine .inr ?_
    have hkey : (renewalOf r g (endGrant kind key s)).key = key := id_of_recipe hr
    have hkind : (renewalOf r g (endGrant kind key s)).kind = .renewal := rfl
    simp [hkey, hkind]

/-! ### The ramp is done (R61, R527) -/

/-- The grants of a kind and a key, their ramp done. -/
def rampedGrants (kind : SugarKind) (key : Nat) (s : State) : State :=
  s.onPower (fun p => { p with grants := p.grants.map (fun g => if g.kind = kind ∧ g.key = key then { g with reached := g.coreMa } else g) })

theorem exec_grantRampDone {s : State} (hf : s.frozen = false) (kind : SugarKind) (key : Nat) :
    exec (.grantRampDone kind key) s = .next (endStep kind.num key (rampedGrants kind key s)) := by
  rw [exec, execGrantRampDone, hf]
  rfl

theorem grantRampDone_reached {s : State} (hf : s.frozen = false) (kind : SugarKind) (key : Nat) :
    Does (.grantRampDone kind key) s (fun t => (∀ g ∈ t.power.grants, g.kind = kind → g.key = key → g.reached = g.coreMa)
      ∧ t.power.grants.length = s.power.grants.length ∧ Frame [.power, .pkg, .ctrs] s t) := by
  refine ⟨_, exec_grantRampDone hf kind key, ?_⟩
  dsimp only
  rw [(endStep_frame kind.num key (rampedGrants kind key s)).power_eq rfl]
  refine ⟨?_, List.length_map .., frame_endStep (by decide) (frame_onPower (by decide) (Frame.refl _ s))⟩
  intro g hg hkind hkey
  obtain ⟨x, -, rfl⟩ := List.mem_map.1 hg
  by_cases hx : x.kind = kind ∧ x.key = key
  · rw [if_pos hx]
  · rw [if_neg hx] at hkind hkey
    exact absurd ⟨hkind, hkey⟩ hx

/-- The step announced for a grant is over where nothing is held: TP4 falls. -/
theorem endStep_announced {kind key : Nat} {s : State} {x : LoadStep} (hstep : s.pkg.step = some x) (hkind : x.kind = kind) (hkey : x.key = key)
    (hheld : s.pkg.stepHeld.filter (fun x => !(x.kind == kind && x.key == key)) = []) :
    endStep kind key s = s.onPkg (fun p => { p with tp4 := false, step := none, stepHeld := [] }) := by
  unfold endStep
  extract_lets t
  have ht : t = s.onPkg (fun p => { p with stepHeld := [] }) := by
    show s.onPkg _ = _
    rw [State.onPkg, State.onPkg, hheld]
  have hpkg : t.pkg.step = some x := by
    rw [ht]
    exact hstep
  rw [hpkg]
  dsimp only
  rw [if_pos ⟨hkind, hkey⟩, ht, stepOver]
  exact nextStep_of_none rfl

theorem grantRampDone_announced {s : State} (hf : s.frozen = false) {kind : SugarKind} {key : Nat} {x : LoadStep} (hstep : s.pkg.step = some x)
    (hkind : x.kind = kind.num) (hkey : x.key = key) (hheld : s.pkg.stepHeld = []) :
    Does (.grantRampDone kind key) s (fun t => t.pkg.tp4 = false ∧ t.pkg.step = none ∧ Frame [.power, .pkg] s t) := by
  have hdone := endStep_announced (s := rampedGrants kind key s) hstep hkind hkey (by
    show s.pkg.stepHeld.filter _ = []
    rw [hheld]
    rfl)
  refine ⟨_, (exec_grantRampDone hf kind key).trans (congrArg Host.Outcome.next hdone), rfl, rfl, ?_⟩
  exact frame_onPkg (by decide) (frame_onPower (by decide) (Frame.refl _ s))

end Sys2Proof.Machine
end

section
/-!
PROOF. The power budget: ballast, samples, the governor's tick and the frequency steps (R521 to R529, R540, R543).
-/
namespace Sys2Proof.Machine

/-! ### Ballast (R527, R528) -/

/-- Ballast that starts to ramp down. -/
def droppedBallast (b : Nat) (rest : List (Nat × Nat)) (tell : Bool) (s : State) : State :=
  s.onPower (fun p => { p with ballast := rest, ballastDown := p.ballastDown + b, ballastTp4 := p.ballastTp4 || tell })

theorem exec_ballastHoldExpiry {s : State} (hf : s.frozen = false) {b : Nat} {rest : List (Nat × Nat)} (hdue : s.dueBallast = (b, rest)) :
    exec .ballastHoldExpiry s = .next (if s.mustAnnounce b then announceStep 9 0 0 b false (droppedBallast b rest (s.mustAnnounce b) s)
      else onlyIf (b != 0) (drawQuiet b) (droppedBallast b rest (s.mustAnnounce b) s)) := by
  rw [exec, execBallastHoldExpiry, hf, hdue]
  rfl

theorem ballastHoldExpiry_quiet {s : State} (hf : s.frozen = false) {b : Nat} {rest : List (Nat × Nat)} (hdue : s.dueBallast = (b, rest))
    (htell : s.mustAnnounce b = false) : Does .ballastHoldExpiry s (fun t => t.power.ballast = rest
      ∧ t.power.ballastDown = s.power.ballastDown + b ∧ t.power.ballastTp4 = s.power.ballastTp4 ∧ t.quietMa = s.quietMa + b ∧ Frame [.power] s t) := by
  have hexec : exec .ballastHoldExpiry s = .next (onlyIf (b != 0) (drawQuiet b) (droppedBallast b rest false s)) := by
    rw [exec_ballastHoldExpiry hf hdue, htell]
    rfl
  have htp4 : (droppedBallast b rest false s).power.ballastTp4 = s.power.ballastTp4 := Bool.or_false _
  have hquiet : (droppedBallast b rest false s).quietMa = s.quietMa := rfl
  have hframe : Frame [.power] s (droppedBallast b rest false s) := frame_onPower (by decide) (Frame.refl _ s)
  refine ⟨_, hexec, ?_⟩
  dsimp only
  unfold onlyIf
  split
  · exact ⟨rfl, rfl, htp4, quietMa_drawQuiet b _, frame_drawQuiet (by decide) hframe⟩
  · next hzero =>
    have hb : b = 0 := by simpa using hzero
    exact ⟨rfl, rfl, htp4, by rw [hquiet, hb, Nat.add_zero], hframe⟩

/-- The fall of ballast as a step on TP4. -/
def ballastStep (b : Nat) : LoadStep := { kind := 9, key := 0, die := 0, milliAmps := b, rising := false, started := false }

theorem announceStep_ballast (b : Nat) (s : State) :
    announceStep 9 0 0 b false s = nextStep (s.onPkg (fun p => { p with stepHeld := p.stepHeld ++ [ballastStep b] })) := rfl

theorem exec_ballastHoldExpiry_told {s : State} (hf : s.frozen = false) {b : Nat} {rest : List (Nat × Nat)} (hdue : s.dueBallast = (b, rest))
    (htell : s.mustAnnounce b = true) :
    exec .ballastHoldExpiry s = .next (nextStep ((droppedBallast b rest true s).onPkg (fun p => { p with stepHeld := p.stepHeld ++ [ballastStep b] }))) := by
  rw [exec_ballastHoldExpiry hf hdue, htell, if_pos rfl, announceStep_ballast]

theorem ballastHoldExpiry_announces {s : State} (hf : s.frozen = false) {b : Nat} {rest : List (Nat × Nat)} (hdue : s.dueBallast = (b, rest))
    (htell : s.mustAnnounce b = true) (htp4 : s.pkg.tp4 = false) (hstuck : s.pkg.ackStuck = false) (hstep : s.pkg.step = none)
    (hwarm : s.pkg.warmQual = false) (hheld : s.pkg.stepHeld = []) :
    Does .ballastHoldExpiry s (fun t => t.power.ballast = rest ∧ t.power.ballastDown = s.power.ballastDown + b ∧ t.power.ballastTp4 = true
      ∧ t.pkg.tp4 = true ∧ t.pkg.step = some { kind := 9, key := 0, die := 0, milliAmps := b, rising := false, started := false }
      ∧ t.pkg.stepHeld = [] ∧ Frame [.power, .pkg, .ctrs] s t) := by
  have hone : ((droppedBallast b rest true s).onPkg (fun p => { p with stepHeld := p.stepHeld ++ [ballastStep b] })).pkg.stepHeld = [ballastStep b] := by
    show s.pkg.stepHeld ++ [ballastStep b] = _
    rw [hheld]
    rfl
  refine ⟨_, exec_ballastHoldExpiry_told hf hdue htell, ?_⟩
  dsimp only
  rw [nextStep_of_held hone htp4 hstuck hstep hwarm]
  exact ⟨rfl, rfl, Bool.or_true _, rfl, rfl, rfl,
    frame_bump (by decide) (frame_onPkg (by decide) (frame_onPkg (by decide) (frame_onPower (by decide) (Frame.refl _ s))))⟩

/-- No step is announced while TP4 is raised. -/
theorem nextStep_of_tp4 {s : State} (h : s.pkg.tp4 = true) : nextStep s = s := by
  unfold nextStep
  rw [h]
  rfl

theorem ballastHoldExpiry_held {s : State} (hf : s.frozen = false) {b : Nat} {rest : List (Nat × Nat)} (hdue : s.dueBallast = (b, rest))
    (htell : s.mustAnnounce b = true) (htp4 : s.pkg.tp4 = true) :
    Does .ballastHoldExpiry s (fun t => t.power.ballastTp4 = true ∧ t.pkg.tp4 = true ∧ t.pkg.step = s.pkg.step
      ∧ t.pkg.stepHeld = s.pkg.stepHeld ++ [{ kind := 9, key := 0, die := 0, milliAmps := b, rising := false, started := false }]
      ∧ Frame [.power, .pkg] s t) := by
  have hwaits := nextStep_of_tp4 (s := (droppedBallast b rest true s).onPkg (fun p => { p with stepHeld := p.stepHeld ++ [ballastStep b] })) htp4
  refine ⟨_, (exec_ballastHoldExpiry_told hf hdue htell).trans (congrArg Host.Outcome.next hwaits), ?_⟩
  exact ⟨Bool.or_true _, htp4, rfl, rfl, frame_onPkg (by decide) (frame_onPower (by decide) (Frame.refl _ s))⟩

/-- Ballast that has ramped down. -/
def rampedBallast (s : State) : State := s.onPower (fun p => { p with ballastDown := 0, ballastTp4 := false })

theorem rampedBallast_frame {P : List Part} (hp : within [.power] P = true) (s : State) : Frame P s (rampedBallast s) :=
  frame_onPower hp (Frame.refl _ s)

theorem exec_ballastRampDownDone {s : State} (hf : s.frozen = false) :
    exec .ballastRampDownDone s = .next (onlyIf s.power.ballastTp4 (endStep 9 0) (rampedBallast s)) := by
  rw [exec, execBallastRampDownDone, hf]
  rfl

theorem exec_ballastRampDownDone_told {s : State} (hf : s.frozen = false) (h : s.power.ballastTp4 = true) :
    exec .ballastRampDownDone s = .next (endStep 9 0 (rampedBallast s)) := by
  rw [exec_ballastRampDownDone hf, h]
  rfl

theorem ballastRampDownDone_quiet {s : State} (hf : s.frozen = false) (h : s.power.ballastTp4 = false) :
    Does .ballastRampDownDone s (fun t => t.power.ballastDown = 0 ∧ Frame [.power] s t) := by
  refine ⟨_, exec_ballastRampDownDone hf, ?_⟩
  dsimp only
  rw [h]
  exact ⟨rfl, rampedBallast_frame (by decide) s⟩

theorem ballastRampDownDone_over {s : State} (hf : s.frozen = false) (h : s.power.ballastTp4 = true) {x : LoadStep} (hstep : s.pkg.step = some x)
    (hkind : x.kind = 9) (hkey : x.key = 0) (hheld : s.pkg.stepHeld = []) :
    Does .ballastRampDownDone s (fun t => t.power.ballastDown = 0 ∧ t.pkg.tp4 = false ∧ t.pkg.step = none ∧ Frame [.power, .pkg] s t) := by
  have hover := endStep_announced (s := rampedBallast s) hstep hkind hkey (by
    show s.pkg.stepHeld.filter _ = []
    rw [hheld]
    rfl)
  exact ⟨_, (exec_ballastRampDownDone_told hf h).trans (congrArg Host.Outcome.next hover), rfl, rfl, rfl,
    frame_onPkg (by decide) (rampedBallast_frame (by decide) s)⟩

/-- A step that is over lets the one held go, where nothing else keeps it back. -/
theorem endStep_next {kind key : Nat} {s : State} {x y : LoadStep} (hstep : s.pkg.step = some x) (hkind : x.kind = kind) (hkey : x.key = key)
    (hheld : s.pkg.stepHeld.filter (fun x => !(x.kind == kind && x.key == key)) = [y]) (hstuck : s.pkg.ackStuck = false)
    (hwarm : s.pkg.warmQual = false) :
    ∃ t, endStep kind key s = bump .pwAnnounced y.die t ∧ t.pkg.tp4 = true ∧ t.pkg.step = some y ∧ t.pkg.stepHeld = [] ∧ t.power = s.power
      ∧ Frame [.pkg] s t := by
  unfold endStep
  extract_lets u
  have hupkg : u.pkg.step = some x := hstep
  have hone : (u.onPkg (fun p => { p with tp4 := false, step := none })).pkg.stepHeld = [y] := hheld
  rw [hupkg]
  dsimp only
  rw [if_pos ⟨hkind, hkey⟩, stepOver, nextStep_of_held hone rfl hstuck rfl hwarm]
  exact ⟨_, rfl, rfl, rfl, rfl, rfl, frame_onPkg (by decide) (frame_onPkg (by decide) (frame_onPkg (by decide) (Frame.refl _ s)))⟩

theorem ballastRampDownDone_next {s : State} (hf : s.frozen = false) (h : s.power.ballastTp4 = true) {x y : LoadStep} (hstep : s.pkg.step = some x)
    (hkind : x.kind = 9) (hkey : x.key = 0) (hstuck : s.pkg.ackStuck = false) (hwarm : s.pkg.warmQual = false) (hheld : s.pkg.stepHeld = [y])
    (hother : y.kind ≠ 9) :
    Does .ballastRampDownDone s (fun t => t.power.ballastDown = 0 ∧ t.pkg.tp4 = true ∧ t.pkg.step = some y ∧ t.pkg.stepHeld = []
      ∧ Frame [.power, .pkg, .ctrs] s t) := by
  have hkept : (rampedBallast s).pkg.stepHeld.filter (fun x => !(x.kind == 9 && x.key == 0)) = [y] := by
    show s.pkg.stepHeld.filter _ = _
    rw [hheld]
    simp [hother]
  obtain ⟨t, hend, htp4, hnext, hnone, hpower, hframe⟩ := endStep_next (s := rampedBallast s) hstep hkind hkey hkept hstuck hwarm
  refine ⟨_, (exec_ballastRampDownDone_told hf h).trans (congrArg Host.Outcome.next hend), ?_, htp4, hnext, hnone, ?_⟩
  · show t.power.ballastDown = 0
    rw [hpower]
    rfl
  · exact frame_bump (by decide) ((rampedBallast_frame (by decide) s).trans (hframe.mono (by decide)))

/-! ### Samples (R521, R522, R543) -/

/-- The rails of a sample, as read, and a droop counted for each that is below its least. -/
def sampledRails (rails : List (Rail × Nat × Nat)) (s : State) : State :=
  forAll rails (fun r s => onlyIf (decide (r.2.1 < r.1.least)) (bump .railDroops r.1.num) s)
    (s.onPkg (fun p => { p with railMv := rails.foldl (fun t r => aset t r.1 r.2.1) p.railMv
                                railMa := rails.foldl (fun t r => aset t r.1 r.2.2) p.railMa }))

theorem sampledRails_frame {P : List Part} (hp : within [.pkg, .ctrs] P = true) (rails : List (Rail × Nat × Nat)) (s : State) :
    Frame P s (sampledRails rails s) :=
  (frame_forAll (P := [.pkg, .ctrs]) (fun r t ht => frame_onlyIf (fun u hu => frame_bump (by decide) hu) ht)
    (frame_onPkg (by decide) (Frame.refl _ s))).mono hp

/-- The power of a sample in mW. -/
def sampleMw (rails : List (Rail × Nat × Nat)) : Nat := (rails.map (fun r => r.2.1 * r.2.2)).sum / 1000

/-- What the budget takes of a power over 10 µs, the reserve no higher than `full`. -/
def takeSample (full mw : Nat) (s : State) : State := s.onPower (fun p =>
  let r := p.reserveNj + s.sustainedMw * 10 - mw * 10
  let e := p.energyNj + mw * 10
  let edge := s.now / 100000000
  { p with reserveNj := min r full, energyNj := e, samples := (mw :: p.samples).take 100
           energyAt := if p.energyAt.head?.map Prod.fst == some edge then p.energyAt else ((edge, e / 1000000) :: p.energyAt).take 4 })

theorem exec_powerSample (rails : List (Rail × Nat × Nat)) (s : State) :
    exec (.powerSample rails) s = .next (takeSample 100000000000 (sampleMw rails) (sampledRails rails s)) := rfl

theorem takeSample_frame {P : List Part} (hp : within [.power] P = true) (full mw : Nat) (s : State) : Frame P s (takeSample full mw s) := by
  unfold takeSample
  exact frame_onPower hp (Frame.refl _ s)

theorem takeSample_power (full mw : Nat) (s : State) : (takeSample full mw s).power.energyNj = s.power.energyNj + mw * 10
    ∧ (takeSample full mw s).power.reserveNj = min (s.power.reserveNj + s.sustainedMw * 10 - mw * 10) full
    ∧ (takeSample full mw s).power.samples = (mw :: s.power.samples).take 100 := ⟨rfl, rfl, rfl⟩

theorem powerSample_takes (rails : List (Rail × Nat × Nat)) (s : State) : Does (.powerSample rails) s (fun t =>
      t.power.energyNj = s.power.energyNj + (rails.map (fun r => r.2.1 * r.2.2)).sum / 1000 * 10
      ∧ t.power.reserveNj = min (s.power.reserveNj + s.obj .sustainedLimit * 10000 - (rails.map (fun r => r.2.1 * r.2.2)).sum / 1000 * 10) 100000000000
      ∧ t.power.samples.head? = some ((rails.map (fun r => r.2.1 * r.2.2)).sum / 1000) ∧ Frame [.pkg, .power, .ctrs] s t) := by
  have hrails := sampledRails_frame (P := [.pkg, .ctrs]) (by decide) rails s
  obtain ⟨henergy, hreserve, hsamples⟩ := takeSample_power 100000000000 (sampleMw rails) (sampledRails rails s)
  have hlimit : (sampledRails rails s).sustainedMw * 10 = s.obj .sustainedLimit * 10000 := by
    rw [State.sustainedMw, hrails.obj_eq rfl, Nat.mul_assoc]
  rw [hrails.power_eq rfl] at henergy hreserve hsamples
  rw [hlimit] at hreserve
  exact ⟨_, exec_powerSample rails s, henergy, hreserve, by rw [hsamples]; rfl,
    (sampledRails_frame (by decide) rails s).trans (takeSample_frame (by decide) _ _ _)⟩

theorem powerSample_droop {s : State} {rail : Rail} {mv ma : Nat} (h : mv < rail.least) : Does (.powerSample [(rail, mv, ma)]) s (fun t =>
      Counts .railDroops rail.num 1 s t ∧ aget t.pkg.railMv rail = some mv ∧ aget t.pkg.railMa rail = some ma) := by
  have hrails : sampledRails [(rail, mv, ma)] s
      = bump .railDroops rail.num (s.onPkg (fun p => { p with railMv := aset p.railMv rail mv, railMa := aset p.railMa rail ma })) := by
    unfold sampledRails
    exact if_pos (decide_eq_true h)
  have hframe := takeSample_frame (P := [.power]) (by decide) 100000000000 (sampleMw [(rail, mv, ma)]) (sampledRails [(rail, mv, ma)] s)
  refine ⟨_, exec_powerSample _ s, ?_, ?_, ?_⟩
  · rw [Counts, ctr_of_ctrs (hframe.ctrs_eq rfl), hrails]
    exact ctr_bumpBy_same ..
  · rw [hframe.pkg_eq rfl, hrails]
    exact aget_aset_same ..
  · rw [hframe.pkg_eq rfl, hrails]
    exact aget_aset_same ..

/-! ### The governor's tick (R523, R540) -/

/-- What the governor has measured in a tick: the ticks of calm and the base committed power. -/
def measured (s : State) : State :=
  s.onPower (fun p => { p with calmTicks := if decide (s.avgMw + 50000 ≤ (if s.power.reserveNj = 0 then s.sustainedMw else 1500000)) then s.power.calmTicks + 1 else 0
                               capTicks := p.capTicks + 1, baseMw := s.avgMw - (p.grants.map Sugar.granted).sum })

/-- The caps of the first `n` clusters after one tick, `cap` the step each takes. -/
def capUnits (cap : Nat → Nat) (n : Nat) (units : Assoc Nat PowerUnit) : Assoc Nat PowerUnit :=
  (List.range n).foldl (fun t u => aset t u { agetD t u PowerUnit.reset with cap := cap (agetD t u PowerUnit.reset).cap }) units

/-- The caps of the clusters after one tick in a throttle state. -/
def cappedUnits (new : Nat) (p : PowerState) (freqCap : Nat) : Assoc Nat PowerUnit :=
  capUnits (fun cap => nextCap new p.capTicks p.capRaise cap freqCap) 16 p.units

/-- A throttle state comes into force. -/
def throttled (new old : Nat) (s : State) : State :=
  let ms := s.now / 1000000
  s.onPower (fun p => { p with
    throttle := new
    capRaise := if new = 0 ∧ old ≠ 0 then (if old = 1 then 10 else 100) else p.capRaise
    throttleLast := if ms = p.throttleMsNo then p.throttleLast else p.throttleMs
    throttleMs := if ms = p.throttleMsNo then max p.throttleMs new else new
    throttleMsNo := ms
    units := cappedUnits new p (s.obj .freqCap) })

/-- Boost sugar is given back. -/
def endBoosts (s : State) : State := forAll (List.range 16) (fun u s => endGrant .boost u s) s

/-- A change of the throttle state is told. -/
def tellThrottle (new old avg : Nat) (s : State) : State :=
  let s := onlyIf (new != old) (notify 0x1D01 (leBytes 1 old ++ leBytes 1 new)) s
  onlyIf (new == 1 && old != 1) (notifyLimited 0x1D02 0 1000000000 (fun _ => leBytes 4 avg)) s

/-- The tick as a function of the throttle state it finds. -/
def governed (new : Nat) (s : State) : State :=
  let s1 := throttled new s.power.throttle (measured s)
  let s2 := bumpBy .pwThrottleNs (0 * 4 + new) 100000 (bumpBy .pwThrottleNs (1 * 4 + new) 100000 s1)
  tellThrottle new s.power.throttle s.avgMw (onlyIf (new != 0) endBoosts s2)

theorem exec_governorTick {s : State} (h : s.obs.reheat.contains 0 = false) :
    exec .governorTick s = .next (governed (measured s).throttleNow s) := by
  rw [exec, execGovernorTick, h]
  rfl

theorem governorTick_reheat {s : State} (h : s.obs.reheat.contains 0 = true) : Does .governorTick s (fun t => t = s) := by
  refine ⟨s, ?_, rfl⟩
  rw [exec, execGovernorTick, h]
  rfl

theorem tellThrottle_power (new old avg : Nat) (s : State) : (tellThrottle new old avg s).power = s.power :=
  (frame_onlyIf (P := [.ledger, .leaves, .sessions, .rings, .kodp, .ctrs, .out]) (fun v hv => frame_notifyLimited (by decide) hv)
    (frame_onlyIf (fun v hv => frame_notify (by decide) hv) (Frame.refl _ s))).power_eq rfl

theorem tellThrottle_mem (new old avg : Nat) (s : State) : (tellThrottle new old avg s).mem = s.mem :=
  (frame_onlyIf (P := [.ledger, .leaves, .sessions, .rings, .kodp, .ctrs, .out]) (fun v hv => frame_notifyLimited (by decide) hv)
    (frame_onlyIf (fun v hv => frame_notify (by decide) hv) (Frame.refl _ s))).mem_eq rfl

/-- Boost sugar given back changes neither the throttle state nor a unit. -/
theorem endGrant_keeps (kind : SugarKind) (key : Nat) (s : State) :
    (endGrant kind key s).power.throttle = s.power.throttle ∧ (endGrant kind key s).power.units = s.power.units := by
  cases hg : s.power.grants.find? (fun g => g.kind == kind && g.key == key) with
  | none => rw [endGrant_of_none hg]; exact ⟨rfl, rfl⟩
  | some g => rw [endGrant_power hg]; exact ⟨rfl, rfl⟩

theorem endBoosts_keeps (s : State) : (endBoosts s).power.throttle = s.power.throttle ∧ (endBoosts s).power.units = s.power.units := by
  unfold endBoosts
  generalize List.range 16 = l
  exact ⟨forAll_keeps (g := fun s => s.power.throttle) (fun u s => (endGrant_keeps .boost u s).1) l s,
    forAll_keeps (g := fun s => s.power.units) (fun u s => (endGrant_keeps .boost u s).2) l s⟩

theorem grants_forAll_endGrant (l : List Nat) (s : State) : (forAll l (fun u s => endGrant .boost u s) s).power.grants
    = s.power.grants.filter (fun g => !(g.kind == .boost && l.contains g.key)) := by
  induction l generalizing s with
  | nil => simp [forAll]
  | cons u l ih =>
    refine (ih (endGrant .boost u s)).trans ?_
    rw [grants_endGrant, grantsBut, List.filter_filter]
    refine List.filter_congr fun g _ => ?_
    rw [List.contains_cons]
    cases g.kind == SugarKind.boost <;> cases g.key == u <;> simp

theorem endBoosts_none (s : State) : ∀ g ∈ (endBoosts s).power.grants, g.kind = .boost → 16 ≤ g.key := by
  intro g hg hkind
  rw [endBoosts, grants_forAll_endGrant] at hg
  have hnot := (List.mem_filter.1 hg).2
  rw [hkind] at hnot
  simpa using hnot

theorem endBoosts_mem (s : State) : (endBoosts s).mem = s.mem :=
  (frame_forAll (P := [.pkg, .power, .ctrs]) (fun u t ht => frame_endGrant (by decide) ht) (Frame.refl _ s)).mem_eq rfl

theorem governed_throttle (new : Nat) (s : State) : (governed new s).power.throttle = new := by
  unfold governed
  extract_lets s1 s2
  have h2 : s2.power.throttle = new := rfl
  rw [tellThrottle_power, onlyIf]
  split
  · exact (endBoosts_keeps s2).1.trans h2
  · exact h2

theorem governed_mem (new : Nat) (s : State) : (governed new s).mem = s.mem := by
  unfold governed
  extract_lets s1 s2
  have h2 : s2.mem = s.mem := rfl
  rw [tellThrottle_mem, onlyIf]
  split
  · exact (endBoosts_mem s2).trans h2
  · exact h2

theorem throttled_units (new old : Nat) (s : State) : (throttled new old s).power.units = cappedUnits new s.power (s.obj .freqCap) := by
  simp only [throttled, State.onPower_power]

theorem governed_units (new : Nat) (s : State) : (governed new s).power.units = cappedUnits new (measured s).power (s.obj .freqCap) := by
  unfold governed
  extract_lets s1 s2
  have h2 : s2.power.units = cappedUnits new (measured s).power (s.obj .freqCap) := throttled_units new s.power.throttle (measured s)
  rw [tellThrottle_power, onlyIf]
  split
  · exact (endBoosts_keeps s2).2.trans h2
  · exact h2

theorem governed_boosts {new : Nat} (hnew : new ≠ 0) (s : State) : ∀ g ∈ (governed new s).power.grants, g.kind = .boost → 16 ≤ g.key := by
  unfold governed
  extract_lets s1 s2
  rw [tellThrottle_power, onlyIf, if_pos (bne_iff_ne.2 hnew)]
  exact endBoosts_none s2

theorem agetD_capUnits (cap : Nat → Nat) (n : Nat) (units : Assoc Nat PowerUnit) (u : Nat) :
    agetD (capUnits cap n units) u PowerUnit.reset
      = if u < n then { agetD units u PowerUnit.reset with cap := cap (agetD units u PowerUnit.reset).cap } else agetD units u PowerUnit.reset := by
  induction n with
  | zero => rfl
  | succ n ih =>
    have hlast : capUnits cap (n + 1) units = aset (capUnits cap n units) n
        { agetD (capUnits cap n units) n PowerUnit.reset with cap := cap (agetD (capUnits cap n units) n PowerUnit.reset).cap } := by
      rw [capUnits, List.range_succ, List.foldl_append]
      rfl
    rw [hlast]
    by_cases h : u = n
    · subst h
      rw [agetD_aset_same, ih, if_neg (Nat.lt_irrefl u), if_pos (Nat.lt_succ_self u)]
    · rw [agetD_aset_ne _ _ _ h, ih]
      simp only [show (u < n + 1) = (u < n) from propext (by omega)]

/-- Each cluster's cap takes one step in the throttle state. -/
theorem cap_cappedUnits (new : Nat) (p : PowerState) (freqCap : Nat) {u : Nat} (hu : u < 16) :
    (agetD (cappedUnits new p freqCap) u PowerUnit.reset).cap = nextCap new p.capTicks p.capRaise (agetD p.units u PowerUnit.reset).cap freqCap := by
  rw [cappedUnits, agetD_capUnits, if_pos hu]

theorem cap_governed (new : Nat) (s : State) {u : Nat} (hu : u < 16) : ∃ ticks raise freqCap,
    ((governed new s).punit u).cap = nextCap new ticks raise (s.punit u).cap freqCap :=
  ⟨_, _, _, by rw [State.punit, governed_units]; exact cap_cappedUnits new (measured s).power _ hu⟩

theorem throttleNow_measured (s : State) : (measured s).throttleNow =
    if s.thermalLevel ≥ 2 then 3 else if s.thermalLevel = 1 then 2
    else if (decide (s.avgMw > 1500000) || (decide (s.avgMw > s.sustainedMw) && s.power.reserveNj == 0))
      || (s.power.throttle == 1 && decide ((measured s).power.calmTicks < 100)) then 1 else 0 := by
  unfold State.throttleNow
  exact rfl

theorem throttleNow_critical {s : State} (h : 2 ≤ s.thermalLevel) : (measured s).throttleNow = 3 := by
  rw [throttleNow_measured, if_pos h]

theorem throttleNow_warning {s : State} (h : s.thermalLevel = 1) : (measured s).throttleNow = 2 := by
  rw [throttleNow_measured, if_neg (by omega), if_pos h]

theorem throttleNow_power {s : State} (h : s.thermalLevel = 0) (havg : 1500000 < s.avgMw) : (measured s).throttleNow = 1 := by
  rw [throttleNow_measured, if_neg (by omega), if_neg (by omega), decide_eq_true havg]
  rfl

theorem throttleNow_none {s : State} (h : s.thermalLevel = 0) (hsus : s.avgMw ≤ s.sustainedMw) (havg : s.avgMw ≤ 1500000) (hthr : s.power.throttle ≠ 1) :
    (measured s).throttleNow = 0 := by
  rw [throttleNow_measured, if_neg (by omega), if_neg (by omega), decide_eq_false (by omega : ¬ s.avgMw > 1500000),
    decide_eq_false (by omega : ¬ s.avgMw > s.sustainedMw), beq_eq_false_iff_ne.2 hthr]
  rfl

theorem exec_governorTick_of {s : State} (h : s.obs.reheat.contains 0 = false) {new : Nat} (hnew : (measured s).throttleNow = new) :
    exec .governorTick s = .next (governed new s) := by
  rw [exec_governorTick h, hnew]

/-! ### Frequency steps (R540) -/

/-- A cluster's frequency one step on. -/
def stepFreq (k : Nat) (s : State) : State :=
  setPunit k (fun p => { p with freq := if p.freq < s.targetFreq k then min (s.targetFreq k) (p.freq + 100) else max (s.targetFreq k) (p.freq - 100) }) s

theorem exec_freqStep {s : State} (hf : s.frozen = false) (k : Nat) : exec (.freqStep k) s = .next (settleBoost k (stepFreq k s)) := by
  rw [exec, execFreqStep, hf]
  rfl

theorem units_settleBoost (k : Nat) (s : State) : (settleBoost k s).power.units = s.power.units := by
  unfold settleBoost
  extract_lets mine
  split
  · split
    · rfl
    · exact units_admitGrant ..
  · split
    · exact (endGrant_keeps ..).2
    · rfl

theorem freqStep_steps {s : State} (hf : s.frozen = false) (k : Nat) : Does (.freqStep k) s (fun t =>
      (t.punit k).freq = (if (s.punit k).freq < s.targetFreq k then min (s.targetFreq k) ((s.punit k).freq + 100)
      else max (s.targetFreq k) ((s.punit k).freq - 100)) ∧ Frame [.power, .pkg, .ctrs] s t) := by
  refine ⟨_, exec_freqStep hf k, ?_, frame_settleBoost (by decide) (frame_setPunit (by decide) (Frame.refl _ s))⟩
  rw [punit_of_units (units_settleBoost k _), stepFreq, punit_setPunit_same]

theorem runsCompute_of {s t : State} (hcore : t.core = s.core) (hrecp : t.recp = s.recp) (k : Nat) : t.runsCompute k = s.runsCompute k := by
  simp only [State.runsCompute, State.coreRec, State.recipe, hcore, hrecp]

theorem freqStep_boosts {s : State} (hf : s.frozen = false) {k : Nat} (hthr : s.power.throttle = 0) (hcap : 1800 < s.obj .freqCap)
    (hrun : s.runsCompute k = true) (hgrants : s.power.grants = []) (hqueue : s.power.queue = []) : Does (.freqStep k) s (fun t =>
      ∃ x, (x ∈ t.power.queue ∨ x ∈ t.power.grants) ∧ x.kind = .boost ∧ x.key = k ∧ x.requested = 60 * (s.obj .freqCap - 1800)) := by
  have hboost : settleBoost k (stepFreq k s)
      = admitGrant (mkSugar (stepFreq k s) .boost k (dieOfCluster k) (60 * (s.obj .freqCap - 1800)) 0 6000 false) (stepFreq k s) := by
    have hruns : (stepFreq k s).runsCompute k = true := (runsCompute_of rfl rfl k).trans hrun
    have hg : (stepFreq k s).power.grants = [] := hgrants
    have hq : (stepFreq k s).power.queue = [] := hqueue
    rw [settleBoost, if_pos ⟨hthr, hcap, hruns⟩, hg, hq]
    rfl
  refine ⟨_, (exec_freqStep hf k).trans (congrArg Host.Outcome.next hboost), ?_⟩
  refine admitGrant_asks ?_
  have hq : (stepFreq k s).power.queue = [] := hqueue
  rw [hq]
  rfl

/-- Settles O17: each event by the shared operation of power it runs, the governor's tick by the throttle state it finds. -/
theorem powerBudget : Obligations.PowerBudget := by
  unfold Obligations.PowerBudget
  intro s hf
  refine ⟨fun g n hq hn => sugarQueueServe_grants hf hq hn, fun g hq hn => sugarQueueServe_waits hf hq hn,
    fun id r g hr hg hw => grantRenewal_asks hf hr hg hw,
    fun kind key g hg hkind => ⟨fun h => grantEnd_ends hf hkind hg h, fun r hb hr hw => grantEnd_renews hf hkind hg hb hr hw⟩,
    fun key g hg => grantEnd_wake hf hg, fun kind key => grantRampDone_reached hf kind key,
    fun kind key x hstep hkind hkey hheld => grantRampDone_announced hf hstep hkind hkey hheld,
    fun b rest hdue htell => ballastHoldExpiry_quiet hf hdue htell,
    fun b rest hdue htell => ⟨fun htp4 hstuck hstep hwarm hheld => ballastHoldExpiry_announces hf hdue htell htp4 hstuck hstep hwarm hheld,
      fun htp4 => ballastHoldExpiry_held hf hdue htell htp4⟩,
    fun h => ballastRampDownDone_quiet hf h,
    fun x h hstep hkind hkey hstuck hwarm => ⟨fun hheld => ballastRampDownDone_over hf h hstep hkind hkey hheld,
      fun y hheld hother => ballastRampDownDone_next hf h hstep hkind hkey hstuck hwarm hheld hother⟩,
    fun rails => powerSample_takes rails s, fun rail mv ma h => powerSample_droop h, governorTick_reheat, ?_, ?_, ?_, ?_,
    fun k => freqStep_steps hf k, fun k hthr hcap hrun hgrants hqueue => freqStep_boosts hf hthr hcap hrun hgrants hqueue⟩
  · intro h hlevel
    refine ⟨_, exec_governorTick_of h (throttleNow_critical hlevel), governed_throttle 3 s, fun u hu => ?_, governed_boosts (by decide) s, governed_mem 3 s⟩
    obtain ⟨_, _, _, hcap⟩ := cap_governed 3 s hu
    exact hcap
  · intro h hlevel
    exact ⟨_, exec_governorTick_of h (throttleNow_warning hlevel), governed_throttle 2 s, governed_mem 2 s⟩
  · intro h hlevel havg
    refine ⟨_, exec_governorTick_of h (throttleNow_power hlevel havg), governed_throttle 1 s, fun u hu => ?_, governed_mem 1 s⟩
    obtain ⟨_, _, _, hcap⟩ := cap_governed 1 s hu
    exact hcap
  · intro h hlevel hsus havg hthr
    exact ⟨_, exec_governorTick_of h (throttleNow_none hlevel hsus havg hthr), governed_throttle 0 s, governed_mem 0 s⟩

end Sys2Proof.Machine
end

section
/-!
PROOF. The packets that wait at the leaves to be sent (R504): what is enqueued is carried, and stays so where the leaves are as they were.
-/
namespace Sys2Proof.Machine

theorem carries_of_leaves {s t : State} (h : t.traffic.leaves = s.traffic.leaves) {p : Packet} (hs : s.carries p) : t.carries p := by
  obtain ⟨k, q, hq, hp⟩ := hs
  exact ⟨k, q, h ▸ hq, hp⟩

theorem leaves_enqueueAt (port sub : Nat) (p : Packet) (s : State) : (enqueueAt port sub p s).traffic.leaves
    = amod s.traffic.leaves { port := port, sub := sub, cls := classOfVc p.vc } [] (fun l => l ++ [{ at_ := s.now, pkt := p }]) := rfl

theorem carries_enqueueAt (port sub : Nat) (p : Packet) (s : State) : (enqueueAt port sub p s).carries p := by
  refine ⟨{ port := port, sub := sub, cls := classOfVc p.vc }, { at_ := s.now, pkt := p }, ?_, rfl⟩
  rw [leaves_enqueueAt, agetD_amod_same]
  exact List.mem_append_right _ (List.mem_singleton_self _)

theorem carries_sendPacket (p : Packet) (s : State) : (sendPacket p s).carries p := by
  unfold sendPacket
  extract_lets sub
  split
  · exact carries_enqueueAt ..
  · split <;> exact carries_enqueueAt ..

/-- What is carried stays so while more is enqueued. -/
theorem enqueueAt_carries (port sub : Nat) (p : Packet) {s : State} {x : Packet} (h : s.carries x) : (enqueueAt port sub p s).carries x := by
  obtain ⟨k, q, hq, hx⟩ := h
  refine ⟨k, q, ?_, hx⟩
  rw [leaves_enqueueAt]
  by_cases hk : k = { port := port, sub := sub, cls := classOfVc p.vc }
  · subst hk
    rw [agetD_amod_same]
    exact List.mem_append_left _ hq
  · rw [agetD_amod_ne _ _ _ _ hk]
    exact hq

theorem sendPacket_carries (p : Packet) {s : State} {x : Packet} (h : s.carries x) : (sendPacket p s).carries x := by
  unfold sendPacket
  extract_lets sub
  split
  · exact enqueueAt_carries _ _ _ h
  · split
    · exact enqueueAt_carries _ _ _ (carries_of_leaves rfl h)
    · exact enqueueAt_carries _ _ _ h

theorem finalGen_frame (eid tag : Nat) (s : State) : Frame [.sec] s (finalGen eid tag s) := frame_finalGen (by decide) (Frame.refl _ s)

theorem carries_answerNow (p : Packet) (st : Status) (s : State) : (answerNow p st s).carries (statusPacket p st 0) :=
  carries_of_leaves ((finalGen_frame ..).leaves_eq rfl) (carries_sendPacket _ _)

theorem answerNow_frame (p : Packet) (st : Status) (s : State) : Frame [.ledger, .mirror, .leaves, .sec, .ctrs] s (answerNow p st s) :=
  frame_answerNow (by decide) (Frame.refl _ s)

theorem reqs_answerNow (p : Packet) (st : Status) (s : State) : (answerNow p st s).txn.reqs = s.txn.reqs :=
  (congrArg TxnState.reqs ((answerNow_frame p st s).txn_rest rfl) :)

end Sys2Proof.Machine
end

section
/-!
PROOF. Jobs, hints and timers, and the traffic chapter's ticks and samples (R503, R509 to R517, R533, R544, R546, R547).
-/
namespace Sys2Proof.Machine

section
variable {s : State} {r : Req} {job tenant : Nat}

/-! ### Jobs (R544, R546) -/

theorem Handled.power {s t : State} (h : Handled s t) : t.power = s.power := h.frame.power_eq rfl

theorem Handled.now {s t : State} (h : Handled s t) : t.now = s.now := h.frame.now_eq rfl

theorem jobOpen_of_jobs {s t : State} (h : t.power.jobs = s.power.jobs) (job : Nat) : t.jobOpen job = s.jobOpen job := by
  rw [State.jobOpen, State.jobOpen, h]

/-- A job that is opened: its record begins. -/
def openedJob (job tenant : Nat) (s : State) : State :=
  tableChanged 0x1D14 (s.onPower (fun p => { p with jobs := p.jobs.filter (fun j => j.job ≠ job) ++
    [{ job := job, tenant := tenant, openAt := s.now, openMj := s.energyMj, closeAt := 0, closeMj := 0 }] }))

theorem openedJob_frame (job tenant : Nat) (s : State) : Frame [.power, .dict] s (openedJob job tenant s) :=
  frame_tableRaised (by decide) (frame_onPower (by decide) (Frame.refl _ s))

theorem jobs_openedJob (job tenant : Nat) (s : State) : (openedJob job tenant s).power.jobs = s.power.jobs.filter (fun j => j.job ≠ job)
    ++ [{ job := job, tenant := tenant, openAt := s.now, openMj := s.energyMj, closeAt := 0, closeMj := 0 }] := rfl

theorem jobOpen_replies (htenant : tenant ≤ 1023) (hclosed : s.jobOpen job = false) (hroom : (s.power.jobs.filter (fun j => j.closeAt == 0)).length < 1024) :
    Replies (.jobOpen r job tenant) s (cmdObj 0x1D20 1 rolePm) r 4 (leBytes 4 job ++ leBytes 2 tenant) .ok [] (fun t => t.jobOpen job = true
      ∧ ∃ j ∈ t.power.jobs, j.job = job ∧ j.tenant = tenant ∧ j.openAt = s.now ∧ j.openMj = s.energyMj ∧ j.closeAt = 0) := by
  refine replies_effect (eff := openedJob job tenant) rfl ?_ rfl hclosed ?_ (fun b _ => (openedJob_frame job tenant b).running_eq rfl) fun b t hb ht => ?_
  · exact decide_eq_false (by omega)
  · exact if_neg (by omega)
  have hjobs : { job := job, tenant := tenant, openAt := s.now, openMj := s.energyMj, closeAt := 0, closeMj := 0 } ∈ t.power.jobs := by
    rw [ht.power, jobs_openedJob, hb.now, State.energyMj, hb.power]
    exact List.mem_append_right _ (List.mem_singleton_self _)
  refine ⟨?_, _, hjobs, rfl, rfl, rfl, rfl, rfl⟩
  rw [State.jobOpen, List.any_eq_true]
  exact ⟨_, hjobs, by simp⟩

/-- A job that is closed, and its timer with it. -/
def closedJob (job : Nat) (s : State) : State :=
  s.onPower (fun p => { p with
    jobs := p.jobs.map (fun j => if j.job = job ∧ j.closeAt = 0 then { j with closeAt := max 1 s.now, closeMj := s.energyMj } else j)
    timers := p.timers.filter (fun t => t.job ≠ job) })

theorem jobClose_replies (hopen : s.jobOpen job = true) : Replies (.jobClose r job) s (cmdObj 0x1D20 2 rolePm) r 4 (leBytes 4 job) .ok [] (fun t =>
      t.jobOpen job = false ∧ (∃ j ∈ t.power.jobs, j.job = job ∧ j.closeMj = s.energyMj) ∧ (t.power.timers.all fun x => x.job != job) = true) := by
  refine replies_effect (eff := closedJob job) rfl rfl rfl (by simp [hopen]) rfl (fun b _ => rfl) fun b t hb ht => ?_
  have hjobs : t.power.jobs = s.power.jobs.map (fun j => if j.job = job ∧ j.closeAt = 0 then { j with closeAt := max 1 s.now, closeMj := s.energyMj } else j) := by
    rw [ht.power, ← hb.power, ← hb.now, State.energyMj, ← hb.power]
    rfl
  have htimers : t.power.timers = s.power.timers.filter (fun x => x.job ≠ job) := by
    rw [ht.power, ← hb.power]
    rfl
  refine ⟨?_, ?_, ?_⟩
  · rw [State.jobOpen, hjobs, List.any_eq_false]
    intro j hj
    obtain ⟨i, -, rfl⟩ := List.mem_map.1 hj
    by_cases h : i.job = job ∧ i.closeAt = 0
    · rw [if_pos h]
      simp
    · rw [if_neg h]
      simpa using h
  · obtain ⟨j, hj, hmine⟩ := List.any_eq_true.1 hopen
    have hj' : j.job = job ∧ j.closeAt = 0 := by simpa using hmine
    rw [hjobs]
    refine ⟨_, List.mem_map_of_mem hj, ?_⟩
    rw [if_pos hj']
    exact ⟨hj'.1, rfl⟩
  · rw [htimers, List.all_eq_true]
    intro x hx
    simpa using (List.mem_filter.1 hx).2

theorem jobClose_refused (hclosed : s.jobOpen job = false) : Replies (.jobClose r job) s (cmdObj 0x1D20 2 rolePm) r 4 (leBytes 4 job) .refusedState []
    (fun t => t.power = s.power) := by
  refine refused_state (v := { Verdict.ok with state := !s.jobOpen job }) rfl rfl rfl ?_ fun t ht => ht.power
  rw [hclosed]
  rfl

/-! ### Hints and timers (R533, R546) -/

/-- Whether the hint of a unit is one that a mask names. -/
def hintUnit (stop u : Nat) (s : State) : State := setPunit u (fun p => { p with quiet := if stop > s.now then stop else 0 }) s

/-- The hint of a unit. -/
def PowerUnit.hinted (stop now : Nat) (p : PowerUnit) : PowerUnit := { p with quiet := if stop > now then stop else 0 }

theorem hints_frame (stop : Nat) (l : List Nat) (s : State) : Frame [.power] s (forAll l (hintUnit stop) s) :=
  frame_forAll (fun u t ht => frame_setPunit (by decide) ht) (Frame.refl _ s)

theorem punit_hints (stop u : Nat) (l : List Nat) (s : State) :
    (forAll l (hintUnit stop) s).punit u = if l.contains u = true then (s.punit u).hinted stop s.now else s.punit u := by
  induction l generalizing s with
  | nil => rfl
  | cons v l ih =>
    have hstep : (hintUnit stop v s).punit u = if u = v then (s.punit u).hinted stop s.now else s.punit u := by
      by_cases h : u = v
      · subst h
        rw [hintUnit, punit_setPunit_same, if_pos rfl]
        rfl
      · rw [hintUnit, punit_setPunit_ne _ _ h, if_neg h]
    refine (ih (hintUnit stop v s)).trans ?_
    rw [hstep, show (hintUnit stop v s).now = s.now from rfl, List.contains_cons]
    by_cases h : u = v
    · rw [if_pos h, h]
      simp [PowerUnit.hinted]
    · rw [if_neg h, beq_eq_false_iff_ne.2 h, Bool.false_or]

theorem quietHint_replies {clusters stackList stop : Nat} (hclusters : clusters < 2 ^ 16) (hstacks : stackList < 2 ^ 8) :
    Replies (.quietHint r clusters stackList stop) s (cmdObj 0x1D20 3 rolePm) r 2 (leBytes 2 clusters ++ leBytes 1 stackList ++ leBytes 8 stop) .ok []
      (fun t => ∀ u, t.punit u = (if (maskUnits clusters stackList).contains u = true then { s.punit u with quiet := if stop > s.now then stop else 0 }
        else s.punit u)) := by
  refine replies_effect (eff := fun b => forAll (maskUnits clusters stackList) (hintUnit stop) b) rfl ?_ rfl rfl rfl
    (fun b _ => (hints_frame ..).running_eq rfl) fun b t hb ht u => ?_
  · show (decide (clusters ≥ 2 ^ 16) || decide (stackList ≥ 2 ^ 8)) = false
    rw [decide_eq_false (by omega), decide_eq_false (by omega)]
    rfl
  · rw [ht.frame.punit_eq rfl, punit_hints, hb.frame.punit_eq rfl, hb.now]
    rfl

/-- The timer a job's command sets. -/
def setTimer (job first period lead clusters stackList : Nat) (s : State) : State :=
  s.onPower (fun p => { p with timers := p.timers.filter (fun t => t.job ≠ job) ++
    (if period = 0 then [] else [{ job := job, first := first, period := period, lead := lead, units := maskUnits clusters stackList }]) })

theorem jobStepTimer_replies {first period lead clusters stackList : Nat} (hclusters : clusters < 2 ^ 16) (hstacks : stackList < 2 ^ 8)
    (hperiod : period = 0 ∨ (10 ≤ period ∧ period ≤ 10000000)) (hopen : s.jobOpen job = true) :
    Replies (.jobStepTimer r job first period lead clusters stackList) s (cmdObj 0x1D20 4 rolePm) r 4
      (leBytes 4 job ++ leBytes 8 first ++ leBytes 4 period ++ leBytes 4 lead ++ leBytes 2 clusters ++ leBytes 1 stackList) .ok [] (fun t =>
        t.power.timers.filter (fun x => x.job == job) = (if period = 0 then [] else
          [{ job := job, first := first, period := period, lead := lead, units := maskUnits clusters stackList }])) := by
  refine replies_effect (eff := setTimer job first period lead clusters stackList) rfl ?_ rfl ?_ rfl (fun b _ => rfl) fun b t hb ht => ?_
  · show (decide (clusters ≥ 2 ^ 16) || decide (stackList ≥ 2 ^ 8) || (period != 0 && (decide (period < 10) || decide (period > 10000000)))) = false
    rw [decide_eq_false (by omega : ¬ clusters ≥ 2 ^ 16), decide_eq_false (by omega : ¬ stackList ≥ 2 ^ 8)]
    obtain rfl | ⟨hlo, hhi⟩ := hperiod
    · rfl
    · rw [decide_eq_false (by omega : ¬ period < 10), decide_eq_false (by omega : ¬ period > 10000000), Bool.or_self, Bool.and_false]
      rfl
  · show (!s.jobOpen job) = false
    rw [hopen]
    rfl
  have htimers : t.power.timers = s.power.timers.filter (fun x => x.job ≠ job) ++
      (if period = 0 then [] else [{ job := job, first := first, period := period, lead := lead, units := maskUnits clusters stackList }]) := by
    rw [ht.power, ← hb.power]
    rfl
  rw [htimers, List.filter_append, List.filter_filter]
  have hnone : s.power.timers.filter (fun x => x.job == job && decide (x.job ≠ job)) = [] := List.filter_eq_nil_iff.2 fun x _ => by simp
  rw [hnone, List.nil_append]
  split
  · rfl
  · simp

/-! ### The refill tick (R503, R509, R514) -/

/-- The state once what was written is in force and the buckets are refilled. -/
def refilled (s : State) : State := refillAll (adoptTraffic s)

theorem refilled_frame (s : State) : Frame [.traffic] s (refilled s) := frame_refillAll (by decide) (frame_adoptTraffic (by decide) (Frame.refl _ s))

theorem refilled_traffic (s : State) : (refilled s).traffic.holds = s.traffic.holds ∧ (refilled s).traffic.profiles = s.table .trafficProfiles
    ∧ (refilled s).traffic.assign = s.table .trafficAssign := ⟨rfl, rfl, rfl⟩

theorem refillTick_paused (hf : s.frozen = false) (hpaused : s.twin.paused = true) :
    Does .refillTick s (fun t => t.traffic.holds = s.traffic.holds ∧ Frame [.traffic] s t) := by
  refine ⟨refilled s, ?_, (refilled_traffic s).1, refilled_frame s⟩
  have htwin : (refilled s).twin = s.twin := (refilled_frame s).twin_eq rfl rfl
  rw [exec, execRefillTick, hf, if_neg (by decide)]
  exact congrArg Host.Outcome.next (if_pos (htwin ▸ hpaused))

/-- Where a table keeps or drops its values by their key, the value found is what the old one makes. -/
theorem aget_filterMap_value {K V : Type} [DecidableEq K] (t : Assoc K V) {f : K → V → Option V} (hkey : ∀ k a b, f k a = none → f k b = none) (k : K) :
    aget (t.filterMap (fun e => (f e.1 e.2).map (fun b => (e.1, b)))) k = (aget t k).bind (f k) := by
  induction t with
  | nil => rfl
  | cons e t ih =>
    obtain ⟨j, v⟩ := e
    have hhere : aget ((j, v) :: t) k = if j = k then some v else aget t k := by
      by_cases hj : j = k <;> simp [aget, hj]
    rw [hhere, List.filterMap_cons]
    dsimp only
    cases hv : f j v with
    | none =>
      refine ih.trans ?_
      by_cases hj : j = k
      · subst hj
        rw [if_pos rfl, Option.bind_some, hv]
        cases aget t j with
        | none => rfl
        | some w => exact hkey j v w hv
      · rw [if_neg hj]
    | some b =>
      by_cases hj : j = k
      · subst hj
        simp [aget, hv]
      · refine Eq.trans ?_ (ih.trans (by rw [if_neg hj]))
        simp [aget, hj]

/-- What a refill makes of a bucket, by the rates of its key. -/
def refillBy (s : State) (key : Nat × Nat × Nat) (b : Bucket) : Option Bucket := refill b (s.bucketRates key.2.1 key.2.2 true)

theorem refill_none (a b : Bucket) {rates : Option (Nat × Nat × Nat × Nat)} (h : refill a rates = none) : refill b rates = none := by
  cases rates with
  | none => rfl
  | some x => cases h

theorem ingress_refilled (s : State) : (refilled s).traffic.ingress
    = s.traffic.ingress.filterMap (fun e => (refillBy (refilled s) e.1 e.2).map (fun b => (e.1, b))) := rfl

theorem ingress_bucket {key : Nat × Nat × Nat} {b : Bucket} (h : aget (refilled s).traffic.ingress key = some b) :
    ∃ a cir pir cbs pbs, aget s.traffic.ingress key = some a ∧ (refilled s).bucketRates key.2.1 key.2.2 true = some (cir, pir, cbs, pbs)
      ∧ b.c = min (min a.c cbs + cir) cbs ∧ b.p = min (min a.p pbs + pir) pbs := by
  rw [ingress_refilled, aget_filterMap_value _ (f := refillBy (refilled s)) (fun k a b hn => refill_none a b hn)] at h
  obtain ⟨a, ha, hb⟩ := Option.bind_eq_some_iff.1 h
  rw [refillBy] at hb
  cases hrates : (refilled s).bucketRates key.2.1 key.2.2 true with
  | none =>
    rw [hrates] at hb
    cases hb
  | some x =>
    obtain ⟨cir, pir, cbs, pbs⟩ := x
    rw [hrates] at hb
    obtain rfl := Option.some.inj hb
    exact ⟨a, cir, pir, cbs, pbs, ha, rfl, rfl, rfl⟩

theorem refillTick_refills (hf : s.frozen = false) (hpaused : s.twin.paused = false) (hholds : s.traffic.holds = []) :
    Does .refillTick s (fun t => ∃ w, t = settleWaits w ∧ Frame [.traffic] s w
      ∧ w.traffic.profiles = s.table .trafficProfiles ∧ w.traffic.assign = s.table .trafficAssign
      ∧ ∀ key b, aget w.traffic.ingress key = some b → ∃ a cir pir cbs pbs, aget s.traffic.ingress key = some a
        ∧ w.bucketRates key.2.1 key.2.2 true = some (cir, pir, cbs, pbs) ∧ b.c = min (min a.c cbs + cir) cbs ∧ b.p = min (min a.p pbs + pir) pbs) := by
  have htwin : (refilled s).twin = s.twin := (refilled_frame s).twin_eq rfl rfl
  have hgo : ¬ (refilled s).twin.paused = true := by rw [htwin, hpaused]; decide
  have hexec : exec .refillTick s = .next (settleWaits (refilled s)) := by
    rw [exec, execRefillTick, hf, if_neg (by decide)]
    refine (congrArg Host.Outcome.next (if_neg hgo)).trans ?_
    rw [show (refillAll (adoptTraffic s)).traffic.holds = [] from hholds]
    rfl
  obtain ⟨-, hprofiles, hassign⟩ := refilled_traffic s
  exact ⟨_, hexec, _, rfl, refilled_frame s, hprofiles, hassign, fun key b hb => ingress_bucket hb⟩

/-! ### Holds (R510, R511) -/

theorem releaseHalf_read {p : Packet} (hop : p.op = 0x10) (policed : Bool) (s : State) : releaseHalf p policed s = s := by
  rw [releaseHalf, hop]
  rfl

theorem retryHeld_read {port slot : Nat} {p : Packet} (hop : p.op = 0x10) (s : State) : retryHeld port slot p s = policedRetry port slot p s := by
  rw [retryHeld, hop, if_neg (by decide), if_neg (by decide)]

theorem policedRetry_read {port slot : Nat} {p : Packet} (hop : p.op = 0x10) {u : State} {pa tenant key tier : Nat}
    (hcheck : checkAddressed port slot p s = (u, .ok pa tenant key tier)) : policedRetry port slot p s = answerNow p .retry u := by
  rw [policedRetry, hcheck]
  exact releaseHalf_read hop ..

theorem holdLimitExpiry_retries {slot port vc : Nat} {h : Held} {u : State} {pa tenant key tier : Nat} (hf : s.frozen = false)
    (hlive : s.live .policingEnable ≠ 0) (hpaused : s.twin.paused = false) (hquiet : s.twin.quiescing = false) (hact : s.fw.act ≠ .pause)
    (hheld : agetD s.traffic.holds (slot, port, vc) [] = [h]) (hop : h.pkt.op = 0x10)
    (hcheck : checkAddressed port slot h.pkt { s with traffic := { s.traffic with holds := adel s.traffic.holds (slot, port, vc) } } = (u, .ok pa tenant key tier)) :
    Does (.holdLimitExpiry slot port vc) s (fun t => t.carries (statusPacket h.pkt .retry 0) ∧ t.txn.reqs = u.txn.reqs ∧ t.mem = u.mem) := by
  have hgo : ¬ (s.live .policingEnable = 0 ∨ s.twin.paused = true ∨ ((s.fw.act = .pause ∨ s.twin.quiescing = true) ∧ vc = 5)) := by
    rw [hpaused, hquiet]
    simp [hlive, hact]
  have hexec : exec (.holdLimitExpiry slot port vc) s = .next (bump .tfRetryLimit (slot * 8 + classOfVc vc) (answerNow h.pkt .retry u)) := by
    rw [exec, execHoldLimitExpiry, hf, if_neg (by decide), if_neg hgo, hheld]
    refine congrArg (fun w => Host.Outcome.next (bump .tfRetryLimit (slot * 8 + classOfVc vc) w)) ?_
    exact (retryHeld_read hop _).trans (policedRetry_read hop hcheck)
  refine ⟨_, hexec, carries_of_leaves rfl (carries_answerNow ..), reqs_answerNow .., (answerNow_frame ..).mem_eq rfl⟩

/-! ### Samples and histograms (R516, R517) -/

/-- A loop of samples leaves all of traffic but the histograms. -/
def TrafficState.unsampled (t : TrafficState) : TrafficState := { t with histos := [] }

theorem sampleInto_unsampled (key : Nat × Nat × Nat) (depth : Nat) (oldest : Option Nat) (s : State) :
    (sampleInto key depth oldest s).traffic.unsampled = s.traffic.unsampled := rfl

theorem unsampled_forAll {α : Type} {f : α → State → State} (h : ∀ a s, (f a s).traffic.unsampled = s.traffic.unsampled) (l : List α) (s : State) :
    (forAll l f s).traffic.unsampled = s.traffic.unsampled := forAll_keeps (g := fun s => s.traffic.unsampled) h l s

theorem queueSample_keeps (hf : s.frozen = false) :
    Does .queueSample s (fun t => t.traffic.clears = [] ∧ t.traffic.holds = s.traffic.holds ∧ Frame [.traffic] s t) := by
  obtain ⟨t, ht⟩ := exec_next .queueSample s
  have hframe : FrameO [.traffic] s (exec .queueSample s) := exec_frame .queueSample s
  have hkept : t.traffic.unsampled = { s.traffic with histos := [], clears := [] } := by
    rw [exec, execQueueSample, hf, if_neg (by decide)] at ht
    obtain rfl := Host.Outcome.next.inj ht
    refine (unsampled_forAll (fun _ _ => sampleInto_unsampled ..) _ _).trans ?_
    refine (unsampled_forAll (fun _ _ => unsampled_forAll (fun _ _ => sampleInto_unsampled ..) _ _) _ _).trans ?_
    refine (unsampled_forAll (fun e s => ?_) _ _).trans rfl
    split
    · rfl
    · exact unsampled_forAll (fun _ _ => sampleInto_unsampled ..) _ _
  exact ⟨t, ht, (congrArg TrafficState.clears hkept :), (congrArg TrafficState.holds hkept :), hframe t ht⟩

theorem histogramClear_replies {slot : Nat} (hslot : slot < 8192 ∨ slot = 0xFFFF) :
    Replies (.histogramClear r slot) s (cmdObj 0x1C30 1 (roleOp + rolePm)) r 2 (leBytes 2 slot) .ok [] (fun t =>
      t.traffic.clears = s.traffic.clears ++ [slot] ∧ t.traffic.histos = s.traffic.histos) := by
  refine replies_effect (eff := fun b => b.onTraffic (fun t => { t with clears := t.clears ++ [slot] })) rfl ?_ rfl rfl rfl (fun b _ => rfl)
    fun b t hb ht => ?_
  · show (decide (slot ≥ 8192) && slot != 0xFFFF) = false
    obtain h | h := hslot
    · rw [decide_eq_false (by omega)]
      rfl
    · rw [bne_eq_false_iff_eq.2 h, Bool.and_false]
  have hrest : t.traffic.rest = (b.onTraffic (fun t => { t with clears := t.clears ++ [slot] })).traffic.rest := ht.frame.traffic_rest rfl
  have hb' : b.traffic.rest = s.traffic.rest := hb.frame.traffic_rest rfl
  exact ⟨(congrArg TrafficState.clears hrest :).trans (congrArg (· ++ [slot]) (congrArg TrafficState.clears hb' :)),
    (congrArg TrafficState.histos hrest :).trans (congrArg TrafficState.histos hb' :)⟩

end

/-- Settles O19: the commands of jobs by their verdicts and effects, the traffic chapter's ticks by what they leave of its part. -/
theorem jobsAndTraffic : Obligations.JobsAndTraffic := by
  unfold Obligations.JobsAndTraffic
  intro s r
  exact ⟨fun job tenant htenant hclosed hroom => jobOpen_replies htenant hclosed hroom, fun job hopen => jobClose_replies hopen,
    fun job hclosed => jobClose_refused hclosed, fun clusters stackList stop hclusters hstacks => quietHint_replies hclusters hstacks,
    fun job first period lead clusters stackList hclusters hstacks hperiod hopen => jobStepTimer_replies hclusters hstacks hperiod hopen,
    fun hf => ⟨refillTick_paused hf, refillTick_refills hf,
      fun slot port vc h u pa tenant key tier hlive hpaused hquiet hact hheld hop hcheck =>
        holdLimitExpiry_retries hf hlive hpaused hquiet hact hheld hop hcheck,
      queueSample_keeps hf, fun slot hslot => histogramClear_replies hslot⟩⟩

end Sys2Proof.Machine
end

section
/-!
PROOF. A firmware update: begun, erased, programmed, verified, activated, committed, aborted (R603, R604, R607 to R613).
-/
namespace Sys2Proof.Machine

/-! ### Banks -/

theorem bank_of_fw {s t : State} (h : t.fw = s.fw) (b : Bool) : t.bank b = s.bank b := by
  rw [State.bank, State.bank, h]

theorem staging_of_fw {s t : State} (h : t.fw = s.fw) : t.staging = s.staging := by
  rw [State.staging, State.staging, h]

theorem bank_setBank_same (b : Bool) (f : Bank → Bank) (s : State) : (setBank b f s).bank b = f (s.bank b) := by
  cases b <;> rfl

theorem bank_setBank_other (b : Bool) (f : Bank → Bank) (s : State) : (setBank b f s).bank (!b) = s.bank (!b) := by
  cases b <;> rfl

theorem bank_bankTo_same (b : Bool) (st : BankSt) (s : State) : (bankTo b st s).bank b = { s.bank b with st := st } := bank_setBank_same ..

theorem bank_bankTo_other (b : Bool) (st : BankSt) (s : State) : (bankTo b st s).bank (!b) = s.bank (!b) := bank_setBank_other ..

/-- The firmware part but for its banks. -/
def FirmwareState.unbanked (w : FirmwareState) : FirmwareState := { w with bankA := Bank.empty, bankB := Bank.empty }

theorem setBank_unbanked (b : Bool) (f : Bank → Bank) (s : State) : (setBank b f s).fw.unbanked = s.fw.unbanked := by
  cases b <;> rfl

theorem setBank_frame (b : Bool) (f : Bank → Bank) (s : State) : Frame [.fw] s (setBank b f s) := frame_setBank (by decide) (Frame.refl _ s)

theorem st_setBank (b : Bool) (f : Bank → Bank) (s : State) : (setBank b f s).fw.st = s.fw.st :=
  (congrArg FirmwareState.st (setBank_unbanked b f s) :)

theorem bootedB_setBank (b : Bool) (f : Bank → Bank) (s : State) : (setBank b f s).fw.bootedB = s.fw.bootedB :=
  (congrArg FirmwareState.bootedB (setBank_unbanked b f s) :)

theorem Handled.fw {s t : State} (h : Handled s t) : t.fw = s.fw := h.frame.fw_eq rfl

/-! ### Refusals by RETRY -/

/-- An operation that is accepted but may be asked again later. -/
theorem operate_retry {o : OpObj} {r : Req} {arg : List Byte} {n : Nat} {v : Verdict} {run : State → State} {s : State}
    (h : s.accepts o r n arg = true) (hbad : v.bad = false) (hfenced : v.fenced = false) (hstate : v.state = false) (hother : v.other = some .retry) :
    operate o r arg n v run s = bump .kRetries (transportNum r.client.transport)
      (refuse o r (kmsgCrc (mkMsg o.type r.id o.index o.sub .ok arg)) .retry v.body (heard r s)) := by
  simp only [State.accepts, Bool.and_eq_true, Bool.not_eq_true', Option.isNone_iff_eq_none] at h
  obtain ⟨⟨⟨⟨⟨⟨⟨⟨hup, hreheat⟩, hfresh⟩, halone⟩, hready⟩, hroles⟩, hstandby⟩, hsame⟩, -⟩ := h
  have hstarts : (!s.ready && !o.recovery) = false := by rw [← Bool.not_or, hready]; rfl
  have hmay : (!(o.any || (o.roles &&& s.rolesOf r.client) != 0 || s.isPeer r.client && (o.mirrored || o.index == 0x1E30))) = false := by
    rw [Bool.not_eq_false']; exact hroles
  have hsame' : (o.type == 3 && (if n = 0 then none else some (leNat (arg.take n))).isSome
      && s.kodp.running.any (fun x => x.index == o.index && x.sub == o.sub && x.firstArg == (if n = 0 then none else some (leNat (arg.take n))))) = false := hsame
  unfold operate onlyIf
  simp only [hup, heard_obs, hreheat, heard_cache, hfresh, heard_running, halone, heard_ready, hstarts, hbad, hmay, hfenced, heard_standby,
    heard_isPeer, hstandby, hstate, hother, hsame', beq_self_eq_true, Bool.not_true, Bool.or_self, Bool.false_eq_true, if_false, if_true]

theorem refused_retry {c : Instr} {s : State} {o : OpObj} {r : Req} {n : Nat} {arg : List Byte} {v : Verdict} {run : State → State} {q : State → Prop}
    (hexec : exec c s = .next (operate o r arg n v run s)) (hbad : v.bad = false) (hfenced : v.fenced = false) (hstate : v.state = false)
    (hother : v.other = some .retry) (hbody : v.body = []) (hq : ∀ t, Frame handledParts s t → q t) : Replies c s o r n arg .retry [] q := by
  intro hacc
  refine ⟨_, hexec, ?_⟩
  rw [operate_retry hacc hbad hfenced hstate hother, hbody]
  exact ⟨answered_refuse hacc (kmsgCrc (mkMsg o.type r.id o.index o.sub .ok arg)) .retry [] (heard_running r s),
    hq _ (frame_bump (by decide) (refuse_handled o r _ .retry [] s).frame)⟩

/-! ### The update begins (R607) -/

section
variable {s : State} {r : Req}

/-- What a bank holds when a header has been written to it. -/
def headerBank (header : List Byte) : Bank :=
  { Bank.empty with st := .writing, svn := headerSvn header, version := headerVersion header, blocks := [(0, header)], imageBlocks := headerBlocks header }

/-- The update begins with a header. -/
def begunUpdate (header : List Byte) (s : State) : State :=
  (setBank s.staging (fun _ => headerBank header) s).onFw (fun w => { w with st := .staging, verifying := false, verdict := none })

def fwBeginVerdict (header : List Byte) (s : State) : Verdict :=
  { bad := !headerOk header || decide (headerSvn header < s.fw.minSvn), fenced := false,
    state := !(s.fw.st == .idle || s.fw.st == .verified || s.fw.st == .failed) || s.updateBarred,
    other := if headerSigned header then none else some .integrity }

theorem exec_fwBegin (header : List Byte) : exec (.fwBegin r header) s
    = .next (operateOk (fwObj 1) r header 0 (fwBeginVerdict header s) (begunUpdate header) s) := rfl

theorem begunUpdate_frame (header : List Byte) (s : State) : Frame [.fw] s (begunUpdate header s) :=
  frame_onFw (by decide) (setBank_frame ..)

theorem bank_begunUpdate (header : List Byte) (s : State) (b : Bool) :
    (begunUpdate header s).bank b = (setBank s.staging (fun _ => headerBank header) s).bank b := rfl

theorem fwBegin_replies {header : List Byte} (hok : headerOk header = true) (hsvn : s.fw.minSvn ≤ headerSvn header) (hidle : s.fw.st = .idle)
    (hbar : s.updateBarred = false) :
    Replies (.fwBegin r header) s (fwObj 1) r 0 header (if headerSigned header = true then .ok else .integrity) [] (fun t =>
      (headerSigned header = true → t.fw.st = .staging ∧ (t.bank s.staging).st = .writing ∧ (t.bank s.staging).blocks = [(0, header)]
        ∧ (t.bank s.staging).svn = headerSvn header ∧ t.bank (!s.staging) = s.bank (!s.staging))
      ∧ (headerSigned header = false → t.fw = s.fw)) := by
  have hbad : (fwBeginVerdict header s).bad = false := by
    rw [fwBeginVerdict, hok, decide_eq_false (by omega)]
    rfl
  have hstate : (fwBeginVerdict header s).state = false := by
    rw [fwBeginVerdict, hidle, hbar]
    rfl
  cases hsigned : headerSigned header with
  | true =>
    refine replies_effect (exec_fwBegin header) hbad rfl hstate (by rw [fwBeginVerdict, hsigned]; rfl)
      (fun b _ => (begunUpdate_frame header b).running_eq rfl) fun b t hb ht => ⟨fun _ => ?_, fun h => absurd h (by decide)⟩
    have hwritten : t.bank s.staging = headerBank header := by
      rw [bank_of_fw ht.fw, bank_begunUpdate, ← staging_of_fw hb.fw, bank_setBank_same]
    have hother : t.bank (!s.staging) = s.bank (!s.staging) := by
      rw [bank_of_fw ht.fw, bank_begunUpdate, ← staging_of_fw hb.fw, bank_setBank_other, bank_of_fw hb.fw]
    rw [hwritten, ht.fw]
    exact ⟨rfl, rfl, rfl, rfl, hother⟩
  | false =>
    refine refused_other (exec_fwBegin header) hbad rfl hstate (by rw [fwBeginVerdict, hsigned]; rfl) (by decide) rfl fun t ht => ⟨fun h => absurd h (by decide), fun _ => ht.fw⟩

theorem fwEraseDone_erases {blocks : Nat} (hst : s.fw.st = .staging) : Does (.fwEraseDone blocks) s (fun t => (t.bank s.staging).erased
      = max (s.bank s.staging).erased (min blocks ((s.bank s.staging).imageBlocks - 1)) ∧ Frame [.fw] s t) := by
  refine ⟨_, congrArg Host.Outcome.next (if_pos hst), ?_, setBank_frame ..⟩
  rw [bank_setBank_same]

/-! ### Blocks (R608) -/

/-- A block that reads back as it was programmed. -/
def programmed (block : Nat) (data : List Byte) (s : State) : State :=
  setBank s.staging (fun k => { k with blocks := aset k.blocks block data, written := block :: k.written, blocksWritten := k.blocksWritten + 1 }) s

/-- A block that does not read back, whatever it then holds. -/
def misprogrammed (block : Nat) (held : List Byte) (s : State) : State :=
  useFree ((setBank s.staging (fun k => { k with blocks := aset k.blocks block held }) s).onFw (fun w => { w with flashBad := false }))

def fwBlockVerdict (block crc : Nat) (data : List Byte) (s : State) : Verdict :=
  { bad := block == 0 || decide (block ≥ (s.bank s.staging).imageBlocks && s.fw.st == .staging) || data.length != 512, fenced := false,
    state := s.fw.st != .staging || (s.bank s.staging).written.contains block,
    other := if block > (s.bank s.staging).erased then some .retry else if crc32c data ≠ crc then some .integrity else none }

theorem exec_fwBlock (block crc : Nat) (data : List Byte) : exec (.fwBlock r block crc data) s
    = .next (operate (fwObj 2) r (leBytes 4 block ++ leBytes 4 crc ++ data) 4 (fwBlockVerdict block crc data s) (fun s =>
      if s.fw.flashBad then reply (fwObj 2) r .integrity [] (misprogrammed block (leBytes 512 (Config.freeNat s.free)) s)
      else reply (fwObj 2) r .ok [] (programmed block data s)) s) := rfl

theorem misprogrammed_frame (block : Nat) (held : List Byte) (s : State) : Frame [.fw, .free] s (misprogrammed block held s) :=
  frame_useFree (by decide) (frame_onFw (by decide) (frame_setBank (by decide) (Frame.refl _ s)))

theorem fw_misprogrammed (block : Nat) (held : List Byte) (s : State) : (misprogrammed block held s).fw
    = ((setBank s.staging (fun k => { k with blocks := aset k.blocks block held }) s).onFw (fun w => { w with flashBad := false })).fw := rfl

section
variable {block crc : Nat} {data : List Byte} (hst : s.fw.st = .staging) (hlo : 1 ≤ block) (hhi : block < (s.bank s.staging).imageBlocks)
  (hlen : data.length = 512) (hnew : (s.bank s.staging).written.contains block = false)
include hst hlo hhi hlen

theorem fwBlockVerdict_good : (fwBlockVerdict block crc data s).bad = false := by
  have h0 : (block == 0) = false := beq_eq_false_iff_ne.2 (by omega)
  have h1 : decide (block ≥ (s.bank s.staging).imageBlocks) = false := decide_eq_false (by omega)
  have h2 : (data.length != 512) = false := by simp [hlen]
  simp only [fwBlockVerdict, h0, h1, h2, Bool.false_and, Bool.or_false, decide_false, Bool.false_eq_true]

include hnew

theorem fwBlockVerdict_may : (fwBlockVerdict block crc data s).state = false := by
  rw [fwBlockVerdict, hst, hnew]
  rfl

theorem fwBlock_programs (hcrc : crc32c data = crc) (herased : block ≤ (s.bank s.staging).erased) (hflash : s.fw.flashBad = false) :
    Replies (.fwBlock r block crc data) s (fwObj 2) r 4 (leBytes 4 block ++ leBytes 4 crc ++ data) .ok [] (fun t =>
      (t.bank s.staging).block block = data ∧ (t.bank s.staging).written.contains block = true ∧ t.fw.st = .staging) := by
  have hother : (fwBlockVerdict block crc data s).other = none := by
    rw [fwBlockVerdict, if_neg (by omega), if_neg (by simp [hcrc])]
  refine replies_handled (programmed block data) (exec_fwBlock block crc data) (fwBlockVerdict_good hst hlo hhi hlen) rfl
    (fwBlockVerdict_may hst hlo hhi hlen hnew) hother (fun b hb => ?_) (fun b _ => (setBank_frame ..).running_eq rfl) fun b t hb ht => ?_
  · rw [hb.fw, hflash, if_neg (by decide)]
  have hbank : t.bank s.staging = { s.bank s.staging with
      blocks := aset (s.bank s.staging).blocks block data, written := block :: (s.bank s.staging).written,
      blocksWritten := (s.bank s.staging).blocksWritten + 1 } := by
    rw [bank_of_fw ht.fw, programmed, ← staging_of_fw hb.fw, bank_setBank_same, ← bank_of_fw hb.fw]
  refine ⟨?_, ?_, ?_⟩
  · rw [hbank, Bank.block, agetD_aset_same]
  · rw [hbank]
    exact List.contains_iff_mem.2 List.mem_cons_self
  · rw [ht.fw, programmed, st_setBank, hb.fw, hst]

theorem fwBlock_misprograms (hcrc : crc32c data = crc) (herased : block ≤ (s.bank s.staging).erased) (hflash : s.fw.flashBad = true) :
    Replies (.fwBlock r block crc data) s (fwObj 2) r 4 (leBytes 4 block ++ leBytes 4 crc ++ data)
        .integrity [] (fun t => (t.bank s.staging).written = (s.bank s.staging).written ∧ t.fw.flashBad = false ∧ t.fw.st = .staging) := by
  have hother : (fwBlockVerdict block crc data s).other = none := by
    rw [fwBlockVerdict, if_neg (by omega), if_neg (by simp [hcrc])]
  refine replies_handled (fun b => misprogrammed block (leBytes 512 (Config.freeNat b.free)) b) (exec_fwBlock block crc data)
    (fwBlockVerdict_good hst hlo hhi hlen) rfl (fwBlockVerdict_may hst hlo hhi hlen hnew) hother (fun b hb => ?_)
    (fun b _ => (misprogrammed_frame ..).running_eq rfl) fun b t hb ht => ?_
  · rw [hb.fw, hflash, if_pos rfl]
  generalize leBytes 512 (Config.freeNat b.free) = held at ht
  have hfw := ht.fw.trans (fw_misprogrammed block held b)
  refine ⟨?_, ?_, ?_⟩
  · rw [bank_of_fw hfw, ← staging_of_fw hb.fw]
    exact (congrArg Bank.written (bank_setBank_same ..)).trans (congrArg Bank.written (bank_of_fw hb.fw b.staging) :)
  · rw [hfw]
    rfl
  · rw [hfw]
    exact (st_setBank ..).trans (hb.fw ▸ hst)

theorem fwBlock_retries (herased : (s.bank s.staging).erased < block) :
    Replies (.fwBlock r block crc data) s (fwObj 2) r 4 (leBytes 4 block ++ leBytes 4 crc ++ data) .retry [] (fun t => t.fw = s.fw) :=
  refused_retry (exec_fwBlock block crc data) (fwBlockVerdict_good hst hlo hhi hlen) rfl (fwBlockVerdict_may hst hlo hhi hlen hnew) (if_pos herased) rfl
    fun _ ht => ht.fw_eq rfl

end

/-! ### Verification (R609) -/

/-- A verification under way. -/
def verifyBegun (s : State) : State := s.onFw (fun w => { w with verifying := true })

/-- A verification's outcome taken. -/
def verdictTaken (s : State) : State := s.onFw (fun w => { w with verdict := none })

theorem exec_fwVerify : exec (.fwVerify r) s
    = .next (operate (fwObj 3) r [] 0 { Verdict.ok with state := s.fw.verdict.isNone && s.fw.st != .staging }
      (fun s => match s.fw.verdict with
        | some v => match v with
          | none => reply (fwObj 3) r .ok [] (verdictTaken s)
          | some c => reply (fwObj 3) r .integrity (leBytes 1 c) (verdictTaken s)
        | none => reply (fwObj 3) r .retry [] (verifyBegun s)) s) := rfl

theorem fwVerify_begins (hst : s.fw.st = .staging) (hnone : s.fw.verdict = none) :
    Replies (.fwVerify r) s (fwObj 3) r 0 [] .retry [] (fun t => t.fw.verifying = true ∧ t.fw.st = .staging) := by
  refine replies_handled verifyBegun exec_fwVerify rfl rfl ?_ rfl (fun b hb => ?_) (fun _ _ => rfl) fun b t hb ht => ?_
  · show (s.fw.verdict.isNone && s.fw.st != .staging) = false
    rw [hst, hnone]
    rfl
  · rw [hb.fw, hnone]
  · rw [ht.fw]
    exact ⟨rfl, (congrArg FirmwareState.st hb.fw).trans hst⟩

theorem fwVerify_passes (hpass : s.fw.verdict = some none) :
    Replies (.fwVerify r) s (fwObj 3) r 0 [] .ok [] (fun t => t.fw.verdict = none ∧ t.fw.st = s.fw.st) := by
  refine replies_handled verdictTaken exec_fwVerify rfl rfl ?_ rfl (fun b hb => ?_) (fun _ _ => rfl) fun b t hb ht => ?_
  · show (s.fw.verdict.isNone && s.fw.st != .staging) = false
    rw [hpass]
    rfl
  · rw [hb.fw, hpass]
  · rw [ht.fw]
    exact ⟨rfl, (congrArg FirmwareState.st hb.fw :)⟩

theorem fwVerify_fails {c : Nat} (hfail : s.fw.verdict = some (some c)) :
    Replies (.fwVerify r) s (fwObj 3) r 0 [] .integrity (leBytes 1 c) (fun t => t.fw.verdict = none) := by
  refine replies_handled verdictTaken exec_fwVerify rfl rfl ?_ rfl (fun b hb => ?_) (fun _ _ => rfl) fun b t hb ht => ?_
  · show (s.fw.verdict.isNone && s.fw.st != .staging) = false
    rw [hfail]
    rfl
  · rw [hb.fw, hfail]
  · rw [ht.fw]
    rfl

theorem fwVerifyDone_judges (hst : s.fw.st = .staging) (hrun : s.fw.verifying = true) : Does .fwVerifyDone s (fun t => t.fw.verifying = false ∧ Frame [.fw] s t
      ∧ ((s.bank s.staging).badComponent = none → t.fw.st = .verified ∧ (t.bank s.staging).st = .verified ∧ t.fw.verdict = some none)
      ∧ (∀ c, (s.bank s.staging).badComponent = some c → t.fw.st = .failed ∧ (t.bank s.staging).st = .failed ∧ t.fw.verdict = some (some c))) := by
  cases hbad : (s.bank s.staging).badComponent with
  | none =>
    have hexec : exec .fwVerifyDone s
        = .next ((bankTo s.staging .verified s).onFw (fun w => { w with st := .verified, verifying := false, verdict := some none })) := by
      refine congrArg Host.Outcome.next ((if_pos ⟨hrun, hst⟩).trans ?_)
      simp only [hbad]
    refine ⟨_, hexec, rfl, frame_onFw (by decide) (setBank_frame ..), fun _ => ⟨rfl, ?_, rfl⟩, fun c hc => absurd hc (by simp)⟩
    exact congrArg Bank.st (bank_bankTo_same ..)
  | some c =>
    have hexec : exec .fwVerifyDone s
        = .next ((bankTo s.staging .failed s).onFw (fun w => { w with st := .failed, verifying := false, verdict := some (some c) })) := by
      refine congrArg Host.Outcome.next ((if_pos ⟨hrun, hst⟩).trans ?_)
      simp only [hbad]
    refine ⟨_, hexec, rfl, frame_onFw (by decide) (setBank_frame ..), fun h => absurd h (by simp), fun d hd => ?_⟩
    obtain rfl := Option.some.inj hd
    exact ⟨rfl, congrArg Bank.st (bank_bankTo_same ..), rfl⟩

/-! ### Activation and rollback (R612, R613) -/

theorem startReheat_frame (die : Nat) (s : State) :
    Frame [.pkg, .ledger, .leaves, .sec, .sessions, .obs, .rings, .kodp, .running, .ctrs, .out] s (startReheat die s) :=
  frame_startReheat (by decide) (Frame.refl _ s)

theorem startReheat_reheats (die : Nat) (s : State) : (startReheat die s).obs.reheat.contains die = true := by
  cases h : s.obs.reheat.contains die with
  | true => rw [startReheat, if_pos h, h]
  | false =>
    rw [(startReheat_listed h).1]
    exact List.contains_iff_mem.2 (List.mem_append_right _ (List.mem_singleton_self _))

/-- A reheat keeps the replies that were sent. -/
theorem startReheat_cache (die : Nat) (s : State) : (startReheat die s).kodp.cache = s.kodp.cache := by
  unfold startReheat
  split
  · rfl
  extract_lets t n u v w
  have hu : u.kodp.cache = s.kodp.cache := by
    unfold u onlyIf
    split
    · exact (cache_of_unnoted (notify_unnoted ..)).trans rfl
    · rfl
  have hw : w.kodp.cache = u.kodp.cache :=
    congrArg KodpState.cache (Frame.kodp_eq (P := [.pkg]) (t := v) (frame_onlyIf (fun x hx => frame_holdPins (by decide) hx) (Frame.refl _ u)) rfl rfl rfl)
  split
  · exact (hw.trans hu)
  · exact (hw.trans hu)

/-- An answer to a request that the standby holds no copy of is in the reply cache at once. -/
theorem reply_cached {o : OpObj} {r : Req} {st : Status} {body : List Byte} {u : State} {x : Running} (htimely : x.timedOut = false)
    (halone : x.peerArg = none) (hmine : u.kodp.running.find? (fun x => x.req == r && x.index == o.index && x.sub == o.sub) = some x) :
    (agetD (reply o r st body u).kodp.cache r.client []).getLast? = some { reqId := r.id, crc := x.crc, reply := replyOf o r st body } := by
  unfold reply
  extract_lets mine t m n
  rw [show u.kodp.running.find? mine = some x from hmine]
  dsimp only
  rw [halone, htimely, if_neg Bool.false_ne_true, Option.isSome_none, Bool.and_false, if_neg Bool.false_ne_true]
  exact (sendReply_cache ..).1

/-- The staging bank on Trial. -/
def onTrial (s : State) : State := (bankTo s.staging .trial s).onFw (fun w => { w with st := .trial, act := .reheat })

theorem onTrial_frame (s : State) : Frame [.fw] s (onTrial s) := frame_onFw (by decide) (setBank_frame ..)

/-- What an activation does once it is taken. -/
def activated (r : Req) (s : State) : State :=
  let new := s.staging
  let s := reply (fwObj 4) r .ok [] (onTrial s)
  if s.fw.recovery then
    match bootFrom [new, !new] s with
    | (s, some b) => ((bootAlias (s.onFw (fun w => { w with bootedB := b, recovery := false, act := .selfCheck }))).onBoot (fun x => { x with step := 2 })).onPkg (fun p => { p with phase := .run })
    | (s, none) => s
  else startReheat 0 s

theorem exec_fwActivate : exec (.fwActivate r) s
    = .next (operate (fwObj 4) r [] 0 { Verdict.ok with state := s.fw.st != .verified || s.updateBarred } (activated r) s) := rfl

theorem fw_onTrial (s : State) : (onTrial s).fw.st = .trial ∧ (onTrial s).fw.act = .reheat ∧ (onTrial s).fw.bootedB = s.fw.bootedB
    ∧ (onTrial s).fw.recovery = s.fw.recovery ∧ (onTrial s).bank s.staging = { s.bank s.staging with st := .trial } :=
  ⟨rfl, rfl, bootedB_setBank .., (congrArg FirmwareState.recovery (setBank_unbanked s.staging (fun k => { k with st := .trial }) s) :), bank_bankTo_same s.staging .trial s⟩

theorem fwActivate_replies (hst : s.fw.st = .verified) (hbar : s.updateBarred = false) (hrec : s.fw.recovery = false) :
    Replies (.fwActivate r) s (fwObj 4) r 0 [] .ok [] (fun t => t.fw.st = .trial
      ∧ t.fw.act = .reheat ∧ (t.bank s.staging).st = .trial ∧ t.obs.reheat.contains 0 = true ∧ t.sec.sessions = [] ∧ t.fw.bootedB = s.fw.bootedB ∧ t.mem = s.mem) := by
  intro hacc
  have hb := begun_handled (fwObj 4) r [] 0 s
  have hmine := find_running_begun hacc
  generalize hbegun : begun (fwObj 4) r [] 0 s = b at hb hmine
  obtain ⟨htrial, hact, hbooted, hrecovery, hbank⟩ := fw_onTrial b
  have hanswer : Handled (onTrial b) (reply (fwObj 4) r .ok [] (onTrial b)) :=
    reply_handled (x := runningOf (fwObj 4) r [] 0) rfl (by rw [(onTrial_frame b).running_eq rfl]; exact hmine)
  have hcached := reply_cached (o := fwObj 4) (r := r) (st := .ok) (body := []) (u := onTrial b) (x := runningOf (fwObj 4) r [] 0) rfl rfl
    (by rw [(onTrial_frame b).running_eq rfl]; exact hmine)
  generalize hu : reply (fwObj 4) r .ok [] (onTrial b) = u at hanswer hcached
  have hnone : u.obs.reheat.contains 0 = false := by
    rw [hanswer.obs, (onTrial_frame b).obs_eq rfl rfl rfl, hb.obs]
    simp only [State.accepts, Bool.and_eq_true, Bool.not_eq_true'] at hacc
    exact hacc.1.1.1.1.1.1.1.2
  have hgo : ¬ u.fw.recovery = true := by
    rw [hanswer.fw, hrecovery, hb.fw, hrec]
    decide
  have hrun : activated r b = startReheat 0 u := by
    unfold activated
    rw [hu]
    exact if_neg hgo
  have hreheat := startReheat_frame 0 u
  have hfw : (startReheat 0 u).fw = (onTrial b).fw := (hreheat.fw_eq rfl).trans hanswer.fw
  obtain ⟨hrunning, hsessions⟩ := (startReheat_listed hnone).2 rfl
  have hexec : exec (.fwActivate r) s = .next (startReheat 0 u) := by
    rw [exec_fwActivate, operate_accepted hacc rfl rfl (by rw [hst, hbar]; rfl) rfl, hbegun, hrun]
  refine ⟨_, hexec, ⟨.inl ⟨_, by rw [startReheat_cache]; exact hcached, rfl, rfl⟩, by rw [hrunning]; rfl⟩, ?_⟩
  refine ⟨by rw [hfw, htrial], by rw [hfw, hact], ?_, startReheat_reheats 0 u, hsessions, by rw [hfw, hbooted, hb.fw], ?_⟩
  · rw [bank_of_fw hfw, ← staging_of_fw hb.fw, hbank]
  · rw [hreheat.mem_eq rfl, hanswer.frame.mem_eq rfl, (onTrial_frame b).mem_eq rfl, hb.frame.mem_eq rfl]

/-- A bank that failed and the other booted. -/
def rolledBack (new : Bool) (why : Nat) (s : State) : State :=
  (bankTo new .failed s).onFw (fun w => { w with st := .idle, act := .none, bootedB := !new, lastAct := why })

theorem rollBack_eq (new : Bool) (why : Nat) (s : State) : rollBack new why s
    = notify 0x2003 (leBytes 4 (s.bank new).version ++ leBytes 1 why) (startReheat 0 (rolledBack new why s)) := rfl

theorem notify_frame (code : Nat) (payload : List Byte) (s : State) :
    Frame [.ledger, .leaves, .sessions, .rings, .kodp, .ctrs, .out] s (notify code payload s) := frame_notify (by decide) (Frame.refl _ s)

theorem reheat_of_rest {s t : State} (h : t.obs.rest = s.obs.rest) : t.obs.reheat = s.obs.reheat := (congrArg ObserveState.reheat h :)

theorem fw_rollBack (new : Bool) (why : Nat) (s : State) : (rollBack new why s).fw = (rolledBack new why s).fw := by
  rw [rollBack_eq, (notify_frame ..).fw_eq rfl, (startReheat_frame ..).fw_eq rfl]

theorem fwSelfcheckDone_rollsBack (hact : s.fw.act = .selfCheck) : Does (.fwSelfcheckDone false) s (fun t => t.fw.bootedB = (!s.fw.bootedB)
      ∧ (t.bank s.fw.bootedB).st = .failed ∧ t.fw.st = .idle ∧ t.fw.lastAct = 3 ∧ t.obs.reheat.contains 0 = true) := by
  have hfw := fw_rollBack s.fw.bootedB 3 s
  refine ⟨_, congrArg Host.Outcome.next ((if_neg (not_not.2 hact)).trans (if_pos rfl)), ?_, ?_, ?_, ?_, ?_⟩
  · rw [hfw]
    rfl
  · rw [bank_of_fw hfw]
    exact congrArg Bank.st (bank_bankTo_same ..)
  · rw [hfw]
    rfl
  · rw [hfw]
    rfl
  · rw [rollBack_eq, reheat_of_rest ((notify_frame ..).obs_rest rfl)]
    exact startReheat_reheats 0 _

/-! ### The commit (R611, R612) -/

/-- The banks of a commit: the new one Good, the old one Copying. -/
def committed (s : State) : State :=
  (bankTo (!s.fw.bootedB) .copying (bankTo s.fw.bootedB .good s)).onFw (fun w => { w with st := .committing, act := .none, lastAct := 1 })

theorem committed_frame (s : State) : Frame [.fw] s (committed s) :=
  frame_onFw (by decide) (frame_setBank (by decide) (setBank_frame ..))

theorem commitFw_committed (s : State) : (commitFw s).fw = (committed s).fw ∧ (commitFw s).mem = s.mem := by
  unfold commitFw
  exact ⟨(notify_frame ..).fw_eq rfl, ((notify_frame ..).mem_eq rfl).trans ((committed_frame s).mem_eq rfl)⟩

theorem bank_committed (s : State) : ((committed s).bank s.fw.bootedB).st = .good ∧ ((committed s).bank (!s.fw.bootedB)).st = .copying := by
  have hother := bank_bankTo_other (!s.fw.bootedB) .copying (bankTo s.fw.bootedB .good s)
  rw [Bool.not_not, bank_bankTo_same] at hother
  exact ⟨congrArg Bank.st hother, congrArg Bank.st (bank_bankTo_same ..)⟩

theorem fw_committed (s : State) : (committed s).fw.st = .committing ∧ (committed s).fw.act = .none ∧ (committed s).fw.lastAct = 1
    ∧ (committed s).fw.engineDigest = s.fw.engineDigest := by
  refine ⟨rfl, rfl, rfl, ?_⟩
  exact (congrArg FirmwareState.engineDigest ((setBank_unbanked (!s.fw.bootedB) (fun k => { k with st := .copying }) (bankTo s.fw.bootedB .good s)).trans
    (setBank_unbanked s.fw.bootedB (fun k => { k with st := .good }) s)) :)

theorem fwSelfcheckDone_commits (hact : s.fw.act = .selfCheck) (hsame : (s.bank s.fw.bootedB).engine = s.fw.engineDigest) :
    Does (.fwSelfcheckDone true) s (fun t => t.fw.st = .committing
      ∧ (t.bank s.fw.bootedB).st = .good ∧ (t.bank (!s.fw.bootedB)).st = .copying ∧ t.fw.lastAct = 1 ∧ t.mem = s.mem) := by
  obtain ⟨hfw, hmem⟩ := commitFw_committed s
  obtain ⟨hgood, hcopying⟩ := bank_committed s
  refine ⟨_, congrArg Host.Outcome.next ((if_neg (not_not.2 hact)).trans ((if_neg (by decide)).trans (if_neg (not_not.2 hsame)))), ?_, ?_, ?_, ?_, hmem⟩
  · rw [hfw]
    rfl
  · rw [bank_of_fw hfw, hgood]
  · rw [bank_of_fw hfw, hcopying]
  · rw [hfw]
    rfl

theorem fwSelfcheckDone_pauses (hact : s.fw.act = .selfCheck) (hdiffers : (s.bank s.fw.bootedB).engine ≠ s.fw.engineDigest) :
    Does (.fwSelfcheckDone true) s (fun t => t.fw.act = .pause ∧ Frame [.fw] s t) :=
  ⟨_, congrArg Host.Outcome.next ((if_neg (not_not.2 hact)).trans ((if_neg (by decide)).trans (if_pos hdiffers))), rfl,
    frame_onFw (by decide) (Frame.refl _ s)⟩

theorem fwPauseEnd_commits (hact : s.fw.act = .pause) : Does .fwPauseEnd s (fun t => t.fw.st = .committing
      ∧ t.fw.engineDigest = (s.bank s.fw.bootedB).engine ∧ t.fw.act = .none ∧ t.mem = s.mem) := by
  obtain ⟨hfw, hmem⟩ := commitFw_committed (s.onFw (fun w => { w with engineDigest := (s.bank w.bootedB).engine }))
  obtain ⟨hst, hnone, -, hengine⟩ := fw_committed (s.onFw (fun w => { w with engineDigest := (s.bank w.bootedB).engine }))
  exact ⟨_, congrArg Host.Outcome.next (if_pos hact), by rw [hfw, hst], by rw [hfw, hengine]; rfl, by rw [hfw, hnone], hmem⟩

/-- Both banks with the booted image. -/
def copied (s : State) : State :=
  (setBank s.staging (fun _ => { s.bank s.fw.bootedB with st := .good }) s).onFw (fun w => { w with st := .idle })

theorem fwCopyDone_ends (hst : s.fw.st = .committing) : Does .fwCopyDone s (fun t => t.fw.st = .idle ∧ (t.bank s.staging).st = .good
      ∧ (t.bank s.staging).blocks = (s.bank s.fw.bootedB).blocks ∧ t.bank s.fw.bootedB = s.bank s.fw.bootedB ∧ t.mem = s.mem) := by
  have hexec : exec .fwCopyDone s = .next (notify 0x2002 (leBytes 4 (s.bank s.fw.bootedB).version) (copied s)) :=
    congrArg Host.Outcome.next (if_pos hst)
  have hfw : (notify 0x2002 (leBytes 4 (s.bank s.fw.bootedB).version) (copied s)).fw = (copied s).fw := (notify_frame ..).fw_eq rfl
  have hstaged : (copied s).bank s.staging = { s.bank s.fw.bootedB with st := .good } := bank_setBank_same ..
  have hbooted : (copied s).bank s.fw.bootedB = s.bank s.fw.bootedB := by
    have hother := bank_setBank_other s.staging (fun _ => { s.bank s.fw.bootedB with st := .good }) s
    rwa [State.staging, Bool.not_not] at hother
  refine ⟨_, hexec, ?_, ?_, ?_, ?_, ?_⟩
  · rw [hfw]
    rfl
  · rw [bank_of_fw hfw, hstaged]
  · rw [bank_of_fw hfw, hstaged]
  · rw [bank_of_fw hfw, hbooted]
  · exact ((notify_frame ..).mem_eq rfl).trans (Frame.mem_eq (P := [.fw]) (frame_onFw (by decide) (setBank_frame ..)) rfl)

/-! ### The end of an update, and the SVN (R604, R609) -/

/-- An update given up. -/
def abortedUpdate (s : State) : State :=
  (setBank s.staging (fun _ => Bank.empty) s).onFw (fun w => { w with st := .idle, verifying := false, verdict := none })

theorem abortedUpdate_frame (s : State) : Frame [.fw] s (abortedUpdate s) := frame_onFw (by decide) (setBank_frame ..)

theorem bank_abortedUpdate (s : State) (b : Bool) : (abortedUpdate s).bank b = (setBank s.staging (fun _ => Bank.empty) s).bank b := rfl

theorem fwAbort_replies (hst : s.fw.st = .staging ∨ s.fw.st = .verified ∨ s.fw.st = .failed) :
    Replies (.fwAbort r) s (fwObj 5) r 0 [] .ok [] (fun t => t.fw.st = .idle ∧ t.bank s.staging = Bank.empty ∧ t.bank (!s.staging) = s.bank (!s.staging)) := by
  refine replies_effect (eff := abortedUpdate) rfl rfl rfl ?_ rfl (fun b _ => (abortedUpdate_frame b).running_eq rfl) fun b t hb ht => ?_
  · show (!(s.fw.st == .staging || s.fw.st == .verified || s.fw.st == .failed)) = false
    obtain h | h | h := hst <;> rw [h] <;> rfl
  refine ⟨?_, ?_, ?_⟩
  · rw [ht.fw]
    rfl
  · rw [bank_of_fw ht.fw, bank_abortedUpdate, ← staging_of_fw hb.fw, bank_setBank_same]
  · rw [bank_of_fw ht.fw, bank_abortedUpdate, ← staging_of_fw hb.fw, bank_setBank_other, bank_of_fw hb.fw]

/-- The SVN that the fuses are raised to. -/
def State.raisedSvn (s : State) : Nat := max s.fw.minSvn (s.bank s.fw.bootedB).svn

theorem raisedSvn_of_fw {s t : State} (h : t.fw = s.fw) : t.raisedSvn = s.raisedSvn := by
  rw [State.raisedSvn, State.raisedSvn, bank_of_fw h, h]

/-- The fuses blown. -/
def raisedFuses (s : State) : State := s.onFw (fun w => { w with minSvn := s.raisedSvn })

theorem exec_fwRaiseSvn : exec (.fwRaiseSvn r) s = .next (operate (fwObj 6) r [] 0 { Verdict.ok with state := s.fw.st != .idle || s.updateBarred }
    (fun s => reply (fwObj 6) r .ok (leBytes 4 s.raisedSvn) (raisedFuses s)) s) := rfl

theorem fwRaiseSvn_replies (hst : s.fw.st = .idle) (hbar : s.updateBarred = false) :
    Replies (.fwRaiseSvn r) s (fwObj 6) r 0 [] .ok (leBytes 4 (max s.fw.minSvn (s.bank s.fw.bootedB).svn)) (fun t =>
      t.fw.minSvn = max s.fw.minSvn (s.bank s.fw.bootedB).svn ∧ t.fw.st = .idle) := by
  refine replies_handled raisedFuses exec_fwRaiseSvn rfl rfl ?_ rfl (fun b hb => ?_) (fun _ _ => rfl) fun b t hb ht => ?_
  · show (s.fw.st != .idle || s.updateBarred) = false
    rw [hst, hbar]
    rfl
  · rw [raisedSvn_of_fw hb.fw]
    rfl
  · rw [ht.fw]
    exact ⟨raisedSvn_of_fw hb.fw, (congrArg FirmwareState.st hb.fw).trans hst⟩

end

/-- Settles O45: each command of an update by its verdict and what it does to the two banks; the activation by the answer it gives before the
reheat it starts. -/
theorem firmwareUpdate : Obligations.FirmwareUpdate := by
  unfold Obligations.FirmwareUpdate
  intro s r
  exact ⟨fun header hok hsvn hidle hbar => fwBegin_replies hok hsvn hidle hbar, fun blocks hst => fwEraseDone_erases hst,
    fun block crc data hst hlo hhi hlen hnew hcrc => ⟨fwBlock_programs hst hlo hhi hlen hnew hcrc, fwBlock_misprograms hst hlo hhi hlen hnew hcrc,
      fwBlock_retries hst hlo hhi hlen hnew⟩,
    fwVerify_begins, fwVerify_passes, fun c hfail => fwVerify_fails hfail, fwVerifyDone_judges, fwActivate_replies, fwSelfcheckDone_rollsBack,
    fwSelfcheckDone_commits, fwSelfcheckDone_pauses, fwPauseEnd_commits, fwCopyDone_ends, fwAbort_replies, fwRaiseSvn_replies⟩

end Sys2Proof.Machine
end

section
/-!
PROOF. The registered tensors (R633) stay as they are through everything a translation may set going: the miss of a granule, the frame it takes,
the recalls of its lines and what is committed on the way.
-/
namespace Sys2Proof.Machine

theorem tensors_of_frame {P : List Part} {s t : State} (h : Frame P s t) (hp : P.contains .obs = false) : t.obs.tensors = s.obs.tensors :=
  (congrArg ObserveState.tensors (h.obs_rest hp) :)

/-- Everything that a translation may touch but the registered tensors. -/
def missParts : List Part := [.pkg, .txn, .ledger, .part, .dir, .mem, .dram, .deep, .integ, .mirror, .leaves, .power, .sec, .sessions, .rings, .kodp, .ctrs, .out, .free]

theorem endDump_tensors (d : Dump) (st : Status) (gone : Bool) (s : State) : (endDump d st gone s).obs.tensors = s.obs.tensors := by
  unfold endDump
  exact (tensors_of_frame (P := missParts) (frame_notify (by decide) (frame_onlyIf (fun t ht => frame_sendDebug (by decide) ht) (Frame.refl _ _))) rfl).trans rfl

theorem onObs_tensors {f : ObserveState → ObserveState} (hf : ∀ o, (f o).tensors = o.tensors) (s : State) : (s.onObs f).obs.tensors = s.obs.tensors := hf _

theorem dumpCopy_tensors (line : Nat) (s : State) : (dumpCopy line s).obs.tensors = s.obs.tensors := by
  unfold dumpCopy
  refine forAll_keeps (g := fun s => s.obs.tensors) (fun d s => ?_) _ s
  dsimp only
  split
  · rfl
  · split
    · split
      · exact endDump_tensors ..
      · refine (onObs_tensors ?_ _).trans ?_
        · exact fun _ => rfl
        · exact tensors_of_frame (P := missParts) (frame_setMeta (by decide) (frame_putBytes (by decide) (frame_putBytes (by decide) (Frame.refl _ s)))) rfl
    · rfl

theorem commitLine_tensors (line : Nat) (bytes : List Byte) (m : LineMeta) (s : State) : (commitLine line bytes m s).obs.tensors = s.obs.tensors := by
  unfold commitLine
  split
  · rfl
  next l _ =>
    split
    · exact tensors_of_frame (P := missParts) (frame_onlyIf (fun t ht => frame_poisonListed (by decide) ht) (Frame.refl _ s)) rfl
    · refine Eq.trans (b := (commitRaw l bytes m (dirtyFrame line (dumpCopy line s))).obs.tensors) rfl ?_
      exact (tensors_of_frame (P := missParts) (frame_commitRaw (by decide) (frame_dirtyFrame (by decide) (Frame.refl _ _))) rfl).trans (dumpCopy_tensors line s)

theorem writeLine_tensors (line : Nat) (bytes : List Byte) (poison : Bool) (cause tenant keyId : Nat) (s : State) :
    (writeLine line bytes poison cause tenant keyId s).obs.tensors = s.obs.tensors := by
  unfold writeLine
  exact (tensors_of_frame (P := missParts) (frame_onlyIf (fun t ht => frame_poisonEvent (by decide) ht) (Frame.refl _ _)) rfl).trans (commitLine_tensors ..)

theorem poisonLine_tensors (line cause : Nat) (s : State) : (poisonLine line cause s).obs.tensors = s.obs.tensors := by
  unfold poisonLine
  split
  · rfl
  · exact (tensors_of_frame (P := missParts) (frame_dirtyHeld (by decide) (frame_poisonEvent (by decide) (Frame.refl _ _))) rfl).trans (commitLine_tensors ..)

/-- An entry put, dropped, or one of the two: no tensor changes. -/
theorem putEntry_tensors (line : Nat) (e : DirEntry) (s : State) : (putEntry line e s).obs.tensors = s.obs.tensors :=
  tensors_of_frame (P := missParts) (frame_putEntry (by decide) (Frame.refl _ s)) rfl

theorem dropEntry_tensors (line : Nat) (s : State) : (dropEntry line s).obs.tensors = s.obs.tensors :=
  tensors_of_frame (P := missParts) (frame_dropEntry (by decide) (Frame.refl _ s)) rfl

theorem putOrDrop_tensors (line : Nat) (e : DirEntry) (s : State) : (putOrDrop line e s).obs.tensors = s.obs.tensors :=
  tensors_of_frame (P := missParts) (frame_putOrDrop (by decide) (Frame.refl _ s)) rfl

theorem countLoss_tensors (slot : Nat) (f : LossCounts → LossCounts) (s : State) : (countLoss slot f s).obs.tensors = s.obs.tensors :=
  tensors_of_frame (P := missParts) (frame_countLoss (by decide) (Frame.refl _ s)) rfl

theorem applyLoss_tensors (line slot : Nat) (s : State) : (applyLoss line slot s).obs.tensors = s.obs.tensors := by
  unfold applyLoss
  split
  · rfl
  next e _ =>
    split
    · exact poisonLine_tensors ..
    split
    · split
      · exact countLoss_tensors ..
      · rfl
    split
    · rfl
    split
    · extract_lets t
      have ht : t.obs.tensors = s.obs.tensors := (poisonLine_tensors ..).trans (countLoss_tensors ..)
      split
      · exact (putEntry_tensors ..).trans ht
      · exact (dropEntry_tensors ..).trans ht
    · extract_lets t
      have ht : t.obs.tensors = s.obs.tensors := countLoss_tensors ..
      split
      · exact (putEntry_tensors ..).trans ht
      · exact (dropEntry_tensors ..).trans ht
    · extract_lets t
      have ht : t.obs.tensors = s.obs.tensors := countLoss_tensors ..
      split
      · exact (putEntry_tensors ..).trans ht
      · exact (putOrDrop_tensors ..).trans ht

theorem takeEviction_tensors (v : Eviction) (s : State) : (takeEviction v s).obs.tensors = s.obs.tensors := by
  unfold takeEviction
  extract_lets t
  split
  · rfl
  next e _ =>
    extract_lets u
    have hu : u.obs.tensors = s.obs.tensors := by
      unfold u
      split
      · split
        · exact writeLine_tensors ..
        · rfl
      · rfl
    split
    · exact hu
    · exact (putEntry_tensors ..).trans hu

theorem closeRecall_tensors (line : Nat) (s : State) : (closeRecall line s).obs.tensors = s.obs.tensors := by
  unfold closeRecall
  extract_lets t
  split
  · exact (putOrDrop_tensors ..).trans rfl
  · rfl
  · rfl

theorem startRecall_tensors (line : Nat) (down : Bool) (targets : List Nat) (kind : Nat) (keep : List Nat) (cause : RecallCause) (s : State) :
    (startRecall line down targets kind keep cause s).obs.tensors = s.obs.tensors := by
  unfold startRecall
  split
  · rfl
  next e _ =>
    extract_lets t u w
    have hu : u.obs.tensors = s.obs.tensors := (putEntry_tensors ..).trans rfl
    have hw : w.obs.tensors = u.obs.tensors := by
      refine forAll_keeps (g := fun s => s.obs.tensors) (fun k s => ?_) _ u
      extract_lets live
      clear_value live
      split
      · exact applyLoss_tensors ..
      split
      · exact takeEviction_tensors ..
      · split
        · rfl
        · exact (tensors_of_frame (P := missParts) (frame_sendSnoop (by decide) (Frame.refl _ _)) rfl).trans rfl
    split
    · split
      · exact (closeRecall_tensors ..).trans (hw.trans hu)
      · exact hw.trans hu
    · exact hw.trans hu

theorem recallAll_tensors (line kind : Nat) (s : State) : (recallAll line kind s).obs.tensors = s.obs.tensors := by
  unfold recallAll
  split
  · split
    · rfl
    · exact startRecall_tensors ..
  · rfl

theorem recallGranule_tensors (g : Nat) (s : State) : (recallGranule g s).1.obs.tensors = s.obs.tensors := by
  unfold recallGranule
  exact forAll_keeps (f := fun (e : Nat × DirEntry) s => recallAll e.1 5 s) (g := fun s => s.obs.tensors) (fun e s => recallAll_tensors e.1 5 s) _ s

theorem takeWay_tensors (cluster set w : Nat) (s : State) : (takeWay cluster set w s).1.obs.tensors = s.obs.tensors := by
  unfold takeWay
  extract_lets g
  have hg := recallGranule_tensors g s
  generalize recallGranule g s = r at hg
  obtain ⟨t, free⟩ := r
  dsimp only
  split
  · exact (tensors_of_frame (P := missParts) (frame_bump (by decide) (frame_cleanGranule (by decide) (frame_onDeep (by decide) (Frame.refl _ t)))) rfl).trans hg
  · exact hg

theorem handSteps_tensors (cluster set n : Nat) (s : State) : (handSteps cluster set n s).1.obs.tensors = s.obs.tensors := by
  induction n generalizing s with
  | zero => rfl
  | succ n ih =>
    unfold handSteps
    extract_lets w t tag
    split
    · exact (takeWay_tensors ..).trans rfl
    · refine (ih _).trans ?_
      split
      · rfl
      · split
        · exact (tensors_of_frame (P := missParts) (frame_setTag (by decide) (Frame.refl _ t)) rfl).trans rfl
        · exact (tensors_of_frame (P := missParts) (frame_startWriteback (by decide) (frame_queueWriteback (by decide) (Frame.refl _ t))) rfl).trans rfl

theorem chooseFrame_tensors (cluster set : Nat) (s : State) : (chooseFrame cluster set s).1.obs.tensors = s.obs.tensors := by
  unfold chooseFrame
  split
  · rfl
  · split
    · exact takeWay_tensors ..
    · exact (handSteps_tensors ..).trans rfl
  · exact handSteps_tensors ..

theorem missGranule_tensors (g first tier : Nat) (pin : Bool) (s : State) : (missGranule g first tier pin s).obs.tensors = s.obs.tensors := by
  unfold missGranule
  extract_lets cluster set t
  split
  · exact tensors_of_frame (P := missParts) (frame_fetchTag (by decide) (Frame.refl _ s)) rfl
  split
  · rfl
  · have ht := chooseFrame_tensors cluster set t
    generalize chooseFrame cluster set t = r at ht
    obtain ⟨u, w⟩ := r
    cases w with
    | none => exact ht.trans rfl
    | some w => exact (tensors_of_frame (P := missParts) (frame_startFill (by decide) (Frame.refl _ u)) rfl).trans (ht.trans rfl)

theorem xlate_tensors (die ctx addr : Nat) (need : List Nat) (write : Bool) (s : State) : (xlate die ctx addr need write s).1.obs.tensors = s.obs.tensors := by
  have ht : (translate die ctx addr need write s).1.obs.tensors = s.obs.tensors :=
    tensors_of_frame (P := missParts) (frame_translate (by decide) (Frame.refl _ s)) rfl
  unfold xlate
  generalize translate die ctx addr need write s = r at ht
  obtain ⟨t, res⟩ := r
  split
  next u f g heq =>
    obtain ⟨rfl, -⟩ := Prod.mk.inj heq
    dsimp only
    split
    · exact ht
    · exact (missGranule_tensors ..).trans ht
  · exact ht

/-- A fold over what each element makes of a state and more keeps what each step keeps of the state. -/
theorem foldl_fst_keeps {α β γ : Type} {f : State × β → α → State × β} {g : State → γ} (h : ∀ acc a, g (f acc a).1 = g acc.1) (l : List α) (acc : State × β) :
    g (l.foldl f acc).1 = g acc.1 := by
  induction l generalizing acc with
  | nil => rfl
  | cons a l ih => exact (ih _).trans (h acc a)

theorem checkSpans_tensors (die ctx code : Nat) (place : Nat → Nat) (l : List Span) (c : Checked) (s : State) :
    (checkSpans die ctx code place l c s).1.obs.tensors = s.obs.tensors := by
  unfold checkSpans
  refine foldl_fst_keeps (g := fun s => s.obs.tensors) (fun acc x => ?_) _ (s, c)
  refine foldl_fst_keeps (g := fun s => s.obs.tensors) (fun acc a => ?_) _ acc
  obtain ⟨t, d⟩ := acc
  have hx := xlate_tensors die ctx a (x.1.rights code).1 (x.1.rights code).2 t
  dsimp only
  generalize xlate die ctx a (x.1.rights code).1 (x.1.rights code).2 t = r at hx
  obtain ⟨u, res⟩ := r
  cases res <;> exact hx

theorem tensorCheck_tensors (ctx addr length : Nat) (s : State) : (tensorCheck ctx addr length s).1.obs.tensors = s.obs.tensors :=
  checkSpans_tensors 0 ctx 12 id [rdSpan addr length] (Checked.start []) s

end Sys2Proof.Machine
end

section
/-!
PROOF. Crumb rings, registered tensors and their dumps (R627 to R637).
-/
namespace Sys2Proof.Machine

section
variable {s : State} {r : Req}

/-! ### Rings (R627 to R630) -/

theorem ringBytes_of_obs {s t : State} (h : t.obs = s.obs) (kind unit : Nat) : t.ringBytes kind unit = s.ringBytes kind unit := by
  rw [State.ringBytes, State.ringBytes, h]

/-- Reading a ring. -/
def crumbReadObj : OpObj := cmdObj 0x2120 3 (roleOp + roleDebug)

theorem exec_crumbRead (kind unit : Nat) : exec (.crumbRead r kind unit none) s
    = .next (operate crumbReadObj r (leBytes 1 kind ++ leBytes 2 unit) 1 { Verdict.ok with bad := !crumbUnit kind unit || false }
      (fun s => reply crumbReadObj r .ok (s.ringBytes kind unit) s) s) := by
  have h : exec (.crumbRead r kind unit none) s
      = .next (operate crumbReadObj r (leBytes 1 kind ++ leBytes 2 unit ++ []) 1 { Verdict.ok with bad := !crumbUnit kind unit || false }
        (fun s => reply crumbReadObj r .ok (s.ringBytes kind unit) s) s) := rfl
  rwa [List.append_nil] at h

theorem crumbRead_replies {kind unit : Nat} (hunit : crumbUnit kind unit = true) :
    Replies (.crumbRead r kind unit none) s (cmdObj 0x2120 3 (roleOp + roleDebug)) r 1 (leBytes 1 kind ++ leBytes 2 unit) .ok (s.ringBytes kind unit)
      (fun t => t.obs.rings = s.obs.rings) := by
  refine replies_handled (fun b => b) (exec_crumbRead kind unit) (by rw [hunit]; rfl) rfl rfl rfl (fun b hb => ?_) (fun _ _ => rfl) fun b t hb ht => ?_
  · rw [ringBytes_of_obs hb.obs]
    rfl
  · rw [ht.obs, hb.obs]

theorem crumbRead_unsupported {kind unit : Nat} (hunit : crumbUnit kind unit = false) :
    Replies (.crumbRead r kind unit none) s (cmdObj 0x2120 3 (roleOp + roleDebug)) r 1 (leBytes 1 kind ++ leBytes 2 unit) .unsupported []
      (fun t => t.obs.rings = s.obs.rings) :=
  refused_bad (exec_crumbRead kind unit) (by rw [hunit]; rfl) rfl fun t ht => by rw [ht.obs]

/-- A loop that numbers one packet at each step. -/
theorem exportSeq_forAll {f : Nat → State → State} (h : ∀ i s, (f i s).obs.exportSeq = (s.obs.exportSeq + 1) % 65536) (l : List Nat) (s : State) :
    (forAll l f s).obs.exportSeq % 65536 = (s.obs.exportSeq + l.length) % 65536 := by
  induction l generalizing s with
  | nil => rfl
  | cons i l ih =>
    refine (ih (f i s)).trans ?_
    rw [h, List.length_cons]
    omega

theorem exportSeq_forAll_small {f : Nat → State → State} (h : ∀ i s, (f i s).obs.exportSeq = (s.obs.exportSeq + 1) % 65536) {l : List Nat} (hl : l ≠ [])
    (s : State) : (forAll l f s).obs.exportSeq = (s.obs.exportSeq + l.length) % 65536 := by
  have hsmall : (forAll l f s).obs.exportSeq < 65536 := by
    obtain ⟨pre, i, rfl⟩ := List.eq_nil_or_concat l |>.resolve_left hl
    rw [List.concat_eq_append, forAll, List.foldl_append, List.foldl_cons, List.foldl_nil, h]
    exact Nat.mod_lt _ (by decide)
  rw [← exportSeq_forAll h l s, Nat.mod_eq_of_lt hsmall]

theorem sendExport_frame (sink kind : Nat) (bytes : List Byte) (s : State) : Frame [.ledger, .leaves, .obs] s (sendExport sink kind bytes s) :=
  frame_sendExport (by decide) (Frame.refl _ s)

/-- One packet of a stream that is sent out: its number of the sink's stream is taken. -/
def exportPacket (sink kind : Nat) (bytes : List Byte) (i : Nat) (s : State) : State :=
  sendDebug sink 0xFFFF kind s.obs.exportSeq 0 (3 * i * 128) 0
    ((List.range (min 3 ((bytes.length + 127) / 128 - 3 * i))).map (fun j => (bytes.drop ((3 * i + j) * 128)).take 128))
    (s.onObs (fun o => { o with exportSeq := (o.exportSeq + 1) % 65536 }))

theorem sendExport_packets (sink kind : Nat) (bytes : List Byte) (s : State) :
    sendExport sink kind bytes s = forAll (List.range (((bytes.length + 127) / 128 + 2) / 3)) (exportPacket sink kind bytes) s := rfl

theorem exportSeq_exportPacket (sink kind : Nat) (bytes : List Byte) (i : Nat) (s : State) :
    (exportPacket sink kind bytes i s).obs.exportSeq = (s.obs.exportSeq + 1) % 65536 := by
  unfold exportPacket
  rw [Frame.obs_eq (P := [.ledger, .leaves]) (frame_sendDebug (by decide) (Frame.refl _ _)) rfl rfl rfl, State.onObs_obs]

theorem ringBytes_length (s : State) (kind unit : Nat) : (s.ringBytes kind unit).length = 8192 := padTo_length ..

/-- A ring's 8,192 bytes go as 22 packets of up to three lines (R631). -/
theorem exportSeq_sendExport (sink kind : Nat) {bytes : List Byte} (hlen : bytes.length = 8192) (s : State) :
    (sendExport sink kind bytes s).obs.exportSeq = (s.obs.exportSeq + 22) % 65536 := by
  rw [sendExport_packets, hlen, exportSeq_forAll_small (exportSeq_exportPacket sink kind bytes) (by decide) s, List.length_range]

theorem exec_crumbRead_sink (kind unit sink : Nat) : exec (.crumbRead r kind unit (some sink)) s
    = .next (operate crumbReadObj r (leBytes 1 kind ++ leBytes 2 unit ++ leBytes 4 sink) 1 { Verdict.ok with bad := !crumbUnit kind unit || !s.isSink sink }
      (fun s => reply crumbReadObj r .ok [] (sendExport sink 3 (s.ringBytes kind unit) s)) s) := rfl

theorem crumbRead_exports {kind unit sink : Nat} (hunit : crumbUnit kind unit = true) (hsink : s.isSink sink = true) :
    Replies (.crumbRead r kind unit (some sink)) s (cmdObj 0x2120 3 (roleOp + roleDebug)) r 1 (leBytes 1 kind ++ leBytes 2 unit ++ leBytes 4 sink) .ok []
      (fun t => t.obs.exportSeq = (s.obs.exportSeq + 22) % 65536 ∧ t.obs.rings = s.obs.rings) := by
  refine replies_handled (fun b => sendExport sink 3 (b.ringBytes kind unit) b) (exec_crumbRead_sink kind unit sink) (by rw [hunit, hsink]; rfl) rfl rfl rfl
    (fun _ _ => rfl) (fun b _ => (sendExport_frame ..).running_eq rfl) fun b t hb ht => ?_
  rw [ht.obs]
  refine ⟨?_, ?_⟩
  · rw [exportSeq_sendExport sink 3 (ringBytes_length ..), hb.obs]
  · rw [((sendExport_frame ..).rings_eq rfl).1, hb.obs]

/-- Rings unfrozen. -/
def releasedRings (kind unit : Nat) (s : State) : State :=
  s.onObs (fun o => { o with rings := o.rings.map (fun e => if kind = 0 ∨ e.1 = (kind, unit) then (e.1, Ring.release e.2) else e) })

theorem exec_crumbRelease (kind unit : Nat) : exec (.crumbRelease r kind unit) s
    = .next (operateOk (cmdObj 0x2120 4 (roleOp + roleDebug)) r (leBytes 1 kind ++ leBytes 2 unit) 1
      { Verdict.ok with bad := kind != 0 && !crumbUnit kind unit } (releasedRings kind unit) s) := rfl

theorem releasedRings_frozen {kind unit : Nat} {s : State} {e : (Nat × Nat) × Ring} (he : e ∈ (releasedRings kind unit s).obs.rings)
    (hmine : kind = 0 ∨ e.1 = (kind, unit)) : e.2.frozen = none := by
  obtain ⟨x, -, rfl⟩ := List.mem_map.1 (he : e ∈ s.obs.rings.map _)
  by_cases hx : kind = 0 ∨ x.1 = (kind, unit)
  · rw [if_pos hx]
    rfl
  · rw [if_neg hx] at hmine
    exact absurd hmine hx

theorem crumbRelease_replies {kind unit : Nat} (hunit : kind = 0 ∨ crumbUnit kind unit = true) :
    Replies (.crumbRelease r kind unit) s (cmdObj 0x2120 4 (roleOp + roleDebug)) r 1 (leBytes 1 kind ++ leBytes 2 unit) .ok [] (fun t =>
      ∀ e ∈ t.obs.rings, kind = 0 ∨ e.1 = (kind, unit) → e.2.frozen = none) := by
  refine replies_effect (exec_crumbRelease kind unit) ?_ rfl rfl rfl (fun _ _ => rfl) fun b t hb ht e he hmine => ?_
  · show (kind != 0 && !crumbUnit kind unit) = false
    obtain rfl | h := hunit
    · rfl
    · rw [h, Bool.not_true, Bool.and_false]
  · rw [ht.obs] at he
    exact releasedRings_frozen he hmine

theorem Replies.mono {c : Instr} {s : State} {o : OpObj} {r : Req} {n : Nat} {arg : List Byte} {st : Status} {body : List Byte} {p q : State → Prop}
    (h : Replies c s o r n arg st body p) (hpq : ∀ t, p t → q t) : Replies c s o r n arg st body q := fun hacc => by
  obtain ⟨t, ht, hans, hp⟩ := h hacc
  exact ⟨t, ht, hans, hpq t hp⟩

theorem crumbRingUnfreeze_does (kind unit : Nat) (s : State) : Does (.crumbRingUnfreeze kind unit) s (fun t =>
    (∀ e ∈ t.obs.rings, e.1 = (kind, unit) → e.2.frozen = none)
    ∧ t.obs.rings.map (fun e => (e.1, e.2.crumbs, e.2.missed)) = s.obs.rings.map (fun e => (e.1, e.2.crumbs, e.2.missed))
    ∧ (∀ e ∈ s.obs.rings, e.1 ≠ (kind, unit) → e ∈ t.obs.rings) ∧ Frame [.rings] s t) := by
  refine ⟨_, rfl, fun e he hmine => ?_, ?_, fun e he hother => ?_, ?_⟩
  · obtain ⟨x, -, rfl⟩ := List.mem_map.1 (he : e ∈ s.obs.rings.map _)
    by_cases hx : x.1 = (kind, unit)
    · rw [if_pos hx]
      rfl
    · rw [if_neg hx] at hmine
      exact absurd hmine hx
  · show (s.obs.rings.map _).map _ = _
    rw [List.map_map]
    refine List.map_congr_left fun e _ => ?_
    dsimp only [Function.comp_apply]
    split <;> rfl
  · exact List.mem_map.2 ⟨e, he, if_neg hother⟩
  · exact frame_onObs [.rings] (by decide) (.inr fun _ => rfl) (.inl (by decide)) (.inr fun _ => rfl) (Frame.refl _ s)

/-! ### Dumps that end (R637, R646) -/

/-- A dump that has ended with a status. -/
def Dump.endedWith (st : Status) (d : Dump) : Dump := { d with st := .ended, status := some st }

theorem dumps_endDump (d : Dump) (st : Status) (gone : Bool) (s : State) :
    (endDump d st gone s).obs.dumps = s.obs.dumps.map (fun x => if x.number = d.number then x.endedWith st else x) := by
  unfold endDump
  extract_lets t u
  have hu : Frame [.ledger, .leaves] t u := frame_onlyIf (fun v hv => frame_sendDebug (by decide) hv) (Frame.refl _ t)
  exact (congrArg ObserveState.dumps ((notify_frame ..).obs_rest rfl) :).trans ((congrArg ObserveState.dumps (hu.obs_rest rfl) :).trans rfl)

/-- Dumps that end one after the other are ended in the end, where whether a dump is meant does not depend on how it stands. -/
theorem ended_forAll_endDump {c : Dump → Bool} (hc : ∀ st d, c (d.endedWith st) = c d) (gone : Bool) (l : List Dump) (s : State)
    (h : ∀ x ∈ s.obs.dumps, c x = true → x.st = .ended ∨ ∃ d ∈ l, d.number = x.number) :
    ∀ x ∈ (forAll l (fun d s => endDump d .aborted gone s) s).obs.dumps, c x = true → x.st = .ended := by
  induction l generalizing s with
  | nil => exact fun x hx hcx => (h x hx hcx).resolve_right fun ⟨d, hd, _⟩ => List.not_mem_nil hd
  | cons d l ih =>
    refine ih (endDump d .aborted gone s) fun x hx hcx => ?_
    rw [dumps_endDump] at hx
    obtain ⟨y, hy, rfl⟩ := List.mem_map.1 hx
    by_cases hmine : y.number = d.number
    · rw [if_pos hmine]
      exact .inl rfl
    · rw [if_neg hmine] at hcx ⊢
      obtain h | ⟨d', hd', hnum⟩ := h y hy hcx
      · exact .inl h
      · obtain rfl | hl := List.mem_cons.1 hd'
        · exact absurd hnum.symm hmine
        · exact .inr ⟨d', hl, hnum⟩

theorem ended_abortDumps {c : Dump → Bool} (hc : ∀ st d, c (d.endedWith st) = c d) (gone : Bool) (s : State) :
    ∀ x ∈ (abortDumps c gone s).obs.dumps, c x = true → x.st = .ended := by
  refine ended_forAll_endDump hc gone _ s fun x hx hcx => ?_
  by_cases h : x.st = .ended
  · exact .inl h
  · exact .inr ⟨x, List.mem_filter.2 ⟨hx, by rw [hcx, Bool.and_true]; exact bne_iff_ne.2 h⟩, rfl⟩

theorem tensors_abortDumps (c : Dump → Bool) (gone : Bool) (s : State) : (abortDumps c gone s).obs.tensors = s.obs.tensors :=
  forAll_keeps (g := fun s => s.obs.tensors) (fun d s => endDump_tensors d .aborted gone s) _ s

theorem abortDumps_frame (c : Dump → Bool) (gone : Bool) (s : State) :
    Frame [.ledger, .leaves, .sessions, .obs, .rings, .kodp, .ctrs, .out] s (abortDumps c gone s) := frame_abortDumps (by decide) (Frame.refl _ s)

theorem dumpCancel_replies {n : Nat} (hn : n < 65535) (hruns : s.obs.dumps.any (fun d => d.number == n && d.st != .ended) = true) :
    Replies (.dumpCancel r n) s (cmdObj 0x2120 7 (rolePm + roleDebug)) r 2 (leBytes 2 n) .ok [] (fun t =>
      (∀ d ∈ t.obs.dumps, d.number = n → d.st = .ended) ∧ t.obs.tensors = s.obs.tensors ∧ t.mem = s.mem) := by
  refine replies_effect (eff := abortDumps (fun d => d.number == n) false) rfl (decide_eq_false (by omega)) rfl (by rw [hruns]; rfl) rfl
    (fun b _ => (abortDumps_frame ..).running_eq rfl) fun b t hb ht => ⟨fun d hd hmine => ?_, ?_, ?_⟩
  · rw [ht.obs] at hd
    exact ended_abortDumps (c := fun d => d.number == n) (fun _ _ => rfl) false b d hd (beq_iff_eq.2 hmine)
  · rw [ht.obs, tensors_abortDumps, hb.obs]
  · rw [ht.frame.mem_eq rfl, (abortDumps_frame ..).mem_eq rfl, hb.frame.mem_eq rfl]

theorem dumpCancel_refused {n : Nat} (hn : n < 65535) (hnone : s.obs.dumps.any (fun d => d.number == n && d.st != .ended) = false) :
    Replies (.dumpCancel r n) s (cmdObj 0x2120 7 (rolePm + roleDebug)) r 2 (leBytes 2 n) .refusedState [] (fun t => t.obs.dumps = s.obs.dumps) := by
  refine refused_state (v := { Verdict.ok with bad := decide (n ≥ 65535), state := !s.obs.dumps.any (fun d => d.number == n && d.st != .ended) }) rfl
    (decide_eq_false (by omega)) rfl (by rw [hnone]; rfl) fun t ht => by rw [ht.obs]

/-! ### Tensors (R633) -/

/-- What the object asks of a registration. -/
def registerVerdict (name : List Byte) (ctx addr length format : Nat) (s : State) : Verdict :=
  let st := if length = 0 then none else (tensorCheck ctx addr length s).2.1
  { bad := decide (name.length > 32) || ((padTo 32 name).headD 0 == 0) || decide (ctx ≥ 65536) || !tensorLengthOk addr length || decide (format ≥ 256)
      || st == some .unsupported
    fenced := s.standby, state := s.obs.tensors.any (fun t => t.name == padTo 32 name) != decide (length = 0)
    other := if length = 0 then none
      else match st with
        | some x => some x
        | none => if s.obs.tensors.length ≥ 64 then some .noSpace else none }

/-- A name removed, and its dumps with it. -/
def unregistered (key : List Byte) (s : State) : State :=
  abortDumps (fun d => d.tensor.name == key) false (s.onObs (fun o => { o with tensors := o.tensors.filter (fun t => t.name != key) }))

/-- A span under its name, with the extents its check finds. -/
def registered (key : List Byte) (ctx addr length format : Nat) (s : State) : State :=
  (tensorCheck ctx addr length s).1.onObs (fun o => { o with tensors := o.tensors ++
    [{ name := key, ctx := ctx, addr := addr, length := length, format := format, extents := (tensorCheck ctx addr length s).2.2 }] })

/-- The argument of a registration. -/
def registerArg (name : List Byte) (ctx addr length format : Nat) : List Byte :=
  padTo 32 name ++ leBytes 2 ctx ++ leBytes 8 addr ++ leBytes 8 length ++ leBytes 1 format

theorem exec_tensorRegister (name : List Byte) (ctx addr length format : Nat) : exec (.tensorRegister r name ctx addr length format) s
    = .next (operateOk (cmdObj 0x2120 5 (rolePm + roleDebug)) r (registerArg name ctx addr length format) 32 (registerVerdict name ctx addr length format s)
      (fun s => if length = 0 then unregistered (padTo 32 name) s else registered (padTo 32 name) ctx addr length format s) s) := rfl

section
variable {name : List Byte} {ctx addr length format : Nat} (hname : name.length ≤ 32) (hhead : name.headD 0 ≠ 0) (hctx : ctx < 65536)
  (hlen : tensorLengthOk addr length = true) (hformat : format < 256)

include hname hhead hctx hlen hformat in
theorem registerVerdict_good (hcheck : length = 0 ∨ (tensorCheck ctx addr length s).2.1 = none) : (registerVerdict name ctx addr length format s).bad = false := by
  have hkey : ((padTo 32 name).headD 0 == 0) = false := by
    cases name with
    | nil => exact absurd rfl hhead
    | cons x l => exact beq_eq_false_iff_ne.2 hhead
  have hst : (if length = 0 then none else (tensorCheck ctx addr length s).2.1) = none := by
    obtain h | h := hcheck
    · exact if_pos h
    · rw [h]
      exact ite_self _
  simp only [registerVerdict, hst, hkey, hlen, decide_eq_false (by omega : ¬ name.length > 32), decide_eq_false (by omega : ¬ ctx ≥ 65536),
    decide_eq_false (by omega : ¬ format ≥ 256)]
  rfl

theorem registerVerdict_state : (registerVerdict name ctx addr length format s).state
    = (s.obs.tensors.any (fun t => t.name == padTo 32 name) != decide (length = 0)) := rfl

theorem registerVerdict_other (hlength : length ≠ 0) (hcheck : (tensorCheck ctx addr length s).2.1 = none) :
    (registerVerdict name ctx addr length format s).other = if s.obs.tensors.length ≥ 64 then some .noSpace else none := by
  simp only [registerVerdict, if_neg hlength, hcheck]

theorem unregistered_frame (key : List Byte) (s : State) :
    Frame [.ledger, .leaves, .sessions, .obs, .rings, .kodp, .ctrs, .out] s (unregistered key s) :=
  frame_abortDumps (by decide) (frame_onObs [.obs] (by decide) (.inr fun _ => rfl) (.inr fun _ => rfl) (.inl (by decide)) (Frame.refl _ s))

include hname hhead hctx hlen hformat in
theorem tensorRegister_removes (hlength : length = 0) (hfound : s.obs.tensors.any (fun x => x.name == padTo 32 name) = true) (hnot : s.standby = false) :
    Replies (.tensorRegister r name ctx addr length format) s (cmdObj 0x2120 5 (rolePm + roleDebug)) r 32 (registerArg name ctx addr length format) .ok []
      (fun t => t.obs.tensors = s.obs.tensors.filter (fun x => x.name != padTo 32 name)
        ∧ (∀ d ∈ t.obs.dumps, d.tensor.name = padTo 32 name → d.st = .ended) ∧ t.mem = s.mem) := by
  refine replies_effect (exec_tensorRegister name ctx addr length format) (registerVerdict_good hname hhead hctx hlen hformat (.inl hlength)) hnot ?_ ?_
    (fun b _ => ?_) fun b t hb ht => ?_
  · rw [registerVerdict_state, hfound, decide_eq_true hlength]
    rfl
  · exact if_pos hlength
  · rw [if_pos hlength]
    exact (unregistered_frame ..).running_eq rfl
  rw [if_pos hlength] at ht
  refine ⟨?_, fun d hd hmine => ?_, ?_⟩
  · rw [ht.obs, unregistered, tensors_abortDumps, ← hb.obs]
    rfl
  · rw [ht.obs] at hd
    exact ended_abortDumps (c := fun d => d.tensor.name == padTo 32 name) (fun _ _ => rfl) false _ d hd (beq_iff_eq.2 hmine)
  · rw [ht.frame.mem_eq rfl, (unregistered_frame ..).mem_eq rfl, hb.frame.mem_eq rfl]

include hname hhead hctx hlen hformat in
theorem tensorRegister_refused (hcheck : length = 0 ∨ (tensorCheck ctx addr length s).2.1 = none)
    (hwrong : s.obs.tensors.any (fun x => x.name == padTo 32 name) ≠ decide (length = 0)) (hnot : s.standby = false) :
    Replies (.tensorRegister r name ctx addr length format) s (cmdObj 0x2120 5 (rolePm + roleDebug)) r 32 (registerArg name ctx addr length format)
      .refusedState [] (fun t => t.obs.tensors = s.obs.tensors) :=
  refused_state (exec_tensorRegister name ctx addr length format) (registerVerdict_good hname hhead hctx hlen hformat hcheck) hnot
    (by rw [registerVerdict_state]; exact bne_iff_ne.2 hwrong) fun t ht => by rw [ht.obs]

theorem tensors_registered (key : List Byte) (ctx addr length format : Nat) (s : State) : (registered key ctx addr length format s).obs.tensors = s.obs.tensors ++
    [{ name := key, ctx := ctx, addr := addr, length := length, format := format, extents := (tensorCheck ctx addr length s).2.2 }] := by
  rw [← tensorCheck_tensors ctx addr length s]
  rfl

theorem registered_frame (key : List Byte) (ctx addr length format : Nat) (s : State) :
    Frame [.pkg, .txn, .ledger, .part, .dir, .mem, .dram, .deep, .integ, .mirror, .leaves, .power, .sessions, .obs, .rings, .kodp, .ctrs, .out, .free] s
      (registered key ctx addr length format s) :=
  frame_onObs [.obs] (by decide) (.inr fun _ => rfl) (.inr fun _ => rfl) (.inl (by decide)) (frame_tensorCheck (by decide) (Frame.refl _ s))

include hname hhead hctx hlen hformat in
theorem tensorRegister_enters (hlength : length ≠ 0) (hfound : s.obs.tensors.any (fun x => x.name == padTo 32 name) = false)
    (hcheck : (tensorCheck ctx addr length s).2.1 = none) (hroom : s.obs.tensors.length < 64) (hnot : s.standby = false) :
    Replies (.tensorRegister r name ctx addr length format) s (cmdObj 0x2120 5 (rolePm + roleDebug)) r 32 (registerArg name ctx addr length format) .ok []
      (fun t => ∃ x, t.obs.tensors = s.obs.tensors ++ [x] ∧ x.name = padTo 32 name ∧ x.ctx = ctx ∧ x.addr = addr ∧ x.length = length ∧ x.format = format
        ∧ x.extents = (tensorCheck ctx addr length (begun (cmdObj 0x2120 5 (rolePm + roleDebug)) r (registerArg name ctx addr length format) 32 s)).2.2) := by
  intro hacc
  have hb := begun_handled (cmdObj 0x2120 5 (rolePm + roleDebug)) r (registerArg name ctx addr length format) 32 s
  have hmine := find_running_begun hacc
  have hstate : (registerVerdict name ctx addr length format s).state = false := by
    rw [registerVerdict_state, hfound, decide_eq_false hlength]
    rfl
  have hother : (registerVerdict name ctx addr length format s).other = none := by
    rw [registerVerdict_other hlength hcheck, if_neg (by omega)]
  have hkept := (registered_frame (padTo 32 name) ctx addr length format
    (begun (cmdObj 0x2120 5 (rolePm + roleDebug)) r (registerArg name ctx addr length format) 32 s)).running_eq rfl
  refine replies_of_operate (exec_tensorRegister name ctx addr length format) (registerVerdict_good hname hhead hctx hlen hformat (.inr hcheck)) hnot hstate
    hother (congrArg (reply (cmdObj 0x2120 5 (rolePm + roleDebug)) r .ok []) (if_neg hlength)) hkept ?_ hacc
  have ht := reply_handled (o := cmdObj 0x2120 5 (rolePm + roleDebug)) (r := r) (st := .ok) (body := [])
    (x := runningOf (cmdObj 0x2120 5 (rolePm + roleDebug)) r (registerArg name ctx addr length format) 32) rfl (by rw [hkept]; exact hmine)
  refine ⟨{ name := padTo 32 name, ctx := ctx, addr := addr, length := length, format := format, extents := _ }, ?_, rfl, rfl, rfl, rfl, rfl, rfl⟩
  rw [ht.obs, tensors_registered, hb.obs]

include hname hhead hctx hlen hformat in
theorem tensorRegister_full (hlength : length ≠ 0) (hfound : s.obs.tensors.any (fun x => x.name == padTo 32 name) = false)
    (hcheck : (tensorCheck ctx addr length s).2.1 = none) (hfull : 64 ≤ s.obs.tensors.length) (hnot : s.standby = false) :
    Replies (.tensorRegister r name ctx addr length format) s (cmdObj 0x2120 5 (rolePm + roleDebug)) r 32 (registerArg name ctx addr length format) .noSpace []
      (fun t => t.obs.tensors = s.obs.tensors) :=
  refused_other (exec_tensorRegister name ctx addr length format) (registerVerdict_good hname hhead hctx hlen hformat (.inr hcheck)) hnot
    (by rw [registerVerdict_state, hfound, decide_eq_false hlength]; rfl) (by rw [registerVerdict_other hlength hcheck, if_pos hfull]) (by decide) rfl
    fun t ht => by rw [ht.obs]

end

/-! ### Dumps are armed (R634) -/

/-- Arming a dump. -/
def dumpArmObj : OpObj := cmdObj 0x2120 6 (rolePm + roleDebug)

/-- The argument of DUMP_ARM. -/
def dumpArmArg (name : List Byte) (sink mark step bufPa bufLen : Nat) : List Byte :=
  padTo 32 name ++ leBytes 4 sink ++ leBytes 8 mark ++ leBytes 8 step ++ leBytes 8 bufPa ++ leBytes 8 bufLen

section
variable {name : List Byte} {sink mark step bufPa bufLen : Nat}

theorem exec_dumpArm_unknown (h : s.obs.tensors.find? (fun x => x.name == padTo 32 name) = none) : exec (.dumpArm r name sink mark step bufPa bufLen) s
    = .next (operate dumpArmObj r (dumpArmArg name sink mark step bufPa bufLen) 32 { bad := true, fenced := s.standby, state := false, other := none } id s) := by
  rw [exec, execDumpArm]
  dsimp only
  rw [h]
  rfl

theorem dumpArm_unsupported (h : s.obs.tensors.find? (fun x => x.name == padTo 32 name) = none) :
    Replies (.dumpArm r name sink mark step bufPa bufLen) s (cmdObj 0x2120 6 (rolePm + roleDebug)) r 32 (dumpArmArg name sink mark step bufPa bufLen)
      .unsupported [] (fun t => t.obs.dumps = s.obs.dumps) :=
  refused_bad (exec_dumpArm_unknown h) rfl rfl fun t ht => by rw [ht.obs]

/-- What the object asks of a dump of a tensor whose step mark lies at a place. -/
def armVerdict (x : Tensor) (pa tenant keyId : Nat) (name : List Byte) (sink step bufPa bufLen : Nat) (s : State) : Verdict :=
  let here := (s.storeOf (pa / 128)).isSome
  { bad := decide (name.length > 32) || !s.isSink sink || bufPa % 128 != 0 || bufLen % 128 != 0 || decide (bufPa + bufLen > dramTop)
      || decide (bufLen < mapLines x.lines * 128) || decide (step ≥ 2 ^ 64)
    fenced := s.standby
    state := here && decide (leNat (((s.dataOf (pa / 128) tenant keyId).drop (pa % 128)).take 8) ≥ step)
    other := if s.isSealed tenant || (match s.segmentNow x.ctx x.addr with | some y => s.isSealed y.2.1 | none => false) then some .rightsFault
      else if here && decide ((s.obs.dumps.filter (fun d => d.st != .ended)).length ≥ 4) then some .noSpace else none }

/-- What an accepted arm does. -/
def armRun (r : Req) (x : Tensor) (here : Bool) (pa sink step bufPa bufLen : Nat) (s : State) : State :=
  if here then armDump dumpArmObj r x sink pa step bufPa bufLen s
  else reply dumpArmObj r .retry [] (missGranule (granuleOf pa) (pa % 65536 / 128) 1 false s)

theorem exec_dumpArm {x : Tensor} {pa tenant keyId : Nat} (hx : s.obs.tensors.find? (fun x => x.name == padTo 32 name) = some x)
    (hplace : markPlace x mark s = some (pa, tenant, keyId)) : exec (.dumpArm r name sink mark step bufPa bufLen) s
    = .next (operate dumpArmObj r (dumpArmArg name sink mark step bufPa bufLen) 32 (armVerdict x pa tenant keyId name sink step bufPa bufLen s)
      (armRun r x (s.storeOf (pa / 128)).isSome pa sink step bufPa bufLen) s) := by
  rw [exec, execDumpArm]
  dsimp only
  rw [hx]
  dsimp only
  rw [hplace]
  rfl

/-- The dump an arm makes. -/
def armedDump (x : Tensor) (sink pa step bufPa bufLen : Nat) (s : State) : Dump :=
  { number := s.dumpNumber, tensor := x, sink := sink, markPa := pa, step := step, bufPa := bufPa, bufLen := bufLen, st := .armed, cutAt := 0
    sent := 0, copies := [], settling := [], seq := 0, poisoned := false, status := none }

/-- The map of a dump's buffer zeroed, and the dump listed. -/
def armed (x : Tensor) (sink pa step bufPa bufLen : Nat) (s : State) : State :=
  (forAll (List.range (mapLines x.lines)) (fun i s => writeOwn (bufPa + i * 128) (List.replicate 128 0) s) s).onObs (fun o =>
    { o with dumps := o.dumps ++ [armedDump x sink pa step bufPa bufLen s], nextDump := (s.dumpNumber + 1) % 65535 })

theorem armDump_eq (x : Tensor) (sink pa step bufPa bufLen : Nat) (s : State) : armDump dumpArmObj r x sink pa step bufPa bufLen s
    = reply dumpArmObj r .ok (leBytes 2 s.dumpNumber) (armed x sink pa step bufPa bufLen s) := rfl

theorem armed_frame (x : Tensor) (sink pa step bufPa bufLen : Nat) (s : State) :
    Frame [.pkg, .ledger, .mem, .dram, .deep, .mirror, .leaves, .power, .sessions, .obs, .rings, .kodp, .ctrs, .out, .free] s
      (armed x sink pa step bufPa bufLen s) :=
  frame_onObs [.obs] (by decide) (.inr fun _ => rfl) (.inr fun _ => rfl) (.inl (by decide))
    (frame_forAll (fun i t ht => frame_writeOwn (by decide) ht) (Frame.refl _ s))

theorem dumps_armed (x : Tensor) (sink pa step bufPa bufLen : Nat) (s : State) :
    armedDump x sink pa step bufPa bufLen s ∈ (armed x sink pa step bufPa bufLen s).obs.dumps := by
  unfold armed
  exact List.mem_append_right _ (List.mem_singleton_self _)

theorem dumpNumber_of_obs {s t : State} (h : t.obs = s.obs) : t.dumpNumber = s.dumpNumber := by
  rw [State.dumpNumber, State.dumpNumber, h]

section
variable {x : Tensor} {pa tenant keyId : Nat} (hx : s.obs.tensors.find? (fun x => x.name == padTo 32 name) = some x)
  (hplace : markPlace x mark s = some (pa, tenant, keyId)) (hname : name.length ≤ 32) (hsink : s.isSink sink = true) (hpa : bufPa % 128 = 0)
  (hlen : bufLen % 128 = 0) (htop : bufPa + bufLen ≤ dramTop) (hmap : mapLines x.lines * 128 ≤ bufLen) (hstep : step < 2 ^ 64)
  (hhere : (s.storeOf (pa / 128)).isSome = true) (hvalue : leNat (((s.dataOf (pa / 128) tenant keyId).drop (pa % 128)).take 8) < step)
  (hnot : s.standby = false) (hopen : s.isSealed tenant = false) (hsegment : ∀ y, s.segmentNow x.ctx x.addr = some y → s.isSealed y.2.1 = false)

include hname hsink hpa hlen htop hmap hstep in
theorem armVerdict_good : (armVerdict x pa tenant keyId name sink step bufPa bufLen s).bad = false := by
  simp only [armVerdict, hsink, hpa, hlen, decide_eq_false (by omega : ¬ name.length > 32), decide_eq_false (by omega : ¬ bufPa + bufLen > dramTop),
    decide_eq_false (by omega : ¬ bufLen < mapLines x.lines * 128), decide_eq_false (by omega : ¬ step ≥ 2 ^ 64)]
  rfl

include hvalue in
theorem armVerdict_state : (armVerdict x pa tenant keyId name sink step bufPa bufLen s).state = false := by
  simp only [armVerdict, decide_eq_false (by omega : ¬ leNat (((s.dataOf (pa / 128) tenant keyId).drop (pa % 128)).take 8) ≥ step), Bool.and_false]

include hhere hopen hsegment in
theorem armVerdict_other : (armVerdict x pa tenant keyId name sink step bufPa bufLen s).other
    = if (s.obs.dumps.filter (fun d => d.st != .ended)).length ≥ 4 then some .noSpace else none := by
  have hseg : (match s.segmentNow x.ctx x.addr with | some y => s.isSealed y.2.1 | none => false) = false := by
    cases hy : s.segmentNow x.ctx x.addr with
    | none => rfl
    | some y => exact hsegment y hy
  unfold armVerdict
  dsimp only
  rw [hhere, hopen, Bool.false_or, Bool.true_and]
  refine (if_neg (by rw [hseg]; decide)).trans ?_
  simp only [decide_eq_true_eq]

include hx hplace hname hsink hpa hlen htop hmap hstep hhere hvalue hnot hopen hsegment

theorem dumpArm_arms (hroom : (s.obs.dumps.filter (fun d => d.st != .ended)).length < 4) :
    Replies (.dumpArm r name sink mark step bufPa bufLen) s (cmdObj 0x2120 6 (rolePm + roleDebug))
      r 32 (dumpArmArg name sink mark step bufPa bufLen) .ok (leBytes 2 s.dumpNumber) (fun t => ∃ d ∈ t.obs.dumps, d.number = s.dumpNumber ∧ d.tensor = x
        ∧ d.sink = sink ∧ d.step = step ∧ d.st = .armed ∧ d.bufPa = bufPa ∧ d.bufLen = bufLen ∧ d.markPa = pa) := by
  refine replies_handled (armed x sink pa step bufPa bufLen) (exec_dumpArm hx hplace) (armVerdict_good hname hsink hpa hlen htop hmap hstep) hnot
    (armVerdict_state hvalue) (by rw [armVerdict_other hhere hopen hsegment, if_neg (by omega)]) (fun b hb => ?_)
    (fun b _ => (armed_frame ..).running_eq rfl) fun b t hb ht => ?_
  · rw [armRun, if_pos hhere, armDump_eq, dumpNumber_of_obs hb.obs]
    rfl
  · refine ⟨armedDump x sink pa step bufPa bufLen b, ?_, dumpNumber_of_obs hb.obs, rfl, rfl, rfl, rfl, rfl, rfl, rfl⟩
    rw [ht.obs]
    exact dumps_armed ..

theorem dumpArm_full (hfull : 4 ≤ (s.obs.dumps.filter (fun d => d.st != .ended)).length) :
    Replies (.dumpArm r name sink mark step bufPa bufLen) s (cmdObj 0x2120 6 (rolePm + roleDebug))
      r 32 (dumpArmArg name sink mark step bufPa bufLen) .noSpace [] (fun t => t.obs.dumps = s.obs.dumps) :=
  refused_other (exec_dumpArm hx hplace) (armVerdict_good hname hsink hpa hlen htop hmap hstep) hnot (armVerdict_state hvalue)
    (by rw [armVerdict_other hhere hopen hsegment, if_pos hfull]) (by decide) rfl fun t ht => by rw [ht.obs]

end

end

/-! ### The cut and the stream (R635, R636) -/

theorem find_dump {d : Dump} {n : Nat} {st : DumpSt} (hdumps : s.obs.dumps = [d]) (hn : d.number = n) (hst : d.st = st) :
    s.obs.dumps.find? (fun d => d.number == n && d.st == st) = some d := by
  rw [hdumps]
  simp [hn, hst]

theorem dumpCut_cuts {n : Nat} {d : Dump} (hf : s.frozen = false) (hdumps : s.obs.dumps = [d]) (hn : d.number = n) (hst : d.st = .triggered)
    (hnone : s.dir.entries = []) : Does (.dumpCut n) s (fun t => t.obs.dumps = [{ d with st := .streaming, settling := [] }] ∧ Frame [.obs] s t) := by
  have hexec : exec (.dumpCut n) s = .next (setDump n (fun d => { d with st := .streaming, settling := [] }) s) := by
    rw [exec, execDumpCut, hf, find_dump hdumps hn hst]
    dsimp only
    rw [hnone]
    rfl
  refine ⟨_, hexec, ?_, frame_setDump (by decide) (Frame.refl _ s)⟩
  show s.obs.dumps.map _ = _
  rw [hdumps, List.map_singleton, if_pos hn]

/-- A dump whose packet has gone. -/
def sentDump (d : Dump) (l : List (Bool × List Byte)) : Dump :=
  { d with sent := d.sent + l.length, seq := d.seq + 1, poisoned := d.poisoned || ((l.zipIdx).map (fun e => if e.1.1 then 2 ^ e.2 else 0)).sum != 0 }

/-- The packet of a dump, before what its end does. -/
def packetSent (d : Dump) (l : List (Bool × List Byte)) (s : State) : State :=
  setDump d.number (fun _ => sentDump d l)
    (sendDebug d.sink d.number 1 d.seq 0 (d.sent * 128) (((l.zipIdx).map (fun e => if e.1.1 then 2 ^ e.2 else 0)).sum) (l.map Prod.snd) s)

theorem dumpPacket_eq (d : Dump) (l : List (Bool × List Byte)) (s : State) : dumpPacket d l s
    = onlyIf (decide ((sentDump d l).sent ≥ d.tensor.lines)) (endDump (sentDump d l) (if (sentDump d l).poisoned then .poisoned else .ok) false)
      (packetSent d l s) := rfl

theorem dumps_packetSent {d : Dump} (l : List (Bool × List Byte)) (hdumps : s.obs.dumps = [d]) : (packetSent d l s).obs.dumps = [sentDump d l] := by
  have hsent : ∀ (stream kind seq status offset mask : Nat) (lines : List (List Byte)),
      (sendDebug d.sink stream kind seq status offset mask lines s).obs.dumps = [d] := fun _ _ _ _ _ _ _ => by
    rw [Frame.obs_eq (P := [.ledger, .leaves]) (frame_sendDebug (by decide) (Frame.refl _ s)) rfl rfl rfl]
    exact hdumps
  unfold packetSent setDump
  rw [State.onObs_obs]
  dsimp only
  rw [hsent, List.map_singleton, if_pos rfl]

theorem dumpSend_sends {d : Dump} {u : State} {x : Bool × List Byte} {l : List (Bool × List Byte)} (hst : d.st = .streaming)
    (hnext : dumpNext d s = (u, x :: l)) (hdumps : u.obs.dumps = [d]) :
    dumpSend d s = dumpPacket d (x :: l) (useReturned (AccBy.dump d.number).src (AccBy.dump d.number).tag u) := by
  have hkept : (useReturned (AccBy.dump d.number).src (AccBy.dump d.number).tag u).obs = u.obs :=
    Frame.obs_eq (P := [.dram]) (frame_useReturned (by decide) (Frame.refl _ u)) rfl rfl rfl
  unfold dumpSend
  rw [hnext]
  dsimp only
  rw [hkept, find_dump hdumps rfl hst]

theorem exec_dumpStreamSend {n : Nat} {d : Dump} (hf : s.frozen = false) (hdumps : s.obs.dumps = [d]) (hn : d.number = n) (hst : d.st = .streaming) :
    exec (.dumpStreamSend n) s = .next (dumpSend d s) := by
  rw [exec, execDumpStreamSend, hf, find_dump hdumps hn hst]
  rfl

theorem dumpPacket_frame (d : Dump) (l : List (Bool × List Byte)) (s : State) :
    Frame [.ledger, .leaves, .sessions, .obs, .rings, .kodp, .ctrs, .out] s (dumpPacket d l s) := frame_dumpPacket (by decide) (Frame.refl _ s)

theorem useReturned_frame (src tag : Nat) (s : State) : Frame [.dram] s (useReturned src tag s) := frame_useReturned (by decide) (Frame.refl _ s)

section
variable {n : Nat} {d : Dump} {u : State} {x : Bool × List Byte} {l : List (Bool × List Byte)} (hf : s.frozen = false) (hdumps : s.obs.dumps = [d])
  (hn : d.number = n) (hst : d.st = .streaming) (hnext : dumpNext d s = (u, x :: l)) (hleft : u.obs.dumps = [d])
include hf hdumps hn hst hnext hleft

theorem dumpStreamSend_sends : ∃ t, exec (.dumpStreamSend n) s = .next t ∧ t = dumpPacket d (x :: l) (useReturned (AccBy.dump d.number).src (AccBy.dump d.number).tag u)
    ∧ t.mem = u.mem ∧ t.dir = u.dir :=
  ⟨_, (exec_dumpStreamSend hf hdumps hn hst).trans (congrArg Host.Outcome.next (dumpSend_sends hst hnext hleft)), rfl,
    ((dumpPacket_frame ..).mem_eq rfl).trans ((useReturned_frame ..).mem_eq rfl),
    ((dumpPacket_frame ..).dir_eq rfl).trans ((useReturned_frame ..).dir_eq rfl)⟩

theorem dumps_before_packet : (useReturned (AccBy.dump d.number).src (AccBy.dump d.number).tag u).obs.dumps = [d] := by
  rw [(useReturned_frame ..).obs_eq rfl rfl rfl, hleft]

theorem dumpStreamSend_more (hmore : d.sent + (l.length + 1) < d.tensor.lines) : Does (.dumpStreamSend n) s (fun t => ∃ b, t.obs.dumps = [{ d with
      sent := d.sent + (l.length + 1), seq := d.seq + 1, poisoned := b }] ∧ t.mem = u.mem ∧ t.dir = u.dir) := by
  obtain ⟨t, hexec, ht, hmem, hdir⟩ := dumpStreamSend_sends hf hdumps hn hst hnext hleft
  refine ⟨t, hexec, (sentDump d (x :: l)).poisoned, ?_, hmem, hdir⟩
  have hgo : decide ((sentDump d (x :: l)).sent ≥ d.tensor.lines) = false := decide_eq_false (Nat.not_le.2 hmore)
  rw [ht, dumpPacket_eq, hgo, onlyIf, if_neg Bool.false_ne_true, dumps_packetSent _ (dumps_before_packet hf hdumps hn hst hnext hleft)]
  rfl

theorem dumpStreamSend_last (hlast : d.tensor.lines ≤ d.sent + (l.length + 1)) : Does (.dumpStreamSend n) s (fun t => ∃ y, t.obs.dumps = [y] ∧ y.st = .ended
      ∧ y.sent = d.sent + (l.length + 1) ∧ y.tensor = d.tensor ∧ t.mem = u.mem ∧ t.dir = u.dir) := by
  obtain ⟨t, hexec, ht, hmem, hdir⟩ := dumpStreamSend_sends hf hdumps hn hst hnext hleft
  refine ⟨t, hexec, (sentDump d (x :: l)).endedWith (if (sentDump d (x :: l)).poisoned then .poisoned else .ok), ?_, rfl, rfl, rfl, hmem, hdir⟩
  have hgo : decide ((sentDump d (x :: l)).sent ≥ d.tensor.lines) = true := decide_eq_true hlast
  rw [ht, dumpPacket_eq, hgo, onlyIf, if_pos rfl, dumps_endDump, dumps_packetSent _ (dumps_before_packet hf hdumps hn hst hnext hleft),
    List.map_singleton, if_pos rfl]

end

theorem dumpStreamSend_waits {n : Nat} {d : Dump} {u : State} (hf : s.frozen = false) (hdumps : s.obs.dumps = [d]) (hn : d.number = n)
    (hst : d.st = .streaming) (hnext : dumpNext d s = (u, [])) : Does (.dumpStreamSend n) s (fun t => t = u) := by
  refine ⟨_, exec_dumpStreamSend hf hdumps hn hst, ?_⟩
  unfold dumpSend
  rw [hnext]

theorem find_dump_none {n : Nat} (hnone : (s.obs.dumps.all fun d => d.number != n) = true) (st : DumpSt) :
    s.obs.dumps.find? (fun d => d.number == n && d.st == st) = none := by
  refine List.find?_eq_none.2 fun d hd hmine => ?_
  have hno := List.all_eq_true.1 hnone d hd
  simp only [Bool.and_eq_true, beq_iff_eq] at hmine
  exact bne_iff_ne.1 hno hmine.1

theorem dump_none {n : Nat} (hnone : (s.obs.dumps.all fun d => d.number != n) = true) :
    ∀ c ∈ [Instr.dumpCut n, .dumpStreamSend n], Does c s (fun t => t = s) := by
  intro c hc
  simp only [List.mem_cons, List.not_mem_nil, or_false] at hc
  obtain rfl | rfl := hc
  · refine ⟨s, ?_, rfl⟩
    rw [exec, execDumpCut, find_dump_none hnone]
    exact ite_self _
  · refine ⟨s, ?_, rfl⟩
    rw [exec, execDumpStreamSend, find_dump_none hnone]
    exact ite_self _

end

/-- Settles O48: rings and their release by the map over them, registrations by their verdict and the check of the span, dumps by the one record that
is armed, cut, streamed or ended. -/
theorem crumbsAndDumps : Obligations.CrumbsAndDumps := by
  unfold Obligations.CrumbsAndDumps
  intro s r
  refine ⟨fun kind unit => ⟨fun hunit => ⟨crumbRead_replies hunit, fun sink hsink => crumbRead_exports hunit hsink,
      (crumbRelease_replies (.inr hunit)).mono fun t ht e he hmine => ht e he (.inr hmine)⟩, crumbRead_unsupported, crumbRingUnfreeze_does kind unit s⟩,
    (crumbRelease_replies (.inl rfl)).mono fun t ht e he => ht e he (.inl rfl),
    fun name ctx addr length format hname hhead hctx hlen hformat hnot => ⟨fun h0 hfound => tensorRegister_removes hname hhead hctx hlen hformat h0 hfound hnot,
      fun h0 hfound => tensorRegister_refused hname hhead hctx hlen hformat (.inl h0) (by rw [hfound, decide_eq_true h0]; decide) hnot,
      fun h0 hfound hcheck => tensorRegister_refused hname hhead hctx hlen hformat (.inr hcheck) (by rw [hfound, decide_eq_false h0]; decide) hnot,
      fun h0 hfound hcheck hroom => tensorRegister_enters hname hhead hctx hlen hformat h0 hfound hcheck hroom hnot,
      fun h0 hfound hcheck hfull => tensorRegister_full hname hhead hctx hlen hformat h0 hfound hcheck hfull hnot⟩,
    fun name sink mark step bufPa bufLen => ⟨dumpArm_unsupported,
      fun x pa tenant keyId hx hplace hname hsink hpa hlen htop hmap hstep hhere hvalue hnot hopen hsegment =>
        ⟨dumpArm_arms hx hplace hname hsink hpa hlen htop hmap hstep hhere hvalue hnot hopen hsegment,
          dumpArm_full hx hplace hname hsink hpa hlen htop hmap hstep hhere hvalue hnot hopen hsegment⟩⟩,
    fun n hn => ⟨dumpCancel_replies hn, dumpCancel_refused hn⟩,
    fun n d hf hdumps hn hst hnone => dumpCut_cuts hf hdumps hn hst hnone,
    fun n d u x l hf hdumps hn hst hnext hleft => ⟨dumpStreamSend_more hf hdumps hn hst hnext hleft, dumpStreamSend_last hf hdumps hn hst hnext hleft⟩,
    fun n d u hf hdumps hn hst hnext => dumpStreamSend_waits hf hdumps hn hst hnext, fun n hnone => dump_none hnone⟩

end Sys2Proof.Machine
end

section
/-!
PROOF. Takeover and handback (R482 to R487, R494 to R496).
-/
namespace Sys2Proof.Machine

/-! ### Timers of the twin -/

theorem not_frozen_of_runs {s : State} (h : s.runs = true) : s.frozen = false := by
  rw [State.runs, Bool.and_eq_true] at h
  exact (Bool.not_eq_true' s.frozen).mp h.2

theorem onTwinTimer_fires {c : State → Bool} {f : State → State} {s : State} (hruns : s.runs = true) (hc : c s = true) : onTwinTimer c f s = f s :=
  if_pos (by rw [hruns, hc]; rfl)

theorem onTwinTimer_idle {c : State → Bool} {f : State → State} {s : State} (hc : c s = false) : onTwinTimer c f s = s :=
  if_neg (by rw [hc, Bool.and_false]; exact Bool.false_ne_true)

/-- What a timer's command answers while the package is not frozen. -/
theorem unless_frozen {s t : State} (h : s.frozen = false) :
    (if s.frozen = true then (.next s : Host.Outcome State Fault Refusal) else .next t) = .next t := if_neg (by rw [h]; exact Bool.false_ne_true)

/-- What a timer of the twin answers when it fires. -/
theorem twinTimer_next {c : State → Bool} {f : State → State} {s : State} (hruns : s.runs = true) (hc : c s = true) :
    (if s.frozen = true then (.next s : Host.Outcome State Fault Refusal) else .next (onTwinTimer c f s)) = .next (f s) :=
  (unless_frozen (not_frozen_of_runs hruns)).trans (congrArg Host.Outcome.next (onTwinTimer_fires hruns hc))

theorem notify_twin_rest (code : Nat) (payload : List Byte) (s : State) : (notify code payload s).twin.rest = s.twin.rest :=
  (frame_notify (P := [.ledger, .leaves, .sessions, .rings, .kodp, .ctrs, .out]) (by decide) (Frame.refl _ s)).twin_rest rfl

theorem notify_mem (code : Nat) (payload : List Byte) (s : State) : (notify code payload s).mem = s.mem :=
  (frame_notify (P := [.ledger, .leaves, .sessions, .rings, .kodp, .ctrs, .out]) (by decide) (Frame.refl _ s)).mem_eq rfl

theorem notify_deep (code : Nat) (payload : List Byte) (s : State) : (notify code payload s).deep = s.deep :=
  (frame_notify (P := [.ledger, .leaves, .sessions, .rings, .kodp, .ctrs, .out]) (by decide) (Frame.refl _ s)).deep_eq rfl

/-! ### The takeover begins -/

/-- The standby promotes itself under the next epoch, with what is held applied (R486). -/
def promoted (s : State) : State :=
  let s := s.onTwin (fun t => { t with st := .promoting })
  applyHeld 1 (s.twin.held.length + 1) (applyHeld 0 (s.twin.held.length + 1) s)

/-- The takeover after what is held has been applied: owner of the epoch, with the divergence map begun (R479, R486). -/
def takenOver (e basis : Nat) (s : State) : State :=
  let s := becomeOwner (useEpoch e (s.onTwin (fun t => { t with held := [], releaseCode := none, force := none, repairWaits := [], basis := basis })))
  epochKeys e (s.onTwin (fun t => { t with diverging := true, divergence := [] }))

/-- What a takeover empties of the caches and the crossbar. -/
def crossbarEmptied (s : State) : State :=
  let s := s.onPart (fun p => { p with ctxCache := [], xlate := [], walks := [] })
  s.onTraffic (fun t => { t with ingress := [], egress := [], rtPort := [], holds := [] })

/-- What a takeover starts again (R203, R262, R311, R394). -/
def restarted (s : State) : State := bump .twTakeovers 0 (abortDumps (fun _ => true) false (settleTags (settleRecipes (restartRecalls (restartSlots s)))))

theorem takenOver_twin (e basis : Nat) (s : State) : (takenOver e basis s).twin.st = .alone ∧ (takenOver e basis s).twin.epoch = e
    ∧ (takenOver e basis s).twin.lampOut = .hold ∧ (takenOver e basis s).twin.force = none ∧ (takenOver e basis s).twin.releaseCode = none
    ∧ (takenOver e basis s).twin.diverging = true ∧ (takenOver e basis s).twin.basis = basis := by
  obtain ⟨a, p, howner⟩ := becomeOwner_twin
    (useEpoch e (s.onTwin (fun t => { t with held := [], releaseCode := none, force := none, repairWaits := [], basis := basis })))
  unfold takenOver
  generalize becomeOwner _ = w at howner ⊢
  exact ⟨(congrArg TwinState.st howner :), (congrArg TwinState.epoch howner :), (congrArg TwinState.lampOut howner :),
    (congrArg TwinState.force howner :), (congrArg TwinState.releaseCode howner :), rfl, (congrArg TwinState.basis howner :)⟩

/-- The parts that the restarts of a takeover may change. -/
abbrev restartParts : List Part := [.pkg, .txn, .ledger, .part, .dir, .mem, .dram, .deep, .integ, .recp, .core, .mirror, .leaves, .power, .sessions, .obs, .rings,
  .kodp, .ctrs, .out, .free]

theorem restarted_frame (s : State) : Frame restartParts s (restarted s) :=
  frame_bump (by decide) (frame_abortDumps (by decide) (frame_settleTags (by decide) (frame_settleRecipes (by decide)
    (frame_restartRecalls (by decide) (frame_restartSlots (by decide) (Frame.refl _ s))))))

section
variable (s : State)

/-- The basis of a takeover: 1 by a release code, 2 by force (R486). -/
def State.takeoverBasis (s : State) : Nat := if s.twin.st == .standby && s.twin.releaseCode.isSome then 1 else 2

theorem takeoverStart_exec (hruns : s.runs = true) (hstandby : s.twin.st = .standby) (hmay : s.mayTake = true) (hepoch : s.twin.epoch + 1 ≤ 0xFFFFFFFE) :
    exec .takeoverStart s = .next (restarted (crossbarEmptied (takenOver (s.twin.epoch + 1) s.takeoverBasis (promoted s)))) := by
  have hempty : ¬ (s.twin.st == .enrolling) = true := by rw [hstandby]; decide
  rw [exec, execTakeoverStart]
  refine (twinTimer_next hruns hmay).trans (congrArg Host.Outcome.next ?_)
  dsimp only
  rw [if_neg (Nat.not_lt.mpr hepoch), if_neg hempty]
  simp only [restarted, crossbarEmptied, takenOver, promoted, State.takeoverBasis]

theorem takeoverStart_alone (hruns : s.runs = true) (hstandby : s.twin.st = .standby) (hmay : s.mayTake = true)
    (hepoch : s.twin.epoch + 1 ≤ 0xFFFFFFFE) : Does .takeoverStart s (fun t => t.twin.st = .alone ∧ t.twin.epoch = s.twin.epoch + 1 ∧ t.twin.lampOut = .hold
      ∧ t.twin.force = none ∧ t.twin.releaseCode = none ∧ t.twin.diverging = true ∧ t.traffic.holds = []
      ∧ t.twin.basis = (if s.twin.releaseCode.isSome = true then 1 else 2)) := by
  have hbasis : s.takeoverBasis = if s.twin.releaseCode.isSome = true then 1 else 2 := by
    rw [State.takeoverBasis, hstandby]; rfl
  obtain ⟨hst, he, hlamp, hforce, hcode, hdiv, hb⟩ := takenOver_twin (s.twin.epoch + 1) s.takeoverBasis (promoted s)
  refine ⟨_, takeoverStart_exec s hruns hstandby hmay hepoch, ?_⟩
  generalize takenOver (s.twin.epoch + 1) s.takeoverBasis (promoted s) = w at hst he hlamp hforce hcode hdiv hb ⊢
  have hrest : (restarted (crossbarEmptied w)).twin.rest = w.twin.rest := (restarted_frame (crossbarEmptied w)).twin_rest rfl
  have htraffic : (restarted (crossbarEmptied w)).traffic.rest = (crossbarEmptied w).traffic.rest := (restarted_frame (crossbarEmptied w)).traffic_rest rfl
  generalize restarted (crossbarEmptied w) = t at hrest htraffic ⊢
  exact ⟨(congrArg TwinState.st hrest :).trans hst, (congrArg TwinState.epoch hrest :).trans he, (congrArg TwinState.lampOut hrest :).trans hlamp,
    (congrArg TwinState.force hrest :).trans hforce, (congrArg TwinState.releaseCode hrest :).trans hcode,
    (congrArg TwinState.diverging hrest :).trans hdiv, (congrArg TrafficState.holds htraffic :),
    ((congrArg TwinState.basis hrest :).trans hb).trans hbasis⟩

theorem takeoverStart_waits (hmay : s.mayTake = false) : Does .takeoverStart s (fun t => t = s) := by
  refine ⟨s, ?_, rfl⟩
  rw [exec, execTakeoverStart]
  split
  · rfl
  · exact congrArg Host.Outcome.next (onTwinTimer_idle hmay)

/-! ### The claims' deadline -/

/-- The sleds that are present and not claimed. -/
def State.lateSleds (s : State) : List Nat := [0, 1, 2, 3].filter (fun n => (s.sled n).present && !(s.sled n).claimed)

/-- A sled that is not claimed in time is unreachable (R486). -/
def sledLate (n : Nat) (s : State) : State := notify 0x1602 (leBytes 1 n) (setSled n (fun x => { x with reachable := false }) s)

theorem claimDeadline_exec (hruns : s.runs = true) (hbasis : s.twin.basis ≠ 0) (howner : s.owner = true) : exec .takeoverClaimDeadline s
    = .next (takeoverDone (onlyIf (!s.lateSleds.isEmpty) (timeoutFired 11 9 0 0) (forAll s.lateSleds sledLate s))) := by
  rw [exec, execTakeoverClaimDeadline]
  exact twinTimer_next hruns (by rw [howner, bne_iff_ne.mpr hbasis]; rfl)

theorem lateSleds_nil (h : ∀ n, n < 4 → (s.sled n).present = true → (s.sled n).claimed = true) : s.lateSleds = [] := by
  refine List.filter_eq_nil_iff.mpr fun n hn hlate => ?_
  rw [Bool.and_eq_true, Bool.not_eq_true'] at hlate
  have hlt : n < 4 := by simp at hn; omega
  exact absurd (h n hlt hlate.1) (by rw [hlate.2]; decide)

theorem claimDeadline_done (hruns : s.runs = true) (hbasis : s.twin.basis ≠ 0) (howner : s.owner = true)
    (hclaimed : ∀ n, n < 4 → (s.sled n).present = true → (s.sled n).claimed = true) : Does .takeoverClaimDeadline s (fun t => t = takeoverDone s) := by
  refine ⟨_, claimDeadline_exec s hruns hbasis howner, ?_⟩
  rw [lateSleds_nil s hclaimed]
  rfl

theorem sled_of_deep {s t : State} (h : t.deep = s.deep) (n : Nat) : t.sled n = s.sled n := by rw [State.sled, h]; rfl

theorem mem_lateSleds {n : Nat} (hn : n < 4) (hpresent : (s.sled n).present = true) (hclaimed : (s.sled n).claimed = false) : n ∈ s.lateSleds := by
  refine List.mem_filter.mpr ⟨?_, by rw [hpresent, hclaimed]; rfl⟩
  simp only [List.mem_cons, List.not_mem_nil, or_false]
  omega

theorem sled_sledLate_same (n : Nat) : ((sledLate n s).sled n).reachable = false := by
  rw [sledLate, sled_of_deep (notify_deep ..), setSled, State.sled, State.onDeep_deep, agetD, aget_aset_same]
  rfl

theorem sled_sledLate_unreachable {n m : Nat} {s : State} (h : (s.sled n).reachable = false) : ((sledLate m s).sled n).reachable = false := by
  by_cases hnm : n = m
  · rw [hnm]
    exact sled_sledLate_same s m
  · rw [sledLate, sled_of_deep (notify_deep ..), setSled, State.sled, State.onDeep_deep, agetD, aget_aset_ne _ _ hnm]
    exact h

theorem unreachable_of_late {n : Nat} {l : List Nat} (hn : n ∈ l) (s : State) : ((forAll l sledLate s).sled n).reachable = false := by
  induction l generalizing s with
  | nil => exact absurd hn List.not_mem_nil
  | cons a l ih =>
    rcases List.mem_cons.mp hn with rfl | hn
    · exact forAll_holds (P := fun t => (t.sled n).reachable = false) (fun m t ht => sled_sledLate_unreachable ht) l (sled_sledLate_same s n)
    · exact ih hn _

theorem sledLate_frame (n : Nat) (s : State) : Frame [.deep, .ledger, .leaves, .sessions, .rings, .kodp, .ctrs, .out] s (sledLate n s) :=
  frame_notify (by decide) (frame_setSled (by decide) (Frame.refl _ s))

/-- What follows the sleds that are late: the takeover is reported done (R486). -/
theorem deadlinePassed_frame (c : Bool) (s : State) : Frame [.ledger, .twin, .leaves, .sessions, .rings, .kodp, .ctrs, .out] s
    (takeoverDone (onlyIf c (timeoutFired 11 9 0 0) s)) := by
  refine frame_takeoverDone (by decide) ?_
  cases c with
  | false => exact Frame.refl _ s
  | true => exact frame_timeoutFired (by decide) (Frame.refl _ s)

theorem claimDeadline_late {n : Nat} (hn : n < 4) (hruns : s.runs = true) (hbasis : s.twin.basis ≠ 0) (howner : s.owner = true)
    (hpresent : (s.sled n).present = true) (hclaimed : (s.sled n).claimed = false) : Does .takeoverClaimDeadline s (fun t =>
      (t.sled n).reachable = false ∧ t.mem = s.mem) := by
  refine ⟨_, claimDeadline_exec s hruns hbasis howner, ?_, ?_⟩
  · rw [sled_of_deep ((deadlinePassed_frame ..).deep_eq rfl)]
    exact unreachable_of_late (mem_lateSleds s hn hpresent hclaimed) s
  · exact ((deadlinePassed_frame ..).mem_eq rfl).trans ((frame_forAll (fun m w hw => hw.trans (sledLate_frame m w)) (Frame.refl _ s)).mem_eq rfl)

/-! ### Release codes -/

/-- The release code counts no longer, and the lamps that brought it are dark (R484). -/
def codeLapsed (s : State) : State :=
  s.onTwin (fun t => { t with releaseCode := none, lamp0 := if t.lamp0.state = 2 then { state := 0, why := 1 } else t.lamp0,
                              lamp1 := if t.lamp1.state = 2 then { state := 0, why := 1 } else t.lamp1 })

theorem releaseCodeExpiry_exec (hruns : s.runs = true) (hcode : s.twin.releaseCode.isSome = true) : exec .releaseCodeExpiry s
    = .next (if (codeLapsed s).twin.st = .standby ∧ (codeLapsed s).twin.kaLost1ms then
        notify 0x1B06 [] ((codeLapsed s).onTwin (fun t => { t with st := .adrift })) else codeLapsed s) :=
  twinTimer_next hruns hcode

theorem releaseCodeExpiry_adrift (hruns : s.runs = true) (hcode : s.twin.releaseCode.isSome = true) (hst : s.twin.st = .standby)
    (hlost : s.twin.kaLost1ms = true) : Does .releaseCodeExpiry s (fun t => t.twin.st = .adrift ∧ t.twin.releaseCode = none ∧ t.mem = s.mem) := by
  refine ⟨_, (releaseCodeExpiry_exec s hruns hcode).trans (congrArg Host.Outcome.next (if_pos ⟨hst, hlost⟩)), ?_⟩
  have hrest := notify_twin_rest 0x1B06 [] ((codeLapsed s).onTwin (fun t => { t with st := .adrift }))
  exact ⟨(congrArg TwinState.st hrest :), (congrArg TwinState.releaseCode hrest :), notify_mem ..⟩

theorem lamp_dark (l : LampIn) : (if l.state = 2 then { state := 0, why := 1 } else l : LampIn).state ≠ 2 := by
  split
  · decide
  · assumption

theorem releaseCodeExpiry_stays (hruns : s.runs = true) (hcode : s.twin.releaseCode.isSome = true) (hlost : s.twin.kaLost1ms = false) :
    Does .releaseCodeExpiry s (fun t => t.twin.st = s.twin.st ∧ t.twin.releaseCode = none ∧ (t.lamp 0).state ≠ 2 ∧ (t.lamp 1).state ≠ 2
      ∧ Frame [.twin] s t) := by
  have hkeeps : ¬ ((codeLapsed s).twin.st = .standby ∧ (codeLapsed s).twin.kaLost1ms = true) := fun h => by
    have hlost' : (codeLapsed s).twin.kaLost1ms = s.twin.kaLost1ms := rfl
    rw [hlost', hlost] at h
    exact Bool.false_ne_true h.2
  refine ⟨_, (releaseCodeExpiry_exec s hruns hcode).trans (congrArg Host.Outcome.next (if_neg hkeeps)), rfl, rfl, lamp_dark s.twin.lamp0,
    lamp_dark s.twin.lamp1, ?_⟩
  exact frame_onTwin [.twin] (by decide) (.inr fun _ => rfl) (.inl rfl) (Frame.refl _ s)

/-! ### Handback -/

theorem quiesceBarrier_exec (hruns : s.runs = true) (hquiescing : s.twin.quiescing = true) (hnone : s.recp.recipes = []) : exec .quiesceBarrier s
    = .next (if (s.onTwin (fun t => { t with quiescing := false })).twin.st = .active ∧ (s.onTwin (fun t => { t with quiescing := false })).twin.handback then
        settleWaits (releasePeerWaits ((s.onTwin (fun t => { t with quiescing := false })).onTwin (fun t => { t with st := .releasing, paused := true })))
      else s.onTwin (fun t => { t with quiescing := false })) := by
  refine twinTimer_next hruns ?_
  rw [hquiescing, hnone]
  rfl

theorem quiesceBarrier_releases (hruns : s.runs = true) (hquiescing : s.twin.quiescing = true) (hnone : s.recp.recipes = []) (hst : s.twin.st = .active)
    (hback : s.twin.handback = true) : Does .quiesceBarrier s (fun t => ∃ w, t = settleWaits w ∧ w.twin.st = .releasing ∧ w.twin.paused = true
      ∧ w.twin.quiescing = false ∧ w.mem = s.mem) := by
  refine ⟨_, (quiesceBarrier_exec s hruns hquiescing hnone).trans (congrArg Host.Outcome.next (if_pos ⟨hst, hback⟩)), _, rfl, ?_⟩
  have hframe := frame_releasePeerWaits (P := [.ledger, .mirror, .leaves, .sessions, .kodp, .ctrs, .out]) (by decide)
    (Frame.refl _ ((s.onTwin (fun t => { t with quiescing := false })).onTwin (fun t => { t with st := .releasing, paused := true })))
  have hrest := hframe.twin_rest rfl
  exact ⟨(congrArg TwinState.st hrest :), (congrArg TwinState.paused hrest :), (congrArg TwinState.quiescing hrest :), hframe.mem_eq rfl⟩

theorem quiesceBarrier_ends (hruns : s.runs = true) (hquiescing : s.twin.quiescing = true) (hnone : s.recp.recipes = [])
    (hback : s.twin.handback = false) : Does .quiesceBarrier s (fun t => t = { s with twin := { s.twin with quiescing := false } }) := by
  have hkeeps : ¬ ((s.onTwin (fun t => { t with quiescing := false })).twin.st = .active
      ∧ (s.onTwin (fun t => { t with quiescing := false })).twin.handback = true) := fun h => by
    have hback' : (s.onTwin (fun t => { t with quiescing := false })).twin.handback = s.twin.handback := rfl
    rw [hback', hback] at h
    exact Bool.false_ne_true h.2
  exact ⟨_, (quiesceBarrier_exec s hruns hquiescing hnone).trans (congrArg Host.Outcome.next (if_neg hkeeps)), rfl⟩

theorem handbackDrainTimeout_active (hruns : s.runs = true) (hst : s.twin.st = .releasing) (hreleased : s.twin.released = false) :
    Does .handbackDrainTimeout s (fun t => t.twin.st = .active ∧ t.twin.paused = false ∧ t.twin.handback = false ∧ t.mem = s.mem) := by
  refine ⟨_, twinTimer_next hruns (by rw [hst, hreleased]; rfl), ?_⟩
  have hrest := notify_twin_rest 0x1B0D [] (bump .twHandbacksAbandoned 0 (s.onTwin (fun t => { t with st := .active, paused := false, handback := false })))
  exact ⟨(congrArg TwinState.st hrest :), (congrArg TwinState.paused hrest :), (congrArg TwinState.handback hrest :), notify_mem ..⟩

theorem releaseLampEnd_dark (hruns : s.runs = true) (hlamp : s.twin.lampOut = .release) :
    Does .releaseLampEnd s (fun t => t = { s with twin := { s.twin with lampOut := .dark } }) :=
  ⟨_, twinTimer_next hruns (by rw [hlamp]; rfl), rfl⟩

theorem leaveReleasing_twin (e : Nat) : (leaveReleasing e s).twin.st = .adrift ∧ (leaveReleasing e s).twin.epoch = e
    ∧ (leaveReleasing e s).twin.lampOut = .dark ∧ (leaveReleasing e s).twin.released = false := by
  unfold leaveReleasing
  generalize hw : s.onTwin _ = w
  have hrest := (frame_stopDeep (P := [.txn, .ledger, .deep, .mirror, .leaves, .sessions, .rings, .kodp, .running, .ctrs, .out]) (by decide)
    (Frame.refl _ w)).twin_rest rfl
  rw [← hw] at hrest ⊢
  exact ⟨(congrArg TwinState.st hrest :), (congrArg TwinState.epoch hrest :), (congrArg TwinState.lampOut hrest :),
    (congrArg TwinState.released hrest :)⟩

theorem leaveReleasing_mem (e : Nat) : (leaveReleasing e s).mem = s.mem :=
  (frame_leaveReleasing (P := [.txn, .ledger, .deep, .twin, .mirror, .leaves, .sessions, .rings, .kodp, .running, .ctrs, .out]) (by decide)
    (Frame.refl _ s)).mem_eq rfl

theorem releasingTimeout_adrift (hruns : s.runs = true) (hst : s.twin.st = .releasing) (hreleased : s.twin.released = true) :
    Does .releasingTimeout s (fun t => t.twin.st = .adrift ∧ t.twin.lampOut = .dark ∧ t.twin.released = false ∧ t.mem = s.mem) := by
  refine ⟨_, twinTimer_next hruns (by rw [hst, hreleased]; rfl), ?_⟩
  obtain ⟨hleft, -, hlamp, hdone⟩ := leaveReleasing_twin s s.twin.epoch
  have hmem := leaveReleasing_mem s s.twin.epoch
  generalize leaveReleasing s.twin.epoch s = w at hleft hlamp hdone hmem ⊢
  have hrest := notify_twin_rest 0x1B05 (leBytes 1 3) (bump .twStandbyLosses 0 w)
  exact ⟨(congrArg TwinState.st hrest :).trans hleft, (congrArg TwinState.lampOut hrest :).trans hlamp,
    (congrArg TwinState.released hrest :).trans hdone, (notify_mem ..).trans hmem⟩

end

/-- Settles O40: each of the timers fires while the package runs and its own condition holds, and changes the twin's state once; what it then restarts,
answers and reports leaves that state as it is, by the frames of those operations. -/
theorem twinTakeover : Obligations.TwinTakeover := by
  unfold Obligations.TwinTakeover
  intro s
  refine ⟨?start, takeoverStart_waits s, claimDeadline_done s, ?late, ?force, releaseCodeExpiry_adrift s, releaseCodeExpiry_stays s,
    quiesceBarrier_releases s, quiesceBarrier_ends s, ?wait, handbackDrainTimeout_active s, releaseLampEnd_dark s, releasingTimeout_adrift s⟩
  case start =>
    intro hruns hstandby hmay _ _ _ _ _ hepoch
    exact takeoverStart_alone s hruns hstandby hmay hepoch
  case late =>
    intro n hn hruns hbasis howner hpresent hclaimed
    exact claimDeadline_late s hn hruns hbasis howner hpresent hclaimed
  case force => exact fun hfrozen => ⟨_, unless_frozen hfrozen, rfl⟩
  case wait => exact fun hfrozen => ⟨_, unless_frozen hfrozen, rfl⟩

end Sys2Proof.Machine
end

section
/-!
PROOF. The lamps and the timers of the twin link (R464, R467, R470, R478 to R483, R490 to R495).
-/
namespace Sys2Proof.Machine

section
variable {s : State} {n frame : Nat}

/-! ### Lamps -/

theorem setLamp_frame (n : Nat) (l : LampIn) (s : State) : Frame [.twin] s (setLamp n l s) := frame_setLamp (by decide) (Frame.refl _ s)

theorem lamp_setLamp (n : Nat) (l : LampIn) (s : State) : (setLamp n l s).lamp n = l := by
  unfold setLamp State.lamp
  by_cases hn : n = 0
  · rw [if_pos hn]; exact if_pos hn
  · rw [if_neg hn]; exact if_neg hn

/-- Whether a lamp frame is well formed (R480). -/
def goodFrame (frame : Nat) : Bool :=
  decide (frame < 2 ^ 64) && bits frame 0 8 == 0xB4 && bits frame 56 8 == crc8 (leBytes 7 (bits frame 0 56)) && (bits frame 8 2 == 1 || bits frame 8 2 == 2)

/-- What a lamp frame does while the package runs (R480, R481). -/
theorem lampFrame_exec (hruns : s.runs = true) (hn : n ≤ 1) (frame : Nat) : exec (.lampFrame n frame) s
    = .next (if !goodFrame frame then bump .twBadLampFrames 0 (if (s.lamp n).state = 1 then s else setLamp n { state := 0, why := 2 } s)
      else if bits frame 8 2 = 1 then
        if bits frame 16 32 ≥ s.twin.epoch then setLamp n { state := 1, why := 0 } s
        else bump .twLowLampFrames 0 (if (s.lamp n).state = 1 then s else setLamp n { state := 0, why := 3 } s)
      else if bits frame 16 32 = s.twin.epoch + 1 then
        if s.twin.st = .standby ∧ !s.twin.kaLost1ms then setLamp n { state := 2, why := 1 } (holdRelease s)
        else setLamp n { state := 0, why := 1 } (holdRelease s)
      else setLamp n { state := 0, why := 1 } s) := by
  have hon : ¬ (n > 1 ∨ (!s.runs) = true ∨ Config.twinPorts = 0) := by
    rw [hruns]
    rintro (h | h | h)
    · omega
    · exact Bool.false_ne_true h
    · exact absurd h (by decide)
  rw [exec, execLampFrame, if_neg hon]
  rfl

theorem goodFrame_of (hlt : frame < 2 ^ 64) (hmark : bits frame 0 8 = 0xB4) (hcrc : bits frame 56 8 = crc8 (leBytes 7 (bits frame 0 56)))
    (hkind : bits frame 8 2 = 1 ∨ bits frame 8 2 = 2) : goodFrame frame = true := by
  have hk : (bits frame 8 2 == 1 || bits frame 8 2 == 2) = true := by
    rw [Bool.or_eq_true, beq_iff_eq, beq_iff_eq]
    exact hkind
  rw [goodFrame, hk, decide_eq_true hlt, beq_iff_eq.mpr hmark, beq_iff_eq.mpr hcrc]
  rfl

theorem not_goodFrame (hmark : bits frame 0 8 ≠ 0xB4) : goodFrame frame = false := by
  rw [goodFrame, beq_eq_false_iff_ne.mpr hmark, Bool.and_false, Bool.false_and, Bool.false_and]

theorem lampFrame_hold (hruns : s.runs = true) (hn : n ≤ 1) (hgood : goodFrame frame = true) (hkind : bits frame 8 2 = 1)
    (hepoch : s.twin.epoch ≤ bits frame 16 32) : Does (.lampFrame n frame) s (fun t => t.lamp n = { state := 1, why := 0 } ∧ Frame [.twin] s t) := by
  refine ⟨_, lampFrame_exec hruns hn frame, ?_⟩
  rw [hgood, if_neg (by decide), if_pos hkind, if_pos hepoch]
  exact ⟨lamp_setLamp .., setLamp_frame ..⟩

theorem holdRelease_standby (hst : s.twin.st = .standby) (hlost : s.twin.kaLost1ms = false) :
    holdRelease s = s.onTwin (fun t => { t with releaseCode := some s.now }) := by
  unfold holdRelease
  exact if_pos ⟨hst, by rw [hlost]; rfl⟩

theorem lampFrame_release (hruns : s.runs = true) (hn : n ≤ 1) (hgood : goodFrame frame = true) (hkind : bits frame 8 2 = 2)
    (hepoch : bits frame 16 32 = s.twin.epoch + 1) (hst : s.twin.st = .standby) (hlost : s.twin.kaLost1ms = false) :
    Does (.lampFrame n frame) s (fun t => (t.lamp n).state = 2 ∧ t.twin.releaseCode = some s.now ∧ Frame [.twin] s t) := by
  refine ⟨_, lampFrame_exec hruns hn frame, ?_⟩
  rw [hgood, if_neg (by decide), if_neg (by rw [hkind]; decide), if_pos hepoch, if_pos ⟨hst, by rw [hlost]; rfl⟩, holdRelease_standby hst hlost]
  refine ⟨congrArg LampIn.state (lamp_setLamp ..), rfl, ?_⟩
  exact frame_setLamp (by decide) (frame_onTwin [.twin] (by decide) (.inr fun _ => rfl) (.inl rfl) (Frame.refl _ s))

theorem lampFrame_bad (hruns : s.runs = true) (hn : n ≤ 1) (hmark : bits frame 0 8 ≠ 0xB4) (hlit : (s.lamp n).state ≠ 1) :
    Does (.lampFrame n frame) s (fun t => t.lamp n = { state := 0, why := 2 } ∧ Counts .twBadLampFrames 0 1 s t ∧ Frame [.twin, .ctrs] s t) := by
  refine ⟨_, lampFrame_exec hruns hn frame, ?_⟩
  rw [not_goodFrame hmark, if_pos (by decide), if_neg hlit]
  refine ⟨lamp_setLamp n { state := 0, why := 2 } s, ?_, frame_bump (by decide) ((setLamp_frame ..).mono (by decide))⟩
  exact (ctr_bumpBy_same ..).trans (congrArg (ctrAdd .twBadLampFrames · 1) ((setLamp_frame ..).ctr_eq rfl ..))

theorem lampInputDark_dark (hn : n ≤ 1) (hlit : (s.lamp n).state = 1) :
    Does (.lampInputDark n) s (fun t => t.lamp n = { state := 0, why := 1 } ∧ Frame [.twin] s t) :=
  ⟨_, congrArg Host.Outcome.next (if_pos ⟨hn, hlit⟩), lamp_setLamp .., setLamp_frame ..⟩

/-! ### A notification takes the next number -/

theorem nextSeq_of_unsent {k l : KodpState} (h : k.unsent = l.unsent) : k.nextSeq = l.nextSeq := (congrArg KodpState.nextSeq h :)

theorem sendNotify_nextSeq (k : Client) (recs : List NotifyRec) (s : State) : (sendNotify k recs s).kodp.nextSeq = s.kodp.nextSeq := by
  unfold sendNotify
  exact (nextSeq_of_unsent (sendMsg_unsent ..)).trans rfl

theorem drainSubs_nextSeq (s : State) : (drainSubs s).kodp.nextSeq = s.kodp.nextSeq := by
  unfold drainSubs
  refine (forAll_keeps (g := fun s => s.kodp.nextSeq) (fun b s => ?_) _ _).trans rfl
  exact (forAll_keeps (g := fun s => s.kodp.nextSeq) (fun i s => sendNotify_nextSeq ..) _ _).trans rfl

theorem onKodp_log_nextSeq (f : KodpState → List (NotifyRec × Option Client)) (s : State) :
    (s.onKodp (fun k => { k with log := f k })).kodp.nextSeq = s.kodp.nextSeq := rfl

theorem onKodp_subs_nextSeq (f : KodpState → List Sub) (s : State) : (s.onKodp (fun k => { k with subs := f k })).kodp.nextSeq = s.kodp.nextSeq := rfl

theorem deliver_nextSeq (r : NotifyRec) (only : Option Client) (s : State) : (deliver r only s).kodp.nextSeq = s.kodp.nextSeq := by
  unfold deliver
  extract_lets t
  have ht : t.kodp.nextSeq = s.kodp.nextSeq := onKodp_log_nextSeq _ s
  clear_value t
  split
  · exact (sendNotify_nextSeq ..).trans ht
  · exact (onKodp_subs_nextSeq _ t).trans ht

theorem notify_nextSeq (code : Nat) (payload : List Byte) (s : State) : (notify code payload s).kodp.nextSeq = s.kodp.nextSeq + 1 := by
  unfold notify notifyTo
  extract_lets r t
  split
  · split <;> rfl
  · exact (drainSubs_nextSeq _).trans (deliver_nextSeq ..)

theorem lampFault_notifies (hruns : s.runs = true) (hn : n ≤ 1) (hst : s.twin.st = .standby) (hdark : (s.lamp n).state ≠ 1)
    (hother : (s.lamp (1 - n)).state = 1) : Does (.lampFault n) s (fun t => t.kodp.nextSeq = s.kodp.nextSeq + 1 ∧ t.twin = s.twin ∧ t.mem = s.mem) := by
  refine ⟨_, congrArg Host.Outcome.next (if_pos ⟨hn, hruns, .inl hst, hdark, .inl hother⟩), notify_nextSeq .., ?_, notify_mem ..⟩
  exact (frame_notify (P := [.ledger, .leaves, .sessions, .rings, .kodp, .ctrs, .out]) (by decide) (Frame.refl _ s)).twin_eq rfl rfl

theorem lampFault_alone (n : Nat) (hst : s.twin.st = .alone) : Does (.lampFault n) s (fun t => t = s) := by
  refine ⟨_, congrArg Host.Outcome.next (if_neg fun h => ?_), rfl⟩
  obtain ⟨-, -, hstates, -⟩ := h
  rw [hst] at hstates
  simp at hstates

/-! ### Keepalives -/

/-- What is sent at each of some leaves is carried. -/
theorem carries_forAll {α : Type} {l : List α} (hl : l ≠ []) (f : α → Nat) (sub : Nat) (p : Packet) (s : State) :
    (forAll l (fun a s => enqueueAt (f a) sub p s) s).carries p := by
  obtain ⟨a, l, rfl⟩ := List.exists_cons_of_ne_nil hl
  exact forAll_holds (P := fun t => t.carries p) (fun b t ht => enqueueAt_carries _ _ _ ht) l (carries_enqueueAt _ _ p s)

theorem keepaliveSend_solo (hruns : s.runs = true) (hst : s.twin.st = .solo) : Does .keepaliveSend s (fun t => t = s) := by
  refine ⟨_, unless_frozen (not_frozen_of_runs hruns), onTwinTimer_idle ?_⟩
  rw [hst]
  rfl

theorem keepaliveSend_sends (hruns : s.runs = true) (hst : s.twin.st = .active) (hpeer : s.twin.peerEid ≠ 0) (hports : s.twPorts ≠ []) :
    Does .keepaliveSend s (fun t => Frame [.leaves] s t ∧ ∃ p, t.carries p ∧ p.op = 0xA1 ∧ p.dest = s.twin.peerEid ∧ p.src = s.obj .nodeEid) := by
  have hexec : exec .keepaliveSend s = .next (sendKeepalive s) := by
    refine (twinTimer_next hruns (by rw [hst]; rfl)).trans (congrArg Host.Outcome.next ?_)
    dsimp only
    have hsends : ¬ (s.twin.st = .fenced ∨ (s.twin.st = .releasing ∧ s.twin.released = true)) := by rw [hst]; simp
    rw [if_neg hsends]
    refine if_neg fun h => ?_
    have hst' : (sendKeepalive s).twin.st = .active :=
      (congrArg TwinState.st ((frame_sendKeepalive (P := [.leaves]) (by decide) (Frame.refl _ s)).twin_rest rfl) :).trans hst
    rw [hst'] at h
    simp at h
  refine ⟨_, hexec, frame_sendKeepalive (by decide) (Frame.refl _ s), _, carries_forAll hports id poolLeaf _ s, rfl, if_neg hpeer, rfl⟩

theorem standbyLoss_syncing (hruns : s.runs = true) (hst : s.twin.st = .syncing) : Does .standbyKeepaliveLoss s (fun t =>
    t.twin.st = .enrolling ∧ t.twin.kaLost1ms = true ∧ t.twin.held = [] ∧ Frame [.twin] s t) := by
  refine ⟨_, (twinTimer_next hruns (by rw [hst]; rfl)).trans (congrArg Host.Outcome.next (if_pos hst)), rfl, rfl, rfl, ?_⟩
  exact frame_onTwin [.twin] (by decide) (.inr fun _ => rfl) (.inl rfl) (frame_onTwin [.twin] (by decide) (.inr fun _ => rfl) (.inl rfl) (Frame.refl _ s))

theorem standbyLoss_exec (hruns : s.runs = true) (hst : s.twin.st = .standby) : exec .standbyKeepaliveLoss s
    = .next (if s.twin.releaseCode.isSome = true then s.onTwin (fun t => { t with kaLost1ms := true })
      else notify 0x1B06 [] ((s.onTwin (fun t => { t with kaLost1ms := true })).onTwin (fun t => { t with st := .adrift }))) := by
  have hnot : ¬ s.twin.st = .syncing := by rw [hst]; decide
  exact (twinTimer_next hruns (by rw [hst]; rfl)).trans (congrArg Host.Outcome.next (if_neg hnot))

theorem standbyLoss_adrift (hruns : s.runs = true) (hst : s.twin.st = .standby) (hcode : s.twin.releaseCode = none) : Does .standbyKeepaliveLoss s (fun t =>
    t.twin.st = .adrift ∧ t.twin.kaLost1ms = true ∧ t.mem = s.mem) := by
  refine ⟨_, (standbyLoss_exec hruns hst).trans (congrArg Host.Outcome.next (if_neg (by rw [hcode]; exact Bool.false_ne_true))), ?_⟩
  have hrest := notify_twin_rest 0x1B06 [] ((s.onTwin (fun t => { t with kaLost1ms := true })).onTwin (fun t => { t with st := .adrift }))
  exact ⟨(congrArg TwinState.st hrest :), (congrArg TwinState.kaLost1ms hrest :), notify_mem ..⟩

theorem standbyLoss_released (hruns : s.runs = true) (hst : s.twin.st = .standby) (hcode : s.twin.releaseCode.isSome = true) :
    Does .standbyKeepaliveLoss s (fun t => t.twin.st = .standby ∧ t.twin.kaLost1ms = true ∧ Frame [.twin] s t) :=
  ⟨_, (standbyLoss_exec hruns hst).trans (congrArg Host.Outcome.next (if_pos hcode)), hst, rfl,
    frame_onTwin [.twin] (by decide) (.inr fun _ => rfl) (.inl rfl) (Frame.refl _ s)⟩

/-! ### The standby is lost -/

/-- Without held changes and own writes, what the acknowledgements allow is answers only. -/
theorem releaseAll_idle (hchanges : s.part.heldChanges = []) (hwrites : s.part.ownWrites = []) : releaseAll s = releaseHeld s := by
  have hpart : (releaseHeld s).part = s.part :=
    (frame_releaseHeld (P := [.txn, .ledger, .dir, .mirror, .leaves, .sec, .ctrs]) (by decide) (Frame.refl _ s)).part_eq rfl
  have hchange : releaseChanges (releaseHeld s) = releaseHeld s := by
    unfold releaseChanges
    dsimp only
    rw [hpart, hchanges]
    rfl
  unfold releaseAll
  rw [hchange, runOwn, hpart, hwrites]
  rfl

/-- The parts that answers to a lost standby's requests and its report may change. -/
abbrev lossParts : List Part := [.pkg, .txn, .ledger, .part, .dir, .mem, .dram, .deep, .integ, .recp, .core, .mirror, .traffic, .leaves, .power, .sec, .sessions,
  .obs, .rings, .kodp, .ctrs, .out, .free]

/-- What follows the loss of a standby: what was held completes, and the loss is reported (R479). -/
def lossReported (cause : Nat) (s : State) : State :=
  sendHello (notify 0x1B05 (leBytes 1 cause) (bump .twStandbyLosses 0 (releasePeerWaits (releaseAll s))))

theorem lossReported_frame (cause : Nat) (s : State) : Frame lossParts s (lossReported cause s) :=
  frame_sendHello (by decide) (frame_notify (by decide) (frame_bump (by decide) (frame_releasePeerWaits (by decide)
    (frame_releaseAll (by decide) (Frame.refl _ s)))))

theorem lossReported_mem (cause : Nat) (hchanges : s.part.heldChanges = []) (hwrites : s.part.ownWrites = []) : (lossReported cause s).mem = s.mem := by
  unfold lossReported
  rw [releaseAll_idle hchanges hwrites]
  exact (frame_sendHello (P := [.txn, .ledger, .dir, .mirror, .leaves, .sec, .sessions, .rings, .kodp, .ctrs, .out, .free]) (by decide)
    (frame_notify (by decide) (frame_bump (by decide) (frame_releasePeerWaits (by decide) (frame_releaseHeld (by decide) (Frame.refl _ s)))))).mem_eq rfl

/-- The twin's state after the loss of a standby it had while Active (R464, R479). -/
def aloneAgain (divergence : List Nat) (s : State) : State :=
  s.onTwin (fun t => { t with st := .alone, resync := none, unacked := [], acked0 := t.mseq0, acked1 := t.mseq1, diverging := true
                              divergence := divergence, handoverAsk := false, handback := false, quiescing := false })

theorem loseStandby_active (cause : Nat) (hst : s.twin.st = .active) : ∃ d, loseStandby cause s = lossReported cause (aloneAgain d s) := by
  have hwas : (s.twin.st == .active) = true := by rw [hst]; rfl
  have hfeeding : (s.twin.st == .feeding) = false := by rw [hst]; rfl
  unfold loseStandby
  simp only [hwas, hfeeding, Bool.false_and, Bool.or_false]
  exact ⟨_, rfl⟩

theorem ownerLoss_exec (hruns : s.runs = true) (hst : s.twin.st = .active) : ∃ cause, exec .ownerKeepaliveLoss s = .next (settleWaits (loseStandby cause s)) := by
  refine ⟨if s.now ≥ s.twin.kaAt + 1500000 then 1 else 2, ?_⟩
  rw [exec, execOwnerKeepaliveLoss, unless_frozen (not_frozen_of_runs hruns), onTwinTimer_fires hruns (by rw [hst]; rfl)]

theorem ownerLoss_alone (hruns : s.runs = true) (hst : s.twin.st = .active) : Does .ownerKeepaliveLoss s (fun t => ∃ w, t = settleWaits w
    ∧ w.twin.st = .alone ∧ w.twin.diverging = true ∧ (s.part.heldChanges = [] → s.part.ownWrites = [] → w.mem = s.mem)) := by
  obtain ⟨cause, hexec⟩ := ownerLoss_exec hruns hst
  obtain ⟨d, hlost⟩ := loseStandby_active cause hst
  refine ⟨_, hexec, lossReported cause (aloneAgain d s), congrArg settleWaits hlost, ?_⟩
  have hrest := (lossReported_frame cause (aloneAgain d s)).twin_rest rfl
  have hmem : s.part.heldChanges = [] → s.part.ownWrites = [] → (lossReported cause (aloneAgain d s)).mem = s.mem :=
    fun hchanges hwrites => lossReported_mem (s := aloneAgain d s) cause hchanges hwrites
  generalize lossReported cause (aloneAgain d s) = w at hrest hmem ⊢
  exact ⟨(congrArg TwinState.st hrest :), (congrArg TwinState.diverging hrest :), hmem⟩

/-! ### Acknowledgements, announcements, enrolment, handback requests -/

theorem carries_sendTw (n : Nat) (p : Packet) (hports : s.twPorts ≠ []) : (sendTw n p s).carries p := by
  unfold sendTw
  rw [if_neg (by rw [List.isEmpty_iff]; exact hports)]
  exact carries_enqueueAt ..

theorem mrAckReport_sends (hruns : s.runs = true) (hst : s.twin.st = .standby) (hports : s.twPorts ≠ []) : Does .mrAckReportTimer s (fun t =>
    Frame [.leaves] s t
      ∧ t.carries (mkPacket 0 0xA3 s.twin.peerEid (s.obj .nodeEid) 0 0 0 false (leBytes 16 (s.twin.applied0 + s.twin.applied1 * 2 ^ 32)))) :=
  ⟨_, twinTimer_next hruns (by rw [hst]; rfl), frame_sendTw (by decide) (Frame.refl _ s), carries_sendTw 0 _ hports⟩

theorem announced_epoch (a b e : Nat) : leNat (((leBytes 4 a ++ leBytes 4 b ++ leBytes 4 e ++ leBytes 4 0).drop 8).take 4) = e % 2 ^ 32 := by
  rw [List.append_assoc, List.append_assoc, drop_leBytes_append 4 a 4, drop_leBytes_append 4 b 0, List.drop_zero, take_leBytes_append, leNat_leBytes,
    show 256 ^ 4 = 2 ^ 32 from by norm_num]

theorem announceTimer_announces {port : Nat} (hruns : s.runs = true) (hst : s.twin.st = .alone) (hport : port < 32) (hpresent : portPresent port = true)
    (hactive : (s.port port).st = .active) : Does .announceTimer s (fun t => Frame [.leaves] s t
      ∧ ∃ p, t.carries p ∧ p.op = 0x08 ∧ p.dest = 0x3FFFF ∧ leNat ((p.body.drop 8).take 4) = s.twin.epoch % 2 ^ 32) := by
  have howner : s.owner = true := by rw [State.owner, hst]
  have hports : (List.range 32).filter (fun q => portPresent q && (s.port q).st == .active) ≠ [] :=
    List.ne_nil_of_mem (List.mem_filter.mpr ⟨List.mem_range.mpr hport, by rw [hpresent, hactive]; rfl⟩)
  refine ⟨_, twinTimer_next hruns howner, frame_sendAnnounce (by decide) (Frame.refl _ s), _, carries_forAll hports id poolLeaf _ s, rfl, rfl, ?_⟩
  exact announced_epoch (s.obj .serviceEid) (s.obj .nodeEid) s.twin.epoch

theorem enrolRetry_retries (hruns : s.runs = true) (hst : s.twin.st = .enrolling) (hrefused : s.twin.refused ≠ 0) : Does .enrolRetry s (fun t =>
    t.twin.refused = 0 ∧ Frame [.twin, .leaves, .free] s t) := by
  refine ⟨_, twinTimer_next hruns (by rw [hst, bne_iff_ne.mpr hrefused]; decide), ?_, ?_⟩
  · have hrest := (frame_sendHello (P := [.leaves, .free]) (by decide) (Frame.refl _ (s.onTwin (fun t => { t with refused := 0 })))).twin_rest rfl
    exact (congrArg TwinState.refused hrest :)
  · exact frame_sendHello (by decide) (frame_onTwin [.twin] (by decide) (.inr fun _ => rfl) (.inl rfl) (Frame.refl _ s))

theorem hbReqTimer_asks (hruns : s.runs = true) (hst : s.twin.st = .standby) (hheld : s.twin.held = []) (hprefers : s.obj .homePreference = 1)
    (hports : s.twPorts ≠ []) : Does .hbReqTimer s (fun t => Frame [.leaves] s t
      ∧ t.carries (mkPacket 0 0xA9 s.twin.peerEid (s.obj .nodeEid) 0 0 0 false [])) :=
  ⟨_, twinTimer_next hruns (by dsimp only; rw [hst, hheld, hprefers]; rfl), frame_sendTw (by decide) (Frame.refl _ s), carries_sendTw 0 _ hports⟩

/-! ### The resync sends -/

/-- A resync whose sweep of stream 0 has come to a line, with so many more sent. -/
def sweptTo (next n : Nat) (r : Resync) : Resync := { r with sweep0 := { r.sweep0 with next := next }, doneLines := r.doneLines + n }

/-- The resync has come so far. -/
def withResync (r : Resync) (s : State) : State := s.onTwin (fun t => { t with resync := some r })

/-- What RESYNC_SEND of stream 0 does while the package runs and the stream has not ended (R490 to R492). -/
theorem resyncSend_exec {r : Resync} (hruns : s.runs = true) (hst : s.twin.st = .feeding) (hr : s.twin.resync = some r) (hend : r.end0 = none) :
    exec (.resyncSend 0) s = .next (match r.dump.find? (fun x => x.1 == 0) with
      | some x => mirrorState 0 x.2.1 x.2.2.1 x.2.2.2 (withResync { r with dump := r.dump.erase x } s)
      | none => match sweepNext 0 r.sweep0 with
        | none => sendSyncEnd 0 s
        | some l => match readSweep 0 l (min 3 (512 - l % 512)) s with
          | (w, false) => w
          | (w, true) => sendSweep 0 l (min 3 (512 - l % 512)) (w.onTwin (fun t => { t with resync := some (sweptTo (l + min 3 (512 - l % 512)) (min 3 (512 - l % 512)) r) }))) := by
  have hgo : ¬ (0 > 1 ∨ (!s.runs) = true ∨ (if (0 : Nat) = 0 then r.end0 else r.end1).isSome = true) := by
    rw [hruns, if_pos rfl, hend]
    simp
  rw [exec, execResyncSend, if_neg (by rw [not_frozen_of_runs hruns]; exact Bool.false_ne_true), hst, hr]
  dsimp only
  rw [if_neg hgo]
  rfl

theorem mirrors_of_feeding (hst : s.twin.st = .feeding) : s.mirrors = true := by
  rw [State.mirrors, hst]

/-- The twin's state once a packet of stream 0 has been sent. -/
theorem mirrorSend_twin (line : Option (Nat × List Byte × LineMeta)) (mk : Nat → Packet) (s : State) : (mirrorSend 0 line mk s).twin.mseq0 = (s.twin.mseq0 + 1) % 2 ^ 32
    ∧ (mirrorSend 0 line mk s).twin.unacked.length = s.twin.unacked.length + 1 := by
  unfold mirrorSend
  extract_lets n m x t
  have hsent := frame_sendTw (P := [.leaves]) (n := m) (p := mk m) (by decide) (Frame.refl _ t)
  rw [hsent.twin_eq rfl rfl]
  refine ⟨rfl, ?_⟩
  exact List.length_append

theorem mirrorState_sends (type slots : Nat) (body : List Byte) (h : s.mirrors = true) : (mirrorState 0 type slots body s).twin.mseq0 = (s.twin.mseq0 + 1) % 2 ^ 32
    ∧ (mirrorState 0 type slots body s).twin.unacked.length = s.twin.unacked.length + 1 := by
  unfold mirrorState
  rw [if_pos h]
  exact mirrorSend_twin none (mrState s 0 type slots body) s

theorem mirrorState_frame (stream type slots : Nat) (body : List Byte) (s : State) : Frame [.mirror, .leaves, .ctrs] s (mirrorState stream type slots body s) :=
  frame_mirrorState (by decide) (Frame.refl _ s)

theorem resyncSend_record {r : Resync} {x : Nat × Nat × Nat × List Byte} {rest : List (Nat × Nat × Nat × List Byte)} (hruns : s.runs = true)
    (hst : s.twin.st = .feeding) (hr : s.twin.resync = some r) (hend : r.end0 = none) (hdump : r.dump = x :: rest) (hx : x.1 = 0) :
    Does (.resyncSend 0) s (fun t => t.twin.resync = some { r with dump := rest } ∧ t.twin.unacked.length = s.twin.unacked.length + 1
      ∧ t.twin.mseq0 = (s.twin.mseq0 + 1) % 2 ^ 32 ∧ t.mem = s.mem) := by
  have hfind : r.dump.find? (fun x => x.1 == 0) = some x := by rw [hdump]; exact List.find?_cons_of_pos (beq_iff_eq.mpr hx)
  have herase : r.dump.erase x = rest := by rw [hdump]; exact List.erase_cons_head (a := x) (l := rest)
  refine ⟨_, resyncSend_exec hruns hst hr hend, ?_⟩
  rw [hfind]
  dsimp only
  rw [herase]
  have hmirrors : (withResync { r with dump := rest } s).mirrors = true := mirrors_of_feeding hst
  obtain ⟨hseq, hun⟩ := mirrorState_sends x.2.1 x.2.2.1 x.2.2.2 hmirrors
  have hframe := mirrorState_frame 0 x.2.1 x.2.2.1 x.2.2.2 (withResync { r with dump := rest } s)
  exact ⟨(congrArg TwinState.resync (hframe.twin_rest rfl) :), hun, hseq, hframe.mem_eq rfl⟩

theorem sendSweep_frame (die l n : Nat) (s : State) : Frame [.mirror, .leaves, .ctrs] s (sendSweep die l n s) := frame_sendSweep (by decide) (Frame.refl _ s)

theorem sendSweep_counts (die l n : Nat) (s : State) : Counts .twRsLines 0 1 s (sendSweep die l n s) := by
  unfold sendSweep
  extract_lets metas data
  refine (ctr_bumpBy_same ..).trans (congrArg (ctrAdd .twRsLines · 1) ?_)
  exact (frame_mirrorSend (P := [.mirror, .leaves]) (by decide) (Frame.refl _ s)).ctr_eq rfl ..

theorem sendSweep_sends (die l n : Nat) (r : Resync) (w : State) : (sendSweep die l n (withResync r w)).twin.resync = some r
    ∧ Counts .twRsLines 0 1 w (sendSweep die l n (withResync r w)) ∧ (sendSweep die l n (withResync r w)).mem = w.mem := by
  have hframe := sendSweep_frame die l n (withResync r w)
  have hcounts := sendSweep_counts die l n (withResync r w)
  generalize sendSweep die l n (withResync r w) = t at hframe hcounts ⊢
  exact ⟨(congrArg TwinState.resync (hframe.twin_rest rfl) :), hcounts, hframe.mem_eq rfl⟩

theorem resyncSend_sweep {r : Resync} {l : Nat} {w : State} {b : Bool} (hruns : s.runs = true) (hst : s.twin.st = .feeding) (hr : s.twin.resync = some r)
    (hend : r.end0 = none) (hdump : r.dump = []) (hl : sweepNext 0 r.sweep0 = some l) (hread : readSweep 0 l (min 3 (512 - l % 512)) s = (w, b)) :
    exec (.resyncSend 0) s = .next (if b then sendSweep 0 l (min 3 (512 - l % 512)) (withResync
      (sweptTo (l + min 3 (512 - l % 512)) (min 3 (512 - l % 512)) r) w) else w) := by
  refine (resyncSend_exec hruns hst hr hend).trans ?_
  rw [hdump, hl]
  dsimp only [List.find?_nil]
  rw [hread]
  cases b <;> rfl

theorem sendSyncEnd_ends {r : Resync} (hst : s.twin.st = .feeding) (hr : s.twin.resync = some r) :
    (sendSyncEnd 0 s).twin.resync = some { r with end0 := some ((s.twin.mseq0 + 1) % 2 ^ 32) } := by
  unfold sendSyncEnd
  extract_lets t n
  have hseq : t.twin.mseq0 = (s.twin.mseq0 + 1) % 2 ^ 32 := (mirrorState_sends 9 1 (leBytes 14 0) (mirrors_of_feeding hst)).1
  have hresync : t.twin.resync = some r := (congrArg TwinState.resync ((mirrorState_frame 0 9 1 (leBytes 14 0) s).twin_rest rfl) :).trans hr
  have hn : n = (s.twin.mseq0 + 1) % 2 ^ 32 := hseq
  rw [← hn]
  clear_value n
  exact congrArg (Option.map _) hresync

theorem sendSyncEnd_frame (stream : Nat) (s : State) : Frame [.twin, .mirror, .leaves, .ctrs] s (sendSyncEnd stream s) :=
  frame_sendSyncEnd (by decide) (Frame.refl _ s)

end

/-- Settles O39: each lamp input, and each timer of the link, by what the model does where the package runs and the timer's condition holds; what is
sent is carried, and what is not the twin's own state is kept by the frames of what is sent and reported. -/
theorem twinTimers : Obligations.TwinTimers := by
  unfold Obligations.TwinTimers
  intro s hruns
  refine ⟨?frame, ?bad, fun n hn hlit => lampInputDark_dark hn hlit, fun n hn hst hdark hother => lampFault_notifies hruns hn hst hdark hother,
    fun n hst => lampFault_alone n hst, keepaliveSend_solo hruns, keepaliveSend_sends hruns, standbyLoss_syncing hruns, standbyLoss_adrift hruns,
    standbyLoss_released hruns, ownerLoss_alone hruns, mrAckReport_sends hruns,
    fun hst port hport hpresent hactive => announceTimer_announces hruns hst hport hpresent hactive,
    enrolRetry_retries hruns, hbReqTimer_asks hruns, ?record, ?sweep, ?ended⟩
  case frame =>
    intro n frame hn hlt hmark hcrc
    exact ⟨fun hkind => lampFrame_hold hruns hn (goodFrame_of hlt hmark hcrc (.inl hkind)) hkind,
      fun hkind => lampFrame_release hruns hn (goodFrame_of hlt hmark hcrc (.inr hkind)) hkind⟩
  case bad => exact fun n frame hn hmark hlit => lampFrame_bad hruns hn hmark hlit
  case record => exact fun r x rest hst hr hend hdump hx => resyncSend_record hruns hst hr hend hdump hx
  case sweep =>
    intro r l w hst hr hend hdump hl
    refine ⟨fun hread => ⟨_, resyncSend_sweep hruns hst hr hend hdump hl hread, ?_⟩, fun hread => ⟨_, resyncSend_sweep hruns hst hr hend hdump hl hread, rfl⟩⟩
    exact sendSweep_sends ..
  case ended =>
    intro r hst hr hend hdump hnone
    refine ⟨sendSyncEnd 0 s, (resyncSend_exec hruns hst hr hend).trans ?_, sendSyncEnd_ends hst hr, (sendSyncEnd_frame 0 s).mem_eq rfl⟩
    rw [hdump, hnone]
    rfl

end Sys2Proof.Machine
end

section
/-!
PROOF. Fencing by a higher epoch (R148, R488): what a fenced Varisk answers, forgets and undoes.
-/
namespace Sys2Proof.Machine

/-! ### A fenced Varisk sends nothing more of the mirror -/

/-- The Varisk is fenced, and nothing it sent waits to be acknowledged. -/
def State.cutOff (s : State) : Prop := s.twin.st = .fenced ∧ s.twin.unacked = []

section
variable {s t : State}

theorem cutOff_of_twin (h : t.twin = s.twin) (hs : s.cutOff) : t.cutOff := by
  rw [State.cutOff, h]
  exact hs

theorem cutOff_of_frame {P : List Part} (hf : Frame P s t) (htwin : P.contains .twin = false) (hmirror : P.contains .mirror = false) (hs : s.cutOff) : t.cutOff :=
  cutOff_of_twin (hf.twin_eq htwin hmirror) hs

theorem mirrorState_cutOff (stream type slots : Nat) (body : List Byte) (hs : s.cutOff) : (mirrorState stream type slots body s).cutOff := by
  have hmirrors : s.mirrors = false := by rw [State.mirrors, hs.1]
  rw [mirrorState, hmirrors, if_neg Bool.false_ne_true]
  exact hs

theorem ledgerWrite_cutOff (slot tag stream : Nat) (e : LedgerEntry) (hs : s.cutOff) : (ledgerWrite slot tag stream e s).cutOff :=
  mirrorState_cutOff _ _ _ _ hs

theorem ledgerFinal_cutOff (p : Packet) (st : Status) (harg result : Nat) (hs : s.cutOff) : (ledgerFinal p st harg result s).cutOff := by
  unfold ledgerFinal
  split
  · split
    · exact ledgerWrite_cutOff _ _ _ _ hs
    · exact hs
  · exact hs

theorem sendPacket_cutOff (p : Packet) (hs : s.cutOff) : (sendPacket p s).cutOff :=
  cutOff_of_frame (P := [.ledger, .leaves]) (frame_sendPacket (by decide) (Frame.refl _ s)) rfl rfl hs

theorem answerNow_cutOff (p : Packet) (st : Status) (hs : s.cutOff) : (answerNow p st s).cutOff :=
  cutOff_of_frame (finalGen_frame p.src p.tag _) rfl rfl (sendPacket_cutOff _ (ledgerFinal_cutOff p st 0 0 hs))

theorem answerEarly_cutOff (p : Packet) (st : Status) (hs : s.cutOff) : (answerEarly p st s).cutOff :=
  cutOff_of_frame (P := [.txn, .ctrs]) (frame_releaseHalf (by decide) (Frame.refl _ _)) rfl rfl (answerNow_cutOff p st hs)

theorem sendMsg_cutOff (c : Client) (tag : Nat) (b : Bool) (m : KMsg) (hs : s.cutOff) : (sendMsg c tag b m s).cutOff :=
  cutOff_of_frame (P := [.ledger, .leaves, .sessions, .kodp, .ctrs, .out]) (frame_sendMsg (by decide) (Frame.refl _ s)) rfl rfl hs

theorem sendReply_cutOff (r : Req) (crc : Nat) (m : KMsg) (hs : s.cutOff) : (sendReply r crc m s).cutOff := by
  unfold sendReply
  extract_lets u w
  have hu : u.cutOff := by
    simp only [u]
    split
    · unfold onlyIf
      split
      · exact ledgerWrite_cutOff _ _ _ _ hs
      · exact hs
    · exact hs
  exact sendMsg_cutOff _ _ _ _ (cutOff_of_frame (P := [.kodp, .ctrs]) (frame_bump (by decide) (frame_unqueue (by decide)
    (frame_onKodp [.kodp] (by decide) (.inr fun _ => rfl) (.inr fun _ => rfl) (.inl rfl) (Frame.refl _ u)))) rfl rfl hu)

theorem copied_cutOff (c : Bool) (o : OpObj) (arg : List Byte) (f : KodpState → List Running) (hs : s.cutOff) :
    (onlyIf c (mirrorOp o arg) (s.onKodp (fun k => { k with running := f k }))).cutOff := by
  refine cutOff_of_frame (P := [.ledger, .leaves, .sessions, .kodp, .running, .ctrs, .out]) (s := s) ?_ rfl rfl hs
  exact frame_onlyIf (fun v hv => frame_mirrorOp (by decide) hv)
    (frame_onKodp [.running] (by decide) (.inl (by decide)) (.inr fun _ => rfl) (.inr fun _ => rfl) (Frame.refl _ s))

theorem reply_cutOff (o : OpObj) (r : Req) (st : Status) (body : List Byte) (hs : s.cutOff) : (reply o r st body s).cutOff := by
  unfold reply
  dsimp only
  split
  · exact hs
  · split
    · refine cutOff_of_frame (P := [.ledger, .leaves, .sessions, .rings, .kodp, .ctrs, .out]) (frame_notifyTo (by decide) (Frame.refl _ _)) rfl rfl ?_
      exact copied_cutOff _ _ _ _ hs
    · split
      · exact cutOff_of_twin rfl (copied_cutOff _ _ _ _ hs)
      · exact sendReply_cutOff _ _ _ (copied_cutOff _ _ _ _ hs)

theorem fenceChange_cutOff (a : HeldAct) (hs : s.cutOff) : (fenceChange a s).cutOff := by
  cases a with
  | attached slot p => exact answerNow_cutOff _ _ hs
  | detach slot tag =>
    unfold fenceChange
    dsimp only
    split
    · exact sendPacket_cutOff _ hs
    · exact hs
  | generation r ctx gen => exact reply_cutOff _ _ _ _ hs
  | lose | leave | free => exact hs

theorem dropRecipe_cutOff (r : Recipe) (hs : s.cutOff) : (dropRecipe r s).cutOff := by
  unfold dropRecipe
  extract_lets u w
  refine mirrorState_cutOff _ _ _ _ (cutOff_of_frame (P := [.pkg, .recp, .core, .power, .ctrs]) (s := s) ?_ rfl rfl hs)
  exact frame_onRecp (by decide) (frame_endRecipeGrants (by decide) (frame_dropTiles (by decide) (Frame.refl _ s)))

theorem stopDeep_cutOff (hs : s.cutOff) : (stopDeep s).cutOff := by
  unfold stopDeep
  extract_lets u
  have hu : u.cutOff := by
    simp only [u]
    split
    · exact reply_cutOff _ _ _ _ hs
    · exact hs
  exact cutOff_of_frame (P := [.txn, .deep]) (frame_onDeep (by decide) (frame_dropPool (by decide) (Frame.refl _ u))) rfl rfl hu

theorem releasePeerWaits_cutOff (hs : s.cutOff) : (releasePeerWaits s).cutOff := by
  unfold releasePeerWaits
  exact forAll_holds (P := State.cutOff) (fun w _ ht => sendReply_cutOff w.2.1 w.2.2.1 w.2.2.2 ht) s.kodp.peerWait (cutOff_of_twin (s := s) rfl hs)

end

/-! ### The fence in its parts -/

/-- The twin's own state of a Varisk that is fenced (R488). -/
def fencedTwin (e : Nat) (s : State) : State :=
  s.onTwin (fun t => { t with st := .fenced, epoch := e, lampOut := .dark, unacked := [], resync := none, diverging := false, divergence := []
                              handback := false, quiescing := false, paused := false, released := false, force := none, handoverAsk := false
                              releaseCode := none, repairWaits := [], basis := 0 })

/-- Everything accepted and not committed is answered FENCED (R488). -/
def answeredFenced (s : State) : State :=
  let s := forAll s.txn.reqs (fun q s => dropRequest q.src q.tag (sendFinal q (statusPacket q.pkt .fenced 0) s)) s
  let s := forAll s.traffic.holds (fun h s => forAll h.2 (fun x s => answerEarly x.pkt .fenced s) s) s
  let s := forAll s.part.slots (fun e s => forAll e.2.detachTags (fun tag s => sendCmp e.2.eid tag .fenced 0 s) s) s
  forAll s.part.heldChanges (fun h s => fenceChange h.act s) s

/-- The recipes end FENCED, and nothing more waits to change slots or to leave to a sled (R488). -/
def recipesFenced (s : State) : State :=
  let s := s.onPart (fun p => { p with heldChanges := [], ownWrites := [], slots := p.slots.map (fun e => (e.1, { e.2 with detachTags := [] })) })
  let s := s.onTraffic (fun t => { t with holds := [], leaves := t.leaves.filter (fun l => !isDeepPort l.1.port) })
  forAll s.recp.recipes (fun r s => sendPacket (recipePacket r.ctx (mkPacket 5 0x52 r.src r.pkt.dest r.tag Status.fenced.code 0 false doneReset) s)
    (dropRecipe r s)) s

/-- The halves, the pool's requests to the mirror and all of the deep tier are dropped (R310, R488). -/
def poolsDropped (s : State) : State := stopDeep (dropPool (fun i _ _ => i == .mirror) (s.onTxn (fun t => { t with halves := [] })))

/-- The fence is reported (R488). -/
def fenceReported (e : Nat) (s : State) : State := notify 0x1B04 (leBytes 4 e) (bump .twFences 0 (releasePeerWaits (abortDumps (fun _ => true) false s)))

theorem fenceTo_eq (e : Nat) (s : State) : fenceTo e s
    = fenceReported e (poolsDropped (recipesFenced (answeredFenced (fencedTwin e (forAll s.twin.unacked.reverse undoSent s))))) := rfl

section
variable {P : List Part} (s : State)

theorem answeredFenced_frame : Frame [.txn, .ledger, .dir, .mirror, .leaves, .sec, .sessions, .rings, .kodp, .running, .ctrs, .out] s (answeredFenced s) := by
  unfold answeredFenced
  refine frame_forAll (fun h w hw => frame_fenceChange (by decide) hw) ?_
  refine frame_forAll (fun e w hw => frame_forAll (fun tag v hv => frame_sendCmp (by decide) hv) hw) ?_
  refine frame_forAll (fun h w hw => frame_forAll (fun x v hv => frame_answerEarly (by decide) hv) hw) ?_
  exact frame_forAll (fun q w hw => frame_dropRequest (by decide) (frame_sendFinal (by decide) hw)) (Frame.refl _ s)

theorem recipesFenced_frame : Frame [.pkg, .ledger, .part, .recp, .core, .mirror, .traffic, .leaves, .power, .ctrs] s (recipesFenced s) :=
  frame_forAll (fun r w hw => frame_sendPacket (by decide) (frame_dropRecipe (by decide) hw))
    (frame_onTraffic [.traffic, .leaves] (by decide) (.inl rfl) (.inl rfl) (frame_onPart (by decide) (Frame.refl _ s)))

theorem poolsDropped_frame : Frame [.txn, .ledger, .deep, .mirror, .leaves, .sessions, .rings, .kodp, .running, .ctrs, .out] s (poolsDropped s) :=
  frame_stopDeep (by decide) (frame_dropPool (by decide) (frame_onTxn [.txn] (by decide) (.inr fun _ => rfl) (.inl rfl) (Frame.refl _ s)))

theorem fenceReported_frame (e : Nat) : Frame [.ledger, .mirror, .leaves, .sessions, .obs, .rings, .kodp, .ctrs, .out] s (fenceReported e s) :=
  frame_notify (by decide) (frame_bump (by decide) (frame_releasePeerWaits (by decide) (frame_abortDumps (by decide) (Frame.refl _ s))))

variable {s}

theorem answeredFenced_cutOff (hs : s.cutOff) : (answeredFenced s).cutOff := by
  unfold answeredFenced
  refine forAll_holds (fun h w hw => fenceChange_cutOff _ hw) _ ?_
  refine forAll_holds (fun e w hw => forAll_holds (fun tag v hv => sendPacket_cutOff _ hv) _ hw) _ ?_
  refine forAll_holds (fun h w hw => forAll_holds (fun x v hv => answerEarly_cutOff _ _ hv) _ hw) _ ?_
  refine forAll_holds (fun q w hw => ?_) _ hs
  exact cutOff_of_frame (P := [.txn, .ledger, .dir, .leaves, .sec, .ctrs])
    (frame_dropRequest (by decide) (frame_sendFinal (by decide) (Frame.refl _ w))) rfl rfl hw

theorem recipesFenced_cutOff (hs : s.cutOff) : (recipesFenced s).cutOff :=
  forAll_holds (fun r _ hw => sendPacket_cutOff _ (dropRecipe_cutOff r hw)) _ (cutOff_of_twin rfl hs)

theorem poolsDropped_cutOff (hs : s.cutOff) : (poolsDropped s).cutOff := stopDeep_cutOff (cutOff_of_twin rfl hs)

theorem fenceReported_cutOff (e : Nat) (hs : s.cutOff) : (fenceReported e s).cutOff := by
  have haborted : (abortDumps (fun _ => true) false s).cutOff :=
    cutOff_of_frame (P := [.ledger, .leaves, .sessions, .obs, .rings, .kodp, .ctrs, .out]) (frame_abortDumps (by decide) (Frame.refl _ s)) rfl rfl hs
  exact cutOff_of_frame (P := [.ledger, .leaves, .sessions, .rings, .kodp, .ctrs, .out])
    (frame_notify (by decide) (frame_bump (by decide) (Frame.refl _ _))) rfl rfl (releasePeerWaits_cutOff haborted)

variable (s)

/-- The bulk move that is answered leaves the rest of the transactions. -/
theorem stopDeep_halves : (stopDeep s).txn.halves = s.txn.halves := by
  unfold stopDeep
  extract_lets u
  have hu : u.txn.rest = s.txn.rest := by
    simp only [u]
    split
    · exact (frame_reply (P := [.ledger, .mirror, .leaves, .sessions, .rings, .kodp, .running, .ctrs, .out]) (by decide) (Frame.refl _ s)).txn_rest rfl
    · rfl
  exact (congrArg TxnState.halves hu :)

theorem poolsDropped_empty : (poolsDropped s).txn.halves = [] ∧ (poolsDropped s).deep.fills = [] := ⟨(stopDeep_halves _).trans rfl, rfl⟩

/-- What is left once the writes that the standby did not acknowledge have been undone (R488). -/
theorem fenceTo_fences (e : Nat) : (fenceTo e s).twin.st = .fenced ∧ (fenceTo e s).twin.epoch = e ∧ (fenceTo e s).twin.lampOut = .dark
    ∧ (fenceTo e s).txn.halves = [] ∧ (fenceTo e s).deep.fills = [] ∧ (fenceTo e s).twin.unacked = []
    ∧ (fenceTo e s).mem = (forAll s.twin.unacked.reverse undoSent s).mem := by
  rw [fenceTo_eq]
  generalize forAll s.twin.unacked.reverse undoSent s = w
  have hcut : (fencedTwin e w).cutOff := ⟨rfl, rfl⟩
  have hepoch : (fencedTwin e w).twin.epoch = e := rfl
  have hlamp : (fencedTwin e w).twin.lampOut = .dark := rfl
  have hmem : (fencedTwin e w).mem = w.mem := rfl
  generalize fencedTwin e w = v at hcut hepoch hlamp hmem ⊢
  have hframe := answeredFenced_frame v
  have hanswered := answeredFenced_cutOff hcut
  generalize answeredFenced v = a at hframe hanswered ⊢
  have hrecipes := recipesFenced_frame a
  have hended := recipesFenced_cutOff hanswered
  generalize recipesFenced a = r at hrecipes hended ⊢
  have hpools := poolsDropped_frame r
  have hdropped := poolsDropped_cutOff hended
  obtain ⟨hhalves, hfills⟩ := poolsDropped_empty r
  generalize poolsDropped r = p at hpools hdropped hhalves hfills ⊢
  have hreport := fenceReported_frame p e
  have hcuts := fenceReported_cutOff e hdropped
  generalize fenceReported e p = t at hreport hcuts ⊢
  have htwin := (hreport.twin_rest rfl).trans ((hpools.twin_rest rfl).trans ((hrecipes.twin_rest rfl).trans (hframe.twin_rest rfl)))
  have hmems := (hreport.mem_eq rfl).trans ((hpools.mem_eq rfl).trans ((hrecipes.mem_eq rfl).trans (hframe.mem_eq rfl)))
  exact ⟨hcuts.1, (congrArg TwinState.epoch htwin :).trans hepoch, (congrArg TwinState.lampOut htwin :).trans hlamp,
    (congrArg TxnState.halves (hreport.txn_rest rfl) :).trans hhalves, (congrArg DeepState.fills (hreport.deep_eq rfl)).trans hfills, hcuts.2, hmems.trans hmem⟩

end

end Sys2Proof.Machine
end

section
/-!
PROOF. ANNOUNCE and TW_HELLO: fencing, handing over, enrolment, following (R148, R464, R468, R488).
-/
namespace Sys2Proof.Machine

section
variable {s : State} {port : Nat} {p : Packet}

/-! ### ANNOUNCE -/

/-- A port takes an ANNOUNCE: a sound packet to the broadcast EID, that is not the service EID (R148). -/
structure TakesAnnounce (s : State) (port : Nat) (p : Packet) : Prop where
  up : s.portUp port = true
  fabric : isFabric port = true
  node : s.obj .nodeEid ≠ 0
  service : s.obj .serviceEid ≠ 0
  other : s.obj .serviceEid ≠ 0x3FFFF
  source : p.src ≠ 0
  below : p.src < 0x3FF00
  wide : s.compact port = false
  dest : p.dest = 0x3FFFF
  op : p.op = 0x08
  sound : p.crcGood = true
  shaped : p.malformed = false

theorem arriveFabric_of_announce (h : TakesAnnounce s port p) (go : Packet → State → State) : arriveFabric port p go s = go p s := by
  unfold arriveFabric
  rw [h.up, h.fabric, if_neg (by decide)]
  dsimp only
  have hnamed : ¬(s.obj .nodeEid = 0 ∨ s.obj .serviceEid = 0 ∨ p.src = 0 ∨ p.src ≥ 0x3FF00) := by
    rintro (h' | h' | h' | h')
    · exact h.node h'
    · exact h.service h'
    · exact h.source h'
    · exact absurd h.below (Nat.not_lt.mpr h')
  have hother : (p.dest == s.obj .serviceEid) = false := beq_eq_false_iff_ne.mpr fun h' => h.other (h'.symm.trans h.dest)
  have hannounce : (p.dest == 0x3FFFF && p.op == 0x08) = true := by rw [h.dest, h.op]; rfl
  rw [if_neg hnamed, h.wide, if_neg (by simp), hannounce, Bool.or_true, if_neg (by decide), h.sound, if_neg (by decide), h.shaped,
    if_neg Bool.false_ne_true, hother, if_neg (by simp)]

/-- The epoch that an ANNOUNCE names. -/
def announceEpoch (p : Packet) : Nat := leNat ((p.body.drop 8).take 4)

/-- The service EID that an ANNOUNCE names. -/
def announceService (p : Packet) : Nat := leNat (p.body.take 4) % 2 ^ 18

theorem announce_exec (h : TakesAnnounce s port p) : exec (.announce port p) s = .next (if announceService p = s.obj .serviceEid ∧ announceEpoch p > s.twin.epoch
    then epochKeys (announceEpoch p) (higherEpoch (announceEpoch p) s) else bump .announcesIgnored port s) := by
  rw [exec, execAnnounce, if_neg (by rw [h.op]; decide), arriveFabric_of_announce h]
  rfl

theorem announce_ignored (h : TakesAnnounce s port p) (hlow : announceService p ≠ s.obj .serviceEid ∨ announceEpoch p ≤ s.twin.epoch) :
    Does (.announce port p) s (fun t => Counts .announcesIgnored port 1 s t ∧ Frame [.ctrs] s t) := by
  refine ⟨_, (announce_exec h).trans (congrArg Host.Outcome.next (if_neg ?_)), ctr_bumpBy_same .., frame_bump (by decide) (Frame.refl _ s)⟩
  rintro ⟨hservice, hepoch⟩
  rcases hlow with hlow | hlow
  · exact hlow hservice
  · exact absurd hepoch (Nat.not_lt.mpr hlow)

theorem announce_heeded (h : TakesAnnounce s port p) (hservice : announceService p = s.obj .serviceEid) (hepoch : s.twin.epoch < announceEpoch p) :
    exec (.announce port p) s = .next (epochKeys (announceEpoch p) (higherEpoch (announceEpoch p) s)) :=
  (announce_exec h).trans (congrArg Host.Outcome.next (if_pos ⟨hservice, hepoch⟩))

theorem higherEpoch_fences (e : Nat) (hst : s.twin.st = .alone ∨ s.twin.st = .active) : higherEpoch e s = fenceTo e s := by
  unfold higherEpoch
  rcases hst with hst | hst <;> rw [hst]

theorem announce_fences (h : TakesAnnounce s port p) (hservice : announceService p = s.obj .serviceEid) (hepoch : s.twin.epoch < announceEpoch p)
    (hst : s.twin.st = .alone) : Does (.announce port p) s (fun t => t.twin.st = .fenced ∧ t.twin.epoch = announceEpoch p ∧ t.twin.lampOut = .dark
      ∧ t.txn.halves = [] ∧ t.deep.fills = [] ∧ t.twin.unacked = [] ∧ (s.twin.unacked = [] → t.mem = s.mem)) := by
  refine ⟨_, announce_heeded h hservice hepoch, ?_⟩
  rw [higherEpoch_fences _ (.inl hst)]
  obtain ⟨hfenced, he, hlamp, hhalves, hfills, hun, hmem⟩ := fenceTo_fences s (announceEpoch p)
  generalize fenceTo (announceEpoch p) s = w at hfenced he hlamp hhalves hfills hun hmem ⊢
  refine ⟨hfenced, he, hlamp, hhalves, hfills, hun, fun hnone => hmem.trans ?_⟩
  rw [hnone]
  rfl

/-- A write that is undone leaves at its line what the line held, and the other lines as they are. -/
theorem readByte_undoSent {u : Sent} {l : Nat} {bytes : List Byte} {m : LineMeta} (hl : u.line = some l) (hundo : u.undo = some (bytes, m))
    (hlength : bytes.length = 128) (hwf : s.MemWf) (b : Nat) :
    (undoSent u s).readByte b = if b / 128 = l then bytes.getD (b % 128) 0 else s.readByte b := by
  have heq : undoSent u s = setMeta l (fun _ => m) (putBytes (l * 128) bytes s) := by rw [undoSent, hl, hundo]
  rw [heq]
  refine (readByte_putBytes hwf (l * 128) bytes b).trans ?_
  rw [hlength]
  by_cases hb : b / 128 = l
  · rw [if_pos hb, if_pos (by omega), show b - l * 128 = b % 128 by omega]
  · rw [if_neg hb, if_neg (by omega)]

theorem announce_undoes {u : Sent} {l : Nat} {bytes : List Byte} {m : LineMeta} (h : TakesAnnounce s port p) (hservice : announceService p = s.obj .serviceEid)
    (hepoch : s.twin.epoch < announceEpoch p) (hst : s.twin.st = .active) (hun : s.twin.unacked = [u]) (hl : u.line = some l)
    (hundo : u.undo = some (bytes, m)) (hlength : bytes.length = 128) (hwf : s.MemWf) : Does (.announce port p) s (fun t =>
      t.twin.st = .fenced ∧ t.twin.unacked = [] ∧ ∀ b, t.readByte b = (if b / 128 = l then bytes.getD (b % 128) 0 else s.readByte b)) := by
  refine ⟨_, announce_heeded h hservice hepoch, ?_⟩
  rw [higherEpoch_fences _ (.inr hst)]
  obtain ⟨hfenced, -, -, -, -, hnone, hmem⟩ := fenceTo_fences s (announceEpoch p)
  generalize fenceTo (announceEpoch p) s = w at hfenced hnone hmem ⊢
  refine ⟨hfenced, hnone, fun b => Eq.trans ?_ (readByte_undoSent hl hundo hlength hwf b)⟩
  rw [hun] at hmem
  show cellGet w.mem.cells b = cellGet (undoSent u s).mem.cells b
  rw [hmem]
  rfl

theorem handedOver_adrift (e : Nat) (s : State) : (handedOver e s).twin.st = .adrift ∧ (handedOver e s).twin.epoch = e ∧ (handedOver e s).twin.lampOut = .dark
    ∧ (handedOver e s).mem = s.mem := by
  obtain ⟨hst, he, hlamp, -⟩ := leaveReleasing_twin s e
  have hmem := leaveReleasing_mem s e
  unfold handedOver
  generalize leaveReleasing e s = w at hst he hlamp hmem ⊢
  have hframe := frame_sendHello (P := [.ledger, .leaves, .sessions, .rings, .kodp, .ctrs, .out, .free]) (by decide)
    (frame_notify (code := 0x1B0C) (payload := leBytes 4 e) (by decide) (frame_bump (c := .twHandbacks) (u := 0) (by decide) (Frame.refl _ w)))
  have hrest := hframe.twin_rest rfl
  exact ⟨(congrArg TwinState.st hrest :).trans hst, (congrArg TwinState.epoch hrest :).trans he, (congrArg TwinState.lampOut hrest :).trans hlamp,
    (hframe.mem_eq rfl).trans hmem⟩

theorem announce_handsOver (h : TakesAnnounce s port p) (hservice : announceService p = s.obj .serviceEid) (hepoch : announceEpoch p = s.twin.epoch + 1)
    (hst : s.twin.st = .releasing) : Does (.announce port p) s (fun t => t.twin.st = .adrift ∧ t.twin.epoch = s.twin.epoch + 1 ∧ t.twin.lampOut = .dark
      ∧ t.mem = s.mem) := by
  have hlt : s.twin.epoch < announceEpoch p := by rw [hepoch]; exact Nat.lt_succ_self _
  refine ⟨_, announce_heeded h hservice hlt, ?_⟩
  have hover : higherEpoch (announceEpoch p) s = handedOver (s.twin.epoch + 1) s := by
    unfold higherEpoch
    rw [hst, hepoch]
    exact if_pos rfl
  rw [hover]
  exact handedOver_adrift (s.twin.epoch + 1) s

/-! ### TW_HELLO -/

/-- A TW_HELLO that its port takes is acted on by R468. -/
theorem twHello_exec (hport : isTwinPort port = true) (hup : s.portUp port = true) (hdest : p.dest = s.obj .nodeEid) (hcrc : p.crcGood = true)
    (hshape : p.linkMalformed port = false) (hop : p.op = 0xA0) (hst : s.twin.st ≠ .solo) : exec (.twHello port p) s = .next (takeHello p s) := by
  rw [exec, execTwHello, arriveTwin, if_neg (by rw [hop, hport]; decide)]
  unfold arriveLink
  dsimp only
  rw [hup, if_neg (by decide), if_neg (not_not.mpr hdest), hcrc, if_neg (by decide), hshape, if_neg Bool.false_ne_true, if_neg hst,
    if_neg (by rintro ⟨h, -⟩; exact h rfl)]

theorem sendHelloAs_frame (st : Status) (s : State) : Frame [.leaves, .free] s (sendHelloAs st s) := frame_sendHelloAs (by decide) (Frame.refl _ s)

/-- The answer to a HELLO that is refused leaves the twin's state and memory. -/
theorem refusalSent_frame (c : Bool) (st : Status) (s : State) : Frame [.leaves, .free] s (onlyIf c (sendHelloAs st) s) :=
  frame_onlyIf (fun _ hw => frame_sendHelloAs (by decide) hw) (Frame.refl _ s)

theorem refuseHello_enrolling (h : Peer) (reason : Nat) (hst : s.twin.st = .enrolling) (hfirst : s.twin.refused = 0) :
    (refuseHello p h reason s).twin.st = .enrolling ∧ (refuseHello p h reason s).twin.refused = reason ∧ (refuseHello p h reason s).mem = s.mem := by
  have hframe := refusalSent_frame (s.twin.st != .solo && p.status != Status.refusedState.code) .refusedState s
  unfold refuseHello
  generalize onlyIf _ (sendHelloAs .refusedState) s = w at hframe ⊢
  have hst' : w.twin.st = .enrolling := (congrArg TwinState.st (hframe.twin_rest rfl) :).trans hst
  have hfirst' : w.twin.refused = 0 := (congrArg TwinState.refused (hframe.twin_rest rfl) :).trans hfirst
  rw [if_neg (not_not.mpr hst'), if_neg (not_not.mpr hfirst')]
  have hrest := notify_twin_rest 0x1B02 (leBytes 4 h.node ++ leBytes 1 reason) (w.onTwin (fun t => { t with refused := reason }))
  exact ⟨(congrArg TwinState.st hrest :).trans hst', (congrArg TwinState.refused hrest :), (notify_mem ..).trans (hframe.mem_eq rfl)⟩

theorem refuseHello_ignored (h : Peer) (reason : Nat) (hst : s.twin.st = .standby) :
    (refuseHello p h reason s).twin.st = .standby ∧ (refuseHello p h reason s).mem = s.mem := by
  have hframe := refusalSent_frame (s.twin.st != .solo && p.status != Status.refusedState.code) .refusedState s
  unfold refuseHello
  generalize onlyIf _ (sendHelloAs .refusedState) s = w at hframe ⊢
  have hst' : w.twin.st = .standby := (congrArg TwinState.st (hframe.twin_rest rfl) :).trans hst
  rw [if_pos (by rw [hst']; decide)]
  exact ⟨hst', hframe.mem_eq rfl⟩

/-- A HELLO that the checks of R468 let pass. -/
structure HelloFits (s : State) (h : Peer) : Prop where
  code : h.code = Config.orderingCodeU8
  service : h.service = s.obj .serviceEid
  units : h.units = s.obj .deepCacheUnits

theorem takeHello_unproven (hfits : HelloFits s (helloPeer p)) (hchain : Config.peerChainGood (helloPeer p).node = false) :
    takeHello p s = refuseHello p (helloPeer p) 4 s := by
  unfold takeHello
  dsimp only
  rw [if_neg (not_not.mpr hfits.code), if_neg (not_not.mpr hfits.service), if_neg (not_not.mpr hfits.units), hchain]
  rfl

theorem takeHello_code (hcode : (helloPeer p).code ≠ Config.orderingCodeU8) : takeHello p s = refuseHello p (helloPeer p) 1 s := by
  unfold takeHello
  dsimp only
  rw [if_pos hcode]

theorem takeHello_enrolling (hfits : HelloFits s (helloPeer p)) (hchain : Config.peerChainGood (helloPeer p).node = true) (hst : s.twin.st = .enrolling)
    (hfirst : s.twin.refused = 0) (hpeer : (helloPeer p).state = 1) : takeHello p s = agreeEnrolling (helloPeer p) s := by
  unfold takeHello
  dsimp only
  rw [if_neg (not_not.mpr hfits.code), if_neg (not_not.mpr hfits.service), if_neg (not_not.mpr hfits.units), hchain, hst, hfirst, hpeer]
  rfl

theorem takeHello_standby (hfits : HelloFits s (helloPeer p)) (hchain : Config.peerChainGood (helloPeer p).node = true) (hst : s.twin.st = .standby)
    (hknown : s.twin.peerEid = (helloPeer p).node) (hpeer : (helloPeer p).state = 6) :
    takeHello p s = notify 0x1B06 [] (s.onTwin (fun t => { t with st := .adrift, releaseCode := none })) := by
  unfold takeHello
  dsimp only
  rw [if_neg (not_not.mpr hfits.code), if_neg (not_not.mpr hfits.service), if_neg (not_not.mpr hfits.units), hchain, hst, hpeer, hknown]
  simp only [beq_self_eq_true]
  rfl

/-! ### Enrolment -/

theorem enrolled_twin (h : Peer) (role : Nat) (s : State) :
    (enrolled h role s).twin.rest = { s.twin.rest with peer := some h, peerEid := h.node, refused := 0, refused5 := false } :=
  (notify_twin_rest ..).trans rfl

theorem enrolled_frame (h : Peer) (role : Nat) (s : State) : Frame [.ledger, .twin, .leaves, .sessions, .rings, .kodp, .ctrs, .out] s (enrolled h role s) :=
  frame_enrolled (by decide) (Frame.refl _ s)

/-- The copy of a Varisk that becomes a standby is replaced (R464, R490), but for the deep tier, which stops last. -/
theorem startSyncing_state (peer : Peer) (s : State) : (startSyncing peer s).twin.st = .syncing ∧ (startSyncing peer s).twin.epoch = peer.epoch
    ∧ (startSyncing peer s).dir.entries = [] ∧ (startSyncing peer s).recp.recipes = [] ∧ (startSyncing peer s).mem = s.mem := by
  unfold startSyncing
  dsimp only
  generalize hw : State.onTxn _ _ = w
  have hframe := frame_stopDeep (P := [.txn, .ledger, .deep, .mirror, .leaves, .sessions, .rings, .kodp, .running, .ctrs, .out]) (by decide) (Frame.refl _ w)
  have hst : w.twin.st = .syncing := by rw [← hw]; rfl
  have hepoch : w.twin.epoch = peer.epoch := by rw [← hw]; rfl
  have hdir : w.dir.entries = [] := by rw [← hw]; rfl
  have hrecp : w.recp.recipes = [] := by rw [← hw]; rfl
  have hmem : w.mem = s.mem := by rw [← hw]; rfl
  clear hw
  have hrest := hframe.twin_rest rfl
  exact ⟨(congrArg TwinState.st hrest :).trans hst, (congrArg TwinState.epoch hrest :).trans hepoch, (congrArg DirState.entries (hframe.dir_eq rfl)).trans hdir,
    (congrArg RecipeState.recipes (hframe.recp_eq rfl)).trans hrecp, (hframe.mem_eq rfl).trans hmem⟩

theorem becomeStandby_state (h : Peer) (s : State) : (becomeStandby h s).mem = s.mem ∧ (becomeStandby h s).twin.st = .syncing
    ∧ (becomeStandby h s).twin.peerEid = h.node ∧ (becomeStandby h s).twin.epoch = h.epoch ∧ (becomeStandby h s).dir.entries = []
    ∧ (becomeStandby h s).recp.recipes = [] := by
  obtain ⟨hst, hepoch, hentries, hrecipes, hmem⟩ := startSyncing_state h s
  unfold becomeStandby
  generalize startSyncing h s = w at hst hepoch hentries hrecipes hmem ⊢
  have hrest := enrolled_twin h 0 w
  have hframe := enrolled_frame h 0 w
  generalize enrolled h 0 w = t at hrest hframe ⊢
  exact ⟨(hframe.mem_eq rfl).trans hmem, (congrArg TwinState.st hrest :).trans hst, (congrArg TwinState.peerEid hrest :),
    (congrArg TwinState.epoch hrest :).trans hepoch, (congrArg DirState.entries (hframe.dir_eq rfl)).trans hentries,
    (congrArg RecipeState.recipes (hframe.recp_eq rfl)).trans hrecipes⟩

/-- What an owner starts to build a standby leaves (R464, R490). -/
theorem startFeeding_state (peer : Peer) (s : State) : (startFeeding peer s).twin.st = .feeding ∧ (startFeeding peer s).twin.peerEid = s.twin.peerEid
    ∧ (startFeeding peer s).twin.epoch = s.twin.epoch ∧ (startFeeding peer s).twin.lampOut = s.twin.lampOut
    ∧ (startFeeding peer s).twin.resync.isSome = true ∧ (startFeeding peer s).mem = s.mem := by
  unfold startFeeding
  extract_lets delta only t r
  generalize hw : t.onTwin _ = w
  have hframe := frame_copyObjects (P := [.ledger, .leaves, .sessions, .kodp, .ctrs, .out]) (by decide) (frame_copyKeys (by decide) (Frame.refl _ w))
  have hst : w.twin.st = .feeding := by rw [← hw]; rfl
  have hpeer : w.twin.peerEid = s.twin.peerEid := by rw [← hw]; rfl
  have hepoch : w.twin.epoch = s.twin.epoch := by rw [← hw]; rfl
  have hlamp : w.twin.lampOut = s.twin.lampOut := by rw [← hw]; rfl
  have hresync : w.twin.resync.isSome = true := by rw [← hw]; rfl
  have hmem : w.mem = s.mem := by rw [← hw]; rfl
  clear hw
  generalize copyObjects (copyKeys w) = v at hframe ⊢
  have hrest := hframe.twin_rest rfl
  exact ⟨(congrArg TwinState.st hrest :).trans hst, (congrArg TwinState.peerEid hrest :).trans hpeer, (congrArg TwinState.epoch hrest :).trans hepoch,
    (congrArg TwinState.lampOut hrest :).trans hlamp, (congrArg (fun t : TwinState => t.resync.isSome) hrest :).trans hresync, (hframe.mem_eq rfl).trans hmem⟩

/-- The epoch two Varisks in Enrolling agree on (R468). -/
def agreedEpoch (h : Peer) (s : State) : Nat := max s.twin.epoch h.epoch + 1

theorem agreeEnrolling_standby {h : Peer} (hmine : s.obj .homePreference = 0) (hpref : h.pref = true) (hepoch : agreedEpoch h s ≤ 0xFFFFFFFF) :
    agreeEnrolling h s = becomeStandby { h with epoch := agreedEpoch h s } (useEpoch (agreedEpoch h s) s) := by
  unfold agreeEnrolling
  dsimp only
  rw [if_neg (Nat.not_lt.mpr hepoch : ¬ max s.twin.epoch h.epoch + 1 > 0xFFFFFFFF), hmine, hpref]
  rfl

/-- The owner of a new pair, before it builds its standby: the epoch is used and a new INCARNATION drawn (R468, R483). -/
def newOwner (h : Peer) (s : State) : State :=
  enrolled h 1 (becomeOwner (useFree (useEpoch (agreedEpoch h s) (s.onTwin (fun t =>
    { t with incarnation := Config.freeNat s.free % 2 ^ 64, peerEid := h.node })))))

theorem agreeEnrolling_owner {h : Peer} (hmine : s.obj .homePreference = 1) (hpref : h.pref = false) (hepoch : agreedEpoch h s ≤ 0xFFFFFFFF) :
    agreeEnrolling h s = sendHello (startFeeding h (newOwner h s)) := by
  unfold agreeEnrolling
  dsimp only
  rw [if_neg (Nat.not_lt.mpr hepoch : ¬ max s.twin.epoch h.epoch + 1 > 0xFFFFFFFF), hmine, hpref]
  have hown : (if ((1 == 1) == false) = true then decide (s.obj .nodeEid < h.node) else (1 == 1)) = true := rfl
  rw [if_pos hown]
  simp only [newOwner, agreedEpoch]

theorem newOwner_state (h : Peer) (s : State) : (newOwner h s).twin.peerEid = h.node ∧ (newOwner h s).twin.epoch = agreedEpoch h s
    ∧ (newOwner h s).twin.lampOut = .hold ∧ (newOwner h s).mem = s.mem := by
  unfold newOwner
  generalize hv : useFree _ = v
  have hepoch : v.twin.epoch = agreedEpoch h s := by rw [← hv]; rfl
  have hmem : v.mem = s.mem := by rw [← hv]; rfl
  clear hv
  obtain ⟨a, q, howner⟩ := becomeOwner_twin v
  have hframe := frame_becomeOwner (P := [.txn, .ledger, .deep, .twin, .leaves]) (by decide) (Frame.refl _ v)
  generalize becomeOwner v = w at howner hframe ⊢
  have hrest := enrolled_twin h 1 w
  have henrolled := enrolled_frame h 1 w
  generalize enrolled h 1 w = t at hrest henrolled ⊢
  exact ⟨(congrArg TwinState.peerEid hrest :), (congrArg TwinState.epoch hrest :).trans ((congrArg TwinState.epoch howner :).trans hepoch),
    (congrArg TwinState.lampOut hrest :).trans (congrArg TwinState.lampOut howner :), (henrolled.mem_eq rfl).trans ((hframe.mem_eq rfl).trans hmem)⟩

theorem agreedOwner_state (h : Peer) (s : State) : (fun t : State => t.mem = s.mem ∧ t.twin.st = .feeding ∧ t.twin.peerEid = h.node
    ∧ t.twin.epoch = agreedEpoch h s ∧ t.twin.lampOut = .hold ∧ t.twin.resync.isSome = true) (sendHello (startFeeding h (newOwner h s))) := by
  obtain ⟨hpeer, hepoch, hlamp, hmem⟩ := newOwner_state h s
  obtain ⟨hst, hpeer', hepoch', hlamp', hresync, hmem'⟩ := startFeeding_state h (newOwner h s)
  generalize startFeeding h (newOwner h s) = w at hst hpeer' hepoch' hlamp' hresync hmem' ⊢
  have hframe := sendHelloAs_frame .ok w
  have hrest := hframe.twin_rest rfl
  exact ⟨(hframe.mem_eq rfl).trans (hmem'.trans hmem), (congrArg TwinState.st hrest :).trans hst, (congrArg TwinState.peerEid hrest :).trans (hpeer'.trans hpeer),
    (congrArg TwinState.epoch hrest :).trans (hepoch'.trans hepoch), (congrArg TwinState.lampOut hrest :).trans (hlamp'.trans hlamp),
    (congrArg (fun t : TwinState => t.resync.isSome) hrest :).trans hresync⟩

/-- A HELLO of a peer whose certificate chain is not good is refused with reason 4 (R468). -/
theorem twHello_unproven {port : Nat} (hexec : exec (.twHello port p) s = .next (takeHello p s)) (hfits : HelloFits s (helloPeer p))
    (hchain : Config.peerChainGood (helloPeer p).node = false) : exec (.twHello port p) s = .next (refuseHello p (helloPeer p) 4 s) :=
  hexec.trans (congrArg Host.Outcome.next (takeHello_unproven hfits hchain))

theorem useEpoch_mem (e : Nat) (s : State) : (useEpoch e s).mem = s.mem := rfl

theorem takeHello_follows (hfits : HelloFits s (helloPeer p)) (hst : s.twin.st = .enrolling) (hfirst : s.twin.refused = 0) (hpeer : (helloPeer p).state = 1)
    (hmine : s.obj .homePreference = 0) (hpref : (helloPeer p).pref = true) (hepoch : agreedEpoch (helloPeer p) s ≤ 0xFFFFFFFF) :
    (takeHello p s).mem = s.mem ∧ (Config.peerChainGood (helloPeer p).node = true → (takeHello p s).twin.st = .syncing
        ∧ (takeHello p s).twin.peerEid = (helloPeer p).node ∧ (takeHello p s).twin.epoch = agreedEpoch (helloPeer p) s ∧ (takeHello p s).dir.entries = []
        ∧ (takeHello p s).recp.recipes = [])
      ∧ (Config.peerChainGood (helloPeer p).node = false → (takeHello p s).twin.st = .enrolling ∧ (takeHello p s).twin.refused = 4) := by
  cases hchain : Config.peerChainGood (helloPeer p).node with
  | false =>
    obtain ⟨hstays, hreason, hmem⟩ := refuseHello_enrolling (p := p) (helloPeer p) 4 hst hfirst
    rw [takeHello_unproven hfits hchain]
    exact ⟨hmem, fun h => absurd h Bool.false_ne_true, fun _ => ⟨hstays, hreason⟩⟩
  | true =>
    rw [takeHello_enrolling hfits hchain hst hfirst hpeer, agreeEnrolling_standby hmine hpref hepoch]
    obtain ⟨hmem, hstate⟩ := becomeStandby_state { helloPeer p with epoch := agreedEpoch (helloPeer p) s } (useEpoch (agreedEpoch (helloPeer p) s) s)
    exact ⟨hmem.trans (useEpoch_mem ..), fun _ => hstate, fun h => absurd h (by decide)⟩

theorem takeHello_owns (hfits : HelloFits s (helloPeer p)) (hst : s.twin.st = .enrolling) (hfirst : s.twin.refused = 0) (hpeer : (helloPeer p).state = 1)
    (hmine : s.obj .homePreference = 1) (hpref : (helloPeer p).pref = false) (hepoch : agreedEpoch (helloPeer p) s ≤ 0xFFFFFFFF) :
    (takeHello p s).mem = s.mem ∧ (Config.peerChainGood (helloPeer p).node = true → (takeHello p s).twin.st = .feeding
        ∧ (takeHello p s).twin.peerEid = (helloPeer p).node ∧ (takeHello p s).twin.epoch = agreedEpoch (helloPeer p) s ∧ (takeHello p s).twin.lampOut = .hold
        ∧ (takeHello p s).twin.resync.isSome = true) := by
  cases hchain : Config.peerChainGood (helloPeer p).node with
  | false =>
    rw [takeHello_unproven hfits hchain]
    exact ⟨(refuseHello_enrolling (helloPeer p) 4 hst hfirst).2.2, fun h => absurd h Bool.false_ne_true⟩
  | true =>
    rw [takeHello_enrolling hfits hchain hst hfirst hpeer, agreeEnrolling_owner hmine hpref hepoch]
    obtain ⟨hmem, hstate⟩ := agreedOwner_state (helloPeer p) s
    exact ⟨hmem, fun _ => hstate⟩

theorem takeHello_deserted (hfits : HelloFits s (helloPeer p)) (hst : s.twin.st = .standby) (hknown : s.twin.peerEid = (helloPeer p).node)
    (hpeer : (helloPeer p).state = 6) : (takeHello p s).mem = s.mem
      ∧ (Config.peerChainGood (helloPeer p).node = true → (takeHello p s).twin.st = .adrift ∧ (takeHello p s).twin.releaseCode = none)
      ∧ (Config.peerChainGood (helloPeer p).node = false → (takeHello p s).twin.st = .standby) := by
  cases hchain : Config.peerChainGood (helloPeer p).node with
  | false =>
    obtain ⟨hstays, hmem⟩ := refuseHello_ignored (p := p) (helloPeer p) 4 hst
    rw [takeHello_unproven hfits hchain]
    exact ⟨hmem, fun h => absurd h Bool.false_ne_true, fun _ => hstays⟩
  | true =>
    rw [takeHello_standby hfits hchain hst hknown hpeer]
    have hrest := notify_twin_rest 0x1B06 [] (s.onTwin (fun t => { t with st := .adrift, releaseCode := none }))
    exact ⟨notify_mem .., fun _ => ⟨(congrArg TwinState.st hrest :), (congrArg TwinState.releaseCode hrest :)⟩, fun h => absurd h (by decide)⟩

end

/-- Settles O37: an ANNOUNCE that names this service and a higher epoch fences, and what a fence answers and drops sends nothing more of the mirror; a
TW_HELLO is acted on by the first row of R468 that applies, which the state and the peer's state decide. -/
theorem twinAgrees : Obligations.TwinAgrees := by
  unfold Obligations.TwinAgrees
  intro s port p
  refine ⟨?announce, ?hello, ?code⟩
  case announce =>
    intro hup hfabric hnode hservice hother hsrc hbelow hwide hdest hop hcrc hshape
    have htakes : TakesAnnounce s port p := ⟨hup, hfabric, hnode, hservice, hother, hsrc, hbelow, hwide, hdest, hop, hcrc, hshape⟩
    exact ⟨announce_ignored htakes, announce_fences htakes, fun u l bytes m h1 h2 h3 h4 h5 h6 => announce_undoes htakes h1 h2 h3 h4 h5 h6,
      announce_handsOver htakes⟩
  case hello =>
    rintro h hport hup hdest hcrc hshape hop rfl hcode hservice hunits
    have hfits : HelloFits s (helloPeer p) := ⟨hcode, hservice, hunits⟩
    refine ⟨fun hst hfirst hpeer hmine hpref hepoch => ?_, fun hst hfirst hpeer hmine hpref hepoch => ?_, fun hst hknown hpeer => ?_⟩
    · exact ⟨_, twHello_exec hport hup hdest hcrc hshape hop (by rw [hst]; decide), takeHello_follows hfits hst hfirst hpeer hmine hpref hepoch⟩
    · exact ⟨_, twHello_exec hport hup hdest hcrc hshape hop (by rw [hst]; decide), takeHello_owns hfits hst hfirst hpeer hmine hpref hepoch⟩
    · exact ⟨_, twHello_exec hport hup hdest hcrc hshape hop (by rw [hst]; decide), takeHello_deserted hfits hst hknown hpeer⟩
  case code =>
    rintro h hport hup hdest hcrc hshape hop rfl hcode hst hfirst
    refine ⟨_, twHello_exec hport hup hdest hcrc hshape hop (by rw [hst]; decide), ?_⟩
    rw [takeHello_code hcode]
    exact refuseHello_enrolling (helloPeer p) 1 hst hfirst

end Sys2Proof.Machine
end

section
/-!
PROOF. Writes of objects and tables (R650, R664, R672 to R675, R683).
-/
namespace Sys2Proof.Machine

section
variable {s : State} {r : Req}

/-! ### Value objects -/

theorem objectWrite_exec {o : Obj} (ho : o ∉ [Obj.timeRoot, .serviceMode, .twinEnable]) (v : Nat) : exec (.objectWrite r o v) s
    = .next (operateOk (writeObj o) r (leBytes o.info.size v) o.info.size (writeVerdict o v s) (writeValue o v) s) := by
  rw [exec]
  unfold execObjectWrite
  split
  · exact absurd (List.mem_cons_self ..) ho
  · exact absurd (List.mem_cons_of_mem _ (List.mem_cons_self ..)) ho
  · exact absurd (List.mem_cons_of_mem _ (List.mem_cons_of_mem _ (List.mem_cons_self ..))) ho
  · rfl

/-- The record of the stored objects and tables, as SETTINGS keeps it (R672). -/
def settingsOf (k : KodpState) : Settings :=
  { sequence := max k.settingsA.sequence k.settingsB.sequence + 1, good := true, values := k.objs.filter (fun e => e.1.info.stored)
    tables := k.tables.filter (fun e => e.1.info.stored) }

theorem saveSettings_kodp (s : State) : (saveSettings s).kodp = { s.kodp with settingsA := settingsOf s.kodp, settingsB := settingsOf s.kodp } := rfl

/-- The value is written, and the settings record where the object is stored. -/
def valueStored (o : Obj) (v : Nat) (s : State) : State := onlyIf o.info.stored saveSettings (setObj o v s)

theorem writeValue_dict (o : Obj) (v : Nat) (s : State) : (writeValue o v s).kodp.objs = (valueStored o v s).kodp.objs
    ∧ (writeValue o v s).kodp.settingsA = (valueStored o v s).kodp.settingsA ∧ (writeValue o v s).kodp.settingsB = (valueStored o v s).kodp.settingsB
    ∧ (writeValue o v s).mem = s.mem := by
  have hframe : Frame [.sessions, .kodp] (valueStored o v s) (writeValue o v s) :=
    frame_onlyIf (fun _ hw => frame_block6Changed (by decide) hw) (Frame.refl _ _)
  have hmem : (writeValue o v s).mem = s.mem := (frame_writeValue (P := [.sessions, .kodp, .dict]) (by decide) (Frame.refl _ s)).mem_eq rfl
  obtain ⟨hobjs, -, -, -, ha, hb⟩ := hframe.dict_eq rfl
  exact ⟨hobjs, ha, hb, hmem⟩

theorem valueStored_objs (o : Obj) (v : Nat) (s : State) : (valueStored o v s).kodp.objs = aset s.kodp.objs o v := by
  unfold valueStored onlyIf
  split <;> rfl

theorem objectWrite_ok {o : Obj} {v : Nat} (ho : o ∉ [Obj.timeRoot, .serviceMode, .twinEnable]) (htwin : noTwinObj o = false) (hlo : o.info.lo ≤ v)
    (hhi : v ≤ o.info.hi) (hgood : s.valueBad o v = false) (hstate : s.valueRefused o v = false) (hservice : o.info.rws = true → s.obj .serviceMode = 1) :
    Replies (.objectWrite r o v) s (writeObj o) r o.info.size (leBytes o.info.size v) .ok [] (fun t => t.obj o = v ∧ (∀ x, x ≠ o → t.obj x = s.obj x)
      ∧ (o.info.stored = true → t.kodp.settingsA = t.kodp.settingsB ∧ t.kodp.settingsA.sequence = max s.kodp.settingsA.sequence s.kodp.settingsB.sequence + 1
          ∧ aget t.kodp.settingsA.values o = some v)
      ∧ (o.info.stored = false → t.kodp.settingsA = s.kodp.settingsA ∧ t.kodp.settingsB = s.kodp.settingsB) ∧ t.mem = s.mem) := by
  refine replies_effect (objectWrite_exec ho v) ?_ rfl ?_ rfl (fun b _ => ?_) fun b t hb ht => ?_
  · simp only [writeVerdict, htwin, hgood, decide_eq_false (Nat.not_lt.mpr hlo), decide_eq_false (Nat.not_lt.mpr hhi : ¬ v > o.info.hi), Bool.or_false]
  · have hrws : (o.info.rws && s.obj .serviceMode != 1) = false := by
      cases hr : o.info.rws with
      | false => rfl
      | true => rw [hservice hr]; rfl
    simp only [writeVerdict, hstate, hrws, Bool.or_false]
  · exact (frame_writeValue (P := [.sessions, .kodp, .dict]) (by decide) (Frame.refl _ b)).running_eq rfl
  · obtain ⟨hobjs, ha, hb', hmem⟩ := writeValue_dict o v b
    obtain ⟨htobjs, -, -, -, hta, htb⟩ := ht.frame.dict_eq rfl
    obtain ⟨hbobjs, -, -, -, hba, hbb⟩ := hb.frame.dict_eq rfl
    have hall : t.kodp.objs = aset s.kodp.objs o v := by rw [htobjs, hobjs, valueStored_objs, hbobjs]
    refine ⟨?_, fun x hx => ?_, fun hstored => ?_, fun hstored => ?_, (ht.frame.mem_eq rfl).trans (hmem.trans (hb.frame.mem_eq rfl))⟩
    · rw [State.obj, hall, agetD_aset_same]
    · rw [State.obj, hall, agetD_aset_ne _ _ _ hx]
      rfl
    · have hsaved : valueStored o v b = saveSettings (setObj o v b) := by rw [valueStored, onlyIf, if_pos hstored]
      rw [hta, htb, ha, hb', hsaved, saveSettings_kodp]
      refine ⟨rfl, ?_, ?_⟩
      · rw [← hba, ← hbb]
        rfl
      · exact (aget_filter_key (aset b.kodp.objs o v) (fun x => x.info.stored) o).trans (by rw [hstored, aget_aset_same]; rfl)
    · have hkept : valueStored o v b = setObj o v b := by rw [valueStored, onlyIf, if_neg (by rw [hstored]; exact Bool.false_ne_true)]
      rw [hta, htb, ha, hb', hkept]
      exact ⟨hba, hbb⟩

theorem objectWrite_bad {o : Obj} {v : Nat} (ho : o ∉ [Obj.timeRoot, .serviceMode, .twinEnable])
    (hbad : noTwinObj o = true ∨ v < o.info.lo ∨ o.info.hi < v ∨ s.valueBad o v = true) :
    Replies (.objectWrite r o v) s (writeObj o) r o.info.size (leBytes o.info.size v) .unsupported [] (fun t =>
      t.kodp.objs = s.kodp.objs ∧ t.kodp.settingsA = s.kodp.settingsA) := by
  refine refused_bad (objectWrite_exec ho v) ?_ rfl fun t ht => ?_
  · simp only [writeVerdict, Bool.or_eq_true, decide_eq_true_eq]
    tauto
  · obtain ⟨hobjs, -, -, -, ha, -⟩ := ht.frame.dict_eq rfl
    exact ⟨hobjs, ha⟩

theorem objectWrite_refused {o : Obj} {v : Nat} (ho : o ∉ [Obj.timeRoot, .serviceMode, .twinEnable]) (htwin : noTwinObj o = false) (hlo : o.info.lo ≤ v)
    (hhi : v ≤ o.info.hi) (hgood : s.valueBad o v = false) (hstate : s.valueRefused o v = true ∨ (o.info.rws = true ∧ s.obj .serviceMode ≠ 1)) :
    Replies (.objectWrite r o v) s (writeObj o) r o.info.size (leBytes o.info.size v) .refusedState [] (fun t => t.kodp.objs = s.kodp.objs) := by
  refine refused_state (objectWrite_exec ho v) ?_ rfl ?_ fun t ht => (ht.frame.dict_eq rfl).1
  · simp only [writeVerdict, htwin, hgood, decide_eq_false (Nat.not_lt.mpr hlo), decide_eq_false (Nat.not_lt.mpr hhi : ¬ v > o.info.hi), Bool.or_false]
  · simp only [writeVerdict, Bool.or_eq_true, Bool.and_eq_true, bne_iff_ne]
    exact hstate

/-! ### Tables -/

theorem setTable_tables (table : TableId) (rows : List Row) (s : State) : (setTable table rows s).kodp.tables = aset s.kodp.tables table rows
    ∧ (setTable table rows s).kodp.objs = s.kodp.objs := by
  unfold setTable onlyIf
  dsimp only
  split <;> exact ⟨rfl, rfl⟩

/-- What follows a change of a table leaves the tables and the objects. -/
theorem tableEffect_tables (table : TableId) (old : List Row) (s : State) : (tableEffect table old s).kodp.tables = s.kodp.tables
    ∧ (tableEffect table old s).kodp.objs = s.kodp.objs := by
  have hkeys : ∀ c : Session → Bool, (saveSettings (endSessions c s)).kodp.tables = s.kodp.tables ∧ (saveSettings (endSessions c s)).kodp.objs = s.kodp.objs :=
    fun c => by
      obtain ⟨hobjs, htables, -⟩ := (frame_endSessions (P := [.sessions, .kodp]) (c := c) (by decide) (Frame.refl _ s)).dict_eq rfl
      exact ⟨htables, hobjs⟩
  cases table with
  | operatorKeys | poolManagerKeys => exact hkeys _
  | partnerGrants =>
    have hframe : Frame [.part] s (tableEffect .partnerGrants old s) := by
      unfold tableEffect
      exact frame_forAll (fun e w hw => frame_setSlot (by decide) hw) (Frame.refl _ s)
    obtain ⟨hobjs, htables, -⟩ := hframe.dict_eq rfl
    exact ⟨htables, hobjs⟩
  | eidRoutes =>
    obtain ⟨hobjs, htables, -⟩ := (frame_repin (P := [.ledger, .leaves]) (by decide) (Frame.refl _ s)).dict_eq rfl
    exact ⟨htables, hobjs⟩
  | portConfig | trafficProfiles | trafficAssign | partitions => exact ⟨rfl, rfl⟩

/-- The table gets its new rows, with what follows (R674, R675). -/
def tableWritten (table : TableId) (after : List Row) (s : State) : State := tableEffect table (s.table table) (setTable table after s)

theorem tableWritten_tables (table : TableId) (after : List Row) (s : State) : (tableWritten table after s).kodp.tables = aset s.kodp.tables table after
    ∧ (tableWritten table after s).kodp.objs = s.kodp.objs := by
  obtain ⟨htables, hobjs⟩ := tableEffect_tables table (s.table table) (setTable table after s)
  obtain ⟨hset, hkept⟩ := setTable_tables table after s
  exact ⟨htables.trans hset, hobjs.trans hkept⟩

section
variable {c : Instr} {o : OpObj} {arg : List Byte} {table : TableId} {after : List Row}

/-- A change of a table's rows that no row stands against. -/
theorem rows_replied (hexec : exec c s = .next (operateOk o r arg 0 (rowVerdict none) (tableWritten table after) s)) : Replies c s o r 0 arg .ok [] (fun t =>
    t.table table = after ∧ (∀ x, x ≠ table → t.table x = s.table x) ∧ t.kodp.objs = s.kodp.objs) := by
  refine replies_effect hexec rfl rfl rfl rfl (fun b _ => ?_) fun b t hb ht => ?_
  · exact (frame_tableEffect (P := [.ledger, .part, .leaves, .sessions, .kodp, .dict]) (by decide) (frame_setTable (by decide) (Frame.refl _ b))).running_eq rfl
  · obtain ⟨hwritten, hobjs⟩ := tableWritten_tables table after b
    obtain ⟨htobjs, httables, -⟩ := ht.frame.dict_eq rfl
    obtain ⟨hbobjs, hbtables, -⟩ := hb.frame.dict_eq rfl
    have hall : t.kodp.tables = aset s.kodp.tables table after := by rw [httables, hwritten, hbtables]
    refine ⟨?_, fun x hx => ?_, htobjs.trans (hobjs.trans hbobjs)⟩
    · rw [State.table, hall, agetD_aset_same]
    · rw [State.table, hall, agetD_aset_ne _ _ _ hx]
      rfl

/-- A change of a table's rows that one row stands against: its ordinal is answered. -/
theorem rows_refused {eff : State → State} {st : Status} {n : Nat} (hst : st ≠ .retry)
    (hexec : exec c s = .next (operateOk o r arg 0 (rowVerdict (some (st, n))) eff s)) :
    Replies c s o r 0 arg st (leBytes 2 n) (fun t => t.kodp.tables = s.kodp.tables) := by
  have hkept : ∀ crc body, (refuse o r crc st body (heard r s)).kodp.tables = s.kodp.tables := fun crc body =>
    ((refuse_handled o r crc st body s).frame.dict_eq rfl).2.1
  by_cases hbad : st = .unsupported
  · subst hbad
    exact replies_unsupported hexec rfl fun t crc ht => ht ▸ hkept crc _
  · have hverdict : rowVerdict (some (st, n)) = { Verdict.ok with other := some st, body := leBytes 2 n } := by
      cases st <;> first | rfl | exact absurd rfl hbad
    rw [hverdict] at hexec
    exact replies_other hexec rfl rfl rfl rfl (beq_eq_false_iff_ne.mpr hst) fun t crc ht => ht ▸ hkept crc _

end

theorem putCheck_status {table : TableId} {row : Row} {rows : List Row} {st : Status} (h : putCheck table row rows s = some st) : st ≠ .retry := by
  unfold putCheck at h
  extract_lets f bad at h
  clear_value bad
  rintro rfl
  split at h
  · cases h
  · split at h
    · split at h <;> cases h
    · split at h <;> cases h
    · cases h

theorem putAll_status {table : TableId} {n m : Nat} {rows left after : List Row} {st : Status} (h : putAll table s n left rows = (after, some (st, m))) :
    st ≠ .retry := by
  induction left generalizing n rows with
  | nil => cases h
  | cons row rest ih =>
    unfold putAll at h
    split at h
    next st' hcheck =>
      obtain rfl : st' = st := congrArg Prod.fst (Option.some.inj (Prod.mk.inj h).2)
      exact putCheck_status hcheck
    next =>
      extract_lets rows' most at h
      clear_value most
      split at h
      · obtain rfl : Status.noSpace = st := congrArg Prod.fst (Option.some.inj (Prod.mk.inj h).2)
        decide
      · exact ih h

theorem deleteCheck_status {table : TableId} {key : List Nat} {rows : List Row} {st : Status} (h : deleteCheck table key rows s = some st) : st ≠ .retry := by
  unfold deleteCheck at h
  extract_lets k at h
  rintro rfl
  split at h
  · cases h
  · split at h
    · cases h
    · split at h
      · split at h <;> cases h
      · split at h <;> cases h
      · cases h

theorem deleteAll_status {table : TableId} {n m : Nat} {rows after : List Row} {left : List (List Nat)} {st : Status}
    (h : deleteAll table s n left rows = (after, some (st, m))) : st ≠ .retry := by
  induction left generalizing n rows with
  | nil => cases h
  | cons key rest ih =>
    unfold deleteAll at h
    split at h
    next st' hcheck =>
      obtain rfl : st' = st := congrArg Prod.fst (Option.some.inj (Prod.mk.inj h).2)
      exact deleteCheck_status hcheck
    next => exact ih h

theorem tablePut_exec {table : TableId} {rows after : List Row} {fail : Option (Status × Nat)} (hput : putAll table s 0 rows (s.table table) = (after, fail)) :
    exec (.tablePut r table rows) s
      = .next (operateOk (putObj table) r (leBytes 2 rows.length ++ rows.flatMap (rowBytes table)) 0 (rowVerdict fail) (tableWritten table after) s) := by
  rw [exec, execTablePut, hput]
  rfl

theorem tableDelete_exec {table : TableId} {keys : List (List Nat)} {after : List Row} {fail : Option (Status × Nat)}
    (hdelete : deleteAll table s 0 keys (s.table table) = (after, fail)) : exec (.tableDelete r table keys) s
      = .next (operateOk (deleteObj table) r (leBytes 2 keys.length ++ keys.flatMap (keyBytes table)) 0 (rowVerdict fail) (tableWritten table after) s) := by
  rw [exec, execTableDelete, hdelete]
  rfl

/-- What a change of a table answers, by what the rows or keys came to. -/
theorem rows_answered {c : Instr} {o : OpObj} {arg : List Byte} {table : TableId} {result : List Row × Option (Status × Nat)}
    (hstatus : ∀ after st n, result = (after, some (st, n)) → st ≠ .retry)
    (hexec : ∀ after fail, result = (after, fail) → exec c s = .next (operateOk o r arg 0 (rowVerdict fail) (tableWritten table after) s))
    (hacc : s.accepts o r 0 arg = true) : Does c s (fun t =>
      (∀ after, result = (after, none) → Answered o r .ok [] t ∧ t.table table = after ∧ (∀ x, x ≠ table → t.table x = s.table x) ∧ t.kodp.objs = s.kodp.objs)
      ∧ (∀ after st n, result = (after, some (st, n)) → Answered o r st (leBytes 2 n) t ∧ t.kodp.tables = s.kodp.tables)) := by
  obtain ⟨after, fail⟩ := result
  cases fail with
  | none =>
    obtain ⟨t, ht, hanswered, hrows⟩ := rows_replied (hexec after none rfl) hacc
    refine ⟨t, ht, fun after' h => ?_, fun after' st n h => ?_⟩
    · obtain rfl := (Prod.mk.inj h).1
      exact ⟨hanswered, hrows⟩
    · cases (Prod.mk.inj h).2
  | some x =>
    obtain ⟨st, n⟩ := x
    obtain ⟨t, ht, hanswered, htables⟩ := rows_refused (hstatus after st n rfl) (hexec after (some (st, n)) rfl) hacc
    refine ⟨t, ht, fun after' h => ?_, fun after' st' n' h => ?_⟩
    · cases (Prod.mk.inj h).2
    · cases (Prod.mk.inj h).2
      exact ⟨hanswered, htables⟩

/-! ### One route, and the rows of the ports -/

theorem putCheck_route {port lo hi : Nat} {rows : List Row} (hfabric : isFabric port = true) (hpresent : portPresent port = true) (hport : port < 256)
    (hlo : lo < 2 ^ 32) (hhi : hi < 2 ^ 32) : putCheck .eidRoutes { fields := [port, lo, hi] } rows s = none := by
  have hfits : rowFits .eidRoutes { fields := [port, lo, hi] } = true := by
    simp only [rowFits, tableWidths, List.length_cons, List.zip_cons_cons, List.zip_nil_right, List.all_cons, List.all_nil, Bool.and_true, Bool.and_eq_true,
      decide_eq_true_eq, beq_self_eq_true, true_and]
    omega
  have hsound : (!rowFits .eidRoutes { fields := [port, lo, hi] } || !(isFabric port && portPresent port)) = false := by
    rw [hfits, hfabric, hpresent]
    rfl
  unfold putCheck
  exact if_neg (fun hbad => Bool.false_ne_true (hsound.symm.trans hbad))

/-- A row that is put is there, and the rows of other keys stay. -/
theorem mem_putRow (table : TableId) (row : Row) (rows : List Row) : row ∈ putRow table row rows
    ∧ ∀ x ∈ rows, rowKey table x ≠ rowKey table row → x ∈ putRow table row rows := by
  unfold putRow
  split
  next hany =>
    obtain ⟨x, hx, hkey⟩ := List.any_eq_true.mp hany
    exact ⟨List.mem_map.mpr ⟨x, hx, if_pos (beq_iff_eq.mp hkey)⟩, fun y hy hne => List.mem_map.mpr ⟨y, hy, if_neg hne⟩⟩
  next => exact ⟨List.mem_append_right _ (List.mem_singleton_self _), fun y hy _ => List.mem_append_left _ hy⟩

theorem length_putRow (table : TableId) (row : Row) (rows : List Row) : (putRow table row rows).length ≤ rows.length + 1 := by
  unfold putRow
  split
  · rw [List.length_map]; exact Nat.le_succ _
  · rw [List.length_append]; rfl

theorem putAll_one {table : TableId} {row : Row} {rows : List Row} (hcheck : putCheck table row rows s = none) (htable : table ≠ .trafficProfiles)
    (hroom : rows.length < table.info.limit) : putAll table s 0 [row] rows = (putRow table row rows, none) := by
  have hlength := length_putRow table row rows
  rw [putAll, hcheck]
  dsimp only
  rw [if_neg htable, if_neg (by omega)]
  rfl

theorem putRoute_replies {port lo hi : Nat} (hfabric : isFabric port = true) (hpresent : portPresent port = true) (hport : port < 256)
    (hlo : lo < 2 ^ 32) (hhi : hi < 2 ^ 32) (hroom : (s.table .eidRoutes).length < TableId.eidRoutes.info.limit) :
    Replies (.tablePut r .eidRoutes [{ fields := [port, lo, hi] }]) s (putObj .eidRoutes) r 0 (leBytes 2 1 ++ rowBytes .eidRoutes { fields := [port, lo, hi] }) .ok [] (fun t =>
      { fields := [port, lo, hi] } ∈ t.table .eidRoutes
        ∧ ∀ x ∈ s.table .eidRoutes, rowKey .eidRoutes x ≠ rowKey .eidRoutes { fields := [port, lo, hi] } → x ∈ t.table .eidRoutes) := by
  have hput := putAll_one (putCheck_route (s := s) (rows := s.table .eidRoutes) hfabric hpresent hport hlo hhi) (by decide) hroom
  have hexec := tablePut_exec (r := r) hput
  rw [List.flatMap_singleton] at hexec
  intro hacc
  obtain ⟨t, ht, hanswered, htable, -⟩ := rows_replied hexec hacc
  refine ⟨t, ht, hanswered, ?_⟩
  dsimp only
  rw [htable]
  exact mem_putRow ..

theorem deletePorts_refused (keys : List Nat) (rows : List (List Nat))
    (hacc : s.accepts (deleteObj .portConfig) r 0 (leBytes 2 (keys :: rows).length ++ (keys :: rows).flatMap (keyBytes .portConfig)) = true) :
    Does (.tableDelete r .portConfig (keys :: rows)) s (fun t => Answered (deleteObj .portConfig) r .unsupported (leBytes 2 0) t
      ∧ t.kodp.tables = s.kodp.tables) := by
  have hdelete : deleteAll .portConfig s 0 (keys :: rows) (s.table .portConfig) = (s.table .portConfig, some (.unsupported, 0)) := by
    have hcheck : deleteCheck .portConfig keys (s.table .portConfig) s = some .unsupported := by
      unfold deleteCheck
      exact if_pos (.inl rfl)
    rw [deleteAll, hcheck]
  exact rows_refused (by decide) (tableDelete_exec hdelete) hacc

end

/-- Settles O49: a write is an operation whose verdict the object's own rules decide and whose effect is the value, with the settings record where the
object is stored; a change of rows is decided by the first row or key that fails, and what follows it leaves tables and objects. -/
theorem dictionaryWrites : Obligations.DictionaryWrites := by
  unfold Obligations.DictionaryWrites
  intro s r
  refine ⟨?write, ?own, ?put, ?delete, ?route, fun keys rows hacc => deletePorts_refused keys rows hacc⟩
  case write => exact fun o v ho => ⟨objectWrite_ok ho, objectWrite_bad ho, objectWrite_refused ho⟩
  case own => exact fun v => ⟨fun t h => h, fun t h => h, fun t h => h⟩
  case put =>
    exact fun table rows hacc => rows_answered (fun after st n h => putAll_status h) (fun after fail h => tablePut_exec h) hacc
  case delete =>
    exact fun table keys hacc => rows_answered (fun after st n h => deleteAll_status h) (fun after fail h => tableDelete_exec h) hacc
  case route =>
    intro port lo hi hfabric hpresent hport hlo hhi hroom
    exact putRoute_replies hfabric hpresent hport hlo hhi hroom

end Sys2Proof.Machine
end

section
/-!
PROOF. Requests ordered at their lines, and what is parked there (R47, R160, R178, R250, R256, R268).
-/
namespace Sys2Proof.Machine

/-! ### A request that may be ordered -/

/-- What `orders` says, part by part. -/
theorem orders_iff {s : State} {q : Request} : s.orders q = true ↔ s.frozen = false ∧ s.request q.src q.tag = some q ∧ q.phase = .ready ∧ q.ordered = false
    ∧ s.mayOrder q = true ∧ s.lineBusy q = false ∧ s.crossbarHolds q.line q.src q.tag = false ∧ isDeepPa q.pa = false
    ∧ s.keptFrom q.line q.src q.tag = false ∧ s.recalling q.line = false := by
  simp only [State.orders, Bool.and_eq_true, Bool.not_eq_true', beq_iff_eq, and_assoc]

theorem orders_direct {s : State} {q : Request} (h : s.orders q = true) : isDeepPa (q.line * 128) = false := by
  obtain ⟨-, -, -, -, -, -, -, hpa, -⟩ := orders_iff.mp h
  simp only [isDeepPa, Bool.and_eq_false_iff, decide_eq_false_iff_not] at hpa ⊢
  unfold Request.line
  omega

/-- A request that may be ordered is presented at its line (R167, R250, R256). -/
theorem exec_requestOrdered {s : State} {q : Request} (h : s.orders q = true) (hop : q.op ≠ 0x15 ∧ q.op ≠ 0x16 ∧ q.op ≠ 0x50) :
    exec (.requestOrdered q.src q.tag) s = .next (settleWaits (settleAged q.line (present q false (leaveCrossbar q.line q.src q.tag s)))) := by
  obtain ⟨hfrozen, hreq, hphase, hfirst, hturn, hbusy, hcross, hpa, -, -⟩ := orders_iff.mp h
  have hgo : ¬((q.ordered || !(q.phase == .ready || q.phase == .parked || q.phase == .deep) || !s.mayOrder q || s.lineBusy q) = true) := by
    rw [hfirst, hphase, hturn, hbusy]
    decide
  have hev : ¬(q.op = 0x15 ∨ q.op = 0x16) := fun h => h.elim hop.1 hop.2.1
  rw [exec, execRequestOrdered, hfrozen, if_neg Bool.false_ne_true, hreq]
  dsimp only
  rw [if_neg (by rw [hphase]; decide), if_neg hop.2.2]
  unfold orderRequest
  rw [if_neg hgo, hcross, Bool.and_false, if_neg Bool.false_ne_true]
  dsimp only
  rw [hpa, if_neg Bool.false_ne_true, if_neg hev]

/-- A line with no entry needs no recall. -/
theorem recallNeed_of_no_entry {s : State} {line : Nat} (h : s.entry line = none) (acc : LineAcc) (r : Option Nat) : s.recallNeed line acc r = none := by
  unfold State.recallNeed
  rw [h]

theorem touchEntry_frame (line : Nat) (s : State) : Frame [.dir] s (touchEntry line s) := frame_touchEntry (by decide) (Frame.refl _ s)

theorem entry_touchEntry (line : Nat) (s : State) (l : Nat) : (touchEntry line s).entry l = s.entry l := by
  obtain ⟨es, rs, hdir, hes, -⟩ := touchEntry_dir line s
  rw [State.entry, hdir]
  exact hes l

/-- At a line with no entry a request that grants no copy is served at once (R250). -/
theorem present_no_grant {s : State} {q : Request} (hrecall : s.recalling q.line = false) (hkept : s.keptFrom q.line q.src q.tag = false)
    (hentry : s.entry q.line = none) (hgrant : (touchEntry q.line s).wouldGrant q = false) : present q false s = serveOrRead q (touchEntry q.line s) := by
  unfold present
  dsimp only
  rw [hrecall, hkept, Bool.false_or, if_neg Bool.false_ne_true, hentry]
  dsimp only
  rw [hgrant, Bool.false_and, Bool.false_and, if_neg Bool.false_ne_true, if_neg Bool.false_ne_true,
    recallNeed_of_no_entry ((entry_touchEntry ..).trans hentry)]

/-- A line whose line is at hand, or that is only written, is served without DRAM (R48, R53). -/
theorem serveOrRead_at_hand {s : State} {q : Request} (hdirect : isDeepPa (q.line * 128) = false) (hhand : readsLine q.op = false ∨ (s.lineMeta q.line).inPantry = true)
    (hop : q.op ≠ 0x14 ∧ q.op ≠ 0x18) : serveOrRead q s
      = serve q (onlyIf (s.lineMeta q.line).inPantry (fun s => pantryUse q.line (setMeta q.line (fun m => { m with keyId := q.keyId }) s)) s) := by
  have hmiss : (readsLine q.op && !(s.lineMeta q.line).inPantry && !s.lineFailed q.line) = false := by
    rcases hhand with h | h <;> simp [h]
  have hfail : ¬((s.lineFailed q.line && (q.op == 0x14 || q.op == 0x18)) = true) := by
    simp [hop.1, hop.2]
  unfold serveOrRead
  rw [storeOf_direct hdirect]
  dsimp only
  rw [hmiss, Bool.false_and, Bool.false_and, if_neg Bool.false_ne_true, if_neg Bool.false_ne_true, if_neg Bool.false_ne_true, if_neg hfail]

/-- The use of the pantry that a request at hand makes. -/
def usePantry (q : Request) (s : State) : State :=
  onlyIf (s.lineMeta q.line).inPantry (fun s => pantryUse q.line (setMeta q.line (fun m => { m with keyId := q.keyId }) s)) s

theorem usePantry_frame (q : Request) (s : State) : Frame [.mem] s (usePantry q s) :=
  frame_onlyIf (fun v hv => frame_pantryUse (by decide) (frame_setMeta (by decide) hv)) (Frame.refl _ s)

theorem usePantry_cells (q : Request) (s : State) : (usePantry q s).mem.cells = s.mem.cells := by
  unfold usePantry onlyIf
  split <;> rfl

theorem finish_frame (q : Request) (st : Status) (harg : Nat) (hold : Bool) (s : State) :
    Frame [.txn, .ledger, .dir, .mirror, .leaves, .sec, .ctrs] s (finishStatus q st harg hold s) := frame_finishStatus (by decide) (Frame.refl _ s)

/-- The request as served: it has its place in its source's order. -/
def orderedHere (q : Request) (s : State) : State := setRequest q.src q.tag (fun x => { x with ordered := true }) s

theorem serve_write {s : State} {q : Request} {d : Packet} (hop : q.op = 0x13) (hdata : q.data = some d) : serve q s
    = if (orderedHere q s).lineFailed q.line then
        finishStatus { q with ordered := true } .integrity 0 true (onlyIf d.poison (poisonListed ((orderedHere q s).channelOfLine q.line) q.line) (orderedHere q s))
      else finishStatus { q with ordered := true } (if d.poison then .poisoned else .ok) 0 true (writeLine q.line d.body d.poison 4 q.tenant q.keyId (orderedHere q s)) := by
  obtain ⟨src, tag, op, vc, port, slot, ctx, pkt, data, rest⟩ := q
  cases hop
  cases hdata
  rfl

/-- A write of a whole line that is served commits its bytes (R47, R250). -/
theorem serve_write_cells {s : State} {q : Request} {d : Packet} (hdirect : isDeepPa (q.line * 128) = false) (hop : q.op = 0x13) (hdata : q.data = some d)
    (hserves : s.lineFailed q.line = false) (hdumps : s.obs.dumps = []) :
    (serve q s).mem.cells = cellsPut s.mem.cells (q.line * 128) (padTo 128 d.body) := by
  have hserves' : (orderedHere q s).lineFailed q.line = false := (lineFailed_congr hdirect rfl).trans hserves
  rw [serve_write hop hdata, hserves', if_neg Bool.false_ne_true, (finish_frame ..).mem_eq rfl]
  exact writeLine_cells hdirect hserves' hdumps

/-- A WR_LINE ordered at a free line changes the bytes of that line and no others (R47, R250). -/
theorem requestOrdered_write {s : State} {q : Request} {d : Packet} (h : s.orders q = true) (hop : q.op = 0x13) (hdata : q.data = some d)
    (hentry : s.entry q.line = none) (hserves : s.lineFailed q.line = false) (hdumps : s.obs.dumps = []) (hwf : s.MemWf) :
    Does (.requestOrdered q.src q.tag) s (fun t => ∃ w, t = settleWaits w
      ∧ ∀ a, w.readByte a = (if q.line * 128 ≤ a ∧ a < q.line * 128 + 128 then (padTo 128 d.body).getD (a - q.line * 128) 0 else s.readByte a)) := by
  obtain ⟨-, -, -, -, -, -, -, -, hkept, hrecall⟩ := orders_iff.mp h
  have hdirect := orders_direct h
  obtain ⟨u, hu⟩ : ∃ u, u = usePantry q (touchEntry q.line (leaveCrossbar q.line q.src q.tag s)) := ⟨_, rfl⟩
  have hserve : present q false (leaveCrossbar q.line q.src q.tag s) = serve q u := by
    rw [@present_no_grant (leaveCrossbar q.line q.src q.tag s) q hrecall hkept hentry (by simp [State.wouldGrant, hop]), serveOrRead_at_hand hdirect (.inl (by rw [hop]; rfl)) (by rw [hop]; decide), hu]
    rfl
  have hf : Frame [.dir, .mem] s u := by
    rw [hu]
    exact frame_onlyIf (fun v hv => frame_pantryUse (by decide) (frame_setMeta (by decide) hv)) (frame_touchEntry (by decide) (frame_leaveCrossbar (by decide) (Frame.refl _ s)))
  have hcells : u.mem.cells = s.mem.cells := by
    rw [hu, usePantry_cells]
    rfl
  refine ⟨_, exec_requestOrdered h (by rw [hop]; decide), _, rfl, fun a => ?_⟩
  have hbyte : (settleAged q.line (present q false (leaveCrossbar q.line q.src q.tag s))).readByte a = (putBytes (q.line * 128) (padTo 128 d.body) s).readByte a := by
    unfold State.readByte
    rw [(settleAged_frame ..).mem_eq rfl, hserve,
      serve_write_cells hdirect hop hdata ((lineFailed_congr hdirect (hf.dram_eq rfl)).trans hserves) (by rw [hf.obs_eq rfl rfl rfl]; exact hdumps), hcells]
    rfl
  rw [hbyte, readByte_putBytes hwf, padTo_length]

/-! ### Requests that are answered -/

theorem Frame.reqs_eq {P : List Part} {s t : State} (h : Frame P s t) (hp : P.contains .txn = false) : t.txn.reqs = s.txn.reqs :=
  (congrArg TxnState.reqs (h.txn_rest hp) : t.txn.rest.reqs = s.txn.rest.reqs)

theorem Frame.request_eq {P : List Part} {s t : State} (h : Frame P s t) (hp : P.contains .txn = false) (src tag : Nat) :
    t.request src tag = s.request src tag := by
  unfold State.request
  rw [h.reqs_eq hp]

theorem request_dropRequest (src tag : Nat) (s : State) : (dropRequest src tag s).request src tag = none := by
  unfold State.request dropRequest
  rw [List.find?_eq_none]
  intro x hx
  have hother := (List.mem_filter.mp hx).2
  simp only [Bool.not_eq_true', Bool.and_eq_false_iff] at hother
  rw [Bool.and_eq_true]
  rintro ⟨hsrc, htag⟩
  rcases hother with h | h
  · exact Bool.false_ne_true (h.symm.trans hsrc)
  · exact Bool.false_ne_true (h.symm.trans htag)

/-- What answers with no stash hint leaves the request gone and the entries as they are. -/
theorem releaseAnswer_gone {q : Request} {pk : Packet} {s : State} (h : pk.status ≠ 0 ∨ ¬(q.op = 0x13 ∨ q.op = 0x14)) :
    (releaseAnswer q pk s).request q.src q.tag = none ∧ (releaseAnswer q pk s).dir.entries = s.dir.entries
      ∧ (releaseAnswer q pk s).dir.recalls = s.dir.recalls := by
  unfold releaseAnswer
  extract_lets t
  have ht : t.request q.src q.tag = none ∧ t.dir.entries = s.dir.entries ∧ t.dir.recalls = s.dir.recalls := by
    have hdir : (sendFinal q pk s).dir = s.dir := Frame.dir_eq (P := [.ledger, .leaves, .sec, .ctrs]) (frame_sendFinal (by decide) (Frame.refl _ s)) rfl
    exact ⟨request_dropRequest .., (congrArg DirState.entries hdir :), (congrArg DirState.recalls hdir :)⟩
  clear_value t
  split
  · rename_i hop
    rw [if_neg (h.resolve_right fun hno => hno (by simp at hop; exact hop.1))]
    exact ht
  · exact ht

/-- A request that ends without the standby's word is gone (R178). -/
theorem finish_gone {q : Request} {st : Status} {harg result : Nat} {pk : Packet} {s : State} (h : pk.status ≠ 0 ∨ ¬(q.op = 0x13 ∨ q.op = 0x14)) :
    (finish q st harg result pk false s).request q.src q.tag = none ∧ (finish q st harg result pk false s).dir.entries = s.dir.entries
      ∧ (finish q st harg result pk false s).dir.recalls = s.dir.recalls := by
  unfold finish
  extract_lets t u v
  have hv : v.dir = s.dir := by
    refine (Frame.dir_eq (P := [.ctrs]) (frame_onlyIf (fun v hv => frame_bump (by decide) hv) (frame_onlyIf (fun v hv => frame_bump (by decide) hv) (Frame.refl _ t))) rfl).trans ?_
    unfold t
    split
    · exact Frame.dir_eq (P := [.ledger, .mirror, .leaves, .ctrs]) (frame_ledgerWrite (by decide) (Frame.refl _ s)) rfl
    · rfl
  rw [Bool.false_and, Bool.false_and, if_neg Bool.false_ne_true, ← hv]
  exact releaseAnswer_gone h

/-- An answer that may wait for the standby leaves the entries as they are. -/
theorem finish_entries {q : Request} {st : Status} {harg result : Nat} {pk : Packet} {hold : Bool} {s : State} (h : ¬(q.op = 0x13 ∨ q.op = 0x14)) :
    (finish q st harg result pk hold s).dir.entries = s.dir.entries := by
  cases hold with
  | false => exact (finish_gone (.inr h)).2.1
  | true =>
    unfold finish
    extract_lets t u v
    have hv : v.dir = s.dir := by
      refine (Frame.dir_eq (P := [.ctrs]) (frame_onlyIf (fun v hv => frame_bump (by decide) hv) (frame_onlyIf (fun v hv => frame_bump (by decide) hv) (Frame.refl _ t))) rfl).trans ?_
      unfold t
      split
      · exact Frame.dir_eq (P := [.ledger, .mirror, .leaves, .ctrs]) (frame_ledgerWrite (by decide) (Frame.refl _ s)) rfl
      · rfl
    rw [← hv]
    split
    · rfl
    · exact (releaseAnswer_gone (.inr h)).2.1

theorem statusPacket_timeout (p : Packet) (harg : Nat) : (statusPacket p .timeout harg).status ≠ 0 := by
  have hcode : Status.timeout.code ≠ 0 := by decide
  unfold statusPacket
  split
  · exact hcode
  · split <;> exact hcode

/-! ### Requests ordered at a free line -/

theorem entries_touchEntry {line : Nat} {s : State} (h : s.entry line = none) : (touchEntry line s).dir.entries = s.dir.entries := by
  have hno : ∀ e ∈ s.dir.entries, e.1 ≠ line := by
    unfold State.entry at h
    generalize s.dir.entries = l at h
    induction l with
    | nil => exact fun e he => absurd he List.not_mem_nil
    | cons x xs ih =>
      obtain ⟨k, v⟩ := x
      rw [aget] at h
      split at h
      · exact absurd h nofun
      · rename_i hk
        intro e he
        rcases List.mem_cons.mp he with rfl | he
        · exact hk
        · exact ih h e he
  show s.dir.entries.filter (fun e => e.1 != line) ++ s.dir.entries.filter (fun e => e.1 == line) = _
  rw [List.filter_eq_self.mpr fun e he => bne_iff_ne.mpr (hno e he), List.filter_eq_nil_iff.mpr fun e he => by simpa using hno e he, List.append_nil]

theorem logError_cells (kind action channel pa symbol tenant unit : Nat) (s : State) : (logError kind action channel pa symbol tenant unit s).mem = s.mem :=
  Frame.mem_eq (P := [.integ, .ctrs]) (frame_logError (by decide) (Frame.refl _ s)) rfl

theorem countMismatch_cells (line tenant : Nat) (s : State) : (countMismatch line tenant s).mem.cells = s.mem.cells := by
  unfold countMismatch
  extract_lets m
  split
  · split <;> rfl
  · split
    · exact congrArg MemState.cells (logError_cells ..)
    · rfl

theorem countMismatch_frame (line tenant : Nat) (s : State) : Frame [.mem, .integ, .ctrs] s (countMismatch line tenant s) :=
  frame_countMismatch (by decide) (Frame.refl _ s)

theorem serve_readOnce {s : State} {q : Request} (hop : q.op = 0x12) : serve q s
    = finishRead { q with ordered := true } ((orderedHere q s).view q.line q.tenant q.keyId).1 ((orderedHere q s).view q.line q.tenant q.keyId).2 0
      (countMismatch q.line q.tenant (orderedHere q s)) := by
  obtain ⟨src, tag, op, rest⟩ := q
  cases hop
  rfl

/-- A RD_ONCE ordered at a free line is answered; entries and bytes stay (R250). -/
theorem requestOrdered_readOnce {s : State} {q : Request} (h : s.orders q = true) (hop : q.op = 0x12) (hentry : s.entry q.line = none)
    (hhand : (s.lineMeta q.line).inPantry = true) : Does (.requestOrdered q.src q.tag) s (fun t =>
      ∃ w, t = settleWaits w ∧ w.request q.src q.tag = none ∧ w.dir.entries = s.dir.entries ∧ w.mem.cells = s.mem.cells) := by
  obtain ⟨-, -, -, -, -, -, -, -, hkept, hrecall⟩ := orders_iff.mp h
  have hdirect := orders_direct h
  obtain ⟨u, hu⟩ : ∃ u, u = countMismatch q.line q.tenant (orderedHere q (usePantry q (touchEntry q.line (leaveCrossbar q.line q.src q.tag s)))) := ⟨_, rfl⟩
  obtain ⟨bad, data, hserve⟩ : ∃ bad data, present q false (leaveCrossbar q.line q.src q.tag s) = finishRead { q with ordered := true } bad data 0 u := by
    rw [@present_no_grant (leaveCrossbar q.line q.src q.tag s) q hrecall hkept hentry (by simp [State.wouldGrant, hop]),
      @serveOrRead_at_hand (touchEntry q.line (leaveCrossbar q.line q.src q.tag s)) q hdirect (.inr hhand) (by rw [hop]; decide), serve_readOnce hop, hu]
    exact ⟨_, _, rfl⟩
  have hentries : u.dir.entries = s.dir.entries := by
    rw [hu, (countMismatch_frame ..).dir_eq rfl]
    show (usePantry q _).dir.entries = _
    rw [(usePantry_frame ..).dir_eq rfl, entries_touchEntry (by exact hentry)]
    rfl
  have hcells : u.mem.cells = s.mem.cells := by
    rw [hu, countMismatch_cells]
    exact usePantry_cells ..
  obtain ⟨hgone, hleft, -⟩ := @finish_gone { q with ordered := true } (if bad then .poisoned else .ok) 0 0
    (u.sealFor q.tenant (mkPacket (if q.op == 0x60 then 6 else 3) (if q.op == 0x60 then 0x61 else 0x30) q.src q.pkt.dest q.tag
      (if bad then Status.poisoned else .ok).code (if q.op == 0x60 then 0 else 0) bad data)) u (.inr (by show ¬(q.op = 0x13 ∨ q.op = 0x14); rw [hop]; decide))
  refine ⟨_, exec_requestOrdered h (by rw [hop]; decide), _, rfl, ?_, ?_, ?_⟩
  · rw [(settleAged_frame ..).request_eq rfl, hserve]
    exact hgone
  · have hnone : (present q false (leaveCrossbar q.line q.src q.tag s)).dir.entries = s.dir.entries := by
      rw [hserve, ← hentries]
      exact hleft
    rw [(settleAged_dir ..).2.2 (by rw [State.entry, hnone]; exact hentry), hnone]
  · rw [(settleAged_frame ..).mem_eq rfl, hserve, Frame.mem_eq (P := [.txn, .ledger, .dir, .mirror, .leaves, .sec, .ctrs]) (frame_finishRead (by decide) (Frame.refl _ u)) rfl, hcells]

/-! ### Requests that wait no longer, and halves without requests -/

theorem finishStatus_timeout (q : Request) (s : State) : (finishStatus q .timeout 0 false s).request q.src q.tag = none :=
  (finish_gone (.inl (statusPacket_timeout q.pkt 0))).1

theorem pairingTimeout_request {s : State} {q : Request} (hfrozen : s.frozen = false) (hq : s.request q.src q.tag = some q) (hhalf : needsHalf q.op = true)
    (hdata : q.data = none) (hfirst : q.ordered = false) : Does (.pairingTimeout q.src q.tag) s (fun t =>
      ∃ w, t = settleWaits w ∧ w.request q.src q.tag = none ∧ w.mem = s.mem) := by
  refine ⟨_, ?_, timeoutFired 5 4 q.port q.tag (bump .pairingTimeouts q.port (finishStatus q .timeout 0 false s)), rfl, ?_, ?_⟩
  · rw [exec, execPairingTimeout, hfrozen, if_neg Bool.false_ne_true, hq]
    dsimp only
    rw [hhalf, hdata, hfirst]
    rfl
  · rw [(timeoutFired_frame ..).request_eq rfl, Frame.request_eq (P := [.ctrs]) (frame_bump (by decide) (Frame.refl _ _)) rfl, finishStatus_timeout]
  · rw [(timeoutFired_frame ..).mem_eq rfl, Frame.mem_eq (P := [.ctrs]) (frame_bump (by decide) (Frame.refl _ _)) rfl, (finish_frame ..).mem_eq rfl]

theorem pairingTimeout_half {s : State} {src tag : Nat} {h : Nat × Packet} (hfrozen : s.frozen = false) (hq : s.request src tag = none)
    (hh : s.txn.halves.find? (fun h => h.2.src == src && h.2.tag == tag) = some h) :
    Does (.pairingTimeout src tag) s (fun t => t.txn.halves = s.txn.halves.erase h ∧ t.mem = s.mem) := by
  refine ⟨timeoutFired 5 4 h.1 tag (bump .unpairedData h.1 (s.onTxn (fun t => { t with halves := t.halves.erase h }))), ?_, ?_, ?_⟩
  · rw [exec, execPairingTimeout, hfrozen, if_neg Bool.false_ne_true, hq]
    dsimp only
    rw [hh]
  · exact (congrArg TxnState.halves ((timeoutFired_frame 5 4 h.1 tag _).txn_rest rfl) : (timeoutFired 5 4 h.1 tag _).txn.rest.halves = (bump _ _ _).txn.rest.halves)
  · rw [(timeoutFired_frame ..).mem_eq rfl]
    rfl

theorem requestWithdraw_does {s : State} {q : Request} (hfrozen : s.frozen = false) (hq : s.request q.src q.tag = some q) (hfirst : q.ordered = false) :
    Does (.requestWithdraw q.src q.tag) s (fun t => ∃ w, t = settleWaits w ∧ w.request q.src q.tag = none ∧ w.mem = s.mem) := by
  obtain ⟨u, hu⟩ : ∃ u, u = onlyIf (needsHalf q.op && q.data.isNone) (releaseHalf q.pkt false)
    (s.onDeep (fun d => { d with waiting := d.waiting.filter (fun w => !(w.2.2.1 == q.src && w.2.2.2 == q.tag)) })) := ⟨_, rfl⟩
  have hmem : u.mem = s.mem := by
    rw [hu, Frame.mem_eq (P := [.txn, .ctrs]) (frame_onlyIf (fun v hv => frame_releaseHalf (by decide) hv) (Frame.refl _ _)) rfl]
    rfl
  refine ⟨_, ?_, settleAged q.line (timeoutFired 9 4 q.port q.tag (finishStatus q .timeout 0 false u)), rfl, ?_, ?_⟩
  · rw [exec, execRequestWithdraw, hfrozen, if_neg Bool.false_ne_true, hq]
    dsimp only
    rw [hfirst, if_neg Bool.false_ne_true, hu]
  · rw [(settleAged_frame ..).request_eq rfl, (timeoutFired_frame ..).request_eq rfl, finishStatus_timeout]
  · rw [(settleAged_frame ..).mem_eq rfl, (timeoutFired_frame ..).mem_eq rfl, (finish_frame ..).mem_eq rfl, hmem]

/-! ### Shared reads of a free line -/

theorem aliasBad_touchEntry (q : Request) (line : Nat) (s : State) : (touchEntry line s).aliasBad q = s.aliasBad q := by
  obtain ⟨es, rs, hdir, -, hrs⟩ := touchEntry_dir line s
  unfold State.aliasBad
  rw [hdir, hrs]

/-- The order of use changes how many entries or regions are of a kind in nothing. -/
theorem length_filter_lastUsed {V : Type} (t : Assoc Nat V) (k : Nat) (c : Nat × V → Bool) :
    ((t.filter (fun e => e.1 != k) ++ t.filter (fun e => e.1 == k)).filter c).length = (t.filter c).length := by
  have hperm : (t.filter (fun e => e.1 != k) ++ t.filter (fun e => e.1 == k)).Perm t := by
    refine (List.perm_append_comm).trans ?_
    have hne : t.filter (fun e => e.1 != k) = t.filter (fun e => !(e.1 == k)) := List.filter_congr fun e _ => rfl
    rw [hne]
    exact List.filter_append_perm (fun e => e.1 == k) t
  exact (hperm.filter c).length_eq

theorem length_lastUsed {V : Type} (t : Assoc Nat V) (k : Nat) :
    (t.filter (fun e => e.1 != k) ++ t.filter (fun e => e.1 == k)).length = t.length := by
  have h := length_filter_lastUsed t k (fun _ => true)
  rwa [List.filter_true, List.filter_true] at h

/-- The regions that share a set with a line's, where it would be a new one (R245). -/
def State.regionRivals (s : State) (line : Nat) : Nat :=
  if ahas s.dir.regions (regionOf line) || decide (s.dir.regions.length < 8) then 0
  else (s.dir.regions.filter (fun x => homeDie (x.1 * 4096) == homeDie (line * 128)
    && Config.regionHash x.1 % 65536 == Config.regionHash (regionOf line) % 65536)).length

/-- The entries that share a set with a line's, where it would be a new one (R240). -/
def State.entryRivals (s : State) (line : Nat) : Nat :=
  if ahas s.dir.entries line || decide (s.dir.entries.length < 16) then 0
  else (s.dir.entries.filter (fun x => homeDie (x.1 * 128) == homeDie (line * 128) && Config.sliceHash x.1 % 32 == Config.sliceHash line % 32
    && Config.setHash x.1 % 16384 == Config.setHash line % 16384)).length

theorem room_ok_iff {line : Nat} {s : State} : s.room line = .ok ↔ s.regionRivals line < 8 ∧ s.entryRivals line < 16 := by
  unfold State.room State.regionRivals State.entryRivals
  extract_lets die reg regs set
  have hregs : (if (ahas s.dir.regions (regionOf line) || decide (s.dir.regions.length < 8)) = true then 0 else (s.dir.regions.filter (fun x =>
      homeDie (x.1 * 4096) == homeDie (line * 128) && Config.regionHash x.1 % 65536 == Config.regionHash (regionOf line) % 65536)).length) = regs.length := by
    simp only [regs, reg, die]
    split <;> rfl
  rw [hregs]
  clear hregs
  clear_value regs
  by_cases hcrowd : regs.length ≥ 8
  · rw [if_pos hcrowd]
    have hhead : regs.head? ≠ none := fun h => by
      rw [List.head?_eq_none_iff.mp h] at hcrowd
      exact absurd hcrowd (by decide)
    obtain ⟨v, hv⟩ := Option.ne_none_iff_exists'.mp hhead
    rw [hv]
    exact ⟨fun h => (nomatch h), fun h => absurd h.1 (Nat.not_lt.mpr hcrowd)⟩
  · rw [if_neg hcrowd]
    split
    · exact ⟨fun _ => ⟨Nat.lt_of_not_le hcrowd, by decide⟩, fun _ => rfl⟩
    · show (if set.length < 16 then _ else _) = _ ↔ _ ∧ set.length < 16
      split
      · exact ⟨fun _ => ⟨Nat.lt_of_not_le hcrowd, ‹_›⟩, fun _ => rfl⟩
      · refine ⟨fun h => ?_, fun h => absurd h.2 ‹_›⟩
        split at h <;> cases h

/-- Room is what the sets and regions leave, whatever the order of use (R240). -/
theorem room_ok_touchEntry {line : Nat} {s : State} (h : s.room line = .ok) : (touchEntry line s).room line = .ok := by
  obtain ⟨es, rs, hdir, hes, hrs⟩ := touchEntry_dir line s
  have hentries : ahas (touchEntry line s).dir.entries line = ahas s.dir.entries line := by rw [ahas, ahas, hdir, hes]
  have hregions : ahas (touchEntry line s).dir.regions (regionOf line) = ahas s.dir.regions (regionOf line) := by rw [ahas, ahas, hdir, hrs]
  have hcount : (touchEntry line s).dir.entries.length = s.dir.entries.length := length_lastUsed ..
  have hcount' : (touchEntry line s).dir.regions.length = s.dir.regions.length := length_lastUsed ..
  have hset : ∀ c, ((touchEntry line s).dir.entries.filter c).length = (s.dir.entries.filter c).length := length_filter_lastUsed s.dir.entries line
  have hregs : ∀ c, ((touchEntry line s).dir.regions.filter c).length = (s.dir.regions.filter c).length := length_filter_lastUsed s.dir.regions (regionOf line)
  rw [room_ok_iff] at h ⊢
  unfold State.regionRivals State.entryRivals at h ⊢
  rw [hentries, hregions, hcount, hcount', hset, hregs]
  exact h

/-- A line that is at hand after the pantry was used keeps its META but for the key. -/
theorem lineMeta_usePantry {q : Request} {s : State} : ((usePantry q s).lineMeta q.line).poison = (s.lineMeta q.line).poison
    ∧ ((usePantry q s).lineMeta q.line).tenant = (s.lineMeta q.line).tenant := by
  unfold usePantry onlyIf
  split
  · have hmeta : (pantryUse q.line (setMeta q.line (fun m => { m with keyId := q.keyId }) s)).lineMeta q.line = { s.lineMeta q.line with keyId := q.keyId } := by
      show agetD (aset s.mem.lines q.line _) q.line _ = _
      rw [agetD_aset_same]
      rfl
    rw [hmeta]
    exact ⟨rfl, rfl⟩
  · exact ⟨rfl, rfl⟩

theorem readsPoisoned_usePantry {q : Request} {s : State} (hdirect : isDeepPa (q.line * 128) = false) (tenant : Nat) :
    (usePantry q s).readsPoisoned q.line tenant false = s.readsPoisoned q.line tenant false := by
  obtain ⟨hpoison, htenant⟩ := @lineMeta_usePantry q s
  unfold State.readsPoisoned State.metaOf
  rw [storeOf_direct hdirect, storeOf_direct hdirect, lineFailed_congr hdirect ((usePantry_frame q s).dram_eq rfl)]
  dsimp only
  rw [hpoison, htenant]

/-- What a shared read that is served makes of what it sees of the line (R250). -/
def sharedRead (q : Request) (v : Bool × List Byte) (s : State) : State :=
  if v.1 then finishRead q true v.2 0 s
  else match s.entry q.line with
    | none =>
      finishRead q false v.2 (if s.obj .exclusiveGrant == 1 && !q.down then 2 else 1)
        (grantEntry q.line q.ctx q.pkt.addr (mkEntry (if s.obj .exclusiveGrant == 1 && !q.down then .exclusive else .shared) q.slot) s)
    | some e => finishRead q false v.2 1 (grantEntry q.line q.ctx q.pkt.addr ({ e with st := .shared }.share q.slot) s)

theorem serve_sharedRead {s : State} {q : Request} (hop : q.op = 0x10) : serve q s
    = sharedRead { q with ordered := true } ((orderedHere q s).view q.line q.tenant q.keyId) (countMismatch q.line q.tenant (orderedHere q s)) := by
  obtain ⟨src, tag, op, rest⟩ := q
  cases hop
  rfl

theorem serve_readShared {s : State} {q : Request} (hop : q.op = 0x10) (hclean : s.readsPoisoned q.line q.tenant false = false) (hentry : s.entry q.line = none)
    (hdown : q.down = false) : ∃ data granted, serve q s = finishRead { q with ordered := true } false data granted (grantEntry q.line q.ctx q.pkt.addr
      (mkEntry (if s.obj .exclusiveGrant = 1 then .exclusive else .shared) q.slot) (countMismatch q.line q.tenant (orderedHere q s))) := by
  have hview : (orderedHere q s).view q.line q.tenant q.keyId = (false, (orderedHere q s).dataOf q.line q.tenant q.keyId) :=
    if_neg (by rw [show (orderedHere q s).readsPoisoned q.line q.tenant false = false from hclean]; exact Bool.false_ne_true)
  have hnone : (countMismatch q.line q.tenant (orderedHere q s)).entry q.line = none := by
    rw [State.entry, (countMismatch_frame ..).dir_eq rfl]
    exact hentry
  have hobj : (countMismatch q.line q.tenant (orderedHere q s)).obj .exclusiveGrant = s.obj .exclusiveGrant := (countMismatch_frame ..).obj_eq rfl _
  rw [serve_sharedRead hop, hview]
  generalize countMismatch q.line q.tenant (orderedHere q s) = w at hnone hobj ⊢
  unfold sharedRead
  rw [if_neg Bool.false_ne_true]
  dsimp only
  rw [show w.entry (Request.line { q with ordered := true }) = none from hnone, hobj, hdown, Bool.not_false, Bool.and_true]
  dsimp only
  exact ⟨_, _, by congr 2; simp only [beq_iff_eq]⟩

theorem entry_grantEntry (line ctx addr : Nat) (e : DirEntry) (s : State) : ((grantEntry line ctx addr e s).entry line).map (fun e => { e with aged := false })
    = some { e with aged := false } := by
  unfold grantEntry
  extract_lets reg t
  rw [entry_putEntry, if_pos rfl]
  rfl

theorem finishRead_entries {q : Request} {data : List Byte} {poison : Bool} {granted : Nat} {s : State} (h : ¬(q.op = 0x13 ∨ q.op = 0x14)) :
    (finishRead q poison data granted s).dir.entries = s.dir.entries := finish_entries h

/-- At a free line with room, and no other address of it in use, a request is served at once (R249, R250). -/
theorem present_with_room {s : State} {q : Request} (hrecall : s.recalling q.line = false) (hkept : s.keptFrom q.line q.src q.tag = false)
    (hentry : s.entry q.line = none) (halias : s.aliasBad q = false) (hroom : s.room q.line = .ok) :
    present q false s = serveOrRead q (touchEntry q.line s) := by
  unfold present
  dsimp only
  rw [hrecall, hkept, Bool.false_or, if_neg Bool.false_ne_true, hentry]
  dsimp only
  rw [aliasBad_touchEntry, halias, Bool.and_false, if_neg Bool.false_ne_true, recallNeed_of_no_entry ((entry_touchEntry ..).trans hentry)]
  dsimp only
  split
  · unfold serveInRoom
    rw [room_ok_touchEntry hroom]
  · rfl

/-- A shared read of a free line with room is granted the line: Exclusive where EXCLUSIVE_GRANT says so, else Shared (R250). -/
theorem requestOrdered_readShared {s : State} {q : Request} (h : s.orders q = true) (hop : q.op = 0x10) (hentry : s.entry q.line = none)
    (hhand : (s.lineMeta q.line).inPantry = true) (halias : s.aliasBad q = false) (hroom : s.room q.line = .ok)
    (hclean : s.readsPoisoned q.line q.tenant false = false) (hdown : q.down = false) : Does (.requestOrdered q.src q.tag) s (fun t => ∃ w, t = settleWaits w
      ∧ (w.entry q.line).map (fun e => { e with aged := false })
        = some (mkEntry (if s.obj .exclusiveGrant = 1 then .exclusive else .shared) q.slot) ∧ w.mem.cells = s.mem.cells) := by
  obtain ⟨-, -, -, -, -, -, -, -, hkept, hrecall⟩ := orders_iff.mp h
  have hdirect := orders_direct h
  have hframe : Frame [.dir] s (touchEntry q.line (leaveCrossbar q.line q.src q.tag s)) :=
    frame_touchEntry (by decide) (frame_leaveCrossbar (by decide) (Frame.refl _ s))
  have hpresent : present q false (leaveCrossbar q.line q.src q.tag s) = serve q (usePantry q (touchEntry q.line (leaveCrossbar q.line q.src q.tag s))) := by
    rw [@present_with_room (leaveCrossbar q.line q.src q.tag s) q hrecall hkept hentry halias hroom,
      @serveOrRead_at_hand (touchEntry q.line (leaveCrossbar q.line q.src q.tag s)) q hdirect (.inr hhand) (by rw [hop]; decide)]
    rfl
  have hpoisoned : (touchEntry q.line (leaveCrossbar q.line q.src q.tag s)).readsPoisoned q.line q.tenant false = false := hclean
  have hnone : (touchEntry q.line (leaveCrossbar q.line q.src q.tag s)).entry q.line = none := (entry_touchEntry ..).trans hentry
  generalize touchEntry q.line (leaveCrossbar q.line q.src q.tag s) = u at hframe hpresent hpoisoned hnone
  have hpantry := usePantry_frame q u
  obtain ⟨data, granted, hserve⟩ := serve_readShared (s := usePantry q u) hop ((readsPoisoned_usePantry hdirect q.tenant).trans hpoisoned)
    (by rw [State.entry, hpantry.dir_eq rfl]; exact hnone) hdown
  have hobj : (usePantry q u).obj .exclusiveGrant = s.obj .exclusiveGrant := (hpantry.obj_eq rfl _).trans (hframe.obj_eq rfl _)
  rw [hobj] at hserve
  have hmeta : (countMismatch q.line q.tenant (orderedHere q (usePantry q u))).mem.cells = s.mem.cells := by
    rw [countMismatch_cells]
    exact (usePantry_cells q u).trans (congrArg MemState.cells (hframe.mem_eq rfl))
  generalize countMismatch q.line q.tenant (orderedHere q (usePantry q u)) = w at hserve hmeta
  have hnot : ¬ (q.op = 0x13 ∨ q.op = 0x14) := by rw [hop]; decide
  refine ⟨_, exec_requestOrdered h (by rw [hop]; decide), _, rfl, ?_, ?_⟩
  · rw [(settleAged_dir ..).2.1, hpresent, hserve, State.entry, finishRead_entries (q := { q with ordered := true }) hnot]
    exact entry_grantEntry ..
  · rw [(settleAged_frame ..).mem_eq rfl, hpresent, hserve,
      Frame.mem_eq (P := [.txn, .ledger, .dir, .mirror, .leaves, .sec, .ctrs]) (frame_finishRead (by decide) (Frame.refl _ _)) rfl,
      Frame.mem_eq (P := [.dir, .mirror, .leaves, .ctrs]) (frame_grantEntry (by decide) (Frame.refl _ w)) rfl]
    exact hmeta

/-! ### A unique read recalls the holder -/

theorem takeable_of_not_evicting {s : State} {slot line : Nat} (h : s.evicting slot line = false) : s.takeable slot line = none := by
  unfold State.evicting at h
  rw [List.any_eq_false] at h
  unfold State.takeable
  rw [List.find?_eq_none]
  intro v hv hmatch
  rw [Bool.and_eq_true] at hmatch
  exact h v hv hmatch.1

theorem reqs_issuePool (issuer : Issuer) (key : Nat) (port : Option Nat) (p : Packet) (s : State) : (issuePool issuer key port p s).txn.reqs = s.txn.reqs := by
  unfold issuePool
  split
  · unfold sendPool
    extract_lets t
    refine (Frame.reqs_eq (P := [.ledger]) (frame_tookTag (by decide) (Frame.refl _ _)) rfl).trans ?_
    show t.txn.reqs = s.txn.reqs
    refine Frame.reqs_eq (P := [.ledger, .leaves]) ?_ rfl
    simp only [t]
    split
    · exact frame_sendOnPort (by decide) (Frame.refl _ s)
    · exact frame_sendPacket (by decide) (Frame.refl _ s)
  · rfl

theorem reqs_sendSnoop (down : Bool) (line slot : Nat) (s : State) : (sendSnoop down line slot s).txn.reqs = s.txn.reqs := by
  unfold sendSnoop
  split
  · exact (Frame.reqs_eq (P := [.ctrs]) (frame_bump (by decide) (Frame.refl _ _)) rfl).trans (reqs_issuePool ..)
  · rfl

/-- A recall of a line is open. -/
def recallOpened (line : Nat) (r : Recall) (s : State) : State := s.onDir (fun d => { d with recalls := aset d.recalls line r })

/-- The recall awaits the answer of one more holder. -/
def Recall.awaiting (h : Nat) (r : Recall) : Recall := { r with awaited := r.awaited ++ [h] }

/-- The recall of a line awaits the answer of one more holder. -/
def holderAwaited (line h : Nat) (s : State) : State :=
  s.onDir (fun d => { d with recalls := d.recalls.map (fun x => if x.1 = line then (x.1, x.2.awaiting h) else x) })

/-- The recall of a line from one holder that answers, before its snoop leaves (R253). -/
theorem startRecall_one {line h kind : Nat} {down : Bool} {keep : List Nat} {cause : RecallCause} {e : DirEntry} {s : State} (hentry : s.entry line = some e)
    (hanswers : ((aget s.part.slots h).map Slot.answers).getD false = true) (hevicting : s.evicting h line = false) :
    (startRecall line down [h] kind keep cause s).recalling line = true
      ∧ (aget (startRecall line down [h] kind keep cause s).dir.recalls line).map Recall.awaited = some [h]
      ∧ (startRecall line down [h] kind keep cause s).txn.reqs = s.txn.reqs := by
  obtain ⟨r, hr, hlive⟩ : ∃ r, aget s.part.slots h = some r ∧ r.answers = true := by
    cases hr : aget s.part.slots h with
    | none => rw [hr] at hanswers; exact absurd hanswers Bool.false_ne_true
    | some r => rw [hr] at hanswers; exact ⟨r, rfl, hanswers⟩
  obtain ⟨u, hu⟩ : ∃ u, u = recallOpened line { down := down, awaited := [], crossed := [], dataDue := [], keep := keep, cause := cause }
      (putEntry line { e with recalling := true, kind := kind } s) := ⟨_, rfl⟩
  have huframe : Frame [.dir, .mirror, .leaves, .ctrs] s u := hu ▸ frame_onDir (by decide) (frame_putEntry (by decide) (Frame.refl _ s))
  have huevicts : u.evicting h line = false := by
    have hevicts : u.dir.evicts = s.dir.evicts := by rw [hu]; exact evicts_putEntry ..
    unfold State.evicting at hevicting ⊢
    rw [hevicts]
    exact hevicting
  have huentry : u.entry line = some { e with recalling := true, kind := kind } := by
    rw [hu]
    exact (entry_putEntry ..).trans (if_pos rfl)
  have hurecalls : aget u.dir.recalls line = some { down := down, awaited := [], crossed := [], dataDue := [], keep := keep, cause := cause } := by
    rw [hu]
    exact aget_aset_same ..
  have hslot : aget u.part.slots h = some r := by rw [huframe.part_eq rfl]; exact hr
  have hreqs : u.txn.reqs = s.txn.reqs := huframe.reqs_eq rfl
  obtain ⟨v, hv⟩ : ∃ v, v = sendSnoop down line h (holderAwaited line h u) := ⟨_, rfl⟩
  have hvdir : v.dir = (holderAwaited line h u).dir := hv ▸ Frame.dir_eq (P := [.txn, .ledger, .leaves, .ctrs]) (frame_sendSnoop (by decide) (Frame.refl _ _)) rfl
  have hvrecalls : aget v.dir.recalls line = some { down := down, awaited := [h], crossed := [], dataDue := [], keep := keep, cause := cause } := by
    rw [hvdir]
    refine (aget_map_value u.dir.recalls line (Recall.awaiting h)).trans ?_
    rw [hurecalls]
    rfl
  have hresult : startRecall line down [h] kind keep cause s = v := by
    unfold startRecall
    rw [hentry]
    dsimp only
    unfold recallOpened at hu
    rw [← hu]
    unfold forAll
    rw [List.foldl_cons, List.foldl_nil]
    dsimp only
    rw [hslot]
    dsimp only
    simp only [hlive, takeable_of_not_evicting huevicts, huevicts, Bool.not_true, Bool.false_eq_true, if_false]
    unfold holderAwaited Recall.awaiting at hv
    rw [← hv, hvrecalls]
    rfl
  rw [hresult]
  refine ⟨?_, by rw [hvrecalls]; rfl, ?_⟩
  · rw [State.recalling, State.entry, hvdir]
    show ((u.entry line).map DirEntry.recalling).getD false = true
    rw [huentry]
    rfl
  · rw [hv, reqs_sendSnoop]
    exact hreqs

/-- A unique read of a line that one other slot holds Modified recalls that slot (R250, R253). -/
theorem present_recalls {s : State} {q : Request} {e : DirEntry} {h : Nat} (hrecall : s.recalling q.line = false) (hkept : s.keptFrom q.line q.src q.tag = false)
    (hop : q.op = 0x11) (hentry : s.entry q.line = some e) (hfine : e.coarse = false) (hst : e.st = .modified) (hptrs : e.ptrs = [h]) (hother : h ≠ q.slot)
    (halias : s.aliasBad q = false) (hanswers : ((aget s.part.slots h).map Slot.answers).getD false = true) (hevicting : s.evicting h q.line = false) :
    present q false s = startRecall q.line false [h] 2 [] (.request q.src q.tag)
      (setRequest q.src q.tag (fun x => { x with phase := .recalling, ordered := true, down := false }) (touchEntry q.line s)) := by
  have hmine : e.has q.slot = false := by
    rw [DirEntry.has, hfine, if_neg Bool.false_ne_true, hptrs, List.contains_cons, List.contains_nil, Bool.or_false]
    exact beq_eq_false_iff_ne.mpr hother.symm
  have hneed : (touchEntry q.line s).recallNeed q.line (accOf q.op) (some q.slot) = some (false, [h]) := by
    unfold State.recallNeed
    rw [entry_touchEntry, hentry, hop]
    dsimp only [accOf]
    rw [hst, hmine, hptrs]
    rfl
  have hkeep : ¬ accOf q.op = .upgrade := by rw [hop]; decide
  obtain ⟨hrecalling, -, -⟩ := startRecall_one (line := q.line) (h := h) (kind := 2) (down := false) (keep := []) (cause := .request q.src q.tag) (e := e)
    (s := setRequest q.src q.tag (fun x => { x with phase := .recalling, ordered := true, down := false }) (touchEntry q.line s))
    ((entry_touchEntry ..).trans hentry) hanswers hevicting
  unfold present
  dsimp only
  rw [hrecall, hkept, Bool.false_or, if_neg Bool.false_ne_true, hentry]
  dsimp only
  simp only [hmine, Bool.and_false, Bool.false_and, Bool.false_eq_true, if_false, aliasBad_touchEntry, halias, hneed, hkeep, hrecalling, if_true]

/-- Settling what has aged leaves a line in its recall. -/
theorem recalling_settleAged (line l : Nat) (s : State) : (settleAged line s).recalling l = s.recalling l := by
  have hmap := congrArg (fun e : Option DirEntry => (e.map DirEntry.recalling).getD false) ((settleAged_dir line s).2.1 l)
  rw [Option.map_map, Option.map_map] at hmap
  exact hmap

theorem requestOrdered_recalls {s : State} {q : Request} {e : DirEntry} {h : Nat} (horders : s.orders q = true) (hop : q.op = 0x11)
    (hentry : s.entry q.line = some e) (hfine : e.coarse = false) (hst : e.st = .modified) (hptrs : e.ptrs = [h]) (hother : h ≠ q.slot)
    (halias : s.aliasBad q = false) (hanswers : ((aget s.part.slots h).map Slot.answers).getD false = true) (hevicting : s.evicting h q.line = false) :
    Does (.requestOrdered q.src q.tag) s (fun t => ∃ w, t = settleWaits w ∧ w.recalling q.line = true
      ∧ ((aget w.dir.recalls q.line).map Recall.awaited) = some [h] ∧ (w.request q.src q.tag).map Request.phase = some .recalling) := by
  obtain ⟨-, hq, -, -, -, -, -, -, hkept, hrecall⟩ := orders_iff.mp horders
  have hpresent := @present_recalls (leaveCrossbar q.line q.src q.tag s) q e h hrecall hkept hop hentry hfine hst hptrs hother halias hanswers hevicting
  obtain ⟨hrecalling, hawaited, hreqs⟩ := startRecall_one (line := q.line) (h := h) (kind := 2) (down := false) (keep := []) (cause := .request q.src q.tag) (e := e)
    (s := setRequest q.src q.tag (fun x => { x with phase := .recalling, ordered := true, down := false })
      (touchEntry q.line (leaveCrossbar q.line q.src q.tag s))) ((entry_touchEntry ..).trans hentry) hanswers hevicting
  have hfound := request_setRequest (s := touchEntry q.line (leaveCrossbar q.line q.src q.tag s))
    (fun x => { x with phase := .recalling, ordered := true, down := false }) hq rfl rfl
  rw [← hpresent] at hrecalling hawaited hreqs
  refine ⟨_, exec_requestOrdered horders (by rw [hop]; decide), settleAged q.line (present q false (leaveCrossbar q.line q.src q.tag s)), rfl, ?_, ?_, ?_⟩
  · rw [recalling_settleAged]
    exact hrecalling
  · rw [(settleAged_dir ..).1]
    exact hawaited
  · rw [(settleAged_frame ..).request_eq rfl, State.request, hreqs]
    exact congrArg (Option.map Request.phase) hfound

/-! ### Parked requests, and recalls that are late -/

theorem parkedPresent_request {s : State} {line : Nat} {x : Request} (hfrozen : s.frozen = false) (hrecall : s.recalling line = false)
    (hparked : s.parkedAt line = [.request x]) (hx : s.request x.src x.tag = some x) (hphase : x.phase = .parked) :
    Does (.parkedPresent line) s (fun t => t = settleWaits (orderRequest x true s)) := by
  refine ⟨_, ?_, rfl⟩
  rw [exec, execParkedPresent, hfrozen, if_neg Bool.false_ne_true, hrecall, if_neg Bool.false_ne_true, hparked]
  unfold forAll
  rw [List.foldl_cons, List.foldl_nil]
  dsimp only
  rw [hx]
  dsimp only
  rw [if_pos hphase]

/-- What a recall that is closed leaves of its line's entry. -/
theorem entry_closeRecall {line : Nat} {s : State} {e : DirEntry} {r : Recall} (hr : aget s.dir.recalls line = some r) (he : s.entry line = some e)
    (hfine : e.coarse = false) (h : Nat) (hgone : e.has h = false) : ∀ x, (closeRecall line s).entry line = some x → x.has h = false := by
  unfold closeRecall
  extract_lets t
  rw [show aget t.dir.recalls line = some r from hr, show t.entry line = some e from he]
  dsimp only
  rw [hfine, Bool.false_and, if_neg Bool.false_ne_true, entry_putOrDrop, if_pos rfl]
  generalize (if r.down = true then LineSt.shared else e.st) = st
  intro x hx
  split at hx
  · cases hx
  · obtain rfl := Option.some.inj hx
    rw [DirEntry.has] at hgone ⊢
    rw [hfine] at hgone
    exact hgone

/-- A holder that the recall of a line gives up. -/
def givenUp (line h : Nat) (s : State) : State :=
  settleSlot line h (match s.entry line with
    | some e => if e.coarse then s else putEntry line (e.without h) s
    | none => s)

theorem has_without (e : DirEntry) (h : Nat) (hfine : e.coarse = false) : (e.without h).has h = false := by
  have hfine' : (e.without h).coarse = false := hfine
  rw [DirEntry.has, hfine', if_neg Bool.false_ne_true]
  simp [DirEntry.without]

/-- A recall that no longer awaits a slot. -/
def Recall.heardFrom (h : Nat) (r : Recall) : Recall :=
  { r with awaited := r.awaited.filter (· ≠ h), crossed := r.crossed.filter (· ≠ h), dataDue := r.dataDue.filter (fun x => x.1 ≠ h) }

theorem givenUp_last {line h : Nat} {s : State} {e : DirEntry} {r : Recall} (hr : aget s.dir.recalls line = some r) (he : s.entry line = some e)
    (hfine : e.coarse = false) (hawaited : r.awaited = [h]) : aget (givenUp line h s).dir.recalls line = none
      ∧ ∀ x, (givenUp line h s).entry line = some x → x.has h = false := by
  obtain ⟨u, hu⟩ : ∃ u, u = putEntry line (e.without h) s := ⟨_, rfl⟩
  have hurecalls : aget u.dir.recalls line = some r := by rw [hu, recalls_putEntry]; exact hr
  have huentry : u.entry line = some (e.without h) := by rw [hu, entry_putEntry, if_pos rfl]
  have hgive : givenUp line h s = settleSlot line h u := by
    unfold givenUp
    rw [he]
    dsimp only
    rw [hfine, if_neg Bool.false_ne_true, ← hu]
  have hsettle : ∃ r' v, settleSlot line h u = closeRecall line v ∧ aget v.dir.recalls line = some r' ∧ v.entry line = u.entry line := by
    unfold settleSlot
    extract_lets v
    have hv : v.dir = { u.dir with recalls := aset u.dir.recalls line (r.heardFrom h) } := by
      simp only [v, State.onDir_dir, hurecalls]
      rfl
    have hvrecalls := congrArg (fun d : DirState => aget d.recalls line) hv
    dsimp only at hvrecalls
    rw [aget_aset_same] at hvrecalls
    have hnone : (r.heardFrom h).awaited.isEmpty = true := by
      show (r.awaited.filter (· ≠ h)).isEmpty = true
      rw [hawaited]
      simp
    refine ⟨_, v, ?_, hvrecalls, by rw [State.entry, hv]; rfl⟩
    rw [hvrecalls]
    exact if_pos hnone
  obtain ⟨r', v, hclose, hvrecalls, hventry⟩ := hsettle
  rw [hgive, hclose]
  exact ⟨(closeRecall_dir line v).1, entry_closeRecall hvrecalls (hventry.trans huentry) hfine h (has_without e h hfine)⟩

/-- The state in which a late recall gives its slots up: the timeout is reported and the snoops that wait are dropped (R253). -/
def recallLate (line : Nat) (r : Recall) (s : State) : State :=
  let s := timeoutFired 6 5 (sliceOf line) (line * 128) (bump .recallTimeouts (homeDie (line * 128)) s)
  let s := forAll r.awaited (fun a s => notifyLimited 0x1501 a 10000000 (fun _ => leBytes 8 (line * 128) ++ leBytes 2 a ++ leBytes 1 2) s) s
  dropPool (fun i dest key => i == .snoop && key == line && (r.awaited.filterMap (fun a => (aget s.part.slots a).map Slot.eid)).contains dest) s

theorem recallLate_frame (line : Nat) (r : Recall) (s : State) : Frame [.txn, .ledger, .leaves, .sessions, .rings, .kodp, .ctrs, .out] s (recallLate line r s) := by
  unfold recallLate
  exact frame_dropPool (by decide) (frame_forAll (fun a w hw => frame_notifyLimited (by decide) hw)
    (frame_timeoutFired (by decide) (frame_bump (by decide) (Frame.refl _ s))))

theorem recallDeadline_exec {line : Nat} {s : State} {e : DirEntry} {r : Recall} (hfrozen : s.frozen = false) (hr : aget s.dir.recalls line = some r)
    (he : s.entry line = some e) (hst : e.st = .shared) (hlost : e.lost = false) : exec (.recallDeadline line) s
      = .next (settleWaits (withRecall line (fun s => forAll r.awaited (givenUp line) s) (recallLate line r s))) := by
  rw [exec, execRecallDeadline, hfrozen, if_neg Bool.false_ne_true, hr, he]
  dsimp only
  have hhit : (e.lost || e.st == .modified && !e.coarse && r.awaited.any (fun a => e.ptrs.contains a)) = false := by
    rw [hlost, hst]
    rfl
  rw [hhit]
  rfl

theorem recallDeadline_closes {line h : Nat} {s : State} {e : DirEntry} {r : Recall} (hfrozen : s.frozen = false) (hr : aget s.dir.recalls line = some r)
    (he : s.entry line = some e) (hfine : e.coarse = false) (hst : e.st = .shared) (hawaited : r.awaited = [h]) (hcause : r.cause = .none)
    (hlost : e.lost = false) (hown : s.part.ownWrites = []) : Does (.recallDeadline line) s (fun t => ∃ w, t = settleWaits w
      ∧ aget w.dir.recalls line = none ∧ (∀ x, w.entry line = some x → x.has h = false) ∧ w.mem.cells = s.mem.cells) := by
  have hlate := recallLate_frame line r s
  have hexec := recallDeadline_exec hfrozen hr he hst hlost
  generalize recallLate line r s = u at hlate hexec
  have hur : aget u.dir.recalls line = some r := by rw [hlate.dir_eq rfl]; exact hr
  have hue : u.entry line = some e := by rw [State.entry, hlate.dir_eq rfl]; exact he
  obtain ⟨hclosed, hgone⟩ := givenUp_last hur hue hfine hawaited
  have hgive : Frame [.dir, .mirror, .leaves, .obs, .ctrs] u (givenUp line h u) := by
    unfold givenUp
    refine frame_settleSlot (by decide) ?_
    split
    · split
      · exact Frame.refl _ u
      · exact frame_putEntry (by decide) (Frame.refl _ u)
    · exact Frame.refl _ u
  have hwith : withRecall line (fun s => forAll r.awaited (givenUp line) s) u = givenUp line h u := by
    unfold withRecall forAll
    dsimp only
    rw [hawaited, List.foldl_cons, List.foldl_nil, hur, hclosed]
    dsimp only
    rw [hcause]
    unfold completeCause runOwn
    dsimp only
    rw [hgive.part_eq rfl, hlate.part_eq rfl, hown]
    rfl
  refine ⟨_, hexec, givenUp line h u, congrArg settleWaits hwith, hclosed, hgone, ?_⟩
  rw [hgive.mem_eq rfl, hlate.mem_eq rfl]

/-- Settles O9: a request that may be ordered is presented at its line, and what it is served, granted or recalled follows from the line's entry; the
bytes that change are those that a write commits. -/
theorem lineOrder : Obligations.LineOrder := by
  unfold Obligations.LineOrder
  intro s q
  refine ⟨?write, requestOrdered_readOnce, ?shared, ?unique, ?parked, ?late, pairingTimeout_request, ?half, requestWithdraw_does⟩
  case write => exact fun d horders hop hdata hentry hserves hdumps _ hwf => requestOrdered_write horders hop hdata hentry hserves hdumps hwf
  case shared => exact fun horders hop hentry hhand halias hroom hclean hdown => requestOrdered_readShared horders hop hentry hhand halias hroom hclean hdown
  case unique =>
    exact fun e h horders hop hentry hfine hst hptrs hother halias hanswers hevicting =>
      requestOrdered_recalls horders hop hentry hfine hst hptrs hother halias hanswers hevicting
  case parked => exact fun line x hfrozen hrecall hparked hx hphase => parkedPresent_request hfrozen hrecall hparked hx hphase
  case late =>
    exact fun line r e h hfrozen hr he hfine hst hawaited hcause hlost hown => recallDeadline_closes hfrozen hr he hfine hst hawaited hcause hlost hown
  case half => exact fun src tag h hfrozen hq hh => pairingTimeout_half hfrozen hq hh

end Sys2Proof.Machine
end

section
/-!
PROOF. The sugar that recipes have asked for and wait for (R369, R370): no access to a line changes it, though the requests it sends to a DRAM stack may wake
that stack, and a wake asks for sugar of its own.
-/
namespace Sys2Proof.Machine

/-- What waits for sugar but the wakes. -/
def State.asks (s : State) : List Sugar := s.power.queue.filter (fun g => g.kind != .wake)

theorem recipeWaits_eq_asks (s : State) (id : Nat) :
    s.recipeWaits id = s.asks.any (fun g => g.key == id && (g.kind == .compute || g.kind == .streaming || g.kind == .renewal)) := by
  unfold State.recipeWaits State.asks
  rw [List.any_filter]
  refine List.any_congr rfl fun g => ?_
  cases g.kind <;> simp

theorem recipeWaits_of_asks {s t : State} (h : t.asks = s.asks) (id : Nat) : t.recipeWaits id = s.recipeWaits id := by
  rw [recipeWaits_eq_asks, recipeWaits_eq_asks, h]

theorem asks_of_frame {P : List Part} {s t : State} (h : Frame P s t) (hp : P.contains .power = false) : t.asks = s.asks :=
  congrArg (fun p : PowerState => p.queue.filter (fun g : Sugar => g.kind != .wake)) (h.power_eq hp)

/-- Every part but the power manager. -/
def calmParts : List Part := [.pkg, .link, .txn, .ledger, .part, .dir, .mem, .dram, .deep, .integ, .mirror, .recp, .core, .traffic, .leaves, .sec, .sessions,
  .rings, .kodp, .ctrs, .out, .free, .obs, .dict]

theorem drawQuiet_asks (ma : Nat) (s : State) : (drawQuiet ma s).asks = s.asks := rfl

theorem setPunit_asks (u : Nat) (f : PowerUnit → PowerUnit) (s : State) : (setPunit u f s).asks = s.asks := rfl

theorem onDeep_asks (f : DeepState → DeepState) (s : State) : (s.onDeep f).asks = s.asks := rfl

theorem onPower_asks {f : PowerState → PowerState} (hf : ∀ p, (f p).queue = p.queue) (s : State) : (s.onPower f).asks = s.asks :=
  congrArg (List.filter (fun g : Sugar => g.kind != .wake)) (hf s.power)

/-! ### Wakes -/

theorem queueSugar_asks {g : Sugar} (hg : g.kind = .wake) (s : State) : (queueSugar g s).asks = s.asks := by
  unfold queueSugar
  split
  · rfl
  · refine (asks_of_frame (P := calmParts) (frame_bump (by decide) (Frame.refl _ _)) rfl).trans ?_
    unfold State.asks
    exact (List.filter_append ..).trans (by simp [hg])

theorem grantSugar_asks {g : Sugar} (hg : g.kind = .wake) (n : Nat) (s : State) : (grantSugar g n s).asks = s.asks := by
  unfold grantSugar
  extract_lets ma ma' same prev t flows cover rest g' u v1 v2 v3 v4
  have ht : t.asks = s.asks := asks_of_frame (P := calmParts) (frame_forAll (fun a w hw => frame_endStep (by decide) hw) (Frame.refl _ s)) rfl
  have hu : u.asks = t.asks := by
    refine (List.filter_filter ..).trans ?_
    refine List.filter_congr fun h _ => ?_
    cases hk : h.kind <;> simp [hg]
  have hv : v4.asks = u.asks := asks_of_frame (P := calmParts) (frame_onlyIf (fun t ht => frame_bump (by decide) ht) (frame_onlyIf (fun t ht => frame_bump (by decide) ht)
    (frame_onlyIf (fun t ht => frame_bump (by decide) ht) (frame_bump (by decide) (Frame.refl _ u))))) rfl
  have h4 := hv.trans (hu.trans ht)
  clear_value v4
  split
  · exact (asks_of_frame (P := calmParts) (frame_announceStep (by decide) (Frame.refl _ v4)) rfl).trans h4
  · unfold onlyIf
    split
    · exact (drawQuiet_asks ..).trans h4
    · exact h4

theorem admitGrant_asks_of_wake {g : Sugar} (hg : g.kind = .wake) (s : State) : (admitGrant g s).asks = s.asks := by
  unfold admitGrant
  split
  · exact grantSugar_asks hg ..
  · exact queueSugar_asks hg s

theorem beginWake_asks (u : Nat) (s : State) : (beginWake u s).asks = s.asks := by
  unfold beginWake
  extract_lets p
  split
  · split
    · split
      · exact (asks_of_frame (P := calmParts) (frame_bump (by decide) (Frame.refl _ _)) rfl).trans rfl
      · rfl
    · exact (admitGrant_asks_of_wake (g := mkSugar s .wake u (dieOfCluster u) 70200 0 0 false) rfl _).trans rfl
  · rfl

theorem wakeUnit_asks (u : Nat) (s : State) : (wakeUnit u s).asks = s.asks := by
  unfold wakeUnit
  extract_lets p held
  split
  · split
    · generalize hv : setPunit u (fun q => { q with move := .none }) s = v
      have hs : v.asks = s.asks := hv ▸ setPunit_asks ..
      exact (asks_of_frame (P := calmParts) (frame_onlyIf (fun t ht => frame_crumb (by decide) ht) (frame_bump (by decide) (frame_useFree (by decide)
        (Frame.refl _ v)))) rfl).trans hs
    · rfl
  · rfl
  · rfl
  · rfl
  · split
    · rfl
    · exact (beginWake_asks ..).trans rfl

/-! ### Accesses to lines -/

theorem dramPush_asks (line : Nat) (write : Bool) (cls : DramClass) (cause : DramCause) (s : State) : (dramPush line write cls cause s).asks = s.asks := by
  unfold dramPush
  extract_lets ch id t u v
  have hv : v.asks = s.asks := by
    unfold v
    split
    · rfl
    · exact (wakeUnit_asks ..).trans rfl
  refine Eq.trans ?_ hv
  clear_value v
  refine (asks_of_frame (P := calmParts) (frame_panicUpdate (by decide) (Frame.refl _ _)) rfl).trans ?_
  split <;> rfl

theorem setMeta_asks (l : Nat) (f : LineMeta → LineMeta) (s : State) : (setMeta l f s).asks = s.asks := rfl

theorem pantryUse_asks (l : Nat) (s : State) : (pantryUse l s).asks = s.asks := asks_of_frame (P := calmParts) (frame_pantryUse (by decide) (Frame.refl _ s)) rfl

/-- Lines written back where they are dirty, each with what its metadata becomes. -/
theorem evicted_asks (f : Nat × LineMeta → LineMeta → LineMeta) (cls : State → DramClass) (l : List (Nat × LineMeta)) (s : State) :
    (forAll l (fun e s => onlyIf e.2.dirty (dramPush e.1 true (cls s) .evict) (setMeta e.1 (f e) s)) s).asks = s.asks := by
  refine forAll_keeps (g := State.asks) (fun e s => ?_) l s
  unfold onlyIf
  split
  · exact (dramPush_asks ..).trans rfl
  · rfl

theorem pantryRoom_asks (l : Nat) (s : State) : (pantryRoom l s).asks = s.asks := by
  unfold pantryRoom
  split
  · exact pantryUse_asks ..
  · extract_lets set
    split
    · exact (pantryUse_asks ..).trans rfl
    next w t _ _ =>
      exact (evicted_asks _ (fun s => if s.standby then .rtMirror else .normal) _ t).trans ((pantryUse_asks ..).trans rfl)

theorem commitRaw_asks (l : Nat) (bytes : List Byte) (m : LineMeta) (s : State) : (commitRaw l bytes m s).asks = s.asks := by
  unfold commitRaw
  extract_lets old held t u
  have ht : t.asks = s.asks := pantryRoom_asks l s
  exact (asks_of_frame (P := calmParts) (frame_mirrorLine (by decide) (frame_mapGranule (by decide)
    (frame_setMeta (by decide) (frame_putBytes (by decide) (Frame.refl _ t))))) rfl).trans ht

theorem setTag_asks (cluster set way v : Nat) (s : State) : (setTag cluster set way v s).asks = s.asks := by
  unfold setTag
  split
  · rfl
  · exact commitRaw_asks ..

theorem dirtyFrame_asks (line : Nat) (s : State) : (dirtyFrame line s).asks = s.asks := by
  unfold dirtyFrame
  extract_lets pa
  split
  · split
    · rfl
    · refine (setTag_asks ..).trans ?_
      split
      · rfl
      · exact (asks_of_frame (P := calmParts) (frame_onlyIf (fun t ht => frame_queueWriteback (by decide) ht) (Frame.refl _ _)) rfl).trans rfl
  · rfl

theorem commitLine_asks (line : Nat) (bytes : List Byte) (m : LineMeta) (s : State) : (commitLine line bytes m s).asks = s.asks := by
  unfold commitLine
  split
  · rfl
  next l _ =>
    split
    · exact asks_of_frame (P := calmParts) (frame_onlyIf (fun t ht => frame_poisonListed (by decide) ht) (Frame.refl _ s)) rfl
    · refine (asks_of_frame (P := calmParts) (frame_dumpTrigger (by decide) (Frame.refl _ _)) rfl).trans ?_
      refine (commitRaw_asks ..).trans ((dirtyFrame_asks ..).trans ?_)
      exact asks_of_frame (P := calmParts) (frame_dumpCopy (by decide) (Frame.refl _ s)) rfl

theorem poisonEvent_asks (line cause : Nat) (s : State) : (poisonEvent line cause s).asks = s.asks :=
  asks_of_frame (P := calmParts) (frame_poisonEvent (by decide) (Frame.refl _ s)) rfl

theorem onlyIf_poisonEvent_asks (b : Bool) (line cause : Nat) (s : State) : (onlyIf b (poisonEvent line cause) s).asks = s.asks := by
  unfold onlyIf
  split
  · exact poisonEvent_asks ..
  · rfl

theorem writeLine_asks (line : Nat) (bytes : List Byte) (poison : Bool) (cause tenant keyId : Nat) (s : State) :
    (writeLine line bytes poison cause tenant keyId s).asks = s.asks := by
  unfold writeLine
  exact (onlyIf_poisonEvent_asks ..).trans (commitLine_asks ..)

theorem mergeLine_asks (line : Nat) (new : List Byte) (mask : Nat → Bool) (poison : Bool) (cause tenant keyId : Nat) (s : State) :
    (mergeLine line new mask poison cause tenant keyId s).asks = s.asks := by
  unfold mergeLine
  extract_lets bad data t
  have ht : t.asks = s.asks := commitLine_asks ..
  split
  · exact (poisonEvent_asks ..).trans ht
  · exact (onlyIf_poisonEvent_asks ..).trans ht

theorem poisonLine_asks (line cause : Nat) (s : State) : (poisonLine line cause s).asks = s.asks := by
  unfold poisonLine
  split
  · rfl
  · unfold dirtyHeld
    exact (forAll_keeps (f := dirtyFrame) (g := State.asks) dirtyFrame_asks _ _).trans ((poisonEvent_asks ..).trans (commitLine_asks ..))

/-! ### Recalls -/

theorem putEntry_asks (line : Nat) (e : DirEntry) (s : State) : (putEntry line e s).asks = s.asks :=
  asks_of_frame (P := calmParts) (frame_putEntry (by decide) (Frame.refl _ s)) rfl

theorem dropEntry_asks (line : Nat) (s : State) : (dropEntry line s).asks = s.asks :=
  asks_of_frame (P := calmParts) (frame_dropEntry (by decide) (Frame.refl _ s)) rfl

theorem putOrDrop_asks (line : Nat) (e : DirEntry) (s : State) : (putOrDrop line e s).asks = s.asks :=
  asks_of_frame (P := calmParts) (frame_putOrDrop (by decide) (Frame.refl _ s)) rfl

theorem countLoss_asks (slot : Nat) (f : LossCounts → LossCounts) (s : State) : (countLoss slot f s).asks = s.asks :=
  asks_of_frame (P := calmParts) (frame_countLoss (by decide) (Frame.refl _ s)) rfl

theorem applyLoss_asks (line slot : Nat) (s : State) : (applyLoss line slot s).asks = s.asks := by
  unfold applyLoss
  split
  · rfl
  next e _ =>
    split
    · exact poisonLine_asks ..
    split
    · split
      · exact countLoss_asks ..
      · rfl
    split
    · rfl
    split
    all_goals
      extract_lets t
      have ht : t.asks = s.asks := by
        unfold t
        simp only [poisonLine_asks, countLoss_asks]
      split
      · exact (putEntry_asks ..).trans ht
      · simp only [dropEntry_asks, putOrDrop_asks, ht]

theorem takeEviction_asks (v : Eviction) (s : State) : (takeEviction v s).asks = s.asks := by
  unfold takeEviction
  extract_lets t
  split
  · rfl
  next e _ =>
    extract_lets u
    have hu : u.asks = s.asks := by
      unfold u
      split
      · split
        · exact writeLine_asks ..
        · rfl
      · rfl
    split
    · exact hu
    · exact (putEntry_asks ..).trans hu

theorem closeRecall_asks (line : Nat) (s : State) : (closeRecall line s).asks = s.asks :=
  asks_of_frame (P := calmParts) (frame_closeRecall (by decide) (Frame.refl _ s)) rfl

theorem startRecall_asks (line : Nat) (down : Bool) (targets : List Nat) (kind : Nat) (keep : List Nat) (cause : RecallCause) (s : State) :
    (startRecall line down targets kind keep cause s).asks = s.asks := by
  unfold startRecall
  split
  · rfl
  next e _ =>
    extract_lets t u w
    have hu : u.asks = s.asks := (putEntry_asks ..).trans rfl
    have hw : w.asks = u.asks := by
      refine forAll_keeps (g := State.asks) (fun k s => ?_) _ u
      extract_lets live
      clear_value live
      split
      · exact applyLoss_asks ..
      split
      · exact takeEviction_asks ..
      · split
        · rfl
        · exact (asks_of_frame (P := calmParts) (frame_sendSnoop (by decide) (Frame.refl _ _)) rfl).trans rfl
    split
    · split
      · exact (closeRecall_asks ..).trans (hw.trans hu)
      · exact hw.trans hu
    · exact hw.trans hu

theorem recallAll_asks (line kind : Nat) (s : State) : (recallAll line kind s).asks = s.asks := by
  unfold recallAll
  split
  · split
    · rfl
    · exact startRecall_asks ..
  · rfl

theorem recallGranule_asks (g : Nat) (s : State) : (recallGranule g s).1.asks = s.asks := by
  unfold recallGranule
  exact forAll_keeps (f := fun (e : Nat × DirEntry) s => recallAll e.1 5 s) (g := State.asks) (fun e s => recallAll_asks e.1 5 s) _ s

/-! ### Granules of the deep tier -/

theorem cleanGranule_asks (g : Nat) (drop : Bool) (s : State) : (cleanGranule g drop s).asks = s.asks := by
  unfold cleanGranule
  split
  · rfl
  · exact evicted_asks (fun _ m => { m with dirty := false, inPantry := !drop }) (fun _ => .normal) _ s

theorem fetchTag_asks (cluster set : Nat) (s : State) : (fetchTag cluster set s).asks = s.asks := by
  unfold fetchTag
  extract_lets l
  split
  · rfl
  · exact dramPush_asks ..

/-- A writeback set going: its lines asked for, or sent at once where none can be read. -/
theorem writtenBack_asks (reads : List Nat) (w : Writeback) (g : Nat) (s : State) :
    (if reads.isEmpty then sendWriteback w s else forAll reads (fun l s => dramPush l false .normal (.writeback g) s) s).asks = s.asks := by
  split
  · exact asks_of_frame (P := calmParts) (frame_sendWriteback (by decide) (Frame.refl _ s)) rfl
  · exact forAll_keeps (f := fun l s => dramPush l false .normal (.writeback g) s) (g := State.asks) (fun l s => dramPush_asks ..) _ s

theorem startWriteback_asks (cluster set way : Nat) (s : State) : (startWriteback cluster set way s).asks = s.asks := by
  unfold startWriteback
  split
  · exact fetchTag_asks ..
  · extract_lets t g sled running
    split
    · rfl
    next u base reads w v _ =>
      have hu : u.asks = s.asks := (cleanGranule_asks ..).trans (setTag_asks ..)
      have hv : v.asks = u.asks := (asks_of_frame (P := calmParts) (frame_bump (by decide) (frame_bumpBy (by decide) (Frame.refl _ _))) rfl).trans (onDeep_asks ..)
      clear_value u v
      exact (writtenBack_asks reads w g v).trans (hv.trans hu)

theorem takeWay_asks (cluster set w : Nat) (s : State) : (takeWay cluster set w s).1.asks = s.asks := by
  unfold takeWay
  extract_lets g
  have hg := recallGranule_asks g s
  generalize recallGranule g s = r at hg
  obtain ⟨t, free⟩ := r
  dsimp only
  split
  · exact (asks_of_frame (P := calmParts) (frame_bump (by decide) (Frame.refl _ _)) rfl).trans ((cleanGranule_asks ..).trans hg)
  · exact hg

theorem handSteps_asks (cluster set n : Nat) (s : State) : (handSteps cluster set n s).1.asks = s.asks := by
  induction n generalizing s with
  | zero => rfl
  | succ n ih =>
    unfold handSteps
    extract_lets w t tag
    split
    · exact (takeWay_asks ..).trans rfl
    · refine (ih _).trans ?_
      split
      · rfl
      · split
        · exact (setTag_asks ..).trans rfl
        · exact (startWriteback_asks ..).trans ((asks_of_frame (P := calmParts) (frame_queueWriteback (by decide) (Frame.refl _ t)) rfl).trans rfl)

theorem chooseFrame_asks (cluster set : Nat) (s : State) : (chooseFrame cluster set s).1.asks = s.asks := by
  unfold chooseFrame
  split
  · rfl
  · split
    · exact takeWay_asks ..
    · exact (handSteps_asks ..).trans rfl
  · exact handSteps_asks ..

theorem startFill_asks (g set way first tier : Nat) (pin : Bool) (s : State) : (startFill g set way first tier pin s).asks = s.asks := by
  unfold startFill
  extract_lets cluster sled t u dest tag v
  have hv : v.asks = u.asks := asks_of_frame (P := calmParts) (frame_sendDt (by decide) (Frame.refl _ u)) rfl
  exact (onDeep_asks ..).trans (hv.trans (setTag_asks ..))

theorem touchFrame_asks (g way tier : Nat) (s : State) : (touchFrame g way tier s).asks = s.asks := by
  unfold touchFrame
  extract_lets cluster set t t'
  split
  · rfl
  · exact setTag_asks ..

theorem missGranule_asks (g first tier : Nat) (pin : Bool) (s : State) : (missGranule g first tier pin s).asks = s.asks := by
  unfold missGranule
  extract_lets cluster set t
  split
  · exact fetchTag_asks ..
  split
  · rfl
  · have ht := chooseFrame_asks cluster set t
    generalize chooseFrame cluster set t = r at ht
    obtain ⟨u, w⟩ := r
    cases w with
    | none => exact ht.trans rfl
    | some w => exact (startFill_asks ..).trans (ht.trans rfl)

theorem bump_asks (c : Ctr) (i : Nat) (s : State) : (bump c i s).asks = s.asks := asks_of_frame (P := calmParts) (frame_bump (by decide) (Frame.refl _ s)) rfl

theorem deepAccess_asks (line : Nat) (write : Bool) (tier waiting : Nat) (s : State) : (deepAccess line write tier waiting s).1.asks = s.asks := by
  unfold deepAccess
  extract_lets pa g cluster set
  split
  · exact asks_of_frame (P := calmParts) (frame_quarantine (by decide) (Frame.refl _ s)) rfl
  split
  · split
    · exact bump_asks ..
    · exact (bump_asks ..).trans (fetchTag_asks ..)
  split
  · split
    · extract_lets t
      have ht : t.asks = s.asks := touchFrame_asks ..
      clear_value t
      split
      · split
        · exact ht
        · split
          · exact (bump_asks ..).trans ht
          · exact ht
      · exact ht
    · exact (bump_asks ..).trans (touchFrame_asks ..)
  · split
    · exact bump_asks ..
    · exact (bump_asks ..).trans (missGranule_asks ..)

/-! ### Accesses of the Varisk -/

theorem fetchLine_asks (b : AccBy) (line : Nat) (s : State) : (fetchLine b line s).1.asks = s.asks := by
  unfold fetchLine
  split
  · rfl
  · extract_lets ch
    split
    · exact pantryUse_asks ..
    split
    · rfl
    split
    · rfl
    split
    · rfl
    · split
      · rfl
      · exact dramPush_asks ..

theorem endLineAccess_asks (b : AccBy) (line : Nat) (s : State) : (endLineAccess b line s).asks = s.asks :=
  asks_of_frame (P := calmParts) (frame_endLineAccess (by decide) (Frame.refl _ s)) rfl

/-- The line at hand, and the access at its end. -/
theorem fetched_asks (b : AccBy) (line : Nat) (fetch : Bool) (s : State) :
    (match (if fetch then fetchLine b line s else (s, .ready)) with
      | (s, .ready) => (endLineAccess b line s, LineReady.ready)
      | r => r).1.asks = s.asks := by
  have h : (if fetch then fetchLine b line s else (s, .ready)).1.asks = s.asks := by
    split
    · exact fetchLine_asks ..
    · rfl
  generalize (if fetch then fetchLine b line s else (s, .ready)) = r at h
  obtain ⟨t, res⟩ := r
  cases res
  case ready => exact (endLineAccess_asks ..).trans h
  all_goals exact h

theorem orderAccess_asks (b : AccBy) (line : Nat) (write fetch : Bool) (s : State) : (orderAccess b line write fetch s).1.asks = s.asks := by
  unfold orderAccess
  extract_lets go mine t
  have hgo : ∀ u, (go u).1.asks = u.asks := fetched_asks b line fetch
  have ht : t.asks = s.asks := asks_of_frame (P := calmParts) (frame_leaveCrossbar (by decide) (Frame.refl _ s)) rfl
  clear_value go t
  split
  · rfl
  split
  · exact asks_of_frame (P := calmParts) (frame_holdAtCrossbar (by decide) (Frame.refl _ s)) rfl
  split
  · exact (asks_of_frame (P := calmParts) (frame_parkAccess (by decide) (Frame.refl _ t)) rfl).trans ht
  split
  · extract_lets u
    have hu : u.asks = s.asks := (startRecall_asks ..).trans ((asks_of_frame (P := calmParts) (frame_keepAccess (by decide) (Frame.refl _ t)) rfl).trans ht)
    clear_value u
    split
    · exact hu
    · exact (hgo u).trans hu
  · exact (hgo t).trans ht

theorem unseek_asks (b : AccBy) (g : Nat) (s : State) : (unseek b g s).asks = s.asks :=
  asks_of_frame (P := calmParts) (frame_unseek (by decide) (Frame.refl _ s)) rfl

theorem residentFirst_asks (b : AccBy) (line tier : Nat) (write fetch : Bool) (s : State) : (residentFirst b line tier write fetch s).1.asks = s.asks := by
  unfold residentFirst
  extract_lets g
  have h := deepAccess_asks line write tier (s.deep.waiting.filter (fun w => w.1 == homeCluster (line * 128))).length s
  generalize deepAccess line write tier (s.deep.waiting.filter (fun w => w.1 == homeCluster (line * 128))).length s = r at h
  obtain ⟨t, res⟩ := r
  cases res with
  | ready => exact (orderAccess_asks ..).trans ((unseek_asks ..).trans h)
  | wait => exact (asks_of_frame (P := calmParts) (frame_seek (by decide) (Frame.refl _ t)) rfl).trans h
  | full => exact (unseek_asks ..).trans h
  | poisoned => exact (unseek_asks ..).trans h

theorem readyLine_asks (b : AccBy) (line tier : Nat) (write fetch : Bool) (s : State) : (readyLine b line tier write fetch s).1.asks = s.asks := by
  unfold readyLine
  split
  · extract_lets g
    split
    · exact unseek_asks ..
    · exact residentFirst_asks ..
  · exact orderAccess_asks ..

theorem writeThrough_asks (b : AccBy) (ctx addr : Nat) (bytes : List Byte) (s : State) : (writeThrough b ctx addr bytes s).1.asks = s.asks := by
  unfold writeThrough
  split
  · rfl
  next pa tenant keyId _ =>
    extract_lets line
    have h := readyLine_asks b line 0 true false s
    generalize readyLine b line 0 true false s = r at h
    obtain ⟨t, res⟩ := r
    cases res with
    | wait => exact h
    | fail st => exact h
    | ready =>
      dsimp only
      split
      · exact h
      · exact (writeLine_asks ..).trans ((dropEntry_asks ..).trans h)

end Sys2Proof.Machine
end

section
/-!
PROOF. A recipe enters the list, joins its stage, and leaves with its record (R356, R358, R370, R379 to R381).
-/
namespace Sys2Proof.Machine

/-! ### Acceptance (R356) -/

/-- The list of recipes with one more. -/
def entered (r : Recipe) (s : State) : State := s.onRecp (fun x => { x with recipes := x.recipes ++ [r], nextId := x.nextId + 1 })

theorem askSugar_recp (r : Recipe) (s : State) : (askSugar r s).recp = s.recp := by
  unfold askSugar
  split
  · rfl
  · exact (frame_admitGrant (P := [.pkg, .power, .ctrs]) (by decide) (Frame.refl _ s)).recp_eq rfl

/-- What acceptance makes of the recipes: one more, which waits for its sugar where it has to; only one that is to run asks. -/
theorem acceptRecipe_recp (r : Recipe) (s : State) : ∃ waits : Bool, (r.phase ≠ .running → s.recipeWaits r.id = false → waits = false)
    ∧ (acceptRecipe r s).recp = (onlyIf waits (setRecipe r.id (fun x => { x with phase := .admission })) (entered r s)).recp := by
  unfold acceptRecipe
  extract_lets t u v waits w st x
  have hcalm : Frame [.ledger, .recp, .mirror, .leaves, .ctrs] s u := frame_mirrorState (by decide)
    (frame_bump (by decide) (frame_onlyIf (fun t ht => frame_bump (by decide) ht) (frame_onRecp (by decide) (Frame.refl _ s))))
  have hu : Frame [.ledger, .mirror, .leaves, .ctrs] (entered r s) u := frame_mirrorState (by decide)
    (frame_bump (by decide) (frame_onlyIf (fun t ht => frame_bump (by decide) ht) (Frame.refl _ _)))
  have hv : v.recp = (entered r s).recp := by
    refine Eq.trans ?_ (hu.recp_eq rfl)
    unfold v
    split
    · exact askSugar_recp r u
    · rfl
  have hw : w.recp = (onlyIf waits (setRecipe r.id (fun x => { x with phase := .admission })) v).recp := by
    unfold w onlyIf
    split
    · exact (frame_bump (P := [.ctrs]) (by decide) (Frame.refl _ _)).recp_eq rfl
    · rfl
  refine ⟨waits, fun hr hs => ?_, ?_⟩
  · have huv : v = u := if_neg hr
    exact (congrArg (fun v => State.recipeWaits v r.id) huv).trans ((recipeWaits_of_asks (asks_of_frame hcalm rfl) r.id).trans hs)
  · have hx : x.recp = w.recp := (frame_ledgerWrite (P := [.ledger, .mirror, .leaves, .ctrs]) (by decide) (Frame.refl _ w)).recp_eq rfl
    refine ((frame_sendPacket (P := [.ledger, .leaves]) (by decide) (Frame.refl _ x)).recp_eq rfl).trans (hx.trans (hw.trans ?_))
    unfold onlyIf
    split
    · exact congrArg (fun r' => (setRecipe r.id (fun x => { x with phase := .admission }) { entered r s with recp := r' }).recp) hv
    · exact hv

/-- A recipe that does not run yet, and for which no sugar is asked, is put in the list as it is. -/
theorem acceptRecipe_collecting {r : Recipe} {s : State} (hr : r.phase ≠ .running) (hs : s.recipeWaits r.id = false) :
    (acceptRecipe r s).recp = (entered r s).recp := by
  obtain ⟨waits, hcalm, hrecp⟩ := acceptRecipe_recp r s
  rw [hrecp, hcalm hr hs]
  rfl

theorem mem_entered (r : Recipe) (s : State) : r ∈ (entered r s).recp.recipes := List.mem_append_right _ (List.mem_singleton_self r)

/-! ### The first rank of a stage (R380) -/

theorem mergeLine_recp (line : Nat) (new : List Byte) (mask : Nat → Bool) (poison : Bool) (cause tenant keyId : Nat) (s : State) :
    (mergeLine line new mask poison cause tenant keyId s).recp = s.recp :=
  (frame_mergeLine (P := [.pkg, .ledger, .mem, .dram, .deep, .integ, .mirror, .leaves, .power, .sessions, .obs, .rings, .kodp, .ctrs, .out, .free])
    (by decide) (Frame.refl _ s)).recp_eq rfl

theorem writeThrough_recp (b : AccBy) (ctx addr : Nat) (bytes : List Byte) (s : State) : (writeThrough b ctx addr bytes s).1.recp = s.recp :=
  (frame_writeThrough (P := [.pkg, .txn, .ledger, .part, .dir, .mem, .dram, .deep, .integ, .mirror, .leaves, .power, .sessions, .obs, .rings, .kodp, .ctrs, .out, .free])
    (by decide) (Frame.refl _ s)).recp_eq rfl

/-- A recipe that has arrived at its stage. -/
def stageRecipe (s : State) (port slot : Nat) (p : Packet) : Recipe := { newRecipe s port slot p [] [] with phase := .collecting }

/-- A rank that joins and is not the last: its entry and the header are written, and its recipe is accepted Collecting. -/
theorem arriveStage_joins {s u v x : State} {port slot pa ten key tr epa eten ekey etr : Nat} {p : Packet} {first : Bool}
    (hu : xlate (dieOfPort port) p.harg (descOf p.body).w2 [0, 1, 3] true s = (u, .ok pa ten key tr))
    (hv : xlate (dieOfPort port) p.harg (stageEntry (descOf p.body).w2 (descOf p.body).rank) [0, 1, 3] true u = (v, .ok epa eten ekey etr))
    (hx : readyAll (AccBy.arrival p.src p.tag slot) p.harg [(descOf p.body).w2, stageEntry (descOf p.body).w2 (descOf p.body).rank] v = (x, true))
    (hnone : x.arrived p.harg (descOf p.body).w2 = []) (hfast : (descOf p.body).flag 4 = false)
    (hjoin : arrivalOf (x.stageLine p.harg (descOf p.body).w2) p.harg (descOf p.body) false = .join first false) :
    ∃ w, w.recp = x.recp ∧ w.asks = x.asks ∧ arriveStage port slot p s = (acceptRecipe (stageRecipe w port slot p) w, true) := by
  unfold arriveStage
  dsimp only
  rw [hu]
  dsimp only
  rw [hv]
  dsimp only
  rw [hx]
  dsimp only
  rw [hnone, if_neg (by simp), hfast, Bool.false_and, hjoin]
  exact ⟨_, (writeThrough_recp ..).trans (mergeLine_recp ..), (writeThrough_asks ..).trans (mergeLine_asks ..), rfl⟩

/-! ### The end of a recipe (R358, R364, R373) -/

theorem dropRecipe_gone (r : Recipe) (s : State) : (dropRecipe r s).recipe r.id = none := by
  unfold dropRecipe
  extract_lets t u
  have hu : u.recipe r.id = none := List.find?_eq_none.mpr fun y hy => by
    have := (List.mem_filter.mp hy).2
    simpa using this
  exact (recipe_of_recp_eq ((frame_mirrorState (P := [.mirror, .leaves, .ctrs]) (by decide) (Frame.refl _ u)).recp_eq rfl) _).trans hu

theorem closeRecipe_gone (r : Recipe) (st : Status) (written : Bool) (s : State) : (closeRecipe r st written s).recipe r.id = none := by
  unfold closeRecipe
  exact (recipe_of_recp_eq ((frame_sendDone (P := [.txn, .ledger, .dir, .mirror, .leaves, .sec, .ctrs]) (by decide)
    (frame_bump (by decide) (Frame.refl _ (dropRecipe r s)))).recp_eq rfl) _).trans (dropRecipe_gone r s)

theorem closeRecipe_mem (r : Recipe) (st : Status) (written : Bool) (s : State) : (closeRecipe r st written s).mem = s.mem :=
  (frame_closeRecipe (P := [.pkg, .txn, .ledger, .dir, .recp, .core, .mirror, .leaves, .power, .sec, .ctrs]) (by decide) (Frame.refl _ s)).mem_eq rfl

theorem recipeEnd_exec {s : State} {id : Nat} {r : Recipe} (hf : s.frozen = false) (hst : s.standby = false) (hr : s.recipe id = some r)
    (hc : r.phase ≠ .collecting) (hred : r.phase ≠ .reducing) (hall : r.f ≥ r.total) (hidle : s.inFlight id = 0) :
    exec (.recipeEnd id) s = .next (settleWaits (endRecipe r r.status s)) := by
  have hidle' : s.inFlight r.id = 0 := id_of_recipe hr ▸ hidle
  rw [exec, execRecipeEnd, hf, hst, hr]
  dsimp only
  rw [if_neg (by decide), if_neg hc, if_neg (by simp [hall, hidle']), if_neg hred]

theorem endRecipe_closes {s u : State} {r : Recipe} {st : Status} {b : Bool}
    (h : writeThrough (AccBy.recipe r.id r.slot) r.ctx r.d.doneAddr (r.record st) s = (u, some b)) : endRecipe r st s = closeRecipe r st b u := by
  unfold endRecipe
  rw [h]

/-! ### Sugar that does not come (R370) -/

/-- The first tile that has not been dispatched. -/
def Recipe.firstLeft (r : Recipe) : Nat := (((List.range (r.total - r.next)).map (r.next + ·)).find? (fun n => !r.committed n)).getD r.total

theorem failTile_recipe {s : State} {id tile : Nat} {st : Status} {r : Recipe} (hr : s.recipe id = some r) (hnone : r.failed = []) :
    (failTile id tile st s).recipe id = some { r with failed := [(tile, st)] } := by
  refine (recipe_setRecipe_same (f := fun r : Recipe => { r with failed := if ahas r.failed tile then r.failed else aset r.failed tile st }) (fun _ => rfl) hr).trans ?_
  simp only [hnone]
  rfl

theorem endRecipeGrants_waits (id : Nat) (s : State) : (endRecipeGrants id s).recipeWaits id = false := by
  unfold endRecipeGrants State.recipeWaits
  refine List.any_eq_false.mpr fun g hg => ?_
  have := (List.mem_filter.mp hg).2
  rw [Bool.not_eq_true'] at this
  exact ne_true_of_eq_false this

theorem endRecipeGrants_frame (id : Nat) (s : State) : Frame [.pkg, .power, .ctrs] s (endRecipeGrants id s) := frame_endRecipeGrants (by decide) (Frame.refl _ s)

/-! ### A round whose DEADLINE has come (R381) -/

/-- What becomes of the recipe of a contributor. -/
def Recipe.late (r : Recipe) : Recipe := { r with failed := if r.cancelled then r.failed else [(0, .timeout)] }

/-- The contributors of a stage, late. -/
def lateAll (l : List Recipe) (s : State) : State := forAll l (fun x s => setRecipe x.id Recipe.late s) s

theorem lateAll_frame (l : List Recipe) (s : State) : Frame [.recp] s (lateAll l s) :=
  frame_forAll (fun a w hw => frame_setRecipe (by decide) hw) (Frame.refl _ s)

theorem recipe_lateAll_cons {x : Recipe} {l : List Recipe} {s : State} : lateAll (x :: l) s = lateAll l (setRecipe x.id Recipe.late s) := rfl

theorem failed_setRecipe_late {id k : Nat} {s : State} {y : Recipe} (hy : (setRecipe id Recipe.late s).recipe k = some y) (hc : y.cancelled = false) :
    (id = k → y.failed = [(0, .timeout)]) ∧ ((∀ z, s.recipe k = some z → z.cancelled = false → z.failed = [(0, .timeout)]) → y.failed = [(0, .timeout)]) := by
  rw [recipe_setRecipe id k Recipe.late s (fun _ => rfl), Option.map_eq_some_iff] at hy
  obtain ⟨z, hz, rfl⟩ := hy
  have hk := id_of_recipe hz
  by_cases h : z.id = id
  · rw [if_pos h] at hc ⊢
    have hf : z.late.failed = [(0, .timeout)] := if_neg (ne_true_of_eq_false hc)
    exact ⟨fun _ => hf, fun _ => hf⟩
  · rw [if_neg h] at hc ⊢
    exact ⟨fun hid => absurd (hk.trans hid.symm) h, fun hall => hall z hz hc⟩

/-- Every contributor that was not withdrawn has failed TIMEOUT. -/
theorem failed_lateAll (l : List Recipe) (k : Nat) (s : State)
    (hin : (∃ x ∈ l, x.id = k) ∨ ∀ z, s.recipe k = some z → z.cancelled = false → z.failed = [(0, .timeout)]) :
    ∀ y, (lateAll l s).recipe k = some y → y.cancelled = false → y.failed = [(0, .timeout)] := by
  induction l generalizing s with
  | nil =>
    rcases hin with ⟨x, hx, -⟩ | h
    · exact (List.not_mem_nil hx).elim
    · exact h
  | cons a l ih =>
    refine ih (setRecipe a.id Recipe.late s) ?_
    rcases hin with ⟨x, hx, hk⟩ | h
    · rcases List.mem_cons.mp hx with rfl | hx
      · exact .inr fun z hz hc => (failed_setRecipe_late hz hc).1 hk
      · exact .inl ⟨x, hx, hk⟩
    · exact .inr fun z hz hc => (failed_setRecipe_late hz hc).2 h

/-- Settles O16: the accesses of an arrival change neither the recipes nor the sugar they wait for, so the first rank of several is accepted as it
is; an end takes its recipe out once the record is written; a timeout leaves its failure in the record. -/
theorem stagesAndEnds : Obligations.StagesAndEnds := by
  unfold Obligations.StagesAndEnds
  refine ⟨?joins, fun s id r hf hst hr => ⟨?ends, ?limit, ?deadline⟩⟩
  case joins =>
    intro s port slot p pa ten key tr epa eten ekey etr u v x first hu hv hx hnone hfast hwaits hjoin
    obtain ⟨w, hrecp, hasks, h⟩ := arriveStage_joins hu hv hx hnone hfast hjoin
    have hid : w.recp.nextId = x.recp.nextId := by rw [hrecp]
    have hcalm : w.recipeWaits (stageRecipe w port slot p).id = false := by
      refine Eq.trans ?_ hwaits
      rw [← hid]
      exact recipeWaits_of_asks hasks _
    refine ⟨_, h, stageRecipe w port slot p, ?_, hid, rfl, rfl, rfl, rfl, rfl, rfl⟩
    rw [acceptRecipe_collecting (r := stageRecipe w port slot p) (show RecPhase.collecting ≠ .running by decide) hcalm]
    exact mem_entered ..
  case ends =>
    intro u b hc hred hall hidle hwrite
    refine ⟨_, recipeEnd_exec hf hst hr hc hred hall hidle, endRecipe r r.status s, rfl, ?_, ?_⟩
    · rw [endRecipe_closes hwrite, ← id_of_recipe hr]
      exact closeRecipe_gone ..
    · rw [endRecipe_closes hwrite]
      exact closeRecipe_mem ..
  case limit =>
    intro hwaits hlate hnone
    refine ⟨endRecipeGrants id (failTile id r.firstLeft .timeout s), ?_, ?_, endRecipeGrants_waits id _, ((endRecipeGrants_frame id _).mem_eq rfl).trans rfl⟩
    · rw [exec, execAdmissionLimitTimeout, hf, hst, hr]
      dsimp only
      rw [if_neg (by decide), if_pos (by simp [hwaits, hlate])]
      rfl
    · exact (recipe_of_recp_eq ((endRecipeGrants_frame id _).recp_eq rfl) id).trans (failTile_recipe hr hnone)
  case deadline =>
    intro hc hlate
    refine ⟨retryStage (endStage r.ctx r.d.w2 none (lateAll (s.arrived r.ctx r.d.w2) s)), ?_, lateAll (s.arrived r.ctx r.d.w2) s, rfl,
      (lateAll_frame ..).mem_eq rfl, fun x hx => failed_lateAll _ x.id s (.inl ⟨x, hx, rfl⟩)⟩
    rw [exec, execAllreduceDeadline, hf, hst, hr]
    dsimp only
    rw [if_neg (by decide), if_pos ⟨hc, hlate⟩]
    rfl

end Sys2Proof.Machine
end

section
/-!
PROOF. A RECIPE arrives and is accepted or refused; a cancel and an abort are taken (R22, R354 to R359, R394 to R396).
-/
namespace Sys2Proof.Machine

/-! ### Intake and policing -/

/-- A request of an Active slot that is new and whose tag is free goes on (R165, R175, R191, R198). -/
theorem intake_of_active {s : State} {port slot : Nat} {p : Packet} {x : Slot} {busy : State → Bool} (hslot : s.slotOfEid p.src = some slot)
    (hx : aget s.part.slots slot = some x) (hst : x.st = .active) (hfirst : p.resend = false) (hfree : busy s = false)
    (replay : LedgerEntry → State → State) (go : Nat → Bool → State → State) : intake port p busy replay go s = go slot false s := by
  unfold intake
  rw [hfirst, onlyIf, if_neg Bool.false_ne_true]
  dsimp only
  rw [hslot]
  dsimp only
  rw [hx]
  dsimp only
  rw [hst, if_neg (by decide), if_neg (ne_true_of_eq_false hfree), Bool.false_and, Bool.false_and, if_neg Bool.false_ne_true]
  rfl

/-- The same of a request that its slot lets in. -/
theorem intake_of_admits {s : State} {port slot : Nat} {p : Packet} (hadmits : s.admits slot p = true) (replay : LedgerEntry → State → State)
    (go : Nat → Bool → State → State) : intake port p (fun s => s.outstanding p.src p.tag) replay go s = go slot false s := by
  simp only [State.admits, Bool.and_eq_true, Bool.not_eq_true', beq_iff_eq] at hadmits
  obtain ⟨⟨⟨⟨hslot, hactive⟩, hfirst⟩, hfree⟩, -⟩ := hadmits
  obtain ⟨x, hx, hst⟩ := Option.map_eq_some_iff.mp hactive
  exact intake_of_active hslot hx hst hfirst hfree replay go

theorem lacksCap_of_admits {s : State} {slot : Nat} {p : Packet} (hadmits : s.admits slot p = true) : s.lacksCap slot p.op = false := by
  simp only [State.admits, Bool.and_eq_true, Bool.not_eq_true'] at hadmits
  exact hadmits.2

/-- What policing lets pass goes on in the state policing leaves (R508, R509). -/
theorem police_of_polices {s u : State} {port slot : Nat} {p : Packet} (hnow : s.notNow p = false) (hpolices : s.polices port slot p u)
    (go retry : State → State) : police port slot p go retry s = go u := by
  obtain ⟨hholds, hbacklog, hcolour⟩ := hpolices
  unfold police
  rw [hnow, if_neg Bool.false_ne_true, hholds, hbacklog, List.isEmpty_nil, hcolour]
  rfl

theorem polices_frame {s u : State} {port slot : Nat} {p : Packet} (hpolices : s.polices port slot p u) : Frame [.traffic, .ctrs] s u := by
  obtain ⟨-, -, hcolour⟩ := hpolices
  have h := frame_colour (P := [.traffic, .ctrs]) (die := dieOfPort port) (slot := slot) (cls := classOfVc p.vc) (n := p.charge) (by decide) (Frame.refl _ s)
  rwa [hcolour] at h

/-! ### A RECIPE (R355, R356) -/

/-- A RECIPE in clear for its row, which its slot and policing let pass, is taken. -/
theorem arriveRecipe_takes {s u : State} {port slot : Nat} {p : Packet} {mine : Desc → Bool} (htakes : s.takes port p = true) (hadmits : s.admits slot p = true)
    (hnow : s.notNow p = false) (hpolices : s.polices port slot p u) (hop : p.op = 0x50) (henc : p.enc = false)
    (hclear : s.isSealed (s.readDesc p.harg).owner = false) (hmine : mine (descOf p.body) = true) :
    arriveRecipe port p mine s = takeRecipe port slot p u := by
  have hcap : s.lacksCap slot 0x50 = false := hop ▸ lacksCap_of_admits hadmits
  have hself : { p with body := p.body, enc := false } = p := by rw [← henc]
  unfold arriveRecipe
  rw [henc, hmine, if_neg (by decide), arriveFabric_of_takes htakes]
  dsimp only
  rw [intake_of_admits hadmits, hcap, henc, if_neg Bool.false_ne_true, if_neg Bool.false_ne_true, hclear, if_neg Bool.false_ne_true]
  dsimp only
  rw [hmine, hself, if_neg (by decide), if_neg (by decide)]
  exact police_of_polices hnow hpolices ..

theorem recipeRow_takes {c : Instr} {code port : Nat} {p : Packet} {s : State} (hexec : exec c s = recipeRow code port p s) (hop : p.op = 0x50) :
    exec c s = .next (arriveRecipe port p (fun d => d.code == code) s) := by
  rw [hexec, recipeRow, if_pos hop]

/-- Acceptance in full: the recipe is in the list, and runs or waits for its sugar. -/
theorem acceptRecipe_in (r : Recipe) (s : State) : (acceptRecipe r s).recp.nextId = s.recp.nextId + 1 ∧ (acceptRecipe r s).recp.queues = s.recp.queues
    ∧ (r ∈ (acceptRecipe r s).recp.recipes ∨ { r with phase := .admission } ∈ (acceptRecipe r s).recp.recipes) := by
  obtain ⟨waits, -, hrecp⟩ := acceptRecipe_recp r s
  rw [hrecp]
  cases waits with
  | false => exact ⟨rfl, rfl, .inl (mem_entered r s)⟩
  | true =>
    refine ⟨rfl, rfl, .inr ?_⟩
    have := List.mem_map_of_mem (f := fun x : Recipe => if x.id = r.id then { x with phase := .admission } else x) (mem_entered r s)
    rwa [if_pos rfl] at this

theorem acceptRecipe_mem (r : Recipe) (s : State) : (acceptRecipe r s).mem = s.mem :=
  (frame_acceptRecipe (P := [.pkg, .ledger, .recp, .mirror, .leaves, .power, .ctrs]) (by decide) (Frame.refl _ s)).mem_eq rfl

theorem takeRecipe_accepts {s v : State} {port slot : Nat} {p : Packet} {params : List Byte} {skip : List Nat}
    (hcheck : recipeChecks (dieOfPort port) slot p.harg (AccBy.params p.src p.tag slot) (descOf p.body) s = (v, .pass params skip))
    (hcode : (descOf p.body).code ≠ 7) : takeRecipe port slot p s = acceptRecipe (newRecipe v port slot p params skip) v := by
  unfold takeRecipe admitRecipe
  dsimp only
  rw [hcheck]
  dsimp only
  rw [if_neg hcode]

theorem takeRecipe_stage {s v t : State} {port slot : Nat} {p : Packet} {params : List Byte} {skip : List Nat}
    (hcheck : recipeChecks (dieOfPort port) slot p.harg (AccBy.params p.src p.tag slot) (descOf p.body) s = (v, .pass params skip))
    (hcode : (descOf p.body).code = 7) (hstage : arriveStage port slot p v = (t, true)) : takeRecipe port slot p s = t := by
  unfold takeRecipe admitRecipe
  dsimp only
  rw [hcheck]
  dsimp only
  rw [if_pos hcode, hstage]

/-- A code that is no recipe's fails the first check (R354, R355). -/
theorem takeRecipe_reserved {s : State} {port slot : Nat} {p : Packet} (hcode : (descOf p.body).code = 0 ∨ 13 < (descOf p.body).code) :
    takeRecipe port slot p s = refuseRecipe (dieOfPort port) p .unsupported doneReset s := by
  have hearly : (decide (1 ≤ (descOf p.body).code) && decide ((descOf p.body).code ≤ 13)) = false := by
    rcases hcode with h | h
    · rw [h]; rfl
    · rw [decide_eq_false (Nat.not_le.mpr h), Bool.and_false]
  unfold takeRecipe admitRecipe
  dsimp only
  unfold recipeChecks
  dsimp only
  rw [hearly]
  simp only [Bool.false_and, Bool.not_false, if_true]

theorem refuseRecipe_frame (die : Nat) (p : Packet) (st : Status) (slot1 : List Byte) (s : State) :
    Frame [.ledger, .mirror, .leaves, .sec, .ctrs] s (refuseRecipe die p st slot1 s) := frame_refuseRecipe (by decide) (Frame.refl _ s)

theorem refuseRecipe_carries {s : State} {p : Packet} (hclear : s.isSealed (s.readDesc p.harg).owner = false) (die : Nat) (st : Status) (slot1 : List Byte) :
    (refuseRecipe die p st slot1 s).carries (mkPacket 5 0x52 p.src p.dest p.tag st.code 0 false slot1) := by
  unfold refuseRecipe recipePacket State.sealFor
  rw [hclear]
  exact carries_of_leaves ((finalGen_frame ..).leaves_eq rfl) (carries_sendPacket ..)

/-! ### Cancels (R359) -/

theorem cancelRecipe_recp {s : State} {id : Nat} (h : s.recp.recipes.all (fun y => y.id != id || y.phase != .reducing) = true) :
    (cancelRecipe id s).recp.recipes = s.recp.recipes.map (fun x => if x.id = id then { x with cancelled := true } else x) := by
  have hnone : s.recp.recipes.any (fun r => r.id == id && r.phase == .reducing) = false := by
    refine List.any_eq_false.mpr fun y hy => ?_
    have := List.all_eq_true.mp h y hy
    simp only [bne, Bool.or_eq_true, Bool.not_eq_true'] at this
    rcases this with h | h <;> simp [h]
  unfold cancelRecipe
  rw [hnone, if_neg Bool.false_ne_true]
  rfl

theorem cancelNow_of_not_collecting {r : Recipe} (h : r.phase ≠ .collecting) (s : State) : cancelNow r s = cancelRecipe r.id s := if_neg h

theorem cancelRecipe_frame (id : Nat) (s : State) : Frame [.recp, .core] s (cancelRecipe id s) := frame_cancelRecipe (by decide) (Frame.refl _ s)

/-- Every record of a recipe's number is marked cancelled, and their number is the same. -/
theorem cancelled_all {s : State} {id : Nat} (h : s.recp.recipes.all (fun y => y.id != id || y.phase != .reducing) = true) :
    (∀ y ∈ (cancelRecipe id s).recp.recipes, y.id = id → y.cancelled = true) ∧ (cancelRecipe id s).recp.recipes.length = s.recp.recipes.length := by
  rw [cancelRecipe_recp h]
  refine ⟨fun y hy hid => ?_, List.length_map _⟩
  obtain ⟨x, -, rfl⟩ := List.mem_map.mp hy
  by_cases hx : x.id = id
  · rw [if_pos hx]
  · rw [if_neg hx] at hid
    exact absurd hid hx

/-- A RECIPE_CANCEL of an Active slot that policing lets pass is taken. -/
theorem recipeCancel_exec {s u : State} {port slot : Nat} {p : Packet} {x : Slot} (htakes : s.takes port p = true) (hop : p.op = 0x54)
    (hfirst : p.resend = false) (hslot : s.slotOfEid p.src = some slot) (hx : aget s.part.slots slot = some x) (hst : x.st = .active)
    (hfree : s.outstandingHere p.src p.tag = false) (hnow : s.notNow p = false) (hpolices : s.polices port slot p u) :
    exec (.recipeCancel port p) s = .next (takeCancel p u) := by
  have hbusy : (if p.resend then s.outstanding p.src p.tag else s.outstandingHere p.src p.tag) = false := by
    rw [hfirst, if_neg Bool.false_ne_true, hfree]
  rw [exec, execRecipeCancel, if_pos hop, arriveFabric_of_takes htakes]
  rw [intake_of_active (busy := fun s => if p.resend then s.outstanding p.src p.tag else s.outstandingHere p.src p.tag) hslot hx hst hfirst hbusy,
    if_neg Bool.false_ne_true, police_of_polices hnow hpolices]

theorem statusPacket_cancel {p : Packet} (hop : p.op = 0x54) (st : Status) : statusPacket p st 0 = mkPacket 0 0x06 p.src p.dest p.tag st.code 0 false [] := by
  unfold statusPacket
  rw [hop]
  rfl

/-- What RECIPE_ABORT does to its recipe; the copy of a standby does nothing (R395, R473). -/
def abortEffect (req : Req) (r : Recipe) (s : State) : State := if s.copyHere req then s else cancelNow r s

theorem abortEffect_cancels {req : Req} {r : Recipe} {s : State} (hst : s.standby = false) (hcol : r.phase ≠ .collecting) :
    abortEffect req r s = cancelRecipe r.id s := by
  unfold abortEffect State.copyHere
  rw [hst, Bool.false_and, if_neg Bool.false_ne_true, cancelNow_of_not_collecting hcol]

theorem standby_of_handled {s t : State} (h : Handled s t) : t.standby = s.standby := by
  have hrest := h.frame.twin_rest rfl
  have hst : t.twin.st = s.twin.st := (congrArg TwinState.st hrest :)
  have hreleased : t.twin.released = s.twin.released := (congrArg TwinState.released hrest :)
  unfold State.standby
  rw [hst, hreleased]

theorem recipeAbort_exec {s : State} {req : Req} {slot tag : Nat} {r : Recipe} (hst : s.standby = false)
    (hfind : s.recp.recipes.find? (fun x => x.slot == slot && x.tag == tag) = some r) (hred : r.phase ≠ .reducing) :
    exec (.recipeAbort req slot tag) s = .next (operateOk (cmdObj 0x1820 1 roleOp) req (leBytes 2 slot ++ leBytes 2 tag) 2
      { Verdict.ok with state := false } (abortEffect req r) s) := by
  have hbad : (r.phase == .reducing) = false := beq_eq_false_iff_ne.mpr hred
  rw [exec, execRecipeAbort, hfind]
  dsimp only
  rw [hbad]
  rfl

/-- Settles O14: a RECIPE that its slot and policing let pass is taken (`arriveRecipe_takes`), and its checks say how; a cancel and an abort mark
the recipe cancelled. -/
theorem recipesArrive : Obligations.RecipesArrive := by
  intro s port p
  refine ⟨?accepted, ?stage, ?reserved, ?cancel, ?reducing, ?abort⟩
  case accepted =>
    intro slot u v params skip htakes hadmits hnow hpolices hop henc hclear hcheck c code hc hcode
    have hrow : exec c s = recipeRow code port p s ∧ code ≠ 7 := by
      simp only [List.mem_cons, List.not_mem_nil, or_false, Prod.mk.injEq] at hc
      rcases hc with ⟨rfl, rfl⟩ | ⟨rfl, rfl⟩ | ⟨rfl, rfl⟩ | ⟨rfl, rfl⟩ | ⟨rfl, rfl⟩ | ⟨rfl, rfl⟩ | ⟨rfl, rfl⟩ | ⟨rfl, rfl⟩ | ⟨rfl, rfl⟩ | ⟨rfl, rfl⟩
        | ⟨rfl, rfl⟩ | ⟨rfl, rfl⟩ <;> exact ⟨rfl, by decide⟩
    obtain ⟨hexec, h7⟩ := hrow
    refine ⟨acceptRecipe (newRecipe v port slot p params skip) v, ?_, acceptRecipe_mem .., ?_⟩
    · rw [recipeRow_takes hexec hop, arriveRecipe_takes htakes hadmits hnow hpolices hop henc hclear (mine := fun d => d.code == code) (beq_iff_eq.mpr hcode),
        takeRecipe_accepts hcheck (hcode ▸ h7)]
    · obtain ⟨hnext, hqueues, hin⟩ := acceptRecipe_in (newRecipe v port slot p params skip) v
      refine ⟨hnext, hqueues, ?_⟩
      rcases hin with hin | hin
      · exact ⟨_, hin, rfl, rfl, rfl, rfl, rfl, rfl, rfl, rfl, rfl, rfl, rfl, rfl, .inl rfl⟩
      · exact ⟨_, hin, rfl, rfl, rfl, rfl, rfl, rfl, rfl, rfl, rfl, rfl, rfl, rfl, .inr rfl⟩
  case stage =>
    intro slot u v t params skip htakes hadmits hnow hpolices hop henc hclear hcode hcheck hstage
    refine ⟨t, ?_, rfl⟩
    rw [recipeRow_takes rfl hop, arriveRecipe_takes htakes hadmits hnow hpolices hop henc hclear (mine := fun d => d.code == 7) (beq_iff_eq.mpr hcode),
      takeRecipe_stage hcheck hcode hstage]
  case reserved =>
    intro slot u htakes hadmits hnow hpolices hop henc hclear hclear' hcode
    have hmine : ((descOf p.body).code == 0 || decide ((descOf p.body).code > 13)) = true := by
      rcases hcode with h | h
      · rw [h]; rfl
      · rw [decide_eq_true h, Bool.or_true]
    refine ⟨refuseRecipe (dieOfPort port) p .unsupported doneReset u, ?_, ?_, ?_, refuseRecipe_carries hclear' ..⟩
    · rw [exec, execRecipeReservedCode, if_pos hop,
        arriveRecipe_takes (mine := fun d => d.code == 0 || decide (d.code > 13)) htakes hadmits hnow hpolices hop henc hclear hmine, takeRecipe_reserved hcode]
    · rw [(refuseRecipe_frame ..).recp_eq rfl, (polices_frame hpolices).recp_eq rfl]
    · rw [(refuseRecipe_frame ..).mem_eq rfl, (polices_frame hpolices).mem_eq rfl]
  case cancel =>
    intro slot x u r htakes hop hfirst hslot hx hst hfree hnow hpolices hfind hcol hred hall
    obtain ⟨hcancelled, hlength⟩ := cancelled_all hall
    refine ⟨answerNow p .ok (cancelRecipe r.id u), ?_, ?_, ?_, ?_, statusPacket_cancel hop .ok ▸ carries_answerNow ..⟩
    · rw [recipeCancel_exec htakes hop hfirst hslot hx hst hfree hnow hpolices, takeCancel, hfind]
      dsimp only
      rw [if_neg hred, cancelNow_of_not_collecting hcol]
      rfl
    · rw [(answerNow_frame ..).recp_eq rfl]
      exact hcancelled
    · rw [(answerNow_frame ..).recp_eq rfl]
      exact hlength
    · rw [(answerNow_frame ..).mem_eq rfl, (cancelRecipe_frame ..).mem_eq rfl, (polices_frame hpolices).mem_eq rfl]
  case reducing =>
    intro slot x u r htakes hop hfirst hslot hx hst hfree hnow hpolices hfind hred
    refine ⟨answerNow p .refusedState u, ?_, (answerNow_frame ..).recp_eq rfl, ?_, statusPacket_cancel hop .refusedState ▸ carries_answerNow ..⟩
    · rw [recipeCancel_exec htakes hop hfirst hslot hx hst hfree hnow hpolices, takeCancel, hfind]
      dsimp only
      rw [if_pos hred]
      rfl
    · rw [(answerNow_frame ..).mem_eq rfl, (polices_frame hpolices).mem_eq rfl]
  case abort =>
    intro req slot tag r hst hfind hcol hall hred
    have hclear : ∀ b, Handled s b → abortEffect req r b = cancelRecipe r.id b := fun b hb => abortEffect_cancels ((standby_of_handled hb).trans hst) hcol
    refine replies_effect (recipeAbort_exec hst hfind hred) rfl rfl rfl rfl (fun b hb => ?_) fun b t hb ht => ?_
    · rw [hclear b hb]
      exact (cancelRecipe_frame ..).running_eq rfl
    · rw [hclear b hb] at ht
      have hall' : b.recp.recipes.all (fun y => y.id != r.id || y.phase != .reducing) = true := by rw [hb.frame.recp_eq rfl]; exact hall
      rw [ht.frame.recp_eq rfl, ht.frame.mem_eq rfl, (cancelRecipe_frame ..).mem_eq rfl, hb.frame.mem_eq rfl]
      exact ⟨(cancelled_all hall').1, rfl⟩

end Sys2Proof.Machine
end

section
/-!
PROOF. The tiles of a recipe: dispatched, taken by a core, checked, committed, or lost and run again (R335, R361 to R370).
-/
namespace Sys2Proof.Machine

/-! ### What the steps of a tile leave of recipes, cores and memory -/

/-- A core whose tile is over. -/
def idled (c : Nat) (s : State) : State := setCore c (fun x => { x with run := none }) s

theorem run_idled (c : Nat) (s : State) : ((idled c s).coreRec c).run = none := by
  unfold idled
  rw [coreRec_setCore_same]

theorem frame_idled (c : Nat) (s : State) : Frame [.core] s (idled c s) := frame_setCore (by decide) (Frame.refl _ s)

theorem doneTile_frame (id tile : Nat) (s : State) : Frame [.recp, .mirror, .leaves, .ctrs] s (doneTile id tile s) :=
  frame_doneTile (by decide) (Frame.refl _ s)

/-- A tile that has committed is among those that are done. -/
theorem doneTile_done {id tile : Nat} {s : State} {q : Recipe} (hq : (doneTile id tile s).recipe id = some q) : tile ∈ q.done := by
  unfold doneTile at hq
  cases hr : s.recipe id with
  | none =>
    rw [hr] at hq
    exact absurd (hr.symm.trans hq) nofun
  | some r =>
    rw [hr] at hq
    dsimp only at hq
    generalize hu : setRecipe id (fun x => { x with done := if x.done.contains tile then x.done else x.done ++ [tile] }) s = u at hq
    have hself : u.recipe id = some q := (recipe_of_recp_eq ((frame_bump (P := [.mirror, .leaves, .ctrs]) (by decide)
      (frame_mirrorState (by decide) (Frame.refl _ u))).recp_eq rfl) id).symm.trans hq
    rw [← hu, recipe_setRecipe_same (f := fun x : Recipe => { x with done := if x.done.contains tile then x.done else x.done ++ [tile] }) (fun _ => rfl) hr] at hself
    obtain rfl := Option.some.inj hself
    dsimp only
    split
    next h => exact List.contains_iff_mem.mp h
    · exact List.mem_append_right _ (List.mem_singleton_self tile)

/-! ### Dispatch (R361, R363, R366, R369) -/

/-- A tile is dispatched: it waits in its cluster's queue, and the recipe's next is the one after it. -/
def dispatched (r : Recipe) (t k : Nat) (s : State) : State :=
  wakeUnit k ((setRecipe r.id (fun x => { x with next := t + 1, phase := if x.phase = .admission then .running else x.phase }) s).onRecp
    (fun x => { x with queues := amod x.queues k [] (fun q => q ++ [{ recipe := r.id, tile := t, stolen := false }]) }))

theorem dispatched_recp (r : Recipe) (t k : Nat) (s : State) : (dispatched r t k s).recp
    = ((setRecipe r.id (fun x => { x with next := t + 1, phase := if x.phase = .admission then .running else x.phase }) s).onRecp
      (fun x => { x with queues := amod x.queues k [] (fun q => q ++ [{ recipe := r.id, tile := t, stolen := false }]) })).recp :=
  (frame_wakeUnit (P := [.pkg, .power, .rings, .ctrs, .free]) (by decide) (Frame.refl _ _)).recp_eq rfl

theorem dispatched_queued (r : Recipe) (t k : Nat) (s : State) :
    { recipe := r.id, tile := t, stolen := false } ∈ agetD (dispatched r t k s).recp.queues k [] := by
  rw [dispatched_recp]
  refine (agetD_amod_same (setRecipe r.id _ s).recp.queues k [] [] (fun q => q ++ [{ recipe := r.id, tile := t, stolen := false }])).symm ▸ ?_
  exact List.mem_append_right _ (List.mem_singleton_self _)

theorem dispatched_recipe {s : State} {id : Nat} {r : Recipe} (hr : s.recipe id = some r) (hrun : r.phase = .running) (t k : Nat) :
    (dispatched r t k s).recipe id = some { r with next := t + 1 } := by
  refine (recipe_of_recp_eq (dispatched_recp r t k s) id).trans ?_
  obtain rfl := id_of_recipe hr
  refine (recipe_setRecipe_same (f := fun x : Recipe => { x with next := t + 1, phase := if x.phase = .admission then .running else x.phase }) (fun _ => rfl) hr).trans ?_
  simp only [hrun, reduceCtorEq, if_false]

theorem dispatched_mem (r : Recipe) (t k : Nat) (s : State) : (dispatched r t k s).mem = s.mem :=
  (frame_wakeUnit (P := [.pkg, .recp, .power, .rings, .ctrs, .free]) (by decide) (frame_onRecp (by decide) (frame_setRecipe (by decide) (Frame.refl _ s)))).mem_eq rfl

/-! ### Taking a tile (R367) -/

/-- The record of a tile that a core begins. -/
def begunTile (s : State) (t : TileRef) : CoreTile :=
  { recipe := t.recipe, tile := t.tile, stolen := t.stolen, checked := false
    kernel := match s.recipe t.recipe with | some r => r.d.code == 13 | none => false
    handle := 0, textLen := 0, tray := 0, threads := [], ending := .running, pages := [], visited := [] }

theorem run_startTile (c : Nat) (t : TileRef) (s : State) : ((startTile c t s).coreRec c).run = some (begunTile s t) := by
  unfold startTile
  rw [coreRec_setCore_same]
  rfl

theorem startTile_frame (c : Nat) (t : TileRef) (s : State) : Frame [.part, .dram, .core] s (startTile c t s) := frame_startTile (by decide) (Frame.refl _ s)

/-! ### The check of a tile (R231, R362) -/

/-- A tile whose check passes: it is checked, its pages are known, and the recipe counts it. -/
def passed (core : Nat) (r : Recipe) (t : CoreTile) (c : Checked) (s : State) : State :=
  setCore core (fun x => { x with run := some { t with checked := true, pages := c.pages } })
    (setRecipe r.id (fun x => { x with checked := if x.checked.contains t.tile then x.checked else x.checked ++ [t.tile] }) (settled (settleTile core) r.ctx s))

theorem passed_does {c : Instr} {s v : State} {core : Nat} {r : Recipe} {t : CoreTile} {d : Checked} (h : exec c s = .next (passed core r t d v)) :
    Does c s (fun y => (y.coreRec core).run = some { t with checked := true, pages := d.pages } ∧ y.mem = v.mem ∧ y.recp.queues = v.recp.queues) := by
  have hs : Frame [.part] v (settled (settleTile core) r.ctx v) := frame_settled (by decide) (Frame.refl _ v)
  refine ⟨_, h, ?_, hs.mem_eq rfl, (congrArg RecipeState.queues (hs.recp_eq rfl) :)⟩
  unfold passed
  rw [coreRec_setCore_same]

theorem onVerdict_ok {core tile : Nat} {r : Recipe} {v : SpanCheck} (h : v = .ok) (go : State → State) (s : State) :
    onVerdict core r tile v go s = go (settled (settleTile core) r.ctx s) := by
  rw [h]
  rfl

section
variable {s u v : State} {core : Nat} {t : CoreTile} {r : Recipe} {c : Checked}

/-- The spans that do not depend on data are all there are. -/
theorem tileCheck_static (hf : s.frozen = false) (hrun : (s.coreRec core).run = some t) (hr : s.recipe t.recipe = some r) (hkernel : t.kernel = false)
    (hnew : t.checked = false) (hable : s.coreAble core = true) (hu : u = clearForTenant core (s.readDesc r.ctx).owner s)
    (hcheck : checkSpans (dieOfCluster (clusterOf core)) r.ctx r.d.code (r.placeOf t.tile) (r.tileSpans (u.stageSources r) t.tile) (Checked.start []) u = (v, c))
    (hdata : r.d.dataDriven = false) (hok : c.verdict (agetD s.part.gens r.ctx 0) v = .ok) : exec (.tileCheck core) s = .next (passed core r t c v) := by
  subst hu
  rw [exec, execTileCheck, hf, hrun]
  dsimp only
  rw [hr]
  dsimp only
  rw [if_neg (by decide), if_neg (by rw [hkernel, hnew, hable]; decide), hcheck]
  dsimp only
  rw [hdata, Bool.not_false, Bool.true_or, if_pos rfl, onVerdict_ok hok]
  rfl

variable {w x : State} {e : Checked}

/-- Spans that depend on data, which can be read. -/
theorem tileCheck_data (hf : s.frozen = false) (hrun : (s.coreRec core).run = some t) (hr : s.recipe t.recipe = some r) (hkernel : t.kernel = false)
    (hnew : t.checked = false) (hable : s.coreAble core = true) (hu : u = clearForTenant core (s.readDesc r.ctx).owner s)
    (hcheck : checkSpans (dieOfCluster (clusterOf core)) r.ctx r.d.code (r.placeOf t.tile) (r.tileSpans (u.stageSources r) t.tile) (Checked.start []) u = (v, c))
    (hdata : r.d.dataDriven = true) (hsettle : c.settle = none)
    (hready : readySpans (AccBy.tile core r.slot) c.pages false ((spanLines (r.tileSpans (u.stageSources r) t.tile)).filter (fun x => !x.write)) v = (w, .ready))
    (hcheck' : checkSpans (dieOfCluster (clusterOf core)) r.ctx r.d.code (fun i => 2 ^ 20 + i) (r.dataSpans (w.reader c.pages) t.tile) c w = (x, e))
    (hcode : r.d.code ≠ 5) (hok : e.verdict (agetD s.part.gens r.ctx 0) x = .ok) : exec (.tileCheck core) s = .next (passed core r t e x) := by
  subst hu
  rw [exec, execTileCheck, hf, hrun]
  dsimp only
  rw [hr]
  dsimp only
  rw [if_neg (by decide), if_neg (by rw [hkernel, hnew, hable]; decide), hcheck]
  dsimp only
  rw [hdata, hsettle, if_neg (by decide), hready]
  dsimp only
  rw [hcheck', if_pos (.inl hcode), onVerdict_ok hok]
  rfl

variable {z z' : State} {e' : Checked}

/-- The rows of bags, which are known once their indices can be read. -/
theorem tileCheck_rows (hf : s.frozen = false) (hrun : (s.coreRec core).run = some t) (hr : s.recipe t.recipe = some r) (hkernel : t.kernel = false)
    (hnew : t.checked = false) (hable : s.coreAble core = true) (hu : u = clearForTenant core (s.readDesc r.ctx).owner s)
    (hcheck : checkSpans (dieOfCluster (clusterOf core)) r.ctx r.d.code (r.placeOf t.tile) (r.tileSpans (u.stageSources r) t.tile) (Checked.start []) u = (v, c))
    (hdata : r.d.dataDriven = true) (hsettle : c.settle = none)
    (hready : readySpans (AccBy.tile core r.slot) c.pages false ((spanLines (r.tileSpans (u.stageSources r) t.tile)).filter (fun x => !x.write)) v = (w, .ready))
    (hcheck' : checkSpans (dieOfCluster (clusterOf core)) r.ctx r.d.code (fun i => 2 ^ 20 + i) (r.dataSpans (w.reader c.pages) t.tile) c w = (x, e))
    (hcode : r.d.code = 5) (hsettle' : e.settle = none)
    (hready' : readySpans (AccBy.tile core r.slot) e.pages false (spanLines (r.dataSpans (w.reader c.pages) t.tile)) x = (z, .ready))
    (hcheck'' : checkSpans (dieOfCluster (clusterOf core)) r.ctx r.d.code (fun i => 2 ^ 20 + i) (r.dataSpans (z.reader e.pages) t.tile) e z = (z', e'))
    (hok : e'.verdict (agetD s.part.gens r.ctx 0) z' = .ok) : exec (.tileCheck core) s = .next (passed core r t e' z') := by
  subst hu
  rw [exec, execTileCheck, hf, hrun]
  dsimp only
  rw [hr]
  dsimp only
  rw [if_neg (by decide), if_neg (by rw [hkernel, hnew, hable]; decide), hcheck]
  dsimp only
  rw [hdata, hsettle, if_neg (by decide), hready]
  dsimp only
  rw [hcheck', if_neg (by rw [hcode, hsettle']; decide), hready']
  dsimp only
  rw [hcheck'', onVerdict_ok hok]
  rfl

end

/-! ### A residue mismatch (R335) -/

/-- A tile lost for the first time: it waits at the head of its cluster's queue, and the core it was lost on is not to run it again. -/
theorem loseTile_first {s : State} {t : CoreTile} {r : Recipe} (hr : s.recipe t.recipe = some r) (hlost : r.lost = []) (hcode : r.d.code ≠ 13)
    (cluster avoid : Nat) (st : Status) :
    ((loseTile t cluster avoid st s).recipe t.recipe).map Recipe.lost = some [(t.tile, avoid)]
      ∧ agetD (loseTile t cluster avoid st s).recp.queues cluster [] = { recipe := t.recipe, tile := t.tile, stolen := t.stolen } :: agetD s.recp.queues cluster []
      ∧ Frame [.recp, .ctrs] s (loseTile t cluster avoid st s) := by
  have hno : (ahas r.lost t.tile || (r.d.code == 13 && bits r.d.w6 8 1 == 1)) = false := by
    rw [hlost, beq_eq_false_iff_ne.mpr hcode]
    rfl
  unfold loseTile
  dsimp only
  rw [hr]
  dsimp only
  rw [hno, if_neg Bool.false_ne_true]
  generalize hu : State.onRecp _ (setRecipe t.recipe _ s) = u
  have hb : (bump .rcReruns (r.die * 16 + r.d.code) u).recp = u.recp := (frame_bump (P := [.ctrs]) (by decide) (Frame.refl _ u)).recp_eq rfl
  refine ⟨?_, ?_, frame_bump (by decide) (hu ▸ frame_onRecp (by decide) (frame_setRecipe (by decide) (Frame.refl _ s)))⟩
  · rw [recipe_of_recp_eq hb, ← hu]
    refine (congrArg (Option.map Recipe.lost) (recipe_setRecipe_same (f := fun x : Recipe => { x with lost := aset x.lost t.tile avoid }) (fun _ => rfl) hr)).trans ?_
    rw [Option.map_some, hlost]
    rfl
  · rw [hb, ← hu]
    exact agetD_amod_same ..

/-- A first mismatch of a core is recorded, and the core stays. -/
theorem noteMismatch_first {s : State} {c : Nat} (h : (s.unit .core c).mismatches = []) (thread tile : Nat) :
    Frame [.integ, .units, .rings, .ctrs] s (noteMismatch c thread tile s) := by
  unfold noteMismatch
  dsimp only
  have hc : (crumb 1 c 8 (thread + tile * 2 ^ 32) s).unit .core c = s.unit .core c := rfl
  rw [hc, h]
  exact frame_logError (by decide) (frame_bump (by decide) (frame_setUnit (by decide) (frame_crumb (by decide) (Frame.refl _ s))))

/-- The end of a tile's compute step, with its recipe and its core there. -/
theorem tileCommit_exec {s : State} {core : Nat} {t : CoreTile} {r : Recipe} (hf : s.frozen = false) (hrun : (s.coreRec core).run = some t)
    (hr : s.recipe t.recipe = some r) (hkernel : t.kernel = false) (hchecked : t.checked = true) (hable : s.coreAble core = true) (residue : Bool) :
    exec (.tileCommit core residue) s
      = .next (if residue then mismatchTile core 0 r t s else settleWaits (fillLocals (clusterOf core) (commitTile core r t s))) := by
  rw [exec, execTileCommit, hf, hrun]
  dsimp only
  rw [hr]
  dsimp only
  rw [hkernel, hchecked, hable, if_neg (by decide), if_neg (by decide)]
  cases residue <;> rfl

/-! ### The commit (R362, R363) -/

theorem frame_committed (r : Recipe) (core tile die : Nat) (ev : NumEv) (f : Recipe → Recipe) (s : State) :
    Frame [.recp, .core, .mirror, .leaves, .ctrs] s (bump .tqRun (clusterOf core) (doneTile r.id tile (idled core (setRecipe r.id f (countEv die ev s))))) :=
  frame_bump (by decide) (frame_doneTile (by decide) (frame_setCore (by decide) (frame_setRecipe (by decide) (frame_countEv (by decide) (Frame.refl _ s)))))

/-- What stands once a tile has committed: its core is free, and the tile is among those that are done. -/
theorem committed_holds (r : Recipe) (core tile : Nat) (s : State) :
    ((bump .tqRun (clusterOf core) (doneTile r.id tile (idled core s))).coreRec core).run = none
      ∧ ∀ q, (bump .tqRun (clusterOf core) (doneTile r.id tile (idled core s))).recipe r.id = some q → tile ∈ q.done := by
  have hb := frame_bump (P := [.ctrs]) (c := .tqRun) (u := clusterOf core) (by decide) (Frame.refl _ (doneTile r.id tile (idled core s)))
  refine ⟨?_, fun q hq => doneTile_done ((recipe_of_recp_eq (hb.recp_eq rfl) r.id).symm.trans hq)⟩
  rw [coreRec_of_core_eq (hb.core_eq rfl), coreRec_of_core_eq ((doneTile_frame ..).core_eq rfl)]
  exact run_idled core s

theorem commitTile_commits {s g u v : State} {core : Nat} {t : CoreTile} {r : Recipe} {c : Checked}
    (h6 : r.d.code ≠ 6) (h9 : r.d.code ≠ 9) (h12 : r.d.code ≠ 12) (hlower : (List.range t.tile).all (fun x => r.committed x || r.checked.contains x) = true)
    (hgrant : grantWhole t.pages (r.tileSpans (s.stageSources r) t.tile) s = (g, true))
    (hready : readySpans (AccBy.tile core r.slot) t.pages (r.d.flag 1) (spanLines (r.tileSpans (s.stageSources r) t.tile)) g = (u, .ready))
    (hmissing : (r.dataSpans (u.reader t.pages) t.tile).any (fun x => x.pages.any (fun a => !ahas t.pages (a / 65536))) = false)
    (hc : c = Checked.start t.pages) (hok : c.verdict (agetD u.part.gens r.ctx 0) u = .ok)
    (hdata : readySpans (AccBy.tile core r.slot) c.pages (r.d.flag 1) (spanLines (r.dataSpans (u.reader t.pages) t.tile)) (settled (settleTile core) r.ctx u) = (v, .ready))
    (hfast : r.fast = false) : ∃ f die ev, commitTile core r t s = bump .tqRun (clusterOf core) (doneTile r.id t.tile (idled core
      (setRecipe r.id f (countEv die ev (commitOuts core c.pages (outLines (r.compute (v.reader c.pages) (s.stageSources r) v.free t.tile).outs) v).1)))) := by
  subst hc
  have h69 : (!(r.d.code == 6 || (r.d.code == 9 && decide (t.tile ≥ r.phaseOne + kvHeads r.params)))) = true := by
    rw [beq_eq_false_iff_ne.mpr h6, beq_eq_false_iff_ne.mpr h9]
    rfl
  have hno9 : ¬(r.d.code = 9 ∧ t.tile ≥ r.phaseOne + kvHeads r.params) := fun h => h9 h.1
  unfold commitTile
  dsimp only
  rw [hlower, h69, Bool.true_or, if_neg (by decide), if_neg h12, hgrant]
  dsimp only
  rw [if_pos rfl, hready]
  dsimp only
  rw [hmissing, if_neg Bool.false_ne_true]
  dsimp only
  rw [onVerdict_ok hok, hdata]
  dsimp only
  rw [hfast, onlyIf, if_neg Bool.false_ne_true, if_neg hno9]
  exact ⟨_, _, _, rfl⟩

/-- Settles O15: each command of a tile in the case its premises name, and what the steps that follow leave of recipes, cores and memory. -/
theorem recipeTiles : Obligations.RecipeTiles := by
  intro s hf
  refine ⟨?dispatch, ?steal, ?check, ?mismatch, ?commit⟩
  case dispatch =>
    intro id r t hst hr hnext hphase hwaits hgrant hcancel hfailed hscan hwindow hbarrier horder hroom hpause hunit
    have hid := id_of_recipe hr
    subst hid
    refine ⟨_, ?_, dispatched r t (s.tileCluster r t) s, rfl, dispatched_queued .., dispatched_recipe hr hphase .., dispatched_mem ..⟩
    rw [exec, execTileDispatch, hf, hst, hr]
    dsimp only
    rw [hnext]
    dsimp only
    rw [hgrant, if_neg (by decide), if_neg (by simp [hphase, hwaits, hcancel, hfailed, hscan, hwindow, hbarrier, horder, hroom, hpause, hunit])]
    rfl
  case steal =>
    intro core t rest hable hidle hpause hlocal
    generalize hu : s.onRecp (fun r => { r with locals := aset r.locals core rest }) = u
    have hlocals : u.recp.locals = aset s.recp.locals core rest := hu ▸ rfl
    have hmem : u.mem = s.mem := hu ▸ rfl
    refine ⟨_, ?_, startTile core t u, begunTile u t, rfl, run_startTile .., rfl, rfl, rfl, rfl, ?_, ((startTile_frame ..).mem_eq rfl).trans hmem⟩
    · rw [exec, execCoreSteal, hf, hable, hidle, if_neg (by decide), if_neg (by simpa using hpause), hlocal, ← hu]
    · rw [(startTile_frame ..).recp_eq rfl, hlocals]
      exact agetD_aset_same ..
  case check =>
    intro core t r u v c gen hrun hr hkernel hnew hable hu hgen hcheck
    subst hgen
    exact ⟨fun hdata hok => passed_does (tileCheck_static hf hrun hr hkernel hnew hable hu hcheck hdata hok),
      fun w x e hdata hsettle hready hcheck' =>
        ⟨fun hcode hok => passed_does (tileCheck_data hf hrun hr hkernel hnew hable hu hcheck hdata hsettle hready hcheck' hcode hok),
          fun z z' e' hcode hsettle' hready' hcheck'' hok =>
            passed_does (tileCheck_rows hf hrun hr hkernel hnew hable hu hcheck hdata hsettle hready hcheck' hcode hsettle' hready' hcheck'' hok)⟩⟩
  case mismatch =>
    intro core t r hrun hr hkernel hchecked hable hclean hlost hcode
    obtain ⟨hlose, hqueue, hframe⟩ := loseTile_first (s := idled core s) hr hlost hcode (clusterOf core) core .integrity
    generalize hu : bump (if !ahas r.lost t.tile then .residueReruns else .residueIntegrity) core (loseTile t (clusterOf core) core .integrity (idled core s)) = u
    have hall : Frame [.recp, .ctrs] (idled core s) u := hu ▸ frame_bump (by decide) hframe
    have hrecp : u.recp = (loseTile t (clusterOf core) core .integrity (idled core s)).recp :=
      hu ▸ (frame_bump (P := [.ctrs]) (by decide) (Frame.refl _ _)).recp_eq rfl
    have hnote : Frame [.integ, .units, .rings, .ctrs] u (noteMismatch core 0 t.tile u) := noteMismatch_first ((congrArg UnitRec.mismatches (hall.unit_eq rfl ..)).trans hclean) ..
    refine ⟨_, tileCommit_exec hf hrun hr hkernel hchecked hable true, noteMismatch core 0 t.tile u, ?_, ?_, ?_, ?_, ?_⟩
    · rw [if_pos rfl, ← hu]
      rfl
    · rw [coreRec_of_core_eq (hnote.core_eq rfl), coreRec_of_core_eq (hall.core_eq rfl)]
      exact run_idled core s
    · exact (hnote.mem_eq rfl).trans (hall.mem_eq rfl)
    · rw [recipe_of_recp_eq ((hnote.recp_eq rfl).trans hrecp)]
      exact hlose
    · rw [hnote.recp_eq rfl, hrecp]
      exact ⟨_, hqueue⟩
  case commit =>
    intro core t r g u v w c hrun hr hkernel hchecked hable h6 h9 h12 hlower hgrant hready hmissing hc hok hdata hfast hw
    obtain ⟨f, die, ev, h⟩ := commitTile_commits h6 h9 h12 hlower hgrant hready hmissing hc hok hdata hfast
    rw [← hw] at h
    have hholds := committed_holds r core t.tile (setRecipe r.id f (countEv die ev w))
    refine ⟨_, tileCommit_exec hf hrun hr hkernel hchecked hable false, commitTile core r t s, rfl, ?_, ?_, fun q hq => ?_⟩
    · rw [h]
      exact (frame_committed ..).mem_eq rfl
    · rw [h]
      exact hholds.1
    · rw [h, ← id_of_recipe hr] at hq
      exact hholds.2 q hq

end Sys2Proof.Machine
end

section
/-!
PROOF. Answers to snoops and stashes, strays, resends, lookups and time messages (R150, R157, R158, R180, R183, R239, R252 to R255, R267).
-/
namespace Sys2Proof.Machine

/-! ### The end of a recall (R239, R253) -/

/-- The last slot that a recall awaits ends it. -/
theorem settleSlot_last {line slot : Nat} {s : State} {r : Recall} (hr : aget s.dir.recalls line = some r) (hlast : r.awaited = [slot]) :
    aget (settleSlot line slot s).dir.recalls line = none := by
  unfold settleSlot
  extract_lets v
  have hv : aget v.dir.recalls line = some (r.heardFrom slot) := by
    simp only [v, State.onDir_dir, hr]
    exact aget_aset_same ..
  have hnone : (r.heardFrom slot).awaited.isEmpty = true := by
    unfold Recall.heardFrom
    rw [hlast]
    simp
  rw [hv]
  dsimp only
  rw [if_pos hnone]
  exact (closeRecall_dir line v).1

theorem answerState_last {line slot st : Nat} {s : State} {r : Recall} {e : DirEntry} (hr : aget s.dir.recalls line = some r) (he : s.entry line = some e)
    (hlast : r.awaited = [slot]) : aget (answerState line slot st s).dir.recalls line = none := by
  unfold answerState
  rw [hr, he]
  dsimp only
  refine settleSlot_last (r := r) ?_ hlast
  split
  · exact hr
  · rw [recalls_putEntry]
    exact hr

theorem answerState_frame (line slot st : Nat) (s : State) : Frame [.dir, .mirror, .leaves, .obs, .ctrs] s (answerState line slot st s) :=
  frame_answerState (by decide) (Frame.refl _ s)

/-- A recall that ends for nobody's sake, with no own write waiting, leaves nothing more to do. -/
theorem withRecall_quiet {line : Nat} {f : State → State} {s : State} {r : Recall} (hr : aget s.dir.recalls line = some r) (hcause : r.cause = .none)
    (hend : aget (f s).dir.recalls line = none) (hown : (f s).part.ownWrites = []) : withRecall line f s = f s := by
  unfold withRecall
  dsimp only
  rw [hr, hend]
  dsimp only
  rw [hcause]
  unfold completeCause runOwn
  dsimp only
  rw [hown]
  rfl

/-! ### The requests of the pool -/

theorem endPool_frame (q : PoolReq) (s : State) : Frame [.txn, .ledger, .leaves] s (endPool q s) := frame_endPool (by decide) (Frame.refl _ s)

/-- An answered request is gone, where none waits for its tag. -/
theorem endPool_gone {q : PoolReq} {s : State} {src tag : Nat} (hq : s.poolReq src tag = some q) (hwait : s.txn.poolWait = []) :
    (endPool q s).poolReq src tag = none := by
  have hwho : q.dest = src ∧ q.tag = tag := by
    have := List.find?_some hq
    simpa using this
  obtain ⟨rfl, rfl⟩ := hwho
  unfold endPool
  dsimp only
  rw [State.onTxn_txn, hwait, List.find?_nil]
  refine List.find?_eq_none.mpr fun x hx => ?_
  have := (List.mem_filter.mp hx).2
  rw [Bool.not_eq_true'] at this
  exact ne_true_of_eq_false this

theorem reqs_endPool (q : PoolReq) (s : State) : (endPool q s).txn.reqs = s.txn.reqs := by
  unfold endPool
  extract_lets t
  split
  · exact (reqs_issuePool ..).trans rfl
  · rfl

theorem poolReq_of_frame {P : List Part} {s t : State} (h : Frame P s t) (hp : P.contains .txn = false) (src tag : Nat) : t.poolReq src tag = s.poolReq src tag :=
  (congrArg (fun x : TxnState => x.pool.find? (fun q => q.dest == src && q.tag == tag)) (h.txn_rest hp) :)

theorem poolWait_of_frame {P : List Part} {s t : State} (h : Frame P s t) (hp : P.contains .txn = false) : t.txn.poolWait = s.txn.poolWait :=
  (congrArg TxnState.poolWait (h.txn_rest hp) :)

theorem entry_of_dir {s t : State} (h : t.dir = s.dir) (line : Nat) : t.entry line = s.entry line := by
  unfold State.entry
  rw [h]

/-! ### Answers to snoops (R239, R252) -/

section
variable {s : State} {port slot : Nat} {p : Packet} {q : PoolReq} {r : Recall} {e : DirEntry}

/-- An answer to a snoop whose slot is awaited is handled. -/
theorem snoopAnswer_awaited (hslot : s.slotOfEid p.src = some slot) (hq : s.poolReq p.src p.tag = some q) (hissuer : q.issuer = .snoop)
    (hr : aget s.dir.recalls q.key = some r) (hlast : r.awaited = [slot]) (go : Nat → Nat → Recall → PoolReq → State → State) :
    snoopAnswer port p go s = settleWaits (go slot q.key r q s) := by
  unfold snoopAnswer
  rw [hslot, hq]
  dsimp only
  rw [hissuer, if_neg (by decide), hr]
  dsimp only
  rw [hlast, if_pos (by simp)]

/-- What is left of a snoop answered without data: the request is gone, the slot has answered. -/
def snoopHeard (p : Packet) (slot : Nat) (r : Recall) (q : PoolReq) (s : State) : State :=
  withRecall q.key (answerState q.key slot (snoopState r.down (bits p.harg 0 2)).1) (endPool q (onlyIf (s.jobOf p.src).isSome (advanceGen p.src 1 p.tag) s))

theorem snoopHeard_holds (hq : s.poolReq p.src p.tag = some q) (hr : aget s.dir.recalls q.key = some r) (he : s.entry q.key = some e)
    (hlast : r.awaited = [slot]) (hcause : r.cause = .none) (hown : s.part.ownWrites = []) :
    aget (snoopHeard p slot r q s).dir.recalls q.key = none ∧ (s.txn.poolWait = [] → (snoopHeard p slot r q s).poolReq p.src p.tag = none)
      ∧ (snoopHeard p slot r q s).mem = s.mem := by
  have hu : Frame [.sec] s (onlyIf (s.jobOf p.src).isSome (advanceGen p.src 1 p.tag) s) :=
    frame_onlyIf (fun t ht => frame_advanceGen (by decide) ht) (Frame.refl _ _)
  unfold snoopHeard
  generalize onlyIf (s.jobOf p.src).isSome (advanceGen p.src 1 p.tag) s = u at hu
  have hdir : (endPool q u).dir = s.dir := ((endPool_frame q u).dir_eq rfl).trans (hu.dir_eq rfl)
  have hend := answerState_last (st := (snoopState r.down (bits p.harg 0 2)).1) (s := endPool q u) (hdir ▸ hr) ((entry_of_dir hdir _).trans he) hlast
  have hown' : (answerState q.key slot (snoopState r.down (bits p.harg 0 2)).1 (endPool q u)).part.ownWrites = [] := by
    rw [(answerState_frame ..).part_eq rfl, (endPool_frame ..).part_eq rfl, hu.part_eq rfl, hown]
  rw [withRecall_quiet (hdir ▸ hr) hcause hend hown']
  refine ⟨hend, fun hwait => ?_, ?_⟩
  · rw [poolReq_of_frame (answerState_frame ..) rfl]
    exact endPool_gone ((poolReq_of_frame hu rfl ..).trans hq) ((poolWait_of_frame hu rfl).trans hwait)
  · rw [(answerState_frame ..).mem_eq rfl, (endPool_frame ..).mem_eq rfl, hu.mem_eq rfl]

theorem snpRsp_exec (htakes : s.takes port p = true) (hslot : s.slotOfEid p.src = some slot) (hq : s.poolReq p.src p.tag = some q) (hissuer : q.issuer = .snoop)
    (hr : aget s.dir.recalls q.key = some r) (hlast : r.awaited = [slot]) (hop : p.op = 0x22) : ∃ u, Frame [.ctrs] s u
      ∧ (bits p.harg 2 1 = 0 → exec (.snpRsp port p) s = .next (settleWaits (snoopHeard p slot r q u)))
      ∧ (bits p.harg 2 1 = 1 → s.txn.halves = [] → exec (.snpRsp port p) s = .next (settleWaits (u.onDir (fun d => { d with
          recalls := d.recalls.map (fun e => if e.1 = q.key then (e.1, { e.2 with dataDue := e.2.dataDue ++ [(slot, p)] }) else e) })))) := by
  refine ⟨onlyIf (snoopState r.down (bits p.harg 0 2)).2 (bump .badSnoopStates (homeDie (q.key * 128))) s,
    frame_onlyIf (fun t ht => frame_bump (by decide) ht) (Frame.refl _ s), fun hbit => ?_, fun hbit hnone => ?_⟩
  · rw [exec, execSnpRsp, onOp_of_op (beq_iff_eq.mpr hop), arriveFabric_of_takes htakes]
    rw [snoopAnswer_awaited hslot hq hissuer hr hlast]
    dsimp only
    rw [if_neg (by rw [hbit]; decide)]
    rfl
  · rw [exec, execSnpRsp, onOp_of_op (beq_iff_eq.mpr hop), arriveFabric_of_takes htakes]
    rw [snoopAnswer_awaited hslot hq hissuer hr hlast]
    dsimp only
    rw [if_pos hbit]
    have hu : Frame [.ctrs] s (onlyIf (snoopState r.down (bits p.harg 0 2)).2 (bump .badSnoopStates (homeDie (q.key * 128))) s) :=
      frame_onlyIf (fun t ht => frame_bump (by decide) ht) (Frame.refl _ s)
    generalize onlyIf (snoopState r.down (bits p.harg 0 2)).2 (bump .badSnoopStates (homeDie (q.key * 128))) s = u at hu
    rw [hu.txn_eq rfl rfl, hnone, List.find?_nil]

/-- What has been heard with data: written where the slot may have changed the line, and the slot has answered. -/
theorem snpData_does (htakes : s.takes port p = true) (hslot : s.slotOfEid p.src = some slot) (hq : s.poolReq p.src p.tag = some q)
    (hr : aget s.dir.recalls q.key = some r) (he : s.entry q.key = some e) (hlast : r.awaited = [slot]) (hcause : r.cause = .none)
    (hown : s.part.ownWrites = []) {rsp : Packet} (hop : p.op = 0x42) (henc : p.enc = false) (hclear : s.aliasSealed q.key = false)
    (hdue : r.dataDue = [(slot, rsp)]) : Does (.snpData port p) s (fun t => ∃ w, t = settleWaits w ∧ aget w.dir.recalls q.key = none
      ∧ (s.txn.poolWait = [] → w.poolReq p.src p.tag = none)) := by
  have hcrc : p.crcGood = true := by
    simp only [State.takes, Bool.and_eq_true] at htakes
    exact htakes.1.2
  have hexec : exec (.snpData port p) s = .next (settleWaits (withRecall q.key (takeSnoopData q.key slot rsp p) s)) := by
    rw [exec, execSnpData, onOp_of_op (beq_iff_eq.mpr hop), arriveFabric_of_takes htakes]
    dsimp only
    rw [hslot, hq]
    dsimp only
    rw [hr]
    dsimp only [Option.bind_some]
    rw [hdue]
    simp only [List.find?_cons, beq_self_eq_true, Option.map_some]
  have hparts : Frame [.pkg, .ledger, .mem, .dram, .deep, .integ, .mirror, .leaves, .power, .sessions, .obs, .rings, .kodp, .ctrs, .out, .free] s
      (if e.owned slot then writeSnoop q.key p.body (p.poison || !p.crcGood) s else bump .sharedSnoopData (homeDie (q.key * 128)) s) := by
    split
    · exact frame_writeSnoop (by decide) (Frame.refl _ s)
    · exact frame_bump (by decide) (Frame.refl _ s)
  have htake : takeSnoopData q.key slot rsp p s = answerState q.key slot (if bits rsp.harg 0 2 = 0 then 0 else 1)
      (onlyIf ((!p.enc || !p.crcGood) && ((endPool q (if e.owned slot then writeSnoop q.key p.body (p.poison || !p.crcGood) s
          else bump .sharedSnoopData (homeDie (q.key * 128)) s)).jobOf p.src).isSome) (advanceGen p.src 1 p.tag)
        (endPool q (if e.owned slot then writeSnoop q.key p.body (p.poison || !p.crcGood) s else bump .sharedSnoopData (homeDie (q.key * 128)) s))) := by
    unfold takeSnoopData
    dsimp only
    rw [if_neg (by rw [hcrc]; decide), if_neg (by rw [henc]; decide), hclear, if_neg Bool.false_ne_true]
    dsimp only
    rw [he]
    dsimp only
    rw [poolReq_of_frame hparts rfl, hq]
  generalize hu : (if e.owned slot then writeSnoop q.key p.body (p.poison || !p.crcGood) s else bump .sharedSnoopData (homeDie (q.key * 128)) s) = u at hparts htake
  generalize hv : onlyIf ((!p.enc || !p.crcGood) && ((endPool q u).jobOf p.src).isSome) (advanceGen p.src 1 p.tag) (endPool q u) = v at htake
  have hsec : Frame [.sec] (endPool q u) v := hv ▸ frame_onlyIf (fun t ht => frame_advanceGen (by decide) ht) (Frame.refl _ _)
  have hdir : v.dir = s.dir := (hsec.dir_eq rfl).trans (((endPool_frame q u).dir_eq rfl).trans (hparts.dir_eq rfl))
  have hend : aget (takeSnoopData q.key slot rsp p s).dir.recalls q.key = none := by
    rw [htake]
    exact answerState_last (hdir ▸ hr) ((entry_of_dir hdir _).trans he) hlast
  have hown' : (takeSnoopData q.key slot rsp p s).part.ownWrites = [] := by
    rw [htake, (answerState_frame ..).part_eq rfl, hsec.part_eq rfl, (endPool_frame ..).part_eq rfl, hparts.part_eq rfl, hown]
  refine ⟨_, hexec, takeSnoopData q.key slot rsp p s, congrArg settleWaits (withRecall_quiet hr hcause hend hown'), hend, fun hwait => ?_⟩
  rw [htake, poolReq_of_frame (answerState_frame ..) rfl, poolReq_of_frame hsec rfl]
  exact endPool_gone ((poolReq_of_frame hparts rfl ..).trans hq) ((poolWait_of_frame hparts rfl).trans hwait)

/-- A CROSSED whose eviction cannot be taken yet is noted in the recall (R252). -/
theorem crossed_does (htakes : s.takes port p = true) (hslot : s.slotOfEid p.src = some slot) (hq : s.poolReq p.src p.tag = some q) (hissuer : q.issuer = .snoop)
    (hr : aget s.dir.recalls q.key = some r) (hlast : r.awaited = [slot]) (hop : p.op = 0x23) (hnone : s.takeable slot q.key = none) :
    Does (.crossed port p) s (fun t => ∃ w, t = settleWaits w ∧ (aget w.dir.recalls q.key).map Recall.crossed = some (r.crossed ++ [slot])
      ∧ (s.txn.poolWait = [] → w.poolReq p.src p.tag = none) ∧ w.mem = s.mem) := by
  generalize hu : bump .crossed (homeDie (q.key * 128)) (endPool q s) = u
  have hcount : Frame [.ctrs] (endPool q s) u := hu ▸ frame_bump (by decide) (Frame.refl _ _)
  generalize hv : onlyIf (u.jobOf p.src).isSome (advanceGen p.src 1 p.tag) u = v
  have hsec : Frame [.sec] u v := hv ▸ frame_onlyIf (fun t ht => frame_advanceGen (by decide) ht) (Frame.refl _ _)
  have hdir : v.dir = s.dir := (hsec.dir_eq rfl).trans ((hcount.dir_eq rfl).trans ((endPool_frame q s).dir_eq rfl))
  have hreqs : v.txn.reqs = s.txn.reqs := (hsec.reqs_eq rfl).trans ((hcount.reqs_eq rfl).trans (reqs_endPool q s))
  have hnone' : v.takeable slot q.key = none := by
    unfold State.takeable
    rw [hdir, hreqs]
    exact hnone
  have hexec : exec (.crossed port p) s = .next (settleWaits (v.onDir (fun d => { d with
      recalls := d.recalls.map (fun e => if e.1 = q.key then (e.1, { e.2 with crossed := e.2.crossed ++ [slot] }) else e) }))) := by
    rw [exec, execCrossed, onOp_of_op (beq_iff_eq.mpr hop), arriveFabric_of_takes htakes]
    rw [snoopAnswer_awaited hslot hq hissuer hr hlast]
    dsimp only
    rw [hu, hv, hnone']
  refine ⟨_, hexec, _, rfl, ?_, fun hwait => ?_, (hsec.mem_eq rfl).trans ((hcount.mem_eq rfl).trans ((endPool_frame q s).mem_eq rfl))⟩
  · have := aget_map_value v.dir.recalls q.key (fun x : Recall => { x with crossed := x.crossed ++ [slot] })
    rw [State.onDir_dir]
    dsimp only
    rw [this, hdir, hr]
    rfl
  · exact (poolReq_of_frame hsec rfl ..).trans ((poolReq_of_frame hcount rfl ..).trans (endPool_gone hq hwait))

end

/-! ### Stashes (R267) -/

theorem stashRsp_does {s : State} {port : Nat} {p : Packet} {q : PoolReq} (htakes : s.takes port p = true) (hop : p.op = 0x25)
    (hq : s.poolReq p.src p.tag = some q) (hissuer : q.issuer = .stash) : Does (.stashRsp port p) s (fun t =>
      (s.txn.poolWait = [] → t.poolReq p.src p.tag = none) ∧ (bits p.harg 0 1 = 0 → Counts .stashDeclined (homeDie (q.key * 128)) 1 s t) ∧ t.mem = s.mem) := by
  generalize hu : onlyIf (s.jobOf p.src).isSome (advanceGen p.src 1 p.tag) (endPool q s) = u
  have hsec : Frame [.sec] (endPool q s) u := hu ▸ frame_onlyIf (fun t ht => frame_advanceGen (by decide) ht) (Frame.refl _ _)
  have hcount : Frame [.ctrs] u (onlyIf (bits p.harg 0 1 == 0) (bump .stashDeclined (homeDie (q.key * 128))) u) :=
    frame_onlyIf (fun t ht => frame_bump (by decide) ht) (Frame.refl _ u)
  refine ⟨onlyIf (bits p.harg 0 1 == 0) (bump .stashDeclined (homeDie (q.key * 128))) u, ?_, fun hwait => ?_, fun hbit => ?_, ?_⟩
  · rw [exec, execStashRsp, onOp_of_op (beq_iff_eq.mpr hop), arriveFabric_of_takes htakes]
    dsimp only
    rw [hq]
    dsimp only
    rw [if_pos hissuer, hu]
  · exact (poolReq_of_frame hcount rfl ..).trans ((poolReq_of_frame hsec rfl ..).trans (endPool_gone hq hwait))
  · unfold Counts
    rw [onlyIf, if_pos (beq_iff_eq.mpr hbit), ← (endPool_frame q s).ctr_eq rfl, ← hsec.ctr_eq rfl]
    exact ctr_bumpBy_same ..
  · exact (hcount.mem_eq rfl).trans ((hsec.mem_eq rfl).trans ((endPool_frame q s).mem_eq rfl))

/-! ### Strays (R150, R157, R158) -/

/-- The oldest of some packets that wait. -/
def longestWaiting (x : Queued) (xs : List Queued) : Queued := xs.foldl (fun a b => if b.at_ < a.at_ then b else a) x

theorem longestWaiting_mem (x : Queued) (xs : List Queued) : longestWaiting x xs ∈ x :: xs ∧ ∀ z ∈ x :: xs, (longestWaiting x xs).at_ ≤ z.at_ := by
  induction xs generalizing x with
  | nil => exact ⟨List.mem_singleton_self x, fun z hz => by rw [List.mem_singleton.mp hz]; rfl⟩
  | cons y ys ih =>
    have hstep : longestWaiting x (y :: ys) = longestWaiting (if y.at_ < x.at_ then y else x) ys := rfl
    rw [hstep]
    obtain ⟨hmem, hleast⟩ := ih (if y.at_ < x.at_ then y else x)
    have hhead := hleast _ List.mem_cons_self
    refine ⟨?_, fun z hz => ?_⟩
    · rcases List.mem_cons.mp hmem with h | h
      · rw [h]
        split
        · exact List.mem_cons_of_mem _ List.mem_cons_self
        · exact List.mem_cons_self
      · exact List.mem_cons_of_mem _ (List.mem_cons_of_mem _ h)
    · rcases List.mem_cons.mp hz with rfl | hz
      · refine hhead.trans ?_
        split <;> omega
      · rcases List.mem_cons.mp hz with rfl | hz
        · refine hhead.trans ?_
          split <;> omega
        · exact hleast z (List.mem_cons_of_mem _ hz)

theorem unroutable_does {s : State} {dest : Nat} {x : Queued} {xs : List Queued} (hf : s.frozen = false)
    (hwaiting : s.traffic.leaves.flatMap (fun e => if e.1.port = noPin then e.2.filter (fun q => q.pkt.dest == dest) else []) = x :: xs) :
    Does (.unroutableTimeout dest) s (fun t => Counts .unroutable 0 1 s t ∧ Frame [.leaves, .ctrs] s t ∧ ∃ y ∈ x :: xs, (∀ z ∈ x :: xs, y.at_ ≤ z.at_)
      ∧ t.traffic.leaves = s.traffic.leaves.map (fun e => if e.1.port = noPin then (e.1, e.2.erase y) else e)) := by
  obtain ⟨hmem, hleast⟩ := longestWaiting_mem x xs
  generalize hu : s.onTraffic (fun t => { t with leaves := t.leaves.map (fun e => if e.1.port = noPin then (e.1, e.2.erase (longestWaiting x xs)) else e) }) = u
  have hframe : Frame [.leaves] s u := hu ▸ frame_onTraffic [.leaves] (by decide) (.inl rfl) (.inr fun _ => rfl) (Frame.refl _ s)
  refine ⟨bump .unroutable 0 u, ?_, ?_, frame_bump (by decide) (hframe.mono (by decide)), longestWaiting x xs, hmem, hleast, hu ▸ rfl⟩
  · rw [exec, execUnroutableTimeout, hf, if_neg Bool.false_ne_true, hwaiting, ← hu]
    rfl
  · unfold Counts
    rw [← hframe.ctr_eq rfl]
    exact ctr_bumpBy_same ..

theorem poolResend_does {s : State} {dest tag : Nat} {q : PoolReq} (hf : s.frozen = false) (hq : s.poolReq dest tag = some q)
    (hfabric : isFabric (s.portOf q) = true) (hcompact : s.compact (s.portOf q) = true) : Does (.poolResend dest tag) s (fun t =>
      Counts .poolResends (s.portOf q) 1 s t ∧ t.carries { q.pkt with resend := true } ∧ t.txn.pool = s.txn.pool) := by
  have hsent : Frame [.ledger, .leaves] s (sendPacket { q.pkt with resend := true } s) := frame_sendPacket (by decide) (Frame.refl _ s)
  refine ⟨bump .poolResends (s.portOf q) (sendPacket { q.pkt with resend := true } s), ?_, ?_, carries_of_leaves rfl (carries_sendPacket ..), ?_⟩
  · rw [exec, execPoolResend, hf, if_neg Bool.false_ne_true, hq]
    dsimp only
    rw [hfabric, hcompact]
    rfl
  · unfold Counts
    rw [← hsent.ctr_eq rfl]
    exact ctr_bumpBy_same ..
  · exact (congrArg TxnState.pool (hsent.txn_rest rfl) :)

/-- A lookup of the directory answers what the directory holds of a line (R180). -/
theorem directoryLookup_replies (s : State) (r : Req) (pa : Nat) (hline : pa % 128 = 0) (hthere : s.paPresent pa 1 = true) :
    Replies (.directoryLookup r pa) s (cmdObj 0x1520 1 (roleOp + roleDebug)) r 8 (leBytes 8 pa) .ok
      (leBytes 1 (homeDie pa) ++ leBytes 16 (((s.entry (pa / 128)).map DirEntry.bits).getD 0)
        ++ leBytes 16 (((aget s.dir.regions (regionOf (pa / 128))).map Region.bits).getD 0)) (fun t => t.dir = s.dir ∧ t.mem = s.mem) := by
  refine replies_handled id rfl ?_ rfl rfl rfl (fun b hb => ?_) (fun _ _ => rfl) (fun b t hb ht => ?_)
  · show (pa % 128 != 0 || !s.paPresent pa 1) = false
    rw [hline, hthere]
    rfl
  · rw [entry_of_dir (hb.frame.dir_eq rfl), hb.frame.dir_eq rfl]
    rfl
  · exact ⟨(ht.frame.dir_eq rfl).trans (hb.frame.dir_eq rfl), (ht.frame.mem_eq rfl).trans (hb.frame.mem_eq rfl)⟩

/-- A malformed packet of a twin or deep link is counted; one that asks for an answer on a TW port is answered (R158). -/
theorem malformedLink_does {s : State} {port : Nat} {p : Packet} (hup : s.portUp port = true) (hlink : isFabric port = false)
    (hbad : p.linkMalformed port = true) (hdest : p.dest = s.obj .nodeEid) (hcrc : p.crcGood = true) :
    ((isTwinPort port && linkExpects p.op) = false → Does (.malformedPacket port p) s (fun t => Counts .malformed port 1 s t ∧ Frame [.ctrs] s t))
    ∧ ((isTwinPort port && linkExpects p.op) = true → Does (.malformedPacket port p) s (fun t => Counts .malformed port 1 s t
        ∧ t.carries (mkPacket 0 0x06 p.src p.dest p.tag Status.unsupported.code 0 false []))) := by
  have hexec : exec (.malformedPacket port p) s = .next (if isTwinPort port && linkExpects p.op then
      sendOnPort port (mkPacket 0 0x06 p.src p.dest p.tag Status.unsupported.code 0 false []) (bump .malformed port s) else bump .malformed port s) := by
    rw [exec, execMalformedPacket, hlink, if_neg Bool.false_ne_true, onOp_of_op hbad, arriveLink, hup, hcrc, hbad]
    dsimp only
    rw [if_neg (by decide), if_neg (by simp [hdest]), if_neg (by decide), if_pos rfl]
  refine ⟨fun h => ⟨_, hexec, ?_⟩, fun h => ⟨_, hexec, ?_⟩⟩
  · rw [h, if_neg Bool.false_ne_true]
    exact ⟨ctr_bumpBy_same .., frame_bump (by decide) (Frame.refl _ s)⟩
  · rw [h, if_pos rfl]
    exact ⟨ctr_bumpBy_same .., carries_enqueueAt ..⟩

theorem expectsResponse_of_no_shape {op : Nat} (h : opShape op = none) : expectsResponse op = false := by
  unfold expectsResponse
  refine Bool.eq_false_iff.mpr fun hc => ?_
  simp only [List.contains_cons, List.contains_nil, Bool.or_false, Bool.or_eq_true, beq_iff_eq] at hc
  rcases hc with rfl | rfl | rfl | rfl | rfl | rfl | rfl | rfl | rfl | rfl | rfl | rfl | rfl | rfl | rfl | rfl <;> exact absurd h (by decide)

/-- A fabric packet of a reserved opcode is counted and not answered (R157, R158). -/
theorem malformedFabric_does {s : State} {port : Nat} {p : Packet} (hup : s.portUp port = true) (hfabric : isFabric port = true) (hnode : s.obj .nodeEid ≠ 0)
    (hservice : s.obj .serviceEid ≠ 0) (hsrc : p.src ≠ 0) (hlow : p.src < 0x3FF00) (hcompact : s.compact port = false) (hdest : p.dest = s.obj .nodeEid)
    (hcrc : p.crcGood = true) (hshape : opShape p.op = none) : Does (.malformedPacket port p) s (fun t => Counts .malformed port 1 s t ∧ Frame [.ctrs] s t) := by
  have hbad : p.malformed = true := by
    unfold Packet.malformed
    rw [hshape]
  have h1 : ¬(s.obj .nodeEid = 0 ∨ s.obj .serviceEid = 0 ∨ p.src = 0 ∨ p.src ≥ 0x3FF00) := by omega
  have hexec : exec (.malformedPacket port p) s = .next (bump .malformed port s) := by
    rw [exec, execMalformedPacket, hfabric, if_pos rfl, onOp_of_op (by rw [hshape]; rfl), arriveFabric, hup, hfabric, if_neg (by decide)]
    dsimp only
    rw [if_neg h1, hcompact, Bool.false_and, if_neg Bool.false_ne_true, if_neg (by simp [hdest]), hcrc, if_neg (by decide), hbad, if_pos rfl,
      expectsResponse_of_no_shape hshape, if_neg Bool.false_ne_true]
  exact ⟨_, hexec, ctr_bumpBy_same .., frame_bump (by decide) (Frame.refl _ s)⟩

/-- The time root sends its time on each fabric port that is up (R183). -/
theorem timeSyncSend_does {s : State} {port : Nat} (hf : s.frozen = false) (hactive : (s.port port).st = .active) (hfabric : isFabric port = true)
    (hroot : s.obj .timeRoot = 1) : Does (.timeSyncSend port) s (fun t => Frame [.link] s t ∧ (t.port port).control = (s.port port).control
      ++ [leBytes 16 (0x10 + 256 + s.timeOf (dieOfPort port) % 256 * 2 ^ 56 + s.timeOf (dieOfPort port) / 256 * 2 ^ 64)]) := by
  have hroot' : (s.obj .timeRoot == 1) = true := beq_iff_eq.mpr hroot
  have hexec : exec (.timeSyncSend port) s = .next (setPort port (fun q => { q with control := q.control
      ++ [leBytes 16 (0x10 + 256 + 0 % 256 * 2 ^ 16 + s.timeOf (dieOfPort port) % 256 * 2 ^ 56 + s.timeOf (dieOfPort port) / 256 * 2 ^ 64)] }) s) := by
    rw [exec, execTimeSyncSend, hf, if_neg Bool.false_ne_true, hroot']
    dsimp only
    rw [if_pos ⟨hactive, .inr ⟨hfabric, rfl⟩⟩]
    rfl
  refine ⟨_, hexec, frame_setPort (by decide) (Frame.refl _ s), ?_⟩
  rw [port_setPort_same]
  simp only [Nat.zero_mod, Nat.zero_mul, Nat.add_zero]

/-- Settles O10: an answer to a snoop ends the recall that awaited only it (`answerState_last`); the others are counted, sent or answered. -/
theorem snoopsAndStrays : Obligations.SnoopsAndStrays := by
  intro s port p
  refine ⟨?snoops, ?early, fun q htakes hop hq hissuer => stashRsp_does htakes hop hq hissuer, fun dest x xs => unroutable_does,
    fun dest tag q => poolResend_does, directoryLookup_replies s, malformedLink_does, malformedFabric_does, timeSyncSend_does⟩
  case snoops =>
    intro slot q r e htakes hslot hq hissuer hr he hlast hcause hown
    refine ⟨fun hop hbit => ?_, fun hop hbit hnone => ?_, fun rsp hop henc hclear hdue =>
      snpData_does htakes hslot hq hr he hlast hcause hown hop henc hclear hdue, fun hop hnone => crossed_does htakes hslot hq hissuer hr hlast hop hnone⟩
    · obtain ⟨u, hu, hexec, -⟩ := snpRsp_exec htakes hslot hq hissuer hr hlast hop
      obtain ⟨hend, hgone, hmem⟩ := snoopHeard_holds (s := u) (slot := slot) ((poolReq_of_frame hu rfl ..).trans hq) (hu.dir_eq rfl ▸ hr)
        ((entry_of_dir (hu.dir_eq rfl) _).trans he) hlast hcause (hu.part_eq rfl ▸ hown)
      exact ⟨_, hexec hbit, _, rfl, hend, fun hwait => hgone ((poolWait_of_frame hu rfl).trans hwait), congrArg MemState.cells (hmem.trans (hu.mem_eq rfl))⟩
    · obtain ⟨u, hu, -, hexec⟩ := snpRsp_exec htakes hslot hq hissuer hr hlast hop
      refine ⟨_, hexec hbit hnone, _, rfl, ?_, hu.mem_eq rfl⟩
      have := aget_map_value u.dir.recalls q.key (fun x : Recall => { x with dataDue := x.dataDue ++ [(slot, p)] })
      rw [State.onDir_dir]
      dsimp only
      rw [this, hu.dir_eq rfl, hr]
      rfl
  case early =>
    intro htakes hop hnone
    refine ⟨_, ?_, rfl⟩
    rw [exec, execSnpData, onOp_of_op (beq_iff_eq.mpr hop), arriveFabric_of_takes htakes]
    dsimp only
    rw [hnone]
    cases s.slotOfEid p.src <;> rfl

end Sys2Proof.Machine
end

section
/-!
PROOF. The commands of the DRAM channels (R275 to R290, R322, R328 to R331, R342, R346, R350).
-/
namespace Sys2Proof.Machine

/-! ### A channel's record -/

theorem channel_of_setChannel (c : Nat) (f : Channel → Channel) (s : State) : (setChannel c f s).channel c = f (s.channel c) := agetD_aset_same ..

theorem channel_of_dram {s t : State} (h : t.dram = s.dram) (c : Nat) : t.channel c = s.channel c := by
  unfold State.channel
  rw [h]

theorem setChannel_const (c : Nat) (f : Channel → Channel) (s : State) : setChannel c f s = setChannel c (fun _ => f (s.channel c)) s := rfl

theorem setChannel_frame (c : Nat) (f : Channel → Channel) (s : State) : Frame [.dram] s (setChannel c f s) := frame_setChannel (by decide) (Frame.refl _ s)

theorem panicUpdate_frame (ch : Nat) (s : State) : Frame [.dram, .ctrs] s (panicUpdate ch s) := frame_panicUpdate (by decide) (Frame.refl _ s)

/-- Only the panic of a channel changes with its levels (R284). -/
theorem panicUpdate_channel (ch : Nat) (s : State) : ∃ v m t, (panicUpdate ch s).channel ch
    = { s.channel ch with panicVc6 := v, panicMir := m, panicSince := t } := by
  unfold panicUpdate
  extract_lets c next v m since ended
  refine ⟨_, _, _, (channel_of_dram ((frame_bumpBy (P := [.ctrs]) (by decide) (frame_bumpBy (by decide) (Frame.refl _ _))).dram_eq rfl) ch).trans
    (channel_of_setChannel ..)⟩

theorem panicUpdate_reqs (ch : Nat) (s : State) : ((panicUpdate ch s).channel ch).reqs = (s.channel ch).reqs := by
  obtain ⟨v, m, t, h⟩ := panicUpdate_channel ch s
  rw [h]

theorem panicUpdate_st (ch : Nat) (s : State) : ((panicUpdate ch s).channel ch).st = (s.channel ch).st := by
  obtain ⟨v, m, t, h⟩ := panicUpdate_channel ch s
  rw [h]

theorem panicUpdate_refreshDue (ch : Nat) (s : State) : ((panicUpdate ch s).channel ch).refreshDue = (s.channel ch).refreshDue := by
  obtain ⟨v, m, t, h⟩ := panicUpdate_channel ch s
  rw [h]

theorem bankBusy_of_reqs {c d : Channel} (h : d.reqs = c.reqs) (pseudo bank : Nat) : d.bankBusy pseudo bank = c.bankBusy pseudo bank := by
  unfold Channel.bankBusy Channel.bankQueue
  rw [h]

/-! ### The command slot (R278, R279, R281) -/

/-- A channel whose requests have moved into their bank queues as far as they can. -/
def moved (ch : Nat) (s : State) : State := panicUpdate ch (setChannel ch (fun _ => (s.channel ch).enter.moveAll (s.channel ch).reqs.length) s)

theorem moved_frame (ch : Nat) (s : State) : Frame [.dram, .ctrs] s (moved ch s) := frame_panicUpdate (by decide) (frame_setChannel (by decide) (Frame.refl _ s))

theorem moved_reqs (ch : Nat) (s : State) : ((moved ch s).channel ch).reqs = ((s.channel ch).enter.moveAll (s.channel ch).reqs.length).reqs := by
  unfold moved
  rw [panicUpdate_reqs, channel_of_setChannel]

theorem moved_refreshDue (ch : Nat) (s : State) :
    ((moved ch s).channel ch).refreshDue = ((s.channel ch).enter.moveAll (s.channel ch).reqs.length).refreshDue := by
  unfold moved
  rw [panicUpdate_refreshDue, channel_of_setChannel]

/-- The bank whose refresh is at its limit, if there is one. -/
def Channel.overdue (c : Channel) (pseudo : Nat) : Option Nat :=
  (List.range 16).find? (fun b => decide (agetD c.refreshDue (pseudo * 16 + b) 0 ≥ 8) && !c.bankBusy pseudo b)

theorem overdue_of_same {c d : Channel} (hreqs : d.reqs = c.reqs) (hdue : d.refreshDue = c.refreshDue) (pseudo : Nat) : d.overdue pseudo = c.overdue pseudo := by
  unfold Channel.overdue
  rw [hdue]
  simp only [bankBusy_of_reqs hreqs]

theorem moved_overdue (ch pseudo : Nat) (s : State) :
    ((moved ch s).channel ch).overdue pseudo = ((s.channel ch).enter.moveAll (s.channel ch).reqs.length).overdue pseudo :=
  overdue_of_same (moved_reqs ch s) (moved_refreshDue ch s) pseudo

section
variable {s : State} {ch : Nat}

theorem commandSlot_refreshes {pseudo b : Nat} (hf : s.frozen = false) (hruns : s.channelRuns ch = true) (hopen : s.stackOpen ch = true)
    (hdue : ((s.channel ch).enter.moveAll (s.channel ch).reqs.length).overdue pseudo = some b) :
    exec (.dramCommandSlot ch pseudo) s = .next (refreshBank ch pseudo b (moved ch s)) := by
  have hdue' := (moved_overdue ch pseudo s).trans hdue
  rw [exec, execDramCommandSlot, hf, hruns, hopen, if_neg (by decide), if_neg (by decide), if_neg (by decide)]
  dsimp only
  rw [setChannel_const]
  unfold moved Channel.overdue at hdue'
  rw [hdue']
  rfl

theorem commandSlot_issues {pseudo : Nat} {r : DramReq} (hf : s.frozen = false) (hruns : s.channelRuns ch = true) (hopen : s.stackOpen ch = true)
    (hdue : ((s.channel ch).enter.moveAll (s.channel ch).reqs.length).overdue pseudo = none) (hpick : ((moved ch s).channel ch).pick pseudo = some r) :
    exec (.dramCommandSlot ch pseudo) s = .next (issueDram ch r (moved ch s)) := by
  have hdue' := (moved_overdue ch pseudo s).trans hdue
  rw [exec, execDramCommandSlot, hf, hruns, hopen, if_neg (by decide), if_neg (by decide), if_neg (by decide)]
  dsimp only
  rw [setChannel_const]
  unfold moved at hdue' hpick
  unfold Channel.overdue at hdue'
  rw [hdue']
  dsimp only
  rw [hpick]
  rfl

end

theorem refreshBank_holds (ch pseudo b : Nat) (s : State) : (refreshBank ch pseudo b s).out = .dram (ch / 32) (ch % 32) ((pseudo * 16 + b) * 4 + 0) :: s.out
    ∧ ((refreshBank ch pseudo b s).channel ch).refreshDue = amod (s.channel ch).refreshDue (pseudo * 16 + b) 0 (· - 1)
    ∧ ((refreshBank ch pseudo b s).channel ch).reqs = (s.channel ch).reqs ∧ Frame [.dram, .out] s (refreshBank ch pseudo b s) := by
  have hc : (refreshBank ch pseudo b s).channel ch = { s.channel ch with refreshDue := amod (s.channel ch).refreshDue (pseudo * 16 + b) 0 (· - 1) } :=
    channel_of_setChannel ch (fun c => { c with refreshDue := amod c.refreshDue (pseudo * 16 + b) 0 (· - 1) }) s
  exact ⟨rfl, by rw [hc], by rw [hc], frame_refreshBank (by decide) (Frame.refl _ s)⟩

theorem issueDram_holds (ch : Nat) (r : DramReq) (s : State) :
    (issueDram ch r s).out = .dram (ch / 32) (ch % 32) ((r.place.pseudo * 16 + r.place.bank) * 4 + if r.write = true then 2 else 1) :: s.out
    ∧ ((issueDram ch r s).channel ch).reqs = (s.channel ch).reqs.map (fun x => if x.id = r.id then { x with issued := true } else x)
    ∧ (issueDram ch r s).mem = s.mem := by
  unfold issueDram
  extract_lets p t
  refine ⟨((panicUpdate_frame ..).out_eq rfl).trans rfl, ?_, ((panicUpdate_frame ..).mem_eq rfl).trans rfl⟩
  rw [panicUpdate_reqs]
  have ht : (dramOut ch p.pseudo p.bank (if r.write then 2 else 1) t).channel ch = t.channel ch := rfl
  rw [ht]
  unfold t
  rw [channel_of_setChannel]

/-! ### Data that comes back (R289, R322) -/

theorem dataReturn_write {s : State} {ch id : Nat} {r : DramReq} (hf : s.frozen = false) (hr : (s.channel ch).reqs.find? (fun r => r.id == id && r.issued) = some r)
    (hwrite : r.write = true) (hpower : s.powerGood (16 + ch / 32) = true) (errors : List (Nat × Nat)) : Does (.dramDataReturn ch id errors) s (fun t =>
      (t.channel ch).reqs = (s.channel ch).reqs.filter (fun x => x.id ≠ id) ∧ Counts .chWrites ch 1 s t ∧ Frame [.dram, .ctrs] s t) := by
  generalize hu : setChannel ch (fun c => { c with reqs := c.reqs.filter (fun x => x.id ≠ id) }) s = u
  have hframe : Frame [.dram] s u := hu ▸ setChannel_frame ..
  refine ⟨bump .chWrites ch u, ?_, ?_, ?_, frame_bump (by decide) (hframe.mono (by decide))⟩
  · rw [exec, execDramDataReturn, hf, hpower, if_neg (by decide), hr]
    dsimp only
    rw [if_pos hwrite, hu]
  · have : (bump .chWrites ch u).channel ch = u.channel ch := rfl
    rw [this, ← hu, channel_of_setChannel]
  · unfold Counts
    rw [← hframe.ctr_eq rfl]
    exact ctr_bumpBy_same ..

theorem lineRead_clean (l : Nat) (cause : DramCause) (hcause : cause ≠ .scrub) (s : State) : lineRead l [] cause s = resumeCause l cause s := by
  have hdecode : lineDecode [] = .clean := by decide +kernel
  have hnone : (flipped []).all (fun x => x == 0) = true := by decide +kernel
  unfold lineRead
  rw [if_neg hcause, hdecode]
  dsimp only
  unfold applyResidual
  dsimp only
  rw [hnone, Bool.true_or, if_pos rfl]

theorem lineMeta_setMeta (l : Nat) (f : LineMeta → LineMeta) (s : State) (k : Nat) :
    (setMeta l f s).lineMeta k = if k = l then f (s.lineMeta l) else s.lineMeta k := by
  unfold State.lineMeta setMeta
  rw [State.onMem_mem]
  dsimp only
  split
  next h => rw [h]; exact agetD_aset_same ..
  next h => exact agetD_aset_ne _ _ _ h

theorem inPantry_pantryFill (l keyId : Nat) (s : State) : ((pantryFill l keyId s).lineMeta l).inPantry = true := by
  unfold pantryFill
  rw [lineMeta_setMeta, if_pos rfl]

theorem pantryFill_cells (l keyId : Nat) (s : State) : (pantryFill l keyId s).mem.cells = s.mem.cells := pantryRoom_cells l s

theorem countMismatch_pantry (line tenant : Nat) (s : State) : (countMismatch line tenant s).mem.cells = s.mem.cells
    ∧ ∀ l, ((countMismatch line tenant s).lineMeta l).inPantry = (s.lineMeta l).inPantry := by
  unfold countMismatch
  dsimp only
  split
  · split
    next k _ =>
      refine ⟨rfl, fun l => ?_⟩
      rw [lineMeta_setMeta]
      split
      next h => rw [h]
      next => rfl
    · exact ⟨rfl, fun _ => rfl⟩
  · split
    · generalize s.channelOfLine line = ch
      have hframe : Frame [.integ, .ctrs] s (logError 7 4 ch (line * 128) 0 (s.metaOf line).tenant 0 (bump .tenantMismatch ch (bump .tenantMismatchByTenant tenant s))) :=
        frame_logError (by decide) (frame_bump (by decide) (frame_bump (by decide) (Frame.refl _ s)))
      unfold State.lineMeta
      rw [hframe.mem_eq rfl]
      exact ⟨rfl, fun _ => rfl⟩
    · exact ⟨rfl, fun _ => rfl⟩

theorem request_settleAged (line : Nat) (s : State) (src tag : Nat) : (settleAged line s).request src tag = s.request src tag :=
  (settleAged_frame line s).request_eq rfl src tag

/-- A RD_ONCE whose line has come is answered, and is gone (R322). -/
theorem served_readOnce {q : Request} (hop : q.op = 0x12) (s : State) : (serve q s).request q.src q.tag = none
    ∧ (serve q s).mem.cells = s.mem.cells ∧ (∀ l, ((serve q s).lineMeta l).inPantry = (s.lineMeta l).inPantry) ∧ (serve q s).deep = s.deep := by
  rw [serve_readOnce hop]
  have hhere : (orderedHere q s).mem = s.mem ∧ (orderedHere q s).deep = s.deep := ⟨rfl, rfl⟩
  generalize orderedHere q s = t at hhere
  generalize t.view q.line q.tenant q.keyId = v
  generalize hq : { q with ordered := true } = q'
  have hcount := countMismatch_pantry q.line q.tenant t
  have hdeep : (countMismatch q.line q.tenant t).deep = t.deep := (frame_countMismatch (P := [.mem, .integ, .ctrs]) (by decide) (Frame.refl _ t)).deep_eq rfl
  have hframe : Frame [.txn, .ledger, .dir, .mirror, .leaves, .sec, .ctrs] (countMismatch q.line q.tenant t)
      (finishRead q' v.1 v.2 0 (countMismatch q.line q.tenant t)) := frame_finishRead (by decide) (Frame.refl _ _)
  refine ⟨?_, ?_, fun l => ?_, (hframe.deep_eq rfl).trans (hdeep.trans hhere.2)⟩
  · have hwho : q'.src = q.src ∧ q'.tag = q.tag ∧ q'.op = q.op := by rw [← hq]; exact ⟨rfl, rfl, rfl⟩
    obtain ⟨hsrc, htag, hop'⟩ := hwho
    unfold finishRead
    rw [← hsrc, ← htag]
    exact (finish_gone (q := q') (.inr (by rw [hop', hop]; decide))).1
  · rw [hframe.mem_eq rfl, hcount.1, hhere.1]
  · unfold State.lineMeta
    rw [hframe.mem_eq rfl, ← hhere.1]
    exact hcount.2 l

theorem dataReturn_readOnce {s : State} {ch id : Nat} {r : DramReq} {q : Request} (hf : s.frozen = false)
    (hr : (s.channel ch).reqs.find? (fun r => r.id == id && r.issued) = some r) (hread : r.write = false) (hcause : r.cause = .request q.src q.tag)
    (hq : s.request q.src q.tag = some q) (hphase : q.phase = .dram) (hop : q.op = 0x12) (hpower : s.powerGood (16 + ch / 32) = true) (hbulk : s.deep.bulk = none) :
    Does (.dramDataReturn ch id []) s (fun t => ∃ w, t = settleWaits w
      ∧ w.request q.src q.tag = none ∧ (w.lineMeta r.line).inPantry = true ∧ w.mem.cells = s.mem.cells) := by
  generalize hu : bump .chReads ch (setChannel ch (fun c => { c with reqs := c.reqs.filter (fun x => x.id ≠ id) }) s) = u
  have hframe : Frame [.dram, .ctrs] s u := hu ▸ frame_bump (by decide) (frame_setChannel (by decide) (Frame.refl _ s))
  generalize hv : serve q (pantryFill r.line q.keyId u) = v
  have hfill : Frame [.pkg, .mem, .dram, .power, .rings, .ctrs, .free] u (pantryFill r.line q.keyId u) := frame_pantryFill (by decide) (Frame.refl _ u)
  obtain ⟨hgone, hcells, hpantry, hdeep⟩ := served_readOnce hop (pantryFill r.line q.keyId u)
  rw [hv] at hgone hcells hpantry hdeep
  have haged := settleAged_frame q.line v
  have hnobulk : (settleAged q.line v).deep.bulk = none := by
    rw [haged.deep_eq rfl, hdeep, hfill.deep_eq rfl, hframe.deep_eq rfl, hbulk]
  refine ⟨settleWaits (settleAged q.line v), ?_, _, rfl, ?_, ?_, ?_⟩
  · rw [exec, execDramDataReturn, hf, hpower, if_neg (by decide), hr]
    dsimp only
    rw [if_neg (by rw [hread]; decide), hu, hcause, lineRead_clean r.line (.request q.src q.tag) nofun, resumeCause, hframe.request_eq rfl, hq]
    dsimp only
    rw [if_pos hphase, hv, bulkStep, hnobulk]
  · rw [request_settleAged]
    exact hgone
  · unfold State.lineMeta
    rw [haged.mem_eq rfl]
    exact (hpantry r.line).trans (inPantry_pantryFill ..)
  · rw [haged.mem_eq rfl, hcells, pantryFill_cells, hframe.mem_eq rfl]

/-! ### Refresh, retraining and failure (R280 to R282, R289, R290) -/

theorem refreshInterval_does {s : State} {ch pseudo bank : Nat} (hf : s.frozen = false) (hst : (s.punit (16 + ch / 32)).st ≠ .deep) :
    Does (.refreshInterval ch pseudo bank) s (fun t => Frame [.dram, .ctrs] s t
      ∧ agetD (t.channel ch).refreshDue (pseudo * 16 + bank) 0 = min (agetD (s.channel ch).refreshDue (pseudo * 16 + bank) 0 + 1) 8) := by
  generalize hn : agetD (s.channel ch).refreshDue (pseudo * 16 + bank) 0 + 1 = n
  generalize hu : setChannel ch (fun c => { c with refreshDue := aset c.refreshDue (pseudo * 16 + bank) (min n 8) }) s = u
  have hframe : Frame [.dram] s u := hu ▸ setChannel_frame ..
  refine ⟨onlyIf (n == 8) (bump .chPostponed ch) u, ?_, frame_onlyIf (fun v hv => frame_bump (by decide) hv) (hframe.mono (by decide)), ?_⟩
  · rw [exec, execRefreshInterval, hf, if_neg (by simpa using hst)]
    dsimp only
    rw [hn, hu]
  · have hcount : (onlyIf (n == 8) (bump .chPostponed ch) u).channel ch = u.channel ch := by cases n == 8 <;> rfl
    rw [hcount, ← hu, channel_of_setChannel]
    exact agetD_aset_same ..

theorem commandTimeout_does {s : State} {ch id : Nat} {r : DramReq} (hf : s.frozen = false) (hr : (s.channel ch).reqs.find? (fun r => r.id == id && r.issued) = some r)
    (hserving : (s.channel ch).st = .serving) (hfew : ((s.channel ch).retrainAt.filter (fun t => decide (s.now < t + 60000000000))).length < 3) :
    Does (.dramCommandTimeout ch id) s (fun t => (t.channel ch).st = .retraining ∧ (t.channel ch).reqs = (s.channel ch).reqs ∧ t.mem = s.mem) := by
  generalize hu : timeoutFired 1 3 ch (r.line * 128) (bump .chTimeouts ch s) = u
  have hframe : Frame [.ledger, .leaves, .sessions, .rings, .kodp, .ctrs, .out] s u := hu ▸ frame_timeoutFired (by decide) (frame_bump (by decide) (Frame.refl _ s))
  have hc : u.channel ch = s.channel ch := channel_of_dram (hframe.dram_eq rfl) ch
  refine ⟨retrainChannel ch u, ?_, ?_⟩
  · rw [exec, execDramCommandTimeout, hf, if_neg Bool.false_ne_true, hr]
    dsimp only
    rw [if_pos hserving, hu]
  · have hfew' : ¬(u.now :: (u.channel ch).retrainAt.filter (fun t => decide (u.now < t + 60000000000))).length ≥ 4 := by
      rw [hc, hframe.now_eq rfl, List.length_cons]
      omega
    unfold retrainChannel
    extract_lets c recent v w
    have hw : w.channel ch = { s.channel ch with retrainAt := recent } :=
      (channel_of_setChannel ch (fun c => { c with retrainAt := recent }) u).trans (congrArg (fun c : Channel => { c with retrainAt := recent }) hc)
    have hmem : w.mem = s.mem := hframe.mem_eq rfl
    clear_value w
    rw [if_neg hfew']
    dsimp only
    rw [channel_of_setChannel, hw]
    exact ⟨rfl, rfl, hmem⟩

/-! What a line's place in DRAM depends on: the frame tags in memory, and the units of the deep tier. -/

theorem tag_congr {s t : State} (hmem : t.mem = s.mem) (hdeep : t.deep = s.deep) (hsec : t.sec.key0 = s.sec.key0) (cluster set way : Nat) :
    t.tag cluster set way = s.tag cluster set way := by
  unfold State.tag State.plainBytes State.tagLinePa State.tagBase State.keyValue State.readLine State.readBytes State.lineMeta
  rw [hmem, hdeep, hsec]

theorem storeOf_congr {s t : State} (hmem : t.mem = s.mem) (hdeep : t.deep = s.deep) (hsec : t.sec.key0 = s.sec.key0) (line : Nat) :
    t.storeOf line = s.storeOf line := by
  unfold State.storeOf State.frameWay State.framePa State.frameSet State.poolTop State.tagBase
  simp only [tag_congr hmem hdeep hsec, hdeep]

theorem waitingOn_congr {s t : State} (hmem : t.mem = s.mem) (hdeep : t.deep = s.deep) (hsec : t.sec.key0 = s.sec.key0) (hreqs : t.txn.reqs = s.txn.reqs)
    (ch : Nat) : t.waitingOn ch = s.waitingOn ch := by
  unfold State.waitingOn State.channelOfLine
  simp only [storeOf_congr hmem hdeep hsec, hreqs]

theorem waitingOn_of_frame {P : List Part} {s t : State} (h : Frame P s t) (h1 : P.contains .mem = false) (h2 : P.contains .deep = false)
    (h3 : P.contains .sec = false) (h4 : P.contains .txn = false) (ch : Nat) : t.waitingOn ch = s.waitingOn ch :=
  waitingOn_congr (h.mem_eq h1) (h.deep_eq h2) (congrArg SecurityState.key0 (h.sec_rest h3) :) (h.reqs_eq h4) ch

/-- Where nobody waits for the channel, its failure answers no request: what is left is the peer's repairs and the writebacks' own (R290). -/
theorem answerFailed_frame {s : State} {ch : Nat} (h : s.waitingOn ch = []) : Frame [.txn, .ledger, .deep, .twin, .leaves, .ctrs] s (answerFailed ch s) := by
  unfold answerFailed
  extract_lets t
  have ht : Frame [.twin, .leaves, .ctrs] s t := frame_forAll (fun a w hw => frame_answerRepair (by decide) hw) (Frame.refl _ s)
  rw [waitingOn_of_frame ht rfl rfl rfl rfl, h]
  show Frame _ s (forAll t.deep.writebacks _ t)
  exact frame_forAll (fun a w hw => frame_readForWriteback (by decide) hw) (ht.mono (by decide))

theorem failChannel_frame (ch : Nat) (s : State) : Frame [.ledger, .dram, .leaves, .sessions, .rings, .kodp, .ctrs, .out] s (failChannel ch s) :=
  frame_failChannel (by decide) (Frame.refl _ s)

theorem failChannel_failed (ch : Nat) (s : State) : ((failChannel ch s).channel ch).st = .failed
    ∧ ((s.channel ch).st ≠ .failed → ((failChannel ch s).channel ch).reqs = []) := by
  unfold failChannel
  split
  next h => exact ⟨h, fun hne => absurd h hne⟩
  · have hn := frame_notify (P := [.ledger, .leaves, .sessions, .rings, .kodp, .ctrs, .out]) (code := 0x1601) (payload := leBytes 1 (ch / 32) ++ leBytes 1 (ch % 32))
      (by decide) (Frame.refl _ (setChannel ch (fun c => { c with st := .failed, reqs := [] }) s))
    rw [channel_of_dram (hn.dram_eq rfl), channel_of_setChannel]
    exact ⟨rfl, fun _ => rfl⟩

/-- A channel that fails while nobody waits on it: no byte changes. -/
theorem failed_holds {s : State} {ch : Nat} (h : s.waitingOn ch = []) : ((answerFailed ch (failChannel ch s)).channel ch).st = .failed
    ∧ ((s.channel ch).st ≠ .failed → ((answerFailed ch (failChannel ch s)).channel ch).reqs = []) ∧ (answerFailed ch (failChannel ch s)).mem = s.mem
    ∧ (answerFailed ch (failChannel ch s)).integ = s.integ := by
  have hfail := failChannel_frame ch s
  have hanswer := answerFailed_frame (ch := ch) ((waitingOn_of_frame hfail rfl rfl rfl rfl ch).trans h)
  rw [channel_of_dram (hanswer.dram_eq rfl), hanswer.mem_eq rfl, hanswer.integ_eq rfl, hfail.mem_eq rfl, hfail.integ_eq rfl]
  exact ⟨(failChannel_failed ch s).1, (failChannel_failed ch s).2, rfl, rfl⟩

/-- A channel without a full training that has ended. -/
theorem cleared_fullTrain {s : State} {ch : Nat} (h : (s.channel ch).fullTrain = none) :
    (setChannel ch (fun c => { c with fullTrain := none }) s).channel ch = s.channel ch := by
  rw [channel_of_setChannel, ← h]

theorem retrainDone_exec {s : State} {ch : Nat} (hf : s.frozen = false) (hst : (s.channel ch).st = .retraining) (hno : (s.channel ch).fullTrain = none) (ok : Bool) :
    ∃ u, Frame [.dram] s u ∧ u.channel ch = s.channel ch
      ∧ exec (.channelRetrainDone ch ok) s = .next (if ok then channelServes ch u else answerFailed ch (failChannel ch u)) := by
  refine ⟨_, setChannel_frame ch (fun c => { c with fullTrain := none }) s, cleared_fullTrain hno, ?_⟩
  rw [exec, execChannelRetrainDone, hf, if_neg Bool.false_ne_true]
  dsimp only
  rw [if_neg (fun h => by rw [hst] at h; exact nomatch h.1), hno]
  dsimp only
  rw [if_neg (c := (s.channel ch).st = .failed ∧ _) (by rw [hst]; exact fun h => nomatch h.1)]

theorem retrainDone_good {s : State} {ch : Nat} (hf : s.frozen = false) (hst : (s.channel ch).st = .retraining) (hno : (s.channel ch).fullTrain = none) :
    Does (.channelRetrainDone ch true) s (fun t => (t.channel ch).st = .serving
      ∧ (t.channel ch).reqs = (s.channel ch).reqs.map (fun r => { r with issued := false }) ∧ t.mem = s.mem) := by
  obtain ⟨u, hu, hc, hexec⟩ := retrainDone_exec hf hst hno true
  refine ⟨_, hexec, ?_⟩
  have hgood : ((u.channel ch).st == .failed) = false := by rw [hc, hst]; rfl
  rw [if_pos rfl]
  unfold channelServes
  dsimp only
  rw [hgood, onlyIf, if_neg Bool.false_ne_true, panicUpdate_st, panicUpdate_reqs, (panicUpdate_frame ..).mem_eq rfl, channel_of_setChannel, hc]
  exact ⟨rfl, rfl, hu.mem_eq rfl⟩

theorem retrainDone_bad {s : State} {ch : Nat} (hf : s.frozen = false) (hst : (s.channel ch).st = .retraining) (hno : (s.channel ch).fullTrain = none)
    (hwait : s.waitingOn ch = []) : Does (.channelRetrainDone ch false) s (fun t => (t.channel ch).st = .failed ∧ (t.channel ch).reqs = [] ∧ t.mem = s.mem) := by
  obtain ⟨u, hu, hc, hexec⟩ := retrainDone_exec hf hst hno false
  obtain ⟨hfailed, hreqs, hmem, -⟩ := failed_holds (s := u) ((waitingOn_of_frame hu rfl rfl rfl rfl ch).trans hwait)
  exact ⟨_, hexec, hfailed, hreqs (by rw [hc, hst]; decide), hmem.trans (hu.mem_eq rfl)⟩

/-! ### Panic and drift (R284, R285, R288) -/

/-- A channel whose panic for a class is capped. -/
def Channel.capped (mirror : Bool) (c : Channel) : Channel := if mirror then { c with panicMir := .capped } else { c with panicVc6 := .capped }

theorem panicCap_does {s : State} {ch : Nat} {mirror : Bool} (hf : s.frozen = false)
    (hon : (if mirror = true then (s.channel ch).panicMir else (s.channel ch).panicVc6) = .on) : Does (.panicCap ch mirror) s (fun t =>
      (if mirror = true then (t.channel ch).panicMir else (t.channel ch).panicVc6) = .capped ∧ Counts .chPanicCapped ch 1 s t ∧ Frame [.dram, .ctrs] s t) := by
  generalize hu : bumpBy .chPanicNs (ch * 2 + (if mirror then 1 else 0)) (s.now - agetD (s.channel ch).panicSince (if mirror then 1 else 0) s.now)
    (setChannel ch (Channel.capped mirror) s) = u
  have hframe : Frame [.dram, .ctrs] s u := hu ▸ frame_bumpBy (by decide) (frame_setChannel (by decide) (Frame.refl _ s))
  have hcount : u.ctr .chPanicCapped ch = s.ctr .chPanicCapped ch := by
    rw [← hu, ctr_bumpBy_ne (by decide)]
    rfl
  have hc : u.channel ch = (s.channel ch).capped mirror := hu ▸ channel_of_setChannel ch (Channel.capped mirror) s
  refine ⟨bump .chPanicCapped ch u, ?_, ?_, ?_, frame_bump (by decide) hframe⟩
  · rw [exec, execPanicCap, hf, if_neg Bool.false_ne_true]
    dsimp only
    rw [if_pos hon, ← hu]
    rfl
  · have hself : (bump .chPanicCapped ch u).channel ch = u.channel ch := rfl
    rw [hself, hc]
    cases mirror <;> rfl
  · unfold Counts
    rw [← hcount]
    exact ctr_bumpBy_same ..

theorem panicResume_does {s : State} {ch : Nat} {mirror : Bool} (hf : s.frozen = false)
    (hcapped : (if mirror = true then (s.channel ch).panicMir else (s.channel ch).panicVc6) = .capped) : Does (.panicResume ch mirror) s (fun t =>
      (if mirror = true then (t.channel ch).panicMir else (t.channel ch).panicVc6)
        = (if (s.channel ch).level (if mirror = true then .rtMirror else .rtVc6) > s.obj .panicOff then .on else .off) ∧ Frame [.dram] s t) := by
  have hexec : exec (.panicResume ch mirror) s = .next (setChannel ch (fun c => { (if mirror then
      { c with panicMir := if (s.channel ch).level (if mirror then .rtMirror else .rtVc6) > s.obj .panicOff then .on else .off }
      else { c with panicVc6 := if (s.channel ch).level (if mirror then .rtMirror else .rtVc6) > s.obj .panicOff then .on else .off })
        with panicSince := aset c.panicSince (if mirror then 1 else 0) s.now }) s) := by
    rw [exec, execPanicResume, hf, if_neg Bool.false_ne_true]
    dsimp only
    rw [if_pos hcapped]
  refine ⟨_, hexec, ?_, setChannel_frame ..⟩
  rw [channel_of_setChannel]
  cases mirror <;> rfl

theorem driftTrack_does {s : State} {ch : Nat} (hf : s.frozen = false) (hruns : s.channelRuns ch = true) :
    Does (.driftTrack ch) s (fun t => t.channel ch = { s.channel ch with drift := (s.channel ch).drift + 1 } ∧ Frame [.dram] s t) := by
  refine ⟨setChannel ch (fun c => { c with drift := c.drift + 1 }) s, ?_, channel_of_setChannel .., setChannel_frame ..⟩
  rw [exec, execDriftTrack, hf, hruns]
  rfl

theorem channelRetrain_starts {s : State} {ch : Nat} (r : Req) (hch : ch < 256) (hst : (s.channel ch).st ≠ .failed) :
    Starts (.channelRetrain r ch) s channelRetrainObj r 1 (leBytes 1 (ch / 32) ++ leBytes 1 (ch % 32)) (fun t =>
      (t.channel ch).st = .retraining ∧ (t.channel ch).fullTrain = some r ∧ t.mem = s.mem) := by
  generalize hb : begun channelRetrainObj r (leBytes 1 (ch / 32) ++ leBytes 1 (ch % 32)) 1 s = b
  have hframe : Frame begunParts s b := hb ▸ begun_frame ..
  generalize hu : setChannel ch (fun c => { c with fullTrain := some r, st := if c.st = .failed then .failed else .retraining }) b = u
  have hc : u.channel ch = { s.channel ch with fullTrain := some r, st := .retraining } := by
    rw [← hu, channel_of_setChannel, channel_of_dram (hframe.dram_eq rfl), if_neg hst]
  refine starts_of_operate (u := crumb 3 ch 9 0 u) rfl ?_ rfl rfl rfl (by rw [hb, ← hu]) ?_ ?_
  · exact decide_eq_false (Nat.not_le.mpr hch)
  · have := runningOf_mem_begun channelRetrainObj r (leBytes 1 (ch / 32) ++ leBytes 1 (ch % 32)) 1 s
    rw [hb] at this
    rw [← hu]
    exact this
  · have hself : (crumb 3 ch 9 0 u).channel ch = u.channel ch := rfl
    rw [hself, hc]
    exact ⟨rfl, rfl, (hu ▸ hframe.mem_eq rfl : u.mem = s.mem)⟩

/-! ### Patrol scrub and self-test (R328 to R330, R346) -/

/-- What a request to a channel is about, apart from where it stands in the queues. -/
def DramReq.about (x : DramReq) : Nat × Nat × Bool × DramCause := (x.id, x.line, x.write, x.cause)

theorem about_enter (c : Channel) : c.enter.reqs.map DramReq.about = c.reqs.map DramReq.about := by
  unfold Channel.enter
  dsimp only
  rw [List.map_map]
  refine List.map_congr_left fun x _ => ?_
  dsimp only [Function.comp]
  split <;> rfl

/-- A request put to a channel is the last of its requests (R275). -/
theorem dramPush_about (line : Nat) (write : Bool) (cls : DramClass) (cause : DramCause) (s : State) :
    ((dramPush line write cls cause s).channel (channelOfPa (line * 128))).reqs.map DramReq.about
      = (s.channel (channelOfPa (line * 128))).reqs.map DramReq.about ++ [(s.dram.nextId, line, write, cause)] := by
  unfold dramPush
  extract_lets ch id t u v
  have hu : (u.channel ch).reqs.map DramReq.about = (s.channel ch).reqs.map DramReq.about ++ [(s.dram.nextId, line, write, cause)] := by
    unfold u
    rw [channel_of_setChannel]
    dsimp only
    rw [List.map_append]
    rfl
  have hv : v.channel ch = u.channel ch := by
    unfold v
    split
    · rfl
    · exact channel_of_dram ((frame_wakeUnit (P := [.pkg, .power, .rings, .ctrs, .free]) (by decide) (Frame.refl _ u)).dram_eq rfl) ch
  show List.map _ (Channel.reqs (State.channel _ ch)) = _
  rw [panicUpdate_reqs]
  refine Eq.trans ?_ hu
  rw [← hv]
  clear_value v
  split
  · rw [channel_of_setChannel]
    exact about_enter _
  · rfl

theorem dramPush_frame (line : Nat) (write : Bool) (cls : DramClass) (cause : DramCause) (s : State) :
    Frame [.pkg, .dram, .power, .rings, .ctrs, .free] s (dramPush line write cls cause s) := frame_dramPush (by decide) (Frame.refl _ s)

theorem scrubStep_frame (ch : Nat) (s : State) : Frame [.integ] s (scrubStep ch s) := frame_scrubStep (by decide) (Frame.refl _ s)

theorem scrubLine_exec {s : State} {pa : Nat} (hf : s.frozen = false) (hon : s.obj .scrubEnable ≠ 0) (hpa : pa < dramTop)
    (hruns : s.channelRuns (channelOfPa pa) = true) (b : Bool) (hb : b = ((s.lineMeta (pa / 128)).inPantry && (s.lineMeta (pa / 128)).dirty)) :
    exec (.scrubLine pa) s = .next (dramPush (pa / 128) b .normal .scrub
      (if b then setMeta (pa / 128) (fun m => { m with dirty := false }) (scrubStep (channelOfPa pa) s) else scrubStep (channelOfPa pa) s)) := by
  have hon' : ¬(s.obj .scrubEnable = 0 ∨ pa ≥ dramTop ∨ s.channelRuns (channelOfPa pa) = false) := by
    rintro (h | h | h)
    · exact hon h
    · exact absurd hpa (Nat.not_lt.mpr h)
    · rw [hruns] at h
      exact Bool.noConfusion h
  have hmeta : (scrubStep (channelOfPa pa) s).lineMeta (pa / 128) = s.lineMeta (pa / 128) := by
    unfold State.lineMeta
    rw [(scrubStep_frame ..).mem_eq rfl]
  rw [exec, execScrubLine, hf, if_neg Bool.false_ne_true]
  dsimp only
  rw [if_neg hon', hmeta, ← hb]
  cases b <;> rfl

theorem scrubLine_does {s : State} {pa : Nat} {held : Bool} (hf : s.frozen = false) (hon : s.obj .scrubEnable ≠ 0) (hpa : pa < dramTop)
    (hruns : s.channelRuns (channelOfPa pa) = true) (hheld : held = ((s.lineMeta (pa / 128)).inPantry && (s.lineMeta (pa / 128)).dirty)) :
    Does (.scrubLine pa) s (fun t => (t.channel (channelOfPa (pa / 128 * 128))).reqs.map (fun x => (x.id, x.line, x.write, x.cause))
        = (s.channel (channelOfPa (pa / 128 * 128))).reqs.map (fun x => (x.id, x.line, x.write, x.cause)) ++ [(s.dram.nextId, pa / 128, held, .scrub)]
      ∧ t.integ = (scrubStep (channelOfPa pa) s).integ ∧ t.mem.cells = s.mem.cells
      ∧ (held = true → (t.lineMeta (pa / 128)).dirty = false) ∧ (held = false → t.mem = s.mem)) := by
  have hstep := scrubStep_frame (channelOfPa pa) s
  refine ⟨_, scrubLine_exec hf hon hpa hruns held hheld, ?_⟩
  generalize scrubStep (channelOfPa pa) s = u at hstep
  cases held with
  | false =>
    have hpush := dramPush_frame (pa / 128) false .normal .scrub u
    rw [if_neg Bool.false_ne_true]
    refine ⟨?_, hpush.integ_eq rfl, ?_, fun h => (nomatch h), fun _ => (hpush.mem_eq rfl).trans (hstep.mem_eq rfl)⟩
    · rw [← channel_of_dram (hstep.dram_eq rfl), ← hstep.dram_eq rfl]
      exact dramPush_about ..
    · rw [hpush.mem_eq rfl, hstep.mem_eq rfl]
  | true =>
    rw [if_pos rfl]
    generalize hv : setMeta (pa / 128) (fun m => { m with dirty := false }) u = v
    have hdram : v.dram = s.dram := hv ▸ hstep.dram_eq rfl
    have hpush := dramPush_frame (pa / 128) true .normal .scrub v
    refine ⟨?_, (hpush.integ_eq rfl).trans (hv ▸ rfl), ?_, fun _ => ?_, fun h => (nomatch h)⟩
    · rw [← channel_of_dram hdram, ← hdram]
      exact dramPush_about ..
    · rw [hpush.mem_eq rfl, ← hv]
      have hcells : u.mem.cells = s.mem.cells := by rw [hstep.mem_eq rfl]
      exact hcells
    · have hself : (dramPush (pa / 128) true .normal .scrub v).lineMeta (pa / 128) = v.lineMeta (pa / 128) := by
        unfold State.lineMeta
        rw [hpush.mem_eq rfl]
      rw [hself, ← hv, lineMeta_setMeta, if_pos rfl]

/-- A self-test of a channel's decoders that fails is recorded (R344, R346). -/
def selfTestFailed (ch : Nat) (s : State) : State :=
  notifyLimited 0x1707 (3 * 65536 + ch) 10000000 (fun _ => leBytes 1 3 ++ leBytes 2 ch ++ leBytes 1 3)
    (logError 9 6 ch 0 0 0 ch (s.onInteg (fun g => { g with selfTest := aset g.selfTest (3, ch) (3, s.now) })))

theorem notifyLimited_frame (code unit period : Nat) (payload : Nat → List Byte) (s : State) :
    Frame [.ledger, .leaves, .sessions, .rings, .kodp, .ctrs, .out] s (notifyLimited code unit period payload s) := frame_notifyLimited (by decide) (Frame.refl _ s)

theorem selfTestFailed_frame (ch : Nat) (s : State) : Frame [.ledger, .integ, .leaves, .sessions, .rings, .kodp, .ctrs, .out] s (selfTestFailed ch s) := by
  have hlog : Frame [.integ, .ctrs] s (logError 9 6 ch 0 0 0 ch (s.onInteg (fun g => { g with selfTest := aset g.selfTest (3, ch) (3, s.now) }))) :=
    frame_logError (by decide) (frame_onInteg (by decide) (Frame.refl _ s))
  have hwide := hlog.mono (P := [.ledger, .integ, .leaves, .sessions, .rings, .kodp, .ctrs, .out]) (by decide)
  unfold selfTestFailed
  refine frame_notifyLimited (by decide) ?_
  exact hwide

theorem onlyIf_bump_integ (b : Bool) (c : Ctr) (unit : Nat) (s : State) : (onlyIf b (bump c unit) s).integ = s.integ :=
  (frame_onlyIf (P := [.ctrs]) (fun _ hv => frame_bump (by decide) hv) (Frame.refl _ s)).integ_eq rfl

theorem logError_selfTest (kind action channel pa symbol tenant unit : Nat) (s : State) :
    (logError kind action channel pa symbol tenant unit s).integ.selfTest = s.integ.selfTest := by
  simp only [logError, State.onInteg, onlyIf_bump_integ]

theorem notifyLimited_integ (code unit period : Nat) (payload : Nat → List Byte) (s : State) : (notifyLimited code unit period payload s).integ = s.integ :=
  (notifyLimited_frame ..).integ_eq rfl

theorem selfTestFailed_noted (ch : Nat) (s : State) : aget (selfTestFailed ch s).integ.selfTest (3, ch) = some (3, s.now) := by
  unfold selfTestFailed
  rw [notifyLimited_integ, logError_selfTest]
  exact aget_aset_same ..

theorem selftest_failed {s : State} {ch : Nat} (hf : s.frozen = false) (hwait : s.waitingOn ch = []) : Does (.decoderSelftestHourly ch false) s (fun t =>
    (t.channel ch).st = .failed ∧ aget t.integ.selfTest (3, ch) = some (3, s.now) ∧ t.mem = s.mem) := by
  have hnoted := selfTestFailed_frame ch s
  obtain ⟨hfailed, -, hmem, hinteg⟩ := failed_holds (s := selfTestFailed ch s) ((waitingOn_of_frame hnoted rfl rfl rfl rfl ch).trans hwait)
  refine ⟨answerFailed ch (failChannel ch (selfTestFailed ch s)), ?_, hfailed, ?_, hmem.trans (hnoted.mem_eq rfl)⟩
  · rw [exec, execDecoderSelftestHourly, hf]
    rfl
  · rw [hinteg]
    exact selfTestFailed_noted ch s

/-! ### Operations of the error records (R342, R350, R351) -/

theorem errorLogClear_replies (s : State) (r : Req) : Replies (.errorLogClear r) s (cmdObj 0x1740 1 roleOp) r 0 [] .ok [] (fun t =>
    t.integ = { s.integ with log := [] } ∧ t.mem = s.mem) := by
  refine replies_effect rfl rfl rfl rfl rfl (fun _ _ => rfl) fun b t hb ht => ?_
  rw [ht.frame.integ_eq rfl, ht.frame.mem_eq rfl, ← hb.frame.integ_eq rfl, ← hb.frame.mem_eq rfl]
  exact ⟨rfl, rfl⟩

theorem commitRaw_meta (l : Nat) (bytes : List Byte) (m : LineMeta) (s : State) : ∃ v w, (commitRaw l bytes m s).lineMeta l
    = { m with version := v, inPantry := true, dirty := true, way := w } := by
  unfold commitRaw
  extract_lets old held t u
  have hm : Frame [.mirror, .leaves, .ctrs] u (mirrorLine l (held, old) (mapGranule l u)) :=
    frame_mirrorLine (by decide) (frame_mapGranule (by decide) (Frame.refl _ u))
  have hmeta : (mirrorLine l (held, old) (mapGranule l u)).lineMeta l = u.lineMeta l := by
    unfold State.lineMeta
    rw [hm.mem_eq rfl]
  refine ⟨(old.version + 1) % 65536, ((putBytes (l * 128) (padTo 128 bytes) t).lineMeta l).way, hmeta.trans ?_⟩
  unfold u
  rw [lineMeta_setMeta, if_pos rfl]

/-- The tags of a set, all invalid once its line is rewritten (R342). -/
def released (cluster set : Nat) (s : State) : State :=
  commitRaw (s.tagLinePa cluster set / 128) (List.replicate 128 0) LineMeta.reset
    (s.onDeep (fun d => { d with quarantined := d.quarantined.filter (· != (cluster, set)) }))

theorem released_frame (cluster set : Nat) (s : State) : Frame [.pkg, .mem, .dram, .deep, .mirror, .leaves, .power, .rings, .ctrs, .free] s (released cluster set s) :=
  frame_commitRaw (by decide) (frame_onDeep (by decide) (Frame.refl _ s))

theorem leNat_zeros (n : Nat) : leNat (List.replicate n 0) = 0 := by
  induction n with
  | zero => rfl
  | succ n ih => rw [List.replicate_succ, leNat, ih]; rfl

theorem released_deep (cluster set : Nat) (s : State) :
    (released cluster set s).deep = { s.deep with quarantined := s.deep.quarantined.filter (· != (cluster, set)) } :=
  (frame_commitRaw (P := [.pkg, .mem, .dram, .mirror, .leaves, .power, .rings, .ctrs, .free]) (by decide) (Frame.refl _ _)).deep_eq rfl

/-- The bytes of a line that has just been committed. -/
theorem readBytes_commitRaw {s : State} (hwf : s.MemWf) (l : Nat) (bytes : List Byte) (m : LineMeta) {off n : Nat} (hoff : off + n ≤ 128) :
    (commitRaw l bytes m s).readBytes (l * 128 + off) n = ((padTo 128 bytes).drop off).take n := by
  refine List.ext_getElem ?_ fun i hi hi' => ?_
  · simp only [State.readBytes, cellsRead, List.length_map, List.length_range, List.length_take, List.length_drop, padTo_length]
    omega
  · have hlen := padTo_length 128 bytes
    have hin : i < n := by simpa [State.readBytes, cellsRead] using hi
    have hread := cellGet_cellsPut hwf (l * 128) (padTo 128 bytes) (l * 128 + off + i)
    rw [if_pos (by omega), show l * 128 + off + i - l * 128 = off + i by omega, List.getD_eq_getElem _ _ (by omega)] at hread
    simp only [State.readBytes, cellsRead, List.getElem_map, List.getElem_range, commitRaw_cells, List.getElem_take, List.getElem_drop]
    exact hread

/-- The bytes of a line that has just been committed as plain bytes. -/
theorem plainBytes_commitRaw {s : State} (hwf : s.MemWf) (l : Nat) (bytes : List Byte) {m : LineMeta} (hcipher : m.cipher = false) (hkey : m.key = none)
    (tweak : Nat) {off n : Nat} (hoff : off + n ≤ 128) : (commitRaw l bytes m s).plainBytes l tweak off n = ((padTo 128 bytes).drop off).take n := by
  obtain ⟨v, w, hmeta⟩ := commitRaw_meta l bytes m s
  unfold State.plainBytes
  dsimp only
  rw [hmeta]
  dsimp only
  rw [if_neg (by rw [hcipher]; exact Bool.false_ne_true), if_pos hkey, readBytes_commitRaw hwf l _ _ hoff]

/-- A set's tags are all zero once it is released. -/
theorem released_tag {s : State} (hwf : s.MemWf) (cluster set way : Nat) (hway : way < 16) : (released cluster set s).tag cluster set way = 0 := by
  generalize hu : s.onDeep (fun d => { d with quarantined := d.quarantined.filter (· != (cluster, set)) }) = u
  have hwf' : u.MemWf := hu ▸ hwf
  have hrel : released cluster set s = commitRaw (s.tagLinePa cluster set / 128) (List.replicate 128 0) LineMeta.reset u := by rw [← hu]; rfl
  have hpa : (released cluster set s).tagLinePa cluster set = s.tagLinePa cluster set := by
    unfold State.tagLinePa State.tagBase
    rw [released_deep]
  unfold State.tag
  dsimp only
  rw [hpa, hrel]
  generalize s.tagLinePa cluster set / 128 = l
  rw [plainBytes_commitRaw hwf' l _ rfl rfl _ (by omega)]
  have hzero : padTo 128 (List.replicate 128 (0 : Byte)) = List.replicate 128 0 := by simp [padTo]
  rw [hzero, List.drop_replicate, List.take_replicate]
  exact leNat_zeros _

theorem deepSetRelease_replies {s : State} {cluster set : Nat} (r : Req) (hq : s.quarantined cluster set = true) (hwf : s.MemWf) :
    Replies (.deepSetRelease r cluster set) s (cmdObj 0x1740 2 roleOp) r 1 (leBytes 1 cluster ++ leBytes 4 set) .ok [] (fun t =>
      t.quarantined cluster set = false ∧ ∀ way, way < 16 → t.tag cluster set way = 0) := by
  refine replies_effect (eff := released cluster set) rfl rfl rfl (by show (!s.quarantined cluster set) = false; rw [hq]; rfl) rfl
    (fun b hb => (released_frame ..).running_eq rfl) fun b t hb ht => ⟨?_, fun way hway => ?_⟩
  · unfold State.quarantined
    rw [ht.frame.deep_eq rfl, released_deep]
    simp
  · have hwf' : b.MemWf := by
      unfold State.MemWf
      rw [hb.frame.mem_eq rfl]
      exact hwf
    rw [tag_congr (ht.frame.mem_eq rfl) (ht.frame.deep_eq rfl) (congrArg SecurityState.key0 (ht.frame.sec_rest rfl) :)]
    exact released_tag hwf' cluster set way hway

/-! ### Injected poison (R319, R350) -/

theorem commitLine_direct {line : Nat} {s : State} (hdirect : isDeepPa (line * 128) = false) (hserves : s.lineFailed line = false)
    (hdumps : s.obs.dumps = []) (bytes : List Byte) (m : LineMeta) : commitLine line bytes m s = dumpTrigger line (commitRaw line bytes m s) := by
  have hclean : dirtyFrame line (dumpCopy line s) = s := by
    unfold dirtyFrame dumpCopy
    dsimp only
    rw [hdirect, if_neg Bool.false_ne_true, hdumps]
    rfl
  unfold commitLine
  rw [storeOf_direct hdirect]
  dsimp only
  rw [hserves, if_neg Bool.false_ne_true, hclean]

/-- A line below POOL_TOP is no line of a frame. -/
theorem deepLine_below {s : State} {l : Nat} (h : l * 128 < s.poolTop) : s.deepLine l = none := by
  unfold State.deepLine State.frameOf
  dsimp only
  rw [if_neg (by omega)]
  rfl

/-- A line of the pool that is poisoned keeps its bytes, and no other line changes. -/
theorem poisonLine_direct {s : State} {line : Nat} (hdirect : isDeepPa (line * 128) = false) (hserves : s.lineFailed line = false) (hdumps : s.obs.dumps = [])
    (hpool : line * 128 < s.poolTop) (hwf : s.MemWf) (cause : Nat) : ((poisonLine line cause s).lineMeta line).poison = true
      ∧ ∀ a, (poisonLine line cause s).readByte a = s.readByte a := by
  generalize hu : commitRaw line (s.readLine line) (s.lineMeta line).poisoned s = u
  have hraw : Frame [.pkg, .mem, .dram, .mirror, .leaves, .power, .rings, .ctrs, .free] s u := hu ▸ frame_commitRaw (by decide) (Frame.refl _ s)
  generalize hv : poisonEvent line cause (dumpTrigger line u) = v
  have hafter : Frame [.ledger, .integ, .leaves, .sessions, .obs, .rings, .kodp, .ctrs, .out] u v :=
    hv ▸ frame_poisonEvent (by decide) (frame_dumpTrigger (by decide) (Frame.refl _ u))
  have hpool' : line * 128 < v.poolTop := by
    unfold State.poolTop State.tagBase at hpool ⊢
    rw [hafter.deep_eq rfl, hraw.deep_eq rfl]
    exact hpool
  have hline : poisonLine line cause s = v := by
    unfold poisonLine
    rw [storeOf_direct hdirect]
    dsimp only
    rw [commitLine_direct hdirect hserves hdumps, hu, hv, dirtyHeld, deepLine_below hpool']
    rfl
  rw [hline]
  refine ⟨?_, fun a => ?_⟩
  · obtain ⟨ver, way, hmeta⟩ := commitRaw_meta line (s.readLine line) (s.lineMeta line).poisoned s
    rw [hu] at hmeta
    have hself : v.lineMeta line = u.lineMeta line := by
      unfold State.lineMeta
      rw [hafter.mem_eq rfl]
    rw [hself, hmeta]
    rfl
  · have hlen : (s.readLine line).length = 128 := by simp [State.readLine, State.readBytes, cellsRead]
    have hpad : padTo 128 (s.readLine line) = s.readLine line := by
      unfold padTo
      rw [hlen, Nat.sub_self, List.replicate_zero, List.append_nil, List.take_of_length_le (by omega)]
    rw [hafter.readByte_eq rfl, State.readByte, ← hu, commitRaw_cells, cellGet_cellsPut hwf, hpad, hlen]
    split
    next h =>
      rw [List.getD_eq_getElem _ _ (by omega)]
      simp only [State.readLine, State.readBytes, cellsRead, List.getElem_map, List.getElem_range]
      exact congrArg (cellGet s.mem.cells) (by omega)
    · rfl

theorem poisonInject_replies {s : State} {pa : Nat} (r : Req) (hline : pa % 128 = 0) (hpool : pa < s.poolTop) (hdirect : isDeepPa pa = false)
    (hst : s.standby = false) (hserves : s.lineFailed (pa / 128) = false) (hdumps : s.obs.dumps = []) (hwf : s.MemWf) :
    Replies (.poisonInject r pa) s (cmdObj 0x1740 3 roleDebug) r 8 (leBytes 8 pa) .ok [] (fun t => (t.lineMeta (pa / 128)).poison = true
      ∧ ∀ a, t.readByte a = s.readByte a) := by
  have hself : pa / 128 * 128 = pa := by omega
  have hdirect' : isDeepPa (pa / 128 * 128) = false := by rw [hself]; exact hdirect
  refine replies_handled (poisonLine (pa / 128) 8) rfl ?_ hst rfl rfl (fun b hb => ?_)
    (fun b hb => (frame_poisonLine (P := [.pkg, .ledger, .mem, .dram, .deep, .integ, .mirror, .leaves, .power, .sessions, .obs, .rings, .kodp, .ctrs, .out, .free])
      (by decide) (Frame.refl _ b)).running_eq rfl) fun b t hb ht => ?_
  · show (pa % 128 != 0 || !s.paPresent pa 1) = false
    unfold State.paPresent
    rw [hline, if_pos hpool]
    rfl
  · rw [storeOf_direct hdirect']
  · have hserves' : b.lineFailed (pa / 128) = false := (lineFailed_congr hdirect' (hb.frame.dram_eq rfl)).trans hserves
    have hdumps' : b.obs.dumps = [] := (congrArg ObserveState.dumps (hb.frame.obs_rest rfl) :).trans hdumps
    have hpool' : pa / 128 * 128 < b.poolTop := by
      unfold State.poolTop State.tagBase at hpool ⊢
      rw [hb.frame.deep_eq rfl, hself]
      exact hpool
    have hwf' : b.MemWf := by
      unfold State.MemWf
      rw [hb.frame.mem_eq rfl]
      exact hwf
    obtain ⟨hpoison, hbytes⟩ := poisonLine_direct hdirect' hserves' hdumps' hpool' hwf' 8
    refine ⟨?_, fun a => ?_⟩
    · unfold State.lineMeta at hpoison ⊢
      rw [ht.frame.mem_eq rfl]
      exact hpoison
    · rw [ht.frame.readByte_eq rfl, hbytes, hb.frame.readByte_eq rfl]

/-- Settles O13: each command of a channel in the case its premises name, with what it leaves of the channel's record, of its requests and of memory. -/
theorem dramChannels : Obligations.DramChannels := by
  intro s ch hf
  refine ⟨?refreshes, ?issues, fun id errors r hr hwrite hpower => dataReturn_write hf hr hwrite hpower errors,
    fun id r q hr hread hcause hq hphase hop hpower hbulk => dataReturn_readOnce hf hr hread hcause hq hphase hop hpower hbulk,
    fun pseudo bank => refreshInterval_does hf, fun id r => commandTimeout_does hf, retrainDone_good hf, retrainDone_bad hf, fun mirror => panicCap_does hf,
    fun mirror => panicResume_does hf, driftTrack_does hf, channelRetrain_starts, fun pa held => scrubLine_does hf, selftest_failed hf, ?passes,
    errorLogClear_replies s, fun r cluster set => deepSetRelease_replies r, fun r pa => poisonInject_replies r⟩
  case refreshes =>
    rintro pseudo c b hruns hopen rfl hdue
    obtain ⟨hout, hrefresh, hreqs, hframe⟩ := refreshBank_holds ch pseudo b (moved ch s)
    refine ⟨_, commandSlot_refreshes hf hruns hopen hdue, ?_, ?_, ?_, ((moved_frame ch s).mono (by decide)).trans (hframe.mono (by decide))⟩
    · rw [hout, (moved_frame ch s).out_eq rfl]
    · rw [hrefresh, moved_refreshDue]
    · rw [hreqs, moved_reqs]
  case issues =>
    rintro pseudo c r hruns hopen rfl hdue hpick
    obtain ⟨hout, hreqs, hmem⟩ := issueDram_holds ch r (moved ch s)
    refine ⟨_, commandSlot_issues hf hruns hopen hdue hpick, ?_, ?_, hmem.trans ((moved_frame ch s).mem_eq rfl)⟩
    · rw [hout, (moved_frame ch s).out_eq rfl]
    · rw [hreqs, moved_reqs]
  case passes =>
    refine ⟨s, ?_, rfl⟩
    rw [exec, execDecoderSelftestHourly, hf]
    rfl

end Sys2Proof.Machine
end

section
/-!
PROOF. The deep tier: the answers of sleds, the frames' ages, and the commands of the deep tier (R295 to R312, R317).
-/
namespace Sys2Proof.Machine

/-! ### Packets from a sled (R151, R304, R305) -/

/-- A packet from a sled that its port takes: the port is up, the packet is for the node EID, passes its E2E_CRC and is well formed. -/
structure TakesDeep (s : State) (sled : Nat) (p : Packet) : Prop where
  four : sled < 4
  up : s.portUp (32 + sled) = true
  dest : p.dest = s.obj .nodeEid
  crc : p.crcGood = true
  form : p.linkMalformed (32 + sled) = false

theorem arriveDeep_of_takes {s : State} {sled op : Nat} {p : Packet} (h : TakesDeep s sled p) (hop : p.op = op) (go : Nat → Packet → State → State) :
    arriveDeep op (32 + sled) p go s = go sled p s := by
  obtain ⟨hsled, hup, hdest, hcrc, hform⟩ := h
  have hport : isDeepPort (32 + sled) = true := decide_eq_true (by omega)
  unfold arriveDeep arriveLink
  rw [hop, hport, hup, hcrc, hform, if_neg (by simp)]
  dsimp only
  rw [if_neg (by simp), if_neg (not_not.2 hdest), if_neg (by simp), if_neg (by simp), Nat.add_sub_cancel_left]

theorem sled_setSled_same (n : Nat) (f : Sled → Sled) (s : State) : (setSled n f s).sled n = f (s.sled n) := agetD_aset_same ..

theorem sled_setSled_ne {n m : Nat} (h : m ≠ n) (f : Sled → Sled) (s : State) : (setSled n f s).sled m = s.sled m := agetD_aset_ne _ _ _ h

theorem setSled_frame (n : Nat) (f : Sled → Sled) (s : State) : Frame [.deep] s (setSled n f s) := frame_setSled (by decide) (Frame.refl _ s)

theorem sendDt_frame (sled vc op harg key : Nat) (body : List Byte) (s : State) : Frame [.txn, .ledger, .leaves] s (sendDt sled vc op harg key body s) :=
  frame_sendDt (by decide) (Frame.refl _ s)

theorem sendClaim_deep (sled epoch : Nat) (s : State) : (sendClaim sled epoch s).deep = s.deep := (sendDt_frame ..).deep_eq rfl

/-- Claiming a sled that has told of itself changes nothing of what it has told. -/
theorem sled_claimAfterInfo (n : Nat) (s : State) : ∃ v, (claimAfterInfo n s).sled n = { s.sled n with foreign := v } := by
  unfold claimAfterInfo
  extract_lets x
  split
  · exact ⟨_, rfl⟩
  split
  · split
    · exact ⟨_, sled_of_deep (sendClaim_deep ..) n⟩
    · exact ⟨_, rfl⟩
  split
  · exact ⟨_, (sled_of_deep (sendClaim_deep ..) n).trans (sled_setSled_same ..)⟩
  split
  · exact ⟨_, rfl⟩
  · exact ⟨_, (sled_of_deep (notify_deep ..) n).trans (sled_setSled_same ..)⟩

theorem claimAfterInfo_mem (n : Nat) (s : State) : (claimAfterInfo n s).mem = s.mem :=
  (frame_claimAfterInfo (P := [.txn, .deep, .ledger, .leaves, .sessions, .rings, .kodp, .ctrs, .out]) (by decide) (Frame.refl _ s)).mem_eq rfl

theorem exhaust_frame (kind unit : Nat) (s : State) : Frame [.ledger, .leaves, .sessions, .boot, .rings, .kodp, .ctrs, .out] s (exhaust kind unit s) :=
  frame_exhaust (by decide) (Frame.refl _ s)

theorem dtInfoData_does {s : State} {sled : Nat} {p : Packet} {q : PoolReq} (h : TakesDeep s sled p) (hop : p.op = 0x81)
    (hq : s.sledReq (32 + sled) p.tag true = some q) : Does (.dtInfoData (32 + sled) p) s (fun t =>
      (t.sled sled).present = true ∧ (t.sled sled).reachable = true ∧ (t.sled sled).eid = p.src ∧ (t.sled sled).capacity = bits (leNat (p.body.take 16)) 0 32
        ∧ (t.sled sled).ownerEid = bits (leNat (p.body.take 16)) 32 18 ∧ (t.sled sled).ownerEpoch = bits (leNat (p.body.take 16)) 64 32 ∧ t.mem = s.mem) := by
  have hexec : exec (.dtInfoData (32 + sled) p) s = _ := congrArg Host.Outcome.next (arriveDeep_of_takes h hop _)
  dsimp only at hexec
  rw [hq] at hexec
  dsimp only at hexec
  generalize leNat (p.body.take 16) = a at hexec ⊢
  generalize hu : setSled sled _ (endPool q s) = u at hexec
  generalize hv : onlyIf (decide (bits a 96 8 < u.obj .sledSpareWarn)) (exhaust 7 sled) u = v at hexec
  have hwarn : Frame [.ledger, .leaves, .sessions, .boot, .rings, .kodp, .ctrs, .out] u v := hv ▸ frame_onlyIf (fun t ht => frame_exhaust (by decide) ht) (Frame.refl _ u)
  have hsled : v.sled sled = u.sled sled := sled_of_deep (hwarn.deep_eq rfl) sled
  have hmem : v.mem = s.mem := (hwarn.mem_eq rfl).trans (hu ▸ ((endPool_frame q s).mem_eq rfl))
  obtain ⟨w, hknown⟩ := sled_claimAfterInfo sled v
  rw [hsled, ← hu, sled_setSled_same] at hknown
  refine ⟨_, hexec, ?_⟩
  dsimp only
  rw [hknown, claimAfterInfo_mem, hmem]
  exact ⟨rfl, rfl, rfl, rfl, rfl, rfl, rfl⟩

/-! ### Fills (R295, R303, R307) -/

theorem fillOf_setFill {s : State} {g : Nat} {f : Fill} {change : Fill → Fill} (hkept : ∀ x, (change x).granule = x.granule) (h : s.fillOf g = some f) :
    (setFill g change s).fillOf g = some (change f) := by
  have hgran : ∀ x : Fill, (if x.granule = g then change x else x).granule = x.granule := fun x => by
    split
    · exact hkept x
    · rfl
  have hfound : f.granule = g := by simpa using List.find?_some h
  show (s.deep.fills.map _).find? _ = _
  rw [List.find?_map]
  simp only [Function.comp_def, hgran]
  rw [show s.deep.fills.find? (fun x => x.granule == g) = some f from h, Option.map_some, if_pos hfound]

theorem completeFill_undone {s : State} {g : Nat} {f : Fill} (h : s.fillOf g = some f) (hdone : f.done = false) : completeFill g s = s := by
  unfold completeFill
  rw [h]
  dsimp only
  rw [hdone, if_pos (by simp)]

/-- A metadata unit of a fill is kept with it. -/
def Fill.withMeta (p : Packet) (u : Nat) (f : Fill) : Fill :=
  { f with metas := aset (aset f.metas (u - 512) (p.poison, p.body.take 128)) (u - 511) (p.poison, (p.body.drop 128).take 128) }

theorem dtReadData_meta {s : State} {sled u : Nat} {p : Packet} {f : Fill} (h : TakesDeep s sled p) (hop : p.op = 0x88)
    (hf : s.deep.fills.find? (fun f => dpPort (granuleSled f.granule) == 32 + sled && f.tag == p.tag) = some f) (hof : s.fillOf f.granule = some f)
    (hdone : f.done = false) (hu : u = p.harg / 2 * 2) (hlo : 512 ≤ u) (hhi : u < 544) : Does (.dtReadData (32 + sled) p) s (fun t =>
      t.mem = s.mem ∧ t.deep.fills = s.deep.fills.map (fun x => if x.granule = f.granule then x.withMeta p u else x)) := by
  have hexec : exec (.dtReadData (32 + sled) p) s = _ := congrArg Host.Outcome.next (arriveDeep_of_takes h hop _)
  rw [hf] at hexec
  dsimp only at hexec
  rw [← hu, if_neg (by omega), if_pos hlo] at hexec
  refine ⟨setFill f.granule (Fill.withMeta p u) s, hexec.trans (congrArg Host.Outcome.next ?_), rfl, rfl⟩
  exact completeFill_undone (fillOf_setFill (change := Fill.withMeta p u) (fun _ => rfl) hof) hdone

/-- A granule is read once more, with a tag of its own. -/
def Fill.again (tag : Nat) (f : Fill) : Fill := { f with reread := true, done := false, tag := tag }

theorem deepMissingUnits_again {s : State} {cluster set way : Nat} {f : Fill} (hrun : s.frozen = false)
    (hf : s.deep.fills.find? (fun f => f.cluster == cluster && f.set == set && f.way == way) = some f) (hdone : f.done = true)
    (hmissing : f.arrived.length = 512 ∧ f.metas.length = 32 → False) (hfirst : f.reread = false) : Does (.deepMissingUnits cluster set way) s (fun t =>
      ∃ tag, t.mem = s.mem ∧ t.deep.fills = s.deep.fills.map (fun x => if x.granule = f.granule then x.again tag else x)) := by
  have hopen : ¬((!f.done || f.arrived.length == 512 && f.metas.length == 32) = true) := by
    rw [hdone]
    simpa using hmissing
  generalize hsent : sendDt (granuleSled f.granule) 1 0x83 f.first f.granule
    (dtSlot (granuleLocal f.granule) (s.sledEpoch (granuleSled f.granule)) 0) s = u
  have hu : Frame [.txn, .ledger, .leaves] s u := hsent ▸ sendDt_frame ..
  refine ⟨setFill f.granule (Fill.again (s.freeTag (s.sled (granuleSled f.granule)).eid)) u, ?_, s.freeTag (s.sled (granuleSled f.granule)).eid, hu.mem_eq rfl, ?_⟩
  · rw [exec, execDeepMissingUnits, hrun, if_neg Bool.false_ne_true, hf]
    dsimp only
    rw [if_neg hopen, hfirst, hsent]
    rfl
  · show u.deep.fills.map _ = _
    rw [hu.deep_eq rfl]

/-! ### Claims (R300, R309, R310) -/

theorem dtCmp_claims {s : State} {sled : Nat} {p : Packet} {q : PoolReq} (h : TakesDeep s sled p) (hop : p.op = 0x86)
    (hq : s.sledReq (32 + sled) p.tag false = some q) (hclaim : q.pkt.op = 0x82) (hok : p.status = 0) (hbasis : s.twin.basis = 0) :
    Does (.dtCmp (32 + sled) p) s (fun t => ∃ w, t = settleWaits w ∧ (w.sled sled).claimed = true ∧ (w.sled sled).fenced = false
      ∧ (w.sled sled).ownerEid = s.obj .nodeEid ∧ (w.sled sled).ownerEpoch = leNat ((q.pkt.body.drop 4).take 4) ∧ w.mem = s.mem) := by
  have hexec : exec (.dtCmp (32 + sled) p) s = _ := congrArg Host.Outcome.next (arriveDeep_of_takes h hop _)
  rw [hq] at hexec
  dsimp only at hexec
  have hend := endPool_frame q s
  generalize hu : endPool q s = u at hend
  have hbasis' : u.twin.basis = 0 := (congrArg TwinState.basis (hend.twin_rest rfl) :).trans hbasis
  generalize hw : setSled sled (fun x => { x with claimed := true, fenced := false, foreign := false, ownerEid := u.obj .nodeEid, ownerEpoch := leNat ((q.pkt.body.drop 4).take 4) }) u = w
  have hanswer : sledAnswer sled q (Status.ofCode p.status) s = w := by
    unfold sledAnswer
    rw [hu, hclaim, hok]
    show (if Status.ofCode 0 = .ok then _ else _) = w
    rw [if_pos (by decide)]
    dsimp only
    rw [hw, if_neg fun hb => hb.1 (by rw [← hw]; exact hbasis')]
  rw [hanswer] at hexec
  have hsled : w.sled sled = _ := hw ▸ sled_setSled_same ..
  refine ⟨_, hexec, w, rfl, ?_⟩
  rw [hsled, ← hend.obj_eq rfl]
  exact ⟨rfl, rfl, rfl, rfl, by rw [← hw]; exact hend.mem_eq rfl⟩

theorem sledClaimForce_replies {s : State} {sled : Nat} (r : Req) (hsled : sled < 4) (hpresent : (s.sled sled).present = true) (hsolo : s.twin.st = .solo) :
    Replies (.sledClaimForce r sled) s (cmdObj 0x1630 6 roleOp) r 1 (leBytes 1 sled) .ok [] (fun t =>
      (t.sled sled).fenced = false ∧ ∃ q ∈ t.txn.pool, q.issuer = .deep ∧ q.pkt.op = 0x82 ∧ q.key = sled ∧ q.port = 32 + sled) := by
  refine replies_effect (eff := fun s => sendClaim sled ((s.sled sled).ownerEpoch + 1) (setSled sled (fun x => { x with fenced := false }) s)) rfl ?_ rfl rfl rfl
    (fun b _ => ((setSled_frame ..).mono (P := [.deep, .txn, .ledger, .leaves]) (by decide)).trans ((sendDt_frame ..).mono (by decide)) |>.running_eq rfl)
    fun b t hb ht => ⟨?_, ?_⟩
  · simp [hpresent, hsolo]
    omega
  · rw [sled_of_deep (ht.frame.deep_eq rfl), sled_of_deep (sendClaim_deep ..), sled_setSled_same]
  · have hpool := congrArg TxnState.pool (ht.frame.txn_rest rfl)
    change t.txn.pool = _ at hpool
    rw [hpool]
    exact ⟨_, List.mem_concat_self .., rfl, rfl, rfl, rfl⟩

/-! ### Bulk commands (R301) -/

/-- What DEEP_PIN, DEEP_PREFETCH and DEEP_TRIM have to do. -/
def bulkOver (which : Nat) (r : Req) (pa length : Nat) : Bulk :=
  { req := r, which := which, granules := (List.range (length / 65536)).map (fun i => granuleOf pa + i)
    first := granuleOf pa, count := length / 65536, sled := 0, noSpace := false, aborted := false }

/-- What DEEP_FLUSH has to do. -/
def bulkFlush (r : Req) (sled : Nat) : Bulk :=
  { req := r, which := 4, granules := [], first := 0, count := 0, sled := sled, noSpace := false, aborted := false }

/-- A bulk command that is accepted is begun, and taken as far as it goes at once. -/
theorem bulk_begins {s : State} {c : Instr} {o : OpObj} {r : Req} {arg : List Byte} {n : Nat} {v : Verdict} {b : Bulk}
    (hexec : exec c s = .next (operate o r arg n v (fun s => settleWaits (bulkStep (s.onDeep (fun d => { d with bulk := some b })))) s))
    (hbad : v.bad = false) (hfenced : v.fenced = false) (hstate : v.state = false) (hother : v.other = none) (hacc : s.accepts o r n arg = true) :
    Does c s (fun t => ∃ w, t = settleWaits (bulkStep w) ∧ w.deep = { s.deep with bulk := some b } ∧ w.mem = s.mem) := by
  rw [operate_accepted hacc hbad hfenced hstate hother] at hexec
  have hb := begun_frame o r arg n s
  refine ⟨_, hexec, _, rfl, ?_, hb.mem_eq rfl⟩
  rw [State.onDeep_deep, hb.deep_eq rfl]

theorem startBulk_begins {s : State} {c : Instr} {which : Nat} {r : Req} {pa length : Nat} (hexec : exec c s = .next (startBulk which r pa length s))
    (hbad : (bulkVerdict s pa length).bad = false) (howner : s.standby = false) (hfree : s.deep.bulk = none)
    (hacc : s.accepts (cmdObj 0x1630 which rolePm) r 8 (leBytes 8 pa ++ leBytes 8 length) = true) :
    Does c s (fun t => ∃ w, t = settleWaits (bulkStep w) ∧ w.deep = { s.deep with bulk := some (bulkOver which r pa length) } ∧ w.mem = s.mem) :=
  bulk_begins (b := bulkOver which r pa length) hexec hbad howner (by rw [hfree]; rfl) rfl hacc

theorem deepFlush_begins {s : State} {sled : Nat} {r : Req} (hsled : sled < 4) (hpresent : (s.sled sled).present = true) (hunits : s.deep.units ≠ 0)
    (howner : s.standby = false) (hfree : s.deep.bulk = none) (hacc : s.accepts (cmdObj 0x1630 4 (roleOp + rolePm)) r 1 (leBytes 1 sled) = true) :
    Does (.deepFlush r sled) s (fun t => ∃ w, t = settleWaits (bulkStep w) ∧ w.deep = { s.deep with bulk := some (bulkFlush r sled) }) := by
  obtain ⟨t, hexec, w, ht, hw, -⟩ := bulk_begins (b := bulkFlush r sled) (c := .deepFlush r sled) rfl
    (show ((sled != 0xFF && (decide (sled > 3) || !(s.sled sled).present)) || s.deep.units == 0) = false by simp [hpresent, hunits]; omega)
    howner (by rw [hfree]; rfl) rfl hacc
  exact ⟨t, hexec, w, ht, hw⟩

/-! ### Tags (R292, R301) -/

/-- A part of a line is read as that part of the whole line. -/
theorem plainBytes_part (s : State) (l tweak : Nat) {off n : Nat} (h : off + n ≤ 128) :
    s.plainBytes l tweak off n = ((s.plainBytes l tweak 0 128).drop off).take n := by
  have hcut : ∀ d : List Byte, (d.drop off).take n = ((((d.drop 0).take 128).drop off).take n) := fun d => by
    rw [List.drop_zero, List.drop_take, List.take_take, Nat.min_eq_left (by omega)]
  unfold State.plainBytes
  dsimp only
  split
  · exact hcut _
  split
  · refine List.ext_getElem (by simp [State.readBytes, cellsRead]; omega) fun i _ _ => ?_
    simp [State.readBytes, cellsRead, Nat.add_assoc]
  · exact hcut _

theorem tagLinePa_direct (s : State) {cluster : Nat} (hcluster : cluster < 16) (g : Nat) :
    s.tagLinePa cluster (s.frameSet g) < 2 ^ 48 ∧ s.tagLinePa cluster (s.frameSet g) % 128 = 0 := by
  have hset : s.frameSet g < 2 ^ 32 := (Nat.mod_le _ _).trans_lt (Nat.mod_lt _ (by decide))
  have hbase : s.tagBase ≤ ledgerBase ∧ s.tagBase % 2048 = 0 := by
    have hdram : dramTop % 2 ^ 30 = 0 := by decide
    unfold State.tagBase ledgerBase
    omega
  generalize s.frameSet g = set at hset ⊢
  have htop : ledgerBase ≤ 2 ^ 47 := by decide
  have hxor : Nat.xor cluster ((s.tagBase / 16 + 128 * set) / 2 ^ 16 % 16) < 2 ^ 4 := Nat.xor_lt_two_pow hcluster (Nat.mod_lt _ (by decide))
  unfold State.tagLinePa paOfLocal
  dsimp only
  omega

theorem isDeepPa_low {pa : Nat} (h : pa < 2 ^ 48) : isDeepPa pa = false := by
  unfold isDeepPa
  rw [decide_eq_false (Nat.not_le.2 h), Bool.false_and]

theorem ownBytes_direct {s : State} {pa n : Nat} (hdirect : isDeepPa (pa / 128 * 128) = false) (haligned : pa % 128 = 0) :
    s.ownBytes pa n = s.plainBytes (pa / 128) (pa / 128) 0 n := by
  unfold State.ownBytes
  rw [storeOf_direct hdirect]
  dsimp only
  rw [haligned]

theorem ownBytes_tagLine (s : State) {cluster : Nat} (hcluster : cluster < 16) (g : Nat) : s.ownBytes (s.tagLinePa cluster (s.frameSet g)) 128
    = s.plainBytes (s.tagLinePa cluster (s.frameSet g) / 128) (s.tagLinePa cluster (s.frameSet g) / 128) 0 128 := by
  obtain ⟨hlow, haligned⟩ := tagLinePa_direct s hcluster g
  exact ownBytes_direct (isDeepPa_low ((Nat.div_mul_le_self _ _).trans_lt hlow)) haligned

theorem leNat_short {l : List Byte} {n : Nat} (h : l.length ≤ n) (k : Nat) : leNat ((l.drop n).take k) = 0 := by
  rw [List.drop_eq_nil_of_le h, List.take_nil]
  rfl

/-- The eight bytes of a way in a tag line that has been given a new tag. -/
theorem withTag_bytes {b : List Byte} {way : Nat} (v : Nat) (hway : way < 16) (hlen : 8 * way ≤ b.length) :
    ((padTo 128 (b.take (8 * way) ++ leBytes 8 v ++ b.drop (8 * way + 8))).drop (8 * way)).take 8 = leBytes 8 v := by
  have hfront : (b.take (8 * way)).length = 8 * way := by rw [List.length_take, Nat.min_eq_left hlen]
  have htag := length_leBytes 8 v
  generalize leBytes 8 v = m at htag ⊢
  generalize b.take (8 * way) = a at hfront ⊢
  unfold padTo
  rw [List.append_assoc, List.take_append, List.take_append, List.take_of_length_le (show a.length ≤ 128 by omega),
    List.take_of_length_le (show m.length ≤ 128 - a.length by omega), List.append_assoc, List.drop_left' hfront, List.append_assoc, List.take_left' htag]

/-- A tag that is set is read back, where the line it lies in was read whole up to it. -/
theorem tag_setTag {s : State} {cluster g way : Nat} (v : Nat) (hwf : s.MemWf) (hcluster : cluster < 16) (hway : way < 16)
    (hserves : s.lineFailed (s.tagLinePa cluster (s.frameSet g) / 128) = false) (hvalid : s.tag cluster (s.frameSet g) way ≠ 0) :
    (setTag cluster (s.frameSet g) way v s).tag cluster (s.frameSet g) way = v % 2 ^ 64 := by
  have hown := ownBytes_tagLine s hcluster g
  generalize s.frameSet g = set at *
  have hpa : (setTag cluster set way v s).tagLinePa cluster set = s.tagLinePa cluster set := by
    unfold State.tagLinePa State.tagBase
    rw [(frame_setTag (P := [.pkg, .mem, .dram, .mirror, .leaves, .power, .rings, .ctrs, .free]) (by decide) (Frame.refl _ s)).deep_eq rfl]
  have hlen : 8 * way ≤ (s.ownBytes (s.tagLinePa cluster set) 128).length := by
    rw [hown]
    by_contra hshort
    refine hvalid ?_
    unfold State.tag
    dsimp only
    rw [plainBytes_part s _ _ (by omega)]
    exact leNat_short (by omega) 8
  unfold State.tag
  dsimp only
  rw [hpa]
  unfold setTag
  rw [hserves, if_neg Bool.false_ne_true]
  rw [plainBytes_commitRaw hwf _ _ rfl rfl _ (by omega)]
  unfold tagBytes
  rw [withTag_bytes v hway hlen, leNat_leBytes]
  norm_num

theorem Frame.key0_eq {P : List Part} {s t : State} (h : Frame P s t) (hp : P.contains .sec = false) : t.sec.key0 = s.sec.key0 :=
  (congrArg SecurityState.key0 (h.sec_rest hp) :)

theorem tag_of_units {s t : State} (hmem : t.mem = s.mem) (hunits : t.deep.units = s.deep.units) (hsec : t.sec.key0 = s.sec.key0) (cluster set way : Nat) :
    t.tag cluster set way = s.tag cluster set way := by
  unfold State.tag State.plainBytes State.tagLinePa State.tagBase State.keyValue State.readLine State.readBytes State.lineMeta
  rw [hmem, hunits, hsec]

theorem lineFailed_of_units {s t : State} (hmem : t.mem = s.mem) (hunits : t.deep.units = s.deep.units) (hsec : t.sec.key0 = s.sec.key0)
    (hdram : t.dram = s.dram) (line : Nat) : t.lineFailed line = s.lineFailed line := by
  have hstore : t.storeOf line = s.storeOf line := by
    unfold State.storeOf State.frameWay State.framePa State.frameSet State.poolTop State.tagBase
    simp only [tag_of_units hmem hunits hsec, hunits]
  unfold State.lineFailed State.channel
  rw [hstore, hdram]

theorem tagReady_of_units {s t : State} (hmem : t.mem = s.mem) (hunits : t.deep.units = s.deep.units) (hsec : t.sec.key0 = s.sec.key0)
    (hdram : t.dram = s.dram) (cluster set : Nat) : t.tagReady cluster set = s.tagReady cluster set := by
  unfold State.tagReady State.tagLinePa State.tagBase
  simp only [lineFailed_of_units hmem hunits hsec hdram, State.lineMeta, hmem, hunits]

theorem frameWay_congr {s t : State} (hmem : t.mem = s.mem) (hdeep : t.deep = s.deep) (hsec : t.sec.key0 = s.sec.key0) (pa : Nat) :
    t.frameWay pa = s.frameWay pa := by
  unfold State.frameWay State.frameSet
  simp only [tag_congr hmem hdeep hsec, hdeep]

theorem frameWay_held {s : State} {pa way : Nat} (h : s.frameWay pa = some way) :
    way < 16 ∧ s.tag (homeCluster pa) (s.frameSet (granuleOf pa)) way ≠ 0 := by
  unfold State.frameWay at h
  have hheld := List.find?_some h
  refine ⟨List.mem_range.1 (List.mem_of_find?_eq_some h), fun hzero => ?_⟩
  dsimp only at hheld
  rw [hzero] at hheld
  exact Bool.noConfusion hheld

theorem tagHas_tagPut_clear (t : Nat) : tagHas (tagPut t tagPin false % 2 ^ 64) tagPin = false := by
  unfold tagHas tagPut tagPin bits
  rw [if_neg Bool.false_ne_true]
  refine beq_eq_false_iff_ne.2 ?_
  omega

/-- PIN of a granule's frame is cleared, where it is set (R301). -/
def unpinned (g : Nat) (s : State) : State :=
  match s.frameWay (granulePa g) with
  | some w =>
    let t := s.tag (granuleCluster g) (s.frameSet g) w
    if tagHas t tagPin then setTag (granuleCluster g) (s.frameSet g) w (tagPut t tagPin false) s else s
  | none => s

theorem unpinned_frame (g : Nat) (s : State) : Frame [.pkg, .mem, .dram, .mirror, .leaves, .power, .rings, .ctrs, .free] s (unpinned g s) := by
  unfold unpinned
  split
  · dsimp only
    split
    · exact frame_setTag (by decide) (Frame.refl _ s)
    · exact Frame.refl _ s
  · exact Frame.refl _ s

theorem granuleOf_granulePa {g : Nat} (h : g < 2 ^ 32) : granuleOf (granulePa g) = g := by
  unfold granuleOf granulePa
  omega

theorem unpinned_tag {s : State} {g way : Nat} (hg : g < 2 ^ 32) (hwf : s.MemWf) (hway : s.frameWay (granulePa g) = some way)
    (hserves : s.lineFailed (s.tagLinePa (granuleCluster g) (s.frameSet g) / 128) = false) :
    tagHas ((unpinned g s).tag (granuleCluster g) (s.frameSet g) way) tagPin = false := by
  obtain ⟨hlt, hheld⟩ := frameWay_held hway
  rw [granuleOf_granulePa hg] at hheld
  unfold unpinned
  rw [hway]
  dsimp only
  split
  · rw [tag_setTag (cluster := granuleCluster g) _ hwf (homeCluster_lt _) hlt hserves hheld]
    exact tagHas_tagPut_clear _
  next hclear => exact Bool.not_eq_true _ ▸ hclear

theorem deepUnpin_exec (s : State) (r : Req) (pa length : Nat) : exec (.deepUnpin r pa length) s
    = .next (operateOk (cmdObj 0x1630 2 rolePm) r (leBytes 8 pa ++ leBytes 8 length) 8 (bulkVerdict s pa length)
      (forAll ((List.range (length / 65536)).map (fun i => granuleOf pa + i)) unpinned) s) := rfl

theorem deepUnpin_replies {s : State} {pa way length : Nat} (r : Req) (hlength : length / 65536 = 1) (hbad : (bulkVerdict s pa length).bad = false) (howner : s.standby = false) (hwf : s.MemWf)
    (hway : s.frameWay (granulePa (granuleOf pa)) = some way)
    (hserves : s.lineFailed (s.tagLinePa (granuleCluster (granuleOf pa)) (s.frameSet (granuleOf pa)) / 128) = false) :
    Replies (.deepUnpin r pa length) s (cmdObj 0x1630 2 rolePm) r 8 (leBytes 8 pa ++ leBytes 8 length) .ok [] (fun t =>
      tagHas (t.tag (granuleCluster (granuleOf pa)) (s.frameSet (granuleOf pa)) way) tagPin = false ∧ t.deep.bulk = s.deep.bulk) := by
  have hg : granuleOf pa < 2 ^ 32 := Nat.mod_lt _ (by decide)
  have hrun := deepUnpin_exec s r pa length
  generalize granuleOf pa = g at *
  rw [hlength, show (List.range 1).map (fun i => g + i) = [g] from rfl] at hrun
  refine replies_effect (eff := unpinned g) hrun hbad howner rfl rfl (fun b _ => (unpinned_frame g b).running_eq rfl) fun b t hb ht => ⟨?_, ?_⟩
  · have hmem := hb.frame.mem_eq rfl
    have hdeep := hb.frame.deep_eq rfl
    have hkey : b.sec.key0 = s.sec.key0 := hb.frame.key0_eq rfl
    have hset : b.frameSet g = s.frameSet g := by
      unfold State.frameSet
      rw [hdeep]
    have hline : b.tagLinePa (granuleCluster g) (b.frameSet g) = s.tagLinePa (granuleCluster g) (s.frameSet g) := by
      rw [hset]
      unfold State.tagLinePa State.tagBase
      rw [hdeep]
    have hserves' : b.lineFailed (b.tagLinePa (granuleCluster g) (b.frameSet g) / 128) = false := by
      rw [hline, lineFailed_of_units hmem (congrArg DeepState.units hdeep) hkey (hb.frame.dram_eq rfl)]
      exact hserves
    rw [tag_congr (ht.frame.mem_eq rfl) (ht.frame.deep_eq rfl) (ht.frame.key0_eq rfl), ← hset]
    refine unpinned_tag hg ?_ ((frameWay_congr hmem hdeep hkey _).trans hway) hserves'
    unfold State.MemWf
    rw [hmem]
    exact hwf
  · rw [ht.frame.deep_eq rfl, (unpinned_frame g b).deep_eq rfl, hb.frame.deep_eq rfl]

/-! ### Waiting misses (R295, R312) -/

theorem deepWaitResume_one {s : State} {cluster g src tag : Nat} {q : Request} (hrun : s.frozen = false) (hwait : s.deep.waiting = [(cluster, g, src, tag)])
    (hq : s.request src tag = some q) : Does (.deepWaitResume cluster) s (fun t => t = settleWaits (bulkStep (orderRequest q false s))) := by
  refine ⟨_, ?_, rfl⟩
  have hone : s.deep.waiting.filter (fun w => w.1 == cluster) = [(cluster, g, src, tag)] := by simp [hwait]
  rw [exec, execDeepWaitResume, hrun, if_neg Bool.false_ne_true, hone]
  unfold forAll
  dsimp only [List.foldl]
  rw [hq]

/-- Where no request waits, a failing granule leaves its word to the accesses that seek it, and nothing of a sled or of memory changes. -/
structure Failed (g : Nat) (s t : State) : Prop where
  frame : Frame [.ledger, .deep, .mirror, .leaves, .sessions, .rings, .kodp, .running, .ctrs, .out] s t
  sleds : t.deep.sleds = s.deep.sleds
  waiting : t.deep.waiting = []
  seekers : t.deep.seekers = s.deep.seekers.map (fun x => if x.1 = g then (x.1, x.2.1, x.2.2.1, some .timeout) else x)

theorem endBulk_deep (b : Bulk) (st : Status) (s : State) : (endBulk b st s).deep = { s.deep with bulk := none } := (reply_frame ..).deep_eq rfl

theorem failWaiting_failed {s : State} {g : Nat} (h : s.deep.waiting = []) : Failed g s (failWaiting g .timeout s) := by
  unfold failWaiting
  extract_lets mine u v
  have hmine : mine = [] := by unfold mine; rw [h]; rfl
  have hu : Failed g s u := ⟨frame_onDeep (by decide) (Frame.refl _ s), rfl, by show s.deep.waiting.filter _ = []; rw [h]; rfl, rfl⟩
  clear_value u
  rw [hmine]
  show Failed g s v
  unfold v
  split
  next b _ =>
    split
    · have hdeep := endBulk_deep b .timeout u
      exact ⟨frame_endBulk (by decide) hu.frame, by rw [hdeep]; exact hu.sleds, by rw [hdeep]; exact hu.waiting, by rw [hdeep]; exact hu.seekers⟩
    · exact hu
  · exact hu

/-- An access that seeks a granule of the list ends TIMEOUT once all of them fail. -/
theorem failAll_seekers (gs : List Nat) {s : State} (h : s.deep.waiting = []) :
    Frame [.ledger, .deep, .mirror, .leaves, .sessions, .rings, .kodp, .running, .ctrs, .out] s (forAll gs (fun g s => failWaiting g .timeout s) s)
      ∧ (forAll gs (fun g s => failWaiting g .timeout s) s).deep.sleds = s.deep.sleds
      ∧ (forAll gs (fun g s => failWaiting g .timeout s) s).deep.seekers
        = s.deep.seekers.map (fun x => if x.1 ∈ gs then (x.1, x.2.1, x.2.2.1, some .timeout) else x) := by
  induction gs generalizing s with
  | nil => exact ⟨Frame.refl _ s, rfl, by simp [forAll]⟩
  | cons g gs ih =>
    have hone := failWaiting_failed (g := g) h
    obtain ⟨hframe, hsleds, hseekers⟩ := ih hone.waiting
    refine ⟨hone.frame.trans hframe, hsleds.trans hone.sleds, hseekers.trans ?_⟩
    rw [hone.seekers, List.map_map]
    refine List.map_congr_left fun x _ => ?_
    by_cases hx : x.1 = g <;> simp [hx]

/-- The granules that accesses wait for from a sled: of requests, of the accesses that seek one, and of a bulk command (R312). -/
def State.missesOf (s : State) (sled : Nat) : List Nat :=
  ((s.deep.waiting.map (fun w => w.2.1) ++ s.deep.seekers.map Prod.fst ++ (match s.deep.bulk with | some b => b.granules | none => [])).filter (fun g =>
    granuleSled g == sled && (s.frameWay (granulePa g)).isNone)).eraseDups

theorem mem_missesOf {s : State} {sled : Nat} {x : Nat × Nat × Nat × Option Status} (hx : x ∈ s.deep.seekers) (hof : granuleSled x.1 = sled)
    (hout : s.frameWay (granulePa x.1) = none) : x.1 ∈ s.missesOf sled := by
  unfold State.missesOf
  rw [List.mem_eraseDups, List.mem_filter]
  exact ⟨List.mem_append_left _ (List.mem_append_right _ (List.mem_map_of_mem hx)), by simp [hof, hout]⟩

theorem sledWaitTimeout_exec {s : State} {sled : Nat} (hsled : sled < 4) (hrun : s.frozen = false) (hdown : s.reachable sled = false) :
    exec (.sledWaitTimeout sled) s = .next (settleWaits (if ((forAll (s.missesOf sled) (fun g s => failWaiting g .timeout s) s).sled sled).reachable
      then notify 0x1602 (leBytes 1 sled) (setSled sled (fun x => { x with reachable := false }) (forAll (s.missesOf sled) (fun g s => failWaiting g .timeout s) s))
      else forAll (s.missesOf sled) (fun g s => failWaiting g .timeout s) s)) := by
  rw [exec, execSledWaitTimeout, hrun, if_neg Bool.false_ne_true, if_neg (by rw [hdown]; simp; omega)]
  rfl

theorem sledWaitTimeout_does {s : State} {sled : Nat} (hsled : sled < 4) (hrun : s.frozen = false) (hdown : s.reachable sled = false)
    (hknown : (s.sled sled).reachable = true) (hwait : s.deep.waiting = []) : Does (.sledWaitTimeout sled) s (fun t =>
      ∃ w, t = settleWaits w ∧ (w.sled sled).reachable = false ∧ w.mem = s.mem
        ∧ ∀ x ∈ s.deep.seekers, granuleSled x.1 = sled → s.frameWay (granulePa x.1) = none → (x.1, x.2.1, x.2.2.1, some .timeout) ∈ w.deep.seekers) := by
  have hexec := sledWaitTimeout_exec hsled hrun hdown
  obtain ⟨hframe, hsleds, hseekers⟩ := failAll_seekers (s.missesOf sled) hwait
  generalize forAll (s.missesOf sled) (fun g s => failWaiting g .timeout s) s = u at *
  have hreach : (u.sled sled).reachable = true := by
    unfold State.sled
    rw [hsleds]
    exact hknown
  rw [hreach, if_pos rfl] at hexec
  refine ⟨_, hexec, _, rfl, ?_, ?_, fun x hx hof hout => ?_⟩
  · rw [sled_of_deep (notify_deep ..), sled_setSled_same]
  · rw [notify_mem]
    exact hframe.mem_eq rfl
  · rw [notify_deep]
    show _ ∈ u.deep.seekers
    rw [hseekers]
    exact List.mem_map.2 ⟨x, hx, if_pos (mem_missesOf hx hof hout)⟩

/-! ### Writebacks (R299, R300) -/

/-- The frame of a writeback and the granule it holds. -/
def Writeback.place (x : Writeback) : Nat × Nat × Nat × Nat := (x.cluster, x.set, x.way, x.granule)

theorem sendWriteback_places (w : Writeback) (s : State) : (sendWriteback w s).deep.writebacks.map Writeback.place = s.deep.writebacks.map Writeback.place := by
  unfold sendWriteback
  extract_lets sled dest tag u v units
  have hv : v.deep = u.deep := (frame_sendPool (P := [.txn, .ledger, .leaves]) (by decide) (Frame.refl _ u)).deep_eq rfl
  rw [Frame.deep_eq (P := [.leaves]) (frame_forAll (fun _ _ ht => frame_sendOnPort (by decide) ht) (Frame.refl _ v)) rfl, hv]
  show List.map _ (List.map _ s.deep.writebacks) = _
  rw [List.map_map]
  refine List.map_congr_left fun x _ => ?_
  show Writeback.place (if _ then _ else _) = _
  split <;> rfl

theorem startWriteback_places {s : State} {cluster set way : Nat} (hready : s.tagReady cluster set = true)
    (htag : (!tagHas (s.tag cluster set way) tagValid || !tagHas (s.tag cluster set way) tagDirty || tagHas (s.tag cluster set way) tagWriting
      || tagHas (s.tag cluster set way) tagFilling) = false) (hmay : s.maySled (granuleSled (tagGranule (s.tag cluster set way))) = true)
    (hroom : (s.deep.writebacks.filter (fun x => granuleSled x.granule == granuleSled (tagGranule (s.tag cluster set way)))).length < 64)
    (hsound : s.quarantined cluster set = false) (hnew : s.deep.failed.contains (cluster, set, way) = false) :
    (startWriteback cluster set way s).deep.writebacks.map Writeback.place
      = s.deep.writebacks.map Writeback.place ++ [(cluster, set, way, tagGranule (s.tag cluster set way))] := by
  unfold startWriteback
  rw [hready, if_neg (by simp)]
  generalize s.tag cluster set way = t at *
  dsimp only
  rw [htag, hmay, hsound, hnew, decide_eq_false (Nat.not_le.2 hroom), if_neg (by simp)]
  have hclean : Frame [.pkg, .mem, .dram, .mirror, .leaves, .power, .rings, .ctrs, .free] s
      (cleanGranule (tagGranule t) false (setTag cluster set way (tagPut (tagPut t tagRedirty false) tagWriting true) s)) :=
    frame_cleanGranule (by decide) (frame_setTag (by decide) (Frame.refl _ s))
  generalize cleanGranule (tagGranule t) false (setTag cluster set way (tagPut (tagPut t tagRedirty false) tagWriting true) s) = u at hclean ⊢
  generalize List.filter _ _ = reads
  generalize hw : ({ cluster := cluster, set := set, way := way, granule := tagGranule t, tag := 4096, reads := reads } : Writeback) = w
  generalize hv : bump .deepWritebacks cluster _ = v
  have hv' : v.deep.writebacks = s.deep.writebacks ++ [w] := by rw [← hv, ← hclean.deep_eq rfl]; rfl
  have hplaces : v.deep.writebacks.map Writeback.place = s.deep.writebacks.map Writeback.place ++ [(cluster, set, way, tagGranule t)] := by
    rw [hv', List.map_append, ← hw]
    rfl
  split
  · exact (sendWriteback_places w v).trans hplaces
  · rw [(frame_forAll (P := [.pkg, .dram, .power, .rings, .ctrs, .free]) (fun _ _ ht => frame_dramPush (by decide) ht) (Frame.refl _ v)).deep_eq rfl]
    exact hplaces

theorem runQueue_one {s : State} {cluster set way : Nat} (h : s.deep.queue = [(cluster, set, way)]) :
    (runQueue s).deep.writebacks = (startWriteback cluster set way s).deep.writebacks := by
  unfold runQueue
  rw [h]
  unfold forAll
  dsimp only [List.foldl]
  generalize startWriteback cluster set way s = u
  split <;> rfl

theorem queueWriteback_first {s : State} (h : s.deep.queue = []) (cluster set way : Nat) :
    queueWriteback cluster set way s = s.onDeep (fun d => { d with queue := [(cluster, set, way)] }) := by
  unfold queueWriteback
  rw [if_neg (by simp [h])]
  exact congrArg (fun q => s.onDeep (fun d => { d with queue := q })) (by rw [h]; rfl : s.deep.queue ++ [(cluster, set, way)] = [(cluster, set, way)])

/-- A frame of its age is no longer held back by its last writeback's failure (R308). -/
def retried (cluster set way : Nat) (s : State) : State := s.onDeep (fun d => { d with failed := d.failed.filter (fun x => x != (cluster, set, way)) })

/-- A frame of its age is queued for its writeback (R299). -/
def agedOut (cluster set way : Nat) (s : State) : State := (retried cluster set way s).onDeep (fun d => { d with queue := [(cluster, set, way)] })

theorem dirtyAgeExpiry_exec {s : State} {cluster set way : Nat} (hrun : s.frozen = false) (hdirty : tagHas (s.tag cluster set way) tagDirty = true)
    (hqueue : s.deep.queue = []) : exec (.dirtyAgeExpiry cluster set way) s = .next (runQueue (agedOut cluster set way s)) := by
  rw [exec, execDirtyAgeExpiry, hrun, if_neg Bool.false_ne_true, hdirty, if_pos rfl]
  exact congrArg (fun u => Host.Outcome.next (runQueue u)) (queueWriteback_first (s := retried cluster set way s) hqueue cluster set way)

theorem dirtyAgeExpiry_writes {s : State} {cluster set way tag : Nat} (hrun : s.frozen = false) (htag : tag = s.tag cluster set way)
    (hvalid : tagHas tag tagValid = true) (hdirty : tagHas tag tagDirty = true) (hidle : tagHas tag tagWriting = false) (hwhole : tagHas tag tagFilling = false)
    (hmay : s.maySled (granuleSled (tagGranule tag)) = true) (hsound : s.quarantined cluster set = false)
    (hroom : (s.deep.writebacks.filter (fun x => granuleSled x.granule == granuleSled (tagGranule tag))).length < 64)
    (hready : s.tagReady cluster set = true) (hqueue : s.deep.queue = []) : Does (.dirtyAgeExpiry cluster set way) s (fun t =>
      t.deep.writebacks.map Writeback.place = s.deep.writebacks.map Writeback.place ++ [(cluster, set, way, tagGranule tag)]) := by
  refine ⟨_, dirtyAgeExpiry_exec hrun (htag ▸ hdirty) hqueue, ?_⟩
  have hframe : Frame [.deep] s (agedOut cluster set way s) := frame_onDeep (by decide) (frame_onDeep (by decide) (Frame.refl _ s))
  have hunits : (agedOut cluster set way s).deep.units = s.deep.units := rfl
  have hsame : (agedOut cluster set way s).tag cluster set way = tag := (tag_of_units (hframe.mem_eq rfl) hunits (hframe.key0_eq rfl) ..).trans htag.symm
  dsimp only
  rw [runQueue_one (cluster := cluster) (set := set) (way := way) rfl]
  refine (startWriteback_places ?_ ?_ ?_ ?_ ?_ ?_).trans ?_
  · rw [tagReady_of_units (hframe.mem_eq rfl) hunits (hframe.key0_eq rfl) (hframe.dram_eq rfl), hready]
  · rw [hsame, hvalid, hdirty, hidle, hwhole]
    rfl
  · rw [hsame]
    exact hmay
  · rw [hsame]
    exact hroom
  · exact hsound
  · show (s.deep.failed.filter _).contains _ = false
    simp
  · rw [hsame]
    rfl

end Sys2Proof.Machine
end

section
/-!
PROOF. The units of a fill: what placing a line writes, and the rest of the deep tier's statement (R290, R295, R303).
-/
namespace Sys2Proof.Machine

/-! ### What a line's placing keeps -/

/-- What a line written into DRAM keeps: how each channel stands, and how every other line is held. -/
structure Kept (l : Nat) (s t : State) : Prop where
  channels : ∀ c, (t.channel c).st = (s.channel c).st
  lines : ∀ k, k ≠ l → (t.lineMeta k).cipher = (s.lineMeta k).cipher ∧ (t.lineMeta k).key = (s.lineMeta k).key

theorem Kept.refl (l : Nat) (s : State) : Kept l s s := ⟨fun _ => rfl, fun _ _ => ⟨rfl, rfl⟩⟩

theorem Kept.trans {l : Nat} {s t u : State} (h : Kept l s t) (g : Kept l t u) : Kept l s u :=
  ⟨fun c => (g.channels c).trans (h.channels c), fun k hk => ⟨(g.lines k hk).1.trans (h.lines k hk).1, (g.lines k hk).2.trans (h.lines k hk).2⟩⟩

theorem Kept.of_eq {l : Nat} {s t : State} (hmem : t.mem.lines = s.mem.lines ∧ t.mem.unwritten = s.mem.unwritten) (hdram : t.dram = s.dram) : Kept l s t := by
  refine ⟨fun c => by rw [channel_of_dram hdram], fun k _ => ?_⟩
  unfold State.lineMeta
  rw [hmem.1, hmem.2]
  exact ⟨rfl, rfl⟩

theorem Kept.of_frame {P : List Part} {l : Nat} {s t : State} (h : Frame P s t) (hmem : P.contains .mem = false) (hdram : P.contains .dram = false) : Kept l s t :=
  .of_eq (by rw [h.mem_eq hmem]; exact ⟨rfl, rfl⟩) (h.dram_eq hdram)

theorem kept_forAll {α : Type} {l : Nat} {f : α → State → State} (h : ∀ x s, Kept l s (f x s)) (xs : List α) (s : State) : Kept l s (forAll xs f s) := by
  induction xs generalizing s with
  | nil => exact Kept.refl l s
  | cons x xs ih => exact (h x s).trans (ih (f x s))

theorem kept_setMeta_own (l : Nat) (f : LineMeta → LineMeta) (s : State) : Kept l s (setMeta l f s) :=
  ⟨fun _ => rfl, fun k hk => by rw [lineMeta_setMeta, if_neg hk]; exact ⟨rfl, rfl⟩⟩

theorem kept_setMeta {f : LineMeta → LineMeta} (h : ∀ m, (f m).cipher = m.cipher ∧ (f m).key = m.key) (l k : Nat) (s : State) : Kept l s (setMeta k f s) := by
  refine ⟨fun _ => rfl, fun j _ => ?_⟩
  rw [lineMeta_setMeta]
  split
  next hj => rw [hj]; exact h _
  · exact ⟨rfl, rfl⟩

theorem st_setChannel {ch : Nat} {f : Channel → Channel} (h : ∀ x, (f x).st = x.st) (s : State) (c : Nat) : ((setChannel ch f s).channel c).st = (s.channel c).st := by
  by_cases hc : c = ch
  · rw [hc, channel_of_setChannel ch f s, h]
  · exact congrArg Channel.st (agetD_aset_ne _ _ _ hc)

theorem panicUpdate_sets (ch : Nat) (s : State) : ∃ f : Channel → Channel, (∀ x, (f x).st = x.st) ∧ (panicUpdate ch s).dram = (setChannel ch f s).dram := by
  unfold panicUpdate
  extract_lets c next v m since ended
  exact ⟨fun c => { c with panicVc6 := v, panicMir := m, panicSince := since 1 c.panicMir m (since 0 c.panicVc6 v c.panicSince) }, fun _ => rfl, rfl⟩

theorem st_panicUpdate (ch : Nat) (s : State) (c : Nat) : ((panicUpdate ch s).channel c).st = (s.channel c).st := by
  obtain ⟨f, hf, hdram⟩ := panicUpdate_sets ch s
  rw [channel_of_dram hdram]
  exact st_setChannel hf s c

theorem kept_dramPush (l line : Nat) (write : Bool) (cls : DramClass) (cause : DramCause) (s : State) : Kept l s (dramPush line write cls cause s) := by
  refine ⟨fun c => ?_, fun k _ => ?_⟩
  · unfold dramPush
    extract_lets ch id t u v
    have hu : (u.channel c).st = (s.channel c).st := st_setChannel (f := fun c => { c with reqs := c.reqs ++ [_] }) (fun _ => rfl) t c
    have hv : (v.channel c).st = (u.channel c).st := by
      unfold v
      split
      · rfl
      · rw [channel_of_dram ((frame_wakeUnit (P := [.pkg, .power, .rings, .ctrs, .free]) (by decide) (Frame.refl _ u)).dram_eq rfl)]
    rw [st_panicUpdate, ← hu, ← hv]
    clear_value v
    split
    · exact st_setChannel (f := Channel.enter) (fun _ => rfl) v c
    · rfl
  · unfold State.lineMeta
    rw [(dramPush_frame ..).mem_eq rfl]
    exact ⟨rfl, rfl⟩

theorem kept_pantryRoom (l : Nat) (s : State) : Kept l s (pantryRoom l s) := by
  have huse : ∀ u : State, Kept l u (pantryUse l u) := fun u => .of_eq ⟨rfl, rfl⟩ rfl
  unfold pantryRoom
  split
  · exact huse s
  extract_lets set
  split
  · exact (kept_setMeta_own ..).trans (huse _)
  next w t _ _ =>
    refine ((kept_setMeta_own ..).trans (huse _) : Kept l s t).trans (kept_forAll (fun e u => ?_) _ t)
    have hmeta : Kept l u (setMeta e.1 (fun x => { x with inPantry := false, dirty := false }) u) :=
      kept_setMeta (f := fun x => { x with inPantry := false, dirty := false }) (fun _ => ⟨rfl, rfl⟩) l e.1 u
    refine hmeta.trans ?_
    unfold onlyIf
    split
    · exact kept_dramPush ..
    · exact Kept.refl ..

/-- Placing a line on a channel that serves writes its bytes, and keeps every other line and how the channels stand. -/
theorem placeLine_writes {f : Fill} {i : Nat} {s : State} (hserves : s.lineFailed (s.framePa f.cluster f.set f.way / 128 + i) = false) (poison : Bool)
    (data : List Byte) : (placeLine f i poison data s).mem.cells = cellsPut s.mem.cells ((s.framePa f.cluster f.set f.way / 128 + i) * 128) (padTo 128 data)
      ∧ Kept (s.framePa f.cluster f.set f.way / 128 + i) s (placeLine f i poison data s) := by
  unfold placeLine
  generalize agetD f.metas (i / 16) (true, []) = unit
  obtain ⟨mpoison, mbytes⟩ := unit
  dsimp only
  generalize s.framePa f.cluster f.set f.way / 128 + i = l at *
  rw [hserves, if_neg Bool.false_ne_true]
  generalize hw : (if (s.wantedKey f.granule i).isSome then pantryRoom l s else s) = w
  have hwcells : w.mem.cells = s.mem.cells := by
    rw [← hw]
    split
    · exact pantryRoom_cells l s
    · rfl
  have hwkept : Kept l s w := by
    rw [← hw]
    split
    · exact kept_pantryRoom l s
    · exact Kept.refl l s
  have hpush : (dramPush l true .normal .frame w).mem = w.mem := (dramPush_frame ..).mem_eq rfl
  have hpushed := hwkept.trans (kept_dramPush l l true .normal .frame w)
  generalize dramPush l true .normal .frame w = v at hpush hpushed ⊢
  generalize hx : setMeta l _ (putBytes (l * 128) (padTo 128 data) v) = x
  have hxcells : x.mem.cells = cellsPut s.mem.cells (l * 128) (padTo 128 data) := by
    rw [← hx, ← hwcells, ← hpush]
    rfl
  have hxkept : Kept l s x := hx ▸ hpushed.trans ((.of_eq ⟨rfl, rfl⟩ rfl : Kept l v (putBytes (l * 128) (padTo 128 data) v)).trans (kept_setMeta_own ..))
  generalize hy : mirrorLine l _ (mapGranule l x) = y
  have hyframe : Frame [.mirror, .leaves, .ctrs] x y := hy ▸ frame_mirrorLine (by decide) (frame_mapGranule (by decide) (Frame.refl _ x))
  have hycells : y.mem.cells = cellsPut s.mem.cells (l * 128) (padTo 128 data) := by rw [hyframe.mem_eq rfl, hxcells]
  have hykept := hxkept.trans (.of_frame hyframe rfl rfl)
  split
  · generalize hz : bump .sledPoisoned _ _ = z
    have hzframe : Frame [.ledger, .integ, .leaves, .sessions, .rings, .kodp, .ctrs, .out] y z :=
      hz ▸ frame_bump (by decide) (frame_poisonEvent (by decide) (frame_logError (by decide) (Frame.refl _ y)))
    exact ⟨by rw [hzframe.mem_eq rfl, hycells], hykept.trans (.of_frame hzframe rfl rfl)⟩
  · exact ⟨hycells, hykept⟩

/-! ### A line beside one that is placed -/

theorem plainBytes_kept {l k : Nat} {s t : State} (hk : k ≠ l) (hkept : Kept l s t) (hbytes : ∀ a, a / 128 ≠ l → t.readByte a = s.readByte a)
    (hkey : t.sec.key0 = s.sec.key0) (tweak : Nat) {off n : Nat} (hoff : off + n ≤ 128) : t.plainBytes k tweak off n = s.plainBytes k tweak off n := by
  have hread : ∀ o m, o + m ≤ 128 → t.readBytes (k * 128 + o) m = s.readBytes (k * 128 + o) m := fun o m ho =>
    readBytes_congr fun i hi => hbytes _ (by omega)
  have hline : t.readLine k = s.readLine k := hread 0 128 (by omega)
  obtain ⟨hcipher, hown⟩ := hkept.lines k hk
  unfold State.plainBytes State.keyValue
  dsimp only
  rw [hcipher, hown, hline, hread off n hoff, hkey]

theorem tag_kept {l cluster g way : Nat} {s t : State} (hcluster : cluster < 16) (hway : way < 16) (hhigh : 2 ^ 48 ≤ l * 128) (hkept : Kept l s t)
    (hbytes : ∀ a, a / 128 ≠ l → t.readByte a = s.readByte a) (hdeep : t.deep = s.deep) (hkey : t.sec.key0 = s.sec.key0) :
    t.tag cluster (s.frameSet g) way = s.tag cluster (s.frameSet g) way := by
  obtain ⟨hlow, -⟩ := tagLinePa_direct s hcluster g
  have hpa : t.tagLinePa cluster (s.frameSet g) = s.tagLinePa cluster (s.frameSet g) := by
    unfold State.tagLinePa State.tagBase
    rw [hdeep]
  unfold State.tag
  dsimp only
  rw [hpa, plainBytes_kept (by omega) hkept hbytes hkey _ (by omega)]

/-- Whether a line can be read does not change when another is placed. -/
theorem lineFailed_kept {l line : Nat} {s t : State} (hhigh : isDeepPa (line * 128) = true → 2 ^ 48 ≤ l * 128) (hkept : Kept l s t)
    (hbytes : ∀ a, a / 128 ≠ l → t.readByte a = s.readByte a) (hdeep : t.deep = s.deep) (hkey : t.sec.key0 = s.sec.key0) : t.lineFailed line = s.lineFailed line := by
  have hset : ∀ g, t.frameSet g = s.frameSet g := fun g => by
    unfold State.frameSet
    rw [hdeep]
  have hstore : t.storeOf line = s.storeOf line := by
    by_cases hdirect : isDeepPa (line * 128) = true
    · have hway : t.frameWay (line * 128) = s.frameWay (line * 128) := by
        unfold State.frameWay
        dsimp only
        rw [hset]
        refine List.find?_congr fun w hw => ?_
        rw [tag_kept (homeCluster_lt _) (List.mem_range.1 hw) (hhigh hdirect) hkept hbytes hdeep hkey]
      unfold State.storeOf State.framePa State.poolTop State.tagBase
      simp only [hway, hset, hdeep]
    · rw [storeOf_direct (Bool.not_eq_true _ ▸ hdirect), storeOf_direct (Bool.not_eq_true _ ▸ hdirect)]
  unfold State.lineFailed
  rw [hstore]
  split
  · rw [hkept.channels]
  · rfl

/-! ### The units of a fill -/

theorem framePa_even (s : State) (cluster set way : Nat) : s.framePa cluster set way % 65536 = 0 := by
  have htop : s.poolTop / 16 % 65536 = 0 := by
    have hdram : dramTop % 2 ^ 30 = 0 := by decide
    unfold State.poolTop State.tagBase ledgerBase
    omega
  unfold State.framePa paOfLocal
  dsimp only
  omega

theorem placeLine_frame (f : Fill) (i : Nat) (poison : Bool) (data : List Byte) (s : State) :
    Frame [.pkg, .ledger, .mem, .dram, .integ, .mirror, .leaves, .power, .sessions, .rings, .kodp, .ctrs, .out, .free] s (placeLine f i poison data s) :=
  frame_placeLine (by decide) (Frame.refl _ s)

/-- Two units of a fill, placed in their frame. -/
def placeUnits (f : Fill) (u : Nat) (p : Packet) (s : State) : State :=
  placeLine f (u + 1) p.poison ((p.body.drop 128).take 128) (placeLine f u p.poison (p.body.take 128) s)

theorem placeUnits_frame (f : Fill) (u : Nat) (p : Packet) (s : State) :
    Frame [.pkg, .ledger, .mem, .dram, .integ, .mirror, .leaves, .power, .sessions, .rings, .kodp, .ctrs, .out, .free] s (placeUnits f u p s) :=
  frame_placeLine (by decide) (placeLine_frame ..)

theorem readByte_of_cells {s t : State} {pa : Nat} {bs : List Byte} (hwf : s.MemWf) (h : t.mem.cells = cellsPut s.mem.cells pa bs) (a : Nat) :
    t.readByte a = (putBytes pa bs s).readByte a := by
  unfold State.readByte
  rw [h]
  rfl

theorem placeUnits_bytes {s : State} {f : Fill} {u l : Nat} (p : Packet) (hwf : s.MemWf) (hu : u < 512) (heven : u % 2 = 0)
    (hl : l = s.framePa f.cluster f.set f.way / 128 + u) (hfirst : s.lineFailed l = false) (hsecond : s.lineFailed (l + 1) = false) :
    (∀ a, a / 128 ≠ l → a / 128 ≠ l + 1 → (placeUnits f u p s).readByte a = s.readByte a)
      ∧ ∀ i, i < 128 → (placeUnits f u p s).readByte (l * 128 + i) = (padTo 128 (p.body.take 128)).getD i 0 := by
  have hframe := placeLine_frame f u p.poison (p.body.take 128) s
  obtain ⟨hcells, hkept⟩ := placeLine_writes (f := f) (i := u) (hl ▸ hfirst) p.poison (p.body.take 128)
  have haligned := framePa_even s f.cluster f.set f.way
  unfold placeUnits
  generalize placeLine f u p.poison (p.body.take 128) s = v at *
  rw [← hl] at hcells hkept
  have hpa : v.framePa f.cluster f.set f.way = s.framePa f.cluster f.set f.way := by
    unfold State.framePa State.poolTop State.tagBase
    rw [hframe.deep_eq rfl]
  have hlen := padTo_length 128 (p.body.take 128)
  have hbytes : ∀ a, a / 128 ≠ l → v.readByte a = s.readByte a := fun a ha =>
    (readByte_of_cells hwf hcells a).trans (readByte_putBytes_outside hwf (by omega))
  have hserves : v.lineFailed (l + 1) = false := by
    refine (lineFailed_kept (fun hdeep => ?_) hkept hbytes (hframe.deep_eq rfl) (hframe.key0_eq rfl)).trans hsecond
    have hhigh : 2 ^ 48 ≤ (l + 1) * 128 := of_decide_eq_true ((Bool.and_eq_true _ _).mp hdeep).1
    omega
  obtain ⟨hcells', -⟩ := placeLine_writes (f := f) (i := u + 1) (s := v) (by rw [hpa, ← Nat.add_assoc, ← hl]; exact hserves) p.poison ((p.body.drop 128).take 128)
  rw [hpa, ← Nat.add_assoc, ← hl] at hcells'
  have hlen' := padTo_length 128 ((p.body.drop 128).take 128)
  have hwf' : v.MemWf := hframe.mem hwf
  refine ⟨fun a ha hb => ?_, fun i hi => ?_⟩
  · rw [readByte_of_cells hwf' hcells', readByte_putBytes_outside hwf' (by omega), hbytes a ha]
  · rw [readByte_of_cells hwf' hcells', readByte_putBytes_outside hwf' (by omega), readByte_of_cells hwf hcells, readByte_putBytes hwf, if_pos (by omega),
      Nat.add_sub_cancel_left]

/-- Two units of a fill have arrived. -/
def Fill.withUnits (u : Nat) (f : Fill) : Fill := { f with arrived := f.arrived ++ [u, u + 1] }

theorem dtReadData_units {s : State} {sled u l : Nat} {p : Packet} {f : Fill} (h : TakesDeep s sled p) (hop : p.op = 0x88)
    (hf : s.deep.fills.find? (fun f => dpPort (granuleSled f.granule) == 32 + sled && f.tag == p.tag) = some f) (hof : s.fillOf f.granule = some f)
    (hdone : f.done = false) (hu : u = p.harg / 2 * 2) (hlt : u < 512) (hmeta : (aget f.metas (u / 16)).isSome = true) (hnew : f.arrived.contains u = false)
    (hwait : s.deep.waiting = []) (hown : s.part.ownWrites = []) (hwf : s.MemWf) (hl : l = s.framePa f.cluster f.set f.way / 128 + u)
    (hfirst : s.lineFailed l = false) (hsecond : s.lineFailed (l + 1) = false) : Does (.dtReadData (32 + sled) p) s (fun t => ∃ w, t = settleWaits w
        ∧ (∀ a, a / 128 ≠ l → a / 128 ≠ l + 1 → w.readByte a = s.readByte a)
        ∧ (∀ i, i < 128 → w.readByte (l * 128 + i) = (padTo 128 (p.body.take 128)).getD i 0)
        ∧ w.deep.fills = s.deep.fills.map (fun x => if x.granule = f.granule then x.withUnits u else x)) := by
  have hexec : exec (.dtReadData (32 + sled) p) s = _ := congrArg Host.Outcome.next (arriveDeep_of_takes h hop _)
  rw [hf] at hexec
  dsimp only at hexec
  have hfree : ¬((aget f.metas (u / 16)).isNone = true ∨ f.arrived.contains u = true) := by
    rw [hnew, ← Option.not_isSome, hmeta]
    decide
  rw [← hu, if_neg (by omega), if_neg (by omega), if_neg hfree] at hexec
  obtain ⟨hothers, hbytes⟩ := placeUnits_bytes p hwf hlt (by omega) hl hfirst hsecond
  have hframe := placeUnits_frame f u p s
  change exec _ s = .next (settleWaits (completeFill f.granule (wakeGranule f.granule (setFill f.granule (Fill.withUnits u) (placeUnits f u p s))))) at hexec
  generalize placeUnits f u p s = v at *
  generalize hw : setFill f.granule (Fill.withUnits u) v = w at hexec
  have hdeep : v.deep = s.deep := hframe.deep_eq rfl
  have hawake : wakeGranule f.granule w = w := by
    have hnone : w.deep.waiting = [] := by
      rw [← hw]
      show v.deep.waiting = []
      rw [hdeep, hwait]
    have hown' : w.part.ownWrites = [] := by
      rw [← hw]
      show v.part.ownWrites = []
      rw [hframe.part_eq rfl, hown]
    unfold wakeGranule runOwn
    rw [hnone, hown']
    rfl
  have hpart : completeFill f.granule w = w :=
    completeFill_undone (f := f.withUnits u) (hw ▸ fillOf_setFill (fun _ => rfl) (by unfold State.fillOf; rw [hdeep]; exact hof)) hdone
  rw [hawake, hpart] at hexec
  refine ⟨_, hexec, w, rfl, fun a ha hb => ?_, fun i hi => ?_, ?_⟩
  · rw [← hw]
    exact hothers a ha hb
  · rw [← hw]
    exact hbytes i hi
  · rw [← hw, ← hdeep]
    rfl

/-- Settles O12: sled answers give information, units and claims; aged frames are written back; waiting misses go on or end; bulk commands begin. -/
theorem deepTier : Obligations.DeepTier := by
  unfold Obligations.DeepTier
  intro s sled p hsled
  refine ⟨?_, ?_, ?_, ?_, ?_, ?_, ?_, ?_, ?_, ?_, ?_, ?_⟩
  · intro q hup hdest hcrc hform hop hq
    exact dtInfoData_does ⟨hsled, hup, hdest, hcrc, hform⟩ hop hq
  · intro f u hup hdest hcrc hform hop hf hof hdone hu hlo hhi
    exact dtReadData_meta ⟨hsled, hup, hdest, hcrc, hform⟩ hop hf hof hdone hu hlo hhi
  · intro f u l hup hdest hcrc hform hop hf hof hdone hu hlt hmeta hnew hwait hown hwf hl hfirst hsecond
    exact dtReadData_units ⟨hsled, hup, hdest, hcrc, hform⟩ hop hf hof hdone hu hlt hmeta hnew hwait hown hwf hl hfirst hsecond
  · intro q hup hdest hcrc hform hop hq hclaim hok hbasis
    exact dtCmp_claims ⟨hsled, hup, hdest, hcrc, hform⟩ hop hq hclaim hok hbasis
  · intro f cluster set way hrun hf hdone hmissing hfirst
    exact deepMissingUnits_again hrun hf hdone hmissing hfirst
  · intro cluster set way tag hrun htag hvalid hdirty hidle hwhole hmay hsound hroom hready hqueue
    exact dirtyAgeExpiry_writes hrun htag hvalid hdirty hidle hwhole hmay hsound hroom hready hqueue
  · intro cluster g src tag q hrun hwait hq
    exact deepWaitResume_one hrun hwait hq
  · intro hrun hdown hknown hwait
    exact sledWaitTimeout_does hsled hrun hdown hknown hwait
  · intro r pa length c which hmem hbad howner hfree hacc
    simp only [List.mem_cons, Prod.mk.injEq, List.not_mem_nil, or_false] at hmem
    obtain ⟨rfl, rfl⟩ | ⟨rfl, rfl⟩ | ⟨rfl, rfl⟩ := hmem
    · exact startBulk_begins (which := 1) rfl hbad howner hfree hacc
    · exact startBulk_begins (which := 3) rfl hbad howner hfree hacc
    · exact startBulk_begins (which := 5) rfl hbad howner hfree hacc
  · intro r hpresent hunits howner hfree hacc
    exact deepFlush_begins hsled hpresent hunits howner hfree hacc
  · intro r pa way hbad howner hwf hway hserves
    exact deepUnpin_replies r (Nat.div_self (by decide)) hbad howner hwf hway hserves
  · intro r hpresent hsolo
    exact sledClaimForce_replies r hsled hpresent hsolo

end Sys2Proof.Machine
end

section
/-!
PROOF. What goes on once a line is repaired, and the waits it settles, sends no repair request and ends none (R477).
-/
namespace Sys2Proof.Machine

/-- The repair requests that stand with the peer. -/
def State.repairsAsked (s : State) : List PoolReq := s.txn.pool.filter (fun q => q.issuer == .repair)

/-- The same repair requests stand. -/
def Stands (s0 s : State) : Prop := s.repairsAsked = s0.repairsAsked

/-- Every part of the state but the requests. -/
def elsewhere : List Part :=
  [.pkg, .ledger, .part, .dir, .mem, .dram, .deep, .integ, .recp, .twin, .mirror, .traffic, .leaves, .power, .sec, .sessions, .obs, .rings,
    .kodp, .running, .ctrs, .out, .free]

variable {s0 s : State}

theorem Stands.frame {t : State} (h : Stands s0 s) (hf : Frame elsewhere s t) : Stands s0 t :=
  (congrArg (fun x : TxnState => x.pool.filter (fun q => q.issuer == .repair)) (hf.txn_rest rfl) :).trans h

theorem stands_onTxn {f : TxnState → TxnState} (hf : ∀ x, (f x).pool.filter (fun q => q.issuer == .repair) = x.pool.filter (fun q => q.issuer == .repair))
    (h : Stands s0 s) : Stands s0 (s.onTxn f) := (hf _).trans h

theorem stands_onlyIf {c : Bool} {f : State → State} (hf : ∀ t, Stands s0 t → Stands s0 (f t)) (h : Stands s0 s) : Stands s0 (onlyIf c f s) := by
  unfold onlyIf
  split
  · exact hf s h
  · exact h

theorem stands_forAll {α : Type} {l : List α} {f : α → State → State} (hf : ∀ a t, Stands s0 t → Stands s0 (f a t)) (h : Stands s0 s) :
    Stands s0 (forAll l f s) := by
  induction l generalizing s with
  | nil => exact h
  | cons a l ih => exact ih (hf a s h)

theorem stands_foldlP {α β : Type} {l : List α} {f : State × β → α → State × β} {x : State × β} (hf : ∀ a y, Stands s0 y.1 → Stands s0 (f y a).1)
    (h : Stands s0 x.1) : Stands s0 (l.foldl f x).1 := by
  induction l generalizing x with
  | nil => exact h
  | cons a l ih => exact ih (hf a x h)

theorem stands_of_fst {α : Type} {p : State × α} {b : α} (e : p = (s, b)) (h : Stands s0 p.1) : Stands s0 s := by
  rw [e] at h
  exact h

theorem stands_ite {α : Type} {x y : State × α} {c : Prop} [Decidable c] (hx : Stands s0 x.1) (hy : Stands s0 y.1) : Stands s0 (if c then x else y).1 := by
  split
  · exact hx
  · exact hy

theorem stands_mk {α : Type} {b : α} (h : Stands s0 s) : Stands s0 (s, b).1 := h

theorem stands_of_mk {α : Type} {b : α} (h : Stands s0 (s, b).1) : Stands s0 s := h

theorem stands_sendPool {issuer : Issuer} {key : Nat} {port : Option Nat} {tag : Nat} {p : Packet} (hi : issuer ≠ .repair) (h : Stands s0 s) :
    Stands s0 (sendPool issuer key port tag p s) := by
  unfold sendPool
  extract_lets u
  have hu : Stands s0 u := by
    unfold u
    split
    · exact h.frame (frame_sendOnPort (by decide) (.refl _ _))
    · exact h.frame (frame_sendPacket (by decide) (.refl _ _))
  refine (stands_onTxn (fun x => ?_) hu).frame (frame_tookTag (by decide) (.refl _ _))
  rw [List.filter_append, List.filter_cons_of_neg (by simpa using hi), List.filter_nil, List.append_nil]

theorem stands_issuePool {issuer : Issuer} {key : Nat} {port : Option Nat} {p : Packet} (hi : issuer ≠ .repair) (h : Stands s0 s) :
    Stands s0 (issuePool issuer key port p s) := by
  unfold issuePool
  split
  · exact stands_sendPool hi h
  · exact stands_onTxn (fun _ => rfl) h

theorem stands_sendSnoop {down : Bool} {line slot : Nat} (h : Stands s0 s) : Stands s0 (sendSnoop down line slot s) := by
  unfold sendSnoop
  split
  · extract_lets +onlyGivenNames x0
    clear_value x0
    exact Stands.frame (stands_issuePool (by decide) ‹_›) (frame_bump (by decide) (.refl _ _))
  · assumption

theorem stands_startRecall {line : Nat} {down : Bool} {targets : List Nat} {kind : Nat} {keep : List Nat} {cause : RecallCause} (h : Stands s0 s) :
    Stands s0 (startRecall line down targets kind keep cause s) := by
  unfold startRecall
  split
  · assumption
  · extract_lets +onlyGivenNames u
    have hu : Stands s0 u := Stands.frame ‹_› (frame_putEntry (by decide) (.refl _ _))
    clear_value u
    extract_lets +onlyGivenNames v
    have hv : Stands s0 v := Stands.frame ‹_› (frame_onDir (by decide) (.refl _ _))
    clear_value v
    extract_lets +onlyGivenNames w
    have hw : Stands s0 w := by
      unfold w
      refine stands_forAll ?_ ?_
      · intro x3 x4 h5
        extract_lets +onlyGivenNames x6
        clear_value x6
        split
        · exact Stands.frame ‹_› (frame_applyLoss (by decide) (.refl _ _))
        · split
          · exact Stands.frame ‹_› (frame_takeEviction (by decide) (.refl _ _))
          · extract_lets +onlyGivenNames x7 x8 y
            clear_value x7 x8
            have hy : Stands s0 y := Stands.frame ‹_› (frame_onDir (by decide) (.refl _ _))
            clear_value y
            split
            · assumption
            · exact stands_sendSnoop ‹_›
      · assumption
    clear_value w
    split
    · split
      · exact Stands.frame ‹_› (frame_closeRecall (by decide) (.refl _ _))
      · assumption
    · assumption

theorem stands_recallRegion {reg kind : Nat} (h : Stands s0 s) : Stands s0 (recallRegion reg kind s) := by
  unfold recallRegion
  refine stands_forAll ?_ ?_
  · intro x0 x1 h2
    split
    · split
      · assumption
      · exact stands_startRecall ‹_›
    · assumption
  · exact Stands.frame ‹_› (frame_bump (by decide) (.refl _ _))

theorem stands_recallAll {line kind : Nat} (h : Stands s0 s) : Stands s0 (recallAll line kind s) := by
  unfold recallAll
  split
  · split
    · assumption
    · exact stands_startRecall ‹_›
  · assumption

theorem stands_sendDt {sled vc : Nat} {op harg key : Nat} {body : List Byte} (h : Stands s0 s) : Stands s0 (sendDt sled vc op harg key body s) := by
  unfold sendDt
  extract_lets +onlyGivenNames x0 x1
  clear_value x0 x1
  exact stands_sendPool (by decide) ‹_›

theorem stands_sendWriteback {w : Writeback} (h : Stands s0 s) : Stands s0 (sendWriteback w s) := by
  unfold sendWriteback
  extract_lets +onlyGivenNames x0 x1 x2 u
  clear_value x0 x1 x2
  have hu : Stands s0 u := Stands.frame ‹_› (frame_onDeep (by decide) (.refl _ _))
  clear_value u
  extract_lets +onlyGivenNames v
  have hv : Stands s0 v := stands_sendPool (by decide) ‹_›
  clear_value v
  extract_lets +onlyGivenNames x5
  clear_value x5
  refine stands_forAll ?_ ?_
  · intro x6 x7 h8
    extract_lets +onlyGivenNames x9 x10
    clear_value x9 x10
    exact Stands.frame ‹_› (frame_sendOnPort (by decide) (.refl _ _))
  · assumption

theorem stands_readForWriteback {g : Nat} {skips : Nat → Bool} (h : Stands s0 s) : Stands s0 (readForWriteback g skips s) := by
  unfold readForWriteback
  split
  · assumption
  · extract_lets +onlyGivenNames x0 u
    clear_value x0
    have hu : Stands s0 u := Stands.frame ‹_› (frame_onDeep (by decide) (.refl _ _))
    clear_value u
    split
    · exact stands_sendWriteback ‹_›
    · assumption

theorem stands_startWriteback {cluster set way : Nat} (h : Stands s0 s) : Stands s0 (startWriteback cluster set way s) := by
  unfold startWriteback
  split
  · exact Stands.frame ‹_› (frame_fetchTag (by decide) (.refl _ _))
  · extract_lets +onlyGivenNames x0 x1 x2 x3
    clear_value x0 x1 x2 x3
    split
    · assumption
    · extract_lets +onlyGivenNames u
      have hu : Stands s0 u := Stands.frame ‹_› (frame_cleanGranule (by decide) (frame_setTag (by decide) (.refl _ _)))
      clear_value u
      extract_lets +onlyGivenNames x5 x6 x7 v
      clear_value x5 x6 x7
      have hv : Stands s0 v := Stands.frame ‹_› (frame_bump (by decide) (frame_bumpBy (by decide) (frame_onDeep (by decide) (.refl _ _))))
      clear_value v
      split
      · exact stands_sendWriteback ‹_›
      · exact stands_forAll (fun _ _ h11 => Stands.frame h11 (frame_dramPush (by decide) (.refl _ _))) ‹_›

theorem stands_runQueue (h : Stands s0 s) : Stands s0 (runQueue s) := by
  unfold runQueue
  refine stands_forAll ?_ ?_
  · intro x0 x1 h2
    extract_lets +onlyGivenNames u
    have hu : Stands s0 u := stands_startWriteback ‹_›
    clear_value u
    extract_lets +onlyGivenNames x4
    clear_value x4
    split
    · exact Stands.frame ‹_› (frame_onDeep (by decide) (.refl _ _))
    · assumption
  · assumption

theorem stands_recallGranule {g : Nat} (h : Stands s0 s) : Stands s0 (recallGranule g s).1 := by
  unfold recallGranule
  extract_lets +onlyGivenNames x0 u
  clear_value x0
  have hu : Stands s0 u := stands_forAll (fun _ _ h4 => stands_recallAll h4) ‹_›
  clear_value u
  assumption

theorem stands_takeWay {cluster set w : Nat} (h : Stands s0 s) : Stands s0 (takeWay cluster set w s).1 := by
  unfold takeWay
  extract_lets +onlyGivenNames x0
  clear_value x0
  split
  split
  · exact Stands.frame (stands_of_fst ‹_› (stands_recallGranule ‹_›)) (frame_bump (by decide) (frame_cleanGranule (by decide)
      (frame_onDeep (by decide) (.refl _ _))))
  · show Stands s0 (State.onDeep _ _)
    exact Stands.frame (stands_of_fst ‹_› (stands_recallGranule ‹_›)) (frame_onDeep (by decide) (.refl _ _))

theorem stands_handSteps {cluster set a0 : Nat} (h : Stands s0 s) : Stands s0 (handSteps cluster set a0 s).1 := by
  induction a0 generalizing s with
  | zero =>
    rw [handSteps]
    assumption
  | succ a0 ih =>
    rw [handSteps]
    split
    · exact stands_takeWay (Stands.frame ‹_› (frame_onDeep (by decide) (.refl _ _)))
    · refine ih ?_
      split
      · exact Stands.frame ‹_› (frame_onDeep (by decide) (.refl _ _))
      · split
        · exact Stands.frame ‹_› (frame_setTag (by decide) (frame_onDeep (by decide) (.refl _ _)))
        · exact stands_startWriteback (Stands.frame ‹_› (frame_queueWriteback (by decide) (frame_onDeep (by decide) (.refl _ _))))

theorem stands_chooseFrame {cluster set : Nat} (h : Stands s0 s) : Stands s0 (chooseFrame cluster set s).1 := by
  unfold chooseFrame
  split
  · assumption
  · split
    · exact stands_takeWay ‹_›
    · exact stands_handSteps (Stands.frame ‹_› (frame_onDeep (by decide) (.refl _ _)))
  · exact stands_handSteps ‹_›

theorem stands_startFill {g set : Nat} {way first tier : Nat} {pin : Bool} (h : Stands s0 s) : Stands s0 (startFill g set way first tier pin s) := by
  unfold startFill
  extract_lets +onlyGivenNames x0 x1 x2 u
  clear_value x0 x1 x2
  have hu : Stands s0 u := Stands.frame ‹_› (frame_setTag (by decide) (.refl _ _))
  clear_value u
  extract_lets +onlyGivenNames x4 x5 v
  clear_value x4 x5
  have hv : Stands s0 v := stands_sendDt ‹_›
  clear_value v
  exact Stands.frame ‹_› (frame_onDeep (by decide) (.refl _ _))

theorem stands_missGranule {g first tier : Nat} {pin : Bool} (h : Stands s0 s) : Stands s0 (missGranule g first tier pin s) := by
  unfold missGranule
  extract_lets +onlyGivenNames x0 x1
  clear_value x0 x1
  split
  · exact Stands.frame ‹_› (frame_fetchTag (by decide) (.refl _ _))
  · extract_lets +onlyGivenNames u
    have hu : Stands s0 u := Stands.frame ‹_› (frame_bump (by decide) (.refl _ _))
    clear_value u
    split
    · assumption
    · split
      · exact stands_startFill (stands_of_fst ‹_› (stands_chooseFrame ‹_›))
      · exact stands_of_fst ‹_› (stands_chooseFrame ‹_›)

theorem stands_deepAccess {line : Nat} {write : Bool} {tier waiting : Nat} (h : Stands s0 s) : Stands s0 (deepAccess line write tier waiting s).1 := by
  unfold deepAccess
  extract_lets +onlyGivenNames x0 x1 x2 x3
  clear_value x0 x1 x2 x3
  split
  · exact Stands.frame ‹_› (frame_quarantine (by decide) (.refl _ _))
  · split
    · split
      · exact Stands.frame ‹_› (frame_bump (by decide) (.refl _ _))
      · exact Stands.frame ‹_› (frame_bump (by decide) (frame_fetchTag (by decide) (.refl _ _)))
    · split
      · split
        · extract_lets +onlyGivenNames u
          have hu : Stands s0 u := Stands.frame ‹_› (frame_touchFrame (by decide) (.refl _ _))
          clear_value u
          split
          · split
            · assumption
            · split
              · exact Stands.frame ‹_› (frame_bump (by decide) (.refl _ _))
              · assumption
          · assumption
        · exact Stands.frame ‹_› (frame_bump (by decide) (frame_touchFrame (by decide) (.refl _ _)))
      · split
        · exact Stands.frame ‹_› (frame_bump (by decide) (.refl _ _))
        · exact Stands.frame (stands_missGranule ‹_›) (frame_bump (by decide) (.refl _ _))

theorem stands_orderAccess {b : AccBy} {line : Nat} {write fetch : Bool} (h : Stands s0 s) : Stands s0 (orderAccess b line write fetch s).1 := by
  unfold orderAccess
  extract_lets +onlyGivenNames x0
  have h0 : ∀ {y0}, Stands s0 y0 → Stands s0 (x0 y0).1 := by
    intro x1 h2
    unfold x0
    split
    · refine stands_mk ?_
      refine Stands.frame ?_ (frame_endLineAccess (by decide) (.refl _ _))
      refine stands_of_fst ‹_› ?_
      split
      · exact Stands.frame ‹_› (frame_fetchLine (by decide) (.refl _ _))
      · assumption
    · split
      · exact Stands.frame ‹_› (frame_fetchLine (by decide) (.refl _ _))
      · assumption
  clear_value x0
  extract_lets +onlyGivenNames x3
  clear_value x3
  split
  · assumption
  · split
    · exact Stands.frame ‹_› (frame_holdAtCrossbar (by decide) (.refl _ _))
    · extract_lets +onlyGivenNames u
      have hu : Stands s0 u := Stands.frame ‹_› (frame_leaveCrossbar (by decide) (.refl _ _))
      clear_value u
      split
      · exact Stands.frame ‹_› (frame_parkAccess (by decide) (.refl _ _))
      · split
        · extract_lets +onlyGivenNames v
          have hv : Stands s0 v := stands_startRecall (Stands.frame ‹_› (frame_keepAccess (by decide) (.refl _ _)))
          clear_value v
          split
          · assumption
          · exact h0 ‹_›
        · exact h0 ‹_›

theorem stands_residentFirst {b : AccBy} {line tier : Nat} {write fetch : Bool} (h : Stands s0 s) : Stands s0 (residentFirst b line tier write fetch s).1 := by
  unfold residentFirst
  extract_lets +onlyGivenNames x0
  clear_value x0
  split
  · exact stands_orderAccess (Stands.frame (stands_of_fst ‹_› (stands_deepAccess ‹_›)) (frame_unseek (by decide) (.refl _ _)))
  · exact Stands.frame (stands_of_fst ‹_› (stands_deepAccess ‹_›)) (frame_seek (by decide) (.refl _ _))
  · exact Stands.frame (stands_of_fst ‹_› (stands_deepAccess ‹_›)) (frame_unseek (by decide) (.refl _ _))
  · exact Stands.frame (stands_of_fst ‹_› (stands_deepAccess ‹_›)) (frame_unseek (by decide) (.refl _ _))

theorem stands_readyLine {b : AccBy} {line tier : Nat} {write fetch : Bool} (h : Stands s0 s) : Stands s0 (readyLine b line tier write fetch s).1 := by
  unfold readyLine
  split
  · extract_lets +onlyGivenNames x0
    clear_value x0
    split
    · exact Stands.frame ‹_› (frame_unseek (by decide) (.refl _ _))
    · exact stands_residentFirst ‹_›
  · exact stands_orderAccess ‹_›

theorem stands_flushOwn {a0 : Nat} (h : Stands s0 s) : Stands s0 (flushOwn a0 s) := by
  induction a0 generalizing s with
  | zero =>
    rw [flushOwn]
    exact h
  | succ a0 ih =>
    rw [flushOwn]
    split
    · exact h
    · extract_lets +onlyGivenNames x0
      have h0 : ∀ {y0}, Stands s0 y0 → Stands s0 (x0 y0) := by
        intro x1 h2
        unfold x0
        exact Stands.frame ‹_› (frame_onPart (by decide) (.refl _ _))
      clear_value x0
      split
      · exact ih (h0 h)
      · split
        · exact ih (Stands.frame (h0 (Stands.frame (stands_of_fst ‹_› (stands_readyLine ‹_›)) (frame_useReturned (by decide) (.refl _ _))))
            (frame_writeOwn (by decide) (frame_dropEntry (by decide) (.refl _ _))))
        · exact stands_of_fst ‹_› (stands_readyLine ‹_›)
        · exact stands_of_fst ‹_› (stands_readyLine ‹_›)
        · exact ih (h0 (stands_of_fst ‹_› (stands_readyLine ‹_›)))

theorem stands_runOwn (h : Stands s0 s) : Stands s0 (runOwn s) := by
  unfold runOwn
  split
  · assumption
  · exact stands_flushOwn ‹_›

theorem stands_xlate {die ctx addr : Nat} {need : List Nat} {write : Bool} (h : Stands s0 s) : Stands s0 (xlate die ctx addr need write s).1 := by
  unfold xlate
  split
  · refine stands_mk ?_
    split
    · exact stands_of_fst ‹_› (Stands.frame ‹_› (frame_translate (by decide) (.refl _ _)))
    · exact stands_missGranule (stands_of_fst ‹_› (Stands.frame ‹_› (frame_translate (by decide) (.refl _ _))))
  · exact Stands.frame ‹_› (frame_translate (by decide) (.refl _ _))

theorem stands_recordFault {by_ : FaultBy} {ctx addr : Nat} {x : XFault} (h : Stands s0 s) : Stands s0 (recordFault by_ ctx addr x s).1 := by
  unfold recordFault
  refine stands_ite ?_ ?_
  · exact stands_mk (stands_onlyIf (fun _ h1 => Stands.frame h1 (frame_bump (by decide) (.refl _ _))) ‹_›)
  · extract_lets +onlyGivenNames x2 x3
    refine stands_ite ?_ ?_
    · exact stands_mk (Stands.frame ‹_› (frame_bump (by decide) (.refl _ _)))
    · extract_lets +onlyGivenNames x4 x5
      refine stands_ite ?_ ?_
      · extract_lets +onlyGivenNames x6 u
        clear_value x6
        have hu : Stands s0 u := Stands.frame ‹_› (frame_bump (by decide) (frame_onPart (by decide) (.refl _ _)))
        clear_value u
        exact stands_mk (stands_onlyIf (fun _ h9 => Stands.frame h9 (frame_notify (by decide) (.refl _ _))) ‹_›)
      · extract_lets +onlyGivenNames v
        have hv : Stands s0 v := Stands.frame ‹_› (frame_bump (by decide) (.refl _ _))
        clear_value v
        extract_lets +onlyGivenNames x11 w
        clear_value x11
        have hw : Stands s0 w := stands_runOwn (Stands.frame ‹_› (frame_onPart (by decide) (.refl _ _)))
        clear_value w
        exact stands_mk (stands_onlyIf (fun _ h14 => Stands.frame h14 (frame_notifyLimited (by decide) (.refl _ _))) ‹_›)

theorem stands_setRequest {src tag : Nat} {f : Request → Request} (h : Stands s0 s) : Stands s0 (setRequest src tag f s) := by
  unfold setRequest
  exact stands_onTxn (fun _ => rfl) ‹_›

theorem stands_dropRequest {src tag : Nat} (h : Stands s0 s) : Stands s0 (dropRequest src tag s) := by
  unfold dropRequest
  extract_lets +onlyGivenNames u
  have hu : Stands s0 u := stands_onTxn (fun _ => rfl) ‹_›
  clear_value u
  exact Stands.frame ‹_› (frame_onDir (by decide) (.refl _ _))

theorem stands_stashHint {q : Request} (h : Stands s0 s) : Stands s0 (stashHint q s) := by
  unfold stashHint
  extract_lets +onlyGivenNames x0 x1
  clear_value x0
  have h1 : ∀ {y0}, Stands s0 y0 → Stands s0 (x1 y0) := by
    intro x2 h3
    unfold x1
    exact Stands.frame ‹_› (frame_bump (by decide) (.refl _ _))
  clear_value x1
  extract_lets +onlyGivenNames x4 x5
  clear_value x4 x5
  split
  · assumption
  · extract_lets +onlyGivenNames x6
    clear_value x6
    split
    split
    · exact h1 ‹_›
    · extract_lets +onlyGivenNames x7 x8
      clear_value x7 x8
      split
      · exact h1 ‹_›
      · extract_lets +onlyGivenNames x9 x10 x11
        clear_value x9 x10 x11
        exact Stands.frame (stands_issuePool (by decide) (Stands.frame ‹_› (frame_grantEntry (by decide) (.refl _ _)))) (frame_bump (by decide) (.refl _ _))

theorem stands_releaseAnswer {q : Request} {pk : Packet} (h : Stands s0 s) : Stands s0 (releaseAnswer q pk s) := by
  unfold releaseAnswer
  extract_lets +onlyGivenNames u
  have hu : Stands s0 u := stands_dropRequest (Stands.frame ‹_› (frame_sendFinal (by decide) (.refl _ _)))
  clear_value u
  split
  · split
    · exact stands_stashHint ‹_›
    · exact Stands.frame ‹_› (frame_bump (by decide) (.refl _ _))
  · assumption

theorem stands_finish {q : Request} {st : Status} {harg result : Nat} {pk : Packet} {hold : Bool} (h : Stands s0 s) :
    Stands s0 (finish q st harg result pk hold s) := by
  unfold finish
  extract_lets +onlyGivenNames u
  have hu : Stands s0 u := by
    unfold u
    split
    · exact Stands.frame ‹_› (frame_ledgerWrite (by decide) (.refl _ _))
    · assumption
  clear_value u
  extract_lets +onlyGivenNames v
  have hv : Stands s0 v := stands_onlyIf (fun _ h3 => Stands.frame h3 (frame_bump (by decide) (.refl _ _))) ‹_›
  clear_value v
  extract_lets +onlyGivenNames w
  have hw : Stands s0 w := stands_onlyIf (fun _ h6 => Stands.frame h6 (frame_bump (by decide) (.refl _ _))) ‹_›
  clear_value w
  split
  · exact stands_setRequest ‹_›
  · exact stands_releaseAnswer ‹_›

theorem stands_finishStatus {q : Request} {st : Status} {harg : Nat} {hold : Bool} (h : Stands s0 s) : Stands s0 (finishStatus q st harg hold s) := by
  unfold finishStatus
  exact stands_finish ‹_›

theorem stands_finishRead {q : Request} {poison : Bool} {data : List Byte} {granted : Nat} (h : Stands s0 s) : Stands s0 (finishRead q poison data granted s) := by
  unfold finishRead
  extract_lets +onlyGivenNames x0 x1 x2
  clear_value x0 x1 x2
  exact stands_finish ‹_›

theorem stands_finishAtomic {q : Request} {st : Status} {old : Nat} {hold : Bool} (h : Stands s0 s) : Stands s0 (finishAtomic q st old hold s) := by
  unfold finishAtomic
  exact stands_finish ‹_›

theorem stands_releaseHalf {p : Packet} {policed : Bool} (h : Stands s0 s) : Stands s0 (releaseHalf p policed s) := by
  unfold releaseHalf
  split
  · assumption
  · split
    · exact stands_onlyIf (fun _ h1 => Stands.frame h1 (frame_bump (by decide) (.refl _ _))) (stands_onTxn (fun _ => rfl) ‹_›)
    · exact stands_onTxn (fun _ => rfl) ‹_›

theorem stands_answerEarly {p : Packet} {st : Status} (h : Stands s0 s) : Stands s0 (answerEarly p st s) := by
  unfold answerEarly
  exact stands_releaseHalf (Stands.frame ‹_› (frame_answerNow (by decide) (.refl _ _)))

theorem stands_serve {q : Request} (h : Stands s0 s) : Stands s0 (serve q s) := by
  unfold serve
  extract_lets +onlyGivenNames x0 x1 u
  clear_value x0 x1
  have hu : Stands s0 u := stands_setRequest ‹_›
  clear_value u
  extract_lets +onlyGivenNames x3
  clear_value x3
  split
  · split
    extract_lets +onlyGivenNames v
    have hv : Stands s0 v := Stands.frame ‹_› (frame_countMismatch (by decide) (.refl _ _))
    clear_value v
    split
    · exact stands_finishRead ‹_›
    · split
      · extract_lets +onlyGivenNames x5
        clear_value x5
        exact stands_finishRead (Stands.frame ‹_› (frame_grantEntry (by decide) (.refl _ _)))
      · exact stands_finishRead (Stands.frame ‹_› (frame_grantEntry (by decide) (.refl _ _)))
  · split
    extract_lets +onlyGivenNames w
    have hw : Stands s0 w := Stands.frame ‹_› (frame_countMismatch (by decide) (.refl _ _))
    clear_value w
    split
    · exact stands_finishRead ‹_›
    · exact stands_finishRead (Stands.frame ‹_› (frame_grantEntry (by decide) (frame_dropEntry (by decide) (.refl _ _))))
  · split
    · assumption
    · split
      · exact stands_finishStatus (stands_onlyIf (fun _ h8 => Stands.frame h8 (frame_poisonListed (by decide) (.refl _ _))) ‹_›)
      · exact stands_finishStatus (Stands.frame ‹_› (frame_writeLine (by decide) (.refl _ _)))
  · split
    · assumption
    · split
      · exact stands_finishStatus (stands_onlyIf (fun _ h10 => Stands.frame h10 (frame_poisonListed (by decide) (.refl _ _))) ‹_›)
      · extract_lets +onlyGivenNames x11 x12 x13 y
        clear_value x11 x12 x13
        have hy : Stands s0 y := Stands.frame ‹_› (frame_countMismatch (by decide) (.refl _ _))
        clear_value y
        exact stands_finishStatus (Stands.frame ‹_› (frame_mergeLine (by decide) (.refl _ _)))
  · split
    · assumption
    · split
      · exact stands_finishStatus (stands_onlyIf (fun _ h16 => Stands.frame h16 (frame_poisonListed (by decide) (.refl _ _))) ‹_›)
      · exact stands_finishStatus (Stands.frame ‹_› (frame_dropEntry (by decide) (frame_writeLine (by decide) (.refl _ _))))
  · split
    · exact stands_finishStatus ‹_›
    · split
      · exact stands_finishStatus (Stands.frame ‹_› (frame_putEntry (by decide) (.refl _ _)))
      · exact stands_finishStatus ‹_›
  · split
    · assumption
    · extract_lets +onlyGivenNames x17 z
      clear_value x17
      have hz : Stands s0 z := Stands.frame ‹_› (frame_countMismatch (by decide) (.refl _ _))
      clear_value z
      split
      · exact stands_finishAtomic ‹_›
      · extract_lets +onlyGivenNames x19 x20 x21 x22 x23
        clear_value x19 x20 x21 x22 x23
        split
        · exact stands_finishAtomic ‹_›
        · extract_lets +onlyGivenNames x24
          clear_value x24
          exact stands_finishAtomic (Stands.frame ‹_› (frame_mergeLine (by decide) (.refl _ _)))
  · split
    exact stands_finishRead (Stands.frame ‹_› (frame_countMismatch (by decide) (.refl _ _)))
  · split
    exact stands_finishRead (Stands.frame ‹_› (frame_countMismatch (by decide) (.refl _ _)))
  · exact stands_finishStatus (Stands.frame ‹_› (frame_bump (by decide) (.refl _ _)))

theorem stands_serveOrRead {q : Request} (h : Stands s0 s) : Stands s0 (serveOrRead q s) := by
  unfold serveOrRead
  split
  · assumption
  · extract_lets +onlyGivenNames x0 x1
    clear_value x0 x1
    split
    · exact stands_finishStatus ‹_›
    · split
      · exact stands_finishStatus ‹_›
      · split
        · extract_lets +onlyGivenNames x2 u
          clear_value x2
          have hu : Stands s0 u := stands_onlyIf (fun _ h5 => Stands.frame h5 (frame_setPunit (by decide) (.refl _ _))) ‹_›
          clear_value u
          exact Stands.frame (stands_setRequest ‹_›) (frame_dramPush (by decide) (.refl _ _))
        · split
          · exact stands_finishStatus (stands_onlyIf (fun _ h7 => Stands.frame h7 (frame_poisonListed (by decide) (.refl _ _))) ‹_›)
          · exact stands_serve (stands_onlyIf (fun _ h9 => Stands.frame h9 (frame_pantryUse (by decide) (frame_setMeta (by decide) (.refl _ _)))) ‹_›)

theorem stands_park {q : Request} {lost : Bool} (h : Stands s0 s) : Stands s0 (park q lost s) := by
  unfold park
  extract_lets +onlyGivenNames x0 x1 u
  clear_value x0 x1
  have hu : Stands s0 u := stands_setRequest ‹_›
  clear_value u
  extract_lets +onlyGivenNames v
  have hv : Stands s0 v := stands_onlyIf (fun _ h5 => Stands.frame h5 (frame_bump (by decide) (.refl _ _))) (stands_onlyIf (fun _ h7 => Stands.frame h7
      (frame_bump (by decide) (.refl _ _))) ‹_›)
  clear_value v
  exact Stands.frame ‹_› (frame_enterAged (by decide) (.refl _ _))

theorem stands_orderEviction {q : Request} (h : Stands s0 s) : Stands s0 (orderEviction q s) := by
  unfold orderEviction
  extract_lets +onlyGivenNames x0 x1 x2 u
  clear_value x0 x1 x2
  have hu : Stands s0 u := Stands.frame ‹_› (frame_onDir (by decide) (.refl _ _))
  clear_value u
  split
  · exact stands_finishStatus ‹_›
  · split
    · exact stands_finishStatus (Stands.frame ‹_› (frame_bump (by decide) (.refl _ _)))
    · split
      · split
        · exact stands_finishStatus (stands_onlyIf (fun _ h5 => Stands.frame h5 (frame_bump (by decide) (.refl _ _))) ‹_›)
        · exact Stands.frame (stands_finishStatus ‹_›) (frame_bump (by decide) (.refl _ _))
      · split
        · exact stands_finishStatus (Stands.frame ‹_› (frame_bump (by decide) (.refl _ _)))
        · split
          · split
            · split
              · exact Stands.frame (stands_finishStatus ‹_›) (frame_bump (by decide) (.refl _ _))
              · exact stands_serve ‹_›
            · exact Stands.frame (stands_finishStatus ‹_›) (frame_bump (by decide) (.refl _ _))
          · refine stands_finishStatus ?_
            split
            · exact Stands.frame ‹_› (frame_putEntry (by decide) (.refl _ _))
            · exact Stands.frame ‹_› (frame_putOrDrop (by decide) (.refl _ _))

theorem stands_serveInRoom {q : Request} (h : Stands s0 s) : Stands s0 (serveInRoom q s) := by
  unfold serveInRoom
  extract_lets +onlyGivenNames x0 x1
  clear_value x0
  have h1 : ∀ {y0}, Stands s0 y0 → Stands s0 (x1 y0) := by
    intro x2 h3
    unfold x1
    exact stands_park ‹_›
  clear_value x1
  extract_lets +onlyGivenNames x4
  have h4 : ∀ {y0}, ∀ {y1}, Stands s0 y1 → Stands s0 (x4 y0 y1) := by
    intro x5 x6 h7
    unfold x4
    exact stands_setRequest ‹_›
  clear_value x4
  extract_lets +onlyGivenNames x8
  have h8 : ∀ {y0}, Stands s0 y0 → Stands s0 (x8 y0) := by
    intro x9 h10
    unfold x8
    refine Stands.frame ?_ (frame_bump (by decide) (.refl _ _))
    split
    · exact stands_serveOrRead ‹_›
    · exact h1 ‹_›
  clear_value x8
  split
  · exact stands_serveOrRead ‹_›
  · split
    · exact h1 ‹_›
    · refine h8 ?_
      split
      · exact stands_startRecall (h4 ‹_›)
      · assumption
  · split
    · exact h1 ‹_›
    · exact h8 (stands_recallRegion (h4 ‹_›))
  · exact Stands.frame (h1 ‹_›) (frame_bump (by decide) (.refl _ _))

theorem stands_present {q : Request} {fromPark : Bool} (h : Stands s0 s) : Stands s0 (present q fromPark s) := by
  unfold present
  extract_lets +onlyGivenNames x0 x1
  clear_value x0 x1
  split
  · exact stands_park ‹_›
  · extract_lets +onlyGivenNames u
    have hu : Stands s0 u := by
      unfold u
      split
      · split
        · exact Stands.frame ‹_› (frame_bump (by decide) (frame_putOrDrop (by decide) (.refl _ _)))
        · assumption
      · assumption
    clear_value u
    extract_lets +onlyGivenNames v
    have hv : Stands s0 v := Stands.frame ‹_› (frame_touchEntry (by decide) (.refl _ _))
    clear_value v
    extract_lets +onlyGivenNames x4 x5 x6
    clear_value x4 x5
    have h6 : ∀ {y0}, Stands s0 y0 → Stands s0 (x6 y0) := by
      intro x7 h8
      unfold x6
      split
      · extract_lets +onlyGivenNames x9 w
        clear_value x9
        have hw : Stands s0 w := stands_setRequest ‹_›
        clear_value w
        extract_lets +onlyGivenNames y
        have hy : Stands s0 y := stands_startRecall ‹_›
        clear_value y
        split
        · assumption
        · split
          · exact stands_serveOrRead ‹_›
          · assumption
      · split
        · exact stands_serveInRoom ‹_›
        · exact stands_serveOrRead ‹_›
    clear_value x6
    split
    · split
      · exact stands_park ‹_›
      · extract_lets +onlyGivenNames z
        have hz : Stands s0 z := Stands.frame (stands_recallRegion ‹_›) (frame_bump (by decide) (.refl _ _))
        clear_value z
        split
        · exact stands_park ‹_›
        · exact h6 ‹_›
    · exact h6 ‹_›

theorem stands_orderRequest {q : Request} {fromPark : Bool} (h : Stands s0 s) : Stands s0 (orderRequest q fromPark s) := by
  unfold orderRequest
  split
  · assumption
  · split
    · exact Stands.frame ‹_› (frame_holdAtCrossbar (by decide) (.refl _ _))
    · extract_lets +onlyGivenNames u
      have hu : Stands s0 u := Stands.frame ‹_› (frame_leaveCrossbar (by decide) (.refl _ _))
      clear_value u
      split
      · extract_lets +onlyGivenNames x1 x2
        clear_value x1
        have h2 : ∀ {y0}, Stands s0 y0 → Stands s0 (x2 y0) := by
          intro x3 h4
          unfold x2
          exact Stands.frame ‹_› (frame_onDeep (by decide) (.refl _ _))
        clear_value x2
        split
        · refine Stands.frame ?_ (frame_settleAged (by decide) (.refl _ _))
          split
          · exact stands_orderEviction (h2 (stands_of_fst ‹_› (stands_deepAccess ‹_›)))
          · exact stands_present (h2 (stands_of_fst ‹_› (stands_deepAccess ‹_›)))
        · exact stands_setRequest (Stands.frame (h2 (stands_of_fst ‹_› (stands_deepAccess ‹_›))) (frame_onDeep (by decide) (.refl _ _)))
        · exact stands_finishStatus (h2 (stands_of_fst ‹_› (stands_deepAccess ‹_›)))
        · split
          · exact stands_finishRead (h2 (stands_of_fst ‹_› (stands_deepAccess ‹_›)))
          · split
            · exact stands_finishAtomic (h2 (stands_of_fst ‹_› (stands_deepAccess ‹_›)))
            · exact stands_finishStatus (h2 (stands_of_fst ‹_› (stands_deepAccess ‹_›)))
      · refine Stands.frame ?_ (frame_settleAged (by decide) (.refl _ _))
        split
        · exact stands_orderEviction ‹_›
        · exact stands_present ‹_›

theorem stands_tagArrived {l : Nat} (h : Stands s0 s) : Stands s0 (tagArrived l s) := by
  unfold tagArrived
  extract_lets +onlyGivenNames x0 x1 u
  clear_value x0 x1
  have hu : Stands s0 u := stands_forAll (fun _ _ h5 => stands_startWriteback h5) ‹_›
  clear_value u
  refine stands_forAll ?_ ?_
  · intro x6 x7 h8
    split
    · exact stands_orderRequest ‹_›
    · assumption
  · assumption

theorem stands_resumeCause {l : Nat} {cause : DramCause} (h : Stands s0 s) : Stands s0 (resumeCause l cause s) := by
  unfold resumeCause
  split
  · split
    · split
      · exact Stands.frame (stands_serve (Stands.frame ‹_› (frame_pantryFill (by decide) (.refl _ _)))) (frame_settleAged (by decide) (.refl _ _))
      · assumption
    · assumption
  · split
    · exact Stands.frame ‹_› (frame_noteReturned (by decide) (.refl _ _))
    · exact Stands.frame ‹_› (frame_bump (by decide) (.refl _ _))
  · exact stands_tagArrived (Stands.frame ‹_› (frame_pantryFill (by decide) (.refl _ _)))
  · exact stands_readForWriteback ‹_›
  · exact Stands.frame ‹_› (frame_answerRepair (by decide) (.refl _ _))
  · assumption

theorem stands_endRepair {l : Nat} {good : Bool} (h : Stands s0 s) : Stands s0 (endRepair l good s) := by
  unfold endRepair
  extract_lets +onlyGivenNames x0 x1 u
  clear_value x0 x1
  have hu : Stands s0 u := Stands.frame ‹_› (frame_onInteg (by decide) (.refl _ _))
  clear_value u
  extract_lets +onlyGivenNames v
  have hv : Stands s0 v := by
    unfold v
    split
    · exact Stands.frame ‹_› (frame_bump (by decide) (.refl _ _))
    · exact Stands.frame ‹_› (frame_bump (by decide) (frame_poisonLine (by decide) (.refl _ _)))
  clear_value v
  exact stands_forAll (fun _ _ h6 => stands_resumeCause h6) ‹_›

theorem stands_writeThrough {by_ : AccBy} {ctx addr : Nat} {bytes : List Byte} (h : Stands s0 s) : Stands s0 (writeThrough by_ ctx addr bytes s).1 := by
  unfold writeThrough
  split
  · assumption
  · extract_lets +onlyGivenNames x0
    clear_value x0
    split
    · exact stands_of_fst ‹_› (stands_readyLine ‹_›)
    · exact stands_of_fst ‹_› (stands_readyLine ‹_›)
    · split
      · exact stands_of_fst ‹_› (stands_readyLine ‹_›)
      · show Stands s0 (writeLine ..)
        exact Stands.frame (stands_of_fst ‹_› (stands_readyLine ‹_›)) (frame_writeLine (by decide) (frame_dropEntry (by decide) (.refl _ _)))

theorem stands_readyAll {by_ : AccBy} {ctx : Nat} {a0 : List Nat} (h : Stands s0 s) : Stands s0 (readyAll by_ ctx a0 s).1 := by
  induction a0 generalizing s with
  | nil =>
    rw [readyAll]
    assumption
  | cons b0 a0 ih =>
    rw [readyAll]
    split
    split
    refine stands_mk ?_
    refine stands_of_fst ‹_› ?_
    refine ih ?_
    refine stands_of_fst ‹_› ?_
    split
    · split
      · exact stands_of_fst ‹_› (stands_readyLine ‹_›)
      · exact stands_of_fst ‹_› (stands_readyLine ‹_›)
    · assumption

theorem stands_readForRecipe {who : AccBy} {pa tier : Nat} {go : State → State × Admit} (hgo : ∀ t, Stands s0 t → Stands s0 (go t).1) (h : Stands s0 s) :
    Stands s0 (readForRecipe who pa tier go s).1 := by
  unfold readForRecipe
  split
  · exact hgo _ (stands_of_fst ‹_› (stands_readyLine ‹_›))
  · exact stands_of_fst ‹_› (stands_readyLine ‹_›)
  · exact stands_of_fst ‹_› (stands_readyLine ‹_›)

theorem stands_readParams {who : AccBy} {die ctx : Nat} {d : Desc} (h : Stands s0 s) : Stands s0 (readParams who die ctx d s).1 := by
  unfold readParams
  split
  · assumption
  · split
    · refine stands_readForRecipe ?_ ?_
      · intro x0 h1
        assumption
      · exact stands_of_fst ‹_› (stands_xlate ‹_›)
    · exact stands_of_fst ‹_› (stands_xlate ‹_›)
    · exact stands_of_fst ‹_› (stands_xlate ‹_›)

theorem stands_recipeChecks {die slot ctx : Nat} {who : AccBy} {d : Desc} (h : Stands s0 s) : Stands s0 (recipeChecks die slot ctx who d s).1 := by
  unfold recipeChecks
  extract_lets +onlyGivenNames early
  clear_value early
  refine stands_ite h ?_
  extract_lets +onlyGivenNames granted
  clear_value granted
  refine stands_ite h ?_
  split
  next u params _ hread =>
    have hu : Stands s0 u := stands_of_fst hread (stands_readParams h)
    extract_lets +onlyGivenNames total
    clear_value total
    refine stands_ite hu (stands_ite hu ?_)
    split
    next hx => exact stands_of_fst hx (stands_xlate hu)
    next hx => exact stands_of_fst hx (stands_xlate hu)
    next v pa tenant keyId tier hx =>
      have hv : Stands s0 v := stands_of_fst hx (stands_xlate hu)
      generalize hkv : (if d.flag 3 = true then _ else _) = kv
      have hw : Stands s0 kv.1 := by
        rw [← hkv]
        exact stands_ite (stands_ite hv (stands_xlate hv)) hv
      obtain ⟨w, rt⟩ := kv
      dsimp only at hw ⊢
      split
      · exact hw
      · exact hw
      · refine stands_ite hw (stands_ite hw (stands_readForRecipe (fun t ht => ?_) hw))
        split
        · exact ht
        · exact ht
  · exact stands_of_fst ‹_› (stands_readParams h)

theorem stands_arriveStage {port slot : Nat} {p : Packet} (h : Stands s0 s) : Stands s0 (arriveStage port slot p s).1 := by
  unfold arriveStage
  extract_lets +onlyGivenNames x0 x1 x2 x3
  clear_value x0 x1 x2
  have h3 : ∀ {y0}, ∀ {y1}, ∀ {y2}, Stands s0 y2 → Stands s0 (x3 y0 y1 y2).1 := by
    intro x4 x5 x6 h7
    unfold x3
    split
    exact Stands.frame (stands_of_fst ‹_› (stands_recordFault ‹_›)) (frame_refuseRecipe (by decide) (.refl _ _))
  clear_value x3
  split
  · exact stands_of_fst ‹_› (stands_xlate ‹_›)
  · exact h3 (stands_of_fst ‹_› (stands_xlate ‹_›))
  · split
    · exact stands_of_fst ‹_› (stands_xlate (stands_of_fst ‹_› (stands_xlate ‹_›)))
    · exact h3 (stands_of_fst ‹_› (stands_xlate (stands_of_fst ‹_› (stands_xlate ‹_›))))
    · extract_lets +onlyGivenNames x8
      clear_value x8
      split
      split
      · exact stands_of_fst ‹_› (stands_readyAll (stands_of_fst ‹_› (stands_xlate (stands_of_fst ‹_› (stands_xlate ‹_›)))))
      · extract_lets +onlyGivenNames x9 x10
        clear_value x9 x10
        split
        · exact stands_of_fst ‹_› (stands_readyAll (stands_of_fst ‹_› (stands_xlate (stands_of_fst ‹_› (stands_xlate ‹_›)))))
        · exact Stands.frame (stands_of_fst ‹_› (stands_readyAll (stands_of_fst ‹_› (stands_xlate (stands_of_fst ‹_› (stands_xlate ‹_›))))))
            (frame_refuseRecipe (by decide) (.refl _ _))
        · extract_lets +onlyGivenNames x11 x12 u
          clear_value x11 x12
          have hu : Stands s0 u := Stands.frame (stands_of_fst ‹_› (stands_readyAll (stands_of_fst ‹_› (stands_xlate (stands_of_fst ‹_›
              (stands_xlate ‹_›)))))) (frame_mergeLine (by decide) (.refl _ _))
          clear_value u
          extract_lets +onlyGivenNames v
          have hv : Stands s0 v := by
            unfold v
            exact stands_writeThrough ‹_›
          clear_value v
          extract_lets +onlyGivenNames x15 x16 w
          clear_value x15 x16
          have hw : Stands s0 w := Stands.frame ‹_› (frame_acceptRecipe (by decide) (.refl _ _))
          clear_value w
          split
          · extract_lets +onlyGivenNames y
            have hy : Stands s0 y := Stands.frame ‹_› (frame_onRecp (by decide) (.refl _ _))
            clear_value y
            exact Stands.frame ‹_› (frame_askSugar (by decide) (.refl _ _))
          · assumption

theorem stands_admitRecipe {port slot : Nat} {p : Packet} (h : Stands s0 s) : Stands s0 (admitRecipe port slot p s).1 := by
  unfold admitRecipe
  extract_lets +onlyGivenNames x0 x1
  clear_value x0 x1
  split
  · exact Stands.frame (stands_of_fst ‹_› (stands_recipeChecks ‹_›)) (frame_refuseRecipe (by decide) (.refl _ _))
  · split
    exact Stands.frame (stands_of_fst ‹_› (stands_recordFault (stands_of_fst ‹_› (stands_recipeChecks ‹_›)))) (frame_refuseRecipe (by decide) (.refl _ _))
  · exact stands_of_fst ‹_› (stands_recipeChecks ‹_›)
  · exact stands_of_fst ‹_› (stands_recipeChecks ‹_›)
  · split
    · exact stands_arriveStage (stands_of_fst ‹_› (stands_recipeChecks ‹_›))
    · exact Stands.frame (stands_of_fst ‹_› (stands_recipeChecks ‹_›)) (frame_acceptRecipe (by decide) (.refl _ _))

theorem stands_retryRecipe {q : Request} (h : Stands s0 s) : Stands s0 (retryRecipe q s) := by
  unfold retryRecipe
  extract_lets +onlyGivenNames x0 u
  clear_value x0
  have hu : Stands s0 u := stands_onTxn (fun _ => rfl) ‹_›
  clear_value u
  split
  · exact stands_of_fst ‹_› (stands_admitRecipe ‹_›)
  · exact stands_onTxn (fun _ => rfl) (stands_of_fst ‹_› (stands_admitRecipe ‹_›))

theorem stands_retryRecipes (h : Stands s0 s) : Stands s0 (retryRecipes s) := by
  unfold retryRecipes
  exact stands_forAll (fun _ _ h2 => stands_retryRecipe h2) ‹_›

theorem stands_visitRange {w : RangeWait} (h : Stands s0 s) : Stands s0 (visitRange w s).1 := by
  unfold visitRange
  refine stands_foldlP ?_ ?_
  · intro x0 x1 h2
    split
    split
    · exact (stands_of_mk ‹_›)
    · split
      · exact (stands_of_mk ‹_›)
      · extract_lets +onlyGivenNames u
        have hu : Stands s0 u := stands_recallAll ((stands_of_mk ‹_›))
        clear_value u
        assumption
  · assumption

theorem stands_tryRelease (h : Stands s0 s) : Stands s0 (tryRelease s) := by
  unfold tryRelease
  split
  · assumption
  · extract_lets +onlyGivenNames u
    have hu : Stands s0 u := Stands.frame ‹_› (frame_onTwin [.mirror, .twin] (by decide) (.inl rfl) (.inl rfl) (.refl _ _))
    clear_value u
    extract_lets +onlyGivenNames v
    have hv : Stands s0 v := stands_forAll (fun _ _ h4 => stands_forAll (fun _ _ h7 => stands_answerEarly h7) h4) (Stands.frame ‹_›
        (frame_onTraffic [.leaves, .traffic] (by decide) (.inl rfl) (.inl rfl) (.refl _ _)))
    clear_value v
    extract_lets +onlyGivenNames x8
    clear_value x8
    exact stands_forAll (fun _ _ h11 => Stands.frame h11 (frame_sendOnPort (by decide) (.refl _ _))) ‹_›

theorem stands_settleWaits (h : Stands s0 s) : Stands s0 (settleWaits s) := by
  unfold settleWaits
  extract_lets +onlyGivenNames u
  have hu : Stands s0 u := stands_retryRecipes (stands_runQueue (stands_runOwn (stands_tryRelease ‹_›)))
  clear_value u
  extract_lets +onlyGivenNames v
  have hv : Stands s0 v := by
    unfold v
    refine stands_forAll ?_ ?_
    · intro x2 x3 h4
      extract_lets +onlyGivenNames x5
      clear_value x5
      split
      · assumption
      · exact Stands.frame ‹_› (frame_reply (by decide) (frame_onPart (by decide) (.refl _ _)))
    · assumption
  clear_value v
  refine stands_forAll ?_ ?_
  · intro x6 x7 h8
    split
    split
    · exact Stands.frame (stands_of_fst ‹_› (stands_visitRange ‹_›)) (frame_reply (by decide) (frame_onPart (by decide) (.refl _ _)))
    · exact Stands.frame (stands_of_fst ‹_› (stands_visitRange ‹_›)) (frame_onPart (by decide) (.refl _ _))
  · assumption

end Sys2Proof.Machine
end

section
/-!
PROOF. Repaired data that comes from the peer (R164, R477).
-/
namespace Sys2Proof.Machine

/-- The data of line 0, as a peer of EID 9 answers them to the request with tag 0. -/
def repairedLine : Packet := mkPacket 3 0xA8 (State.reset.obj .nodeEid) 9 0 0 0 false (List.replicate 144 0)

/-- A repair request to the peer. -/
def repairOf (line : Nat) : Packet := mkPacket 1 0xA7 9 (State.reset.obj .nodeEid) 0 0 0 false (leBytes 16 line)

/-- The package in a twin pair with EID 9, its first TW port up: the repair of line 0 stands under tag 0, and that of line 1 waits for a tag. -/
def repairWaiting : State :=
  { State.reset with
    pkg := { State.reset.pkg with poresetLow := false, phase := .run }
    link := { State.reset.link with ports := [(36, { Port.reset with st := .active })] }
    twin := { State.reset.twin with st := .standby, peerEid := 9 }
    txn := { State.reset.txn with
      pool := [{ dest := 9, tag := 0, port := 36, issuer := .repair, pkt := repairOf 0, key := 0 }]
      poolWait := [{ issuer := .repair, key := 1, port := some 36, pkt := repairOf 1 }] } }

theorem repairWaiting_hears : repairWaiting.hears 36 repairedLine = true := by decide +kernel

/-- Whether an outcome is a state in which a repair request stands under tag 0 toward EID 9. -/
def asksAgain : Host.Outcome State Fault Refusal → Bool
  | .next t => t.repairsAsked.any (fun q => q.dest == 9 && q.tag == 0)
  | _ => false

/-- The freed tag is taken at once by the request that waited for one (R164). -/
theorem rpData_repairWaiting : asksAgain (exec (.rpData 36 repairedLine) repairWaiting) = true := by decide +kernel

/-- A repair request that stands under a tag is found under it. -/
theorem poolReq_of_repairsAsked {s : State} {dest tag : Nat} (h : s.repairsAsked.any (fun q => q.dest == dest && q.tag == tag) = true) :
    s.poolReq dest tag ≠ none := by
  obtain ⟨q, hq, hmatch⟩ := List.any_eq_true.1 h
  exact fun hnone => absurd hmatch (List.find?_eq_none.1 hnone q (List.mem_filter.1 hq).1)

/-- A repair request that stands after a repair has ended and the waits are settled stood before. -/
theorem repairs_stand {w t : State} {line dest tag : Nat} (ht : t = settleWaits (endRepair line true w))
    (h : t.repairsAsked.any (fun q => q.dest == dest && q.tag == tag) = true) : w.poolReq dest tag ≠ none := by
  have hstands : t.repairsAsked = w.repairsAsked := by
    rw [ht]
    exact stands_settleWaits (stands_endRepair rfl)
  exact poolReq_of_repairsAsked (hstands ▸ h)

/-- Refutes O38: the clause of RP_DATA leaves no request under the tag of the repair that ends; where a repair request waits for a tag
(`repairWaiting`), the freed tag is given to it at once (R164), and what goes on then, which asks for no repair, does not take it back. -/
theorem not_twinPackets : ¬ Obligations.TwinPackets := by
  unfold Obligations.TwinPackets
  intro h
  obtain ⟨-, -, -, -, -, -, -, -, -, hdata, -⟩ := h repairWaiting 36 repairedLine repairWaiting_hears
  obtain ⟨t, hexec, w, ht, hfree, -⟩ := hdata _ rfl rfl rfl rfl (by decide +kernel)
    (show Memory.wf repairWaiting.mem.cells = true by decide +kernel)
  have hasked := rpData_repairWaiting
  rw [hexec] at hasked
  exact repairs_stand ht hasked hfree

end Sys2Proof.Machine
end
